-- ==== Sys2Proof/Word.lean ====
section
/-!
DEFINITION. The words and names every other file uses: fixed-width words, unit numbers, the status codes of R12 with
the severity order of R490, the masters that issue queue and address operations and the dictionary access paths.
-/
namespace Sys2Proof

/-- One byte, stored and sent little-endian within a wider value (R7). -/
abbrev Byte := BitVec 8
abbrev Word16 := BitVec 16
abbrev Word32 := BitVec 32
abbrev Word64 := BitVec 64
/-- A 32-byte queue entry or command; byte 0 is the least significant (R7). -/
abbrev Entry := BitVec 256

/-- Clusters 0–15 (R14). -/
abbrev ClusterId := Fin 16
/-- Logical tiles 0–63 of a cluster, after spare substitution (R15). -/
abbrev TileId := Fin 64
/-- Tether links 0–7 (R27). -/
abbrev LinkId := Fin 8
/-- Intake ports: 0–3 the sensor ports, 4–5 the Ethernet ports (R27). -/
abbrev PortId := Fin 6
/-- Ethernet ports 0–1 (R27). -/
abbrev EthId := Fin 2
/-- Hardware queues (R18). -/
abbrev QueueId := Fin 32768
/-- Hitches (R18). -/
abbrev HitchId := Fin 16384
/-- Commons banks 0–15 (R14). -/
abbrev BankId := Fin 16
/-- Fetch engines, one per LPDDR5X package (R145). -/
abbrev PackageId := Fin 4
/-- General timers 0–7. -/
abbrev TimerId := Fin 8
/-- Encoder and trigger channels 0–3 (R27). -/
abbrev EncId := Fin 4
/-- Neuron classes (R18). -/
abbrev ClassId := Fin 256

/-- The 8-bit status codes (R12). A code of 0x10 to 0xFF is reserved and is kept by its value (R13). -/
inductive Status where
  | ok | aborted | closed | stale | full | timeout | eccUncorr | security | badFormat | version | refused
  | wcoll | busy | degraded | late | dropped
  | reserved (above : Fin 240)
  deriving DecidableEq, Repr

/-- The 8-bit code of a status (R12, R13). -/
def Status.code : Status → Nat
  | .ok => 0x00 | .aborted => 0x01 | .closed => 0x02 | .stale => 0x03 | .full => 0x04 | .timeout => 0x05
  | .eccUncorr => 0x06 | .security => 0x07 | .badFormat => 0x08 | .version => 0x09 | .refused => 0x0A
  | .wcoll => 0x0B | .busy => 0x0C | .degraded => 0x0D | .late => 0x0E | .dropped => 0x0F
  | .reserved k => 0x10 + k.val

/-- Severity rank, 1 the most severe; a reserved code from another device ranks above rank 1 (R490). -/
def Status.rank : Status → Nat
  | .reserved _ => 0
  | .security => 1 | .version => 2 | .badFormat => 3 | .timeout => 4 | .aborted => 5 | .closed => 6
  | .stale => 7 | .full => 8 | .refused => 9 | .wcoll => 10 | .busy => 11 | .eccUncorr => 12
  | .dropped => 13 | .late => 14 | .degraded => 15 | .ok => 16

/-- The more severe of two statuses (R490). -/
def Status.worse (a b : Status) : Status := if b.rank < a.rank then b else a

/-- The most severe status of a list, `ok` for an empty one (R490). -/
def Status.worst (l : List Status) : Status := l.foldl Status.worse .ok

/-- The engines of the command lists by number: 0–5 Fabric, Dense, Mover, Intake, Census, Crypto and 6–9 Fetch 0–3
(R206). -/
inductive EngineId where
  | fabric | dense | mover | intake | census | crypto
  | fetch (k : PackageId)
  deriving DecidableEq, Repr

/-- The masters that operate queues and address memory: a cluster sequencer, the host over an HTP session, the
Saddle, the Bridle, an engine acting for a command of a queue (R278), or a plasticity engine. -/
inductive Master where
  | sequencer (c : ClusterId)
  | host
  | saddle
  | bridle
  | engine (e : EngineId) (q : QueueId)
  | plasticity (c : ClusterId)
  deriving DecidableEq, Repr

/-- The path by which a dictionary access reaches the device (R354, R371): an HTP session over USB or an Ethernet
port, an SDO over CAN FD, CTRL flits from a Tether neighbour, or a cluster sequencer or the Saddle itself. -/
inductive Path where
  | usb
  | ethernet (e : EthId)
  | can
  | tether
  | sys
  deriving DecidableEq, Repr

/-- Little-endian value of a byte list (R7). -/
def leNat : List Byte → Nat
  | [] => 0
  | b :: l => b.toNat + 256 * leNat l

/-- The `n` low bytes of a number, least significant first (R7). -/
def leBytes : Nat → Nat → List Byte
  | 0, _ => []
  | n + 1, v => BitVec.ofNat 8 v :: leBytes n (v / 256)

/-- The field of `width` bits at bit `lo` of a number (R7). -/
def bitField (v lo width : Nat) : Nat := v / 2 ^ lo % 2 ^ width

/-- Bit `i` of a number (R7). -/
def natBit (v i : Nat) : Bool := v.testBit i

/-- A number with the field of `width` bits at bit `lo` replaced. -/
def setBitField (v lo width x : Nat) : Nat :=
  v - bitField v lo width * 2 ^ lo + x % 2 ^ width * 2 ^ lo

end Sys2Proof
end

