-- ==== Sys2Proof/Syntax.lean ====
section
/-!
DEFINITION. The commands of the block, one constructor per row of the opcode table, with the operands the spec gives
each: which unit it concerns, what a master presents, and, for an event of a port or of the die, what the outside or
the physical layer delivers with it (a received packet, the verdict of a check code, the answer of another device).
-/
namespace Sys2Proof

/-- What the error code of a memory found on an access (R279, R284, R292). -/
inductive Ecc where
  | clean | corrected | uncorrectable
  deriving DecidableEq, Repr

/-- The ports of a Commons bank in port priority (R276). -/
inductive BankPort where
  | intake | dense | crypto | bulk | journal | census | queueLogic | mgmt
  | seq (c : ClusterId)
  deriving DecidableEq, Repr

/-- An access presented to a Commons bank: its port, address, length and, for a write, its data (R275). -/
structure BankAccess where
  port : BankPort
  addr : Nat
  len : Nat
  write : Option (List Byte)
  deriving DecidableEq, Repr

/-- A line that a source of the bulk network has waiting: KIND, the cluster it serves, its destination endpoint as 7 · switch
+ port, and its bytes (R159, R160). -/
structure BulkOffer where
  kind : Nat
  clu : ClusterId
  dest : Nat
  data : List Byte
  deriving DecidableEq, Repr

/-- What the error code of queue-state SRAM found in a control block: nothing, an uncorrectable error in words 2–4, or
one in words 0–1 (R246). -/
inductive QueueSoft where
  | clean | pointers | binding
  deriving DecidableEq, Repr

/-- A read of a number of bytes, or a write of bytes. -/
inductive Access where
  | read (len : Nat)
  | write (data : List Byte)
  deriving DecidableEq, Repr

/-- What the error code found uncorrectable while a tile expanded an event: the row's directory entry, the parked event,
8-B words of the row by offset / 8, neuron words and accumulator entries by neuron (R52, R79, R458). -/
structure Flaws where
  directory : Bool := false
  parked : Bool := false
  words : List Nat := []
  neurons : List Nat := []
  accs : List Nat := []
  deriving DecidableEq, Repr

/-- An output of the event network: output `out` of a cluster's router (0–15 the quads, 22 the gateway, 23–26 the
adjacency channels and 27–30 the plane links N, E, S, W), or the gateway's output for a Tether link (R120, R122). -/
inductive NetPoint where
  | router (c : ClusterId) (out : Fin 31)
  | gateway (l : LinkId)
  deriving DecidableEq, Repr

/-- What an error code found at the event that an input presents: a header copy corrected by the vote, and the verdict on
the payload (R119). -/
structure ArrivalFlaw where
  input : Nat
  header : Bool
  payload : Ecc
  deriving DecidableEq, Repr

/-- Who speaks HTP: the USB host, or a source address and port at an Ethernet port (R362, R366). -/
inductive Peer where
  | usb
  | ethernet (e : EthId) (addr port : Nat)
  deriving DecidableEq, Repr

/-- What of the master's parameters governs a step on another device: the gait, P, the floor, the overrun policy, the shed
mask, CATCHUP_PCT and the due time fixed at the release (R107, R115). -/
structure ReleaseTerms where
  gait : Nat
  len : Nat
  floor : Nat
  policy : Nat
  shed : Nat
  catchup : Nat
  due : Option Nat
  deriving DecidableEq, Repr

/-- What the error code found uncorrectable while a row was swept: the row's PLX, weight words by number, post records by
neuron, watch entries by slot (R200). -/
structure SweepFlaws where
  plx : Bool := false
  words : List Nat := []
  posts : List Nat := []
  watches : List Nat := []
  deriving DecidableEq, Repr

/-- The outcome of verifying a block written to the Stable: it holds, it holds after one retry, or the retry fails too
(R197). -/
inductive StoreVerify where
  | ok | retried | failed
  deriving DecidableEq, Repr

/-- How a device comes to perform CHECKPOINT, RESTORE or LOAD_SEGMENT (R210): its own command, with the most severe status of
the other devices; or the entry of device 0's command, sent to it. -/
inductive Performer where
  | own (others : Status)
  | told (cmd : BitVec 256)
  deriving DecidableEq, Repr

/-- What user code of a cluster sequencer does with its control registers (R229, R230): it reads CSR 0x800 + k, writes one of
them at an instruction address, or waits (WFI). -/
inductive SeqOp where
  | read (k : Fin 4)
  | write (mepc : BitVec 32)
  | wfi
  deriving DecidableEq, Repr

/-- What may raise an exception in user mode, with the address of the instruction (R229, R231): a cause as the core gives it; a
load or a store of an address. -/
inductive SeqTrap where
  | cause (mcause mepc : BitVec 32)
  | load (addr : Nat) (mepc : BitVec 32)
  | store (addr : Nat) (mepc : BitVec 32)
  deriving DecidableEq, Repr

/-- A 66-bit block of a lane as it is sent or received: its sync header and its 64 bits (R327). -/
structure Block where
  sync : BitVec 2
  bits : BitVec 64
  deriving DecidableEq, Repr

/-- How a request fares on the control network (R458): it arrives after some retries of hops, or is lost on a hop after four. -/
inductive Trip where
  | arrives (retries : Nat)
  | lost (retries : Nat)
  deriving DecidableEq, Repr

/-- What the world answers during a dictionary write: the flash's verify of the commit of a persisted object (R357), and whether
every other device reads ARMED when ROUTE_SWITCH is written (R136). -/
structure WriteFacts where
  store : StoreVerify
  others : Bool
  deriving DecidableEq, Repr

/-- Wake sources (R404): Tether activity on a link, USB resume or VBUS arrival, a CAN frame
(with what the world answers to a write in it), activity at an Intake port, an
encoder edge, a timer, a feed restored. -/
inductive WakeSource where
  | tether (l : LinkId)
  | usb
  | can (id : BitVec 11) (data : List Byte) (f : WriteFacts)
  | intake (p : PortId)
  | encoder
  | timer
  | feed
  deriving DecidableEq, Repr

/-- An HTP request as it arrives: who speaks, and the bytes of the transfer, a frame of R362. -/
structure HtpFrame where
  peer : Peer
  bytes : List Byte
  deriving DecidableEq, Repr

/-- A control request on EP0: a standard request, or one of a class or vendor (R361). -/
inductive Ep0Request where
  | setConfiguration (v : BitVec 8)
  | remoteWakeup (on : Bool)
  | identify
  | classOrVendor
  deriving DecidableEq, Repr

/-- What a training of LPDDR5X finds: the die temperature, whether the pattern check of the fast path and the full training pass,
how long it took, and the flash's verify where the persisted dictionary is written (R295, R357). -/
structure TrainReport where
  temp : BitVec 16
  pattern : Bool
  trained : Bool
  ms : BitVec 16
  store : StoreVerify
  deriving DecidableEq, Repr

/-- What stage 3 finds (R410, R414): a shared memory and its row that no redundant row repairs, soft repairs, the fewest
spare rows left, how LPDDR5X trains, whether the TRNG works, and the tamper sources (R285, R295, R429, R440). -/
structure MemoryReport where
  bad : Option (Fin 8 × BitVec 32)
  repairs : Nat
  spare : BitVec 8
  train : TrainReport
  trng : Bool
  tamper : BitVec 5
  deriving DecidableEq, Repr

/-- How a stage of bring-up ends (R410, R411): the rail that failed, with the levels of PIN_IN; which banks verify, with the
outcome of the commit; whether clocks and networks pass, with the error of the reference in 0.1 ppm; the memories; the links'
attempt over; tiles, and clusters by their router or far-row cache, that fail, with soft repairs and spare rows. -/
inductive StageReport where
  | power (bad : Option (Fin 8)) (pins : BitVec 16)
  | manage (bankA bankB : Bool) (store : StoreVerify)
  | clocks (ok : Bool) (ppm : BitVec 16)
  | memory (m : MemoryReport)
  | links
  | clusters (tiles : List (ClusterId × TileId)) (whole : List ClusterId) (repairs : Nat) (spare : BitVec 8)
  deriving DecidableEq, Repr

/-- What a re-plan reads (R417, R420): the worst path slack in ps, the worst retention voltage in mV, the worst projected
retention in 0.1 year, the worst eye of each link in mV, the hottest die sensor, the day, and the outcome of the commit. -/
structure PlanReport where
  slack : BitVec 16
  vmin : BitVec 16
  years10 : BitVec 16
  eyes : List (BitVec 8)
  temp : BitVec 16
  day : BitVec 32
  store : StoreVerify
  deriving DecidableEq, Repr

/-- How an update request reaches a device (R447, R448): over HTP, or from a neighbour in its chain over CTRL. -/
inductive UpdSource where
  | htp (x : HtpFrame)
  | chain (dev : Fin 64) (payload : List Byte)
  deriving DecidableEq, Repr

/-- What the new Saddle does with the handover record (R450): it confirms, with the outcome of a commit it may make; it does not
support the record's version; or it is silent. -/
inductive Takeover where
  | confirms (store : StoreVerify)
  | unsupported
  | silent
  deriving DecidableEq, Repr



/-- The commands: one constructor per row of the opcode table: in its order those with operands, then those without
(compiled code gives the tags of values with operands the numbers below 244). -/
inductive Instr where
  /-- NOP (R209). The queue front end executes a no-operation command and completes it. -/
  | nop (q : QueueId)
  /-- HITCH_SIGNAL (R262). Adds VALUE, read as I32, to a Hitch COUNT at its home, saturating at 0 and 0xFFFF_FFFF. -/
  | hitchSignal (q : QueueId)
  /-- HITCH_WAIT (R262). Stalls the queue head, registering a waiter, until the entry node's copy of COUNT is at least VALUE.
  -/
  | hitchWait (q : QueueId)
  /-- HITCH_SET (R262). Writes COUNT at the home and cancels any armed barrier, whose waiters complete with REFUSED. -/
  | hitchSet (q : QueueId)
  /-- HITCH_BARRIER (R265). Increments COUNT, arms or checks the barrier, and stalls the head until the barrier releases it.
  -/
  | hitchBarrier (q : QueueId)
  /-- HITCH_DUMP (R269). Writes the header, all Hitch entries and the waiter records to Commons, or only the header with FULL
  when LEN is short. -/
  | hitchDump (q : QueueId)
  /-- STEP (R211). Releases one step under Walk, or K steps or steps without limit under Trot and Canter, with one record per
  released step. -/
  | step (others : Bool)
  /-- CHECKPOINT (R214). Writes the neuron stores, delay rings, plastic rows and spill records as a checkpoint with a SHA-384
  trailer, MAGIC written last. -/
  | checkpoint (p : Performer)
  /-- RESTORE (R215). Verifies a checkpoint, writes its sections, rebases every stamp and sets every far-row tag ABSENT. -/
  | restore (p : Performer)
  /-- LOAD_SEGMENT (R216). Rewrites every section of a segment from the image copy and sets every far-row tag ABSENT. -/
  | loadSegment (p : Performer)
  /-- MOVE (R220). Copies LEN bytes from SRC to DST over the MOVER slots of cluster SLOTCLU. -/
  | move (bad : List Nat)
  /-- COMMAND_START (R208). An engine takes the command at the head of one of its ready queues, chosen round-robin, after the
  command checks. -/
  | commandStart (e : EngineId) (x y : QueueSoft)
  /-- HELD_RECORD_WRITE (R207). A completion record held for a FULL completion queue is written once room appears. -/
  | heldRecordWrite (e : EngineId)
  /-- PUSH (R244). Checks and writes one entry into a queue ring and advances both pointer copies. -/
  | push (m : Master) (q : QueueId) (e : Entry) (x : QueueSoft)
  /-- CONSUME (R243). Advances a queue read pointer by n entries. -/
  | consume (m : Master) (q : QueueId) (n : BitVec 32) (x : QueueSoft)
  /-- SEAL (R256). Removes the oldest n entries of a combining queue from the combining table. -/
  | cqSeal (m : Master) (q : QueueId) (n : BitVec 32) (x : QueueSoft)
  /-- POST (R255). Adds a contribution into the open entry of a key, or opens a new entry for the key. -/
  | post (m : Master) (q : QueueId) (w : BitVec 64) (x : QueueSoft)
  /-- Q_DRAIN (R253). Snapshots one command queue and disables it once the snapshot has executed. -/
  | qDrain (m : Master) (q : QueueId) (x : QueueSoft)
  /-- Q_ABORT (R253). Aborts the snapshot of one command queue and disables it. -/
  | qAbort (m : Master) (q : QueueId) (x : QueueSoft)
  /-- Q_ENABLE (R253). Re-enables a draining or disabled command queue. -/
  | qEnable (m : Master) (q : QueueId) (x : QueueSoft)
  /-- Q_RESET (R251). Discards a queue's entries by kind, advances GEN and re-arms the timer. -/
  | qReset (m : Master) (q : QueueId) (x : QueueSoft)
  /-- Q_CLOSE (R251). Resets a queue and sets it CLOSED. -/
  | qClose (m : Master) (q : QueueId) (x : QueueSoft)
  /-- Q_OPEN (R251). Reopens a CLOSED queue and advances GEN. -/
  | qOpen (m : Master) (q : QueueId) (x : QueueSoft)
  /-- Q_CLEAR (R243). Clears the OVR, TMO and RST flags of a queue. -/
  | qClear (m : Master) (q : QueueId) (v : BitVec 32) (x : QueueSoft)
  /-- QPOLICY_WRITE (R258). Writes word 1 of the selected control block and re-arms its stale-tail timer. -/
  | qpolicyWrite (path : Path) (v : BitVec 64)
  /-- STALE_TAIL (R247). On expiry of TMO_US with a non-zero count, raises the stale tail once per stall. -/
  | staleTail (q : QueueId)
  /-- ENG_DRAIN (R227). Snapshots an engine's queues and executes the snapshot before entering DISABLED. -/
  | engDrain (path : Path) (e : EngineId)
  /-- ENG_ABORT (R227). Aborts the running command at its safe point and every unstarted command of the snapshot, then enters
  DISABLED. -/
  | engAbort (path : Path) (e : EngineId)
  /-- ENG_ENABLE (R226). Returns a draining or disabled engine to ENABLED. -/
  | engEnable (path : Path) (e : EngineId)
  /-- SET_ALIAS_WRITE (R280). ORs a mask into a control word as one atomic read-modify-write. -/
  | setAliasWrite (m : Master) (addr : Nat) (data : List Byte)
  /-- CLEAR_ALIAS_WRITE (R280). ANDs the complement of a mask into a control word atomically. -/
  | clearAliasWrite (m : Master) (addr : Nat) (data : List Byte)
  /-- WINDOW_DESCRIPTOR_WRITE (R282). Validates and sets a circular window descriptor and resets its fill and statistics. -/
  | windowDescriptorWrite (path : Path) (b : BankId) (w : Fin 32) (v : BitVec 64)
  /-- WINDOW_CONSUME (R283). Advances an APPEND window's RD by n bytes. -/
  | windowConsume (m : Master) (b : BankId) (w : Fin 32) (n : BitVec 32)
  /-- WINDOW_CLEAR (R283). Clears WFULL of an APPEND window. -/
  | windowClear (m : Master) (b : BankId) (w : Fin 32) (v : BitVec 32)
  /-- ADDRESS_ACCESS (R273). A master's read or write of a device address, answered according to its region, width and
  alignment. -/
  | addressAccess (m : Master) (addr : Nat) (acc : Access) (ecc : Ecc) (trip : Trip)
  /-- COMMONS_BANK_GRANT (R275). Each cycle a Commons bank grants up to two accesses by ownership and port priority and
  stalls the rest. -/
  | commonsBankGrant (b : Fin 24) (accs : List BankAccess)
  /-- NEURON_WORD_WRITE (R31). A window write of a neuron word is applied except DEAD, or refused during a fabric operation
  or for an illegal class change. -/
  | neuronWordWrite (m : Master) (c : ClusterId) (t : TileId) (i : Fin 16384) (v : BitVec 64)
  /-- ROW_TABLE_WRITE (R76). A write to axon, destination, directory or row regions is applied between fabric operations and
  refused during them. -/
  | rowTableWrite (m : Master) (addr : Nat) (data : List Byte)
  /-- DICT_OBJECT_WRITE (R355). Validates and applies a write to a dictionary object that has no row of its own. -/
  | dictObjectWrite (path : Path) (index : BitVec 16) (sub : BitVec 8) (data : List Byte) (f : WriteFacts)
  /-- RC_READ (R11). Reads an RC object and clears it in one atomic operation. -/
  | rcRead (path : Path) (index : BitVec 16) (sub : BitVec 8)
  /-- CLASS_COMMIT (R34). Validates a staged class entry and makes it active for steps that begin delivery afterwards. -/
  | classCommit (path : Path) (k : ClassId)
  /-- ROUTE_ARM (R136). Validates the shadow routing tables and enters ARMED. -/
  | routeArm (path : Path)
  /-- ROUTE_DISARM (R136). Returns ARMED routing tables to IDLE. -/
  | routeDisarm (path : Path)
  /-- ROUTE_SWITCH (R136). On device 0, checks that every device is ARMED and puts every device in SWITCHING. -/
  | routeSwitch (path : Path) (others : Bool)
  /-- SCHED_ARM (R164). Validates the shadow slot tables and enters ARMED. -/
  | schedArm (path : Path)
  /-- SCHED_DISARM (R164). Returns ARMED slot tables to IDLE. -/
  | schedDisarm (path : Path)
  /-- SCHED_SWITCH (R164). Moves ARMED slot tables to SWITCHING for the next release. -/
  | schedSwitch (path : Path)
  /-- CONSOL_NOW (R193). Requests a consolidation. -/
  | consolNow (path : Path) (v : BitVec 8)
  /-- RESTORE_DEFAULTS (R358). Resets every RWP object to its default and commits the defaults. -/
  | restoreDefaults (path : Path) (v : BitVec 32) (store : StoreVerify)
  /-- FLOG_CLEAR (R472). Empties the fault-log ring, leaving the SEQ numbering to run on. -/
  | flogClear (path : Path) (v : BitVec 8)
  /-- DUMP_NOW (R470). Requests a post-mortem dump. -/
  | dumpNow (path : Path) (v : BitVec 8)
  /-- FARRIER_NOW (R419). Makes a Farrier re-plan due. -/
  | farrierNow (path : Path) (v : BitVec 8)
  /-- PWR_REQ_RUN (R401). A request for RUN, which returns OK with no effect in RUN. -/
  | pwrReqRun (path : Path)
  /-- PWR_REQ_IDLE (R401). Checks the refusers and enters IDLE. -/
  | pwrReqIdle (path : Path)
  /-- PWR_REQ_HOLD (R401). Checks the refusers, parks every UP link and enters HOLD. -/
  | pwrReqHold (path : Path)
  /-- PWR_REQ_WATCH (R403). Checks the refusers, parks the harness if requested and enters WATCH. -/
  | pwrReqWatch (path : Path)
  /-- PWR_REQ_OFF (R401). Runs the flush steps of the power-fail sequence without time pressure and turns off. -/
  | pwrReqOff (path : Path)
  /-- RETRAIN_FAST (R352). Starts a fast retraining of a link. -/
  | retrainFast (path : Path) (l : LinkId)
  /-- RETRAIN_FULL (R352). Starts a full retraining of a link. -/
  | retrainFull (path : Path) (l : LinkId)
  /-- RETRAIN_RESTORE_LANES (R346). Returns lanes dropped by degrade to use. -/
  | retrainRestoreLanes (path : Path) (l : LinkId)
  /-- RETRAIN_TAKE_DOWN (R352). Takes a link down. -/
  | retrainTakeDown (path : Path) (l : LinkId)
  /-- RETRAIN_BRING_UP (R350). Brings up a link, including driving TS1 on a PARKED link. -/
  | retrainBringUp (path : Path) (l : LinkId)
  /-- SPUR_SEND (R349). Sends Spur for 100 µs on the wake link and then resumes training. -/
  | spurSend (path : Path) (l : LinkId) (v : BitVec 8)
  /-- ACCT_MODE_WRITE (R407). Selects the accounting mode and clears all 16 accounting counters. -/
  | acctModeWrite (path : Path) (v : BitVec 8)
  /-- EMCY_HISTORY_CLEAR (R360). Writing 0 to sub-index 00 clears the EMCY history. -/
  | emcyHistoryClear (path : Path) (v : BitVec 8)
  /-- REIN_OVERRIDE_WRITE (R321). Forces the Rein asserted or released, or returns it to automatic, at the end of the cycle.
  -/
  | reinOverrideWrite (path : Path) (p : PortId) (v : BitVec 8)
  /-- TIMER_PER_WRITE (R377). Writes a general timer's period to the preload or directly, and shortens the period if it lies
  below CNT. -/
  | timerPerWrite (path : Path) (k : TimerId) (v : BitVec 32)
  /-- TIMER_CMP_WRITE (R377). Writes a general timer's compare to the preload or directly. -/
  | timerCmpWrite (path : Path) (k : TimerId) (v : BitVec 32)
  /-- GCTRL_WRITE (R386). Writes a general timer's control word; EN = 0 clears CNT. -/
  | gctrlWrite (path : Path) (k : TimerId) (v : BitVec 32)
  /-- CAP_READ (R381). Reads CAP, copies CAPPOS into CAPPOS_RD and clears CAPF. -/
  | capRead (path : Path) (c : EncId)
  /-- DOORBELL_READ (R230). A sequencer read of the DOORBELL CSR removes and returns the oldest doorbell record. -/
  | doorbellRead (c : ClusterId) (x : SeqOp)
  /-- SEQ_EXCEPTION (R231). A user-mode exception stops the sequencer until the next harness load. -/
  | seqException (c : ClusterId) (x : SeqTrap)
  /-- HELLO (R364). Opens an HTP session at the highest common version. -/
  | hello (x : HtpFrame)
  /-- DICT_READ (R363). An HTP read of a dictionary object, local or forwarded to another device. -/
  | dictRead (x : HtpFrame)
  /-- DICT_WRITE (R363). An HTP write of a dictionary object, possibly segmented and staged. -/
  | dictWrite (x : HtpFrame) (f : WriteFacts)
  /-- Q_PUSH (R363). An HTP push of one queue entry with the host as master. -/
  | qPush (x : HtpFrame)
  /-- Q_CONSUME (R363). An HTP consume of n queue entries with the host as master. -/
  | qConsume (x : HtpFrame)
  /-- MEM_READ (R363). Reads device memory and returns it on EP2 IN or inline. -/
  | memRead (x : HtpFrame)
  /-- MEM_WRITE (R363). Writes device memory from data on EP2 OUT or inline. -/
  | memWrite (x : HtpFrame) (data : List Byte)
  /-- MEM_WRITE_TIMEOUT (R365). When EP2 OUT data falls short for 100 ms, the received bytes are written and TIMEOUT is
  replied. -/
  | memWriteTimeout (x : HtpFrame) (data : List Byte)
  /-- NOTIFY_SET (R363). Sets which EMCY, completion and fault-log notifications the session receives. -/
  | notifySet (x : HtpFrame)
  /-- BYE (R363). Ends the HTP session. -/
  | bye (x : HtpFrame)
  /-- HTP_SESSION_TIMEOUT (R366). An Ethernet HTP session ends after 10 s without a frame. -/
  | htpSessionTimeout (p : Peer)
  /-- USB_BUS_RESET (R364). A bus reset or disconnect ends the USB session. -/
  | usbBusReset (detach superSpeed : Bool)
  /-- UPD_BEGIN (R449). Checks the refusal conditions and begins receiving an update image, with an optional chain. -/
  | updBegin (x : UpdSource) (members : List Status)
  /-- UPD_BLOCK (R447). Accepts a 4 KiB image block whose CRC holds, and forwards it along the chain. -/
  | updBlock (x : UpdSource)
  /-- CHAIN_BLOCK_RECEIVE (R448). A chain member receives a forwarded block as BULK flits and checks its CRC. -/
  | chainBlockReceive (l : LinkId)
  /-- UPD_VERIFY (R447). Verifies the image, writes it to the inactive bank and reads it back, giving STAGED or FAILED. -/
  | updVerify (x : UpdSource) (back : StoreVerify) (members : List Status)
  /-- UPD_ACTIVATE (R450). Hands over to the new Saddle, swaps microcode if needed and puts the new bank in PROBATION. -/
  | updActivate (x : HtpFrame) (holds : Bool) (t : Takeover)
  /-- UPD_COMMIT (R452). Makes the PROBATION bank ACTIVE and raises SVN_MIN. -/
  | updCommit (x : HtpFrame)
  /-- UPD_ROLLBACK (R453). Returns the device to the PREVIOUS bank. -/
  | updRollback (x : HtpFrame) (holds : Bool) (t : Takeover)
  /-- UPD_ABORT (R447). Discards the reception in progress. -/
  | updAbort (x : HtpFrame)
  /-- UPD_STATUS (R447). Returns the update state, the blocks received, the bank states and the chain results. -/
  | updStatus (x : HtpFrame)
  /-- MICROCODE_SWAP (R451). When no step is in flight, loads the new sequencer monitor and fabric microcode, holding the
  next release. -/
  | microcodeSwap (us : Fin 201)
  /-- ID_GET (R436). Returns IDK, EXK, EXK's signature and LC_STATE. -/
  | idGet (x : HtpFrame)
  /-- ATTEST (R431). Returns a signed attestation report over a nonce. -/
  | attest (x : HtpFrame)
  /-- CHALLENGE (R436). Draws a fresh one-use challenge valid for 60 s. -/
  | challenge (x : HtpFrame)
  /-- TAKE_OWNERSHIP (R435). Authorises with OPK and moves PROVISIONED to OWNED, sealing OSK. -/
  | takeOwnership (x : HtpFrame)
  /-- RELEASE (R435). Moves OWNED to PROVISIONED, erasing the owner keys. -/
  | release (x : HtpFrame)
  /-- RETIRE (R435). Moves the device to RETIRED, erasing its keys. -/
  | retire (x : HtpFrame)
  /-- SET_LOCK (R438). Writes the OWNER_LOCK bits. -/
  | setLock (x : HtpFrame)
  /-- SET_TAMPER_EN (R439). Writes the tamper enable bits, refusing to clear the fixed sources. -/
  | setTamperEn (x : HtpFrame)
  /-- PROVISION (R435). Moves TEST to PROVISIONED, generating IDK and EXK. -/
  | provision (x : HtpFrame)
  /-- ECALL_OPEN_HARNESS (R433). The Bridle opens and measures a harness envelope chunk by chunk. -/
  | ecallOpenHarness (img len : Nat)
  /-- ECALL_ATTEST (R431). The Bridle builds and signs an attestation report. -/
  | ecallAttest (src dst : Nat)
  /-- ECALL_OWNER_OP (R437). The Bridle checks and performs an owner operation. -/
  | ecallOwnerOp (src : Nat)
  /-- ECALL_UNSEAL_KEY (R427). The Bridle opens a one-chunk key envelope into a user handle. -/
  | ecallUnsealKey (img len handle : Nat)
  /-- ECALL_VERIFY_IMAGE (R447). The Bridle verifies a firmware image's header, digests and signature. -/
  | ecallVerifyImage (img len : Nat)
  /-- ECALL_CHALLENGE (R427). The Bridle draws a fresh 32-B challenge. -/
  | ecallChallenge (dst : Nat)
  /-- NMT_START (R367). Puts the CANopen node in OPERATIONAL. -/
  | nmtStart (node : BitVec 8)
  /-- NMT_STOP (R367). Puts the CANopen node in STOPPED. -/
  | nmtStop (node : BitVec 8)
  /-- NMT_ENTER_PREOPERATIONAL (R367). Puts the CANopen node in PRE-OPERATIONAL. -/
  | nmtEnterPreoperational (node : BitVec 8)
  /-- NMT_RESET_NODE (R367). Restarts the CANopen stack and restores the 0x1000–0x1FFF objects. -/
  | nmtResetNode (node : BitVec 8)
  /-- NMT_RESET_COMMUNICATION (R367). Restores the COB-ID and PDO objects and applies CAN bit rates. -/
  | nmtResetCommunication (node : BitVec 8)
  /-- SDO_DOWNLOAD (R368). An SDO write of a dictionary object, expedited or segmented, aborted with a code on failure. -/
  | sdoDownload (frame : List Byte) (f : WriteFacts)
  /-- SDO_UPLOAD (R368). An SDO read of a dictionary object. -/
  | sdoUpload (frame : List Byte)
  /-- RPDO1_RECEIVE (R369). RPDO1 is turned into a GAIT command on a firmware queue. -/
  | rpdo1Receive (data : List Byte)
  /-- RPDO2_RECEIVE (R369). RPDO2 writes REIN_OVERRIDE of each port in port order. -/
  | rpdo2Receive (data : List Byte)
  /-- TPDO_EVENT_TIMER (R369). A TPDO event timer expires and the TPDO is sent. -/
  | tpdoEventTimer (i : Fin 4)
  /-- RELEASE_BROADCAST_RECEIVE (R375). A device learns a release, opens the stream window and slaves its nominal times to
  device 0. -/
  | releaseBroadcastReceive (n : Nat) (terms : ReleaseTerms)
  /-- DELIVERY_BEGIN (R82). A tile that knows of the release and has finished its previous update begins delivering slot n
  mod 64. -/
  | deliveryBegin (c : ClusterId) (t : TileId)
  /-- EVENT_EXPAND (R72). A tile expands one event through its row into per-port sums or direct-merge. -/
  | eventExpand (c : ClusterId) (t : TileId) (pick : Nat) (f : Flaws)
  /-- DELIVERY_END (R82). Delivery of step d ends at a tile when the slot, spill region and far-wait list hold nothing due.
  -/
  | deliveryEnd (c : ClusterId) (t : TileId)
  /-- UPDATE_PHASE (R47). A tile updates every touched, marked and tonic neuron and then makes its Groom touches. -/
  | updatePhase (c : ClusterId) (t : TileId) (bad : Flaws)
  /-- DEST_LIST_READ (R60). The destination-list reader takes a firing and injects one event per destination, at the throttle
  level's rate. -/
  | destListRead (c : ClusterId) (t : TileId) (axonBad destBad : Bool)
  /-- HOLDBACK_RELEASE (R147). A returned credit lets the oldest held-back destination post its request and inject its event.
  -/
  | holdbackRelease (c : ClusterId) (t : TileId) (k : PackageId)
  /-- ROUTER_ARRIVAL (R129). An event arrives at a router output and is merged, split or appended to the combine buffer. -/
  | routerArrival (p : NetPoint) (flaws : List ArrivalFlaw)
  /-- ROUTER_DEPART (R130). An output sends its oldest eligible entries while it holds credits. -/
  | routerDepart (c : ClusterId) (out : Fin 31)
  /-- CREDIT_RETURN (R125). A credit returns to the sender when its event leaves the input buffer. -/
  | creditReturn (c : ClusterId) (out : Fin 31)
  /-- MULTICAST_REQUEST (R134). A tile hands a group number to the router and adds MCOUNT to FSENT. -/
  | multicastRequest (c : ClusterId) (t : TileId)
  /-- MULTICAST_EXPAND (R134). The expander presents up to four group members per cycle on its lanes. -/
  | multicastExpand (c : ClusterId)
  /-- GATEWAY_TRANSIT (R122). An event arriving from a link for another device is passed around the I/O ring to its next
  link. -/
  | gatewayTransit (l : LinkId)
  /-- SEQUENCER_INJECT (R123). A sequencer injects a checked STREAM event. -/
  | sequencerInject (c : ClusterId) (w : Word64)
  /-- TILE_ACCEPT (R81). A tile accepts an event, resolves its due step and parks it or spills it. -/
  | tileAccept (c : ClusterId) (t : TileId) (pay : Ecc)
  /-- SERVICE_EVENT_ACCEPT (R138). A tile accepts a doorbell event and passes its record to the sequencer's FIFO. -/
  | serviceEventAccept (c : ClusterId) (t : TileId)
  /-- SPILL_BUFFER_DRAIN (R84). The spill write buffer drains a 64-B line in the cluster's spill slots. -/
  | spillBufferDrain (c : ClusterId)
  /-- SPILL_READBACK (R86). The spill reader streams records of step d to their tiles. -/
  | spillReadback (c : ClusterId)
  /-- SYNC_REDUCTION_ROUND (R94). The sync network reduces DONE_THROUGH, counts and status and the master judges completion.
  -/
  | syncReductionRound (parity : Bool) (master : Option Nat)
  /-- COMPLETE_BROADCAST_RECEIVE (R95). A tile or injector learns of COMPLETE(n) and acts on it. -/
  | completeBroadcastReceive (n : Nat)
  /-- CARRY_DROP (R109). Carried events still unexpanded at the second due time are dropped. -/
  | carryDrop (c : ClusterId) (t : TileId)
  /-- FETCH_ISSUE (R149). A fetch engine issues the oldest-due issuable request, allotting lines and reading the directory
  and row. -/
  | fetchIssue (k : PackageId) (dirBad : Bool)
  /-- FETCH_LINE_ARRIVE (R151). A fetched line arrives in the far-row cache, and the row becomes PRESENT at its last line. -/
  | fetchLineArrive (c : ClusterId) (bad : Bool)
  /-- HINT_ISSUE (R156). An engine with no issuable request issues a prefetch hint as a PREFETCH tag. -/
  | hintIssue (k : PackageId) (dirBad : Bool)
  /-- HINT_STALE (R156). A hint not issued by the end of the next update is discarded. -/
  | hintStale (k : PackageId)
  /-- REMOTE_FAR_ARRIVAL (R148). An arrival gateway posts a far fetch into the remote partition or holds the event. -/
  | remoteFarArrival (l : LinkId)
  /-- REMOTE_HOLDBACK_RELEASE (R148). A held remote event posts its request once the partition has room. -/
  | remoteHoldbackRelease (east : Bool)
  /-- BULK_SLOT_MOVE (R160). In each slot, a switch output moves the oldest line of the slot's input, KIND and cluster. -/
  | bulkSlotMove (sw : ClusterId) (out : Fin 7) (slot : Fin 256) (bad : Bool) (offer : Option BulkOffer)
  /-- PATROL_SCRUB (R292). The patrol scrubber reads LPDDR5X lines in unallotted capacity. -/
  | patrolScrub (line : Nat) (ecc : Ecc)
  /-- PRE_REPORT (R175). The plasticity engine applies a far pre-report to the far plastic state table. -/
  | preReport (c : ClusterId) (bad : Bool)
  /-- POST_REPORT (R177). The plasticity engine adds a post report into the neuron's post record. -/
  | postReport (c : ClusterId) (bad : Bool)
  /-- TRACE_GROOM_VISIT (R178). The engine visits one plastic row or entry, zeroing an aged trace. -/
  | traceGroomVisit (c : ClusterId) (bad : Bool)
  /-- CAPTURE (R180). Once the step is complete and the last sweep has ended, applies compactions, swaps tables and starts
  the sweep. -/
  | capture (others : Option Status)
  /-- SWEEP_ROW (R182). Sweeps one dirty row, updating its weights, journalling changes and clearing SPRE. -/
  | sweepRow (c : ClusterId) (f : SweepFlaws)
  /-- JOURNAL_DRAIN (R191). The staging buffer drains journal records to the Stable in order. -/
  | journalDrain (v : StoreVerify)
  /-- CONSOLIDATION_BEGIN (R193). On period expiry, request or a full generation, starts a generation and copies changed rows
  to the Stable. -/
  | consolidationBegin (bad : List (Nat × StoreVerify))
  /-- CONSOLIDATION_END (R193). Writes the completion mark and frees the previous generation's region. -/
  | consolidationEnd (v : StoreVerify)
  /-- STABLE_PAGE_REMAP (R197). A page whose write fails after retry, or whose counter reaches 9 × 10⁹, is copied to a spare.
  -/
  | stablePageRemap (p : Fin 18432) (v : StoreVerify)
  /-- W8P_RECOVER (R200). The engine rewrites an uncorrectable W8P word from its latest durable value after the step. -/
  | w8pRecover (c : ClusterId)
  /-- HITCH_OP_APPLY (R264). A home applies a Hitch operation and sends the change to subscribers. -/
  | hitchOpApply (h : HitchId) (ecc : Ecc)
  /-- HITCH_SUBSCRIBE (R265). A node without a copy subscribes at the home and receives COUNT. -/
  | hitchSubscribe (h : HitchId)
  /-- HITCH_UPDATE (R265). A subscriber receives a change or release and re-evaluates its waiters. -/
  | hitchUpdate (h : HitchId) (node : Fin 17)
  /-- SYNC_NODE_FAIL (R266). Three unanswered 10 µs operations mark a sync node failed. -/
  | syncNodeFail (node : Fin 16)
  /-- CSI2_PACKET_RECEIVE (R300). A sensor port checks a whole long packet and decodes, maps, stamps and appends its events.
  -/
  | csi2PacketReceive (p : Fin 4) (hdr : Ecc) (crcOk : Bool) (vc : Fin 16) (dt : BitVec 6) (payload : List Byte)
  /-- ETH_FRAME_RECEIVE (R311). An Ethernet frame is checked and discarded, acted on, or taken as events, management or
  parsed traffic. -/
  | ethFrameReceive (e : EthId) (fcsOk : Bool) (frame : List Byte)
  /-- INTAKE_INJECT (R317). Each cycle Intake injects events of a port's head batch into the open window. -/
  | intakeInject (p : PortId)
  /-- REIN_RELEASE (R318). After REIN_MIN_US, a fill below REIN_LWM releases the Rein. -/
  | reinRelease (p : PortId)
  /-- PAUSE_REPEAT (R320). While the Rein is asserted, a PAUSE or PFC frame is repeated each half pause. -/
  | pauseRepeat (e : EthId)
  /-- REIN_PIN_FAULT (R482). A REIN pin read back in disagreement for 1 µs is a pin fault. -/
  | reinPinFault (p : Fin 4)
  /-- TRAINING_STATE_ADVANCE (R333). A link finishes a training state and moves to the next. -/
  | trainingStateAdvance (l : LinkId) (signal : BitVec 4) (lanes : List (List Block))
  /-- TRAINING_TIMEOUT (R333). A state that does not finish in time returns the link to DETECT. -/
  | trainingTimeout (l : LinkId)
  /-- LINK_RETRY_TIMER (R333). A DOWN link attempts a full training every 100 ms. -/
  | linkRetryTimer (l : LinkId)
  /-- FLIT_RECEIVE (R339). The receiver takes a flit, accepting, discarding or NAKing it. -/
  | flitReceive (l : LinkId) (lanes : List (List Block)) (adjust : BitVec 4) (codes : List Ecc) (f : WriteFacts)
  /-- ACK_TIMER (R339). An acknowledgement is sent at least every 0.5 µs. -/
  | ackTimer (l : LinkId)
  /-- NAK_RECEIVE (R340). On a NAK the transmitter replays every flit from ACK + 1. -/
  | nakReceive (l : LinkId)
  /-- REPLAY_TIMEOUT (R340). Without ACK progress for RETRY_TMO_NS the transmitter replays from the oldest. -/
  | replayTimeout (l : LinkId)
  /-- FLIT_TRANSMIT (R342). In each flit time the transmitter chooses a flit by priority and credit. -/
  | flitTransmit (l : LinkId)
  /-- STUCK_LINK_REPORT (R342). A pool holding a flit without credit for 1 ms raises a stuck-link report. -/
  | stuckLinkReport (l : LinkId) (pool : Fin 6)
  /-- LANE_FAULT (R346). A faulty lane is dropped and the link fast-retrains at reduced width. -/
  | laneFault (l : LinkId) (lane : Fin 4) (lost : Bool)
  /-- LINK_LOSS (R347). A link with no lane left, or after three failed fast retrainings, becomes DOWN. -/
  | linkLoss (l : LinkId)
  /-- LINK_RECONCILE (R347). After the tree rebuild the two ends exchange sequences and return unacknowledged flits. -/
  | linkReconcile (l : LinkId) (peer : Fin 4096)
  /-- SPANNING_TREE_BUILD (R345). The firmware rebuilds the spanning tree at a change of UP links and prepares reroute
  tables. -/
  | spanningTreeBuild (dist : List (LinkId × Nat)) (below : List (LinkId × List (Fin 64))) (tables : List (LinkId × List (Fin 64 × BitVec 32))) (gone : List (Fin 64)) (comp : Nat)
  /-- SPUR_DETECT (R349). The WATCH detector recognises Spur or a signal and wakes the device. -/
  | spurDetect (spur : Bool)
  /-- PARK_RECEIVE (R350). A receiver seeing 16 PARK sets puts the link in PARKED. -/
  | parkReceive (l : LinkId) (lanes : List (List Block))
  /-- PARKED_LINK_WAKE (R350). With a flit for a PARKED link, the neighbour drives TS1 and both ends fast-train. -/
  | parkedLinkWake (l : LinkId) (ts1 : Bool)
  /-- PARK_ALLOWANCE_EXPIRY (R350). A link not UP 2 ms after the first TS1 follows ordinary training and loss rules. -/
  | parkAllowanceExpiry (l : LinkId)
  /-- GT_MATCH (R376). CNT becoming CMP sets MATF, signals the Hitch and advances CMP under AUTO. -/
  | gtMatch (k : TimerId)
  /-- GT_WRAP (R376). CNT wraps after PER, sets WRAPF and copies pending preloads. -/
  | gtWrap (k : TimerId)
  /-- ENC_EDGE (R380). A filtered encoder edge advances POS and captures every DIV-th edge. -/
  | encEdge (c : EncId) (rising : Bool)
  /-- CAPTURE_SHADOW_LAND (R381). A capture held in the shadow register lands one cycle later. -/
  | captureShadowLand (c : EncId)
  /-- TIMER_WAKE (R384). The always-on domain wakes the device ahead of a WAKE timer's match. -/
  | timerWake (k : TimerId)
  /-- FEED_PRESENT (R387). A feed at 36 V or more for 10 ms joins the ORed bus. -/
  | feedPresent (b : Bool) (mv : BitVec 32)
  /-- FEED_LOST (R387). A feed below 33 V for 2 µs opens its switch and the other feed carries. -/
  | feedLost (b : Bool) (mv : BitVec 32)
  /-- FEED_REVERSED (R387). A reversed feed keeps its switch open. -/
  | feedReversed (b : Bool)
  /-- FEED_OVERVOLTAGE (R387). A feed above 62 V for 1 µs opens its switch until it is below 60 V for 10 ms. -/
  | feedOvervoltage (b : Bool) (above : Bool) (mv : BitVec 32)
  /-- HOLDUP_CHECK (R388). A periodic partial discharge measures hold-up energy and sets HOLDUP_OK. -/
  | holdupCheck (mj : BitVec 32)
  /-- BRACE_ENTRY (R393). A bus below 38 V or a rail below warning enters Brace, holding releases and Stable writes. -/
  | braceEntry (rail : Option (Fin 8)) (mv : BitVec 16)
  /-- BRACE_EXIT (R393). After 100 µs of good bus and rails the device leaves Brace. -/
  | braceExit (mv : BitVec 32)
  /-- LOW_INPUT_EXIT (R394). The bus above 39 V for 100 µs returns to NORMAL. -/
  | lowInputExit (mv : BitVec 32)
  /-- POWER_FAIL (R396). The bus below 33 V for 2 µs runs the shed, flush and power-off sequence. -/
  | powerFail (blocks : Nat) (recovered : Bool)
  /-- GOVERNOR_TICK (R399). Every 10 µs the governor raises its level when average input exceeds the limit. -/
  | governorTick (mw : BitVec 32) (temp plate : BitVec 16)
  /-- WAKE (R404). An enabled wake source returns the device to RUN, or aborts an entry in progress. -/
  | wake (w : WakeSource)
  /-- DDR_BACKGROUND_TRAIN_DONE (R416). Background LPDDR5X training after WATCH without park ends and DDR_STATE reads READY.
  -/
  | ddrBackgroundTrainDone (r : TrainReport)
  /-- BRINGUP_STAGE (R410). A bring-up stage ends and the next begins, until READY. -/
  | bringupStage (r : StageReport)
  /-- CORE_ALARM (R418). A path slack below CORE_ALARM_PS raises VDD_CORE by 5 mV. -/
  | coreAlarm (c : ClusterId) (monitor : Fin 32) (slack : BitVec 16)
  /-- REPLAN_DUE (R419). A re-plan becomes due by time, temperature, a bump or request. -/
  | replanDue (temp : BitVec 16)
  /-- REPLAN (R420). The Farrier re-plans core voltage, SRAM retention, Stable parameters and link equalisation. -/
  | replan (r : PlanReport)
  /-- STABLE_REFRESH (R421). Every refresh period each Stable block is read and rewritten. -/
  | stableRefresh (v : StoreVerify)
  /-- TAMPER_DETECT (R440). An enabled tamper source wipes the Tack Room and restarts the device. -/
  | tamperDetect (sources : BitVec 5)
  /-- TAMPER_RECHECK (R440). Every 100 ms after a tamper restart, the Bridle checks whether sources are still active. -/
  | tamperRecheck (sources : BitVec 5)
  /-- TILE_HANG (R464). A tile whose progress counter stalls for TILE_HANG_US in a phase is judged hung. -/
  | tileHang (c : ClusterId) (t : TileId) (waits router : Bool)
  /-- SETTLE_HOLD_REPLY (R466). A device that is quiet replies to SETTLE_HOLD. -/
  | settleHoldReply (dev : Fin 64) (quiet : Bool)
  /-- SETTLE (R466). Each device zeroes its step counters and replies, and the master completes the unbalanced steps. -/
  | settle (dev : Fin 64) (step : Nat)
  /-- DEVICE_LOST (R467). A device unreached for DEV_LOST_US is dropped and a settle runs. -/
  | deviceLost (dev : Fin 64)
  /-- SADDLE_WATCHDOG (R469). An unserved Saddle watchdog dumps and restarts the Saddle. -/
  | saddleWatchdog (ecc : Bool)
  /-- BRIDLE_CHECK (R469). Every 1 s the Bridle checks Saddle code and PMP and restarts the Saddle on a difference. -/
  | bridleCheck (differs : Bool)
  /-- THERMAL_SHUTDOWN (R486). A die sensor above 125 °C for 1 ms flushes and turns the device off. -/
  | thermalShutdown (temp : BitVec 16)
  /-- GEO_CHANGE (R488). A change of the GEO pins sets GEO_CHANGED and logs it. -/
  | geoChange (pins : BitVec 6)
  /-- VAON_LIMIT (R483). The VAON_OUT current limit engages on overload or short. -/
  | vaonLimit (ma : BitVec 16) (engaged : Bool)
  /-- GT_TICK (R376). At each prescaled tick of an enabled general timer, CNT counts up by one. -/
  | gtTick (k : TimerId)
  /-- ETH_LINK_UP_CHANGE (R325). An Ethernet port's 25GBASE-R PCS gains or loses lock and LINK_UP changes. -/
  | ethLinkUpChange (e : EthId) (up : Bool)
  /-- EP0_STANDARD_REQUEST (R361). The host sends a control request on EP0; standard requests are served, including
  configuration, and class or vendor requests are answered with STALL. -/
  | ep0StandardRequest (r : Ep0Request)
  /-- CAN_BUS_ERROR (R367). A CAN error frame is seen, or the error counters move the controller between error active, error
  passive and bus-off. -/
  | canBusError (frame : Bool) (into : Fin 3)
  /-- GAIT (R212). Validates the gait, policy, step length, floor and shed mask and stages them for the next release. -/
  | gait
  /-- LEARN_EPOCH (R213). Ends the current learning epoch and completes when its capture is complete. -/
  | learnEpoch
  /-- HARNESS_LOAD (R233). Opens the envelope, checks and validates the image, places its sections and starts the harness. -/
  | harnessLoad
  /-- HARNESS_UNLOAD (R235). Waits for steps and journal, aborts and closes the harness queues, compares Hitches with the
  load snapshot and unloads. -/
  | harnessUnload
  /-- GEMM (R217). Computes C = A·B in the Dense engine, writing results or injecting graded events. -/
  | denseGemm
  /-- CONV (R218). Runs a convolution as a GEMM over BF16 input and filter. -/
  | denseConv
  /-- FILL (R220). Fills LEN bytes at DST with a repeated 64-bit pattern over the MOVER slots. -/
  | fill
  /-- MAP_LOAD (R221). Validates and loads a decode map, intake map, flow table or parse graph into a disarmed port. -/
  | mapLoad
  /-- ARM (R323). Clears the port's anchors and buffers and starts it taking data. -/
  | arm
  /-- DISARM (R323). Stops acceptance at a port and then injects or discards its held batches. -/
  | disarm
  /-- GROUP_DEF (R222). Defines or replaces a Census group that records from the next release. -/
  | groupDef
  /-- GROUP_CLEAR (R209). Ends a Census group. -/
  | groupClear
  /-- TILESTAT (R223). Writes a record of per-tile ACC_SPILL and DM_CONTRIB to Commons. -/
  | tilestat
  /-- GCM_SEAL (R224). Encrypts AAD and data with AES-256-GCM under a key handle, writing IV, ciphertext and tag. -/
  | gcmSeal
  /-- GCM_OPEN (R224). Verifies a GCM tag and decrypts only if it holds, otherwise writes nothing and reports SECURITY. -/
  | gcmOpen
  /-- SHA384 (R224). Hashes LEN bytes and writes the 48-B digest. -/
  | sha384
  /-- ECDSA_SIGN (R224). Signs a 48-B digest with brainpoolP384r1. -/
  | ecdsaSign
  /-- ECDSA_VERIFY (R224). Verifies a signature over a digest and reports OK or SECURITY. -/
  | ecdsaVerify
  /-- XTS_KEYSET (R224). Installs a key as an LPDDR5X XTS key, on Bridle queues only. -/
  | xtsKeyset
  /-- FRC_INVALIDATE (R225). Holds the next release, waits until no tag is PENDING, and sets every far-row tag of the
  selected clusters ABSENT. -/
  | frcInvalidate
  /-- SCHED_VERSION_SWITCH (R164). Once every switch input has drained, all switches change slot-table version at one frame
  boundary. -/
  | schedVersionSwitch
  /-- USB_RESUME (R361). A resume from U3 or suspend, which is a wake source. -/
  | usbResume
  /-- USB_SUSPEND (R361). The USB link enters U3 or suspend. -/
  | usbSuspend
  /-- HANDOVER_TIMEOUT (R450). When the new Saddle does not confirm within 1 s, the Bridle restarts the old Saddle and the
  new bank becomes FAILED. -/
  | handoverTimeout
  /-- PROBATION_EXPIRY (R452). PROBATION_S elapses without a rollback and the bank becomes ACTIVE. -/
  | probationExpiry
  /-- DEFERRED_MICROCODE_SWAP (R453). A microcode rollback deferred under Trot is made once the gait is Walk or Canter. -/
  | deferredMicrocodeSwap
  /-- RECOVERY_BOOT (R455). After a recovery VERIFY reply, the device cold-starts the verified bank. -/
  | recoveryBoot
  /-- LIFECYCLE_RESTART (R437). 100 ms after a transition's power-off, the always-on domain restarts the device. -/
  | lifecycleRestart
  /-- SDO_SEGMENT_TIMEOUT (R368). A segmented transfer idle for 1 s is aborted with 0x0504_0000. -/
  | sdoSegmentTimeout
  /-- HEARTBEAT_TIMER (R367). The heartbeat producer sends the NMT state each HEARTBEAT_MS. -/
  | heartbeatTimer
  /-- BUSOFF_RECOVERY (R367). After 128 × 11 recessive bits the CAN controller leaves bus-off and sends held EMCY records. -/
  | busoffRecovery
  /-- REMOTE_READ (R371). A dictionary read forwarded to another device as CTRL-REQ flits. -/
  | remoteRead
  /-- REMOTE_WRITE (R371). A dictionary write forwarded to another device in 96-B pieces. -/
  | remoteWrite
  /-- REMOTE_TIMEOUT (R371). A remote access without a reply in REMOTE_TMO_MS completes with TIMEOUT. -/
  | remoteTimeout
  /-- STEP_RELEASE (R92). The step master releases step n once the gait, completion and drain conditions hold, and broadcasts
  it. -/
  | stepRelease
  /-- STEP_TIMER_NOMINAL (R374). The step clock reaches NEXT_NOM, satisfies the time condition and advances NEXT_NOM by P. -/
  | stepTimerNominal
  /-- STREAM_WINDOW_CLOSE (R98). When the gait's release condition is met, Intake ports inject held events of window s and
  report done. -/
  | streamWindowClose
  /-- OVERRUN (R107). At T_due a step not DONE overruns and its policy applies. -/
  | overrun
  /-- EPOCH_END (R179). After L released steps, or a LEARN_EPOCH, the epoch ends. -/
  | epochEnd
  /-- SWEEP_END (R181). The sweep ends when every dirty row is swept and staged, and SWEEP_HITCH is signalled. -/
  | sweepEnd
  /-- REDUCE_RECORD_SEND (R345). Each device sends its parent a REDUCE record at least every 1.0 µs. -/
  | reduceRecordSend
  /-- BROADCAST_RECEIVE (R338). A SYNC BROADCAST arrives and is passed down the tree. -/
  | broadcastReceive
  /-- SLEEP_MAKEUP (R382). At wake, time slept is added to the step clock and timers. -/
  | sleepMakeup
  /-- INRUSH_BYPASS (R388). Once the hold-up capacitors are charged the inrush limiter is bypassed. -/
  | inrushBypass
  /-- LOW_INPUT_ENTRY (R394). A bus held between 33 and 38 V for BRACE_MAX_MS leaves Brace for LOW_INPUT. -/
  | lowInputEntry
  /-- RAIL_RESET (R391). A rail at or below reset for 1 µs resets the die. -/
  | railReset
  /-- LPREG_OVERLOAD (R392). A low-power regulator overload for 20 µs resets every domain for a cold start. -/
  | lpregOverload
  /-- GOVERNOR_LOWER (R399). Every 100 µs after 1 ms below the limit less 2 W the governor lowers its level. -/
  | governorLower
  /-- BRINGUP_RETRY (R411). After a rail failure the device retries bring-up after 1 s, up to 3 times. -/
  | bringupRetry
  /-- COUNT_SETTLE_START (R466). An unbalanced step stuck for COMPLETE_TMO_US, a lost device or a mismatch starts a settle
  with SETTLE_HOLD. -/
  | countSettleStart
  /-- SETTLE_TIMEOUT (R466). A device not quiet within SETTLE_MAX_US halts the fabric. -/
  | settleTimeout
  /-- BRIDLE_WATCHDOG (R469). An unserved Bridle watchdog resets the die. -/
  | bridleWatchdog
  /-- RESET_INPUT (R481). RESET_N low for 10 µs flushes and holds the device off. -/
  | resetInput
  /-- RESET_INPUT_RELEASE (R481). Release of RESET_N cold-starts the device. -/
  | resetInputRelease
  /-- VBUS_ARRIVAL (R361). VBUS_SENSE sees VBUS arrive while the device runs, and USB_STATE moves from detached to attached.
  -/
  | vbusArrival
  deriving DecidableEq, Repr

end Sys2Proof
end

