-- ==== Sys2Proof/Decode.lean ====
section
/-!
DEFINITION. The command a word spells. The opcode table gives no row any bits: commands reach the block as register and
port operations, packets and events, not as words of one instruction stream, so that no word spells a command.
-/
namespace Sys2Proof

/-- The command that a word of `nbits` bits spells by the table's bits: none. -/
def decodeTableWord (_nbits _w : Nat) : Option Instr := none

end Sys2Proof
end

