-- ==== Sys2Proof/Config.lean ====
section
/-!
DEFINITION. What the spec leaves open. Every constant is opaque: nothing in Lean evaluates it, so a claim holds
whatever it is. `Config.freeBits` is the model's one source of free values, applied to the counter `State.free`.
The cryptographic functions are named by the spec by their standards alone, which it does not restate.
-/
namespace Sys2Proof

/-- A free value: the n-th value of `w` bits that the spec leaves open (an undefined or unstated result). -/
opaque Config.freeBits (n w : Nat) : BitVec w

/-- What a veiled byte of LPDDR5X reads as, less what is stored: its line was written under an earlier key, or an envelope that
failed has left it undefined (R293, R433). -/
opaque Config.veilByte (nonce addr : Nat) : BitVec 8

/-- A digest of SHA-384 (FIPS 180-4), 48 bytes; the spec names the standard only (R224). -/
opaque Config.sha384 : List Byte → BitVec 384

/-- AES-256-GCM encryption: key, 96-bit IV, additional data and plaintext give the ciphertext and 128-bit tag. -/
opaque Config.gcmSeal : (key : Nat) → (iv : BitVec 96) → (aad plain : List Byte) → List Byte × BitVec 128

/-- AES-256-GCM decryption: the plaintext, or none when the tag does not hold. -/
opaque Config.gcmOpen : (key : Nat) → (iv : BitVec 96) → (aad cipher : List Byte) → (tag : BitVec 128) →
  Option (List Byte)

/-- An ECDSA signature on brainpoolP384r1 of a digest under a private key; the nonce is drawn by the device. -/
opaque Config.ecdsaSign : (key nonce : Nat) → (digest : List Byte) → List Byte

/-- Verification of an ECDSA signature on brainpoolP384r1. -/
opaque Config.ecdsaVerify : (pub : List Byte) → (digest signature : List Byte) → Bool

/-- The public half of a private key on brainpoolP384r1. -/
opaque Config.publicKey : Nat → List Byte

/-- DUK, fused in each device (R428). -/
opaque Config.duk : Nat

/-- ECDH on brainpoolP384r1: the x-coordinate shared by a private key and a public key. -/
opaque Config.ecdh : (key : Nat) → (pub : List Byte) → List Byte

/-- The public key that ECDSA_VERIFY takes for a KEY operand: the spec names none among its handles (R224, R428). -/
opaque Config.verifyKey : (handle : Nat) → List Byte

/-- The payload code of an event (R119): the spec gives what it corrects and not its bits; `bad` marks a payload passed on as
uncorrectable. -/
opaque Config.payloadCode : (word : BitVec 64) → (bad : Bool) → BitVec 7

/-- Kolael's factory key and firmware key, of which the boot ROM holds the hashes (R435, R446). -/
opaque Config.factoryKey : List Byte
opaque Config.firmwareKey : List Byte

end Sys2Proof
end

