-- ==== Sys2Proof/Machine/State.lean ====
section
/-!
DEFINITION. The state of the FLM-1648: plain data, every piece of state the spec names. Registers of the object
dictionary are kept in one sparse map (an object not listed reads its default, R11), memories in one sparse byte map,
everything with a structure of its own in records.
-/
namespace Sys2Proof.Machine
open Sys2Proof

/-! ### Keyed lists -/

/-- A map held as a list of key and value pairs; the first entry of a key counts. -/
abbrev Assoc (β : Type) := List (Nat × β)

/-- The value of a key. -/
def Assoc.get? {β : Type} (k : Nat) : Assoc β → Option β
  | [] => none
  | (j, v) :: l => if j = k then some v else Assoc.get? k l

/-- The value of a key, or a default. -/
def Assoc.getD {β : Type} (l : Assoc β) (k : Nat) (d : β) : β := (Assoc.get? k l).getD d

/-- The map with a key's value replaced, or put before the first greater key. -/
def Assoc.set {β : Type} (k : Nat) (v : β) : Assoc β → Assoc β
  | [] => [(k, v)]
  | (j, w) :: l =>
    if j = k then (k, v) :: l else if k < j then (k, v) :: (j, w) :: l else (j, w) :: Assoc.set k v l

/-- The map without a key. -/
def Assoc.erase {β : Type} (k : Nat) (l : Assoc β) : Assoc β := l.filter fun e => e.1 ≠ k

/-! ### Objects and registers -/

/-- The types of dictionary objects (R10). -/
inductive ObjTy where
  | bool | u8 | u16 | u32 | u64 | i16 | i32 | bits32 | str
  | domain (bytes : Nat)
  deriving DecidableEq, Repr

/-- The access codes of dictionary objects (R11). -/
inductive ObjAccess where
  | ro | rw | wo | rwp | w1c | rc
  deriving DecidableEq, Repr

/-- A dictionary object: where it lies, its type, access code, default and whether it is persisted (R10, R11). -/
structure Obj where
  index : Nat
  sub : Nat
  ty : ObjTy
  acc : ObjAccess
  dflt : Nat
  pers : Bool
  deriving DecidableEq, Repr

/-- A row of a dictionary table: `count` consecutive indices from `base`, sub-indices `sub` to `subLast`. -/
structure ObjRow where
  base : Nat
  count : Nat
  sub : Nat
  subLast : Nat
  ty : ObjTy
  acc : ObjAccess
  dflt : Nat
  pers : Bool
  deriving DecidableEq, Repr

/-- Object `i` of a row's indices and `j` of its sub-indices. -/
def ObjRow.obj (r : ObjRow) (i j : Nat) : Obj := ⟨r.base + i, r.sub + j, r.ty, r.acc, r.dflt, r.pers⟩

/-! ### Responses and what leaves the block -/

/-- The response to the last command that has one: its status and the data it returns. -/
structure Response where
  status : Status := .ok
  data : List Byte := []
  deriving DecidableEq, Repr

/-! ### The fault log -/

/-- Severity of a fault-log entry (R460). -/
inductive Severity where
  | info | degraded | error | fatal
  deriving DecidableEq, Repr

/-- Fault classes (R461). -/
inductive FaultClass where
  | memUncorr | neuronReinit | row | drop | loadReject | queue | hitch | link | tileFence | countSettle
  | deviceLost | supply | security | watchdog | update | farrier | step | configReject | persist | rxError
  | bringup | stable | other
  deriving DecidableEq, Repr

/-- An entry of the fault log (R460). -/
structure FaultEntry where
  seq : Nat
  sev : Severity
  status : Status
  source : Nat
  cls : FaultClass
  time : Nat
  step : Nat
  unit : Nat
  sub : Nat
  ref : Nat
  deriving DecidableEq, Repr

/-! ### Queues (R242) -/

/-- Kinds of queue (R240). -/
inductive QKind where
  | command | completion | data | msgReq | msgRep | combining
  deriving DecidableEq, Repr

/-- QSTATE (R242). -/
inductive QState where
  | unbound | enabled | draining | aborting | disabled | closed
  deriving DecidableEq, Repr

/-- A HITCH_WAIT or HITCH_BARRIER stalled at the head of a queue (R265). -/
structure Waiter where
  hitch : Nat
  barrier : Bool
  value : Nat
  since : Nat
  /-- For a barrier: how many releases the Hitch had seen when the home applied this arrival. -/
  arrived : Option Nat := none
  deriving DecidableEq, Repr

/-- A queue: the fields of its control block (R242), its stale-tail timer (R247),
and what the front end knows of its commands: the head's waiter (R265), commands started and
not completed (FENCE, R204), the snapshot of a DRAIN or ABORT (R253) and the resets of its reader so far (R251). -/
structure Queue where
  kind : QKind := .command
  log2n : Nat := 0
  base : Nat := 0
  eng : Nat := 0xF
  link : Nat := 0x7FFF
  prod : Nat := 0
  cons : Nat := 0
  tmoUs : Nat := 0
  ntfyEn : Bool := false
  ntfyHitch : Nat := 0
  wm : Nat := 0
  gen : BitVec 16 := 0
  qstate : QState := .unbound
  ovr : Bool := false
  tmo : Bool := false
  rst : Bool := false
  resv : Nat := 0
  wpA : BitVec 17 := 0
  rpA : BitVec 17 := 0
  wpB : BitVec 17 := 0x1FFFF
  rpB : BitVec 17 := 0x1FFFF
  hwm : Nat := 0
  ovrCnt : Nat := 0
  tmoCnt : Nat := 0
  pushCnt : BitVec 64 := 0
  timerFrom : Option Nat := none
  raised : Bool := false
  /-- An error in words 0 or 1 has closed the queue for good, until it is bound again (R246). -/
  failed : Bool := false
  waiter : Option Waiter := none
  outstanding : Nat := 0
  snap : Option (BitVec 17) := none
  resets : Nat := 0
  deriving DecidableEq, Repr

/-- An open entry of the combining table (R254). -/
structure CombEntry where
  queue : Nat
  key : Nat
  slot : BitVec 17
  deriving DecidableEq, Repr

/-! ### Engines (R206–R228) -/

/-- ENG_STATE (R226). -/
inductive EngState where
  | enabled | draining | aborting | disabled
  deriving DecidableEq, Repr

/-- A command taken from a queue: where it came from, its words, when it started and how often the reader of its
completion queue had been reset by then (R207, R251). -/
structure RunCmd where
  queue : Nat
  cmd : Entry
  started : Nat
  cqResets : Nat
  deriving DecidableEq, Repr

/-- A completion record with its extension (R206), and the command it belongs to. -/
structure HeldRecord where
  run : RunCmd
  bytes : BitVec 256
  since : Nat
  deriving DecidableEq, Repr

/-- An engine: its state, the command it executes, the queue it served last, the records held for a full completion
queue (R207) and the snapshot of a DRAIN or ABORT as queue and write pointer (R227). -/
structure Engine where
  st : EngState := .enabled
  running : Option RunCmd := none
  lastQueue : Nat := 0
  held : List HeldRecord := []
  snap : List (Nat × BitVec 17) := []
  deriving DecidableEq, Repr

/-! ### Hitches (R260–R272) -/

/-- SCOPE of a Hitch (R260). -/
inductive HScope where
  | cluster | die | system
  deriving DecidableEq, Repr

/-- An entry of the Hitch table (R260), with the load snapshot of COUNT and TARGET (R270), the copies that nodes of
this die hold (R265), and whether its home has been lost (R266). -/
structure Hitch where
  count : Nat := 0
  target : Nat := 0
  homeDev : Option Nat := none
  homeNode : Nat := 16
  scope : HScope := .die
  lsubs : List Nat := []
  rsubs : List Nat := []
  barn : Nat := 0
  ops : Nat := 0
  snapCount : Nat := 0
  snapTarget : Nat := 0
  copies : Assoc Nat := []
  /-- Barrier releases and cancellations so far, which order a release against an arrival. -/
  releases : Nat := 0
  homeLost : Bool := false
  deriving DecidableEq, Repr

/-- Messages of the sync network's message lanes and of SYNC HITCH flits (R265, R338). -/
inductive HitchMsg where
  | signal (v : Nat)
  | set (v : Nat)
  | barrier (n : Nat)
  | subscribe
  | unsubscribe
  | update (count : Nat)
  | release (count releases : Nat)
  | refuse (count releases : Nat)
  deriving DecidableEq, Repr

/-- A message in flight: the Hitch, the message, the node of this die or the link it comes from, the device and node that
issued it, the command that waits for it to be applied, the queue of the issuing head, and the CCLK cycle at which it arrives
(R263). -/
structure HitchFlight where
  hitch : Nat
  msg : HitchMsg
  link : Option LinkId
  dev : Nat
  node : Nat
  run : Option RunCmd
  queue : Nat := 0x7FFF
  arrive : Nat
  deriving DecidableEq, Repr

/-! ### Memories -/

/-- MODE of a circular window (R281). -/
inductive WinMode where
  | off | ring | append
  deriving DecidableEq, Repr

/-- A window control block (R281). -/
structure Window where
  base : Nat := 0
  log2size : Nat := 0
  mode : WinMode := .off
  wr : BitVec 32 := 0
  rd : BitVec 32 := 0
  wfull : Bool := false
  fullCnt : Nat := 0
  hwm : Nat := 0
  deriving DecidableEq, Repr

/-- An access a Commons bank has stalled and the cycles it has waited (R275). -/
structure StalledAccess where
  acc : BankAccess
  run : Nat
  deriving DecidableEq, Repr

/-! ### Neurons and classes (R29, R32) -/

/-- The fields of a neuron word (R29). -/
structure Neuron where
  v : Int
  tl : Nat
  xpre : Nat
  xpost : Nat
  rc : Nat
  dead : Bool
  reinit : Bool
  ref : Bool
  spk : Bool
  cls : Nat
  deriving DecidableEq, Repr

/-- A class entry (R32). `decay` lists DECAY[0] to DECAY[63]; `scale` SCALE0 to SCALE3 as their words (R33). -/
structure ClassEntry where
  theta : Int := 4096
  rest : Int := 0
  floor : Int := -524288
  resetMode : Nat := 0
  decay : List Nat := 0 :: List.replicate 63 0x8000
  beyond : Nat := 0
  refract : Nat := 0
  scale : List Nat := [1, 0, 0, 0]
  tauPre : Nat := 0x6666
  tauPost : Nat := 0x6666
  traceInc : Nat := 0x2020
  bias : Int := 0
  outMode : Nat := 0
  spikeTag : Nat := 0
  multi : Nat := 0
  precise : Bool := false
  pfMargin : Int := 0
  deriving DecidableEq, Repr

/-! ### Events (R117) -/

/-- An event: its 64-bit word (R117), its origin kind (R91) and whether its payload has been found uncorrectable
(R119). -/
structure Event where
  word : Word64
  stream : Bool := false
  payBad : Bool := false
  /-- The buffer class by which it last crossed a link: true for B (R343). -/
  classB : Bool := false
  deriving DecidableEq, Repr

/-- Cumulative counters of one kind, one per tag value (R93). -/
structure Tags where
  t0 : BitVec 32 := 0
  t1 : BitVec 32 := 0
  t2 : BitVec 32 := 0
  t3 : BitVec 32 := 0
  deriving DecidableEq, Repr

/-! ### Tiles -/

/-- A tile's SRAM partition and tables, from the harness image (R30, R56, R63, R144): offsets of the regions in tile
SRAM, the number of neurons, destinations and near rows, events per delay slot, the tonic list, and base and entries of
the four parts of the far row directory. -/
structure TileMap where
  n : Nat := 0
  neuronBase : Nat := 0
  axonBase : Nat := 0
  destBase : Nat := 0
  dests : Nat := 0
  dirBase : Nat := 0
  nearRows : Nat := 0
  rowBase : Nat := 0
  rowBytes : Nat := 0
  ringBase : Nat := 0
  e : Nat := 0
  tonic : List Nat := []
  farBase : List Nat := []
  farCount : List Nat := []
  /-- Where the harness image keeps its copy of the tile image (R57). -/
  imageAt : Nat := 0
  deriving DecidableEq, Repr

/-- What a tile is doing with a released step (R92): nothing, delivering it, waiting to update after the end of
delivery, or updating the neurons listed. Emission goes on beside it from the firing list. -/
inductive TilePhase where
  | idle
  | deliver (n : Nat)
  | closed (n : Nat)
  | update (n : Nat) (rest : List Nat)
  deriving DecidableEq, Repr

/-- An event parked for a due step; `carried` marks one that SPILL has re-parked (R109). -/
structure Parked where
  ev : Event
  due : Nat
  carried : Bool := false
  deriving DecidableEq, Repr

/-- A slot of the delay ring: the due step it serves and its events (R80). -/
structure RingSlot where
  owner : Nat
  events : List Parked := []
  deriving DecidableEq, Repr

/-- An entry of the accumulator cache: a neuron, its four port sums, which of them are held at a limit, and the FP32
sum of a PRECISE neuron's port 0 (R43, R46). -/
structure AccEntry where
  neuron : Nat
  sums : List Int := [0, 0, 0, 0]
  held : List Bool := [false, false, false, false]
  f32 : BitVec 32 := 0
  deriving DecidableEq, Repr

/-- A firing that waits for the destination-list reader: the neuron, its step, the class, multiplicity and value of
its events, and how many of its destination entries have been taken (R48, R49, R60). -/
structure Firing where
  neuron : Nat
  step : Nat
  cls : Nat
  cnt : Nat
  val : Nat
  taken : Nat := 0
  deriving DecidableEq, Repr

/-- What waits in an egress queue: an event, or a multicast request with its group (R127, R134). -/
structure Egress where
  ev : Event
  group : Option Nat := none
  deriving DecidableEq, Repr

/-- A destination held back for want of a fetch credit: the event, its engine and its step (R147). -/
structure HeldBack where
  ev : Event
  engine : Nat
  step : Nat
  deriving DecidableEq, Repr

/-- A tile, with its counters of R93, which its quad port holds (R463). -/
structure Tile where
  map : TileMap := {}
  phase : TilePhase := .idle
  /-- Highest step whose update has ended. -/
  updated : Nat := 0
  /-- Highest step whose delivery has ended. -/
  delivered : Nat := 0
  /-- The step whose delivery SPILL closed last (R109). -/
  spillClosed : Nat := 0
  /-- The step whose delivery SHED has acted on last, and its mask (R110). -/
  shed : Option (Nat × Nat) := none
  acc : List AccEntry := []
  direct : List Nat := []
  touched : List Nat := []
  touchedNext : List Nat := []
  groom : Nat := 0
  slots : Assoc RingSlot := []
  /-- Records read back from the spill area for the step in delivery (R86). -/
  back : List Parked := []
  farWait : List Parked := []
  egress : List Egress := []
  throttle : Nat := 0
  /-- Cycles the destination-list reader has waited since its last event (R127). -/
  readerWait : Nat := 0
  firing : List Firing := []
  holdback : List HeldBack := []
  fsent : Tags := {}
  frcvd : Tags := {}
  srcvd : Tags := {}
  fenced : Bool := false
  accSpill : Nat := 0
  dmContrib : Nat := 0
  /-- When the tile's progress counter last advanced (R464). -/
  progressAt : Nat := 0
  /-- Words to be rewritten from the image's copy after the step, as SRAM offsets (R79). -/
  repair : List Nat := []
  deriving DecidableEq, Repr

/-! ### Routers (R120–R134) -/

/-- An entry of a combine buffer: the event, whether it is open, and the cycles it has waited (R129, R130). -/
structure CombineEntry where
  ev : Event
  isOpen : Bool
  waited : Nat := 0
  deriving DecidableEq, Repr

/-- An output of a router or gateway: its combine buffer, the credits it holds for the next input buffer, and the
input last admitted (R125, R130). Before any admission the round robin begins after input 0 (DESIGN CHOICE: R130 names no
start). -/
structure RouterOut where
  entries : List CombineEntry := []
  credits : Nat := 32
  lastIn : Nat := 0
  deriving DecidableEq, Repr

/-- A pending request of the multicast expander: the group, the event whose fields the members take, and how many
members each lane has produced (R134). -/
structure McRequest where
  group : Nat
  ev : Event
  lanes : List Nat := [0, 0, 0, 0]
  deriving DecidableEq, Repr

/-- A cluster's router with its sequencer's doorbell FIFO. Inputs and outputs are keyed by port: 0–15 the quad ports,
16–19 the expander lanes, 20 the sequencer port, 21 the centre port, 22 the gateway port, 23–26 the adjacency channels
and 27–30 the plane links N, E, S, W, in the fixed order of R130. -/
structure Router where
  inputs : Assoc (List Event) := []
  outputs : Assoc RouterOut := []
  requests : List McRequest := []
  /-- The tile of each quad whose egress queue was taken last; where none was, the round robin begins with the quad's first
  tile (DESIGN CHOICE: R120 names no start). -/
  quadLast : Assoc Nat := []
  /-- The tile of each quad that took an event last; where none did, as in `quadLast`. -/
  ejectLast : Assoc Nat := []
  /-- Events that have left a quad output and wait for their tile to accept them, by quad (R125). -/
  ejects : Assoc (List Event) := []
  frcvd : Tags := {}
  srcvd : Tags := {}
  doorbell : List (BitVec 32) := []
  deriving DecidableEq, Repr

/-! ### Far rows (R144–R158) -/

/-- A fetch request (R145): target cluster and tile, far row, due step, the cluster whose credit it holds (none in the
remote partition), and whether it is a refetch. -/
structure FetchRequest where
  cluster : Nat
  tile : Nat
  f : Nat
  due : Nat
  source : Option Nat
  refetch : Bool := false
  deriving DecidableEq, Repr

/-- A prefetch hint, with the tile (64 · cluster + tile) and the step whose update sent it (R156). -/
structure FetchHint where
  cluster : Nat
  tile : Nat
  f : Nat
  source : Nat
  step : Nat
  deriving DecidableEq, Repr

/-- A row being read: where it goes, the address of its first line, its length, and lines already sent (R149). -/
structure ReadJob where
  cluster : Nat
  tile : Nat
  f : Nat
  addr : Nat
  len : Nat
  sent : Nat := 0
  deriving DecidableEq, Repr

/-- A fetch engine: its queue, hint queue, the directory lines it holds with the most recently used last, the rows it is
reading, and the speculative lines sent to each cluster in the present frame (R146, R149, R150, R157). -/
structure FetchEngine where
  queue : List FetchRequest := []
  hints : List FetchHint := []
  dirLines : List Nat := []
  jobs : List ReadJob := []
  spec : Assoc Nat := []
  lastSlot : Nat := 0
  /-- Lines that the package has served in the present frame, directory reads among them (R162). -/
  frameLines : Nat := 0
  deriving DecidableEq, Repr

/-- A tag of a far-row cache that is PENDING or PRESENT; an ABSENT tag is not listed (R151). -/
structure FarTag where
  tile : Nat
  f : Nat
  present : Bool
  prefetch : Bool
  due : Nat := 0
  demanded : Bool := false
  issued : Bool := false
  len : Nat := 0
  data : List Byte := []
  badLines : List Nat := []
  /-- The directory line or the row itself could not be read: its events are discarded. -/
  failed : Bool := false
  expanded : Bool := false
  deriving DecidableEq, Repr

/-- A line on the bulk network: KIND, the cluster it serves, its destination endpoint as 7 · switch + port, and, for a FETCH
line, its row and place (R160). -/
structure BulkLine where
  kind : Nat
  clu : Nat
  dest : Nat := 0
  tile : Nat := 0
  f : Nat := 0
  index : Nat := 0
  data : List Byte := []
  bad : Bool := false
  deriving DecidableEq, Repr

/-- A record of a spill area: the word with bits 59:54 replaced (R83) and the origin kind and marks it keeps. -/
structure SpillRecord where
  word : Word64
  stream : Bool
  carried : Bool
  payBad : Bool
  deriving DecidableEq, Repr

/-- A cluster's far-row cache, spill write buffer and spill regions by slot number, and the lines that have reached its
local port. Tags are listed least recently used first. -/
structure ClusterStore where
  tags : List FarTag := []
  spillBuffer : List (Nat × SpillRecord) := []
  spill : Assoc (List SpillRecord) := []
  /-- Lines of records on their way to a region, by slot number, and on their way back, by step (R84, R86). -/
  spillOut : List (Nat × List SpillRecord) := []
  spillBack : List (Nat × List SpillRecord) := []
  /-- Place of the head record of each region's circular buffer, in records (R83). -/
  spillHead : Assoc Nat := []
  landed : List BulkLine := []
  deriving DecidableEq, Repr

/-! ### Steps and gaits (R89–R113) -/

/-- A step in flight: its release time, its due time and the policy, shed mask and gait fixed at its release (R107), the
most severe status reported for it (R105), and whether it has overrun. -/
structure StepFlight where
  n : Nat
  releasedAt : Nat
  due : Option Nat
  policy : Nat
  shed : Nat
  status : Status := .ok
  overrun : Bool := false
  /-- The completing round's sums, once the master has found the step complete (R211). -/
  sums : List Nat := []
  deriving DecidableEq, Repr

/-- What GAIT commands have staged for the next release (R212). -/
structure StagedGait where
  gait : Option Nat := none
  policy : Option Nat := none
  len : Option Nat := none
  floor : Option Nat := none
  shed : Option Nat := none
  deriving DecidableEq, Repr

/-- A running STEP command: its count, the steps it still releases (none: without limit), the released steps whose
record is owed, the newest step it released, the gait of its first release (R101), and whether it has ended (R104, R211).
-/
structure StepRun where
  run : RunCmd
  remaining : Option Nat
  owed : List Nat := []
  newest : Option Nat := none
  gait : Nat := 0
  ended : Bool := false
  deriving DecidableEq, Repr

/-- A REDUCE record: what a device contributes to a reduction round (R94, R338). -/
structure Reduction where
  done : Nat
  sdone : Nat
  fsent : Tags
  frcvd : Tags
  ssent : Tags
  srcvd : Tags
  status : Status
  check : Nat
  deriving DecidableEq, Repr

/-- The step machine of the device. -/
structure Fabric where
  staged : StagedGait := {}
  /-- The newest release and the newest completion that the tiles and injectors of this device have learned of (R92,
  R95). -/
  learned : Nat := 0
  known : Nat := 0
  flights : List StepFlight := []
  runs : List StepRun := []
  /-- Broadcasts to go down the spanning tree, as kind and step, and broadcasts for this device to learn of, with the
  step clock at their arrival (R338, R345). -/
  sends : List (Nat × Nat) := []
  news : List (Nat × Nat × Nat) := []
  /-- The newest step whose nominal time the step timer has reached (R374). -/
  nominal : Nat := 0
  /-- The step and time at which nominal times are anchored under Trot (R102). -/
  anchor : Option (Nat × Nat) := none
  lastRelease : Nat := 0
  /-- The stream window that is open, and whether it has closed (R98). -/
  window : Nat := 0
  windowOpen : Bool := false
  /-- The newest window found drained (R98). -/
  drained : Nat := 0
  /-- Stream injectors: 0–15 sequencers, 16 Dense, 17–22 Intake ports; what each has sent and the window it is done
  with. -/
  ssent : Assoc Tags := []
  sdone : Assoc Nat := []
  /-- REDUCE records of the children of the spanning tree, by link (R94, R345). -/
  children : Assoc Reduction := []
  /-- A step mismatch stops releases (R89). -/
  mismatch : Bool := false
  /-- HOLDUP_OK has read 1 since device start (R389). -/
  holdupSeen : Bool := false
  /-- A count settle holds releases (R466). -/
  settling : Bool := false
  /-- When a count of the oldest incomplete step last changed, for COMPLETE_LAT_MAX (R96). -/
  countsAt : Nat := 0
  /-- The reduced sums of the completing round of the last complete step (R211). -/
  lastSums : List Nat := []
  /-- The status of the last complete step (R223). -/
  lastStatus : Status := .ok
  /-- What the last reduction round found, which tells when counts last changed (R96, R466). -/
  lastRound : Option Reduction := none
  /-- When the last round ran, and when a round last found other values than the round before it. -/
  roundAt : Nat := 0
  changedAt : Nat := 0
  /-- The record to be sent to the parent (R345). -/
  upward : Option Reduction := none
  /-- Engines whose running command holds the next release until it is done (R21, R225). -/
  hold : List Nat := []
  /-- Up to when BUSY_NS of the Fabric engine holds its time (R239). -/
  busyAt : Nat := 0
  /-- Statuses reported for steps not yet released (R105). -/
  early : Assoc Status := []
  /-- The release that began the drain of a schedule change (R164). -/
  drainStep : Nat := 0
  /-- CATCHUP_PCT of the step master, as its last release broadcast brought it (R115). -/
  masterCatchup : Nat := 25
  /-- Values in force until the next release of objects whose write takes effect then (R141, R166). -/
  untilRelease : Assoc Nat := []
  deriving DecidableEq, Repr

/-! ### Plasticity (R169–R202) -/

/-- A plastic row of a cluster: near row or far row of one tile. -/
structure RowName where
  tile : Nat
  far : Bool
  row : Nat
  deriving DecidableEq, Repr

/-- A far pre-report: the row, the origin step of the spike, its multiplicity, and the class SRC_CLS of the row's group
(R174, R175). -/
structure PreReport where
  row : RowName
  m : Nat
  cnt : Nat
  srcCls : Nat
  deriving DecidableEq, Repr

/-- A post report of one neuron: the CNT of a firing and the port-3 sum (R177). -/
structure PostReport where
  tile : Nat
  neuron : Nat
  cnt : Nat
  err : Int
  deriving DecidableEq, Repr

/-- A post record (R177): S_POST and E_ACC. -/
structure PostRecord where
  tile : Nat
  neuron : Nat
  sPost : Nat
  eAcc : Int
  deriving DecidableEq, Repr

/-- An entry of the prune watch table (R186). -/
structure WatchEntry where
  tile : Nat
  row : Nat
  slot : Nat
  first : Nat
  last : Nat
  deriving DecidableEq, Repr

/-- A row whose sweep has begun: x_pre and s_pre as read from its PLX, and the weight word it is at (R182, R191). -/
structure SweepRow where
  row : RowName
  xPre : Nat
  sPre : Nat
  word : Nat
  /-- Synapses sprouted so far and the place in the candidate list (R189). -/
  sprouted : Nat := 0
  cand : Nat := 0
  deriving DecidableEq, Repr

/-- A field of a plastic row's word still to be written by a compaction or a sprout: its row, byte offset, lowest bit, width and
value; the last one of a compaction or sprout also counts it (R185, R191). -/
structure RowEdit where
  row : RowName
  off : Nat
  bit : Nat
  width : Nat
  value : Nat
  pruned : Bool := false
  sprouted : Bool := false
  deriving DecidableEq, Repr

/-- A cluster's plasticity engine. `closed` lists the rows of the closed dirty list that are still to be swept. -/
structure PlastEngine where
  dirty : List RowName := []
  closed : List RowName := []
  current : Option SweepRow := none
  sweeping : Bool := false
  sweepFrom : Nat := 0
  /-- PLX of the far plastic rows that have an entry (R176). -/
  farPlx : List (RowName × Nat) := []
  pre : List PreReport := []
  postQueue : List PostReport := []
  post : List PostRecord := []
  postClosed : List PostRecord := []
  candidates : List PostRecord := []
  watch : List WatchEntry := []
  prune : List (Nat × Nat × Nat) := []
  /-- What is left to write of the compaction or sprout in progress. -/
  edits : List RowEdit := []
  groomCursor : Nat := 0
  /-- Writes to far rows that the cached copy still lacks: row, byte offset and word (R185). -/
  cacheWrites : List (RowName × Nat × Nat) := []
  deriving DecidableEq, Repr

/-- Learning, the journal and the Stable of the device. -/
structure Learning where
  /-- Group entries by number: as written, and as in force since the last capture (R172, R173). -/
  groups : Assoc Nat := []
  groupsCaptured : Assoc Nat := []
  engines : Assoc PlastEngine := []
  /-- Steps released since the last capture or load; EPOCH_L as it governs the present epoch (R179). -/
  epochSteps : Nat := 0
  epochLen : Nat := 0
  /-- The present epoch has ended with this step and its capture is due since the time given (R180). -/
  ending : Option (Nat × Nat) := none
  /-- Whether the time the capture has waited is noted; when the present sweep began (R180, R181). -/
  waitNoted : Bool := false
  sweepFrom : Nat := 0
  /-- A LEARN_EPOCH waits for this capture (R213). -/
  command : Bool := false
  /-- Rows on the closed dirty lists, and the status that the LEARN_EPOCH of the epoch carries (R213). -/
  closedRows : Nat := 0
  epochStatus : Status := .ok
  /-- Plastic rows in Stable order with the offset of each in the row area (R287). -/
  rows : List (Nat × RowName × Nat) := []
  /-- Bytes staged and drained since the load; the generation in which each run of staged bytes began (R191, R192). -/
  staged : Nat := 0
  drained : Nat := 0
  genStarts : List (Nat × Nat) := []
  /-- Whether WORD records are staged that no COMMIT has closed yet (R196). -/
  uncommitted : Bool := false
  /-- The generation the drain writes and its place in its half, and when it last wrote a block. -/
  drainGen : Nat := 0
  drainPos : Nat := 0
  drainedAt : Nat := 0
  /-- Since when a full staging buffer or generation has held the sweep of each cluster. -/
  heldFrom : Assoc Nat := []
  /-- A consolidation is requested; when the last one began; whether one runs; rows changed since (R193). -/
  consolWant : Bool := false
  consolAt : Option Nat := none
  consolRunning : Bool := false
  changed : List (Nat × RowName) := []
  /-- Which superblock copy is valid, and its SEQ (R288). -/
  superB : Bool := false
  superSeq : Nat := 0
  /-- Write passes and physical page by page, for pages that differ from 0 passes and from their own place; pages that
  wait for a remap (R197, R290). -/
  wear : Assoc Nat := []
  remap : Assoc Nat := []
  remapWant : List Nat := []
  /-- Journalling and consolidating have stopped (R199). -/
  degraded : Bool := false
  /-- Uncorrectable W8P words that wait for their rewrite, by cluster, row and word (R200). -/
  recover : List (Nat × RowName × Nat) := []
  /-- The flush mark of the wear counters (R290). -/
  flushMark : Bool := true
  /-- Where the image keeps its copy of far rows: address, bytes and address of the copy (R200). -/
  farCopies : List (Nat × Nat × Nat) := []
  deriving DecidableEq, Repr

/-! ### Census (R222, R223) -/

/-- A Census group: its definition and what it has gathered since its last record. -/
structure CensusGroup where
  rtype : Nat
  clu : Nat
  tile : Nat
  nfirst : Nat
  ncount : Nat
  win : Nat
  rqueue : Nat
  period : Nat
  queue : Nat
  fromStep : Nat
  firings : Nat := 0
  spikes : Nat := 0
  updates : Nat := 0
  vec : Assoc Nat := []
  deriving DecidableEq, Repr

/-! ### Host ports (R354–R373) -/

/-- A dictionary write that arrives in segments: the device it is for, its object, TOTAL, and the data so far (R355, R363). -/
structure StagedWrite where
  dev : Nat
  index : Nat
  sub : Nat
  total : Nat
  data : List Byte
  deriving DecidableEq, Repr

/-- The place of a request among the replies of its session: opcode, TAG, and the answer once it is known (R365). -/
structure HeldReply where
  op : Nat
  tag : Nat
  answer : Option (Status × List Byte) := none
  deriving DecidableEq, Repr

/-- An HTP session: who speaks, the version in use, the NOTIFY mask, a staged write, the replies not yet sent, and the time of
its last frame (R364–R366). -/
structure Session where
  peer : Peer
  version : Nat
  mask : Nat := 0
  staged : Option StagedWrite := none
  replies : List HeldReply := []
  lastAt : Nat := 0
  deriving DecidableEq, Repr

/-- An SDO transfer in segments: whether it writes, its object, the bytes written so far or left to read, and the time of
its last segment (R367). -/
structure SdoTransfer where
  write : Bool
  index : Nat
  sub : Nat
  data : List Byte
  lastAt : Nat
  deriving DecidableEq, Repr

/-- A copy of the persisted dictionary in the serial flash: its PDV and SEQ, whether its CRC holds, and its entries (R357). -/
structure PdCopy where
  pdv : Nat := 1
  seq : Nat := 0
  valid : Bool := false
  entries : List (Nat × Nat) := []
  deriving DecidableEq, Repr

/-- A dictionary access forwarded to another device: the tag of its CTRL flits, the device and object, the HTP request it
answers, whether a piece is to be sent and when the last was; for a read OFFSET, the bytes asked for and those received, for a
write all the data (R371). -/
structure RemoteAccess where
  tag : Nat
  dev : Nat
  index : Nat
  sub : Nat
  write : Bool
  peer : Peer
  htpTag : Nat
  due : Bool := true
  sentAt : Nat
  offset : Nat := 0
  want : Nat := 0
  data : List Byte := []
  deriving DecidableEq, Repr

/-- An access of another device that this device serves in pieces: the source and tag of its flits, and the data staged by a
write or left to read (R355, R371). -/
structure ServedAccess where
  dev : Nat
  tag : Nat
  write : Bool
  index : Nat
  sub : Nat
  data : List Byte
  deriving DecidableEq, Repr

/-- The host ports of the device. -/
structure HostPorts where
  sessions : List Session := []
  /-- When each EMCY code was last sent; records that wait for CAN to leave bus-off (R370). -/
  emcyAt : Assoc Nat := []
  emcyWait : List (Nat × List Byte) := []
  sdo : Option SdoTransfer := none
  /-- When each TPDO was last sent, and the start of its event time (R369). -/
  tpdoAt : Assoc Nat := []
  tpdoFrom : Assoc Nat := []
  /-- TPDOs whose mapped values are waiting for the inhibit time. -/
  tpdoWant : List Nat := []
  heartbeatAt : Nat := 0
  /-- The host has enabled remote wakeup, and configured the device (R361). -/
  usbWakeup : Bool := false
  usbConfigured : Bool := false
  /-- NOM_RATE, DATA_RATE, NOM_SP and DATA_SP as the CAN controller uses them since the last reset communication (R372). -/
  canTiming : List Nat := [500, 2000, 800, 750]
  pdA : PdCopy := {}
  pdB : PdCopy := {}
  remote : List RemoteAccess := []
  remoteTag : Nat := 0
  served : List ServedAccess := []
  deriving DecidableEq, Repr

/-! ### Intake (R299–R326) -/

/-- An Intake port: its maps as loaded (R301, R307, R313, R315), the time-high value and anchors of its stamping, the
sequence table, and the state of its Rein. -/
structure IntakePort where
  decodeMap : Option (List Byte) := none
  /-- The intake map of a sensor port, the flow table of an Ethernet port. -/
  intakeMap : Option (List Byte) := none
  graph : Option (List Byte) := none
  th : Nat := 0
  /-- D of R305, and S0 and T0 of R306; none from ARM, from a gait change and from a change of P until the next packet. -/
  d : Option Int := none
  anchor : Option (Nat × Int) := none
  /-- The last SEQ of each stream seen since ARM, at most 64 of them (R312). -/
  seqs : Assoc Nat := []
  /-- Events of the head batch already injected, and WR when the last window closed (R317). -/
  taken : Nat := 0
  closeWr : BitVec 32 := 0
  /-- The automatic Rein and since when it has been asserted (R318). -/
  rein : Bool := false
  reinAt : Nat := 0
  /-- When the last PAUSE or PFC frame was sent (R320). -/
  pauseAt : Nat := 0
  /-- Until when a received PAUSE or PFC frame holds the port's own transmitter, and the frames that wait for it (R310). -/
  txUntil : Nat := 0
  deriving DecidableEq, Repr

/-! ### The loaded harness (R57, R216, R229) -/

/-- What the device keeps of the image: where its copy in LPDDR5X lies, and the code and data in the SRAM of each
sequencer. -/
structure HarnessCopy where
  img : Nat := 0
  hfv : Nat := 1
  seqCode : Assoc (List Byte) := []
  seqData : Assoc (List Byte) := []
  /-- REST of class 0 as loaded, the V of formed words (R29). -/
  rest0 : Int := 0
  /-- An unload has begun (R235). -/
  unloading : Bool := false
  deriving DecidableEq, Repr
/-! ### Power (16, 17, 21) -/

/-- The power stage and the always-on domain. -/
structure Power where
  /-- Since when the device has been in Brace (R393). -/
  brace : Option Nat := none
  /-- The regulators are off: the device waits for a feed, a release of RESET_N or a restart (R396, R401, R437, R481). -/
  off : Bool := false
  /-- RESET_N is held low (R481). -/
  resetHeld : Bool := false
  /-- The inrush limiter is bypassed; when the hold-up was last checked and whether it passed (R388). -/
  bypassed : Bool := false
  holdupAt : Option Nat := none
  /-- Nanoseconds in RUN, IDLE, HOLD, WATCH, Brace and LOW_INPUT since the accounting counters were cleared, up to `acctFrom`
  (R407). -/
  acctNs : List Nat := [0, 0, 0, 0, 0, 0]
  acctFrom : Nat := 0
  /-- The end of the entry to the present sleep state; a wake source that fires before it aborts the entry (R401). -/
  entryUntil : Nat := 0
  /-- Whether a feed that becomes present turns the device on (R404). -/
  feedWake : Bool := true
  /-- Bring-up: when it began, the retries of stage 0 and whether stage 2 has been retried (R411). -/
  startAt : Nat := 0
  railRetries : Nat := 0
  retryAt : Option Nat := none
  clockRetried : Bool := false
  /-- CAN frames held by the always-on detector at a wake, or while a handover runs, with what the world answers to a write
  in each (R404, R450). -/
  heldCan : List (Nat × List Byte × WriteFacts) := []
  /-- Time the governor's level last changed, since when the average has been low, up to when its time is
  counted, and its last 10-µs sample (R399). -/
  govRaised : Nat := 0
  govLow : Option Nat := none
  govSample : Nat := 0
  govTick : Nat := 0
  /-- The Farrier: the last re-plan, since when the temperature has differed from its own, that temperature, since when one
  is due, whether it is deferred, and the last rise of VDD_CORE; VDD_CORE itself in mV (R418–R420). -/
  planAt : Option Nat := none
  planHot : Option Nat := none
  planTemp : Int := 0
  planDue : Option Nat := none
  planDeferred : Bool := false
  /-- Whether the re-plan has set VDD_CORE and waits for a consolidation to end (R420). -/
  planCore : Bool := false
  bumpAt : Nat := 0
  vcore : Nat := 800
  /-- Links that a re-plan still retrains, and when it began the last one (R420). -/
  planLinks : List Nat := []
  planLinkAt : Nat := 0
  /-- When the last refresh pass ended; the page a running pass takes next (R421). -/
  refreshedAt : Nat := 0
  refreshPage : Option Nat := none
  /-- The harness parked in LPDDR5X while in WATCH (R403). -/
  parked : Bool := false
  deriving DecidableEq, Repr

/-! ### Tether links (13) and count settles (20) -/

/-- States of training (R333). -/
inductive TrainPhase where
  | detect | equalise | blockLock | config | agree | lock
  deriving DecidableEq, Repr

/-- A sequenced flit kept until it is acknowledged: SEQ, FTYPE, CLASS and bytes 8–123 (R336, R340). -/
structure SentFlit where
  seq : Nat
  ftype : Nat
  cls : Bool
  payload : List Byte
  deriving DecidableEq, Repr

/-- The receiver of one lane (R327, R331): the last 58 bits received, what waits for deskew (`none` marks an ALIGN), whether its
elastic buffer may still adjust itself in the present period, and invalid blocks. -/
structure RxLane where
  scr : Nat := 0
  fifo : List (Option (BitVec 64)) := []
  mayAdjust : Bool := false
  invalid : Nat := 0
  deriving DecidableEq, Repr

/-- One Tether link. -/
structure Link where
  phase : TrainPhase := .detect
  fast : Bool := false
  /-- The training starts both ends afresh (R335). -/
  fresh : Bool := true
  phaseFrom : Nat := 0
  /-- Fast attempts failed in succession; since when the link is DOWN or REFUSED (R333). -/
  fails : Nat := 0
  downFrom : Nat := 0
  /-- Lanes dropped by degrade, how often each has been, and the symbols corrected on each in a millisecond (R346). -/
  dropped : Nat := 0
  drops : List Nat := [0, 0, 0, 0]
  corr : List Nat := [0, 0, 0, 0]
  corrAt : Nat := 0
  /-- SEQ of the next flit, and the last SEQ accepted. -/
  txSeq : Nat := 0
  rxLast : Nat := 4095
  /-- A NAK has been asked for in the present gap; the next header carries it (R339). -/
  gapNak : Bool := false
  nakOut : Bool := false
  /-- Flits accepted and not yet acknowledged, and since when (R339). -/
  unacked : Nat := 0
  unackedFrom : Nat := 0
  /-- A NAK has been received; the LINK flit of R335 is awaited. -/
  nakIn : Bool := false
  resume : Bool := false
  replay : List SentFlit := []
  /-- The place in the replay buffer that is resent next. -/
  replayAt : Option Nat := none
  /-- When ACK last advanced, replays since then, and since when the buffer is full (R340). -/
  ackAt : Nat := 0
  stuck : Nat := 0
  fullFrom : Option Nat := none
  /-- By pool: credits held, the count of freed places last received, places freed here; the pool of the next header. -/
  credits : List Nat := [64, 64, 32, 16, 16, 16]
  told : List Nat := [0, 0, 0, 0, 0, 0]
  freed : List Nat := [0, 0, 0, 0, 0, 0]
  crp : Nat := 0
  /-- EVENT flits whose place is not yet free, oldest first: CLASS and events (R342). -/
  rxEvents : List (Bool × Nat) := []
  /-- Payloads waiting: REDUCE and BROADCAST, HITCH, CTRL-REP, CTRL-REQ, BULK. -/
  sync : List (List Byte) := []
  hitch : List (List Byte) := []
  reps : List (List Byte) := []
  reqs : List (List Byte) := []
  bulk : List (List Byte) := []
  /-- The turn in the round of 8 of EVENT and BULK. -/
  turn : Nat := 0
  /-- Since when each pool has held a flit without credit, and whether that has been reported. -/
  noCredit : Assoc (Nat × Bool) := []
  /-- Since when events wait for a link that is not UP (R347, R350). -/
  holdAt : Option Nat := none
  /-- The first TS1 after parking (R350). -/
  ts1At : Option Nat := none
  /-- The receiver's lanes, its block since ALIGN in rotation, and whether it seeks an ALIGN on every lane (R331). -/
  lanes : List RxLane := [{}, {}, {}, {}]
  rxIndex : Nat := 0
  seeking : Bool := false
  /-- The transmitter: the last 58 bits sent on each lane, and codewords since ALIGN (R327, R331). -/
  txScr : List Nat := [0, 0, 0, 0]
  txCount : Nat := 0
  /-- The end of Spur (R349). -/
  spurUntil : Option Nat := none
  deriving DecidableEq, Repr

/-- A count settle as the master runs it (R466): whether the counts are being zeroed, the devices whose reply is awaited,
when the settle began, the deficit, and the sums before the counts were zeroed. -/
structure SettleRun where
  zeroing : Bool
  awaited : List Nat
  since : Nat
  deficit : Nat
  before : Option Reduction := none
  deriving DecidableEq, Repr

/-- The links of the device and what its firmware keeps for them. -/
structure Tether where
  /-- TORUS_SHAPE and ROLE as of power-up (R351). -/
  shape : Nat := 0x040404
  roles : List Nat := [0, 1, 2, 3, 4, 5, 0, 1]
  links : Assoc Link := []
  /-- Child links of the spanning tree with the devices below each, and those that became children at the last build
  (R345). -/
  children : List (Nat × List Nat) := []
  newChildren : List Nat := []
  /-- Broadcasts received and not yet acted on: link, kind and step. -/
  heard : List (Nat × Nat × Nat) := []
  /-- BULK lines received, for the firmware: link, bytes 8–15 and the line (R343). -/
  lines : List (Nat × Nat × List Byte) := []
  /-- Prepared route tables by the link each avoids; the lost link whose table waits; the armed shadow routes held events
  (R468). -/
  prepared : Assoc (List (Nat × Nat)) := []
  waiting : Option Nat := none
  rerouted : Bool := false
  /-- Devices that the tree does not reach, each with the time since when, and devices lost (R467). -/
  unreached : Assoc Nat := []
  lost : List Nat := []
  settle : Option SettleRun := none
  deriving DecidableEq, Repr

/-! ### Timers (15) -/

/-- What a general timer holds beside its objects (R376–R379): preloads, those written in the cycle of a wrap, the match and
wrap of the present tick, whether that wrap cuts a shortened period, a DIRECT write of CMP since the tick, and the step clock
at the last tick. -/
structure Timer where
  perPl : Nat := 0
  cmpPl : Nat := 0
  perLate : Bool := false
  cmpLate : Bool := false
  matched : Bool := false
  wrapped : Bool := false
  short : Bool := false
  cmpWritten : Bool := false
  tickAt : Nat := 0
  deriving DecidableEq, Repr

/-- What a capture channel holds beside its objects (R380, R381): CAPPOS, edges since the last capture, the shadow register as
capture, position and cycle, the cycle of the last read of CAP with CAPF as it was, and the device time of the last accepted
edge. -/
structure Encoder where
  capPos : Nat := 0
  edges : Nat := 0
  shadow : Option (Nat × Nat × Nat) := none
  readAt : Option (Nat × Bool) := none
  edgeAt : Option Nat := none
  deriving DecidableEq, Repr

/-- The timer block: the slow-clock edge at which it froze, that after the wake at which time is made up, the 64ths of a nanosecond
carried, and the armed wakes by timer (R382, R384). -/
structure TimerBlock where
  timers : Assoc Timer := []
  encoders : Assoc Encoder := []
  frozen : Option Nat := none
  dueEdge : Nat := 0
  carry : Nat := 0
  wakeAt : Assoc Nat := []
  /-- Flags set in a timer cycle, which a write of 1 in that cycle leaves set (R379): object, bit, cycle. -/
  fresh : List (Nat × Nat × Nat) := []
  deriving DecidableEq, Repr

/-! ### Security and firmware (18, 19) -/

/-- Keys, the Bridle area and the Tack Room (R428–R440). -/
structure Security where
  /-- Keys of the Tack Room by handle (R428). -/
  keys : Assoc Nat := []
  /-- The keys in the DEVICE and OWNER contexts of the LPDDR5X controller (R293). -/
  xtsDevice : Option Nat := none
  xtsOwner : Option Nat := none
  /-- Private keys that the Bridle area keeps sealed, and OPK (R429, R435). -/
  idk : Option Nat := none
  exk : Option Nat := none
  osk : Option Nat := none
  opk : List Byte := []
  /-- The challenge in force and when it was drawn (R436). -/
  challenge : Option (List Byte × Nat) := none
  /-- The end of a Tack Room wipe that runs (R285). -/
  wipeUntil : Option Nat := none
  /-- The TRNG failed, or a tamper source was active, at the start: no key is installed (R429, R440). -/
  noKeys : Bool := false
  /-- Whether it was the TRNG: no key is installed before the next start (R429). -/
  trngFailed : Bool := false
  /-- A tamper event wiped the Tack Room in WATCH: the wake is a cold start (R440). -/
  coldWake : Bool := false
  /-- When the Bridle last looked whether a tamper source is still active (R440). -/
  checkedAt : Nat := 0
  /-- A restart by the always-on domain 100 ms after a power-off is due from this time, with its cause (R437, R440). -/
  restartAt : Option (Nat × Nat) := none
  deriving DecidableEq, Repr

/-- What the device keeps of a bank's image (R446): SVN, the digests of SEQMON and FABRIC_UC by TYPE, the PDV it writes and the
oldest it migrates from, the four version ranges, the highest SFV and TSV, the digests of SADDLE and BRIDLE, and the MIGRATE
records as pairs of old and new object, 0 for an object dropped. -/
structure BankImage where
  svn : Nat := 0
  uc : Assoc (List Byte) := []
  pdv : Nat × Nat := (1, 1)
  ranges : List Nat := [0x0101, 0x0101, 0x0101, 0x0101]
  sfv : Nat := 1
  tsv : Nat := 1
  saddle : Nat := 0
  bridle : Option Nat := none
  migrate : List (Nat × Nat) := []
  deriving DecidableEq, Repr

/-- Reception, activation and probation of a firmware image (19). -/
structure Update where
  /-- The blocks held, by index, the chain of devices with the status of each, and the predecessor in another's chain (R447,
  R448). -/
  blocks : Assoc (List Byte) := []
  chain : List Nat := []
  chainStatus : List Status := []
  chainFrom : Option Nat := none
  /-- Retries of the block that comes along the chain (R448). -/
  retries : Nat := 0
  /-- Since when a bank has been on probation, and the Saddle restarts in it (R452, R453). -/
  probationFrom : Option Nat := none
  restarts : Nat := 0
  /-- A handover whose new Saddle has not confirmed: since when, and whether it rolls back (R450, R453). -/
  handover : Option (Nat × Bool) := none
  /-- The request whose reply the new Saddle sends: who asked, with which OP and TAG (R450). -/
  asked : Option (Peer × Nat × Nat) := none
  /-- A swap of microcode holds the next release since this time (R451). -/
  swapFrom : Option Nat := none
  /-- The images of the two banks, and the digests of the microcode that runs, by TYPE (R445, R446, R451). -/
  imgA : BankImage := {}
  imgB : BankImage := {}
  ucRun : Assoc (List Byte) := []
  /-- The legacy slot: the copy saved before a migration, and the commits since (R454). -/
  legacy : Option PdCopy := none
  commitsSince : Nat := 0
  /-- No bank verified: the Bridle serves USB HTP alone (R455). -/
  recovery : Bool := false
  deriving DecidableEq, Repr


/-! ### What leaves the block -/

/-- What the block sends out of itself or answers, in order. -/
inductive OutMsg where
  | bankResponse (port : BankPort) (status : Status) (data : List Byte)
  /-- A CAN frame (R367–R370). -/
  | can (id : Nat) (data : List Byte)
  /-- A NOTIFY frame: kind, step or time, and what follows (R363). -/
  | notify (peer : Peer) (kind stamp : Nat) (data : List Byte)
  /-- A PAUSE or PFC frame sent by an Ethernet port with its quanta; the class vector for PFC (R320). -/
  | pause (e : Nat) (quanta : Nat) (classes : Option Nat)
  /-- USB remote wakeup signalled (R361). -/
  | usbWakeup
  /-- A flit sent on a link (R336). -/
  | flit (link : Nat) (bytes : List Byte)
  /-- A bulk line handed to what is attached at a port of a switch (R159, R160): KIND, CLU, destination endpoint, whether it
  is marked uncorrectable, and its bytes. -/
  | bulkLine (sw port kind clu dest : Nat) (bad : Bool) (data : List Byte)
  /-- Blocks sent on a link, each with its physical lane (R327, R330, R331). -/
  | blocks (link : Nat) (l : List (Nat × Block))
  /-- Ordered sets sent unscrambled, `count` times on each lane (R328, R333, R349, R350). -/
  | sets (link count : Nat) (l : List (Nat × Block))
  /-- A request or reply over CTRL to which the spec gives no encoding (R448, R466): the device, what it says, and a value. -/
  | ctrl (dev : Nat) (text : String) (value : Nat)
  /-- An HTP reply frame; MORE is set where another follows (R362, R363). -/
  | reply (peer : Peer) (op : Nat) (status : Status) (tag : Nat) (more : Bool) (data : List Byte)
  deriving DecidableEq, Repr

/-- Faults: none is raised, for every command of the table has an effect or is answered by a status; the constructor
stands for an access to state the spec says does not exist, which no meaning makes. Safe. -/
inductive Fault where
  | noSuchState
  deriving DecidableEq, Repr

/-- Refusals, raised by `exec` only: a command whose meaning has not been written. Safe. -/
inductive Refusal where
  | notModelled (mnemonic : String)
  deriving DecidableEq, Repr

/-! ### Passes and copies in progress (R219, R220, R228) -/

/-- How far a Dense pass has come: 64 × 64 blocks computed, events of the last one that wait for their centre port, events
injected, and whether one failed R123. -/
structure DensePass where
  blocks : Nat := 0
  waiting : List Event := []
  sent : Nat := 0
  bad : Bool := false
  deriving DecidableEq, Repr

/-- How far a copy has come: bytes written, whether a read was uncorrectable, and whether a write was refused. -/
structure Moved where
  bytes : Nat := 0
  ecc : Bool := false
  refused : Bool := false
  deriving DecidableEq, Repr

/-! ### The machine -/

/-- The fitted variant (R1). -/
inductive Variant where
  | d64 | d32 | d64e
  deriving DecidableEq, Repr

/-- The state of the block. -/
structure State where
  /-- Commands that wait, first in first out. -/
  pending : List Instr
  /-- How many free values have been drawn: the argument of the next `Config.freeBits`. -/
  free : Nat
  /-- Device time in ns. -/
  now : Nat
  /-- The step clock in ns (R374). -/
  clock : Nat
  variant : Variant
  /-- Dictionary objects that differ from their defaults, by 256 · index + sub-index. -/
  regs : Assoc Nat
  /-- Byte-addressed memories, by device address (R14). -/
  mem : List Host.Cell
  /-- Ranges of LPDDR5X whose content reads as unintelligible, with the nonce of each: first address, end, nonce (R293, R433). -/
  veils : List (Nat × Nat × Nat)
  resp : Response
  out : List OutMsg
  /-- Frames of each Ethernet port that wait while its transmitter is paused (R310). -/
  txHeld : Assoc (List OutMsg)
  /-- Cluster sequencers whose user code waits in WFI (R229). -/
  seqWait : List Nat
  flog : List FaultEntry
  flogSeq : Nat
  /-- The seconds or steps in which an entry that a rule limits to one each has been written, by its kind and unit. -/
  logGate : Assoc (List Nat)
  queues : Assoc Queue
  comb : List CombEntry
  lastStatus : Assoc (Nat × Nat)
  engines : Assoc Engine
  hitches : Assoc Hitch
  hitchNet : List HitchFlight
  /-- Hitch messages for other devices, waiting for the SYNC channel. -/
  syncOut : List HitchFlight
  /-- Operations sent to a home on another device and not yet answered. -/
  hitchAwait : List HitchFlight
  failedNodes : List Nat
  windows : Assoc Window
  bankWait : Assoc (List StalledAccess)
  /-- Active class entries by class, each with the first step it holds for, newest first (R34). -/
  classes : Assoc (List (Nat × ClassEntry))
  /-- Tiles by 64 · cluster + tile; a tile without an image is not listed (R30). -/
  tiles : Assoc Tile
  /-- SRAM_CORR of each tile by 64 · cluster + tile; no harness owns it (R274). -/
  sramCorr : Assoc Nat
  /-- Initial words of neurons by 16,384 · (64 · cluster + tile) + neuron, kept with the image (R29, R52). -/
  initial : Assoc Nat
  routers : Assoc Router
  /-- Router outputs of the gateways, one per Tether link (R122), and their merge counts. -/
  gateways : Assoc RouterOut
  gatewayFrcvd : Tags
  gatewaySrcvd : Tags
  /-- Route table entries for E = 0 and E = 1, by device (R135, R136). -/
  route0 : Assoc Nat
  route1 : Assoc Nat
  /-- Multicast group and member entries for E = 0 and E = 1, by cluster and number (R132, R133). -/
  groups0 : Assoc Nat
  groups1 : Assoc Nat
  members0 : Assoc Nat
  members1 : Assoc Nat
  stores : Assoc ClusterStore
  fetch : Assoc FetchEngine
  /-- Events on their way from a router's gateway port, by cluster; events received from each link and not yet passed
  on; which centre port of a side the next event for another device takes (R122, R123). -/
  gateIn : Assoc (List Event)
  gateRx : Assoc (List Event)
  centreNext : Assoc Nat
  /-- Events held at each gateway for want of remote fetch room (R148). -/
  remoteHold : Assoc (List Event)
  /-- Address of each cluster's spill area (R83, R163). -/
  spillAt : Assoc Nat
  /-- Slot table entries of the two versions by 256 · (7 · switch + output) + slot; which is active; lines waiting at
  the switch inputs (R160, R164). -/
  slots0 : Assoc Nat
  slots1 : Assoc Nat
  slotVersion : Bool
  switchIn : Assoc (List BulkLine)
  drainFrom : Option Nat
  fabric : Fabric
  learning : Learning
  /-- Census groups by number (R222). -/
  census : Assoc CensusGroup
  /-- How far the pass of the Dense engine and the copy of the Mover have come (R219, R220, R228). -/
  dense : DensePass
  moved : Moved
  host : HostPorts
  intake : Assoc IntakePort
  power : Power
  security : Security
  update : Update
  harness : HarnessCopy
  tether : Tether
  timing : TimerBlock
  deriving DecidableEq, Repr

/-- The block right after reset: every field as the spec gives it at device start, or at the value the log names. -/
def State.reset : State :=
  { pending := [], free := 0, now := 0, clock := 0, variant := .d64, regs := [], mem := [], veils := [], resp := {}, out := [], txHeld := [],
    seqWait := [],
    flog := [], flogSeq := 0, logGate := [], queues := [], comb := [], lastStatus := [], engines := [], hitches := [],
    hitchNet := [], syncOut := [], hitchAwait := [], failedNodes := [], windows := [], bankWait := [],
    classes := [], tiles := [], sramCorr := [], initial := [], routers := [], gateways := [], gatewayFrcvd := {}, gatewaySrcvd := {},
    gateIn := [], gateRx := [], centreNext := [],
    route0 := [], route1 := [], groups0 := [], groups1 := [], members0 := [], members1 := [], stores := [],
    fetch := [], remoteHold := [], spillAt := [], slots0 := [], slots1 := [], slotVersion := false, switchIn := [],
    drainFrom := none, fabric := {}, learning := {}, census := [], dense := {}, moved := {}, host := {},
    intake := [], power := {}, security := {}, update := {}, harness := {}, tether := {}, timing := {} }

end Sys2Proof.Machine
end

