-- ==== Sys2Proof/Machine/Objects.lean ====
section
/-!
DEFINITION. The object dictionary: every object of the spec's tables with its place, type, access code, default and
whether it is persisted (R10, R11, R354), in the order of the tables. `Row.X` is a table row, `Reg.X` the object; an
object of a numbered unit takes the unit's number, an object over several sub-indices their offset. Where a table
gives no number for a default ('fuses', 'firmware', 'from record'), 0 stands for it, but for LC_STATE (TEST) and the
state of bank A (ACTIVE): DESIGN CHOICE.
-/
namespace Sys2Proof.Machine
open Sys2Proof

/-- DECAY at device start: entry 0 is 0, entries 1–63 are 0x8000 (R32). -/
def decayDefault : Nat := (List.range 63).foldl (fun a i => a + 0x8000 * 2 ^ (16 * (i + 1))) 0


/-- THETA, 0x3100+k:01 (R32). -/
def Row.THETA : ObjRow := ⟨0x3100, 256, 0x01, 0x01, .i32, .rw, 4096, false⟩
abbrev Reg.THETA (i : Nat) : Obj := Row.THETA.obj i 0

/-- REST, 0x3100+k:02 (R32). -/
def Row.REST : ObjRow := ⟨0x3100, 256, 0x02, 0x02, .i32, .rw, 0, false⟩
abbrev Reg.REST (i : Nat) : Obj := Row.REST.obj i 0

/-- FLOOR, 0x3100+k:03 (R32). -/
def Row.FLOOR : ObjRow := ⟨0x3100, 256, 0x03, 0x03, .i32, .rw, 4294443008, false⟩
abbrev Reg.FLOOR (i : Nat) : Obj := Row.FLOOR.obj i 0

/-- RESET_MODE, 0x3100+k:04 (R32). -/
def Row.RESET_MODE : ObjRow := ⟨0x3100, 256, 0x04, 0x04, .u8, .rw, 0, false⟩
abbrev Reg.RESET_MODE (i : Nat) : Obj := Row.RESET_MODE.obj i 0

/-- DECAY, 0x3100+k:05 (R32). -/
def Row.DECAY : ObjRow := ⟨0x3100, 256, 0x05, 0x05, (.domain 128), .rw, decayDefault, false⟩
abbrev Reg.DECAY (i : Nat) : Obj := Row.DECAY.obj i 0

/-- BEYOND, 0x3100+k:06 (R32). -/
def Row.BEYOND : ObjRow := ⟨0x3100, 256, 0x06, 0x06, .u8, .rw, 0, false⟩
abbrev Reg.BEYOND (i : Nat) : Obj := Row.BEYOND.obj i 0

/-- REFRACT, 0x3100+k:07 (R32). -/
def Row.REFRACT : ObjRow := ⟨0x3100, 256, 0x07, 0x07, .u8, .rw, 0, false⟩
abbrev Reg.REFRACT (i : Nat) : Obj := Row.REFRACT.obj i 0

/-- SCALE0, 0x3100+k:08 (R32). -/
def Row.SCALE0 : ObjRow := ⟨0x3100, 256, 0x08, 0x08, .u32, .rw, 0x00000001, false⟩
abbrev Reg.SCALE0 (i : Nat) : Obj := Row.SCALE0.obj i 0

/-- SCALE1, 0x3100+k:09 (R32). -/
def Row.SCALE1 : ObjRow := ⟨0x3100, 256, 0x09, 0x09, .u32, .rw, 0x00000000, false⟩
abbrev Reg.SCALE1 (i : Nat) : Obj := Row.SCALE1.obj i 0

/-- SCALE2, 0x3100+k:0A (R32). -/
def Row.SCALE2 : ObjRow := ⟨0x3100, 256, 0x0A, 0x0A, .u32, .rw, 0x00000000, false⟩
abbrev Reg.SCALE2 (i : Nat) : Obj := Row.SCALE2.obj i 0

/-- SCALE3, 0x3100+k:0B (R32). -/
def Row.SCALE3 : ObjRow := ⟨0x3100, 256, 0x0B, 0x0B, .u32, .rw, 0x00000000, false⟩
abbrev Reg.SCALE3 (i : Nat) : Obj := Row.SCALE3.obj i 0

/-- TAU_PRE, 0x3100+k:0C (R32). -/
def Row.TAU_PRE : ObjRow := ⟨0x3100, 256, 0x0C, 0x0C, .u16, .rw, 0x6666, false⟩
abbrev Reg.TAU_PRE (i : Nat) : Obj := Row.TAU_PRE.obj i 0

/-- TAU_POST, 0x3100+k:0D (R32). -/
def Row.TAU_POST : ObjRow := ⟨0x3100, 256, 0x0D, 0x0D, .u16, .rw, 0x6666, false⟩
abbrev Reg.TAU_POST (i : Nat) : Obj := Row.TAU_POST.obj i 0

/-- TRACE_INC, 0x3100+k:0E (R32). -/
def Row.TRACE_INC : ObjRow := ⟨0x3100, 256, 0x0E, 0x0E, .u16, .rw, 0x2020, false⟩
abbrev Reg.TRACE_INC (i : Nat) : Obj := Row.TRACE_INC.obj i 0

/-- BIAS, 0x3100+k:0F (R32). -/
def Row.BIAS : ObjRow := ⟨0x3100, 256, 0x0F, 0x0F, .i32, .rw, 0, false⟩
abbrev Reg.BIAS (i : Nat) : Obj := Row.BIAS.obj i 0

/-- OUT_MODE, 0x3100+k:10 (R32). -/
def Row.OUT_MODE : ObjRow := ⟨0x3100, 256, 0x10, 0x10, .u8, .rw, 0, false⟩
abbrev Reg.OUT_MODE (i : Nat) : Obj := Row.OUT_MODE.obj i 0

/-- SPIKE_TAG, 0x3100+k:11 (R32). -/
def Row.SPIKE_TAG : ObjRow := ⟨0x3100, 256, 0x11, 0x11, .u16, .rw, 0, false⟩
abbrev Reg.SPIKE_TAG (i : Nat) : Obj := Row.SPIKE_TAG.obj i 0

/-- MULTI, 0x3100+k:12 (R32). -/
def Row.MULTI : ObjRow := ⟨0x3100, 256, 0x12, 0x12, .u8, .rw, 0, false⟩
abbrev Reg.MULTI (i : Nat) : Obj := Row.MULTI.obj i 0

/-- PRECISE, 0x3100+k:13 (R32). -/
def Row.PRECISE : ObjRow := ⟨0x3100, 256, 0x13, 0x13, .bool, .rw, 0x00, false⟩
abbrev Reg.PRECISE (i : Nat) : Obj := Row.PRECISE.obj i 0

/-- PF_MARGIN, 0x3100+k:14 (R32). -/
def Row.PF_MARGIN : ObjRow := ⟨0x3100, 256, 0x14, 0x14, .i32, .rw, 0, false⟩
abbrev Reg.PF_MARGIN (i : Nat) : Obj := Row.PF_MARGIN.obj i 0

/-- COMMIT, 0x3100+k:20 (R32). -/
def Row.COMMIT : ObjRow := ⟨0x3100, 256, 0x20, 0x20, .u8, .wo, 0, false⟩
abbrev Reg.COMMIT (i : Nat) : Obj := Row.COMMIT.obj i 0

/-- UPD_COUNT, 0x6020:01 (R55). -/
def Row.UPD_COUNT : ObjRow := ⟨0x6020, 1, 0x01, 0x01, .u64, .ro, 0, false⟩
abbrev Reg.UPD_COUNT : Obj := Row.UPD_COUNT.obj 0 0

/-- ACC_SPILL, 0x6020:02 (R55). -/
def Row.ACC_SPILL : ObjRow := ⟨0x6020, 1, 0x02, 0x02, .u32, .ro, 0, false⟩
abbrev Reg.ACC_SPILL : Obj := Row.ACC_SPILL.obj 0 0

/-- DM_CONTRIB, 0x6020:03 (R55). -/
def Row.DM_CONTRIB : ObjRow := ⟨0x6020, 1, 0x03, 0x03, .u64, .ro, 0, false⟩
abbrev Reg.DM_CONTRIB : Obj := Row.DM_CONTRIB.obj 0 0

/-- PORT_SAT, 0x6020:04 (R55). -/
def Row.PORT_SAT : ObjRow := ⟨0x6020, 1, 0x04, 0x04, .u32, .ro, 0, false⟩
abbrev Reg.PORT_SAT : Obj := Row.PORT_SAT.obj 0 0

/-- V_SAT, 0x6020:05 (R55). -/
def Row.V_SAT : ObjRow := ⟨0x6020, 1, 0x05, 0x05, .u32, .ro, 0, false⟩
abbrev Reg.V_SAT : Obj := Row.V_SAT.obj 0 0

/-- MF_SURPLUS, 0x6020:06 (R55). -/
def Row.MF_SURPLUS : ObjRow := ⟨0x6020, 1, 0x06, 0x06, .u32, .ro, 0, false⟩
abbrev Reg.MF_SURPLUS : Obj := Row.MF_SURPLUS.obj 0 0

/-- BURST_CAP, 0x6020:07 (R55). -/
def Row.BURST_CAP : ObjRow := ⟨0x6020, 1, 0x07, 0x07, .u32, .ro, 0, false⟩
abbrev Reg.BURST_CAP : Obj := Row.BURST_CAP.obj 0 0

/-- REFR_DISCARD, 0x6020:08 (R55). -/
def Row.REFR_DISCARD : ObjRow := ⟨0x6020, 1, 0x08, 0x08, .u32, .ro, 0, false⟩
abbrev Reg.REFR_DISCARD : Obj := Row.REFR_DISCARD.obj 0 0

/-- DEAD_DISCARD, 0x6020:09 (R55). -/
def Row.DEAD_DISCARD : ObjRow := ⟨0x6020, 1, 0x09, 0x09, .u32, .ro, 0, false⟩
abbrev Reg.DEAD_DISCARD : Obj := Row.DEAD_DISCARD.obj 0 0

/-- GROOM_TOUCH, 0x6020:0A (R55). -/
def Row.GROOM_TOUCH : ObjRow := ⟨0x6020, 1, 0x0A, 0x0A, .u64, .ro, 0, false⟩
abbrev Reg.GROOM_TOUCH : Obj := Row.GROOM_TOUCH.obj 0 0

/-- TONIC_UPD, 0x6020:0B (R55). -/
def Row.TONIC_UPD : ObjRow := ⟨0x6020, 1, 0x0B, 0x0B, .u64, .ro, 0, false⟩
abbrev Reg.TONIC_UPD : Obj := Row.TONIC_UPD.obj 0 0

/-- NEU_REINIT, 0x6020:0C (R55). -/
def Row.NEU_REINIT : ObjRow := ⟨0x6020, 1, 0x0C, 0x0C, .u32, .ro, 0, false⟩
abbrev Reg.NEU_REINIT : Obj := Row.NEU_REINIT.obj 0 0

/-- WIN_REFUSED, 0x6020:0D (R55). -/
def Row.WIN_REFUSED : ObjRow := ⟨0x6020, 1, 0x0D, 0x0D, .u32, .ro, 0, false⟩
abbrev Reg.WIN_REFUSED : Obj := Row.WIN_REFUSED.obj 0 0

/-- FIRINGS, 0x6020:0E (R55). -/
def Row.FIRINGS : ObjRow := ⟨0x6020, 1, 0x0E, 0x0E, .u64, .ro, 0, false⟩
abbrev Reg.FIRINGS : Obj := Row.FIRINGS.obj 0 0

/-- RFV_RANGE, 0x3200:01 (R87). -/
def Row.RFV_RANGE : ObjRow := ⟨0x3200, 1, 0x01, 0x01, .u16, .ro, 0x0101, false⟩
abbrev Reg.RFV_RANGE : Obj := Row.RFV_RANGE.obj 0 0

/-- NEAR_SYN_MAX, 0x3200:02 (R87). -/
def Row.NEAR_SYN_MAX : ObjRow := ⟨0x3200, 1, 0x02, 0x02, .u32, .ro, 4096, false⟩
abbrev Reg.NEAR_SYN_MAX : Obj := Row.NEAR_SYN_MAX.obj 0 0

/-- FAR_SYN_MAX, 0x3200:03 (R87). -/
def Row.FAR_SYN_MAX : ObjRow := ⟨0x3200, 1, 0x03, 0x03, .u32, .ro, 65536, false⟩
abbrev Reg.FAR_SYN_MAX : Obj := Row.FAR_SYN_MAX.obj 0 0

/-- SIDE_MAX, 0x3200:04 (R87). -/
def Row.SIDE_MAX : ObjRow := ⟨0x3200, 1, 0x04, 0x04, .u8, .ro, 64, false⟩
abbrev Reg.SIDE_MAX : Obj := Row.SIDE_MAX.obj 0 0

/-- NEAR_ROW_BYTES, 0x3200:05 (R87). -/
def Row.NEAR_ROW_BYTES : ObjRow := ⟨0x3200, 1, 0x05, 0x05, .u32, .ro, 225280, false⟩
abbrev Reg.NEAR_ROW_BYTES : Obj := Row.NEAR_ROW_BYTES.obj 0 0

/-- DRING_E, 0x3200:06 (R87). -/
def Row.DRING_E : ObjRow := ⟨0x3200, 1, 0x06, 0x06, .u16, .ro, 0, false⟩
abbrev Reg.DRING_E : Obj := Row.DRING_E.obj 0 0

/-- SPILL_SIZE, 0x3200:07 (R87). -/
def Row.SPILL_SIZE : ObjRow := ⟨0x3200, 1, 0x07, 0x07, .u32, .ro, 0, false⟩
abbrev Reg.SPILL_SIZE : Obj := Row.SPILL_SIZE.obj 0 0

/-- SPILL_HWM, 0x3200:08 (R87). -/
def Row.SPILL_HWM : ObjRow := ⟨0x3200, 1, 0x08, 0x08, .u8, .rw, 75, false⟩
abbrev Reg.SPILL_HWM : Obj := Row.SPILL_HWM.obj 0 0

/-- SPILL_ABOVE, 0x3200:09 (R87). -/
def Row.SPILL_ABOVE : ObjRow := ⟨0x3200, 1, 0x09, 0x09, .bits32, .ro, 0x00000000, false⟩
abbrev Reg.SPILL_ABOVE : Obj := Row.SPILL_ABOVE.obj 0 0

/-- ROWS_EXP, 0x6040:01 (R88). -/
def Row.ROWS_EXP : ObjRow := ⟨0x6040, 1, 0x01, 0x01, .u64, .ro, 0, false⟩
abbrev Reg.ROWS_EXP : Obj := Row.ROWS_EXP.obj 0 0

/-- SYN_EXP, 0x6040:02 (R88). -/
def Row.SYN_EXP : ObjRow := ⟨0x6040, 1, 0x02, 0x02, .u64, .ro, 0, false⟩
abbrev Reg.SYN_EXP : Obj := Row.SYN_EXP.obj 0 0

/-- ESC_USED, 0x6040:03 (R88). -/
def Row.ESC_USED : ObjRow := ⟨0x6040, 1, 0x03, 0x03, .u64, .ro, 0, false⟩
abbrev Reg.ESC_USED : Obj := Row.ESC_USED.obj 0 0

/-- ESC_MISS, 0x6040:04 (R88). -/
def Row.ESC_MISS : ObjRow := ⟨0x6040, 1, 0x04, 0x04, .u32, .ro, 0, false⟩
abbrev Reg.ESC_MISS : Obj := Row.ESC_MISS.obj 0 0

/-- GRADED_SAT, 0x6040:05 (R88). -/
def Row.GRADED_SAT : ObjRow := ⟨0x6040, 1, 0x05, 0x05, .u32, .ro, 0, false⟩
abbrev Reg.GRADED_SAT : Obj := Row.GRADED_SAT.obj 0 0

/-- TGT_RANGE, 0x6040:06 (R88). -/
def Row.TGT_RANGE : ObjRow := ⟨0x6040, 1, 0x06, 0x06, .u32, .ro, 0, false⟩
abbrev Reg.TGT_RANGE : Obj := Row.TGT_RANGE.obj 0 0

/-- ROW_INVALID, 0x6040:07 (R88). -/
def Row.ROW_INVALID : ObjRow := ⟨0x6040, 1, 0x07, 0x07, .u32, .ro, 0, false⟩
abbrev Reg.ROW_INVALID : Obj := Row.ROW_INVALID.obj 0 0

/-- DLY_SPILL, 0x6040:08 (R88). -/
def Row.DLY_SPILL : ObjRow := ⟨0x6040, 1, 0x08, 0x08, .u32, .ro, 0, false⟩
abbrev Reg.DLY_SPILL : Obj := Row.DLY_SPILL.obj 0 0

/-- DLY_DROP, 0x6040:09 (R88). -/
def Row.DLY_DROP : ObjRow := ⟨0x6040, 1, 0x09, 0x09, .u32, .ro, 0, false⟩
abbrev Reg.DLY_DROP : Obj := Row.DLY_DROP.obj 0 0

/-- SPILL_HW_CROSS, 0x6040:0A (R88). -/
def Row.SPILL_HW_CROSS : ObjRow := ⟨0x6040, 1, 0x0A, 0x0A, .u32, .ro, 0, false⟩
abbrev Reg.SPILL_HW_CROSS : Obj := Row.SPILL_HW_CROSS.obj 0 0

/-- SPILL_PEAK, 0x6040:0B (R88). -/
def Row.SPILL_PEAK : ObjRow := ⟨0x6040, 1, 0x0B, 0x0B, .u32, .rc, 0, false⟩
abbrev Reg.SPILL_PEAK : Obj := Row.SPILL_PEAK.obj 0 0

/-- RING_PEAK, 0x6040:0C (R88). -/
def Row.RING_PEAK : ObjRow := ⟨0x6040, 1, 0x0C, 0x0C, .u16, .rc, 0, false⟩
abbrev Reg.RING_PEAK : Obj := Row.RING_PEAK.obj 0 0

/-- LANE_IDLE, 0x6040:0D (R88). -/
def Row.LANE_IDLE : ObjRow := ⟨0x6040, 1, 0x0D, 0x0D, .u64, .ro, 0, false⟩
abbrev Reg.LANE_IDLE : Obj := Row.LANE_IDLE.obj 0 0

/-- EV_EMIT, 0x6040:0E (R88). -/
def Row.EV_EMIT : ObjRow := ⟨0x6040, 1, 0x0E, 0x0E, .u64, .ro, 0, false⟩
abbrev Reg.EV_EMIT : Obj := Row.EV_EMIT.obj 0 0

/-- ROW_ECC, 0x6040:0F (R88). -/
def Row.ROW_ECC : ObjRow := ⟨0x6040, 1, 0x0F, 0x0F, .u32, .ro, 0, false⟩
abbrev Reg.ROW_ECC : Obj := Row.ROW_ECC.obj 0 0

/-- ROW_WIN_REFUSED, 0x6040:10 (R88). -/
def Row.ROW_WIN_REFUSED : ObjRow := ⟨0x6040, 1, 0x10, 0x10, .u32, .ro, 0, false⟩
abbrev Reg.ROW_WIN_REFUSED : Obj := Row.ROW_WIN_REFUSED.obj 0 0

/-- FARWAIT_STALL, 0x6040:11 (R88). -/
def Row.FARWAIT_STALL : ObjRow := ⟨0x6040, 1, 0x11, 0x11, .u64, .ro, 0, false⟩
abbrev Reg.FARWAIT_STALL : Obj := Row.FARWAIT_STALL.obj 0 0

/-- GAIT, 0x3000:01 (R114). -/
def Row.GAIT : ObjRow := ⟨0x3000, 1, 0x01, 0x01, .u8, .ro, 0, false⟩
abbrev Reg.GAIT : Obj := Row.GAIT.obj 0 0

/-- STEP_LEN_NS, 0x3000:02 (R114). -/
def Row.STEP_LEN_NS : ObjRow := ⟨0x3000, 1, 0x02, 0x02, .u32, .ro, 1000000, false⟩
abbrev Reg.STEP_LEN_NS : Obj := Row.STEP_LEN_NS.obj 0 0

/-- FLOOR_NS, 0x3000:03 (R114). -/
def Row.FLOOR_NS : ObjRow := ⟨0x3000, 1, 0x03, 0x03, .u32, .ro, 0, false⟩
abbrev Reg.FLOOR_NS : Obj := Row.FLOOR_NS.obj 0 0

/-- OVR_POLICY, 0x3000:04 (R114). -/
def Row.OVR_POLICY : ObjRow := ⟨0x3000, 1, 0x04, 0x04, .u8, .ro, 0, false⟩
abbrev Reg.OVR_POLICY : Obj := Row.OVR_POLICY.obj 0 0

/-- SHED_MASK, 0x3000:05 (R114). -/
def Row.SHED_MASK : ObjRow := ⟨0x3000, 1, 0x05, 0x05, .bits32, .ro, 0x00000003, false⟩
abbrev Reg.SHED_MASK : Obj := Row.SHED_MASK.obj 0 0

/-- CATCHUP_PCT, 0x3000:06 (R114). -/
def Row.CATCHUP_PCT : ObjRow := ⟨0x3000, 1, 0x06, 0x06, .u8, .rw, 25, false⟩
abbrev Reg.CATCHUP_PCT : Obj := Row.CATCHUP_PCT.obj 0 0

/-- OVR_MIN_PCT, 0x3000:07 (R114). -/
def Row.OVR_MIN_PCT : ObjRow := ⟨0x3000, 1, 0x07, 0x07, .u8, .rw, 50, false⟩
abbrev Reg.OVR_MIN_PCT : Obj := Row.OVR_MIN_PCT.obj 0 0

/-- LAG_LIMIT, 0x3000:08 (R114). -/
def Row.LAG_LIMIT : ObjRow := ⟨0x3000, 1, 0x08, 0x08, .u16, .rw, 256, false⟩
abbrev Reg.LAG_LIMIT : Obj := Row.LAG_LIMIT.obj 0 0

/-- LAG_ACTION, 0x3000:09 (R114). -/
def Row.LAG_ACTION : ObjRow := ⟨0x3000, 1, 0x09, 0x09, .u8, .rw, 0, false⟩
abbrev Reg.LAG_ACTION : Obj := Row.LAG_ACTION.obj 0 0

/-- STEP_RELEASED, 0x3000:0A (R114). -/
def Row.STEP_RELEASED : ObjRow := ⟨0x3000, 1, 0x0A, 0x0A, .u64, .ro, 0, false⟩
abbrev Reg.STEP_RELEASED : Obj := Row.STEP_RELEASED.obj 0 0

/-- STEP_COMPLETE, 0x3000:0B (R114). -/
def Row.STEP_COMPLETE : ObjRow := ⟨0x3000, 1, 0x0B, 0x0B, .u64, .ro, 0, false⟩
abbrev Reg.STEP_COMPLETE : Obj := Row.STEP_COMPLETE.obj 0 0

/-- LAG_NS, 0x3000:0C (R114). -/
def Row.LAG_NS : ObjRow := ⟨0x3000, 1, 0x0C, 0x0C, .u64, .ro, 0, false⟩
abbrev Reg.LAG_NS : Obj := Row.LAG_NS.obj 0 0

/-- LAG_STEPS, 0x3000:0D (R114). -/
def Row.LAG_STEPS : ObjRow := ⟨0x3000, 1, 0x0D, 0x0D, .u16, .ro, 0, false⟩
abbrev Reg.LAG_STEPS : Obj := Row.LAG_STEPS.obj 0 0

/-- MASTER, 0x3000:0E (R114). -/
def Row.MASTER : ObjRow := ⟨0x3000, 1, 0x0E, 0x0E, .bool, .ro, 0x00, false⟩
abbrev Reg.MASTER : Obj := Row.MASTER.obj 0 0

/-- STEPS_DONE, 0x6060:01 (R116). -/
def Row.STEPS_DONE : ObjRow := ⟨0x6060, 1, 0x01, 0x01, .u64, .ro, 0, false⟩
abbrev Reg.STEPS_DONE : Obj := Row.STEPS_DONE.obj 0 0

/-- OVERRUNS, 0x6060:02 (R116). -/
def Row.OVERRUNS : ObjRow := ⟨0x6060, 1, 0x02, 0x02, .u32, .ro, 0, false⟩
abbrev Reg.OVERRUNS : Obj := Row.OVERRUNS.obj 0 0

/-- LATE_CARRY, 0x6060:03 (R116). -/
def Row.LATE_CARRY : ObjRow := ⟨0x6060, 1, 0x03, 0x03, .u32, .ro, 0, false⟩
abbrev Reg.LATE_CARRY : Obj := Row.LATE_CARRY.obj 0 0

/-- LATE_DROP, 0x6060:04 (R116). -/
def Row.LATE_DROP : ObjRow := ⟨0x6060, 1, 0x04, 0x04, .u32, .ro, 0, false⟩
abbrev Reg.LATE_DROP : Obj := Row.LATE_DROP.obj 0 0

/-- SHED_SPIKE, 0x6060:05 (R116). -/
def Row.SHED_SPIKE : ObjRow := ⟨0x6060, 1, 0x05, 0x05, .u32, .ro, 0, false⟩
abbrev Reg.SHED_SPIKE : Obj := Row.SHED_SPIKE.obj 0 0

/-- SHED_GRADED, 0x6060:06 (R116). -/
def Row.SHED_GRADED : ObjRow := ⟨0x6060, 1, 0x06, 0x06, .u32, .ro, 0, false⟩
abbrev Reg.SHED_GRADED : Obj := Row.SHED_GRADED.obj 0 0

/-- SHED_ERROR, 0x6060:07 (R116). -/
def Row.SHED_ERROR : ObjRow := ⟨0x6060, 1, 0x07, 0x07, .u32, .ro, 0, false⟩
abbrev Reg.SHED_ERROR : Obj := Row.SHED_ERROR.obj 0 0

/-- SHED_HOLDBACK, 0x6060:08 (R116). -/
def Row.SHED_HOLDBACK : ObjRow := ⟨0x6060, 1, 0x08, 0x08, .u32, .ro, 0, false⟩
abbrev Reg.SHED_HOLDBACK : Obj := Row.SHED_HOLDBACK.obj 0 0

/-- LAG_MAX_NS, 0x6060:09 (R116). -/
def Row.LAG_MAX_NS : ObjRow := ⟨0x6060, 1, 0x09, 0x09, .u64, .rc, 0, false⟩
abbrev Reg.LAG_MAX_NS : Obj := Row.LAG_MAX_NS.obj 0 0

/-- LAG_MAX_STEPS, 0x6060:0A (R116). -/
def Row.LAG_MAX_STEPS : ObjRow := ⟨0x6060, 1, 0x0A, 0x0A, .u16, .rc, 0, false⟩
abbrev Reg.LAG_MAX_STEPS : Obj := Row.LAG_MAX_STEPS.obj 0 0

/-- LAG_LIMIT_HIT, 0x6060:0B (R116). -/
def Row.LAG_LIMIT_HIT : ObjRow := ⟨0x6060, 1, 0x0B, 0x0B, .u32, .ro, 0, false⟩
abbrev Reg.LAG_LIMIT_HIT : Obj := Row.LAG_LIMIT_HIT.obj 0 0

/-- STEP_SLIP, 0x6060:0C (R116). -/
def Row.STEP_SLIP : ObjRow := ⟨0x6060, 1, 0x0C, 0x0C, .u32, .ro, 0, false⟩
abbrev Reg.STEP_SLIP : Obj := Row.STEP_SLIP.obj 0 0

/-- STREAM_LATE, 0x6060:0D (R116). -/
def Row.STREAM_LATE : ObjRow := ⟨0x6060, 1, 0x0D, 0x0D, .u32, .ro, 0, false⟩
abbrev Reg.STREAM_LATE : Obj := Row.STREAM_LATE.obj 0 0

/-- LATE_ARRIVE, 0x6060:0E (R116). -/
def Row.LATE_ARRIVE : ObjRow := ⟨0x6060, 1, 0x0E, 0x0E, .u32, .ro, 0, false⟩
abbrev Reg.LATE_ARRIVE : Obj := Row.LATE_ARRIVE.obj 0 0

/-- COMPLETE_LAT_MAX, 0x6060:0F (R116). -/
def Row.COMPLETE_LAT_MAX : ObjRow := ⟨0x6060, 1, 0x0F, 0x0F, .u32, .rc, 0, false⟩
abbrev Reg.COMPLETE_LAT_MAX : Obj := Row.COMPLETE_LAT_MAX.obj 0 0

/-- SYNC_MISMATCH, 0x6060:10 (R116). -/
def Row.SYNC_MISMATCH : ObjRow := ⟨0x6060, 1, 0x10, 0x10, .u32, .ro, 0, false⟩
abbrev Reg.SYNC_MISMATCH : Obj := Row.SYNC_MISMATCH.obj 0 0

/-- ROUTE_E, 0x3300:01 (R141). -/
def Row.ROUTE_E : ObjRow := ⟨0x3300, 1, 0x01, 0x01, .bool, .ro, 0x00, false⟩
abbrev Reg.ROUTE_E : Obj := Row.ROUTE_E.obj 0 0

/-- ROUTE_STATE, 0x3300:02 (R141). -/
def Row.ROUTE_STATE : ObjRow := ⟨0x3300, 1, 0x02, 0x02, .u8, .ro, 0, false⟩
abbrev Reg.ROUTE_STATE : Obj := Row.ROUTE_STATE.obj 0 0

/-- ROUTE_ARM, 0x3300:03 (R141). -/
def Row.ROUTE_ARM : ObjRow := ⟨0x3300, 1, 0x03, 0x03, .u8, .wo, 0, false⟩
abbrev Reg.ROUTE_ARM : Obj := Row.ROUTE_ARM.obj 0 0

/-- ROUTE_SWITCH, 0x3300:04 (R141). -/
def Row.ROUTE_SWITCH : ObjRow := ⟨0x3300, 1, 0x04, 0x04, .u8, .wo, 0, false⟩
abbrev Reg.ROUTE_SWITCH : Obj := Row.ROUTE_SWITCH.obj 0 0

/-- ROUTE_SHADOW, 0x3300:05 (R141). -/
def Row.ROUTE_SHADOW : ObjRow := ⟨0x3300, 1, 0x05, 0x05, (.domain 256), .rw, 0, false⟩
abbrev Reg.ROUTE_SHADOW : Obj := Row.ROUTE_SHADOW.obj 0 0

/-- ROUTE_ACTIVE, 0x3300:06 (R141). -/
def Row.ROUTE_ACTIVE : ObjRow := ⟨0x3300, 1, 0x06, 0x06, (.domain 256), .ro, 0, false⟩
abbrev Reg.ROUTE_ACTIVE : Obj := Row.ROUTE_ACTIVE.obj 0 0

/-- SWITCH_STEP, 0x3300:07 (R141). -/
def Row.SWITCH_STEP : ObjRow := ⟨0x3300, 1, 0x07, 0x07, .u64, .ro, 0, false⟩
abbrev Reg.SWITCH_STEP : Obj := Row.SWITCH_STEP.obj 0 0

/-- COMBINE_CLS, 0x3300:08 (R141). -/
def Row.COMBINE_CLS : ObjRow := ⟨0x3300, 1, 0x08, 0x08, .bits32, .rw, 0x00000003, false⟩
abbrev Reg.COMBINE_CLS : Obj := Row.COMBINE_CLS.obj 0 0

/-- COMBINE_HOLD, 0x3300:09 (R141). -/
def Row.COMBINE_HOLD : ObjRow := ⟨0x3300, 1, 0x09, 0x09, .u8, .rw, 0, false⟩
abbrev Reg.COMBINE_HOLD : Obj := Row.COMBINE_HOLD.obj 0 0

/-- THR1, 0x3300:0A (R141). -/
def Row.THR1 : ObjRow := ⟨0x3300, 1, 0x0A, 0x0A, .u8, .rw, 32, false⟩
abbrev Reg.THR1 : Obj := Row.THR1.obj 0 0

/-- THR2, 0x3300:0B (R141). -/
def Row.THR2 : ObjRow := ⟨0x3300, 1, 0x0B, 0x0B, .u8, .rw, 64, false⟩
abbrev Reg.THR2 : Obj := Row.THR2.obj 0 0

/-- THR3, 0x3300:0C (R141). -/
def Row.THR3 : ObjRow := ⟨0x3300, 1, 0x0C, 0x0C, .u8, .rw, 112, false⟩
abbrev Reg.THR3 : Obj := Row.THR3.obj 0 0

/-- EGRESS_DEPTH, 0x3300:0D (R141). -/
def Row.EGRESS_DEPTH : ObjRow := ⟨0x3300, 1, 0x0D, 0x0D, .u8, .ro, 128, false⟩
abbrev Reg.EGRESS_DEPTH : Obj := Row.EGRESS_DEPTH.obj 0 0

/-- INBUF_DEPTH, 0x3300:0E (R141). -/
def Row.INBUF_DEPTH : ObjRow := ⟨0x3300, 1, 0x0E, 0x0E, .u8, .ro, 32, false⟩
abbrev Reg.INBUF_DEPTH : Obj := Row.INBUF_DEPTH.obj 0 0

/-- COMBINE_DEPTH, 0x3300:0F (R141). -/
def Row.COMBINE_DEPTH : ObjRow := ⟨0x3300, 1, 0x0F, 0x0F, .u8, .ro, 64, false⟩
abbrev Reg.COMBINE_DEPTH : Obj := Row.COMBINE_DEPTH.obj 0 0

/-- MC_GROUPS_MAX, 0x3300:10 (R141). -/
def Row.MC_GROUPS_MAX : ObjRow := ⟨0x3300, 1, 0x10, 0x10, .u16, .ro, 4096, false⟩
abbrev Reg.MC_GROUPS_MAX : Obj := Row.MC_GROUPS_MAX.obj 0 0

/-- MC_MEMBERS_MAX, 0x3300:11 (R141). -/
def Row.MC_MEMBERS_MAX : ObjRow := ⟨0x3300, 1, 0x11, 0x11, .u16, .ro, 16384, false⟩
abbrev Reg.MC_MEMBERS_MAX : Obj := Row.MC_MEMBERS_MAX.obj 0 0

/-- MC_GROUPS_SHADOW, 0x3310+c:01 (R142). -/
def Row.MC_GROUPS_SHADOW : ObjRow := ⟨0x3310, 16, 0x01, 0x01, (.domain 16384), .rw, 0, false⟩
abbrev Reg.MC_GROUPS_SHADOW (i : Nat) : Obj := Row.MC_GROUPS_SHADOW.obj i 0

/-- MC_MEMBERS_SHADOW, 0x3310+c:02 (R142). -/
def Row.MC_MEMBERS_SHADOW : ObjRow := ⟨0x3310, 16, 0x02, 0x02, (.domain 131072), .rw, 0, false⟩
abbrev Reg.MC_MEMBERS_SHADOW (i : Nat) : Obj := Row.MC_MEMBERS_SHADOW.obj i 0

/-- MC_GROUPS_ACTIVE, 0x3310+c:03 (R142). -/
def Row.MC_GROUPS_ACTIVE : ObjRow := ⟨0x3310, 16, 0x03, 0x03, (.domain 16384), .ro, 0, false⟩
abbrev Reg.MC_GROUPS_ACTIVE (i : Nat) : Obj := Row.MC_GROUPS_ACTIVE.obj i 0

/-- MC_MEMBERS_ACTIVE, 0x3310+c:04 (R142). -/
def Row.MC_MEMBERS_ACTIVE : ObjRow := ⟨0x3310, 16, 0x04, 0x04, (.domain 131072), .ro, 0, false⟩
abbrev Reg.MC_MEMBERS_ACTIVE (i : Nat) : Obj := Row.MC_MEMBERS_ACTIVE.obj i 0

/-- EV_ROUTED, 0x6070:01 (R143). -/
def Row.EV_ROUTED : ObjRow := ⟨0x6070, 1, 0x01, 0x01, .u64, .ro, 0, false⟩
abbrev Reg.EV_ROUTED : Obj := Row.EV_ROUTED.obj 0 0

/-- EV_EJECT, 0x6070:02 (R143). -/
def Row.EV_EJECT : ObjRow := ⟨0x6070, 1, 0x02, 0x02, .u64, .ro, 0, false⟩
abbrev Reg.EV_EJECT : Obj := Row.EV_EJECT.obj 0 0

/-- MERGES, 0x6070:03 (R143). -/
def Row.MERGES : ObjRow := ⟨0x6070, 1, 0x03, 0x03, .u64, .ro, 0, false⟩
abbrev Reg.MERGES : Obj := Row.MERGES.obj 0 0

/-- MERGE_SPLIT, 0x6070:04 (R143). -/
def Row.MERGE_SPLIT : ObjRow := ⟨0x6070, 1, 0x04, 0x04, .u32, .ro, 0, false⟩
abbrev Reg.MERGE_SPLIT : Obj := Row.MERGE_SPLIT.obj 0 0

/-- MC_MEMBERS, 0x6070:05 (R143). -/
def Row.MC_MEMBERS : ObjRow := ⟨0x6070, 1, 0x05, 0x05, .u64, .ro, 0, false⟩
abbrev Reg.MC_MEMBERS : Obj := Row.MC_MEMBERS.obj 0 0

/-- STALL_ADJ, 0x6070:06 (R143). -/
def Row.STALL_ADJ : ObjRow := ⟨0x6070, 1, 0x06, 0x06, .u64, .ro, 0, false⟩
abbrev Reg.STALL_ADJ : Obj := Row.STALL_ADJ.obj 0 0

/-- STALL_MH, 0x6070:07 (R143). -/
def Row.STALL_MH : ObjRow := ⟨0x6070, 1, 0x07, 0x07, .u64, .ro, 0, false⟩
abbrev Reg.STALL_MH : Obj := Row.STALL_MH.obj 0 0

/-- STALL_EJECT, 0x6070:08 (R143). -/
def Row.STALL_EJECT : ObjRow := ⟨0x6070, 1, 0x08, 0x08, .u64, .ro, 0, false⟩
abbrev Reg.STALL_EJECT : Obj := Row.STALL_EJECT.obj 0 0

/-- COMB_FULL, 0x6070:09 (R143). -/
def Row.COMB_FULL : ObjRow := ⟨0x6070, 1, 0x09, 0x09, .u64, .ro, 0, false⟩
abbrev Reg.COMB_FULL : Obj := Row.COMB_FULL.obj 0 0

/-- COMB_PEAK, 0x6070:0A (R143). -/
def Row.COMB_PEAK : ObjRow := ⟨0x6070, 1, 0x0A, 0x0A, .u8, .rc, 0, false⟩
abbrev Reg.COMB_PEAK : Obj := Row.COMB_PEAK.obj 0 0

/-- EGRESS_PEAK, 0x6070:0B (R143). -/
def Row.EGRESS_PEAK : ObjRow := ⟨0x6070, 1, 0x0B, 0x0B, .u8, .rc, 0, false⟩
abbrev Reg.EGRESS_PEAK : Obj := Row.EGRESS_PEAK.obj 0 0

/-- THR1_CYC, 0x6070:0C (R143). -/
def Row.THR1_CYC : ObjRow := ⟨0x6070, 1, 0x0C, 0x0C, .u64, .ro, 0, false⟩
abbrev Reg.THR1_CYC : Obj := Row.THR1_CYC.obj 0 0

/-- THR2_CYC, 0x6070:0D (R143). -/
def Row.THR2_CYC : ObjRow := ⟨0x6070, 1, 0x0D, 0x0D, .u64, .ro, 0, false⟩
abbrev Reg.THR2_CYC : Obj := Row.THR2_CYC.obj 0 0

/-- THR3_CYC, 0x6070:0E (R143). -/
def Row.THR3_CYC : ObjRow := ⟨0x6070, 1, 0x0E, 0x0E, .u64, .ro, 0, false⟩
abbrev Reg.THR3_CYC : Obj := Row.THR3_CYC.obj 0 0

/-- FIRE_PAUSE, 0x6070:0F (R143). -/
def Row.FIRE_PAUSE : ObjRow := ⟨0x6070, 1, 0x0F, 0x0F, .u64, .ro, 0, false⟩
abbrev Reg.FIRE_PAUSE : Obj := Row.FIRE_PAUSE.obj 0 0

/-- FENCED_DISCARD, 0x6070:10 (R143). -/
def Row.FENCED_DISCARD : ObjRow := ⟨0x6070, 1, 0x10, 0x10, .u32, .ro, 0, false⟩
abbrev Reg.FENCED_DISCARD : Obj := Row.FENCED_DISCARD.obj 0 0

/-- HDR_CORR, 0x6070:11 (R143). -/
def Row.HDR_CORR : ObjRow := ⟨0x6070, 1, 0x11, 0x11, .u32, .ro, 0, false⟩
abbrev Reg.HDR_CORR : Obj := Row.HDR_CORR.obj 0 0

/-- PAY_CORR, 0x6070:12 (R143). -/
def Row.PAY_CORR : ObjRow := ⟨0x6070, 1, 0x12, 0x12, .u32, .ro, 0, false⟩
abbrev Reg.PAY_CORR : Obj := Row.PAY_CORR.obj 0 0

/-- PAY_UNCORR, 0x6070:13 (R143). -/
def Row.PAY_UNCORR : ObjRow := ⟨0x6070, 1, 0x13, 0x13, .u32, .ro, 0, false⟩
abbrev Reg.PAY_UNCORR : Obj := Row.PAY_UNCORR.obj 0 0

/-- DOORBELL_DROP, 0x6070:14 (R143). -/
def Row.DOORBELL_DROP : ObjRow := ⟨0x6070, 1, 0x14, 0x14, .u32, .ro, 0, false⟩
abbrev Reg.DOORBELL_DROP : Obj := Row.DOORBELL_DROP.obj 0 0

/-- SVC_ACCEPT, 0x6070:15 (R143). -/
def Row.SVC_ACCEPT : ObjRow := ⟨0x6070, 1, 0x15, 0x15, .u32, .ro, 0, false⟩
abbrev Reg.SVC_ACCEPT : Obj := Row.SVC_ACCEPT.obj 0 0

/-- GW_TRANSIT, 0x6070:16 (R143). -/
def Row.GW_TRANSIT : ObjRow := ⟨0x6070, 1, 0x16, 0x16, .u64, .ro, 0, false⟩
abbrev Reg.GW_TRANSIT : Obj := Row.GW_TRANSIT.obj 0 0

/-- ARR_DEFER, 0x6070:17 (R143). -/
def Row.ARR_DEFER : ObjRow := ⟨0x6070, 1, 0x17, 0x17, .u64, .ro, 0, false⟩
abbrev Reg.ARR_DEFER : Obj := Row.ARR_DEFER.obj 0 0

/-- FQ_DEPTH, 0x3400:01 (R166). -/
def Row.FQ_DEPTH : ObjRow := ⟨0x3400, 1, 0x01, 0x01, .u16, .ro, 4096, false⟩
abbrev Reg.FQ_DEPTH : Obj := Row.FQ_DEPTH.obj 0 0

/-- CLU_CREDITS, 0x3400:02 (R166). -/
def Row.CLU_CREDITS : ObjRow := ⟨0x3400, 1, 0x02, 0x02, .u16, .ro, 192, false⟩
abbrev Reg.CLU_CREDITS : Obj := Row.CLU_CREDITS.obj 0 0

/-- REMOTE_ENTRIES, 0x3400:03 (R166). -/
def Row.REMOTE_ENTRIES : ObjRow := ⟨0x3400, 1, 0x03, 0x03, .u16, .ro, 1024, false⟩
abbrev Reg.REMOTE_ENTRIES : Obj := Row.REMOTE_ENTRIES.obj 0 0

/-- HOLDBACK_DEPTH, 0x3400:04 (R166). -/
def Row.HOLDBACK_DEPTH : ObjRow := ⟨0x3400, 1, 0x04, 0x04, .u16, .ro, 1024, false⟩
abbrev Reg.HOLDBACK_DEPTH : Obj := Row.HOLDBACK_DEPTH.obj 0 0

/-- FRC_LINES, 0x3400:05 (R166). -/
def Row.FRC_LINES : ObjRow := ⟨0x3400, 1, 0x05, 0x05, .u16, .ro, 8192, false⟩
abbrev Reg.FRC_LINES : Obj := Row.FRC_LINES.obj 0 0

/-- FRC_TAGS, 0x3400:06 (R166). -/
def Row.FRC_TAGS : ObjRow := ⟨0x3400, 1, 0x06, 0x06, .u16, .ro, 2048, false⟩
abbrev Reg.FRC_TAGS : Obj := Row.FRC_TAGS.obj 0 0

/-- SPEC_PCT, 0x3400:07 (R166). -/
def Row.SPEC_PCT : ObjRow := ⟨0x3400, 1, 0x07, 0x07, .u8, .rw, 25, false⟩
abbrev Reg.SPEC_PCT : Obj := Row.SPEC_PCT.obj 0 0

/-- SPEC_PCT_EFF, 0x3400:08 (R166). -/
def Row.SPEC_PCT_EFF : ObjRow := ⟨0x3400, 1, 0x08, 0x08, .u8, .ro, 25, false⟩
abbrev Reg.SPEC_PCT_EFF : Obj := Row.SPEC_PCT_EFF.obj 0 0

/-- PF_DEST_MAX, 0x3400:09 (R166). -/
def Row.PF_DEST_MAX : ObjRow := ⟨0x3400, 1, 0x09, 0x09, .u8, .rw, 8, false⟩
abbrev Reg.PF_DEST_MAX : Obj := Row.PF_DEST_MAX.obj 0 0

/-- PKG_SLOT_MAX, 0x3400:0A (R166). -/
def Row.PKG_SLOT_MAX : ObjRow := ⟨0x3400, 1, 0x0A, 0x0A, .u16, .ro, 192, false⟩
abbrev Reg.PKG_SLOT_MAX : Obj := Row.PKG_SLOT_MAX.obj 0 0

/-- SCHED_STATE, 0x3400:0B (R166). -/
def Row.SCHED_STATE : ObjRow := ⟨0x3400, 1, 0x0B, 0x0B, .u8, .ro, 0, false⟩
abbrev Reg.SCHED_STATE : Obj := Row.SCHED_STATE.obj 0 0

/-- SCHED_ARM, 0x3400:0C (R166). -/
def Row.SCHED_ARM : ObjRow := ⟨0x3400, 1, 0x0C, 0x0C, .u8, .wo, 0, false⟩
abbrev Reg.SCHED_ARM : Obj := Row.SCHED_ARM.obj 0 0

/-- SCHED_SWITCH, 0x3400:0D (R166). -/
def Row.SCHED_SWITCH : ObjRow := ⟨0x3400, 1, 0x0D, 0x0D, .u8, .wo, 0, false⟩
abbrev Reg.SCHED_SWITCH : Obj := Row.SCHED_SWITCH.obj 0 0

/-- SCHED_SWITCH_STEP, 0x3400:0E (R166). -/
def Row.SCHED_SWITCH_STEP : ObjRow := ⟨0x3400, 1, 0x0E, 0x0E, .u64, .ro, 0, false⟩
abbrev Reg.SCHED_SWITCH_STEP : Obj := Row.SCHED_SWITCH_STEP.obj 0 0

/-- SLOT_SHADOW, 0x3410+s:01 (R167). -/
def Row.SLOT_SHADOW : ObjRow := ⟨0x3410, 16, 0x01, 0x01, (.domain 3584), .rw, 0, false⟩
abbrev Reg.SLOT_SHADOW (i : Nat) : Obj := Row.SLOT_SHADOW.obj i 0

/-- SLOT_ACTIVE, 0x3410+s:02 (R167). -/
def Row.SLOT_ACTIVE : ObjRow := ⟨0x3410, 16, 0x02, 0x02, (.domain 3584), .ro, 0, false⟩
abbrev Reg.SLOT_ACTIVE (i : Nat) : Obj := Row.SLOT_ACTIVE.obj i 0

/-- FETCH_ISSUED, 0x6090:01 (R168). -/
def Row.FETCH_ISSUED : ObjRow := ⟨0x6090, 1, 0x01, 0x01, .u64, .ro, 0, false⟩
abbrev Reg.FETCH_ISSUED : Obj := Row.FETCH_ISSUED.obj 0 0

/-- FETCH_LINES, 0x6090:02 (R168). -/
def Row.FETCH_LINES : ObjRow := ⟨0x6090, 1, 0x02, 0x02, .u64, .ro, 0, false⟩
abbrev Reg.FETCH_LINES : Obj := Row.FETCH_LINES.obj 0 0

/-- FETCH_JOIN, 0x6090:03 (R168). -/
def Row.FETCH_JOIN : ObjRow := ⟨0x6090, 1, 0x03, 0x03, .u64, .ro, 0, false⟩
abbrev Reg.FETCH_JOIN : Obj := Row.FETCH_JOIN.obj 0 0

/-- DIR_MISS, 0x6090:04 (R168). -/
def Row.DIR_MISS : ObjRow := ⟨0x6090, 1, 0x04, 0x04, .u64, .ro, 0, false⟩
abbrev Reg.DIR_MISS : Obj := Row.DIR_MISS.obj 0 0

/-- FQ_PEAK, 0x6090:05 (R168). -/
def Row.FQ_PEAK : ObjRow := ⟨0x6090, 1, 0x05, 0x05, .u16, .rc, 0, false⟩
abbrev Reg.FQ_PEAK : Obj := Row.FQ_PEAK.obj 0 0

/-- FETCH_FENCED, 0x6090:06 (R168). -/
def Row.FETCH_FENCED : ObjRow := ⟨0x6090, 1, 0x06, 0x06, .u32, .ro, 0, false⟩
abbrev Reg.FETCH_FENCED : Obj := Row.FETCH_FENCED.obj 0 0

/-- HOLDBACK_IN, 0x6090:07 (R168). -/
def Row.HOLDBACK_IN : ObjRow := ⟨0x6090, 1, 0x07, 0x07, .u64, .ro, 0, false⟩
abbrev Reg.HOLDBACK_IN : Obj := Row.HOLDBACK_IN.obj 0 0

/-- HOLDBACK_FULL, 0x6090:08 (R168). -/
def Row.HOLDBACK_FULL : ObjRow := ⟨0x6090, 1, 0x08, 0x08, .u64, .ro, 0, false⟩
abbrev Reg.HOLDBACK_FULL : Obj := Row.HOLDBACK_FULL.obj 0 0

/-- HOLDBACK_PEAK, 0x6090:09 (R168). -/
def Row.HOLDBACK_PEAK : ObjRow := ⟨0x6090, 1, 0x09, 0x09, .u16, .rc, 0, false⟩
abbrev Reg.HOLDBACK_PEAK : Obj := Row.HOLDBACK_PEAK.obj 0 0

/-- RHOLD_IN, 0x6090:0A (R168). -/
def Row.RHOLD_IN : ObjRow := ⟨0x6090, 1, 0x0A, 0x0A, .u64, .ro, 0, false⟩
abbrev Reg.RHOLD_IN : Obj := Row.RHOLD_IN.obj 0 0

/-- TAG_FULL, 0x6090:0B (R168). -/
def Row.TAG_FULL : ObjRow := ⟨0x6090, 1, 0x0B, 0x0B, .u32, .ro, 0, false⟩
abbrev Reg.TAG_FULL : Obj := Row.TAG_FULL.obj 0 0

/-- FRC_HIT, 0x6090:0C (R168). -/
def Row.FRC_HIT : ObjRow := ⟨0x6090, 1, 0x0C, 0x0C, .u64, .ro, 0, false⟩
abbrev Reg.FRC_HIT : Obj := Row.FRC_HIT.obj 0 0

/-- FRC_WAIT, 0x6090:0D (R168). -/
def Row.FRC_WAIT : ObjRow := ⟨0x6090, 1, 0x0D, 0x0D, .u64, .ro, 0, false⟩
abbrev Reg.FRC_WAIT : Obj := Row.FRC_WAIT.obj 0 0

/-- REFETCH, 0x6090:0E (R168). -/
def Row.REFETCH : ObjRow := ⟨0x6090, 1, 0x0E, 0x0E, .u32, .ro, 0, false⟩
abbrev Reg.REFETCH : Obj := Row.REFETCH.obj 0 0

/-- PIN_EVICT, 0x6090:0F (R168). -/
def Row.PIN_EVICT : ObjRow := ⟨0x6090, 1, 0x0F, 0x0F, .u32, .ro, 0, false⟩
abbrev Reg.PIN_EVICT : Obj := Row.PIN_EVICT.obj 0 0

/-- LINE_WAIT, 0x6090:10 (R168). -/
def Row.LINE_WAIT : ObjRow := ⟨0x6090, 1, 0x10, 0x10, .u64, .ro, 0, false⟩
abbrev Reg.LINE_WAIT : Obj := Row.LINE_WAIT.obj 0 0

/-- FAR_ECC, 0x6090:11 (R168). -/
def Row.FAR_ECC : ObjRow := ⟨0x6090, 1, 0x11, 0x11, .u32, .ro, 0, false⟩
abbrev Reg.FAR_ECC : Obj := Row.FAR_ECC.obj 0 0

/-- PF_ISSUED, 0x6090:12 (R168). -/
def Row.PF_ISSUED : ObjRow := ⟨0x6090, 1, 0x12, 0x12, .u64, .ro, 0, false⟩
abbrev Reg.PF_ISSUED : Obj := Row.PF_ISSUED.obj 0 0

/-- PF_HIT, 0x6090:13 (R168). -/
def Row.PF_HIT : ObjRow := ⟨0x6090, 1, 0x13, 0x13, .u64, .ro, 0, false⟩
abbrev Reg.PF_HIT : Obj := Row.PF_HIT.obj 0 0

/-- PF_WASTE, 0x6090:14 (R168). -/
def Row.PF_WASTE : ObjRow := ⟨0x6090, 1, 0x14, 0x14, .u64, .ro, 0, false⟩
abbrev Reg.PF_WASTE : Obj := Row.PF_WASTE.obj 0 0

/-- PF_CAP_REFUSE, 0x6090:15 (R168). -/
def Row.PF_CAP_REFUSE : ObjRow := ⟨0x6090, 1, 0x15, 0x15, .u64, .ro, 0, false⟩
abbrev Reg.PF_CAP_REFUSE : Obj := Row.PF_CAP_REFUSE.obj 0 0

/-- PF_DUP, 0x6090:16 (R168). -/
def Row.PF_DUP : ObjRow := ⟨0x6090, 1, 0x16, 0x16, .u64, .ro, 0, false⟩
abbrev Reg.PF_DUP : Obj := Row.PF_DUP.obj 0 0

/-- PF_STALE, 0x6090:17 (R168). -/
def Row.PF_STALE : ObjRow := ⟨0x6090, 1, 0x17, 0x17, .u64, .ro, 0, false⟩
abbrev Reg.PF_STALE : Obj := Row.PF_STALE.obj 0 0

/-- SPEC_LINES, 0x6090:18 (R168). -/
def Row.SPEC_LINES : ObjRow := ⟨0x6090, 1, 0x18, 0x18, .u64, .ro, 0, false⟩
abbrev Reg.SPEC_LINES : Obj := Row.SPEC_LINES.obj 0 0

/-- SLOT_IDLE_FETCH, 0x6090:19 (R168). -/
def Row.SLOT_IDLE_FETCH : ObjRow := ⟨0x6090, 1, 0x19, 0x19, .u64, .ro, 0, false⟩
abbrev Reg.SLOT_IDLE_FETCH : Obj := Row.SLOT_IDLE_FETCH.obj 0 0

/-- SCHED_DRAIN_NS, 0x6090:1A (R168). -/
def Row.SCHED_DRAIN_NS : ObjRow := ⟨0x6090, 1, 0x1A, 0x1A, .u32, .ro, 0, false⟩
abbrev Reg.SCHED_DRAIN_NS : Obj := Row.SCHED_DRAIN_NS.obj 0 0

/-- EPOCH_L, 0x3500:01 (R201). -/
def Row.EPOCH_L : ObjRow := ⟨0x3500, 1, 0x01, 0x01, .u16, .rw, 0, false⟩
abbrev Reg.EPOCH_L : Obj := Row.EPOCH_L.obj 0 0

/-- EPOCH, 0x3500:02 (R201). -/
def Row.EPOCH : ObjRow := ⟨0x3500, 1, 0x02, 0x02, .u32, .ro, 0, false⟩
abbrev Reg.EPOCH : Obj := Row.EPOCH.obj 0 0

/-- EPOCH_END_STEP, 0x3500:03 (R201). -/
def Row.EPOCH_END_STEP : ObjRow := ⟨0x3500, 1, 0x03, 0x03, .u64, .ro, 0, false⟩
abbrev Reg.EPOCH_END_STEP : Obj := Row.EPOCH_END_STEP.obj 0 0

/-- SWEEP_BUSY, 0x3500:04 (R201). -/
def Row.SWEEP_BUSY : ObjRow := ⟨0x3500, 1, 0x04, 0x04, .bool, .ro, 0x00, false⟩
abbrev Reg.SWEEP_BUSY : Obj := Row.SWEEP_BUSY.obj 0 0

/-- SWEEP_HITCH, 0x3500:05 (R201). -/
def Row.SWEEP_HITCH : ObjRow := ⟨0x3500, 1, 0x05, 0x05, .u16, .rw, 0xFFFF, false⟩
abbrev Reg.SWEEP_HITCH : Obj := Row.SWEEP_HITCH.obj 0 0

/-- CAND_MIN, 0x3500:06 (R201). -/
def Row.CAND_MIN : ObjRow := ⟨0x3500, 1, 0x06, 0x06, .i32, .rw, 4096, false⟩
abbrev Reg.CAND_MIN : Obj := Row.CAND_MIN.obj 0 0

/-- CONSOL_PERIOD_MS, 0x3500:07 (R201). -/
def Row.CONSOL_PERIOD_MS : ObjRow := ⟨0x3500, 1, 0x07, 0x07, .u32, .rwp, 10000, true⟩
abbrev Reg.CONSOL_PERIOD_MS : Obj := Row.CONSOL_PERIOD_MS.obj 0 0

/-- CONSOL_NOW, 0x3500:08 (R201). -/
def Row.CONSOL_NOW : ObjRow := ⟨0x3500, 1, 0x08, 0x08, .u8, .wo, 0, false⟩
abbrev Reg.CONSOL_NOW : Obj := Row.CONSOL_NOW.obj 0 0

/-- STABLE_STATE, 0x3500:09 (R201). -/
def Row.STABLE_STATE : ObjRow := ⟨0x3500, 1, 0x09, 0x09, .u8, .ro, 0, false⟩
abbrev Reg.STABLE_STATE : Obj := Row.STABLE_STATE.obj 0 0

/-- STABLE_HARNESS, 0x3500:0A (R201). -/
def Row.STABLE_HARNESS : ObjRow := ⟨0x3500, 1, 0x0A, 0x0A, (.domain 48), .ro, 0, false⟩
abbrev Reg.STABLE_HARNESS : Obj := Row.STABLE_HARNESS.obj 0 0

/-- JRNL_GEN, 0x3500:0B (R201). -/
def Row.JRNL_GEN : ObjRow := ⟨0x3500, 1, 0x0B, 0x0B, .u64, .ro, 0, false⟩
abbrev Reg.JRNL_GEN : Obj := Row.JRNL_GEN.obj 0 0

/-- JRNL_FILL, 0x3500:0C (R201). -/
def Row.JRNL_FILL : ObjRow := ⟨0x3500, 1, 0x0C, 0x0C, .u32, .ro, 0, false⟩
abbrev Reg.JRNL_FILL : Obj := Row.JRNL_FILL.obj 0 0

/-- JRNL_PENDING, 0x3500:0D (R201). -/
def Row.JRNL_PENDING : ObjRow := ⟨0x3500, 1, 0x0D, 0x0D, .u32, .ro, 0, false⟩
abbrev Reg.JRNL_PENDING : Obj := Row.JRNL_PENDING.obj 0 0

/-- JRNL_RATE, 0x3500:0E (R201). -/
def Row.JRNL_RATE : ObjRow := ⟨0x3500, 1, 0x0E, 0x0E, .u32, .ro, 64000000, false⟩
abbrev Reg.JRNL_RATE : Obj := Row.JRNL_RATE.obj 0 0

/-- JRNL_BANK, 0x3500:0F (R201). -/
def Row.JRNL_BANK : ObjRow := ⟨0x3500, 1, 0x0F, 0x0F, .u8, .ro, 0xFF, false⟩
abbrev Reg.JRNL_BANK : Obj := Row.JRNL_BANK.obj 0 0

/-- STABLE_ROW_BYTES, 0x3500:10 (R201). -/
def Row.STABLE_ROW_BYTES : ObjRow := ⟨0x3500, 1, 0x10, 0x10, .u32, .ro, 0, false⟩
abbrev Reg.STABLE_ROW_BYTES : Obj := Row.STABLE_ROW_BYTES.obj 0 0

/-- STABLE_ROW_MAX, 0x3500:11 (R201). -/
def Row.STABLE_ROW_MAX : ObjRow := ⟨0x3500, 1, 0x11, 0x11, .u32, .ro, 62914560, false⟩
abbrev Reg.STABLE_ROW_MAX : Obj := Row.STABLE_ROW_MAX.obj 0 0

/-- SPARE_LEFT, 0x3500:12 (R201). -/
def Row.SPARE_LEFT : ObjRow := ⟨0x3500, 1, 0x12, 0x12, .u16, .ro, 1024, false⟩
abbrev Reg.SPARE_LEFT : Obj := Row.SPARE_LEFT.obj 0 0

/-- WEAR_MAX, 0x3500:13 (R201). -/
def Row.WEAR_MAX : ObjRow := ⟨0x3500, 1, 0x13, 0x13, .u64, .ro, 0, false⟩
abbrev Reg.WEAR_MAX : Obj := Row.WEAR_MAX.obj 0 0

/-- GROUPS, 0x3510:01 (R201). -/
def Row.GROUPS : ObjRow := ⟨0x3510, 1, 0x01, 0x01, (.domain 8192), .rw, 0, false⟩
abbrev Reg.GROUPS : Obj := Row.GROUPS.obj 0 0

/-- PLX_SPIKES, 0x60C0:01 (R202). -/
def Row.PLX_SPIKES : ObjRow := ⟨0x60C0, 1, 0x01, 0x01, .u64, .ro, 0, false⟩
abbrev Reg.PLX_SPIKES : Obj := Row.PLX_SPIKES.obj 0 0

/-- DIRTY_ROWS, 0x60C0:02 (R202). -/
def Row.DIRTY_ROWS : ObjRow := ⟨0x60C0, 1, 0x02, 0x02, .u64, .ro, 0, false⟩
abbrev Reg.DIRTY_ROWS : Obj := Row.DIRTY_ROWS.obj 0 0

/-- DIRTY_FULL, 0x60C0:03 (R202). -/
def Row.DIRTY_FULL : ObjRow := ⟨0x60C0, 1, 0x03, 0x03, .u32, .ro, 0, false⟩
abbrev Reg.DIRTY_FULL : Obj := Row.DIRTY_FULL.obj 0 0

/-- FPS_FULL, 0x60C0:04 (R202). -/
def Row.FPS_FULL : ObjRow := ⟨0x60C0, 1, 0x04, 0x04, .u32, .ro, 0, false⟩
abbrev Reg.FPS_FULL : Obj := Row.FPS_FULL.obj 0 0

/-- PRE_PAUSE, 0x60C0:05 (R202). -/
def Row.PRE_PAUSE : ObjRow := ⟨0x60C0, 1, 0x05, 0x05, .u64, .ro, 0, false⟩
abbrev Reg.PRE_PAUSE : Obj := Row.PRE_PAUSE.obj 0 0

/-- POST_REPORTS, 0x60C0:06 (R202). -/
def Row.POST_REPORTS : ObjRow := ⟨0x60C0, 1, 0x06, 0x06, .u64, .ro, 0, false⟩
abbrev Reg.POST_REPORTS : Obj := Row.POST_REPORTS.obj 0 0

/-- POST_FULL, 0x60C0:07 (R202). -/
def Row.POST_FULL : ObjRow := ⟨0x60C0, 1, 0x07, 0x07, .u32, .ro, 0, false⟩
abbrev Reg.POST_FULL : Obj := Row.POST_FULL.obj 0 0

/-- POST_PAUSE, 0x60C0:08 (R202). -/
def Row.POST_PAUSE : ObjRow := ⟨0x60C0, 1, 0x08, 0x08, .u64, .ro, 0, false⟩
abbrev Reg.POST_PAUSE : Obj := Row.POST_PAUSE.obj 0 0

/-- ROWS_SWEPT, 0x60C0:09 (R202). -/
def Row.ROWS_SWEPT : ObjRow := ⟨0x60C0, 1, 0x09, 0x09, .u64, .ro, 0, false⟩
abbrev Reg.ROWS_SWEPT : Obj := Row.ROWS_SWEPT.obj 0 0

/-- SYN_UPD, 0x60C0:0A (R202). -/
def Row.SYN_UPD : ObjRow := ⟨0x60C0, 1, 0x0A, 0x0A, .u64, .ro, 0, false⟩
abbrev Reg.SYN_UPD : Obj := Row.SYN_UPD.obj 0 0

/-- WORDS_CHANGED, 0x60C0:0B (R202). -/
def Row.WORDS_CHANGED : ObjRow := ⟨0x60C0, 1, 0x0B, 0x0B, .u64, .ro, 0, false⟩
abbrev Reg.WORDS_CHANGED : Obj := Row.WORDS_CHANGED.obj 0 0

/-- W_CLAMP, 0x60C0:0C (R202). -/
def Row.W_CLAMP : ObjRow := ⟨0x60C0, 1, 0x0C, 0x0C, .u32, .ro, 0, false⟩
abbrev Reg.W_CLAMP : Obj := Row.W_CLAMP.obj 0 0

/-- PRUNED, 0x60C0:0D (R202). -/
def Row.PRUNED : ObjRow := ⟨0x60C0, 1, 0x0D, 0x0D, .u32, .ro, 0, false⟩
abbrev Reg.PRUNED : Obj := Row.PRUNED.obj 0 0

/-- WATCH_FULL, 0x60C0:0E (R202). -/
def Row.WATCH_FULL : ObjRow := ⟨0x60C0, 1, 0x0E, 0x0E, .u32, .ro, 0, false⟩
abbrev Reg.WATCH_FULL : Obj := Row.WATCH_FULL.obj 0 0

/-- PRUNE_Q_FULL, 0x60C0:0F (R202). -/
def Row.PRUNE_Q_FULL : ObjRow := ⟨0x60C0, 1, 0x0F, 0x0F, .u32, .ro, 0, false⟩
abbrev Reg.PRUNE_Q_FULL : Obj := Row.PRUNE_Q_FULL.obj 0 0

/-- SPROUTED, 0x60C0:10 (R202). -/
def Row.SPROUTED : ObjRow := ⟨0x60C0, 1, 0x10, 0x10, .u32, .ro, 0, false⟩
abbrev Reg.SPROUTED : Obj := Row.SPROUTED.obj 0 0

/-- CAND_FULL, 0x60C0:11 (R202). -/
def Row.CAND_FULL : ObjRow := ⟨0x60C0, 1, 0x11, 0x11, .u32, .ro, 0, false⟩
abbrev Reg.CAND_FULL : Obj := Row.CAND_FULL.obj 0 0

/-- SPROUT_NOSLOT, 0x60C0:12 (R202). -/
def Row.SPROUT_NOSLOT : ObjRow := ⟨0x60C0, 1, 0x12, 0x12, .u32, .ro, 0, false⟩
abbrev Reg.SPROUT_NOSLOT : Obj := Row.SPROUT_NOSLOT.obj 0 0

/-- TRACE_GROOM, 0x60C0:13 (R202). -/
def Row.TRACE_GROOM : ObjRow := ⟨0x60C0, 1, 0x13, 0x13, .u64, .ro, 0, false⟩
abbrev Reg.TRACE_GROOM : Obj := Row.TRACE_GROOM.obj 0 0

/-- SWEEP_WAIT_NS, 0x60C0:14 (R202). -/
def Row.SWEEP_WAIT_NS : ObjRow := ⟨0x60C0, 1, 0x14, 0x14, .u64, .ro, 0, false⟩
abbrev Reg.SWEEP_WAIT_NS : Obj := Row.SWEEP_WAIT_NS.obj 0 0

/-- SWEEP_MAX_NS, 0x60C0:15 (R202). -/
def Row.SWEEP_MAX_NS : ObjRow := ⟨0x60C0, 1, 0x15, 0x15, .u32, .rc, 0, false⟩
abbrev Reg.SWEEP_MAX_NS : Obj := Row.SWEEP_MAX_NS.obj 0 0

/-- JRNL_BYTES, 0x60C0:16 (R202). -/
def Row.JRNL_BYTES : ObjRow := ⟨0x60C0, 1, 0x16, 0x16, .u64, .ro, 0, false⟩
abbrev Reg.JRNL_BYTES : Obj := Row.JRNL_BYTES.obj 0 0

/-- JRNL_STALL_NS, 0x60C0:17 (R202). -/
def Row.JRNL_STALL_NS : ObjRow := ⟨0x60C0, 1, 0x17, 0x17, .u64, .ro, 0, false⟩
abbrev Reg.JRNL_STALL_NS : Obj := Row.JRNL_STALL_NS.obj 0 0

/-- CONSOLS, 0x60C0:18 (R202). -/
def Row.CONSOLS : ObjRow := ⟨0x60C0, 1, 0x18, 0x18, .u32, .ro, 0, false⟩
abbrev Reg.CONSOLS : Obj := Row.CONSOLS.obj 0 0

/-- CONSOL_MAX_MS, 0x60C0:19 (R202). -/
def Row.CONSOL_MAX_MS : ObjRow := ⟨0x60C0, 1, 0x19, 0x19, .u32, .rc, 0, false⟩
abbrev Reg.CONSOL_MAX_MS : Obj := Row.CONSOL_MAX_MS.obj 0 0

/-- STABLE_VERIFY_FAIL, 0x60C0:1A (R202). -/
def Row.STABLE_VERIFY_FAIL : ObjRow := ⟨0x60C0, 1, 0x1A, 0x1A, .u32, .ro, 0, false⟩
abbrev Reg.STABLE_VERIFY_FAIL : Obj := Row.STABLE_VERIFY_FAIL.obj 0 0

/-- STABLE_REMAP, 0x60C0:1B (R202). -/
def Row.STABLE_REMAP : ObjRow := ⟨0x60C0, 1, 0x1B, 0x1B, .u32, .ro, 0, false⟩
abbrev Reg.STABLE_REMAP : Obj := Row.STABLE_REMAP.obj 0 0

/-- PLX_ECC, 0x60C0:1C (R202). -/
def Row.PLX_ECC : ObjRow := ⟨0x60C0, 1, 0x1C, 0x1C, .u32, .ro, 0, false⟩
abbrev Reg.PLX_ECC : Obj := Row.PLX_ECC.obj 0 0

/-- W8P_RECOVER, 0x60C0:1D (R202). -/
def Row.W8P_RECOVER : ObjRow := ⟨0x60C0, 1, 0x1D, 0x1D, .u32, .ro, 0, false⟩
abbrev Reg.W8P_RECOVER : Obj := Row.W8P_RECOVER.obj 0 0

/-- SEQ_RUN, 0x3600:01 (R237). -/
def Row.SEQ_RUN : ObjRow := ⟨0x3600, 1, 0x01, 0x01, .bits32, .ro, 0x00000000, false⟩
abbrev Reg.SEQ_RUN : Obj := Row.SEQ_RUN.obj 0 0

/-- ENG_STATE, 0x3610+e:01 (R237). -/
def Row.ENG_STATE : ObjRow := ⟨0x3610, 10, 0x01, 0x01, .u8, .ro, 0, false⟩
abbrev Reg.ENG_STATE (i : Nat) : Obj := Row.ENG_STATE.obj i 0

/-- ENG_CTRL, 0x3610+e:02 (R237). -/
def Row.ENG_CTRL : ObjRow := ⟨0x3610, 10, 0x02, 0x02, .u8, .wo, 0, false⟩
abbrev Reg.ENG_CTRL (i : Nat) : Obj := Row.ENG_CTRL.obj i 0

/-- ENG_QUEUES, 0x3610+e:03 (R237). -/
def Row.ENG_QUEUES : ObjRow := ⟨0x3610, 10, 0x03, 0x03, .u16, .ro, 0, false⟩
abbrev Reg.ENG_QUEUES (i : Nat) : Obj := Row.ENG_QUEUES.obj i 0

/-- HARNESS_STATE, 0x3700:01 (R238). -/
def Row.HARNESS_STATE : ObjRow := ⟨0x3700, 1, 0x01, 0x01, .u8, .ro, 0, false⟩
abbrev Reg.HARNESS_STATE : Obj := Row.HARNESS_STATE.obj 0 0

/-- HARNESS_MEAS, 0x3700:02 (R238). -/
def Row.HARNESS_MEAS : ObjRow := ⟨0x3700, 1, 0x02, 0x02, (.domain 48), .ro, 0, false⟩
abbrev Reg.HARNESS_MEAS : Obj := Row.HARNESS_MEAS.obj 0 0

/-- LOAD_STATUS, 0x3700:03 (R238). -/
def Row.LOAD_STATUS : ObjRow := ⟨0x3700, 1, 0x03, 0x03, .u8, .ro, 0x00, false⟩
abbrev Reg.LOAD_STATUS : Obj := Row.LOAD_STATUS.obj 0 0

/-- LOAD_MS, 0x3700:04 (R238). -/
def Row.LOAD_MS : ObjRow := ⟨0x3700, 1, 0x04, 0x04, .u32, .ro, 0, false⟩
abbrev Reg.LOAD_MS : Obj := Row.LOAD_MS.obj 0 0

/-- SEGMENT, 0x3700:05 (R238). -/
def Row.SEGMENT : ObjRow := ⟨0x3700, 1, 0x05, 0x05, .u8, .ro, 0, false⟩
abbrev Reg.SEGMENT : Obj := Row.SEGMENT.obj 0 0

/-- HITCH_DIRTY, 0x3700:06 (R238). -/
def Row.HITCH_DIRTY : ObjRow := ⟨0x3700, 1, 0x06, 0x06, .u32, .ro, 0, false⟩
abbrev Reg.HITCH_DIRTY : Obj := Row.HITCH_DIRTY.obj 0 0

/-- LOAD_FAILS, 0x3700:07 (R238). -/
def Row.LOAD_FAILS : ObjRow := ⟨0x3700, 1, 0x07, 0x07, .u32, .ro, 0, false⟩
abbrev Reg.LOAD_FAILS : Obj := Row.LOAD_FAILS.obj 0 0

/-- CMDS_DONE, 0x60E0+e:01 (R239). -/
def Row.CMDS_DONE : ObjRow := ⟨0x60E0, 10, 0x01, 0x01, .u64, .ro, 0, false⟩
abbrev Reg.CMDS_DONE (i : Nat) : Obj := Row.CMDS_DONE.obj i 0

/-- CMDS_FAILED, 0x60E0+e:02 (R239). -/
def Row.CMDS_FAILED : ObjRow := ⟨0x60E0, 10, 0x02, 0x02, .u32, .ro, 0, false⟩
abbrev Reg.CMDS_FAILED (i : Nat) : Obj := Row.CMDS_FAILED.obj i 0

/-- CMDS_ABORTED, 0x60E0+e:03 (R239). -/
def Row.CMDS_ABORTED : ObjRow := ⟨0x60E0, 10, 0x03, 0x03, .u32, .ro, 0, false⟩
abbrev Reg.CMDS_ABORTED (i : Nat) : Obj := Row.CMDS_ABORTED.obj i 0

/-- CMPL_STALL, 0x60E0+e:04 (R239). -/
def Row.CMPL_STALL : ObjRow := ⟨0x60E0, 10, 0x04, 0x04, .u64, .ro, 0, false⟩
abbrev Reg.CMPL_STALL (i : Nat) : Obj := Row.CMPL_STALL.obj i 0

/-- CMPL_LOST, 0x60E0+e:05 (R239). -/
def Row.CMPL_LOST : ObjRow := ⟨0x60E0, 10, 0x05, 0x05, .u32, .ro, 0, false⟩
abbrev Reg.CMPL_LOST (i : Nat) : Obj := Row.CMPL_LOST.obj i 0

/-- BUSY_NS, 0x60E0+e:06 (R239). -/
def Row.BUSY_NS : ObjRow := ⟨0x60E0, 10, 0x06, 0x06, .u64, .ro, 0, false⟩
abbrev Reg.BUSY_NS (i : Nat) : Obj := Row.BUSY_NS.obj i 0

/-- SEQ_FAULT, 0x60F0:01 (R239). -/
def Row.SEQ_FAULT : ObjRow := ⟨0x60F0, 1, 0x01, 0x01, .u32, .ro, 0, false⟩
abbrev Reg.SEQ_FAULT : Obj := Row.SEQ_FAULT.obj 0 0

/-- CENSUS_RECORDS, 0x60F0:02 (R239). -/
def Row.CENSUS_RECORDS : ObjRow := ⟨0x60F0, 1, 0x02, 0x02, .u64, .ro, 0, false⟩
abbrev Reg.CENSUS_RECORDS : Obj := Row.CENSUS_RECORDS.obj 0 0

/-- CENSUS_DROP, 0x60F0:03 (R239). -/
def Row.CENSUS_DROP : ObjRow := ⟨0x60F0, 1, 0x03, 0x03, .u32, .ro, 0, false⟩
abbrev Reg.CENSUS_DROP : Obj := Row.CENSUS_DROP.obj 0 0

/-- DENSE_EVENTS, 0x60F0:04 (R239). -/
def Row.DENSE_EVENTS : ObjRow := ⟨0x60F0, 1, 0x04, 0x04, .u64, .ro, 0, false⟩
abbrev Reg.DENSE_EVENTS : Obj := Row.DENSE_EVENTS.obj 0 0

/-- QSEL, 0x2420:01 (R258). -/
def Row.QSEL : ObjRow := ⟨0x2420, 1, 0x01, 0x01, .u16, .rw, 0, false⟩
abbrev Reg.QSEL : Obj := Row.QSEL.obj 0 0

/-- QBLOCK, 0x2420:02 (R258). -/
def Row.QBLOCK : ObjRow := ⟨0x2420, 1, 0x02, 0x02, (.domain 64), .ro, 0, false⟩
abbrev Reg.QBLOCK : Obj := Row.QBLOCK.obj 0 0

/-- QPOLICY, 0x2420:03 (R258). -/
def Row.QPOLICY : ObjRow := ⟨0x2420, 1, 0x03, 0x03, .u64, .rw, 0, false⟩
abbrev Reg.QPOLICY : Obj := Row.QPOLICY.obj 0 0

/-- QCTRL, 0x2420:04 (R258). -/
def Row.QCTRL : ObjRow := ⟨0x2420, 1, 0x04, 0x04, .u8, .wo, 0, false⟩
abbrev Reg.QCTRL : Obj := Row.QCTRL.obj 0 0

/-- QUEUES_BOUND, 0x2420:05 (R258). -/
def Row.QUEUES_BOUND : ObjRow := ⟨0x2420, 1, 0x05, 0x05, .u16, .ro, 0, false⟩
abbrev Reg.QUEUES_BOUND : Obj := Row.QUEUES_BOUND.obj 0 0

/-- CMB_TABLE_SIZE, 0x2420:06 (R258). -/
def Row.CMB_TABLE_SIZE : ObjRow := ⟨0x2420, 1, 0x06, 0x06, .u16, .ro, 4096, false⟩
abbrev Reg.CMB_TABLE_SIZE : Obj := Row.CMB_TABLE_SIZE.obj 0 0

/-- CMB_TABLE_USED, 0x2420:07 (R258). -/
def Row.CMB_TABLE_USED : ObjRow := ⟨0x2420, 1, 0x07, 0x07, .u16, .ro, 0, false⟩
abbrev Reg.CMB_TABLE_USED : Obj := Row.CMB_TABLE_USED.obj 0 0

/-- Q_FIRMWARE_FIRST, 0x2420:08 (R258). -/
def Row.Q_FIRMWARE_FIRST : ObjRow := ⟨0x2420, 1, 0x08, 0x08, .u16, .ro, 32512, false⟩
abbrev Reg.Q_FIRMWARE_FIRST : Obj := Row.Q_FIRMWARE_FIRST.obj 0 0

/-- PUSHES, 0x6100:01 (R259). -/
def Row.PUSHES : ObjRow := ⟨0x6100, 1, 0x01, 0x01, .u64, .ro, 0, false⟩
abbrev Reg.PUSHES : Obj := Row.PUSHES.obj 0 0

/-- PUSH_FULL, 0x6100:02 (R259). -/
def Row.PUSH_FULL : ObjRow := ⟨0x6100, 1, 0x02, 0x02, .u32, .ro, 0, false⟩
abbrev Reg.PUSH_FULL : Obj := Row.PUSH_FULL.obj 0 0

/-- PUSH_STALE, 0x6100:03 (R259). -/
def Row.PUSH_STALE : ObjRow := ⟨0x6100, 1, 0x03, 0x03, .u32, .ro, 0, false⟩
abbrev Reg.PUSH_STALE : Obj := Row.PUSH_STALE.obj 0 0

/-- PUSH_CLOSED, 0x6100:04 (R259). -/
def Row.PUSH_CLOSED : ObjRow := ⟨0x6100, 1, 0x04, 0x04, .u32, .ro, 0, false⟩
abbrev Reg.PUSH_CLOSED : Obj := Row.PUSH_CLOSED.obj 0 0

/-- PUSH_DENIED, 0x6100:05 (R259). -/
def Row.PUSH_DENIED : ObjRow := ⟨0x6100, 1, 0x05, 0x05, .u32, .ro, 0, false⟩
abbrev Reg.PUSH_DENIED : Obj := Row.PUSH_DENIED.obj 0 0

/-- PORT_BADFMT, 0x6100:06 (R259). -/
def Row.PORT_BADFMT : ObjRow := ⟨0x6100, 1, 0x06, 0x06, .u32, .ro, 0, false⟩
abbrev Reg.PORT_BADFMT : Obj := Row.PORT_BADFMT.obj 0 0

/-- PMM_RESET, 0x6100:07 (R259). -/
def Row.PMM_RESET : ObjRow := ⟨0x6100, 1, 0x07, 0x07, .u32, .ro, 0, false⟩
abbrev Reg.PMM_RESET : Obj := Row.PMM_RESET.obj 0 0

/-- Q_RESETS, 0x6100:08 (R259). -/
def Row.Q_RESETS : ObjRow := ⟨0x6100, 1, 0x08, 0x08, .u32, .ro, 0, false⟩
abbrev Reg.Q_RESETS : Obj := Row.Q_RESETS.obj 0 0

/-- MSG_RETURNED, 0x6100:09 (R259). -/
def Row.MSG_RETURNED : ObjRow := ⟨0x6100, 1, 0x09, 0x09, .u32, .ro, 0, false⟩
abbrev Reg.MSG_RETURNED : Obj := Row.MSG_RETURNED.obj 0 0

/-- MSG_LOST, 0x6100:0A (R259). -/
def Row.MSG_LOST : ObjRow := ⟨0x6100, 1, 0x0A, 0x0A, .u32, .ro, 0, false⟩
abbrev Reg.MSG_LOST : Obj := Row.MSG_LOST.obj 0 0

/-- TMO_RAISED, 0x6100:0B (R259). -/
def Row.TMO_RAISED : ObjRow := ⟨0x6100, 1, 0x0B, 0x0B, .u32, .ro, 0, false⟩
abbrev Reg.TMO_RAISED : Obj := Row.TMO_RAISED.obj 0 0

/-- CONSUME_REFUSED, 0x6100:0C (R259). -/
def Row.CONSUME_REFUSED : ObjRow := ⟨0x6100, 1, 0x0C, 0x0C, .u32, .ro, 0, false⟩
abbrev Reg.CONSUME_REFUSED : Obj := Row.CONSUME_REFUSED.obj 0 0

/-- CMB_POSTS, 0x6100:0D (R259). -/
def Row.CMB_POSTS : ObjRow := ⟨0x6100, 1, 0x0D, 0x0D, .u64, .ro, 0, false⟩
abbrev Reg.CMB_POSTS : Obj := Row.CMB_POSTS.obj 0 0

/-- CMB_MERGES, 0x6100:0E (R259). -/
def Row.CMB_MERGES : ObjRow := ⟨0x6100, 1, 0x0E, 0x0E, .u64, .ro, 0, false⟩
abbrev Reg.CMB_MERGES : Obj := Row.CMB_MERGES.obj 0 0

/-- CMB_SAT, 0x6100:0F (R259). -/
def Row.CMB_SAT : ObjRow := ⟨0x6100, 1, 0x0F, 0x0F, .u32, .ro, 0, false⟩
abbrev Reg.CMB_SAT : Obj := Row.CMB_SAT.obj 0 0

/-- CMB_TABLE_FULL, 0x6100:10 (R259). -/
def Row.CMB_TABLE_FULL : ObjRow := ⟨0x6100, 1, 0x10, 0x10, .u32, .ro, 0, false⟩
abbrev Reg.CMB_TABLE_FULL : Obj := Row.CMB_TABLE_FULL.obj 0 0

/-- HITCH_COUNT, 0x2430:01 (R271). -/
def Row.HITCH_COUNT : ObjRow := ⟨0x2430, 1, 0x01, 0x01, .u16, .ro, 16384, false⟩
abbrev Reg.HITCH_COUNT : Obj := Row.HITCH_COUNT.obj 0 0

/-- HSEL, 0x2430:02 (R271). -/
def Row.HSEL : ObjRow := ⟨0x2430, 1, 0x02, 0x02, .u16, .rw, 0, false⟩
abbrev Reg.HSEL : Obj := Row.HSEL.obj 0 0

/-- HENTRY, 0x2430:03 (R271). -/
def Row.HENTRY : ObjRow := ⟨0x2430, 1, 0x03, 0x03, (.domain 32), .ro, 0, false⟩
abbrev Reg.HENTRY : Obj := Row.HENTRY.obj 0 0

/-- STEP_HITCH, 0x2430:04 (R271). -/
def Row.STEP_HITCH : ObjRow := ⟨0x2430, 1, 0x04, 0x04, .u16, .rw, 0xFFFF, false⟩
abbrev Reg.STEP_HITCH : Obj := Row.STEP_HITCH.obj 0 0

/-- HITCH_WAITERS, 0x2430:05 (R271). -/
def Row.HITCH_WAITERS : ObjRow := ⟨0x2430, 1, 0x05, 0x05, .u16, .ro, 0, false⟩
abbrev Reg.HITCH_WAITERS : Obj := Row.HITCH_WAITERS.obj 0 0

/-- HITCH_OPS, 0x6110:01 (R272). -/
def Row.HITCH_OPS : ObjRow := ⟨0x6110, 1, 0x01, 0x01, .u64, .ro, 0, false⟩
abbrev Reg.HITCH_OPS : Obj := Row.HITCH_OPS.obj 0 0

/-- WAITS_SATISFIED, 0x6110:02 (R272). -/
def Row.WAITS_SATISFIED : ObjRow := ⟨0x6110, 1, 0x02, 0x02, .u64, .ro, 0, false⟩
abbrev Reg.WAITS_SATISFIED : Obj := Row.WAITS_SATISFIED.obj 0 0

/-- BARRIERS_RELEASED, 0x6110:03 (R272). -/
def Row.BARRIERS_RELEASED : ObjRow := ⟨0x6110, 1, 0x03, 0x03, .u32, .ro, 0, false⟩
abbrev Reg.BARRIERS_RELEASED : Obj := Row.BARRIERS_RELEASED.obj 0 0

/-- BAR_MISMATCH, 0x6110:04 (R272). -/
def Row.BAR_MISMATCH : ObjRow := ⟨0x6110, 1, 0x04, 0x04, .u32, .ro, 0, false⟩
abbrev Reg.BAR_MISMATCH : Obj := Row.BAR_MISMATCH.obj 0 0

/-- BAR_CANCEL, 0x6110:05 (R272). -/
def Row.BAR_CANCEL : ObjRow := ⟨0x6110, 1, 0x05, 0x05, .u32, .ro, 0, false⟩
abbrev Reg.BAR_CANCEL : Obj := Row.BAR_CANCEL.obj 0 0

/-- HITCH_SAT, 0x6110:06 (R272). -/
def Row.HITCH_SAT : ObjRow := ⟨0x6110, 1, 0x06, 0x06, .u32, .ro, 0, false⟩
abbrev Reg.HITCH_SAT : Obj := Row.HITCH_SAT.obj 0 0

/-- HOME_LOST, 0x6110:07 (R272). -/
def Row.HOME_LOST : ObjRow := ⟨0x6110, 1, 0x07, 0x07, .u32, .ro, 0, false⟩
abbrev Reg.HOME_LOST : Obj := Row.HOME_LOST.obj 0 0

/-- WAIT_MAX_US, 0x6110:08 (R272). -/
def Row.WAIT_MAX_US : ObjRow := ⟨0x6110, 1, 0x08, 0x08, .u32, .rc, 0, false⟩
abbrev Reg.WAIT_MAX_US : Obj := Row.WAIT_MAX_US.obj 0 0

/-- DUMPS, 0x6110:09 (R272). -/
def Row.DUMPS : ObjRow := ⟨0x6110, 1, 0x09, 0x09, .u32, .ro, 0, false⟩
abbrev Reg.DUMPS : Obj := Row.DUMPS.obj 0 0

/-- HTAB_WR_REFUSED, 0x6110:0A (R272). -/
def Row.HTAB_WR_REFUSED : ObjRow := ⟨0x6110, 1, 0x0A, 0x0A, .u32, .ro, 0, false⟩
abbrev Reg.HTAB_WR_REFUSED : Obj := Row.HTAB_WR_REFUSED.obj 0 0

/-- BANK_OWNER, 0x2410:01 (R297). -/
def Row.BANK_OWNER : ObjRow := ⟨0x2410, 1, 0x01, 0x10, .u32, .rw, 0, false⟩
abbrev Reg.BANK_OWNER (j : Nat) : Obj := Row.BANK_OWNER.obj 0 j

/-- FW_AREA_BASE, 0x2410:11 (R297). -/
def Row.FW_AREA_BASE : ObjRow := ⟨0x2410, 1, 0x11, 0x11, .u32, .ro, 0x01FC0000, false⟩
abbrev Reg.FW_AREA_BASE : Obj := Row.FW_AREA_BASE.obj 0 0

/-- WINDOW, 0x2440+b:01 (R297). -/
def Row.WINDOW : ObjRow := ⟨0x2440, 16, 0x01, 0x20, .u64, .rw, 0, false⟩
abbrev Reg.WINDOW (i j : Nat) : Obj := Row.WINDOW.obj i j

/-- TACK_SIZE, 0x2450:01 (R297). -/
def Row.TACK_SIZE : ObjRow := ⟨0x2450, 1, 0x01, 0x01, .u32, .ro, 262144, false⟩
abbrev Reg.TACK_SIZE : Obj := Row.TACK_SIZE.obj 0 0

/-- TACK_WIPES, 0x2450:02 (R297). -/
def Row.TACK_WIPES : ObjRow := ⟨0x2450, 1, 0x02, 0x02, .u32, .ro, 0, false⟩
abbrev Reg.TACK_WIPES : Obj := Row.TACK_WIPES.obj 0 0

/-- TACK_WIPE_CAUSE, 0x2450:03 (R297). -/
def Row.TACK_WIPE_CAUSE : ObjRow := ⟨0x2450, 1, 0x03, 0x03, .u8, .ro, 0, false⟩
abbrev Reg.TACK_WIPE_CAUSE : Obj := Row.TACK_WIPE_CAUSE.obj 0 0

/-- DDR_FITTED, 0x2500:01 (R297). -/
def Row.DDR_FITTED : ObjRow := ⟨0x2500, 1, 0x01, 0x01, .u64, .ro, 0, false⟩
abbrev Reg.DDR_FITTED : Obj := Row.DDR_FITTED.obj 0 0

/-- DDR_USABLE, 0x2500:02 (R297). -/
def Row.DDR_USABLE : ObjRow := ⟨0x2500, 1, 0x02, 0x02, .u64, .ro, 64424509440, false⟩
abbrev Reg.DDR_USABLE : Obj := Row.DDR_USABLE.obj 0 0

/-- DDR_HARNESS, 0x2500:03 (R297). -/
def Row.DDR_HARNESS : ObjRow := ⟨0x2500, 1, 0x03, 0x03, .u64, .ro, 0, false⟩
abbrev Reg.DDR_HARNESS : Obj := Row.DDR_HARNESS.obj 0 0

/-- DDR_RATE, 0x2500:04 (R297). -/
def Row.DDR_RATE : ObjRow := ⟨0x2500, 1, 0x04, 0x04, .u16, .ro, 8533, false⟩
abbrev Reg.DDR_RATE : Obj := Row.DDR_RATE.obj 0 0

/-- TRAIN_MODE, 0x2500:05 (R297). -/
def Row.TRAIN_MODE : ObjRow := ⟨0x2500, 1, 0x05, 0x05, .u8, .ro, 1, false⟩
abbrev Reg.TRAIN_MODE : Obj := Row.TRAIN_MODE.obj 0 0

/-- TRAIN_MS, 0x2500:06 (R297). -/
def Row.TRAIN_MS : ObjRow := ⟨0x2500, 1, 0x06, 0x06, .u16, .ro, 0, false⟩
abbrev Reg.TRAIN_MS : Obj := Row.TRAIN_MS.obj 0 0

/-- SCRUB_PERIOD_H, 0x2500:07 (R297). -/
def Row.SCRUB_PERIOD_H : ObjRow := ⟨0x2500, 1, 0x07, 0x07, .u8, .rwp, 24, true⟩
abbrev Reg.SCRUB_PERIOD_H : Obj := Row.SCRUB_PERIOD_H.obj 0 0

/-- TRAIN_FORCE_FULL, 0x2500:08 (R297). -/
def Row.TRAIN_FORCE_FULL : ObjRow := ⟨0x2500, 1, 0x08, 0x08, .bool, .rwp, 0x00, true⟩
abbrev Reg.TRAIN_FORCE_FULL : Obj := Row.TRAIN_FORCE_FULL.obj 0 0

/-- TRAIN_SET, 0x2510:01 (R297). -/
def Row.TRAIN_SET : ObjRow := ⟨0x2510, 1, 0x01, 0x01, (.domain 1088), .ro, 0, true⟩
abbrev Reg.TRAIN_SET : Obj := Row.TRAIN_SET.obj 0 0

/-- BANK_STALL, 0x6120:01 (R298). -/
def Row.BANK_STALL : ObjRow := ⟨0x6120, 1, 0x01, 0x01, .u64, .ro, 0, false⟩
abbrev Reg.BANK_STALL : Obj := Row.BANK_STALL.obj 0 0

/-- STALL_RUN_MAX, 0x6120:02 (R298). -/
def Row.STALL_RUN_MAX : ObjRow := ⟨0x6120, 1, 0x02, 0x02, .u32, .rc, 0, false⟩
abbrev Reg.STALL_RUN_MAX : Obj := Row.STALL_RUN_MAX.obj 0 0

/-- WCOLL_CNT, 0x6120:03 (R298). -/
def Row.WCOLL_CNT : ObjRow := ⟨0x6120, 1, 0x03, 0x03, .u32, .ro, 0, false⟩
abbrev Reg.WCOLL_CNT : Obj := Row.WCOLL_CNT.obj 0 0

/-- BUSY_CNT, 0x6120:04 (R298). -/
def Row.BUSY_CNT : ObjRow := ⟨0x6120, 1, 0x04, 0x04, .u32, .ro, 0, false⟩
abbrev Reg.BUSY_CNT : Obj := Row.BUSY_CNT.obj 0 0

/-- ALIAS_OPS, 0x6120:05 (R298). -/
def Row.ALIAS_OPS : ObjRow := ⟨0x6120, 1, 0x05, 0x05, .u64, .ro, 0, false⟩
abbrev Reg.ALIAS_OPS : Obj := Row.ALIAS_OPS.obj 0 0

/-- WIN_FULL, 0x6120:06 (R298). -/
def Row.WIN_FULL : ObjRow := ⟨0x6120, 1, 0x06, 0x06, .u32, .ro, 0, false⟩
abbrev Reg.WIN_FULL : Obj := Row.WIN_FULL.obj 0 0

/-- FW_AREA_DENIED, 0x6120:07 (R298). -/
def Row.FW_AREA_DENIED : ObjRow := ⟨0x6120, 1, 0x07, 0x07, .u32, .ro, 0, false⟩
abbrev Reg.FW_AREA_DENIED : Obj := Row.FW_AREA_DENIED.obj 0 0

/-- COMMONS_CORR, 0x6120:08 (R298). -/
def Row.COMMONS_CORR : ObjRow := ⟨0x6120, 1, 0x08, 0x08, .u32, .ro, 0, false⟩
abbrev Reg.COMMONS_CORR : Obj := Row.COMMONS_CORR.obj 0 0

/-- COMMONS_UNCORR, 0x6120:09 (R298). -/
def Row.COMMONS_UNCORR : ObjRow := ⟨0x6120, 1, 0x09, 0x09, .u32, .ro, 0, false⟩
abbrev Reg.COMMONS_UNCORR : Obj := Row.COMMONS_UNCORR.obj 0 0

/-- DDR_CORR, 0x6120:0A (R298). -/
def Row.DDR_CORR : ObjRow := ⟨0x6120, 1, 0x0A, 0x0A, .u32, .ro, 0, false⟩
abbrev Reg.DDR_CORR : Obj := Row.DDR_CORR.obj 0 0

/-- DDR_UNCORR, 0x6120:0B (R298). -/
def Row.DDR_UNCORR : ObjRow := ⟨0x6120, 1, 0x0B, 0x0B, .u32, .ro, 0, false⟩
abbrev Reg.DDR_UNCORR : Obj := Row.DDR_UNCORR.obj 0 0

/-- SCRUB_PASSES, 0x6120:0C (R298). -/
def Row.SCRUB_PASSES : ObjRow := ⟨0x6120, 1, 0x0C, 0x0C, .u32, .ro, 0, false⟩
abbrev Reg.SCRUB_PASSES : Obj := Row.SCRUB_PASSES.obj 0 0

/-- BADADDR, 0x6120:0D (R298). -/
def Row.BADADDR : ObjRow := ⟨0x6120, 1, 0x0D, 0x0D, .u32, .ro, 0, false⟩
abbrev Reg.BADADDR : Obj := Row.BADADDR.obj 0 0

/-- TACK_DENIED, 0x6120:0E (R298). -/
def Row.TACK_DENIED : ObjRow := ⟨0x6120, 1, 0x0E, 0x0E, .u32, .ro, 0, false⟩
abbrev Reg.TACK_DENIED : Obj := Row.TACK_DENIED.obj 0 0

/-- FENCED_WIN, 0x6120:0F (R298). -/
def Row.FENCED_WIN : ObjRow := ⟨0x6120, 1, 0x0F, 0x0F, .u32, .ro, 0, false⟩
abbrev Reg.FENCED_WIN : Obj := Row.FENCED_WIN.obj 0 0

/-- PORT_STATE, 0x2710+p:01 (R324). -/
def Row.PORT_STATE : ObjRow := ⟨0x2710, 6, 0x01, 0x01, .u8, .ro, 0, false⟩
abbrev Reg.PORT_STATE (i : Nat) : Obj := Row.PORT_STATE.obj i 0

/-- SKID_BASE, 0x2710+p:02 (R324). -/
def Row.SKID_BASE : ObjRow := ⟨0x2710, 6, 0x02, 0x02, .u32, .rw, 0, false⟩
abbrev Reg.SKID_BASE (i : Nat) : Obj := Row.SKID_BASE.obj i 0

/-- STOP_BYTES, 0x2710+p:03 (R324). -/
def Row.STOP_BYTES : ObjRow := ⟨0x2710, 6, 0x03, 0x03, .u32, .rw, 524288, false⟩
abbrev Reg.STOP_BYTES (i : Nat) : Obj := Row.STOP_BYTES.obj i 0

/-- REIN_LWM_PCT, 0x2710+p:04 (R324). -/
def Row.REIN_LWM_PCT : ObjRow := ⟨0x2710, 6, 0x04, 0x04, .u8, .rw, 50, false⟩
abbrev Reg.REIN_LWM_PCT (i : Nat) : Obj := Row.REIN_LWM_PCT.obj i 0

/-- REIN_MIN_US, 0x2710+p:05 (R324). -/
def Row.REIN_MIN_US : ObjRow := ⟨0x2710, 6, 0x05, 0x05, .u16, .rw, 10, false⟩
abbrev Reg.REIN_MIN_US (i : Nat) : Obj := Row.REIN_MIN_US.obj i 0

/-- REIN_OVERRIDE, 0x2710+p:06 (R324). -/
def Row.REIN_OVERRIDE : ObjRow := ⟨0x2710, 6, 0x06, 0x06, .u8, .rw, 0, false⟩
abbrev Reg.REIN_OVERRIDE (i : Nat) : Obj := Row.REIN_OVERRIDE.obj i 0

/-- REIN_IDLE, 0x2710+p:07 (R324). -/
def Row.REIN_IDLE : ObjRow := ⟨0x2710, 6, 0x07, 0x07, .u8, .rwp, 0, true⟩
abbrev Reg.REIN_IDLE (i : Nat) : Obj := Row.REIN_IDLE.obj i 0

/-- REIN_STATE, 0x2710+p:08 (R324). -/
def Row.REIN_STATE : ObjRow := ⟨0x2710, 6, 0x08, 0x08, .bool, .ro, 0x00, false⟩
abbrev Reg.REIN_STATE (i : Nat) : Obj := Row.REIN_STATE.obj i 0

/-- TSMODE, 0x2710+p:09 (R324). -/
def Row.TSMODE : ObjRow := ⟨0x2710, 6, 0x09, 0x09, .u8, .rw, 0, false⟩
abbrev Reg.TSMODE (i : Nat) : Obj := Row.TSMODE.obj i 0

/-- SLEW_NS, 0x2710+p:0A (R324). -/
def Row.SLEW_NS : ObjRow := ⟨0x2710, 6, 0x0A, 0x0A, .u32, .rw, 1000, false⟩
abbrev Reg.SLEW_NS (i : Nat) : Obj := Row.SLEW_NS.obj i 0

/-- VC, 0x2710+p:0B (R324). -/
def Row.VC : ObjRow := ⟨0x2710, 6, 0x0B, 0x0B, .u8, .rwp, 0, true⟩
abbrev Reg.VC (i : Nat) : Obj := Row.VC.obj i 0

/-- LANES, 0x2710+p:0C (R324). -/
def Row.LANES : ObjRow := ⟨0x2710, 6, 0x0C, 0x0C, .u8, .rwp, 4, true⟩
abbrev Reg.LANES (i : Nat) : Obj := Row.LANES.obj i 0

/-- LANE_MAP, 0x2710+p:0D (R324). -/
def Row.LANE_MAP : ObjRow := ⟨0x2710, 6, 0x0D, 0x0D, .u16, .rwp, 0x3210, true⟩
abbrev Reg.LANE_MAP (i : Nat) : Obj := Row.LANE_MAP.obj i 0

/-- ETH_MAC, 0x2820+e:01 (R325). -/
def Row.ETH_MAC : ObjRow := ⟨0x2820, 2, 0x01, 0x01, (.domain 6), .rwp, 0, true⟩
abbrev Reg.ETH_MAC (i : Nat) : Obj := Row.ETH_MAC.obj i 0

/-- RSFEC, 0x2820+e:02 (R325). -/
def Row.RSFEC : ObjRow := ⟨0x2820, 2, 0x02, 0x02, .bool, .rwp, 0x01, true⟩
abbrev Reg.RSFEC (i : Nat) : Obj := Row.RSFEC.obj i 0

/-- FC_MODE, 0x2820+e:03 (R325). -/
def Row.FC_MODE : ObjRow := ⟨0x2820, 2, 0x03, 0x03, .u8, .rwp, 1, true⟩
abbrev Reg.FC_MODE (i : Nat) : Obj := Row.FC_MODE.obj i 0

/-- PFC_CLASSES, 0x2820+e:04 (R325). -/
def Row.PFC_CLASSES : ObjRow := ⟨0x2820, 2, 0x04, 0x04, .bits32, .rwp, 0x000000FF, true⟩
abbrev Reg.PFC_CLASSES (i : Nat) : Obj := Row.PFC_CLASSES.obj i 0

/-- PAUSE_QUANTA, 0x2820+e:05 (R325). -/
def Row.PAUSE_QUANTA : ObjRow := ⟨0x2820, 2, 0x05, 0x05, .u16, .rwp, 0xFFFF, true⟩
abbrev Reg.PAUSE_QUANTA (i : Nat) : Obj := Row.PAUSE_QUANTA.obj i 0

/-- MCAST_FILTER, 0x2820+e:06 (R325). -/
def Row.MCAST_FILTER : ObjRow := ⟨0x2820, 2, 0x06, 0x06, (.domain 48), .rw, 0, false⟩
abbrev Reg.MCAST_FILTER (i : Nat) : Obj := Row.MCAST_FILTER.obj i 0

/-- PROMISC, 0x2820+e:07 (R325). -/
def Row.PROMISC : ObjRow := ⟨0x2820, 2, 0x07, 0x07, .bool, .rw, 0x00, false⟩
abbrev Reg.PROMISC (i : Nat) : Obj := Row.PROMISC.obj i 0

/-- LINK_UP, 0x2820+e:08 (R325). -/
def Row.LINK_UP : ObjRow := ⟨0x2820, 2, 0x08, 0x08, .bool, .ro, 0x00, false⟩
abbrev Reg.LINK_UP (i : Nat) : Obj := Row.LINK_UP.obj i 0

/-- RX_PKTS, 0x6140+p:01 (R326). -/
def Row.RX_PKTS : ObjRow := ⟨0x6140, 6, 0x01, 0x01, .u64, .ro, 0, false⟩
abbrev Reg.RX_PKTS (i : Nat) : Obj := Row.RX_PKTS.obj i 0

/-- RX_BYTES, 0x6140+p:02 (R326). -/
def Row.RX_BYTES : ObjRow := ⟨0x6140, 6, 0x02, 0x02, .u64, .ro, 0, false⟩
abbrev Reg.RX_BYTES (i : Nat) : Obj := Row.RX_BYTES.obj i 0

/-- RX_HDR_CORR, 0x6140+p:03 (R326). -/
def Row.RX_HDR_CORR : ObjRow := ⟨0x6140, 6, 0x03, 0x03, .u32, .ro, 0, false⟩
abbrev Reg.RX_HDR_CORR (i : Nat) : Obj := Row.RX_HDR_CORR.obj i 0

/-- HDR_ERR, 0x6140+p:04 (R326). -/
def Row.HDR_ERR : ObjRow := ⟨0x6140, 6, 0x04, 0x04, .u32, .ro, 0, false⟩
abbrev Reg.HDR_ERR (i : Nat) : Obj := Row.HDR_ERR.obj i 0

/-- CRC_ERR, 0x6140+p:05 (R326). -/
def Row.CRC_ERR : ObjRow := ⟨0x6140, 6, 0x05, 0x05, .u32, .ro, 0, false⟩
abbrev Reg.CRC_ERR (i : Nat) : Obj := Row.CRC_ERR.obj i 0

/-- RX_IGNORED, 0x6140+p:06 (R326). -/
def Row.RX_IGNORED : ObjRow := ⟨0x6140, 6, 0x06, 0x06, .u32, .ro, 0, false⟩
abbrev Reg.RX_IGNORED (i : Nat) : Obj := Row.RX_IGNORED.obj i 0

/-- RX_DISARMED, 0x6140+p:07 (R326). -/
def Row.RX_DISARMED : ObjRow := ⟨0x6140, 6, 0x07, 0x07, .u32, .ro, 0, false⟩
abbrev Reg.RX_DISARMED (i : Nat) : Obj := Row.RX_DISARMED.obj i 0

/-- DECODE_ERR, 0x6140+p:08 (R326). -/
def Row.DECODE_ERR : ObjRow := ⟨0x6140, 6, 0x08, 0x08, .u32, .ro, 0, false⟩
abbrev Reg.DECODE_ERR (i : Nat) : Obj := Row.DECODE_ERR.obj i 0

/-- NOMAP, 0x6140+p:09 (R326). -/
def Row.NOMAP : ObjRow := ⟨0x6140, 6, 0x09, 0x09, .u32, .ro, 0, false⟩
abbrev Reg.NOMAP (i : Nat) : Obj := Row.NOMAP.obj i 0

/-- EVENTS_IN, 0x6140+p:0A (R326). -/
def Row.EVENTS_IN : ObjRow := ⟨0x6140, 6, 0x0A, 0x0A, .u64, .ro, 0, false⟩
abbrev Reg.EVENTS_IN (i : Nat) : Obj := Row.EVENTS_IN.obj i 0

/-- EVENTS_INJ, 0x6140+p:0B (R326). -/
def Row.EVENTS_INJ : ObjRow := ⟨0x6140, 6, 0x0B, 0x0B, .u64, .ro, 0, false⟩
abbrev Reg.EVENTS_INJ (i : Nat) : Obj := Row.EVENTS_INJ.obj i 0

/-- INJ_REJECT, 0x6140+p:0C (R326). -/
def Row.INJ_REJECT : ObjRow := ⟨0x6140, 6, 0x0C, 0x0C, .u32, .ro, 0, false⟩
abbrev Reg.INJ_REJECT (i : Nat) : Obj := Row.INJ_REJECT.obj i 0

/-- TS_FUTURE, 0x6140+p:0D (R326). -/
def Row.TS_FUTURE : ObjRow := ⟨0x6140, 6, 0x0D, 0x0D, .u32, .ro, 0, false⟩
abbrev Reg.TS_FUTURE (i : Nat) : Obj := Row.TS_FUTURE.obj i 0

/-- OVF_DROP, 0x6140+p:0E (R326). -/
def Row.OVF_DROP : ObjRow := ⟨0x6140, 6, 0x0E, 0x0E, .u64, .ro, 0, false⟩
abbrev Reg.OVF_DROP (i : Nat) : Obj := Row.OVF_DROP.obj i 0

/-- OVF_PKTS, 0x6140+p:0F (R326). -/
def Row.OVF_PKTS : ObjRow := ⟨0x6140, 6, 0x0F, 0x0F, .u32, .ro, 0, false⟩
abbrev Reg.OVF_PKTS (i : Nat) : Obj := Row.OVF_PKTS.obj i 0

/-- REIN_ASSERTS, 0x6140+p:10 (R326). -/
def Row.REIN_ASSERTS : ObjRow := ⟨0x6140, 6, 0x10, 0x10, .u32, .ro, 0, false⟩
abbrev Reg.REIN_ASSERTS (i : Nat) : Obj := Row.REIN_ASSERTS.obj i 0

/-- SEQ_GAP, 0x6140+p:11 (R326). -/
def Row.SEQ_GAP : ObjRow := ⟨0x6140, 6, 0x11, 0x11, .u32, .ro, 0, false⟩
abbrev Reg.SEQ_GAP (i : Nat) : Obj := Row.SEQ_GAP.obj i 0

/-- SEQ_OOO, 0x6140+p:12 (R326). -/
def Row.SEQ_OOO : ObjRow := ⟨0x6140, 6, 0x12, 0x12, .u32, .ro, 0, false⟩
abbrev Reg.SEQ_OOO (i : Nat) : Obj := Row.SEQ_OOO.obj i 0

/-- PG_DROP, 0x6140+p:13 (R326). -/
def Row.PG_DROP : ObjRow := ⟨0x6140, 6, 0x13, 0x13, .u32, .ro, 0, false⟩
abbrev Reg.PG_DROP (i : Nat) : Obj := Row.PG_DROP.obj i 0

/-- DISARM_DISCARD, 0x6140+p:14 (R326). -/
def Row.DISARM_DISCARD : ObjRow := ⟨0x6140, 6, 0x14, 0x14, .u64, .ro, 0, false⟩
abbrev Reg.DISARM_DISCARD (i : Nat) : Obj := Row.DISARM_DISCARD.obj i 0

/-- PAUSE_RX, 0x6140+p:15 (R326). -/
def Row.PAUSE_RX : ObjRow := ⟨0x6140, 6, 0x15, 0x15, .u32, .ro, 0, false⟩
abbrev Reg.PAUSE_RX (i : Nat) : Obj := Row.PAUSE_RX.obj i 0

/-- REIN_TIME_US, 0x6140+p:16 (R326). -/
def Row.REIN_TIME_US : ObjRow := ⟨0x6140, 6, 0x16, 0x16, .u64, .ro, 0, false⟩
abbrev Reg.REIN_TIME_US (i : Nat) : Obj := Row.REIN_TIME_US.obj i 0

/-- SKID_PEAK, 0x6140+p:17 (R326). -/
def Row.SKID_PEAK : ObjRow := ⟨0x6140, 6, 0x17, 0x17, .u32, .rc, 0, false⟩
abbrev Reg.SKID_PEAK (i : Nat) : Obj := Row.SKID_PEAK.obj i 0

/-- SKID_DENIED, 0x6140+p:18 (R326). -/
def Row.SKID_DENIED : ObjRow := ⟨0x6140, 6, 0x18, 0x18, .u32, .ro, 0, false⟩
abbrev Reg.SKID_DENIED (i : Nat) : Obj := Row.SKID_DENIED.obj i 0

/-- DEV_NUM, 0x2600:01 (R351). -/
def Row.DEV_NUM : ObjRow := ⟨0x2600, 1, 0x01, 0x01, .u8, .ro, 0, false⟩
abbrev Reg.DEV_NUM : Obj := Row.DEV_NUM.obj 0 0

/-- TORUS_SHAPE, 0x2600:02 (R351). -/
def Row.TORUS_SHAPE : ObjRow := ⟨0x2600, 1, 0x02, 0x02, .u32, .rwp, 0x00040404, true⟩
abbrev Reg.TORUS_SHAPE : Obj := Row.TORUS_SHAPE.obj 0 0

/-- LINKS_UP, 0x2600:03 (R351). -/
def Row.LINKS_UP : ObjRow := ⟨0x2600, 1, 0x03, 0x03, .bits32, .ro, 0x00000000, false⟩
abbrev Reg.LINKS_UP : Obj := Row.LINKS_UP.obj 0 0

/-- TREE_PARENT, 0x2600:04 (R351). -/
def Row.TREE_PARENT : ObjRow := ⟨0x2600, 1, 0x04, 0x04, .u8, .ro, 0xFF, false⟩
abbrev Reg.TREE_PARENT : Obj := Row.TREE_PARENT.obj 0 0

/-- TREE_DEPTH, 0x2600:05 (R351). -/
def Row.TREE_DEPTH : ObjRow := ⟨0x2600, 1, 0x05, 0x05, .u8, .ro, 0, false⟩
abbrev Reg.TREE_DEPTH : Obj := Row.TREE_DEPTH.obj 0 0

/-- WAKE_LINK, 0x2600:06 (R351). -/
def Row.WAKE_LINK : ObjRow := ⟨0x2600, 1, 0x06, 0x06, .u8, .rwp, 0, true⟩
abbrev Reg.WAKE_LINK : Obj := Row.WAKE_LINK.obj 0 0

/-- WAKE_MODE, 0x2600:07 (R351). -/
def Row.WAKE_MODE : ObjRow := ⟨0x2600, 1, 0x07, 0x07, .u8, .rwp, 1, true⟩
abbrev Reg.WAKE_MODE : Obj := Row.WAKE_MODE.obj 0 0

/-- RETRY_TMO_NS, 0x2600:08 (R351). -/
def Row.RETRY_TMO_NS : ObjRow := ⟨0x2600, 1, 0x08, 0x08, .u32, .rw, 4000, false⟩
abbrev Reg.RETRY_TMO_NS : Obj := Row.RETRY_TMO_NS.obj 0 0

/-- BULK_WEIGHT, 0x2600:09 (R351). -/
def Row.BULK_WEIGHT : ObjRow := ⟨0x2600, 1, 0x09, 0x09, .u8, .rw, 1, false⟩
abbrev Reg.BULK_WEIGHT : Obj := Row.BULK_WEIGHT.obj 0 0

/-- LANE_BER_MAX, 0x2600:0A (R351). -/
def Row.LANE_BER_MAX : ObjRow := ⟨0x2600, 1, 0x0A, 0x0A, .u32, .rw, 10000, false⟩
abbrev Reg.LANE_BER_MAX : Obj := Row.LANE_BER_MAX.obj 0 0

/-- LINK_STATE, 0x2610+l:01 (R352). -/
def Row.LINK_STATE : ObjRow := ⟨0x2610, 8, 0x01, 0x01, .u8, .ro, 0, false⟩
abbrev Reg.LINK_STATE (i : Nat) : Obj := Row.LINK_STATE.obj i 0

/-- WIDTH, 0x2610+l:02 (R352). -/
def Row.WIDTH : ObjRow := ⟨0x2610, 8, 0x02, 0x02, .u8, .ro, 0, false⟩
abbrev Reg.WIDTH (i : Nat) : Obj := Row.WIDTH.obj i 0

/-- LANES_GOOD, 0x2610+l:03 (R352). -/
def Row.LANES_GOOD : ObjRow := ⟨0x2610, 8, 0x03, 0x03, .bits32, .ro, 15, false⟩
abbrev Reg.LANES_GOOD (i : Nat) : Obj := Row.LANES_GOOD.obj i 0

/-- LANES_USED, 0x2610+l:04 (R352). -/
def Row.LANES_USED : ObjRow := ⟨0x2610, 8, 0x04, 0x04, .bits32, .ro, 0x00000000, false⟩
abbrev Reg.LANES_USED (i : Nat) : Obj := Row.LANES_USED.obj i 0

/-- LANE_MAP_RX, 0x2610+l:05 (R352). -/
def Row.LANE_MAP_RX : ObjRow := ⟨0x2610, 8, 0x05, 0x05, .u16, .ro, 0x3210, false⟩
abbrev Reg.LANE_MAP_RX (i : Nat) : Obj := Row.LANE_MAP_RX.obj i 0

/-- POL_INV, 0x2610+l:06 (R352). -/
def Row.POL_INV : ObjRow := ⟨0x2610, 8, 0x06, 0x06, .bits32, .ro, 0x00000000, false⟩
abbrev Reg.POL_INV (i : Nat) : Obj := Row.POL_INV.obj i 0

/-- ROLE, 0x2610+l:07 (R352). -/
def Row.ROLE : ObjRow := ⟨0x2610, 8, 0x07, 0x07, .u8, .rwp, 0, true⟩
abbrev Reg.ROLE (i : Nat) : Obj := Row.ROLE.obj i 0

/-- PEER_DEV, 0x2610+l:08 (R352). -/
def Row.PEER_DEV : ObjRow := ⟨0x2610, 8, 0x08, 0x08, .u8, .ro, 0xFF, false⟩
abbrev Reg.PEER_DEV (i : Nat) : Obj := Row.PEER_DEV.obj i 0

/-- PEER_LINK, 0x2610+l:09 (R352). -/
def Row.PEER_LINK : ObjRow := ⟨0x2610, 8, 0x09, 0x09, .u8, .ro, 0xFF, false⟩
abbrev Reg.PEER_LINK (i : Nat) : Obj := Row.PEER_LINK.obj i 0

/-- TPV, 0x2610+l:0A (R352). -/
def Row.TPV : ObjRow := ⟨0x2610, 8, 0x0A, 0x0A, .u8, .ro, 0, false⟩
abbrev Reg.TPV (i : Nat) : Obj := Row.TPV.obj i 0

/-- REFUSE_CAUSE, 0x2610+l:0B (R352). -/
def Row.REFUSE_CAUSE : ObjRow := ⟨0x2610, 8, 0x0B, 0x0B, .u8, .ro, 0, false⟩
abbrev Reg.REFUSE_CAUSE (i : Nat) : Obj := Row.REFUSE_CAUSE.obj i 0

/-- RETRAIN, 0x2610+l:0C (R352). -/
def Row.RETRAIN : ObjRow := ⟨0x2610, 8, 0x0C, 0x0C, .u8, .wo, 0, false⟩
abbrev Reg.RETRAIN (i : Nat) : Obj := Row.RETRAIN.obj i 0

/-- SPUR_SEND, 0x2610+l:0D (R352). -/
def Row.SPUR_SEND : ObjRow := ⟨0x2610, 8, 0x0D, 0x0D, .u8, .wo, 0, false⟩
abbrev Reg.SPUR_SEND (i : Nat) : Obj := Row.SPUR_SEND.obj i 0

/-- DATELINE, 0x2610+l:0E (R352). -/
def Row.DATELINE : ObjRow := ⟨0x2610, 8, 0x0E, 0x0E, .bool, .ro, 0x00, false⟩
abbrev Reg.DATELINE (i : Nat) : Obj := Row.DATELINE.obj i 0

/-- BUNDLE, 0x2610+l:0F (R352). -/
def Row.BUNDLE : ObjRow := ⟨0x2610, 8, 0x0F, 0x0F, .bits32, .ro, 0x00000000, false⟩
abbrev Reg.BUNDLE (i : Nat) : Obj := Row.BUNDLE.obj i 0

/-- FLITS_TX, 0x6150:01 (R353). -/
def Row.FLITS_TX : ObjRow := ⟨0x6150, 1, 0x01, 0x01, .u64, .ro, 0, false⟩
abbrev Reg.FLITS_TX : Obj := Row.FLITS_TX.obj 0 0

/-- FLITS_RX, 0x6150:02 (R353). -/
def Row.FLITS_RX : ObjRow := ⟨0x6150, 1, 0x02, 0x02, .u64, .ro, 0, false⟩
abbrev Reg.FLITS_RX : Obj := Row.FLITS_RX.obj 0 0

/-- FEC_CORR_SYM, 0x6150:03 (R353). -/
def Row.FEC_CORR_SYM : ObjRow := ⟨0x6150, 1, 0x03, 0x03, .u64, .ro, 0, false⟩
abbrev Reg.FEC_CORR_SYM : Obj := Row.FEC_CORR_SYM.obj 0 0

/-- FEC_UNCORR, 0x6150:04 (R353). -/
def Row.FEC_UNCORR : ObjRow := ⟨0x6150, 1, 0x04, 0x04, .u32, .ro, 0, false⟩
abbrev Reg.FEC_UNCORR : Obj := Row.FEC_UNCORR.obj 0 0

/-- CRC_FAIL, 0x6150:05 (R353). -/
def Row.CRC_FAIL : ObjRow := ⟨0x6150, 1, 0x05, 0x05, .u32, .ro, 0, false⟩
abbrev Reg.CRC_FAIL : Obj := Row.CRC_FAIL.obj 0 0

/-- NAKS_TX, 0x6150:06 (R353). -/
def Row.NAKS_TX : ObjRow := ⟨0x6150, 1, 0x06, 0x06, .u32, .ro, 0, false⟩
abbrev Reg.NAKS_TX : Obj := Row.NAKS_TX.obj 0 0

/-- REPLAYS, 0x6150:07 (R353). -/
def Row.REPLAYS : ObjRow := ⟨0x6150, 1, 0x07, 0x07, .u32, .ro, 0, false⟩
abbrev Reg.REPLAYS : Obj := Row.REPLAYS.obj 0 0

/-- REPLAY_FLITS, 0x6150:08 (R353). -/
def Row.REPLAY_FLITS : ObjRow := ⟨0x6150, 1, 0x08, 0x08, .u64, .ro, 0, false⟩
abbrev Reg.REPLAY_FLITS : Obj := Row.REPLAY_FLITS.obj 0 0

/-- DUP_RX, 0x6150:09 (R353). -/
def Row.DUP_RX : ObjRow := ⟨0x6150, 1, 0x09, 0x09, .u32, .ro, 0, false⟩
abbrev Reg.DUP_RX : Obj := Row.DUP_RX.obj 0 0

/-- SEQ_DISCARD, 0x6150:0A (R353). -/
def Row.SEQ_DISCARD : ObjRow := ⟨0x6150, 1, 0x0A, 0x0A, .u64, .ro, 0, false⟩
abbrev Reg.SEQ_DISCARD : Obj := Row.SEQ_DISCARD.obj 0 0

/-- REPLAY_FULL_NS, 0x6150:0B (R353). -/
def Row.REPLAY_FULL_NS : ObjRow := ⟨0x6150, 1, 0x0B, 0x0B, .u64, .ro, 0, false⟩
abbrev Reg.REPLAY_FULL_NS : Obj := Row.REPLAY_FULL_NS.obj 0 0

/-- CREDIT_STALL, 0x6150:0C (R353). -/
def Row.CREDIT_STALL : ObjRow := ⟨0x6150, 1, 0x0C, 0x0C, .u64, .ro, 0, false⟩
abbrev Reg.CREDIT_STALL : Obj := Row.CREDIT_STALL.obj 0 0

/-- STUCK_REPORTS, 0x6150:0D (R353). -/
def Row.STUCK_REPORTS : ObjRow := ⟨0x6150, 1, 0x0D, 0x0D, .u32, .ro, 0, false⟩
abbrev Reg.STUCK_REPORTS : Obj := Row.STUCK_REPORTS.obj 0 0

/-- LANE_DEGRADES, 0x6150:0E (R353). -/
def Row.LANE_DEGRADES : ObjRow := ⟨0x6150, 1, 0x0E, 0x0E, .u32, .ro, 0, false⟩
abbrev Reg.LANE_DEGRADES : Obj := Row.LANE_DEGRADES.obj 0 0

/-- TRAIN_FAILS, 0x6150:0F (R353). -/
def Row.TRAIN_FAILS : ObjRow := ⟨0x6150, 1, 0x0F, 0x0F, .u32, .ro, 0, false⟩
abbrev Reg.TRAIN_FAILS : Obj := Row.TRAIN_FAILS.obj 0 0

/-- LINK_LOSSES, 0x6150:10 (R353). -/
def Row.LINK_LOSSES : ObjRow := ⟨0x6150, 1, 0x10, 0x10, .u32, .ro, 0, false⟩
abbrev Reg.LINK_LOSSES : Obj := Row.LINK_LOSSES.obj 0 0

/-- FLIT_BADFMT, 0x6150:11 (R353). -/
def Row.FLIT_BADFMT : ObjRow := ⟨0x6150, 1, 0x11, 0x11, .u32, .ro, 0, false⟩
abbrev Reg.FLIT_BADFMT : Obj := Row.FLIT_BADFMT.obj 0 0

/-- EVENTS_TX, 0x6150:12 (R353). -/
def Row.EVENTS_TX : ObjRow := ⟨0x6150, 1, 0x12, 0x12, .u64, .ro, 0, false⟩
abbrev Reg.EVENTS_TX : Obj := Row.EVENTS_TX.obj 0 0

/-- EVENTS_RX, 0x6150:13 (R353). -/
def Row.EVENTS_RX : ObjRow := ⟨0x6150, 1, 0x13, 0x13, .u64, .ro, 0, false⟩
abbrev Reg.EVENTS_RX : Obj := Row.EVENTS_RX.obj 0 0

/-- LINK_HOLD_NS, 0x6150:14 (R353). -/
def Row.LINK_HOLD_NS : ObjRow := ⟨0x6150, 1, 0x14, 0x14, .u64, .ro, 0, false⟩
abbrev Reg.LINK_HOLD_NS : Obj := Row.LINK_HOLD_NS.obj 0 0

/-- SKIP_ADJ, 0x6150:15 (R353). -/
def Row.SKIP_ADJ : ObjRow := ⟨0x6150, 1, 0x15, 0x15, .u64, .ro, 0, false⟩
abbrev Reg.SKIP_ADJ : Obj := Row.SKIP_ADJ.obj 0 0

/-- DEVICE_TYPE, 0x1000:00 (R360). -/
def Row.DEVICE_TYPE : ObjRow := ⟨0x1000, 1, 0x00, 0x00, .u32, .ro, 0x00010000, false⟩
abbrev Reg.DEVICE_TYPE : Obj := Row.DEVICE_TYPE.obj 0 0

/-- ERROR_REG, 0x1001:00 (R360). -/
def Row.ERROR_REG : ObjRow := ⟨0x1001, 1, 0x00, 0x00, .u8, .ro, 0, false⟩
abbrev Reg.ERROR_REG : Obj := Row.ERROR_REG.obj 0 0

/-- EMCY_HISTORY, 0x1003:01 (R360). -/
def Row.EMCY_HISTORY : ObjRow := ⟨0x1003, 1, 0x01, 0x08, .u32, .ro, 0, false⟩
abbrev Reg.EMCY_HISTORY (j : Nat) : Obj := Row.EMCY_HISTORY.obj 0 j

/-- NAME, 0x1008:00 (R360). -/
def Row.NAME : ObjRow := ⟨0x1008, 1, 0x00, 0x00, .str, .ro, 0x383436312d4d4c46, false⟩
abbrev Reg.NAME : Obj := Row.NAME.obj 0 0

/-- HW_VERSION, 0x1009:00 (R360). -/
def Row.HW_VERSION : ObjRow := ⟨0x1009, 1, 0x00, 0x00, .str, .ro, 0, false⟩
abbrev Reg.HW_VERSION : Obj := Row.HW_VERSION.obj 0 0

/-- SW_VERSION, 0x100A:00 (R360). -/
def Row.SW_VERSION : ObjRow := ⟨0x100A, 1, 0x00, 0x00, .str, .ro, 0, false⟩
abbrev Reg.SW_VERSION : Obj := Row.SW_VERSION.obj 0 0

/-- RESTORE_DEFAULTS, 0x1011:01 (R360). -/
def Row.RESTORE_DEFAULTS : ObjRow := ⟨0x1011, 1, 0x01, 0x01, .u32, .wo, 0, false⟩
abbrev Reg.RESTORE_DEFAULTS : Obj := Row.RESTORE_DEFAULTS.obj 0 0

/-- COB_ID_EMCY, 0x1014:00 (R360). -/
def Row.COB_ID_EMCY : ObjRow := ⟨0x1014, 1, 0x00, 0x00, .u32, .ro, 0xFF, false⟩
abbrev Reg.COB_ID_EMCY : Obj := Row.COB_ID_EMCY.obj 0 0

/-- EMCY_INHIBIT, 0x1015:00 (R360). -/
def Row.EMCY_INHIBIT : ObjRow := ⟨0x1015, 1, 0x00, 0x00, .u16, .rwp, 100, true⟩
abbrev Reg.EMCY_INHIBIT : Obj := Row.EMCY_INHIBIT.obj 0 0

/-- HEARTBEAT_MS, 0x1017:00 (R360). -/
def Row.HEARTBEAT_MS : ObjRow := ⟨0x1017, 1, 0x00, 0x00, .u16, .rwp, 1000, true⟩
abbrev Reg.HEARTBEAT_MS : Obj := Row.HEARTBEAT_MS.obj 0 0

/-- VENDOR_ID, 0x1018:01 (R360). -/
def Row.VENDOR_ID : ObjRow := ⟨0x1018, 1, 0x01, 0x01, .u32, .ro, 0, false⟩
abbrev Reg.VENDOR_ID : Obj := Row.VENDOR_ID.obj 0 0

/-- PRODUCT, 0x1018:02 (R360). -/
def Row.PRODUCT : ObjRow := ⟨0x1018, 1, 0x02, 0x02, .u32, .ro, 0, false⟩
abbrev Reg.PRODUCT : Obj := Row.PRODUCT.obj 0 0

/-- REVISION, 0x1018:03 (R360). -/
def Row.REVISION : ObjRow := ⟨0x1018, 1, 0x03, 0x03, .u32, .ro, 0, false⟩
abbrev Reg.REVISION : Obj := Row.REVISION.obj 0 0

/-- SERIAL, 0x1018:04 (R360). -/
def Row.SERIAL : ObjRow := ⟨0x1018, 1, 0x04, 0x04, .u32, .ro, 0, false⟩
abbrev Reg.SERIAL : Obj := Row.SERIAL.obj 0 0

/-- SERIAL_FULL, 0x1018:05 (R360). -/
def Row.SERIAL_FULL : ObjRow := ⟨0x1018, 1, 0x05, 0x05, (.domain 16), .ro, 0, false⟩
abbrev Reg.SERIAL_FULL : Obj := Row.SERIAL_FULL.obj 0 0

/-- MAC_BASE, 0x1018:06 (R360). -/
def Row.MAC_BASE : ObjRow := ⟨0x1018, 1, 0x06, 0x06, (.domain 6), .ro, 0, false⟩
abbrev Reg.MAC_BASE : Obj := Row.MAC_BASE.obj 0 0

/-- FA_LEVEL, 0x2010:01 (R360). -/
def Row.FA_LEVEL : ObjRow := ⟨0x2010, 1, 0x01, 0x01, .u8, .ro, 1, false⟩
abbrev Reg.FA_LEVEL : Obj := Row.FA_LEVEL.obj 0 0

/-- HFV_RANGE, 0x2010:02 (R360). -/
def Row.HFV_RANGE : ObjRow := ⟨0x2010, 1, 0x02, 0x02, .u16, .ro, 0x0101, false⟩
abbrev Reg.HFV_RANGE : Obj := Row.HFV_RANGE.obj 0 0

/-- CFV_RANGE, 0x2010:03 (R360). -/
def Row.CFV_RANGE : ObjRow := ⟨0x2010, 1, 0x03, 0x03, .u16, .ro, 0x0101, false⟩
abbrev Reg.CFV_RANGE : Obj := Row.CFV_RANGE.obj 0 0

/-- HTP_RANGE, 0x2010:04 (R360). -/
def Row.HTP_RANGE : ObjRow := ⟨0x2010, 1, 0x04, 0x04, .u16, .ro, 0x0101, false⟩
abbrev Reg.HTP_RANGE : Obj := Row.HTP_RANGE.obj 0 0

/-- TPV_RANGE, 0x2010:05 (R360). -/
def Row.TPV_RANGE : ObjRow := ⟨0x2010, 1, 0x05, 0x05, .u16, .ro, 0x0101, false⟩
abbrev Reg.TPV_RANGE : Obj := Row.TPV_RANGE.obj 0 0

/-- HTP_IN_USE, 0x2010:06 (R360). -/
def Row.HTP_IN_USE : ObjRow := ⟨0x2010, 1, 0x06, 0x06, .u8, .ro, 0, false⟩
abbrev Reg.HTP_IN_USE : Obj := Row.HTP_IN_USE.obj 0 0

/-- USB_VID, 0x2800:01 (R372). -/
def Row.USB_VID : ObjRow := ⟨0x2800, 1, 0x01, 0x01, .u16, .ro, 0, false⟩
abbrev Reg.USB_VID : Obj := Row.USB_VID.obj 0 0

/-- USB_PID, 0x2800:02 (R372). -/
def Row.USB_PID : ObjRow := ⟨0x2800, 1, 0x02, 0x02, .u16, .ro, 0x1648, false⟩
abbrev Reg.USB_PID : Obj := Row.USB_PID.obj 0 0

/-- USB_STATE, 0x2800:03 (R372). -/
def Row.USB_STATE : ObjRow := ⟨0x2800, 1, 0x03, 0x03, .u8, .ro, 0, false⟩
abbrev Reg.USB_STATE : Obj := Row.USB_STATE.obj 0 0

/-- USB_SPEED, 0x2800:04 (R372). -/
def Row.USB_SPEED : ObjRow := ⟨0x2800, 1, 0x04, 0x04, .u8, .ro, 0, false⟩
abbrev Reg.USB_SPEED : Obj := Row.USB_SPEED.obj 0 0

/-- NODE_ID, 0x2810:01 (R372). -/
def Row.NODE_ID : ObjRow := ⟨0x2810, 1, 0x01, 0x01, .u8, .rwp, 0x7F, true⟩
abbrev Reg.NODE_ID : Obj := Row.NODE_ID.obj 0 0

/-- NOM_RATE, 0x2810:02 (R372). -/
def Row.NOM_RATE : ObjRow := ⟨0x2810, 1, 0x02, 0x02, .u16, .rwp, 500, true⟩
abbrev Reg.NOM_RATE : Obj := Row.NOM_RATE.obj 0 0

/-- DATA_RATE, 0x2810:03 (R372). -/
def Row.DATA_RATE : ObjRow := ⟨0x2810, 1, 0x03, 0x03, .u16, .rwp, 2000, true⟩
abbrev Reg.DATA_RATE : Obj := Row.DATA_RATE.obj 0 0

/-- NOM_SP, 0x2810:04 (R372). -/
def Row.NOM_SP : ObjRow := ⟨0x2810, 1, 0x04, 0x04, .u16, .rwp, 800, true⟩
abbrev Reg.NOM_SP : Obj := Row.NOM_SP.obj 0 0

/-- DATA_SP, 0x2810:05 (R372). -/
def Row.DATA_SP : ObjRow := ⟨0x2810, 1, 0x05, 0x05, .u16, .rwp, 750, true⟩
abbrev Reg.DATA_SP : Obj := Row.DATA_SP.obj 0 0

/-- CAN_STATE, 0x2810:06 (R372). -/
def Row.CAN_STATE : ObjRow := ⟨0x2810, 1, 0x06, 0x06, .u8, .ro, 0, false⟩
abbrev Reg.CAN_STATE : Obj := Row.CAN_STATE.obj 0 0

/-- BUSOFF_RECOVER, 0x2810:07 (R372). -/
def Row.BUSOFF_RECOVER : ObjRow := ⟨0x2810, 1, 0x07, 0x07, .bool, .rwp, 0x01, true⟩
abbrev Reg.BUSOFF_RECOVER : Obj := Row.BUSOFF_RECOVER.obj 0 0

/-- NMT_STATE, 0x2810:08 (R372). -/
def Row.NMT_STATE : ObjRow := ⟨0x2810, 1, 0x08, 0x08, .u8, .ro, 0x7F, false⟩
abbrev Reg.NMT_STATE : Obj := Row.NMT_STATE.obj 0 0

/-- REMOTE_TMO_MS, 0x2830:01 (R372). -/
def Row.REMOTE_TMO_MS : ObjRow := ⟨0x2830, 1, 0x01, 0x01, .u16, .rw, 50, false⟩
abbrev Reg.REMOTE_TMO_MS : Obj := Row.REMOTE_TMO_MS.obj 0 0

/-- HTP_SESSIONS, 0x2830:02 (R372). -/
def Row.HTP_SESSIONS : ObjRow := ⟨0x2830, 1, 0x02, 0x02, .u8, .ro, 0, false⟩
abbrev Reg.HTP_SESSIONS : Obj := Row.HTP_SESSIONS.obj 0 0

/-- HTP_FRAMES, 0x6170:01 (R373). -/
def Row.HTP_FRAMES : ObjRow := ⟨0x6170, 1, 0x01, 0x01, .u64, .ro, 0, false⟩
abbrev Reg.HTP_FRAMES : Obj := Row.HTP_FRAMES.obj 0 0

/-- HTP_BADFRAME, 0x6170:02 (R373). -/
def Row.HTP_BADFRAME : ObjRow := ⟨0x6170, 1, 0x02, 0x02, .u32, .ro, 0, false⟩
abbrev Reg.HTP_BADFRAME : Obj := Row.HTP_BADFRAME.obj 0 0

/-- HTP_VERSION_REF, 0x6170:03 (R373). -/
def Row.HTP_VERSION_REF : ObjRow := ⟨0x6170, 1, 0x03, 0x03, .u32, .ro, 0, false⟩
abbrev Reg.HTP_VERSION_REF : Obj := Row.HTP_VERSION_REF.obj 0 0

/-- HTP_TIMEOUT, 0x6170:04 (R373). -/
def Row.HTP_TIMEOUT : ObjRow := ⟨0x6170, 1, 0x04, 0x04, .u32, .ro, 0, false⟩
abbrev Reg.HTP_TIMEOUT : Obj := Row.HTP_TIMEOUT.obj 0 0

/-- SDO_ABORTS, 0x6170:05 (R373). -/
def Row.SDO_ABORTS : ObjRow := ⟨0x6170, 1, 0x05, 0x05, .u32, .ro, 0, false⟩
abbrev Reg.SDO_ABORTS : Obj := Row.SDO_ABORTS.obj 0 0

/-- CAN_RX, 0x6170:06 (R373). -/
def Row.CAN_RX : ObjRow := ⟨0x6170, 1, 0x06, 0x06, .u64, .ro, 0, false⟩
abbrev Reg.CAN_RX : Obj := Row.CAN_RX.obj 0 0

/-- CAN_TX, 0x6170:07 (R373). -/
def Row.CAN_TX : ObjRow := ⟨0x6170, 1, 0x07, 0x07, .u64, .ro, 0, false⟩
abbrev Reg.CAN_TX : Obj := Row.CAN_TX.obj 0 0

/-- CAN_ERR_FRAMES, 0x6170:08 (R373). -/
def Row.CAN_ERR_FRAMES : ObjRow := ⟨0x6170, 1, 0x08, 0x08, .u32, .ro, 0, false⟩
abbrev Reg.CAN_ERR_FRAMES : Obj := Row.CAN_ERR_FRAMES.obj 0 0

/-- BUSOFF, 0x6170:09 (R373). -/
def Row.BUSOFF : ObjRow := ⟨0x6170, 1, 0x09, 0x09, .u32, .ro, 0, false⟩
abbrev Reg.BUSOFF : Obj := Row.BUSOFF.obj 0 0

/-- PDO_LEN_ERR, 0x6170:0A (R373). -/
def Row.PDO_LEN_ERR : ObjRow := ⟨0x6170, 1, 0x0A, 0x0A, .u32, .ro, 0, false⟩
abbrev Reg.PDO_LEN_ERR : Obj := Row.PDO_LEN_ERR.obj 0 0

/-- EMCY_SENT, 0x6170:0B (R373). -/
def Row.EMCY_SENT : ObjRow := ⟨0x6170, 1, 0x0B, 0x0B, .u32, .ro, 0, false⟩
abbrev Reg.EMCY_SENT : Obj := Row.EMCY_SENT.obj 0 0

/-- EMCY_SUPPRESSED, 0x6170:0C (R373). -/
def Row.EMCY_SUPPRESSED : ObjRow := ⟨0x6170, 1, 0x0C, 0x0C, .u32, .ro, 0, false⟩
abbrev Reg.EMCY_SUPPRESSED : Obj := Row.EMCY_SUPPRESSED.obj 0 0

/-- DICT_STAGE_LOST, 0x6170:0D (R373). -/
def Row.DICT_STAGE_LOST : ObjRow := ⟨0x6170, 1, 0x0D, 0x0D, .u32, .ro, 0, false⟩
abbrev Reg.DICT_STAGE_LOST : Obj := Row.DICT_STAGE_LOST.obj 0 0

/-- PD_COMMITS, 0x6170:0E (R373). -/
def Row.PD_COMMITS : ObjRow := ⟨0x6170, 1, 0x0E, 0x0E, .u32, .ro, 0, false⟩
abbrev Reg.PD_COMMITS : Obj := Row.PD_COMMITS.obj 0 0

/-- PD_UNKNOWN, 0x6170:0F (R373). -/
def Row.PD_UNKNOWN : ObjRow := ⟨0x6170, 1, 0x0F, 0x0F, .u32, .ro, 0, false⟩
abbrev Reg.PD_UNKNOWN : Obj := Row.PD_UNKNOWN.obj 0 0

/-- PD_INVALID, 0x6170:10 (R373). -/
def Row.PD_INVALID : ObjRow := ⟨0x6170, 1, 0x10, 0x10, .u32, .ro, 0, false⟩
abbrev Reg.PD_INVALID : Obj := Row.PD_INVALID.obj 0 0

/-- REMOTE_TMO, 0x6170:11 (R373). -/
def Row.REMOTE_TMO : ObjRow := ⟨0x6170, 1, 0x11, 0x11, .u32, .ro, 0, false⟩
abbrev Reg.REMOTE_TMO : Obj := Row.REMOTE_TMO.obj 0 0

/-- STEP_CLOCK_NS, 0x2200:01 (R385). -/
def Row.STEP_CLOCK_NS : ObjRow := ⟨0x2200, 1, 0x01, 0x01, .u64, .ro, 0, false⟩
abbrev Reg.STEP_CLOCK_NS : Obj := Row.STEP_CLOCK_NS.obj 0 0

/-- NEXT_NOM, 0x2200:02 (R385). -/
def Row.NEXT_NOM : ObjRow := ⟨0x2200, 1, 0x02, 0x02, .u64, .ro, 0, false⟩
abbrev Reg.NEXT_NOM : Obj := Row.NEXT_NOM.obj 0 0

/-- SYNC_WIN_NS, 0x2200:03 (R385). -/
def Row.SYNC_WIN_NS : ObjRow := ⟨0x2200, 1, 0x03, 0x03, .u32, .rw, 2000, false⟩
abbrev Reg.SYNC_WIN_NS : Obj := Row.SYNC_WIN_NS.obj 0 0

/-- LAT_COMP, 0x2200:04 (R385). -/
def Row.LAT_COMP : ObjRow := ⟨0x2200, 1, 0x04, 0x04, .u32, .ro, 0, false⟩
abbrev Reg.LAT_COMP : Obj := Row.LAT_COMP.obj 0 0

/-- SYNC_OUTLIER, 0x2200:05 (R385). -/
def Row.SYNC_OUTLIER : ObjRow := ⟨0x2200, 1, 0x05, 0x05, .u32, .ro, 0, false⟩
abbrev Reg.SYNC_OUTLIER : Obj := Row.SYNC_OUTLIER.obj 0 0

/-- MAKEUPS, 0x2200:06 (R385). -/
def Row.MAKEUPS : ObjRow := ⟨0x2200, 1, 0x06, 0x06, .u32, .ro, 0, false⟩
abbrev Reg.MAKEUPS : Obj := Row.MAKEUPS.obj 0 0

/-- WAKE_LEAD_US, 0x2200:07 (R385). -/
def Row.WAKE_LEAD_US : ObjRow := ⟨0x2200, 1, 0x07, 0x07, .u32, .rwp, 0, true⟩
abbrev Reg.WAKE_LEAD_US : Obj := Row.WAKE_LEAD_US.obj 0 0

/-- GCTRL, 0x2210+k:01 (R385). -/
def Row.GCTRL : ObjRow := ⟨0x2210, 8, 0x01, 0x01, .bits32, .rw, 0x00000000, false⟩
abbrev Reg.GCTRL (i : Nat) : Obj := Row.GCTRL.obj i 0

/-- PER, 0x2210+k:02 (R385). -/
def Row.PER : ObjRow := ⟨0x2210, 8, 0x02, 0x02, .u32, .rw, 0xFFFFFFFF, false⟩
abbrev Reg.PER (i : Nat) : Obj := Row.PER.obj i 0

/-- CMP, 0x2210+k:03 (R385). -/
def Row.CMP : ObjRow := ⟨0x2210, 8, 0x03, 0x03, .u32, .rw, 0, false⟩
abbrev Reg.CMP (i : Nat) : Obj := Row.CMP.obj i 0

/-- IVL, 0x2210+k:04 (R385). -/
def Row.IVL : ObjRow := ⟨0x2210, 8, 0x04, 0x04, .u32, .rw, 0, false⟩
abbrev Reg.IVL (i : Nat) : Obj := Row.IVL.obj i 0

/-- CNT, 0x2210+k:05 (R385). -/
def Row.CNT : ObjRow := ⟨0x2210, 8, 0x05, 0x05, .u32, .ro, 0, false⟩
abbrev Reg.CNT (i : Nat) : Obj := Row.CNT.obj i 0

/-- GSTAT, 0x2210+k:06 (R385). -/
def Row.GSTAT : ObjRow := ⟨0x2210, 8, 0x06, 0x06, .bits32, .w1c, 0x00000000, false⟩
abbrev Reg.GSTAT (i : Nat) : Obj := Row.GSTAT.obj i 0

/-- MISSED, 0x2210+k:07 (R385). -/
def Row.MISSED : ObjRow := ⟨0x2210, 8, 0x07, 0x07, .u32, .ro, 0, false⟩
abbrev Reg.MISSED (i : Nat) : Obj := Row.MISSED.obj i 0

/-- ECTRL, 0x2220+ch:01 (R385). -/
def Row.ECTRL : ObjRow := ⟨0x2220, 4, 0x01, 0x01, .bits32, .rw, 0x00000000, false⟩
abbrev Reg.ECTRL (i : Nat) : Obj := Row.ECTRL.obj i 0

/-- POS, 0x2220+ch:02 (R385). -/
def Row.POS : ObjRow := ⟨0x2220, 4, 0x02, 0x02, .u32, .ro, 0, false⟩
abbrev Reg.POS (i : Nat) : Obj := Row.POS.obj i 0

/-- CAP, 0x2220+ch:03 (R385). -/
def Row.CAP : ObjRow := ⟨0x2220, 4, 0x03, 0x03, .u64, .ro, 0, false⟩
abbrev Reg.CAP (i : Nat) : Obj := Row.CAP.obj i 0

/-- CAPPOS_RD, 0x2220+ch:04 (R385). -/
def Row.CAPPOS_RD : ObjRow := ⟨0x2220, 4, 0x04, 0x04, .u32, .ro, 0, false⟩
abbrev Reg.CAPPOS_RD (i : Nat) : Obj := Row.CAPPOS_RD.obj i 0

/-- ESTAT, 0x2220+ch:05 (R385). -/
def Row.ESTAT : ObjRow := ⟨0x2220, 4, 0x05, 0x05, .bits32, .w1c, 0x00000000, false⟩
abbrev Reg.ESTAT (i : Nat) : Obj := Row.ESTAT.obj i 0

/-- OVC_CNT, 0x2220+ch:06 (R385). -/
def Row.OVC_CNT : ObjRow := ⟨0x2220, 4, 0x06, 0x06, .u16, .ro, 0, false⟩
abbrev Reg.OVC_CNT (i : Nat) : Obj := Row.OVC_CNT.obj i 0

/-- PWR_STATE, 0x2100:01 (R408). -/
def Row.PWR_STATE : ObjRow := ⟨0x2100, 1, 0x01, 0x01, .u8, .ro, 0, false⟩
abbrev Reg.PWR_STATE : Obj := Row.PWR_STATE.obj 0 0

/-- PWR_REQ, 0x2100:02 (R408). -/
def Row.PWR_REQ : ObjRow := ⟨0x2100, 1, 0x02, 0x02, .u8, .wo, 0, false⟩
abbrev Reg.PWR_REQ : Obj := Row.PWR_REQ.obj 0 0

/-- WAKE_EN, 0x2100:03 (R408). -/
def Row.WAKE_EN : ObjRow := ⟨0x2100, 1, 0x03, 0x03, .bits32, .rwp, 0x0000007F, true⟩
abbrev Reg.WAKE_EN : Obj := Row.WAKE_EN.obj 0 0

/-- WAKE_CAUSE, 0x2100:04 (R408). -/
def Row.WAKE_CAUSE : ObjRow := ⟨0x2100, 1, 0x04, 0x04, .bits32, .ro, 0x00000000, false⟩
abbrev Reg.WAKE_CAUSE : Obj := Row.WAKE_CAUSE.obj 0 0

/-- WAKE_CAN_ID, 0x2100:05 (R408). -/
def Row.WAKE_CAN_ID : ObjRow := ⟨0x2100, 1, 0x05, 0x05, .u16, .rwp, 0, true⟩
abbrev Reg.WAKE_CAN_ID : Obj := Row.WAKE_CAN_ID.obj 0 0

/-- WAKE_CAN_MASK, 0x2100:06 (R408). -/
def Row.WAKE_CAN_MASK : ObjRow := ⟨0x2100, 1, 0x06, 0x06, .u16, .rwp, 0, true⟩
abbrev Reg.WAKE_CAN_MASK : Obj := Row.WAKE_CAN_MASK.obj 0 0

/-- WATCH_PARK, 0x2100:07 (R408). -/
def Row.WATCH_PARK : ObjRow := ⟨0x2100, 1, 0x07, 0x07, .bool, .rw, 0x00, false⟩
abbrev Reg.WATCH_PARK : Obj := Row.WATCH_PARK.obj 0 0

/-- PARK_DST, 0x2100:08 (R408). -/
def Row.PARK_DST : ObjRow := ⟨0x2100, 1, 0x08, 0x08, .u64, .rw, 0, false⟩
abbrev Reg.PARK_DST : Obj := Row.PARK_DST.obj 0 0

/-- PARK_MAXLEN, 0x2100:09 (R408). -/
def Row.PARK_MAXLEN : ObjRow := ⟨0x2100, 1, 0x09, 0x09, .u32, .rw, 0, false⟩
abbrev Reg.PARK_MAXLEN : Obj := Row.PARK_MAXLEN.obj 0 0

/-- SLEEP_REIN, 0x2100:0A (R408). -/
def Row.SLEEP_REIN : ObjRow := ⟨0x2100, 1, 0x0A, 0x0A, .u8, .rwp, 1, true⟩
abbrev Reg.SLEEP_REIN : Obj := Row.SLEEP_REIN.obj 0 0

/-- SUPPLY_STATE, 0x2100:0B (R408). -/
def Row.SUPPLY_STATE : ObjRow := ⟨0x2100, 1, 0x0B, 0x0B, .u8, .ro, 0, false⟩
abbrev Reg.SUPPLY_STATE : Obj := Row.SUPPLY_STATE.obj 0 0

/-- FEEDS, 0x2100:0C (R408). -/
def Row.FEEDS : ObjRow := ⟨0x2100, 1, 0x0C, 0x0C, .bits32, .ro, 0x00000000, false⟩
abbrev Reg.FEEDS : Obj := Row.FEEDS.obj 0 0

/-- FEED_A_MV, 0x2100:0D (R408). -/
def Row.FEED_A_MV : ObjRow := ⟨0x2100, 1, 0x0D, 0x0D, .u32, .ro, 0, false⟩
abbrev Reg.FEED_A_MV : Obj := Row.FEED_A_MV.obj 0 0

/-- FEED_B_MV, 0x2100:0E (R408). -/
def Row.FEED_B_MV : ObjRow := ⟨0x2100, 1, 0x0E, 0x0E, .u32, .ro, 0, false⟩
abbrev Reg.FEED_B_MV : Obj := Row.FEED_B_MV.obj 0 0

/-- BUS_MV, 0x2100:0F (R408). -/
def Row.BUS_MV : ObjRow := ⟨0x2100, 1, 0x0F, 0x0F, .u32, .ro, 0, false⟩
abbrev Reg.BUS_MV : Obj := Row.BUS_MV.obj 0 0

/-- INPUT_MW, 0x2100:10 (R408). -/
def Row.INPUT_MW : ObjRow := ⟨0x2100, 1, 0x10, 0x10, .u32, .ro, 0, false⟩
abbrev Reg.INPUT_MW : Obj := Row.INPUT_MW.obj 0 0

/-- HOLDUP_OK, 0x2100:11 (R408). -/
def Row.HOLDUP_OK : ObjRow := ⟨0x2100, 1, 0x11, 0x11, .bool, .ro, 0x00, false⟩
abbrev Reg.HOLDUP_OK : Obj := Row.HOLDUP_OK.obj 0 0

/-- HOLDUP_MJ, 0x2100:12 (R408). -/
def Row.HOLDUP_MJ : ObjRow := ⟨0x2100, 1, 0x12, 0x12, .u32, .ro, 0, false⟩
abbrev Reg.HOLDUP_MJ : Obj := Row.HOLDUP_MJ.obj 0 0

/-- RESET_CAUSE, 0x2100:13 (R408). -/
def Row.RESET_CAUSE : ObjRow := ⟨0x2100, 1, 0x13, 0x13, .u8, .ro, 0, false⟩
abbrev Reg.RESET_CAUSE : Obj := Row.RESET_CAUSE.obj 0 0

/-- BRACE_MAX_MS, 0x2100:14 (R408). -/
def Row.BRACE_MAX_MS : ObjRow := ⟨0x2100, 1, 0x14, 0x14, .u16, .rw, 10, false⟩
abbrev Reg.BRACE_MAX_MS : Obj := Row.BRACE_MAX_MS.obj 0 0

/-- GOV_LIMIT_MW, 0x2100:15 (R408). -/
def Row.GOV_LIMIT_MW : ObjRow := ⟨0x2100, 1, 0x15, 0x15, .u32, .rwp, 50000, true⟩
abbrev Reg.GOV_LIMIT_MW : Obj := Row.GOV_LIMIT_MW.obj 0 0

/-- GOV_LIMIT_EFF_MW, 0x2100:16 (R408). -/
def Row.GOV_LIMIT_EFF_MW : ObjRow := ⟨0x2100, 1, 0x16, 0x16, .u32, .ro, 50000, false⟩
abbrev Reg.GOV_LIMIT_EFF_MW : Obj := Row.GOV_LIMIT_EFF_MW.obj 0 0

/-- GOV_LEVEL, 0x2100:17 (R408). -/
def Row.GOV_LEVEL : ObjRow := ⟨0x2100, 1, 0x17, 0x17, .u8, .ro, 0, false⟩
abbrev Reg.GOV_LEVEL : Obj := Row.GOV_LEVEL.obj 0 0

/-- TJ_THROTTLE_C, 0x2100:18 (R408). -/
def Row.TJ_THROTTLE_C : ObjRow := ⟨0x2100, 1, 0x18, 0x18, .u8, .rwp, 100, true⟩
abbrev Reg.TJ_THROTTLE_C : Obj := Row.TJ_THROTTLE_C.obj 0 0

/-- ACCT_MODE, 0x2100:19 (R408). -/
def Row.ACCT_MODE : ObjRow := ⟨0x2100, 1, 0x19, 0x19, .u8, .rw, 0, false⟩
abbrev Reg.ACCT_MODE : Obj := Row.ACCT_MODE.obj 0 0

/-- RAIL_STATUS, 0x2100:1A (R408). -/
def Row.RAIL_STATUS : ObjRow := ⟨0x2100, 1, 0x1A, 0x1A, .bits32, .ro, 0x00000000, false⟩
abbrev Reg.RAIL_STATUS : Obj := Row.RAIL_STATUS.obj 0 0

/-- RAIL_MV, 0x2110:01 (R408). -/
def Row.RAIL_MV : ObjRow := ⟨0x2110, 1, 0x01, 0x08, .u16, .ro, 0, false⟩
abbrev Reg.RAIL_MV (j : Nat) : Obj := Row.RAIL_MV.obj 0 j

/-- FEED_LOSS_A, 0x6180:01 (R409). -/
def Row.FEED_LOSS_A : ObjRow := ⟨0x6180, 1, 0x01, 0x01, .u32, .ro, 0, false⟩
abbrev Reg.FEED_LOSS_A : Obj := Row.FEED_LOSS_A.obj 0 0

/-- FEED_LOSS_B, 0x6180:02 (R409). -/
def Row.FEED_LOSS_B : ObjRow := ⟨0x6180, 1, 0x02, 0x02, .u32, .ro, 0, false⟩
abbrev Reg.FEED_LOSS_B : Obj := Row.FEED_LOSS_B.obj 0 0

/-- FEED_REVERSED, 0x6180:03 (R409). -/
def Row.FEED_REVERSED : ObjRow := ⟨0x6180, 1, 0x03, 0x03, .u32, .ro, 0, false⟩
abbrev Reg.FEED_REVERSED : Obj := Row.FEED_REVERSED.obj 0 0

/-- FEED_OV, 0x6180:04 (R409). -/
def Row.FEED_OV : ObjRow := ⟨0x6180, 1, 0x04, 0x04, .u32, .ro, 0, false⟩
abbrev Reg.FEED_OV : Obj := Row.FEED_OV.obj 0 0

/-- BRACES, 0x6180:05 (R409). -/
def Row.BRACES : ObjRow := ⟨0x6180, 1, 0x05, 0x05, .u32, .ro, 0, false⟩
abbrev Reg.BRACES : Obj := Row.BRACES.obj 0 0

/-- BRACE_NS, 0x6180:06 (R409). -/
def Row.BRACE_NS : ObjRow := ⟨0x6180, 1, 0x06, 0x06, .u64, .ro, 0, false⟩
abbrev Reg.BRACE_NS : Obj := Row.BRACE_NS.obj 0 0

/-- PF_EVENTS, 0x6180:07 (R409). -/
def Row.PF_EVENTS : ObjRow := ⟨0x6180, 1, 0x07, 0x07, .u32, .ro, 0, true⟩
abbrev Reg.PF_EVENTS : Obj := Row.PF_EVENTS.obj 0 0

/-- PF_INCOMPLETE, 0x6180:08 (R409). -/
def Row.PF_INCOMPLETE : ObjRow := ⟨0x6180, 1, 0x08, 0x08, .u32, .ro, 0, true⟩
abbrev Reg.PF_INCOMPLETE : Obj := Row.PF_INCOMPLETE.obj 0 0

/-- RAIL_RESETS, 0x6180:09 (R409). -/
def Row.RAIL_RESETS : ObjRow := ⟨0x6180, 1, 0x09, 0x09, .u32, .ro, 0, true⟩
abbrev Reg.RAIL_RESETS : Obj := Row.RAIL_RESETS.obj 0 0

/-- LPREG_OVL, 0x6180:0A (R409). -/
def Row.LPREG_OVL : ObjRow := ⟨0x6180, 1, 0x0A, 0x0A, .u32, .ro, 0, true⟩
abbrev Reg.LPREG_OVL : Obj := Row.LPREG_OVL.obj 0 0

/-- PF_RECOVERED, 0x6180:0B (R409). -/
def Row.PF_RECOVERED : ObjRow := ⟨0x6180, 1, 0x0B, 0x0B, .u32, .ro, 0, false⟩
abbrev Reg.PF_RECOVERED : Obj := Row.PF_RECOVERED.obj 0 0

/-- LOW_INPUT_ENTRIES, 0x6180:0C (R409). -/
def Row.LOW_INPUT_ENTRIES : ObjRow := ⟨0x6180, 1, 0x0C, 0x0C, .u32, .ro, 0, false⟩
abbrev Reg.LOW_INPUT_ENTRIES : Obj := Row.LOW_INPUT_ENTRIES.obj 0 0

/-- RAIL_WARN, 0x6180:0D (R409). -/
def Row.RAIL_WARN : ObjRow := ⟨0x6180, 1, 0x0D, 0x0D, .u32, .ro, 0, false⟩
abbrev Reg.RAIL_WARN : Obj := Row.RAIL_WARN.obj 0 0

/-- GOV_SPEC_NS, 0x6180:0E (R409). -/
def Row.GOV_SPEC_NS : ObjRow := ⟨0x6180, 1, 0x0E, 0x0E, .u64, .ro, 0, false⟩
abbrev Reg.GOV_SPEC_NS : Obj := Row.GOV_SPEC_NS.obj 0 0

/-- GOV_LANE_NS, 0x6180:0F (R409). -/
def Row.GOV_LANE_NS : ObjRow := ⟨0x6180, 1, 0x0F, 0x0F, .u64, .ro, 0, false⟩
abbrev Reg.GOV_LANE_NS : Obj := Row.GOV_LANE_NS.obj 0 0

/-- GOV_FLOOR_NS, 0x6180:10 (R409). -/
def Row.GOV_FLOOR_NS : ObjRow := ⟨0x6180, 1, 0x10, 0x10, .u64, .ro, 0, false⟩
abbrev Reg.GOV_FLOOR_NS : Obj := Row.GOV_FLOOR_NS.obj 0 0

/-- GOV_LEVEL_MAX, 0x6180:11 (R409). -/
def Row.GOV_LEVEL_MAX : ObjRow := ⟨0x6180, 1, 0x11, 0x11, .u8, .rc, 0, false⟩
abbrev Reg.GOV_LEVEL_MAX : Obj := Row.GOV_LEVEL_MAX.obj 0 0

/-- WAKES, 0x6180:12 (R409). -/
def Row.WAKES : ObjRow := ⟨0x6180, 1, 0x12, 0x12, .u32, .ro, 0, false⟩
abbrev Reg.WAKES : Obj := Row.WAKES.obj 0 0

/-- SLEEP_RX_DROP, 0x6180:13 (R409). -/
def Row.SLEEP_RX_DROP : ObjRow := ⟨0x6180, 1, 0x13, 0x13, .u32, .ro, 0, false⟩
abbrev Reg.SLEEP_RX_DROP : Obj := Row.SLEEP_RX_DROP.obj 0 0

/-- ACCT, 0x6190:01 (R409). -/
def Row.ACCT : ObjRow := ⟨0x6190, 1, 0x01, 0x10, .u32, .ro, 0, false⟩
abbrev Reg.ACCT (j : Nat) : Obj := Row.ACCT.obj 0 j

/-- PLL_LOCKED, 0x2300:01 (R423). -/
def Row.PLL_LOCKED : ObjRow := ⟨0x2300, 1, 0x01, 0x01, .bool, .ro, 0x00, false⟩
abbrev Reg.PLL_LOCKED : Obj := Row.PLL_LOCKED.obj 0 0

/-- REF_PPM, 0x2300:02 (R423). -/
def Row.REF_PPM : ObjRow := ⟨0x2300, 1, 0x02, 0x02, .i16, .ro, 0, false⟩
abbrev Reg.REF_PPM : Obj := Row.REF_PPM.obj 0 0

/-- BRINGUP_STAGE, 0x2310:01 (R423). -/
def Row.BRINGUP_STAGE : ObjRow := ⟨0x2310, 1, 0x01, 0x01, .u8, .ro, 0, false⟩
abbrev Reg.BRINGUP_STAGE : Obj := Row.BRINGUP_STAGE.obj 0 0

/-- BRINGUP_FAIL, 0x2310:02 (R423). -/
def Row.BRINGUP_FAIL : ObjRow := ⟨0x2310, 1, 0x02, 0x02, .u8, .ro, 0, false⟩
abbrev Reg.BRINGUP_FAIL : Obj := Row.BRINGUP_FAIL.obj 0 0

/-- BRINGUP_MS, 0x2310:03 (R423). -/
def Row.BRINGUP_MS : ObjRow := ⟨0x2310, 1, 0x03, 0x03, .u32, .ro, 0, false⟩
abbrev Reg.BRINGUP_MS : Obj := Row.BRINGUP_MS.obj 0 0

/-- DDR_STATE, 0x2310:04 (R423). -/
def Row.DDR_STATE : ObjRow := ⟨0x2310, 1, 0x04, 0x04, .u8, .ro, 0, false⟩
abbrev Reg.DDR_STATE : Obj := Row.DDR_STATE.obj 0 0

/-- SPARE_ROWS_MIN, 0x2310:05 (R423). -/
def Row.SPARE_ROWS_MIN : ObjRow := ⟨0x2310, 1, 0x05, 0x05, .u8, .ro, 0, false⟩
abbrev Reg.SPARE_ROWS_MIN : Obj := Row.SPARE_ROWS_MIN.obj 0 0

/-- TILE_FUSE, 0x2320+c:01 (R423). -/
def Row.TILE_FUSE : ObjRow := ⟨0x2320, 16, 0x01, 0x01, .u32, .ro, 0, false⟩
abbrev Reg.TILE_FUSE (i : Nat) : Obj := Row.TILE_FUSE.obj i 0

/-- TILES_FENCED, 0x2320+c:02 (R423). -/
def Row.TILES_FENCED : ObjRow := ⟨0x2320, 16, 0x02, 0x02, .u64, .ro, 0, false⟩
abbrev Reg.TILES_FENCED (i : Nat) : Obj := Row.TILES_FENCED.obj i 0

/-- FARRIER_STATE, 0x2330:01 (R424). -/
def Row.FARRIER_STATE : ObjRow := ⟨0x2330, 1, 0x01, 0x01, .u8, .ro, 0, false⟩
abbrev Reg.FARRIER_STATE : Obj := Row.FARRIER_STATE.obj 0 0

/-- FARRIER_NOW, 0x2330:02 (R424). -/
def Row.FARRIER_NOW : ObjRow := ⟨0x2330, 1, 0x02, 0x02, .u8, .wo, 0, false⟩
abbrev Reg.FARRIER_NOW : Obj := Row.FARRIER_NOW.obj 0 0

/-- VCORE_PLAN_MV, 0x2330:03 (R424). -/
def Row.VCORE_PLAN_MV : ObjRow := ⟨0x2330, 1, 0x03, 0x03, .u16, .ro, 800, true⟩
abbrev Reg.VCORE_PLAN_MV : Obj := Row.VCORE_PLAN_MV.obj 0 0

/-- CORE_GUARD_PS, 0x2330:04 (R424). -/
def Row.CORE_GUARD_PS : ObjRow := ⟨0x2330, 1, 0x04, 0x04, .u8, .rwp, 40, true⟩
abbrev Reg.CORE_GUARD_PS : Obj := Row.CORE_GUARD_PS.obj 0 0

/-- CORE_ALARM_PS, 0x2330:05 (R424). -/
def Row.CORE_ALARM_PS : ObjRow := ⟨0x2330, 1, 0x05, 0x05, .u8, .rwp, 20, true⟩
abbrev Reg.CORE_ALARM_PS : Obj := Row.CORE_ALARM_PS.obj 0 0

/-- CORE_HEADROOM_MV, 0x2330:06 (R424). -/
def Row.CORE_HEADROOM_MV : ObjRow := ⟨0x2330, 1, 0x06, 0x06, .u16, .ro, 0, true⟩
abbrev Reg.CORE_HEADROOM_MV : Obj := Row.CORE_HEADROOM_MV.obj 0 0

/-- CORE_YEARS_LEFT, 0x2330:07 (R424). -/
def Row.CORE_YEARS_LEFT : ObjRow := ⟨0x2330, 1, 0x07, 0x07, .u16, .ro, 0xFFFF, true⟩
abbrev Reg.CORE_YEARS_LEFT : Obj := Row.CORE_YEARS_LEFT.obj 0 0

/-- HOLD_RET_MV, 0x2330:08 (R424). -/
def Row.HOLD_RET_MV : ObjRow := ⟨0x2330, 1, 0x08, 0x08, .u16, .ro, 650, true⟩
abbrev Reg.HOLD_RET_MV : Obj := Row.HOLD_RET_MV.obj 0 0

/-- STABLE_PULSE_NS, 0x2330:09 (R424). -/
def Row.STABLE_PULSE_NS : ObjRow := ⟨0x2330, 1, 0x09, 0x09, .u8, .ro, 20, true⟩
abbrev Reg.STABLE_PULSE_NS : Obj := Row.STABLE_PULSE_NS.obj 0 0

/-- STABLE_REFRESH_D, 0x2330:0A (R424). -/
def Row.STABLE_REFRESH_D : ObjRow := ⟨0x2330, 1, 0x0A, 0x0A, .u8, .ro, 30, true⟩
abbrev Reg.STABLE_REFRESH_D : Obj := Row.STABLE_REFRESH_D.obj 0 0

/-- SENS_PS_PER_MV, 0x2330:0B (R424). -/
def Row.SENS_PS_PER_MV : ObjRow := ⟨0x2330, 1, 0x0B, 0x0B, .u16, .ro, 0, false⟩
abbrev Reg.SENS_PS_PER_MV : Obj := Row.SENS_PS_PER_MV.obj 0 0

/-- STABLE_RET_Y10, 0x2330:0C (R424). -/
def Row.STABLE_RET_Y10 : ObjRow := ⟨0x2330, 1, 0x0C, 0x0C, .u16, .ro, 0, false⟩
abbrev Reg.STABLE_RET_Y10 : Obj := Row.STABLE_RET_Y10.obj 0 0

/-- EYE_MIN_MV, 0x2330:0D (R424). -/
def Row.EYE_MIN_MV : ObjRow := ⟨0x2330, 1, 0x0D, 0x0D, .u8, .rwp, 45, true⟩
abbrev Reg.EYE_MIN_MV : Obj := Row.EYE_MIN_MV.obj 0 0

/-- EYE_MV, 0x2330:0E (R424). -/
def Row.EYE_MV : ObjRow := ⟨0x2330, 1, 0x0E, 0x0E, (.domain 8), .ro, 0, false⟩
abbrev Reg.EYE_MV : Obj := Row.EYE_MV.obj 0 0

/-- PLAN_HISTORY, 0x2330:0F (R424). -/
def Row.PLAN_HISTORY : ObjRow := ⟨0x2330, 1, 0x0F, 0x0F, (.domain 48), .ro, 0, true⟩
abbrev Reg.PLAN_HISTORY : Obj := Row.PLAN_HISTORY.obj 0 0

/-- BRINGUP_FAILS, 0x61A0:01 (R425). -/
def Row.BRINGUP_FAILS : ObjRow := ⟨0x61A0, 1, 0x01, 0x01, .u32, .ro, 0, true⟩
abbrev Reg.BRINGUP_FAILS : Obj := Row.BRINGUP_FAILS.obj 0 0

/-- DDR_TRAIN_FAILS, 0x61A0:02 (R425). -/
def Row.DDR_TRAIN_FAILS : ObjRow := ⟨0x61A0, 1, 0x02, 0x02, .u32, .ro, 0, true⟩
abbrev Reg.DDR_TRAIN_FAILS : Obj := Row.DDR_TRAIN_FAILS.obj 0 0

/-- SOFT_REPAIRS, 0x61A0:03 (R425). -/
def Row.SOFT_REPAIRS : ObjRow := ⟨0x61A0, 1, 0x03, 0x03, .u32, .ro, 0, false⟩
abbrev Reg.SOFT_REPAIRS : Obj := Row.SOFT_REPAIRS.obj 0 0

/-- TILES_FENCED_START, 0x61A0:04 (R425). -/
def Row.TILES_FENCED_START : ObjRow := ⟨0x61A0, 1, 0x04, 0x04, .u32, .ro, 0, false⟩
abbrev Reg.TILES_FENCED_START : Obj := Row.TILES_FENCED_START.obj 0 0

/-- CORE_BUMPS, 0x61A0:05 (R425). -/
def Row.CORE_BUMPS : ObjRow := ⟨0x61A0, 1, 0x05, 0x05, .u32, .ro, 0, false⟩
abbrev Reg.CORE_BUMPS : Obj := Row.CORE_BUMPS.obj 0 0

/-- REPLANS, 0x61A0:06 (R425). -/
def Row.REPLANS : ObjRow := ⟨0x61A0, 1, 0x06, 0x06, .u32, .ro, 0, false⟩
abbrev Reg.REPLANS : Obj := Row.REPLANS.obj 0 0

/-- REPLAN_DEFER, 0x61A0:07 (R425). -/
def Row.REPLAN_DEFER : ObjRow := ⟨0x61A0, 1, 0x07, 0x07, .u32, .ro, 0, false⟩
abbrev Reg.REPLAN_DEFER : Obj := Row.REPLAN_DEFER.obj 0 0

/-- STABLE_REFRESHES, 0x61A0:08 (R425). -/
def Row.STABLE_REFRESHES : ObjRow := ⟨0x61A0, 1, 0x08, 0x08, .u32, .ro, 0, false⟩
abbrev Reg.STABLE_REFRESHES : Obj := Row.STABLE_REFRESHES.obj 0 0

/-- LC_STATE, 0x2000:01 (R442). -/
def Row.LC_STATE : ObjRow := ⟨0x2000, 1, 0x01, 0x01, .u8, .ro, 1, false⟩
abbrev Reg.LC_STATE : Obj := Row.LC_STATE.obj 0 0

/-- OWNER_ID, 0x2000:02 (R442). -/
def Row.OWNER_ID : ObjRow := ⟨0x2000, 1, 0x02, 0x02, (.domain 16), .ro, 0, false⟩
abbrev Reg.OWNER_ID : Obj := Row.OWNER_ID.obj 0 0

/-- OWN_GEN, 0x2000:03 (R442). -/
def Row.OWN_GEN : ObjRow := ⟨0x2000, 1, 0x03, 0x03, .u32, .ro, 0, false⟩
abbrev Reg.OWN_GEN : Obj := Row.OWN_GEN.obj 0 0

/-- OWNER_LOCK, 0x2000:04 (R442). -/
def Row.OWNER_LOCK : ObjRow := ⟨0x2000, 1, 0x04, 0x04, .bits32, .ro, 0x00000000, false⟩
abbrev Reg.OWNER_LOCK : Obj := Row.OWNER_LOCK.obj 0 0

/-- LC_RESTART_CAUSE, 0x2000:05 (R442). -/
def Row.LC_RESTART_CAUSE : ObjRow := ⟨0x2000, 1, 0x05, 0x05, .u8, .ro, 0, false⟩
abbrev Reg.LC_RESTART_CAUSE : Obj := Row.LC_RESTART_CAUSE.obj 0 0

/-- IDK_PUB, 0x2020:01 (R442). -/
def Row.IDK_PUB : ObjRow := ⟨0x2020, 1, 0x01, 0x01, (.domain 96), .ro, 0, false⟩
abbrev Reg.IDK_PUB : Obj := Row.IDK_PUB.obj 0 0

/-- EXK_PUB, 0x2020:02 (R442). -/
def Row.EXK_PUB : ObjRow := ⟨0x2020, 1, 0x02, 0x02, (.domain 96), .ro, 0, false⟩
abbrev Reg.EXK_PUB : Obj := Row.EXK_PUB.obj 0 0

/-- EXK_SIG, 0x2020:03 (R442). -/
def Row.EXK_SIG : ObjRow := ⟨0x2020, 1, 0x03, 0x03, (.domain 96), .ro, 0, false⟩
abbrev Reg.EXK_SIG : Obj := Row.EXK_SIG.obj 0 0

/-- BRIDLE_MEAS, 0x2020:04 (R442). -/
def Row.BRIDLE_MEAS : ObjRow := ⟨0x2020, 1, 0x04, 0x04, (.domain 48), .ro, 0, false⟩
abbrev Reg.BRIDLE_MEAS : Obj := Row.BRIDLE_MEAS.obj 0 0

/-- SADDLE_MEAS, 0x2020:05 (R442). -/
def Row.SADDLE_MEAS : ObjRow := ⟨0x2020, 1, 0x05, 0x05, (.domain 48), .ro, 0, false⟩
abbrev Reg.SADDLE_MEAS : Obj := Row.SADDLE_MEAS.obj 0 0

/-- TAMPER_EN, 0x2021:01 (R442). -/
def Row.TAMPER_EN : ObjRow := ⟨0x2021, 1, 0x01, 0x01, .bits32, .ro, 0x0000001F, false⟩
abbrev Reg.TAMPER_EN : Obj := Row.TAMPER_EN.obj 0 0

/-- TAMPER_ACTIVE, 0x2021:02 (R442). -/
def Row.TAMPER_ACTIVE : ObjRow := ⟨0x2021, 1, 0x02, 0x02, .bits32, .ro, 0x00000000, false⟩
abbrev Reg.TAMPER_ACTIVE : Obj := Row.TAMPER_ACTIVE.obj 0 0

/-- TAMPER_LAST, 0x2021:03 (R442). -/
def Row.TAMPER_LAST : ObjRow := ⟨0x2021, 1, 0x03, 0x03, .bits32, .ro, 0x00000000, false⟩
abbrev Reg.TAMPER_LAST : Obj := Row.TAMPER_LAST.obj 0 0

/-- TAMPER_EVENTS, 0x61B0:01 (R443). -/
def Row.TAMPER_EVENTS : ObjRow := ⟨0x61B0, 1, 0x01, 0x01, .u32, .ro, 0, true⟩
abbrev Reg.TAMPER_EVENTS : Obj := Row.TAMPER_EVENTS.obj 0 0

/-- LC_TRANSITIONS, 0x61B0:02 (R443). -/
def Row.LC_TRANSITIONS : ObjRow := ⟨0x61B0, 1, 0x02, 0x02, .u32, .ro, 0, true⟩
abbrev Reg.LC_TRANSITIONS : Obj := Row.LC_TRANSITIONS.obj 0 0

/-- SEAL_FAIL, 0x61B0:03 (R443). -/
def Row.SEAL_FAIL : ObjRow := ⟨0x61B0, 1, 0x03, 0x03, .u32, .ro, 0, false⟩
abbrev Reg.SEAL_FAIL : Obj := Row.SEAL_FAIL.obj 0 0

/-- AUTH_FAIL, 0x61B0:04 (R443). -/
def Row.AUTH_FAIL : ObjRow := ⟨0x61B0, 1, 0x04, 0x04, .u32, .ro, 0, false⟩
abbrev Reg.AUTH_FAIL : Obj := Row.AUTH_FAIL.obj 0 0

/-- ATTESTS, 0x61B0:05 (R443). -/
def Row.ATTESTS : ObjRow := ⟨0x61B0, 1, 0x05, 0x05, .u32, .ro, 0, false⟩
abbrev Reg.ATTESTS : Obj := Row.ATTESTS.obj 0 0

/-- UPD_STATE, 0x2040:01 (R456). -/
def Row.UPD_STATE : ObjRow := ⟨0x2040, 1, 0x01, 0x01, .u8, .ro, 0, false⟩
abbrev Reg.UPD_STATE : Obj := Row.UPD_STATE.obj 0 0

/-- UPD_BLOCKS, 0x2040:02 (R456). -/
def Row.UPD_BLOCKS : ObjRow := ⟨0x2040, 1, 0x02, 0x02, .u32, .ro, 0, false⟩
abbrev Reg.UPD_BLOCKS : Obj := Row.UPD_BLOCKS.obj 0 0

/-- UPD_LEN, 0x2040:03 (R456). -/
def Row.UPD_LEN : ObjRow := ⟨0x2040, 1, 0x03, 0x03, .u32, .ro, 0, false⟩
abbrev Reg.UPD_LEN : Obj := Row.UPD_LEN.obj 0 0

/-- BANK_ACTIVE, 0x2040:04 (R456). -/
def Row.BANK_ACTIVE : ObjRow := ⟨0x2040, 1, 0x04, 0x04, .u8, .ro, 0, false⟩
abbrev Reg.BANK_ACTIVE : Obj := Row.BANK_ACTIVE.obj 0 0

/-- BANK_A_STATE, 0x2040:05 (R456). -/
def Row.BANK_A_STATE : ObjRow := ⟨0x2040, 1, 0x05, 0x05, .u8, .ro, 3, false⟩
abbrev Reg.BANK_A_STATE : Obj := Row.BANK_A_STATE.obj 0 0

/-- BANK_B_STATE, 0x2040:06 (R456). -/
def Row.BANK_B_STATE : ObjRow := ⟨0x2040, 1, 0x06, 0x06, .u8, .ro, 0, false⟩
abbrev Reg.BANK_B_STATE : Obj := Row.BANK_B_STATE.obj 0 0

/-- BANK_A_VER, 0x2040:07 (R456). -/
def Row.BANK_A_VER : ObjRow := ⟨0x2040, 1, 0x07, 0x07, .u32, .ro, 0, false⟩
abbrev Reg.BANK_A_VER : Obj := Row.BANK_A_VER.obj 0 0

/-- BANK_B_VER, 0x2040:08 (R456). -/
def Row.BANK_B_VER : ObjRow := ⟨0x2040, 1, 0x08, 0x08, .u32, .ro, 0, false⟩
abbrev Reg.BANK_B_VER : Obj := Row.BANK_B_VER.obj 0 0

/-- RUN_VER, 0x2040:09 (R456). -/
def Row.RUN_VER : ObjRow := ⟨0x2040, 1, 0x09, 0x09, .u32, .ro, 0, false⟩
abbrev Reg.RUN_VER : Obj := Row.RUN_VER.obj 0 0

/-- SVN_MIN, 0x2040:0A (R456). -/
def Row.SVN_MIN : ObjRow := ⟨0x2040, 1, 0x0A, 0x0A, .u8, .ro, 0, false⟩
abbrev Reg.SVN_MIN : Obj := Row.SVN_MIN.obj 0 0

/-- PROBATION_S, 0x2040:0B (R456). -/
def Row.PROBATION_S : ObjRow := ⟨0x2040, 1, 0x0B, 0x0B, .u32, .rwp, 600, true⟩
abbrev Reg.PROBATION_S : Obj := Row.PROBATION_S.obj 0 0

/-- UPD_LAST_STATUS, 0x2040:0C (R456). -/
def Row.UPD_LAST_STATUS : ObjRow := ⟨0x2040, 1, 0x0C, 0x0C, .u8, .ro, 0x00, false⟩
abbrev Reg.UPD_LAST_STATUS : Obj := Row.UPD_LAST_STATUS.obj 0 0

/-- BLK_CRC_FAIL, 0x61C0:01 (R457). -/
def Row.BLK_CRC_FAIL : ObjRow := ⟨0x61C0, 1, 0x01, 0x01, .u32, .ro, 0, false⟩
abbrev Reg.BLK_CRC_FAIL : Obj := Row.BLK_CRC_FAIL.obj 0 0

/-- SIG_FAIL, 0x61C0:02 (R457). -/
def Row.SIG_FAIL : ObjRow := ⟨0x61C0, 1, 0x02, 0x02, .u32, .ro, 0, false⟩
abbrev Reg.SIG_FAIL : Obj := Row.SIG_FAIL.obj 0 0

/-- UPD_REFUSED, 0x61C0:03 (R457). -/
def Row.UPD_REFUSED : ObjRow := ⟨0x61C0, 1, 0x03, 0x03, .u32, .ro, 0, false⟩
abbrev Reg.UPD_REFUSED : Obj := Row.UPD_REFUSED.obj 0 0

/-- ACTIVATIONS, 0x61C0:04 (R457). -/
def Row.ACTIVATIONS : ObjRow := ⟨0x61C0, 1, 0x04, 0x04, .u32, .ro, 0, true⟩
abbrev Reg.ACTIVATIONS : Obj := Row.ACTIVATIONS.obj 0 0

/-- ROLLBACKS, 0x61C0:05 (R457). -/
def Row.ROLLBACKS : ObjRow := ⟨0x61C0, 1, 0x05, 0x05, .u32, .ro, 0, true⟩
abbrev Reg.ROLLBACKS : Obj := Row.ROLLBACKS.obj 0 0

/-- UC_SWAPS, 0x61C0:06 (R457). -/
def Row.UC_SWAPS : ObjRow := ⟨0x61C0, 1, 0x06, 0x06, .u32, .ro, 0, false⟩
abbrev Reg.UC_SWAPS : Obj := Row.UC_SWAPS.obj 0 0

/-- SWAP_MAX_US, 0x61C0:07 (R457). -/
def Row.SWAP_MAX_US : ObjRow := ⟨0x61C0, 1, 0x07, 0x07, .u32, .rc, 0, false⟩
abbrev Reg.SWAP_MAX_US : Obj := Row.SWAP_MAX_US.obj 0 0

/-- PD_MIGRATIONS, 0x61C0:08 (R457). -/
def Row.PD_MIGRATIONS : ObjRow := ⟨0x61C0, 1, 0x08, 0x08, .u32, .ro, 0, false⟩
abbrev Reg.PD_MIGRATIONS : Obj := Row.PD_MIGRATIONS.obj 0 0

/-- FLOG_NEWEST, 0x7000:01 (R472). -/
def Row.FLOG_NEWEST : ObjRow := ⟨0x7000, 1, 0x01, 0x01, .u32, .ro, 0, false⟩
abbrev Reg.FLOG_NEWEST : Obj := Row.FLOG_NEWEST.obj 0 0

/-- FLOG_COUNT, 0x7000:02 (R472). -/
def Row.FLOG_COUNT : ObjRow := ⟨0x7000, 1, 0x02, 0x02, .u16, .ro, 0, false⟩
abbrev Reg.FLOG_COUNT : Obj := Row.FLOG_COUNT.obj 0 0

/-- FLOG, 0x7000:03 (R472). -/
def Row.FLOG : ObjRow := ⟨0x7000, 1, 0x03, 0x03, (.domain 32768), .ro, 0, false⟩
abbrev Reg.FLOG : Obj := Row.FLOG.obj 0 0

/-- FLOG_CLEAR, 0x7000:04 (R472). -/
def Row.FLOG_CLEAR : ObjRow := ⟨0x7000, 1, 0x04, 0x04, .u8, .wo, 0, false⟩
abbrev Reg.FLOG_CLEAR : Obj := Row.FLOG_CLEAR.obj 0 0

/-- WDT_RESET, 0x7000:05 (R472). -/
def Row.WDT_RESET : ObjRow := ⟨0x7000, 1, 0x05, 0x05, .bool, .ro, 0x00, false⟩
abbrev Reg.WDT_RESET : Obj := Row.WDT_RESET.obj 0 0

/-- TILE_HANG_US, 0x7000:06 (R472). -/
def Row.TILE_HANG_US : ObjRow := ⟨0x7000, 1, 0x06, 0x06, .u16, .rwp, 25, true⟩
abbrev Reg.TILE_HANG_US : Obj := Row.TILE_HANG_US.obj 0 0

/-- COMPLETE_TMO_US, 0x7000:07 (R472). -/
def Row.COMPLETE_TMO_US : ObjRow := ⟨0x7000, 1, 0x07, 0x07, .u16, .rwp, 10, true⟩
abbrev Reg.COMPLETE_TMO_US : Obj := Row.COMPLETE_TMO_US.obj 0 0

/-- SETTLE_MAX_US, 0x7000:08 (R472). -/
def Row.SETTLE_MAX_US : ObjRow := ⟨0x7000, 1, 0x08, 0x08, .u32, .rwp, 1000, true⟩
abbrev Reg.SETTLE_MAX_US : Obj := Row.SETTLE_MAX_US.obj 0 0

/-- DEV_LOST_US, 0x7000:09 (R472). -/
def Row.DEV_LOST_US : ObjRow := ⟨0x7000, 1, 0x09, 0x09, .u32, .rwp, 100, true⟩
abbrev Reg.DEV_LOST_US : Obj := Row.DEV_LOST_US.obj 0 0

/-- WDT_MS, 0x7000:0A (R472). -/
def Row.WDT_MS : ObjRow := ⟨0x7000, 1, 0x0A, 0x0A, .u16, .rwp, 100, true⟩
abbrev Reg.WDT_MS : Obj := Row.WDT_MS.obj 0 0

/-- FABRIC_STATE, 0x7000:0B (R472). -/
def Row.FABRIC_STATE : ObjRow := ⟨0x7000, 1, 0x0B, 0x0B, .u8, .ro, 0, false⟩
abbrev Reg.FABRIC_STATE : Obj := Row.FABRIC_STATE.obj 0 0

/-- INTR_MAX_NS, 0x7000:0C (R472). -/
def Row.INTR_MAX_NS : ObjRow := ⟨0x7000, 1, 0x0C, 0x0C, .u32, .rc, 0, false⟩
abbrev Reg.INTR_MAX_NS : Obj := Row.INTR_MAX_NS.obj 0 0

/-- DUMP_A, 0x7020:01 (R472). -/
def Row.DUMP_A : ObjRow := ⟨0x7020, 1, 0x01, 0x01, (.domain 8388608), .ro, 0, false⟩
abbrev Reg.DUMP_A : Obj := Row.DUMP_A.obj 0 0

/-- DUMP_B, 0x7020:02 (R472). -/
def Row.DUMP_B : ObjRow := ⟨0x7020, 1, 0x02, 0x02, (.domain 8388608), .ro, 0, false⟩
abbrev Reg.DUMP_B : Obj := Row.DUMP_B.obj 0 0

/-- DUMP_NOW, 0x7020:03 (R472). -/
def Row.DUMP_NOW : ObjRow := ⟨0x7020, 1, 0x03, 0x03, .u8, .wo, 0, false⟩
abbrev Reg.DUMP_NOW : Obj := Row.DUMP_NOW.obj 0 0

/-- DUMP_LAST, 0x7020:04 (R472). -/
def Row.DUMP_LAST : ObjRow := ⟨0x7020, 1, 0x04, 0x04, .u8, .ro, 0, false⟩
abbrev Reg.DUMP_LAST : Obj := Row.DUMP_LAST.obj 0 0

/-- LAST_LOG, 0x7020:05 (R472). -/
def Row.LAST_LOG : ObjRow := ⟨0x7020, 1, 0x05, 0x05, (.domain 2048), .ro, 0, false⟩
abbrev Reg.LAST_LOG : Obj := Row.LAST_LOG.obj 0 0

/-- ACC_ECC, 0x61D0:01 (R473). -/
def Row.ACC_ECC : ObjRow := ⟨0x61D0, 1, 0x01, 0x01, .u32, .ro, 0, false⟩
abbrev Reg.ACC_ECC : Obj := Row.ACC_ECC.obj 0 0

/-- HTAB_ECC, 0x61D0:02 (R473). -/
def Row.HTAB_ECC : ObjRow := ⟨0x61D0, 1, 0x02, 0x02, .u32, .ro, 0, false⟩
abbrev Reg.HTAB_ECC : Obj := Row.HTAB_ECC.obj 0 0

/-- BULK_ECC, 0x61D0:03 (R473). -/
def Row.BULK_ECC : ObjRow := ⟨0x61D0, 1, 0x03, 0x03, .u32, .ro, 0, false⟩
abbrev Reg.BULK_ECC : Obj := Row.BULK_ECC.obj 0 0

/-- CTRL_RETRY, 0x61D0:04 (R473). -/
def Row.CTRL_RETRY : ObjRow := ⟨0x61D0, 1, 0x04, 0x04, .u32, .ro, 0, false⟩
abbrev Reg.CTRL_RETRY : Obj := Row.CTRL_RETRY.obj 0 0

/-- SYNC_PARITY, 0x61D0:05 (R473). -/
def Row.SYNC_PARITY : ObjRow := ⟨0x61D0, 1, 0x05, 0x05, .u32, .ro, 0, false⟩
abbrev Reg.SYNC_PARITY : Obj := Row.SYNC_PARITY.obj 0 0

/-- TILES_FENCED_RUN, 0x61D0:06 (R473). -/
def Row.TILES_FENCED_RUN : ObjRow := ⟨0x61D0, 1, 0x06, 0x06, .u32, .ro, 0, false⟩
abbrev Reg.TILES_FENCED_RUN : Obj := Row.TILES_FENCED_RUN.obj 0 0

/-- SETTLES, 0x61D0:07 (R473). -/
def Row.SETTLES : ObjRow := ⟨0x61D0, 1, 0x07, 0x07, .u32, .ro, 0, false⟩
abbrev Reg.SETTLES : Obj := Row.SETTLES.obj 0 0

/-- FORCED_COMPLETE, 0x61D0:08 (R473). -/
def Row.FORCED_COMPLETE : ObjRow := ⟨0x61D0, 1, 0x08, 0x08, .u32, .ro, 0, false⟩
abbrev Reg.FORCED_COMPLETE : Obj := Row.FORCED_COMPLETE.obj 0 0

/-- SETTLE_BUSY, 0x61D0:09 (R473). -/
def Row.SETTLE_BUSY : ObjRow := ⟨0x61D0, 1, 0x09, 0x09, .u32, .ro, 0, false⟩
abbrev Reg.SETTLE_BUSY : Obj := Row.SETTLE_BUSY.obj 0 0

/-- DEVLOST_DISCARD, 0x61D0:0A (R473). -/
def Row.DEVLOST_DISCARD : ObjRow := ⟨0x61D0, 1, 0x0A, 0x0A, .u32, .ro, 0, false⟩
abbrev Reg.DEVLOST_DISCARD : Obj := Row.DEVLOST_DISCARD.obj 0 0

/-- REROUTE_LATE, 0x61D0:0B (R473). -/
def Row.REROUTE_LATE : ObjRow := ⟨0x61D0, 1, 0x0B, 0x0B, .u32, .ro, 0, false⟩
abbrev Reg.REROUTE_LATE : Obj := Row.REROUTE_LATE.obj 0 0

/-- SADDLE_RESTARTS, 0x61D0:0C (R473). -/
def Row.SADDLE_RESTARTS : ObjRow := ⟨0x61D0, 1, 0x0C, 0x0C, .u32, .ro, 0, false⟩
abbrev Reg.SADDLE_RESTARTS : Obj := Row.SADDLE_RESTARTS.obj 0 0

/-- WDT_RESETS, 0x61D0:0D (R473). -/
def Row.WDT_RESETS : ObjRow := ⟨0x61D0, 1, 0x0D, 0x0D, .u32, .ro, 0, true⟩
abbrev Reg.WDT_RESETS : Obj := Row.WDT_RESETS.obj 0 0

/-- FLOG_OVERWRITE, 0x61D0:0E (R473). -/
def Row.FLOG_OVERWRITE : ObjRow := ⟨0x61D0, 1, 0x0E, 0x0E, .u32, .ro, 0, false⟩
abbrev Reg.FLOG_OVERWRITE : Obj := Row.FLOG_OVERWRITE.obj 0 0

/-- TEMP_DIE_C, 0x2120:01 (R488). -/
def Row.TEMP_DIE_C : ObjRow := ⟨0x2120, 1, 0x01, 0x01, .i16, .ro, 0, false⟩
abbrev Reg.TEMP_DIE_C : Obj := Row.TEMP_DIE_C.obj 0 0

/-- TEMP_PLATE_C, 0x2120:02 (R488). -/
def Row.TEMP_PLATE_C : ObjRow := ⟨0x2120, 1, 0x02, 0x02, .i16, .ro, 0, false⟩
abbrev Reg.TEMP_PLATE_C : Obj := Row.TEMP_PLATE_C.obj 0 0

/-- PIN_IN, 0x2120:03 (R488). -/
def Row.PIN_IN : ObjRow := ⟨0x2120, 1, 0x03, 0x03, .bits32, .ro, 0x00000000, false⟩
abbrev Reg.PIN_IN : Obj := Row.PIN_IN.obj 0 0

/-- GEO_CHANGED, 0x2120:04 (R488). -/
def Row.GEO_CHANGED : ObjRow := ⟨0x2120, 1, 0x04, 0x04, .bool, .ro, 0x00, false⟩
abbrev Reg.GEO_CHANGED : Obj := Row.GEO_CHANGED.obj 0 0

/-- VAON_MA, 0x2120:05 (R488). -/
def Row.VAON_MA : ObjRow := ⟨0x2120, 1, 0x05, 0x05, .u16, .ro, 0, false⟩
abbrev Reg.VAON_MA : Obj := Row.VAON_MA.obj 0 0

/-- REIN_PIN_FAULT, 0x61E0:01 (R489). -/
def Row.REIN_PIN_FAULT : ObjRow := ⟨0x61E0, 1, 0x01, 0x01, .u32, .ro, 0, false⟩
abbrev Reg.REIN_PIN_FAULT : Obj := Row.REIN_PIN_FAULT.obj 0 0

/-- VAON_LIMIT, 0x61E0:02 (R489). -/
def Row.VAON_LIMIT : ObjRow := ⟨0x61E0, 1, 0x02, 0x02, .u32, .ro, 0, false⟩
abbrev Reg.VAON_LIMIT : Obj := Row.VAON_LIMIT.obj 0 0

/-- THERM_SHUTDOWN, 0x61E0:03 (R489). -/
def Row.THERM_SHUTDOWN : ObjRow := ⟨0x61E0, 1, 0x03, 0x03, .u32, .ro, 0, true⟩
abbrev Reg.THERM_SHUTDOWN : Obj := Row.THERM_SHUTDOWN.obj 0 0

/-- Hitch numbers of the general timers, 0x2210+k:08 (R386). -/
def Row.GT_HITCH : ObjRow := ⟨0x2210, 8, 0x08, 0x08, .u16, .rw, 0, false⟩
abbrev Reg.GT_HITCH (i : Nat) : Obj := Row.GT_HITCH.obj i 0

/-- Hitch numbers of the capture channels, 0x2220+ch:07 (R386). -/
def Row.ENC_HITCH : ObjRow := ⟨0x2220, 4, 0x07, 0x07, .u16, .rw, 0, false⟩
abbrev Reg.ENC_HITCH (i : Nat) : Obj := Row.ENC_HITCH.obj i 0

/-- Communication objects of the RPDOs: COB-ID and transmission type (R369). -/
def Row.RPDO_COB : ObjRow := ⟨0x1400, 2, 0x01, 0x01, .u32, .rwp, 0, true⟩
abbrev Reg.RPDO_COB (i : Nat) : Obj := Row.RPDO_COB.obj i 0
def Row.RPDO_TYPE : ObjRow := ⟨0x1400, 2, 0x02, 0x02, .u8, .rwp, 0xFF, true⟩
abbrev Reg.RPDO_TYPE (i : Nat) : Obj := Row.RPDO_TYPE.obj i 0

/-- Mapping objects of the RPDOs: the number of entries and the entries (R369). -/
def Row.RPDO_MAPPED : ObjRow := ⟨0x1600, 2, 0x00, 0x00, .u8, .ro, 0, false⟩
def Row.RPDO_MAP : ObjRow := ⟨0x1600, 2, 0x01, 0x08, .u32, .ro, 0, false⟩
abbrev Reg.RPDO_MAP (i k : Nat) : Obj := Row.RPDO_MAP.obj i k

/-- Communication objects of the TPDOs: COB-ID, transmission type, inhibit time and event timer (R369). -/
def Row.TPDO_COB : ObjRow := ⟨0x1800, 4, 0x01, 0x01, .u32, .rwp, 0, true⟩
abbrev Reg.TPDO_COB (i : Nat) : Obj := Row.TPDO_COB.obj i 0
def Row.TPDO_TYPE : ObjRow := ⟨0x1800, 4, 0x02, 0x02, .u8, .rwp, 0, true⟩
abbrev Reg.TPDO_TYPE (i : Nat) : Obj := Row.TPDO_TYPE.obj i 0
def Row.TPDO_INHIBIT : ObjRow := ⟨0x1800, 4, 0x03, 0x03, .u16, .rwp, 0, true⟩
abbrev Reg.TPDO_INHIBIT (i : Nat) : Obj := Row.TPDO_INHIBIT.obj i 0
def Row.TPDO_EVENT : ObjRow := ⟨0x1800, 4, 0x05, 0x05, .u16, .rwp, 0, true⟩
abbrev Reg.TPDO_EVENT (i : Nat) : Obj := Row.TPDO_EVENT.obj i 0

/-- Mapping objects of the TPDOs: the number of entries and the entries (R369). -/
def Row.TPDO_MAPPED : ObjRow := ⟨0x1A00, 4, 0x00, 0x00, .u8, .rwp, 0, true⟩
abbrev Reg.TPDO_MAPPED (i : Nat) : Obj := Row.TPDO_MAPPED.obj i 0
def Row.TPDO_MAP : ObjRow := ⟨0x1A00, 4, 0x01, 0x40, .u32, .rwp, 0, true⟩
abbrev Reg.TPDO_MAP (i k : Nat) : Obj := Row.TPDO_MAP.obj i k

/-- Rows that the spec gives in its text and not in a table. -/
def Reg.extraRows : List ObjRow :=
  [Row.GT_HITCH, Row.ENC_HITCH, Row.RPDO_COB, Row.RPDO_TYPE, Row.RPDO_MAPPED, Row.RPDO_MAP, Row.TPDO_COB, Row.TPDO_TYPE,
   Row.TPDO_INHIBIT, Row.TPDO_EVENT, Row.TPDO_MAPPED, Row.TPDO_MAP]


/-- Rows of the dictionary tables, part 0. -/
def Reg.rows0 : List ObjRow := [
  Row.THETA, Row.REST, Row.FLOOR, Row.RESET_MODE,
  Row.DECAY, Row.BEYOND, Row.REFRACT, Row.SCALE0,
  Row.SCALE1, Row.SCALE2, Row.SCALE3, Row.TAU_PRE,
  Row.TAU_POST, Row.TRACE_INC, Row.BIAS, Row.OUT_MODE,
  Row.SPIKE_TAG, Row.MULTI, Row.PRECISE, Row.PF_MARGIN,
  Row.COMMIT, Row.UPD_COUNT, Row.ACC_SPILL, Row.DM_CONTRIB,
  Row.PORT_SAT, Row.V_SAT, Row.MF_SURPLUS, Row.BURST_CAP,
  Row.REFR_DISCARD, Row.DEAD_DISCARD, Row.GROOM_TOUCH, Row.TONIC_UPD,
  Row.NEU_REINIT, Row.WIN_REFUSED, Row.FIRINGS, Row.RFV_RANGE,
  Row.NEAR_SYN_MAX, Row.FAR_SYN_MAX, Row.SIDE_MAX, Row.NEAR_ROW_BYTES]

/-- Rows of the dictionary tables, part 1. -/
def Reg.rows1 : List ObjRow := [
  Row.DRING_E, Row.SPILL_SIZE, Row.SPILL_HWM, Row.SPILL_ABOVE,
  Row.ROWS_EXP, Row.SYN_EXP, Row.ESC_USED, Row.ESC_MISS,
  Row.GRADED_SAT, Row.TGT_RANGE, Row.ROW_INVALID, Row.DLY_SPILL,
  Row.DLY_DROP, Row.SPILL_HW_CROSS, Row.SPILL_PEAK, Row.RING_PEAK,
  Row.LANE_IDLE, Row.EV_EMIT, Row.ROW_ECC, Row.ROW_WIN_REFUSED,
  Row.FARWAIT_STALL, Row.GAIT, Row.STEP_LEN_NS, Row.FLOOR_NS,
  Row.OVR_POLICY, Row.SHED_MASK, Row.CATCHUP_PCT, Row.OVR_MIN_PCT,
  Row.LAG_LIMIT, Row.LAG_ACTION, Row.STEP_RELEASED, Row.STEP_COMPLETE,
  Row.LAG_NS, Row.LAG_STEPS, Row.MASTER, Row.STEPS_DONE,
  Row.OVERRUNS, Row.LATE_CARRY, Row.LATE_DROP, Row.SHED_SPIKE]

/-- Rows of the dictionary tables, part 2. -/
def Reg.rows2 : List ObjRow := [
  Row.SHED_GRADED, Row.SHED_ERROR, Row.SHED_HOLDBACK, Row.LAG_MAX_NS,
  Row.LAG_MAX_STEPS, Row.LAG_LIMIT_HIT, Row.STEP_SLIP, Row.STREAM_LATE,
  Row.LATE_ARRIVE, Row.COMPLETE_LAT_MAX, Row.SYNC_MISMATCH, Row.ROUTE_E,
  Row.ROUTE_STATE, Row.ROUTE_ARM, Row.ROUTE_SWITCH, Row.ROUTE_SHADOW,
  Row.ROUTE_ACTIVE, Row.SWITCH_STEP, Row.COMBINE_CLS, Row.COMBINE_HOLD,
  Row.THR1, Row.THR2, Row.THR3, Row.EGRESS_DEPTH,
  Row.INBUF_DEPTH, Row.COMBINE_DEPTH, Row.MC_GROUPS_MAX, Row.MC_MEMBERS_MAX,
  Row.MC_GROUPS_SHADOW, Row.MC_MEMBERS_SHADOW, Row.MC_GROUPS_ACTIVE, Row.MC_MEMBERS_ACTIVE,
  Row.EV_ROUTED, Row.EV_EJECT, Row.MERGES, Row.MERGE_SPLIT,
  Row.MC_MEMBERS, Row.STALL_ADJ, Row.STALL_MH, Row.STALL_EJECT]

/-- Rows of the dictionary tables, part 3. -/
def Reg.rows3 : List ObjRow := [
  Row.COMB_FULL, Row.COMB_PEAK, Row.EGRESS_PEAK, Row.THR1_CYC,
  Row.THR2_CYC, Row.THR3_CYC, Row.FIRE_PAUSE, Row.FENCED_DISCARD,
  Row.HDR_CORR, Row.PAY_CORR, Row.PAY_UNCORR, Row.DOORBELL_DROP,
  Row.SVC_ACCEPT, Row.GW_TRANSIT, Row.ARR_DEFER, Row.FQ_DEPTH,
  Row.CLU_CREDITS, Row.REMOTE_ENTRIES, Row.HOLDBACK_DEPTH, Row.FRC_LINES,
  Row.FRC_TAGS, Row.SPEC_PCT, Row.SPEC_PCT_EFF, Row.PF_DEST_MAX,
  Row.PKG_SLOT_MAX, Row.SCHED_STATE, Row.SCHED_ARM, Row.SCHED_SWITCH,
  Row.SCHED_SWITCH_STEP, Row.SLOT_SHADOW, Row.SLOT_ACTIVE, Row.FETCH_ISSUED,
  Row.FETCH_LINES, Row.FETCH_JOIN, Row.DIR_MISS, Row.FQ_PEAK,
  Row.FETCH_FENCED, Row.HOLDBACK_IN, Row.HOLDBACK_FULL, Row.HOLDBACK_PEAK]

/-- Rows of the dictionary tables, part 4. -/
def Reg.rows4 : List ObjRow := [
  Row.RHOLD_IN, Row.TAG_FULL, Row.FRC_HIT, Row.FRC_WAIT,
  Row.REFETCH, Row.PIN_EVICT, Row.LINE_WAIT, Row.FAR_ECC,
  Row.PF_ISSUED, Row.PF_HIT, Row.PF_WASTE, Row.PF_CAP_REFUSE,
  Row.PF_DUP, Row.PF_STALE, Row.SPEC_LINES, Row.SLOT_IDLE_FETCH,
  Row.SCHED_DRAIN_NS, Row.EPOCH_L, Row.EPOCH, Row.EPOCH_END_STEP,
  Row.SWEEP_BUSY, Row.SWEEP_HITCH, Row.CAND_MIN, Row.CONSOL_PERIOD_MS,
  Row.CONSOL_NOW, Row.STABLE_STATE, Row.STABLE_HARNESS, Row.JRNL_GEN,
  Row.JRNL_FILL, Row.JRNL_PENDING, Row.JRNL_RATE, Row.JRNL_BANK,
  Row.STABLE_ROW_BYTES, Row.STABLE_ROW_MAX, Row.SPARE_LEFT, Row.WEAR_MAX,
  Row.GROUPS, Row.PLX_SPIKES, Row.DIRTY_ROWS, Row.DIRTY_FULL]

/-- Rows of the dictionary tables, part 5. -/
def Reg.rows5 : List ObjRow := [
  Row.FPS_FULL, Row.PRE_PAUSE, Row.POST_REPORTS, Row.POST_FULL,
  Row.POST_PAUSE, Row.ROWS_SWEPT, Row.SYN_UPD, Row.WORDS_CHANGED,
  Row.W_CLAMP, Row.PRUNED, Row.WATCH_FULL, Row.PRUNE_Q_FULL,
  Row.SPROUTED, Row.CAND_FULL, Row.SPROUT_NOSLOT, Row.TRACE_GROOM,
  Row.SWEEP_WAIT_NS, Row.SWEEP_MAX_NS, Row.JRNL_BYTES, Row.JRNL_STALL_NS,
  Row.CONSOLS, Row.CONSOL_MAX_MS, Row.STABLE_VERIFY_FAIL, Row.STABLE_REMAP,
  Row.PLX_ECC, Row.W8P_RECOVER, Row.SEQ_RUN, Row.ENG_STATE,
  Row.ENG_CTRL, Row.ENG_QUEUES, Row.HARNESS_STATE, Row.HARNESS_MEAS,
  Row.LOAD_STATUS, Row.LOAD_MS, Row.SEGMENT, Row.HITCH_DIRTY,
  Row.LOAD_FAILS, Row.CMDS_DONE, Row.CMDS_FAILED, Row.CMDS_ABORTED]

/-- Rows of the dictionary tables, part 6. -/
def Reg.rows6 : List ObjRow := [
  Row.CMPL_STALL, Row.CMPL_LOST, Row.BUSY_NS, Row.SEQ_FAULT,
  Row.CENSUS_RECORDS, Row.CENSUS_DROP, Row.DENSE_EVENTS, Row.QSEL,
  Row.QBLOCK, Row.QPOLICY, Row.QCTRL, Row.QUEUES_BOUND,
  Row.CMB_TABLE_SIZE, Row.CMB_TABLE_USED, Row.Q_FIRMWARE_FIRST, Row.PUSHES,
  Row.PUSH_FULL, Row.PUSH_STALE, Row.PUSH_CLOSED, Row.PUSH_DENIED,
  Row.PORT_BADFMT, Row.PMM_RESET, Row.Q_RESETS, Row.MSG_RETURNED,
  Row.MSG_LOST, Row.TMO_RAISED, Row.CONSUME_REFUSED, Row.CMB_POSTS,
  Row.CMB_MERGES, Row.CMB_SAT, Row.CMB_TABLE_FULL, Row.HITCH_COUNT,
  Row.HSEL, Row.HENTRY, Row.STEP_HITCH, Row.HITCH_WAITERS,
  Row.HITCH_OPS, Row.WAITS_SATISFIED, Row.BARRIERS_RELEASED, Row.BAR_MISMATCH]

/-- Rows of the dictionary tables, part 7. -/
def Reg.rows7 : List ObjRow := [
  Row.BAR_CANCEL, Row.HITCH_SAT, Row.HOME_LOST, Row.WAIT_MAX_US,
  Row.DUMPS, Row.HTAB_WR_REFUSED, Row.BANK_OWNER, Row.FW_AREA_BASE,
  Row.WINDOW, Row.TACK_SIZE, Row.TACK_WIPES, Row.TACK_WIPE_CAUSE,
  Row.DDR_FITTED, Row.DDR_USABLE, Row.DDR_HARNESS, Row.DDR_RATE,
  Row.TRAIN_MODE, Row.TRAIN_MS, Row.SCRUB_PERIOD_H, Row.TRAIN_FORCE_FULL,
  Row.TRAIN_SET, Row.BANK_STALL, Row.STALL_RUN_MAX, Row.WCOLL_CNT,
  Row.BUSY_CNT, Row.ALIAS_OPS, Row.WIN_FULL, Row.FW_AREA_DENIED,
  Row.COMMONS_CORR, Row.COMMONS_UNCORR, Row.DDR_CORR, Row.DDR_UNCORR,
  Row.SCRUB_PASSES, Row.BADADDR, Row.TACK_DENIED, Row.FENCED_WIN,
  Row.PORT_STATE, Row.SKID_BASE, Row.STOP_BYTES, Row.REIN_LWM_PCT]

/-- Rows of the dictionary tables, part 8. -/
def Reg.rows8 : List ObjRow := [
  Row.REIN_MIN_US, Row.REIN_OVERRIDE, Row.REIN_IDLE, Row.REIN_STATE,
  Row.TSMODE, Row.SLEW_NS, Row.VC, Row.LANES,
  Row.LANE_MAP, Row.ETH_MAC, Row.RSFEC, Row.FC_MODE,
  Row.PFC_CLASSES, Row.PAUSE_QUANTA, Row.MCAST_FILTER, Row.PROMISC,
  Row.LINK_UP, Row.RX_PKTS, Row.RX_BYTES, Row.RX_HDR_CORR,
  Row.HDR_ERR, Row.CRC_ERR, Row.RX_IGNORED, Row.RX_DISARMED,
  Row.DECODE_ERR, Row.NOMAP, Row.EVENTS_IN, Row.EVENTS_INJ,
  Row.INJ_REJECT, Row.TS_FUTURE, Row.OVF_DROP, Row.OVF_PKTS,
  Row.REIN_ASSERTS, Row.SEQ_GAP, Row.SEQ_OOO, Row.PG_DROP,
  Row.DISARM_DISCARD, Row.PAUSE_RX, Row.REIN_TIME_US, Row.SKID_PEAK]

/-- Rows of the dictionary tables, part 9. -/
def Reg.rows9 : List ObjRow := [
  Row.SKID_DENIED, Row.DEV_NUM, Row.TORUS_SHAPE, Row.LINKS_UP,
  Row.TREE_PARENT, Row.TREE_DEPTH, Row.WAKE_LINK, Row.WAKE_MODE,
  Row.RETRY_TMO_NS, Row.BULK_WEIGHT, Row.LANE_BER_MAX, Row.LINK_STATE,
  Row.WIDTH, Row.LANES_GOOD, Row.LANES_USED, Row.LANE_MAP_RX,
  Row.POL_INV, Row.ROLE, Row.PEER_DEV, Row.PEER_LINK,
  Row.TPV, Row.REFUSE_CAUSE, Row.RETRAIN, Row.SPUR_SEND,
  Row.DATELINE, Row.BUNDLE, Row.FLITS_TX, Row.FLITS_RX,
  Row.FEC_CORR_SYM, Row.FEC_UNCORR, Row.CRC_FAIL, Row.NAKS_TX,
  Row.REPLAYS, Row.REPLAY_FLITS, Row.DUP_RX, Row.SEQ_DISCARD,
  Row.REPLAY_FULL_NS, Row.CREDIT_STALL, Row.STUCK_REPORTS, Row.LANE_DEGRADES]

/-- Rows of the dictionary tables, part 10. -/
def Reg.rows10 : List ObjRow := [
  Row.TRAIN_FAILS, Row.LINK_LOSSES, Row.FLIT_BADFMT, Row.EVENTS_TX,
  Row.EVENTS_RX, Row.LINK_HOLD_NS, Row.SKIP_ADJ, Row.DEVICE_TYPE,
  Row.ERROR_REG, Row.EMCY_HISTORY, Row.NAME, Row.HW_VERSION,
  Row.SW_VERSION, Row.RESTORE_DEFAULTS, Row.COB_ID_EMCY, Row.EMCY_INHIBIT,
  Row.HEARTBEAT_MS, Row.VENDOR_ID, Row.PRODUCT, Row.REVISION,
  Row.SERIAL, Row.SERIAL_FULL, Row.MAC_BASE, Row.FA_LEVEL,
  Row.HFV_RANGE, Row.CFV_RANGE, Row.HTP_RANGE, Row.TPV_RANGE,
  Row.HTP_IN_USE, Row.USB_VID, Row.USB_PID, Row.USB_STATE,
  Row.USB_SPEED, Row.NODE_ID, Row.NOM_RATE, Row.DATA_RATE,
  Row.NOM_SP, Row.DATA_SP, Row.CAN_STATE, Row.BUSOFF_RECOVER]

/-- Rows of the dictionary tables, part 11. -/
def Reg.rows11 : List ObjRow := [
  Row.NMT_STATE, Row.REMOTE_TMO_MS, Row.HTP_SESSIONS, Row.HTP_FRAMES,
  Row.HTP_BADFRAME, Row.HTP_VERSION_REF, Row.HTP_TIMEOUT, Row.SDO_ABORTS,
  Row.CAN_RX, Row.CAN_TX, Row.CAN_ERR_FRAMES, Row.BUSOFF,
  Row.PDO_LEN_ERR, Row.EMCY_SENT, Row.EMCY_SUPPRESSED, Row.DICT_STAGE_LOST,
  Row.PD_COMMITS, Row.PD_UNKNOWN, Row.PD_INVALID, Row.REMOTE_TMO,
  Row.STEP_CLOCK_NS, Row.NEXT_NOM, Row.SYNC_WIN_NS, Row.LAT_COMP,
  Row.SYNC_OUTLIER, Row.MAKEUPS, Row.WAKE_LEAD_US, Row.GCTRL,
  Row.PER, Row.CMP, Row.IVL, Row.CNT,
  Row.GSTAT, Row.MISSED, Row.ECTRL, Row.POS,
  Row.CAP, Row.CAPPOS_RD, Row.ESTAT, Row.OVC_CNT]

/-- Rows of the dictionary tables, part 12. -/
def Reg.rows12 : List ObjRow := [
  Row.PWR_STATE, Row.PWR_REQ, Row.WAKE_EN, Row.WAKE_CAUSE,
  Row.WAKE_CAN_ID, Row.WAKE_CAN_MASK, Row.WATCH_PARK, Row.PARK_DST,
  Row.PARK_MAXLEN, Row.SLEEP_REIN, Row.SUPPLY_STATE, Row.FEEDS,
  Row.FEED_A_MV, Row.FEED_B_MV, Row.BUS_MV, Row.INPUT_MW,
  Row.HOLDUP_OK, Row.HOLDUP_MJ, Row.RESET_CAUSE, Row.BRACE_MAX_MS,
  Row.GOV_LIMIT_MW, Row.GOV_LIMIT_EFF_MW, Row.GOV_LEVEL, Row.TJ_THROTTLE_C,
  Row.ACCT_MODE, Row.RAIL_STATUS, Row.RAIL_MV, Row.FEED_LOSS_A,
  Row.FEED_LOSS_B, Row.FEED_REVERSED, Row.FEED_OV, Row.BRACES,
  Row.BRACE_NS, Row.PF_EVENTS, Row.PF_INCOMPLETE, Row.RAIL_RESETS,
  Row.LPREG_OVL, Row.PF_RECOVERED, Row.LOW_INPUT_ENTRIES, Row.RAIL_WARN]

/-- Rows of the dictionary tables, part 13. -/
def Reg.rows13 : List ObjRow := [
  Row.GOV_SPEC_NS, Row.GOV_LANE_NS, Row.GOV_FLOOR_NS, Row.GOV_LEVEL_MAX,
  Row.WAKES, Row.SLEEP_RX_DROP, Row.ACCT, Row.PLL_LOCKED,
  Row.REF_PPM, Row.BRINGUP_STAGE, Row.BRINGUP_FAIL, Row.BRINGUP_MS,
  Row.DDR_STATE, Row.SPARE_ROWS_MIN, Row.TILE_FUSE, Row.TILES_FENCED,
  Row.FARRIER_STATE, Row.FARRIER_NOW, Row.VCORE_PLAN_MV, Row.CORE_GUARD_PS,
  Row.CORE_ALARM_PS, Row.CORE_HEADROOM_MV, Row.CORE_YEARS_LEFT, Row.HOLD_RET_MV,
  Row.STABLE_PULSE_NS, Row.STABLE_REFRESH_D, Row.SENS_PS_PER_MV, Row.STABLE_RET_Y10,
  Row.EYE_MIN_MV, Row.EYE_MV, Row.PLAN_HISTORY, Row.BRINGUP_FAILS,
  Row.DDR_TRAIN_FAILS, Row.SOFT_REPAIRS, Row.TILES_FENCED_START, Row.CORE_BUMPS,
  Row.REPLANS, Row.REPLAN_DEFER, Row.STABLE_REFRESHES, Row.LC_STATE]

/-- Rows of the dictionary tables, part 14. -/
def Reg.rows14 : List ObjRow := [
  Row.OWNER_ID, Row.OWN_GEN, Row.OWNER_LOCK, Row.LC_RESTART_CAUSE,
  Row.IDK_PUB, Row.EXK_PUB, Row.EXK_SIG, Row.BRIDLE_MEAS,
  Row.SADDLE_MEAS, Row.TAMPER_EN, Row.TAMPER_ACTIVE, Row.TAMPER_LAST,
  Row.TAMPER_EVENTS, Row.LC_TRANSITIONS, Row.SEAL_FAIL, Row.AUTH_FAIL,
  Row.ATTESTS, Row.UPD_STATE, Row.UPD_BLOCKS, Row.UPD_LEN,
  Row.BANK_ACTIVE, Row.BANK_A_STATE, Row.BANK_B_STATE, Row.BANK_A_VER,
  Row.BANK_B_VER, Row.RUN_VER, Row.SVN_MIN, Row.PROBATION_S,
  Row.UPD_LAST_STATUS, Row.BLK_CRC_FAIL, Row.SIG_FAIL, Row.UPD_REFUSED,
  Row.ACTIVATIONS, Row.ROLLBACKS, Row.UC_SWAPS, Row.SWAP_MAX_US,
  Row.PD_MIGRATIONS, Row.FLOG_NEWEST, Row.FLOG_COUNT, Row.FLOG]

/-- Rows of the dictionary tables, part 15. -/
def Reg.rows15 : List ObjRow := [
  Row.FLOG_CLEAR, Row.WDT_RESET, Row.TILE_HANG_US, Row.COMPLETE_TMO_US,
  Row.SETTLE_MAX_US, Row.DEV_LOST_US, Row.WDT_MS, Row.FABRIC_STATE,
  Row.INTR_MAX_NS, Row.DUMP_A, Row.DUMP_B, Row.DUMP_NOW,
  Row.DUMP_LAST, Row.LAST_LOG, Row.ACC_ECC, Row.HTAB_ECC,
  Row.BULK_ECC, Row.CTRL_RETRY, Row.SYNC_PARITY, Row.TILES_FENCED_RUN,
  Row.SETTLES, Row.FORCED_COMPLETE, Row.SETTLE_BUSY, Row.DEVLOST_DISCARD,
  Row.REROUTE_LATE, Row.SADDLE_RESTARTS, Row.WDT_RESETS, Row.FLOG_OVERWRITE,
  Row.TEMP_DIE_C, Row.TEMP_PLATE_C, Row.PIN_IN, Row.GEO_CHANGED,
  Row.VAON_MA, Row.REIN_PIN_FAULT, Row.VAON_LIMIT, Row.THERM_SHUTDOWN]

/-- Every row of the dictionary tables. -/
def Reg.rows : List ObjRow :=
  Reg.rows0 ++ Reg.rows1 ++ Reg.rows2 ++ Reg.rows3 ++ Reg.rows4 ++ Reg.rows5 ++ Reg.rows6 ++ Reg.rows7 ++
    Reg.rows8 ++ Reg.rows9 ++ Reg.rows10 ++ Reg.rows11 ++ Reg.rows12 ++ Reg.rows13 ++ Reg.rows14 ++ Reg.rows15 ++ Reg.extraRows

/-- Counter objects held per cluster, bank, link or fetch engine as copies of a module total: first index, number,
index of the total, first and last sub-index copied (R55, R88, R143, R168, R202, R298, R353). -/
def Reg.copies : List (Nat × Nat × Nat × Nat × Nat) :=
  [(0x6030, 16, 0x6020, 1, 0xFF), (0x6050, 16, 0x6040, 1, 0xFF), (0x6080, 16, 0x6070, 1, 0xFF),
   (0x60A0, 16, 0x6090, 1, 9), (0x60A0, 16, 0x6090, 0x0B, 0x19),
   (0x60B0, 4, 0x6090, 1, 9), (0x60B0, 4, 0x6090, 0x0B, 0x19), (0x60D0, 16, 0x60C0, 1, 0x15),
   (0x6130, 16, 0x6120, 1, 4), (0x6160, 8, 0x6150, 1, 0xFF)]

/-- The row that holds an index and sub-index. -/
def Reg.findRow (index sub : Nat) : Option ObjRow :=
  Reg.rows.find? fun r => r.base ≤ index && index < r.base + r.count && r.sub ≤ sub && sub ≤ r.subLast

/-- The copy range an index falls in, as the index of its module total. -/
def Reg.copyOf (index sub : Nat) : Option Nat :=
  (Reg.copies.find? fun c => c.1 ≤ index && index < c.1 + c.2.1 && c.2.2.2.1 ≤ sub && sub ≤ c.2.2.2.2).map
    fun c => c.2.2.1

/-- The object at an index and sub-index, if it exists (R354); a copy has its total's type and access. -/
def Reg.find (index sub : Nat) : Option Obj :=
  match Reg.findRow index sub with
  | some r => some (r.obj (index - r.base) (sub - r.sub))
  | none =>
    match Reg.copyOf index sub with
    | some total => (Reg.findRow total sub).map fun r => ⟨index, sub, r.ty, r.acc, r.dflt, r.pers⟩
    | none => none

/-- The highest sub-index an index has, if it has sub-indices (R354). -/
def Reg.highestSub (index : Nat) : Option Nat :=
  let at' := (Reg.copies.find? fun c => c.1 ≤ index && index < c.1 + c.2.1).elim index fun c => c.2.2.1
  let subs := Reg.rows.filterMap fun r => if r.base ≤ at' && at' < r.base + r.count then some r.subLast else none
  if subs.any (fun n => 0 < n) then some (subs.foldl Nat.max 0) else none


end Sys2Proof.Machine
end

