-- ==== Sys2Proof/Machine/Ops.lean ====
section
/-!
DEFINITION. The named operations over registers, memories, the fault log, responses and free values that every meaning
is written with.
-/
namespace Sys2Proof.Machine
open Sys2Proof

/-! ### Registers -/

/-- The place of an object in the register map. -/
def Obj.key (o : Obj) : Nat := o.index * 256 + o.sub

/-- Bytes of a value of a type (R10). -/
def ObjTy.bytes : ObjTy → Nat
  | .bool => 1 | .u8 => 1 | .u16 => 2 | .i16 => 2 | .u32 => 4 | .i32 => 4 | .bits32 => 4 | .u64 => 8
  | .str => 32
  | .domain n => n

/-- A counter of a type raised by `n`: U64 wraps, the narrower types saturate (R9). -/
def ObjTy.count (ty : ObjTy) (v n : Nat) : Nat :=
  match ty with
  | .u64 => (v + n) % 2 ^ 64
  | _ => min (v + n) (2 ^ (8 * ty.bytes) - 1)

/-- The value an object holds: its default where nothing has been written (R11). -/
def State.reg (s : State) (o : Obj) : Nat := (Assoc.get? o.key s.regs).getD o.dflt

/-- An object given a value. -/
def State.setReg (s : State) (o : Obj) (v : Nat) : State := { s with regs := Assoc.set o.key v s.regs }

/-- A bit of a word object set or cleared. -/
def State.setBit (s : State) (o : Obj) (i : Nat) (b : Bool) : State := s.setReg o (setBitField (s.reg o) i 1 (if b then 1 else 0))

/-- A bit of a word object. -/
def State.bit (s : State) (o : Obj) (i : Nat) : Bool := natBit (s.reg o) i

/-- A counter raised by `n` (R9). -/
def State.bumpBy (s : State) (o : Obj) (n : Nat) : State := s.setReg o (o.ty.count (s.reg o) n)

/-- A counter raised by 1 (R9). -/
def State.bump (s : State) (o : Obj) : State := s.bumpBy o 1

/-- The copy of a counter `off` indices above its module total, as cluster, bank and link copies lie. -/
def Obj.copy (o : Obj) (off : Nat) : Obj := { o with index := o.index + off }

/-- A counter and its copy `off` indices above raised by `n`. -/
def State.bumpByAt (s : State) (o : Obj) (off n : Nat) : State := (s.bumpBy o n).bumpBy (o.copy off) n

/-- A counter and its copy for unit `u` raised by 1: the copies begin 0x10 above the total. -/
def State.bumpAt (s : State) (o : Obj) (u : Nat) : State := s.bumpByAt o (0x10 + u) 1

/-- A peak value raised to at least `v`, which it holds up to the greatest value of its type (R9). -/
def State.peak (s : State) (o : Obj) (v : Nat) : State := s.setReg o (max (s.reg o) (min v (2 ^ (8 * o.ty.bytes) - 1)))

/-- A peak value and its copy for unit `u`. -/
def State.peakAt (s : State) (o : Obj) (u v : Nat) : State := (s.peak o v).peak (o.copy (0x10 + u)) v

/-- The objects whose index satisfies `p` put back to their defaults. -/
def State.clearRegs (s : State) (p : Nat → Bool) : State :=
  { s with regs := s.regs.filter fun e => !p (e.1 / 256) }

/-! ### Free values, responses, messages -/

/-- A value the spec leaves open, and the state that has drawn it. -/
def State.fresh (s : State) (w : Nat) : BitVec w × State :=
  (Config.freeBits s.free w, { s with free := s.free + 1 })

/-- The response of the command: a status and data. -/
def State.respond (s : State) (st : Status) (data : List Byte := []) : State := { s with resp := ⟨st, data⟩ }

/-- A message that leaves the block. -/
def State.emit (s : State) (m : OutMsg) : State := { s with out := s.out ++ [m] }

/-- A cluster sequencer that waits in WFI goes on: a doorbell record, a record in one of its completion queues or the release of
a step resumes it (R229). -/
def State.wakeSeq (s : State) (c : Nat) : State := { s with seqWait := s.seqWait.filter (· ≠ c) }

/-! ### Clocks (R20) -/

/-- The CCLK cycle of a time in ns: 300 MHz. -/
def cclkOf (ns : Nat) : Nat := ns * 3 / 10

/-- The FCLK cycle of a time in ns: 600 MHz. -/
def fclkOf (ns : Nat) : Nat := ns * 6 / 10

/-! ### The fault log (R460, R461) -/

/-- The 8-bit code of a class (R461). -/
def FaultClass.code : FaultClass → Nat
  | .memUncorr => 0x01 | .neuronReinit => 0x02 | .row => 0x03 | .drop => 0x04 | .loadReject => 0x05
  | .queue => 0x06 | .hitch => 0x07 | .link => 0x08 | .tileFence => 0x09 | .countSettle => 0x0A
  | .deviceLost => 0x0B | .supply => 0x0C | .security => 0x0D | .watchdog => 0x0E | .update => 0x0F
  | .farrier => 0x10 | .step => 0x11 | .configReject => 0x12 | .persist => 0x13 | .rxError => 0x14
  | .bringup => 0x15 | .stable => 0x16 | .other => 0x17

/-- The code of a severity (R460). -/
def Severity.code : Severity → Nat
  | .info => 0 | .degraded => 1 | .error => 2 | .fatal => 3

/-- The severity of a class whose rule names none (R461). -/
def FaultClass.severity (c : FaultClass) (st : Status) : Severity :=
  match c with
  | .loadReject | .hitch | .update | .farrier | .configReject | .persist | .rxError => .info
  | .deviceLost | .watchdog | .security | .bringup => .error
  | .other => if st = .eccUncorr ∨ st = .dropped ∨ st = .degraded then .degraded else .info
  | _ => .degraded

/-- SOURCE of an entry (R460, R370): 0 device, 1 power, 2 fabric, 3 intake, 4 Tether, 5 memory, 6 Stable, 7 host.
DEDUCED: the spec gives the codes and leaves to the name of each class which one it takes. -/
def FaultClass.source : FaultClass → Nat
  | .supply => 1
  | .neuronReinit | .row | .drop | .loadReject | .queue | .hitch | .tileFence | .countSettle | .step => 2
  | .rxError => 3
  | .link | .deviceLost => 4
  | .memUncorr => 5
  | .stable => 6
  | .configReject => 7
  | _ => 0

/-- What a rule asks to be recorded. -/
structure FaultNote where
  cls : FaultClass
  status : Status := .ok
  sev : Option Severity := none
  source : Option Nat := none
  unit : Nat := 0xFF
  sub : Nat := 0xFF
  ref : Nat := 0

/-- SEQ after `n`: 0 never numbers an entry (R460). -/
def nextSeq (n : Nat) : Nat := if n = 0xFFFFFFFF then 1 else n + 1

/-- A word made of fields: lowest bit, width and value of each (R7). -/
def packFields (l : List (Nat × Nat × Nat)) : Nat := l.foldl (fun a f => a + f.2.2 % 2 ^ f.2.1 * 2 ^ f.1) 0

/-- 1 for true. -/
def boolNat (b : Bool) : Nat := if b then 1 else 0

/-- The 32 bytes of a fault-log entry (R460). -/
def FaultEntry.bytes (e : FaultEntry) : List Byte :=
  leBytes 32 (packFields [(0, 4, 1), (4, 4, e.sev.code), (8, 8, e.status.code), (16, 8, e.source), (24, 8, e.cls.code),
    (32, 32, e.seq), (64, 64, e.time), (128, 64, e.step), (192, 8, e.unit), (200, 8, e.sub), (208, 48, e.ref)])

/-- Frames sent to a peer. On Ethernet they wait while a received PAUSE or PFC frame holds the port's transmitter (R310). -/
def State.transmit (s : State) (p : Peer) (l : List OutMsg) : State :=
  match p with
  | .usb => { s with out := s.out ++ l }
  | .ethernet e _ _ =>
    let k := 4 + e.val
    let waiting := Assoc.getD s.txHeld k []
    if l = [] then s
    else if waiting = [] ∧ (Assoc.getD s.intake k {}).txUntil ≤ s.now then { s with out := s.out ++ l }
    else { s with txHeld := Assoc.set k (waiting ++ l) s.txHeld }

/-- The frames that waited for an Ethernet port sent once its transmitter is held no more (R310). -/
def State.releaseTx (s : State) (k : Nat) : State :=
  match Assoc.get? k s.txHeld with
  | none => s
  | some l =>
    if (Assoc.getD s.intake k {}).txUntil ≤ s.now then { s with out := s.out ++ l, txHeld := Assoc.erase k s.txHeld } else s

/-- A NOTIFY frame to every session that has enabled its kind: 0 EMCY, 1 COMPLETE, 2 FAULT (R363). -/
def State.notify (s : State) (kind stamp : Nat) (data : List Byte) : State :=
  (s.host.sessions.filter fun x => natBit x.mask kind).foldl
    (fun s x => s.transmit x.peer [.notify x.peer kind stamp data]) s

/-- An entry written to the fault log; in a full ring it overwrites the oldest (R460). Sessions that enabled it are
notified (R363). -/
def State.logFault (s : State) (n : FaultNote) : State :=
  let seq := nextSeq s.flogSeq
  let e : FaultEntry :=
    { seq := seq, sev := n.sev.getD (n.cls.severity n.status), status := n.status, source := n.source.getD n.cls.source,
      cls := n.cls, time := s.clock, step := s.reg Reg.STEP_RELEASED, unit := n.unit, sub := n.sub,
      ref := n.ref % 2 ^ 48 }
  let s1 := if s.flog.length < 1024 then { s with flog := s.flog ++ [e], flogSeq := seq }
    else { s with flog := s.flog.drop 1 ++ [e], flogSeq := seq }.bump Reg.FLOG_OVERWRITE
  s1.notify 2 s.clock e.bytes

/-- The 8 bytes of an EMCY record (R370). -/
def emcyBytes (code errorReg : Nat) (st : Status) (source detail : Nat) : List Byte :=
  leBytes 2 code ++ leBytes 1 errorReg ++ leBytes 1 st.code ++ leBytes 1 source ++ leBytes 3 detail

/-- An EMCY record entered in the history 0x1003, 01 the newest (R360). -/
def State.emcyHistory (s : State) (v : Nat) : State :=
  ([7, 6, 5, 4, 3, 2, 1].foldl (fun s k => s.setReg (Reg.EMCY_HISTORY k) (s.reg (Reg.EMCY_HISTORY (k - 1)))) s).setReg
    (Reg.EMCY_HISTORY 0) v

/-- A CAN frame sent, unless the port is bus-off (R367) or its pin's domain VDD_IO is off: TXD then floats recessive (WATCH and
OFF, R406). -/
def State.canSend (s : State) (id : Nat) (data : List Byte) : State :=
  if s.reg Reg.CAN_STATE = 2 ∨ s.power.off ∨ 3 ≤ s.reg Reg.PWR_STATE then s else (s.emit (.can id data)).bump Reg.CAN_TX

/-- An EMCY record raised (R370): it enters the history; unless its code was sent within EMCY_INHIBIT it goes to CAN,
where it waits out bus-off among the 8 most recent, and to every session that enabled it. -/
def State.emcy (s : State) (code : Nat) (st : Status) (source detail : Nat) : State :=
  let data := emcyBytes code (s.reg Reg.ERROR_REG) st source detail
  let s1 := s.emcyHistory (code + 65536 * st.code + 16777216 * source)
  let recent : Bool := match Assoc.get? code s.host.emcyAt with
    | some t => decide (s.now < t + s.reg Reg.EMCY_INHIBIT * 100000)
    | none => false
  if recent then s1.bump Reg.EMCY_SUPPRESSED
  else
    let id := 0x80 + s.reg Reg.NODE_ID
    let h := { s1.host with emcyAt := Assoc.set code s.now s1.host.emcyAt }
    let w := h.emcyWait ++ [(id, data)]
    let h1 := if s.reg Reg.CAN_STATE = 2 then { h with emcyWait := w.drop (w.length - 8) } else h
    let s2 : State := { s1 with host := h1 }
    let s3 := if s.reg Reg.CAN_STATE = 2 ∨ s.reg Reg.NMT_STATE = 0x04 ∨ s.reg Reg.BRINGUP_STAGE % 128 < 2 then s2
      else s2.canSend id data
    let s4 := if s.reg Reg.USB_STATE = 3 ∧ s.host.usbWakeup then s3.emit .usbWakeup else s3
    (s4.bump Reg.EMCY_SENT).notify 0 s.clock data

/-- Whether an entry of a kind and unit has been written in a second or step, whichever `stamp` numbers. -/
def State.gated (s : State) (kind unit stamp : Nat) : Bool :=
  (Assoc.getD s.logGate (kind * 65536 + unit) []).contains stamp

/-- The stamp of a kind and unit noted. -/
def State.gate (s : State) (kind unit stamp : Nat) : State :=
  let k := kind * 65536 + unit
  { s with logGate := Assoc.set k (stamp :: Assoc.getD s.logGate k []) s.logGate }

/-- An entry written unless one of the same kind has been written in the same second or step, whichever `stamp`
numbers. -/
def State.logGated (s : State) (kind unit stamp : Nat) (n : FaultNote) : State :=
  if s.gated kind unit stamp then s else (s.gate kind unit stamp).logFault n

/-- The second of device time, by which some rules limit the entries they ask for. -/
def State.second (s : State) : Nat := s.now / 1000000000

/-! ### Byte memories (R14, R273) -/

/-- What an address that nothing has written reads as: the spec gives memory no content after power-on. -/
def Memory.blank : Byte := 0

/-- The byte at an address. -/
def Memory.read : List Host.Cell → Nat → Byte
  | [], _ => Memory.blank
  | (b, v) :: l, a => if b = a then v else Memory.read l a

/-- A byte stored; a blank byte is not listed. -/
def Memory.write : List Host.Cell → Nat → Byte → List Host.Cell
  | [], a, v => if v = Memory.blank then [] else [(a, v)]
  | (b, w) :: l, a, v =>
    if b < a then (b, w) :: Memory.write l a v
    else if b = a then (if v = Memory.blank then l else (a, v) :: l)
    else if v = Memory.blank then (b, w) :: l else (a, v) :: (b, w) :: l

/-- All addresses of the list lie above `lo`, rise strictly, and no listed byte is blank. -/
def Memory.above : Option Nat → List Host.Cell → Bool
  | _, [] => true
  | lo, (a, v) :: l => (match lo with | none => true | some b => decide (b < a)) && (v != Memory.blank)
      && Memory.above (some a) l

/-- The canonical form of a memory. -/
def Memory.wf (m : List Host.Cell) : Bool := Memory.above none m

/-- Bytes stored from an address upwards. -/
def Memory.writeBytes (m : List Host.Cell) (a : Nat) : List Byte → List Host.Cell
  | [] => m
  | b :: l => Memory.writeBytes (Memory.write m a b) (a + 1) l

/-- `n` bytes from an address upwards. -/
def Memory.readBytes (m : List Host.Cell) (a : Nat) : Nat → List Byte
  | 0 => []
  | n + 1 => Memory.read m a :: Memory.readBytes m (a + 1) n

/-- LPDDR5X (R14). -/
def ddrBase : Nat := 0x1000000000

/-- What is combined with the stored byte of an address when it is read and when it is written: zero, but in a range of LPDDR5X
whose content has become unintelligible, where the spec states no value (R293, R433). -/
def State.veilAt (s : State) (a : Nat) : Byte :=
  if a < ddrBase then 0
  else s.veils.foldl (fun b v => if v.1 ≤ a ∧ a < v.2.1 then b ^^^ Config.veilByte v.2.2 a else b) 0

/-- The byte at an address, as a read of it finds it. -/
def State.byteAt (s : State) (a : Nat) : Byte := Memory.read s.mem a ^^^ s.veilAt a

/-- Bytes as they are stored from an address upwards. -/
def State.veiled (s : State) : Nat → List Byte → List Byte
  | _, [] => []
  | a, b :: l => (b ^^^ s.veilAt a) :: s.veiled (a + 1) l

/-- `n` bytes of memory as a read finds them. -/
def State.bytes (s : State) (a n : Nat) : List Byte :=
  if s.veils = [] then Memory.readBytes s.mem a n else s.veiled a (Memory.readBytes s.mem a n)

/-- Bytes of memory replaced. -/
def State.setBytes (s : State) (a : Nat) (l : List Byte) : State :=
  { s with mem := Memory.writeBytes s.mem a (if s.veils = [] then l else s.veiled a l) }

/-- The little-endian number held in `n` bytes (R7). -/
def State.word (s : State) (a n : Nat) : Nat := leNat (s.bytes a n)

/-- A little-endian number stored in `n` bytes (R7). -/
def State.setWord (s : State) (a n v : Nat) : State := s.setBytes a (leBytes n v)

/-! ### The address space (R14, R273) -/

/-- The regions of the device address space, with the offset within each. -/
inductive Region where
  | commons (bank off : Nat)
  | control (off : Nat)
  | windowBlock (bank win off : Nat)
  | setAlias (off : Nat)
  | clearAlias (off : Nat)
  | tack (off : Nat)
  | queueBlock (q off : Nat)
  | hitchTable (h off : Nat)
  | stable (off : Nat)
  | tile (cluster tile off : Nat)
  | ddr (off : Nat)
  | nothing
  deriving DecidableEq, Repr

/-- Usable LPDDR5X capacity of a variant in bytes, the C of R144 (R1). -/
def Variant.usable : Variant → Nat
  | .d64 => 64424509440
  | .d32 => 32212254720
  | .d64e => 64424509440

/-- Fitted LPDDR5X of a variant in bytes (R1). -/
def Variant.fitted : Variant → Nat
  | .d64 => 64 * 2 ^ 30
  | .d32 => 32 * 2 ^ 30
  | .d64e => 64 * 2 ^ 30

def commonsBase : Nat := 0x0
def commonsSize : Nat := 0x2000000
/-- The Commons firmware area: the top 256 KiB of bank 15 (R273). -/
def firmwareArea : Nat := 0x1FC0000
def controlBase : Nat := 0x4000000
def tackBase : Nat := 0x8000000
def queueBase : Nat := 0xA000000
def hitchBase : Nat := 0xC000000
def stableBase : Nat := 0x10000000
def journalBase (r : Nat) : Nat := 0x14000000 + r * 0x400000
def tileWindow (c t : Nat) : Nat := 0x100000000 + c * 0x4000000 + t * 0x80000

/-- The region of an address on a variant; `nothing` outside every region of R14 (R16, R273). -/
def regionOf (v : Variant) (a : Nat) : Region :=
  if a < commonsSize then .commons (a / 0x200000) (a % 0x200000)
  else if controlBase ≤ a ∧ a < controlBase + 0x80000 then
    if a - controlBase < 0x78000 then .control (a - controlBase)
    else .windowBlock ((a - controlBase - 0x78000) / 2048) ((a - controlBase - 0x78000) / 64 % 32)
      ((a - controlBase) % 64)
  else if 0x5000000 ≤ a ∧ a < 0x5080000 then .setAlias (a - 0x5000000)
  else if 0x6000000 ≤ a ∧ a < 0x6080000 then .clearAlias (a - 0x6000000)
  else if tackBase ≤ a ∧ a < tackBase + 0x40000 then .tack (a - tackBase)
  else if queueBase ≤ a ∧ a < queueBase + 0x200000 then .queueBlock ((a - queueBase) / 64) ((a - queueBase) % 64)
  else if hitchBase ≤ a ∧ a < hitchBase + 0x80000 then .hitchTable ((a - hitchBase) / 32) ((a - hitchBase) % 32)
  else if stableBase ≤ a ∧ a < stableBase + 0x4800000 then .stable (a - stableBase)
  else if 0x100000000 ≤ a ∧ a < 0x140000000 then
    if (a - 0x100000000) % 0x4000000 < 0x2000000 then
      .tile ((a - 0x100000000) / 0x4000000) ((a - 0x100000000) % 0x4000000 / 0x80000) ((a - 0x100000000) % 0x80000)
    else .nothing
  else if ddrBase ≤ a ∧ a < ddrBase + v.usable then .ddr (a - ddrBase)
  else .nothing

/-! ### CRC-32C -/

/-- One bit of the reflected CRC-32C; the spec names the code without its polynomial (PRESUMED: Castagnoli). -/
def crc32cBit (c : BitVec 32) : BitVec 32 :=
  if c.getLsbD 0 then (c >>> 1) ^^^ 0x82F63B78#32 else c >>> 1

/-- One byte of the CRC-32C. -/
def crc32cByte (c : BitVec 32) (b : Byte) : BitVec 32 :=
  let x := c ^^^ b.setWidth 32
  crc32cBit (crc32cBit (crc32cBit (crc32cBit (crc32cBit (crc32cBit (crc32cBit (crc32cBit x)))))))

/-- CRC-32C of a byte list. -/
def crc32c (l : List Byte) : BitVec 32 := ~~~(l.foldl crc32cByte 0xFFFFFFFF#32)

end Sys2Proof.Machine
end

