-- ==== Sys2Proof/Machine/Operands.lean ====
section
/-!
DEFINITION. Operand forms: the 32-byte command of R203 with its flags and operand bytes, the opcodes of R209, the
engine and master numbers of R206 and R243, and the 32-byte records the block writes.
-/
namespace Sys2Proof.Machine
open Sys2Proof

/-- `n` bytes of an entry from byte `lo`, as a number (R7). -/
def entryField (e : Entry) (lo n : Nat) : Nat := bitField e.toNat (8 * lo) (8 * n)

/-- An entry made of its 32 bytes as fields: lowest byte, bytes and value of each. -/
def entryOf (l : List (Nat × Nat × Nat)) : Entry :=
  BitVec.ofNat 256 (packFields (l.map fun f => (8 * f.1, 8 * f.2.1, f.2.2)))

/-- The bytes of an entry. -/
def entryBytes (e : Entry) : List Byte := leBytes 32 e.toNat

/-- The entry that bytes spell. -/
def entryOfBytes (l : List Byte) : Entry := BitVec.ofNat 256 (leNat l)

/-- The opcodes (R209). -/
inductive Opcode where
  | nop | hitchSignal | hitchWait | hitchSet | hitchBarrier | hitchDump
  | step | gait | learnEpoch | checkpoint | restore | loadSegment | harnessLoad | harnessUnload
  | gemm | conv | move | fill | mapLoad | arm | disarm | groupDef | groupClear | tilestat
  | gcmSeal | gcmOpen | sha384 | ecdsaSign | ecdsaVerify | xtsKeyset | frcInvalidate
  deriving DecidableEq, Repr

/-- The opcode of a code; none for a reserved one (R209). -/
def Opcode.ofCode (n : Nat) : Option Opcode :=
  match n with
  | 0x00 => some .nop | 0x01 => some .hitchSignal | 0x02 => some .hitchWait | 0x03 => some .hitchSet
  | 0x04 => some .hitchBarrier | 0x05 => some .hitchDump
  | 0x10 => some .step | 0x11 => some .gait | 0x12 => some .learnEpoch | 0x13 => some .checkpoint
  | 0x14 => some .restore | 0x15 => some .loadSegment | 0x18 => some .harnessLoad | 0x19 => some .harnessUnload
  | 0x20 => some .gemm | 0x21 => some .conv | 0x30 => some .move | 0x31 => some .fill
  | 0x40 => some .mapLoad | 0x41 => some .arm | 0x42 => some .disarm
  | 0x50 => some .groupDef | 0x51 => some .groupClear | 0x52 => some .tilestat
  | 0x60 => some .gcmSeal | 0x61 => some .gcmOpen | 0x62 => some .sha384 | 0x63 => some .ecdsaSign
  | 0x64 => some .ecdsaVerify | 0x65 => some .xtsKeyset | 0x70 => some .frcInvalidate
  | _ => none

/-- The engine numbers that take an opcode, none for the common opcodes of the queue front end (R208, R209). -/
def Opcode.engine : Opcode → Option Nat
  | .nop | .hitchSignal | .hitchWait | .hitchSet | .hitchBarrier | .hitchDump => none
  | .step | .gait | .learnEpoch | .checkpoint | .restore | .loadSegment | .harnessLoad | .harnessUnload => some 0
  | .gemm | .conv => some 1
  | .move | .fill => some 2
  | .mapLoad | .arm | .disarm => some 3
  | .groupDef | .groupClear | .tilestat => some 4
  | .gcmSeal | .gcmOpen | .sha384 | .ecdsaSign | .ecdsaVerify | .xtsKeyset => some 5
  | .frcInvalidate => some 6

/-- The opcodes accepted on device 0 only (R210). -/
def Opcode.deviceZeroOnly : Opcode → Bool
  | .step | .gait | .learnEpoch | .checkpoint | .restore | .loadSegment => true
  | _ => false

/-- The opcodes restricted to queue 0 (R209). -/
def Opcode.queueZeroOnly : Opcode → Bool
  | .harnessLoad | .harnessUnload => true
  | _ => false

/-- The opcodes that need a loaded harness (R205). -/
def Opcode.needsHarness : Opcode → Bool
  | .step | .gait | .learnEpoch | .checkpoint | .restore | .loadSegment | .harnessUnload | .frcInvalidate
  | .mapLoad | .arm | .groupDef | .tilestat => true
  | _ => false

/-- OPC of a command (R203). -/
def cmdOpc (e : Entry) : Nat := entryField e 0 1
/-- FLAGS bit 0, CMPL (R204). -/
def cmdCmpl (e : Entry) : Bool := natBit (entryField e 1 1) 0
/-- FLAGS bit 1, FENCE (R204). -/
def cmdFence (e : Entry) : Bool := natBit (entryField e 1 1) 1
/-- CFV, bits 3:0 of bytes 2–3 (R203). -/
def cmdCfv (e : Entry) : Nat := bitField (entryField e 2 2) 0 4
/-- TAG (R203). -/
def cmdTag (e : Entry) : Nat := entryField e 4 4
/-- The opcode of a command, none for a reserved code. -/
def cmdOpcode (e : Entry) : Option Opcode := Opcode.ofCode (cmdOpc e)

/-- The number of an engine (R206). -/
def engineNum : EngineId → Nat
  | .fabric => 0 | .dense => 1 | .mover => 2 | .intake => 3 | .census => 4 | .crypto => 5
  | .fetch k => 6 + k.val

/-- The code of a master: that of PROD and CONS (R243), and beyond them one of its own for each engine and each cluster's
plasticity engine, which a fault-log entry names as the requesting port (DESIGN CHOICE). -/
def masterCode : Master → Nat
  | .sequencer c => c.val
  | .host => 0x10
  | .saddle => 0x11
  | .bridle => 0x12
  | .engine e _ => 0x20 + engineNum e
  | .plasticity c => 0x30 + c.val

/-- Whether a PROD or CONS value names a master: 0x13 is any of 0x00 to 0x11 (R243). -/
def permits (x : Nat) (m : Master) : Bool := x == masterCode m || (x == 0x13 && masterCode m ≤ 0x11)

/-- The Bridle queues 32,512–32,543 (R243). -/
def isBridleQueue (q : Nat) : Bool := 32512 ≤ q && q ≤ 32543

/-- The firmware queues: queue 0 and 32,512–32,767 (R241). -/
def isFirmwareQueue (q : Nat) : Bool := q == 0 || (32512 ≤ q && q ≤ 32767)

/-- The management core: the Saddle or the Bridle (R243). -/
def isManagement : Master → Bool
  | .saddle => true
  | .bridle => true
  | _ => false

/-- A completion queue entry: the record in bytes 0–15 and the opcode's extension in bytes 16–31 (R206). -/
def completionEntry (run : RunCmd) (eng : Nat) (st : Status) (aux result ext : Nat) : Entry :=
  entryOf [(0, 1, cmdOpc run.cmd), (1, 1, st.code), (2, 1, eng), (3, 1, cmdCfv run.cmd), (4, 4, cmdTag run.cmd),
    (8, 2, run.queue), (10, 2, aux), (12, 4, result), (16, 16, ext)]

end Sys2Proof.Machine
end

