-- ==== Sys2Proof/Machine/Flags.lean ====
section
/-!
DEFINITION. The flags, counts and packed views that the spec computes from state: a queue's count, fullness and control
block (R242), a Hitch's entry (R260), a window's fill and control block (R281).
-/
namespace Sys2Proof.Machine
open Sys2Proof

/-! ### Queues -/

/-- A queue by number; a queue never bound reads as at device start (R242). -/
def State.queue (s : State) (q : Nat) : Queue := Assoc.getD s.queues q {}

/-- A queue's record replaced. -/
def State.setQueue (s : State) (q : Nat) (b : Queue) : State := { s with queues := Assoc.set q b s.queues }

/-- Entries of the ring: N = 2^LOG2N (R241). -/
def Queue.size (b : Queue) : Nat := 2 ^ b.log2n

/-- The count: (WP_A − RP_A) mod 2¹⁷ (R242). -/
def Queue.count (b : Queue) : Nat := (b.wpA - b.rpA).toNat

/-- FULL: count + RESV = N (R242). -/
def Queue.isFull (b : Queue) : Bool := b.qstate != .unbound && b.size ≤ b.count + b.resv

/-- A difference between a pointer and the complement of its copy (R246). -/
def Queue.mismatch (b : Queue) : Bool := b.wpA != ~~~b.wpB || b.rpA != ~~~b.rpB

/-- Both copies of the write pointer (R246). -/
def Queue.setWp (b : Queue) (p : BitVec 17) : Queue := { b with wpA := p, wpB := ~~~p }

/-- Both copies of the read pointer (R246). -/
def Queue.setRp (b : Queue) (p : BitVec 17) : Queue := { b with rpA := p, rpB := ~~~p }

/-- KIND codes (R240). -/
def QKind.code : QKind → Nat
  | .command => 0 | .completion => 1 | .data => 2 | .msgReq => 3 | .msgRep => 4 | .combining => 5

/-- The kind of a code; 6–7 are reserved (R240). -/
def QKind.ofCode (n : Nat) : Option QKind :=
  match n with
  | 0 => some .command | 1 => some .completion | 2 => some .data | 3 => some .msgReq | 4 => some .msgRep
  | 5 => some .combining
  | _ => none

/-- QSTATE codes (R242). -/
def QState.code : QState → Nat
  | .unbound => 0 | .enabled => 1 | .draining => 2 | .aborting => 3 | .disabled => 4 | .closed => 5

/-- Word 1 of a control block, as QPOLICY reads and writes it (R242, R258). -/
def Queue.policy (b : Queue) : Nat :=
  packFields [(0, 20, b.tmoUs), (20, 1, boolNat b.ntfyEn), (21, 14, b.ntfyHitch), (35, 17, b.wm)]

/-- The 64-byte control block as a number, with the LAST_STATUS of the reading master (R242). -/
def Queue.block (b : Queue) (last : Nat × Nat) : Nat :=
  packFields [(0, 3, b.kind.code), (3, 5, b.log2n), (8, 20, b.base / 32), (28, 4, b.eng), (32, 15, b.link),
    (48, 8, b.prod), (56, 8, b.cons), (64, 52, b.policy), (128, 16, b.gen.toNat), (144, 3, b.qstate.code),
    (152, 1, boolNat b.isFull), (153, 1, boolNat b.ovr), (154, 1, boolNat b.tmo), (155, 1, boolNat b.rst),
    (160, 17, b.resv), (192, 17, b.wpA.toNat), (224, 17, b.rpA.toNat), (256, 17, b.wpB.toNat),
    (288, 17, b.rpB.toNat), (320, 17, b.hwm), (352, 16, b.ovrCnt), (368, 16, b.tmoCnt), (384, 64, b.pushCnt.toNat),
    (480, 8, last.1), (488, 15, last.2)]

/-- The address of ring entry `p`: BASE + 32·(p mod N) (R241). -/
def Queue.entryAddr (b : Queue) (p : BitVec 17) : Nat := b.base + 32 * (p.toNat % b.size)

/-- The address of key ring word `p` of a combining queue (R254). -/
def Queue.keyAddr (b : Queue) (p : BitVec 17) : Nat := b.base + 32 * b.size + 4 * (p.toNat % b.size)

/-- Ring entry `p` as memory holds it. -/
def State.queueEntry (s : State) (b : Queue) (p : BitVec 17) : Entry := entryOfBytes (s.bytes (b.entryAddr p) 32)

/-- The entry at a queue's head. -/
def State.head (s : State) (q : Nat) : Entry := s.queueEntry (s.queue q) (s.queue q).rpA

/-! ### Hitches -/

/-- A Hitch by number; one never loaded holds the device-start values (R260). -/
def State.hitch (s : State) (h : Nat) : Hitch := Assoc.getD s.hitches h {}

/-- A Hitch's record replaced. -/
def State.setHitch (s : State) (h : Nat) (e : Hitch) : State := { s with hitches := Assoc.set h e s.hitches }

/-- The device holding a Hitch's home: this device unless the entry names another (R260). -/
def State.homeDev (s : State) (e : Hitch) : Nat := e.homeDev.getD (s.reg Reg.DEV_NUM)

/-- Whether a Hitch is homed on this device (R261). -/
def State.isHome (s : State) (h : Nat) : Bool := s.homeDev (s.hitch h) == s.reg Reg.DEV_NUM

/-- SCOPE codes (R260). -/
def HScope.code : HScope → Nat
  | .cluster => 0 | .die => 1 | .system => 2

/-- The queues of this device whose head is stalled on a Hitch (R260). -/
def State.waitersOn (s : State) (h : Nat) : List Nat :=
  s.queues.filterMap fun e => match e.2.waiter with
    | some w => if w.hitch = h then some e.1 else none
    | none => none

/-- A word with the listed bits set. -/
def bitsNat (l : List Nat) : Nat := l.foldl (fun a i => a ||| 2 ^ i) 0

/-- The 32-byte Hitch entry as a number (R260). -/
def State.hitchEntry (s : State) (h : Nat) : Nat :=
  let e := s.hitch h
  packFields [(0, 32, e.count), (32, 32, e.target), (64, 6, s.homeDev e), (70, 5, e.homeNode), (75, 2, e.scope.code),
    (80, 17, bitsNat (e.lsubs ++ e.copies.map (·.1))), (128, 64, bitsNat e.rsubs), (192, 16, (s.waitersOn h).length),
    (208, 16, e.barn),
    (224, 32, e.ops)]

/-! ### Circular windows -/

/-- Window `w` of bank `b`; one never set is OFF (R281). -/
def State.window (s : State) (b w : Nat) : Window := Assoc.getD s.windows (32 * b + w) {}

/-- A window's record replaced. -/
def State.setWindow (s : State) (b w : Nat) (x : Window) : State :=
  { s with windows := Assoc.set (32 * b + w) x s.windows }

/-- The fill: (WR − RD) mod 2³² (R281). -/
def Window.fill (x : Window) : Nat := (x.wr - x.rd).toNat

/-- The size in bytes: 2^LOG2SIZE (R281). -/
def Window.size (x : Window) : Nat := 2 ^ x.log2size

/-- MODE codes (R281). -/
def WinMode.code : WinMode → Nat
  | .off => 0 | .ring => 1 | .append => 2

/-- The descriptor, word 0 of a window control block (R281). -/
def Window.descriptor (x : Window) : Nat := packFields [(0, 25, x.base), (25, 5, x.log2size), (30, 2, x.mode.code)]

/-- A window control block as a number (R281). -/
def Window.block (x : Window) : Nat :=
  packFields [(0, 32, x.descriptor), (64, 32, x.wr.toNat), (96, 32, x.rd.toNat), (128, 1, boolNat x.wfull),
    (144, 16, x.fullCnt), (160, 32, x.hwm)]

end Sys2Proof.Machine
end

