-- ==== Sys2Proof/Machine/Queues.lean ====
section
/-!
DEFINITION. Hardware queues and message channels (09, R240–R259), completion records (R206, R207) and the disabling of
queues and engines with work in flight (R226, R227, R253).
-/
namespace Sys2Proof.Machine
open Sys2Proof

/-! ### Notifications and timers (R247, R248) -/

/-- A Hitch operation entering the sync network at a node of this die; on its way to a home on this device or to the
SYNC channel (R263). -/
def State.hitchSend (s : State) (h : Nat) (msg : HitchMsg) (node : Nat) (run : Option RunCmd) (queue : Nat := 0x7FFF) :
    State :=
  let e := s.hitch h
  let f : HitchFlight :=
    { hitch := h, msg := msg, link := none, dev := s.reg Reg.DEV_NUM, node := node, run := run,
      queue := queue
      arrive := cclkOf s.now + (if node = e.homeNode then 4 else 40) }
  if s.isHome h then { s with hitchNet := s.hitchNet ++ [f] } else { s with syncOut := s.syncOut ++ [f] }

/-- A signal by 1 issued at the die root, as queues, sweeps and steps send it (R262). -/
def State.hitchNotify (s : State) (h : Nat) : State :=
  if (s.hitch h).homeLost then s.bump Reg.HOME_LOST else s.hitchSend h (.signal 1) 16 none

/-- QUEUE_NOTIFY: with NTFY_EN, NTFY_HITCH is signalled by 1 (R248). -/
def State.queueNotify (s : State) (b : Queue) : State := if b.ntfyEn then s.hitchNotify b.ntfyHitch else s

/-- The entry node of a queue's commands: sync node c when PROD is sequencer c, else the die root (R263). -/
def State.entryNode (s : State) (q : Nat) : Nat := if (s.queue q).prod < 16 then (s.queue q).prod else 16

/-- A node without a waiter left on a Hitch drops its copy and unsubscribes (R265 step 5). `told` says that the home has just
sent it a COUNT, so that the home holds it as a subscriber. A device that holds copies of a Hitch homed elsewhere unsubscribes
with its last node: RSUBS has one bit per device (DEDUCED). -/
def State.unsubscribe (s : State) (h node : Nat) (told : Bool := false) : State :=
  let e := s.hitch h
  if (s.waitersOn h).any (fun q => s.entryNode q == node) then s
  else
    let had := told || (Assoc.get? node e.copies).isSome
    let e' : Hitch := { e with copies := Assoc.erase node e.copies }
    let s1 := s.setHitch h e'
    if had ∧ (s.isHome h ∨ (s.waitersOn h = [] ∧ e'.copies = [])) then s1.hitchSend h .unsubscribe node none else s1

/-- The stalled head of a queue waits no longer; its node may unsubscribe (R265). -/
def State.leaveWait (s : State) (q : Nat) : State :=
  let b := s.queue q
  match b.waiter with
  | none => s
  | some w => (s.setQueue q { b with waiter := none }).unsubscribe w.hitch (s.entryNode q)

/-- The stale-tail timer restarted, where the queue still holds entries (R247). -/
def Queue.rearm (b : Queue) (now : Nat) : Queue :=
  { b with timerFrom := if b.tmoUs ≠ 0 ∧ b.count ≠ 0 then some now else none, raised := false }

/-! ### Writing entries -/

/-- An entry written at WP and both write pointers advanced; the count may reach the watermark (R244, R248). -/
def State.pushEntry (s : State) (q : Nat) (e : Entry) : State :=
  let b := s.queue q
  let e' := if b.kind = .msgReq ∨ b.kind = .msgRep then entryOfBytes ((entryBytes e).take 31 ++ [1]) else e
  let s1 := s.setBytes (b.entryAddr b.wpA) (entryBytes e')
  let b1 := b.setWp (b.wpA + 1)
  let b2 := { b1 with pushCnt := b1.pushCnt + 1, hwm := max b1.hwm b1.count }
  let b3 := if b.count = 0 then b2.rearm s.now else b2
  let s2 := (s1.setQueue q b3).bump Reg.PUSHES
  if b.wm ≠ 0 ∧ b.count + 1 = b.wm then s2.queueNotify b3 else s2

/-- The status of a master's last push or post, kept for LAST_STATUS (R242). -/
def State.noteStatus (s : State) (m : Master) (q : Nat) (st : Status) : State :=
  { s with lastStatus := Assoc.set (masterCode m) (st.code, q) s.lastStatus }

/-- LAST_STATUS of a master (R242). -/
def State.lastOf (s : State) (m : Master) : Nat × Nat := Assoc.getD s.lastStatus (masterCode m) (0, 0)

/-- A push or post refused FULL (R244 step 4). -/
def State.refuseFull (s : State) (q : Nat) : State :=
  let b := s.queue q
  (s.setQueue q { b with ovr := true, ovrCnt := min (b.ovrCnt + 1) 0xFFFF }).bump Reg.PUSH_FULL

/-! ### Discarding entries (R251) -/

/-- An engine by number; one never used is ENABLED and idle (R226). -/
def State.engine (s : State) (e : Nat) : Engine := Assoc.getD s.engines e {}

/-- An engine's record replaced. -/
def State.setEngine (s : State) (e : Nat) (x : Engine) : State := { s with engines := Assoc.set e x s.engines }

/-- A record lost: counted and recorded with its queue and TAG (R207). -/
def State.recordLost (s : State) (eng : Nat) (run : RunCmd) : State :=
  (s.bump (Reg.CMPL_LOST eng)).logFault
    { cls := .queue, unit := eng, ref := packFields [(0, 15, run.queue), (16, 32, cmdTag run.cmd)] }

/-- MSG_RETURN: a discarded request goes back as a STALE reply on its reservation, or is lost (R251). -/
def State.msgReturn (s : State) (q : Nat) (e : Entry) : State :=
  let rq := bitField (entryField e 16 2) 0 15
  let b := s.queue rq
  let reply := entryOf [(0, 1, entryField e 0 1), (1, 1, 1), (2, 1, Status.stale.code), (4, 2, b.gen.toNat),
    (8, 4, entryField e 8 4), (12, 4, entryField e 12 4), (20, 4, entryField e 20 4), (24, 4, entryField e 24 4)]
  if b.kind = .msgRep ∧ b.qstate ≠ .unbound ∧ b.qstate ≠ .closed ∧ b.gen.toNat = entryField e 18 2 ∧ b.resv ≠ 0 then
    ((s.setQueue rq { b with resv := b.resv - 1 }).pushEntry rq reply).bump Reg.MSG_RETURNED
  else
    (s.bump Reg.MSG_LOST).logGated 0 q s.second { cls := .queue, status := .stale, sub := (s.queue q).kind.code, ref := q }

/-- The requests of the `n` ring entries from pointer `p` returned where VALID is 1, and marked consumed. -/
def State.returnFrom (s : State) (q : Nat) (p : BitVec 17) : Nat → State
  | 0 => s
  | n + 1 =>
    let b := s.queue q
    let e := s.queueEntry b p
    let s1 := if entryField e 31 1 = 1 then (s.setBytes (b.entryAddr p + 31) [0]).msgReturn q e else s
    s1.returnFrom q (p + 1) n

/-- The time a record was held counted (R207). -/
def State.countHeld (s : State) (eng : Nat) (r : HeldRecord) : State :=
  s.bumpBy (Reg.CMPL_STALL eng) (fclkOf s.now - fclkOf r.since)

/-- The records that engines hold for a completion queue, dropped, counted and recorded (R207, R251). -/
def State.dropHeld (s : State) (q : Nat) : List Nat → State
  | [] => s
  | e :: l =>
    let x := s.engine e
    let mine (r : HeldRecord) : Bool := (s.queue r.run.queue).link == q
    let s1 := s.setEngine e { x with held := x.held.filter fun r => !mine r }
    ((x.held.filter mine).foldl (fun s r => (s.countHeld e r).recordLost e r.run) s1).dropHeld q l

/-- The entries of a queue discarded by kind; `full` scans the whole ring of a MSG_REQ (R246, R251). -/
def State.discard (s : State) (q : Nat) (full : Bool) : State :=
  let b := s.queue q
  match b.kind with
  | .command => s.leaveWait q
  | .completion => (s.setQueue q { b with resets := b.resets + 1 }).dropHeld q [0, 1, 2, 3, 4, 5, 6, 7, 8, 9]
  | .data => s
  | .msgReq => if full then s.returnFrom q 0 b.size else s.returnFrom q b.rpA b.count
  | .msgRep => s.setQueue q { b with resv := 0 }
  | .combining => { s with comb := s.comb.filter fun c => c.queue ≠ q }

/-- RESET: entries discarded, RP := WP, flags cleared, GEN advanced, the timer re-armed (R251). -/
def State.queueReset (s : State) (q : Nat) : State :=
  let s1 := s.discard q false
  let b := s1.queue q
  (s1.setQueue q ({ b.setRp b.wpA with ovr := false, tmo := false, gen := b.gen + 1 }.rearm s.now)).bump Reg.Q_RESETS

/-- The recorded write pointers of a queue's and its engine's snapshots moved to where the queue stands emptied: nothing of the
snapshot is left (R227, R246). -/
def State.resnap (s : State) (q : Nat) (p : BitVec 17) : State :=
  let b := s.queue q
  let x := s.engine b.eng
  (s.setQueue q { b with snap := b.snap.map fun _ => p }).setEngine b.eng
    { x with snap := x.snap.map fun e => if e.1 = q then (q, p) else e }

/-- Whether every command of a snapshot has been taken: RP has reached the recorded write pointer. -/
def snapTaken (b : Queue) (p : BitVec 17) : Bool := b.rpA == p

/-- A queue whose DRAIN or ABORT has run its course, with every record of it written, enters DISABLED (R227, R253). -/
def State.settleQueue (s : State) (q : Nat) : State :=
  let b := s.queue q
  match b.snap with
  | some p =>
    if (b.qstate = .draining ∨ b.qstate = .aborting) ∧ snapTaken b p ∧ b.outstanding = 0 ∧
        !((s.engine b.eng).held.any fun r => r.run.queue == q) then
      s.setQueue q { b with qstate := .disabled, snap := none }
    else s
  | none => s

/-- An engine whose DRAIN or ABORT has run its course enters DISABLED (R227). -/
def State.settleEngine (s : State) (e : Nat) : State :=
  let x := s.engine e
  if (x.st = .draining ∨ x.st = .aborting) ∧ x.running = none ∧ x.held = [] ∧
      x.snap.all (fun p => snapTaken (s.queue p.1) p.2 && (s.queue p.1).outstanding == 0) then
    s.setEngine e { x with st := .disabled, snap := [] }
  else s

/-- POINTER_MISMATCH_RESET: reset as RESET with QSTATE kept, RST set and both pointers at RP_A (R246). The limit of
R259 is read as governing the two entries of R246 (DEDUCED). -/
def State.pointerReset (s : State) (q : Nat) : State :=
  let b0 := s.queue q
  let note (second : Nat) (a b : BitVec 17) : FaultNote :=
    { cls := .queue, status := .stale, unit := q % 256, sub := q / 256 % 128 + 128 * second,
      ref := packFields [(0, 17, a.toNat), (17, 17, b.toNat), (34, 3, b0.kind.code)] }
  let s1 := if s.gated 1 q s.second then s else
    ((s.gate 1 q s.second).logFault (note 0 b0.wpA b0.wpB)).logFault (note 1 b0.rpA b0.rpB)
  let s2 := s1.discard q true
  let b := s2.queue q
  let s3 := (s2.setQueue q ({ (b.setRp b0.rpA).setWp b0.rpA with
      ovr := false, tmo := false, rst := true, gen := b.gen + 1 }.rearm s.now)).bump Reg.PMM_RESET
  if b0.kind = .command then ((s3.resnap q b0.rpA).settleQueue q).settleEngine b0.eng else s3

/-! ### Completion records (R206, R207) -/

/-- Whether the completion queue of a command has been closed, or its reader reset since the command started (R207,
R251). -/
def State.recordRefused (s : State) (run : RunCmd) : Bool :=
  let b := s.queue (s.queue run.queue).link
  b.qstate == .closed || b.qstate == .unbound || b.kind != .completion || b.resets != run.cqResets

/-- A completion record put into the command's completion queue, or lost; a sequencer that waits for one goes on (R207, R229,
R246). -/
def State.putRecord (s : State) (eng : Nat) (run : RunCmd) (e : Entry) : State :=
  let cq := (s.queue run.queue).link
  if s.recordRefused run then s.recordLost eng run
  else if (s.queue cq).mismatch then (s.pointerReset cq).recordLost eng run
  else (s.pushEntry cq e).wakeSeq (s.queue cq).cons

/-- A completion record written to the command's completion queue, held where that is full or an earlier record of the queue is
held, or lost (R207). -/
def State.writeRecord (s : State) (eng : Nat) (run : RunCmd) (e : Entry) : State :=
  let x := s.engine eng
  if !s.recordRefused run ∧ ((s.queue (s.queue run.queue).link).isFull ∨ x.held.any fun r => r.run.queue == run.queue) then
    s.setEngine eng { x with held := x.held ++ [⟨run, e, s.now⟩] }
  else s.putRecord eng run e

/-! ### Disabling (R226, R227, R253) -/

/-- The counters of a completed command (R239). -/
def State.countDone (s : State) (eng : Nat) (st : Status) : State :=
  let s1 := s.bump (Reg.CMDS_DONE eng)
  match st with
  | .ok | .late | .degraded => s1
  | .aborted => s1.bump (Reg.CMDS_ABORTED eng)
  | _ => s1.bump (Reg.CMDS_FAILED eng)

/-- A GAIT of a firmware queue that completes other than OK: RPDO1's, reported as an EMCY and in the fault log (R369, R370). -/
def State.gaitRefused (s : State) (st : Status) : State :=
  (s.logFault { cls := .other, status := st, source := some 7 }).emcy 0xFF05 st 7 0

/-- A command completed: counted, its record written where CMPL asks for it or the status is not OK (R204, R206), a GAIT of RPDO1
reported, and a disabling that waited for it may end. -/
def State.complete (s : State) (eng : Nat) (run : RunCmd) (st : Status) (aux result ext : Nat) : State :=
  let b := s.queue run.queue
  let s0 := (s.setQueue run.queue { b with outstanding := b.outstanding - 1 }).countDone eng st
  let rpdo : Bool := isFirmwareQueue run.queue && cmdOpcode run.cmd == some .gait && st != .ok
  let s1 := if rpdo then s0.gaitRefused st else s0
  let s2 := if cmdCmpl run.cmd ∨ st ≠ .ok then s1.writeRecord eng run (completionEntry run eng st aux result ext)
    else s1
  (s2.settleQueue run.queue).settleEngine eng

/-- A command taken from the head of a queue: RP advanced, one more command outstanding (R208). -/
def State.takeHead (s : State) (q : Nat) : State :=
  let s1 := s.leaveWait q
  let b := s1.queue q
  let b1 := b.setRp (b.rpA + 1)
  s1.setQueue q { b1.rearm s.now with outstanding := b1.outstanding + 1 }

/-- The head of a queue as a command being run. -/
def State.headRun (s : State) (q : Nat) : RunCmd :=
  { queue := q, cmd := s.head q, started := s.now, cqResets := (s.queue (s.queue q).link).resets }

/-- Whether an engine other than Fabric executes a command of a queue, whose record comes before those of the commands behind it
(R207). -/
def State.executes (s : State) (eng q : Nat) : Bool :=
  eng != 0 && (match (s.engine eng).running with
    | some run => run.queue == q
    | none => false)

/-- Every command from the head up to a recorded write pointer completed ABORTED, unexecuted, once no command of the queue is in
execution; a pointer mismatch met there resets the queue (R207, R227, R246). -/
def State.abortUpTo (s : State) (q eng : Nat) (p : BitVec 17) : Nat → State
  | 0 => s
  | n + 1 =>
    if (s.queue q).rpA = p ∨ s.executes eng q then s
    else if (s.queue q).mismatch then s.pointerReset q
    else ((s.takeHead q).complete eng (s.headRun q) .aborted 0 0 0).abortUpTo q eng p n

/-- ABORT of one queue's snapshot (R227, R253). -/
def State.abortQueue (s : State) (q : Nat) : State :=
  let b := s.queue q
  let p := b.wpA
  ((s.setQueue q { b with qstate := .aborting, snap := some p }).abortUpTo q b.eng p b.count).settleQueue q

/-- The time of a command of an engine counted. The Fabric engine's time is counted once where a STEP overlaps other commands:
up to the start of a STEP that still runs, and from where it is counted (R239). -/
def State.countBusy (s : State) (e from' : Nat) : State :=
  if e ≠ 0 then s.bumpBy (Reg.BUSY_NS e) (s.now - from')
  else
    let f := s.fabric
    let until' := f.runs.foldl (fun m r => min m r.run.started) s.now
    { s with fabric := { f with busyAt := max f.busyAt until' } }.bumpBy (Reg.BUSY_NS 0) (until' - max from' f.busyAt)

/-- What an ABORT of the queue or of its engine has left behind a command in execution completed ABORTED, once that has
completed (R207, R227). -/
def State.abortRest (s : State) (e q : Nat) : State :=
  let b := s.queue q
  let p := if b.qstate = .aborting then b.snap
    else if (s.engine e).st = .aborting then ((s.engine e).snap.find? fun x => x.1 = q).map (·.2) else none
  match p with
  | none => s
  | some p => ((s.abortUpTo q e p b.count).settleQueue q).settleEngine e

/-- The command an engine executes completed, with the time it took (R239). -/
def State.finish (s : State) (e : Nat) (st : Status) (aux result ext : Nat) : State :=
  match (s.engine e).running with
  | none => s
  | some run =>
    let s1 := (s.setEngine e { s.engine e with running := none }).countBusy e run.started
    (s1.complete e run st aux result ext).abortRest e run.queue

/-- Whether an ABORT has taken the command an engine executes: of the engine, or of the command's queue (R227, R253). -/
def State.aborting (s : State) (e : Nat) : Bool :=
  (s.engine e).st == .aborting || (match (s.engine e).running with
    | some run => (s.queue run.queue).qstate == .aborting
    | none => false)

/-- The command an engine executes completed; one that an ABORT has taken completes ABORTED at its safe point (R227). -/
def State.conclude (s : State) (e : Nat) (st : Status) (aux result ext : Nat) : State :=
  s.finish e (if s.aborting e then .aborted else st) aux result ext

/-! ### Port operations (R243–R246) -/

/-- A port operation's failure counted: BAD_FORMAT and VERSION in PORT_BADFMT, SECURITY in PUSH_DENIED, CLOSED in
PUSH_CLOSED, STALE in PUSH_STALE; FULL counts at its own place (R243, R244, R250). -/
def State.countRefusal (s : State) (st : Status) : State :=
  match st with
  | .badFormat | .version => s.bump Reg.PORT_BADFMT
  | .security => s.bump Reg.PUSH_DENIED
  | .closed => s.bump Reg.PUSH_CLOSED
  | .stale => s.bump Reg.PUSH_STALE
  | _ => s

/-- Whether a master may act as a queue's producer: the Bridle always, the Saddle except on Bridle queues, others by
PROD, which is ignored for a COMPLETION queue (R243). -/
def mayProduce (m : Master) (q : Nat) (b : Queue) : Bool :=
  match m with
  | .bridle => true
  | .saddle => !isBridleQueue q
  | _ => b.kind != .completion && permits b.prod m

/-- Whether a master may act as a queue's consumer (R243). -/
def mayConsume (m : Master) (q : Nat) (b : Queue) : Bool :=
  match m with
  | .bridle => true
  | .saddle => !isBridleQueue q
  | _ => permits b.cons m

/-- The checks of R243 on a write operation, in order: SECURITY for the Saddle on a Bridle queue in every state,
BAD_FORMAT for a bad width, alignment or reserved bit, REFUSED while UNBOUND, BAD_FORMAT for an operation the kind
does not offer, SECURITY for a master without the right. -/
def portCheck (m : Master) (q : Nat) (b : Queue) (wellFormed offered permitted : Bool) : Status :=
  if m = .saddle ∧ isBridleQueue q then .security
  else if !wellFormed then .badFormat
  else if b.qstate = .unbound then .refused
  else if !offered then .badFormat
  else if !permitted then .security
  else .ok

/-- The descriptor checks of R250 on a push to a MSG_REQ or MSG_REP queue. -/
def State.descriptorCheck (s : State) (b : Queue) (e : Entry) : Status :=
  let mdv := bitField (entryField e 0 1) 0 4
  let range := s.reg Reg.CFV_RANGE
  let ty := entryField e 1 1
  let rqw := entryField e 16 2
  let rq := s.queue (bitField rqw 0 15)
  let reserved := bitField (entryField e 0 1) 4 4 ≠ 0 ∨ entryField e 3 1 ≠ 0 ∨ entryField e 6 2 ≠ 0 ∨
    bitField rqw 15 1 ≠ 0 ∨ entryField e 28 3 ≠ 0 ∨ entryField e 31 1 ≠ 0
  let wrongType := if b.kind = .msgReq then ty ≠ 0 else ty ≠ 1
  let wrongZero := if ty = 0 then entryField e 2 1 ≠ 0 else 0x10 ≤ entryField e 2 1 ∨ rqw ≠ 0 ∨ entryField e 18 2 ≠ 0
  if mdv < range % 256 ∨ range / 256 < mdv then .version
  else if reserved ∨ wrongType ∨ 0x2000000 < entryField e 8 4 + entryField e 12 4 ∨ wrongZero then .badFormat
  else if entryField e 4 2 ≠ b.gen.toNat then .stale
  else if b.kind = .msgRep then .ok
  else if rq.kind ≠ .msgRep ∨ rq.qstate = .unbound then .badFormat
  else if rq.qstate = .closed then .closed
  else if entryField e 18 2 ≠ rq.gen.toNat then .stale
  else if rq.isFull then .full
  else .ok

/-- The outcome of a push before R244 step 4: the checks of R243, the state, the descriptor. -/
def State.pushCheck (s : State) (m : Master) (q : Nat) (e : Entry) : Status :=
  let b := s.queue q
  let c := portCheck m q b true (b.kind != .combining) (b.kind != .completion && mayProduce m q b)
  if c ≠ .ok then c
  else if b.qstate = .closed then .closed
  else if b.kind = .msgReq ∨ b.kind = .msgRep then s.descriptorCheck b e
  else .ok

/-- PUSH, a push to a bound and accepting queue: R244 steps 4 and 5 with the reservations of R250. -/
def State.pushAccept (s : State) (m : Master) (q : Nat) (e : Entry) : State :=
  let b := s.queue q
  if b.kind = .msgRep ∧ b.resv ≠ 0 then
    (((s.setQueue q { b with resv := b.resv - 1 }).pushEntry q e).noteStatus m q .ok).respond .ok
  else if b.isFull then ((s.refuseFull q).noteStatus m q .full).respond .full
  else if b.kind = .msgReq then
    let rq := bitField (entryField e 16 2) 0 15
    let r := s.queue rq
    (((s.setQueue rq { r with resv := r.resv + 1 }).pushEntry q e).noteStatus m q .ok).respond .ok
  else ((s.pushEntry q e).noteStatus m q .ok).respond .ok

/-- PUSH by a master through the port view (R243, R244, R246, R250). -/
def State.push (s : State) (m : Master) (q : Nat) (e : Entry) : State :=
  let c := s.pushCheck m q e
  if c = .full then ((s.bump Reg.PUSH_FULL).noteStatus m q .full).respond .full
  else if c ≠ .ok then ((s.countRefusal c).noteStatus m q c).respond c
  else if (s.queue q).mismatch then ((s.pointerReset q).noteStatus m q .stale).respond .stale
  else s.pushAccept m q e

/-- VALID of the `n` message descriptors from pointer `p` cleared as they are consumed (R249). -/
def State.clearValid (s : State) (b : Queue) (p : BitVec 17) : Nat → State
  | 0 => s
  | n + 1 => (s.setBytes (b.entryAddr p + 31) [0]).clearValid b (p + 1) n

/-- Whether entry slot `x` is among the oldest `n` of a queue. -/
def amongOldest (b : Queue) (x : BitVec 17) (n : Nat) : Bool := (x - b.rpA).toNat < n

/-- CONSUME: RP advanced by n for 1 ≤ n ≤ count, no entry of a combining queue still open (R243, R245, R256). -/
def State.consume (s : State) (m : Master) (q n : Nat) : State :=
  let b := s.queue q
  let c := portCheck m q b (n < 2 ^ 17) (b.kind != .command) (mayConsume m q b)
  if c ≠ .ok then (s.countRefusal c).respond c
  else if b.mismatch then (s.pointerReset q).respond .stale
  else if n = 0 ∨ b.count < n ∨ s.comb.any (fun x => x.queue = q && amongOldest b x.slot n) then
    (s.bump Reg.CONSUME_REFUSED).respond .refused
  else
    let s1 := if b.kind = .msgReq ∨ b.kind = .msgRep then s.clearValid b b.rpA n else s
    (s1.setQueue q ((b.setRp (b.rpA + BitVec.ofNat 17 n)).rearm s.now)).respond .ok

/-- SEAL: the oldest n entries leave the combining table (R256). -/
def State.seal (s : State) (m : Master) (q n : Nat) : State :=
  let b := s.queue q
  let c := portCheck m q b (n < 2 ^ 17) (b.kind == .combining) (mayConsume m q b)
  if c ≠ .ok then (s.countRefusal c).respond c
  else if b.mismatch then (s.pointerReset q).respond .stale
  else if b.count < n then (s.bump Reg.CONSUME_REFUSED).respond .refused
  else { s with comb := s.comb.filter fun x => !(x.queue = q && amongOldest b x.slot n) }.respond .ok

/-- The clamp of sat32, as a 32-bit word (R255). -/
def sat32 (x : Int) : BitVec 32 := BitVec.ofInt 32 (max (-2147483648) (min 2147483647 x))

/-- POST into an open entry: one lane added in place (R255). -/
def State.postMerge (s : State) (q : Nat) (slot : BitVec 17) (lane : Nat) (v : BitVec 32) : State :=
  let a := (s.queue q).entryAddr slot + 4 * lane
  let sum := (BitVec.ofNat 32 (s.word a 4)).toInt + v.toInt
  let s1 := (s.setWord a 4 (sat32 sum).toNat).bump Reg.CMB_MERGES
  if (sat32 sum).toInt ≠ sum then s1.bump Reg.CMB_SAT else s1

/-- POST that opens an entry for its key; in a full table the entry is born sealed (R255). -/
def State.postNew (s : State) (q key lane : Nat) (v : BitVec 32) : State :=
  let b := s.queue q
  let s1 := s.setWord (b.keyAddr b.wpA) 4 key
  let s2 := if s1.comb.length < 4096 then { s1 with comb := s1.comb ++ [⟨q, key, b.wpA⟩] }
    else (s1.bump Reg.CMB_TABLE_FULL).logGated 2 q s.second { cls := .queue, status := .full, sub := b.kind.code, ref := q }
  s2.pushEntry q (entryOf [(4 * lane, 4, v.toNat)])

/-- POST a combining contribution: KEY in bits 23:0, LANE in 26:24, VALUE in 63:32 (R255). -/
def State.post (s : State) (m : Master) (q : Nat) (w : BitVec 64) : State :=
  let b := s.queue q
  let key := bitField w.toNat 0 24
  let lane := bitField w.toNat 24 3
  let v := BitVec.ofNat 32 (bitField w.toNat 32 32)
  let c := portCheck m q b (bitField w.toNat 27 5 = 0) (b.kind == .combining) (mayProduce m q b)
  let c' := if c = .ok ∧ b.qstate = .closed then .closed else c
  if c' ≠ .ok then ((s.countRefusal c').noteStatus m q c').respond c'
  else if b.mismatch then ((s.pointerReset q).noteStatus m q .stale).respond .stale
  else
    let s0 := s.bump Reg.CMB_POSTS
    match s0.comb.find? fun x => x.queue = q && x.key = key with
    | some x => ((s0.postMerge q x.slot lane v).noteStatus m q .ok).respond .ok
    | none =>
      if b.isFull then ((s0.refuseFull q).noteStatus m q .full).respond .full
      else ((s0.postNew q key lane v).noteStatus m q .ok).respond .ok

/-! ### CTRL and CLEAR (R243, R251, R253) -/

/-- CTRL values (R243). -/
inductive QCtrl where
  | drain | abort | enable | reset | close | open'
  deriving DecidableEq, Repr

/-- A CTRL value of a code (R243). -/
def QCtrl.ofCode (n : Nat) : Option QCtrl :=
  match n with
  | 1 => some .drain | 2 => some .abort | 3 => some .enable | 4 => some .reset | 5 => some .close | 6 => some .open'
  | _ => none

/-- Whether RESET and CLOSE are permitted: a COMMAND queue must be DISABLED; RESET also in CLOSED (R251). -/
def Queue.mayReset (b : Queue) (closedToo : Bool) : Bool :=
  if b.kind = .command then b.qstate == .disabled
  else b.qstate == .enabled || b.qstate == .disabled || (closedToo && b.qstate == .closed)

/-- DRAIN of one command queue (R226, R227, R253). -/
def State.qDrain (s : State) (q : Nat) : State :=
  let b := s.queue q
  match b.qstate with
  | .enabled => ((s.setQueue q { b with qstate := .draining, snap := some b.wpA }).settleQueue q).respond .ok
  | .draining | .disabled => s.respond .ok
  | _ => s.respond .refused

/-- ABORT of one command queue (R226, R227, R253). -/
def State.qAbort (s : State) (q : Nat) : State :=
  match (s.queue q).qstate with
  | .enabled | .draining => (s.abortQueue q).respond .ok
  | .aborting | .disabled => s.respond .ok
  | _ => s.respond .refused

/-- ENABLE of one command queue (R226, R253). -/
def State.qEnable (s : State) (q : Nat) : State :=
  let b := s.queue q
  match b.qstate with
  | .enabled => s.respond .ok
  | .draining | .disabled => (s.setQueue q { b with qstate := .enabled, snap := none }).respond .ok
  | _ => s.respond .refused

/-- RESET (R251). -/
def State.qReset (s : State) (q : Nat) : State :=
  if (s.queue q).mayReset true then (s.queueReset q).respond .ok else s.respond .refused

/-- CLOSE (R251). -/
def State.qClose (s : State) (q : Nat) : State :=
  if (s.queue q).mayReset false then
    let s1 := s.queueReset q
    (s1.setQueue q { s1.queue q with qstate := .closed }).respond .ok
  else s.respond .refused

/-- OPEN (R251); a queue that an error in words 0 or 1 has closed stays closed (R246). -/
def State.qOpen (s : State) (q : Nat) : State :=
  let b := s.queue q
  if b.qstate = .closed ∧ !b.failed then (s.setQueue q { b with qstate := .enabled, gen := b.gen + 1 }).respond .ok
  else s.respond .refused

/-- A CTRL operation applied; DRAIN, ABORT and ENABLE are for COMMAND queues (R251, R253). -/
def State.ctrlApply (s : State) (q : Nat) (v : QCtrl) : State :=
  match v with
  | .drain => if (s.queue q).kind = .command then s.qDrain q else s.respond .refused
  | .abort => if (s.queue q).kind = .command then s.qAbort q else s.respond .refused
  | .enable => if (s.queue q).kind = .command then s.qEnable q else s.respond .refused
  | .reset => s.qReset q
  | .close => s.qClose q
  | .open' => s.qOpen q

/-- CTRL by a master: 1–3 PROD or management, 4–6 CONS or management (R243). A mismatch met is reset first and the
operation fails with STALE (R246). -/
def State.ctrl (s : State) (m : Master) (q : Nat) (v : QCtrl) : State :=
  let b := s.queue q
  let may := match v with
    | .drain | .abort | .enable => mayProduce m q b
    | .reset | .close | .open' => mayConsume m q b
  let c := portCheck m q b true true may
  if c ≠ .ok then (s.countRefusal c).respond c
  else if b.mismatch then (s.pointerReset q).respond .stale
  else s.ctrlApply q v

/-- CLEAR: bit 0 OVR, bit 1 TMO, bit 2 RST; other bits are reserved (R243). -/
def State.queueClear (s : State) (m : Master) (q : Nat) (v : BitVec 32) : State :=
  let b := s.queue q
  let c := portCheck m q b (v.toNat < 8) true (mayConsume m q b)
  if c ≠ .ok then (s.countRefusal c).respond c
  else if b.mismatch then (s.pointerReset q).respond .stale
  else
    (s.setQueue q { b with ovr := b.ovr && !v.getLsbD 0, tmo := b.tmo && !v.getLsbD 1,
                           rst := b.rst && !v.getLsbD 2 }).respond .ok

/-- A QPOLICY write: word 1 of the block of QSEL (R242, R258). -/
def State.qpolicy (s : State) (v : BitVec 64) : Status × State :=
  let q := s.reg Reg.QSEL
  let b := s.queue q
  let n := v.toNat
  if isBridleQueue q then (.security, s)
  else if b.qstate = .unbound ∨ 1000000 < bitField n 0 20 ∨ b.size < bitField n 35 17 ∨ bitField n 52 12 ≠ 0 then
    (.badFormat, s)
  else
    (.ok, s.setQueue q ({ b with tmoUs := bitField n 0 20, ntfyEn := natBit n 20, ntfyHitch := bitField n 21 14,
                                 wm := bitField n 35 17 }.rearm s.now))

/-- What the error code of queue-state SRAM finds as an operation reads a control block: an uncorrectable error in
words 2–4 counts as a pointer mismatch, one in words 0 or 1 closes the queue until it is bound again and is recorded (R246). -/
def State.queueSoft (s : State) (q : Nat) (x : QueueSoft) : State :=
  let b := s.queue q
  match x with
  | .clean => s
  | .pointers => s.setQueue q { b with wpB := b.wpA }
  | .binding => (s.setQueue q { b with qstate := .closed, failed := true }).logFault { cls := .queue, status := .eccUncorr, ref := q }

/-! ### The rows -/

/-- PUSH (R244). -/
def execPush (m : Master) (q : QueueId) (e : Entry) (x : QueueSoft) (s : State) : Host.Outcome State Fault Refusal :=
  .next ((s.queueSoft q.val x).push m q.val e)

/-- CONSUME (R243). -/
def execConsume (m : Master) (q : QueueId) (n : BitVec 32) (x : QueueSoft) (s : State) :
    Host.Outcome State Fault Refusal :=
  .next ((s.queueSoft q.val x).consume m q.val n.toNat)

/-- SEAL (R256). -/
def execCqSeal (m : Master) (q : QueueId) (n : BitVec 32) (x : QueueSoft) (s : State) : Host.Outcome State Fault Refusal :=
  .next ((s.queueSoft q.val x).seal m q.val n.toNat)

/-- POST (R255). -/
def execPost (m : Master) (q : QueueId) (w : BitVec 64) (x : QueueSoft) (s : State) :
    Host.Outcome State Fault Refusal :=
  .next ((s.queueSoft q.val x).post m q.val w)

/-- Q_DRAIN (R253). -/
def execQDrain (m : Master) (q : QueueId) (x : QueueSoft) (s : State) : Host.Outcome State Fault Refusal :=
  .next ((s.queueSoft q.val x).ctrl m q.val .drain)

/-- Q_ABORT (R253). -/
def execQAbort (m : Master) (q : QueueId) (x : QueueSoft) (s : State) : Host.Outcome State Fault Refusal :=
  .next ((s.queueSoft q.val x).ctrl m q.val .abort)

/-- Q_ENABLE (R253). -/
def execQEnable (m : Master) (q : QueueId) (x : QueueSoft) (s : State) : Host.Outcome State Fault Refusal :=
  .next ((s.queueSoft q.val x).ctrl m q.val .enable)

/-- Q_RESET (R251). -/
def execQReset (m : Master) (q : QueueId) (x : QueueSoft) (s : State) : Host.Outcome State Fault Refusal :=
  .next ((s.queueSoft q.val x).ctrl m q.val .reset)

/-- Q_CLOSE (R251). -/
def execQClose (m : Master) (q : QueueId) (x : QueueSoft) (s : State) : Host.Outcome State Fault Refusal :=
  .next ((s.queueSoft q.val x).ctrl m q.val .close)

/-- Q_OPEN (R251). -/
def execQOpen (m : Master) (q : QueueId) (x : QueueSoft) (s : State) : Host.Outcome State Fault Refusal :=
  .next ((s.queueSoft q.val x).ctrl m q.val .open')

/-- Q_CLEAR (R243). -/
def execQClear (m : Master) (q : QueueId) (v : BitVec 32) (x : QueueSoft) (s : State) : Host.Outcome State Fault Refusal :=
  .next ((s.queueSoft q.val x).queueClear m q.val v)

/-- STALE_TAIL: the timer of a queue with a non-zero count runs out, once per stall (R247). -/
def execStaleTail (q : QueueId) (s : State) : Host.Outcome State Fault Refusal :=
  let b := s.queue q.val
  match b.timerFrom with
  | none => .next s
  | some t =>
    if b.tmoUs = 0 ∨ b.count = 0 ∨ b.raised ∨ s.now < t + 1000 * b.tmoUs then .next s
    else
      let b1 := { b with tmo := true, tmoCnt := min (b.tmoCnt + 1) 0xFFFF, raised := true }
      .next (((s.setQueue q.val b1).bump Reg.TMO_RAISED).queueNotify b1)

end Sys2Proof.Machine
end

