-- ==== Sys2Proof/Machine/Hitches.lean ====
section
/-!
DEFINITION. Hitches (10, R260–R272): operations applied at a home, waiting and barriers, subscriptions and updates,
lost homes, and the five Hitch opcodes and NOP at a queue's head (R208, R209, R262).
-/
namespace Sys2Proof.Machine
open Sys2Proof

/-! ### Nodes and waiters -/

/-- COUNT as held at a node: the value at the home, the copy elsewhere, none without a copy (R260, R265). -/
def State.nodeCount (s : State) (h node : Nat) : Option Nat :=
  if s.isHome h ∧ node = (s.hitch h).homeNode then some (s.hitch h).count else Assoc.get? node (s.hitch h).copies

/-- A stalled head released with a status: it is taken from its queue and completed, and a stall that ends OK counts in
WAITS_SATISFIED and WAIT_MAX_US (R265, R272). -/
def State.freeWaiter (s : State) (q : Nat) (st : Status) : State :=
  match (s.queue q).waiter with
  | none => s
  | some w =>
    if (s.queue q).mismatch then s.pointerReset q
    else
    let run := s.headRun q
    let s1 := if st = .ok then (s.bump Reg.WAITS_SATISFIED).peak Reg.WAIT_MAX_US ((s.now - w.since) / 1000) else s
    (s1.takeHead q).complete (s.queue q).eng run st 0 0 0

/-- The stalled heads of a list of queues that satisfy `p` released. -/
def State.freeWhere (s : State) (p : Waiter → Nat → Bool) (st : Status) : List Nat → State
  | [] => s
  | q :: l =>
    match (s.queue q).waiter with
    | some w => if p w q then (s.freeWaiter q st).freeWhere p st l else s.freeWhere p st l
    | none => s.freeWhere p st l

/-- A node re-evaluates its HITCH_WAIT heads on a Hitch against the COUNT it holds (R265 step 4). -/
def State.evaluate (s : State) (h node : Nat) : State :=
  match s.nodeCount h node with
  | none => s
  | some c =>
    let s1 := s.freeWhere (fun w q => w.hitch == h && !w.barrier && w.value ≤ c && s.entryNode q == node) .ok
      (s.waitersOn h)
    s1.unsubscribe h node

/-- The BARRIER heads of a node that a release or a cancellation frees: those whose arrival the home had applied before
it. Of a Hitch homed elsewhere, the home has told so before the release (R265). -/
def State.freeBarrier (s : State) (h node releases : Nat) (st : Status) : State :=
  let before (w : Waiter) : Bool := match w.arrived with
    | some r => r < releases || !s.isHome h
    | none => false
  (s.freeWhere (fun w q => w.hitch == h && w.barrier && before w && s.entryNode q == node) st
    (s.waitersOn h)).unsubscribe h node

/-! ### At the home (R262, R264, R265) -/

/-- A change at the home sent to every subscriber of the die and to every device that holds a copy (R265 step 3). -/
def State.hitchPublish (s : State) (h : Nat) (msg : HitchMsg) : State :=
  let e := s.hitch h
  let own := s.reg Reg.DEV_NUM
  let local' : List HitchFlight := e.lsubs.map fun n =>
    { hitch := h, msg := msg, link := none, dev := own, node := n, run := none,
      arrive := cclkOf s.now + (if n = e.homeNode then 4 else 40) }
  let remote : List HitchFlight := e.rsubs.map fun d =>
    { hitch := h, msg := msg, link := none, dev := d, node := 16, run := none, arrive := cclkOf s.now }
  { s with hitchNet := s.hitchNet ++ local', syncOut := s.syncOut ++ remote }

/-- A barrier released: BARN is subtracted, the barrier disarmed and the heads before it freed (R265). -/
def State.barrierRelease (s : State) (h : Nat) : State :=
  let e := s.hitch h
  let s1 := s.setHitch h { e with count := e.count - e.barn, target := 0, barn := 0, releases := e.releases + 1 }
  let s2 := (s1.bump Reg.BARRIERS_RELEASED).hitchPublish h (.release (e.count - e.barn) (e.releases + 1))
  s2.freeBarrier h e.homeNode (e.releases + 1) .ok

/-- COUNT changed to a value: the barrier opens where the sum reaches TARGET, else the change is published; the home
node's own waiters are re-evaluated at once (R265). -/
def State.hitchChanged (s : State) (h : Nat) : State :=
  let e := s.hitch h
  let s1 := if e.target ≠ 0 ∧ e.target ≤ e.count then s.barrierRelease h else s.hitchPublish h (.update e.count)
  s1.evaluate h e.homeNode

/-- COUNT plus a signed value, saturating at 0 and 0xFFFF_FFFF (R262). -/
def satCount (c : Nat) (v : BitVec 32) : Nat := (max 0 (min 0xFFFFFFFF ((c : Int) + v.toInt))).toNat

/-- HITCH_SIGNAL at the home (R262). -/
def State.applySignal (s : State) (h v : Nat) : State :=
  let e := s.hitch h
  let c := satCount e.count (BitVec.ofNat 32 v)
  let s1 := if (c : Int) ≠ (e.count : Int) + (BitVec.ofNat 32 v).toInt then s.bump Reg.HITCH_SAT else s
  (s1.setHitch h { e with count := c }).hitchChanged h

/-- HITCH_SET at the home: COUNT is written and an armed barrier cancelled, its waiters completing with REFUSED
(R262, R265). -/
def State.applySet (s : State) (h v : Nat) : State :=
  let e := s.hitch h
  let s1 := s.setHitch h { e with count := v, target := 0, barn := 0,
                                  releases := if e.target = 0 then e.releases else e.releases + 1 }
  if e.target = 0 then s1.hitchChanged h
  else
    let s2 := ((s1.bump Reg.BAR_CANCEL).logGated 3 h (s.reg Reg.STEP_RELEASED) { cls := .hitch, ref := h })
    let s3 := (s2.hitchPublish h (.refuse v (e.releases + 1))).freeBarrier h e.homeNode (e.releases + 1) .refused
    s3.evaluate h e.homeNode

/-- The waiter at a queue's head marked as one whose arrival the home has applied, after `releases` releases (R265). -/
def State.noteArrival (s : State) (h q releases : Nat) : State :=
  let b := s.queue q
  match b.waiter with
  | none => s
  | some w =>
    if w.hitch = h ∧ w.barrier then s.setQueue q { b with waiter := some { w with arrived := some releases } } else s

/-- The device that issued a barrier arrival told that the home has applied it: an UPDATE that names the head's queue and
holds COUNT as it then stands, sent before the release that the arrival may cause. The fields are those of R338; that a home
sends it is the model's reading of R265, by which a release frees the heads that arrived before it (DEDUCED, log entry 102). -/
def State.answerArrival (s : State) (f : HitchFlight) (count : Nat) : State :=
  { s with syncOut := s.syncOut ++ [{ f with msg := .update count, link := none, run := none, arrive := cclkOf s.now }] }

/-- The barrier rule at the home for an arrival with operand N (R265). -/
def State.applyBarrier (s : State) (f : HitchFlight) (n : Nat) : State :=
  let h := f.hitch
  let e := s.hitch h
  let c := min (e.count + 1) 0xFFFFFFFF
  let target := if e.target = 0 then min (c - 1 + n) 0xFFFFFFFF else e.target
  let barn := if e.target = 0 then n else e.barn
  let s0 := if e.count = 0xFFFFFFFF then s.bump Reg.HITCH_SAT else s
  let s1 := if f.dev = s.reg Reg.DEV_NUM then s0.noteArrival h f.queue e.releases
    else s0.answerArrival f (if target ≤ c then c - barn else c)
  if e.target = 0 then
    let s2 := if 0xFFFFFFFF < c - 1 + n then s1.bump Reg.HITCH_SAT else s1
    (s2.setHitch h { e with count := c, target := target, barn := barn }).hitchChanged h
  else
    let s2 := if n ≠ e.barn then
        (s1.bump Reg.BAR_MISMATCH).logGated 4 h (s.reg Reg.STEP_RELEASED) { cls := .hitch, ref := h }
      else s1
    (s2.setHitch h { e with count := c }).hitchChanged h

/-- The command that issued an operation completes once the home has applied it; a device that issued it is answered
(R262). -/
def State.hitchAnswer (s : State) (f : HitchFlight) (msg : HitchMsg) (st : Status) : State :=
  match f.run with
  | some run => s.complete (s.queue run.queue).eng run st 0 0 0
  | none =>
    if f.dev = s.reg Reg.DEV_NUM then s
    else { s with syncOut := s.syncOut ++ [{ f with msg := msg, link := none, arrive := cclkOf s.now }] }

/-- A Hitch operation applied at its home on this device (R262, R264). -/
def State.hitchApply (s : State) (f : HitchFlight) : State :=
  let e := s.hitch f.hitch
  let s1 := (s.setHitch f.hitch { e with ops := (e.ops + 1) % 2 ^ 32 }).bump Reg.HITCH_OPS
  match f.msg with
  | .signal v =>
    let s2 := s1.applySignal f.hitch v
    s2.hitchAnswer f (.update (s2.hitch f.hitch).count) .ok
  | .set v =>
    let s2 := s1.applySet f.hitch v
    s2.hitchAnswer f (.update (s2.hitch f.hitch).count) .ok
  | .barrier n => s1.applyBarrier f n
  | _ => s

/-- Whether a message is an operation, a subscription or news from a home. -/
def HitchMsg.isOp : HitchMsg → Bool
  | .signal _ | .set _ | .barrier _ => true
  | _ => false
def HitchMsg.isSubscription : HitchMsg → Bool
  | .subscribe | .unsubscribe => true
  | _ => false
def HitchMsg.isNews : HitchMsg → Bool
  | .update _ | .release _ _ | .refuse _ _ => true
  | _ => false

/-- The order of R264 among operations that reach one Hitch in the same cycle: the home's own node, nodes ascending,
then links ascending. -/
def hitchRank (homeNode : Nat) (f : HitchFlight) : Nat :=
  match f.link with
  | some l => 100 + l.val
  | none => if f.node = homeNode then 0 else 1 + f.node

/-- The flight that comes first among those that satisfy `p`: the earliest cycle, then the order of R264. -/
def firstFlight (homeNode : Nat) (p : HitchFlight → Bool) (l : List HitchFlight) : Option HitchFlight :=
  l.foldl (fun best f =>
    if !p f then best
    else match best with
      | none => some f
      | some b =>
        if f.arrive < b.arrive ∨ (f.arrive = b.arrive ∧ hitchRank homeNode f < hitchRank homeNode b) then some f
        else best) none

/-- The operation that a home applies next: none overtakes a subscription that its entry node sent before it (R263, R265). -/
def State.nextOp (s : State) (h : Nat) : Option HitchFlight :=
  let mine := s.hitchNet.filter fun f => f.hitch == h
  let follows (f : HitchFlight) : Bool :=
    (mine.takeWhile (· != f)).any fun g => g.msg.isSubscription && g.dev == f.dev && g.node == f.node
  firstFlight (s.hitch h).homeNode (fun f => f.msg.isOp && !follows f) mine

/-- A flight taken out of the network. -/
def State.dropFlight (s : State) (f : HitchFlight) : State := { s with hitchNet := s.hitchNet.erase f }

/-! ### Lost homes (R266) -/

/-- The operations in transit to a lost home refused, each counted (R266). -/
def State.refuseFlights (s : State) : List HitchFlight → State
  | [] => s
  | f :: l =>
    let s1 := s.bump Reg.HOME_LOST
    match f.run with
    | some run => (s1.complete (s1.queue run.queue).eng run .refused 0 0 0).refuseFlights l
    | none => s1.refuseFlights l

/-- The code of a Hitch message in the payload of a flit, its Hitch, its source device and its queue (R338). -/
def hitchFields (b : List Byte) : Nat × Nat × Nat × Nat :=
  (leNat ((b.drop 1).take 1), leNat ((b.drop 8).take 2), leNat ((b.drop 16).take 1), leNat ((b.drop 18).take 2))

/-- Whether the payload of a HITCH message is an operation that this device issued and that no record awaits: a signal of its
own or an arrival at a barrier. One that a record awaits is held in `hitchAwait` (R262). -/
def State.ownUnawaited (s : State) (b : List Byte) : Bool :=
  let x := hitchFields b
  x.1 ≤ 2 && x.2.2.1 == s.reg Reg.DEV_NUM && (x.1 == 2 || x.2.2.2 == 0x7FFF)

/-- What waits on the links for a Hitch taken off them, with the number of operations among it that no record awaits. -/
def State.dropWaiting (s : State) (h : Nat) : Nat × State :=
  let mine (b : List Byte) : Bool := (hitchFields b).2.1 == h
  let gone := s.tether.links.flatMap fun x => x.2.hitch.filter mine
  ((gone.filter s.ownUnawaited).length,
   { s with tether := { s.tether with
      links := s.tether.links.map fun x => (x.1, { x.2 with hitch := x.2.hitch.filter fun b => !mine b }) } })

/-- HOME_LOST: a Hitch whose home can no longer be reached; operations in transit and waiters complete with REFUSED, each
counted (R266). -/
def State.loseHome (s : State) (h : Nat) : State :=
  let e := s.hitch h
  if e.homeLost then s
  else
    let mine (f : HitchFlight) : Bool := f.hitch == h
    let ops := (s.hitchNet ++ s.syncOut ++ s.hitchAwait).filter fun f => mine f && f.msg.isOp
    let s1 : State := { s with hitchNet := s.hitchNet.filter fun f => !mine f
                               syncOut := s.syncOut.filter fun f => !mine f
                               hitchAwait := s.hitchAwait.filter fun f => !mine f }
    let s2 := (s1.setHitch h { e with homeLost := true }).logFault
      { cls := .hitch, sev := some .degraded, status := .refused, ref := h }
    let w := s2.dropWaiting h
    let s3 := (w.2.bumpBy Reg.HOME_LOST w.1).refuseFlights ops
    let ws := s3.waitersOn h
    (s3.bumpBy Reg.HOME_LOST ws.length).freeWhere (fun w _ => w.hitch == h) .refused ws

/-- Every Hitch of a list whose home is lost. -/
def State.loseHomes (s : State) : List Nat → State
  | [] => s
  | h :: l => (s.loseHome h).loseHomes l

/-- The system Hitches homed on a device (R266). -/
def State.hitchesHomedOn (s : State) (dev : Nat) : List Nat :=
  s.hitches.filterMap fun e => if e.2.scope = .system ∧ s.homeDev e.2 = dev then some e.1 else none

/-! ### The common opcodes at a queue's head (R208, R209, R262) -/

/-- Whether the engine of a queue lets its heads run: ENABLED, or DRAINING with the head inside the snapshot (R208,
R227). -/
def State.engineServes (s : State) (q : Nat) : Bool :=
  let b := s.queue q
  let x := s.engine b.eng
  match x.st with
  | .enabled => true
  | .draining => x.snap.any fun p => p.1 == q && !snapTaken b p.2
  | _ => false

/-- Whether a queue lets its head run: ENABLED, or DRAINING with the head inside the snapshot (R208, R253). -/
def Queue.serves (b : Queue) : Bool :=
  match b.qstate with
  | .enabled => true
  | .draining => match b.snap with
    | some p => !snapTaken b p
    | none => false
  | _ => false

/-- A command queue whose head may start: it holds one, nothing disables it, no record of it is held, its FENCE is met
and it is not already a stalled waiter (R208). -/
def State.headReady (s : State) (q : Nat) : Bool :=
  let b := s.queue q
  b.kind == .command && b.qstate != .unbound && b.count != 0 && b.serves && s.engineServes q && b.waiter == none &&
    !((s.engine b.eng).held.any fun r => r.run.queue == q) && (!cmdFence (s.head q) || b.outstanding == 0)

/-- Whether the head of a queue may run and is the given opcode. -/
def State.headIs (s : State) (q : Nat) (o : Opcode) : Bool := s.headReady q && cmdOpcode (s.head q) == some o

/-- A common opcode executed by the queue front end at the head; a pointer mismatch met there resets the queue (R208, R246). -/
def State.frontEnd (s : State) (q : Nat) (o : Opcode) (f : State → State) : State :=
  if s.headIs q o then (if (s.queue q).mismatch then s.pointerReset q else f s) else s

/-- CFV outside the command format range of 0x2010 (R205). -/
def State.badVersion (s : State) (e : Entry) : Bool :=
  let r := s.reg Reg.CFV_RANGE
  cmdCfv e < r % 256 || r / 256 < cmdCfv e

/-- The checks on a Hitch operation: CFV (R205), then the Hitch number, the operand N of a barrier and the reserved
operand bytes (R262). -/
def State.hitchCheck (s : State) (e : Entry) (barrier : Bool) : Status :=
  let n := entryField e 12 4
  if s.badVersion e then .version
  else if 16384 ≤ entryField e 8 2 ∨ (barrier ∧ (n = 0 ∨ 65535 < n)) ∨ entryField e 10 2 ≠ 0 ∨ entryField e 16 16 ≠ 0
    then .badFormat
  else .ok

/-- A head that the queue front end completes at once. -/
def State.completeHead (s : State) (q : Nat) (st : Status) (result : Nat) : State :=
  (s.takeHead q).complete (s.queue q).eng (s.headRun q) st 0 result 0

/-- A head whose Hitch has an unreachable home (R266). -/
def State.refuseHead (s : State) (q : Nat) : State := (s.completeHead q .refused 0).bump Reg.HOME_LOST

/-- A signal or set issued by a queue's head: it continues under R208, its record waits for the home (R262). -/
def State.issueHead (s : State) (q : Nat) (msg : HitchMsg) : State :=
  let e := s.head q
  let c := s.hitchCheck e false
  let h := entryField e 8 2
  if c ≠ .ok then s.completeHead q c 0
  else if (s.hitch h).homeLost then s.refuseHead q
  else (s.takeHead q).hitchSend h msg (s.entryNode q) (some (s.headRun q)) q

/-- A head registered as a waiter (R265 steps 1 and 2): a node without a copy subscribes at the home. -/
def State.registerHead (s : State) (q h value : Nat) (barrier : Bool) : State :=
  let node := s.entryNode q
  let b := s.queue q
  let s1 := s.setQueue q { b with waiter := some { hitch := h, barrier := barrier, value := value, since := s.now } }
  match s1.nodeCount h node with
  | some _ => s1
  | none => s1.hitchSend h .subscribe node none

/-- NOP (R209). -/
def execNop (q : QueueId) (s : State) : Host.Outcome State Fault Refusal :=
  .next (s.frontEnd q.val .nop fun s => s.completeHead q.val (if s.badVersion (s.head q.val) then .version else .ok) 0)

/-- HITCH_SIGNAL (R262). -/
def execHitchSignal (q : QueueId) (s : State) : Host.Outcome State Fault Refusal :=
  .next (s.frontEnd q.val .hitchSignal fun s => s.issueHead q.val (.signal (entryField (s.head q.val) 12 4)))

/-- HITCH_SET (R262). -/
def execHitchSet (q : QueueId) (s : State) : Host.Outcome State Fault Refusal :=
  .next (s.frontEnd q.val .hitchSet fun s => s.issueHead q.val (.set (entryField (s.head q.val) 12 4)))

/-- HITCH_WAIT (R262, R265): the head stalls until the entry node's COUNT is at least VALUE. -/
def execHitchWait (q : QueueId) (s : State) : Host.Outcome State Fault Refusal :=
  .next (s.frontEnd q.val .hitchWait fun s =>
    let e := s.head q.val
    let h := entryField e 8 2
    let c := s.hitchCheck e false
    if c ≠ .ok then s.completeHead q.val c 0
    else if (s.hitch h).homeLost then s.refuseHead q.val
    else (s.registerHead q.val h (entryField e 12 4) false).evaluate h (s.entryNode q.val))

/-- HITCH_BARRIER (R262, R265): the head stalls until the barrier releases it. -/
def execHitchBarrier (q : QueueId) (s : State) : Host.Outcome State Fault Refusal :=
  .next (s.frontEnd q.val .hitchBarrier fun s =>
    let e := s.head q.val
    let h := entryField e 8 2
    let n := entryField e 12 4
    let c := s.hitchCheck e true
    if c ≠ .ok then s.completeHead q.val c 0
    else if (s.hitch h).homeLost then s.refuseHead q.val
    else (s.registerHead q.val h n true).hitchSend h (.barrier n) (s.entryNode q.val) none q.val)

/-! ### HITCH_DUMP (R269) -/

/-- The waiter record of a stalled head (R269). -/
def State.waiterRecord (s : State) (q : Nat) (w : Waiter) : List Byte :=
  leBytes 32 (packFields [(0, 16, q), (16, 8, if w.barrier then 0x04 else 0x02), (32, 16, w.hitch), (64, 32, w.value),
    (96, 32, cmdTag (s.head q)), (128, 32, min ((s.now - w.since) / 1000) 0xFFFFFFFF),
    (160, 32, (s.nodeCount w.hitch (s.entryNode q)).getD 0)])

/-- The waiter records of this device in ascending queue order (R269). -/
def State.waiterRecords (s : State) : List (List Byte) :=
  s.queues.filterMap fun e => e.2.waiter.map fun w => s.waiterRecord e.1 w

/-- The Hitch entries as a dump holds them (R269). -/
def State.hitchBytes (s : State) : List Byte := (List.range 16384).flatMap fun h => leBytes 32 (s.hitchEntry h)

/-- The 64-byte header of a dump (R269). -/
def State.dumpHeader (s : State) (nwait : Nat) : List Byte :=
  leBytes 64 (packFields [(0, 32, 0x44484C46), (32, 16, 1), (64, 64, s.reg Reg.STEP_COMPLETE), (128, 32, 16384),
    (160, 32, nwait), (192, 32, 64 + 32 * 16384 + 32 * nwait), (224, 8, s.reg Reg.DEV_NUM)])

/-- Whether a queue may reach the Commons firmware area (R278). -/
def mayReachFirmware (q : Nat) : Bool := isFirmwareQueue q

/-- The checks on HITCH_DUMP: CFV, DST aligned to 64 B with its extent in Commons, and the firmware area (R205,
R269). -/
def State.dumpCheck (s : State) (q : Nat) (e : Entry) : Status :=
  let dst := entryField e 8 4
  let len := entryField e 12 4
  if s.badVersion e then .version
  else if dst % 64 ≠ 0 ∨ commonsSize < dst + len then .badFormat
  else if firmwareArea < dst + len ∧ !mayReachFirmware q then .security
  else .ok

/-- The lines of a dump's extent in the firmware area refused: counted, and recorded with the engine of its queue (R278,
R491). -/
def State.denyDump (s : State) (q dst len : Nat) : State :=
  let a := max dst firmwareArea
  (s.bumpBy Reg.FW_AREA_DENIED ((dst + len - a + 63) / 64)).logFault
    { cls := .security, status := .security, sev := some .info, unit := 0x20 + (s.queue q).eng, ref := a }

/-- HITCH_DUMP (R269). -/
def execHitchDump (q : QueueId) (s : State) : Host.Outcome State Fault Refusal :=
  .next (s.frontEnd q.val .hitchDump fun s =>
    let e := s.head q.val
    let dst := entryField e 8 4
    let len := entryField e 12 4
    let recs := s.waiterRecords
    let total := 64 + 32 * 16384 + 32 * recs.length
    let c := s.dumpCheck q.val e
    let s1 := s.bump Reg.DUMPS
    if c = .security then (s.denyDump q.val dst len).completeHead q.val c 0
    else if c ≠ .ok then s.completeHead q.val c 0
    else if len < 64 then s1.completeHead q.val .full 0
    else if len < total then (s1.setBytes dst (s.dumpHeader recs.length)).completeHead q.val .full 64
    else (s1.setBytes dst (s.dumpHeader recs.length ++ s.hitchBytes ++ recs.flatten)).completeHead q.val .ok total)

/-! ### The sync network's rows -/

/-- HITCH_OP_APPLY: the home applies the operation that reaches it next (R264). An uncorrectable error of the entry
completes every waiter with ECC_UNCORR and puts COUNT and TARGET back to the load snapshot (R458). -/
def execHitchOpApply (h : HitchId) (ecc : Ecc) (s : State) : Host.Outcome State Fault Refusal :=
  let e := s.hitch h.val
  match s.nextOp h.val with
  | none => .next s
  | some f =>
    let s1 := s.dropFlight f
    if ecc = .uncorrectable then
      let s2 := (s1.setHitch h.val { e with count := e.snapCount, target := e.snapTarget }).bump Reg.HTAB_ECC
      .next ((s2.freeWhere (fun w _ => w.hitch == h.val) .eccUncorr (s2.waitersOn h.val)).hitchApply f)
    else .next (s1.hitchApply f)

/-- HITCH_SUBSCRIBE: a subscription reaches the home, which sets the node's bit and answers with COUNT; an
unsubscription clears it (R265). -/
def execHitchSubscribe (h : HitchId) (s : State) : Host.Outcome State Fault Refusal :=
  let e := s.hitch h.val
  let own := s.reg Reg.DEV_NUM
  match firstFlight e.homeNode (fun f => f.hitch == h.val && f.msg.isSubscription) s.hitchNet with
  | none => .next s
  | some f =>
    let s1 := s.dropFlight f
    let reply : HitchFlight := { f with msg := .update e.count, link := none, arrive := cclkOf s.now + 40 }
    match f.msg with
    | .subscribe =>
      if f.dev = own then
        .next { s1.setHitch h.val { e with lsubs := e.lsubs.filter (· ≠ f.node) ++ [f.node] } with
                hitchNet := s1.hitchNet ++ [reply] }
      else
        .next { s1.setHitch h.val { e with rsubs := e.rsubs.filter (· ≠ f.dev) ++ [f.dev] } with
                syncOut := s1.syncOut ++ [reply] }
    | _ =>
      if f.dev = own then .next (s1.setHitch h.val { e with lsubs := e.lsubs.filter (· ≠ f.node) })
      else .next (s1.setHitch h.val { e with rsubs := e.rsubs.filter (· ≠ f.dev) })

/-- A COUNT received by a node: kept as its copy and its waiters re-evaluated, or, with none left, its subscription ended; the
entry of a Hitch homed elsewhere shows it (R260, R265). `told` says that it comes by subscription. -/
def State.hitchCopy (s : State) (h node count : Nat) (told : Bool) : State :=
  let e := s.hitch h
  let e' : Hitch := if s.isHome h then e else { e with count := count }
  if (s.waitersOn h).any (fun q => s.entryNode q == node) then
    (s.setHitch h { e' with copies := Assoc.set node count e'.copies }).evaluate h node
  else (s.setHitch h e').unsubscribe h node told

/-- The command on this device whose operation a home elsewhere has answered completes (R262). -/
def State.hitchAcknowledge (s : State) (h q : Nat) (st : Status) : State :=
  match s.hitchAwait.find? fun f => f.hitch == h && f.queue == q with
  | none => s
  | some f =>
    let s1 := { s with hitchAwait := s.hitchAwait.erase f }
    match f.run with
    | some run => s1.complete (s1.queue run.queue).eng run st 0 0 0
    | none => s1

/-- HITCH_UPDATE: a subscriber receives the next change or release from the home (R265). -/
def execHitchUpdate (h : HitchId) (node : Fin 17) (s : State) : Host.Outcome State Fault Refusal :=
  let own := s.reg Reg.DEV_NUM
  match s.hitchNet.find? fun f => f.hitch == h.val && f.msg.isNews && f.node == node.val && f.dev == own with
  | none => .next s
  | some f =>
    let s1 := s.dropFlight f
    match f.msg with
    | .update c =>
      .next (((s1.hitchAcknowledge h.val f.queue .ok).noteArrival h.val f.queue 0).hitchCopy h.val node.val c
        (f.queue == 0x7FFF))
    | .release c r => .next ((s1.freeBarrier h.val node.val r .ok).hitchCopy h.val node.val c true)
    | .refuse c r =>
      .next (((s1.hitchAcknowledge h.val f.queue .refused).freeBarrier h.val node.val r .refused).hitchCopy
        h.val node.val c (f.queue == 0x7FFF))
    | _ => .next s1

/-- SYNC_NODE_FAIL: three successive operations sent to a sync node from the die root went unanswered for 10 µs; every
Hitch homed there loses its home and the node is recorded (R266). -/
def execSyncNodeFail (node : Fin 16) (s : State) : Host.Outcome State Fault Refusal :=
  let homed := s.hitches.filterMap fun e => if e.2.homeNode = node.val ∧ s.isHome e.1 then some e.1 else none
  let s1 : State := { s with failedNodes := s.failedNodes.filter (· ≠ node.val) ++ [node.val] }
  .next ((s1.logFault { cls := .hitch, sev := some .degraded, status := .timeout, unit := node.val }).loseHomes homed)

end Sys2Proof.Machine
end

