-- ==== Sys2Proof/Machine/Neurons.lean ====
section
/-!
DEFINITION. Neurons, classes and the arithmetic of the update as functions of words and class entries (02, R29–R50),
with the FP32 rounding of PRECISE classes (R46).
-/
namespace Sys2Proof.Machine
open Sys2Proof

/-! ### Rounding (R36) -/

/-- rnd(x, s): x / 2ˢ to nearest, ties away from zero (R36). -/
def rnd (x : Int) (s : Nat) : Int :=
  if s = 0 then x
  else
    let q : Int := ((x.natAbs + 2 ^ (s - 1)) / 2 ^ s : Nat)
    if x < 0 then -q else q

/-- A clamp to a two's-complement range of `w` bits. -/
def satInt (w : Nat) (x : Int) : Int := max (-(2 ^ (w - 1) : Int)) (min (2 ^ (w - 1) - 1) x)

/-- sat20: the range of V (R36). -/
def sat20 (x : Int) : Int := satInt 20 x

/-- The two's-complement value of the low `w` bits of a number. -/
def signedOf (w v : Nat) : Int := (BitVec.ofNat w v).toInt

/-- The low `w` bits of an integer as a number. -/
def unsignedOf (w : Nat) (x : Int) : Nat := (BitVec.ofInt w x).toNat

/-! ### The neuron word (R29) -/

/-- The fields of a neuron word (R29). -/
def Neuron.ofWord (w : Nat) : Neuron :=
  { v := signedOf 20 (bitField w 44 20), tl := bitField w 32 12, xpre := bitField w 24 8, xpost := bitField w 16 8,
    rc := bitField w 12 4, dead := natBit w 11, reinit := natBit w 10, ref := natBit w 9, spk := natBit w 8,
    cls := bitField w 0 8 }

/-- The word of a neuron's fields (R29). -/
def Neuron.toWord (x : Neuron) : Nat :=
  packFields [(44, 20, unsignedOf 20 x.v), (32, 12, x.tl), (24, 8, x.xpre), (16, 8, x.xpost), (12, 4, x.rc),
    (11, 1, boolNat x.dead), (10, 1, boolNat x.reinit), (9, 1, boolNat x.ref), (8, 1, boolNat x.spk), (0, 8, x.cls)]

/-! ### Class entries (R32, R33, R35) -/

/-- M of SCALEp, a signed multiplier (R33). -/
def ClassEntry.mul (c : ClassEntry) (p : Nat) : Int := signedOf 16 (bitField (c.scale.getD p 0) 0 16)
/-- SH of SCALEp, a right shift (R33). -/
def ClassEntry.shift (c : ClassEntry) (p : Nat) : Nat := bitField (c.scale.getD p 0) 16 5
/-- INC_PRE and INC_POST of TRACE_INC (R33). -/
def ClassEntry.incPre (c : ClassEntry) : Nat := bitField c.traceInc 0 8
def ClassEntry.incPost (c : ClassEntry) : Nat := bitField c.traceInc 8 8

/-- Whether a Q8.12 quantity lies within the range of V. -/
def inRangeV (x : Int) : Bool := -524288 ≤ x && x ≤ 524287

/-- The first condition of R35 that a class entry breaks, as the sub-index it concerns; none for a valid entry. Where a
condition relates two fields, the later of the two is the one named: REST ≥ THETA as 02, FLOOR > REST as 03, PRECISE with
SCALE1 as 09, BURST with OUT_MODE as 12 (DESIGN CHOICE: R35 names none). -/
def ClassEntry.invalid (c : ClassEntry) : Option Nat :=
  if c.theta ≤ 0 ∨ !inRangeV c.theta then some 0x01
  else if c.theta ≤ c.rest ∨ !inRangeV c.rest then some 0x02
  else if c.rest < c.floor ∨ !inRangeV c.floor then some 0x03
  else if 1 < c.resetMode then some 0x04
  else if c.decay.length ≠ 64 ∨ c.decay.getD 0 0 ≠ 0 ∨ c.decay.any (fun d => 0x8000 < d) then some 0x05
  else if 1 < c.beyond then some 0x06
  else if 15 < c.refract then some 0x07
  else if bitField (c.scale.getD 0 0) 21 11 ≠ 0 then some 0x08
  else if bitField (c.scale.getD 1 0) 21 11 ≠ 0 ∨ (c.precise ∧ c.scale.getD 1 0 ≠ 0) then some 0x09
  else if bitField (c.scale.getD 2 0) 21 11 ≠ 0 then some 0x0A
  else if bitField (c.scale.getD 3 0) 21 11 ≠ 0 then some 0x0B
  else if 0x8000 < c.tauPre then some 0x0C
  else if 0x8000 < c.tauPost then some 0x0D
  else if !inRangeV c.bias then some 0x0F
  else if 3 < c.outMode then some 0x10
  else if 2 < c.multi ∨ (c.multi = 2 ∧ c.outMode ≠ 0) then some 0x12
  else if !inRangeV c.pfMargin then some 0x14
  else none

/-! ### Lazy leak and traces (R37, R38) -/

/-- One square-and-multiply round of `tracePower` for bit `b` of dt, every product rounded (R38). -/
def powerRound (tau dt : Nat) (f : Int) (b : Nat) : Int :=
  let g := rnd (f * f) 15
  if dt.testBit b then rnd (g * tau) 15 else g

/-- power(τ, dt) in Q1.15, over bits 5 down to 0 of dt (R38). -/
def tracePower (tau dt : Nat) : Int := [5, 4, 3, 2, 1, 0].foldl (powerRound tau dt) 0x8000

/-- Δt of a touch in step n: (n − TL) mod 4,096 (R37). -/
def touchAge (w : Neuron) (n : Nat) : Nat := (n % 4096 + 4096 - w.tl) % 4096

/-- The decay factor of an age: DECAY up to 63 steps, then DECAY[63] under HOLD, 0 under SETTLE (R37). -/
def ClassEntry.decayAt (c : ClassEntry) (dt : Nat) : Nat :=
  if dt ≤ 63 then c.decay.getD dt 0 else if c.beyond = 1 then c.decay.getD 63 0 else 0

/-- begin_step: leak, traces and refractory count brought up to step n (R37). -/
def beginStep (w : Neuron) (c : ClassEntry) (n : Nat) : Neuron :=
  let dt := touchAge w n
  if dt = 0 then w
  else
    { w with
      v := c.rest + rnd ((w.v - c.rest) * c.decayAt dt) 15
      xpre := if dt ≤ 63 then (rnd (w.xpre * tracePower c.tauPre dt) 15).toNat else 0
      xpost := if dt ≤ 63 then (rnd (w.xpost * tracePower c.tauPost dt) 15).toNat else 0
      ref := dt ≤ w.rc
      rc := if dt ≤ w.rc then w.rc - dt else 0
      spk := false
      tl := n % 4096 }

/-! ### FP32 (R36, R46) -/

/-- The exact value of a finite FP32 word as mantissa and exponent of 2. -/
def f32Parts (x : BitVec 32) : Int × Int :=
  let e := bitField x.toNat 23 8
  let m := bitField x.toNat 0 23
  let s : Int := if x.getLsbD 31 then -1 else 1
  if e = 0 then (s * m, -149) else (s * (m + 2 ^ 23), (e : Int) - 150)

/-- Whether an FP32 word is an infinity or a NaN. -/
def f32Special (x : BitVec 32) : Bool := bitField x.toNat 23 8 == 255

/-- Bits a number takes. -/
def bitLength (n : Nat) : Nat := if n = 0 then 0 else Nat.log2 n + 1

/-- m · 2^e rounded to a floating format with `p` bits of precision and lowest exponent `lo` of its last place, to
nearest, ties away from zero: the rounded mantissa and its exponent (R36). -/
def roundTo (p : Nat) (lo : Int) (m : Int) (e : Int) : Int × Int :=
  let drop := max ((bitLength m.natAbs : Int) - p) (lo - e)
  if drop ≤ 0 then (m, e) else (rnd m drop.toNat, e + drop)

/-- The FP32 word of a value already rounded to the format; none when it lies beyond the largest finite number. -/
def f32Encode (m : Int) (e : Int) : Option (BitVec 32) :=
  if m = 0 then some 0
  else
    let up := max 0 (24 - (bitLength m.natAbs : Int))
    let up := if e - up < -149 then (e + 149).toNat else up.toNat
    let mant := m.natAbs * 2 ^ up
    let ex := e - up
    let down := bitLength mant - 24
    let mant := mant / 2 ^ down
    let ex := ex + down
    let field : Int := if mant < 2 ^ 23 then 0 else ex + 150
    if 255 ≤ field then none
    else
      let sign := if m < 0 then 2 ^ 31 else 0
      some (BitVec.ofNat 32 (sign + field.toNat * 2 ^ 23 + mant % 2 ^ 23))

/-- m · 2^e rounded to FP32; none for an overflow (R36). -/
def f32Round (m : Int) (e : Int) : Option (BitVec 32) :=
  let r := roundTo 24 (-149) m e
  f32Encode r.1 r.2

/-- The sum of two exact values as mantissa and exponent. -/
def dyadicAdd (a b : Int × Int) : Int × Int :=
  let e := min a.2 b.2
  (a.1 * 2 ^ (a.2 - e).toNat + b.1 * 2 ^ (b.2 - e).toNat, e)

/-- A PRECISE port-0 contribution added to an FP32 sum: the product a · M₀ · 2^−SH₀ rounded to FP32, then the sum
rounded to FP32 (R46). -/
def preciseAdd (sum : BitVec 32) (c : ClassEntry) (a : Int) : BitVec 32 :=
  let prod := (f32Round (a * c.mul 0) (-(c.shift 0 : Int))).getD 0
  let s := dyadicAdd (f32Parts sum) (f32Parts prod)
  (f32Round s.1 s.2).getD 0

/-- An FP32 value rounded to an integer, ties away from zero, and clamped to the range of V (R46). -/
def preciseValue (x : BitVec 32) : Int :=
  let p := f32Parts x
  sat20 (if 0 ≤ p.2 then p.1 * 2 ^ p.2.toNat else rnd p.1 (-p.2).toNat)

/-! ### The update (R44, R47–R50) -/

/-- The Q8.12 value of port p of an accumulator entry: rnd(S_p · M_p, SH_p), or the FP32 sum of a PRECISE port 0
(R44, R46). Port 1 does not exist for PRECISE neurons. -/
def portValue (c : ClassEntry) (x : AccEntry) (p : Nat) : Int :=
  if c.precise then
    if p = 0 then preciseValue x.f32 else if p = 1 then 0 else rnd (x.sums.getD p 0 * c.mul p) (c.shift p)
  else rnd (x.sums.getD p 0 * c.mul p) (c.shift p)

/-- The input of an update: the port values of the neuron's entry, or 0 without one (R47). -/
def updateInput (c : ClassEntry) : Option AccEntry → Int
  | none => 0
  | some x => portValue c x 0 + portValue c x 1 + portValue c x 2 + portValue c x 3

/-- What an update does: the word written back, the firing as CNT and VAL of its events, and what it counts and marks
(R47–R50). -/
structure UpdateResult where
  w : Neuron
  fired : Option (Nat × Nat) := none
  vsat : Bool := false
  refractory : Bool := false
  surplus : Nat := 0
  burstCap : Bool := false
  mark : Bool := false
  hint : Bool := false
  deriving DecidableEq, Repr

/-- How a firing leaves V and what it emits under MULTI: CNT, V afterwards, surplus thresholds, BURST_CAP (R48). -/
def fireRule (c : ClassEntry) (v : Int) : Nat × Int × Nat × Bool :=
  let k := (v / c.theta).toNat
  if c.multi = 0 then (1, if c.resetMode = 0 then c.rest else c.floor, k - 1, false)
  else if c.multi = 1 then (1, v - c.theta, 0, false)
  else (min 7 k, v - (min 7 k : Nat) * c.theta, 0, decide (7 < k))

/-- The VAL of a firing's events: SPIKE_TAG, or V before its reduction as Q8.8 (R49). -/
def fireValue (c : ClassEntry) (v : Int) : Nat :=
  if c.outMode = 0 then c.spikeTag else unsignedOf 16 (satInt 16 (rnd v 4))

/-- fire: the refractory count, SPK and the traces of a firing neuron (R48). -/
def fireWord (w : Neuron) (c : ClassEntry) (cnt : Nat) (v : Int) : Neuron :=
  { w with v := v, rc := c.refract, spk := true, xpre := min 255 (w.xpre + cnt * c.incPre),
           xpost := min 255 (w.xpost + cnt * c.incPost) }

/-- update(i, n) on a live neuron (R47): lazy leak, input, bias, floor, threshold. -/
def updateNeuron (w0 : Neuron) (c : ClassEntry) (n : Nat) (x : Option AccEntry) : UpdateResult :=
  let w := beginStep w0 c n
  let inp := updateInput c x
  let total := w.v + inp + c.bias
  let v1 := if w.ref then w.v else sat20 total
  let v2 := max v1 c.floor
  let w1 := { w with v := v2 }
  let fires := !w.ref && decide (c.theta ≤ v2)
  let rule := fireRule c v2
  let w2 := if fires then fireWord w1 c rule.1 (sat20 rule.2.1) else w1
  { w := w2
    fired := if fires then some (rule.1, fireValue c v2) else none
    vsat := !w.ref && decide (sat20 total ≠ total)
    refractory := w.ref && (decide (inp ≠ 0) || decide (c.bias ≠ 0))
    surplus := if fires then rule.2.2.1 else 0
    burstCap := fires && rule.2.2.2
    mark := c.theta ≤ w2.v
    hint := !decide (c.theta ≤ w2.v) && decide (0 < c.pfMargin) && decide (c.theta - c.pfMargin ≤ w2.v) }

/-! ### Accumulation (R43, R45, R46) -/

/-- An addition to a port sum of 24 bits: a sum that reached a limit by saturation keeps it; the sum, whether it is
held, and whether the addition counts in PORT_SAT (R43). -/
def addPort (sum : Int) (held : Bool) (a : Int) : Int × Bool × Bool :=
  if held then (sum, true, true)
  else
    let s := satInt 24 (sum + a)
    (s, decide (s ≠ sum + a), decide (s ≠ sum + a))

/-- A contribution to port p of an entry (R43, R46); the second component says whether PORT_SAT counts. -/
def AccEntry.add (x : AccEntry) (c : ClassEntry) (p : Nat) (a : Int) : AccEntry × Bool :=
  if c.precise ∧ p = 0 then ({ x with f32 := preciseAdd x.f32 c a }, false)
  else
    let r := addPort (x.sums.getD p 0) (x.held.getD p false) a
    ({ x with sums := x.sums.set p r.1, held := x.held.set p r.2.1 }, r.2.2)

/-- The Q8.12 value of one contribution in direct-merge; a PRECISE port 0 passes a float lane, whose result is clamped to the
range of V before it is merged (R45, R46; DESIGN CHOICE: R46 names no clamp of a single contribution). -/
def directValue (c : ClassEntry) (p : Nat) (a : Int) : Int :=
  if c.precise ∧ p = 0 then preciseValue (preciseAdd 0 c a) else rnd (a * c.mul p) (c.shift p)

end Sys2Proof.Machine
end

