-- ==== Sys2Proof/Machine/Tiles.lean ====
section
/-!
DEFINITION. Accessors of the fabric: events and their fields (R117), tiles, neurons and classes as memory and tables
hold them, routers, cluster stores and plasticity engines, and the status of a step in flight.
-/
namespace Sys2Proof.Machine
open Sys2Proof

/-! ### Events (R117) -/

def Event.cls (e : Event) : Nat := bitField e.word.toNat 62 2
def Event.step (e : Event) : Nat := bitField e.word.toNat 60 2
def Event.dev (e : Event) : Nat := bitField e.word.toNat 54 6
def Event.clu (e : Event) : Nat := bitField e.word.toNat 50 4
def Event.tile (e : Event) : Nat := bitField e.word.toNat 44 6
def Event.row (e : Event) : Nat := bitField e.word.toNat 26 18
def Event.dly (e : Event) : Nat := bitField e.word.toNat 20 6
def Event.cnt (e : Event) : Nat := bitField e.word.toNat 17 3
def Event.val (e : Event) : Nat := bitField e.word.toNat 1 16
def Event.e (e : Event) : Bool := e.word.getLsbD 0
/-- VAL as Q8.8 (R117). -/
def Event.valInt (e : Event) : Int := signedOf 16 e.val

/-- A field of an event word replaced. -/
def Event.set (e : Event) (lo width v : Nat) : Event :=
  { e with word := BitVec.ofNat 64 (setBitField e.word.toNat lo width v) }

/-- An event word made of its fields (R117). -/
def eventWord (cls step dev clu tile row dly cnt val : Nat) (e : Bool) : Word64 :=
  BitVec.ofNat 64 (packFields [(62, 2, cls), (60, 2, step), (54, 6, dev), (50, 4, clu), (44, 6, tile), (26, 18, row),
    (20, 6, dly), (17, 3, cnt), (1, 16, val), (0, 1, boolNat e)])

/-! ### Counters by tag (R93) -/

/-- The counter of a tag. -/
def Tags.get (x : Tags) (t : Nat) : BitVec 32 :=
  match t % 4 with
  | 0 => x.t0 | 1 => x.t1 | 2 => x.t2 | _ => x.t3

/-- The counter of a tag raised; the counters wrap (R93). -/
def Tags.add (x : Tags) (t n : Nat) : Tags :=
  let v := BitVec.ofNat 32 n
  match t % 4 with
  | 0 => { x with t0 := x.t0 + v } | 1 => { x with t1 := x.t1 + v } | 2 => { x with t2 := x.t2 + v }
  | _ => { x with t3 := x.t3 + v }

/-- The sums of two sets of counters. -/
def Tags.plus (x y : Tags) : Tags := ⟨x.t0 + y.t0, x.t1 + y.t1, x.t2 + y.t2, x.t3 + y.t3⟩

/-! ### Tiles -/

/-- A tile's number in the module. -/
def tileKey (c t : Nat) : Nat := 64 * c + t

/-- A tile; one without an image has no neurons and no rows (R30). -/
def State.tile (s : State) (c t : Nat) : Tile := Assoc.getD s.tiles (tileKey c t) {}

/-- A tile's record replaced. -/
def State.setTile (s : State) (c t : Nat) (x : Tile) : State := { s with tiles := Assoc.set (tileKey c t) x s.tiles }

/-- The progress counter of a tile advanced (R464). -/
def State.tileProgress (s : State) (c t : Nat) : State := s.setTile c t { s.tile c t with progressAt := s.now }

/-- The device address of an offset of tile SRAM (R274). -/
def sramAddr (c t off : Nat) : Nat := tileWindow c t + off

/-- The device address of a neuron word (R30). -/
def State.neuronAddr (s : State) (c t i : Nat) : Nat := sramAddr c t ((s.tile c t).map.neuronBase + 8 * i)

/-- A neuron (R29). -/
def State.neuron (s : State) (c t i : Nat) : Neuron := Neuron.ofWord (s.word (s.neuronAddr c t i) 8)

/-- A neuron word replaced. -/
def State.setNeuron (s : State) (c t i : Nat) (w : Neuron) : State := s.setWord (s.neuronAddr c t i) 8 w.toWord

/-- The entry of a class that holds for step `n`: the newest whose first step is not later (R34). -/
def classFor (l : List (Nat × ClassEntry)) (n : Nat) : ClassEntry :=
  match l.find? fun e => e.1 ≤ n with
  | some e => e.2
  | none => {}

/-- The active entry of class `k` for step `n` (R34). -/
def State.classAt (s : State) (k n : Nat) : ClassEntry := classFor (Assoc.getD s.classes k []) n

/-- The word that R29 forms at load for a neuron to which the image gives none: V is REST of class 0 as loaded. -/
def State.formedWord (s : State) : Neuron :=
  { v := s.harness.rest0, tl := 0, xpre := 0, xpost := 0, rc := 0, dead := false, reinit := false, ref := false,
    spk := false, cls := 0 }

/-- The initial word of a neuron (R29, R52). -/
def State.initialWord (s : State) (c t i : Nat) : Neuron :=
  match Assoc.get? (16384 * tileKey c t + i) s.initial with
  | some w => Neuron.ofWord w
  | none => s.formedWord

/-! ### Clusters -/

/-- A cluster's router. -/
def State.router (s : State) (c : Nat) : Router := Assoc.getD s.routers c {}
/-- A router's record replaced. -/
def State.setRouter (s : State) (c : Nat) (r : Router) : State := { s with routers := Assoc.set c r s.routers }
/-- A cluster's far-row cache and spill structures. -/
def State.store (s : State) (c : Nat) : ClusterStore := Assoc.getD s.stores c {}
/-- A cluster's far-row cache and spill structures replaced. -/
def State.setStore (s : State) (c : Nat) (x : ClusterStore) : State := { s with stores := Assoc.set c x s.stores }
/-- A cluster's plasticity engine. -/
def State.plast (s : State) (c : Nat) : PlastEngine := Assoc.getD s.learning.engines c {}
/-- A cluster's plasticity engine replaced. -/
def State.setPlast (s : State) (c : Nat) (x : PlastEngine) : State :=
  { s with learning := { s.learning with engines := Assoc.set c x s.learning.engines } }
/-- A fetch engine (R145). -/
def State.fetchEngine (s : State) (k : Nat) : FetchEngine := Assoc.getD s.fetch k {}
/-- A fetch engine's record replaced. -/
def State.setFetch (s : State) (k : Nat) (x : FetchEngine) : State := { s with fetch := Assoc.set k x s.fetch }

/-! ### Steps in flight -/

/-- A status reported for a step: the more severe one counts. One for a step not yet released waits for its release; one for a
complete step comes too late (R105, R490). -/
def State.stepStatus (s : State) (n : Nat) (st : Status) : State :=
  let mark (f : StepFlight) : StepFlight := if f.n = n then { f with status := f.status.worse st } else f
  let early (l : Assoc Status) : Assoc Status :=
    if s.reg Reg.STEP_RELEASED < n then Assoc.set n ((Assoc.getD l n .ok).worse st) l else l
  { s with fabric := { s.fabric with flights := s.fabric.flights.map mark, early := early s.fabric.early } }

/-- A count of the oldest incomplete step has changed: the moment from which its completion is timed (R96). -/
def State.noteCounts (s : State) (tag : Nat) : State :=
  if tag % 4 = (s.reg Reg.STEP_COMPLETE + 1) % 4 then { s with fabric := { s.fabric with countsAt := s.now } } else s

/-- Whether stream injectors may inject: a window is open, and no count settle holds their ports (R98, R466). -/
def State.streamOpen (s : State) : Bool := s.fabric.windowOpen && !s.fabric.settling

/-- A fabric operation is in progress while a step is in flight or a command holds releases (R21). -/
def State.fabricBusy (s : State) : Bool := s.fabric.flights != [] || s.fabric.hold != []

/-- The value in force of an object whose write takes effect at the next release (R141, R166). -/
def State.inForce (s : State) (o : Obj) : Nat := (Assoc.get? o.key s.fabric.untilRelease).getD (s.reg o)

/-- An object written whose value takes effect at the next release. -/
def State.writeAtRelease (s : State) (o : Obj) (v : Nat) : State :=
  let old := s.inForce o
  { s.setReg o v with fabric := { s.fabric with untilRelease := Assoc.set o.key old s.fabric.untilRelease } }

/-- Elements of a list without the first equal to `x`. -/
def dropFirst {α : Type} [DecidableEq α] (x : α) : List α → List α
  | [] => []
  | y :: l => if y = x then l else y :: dropFirst x l

/-- ⌈a / b⌉ -/
def ceilDiv (a b : Nat) : Nat := (a + b - 1) / b

/-- The least multiple of `b` not below `a`. -/
def roundUp (a b : Nat) : Nat := ceilDiv a b * b

/-! ### An uncorrectable neuron word (R52) -/

/-- NEURON_REINIT: the word becomes the initial word, stamped with the step, and REINIT is set (R52). -/
def State.neuronReinit (s : State) (c t i n : Nat) : State :=
  let w := s.initialWord c t i
  let s1 := s.setNeuron c t i { w with tl := n % 4096, reinit := true }
  ((s1.bumpAt Reg.NEU_REINIT c).logFault
    { cls := .neuronReinit, status := .eccUncorr, unit := c, sub := t, ref := i }).stepStatus n .eccUncorr

/-- The neuron words of a list found uncorrectable, reinitialised. -/
def State.reinitAll (s : State) (c t n : Nat) : List Nat → State
  | [] => s
  | i :: l => (if i < (s.tile c t).map.n then s.neuronReinit c t i n else s).reinitAll c t n l

/-- Accumulator entries found uncorrectable: the neuron's port sums for the step read as 0 (R458). -/
def State.accLost (s : State) (c t n : Nat) : List Nat → State
  | [] => s
  | i :: l =>
    let x := s.tile c t
    let clear (a : AccEntry) : AccEntry := if a.neuron = i then { neuron := i } else a
    if x.acc.any fun a => a.neuron = i then
      (((s.setTile c t { x with acc := x.acc.map clear }).bump Reg.ACC_ECC).logFault
        { cls := .memUncorr, status := .eccUncorr, unit := c, sub := t, ref := i }).stepStatus n .eccUncorr
        |>.accLost c t n l
    else s.accLost c t n l

end Sys2Proof.Machine
end

