-- ==== Sys2Proof/Machine/Gather.lean ====
section
/-!
DEFINITION. What learning gathers during an epoch (R171–R178, R200): the plastic extension of a row, dirty lists, the
far plastic state table, post records, and the rows PRE_REPORT, POST_REPORT and TRACE_GROOM_VISIT.
-/
namespace Sys2Proof.Machine
open Sys2Proof

/-! ### Plastic row groups (R172) -/

/-- The entry of a group in force since the last capture (R173). -/
def State.group (s : State) (g : Nat) : Nat := Assoc.getD s.learning.groupsCaptured g 0

/-- SRC_CLS of a group entry (R172). -/
def grpSrcCls (g : Nat) : Nat := bitField g 56 8

/-- Whether a tile is the target of a plastic row (R177). -/
def State.hasPlasticRow (s : State) (c t : Nat) : Bool :=
  s.learning.rows.any fun r => r.1 == c && r.2.1.tile == t

/-! ### The plastic extension (R171, R174) -/

/-- The fields of PLX (R171). -/
structure Plx where
  rxpre : Nat
  rtl : Nat
  spre0 : Nat
  spre1 : Nat
  deriving DecidableEq, Repr

/-- The fields of a PLX word (R171). -/
def Plx.ofWord (w : Nat) : Plx :=
  { rxpre := bitField w 0 8, rtl := bitField w 8 12, spre0 := bitField w 20 3, spre1 := bitField w 23 3 }

/-- The word of PLX fields (R171). -/
def Plx.toWord (x : Plx) : Nat := packFields [(0, 8, x.rxpre), (8, 12, x.rtl), (20, 3, x.spre0), (23, 3, x.spre1)]

/-- SPRE[p] (R171). -/
def Plx.spre (x : Plx) (p : Nat) : Nat := if p % 2 = 0 then x.spre0 else x.spre1

/-- SPRE[p] replaced. -/
def Plx.setSpre (x : Plx) (p v : Nat) : Plx := if p % 2 = 0 then { x with spre0 := v } else { x with spre1 := v }

/-- Origin-step age of a stamp: (m − RTL) mod 4,096. -/
def stampAge (m stamp : Nat) : Nat := (m % 4096 + 4096 - stamp % 4096) % 4096

/-- plastic_spike: decay to the origin step, increment, and the count, unless the dirty list refused the row (R174). -/
def plasticSpike (x : Plx) (m cnt p : Nat) (k : ClassEntry) (listed : Bool) : Plx :=
  let dt := stampAge m x.rtl
  let x1 := if dt < 2048 then
      { x with rxpre := if 63 < dt then 0 else (rnd (x.rxpre * tracePower k.tauPre dt) 15).toNat, rtl := m % 4096 }
    else x
  let x2 := { x1 with rxpre := min 255 (x1.rxpre + cnt * k.incPre) }
  if listed then x2.setSpre p (min 7 (x2.spre p + cnt)) else x2

/-- The parity of the present epoch. -/
def State.epochParity (s : State) : Nat := s.reg Reg.EPOCH % 2

/-- A row appended to its cluster's dirty list where it is not dirty yet: whether it is listed, and the state (R174). -/
def State.markDirty (s : State) (c : Nat) (row : RowName) (x : Plx) : Bool × State :=
  if x.spre s.epochParity ≠ 0 then (true, s)
  else
    let e := s.plast c
    if e.dirty.length < 8192 then (true, (s.setPlast c { e with dirty := e.dirty ++ [row] }).bumpAt Reg.DIRTY_ROWS c)
    else (false, s.bumpAt Reg.DIRTY_FULL c)

/-- PLASTIC_SPIKE on a near plastic row whose header lies at an address (R174, R175). -/
def State.plasticNear (s : State) (c : Nat) (row : RowName) (header m cnt srcCls n : Nat) : State :=
  let x := Plx.ofWord (s.word (header + 12) 4)
  let r := s.markDirty c row x
  (r.2.setWord (header + 12) 4 (plasticSpike x m cnt s.epochParity (s.classAt srcCls n) r.1).toWord)

/-! ### The far plastic state table (R175, R176) -/

/-- The PLX that a far plastic row's entry holds. -/
def PlastEngine.farFind (e : PlastEngine) (row : RowName) : Option Nat := (e.farPlx.find? fun x => x.1 = row).map (·.2)

/-- The PLX of an existing far entry replaced. -/
def PlastEngine.farSet (e : PlastEngine) (row : RowName) (w : Nat) : PlastEngine :=
  { e with farPlx := e.farPlx.map fun x => if x.1 = row then (row, w) else x }

/-- A far pre-report applied to the row's entry, which it creates where there is room (R174, R176). -/
def State.applyPre (s : State) (c : Nat) (r : PreReport) : State :=
  let e := s.plast c
  let found := e.farFind r.row
  if found = none ∧ 2048 ≤ e.farPlx.length then s.bumpAt Reg.FPS_FULL c
  else
    let x := match found with
      | some w => Plx.ofWord w
      | none => { rxpre := 0, rtl := r.m % 4096, spre0 := 0, spre1 := 0 }
    let s0 := match found with
      | some _ => s
      | none => s.setPlast c { e with farPlx := e.farPlx ++ [(r.row, x.toWord)] }
    let d := s0.markDirty c r.row x
    let y := plasticSpike x r.m r.cnt s.epochParity (s.classAt r.srcCls s.fabric.learned) d.1
    d.2.setPlast c ((d.2.plast c).farSet r.row y.toWord)

/-- A pre-report sent to the plasticity engine; the sender has seen room in its queue (R175). -/
def State.sendPre (s : State) (c : Nat) (r : PreReport) : State :=
  let e := s.plast c
  s.setPlast c { e with pre := e.pre ++ [r] }

/-! ### Post records (R177) -/

/-- A post report added into the neuron's record of the present epoch (R177). -/
def State.applyPost (s : State) (c : Nat) (r : PostReport) : State :=
  let e := s.plast c
  let add (x : PostRecord) : PostRecord :=
    if x.tile = r.tile ∧ x.neuron = r.neuron then
      { x with sPost := min 7 (x.sPost + r.cnt), eAcc := satInt 24 (x.eAcc + r.err) }
    else x
  if e.post.any fun x => x.tile == r.tile && x.neuron == r.neuron then s.setPlast c { e with post := e.post.map add }
  else if e.post.length < 32768 then
    s.setPlast c { e with post := e.post ++ [⟨r.tile, r.neuron, min 7 r.cnt, satInt 24 r.err⟩] }
  else s.bumpAt Reg.POST_FULL c

/-- The oldest post report of a cluster taken into its record. -/
def State.takePost (s : State) (c : Nat) : State :=
  match (s.plast c).postQueue with
  | [] => s
  | r :: l => (s.setPlast c { s.plast c with postQueue := l }).applyPost c r

/-- A post report accepted into the report queue; a full queue gives up its oldest report to the engine first (R177). -/
def State.sendPost (s : State) (c : Nat) (r : PostReport) : State :=
  let s1 := if 1024 ≤ (s.plast c).postQueue.length then s.takePost c else s
  (s1.setPlast c { s1.plast c with postQueue := (s1.plast c).postQueue ++ [r] }).bumpAt Reg.POST_REPORTS c

/-! ### Errors in plastic bookkeeping (R200) -/

/-- The identifier of a plastic row as events name it: bit 17 set for a far row (R61). -/
def RowName.ident (r : RowName) : Nat := if r.far then 2 ^ 17 + r.row else r.row

/-- An uncorrectable error in plastic state: the first of an epoch is recorded, and the LEARN_EPOCH that closes the epoch
carries ECC_UNCORR (R200). REF holds the row in bits 17:0 and the word above (DESIGN CHOICE). -/
def State.epochEcc (s : State) (c t row word : Nat) : State :=
  { s with learning := { s.learning with epochStatus := s.learning.epochStatus.worse .eccUncorr } }.logGated 20 0
    (s.reg Reg.EPOCH) { cls := .row, status := .eccUncorr, unit := c, sub := t, ref := row + 2 ^ 18 * word }

/-- An uncorrectable error in plastic bookkeeping: counted beside (R200). A PLX is word 3 of its row (R64). -/
def State.plasticEcc (s : State) (c t row : Nat) : State := (s.bump Reg.PLX_ECC).epochEcc c t row 3

/-! ### The rows -/

/-- PRE_REPORT: the oldest pre-report applied; `bad` says that the row's entry proved uncorrectable (R175, R200). -/
def execPreReport (c : ClusterId) (bad : Bool) (s : State) : Host.Outcome State Fault Refusal :=
  let e := s.plast c.val
  match e.pre with
  | [] => .next s
  | r :: l =>
    let s1 := s.setPlast c.val { e with pre := l }
    let s2 := if bad ∧ (e.farFind r.row).isSome then
        (s1.setPlast c.val { s1.plast c.val with
            farPlx := (s1.plast c.val).farPlx.filter fun x => x.1 ≠ r.row }).plasticEcc c.val r.row.tile r.row.ident
      else s1
    .next (s2.applyPre c.val r)

/-- POST_REPORT: the oldest post report added; `bad` says that the neuron's record proved uncorrectable (R177, R200). -/
def execPostReport (c : ClusterId) (bad : Bool) (s : State) : Host.Outcome State Fault Refusal :=
  let e := s.plast c.val
  match e.postQueue with
  | [] => .next s
  | r :: _ =>
    let hit (x : PostRecord) : Bool := x.tile == r.tile && x.neuron == r.neuron
    let s1 := if bad ∧ e.post.any hit then
        (s.setPlast c.val { e with post := e.post.filter fun x => !hit x }).plasticEcc c.val r.tile r.neuron
      else s
    .next (s1.takePost c.val)

/-- The near plastic rows of a cluster in Stable order: name and header address (R178). -/
def State.nearPlastic (s : State) (c : Nat) : List RowName :=
  s.learning.rows.filterMap fun r => if r.1 = c ∧ !r.2.1.far then some r.2.1 else none

/-- The device address of a near row: its directory entry's OFS in units of 8 B (R62). -/
def State.nearRowAddr (s : State) (c t r : Nat) : Nat :=
  sramAddr c t (8 * bitField (s.word (sramAddr c t ((s.tile c t).map.dirBase + 4 * r)) 4) 0 16)

/-- The trace groom's change of a PLX at step `c`: an aged trace becomes 0 and takes the stamp (R178). -/
def groomPlx (x : Plx) (step : Nat) : Plx :=
  if 63 < stampAge step x.rtl then { x with rxpre := 0, rtl := step % 4096 } else x

/-- TRACE_GROOM_VISIT: the next row or entry of the cyclic order is visited, and the one behind a released entry takes its place
(R178); `bad` says that the PLX proved uncorrectable (R200). The order is the near plastic rows, then the far entries. -/
def execTraceGroomVisit (c : ClusterId) (bad : Bool) (s : State) : Host.Outcome State Fault Refusal :=
  let e := s.plast c.val
  let near := s.nearPlastic c.val
  let total := near.length + e.farPlx.length
  let step := s.fabric.learned
  if total = 0 then .next s
  else
    let k := e.groomCursor % total
    let s1 := (s.setPlast c.val { e with groomCursor := (k + 1) % total }).bumpAt Reg.TRACE_GROOM c.val
    let release (e1 : PlastEngine) (row : RowName) : PlastEngine :=
      { e1 with farPlx := e1.farPlx.filter fun x => x.1 ≠ row, groomCursor := k }
    match near[k]? with
    | some row =>
      let a := s.nearRowAddr c.val row.tile row.row + 12
      if bad then
        let s2 := s1.setWord a 4 (Plx.toWord { rxpre := 0, rtl := step % 4096, spre0 := 0, spre1 := 0 })
        .next (s2.plasticEcc c.val row.tile row.ident)
      else .next (s1.setWord a 4 (groomPlx (Plx.ofWord (s.word a 4)) step).toWord)
    | none =>
      match e.farPlx[k - near.length]? with
      | none => .next s1
      | some (row, w) =>
        let y := groomPlx (Plx.ofWord w) step
        let e1 := s1.plast c.val
        if bad then
          .next ((s1.setPlast c.val (release e1 row)).plasticEcc c.val row.tile row.ident)
        else if y.rxpre = 0 ∧ y.spre0 = 0 ∧ y.spre1 = 0 then
          .next (s1.setPlast c.val (release e1 row))
        else .next (s1.setPlast c.val (e1.farSet row y.toWord))

end Sys2Proof.Machine
end

