-- ==== Sys2Proof/Machine/Far.lean ====
section
/-!
DEFINITION. Far synapses (06, R144–R168): fetch requests and their credits, the far-row caches, the fetch engines,
prefetch hints, remote holdback, and what the bulk network's slots join.
-/
namespace Sys2Proof.Machine
open Sys2Proof

/-! ### Counters -/

/-- A far-fetch counter raised for the module, the cluster and the engine: sub-indices 01–06 and 0D (R168). -/
def State.bumpFar (s : State) (o : Obj) (c k n : Nat) : State :=
  (((s.bumpBy o n).bumpBy (o.copy (0x10 + c)) n).bumpBy (o.copy (0x20 + k)) n)

/-! ### The far-row cache (R151–R154) -/

/-- The package and fetch engine of a far row: f[16:15] (R144). -/
def packageOf (f : Nat) : Nat := f / 32768 % 4

/-- The tag of a row, if it is PENDING or PRESENT (R151). -/
def ClusterStore.tag (x : ClusterStore) (t f : Nat) : Option FarTag := x.tags.find? fun g => g.tile == t && g.f == f

/-- A tag changed in place. -/
def ClusterStore.modTag (x : ClusterStore) (t f : Nat) (h : FarTag → FarTag) : ClusterStore :=
  { x with tags := x.tags.map fun g => if g.tile = t ∧ g.f = f then h g else g }

/-- A row used: its tag becomes the most recently used (R153). -/
def ClusterStore.useTag (x : ClusterStore) (t f : Nat) : ClusterStore :=
  match x.tag t f with
  | none => x
  | some g => { x with tags := dropFirst g x.tags ++ [g] }

/-- Lines allotted to rows of a cache (R151). -/
def ClusterStore.lines (x : ClusterStore) : Nat := x.tags.foldl (fun a g => a + g.len) 0

/-- The oldest step that a tile of a cluster is still delivering; none while no tile delivers. -/
def State.oldestDelivering (s : State) (c : Nat) : Option Nat :=
  s.tiles.foldl (fun o e =>
    if e.1 / 64 = c then
      match e.2.phase with
      | .deliver n => some (match o with | some m => min m n | none => n)
      | _ => o
    else o) none

/-- Whether a tile has an event set aside for a row (R74). -/
def State.rowAwaited (s : State) (c t f : Nat) : Bool := (s.tile c t).farWait.any fun p => p.ev.row == 131072 + f

/-- The eviction class of a PRESENT row, 1 first (R153); a PENDING row has none. While no tile of the cluster delivers there is no
oldest step to compare with, and a demanded row not yet expanded counts as class 3 (DESIGN CHOICE). -/
def State.evictClass (s : State) (c : Nat) (g : FarTag) : Option Nat :=
  if !g.present then none
  else if g.expanded ∧ !s.rowAwaited c g.tile g.f then some 1
  else if g.prefetch ∧ !g.demanded then some 2
  else match s.oldestDelivering c with
    | some n => if n < g.due then some 3 else some 4
    | none => some 3

/-- The next row to evict: the least recently used of the lowest class that has one (R153). -/
def State.victim (s : State) (c : Nat) : Option (Nat × FarTag) :=
  let of (k : Nat) : Option (Nat × FarTag) :=
    ((s.store c).tags.find? fun g => s.evictClass c g == some k).map fun g => (k, g)
  (of 1).orElse fun _ => (of 2).orElse fun _ => (of 3).orElse fun _ => of 4

/-- CACHE_EVICT: whole rows evicted until `need` lines are free (R153). -/
def State.evict (s : State) (c need : Nat) : Nat → State
  | 0 => s
  | fuel + 1 =>
    if (s.store c).lines + need ≤ 8192 then s
    else match s.victim c with
      | none => s
      | some (k, g) =>
        let x := s.store c
        let s1 := s.setStore c { x with tags := dropFirst g x.tags }
        let s2 := if g.prefetch ∧ !g.demanded then s1.bumpAt Reg.PF_WASTE c else s1
        (if k = 4 then s2.bumpAt Reg.PIN_EVICT c else s2).evict c need fuel

/-- Lines the cache could give: free ones and those of rows that may be evicted (R153). -/
def ClusterStore.offer (x : ClusterStore) : Nat :=
  8192 - x.tags.foldl (fun a g => if g.present then a else a + g.len) 0

/-! ### Fetch requests (R145–R147) -/

/-- Entries of a partition in an engine's queue: a cluster's, or the remote one (R146). -/
def FetchEngine.held (x : FetchEngine) (source : Option Nat) : Nat :=
  (x.queue.filter fun r => r.source == source).length

/-- Room in a partition: 192 for a cluster, 1,024 for the remote one (R146). -/
def FetchEngine.room (x : FetchEngine) (source : Option Nat) : Bool :=
  x.held source < (if source.isSome then 192 else 1024)

/-- A request joined to its row's tag (R151, R158). -/
def State.joinFetch (s : State) (c t f due : Nat) (g : FarTag) : State :=
  let s1 := s.bumpFar Reg.FETCH_JOIN c (packageOf f) 1
  let s2 := if g.prefetch ∧ !g.demanded then s1.bumpAt Reg.PF_HIT c else s1
  s2.setStore c ((s2.store c).modTag t f fun g =>
    { g with due := max g.due due, demanded := true, expanded := false })

/-- FETCH_REQUEST_POST: a request for row f of a tile, posted against the credits of a cluster or the remote partition.
It joins an existing tag; else it needs a credit and a free tag (R145, R146, R151). Whether it was accepted, and the
state. -/
def State.postFetch (s : State) (source : Option Nat) (c t f due : Nat) (refetch : Bool) : Bool × State :=
  let k := packageOf f
  match (s.store c).tag t f with
  | some g => (true, s.joinFetch c t f due g)
  | none =>
    let x := s.fetchEngine k
    if !x.room source then (false, s)
    else if 2048 ≤ (s.store c).tags.length then (false, s.bumpAt Reg.TAG_FULL c)
    else
      let tag : FarTag := { tile := t, f := f, present := false, prefetch := false, due := due, demanded := true }
      let s1 := s.setStore c { s.store c with tags := (s.store c).tags ++ [tag] }
      let q := x.queue ++ [{ cluster := c, tile := t, f := f, due := due, source := source, refetch := refetch }]
      (true, ((s1.setFetch k { x with queue := q }).peakAt Reg.FQ_PEAK c q.length).peak (Reg.FQ_PEAK.copy (0x20 + k))
        q.length)

/-- A refetch posted for an event that finds its row ABSENT (R152). -/
def State.refetch (s : State) (c t f due : Nat) : State := (s.postFetch (some c) c t f due true).2

/-! ### Issue (R149, R150) -/

/-- Whether a row is read on speculation: a PREFETCH row not demanded yet (R157). -/
def State.speculative (s : State) (j : ReadJob) : Bool :=
  match (s.store j.cluster).tag j.tile j.f with
  | some g => g.prefetch && !g.demanded
  | none => false

/-- Lines of an engine's rows still to be sent to a cluster. The return buffer's load is that of the demanded rows: a speculative
read is held back wherever its lines would leave no place for theirs (R149, R157). -/
def State.returning (s : State) (k c : Nat) (all : Bool) : Nat :=
  (s.fetchEngine k).jobs.foldl (fun a j => if j.cluster = c ∧ (all ∨ !s.speculative j) then a + (j.len - j.sent) else a) 0

/-- Lines that a package serves in a frame (R162). -/
def packageLines : Nat := 192

/-- Whether a far row's directory line is held, or may be read within the frame's budget of its package (R150, R162). -/
def FetchEngine.directoryOpen (x : FetchEngine) (line : Nat) : Bool :=
  x.dirLines.contains line || x.frameLines < packageLines

/-- The address of a far row's directory entry (R63, R144). -/
def State.farDirAddr (s : State) (c t f : Nat) : Nat :=
  (s.tile c t).map.farBase.getD (packageOf f) 0 + 8 * (f % 32768)

/-- ADDR as a device address, and LEN, of a far row; 0 lines beyond the directory (R63, R150). -/
def State.farEntry (s : State) (c t f : Nat) : Nat × Nat :=
  if (s.tile c t).map.farCount.getD (packageOf f) 0 ≤ f % 32768 then (ddrBase, 0)
  else
    let w := s.word (s.farDirAddr c t f) 8
    (ddrBase + 64 * bitField w 0 30, bitField w 32 13)

/-- A directory line brought into the line buffer, least recently used first; a read counts as one line of the frame (R150,
R162). -/
def State.directoryRead (s : State) (k c t f : Nat) : State :=
  let x := s.fetchEngine k
  let line := s.farDirAddr c t f / 64
  if x.dirLines.contains line then s.setFetch k { x with dirLines := dropFirst line x.dirLines ++ [line] }
  else
    let kept := if 2048 ≤ x.dirLines.length then x.dirLines.drop 1 else x.dirLines
    (s.setFetch k { x with dirLines := kept ++ [line], frameLines := x.frameLines + 1 }).bumpFar Reg.DIR_MISS c k 1

/-- A far error counted, recorded once a step for each cluster, and carried by the step that demands the row; a row that none
demands yet is recorded under the oldest incomplete step, and the step that expands it carries the status (R155). -/
def State.farEcc (s : State) (c k addr due : Nat) : State :=
  let s1 := (s.bumpAt Reg.FAR_ECC c).logGated 21 c (if due = 0 then s.fabric.known + 1 else due)
    { cls := .row, status := .eccUncorr, unit := k, sub := c, ref := addr }
  if due = 0 then s1 else s1.stepStatus due .eccUncorr

/-- A row whose directory entry has been read: its lines allotted and its reading begun; a row of no lines, or whose
directory line could not be read, becomes PRESENT at once (R149, R150, R155). -/
def State.startRow (s : State) (k c t f due : Nat) (dirBad : Bool) : State :=
  let en := s.farEntry c t f
  if dirBad then
    (s.setStore c ((s.store c).modTag t f fun g => { g with present := true, issued := true, failed := true })).farEcc
      c k (s.farDirAddr c t f) due
  else if en.2 = 0 then
    s.setStore c ((s.store c).modTag t f fun g => { g with present := true, issued := true })
  else
    let s1 := s.evict c en.2 2048
    let s2 := s1.setStore c ((s1.store c).modTag t f fun g => { g with issued := true, len := en.2 })
    let x := s2.fetchEngine k
    s2.setFetch k { x with jobs := x.jobs ++ [{ cluster := c, tile := t, f := f, addr := en.1, len := en.2 }] }

/-- The oldest step not yet complete, as this device knows (R149). -/
def State.oldestIncomplete (s : State) : Nat := s.fabric.known + 1

/-- The issuable requests, oldest due step first, arrival order among equals (R149). -/
def State.issuable (s : State) (k : Nat) : List FetchRequest :=
  let l := (s.fetchEngine k).queue.filter fun r => r.due ≤ s.oldestIncomplete + 2
  let insert (out : List FetchRequest) (r : FetchRequest) : List FetchRequest :=
    out.filter (fun y => y.due ≤ r.due) ++ r :: out.filter (fun y => r.due < y.due)
  l.foldl insert []

/-- A request removed from its queue; its credit returns (R146). -/
def State.dropRequest (s : State) (k : Nat) (r : FetchRequest) : State :=
  let x := s.fetchEngine k
  s.setFetch k { x with queue := dropFirst r x.queue }

/-- The first request of the list that the engine can issue, issued; each that waits for lines is counted (R149). -/
def State.issueFirst (s : State) (k : Nat) (dirBad : Bool) : List FetchRequest → State
  | [] => s
  | r :: l =>
    if (s.tile r.cluster r.tile).fenced then
      let s1 := (s.dropRequest k r).bumpFar Reg.FETCH_FENCED r.cluster k 1
      let x := s1.store r.cluster
      s1.setStore r.cluster { x with tags := x.tags.filter fun g => !(g.tile == r.tile && g.f == r.f) }
    else if 64 ≤ s.returning k r.cluster false ∨
        !(s.fetchEngine k).directoryOpen (s.farDirAddr r.cluster r.tile r.f / 64) then s.issueFirst k dirBad l
    else
      let s1 := s.directoryRead k r.cluster r.tile r.f
      if (s.store r.cluster).offer < (s.farEntry r.cluster r.tile r.f).2 ∧ !dirBad then
        (s1.bumpAt Reg.LINE_WAIT r.cluster).issueFirst k dirBad l
      else
        let s2 := (s1.dropRequest k r).bumpFar Reg.FETCH_ISSUED r.cluster k 1
        s2.startRow k r.cluster r.tile r.f r.due dirBad

/-- FETCH_ISSUE; `dirBad` says that the directory line of the request issued proved uncorrectable (R149, R155). -/
def execFetchIssue (k : PackageId) (dirBad : Bool) (s : State) : Host.Outcome State Fault Refusal :=
  .next (s.issueFirst k.val dirBad (s.issuable k.val))

/-! ### Prefetch hints (R156, R158) -/

/-- SPEC_PCT_EFF: the speculative share after the governor (R165, R399). -/
def State.specPctEff (s : State) : Nat :=
  let l := s.reg Reg.GOV_LEVEL
  if 4 ≤ l then 0 else s.inForce Reg.SPEC_PCT * (4 - l) / 4

/-- A hint arriving at its engine (R156). -/
def State.sendHint (s : State) (source c t f step : Nat) : State :=
  let k := packageOf f
  match (s.store c).tag t f with
  | some _ => (s.bumpFar Reg.FETCH_JOIN c k 1).bumpAt Reg.PF_DUP c
  | none =>
    let x := s.fetchEngine k
    if 512 ≤ x.hints.length ∨ s.specPctEff = 0 then s.bumpAt Reg.PF_CAP_REFUSE c
    else s.setFetch k { x with hints := x.hints ++ [{ cluster := c, tile := t, f := f, source := source, step := step }] }

/-- Whether an engine has an issuable request that it can issue (R156). -/
def State.canIssue (s : State) (k : Nat) : Bool :=
  (s.issuable k).any fun r => (s.tile r.cluster r.tile).fenced ||
    (s.returning k r.cluster false < 64 && (s.fetchEngine k).directoryOpen (s.farDirAddr r.cluster r.tile r.f / 64) &&
      (s.farEntry r.cluster r.tile r.f).2 ≤ (s.store r.cluster).offer)

/-- HINT_ISSUE: the oldest hint becomes a PREFETCH tag and its row is read (R156); `dirBad` as in FETCH_ISSUE. -/
def execHintIssue (k : PackageId) (dirBad : Bool) (s : State) : Host.Outcome State Fault Refusal :=
  let x := s.fetchEngine k.val
  match x.hints with
  | [] => .next s
  | h :: l =>
    if s.canIssue k.val ∨ 64 ≤ s.returning k.val h.cluster true ∨
        !x.directoryOpen (s.farDirAddr h.cluster h.tile h.f / 64) then .next s
    else
      let s1 := s.setFetch k.val { x with hints := l }
      match (s1.store h.cluster).tag h.tile h.f with
      | some _ => .next ((s1.bumpFar Reg.FETCH_JOIN h.cluster k.val 1).bumpAt Reg.PF_DUP h.cluster)
      | none =>
        if 2048 ≤ (s1.store h.cluster).tags.length ∨
            (s1.store h.cluster).offer < (s1.farEntry h.cluster h.tile h.f).2 then .next s
        else
          let tag : FarTag := { tile := h.tile, f := h.f, present := false, prefetch := true }
          let s2 := (s1.setStore h.cluster { s1.store h.cluster with tags := (s1.store h.cluster).tags ++ [tag] })
          let s3 := (s2.bumpAt Reg.PF_ISSUED h.cluster).directoryRead k.val h.cluster h.tile h.f
          .next (s3.startRow k.val h.cluster h.tile h.f 0 dirBad)

/-- HINT_STALE: hints not issued by the end of the update of the step after the one that sent them are discarded
(R156). -/
def execHintStale (k : PackageId) (s : State) : Host.Outcome State Fault Refusal :=
  let x := s.fetchEngine k.val
  let stale (h : FetchHint) : Bool := h.step + 1 ≤ (s.tile (h.source / 64) (h.source % 64)).updated
  let s1 := (x.hints.filter stale).foldl (fun s h => s.bumpAt Reg.PF_STALE h.cluster) s
  .next (s1.setFetch k.val { x with hints := x.hints.filter fun h => !stale h })

/-! ### Lines (R151, R155) -/

/-- Writes of the plasticity engine that the cached copy of a row still lacks, applied (R185). -/
def applyCacheWrites (l : List (RowName × Nat × Nat)) (row : RowName) (data : List Byte) : List Byte :=
  l.foldl (fun d w => if w.1 = row then d.take w.2.1 ++ leBytes 4 w.2.2 ++ d.drop (w.2.1 + 4) else d) data

/-- A row whose last line has arrived becomes PRESENT with the writes held for it (R151, R185). -/
def State.rowArrived (s : State) (c t f : Nat) : State :=
  let e := s.plast c
  let row : RowName := ⟨t, true, f⟩
  let s1 := s.setStore c ((s.store c).modTag t f fun g =>
    { g with present := true, data := applyCacheWrites e.cacheWrites row g.data })
  s1.setPlast c { s1.plast c with cacheWrites := e.cacheWrites.filter fun w => w.1 ≠ row }

/-- FETCH_LINE_ARRIVE: the oldest line at a cluster's local port goes into its row's lines; `bad` marks a line found
uncorrectable (R151, R155). -/
def execFetchLineArrive (c : ClusterId) (bad : Bool) (s : State) : Host.Outcome State Fault Refusal :=
  let x := s.store c.val
  match x.landed with
  | [] => .next s
  | l :: rest =>
    let s1 := s.setStore c.val { x with landed := rest }
    let wrong := bad || l.bad
    match x.tag l.tile l.f with
    | none => .next s1
    | some g =>
      let s2 := s1.setStore c.val ((s1.store c.val).modTag l.tile l.f fun g =>
        { g with data := g.data ++ l.data, badLines := if wrong then g.badLines ++ [l.index] else g.badLines })
      let s3 := if wrong then
          s2.farEcc c.val (packageOf l.f) ((s2.farEntry c.val l.tile l.f).1 + 64 * l.index) g.due
        else s2
      if l.index + 1 = g.len then .next (s3.rowArrived c.val l.tile l.f) else .next s3

/-! ### Remote requests (R148) -/

/-- Whether the remote partition, or a tag the row already has, takes a remote far event: its request is posted. -/
def State.postRemote (s : State) (ev : Event) (due : Nat) : Bool × State :=
  s.postFetch none ev.clu ev.tile (ev.row % 131072) due false

/-- The origin step of an event, resolved from its STEP tag: from the newest step known to be complete to three later (R97). -/
def State.originOf (s : State) (ev : Event) : Nat := s.fabric.known + (ev.step + 4 - s.fabric.known % 4) % 4

/-- The due step of an event: origin + 1 + DLY (R81). -/
def State.dueOf (s : State) (ev : Event) : Nat := s.originOf ev + 1 + ev.dly

/-! ### Places on the bulk network (R159, R160) -/

/-- The switch whose port 5 is a package's attachment (R159). -/
def packageSwitch (k : Nat) : Nat := if k = 0 then 4 else if k = 1 then 8 else if k = 2 then 7 else 11

/-- The package that an LPDDR5X address lies in (R144). -/
def State.packageAt (s : State) (a : Nat) : Nat := (a - ddrBase) / (s.variant.usable / 4)

/-- Lines waiting at a switch input. -/
def State.switchQueue (s : State) (sw port : Nat) : List BulkLine := Assoc.getD s.switchIn (7 * sw + port) []

/-- Lines waiting at a switch input replaced. -/
def State.setSwitchQueue (s : State) (sw port : Nat) (l : List BulkLine) : State :=
  { s with switchIn := Assoc.set (7 * sw + port) l s.switchIn }

end Sys2Proof.Machine
end

