-- ==== Sys2Proof/Machine/Rows.lean ====
section
/-!
DEFINITION. Synapse rows and delivery (03, R56–R88): reading rows, acceptance and the delay ring, spill, and the
expansion of events into port sums and direct-merge (R43–R46, R71–R79).
-/
namespace Sys2Proof.Machine
open Sys2Proof

/-! ### Row format (R64–R69) -/

/-- Where a row's bytes lie: at a device address, or in the cached copy of a far row. -/
inductive RowBytes where
  | at (addr : Nat)
  | cached (data : List Byte)
  deriving DecidableEq, Repr

/-- `n` bytes of a row at an offset, as a number. -/
def State.rowNat (s : State) (r : RowBytes) (off n : Nat) : Nat :=
  match r with
  | .at a => s.word (a + off) n
  | .cached d => leNat ((d.drop off).take n)

/-- A row header (R64). -/
structure RowHeader where
  rfv : Nat
  layout : Nat
  fmt : Nat
  port : Nat
  gsh : Nat
  pgrp : Nat
  nside : Nat
  count : Nat
  base : Nat
  cap : Nat
  plx : Nat
  reserved : Bool
  deriving DecidableEq, Repr

/-- The header that two words spell (R64). -/
def RowHeader.ofWords (w0 w1 : Nat) : RowHeader :=
  { rfv := bitField w0 0 4, layout := bitField w0 4 2, fmt := bitField w0 6 2, port := bitField w0 8 2,
    gsh := bitField w0 10 4, pgrp := bitField w0 16 8, nside := bitField w0 24 7, count := bitField w0 32 17,
    base := bitField w0 49 14, cap := bitField w1 0 17, plx := bitField w1 32 32,
    reserved := bitField w0 14 2 ≠ 0 || natBit w0 31 || natBit w0 63 || bitField w1 17 15 ≠ 0 }

/-- A header met at delivery that holds a reserved encoding, non-zero reserved bits or an unsupported RFV (R78). NSIDE of 65
to 127, which R64 and R68 exclude and no check names, counts as a reserved encoding (DESIGN CHOICE). A non-zero BASE of a
sparse row is ignored here, as R66 forms its targets without it (DESIGN CHOICE; the load rejects it). -/
def RowHeader.bad (h : RowHeader) (range : Nat) : Bool :=
  h.reserved || 1 < h.layout || 2 < h.fmt || h.rfv < range % 256 || range / 256 % 256 < h.rfv || 64 < h.nside

/-- Synapses per weight word (R67). -/
def RowHeader.perWord (h : RowHeader) : Nat := if h.fmt = 0 then 8 else if h.fmt = 1 then 4 else 2

/-- Offset of the target list (R65). -/
def RowHeader.targetOff (h : RowHeader) : Nat := 16 + roundUp (2 * h.nside) 4

/-- Offset of the weight words (R65). -/
def RowHeader.weightOff (h : RowHeader) : Nat :=
  h.targetOff + (if h.layout = 1 then roundUp (2 * h.cap) 4 else 0)

/-- Length of a row in bytes (R65). -/
def RowHeader.length (h : RowHeader) : Nat := roundUp (h.weightOff + 4 * ceilDiv h.cap h.perWord) 8

/-- Offset of the weight word of synapse `i` (R67). -/
def RowHeader.wordOff (h : RowHeader) (i : Nat) : Nat := h.weightOff + 4 * (i / h.perWord)

/-- The code of synapse `i` within its weight word: signed, the weight byte alone of W8P (R67, R69). -/
def RowHeader.codeOf (h : RowHeader) (w i : Nat) : Int :=
  if h.fmt = 0 then signedOf 4 (bitField w (4 * (i % 8)) 4)
  else if h.fmt = 1 then signedOf 8 (bitField w (8 * (i % 4)) 8)
  else signedOf 8 (bitField w (16 * (i % 2) + 8) 8)

/-- Whether a code is the escape of its format (R67). -/
def RowHeader.isEscape (h : RowHeader) (code : Int) : Bool :=
  (h.fmt == 0 && code == -8) || (h.fmt == 1 && code == -128)

/-- The header of a row. -/
def State.rowHeader (s : State) (r : RowBytes) : RowHeader :=
  RowHeader.ofWords (s.rowNat r 0 8) (s.rowNat r 8 8)

/-- The target of synapse `i` (R66). -/
def State.rowTarget (s : State) (r : RowBytes) (h : RowHeader) (i : Nat) : Nat :=
  if h.layout = 1 then bitField (s.rowNat r (h.targetOff + 2 * i) 2) 0 14 else h.base + i

/-! ### Contributions (R43, R45, R46, R71) -/

/-- The contribution of an event through a value, before its clamp (R71). -/
def contribution (ev : Event) (v : Int) (gsh : Nat) : Int :=
  if ev.cls = 0 then ev.cnt * v else rnd (ev.valInt * v) gsh

/-- The touched bit of a neuron set for the present step. -/
def Tile.touch (x : Tile) (i : Nat) : Tile := if x.touched.contains i then x else { x with touched := i :: x.touched }

/-- DIRECT_MERGE: dm_add of R45, with the post report of a port-3 contribution (R177). -/
def State.directMerge (s : State) (c t n i p : Nat) (a : Int) : State :=
  let x := s.tile c t
  let entering := !x.direct.contains i
  let x1 := { x.touch i with direct := if entering then i :: x.direct else x.direct,
                             accSpill := if entering then x.accSpill + 1 else x.accSpill }
  let s1 := s.setTile c t x1
  let s2 := if entering then s1.bumpAt Reg.ACC_SPILL c else s1
  let s3 := if p = 3 ∧ s2.hasPlasticRow c t then s2.sendPost c ⟨t, i, 0, a⟩ else s2
  let w0 := s.neuron c t i
  let cl := s.classAt w0.cls n
  let w := beginStep w0 cl n
  if w.ref then (s3.setNeuron c t i w).bumpAt Reg.REFR_DISCARD c
  else
    let total := w.v + directValue cl p a
    let s4 := s3.setNeuron c t i { w with v := sat20 total }
    let s5 := (s4.setTile c t { s4.tile c t with dmContrib := (s4.tile c t).dmContrib + 1 }).bumpAt Reg.DM_CONTRIB c
    if sat20 total ≠ total then s5.bumpAt Reg.V_SAT c else s5

/-- add(t, PORT, a): into the neuron's accumulator entry, a new entry, or direct-merge (R43, R45). -/
def State.addContribution (s : State) (c t n i p : Nat) (a : Int) : State :=
  let x := s.tile c t
  let cl := s.classAt (s.neuron c t i).cls n
  let put (l : List AccEntry) (e : AccEntry) : State :=
    let r := e.add cl p a
    let s1 := s.setTile c t { x.touch i with acc := l.map fun y => if y.neuron = i then r.1 else y }
    if r.2 then s1.bumpAt Reg.PORT_SAT c else s1
  match x.acc.find? fun e => e.neuron == i with
  | some e => put x.acc e
  | none =>
    if x.acc.length < 2048 ∧ !x.direct.contains i then
      let e : AccEntry := { neuron := i }
      put (x.acc ++ [e]) e
    else s.directMerge c t n i p a

/-! ### Expansion (R72, R73, R79) -/

/-- What the error code found uncorrectable while an event was expanded: the directory entry, the parked event itself,
8-B words of the row, neuron words and accumulator entries (R52, R79, R458). -/
def wordBad (bad : List Nat) (off : Nat) : Bool := bad.contains (off / 8)

/-- Where an expansion stands: the machine, the next side-list entry, whether the count of escapes is unknown after a
bad weight word, and the escapes seen in the present group of 16 with the cycles of the groups before (R72, R73, R79). -/
structure Expand where
  s : State
  m : Nat := 0
  lost : Bool := false
  esc : Nat := 0
  cycles : Nat := 0

/-- A case of R78 recorded once per tile and step. -/
def State.rowNote (s : State) (kind c t n ref : Nat) (st : Status) : State :=
  s.logGated kind (tileKey c t) n { cls := .row, status := st, unit := c, sub := t, ref := ref }

/-- REF of an entry that names a ROW and a synapse (R78): ROW in bits 17:0, the synapse above (DESIGN CHOICE). -/
def synapseRef (row i : Nat) : Nat := row + 2 ^ 18 * i

/-- The contribution of value `v` of synapse `i` to a target, with the checks of R72. -/
def State.deliver (s : State) (c t n i : Nat) (ev : Event) (h : RowHeader) (target : Nat) (v : Int) : State :=
  if (s.tile c t).map.n ≤ target then
    (s.bumpAt Reg.TGT_RANGE c).rowNote 10 c t n (synapseRef ev.row i) .ok
  else if (s.neuron c t target).dead then s.bumpAt Reg.DEAD_DISCARD c
  else
    let a := contribution ev v h.gsh
    let a' := satInt 24 a
    let s1 := if a' ≠ a then s.bumpAt Reg.GRADED_SAT c else s
    s1.addContribution c t n target h.port a'

/-- One synapse of an expansion (R72), with the outcomes of R79 for its failing words. -/
def Expand.synapse (x : Expand) (c t n : Nat) (ev : Event) (r : RowBytes) (h : RowHeader) (bad : List Nat) (i : Nat) :
    Expand :=
  let x := if i % 16 = 0 ∧ i ≠ 0 then { x with cycles := x.cycles + max 1 (ceilDiv x.esc 4), esc := 0 } else x
  let target := x.s.rowTarget r h i
  let targetBad := h.layout = 1 ∧ wordBad bad (h.targetOff + 2 * i)
  if wordBad bad (h.wordOff i) then { x with lost := x.lost || (h.fmt ≠ 2 && h.nside ≠ 0) }
  else
    let code := h.codeOf (x.s.rowNat r (h.wordOff i) 4) i
    if h.fmt ≠ 2 ∧ h.isEscape code then
      if x.lost then { x with esc := x.esc + 1 }
      else
        let s1 := x.s.bumpAt Reg.ESC_USED c
        let x1 := { x with m := x.m + 1, esc := x.esc + 1 }
        if h.nside ≤ x.m then
          let s2 := (s1.bumpAt Reg.ESC_MISS c).rowNote 11 c t n (synapseRef ev.row i) .ok
          { x1 with s := if targetBad then s2 else s2.deliver c t n i ev h target 0 }
        else if wordBad bad (16 + 2 * x.m) ∨ targetBad then { x1 with s := s1 }
        else { x1 with s := s1.deliver c t n i ev h target (signedOf 16 (x.s.rowNat r (16 + 2 * x.m) 2)) }
    else if targetBad then x
    else { x with s := x.s.deliver c t n i ev h target code }

/-- An event discarded at its directory entry or header: one lane cycle (R73). -/
def State.discardCycle (s : State) (c : Nat) : State := s.bumpByAt Reg.LANE_IDLE (0x10 + c) 16

/-- A discarded event for want of a valid row (R78). -/
def State.rowInvalid (s : State) (c t n row : Nat) : State :=
  ((s.bumpAt Reg.ROW_INVALID c).rowNote 12 c t n row .ok).discardCycle c

/-- An uncorrectable error in a row, table or parked event: counted, recorded, carried by the step (R79). -/
def State.rowEcc (s : State) (c t n ref : Nat) : State :=
  ((s.bumpAt Reg.ROW_ECC c).logFault { cls := .row, status := .eccUncorr, unit := c, sub := t, ref := ref }).stepStatus n
    .eccUncorr

/-- 8 bytes of a plastic row, by their place, set to be rewritten by the plasticity engine after the step (R200). -/
def State.wantRecover (s : State) (c : Nat) (row : RowName) (w : Nat) : State :=
  if s.learning.recover.contains (c, row, 8 * w) then s
  else { s with learning := { s.learning with recover := s.learning.recover ++ [(c, row, 8 * w)] } }

/-- Failing words of a near row, reported and kept for their repair: from the image, or by the plasticity engine for a
W8P row (R79, R200). -/
def State.noteBadWords (s : State) (c t n : Nat) (row : RowName) (off : Nat) (plastic : Bool) : List Nat → State
  | [] => s
  | w :: l =>
    let s1 := s.rowEcc c t n (off + 8 * w)
    let s2 := if plastic then s1.wantRecover c row w
      else s1.setTile c t { s1.tile c t with repair := (s1.tile c t).repair ++ [off + 8 * w] }
    s2.noteBadWords c t n row off plastic l

/-- PLASTIC_SPIKE for an expanded plastic row: near rows change their PLX at one extra cycle, far rows send a pre-report
(R174, R175). -/
def State.plasticNote (s : State) (c : Nat) (row : RowName) (r : RowBytes) (h : RowHeader) (ev : Event) (due n : Nat) :
    State :=
  if h.fmt ≠ 2 ∨ ev.cls ≠ 0 then s
  else
    let m := due - 1 - ev.dly
    let src := grpSrcCls (s.group h.pgrp)
    let s1 := s.bumpAt Reg.PLX_SPIKES c
    match r with
    | .at a => (s1.plasticNear c row a m ev.cnt src n).discardCycle c
    | .cached _ => s1.sendPre c { row := row, m := m, cnt := ev.cnt, srcCls := src }

/-- An event expanded through a row found whole (R72): contributions, counters and lane time (R73). -/
def State.expandRow (s : State) (c t n : Nat) (p : Parked) (row : RowName) (r : RowBytes) (bad : List Nat) : State :=
  let h := s.rowHeader r
  let x : Expand := (List.range h.count).foldl (fun x i => Expand.synapse x c t n p.ev r h bad i) { s := s }
  let cycles := if h.count = 0 then 1 else x.cycles + max 1 (ceilDiv x.esc 4)
  let s1 := ((x.s.bumpAt Reg.ROWS_EXP c).bumpByAt Reg.SYN_EXP (0x10 + c) h.count).bumpByAt Reg.LANE_IDLE (0x10 + c)
    (16 * cycles - h.count)
  s1.plasticNote c row r h p.ev p.due n

/-! ### Events of a step at a tile -/

/-- The step a slot of the delay ring serves before any delivery has ended: slot s serves step s, slot 0 step 64. -/
def firstOwner (slot : Nat) : Nat := if slot = 0 then 64 else slot

/-- A slot of the delay ring (R80). -/
def Tile.slot (x : Tile) (k : Nat) : RingSlot := Assoc.getD x.slots k { owner := firstOwner k }

/-- A slot of the delay ring replaced. -/
def Tile.setSlot (x : Tile) (k : Nat) (r : RingSlot) : Tile := { x with slots := Assoc.set k r x.slots }

/-- Records read back for step `n`; those of a later step wait for its delivery (R82, R86). -/
def Tile.backOf (x : Tile) (n : Nat) : List Parked := x.back.filter fun p => p.due == n

/-- Whether a record of a region serves a step: its due bits are bits 11:6 of the step (R86). -/
def SpillRecord.serves (r : SpillRecord) (n : Nat) : Bool := bitField r.word.toNat 54 6 == n / 64 % 64

/-- Records that may serve step `n`, wherever they are: on their way back from the region, in it, on their way to it, and in the
write buffer (R83, R84). -/
def ClusterStore.recordsOf (x : ClusterStore) (n : Nat) : List SpillRecord :=
  ((x.spillBack.filter fun l => l.1 == n).flatMap (·.2)) ++ Assoc.getD x.spill (n % 64) [] ++
    ((x.spillOut.filter fun l => l.1 == n % 64).flatMap (·.2)) ++ (x.spillBuffer.filter fun r => r.1 == n % 64).map (·.2)

/-- Records of a tile for step `n` in its cluster's spill area and write buffer that satisfy `p` (R83). -/
def State.spillSelect (s : State) (c t n : Nat) (p : SpillRecord → Bool) : List SpillRecord :=
  let own (r : SpillRecord) : Bool := r.serves n && bitField r.word.toNat 44 6 == t && p r
  ((s.store c).recordsOf n).filter own

/-- The events of step `n` that may be expanded next: those of the slot and those read back, then those set aside whose row is
not PENDING any more. While a carried event is left, here or still spilled, the step's own events wait (R109). While the
far-wait list is full, delivery waits for the row of its oldest event (R74). -/
def State.expandable (s : State) (c t n : Nat) : List Parked :=
  let x := s.tile c t
  let here := (x.slot (n % 64)).events ++ x.backOf n
  let carriedLeft := here.any (·.carried) || s.spillSelect c t n (·.carried) != []
  let first := if carriedLeft then here.filter (·.carried) else here
  let settled (p : Parked) : Bool := match (s.store c).tag t (p.ev.row % 131072) with
    | some g => g.present
    | none => true
  if 256 ≤ x.farWait.length then (x.farWait.take 1).filter settled else first ++ x.farWait.filter settled

/-- An event taken from where it waits. -/
def Tile.remove (x : Tile) (n : Nat) (p : Parked) : Tile :=
  let r := x.slot (n % 64)
  if r.events.contains p then x.setSlot (n % 64) { r with events := dropFirst p r.events }
  else if x.back.contains p then { x with back := dropFirst p x.back }
  else { x with farWait := dropFirst p x.farWait }

/-- A near event expanded or discarded (R61, R72, R78, R79). -/
def State.expandNear (s : State) (c t n : Nat) (p : Parked) (f : Flaws) : State :=
  let m := (s.tile c t).map
  let row := p.ev.row
  if m.nearRows ≤ row then s.rowInvalid c t n row
  else if f.directory then
    let off := m.dirBase + 4 * row
    let s1 := s.rowEcc c t n off
    (s1.setTile c t { s1.tile c t with repair := (s1.tile c t).repair ++ [off / 8 * 8] }).discardCycle c
  else
    let entry := s.word (sramAddr c t (m.dirBase + 4 * row)) 4
    if !natBit entry 16 then s.rowInvalid c t n row
    else
      let off := 8 * bitField entry 0 16
      let r := RowBytes.at (sramAddr c t off)
      let h := s.rowHeader r
      let name : RowName := ⟨t, false, row⟩
      let s1 := s.noteBadWords c t n name off (h.fmt == 2) f.words
      if f.words.contains 0 ∨ f.words.contains 1 then s1.discardCycle c
      else if h.bad (s.reg Reg.RFV_RANGE) then s.rowInvalid c t n row
      else s1.expandRow c t n p name r f.words

/-- 8-B words that the bad lines of a cached row cover (R155). -/
def badLineWords (lines : List Nat) : List Nat := lines.flatMap fun l => (List.range 8).map fun j => 8 * l + j

/-- A far event whose row is PRESENT, expanded or discarded (R78, R152, R155); a row with a bad line makes the step carry
ECC_UNCORR. -/
def State.expandFar (s : State) (c t n : Nat) (p : Parked) (g : FarTag) : State :=
  let x := s.store c
  let s1 := s.setStore c ((x.modTag t g.f fun g => { g with expanded := true }).useTag t g.f)
  let s0 := if g.failed ∨ g.badLines ≠ [] then s1.stepStatus n .eccUncorr else s1
  let r := RowBytes.cached g.data
  let h := s.rowHeader r
  if g.failed then s0.discardCycle c
  else if g.len = 0 then s0.rowInvalid c t n p.ev.row
  else if g.badLines.contains 0 then s0.discardCycle c
  else if h.bad (s.reg Reg.RFV_RANGE) then s0.rowInvalid c t n p.ev.row
  else
    let words := badLineWords g.badLines
    let weights := if h.fmt = 2 then words.filter fun w => h.weightOff < 8 * w + 8 ∧ 8 * w < h.weightOff + 2 * h.count else []
    (weights.foldl (fun s w => s.wantRecover c ⟨t, true, g.f⟩ w) s0).expandRow c t n p ⟨t, true, g.f⟩ r words

/-- A far event reached at delivery: expanded, set aside for its row, or set aside with a refetch; with a full far-wait
list, delivery waits (R74, R152). -/
def State.reachFar (s : State) (c t n : Nat) (p : Parked) : State :=
  let x := s.tile c t
  let f := p.ev.row % 131072
  let k := packageOf f
  let waiting := x.farWait.contains p
  match (s.store c).tag t f with
  | some g =>
    if g.present then
      let s1 := s.setTile c t (x.remove n p)
      (if waiting then s1 else s1.bumpAt Reg.FRC_HIT c).expandFar c t n p g
    else if 256 ≤ x.farWait.length then s.bumpAt Reg.FARWAIT_STALL c
    else (s.setTile c t { x.remove n p with farWait := x.farWait ++ [p] }).bumpFar Reg.FRC_WAIT c k 1
  | none =>
    if waiting then s.refetch c t f n
    else if 256 ≤ x.farWait.length then s.bumpAt Reg.FARWAIT_STALL c
    else ((s.setTile c t { x.remove n p with farWait := x.farWait ++ [p] }).bumpAt Reg.REFETCH c).refetch c t f n

/-- Whether an event would send a pre-report that finds the queue full (R175). -/
def State.prePaused (s : State) (c t : Nat) (p : Parked) : Bool :=
  natBit p.ev.row 17 && p.ev.cls == 0 && 256 ≤ (s.plast c).pre.length &&
    match (s.store c).tag t (p.ev.row % 131072) with
    | some g => g.present && (s.rowHeader (.cached g.data)).fmt == 2
    | none => false

/-- Where a parked event lies in tile SRAM: its place in its slot; the slot's beginning for one read back or set aside
(R80). -/
def Tile.parkedAt (x : Tile) (n : Nat) (p : Parked) : Nat :=
  let l := (x.slot (n % 64)).events
  x.map.ringBase + 8 * x.map.e * (n % 64) + (if l.contains p then 8 * l.idxOf p else 0)

/-- EVENT_EXPAND: a tile takes one of the events of its step (the `pick`-th that may be expanded) and expands it through
its row, sets it aside or discards it (R72–R79); `f` says what the error code found uncorrectable. Each command that finds none
while the far-wait list is full is a cycle of FARWAIT_STALL (R74). -/
def execEventExpand (c : ClusterId) (t : TileId) (pick : Nat) (f : Flaws) (s : State) :
    Host.Outcome State Fault Refusal :=
  match (s.tile c.val t.val).phase with
  | .deliver n =>
    match (s.expandable c.val t.val n)[pick]? with
    | none => .next (if 256 ≤ (s.tile c.val t.val).farWait.length then s.bumpAt Reg.FARWAIT_STALL c.val else s)
    | some p =>
      let s0 := s.tileProgress c.val t.val
      if s0.prePaused c.val t.val p then .next (s0.bumpAt Reg.PRE_PAUSE c.val)
      else
        let s1 := (s0.reinitAll c.val t.val n f.neurons).accLost c.val t.val n f.accs
        if p.ev.payBad ∨ f.parked then
          let s2 := s1.setTile c.val t.val ((s1.tile c.val t.val).remove n p)
          .next ((s2.rowEcc c.val t.val n ((s1.tile c.val t.val).parkedAt n p)).discardCycle c.val)
        else if natBit p.ev.row 17 then .next (s1.reachFar c.val t.val n p)
        else
          let s2 := s1.setTile c.val t.val ((s1.tile c.val t.val).remove n p)
          .next (s2.expandNear c.val t.val n p f)
  | _ => .next s

/-! ### Spill (R83–R86) -/

/-- Bytes of one region of a spill area, and the address of a cluster's region (R83). -/
def State.spillRegion (s : State) : Nat := s.reg Reg.SPILL_SIZE / 64
def State.spillBase (s : State) (c slot : Nat) : Nat := Assoc.getD s.spillAt c 0 + slot * s.spillRegion

/-- Records that one region of a cluster's spill area holds (R83); a cluster to which the image gives no area has no room. -/
def State.spillRoom (s : State) (c : Nat) : Nat := if (Assoc.get? c s.spillAt).isSome then s.spillRegion / 8 else 0

/-- Records bound for a region that have not reached it: in the write buffer, and in lines on their way (R84). -/
def ClusterStore.bound (x : ClusterStore) (slot : Nat) : List SpillRecord :=
  ((x.spillOut.filter fun l => l.1 == slot).flatMap (·.2)) ++ (x.spillBuffer.filter fun r => r.1 == slot).map (·.2)

/-- Records of a region, and those bound for it. -/
def State.spillLoad (s : State) (c slot : Nat) : Nat :=
  (Assoc.getD (s.store c).spill slot []).length + ((s.store c).bound slot).length

/-- Where record `i` of a region lies, counted from the head of its circular buffer (R83). -/
def State.recordAddr (s : State) (c slot i : Nat) : Nat :=
  s.spillBase c slot + 8 * ((Assoc.getD (s.store c).spillHead slot 0 + i) % s.spillRoom c)

/-- The records of a region stored again from its head on. -/
def State.layRegion (s : State) (c slot : Nat) : State :=
  let l := Assoc.getD (s.store c).spill slot []
  (List.range l.length).foldl (fun (u : State) i => match l[i]? with
    | some r => u.setWord (s.recordAddr c slot i) 8 r.word.toNat
    | none => u) s

/-- The record of an event: DEV is replaced by bits 11:6 of the due step (R83). -/
def spillRecord (ev : Event) (due : Nat) (carried : Bool) : SpillRecord :=
  { word := (ev.set 54 6 (due / 64)).word, stream := ev.stream, carried := carried, payBad := ev.payBad }

/-- The event of a record, its DEV that of this device. -/
def State.spilledEvent (s : State) (r : SpillRecord) : Event :=
  Event.set { word := r.word, stream := r.stream, payBad := r.payBad } 54 6 (s.reg Reg.DEV_NUM)

/-- DELAY_SPILL: an event written to the spill buffer, or dropped at a full region (R84, R85). -/
def State.spillEvent (s : State) (c : Nat) (ev : Event) (due : Nat) (carried : Bool) : State :=
  if s.spillRoom c ≤ s.spillLoad c (due % 64) then
    ((s.bumpAt Reg.DLY_DROP c).logGated 13 c due
      { cls := .drop, status := .dropped, unit := c, ref := due }).stepStatus due .dropped
  else
    let x := s.store c
    (s.setStore c { x with spillBuffer := x.spillBuffer ++ [(due % 64, spillRecord ev due carried)] }).bumpAt
      Reg.DLY_SPILL c

/-- Whether a region of a cluster lies above, or not below, the high-water mark (R85). -/
def State.spillHigh (s : State) (c : Nat) (strict : Bool) : Bool :=
  (s.store c).spill.any fun r =>
    let fill := 100 * r.2.length
    let mark := s.reg Reg.SPILL_HWM * s.spillRoom c
    if strict then mark < fill else mark ≤ fill

/-- The cluster's bit of SPILL_ABOVE given a value. -/
def State.setSpillAbove (s : State) (c : Nat) (b : Bool) : State :=
  s.setReg Reg.SPILL_ABOVE (setBitField (s.reg Reg.SPILL_ABOVE) c 1 (boolNat b))

/-- One record appended to its region and stored there: occupancy, its peak and its rise past the mark (R83, R85). -/
def State.fileRecord (s : State) (c slot : Nat) (r : SpillRecord) : State :=
  let x := s.store c
  let old := Assoc.getD x.spill slot []
  let l := old ++ [r]
  let mark := s.reg Reg.SPILL_HWM * s.spillRoom c
  let s1 := ((s.setWord (s.recordAddr c slot old.length) 8 r.word.toNat).setStore c
    { x with spill := Assoc.set slot l x.spill }).peakAt Reg.SPILL_PEAK c l.length
  if 100 * (l.length - 1) ≤ mark ∧ mark < 100 * l.length then
    (s1.bumpAt Reg.SPILL_HW_CROSS c).setSpillAbove c true
  else s1

/-- The oldest line of records on its way arrives at the spill area; the records of a line found uncorrectable are parked as
uncorrectable events (R79, R84, R458). -/
def State.spillLand (s : State) (c : Nat) (bad : Bool) : State :=
  let x := s.store c
  match x.spillOut with
  | [] => s
  | (slot, line) :: rest =>
    (line.map fun r => { r with payBad := r.payBad || bad }).foldl (fun s r => s.fileRecord c slot r)
      (s.setStore c { x with spillOut := rest })

/-- SPILL_BUFFER_DRAIN: a 64-B line of records, those of the oldest record's region, leaves the write buffer for the cluster's
local port, where it waits for a SPILL_W slot; a full port, and a change of schedule, make it wait (R84, R160, R164). -/
def execSpillBufferDrain (c : ClusterId) (s : State) : Host.Outcome State Fault Refusal :=
  let x := s.store c.val
  match x.spillBuffer with
  | [] => .next s
  | (slot, _) :: _ =>
    if 16 ≤ (s.switchQueue c.val 0).length ∨ s.drainFrom.isSome then .next s
    else
      let line := (x.spillBuffer.filter fun r => r.1 == slot).take 8
      let records := line.map (·.2)
      let s1 := s.setStore c.val { x with
        spillBuffer := line.foldl (fun l r => dropFirst r l) x.spillBuffer, spillOut := x.spillOut ++ [(slot, records)] }
      .next (s1.setSwitchQueue c.val 0 (s1.switchQueue c.val 0 ++
        [{ kind := 1, clu := c.val, data := records.flatMap fun r => leBytes 8 r.word.toNat }]))

/-! ### Parking (R81, R109, R111) -/

/-- An event parked for a due step: in its slot where that serves the step and has room, else spilled (R81). -/
def State.park (s : State) (c t : Nat) (ev : Event) (due : Nat) (carried : Bool) : State :=
  let x := s.tile c t
  let r := x.slot (due % 64)
  if r.owner = due ∧ r.events.length < x.map.e then
    (s.setTile c t (x.setSlot (due % 64) { r with events := r.events ++ [{ ev := ev, due := due, carried := carried }] })).peakAt
      Reg.RING_PEAK c (r.events.length + 1)
  else s.spillEvent c ev due carried

/-- The due step at which an accepted event is parked, and whether it is carried or late: an event whose delivery SPILL
closed goes to the next step; one whose due step has been delivered goes to the oldest undelivered slot (R109, R111). -/
def Tile.parkStep (x : Tile) (due : Nat) : Nat × Bool × Bool :=
  if x.delivered < due then (due, false, false)
  else if due = x.spillClosed then (due + 1, true, false)
  else (x.delivered + 1, false, true)

/-- Whether parking at a step would need the spill buffer while that is full (R84). -/
def State.parkBlocked (s : State) (c t step : Nat) : Bool :=
  let x := s.tile c t
  let r := x.slot (step % 64)
  !(r.owner == step && r.events.length < x.map.e) && 512 ≤ (s.store c).spillBuffer.length &&
    s.spillLoad c (step % 64) < s.spillRoom c

/-- An event re-parked under SPILL: counted; the first of each step is recorded (R109). -/
def State.noteCarry (s : State) (c t n : Nat) : State :=
  (s.bump Reg.LATE_CARRY).logGated 18 0 n { cls := .drop, status := .late, unit := c, sub := t, ref := n }

/-- The tag of a re-parked event's far row is demanded for the step it is re-parked for (R109, R154). -/
def State.raiseDue (s : State) (c t : Nat) (ev : Event) (due : Nat) : State :=
  if natBit ev.row 17 then
    s.setStore c ((s.store c).modTag t (ev.row % 131072) fun g => { g with due := max g.due due })
  else s

/-- An event re-parked for the next step. Where it would spill and the write buffer is full, it stays with its tile, which
expands it in that step among the carried ones (R84, R109; DESIGN CHOICE: the spec states no re-parking into a full buffer). -/
def State.repark (s : State) (c t : Nat) (ev : Event) (due : Nat) : State :=
  let s1 :=
    if s.parkBlocked c t due then
      let x := s.tile c t
      s.setTile c t { x with back := x.back ++ [{ ev := ev, due := due, carried := true }] }
    else s.park c t ev due true
  s1.raiseDue c t ev due

/-- An event counted as received at a tile (R93). -/
def State.countReceived (s : State) (c t : Nat) (ev : Event) : State :=
  let x := s.tile c t
  if ev.stream then s.setTile c t { x with srcvd := x.srcvd.add ev.step 1 }
  else (s.noteCounts ev.step).setTile c t { x with frcvd := x.frcvd.add ev.step 1 }

/-- FENCED_DISCARD: an event for a fenced tile counted as received at the router and discarded (R140). -/
def State.fencedDiscard (s : State) (c : Nat) (ev : Event) : State :=
  let r := s.router c
  let r1 := if ev.stream then { r with srcvd := r.srcvd.add ev.step 1 } else { r with frcvd := r.frcvd.add ev.step 1 }
  let step := s.originOf ev
  ((((if ev.stream then s else s.noteCounts ev.step).setRouter c r1).bumpAt Reg.FENCED_DISCARD c).logGated 14 c step
    { cls := .drop, status := .degraded, unit := c, sub := ev.tile / 4, ref := ev.step }).stepStatus step .degraded

/-- The tiles of a quad in round-robin order after the one taken last (R120). -/
def quadOrder (q last : Nat) : List Nat := [1, 2, 3, 4].map fun k => 4 * q + (last + k) % 4

/-- The oldest event that waits at its quad's output for a tile. -/
def State.ejectHead (s : State) (c t : Nat) : Option Event :=
  (Assoc.getD (s.router c).ejects (t / 4) []).find? fun ev => ev.tile == t

/-- The oldest event for a tile removed from its quad's output, as the tile takes it; the quad's round robin goes on after
the tile (R120). -/
def State.popEject (s : State) (c t : Nat) : State :=
  let r := s.router c
  match s.ejectHead c t with
  | none => s
  | some ev =>
    s.setRouter c { r with
      ejects := Assoc.set (t / 4) (dropFirst ev (Assoc.getD r.ejects (t / 4) [])) r.ejects
      ejectLast := Assoc.set (t / 4) (t % 4) r.ejectLast }

/-- Whether the oldest event for a tile waits for room in the spill write buffer, the one thing acceptance waits on (R84,
R126). -/
def State.acceptBlocked (s : State) (c t : Nat) (ev : Event) : Bool :=
  let x := s.tile c t
  ev.cls != 3 && !x.fenced && x.map.n != 0 && s.parkBlocked c t (x.parkStep (s.dueOf ev)).1

/-- Whether a tile is the one its quad's round robin serves next: the first with an event that does not wait (R120). -/
def State.ejectTurn (s : State) (c t : Nat) : Bool :=
  let ready (u : Nat) : Bool := match s.ejectHead c u with
    | none => false
    | some ev => !s.acceptBlocked c u ev
  (quadOrder (t / 4) (Assoc.getD (s.router c).ejectLast (t / 4) 3)).find? ready == some t

/-- An event taken by a tile: counted, parked, carried or spilled (R78, R81, R109, R111). -/
def State.acceptEvent (s : State) (c t : Nat) (ev : Event) : State :=
  let x := s.tile c t
  let s1 := (s.countReceived c t ev).bumpAt Reg.EV_EJECT c
  if x.map.n = 0 then s1.rowInvalid c t s.fabric.learned ev.row
  else
    let p := x.parkStep (s.dueOf ev)
    let s2 := s1.park c t ev p.1 p.2.1
    if p.2.1 then (s2.noteCarry c t x.spillClosed).raiseDue c t ev p.1
    else if p.2.2 then
      ((s2.bump Reg.LATE_ARRIVE).stepStatus p.1 .late).logGated 15 (tileKey c t) p.1
        { cls := .step, status := .late, unit := c, sub := t, ref := ev.row }
    else s2

/-- TILE_ACCEPT: the oldest event that waits for the tile is accepted, where the quad's round robin serves the tile (R81,
R120); `pay` is the verdict of the payload code, which the tile checks on acceptance (R119). -/
def execTileAccept (c : ClusterId) (t : TileId) (pay : Ecc) (s : State) : Host.Outcome State Fault Refusal :=
  match s.ejectHead c.val t.val with
  | none => .next s
  | some ev0 =>
    if ev0.cls = 3 ∨ !s.ejectTurn c.val t.val then .next s
    else
      let ev := if pay = .uncorrectable then { ev0 with payBad := true } else ev0
      let s1 := s.popEject c.val t.val
      if (s.tile c.val t.val).fenced then .next (s1.fencedDiscard c.val ev)
      else .next (s1.acceptEvent c.val t.val ev)

/-- SERVICE_EVENT_ACCEPT: a doorbell event accepted, counted, and its record passed to the sequencer's FIFO or dropped
(R138). Its payload code is not judged: R119 parks an event found uncorrectable, R138 parks no service event, and the record
is passed as it is (DESIGN CHOICE). -/
def execServiceEventAccept (c : ClusterId) (t : TileId) (s : State) : Host.Outcome State Fault Refusal :=
  match s.ejectHead c.val t.val with
  | none => .next s
  | some ev =>
    if ev.cls ≠ 3 ∨ !s.ejectTurn c.val t.val then .next s
    else
      let s0 := s.popEject c.val t.val
      if (s.tile c.val t.val).fenced then .next (s0.fencedDiscard c.val ev)
      else
        let s1 := ((s0.countReceived c.val t.val ev).bumpAt Reg.EV_EJECT c.val).bumpAt Reg.SVC_ACCEPT c.val
        let r := s1.router c.val
        let record := BitVec.ofNat 32 (packFields [(0, 16, ev.val), (16, 2, ev.step), (18, 6, ev.row / 4096)])
        if r.doorbell.length < 64 then
          .next ((s1.setRouter c.val { r with doorbell := r.doorbell ++ [record] }).wakeSeq c.val)
        else .next ((s1.bumpAt Reg.DOORBELL_DROP c.val).logGated 16 c.val (s.originOf ev)
          { cls := .drop, status := .dropped, unit := c.val, sub := t.val / 4, ref := ev.step })

/-! ### Delivery of a step (R82, R86, R92) -/

/-- DELIVERY_BEGIN: a tile that knows of the release of the next step and has finished its previous update begins
delivering it (R92). -/
def execDeliveryBegin (c : ClusterId) (t : TileId) (s : State) : Host.Outcome State Fault Refusal :=
  let x := s.tile c.val t.val
  let n := x.updated + 1
  if x.phase = .idle ∧ x.map.n ≠ 0 ∧ !x.fenced ∧ n ≤ s.fabric.learned then
    .next (s.setTile c.val t.val { x with phase := .deliver n, progressAt := s.now })
  else .next s

/-- Whether a cluster's spill area, or a line on its way to or from it, still holds a record of step `n` (R82). -/
def State.spillLeft (s : State) (c n : Nat) : Bool := ((s.store c).recordsOf n).any fun r => r.serves n

/-- Steps whose records the spill reader of a cluster may take: those in delivery, and those SPILL has closed (R86,
R109). -/
def State.readerSteps (s : State) (c : Nat) : List Nat :=
  s.tiles.flatMap fun e =>
    if e.1 / 64 = c then
      (match e.2.phase with
        | .deliver n => [n]
        | _ => []) ++ (if e.2.spillClosed = 0 then [] else [e.2.spillClosed])
    else []

/-- A record read back for step `n`: to its tile's delivery, or re-filed as carried where SPILL has closed that (R86,
R109). -/
def State.readBack (s : State) (c n : Nat) (r : SpillRecord) : State :=
  let ev := s.spilledEvent r
  let y := s.tile c ev.tile
  if n ≤ y.delivered then (s.repark c ev.tile ev (y.delivered + 1)).noteCarry c ev.tile n
  else s.setTile c ev.tile { y with back := y.back ++ [{ ev := ev, due := n, carried := r.carried }] }

/-- The records at the head of a region that serve a step, at most one line of 64 B (R83, R86). -/
def ClusterStore.headLine (x : ClusterStore) (n : Nat) : List SpillRecord :=
  ((Assoc.getD x.spill (n % 64) []).take 8).takeWhile fun r => r.serves n

/-- The head line of a region read and sent on its way over the cluster's SPILL_R slots (R86); SPILL_ABOVE follows the
occupancy (R85). The records are read where they lie in LPDDR5X. -/
def State.sendSpilled (s : State) (c n sw : Nat) : State :=
  let x := s.store c
  let slot := n % 64
  let k := (x.headLine n).length
  let line := (List.range k).zip (x.headLine n) |>.map fun r =>
    { r.2 with word := BitVec.ofNat 64 (s.word (s.recordAddr c slot r.1) 8) }
  let s1 := s.setStore c { x with
    spill := Assoc.set slot ((Assoc.getD x.spill slot []).drop k) x.spill
    spillHead := Assoc.set slot (Assoc.getD x.spillHead slot 0 + k) x.spillHead
    spillBack := x.spillBack ++ [(n, line)] }
  let s2 := if s1.spillHigh c false then s1 else s1.setSpillAbove c false
  s2.setSwitchQueue sw 5 (s2.switchQueue sw 5 ++
    [{ kind := 2, clu := c, data := line.flatMap fun r => leBytes 8 r.word.toNat }])

/-- SPILL_READBACK: the records at the head of a region, where they are of a step the reader takes, leave the package that
holds the spill area, whose attachment has room for their line; a change of schedule makes them wait (R86, R160, R164). -/
def execSpillReadback (c : ClusterId) (s : State) : Host.Outcome State Fault Refusal :=
  let sw := packageSwitch (s.packageAt (Assoc.getD s.spillAt c.val 0))
  if 16 ≤ (s.switchQueue sw 5).length ∨ s.drainFrom.isSome then .next s
  else match (s.readerSteps c.val).find? fun n => (s.store c.val).headLine n != [] with
    | none => .next s
    | some n => .next (s.sendSpilled c.val n sw)

/-- The oldest line of records read back reaches its cluster, and each record goes to the tile it names; those of a line found
uncorrectable are uncorrectable events (R79, R86, R458). -/
def State.spillReturn (s : State) (c : Nat) (bad : Bool) : State :=
  let x := s.store c
  match x.spillBack with
  | [] => s
  | (n, line) :: rest =>
    line.foldl (fun s r => s.readBack c n { r with payBad := r.payBad || bad }) (s.setStore c { x with spillBack := rest })

/-- A slot emptied at the end of a step's delivery and given to the step 64 later (R81). -/
def Tile.endDelivery (x : Tile) (n : Nat) : Tile :=
  { x.setSlot (n % 64) { owner := n + 64, events := [] } with phase := .closed n, delivered := n }

/-- DELIVERY_END (R82). -/
def execDeliveryEnd (c : ClusterId) (t : TileId) (s : State) : Host.Outcome State Fault Refusal :=
  let x := s.tile c.val t.val
  match x.phase with
  | .deliver n =>
    if n ≤ s.fabric.known + 1 ∧ (x.slot (n % 64)).events = [] ∧ x.backOf n = [] ∧ x.farWait = [] ∧ !s.spillLeft c.val n then
      .next (s.setTile c.val t.val { x.endDelivery n with progressAt := s.now })
    else .next s
  | _ => .next s

/-! ### SPILL and SHED (R109, R110) -/

/-- Unexpanded events of the step a tile delivers: in the slot, read back, and set aside. -/
def Tile.unexpanded (x : Tile) (n : Nat) : List Parked := (x.slot (n % 64)).events ++ x.backOf n ++ x.farWait

/-- Those records discarded, the rest of the region moved together behind its head; SPILL_ABOVE follows the occupancy (R85). -/
def State.spillDiscard (s : State) (c t n : Nat) (p : SpillRecord → Bool) : State :=
  let own (r : SpillRecord) : Bool := r.serves n && bitField r.word.toNat 44 6 == t && p r
  let sift (slot : Nat) (l : Nat × List SpillRecord) : Nat × List SpillRecord :=
    if l.1 = slot then (l.1, l.2.filter fun r => !own r) else l
  let x := s.store c
  let s1 := (s.setStore c { x with
    spillBuffer := x.spillBuffer.filter fun r => !(r.1 == n % 64 && own r.2)
    spillOut := x.spillOut.map (sift (n % 64))
    spillBack := x.spillBack.map (sift n)
    spill := Assoc.set (n % 64) ((Assoc.getD x.spill (n % 64) []).filter fun r => !own r) x.spill }).layRegion c (n % 64)
  if s1.spillHigh c false then s1 else s1.setSpillAbove c false

/-- The unexpanded events of a step replaced by those that satisfy `p`. -/
def Tile.keepEvents (x : Tile) (n : Nat) (p : Parked → Bool) : Tile :=
  let r := x.slot (n % 64)
  { x.setSlot (n % 64) { r with events := r.events.filter p } with
    back := x.back.filter fun q => q.due != n || p q, farWait := x.farWait.filter p }

/-- Carried events still unexpanded at their second due time, dropped, wherever they wait (R109). -/
def State.dropCarried (s : State) (c t n : Nat) : State :=
  let x := s.tile c t
  let k := ((x.unexpanded n).filter (·.carried)).length + (s.spillSelect c t n (·.carried)).length
  if k = 0 then s
  else
    ((((s.setTile c t (x.keepEvents n fun p => !p.carried)).spillDiscard c t n (·.carried)).bumpBy Reg.LATE_DROP k).logGated
      17 0 n { cls := .drop, status := .dropped, unit := c, sub := t, ref := n }).stepStatus n .dropped

/-- One re-parked event: for the next step, marked carried (R109). -/
def State.carryEvent (s : State) (c t n : Nat) (p : Parked) : State := (s.repark c t p.ev (n + 1)).noteCarry c t n

/-- SPILL_CARRY: a tile closes delivery of `n` and re-parks its unexpanded events (R109). -/
def State.spillCarry (s : State) (c t n : Nat) : State :=
  let s1 := s.dropCarried c t n
  let x := s1.tile c t
  let l := x.unexpanded n
  let s2 := s1.setTile c t { (x.endDelivery n) with back := x.back.filter fun p => p.due ≠ n, farWait := [], spillClosed := n }
  l.foldl (fun s p => s.carryEvent c t n p) s2

/-- Whether SHED_MASK selects a CLS (R110, R114). -/
def shedSelects (mask cls : Nat) : Bool := cls < 3 && natBit mask cls

/-- The counter of a CLS dropped under SHED. -/
def shedCounter (cls : Nat) : Obj :=
  if cls = 0 then Reg.SHED_SPIKE else if cls = 1 then Reg.SHED_GRADED else Reg.SHED_ERROR

/-- Something dropped under SHED: the step carries DROPPED, and the first drop per tile and step is recorded (R110). -/
def State.noteShed (s : State) (c t n : Nat) : State :=
  (s.logGated 19 (tileKey c t) n { cls := .drop, status := .dropped, unit := c, sub := t, ref := n }).stepStatus n .dropped

/-- SHED at one tile: unexpanded events and held-back fan-out of the selected classes are dropped (R110). Fan-out of the step is
held back only once the tile has updated: the mask stays with the tile, and DEST_LIST_READ drops what it would hold back
(DEDUCED). -/
def State.shedTile (s : State) (c t n mask : Nat) : State :=
  let x := s.tile c t
  let selected (p : Parked) : Bool := shedSelects mask p.ev.cls
  let heldOut (h : HeldBack) : Bool := h.step == n && shedSelects mask h.ev.cls
  let dropped := (x.unexpanded n).filter selected
  let spilled (r : SpillRecord) : Bool := shedSelects mask (bitField r.word.toNat 62 2)
  let records := s.spillSelect c t n spilled
  let outs := (x.holdback.filter heldOut).length
  let s1 := s.setTile c t { x.keepEvents n (fun p => !selected p) with
    holdback := x.holdback.filter fun h => !heldOut h, shed := some (n, mask) }
  let s2 := s1.spillDiscard c t n spilled
  let s3 := dropped.foldl (fun s p => s.bump (shedCounter p.ev.cls)) s2
  let s4 := records.foldl (fun s r => s.bump (shedCounter (bitField r.word.toNat 62 2))) s3
  let s5 := s4.bumpBy Reg.SHED_HOLDBACK outs
  if dropped = [] ∧ outs = 0 ∧ records = [] then s5 else s5.noteShed c t n

/-- The step a tile delivers, or will deliver next. -/
def Tile.delivering (x : Tile) : Nat := x.delivered + 1

/-- CARRY_DROP: at the due time of the step that a tile delivers, or will deliver next, its carried events still unexpanded
are dropped (R109). -/
def execCarryDrop (c : ClusterId) (t : TileId) (s : State) : Host.Outcome State Fault Refusal :=
  let n := (s.tile c.val t.val).delivering
  match s.fabric.flights.find? fun f => f.n == n with
  | some f => if f.due.any fun d => d ≤ s.clock then .next (s.dropCarried c.val t.val n) else .next s
  | none => .next s

end Sys2Proof.Machine
end

