-- ==== Sys2Proof/Machine/Bulk.lean ====
section
/-!
DEFINITION. The bulk network (R159–R164): slot tables, the lines that their slots move, and the change of their version.
-/
namespace Sys2Proof.Machine
open Sys2Proof

/-! ### The bulk network (R159–R164) -/

/-- A slot entry of a switch output in the active version (R160). -/
def State.slotEntry (s : State) (sw out slot : Nat) : Nat :=
  Assoc.getD (if s.slotVersion then s.slots1 else s.slots0) (256 * (7 * sw + out) + slot) 0

/-- The package whose attachment is port 5 of a switch (R159). -/
def attachedPackage (sw : Nat) : Option Nat :=
  match sw with
  | 4 => some 0 | 8 => some 1 | 7 => some 2 | 11 => some 3
  | _ => none

/-- The FETCH slots an attachment's table gives a cluster in a frame: s(c, k) of R157. -/
def State.fetchSlots (s : State) (sw c : Nat) : Nat :=
  (List.range 1792).foldl (fun a i =>
    let e := s.slotEntry sw (i / 256) (i % 256)
    if bitField e 0 3 = 5 ∧ natBit e 3 ∧ bitField e 4 4 = 0 ∧ bitField e 8 4 = c then a + 1 else a) 0

/-- The next line that a package's attachment sends to a cluster in a FETCH slot: a demand line, else a speculative line
within the frame's allowance (R157), while the package has lines left in the frame (R162). The line is read as it is sent. -/
def State.sendLine (s : State) (sw k c : Nat) : Option BulkLine × State :=
  let x := s.fetchEngine k
  let open' := x.jobs.filter fun j => j.cluster = c
  let spent := Assoc.getD x.spec c 0
  let allowed := s.specPctEff * s.fetchSlots sw c / 100
  let pick := match open'.find? fun j => !s.speculative j with
    | some j => some (j, false)
    | none => if spent < allowed then open'.head?.map fun j => (j, true) else none
  match (if x.frameLines < packageLines then pick else none) with
  | none => (none, s)
  | some (j, spec) =>
    let line : BulkLine := { kind := 0, clu := c, dest := 7 * c, tile := j.tile, f := j.f, index := j.sent,
                             data := s.bytes (j.addr + 64 * j.sent) 64 }
    let jobs := if j.sent + 1 = j.len then dropFirst j x.jobs
      else x.jobs.map fun i => if i = j then { i with sent := i.sent + 1 } else i
    let s1 := s.setFetch k { x with jobs := jobs, spec := if spec then Assoc.set c (spent + 1) x.spec else x.spec,
                                    frameLines := x.frameLines + 1 }
    let s2 := s1.bumpFar Reg.FETCH_LINES c k 1
    (some line, if spec then s2.bumpAt Reg.SPEC_LINES c else s2)

/-- The switch and input port that an output leads to: N, E, S, W neighbours of the 4 × 4 mesh (R159). -/
def neighbour (sw out : Nat) : Option (Nat × Nat) :=
  match out with
  | 1 => if 4 ≤ sw then some (sw - 4, 3) else none
  | 2 => if sw % 4 < 3 then some (sw + 1, 4) else none
  | 3 => if sw < 12 then some (sw + 4, 1) else none
  | 4 => if 0 < sw % 4 then some (sw - 1, 2) else none
  | _ => none

/-- Whether a port of a switch exists: links to neighbours, the local port, and the attachments of R159. -/
def portExists (sw port : Nat) : Bool :=
  if port = 0 then true
  else if port ≤ 4 then (neighbour sw port).isSome
  else if port = 5 then sw ≠ 1 && sw ≠ 2
  else port = 6 && sw == 15

/-- The line that a source at a port offers to a slot: the package's next FETCH line, or, in a slot of KIND 3 to 7, the line that
`offer` says is waiting there for the Mover, Commons, Intake, plasticity or management (R159, R160). No source admits lines while
a change of schedule drains the switches (R164). -/
def State.offerLine (s : State) (sw port kind clu : Nat) (offer : Option BulkOffer) : Option BulkLine × State :=
  if s.drainFrom.isSome then (none, s)
  else if kind = 0 then
    match attachedPackage sw with
    | some k => if port = 5 then s.sendLine sw k clu else (none, s)
    | none => (none, s)
  else match offer with
    | some x =>
      if 3 ≤ kind ∧ x.kind = kind ∧ x.clu.val = clu ∧ (neighbour sw port).isNone ∧ portExists sw port then
        (some { kind := kind, clu := clu, dest := x.dest, data := x.data }, s)
      else (none, s)
    | none => (none, s)

/-- The oldest line of a KIND and CLU taken from a switch input, or from the source at that port (R160). -/
def State.takeLine (s : State) (sw port kind clu : Nat) (offer : Option BulkOffer) : Option BulkLine × State :=
  let q := s.switchQueue sw port
  match q.find? fun l => l.kind == kind && l.clu == clu with
  | some l => (some l, s.setSwitchQueue sw port (dropFirst l q))
  | none => s.offerLine sw port kind clu offer

/-- A line moved out of a switch output: into the neighbour's input; a FETCH line to its cluster's cache; spilled records into
their region or back to their tiles; any other line to what is attached there (R159, R160). At its end an uncorrectable line is
counted, and discarded where no rule of its consumer takes it: COMMONS, INTAKE and MGMT lines (R458). -/
def State.putLine (s0 : State) (sw out : Nat) (l : BulkLine) : State :=
  match neighbour sw out with
  | some (d, port) => s0.setSwitchQueue d port (s0.switchQueue d port ++ [l])
  | none =>
    let s := if l.bad then s0.bump Reg.BULK_ECC else s0
    if l.bad ∧ (l.kind = 4 ∨ l.kind = 5 ∨ l.kind = 7) then s
    else if l.kind = 0 ∧ out = 0 then s.setStore sw { s.store sw with landed := (s.store sw).landed ++ [l] }
    else if l.kind = 1 ∧ out = 5 then s.spillLand l.clu l.bad
    else if l.kind = 2 ∧ out = 0 then s.spillReturn l.clu l.bad
    else s.emit (.bulkLine sw out l.kind l.clu l.dest l.bad l.data)

/-- Room behind a switch output, which exists: an input holds 16 lines (R160). -/
def State.outputRoom (s : State) (sw out : Nat) : Bool :=
  match neighbour sw out with
  | some (d, port) => (s.switchQueue d port).length < 16
  | none => portExists sw out

/-- The frame's counts of the package at a switch start again at a new frame (R157, R162). -/
def State.frameStart (s : State) (sw slot : Nat) : State :=
  match attachedPackage sw with
  | none => s
  | some k =>
    let x := s.fetchEngine k
    s.setFetch k (if slot < x.lastSlot then { x with lastSlot := slot, spec := [], frameLines := 0 } else { x with lastSlot := slot })

/-- BULK_SLOT_MOVE: one slot of one switch output (R160, R161); `offer` is the line that a source other than the far-row and spill
flows has waiting at the slot's input, and `bad` says that the line moved was found uncorrectable end to end: it is marked for
its consumer (R458). -/
def execBulkSlotMove (sw : ClusterId) (out : Fin 7) (slot : Fin 256) (bad : Bool) (offer : Option BulkOffer) (s : State) :
    Host.Outcome State Fault Refusal :=
  let s0 := s.frameStart sw.val slot.val
  let e := s0.slotEntry sw.val out.val slot.val
  if !natBit e 3 ∨ !s0.outputRoom sw.val out.val then .next s0
  else
    let kind := bitField e 4 4
    let clu := bitField e 8 4
    match s0.takeLine sw.val (bitField e 0 3) kind clu offer with
    | (some l, s1) => .next (s1.putLine sw.val out.val { l with bad := l.bad || bad })
    | (none, s1) => .next (if kind = 0 then s1.bumpAt Reg.SLOT_IDLE_FETCH clu else s1)

/-- SCHED_VERSION_SWITCH: every switch input is empty and all switches change version; the time since the sources
stopped is the drain time, and the release that began it the switch step (R164). -/
def execSchedVersionSwitch (s : State) : Host.Outcome State Fault Refusal :=
  match s.drainFrom with
  | none => .next s
  | some t =>
    if s.switchIn.any fun q => q.2 != [] then .next s
    else
      let s1 := { s with slotVersion := !s.slotVersion, drainFrom := none }
      .next (((s1.bumpBy Reg.SCHED_DRAIN_NS (s.now - t)).setReg Reg.SCHED_SWITCH_STEP s.fabric.drainStep).setReg Reg.SCHED_STATE 0)

end Sys2Proof.Machine
end

