-- ==== Sys2Proof/Machine/Update.lean ====
section
/-!
DEFINITION. The update phase (R47–R52), the Groom (R40), the destination-list reader with its throttle (R60, R127), prefetch
hints (R156), holdback (R147) and what Census gathers at an update (R222).
-/
namespace Sys2Proof.Machine
open Sys2Proof

/-! ### Axon tables (R58, R59) -/

/-- FIRST and NDEST of a neuron (R58). -/
def State.axonEntry (s : State) (c t i : Nat) : Nat × Nat :=
  let w := s.word (sramAddr c t ((s.tile c t).map.axonBase + 4 * i)) 4
  (bitField w 0 16, bitField w 16 12)

/-- Destination entry `j` of a tile (R59). -/
def State.destEntry (s : State) (c t j : Nat) : Nat := s.word (sramAddr c t ((s.tile c t).map.destBase + 8 * j)) 8

/-- The epoch in force for an origin step: the old one for steps before a switch that has not retired (R99, R118). -/
def State.epochOf (s : State) (n : Nat) : Bool :=
  let e := s.reg Reg.ROUTE_E = 1
  if s.reg Reg.ROUTE_STATE = 3 ∧ n < s.reg Reg.SWITCH_STEP then !e else e

/-- The route table entry of a device in the version a given E names (R118, R135). -/
def State.routeEntry (s : State) (e : Bool) (dev : Nat) : Nat := Assoc.getD (if e then s.route1 else s.route0) dev 0

/-- Whether an event may be sent to a device: this one, or one with a VALID entry (R78, R123). -/
def State.reachable (s : State) (e : Bool) (dev : Nat) : Bool :=
  dev == s.reg Reg.DEV_NUM || natBit (s.routeEntry e dev) 4

/-- A destination entry that R78 discards at emission: reserved KIND, non-zero reserved bits, or no route. -/
def State.destBad (s : State) (e : Bool) (d : Nat) : Bool :=
  let kind := bitField d 62 2
  1 < kind || bitField d 60 2 ≠ 0 || bitField d 12 8 ≠ 0 ||
    (kind == 0 && (bitField d 0 12 ≠ 0 || !s.reachable e (bitField d 54 6))) ||
    (kind == 1 && bitField d 26 34 ≠ 0)

/-! ### Prefetch hints (R156) -/

/-- PREFETCH_HINT_SEND: hints for the first PF_DEST_MAX unicast entries of a neuron that name a far row here (R156). -/
def State.sendHints (s : State) (c t i n : Nat) : State :=
  let a := s.axonEntry c t i
  let far := (List.range a.2).filterMap fun j =>
    let d := s.destEntry c t (a.1 + j)
    if bitField d 62 2 = 0 ∧ natBit d 43 ∧ bitField d 54 6 = s.reg Reg.DEV_NUM then some d else none
  (far.take (s.inForce Reg.PF_DEST_MAX)).foldl
    (fun s d => s.sendHint (tileKey c t) (bitField d 50 4) (bitField d 44 6) (bitField d 26 17) n) s

/-! ### Census (R222, R223) -/

/-- What one update adds to a group: updates, firings, spikes by CNT, and the neuron's sum, saturating at 255 (R223). -/
def CensusGroup.note (g : CensusGroup) (c t i n cnt : Nat) : CensusGroup :=
  if g.clu = c ∧ g.tile = t ∧ g.nfirst ≤ i ∧ i < g.nfirst + g.ncount ∧ g.fromStep ≤ n then
    { g with updates := g.updates + 1, firings := g.firings + (if cnt = 0 then 0 else 1), spikes := g.spikes + cnt,
             vec := if cnt = 0 then g.vec
               else Assoc.set (i - g.nfirst) (min 255 (Assoc.getD g.vec (i - g.nfirst) 0 + cnt)) g.vec }
  else g

/-- An update noted by every Census group (R222). -/
def State.censusNote (s : State) (c t i n cnt : Nat) : State :=
  { s with census := s.census.map fun g => (g.1, g.2.note c t i n cnt) }

/-! ### The update (R47) -/

/-- The counters of an update (R47, R48, R55). -/
def State.countUpdate (s : State) (c : Nat) (r : UpdateResult) (tonic : Bool) : State :=
  let s1 := s.bumpAt Reg.UPD_COUNT c
  let s2 := if tonic then s1.bumpAt Reg.TONIC_UPD c else s1
  let s3 := if r.vsat then s2.bumpAt Reg.V_SAT c else s2
  let s4 := if r.refractory then s3.bumpAt Reg.REFR_DISCARD c else s3
  let s5 := if r.surplus = 0 then s4 else s4.bumpByAt Reg.MF_SURPLUS (0x10 + c) r.surplus
  let s6 := if r.burstCap then s5.bumpAt Reg.BURST_CAP c else s5
  if r.fired.isSome then s6.bumpAt Reg.FIRINGS c else s6

/-- The firing list and the next step's touched bits after an update (R48, R50, R127). -/
def Tile.afterUpdate (x : Tile) (i n : Nat) (cl : ClassEntry) (r : UpdateResult) : Tile :=
  let x1 := if r.mark then { x with touchedNext := i :: x.touchedNext } else x
  match r.fired with
  | some (cnt, val) =>
    if cl.outMode = 3 then x1
    else { x1 with firing := x1.firing ++ [{ neuron := i, step := n, cls := cl.outMode, cnt := cnt, val := val }] }
  | none => x1

/-- NEURON_UPDATE: update(i, n) with its firing, post report, hints and Census note (R47, R48, R156, R177, R222). -/
def State.updateOne (s : State) (c t n i : Nat) : State :=
  let w := s.neuron c t i
  if w.dead then s
  else
    let x := s.tile c t
    let cl := s.classAt w.cls n
    let entry := x.acc.find? fun e => e.neuron == i
    let r := updateNeuron w cl n entry
    let cnt := match r.fired with
      | some f => f.1
      | none => 0
    let err := match entry with
      | some e => e.sums.getD 3 0
      | none => 0
    let s1 := ((s.setNeuron c t i r.w).setTile c t (x.afterUpdate i n cl r)).countUpdate c r (x.map.tonic.contains i)
    let s2 := if (cnt ≠ 0 ∨ err ≠ 0) ∧ s.hasPlasticRow c t then s1.sendPost c ⟨t, i, cnt, err⟩ else s1
    let s3 := s2.censusNote c t i n cnt
    if r.hint then s3.sendHints c t i n else s3

/-- The neurons a step updates: those touched or marked, and those of the tonic list, each once (R47). -/
def Tile.updateList (x : Tile) : List Nat :=
  (List.range x.map.n).filter fun i => x.touched.contains i || x.map.tonic.contains i

/-- Updates made until the firing list or the report queue is full (R127, R177); the rest stays. -/
def State.updateSome (s : State) (c t n : Nat) : List Nat → State
  | [] => s.setTile c t { s.tile c t with phase := .update n [] }
  | i :: l =>
    if 512 ≤ (s.tile c t).firing.length then
      (s.setTile c t { s.tile c t with phase := .update n (i :: l) }).bumpAt Reg.FIRE_PAUSE c
    else if s.hasPlasticRow c t ∧ 1024 ≤ (s.plast c).postQueue.length then
      (s.setTile c t { s.tile c t with phase := .update n (i :: l) }).bumpAt Reg.POST_PAUSE c
    else (s.updateOne c t n i).updateSome c t n l

/-- GROOM_TOUCH at an index the cursor passes: begin_step on a live neuron not otherwise touched in the step (R40). -/
def State.groomTouch (s : State) (c t n i : Nat) : State :=
  let x := s.tile c t
  let w := s.neuron c t i
  if w.dead ∨ x.touched.contains i ∨ x.map.tonic.contains i then s
  else (s.setNeuron c t i (beginStep w (s.classAt w.cls n) n)).bumpAt Reg.GROOM_TOUCH c

/-- The Groom's pass of a step over ⌈N / 2,048⌉ indices (R40). Its cursor starts at index 0 at a load and is neither saved by
CHECKPOINT nor set by RESTORE (DESIGN CHOICE: the spec names no start). -/
def State.groomPass (s : State) (c t n : Nat) : State :=
  let x := s.tile c t
  let k := ceilDiv x.map.n 2048
  let s1 := (List.range k).foldl (fun s j => s.groomTouch c t n ((x.groom + j) % x.map.n)) s
  s1.setTile c t { s1.tile c t with groom := (x.groom + k) % x.map.n }

/-- The end of an update phase: accumulator entries released, marks become the next step's touched bits (R43, R50). -/
def Tile.endUpdate (x : Tile) (n : Nat) : Tile :=
  { x with phase := .idle, updated := n, acc := [], direct := [], touched := x.touchedNext, touchedNext := [] }

/-- An update phase taken on from a list of neurons; where all are updated, the Groom runs and the phase ends (R47). -/
def State.runUpdate (s : State) (c t n : Nat) (l : List Nat) : State :=
  let s1 := s.updateSome c t n l
  if (s1.tile c t).phase = .update n [] then
    let s2 := s1.groomPass c t n
    (s2.setTile c t ((s2.tile c t).endUpdate n)).noteCounts n
  else s1

/-- UPDATE_PHASE: a tile whose delivery has ended, and that knows the step before to be complete, updates (R47); `bad`
lists neurons and accumulator entries found uncorrectable (R52, R458). -/
def execUpdatePhase (c : ClusterId) (t : TileId) (bad : Flaws) (s : State) : Host.Outcome State Fault Refusal :=
  let go (n : Nat) (l : List Nat) : Host.Outcome State Fault Refusal :=
    let s1 := ((s.tileProgress c.val t.val).reinitAll c.val t.val n bad.neurons).accLost c.val t.val n bad.accs
    .next (s1.runUpdate c.val t.val n l)
  match (s.tile c.val t.val).phase with
  | .closed n => if n ≤ s.fabric.known + 1 then go n (s.tile c.val t.val).updateList else .next s
  | .update n l => go n l
  | _ => .next s

/-! ### The destination-list reader (R60, R127, R147) -/

/-- The throttle level of an egress depth from the present level: a level is entered at its mark and left 8 below it
(R127). -/
def State.throttleLevel (s : State) (level depth : Nat) : Nat :=
  let mark (l : Nat) : Nat := if l = 1 then s.inForce Reg.THR1 else if l = 2 then s.inForce Reg.THR2 else s.inForce Reg.THR3
  let holds (l : Nat) : Bool := mark l ≤ depth || (l ≤ level && mark l ≤ depth + 8)
  if holds 3 then 3 else if holds 2 then 2 else if holds 1 then 1 else 0

/-- A tile's egress queue, and the throttle level that its depth sets (R127). -/
def State.setEgress (s : State) (c t : Nat) (q : List Egress) : State :=
  let x := s.tile c t
  s.setTile c t { x with egress := q, throttle := s.throttleLevel x.throttle q.length }

/-- Cycles per event at a throttle level (R127). -/
def throttleCycles (level : Nat) : Nat := if level = 0 then 1 else if level = 1 then 2 else 4

/-- The cycle counter of a throttle level. -/
def State.countThrottle (s : State) (c level : Nat) : State :=
  if level = 1 then s.bumpAt Reg.THR1_CYC c
  else if level = 2 then s.bumpAt Reg.THR2_CYC c
  else if level = 3 then s.bumpAt Reg.THR3_CYC c
  else s

/-- What enters a tile's egress queue: counted in EV_EMIT, with its depth and throttle level (R60, R127). -/
def State.enterEgress (s : State) (c t : Nat) (g : Egress) : State :=
  let q := (s.tile c t).egress ++ [g]
  ((s.setEgress c t q).bumpAt Reg.EV_EMIT c).peakAt Reg.EGRESS_PEAK c q.length

/-- The event of a firing through a destination entry (R60, R117). -/
def State.firingEvent (s : State) (f : Firing) (d : Nat) : Event :=
  { word := eventWord f.cls f.step (bitField d 54 6) (bitField d 50 4) (bitField d 44 6) (bitField d 26 18)
      (bitField d 20 6) f.cnt f.val (s.epochOf f.step) }

/-- The head firing moved on by one destination, or dropped after its last one. -/
def Tile.nextDest (x : Tile) (ndest : Nat) : Tile :=
  match x.firing with
  | [] => x
  | f :: l => if ndest ≤ f.taken + 1 then { x with firing := l } else { x with firing := { f with taken := f.taken + 1 } :: l }

/-- Whether SHED has acted on the tile in a step and selects a CLS: what the reader would hold back is dropped (R110). -/
def Tile.sheds (x : Tile) (n cls : Nat) : Bool :=
  match x.shed with
  | some (k, mask) => k == n && shedSelects mask cls
  | none => false

/-- A far destination on this device: its request is posted and its event injected, or it is held back; with a full
holdback list the reader stops at it (R145, R147). Under SHED what would be held back is dropped (R110). -/
def State.emitFar (s : State) (c t ndest : Nat) (f : Firing) (ev : Event) : State :=
  let r := s.postFetch (some c) ev.clu ev.tile (ev.row % 131072) (f.step + 1 + ev.dly) false
  let x := r.2.tile c t
  if r.1 then (r.2.setTile c t (x.nextDest ndest)).enterEgress c t { ev := ev }
  else if x.sheds f.step f.cls then ((r.2.setTile c t (x.nextDest ndest)).bump Reg.SHED_HOLDBACK).noteShed c t f.step
  else if x.holdback.length < 1024 then
    let h := x.holdback ++ [{ ev := ev, engine := packageOf (ev.row % 131072), step := f.step }]
    ((r.2.setTile c t { x.nextDest ndest with holdback := h }).bumpAt Reg.HOLDBACK_IN c).peakAt Reg.HOLDBACK_PEAK c
      h.length
  else r.2.bumpAt Reg.HOLDBACK_FULL c

/-- One destination of the head firing (R59, R60, R78). -/
def State.emitDest (s : State) (c t first ndest : Nat) (f : Firing) (destBad : Bool) : State :=
  let j := first + f.taken
  let d := s.destEntry c t j
  let skip := s.setTile c t ((s.tile c t).nextDest ndest)
  let off := (s.tile c t).map.destBase + 8 * j
  if destBad then
    let s1 := skip.rowEcc c t f.step off
    s1.setTile c t { s1.tile c t with repair := (s1.tile c t).repair ++ [off] }
  else if s.destBad (s.epochOf f.step) d then
    (skip.bumpAt Reg.ROW_INVALID c).rowNote 32 c t f.step f.neuron .ok
  else
    let ev := s.firingEvent f d
    if bitField d 62 2 = 1 then
      skip.enterEgress c t { ev := (ev.set 26 34 0), group := some (bitField d 0 12) }
    else if natBit ev.row 17 ∧ ev.dev = s.reg Reg.DEV_NUM then s.emitFar c t ndest f ev
    else skip.enterEgress c t { ev := ev }

/-- What the reader does with the head firing in a cycle in which it may read: its next destination, or its end; an axon
index entry found uncorrectable ends it (R60, R79). -/
def State.readDest (s : State) (c t : Nat) (f : Firing) (axonBad destBad : Bool) : State :=
  let x := s.tile c t
  let a := s.axonEntry c t f.neuron
  if axonBad then
    let off := (x.map.axonBase + 4 * f.neuron) / 8 * 8
    let s1 := s.rowEcc c t f.step off
    s1.setTile c t { s1.tile c t with firing := x.firing.drop 1, repair := (s1.tile c t).repair ++ [off] }
  else if a.2 ≤ f.taken then s.setTile c t { x with firing := x.firing.drop 1 }
  else s.emitDest c t a.1 a.2 f destBad

/-- DEST_LIST_READ: one cycle of a tile's reader, which counts at the tile's throttle level (R60, R127); `axonBad` and
`destBad` say that the axon index entry or the destination entry read proved uncorrectable (R79). A tile whose last firing
it ends may be DONE by that (R92, R96). -/
def execDestListRead (c : ClusterId) (t : TileId) (axonBad destBad : Bool) (s : State) :
    Host.Outcome State Fault Refusal :=
  let x := s.tile c.val t.val
  let s1 := s.countThrottle c.val x.throttle
  match x.firing with
  | [] => .next s1
  | f :: l =>
    let x1 := { x with readerWait := x.readerWait + 1 }
    let s2 := (s1.setTile c.val t.val x1).tileProgress c.val t.val
    if x.throttle = 3 ∨ x1.readerWait < throttleCycles x.throttle ∨ 128 ≤ x.egress.length then .next s2
    else
      let s3 := (s2.setTile c.val t.val { s2.tile c.val t.val with readerWait := 0 }).readDest c.val t.val f axonBad destBad
      .next (if l = [] then s3.noteCounts f.step else s3)

/-- HOLDBACK_RELEASE: the oldest destination held back for an engine posts its request, and its event is injected (R147). -/
def execHoldbackRelease (c : ClusterId) (t : TileId) (k : PackageId) (s : State) : Host.Outcome State Fault Refusal :=
  let x := s.tile c.val t.val
  match x.holdback.find? fun h => h.engine == k.val with
  | none => .next s
  | some h =>
    if 128 ≤ x.egress.length then .next s
    else
      let r := s.postFetch (some c.val) h.ev.clu h.ev.tile (h.ev.row % 131072) (h.step + 1 + h.ev.dly) false
      if r.1 then
        let y := r.2.tile c.val t.val
        .next ((r.2.setTile c.val t.val { y with holdback := dropFirst h y.holdback }).enterEgress c.val t.val { ev := h.ev })
      else .next r.2

end Sys2Proof.Machine
end

