-- ==== Sys2Proof/Machine/Network.lean ====
section
/-!
DEFINITION. The event network (05, R117–R134, R138–R140): routing, combine buffers, credits, multicast expansion, gateways
and the injection of STREAM events.
-/
namespace Sys2Proof.Machine
open Sys2Proof

/-! ### Routing (R121, R122) -/

/-- The column on the side of a Tether link: 0 for links 0–3, 3 for 4–7 (R122). -/
def sideColumn (link : Nat) : Nat := if link < 4 then 0 else 3

/-- LINK of a route table entry (R135). -/
def routeLink (entry : Nat) : Nat := bitField entry 0 3

/-- The target cluster of an event at the router of cluster `c`, and whether it leaves there by the gateway (R122). -/
def State.targetCluster (s : State) (c : Nat) (ev : Event) : Nat × Bool :=
  if ev.dev = s.reg Reg.DEV_NUM then (ev.clu, false)
  else (c / 4 * 4 + sideColumn (routeLink (s.routeEntry ev.e ev.dev)), true)

/-- The output port by which a router sends an event for target cluster `d`; an event that arrived on the plane stays on
it (R121). -/
def outputPort (c d tile : Nat) (gateway onPlane : Bool) : Nat :=
  let x := c % 4
  let y := c / 4
  let tx := d % 4
  let ty := d / 4
  if c = d then (if gateway then 22 else tile / 4)
  else if !onPlane ∧ x = tx ∧ ty + 1 = y then 23
  else if !onPlane ∧ y = ty ∧ tx = x + 1 then 24
  else if !onPlane ∧ x = tx ∧ ty = y + 1 then 25
  else if !onPlane ∧ y = ty ∧ tx + 1 = x then 26
  else if x < tx then 28
  else if tx < x then 30
  else if ty < y then 27
  else 29

/-- The output of a router for an event at one of its inputs. -/
def State.outputOf (s : State) (c input : Nat) (ev : Event) : Nat :=
  let d := s.targetCluster c ev
  outputPort c d.1 ev.tile d.2 (27 ≤ input)

/-- The neighbour in direction 0 N, 1 E, 2 S, 3 W (R120). -/
def meshNeighbour (c dir : Nat) : Option Nat :=
  match dir with
  | 0 => if 4 ≤ c then some (c - 4) else none
  | 1 => if c % 4 < 3 then some (c + 1) else none
  | 2 => if c < 12 then some (c + 4) else none
  | _ => if 0 < c % 4 then some (c - 1) else none

/-- The router and input that an adjacency or plane output leads to (R120). -/
def farInput (c out : Nat) : Option (Nat × Nat) :=
  if 23 ≤ out ∧ out ≤ 26 then (meshNeighbour c (out - 23)).map fun d => (d, 23 + (out - 23 + 2) % 4)
  else if 27 ≤ out ∧ out ≤ 30 then (meshNeighbour c (out - 27)).map fun d => (d, 27 + (out - 27 + 2) % 4)
  else none

/-! ### Combining (R128, R129) -/

/-- Whether an event may merge (R128). -/
def State.mergeable (s : State) (ev : Event) : Bool :=
  ev.cls < 2 && natBit (s.inForce Reg.COMBINE_CLS) ev.cls && !ev.payBad

/-- Whether two events agree in every field that R128 names. -/
def sameKey (a b : Event) : Bool :=
  a.dev == b.dev && a.clu == b.clu && a.tile == b.tile && a.row == b.row && a.dly == b.dly && a.step == b.step &&
    a.cls == b.cls && a.e == b.e && a.stream == b.stream && (a.cls != 0 || a.val == b.val)

/-- What an arrival does to a combine buffer: the entries, and whether it merged or split; none where it needs an entry
and all 64 are in use (R129, R130). -/
structure Arrival where
  entries : List CombineEntry
  merged : Bool := false
  split : Bool := false
  deriving DecidableEq, Repr

/-- An entry replaced in a combine buffer. -/
def replaceEntry (x y : CombineEntry) : List CombineEntry → List CombineEntry
  | [] => []
  | z :: l => if z = x then y :: l else z :: replaceEntry x y l

/-- The event of an open entry merged with an arrival: the entry's event, and what lies beyond its range (R129). -/
def mergeEvents (a b : Event) : Event × Option Event :=
  if a.cls = 0 then
    let n := a.cnt + b.cnt
    if n ≤ 7 then (a.set 17 3 n, none) else (a.set 17 3 7, some (b.set 17 3 (n - 7)))
  else
    let n := a.valInt + b.valInt
    let m := satInt 16 n
    if n = m then (a.set 1 16 (unsignedOf 16 n), none)
    else (a.set 1 16 (unsignedOf 16 m), some (b.set 1 16 (unsignedOf 16 (n - m))))

/-- arrive(ev, out) of R129. -/
def arrive (mergeable : Bool) (l : List CombineEntry) (ev : Event) : Option Arrival :=
  let room := l.length < 64
  if !mergeable then if room then some { entries := l ++ [⟨ev, false, 0⟩] } else none
  else match l.find? fun x => x.isOpen && sameKey x.ev ev with
    | none => if room then some { entries := l ++ [⟨ev, true, 0⟩] } else none
    | some x =>
      let r := mergeEvents x.ev ev
      match r.2 with
      | none => some { entries := replaceEntry x { x with ev := r.1 } l, merged := true }
      | some rest =>
        if room then
          some { entries := replaceEntry x { x with ev := r.1, isOpen := false } l ++ [⟨rest, true, 0⟩], split := true }
        else none

/-! ### Inputs and outputs -/

/-- An output of the network. -/
def State.output (s : State) (p : NetPoint) : RouterOut :=
  match p with
  | .router c out => Assoc.getD (s.router c.val).outputs out.val {}
  | .gateway l => Assoc.getD s.gateways l.val {}

/-- An output of the network replaced. -/
def State.setOutput (s : State) (p : NetPoint) (o : RouterOut) : State :=
  match p with
  | .router c out => s.setRouter c.val { s.router c.val with outputs := Assoc.set out.val o (s.router c.val).outputs }
  | .gateway l => { s with gateways := Assoc.set l.val o s.gateways }

/-- The cluster whose counters an output's events raise; none for a gateway (R143). -/
def pointCluster (p : NetPoint) : Option Nat :=
  match p with
  | .router c _ => some c.val
  | .gateway _ => none

/-- The number of an output for fault-log entries: a router's port, or a gateway's link (R143). -/
def pointOutput (p : NetPoint) : Nat :=
  match p with
  | .router _ out => out.val
  | .gateway l => l.val

/-- A counter of the event network raised for the module and, at a router, its cluster (R143). -/
def State.bumpNet (s : State) (o : Obj) (p : NetPoint) (n : Nat) : State :=
  match pointCluster p with
  | some c => s.bumpByAt o (0x10 + c) n
  | none => s.bumpBy o n

/-- The buffered events of a router input. -/
def State.inputQueue (s : State) (c input : Nat) : List Event := Assoc.getD (s.router c).inputs input []

/-- The buffered events of a router input replaced. -/
def State.setInput (s : State) (c input : Nat) (l : List Event) : State :=
  s.setRouter c { s.router c with inputs := Assoc.set input l (s.router c).inputs }

/-- The events an output's inputs may present, by input: all inputs of a router, and for a gateway the gateway ports of
its side, by cluster, and the I/O ring with the events in transit, by 16 + the link that brought them (R120, R122). -/
def State.inputsOf (s : State) (p : NetPoint) : List (Nat × Event) :=
  match p with
  | .router c out =>
    (List.range 31).filterMap fun i => match s.inputQueue c.val i with
      | [] => none
      | ev :: _ => if s.outputOf c.val i ev = out.val then some (i, ev) else none
  | .gateway l =>
    ([0, 1, 2, 3].map (fun y => 4 * y + sideColumn l.val) ++ (List.range 8).map (16 + ·)).filterMap fun i =>
      match Assoc.getD s.gateIn i [] with
      | [] => none
      | ev :: _ => if routeLink (s.routeEntry ev.e ev.dev) = l.val then some (i, ev) else none

/-- The head event of an input of an output removed. -/
def State.popInput (s : State) (p : NetPoint) (i : Nat) : State :=
  match p with
  | .router c _ => s.setInput c.val i ((s.inputQueue c.val i).drop 1)
  | .gateway _ => { s with gateIn := Assoc.set i ((Assoc.getD s.gateIn i []).drop 1) s.gateIn }

/-- The head event of an input replaced. -/
def State.setHead (s : State) (p : NetPoint) (i : Nat) (ev : Event) : State :=
  match p with
  | .router c _ => s.setInput c.val i (ev :: (s.inputQueue c.val i).drop 1)
  | .gateway _ => { s with gateIn := Assoc.set i (ev :: (Assoc.getD s.gateIn i []).drop 1) s.gateIn }

/-- An absorbed event counted as received at the router or gateway (R93, R129). -/
def State.absorb (s : State) (p : NetPoint) (ev : Event) : State :=
  let s0 := s.bumpNet Reg.MERGES p 1
  let s1 := if ev.stream then s0 else s0.noteCounts ev.step
  match p with
  | .router c _ =>
    let r := s1.router c.val
    s1.setRouter c.val (if ev.stream then { r with srcvd := r.srcvd.add ev.step 1 }
      else { r with frcvd := r.frcvd.add ev.step 1 })
  | .gateway _ =>
    if ev.stream then { s1 with gatewaySrcvd := s1.gatewaySrcvd.add ev.step 1 }
    else { s1 with gatewayFrcvd := s1.gatewayFrcvd.add ev.step 1 }

/-- What the vote and the payload check do to an event that arrives at an output (R119): corrected headers and payloads are
counted, an uncorrectable payload is marked, counted and recorded. -/
def State.checkArrival (s : State) (p : NetPoint) (flaws : List ArrivalFlaw) (i : Nat) (ev : Event) : Event × State :=
  match flaws.find? fun f => f.input == i with
  | none => (ev, s)
  | some f =>
    let s1 := if f.header then s.bumpNet Reg.HDR_CORR p 1 else s
    if ev.payBad ∨ !s.mergeable ev then (ev, s1)
    else match f.payload with
      | .clean => (ev, s1)
      | .corrected => (ev, s1.bumpNet Reg.PAY_CORR p 1)
      | .uncorrectable =>
        let unit := match pointCluster p with
          | some c => c
          | none => 0xFF
        ({ ev with payBad := true }, (s1.bumpNet Reg.PAY_UNCORR p 1).logGated 22 unit (s.originOf ev)
          { cls := .drop, status := .eccUncorr, unit := unit, sub := pointOutput p, ref := ev.step })

/-- One admitted arrival applied: it enters the combine buffer and leaves its input, or waits there (R129, R130). -/
def State.applyArrival (s : State) (p : NetPoint) (flaws : List ArrivalFlaw) (i : Nat) (ev0 : Event) : State :=
  let c := s.checkArrival p flaws i ev0
  let o := c.2.output p
  match arrive (c.2.mergeable c.1) o.entries c.1 with
  | none => (c.2.setHead p i c.1).bumpNet Reg.COMB_FULL p 1
  | some a =>
    let s1 := (c.2.popInput p i).setOutput p { o with entries := a.entries }
    let s2 := if a.merged then s1.absorb p c.1 else if a.split then s1.bumpNet Reg.MERGE_SPLIT p 1 else s1
    match pointCluster p with
    | some k => s2.peakAt Reg.COMB_PEAK k a.entries.length
    | none => s2.peak Reg.COMB_PEAK a.entries.length

/-! ### What feeds a router's inputs -/

/-- One event passes from an egress queue of a quad's tiles into the quad port, where it is counted as sent (R93, R463). A
tile whose head is a multicast request waits for its handshake (R134). -/
def State.fillQuad (s : State) (c q : Nat) : State :=
  if 32 ≤ (s.inputQueue c q).length then s
  else
    let last := Assoc.getD (s.router c).quadLast q 3
    let ready (t : Nat) : Bool := !(s.tile c t).fenced && match (s.tile c t).egress with
      | [] => false
      | g :: _ => g.group.isNone
    match (quadOrder q last).find? ready with
    | none => s
    | some t =>
      let x := s.tile c t
      match x.egress with
      | [] => s
      | g :: l =>
        let s1 := ((s.setTile c t { x with fsent := x.fsent.add g.ev.step 1 }).setEgress c t l).noteCounts g.ev.step
        let s2 := s1.setInput c q (s1.inputQueue c q ++ [g.ev])
        s2.setRouter c { s2.router c with quadLast := Assoc.set q (t % 4) (s2.router c).quadLast }

/-- Whether a gateway must post a fetch request for an event from a link before it passes it on (R145). -/
def State.needsRemoteFetch (s : State) (ev : Event) : Bool :=
  ev.dev == s.reg Reg.DEV_NUM && !ev.stream && natBit ev.row 17

/-- The attachment at which an event from a link enters the mesh: the link's side, the row of CLU (R122). -/
def attachment (l : Nat) (ev : Event) : Nat := ev.clu / 4 * 4 + sideColumn l

/-- The head event of a link's arrivals passed into the gateway port of its attachment, where it is for this device and
needs no fetch (R122). -/
def State.fillGateway (s : State) (c l : Nat) : State :=
  match Assoc.getD s.gateRx l [] with
  | [] => s
  | ev :: rest =>
    if ev.dev = s.reg Reg.DEV_NUM ∧ !s.needsRemoteFetch ev ∧ attachment l ev = c ∧ (s.inputQueue c 22).length < 32 then
      { s with gateRx := Assoc.set l rest s.gateRx }.setInput c 22 (s.inputQueue c 22 ++ [ev])
    else s

/-- The quad and gateway inputs of a router taken on by one event each. -/
def State.fillInputs (s : State) (c : Nat) : State :=
  let s1 := (List.range 16).foldl (fun s q => s.fillQuad c q) s
  (List.range 8).foldl (fun s l => s.fillGateway c l) s1

/-! ### Arrival, departure, credits (R125, R130) -/

/-- The presenting inputs in round-robin order after the last input admitted (R130). -/
def roundRobin (last : Nat) (l : List (Nat × Event)) : List (Nat × Event) :=
  l.filter (fun x => last < x.1) ++ l.filter (fun x => x.1 ≤ last)

/-- ROUTER_ARRIVAL: one cycle of arrivals at an output: at most four presenting inputs are admitted round-robin and applied
in the fixed port order (R129, R130). -/
def execRouterArrival (p : NetPoint) (flaws : List ArrivalFlaw) (s : State) : Host.Outcome State Fault Refusal :=
  let s0 := match pointCluster p with
    | some c => s.fillInputs c
    | none => s
  let present := s0.inputsOf p
  let admitted := (roundRobin (s0.output p).lastIn present).take 4
  let ordered := present.filter fun x => admitted.contains x
  let s2 := ordered.foldl (fun s x => s.applyArrival p flaws x.1 x.2) s0
  let s1 := match admitted.getLast? with
    | some x => s2.setOutput p { s2.output p with lastIn := x.1 }
    | none => s2
  .next (if present.length ≤ 4 then s1 else s1.bumpNet Reg.ARR_DEFER p (present.length - 4))

/-- Events per cycle of an output (R120). -/
def outputRate (out : Nat) : Nat := if 23 ≤ out ∧ out ≤ 26 then 4 else if out = 22 then 2 else 1

/-- The stall counter of an output by its kind (R125). -/
def State.countStall (s : State) (c out : Nat) : State :=
  if out < 16 then s.bumpAt Reg.STALL_EJECT c
  else if 23 ≤ out ∧ out ≤ 26 then s.bumpAt Reg.STALL_ADJ c
  else if 27 ≤ out then s.bumpAt Reg.STALL_MH c
  else s

/-- Whether a device has been lost (R467). -/
def State.devLost (s : State) (d : Nat) : Bool := s.tether.lost.contains d

/-- An event for a lost device discarded at a gateway: it counts as received (R467). -/
def State.lostDiscard (s : State) (ev : Event) : State :=
  let s1 := if ev.stream then { s with gatewaySrcvd := s.gatewaySrcvd.add ev.step 1 }
    else { s with gatewayFrcvd := s.gatewayFrcvd.add ev.step 1 }.noteCounts ev.step
  s1.bump Reg.DEVLOST_DISCARD

/-- Where an event that leaves a router output goes: its quad's tiles, a neighbour's input, or the gateway (R120). -/
def State.forward (s : State) (c out : Nat) (ev : Event) : State :=
  if out < 16 then
    let r := s.router c
    s.setRouter c { r with ejects := Assoc.set out (Assoc.getD r.ejects out [] ++ [ev]) r.ejects }
  else if out = 22 ∧ s.devLost ev.dev then s.lostDiscard ev
  else if out = 22 then { s with gateIn := Assoc.set c (Assoc.getD s.gateIn c [] ++ [ev]) s.gateIn }
  else match farInput c out with
    | some (d, i) => s.setInput d i (s.inputQueue d i ++ [ev])
    | none => s

/-- Whether an entry may depart: sealed, or open and held COMBINE_HOLD cycles (R130). -/
def State.eligible (s : State) (e : CombineEntry) : Bool := !e.isOpen || s.inForce Reg.COMBINE_HOLD ≤ e.waited

/-- The oldest eligible entries sent, at most `n`, while credits last; one for a fenced tile is discarded instead (R130,
R140). -/
def State.departSome (s : State) (c : ClusterId) (out : Fin 31) : Nat → State
  | 0 => s
  | n + 1 =>
    let p := NetPoint.router c out
    let o := s.output p
    match o.entries.find? fun e => s.eligible e with
    | none => s
    | some e =>
      if out.val < 16 ∧ (s.tile c.val e.ev.tile).fenced then
        ((s.setOutput p { o with entries := dropFirst e o.entries }).fencedDiscard c.val e.ev).departSome c out n
      else if o.credits = 0 then s.countStall c.val out.val
      else
        let s1 := s.setOutput p { o with entries := dropFirst e o.entries, credits := o.credits - 1 }
        ((s1.forward c.val out.val e.ev).bumpAt Reg.EV_ROUTED c.val).departSome c out n

/-- The open entries that stay in an output have waited one more cycle (R130). -/
def RouterOut.age (o : RouterOut) : RouterOut :=
  { o with entries := o.entries.map fun e => if e.isOpen then { e with waited := e.waited + 1 } else e }

/-- ROUTER_DEPART: one cycle of departures at a router output (R130). -/
def execRouterDepart (c : ClusterId) (out : Fin 31) (s : State) : Host.Outcome State Fault Refusal :=
  let s1 := s.departSome c out (outputRate out.val)
  .next (s1.setOutput (.router c out) (s1.output (.router c out)).age)

/-- Events that an output has sent and its receiver still buffers (R125). -/
def State.occupancy (s : State) (c out : Nat) : Nat :=
  if out < 16 then (Assoc.getD (s.router c).ejects out []).length
  else if out = 22 then (Assoc.getD s.gateIn c []).length
  else match farInput c out with
    | some (d, i) => (s.inputQueue d i).length
    | none => 0

/-- CREDIT_RETURN: a credit for an entry that its event has freed returns to the output (R125). -/
def execCreditReturn (c : ClusterId) (out : Fin 31) (s : State) : Host.Outcome State Fault Refusal :=
  let o := s.output (.router c out)
  if o.credits + s.occupancy c.val out.val < 32 then
    .next (s.setOutput (.router c out) { o with credits := o.credits + 1 })
  else .next s

/-! ### Multicast (R132–R134) -/

/-- The group entry of a cluster in the version a given E names (R132). -/
def State.groupEntry (s : State) (e : Bool) (c g : Nat) : Nat :=
  Assoc.getD (if e then s.groups1 else s.groups0) (4096 * c + g) 0

/-- MFIRST and MCOUNT of a group (R132). -/
def groupRange (g : Nat) : Nat × Nat := (bitField g 0 14, bitField g 16 13)

/-- The member entry of a cluster (R133). -/
def State.memberEntry (s : State) (e : Bool) (c m : Nat) : Nat :=
  Assoc.getD (if e then s.members1 else s.members0) (16384 * c + m) 0

/-- MULTICAST_REQUEST: a group number at the head of a tile's egress queue is handed to the router, and MCOUNT is added to
FSENT (R134). -/
def execMulticastRequest (c : ClusterId) (t : TileId) (s : State) : Host.Outcome State Fault Refusal :=
  let x := s.tile c.val t.val
  match x.egress with
  | [] => .next s
  | g :: l =>
    match g.group with
    | none => .next s
    | some k =>
      let r := s.router c.val
      if 32 ≤ r.requests.length ∨ x.fenced then .next s
      else
        let n := (groupRange (s.groupEntry g.ev.e c.val k)).2
        let s1 := ((s.setTile c.val t.val { x with fsent := x.fsent.add g.ev.step n }).setEgress c.val t.val l).noteCounts
          g.ev.step
        .next (if n = 0 then s1 else s1.setRouter c.val { r with requests := r.requests ++ [{ group := k, ev := g.ev }] })

/-- The event of a member (R134). -/
def State.memberEvent (s : State) (c : Nat) (r : McRequest) (i : Nat) : Event :=
  let m := s.memberEntry r.ev.e c ((groupRange (s.groupEntry r.ev.e c r.group)).1 + i)
  (r.ev.set 26 34 (bitField m 26 34))

/-- The next member of each lane in member order: lane and member index (R134). -/
def McRequest.nextMembers (r : McRequest) : List (Nat × Nat) :=
  let l := (List.range 4).map fun j => (j, 4 * r.lanes.getD j 0 + j)
  let insert (out : List (Nat × Nat)) (x : Nat × Nat) : List (Nat × Nat) :=
    out.filter (fun y => y.2 ≤ x.2) ++ x :: out.filter (fun y => x.2 < y.2)
  l.foldl insert []

/-- Members presented on free lanes in member order; a far member without a credit holds those behind it (R134, R147). -/
def State.presentMembers (s : State) (c : Nat) (r : McRequest) : List (Nat × Nat) → McRequest × State
  | [] => (r, s)
  | (j, i) :: l =>
    let n := (groupRange (s.groupEntry r.ev.e c r.group)).2
    if n ≤ i ∨ s.inputQueue c (16 + j) ≠ [] then s.presentMembers c r l
    else
      let ev := s.memberEvent c r i
      let far := natBit ev.row 17 ∧ ev.dev = s.reg Reg.DEV_NUM
      let p := if far then s.postFetch (some c) ev.clu ev.tile (ev.row % 131072) (s.dueOf ev) false else (true, s)
      if p.1 then
        let s1 := (p.2.setInput c (16 + j) [ev]).bumpAt Reg.MC_MEMBERS c
        s1.presentMembers c { r with lanes := r.lanes.set j (r.lanes.getD j 0 + 1) } l
      else (r, p.2)

/-- MULTICAST_EXPAND: one cycle of the expander on its oldest request (R134). -/
def execMulticastExpand (c : ClusterId) (s : State) : Host.Outcome State Fault Refusal :=
  match (s.router c.val).requests with
  | [] => .next s
  | r :: l =>
    let x := s.presentMembers c.val r r.nextMembers
    let n := (groupRange (s.groupEntry r.ev.e c.val r.group)).2
    let done := x.1.nextMembers.all fun m => n ≤ m.2
    .next (x.2.setRouter c.val { x.2.router c.val with requests := if done then l else x.1 :: l })

/-! ### Gateways (R122, R148) -/

/-- GATEWAY_TRANSIT: the head event that a link has brought for another device is passed around the I/O ring to the output
of the link named by the route table, whose admission it takes part in as one of its inputs (R122, R130). Where that link
belongs to another dimension the event returns to class A (R343). -/
def execGatewayTransit (l : LinkId) (s : State) : Host.Outcome State Fault Refusal :=
  match Assoc.getD s.gateRx l.val [] with
  | [] => .next s
  | ev0 :: rest =>
    let entry := s.routeEntry ev0.e ev0.dev
    let dim (k : Nat) : Nat := s.tether.roles.getD k 0xFF / 2
    let ev := { ev0 with classB := ev0.classB && dim l.val == dim (routeLink entry) }
    let q := Assoc.getD s.gateIn (16 + l.val) []
    if ev.dev = s.reg Reg.DEV_NUM ∨ !natBit entry 4 ∨ 32 ≤ q.length then .next s
    else
      .next ({ s with
        gateRx := Assoc.set l.val rest s.gateRx
        gateIn := Assoc.set (16 + l.val) (q ++ [ev]) s.gateIn }.bump Reg.GW_TRANSIT)

/-- A far event passed into the mesh at its attachment. -/
def State.enterMesh (s : State) (l : Nat) (ev : Event) : State :=
  s.setInput (attachment l ev) 22 (s.inputQueue (attachment l ev) 22 ++ [ev])

/-- REMOTE_FAR_ARRIVAL: the gateway posts the fetch of the head far event from a link; while the remote partition of the
event's engine is full it holds the event (R145, R148). -/
def execRemoteFarArrival (l : LinkId) (s : State) : Host.Outcome State Fault Refusal :=
  match Assoc.getD s.gateRx l.val [] with
  | [] => .next s
  | ev :: rest =>
    if !s.needsRemoteFetch ev ∨ 32 ≤ (s.inputQueue (attachment l.val ev) 22).length then .next s
    else
      let side := l.val / 4
      let held := Assoc.getD s.remoteHold side []
      let r := s.postRemote ev (s.dueOf ev)
      if r.1 then .next ({ r.2 with gateRx := Assoc.set l.val rest r.2.gateRx }.enterMesh l.val ev)
      else if held.length < 256 then
        .next ({ r.2 with gateRx := Assoc.set l.val rest r.2.gateRx,
                          remoteHold := Assoc.set side (held ++ [ev]) r.2.remoteHold }.bump Reg.RHOLD_IN)
      else .next r.2

/-- REMOTE_HOLDBACK_RELEASE: the oldest event a gateway holds posts its request and enters the mesh (R148). -/
def execRemoteHoldbackRelease (east : Bool) (s : State) : Host.Outcome State Fault Refusal :=
  let side := boolNat east
  match Assoc.getD s.remoteHold side [] with
  | [] => .next s
  | ev :: rest =>
    if 32 ≤ (s.inputQueue (attachment (4 * side) ev) 22).length then .next s
    else
      let r := s.postRemote ev (s.dueOf ev)
      if r.1 then .next ({ r.2 with remoteHold := Assoc.set side rest r.2.remoteHold }.enterMesh (4 * side) ev)
      else .next r.2

/-! ### STREAM injection (R98, R123, R138) -/

/-- The checks of R123 on an event before injection; CLS 11 is accepted from sequencers only (R138). -/
def State.streamCheck (s : State) (e : Bool) (ev : Event) (sequencer : Bool) : Bool :=
  s.reachable e ev.dev &&
    (match ev.cls with
      | 0 => ev.cnt != 0
      | 3 => sequencer && ev.row / 4096 == 1 && ev.row % 4096 == 0 && ev.dly == 0 && ev.cnt == 1
      | _ => true)

/-- The event as the port injects it under window `n`: STEP and E of the window, CNT 1 for graded and error events, origin
kind STREAM (R91, R98, R118, R123). -/
def State.streamEvent (s : State) (n : Nat) (ev : Event) : Event :=
  let ev1 := (ev.set 60 2 (n % 4)).set 0 1 (boolNat (s.epochOf n))
  { (if ev.cls = 1 ∨ ev.cls = 2 then ev1.set 17 3 1 else ev1) with stream := true }

/-- The sent counter of a stream injector raised: 0–15 sequencers, 16 Dense, 17–22 the Intake ports (R93). -/
def State.countStreamSent (s : State) (injector tag : Nat) : State :=
  { s with fabric := { s.fabric with
      ssent := Assoc.set injector ((Assoc.getD s.fabric.ssent injector {}).add tag 1) s.fabric.ssent } }

/-- The centre port of an event: that of the quadrant of CLU here, or one of the two on the side of its link, alternating
(R123) from the northern one (DESIGN CHOICE: R123 names no first). -/
def State.centrePort (s : State) (ev : Event) : Nat × State :=
  if ev.dev = s.reg Reg.DEV_NUM then
    (5 + (if 2 ≤ ev.clu % 4 then 1 else 0) + (if 8 ≤ ev.clu then 4 else 0), s)
  else
    let side := routeLink (s.routeEntry ev.e ev.dev) / 4
    let k := Assoc.getD s.centreNext side 0
    (5 + side + 4 * (k % 2), { s with centreNext := Assoc.set side ((k + 1) % 2) s.centreNext })

/-- A checked STREAM event injected through its centre port under window `n`; none where the port's buffer is full. -/
def State.injectCentre (s : State) (injector n : Nat) (ev0 : Event) : Option State :=
  let ev := s.streamEvent n ev0
  let r := s.centrePort ev
  let q := r.2.inputQueue r.1 21
  if 32 ≤ q.length then none else some ((r.2.setInput r.1 21 (q ++ [ev])).countStreamSent injector ev.step)

/-- SEQUENCER_INJECT: a running sequencer presents an event word; it is injected, answered BAD_FORMAT where a check of R123
fails, or held back while no window is open or the port is full (R98, R123). -/
def execSequencerInject (c : ClusterId) (w : Word64) (s : State) : Host.Outcome State Fault Refusal :=
  let n := s.fabric.window
  let q := s.inputQueue c.val 20
  let ev : Event := { word := w }
  if !natBit (s.reg Reg.SEQ_RUN) c.val ∨ s.reg Reg.PWR_STATE ≠ 0 ∨ !s.streamOpen ∨ 32 ≤ q.length then .next s
  else if !s.streamCheck (s.epochOf n) ev true then .next (s.respond .badFormat)
  else
    let x := s.streamEvent n ev
    .next (((s.setInput c.val 20 (q ++ [x])).countStreamSent c.val x.step).respond .ok)

end Sys2Proof.Machine
end

