-- ==== Sys2Proof/Machine/Access.lean ====
section
/-!
DEFINITION. Who may write an object of the dictionary (R356, R412, R438): the check that every command that stands for a
dictionary access makes first.
-/
namespace Sys2Proof.Machine
open Sys2Proof

/-- The bring-up stage from whose end on the block that owns an index is up (R410, R412). DEDUCED: memories from stage 3,
links and ports from stage 4, everything of the clusters and the harness from stage 5, the rest from stage 1. -/
def ownerStage (index : Nat) : Nat :=
  if 0x2410 ≤ index ∧ index ≤ 0x2510 then 3
  else if (0x2600 ≤ index ∧ index ≤ 0x2617) ∨ (0x2710 ≤ index ∧ index ≤ 0x2715) ∨ index = 0x2820 ∨ index = 0x2821 then 4
  else if 0x3000 ≤ index ∧ index ≤ 0x37FF then 5
  else 1

/-- Whether the block that owns an index is up (R410, R411): BRINGUP_STAGE has passed the stage. -/
def State.ownerUp (s : State) (index : Nat) : Bool := ownerStage index < s.reg Reg.BRINGUP_STAGE % 128

/-- A harness is loaded: HARNESS_STATE reads LOADED or UNLOADING (R205, R238). -/
def State.harnessLoaded (s : State) : Bool := 2 ≤ s.reg Reg.HARNESS_STATE

/-- The permissions of R356 by path, for a read or a write of an object. -/
def pathMay (p : Path) (write : Bool) (index sub : Nat) : Bool :=
  match p with
  | .sys => true
  | .usb | .ethernet _ =>
    !write || !(0x2000 ≤ index && index ≤ 0x20FF) || (index == 0x2040 && sub == 0x0B)
  | .can => !write || !(0x2000 ≤ index && index ≤ 0x20FF)
  | .tether => !write || !(0x1000 ≤ index && index ≤ 0x20FF)

/-- NO_WRITE of OWNER_LOCK forbids a write, but for REIN_OVERRIDE (R438). -/
def State.writeLocked (s : State) (index sub : Nat) : Bool :=
  natBit (s.reg Reg.OWNER_LOCK) 2 && !(0x2710 ≤ index && index ≤ 0x2715 && sub == 6)

/-- Whether an access to an existing object may be made: SECURITY where the path or an owner lock forbids it, REFUSED
while the owning block is not up (R356, R412, R438). -/
def State.accessStatus (s : State) (p : Path) (write : Bool) (index sub : Nat) : Status :=
  if !pathMay p write index sub then .security
  else if write && s.writeLocked index sub then .security
  else if p != .sys && !s.ownerUp index then .refused
  else .ok

/-- A write of a value to an object, answered with the status of `f` where the access is allowed (R355, R356): `f` gives
the status and the state after it. -/
def State.writeObject (s : State) (p : Path) (index sub : Nat) (f : State → Status × State) : State :=
  match s.accessStatus p true index sub with
  | .ok => let r := f s; r.2.respond r.1
  | st => s.respond st

end Sys2Proof.Machine
end

