-- ==== Sys2Proof/Machine/Routing.lean ====
section
/-!
DEFINITION. Changing the routing tables (R135–R137, R348) and the bulk schedule (R163, R164, R170): the checks of a shadow
and the rows that arm, disarm and switch.
-/
namespace Sys2Proof.Machine
open Sys2Proof

/-! ### The checks of a routing shadow (R137, R348) -/

/-- What the checks of a table found: the number of the first failing check, with where it failed. -/
structure CheckFail where
  check : Nat
  unit : Nat := 0xFF
  sub : Nat := 0xFF
  ref : Nat := 0
  deriving DecidableEq, Repr

/-- The first failure of a list of checks. -/
def firstFail : List (Option CheckFail) → Option CheckFail
  | [] => none
  | some f :: _ => some f
  | none :: l => firstFail l

/-- A near row exists where its directory entry is VALID, a far row where LEN is not 0 (R62, R63, R70). -/
def State.rowExists (s : State) (c t row : Nat) : Bool :=
  if natBit row 17 then (s.farEntry c t (row % 131072)).2 != 0
  else
    let m := (s.tile c t).map
    row < m.nearRows && natBit (s.word (sramAddr c t (m.dirBase + 4 * row)) 4) 16

/-- The route table entries of a version as (device, entry). -/
def State.routeTable (s : State) (e : Bool) : List (Nat × Nat) := if e then s.route1 else s.route0

/-- The destination entries of the loaded harness: cluster, tile, place and entry. -/
def State.allDests (s : State) : List (Nat × Nat × Nat × Nat) :=
  s.tiles.flatMap fun t => (List.range t.2.map.dests).map fun j =>
    (t.1 / 64, t.1 % 64, j, s.destEntry (t.1 / 64) (t.1 % 64) j)

/-- The groups of a version that exist: cluster, group and entry (R132). -/
def State.allGroups (s : State) (e : Bool) : List (Nat × Nat × Nat) :=
  ((if e then s.groups1 else s.groups0).filter fun g => bitField g.2 16 13 ≠ 0).map fun g =>
    (g.1 / 4096, g.1 % 4096, g.2)

/-- The members of a version that lie in the range of an existing group: cluster, place and entry (R137). -/
def State.liveMembers (s : State) (e : Bool) : List (Nat × Nat × Nat) :=
  (s.allGroups e).flatMap fun g =>
    let r := groupRange g.2.2
    (List.range r.2).map fun k => (g.1, r.1 + k, s.memberEntry e g.1 (r.1 + k))

/-- Reserved bits of a route, group or member entry (R132, R133, R135). -/
def routeReserved (x : Nat) : Bool := natBit x 3 || bitField x 5 27 != 0
def groupReserved (x : Nat) : Bool := bitField x 14 2 != 0 || bitField x 29 3 != 0
def memberReserved (x : Nat) : Bool := bitField x 0 26 != 0 || bitField x 60 4 != 0

/-- The first failing check of the routing tables of version `e`, in the order of R137; `live` adds the refusal of a link in
REFUSED (R348). A group of 4,097 to 8,191 members, which the field admits and R132 does not, is no failure of R137's list and is
expanded as it stands (DESIGN CHOICE). -/
def State.routeCheck (s : State) (e live : Bool) : Option CheckFail :=
  let dev := s.reg Reg.DEV_NUM
  let routes := s.routeTable e
  let groups := if e then s.groups1 else s.groups0
  let members := if e then s.members1 else s.members0
  let valid (d : Nat) : Bool := natBit (Assoc.getD routes d 0) 4
  let linkBad (l : Nat) : Bool :=
    s.reg (Reg.LINK_STATE l) == 4 || (live && s.reg (Reg.LINK_STATE l) == 5)
  let live' := s.liveMembers e
  let dests := s.allDests
  firstFail [
    (routes.find? fun r => routeReserved r.2).map fun r => { check := 1, ref := r.1 },
    (groups.find? fun g => groupReserved g.2).map fun g => { check := 1, unit := g.1 / 4096, ref := g.1 % 4096 },
    (members.find? fun m => memberReserved m.2).map fun m => { check := 1, unit := m.1 / 16384, ref := m.1 % 16384 },
    if valid dev then some { check := 2, ref := dev } else none,
    (routes.find? fun r => natBit r.2 4 && linkBad (routeLink r.2)).map fun r => { check := 3, ref := r.1 },
    ((s.allGroups e).find? fun g => 16384 < (groupRange g.2.2).1 + (groupRange g.2.2).2).map fun g =>
      { check := 4, unit := g.1, ref := g.2.1 },
    (dests.find? fun d => bitField d.2.2.2 62 2 == 1 &&
      (groupRange (s.groupEntry e d.1 (bitField d.2.2.2 0 12))).2 == 0).map fun d =>
        { check := 5, unit := d.1, sub := d.2.1, ref := bitField d.2.2.2 0 12 },
    (dests.find? fun d => bitField d.2.2.2 62 2 == 0 && bitField d.2.2.2 54 6 != dev &&
      !valid (bitField d.2.2.2 54 6)).map fun d => { check := 6, unit := d.1, sub := d.2.1, ref := d.2.2.1 },
    (live'.find? fun m => bitField m.2.2 54 6 != dev && !valid (bitField m.2.2 54 6)).map fun m =>
      { check := 6, unit := m.1, ref := m.2.1 },
    (live'.find? fun m => bitField m.2.2 54 6 == dev &&
      !s.rowExists (bitField m.2.2 50 4) (bitField m.2.2 44 6) (bitField m.2.2 26 18)).map fun m =>
        { check := 7, unit := m.1, ref := m.2.1 }]

/-- The version that is the shadow (R136). -/
def State.routeShadow (s : State) : Bool := s.reg Reg.ROUTE_E == 0

/-- The step master of a system (R90): device 0, or the one device of a 1 × 1 × 1 shape. -/
def State.isMaster (s : State) : Bool := s.reg Reg.DEV_NUM == 0 || s.tether.shape % 2 ^ 24 == 0x010101

/-! ### Prepared tables (R468) -/

/-- The links of the device changed. -/
def State.modTether (s : State) (f : Tether → Tether) : State := { s with tether := f s.tether }

/-- The table prepared for a lost link written into the shadow and armed (R468). A device for whose link none has been
prepared arms nothing. -/
def State.armPrepared (s : State) (l : Nat) : State :=
  match Assoc.get? l s.tether.prepared with
  | none => s
  | some t =>
    let s1 : State := if s.routeShadow then { s with route1 := t } else { s with route0 := t }
    (s1.setReg Reg.ROUTE_STATE 1).modTether fun x => { x with waiting := none, rerouted := true }

/-- A prepared table that waited for the running switch is armed when that retires (R468). -/
def State.armWaiting (s : State) : State :=
  match s.tether.waiting with
  | some l => s.armPrepared l
  | none => s

/-- System Hitches whose home has no VALID entry in the active routes lose their home (R266). -/
def State.checkHomes (s : State) : State :=
  let own := s.reg Reg.DEV_NUM
  let e := s.reg Reg.ROUTE_E == 1
  s.loseHomes (s.hitches.filterMap fun x =>
    if x.2.scope = .system ∧ s.homeDev x.2 ≠ own ∧ !natBit (s.routeEntry e (s.homeDev x.2)) 4 then some x.1 else none)

/-! ### The rows of routing (R136) -/

/-- ROUTE_ARM: a write of 1 to ROUTE_ARM validates the shadow and enters ARMED from IDLE; a failure is answered with
BAD_FORMAT and recorded (R136, R137). Outside IDLE the shadow is not writable and the write is refused. -/
def State.routeArm (s : State) : Status × State :=
  if s.reg Reg.ROUTE_STATE ≠ 0 then (.refused, s)
  else match s.routeCheck s.routeShadow true with
    | none => (.ok, s.setReg Reg.ROUTE_STATE 1)
    | some f => (.badFormat, s.logFault
        { cls := .configReject, status := .badFormat, unit := f.unit, sub := f.sub, ref := f.ref + 2 ^ 40 * f.check })

/-- ROUTE_ARM (R136). -/
def execRouteArm (path : Path) (s : State) : Host.Outcome State Fault Refusal :=
  .next (s.writeObject path 0x3300 3 fun s => s.routeArm)

/-- ROUTE_DISARM: a write of 0 to ROUTE_ARM returns ARMED to IDLE; in SWITCHING it is refused (R136). -/
def State.routeDisarm (s : State) : Status × State :=
  if s.reg Reg.ROUTE_STATE = 1 then (.ok, s.setReg Reg.ROUTE_STATE 0)
  else if s.reg Reg.ROUTE_STATE = 0 then (.ok, s)
  else (.refused, s)

/-- ROUTE_DISARM (R136). -/
def execRouteDisarm (path : Path) (s : State) : Host.Outcome State Fault Refusal :=
  .next (s.writeObject path 0x3300 3 fun s => s.routeDisarm)

/-- ROUTE_SWITCH: accepted on the step master where every device is ARMED; `others` is what device 0 reads of the other
devices' ROUTE_STATE over the control channels (R136). -/
def State.routeSwitch (s : State) (others : Bool) : Status × State :=
  if s.isMaster && others && s.reg Reg.ROUTE_STATE == 1 then
    (.ok, { s.setReg Reg.ROUTE_STATE 2 with fabric := { s.fabric with sends := s.fabric.sends ++ [(4, 0)] } })
  else (.refused, s)

/-- ROUTE_SWITCH (R136). -/
def execRouteSwitch (path : Path) (others : Bool) (s : State) : Host.Outcome State Fault Refusal :=
  .next (s.writeObject path 0x3300 4 fun s => s.routeSwitch others)

/-! ### The checks of a slot schedule (R163) -/

/-- A slot entry of a version (R160). -/
def State.slotOf (s : State) (v : Bool) (sw out slot : Nat) : Nat :=
  Assoc.getD (if v then s.slots1 else s.slots0) (256 * (7 * sw + out) + slot) 0

/-- The valid slots of an output for a KIND and CLU, and the input each names. -/
def State.flowSlots (s : State) (v : Bool) (sw out kind clu : Nat) : List (Nat × Nat) :=
  (List.range 256).filterMap fun i =>
    let e := s.slotOf v sw out i
    if natBit e 3 ∧ bitField e 4 4 = kind ∧ bitField e 8 4 = clu then some (i, bitField e 0 3) else none

/-- Slots per frame by which a flow enters a switch through port `p`: those of the neighbour's output that leads there. For
a local port or an attachment the source offers whatever the outputs take. -/
def State.flowIn (s : State) (v : Bool) (sw p kind clu : Nat) : Nat :=
  match neighbour sw p with
  | some (d, back) => (s.flowSlots v d back kind clu).length
  | none => 0

/-- Slots per frame by which a switch's outputs take a flow from port `p`. -/
def State.flowTaken (s : State) (v : Bool) (sw p kind clu : Nat) : Nat :=
  ((List.range 7).flatMap fun out => (s.flowSlots v sw out kind clu).filter fun x => x.2 = p).length

/-- At a switch, every flow that enters from a neighbour has as many output slots as input slots per frame. A frame is
cyclic, so that an output slot follows its input slot within one frame. -/
def State.flowBalanced (s : State) (v : Bool) (sw kind clu : Nat) : Bool :=
  [1, 2, 3, 4].all fun p =>
    (neighbour sw p).isNone || s.flowIn v sw p kind clu == s.flowTaken v sw p kind clu

/-- A flow is balanced at the switch of an entry, and at the one that its output leads to, though that names the flow nowhere. -/
def State.entryBalanced (s : State) (v : Bool) (sw out kind clu : Nat) : Bool :=
  s.flowBalanced v sw kind clu && (neighbour sw out).all fun d => s.flowBalanced v d.1 kind clu

/-- Whether a flow has a slot on every hop from port `from'` of a switch to output `dst` of another, looking at most `fuel`
switches ahead (R163, R170). -/
def State.flowPath (s : State) (v : Bool) (kind clu : Nat) : (fuel sw from' goal dst : Nat) → Bool
  | 0, _, _, _, _ => false
  | n + 1, sw, from', goal, dst =>
    let takes (out : Nat) : Bool := (s.flowSlots v sw out kind clu).any fun x => x.2 = from'
    (sw = goal && takes dst) ||
      [1, 2, 3, 4].any fun out => takes out &&
        match neighbour sw out with
        | some (d, back) => s.flowPath v kind clu n d back goal dst
        | none => false

/-- Slots per frame between a package and the mesh: reads leave through port 5 as input, writes as output (R162). -/
def State.packageSlots (s : State) (v : Bool) (k : Nat) : Nat :=
  let sw := packageSwitch k
  let e (out i : Nat) : Nat := s.slotOf v sw out i
  (List.range 7).foldl (fun a out => (List.range 256).foldl (fun a i =>
    if natBit (e out i) 3 ∧ (bitField (e out i) 0 3 = 5 ∨ out = 5) then a + 1 else a) a) 0

/-- Whether a cluster has far rows in a package. -/
def State.hasFarRows (s : State) (c k : Nat) : Bool :=
  s.tiles.any fun t => t.1 / 64 = c && 0 < t.2.map.farCount.getD k 0

/-- The first failing check of the slot tables of a version, in the order of R163. -/
def State.slotCheck (s : State) (v : Bool) : Option CheckFail :=
  let entries := if v then s.slots1 else s.slots0
  let at' (e : Nat × Nat) (n : Nat) : CheckFail := { check := n, unit := e.1 / 1792, sub := e.1 / 256 % 7, ref := e.1 % 256 }
  let spill (c : Nat) : Nat := Assoc.getD s.spillAt c 0
  let spillUsed (c : Nat) : Bool := s.reg Reg.SPILL_SIZE != 0 && (Assoc.get? c s.spillAt).isSome
  firstFail [
    (entries.find? fun e => bitField e.2 12 4 != 0 || 7 < bitField e.2 4 4).map fun e => at' e 1,
    (entries.find? fun e => bitField e.2 0 3 == 7 || (natBit e.2 3 && !portExists (e.1 / 1792) (bitField e.2 0 3))).map
      fun e => at' e 2,
    (entries.find? fun e => natBit e.2 3 && !s.entryBalanced v (e.1 / 1792) (e.1 / 256 % 7) (bitField e.2 4 4) (bitField e.2 8 4)).map
      fun e => at' e 3,
    ([0, 1, 2, 3].find? fun k => 192 < s.packageSlots v k).map fun k => { check := 4, unit := packageSwitch k, sub := 5 },
    ((List.range 64).find? fun i => s.hasFarRows (i / 4) (i % 4) &&
      !s.flowPath v 0 (i / 4) 16 (packageSwitch (i % 4)) 5 (i / 4) 0).map fun i =>
        { check := 5, unit := packageSwitch (i % 4), sub := 5, ref := i / 4 },
    ((List.range 16).find? fun c => spillUsed c &&
      (s.packageAt (spill c) != s.packageAt (spill c + s.reg Reg.SPILL_SIZE - 1) ||
        !s.flowPath v 1 c 16 c 0 (packageSwitch (s.packageAt (spill c))) 5 ||
        !s.flowPath v 2 c 16 (packageSwitch (s.packageAt (spill c))) 5 c 0)).map fun c => { check := 6, unit := c }]

/-! ### The rows of the schedule (R164) -/

/-- SCHED_ARM: a write of 1 to SCHED_ARM validates the shadow and enters ARMED, or answers BAD_FORMAT (R164). -/
def State.schedArm (s : State) : Status × State :=
  if s.reg Reg.SCHED_STATE ≠ 0 then (.refused, s)
  else match s.slotCheck (!s.slotVersion) with
    | none => (.ok, s.setReg Reg.SCHED_STATE 1)
    | some f => (.badFormat, s.logFault
        { cls := .configReject, status := .badFormat, unit := f.unit, sub := f.sub, ref := f.ref })

/-- SCHED_ARM (R164). -/
def execSchedArm (path : Path) (s : State) : Host.Outcome State Fault Refusal :=
  .next (s.writeObject path 0x3400 0x0C fun s => s.schedArm)

/-- SCHED_DISARM: a write of 0 to SCHED_ARM returns ARMED to IDLE (R164). -/
def State.schedDisarm (s : State) : Status × State :=
  if s.reg Reg.SCHED_STATE = 2 then (.refused, s) else (.ok, s.setReg Reg.SCHED_STATE 0)

/-- SCHED_DISARM (R164). -/
def execSchedDisarm (path : Path) (s : State) : Host.Outcome State Fault Refusal :=
  .next (s.writeObject path 0x3400 0x0C fun s => s.schedDisarm)

/-- SCHED_SWITCH: accepted in ARMED only; the tables change after the next release (R164). -/
def State.schedSwitch (s : State) : Status × State :=
  if s.reg Reg.SCHED_STATE = 1 then (.ok, s.setReg Reg.SCHED_STATE 2) else (.refused, s)

/-- SCHED_SWITCH (R164). -/
def execSchedSwitch (path : Path) (s : State) : Host.Outcome State Fault Refusal :=
  .next (s.writeObject path 0x3400 0x0D fun s => s.schedSwitch)

end Sys2Proof.Machine
end

