-- ==== Sys2Proof/Machine/Windows.lean ====
section
/-!
DEFINITION. Appending to circular windows (R282, R283), and the skid buffers of the Intake ports as windows (R316).
-/
namespace Sys2Proof.Machine
open Sys2Proof

/-- The window of an address's bank whose BASE equals it and whose MODE suits (R282): its bank and number. -/
def State.windowAt (s : State) (base : Nat) (mode : WinMode) : Option (Nat × Nat) :=
  let b := base / 0x200000
  ((List.range 32).find? fun w => (s.window b w).base == base && (s.window b w).mode == mode).map fun w => (b, w)

/-- Bytes written into a window from an offset, continuing at BASE (R283). -/
def State.windowWrite (s : State) (x : Window) (ofs : Nat) (data : List Byte) : State :=
  let first := x.size - ofs
  (s.setBytes (x.base + ofs) (data.take first)).setBytes x.base (data.drop first)

/-- Bytes read from a window from an offset, continuing at BASE. -/
def State.windowRead (s : State) (x : Window) (ofs n : Nat) : List Byte :=
  let first := min n (x.size - ofs)
  s.bytes (x.base + ofs) first ++ s.bytes x.base (n - first)

/-- WINDOW_APPEND: a record appended to an APPEND window, with the offset the reader is told, or refused FULL (R283). -/
def State.windowAppend (s : State) (b w : Nat) (data : List Byte) : Option Nat × State :=
  let x := s.window b w
  if x.size < x.fill + data.length then
    (none, (s.setWindow b w { x with wfull := true, fullCnt := min 65535 (x.fullCnt + 1) }).bump Reg.WIN_FULL)
  else
    let ofs := x.wr.toNat % x.size
    let wr := x.wr + BitVec.ofNat 32 data.length
    (some ofs, ((s.windowWrite x ofs data).setWindow b w { x with wr := wr, hwm := max x.hwm (wr - x.rd).toNat }))

/-! ### Skid buffers (R316, R317) -/

/-- An Intake port (R221). -/
def State.port (s : State) (p : Nat) : IntakePort := Assoc.getD s.intake p {}

/-- A port's record replaced. -/
def State.setPort (s : State) (p : Nat) (x : IntakePort) : State := { s with intake := Assoc.set p x s.intake }

/-- The window of a port's skid buffer: an APPEND window of 2, 4 or 8 MiB named by SKID_BASE (R316). -/
def State.skid (s : State) (p : Nat) : Option (Nat × Nat) :=
  match s.windowAt (s.reg (Reg.SKID_BASE p)) .append with
  | some bw => if 21 ≤ (s.window bw.1 bw.2).log2size then some bw else none
  | none => none

/-- BSTEP and NEV of the head batch of a port's skid buffer; none while it is empty. -/
def State.skidHead (s : State) (p : Nat) : Option (Nat × Nat) :=
  match s.skid p with
  | none => none
  | some bw =>
    let x := s.window bw.1 bw.2
    if x.fill = 0 then none
    else
      let h := leNat (s.windowRead x (x.rd.toNat % x.size) 8)
      some (bitField h 0 48, bitField h 48 16)

/-- Whether a port still has a batch to inject under the closing window `n`: its head was appended before the close and
its step is not later (R317). -/
def State.portBusy (s : State) (p n : Nat) : Bool :=
  match s.skid p, s.skidHead p with
  | some bw, some h =>
    let x := s.window bw.1 bw.2
    s.reg (Reg.PORT_STATE p) != 0 && h.1 ≤ n && ((s.port p).closeWr - x.rd).toNat != 0 &&
      ((s.port p).closeWr - x.rd).toNat ≤ x.fill
  | _, _ => false

end Sys2Proof.Machine
end

