-- ==== Sys2Proof/Machine/Steps.lean ====
section
/-!
DEFINITION. Steps and gaits (04, R89–R116): release, nominal times, stream windows, reduction, completion and overrun.
-/
namespace Sys2Proof.Machine
open Sys2Proof

/-! ### Small updates of the step machine -/

/-- The step machine changed. -/
def State.modFabric (s : State) (f : Fabric → Fabric) : State := { s with fabric := f s.fabric }

/-- The next release held by a command of an engine, and held by it no longer (R21, R225). -/
def State.holdRelease (s : State) (eng : Nat) : State := s.modFabric fun f => { f with hold := eng :: f.hold }
def State.freeRelease (s : State) (eng : Nat) : State := s.modFabric fun f => { f with hold := f.hold.filter (· ≠ eng) }

/-- A broadcast sent down the spanning tree, which this device learns of as well (R92, R345). -/
def State.broadcast (s : State) (kind n : Nat) : State :=
  s.modFabric fun f => { f with sends := f.sends ++ [(kind, n)], news := f.news ++ [(kind, n, s.clock)] }

/-- T_nom(n) of an anchor under a step length (R102). -/
def nominalTime (anchor : Option (Nat × Nat)) (len n : Nat) : Nat :=
  match anchor with
  | none => 0
  | some a => a.2 + (n - a.1) * len

/-! ### STEP records (R104, R211) -/

/-- A record of a STEP command; it is written whatever CMPL holds (R211). -/
def State.stepRecord (s : State) (run : RunCmd) (st : Status) (aux n ext : Nat) : State :=
  s.writeRecord 0 run (completionEntry run 0 st aux (n % 2 ^ 32) ext)

/-- A STEP command done: counted once with its last status, and no longer outstanding. -/
def State.stepDone (s : State) (run : RunCmd) (st : Status) : State :=
  let b := s.queue run.queue
  (((s.setQueue run.queue { b with outstanding := b.outstanding - 1 }).countDone 0 st).countBusy 0 run.started).settleQueue
    run.queue |>.settleEngine 0

/-- A running STEP that ends without a further release: its newest record carries LAST, or, where that record has been
written, a closing record does (R104, R211). -/
def State.endRun (s : State) (r : StepRun) : State :=
  let mark (x : StepRun) : StepRun := if x = r then { x with ended := true, remaining := some 0 } else x
  if r.owed = [] then
    let n := r.newest.getD (s.reg Reg.STEP_RELEASED)
    ((s.modFabric fun f => { f with runs := dropFirst r f.runs }).stepRecord r.run .ok 3 n 0).stepDone r.run .ok
  else s.modFabric fun f => { f with runs := f.runs.map mark }

/-- The record of complete step `n` written for the STEP command that released it (R105, R211). -/
def State.stepComplete (s : State) (n : Nat) (st : Status) (sums : List Nat) : State :=
  match s.fabric.runs.find? fun r => r.owed.contains n with
  | none => s
  | some r =>
    let last := r.remaining = some 0 ∧ r.owed = [n]
    let ext := packFields [(0, 32, sums.getD 0 0), (32, 32, sums.getD 1 0), (64, 32, sums.getD 2 0), (96, 32, sums.getD 3 0)]
    let s1 := s.stepRecord r.run st (if last then 1 else 0) n ext
    if last then (s1.modFabric fun f => { f with runs := dropFirst r f.runs }).stepDone r.run st
    else s1.modFabric fun f => { f with runs := f.runs.map fun x => if x = r then { x with owed := x.owed.erase n } else x }

/-! ### Release (R92, R100–R103, R106, R112) -/

/-- The STEP command that still has steps to release; at most one has (R208). -/
def State.stepRun (s : State) : Option StepRun := s.fabric.runs.find? fun r => r.remaining != some 0

/-- The gait that will be in force at the next release (R101). -/
def State.pendingGait (s : State) : Nat := s.fabric.staged.gait.getD (s.reg Reg.GAIT)

/-- A GAIT that changes gait, staged after a STEP began, ends it (R104). -/
def State.runEnding (s : State) (r : StepRun) : Bool := s.pendingGait != s.reg Reg.GAIT && s.pendingGait != r.gait

/-- An ABORT of the Fabric engine or of the command's queue ends a running STEP at the next release (R104, R228, R253). -/
def State.runAborted (s : State) (r : StepRun) : Bool :=
  (s.engine 0).st == .aborting || (s.queue r.run.queue).qstate == .aborting

/-- The gait whose condition the next release must meet: the staged one, but the one in force where the release enters
Trot or where the running STEP ends in place of it (R104, R106). DEDUCED. -/
def State.judgingGait (s : State) (r : Option StepRun) : Nat :=
  let ending : Bool := match r with
    | some x => s.runEnding x
    | none => false
  if ending || s.pendingGait == 1 then s.reg Reg.GAIT else s.pendingGait

/-- A percentage of the step length in ns, rounded up to a whole one (R102, R107). -/
def State.stepShare (s : State) (pct : Nat) : Nat := ceilDiv (s.reg Reg.STEP_LEN_NS * pct) 100

/-- CATCHUP_PCT as it judges a release: the value in force on the master, and the master's on another device (R102, R115). -/
def State.catchup (s : State) : Nat := if s.isMaster then s.inForce Reg.CATCHUP_PCT else s.fabric.masterCatchup

/-- The floor by which a release under Canter is judged: that in force, as for P (R106), but the one staged with the gait where
the release enters Canter. DEDUCED. -/
def State.judgingFloor (s : State) : Nat :=
  if s.reg Reg.GAIT = 2 then s.reg Reg.FLOOR_NS else s.fabric.staged.floor.getD (s.reg Reg.FLOOR_NS)

/-- The gait's condition for releasing step `n`, its window's drain left out (R98, R101–R103). The first step under Trot
has no nominal time yet. -/
def State.gaitAllows (s : State) (g n : Nat) (r : Option StepRun) : Bool :=
  let f := s.fabric
  match g with
  | 0 => r.isSome
  | 1 => (f.anchor.isNone || n ≤ f.nominal) &&
      (n ≤ 1 || f.lastRelease + s.stepShare s.catchup ≤ s.clock)
  | _ => n ≤ s.reg Reg.STEP_COMPLETE + 1 && (n ≤ 1 || f.lastRelease + s.judgingFloor ≤ s.clock)

/-- The device may release steps at all: the step master with a harness LOADED, READY, its hold-up charged once, no operation
between steps, no microcode swap, no Brace, no mismatch and no count settle, and no capture due (R21, R89, R90, R180, R389,
R393, R451, R466). -/
def State.mayRelease (s : State) : Bool :=
  let f := s.fabric
  let l := s.learning
  s.isMaster && s.reg Reg.HARNESS_STATE == 2 && s.reg Reg.BRINGUP_STAGE == 6 && s.reg Reg.FABRIC_STATE == 0 &&
    s.update.swapFrom.isNone && s.power.brace.isNone && f.holdupSeen && f.hold == [] && !f.mismatch && !f.settling && l.ending.isNone &&
    (l.epochLen == 0 || l.epochSteps < l.epochLen)

/-- The conditions of R92 for releasing step `n`. -/
def State.releasable (s : State) (n : Nat) : Bool :=
  s.mayRelease && n ≤ s.reg Reg.STEP_COMPLETE + 2 && n ≤ s.fabric.drained + 1

/-- The Intake ports anchor D, S0 and T0 afresh at their next packet after a gait change or a change of P (R306); `before` is
the state before the change. -/
def State.repaced (s before : State) : State :=
  if s.reg Reg.GAIT = before.reg Reg.GAIT ∧ s.reg Reg.STEP_LEN_NS = before.reg Reg.STEP_LEN_NS then s
  else { s with intake := s.intake.map fun x => (x.1, { x.2 with d := none, anchor := none }) }

/-- The staged values put in force (R106, R212). -/
def State.applyStaged (s : State) : State :=
  let g := s.fabric.staged
  let set (o : Obj) (v : Option Nat) (s : State) : State := match v with
    | some x => s.setReg o x
    | none => s
  ((set Reg.SHED_MASK g.shed (set Reg.FLOOR_NS g.floor (set Reg.STEP_LEN_NS g.len (set Reg.OVR_POLICY g.policy
    (set Reg.GAIT g.gait s))))).modFabric fun f => { f with staged := {} }).repaced s

/-- Nominal times discarded outside Trot: NEXT_NOM and the lag read 0 (R106, R114, R374). -/
def State.dropNominal (s : State) : State :=
  (((s.setReg Reg.NEXT_NOM 0).setReg Reg.LAG_NS 0).setReg Reg.LAG_STEPS 0).modFabric fun f => { f with anchor := none }

/-- T_nom anchored at step `n`: the lag becomes 0 (R102, R106). -/
def State.anchorAt (s : State) (n t : Nat) : State :=
  (((s.setReg Reg.NEXT_NOM (t + s.reg Reg.STEP_LEN_NS)).setReg Reg.LAG_NS 0).setReg Reg.LAG_STEPS 0).modFabric
    fun f => { f with anchor := some (n, t), nominal := n }

/-- The lag of a release, held and compared with LAG_LIMIT: beyond it the release is reported and, under SLIP, re-anchors
T_nom (R102, R112). -/
def State.takeLag (s : State) (n lag : Nat) : State :=
  let p := s.reg Reg.STEP_LEN_NS
  let steps := lag / p
  let shown := min 65535 steps
  let s1 := (((s.setReg Reg.LAG_NS lag).setReg Reg.LAG_STEPS shown).peak Reg.LAG_MAX_NS lag).peak Reg.LAG_MAX_STEPS shown
  if s.reg Reg.LAG_LIMIT < shown then
    let s2 := ((s1.bump Reg.LAG_LIMIT_HIT).logFault { cls := .step, status := .late, ref := steps }).emcy 0xFF01 .late 2 0
    if s.reg Reg.LAG_ACTION = 1 then (s2.bumpBy Reg.STEP_SLIP steps).anchorAt n s.clock else s2
  else s1

/-- Nominal times at the release of step `n`, after the staged values have taken effect: `fresh` says that Trot is entered
or P changed (R102, R106). -/
def State.releaseTiming (s : State) (n : Nat) (fresh : Bool) : State :=
  if s.reg Reg.GAIT ≠ 1 then s.dropNominal
  else if fresh || s.fabric.anchor.isNone then s.anchorAt n s.clock
  else s.takeLag n (s.clock - nominalTime s.fabric.anchor (s.reg Reg.STEP_LEN_NS) n)

/-- T_due of a step released now under Trot; none outside it (R107). -/
def State.dueTime (s : State) (n : Nat) : Option Nat :=
  if s.reg Reg.GAIT ≠ 1 then none
  else some (max (nominalTime s.fabric.anchor (s.reg Reg.STEP_LEN_NS) (n + 1))
    (s.clock + s.stepShare (s.reg Reg.OVR_MIN_PCT)))

/-- ROUTE_RETIRE: at the completion of step n_e − 1 the old version becomes the shadow (R136). -/
def State.retireRoutes (s : State) (n : Nat) : State :=
  if s.reg Reg.ROUTE_STATE = 3 ∧ s.reg Reg.SWITCH_STEP ≤ n + 1 then (s.setReg Reg.ROUTE_STATE 0).armWaiting else s

/-- The routing epoch flipped at the release of n_e; where step n_e − 1 is known to be complete the old version retires at
once (R99, R136). -/
def State.flipRoutes (s : State) (n : Nat) : State :=
  if s.reg Reg.ROUTE_STATE = 2 then
    (((s.setReg Reg.ROUTE_E (1 - s.reg Reg.ROUTE_E)).setReg Reg.SWITCH_STEP n).setReg Reg.ROUTE_STATE 3 |>.modTether
      fun x => { x with rerouted := false }).checkHomes.retireRoutes s.fabric.known
  else s

/-- What every device does at a release: STEP_RELEASED, objects whose writes take effect now, the routing epoch, the slot
schedule's drain, the step counted into the epoch, and the step in flight with the statuses already reported for it (R105, R115,
R136, R141, R164, R166, R179). After a lost device every step carries DEGRADED (R467). -/
def State.atRelease (s : State) (n : Nat) (due : Option Nat) : State :=
  let s1 := (s.setReg Reg.STEP_RELEASED n).flipRoutes n
  let flight : StepFlight :=
    { n := n, releasedAt := s.clock, due := due, policy := s.reg Reg.OVR_POLICY, shed := s.reg Reg.SHED_MASK,
      status := (Assoc.getD s.fabric.early n .ok).worse (if s.tether.lost = [] then .ok else .degraded) }
  let s1 := if s.tether.lost = [] then s1 else s1.logFault { cls := .step, status := .degraded, ref := n }
  let s2 := s1.modFabric fun f => { f with
    untilRelease := [], flights := f.flights ++ [flight], lastRelease := s.clock, early := Assoc.erase n f.early }
  let s3 := if s.reg Reg.SCHED_STATE = 2 ∧ s.drainFrom = none then
      { s2 with drainFrom := some s.now, fabric := { s2.fabric with drainStep := n } } else s2
  let l := s3.learning
  let l1 : Learning := { l with epochSteps := l.epochSteps + 1, epochLen := if n = 1 then s3.reg Reg.EPOCH_L else l.epochLen }
  { s3 with learning := l1, seqWait := [] }

/-- STEP_RELEASE: the step master releases the next step once the gait's condition and those of R92 hold, and broadcasts it;
a STEP that a staged gait change ends makes no release (R92, R104). -/
def execStepRelease (s : State) : Host.Outcome State Fault Refusal :=
  let n := s.reg Reg.STEP_RELEASED + 1
  match s.stepRun with
  | none => .next s
  | some r =>
    if !s.releasable n ∨ !s.gaitAllows (s.judgingGait (some r)) n (some r) then .next s
    else if s.runAborted r then .next (s.endRun r)
    else if s.runEnding r then
      let s1 := s.applyStaged
      .next ((if s1.reg Reg.GAIT = 1 then s1.modFabric fun f => { f with anchor := none } else s1.dropNominal).endRun r)
    else
      let s1 := s.applyStaged
      let fresh := s.reg Reg.GAIT ≠ 1 ∨ s.reg Reg.STEP_LEN_NS ≠ s1.reg Reg.STEP_LEN_NS
      let s2 := s1.releaseTiming n fresh
      let s3 := s2.atRelease n (s2.dueTime n)
      let r' := { r with remaining := r.remaining.map (· - 1), owed := r.owed ++ [n], newest := some n }
      .next ((s3.modFabric fun f => { f with runs := f.runs.map fun x => if x = r then r' else x }).broadcast 1 n)

/-- STEP_TIMER_NOMINAL: under Trot the step clock has reached NEXT_NOM, which satisfies the time condition of that step
and moves NEXT_NOM on by P (R374). -/
def execStepTimerNominal (s : State) : Host.Outcome State Fault Refusal :=
  let t := s.reg Reg.NEXT_NOM
  if s.reg Reg.GAIT = 1 ∧ s.fabric.anchor.isSome ∧ t ≤ s.clock then
    .next ((s.setReg Reg.NEXT_NOM (t + s.reg Reg.STEP_LEN_NS)).modFabric fun f => { f with nominal := f.nominal + 1 })
  else .next s

/-! ### Learning of a release (R92, R98, R375) -/

/-- A device other than the master keeps nominal times slaved to device 0's release broadcasts (R375). -/
def State.slaveNominal (s : State) (n arrival : Nat) (fresh : Bool) : State :=
  let t := arrival - s.reg Reg.LAT_COMP
  if s.reg Reg.GAIT ≠ 1 then s.dropNominal
  else match s.fabric.anchor with
    | none => s.anchorAt n t
    | some a =>
      let nom := nominalTime (some a) (s.reg Reg.STEP_LEN_NS) n
      let e : Int := (t : Int) - nom
      if fresh then s.anchorAt n t
      else if e.natAbs ≤ s.reg Reg.SYNC_WIN_NS then
        (s.setReg Reg.NEXT_NOM ((s.reg Reg.NEXT_NOM : Int) + e).toNat).modFabric
          fun f => { f with anchor := some (a.1, ((a.2 : Int) + e).toNat) }
      else s.bump Reg.SYNC_OUTLIER

/-- The master's parameters in force on another device (R107, R115). -/
def State.takeTerms (s : State) (t : ReleaseTerms) : State :=
  ((((((s.modFabric fun f => { f with masterCatchup := t.catchup }).setReg Reg.GAIT t.gait).setReg Reg.STEP_LEN_NS
    t.len).setReg Reg.FLOOR_NS t.floor).setReg Reg.OVR_POLICY
    t.policy).setReg Reg.SHED_MASK t.shed).repaced s

/-- RELEASE_BROADCAST_RECEIVE: the device learns of the release of step `n` and opens its window. On a device other than the
master the release takes effect here, under the master's parameters `terms` (R92, R98, R115, R375). -/
def execReleaseBroadcastReceive (n : Nat) (terms : ReleaseTerms) (s : State) : Host.Outcome State Fault Refusal :=
  match s.fabric.news.find? fun m => m.1 = 1 ∧ m.2.1 = n with
  | none => .next s
  | some m =>
    let s0 := s.modFabric fun f => { f with news := dropFirst m f.news }
    if n ≠ s.fabric.learned + 1 then .next s0
    else
      let s1 := if s.isMaster then s0
        else
          let fresh := s.reg Reg.GAIT ≠ 1 ∨ s.reg Reg.STEP_LEN_NS ≠ terms.len
          ((s0.takeTerms terms).slaveNominal n m.2.2 fresh).atRelease n terms.due
      .next (s1.modFabric fun f => { f with learned := n, window := n, windowOpen := true })

/-! ### Stream windows (R98) -/

/-- The gait's condition for closing window `n`: on the master that for releasing n + 1; on another device its own timer
under Trot and the completion and floor under Canter, and under Walk the master's notice, which is the command itself. -/
def State.closable (s : State) (n : Nat) : Bool :=
  if s.isMaster then s.gaitAllows (s.judgingGait s.stepRun) (n + 1) s.stepRun
  else s.reg Reg.GAIT == 0 || s.gaitAllows (s.reg Reg.GAIT) (n + 1) none

/-- STREAM_WINDOW_CLOSE: the open window closes; sequencers, the Dense engine and ports with nothing to inject are done with
it at once, the other ports once INTAKE_INJECT has emptied them (R98, R317). -/
def execStreamWindowClose (s : State) : Host.Outcome State Fault Refusal :=
  let n := s.fabric.window
  if !s.fabric.windowOpen ∨ !s.closable n then .next s
  else
    let close (s : State) (p : Nat) : State := match s.skid p with
      | some bw => s.setPort p { s.port p with closeWr := (s.window bw.1 bw.2).wr }
      | none => s
    let s1 := [0, 1, 2, 3, 4, 5].foldl close s
    let done := (List.range 17) ++ ([0, 1, 2, 3, 4, 5].filter fun p => !s1.portBusy p n).map (17 + ·)
    .next (s1.modFabric fun f =>
      { f with windowOpen := false, sdone := done.foldl (fun d i => Assoc.set i n d) f.sdone })

/-! ### Reduction (R94–R96, R465) -/

/-- The step of an event in a tile's egress queue: FABRIC events carry the step last updated or the one in update. -/
def Tile.egressStep (x : Tile) (ev : Event) : Nat := if x.updated % 4 = ev.step then x.updated else x.updated + 1

/-- The highest step a tile is DONE with: its update and its emission have ended; a fenced tile, and one
without neurons, is DONE with every step (R30, R92, R465). -/
def Tile.doneThrough (x : Tile) (learned : Nat) : Nat :=
  if x.fenced ∨ x.map.n = 0 then learned
  else
    let open' := x.firing.map (·.step) ++ x.holdback.map (·.step) ++ x.egress.map fun g => x.egressStep g.ev
    open'.foldl (fun a n => min a (n - 1)) x.updated

/-- DONE_THROUGH of this device (R94). -/
def State.doneThrough (s : State) : Nat :=
  s.tiles.foldl (fun a t => min a (t.2.doneThrough s.fabric.learned)) s.fabric.learned

/-- SDONE_THROUGH of this device: sequencers, the Dense engine and the Intake ports (R94, R98). -/
def State.sdoneThrough (s : State) : Nat :=
  (List.range 23).foldl (fun a i => min a (Assoc.getD s.fabric.sdone i 0)) s.fabric.window

/-- The die reduction of this device (R94). -/
def State.dieReduction (s : State) : Reduction :=
  let sum (l : List Tags) : Tags := l.foldl Tags.plus {}
  let oldest := s.reg Reg.STEP_COMPLETE + 1
  { done := s.doneThrough, sdone := s.sdoneThrough,
    fsent := sum (s.tiles.map fun t => t.2.fsent),
    frcvd := (sum (s.tiles.map fun t => t.2.frcvd)).plus
      ((sum (s.routers.map fun r => r.2.frcvd)).plus s.gatewayFrcvd),
    ssent := sum (s.fabric.ssent.map (·.2)),
    srcvd := (sum (s.tiles.map fun t => t.2.srcvd)).plus
      ((sum (s.routers.map fun r => r.2.srcvd)).plus s.gatewaySrcvd),
    status := match s.fabric.flights.find? fun f => f.n == oldest with
      | some f => f.status
      | none => .ok,
    check := oldest }

/-- Two records combined (R94, R345). -/
def Reduction.combine (a b : Reduction) : Reduction :=
  { done := min a.done b.done, sdone := min a.sdone b.sdone, fsent := a.fsent.plus b.fsent, frcvd := a.frcvd.plus b.frcvd,
    ssent := a.ssent.plus b.ssent, srcvd := a.srcvd.plus b.srcvd, status := a.status.worse b.status, check := a.check }

/-- A step value differs from another device's: it is neither the same nor one behind, as while a completion travels (R89,
R94). DEDUCED. -/
def checkDiffers (mine master : Nat) : Bool := mine != master && mine + 1 != master

/-- A step mismatch counted and recorded; releases stop (R89). -/
def State.stepMismatch (s : State) (other : Nat) : State :=
  ((s.bump Reg.SYNC_MISMATCH).logFault { cls := .step, status := .refused, ref := other }).modFabric
    fun f => { f with mismatch := true }

/-- STEP_COMPLETE: the master declares the oldest incomplete step complete where every tile is DONE with it and its counts
agree (R95), with the sums of the round (R211). -/
def State.judgeStep (s : State) (r : Reduction) : State :=
  let n := s.reg Reg.STEP_COMPLETE + 1
  if s.reg Reg.STEP_RELEASED < n ∨ r.done < n ∨ r.fsent.get n ≠ r.frcvd.get n then s
  else
    let sums := [r.fsent.get n, r.frcvd.get n, r.fsent.get (n + 1), r.frcvd.get (n + 1)].map (·.toNat)
    let mark (f : StepFlight) : StepFlight :=
      if f.n = n then { f with sums := sums, status := f.status.worse r.status } else f
    (((s.setReg Reg.STEP_COMPLETE n).peak Reg.COMPLETE_LAT_MAX (s.now - s.fabric.countsAt)).modFabric fun f =>
      { f with flights := f.flights.map mark, lastSums := sums }).broadcast 2 n

/-- STREAM_WINDOW_DRAINED: the next window is drained where every injector is done with it and its counts agree (R98). -/
def State.judgeWindow (s : State) (r : Reduction) : State :=
  let n := s.fabric.drained + 1
  if n ≤ s.fabric.window ∧ n ≤ r.sdone ∧ r.ssent.get n = r.srcvd.get n then s.modFabric fun f => { f with drained := n }
  else s

/-- What a round tells about when counts last changed (R466). -/
def State.noteRound (s : State) (r : Reduction) : State :=
  let same := s.fabric.lastRound = some r
  s.modFabric fun f =>
    { f with lastRound := some r, roundAt := s.now,
             changedAt := if same then f.changedAt else s.now }

/-- SYNC_REDUCTION_ROUND: one round of the sync network (R94–R96). A round with bad parity is discarded (R458). `master` is
the oldest incomplete step of the master as the round carries it to another device; the master compares the records of
its children (R89). While the counts are being zeroed no round counts (R466). -/
def execSyncReductionRound (parity : Bool) (master : Option Nat) (s : State) : Host.Outcome State Fault Refusal :=
  if !parity then .next (s.bump Reg.SYNC_PARITY)
  else if s.reg Reg.HARNESS_STATE < 2 ∨ (s.tether.settle.any fun x => x.zeroing) then .next s
  else
    let own := s.dieReduction
    let r := s.fabric.children.foldl (fun a c => a.combine c.2) own
    let s1 := s.noteRound r
    if s.isMaster then
      match s.fabric.children.find? fun c => checkDiffers c.2.check own.check with
      | some c => .next (s1.stepMismatch c.2.check)
      | none => .next ((s1.judgeStep r).judgeWindow r)
    else
      let s2 := match master with
        | some m => if checkDiffers own.check m then s1.stepMismatch m else s1
        | none => s1
      .next (s2.modFabric fun f => { f with upward := some r })

/-! ### Acting on completion (R79, R92, R136, R222, R268) -/

/-- Words found uncorrectable in W4 and W8 rows, directories and axon tables, rewritten from the image's copy (R79). -/
def State.repairTiles (s : State) : State :=
  let fix (s : State) (k off : Nat) : State :=
    let c := k / 64
    let t := k % 64
    s.setBytes (sramAddr c t (off / 8 * 8)) (s.bytes ((s.tile c t).map.imageAt + off / 8 * 8) 8)
  s.tiles.foldl (fun s t =>
    if t.2.repair = [] then s
    else
      let s1 := t.2.repair.foldl (fun s off => fix s t.1 off) s
      s1.setTile (t.1 / 64) (t.1 % 64) { s1.tile (t.1 / 64) (t.1 % 64) with repair := [] }) s

/-- The payload of a Census record (R223). -/
def CensusGroup.payload (g : CensusGroup) : List Byte :=
  if g.rtype = 1 then leBytes 4 g.firings ++ leBytes 4 g.spikes ++ leBytes 4 g.updates ++ leBytes 4 0
  else (List.range (roundUp g.ncount 16)).map fun i => BitVec.ofNat 8 (Assoc.getD g.vec i 0)

/-- A Census record dropped: counted, and the first of each step recorded (R223). -/
def State.censusDrop (s : State) (g n : Nat) : State :=
  (s.bump Reg.CENSUS_DROP).logGated 23 0 n { cls := .drop, status := .full, ref := g }

/-- Whether a queue takes a Census notice: bound, accepting, of a kind that GROUP_DEF admits and not full (R223, R240, R244). -/
def State.takesNotice (s : State) (q : Nat) : Bool :=
  let b := s.queue q
  b.qstate != .unbound && b.qstate != .closed && (b.kind == .data || b.kind == .completion) && !b.isFull

/-- CENSUS_RECORD: a group's record for step `n` and its notice, or their drop (R222, R223). -/
def State.censusRecord (s : State) (k : Nat) (g : CensusGroup) (n : Nat) (st : Status) : State :=
  let body := g.payload
  let data := leBytes 16 (packFields [(0, 16, k), (16, 8, g.rtype), (24, 8, st.code), (32, 64, n), (96, 32, body.length)])
    ++ body
  let cleared := { g with firings := 0, spikes := 0, updates := 0, vec := [] }
  let s1 := { s with census := Assoc.set k cleared s.census }
  match s.windowAt g.win .append with
  | none => s1.censusDrop k n
  | some bw =>
    let q := g.rqueue % 32768
    let notice (ofs : Nat) : Entry :=
      entryOf [(0, 2, k), (2, 1, g.rtype), (8, 8, n), (16, 4, ofs), (20, 4, data.length)]
    if (s1.queue q).mismatch then (s1.pointerReset q).censusDrop k n
    else if !s1.takesNotice q then (if (s1.queue q).isFull then s1.refuseFull q else s1).censusDrop k n
    else
      let r := s1.windowAppend bw.1 bw.2 data
      match r.1 with
      | some ofs => (r.2.pushEntry q (notice ofs)).bump Reg.CENSUS_RECORDS
      | none => r.2.censusDrop k n

/-- The records due at the completion of step `n` (R222). -/
def State.censusRecords (s : State) (n : Nat) (st : Status) : State :=
  s.census.foldl (fun s e =>
    if e.2.fromStep ≤ n ∧ (n + 1 - e.2.fromStep) % e.2.period = 0 then s.censusRecord e.1 e.2 n st else s) s

/-- STEP_HITCH_SIGNAL (R268). -/
def State.stepHitch (s : State) : State :=
  let h := s.reg Reg.STEP_HITCH
  if h = 0xFFFF then s
  else if (s.hitch h).scope = .system ∧ !s.isMaster then s
  else s.hitchNotify h

/-- A TPDO that is to be sent once its inhibit time allows (R369). -/
def State.wantTpdo (s : State) (k : Nat) : State :=
  let l := s.host.tpdoWant
  { s with host := { s.host with tpdoWant := if l.contains k then l else l ++ [k] } }

/-- A tile has not ended delivery of step `n`: it delivers it, or will deliver it next (R107). -/
def Tile.mustDeliver (x : Tile) (n : Nat) : Bool :=
  !x.fenced && x.map.n != 0 && (x.phase == .deliver n || (x.phase == .idle && x.updated + 1 == n))

/-- The policy of an overrun step applied to a tile that has not ended its delivery (R108–R110). -/
def State.applyPolicy (s : State) (f : StepFlight) (k : Nat) : State :=
  let c := k / 64
  let t := k % 64
  if !(s.tile c t).mustDeliver f.n then s
  else match f.policy with
    | 1 => s.spillCarry c t f.n
    | 2 => s.shedTile c t f.n f.shed
    | _ => s

/-- The policy of an overrun step applied to the device, once the step before it is complete (R108–R110). -/
def State.applyOverrun (s : State) (f : StepFlight) : State :=
  if f.n ≤ s.fabric.known + 1 then s.tiles.foldl (fun s x => s.applyPolicy f x.1) s else s

/-- Policies of steps that overran before step `n` was complete, applied at its completion (R109, R110). -/
def State.overrunAfter (s : State) (n : Nat) : State :=
  match s.fabric.flights.find? fun f => f.overrun && f.n == n + 1 with
  | some f => s.applyOverrun f
  | none => s

/-- COMPLETE_BROADCAST_RECEIVE: the device learns that step `n` is complete (R95): repairs, Census records, the step's
Hitch, the retirement of an old routing version, the policy of a next step that has overrun already, the STEP record, TPDO1
and notices to the host. -/
def execCompleteBroadcastReceive (n : Nat) (s : State) : Host.Outcome State Fault Refusal :=
  match s.fabric.news.find? fun m => m.1 = 2 ∧ m.2.1 = n with
  | none => .next s
  | some m =>
    let s0 := s.modFabric fun f => { f with news := dropFirst m f.news }
    if n ≠ s.fabric.known + 1 ∨ s.fabric.learned < n then .next s0
    else
      let flight := s.fabric.flights.find? fun f => f.n = n
      let st := match flight with
        | some f => f.status
        | none => .ok
      let sums := match flight with
        | some f => f.sums
        | none => []
      let s1 := (s0.modFabric fun f => { f with known := n, lastStatus := st, flights := f.flights.filter fun x => x.n ≠ n }).bump
        Reg.STEPS_DONE
      let s2 := if s.isMaster then s1 else s1.setReg Reg.STEP_COMPLETE n
      let s3 := (((s2.repairTiles.censusRecords n st).stepHitch).retireRoutes n |>.overrunAfter n).stepComplete n st sums
      .next ((s3.wantTpdo 1).notify 1 n [])

/-! ### Overrun (R107–R110) -/

/-- A step that some tile is not DONE with at its due time overruns: counted once, its completion carries LATE, and the device
records it (R105, R107). -/
def State.noteOverrun (s : State) (f : StepFlight) : State :=
  if f.overrun ∨ f.n ≤ s.doneThrough then s
  else
    let mark (x : StepFlight) : StepFlight := if x.n = f.n then { x with overrun := true } else x
    (((s.bump Reg.OVERRUNS).modFabric fun g => { g with flights := g.flights.map mark }).stepStatus f.n .late).logFault
      { cls := .step, status := .late, ref := f.n }

/-- OVERRUN: for every step in flight whose due time has come: the overrun is counted, and once step n − 1 is complete the
step's policy applies to the tiles still delivering it (R107–R110). -/
def execOverrun (s : State) : Host.Outcome State Fault Refusal :=
  let act (s : State) (f : StepFlight) : State :=
    match f.due with
    | none => s
    | some t =>
      if s.clock < t then s
      else
        let s1 := s.noteOverrun f
        if f.overrun ∨ f.n > s.doneThrough then s1.applyOverrun f else s1
  .next (s.fabric.flights.foldl act s)

end Sys2Proof.Machine
end

