-- ==== Sys2Proof/Machine/Plasticity.lean ====
section
/-!
DEFINITION. Learning at epoch boundaries (07, R179–R200): the capture, the sweep with prune and sprout, the journal,
consolidation, remapping and recovery (R286–R290).
-/
namespace Sys2Proof.Machine
open Sys2Proof

/-! ### Small updates -/

/-- The learning state changed. -/
def State.modLearning (s : State) (f : Learning → Learning) : State := { s with learning := f s.learning }

/-- A cluster's plasticity engine changed. -/
def State.modPlast (s : State) (c : Nat) (f : PlastEngine → PlastEngine) : State := s.setPlast c (f (s.plast c))

/-! ### The journal's staging buffer (R191, R192, R289) -/

def stagingSize : Nat := 0x200000

/-- Whether changes are journalled: a staging bank is named and the Stable is not DEGRADED (R191, R199). -/
def State.journals (s : State) : Bool := s.reg Reg.JRNL_BANK < 16 && !s.learning.degraded

/-- Bytes of the present generation, its header among them from its first record on (R192, R289). -/
def State.genFill (s : State) : Nat := max 64 (s.reg Reg.JRNL_FILL)

/-- Room for one more record in the staging buffer and in the present generation (R191, R192). -/
def State.stagingRoom (s : State) : Bool :=
  !s.journals || (s.learning.staged - s.learning.drained + 8 ≤ stagingSize && s.genFill + 8 ≤ stagingSize)

/-- The address of a byte of the staging ring. -/
def State.stagingAddr (s : State) (pos : Nat) : Nat := s.reg Reg.JRNL_BANK * 0x200000 + pos % stagingSize

/-- A record's 8 bytes: VALUE, WORD, TYPE and GENLO (R289). -/
def journalRecord (ty word value gen : Nat) : Nat :=
  packFields [(0, 32, value), (32, 24, word), (56, 3, ty), (60, 4, gen % 16)]

/-- JRNL_PENDING as the staging buffer stands. -/
def State.notePending (s : State) : State := s.setReg Reg.JRNL_PENDING (s.learning.staged - s.learning.drained)

/-- A record staged (R191): counted, and part of the present generation. -/
def State.stage (s : State) (ty word value : Nat) : State :=
  if !s.journals then s
  else
    let s1 := s.setWord (s.stagingAddr s.learning.staged) 8 (journalRecord ty word value (s.reg Reg.JRNL_GEN))
    let s2 := s1.modLearning fun l => { l with staged := l.staged + 8, uncommitted := ty != 2 }
    ((s2.setReg Reg.JRNL_FILL (s.genFill + 8)).bumpBy Reg.JRNL_BYTES 8).notePending

/-- A sweep held for want of room (R191): since when. -/
def State.holdSweep (s : State) (c : Nat) : State :=
  match Assoc.get? c s.learning.heldFrom with
  | some _ => s
  | none => s.modLearning fun l => { l with heldFrom := Assoc.set c s.now l.heldFrom }

/-- A sweep goes on: the time it was held is added (R191). -/
def State.unholdSweep (s : State) (c : Nat) : State :=
  match Assoc.get? c s.learning.heldFrom with
  | none => s
  | some t => (s.modLearning fun l => { l with heldFrom := Assoc.erase c l.heldFrom }).bumpBy Reg.JRNL_STALL_NS (s.now - t)

/-! ### Plastic rows (R287) -/

/-- The offset of a plastic row in the Stable's row area (R287). -/
def State.rowOffset (s : State) (c : Nat) (row : RowName) : Option Nat :=
  (s.learning.rows.find? fun r => r.1 = c ∧ r.2.1 = row).map (·.2.2)

/-- The device address of a plastic row. -/
def State.rowAddr (s : State) (c : Nat) (row : RowName) : Nat :=
  if row.far then (s.farEntry c row.tile row.row).1 else s.nearRowAddr c row.tile row.row

/-- A changed row noted for the next consolidation (R193). -/
def State.noteChanged (s : State) (c : Nat) (row : RowName) : State :=
  if s.learning.changed.contains (c, row) then s
  else s.modLearning fun l => { l with changed := l.changed ++ [(c, row)] }

/-- A word of a plastic row written and journalled (R185, R191): a far row's cached copy takes it once the row is
PRESENT. -/
def State.writeRowWord (s : State) (c : Nat) (row : RowName) (off value : Nat) : State :=
  let s1 := (s.setWord (s.rowAddr c row + off) 4 value).noteChanged c row
  let s2 := if row.far then
      match (s1.store c).tag row.tile row.row with
      | none => s1
      | some g =>
        if g.present then
          s1.setStore c ((s1.store c).modTag row.tile row.row fun g =>
            { g with data := g.data.take off ++ leBytes 4 value ++ g.data.drop (off + 4) })
        else s1.modPlast c fun e => { e with cacheWrites := e.cacheWrites ++ [(row, off, value)] }
    else s1
  match s.rowOffset c row with
  | some o => s2.stage 1 ((o + off) / 4) value
  | none => s2

/-! ### Group entries (R172) -/

def grpByte (g lo : Nat) : Int := signedOf 8 (bitField g lo 8)
def grpEsh (g : Nat) : Nat := bitField g 48 4
def grpWmin (g : Nat) : Int := grpByte g 64
def grpWmax (g : Nat) : Int := grpByte g 72
def grpStruct (g : Nat) : Bool := natBit g 80
def grpSproutMax (g : Nat) : Nat := bitField g 81 3
def grpPruneTh (g : Nat) : Nat := bitField g 88 8
def grpPruneP (g : Nat) : Nat := bitField g 96 8
def grpSproutTh (g : Nat) : Int := grpByte g 104
def grpSproutW (g : Nat) : Int := grpByte g 112
def grpCwBase (g : Nat) : Nat := bitField g 128 14
def grpCwLen (g : Nat) : Nat := bitField g 144 15

/-- The conditions of R173 on a group entry. -/
def groupValid (g : Nat) : Bool :=
  bitField g 52 4 == 0 && bitField g 84 4 == 0 && bitField g 120 8 == 0 && bitField g 142 2 == 0 && bitField g 159 97 == 0
    && -127 ≤ grpWmin g && grpWmin g ≤ grpWmax g && grpWmin g ≤ grpSproutW g && grpSproutW g ≤ grpWmax g
    && (grpPruneTh g == 0 || 1 ≤ grpPruneP g) && 0 ≤ grpSproutTh g && grpCwBase g + grpCwLen g ≤ 16384

/-! ### The end of an epoch (R179) -/

/-- The present epoch ends with the last released step; the capture is due (R179, R180). -/
def State.endEpoch (s : State) (command : Bool) : State :=
  (s.modLearning fun l => { l with ending := some (s.reg Reg.STEP_RELEASED, s.now), command := command }).modFabric
    fun f => { f with sends := f.sends ++ [(3, s.reg Reg.STEP_RELEASED)] }

/-- EPOCH_END: on the master the epoch ends after its L-th released step; on another device with the master's CAPTURE
broadcast (R179, R338). -/
def execEpochEnd (s : State) : Host.Outcome State Fault Refusal :=
  let l := s.learning
  if l.ending.isSome ∨ s.reg Reg.HARNESS_STATE ≠ 2 then .next s
  else if s.isMaster then
    if l.epochLen ≠ 0 ∧ l.epochLen ≤ l.epochSteps then .next (s.endEpoch false) else .next s
  else match s.fabric.news.find? fun m => m.1 = 3 with
    | none => .next s
    | some m => .next ((s.modFabric fun f => { f with news := dropFirst m f.news }).modLearning fun l =>
        { l with ending := some (m.2.1, s.now), command := false })

/-! ### The capture (R180, R187, R188) -/

/-- The weight byte pair of synapse `i` within its word replaced: W in the high byte, F in the low one (R69). -/
def setPair (w i : Nat) (wf : Int) : Nat := setBitField w (16 * (i % 2)) 16 (unsignedOf 16 wf)

/-- The weight W·256 + F of synapse `i` in its word (R182). -/
def pairOf (w i : Nat) : Int := signedOf 16 (bitField w (16 * (i % 2)) 16)

/-- The edit that gives synapse `i` of a row the weight pair W·256 + F. -/
def weightEdit (row : RowName) (h : RowHeader) (i : Nat) (wf : Int) : RowEdit :=
  { row := row, off := h.wordOff i, bit := 16 * (i % 2), width := 16, value := unsignedOf 16 wf }

/-- The edit that gives synapse `i` of a near sparse row a target. -/
def targetEdit (row : RowName) (h : RowHeader) (i v : Nat) : RowEdit :=
  { row := row, off := h.targetOff + 2 * i / 4 * 4, bit := 16 * (i % 2), width := 16, value := v }

/-- The edit of COUNT, in W0 (R64, R185). -/
def countEdit (row : RowName) (v : Nat) : RowEdit := { row := row, off := 4, bit := 0, width := 17, value := v }

/-- The edits of a cluster made in order, each with its journal record, while there is room for one; at most `fuel` of them
(R185, R191). -/
def State.applyEdits (s : State) (c : Nat) : Nat → State
  | 0 => s
  | n + 1 =>
    match (s.plast c).edits with
    | [] => s
    | e :: l =>
      if !s.stagingRoom then s.holdSweep c
      else
        let s1 := (s.unholdSweep c).modPlast c fun x => { x with edits := l }
        let w := s1.word (s1.rowAddr c e.row + e.off) 4
        let s2 := s1.writeRowWord c e.row e.off (setBitField w e.bit e.width e.value)
        let s3 := if e.pruned then s2.bumpAt Reg.PRUNED c else if e.sprouted then s2.bumpAt Reg.SPROUTED c else s2
        s3.applyEdits c n

/-- COMPACTION of slot `i` of a row set to be written: the last synapse moves into it and COUNT falls by 1 (R187). -/
def State.compact (s : State) (c : Nat) (row : RowName) (i : Nat) : State :=
  let h := s.rowHeader (.at (s.rowAddr c row))
  let last := h.count - 1
  let clear := [weightEdit row h last 0, targetEdit row h last 0, { countEdit row last with pruned := true }]
  if i < last then
    let wf := pairOf (s.word (s.rowAddr c row + h.wordOff last) 4) last
    let t := s.rowTarget (.at (s.rowAddr c row)) h last
    s.modPlast c fun e => { e with
      edits := [weightEdit row h i wf, targetEdit row h i t] ++ clear
      watch := e.watch.map fun x =>
        if x.tile = row.tile ∧ x.row = row.row ∧ x.slot = last then { x with slot := i } else x }
  else s.modPlast c fun e => { e with edits := clear }

/-- The queued compaction that comes next: of the first row queued, the highest slot (R187). -/
def nextCompaction (l : List (Nat × Nat × Nat)) : Option (Nat × Nat × Nat) :=
  match l with
  | [] => none
  | x :: _ => (l.filter fun y => y.1 = x.1 ∧ y.2.1 = x.2.1).foldl
      (fun o y => match o with
        | none => some y
        | some z => if z.2.2 < y.2.2 then some y else some z) none

/-- The queued compactions of a cluster applied one after another; a lack of room for a record holds them (R187, R191). -/
def State.compactSome (s : State) (c : Nat) : Nat → State
  | 0 => s
  | n + 1 =>
    let s1 := s.applyEdits c 5
    if (s1.plast c).edits ≠ [] then s1
    else match nextCompaction (s1.plast c).prune with
      | none => s1
      | some x =>
        if !s1.stagingRoom then s1.holdSweep c
        else (((s1.unholdSweep c).modPlast c fun e => { e with prune := dropFirst x e.prune }).compact c
          { tile := x.1, far := false, row := x.2.1 } x.2.2).compactSome c n

/-- Reports still in a cluster's queues belong to the epoch that closes and are taken into its records. -/
def State.flushReports (s : State) (c : Nat) : State :=
  let e := s.plast c
  let s1 := e.pre.foldl (fun s r => s.applyPre c r) (s.modPlast c fun e => { e with pre := [] })
  e.postQueue.foldl (fun s r => s.applyPost c r) (s1.modPlast c fun e => { e with postQueue := [] })

/-- A cluster's tables swapped and its candidate list built (R180, R188). -/
def State.swapTables (s : State) (c : Nat) : State :=
  let e := s.plast c
  let min' := signedOf 32 (s.reg Reg.CAND_MIN)
  let fit := e.post.filter fun r => min' ≤ r.eAcc
  let s1 := s.modPlast c fun e =>
    { e with closed := e.dirty, dirty := [], postClosed := e.post, post := [], candidates := fit.take 512,
             sweeping := true, sweepFrom := s.now, current := none }
  s1.bumpByAt Reg.CAND_FULL (0x10 + c) (fit.length - 512)

/-- Clusters that hold plastic rows or records. -/
def State.plasticClusters (s : State) : List Nat :=
  (List.range 16).filter fun c => (s.learning.rows.any fun r => r.1 == c) || (Assoc.get? c s.learning.engines).isSome

/-- The time since the epoch's end that the capture has waited for the step and the sweep, added once, for the module and each
cluster that learns (R180). -/
def State.noteSweepWait (s : State) (from' : Nat) : State :=
  if s.learning.waitNoted then s
  else
    let t := s.now - from'
    let s1 := s.plasticClusters.foldl (fun s c => s.bumpBy (Reg.SWEEP_WAIT_NS.copy (0x10 + c)) t) s
    (s1.bumpBy Reg.SWEEP_WAIT_NS t).modLearning fun l => { l with waitNoted := true }

/-- The tables swapped, EPOCH advanced, group entries and EPOCH_L taken, and the sweep begun (R173, R179–R181). -/
def State.captureNow (s : State) (nb : Nat) : State :=
  let cs := s.plasticClusters
  let s1 := cs.foldl (fun s c => (s.flushReports c).swapTables c) s
  let rows := cs.foldl (fun a c => a + (s1.plast c).closed.length) 0
  let s2 := s1.modLearning fun l =>
    { l with ending := none, waitNoted := false, sweepFrom := s.now, epochSteps := 0,
             epochLen := s.reg Reg.EPOCH_L, groupsCaptured := l.groups, closedRows := rows }
  ((s2.setReg Reg.EPOCH_END_STEP nb).setReg Reg.EPOCH (s.reg Reg.EPOCH + 1)).setReg Reg.SWEEP_BUSY 1

/-- The LEARN_EPOCH that ended the epoch completes with its capture, with the most severe status of this device and the others
(R210, R213). -/
def State.learnDone (s : State) (epoch nb : Nat) (others : Status) : State :=
  let l := s.learning
  let own : Status := if l.epochStatus = .eccUncorr then .eccUncorr else if l.degraded then .degraded else .ok
  let st := others.worse own
  let s1 := s.modLearning fun l => { l with epochStatus := .ok, command := false }
  if l.command then (s1.freeRelease 0).conclude 0 st 0 (epoch % 2 ^ 32) (packFields [(0, 64, nb), (64, 32, l.closedRows)]) else s1

/-- Whether an epoch's capture may begin: its last step is complete, the sweep before has ended, and the device is not in Brace
(R180, R393). -/
def State.captureReady (s : State) (nb : Nat) : Bool :=
  decide (nb ≤ s.fabric.known) && s.fabric.flights == [] && s.reg Reg.SWEEP_BUSY == 0 && s.fabric.holdupSeen &&
    s.power.brace.isNone

/-- CAPTURE: once the epoch's last step is complete and the sweep before has ended, and, on the master, once `others` tells the
worst status of the other devices, which have captured (R180, R210); never in Brace (R393). Compactions that find no room for
their records hold it (R191). -/
def execCapture (others : Option Status) (s : State) : Host.Outcome State Fault Refusal :=
  match s.learning.ending with
  | none => .next s
  | some (nb, from') =>
    if !s.captureReady nb ∨ (s.isMaster ∧ others = none) then .next s
    else
      let s0 := s.noteSweepWait from'
      let s1 := s0.plasticClusters.foldl (fun s c => s.compactSome c ((s.plast c).prune.length + 2)) s0
      if s1.plasticClusters.any fun c => (s1.plast c).prune != [] || (s1.plast c).edits != [] then .next s1
      else .next ((s1.captureNow nb).learnDone (s.reg Reg.EPOCH) nb (others.getD .ok))

/-! ### The sweep (R182–R189) -/

/-- trace_at: a trace as of step `nb`, read at step `c`; one stamped later is read as stored (R182, R183). -/
def traceAt (x tau stamp nb c : Nat) : Int :=
  let aNow := stampAge c stamp
  let aB := c - nb
  if aNow < aB then x
  else
    let dt := aNow - aB
    if 63 < dt then 0 else rnd (x * tracePower tau dt) 15

/-- What a sweep of one row carries: the group entry, x_pre and s_pre, the step of the sweep and n_b, the epoch, and what
was found uncorrectable. -/
structure SweepCtx where
  cluster : Nat
  row : RowName
  header : RowHeader
  group : Nat
  xPre : Int
  sPre : Int
  step : Nat
  nb : Nat
  epoch : Nat
  flaws : SweepFlaws

/-- sat8 of R182. -/
def sat8 (x : Int) : Int := satInt 8 x

/-- The weight change d of R182: four terms, each rounded once. -/
def weightDelta (g : Nat) (xPre sPre xPost sPost ePost wf : Int) : Int :=
  rnd (grpByte g 0 * xPre * ePost) (bitField g 32 4) + rnd (grpByte g 8 * xPre * sPost) (bitField g 36 4)
    + rnd (grpByte g 16 * sPre * xPost) (bitField g 40 4) - rnd (grpByte g 24 * wf) (bitField g 44 4)

/-- The post record of a neuron in the closed table, or none (R182). -/
def PlastEngine.postOf (e : PlastEngine) (t i : Nat) : Int × Int :=
  match e.postClosed.find? fun r => r.tile == t && r.neuron == i with
  | some r => (r.sPost, r.eAcc)
  | none => (0, 0)

/-- A watch entry of a synapse. -/
def PlastEngine.watchOf (e : PlastEngine) (t r i : Nat) : Option WatchEntry :=
  e.watch.find? fun w => w.tile == t && w.row == r && w.slot == i

/-- A watch entry created: where the table is full it replaces the oldest LAST that is more than PRUNE_P epochs old
(R186). -/
def State.watchNew (s : State) (c : Nat) (x : WatchEntry) (p : Nat) : State :=
  let e := s.plast c
  if e.watch.length < 16384 then s.modPlast c fun e => { e with watch := e.watch ++ [x] }
  else
    let oldest := e.watch.foldl (fun o w => match o with
      | none => some w
      | some v => if w.last < v.last then some w else some v) none
    match oldest with
    | some w =>
      if p < x.last - w.last then s.modPlast c fun e => { e with watch := dropFirst w e.watch ++ [x] }
      else s.bumpAt Reg.WATCH_FULL c
    | none => s.bumpAt Reg.WATCH_FULL c

/-- PRUNE: a synapse examined against the watch table; whether it is pruned now (R186). -/
def State.watchSynapse (s : State) (x : SweepCtx) (i : Nat) (wf : Int) : Bool × State :=
  let c := x.cluster
  let e := s.plast c
  let t := x.row.tile
  let r := x.row.row
  let low := wf.natAbs < 256 * grpPruneTh x.group
  match e.watchOf t r i with
  | none => if low then (false, s.watchNew c ⟨t, r, i, x.epoch, x.epoch⟩ (grpPruneP x.group)) else (false, s)
  | some w =>
    if !low then (false, s.modPlast c fun e => { e with watch := dropFirst w e.watch })
    else if x.epoch + 1 - w.first < grpPruneP x.group then
      (false, s.modPlast c fun e => { e with watch := e.watch.map fun y => if y = w then { w with last := x.epoch } else y })
    else if e.prune.length < 256 then
      (true, s.modPlast c fun e => { e with watch := dropFirst w e.watch, prune := e.prune ++ [(t, r, i)] })
    else
      (false, (s.modPlast c fun e =>
        { e with watch := e.watch.map fun y => if y = w then { w with last := x.epoch } else y }).bumpAt Reg.PRUNE_Q_FULL c)

/-- One synapse of a weight word: the word as changed and the state (R182, R186). -/
def State.sweepSynapse (s : State) (x : SweepCtx) (w i : Nat) : Nat × State :=
  let c := x.cluster
  let t := s.rowTarget (.at (s.rowAddr c x.row)) x.header i
  let n := s.neuron c x.row.tile t
  let wf := pairOf w i
  let r : Int × State :=
    if (s.tile c x.row.tile).map.n ≤ t ∨ n.dead then (wf, s)
    else
      let q := s.classAt n.cls x.step
      let xPost := traceAt n.xpost q.tauPost n.tl x.nb x.step
      let p := if x.flaws.posts.contains t then (0, 0) else (s.plast c).postOf x.row.tile t
      let d := weightDelta x.group x.xPre x.sPre xPost p.1 (sat8 (rnd p.2 (grpEsh x.group))) wf
      let v := max (256 * grpWmin x.group) (min (256 * grpWmax x.group + 255) (wf + d))
      (v, (if v ≠ wf + d then s.bumpAt Reg.W_CLAMP c else s).bumpAt Reg.SYN_UPD c)
  let watched : Bool × State :=
    if grpStruct x.group ∧ x.header.layout = 1 ∧ !x.row.far ∧ grpPruneTh x.group ≠ 0 then r.2.watchSynapse x i r.1
    else (false, r.2)
  (setPair w i (if watched.1 then 0 else r.1), watched.2)

/-- The durable records of a word, oldest first: the drained part of the generation before and of the present one, and
what is staged (R200, R289). -/
def State.durableWord (s : State) (index : Nat) : Option Nat :=
  let gen := s.reg Reg.JRNL_GEN
  let region (g : Nat) : Nat := journalBase (g % 2) + g / 2 % 2 * 0x200000
  let inHalf (g n : Nat) : List Nat := (List.range n).map fun k => s.word (region g + 64 + 8 * k) 8
  let l := s.learning
  let older := if gen = 0 ∨ l.drainGen < gen - 1 then [] else
    inHalf (gen - 1) (if l.drainGen = gen - 1 then (l.drainPos - 64) / 8 else 262136)
  let newer := if l.drainGen = gen then inHalf gen ((l.drainPos - 64) / 8) else []
  let staged := (List.range ((l.staged - l.drained) / 8)).map fun k => s.word (s.stagingAddr (l.drained + 8 * k)) 8
  let fits (g v : Nat) : Bool := bitField v 56 3 == 1 && bitField v 32 24 == index && bitField v 60 4 == g % 16
  let hits := (older.filter (fits (gen - 1))) ++ (newer.filter (fits gen)) ++
    (staged.filter fun v => fits gen v || fits (gen - 1) v)
  hits.getLast?.map fun v => bitField v 0 32

/-- The image's copy of a word of a row (R57, R200). -/
def State.imageWord (s : State) (c : Nat) (row : RowName) (off : Nat) : Nat :=
  let a := s.rowAddr c row + off
  if row.far then
    match s.learning.farCopies.find? fun x => x.1 ≤ a ∧ a < x.1 + x.2.1 with
    | some x => s.word (x.2.2 + (a - x.1)) 4
    | none => 0
  else s.word ((s.tile c row.tile).map.imageAt + (a - tileWindow c row.tile)) 4

/-- An uncorrectable word of a plastic row rewritten from its latest durable value: the newest journal record, else the
Stable copy, else the image's (R200). -/
def State.recoverWord (s : State) (c : Nat) (row : RowName) (off : Nat) : State :=
  let stableValid := s.reg Reg.STABLE_STATE ≠ 0 ∧ s.reg Reg.STABLE_HARNESS = s.reg Reg.HARNESS_MEAS
  let v := match s.rowOffset c row with
    | none => s.imageWord c row off
    | some o =>
      match s.durableWord ((o + off) / 4) with
      | some v => v
      | none => if stableValid then s.word (stableBase + o + off) 4 else s.imageWord c row off
  s.setWord (s.rowAddr c row + off) 4 v

/-- The recovery of a word counted and, once an epoch, recorded (R200). -/
def State.noteRecover (s : State) (c : Nat) (row : RowName) (off : Nat) : State :=
  (s.bump Reg.W8P_RECOVER).epochEcc c row.tile row.ident (off / 4)

/-- The weight words of a row from word `j` on, at most `fuel` of them: whether the row's weights are finished, and the
state, which a lack of staging room holds before the next word's read (R182, R191). -/
def State.sweepWords (s : State) (x : SweepCtx) (j : Nat) : Nat → Bool × State
  | 0 => (true, s)
  | k + 1 =>
    if x.header.count ≤ 2 * j then (true, s)
    else if !s.stagingRoom then
      (false, (s.holdSweep x.cluster).modPlast x.cluster fun e =>
        { e with current := e.current.map fun r => { r with word := j } })
    else
      let s0 := s.unholdSweep x.cluster
      let off := x.header.weightOff + 4 * j
      if x.flaws.words.contains j then
        ((s0.recoverWord x.cluster x.row off).noteRecover x.cluster x.row off).sweepWords x (j + 1) k
      else
        let w := s0.word (s0.rowAddr x.cluster x.row + off) 4
        let a := s0.sweepSynapse x w (2 * j)
        let b := if 2 * j + 1 < x.header.count then a.2.sweepSynapse x a.1 (2 * j + 1) else a
        let s1 := if b.1 = w then b.2
          else (b.2.writeRowWord x.cluster x.row off b.1).bumpAt Reg.WORDS_CHANGED x.cluster
        s1.sweepWords x (j + 1) k

/-- A candidate that may become a synapse of the row (R189). -/
def State.candidateFits (s : State) (x : SweepCtx) (h : RowHeader) (r : PostRecord) : Bool :=
  let g := x.group
  r.tile == x.row.tile && grpCwBase g ≤ r.neuron && r.neuron < grpCwBase g + grpCwLen g &&
    r.neuron < (s.tile x.cluster r.tile).map.n && !(s.neuron x.cluster r.tile r.neuron).dead &&
    !((List.range h.count).any fun i => s.rowTarget (.at (s.rowAddr x.cluster x.row)) h i == r.neuron) &&
    decide (grpSproutTh g ≤ sat8 (rnd r.eAcc (grpEsh g)))

/-- SPROUT: candidates from place `k` on taken in list order, each in the write order of R185: weight, target, COUNT; at
most `fuel` of them. Whether the row is finished, and the state (R189, R191). -/
def State.sproutSome (s : State) (x : SweepCtx) (k added : Nat) : Nat → Bool × State
  | 0 => (true, s)
  | m + 1 =>
    if grpSproutMax x.group ≤ added then (true, s)
    else match (s.plast x.cluster).candidates[k]? with
      | none => (true, s)
      | some r =>
        let h := s.rowHeader (.at (s.rowAddr x.cluster x.row))
        if !s.candidateFits x h r then s.sproutSome x (k + 1) added m
        else if h.cap ≤ h.count then (s.bumpAt Reg.SPROUT_NOSLOT x.cluster).sproutSome x (k + 1) added m
        else
          let s1 := (s.modPlast x.cluster fun e => { e with
            edits := [weightEdit x.row h h.count (256 * grpSproutW x.group), targetEdit x.row h h.count r.neuron,
              { countEdit x.row (h.count + 1) with sprouted := true }]
            current := e.current.map fun c => { c with word := h.count + 1, sprouted := added + 1, cand := k + 1 } }).applyEdits
              x.cluster 3
          if (s1.plast x.cluster).edits ≠ [] then (false, s1) else s1.sproutSome x (k + 1) (added + 1) m

/-- The PLX of a plastic row: of the row's header, or its far entry (R171, R176). -/
def State.rowPlx (s : State) (c : Nat) (row : RowName) : Plx :=
  if row.far then Plx.ofWord (((s.plast c).farFind row).getD 0) else Plx.ofWord (s.word (s.nearRowAddr c row.tile row.row + 12) 4)

/-- The PLX of a plastic row replaced. -/
def State.setRowPlx (s : State) (c : Nat) (row : RowName) (x : Plx) : State :=
  if row.far then s.modPlast c fun e => e.farSet row x.toWord
  else s.setWord (s.nearRowAddr c row.tile row.row + 12) 4 x.toWord

/-- The row at the head of a cluster's closed dirty list is done with; the cluster's sweep ends with its last row (R181). -/
def State.nextRow (s : State) (c : Nat) : State :=
  let s1 := s.modPlast c fun e => { e with closed := e.closed.drop 1, current := none }
  if (s1.plast c).closed = [] then
    s1.peak (Reg.SWEEP_MAX_NS.copy (0x10 + c)) (s.now - (s.plast c).sweepFrom)
  else s1

/-- A sweep begun or resumed: the row's context, with x_pre and s_pre as read from PLX when it began (R182). -/
def State.sweepCtx (s : State) (c : Nat) (cur : SweepRow) (f : SweepFlaws) : SweepCtx :=
  let h := s.rowHeader (.at (s.rowAddr c cur.row))
  { cluster := c, row := cur.row, header := h, group := s.group h.pgrp, xPre := cur.xPre, sPre := cur.sPre,
    step := s.fabric.learned, nb := s.reg Reg.EPOCH_END_STEP, epoch := s.reg Reg.EPOCH - 1, flaws := f }

/-- The bookkeeping found uncorrectable in a sweep discarded (R200). -/
def State.dropFlawed (s : State) (c : Nat) (row : RowName) (f : SweepFlaws) : State :=
  let s1 := f.posts.foldl (fun s i =>
    if (s.plast c).postClosed.any fun r => r.tile == row.tile && r.neuron == i then
      (s.modPlast c fun e => { e with postClosed := e.postClosed.filter fun r => !(r.tile == row.tile && r.neuron == i) })
        |>.plasticEcc c row.tile i
    else s) s
  f.watches.foldl (fun s i =>
    match (s.plast c).watchOf row.tile row.row i with
    | some w => (s.modPlast c fun e => { e with watch := dropFirst w e.watch }).plasticEcc c row.tile row.ident
    | none => s) s1

/-- The weights, pruning and sprouting of the current row, from where it stands, and its end (R182). -/
def State.runSweep (s0 : State) (c : Nat) (cur : SweepRow) (f : SweepFlaws) : State :=
  let s := s0.applyEdits c 3
  let x := s.sweepCtx c cur f
  let a := s.sweepWords x cur.word (x.header.count + 1)
  if (s.plast c).edits ≠ [] then s
  else if !a.1 then a.2
  else
    let sprouts := grpStruct x.group && x.header.layout == 1 && !cur.row.far && decide (grpSproutTh x.group ≠ 0) &&
      grpSproutMax x.group != 0
    let b := if sprouts then a.2.sproutSome x cur.cand cur.sprouted 513 else (true, a.2)
    if !b.1 then b.2
    else
      let p := (s.reg Reg.EPOCH + 1) % 2
      let s1 := b.2.setRowPlx c cur.row ((b.2.rowPlx c cur.row).setSpre p 0)
      (s1.bumpAt Reg.ROWS_SWEPT c).nextRow c

/-- SWEEP_ROW: the next dirty row of a cluster is swept, or the row that a full staging buffer has held goes on (R182, R191).
`f` says what proved uncorrectable (R200). -/
def execSweepRow (c : ClusterId) (f : SweepFlaws) (s : State) : Host.Outcome State Fault Refusal :=
  let e := s.plast c.val
  match e.current, e.closed with
  | some cur, _ => .next ((s.dropFlawed c.val cur.row f).runSweep c.val cur f)
  | none, [] => .next s
  | none, row :: _ =>
    let p := (s.reg Reg.EPOCH + 1) % 2
    let x := s.rowPlx c.val row
    if f.plx then
      let s1 := if row.far then s.modPlast c.val fun e => { e with farPlx := e.farPlx.filter fun y => y.1 ≠ row }
        else s.setRowPlx c.val row { rxpre := 0, rtl := s.fabric.learned % 4096, spre0 := 0, spre1 := 0 }
      .next ((s1.plasticEcc c.val row.tile row.ident).nextRow c.val)
    else if x.spre p = 0 then .next (s.nextRow c.val)
    else
      let h := s.rowHeader (.at (s.rowAddr c.val row))
      let k := s.classAt (grpSrcCls (s.group h.pgrp)) s.fabric.learned
      let xPre := traceAt x.rxpre k.tauPre x.rtl (s.reg Reg.EPOCH_END_STEP) s.fabric.learned
      let cur : SweepRow := { row := row, xPre := xPre.toNat, sPre := x.spre p, word := 0 }
      let s1 := (s.modPlast c.val fun e => { e with current := some cur }).dropFlawed c.val row f
      .next (s1.runSweep c.val cur f)

/-- SWEEP_END: every dirty row has been swept; a COMMIT record closes the epoch in the journal, SWEEP_BUSY falls and
SWEEP_HITCH is signalled (R181, R191, R289). -/
def execSweepEnd (s : State) : Host.Outcome State Fault Refusal :=
  if s.reg Reg.SWEEP_BUSY = 0 ∨ (s.plasticClusters.any fun c => (s.plast c).closed != []) ∨ !s.stagingRoom then .next s
  else
    let gen := s.reg Reg.JRNL_GEN
    let s1 := s.stage 2 (gen / 2 ^ 32 % 2 ^ 24) (gen % 2 ^ 32)
    let s2 := (s1.setReg Reg.SWEEP_BUSY 0).peak Reg.SWEEP_MAX_NS (s.now - s.learning.sweepFrom)
    let s3 := s.plasticClusters.foldl (fun s c => s.modPlast c fun e => { e with sweeping := false }) s2
    let h := s.reg Reg.SWEEP_HITCH
    .next (if h = 0xFFFF then s3 else s3.hitchNotify h)

/-! ### The Stable (R197, R286–R290) -/

/-- The page of a Stable address (R287). -/
def stablePage (a : Nat) : Nat := (a - stableBase) / 4096

/-- A write pass over a page begun: its counter rises, and at 9 × 10⁹ the page waits for a remap (R197, R290). -/
def State.wearPage (s : State) (p : Nat) : State :=
  let n := Assoc.getD s.learning.wear p 0 + 1
  let s1 := (s.modLearning fun l => { l with wear := Assoc.set p n l.wear }).setReg Reg.WEAR_MAX (max (s.reg Reg.WEAR_MAX) n)
  if n < 9000000000 ∨ s.learning.remapWant.contains p then s1
  else s1.modLearning fun l => { l with remapWant := l.remapWant ++ [p] }

/-- The write passes of a page begun, one page after another. -/
def State.wearPages (s : State) (l : List Nat) : State := l.foldl (fun s p => s.wearPage p) s

/-- WEAR_MAX as the counters stand (R201, R290). -/
def State.noteWear (s : State) : State := s.setReg Reg.WEAR_MAX (s.learning.wear.foldl (fun m e => max m e.2) 0)

/-- The verdict on a block written: failed verifies are counted, and a page whose retry fails waits for a remap (R197). -/
def State.verifyBlock (s : State) (p : Nat) (v : StoreVerify) : State :=
  match v with
  | .ok => s
  | .retried => s.bump Reg.STABLE_VERIFY_FAIL
  | .failed =>
    let s1 := s.bumpBy Reg.STABLE_VERIFY_FAIL 2
    if s.learning.remapWant.contains p then s1 else s1.modLearning fun l => { l with remapWant := l.remapWant ++ [p] }

/-- Whether the device may start a Stable write: never in Brace (R193, R393). -/
def State.mayWriteStable (s : State) : Bool := s.power.brace.isNone && !s.learning.degraded

/-- Where a generation's half lies (R192). -/
def genBase (g : Nat) : Nat := journalBase (g % 2) + g / 2 % 2 * 0x200000

/-- The header block of a generation's half (R289). -/
def genHeader (g : Nat) : List Byte :=
  let body := leBytes 60 (packFields [(0, 32, 0x4E4A4C46), (32, 16, 1), (64, 56, g)])
  body ++ leBytes 4 (crc32c body).toNat

/-- Where the generation in the drain ends in the staged bytes: at the start of the next generation, or not yet. -/
def State.genEnd (s : State) : Option Nat :=
  (s.learning.genStarts.find? fun g => g.1 = s.learning.drainGen + 1).map (·.2)

/-- A block of a generation written at the drain's place, with its wear pass where it begins a page. -/
def State.drainBlock (s : State) (data : List Byte) (v : StoreVerify) : State :=
  let l := s.learning
  let a := genBase l.drainGen + l.drainPos
  let s1 := s.setBytes a data
  let s2 := if a % 4096 = 0 then s1.wearPage (stablePage a) else s1
  (s2.verifyBlock (stablePage a) v).modLearning fun l => { l with drainPos := l.drainPos + 64, drainedAt := s.now }

/-- PAD records to the end of a block (R289). -/
def padRecords (g n : Nat) : List Byte := (List.range n).flatMap fun _ => leBytes 8 (journalRecord 0 0 0 g)

/-- `n` staged bytes from where the drain stands. -/
def State.stagedBytes (s : State) (n : Nat) : List Byte :=
  (List.range n).map fun k => Memory.read s.mem (s.stagingAddr (s.learning.drained + k))

/-- The drain's last block of a generation written, padded, with `n` staged bytes. -/
def State.drainLast (s : State) (n : Nat) (v : StoreVerify) : State :=
  let g := s.learning.drainGen
  ((s.drainBlock (s.stagedBytes n ++ padRecords g ((64 - n) / 8)) v).modLearning fun l =>
    { l with drained := l.drained + n }).notePending

/-- JOURNAL_DRAIN: one 64-byte block of staged records written to the Stable in order, at most one per microsecond
(JRNL_RATE), the header block before a generation's first records (R191, R192, R289). `v` is the block's verify (R197). -/
def execJournalDrain (v : StoreVerify) (s : State) : Host.Outcome State Fault Refusal :=
  let l := s.learning
  let left := match s.genEnd with
    | some e => e - l.drained
    | none => l.staged - l.drained
  let flush := s.genEnd.isSome || s.reg Reg.HARNESS_STATE == 3
  if !s.mayWriteStable ∨ !s.journals ∨ s.now < l.drainedAt + 1000 then .next s
  else if left = 0 then
    if s.genEnd.isSome then .next (s.modLearning fun l => { l with drainGen := l.drainGen + 1, drainPos := 0 }) else .next s
  else if l.drainPos = 0 then .next (s.drainBlock (genHeader l.drainGen) v)
  else if 64 ≤ left then
    .next (((s.drainBlock (s.stagedBytes 64) v).modLearning fun l => { l with drained := l.drained + 64 }).notePending)
  else if flush then .next (s.drainLast left v)
  else .next s

/-! ### Consolidation (R193, R288, R290) -/

/-- The page of the superblock copy that the next write takes: the one that does not hold the valid superblock (R287, R288). -/
def State.superPage (s : State) : Nat := if s.learning.superB then 15360 else 15361

/-- Bytes of the valid superblock. -/
def State.superField (s : State) (ofs n : Nat) : Nat :=
  s.word (stableBase + 0x3C00000 + (if s.learning.superB then 0x1000 else 0) + ofs) n

/-- The pages of the wear counters (R287). -/
def wearArea : List Nat := (List.range 36).map (15380 + ·)

/-- The superblock written to the copy that does not hold the valid one: block 1, then block 0 with SEQ + 1 (R288). -/
def State.writeSuperblock (s : State) (state done run : Nat) : State :=
  let l := s.learning
  let meas := leBytes 64 (s.reg Reg.STABLE_HARNESS)
  let body := leBytes 60 (packFields [(0, 32, 0x42534C46), (32, 16, 1), (48, 8, state), (64, 32, l.superSeq + 1),
    (96, 32, done), (128, 32, run), (160, 16, s.reg Reg.SPARE_LEFT), (192, 32, (crc32c meas).toNat)])
  let base := stableBase + 0x3C00000 + (if l.superB then 0 else 0x1000)
  ((s.setBytes (base + 64) meas).setBytes base (body ++ leBytes 4 (crc32c body).toNat)).modLearning fun l =>
    { l with superB := !l.superB, superSeq := l.superSeq + 1 }

/-- A plastic row copied into the row area, rounded up to 64 B, with PLX = 0 (R193, R287). -/
def State.consolidateRow (s : State) (c : Nat) (row : RowName) : State :=
  match s.rowOffset c row with
  | none => s
  | some o =>
    let a := s.rowAddr c row
    let h := s.rowHeader (.at a)
    let n := h.length
    let data := s.bytes a n ++ List.replicate (roundUp n 64 - n) 0
    s.setBytes (stableBase + o) (data.take 12 ++ leBytes 4 0 ++ data.drop 16)

/-- The pages that the copies of rows touch, each once (R290). -/
def State.pagesOf (s : State) (rows : List (Nat × RowName)) : List Nat :=
  rows.foldl (fun l x => match s.rowOffset x.1 x.2 with
    | none => l
    | some o =>
      let n := roundUp (s.rowHeader (.at (s.rowAddr x.1 x.2))).length 64
      ((List.range (n / 4096 + 2)).map (· + o / 4096)).foldl (fun l p =>
        if l.contains p ∨ o + n ≤ p * 4096 then l else l ++ [p]) l) []

/-- Whether a consolidation is due: the period has passed, one was asked for, or the generation is full; never within 33 ms
of the last beginning nor before its end (R193). It waits for the COMMIT of a running sweep, so that the copies hold committed
epochs alone, except where the generation is full, for then the sweep waits for it (R191, R196; DEDUCED). -/
def State.consolidationDue (s : State) : Bool :=
  let l := s.learning
  let since := s.now - l.consolAt.getD 0
  let full : Bool := stagingSize ≤ s.reg Reg.JRNL_FILL
  (full || !l.uncommitted) && !l.consolRunning && l.rows != [] && s.reg Reg.HARNESS_STATE == 2 && (l.consolAt.isNone || 33000000 ≤ since) &&
    (l.consolWant || s.reg Reg.CONSOL_PERIOD_MS * 1000000 ≤ since || full)

/-- CONSOLIDATION_BEGIN: a new generation starts, the superblock records the consolidation, and every plastic row changed
since the last one began is copied into the Stable (R193). `bad` gives the pages whose block verifies failed (R197). -/
def execConsolidationBegin (bad : List (Nat × StoreVerify)) (s : State) : Host.Outcome State Fault Refusal :=
  if !s.mayWriteStable ∨ !s.consolidationDue ∨ s.reg Reg.PWR_STATE ≠ 0 then .next s
  else
    let gen := s.reg Reg.JRNL_GEN + 1
    let rows := s.learning.changed
    let pages := s.pagesOf rows ++ [s.superPage]
    let done := s.superField 12 4
    let s1 := (((s.setReg Reg.JRNL_GEN gen).setReg Reg.JRNL_FILL 64).setReg Reg.STABLE_HARNESS (s.reg Reg.HARNESS_MEAS))
      |>.modLearning fun l =>
        { l with genStarts := l.genStarts ++ [(gen, l.staged)], consolWant := false, consolAt := some s.now,
                 consolRunning := true, changed := [] }
    let s2 := (s1.setReg Reg.STABLE_STATE 2).writeSuperblock 2 done (gen % 2 ^ 32)
    let s3 := rows.foldl (fun s r => s.consolidateRow r.1 r.2) s2
    let s4 := s3.wearPages pages
    .next (bad.foldl (fun s b => if pages.contains b.1 then s.verifyBlock b.1 b.2 else s) s4)

/-- The wear counters written to their area (R290). -/
def State.flushWear (s : State) : State :=
  s.learning.wear.foldl (fun s w => if w.1 < 18432 then s.setWord (stableBase + 0x3C14000 + 8 * w.1) 8 w.2 else s) s

/-- CONSOLIDATION_END: the completion mark; the generation before is free (R193, R288). -/
def execConsolidationEnd (v : StoreVerify) (s : State) : Host.Outcome State Fault Refusal :=
  if !s.learning.consolRunning ∨ !s.mayWriteStable then .next s
  else
    let gen := s.reg Reg.JRNL_GEN % 2 ^ 32
    let s1 := (((s.setReg Reg.STABLE_STATE 1).writeSuperblock 1 gen 0xFFFFFFFF).wearPages (s.superPage :: wearArea)).flushWear
    let s2 := s1.modLearning fun l => { l with consolRunning := false }
    .next (((s2.bump Reg.CONSOLS).peak Reg.CONSOL_MAX_MS ((s.now - s.learning.consolAt.getD 0) / 1000000)).verifyBlock
      s.superPage v)

/-! ### Remapping and recovery (R197, R199, R200) -/

/-- STABLE_DEGRADED: with no spare page left, journalling and consolidation stop (R199). The state is put into the superblock,
for it survives power loss (R201). -/
def State.stableDegraded (s : State) : State :=
  ((((s.setReg Reg.STABLE_STATE 3).writeSuperblock 3 (s.superField 12 4) (s.superField 16 4)).modLearning fun l =>
    { l with degraded := true, consolRunning := false }).logFault
    { cls := .stable, status := .degraded }).emcy 0xFF03 .degraded 6 0

/-- STABLE_PAGE_REMAP: a page that waits for it is copied to a spare, and its remap entry switched in one block write
(R197, R287); `v` is the verify of the copy. The page's counter starts again with the copy's pass, for it bounds the writes of
the spare's cells from now on (R290; DESIGN CHOICE). -/
def execStablePageRemap (p : Fin 18432) (v : StoreVerify) (s : State) : Host.Outcome State Fault Refusal :=
  let left := s.reg Reg.SPARE_LEFT
  if !s.learning.remapWant.contains p.val ∨ s.power.brace.isSome then .next s
  else
    let s0 := s.modLearning fun l => { l with remapWant := dropFirst p.val l.remapWant }
    if left = 0 then .next s0.stableDegraded
    else
      let spare := 18432 + (1024 - left)
      let s1 := s0.modLearning fun l =>
        { l with remap := Assoc.set p.val spare l.remap, wear := Assoc.set p.val 1 l.wear }
      let entry := stableBase + 0x3C02000 + 4 * p.val
      let s2 := ((s1.setWord entry 4 (spare + 2 ^ 31)).noteWear).wearPage (stablePage entry)
      .next (((s2.setReg Reg.SPARE_LEFT (left - 1)).bump Reg.STABLE_REMAP).verifyBlock p.val v)

/-- One word of a plastic row that a lane met uncorrectable: the PLX of a near row is reset, any other is rewritten and counted
(R200). -/
def State.recoverOne (s : State) (c : Nat) (row : RowName) (off : Nat) : State :=
  if off = 12 ∧ !row.far then
    (s.setRowPlx c row { rxpre := 0, rtl := s.fabric.learned % 4096, spre0 := 0, spre1 := 0 }).plasticEcc c row.tile row.ident
  else (s.recoverWord c row off).noteRecover c row off

/-- W8P_RECOVER: the two words of the oldest uncorrectable 8 bytes that a lane met in a plastic row of a cluster are rewritten,
once the tile has left the step's delivery (R200). -/
def execW8pRecover (c : ClusterId) (s : State) : Host.Outcome State Fault Refusal :=
  match s.learning.recover.find? fun r => r.1 = c.val with
  | none => .next s
  | some (_, row, off) =>
    match (s.tile c.val row.tile).phase with
    | .deliver _ => .next s
    | _ =>
      let s0 := s.modLearning fun l => { l with recover := dropFirst (c.val, row, off) l.recover }
      .next ((s0.recoverOne c.val row off).recoverOne c.val row (off + 4))

end Sys2Proof.Machine
end

