-- ==== Sys2Proof/Machine/Dictionary.lean ====
section
/-!
DEFINITION. The object dictionary (R354–R358): what a read of an object returns, the range of every writable object, and
writes of objects that have no command of their own. Writes of the others are joined to their commands in HostWrites.
-/
namespace Sys2Proof.Machine
open Sys2Proof

/-! ### Tables as byte blocks -/

/-- `n` entries of `w` bytes of a map from key `base`. -/
def tableBytes (l : Assoc Nat) (base n w : Nat) : List Byte :=
  (List.range n).flatMap fun i => leBytes w (Assoc.getD l (base + i) 0)

/-- The entries of a byte block that are not zero, as a map from key `base`. -/
def blockEntries (base w : Nat) : Nat → List Byte → Assoc Nat
  | 0, _ => []
  | n + 1, l =>
    let v := leNat (l.take w)
    let rest := blockEntries (base + 1) w n (l.drop w)
    if v = 0 then rest else (base, v) :: rest

/-- A range of keys of a map replaced by the entries of a block. -/
def setTable (l : Assoc Nat) (base n w : Nat) (v : Nat) : Assoc Nat :=
  l.filter (fun e => e.1 < base) ++ blockEntries base w n (leBytes (n * w) v) ++ l.filter fun e => base + n ≤ e.1

/-! ### Reads (R354) -/

/-- PRODUCT of a variant (R360). -/
def Variant.product : Variant → Nat
  | .d64 => 0x01001648 | .d32 => 0x02001648 | .d64e => 0x03001648

/-- The two dump slots at the top of the LPDDR5X firmware region (R470). -/
def State.dumpSlot (s : State) (b : Bool) : Nat := ddrBase + s.variant.usable - (if b then 0x800000 else 0x1000000)

/-- Reads of the queue, Hitch and host objects that are computed from state. -/
def State.viewQueues (s : State) (index sub : Nat) : Option Nat :=
  match index, sub with
  | 0x2420, 2 => some ((s.queue (s.reg Reg.QSEL)).block (s.lastOf .saddle))
  | 0x2420, 3 => some (s.queue (s.reg Reg.QSEL)).policy
  | 0x2420, 5 => some (s.queues.filter fun q => q.2.qstate ≠ .unbound).length
  | 0x2420, 7 => some s.comb.length
  | 0x2430, 3 => some (s.hitchEntry (s.reg Reg.HSEL))
  | 0x2430, 5 => some (s.queues.filter fun q => q.2.waiter.isSome).length
  | 0x2830, 2 => some s.host.sessions.length
  | 0x2200, 1 => some s.clock
  | 0x3400, 8 => some s.specPctEff
  | _, _ => none

/-- Cycles of the slow clock at a time: periods of 1,953,125 / 64 ns (R382). -/
def slowCount (now : Nat) : Nat := now * 64 / 1953125

/-- Nanoseconds since the accounting was last brought up to date; time in sleep is taken from the slow clock (R407). -/
def State.acctElapsed (s : State) : Nat :=
  if s.reg Reg.PWR_STATE = 0 then s.now - s.power.acctFrom
  else (slowCount s.now - slowCount s.power.acctFrom) * 1953125 / 64

/-- Nanoseconds of state `i`: RUN, IDLE, HOLD, WATCH, Brace and LOW_INPUT in this order (R407). -/
def State.acctTime (s : State) (i : Nat) : Nat :=
  let now : Bool := if i = 4 then s.power.brace.isSome else if i = 5 then s.reg Reg.SUPPLY_STATE == 2 else s.reg Reg.PWR_STATE == i
  s.power.acctNs.getD i 0 + (if now then s.acctElapsed else 0)

/-- Reads of the accounting bank (R407): counters of time under RESIDENCY; the others are kept as written. -/
def State.viewAcct (s : State) (sub : Nat) : Nat :=
  let slot := if sub ≤ 4 then sub - 1 else if sub = 9 then 4 else 5
  if s.reg Reg.ACCT_MODE = 0 ∧ (sub ≤ 4 ∨ sub = 9 ∨ sub = 10) then min (s.acctTime slot / 1000000) 0xFFFFFFFF
  else s.reg (Reg.ACCT (sub - 1))

/-- Reads of the identity objects and of the fault log. -/
def State.viewFixed (s : State) (index sub : Nat) : Option Nat :=
  match index, sub with
  | 0x1014, 0 => some (0x80 + s.reg Reg.NODE_ID)
  | 0x1018, 2 => some s.variant.product
  | 0x1018, 4 => some (s.reg Reg.SERIAL_FULL % 2 ^ 32)
  | 0x2500, 1 => some s.variant.fitted
  | 0x2500, 2 => some s.variant.usable
  | 0x2500, 3 => some (s.variant.usable - 0x4000000)
  | 0x3000, 0xE => some (boolNat s.isMaster)
  | 0x7000, 1 => some s.flogSeq
  | 0x7000, 2 => some s.flog.length
  | 0x7000, 3 => some (leNat (s.flog.flatMap FaultEntry.bytes))
  | 0x7020, 1 => some (leNat (s.bytes (s.dumpSlot false) 0x800000))
  | 0x7020, 2 => some (leNat (s.bytes (s.dumpSlot true) 0x800000))
  | _, _ => none

/-- Reads of tables kept as maps: routing, multicast, slot and group tables, window descriptors and engine states. -/
def State.viewTables (s : State) (index sub : Nat) : Option Nat :=
  let e := s.reg Reg.ROUTE_E == 1
  let c := index - 0x3310
  let w := index - 0x3410
  let groups (v : Bool) : Assoc Nat := if v then s.groups1 else s.groups0
  let members (v : Bool) : Assoc Nat := if v then s.members1 else s.members0
  let slots (v : Bool) : Assoc Nat := if v then s.slots1 else s.slots0
  if index = 0x3300 ∧ sub = 5 then some (leNat (tableBytes (s.routeTable s.routeShadow) 0 64 4))
  else if index = 0x3300 ∧ sub = 6 then some (leNat (tableBytes (s.routeTable e) 0 64 4))
  else if 0x3310 ≤ index ∧ index < 0x3320 ∧ sub = 1 then
    some (leNat (tableBytes (groups s.routeShadow) (4096 * c) 4096 4))
  else if 0x3310 ≤ index ∧ index < 0x3320 ∧ sub = 2 then
    some (leNat (tableBytes (members s.routeShadow) (16384 * c) 16384 8))
  else if 0x3310 ≤ index ∧ index < 0x3320 ∧ sub = 3 then some (leNat (tableBytes (groups e) (4096 * c) 4096 4))
  else if 0x3310 ≤ index ∧ index < 0x3320 ∧ sub = 4 then some (leNat (tableBytes (members e) (16384 * c) 16384 8))
  else if 0x3410 ≤ index ∧ index < 0x3420 ∧ sub = 1 then
    some (leNat (tableBytes (slots !s.slotVersion) (1792 * w) 1792 2))
  else if 0x3410 ≤ index ∧ index < 0x3420 ∧ sub = 2 then some (leNat (tableBytes (slots s.slotVersion) (1792 * w) 1792 2))
  else if index = 0x3510 ∧ sub = 1 then some (leNat (tableBytes s.learning.groups 0 256 32))
  else if 0x2440 ≤ index ∧ index < 0x2450 ∧ 1 ≤ sub ∧ sub ≤ 32 then
    some (s.window (index - 0x2440) (sub - 1)).descriptor
  else if 0x3610 ≤ index ∧ index < 0x361A ∧ sub = 1 then
    some (match (s.engine (index - 0x3610)).st with
      | .enabled => 0 | .draining => 1 | .aborting => 2 | .disabled => 3)
  else if 0x3610 ≤ index ∧ index < 0x361A ∧ sub = 3 then
    some (s.queues.filter fun q => q.2.qstate ≠ .unbound ∧ q.2.kind = .command ∧ q.2.eng = index - 0x3610).length
  else none

/-! ### Defaults that depend on other values (R344, R360, R369) -/

/-- A mapping entry of a PDO: index, sub-index and length in bits (R369). -/
def pdoEntry (o : Obj) : Nat := o.index * 65536 + o.sub * 256 + 8 * o.ty.bytes

/-- The default content of TPDO `i + 1` (R369). -/
def tpdoContent (i : Nat) : List Nat :=
  match i with
  | 0 => [pdoEntry Reg.STEP_COMPLETE, pdoEntry Reg.LAG_NS, pdoEntry Reg.HARNESS_STATE]
  | 1 => (List.range 6).map fun p => pdoEntry (Reg.REIN_STATE p)
  | 2 => ((List.range 4).map fun p => pdoEntry (Reg.OVF_DROP p)) ++ [pdoEntry Reg.OVERRUNS]
  | _ => []

/-- The fixed mapping of RPDO `i + 1` (R369). The reserved bytes are shown as the dummy entry of CiA 301. PRESUMED. -/
def rpdoContent (i : Nat) : List Nat :=
  match i with
  | 0 => [pdoEntry Reg.GAIT, pdoEntry Reg.OVR_POLICY, 0x00060010, pdoEntry Reg.STEP_LEN_NS]
  | _ => ((List.range 6).map fun p => pdoEntry (Reg.REIN_OVERRIDE p)) ++ [0x00060010]

/-- Sub-index `sub` of a mapping: the number of entries, or an entry. -/
def mappingAt (l : List Nat) (sub : Nat) : Nat := if sub = 0 then l.length else l.getD (sub - 1) 0

/-- The default of an object: that of its table, or one computed from the unit's number, NODE_ID or MAC_BASE. -/
def State.defaultOf (s : State) (o : Obj) : Nat :=
  let i := o.index % 16
  let node := s.reg Reg.NODE_ID
  if (o.index = 0x2820 ∨ o.index = 0x2821) ∧ o.sub = 1 then s.reg Reg.MAC_BASE + i * 2 ^ 40
  else if 0x2610 ≤ o.index ∧ o.index ≤ 0x2617 ∧ o.sub = 7 then i % 6
  else if 0x1400 ≤ o.index ∧ o.index ≤ 0x1401 ∧ o.sub = 1 then 0x200 + 0x100 * i + node
  else if 0x1600 ≤ o.index ∧ o.index ≤ 0x1601 then mappingAt (rpdoContent i) o.sub
  else if 0x1800 ≤ o.index ∧ o.index ≤ 0x1803 then
    match o.sub with
    | 1 => 0x180 + 0x100 * i + node + (if i = 3 then 2 ^ 31 else 0)
    | 2 => if i < 2 then 0xFE else 0xFF
    | 3 => if i = 0 then 100 else 0
    | 5 => if i = 2 then 100 else 0
    | _ => o.dflt
  else if 0x1A00 ≤ o.index ∧ o.index ≤ 0x1A03 then mappingAt (tpdoContent i) o.sub
  else o.dflt

/-- The value an object holds, or its default. -/
def State.held (s : State) (o : Obj) : Nat := (Assoc.get? o.key s.regs).getD (s.defaultOf o)

/-- The lane objects of an Ethernet port, which do not exist and read 0 (R324). -/
def noLanes (index sub : Nat) : Bool := 0x2714 ≤ index && index ≤ 0x2715 && 0xB ≤ sub && sub ≤ 0xD

/-- SKID_PEAK of a port: the HWM of its skid buffer's window (R318, R326). -/
def State.skidPeak (s : State) (p : Nat) : Nat :=
  match s.skid p with
  | none => 0
  | some bw => (s.window bw.1 bw.2).hwm

/-- A port's SKID_PEAK cleared, and so the HWM of the window (R318). -/
def State.clearPeak (s : State) (p : Nat) : State :=
  match s.skid p with
  | none => s
  | some bw => s.setWindow bw.1 bw.2 { s.window bw.1 bw.2 with hwm := 0 }

/-- The value a read of an object returns, without what the read clears. -/
def State.viewObj (s : State) (o : Obj) : Nat :=
  match s.viewQueues o.index o.sub with
  | some v => v
  | none => match s.viewFixed o.index o.sub with
    | some v => v
    | none => match s.viewTables o.index o.sub with
      | some v => v
      | none =>
        if o.index = 0x2410 ∧ o.sub = 0x10 then 8
        else if 0x6140 ≤ o.index ∧ o.index ≤ 0x6145 ∧ o.sub = 0x17 then s.skidPeak (o.index - 0x6140)
        else if o.index = 0x6190 ∧ 1 ≤ o.sub then s.viewAcct o.sub
        else if noLanes o.index o.sub then 0
        else s.held o

/-- A read by the dictionary server: the value, and RC objects cleared in the same operation (R11, R355). -/
def State.readObj (s : State) (o : Obj) : Nat × State :=
  let v := s.viewObj o
  match o.acc with
  | .rc => (v, if 0x6140 ≤ o.index ∧ o.index ≤ 0x6145 ∧ o.sub = 0x17 then s.clearPeak (o.index - 0x6140) else s.setReg o 0)
  | _ => (v, s)

/-- An index and sub-index as a read finds them: an object, the highest sub-index in sub-index 0, or nothing (R354). -/
def readTarget (index sub : Nat) : Option (Option Obj) :=
  match Reg.find index sub with
  | some o => some (some o)
  | none => if sub = 0 ∧ (Reg.highestSub index).isSome then some none else none

/-- The bytes of a value as a transfer carries them: a STR without terminator, as long as it is (R10). -/
def ObjTy.encode (ty : ObjTy) (v : Nat) : List Byte :=
  match ty with
  | .str => ((leBytes 32 v).reverse.dropWhile (· == 0)).reverse
  | _ => leBytes ty.bytes v

/-- A read through a path: status and the bytes of the value (R354–R356). -/
def State.readPath (s : State) (p : Path) (index sub : Nat) : Status × List Byte × State :=
  match readTarget index sub with
  | none => (.badFormat, [], s)
  | some t =>
    match s.accessStatus p false index sub with
    | .ok => match t with
      | none => (.ok, leBytes 1 ((Reg.highestSub index).getD 0), s)
      | some o =>
        if o.acc = .wo then (.refused, [], s)
        else
          let r := s.readObj o
          (.ok, o.ty.encode r.1, r.2)
    | st => (st, [], s)

/-! ### Ranges of writable objects -/

/-- Contiguous ranges: first index, number of indices, sub-index, lowest and highest value. -/
def rangeTable : List (Nat × Nat × Nat × Nat × Nat) :=
  [(0x3200, 1, 8, 1, 100), (0x3000, 1, 6, 0, 100), (0x3000, 1, 7, 10, 100), (0x3000, 1, 8, 1, 4095), (0x3000, 1, 9, 0, 1),
   (0x3300, 1, 8, 0, 3), (0x3300, 1, 9, 0, 15), (0x3400, 1, 7, 0, 100), (0x3400, 1, 9, 0, 16), (0x3500, 1, 1, 0, 256),
   (0x3500, 1, 6, 1, 8388607), (0x3500, 1, 7, 100, 3600000), (0x2420, 1, 1, 0, 32767), (0x2430, 1, 2, 0, 16383),
   (0x2500, 1, 7, 1, 168), (0x2500, 1, 8, 0, 1), (0x2710, 6, 4, 1, 99), (0x2710, 6, 6, 0, 2), (0x2710, 6, 7, 0, 1),
   (0x2710, 6, 9, 0, 1), (0x2710, 6, 0xA, 0, 1000000), (0x2710, 4, 0xB, 0, 15), (0x2820, 2, 2, 0, 1), (0x2820, 2, 3, 0, 2),
   (0x2820, 2, 4, 0, 255), (0x2820, 2, 5, 1, 65535), (0x2820, 2, 7, 0, 1), (0x2600, 1, 6, 0, 7), (0x2600, 1, 7, 0, 1),
   (0x2600, 1, 8, 1000, 100000), (0x2600, 1, 9, 1, 7), (0x2600, 1, 0xA, 1, 10000000), (0x2810, 1, 1, 1, 127),
   (0x2810, 1, 4, 500, 900), (0x2810, 1, 5, 500, 900), (0x2810, 1, 7, 0, 1), (0x2830, 1, 1, 1, 10000),
   (0x2200, 1, 3, 100, 100000), (0x2200, 1, 7, 0, 1000000), (0x2210, 8, 6, 0, 0x3F), (0x2210, 8, 8, 0, 16383), (0x2220, 4, 5, 0, 7),
   (0x2220, 4, 7, 0, 16383),
   (0x2100, 1, 3, 0, 0x7F), (0x2100, 1, 5, 0, 0x7FF), (0x2100, 1, 6, 0, 0x7FF), (0x2100, 1, 7, 0, 1), (0x2100, 1, 0xA, 0, 1),
   (0x2100, 1, 0x14, 1, 1000), (0x2100, 1, 0x15, 10000, 50000), (0x2100, 1, 0x18, 85, 110), (0x2100, 1, 0x19, 0, 1),
   (0x2330, 1, 4, 20, 100), (0x2330, 1, 0xD, 20, 100), (0x2040, 1, 0xB, 60, 86400), (0x7000, 1, 6, 10, 1000),
   (0x7000, 1, 7, 5, 10000), (0x7000, 1, 8, 100, 100000), (0x7000, 1, 9, 10, 100000), (0x7000, 1, 0xA, 10, 10000)]

/-- Each entry of a DECAY block at most 0x8000, and entry 0 zero (R34). -/
def decayOk (v : Nat) : Bool := v % 65536 == 0 && (List.range 64).all fun i => bitField v (16 * i) 16 ≤ 0x8000

/-- The ranges of a class entry's fields, judged at the write (R34). -/
def classRange (sub v : Nat) : Bool :=
  match sub with
  | 1 => inRangeV (signedOf 32 v) | 2 => inRangeV (signedOf 32 v) | 3 => inRangeV (signedOf 32 v)
  | 4 => v ≤ 1 | 5 => decayOk v | 6 => v ≤ 1 | 7 => v ≤ 15
  | 8 => bitField v 21 11 == 0 | 9 => bitField v 21 11 == 0 | 10 => bitField v 21 11 == 0 | 11 => bitField v 21 11 == 0
  | 12 => v ≤ 0x8000 | 13 => v ≤ 0x8000
  | 15 => inRangeV (signedOf 32 v) | 16 => v ≤ 3 | 18 => v ≤ 2 | 19 => v ≤ 1 | 20 => inRangeV (signedOf 32 v)
  | _ => true

/-- BANK_OWNER: a code of the table, SEQMASK for code 9 alone, reserved bits 0 (R277). -/
def ownerOk (v : Nat) : Bool :=
  v % 256 ≤ 9 && bitField v 8 8 == 0 && (bitField v 16 16 != 0) == (v % 256 == 9)

/-- A mapping entry that a TPDO may hold: an object of 0x2000–0x6FFF, readable, neither DOMAIN nor RC, with its length (R369).
No entry at all is 0. -/
def mappable (v : Nat) : Bool :=
  v == 0 || (match Reg.find (v / 65536) (v / 256 % 256) with
    | some o => decide (0x2000 ≤ o.index) && decide (o.index ≤ 0x6FFF) && v % 256 == 8 * o.ty.bytes && o.acc != .rc && o.acc != .wo &&
      (match o.ty with
        | .domain _ => false
        | _ => true)
    | none => false)

/-- Ranges that are not an interval, or that another object bounds. -/
def State.oddRange (s : State) (index sub v : Nat) : Bool :=
  if 0x3100 ≤ index ∧ index ≤ 0x31FF then classRange sub v
  else if index = 0x3300 ∧ sub = 0xA then decide (v < s.reg Reg.THR2)
  else if index = 0x3300 ∧ sub = 0xB then decide (s.reg Reg.THR1 < v ∧ v < s.reg Reg.THR3)
  else if index = 0x3300 ∧ sub = 0xC then decide (s.reg Reg.THR2 < v ∧ v ≤ 128)
  else if (index = 0x3500 ∧ sub = 5) ∨ (index = 0x2430 ∧ sub = 4) then decide (v < 16384 ∨ v = 0xFFFF)
  else if index = 0x2410 then ownerOk v
  else if 0x2710 ≤ index ∧ index ≤ 0x2713 ∧ sub = 0xC then v == 1 || v == 2 || v == 4
  else if 0x2710 ≤ index ∧ index ≤ 0x2713 ∧ sub = 0xD then [0, 4, 8, 12].all fun b => bitField v b 4 ≤ 3
  else if (index = 0x2820 ∨ index = 0x2821) ∧ sub = 1 then !natBit v 0
  else if index = 0x2600 ∧ sub = 2 then [0, 8, 16].all fun b => 1 ≤ bitField v b 8 && bitField v b 8 ≤ 4
  else if 0x2610 ≤ index ∧ index ≤ 0x2617 ∧ sub = 7 then v ≤ 5 || v == 0xFF
  else if index = 0x2810 ∧ sub = 2 then [125, 250, 500, 800, 1000].contains v
  else if index = 0x2810 ∧ sub = 3 then [0, 1000, 2000, 4000, 5000].contains v
  else if index = 0x2100 ∧ sub = 8 then
    v % 4096 == 0 && (v == 0 || (decide (ddrBase ≤ v) && decide (v < ddrBase + s.variant.usable)))
  else if index = 0x2330 ∧ sub = 5 then decide (10 ≤ v ∧ v + 10 ≤ s.reg Reg.CORE_GUARD_PS)
  else if ((0x1400 ≤ index ∧ index ≤ 0x1401) ∨ (0x1800 ≤ index ∧ index ≤ 0x1803)) ∧ sub = 1 then bitField v 11 20 == 0
  else if ((0x1400 ≤ index ∧ index ≤ 0x1401) ∨ (0x1800 ≤ index ∧ index ≤ 0x1803)) ∧ sub = 2 then v == 0xFE || v == 0xFF
  else if 0x1A00 ≤ index ∧ index ≤ 0x1A03 then if sub = 0 then v ≤ 64 else mappable v
  else if 0x2220 ≤ index ∧ index ≤ 0x2223 ∧ sub = 1 then bitField v 3 5 == 0
  else if index = 0x3510 then (List.range 256).all fun i => groupValid (bitField v (256 * i) 256)
  else true

/-- Whether a value lies in the range of a writable object. -/
def State.rangeOk (s : State) (o : Obj) (v : Nat) : Bool :=
  decide (v < 2 ^ (8 * o.ty.bytes)) && (o.ty != .bool || v ≤ 1) &&
    (match rangeTable.find? fun r => r.1 ≤ o.index && o.index < r.1 + r.2.1 && r.2.2.1 == o.sub with
      | some r => r.2.2.2.1 ≤ v && v ≤ r.2.2.2.2
      | none => true) &&
    s.oddRange o.index o.sub v

/-! ### Writes of objects without a command of their own (R355) -/

/-- Objects whose write takes effect at the next release (R115, R141, R166). -/
def atReleaseObj (index sub : Nat) : Bool :=
  (index == 0x3000 && 6 ≤ sub && sub ≤ 9) ||
  (index == 0x3300 && 8 ≤ sub && sub ≤ 0xC) ||
    (index == 0x3400 && (sub == 7 || sub == 9))

/-- Shadow tables of routing and of the bulk schedule, writable in IDLE alone (R136, R164). -/
def State.shadowWrite (s : State) (index sub v : Nat) : Option (Status × State) :=
  let r := s.routeShadow
  let c := index - 0x3310
  let w := index - 0x3410
  let idle := s.reg Reg.ROUTE_STATE == 0
  if index = 0x3300 ∧ sub = 5 then
    if !idle then some (.refused, s)
    else
      let t := setTable (s.routeTable r) 0 64 4 v
      some (.ok, if r then { s with route1 := t } else { s with route0 := t })
  else if 0x3310 ≤ index ∧ index < 0x3320 ∧ sub = 1 then
    if !idle then some (.refused, s)
    else
      let t := setTable (if r then s.groups1 else s.groups0) (4096 * c) 4096 4 v
      some (.ok, if r then { s with groups1 := t } else { s with groups0 := t })
  else if 0x3310 ≤ index ∧ index < 0x3320 ∧ sub = 2 then
    if !idle then some (.refused, s)
    else
      let t := setTable (if r then s.members1 else s.members0) (16384 * c) 16384 8 v
      some (.ok, if r then { s with members1 := t } else { s with members0 := t })
  else if 0x3410 ≤ index ∧ index < 0x3420 ∧ sub = 1 then
    if s.reg Reg.SCHED_STATE ≠ 0 then some (.refused, s)
    else
      let x := !s.slotVersion
      let t := setTable (if x then s.slots1 else s.slots0) (1792 * w) 1792 2 v
      some (.ok, if x then { s with slots1 := t } else { s with slots0 := t })
  else none

/-- W1C: bits written as 1 are cleared (R11); GSTAT bits 4–5 and ESTAT bit 0 are read-only. -/
def clearable (index v : Nat) : Nat :=
  if 0x2210 ≤ index ∧ index ≤ 0x2217 then v % 16 else if 0x2220 ≤ index ∧ index ≤ 0x2223 then v / 2 % 4 * 2 else v

/-- The bits of a W1C object that a write of `v` clears now: those set in the present timer cycle stay set (R379). -/
def State.clearableNow (s : State) (o : Obj) (v : Nat) : Nat :=
  let held := s.timing.fresh.filter fun e => e.1 == o.key && e.2.2 == s.clock / 10
  held.foldl (fun m e => setBitField m e.2.1 1 0) (clearable o.index v)

/-- A number with the bits of a mask cleared. -/
def clearBits (x mask : Nat) : Nat := x - (x &&& mask)

/-- A valid value put into an object, at once or from the next release. -/
def State.applyPlain (s : State) (o : Obj) (v : Nat) : State :=
  if o.acc = .w1c then s.setReg o (clearBits (s.reg o) (s.clearableNow o v))
  else if o.index = 0x3510 then
    { s with learning := { s.learning with groups := setTable s.learning.groups 0 256 32 v } }
  else if atReleaseObj o.index o.sub then s.writeAtRelease o v
  else s.setReg o v

/-- The entries that the first `n` places of a TPDO's mapping hold. -/
def State.mapping (s : State) (i n : Nat) : List Nat := (List.range n).map fun k => s.held (Reg.TPDO_MAP i k)

/-- Whether TPDO `i` is invalid: bit 31 of its COB-ID (R369). -/
def State.tpdoInvalid (s : State) (i : Nat) : Bool := natBit (s.held (Reg.TPDO_COB i)) 31

/-- A TPDO mapping is changed only while the PDO is invalid, an entry only while sub-index 0 is 0, and holds at most 64 bytes
(R369). -/
def State.mappingMay (s : State) (index sub v : Nat) : Bool :=
  let i := index - 0x1A00
  if !(0x1A00 ≤ index && index ≤ 0x1A03) then true
  else if !s.tpdoInvalid i then false
  else if sub = 0 then
    let l := s.mapping i v
    !l.contains 0 && (l.map fun e => e % 256).foldl (· + ·) 0 ≤ 512
  else s.held (Reg.TPDO_MAPPED i) == 0

/-- The port whose arming forbids a write of an object, where one does (R323). -/
def lockedPort (index sub : Nat) : Option Nat :=
  if 0x2710 ≤ index ∧ index ≤ 0x2715 ∧ (sub = 2 ∨ (9 ≤ sub ∧ sub ≤ 0xD)) then some (index - 0x2710)
  else if (index = 0x2820 ∨ index = 0x2821) ∧ sub = 2 then some (index - 0x2820 + 4)
  else none

/-- A write of an object's value: RO and RC objects are refused, a value out of range is BAD_FORMAT, bank 15 keeps its owner,
and a port keeps its settings while it is not DISARMED (R11, R277, R323, R355). -/
def State.writePlain (s : State) (o : Obj) (v : Nat) : Status × State :=
  match o.acc with
  | .ro => (.refused, s)
  | .rc => (.refused, s)
  | _ =>
    if !s.rangeOk o v ∨ noLanes o.index o.sub ∨ !s.mappingMay o.index o.sub v then (.badFormat, s)
    else if (lockedPort o.index o.sub).any fun p => s.reg (Reg.PORT_STATE p) != 0 then (.refused, s)
    else if o.index = 0x2410 ∧ o.sub = 0x10 then (.refused, s)
    else match s.shadowWrite o.index o.sub v with
      | some r => r
      | none => (.ok, s.applyPlain o v)

/-! ### The persisted dictionary (R357) -/

/-- The code of a type, in the order of R10 with BOOL 0 (R357). -/
def ObjTy.code : ObjTy → Nat
  | .bool => 0 | .u8 => 1 | .u16 => 2 | .u32 => 3 | .u64 => 4 | .i16 => 5 | .i32 => 6 | .bits32 => 7 | .str => 8 | .domain _ => 9

/-- An entry of a persisted copy as the flash holds it: index, sub-index, type, length and value, padded to 4 bytes (R357). -/
def pdEntryBytes (e : Nat × Nat) : List Byte :=
  match Reg.find (e.1 / 256) (e.1 % 256) with
  | none => []
  | some o =>
    let n := o.ty.bytes
    leBytes 2 o.index ++ leBytes 1 o.sub ++ leBytes 1 o.ty.code ++ leBytes 2 n ++ leBytes n e.2 ++ List.replicate ((2 + 3 * n) % 4) 0

/-- The bytes of a persisted copy in the serial flash: MAGIC, PDV, SEQ, LEN, the entries and the CRC, which holds where the copy is
valid (R357). -/
def PdCopy.bytes (c : PdCopy) : List Byte :=
  let body := c.entries.flatMap pdEntryBytes
  let l := leBytes 4 0x44504C46 ++ leBytes 4 c.pdv ++ leBytes 4 c.seq ++ leBytes 4 body.length ++ body
  l ++ leBytes 4 ((crc32c l).toNat ^^^ boolNat !c.valid)

/-- The copy that is valid: the higher SEQ of those whose CRC holds. -/
def HostPorts.validCopy (h : HostPorts) : Option Bool :=
  match h.pdA.valid, h.pdB.valid with
  | true, true => some (h.pdA.seq < h.pdB.seq)
  | true, false => some false
  | false, true => some true
  | false, false => none

/-- The RWP objects and persisted counters that differ from their defaults, as the entries of a commit. -/
def State.persistedEntries (s : State) : List (Nat × Nat) :=
  s.regs.filter fun e => match Reg.find (e.1 / 256) (e.1 % 256) with
    | some o => o.acc == .rwp || o.pers
    | none => false

/-- PERSIST_COMMIT: the values committed to the copy that does not hold the valid record (R357). `v` is the flash's verify:
a retry that fails too leaves the copy that was valid. -/
def State.persistCommit (s : State) (v : StoreVerify) : Status × State :=
  let h := s.host
  let old := match h.validCopy with
    | some true => h.pdB.seq
    | some false => h.pdA.seq
    | none => 0
  if v = .failed then
    (.eccUncorr, { s with host := if h.validCopy = some false then { h with pdB := { h.pdB with valid := false } }
      else { h with pdA := { h.pdA with valid := false } } })
  else
    let pdv := (if s.reg Reg.BANK_ACTIVE = 1 then s.update.imgB else s.update.imgA).pdv.1
    let c : PdCopy := { pdv := pdv, seq := old + 1, valid := true, entries := s.persistedEntries }
    let h' := if h.validCopy = some false then { h with pdB := c } else { h with pdA := c }
    (.ok, { s with host := h', update := { s.update with commitsSince := s.update.commitsSince + 1 } }.bump Reg.PD_COMMITS)

/-- Every RWP object at its default (R357, R358). -/
def State.defaultRwp (s : State) : State :=
  { s with regs := s.regs.filter fun e => match Reg.find (e.1 / 256) (e.1 % 256) with
      | some o => o.acc != .rwp
      | none => true }

/-- One entry of a persisted copy applied at start: unknown ones are counted, invalid ones give way to the default (R357). RO
objects that persist hold their values through every reset (R409) and are not set back. -/
def State.loadEntry (s : State) (e : Nat × Nat) : State :=
  match Reg.find (e.1 / 256) (e.1 % 256) with
  | none => s.bump Reg.PD_UNKNOWN
  | some o =>
    if o.acc ≠ .rwp ∧ !o.pers then s.bump Reg.PD_UNKNOWN
    else if s.rangeOk o e.2 then (if o.acc = .rwp then s.setReg o e.2 else s)
    else (s.bump Reg.PD_INVALID).logFault { cls := .persist, status := .badFormat, ref := e.1 }

/-- The persisted dictionary read at start (R357). -/
def State.loadPersisted (s : State) : State :=
  match s.host.validCopy with
  | none => s.defaultRwp
  | some b => (if b then s.host.pdB else s.host.pdA).entries.foldl State.loadEntry s.defaultRwp

end Sys2Proof.Machine
end

