-- ==== Sys2Proof/Machine/Reset.lean ====
section
/-!
DEFINITION. What restarts and what is kept: the Tack Room wipe (R285), the flush of the power-fail sequence (R396, R397),
cold starts (R398, R410), post-mortem dumps (R470), rollback (R453) and the restart of the Saddle (R469).
-/
namespace Sys2Proof.Machine
open Sys2Proof

/-! ### The Tack Room (R285) -/

def tackSize : Nat := 0x40000

/-- Memory with a range of addresses blank again. -/
def Memory.erase (m : List Host.Cell) (lo n : Nat) : List Host.Cell := m.filter fun c => c.1 < lo || lo + n ≤ c.1

/-- Whether a wipe runs (R285). -/
def State.wiping (s : State) : Bool :=
  match s.security.wipeUntil with
  | some t => decide (s.now < t)
  | none => false

/-- The wipes repeated because a read-back found a word that is not zero: each recorded with the first such word. How often, and
which word, the SRAM decides: free values (R285, DESIGN CHOICE: at most 255 repeats within one wipe). -/
def State.wipeAgain (s : State) : Nat → State
  | 0 => s
  | n + 1 =>
    let w := s.fresh 15
    (w.2.logFault { cls := .security, sev := some .info, ref := tackBase + 8 * w.1.toNat }).wipeAgain n

/-- TACK_ROOM_WIPE: every word zero, every key gone, the XTS keys among them, and every word read back; a read-back that fails
repeats the wipe (R285, R440). -/
def State.wipeTack (s : State) (cause : Nat) : State :=
  let r := s.fresh 8
  let s1 := r.2.wipeAgain r.1.toNat
  let x := { s1.security with keys := [], xtsDevice := none, xtsOwner := none,
                              wipeUntil := some (s.now + 10000 * (r.1.toNat + 1)) }
  (({ s1 with mem := Memory.erase s1.mem tackBase tackSize, security := x }).bump Reg.TACK_WIPES).setReg
    Reg.TACK_WIPE_CAUSE cause

/-! ### Content lost with its key (R293, R441) -/

/-- The 64-byte lines of a range that hold a listed byte, in rising order. -/
def linesIn (lo hi : Nat) : List Host.Cell → List Nat
  | [] => []
  | (a, _) :: l =>
    let rest := linesIn lo hi l
    if lo ≤ a ∧ a < hi ∧ rest.head? ≠ some (a / 64 * 64) then a / 64 * 64 :: rest else rest

/-- A range of addresses whose content nothing states any more: every byte of it that lies in LPDDR5X is veiled (R293, R433), and
elsewhere the lines that hold something take free values. -/
def State.scramble (s : State) (lo hi : Nat) : State :=
  let s1 : State := if max lo ddrBase < hi then
      { s with veils := s.veils ++ [(max lo ddrBase, hi, s.free)], free := s.free + 1 } else s
  (linesIn lo (min hi ddrBase) s.mem).foldl (fun s a => let r := s.fresh 512; r.2.setBytes a (leBytes 64 r.1.toNat)) s1

/-- The start of the LPDDR5X firmware region (R293). -/
def State.fwRegion (s : State) : Nat := ddrBase + s.variant.usable - 0x4000000

/-! ### The Stable at a power failure (R396, R397) -/

/-- Step 4 of the sequence: the staged bytes not yet drained written to their generations, at most `fuel` blocks, while the
energy estimate allows `blocks` of them (R397). -/
def State.flushJournal (s : State) (blocks : Nat) : Nat → State
  | 0 => s
  | n + 1 =>
    let l := s.learning
    let left := match s.genEnd with
      | some e => e - l.drained
      | none => l.staged - l.drained
    if left = 0 then
      if s.genEnd.isSome then (s.modLearning fun l => { l with drainGen := l.drainGen + 1, drainPos := 0 }).flushJournal
        blocks n
      else s
    else if blocks = 0 then s
    else if l.drainPos = 0 then (s.drainBlock (genHeader l.drainGen) .ok).flushJournal (blocks - 1) n
    else if 64 ≤ left then
      (((s.drainBlock (s.stagedBytes 64) .ok).modLearning fun l => { l with drained := l.drained + 64 }).notePending).flushJournal
        (blocks - 1) n
    else (s.drainLast left .ok).flushJournal (blocks - 1) n

/-- Blocks that the staged bytes take: two generations' headers and last blocks at most. -/
def State.flushBlocks (s : State) : Nat := (s.learning.staged - s.learning.drained) / 64 + 6

/-- The last-log record: the 64 newest entries, newest first (R470). -/
def State.lastLog (s : State) : Nat := leNat ((s.flog.reverse.take 64).flatMap FaultEntry.bytes)

/-- Steps 4 and 5 of the power-fail sequence while energy for `blocks` block writes is left: the journal, then wear counters
with the flush mark and the last-log record, 2,336 blocks (R396, R397, R470). The flush is a pass of its own over the page in
which the drain stands (R290). -/
def State.flushStable (s : State) (blocks : Nat) : State :=
  let l := s.learning
  let at' := genBase l.drainGen + l.drainPos
  let s0 := if s.journals ∧ l.drained < l.staged ∧ at' % 4096 ≠ 0 ∧ blocks ≠ 0 then s.wearPage (stablePage at') else s
  let s1 := if s.journals then s0.flushJournal blocks s.flushBlocks else s
  let used := if s.journals then s.flushBlocks else 0
  if blocks < used + 2336 then s1
  else ((s1.wearPages wearArea).flushWear.setReg Reg.LAST_LOG s1.lastLog).modLearning fun l => { l with flushMark := true }

/-! ### Cold starts (R398, R410) -/

/-- Objects kept by fuses, the lifecycle and bank records, the serial flash, the Stable's own area or the pins, beside the
persisted counters. -/
def keptIndex (k : Nat) : Bool :=
  let i := k / 256
  let sub := k % 256
  (0x2000 ≤ i && i ≤ 0x2021 && k != Reg.TAMPER_ACTIVE.key) || i == 0x1018 || i == 0x1009 || i == 0x100A ||
    (i == 0x2040 && 4 ≤ sub && sub ≤ 0xA) || i == 0x2510 || k == Reg.LAST_LOG.key || (0x2320 ≤ i && i < 0x2330 && sub == 1) ||
    k == Reg.SENS_PS_PER_MV.key || (0x2610 ≤ i && i ≤ 0x2617 && sub == 3) || (i == 0x2100 && 0xC ≤ sub && sub ≤ 0xF) ||
    k == Reg.PIN_IN.key || k == Reg.USB_VID.key

/-- A register that a cold start keeps: those of `keptIndex`, and persisted counters (R409, R425, R443, R457, R473). -/
def keptReg (k : Nat) : Bool :=
  keptIndex k || (match Reg.find (k / 256) (k % 256) with
    | some o => o.pers && o.acc == .ro
    | none => false)

/-- A byte of memory that a cold start keeps: the Stable's (R398). -/
def keptByte (a : Nat) : Bool := stableBase ≤ a && a < stableBase + 0x4800000

/-- What the Bridle area and the fuses keep of the security state (R429, R435). -/
def Security.kept (x : Security) : Security := { idk := x.idk, exk := x.exk, osk := x.osk, opk := x.opk, restartAt := x.restartAt }

/-- What the serial flash keeps of the update state: the banks and the legacy slot (R444). -/
def Update.kept (x : Update) : Update :=
  { imgA := x.imgA, imgB := x.imgB, ucRun := x.ucRun, legacy := x.legacy, commitsSince := x.commitsSince }

/-- COLD_START: everything volatile returns to its value after reset and bring-up begins again at stage 0 (R398, R410). -/
def State.coldStart (s : State) (cause : Nat) : State :=
  { State.reset with
    pending := s.pending, free := s.free, now := s.now, variant := s.variant, resp := s.resp, out := s.out,
    regs := Assoc.set Reg.RESET_CAUSE.key cause (s.regs.filter fun e => keptReg e.1),
    mem := s.mem.filter fun c => keptByte c.1,
    learning := { flushMark := s.learning.flushMark },
    host := { pdA := s.host.pdA, pdB := s.host.pdB },
    power := { startAt := s.now, acctFrom := s.now, bypassed := s.power.bypassed,
               resetHeld := s.power.resetHeld, refreshedAt := s.power.refreshedAt },
    security := s.security.kept, update := s.update.kept }

/-- Every regulator turned off: the device holds what a cold start keeps and waits (R396 step 6, R401, R437). -/
def State.powerOff (s : State) (cause : Nat) : State :=
  let s1 := s.coldStart cause
  { s1 with power := { s1.power with off := true } }

/-- Off as for PWR_REQ OFF, and restarted by the always-on domain 100 ms later with the cause given (R437, R440). -/
def State.offAndRestart (s : State) (cause : Nat) : State :=
  let s1 := (s.flushStable (s.flushBlocks + 2336)).powerOff 6
  { s1 with security := { s1.security with restartAt := some (s.now + 100000000, cause) } }

/-! ### Tile status words (R274) -/

/-- The physical tile of a logical one: 0–64 in order without DISABLED (R413). -/
def State.physicalTile (s : State) (c t : Nat) : Nat :=
  if t < s.reg (Reg.TILE_FUSE c) % 128 then t else t + 1

/-- A tile that does not serve: fenced in this run (R274, R465). -/
def State.isFenced (s : State) (c t : Nat) : Bool := natBit (s.reg (Reg.TILES_FENCED c)) t

/-- The status words 0–7 of a tile as one number (R274). -/
def State.tileStatus (s : State) (c t : Nat) : Nat :=
  let x := s.tile c t
  packFields [(0, 15, if s.harnessLoaded then x.map.n else 0), (16, 6, t), (22, 7, s.physicalTile c t),
    (29, 1, boolNat (s.isFenced c t)), (32, 10, if s.harnessLoaded then x.map.e else 0),
    (64, 32, Assoc.getD s.sramCorr (64 * c + t) 0)]

/-! ### Post-mortem dumps (R470) -/

/-- Every object of the dictionary, with the copies of counters. -/
def Reg.all : List Obj :=
  (Reg.rows.flatMap fun r => (List.range r.count).flatMap fun i =>
    (List.range (r.subLast - r.sub + 1)).map fun j => r.obj i j) ++
  Reg.copies.flatMap fun c => (List.range c.2.1).flatMap fun i =>
    (Reg.rows.filter fun r => r.base = c.2.2.1 ∧ c.2.2.2.1 ≤ r.sub ∧ r.sub ≤ c.2.2.2.2).map fun r =>
      { r.obj 0 0 with index := c.1 + i }

/-- A parameter record: index, sub-index, length and value, padded to 4 bytes (R232). -/
def paramRecord (o : Obj) (v : Nat) : List Byte :=
  let n := o.ty.bytes
  leBytes 2 o.index ++ leBytes 1 o.sub ++ leBytes 1 n ++ leBytes (roundUp n 4) v

/-- The six sections of a dump. The spec gives the fourth no layout: 64 bytes an engine, ENG_STATE then the head command
(DESIGN CHOICE). -/
def State.dumpSections (s : State) : List (List Byte) :=
  let recs := s.waiterRecords
  let engine (e : Nat) : List Byte :=
    leBytes 32 (s.viewObj (Reg.ENG_STATE e)) ++ (match (s.engine e).running with
      | some r => entryBytes r.cmd
      | none => List.replicate 32 0)
  [s.flog.flatMap FaultEntry.bytes, s.dumpHeader recs.length ++ s.hitchBytes ++ recs.flatten,
   (List.range 32768).flatMap fun q => leBytes 64 ((s.queue q).block (s.lastOf .saddle)),
   (List.range 10).flatMap engine,
   (List.range 1024).flatMap fun k => leBytes 64 (s.tileStatus (k / 64) (k % 64)),
   (Reg.all.filter fun o => 0x6000 ≤ o.index && o.index ≤ 0x6FFF).flatMap fun o => paramRecord o (s.viewObj o)]

/-- The sections placed one after another from an offset, each aligned to 64 bytes: directory entries and bytes. -/
def layoutSections (ofs ty : Nat) : List (List Byte) → List Byte × List Byte
  | [] => ([], [])
  | d :: l =>
    let n := roundUp d.length 64
    let r := layoutSections (ofs + n) (ty + 1) l
    (leBytes 16 (packFields [(0, 16, ty), (64, 32, ofs / 64), (96, 32, d.length)]) ++ r.1,
      d ++ List.replicate (n - d.length) 0 ++ r.2)

/-- DUMP_WRITE: a dump into the slot that the last one did not use; without LPDDR5X there is nowhere to put it (R415,
R470). -/
def State.dump (s : State) (trigger : Nat) : State :=
  if s.reg Reg.DDR_STATE ≠ 2 then s
  else
    let b := s.reg Reg.DUMP_LAST == 1
    let p := layoutSections 192 1 s.dumpSections
    let head := leBytes 64 (packFields [(0, 32, 0x4D504C46), (32, 16, 1), (48, 8, trigger), (64, 64, s.clock),
      (128, 64, s.reg Reg.STEP_COMPLETE), (192, 32, 6)])
    (s.setBytes (s.dumpSlot b) (head ++ p.1 ++ List.replicate 32 0 ++ p.2)).setReg Reg.DUMP_LAST (if b then 2 else 1)

/-! ### Firmware banks (R445, R453) -/

/-- The running bank: true for B. -/
def State.bankB (s : State) : Bool := s.reg Reg.BANK_ACTIVE == 1

/-- The object holding a bank's state. -/
def bankState (b : Bool) : Obj := if b then Reg.BANK_B_STATE else Reg.BANK_A_STATE

/-- The object holding a bank's version. -/
def bankVer (b : Bool) : Obj := if b then Reg.BANK_B_VER else Reg.BANK_A_VER

/-- The image of a bank. -/
def Update.image (u : Update) (b : Bool) : BankImage := if b then u.imgB else u.imgA

/-- Whether an image changes microcode: a SEQMON or FABRIC_UC component differs from the running one (R446). -/
def Update.changesUc (u : Update) (x : BankImage) : Bool := x.uc.any fun c => Assoc.get? c.1 u.ucRun != some c.2

/-- The update state changed. -/
def State.modUpdate (s : State) (f : Update → Update) : State := { s with update := f s.update }

/-- The legacy slot written back as the valid copy, with SEQ above both copies; the commits since are lost and recorded
(R454). -/
def State.restoreLegacy (s : State) : State :=
  match s.update.legacy with
  | none => s
  | some c =>
    let h := s.host
    let c' := { c with seq := max h.pdA.seq h.pdB.seq + 1, valid := true }
    let h' := if h.validCopy = some false then { h with pdB := c' } else { h with pdA := c' }
    let s1 := ({ s with host := h' }.logFault { cls := .update, ref := s.update.commitsSince }).loadPersisted
    s1.modUpdate fun u => { u with legacy := none, commitsSince := 0 }

/-- The microcode of the running image loaded, or, under Trot, deferred (R451, R453). -/
def State.wantMicrocode (s : State) (b : Bool) : State :=
  if !s.update.changesUc (s.update.image b) then s
  else if s.reg Reg.GAIT = 1 ∧ s.harnessLoaded then s.setReg Reg.UPD_STATE 0x85
  else s.modUpdate fun u => { u with swapFrom := some s.now }

/-- ROLLBACK: the device returns to the PREVIOUS bank and the one it leaves becomes FAILED (R453, R454). The bank it returns
to is committed as it was before (DEDUCED). -/
def State.rollback (s : State) : State :=
  let b := s.bankB
  if s.reg (bankState (!b)) ≠ 4 then s
  else
    let s1 := ((s.setReg (bankState b) 5).setReg (bankState (!b)) 3).setReg Reg.BANK_ACTIVE (if b then 0 else 1)
    let s2 := ((s1.setReg Reg.RUN_VER (s.reg (bankVer (!b)))).setReg Reg.UPD_STATE 0).bump Reg.ROLLBACKS
    let s3 := (s2.logFault { cls := .update, sev := some .error, unit := if b then 1 else 0 }).emcy 0x5000 .ok 0 0
    ((s3.modUpdate fun u => { u with probationFrom := none, restarts := 0, handover := none }).restoreLegacy).wantMicrocode (!b)

/-! ### The restart of the Saddle (R469) -/

/-- HTP sessions end; a staged write that ends with its session is counted (R355, R469). -/
def State.endSessions (s : State) (f : Session → Bool) : State :=
  let ended := s.host.sessions.filter f
  let lost := (ended.filter fun x => x.staged.isSome).length
  ({ s with host := { s.host with sessions := s.host.sessions.filter fun x => !f x } }.bumpBy Reg.DICT_STAGE_LOST lost)

/-- SADDLE_RESTART: a dump, sessions and staged writes lost, the firmware queues reset; everything else runs on. The third in
a probation rolls back (R453, R469). -/
def State.saddleRestart (s : State) (cls : FaultClass) (st : Status := .ok) : State :=
  let s1 := ((s.dump 0).logFault { cls := cls, status := st }).bump Reg.SADDLE_RESTARTS
  let s2 := s1.endSessions fun _ => true
  let sdo := match s2.host.sdo with
    | some x => if x.write then 1 else 0
    | none => 0
  let pieces := (s2.host.served.filter (·.write)).length
  let s3 : State := { s2 with host := { s2.host with sdo := none, remote := [], served := [] } }
  let fw := s3.queues.filterMap fun q =>
    if isFirmwareQueue q.1 ∧ q.2.qstate ≠ .unbound ∧ q.2.qstate ≠ .closed then some q.1 else none
  let s4 := (fw.foldl State.queueReset (s3.bumpBy Reg.DICT_STAGE_LOST (sdo + pieces))).modUpdate
    fun u => { u with restarts := u.restarts + 1 }
  if s4.update.probationFrom.isSome ∧ 3 ≤ s4.update.restarts then s4.rollback else s4

/-- The die reset as by the reset input, from the Bridle watchdog (R469): nothing is flushed but the last-log record, which
every such restart writes (R470). -/
def State.bridleReset (s : State) : State :=
  let s1 := s.flushStable (s.flushBlocks + 2336)
  ((s1.bump Reg.WDT_RESETS).coldStart 5).setReg Reg.WDT_RESET 1

end Sys2Proof.Machine
end

