-- ==== Sys2Proof/Machine/Memories.lean ====
section
/-!
DEFINITION. Accesses to the device address space (R14–R17, R31, R76, R273–R286, R292, R293, R491): who may reach what, with
which widths, and what each region answers; Commons bank grants, alias operations and window control blocks.
-/
namespace Sys2Proof.Machine
open Sys2Proof

/-! ### Refusals (R16, R17, R278, R491) -/

/-- 64-byte lines that `n` bytes from `a` touch. -/
def linesOf (a n : Nat) : Nat := (a + max n 1 - 1) / 64 - a / 64 + 1

/-- A refusal counted once for each line and recorded under SECURITY with its first address (R491). -/
def State.deny (s : State) (o : Obj) (m : Master) (st : Status) (a n : Nat) : State :=
  (s.bumpBy o (linesOf a n)).logFault
    { cls := .security, status := st, sev := some .info, unit := masterCode m, ref := a }

/-- An access outside every region, or with a width or alignment that its region does not allow, which R273 answers as R16
describes: counted and recorded (R16, R273, R491). -/
def State.badAddr (s : State) (m : Master) (a n : Nat) : State := s.deny Reg.BADADDR m .badFormat a n

/-- Whether a master may reach the Commons firmware area and the LPDDR5X firmware region (R278, R293). -/
def reachesFirmware (m : Master) : Bool :=
  match m with
  | .saddle => true
  | .bridle => true
  | .engine .crypto q => isBridleQueue q.val
  | .engine .dense q => isFirmwareQueue q.val
  | .engine .mover q => isFirmwareQueue q.val
  | .engine .census q => isFirmwareQueue q.val
  | _ => false

/-- Whether a master may reach the Tack Room (R17). -/
def reachesTack (m : Master) : Bool :=
  match m with
  | .bridle => true
  | .engine .crypto _ => true
  | _ => false

/-- Whether a master reaches tile SRAM through the tile windows (R26): the Mover, the management core, which also issues the
host's transfers (R363), and the plasticity engines. -/
def reachesTiles (m : Master) : Bool :=
  match m with
  | .host => true
  | .saddle => true
  | .bridle => true
  | .engine .mover _ => true
  | .plasticity _ => true
  | _ => false

/-- Whether a master reaches the Hitch table (R26): the management core and the host's transfers. -/
def reachesHitches (m : Master) : Bool :=
  match m with
  | .host => true
  | .saddle => true
  | .bridle => true
  | _ => false

/-- Whether a master reaches LPDDR5X (R26): the Mover, the management core with the host's transfers, the fetch engines, the
plasticity engines for the far rows they learn, and Fabric for checkpoints and images. -/
def reachesDdr (m : Master) : Bool :=
  match m with
  | .host => true
  | .saddle => true
  | .bridle => true
  | .engine .mover _ => true
  | .engine .fabric _ => true
  | .engine (.fetch _) _ => true
  | .plasticity _ => true
  | _ => false

/-- Whether a master may read the Stable window (R286). -/
def readsStable (m : Master) : Bool :=
  match m with
  | .saddle => true
  | .bridle => true
  | .engine .mover _ => true
  | .plasticity _ => true
  | _ => false

/-- Whether a master may write the Stable window (R286). -/
def writesStable (m : Master) : Bool :=
  match m with
  | .bridle => true
  | .plasticity _ => true
  | _ => false

/-- A refusal of R17, R26, R278, R286 or R293 with SECURITY: its counter, and whether it is recorded. A read of the Stable by a
master that may not is answered under R17 and counted as R17's refusals are (R286, R491). LPDDR5X that failed its training
answers as without an OWNER key (R415). R26 names who reaches tile SRAM, the Hitch table and LPDDR5X, and no answer to the
others: SECURITY, uncounted (DESIGN CHOICE). -/
def State.denial (s : State) (m : Master) (write : Bool) (a : Nat) : Option (Option Obj × Bool) :=
  match regionOf s.variant a with
  | .tack _ =>
    if !reachesTack m then some (some Reg.TACK_DENIED, true) else if s.wiping then some (none, false) else none
  | .commons _ _ =>
    if firmwareArea ≤ a ∧ !reachesFirmware m then some (some Reg.FW_AREA_DENIED, true) else none
  | .stable _ =>
    if write then (if writesStable m then none else some (none, false))
    else if readsStable m then none else some (some Reg.TACK_DENIED, true)
  | .tile _ _ _ => if reachesTiles m then none else some (none, false)
  | .hitchTable _ _ => if write ∨ reachesHitches m then none else some (none, false)
  | .ddr _ =>
    if s.reg Reg.DDR_STATE = 3 then some (none, false)
    else if s.fwRegion ≤ a then (if reachesFirmware m then none else some (some Reg.FW_AREA_DENIED, true))
    else if s.security.xtsOwner.isNone then some (none, false)
    else if reachesDdr m then none else some (none, false)
  | _ => none

/-- A denied access: counted and recorded where its rule says so; a Saddle access to the Tack Room is an access fault, upon
which the Bridle restarts the Saddle (R426). -/
def State.denied (s : State) (m : Master) (a n : Nat) (d : Option Obj × Bool) : State :=
  let s1 := match d.1 with
    | some o => s.deny o m .security a n
    | none => s
  if m = .saddle ∧ d.1 = some Reg.TACK_DENIED then s1.saddleRestart .security .security else s1

/-- One line of a longer request refused with a status: counted, and recorded where the request has had no refusal with that
status before (R491); the statuses recorded so far. -/
def State.refuseLine (s : State) (m : Master) (st : Status) (a n : Nat) (d : Option Obj × Bool) (seen : List Status) :
    State × List Status :=
  match d.1 with
  | none => (s, seen)
  | some o => if seen.contains st then (s.bumpBy o (linesOf a n), seen) else (s.deny o m st a n, st :: seen)

/-! ### Widths (R273, R274) -/

/-- Widths that the region of an address allows, for a read or a write. The control blocks of queues and the Hitch table judge
writes themselves. -/
def widthsAt (v : Variant) (write : Bool) (a : Nat) : List Nat :=
  match regionOf v a with
  | .commons _ _ => [4, 8, 16, 32, 64]
  | .tack _ => [4, 8, 16, 32, 64]
  | .control _ => [4, 8]
  | .windowBlock _ _ _ => [4, 8]
  | .setAlias _ => [4, 8]
  | .clearAlias _ => [4, 8]
  | .queueBlock _ _ => if write then [] else [8]
  | .hitchTable _ _ => if write then [] else [8, 32]
  | .stable _ => if write then [64] else [8, 16, 32, 64]
  | .tile _ _ off => if off < 0x60000 then [4, 8] else if write then [4, 8, 16, 32, 64] else [8]
  | .ddr _ => [8, 16, 32, 64]
  | .nothing => []

/-- Whether the region judges the access itself (R243, R260). -/
def judgesItself (v : Variant) (write : Bool) (a : Nat) : Bool :=
  match regionOf v a with
  | .queueBlock _ _ => true
  | .hitchTable _ _ => write
  | _ => false

/-- Whether an address lies outside every region: R14's, or the reserved part of a tile window (R16, R274). -/
def outside (v : Variant) (a : Nat) : Bool :=
  match regionOf v a with
  | .nothing => true
  | .tile _ _ off => 0x60040 ≤ off
  | _ => false

/-! ### Tile windows (R31, R76, R274) -/

/-- Regions of a tile's SRAM that its window treats apart (R30, R56). -/
inductive TilePart where
  | neuron (i : Nat)
  | bitmap (next : Bool) (ofs : Nat)
  | tonic (ofs : Nat)
  | ring (ofs : Nat)
  | tables
  | other
  deriving DecidableEq, Repr

/-- The part of a tile's SRAM an offset lies in; a table region reaches to the end of its last 256 bytes (R56). The tonic list
lies behind the two touched bitmaps (DESIGN CHOICE: R30 gives its size alone). -/
def State.tilePart (s : State) (c t off : Nat) : TilePart :=
  let m := (s.tile c t).map
  let words := m.neuronBase + 8 * m.n
  let b := ceilDiv m.n 8
  let within (lo n : Nat) : Bool := decide (lo ≤ off) && decide (off < lo + n)
  if m.n = 0 then .other
  else if within m.neuronBase (8 * m.n) then .neuron ((off - m.neuronBase) / 8)
  else if within words b then .bitmap false (off - words)
  else if within (words + b) b then .bitmap true (off - words - b)
  else if within (words + 2 * b) (2 * m.tonic.length) then .tonic (off - words - 2 * b)
  else if within m.ringBase (512 * m.e) then .ring (off - m.ringBase)
  else if within m.axonBase (roundUp (4 * m.n) 256) || within m.destBase (roundUp (8 * m.dests) 256) ||
      within m.dirBase (roundUp (4 * m.nearRows) 256) || within m.rowBase (roundUp m.rowBytes 256) then .tables
  else .other

/-- A byte of the bitmap of a list of neurons. -/
def bitmapByte (l : List Nat) (ofs : Nat) : Byte :=
  BitVec.ofNat 8 (bitsNat ((l.filter fun i => i / 8 = ofs).map (· % 8)))

/-- A byte of tile SRAM as its window shows it: the touched bitmaps, the tonic list and the delay ring are the tile's own
structures. The bitmap of the present step lies first, and an entry of the tonic list is the neuron's number in 2 bytes (DESIGN
CHOICE: R30 and R42 give their sizes alone). -/
def State.tileByte (s : State) (c t off : Nat) : Byte :=
  let x := s.tile c t
  match s.tilePart c t off with
  | .bitmap next ofs => bitmapByte (if next then x.touchedNext else x.touched) ofs
  | .tonic ofs => BitVec.ofNat 8 (x.map.tonic.getD (ofs / 2) 0 / 256 ^ (ofs % 2))
  | .ring ofs =>
    let slot := ofs / (8 * x.map.e)
    match (Assoc.getD x.slots slot ⟨0, []⟩).events[ofs % (8 * x.map.e) / 8]? with
    | some p => BitVec.ofNat 8 (p.ev.word.toNat / 256 ^ (ofs % 8))
    | none => Memory.read s.mem (sramAddr c t off)
  | _ => Memory.read s.mem (sramAddr c t off)

/-- A read from a tile window (R31, R274). -/
def State.tileRead (s : State) (c t off n : Nat) : Status × List Byte × State :=
  if s.isFenced c t then (.degraded, List.replicate n 0, s.bump Reg.FENCED_WIN)
  else if 0x60000 ≤ off then (.ok, (leBytes 64 (s.tileStatus c t)).drop (off - 0x60000) |>.take n, s)
  else (.ok, (List.range n).map fun i => s.tileByte c t (off + i), s)

/-- A write of a neuron word: refused during a fabric operation or where it changes what load has built; DEAD keeps its value
(R31). -/
def State.writeNeuron (s : State) (c t i v : Nat) : Status × State :=
  let w := s.neuron c t i
  let x := Neuron.ofWord v
  let old := s.classAt w.cls s.fabric.learned
  let new := s.classAt x.cls s.fabric.learned
  if s.fabricBusy ∨ old.precise ≠ new.precise ∨ (old.bias = 0) ≠ (new.bias = 0) then
    (.refused, s.bumpAt Reg.WIN_REFUSED c)
  else (.ok, s.setNeuron c t i { x with dead := w.dead })

/-- A write to axon, destination, directory or row regions: applied between fabric operations alone (R76). -/
def State.writeTables (s : State) (c a : Nat) (data : List Byte) : Status × State :=
  if s.fabricBusy then (.refused, s.bumpAt Reg.ROW_WIN_REFUSED c) else (.ok, s.setBytes a data)

/-- A write through a tile window (R31, R76, R274). -/
def State.tileWrite (s : State) (m : Master) (c t off : Nat) (data : List Byte) : Status × State :=
  let a := sramAddr c t off
  if s.isFenced c t then (.degraded, s.bump Reg.FENCED_WIN)
  else if 0x60000 ≤ off then (.refused, s)
  else match s.tilePart c t off with
    | .neuron i => if data.length ≠ 8 then (.badFormat, s.badAddr m a data.length) else s.writeNeuron c t i (leNat data)
    | .bitmap _ _ => (.refused, s.bumpAt Reg.WIN_REFUSED c)
    | .tonic _ => (.refused, s.bumpAt Reg.WIN_REFUSED c)
    | .ring _ => (.refused, s)
    | .tables => s.writeTables c a data
    | .other => (.ok, s.setBytes a data)

/-- The cluster whose far row directory an LPDDR5X address lies in (R76, R144). -/
def State.farDirOwner (s : State) (a : Nat) : Option Nat :=
  (s.tiles.find? fun t => (List.range 4).any fun k =>
    let b := t.2.map.farBase.getD k 0
    b ≤ a && a < b + 8 * t.2.map.farCount.getD k 0).map (·.1 / 64)

/-! ### Queue control blocks, Hitch table and window control blocks -/

/-- A read of a word of a queue's control block: the PROD and CONS masters and the management core, and every master while the
queue is UNBOUND; another width or alignment is BAD_FORMAT in PORT_BADFMT. Word 5 holds HWM, which the read clears (R242,
R243). -/
def State.portRead (s : State) (m : Master) (q off n : Nat) : Status × List Byte × State :=
  let b := s.queue q
  let may : Bool := match m with
    | .bridle => true
    | .saddle => !isBridleQueue q
    | _ => b.qstate == .unbound || (b.kind != .completion && permits b.prod m) || permits b.cons m
  if n ≠ 8 ∨ off % 8 ≠ 0 then (.badFormat, List.replicate n 0, s.bump Reg.PORT_BADFMT)
  else if !may then (.security, List.replicate n 0, s.bump Reg.PUSH_DENIED)
  else
    let data := (leBytes 64 (b.block (s.lastOf m))).drop off |>.take n
    (.ok, data, if off / 8 = 5 then s.setQueue q { b with hwm := 0 } else s)

/-- A write to a queue's control block: the operation its offset and width select, or BAD_FORMAT (R243). -/
def State.portWrite (s : State) (m : Master) (q off : Nat) (data : List Byte) : State :=
  let v := leNat data
  let bad := portCheck m q (s.queue q) false true true
  match off, data.length with
  | 0x00, 32 => s.push m q (entryOfBytes data)
  | 0x20, 4 => s.consume m q v
  | 0x24, 4 => s.seal m q v
  | 0x28, 8 => s.post m q (BitVec.ofNat 64 v)
  | 0x30, 4 => match QCtrl.ofCode v with
    | some c => s.ctrl m q c
    | none => (s.countRefusal bad).respond bad
  | 0x38, 4 => s.queueClear m q (BitVec.ofNat 32 v)
  | _, _ => (s.countRefusal bad).respond bad

/-- CONSUME on an APPEND window: n a multiple of 16 and at most the fill; an armed port's skid buffer is the port's alone
(R283, R316). -/
def State.windowConsume (s : State) (b w n : Nat) : Status × State :=
  let x := s.window b w
  match [0, 1, 2, 3, 4, 5].find? fun p => s.skid p == some (b, w) && s.reg (Reg.PORT_STATE p) != 0 with
  | some p => (.refused, s.bump (Reg.SKID_DENIED p))
  | none =>
    if x.mode ≠ .append ∨ n % 16 ≠ 0 ∨ x.fill < n then (.badFormat, s)
    else (.ok, s.setWindow b w { x with rd := x.rd + BitVec.ofNat 32 n })

/-- CLEAR: bit 0 clears WFULL (R283). -/
def State.windowClear (s : State) (b w v : Nat) : Status × State :=
  if v ≠ 1 then (.badFormat, s) else (.ok, s.setWindow b w { s.window b w with wfull := false })

/-- Whether a master may read the bank of a window, which CONSUME and CLEAR ask for (R283): any but those that the firmware
area shuts out of the last windows of bank 15. -/
def mayReadBank (m : Master) (b w : Nat) : Bool := !(b == 15 && 24 ≤ w) || reachesFirmware m

/-- A write to a window control block (R283). -/
def State.windowPort (s : State) (m : Master) (b w off : Nat) (data : List Byte) : Status × State :=
  match off, data.length with
  | 0x30, 4 => if mayReadBank m b w then s.windowConsume b w (leNat data) else (.security, s)
  | 0x38, 4 => if mayReadBank m b w then s.windowClear b w (leNat data) else (.security, s)
  | _, _ => (.badFormat, s)

/-- A read of a window control block; a read of HWM clears it (R281). -/
def State.windowRead' (s : State) (b w off n : Nat) : Status × List Byte × State :=
  let x := s.window b w
  let data := (leBytes 64 x.block).drop off |>.take n
  (.ok, data, if off ≤ 20 ∧ 20 < off + n then s.setWindow b w { x with hwm := 0 } else s)

/-! ### One access (R273) -/

/-- What an error code found in a read, counted and recorded by the memory it lies in (R279, R284, R292, R458); an uncorrectable
word of the Tack Room meets a key, and the Bridle wipes with cause 3 and restarts (R440). -/
def State.eccRead (s : State) (m : Master) (a : Nat) (x : Ecc) : Status × State :=
  match x, regionOf s.variant a with
  | .clean, _ => (.ok, s)
  | .corrected, .commons _ _ => (.ok, s.bump Reg.COMMONS_CORR)
  | .corrected, .ddr _ => (.ok, s.bump Reg.DDR_CORR)
  | .corrected, .tile c t _ =>
    (.ok, { s with sramCorr := Assoc.set (tileKey c t) (min 0xFFFFFFFF (Assoc.getD s.sramCorr (tileKey c t) 0 + 1)) s.sramCorr })
  | .corrected, _ => (.ok, s)
  | .uncorrectable, .commons b _ =>
    (.eccUncorr, (s.bump Reg.COMMONS_UNCORR).logFault
      { cls := .other, status := .eccUncorr, unit := b, sub := masterCode m, ref := a })
  | .uncorrectable, .ddr _ =>
    (.eccUncorr, (s.bump Reg.DDR_UNCORR).logFault { cls := .memUncorr, status := .eccUncorr, ref := a })
  | .uncorrectable, .tack _ =>
    let s1 := s.logFault { cls := .memUncorr, status := .eccUncorr, ref := a }
    (.eccUncorr, if s.security.keys = [] then s1 else ((s1.wipeTack 3).setReg Reg.LC_RESTART_CAUSE 3).offAndRestart 3)
  | .uncorrectable, _ => (.eccUncorr, s)

/-- A read through an alias, which returns what a direct read would (R280). -/
def State.aliasRead (s : State) (off n : Nat) : Status × List Byte × State :=
  match regionOf s.variant (controlBase + off) with
  | .windowBlock b w o => s.windowRead' b w o n
  | _ => (.ok, s.bytes (controlBase + off) n, s)

/-- A read that its region allows: status, data and state. -/
def State.readRegion (s : State) (m : Master) (a n : Nat) : Status × List Byte × State :=
  match regionOf s.variant a with
  | .queueBlock q off => s.portRead m q off n
  | .hitchTable h off => (.ok, (leBytes 32 (s.hitchEntry h)).drop off |>.take n, s)
  | .tile c t off => s.tileRead c t off n
  | .windowBlock b w off => s.windowRead' b w off n
  | .setAlias off => s.aliasRead off n
  | .clearAlias off => s.aliasRead off n
  | _ => (.ok, s.bytes a n, s)

/-- An alias operation on a control word: one atomic read-modify-write (R280). -/
def State.aliasWrite (s : State) (set : Bool) (off : Nat) (data : List Byte) : Status × State :=
  if 0x78000 ≤ off then (.badFormat, s)
  else
    let a := controlBase + off
    let n := data.length
    let mask := BitVec.ofNat 64 (leNat data)
    let old := BitVec.ofNat 64 (s.word a n)
    let v := if set then old ||| mask else old &&& ~~~mask
    (.ok, (s.setWord a n v.toNat).bump Reg.ALIAS_OPS)

/-- The plastic rows that share a byte with a range (R287). -/
def State.rowsIn (s : State) (a n : Nat) : List (Nat × RowName × Nat) :=
  s.learning.rows.filter fun r =>
    let b := s.rowAddr r.1 r.2.1
    decide (a < b + (s.rowHeader (.at b)).length) && decide (b < a + n)

/-- Plastic rows that a write has changed noted for the next consolidation (R76, R193). -/
def State.noteRowWrite (s : State) (l : List (Nat × RowName × Nat)) (r : Status × State) : Status × State :=
  if r.1 = .ok ∧ r.2.mem ≠ s.mem then (r.1, l.foldl (fun s x => s.noteChanged x.1 x.2.1) r.2) else r

/-- A write that its region allows: status and state. The front ends of queues answer by themselves. -/
def State.writeRegion (s : State) (m : Master) (a : Nat) (data : List Byte) : Status × State :=
  match regionOf s.variant a with
  | .queueBlock q off => let s1 := s.portWrite m q off data; (s1.resp.status, s1)
  | .hitchTable _ _ => (.refused, s.bump Reg.HTAB_WR_REFUSED)
  | .tile c t off => s.noteRowWrite (s.rowsIn a data.length) (s.tileWrite m c t off data)
  | .windowBlock b w off => s.windowPort m b w off data
  | .setAlias off => s.aliasWrite true off data
  | .clearAlias off => s.aliasWrite false off data
  | .ddr _ => match s.farDirOwner a with
    | some c => s.writeTables c a data
    | none => s.noteRowWrite (s.rowsIn a data.length) (.ok, s.setBytes a data)
  | _ => (.ok, s.setBytes a data)

/-- What stands in the way of an access: outside every region, a denial, a bad width or alignment, judged in this order (R16,
R17, R273, R278, R286, R293). R17, R278, R286 and R293 speak of every access of a master, so a denial comes before the
width (DEDUCED). -/
def State.accessCheck (s : State) (m : Master) (write : Bool) (a n : Nat) : Status × State :=
  if outside s.variant a then (.badFormat, s.badAddr m a n)
  else match s.denial m write a with
    | some d => (.security, s.denied m a n d)
    | none =>
      if !judgesItself s.variant write a && (!(widthsAt s.variant write a).contains n || a % n != 0) then
        (.badFormat, s.badAddr m a n)
      else (.ok, s)

/-- The refusal that a line meets before its region is asked: outside every region, or denied (R16, R17, R278, R286, R293). -/
def State.lineBar (s : State) (m : Master) (write : Bool) (a : Nat) : Option (Status × Option Obj × Bool) :=
  if outside s.variant a then some (.badFormat, some Reg.BADADDR, true)
  else (s.denial m write a).map fun d => (.security, d)

/-- A read by a master: status, data and state. A refused read returns zero data. -/
def State.busRead (s : State) (m : Master) (a n : Nat) (x : Ecc) : Status × List Byte × State :=
  let c := s.accessCheck m false a n
  if c.1 ≠ .ok then (c.1, List.replicate n 0, c.2)
  else
    let r := c.2.readRegion m a n
    let e := r.2.2.eccRead m a x
    (if r.1 = .ok then e.1 else r.1, r.2.1, e.2)

/-- A write by a master: status and state. A partial write of an LPDDR5X line whose read is uncorrectable is applied and
answered ECC_UNCORR (R292). -/
def State.busWrite (s : State) (m : Master) (a : Nat) (data : List Byte) (x : Ecc) : Status × State :=
  let c := s.accessCheck m true a data.length
  if c.1 ≠ .ok then c
  else
    let r := c.2.writeRegion m a data
    if data.length < 64 ∧ r.1 = .ok then (match regionOf s.variant a with
      | .ddr _ => r.2.eccRead m a x
      | _ => r)
    else r

/-! ### The rows -/

/-- An access as the region of its address answers it (R273). -/
def State.access (s : State) (m : Master) (addr : Nat) (acc : Access) (ecc : Ecc) : State :=
  match acc with
  | .read n => let r := s.busRead m addr n ecc; r.2.2.respond r.1 r.2.1
  | .write data => let r := s.busWrite m addr data ecc; r.2.respond r.1

/-- ADDRESS_ACCESS: a master's read or write of a device address (R273). Retries of hops on the control network are counted, and a
request lost on a hop completes with TIMEOUT (R458). -/
def execAddressAccess (m : Master) (addr : Nat) (acc : Access) (ecc : Ecc) (trip : Trip) (s : State) :
    Host.Outcome State Fault Refusal :=
  match trip with
  | .arrives n => .next ((s.bumpBy Reg.CTRL_RETRY n).access m addr acc ecc)
  | .lost n => .next ((s.bumpBy Reg.CTRL_RETRY n).respond .timeout)

/-- NEURON_WORD_WRITE (R31): the 8-byte write of neuron `i` through its tile window; a neuron the tile does not hold has no
word there. -/
def execNeuronWordWrite (m : Master) (c : ClusterId) (t : TileId) (i : Fin 16384) (v : BitVec 64) (s : State) :
    Host.Outcome State Fault Refusal :=
  if (s.tile c.val t.val).map.n ≤ i.val then .next (s.respond .badFormat)
  else
    let r := s.busWrite m (s.neuronAddr c.val t.val i.val) (leBytes 8 v.toNat) .clean
    .next (r.2.respond r.1)

/-- ROW_TABLE_WRITE (R76): a write to a table region, in a tile window or, for a far row directory, in LPDDR5X. An address that
lies in none of these regions is no such write. -/
def execRowTableWrite (m : Master) (addr : Nat) (data : List Byte) (s : State) : Host.Outcome State Fault Refusal :=
  let isTable : Bool := match regionOf s.variant addr with
    | .tile c t off => s.tilePart c t off == .tables
    | .ddr _ => (s.farDirOwner addr).isSome
    | _ => false
  if !isTable then .next s
  else
    let r := s.busWrite m addr data .clean
    .next (r.2.respond r.1)

/-- SET_ALIAS_WRITE (R280): `addr` is the control offset. -/
def execSetAliasWrite (m : Master) (addr : Nat) (data : List Byte) (s : State) : Host.Outcome State Fault Refusal :=
  let r := s.busWrite m (0x5000000 + addr % 0x80000) data .clean
  .next (r.2.respond r.1)

/-- CLEAR_ALIAS_WRITE (R280): `addr` is the control offset. -/
def execClearAliasWrite (m : Master) (addr : Nat) (data : List Byte) (s : State) : Host.Outcome State Fault Refusal :=
  let r := s.busWrite m (0x6000000 + addr % 0x80000) data .clean
  .next (r.2.respond r.1)

/-- Whether a window is in use: by the ring of a bound queue, the skid buffer of an armed port or a Census group (R282). -/
def State.windowInUse (s : State) (b w : Nat) : Bool :=
  let x := s.window b w
  let hi := x.base + x.size
  x.mode != .off && (
    (s.queues.any fun q => q.2.qstate != .unbound && x.base ≤ q.2.base && q.2.base < hi) ||
    ([0, 1, 2, 3, 4, 5].any fun p => s.reg (Reg.PORT_STATE p) != 0 && s.skid p == some (b, w)) ||
    (s.census.any fun g => s.windowAt g.2.win .append == some (b, w)))

/-- A descriptor's mode. -/
def WinMode.ofCode (n : Nat) : Option WinMode :=
  match n with
  | 0 => some .off | 1 => some .ring | 2 => some .append
  | _ => none

/-- A descriptor that keeps R281, as a window; with MODE OFF only the reserved bits are judged (R282). -/
def windowOf (b v : Nat) : Option Window :=
  let base := bitField v 0 25
  let k := bitField v 25 5
  match WinMode.ofCode (bitField v 30 2) with
  | none => none
  | some .off => if bitField v 32 32 = 0 then some { base := base, log2size := k } else none
  | some m =>
    if bitField v 32 32 ≠ 0 ∨ k < 12 ∨ 23 < k ∨ base / 0x200000 ≠ b ∨ base % 2 ^ k ≠ 0 ∨ firmwareArea < base + 2 ^ k then none
    else some { base := base, log2size := k, mode := m }

/-- A window descriptor set (R281, R282): windows 24–31 of bank 15 belong to the firmware. -/
def State.setDescriptor (s : State) (firmware : Bool) (b w v : Nat) : Status × State :=
  if b = 15 ∧ 24 ≤ w ∧ !firmware then (.security, s)
  else if s.windowInUse b w then (.refused, s)
  else match windowOf b v with
    | none => (.badFormat, s)
    | some x => (.ok, s.setWindow b w x)

/-- WINDOW_DESCRIPTOR_WRITE (R281, R282): a write of object 0x2440 + b, sub-index w + 1. -/
def execWindowDescriptorWrite (path : Path) (b : BankId) (w : Fin 32) (v : BitVec 64) (s : State) :
    Host.Outcome State Fault Refusal :=
  .next (s.writeObject path (0x2440 + b.val) (w.val + 1) fun s => s.setDescriptor (path == .sys) b.val w.val v.toNat)

/-- WINDOW_CONSUME (R283): a 4-byte write at offset 0x30 of the control block. -/
def execWindowConsume (m : Master) (b : BankId) (w : Fin 32) (n : BitVec 32) (s : State) :
    Host.Outcome State Fault Refusal :=
  let r := s.windowPort m b.val w.val 0x30 (leBytes 4 n.toNat)
  .next (r.2.respond r.1)

/-- WINDOW_CLEAR (R283): a 4-byte write at offset 0x38 of the control block. -/
def execWindowClear (m : Master) (b : BankId) (w : Fin 32) (v : BitVec 32) (s : State) :
    Host.Outcome State Fault Refusal :=
  let r := s.windowPort m b.val w.val 0x38 (leBytes 4 v.toNat)
  .next (r.2.respond r.1)

/-! ### Bank grants (R275–R279) -/

/-- The rank of a port (R276). -/
def bankRank : BankPort → Nat
  | .intake => 1 | .dense => 2 | .crypto => 3 | .bulk => 4 | .journal => 5 | .census => 6 | .queueLogic => 7 | .mgmt => 8
  | .seq c => 9 + c.val

/-- The owner code of a port (R277). -/
def bankOwnerCode : BankPort → Nat
  | .intake => 1 | .dense => 2 | .crypto => 3 | .bulk => 4 | .journal => 5 | .census => 6 | .queueLogic => 7 | .mgmt => 8
  | .seq _ => 9

/-- Whether a port owns a bank whose BANK_OWNER holds `v` (R277). -/
def bankOwns (p : BankPort) (v : Nat) : Bool :=
  v % 256 == bankOwnerCode p && (match p with
    | .seq c => natBit v (16 + c.val)
    | _ => true)

/-- Accesses in the order in which a bank grants them: the owner first, then by port priority (R275). -/
def grantOrder (v : Nat) (l : List StalledAccess) : List StalledAccess :=
  let key (x : StalledAccess) : Nat := (if bankOwns x.acc.port v then 0 else 100) + bankRank x.acc.port
  (List.range 200).flatMap fun k => l.filter fun x => key x = k

/-- The words two accesses share. -/
def sharedWords (x y : BankAccess) : List Nat :=
  let cut (a : BankAccess) : List Nat := ((List.range a.len).map fun i => (a.addr + i) / 8).eraseDups
  (cut x).filter fun w => (cut y).contains w

/-- A granted access answered. -/
def State.bankAnswer (s : State) (x : BankAccess) (st : Status) (data : List Byte) : State :=
  s.emit (.bankResponse x.port st data)

/-- The data of a read in which the shared words hold what nothing states: free values (R279). -/
def State.undefinedWords (s : State) (x : BankAccess) (shared : List Nat) : List Byte × State :=
  (List.range x.len).foldl (fun (r : List Byte × State) i =>
    if shared.contains ((x.addr + i) / 8) then
      let f := r.2.fresh 8
      (r.1 ++ [f.1], f.2)
    else (r.1 ++ [s.byteAt (x.addr + i)], r.2)) ([], s)

/-- One granted access applied by itself. -/
def State.grantOne (s : State) (x : BankAccess) : State :=
  match x.write with
  | some d => (s.setBytes x.addr d).bankAnswer x .ok []
  | none => s.bankAnswer x .ok (s.bytes x.addr x.len)

/-- A counter of a bank: the module total, and the copy that a Commons bank has; a control bank has none (R298). -/
def State.bankCount (s : State) (o : Obj) (b : Nat) : State := if b < 16 then s.bumpAt o b else s.bump o

/-- Two accesses granted in one cycle, the higher port first; a common word makes two writes collide, or leaves a read undefined
there (R279). -/
def State.grantTwo (s : State) (b : Nat) (x y : BankAccess) : State :=
  let sh := sharedWords x y
  if sh = [] then (s.grantOne x).grantOne y
  else match x.write, y.write with
    | none, none => (s.grantOne x).grantOne y
    | some _, some _ => ((s.grantOne x).bankCount Reg.WCOLL_CNT b).bankAnswer y .wcoll []
    | some _, none =>
      let r := s.undefinedWords y sh
      ((r.2.grantOne x).bankCount Reg.BUSY_CNT b).bankAnswer y .busy r.1
    | none, some _ =>
      let r := s.undefinedWords x sh
      ((r.2.bankAnswer x .busy r.1).bankCount Reg.BUSY_CNT b).grantOne y

/-- The collision loser that an engine or the queue logic presents again in the next cycle; the management core and the
sequencers repeat it themselves (R279). -/
def collisionAgain (x y : BankAccess) : List StalledAccess :=
  let again (z : BankAccess) : List StalledAccess := match z.port with
    | .mgmt => []
    | .seq _ => []
    | _ => [⟨z, 0⟩]
  if sharedWords x y = [] then []
  else match x.write, y.write with
    | none, none => []
    | none, some _ => again x
    | some _, _ => again y

/-- Whether a port may present an access to a Commons bank: of one line within the bank, and not by a port shut out of the
firmware area (R273, R278). -/
def presents (b : Nat) (x : BankAccess) : Bool :=
  let open' : Bool := match x.port with
    | .seq _ => false
    | .intake => false
    | .journal => false
    | _ => true
  x.addr / 0x200000 == b && (x.addr + max x.len 1 - 1) / 64 == x.addr / 64 && (open' || x.addr < firmwareArea)

/-- A write through the set or the clear alias: true for set (R280). -/
def aliasOf (v : Variant) (x : BankAccess) : Option Bool :=
  match x.write, regionOf v x.addr with
  | some _, .setAlias _ => some true
  | some _, .clearAlias _ => some false
  | _, _ => none

/-- The control offset that an address names directly or through an alias; the window control blocks are none of the banks'
words (R273, R280). -/
def controlOffset (v : Variant) (a : Nat) : Option Nat :=
  let below (off : Nat) : Option Nat := if off < 0x78000 then some off else none
  match regionOf v a with
  | .control off => some off
  | .setAlias off => below off
  | .clearAlias off => below off
  | _ => none

/-- Whether an access may be presented to control bank `k`: 4 or 8 bytes, aligned (R273). -/
def presentsControl (v : Variant) (k : Nat) (x : BankAccess) : Bool :=
  (x.len == 4 || x.len == 8) && x.addr % x.len == 0 &&
    (match x.write with
      | some d => d.length == x.len
      | none => true) &&
    (match controlOffset v x.addr with
      | some off => off / 0x10000 == k
      | none => false)

/-- The same access by the direct address of its control word: a read through an alias is a direct read (R280). -/
def directControl (v : Variant) (x : BankAccess) : BankAccess :=
  match controlOffset v x.addr with
  | some off => { x with addr := controlBase + off }
  | none => x

/-- One alias operation of a cycle applied and answered (R280). -/
def State.grantAlias (s : State) (x : BankAccess) : State :=
  match aliasOf s.variant x, x.write, controlOffset s.variant x.addr with
  | some set, some d, some off => (s.aliasWrite set off d).2.bankAnswer x .ok []
  | _, _, _ => s

/-- The accesses granted in one cycle, at most two, and those presented again after a collision (R275, R279). -/
def State.grantCycle (s : State) (b : Nat) (order : List StalledAccess) : State × List StalledAccess :=
  match order.take 2 with
  | [x, y] => (s.grantTwo b x.acc y.acc, collisionAgain x.acc y.acc)
  | [x] => (s.grantOne x.acc, [])
  | _ => (s, [])

/-- The rest of a cycle: stalled accesses counted, the longest stall held, and all presented again in the next cycle (R275). -/
def State.stallRest (s : State) (b : Nat) (rest again : List StalledAccess) : State :=
  let run := rest.foldl (fun a x => max a x.run) 0
  let s1 := if b < 16 then (s.bumpByAt Reg.BANK_STALL (0x10 + b) rest.length).peakAt Reg.STALL_RUN_MAX b run
    else (s.bumpBy Reg.BANK_STALL rest.length).peak Reg.STALL_RUN_MAX run
  { s1 with bankWait := Assoc.set b (rest ++ again) s1.bankWait }

/-- One cycle of a Commons bank (R275). -/
def State.commonsCycle (s : State) (b : Nat) (accs : List BankAccess) : State :=
  let all := Assoc.getD s.bankWait b [] ++ (accs.filter (presents b)).map fun x => ⟨x, 0⟩
  let order := grantOrder (s.viewObj (Reg.BANK_OWNER b)) all
  let g := s.grantCycle b order
  g.1.stallRest b ((order.drop 2).map fun x => { x with run := x.run + 1 }) g.2

/-- One cycle of control bank `k`, by port priority alone: two direct accesses granted as in Commons, then the alias operations
of the cycle in port priority, which never collide and take none of the two grants (R280; DEDUCED from its example, which
applies two alias operations and a read of one word in one cycle). -/
def State.controlCycle (s : State) (k : Nat) (accs : List BankAccess) : State :=
  let b := 16 + k
  let all := Assoc.getD s.bankWait b [] ++ (accs.filter (presentsControl s.variant k)).map fun x => ⟨x, 0⟩
  let order := grantOrder 0 all
  let direct := (order.filter fun x => (aliasOf s.variant x.acc).isNone).map fun x =>
    { x with acc := directControl s.variant x.acc }
  let g := s.grantCycle b direct
  let s1 := (order.filter fun x => (aliasOf s.variant x.acc).isSome).foldl (fun s x => s.grantAlias x.acc) g.1
  s1.stallRest b ((direct.drop 2).map fun x => { x with run := x.run + 1 }) g.2

/-- COMMONS_BANK_GRANT: one cycle of Commons bank `b`, or, for 16 + k, of control bank k, which follows the same grant rules. The
stalled accesses are presented again with the new ones; at most two are granted and the rest stall (R275, R280). An access
that the bank may not answer is not presented to it. -/
def execCommonsBankGrant (b : Fin 24) (accs : List BankAccess) (s : State) : Host.Outcome State Fault Refusal :=
  .next (if b.val < 16 then s.commonsCycle b.val accs else s.controlCycle (b.val - 16) accs)

/-- PATROL_SCRUB: one LPDDR5X line read by the patrol scrubber; a corrected line is written back, an uncorrectable one recorded,
and the pass counted at its last line (R292). -/
def execPatrolScrub (line : Nat) (ecc : Ecc) (s : State) : Host.Outcome State Fault Refusal :=
  let a := ddrBase + line * 64
  if s.reg Reg.DDR_STATE ≠ 2 ∨ s.variant.usable ≤ line * 64 then .next s
  else
    let r := (s.eccRead .saddle a ecc).2
    .next (if line * 64 + 64 = s.variant.usable then r.bump Reg.SCRUB_PASSES else r)

end Sys2Proof.Machine
end

