-- ==== Sys2Proof/Machine/Engines.lean ====
section
/-!
DEFINITION. Engines and command lists (08, R203–R213, R225–R231): the checks on a command, its start, disabling with work in
flight, and the commands STEP, GAIT, LEARN_EPOCH and FRC_INVALIDATE.
-/
namespace Sys2Proof.Machine
open Sys2Proof

/-! ### Address operands (R205) -/

/-- The spaces an address operand may name. -/
inductive Space where
  | commons | control | tack | stable | tile | ddr
  deriving DecidableEq, Repr

/-- The space in which `n` bytes from an address lie; none where they lie in no one region (R14, R273, R274). -/
def spaceOf (v : Variant) (a n : Nat) : Option Space :=
  match regionOf v a, regionOf v (a + max n 1 - 1) with
  | .commons _ _, .commons _ _ => some .commons
  | .control _, .control _ => some .control
  | .tack _, .tack _ => some .tack
  | .stable _, .stable _ => some .stable
  | .tile c t _, .tile c' t' off => if c = c' ∧ t = t' ∧ off < 0x60040 then some .tile else none
  | .ddr _, .ddr _ => some .ddr
  | _, _ => none

/-- An address operand: where it points, the bytes it names, its alignment, whether it is written, and the spaces its opcode
allows. -/
structure AddrOperand where
  addr : Nat
  len : Nat
  align : Nat
  write : Bool
  spaces : List Space
  deriving DecidableEq, Repr

/-- Bytes per element of an output (R217, R218): FP32, BF16, FP32 added, or the emission map's entry. -/
def outBytes (o : Nat) : Nat := match o with
  | 1 => 2 | 3 => 8 | _ => 4

/-- Bytes of `n` elements of B (R217). -/
def inBytes (f n : Nat) : Nat := match f with
  | 0 => 2 * n | 1 => n | _ => ceilDiv n 2

/-- The output size of a convolution along one axis, and the zeros before the first row (R218). -/
def convAxis (n k stride : Nat) (same : Bool) : Nat × Nat :=
  if same then
    let o := ceilDiv n stride
    (o, ((o - 1) * stride + k - n) / 2)
  else if n < k then (0, 0)
  else ((n - k) / stride + 1, 0)

/-- The operands of CONV (R218). -/
structure ConvShape where
  h : Nat
  w : Nat
  cin : Nat
  cout : Nat
  kh : Nat
  kw : Nat
  stride : Nat
  same : Bool
  out : Nat
  deriving DecidableEq, Repr

/-- The shape a CONV command names (R218). -/
def convShape (e : Entry) : ConvShape :=
  let b := entryField e 28 3
  { h := entryField e 20 2, w := entryField e 22 2, cin := entryField e 24 2, cout := entryField e 26 2,
    kh := bitField b 0 4, kw := bitField b 4 4, stride := bitField b 8 2 + 1, same := natBit b 10, out := bitField b 16 2 }

def ConvShape.ho (x : ConvShape) : Nat := (convAxis x.h x.kh x.stride x.same).1
def ConvShape.wo (x : ConvShape) : Nat := (convAxis x.w x.kw x.stride x.same).1

/-- The address operands of a command. The spec gives SRC of GCM_OPEN no layout: AAD, IV, ciphertext and tag, as GCM_SEAL
takes and writes them (DESIGN CHOICE). -/
def addrOperands (o : Opcode) (e : Entry) : List AddrOperand :=
  let f (lo n : Nat) : Nat := entryField e lo n
  let any : List Space := [.commons, .control, .tack, .stable, .tile, .ddr]
  let len := f 20 4
  let src (n : Nat) : AddrOperand := ⟨f 12 4, n, 1, false, [.commons, .tack]⟩
  let dst (n : Nat) : AddrOperand := ⟨f 16 4, n, 1, true, [.commons, .tack]⟩
  match o with
  | .checkpoint => [⟨f 8 8, 4096 * f 16 4, 4096, true, [.ddr]⟩]
  | .restore => [⟨f 8 8, 128, 1, false, [.ddr]⟩]
  | .harnessLoad => [⟨f 8 8, 4096 * f 16 4, 4096, true, [.ddr]⟩]
  | .gemm =>
    let m := f 20 2
    let n := f 22 2
    let k := f 24 2
    let fmt := bitField (f 26 1) 0 2
    let out := bitField (f 27 1) 0 2
    [⟨f 8 4, 2 * m * k, 64, false, [.commons]⟩, ⟨f 12 4, inBytes fmt (k * n), 64, false, [.commons]⟩,
      ⟨f 16 4, outBytes out * m * n, 64, out != 3, [.commons]⟩]
  | .conv =>
    let x := convShape e
    [⟨f 8 4, 2 * x.h * x.w * x.cin, 64, false, [.commons]⟩, ⟨f 12 4, 2 * x.kh * x.kw * x.cin * x.cout, 64, false, [.commons]⟩,
      ⟨f 16 4, outBytes x.out * x.ho * x.wo * x.cout, 64, x.out != 3, [.commons]⟩]
  | .move => [⟨f 8 8, f 24 4, 8, false, any⟩, ⟨f 16 8, f 24 4, 8, true, any⟩]
  | .fill => [⟨f 8 8, f 16 4, 8, true, any⟩]
  | .mapLoad => [⟨f 12 4, f 16 4, 1, false, [.commons]⟩]
  | .groupDef => [⟨f 16 4, 1, 1, true, [.commons]⟩]
  | .tilestat => [⟨f 8 4, 16 + 8192, 1, true, [.commons]⟩]
  | .gcmSeal => [src (f 24 2 + len), dst (12 + len + 16)]
  | .gcmOpen => [src (f 24 2 + 12 + len + 16), dst len]
  | .sha384 => [src len, dst 48]
  | .ecdsaSign => [src 48, dst 96]
  | .ecdsaVerify => [src 144]
  | _ => []

/-- An address operand outside its regions, misaligned, or leaving its region (R205). -/
def AddrOperand.bad (x : AddrOperand) (v : Variant) : Bool :=
  x.addr % x.align != 0 || (match spaceOf v x.addr x.len with
    | some r => !x.spaces.contains r
    | none => true)

/-- A reserved encoding of an enumerated operand, or a length that its rule forbids (R205, R220–R224). -/
def operandBad (o : Opcode) (e : Entry) : Bool :=
  let f (lo n : Nat) : Nat := entryField e lo n
  match o with
  | .gemm => bitField (f 26 1) 0 2 == 3
  | .move => f 24 4 % 8 != 0 || f 24 4 == 0 || 16 ≤ f 28 1
  | .fill => f 16 4 % 8 != 0 || f 16 4 == 0 || 16 ≤ f 20 1
  | .mapLoad => 6 ≤ f 8 1 || 3 ≤ f 9 1
  | .arm => 6 ≤ f 8 1
  | .disarm => 6 ≤ f 8 1 || 2 ≤ f 9 1
  | .groupDef => f 9 1 == 0 || 3 ≤ f 9 1
  | .gcmSeal | .gcmOpen | .sha384 => 0x1000000 < f 20 4
  | _ => false

/-- The engine by number, as a master acting for a command of a queue (R278). -/
def engineOf (n : Nat) : EngineId :=
  match n with
  | 0 => .fabric | 1 => .dense | 2 => .mover | 3 => .intake | 4 => .census | 5 => .crypto
  | k => .fetch ⟨(k - 6) % 4, Nat.mod_lt _ (by decide)⟩

/-- The master that an engine is for a command of a queue. -/
def engineMaster (n q : Nat) : Master := .engine (engineOf n) ⟨q % 32768, Nat.mod_lt _ (by decide)⟩

/-! ### Refused operands (R205, R491) -/

/-- The address ranges of the regions of a variant, each with its end (R14, R273, R274). -/
def regionSpans (v : Variant) : List (Nat × Nat) :=
  [(0, commonsSize), (controlBase, controlBase + 0x80000), (0x5000000, 0x5080000), (0x6000000, 0x6080000),
   (tackBase, tackBase + 0x40000), (queueBase, queueBase + 0x200000), (hitchBase, hitchBase + 0x80000),
   (stableBase, stableBase + 0x4800000), (ddrBase, ddrBase + v.usable)] ++
  (List.range 1024).map fun k => (tileWindow (k / 64) (k % 64), tileWindow (k / 64) (k % 64) + 0x60040)

/-- The 64-byte lines of `n` bytes from `a` that lie in a range of whole lines. -/
def linesWithin (a n : Nat) (r : Nat × Nat) : Nat :=
  let lo := max (a / 64) (r.1 / 64)
  let hi := min ((a + max n 1 - 1) / 64 + 1) (r.2 / 64)
  hi - lo

/-- The first address of a range of bytes at which a property holds that changes at the bounds of regions alone. -/
def firstWhere (v : Variant) (a n : Nat) (f : Nat → Bool) : Option Nat :=
  let bounds := a :: ((regionSpans v).flatMap fun r => [r.1, r.2]) ++ [firmwareArea, ddrBase + v.usable - 0x4000000]
  (bounds.filter fun x => a ≤ x && x < a + max n 1 && f x).min?

/-- The lines of an operand outside every region, and the first such address (R16). -/
def outsideLines (v : Variant) (a n : Nat) : Option (Nat × Nat) :=
  match firstWhere v a n (outside v) with
  | none => none
  | some x => some (x, linesOf a n - ((regionSpans v).map (linesWithin a n)).sum)

/-- The lines of an operand that its master may not reach, with the first such address and the refusal (R17, R278, R286,
R293). -/
def State.deniedLines (s : State) (m : Master) (x : AddrOperand) : Option (Nat × Nat × Option Obj × Bool) :=
  match firstWhere s.variant x.addr x.len fun a => (s.denial m x.write a).isSome with
  | none => none
  | some a => (s.denial m x.write a).map fun d =>
      let span : Nat × Nat :=
        match regionOf s.variant a with
        | .commons _ _ => (firmwareArea, commonsSize)
        | .tack _ => (tackBase, tackBase + 0x40000)
        | .ddr _ => if s.fwRegion ≤ a then (s.fwRegion, ddrBase + s.variant.usable) else (ddrBase, s.fwRegion)
        | _ => (a, x.addr + max x.len 1)
      (a, linesWithin x.addr x.len span, d)

/-- Refusals of one request that bear one status: the lines of each counted, one entry with the first address (R491). -/
def State.refuseAll (s : State) (m : Master) (st : Status) (l : List (Nat × Nat × Obj)) : State :=
  let s1 := l.foldl (fun s x => s.bumpBy x.2.2 x.2.1) s
  match l with
  | [] => s1
  | x :: _ => s1.logFault { cls := .security, status := st, sev := some .info, unit := masterCode m, ref := x.1 }

/-- The refused lines of a command's operands, counted and recorded once for each status (R491). -/
def State.refuseOperands (s : State) (m : Master) (ops : List AddrOperand) : State :=
  let out := ops.filterMap fun x => (outsideLines s.variant x.addr x.len).map fun r => (r.1, r.2, Reg.BADADDR)
  let den := ops.filterMap fun x => match s.deniedLines m x with
    | some (a, n, some o, _) => some (a, n, o)
    | _ => none
  (s.refuseAll m .badFormat out).refuseAll m .security den

/-- Whether a refusal stands against some operand, and whether one that counts. -/
def State.operandsDenied (s : State) (m : Master) (ops : List AddrOperand) : Option Bool :=
  let l := ops.filterMap fun x => s.deniedLines m x
  if l = [] then none else some (l.any fun d => d.2.2.1.isSome)

/-- COMMAND_CHECK: the checks of R205 in order, and the refusal of a halted fabric (R466): the status and the state, which
counts and records the refused lines of its operands (R491). HARNESS_LOAD judges the state of LPDDR5X by itself (R233,
R415). -/
def State.commandCheck (s : State) (eng : Nat) (run : RunCmd) : Status × State :=
  let e := run.cmd
  let m := engineMaster eng run.queue
  if s.badVersion e then (.version, s)
  else match cmdOpcode e with
    | none => (.badFormat, s)
    | some o =>
      let ops := addrOperands o e
      if o.engine ≠ some eng ∨ operandBad o e then (.badFormat, s)
      else if ops.any (·.bad s.variant) then (.badFormat, s.refuseOperands m ops)
      else
        let tack := eng = 5 ∧ !isBridleQueue run.queue ∧ ops.any fun x => spaceOf s.variant x.addr x.len == some .tack
        match s.operandsDenied m ops, o with
        | some false, .harnessLoad => if run.queue = 0 then (.ok, s) else (.security, s)
        | some _, _ => (.security, s.refuseOperands m ops)
        | none, _ =>
          if tack then (.security, s)
          else if o.deviceZeroOnly ∧ !s.isMaster then (.refused, s)
          else if o.queueZeroOnly ∧ run.queue ≠ 0 then (.security, s)
          else if o.needsHarness ∧ !s.harnessLoaded then (.refused, s)
          else if o.deviceZeroOnly ∧ s.reg Reg.FABRIC_STATE = 1 then (.refused, s)
          else (.ok, s)

/-! ### COMMAND_START (R208) -/

/-- Whether a queue's head is for an engine and ready: not a common opcode, and no STEP while one still has steps to release
(R208). -/
def State.engineHead (s : State) (eng q : Nat) : Bool :=
  let o := cmdOpcode (s.head q)
  (s.queue q).eng == eng && s.headReady q &&
    (match o with
      | some x => x.engine.isSome
      | none => true) && !(o == some .step && s.stepRun.isSome)

/-- The ready queues of an engine in round-robin order after the one it served last (R208). -/
def State.readyQueues (s : State) (eng : Nat) : List Nat :=
  let l := (s.queues.map (·.1)).filter fun q => s.engineHead eng q
  let last := (s.engine eng).lastQueue
  l.filter (fun q => last < q) ++ l.filter (fun q => q ≤ last)

/-- Whether the array executes an opcode between steps, so that the next release is held from its start (R21, R225). -/
def Opcode.holdsRelease : Opcode → Bool
  | .learnEpoch | .checkpoint | .restore | .loadSegment | .frcInvalidate => true
  | _ => false

/-- A command taken from a queue's head by its engine: executed if it passes the checks, else completed with the first failing
status (R205, R208). -/
def State.startCommand (s : State) (eng q : Nat) : State :=
  let run := s.headRun q
  let s0 := s.takeHead q
  let s1 := s0.setEngine eng { s0.engine eng with lastQueue := q }
  let c := s1.commandCheck eng run
  if c.1 ≠ .ok then c.2.complete eng run c.1 0 0 0
  else
    let s2 := { c.2 with dense := if eng = 1 then {} else c.2.dense, moved := if eng = 2 then {} else c.2.moved }.setEngine
      eng { c.2.engine eng with running := some run }
    if (cmdOpcode run.cmd).any Opcode.holdsRelease then s2.holdRelease eng else s2

/-- COMMAND_START: an idle engine takes the head of one of its ready queues, in RUN alone (R400); a pointer mismatch met
there resets the queue (R208, R246). `x` is what its code finds in the queue's control block, `y` an error that the block of
the completion queue has taken, which the record meets as it is written (R246). -/
def execCommandStart (e : EngineId) (x y : QueueSoft) (s : State) : Host.Outcome State Fault Refusal :=
  let eng := engineNum e
  match (s.engine eng).running, s.readyQueues eng with
  | none, q :: _ =>
    if s.reg Reg.PWR_STATE ≠ 0 then .next s else
    let s1 := (s.queueSoft q x).queueSoft (s.queue q).link y
    .next (if (s1.queue q).mismatch then s1.pointerReset q else if (s1.queue q).qstate = .closed then s1
      else s1.startCommand eng q)
  | _, _ => .next s

/-- HELD_RECORD_WRITE: the first held record of the engine whose completion queue has room, or takes it no more, is written or
lost; the cycles it was held are counted (R207). -/
def execHeldRecordWrite (e : EngineId) (s : State) : Host.Outcome State Fault Refusal :=
  let eng := engineNum e
  let x := s.engine eng
  match x.held.find? fun r => s.recordRefused r.run || !(s.queue (s.queue r.run.queue).link).isFull with
  | none => .next s
  | some r =>
    let s1 := (s.setEngine eng { x with held := dropFirst r x.held }).countHeld eng r
    .next (((s1.putRecord eng r.run r.bytes).settleQueue r.run.queue).settleEngine eng)

/-! ### ENG_CTRL (R226, R227, R237) -/

/-- The command queues bound to an engine, with their write pointers (R227). -/
def State.engineQueues (s : State) (eng : Nat) : List (Nat × BitVec 17) :=
  s.queues.filterMap fun q =>
    if q.2.kind = .command ∧ q.2.qstate ≠ .unbound ∧ q.2.eng = eng then some (q.1, q.2.wpA) else none

/-- DRAIN of an engine: the snapshot executes, then DISABLED (R226, R227). -/
def State.engDrain (s : State) (eng : Nat) : Status × State :=
  let x := s.engine eng
  match x.st with
  | .enabled => (.ok, (s.setEngine eng { x with st := .draining, snap := s.engineQueues eng }).settleEngine eng)
  | .aborting => (.refused, s)
  | _ => (.ok, s)

/-- ABORT of an engine: every unstarted command of the snapshot completes ABORTED; the one in execution runs to its safe
point (R226, R227). -/
def State.engAbort (s : State) (eng : Nat) : Status × State :=
  let x := s.engine eng
  match x.st with
  | .enabled | .draining =>
    let qs := s.engineQueues eng
    let s1 := s.setEngine eng { x with st := .aborting, snap := qs }
    (.ok, (qs.foldl (fun s q => s.abortUpTo q.1 eng q.2 (s.queue q.1).count) s1).settleEngine eng)
  | _ => (.ok, s)

/-- ENABLE of an engine (R226). -/
def State.engEnable (s : State) (eng : Nat) : Status × State :=
  let x := s.engine eng
  match x.st with
  | .aborting => (.refused, s)
  | _ => (.ok, s.setEngine eng { x with st := .enabled, snap := [] })

/-- ENG_DRAIN: a write of 1 to ENG_CTRL (R226, R227). -/
def execEngDrain (path : Path) (e : EngineId) (s : State) : Host.Outcome State Fault Refusal :=
  .next (s.writeObject path (0x3610 + engineNum e) 2 fun s => s.engDrain (engineNum e))

/-- ENG_ABORT: a write of 2 to ENG_CTRL (R226, R227). -/
def execEngAbort (path : Path) (e : EngineId) (s : State) : Host.Outcome State Fault Refusal :=
  .next (s.writeObject path (0x3610 + engineNum e) 2 fun s => s.engAbort (engineNum e))

/-- ENG_ENABLE: a write of 3 to ENG_CTRL (R226). -/
def execEngEnable (path : Path) (e : EngineId) (s : State) : Host.Outcome State Fault Refusal :=
  .next (s.writeObject path (0x3610 + engineNum e) 2 fun s => s.engEnable (engineNum e))

/-- QPOLICY_WRITE: a write of word 1 of the control block that QSEL names (R258). -/
def execQpolicyWrite (path : Path) (v : BitVec 64) (s : State) : Host.Outcome State Fault Refusal :=
  .next (s.writeObject path 0x2420 3 fun s => s.qpolicy v)

/-! ### The command an engine executes -/

/-- The command an engine executes, where it is the given opcode. -/
def State.runningOp (s : State) (eng : Nat) (o : Opcode) : Option RunCmd :=
  match (s.engine eng).running with
  | some run => if cmdOpcode run.cmd = some o then some run else none
  | none => none

/-- No step is in flight, as an operation between steps needs (R21). -/
def State.noStep (s : State) : Bool := s.fabric.flights == []

/-- A fabric operation done: the next release is held no longer and the command completes. -/
def State.fabricDone (s : State) (st : Status) (result ext : Nat) : State :=
  (s.freeRelease 0).conclude 0 st 0 result ext

/-- STEP: the command begins to release steps (R101, R104, R208, R211). Under Walk, as the gait stands at its first release,
COUNT is 1. `others` says that every VALID device reads LOADED with the same measurement, without which device 0 refuses
(R233). -/
def execStep (others : Bool) (s : State) : Host.Outcome State Fault Refusal :=
  match s.runningOp 0 .step with
  | none => .next s
  | some run =>
    let k := entryField run.cmd 8 4
    if !others then .next (s.conclude 0 .refused 0 0 0)
    else if s.pendingGait = 0 ∧ k ≠ 1 then .next (s.conclude 0 .badFormat 0 0 0)
    else
      let r : StepRun := { run := run, remaining := if k = 0 then none else some k, gait := s.pendingGait }
      .next ((s.setEngine 0 { s.engine 0 with running := none }).modFabric fun f => { f with runs := f.runs ++ [r] })

/-- The ranges of R114 on a GAIT's operands, "keep" apart (R212). -/
def gaitOk (g p len floor shed : Nat) : Bool :=
  (g ≤ 2 || g == 0xFF) && (p ≤ 2 || p == 0xFF) && (len == 0 || (50000 ≤ len && len ≤ 1000000000)) &&
    (floor ≤ 1000000000 || floor == 0xFFFFFFFF) && (shed ≤ 7 || shed == 0xFFFFFFFF)

/-- The values a GAIT does not keep staged over those staged before (R212). -/
def StagedGait.take (x : StagedGait) (g p len floor shed : Nat) : StagedGait :=
  { gait := if g = 0xFF then x.gait else some g, policy := if p = 0xFF then x.policy else some p,
    len := if len = 0 then x.len else some len, floor := if floor = 0xFFFFFFFF then x.floor else some floor,
    shed := if shed = 0xFFFFFFFF then x.shed else some shed }

/-- GAIT: its values staged for the next release; completes at once (R212). -/
def execGait (s : State) : Host.Outcome State Fault Refusal :=
  match s.runningOp 0 .gait with
  | none => .next s
  | some run =>
    let f (lo n : Nat) : Nat := entryField run.cmd lo n
    if !gaitOk (f 8 1) (f 9 1) (f 12 4) (f 16 4) (f 20 4) then .next (s.conclude 0 .badFormat 0 0 0)
    else
      .next ((s.modFabric fun x =>
        { x with staged := x.staged.take (f 8 1) (f 9 1) (f 12 4) (f 16 4) (f 20 4) }).conclude 0 .ok 0 0 0)

/-- LEARN_EPOCH: with no step in flight the epoch ends; the command completes with its capture (R179, R213). -/
def execLearnEpoch (s : State) : Host.Outcome State Fault Refusal :=
  match s.runningOp 0 .learnEpoch with
  | none => .next s
  | some _ => if s.noStep ∧ s.learning.ending = none then .next (s.endEpoch true) else .next s

/-- Fetches of the clusters of a mask given up: their requests, hints and reads, and their lines on the way (R154). -/
def State.dropFetches (s : State) (mask : Nat) : State :=
  let keep (x : FetchEngine) : FetchEngine :=
    { x with queue := x.queue.filter fun r => !natBit mask r.cluster, jobs := x.jobs.filter fun j => !natBit mask j.cluster }
  { s with
    fetch := s.fetch.map fun x => (x.1, keep x.2)
    switchIn := s.switchIn.map fun q => (q.1, q.2.filter fun l => !(l.kind == 0 && natBit mask l.clu)) }

/-- Every far-row tag of the clusters of a mask set ABSENT, and what is being fetched for one given up, so that no later line
fills a tag made anew (R154, R225). -/
def State.invalidateFar (s : State) (mask : Nat) : State :=
  (List.range 16).foldl (fun s c =>
    if natBit mask c ∧ (Assoc.get? c s.stores).isSome then s.setStore c { s.store c with tags := [], landed := [] } else s)
    (s.dropFetches mask)

/-- FRC_INVALIDATE: once no step is in flight and no tag of the clusters is PENDING, their tags become ABSENT (R225). -/
def execFrcInvalidate (s : State) : Host.Outcome State Fault Refusal :=
  match s.runningOp 6 .frcInvalidate with
  | none => .next s
  | some run =>
    let mask := entryField run.cmd 8 2
    let pending := (List.range 16).any fun c => natBit mask c && (s.store c).tags.any fun g => !g.present
    if !s.noStep ∨ pending then .next s
    else .next (((s.invalidateFar mask).freeRelease 6).conclude 6 .ok 0 0 0)

/-! ### Cluster sequencers (R229–R231) -/

/-- An exception in user mode stops the sequencer until the next load; counted and recorded with cluster, mcause and mepc
(R231). -/
def State.seqStop (s : State) (c : Nat) (mcause mepc : BitVec 32) : State :=
  if natBit (s.reg Reg.SEQ_RUN) c then
    (((s.setReg Reg.SEQ_RUN (setBitField (s.reg Reg.SEQ_RUN) c 1 0)).wakeSeq c).bump Reg.SEQ_FAULT).logFault
      { cls := .watchdog, status := .aborted, unit := c, sub := mcause.toNat % 256, ref := mepc.toNat }
  else s

/-- A control register of a sequencer as it reads: DOORBELL takes the oldest record, 0xFFFF_FFFF from an empty FIFO; DB_LEVEL,
STEP_DONE and EPOCH change nothing (R230). -/
def State.seqRead (s : State) (c : Nat) (k : Fin 4) : Nat × State :=
  let r := s.router c
  match k with
  | 0 => match r.doorbell with
    | [] => (0xFFFFFFFF, s)
    | d :: l => (d.toNat, s.setRouter c { r with doorbell := l })
  | 1 => (r.doorbell.length, s)
  | 2 => (s.reg Reg.STEP_COMPLETE % 2 ^ 32, s)
  | 3 => (s.reg Reg.EPOCH % 2 ^ 32, s)

/-- DOORBELL_READ: user code of a running sequencer reads a control register, writes one, which is an illegal instruction
(mcause 2), or waits (R229, R230). One that waits does nothing. -/
def execDoorbellRead (c : ClusterId) (x : SeqOp) (s : State) : Host.Outcome State Fault Refusal :=
  if s.seqWait.contains c.val then .next s
  else match x with
    | .read k => .next ((s.seqRead c.val k).2.respond .ok (leBytes 4 (s.seqRead c.val k).1))
    | .write mepc => .next (s.seqStop c.val 2 mepc)
    | .wfi => .next (if natBit (s.reg Reg.SEQ_RUN) c.val then { s with seqWait := s.seqWait ++ [c.val] } else s)

/-- Whether user code of a sequencer reaches an address (R229): queues that name the sequencer as producer or consumer, and
Commons banks that BANK_OWNER grants it. The bank grant is read as SEQMASK of the bank, the one value of an image that names
sequencers for a bank (DEDUCED). -/
def State.seqReach (s : State) (c : ClusterId) (a : Nat) : Bool :=
  match regionOf s.variant a with
  | .queueBlock q _ => permits (s.queue q).prod (.sequencer c) || permits (s.queue q).cons (.sequencer c)
  | .commons b _ => bankOwns (.seq c) (s.reg (Reg.BANK_OWNER b))
  | _ => false

/-- SEQ_EXCEPTION: an exception in user mode, by its cause; a load or a store outside user code's reach is an access fault,
mcause 5 or 7 (R229, R231). -/
def execSeqException (c : ClusterId) (x : SeqTrap) (s : State) : Host.Outcome State Fault Refusal :=
  match x with
  | .cause mcause mepc => .next (s.seqStop c.val mcause mepc)
  | .load a mepc => .next (if s.seqReach c a then s else s.seqStop c.val 5 mepc)
  | .store a mepc => .next (if s.seqReach c a then s else s.seqStop c.val 7 mepc)

end Sys2Proof.Machine
end

