-- ==== Sys2Proof/Machine/Dense.lean ====
section
/-!
DEFINITION. The Dense engine (R217–R219): GEMM and CONV in BF16 and FP32, their results stored or injected as events.
-/
namespace Sys2Proof.Machine
open Sys2Proof

/-! ### Arithmetic (R219) -/

/-- An exact finite value as mantissa and exponent of 2; none for an infinity or a NaN, of which the spec states no result. -/
abbrev Exact := Option (Int × Int)

/-- The value of an FP32 word. -/
def exactOf (x : BitVec 32) : Exact := if f32Special x then none else some (f32Parts x)

/-- The value of a BF16 halfword. -/
def exactBf16 (x : Nat) : Exact := exactOf (BitVec.ofNat 32 (x % 65536 * 65536))

/-- An exact value rounded to BF16 (R36, R219): the halfword, none beyond the largest finite one. -/
def bf16Round (x : Int × Int) : Option Nat :=
  let r := roundTo 8 (-133) x.1 x.2
  (f32Encode r.1 r.2).map fun w => w.toNat / 65536

/-- A weight code as BF16: code × SCALE rounded (R219 step 1). -/
def codeValue (code : Int) (scale : BitVec 32) : Exact :=
  match exactOf scale with
  | none => none
  | some p => match bf16Round (code * p.1, p.2) with
    | some w => exactBf16 w
    | none => none

/-- A product added into an FP32 sum (R219 step 2). -/
def addProduct (sum a b : Exact) : Exact :=
  match sum, a, b with
  | some x, some y, some z =>
    let t := dyadicAdd x (y.1 * z.1, y.2 + z.2)
    (f32Round t.1 t.2).map f32Parts
  | _, _, _ => none

/-- The operands of a pass as the engine reads them, with its sizes (R217, R218). -/
structure Pass where
  m : Nat
  n : Nat
  k : Nat
  a : Nat → Nat → Exact
  b : Nat → Nat → Exact
  c : Nat
  out : Nat

/-- Element (i, j) of A·B: the products added in ascending k (R219). -/
def Pass.element (p : Pass) (i j : Nat) : Exact :=
  (List.range p.k).foldl (fun sum k => addProduct sum (p.a i k) (p.b k j)) (some (0, 0))

/-- An element of B in IN_FMT (R217). -/
def State.weightOf (s : State) (base fmt : Nat) (scale : BitVec 32) (i : Nat) : Exact :=
  match fmt with
  | 0 => exactBf16 (s.word (base + 2 * i) 2)
  | 1 => codeValue (signedOf 8 (s.word (base + i) 1)) scale
  | _ => codeValue (signedOf 4 (bitField (s.word (base + i / 2) 1) (4 * (i % 2)) 4)) scale

/-- The pass of a GEMM (R217). -/
def State.gemmPass (s : State) (e : Entry) : Pass :=
  let f (lo n : Nat) : Nat := entryField e lo n
  let k := f 24 2
  let n := f 22 2
  { m := f 20 2, n := n, k := k, c := f 16 4, out := bitField (f 27 1) 0 2,
    a := fun i j => exactBf16 (s.word (f 8 4 + 2 * (i * k + j)) 2),
    b := fun i j => s.weightOf (f 12 4) (bitField (f 26 1) 0 2) (BitVec.ofNat 32 (f 28 4)) (i * n + j) }

/-- The pass of a CONV: row i is an output place, column k a place of the filter and a channel; places outside the input are
zero (R218). -/
def State.convPass (s : State) (e : Entry) : Pass :=
  let x := convShape e
  let base := entryField e 8 4
  let filt := entryField e 12 4
  let top := (convAxis x.h x.kh x.stride x.same).2
  let left := (convAxis x.w x.kw x.stride x.same).2
  { m := x.ho * x.wo, n := x.cout, k := x.kh * x.kw * x.cin, c := entryField e 16 4, out := x.out,
    a := fun i k =>
      let y := i / x.wo * x.stride + k / x.cin / x.kw
      let z := i % x.wo * x.stride + k / x.cin % x.kw
      if y < top ∨ z < left ∨ x.h ≤ y - top ∨ x.w ≤ z - left then some (0, 0)
      else exactBf16 (s.word (base + 2 * (((y - top) * x.w + (z - left)) * x.cin + k % x.cin)) 2),
    b := fun k j => exactBf16 (s.word (filt + 2 * (k * x.cout + j)) 2) }

/-! ### Results (R219) -/

/-- A value as `w` bits; where the spec states none, a free value. -/
def State.valueOr (s : State) (w : Nat) (x : Option (BitVec w)) : BitVec w × State :=
  match x with
  | some v => (v, s)
  | none => s.fresh w

/-- An element stored as FP32, as BF16, or added into C (R217). -/
def State.storeElement (s : State) (p : Pass) (i j : Nat) : State :=
  let x := p.element i j
  let at' := i * p.n + j
  match p.out with
  | 1 =>
    let r := s.valueOr 16 ((x.bind bf16Round).map (BitVec.ofNat 16))
    r.2.setWord (p.c + 2 * at') 2 r.1.toNat
  | 2 =>
    let old := exactOf (BitVec.ofNat 32 (s.word (p.c + 4 * at') 4))
    let sum := match old, x with
      | some a, some b => let t := dyadicAdd a b; f32Round t.1 t.2
      | _, _ => none
    let r := s.valueOr 32 sum
    r.2.setWord (p.c + 4 * at') 4 r.1.toNat
  | _ =>
    let r := s.valueOr 32 (x.bind fun v => f32Round v.1 v.2)
    r.2.setWord (p.c + 4 * at') 4 r.1.toNat

/-- VAL of an element's event: sat16(rnd(x·256)) (R219). -/
def eventValue (x : Int × Int) : Nat :=
  let e := x.2 + 8
  unsignedOf 16 (satInt 16 (if 0 ≤ e then x.1 * 2 ^ e.toNat else rnd x.1 (-e).toNat))

/-- The events of the last block injected in order, while a window is open and their centre port has room; one that fails
R123 by now is not injected (R98, R123, R125, R219). -/
def State.injectDense (s : State) : List Event → State
  | [] => { s with dense := { s.dense with waiting := [] } }
  | ev :: l =>
    let stay : State := { s with dense := { s.dense with waiting := ev :: l } }
    if !s.streamOpen then stay
    else if !s.streamCheck (s.epochOf s.fabric.window) ev false then
      State.injectDense { s with dense := { s.dense with bad := true } } l
    else match s.injectCentre 16 s.fabric.window ev with
      | none => stay
      | some t =>
        ({ t with dense := { t.dense with sent := t.dense.sent + 1 } }.bump Reg.DENSE_EVENTS).injectDense l

/-- The template of an element in the emission map; none for CLS 00 (R219). -/
def State.template (s : State) (p : Pass) (i j : Nat) : Option Event :=
  let w := s.word (p.c + 8 * (i * p.n + j)) 8
  if bitField w 62 2 = 0 then none else some { word := BitVec.ofNat 64 w }

/-- The event of an element computed and put behind those of its block that wait (R219). -/
def State.emitElement (s : State) (p : Pass) (i j : Nat) : State :=
  match s.template p i j with
  | none => s
  | some t =>
    let v := s.valueOr 16 ((p.element i j).map fun x => BitVec.ofNat 16 (eventValue x))
    { v.2 with dense := { v.2.dense with waiting := v.2.dense.waiting ++ [(t.set 1 16 v.1.toNat).set 17 3 1] } }

/-- The elements of a 64 × 64 block, row by row. -/
def Pass.block (p : Pass) (bi bj : Nat) : List (Nat × Nat) :=
  (List.range 64).flatMap fun r => (List.range 64).filterMap fun c =>
    if 64 * bi + r < p.m ∧ 64 * bj + c < p.n then some (64 * bi + r, 64 * bj + c) else none

/-- The blocks of a pass in order. -/
def Pass.blocks (p : Pass) : List (Nat × Nat) :=
  (List.range (ceilDiv p.m 64)).flatMap fun i => (List.range (ceilDiv p.n 64)).map fun j => (i, j)

/-- Every entry of the emission map keeps R123 against the route table in force (R219). -/
def State.mapOk (s : State) (p : Pass) : Bool :=
  (List.range p.m).all fun i => (List.range p.n).all fun j =>
    match s.template p i j with
    | none => true
    | some t => s.streamCheck (s.epochOf s.fabric.window) (t.set 17 3 1) false

/-- The next block of a pass computed: its results stored, or its events set to wait. -/
def State.runBlock (s : State) (p : Pass) : State :=
  let b := p.blocks.getD s.dense.blocks (0, 0)
  let s1 : State := { s with dense := { s.dense with blocks := s.dense.blocks + 1 } }
  (p.block b.1 b.2).foldl (fun s x => if p.out = 3 then s.emitElement p x.1 x.2 else s.storeElement p x.1 x.2) s1

/-- A pass ended: RESULT holds the events injected, or the blocks written; an event not injected makes it BAD_FORMAT
(R219). -/
def State.endPass (s : State) (out : Nat) : State :=
  let st : Status := if s.dense.bad then .badFormat else .ok
  s.conclude 1 st 0 (if out = 3 then s.dense.sent else s.dense.blocks) 0

/-- A pass ended where its last block is done, or an ABORT has taken it, and no event waits (R219, R228). -/
def State.settlePass (s : State) (p : Pass) : State :=
  if s.dense.waiting = [] ∧ (p.blocks.length ≤ s.dense.blocks ∨ s.aborting 1) then s.endPass p.out else s

/-- One 64 × 64 block of a pass, or, where events of the block before still wait, their injection; an ABORT ends the pass
behind a block (R219, R228). A map that fails R123 completes with BAD_FORMAT before any arithmetic; events wait for an open
window (R98). -/
def State.runPass (s : State) (p : Pass) : State :=
  if p.out = 3 ∧ s.dense.blocks = 0 ∧ !s.mapOk p then s.conclude 1 .badFormat 0 0 0
  else if s.dense.waiting = [] ∧ s.aborting 1 ∧ (s.dense.blocks ≠ 0 ∨ (p.out = 3 ∧ !s.streamOpen)) then s.endPass p.out
  else if p.out = 3 ∧ !s.streamOpen then s
  else
    let s1 := if s.dense.waiting = [] then s.runBlock p else s
    (s1.injectDense s1.dense.waiting).settlePass p

/-- GEMM: one block of the pass taken on; the command completes with its last (R217, R219). -/
def execDenseGemm (s : State) : Host.Outcome State Fault Refusal :=
  match s.runningOp 1 .gemm with
  | none => .next s
  | some run =>
    let p := s.gemmPass run.cmd
    if p.m = 0 ∨ p.n = 0 ∨ p.k = 0 then .next (s.conclude 1 .badFormat 0 0 0)
    else .next (s.runPass p)

/-- CONV: a block of a GEMM over BF16 input and filter (R218, R219). -/
def execDenseConv (s : State) : Host.Outcome State Fault Refusal :=
  match s.runningOp 1 .conv with
  | none => .next s
  | some run =>
    let x := convShape run.cmd
    if x.h = 0 ∨ x.w = 0 ∨ x.cin = 0 ∨ x.cout = 0 ∨ x.kh = 0 ∨ x.kw = 0 ∨ x.ho = 0 ∨ x.wo = 0 ∨
        65535 < x.kh * x.kw * x.cin then .next (s.conclude 1 .badFormat 0 0 0)
    else .next (s.runPass (s.convPass run.cmd))

end Sys2Proof.Machine
end

