-- ==== Sys2Proof/Machine/Mover.lean ====
section
/-!
DEFINITION. The Mover (R220) and the Census commands (R222, R223).
-/
namespace Sys2Proof.Machine
open Sys2Proof

/-! ### Paths (R160, R220) -/

/-- The switch and port by which the bulk network reaches an address: tiles and the cluster's own switch by the local port,
LPDDR5X by its package, Commons bank b by the switch of its group of four banks (R159). The control banks are taken to lie
at switch 15 (DEDUCED: R159 places the management complex and the journal logic there). -/
def State.attachment' (s : State) (a : Nat) : Nat × Nat :=
  match regionOf s.variant a with
  | .tile c _ _ => (c, 0)
  | .commons b _ => ([5, 6, 9, 10].getD (b / 4) 15, 5)
  | .ddr _ => (packageSwitch (s.packageAt a), 5)
  | .stable _ => (15, 6)
  | _ => (15, 5)

/-- Whether MOVER slots of a cluster lead from one address to another (R220). -/
def State.moverPath (s : State) (clu src dst : Nat) : Bool :=
  let a := s.attachment' src
  let b := s.attachment' dst
  s.flowPath s.slotVersion 3 clu 7 a.1 a.2 b.1 b.2

/-- Whether a MOVER slot of a cluster leaves the bulk network at an address: all that a fill needs, which reads no source
(R220). -/
def State.fillPath (s : State) (clu dst : Nat) : Bool :=
  let b := s.attachment' dst
  !(s.flowSlots s.slotVersion b.1 b.2 3 clu).isEmpty

/-- Where a command halts: at its end, or the next 4 KiB of destination (R228). -/
def moverStop (dst done n : Nat) : Nat := min n (((dst + done) / 4096 + 1) * 4096 - dst)

/-- The pieces of a range, cut at 64-byte lines: offset and bytes. -/
def lineCuts (addr : Nat) (total : Nat) : Nat → Nat → List (Nat × Nat)
  | 0, _ => []
  | k + 1, ofs =>
    if total ≤ ofs then []
    else
      let n := min (64 - (addr + ofs) % 64) (total - ofs)
      (ofs, n) :: lineCuts addr total k (ofs + n)

/-- The 8-byte words of a line written one after another from an offset on: the offset of one that is refused, and the state
(R273). -/
def State.lineWords (s : State) (m : Master) (a : Nat) (data : List Byte) : Nat → Nat → Option Nat × State
  | 0, _ => (none, s)
  | k + 1, ofs =>
    if data.length ≤ ofs then (none, s)
    else
      let r := s.busWrite m (a + ofs) ((data.drop ofs).take 8) .clean
      if r.1 = .ok ∨ r.1 = .eccUncorr then r.2.lineWords m a data k (ofs + 8) else (some ofs, s)

/-- A line written whole; where a word of it is refused nothing of the line is written, and the refusal is counted where it
stands (R31, R76, R220). -/
def State.moverWrite (s : State) (m : Master) (a : Nat) (data : List Byte) : Bool × State :=
  match s.lineWords m a data 8 0 with
  | (none, t) => (true, t)
  | (some k, _) => (false, (s.busWrite m (a + k) ((data.drop k).take 8) .clean).2)

/-- The bytes a piece carries: read 8 at a time (R273). -/
def State.moverRead (s : State) (m : Master) (a n : Nat) : List Byte × State :=
  (List.range (n / 8)).foldl (fun (x : List Byte × State) i =>
    let r := x.2.busRead m (a + 8 * i) 8 .clean
    (x.1 ++ r.2.1, r.2.2)) ([], s)

/-- The pieces of a move in order. A piece whose source line is among `bad` is written as zero and recorded; a refused write
stops the command at that line (R220). -/
def State.movePieces (s : State) (m : Master) (src dst : Nat) (bad : List Nat) (x : Moved) : List (Nat × Nat) → Moved × State
  | [] => (x, s)
  | (ofs, n) :: l =>
    let a := src + ofs
    let isBad := bad.contains (a / 64) || bad.contains ((a + n - 1) / 64)
    let r := if isBad then (List.replicate n 0, (s.eccRead m a .uncorrectable).2) else s.moverRead m a n
    let s1 := if isBad then r.2.logFault { cls := .memUncorr, status := .eccUncorr, ref := a } else r.2
    let w := s1.moverWrite m (dst + ofs) r.1
    if w.1 then w.2.movePieces m src dst bad { x with bytes := x.bytes + n, ecc := x.ecc || isBad } l
    else ({ x with refused := true, ecc := x.ecc || isBad }, w.2)

/-- The status of a copy (R220, R490). -/
def Moved.status (x : Moved) : Status := if x.refused then .refused else if x.ecc then .eccUncorr else .ok

/-- A copy or fill taken on: it ends with its last byte, a refused write or an ABORT (R220, R228). -/
def State.settleMove (s : State) (x : Moved) (n : Nat) : State :=
  if x.refused ∨ x.bytes = n ∨ s.aborting 2 then s.conclude 2 x.status 0 x.bytes 0 else { s with moved := x }

/-- MOVE: LEN bytes copied over the MOVER slots of SLOTCLU, up to the next 4 KiB of destination, and the command ended with
the last; `bad` lists source lines that read uncorrectable, by address / 64 (R220, R228). -/
def execMove (bad : List Nat) (s : State) : Host.Outcome State Fault Refusal :=
  match s.runningOp 2 .move with
  | none => .next s
  | some run =>
    let f (lo n : Nat) : Nat := entryField run.cmd lo n
    let src := f 8 8
    let dst := f 16 8
    let n := f 24 4
    let x := s.moved
    if x.bytes = 0 ∧ src < dst + n ∧ dst < src + n then .next (s.conclude 2 .badFormat 0 0 0)
    else if x.bytes = 0 ∧ !s.moverPath (f 28 1) src dst then .next (s.conclude 2 .refused 0 0 0)
    else if x.bytes ≠ 0 ∧ s.aborting 2 then .next (s.settleMove x n)
    else
      let k := moverStop dst x.bytes n
      let r := s.movePieces (engineMaster 2 run.queue) src dst bad x (lineCuts dst k (k / 8) x.bytes)
      .next (r.2.settleMove r.1 n)

/-- The pieces of a fill in order. -/
def State.fillPieces (s : State) (m : Master) (dst pattern : Nat) (x : Moved) : List (Nat × Nat) → Moved × State
  | [] => (x, s)
  | (ofs, n) :: l =>
    let w := s.moverWrite m (dst + ofs) ((List.replicate (n / 8) (leBytes 8 pattern)).flatten)
    if w.1 then w.2.fillPieces m dst pattern { x with bytes := x.bytes + n } l else ({ x with refused := true }, w.2)

/-- FILL: LEN bytes at DST filled with the repeated pattern, up to the next 4 KiB, and the command ended with the last (R220,
R228). -/
def execFill (s : State) : Host.Outcome State Fault Refusal :=
  match s.runningOp 2 .fill with
  | none => .next s
  | some run =>
    let f (lo n : Nat) : Nat := entryField run.cmd lo n
    let dst := f 8 8
    let x := s.moved
    if x.bytes = 0 ∧ !s.fillPath (f 20 1) dst then .next (s.conclude 2 .refused 0 0 0)
    else if x.bytes ≠ 0 ∧ s.aborting 2 then .next (s.settleMove x (f 16 4))
    else
      let k := moverStop dst x.bytes (f 16 4)
      let r := s.fillPieces (engineMaster 2 run.queue) dst (f 24 8) x (lineCuts dst k (k / 8) x.bytes)
      .next (r.2.settleMove r.1 (f 16 4))

/-! ### Census commands (R222, R223) -/

/-- The checks on a group's definition: its range of neurons, its queue and its window (R222, R240, R282). -/
def State.groupDefOk (s : State) (e : Entry) : Bool :=
  let f (lo n : Nat) : Nat := entryField e lo n
  let q := s.queue (f 20 2 % 32768)
  f 10 1 < 16 && f 11 1 < 64 && 1 ≤ f 14 2 && f 14 2 ≤ 16384 && f 12 2 + f 14 2 ≤ (s.tile (f 10 1) (f 11 1)).map.n &&
    1 ≤ f 22 2 && f 20 2 < 32768 && (q.kind == .data || q.kind == .completion) && q.qstate != .unbound &&
    (s.windowAt (f 16 4) .append).isSome

/-- GROUP_DEF: a group defined or replaced, recording from the next release on (R222). -/
def execGroupDef (s : State) : Host.Outcome State Fault Refusal :=
  match s.runningOp 4 .groupDef with
  | none => .next s
  | some run =>
    let f (lo n : Nat) : Nat := entryField run.cmd lo n
    if !s.groupDefOk run.cmd then .next (s.conclude 4 .badFormat 0 0 0)
    else
      let g : CensusGroup :=
        { rtype := f 9 1, clu := f 10 1, tile := f 11 1, nfirst := f 12 2, ncount := f 14 2, win := f 16 4, rqueue := f 20 2,
          period := f 22 2, queue := run.queue, fromStep := s.reg Reg.STEP_RELEASED + 1 }
      .next ({ s with census := Assoc.set (f 8 1) g s.census }.conclude 4 .ok 0 0 0)

/-- GROUP_CLEAR: a group ended; one not defined completes OK (R205, R209, R222). -/
def execGroupClear (s : State) : Host.Outcome State Fault Refusal :=
  match s.runningOp 4 .groupClear with
  | none => .next s
  | some run => .next ({ s with census := Assoc.erase (entryField run.cmd 8 1) s.census }.conclude 4 .ok 0 0 0)

/-- The TILESTAT payload: ACC_SPILL and DM_CONTRIB of every tile since load (R223). -/
def State.tilestatPayload (s : State) : List Byte :=
  (List.range 1024).flatMap fun k =>
    leBytes 4 (s.tile (k / 64) (k % 64)).accSpill ++ leBytes 4 (s.tile (k / 64) (k % 64)).dmContrib

/-- TILESTAT: a record of every tile stored at DST (R223). -/
def execTilestat (s : State) : Host.Outcome State Fault Refusal :=
  match s.runningOp 4 .tilestat with
  | none => .next s
  | some run =>
    let n := s.reg Reg.STEP_COMPLETE
    let head := leBytes 16 (packFields [(0, 16, 0xFFFF), (16, 8, 3), (24, 8, s.fabric.lastStatus.code), (32, 64, n), (96, 32, 8192)])
    .next ((s.setBytes (entryField run.cmd 8 4) (head ++ s.tilestatPayload)).bump Reg.CENSUS_RECORDS |>.conclude 4 .ok 0 8208 0)

end Sys2Proof.Machine
end

