-- ==== Sys2Proof/Machine/Crypto.lean ====
section
/-!
DEFINITION. The Crypto engine (R224, R428) and sealed envelopes (R432–R434). The functions of the standards that the spec
names are those of `Config`.
-/
namespace Sys2Proof.Machine
open Sys2Proof

/-! ### Keys by handle (R428) -/

/-- Exactly `n` bytes of a list, with zeros where it is short. -/
def fitBytes (n : Nat) (l : List Byte) : List Byte := (l ++ List.replicate n 0).take n

/-- The 48 bytes of a SHA-384 digest. -/
def sha384Bytes (l : List Byte) : List Byte := leBytes 48 (Config.sha384 l).toNat

/-- Whether a handle may be used from a queue by an opcode (R428). -/
def handleAllowed (q h : Nat) (o : Opcode) : Bool :=
  let gcm := o == .gcmSeal || o == .gcmOpen
  if isBridleQueue q then
    match h with
    | 0x0001 => gcm || o == .sha384
    | 0x0002 => gcm || o == .sha384
    | 0x0003 => o == .ecdsaSign
    | 0x0010 => o == .xtsKeyset
    | 0x0011 => o == .xtsKeyset
    | 0x0100 => gcm || o == .sha384
    | _ => false
  else 0x8000 ≤ h && h ≤ 0x803F && (gcm || o == .sha384) && !isFirmwareQueue q

/-- Whether R428 lists a handle. -/
def handleListed (h : Nat) : Bool := (1 ≤ h && h ≤ 4) || h == 0x10 || h == 0x11 || h == 0x100 || (0x8000 ≤ h && h ≤ 0x803F)

/-- Whether a handle stops an operation that uses no key of R428's list: one that the list holds and denies to the queue or the
operation. A number outside the list names no key of the device, so it stops neither a hash nor a verification under a public
key (DESIGN CHOICE: R224 and R428 name none for them). -/
def handleBarred (q h : Nat) (o : Opcode) : Bool := handleListed h && !handleAllowed q h o

/-- The key of a handle that a command may use; DUK is fused, every other key lies in the Tack Room, of which a wipe that runs
leaves none (R285, R428). -/
def State.keyFor (s : State) (q h : Nat) (o : Opcode) : Option Nat :=
  if !handleAllowed q h o ∨ s.wiping then none
  else if h = 1 then some Config.duk
  else Assoc.get? h s.security.keys

/-! ### The operations (R224) -/

/-- GCM_SEAL: the IV drawn from the TRNG, the ciphertext and the tag stored at DST (R224). -/
def execGcmSeal (s : State) : Host.Outcome State Fault Refusal :=
  match s.runningOp 5 .gcmSeal with
  | none => .next s
  | some run =>
    let f (lo n : Nat) : Nat := entryField run.cmd lo n
    match s.keyFor run.queue (f 8 2) .gcmSeal with
    | none => .next (s.conclude 5 .security 0 0 0)
    | some key =>
      let iv := s.fresh 96
      let r := Config.gcmSeal key iv.1 (s.bytes (f 12 4) (f 24 2)) (s.bytes (f 12 4 + f 24 2) (f 20 4))
      let data := leBytes 12 iv.1.toNat ++ fitBytes (f 20 4) r.1 ++ leBytes 16 r.2.toNat
      .next ((iv.2.setBytes (f 16 4) data).conclude 5 .ok 0 0 0)

/-- GCM_OPEN: the tag verified first; only where it holds is the plaintext stored (R224). -/
def execGcmOpen (s : State) : Host.Outcome State Fault Refusal :=
  match s.runningOp 5 .gcmOpen with
  | none => .next s
  | some run =>
    let f (lo n : Nat) : Nat := entryField run.cmd lo n
    match s.keyFor run.queue (f 8 2) .gcmOpen with
    | none => .next (s.conclude 5 .security 0 0 0)
    | some key =>
      let aad := f 24 2
      let body := f 12 4 + aad
      let iv := BitVec.ofNat 96 (s.word body 12)
      let tag := BitVec.ofNat 128 (s.word (body + 12 + f 20 4) 16)
      match Config.gcmOpen key iv (s.bytes (f 12 4) aad) (s.bytes (body + 12) (f 20 4)) tag with
      | none => .next (s.conclude 5 .security 0 0 0)
      | some p => .next ((s.setBytes (f 16 4) (fitBytes (f 20 4) p)).conclude 5 .ok 0 0 0)

/-- SHA384: the digest of LEN bytes at SRC stored at DST; a handle that the queue may not use stops it (R224, R428). -/
def execSha384 (s : State) : Host.Outcome State Fault Refusal :=
  match s.runningOp 5 .sha384 with
  | none => .next s
  | some run =>
    let f (lo n : Nat) : Nat := entryField run.cmd lo n
    if handleBarred run.queue (f 8 2) .sha384 then .next (s.conclude 5 .security 0 0 0)
    else .next ((s.setBytes (f 16 4) (sha384Bytes (s.bytes (f 12 4) (f 20 4)))).conclude 5 .ok 0 0 0)

/-- ECDSA_SIGN: r and s of the digest at SRC stored at DST (R224). -/
def execEcdsaSign (s : State) : Host.Outcome State Fault Refusal :=
  match s.runningOp 5 .ecdsaSign with
  | none => .next s
  | some run =>
    let f (lo n : Nat) : Nat := entryField run.cmd lo n
    match s.keyFor run.queue (f 8 2) .ecdsaSign with
    | none => .next (s.conclude 5 .security 0 0 0)
    | some key =>
      let k := s.fresh 384
      let sig := fitBytes 96 (Config.ecdsaSign key k.1.toNat (s.bytes (f 12 4) 48))
      .next ((k.2.setBytes (f 16 4) sig).conclude 5 .ok 0 0 0)

/-- ECDSA_VERIFY: the digest at SRC against the signature at SRC + 48: OK or SECURITY (R224). -/
def execEcdsaVerify (s : State) : Host.Outcome State Fault Refusal :=
  match s.runningOp 5 .ecdsaVerify with
  | none => .next s
  | some run =>
    let src := entryField run.cmd 12 4
    let ok := Config.ecdsaVerify (Config.verifyKey (entryField run.cmd 8 2)) (s.bytes src 48) (s.bytes (src + 48) 96)
    let barred := handleBarred run.queue (entryField run.cmd 8 2) .ecdsaVerify
    .next (s.conclude 5 (if ok && !barred then .ok else .security) 0 0 0)

/-- What a context of the LPDDR5X controller covers becomes unintelligible at a key other than the one it held. A context that
held none has nothing written through it, unless a key has been wiped since (R293). -/
def State.rekeyed (s : State) (held : Option Nat) (key lo hi : Nat) : State :=
  match held with
  | some k => if k = key then s else s.scramble lo hi
  | none => if linesIn lo hi s.mem = [] then s else s.scramble lo hi

/-- A key installed in a context of the LPDDR5X controller: what was written under another key reads as unintelligible data
(R293). -/
def State.installXts (s : State) (owner : Bool) (key : Nat) : State :=
  if owner then
    let s1 := s.rekeyed s.security.xtsOwner key ddrBase s.fwRegion
    { s1 with security := { s1.security with xtsOwner := some key } }
  else
    let s1 := s.rekeyed s.security.xtsDevice key s.fwRegion (ddrBase + s.variant.usable)
    { s1 with security := { s1.security with xtsDevice := some key } }

/-- XTS_KEYSET: KEY installed as the DEVICE or OWNER key (R224, R293, R428). -/
def execXtsKeyset (s : State) : Host.Outcome State Fault Refusal :=
  match s.runningOp 5 .xtsKeyset with
  | none => .next s
  | some run =>
    let h := entryField run.cmd 8 2
    match s.keyFor run.queue h .xtsKeyset with
    | none => .next (s.conclude 5 .security 0 0 0)
    | some key => .next ((s.installXts (h = 0x11) key).conclude 5 .ok 0 0 0)

/-! ### Envelopes (R432, R433) -/

/-- An envelope as it lies in memory from an address: fields of its 256-byte header (R432). -/
def State.envField (s : State) (img lo n : Nat) : Nat := s.word (img + lo) n

/-- Bytes of plaintext in a chunk. -/
def chunkBytes : Nat := 1048576

/-- Chunks of an envelope, and the envelope's length in bytes (R432). -/
def envChunks (clen : Nat) : Nat := ceilDiv clen chunkBytes
def envLength (clen : Nat) : Nat := 256 + clen + 16 * envChunks clen

/-- The modes of an envelope (R432). -/
inductive EnvMode where
  | device | owner | deviceLocal
  deriving DecidableEq, Repr

def EnvMode.ofCode (n : Nat) : Option EnvMode :=
  match n with
  | 1 => some .device | 2 => some .owner | 3 => some .deviceLocal
  | _ => none

/-- The modes accepted for a harness (R434). -/
def State.harnessMode (s : State) (m : EnvMode) : Bool :=
  match m, s.reg Reg.LC_STATE with
  | .device, 1 => true
  | .device, 3 => true
  | .owner, 3 => true
  | _, _ => false

/-- The key that wraps the CEK, or the OSK of an owner operation, in DEVICE mode (R432). -/
def deviceKek (exk : Nat) (keyid eph : List Byte) : Nat :=
  leNat ((sha384Bytes (Config.ecdh exk eph ++ keyid ++ [0x46, 0x4C, 0x53, 0x45, 0x41, 0x4C, 0x31])).take 32)

/-- The KEYID and the KEK of a mode on this device; none where the device holds no such key (R432). -/
def State.envKey (s : State) (m : EnvMode) (eph : List Byte) : Option (List Byte × Nat) :=
  match m with
  | .device => (Assoc.get? 4 s.security.keys).map fun x =>
      let id := (sha384Bytes (Config.publicKey x)).take 16
      (id, deviceKek x id eph)
  | .owner => (Assoc.get? 2 s.security.keys).map fun x => (leBytes 16 (s.reg Reg.OWNER_ID), x)
  | .deviceLocal => some (List.replicate 16 0, Config.duk)

/-- What the opening of an envelope came to: its status, the failing check of R433 with its chunk, the measurement and, for a
one-chunk envelope, the plaintext. -/
structure Opened where
  status : Status
  check : Nat := 0
  chunk : Nat := 0
  meas : Nat := 0
  plain : List Byte := []
  deriving DecidableEq, Repr

/-- The CEK of an envelope, or the first failing check of steps 1 to 3 of R433. -/
def State.envCek (s : State) (img len : Nat) (accept : EnvMode → Bool) : Opened × Nat :=
  let f := s.envField img
  let range := s.reg Reg.HFV_RANGE
  let zero (lo n : Nat) : Bool := f lo n == 0
  match EnvMode.ofCode (f 6 1) with
  | none => (if f 0 4 = 0x53484C46 then { status := .security, check := 2 } else { status := .badFormat, check := 1 }, 0)
  | some m =>
    if f 0 4 = 0x53484C46 then ({ status := .security, check := 2 }, 0)
    else if f 0 4 ≠ 0x45534C46 ∨ !zero 7 1 ∨ !zero 140 4 ∨ !zero 204 52 ∨ (m ≠ .device ∧ !zero 32 96) ∨ f 8 8 = 0 ∨
        len < envLength (f 8 8) then ({ status := .badFormat, check := 1 }, 0)
    else if f 4 2 < range % 256 ∨ range / 256 < f 4 2 then ({ status := .version, check := 1 }, 0)
    else if !accept m then ({ status := .security, check := 2 }, 0)
    else match s.envKey m (s.bytes (img + 32) 96) with
      | none => ({ status := .security, check := 2 }, 0)
      | some (id, kek) =>
        if s.bytes (img + 16) 16 ≠ id then ({ status := .security, check := 2 }, 0)
        else match Config.gcmOpen kek (BitVec.ofNat 96 (f 128 12)) (s.bytes img 128) (s.bytes (img + 144) 32)
            (BitVec.ofNat 128 (f 176 16)) with
          | none => ({ status := .security, check := 3 }, 0)
          | some cek => ({ status := .ok }, leNat (fitBytes 32 cek))

/-- Chunk `i` of an envelope opened under its CEK (R432). -/
def State.envChunk (s : State) (img clen i cek : Nat) : Option (List Byte) :=
  let n := min chunkBytes (clen - i * chunkBytes)
  let a := img + 256 + i * (chunkBytes + 16)
  let iv := BitVec.ofNat 96 (s.word (img + 192) 8 + 2 ^ 64 * i)
  (Config.gcmOpen cek iv (s.bytes img 192) (s.bytes a n) (BitVec.ofNat 128 (s.word (a + n) 16))).map (fitBytes n)

/-- The chunks from `i` on opened and their digests taken; the plaintexts are listed last first (R433 step 4). A failing tag
stops it with the chunk. -/
def State.envOpen (s : State) (img clen cek i : Nat) (digests : List Byte) (plain : List (List Byte)) :
    Nat → Option Nat × List Byte × List (List Byte)
  | 0 => (none, digests, plain)
  | n + 1 => match s.envChunk img clen i cek with
    | none => (some i, digests, plain)
    | some p => s.envOpen img clen cek (i + 1) (digests ++ sha384Bytes p) (p :: plain) n

/-- A failed open: counted and recorded; the region at IMG is undefined then (R433). -/
def State.sealFail (s : State) (o : Opened) : State :=
  (s.bump Reg.SEAL_FAIL).logFault
    { cls := .security, status := o.status, sev := some .info, unit := o.check, ref := o.chunk }

/-- OPEN_HARNESS: an envelope opened in place (R433). Its header and chunks are read before any plaintext is stored, which never
reaches ciphertext not yet read. -/
def State.openEnvelope (s : State) (img len : Nat) (accept : EnvMode → Bool) : Opened × State :=
  let c := s.envCek img len accept
  let clen := s.envField img 8 8
  let clean (s : State) : State := { s with mem := Memory.erase s.mem (14 * 0x200000) 0x200000 }
  if c.1.status ≠ .ok then (c.1, clean ((s.sealFail c.1).scramble img (img + len)))
  else
    let r := s.envOpen img clen c.2 0 [] [] (envChunks clen)
    match r.1 with
    | some i =>
      let o : Opened := { status := .security, check := 4, chunk := i }
      (o, clean ((s.sealFail o).scramble img (img + len)))
    | none =>
      ({ status := .ok, meas := (Config.sha384 r.2.1).toNat }, clean (s.setBytes img r.2.2.reverse.flatten))

/-- A one-chunk envelope that holds a 32-byte key opened without storing its plaintext (R427 service 4). -/
def State.openKey (s : State) (img len : Nat) (accept : EnvMode → Bool) : Opened :=
  let c := s.envCek img len accept
  let clen := s.envField img 8 8
  if c.1.status ≠ .ok then c.1
  else if clen ≠ 32 then { status := .badFormat, check := 1 }
  else match s.envChunk img clen 0 c.2 with
    | none => { status := .security, check := 4 }
    | some p => { status := .ok, plain := p }

end Sys2Proof.Machine
end

