-- ==== Sys2Proof/Machine/ImageBytes.lean ====
section
/-!
DEFINITION. A harness image as its plaintext in LPDDR5X spells it: the header, the section table and the sections by TYPE
(R232). The spec gives the header, the table, the records of TYPE 0x09, 0x0B, 0x0C and 0x0D, and the entries of the tables that
the other TYPEs hold; how a class table, a tile SRAM image, a far row directory part, multicast tables and a Commons preload
lie in their sections it leaves open, and the model settles it here (DESIGN CHOICE, log entry 105).
-/
namespace Sys2Proof.Machine
open Sys2Proof

/-- A tile SRAM image: the number of neurons, near rows, destinations and events per slot, the offset of each region, the
initial words of its neurons and the bytes of its tables by offset (R29, R30, R56). -/
structure TileImage where
  n : Nat
  nearRows : Nat
  dests : Nat
  e : Nat
  neuronBase : Nat
  axonBase : Nat
  destBase : Nat
  dirBase : Nat
  rowBase : Nat
  rowBytes : Nat
  ringBase : Nat
  initial : List (Nat × Nat)
  tables : List (Nat × List Byte)
  deriving DecidableEq, Repr

/-- What a section of a harness image holds, by TYPE (R232): class entries as the values of their sub-indices 01 to 14; a part
of a tile's far row directory; multicast groups and members, routes, slots and plastic groups from number 0; parameters as
index, sub-index and value; a Commons address with its bytes; code and data of a sequencer; queue and Hitch records. -/
inductive SectionBody where
  | classTable (entries : List (Nat × List Nat))
  | tileImage (t : TileImage)
  | farRows (data : List Byte)
  | farDirectory (part : Nat) (entries : List Nat)
  | multicast (groups members : List Nat)
  | routes (entries : List Nat)
  | slotTables (slots : List Nat)
  | plasticGroups (groups : List Nat)
  | parameters (records : List (Nat × Nat × Nat))
  | preload (addr : Nat) (data : List Byte)
  | sequencer (code data : List Byte)
  | queues (records : List (BitVec 256))
  | hitches (records : List (BitVec 64))
  | reserved (type : Nat)
  deriving DecidableEq, Repr

/-- An entry of a section table with its section (R232); `spare` holds its reserved bytes. -/
structure ImageSection where
  dev : Nat
  seg : Nat
  clu : Nat
  tile : Nat
  spare : Nat
  offset : Nat
  place : Nat
  body : SectionBody
  deriving DecidableEq, Repr

/-- A harness image (R232); `spare` holds the reserved bytes of the header. -/
structure HarnessImage where
  magic : Nat
  hfv : Nat
  spare : Nat
  sections : List ImageSection
  deriving DecidableEq, Repr

/-! ### Reading bytes -/

/-- Little-endian words of `w` bytes each. -/
def bytesWords (w : Nat) : (fuel : Nat) → List Byte → List Nat
  | 0, _ => []
  | n + 1, l => if l = [] then [] else leNat (l.take w) :: bytesWords w n (l.drop w)

/-- All the words of `w` bytes that a list holds; a part of a word at the end is none. -/
def allWords (w : Nat) (l : List Byte) : List Nat := bytesWords w (l.length / w) l

/-- A little-endian field of a list of bytes. -/
def bytesField (l : List Byte) (lo n : Nat) : Nat := leNat ((l.drop lo).take n)

/-! ### Sections by TYPE (R232) -/

/-- Bytes of the sub-indices 01 to 14 of a class entry (R32). -/
def classWidths : List Nat := [4, 4, 4, 1, 128, 1, 1, 4, 4, 4, 4, 2, 2, 2, 4, 1, 2, 1, 1, 4]

/-- Consecutive values of the widths given. -/
def readFields : List Nat → List Byte → List Nat
  | [], _ => []
  | w :: ws, l => leNat (l.take w) :: readFields ws (l.drop w)

/-- TYPE 0x01: entries of one byte that names the class and the values of its sub-indices in order (DESIGN CHOICE). -/
def readClasses : (fuel : Nat) → List Byte → List (Nat × List Nat)
  | 0, _ => []
  | n + 1, l =>
    if l.length < 1 + classWidths.foldl (· + ·) 0 then []
    else (bytesField l 0 1, readFields classWidths (l.drop 1)) ::
      readClasses n (l.drop (1 + classWidths.foldl (· + ·) 0))

/-- Blocks of a tile's tables: U32 offset, U32 length, the bytes (DESIGN CHOICE). -/
def readBlocks : (fuel : Nat) → List Byte → List (Nat × List Byte)
  | 0, _ => []
  | n + 1, l =>
    if l.length < 8 then []
    else (bytesField l 0 4, (l.drop 8).take (bytesField l 4 4)) :: readBlocks n (l.drop (8 + bytesField l 4 4))

/-- TYPE 0x02: twelve U32 values (N, NR, D, E, the bases of the neuron store, axon index, destination list, row directory and
near rows, the bytes of the near rows, the base of the delay ring, the number of initial words), the initial words as U32
neuron and U64 word, then the tables as blocks (DESIGN CHOICE). -/
def readTile (l : List Byte) : TileImage :=
  let f (k : Nat) : Nat := bytesField l (4 * k) 4
  let words := ((l.drop 48).take (12 * f 11))
  { n := f 0, nearRows := f 1, dests := f 2, e := f 3, neuronBase := f 4, axonBase := f 5, destBase := f 6, dirBase := f 7,
    rowBase := f 8, rowBytes := f 9, ringBase := f 10,
    initial := (allWords 12 words).map fun v => (bitField v 0 32, bitField v 32 64),
    tables := readBlocks l.length (l.drop (48 + 12 * f 11)) }

/-- TYPE 0x09: records of U16 index, U8 sub-index, U8 length and value, each padded to 4 bytes (R232). -/
def readParams : (fuel : Nat) → List Byte → List (Nat × Nat × Nat)
  | 0, _ => []
  | n + 1, l =>
    if l.length < 4 then []
    else
      let len := bytesField l 3 1
      (bytesField l 0 2, bytesField l 2 1, bytesField l 4 len) :: readParams n (l.drop (4 + roundUp len 4))

/-- A section's bytes by its TYPE (R232). A directory part (0x04) and a Commons preload (0x0A) open with a U32 that names the
part or the address, multicast tables (0x05) with the numbers of groups and of members, all from number 0 (DESIGN CHOICE); a
section that ends early holds less. -/
def readBody (type : Nat) (l : List Byte) : SectionBody :=
  match type with
  | 1 => .classTable (readClasses l.length l)
  | 2 => .tileImage (readTile l)
  | 3 => .farRows l
  | 4 => .farDirectory (bytesField l 0 4 % 4) (allWords 8 (l.drop 4))
  | 5 =>
    let g := min (bytesField l 0 4) 4096
    .multicast (allWords 4 ((l.drop 8).take (4 * g))) (allWords 8 (((l.drop (8 + 4 * g))).take (8 * min (bytesField l 4 4) 16384)))
  | 6 => .routes ((allWords 4 l).take 64)
  | 7 => .slotTables ((allWords 2 l).take 1792)
  | 8 => .plasticGroups ((allWords 32 l).take 256)
  | 9 => .parameters (readParams l.length l)
  | 10 => .preload (bytesField l 0 4) (l.drop 4)
  | 11 => .sequencer ((l.drop 8).take (bytesField l 0 4)) ((l.drop (8 + bytesField l 0 4)).take (bytesField l 4 4))
  | 12 => .queues ((allWords 32 l).map (BitVec.ofNat 256))
  | 13 => .hitches ((allWords 8 l).map (BitVec.ofNat 64))
  | k => .reserved k

/-! ### The header and the section table (R232) -/

/-- The section that entry `i` of the table at `img` names. CLU and TILE beyond 15 and 63 count by their low bits (DESIGN
CHOICE). -/
def State.readSection (s : State) (img i : Nat) : ImageSection :=
  let a := img + 64 + 32 * i
  let f (lo n : Nat) : Nat := s.word (a + lo) n
  { dev := f 2 1, seg := f 3 1, clu := f 4 1 % 16, tile := f 5 1 % 64, spare := f 6 2, offset := f 8 8, place := f 24 8,
    body := readBody (f 0 2) (s.bytes (img + f 8 8) (f 16 8)) }

/-- The harness image whose plaintext lies at `img` (R232). LEN of its header is judged by no rule. -/
def State.readImage (s : State) (img : Nat) : HarnessImage :=
  { magic := s.word img 4, hfv := s.word (img + 4) 2, spare := s.word (img + 16) 48,
    sections := (List.range (s.word (img + 6) 2)).map (s.readSection img) }

/-- The sections for this device: DEV 0xFF or its own number (R232). -/
def State.ownSections (s : State) (x : HarnessImage) : List ImageSection :=
  x.sections.filter fun y => y.dev = 0xFF ∨ y.dev = s.reg Reg.DEV_NUM

/-- The resident sections (segment 0) or those of a segment, as the image copy spells them now (R216, R232). -/
def State.copySections (s : State) (seg : Nat) : List ImageSection :=
  (s.ownSections (s.readImage s.harness.img)).filter fun y => y.seg = seg

/-- Where each cluster's spill area lies: PLACE of a parameter section that names the cluster, where it is not 0 (DESIGN
CHOICE: R83 and R232 give the area no record). -/
def spillAreas (l : List ImageSection) : Assoc Nat :=
  l.foldl (fun a x => match x.body with
    | .parameters _ => if x.place = 0 then a else Assoc.set x.clu x.place a
    | _ => a) []

end Sys2Proof.Machine
end

