-- ==== Sys2Proof/Machine/Image.lean ====
section
/-!
DEFINITION. A harness image placed on the device: its sections by TYPE (R232), what a load clears, and the records that bind
queues and Hitches (R257, R270).
-/
namespace Sys2Proof.Machine
open Sys2Proof

/-! ### Class entries (R32, R34) -/

/-- The class entry that the staging copy of class `k` spells (R32). -/
def State.stagedClass (s : State) (k : Nat) : ClassEntry :=
  { theta := signedOf 32 (s.reg (Reg.THETA k)), rest := signedOf 32 (s.reg (Reg.REST k)),
    floor := signedOf 32 (s.reg (Reg.FLOOR k)), resetMode := s.reg (Reg.RESET_MODE k),
    decay := (List.range 64).map fun i => bitField (s.reg (Reg.DECAY k)) (16 * i) 16, beyond := s.reg (Reg.BEYOND k),
    refract := s.reg (Reg.REFRACT k),
    scale := [s.reg (Reg.SCALE0 k), s.reg (Reg.SCALE1 k), s.reg (Reg.SCALE2 k), s.reg (Reg.SCALE3 k)],
    tauPre := s.reg (Reg.TAU_PRE k), tauPost := s.reg (Reg.TAU_POST k), traceInc := s.reg (Reg.TRACE_INC k),
    bias := signedOf 32 (s.reg (Reg.BIAS k)), outMode := s.reg (Reg.OUT_MODE k), spikeTag := s.reg (Reg.SPIKE_TAG k),
    multi := s.reg (Reg.MULTI k), precise := s.reg (Reg.PRECISE k) == 1, pfMargin := signedOf 32 (s.reg (Reg.PF_MARGIN k)) }

/-- Values put into an object's consecutive sub-indices. -/
def State.setSubs (s : State) (index : Nat) : (sub : Nat) → List Nat → State
  | _, [] => s
  | sub, v :: l =>
    ((match Reg.find index sub with
      | some o => s.setReg o (v % 2 ^ (8 * o.ty.bytes))
      | none => s) : State).setSubs index (sub + 1) l

/-- A class entry of the image, active from the start (R34, R232). -/
def State.placeClass (s : State) (x : Nat × List Nat) : State :=
  let s1 := s.setSubs (0x3100 + x.1) 1 (x.2.take 20)
  { s1 with classes := Assoc.set x.1 [(0, s1.stagedClass x.1)] s1.classes }

/-! ### Tiles (R29, R30, R56, R57) -/

/-- The map of a tile image whose copy lies at `place`. -/
def tileMapOf (x : TileImage) (place : Nat) : TileMap :=
  { n := x.n, neuronBase := x.neuronBase, axonBase := x.axonBase, destBase := x.destBase, dests := x.dests,
    dirBase := x.dirBase, nearRows := x.nearRows, rowBase := x.rowBase, rowBytes := x.rowBytes, ringBase := x.ringBase,
    e := x.e, farBase := [0, 0, 0, 0], farCount := [0, 0, 0, 0], imageAt := place }

/-- A map with the far directory of an earlier one, where that has any. -/
def TileMap.keepFar (m old : TileMap) : TileMap :=
  if old.farBase = [] then m else { m with farBase := old.farBase, farCount := old.farCount }

/-- The neurons of a tile whose class has a BIAS: its tonic list (R42). -/
def State.tonicList (s : State) (c t n step : Nat) : List Nat :=
  (List.range n).filter fun i => (s.classAt (s.neuron c t i).cls step).bias ≠ 0

/-- A tile image placed, its stamps at `step`, with the copy that the device keeps at `place` (R29, R57). -/
def State.placeTile (s : State) (c t : Nat) (x : TileImage) (place step : Nat) : State :=
  let old := s.tile c t
  let m := (tileMapOf x place).keepFar old.map
  let s1 := s.setTile c t { old with map := m }
  let others := s1.initial.filter fun e => e.1 / 16384 ≠ tileKey c t
  let words := x.initial.foldl (fun l w =>
    if w.1 < x.n then Assoc.set (16384 * tileKey c t + w.1) w.2 l else l) others
  let s2 : State := { s1 with initial := words }
  let fenced := s.isFenced c t
  let word (i : Nat) : Neuron := let w := s2.initialWord c t i
    { w with tl := step % 4096, dead := w.dead || fenced }
  let s3 := (List.range x.n).foldl (fun s i =>
    (s.setNeuron c t i (word i)).setWord (place + x.neuronBase + 8 * i) 8 (word i).toWord) s2
  let s4 := x.tables.foldl (fun (s : State) d =>
    (s.setBytes (sramAddr c t d.1) d.2).setBytes (place + d.1) d.2) s3
  let y := s4.tile c t
  s4.setTile c t { y with map := { y.map with tonic := s4.tonicList c t x.n step }, fenced := fenced }

/-- A part of a tile's far row directory placed (R144). -/
def State.placeFarDirectory (s : State) (c t part : Nat) (l : List Nat) (place : Nat) : State :=
  let x := s.tile c t
  let y := ({ x.map with farBase := [0, 0, 0, 0], farCount := [0, 0, 0, 0] } : TileMap).keepFar x.map
  let m : TileMap := { y with farBase := y.farBase.set part place, farCount := y.farCount.set part l.length }
  (s.setTile c t { x with map := m }).setBytes place (l.flatMap (leBytes 8))

/-! ### Queues and Hitches (R257, R270) -/

/-- A queue record of the image (R257). -/
def queueRecord (r : BitVec 256) : Nat × Queue :=
  let f (lo n : Nat) : Nat := entryField r lo n
  (bitField (f 0 2) 0 15,
   { kind := (QKind.ofCode (f 2 1)).getD .command, log2n := f 3 1, base := f 4 4,
     eng := if f 2 1 = 0 then f 8 1 else 0xF, link := f 12 2, prod := f 9 1, cons := f 10 1, tmoUs := f 16 4,
     ntfyEn := natBit (f 20 2) 15, ntfyHitch := bitField (f 20 2) 0 14, wm := f 24 4, qstate := .enabled })

/-- Bytes of a ring, with the key ring of a COMBINING queue (R241). -/
def ringBytes (kind log2n : Nat) : Nat := (if kind = 5 then 36 else 32) * 2 ^ log2n

/-- A PROD or CONS code of R243. -/
def masterOk (x : Nat) : Bool := x ≤ 0x13

/-- What a queue record breaks by itself (R240–R243, R257); LINK and overlaps are judged beside the others. -/
def queueRecordBad (r : BitVec 256) : Bool :=
  let f (lo n : Nat) : Nat := entryField r lo n
  let q := bitField (f 0 2) 0 15
  let kind := f 2 1
  q = 0 || 32511 < q || natBit (f 0 2) 15 || 5 < kind || f 3 1 < 4 || 16 < f 3 1 || f 4 4 % (32 * 2 ^ f 3 1) != 0 ||
    commonsSize < f 4 4 + ringBytes kind (f 3 1) || f 4 4 / 0x200000 != (f 4 4 + ringBytes kind (f 3 1) - 1) / 0x200000 ||
    (if kind = 0 then 9 < f 8 1 else f 8 1 != 0xFF || f 12 2 != 0x7FFF) || !masterOk (f 9 1) || !masterOk (f 10 1) ||
    f 11 1 != 0 || f 14 2 != 0 || 1000000 < f 16 4 || natBit (f 20 2) 14 || f 22 2 != 0 || 2 ^ f 3 1 < f 24 4 || f 28 4 != 0

/-- The queue number and Hitch number of a record. -/
def recordQueue (r : BitVec 256) : Nat := bitField (entryField r 0 2) 0 15
def recordHitch (r : BitVec 64) : Nat := bitField r.toNat 0 14

/-- A Hitch record set (R260, R270): COUNT at the home alone. -/
def State.placeHitch (s : State) (r : BitVec 64) : State :=
  let v := r.toNat
  let dev := bitField v 26 6
  let count := bitField v 32 32
  let scope : HScope := match bitField v 24 2 with
    | 0 => .cluster | 1 => .die | _ => .system
  let home := dev == s.reg Reg.DEV_NUM
  s.setHitch (recordHitch r)
    { count := if home then count else 0, homeDev := some dev, homeNode := bitField v 16 5, scope := scope,
      snapCount := if home then count else 0 }

/-! ### Parameters (R114, R201, R232) -/

/-- Objects that a harness image may set: parameters marked "from harness", other writable ones of the fabric, and those of
windows, bank owners, Hitches and Intake ports (DESIGN CHOICE: the spec lists none). -/
def harnessMaySet (o : Obj) : Bool :=
  let i := o.index
  let rw := o.acc == .rw || o.acc == .rwp
  (i == 0x3000 && o.sub ≤ 9) || (i == 0x3200 && (o.sub == 6 || o.sub == 7 || rw)) || (i == 0x3500 && (o.sub == 0xF || rw)) ||
    (rw && ((i == 0x3300 && 8 ≤ o.sub) || (i == 0x3400 && o.sub ≤ 9) || i == 0x2410 || (i == 0x2430 && o.sub == 4) ||
      (0x2440 ≤ i && i ≤ 0x244F) || (0x2710 ≤ i && i ≤ 0x2715)))

/-- Whether a value of an object that only the harness sets is in range (R83, R114, R80, R170). -/
def State.harnessRange (s : State) (o : Obj) (v : Nat) : Bool :=
  match o.index, o.sub with
  | 0x3000, 1 => v ≤ 2
  | 0x3000, 2 => 50000 ≤ v && v ≤ 1000000000
  | 0x3000, 3 => v ≤ 1000000000
  | 0x3000, 4 => v ≤ 2
  | 0x3000, 5 => v ≤ 7
  | 0x3200, 6 => v % 16 == 0 && 16 ≤ v && v ≤ 512
  | 0x3200, 7 => v % 0x10000 == 0 && 0x10000 ≤ v && v ≤ 0x10000000
  | 0x3500, 0xF => v ≤ 15 || v == 0xFF
  | _, _ => s.rangeOk o v

/-- A parameter record applied: a window descriptor, or an object's value. -/
def State.placeParam (s : State) (p : Nat × Nat × Nat) : State :=
  if 0x2440 ≤ p.1 ∧ p.1 ≤ 0x244F then
    match windowOf (p.1 - 0x2440) p.2.2 with
    | some w => s.setWindow (p.1 - 0x2440) (p.2.1 - 1) w
    | none => s
  else match Reg.find p.1 p.2.1 with
    | some o => s.setReg o p.2.2
    | none => s

/-- Why a parameter record is turned away: an object no harness sets or a value out of its range. THR1 to THR3 are judged
together, once all are placed (R141). -/
def State.paramBad (s : State) (p : Nat × Nat × Nat) : Bool :=
  match Reg.find p.1 p.2.1 with
  | none => true
  | some o => !harnessMaySet o || (!(0x2440 ≤ p.1 && p.1 ≤ 0x244F) && !(p.1 == 0x3300 && 0xA ≤ p.2.1) &&
      !s.harnessRange o p.2.2)

/-- THR1 < THR2 < THR3 ≤ 128 (R141). -/
def State.thrOk (s : State) : Bool :=
  decide (s.reg Reg.THR1 < s.reg Reg.THR2 ∧ s.reg Reg.THR2 < s.reg Reg.THR3 ∧ s.reg Reg.THR3 ≤ 128)

/-! ### Sections (R232) -/

/-- The TYPE of a section (R232). -/
def bodyType : SectionBody → Nat
  | .classTable _ => 1 | .tileImage _ => 2 | .farRows _ => 3 | .farDirectory .. => 4 | .multicast .. => 5 | .routes _ => 6
  | .slotTables _ => 7 | .plasticGroups _ => 8 | .parameters _ => 9 | .preload .. => 10 | .sequencer .. => 11
  | .queues _ => 12 | .hitches _ => 13 | .reserved k => k

/-- The bytes that a section takes at its PLACE. -/
def placedBytes (x : ImageSection) : Nat :=
  match x.body with
  | .tileImage _ => 0x60000
  | .farRows d => d.length
  | .farDirectory _ l => 8 * l.length
  | _ => 0

/-- The entries of a table put at numbers from `k` on. -/
def Assoc.putFrom (k : Nat) : List Nat → Assoc Nat → Assoc Nat
  | [], t => t
  | v :: l, t => Assoc.putFrom (k + 1) l (Assoc.set k v t)

/-- A section placed; `img` is where the plaintext lies and `step` the step that stamps take (R232, R233). -/
def State.placeSection (s : State) (img step : Nat) (x : ImageSection) : State :=
  let c := x.clu
  match x.body with
  | .classTable l =>
    let s1 := l.foldl State.placeClass s
    if step = 0 then { s1 with harness := { s1.harness with rest0 := (s1.classAt 0 0).rest } } else s1
  | .tileImage t => s.placeTile c x.tile t x.place step
  | .farRows d =>
    let keep : Nat × Nat × Nat := (x.place, d.length, img + x.offset)
    (s.setBytes x.place d).modLearning fun l =>
      { l with farCopies := if l.farCopies.contains keep then l.farCopies else l.farCopies ++ [keep] }
  | .farDirectory p l => s.placeFarDirectory c x.tile p l x.place
  | .multicast g m =>
    let gs := Assoc.putFrom (4096 * c) g
    let ms := Assoc.putFrom (16384 * c) m
    { s with groups0 := gs s.groups0, groups1 := gs s.groups1, members0 := ms s.members0, members1 := ms s.members1 }
  | .routes l => { s with route0 := Assoc.putFrom 0 l s.route0, route1 := Assoc.putFrom 0 l s.route1 }
  | .slotTables l =>
    { s with slots0 := Assoc.putFrom (1792 * c) l s.slots0, slots1 := Assoc.putFrom (1792 * c) l s.slots1 }
  | .plasticGroups l =>
    s.modLearning fun y => { y with groups := Assoc.putFrom 0 l y.groups, groupsCaptured := Assoc.putFrom 0 l y.groupsCaptured }
  | .parameters l => l.foldl State.placeParam s
  | .preload a d => s.setBytes a d
  | .sequencer code data =>
    { s with harness := { s.harness with seqCode := Assoc.set c (code.take 65536) s.harness.seqCode,
                                         seqData := Assoc.set c (data.take 65536) s.harness.seqData } }
  | .queues l => l.foldl (fun s r => s.setQueue (queueRecord r).1 (queueRecord r).2) s
  | .hitches l => l.foldl State.placeHitch s
  | .reserved _ => s

/-- Class tables first, then parameters and tile images, then the rest, so that each section finds what it refers to. -/
def placeOrder (l : List ImageSection) : List ImageSection :=
  let is (n : Nat) (x : ImageSection) : Bool := bodyType x.body == n
  l.filter (is 1) ++ l.filter (is 9) ++ l.filter (is 2) ++ l.filter fun x => !is 1 x && !is 9 x && !is 2 x

/-- Sections placed in that order. -/
def State.placeSections (s : State) (img step : Nat) (l : List ImageSection) : State :=
  (placeOrder l).foldl (fun s x => s.placeSection img step x) s

/-! ### What a load clears (R88–R93, R143, R168, R202, R233, R239, R272, R326) -/

/-- Counters that a harness load clears. -/
def clearedAtLoad (k : Nat) : Bool :=
  let i := k / 256
  (0x6020 ≤ i && i ≤ 0x60DF) || i == 0x60F0 || i == 0x6110 || (0x6140 ≤ i && i ≤ 0x6145)

/-- Objects that hold the harness's own values: class entries, parameters marked "from harness", and states of what the
harness runs (R32, R87, R114, R201). -/
def harnessOwned (k : Nat) : Bool :=
  let i := k / 256
  let sub := k % 256
  (0x3100 ≤ i && i ≤ 0x31FF) || (i == 0x3000 && (sub ≤ 5 || 0xA ≤ sub) && sub != 0xE) || (i == 0x3200 && 6 ≤ sub && sub != 8) ||
    (i == 0x3300 && (sub == 1 || sub == 2 || sub == 7)) || (i == 0x3400 && (sub == 0xB || sub == 0xE)) ||
    (i == 0x3500 && (sub ≤ 4 || sub == 0xF || sub == 0x10)) || i == 0x3600

/-- Learning with nothing of a harness: the journal, the Stable and their wear stay (R191–R197). -/
def Learning.cleared (l : Learning) : Learning :=
  { staged := l.staged, drained := l.drained, genStarts := l.genStarts, drainGen := l.drainGen, drainPos := l.drainPos,
    drainedAt := l.drainedAt, consolAt := l.consolAt, superB := l.superB, superSeq := l.superSeq, wear := l.wear,
    remap := l.remap, remapWant := l.remapWant, degraded := l.degraded, flushMark := l.flushMark }

/-- The structures that a tile keeps in its SRAM left there as bytes: the touched bitmaps, the tonic list and the parked events,
for tile SRAM is not cleared when a harness goes (R234, R296). -/
def State.keepSram (s : State) : State :=
  s.tiles.foldl (fun (u : State) x =>
    let c := x.1 / 64
    let t := x.1 % 64
    let m := x.2.map
    let from' := m.neuronBase + 8 * m.n
    let lists := (List.range (2 * ceilDiv m.n 8 + 2 * m.tonic.length)).map fun i => s.tileByte c t (from' + i)
    x.2.slots.foldl (fun u k => u.setBytes (sramAddr c t (m.ringBase + 8 * m.e * k.1))
      ((k.2.events.take m.e).flatMap fun p => leBytes 8 p.ev.word.toNat)) (u.setBytes (sramAddr c t from') lists)) s

/-- No harness structure in use: tiles, routers, tables, caches, steps and learning empty (R234, R235); memories are not
cleared (R296). -/
def State.noHarness (s : State) : State :=
  { s.keepSram with
    regs := s.regs.filter fun e => !harnessOwned e.1, classes := [], tiles := [], initial := [], routers := [],
    gateways := [], gatewayFrcvd := {}, gatewaySrcvd := {},
    gateIn := [], gateRx := [], centreNext := [], route0 := [], route1 := [], groups0 := [], groups1 := [], members0 := [],
    members1 := [], stores := [], fetch := [], remoteHold := [], spillAt := [], seqWait := [], slots0 := [], slots1 := [],
    slotVersion := false, switchIn := [], drainFrom := none,
    fabric := { holdupSeen := s.fabric.holdupSeen, staged := {} }, census := [],
    learning := s.learning.cleared, harness := {} }

end Sys2Proof.Machine
end

