-- ==== Sys2Proof/Machine/ImageChecks.lean ====
section
/-!
DEFINITION. The rules by which a harness image is validated, in the order of R233 step 4, each with its checks in the order
in which the rule lists them.
-/
namespace Sys2Proof.Machine
open Sys2Proof

/-! ### The rows of an image as placed -/

/-- A row on the device: its tile, its number, its address and its header. -/
structure RowAt where
  c : Nat
  t : Nat
  far : Bool
  row : Nat
  addr : Nat
  h : RowHeader
  deriving DecidableEq, Repr

/-- Its row identifier (R61). -/
def RowAt.ident (r : RowAt) : Nat := r.row + (if r.far then 131072 else 0)

/-- A failure at a row. -/
def RowAt.fail (r : RowAt) (n : Nat) : CheckFail := { check := n, unit := r.c, sub := r.t, ref := r.ident }

/-- The near row directory entries of a tile, by row (R62). -/
def State.nearEntries (s : State) (c t : Nat) : List (Nat × Nat) :=
  let m := (s.tile c t).map
  (List.range m.nearRows).map fun r => (r, s.word (sramAddr c t (m.dirBase + 4 * r)) 4)

/-- The far row directory entries of a tile, by far row (R63, R144). -/
def State.farEntries (s : State) (c t : Nat) : List (Nat × Nat) :=
  let m := (s.tile c t).map
  (List.range 4).flatMap fun k => (List.range (m.farCount.getD k 0)).map fun j =>
    (32768 * k + j, s.word (s.farDirAddr c t (32768 * k + j)) 8)

/-- Every row that exists on the device (R62, R63). -/
def State.allRows (s : State) : List RowAt :=
  s.tiles.flatMap fun x =>
    let c := x.1 / 64
    let t := x.1 % 64
    (((s.nearEntries c t).filter fun e => natBit e.2 16).map fun e =>
      let a := sramAddr c t (8 * bitField e.2 0 16)
      { c := c, t := t, far := false, row := e.1, addr := a, h := s.rowHeader (.at a) }) ++
    ((s.farEntries c t).filter fun e => bitField e.2 32 13 ≠ 0).map fun e =>
      let a := ddrBase + 64 * bitField e.2 0 30
      { c := c, t := t, far := true, row := e.1, addr := a, h := s.rowHeader (.at a) }

/-- The code of synapse `i` of a row. -/
def State.codeAt (s : State) (r : RowAt) (i : Nat) : Int := r.h.codeOf (s.word (r.addr + r.h.wordOff i) 4) i

/-- LEN of a far row's directory entry in bytes. -/
def State.farLength (s : State) (r : RowAt) : Nat := 64 * (s.farEntry r.c r.t r.row).2

/-- Whether two ranges share a byte. -/
def overlaps (a n b m : Nat) : Bool := decide (0 < n) && decide (0 < m) && decide (a < b + m) && decide (b < a + n)

/-- The first element of a list that shares a byte with an earlier one, of ranges given by base and size. -/
def firstOverlap {α : Type} (range : α → Nat × Nat) : List α → List α → Option α
  | _, [] => none
  | seen, x :: l =>
    if seen.any fun y => overlaps (range x).1 (range x).2 (range y).1 (range y).2 then some x
    else firstOverlap range (x :: seen) l

/-! ### R2, R35, R46, R57 -/

/-- R2: the first address of a section, a far row or a spill area beyond the usable capacity. -/
def State.checkCapacity (s : State) (l : List ImageSection) : List (Option CheckFail) :=
  let top := ddrBase + s.variant.usable
  let beyond (a n : Nat) : Bool := decide (0 < n) && decide (top < a + n)
  [(l.find? fun x => beyond x.place (placedBytes x)).map fun x => { check := 1, unit := x.clu, sub := x.tile, ref := x.place },
   (s.allRows.find? fun r => r.far && beyond r.addr (s.farLength r)).map fun r =>
     { check := 2, unit := r.c, sub := r.t, ref := r.addr },
   (s.spillAt.find? fun x => beyond x.2 (s.reg Reg.SPILL_SIZE)).map fun x => { check := 3, unit := x.1, ref := x.2 }]

/-- R35: the first invalid class entry, with its failing sub-index. -/
def State.checkClasses (s : State) : List (Option CheckFail) :=
  [s.classes.findSome? fun x => match x.2 with
    | e :: _ => e.2.invalid.map fun sub => { check := sub, ref := x.1 }
    | [] => none]

/-- R46: a row that reaches port 1 of a neuron in a PRECISE class. -/
def State.checkPrecise (s : State) : List (Option CheckFail) :=
  let reaches (r : RowAt) : Bool := r.h.port == 1 && (List.range r.h.count).any fun i =>
    (s.classAt (s.neuron r.c r.t (s.rowTarget (.at r.addr) r.h i)).cls 0).precise
  [(s.allRows.find? reaches).map fun r => r.fail 1]

/-- The regions of a tile image in the order of R56: base and size. -/
def tileRegions (x : TileImage) (tonic : Nat) : List (Nat × Nat) :=
  [(x.neuronBase, 8 * x.n + 2 * ceilDiv x.n 8 + 2 * tonic), (x.axonBase, 4 * x.n), (x.destBase, 8 * x.dests),
   (x.dirBase, 4 * x.nearRows), (x.rowBase, x.rowBytes), (x.ringBase, 512 * x.e)].map fun r => (r.1, roundUp r.2 256)

/-- The limits of R30, R56 and R80 on a tile's numbers, as the region concerned. -/
def tileLimits (x : TileImage) (e : Nat) : Option Nat :=
  if x.n = 0 ∨ 16384 < x.n then some 1
  else if 65536 < x.dests then some 3
  else if 131072 < x.nearRows then some 4
  else if x.e ≠ e then some 6
  else none

/-- The first offending region of a tile image, from 1 (R56, R57). -/
def regionBad (x : TileImage) (tonic e : Nat) : Option Nat :=
  match tileLimits x e with
  | some k => some k
  | none =>
    let l := tileRegions x tonic
    let at' (k : Nat) : Nat × Nat := l.getD k (0, 0)
    let bad (k : Nat) : Bool :=
      let r := at' k
      r.1 % 256 != 0 || 393216 < r.1 + r.2 || ((k == 3 || k == 4) && 225280 < r.1 + r.2) ||
        (List.range k).any fun j => overlaps r.1 r.2 (at' j).1 (at' j).2
    ((List.range 6).find? bad).map (· + 1)

/-- R57: the partition of every tile image. -/
def State.checkTiles (s : State) (l : List ImageSection) : List (Option CheckFail) :=
  [l.findSome? fun x => match x.body with
    | .tileImage t =>
      (regionBad t (s.tile x.clu x.tile).map.tonic.length (s.reg Reg.DRING_E)).map fun k =>
        { check := k, unit := x.clu, sub := x.tile }
    | _ => none]

/-! ### R70 -/

/-- The neuron whose axon index entry takes in place `j` of its tile's destination list; the place itself where none does
(R58, R70). -/
def State.destOwner (s : State) (c t j : Nat) : Nat :=
  ((List.range (s.tile c t).map.n).find? fun i =>
    let e := s.axonEntry c t i
    decide (e.1 ≤ j ∧ j < e.1 + e.2)).getD j

/-- Reserved bits and encodings of rows, directory entries and axon tables (R58, R59, R62–R64, R66). NSIDE above 64 and a
non-zero BASE of a sparse row, which R64 and R68 exclude and no check of R70 names, are taken as reserved encodings (DESIGN
CHOICE). -/
def State.checkReserved (s : State) : Option CheckFail :=
  let rowBad (r : RowAt) : Bool := r.h.reserved || 1 < r.h.layout || 2 < r.h.fmt || 64 < r.h.nside ||
    (r.h.layout == 1 && (r.h.base != 0 ||
      (List.range r.h.cap).any fun i => bitField (s.word (r.addr + r.h.targetOff + 2 * i) 2) 14 2 != 0))
  let destBad (d : Nat) : Bool := 2 ≤ bitField d 62 2 || bitField d 60 2 != 0 || bitField d 12 8 != 0 ||
    (if bitField d 62 2 = 1 then bitField d 26 34 != 0 else bitField d 0 12 != 0)
  firstFail [
    (s.allRows.find? rowBad).map fun r => r.fail 1,
    s.tiles.findSome? fun x =>
      ((s.nearEntries (x.1 / 64) (x.1 % 64)).find? fun e => bitField e.2 17 15 ≠ 0).map fun e =>
        { check := 1, unit := x.1 / 64, sub := x.1 % 64, ref := e.1 },
    s.tiles.findSome? fun x =>
      ((s.farEntries (x.1 / 64) (x.1 % 64)).find? fun e => bitField e.2 30 2 ≠ 0 ∨ bitField e.2 45 19 ≠ 0).map fun e =>
        { check := 1, unit := x.1 / 64, sub := x.1 % 64, ref := 131072 + e.1 },
    s.tiles.findSome? fun x =>
      ((List.range x.2.map.n).find? fun i =>
        bitField (s.word (sramAddr (x.1 / 64) (x.1 % 64) (x.2.map.axonBase + 4 * i)) 4) 28 4 ≠ 0).map fun i =>
          { check := 1, unit := x.1 / 64, sub := x.1 % 64, ref := i },
    (s.allDests.find? fun d => destBad d.2.2.2).map fun d =>
      { check := 1, unit := d.1, sub := d.2.1, ref := s.destOwner d.1 d.2.1 d.2.2.1 }]

/-- Escapes of a W4 or W8 row: more among its live synapses than side-list entries, or one in a spare slot (R68, R70). -/
def State.escapesBad (s : State) (r : RowAt) : Bool :=
  let esc (i : Nat) : Bool := r.h.isEscape (s.codeAt r i)
  r.h.fmt < 2 && (r.h.nside < ((List.range r.h.count).filter esc).length ||
    (List.range r.h.cap).any fun i => r.h.count ≤ i && esc i)

/-- A row past its region: of its tile, or of the LPDDR5X its directory entry gives it. -/
def State.pastRegion (s : State) (r : RowAt) : Bool :=
  let m := (s.tile r.c r.t).map
  if r.far then s.farLength r < r.h.length
  else sramAddr r.c r.t (m.rowBase + m.rowBytes) < r.addr + r.h.length

/-- R70: RFV first, then the checks of its list. -/
def State.checkRows (s : State) : List (Option CheckFail) :=
  let rows := s.allRows
  let range := s.reg Reg.RFV_RANGE
  let first (n : Nat) (p : RowAt → Bool) : Option CheckFail := (rows.find? p).map fun r => r.fail n
  let n (r : RowAt) : Nat := (s.tile r.c r.t).map.n
  let sparse (r : RowAt) (i : Nat) : Nat := s.rowTarget (.at r.addr) r.h i
  [first 0 fun r => r.h.rfv < range % 256 || range / 256 < r.h.rfv,
   s.checkReserved,
   first 2 fun r => r.h.cap < r.h.count || (if r.far then 65536 else 4096) < r.h.cap,
   first 3 fun r => r.h.layout == 0 && n r < r.h.base + r.h.cap,
   first 4 fun r => r.h.layout == 1 && (List.range r.h.cap).any fun i => n r ≤ sparse r i,
   first 5 s.escapesBad,
   first 6 fun r => r.h.fmt == 2 && (r.h.nside != 0 || (List.range r.h.cap).any fun i => s.codeAt r i == -128),
   first 7 fun r => r.h.fmt != 2 && (r.h.pgrp != 0 || r.h.plx != 0),
   firstFail [first 8 s.pastRegion, (firstOverlap (fun r : RowAt => (r.addr, r.h.length)) [] rows).map fun r => r.fail 8],
   first 9 fun r =>
     if r.far then s.farLength r != 64 * ceilDiv r.h.length 64
     else r.addr < sramAddr r.c r.t (s.tile r.c r.t).map.rowBase,
   s.tiles.findSome? fun x =>
     ((List.range x.2.map.n).find? fun i =>
       let e := s.axonEntry (x.1 / 64) (x.1 % 64) i
       x.2.map.dests < e.1 + e.2).map fun i => { check := 10, unit := x.1 / 64, sub := x.1 % 64, ref := i },
   (s.allDests.find? fun d => bitField d.2.2.2 62 2 == 0 && bitField d.2.2.2 54 6 == s.reg Reg.DEV_NUM &&
     !s.rowExists (bitField d.2.2.2 50 4) (bitField d.2.2.2 44 6) (bitField d.2.2.2 26 18)).map fun d =>
       { check := 11, unit := d.1, sub := d.2.1, ref := s.destOwner d.1 d.2.1 d.2.2.1 }]

/-! ### R144, R170 -/

/-- R144: directory parts and far rows each within their package. -/
def State.checkFarPlaces (s : State) : List (Option CheckFail) :=
  let inPackage (k a n : Nat) : Bool := s.packageAt a == k && s.packageAt (a + max n 1 - 1) == k
  [s.tiles.findSome? fun x =>
     ((List.range 4).find? fun k => 0 < x.2.map.farCount.getD k 0 &&
       !inPackage k (x.2.map.farBase.getD k 0) (8 * x.2.map.farCount.getD k 0)).map fun k =>
         { check := 1, unit := x.1 / 64, sub := x.1 % 64, ref := 32768 * k },
   (s.allRows.find? fun r => r.far && !inPackage (packageOf r.row) r.addr (s.farLength r)).map fun r => r.fail 2]

/-- Where a row stands in the order of R287: by cluster, tile, near before far, far rows by package, then by ROW. -/
def RowAt.order (r : RowAt) : Nat := (r.c * 64 + r.t) * 0x100000 + r.ident

/-- A row put into its place in that order. -/
def insertRow (r : RowAt) : List RowAt → List RowAt
  | [] => [r]
  | x :: l => if r.order ≤ x.order then r :: x :: l else x :: insertRow r l

/-- The plastic rows of the device in Stable order (R287). -/
def State.plasticRows (s : State) : List RowAt :=
  (s.allRows.filter fun r => r.h.fmt = 2).foldr insertRow []

/-- Rows with their offsets in the row area, each rounded up to 64 bytes (R287). -/
def rowOffsets : Nat → List RowAt → List (Nat × RowName × Nat)
  | _, [] => []
  | o, r :: l => (r.c, { tile := r.t, far := r.far, row := r.row }, o) :: rowOffsets (o + roundUp r.h.length 64) l

/-- Bytes of the row area that plastic rows take. -/
def rowAreaBytes (l : List RowAt) : Nat := l.foldl (fun a r => a + roundUp r.h.length 64) 0

/-- R170: the conditions on plastic rows, where the image holds any. -/
def State.checkPlastic (s : State) : List (Option CheckFail) :=
  let rows := s.plasticRows
  let first (n : Nat) (p : RowAt → Bool) : Option CheckFail := (rows.find? p).map fun r => r.fail n
  let flow (c from' dst : Nat) (a b : Nat) : Bool := s.flowPath s.slotVersion 6 c 16 from' a dst b
  if rows = [] then []
  else
    [first 1 fun r => r.h.plx != 0,
     first 2 fun r => grpStruct (s.group r.h.pgrp) && (r.far || r.h.layout == 0),
     (s.learning.groups.find? fun g => !groupValid g.2).map fun g => { check := 3, ref := g.1 },
     if s.reg Reg.STABLE_ROW_MAX < rowAreaBytes rows then some { check := 4, ref := rowAreaBytes rows } else none,
     if 16 ≤ s.reg Reg.JRNL_BANK then some { check := 5, ref := s.reg Reg.JRNL_BANK } else none,
     first 6 fun r => !flow r.c r.c 15 0 6,
     first 7 fun r => r.far && (let k := packageSwitch (packageOf r.row)
       !flow r.c r.c k 0 5 || !flow r.c k r.c 5 0)]

/-! ### R257, R270, R277, R278, R293 -/

/-- Queue records of sections. -/
def queueRecords (l : List ImageSection) : List (BitVec 256) :=
  l.flatMap fun x => match x.body with
    | .queues r => r
    | _ => []

/-- Hitch records of sections. -/
def hitchRecords (l : List ImageSection) : List (BitVec 64) :=
  l.flatMap fun x => match x.body with
    | .hitches r => r
    | _ => []

/-- The first element of a list whose key an earlier one has. -/
def firstTwice {α : Type} (key : α → Nat) : List Nat → List α → Option α
  | _, [] => none
  | seen, x :: l => if seen.contains (key x) then some x else firstTwice key (key x :: seen) l

/-- Whether a ring lies within one RING window of its bank (R241). -/
def State.inRingWindow (s : State) (base n : Nat) : Bool :=
  s.windows.any fun w => w.2.mode == .ring && w.1 / 32 == base / 0x200000 && w.2.base ≤ base && base + n ≤ w.2.base + w.2.size

/-- R257: queue bindings, in the order of its list. -/
def State.checkQueues (s : State) (l : List ImageSection) : List (Option CheckFail) :=
  let recs := queueRecords l
  let ring (r : BitVec 256) : Nat × Nat := (entryField r 4 4, ringBytes (entryField r 2 1) (entryField r 3 1))
  let fail (n : Nat) (r : BitVec 256) : CheckFail := { check := n, ref := recordQueue r }
  let isCq (q : Nat) : Bool := recs.any fun r => recordQueue r == q && entryField r 2 1 == 1
  [(recs.find? queueRecordBad).map (fail 1),
   (firstTwice recordQueue [] recs).map (fail 2),
   firstFail [(firstOverlap ring [] recs).map (fail 3),
     (recs.find? fun r => !s.inRingWindow (ring r).1 (ring r).2).map (fail 3)],
   (recs.find? fun r => entryField r 2 1 == 0 && !isCq (entryField r 12 2)).map (fail 5)]

/-- Whether a Hitch record breaks R261. -/
def State.scopeBad (s : State) (r : BitVec 64) : Bool :=
  let node := bitField r.toNat 16 5
  let dev := bitField r.toNat 26 6
  let own := dev == s.reg Reg.DEV_NUM
  match bitField r.toNat 24 2 with
  | 0 => 15 < node || !own
  | 1 => node != 16 || !own
  | 2 => node != 16 || !(own || natBit (Assoc.getD s.route0 dev 0) 4)
  | _ => true

/-- R270: initial Hitch values, in the order of its list; `all` lists the sections of every device. -/
def State.checkHitches (s : State) (all l : List ImageSection) : List (Option CheckFail) :=
  let recs := hitchRecords l
  [(all.find? fun x => bodyType x.body == 13 && x.dev != 0xFF).map fun x => { check := 1, ref := x.dev },
   (recs.find? s.scopeBad).map fun r => { check := 2, ref := recordHitch r },
   (firstTwice recordHitch [] recs).map fun r => { check := 3, ref := recordHitch r },
   (recs.find? fun r => bitField r.toNat 14 2 != 0 || bitField r.toNat 21 3 != 0).map fun r =>
     { check := 4, ref := recordHitch r }]

/-- R277: the bank of the staging buffer. -/
def State.checkJournalBank (s : State) : List (Option CheckFail) :=
  let b := s.reg Reg.JRNL_BANK
  [if b = 15 then some { check := 1, ref := 15 } else none,
   if b < 15 ∧ s.reg (Reg.BANK_OWNER b) % 256 ≠ 5 then some { check := 2, ref := b } else none]

/-- R278: rings, preloads and windows in the firmware area, or a window that R281 does not allow. A parameter record for one of
the firmware's own windows is check 4, which is refused with SECURITY (R281). -/
def checkFirmwareArea (l : List ImageSection) : List (Option CheckFail) :=
  let reaches (a n : Nat) : Bool := decide (firmwareArea < a + n)
  [((queueRecords l).find? fun r => reaches (entryField r 4 4) (ringBytes (entryField r 2 1) (entryField r 3 1))).map fun r =>
     { check := 1, ref := recordQueue r },
   l.findSome? fun x => match x.body with
     | .preload a d => if reaches a d.length then some { check := 2, ref := a } else none
     | .parameters ps =>
       (ps.find? fun p => 0x2440 ≤ p.1 ∧ p.1 ≤ 0x244F ∧
         ((windowOf (p.1 - 0x2440) p.2.2).isNone ∨ (p.1 = 0x244F ∧ 25 ≤ p.2.1))).map fun p =>
           { check := if p.1 = 0x244F ∧ 25 ≤ p.2.1 then 4 else 3, unit := p.1 - 0x2440, sub := p.2.1, ref := p.2.2 }
     | _ => none]

/-- R293: a section, a far row or a spill area in the LPDDR5X firmware region. -/
def State.checkFirmwareRegion (s : State) (l : List ImageSection) : List (Option CheckFail) :=
  let reaches (a n : Nat) : Bool := decide (0 < n) && decide (s.fwRegion < a + n)
  [(l.find? fun x => reaches x.place (placedBytes x)).map fun x =>
     { check := 1, unit := x.clu, sub := x.tile, ref := x.place },
   (s.allRows.find? fun r => r.far && reaches r.addr (s.farLength r)).map fun r => r.fail 2,
   (s.spillAt.find? fun x => reaches x.2 (s.reg Reg.SPILL_SIZE)).map fun x => { check := 3, unit := x.1, ref := x.2 }]

/-- The last check of R233: no segment section holds plastic rows. -/
def State.checkSegments (s : State) (l : List ImageSection) : List (Option CheckFail) :=
  let holds (x : ImageSection) (r : RowAt) : Bool := x.seg != 0 && (match x.body with
    | .tileImage _ => !r.far && r.c == x.clu && r.t == x.tile
    | .farRows d => r.far && overlaps r.addr r.h.length x.place d.length
    | _ => false)
  [(s.plasticRows.find? fun r => l.any fun x => holds x r).map fun r => r.fail 1]

/-- Parameter records that no harness may hold, after every check that R233 lists (DESIGN CHOICE: R233 names none), and the
egress marks they leave (R141). -/
def State.checkParams (s : State) (l : List ImageSection) : List (Option CheckFail) :=
  let bad (x : ImageSection) : Option (Nat × Nat × Nat) := match x.body with
    | .parameters r => r.find? s.paramBad
    | _ => none
  [none, (l.findSome? bad).map fun p => { check := 2, ref := p.1 * 256 + p.2.1 },
   if s.thrOk then none else some { check := 3, ref := 0x33000A }]

/-! ### The order of R233 -/

/-- What a load has found: the status, the rule, and the failing check of it. -/
structure LoadFail where
  status : Status
  rule : Nat
  at' : CheckFail
  deriving DecidableEq, Repr

/-- The first failure of a rule: its checks in order, each over the resident image and the image with each segment. -/
def firstOver (l : List (List (Option CheckFail))) : Option CheckFail :=
  (List.range 13).findSome? fun k => l.findSome? fun x => x.getD k none

/-- The rules of step 4 in order, over the states that placing the image would give: the resident sections alone, and with
each segment. `all` lists the sections of every device, `own` those of this one (R233). -/
def validate (all own : List ImageSection) (trials : List State) : Option LoadFail :=
  let judge (rule : Nat) (st : CheckFail → Status) (f : State → List (Option CheckFail)) : Option LoadFail :=
    (firstOver (trials.map f)).map fun c => { status := st c, rule := rule, at' := c }
  let bad (_ : CheckFail) : Status := .badFormat
  let resident := own.filter fun x => x.seg = 0
  [judge 2 (fun _ => .version) fun t => t.checkCapacity own,
   judge 35 bad State.checkClasses, judge 46 bad State.checkPrecise, judge 57 bad fun t => t.checkTiles own,
   judge 70 (fun c => if c.check = 0 then .version else .badFormat) State.checkRows,
   judge 137 bad fun t => [t.routeCheck false false], judge 144 bad State.checkFarPlaces,
   judge 163 bad fun t => [t.slotCheck t.slotVersion], judge 170 bad State.checkPlastic,
   judge 257 bad fun t => t.checkQueues resident, judge 270 bad fun t => t.checkHitches all own,
   judge 277 bad State.checkJournalBank, judge 278 (fun c => if c.check = 4 then .security else .badFormat) fun _ => checkFirmwareArea own,
   judge 293 bad fun t => t.checkFirmwareRegion own, judge 233 bad fun t => t.checkSegments own,
   judge 233 bad fun t => t.checkParams own].findSome? id

end Sys2Proof.Machine
end

