-- ==== Sys2Proof/Machine/Harness.lean ====
section
/-!
DEFINITION. HARNESS_LOAD (R233, R234), with the rebuild of plastic rows from the Stable and its journal (R194, R289).
-/
namespace Sys2Proof.Machine
open Sys2Proof

/-! ### Rebuild (R194, R289) -/

/-- The committed WORD records of a half as (word index, value), read in order from record `k`; `pend` holds those of the
epoch not yet committed (R289). -/
def State.replayHalf (s : State) (g k : Nat) (pend done : List (Nat × Nat)) : (fuel : Nat) → List (Nat × Nat)
  | 0 => done
  | n + 1 =>
    let v := s.word (genBase g + 64 + 8 * k) 8
    let ty := bitField v 56 3
    if bitField v 60 4 ≠ g % 16 ∨ 2 < ty then done
    else if ty = 2 then
      if bitField v 0 56 ≠ g % 2 ^ 56 then done else s.replayHalf g (k + 1) [] (done ++ pend) n
    else if ty = 1 then s.replayHalf g (k + 1) (pend ++ [(bitField v 32 24, bitField v 0 32)]) done n
    else s.replayHalf g (k + 1) pend done n

/-- Whether the header block of generation `g`'s half holds (R289). -/
def State.headerHolds (s : State) (g : Nat) : Bool :=
  let h := s.bytes (genBase g) 60
  s.word (genBase g + 60) 4 == (crc32c h).toNat && leNat (h.take 4) == 0x4E4A4C46 && leNat ((h.drop 8).take 8) == g

/-- The generations that a rebuild replays, in order: those that followed the last completed copy, and for an interrupted
consolidation its own and the one before it (R194). A journal region holds no more than four. -/
def State.replayGens (s : State) : List Nat :=
  let sb := stableBase + 0x3C00000 + (if s.learning.superB then 0x1000 else 0)
  let gen := s.reg Reg.JRNL_GEN
  let back (low : Nat) : Nat := (gen % 2 ^ 32 + 2 ^ 32 - low) % 2 ^ 32
  let run := s.word (sb + 16) 4
  let n := max (back (s.word (sb + 12) 4)) (if run = 0xFFFFFFFF then 0 else back run + 1)
  (List.range (min n 3 + 1)).reverse.filterMap fun k => if k ≤ gen then some (gen - k) else none

/-- One word of the row area put into the row that holds it. -/
def State.replayWord (s : State) (w : Nat × Nat) : State :=
  match s.learning.rows.find? fun r =>
      r.2.2 ≤ 4 * w.1 ∧ 4 * w.1 < r.2.2 + (s.rowHeader (.at (s.rowAddr r.1 r.2.1))).length with
  | some r => (s.setWord (s.rowAddr r.1 r.2.1 + (4 * w.1 - r.2.2)) 4 w.2).noteChanged r.1 r.2.1
  | none => s

/-- Plastic rows taken from the Stable copy, the generations after it replayed over them (R194). -/
def State.rebuildRows (s : State) : State :=
  let copied := s.learning.rows.foldl (fun (s : State) r =>
    let a := s.rowAddr r.1 r.2.1
    s.setBytes a (s.bytes (stableBase + r.2.2) (s.rowHeader (.at a)).length)) s
  let words := s.replayGens.flatMap fun g => if s.headerHolds g then s.replayHalf g 0 [] [] 262136 else []
  words.foldl State.replayWord copied

/-! ### Load (R233, R234) -/

/-- Step 3: the header and the section table (R233). -/
def State.headerFail (s : State) (x : HarnessImage) : Option LoadFail :=
  let range := s.reg Reg.HFV_RANGE
  let fail (st : Status) (n ref : Nat) : Option LoadFail := some { status := st, rule := 232, at' := { check := n, ref := ref } }
  let reserved (y : ImageSection) : Bool := match y.body with
    | .reserved _ => true
    | _ => y.spare != 0
  if x.magic ≠ 0x53484C46 then fail .badFormat 1 0
  else if x.hfv < range % 256 ∨ range / 256 < x.hfv then fail .version 2 x.hfv
  else if x.spare ≠ 0 then fail .badFormat 3 0
  else match x.sections.find? reserved with
    | some y => fail .badFormat 3 (bodyType y.body)
    | none => none

/-- The state with the image's resident sections placed and nothing of another harness (R233). -/
def State.withImage (s : State) (img : Nat) (x : HarnessImage) : State :=
  let own := s.ownSections x
  let s1 : State := { s.noHarness with hitches := [], spillAt := spillAreas own }
  let s2 := s1.placeSections img 0 (own.filter fun y => y.seg = 0)
  { s2 with harness := { s2.harness with img := img, hfv := x.hfv } }

/-- Steps 3 and 4: the first failing check, or the state with the image placed. -/
def State.checkImage (s : State) (img : Nat) (x : HarnessImage) : LoadFail ⊕ State :=
  match s.headerFail x with
  | some f => .inl f
  | none =>
    let own := s.ownSections x
    let base := s.withImage img x
    let segs := (own.map fun y => y.seg).filter (· ≠ 0)
    let trials := base :: segs.map fun g => base.placeSections img 0 (own.filter fun y => y.seg = g)
    match validate x.sections own trials with
    | some f => .inl f
    | none => .inr base

/-- The rules by which a load may fail, in the order in which R233 applies them. -/
def loadRules : List Nat := [233, 433, 232, 2, 35, 46, 57, 70, 137, 144, 163, 170, 257, 270, 277, 278, 293]

/-- A failed load: counted and recorded with the first failing check; the state the status gives (R234, R238). REF holds what
the check names (an address whole, as R2 asks), the check and the place of its rule in the order of R233 (DESIGN CHOICE: the
layout). -/
def State.loadFailed (s : State) (f : LoadFail) : State :=
  ((s.bump Reg.LOAD_FAILS).setReg Reg.LOAD_STATUS f.status.code).logFault
    { cls := .loadReject, status := f.status, unit := f.at'.unit, sub := f.at'.sub,
      ref := packFields [(0, 38, f.at'.ref), (38, 5, f.at'.check), (43, 5, loadRules.idxOf f.rule)] }

/-- Steps 5 to 8 on the placed image: counters, plastic rows, sequencers (R194, R233). -/
def State.startHarness (s : State) (meas : Nat) (fresh : Bool) : State :=
  let s1 : State := { s with regs := s.regs.filter fun e => !clearedAtLoad e.1 }
  let rows := s1.plasticRows
  let s2 := (s1.setReg Reg.STABLE_ROW_BYTES (rowAreaBytes rows)).modLearning fun l =>
    { l with rows := rowOffsets 0 rows, epochLen := s1.reg Reg.EPOCH_L }
  let valid := s.reg Reg.STABLE_STATE ≠ 0 ∧ s.reg Reg.STABLE_HARNESS = meas ∧ fresh = false
  let s3 := if valid then s2.rebuildRows
    else s2.modLearning fun l => { l with changed := l.rows.map fun r => (r.1, r.2.1) }
  let s4 := s3.modTether fun t => { t with lost := [], settle := none }
  (s4.setReg Reg.SEQ_RUN (bitsNat (s4.harness.seqCode.map (·.1)))).setReg Reg.HARNESS_STATE 2

/-- Whether a fenced tile is among those that the image uses (R465). -/
def State.fencedUsed (s : State) : Bool := s.tiles.any fun x => x.2.fenced

/-- The preconditions of step 1, with what bring-up and security add to them (R233, R411, R412, R415, R429, R438, R440). -/
def State.loadBar (s : State) : Option Status :=
  if s.harnessLoaded then some .refused
  else if s.reg Reg.BRINGUP_STAGE < 6 ∨ 128 ≤ s.reg Reg.BRINGUP_STAGE ∨ s.reg Reg.DDR_STATE ≠ 2 then some .refused
  else if natBit (s.reg Reg.OWNER_LOCK) 1 ∨ s.security.noKeys then some .security
  else none

/-- HARNESS_LOAD: the envelope at IMG opened, its measurement recorded, the plaintext that then lies at IMG checked, placed and
started (R232–R234). A running microcode swap makes it wait (R451). -/
def execHarnessLoad (s : State) : Host.Outcome State Fault Refusal :=
  match s.runningOp 0 .harnessLoad with
  | none => .next s
  | some run =>
    let f (lo n : Nat) : Nat := entryField run.cmd lo n
    let ms := (s.now - run.started) / 1000000
    let failed (s : State) (x : LoadFail) : State :=
      ((s.loadFailed x).setReg Reg.LOAD_MS ms).conclude 0 x.status 0 ms 0
    match s.loadBar with
    | some st => .next (failed s { status := st, rule := 233, at' := { check := 1 } })
    | none =>
      if s.update.swapFrom.isSome then .next s
      else
        let o := s.openEnvelope (f 8 8) (4096 * f 16 4) s.harnessMode
        if o.1.status ≠ .ok then
          .next (failed o.2 { status := o.1.status, rule := 433, at' := { check := o.1.check, ref := o.1.chunk } })
        else
          let opened := o.2.setReg Reg.HARNESS_MEAS o.1.meas
          match opened.checkImage (f 8 8) (opened.readImage (f 8 8)) with
          | .inl x => .next (failed opened x)
          | .inr t =>
            let t1 := t.startHarness o.1.meas (natBit (f 20 1) 0)
            let st : Status := if t1.fencedUsed then .degraded else .ok
            .next (((t1.setReg Reg.LOAD_STATUS st.code).setReg Reg.LOAD_MS ms).conclude 0 st 0 ms 0)

end Sys2Proof.Machine
end

