-- ==== Sys2Proof/Machine/Checkpoint.lean ====
section
/-!
DEFINITION. CHECKPOINT (R214), RESTORE (R41, R195, R215) and LOAD_SEGMENT (R154, R216). The layout inside a section is the
model's where R214 names the content alone (DESIGN CHOICE): a ring is 64 slots of E events, then 64 stamps of 8 bytes, each
the owner with the number of events in its top 16 bits; spill records follow 64 counts of 4 bytes; plastic rows follow one
another in the order of R287. In a saved event bit 0 marks one re-parked under SPILL and bit 60 an uncorrectable payload,
for E and STEP are not needed at the destination. No fabric operation starts in Brace (R393).
-/
namespace Sys2Proof.Machine
open Sys2Proof

/-! ### Sections -/

/-- A section of a checkpoint: TYPE, CLU or package, TILE and its bytes (R214). -/
structure CkSection where
  type : Nat
  clu : Nat
  tile : Nat
  data : List Byte
  deriving DecidableEq, Repr

/-- Bytes of a tile's neuron store (R30). -/
def TileMap.storeBytes (m : TileMap) : Nat := roundUp (8 * m.n + 2 * ceilDiv m.n 8 + 2 * m.tonic.length) 256

/-- An event word with its marks. -/
def markedWord (w : Word64) (carried payBad : Bool) : Nat :=
  setBitField (setBitField w.toNat 0 1 (boolNat carried)) 60 2 (boolNat payBad)

/-- A tile's delay ring with its stamps. -/
def Tile.ringBytes (x : Tile) : List Byte :=
  let e := x.map.e
  let slot (k : Nat) : List Byte :=
    let w := ((x.slot k).events.take e).flatMap fun p => leBytes 8 (markedWord p.ev.word p.carried p.ev.payBad)
    w ++ List.replicate (8 * e - w.length) 0
  ((List.range 64).flatMap slot) ++
    (List.range 64).flatMap fun k => leBytes 8 (packFields [(0, 48, (x.slot k).owner), (48, 16, (x.slot k).events.length)])

/-- The occupied records of a cluster's spill area, those in the write buffer and on their way among them (R83, R84). -/
def ClusterStore.spillBytes (x : ClusterStore) : List Byte :=
  let recs (k : Nat) : List SpillRecord :=
    ((x.spillBack.filter fun l => l.1 % 64 = k).flatMap (·.2)) ++ Assoc.getD x.spill k [] ++ x.bound k
  ((List.range 64).flatMap fun k => leBytes 4 (recs k).length) ++
    (List.range 64).flatMap fun k => (recs k).flatMap fun r => leBytes 8 (markedWord r.word r.carried r.payBad)

/-- Plastic rows that a predicate picks, as stored, in the order of R287. -/
def State.rowsBytes (s : State) (p : Nat → RowName → Bool) : List Byte :=
  (s.learning.rows.filter fun r => p r.1 r.2.1).flatMap fun r =>
    s.bytes (s.rowAddr r.1 r.2.1) (s.rowHeader (.at (s.rowAddr r.1 r.2.1))).length

/-- The sections of a checkpoint by TYPE (R214). -/
def State.ckSections (s : State) : List CkSection :=
  let tiles := s.tiles.map fun x => (x.1 / 64, x.1 % 64, x.2)
  let full (l : List CkSection) : List CkSection := l.filter fun x => x.data ≠ []
  (tiles.map fun x => ⟨1, x.1, x.2.1,
    (List.range x.2.2.map.storeBytes).map fun i => s.tileByte x.1 x.2.1 (x.2.2.map.neuronBase + i)⟩) ++
  (tiles.map fun x => ⟨2, x.1, x.2.1, x.2.2.ringBytes⟩) ++
  full (tiles.map fun x => ⟨3, x.1, x.2.1, s.rowsBytes fun c r => c == x.1 && r.tile == x.2.1 && !r.far⟩) ++
  ((List.range 16).map fun c => ⟨4, c, 0xFF, (s.store c).spillBytes⟩) ++
  full ((List.range 4).map fun k => ⟨5, k, 0xFF, s.rowsBytes fun _ r => r.far && packageOf r.row == k⟩)

/-- Sections placed from an offset, each aligned to 64 bytes: directory and bytes. -/
def ckLayout (ofs : Nat) : List CkSection → List Byte × List Byte
  | [] => ([], [])
  | x :: l =>
    let n := roundUp x.data.length 64
    let r := ckLayout (ofs + n) l
    (leBytes 16 (packFields [(0, 16, x.type), (16, 8, x.clu), (24, 8, x.tile), (64, 32, ofs / 64), (96, 32, x.data.length)]) ++ r.1,
      x.data ++ List.replicate (n - x.data.length) 0 ++ r.2)

/-- A checkpoint's bytes (R214). -/
def State.checkpointBytes (s : State) : List Byte :=
  let secs := s.ckSections
  let dir := roundUp (128 + 16 * secs.length) 64
  let l := ckLayout dir secs
  let total := dir + l.2.length + 48
  let head := leBytes 128 (packFields [(0, 32, 0x4B434C46), (32, 16, 1), (64, 64, s.reg Reg.STEP_COMPLETE),
    (128, 32, s.reg Reg.EPOCH), (160, 32, secs.length), (192, 64, total), (256, 384, s.reg Reg.HARNESS_MEAS)])
  let body := head ++ l.1 ++ List.replicate (dir - 128 - l.1.length) 0 ++ l.2
  body ++ sha384Bytes body

/-- What a command comes to on one device: its status, its RESULT and the state after it. -/
structure Performed where
  status : Status
  result : Nat
  state : State
  deriving DecidableEq, Repr

/-- Whether the boundary between steps at which such a command runs has not come yet (R214, R215, R386, R451). -/
def State.betweenSteps (s : State) : Bool := s.noStep && s.power.brace.isNone && s.update.swapFrom.isNone

/-- A command that every device of a system performs at the same boundary between steps (R210). Device 0 completes it with the
most severe status of any device. Another device performs the entry that device 0 sends it and answers with its status; with
no harness loaded that is REFUSED (R205). -/
def State.perform (s : State) (op : Opcode) (f : Entry → State → Performed) (p : Performer) :
    Host.Outcome State Fault Refusal :=
  match p with
  | .own others =>
    match s.runningOp 0 op with
    | none => .next s
    | some run =>
      if !s.betweenSteps then .next s
      else
        let r := f run.cmd s
        .next (r.state.fabricDone (others.worse r.status) r.result 0)
  | .told cmd =>
    if s.reg Reg.DEV_NUM = 0 ∨ !s.betweenSteps then .next s
    else if !s.harnessLoaded then .next (s.emit (.ctrl 0 "PERFORMED" Status.refused.code))
    else
      let r := f cmd s
      .next (r.state.emit (.ctrl 0 "PERFORMED" r.status.code))

/-- The checkpoint written at DST; one that exceeds MAXLEN is FULL, its header zero (R214). -/
def State.writeCheckpoint (cmd : Entry) (s : State) : Performed :=
  let dst := entryField cmd 8 8
  let data := s.checkpointBytes
  if 4096 * entryField cmd 16 4 < data.length then
    { status := .full, result := 0, state := s.setBytes dst (List.replicate 128 0) }
  else { status := .ok, result := ceilDiv data.length 4096, state := s.setBytes dst data }

/-- CHECKPOINT, on device 0 and on the devices it has perform it (R210, R214). -/
def execCheckpoint (p : Performer) (s : State) : Host.Outcome State Fault Refusal := s.perform .checkpoint State.writeCheckpoint p

/-! ### RESTORE (R41, R195, R215) -/

/-- What a RESTORE checks before it changes anything (R215). -/
def State.checkpointFails (s : State) (src : Nat) : Option Status :=
  let total := s.word (src + 24) 8
  if s.word src 4 ≠ 0x4B434C46 then some .badFormat
  else if s.word (src + 4) 2 ≠ 1 then some .version
  else if s.word (src + 32) 48 ≠ s.reg Reg.HARNESS_MEAS then some .refused
  else if total < 176 ∨ sha384Bytes (s.bytes src (total - 48)) ≠ s.bytes (src + total - 48) 48 then some .badFormat
  else none

/-- A stamp of 12 bits moved by the steps between checkpoint and restore (R41). -/
def rebased (d : Int) (stamp : Nat) : Nat := (((stamp : Int) + d) % 4096).toNat

/-- The neurons whose bits a bitmap sets. -/
def bitmapList (n : Nat) (l : List Byte) : List Nat :=
  (List.range n).filter fun i => ((l.getD (i / 8) 0).toNat).testBit (i % 8)

/-- A neuron store written back, its stamps rebased (R41). DEAD keeps the present value: the image and a fence alone set it, and
a harness load alone clears it (R51). -/
def State.restoreStore (s : State) (c t : Nat) (d : Int) (data : List Byte) : State :=
  let m := (s.tile c t).map
  let words := bytesWords 8 m.n data
  let s1 := (List.range m.n).foldl (fun s i =>
    let w := Neuron.ofWord (words.getD i 0)
    s.setNeuron c t i { w with tl := rebased d w.tl, dead := (s.neuron c t i).dead }) s
  let b := ceilDiv m.n 8
  let x := s1.tile c t
  s1.setTile c t { x with touched := bitmapList m.n (data.drop (8 * m.n)),
                          touchedNext := bitmapList m.n (data.drop (8 * m.n + b)) }

/-- A saved event, its DEV that of this device. -/
def State.savedEvent (s : State) (w : Nat) : Event :=
  Event.set (Event.set { word := BitVec.ofNat 64 w, payBad := natBit w 60 } 60 2 0) 54 6 (s.reg Reg.DEV_NUM)

/-- A delay ring written back: each slot's events under the rebased owner (R41, R80). -/
def State.restoreRing (s : State) (c t : Nat) (d : Int) (data : List Byte) : State :=
  let x := s.tile c t
  let e := x.map.e
  let slots := (List.range 64).foldl (fun (l : Assoc RingSlot) k =>
    let stamp := leNat ((data.drop (512 * e + 8 * k)).take 8)
    let owner := ((bitField stamp 0 48 : Int) + d).toNat
    let words := (bytesWords 8 e (data.drop (8 * e * k))).take (bitField stamp 48 16)
    Assoc.set (owner % 64) ⟨owner, words.map fun w => { ev := s.savedEvent w, due := owner, carried := natBit w 0 }⟩ l) []
  s.setTile c t { x with slots := slots, back := [], farWait := [] }

/-- Spill records written back, each under its rebased due step, and nothing left of those there were (R41, R83, R215). -/
def State.restoreSpill (s : State) (c : Nat) (d : Int) (data : List Byte) : State :=
  let counts := bytesWords 4 64 data
  let records := bytesWords 8 data.length (data.drop 256)
  let keys := (List.range 64).flatMap fun k => List.replicate (counts.getD k 0) k
  let put (l : Assoc (List SpillRecord)) (x : Nat × Nat) : Assoc (List SpillRecord) :=
    let due := rebased d (64 * bitField x.2 54 6 + x.1)
    let w := setBitField (setBitField x.2 60 2 0) 54 6 (due / 64)
    Assoc.set (due % 64) (Assoc.getD l (due % 64) [] ++
      [{ word := BitVec.ofNat 64 w, stream := false, carried := natBit x.2 0, payBad := natBit x.2 60 }]) l
  let s1 : State := { s with switchIn := s.switchIn.map fun q => (q.1, q.2.filter fun l =>
    !((l.kind == 1 || l.kind == 2) && l.clu == c)) }
  let s2 := s1.setStore c { s1.store c with
    spill := (keys.zip records).foldl put [], spillHead := [], spillBuffer := [], spillOut := [], spillBack := [] }
  (List.range 64).foldl (fun s k => s.layRegion c k) s2

/-- Plastic rows written back one after another, with RTL of a near row rebased (R195). -/
def State.restoreRows (s : State) (d : Int) : List (Nat × RowName × Nat) → List Byte → State
  | [], _ => s
  | r :: l, data =>
    let a := s.rowAddr r.1 r.2.1
    let n := (s.rowHeader (.at a)).length
    let s1 := (s.setBytes a (data.take n)).noteChanged r.1 r.2.1
    let plx := Plx.ofWord (s1.word (a + 12) 4)
    let s2 := if r.2.1.far then s1 else s1.setWord (a + 12) 4 ({ plx with rtl := rebased d plx.rtl } : Plx).toWord
    s2.restoreRows d l (data.drop n)

/-- One section of a checkpoint written back (R214, R215). -/
def State.restoreSection (s : State) (d : Int) (ty clu tile : Nat) (data : List Byte) : State :=
  match ty with
  | 1 => s.restoreStore clu tile d data
  | 2 => s.restoreRing clu tile d data
  | 3 => s.restoreRows d (s.learning.rows.filter fun r => r.1 = clu ∧ r.2.1.tile = tile ∧ !r.2.1.far) data
  | 4 => s.restoreSpill clu d data
  | 5 => s.restoreRows d (s.learning.rows.filter fun r => r.2.1.far ∧ packageOf r.2.1.row = clu) data
  | _ => s

/-- The sections of the checkpoint at `src` written back, by directory entry. -/
def State.restoreAll (s : State) (src : Nat) (d : Int) : State :=
  (List.range (s.word (src + 20) 4)).foldl (fun (x : State) i =>
    let e := s.word (src + 128 + 16 * i) 16
    x.restoreSection d (bitField e 0 16) (bitField e 16 8) (bitField e 24 8)
      (s.bytes (src + 64 * bitField e 64 32) (bitField e 96 32))) s

/-- The gathering of the open epoch emptied (R195). -/
def PlastEngine.emptied (e : PlastEngine) : PlastEngine :=
  { sweeping := e.sweeping, sweepFrom := e.sweepFrom }

/-- The checkpoint at SRC verified, then written back with every stamp rebased and every far-row tag ABSENT (R195, R215). -/
def State.readCheckpoint (cmd : Entry) (s : State) : Performed :=
  let src := entryField cmd 8 8
  match s.checkpointFails src with
  | some st => { status := st, result := 0, state := s }
  | none =>
    let nc := s.word (src + 8) 8
    let d : Int := (s.reg Reg.STEP_COMPLETE : Int) - nc
    let s1 := (s.restoreAll src d).modLearning fun l =>
      { l with engines := l.engines.map fun e => (e.1, e.2.emptied) }
    { status := .ok, result := nc % 2 ^ 32, state := s1.invalidateFar 0xFFFF }

/-- RESTORE, on device 0 and on the devices it has perform it (R210, R215). -/
def execRestore (p : Performer) (s : State) : Host.Outcome State Fault Refusal := s.perform .restore State.readCheckpoint p

/-! ### LOAD_SEGMENT (R216) -/

/-- Every section of the segment rewritten from the image copy in LPDDR5X, every far-row tag ABSENT (R154, R216). -/
def State.rewriteSegment (cmd : Entry) (s : State) : Performed :=
  let seg := entryField cmd 8 1
  let l := s.copySections seg
  if seg = 0 ∨ l = [] then { status := .badFormat, result := 0, state := s }
  else
    let s1 := (s.placeSections s.harness.img (s.reg Reg.STEP_COMPLETE) l).setReg Reg.SEGMENT seg
    let n := l.foldl (fun a x => a + placedBytes x) 0
    { status := .ok, result := ceilDiv n 4096, state := s1.invalidateFar 0xFFFF }

/-- LOAD_SEGMENT, on device 0 and on the devices it has perform it (R210, R216). -/
def execLoadSegment (p : Performer) (s : State) : Host.Outcome State Fault Refusal := s.perform .loadSegment State.rewriteSegment p

end Sys2Proof.Machine
end

