-- ==== Sys2Proof/Machine/IntakeMaps.lean ====
section
/-!
DEFINITION. The maps of the Intake ports: decode maps (R301–R304), intake maps (R307–R309), parse graphs (R313, R314) and
flow tables (R315), as bytes with their checks and what they make of a packet.
-/
namespace Sys2Proof.Machine
open Sys2Proof

/-- `n` bytes of a map from offset `lo`. -/
def mapField (m : List Byte) (lo n : Nat) : Nat := leNat ((m.drop lo).take n)

/-- A byte of a map. -/
def mapByte (m : List Byte) (i : Nat) : Nat := (m.getD i 0).toNat

/-! ### Decode maps (R301–R303) -/

/-- Bits of a map's word. -/
def wordBits (m : List Byte) : Nat := 16 * 2 ^ mapByte m 1

/-- Rule `i` as its 16 bytes (R302). -/
def ruleBytes (m : List Byte) (i : Nat) : List Byte := (m.drop (16 + 16 * i)).take 16

/-- Offset and length bytes of a rule's fields and whether a KIND uses each: x, y, p, t (R302). -/
def ruleFields (kind : Nat) : List (Nat × Nat × Nat × Bool) :=
  let ev := kind = 1 || kind = 3
  [(2, 1, 16, ev), (4, 1, 16, ev), (6, 0, 1, ev), (8, (if kind = 2 then 1 else 0), 32, ev || kind = 2)]

/-- The failing bytes of a rule. A field or mask that extends past the word fails at its position, a wrong length at the length
(R302, R303). -/
def ruleBad (m r : List Byte) : List Nat :=
  let kind := mapByte r 1
  let bits := wordBits m
  let at' (i : Nat) (b : Bool) : List Nat := if b then [i] else []
  let field (f : Nat × Nat × Nat × Bool) : List Nat :=
    let pos := mapByte r f.1
    let len := mapByte r (f.1 + 1)
    if !f.2.2.2 then at' f.1 (pos != 0) ++ at' (f.1 + 1) (len != 0)
    else
      at' f.1 (decide (bits < pos + len)) ++ at' (f.1 + 1) (decide (len < f.2.1) || decide (f.2.2.1 < len) ||
        (f.1 == 8 && kind != 2 && len != mapByte m 7) || (f.1 == 8 && kind == 2 && decide (64 < len + mapByte m 7)))
  let mask := if kind = 4 then 12 else 32
  at' 0 (decide (2 ^ mapByte m 5 ≤ mapByte r 0)) ++ at' 1 (decide (5 < kind)) ++
    (if 5 < kind then [] else (ruleFields kind).flatMap field ++
      at' 10 (if kind = 4 ∨ kind = 5 then decide (bits < mapByte r 10 + mask) else mapByte r 10 != 0)) ++
    (List.range 5).flatMap fun j => at' (11 + j) (mapByte r (11 + j) != 0)

/-- The first failing byte of a decode map of `len` bytes; none for one that R303 accepts. -/
def decodeMapBad (m : List Byte) : Option Nat :=
  let n := mapByte m 2
  let rule (i : Nat) : List Nat :=
    let r := ruleBytes m i
    let again : Bool := (List.range i).any fun j => mapByte (ruleBytes m j) 0 == mapByte r 0
    ((if again then [0] else []) ++ ruleBad m r).map fun b => 16 + 16 * i + b
  if mapByte m 0 ≠ 1 then some 0
  else if 2 < mapByte m 1 then some 1
  else if n = 0 ∨ 15 < n ∨ m.length ≠ 16 + 16 * n then some 2
  else if wordBits m < mapByte m 4 + mapByte m 5 then some 4
  else if mapByte m 5 = 0 ∨ 8 < mapByte m 5 then some 5
  else if mapByte m 6 ≠ 0 then some 6
  else if 32 < mapByte m 7 then some 7
  else if mapField m 8 4 = 0 then some 8
  else match (List.range 4).find? fun j => mapByte m (12 + j) ≠ 0 with
    | some j => some (12 + j)
    | none => ((List.range n).flatMap rule).min?

/-! ### Decoding a packet (R304) -/

/-- A pixel as the decoder emits it: x, y, polarity and sensor time in units of TICK_PS. -/
structure Pixel where
  x : Nat
  y : Nat
  p : Nat
  t : Nat
  deriving DecidableEq, Repr

/-- The decoder's state within a packet: TH, the vector base, what it has emitted (last first) and its errors. -/
structure Decoding where
  th : Nat
  vec : Option Pixel := none
  out : List Pixel := []
  errs : Nat := 0
  deriving DecidableEq, Repr

/-- One word decoded (R304). -/
def Decoding.word (d : Decoding) (m : List Byte) (w : Nat) : Decoding :=
  let tag := bitField w (mapByte m 4) (mapByte m 5)
  match ((List.range (mapByte m 2)).map (ruleBytes m)).find? fun r => mapByte r 0 = tag with
  | none => { d with errs := d.errs + 1 }
  | some r =>
    let f (i : Nat) : Nat := bitField w (mapByte r i) (mapByte r (i + 1))
    let px : Pixel := ⟨f 2, f 4, f 6, d.th * 2 ^ mapByte m 7 + f 8⟩
    let mask (k : Nat) : Decoding := match d.vec with
      | none => { d with errs := d.errs + 1 }
      | some v =>
        let bits := bitField w (mapByte r 10) k
        let new := ((List.range k).filter fun i => natBit bits i).map fun i => { v with x := v.x + i }
        { d with out := new.reverse ++ d.out, vec := some { v with x := v.x + k } }
    match mapByte r 1 with
    | 1 => { d with out := px :: d.out }
    | 2 => { d with th := f 8 }
    | 3 => { d with vec := some px }
    | 4 => mask 12
    | 5 => mask 32
    | _ => d

/-- The whole words of a payload, in order. -/
def payloadWords (w : Nat) : Nat → List Byte → List Nat
  | 0, _ => []
  | n + 1, l => leNat (l.take w) :: payloadWords w n (l.drop w)

/-- A packet decoded: its words in order (R304). Trailing bytes count one error. -/
def decodePacket (m : List Byte) (th : Nat) (payload : List Byte) : Decoding :=
  let w := wordBits m / 8
  let d := (payloadWords w (payload.length / w) payload).foldl (fun d x => d.word m x) { th := th }
  if payload.length % w ≠ 0 then { d with errs := d.errs + 1 } else d

/-! ### Intake maps (R307–R309) -/

/-- Template and control word of a cell (R308). -/
def cellTemplate (m : List Byte) (k : Nat) : Nat := mapField m (64 + 16 * k) 8
def cellControl (m : List Byte) (k : Nat) : Nat := mapField m (72 + 16 * k) 4

/-- The event of a pixel; none where it has no mapping (R308). -/
def mapPixel (m : List Byte) (q : Pixel) : Option Word64 :=
  let cxs := mapByte m 1
  let cys := mapByte m 2
  let cx := q.x / 2 ^ cxs
  let cy := q.y / 2 ^ cys
  let ncx := mapField m 4 2
  let t := cellTemplate m (cy * ncx + cx)
  let c := cellControl m (cy * ncx + cx)
  if ncx ≤ cx ∨ mapField m 6 2 ≤ cy ∨ !natBit c 26 then none
  else
    let rxs := bitField c 0 4
    let row := bitField t 26 18 + q.y % 2 ^ cys / 2 ^ bitField c 4 4 * 2 ^ (cxs - rxs) + q.x % 2 ^ cxs / 2 ^ rxs +
      q.p * bitField c 8 18
    some (BitVec.ofNat 64 (setBitField (setBitField t 26 18 row) 17 3 1))

/-- Whether a template names a tile and row that exist here, or a device with a VALID route entry (R309). -/
def State.templateNames (s : State) (t : Nat) (rows : List Nat) : Bool :=
  let dev := bitField t 54 6
  let c := bitField t 50 4
  let tile := bitField t 44 6
  if dev = s.reg Reg.DEV_NUM then
    0 < (s.tile c tile).map.n && rows.all fun r => s.rowExists c tile r
  else s.reachable (s.reg Reg.ROUTE_E == 1) dev

/-- What the fault log names in place of a cell or entry where a map's header fails (DESIGN CHOICE). -/
def noCell : Nat := 0xFFFFFFFF

/-- Whether a cell entry is bad (R308, R309). -/
def State.cellBad (s : State) (m : List Byte) (k : Nat) : Bool :=
  let t := cellTemplate m k
  let c := cellControl m k
  let cxs := mapByte m 1
  let cys := mapByte m 2
  let base := bitField t 26 18
  let blocks := 2 ^ (cys - bitField c 4 4) * 2 ^ (cxs - bitField c 0 4)
  let top := base + (blocks - 1) + bitField c 8 18
  let rows := (List.range blocks).flatMap fun k => [base + k, base + k + bitField c 8 18]
  2 ≤ bitField t 62 2 || bitField t 60 2 != 0 || bitField t 17 3 != 0 || natBit t 0 || bitField c 27 5 != 0 ||
    mapField m (76 + 16 * k) 4 != 0 || cxs < bitField c 0 4 || cys < bitField c 4 4 ||
    (natBit c 26 && (0x3FFFF < top || top / 131072 != base / 131072 || !s.templateNames t rows))

/-- Where an intake map fails the checks of R309: its first failing cell, or `noCell` where the header fails. -/
def State.intakeMapBad (s : State) (m : List Byte) : Option Nat :=
  let ncx := mapField m 4 2
  let ncy := mapField m 6 2
  let n := ncx * ncy
  if mapByte m 0 ≠ 1 ∨ 10 < mapByte m 1 ∨ 10 < mapByte m 2 ∨ mapByte m 3 ≠ 0 ∨ ncx = 0 ∨ 4096 < ncx ∨ ncy = 0 ∨ 4096 < ncy ∨
      4096 < n ∨ mapField m 8 4 ≠ 64 + 16 * n ∨ m.length < 64 + 16 * n ∨ mapField m 12 52 ≠ 0 ∨
      ((m.drop (64 + 16 * n)).any fun b => b != 0) then some noCell
  else (List.range n).find? fun k => s.cellBad m k

/-! ### Parse graphs and flow tables (R313–R315) -/

/-- Node `i` of a graph as its 32 bytes. -/
def nodeBytes (m : List Byte) (i : Nat) : List Byte := (m.drop (16 + 32 * i)).take 32

/-- A next node, drop or emit. -/
def nextOk (nnode x : Nat) : Bool := x < nnode || x == 0xFE || x == 0xFF

/-- Whether a node is bad (R313). -/
def nodeBad (nnode : Nat) (r : List Byte) : Bool :=
  2 < mapByte r 0 || 128 < mapByte r 1 || 2 < mapByte r 3 || 16 < mapByte r 19 || 2 < mapByte r 21 || mapField r 22 10 != 0 ||
    !nextOk nnode (mapByte r 5) || ([14, 15, 16, 17].any fun i => !nextOk nnode (mapByte r i))

/-- Whether a parse graph is rejected (R313). -/
def graphBad (m : List Byte) : Bool :=
  let n := mapByte m 1
  mapByte m 0 != 1 || n == 0 || 64 < n || n ≤ mapByte m 2 || m.length != 16 + 32 * n || mapField m 3 13 != 0 ||
    (List.range n).any fun i => nodeBad n (nodeBytes m i)

/-- Where a flow table fails: its first failing entry, or `noCell` where the header fails. The checks of R309 go to the valid
entries; one that is marked neither valid nor unmapped is a reserved encoding (R315, DEDUCED). -/
def State.flowTableBad (s : State) (m : List Byte) : Option Nat :=
  let k := mapByte m 1
  let entry (i : Nat) : Nat := mapField m (16 + 8 * i) 8
  let bad (i : Nat) : Bool :=
    let t := entry i
    1 < bitField t 17 3 || (bitField t 17 3 == 1 &&
      (decide (2 ≤ bitField t 62 2) || bitField t 60 2 != 0 || natBit t 0 || !s.templateNames t [bitField t 26 18]))
  if mapByte m 0 ≠ 1 ∨ k < 4 ∨ 16 < k ∨ mapField m 2 14 ≠ 0 ∨ m.length ≠ 16 + 8 * 2 ^ k then some noCell
  else (List.range (2 ^ k)).find? bad

/-- A number read in network order from a frame. -/
def netNat (l : List Byte) : Nat := leNat l.reverse

/-- What a parse collects: the key bytes and the value. -/
structure Parsed where
  key : List Byte := []
  value : Option Nat := none
  deriving DecidableEq, Repr

/-- The walk of a frame from a node whose header begins at `at'`, at most `fuel` nodes; none where the frame is dropped
(R314). -/
def parseFrame (m frame : List Byte) (node at' : Nat) (x : Parsed) : (fuel : Nat) → Option Parsed
  | 0 => none
  | n + 1 =>
    let r := nodeBytes m node
    let limit := min 128 frame.length
    let has (ofs len : Nat) : Bool := len == 0 || at' + ofs + len ≤ limit
    let get (ofs len : Nat) : List Byte := (frame.drop (at' + ofs)).take len
    let hmode := mapByte r 0
    let lb := mapByte (get (mapByte r 2) 1) 0
    let hlen := if hmode = 0 then mapByte r 1 else if hmode = 1 then lb % 16 * 4 else (lb + 1) * 8
    let selw := mapByte r 3
    let sel := netNat (get (mapByte r 4) selw)
    let keylen := mapByte r 19
    let valw := mapByte r 21
    if (hmode ≠ 0 ∧ !has (mapByte r 2) 1) ∨ !has (mapByte r 4) selw ∨ !has (mapByte r 18) keylen ∨ !has (mapByte r 20) valw then none
    else
      let y : Parsed := { key := x.key ++ get (mapByte r 18) keylen,
                          value := if valw = 0 then x.value else some (netNat (get (mapByte r 20) valw)) }
      let hit := if selw = 0 then none else (List.range 4).find? fun i => mapField r (6 + 2 * i) 2 = sel
      let next := match hit with
        | some i => mapByte r (14 + i)
        | none => mapByte r 5
      if 48 < y.key.length ∨ next = 0xFE then none
      else if next = 0xFF then some y
      else parseFrame m frame next (at' + hlen) y n

/-- The event of a parsed frame; none where its entry is unmapped (R314, R315). -/
def flowEvent (table : List Byte) (x : Parsed) : Option Word64 :=
  let t := mapField table (16 + 8 * ((crc32c x.key).toNat % 2 ^ mapByte table 1)) 8
  if bitField t 17 3 ≠ 1 then none
  else match x.value with
    | some v => some (BitVec.ofNat 64 (if bitField t 62 2 = 1 then setBitField t 1 16 (min v 0x7FFF) else t))
    | none => some (BitVec.ofNat 64 t)

end Sys2Proof.Machine
end

