-- ==== Sys2Proof/Machine/Intake.lean ====
section
/-!
DEFINITION. The Intake ports: reception, stamping (R305, R306), skid buffers and injection (R316, R317, R322), the Rein
(R318–R321, R482), and the commands MAP_LOAD, ARM and DISARM (R221, R323).
-/
namespace Sys2Proof.Machine
open Sys2Proof

/-! ### The Rein (R318–R321) -/

/-- The Rein marks of a port's skid buffer: REIN_HWM and REIN_LWM (R318). -/
def State.reinMarks (s : State) (p : Nat) : Nat × Nat :=
  match s.skid p with
  | none => (0, 0)
  | some bw =>
    let hwm := (s.window bw.1 bw.2).size - s.reg (Reg.STOP_BYTES p)
    (hwm, hwm * s.reg (Reg.REIN_LWM_PCT p) / 100)

/-- Fill of a port's skid buffer. -/
def State.skidFill (s : State) (p : Nat) : Nat :=
  match s.skid p with
  | none => 0
  | some bw => (s.window bw.1 bw.2).fill

/-- Whether the Rein of a port is asserted: the override, else REIN_IDLE while the port is not ARMED, else the automatic
state (R319, R321); in sleep SLEEP_REIN holds the medium (R405); released until the persisted dictionary has been read (R482). -/
def State.reinLevel (s : State) (p : Nat) : Bool :=
  let o := s.reg (Reg.REIN_OVERRIDE p)
  if s.reg Reg.BRINGUP_STAGE % 128 < 2 then false
  else if o = 1 then true
  else if o = 2 then false
  else if s.reg Reg.PWR_STATE ≠ 0 ∧ s.reg Reg.SLEEP_REIN = 1 ∧ s.reg (Reg.PORT_STATE p) = 1 then true
  else if s.reg (Reg.PORT_STATE p) ≠ 1 then s.reg (Reg.REIN_IDLE p) == 1
  else (s.port p).rein

/-- A PAUSE or PFC frame of an Ethernet port, where FC_MODE asks for one (R320). -/
def State.sendPause (s : State) (p quanta : Nat) : State :=
  let e := p - 4
  let mode := s.reg (Reg.FC_MODE e)
  if p < 4 ∨ mode = 0 then s
  else
    let s1 := s.emit (.pause e quanta (if mode = 2 then some (s.reg (Reg.PFC_CLASSES e) % 256) else none))
    s1.setPort p { s1.port p with pauseAt := s.now }

/-- REIN_STATE follows the Rein, and the pin of a sensor port, which is low while asserted, with it; a change is sent by
TPDO2 and by flow control (R319, R320, R324, R369, R482). -/
def State.reinDrive (s0 : State) (p : Nat) : State :=
  let v := s0.reinLevel p
  let s := if p < 4 then s0.setBit Reg.PIN_IN p (!v) else s0
  if (s.reg (Reg.REIN_STATE p) == 1) = v then s
  else
    ((s.setReg (Reg.REIN_STATE p) (boolNat v)).wantTpdo 2).sendPause p
      (if v then s.reg (Reg.PAUSE_QUANTA (p - 4)) else 0)

/-- The automatic Rein asserted once the fill reaches REIN_HWM, whether by an append or because a write has lowered the mark
(R318). -/
def State.reinAssert (s : State) (p : Nat) : State :=
  if (s.skid p).isSome ∧ !(s.port p).rein ∧ 0 < (s.reinMarks p).1 ∧ (s.reinMarks p).1 ≤ s.skidFill p then
    (((s.setPort p { s.port p with rein := true, reinAt := s.now }).bump (Reg.REIN_ASSERTS p)).reinDrive p)
  else s

/-- REIN_RELEASE: the automatic Rein released once the fill is below REIN_LWM, or there is no skid buffer any more, and
REIN_MIN_US has passed (R318). -/
def execReinRelease (p : PortId) (s : State) : Host.Outcome State Fault Refusal :=
  let x := s.port p.val
  if x.rein ∧ ((s.skid p.val).isNone ∨ s.skidFill p.val < (s.reinMarks p.val).2) ∧ x.reinAt + s.reg (Reg.REIN_MIN_US p.val) * 1000 ≤ s.now then
    .next ((((s.setPort p.val { x with rein := false }).bumpBy (Reg.REIN_TIME_US p.val) ((s.now - x.reinAt) / 1000)).reinDrive
      p.val))
  else .next s

/-- PAUSE_REPEAT: while the Rein stays asserted, the frame again each time half of its pause has elapsed (R320). -/
def execPauseRepeat (e : EthId) (s : State) : Host.Outcome State Fault Refusal :=
  let p := 4 + e.val
  let half := s.reg (Reg.PAUSE_QUANTA e.val) * 2048 / 200
  if s.reg (Reg.REIN_STATE p) = 1 ∧ (s.port p).pauseAt + half ≤ s.now then
    .next (s.sendPause p (s.reg (Reg.PAUSE_QUANTA e.val)))
  else .next s

/-- REIN_PIN_FAULT: a REIN pin that disagrees with the driven state for 1 µs: its level read back is high while asserted or low
while released. Counted and recorded once per occurrence; the Rein itself is unchanged (R482). -/
def execReinPinFault (p : Fin 4) (s : State) : Host.Outcome State Fault Refusal :=
  .next (((s.setBit Reg.PIN_IN p.val (s.reg (Reg.REIN_STATE p.val) == 1)).bump Reg.REIN_PIN_FAULT).logFault
    { cls := .supply, source := some 3, unit := p.val })

/-- ETH_LINK_UP_CHANGE: the PCS of an Ethernet port gains or loses lock (R325). -/
def execEthLinkUpChange (e : EthId) (up : Bool) (s : State) : Host.Outcome State Fault Refusal :=
  .next (s.setReg (Reg.LINK_UP e.val) (boolNat up))

/-! ### Stamping (R305, R306) -/

/-- The window open now, or the next step to be released (R306). -/
def State.streamNow (s : State) : Nat := if s.fabric.windowOpen then s.fabric.window else s.reg Reg.STEP_RELEASED + 1

/-- The rebased step of a device time under a port's anchors (R102, R306). Under Trot without an anchor, which no step has
set, it is the next step (DEDUCED). -/
def State.rebase (s : State) (x : IntakePort) (t : Int) : Nat :=
  let len : Int := max (s.reg Reg.STEP_LEN_NS) 1
  if s.reg Reg.GAIT = 1 then
    match s.fabric.anchor with
    | some a => ((a.1 : Int) + (t - a.2).fdiv len).toNat
    | none => s.streamNow
  else match x.anchor with
    | some a => ((a.1 : Int) + (t - a.2).fdiv len).toNat
    | none => s.streamNow

/-- An event to be stamped: its word, none where the map discards it, and the sensor time in ns (R305). -/
abbrev Unstamped := Option Word64 × Int

/-- A packet's events stamped: their rebased steps, the number clamped to the arrival, and the port with its anchors; `sender`
says that sensor time rules: a packet stamped by arrival neither sets nor moves D (R305, R306). Events that the map discards are
stamped too and count as a packet's first and last (DEDUCED), and a sensor time in ps is taken in whole ns (DEDUCED). -/
def State.stampPacket (s : State) (p : Nat) (sender : Bool) (l : List Unstamped) : List (Nat × Word64) × Nat × IntakePort :=
  let x0 := s.port p
  let arr : Int := s.clock
  let last : Int := (l.getLast?.map (·.2)).getD arr
  let fresh := x0.d.isNone
  let x1 := if sender ∧ fresh then { x0 with d := some (arr - last) } else x0
  let trot := s.reg Reg.GAIT == 1
  let d := x1.d.getD 0
  let time (t : Int) : Int := if !sender then arr else if trot ∧ arr < t + d then arr else t + d
  let late := if sender ∧ trot then (l.filter fun e => arr < e.2 + d).length else 0
  let x2 := match l with
    | e :: _ => if x1.anchor.isNone then { x1 with anchor := some (s.streamNow, time e.2) } else x1
    | [] => x1
  let slew : Int := s.reg (Reg.SLEW_NS p)
  let moved := d + max (-slew) (min slew (arr - last - d))
  let x3 := if sender ∧ trot ∧ !fresh ∧ l ≠ [] then { x2 with d := some moved } else x2
  (l.filterMap fun e => e.1.map fun w => (s.rebase x3 (time e.2), w), late, if l = [] then x0 else x3)

/-! ### Skid buffers (R316, R322) -/

/-- The batches of a packet's events, of which `ws` is the one being gathered for step `b`, last event first: runs of consecutive
events that share a step, at most 4,096 long (R316). -/
def batchesFrom (b : Nat) (ws : List Word64) : List (Nat × Word64) → List (Nat × List Word64)
  | [] => [(b, ws.reverse)]
  | (b', w) :: l =>
    if b' = b ∧ ws.length < 4096 then batchesFrom b (w :: ws) l else (b, ws.reverse) :: batchesFrom b' [w] l

/-- Runs of consecutive events that share a step, at most 4,096 long (R316). -/
def batches : List (Nat × Word64) → List (Nat × List Word64)
  | [] => []
  | (b, w) :: l => batchesFrom b [w] l

/-- A batch record (R316). -/
def batchRecord (b : Nat × List Word64) : List Byte :=
  let body := leBytes 6 b.1 ++ leBytes 2 b.2.length ++ List.replicate 8 0 ++ b.2.flatMap fun w => leBytes 8 w.toNat
  body ++ List.replicate (roundUp body.length 16 - body.length) 0

/-- The step whose completion carries a loss at a skid buffer: the open window's, or the next released where none is open, or
where that step is complete already, as it is in a Walk that waits (R322; the last is DEDUCED). -/
def State.lossStep (s : State) : Nat :=
  if s.fabric.windowOpen ∧ (s.fabric.flights.any fun f => f.n == s.fabric.window) then s.fabric.window
  else s.reg Reg.STEP_RELEASED + 1

/-- A dropped batch: counted, recorded once per step, told once per second, and carried by the open window's step or the next
one (R105, R322). -/
def State.skidDrop (s : State) (p n : Nat) : State :=
  let s1 := s.bumpBy (Reg.OVF_DROP p) n
  let s2 := (s1.logGated 25 p s.streamNow { cls := .drop, status := .dropped, source := some 3, unit := p }).stepStatus s.lossStep
    .dropped
  if s2.gated 26 p s.second then s2 else (s2.gate 26 p s.second).emcy 0xFF02 .dropped 3 p

/-- Batches appended one after another; how many were dropped (R283, R322). -/
def State.appendBatches (s : State) (p : Nat) : List (Nat × List Word64) → Nat × State
  | [] => (0, s)
  | b :: l =>
    let r := match s.skid p with
      | some bw => s.windowAppend bw.1 bw.2 (batchRecord b)
      | none => (none, s)
    match r.1 with
    | some _ =>
      ((r.2.bumpBy (Reg.EVENTS_IN p) b.2.length).reinAssert p).appendBatches p l
    | none =>
      let x := (r.2.skidDrop p b.2.length).appendBatches p l
      (x.1 + 1, x.2)

/-- The events of one packet stamped and appended to the port's skid buffer. -/
def State.takeEvents (s : State) (p : Nat) (sender : Bool) (l : List Unstamped) : State :=
  let st := s.stampPacket p sender l
  let s1 := (s.setPort p st.2.2).bumpBy (Reg.TS_FUTURE p) st.2.1
  let r := s1.appendBatches p (batches st.1)
  if 0 < r.1 then r.2.bump (Reg.OVF_PKTS p) else r.2

/-! ### Sensor ports (R300, R304) -/

/-- A reception error recorded once per port and step (R300). -/
def State.rxError (s : State) (kind p : Nat) : State :=
  s.logGated kind p s.streamNow { cls := .rxError, status := .dropped, source := some 3, sev := some .info, unit := p }

/-- A packet that passes the checks: decoded, mapped, stamped and appended (R304). -/
def State.takePacket (s : State) (p : Nat) (payload : List Byte) : State :=
  let x := s.port p
  match x.decodeMap, x.intakeMap with
  | some m, some im =>
    let d := decodePacket m x.th payload
    let px := d.out.reverse
    let ev := px.map fun q => (mapPixel im q, ((q.t * mapField m 8 4 / 1000 : Nat) : Int))
    let s1 := (((s.bump (Reg.RX_PKTS p)).bumpBy (Reg.RX_BYTES p) payload.length).bumpBy (Reg.DECODE_ERR p) d.errs).bumpBy
      (Reg.NOMAP p) (ev.countP fun e => e.1.isNone)
    (s1.setPort p { x with th := d.th }).takeEvents p (s.reg (Reg.TSMODE p) == 1) ev
  | _, _ => s

/-- CSI2_PACKET_RECEIVE: a long packet at a sensor port, with what its header ECC and payload CRC found (R300). -/
def execCsi2PacketReceive (p : Fin 4) (hdr : Ecc) (crcOk : Bool) (vc : Fin 16) (dt : BitVec 6) (payload : List Byte) (s : State) :
    Host.Outcome State Fault Refusal :=
  let dtmask := match (s.port p.val).decodeMap with
    | some m => mapByte m 3
    | none => 0
  let known : Bool := dt.toNat / 8 == 6 && natBit dtmask (dt.toNat % 8)
  if s.reg Reg.PWR_STATE ≠ 0 then .next (s.bump Reg.SLEEP_RX_DROP)
  else if hdr = .uncorrectable then .next ((s.bump (Reg.HDR_ERR p.val)).rxError 27 p.val)
  else
    let s1 := if hdr = .corrected then s.bump (Reg.RX_HDR_CORR p.val) else s
    if !crcOk then .next ((s1.bump (Reg.CRC_ERR p.val)).rxError 28 p.val)
    else if vc.val ≠ s.reg (Reg.VC p.val) ∨ !known then .next (s1.bump (Reg.RX_IGNORED p.val))
    else if s.reg (Reg.PORT_STATE p.val) ≠ 1 then .next (s1.bump (Reg.RX_DISARMED p.val))
    else .next (s1.takePacket p.val payload)

/-! ### Ethernet ports (R311, R312, R314) -/

/-- EtherType of a frame and where its payload begins, one 802.1Q tag passed over (R310). -/
def etherType (frame : List Byte) : Nat × Nat :=
  let ty (i : Nat) : Nat := netNat ((frame.drop i).take 2)
  if ty 12 = 0x8100 then (ty 16, 18) else (ty 12, 14)

/-- Whether a frame is addressed to the port itself. -/
def State.ownFrame (s : State) (e : Nat) (frame : List Byte) : Bool := frame.take 6 == leBytes 6 (s.viewObj (Reg.ETH_MAC e))

/-- The address filter: own unicast, broadcast, listed multicast, or everything (R310). -/
def State.frameWanted (s : State) (e : Nat) (frame : List Byte) : Bool :=
  let dst := leNat (frame.take 6)
  s.reg (Reg.PROMISC e) == 1 || s.ownFrame e frame || dst == 0xFFFFFFFFFFFF ||
    (List.range 8).any fun i => dst != 0 && bitField (s.reg (Reg.MCAST_FILTER e)) (48 * i) 48 == dst

/-- The sequence number of a frame compared with the last of its stream, of the first 64 streams since ARM (R312). -/
def State.noteSequence (s : State) (p stream seq : Nat) : State :=
  let x := s.port p
  match Assoc.get? stream x.seqs with
  | none => if x.seqs.length < 64 then s.setPort p { x with seqs := Assoc.set stream seq x.seqs } else s
  | some last =>
    let k := (seq + 65536 - (last + 1) % 65536) % 65536
    let s1 := s.setPort p { x with seqs := Assoc.set stream seq x.seqs }
    if k = 0 then s1 else if k < 32768 then s1.bumpBy (Reg.SEQ_GAP p) k else s.bump (Reg.SEQ_OOO p)

/-- The header of the 0x88B5 encapsulation holds: EFV, the reserved bits and FTYPE, and in an EVENTS frame NEV; a MGMT frame has
NEV, SEQ, STREAM and TBASE 0 (R312, R366). -/
def State.encapsulationOk (s : State) (body : List Byte) : Bool :=
  let range := s.reg Reg.HFV_RANGE
  let efv := mapByte body 0 % 16
  let nev := mapField body 2 2
  range % 256 ≤ efv && efv ≤ range / 256 && mapByte body 0 / 16 == 0 && mapField body 16 8 == 0 && decide (24 ≤ body.length) &&
    (if mapByte body 1 = 2 then mapField body 2 14 == 0
     else mapByte body 1 == 1 && decide (1 ≤ nev) && decide (nev ≤ 1146) && decide (24 + 8 * nev ≤ body.length))

/-- A received PAUSE or PFC frame acted on: it holds the port's own transmitter for its quanta of 20.48 ns, or lets it go. A PFC
frame holds it where it names class 0, in which the device's untagged frames travel (R310; the class is DESIGN CHOICE). -/
def State.takePause (s : State) (p : Nat) (body : List Byte) : State :=
  let op := netNat (body.take 2)
  let quanta (i : Nat) : Nat := netNat ((body.drop i).take 2)
  let hold (q : Nat) : State := (s.setPort p { s.port p with txUntil := s.now + q * 2048 / 100 }).releaseTx p
  if op = 0x0001 then hold (quanta 2)
  else if op = 0x0101 ∧ natBit (quanta 2) 0 then hold (quanta 4)
  else s

/-- An EVENTS frame (R312). -/
def State.takeEventFrame (s : State) (p len : Nat) (body : List Byte) : State :=
  if !s.encapsulationOk body then s.bump (Reg.DECODE_ERR p)
  else
    let words := payloadWords 8 (mapField body 2 2) (body.drop 24)
    let t : Int := mapField body 8 8
    let s1 := ((s.bump (Reg.RX_PKTS p)).bumpBy (Reg.RX_BYTES p) len).noteSequence p (mapField body 6 2) (mapField body 4 2)
    s1.takeEvents p (s.reg (Reg.TSMODE p) == 1) (words.map fun w => (some (BitVec.ofNat 64 w), t))

/-- A frame taken through the parse graph; it is stamped by arrival (R305, R314, R315). -/
def State.takeParsed (s : State) (p : Nat) (graph frame : List Byte) (len : Nat) : State :=
  let s1 := (s.bump (Reg.RX_PKTS p)).bumpBy (Reg.RX_BYTES p) len
  match parseFrame graph frame (mapByte graph 2) 0 {} 16 with
  | none => s1.bump (Reg.PG_DROP p)
  | some x => match flowEvent ((s.port p).intakeMap.getD []) x with
    | none => (s1.bump (Reg.NOMAP p)).takeEvents p false [(none, (s.clock : Int))]
    | some w => s1.takeEvents p false [(some w, (s.clock : Int))]

/-- ETH_FRAME_RECEIVE: a frame with its FCS as the last four bytes, and whether that is right; the first case of R311 that
applies decides. MGMT frames carry the HTP commands, which are rows of their own. -/
def execEthFrameReceive (e : EthId) (fcsOk : Bool) (frame : List Byte) (s : State) : Host.Outcome State Fault Refusal :=
  let p := 4 + e.val
  let data := frame.take (frame.length - 4)
  let ty := etherType data
  let body := data.drop ty.2
  let mgmt : Bool := ty.1 == 0x88B5 && mapByte body 1 == 2
  if s.reg Reg.PWR_STATE ≠ 0 then .next (s.bump Reg.SLEEP_RX_DROP)
  else if !fcsOk then .next ((s.bump (Reg.CRC_ERR p)).rxError 28 p)
  else if frame.length < 64 ∨ 9216 < frame.length then .next ((s.bump (Reg.HDR_ERR p)).rxError 27 p)
  else if !s.frameWanted e.val data then .next (s.bump (Reg.RX_IGNORED p))
  else if ty.1 = 0x8808 then .next ((s.bump (Reg.PAUSE_RX p)).takePause p body)
  else if s.reg (Reg.PORT_STATE p) ≠ 1 ∧ !mgmt then .next (s.bump (Reg.RX_DISARMED p))
  else if mgmt ∧ s.ownFrame e.val data then
    .next (s.bump (if s.encapsulationOk body then Reg.RX_PKTS p else Reg.DECODE_ERR p))
  else if ty.1 = 0x88B5 ∧ !mgmt then .next (s.takeEventFrame p frame.length body)
  else match (s.port p).graph with
    | some g => .next (s.takeParsed p g data frame.length)
    | none => .next (s.bump (Reg.RX_IGNORED p))

/-! ### Injection (R317) -/

/-- Event `i` of the head batch of a skid buffer. -/
def State.skidEvent (s : State) (bw : Nat × Nat) (i : Nat) : Event :=
  let x := s.window bw.1 bw.2
  { word := BitVec.ofNat 64 (leNat (s.windowRead x ((x.rd.toNat + 16 + 8 * i) % x.size) 8)) }

/-- The head batch consumed by the port itself (R316). -/
def State.skidConsume (s : State) (p nev : Nat) (bw : Nat × Nat) : State :=
  let x := s.window bw.1 bw.2
  let n := roundUp (16 + 8 * nev) 16
  (s.setWindow bw.1 bw.2 { x with rd := x.rd + BitVec.ofNat 32 n }).setPort p { s.port p with taken := 0 }

/-- At most `fuel` events of a port's head batches injected under window `n`; `closed` stops at the batches appended before
the close (R317). -/
def State.injectSome (s : State) (p n : Nat) (closed : Bool) : Nat → State
  | 0 => s
  | k + 1 => match s.skid p, s.skidHead p with
    | some bw, some h =>
      if n < h.1 ∨ (closed ∧ !s.portBusy p n) then s
      else
        let x := s.port p
        let ev := s.skidEvent bw x.taken
        let ok := s.streamCheck (s.epochOf n) ev false
        match (if ok then s.injectCentre (17 + p) n ev else some (s.bump (Reg.INJ_REJECT p))) with
        | none => s
        | some s1 =>
          let s2 := if ok then s1.bump (Reg.EVENTS_INJ p) else s1
          let s3 := if ok ∧ h.1 < n then s2.bump Reg.STREAM_LATE else s2
          let s4 := if h.2 ≤ x.taken + 1 then s3.skidConsume p h.2 bw
            else s3.setPort p { s3.port p with taken := x.taken + 1 }
          s4.injectSome p n closed k
    | _, _ => s

/-- INTAKE_INJECT: one cycle of a port: up to two events of its head batches into the open window, or the rest of those
due before the close of the window that has closed, after which the port is done with it (R98, R317). -/
def execIntakeInject (p : PortId) (s : State) : Host.Outcome State Fault Refusal :=
  let n := s.fabric.window
  if s.reg (Reg.PORT_STATE p.val) = 0 then .next s
  else if s.fabric.windowOpen then .next (if s.streamOpen then s.injectSome p.val n false 2 else s)
  else if Assoc.getD s.fabric.sdone (17 + p.val) 0 < n then
    let s1 := s.injectSome p.val n true 2
    if s1.portBusy p.val n then .next s1
    else .next (s1.modFabric fun f => { f with sdone := Assoc.set (17 + p.val) n f.sdone })
  else .next s

/-! ### MAP_LOAD, ARM, DISARM (R221, R323) -/

/-- Events in the batches of a skid buffer from offset RD, at most `fuel` batches. -/
def State.skidEvents (s : State) (x : Window) : Nat → Nat
  | 0 => 0
  | k + 1 =>
    if x.fill = 0 then 0
    else
      let nev := leNat (s.windowRead x ((x.rd.toNat + 6) % x.size) 2)
      nev + s.skidEvents { x with rd := x.rd + BitVec.ofNat 32 (roundUp (16 + 8 * nev) 16) } k

/-- Every batch left in a port's skid buffer discarded and counted (R323). -/
def State.discardSkid (s : State) (p : Nat) : State :=
  match s.skid p with
  | none => s
  | some bw =>
    let x := s.window bw.1 bw.2
    let n := s.skidEvents x (x.fill / 16) - (s.port p).taken
    ((s.bumpBy (Reg.DISARM_DISCARD p) n).setWindow bw.1 bw.2 { x with rd := x.wr }).setPort p
      { s.port p with taken := 0, closeWr := x.wr }

/-- A port disarmed with its held batches discarded (R323, MODE 1): it is done with a window that has closed, and with one still
open at its close. -/
def State.disarmNow (s : State) (p : Nat) : State :=
  if s.reg (Reg.PORT_STATE p) = 0 then s
  else
    let s1 := (s.discardSkid p).setReg (Reg.PORT_STATE p) 0
    (s1.reinDrive p).modFabric fun f => if f.windowOpen then f else { f with sdone := Assoc.set (17 + p) f.window f.sdone }

/-- A map judged: none where it holds, else the failing place of a decode map, an intake map or a flow table, and 0 for a parse
graph or a kind that the port does not take (R303, R309, R313, R315). -/
def State.mapBad (s : State) (p kind : Nat) (m : List Byte) : Option Nat :=
  match kind with
  | 0 => if 4 ≤ p then some 0 else decodeMapBad m
  | 1 => if 4 ≤ p then s.flowTableBad m else s.intakeMapBad m
  | _ => if p < 4 ∨ graphBad m then some 0 else none

/-- MAP_LOAD: a map validated and loaded into a disarmed port; a decode map, intake map or flow table that fails is recorded
(R221, R303, R309, R313, R315). -/
def execMapLoad (s : State) : Host.Outcome State Fault Refusal :=
  match s.runningOp 3 .mapLoad with
  | none => .next s
  | some run =>
    let f (lo n : Nat) : Nat := entryField run.cmd lo n
    let p := f 8 1
    let m := s.bytes (f 12 4) (f 16 4)
    if s.reg (Reg.PORT_STATE p) ≠ 0 then .next (s.conclude 3 .refused 0 0 0)
    else match s.mapBad p (f 9 1) m with
      | some k =>
        let told : Bool := f 9 1 == 1 || (f 9 1 == 0 && p < 4)
        let note : FaultNote := { cls := .configReject, status := .badFormat, source := some 3, unit := p, ref := k }
        .next ((if told then s.logFault note else s).conclude 3 .badFormat 0 0 0)
      | none =>
        let x := s.port p
        let y : IntakePort := match f 9 1 with
          | 0 => { x with decodeMap := some m }
          | 1 => { x with intakeMap := some m }
          | _ => { x with graph := some m }
        .next ((s.setPort p y).conclude 3 .ok 0 0 0)

/-- ARM: the port's anchors, sequence table and buffers cleared, and the port ARMED (R323). Where SKID_BASE names no suitable
window R323 asks for REFUSED and R282 for BAD_FORMAT, and no ruling chooses: the rule of the command itself is followed (DESIGN
CHOICE, log entry 103). -/
def execArm (s : State) : Host.Outcome State Fault Refusal :=
  match s.runningOp 3 .arm with
  | none => .next s
  | some run =>
    let p := entryField run.cmd 8 1
    let x := s.port p
    let maps : Bool := if p < 4 then x.decodeMap.isSome && x.intakeMap.isSome else x.graph.isNone || x.intakeMap.isSome
    match s.skid p with
    | none => .next (s.conclude 3 .refused 0 0 0)
    | some bw =>
      if !s.harnessLoaded ∨ !maps then .next (s.conclude 3 .refused 0 0 0)
      else if (s.window bw.1 bw.2).size ≤ s.reg (Reg.STOP_BYTES p) then .next (s.conclude 3 .badFormat 0 0 0)
      else
        let s1 := s.discardSkid p
        let y := { s1.port p with th := 0, d := none, anchor := none, seqs := [] }
        .next ((((s1.setPort p y).setReg (Reg.PORT_STATE p) 1).reinDrive p).conclude 3 .ok 0 0 0)

/-- DISARM: acceptance stops at once; with MODE 0 the command completes when INTAKE_INJECT has emptied the skid buffer, with
MODE 1 the held batches are discarded (R323). -/
def execDisarm (s : State) : Host.Outcome State Fault Refusal :=
  match s.runningOp 3 .disarm with
  | none => .next s
  | some run =>
    let p := entryField run.cmd 8 1
    if entryField run.cmd 9 1 = 1 ∨ s.skidFill p = 0 then .next ((s.disarmNow p).conclude 3 .ok 0 0 0)
    else if s.reg (Reg.PORT_STATE p) = 1 then .next ((s.setReg (Reg.PORT_STATE p) 2).reinDrive p)
    else .next s

end Sys2Proof.Machine
end

