-- ==== Sys2Proof/Machine/Unload.lean ====
section
/-!
DEFINITION. HARNESS_UNLOAD (R235, R236, R257, R270, R277, R282, R323).
-/
namespace Sys2Proof.Machine
open Sys2Proof

/-- The bound queues of the harness: those from 1 to 32,511 (R257). -/
def State.harnessQueues (s : State) : List (Nat × Queue) :=
  s.queues.filter fun q => !isFirmwareQueue q.1 && q.2.qstate != .unbound

/-- Every harness command queue that is not DISABLED aborted (R227, R235). -/
def State.abortHarness (s : State) : State :=
  (s.harnessQueues.filter fun q => q.2.kind == .command && q.2.qstate != .disabled && q.2.qstate != .aborting).foldl
    (fun s q => s.abortQueue q.1) s

/-- A harness queue closed without MSG_REQ returns and then UNBOUND (R251, R257). -/
def State.unbindQueue (s : State) (q : Nat) : State :=
  let s1 := if (s.queue q).kind = .msgReq then s.bump Reg.Q_RESETS else s.queueReset q
  { s1 with queues := Assoc.erase q s1.queues }

/-- Every running STEP ended at its safe point, the next release (R104, R228, R235). -/
def State.endRuns (s : State) : State :=
  (s.fabric.runs.filter fun r => r.remaining != some 0).foldl State.endRun s

/-- Whether a Hitch homed on this device differs from the load snapshot (R270). -/
def Hitch.differs (x : Hitch) : Bool := x.count != x.snapCount || x.target != x.snapTarget

/-- The Hitches of this device that differ from the load snapshot (R236, R270). -/
def State.dirtyHitches (s : State) : List Nat :=
  (s.hitches.filter fun x => (x.2.homeDev.isNone || x.2.homeDev == some (s.reg Reg.DEV_NUM)) && x.2.differs).map (·.1)

/-- The comparison of step 5: counted, and the first differing Hitch recorded (R236). -/
def State.noteDirty (s : State) (l : List Nat) : State :=
  match l with
  | [] => s
  | h :: _ => (s.bump Reg.HITCH_DIRTY).logFault { cls := .hitch, ref := h }

/-- RESULT of HARNESS_UNLOAD (R236). -/
def dirtyResult (n : Nat) : Nat := packFields [(0, 1, if n = 0 then 0 else 1), (16, 16, min n 0xFFFF)]

/-- What the end of a harness returns to its state at device start: windows, bank ownership, user keys, Hitches and every
harness structure (R270, R277, R282, R428). -/
def State.dropHarness (s : State) : State :=
  let s1 : State := { s.noHarness with
    windows := s.windows.filter fun w => w.1 / 32 == 15 && 24 ≤ w.1 % 32,
    hitches := [],
    security := { s.security with keys := s.security.keys.filter fun k => !(0x8000 ≤ k.1 && k.1 ≤ 0x803F) } }
  let s2 := s1.clearRegs fun i => i == 0x2410
  ((s2.setReg Reg.HARNESS_MEAS 0).setReg Reg.FABRIC_STATE 0).setReg Reg.HARNESS_STATE 0

/-- Step 3 on a quiet device: sequencers stopped and queues aborted (R235). Intake ports are disarmed with MODE 1 (R323). -/
def State.unloadStop (s : State) : State :=
  (([0, 1, 2, 3, 4, 5] : List Nat).foldl State.disarmNow (s.setReg Reg.SEQ_RUN 0)).abortHarness

/-- Steps 4 and 5: queues closed, Hitches compared (R235). -/
def State.unloadEnd (s : State) : State :=
  let s1 := (s.harnessQueues.map (·.1)).foldl State.unbindQueue s
  let l := s1.dirtyHitches
  (s1.noteDirty l).dropHarness.conclude 0 .ok 0 (dirtyResult l.length) 0

/-- Steps 3 to 5: the queues are closed once every command queue is DISABLED, its commands completed and their records written
(R227, R235, R253, R257). -/
def State.unloadNow (s : State) : State :=
  let s1 := s.unloadStop
  if s1.harnessQueues.all fun q => q.2.kind != .command || q.2.qstate == .disabled then s1.unloadEnd else s1

/-- Whether the device is as step 3 asks: no step in flight, no sweep running, no journal pending (R235). -/
def State.unloadQuiet (s : State) : Bool :=
  s.noStep && s.fabric.runs == [] && s.reg Reg.SWEEP_BUSY == 0 && s.reg Reg.JRNL_PENDING == 0 && s.learning.ending.isNone

/-- HARNESS_UNLOAD: refused while a STEP runs, a step is in flight or a fabric operation is in progress, unless FORCE; then
the waits of R235 and the unload. The open epoch's gathering goes with the harness (R235). -/
def execHarnessUnload (s : State) : Host.Outcome State Fault Refusal :=
  match s.runningOp 0 .harnessUnload with
  | none => .next s
  | some run =>
    if s.harness.unloading then .next (if s.unloadQuiet then s.unloadNow else s)
    else
      let busy : Bool := s.fabric.runs != [] || !s.noStep || s.learning.ending.isSome || s.fabric.hold != []
      let force := natBit (entryField run.cmd 8 1) 0
      if busy && !force then .next (s.conclude 0 .refused 0 0 0)
      else
        let s1 : State := { s.setReg Reg.HARNESS_STATE 3 with harness := { s.harness with unloading := true } }
        .next (if force then s1.abortHarness.endRuns else s1)

end Sys2Proof.Machine
end

