-- ==== Sys2Proof/Machine/Lanes.lean ====
section
/-!
DEFINITION. The lanes of Tether links (R327–R331): 66-bit blocks and their scrambler, ordered sets, codewords of RS(136,128), and
the alignment, deskew and clock compensation of a receiver.
-/
namespace Sys2Proof

/-! ### Ordered sets (R328) -/

/-- The block type of every control block (R327). -/
def orderedType : Nat := 0x4B

/-- PATTERN (R328), and how it arrives on a lane of inverted polarity (R329). -/
def setPattern : Nat := 0x2A5C
def invertedPattern : Nat := 0x15A3

/-- A block as it is sent on a lane whose polarity is inverted (R329). -/
def Block.inverted (b : Block) : Block := ⟨~~~b.sync, ~~~b.bits⟩

/-- A block with a valid sync header (R327). -/
def Block.valid (b : Block) : Bool := b.sync == 1 || b.sync == 2

/-- A control block (R327). -/
def Block.control (b : Block) : Bool := b.sync == 2

/-- The block type of a control block. -/
def Block.kind (b : Block) : Nat := bitField b.bits.toNat 0 8

/-- A field of an ordered set, numbered across the 56 bits that follow the block type (R328). -/
def Block.field (b : Block) (lo n : Nat) : Nat := bitField b.bits.toNat (8 + lo) n

/-- Whether a block is an ordered set of the kind given, sent unscrambled (R328). -/
def Block.isSet (ost : Nat) (b : Block) : Bool :=
  b.control && b.kind == orderedType && b.field 0 8 == ost && b.field 42 14 == setPattern

end Sys2Proof

namespace Sys2Proof.Machine
open Sys2Proof

/-- What the other end's TS1 or TS2 tells: its device, link, protocol range, good lanes and WIDTH (R328). -/
structure Ts1 where
  dev : Nat
  link : Nat
  tpvMin : Nat
  tpvMax : Nat
  good : Nat
  width : Nat
  deriving DecidableEq, Repr

/-- An ordered set read (R328). -/
def tsOf (b : Block) : Ts1 :=
  { dev := b.field 13 6, link := b.field 10 3, tpvMin := b.field 19 4, tpvMax := b.field 23 4, good := b.field 27 4,
    width := b.field 31 3 }

/-- Whether the last `n` blocks of a lane are one ordered set of the kind given, repeated (R333, R350). -/
def lastSets (ost n : Nat) (l : List Block) : Option Block :=
  match l.reverse with
  | [] => none
  | b :: _ => if n ≤ l.length ∧ (l.reverse.take n).all (· == b) ∧ b.isSet ost then some b else none

/-! ### The scrambler (R327) -/

/-- The self-synchronising descrambler x⁵⁸ + x³⁹ + 1 over 64 bits, given the last 58 bits received, the oldest lowest: the data
and the last 58 bits afterwards. -/
def descramble (st bits : Nat) : Nat × Nat :=
  let all := st % 2 ^ 58 + bits * 2 ^ 58
  ((bits ^^^ (all / 2 ^ 19) ^^^ all) % 2 ^ 64, all / 2 ^ 64)

/-- The scrambler over `n` bits, at most 39. -/
def scrambleBits (st n bits : Nat) : Nat × Nat :=
  let out := (bits ^^^ (st / 2 ^ 19) ^^^ st) % 2 ^ n
  (out, (st % 2 ^ 58 + out * 2 ^ 58) / 2 ^ n)

/-- The scrambler over 64 bits, given the last 58 bits sent. -/
def scramble64 (st bits : Nat) : Nat × Nat :=
  let a := scrambleBits st 39 (bits % 2 ^ 39)
  let b := scrambleBits a.2 25 (bits / 2 ^ 39)
  (a.1 + b.1 * 2 ^ 39, b.2)

/-! ### RS(136,128) (R330) -/

/-- x times a polynomial of GF(2⁸), by x⁸ + x⁴ + x³ + x² + 1. -/
def gfTwice (a : Nat) : Nat := if a < 128 then 2 * a else (2 * a) ^^^ 0x11D

/-- The product in GF(2⁸). -/
def gfMul (a b : Nat) : Nat :=
  ((List.range 8).foldl (fun (x : Nat × Nat) i => (if natBit b i then x.1 ^^^ x.2 else x.1, gfTwice x.2)) (0, a)).1

/-- A power of α. -/
def gfAlpha (k : Nat) : Nat := (List.range (k % 255)).foldl (fun x _ => gfTwice x) 1

/-- The inverse of an element other than 0: its power 254. -/
def gfInv (a : Nat) : Nat :=
  let sq (x : Nat) : Nat := gfMul x x
  ((List.range 7).foldl (fun (x : Nat × Nat) _ => let s := sq x.2; (gfMul x.1 s, s)) (1, a)).1

/-- A codeword or a polynomial of it at a power of α, byte 0 being the highest coefficient. The spec does not order the bytes of
the code (DESIGN CHOICE). -/
def gfAt (k : Nat) (l : List Nat) : Nat := let x := gfAlpha k; l.foldl (fun a b => gfMul a x ^^^ b) 0

/-- The eight syndromes of a codeword. -/
def syndromes (l : List Nat) : List Nat := (List.range 8).map fun k => gfAt k l

/-- The generator with the roots α⁰ to α⁷, highest coefficient first. -/
def rsGenerator : List Nat :=
  (List.range 8).foldl (fun g k => (g ++ [0]).zipWith (· ^^^ ·) (0 :: g.map fun c => gfMul c (gfAlpha k))) [1]

/-- The eight parity bytes of 128 data bytes. -/
def rsParity (l : List Nat) : List Nat :=
  l.foldl (fun r b =>
    let f := b ^^^ r.getD 0 0
    (r.drop 1 ++ [0]).zipWith (fun a g => a ^^^ gfMul f g) (rsGenerator.drop 1)) [0, 0, 0, 0, 0, 0, 0, 0]

/-- The sum of two polynomials, lowest coefficient first. -/
def polyAdd : List Nat → List Nat → List Nat
  | [], b => b
  | a, [] => a
  | x :: a, y :: b => (x ^^^ y) :: polyAdd a b

/-- The value of a polynomial, lowest coefficient first. -/
def polyAt (x : Nat) (p : List Nat) : Nat := p.reverse.foldl (fun a c => gfMul a x ^^^ c) 0

/-- The search for the error locator by Berlekamp and Massey: the locator, the one before the last change of length, the length,
the shift since that change and the discrepancy then. -/
structure Locator where
  c : List Nat := [1]
  b : List Nat := [1]
  len : Nat := 0
  m : Nat := 1
  d : Nat := 1
  deriving DecidableEq, Repr

/-- One step of the search, at syndrome `n`. -/
def Locator.step (s : List Nat) (x : Locator) (n : Nat) : Locator :=
  let d := (List.range (x.len + 1)).foldl (fun a i => a ^^^ gfMul (x.c.getD i 0) (if i ≤ n then s.getD (n - i) 0 else 0)) 0
  if d = 0 then { x with m := x.m + 1 }
  else
    let k := gfMul d (gfInv x.d)
    let c := polyAdd x.c (List.replicate x.m 0 ++ x.b.map (gfMul k))
    if 2 * x.len ≤ n then { c := c, b := x.c, len := n + 1 - x.len, m := 1, d := d } else { x with c := c, m := x.m + 1 }

/-- The errors of a codeword, each its byte and its value; none where there is no pattern of at most four (R330). -/
def rsErrors (s : List Nat) : Option (List (Nat × Nat)) :=
  let x := (List.range 8).foldl (Locator.step s) {}
  let roots := (List.range 136).filter fun p => polyAt (gfAlpha (255 - (135 - p))) x.c == 0
  let omega := (List.range 8).map fun k => (List.range (k + 1)).foldl (fun a i => a ^^^ gfMul (x.c.getD i 0) (s.getD (k - i) 0)) 0
  let slope := (List.range x.c.length).map fun k => if k % 2 = 0 then x.c.getD (k + 1) 0 else 0
  if 4 < x.len ∨ roots.length ≠ x.len then none
  else some (roots.map fun p =>
    let e := 135 - p
    let y := gfAlpha (255 - e)
    (p, gfMul (gfAlpha e) (gfMul (polyAt y omega) (gfInv (polyAt y slope)))))

/-- A received codeword decoded: its 128 data bytes and the bytes corrected, or none where it is uncorrectable (R330). -/
def rsDecode (l : List Nat) : Option (List Nat × List Nat) :=
  let s := syndromes l
  if s.all (· == 0) then some (l.take 128, [])
  else match rsErrors s with
    | none => none
    | some es =>
      let fixed := es.foldl (fun l e => l.set e.1 (l.getD e.1 0 ^^^ e.2)) l
      if (syndromes fixed).all (· == 0) then some (fixed.take 128, es.map (·.1)) else none

/-- The 17 data words that carry 128 bytes and their parity, byte 0 in the least significant byte of the first (R330). -/
def codewordWords (data : List Byte) : List Nat :=
  let l := data ++ (rsParity (data.map (·.toNat))).map (BitVec.ofNat 8)
  (List.range 17).map fun j => leNat ((l.drop (8 * j)).take 8)

/-! ### A lane's receiver (R327, R331) -/

/-- A block taken by a lane's receiver: descrambled, and kept where it is data or ALIGN; SKIP carries nothing, and the elastic
buffer may pass over one or repeat one in the period that an ALIGN begins. A block with an invalid sync header, or a control block
of another type, counts as invalid; it keeps its place among the data blocks, so that the codeword it lies in is found
uncorrectable (DESIGN CHOICE, log entry 104). -/
def RxLane.take (x : RxLane) (inv : Bool) (raw : Block) : RxLane :=
  let b := if inv then raw.inverted else raw
  let r := descramble x.scr b.bits.toNat
  let plain : Block := ⟨b.sync, BitVec.ofNat 64 r.1⟩
  let y := { x with scr := r.2 }
  if plain.control ∧ plain.kind = orderedType then
    if plain.field 0 8 = 0x3C then { y with mayAdjust := true, fifo := y.fifo ++ [none] } else y
  else
    let z := { y with fifo := y.fifo ++ [some plain.bits] }
    if b.sync = 1 then z else { z with invalid := z.invalid + 1 }

/-- The receiving lanes of a link in the transmitter's logical order: LANE_MAP_RX cut to WIDTH (R329). -/
def State.rxOrder (s : State) (l : Nat) : List Nat :=
  (List.range (s.reg (Reg.WIDTH l))).map fun i => bitField (s.reg (Reg.LANE_MAP_RX l)) (4 * i) 4 % 4

/-- A lane of a link's receiver. -/
def Link.rxLane (x : Link) (i : Nat) : RxLane := x.lanes.getD i {}

/-- The lanes changed where `used` names them. -/
def Link.mapLanes (x : Link) (used : List Nat) (f : RxLane → RxLane) : Link :=
  { x with lanes := (List.range 4).map fun i => if used.contains i then f (x.rxLane i) else x.rxLane i }

/-- Blocks received on each physical lane taken in; a skew beyond 64 blocks is not absorbed (R331). -/
def Link.feed (x : Link) (used : List Nat) (pol : Nat) (blocks : List (List Block)) : Link :=
  let y := { x with lanes := (List.range 4).map fun i =>
    if used.contains i then (blocks.getD i []).foldl (fun z b => z.take (natBit pol i) b) (x.rxLane i) else x.rxLane i }
  let n := used.map fun i => (y.rxLane i).fifo.length
  if (n.min?.getD 0 : Nat) + 64 < (n.max?.getD 0 : Nat) then { y with seeking := true } else y

/-- The lanes aligned on ALIGN: what came before it is passed over (R331). -/
def Link.realign (x : Link) (used : List Nat) : Link :=
  if used.all fun i => (x.rxLane i).fifo.contains none then
    { x.mapLanes used fun z => { z with fifo := (z.fifo.dropWhile (· != none)).drop 1 } with rxIndex := 0, seeking := false }
  else { x.mapLanes used fun z => { z with fifo := z.fifo.dropWhile (· != none) } with seeking := true }

/-- What a receiver has of the next codeword: nothing yet, 136 bytes with the lane of each block, or one that an ALIGN has cut
short. -/
inductive Codeword where
  | waiting
  | bytes (l : List Nat) (lanes : List Nat)
  | broken
  deriving DecidableEq, Repr

/-- The blocks of a codeword gathered from the lanes in rotation, beginning with the block `idx` since ALIGN (R330). -/
def gatherBlocks (used : List Nat) (x : Link) (idx : Nat) : (n : Nat) → Codeword × List (BitVec 64) × Link
  | 0 => (.bytes [] [], [], x)
  | n + 1 =>
    let i := used.getD (idx % max used.length 1) 0
    match (x.rxLane i).fifo with
    | [] => (.waiting, [], x)
    | none :: _ => (.broken, [], x)
    | some b :: rest =>
      let r := gatherBlocks used (x.mapLanes [i] fun z => { z with fifo := rest }) (idx + 1) n
      (r.1, b :: r.2.1, r.2.2)

/-- The next codeword of a receiver and the receiver after it: the first data block after ALIGN starts one (R331). -/
def Link.nextCodeword (x : Link) (used : List Nat) : Codeword × Link :=
  let y := if x.seeking ∨ used.all (fun i => (x.rxLane i).fifo.head? == some none) then x.realign used else x
  if used = [] ∨ y.seeking then (.waiting, y)
  else
    let r := gatherBlocks used y y.rxIndex 17
    match r.1 with
    | .waiting => (.waiting, y)
    | .broken => (.broken, y.realign used)
    | .bytes _ _ =>
      (.bytes (r.2.1.flatMap fun b => (leBytes 8 b.toNat).map (·.toNat))
        ((List.range 17).map fun j => used.getD ((y.rxIndex + j) % used.length) 0),
       { r.2.2 with rxIndex := y.rxIndex + 17 })

/-- The lanes whose elastic buffer passes over a SKIP or repeats one: those that `adjust` names, once in each period (R331). -/
def Link.adjusting (x : Link) (used : List Nat) (adjust : Nat) : List Nat :=
  used.filter fun i => natBit adjust i && (x.rxLane i).mayAdjust

/-- Bytes corrected on each physical lane, given the corrected bytes of a codeword and the lane of each block (R339). -/
def correctedBy (lanes fixed : List Nat) : List Nat :=
  (List.range 4).map fun i => (fixed.filter fun p => lanes.getD (p / 8) 4 == i).length

/-- Whether each used lane holds two consecutive ALIGN, 544 data blocks apart: codeword lock (R331, R333). -/
def twoAligns (l : List (Option (BitVec 64))) : Bool :=
  match l.dropWhile (· != none) with
  | [] => false
  | _ :: rest => (rest.takeWhile (· != none)).length == 544 && rest.length != 544 && decide (544 < rest.length)

/-! ### A lane's transmitter (R330, R331) -/

/-- The physical lanes that a link sends on, logical lane 0 first (R330, R334). -/
def State.txOrder (s : State) (l : Nat) : List Nat := [0, 1, 2, 3].filter fun i => natBit (s.reg (Reg.LANES_USED l)) i

/-- A block scrambled onto a lane. -/
def Link.scrambled (x : Link) (lane sync bits : Nat) : (Nat × Block) × Link :=
  let r := scramble64 (x.txScr.getD lane 0) bits
  ((lane, ⟨BitVec.ofNat 2 sync, BitVec.ofNat 64 r.1⟩), { x with txScr := x.txScr.set lane r.2 })

/-- Blocks scrambled one after another, each with its lane, sync header and 64 bits. -/
def Link.scrambledAll (x : Link) : List (Nat × Nat × Nat) → List (Nat × Block) × Link
  | [] => ([], x)
  | b :: l =>
    let r := x.scrambled b.1 b.2.1 b.2.2
    let t := r.2.scrambledAll l
    (r.1 :: t.1, t.2)

/-- An ordered set that this device sends on a physical lane of a link: its block without the sync header (R328). The FA level is
that of FA1. -/
def State.orderedSet (s : State) (l lane ost width : Nat) : Nat :=
  let r := s.reg Reg.TPV_RANGE
  packFields [(0, 8, orderedType), (8, 8, ost), (16, 2, lane), (18, 3, l), (21, 6, s.reg Reg.DEV_NUM), (27, 4, r % 256),
    (31, 4, r / 256), (35, 4, s.reg (Reg.LANES_GOOD l)), (39, 3, width), (46, 4, 1), (50, 14, setPattern)]

/-- Ordered sets sent unscrambled on some lanes of a link, each `n` times (R328). -/
def State.sendSets (s : State) (l ost width n : Nat) (lanes : List Nat) : State :=
  s.emit (.sets l n (lanes.map fun i => (i, ⟨2, BitVec.ofNat 64 (s.orderedSet l i ost width)⟩)))

/-- One ALIGN and three SKIP on every lane in the same block periods (R331). -/
def State.alignBlocks (s : State) (l : Nat) (lanes : List Nat) : List (Nat × Nat × Nat) :=
  [0x3C, 0x4B, 0x4B, 0x4B].flatMap fun ost => lanes.map fun i => (i, 2, s.orderedSet l i ost 0)

/-- A codeword sent: its 17 blocks dealt to the lanes in rotation, and after every 544 data blocks on each lane ALIGN and SKIP
(R330, R331). -/
def State.sendCodeword (s : State) (x : Link) (l : Nat) (data : List Byte) : List (Nat × Block) × Link :=
  let lanes := s.txOrder l
  let w := max lanes.length 1
  let body := (codewordWords data).zipIdx.map fun p => (lanes.getD ((17 * x.txCount + p.2) % w) 0, 1, p.1)
  let full : Bool := x.txCount + 1 == 32 * w
  let r := x.scrambledAll (body ++ if full then s.alignBlocks l lanes else [])
  (r.1, { r.2 with txCount := if full then 0 else x.txCount + 1 })

end Sys2Proof.Machine
end

