-- ==== Sys2Proof/Machine/Links.lean ====
section
/-!
DEFINITION. Tether links (13, R327–R353): training, flits and their payloads, credits, retry, lanes, loss and reconciliation,
the spanning tree, reroute (R468) and parking.
-/
namespace Sys2Proof.Machine
open Sys2Proof

/-! ### A link's record -/

/-- A link by number. -/
def State.link (s : State) (l : Nat) : Link := Assoc.getD s.tether.links l {}

/-- A link's record replaced. -/
def State.setLink (s : State) (l : Nat) (x : Link) : State :=
  s.modTether fun t => { t with links := Assoc.set l x t.links }

/-- A link's record changed. -/
def State.modLink (s : State) (l : Nat) (f : Link → Link) : State := s.setLink l (f (s.link l))

/-- Element `i` of a list replaced. -/
def setNth (l : List Nat) (i v : Nat) : List Nat := l.set i v

/-- Whether a link is UP. -/
def State.linkUp (s : State) (l : Nat) : Bool := s.reg (Reg.LINK_STATE l) == 2

/-- Whether a link counts as UP for the spanning tree: UP, in retraining or PARKED (R335, R345, R350). -/
def State.linkLives (s : State) (l : Nat) : Bool :=
  s.reg (Reg.LINK_STATE l) == 2 || s.reg (Reg.LINK_STATE l) == 3 || s.reg (Reg.LINK_STATE l) == 7

/-- LINK_STATE set, LINKS_UP with it (R351, R352). -/
def State.setLinkState (s : State) (l v : Nat) : State :=
  (s.setReg (Reg.LINK_STATE l) v).setReg Reg.LINKS_UP (setBitField (s.reg Reg.LINKS_UP) l 1 (if v = 2 then 1 else 0))

/-- The lanes of a link that may be used: good by fuses and neither dropped nor dropped three times (R334, R346). -/
def State.goodLanes (s : State) (l : Nat) : List Nat :=
  let x := s.link l
  [0, 1, 2, 3].filter fun i => natBit (s.reg (Reg.LANES_GOOD l)) i && !natBit x.dropped i && x.drops.getD i 0 < 3

/-! ### Shapes (R343, R344) -/

/-- The sizes of the torus in force. -/
def State.sizes (s : State) : List Nat := [bitField s.tether.shape 0 8, bitField s.tether.shape 8 8, bitField s.tether.shape 16 8]

/-- The device number lies outside the shape (R344). -/
def State.shapeBad (s : State) : Bool := decide (s.sizes.foldl (· * ·) 1 ≤ s.reg Reg.DEV_NUM)

/-- A device's coordinate along dimension `k`. -/
def State.coord (s : State) (k : Nat) : Nat :=
  let z := s.sizes
  let d := s.reg Reg.DEV_NUM
  match k with
  | 0 => d % z.getD 0 1
  | 1 => d / z.getD 0 1 % z.getD 1 1
  | _ => d / (z.getD 0 1 * z.getD 1 1)

/-- ROLE of a link as of power-up. -/
def State.role (s : State) (l : Nat) : Nat := s.tether.roles.getD l 0xFF

/-- The neighbour that TORUS_SHAPE and ROLE expect on a link: one step in its direction, wrapping (R344). -/
def State.expected (s : State) (l : Nat) : Option Nat :=
  let r := s.role l
  if 6 ≤ r then none
  else
    let k := r / 2
    let n := s.sizes.getD k 1
    let x := s.coord k
    let y := if r % 2 = 0 then (x + 1) % n else (x + n - 1) % n
    let unit := match k with
      | 0 => 1
      | 1 => s.sizes.getD 0 1
      | _ => s.sizes.getD 0 1 * s.sizes.getD 1 1
    some (s.reg Reg.DEV_NUM - x * unit + y * unit)

/-- DATELINE: the link leaves coordinate S − 1 in the + direction or 0 in the − direction of a dimension of size S ≥ 3
(R343). -/
def State.dateline (s : State) (l : Nat) : Bool :=
  let r := s.role l
  let n := s.sizes.getD (r / 2) 1
  r < 6 && 3 ≤ n && (if r % 2 = 0 then s.coord (r / 2) + 1 == n else s.coord (r / 2) == 0)

/-- The links bonded with a link: those expected to reach the same neighbour (R344). -/
def State.bundle (s : State) (l : Nat) : List Nat :=
  match s.expected l with
  | none => []
  | some d => (List.range 8).filter fun m => m ≠ l && s.expected m == some d

/-- TORUS_SHAPE and ROLE taken at power-up, with what follows from them (R343, R344, R351). A link whose four lanes are fused
is FUSED (R334); outside the shape every other link is REFUSED. -/
def State.latchShape (s : State) : State :=
  let role (l : Nat) : Nat := match Assoc.get? (Reg.ROLE l).key s.regs with
    | some v => v
    | none => l % 6
  let s1 := s.modTether fun t => { t with shape := s.reg Reg.TORUS_SHAPE, roles := (List.range 8).map role }
  (List.range 8).foldl (fun s l =>
    let s2 := (s.setReg (Reg.DATELINE l) (boolNat (s.dateline l))).setReg (Reg.BUNDLE l) (bitsNat (s.bundle l))
    if s.reg (Reg.LANES_GOOD l) % 16 = 0 then s2.setLinkState l 4
    else if s.shapeBad then (s2.setLinkState l 5).setReg (Reg.REFUSE_CAUSE l) 4
    else s2) s1

/-! ### Waiting for a link (R347, R350) -/

/-- Whether a flit waits in a credit pool of a link, EVENT apart. -/
def Link.pooled (x : Link) : Bool := x.sync != [] || x.hitch != [] || x.reps != [] || x.reqs != [] || x.bulk != []

/-- Whether something waits for a link that is not UP: events with no UP member of its bundle, and flits of every pool while it is
PARKED (R347, R350). -/
def State.holding (s : State) (l : Nat) : Bool :=
  (!s.linkUp l && !(s.bundle l).any s.linkUp && (s.output (.gateway (Fin.ofNat 8 l))).entries != []) ||
    (s.reg (Reg.LINK_STATE l) == 7 && (s.link l).pooled)

/-- LINK_HOLD_NS brought up to the present (R353). -/
def State.accrueHold (s : State) (l : Nat) : State :=
  let x := s.link l
  let s1 := match x.holdAt with
    | some t => s.bumpByAt Reg.LINK_HOLD_NS (0x10 + l) (s.now - t)
    | none => s
  s1.modLink l fun y => { y with holdAt := if s.holding l then some s.now else none }

/-! ### Training (R333–R335, R350) -/

/-- The time a training state may take in ns, fast or full (R333). -/
def phaseLimit (p : TrainPhase) (fast : Bool) : Nat :=
  match p with
  | .detect => if fast then 1000 else 100000
  | .equalise => if fast then 8000 else 1600000
  | .blockLock | .config => if fast then 2000 else 20000
  | .agree | .lock => if fast then 1000 else 10000

/-- A training attempt begun: a retraining of a link that was UP, or a fresh one (R333, R335). -/
def State.beginTraining (s : State) (l : Nat) (fast fresh : Bool) : State :=
  ((s.accrueHold l).setLinkState l (if fresh then 1 else 3)).modLink l fun x =>
    { x with phase := .detect, fast := fast && x.fails < 3, fresh := fresh, phaseFrom := s.now }

/-- The link DOWN, with nothing in use (R352). -/
def State.linkDown (s : State) (l : Nat) : State :=
  let s1 := ((((s.accrueHold l).setLinkState l 0).setReg (Reg.WIDTH l) 0).setReg (Reg.LANES_USED l) 0).setReg (Reg.TPV l) 0
  ((s1.setReg (Reg.PEER_DEV l) 0xFF).setReg (Reg.PEER_LINK l) 0xFF).modLink l fun x =>
    { x with downFrom := s.now, ts1At := none, fails := 0 }

/-- The link in REFUSED with a cause, recorded with both devices and links (R334). -/
def State.refuseLink (s : State) (l cause : Nat) (t : Ts1) : State :=
  (((s.setLinkState l 5).setReg (Reg.REFUSE_CAUSE l) cause).modLink l fun x => { x with downFrom := s.now }).logFault
    { cls := .link, status := if cause = 1 then .version else .refused, unit := l,
      ref := packFields [(0, 6, s.reg Reg.DEV_NUM), (8, 3, l), (16, 6, t.dev), (24, 3, t.link)] }

/-- The highest protocol version in both ranges, where there is one (R5, R334). -/
def State.commonTpv (s : State) (t : Ts1) : Option Nat :=
  let r := s.reg Reg.TPV_RANGE
  let v := min (r / 256) t.tpvMax
  if r % 256 ≤ v ∧ t.tpvMin ≤ v then some v else none

/-! ### What training reads from the lanes (R329, R331, R333) -/

/-- The good lanes of a link on which a signal is detected. -/
def State.liveLanes (s : State) (l : Nat) (signal : Nat) : List Nat := (s.goodLanes l).filter fun i => natBit signal i

/-- Whether the last 64 blocks of a lane have valid sync headers (R333). -/
def blockLocked (l : List Block) : Bool := decide (64 ≤ l.length) && (l.reverse.take 64).all Block.valid

/-- Whether a lane's polarity is inverted: its last block is an ordered set whose sync header and PATTERN arrive inverted
(R329). -/
def laneInverted (l : List Block) : Bool :=
  match l.reverse.head? with
  | some b => b.sync == 1 && b.field 42 14 == invertedPattern
  | none => false

/-- The blocks of a lane with its polarity put right. -/
def State.rightLane (s : State) (l i : Nat) (lanes : List (List Block)) : List Block :=
  let b := lanes.getD i []
  if natBit (s.reg (Reg.POL_INV l)) i then b.map Block.inverted else b

/-- The lanes on which a set of the kind given has been received `n` times in a row, with what it says (R333). -/
def State.setsOn (s : State) (l ost n : Nat) (live : List Nat) (lanes : List (List Block)) : List (Nat × Block) :=
  live.filterMap fun i => (lastSets ost n (s.rightLane l i lanes)).map fun b => (i, b)

/-- LANE_MAP_RX: for each logical lane, in the order of the transmitter's lanes, the physical lane that receives it (R329). -/
def laneMap (w : Nat) (got : List (Nat × Block)) : Nat :=
  let planes := ((List.range 4).filter fun p => got.any fun g => g.2.field 8 2 == p).take w
  packFields (planes.zipIdx.map fun p => (4 * p.2, 4, ((got.find? fun g => g.2.field 8 2 == p.1).map (·.1)).getD 0))

/-- What CONFIG decides from the other end's TS1, received on the lanes of `got` (R329, R334): refusals, width and lanes, the lane
order. -/
def State.trainConfig (s : State) (l : Nat) (got : List (Nat × Block)) (t : Ts1) : State :=
  if s.shapeBad then s.refuseLink l 4 t
  else match s.commonTpv t with
    | none => s.refuseLink l 1 t
    | some v =>
      if t.dev = s.reg Reg.DEV_NUM then s.refuseLink l 2 t
      else if s.expected l ≠ some t.dev then s.refuseLink l 3 t
      else
        let mine := got.map (·.1)
        let theirs := ([0, 1, 2, 3].filter fun i => natBit t.good i).length
        let n := min mine.length theirs
        let w := if 4 ≤ n then 4 else if 2 ≤ n then 2 else n
        if w = 0 then s
        else
          let s1 := (s.setReg (Reg.WIDTH l) w).setReg (Reg.LANES_USED l) (bitsNat (mine.take w))
          let s2 := ((((s1.setReg (Reg.LANE_MAP_RX l) (laneMap w got)).setReg (Reg.TPV l) v).setReg (Reg.PEER_DEV l) t.dev).setReg
            (Reg.PEER_LINK l) t.link).modLink l fun x => { x with phase := .agree, phaseFrom := s.now }
          s2.sendSets l 0x2D w 8 (mine.take w)

/-! ### Flits (R336–R338) -/

/-- A payload of bytes 8–123. -/
def flitBody (l : List Byte) : List Byte := l ++ List.replicate (116 - l.length) 0

/-- The payload of an EVENT flit (R337). -/
def eventBody (l : List Event) : List Byte :=
  flitBody (leBytes 8 l.length ++ l.flatMap fun e =>
    leBytes 8 e.word.toNat ++ leBytes 2 (boolNat e.stream + 2 * (Config.payloadCode e.word e.payBad).toNat))

/-- The payload of a REDUCE record (R338). -/
def reduceBody (r : Reduction) : List Byte :=
  let tags (t : Tags) : List Byte := [t.t0, t.t1, t.t2, t.t3].flatMap fun v => leBytes 4 v.toNat
  flitBody ([0] ++ leBytes 1 r.status.code ++ leBytes 2 (r.done % 4096) ++ leBytes 4 (r.sdone % 4096) ++ tags r.fsent ++
    tags r.frcvd ++ tags r.ssent ++ tags r.srcvd ++ leBytes 8 r.check)

/-- The payload of a BROADCAST (R338). -/
def broadcastBody (kind n : Nat) : List Byte := flitBody ([1] ++ leBytes 7 kind ++ leBytes 8 n)

/-- The code and the value of a Hitch message (R338). -/
def hitchCode : HitchMsg → Nat × Nat
  | .signal v => (0, v) | .set v => (1, v) | .barrier n => (2, n) | .subscribe => (3, 0) | .unsubscribe => (4, 0)
  | .update c => (5, c) | .release c _ => (6, c) | .refuse c _ => (7, c)

/-- The payload of a HITCH message (R338). Bytes 24 and 25 of news from a home hold the device and node it is for. DEDUCED. -/
def hitchBody (f : HitchFlight) : List Byte :=
  let c := hitchCode f.msg
  flitBody ([2] ++ leBytes 7 c.1 ++ leBytes 4 f.hitch ++ leBytes 4 c.2 ++ leBytes 1 f.dev ++ leBytes 1 f.node ++ leBytes 2 f.queue)

/-- The payload of a CTRL flit (R338). -/
def ctrlBody (src dst tag : Nat) (data : List Byte) : List Byte :=
  flitBody (leBytes 1 src ++ leBytes 1 dst ++ leBytes 2 data.length ++ leBytes 4 tag ++ data)

/-- The payload of a BULK flit: the address in bits [55:0] and KIND in bits [63:56] of bytes 8–15, then the line. The spec
does not place the two fields (DESIGN CHOICE). -/
def bulkBody (addr kind : Nat) (line : List Byte) : List Byte :=
  flitBody (leBytes 8 (addr % 2 ^ 56 + kind * 2 ^ 56) ++ line)

/-- The credit pool of a flit (R336, R342). -/
def poolOf (ftype : Nat) (cls : Bool) : Nat := if ftype = 0 then boolNat cls else ftype + 1

/-- Places of each pool (R342). -/
def poolPlaces : List Nat := [64, 64, 32, 16, 16, 16]

/-- The bytes of a flit with the header of the moment (R336). A flit carries its ACK, and the freed places of one pool. -/
def Link.wire (x : Link) (ftype seq : Nat) (cls : Bool) (payload : List Byte) : List Byte :=
  let h := packFields [(0, 3, ftype), (3, 1, boolNat cls), (4, 12, seq), (16, 12, x.rxLast), (28, 1, 1), (29, 1, boolNat x.nakOut),
    (32, 3, x.crp), (36, 8, x.freed.getD x.crp 0)]
  let l := leBytes 8 h ++ payload
  l ++ leBytes 4 (crc32c l).toNat

/-- Places of EVENT flits whose events have all passed the gateway are free (R342); `n` events are still held there. -/
def freeEvents (freed : List Nat) : List (Bool × Nat) → Nat → List Nat × List (Bool × Nat)
  | [], _ => (freed, [])
  | f :: l, n =>
    if n ≤ (l.map (·.2)).foldl (· + ·) 0 then
      let p := boolNat f.1
      freeEvents (setNth freed p ((freed.getD p 0 + 1) % 256)) l n
    else (freed, f :: l)

/-- The free EVENT places of a link counted. -/
def State.settleRx (s : State) (l : Nat) : State :=
  s.modLink l fun x =>
    let r := freeEvents x.freed x.rxEvents (Assoc.getD s.gateRx l []).length
    { x with freed := r.1, rxEvents := r.2 }

/-- A flit put on the wire; it acknowledges what has been accepted, and the next header takes the next pool (R336, R339). -/
def State.putFlit (s0 : State) (l ftype seq : Nat) (cls : Bool) (payload : List Byte) : State :=
  let s := s0.settleRx l
  let x := s.link l
  let bytes := x.wire ftype seq cls payload
  let r := s.sendCodeword { x with nakOut := false, unacked := 0, crp := (x.crp + 1) % 6 } l bytes
  ((s.emit (.flit l bytes)).emit (.blocks l r.1)).setLink l r.2

/-- A LINK flit (R336). -/
def State.sendLinkFlit (s : State) (l : Nat) : State := s.putFlit l 7 0 false (flitBody [])

/-- A new sequenced flit sent: it takes a credit and a place in the replay buffer (R340, R342). -/
def State.sendFlit (s : State) (l ftype : Nat) (cls : Bool) (payload : List Byte) : State :=
  let x := s.link l
  let p := poolOf ftype cls
  let f : SentFlit := ⟨x.txSeq, ftype, cls, payload⟩
  let x1 := { x with txSeq := (x.txSeq + 1) % 4096, replay := x.replay ++ [f], credits := setNth x.credits p (x.credits.getD p 0 - 1),
                     ackAt := if x.replay = [] then s.now else x.ackAt, noCredit := Assoc.erase p x.noCredit }
  ((s.setLink l x1).putFlit l ftype f.seq cls payload).bumpAt Reg.FLITS_TX l

/-- The link UP: afresh, or as it was, with a LINK flit that tells the last accepted sequence (R335). The settings of a full
training are saved by it. -/
def State.linkRises (s : State) (l : Nat) : State :=
  let x := s.link l
  let anew : Link :=
    { dropped := x.dropped, drops := x.drops, sync := x.sync, hitch := x.hitch, reps := x.reps, reqs := x.reqs
      bulk := x.bulk, holdAt := x.holdAt, ackAt := s.now, lanes := x.lanes, txScr := x.txScr }
  let again : Link := { x with fails := 0, ts1At := none, resume := true, replayAt := none, stuck := 0, ackAt := s.now }
  let y := if x.fresh then anew else again
  let s1 := ((s.accrueHold l).setLinkState l 2).setReg (Reg.REFUSE_CAUSE l) 0
  let s2 := (s1.setLink l y).accrueHold l
  if x.fresh then s2 else s2.sendLinkFlit l

/-- The next state of training entered. -/
def State.enterPhase (s : State) (l : Nat) (p : TrainPhase) : State := s.modLink l fun y => { y with phase := p, phaseFrom := s.now }

/-- BLOCKLOCK done once 64 consecutive blocks of every live lane have valid sync headers; the polarity of each is fixed, and TS1
is sent (R329, R333). -/
def State.trainBlockLock (s : State) (l : Nat) (live : List Nat) (lanes : List (List Block)) : State :=
  if live = [] ∨ !live.all (fun i => blockLocked (lanes.getD i [])) then s
  else
    let pol := bitsNat (live.filter fun i => laneInverted (lanes.getD i []))
    ((s.setReg (Reg.POL_INV l) pol).enterPhase l .config).sendSets l 0x1E 0 16 (s.goodLanes l)

/-- AGREE done once eight consecutive identical TS2 have come on every lane in use, carrying the width and the version agreed
(R333). That a TS2 offers the version in its range is the model's reading (DEDUCED). The scrambler is then on, and ALIGN is
sent. -/
def State.trainAgree (s : State) (l : Nat) (lanes : List (List Block)) : State :=
  let used := s.rxOrder l
  let got := s.setsOn l 0x2D 8 used lanes
  if used ≠ [] ∧ got.length = used.length ∧
      got.all (fun g => (tsOf g.2).width == s.reg (Reg.WIDTH l) && s.commonTpv (tsOf g.2) == some (s.reg (Reg.TPV l))) then
    let x := { s.link l with txCount := 0, lanes := [{}, {}, {}, {}], rxIndex := 0, seeking := true }
    let r := x.scrambledAll (s.alignBlocks l (s.txOrder l))
    ((s.emit (.blocks l r.1)).setLink l r.2).enterPhase l .lock
  else s

/-- LOCK done at codeword lock on two consecutive ALIGN of every lane; what follows the second is kept (R331, R333). -/
def State.trainLock (s : State) (l : Nat) (lanes : List (List Block)) : State :=
  let used := s.rxOrder l
  let y := (s.link l).feed used (s.reg (Reg.POL_INV l)) lanes
  if used ≠ [] ∧ used.all fun i => twoAligns (y.rxLane i).fifo then
    let z := y.mapLanes used fun r => { r with fifo := (r.fifo.reverse.takeWhile (· != none)).reverse }
    (s.setLink l { z with rxIndex := 0, seeking := false }).linkRises l
  else s.setLink l y

/-- TRAINING_STATE_ADVANCE: the state that a link trains in is done, and the next begins, where what its lanes have received says
so (R329, R331, R333, R334). `signal` tells the lanes with a signal, `lanes` the blocks that each physical lane has received. That
the other end detects a signal too, and that the receiver has adapted, the command itself says. -/
def execTrainingStateAdvance (l : LinkId) (signal : BitVec 4) (lanes : List (List Block)) (s : State) :
    Host.Outcome State Fault Refusal :=
  let x := s.link l.val
  let live := s.liveLanes l.val signal.toNat
  if s.reg (Reg.LINK_STATE l.val) ≠ 1 ∧ s.reg (Reg.LINK_STATE l.val) ≠ 3 then .next s
  else match x.phase with
    | .detect => .next (if live = [] then s else s.enterPhase l.val .equalise)
    | .equalise => .next (s.enterPhase l.val .blockLock)
    | .blockLock => .next (s.trainBlockLock l.val live lanes)
    | .config =>
      let got := s.setsOn l.val 0x1E 16 live lanes
      match got with
      | [] => .next s
      | g :: _ => .next (s.trainConfig l.val got (tsOf g.2))
    | .agree => .next (s.trainAgree l.val lanes)
    | .lock => .next (s.trainLock l.val lanes)

/-- A failed attempt within 2 ms of the first TS1 of a PARKED link is not counted (R350). -/
def State.inAllowance (s : State) (l : Nat) : Bool :=
  match (s.link l).ts1At with
  | some t => decide (s.now < t + 2000000)
  | none => false

/-- TRAINING_TIMEOUT: the state has not finished in time; the link returns to DETECT and the attempt is counted. After three
failed fast attempts the next is full (R333). -/
def execTrainingTimeout (l : LinkId) (s : State) : Host.Outcome State Fault Refusal :=
  let x := s.link l.val
  let st := s.reg (Reg.LINK_STATE l.val)
  if (st ≠ 1 ∧ st ≠ 3) ∨ s.now < x.phaseFrom + phaseLimit x.phase x.fast then .next s
  else if s.inAllowance l.val then .next (s.modLink l.val fun y => { y with phase := .detect, phaseFrom := s.now })
  else
    let n := if x.fast then x.fails + 1 else x.fails
    let s1 := (s.bumpAt Reg.TRAIN_FAILS l.val).modLink l.val fun y =>
      { y with phase := .detect, phaseFrom := s.now, fails := n, fast := y.fast && n < 3 }
    .next (if st = 1 ∧ !x.fast then (s1.setLinkState l.val 0).modLink l.val fun y => { y with downFrom := s.now } else s1)

/-- LINK_RETRY_TIMER: a link that is DOWN or REFUSED attempts a full training every 100 ms (R333, R334). -/
def execLinkRetryTimer (l : LinkId) (s : State) : Host.Outcome State Fault Refusal :=
  let st := s.reg (Reg.LINK_STATE l.val)
  if (st = 0 ∨ st = 5) ∧ (s.link l.val).downFrom + 100000000 ≤ s.now ∧ s.reg Reg.BRINGUP_STAGE = 6 then
    .next (s.beginTraining l.val false true)
  else .next s

/-! ### What waits for a link -/

/-- The child link of the spanning tree below which a device lies, or the link to the parent (R343, R345). -/
def State.treeLink (s : State) (dev : Nat) : Option Nat :=
  match s.tether.children.find? fun c => c.2.contains dev with
  | some c => some c.1
  | none => if s.reg Reg.TREE_PARENT < 8 then some (s.reg Reg.TREE_PARENT) else none

/-- The device a Hitch message is for: the home, or the device that an answer or news names (R265). -/
def State.flightDest (s : State) (f : HitchFlight) : Nat :=
  if f.msg.isNews then f.dev else s.homeDev (s.hitch f.hitch)

/-- Hitch messages for other devices put to the links that lead to them; an operation that a command awaits is remembered
(R262, R338). -/
def State.spreadHitches (s : State) : State :=
  let own := s.reg Reg.DEV_NUM
  s.syncOut.foldl (fun (s : State) f =>
    match s.treeLink (s.flightDest f) with
    | none => s
    | some l =>
      let s1 := s.modLink l fun x => { x with hitch := x.hitch ++ [hitchBody f] }
      let s2 : State := { s1 with syncOut := s1.syncOut.erase f }
      if f.run.isSome ∧ f.dev = own then { s2 with hitchAwait := s2.hitchAwait ++ [f] } else s2) s

/-- Broadcasts put to every child link (R345). -/
def State.spreadBroadcasts (s : State) : State :=
  let s1 := s.fabric.sends.foldl (fun (s : State) m =>
    s.tether.children.foldl (fun s c => s.modLink c.1 fun x => { x with sync := x.sync ++ [broadcastBody m.1 m.2] }) s) s
  s1.modFabric fun f => { f with sends := [] }

/-- A CTRL message put to the link that leads to its device; without one it is lost, as its sender learns by REMOTE_TMO_MS
(R343, R371). -/
def State.sendCtrl (s : State) (reply : Bool) (dst : Nat) (body : List Byte) : State :=
  match s.treeLink dst with
  | none => s
  | some l => s.modLink l fun x => if reply then { x with reps := x.reps ++ [body] } else { x with reqs := x.reqs ++ [body] }

/-- REDUCE_RECORD_SEND: the device's record goes to its parent, in place of one that still waits (R345). -/
def execReduceRecordSend (s : State) : Host.Outcome State Fault Refusal :=
  match s.fabric.upward with
  | none => .next s
  | some r =>
    if s.reg Reg.TREE_PARENT < 8 then
      .next (s.modLink (s.reg Reg.TREE_PARENT) fun x =>
        { x with sync := x.sync.filter (fun p => p.head? ≠ some 0) ++ [reduceBody r] })
    else .next s

/-- BROADCAST_RECEIVE: a broadcast from the parent goes on to the children, and the device learns of it; ROUTE_SWITCH moves
ARMED tables to SWITCHING (R136, R338, R345). -/
def execBroadcastReceive (s : State) : Host.Outcome State Fault Refusal :=
  match s.tether.heard with
  | [] => .next s
  | m :: rest =>
    let s1 := (s.modTether fun t => { t with heard := rest }).modFabric fun f => { f with sends := f.sends ++ [m.2] }
    let s2 := s1.spreadBroadcasts
    if m.2.1 = 4 then .next (if s.reg Reg.ROUTE_STATE = 1 then s2.setReg Reg.ROUTE_STATE 2 else s2)
    else .next (s2.modFabric fun f => { f with news := f.news ++ [(m.2.1, m.2.2, s.clock)] })

/-! ### Events for a link (R122, R342–R347, R468) -/

/-- The link that an event held for a link that is not UP takes: by the armed prepared table, or by the active version,
whose entry names an UP link (R347, R468). The event keeps its E. -/
def State.heldRoute (s : State) (ev : Event) : Option Nat :=
  let e := if s.tether.rerouted && s.reg Reg.ROUTE_STATE == 1 then s.routeShadow else s.reg Reg.ROUTE_E == 1
  let r := s.routeEntry e ev.dev
  if natBit r 4 then some (routeLink r) else none

/-- Whether an event that waits at the gateway for link `k` may leave on link `l`: the link itself, a bundle member while
that one is not UP or holds no credit, or by a reroute (R344, R347). -/
def State.mayLeave (s : State) (l k : Nat) (ev : Event) : Bool :=
  let poor := !s.linkUp k || (s.link k).credits.getD (boolNat ev.classB) 0 == 0
  k == l || ((s.bundle k).contains l && poor) || (!s.linkUp k && !(s.bundle k).any s.linkUp && match s.heldRoute ev with
    | some m => m == l || (s.bundle m).contains l
    | none => false)

/-- The class in which an event crosses a link: B across a dateline, else as it came (R343). -/
def State.classOn (s : State) (l : Nat) (ev : Event) : Bool := s.dateline l || ev.classB

/-- The entries that may leave on a link, with the gateway output each waits in; the link's own first. -/
def State.leaving (s : State) (l : Nat) : List (Nat × CombineEntry) :=
  (l :: (List.range 8).filter (· ≠ l)).flatMap fun k =>
    ((s.output (.gateway (Fin.ofNat 8 k))).entries.filter fun e =>
      s.mayLeave l k e.ev && (s.eligible e || k ≠ l)).map fun e => (k, e)

/-- The entries of the next EVENT flit: the oldest that finds a credit, and those of its class that follow, at most ten. -/
def State.nextEvents (s : State) (l : Nat) : List (Nat × CombineEntry) :=
  let all := s.leaving l
  let cr := (s.link l).credits
  match all.find? fun x => cr.getD (boolNat (s.classOn l x.2.ev)) 0 != 0 with
  | none => []
  | some x => (all.filter fun y => s.classOn l y.2.ev = s.classOn l x.2.ev).take 10

/-- An entry taken from a gateway output. -/
def State.takeEntry (s : State) (x : Nat × CombineEntry) : State :=
  let p := NetPoint.gateway (Fin.ofNat 8 x.1)
  let o := s.output p
  s.setOutput p { o with entries := dropFirst x.2 o.entries }

/-- An EVENT flit sent with the entries given (R337). -/
def State.sendEvents (s : State) (l : Nat) (xs : List (Nat × CombineEntry)) : State :=
  let cls := match xs with
    | x :: _ => s.classOn l x.2.ev
    | [] => false
  let s1 := xs.foldl State.takeEntry s
  (s1.sendFlit l 0 cls (eventBody (xs.map (·.2.ev)))).bumpByAt Reg.EVENTS_TX (0x10 + l) xs.length

/-- The payloads that wait for a pool, EVENT apart. -/
def Link.waiting (x : Link) (pool : Nat) : List (List Byte) :=
  match pool with
  | 2 => x.bulk | 3 => x.reqs | 4 => x.reps | 5 => x.sync ++ x.hitch | _ => []

/-- The pools that hold a flit and no credit. -/
def State.stalled (s : State) (l : Nat) : List Nat :=
  let x := s.link l
  let some' (p : Nat) : Bool := if p < 2 then (s.leaving l).any fun y => boolNat (s.classOn l y.2.ev) == p else x.waiting p != []
  (List.range 6).filter fun p => some' p && x.credits.getD p 0 == 0

/-- The times since which pools lack credit (R342). -/
def State.noteStalls (s : State) (l : Nat) : State :=
  let w := s.stalled l
  let note (a : Assoc (Nat × Bool)) (p : Nat) : Assoc (Nat × Bool) :=
    if (Assoc.get? p a).isSome then a else Assoc.set p (s.now, false) a
  s.modLink l fun x => { x with noCredit := w.foldl note (x.noCredit.filter fun e => w.contains e.1) }

/-- A flit time in which a pool has a flit and no credit counted (R342). -/
def State.stallTime (s : State) (l : Nat) : State :=
  if s.stalled l = [] then s.noteStalls l else (s.noteStalls l).bumpAt Reg.CREDIT_STALL l

/-- The flit of the highest priority that finds a credit (R342): SYNC with REDUCE and BROADCAST before HITCH, CTRL-REP,
CTRL-REQ, then EVENT and BULK by turns. With nothing to send it is a LINK flit, since codewords follow one another without a gap
(R330, R331; DEDUCED, log entry 104): so freed places reach the other end. -/
def State.sendNext (s : State) (l : Nat) : State :=
  let x := s.link l
  let has (p : Nat) : Bool := x.credits.getD p 0 != 0
  match x.sync, x.hitch, x.reps, x.reqs with
  | b :: r, _, _, _ => if has 5 then (s.setLink l { x with sync := r }).sendFlit l 4 false b else s
  | [], b :: r, _, _ => if has 5 then (s.setLink l { x with hitch := r }).sendFlit l 4 false b else s
  | [], [], b :: r, _ => if has 4 then (s.setLink l { x with reps := r }).sendFlit l 3 false b else s
  | [], [], [], b :: r => if has 3 then (s.setLink l { x with reqs := r }).sendFlit l 2 false b else s
  | [], [], [], [] =>
    let evs := s.nextEvents l
    let s1 := s.setLink l { x with turn := (x.turn + 1) % 8 }
    match x.bulk, evs with
    | b :: r, [] => if has 2 then (s1.modLink l fun y => { y with bulk := r }).sendFlit l 1 false b else s.sendLinkFlit l
    | b :: r, _ =>
      if has 2 ∧ x.turn < s.reg Reg.BULK_WEIGHT then (s1.modLink l fun y => { y with bulk := r }).sendFlit l 1 false b
      else s1.sendEvents l evs
    | [], [] => s.sendLinkFlit l
    | [], _ => s1.sendEvents l evs

/-- What a pool without credit keeps from being sent gives way to the pools below it. -/
def State.sendAny (s : State) (l : Nat) : State :=
  let x := s.link l
  let has (p : Nat) : Bool := x.credits.getD p 0 != 0
  let hide (p : Nat) (q : List (List Byte)) : List (List Byte) := if has p then q else []
  let y := { x with sync := hide 5 x.sync, hitch := hide 5 x.hitch, reps := hide 4 x.reps, reqs := hide 3 x.reqs }
  let keep (p : Nat) (old new : List (List Byte)) : List (List Byte) := if has p then new else old
  ((s.setLink l y).sendNext l).modLink l fun z =>
    { z with sync := keep 5 x.sync z.sync, hitch := keep 5 x.hitch z.hitch, reps := keep 4 x.reps z.reps,
             reqs := keep 3 x.reqs z.reqs }

/-- The next flit of a replay (R340). -/
def State.resend (s : State) (l k : Nat) : State :=
  let x := s.link l
  match x.replay[k]? with
  | none => s.setLink l { x with replayAt := none }
  | some f =>
    let s1 := s.setLink l { x with replayAt := if k + 1 < x.replay.length then some (k + 1) else none }
    (s1.putFlit l f.ftype f.seq f.cls f.payload).bumpAt Reg.REPLAY_FLITS l

/-- REPLAY_FULL_NS: time for which all 256 places are unacknowledged (R340). -/
def State.noteFull (s : State) (l : Nat) : State :=
  let x := s.link l
  let s1 := match x.fullFrom with
    | some t => s.bumpByAt Reg.REPLAY_FULL_NS (0x10 + l) (s.now - t)
    | none => s
  s1.modLink l fun y => { y with fullFrom := if 256 ≤ y.replay.length then some s.now else none }

/-- The open entries that stay at a gateway output have waited one more flit time (R122, R130). -/
def State.ageGateway (s : State) (l : Nat) : State :=
  let p := NetPoint.gateway (Fin.ofNat 8 l)
  s.setOutput p (s.output p).age

/-- FLIT_TRANSMIT: one flit time of an UP link: a replay first, while the replay buffer is full, or until the other end has told
where a retraining left it, LINK flits alone, else the next flit by priority and credit (R335, R340, R342). -/
def execFlitTransmit (l : LinkId) (s : State) : Host.Outcome State Fault Refusal :=
  if !s.linkUp l.val then .next (s.accrueHold l.val)
  else
    let s1 := (((s.spreadBroadcasts).spreadHitches).stallTime l.val).noteFull l.val
    let x := s1.link l.val
    if x.resume then .next (s1.sendLinkFlit l.val)
    else match x.replayAt with
      | some k => .next (s1.resend l.val k)
      | none =>
        if 256 ≤ x.replay.length then .next (s1.sendLinkFlit l.val)
        else .next ((s1.sendAny l.val).ageGateway l.val)

/-- STUCK_LINK_REPORT: a pool that has held a flit without credit for 1 ms is reported once; the flit stays queued (R342). -/
def execStuckLinkReport (l : LinkId) (pool : Fin 6) (s : State) : Host.Outcome State Fault Refusal :=
  let s1 := s.noteStalls l.val
  match Assoc.get? pool.val (s1.link l.val).noCredit with
  | some (t, false) =>
    if t + 1000000 ≤ s.now then
      .next (((s1.modLink l.val fun x => { x with noCredit := Assoc.set pool.val (t, true) x.noCredit }).bumpAt
        Reg.STUCK_REPORTS l.val).logFault { cls := .link, status := .timeout, unit := l.val, sub := pool.val })
    else .next s
  | _ => .next s

/-- ACK_TIMER: an acknowledgement is sent at least every 32 accepted flits or 0.5 µs, on a LINK flit where no other has carried
it (R339). -/
def execAckTimer (l : LinkId) (s : State) : Host.Outcome State Fault Refusal :=
  let x := s.link l.val
  if s.linkUp l.val ∧ x.unacked ≠ 0 ∧ (32 ≤ x.unacked ∨ x.unackedFrom + 500 ≤ s.now) then .next (s.sendLinkFlit l.val)
  else .next s

/-- A replay begun: every unacknowledged flit is resent in order before any new one; eight in succession without progress
cause a fast retraining (R340). -/
def State.beginReplay (s : State) (l : Nat) : State :=
  let x := s.link l
  if x.replay = [] then s
  else if 7 ≤ x.stuck then
    ((s.bumpAt Reg.REPLAYS l).modLink l fun y => { y with stuck := 0 }).beginTraining l true false
  else (s.bumpAt Reg.REPLAYS l).setLink l { x with replayAt := some 0, stuck := x.stuck + 1, ackAt := s.now }

/-- NAK_RECEIVE: on a NAK every flit from ACK + 1 is resent (R340). -/
def execNakReceive (l : LinkId) (s : State) : Host.Outcome State Fault Refusal :=
  let x := s.link l.val
  if x.nakIn ∧ s.linkUp l.val then .next ((s.setLink l.val { x with nakIn := false }).beginReplay l.val) else .next s

/-- REPLAY_TIMEOUT: ACK has not advanced for RETRY_TMO_NS while flits are unacknowledged (R340). -/
def execReplayTimeout (l : LinkId) (s : State) : Host.Outcome State Fault Refusal :=
  let x := s.link l.val
  if s.linkUp l.val ∧ x.replay ≠ [] ∧ x.replayAt = none ∧ x.ackAt + s.reg Reg.RETRY_TMO_NS ≤ s.now then
    .next (s.beginReplay l.val)
  else .next s

/-! ### Faults of lanes and links (R346, R347, R468) -/

/-- LANE_FAULT: a lane that has lost block lock, or whose corrected symbols exceed LANE_BER_MAX in a millisecond, is dropped,
and the link takes a fast retraining without it (R346). -/
def execLaneFault (l : LinkId) (lane : Fin 4) (lost : Bool) (s : State) : Host.Outcome State Fault Refusal :=
  let x := s.link l.val
  let worn : Bool := x.corrAt == s.now / 1000000 && decide (s.reg Reg.LANE_BER_MAX < x.corr.getD lane.val 0)
  if !s.linkUp l.val ∨ !natBit (s.reg (Reg.LANES_USED l.val)) lane.val ∨ !(lost || worn) then .next s
  else
    let y := { x with dropped := x.dropped ||| 2 ^ lane.val, drops := setNth x.drops lane.val (x.drops.getD lane.val 0 + 1) }
    .next (((s.setLink l.val y).bumpAt Reg.LANE_DEGRADES l.val).beginTraining l.val true false)

/-- REROUTE: a link lost with no UP member of its bundle: the table prepared for it is armed, or waits for a running switch to
retire (R468). -/
def State.reroute (s : State) (l : Nat) : State :=
  if (s.bundle l).any s.linkUp then s
  else if s.reg Reg.ROUTE_STATE = 0 then s.armPrepared l
  else (s.bump Reg.REROUTE_LATE).modTether fun t => { t with waiting := some l }

/-- The link lost: DOWN, counted, recorded, reported, and events rerouted (R347, R468). -/
def State.loseLink (s : State) (l : Nat) : State :=
  let s1 := ((s.linkDown l).bumpAt Reg.LINK_LOSSES l).logFault { cls := .link, status := .closed, unit := l }
  ((s1.emcy 0x8100 .closed 4 l).reroute l).checkHomes

/-- LINK_LOSS: a retraining link with no lane left, or after three failed fast retrainings (R347); within the allowance of a
PARKED link there is no loss (R350). -/
def execLinkLoss (l : LinkId) (s : State) : Host.Outcome State Fault Refusal :=
  if s.reg (Reg.LINK_STATE l.val) = 3 ∧ !s.inAllowance l.val ∧ (s.goodLanes l.val = [] ∨ 3 ≤ (s.link l.val).fails) then
    .next (s.loseLink l.val)
  else .next s

/-- The events of an EVENT payload as they were sent. -/
def bodyEvents (b : List Byte) : List Event :=
  (List.range (leNat (b.take 1))).map fun i =>
    { word := BitVec.ofNat 64 (leNat ((b.drop (8 + 10 * i)).take 8)), stream := natBit (leNat ((b.drop (16 + 10 * i)).take 1)) 0 }

/-- A HITCH message of a lost link put ahead of what waits for the link that now leads to its home, or to the device its news
is for; an operation on a Hitch whose home is lost is refused (R263, R266, R347). -/
def State.returnHitch (s : State) (b : List Byte) : State :=
  let x := hitchFields b
  let e := s.hitch x.2.1
  if e.homeLost then (if s.ownUnawaited b then s.bump Reg.HOME_LOST else s)
  else match s.treeLink (if 5 ≤ x.1 then x.2.2.1 else s.homeDev e) with
    | some m => s.modLink m fun y => { y with hitch := b :: y.hitch }
    | none => s

/-- An unacknowledged flit of a lost link returned: events to the gateway, broadcasts and Hitch messages to the new tree, CTRL
flits along it; REDUCE records and BULK lines are not returned (R347). Broadcasts go to links that are children only now. Each
is put ahead of what waits, so that flits returned last to first keep their order (R263, R343). -/
def State.returnFlit (s : State) (l : Nat) (f : SentFlit) : State :=
  match f.ftype with
  | 0 =>
    let p := NetPoint.gateway (Fin.ofNat 8 l)
    let o := s.output p
    s.setOutput p { o with entries := (bodyEvents f.payload).map (fun e => ⟨{ e with classB := f.cls }, false, 0⟩) ++ o.entries }
  | 2 =>
    match s.treeLink (leNat ((f.payload.drop 1).take 1)) with
    | some m => s.modLink m fun x => { x with reqs := f.payload :: x.reqs }
    | none => s
  | 3 =>
    match s.treeLink (leNat ((f.payload.drop 1).take 1)) with
    | some m => s.modLink m fun x => { x with reps := f.payload :: x.reps }
    | none => s
  | 4 =>
    if f.payload.head? = some 1 then
      s.tether.newChildren.foldl (fun s c => s.modLink c fun x => { x with sync := f.payload :: x.sync }) s
    else if f.payload.head? = some 2 then s.returnHitch f.payload
    else s
  | _ => s

/-- LINK_RECONCILE: once the tree has been rebuilt the two ends of a lost link exchange their last accepted sequence, `peer`
being the other end's, and every flit after it is returned, with what waited for the link (R347). -/
def execLinkReconcile (l : LinkId) (peer : Fin 4096) (s : State) : Host.Outcome State Fault Refusal :=
  if s.linkLives l.val then .next s
  else
    let x := s.link l.val
    let after := match x.replay with
      | [] => []
      | f :: _ => x.replay.drop ((peer.val + 1 + 4096 - f.seq) % 4096)
    let s1 := s.setLink l.val { x with replay := [], replayAt := none, sync := [], hitch := [], reps := [], reqs := [], bulk := [] }
    let waiting (t : Nat) (q : List (List Byte)) : List SentFlit := q.map fun b => ⟨0, t, false, b⟩
    let back := after ++ waiting 4 (x.sync ++ x.hitch) ++ waiting 3 x.reps ++ waiting 2 x.reqs
    .next (back.reverse.foldl (fun s f => s.returnFlit l.val f) s1)

/-- A spanning tree taken: the link to the parent and the depth, the devices below each child, the prepared tables by link, the
devices that the tree does not reach, each since when it has not been (R345, R467, R468), and half a SYNC round trip (R375). -/
def State.placeTree (s : State) (parent depth comp : Nat) (below : List (LinkId × List (Fin 64)))
    (tables : List (LinkId × List (Fin 64 × BitVec 32))) (gone : List (Fin 64)) : State :=
  let children := below.map fun b => (b.1.val, b.2.map (·.val))
  let old := s.tether.children.map (·.1)
  let keep := s.tether.unreached.filter fun e => gone.any fun g => g.val == e.1
  let prep : Assoc (List (Nat × Nat)) := tables.foldl (fun a t => Assoc.set t.1.val (t.2.map fun e => (e.1.val, e.2.toNat)) a) []
  let s1 := ((s.setReg Reg.TREE_PARENT parent).setReg Reg.TREE_DEPTH depth).setReg Reg.LAT_COMP comp
  (s1.modTether fun t =>
    { t with children := children, newChildren := (children.map (·.1)).filter fun c => !old.contains c, prepared := prep,
             unreached := gone.foldl (fun a g => if (Assoc.get? g.val a).isSome then a else Assoc.set g.val s.now a) keep }).modFabric
    fun f => { f with children := f.children.filter fun c => children.any fun d => d.1 == c.1 }

/-- The link to the parent: that of the neighbour nearest to device 0, the lowest link first (R345). -/
def nearest (up : List (LinkId × Nat)) : Option (LinkId × Nat) :=
  up.foldl (fun (b : Option (LinkId × Nat)) d =>
    match b with
    | none => some d
    | some c => if d.2 < c.2 ∨ (d.2 = c.2 ∧ d.1.val < c.1.val) then some d else b) none

/-- SPANNING_TREE_BUILD: the firmware's tree at a change of the set of UP links (R345). `dist` is the distance of each UP
neighbour from device 0, `below` the devices below each child, `tables` the prepared route tables by link (R468), `gone` the
devices that the tree does not reach (R467), `comp` half a SYNC round trip to device 0 (R375). -/
def execSpanningTreeBuild (dist : List (LinkId × Nat)) (below : List (LinkId × List (Fin 64)))
    (tables : List (LinkId × List (Fin 64 × BitVec 32))) (gone : List (Fin 64)) (comp : Nat) (s : State) :
    Host.Outcome State Fault Refusal :=
  let best := if s.reg Reg.DEV_NUM = 0 then none else nearest (dist.filter fun d => s.linkLives d.1.val)
  .next (match best with
    | some d => s.placeTree d.1.val (d.2 + 1) comp below tables gone
    | none => s.placeTree 0xFF 0 comp below tables gone)

/-! ### Parking (R350, R402) -/

/-- LINK_PARK: an UP link acknowledges what it accepted, sends PARK and idles, its state kept (R350). Its wait for the other
end's acknowledgement, at most 100 µs, passes within the command. -/
def State.parkLink (s : State) (l : Nat) : State :=
  if !s.linkUp l then s
  else
    let s1 := if (s.link l).unacked = 0 then s else s.sendLinkFlit l
    (((s1.sendSets l 0x69 0 64 (s.txOrder l)).setLinkState l 7).modLink l fun x => { x with ts1At := none }).accrueHold l

/-- PARK_RECEIVE: 16 consecutive PARK sets on every active lane put an UP link in PARKED (R350). -/
def execParkReceive (l : LinkId) (lanes : List (List Block)) (s : State) : Host.Outcome State Fault Refusal :=
  let used := s.rxOrder l.val
  if s.linkUp l.val ∧ used ≠ [] ∧ used.all (fun i => (lastSets 0x69 16 (s.rightLane l.val i lanes)).isSome) then
    .next (((s.setLinkState l.val 7).modLink l.val fun x => { x with ts1At := none }).accrueHold l.val)
  else .next s

/-- A PARKED link trained again from the first TS1 (R350). -/
def State.wakeLink (s : State) (l : Nat) : State :=
  (s.beginTraining l true false).modLink l fun x => { x with ts1At := some s.now, fails := 0, fast := true }

/-- Whether a flit waits for a link. -/
def State.hasFlit (s : State) (l : Nat) : Bool := s.holding l || (s.link l).pooled

/-- PARKED_LINK_WAKE: a flit for a PARKED link, or TS1 from its other end, starts fast training (R350). -/
def execParkedLinkWake (l : LinkId) (ts1 : Bool) (s : State) : Host.Outcome State Fault Refusal :=
  let s1 := s.spreadBroadcasts.spreadHitches
  if s.reg (Reg.LINK_STATE l.val) = 7 ∧ (ts1 ∨ s1.hasFlit l.val) ∧ s.reg Reg.PWR_STATE ≤ 1 then .next (s1.wakeLink l.val)
  else .next s

/-- PARK_ALLOWANCE_EXPIRY: a link still not UP 2 ms after the first TS1 goes on as a link that was UP (R350). -/
def execParkAllowanceExpiry (l : LinkId) (s : State) : Host.Outcome State Fault Refusal :=
  match (s.link l.val).ts1At with
  | none => .next s
  | some t =>
    if t + 2000000 ≤ s.now then .next (s.modLink l.val fun x => { x with ts1At := none, fails := 0 }) else .next s

/-! ### RETRAIN and SPUR_SEND (R349, R352) -/

/-- RETRAIN: 1 fast, 2 full, 3 restore dropped lanes, 4 take down, 5 bring up (R352). A link without good lanes, or FUSED, is
never driven (R334). -/
def State.retrain (s : State) (l v : Nat) : Status × State :=
  let st := s.reg (Reg.LINK_STATE l)
  let live : Bool := st == 2 || st == 3
  if st = 4 then (.refused, s)
  else match v with
    | 1 => (.ok, if live then s.beginTraining l true false else if st = 7 then s.wakeLink l else s.beginTraining l true true)
    | 2 => (.ok, if live ∨ st = 7 then s.beginTraining l false false else s.beginTraining l false true)
    | 3 =>
      let s1 := s.modLink l fun x => { x with dropped := 0 }
      (.ok, if st = 2 ∧ (s.link l).dropped ≠ 0 then s1.beginTraining l true false else s1)
    | 4 => (.ok, if st = 0 then s else s.linkDown l)
    | _ => (.ok, if st = 7 then s.wakeLink l else if live ∨ st = 1 then s else s.beginTraining l false true)

/-- RETRAIN_FAST: a write of 1 to RETRAIN (R352). -/
def execRetrainFast (path : Path) (l : LinkId) (s : State) : Host.Outcome State Fault Refusal :=
  .next (s.writeObject path (0x2610 + l.val) 0x0C fun s => s.retrain l.val 1)

/-- RETRAIN_FULL: a write of 2 to RETRAIN (R352). -/
def execRetrainFull (path : Path) (l : LinkId) (s : State) : Host.Outcome State Fault Refusal :=
  .next (s.writeObject path (0x2610 + l.val) 0x0C fun s => s.retrain l.val 2)

/-- RETRAIN_RESTORE_LANES: a write of 3 to RETRAIN (R346). -/
def execRetrainRestoreLanes (path : Path) (l : LinkId) (s : State) : Host.Outcome State Fault Refusal :=
  .next (s.writeObject path (0x2610 + l.val) 0x0C fun s => s.retrain l.val 3)

/-- RETRAIN_TAKE_DOWN: a write of 4 to RETRAIN (R352). -/
def execRetrainTakeDown (path : Path) (l : LinkId) (s : State) : Host.Outcome State Fault Refusal :=
  .next (s.writeObject path (0x2610 + l.val) 0x0C fun s => s.retrain l.val 4)

/-- RETRAIN_BRING_UP: a write of 5 to RETRAIN (R350, R352). -/
def execRetrainBringUp (path : Path) (l : LinkId) (s : State) : Host.Outcome State Fault Refusal :=
  .next (s.writeObject path (0x2610 + l.val) 0x0C fun s => s.retrain l.val 5)

/-- Spur sent for 100 µs on a link whatever its state, which is 48,484 blocks on every lane that is driven; then it trains again
(R349). -/
def State.sendSpur (s : State) (l : Nat) : State :=
  let st := s.reg (Reg.LINK_STATE l)
  if st = 4 then s
  else
    let s1 := (s.sendSets l 0x5A 0 48484 (s.goodLanes l)).beginTraining l (st == 2 || st == 3 || st == 7) !(st == 2 || st == 3 || st == 7)
    s1.modLink l fun x => { x with spurUntil := some (s.now + 100000), phaseFrom := s.now + 100000 }

/-- SPUR_SEND: a write of 1 to SPUR_SEND (R349). -/
def execSpurSend (path : Path) (l : LinkId) (v : BitVec 8) (s : State) : Host.Outcome State Fault Refusal :=
  .next (s.writeObject path (0x2610 + l.val) 0x0D fun s => if v = 1 then (.ok, s.sendSpur l.val) else (.badFormat, s))

end Sys2Proof.Machine
end

