-- ==== Sys2Proof/Machine/Timers.lean ====
section
/-!
DEFINITION. The timer block (15, R374–R386): general timers, encoder capture, and the make-up of time slept.
-/
namespace Sys2Proof.Machine
open Sys2Proof

/-- A general timer's record. -/
def State.timer (s : State) (k : Nat) : Timer := Assoc.getD s.timing.timers k {}

/-- A general timer's record replaced. -/
def State.setTimer (s : State) (k : Nat) (x : Timer) : State :=
  { s with timing := { s.timing with timers := Assoc.set k x s.timing.timers } }

/-- A capture channel's record. -/
def State.encoder (s : State) (c : Nat) : Encoder := Assoc.getD s.timing.encoders c {}

/-- A capture channel's record replaced. -/
def State.setEncoder (s : State) (c : Nat) (x : Encoder) : State :=
  { s with timing := { s.timing with encoders := Assoc.set c x s.timing.encoders } }

/-- A flag of a status word set, and noted as set in this timer cycle (R379). -/
def State.raise (s : State) (o : Obj) (i : Nat) : State :=
  let cycle := s.clock / 10
  let x := s.setBit o i true
  { x with timing := { x.timing with fresh := (o.key, i, cycle) :: x.timing.fresh.filter fun e => e.2.2 = cycle } }

/-- The length of a timer's tick in ns (R376). -/
def State.tickNs (s : State) (k : Nat) : Nat := (bitField (s.reg (Reg.GCTRL k)) 16 16 + 1) * 10

/-- Whether the timer block stands still: frozen at the first slow-clock edge of a sleep until the make-up (R382). -/
def State.timersFrozen (s : State) : Bool :=
  match s.timing.frozen with
  | some e => decide (e ≤ slowCount s.now)
  | none => false

/-! ### General timers (R376–R379) -/

/-- GT_TICK: a prescaled tick of an enabled timer: CNT counts up by one, or wraps after PER; the match and the wrap of the tick
are then taken by GT_MATCH and GT_WRAP before the next tick. A period shortened below CNT wraps here and counts as a match
(R376, R378). -/
def execGtTick (k : TimerId) (s : State) : Host.Outcome State Fault Refusal :=
  let x := s.timer k.val
  let cnt := s.reg (Reg.CNT k.val)
  let per := s.reg (Reg.PER k.val)
  if !s.bit (Reg.GCTRL k.val) 0 ∨ x.matched ∨ x.wrapped ∨ s.timersFrozen ∨ s.clock < x.tickAt + s.tickNs k.val then .next s
  else
    let wraps := decide (per ≤ cnt)
    let short := decide (per < cnt)
    let c := if wraps then 0 else cnt + 1
    let hit := short || (c == s.reg (Reg.CMP k.val) && decide (c ≤ per))
    .next ((s.setReg (Reg.CNT k.val) c).setTimer k.val
      { x with matched := hit, wrapped := wraps, short := short, cmpWritten := false, tickAt := x.tickAt + s.tickNs k.val })

/-- GT_MATCH: the match of the present tick: MATF, the Hitch, and CMP moved on under AUTO, unless a DIRECT write of CMP in the
cycle stands in its place (R376, R378, R379). -/
def execGtMatch (k : TimerId) (s : State) : Host.Outcome State Fault Refusal :=
  let x := s.timer k.val
  if !x.matched then .next s
  else
    let s1 := (s.raise (Reg.GSTAT k.val) 0).setTimer k.val { x with matched := false }
    let s2 := if x.short then s1.raise (Reg.GSTAT k.val) 2 else s1
    let auto := s.bit (Reg.GCTRL k.val) 2 && !x.cmpWritten
    let s3 := if auto then
        s2.setReg (Reg.CMP k.val) ((s.reg (Reg.CMP k.val) + s.reg (Reg.IVL k.val)) % (s.reg (Reg.PER k.val) + 1))
      else s2
    .next (if s.bit (Reg.GCTRL k.val) 4 then s3.hitchNotify (s.reg (Reg.GT_HITCH k.val)) else s3)

/-- Pending preloads copied, except those written in the cycle of the wrap, which stay pending (R377, R379). -/
def State.copyPreloads (s : State) (k : Nat) : State :=
  let x := s.timer k
  let s1 := if s.bit (Reg.GSTAT k) 4 ∧ !x.perLate then (s.setReg (Reg.PER k) x.perPl).setBit (Reg.GSTAT k) 4 false else s
  let s2 := if s.bit (Reg.GSTAT k) 5 ∧ !x.cmpLate then (s1.setReg (Reg.CMP k) x.cmpPl).setBit (Reg.GSTAT k) 5 false else s1
  s2.setTimer k { x with perLate := false, cmpLate := false }

/-- GT_WRAP: the wrap of the present tick: WRAPF and the preload copies, after the tick's match (R376, R377). -/
def execGtWrap (k : TimerId) (s : State) : Host.Outcome State Fault Refusal :=
  let x := s.timer k.val
  if !x.wrapped ∨ x.matched then .next s
  else .next (((s.setTimer k.val { x with wrapped := false }).raise (Reg.GSTAT k.val) 1).copyPreloads k.val)

/-- A write of PER (R377, R378). -/
def State.writePer (s : State) (k v : Nat) : Status × State :=
  let x := s.timer k
  if s.bit (Reg.GCTRL k) 1 then (.ok, s.setReg (Reg.PER k) v)
  else (.ok, (s.setTimer k { x with perPl := v, perLate := x.wrapped }).setBit (Reg.GSTAT k) 4 true)

/-- A write of CMP (R377, R379). -/
def State.writeCmp (s : State) (k v : Nat) : Status × State :=
  let x := s.timer k
  if s.bit (Reg.GCTRL k) 1 then (.ok, (s.setReg (Reg.CMP k) v).setTimer k { x with cmpWritten := true })
  else (.ok, (s.setTimer k { x with cmpPl := v, cmpLate := x.wrapped }).setBit (Reg.GSTAT k) 5 true)

/-- A write of GCTRL: reserved bits are refused, EN = 0 clears CNT (R386). -/
def State.writeGctrl (s : State) (k v : Nat) : Status × State :=
  if bitField v 5 11 ≠ 0 then (.badFormat, s)
  else
    let s1 := s.setReg (Reg.GCTRL k) v
    if natBit v 0 then
      (.ok, if s.bit (Reg.GCTRL k) 0 then s1 else s1.setTimer k { s.timer k with tickAt := s.clock })
    else (.ok, (s1.setReg (Reg.CNT k) 0).setTimer k { s.timer k with matched := false, wrapped := false })

/-- TIMER_PER_WRITE (R377). -/
def execTimerPerWrite (path : Path) (k : TimerId) (v : BitVec 32) (s : State) : Host.Outcome State Fault Refusal :=
  .next (s.writeObject path (0x2210 + k.val) 2 fun s => s.writePer k.val v.toNat)

/-- TIMER_CMP_WRITE (R377). -/
def execTimerCmpWrite (path : Path) (k : TimerId) (v : BitVec 32) (s : State) : Host.Outcome State Fault Refusal :=
  .next (s.writeObject path (0x2210 + k.val) 3 fun s => s.writeCmp k.val v.toNat)

/-- GCTRL_WRITE (R386). -/
def execGctrlWrite (path : Path) (k : TimerId) (v : BitVec 32) (s : State) : Host.Outcome State Fault Refusal :=
  .next (s.writeObject path (0x2210 + k.val) 1 fun s => s.writeGctrl k.val v.toNat)

/-! ### Encoder capture (R380, R381, R383) -/

/-- A capture that lands: CAP, CAPPOS and CAPF, and the Hitch (R380). -/
def State.landCapture (s : State) (c cap pos : Nat) : State :=
  let s1 := ((s.setReg (Reg.CAP c) cap).setBit (Reg.ESTAT c) 0 true).setEncoder c { s.encoder c with capPos := pos, shadow := none }
  if s.bit (Reg.ECTRL c) 2 then s1.hitchNotify (s.reg (Reg.ENC_HITCH c)) else s1

/-- A capture: into the shadow register where CAP was read in this cycle, lost as an overcapture where CAPF is set or the shadow
is occupied, else landed (R381). -/
def State.capture (s : State) (c cap pos : Nat) : State :=
  let x := s.encoder c
  let cycle := s.clock / 10
  match x.shadow, x.readAt with
  | none, some (r, was) =>
    if r = cycle then (s.setEncoder c { x with shadow := some (cap, pos, cycle) }).setBit (Reg.ESTAT c) 0 was
    else if s.bit (Reg.ESTAT c) 0 then (s.raise (Reg.ESTAT c) 1).bump (Reg.OVC_CNT c)
    else s.landCapture c cap pos
  | none, none =>
    if s.bit (Reg.ESTAT c) 0 then (s.raise (Reg.ESTAT c) 1).bump (Reg.OVC_CNT c) else s.landCapture c cap pos
  | some _, _ => (s.raise (Reg.ESTAT c) 1).bump (Reg.OVC_CNT c)

/-- The step clock of an edge while the block is frozen: by the slow-clock count (R382, R383). -/
def State.coarseClock (s : State) : Nat :=
  match s.timing.frozen with
  | some e => s.clock + ((slowCount s.now - e) * 1953125 + s.timing.carry) / 64
  | none => s.clock

/-- Whether an input accepts an edge: at most one in 4 timer cycles (R380). -/
def State.acceptsEdge (s : State) (c : Nat) : Bool := (s.encoder c).edgeAt.all fun t => decide (t + 40 ≤ s.now)

/-- An edge that a channel takes: one of the selected kind advances POS, and every DIV-th captures (R380); while the block is frozen
by the slow-clock count, with COARSE set (R383). The step clock is taken as the edge's own, corrected for synchroniser and
filter. -/
def State.takeEdge (s : State) (c : Nat) (rising : Bool) : State :=
  let ctrl := s.reg (Reg.ECTRL c)
  if !(if rising then natBit ctrl 0 else natBit ctrl 1) then s
  else
    let x := s.encoder c
    let pos := (s.reg (Reg.POS c) + 1) % 2 ^ 32
    let s1 := s.setReg (Reg.POS c) pos
    if x.edges + 1 < max 1 (bitField ctrl 16 16) then s1.setEncoder c { x with edges := x.edges + 1 }
    else
      let s2 := s1.setEncoder c { x with edges := 0 }
      if s.timersFrozen then (s2.capture c s.coarseClock pos).raise (Reg.ESTAT c) 2 else s2.capture c s.clock pos

/-- A filtered edge at a channel's input, which accepts at most one in 4 timer cycles (R380). -/
def State.encEdge (s : State) (c : Nat) (rising : Bool) : State :=
  if s.acceptsEdge c then (s.setEncoder c { s.encoder c with edgeAt := some s.now }).takeEdge c rising else s

/-- CAPTURE_SHADOW_LAND: one cycle later the capture held in the shadow register lands (R381). -/
def execCaptureShadowLand (c : EncId) (s : State) : Host.Outcome State Fault Refusal :=
  match (s.encoder c.val).shadow with
  | none => .next s
  | some (cap, pos, cycle) => if cycle < s.clock / 10 then .next (s.landCapture c.val cap pos) else .next s

/-- A read of CAP: its value; CAPPOS is copied into CAPPOS_RD and CAPF cleared in the same access, unless a capture waits in
the shadow register (R381). -/
def State.readCap (s : State) (c : Nat) : Nat × State :=
  let x := s.encoder c
  let s1 := (s.setReg (Reg.CAPPOS_RD c) x.capPos).setEncoder c { x with readAt := some (s.clock / 10, s.bit (Reg.ESTAT c) 0) }
  (s.reg (Reg.CAP c), if x.shadow.isSome then s1 else s1.setBit (Reg.ESTAT c) 0 false)

/-- CAP_READ (R381). -/
def execCapRead (path : Path) (c : EncId) (s : State) : Host.Outcome State Fault Refusal :=
  match s.accessStatus path false (0x2220 + c.val) 3 with
  | .ok =>
    let r := s.readCap c.val
    .next (r.2.respond .ok (leBytes 8 r.1))
  | st => .next (s.respond st)

/-! ### Sleep and make-up (R382–R384) -/

/-- Matches of a timer in `t` ticks from CNT under a period and a compare; `step` is the distance between matches under AUTO
(R383). -/
def matchesIn (cnt cmp period t : Nat) (step : Option Nat) : Nat :=
  if period ≤ cmp then 0
  else
    let d0 := (cmp + period - cnt % period - 1) % period + 1
    let d := match step with
      | none => period
      | some i => if i % period = 0 then period else i % period
    if t < d0 then 0 else 1 + (t - d0) / d

/-- An enabled timer advanced by `t` ticks: CNT modulo its period, the preloads at the first wrap passed, its matches taken as
one (R383). -/
def State.makeUpTimer (s : State) (k t : Nat) : State :=
  let per := s.reg (Reg.PER k)
  let cnt := s.reg (Reg.CNT k)
  let toWrap := if per < cnt then 1 else per + 1 - cnt
  let auto := s.bit (Reg.GCTRL k) 2
  let step := if auto then some (s.reg (Reg.IVL k)) else none
  let moved (s : State) (m : Nat) : State :=
    if auto ∧ m ≠ 0 then s.setReg (Reg.CMP k) ((s.reg (Reg.CMP k) + m * s.reg (Reg.IVL k)) % (s.reg (Reg.PER k) + 1)) else s
  let r : Nat × State :=
    if t < toWrap then
      let m := matchesIn cnt (s.reg (Reg.CMP k)) (per + 1) t step
      (m, (moved s m).setReg (Reg.CNT k) (cnt + t))
    else
      let m1 := matchesIn cnt (s.reg (Reg.CMP k)) (per + 1) (toWrap - 1) step
      let s1 := ((moved s m1).copyPreloads k).raise (Reg.GSTAT k) 1
      let rest := t - toWrap
      let per2 := s1.reg (Reg.PER k)
      let m2 := matchesIn per2 (s1.reg (Reg.CMP k)) (per2 + 1) (rest + 1) step
      (m1 + m2, (moved s1 m2).setReg (Reg.CNT k) (rest % (per2 + 1)))
  if r.1 = 0 then r.2
  else
    let s2 := (r.2.raise (Reg.GSTAT k) 0).bumpBy (Reg.MISSED k) (r.1 - 1)
    let s3 := if s.bit (Reg.GCTRL k) 3 then s2.raise (Reg.GSTAT k) 3 else s2
    if s.bit (Reg.GCTRL k) 4 then s3.hitchNotify (s.reg (Reg.GT_HITCH k)) else s3

/-- A timer advanced by the ticks that have become due since its last one (R382). -/
def State.makeUpTicks (s : State) (k : Nat) : State :=
  let x := s.timer k
  let t := (s.clock - x.tickAt) / s.tickNs k
  (s.setTimer k { x with tickAt := x.tickAt + t * s.tickNs k }).makeUpTimer k t

/-- SLEEP_MAKEUP: at the first slow-clock edge after a wake the time slept is added to the step clock and the enabled timers
(R382, R383). -/
def execSleepMakeup (s : State) : Host.Outcome State Fault Refusal :=
  match s.timing.frozen with
  | none => .next s
  | some e =>
    if s.reg Reg.PWR_STATE ≠ 0 ∨ slowCount s.now < s.timing.dueEdge then .next s
    else
      let sum := (slowCount s.now - e) * 1953125 + s.timing.carry
      let elapsed := sum / 64
      let s1 := ({ s with clock := s.clock + elapsed,
                          timing := { s.timing with frozen := none, carry := sum % 64, wakeAt := [] } } : State).bump Reg.MAKEUPS
      .next ((List.range 8).foldl (fun (s : State) k =>
        if s.bit (Reg.GCTRL k) 0 then s.makeUpTicks k else s) s1)

/-- The block stopped at the first slow-clock edge after entry to sleep, and the wakes of WAKE timers armed: at the edge at or
before each next match, less WAKE_LEAD_US (R382, R384). -/
def State.freezeTimers (s : State) : State :=
  let edge := slowCount s.now + 1
  let lead := s.reg Reg.WAKE_LEAD_US * 1000
  let armed := (List.range 8).filterMap fun k =>
    let p := s.reg (Reg.PER k) + 1
    let cmp := s.reg (Reg.CMP k)
    if s.bit (Reg.GCTRL k) 0 ∧ s.bit (Reg.GCTRL k) 3 ∧ cmp < p then
      let d := (cmp + p - s.reg (Reg.CNT k) % p - 1) % p + 1
      some (k, slowCount (s.now + d * s.tickNs k - (s.clock - (s.timer k).tickAt) - lead) * 1953125 / 64)
    else none
  { s with timing := { s.timing with frozen := some (s.timing.frozen.getD edge), wakeAt := armed } }

end Sys2Proof.Machine
end

