-- ==== Sys2Proof/Machine/Power.lean ====
section
/-!
DEFINITION. Feeds, hold-up, dips and power failure (R387–R398), the power governor (R399), power states and their wakes
(R400–R407, R416), the reset input and the thermal protection (R481–R488).
-/
namespace Sys2Proof.Machine
open Sys2Proof

/-! ### Accounting (R407) -/

/-- The power stage's record changed. -/
def State.modPower (s : State) (f : Power → Power) : State := { s with power := f s.power }

/-- The accounting times brought up to the present, before the state they are taken in changes. -/
def State.accrueAcct (s : State) : State :=
  let l := (List.range 6).map s.acctTime
  s.modPower fun p => { p with acctNs := l, acctFrom := s.now }

/-- A refused or aborted entry counted under its refuser (R401, R404, R407). -/
def State.countRefuser (s : State) (i : Nat) : State :=
  if s.reg Reg.ACCT_MODE = 1 then s.bump (Reg.ACCT i) else s

/-- PWR_STATE set, and the entry to it counted (R400, R407). -/
def State.setPwr (s : State) (v : Nat) : State :=
  let s1 := s.accrueAcct.setReg Reg.PWR_STATE v
  if s1.reg Reg.ACCT_MODE = 0 then s1.bump (Reg.ACCT (4 + v)) else s1

/-- ACCT_MODE_WRITE: the mode selected and all 16 counters cleared (R407). -/
def State.writeAcctMode (s : State) (v : Nat) : Status × State :=
  if 1 < v then (.badFormat, s)
  else
    let s1 := (List.range 16).foldl (fun s i => s.setReg (Reg.ACCT i) 0) (s.setReg Reg.ACCT_MODE v)
    (.ok, s1.modPower fun p => { p with acctNs := [0, 0, 0, 0, 0, 0], acctFrom := s.now })

/-- ACCT_MODE_WRITE (R407). -/
def execAcctModeWrite (path : Path) (v : BitVec 8) (s : State) : Host.Outcome State Fault Refusal :=
  .next (s.writeObject path 0x2100 0x19 fun s => s.writeAcctMode v.toNat)

/-! ### Reports -/

/-- A supply condition recorded and reported: EMCY 0x3100 and an entry of class SUPPLY (R370, R387, R393). In OFF no firmware runs
that could (R400). -/
def State.supplyReport (s : State) (unit : Nat) : State :=
  if s.power.off then s else (s.logFault { cls := .supply, unit := unit }).emcy 0x3100 .ok 1 0

/-- A bit of ERROR_REG set or cleared; when the last condition has gone EMCY 0x0000 is sent (R360, R370). -/
def State.setError (s : State) (i : Nat) (b : Bool) : State :=
  let s1 := s.setBit Reg.ERROR_REG i b
  if !b ∧ s.reg Reg.ERROR_REG ≠ 0 ∧ s1.reg Reg.ERROR_REG = 0 then s1.emcy 0x0000 .ok 1 0 else s1

/-! ### Feeds and hold-up (R387, R388) -/

/-- FEED_A_MV or FEED_B_MV. -/
def feedMv (b : Bool) : Obj := if b then Reg.FEED_B_MV else Reg.FEED_A_MV

/-- The regulators on again: bring-up starts at stage 0 (R410); the start that ends a restart of R437 or R440 shows its cause. -/
def State.turnOn (s0 : State) : State :=
  let s : State := match s0.security.restartAt with
    | some (_, c) => { s0.setReg Reg.LC_RESTART_CAUSE c with security := { s0.security with restartAt := none } }
    | none => s0
  (s.modPower fun p => { p with off := false, startAt := s.now, railRetries := 0, retryAt := none, feedWake := true,
                                acctFrom := s.now }).setReg Reg.BRINGUP_STAGE 0

/-- A feed no longer present: its switch open, counted and reported (R387). -/
def State.feedLost (s : State) (b : Bool) : State :=
  let i := boolNat b
  if !s.bit Reg.FEEDS i then s
  else ((s.setBit Reg.FEEDS i false).bump (if b then Reg.FEED_LOSS_B else Reg.FEED_LOSS_A)).supplyReport i

/-- FEED_LOST: below 33 V for 2 µs (R387). -/
def execFeedLost (b : Bool) (mv : BitVec 32) (s : State) : Host.Outcome State Fault Refusal :=
  .next ((s.setReg (feedMv b) mv.toNat).feedLost b)

/-- FEED_REVERSED: the switch stays open; counted once per occurrence, with its FEEDS bit (R387). -/
def execFeedReversed (b : Bool) (s : State) : Host.Outcome State Fault Refusal :=
  let i := boolNat b
  let s1 := s.feedLost b
  .next (if s.bit Reg.FEEDS (2 + i) then s1 else (s1.setBit Reg.FEEDS (2 + i) true).bump Reg.FEED_REVERSED)

/-- FEED_OVERVOLTAGE: above 62 V for 1 µs the switch opens; it closes again once the feed has been below 60 V for 10 ms, and the
feed is present again where it stands at 36 V or more (R387). -/
def execFeedOvervoltage (b : Bool) (above : Bool) (mv : BitVec 32) (s : State) : Host.Outcome State Fault Refusal :=
  let i := boolNat b
  let s1 := s.setReg (feedMv b) mv.toNat
  if !above then
    .next (if 60000 ≤ mv.toNat ∨ !s.bit Reg.FEEDS (4 + i) then s1
      else (s1.setBit Reg.FEEDS (4 + i) false).setBit Reg.FEEDS i (s.bit Reg.FEEDS i || decide (36000 ≤ mv.toNat)))
  else if s.bit Reg.FEEDS (4 + i) then .next s1
  else .next ((((s1.feedLost b).setBit Reg.FEEDS (4 + i) true).bump Reg.FEED_OV).supplyReport i)

/-- HOLDUP_OK reads 1 while the limiter is bypassed and the last check passed; its first 1 lets steps be released (R388,
R389). -/
def State.judgeHoldup (s : State) : State :=
  let ok : Bool := s.power.bypassed && decide (600 ≤ s.reg Reg.HOLDUP_MJ)
  let s1 := s.setReg Reg.HOLDUP_OK (boolNat ok)
  if ok then { s1 with fabric := { s1.fabric with holdupSeen := true } } else s1

/-- INRUSH_BYPASS: the capacitors are charged and the limiter is bypassed (R388). -/
def execInrushBypass (s : State) : Host.Outcome State Fault Refusal :=
  .next (s.modPower fun p => { p with bypassed := true }).judgeHoldup

/-- HOLDUP_CHECK: at start, every 24 h, and hourly until it passes (R388); in OFF no check runs (R400). -/
def execHoldupCheck (mj : BitVec 32) (s : State) : Host.Outcome State Fault Refusal :=
  let due : Bool := match s.power.holdupAt with
    | none => true
    | some t => decide (t + (if s.reg Reg.HOLDUP_MJ < 600 then 3600000000000 else 86400000000000) ≤ s.now)
  if !due ∨ s.power.off then .next s
  else
    let s1 := ((s.modPower fun p => { p with holdupAt := some s.now }).setReg Reg.HOLDUP_MJ mj.toNat).judgeHoldup
    .next (if mj.toNat < 600 then s1.supplyReport 0xFF else s1)

/-! ### Dips (R391–R394) -/

/-- Brace left: its time counted (R393). -/
def State.leaveBrace (s : State) : State :=
  match s.power.brace with
  | none => s
  | some t => (s.accrueAcct.modPower fun p => { p with brace := none }).bumpBy Reg.BRACE_NS (s.now - t)

/-- The voltage of the bus, or of a rail below warning, as a dip is met; a rail is warned of once (R391, R393). -/
def State.dipSeen (s : State) (rail : Option (Fin 8)) (mv : Nat) : State :=
  match rail with
  | none => s.setReg Reg.BUS_MV mv
  | some r =>
    let t := s.setReg (Reg.RAIL_MV r.val) mv
    if s.bit Reg.RAIL_STATUS r.val then t else (t.setBit Reg.RAIL_STATUS r.val true).bump Reg.RAIL_WARN

/-- BRACE_ENTRY: the bus below 38 V for 2 µs, or a rail below warning; VDD_AON, rail 7, is measured and not monitored (R391,
R393). With every regulator off there is nothing to brace (R396). -/
def execBraceEntry (rail : Option (Fin 8)) (mv : BitVec 16) (s : State) : Host.Outcome State Fault Refusal :=
  let s1 := s.dipSeen rail mv.toNat
  if s.power.off then .next s
  else if rail = some 7 then .next (s.setReg (Reg.RAIL_MV 7) mv.toNat)
  else if s.power.brace.isSome ∨ (rail.isNone ∧ s.reg Reg.SUPPLY_STATE = 2) then .next s1
  else
    let s2 := ((s1.accrueAcct.modPower fun p => { p with brace := some s.now }).setReg Reg.SUPPLY_STATE 1).bump Reg.BRACES
    .next (s2.supplyReport (rail.elim 0xFF (·.val)))

/-- BRACE_EXIT: the bus above 39 V and every rail good for 100 µs (R393). `mv` is the bus. -/
def execBraceExit (mv : BitVec 32) (s : State) : Host.Outcome State Fault Refusal :=
  match s.power.brace with
  | none => .next s
  | some t =>
    if s.now < t + 100000 ∨ mv.toNat ≤ 39000 then .next s
    else
      .next (((((s.leaveBrace).setReg Reg.BUS_MV mv.toNat).setReg Reg.RAIL_STATUS 0).setReg Reg.SUPPLY_STATE 0).setError 2 false)

/-- LOW_INPUT_ENTRY: a bus between 33 and 38 V for BRACE_MAX_MS is a dip no longer; a rail below warning holds Brace (R394). -/
def execLowInputEntry (s : State) : Host.Outcome State Fault Refusal :=
  match s.power.brace with
  | none => .next s
  | some t =>
    if s.reg Reg.RAIL_STATUS ≠ 0 ∨ s.now < t + s.reg Reg.BRACE_MAX_MS * 1000000 then .next s
    else .next (((s.leaveBrace.setReg Reg.SUPPLY_STATE 2).bump Reg.LOW_INPUT_ENTRIES).setError 2 true)

/-- LOW_INPUT_EXIT: the bus above 39 V for 100 µs (R394). -/
def execLowInputExit (mv : BitVec 32) (s : State) : Host.Outcome State Fault Refusal :=
  if s.reg Reg.SUPPLY_STATE ≠ 2 ∨ mv.toNat ≤ 39000 then .next s
  else .next (((s.accrueAcct.setReg Reg.BUS_MV mv.toNat).setReg Reg.SUPPLY_STATE 0).setError 2 false)

/-- RAIL_RESET: a rail at or below reset for 1 µs resets every domain but VDD_AON; nothing is flushed (R391). In OFF every rail is
off (R400). -/
def execRailReset (s : State) : Host.Outcome State Fault Refusal :=
  .next (if s.power.off then s else (s.bump Reg.RAIL_RESETS).coldStart 3)

/-- LPREG_OVERLOAD: the always-on domain browns out; every domain is reset (R392). In OFF the regulator feeds nothing. -/
def execLpregOverload (s : State) : Host.Outcome State Fault Refusal :=
  .next (if s.power.off then s else (s.bump Reg.LPREG_OVL).coldStart 4)

/-! ### Power failure (R395–R398) -/

/-- POWER_FAIL: the sequence of R396, to its end even where a feed returns meanwhile (`recovered`, R395). `blocks` is how many
block writes the energy allows before the guard of R397 acts, which it never does with HOLDUP_OK = 1. -/
def execPowerFail (blocks : Nat) (recovered : Bool) (s : State) : Host.Outcome State Fault Refusal :=
  if s.power.off then .next s
  else
    let need := s.flushBlocks + 2336
    let energy := if s.reg Reg.HOLDUP_OK = 1 then need else blocks
    let whole : Bool := decide (need ≤ energy)
    let s1 := (s.flushStable energy).bump Reg.PF_EVENTS
    let s2 := if whole then s1 else s1.bump Reg.PF_INCOMPLETE
    let s3 := s2.powerOff (if whole then 1 else 2)
    if recovered ∧ !s.power.resetHeld then .next (s3.turnOn.bump Reg.PF_RECOVERED)
    else .next (if recovered then s3.bump Reg.PF_RECOVERED else s3)

/-- Steps 2 to 6 of R396 without time pressure, for an end that the device chooses (R401, R481, R486). -/
def State.flushOff (s : State) (cause : Nat) : State := (s.flushStable (s.flushBlocks + 2336)).powerOff cause

/-! ### The governor (R399) -/

/-- GOV_LIMIT_EFF_MW at a temperature of the hottest sensor in °C. -/
def State.govLimit (s : State) (temp : Int) : Nat :=
  let k := (temp - (s.reg Reg.TJ_THROTTLE_C : Int)).toNat
  max 10000 (s.reg Reg.GOV_LIMIT_MW - 2000 * k)

/-- The time since the last sample counted by the level it was spent at. -/
def State.accrueGov (s : State) : State :=
  let l := s.reg Reg.GOV_LEVEL
  let dt := s.now - s.power.govSample
  let s1 := if l = 0 then s else if l ≤ 4 then s.bumpBy Reg.GOV_SPEC_NS dt else s.bumpBy Reg.GOV_LANE_NS dt
  let s2 := if l = 19 ∧ s.reg Reg.GOV_LIMIT_EFF_MW < s.reg Reg.INPUT_MW then s1.bumpBy Reg.GOV_FLOOR_NS dt else s1
  s2.modPower fun p => { p with govSample := s.now }

/-- GOVERNOR_TICK: every 10 µs the level rises by one while the 100-µs average exceeds the limit (R399). `temp` is the hottest
die sensor and `plate` the sensor at the lid (R488). -/
def execGovernorTick (mw : BitVec 32) (temp plate : BitVec 16) (s : State) : Host.Outcome State Fault Refusal :=
  if s.now < s.power.govTick + 10000 then .next s
  else
    let lim := s.govLimit temp.toInt
    let s1 := (((s.accrueGov.setReg Reg.INPUT_MW mw.toNat).setReg Reg.TEMP_DIE_C temp.toNat).setReg Reg.TEMP_PLATE_C
      plate.toNat).setReg Reg.GOV_LIMIT_EFF_MW lim
    let l := s.reg Reg.GOV_LEVEL
    let low := if mw.toNat + 2000 < lim then some (s.power.govLow.getD s.now) else none
    let s2 := s1.modPower fun p => { p with govLow := low, govTick := s.now }
    if lim < mw.toNat ∧ l < 19 then
      .next (((s2.setReg Reg.GOV_LEVEL (l + 1)).peak Reg.GOV_LEVEL_MAX (l + 1)).modPower fun p => { p with govRaised := s.now })
    else .next s2

/-- GOVERNOR_LOWER: every 100 µs once the average has stayed below the limit less 2 W for 1 ms (R399). -/
def execGovernorLower (s : State) : Host.Outcome State Fault Refusal :=
  match s.power.govLow with
  | none => .next s
  | some t =>
    let l := s.reg Reg.GOV_LEVEL
    if l = 0 ∨ s.now < t + 1000000 ∨ s.now < s.power.govRaised + 100000 then .next s
    else .next ((s.accrueGov.setReg Reg.GOV_LEVEL (l - 1)).modPower fun p => { p with govRaised := s.now })

/-! ### What sleep loses (R400, R403) -/

/-- A queue emptied, its GEN increased by 1 (R403). -/
def Queue.emptied (b : Queue) : Queue :=
  { b with wpA := 0, rpA := 0, wpB := 0x1FFFF, rpB := 0x1FFFF, gen := b.gen + 1, resv := 0, timerFrom := none, raised := false,
           waiter := none, outstanding := 0, snap := none }

/-- A window empty. -/
def Window.emptied (x : Window) : Window := { x with wr := 0, rd := 0, wfull := false }

/-- Whether WATCH keeps a byte: the Tack Room and the Stable, and LPDDR5X where the harness is parked in it (R400, R403). -/
def watchKeeps (park : Bool) (a : Nat) : Bool :=
  (tackBase ≤ a && a < tackBase + tackSize) || keptByte a || (park && ddrBase ≤ a)

/-- What WATCH loses: the fabric, Commons, control banks, queue-state SRAM and the Hitch table; the management core, and with it
the dictionary and the fault log, is kept (R400, R403). -/
def State.watchLoss (s : State) (park : Bool) : State :=
  { s with
    mem := s.mem.filter (fun c => watchKeeps park c.1), veils := if park then s.veils else []
    sramCorr := [], dense := {}, moved := {}, seqWait := [], queues := s.queues.map fun q => (q.1, q.2.emptied)
    comb := [], lastStatus := [], hitches := [], hitchNet := [], syncOut := [], hitchAwait := [], bankWait := []
    windows := s.windows.map fun w => (w.1, w.2.emptied)
    classes := [], tiles := [], initial := [], routers := [], gateways := [], gatewayFrcvd := {}, gatewaySrcvd := {}, gateIn := []
    gateRx := [], centreNext := [], route0 := [], route1 := [], groups0 := [], groups1 := [], members0 := [], members1 := []
    stores := [], fetch := [], remoteHold := [], slots0 := [], slots1 := [], slotVersion := false, switchIn := [], drainFrom := none
    census := [], learning := { s.learning with engines := s.learning.engines.map fun e => (e.1, e.2.emptied) } }

/-- The harness placed again at a wake from WATCH with park, and the checkpoint at PARK_DST restored; one that fails unloads
the harness (R403). -/
def State.unpark (s : State) : State :=
  let n := s.reg Reg.STEP_COMPLETE
  let gens := s.queues
  let s1 := s.placeSections s.harness.img n (s.copySections 0)
  let regen (q : Nat × Queue) : Nat × Queue :=
    if isFirmwareQueue q.1 then q else (q.1, { q.2 with gen := (Assoc.getD gens q.1 {}).gen })
  let seqs := bitsNat (s1.harness.seqCode.map (·.1))
  let s2 := ({ s1 with queues := s1.queues.map regen, windows := s1.windows.map fun w => (w.1, w.2.emptied) } : State).setReg
    Reg.SEQ_RUN seqs
  match s2.checkpointFails (s2.reg Reg.PARK_DST) with
  | some st => (s2.dropHarness.logFault { cls := .other, status := st, ref := 403 }).emcy 0x5000 st 2 0
  | none =>
    let d : Int := (n : Int) - s2.word (s2.reg Reg.PARK_DST + 8) 8
    (s2.restoreAll (s2.reg Reg.PARK_DST) d).invalidateFar 0xFFFF

/-! ### Entry to a sleep state (R401–R403, R405) -/

/-- Whether WATCH parks a harness (R403). -/
def State.parks (s : State) : Bool := s.harnessLoaded && s.reg Reg.WATCH_PARK == 1

/-- The firmware update is running: a reception, a handover, a swap or a deferred swap (R401, R447–R453). -/
def State.updating (s : State) : Bool :=
  [1, 2, 4].contains (bitField (s.reg Reg.UPD_STATE) 0 7) || s.update.handover.isSome || s.update.swapFrom.isSome

/-- The condition of a refuser for a request (R401). -/
def State.refuses (s : State) (v i : Nat) : Bool :=
  match i with
  | 0 => s.fabric.runs != []
  | 1 => s.fabricBusy
  | 2 => s.reg Reg.SWEEP_BUSY == 1 || s.reg Reg.JRNL_PENDING != 0
  | 3 => s.reg Reg.STABLE_STATE == 2
  | 4 => s.engines.any fun e => e.2.running.isSome
  | 5 => (v == 2 || v == 3) && s.harnessQueues.any fun q => q.2.count != 0
  | 6 => v == 3 && s.harnessLoaded && s.reg Reg.WATCH_PARK == 0
  | 7 => s.updating
  | 8 => s.power.brace.isSome
  | 9 => v == 3 && s.parks && (decide (s.reg Reg.PARK_DST < ddrBase) ||
      decide (4096 * s.reg Reg.PARK_MAXLEN < s.checkpointBytes.length) ||
      decide (ddrBase + s.variant.usable < s.reg Reg.PARK_DST + s.checkpointBytes.length))
  | _ => false

/-- The first refuser of a request (R401). -/
def State.refuser (s : State) (v : Nat) : Option Nat := (List.range 10).find? (s.refuses v)

/-- Links at an entry: parked for HOLD (R402); off in WATCH but for the detector of WAKE_LINK (R349). -/
def State.linksSleep (s : State) (v : Nat) : State :=
  if v = 2 then (List.range 8).foldl State.parkLink s
  else if v = 3 then
    (List.range 8).foldl (fun (s : State) l =>
      if s.reg (Reg.LINK_STATE l) = 4 then s
      else if l = s.reg Reg.WAKE_LINK then (s.linkDown l).setLinkState l 6 else s.linkDown l) s
  else s

/-- Entry to IDLE, HOLD or WATCH once accepted (R400–R405). -/
def State.enterSleep (s : State) (v : Nat) : State :=
  let park := s.parks
  let s1 := if v = 3 ∧ park then s.setBytes (s.reg Reg.PARK_DST) s.checkpointBytes else s
  let s2 := ((s1.linksSleep v).setPwr v).freezeTimers
  let s3 := (List.range 6).foldl State.reinDrive s2
  let s4 := if v = 3 then (if park then s3.watchLoss true else (s3.watchLoss false).setReg Reg.DDR_STATE 0) else s3
  s4.modPower fun p => { p with parked := v = 3 && park, entryUntil := s.now + (if v = 1 then 50000 else 1000000) }

/-! ### Wakes (R404, R416) -/

/-- The bit of a wake source and the refuser recorded when it aborts an entry (R404). -/
def wakeBit : WakeSource → Nat
  | .tether _ => 0 | .usb => 1 | .can _ _ _ => 2 | .intake _ => 3 | .encoder => 4 | .timer => 5 | .feed => 6

def wakeRefuser : WakeSource → Nat
  | .tether _ => 11 | .usb => 12 | .can _ _ _ => 10 | .intake _ => 13 | .encoder => 14 | .timer => 14 | .feed => 15

/-- Whether a source that fires is present in the state and passes its filter (R349, R404). -/
def State.wakes (s : State) (w : WakeSource) : Bool :=
  s.bit Reg.WAKE_EN (wakeBit w) && (match w with
    | .tether l => s.reg Reg.PWR_STATE != 3 || (s.reg Reg.WAKE_LINK == l.val && s.reg Reg.WAKE_MODE == 0)
    | .can id _ _ => (id.toNat &&& s.reg Reg.WAKE_CAN_MASK) == (s.reg Reg.WAKE_CAN_ID &&& s.reg Reg.WAKE_CAN_MASK)
    | .intake p => p.val < 4 || s.reg (Reg.PORT_STATE p.val) == 1
    | _ => true)

/-- Links at a wake: parked ones train fast from HOLD, every link afresh from WATCH (R349, R402). -/
def State.linksWake (s : State) (v : Nat) : State :=
  if v = 2 then (List.range 8).foldl (fun (s : State) l => if s.reg (Reg.LINK_STATE l) = 7 then s.wakeLink l else s) s
  else if v = 3 then
    (List.range 8).foldl (fun (s : State) l => if s.reg (Reg.LINK_STATE l) = 4 then s else s.beginTraining l false true) s
  else s

/-- The cold start that a wake is after a tamper event in WATCH (R440). -/
def State.coldWake (s : State) : State :=
  let s1 := s.powerOff 6
  { s1 with security := { s1.security with restartAt := some (s.now, 2) } }.turnOn

/-- The device back in RUN (R401, R404, R416), time to be made up at the next slow-clock edge (R382). The overrides written in sleep
take effect (R405). -/
def State.wakeUp (s : State) (cause refuser : Nat) : State :=
  let v := s.reg Reg.PWR_STATE
  if s.security.coldWake then s.coldWake
  else
  let s1 := if s.now < s.power.entryUntil then s.countRefuser refuser else s
  let s2 := ((s1.setPwr 0).setReg Reg.WAKE_CAUSE (2 ^ cause)).bump Reg.WAKES
  let s3 : State := { s2 with timing := { s2.timing with dueEdge := slowCount s.now + 1 } }
  let s4 := (List.range 6).foldl State.reinDrive (s3.linksWake v)
  if v ≠ 3 then s4
  else
    let s5 := s4.modPower fun p => { p with parked := false }
    if s.power.parked then s5.unpark else s5.setReg Reg.DDR_STATE 1

/-- A wake source fires in a sleep state. -/
def State.wakeBy (s : State) (w : WakeSource) : State :=
  if s.reg Reg.PWR_STATE = 0 ∨ !s.wakes w then s
  else
    let s1 := s.wakeUp (wakeBit w) (wakeRefuser w)
    match w with
    | .can id data f =>
      if s.power.heldCan.length < 8 then s1.modPower fun p => { p with heldCan := p.heldCan ++ [(id.toNat, data, f)] } else s1
    | _ => s1

/-- ENC_EDGE: a filtered edge, and with it the level of the pin (R380, R488); in a sleep state it is a wake source too (R383,
R404). Nothing is sensed in OFF (R475). -/
def execEncEdge (c : EncId) (rising : Bool) (s : State) : Host.Outcome State Fault Refusal :=
  .next (if s.power.off then s
    else ((s.setBit Reg.PIN_IN (4 + c.val) rising).encEdge c.val rising).wakeBy .encoder)

/-- SPUR_DETECT: the WATCH detector of WAKE_LINK recognises Spur, or, with WAKE_MODE 0, any signal (R349). -/
def execSpurDetect (spur : Bool) (s : State) : Host.Outcome State Fault Refusal :=
  if s.reg Reg.PWR_STATE ≠ 3 ∨ !s.bit Reg.WAKE_EN 0 ∨ (s.reg Reg.WAKE_MODE = 1 ∧ !spur) then .next s
  else .next (s.wakeUp 0 11)

/-- TIMER_WAKE: the edge at or before a WAKE timer's next match, less WAKE_LEAD_US (R384). -/
def execTimerWake (k : TimerId) (s : State) : Host.Outcome State Fault Refusal :=
  match Assoc.get? k.val s.timing.wakeAt with
  | none => .next s
  | some t => .next (if t ≤ s.now then s.wakeBy .timer else s)

/-- FEED_PRESENT: 36 V or more for 10 ms: the feed joins the bus (R387); in OFF it turns the device on, and in sleep it wakes
it (R404). -/
def execFeedPresent (b : Bool) (mv : BitVec 32) (s : State) : Host.Outcome State Fault Refusal :=
  let i := boolNat b
  let s1 := s.setReg (feedMv b) mv.toNat
  if s.bit Reg.FEEDS i ∨ s.bit Reg.FEEDS (4 + i) ∨ mv.toNat < 36000 then .next s1
  else
    let s2 := (s1.setBit Reg.FEEDS i true).setBit Reg.FEEDS (2 + i) false
    if s.power.off then .next (if s.power.resetHeld ∨ !s.power.feedWake then s2 else s2.turnOn)
    else .next (s2.wakeBy .feed)

/-- A training that fails leaves the device without LPDDR5X for this run (R411, R415). -/
def State.ddrFailed (s : State) : State :=
  ((((s.setReg Reg.DDR_STATE 3).bump Reg.DDR_TRAIN_FAILS).setReg Reg.TRAIN_FORCE_FULL 1).logFault
    { cls := .bringup, status := .degraded }).emcy 0x5000 .degraded 5 0

/-- Whether LPDDR5X takes the fast path at a die temperature in °C (R295). -/
def State.trainsFast (s : State) (temp : Int) (pattern : Bool) : Bool :=
  let x := leBytes 1088 (s.reg Reg.TRAIN_SET)
  let f (lo n : Nat) : Nat := leNat ((x.drop lo).take n)
  f 0 4 == 0x52544C46 && f 60 4 == (crc32c (x.take 60 ++ x.drop 64)).toNat &&
    decide (1 ≤ f 4 2) && decide (f 4 2 ≤ (s.update.image s.bankB).tsv) && f 16 16 == s.reg Reg.SERIAL_FULL && f 8 2 == s.reg Reg.DDR_RATE &&
    decide ((temp - signedOf 16 (f 10 2)).natAbs ≤ 20) && s.reg Reg.TRAIN_FORCE_FULL == 0 && pattern

/-- New settings after a full pass: the header of R294 and what the training found, which no rule gives (free values). -/
def State.newSettings (s : State) (temp : BitVec 16) : State :=
  let r := s.fresh 8192
  let head := leBytes 60 (packFields [(0, 32, 0x52544C46), (32, 16, 1), (64, 16, s.reg Reg.DDR_RATE), (80, 16, temp.toNat),
    (96, 32, s.reg Reg.RUN_VER), (128, 128, s.reg Reg.SERIAL_FULL)])
  let body := leBytes 1024 r.1.toNat
  r.2.setReg Reg.TRAIN_SET (leNat (head ++ leBytes 4 (crc32c (head ++ body)).toNat ++ body))

/-- LPDDR5X trained by the fast or the full path, the path and its time recorded; TRAIN_FORCE_FULL as a full pass leaves it is
committed, so that the next cold start finds it (R295, R357, R415). -/
def State.trainDdr (s : State) (r : TrainReport) : State :=
  if s.trainsFast r.temp.toInt r.pattern then
    ((s.setReg Reg.DDR_STATE 2).setReg Reg.TRAIN_MODE 0).setReg Reg.TRAIN_MS r.ms.toNat
  else
    let s1 := (s.setReg Reg.TRAIN_MODE 1).setReg Reg.TRAIN_MS r.ms.toNat
    let s2 := if r.trained then ((s1.newSettings r.temp).setReg Reg.TRAIN_FORCE_FULL 0).setReg Reg.DDR_STATE 2 else s1.ddrFailed
    (s2.persistCommit r.store).2

/-- DDR_BACKGROUND_TRAIN_DONE: the background training after WATCH without park ends, by the path that R295 gives it (R416). -/
def execDdrBackgroundTrainDone (r : TrainReport) (s : State) : Host.Outcome State Fault Refusal :=
  if s.reg Reg.DDR_STATE ≠ 1 ∨ s.reg Reg.BRINGUP_STAGE ≠ 6 then .next s else .next (s.trainDdr r)

/-! ### PWR_REQ (R401) -/

/-- The source by which a path reaches a sleeping device (R401, R404). An SDO arrives as the frame 0x600 + node. -/
def State.pathWake (s : State) (p : Path) : Option WakeSource :=
  match p with
  | .usb => some .usb
  | .can => some (.can (BitVec.ofNat 11 (0x600 + s.reg Reg.NODE_ID)) [] ⟨.ok, false⟩)
  | .tether => some (.tether (Fin.ofNat 8 (s.reg Reg.WAKE_LINK)))
  | .ethernet e => some (.intake (Fin.ofNat 6 (4 + e.val)))
  | .sys => none

/-- A request judged: refused with its refuser, or accepted (R401). Only the device's own firmware reaches a device that
sleeps; from sleep only a deeper state may be asked for. -/
def State.request (s : State) (v : Nat) : Status × State :=
  let now := s.reg Reg.PWR_STATE
  if v = now then (.ok, s)
  else if v < now then (.refused, s)
  else match s.refuser v with
    | some i => (.refused, s.countRefuser i)
    | none =>
      if v = 4 then (.ok, (s.flushOff 6).modPower fun p => { p with feedWake := s.bit Reg.WAKE_EN 6 })
      else (.ok, s.enterSleep v)

/-- A write of PWR_REQ: over a path that wakes the device first; where that path may not wake it, the write does not arrive
(R401). -/
def State.pwrReq (s : State) (path : Path) (v : Nat) : State :=
  let write (s : State) : State := s.writeObject path 0x2100 2 fun s => s.request v
  if s.reg Reg.PWR_STATE = 0 then write s
  else match s.pathWake path with
    | none => write s
    | some w => if s.wakes w then write (s.wakeUp (wakeBit w) (wakeRefuser w)) else s

/-- PWR_REQ_RUN: a write of 0 to PWR_REQ (R401). -/
def execPwrReqRun (path : Path) (s : State) : Host.Outcome State Fault Refusal := .next (s.pwrReq path 0)

/-- PWR_REQ_IDLE: a write of 1 to PWR_REQ (R401). -/
def execPwrReqIdle (path : Path) (s : State) : Host.Outcome State Fault Refusal := .next (s.pwrReq path 1)

/-- PWR_REQ_HOLD: a write of 2 to PWR_REQ (R401, R402). -/
def execPwrReqHold (path : Path) (s : State) : Host.Outcome State Fault Refusal := .next (s.pwrReq path 2)

/-- PWR_REQ_WATCH: a write of 3 to PWR_REQ (R401, R403). -/
def execPwrReqWatch (path : Path) (s : State) : Host.Outcome State Fault Refusal := .next (s.pwrReq path 3)

/-- PWR_REQ_OFF: a write of 4 to PWR_REQ (R401). -/
def execPwrReqOff (path : Path) (s : State) : Host.Outcome State Fault Refusal := .next (s.pwrReq path 4)

/-! ### Pins and protection (R481–R488) -/

/-- RESET_INPUT: RESET_N low for 10 µs: a flush and off with the cause RESET_INPUT from RUN, IDLE, HOLD or WATCH; bring-up
starts again from stage 0 at the release; a device that is off keeps the cause it has (R481). -/
def execResetInput (s : State) : Host.Outcome State Fault Refusal :=
  let s1 := if s.power.off then s
    else if s.reg Reg.BRINGUP_STAGE = 6 then s.flushOff 5
    else s.powerOff (s.reg Reg.RESET_CAUSE)
  .next ((s1.modPower fun p => { p with resetHeld := true }).setBit Reg.PIN_IN 9 false)

/-- RESET_INPUT_RELEASE: a cold start at the release (R481). -/
def execResetInputRelease (s : State) : Host.Outcome State Fault Refusal :=
  if !s.power.resetHeld then .next s
  else .next (((s.modPower fun p => { p with resetHeld := false }).setBit Reg.PIN_IN 9 true).turnOn)

/-- THERMAL_SHUTDOWN: the hottest die sensor above 125 °C for 1 ms (R486). -/
def execThermalShutdown (temp : BitVec 16) (s : State) : Host.Outcome State Fault Refusal :=
  if s.power.off ∨ temp.toInt ≤ 125 then .next s
  else
    .next ((((s.setReg Reg.TEMP_DIE_C temp.toNat).logFault { cls := .supply }).bump Reg.THERM_SHUTDOWN).flushOff 6)

/-- GEO_CHANGE: the GEO pins now; a rising edge of GEO_CHANGED is recorded (R488). In OFF nothing reads them (R475). -/
def execGeoChange (pins : BitVec 6) (s : State) : Host.Outcome State Fault Refusal :=
  if s.power.off then .next s else
  let s1 := s.setReg Reg.PIN_IN (setBitField (s.reg Reg.PIN_IN) 10 6 pins.toNat)
  let differs : Bool := pins.toNat != s.reg Reg.DEV_NUM
  let s2 := s1.setReg Reg.GEO_CHANGED (boolNat differs)
  .next (if differs ∧ s.reg Reg.GEO_CHANGED = 0 then s2.logFault { cls := .other, ref := pins.toNat } else s2)

/-- VAON_LIMIT: the load on VAON_OUT; an engagement of the output's limit is counted and recorded (R483).
In OFF the output is off (R475). -/
def execVaonLimit (ma : BitVec 16) (engaged : Bool) (s : State) : Host.Outcome State Fault Refusal :=
  if s.power.off then .next s else
  let s1 := s.setReg Reg.VAON_MA ma.toNat
  .next (if engaged then (s1.bump Reg.VAON_LIMIT).logFault { cls := .other } else s1)

end Sys2Proof.Machine
end

