-- ==== Sys2Proof/Machine/Htp.lean ====
section
/-!
DEFINITION. The Host Transfer Protocol: frames, sessions, queue and memory operations (R362–R366), and the USB port (R361).
-/
namespace Sys2Proof
open Sys2Proof.Machine

/-! ### The bytes of a frame (R362, R363) -/

/-- A field of a frame. -/
def HtpFrame.field (x : HtpFrame) (lo n : Nat) : Nat := leNat ((x.bytes.drop lo).take n)

/-- HTPV, OP, MORE, TAG and LEN of its header (R362). -/
def HtpFrame.version (x : HtpFrame) : BitVec 4 := BitVec.ofNat 4 (x.field 0 1)
def HtpFrame.op (x : HtpFrame) : Nat := x.field 1 1
def HtpFrame.more (x : HtpFrame) : Bool := natBit (x.field 2 1) 0
def HtpFrame.tag (x : HtpFrame) : BitVec 32 := BitVec.ofNat 32 (x.field 4 4)
def HtpFrame.len (x : HtpFrame) : Nat := x.field 8 4

/-- Its payload. -/
def HtpFrame.payload (x : HtpFrame) : List Byte := (x.bytes.drop 16).take x.len

/-- A frame that is discarded: shorter than its header or than LEN says, LEN above 65,536, a reserved header bit set, or a wrong
CRC (R362, R365). -/
def HtpFrame.bad (x : HtpFrame) : Bool :=
  decide (x.bytes.length < 16 + x.len) || decide (65536 < x.len) || bitField (x.field 0 1) 4 4 != 0 ||
    bitField (x.field 2 1) 2 6 != 0 || (crc32c (x.bytes.take 12 ++ x.payload)).toNat != x.field 12 4

/-- A reserved opcode of a request (R363, R436, R447). -/
def reservedOp (op : Nat) : Bool := !((1 ≤ op && op ≤ 9) || (0x20 ≤ op && op ≤ 0x27) || (0x30 ≤ op && op ≤ 0x33))

/-- Whether a frame is a row's own by its OP: one that cannot be read, or holds a reserved OP, may come as any row's. -/
def HtpFrame.isFor (x : HtpFrame) (op : Nat) : Bool := x.bad || x.op == op || reservedOp x.op

end Sys2Proof

namespace Sys2Proof.Machine
open Sys2Proof

/-! ### Sessions and frames (R364–R366) -/

/-- The session of a peer. -/
def State.session (s : State) (p : Peer) : Option Session := s.host.sessions.find? fun x => x.peer = p

/-- A session changed. -/
def State.modSession (s : State) (p : Peer) (f : Session → Session) : State :=
  { s with host := { s.host with sessions := s.host.sessions.map fun x => if x.peer = p then f x else x } }

/-- The dictionary path of a peer (R354). -/
def peerPath : Peer → Path
  | .usb => .usb
  | .ethernet e _ _ => .ethernet e

/-- Whether frames of a peer reach the firmware: the USB port configured and stage 1 past, or in recovery; an Ethernet port from
the end of stage 4 (R361, R412, R455). While a handover runs none is taken (R450). -/
def State.takesHtp (s : State) (p : Peer) : Bool :=
  !s.power.off && s.reg Reg.PWR_STATE == 0 && s.update.handover.isNone && (match p with
    | .usb => s.reg Reg.USB_STATE == 2 && (s.update.recovery || decide (2 ≤ s.reg Reg.BRINGUP_STAGE % 128))
    | .ethernet e _ _ => s.reg (Reg.LINK_UP e.val) == 1 && decide (5 ≤ s.reg Reg.BRINGUP_STAGE % 128))

/-- The frames of a reply: one, or several with MORE set in all but the last where the data exceed a frame (R362, R363). -/
def replyFrames (p : Peer) (op tag : Nat) (st : Status) (data : List Byte) : List OutMsg :=
  let n := max 1 (ceilDiv data.length 65536)
  (List.range n).map fun k => .reply p op st tag (k + 1 < n) ((data.drop (65536 * k)).take 65536)

/-- The replies of a session that have been reached in its order of requests sent (R365). -/
def State.flushReplies (s : State) (p : Peer) : State :=
  match s.session p with
  | none => s
  | some y =>
    let ready := y.replies.takeWhile fun r => r.answer.isSome
    let frames := ready.flatMap fun r => match r.answer with
      | some a => replyFrames p r.op r.tag a.1 a.2
      | none => []
    let s1 := s.modSession p fun z => { z with replies := z.replies.dropWhile fun r => r.answer.isSome }
    s1.transmit p frames

/-- A reply to a request; it waits for the replies of earlier requests of its session (R362, R365). -/
def State.reply (s : State) (x : HtpFrame) (op : Nat) (st : Status) (data : List Byte) : State :=
  let r : HeldReply := { op := op, tag := x.tag.toNat, answer := some (st, data) }
  match s.session x.peer with
  | none => (s.transmit x.peer (replyFrames x.peer op x.tag.toNat st data)).respond st data
  | some _ => ((s.modSession x.peer fun y => { y with replies := y.replies ++ [r] }).flushReplies x.peer).respond st data

/-- The first unanswered request of an opcode and TAG in a list of replies answered. -/
def answerIn (op tag : Nat) (a : Status × List Byte) : List HeldReply → List HeldReply
  | [] => []
  | r :: l => if r.op = op ∧ r.tag = tag ∧ r.answer = none then { r with answer := some a } :: l else r :: answerIn op tag a l

/-- A request answered later: its reply, if its session still lives, in the order of requests (R365). -/
def State.answer (s : State) (p : Peer) (op tag : Nat) (st : Status) (data : List Byte) : State :=
  (s.modSession p fun y => { y with replies := answerIn op tag (st, data) y.replies }).flushReplies p

/-- The operations that recovery serves: HELLO, ID_GET and 0x20–0x27 (R455). -/
def servedInRecovery (op : Nat) : Bool := op == 1 || op == 0x30 || (0x20 ≤ op && op ≤ 0x27)

/-- The first case of R365 that keeps a request of opcode `op` from being executed, with the state it leaves: a port that takes no
frame, or a frame of another row; a bad frame; one that recovery does not serve, or before HELLO; the seventeenth outstanding; one
of another version; a reserved OP. -/
def State.htpTurnedAway (s : State) (x : HtpFrame) (op : Nat) : Option State :=
  if !s.takesHtp x.peer ∨ !x.isFor op then some s
  else if x.bad then some ((s.bump Reg.HTP_BADFRAME).reply x op .badFormat [])
  else if s.update.recovery ∧ !servedInRecovery op then some (s.reply x op .refused [])
  else match s.session x.peer with
    | none => some (s.reply x op .refused [])
    | some y =>
      if 16 ≤ y.replies.length then some (if x.peer = .usb then s else s.bump Reg.HTP_BADFRAME)
      else if y.version ≠ x.version.toNat then some ((s.bump Reg.HTP_VERSION_REF).reply x op .version [])
      else if reservedOp x.op then some ((s.bump Reg.HTP_BADFRAME).reply x x.op .badFormat [])
      else none

/-- A request that is taken tells that its session lives (R366). -/
def State.htpHeard (s : State) (x : HtpFrame) : State := s.modSession x.peer fun z => { z with lastAt := s.now }

/-- The state in which a request that is executed runs: its session's time and HTP_FRAMES noted (R365, R366). -/
def State.htpTaken (s : State) (x : HtpFrame) : State := (s.htpHeard x).bump Reg.HTP_FRAMES

/-- A request of opcode `op`: turned away, or executed by `f`, which answers with a status and data, or with none where the reply
follows later (R365). -/
def State.htp (s : State) (x : HtpFrame) (op : Nat) (f : State → Option (Status × List Byte) × State) : State :=
  match s.htpTurnedAway x op with
  | some t => t
  | none =>
    let r := f (s.htpTaken x)
    match r.1 with
    | some a => r.2.reply x op a.1 a.2
    | none => r.2.modSession x.peer fun z => { z with replies := z.replies ++ [{ op := op, tag := x.tag.toNat }] }

/-- Bytes of a payload as a number. -/
def htpField (x : HtpFrame) (lo n : Nat) : Nat := leNat ((x.payload.drop lo).take n)

/-- The payload of the reply to HELLO (R363). -/
def State.helloData (s : State) (v : Nat) : List Byte :=
  leBytes 1 v ++ leBytes 1 (s.reg Reg.FA_LEVEL) ++ leBytes 2 (s.reg Reg.HFV_RANGE) ++ leBytes 2 (s.reg Reg.CFV_RANGE) ++
    leBytes 2 (s.reg Reg.HTP_RANGE) ++ leBytes 2 (s.reg Reg.TPV_RANGE) ++ leBytes 1 (s.reg Reg.DEV_NUM) ++ leBytes 1 16 ++
    List.replicate 4 0

/-- Whether a port holds as many sessions of others as it can: 4 on an Ethernet port (R366). -/
def State.sessionsFull (s : State) (p : Peer) : Bool :=
  match p with
  | .usb => false
  | .ethernet e _ _ => decide (4 ≤ (s.host.sessions.filter fun x => x.peer != p && (match x.peer with
      | .usb => false
      | .ethernet d _ _ => decide (d = e))).length)

/-- HELLO: a session at the highest version in both ranges; a second HELLO ends the session before it (R364). -/
def execHello (x : HtpFrame) (s : State) : Host.Outcome State Fault Refusal :=
  let lo := htpField x 0 1
  let hi := htpField x 1 1
  let r := s.reg Reg.HTP_RANGE
  let v := min hi (r / 256)
  if !s.takesHtp x.peer ∨ (!x.bad ∧ x.op ≠ 1) then .next s
  else if x.bad then .next ((s.bump Reg.HTP_BADFRAME).reply x 1 .badFormat [])
  else if x.payload.length < 2 then .next ((s.bump Reg.HTP_BADFRAME).reply x 1 .badFormat [])
  else if s.sessionsFull x.peer ∧ lo ≤ v ∧ r % 256 ≤ v then .next (s.reply x 1 .refused [])
  else
    let s1 := s.endSessions fun y => decide (y.peer = x.peer)
    if v < lo ∨ v < r % 256 then .next ((s1.bump Reg.HTP_FRAMES).reply x 1 .version [])
    else
      let y : Session := { peer := x.peer, version := v, lastAt := s.now }
      let s2 : State := { s1 with host := { s1.host with sessions := s1.host.sessions ++ [y] } }
      .next ((s2.bump Reg.HTP_FRAMES).reply x 1 .ok (s2.helloData v))

/-- BYE: the session ends after its reply (R363). -/
def execBye (x : HtpFrame) (s : State) : Host.Outcome State Fault Refusal :=
  .next (match s.htpTurnedAway x 9 with
    | some t => t
    | none => ((s.htpTaken x).reply x 9 .ok []).endSessions fun y => decide (y.peer = x.peer))

/-- NOTIFY_SET: which notifications the session receives (R363). -/
def execNotifySet (x : HtpFrame) (s : State) : Host.Outcome State Fault Refusal :=
  .next (s.htp x 8 fun s => (some (.ok, []), s.modSession x.peer fun y => { y with mask := htpField x 0 4 % 8 }))

/-- HTP_SESSION_TIMEOUT: an Ethernet session ends after 10 s without a frame (R366). -/
def execHtpSessionTimeout (p : Peer) (s : State) : Host.Outcome State Fault Refusal :=
  match s.session p with
  | none => .next s
  | some y => .next (if p ≠ .usb ∧ y.lastAt + 10000000000 ≤ s.now then s.endSessions fun z => decide (z.peer = p) else s)

/-! ### Queues (R363) -/

/-- Q_PUSH: one entry pushed by the host; the reply's status is the port's outcome (R244, R363). -/
def execQPush (x : HtpFrame) (s : State) : Host.Outcome State Fault Refusal :=
  .next (s.htp x 4 fun s =>
    if x.payload.length < 36 ∨ 32768 ≤ htpField x 0 2 then (some (.badFormat, []), s)
    else
      let t := s.push .host (htpField x 0 2) (entryOfBytes ((x.payload.drop 4).take 32))
      (some (t.resp.status, []), t))

/-- Q_CONSUME: `n` entries consumed by the host (R243, R363). -/
def execQConsume (x : HtpFrame) (s : State) : Host.Outcome State Fault Refusal :=
  .next (s.htp x 5 fun s =>
    if x.payload.length < 8 ∨ 32768 ≤ htpField x 0 2 then (some (.badFormat, []), s)
    else
      let t := s.consume .host (htpField x 0 2) (htpField x 4 4)
      (some (t.resp.status, []), t))

/-! ### Memory (R363, R366) -/

/-- What a transfer of the host has come to: the most severe status, the data read, the state, and the statuses of the refusals
recorded so far, one entry for each (R490, R491). -/
structure Transfer where
  status : Status := .ok
  data : List Byte := []
  state : State
  seen : List Status := []

/-- A piece of a line read 8 bytes at a time; a refused line is counted once and reads zero (R16, R278, R293, R491). -/
def Transfer.readPiece (x : Transfer) (a n : Nat) : Transfer :=
  match x.state.lineBar .host false a with
  | some b =>
    let r := x.state.refuseLine .host b.1 a n b.2 x.seen
    { status := x.status.worse b.1, data := x.data ++ List.replicate n 0, state := r.1, seen := r.2 }
  | none => (List.range (n / 8)).foldl (fun (x : Transfer) i =>
      let r := x.state.busRead .host (a + 8 * i) 8 .clean
      { x with status := x.status.worse r.1, data := x.data ++ r.2.1, state := r.2.2 }) x

/-- A piece of a line written 8 bytes at a time; a refused line is counted once and its data discarded (R16, R278, R293,
R491). -/
def Transfer.writePiece (x : Transfer) (a : Nat) (data : List Byte) : Transfer :=
  match x.state.lineBar .host true a with
  | some b =>
    let r := x.state.refuseLine .host b.1 a data.length b.2 x.seen
    { x with status := x.status.worse b.1, state := r.1, seen := r.2 }
  | none => (List.range (ceilDiv data.length 8)).foldl (fun (x : Transfer) i =>
      let r := x.state.busWrite .host (a + 8 * i) ((data.drop (8 * i)).take 8) .clean
      { x with status := x.status.worse r.1, state := r.2 }) x

/-- MEM_READ: bytes of device memory with the outcome of each region; the most severe one is reported (R363, R490). -/
def State.hostRead (s : State) (a n : Nat) : Status × List Byte × State :=
  let x := (lineCuts a n (n / 8 + 1) 0).foldl (fun (x : Transfer) c => x.readPiece (a + c.1) c.2) { state := s }
  (x.status, x.data, x.state)

/-- MEM_WRITE: bytes of device memory replaced (R363). -/
def State.hostWrite (s : State) (a : Nat) (data : List Byte) : Status × State :=
  let x := (lineCuts a data.length (data.length / 8 + 1) 0).foldl
    (fun (x : Transfer) c => x.writePiece (a + c.1) ((data.drop c.1).take c.2)) { state := s }
  (x.status, x.state)

/-- ADDR and BYTES as R363 and R366 allow them. -/
def memRange (x : HtpFrame) : Bool :=
  let a := htpField x 0 8
  let n := htpField x 8 4
  decide (12 ≤ x.payload.length) && a % 8 == 0 && n % 8 == 0 && decide (8 ≤ n) &&
    decide (n ≤ if x.peer = .usb then 0x1000000 else 8192)

/-- MEM_READ: the data follows on EP2 IN, or is the reply's payload on Ethernet (R363, R366). -/
def execMemRead (x : HtpFrame) (s : State) : Host.Outcome State Fault Refusal :=
  .next (s.htp x 6 fun s =>
    if !memRange x then (some (.badFormat, []), s)
    else
      let r := s.hostRead (htpField x 0 8) (htpField x 8 4)
      (some (r.1, r.2.1), r.2.2))

/-- MEM_WRITE: answered once the data has been written; `data` is what came on EP2 OUT, all of it, or inline on Ethernet
(R363, R366). -/
def execMemWrite (x : HtpFrame) (data : List Byte) (s : State) : Host.Outcome State Fault Refusal :=
  let body := if x.peer = .usb then data else x.payload.drop 12
  if !x.bad ∧ memRange x ∧ x.peer = .usb ∧ data.length < htpField x 8 4 then .next s
  else
    .next (s.htp x 7 fun s =>
      if !memRange x ∨ body.length < htpField x 8 4 then (some (.badFormat, []), s)
      else
        let r := s.hostWrite (htpField x 0 8) (body.take (htpField x 8 4))
        (some (r.1, []), r.2))

/-- MEM_WRITE_TIMEOUT: EP2 OUT data that falls short of BYTES for 100 ms: what came is written, the reply is
TIMEOUT, and it counts in HTP_TIMEOUT alone (R365). -/
def execMemWriteTimeout (x : HtpFrame) (data : List Byte) (s : State) : Host.Outcome State Fault Refusal :=
  if x.bad ∨ !memRange x ∨ x.peer ≠ .usb ∨ htpField x 8 4 ≤ data.length then .next s
  else .next (match s.htpTurnedAway x 7 with
    | some t => t
    | none => (((s.htpHeard x).hostWrite (htpField x 0 8) data).2.bump Reg.HTP_TIMEOUT).reply x 7 .timeout [])

/-! ### The USB port (R361, R364) -/

/-- The USB session ended (R364). -/
def State.endUsb (s : State) : State := s.endSessions fun y => decide (y.peer = .usb)

/-- VBUS_ARRIVAL: the port goes from detached to attached; in sleep it is a wake source (R361, R404). -/
def execVbusArrival (s : State) : Host.Outcome State Fault Refusal :=
  if s.power.off ∨ s.reg Reg.USB_STATE ≠ 0 then .next s else .next ((s.wakeBy .usb).setReg Reg.USB_STATE 1)

/-- USB_BUS_RESET: a bus reset, after which the link runs at the speed given, or a disconnect; either ends the USB session
(R361, R364). -/
def execUsbBusReset (detach superSpeed : Bool) (s : State) : Host.Outcome State Fault Refusal :=
  if s.reg Reg.USB_STATE = 0 then .next s
  else
    let s1 := s.endUsb
    let s2 : State := { s1 with host := { s1.host with usbWakeup := false, usbConfigured := false } }
    .next (if detach then (s2.setReg Reg.USB_STATE 0).setReg Reg.USB_SPEED 0
      else (s2.setReg Reg.USB_STATE 1).setReg Reg.USB_SPEED (if superSpeed then 4 else 2))

/-- USB_SUSPEND: the link enters U3 or suspend (R361). -/
def execUsbSuspend (s : State) : Host.Outcome State Fault Refusal :=
  .next (if s.reg Reg.USB_STATE = 0 then s else s.setReg Reg.USB_STATE 3)

/-- USB_RESUME: a resume from U3 or suspend, a wake source (R361, R404). -/
def execUsbResume (s : State) : Host.Outcome State Fault Refusal :=
  if s.reg Reg.USB_STATE ≠ 3 then .next s
  else .next ((s.wakeBy .usb).setReg Reg.USB_STATE (if s.host.usbConfigured then 2 else 1))

/-- EP0_STANDARD_REQUEST: standard requests are served, with one configuration; class and vendor requests are answered with
STALL, which the response shows as REFUSED (R361). `identify` reads the identifiers of 0x2800. -/
def execEp0StandardRequest (r : Ep0Request) (s : State) : Host.Outcome State Fault Refusal :=
  if s.reg Reg.USB_STATE ≠ 1 ∧ s.reg Reg.USB_STATE ≠ 2 then .next s
  else match r with
    | .setConfiguration v =>
      if 1 < v.toNat then .next (s.respond .refused)
      else
        let on : Bool := v == 1
        .next ((({ s with host := { s.host with usbConfigured := on } } : State).setReg
           Reg.USB_STATE (if on then 2 else 1)).respond .ok)
    | .remoteWakeup on => .next (({ s with host := { s.host with usbWakeup := on } } : State).respond .ok)
    | .identify => .next (s.respond .ok (leBytes 2 (s.reg Reg.USB_VID) ++ leBytes 2 (s.reg Reg.USB_PID)))
    | .classOrVendor => .next (s.respond .refused)

end Sys2Proof.Machine
end

