-- ==== Sys2Proof/Machine/Security.lean ====
section
/-!
DEFINITION. Keys at start (R428–R430), attestation (R431), owner operations and the lifecycle (R435–R438), tamper (R439, R440),
and the calls of the Saddle to the Bridle (R427).
-/
namespace Sys2Proof.Machine
open Sys2Proof

/-- The security record changed. -/
def State.modSecurity (s : State) (f : Security → Security) : State := { s with security := f s.security }

/-! ### Keys (R428–R430) -/

/-- A public key as the 96 bytes x ‖ y (R430). -/
def pubBytes (key : Nat) : List Byte := fitBytes 96 (Config.publicKey key)

/-- A signature r ‖ s of 96 bytes over a digest, its nonce drawn by the device. -/
def State.sign (s : State) (key : Nat) (digest : List Byte) : List Byte × State :=
  let r := s.fresh 384
  (fitBytes 96 (Config.ecdsaSign key r.1.toNat digest), r.2)

/-- A key put into the Tack Room where the device holds one. -/
def State.putKey (s : State) (h : Nat) (k : Option Nat) : State :=
  match k with
  | some v => s.modSecurity fun x => { x with keys := Assoc.set h v x.keys }
  | none => s

/-- A test EXK drawn afresh at a cold start in TEST, kept in the Tack Room alone (R430). -/
def State.drawTestKey (s : State) : State :=
  let r := s.fresh 384
  ((r.2.putKey 4 (some r.1.toNat)).setReg Reg.EXK_PUB (leNat (pubBytes r.1.toNat))).setReg Reg.EXK_SIG 0

/-- The XTS keys drawn and installed: no OWNER key outside TEST and OWNED (R429). -/
def State.drawXts (s : State) : State :=
  let a := s.fresh 512
  let s1 := (a.2.putKey 0x10 (some a.1.toNat)).installXts false a.1.toNat
  let lc := s.reg Reg.LC_STATE
  if lc = 1 ∨ lc = 3 then
    let b := s1.fresh 512
    (b.2.putKey 0x11 (some b.1.toNat)).installXts true b.1.toNat
  else s1

/-- The keys installed at a start (R428–R430). -/
def State.installKeys (s : State) : State :=
  let x := s.security
  let s1 := (((s.modSecurity fun x => { x with noKeys := false }).putKey 2 x.osk).putKey 3 x.idk).putKey 4 x.exk
  (if s.reg Reg.LC_STATE = 1 then s1.drawTestKey else s1).drawXts

/-- The level of TAMPER_LOOP as the sources show it: an open loop reads high (R475, R488). -/
def State.tamperLoop (s : State) (sources : BitVec 5) : State := s.setBit Reg.PIN_IN 8 (natBit sources.toNat 0)

/-- The keys of a cold start: none while the TRNG fails, which is recorded, or while an enabled tamper source is active (R429,
R440). -/
def State.startKeys (s : State) (trng : Bool) (tamper : BitVec 5) : State :=
  let on := tamper.toNat &&& s.reg Reg.TAMPER_EN
  let s1 := (s.tamperLoop tamper).setReg Reg.TAMPER_ACTIVE on
  if !trng then (s1.modSecurity fun x => { x with noKeys := true, trngFailed := true }).logFault { cls := .security }
  else if on ≠ 0 then s1.modSecurity fun x => { x with noKeys := true, checkedAt := s.now }
  else s1.installKeys

/-! ### Identity and attestation (R430, R431, R436) -/

/-- The reply to ID_GET: IDK, EXK, EXK's signature, LC_STATE and 15 reserved bytes (R436). -/
def State.idData (s : State) : List Byte :=
  leBytes 96 (s.reg Reg.IDK_PUB) ++ leBytes 96 (s.reg Reg.EXK_PUB) ++ leBytes 96 (s.reg Reg.EXK_SIG) ++
    leBytes 1 (s.reg Reg.LC_STATE) ++ List.replicate 15 0

/-- Bytes 0–255 of an attestation report (R431). -/
def State.reportBody (s : State) (nonce : List Byte) : List Byte :=
  let lc := s.reg Reg.LC_STATE
  leBytes 4 0x54414C46 ++ leBytes 2 1 ++ leBytes 1 lc ++ leBytes 1 (s.reg Reg.OWNER_LOCK) ++ leBytes 16 (s.reg Reg.SERIAL_FULL) ++
    fitBytes 32 nonce ++ leBytes 48 (s.reg Reg.BRIDLE_MEAS) ++ leBytes 48 (s.reg Reg.SADDLE_MEAS) ++
    leBytes 48 (s.reg Reg.HARNESS_MEAS) ++ leBytes 16 (if lc = 3 then s.reg Reg.OWNER_ID else 0) ++ leBytes 4 (s.reg Reg.OWN_GEN) ++
    leBytes 4 (s.reg Reg.TAMPER_EVENTS) ++ leBytes 8 (s.reg Reg.STEP_COMPLETE) ++ List.replicate 24 0

/-- An attestation report built and signed with IDK; without one REFUSED (R431). -/
def State.attest (s : State) (nonce : List Byte) : Status × List Byte × State :=
  let lc := s.reg Reg.LC_STATE
  match Assoc.get? 3 s.security.keys with
  | some k =>
    if lc ≠ 2 ∧ lc ≠ 3 then (.refused, [], s)
    else
      let body := s.reportBody nonce
      let r := s.sign k (sha384Bytes body)
      (.ok, body ++ r.1, r.2.bump Reg.ATTESTS)
  | none => (.refused, [], s)

/-- A fresh challenge; it replaces the last (R436). -/
def State.drawChallenge (s : State) : List Byte × State :=
  let r := s.fresh 256
  let c := leBytes 32 r.1.toNat
  (c, r.2.modSecurity fun x => { x with challenge := some (c, s.now) })

/-- ID_GET (R436). -/
def execIdGet (x : HtpFrame) (s : State) : Host.Outcome State Fault Refusal :=
  .next (s.htp x 0x30 fun s => (some (.ok, s.idData), s))

/-- ATTEST: a signed report over the request's nonce (R431). -/
def execAttest (x : HtpFrame) (s : State) : Host.Outcome State Fault Refusal :=
  .next (s.htp x 0x31 fun s =>
    if x.payload.length < 32 then (some (.badFormat, []), s)
    else
      let r := s.attest (x.payload.take 32)
      (some (r.1, r.2.1), r.2.2))

/-- CHALLENGE (R436). -/
def execChallenge (x : HtpFrame) (s : State) : Host.Outcome State Fault Refusal :=
  .next (s.htp x 0x32 fun s => let r := s.drawChallenge; (some (.ok, r.1), r.2))

/-! ### Owner operations (R435–R438) -/

/-- A field of an OWNER_OP payload. -/
def ownField (p : List Byte) (lo n : Nat) : Nat := leNat ((p.drop lo).take n)

/-- OP is reserved, or a reserved byte is not zero (R436, R437). -/
def ownerBad (p : List Byte) : Bool :=
  let op := ownField p 0 1
  p.length != 392 || op == 0 || 6 < op || ownField p 1 3 != 0 || ownField p 244 4 != 0

/-- The challenge of a payload is the one in force, drawn less than 60 s ago (R436). -/
def State.challengeHolds (s : State) (p : List Byte) : Bool :=
  match s.security.challenge with
  | some (c, t) => (p.drop 4).take 32 == c && decide (s.now < t + 60000000000)
  | none => false

/-- The public key that authorises an operation in the present state (R435, R437). -/
def State.authoriser (s : State) (p : List Byte) : List Byte :=
  match ownField p 0 1 with
  | 1 => (p.drop 40).take 96
  | 3 => if s.reg Reg.LC_STATE = 3 then s.security.opk else Config.factoryKey
  | 6 => Config.factoryKey
  | _ => s.security.opk

/-- Whether the lifecycle allows an operation (R435). -/
def ownerAllowed (op lc : Nat) : Bool :=
  match op with
  | 1 => lc == 2
  | 2 => lc == 3
  | 3 => lc == 1 || lc == 2 || lc == 3
  | 6 => lc == 1
  | _ => lc == 3

/-- OSK as a TAKE_OWNERSHIP wraps it, keyed as DEVICE mode (R432, R436). -/
def State.unwrapOsk (s : State) (p : List Byte) : Option Nat :=
  match Assoc.get? 4 s.security.keys with
  | none => none
  | some exk =>
    let id := (sha384Bytes (pubBytes exk)).take 16
    (Config.gcmOpen (deviceKek exk id ((p.drop 136).take 96)) (BitVec.ofNat 96 (ownField p 232 12)) (p.take 136)
      ((p.drop 248).take 32) (BitVec.ofNat 128 (ownField p 280 16))).map fun k => leNat (fitBytes 32 k)

/-- What stands in the way of a transition (R437). -/
def State.transitionBar (s : State) : Bool :=
  s.reg Reg.HARNESS_STATE != 0 || s.updating || s.power.brace.isSome || s.reg Reg.HOLDUP_OK == 0

/-- The new lifecycle record (R435). -/
def State.newRecord (s : State) (p : List Byte) (osk : Option Nat) : State :=
  match ownField p 0 1 with
  | 1 =>
    let opk := (p.drop 40).take 96
    let s1 := ((s.setReg Reg.LC_STATE 3).setReg Reg.OWNER_ID (leNat ((sha384Bytes opk).take 16))).bump Reg.OWN_GEN
    ((s1.setReg Reg.TAMPER_EN 0x1F).setReg Reg.OWNER_LOCK 0).modSecurity fun x => { x with opk := opk, osk := osk }
  | 2 =>
    (((s.setReg Reg.LC_STATE 2).setReg Reg.OWNER_ID 0).setReg Reg.OWNER_LOCK 0).modSecurity fun x => { x with opk := [], osk := none }
  | 3 =>
    let s1 := (((s.setReg Reg.LC_STATE 4).setReg Reg.OWNER_ID 0).setReg Reg.OWNER_LOCK 0).setReg Reg.IDK_PUB 0
    ((s1.setReg Reg.EXK_PUB 0).setReg Reg.EXK_SIG 0).modSecurity fun x =>
      { x with idk := none, exk := none, osk := none, opk := [] }
  | _ =>
    let a := s.fresh 384
    let b := a.2.fresh 384
    let pub := pubBytes b.1.toNat
    let g := b.2.sign a.1.toNat (sha384Bytes pub)
    let s1 := ((g.2.setReg Reg.LC_STATE 2).setReg Reg.IDK_PUB (leNat (pubBytes a.1.toNat))).setReg Reg.EXK_PUB (leNat pub)
    (s1.setReg Reg.EXK_SIG (leNat g.1)).modSecurity fun x => { x with idk := some a.1.toNat, exk := some b.1.toNat }

/-- A transition once all checks have passed: the record, the wipe of the Tack Room and the restart (R437). -/
def State.transition (s : State) (p : List Byte) (osk : Option Nat) : State :=
  (((s.newRecord p osk).bump Reg.LC_TRANSITIONS).wipeTack 2).offAndRestart 1

/-- OWNER_OP: the checks of R437 in order, then the operation. The challenge is used up by the first check that reaches it. The
reserved bits of ARG are ignored (R4, R438, R442). -/
def State.ownerOp (s : State) (p : List Byte) : Status × State :=
  let op := ownField p 0 1
  if ownerBad p then (.badFormat, s)
  else
    let s1 := s.modSecurity fun x => { x with challenge := none }
    if !s.challengeHolds p then (.security, s1.bump Reg.AUTH_FAIL)
    else if !Config.ecdsaVerify (s.authoriser p) (sha384Bytes (p.take 296)) ((p.drop 296).take 96) then
      (.security, s1.bump Reg.AUTH_FAIL)
    else if !ownerAllowed op (s.reg Reg.LC_STATE) then (.refused, s1)
    else if op = 4 then (.ok, s1.setReg Reg.OWNER_LOCK (ownField p 36 4 % 8))
    else if op = 5 then
      (if ownField p 36 4 % 32 / 4 = 7 then (.ok, s1.setReg Reg.TAMPER_EN (ownField p 36 4 % 32)) else (.badFormat, s1))
    else
      let osk := if op = 1 then s.unwrapOsk p else none
      if op = 1 ∧ osk.isNone then (.security, s1.bump Reg.AUTH_FAIL)
      else if s.transitionBar then (.refused, s1)
      else (.ok, s1.transition p osk)

/-- Whether an OWNER_OP frame is the row of another operation by what its payload spells; a reserved operation may come as any
row's. -/
def ownsFrame (x : HtpFrame) (op : Nat) : Bool :=
  x.bad || x.op != 0x33 || htpField x 0 1 == op || htpField x 0 1 == 0 || decide (6 < htpField x 0 1)

/-- An OWNER_OP frame whose payload spells operation `op`. -/
def State.ownerFrame (s : State) (x : HtpFrame) (op : Nat) : State :=
  if !ownsFrame x op then s
  else s.htp x 0x33 fun s => let r := s.ownerOp x.payload; (some (r.1, []), r.2)

/-- TAKE_OWNERSHIP (R435–R437). -/
def execTakeOwnership (x : HtpFrame) (s : State) : Host.Outcome State Fault Refusal := .next (s.ownerFrame x 1)

/-- RELEASE (R435–R437). -/
def execRelease (x : HtpFrame) (s : State) : Host.Outcome State Fault Refusal := .next (s.ownerFrame x 2)

/-- RETIRE (R435–R437). -/
def execRetire (x : HtpFrame) (s : State) : Host.Outcome State Fault Refusal := .next (s.ownerFrame x 3)

/-- SET_LOCK: the OWNER_LOCK bits (R438). -/
def execSetLock (x : HtpFrame) (s : State) : Host.Outcome State Fault Refusal := .next (s.ownerFrame x 4)

/-- SET_TAMPER_EN: the enable bits; the fixed sources cannot be cleared (R439). -/
def execSetTamperEn (x : HtpFrame) (s : State) : Host.Outcome State Fault Refusal := .next (s.ownerFrame x 5)

/-- PROVISION (R430, R435). -/
def execProvision (x : HtpFrame) (s : State) : Host.Outcome State Fault Refusal := .next (s.ownerFrame x 6)

/-- LIFECYCLE_RESTART: 100 ms after the power-off the always-on domain restarts the device, unless RESET_N holds it off (R437,
R440, R481). -/
def execLifecycleRestart (s : State) : Host.Outcome State Fault Refusal :=
  match s.security.restartAt with
  | none => .next s
  | some (t, _) => if s.now < t ∨ s.power.resetHeld ∨ !s.power.off then .next s else .next s.turnOn

/-! ### Tamper (R439, R440) -/

/-- TAMPER_DETECT: an enabled source wipes the Tack Room and restarts the device; in WATCH, where no clock runs for the clock
detector, the wake that follows is the cold start. Nothing is sensed in OFF (R439, R440). -/
def execTamperDetect (sources : BitVec 5) (s : State) : Host.Outcome State Fault Refusal :=
  let asleep : Bool := s.reg Reg.PWR_STATE == 3
  let on := sources.toNat &&& s.reg Reg.TAMPER_EN &&& (if asleep then 0x17 else 0x1F)
  if s.power.off then .next s
  else if on = 0 then .next (s.tamperLoop sources)
  else
    let s1 := ((((s.tamperLoop sources).wipeTack 1).setReg Reg.TAMPER_LAST on).bump Reg.TAMPER_EVENTS).logFault { cls := .security, ref := on }
    .next (if asleep then s1.modSecurity fun x => { x with coldWake := true } else s1.offAndRestart 2)

/-- TAMPER_RECHECK: every 100 ms after a tamper restart the Bridle looks again, and installs the keys once no enabled source is
active (R440). -/
def execTamperRecheck (sources : BitVec 5) (s : State) : Host.Outcome State Fault Refusal :=
  if s.reg Reg.TAMPER_ACTIVE = 0 ∨ !s.security.noKeys ∨ s.now < s.security.checkedAt + 100000000 then .next s
  else
    let on := sources.toNat &&& s.reg Reg.TAMPER_EN
    let s1 := ((s.tamperLoop sources).setReg Reg.TAMPER_ACTIVE on).modSecurity fun x => { x with checkedAt := s.now }
    .next (if on = 0 ∧ !s.security.trngFailed then s1.installKeys else s1)

/-! ### Calls of the Saddle (R427) -/

/-- A range that lies in the Saddle's own regions (R426, R427). -/
def State.saddleMay (s : State) (write : Bool) (a n : Nat) : Bool :=
  (firstWhere s.variant a n fun b => outside s.variant b || (s.denial .saddle write b).isSome).isNone

/-- ECALL_OPEN_HARNESS: an envelope opened in place and measured; the measurement is returned (R433, R434). -/
def execEcallOpenHarness (img len : Nat) (s : State) : Host.Outcome State Fault Refusal :=
  if !s.saddleMay true img (max len 256) then .next (s.respond .security)
  else
    let o := s.openEnvelope img len s.harnessMode
    .next (o.2.respond o.1.status (if o.1.status = .ok then leBytes 48 o.1.meas else []))

/-- ECALL_ATTEST: a report over the nonce at `src`, written at `dst` (R431). -/
def execEcallAttest (src dst : Nat) (s : State) : Host.Outcome State Fault Refusal :=
  if !s.saddleMay false src 32 ∨ !s.saddleMay true dst 352 then .next (s.respond .security)
  else
    let r := s.attest (s.bytes src 32)
    .next ((r.2.2.setBytes dst r.2.1).respond r.1)

/-- ECALL_OWNER_OP: an owner operation whose 392-byte payload lies at `src` (R436, R437). -/
def execEcallOwnerOp (src : Nat) (s : State) : Host.Outcome State Fault Refusal :=
  if !s.saddleMay false src 392 then .next (s.respond .security)
  else let r := s.ownerOp (s.bytes src 392); .next (r.2.respond r.1)

/-- ECALL_UNSEAL_KEY: a one-chunk OWNER envelope holding a 32-byte key opened into a user handle, in OWNED alone (R427, R428,
R434). -/
def execEcallUnsealKey (img len handle : Nat) (s : State) : Host.Outcome State Fault Refusal :=
  if !s.saddleMay false img (max len 256) then .next (s.respond .security)
  else if handle < 0x8000 ∨ 0x803F < handle then .next (s.respond .badFormat)
  else
    let o := s.openKey img len fun m => m == .owner && s.reg Reg.LC_STATE == 3
    if o.status ≠ .ok then .next ((s.sealFail o).respond o.status)
    else .next ((s.putKey handle (some (leNat o.plain))).respond .ok)

/-- ECALL_CHALLENGE: a fresh challenge written at `dst` (R427, R436). -/
def execEcallChallenge (dst : Nat) (s : State) : Host.Outcome State Fault Refusal :=
  if !s.saddleMay true dst 32 then .next (s.respond .security)
  else let r := s.drawChallenge; .next ((r.2.setBytes dst r.1).respond .ok)

end Sys2Proof.Machine
end

