-- ==== Sys2Proof/Machine/Bringup.lean ====
section
/-!
DEFINITION. Bring-up (R410–R415), the first run of a bank (R445, R454), and the Farrier (R417–R425).
-/
namespace Sys2Proof.Machine
open Sys2Proof

/-! ### A bank's first run (R445, R454) -/

/-- An entry of an older persisted dictionary under the MIGRATE records: dropped, moved, or as it stands (R454). -/
def migrateEntry (rules : List (Nat × Nat)) (e : Nat × Nat) : Option (Nat × Nat) :=
  match Assoc.get? e.1 rules with
  | some 0 => none
  | some k => some (k, e.2)
  | none => some e

/-- The persisted dictionary read by the image of a bank: used as it stands, migrated, or given up for the defaults (R357,
R454). `v` is the flash's verify of the commit. -/
def State.adoptDictionary (s : State) (x : BankImage) (v : StoreVerify) : State :=
  match s.host.validCopy with
  | none => s.defaultRwp
  | some b =>
    let c := if b then s.host.pdB else s.host.pdA
    if c.pdv = x.pdv.1 then s.loadPersisted
    else if x.pdv.2 ≤ c.pdv ∧ c.pdv < x.pdv.1 then
      let s1 := (c.entries.filterMap (migrateEntry x.migrate)).foldl State.loadEntry s.defaultRwp
      let s2 := ((s1.modUpdate fun u => { u with legacy := some c }).persistCommit v).2
      (s2.modUpdate fun u => { u with commitsSince := 0 }).bump Reg.PD_MIGRATIONS
    else s.defaultRwp.logFault { cls := .update, status := .version, ref := c.pdv }

/-- The Saddle of a bank runs: its version, its measurement and the version ranges of its image (R427, R446, R450). -/
def State.runSaddle (s : State) (b : Bool) : State :=
  let x := s.update.image b
  let r (i : Nat) : Nat := x.ranges.getD i 0x0101
  let s1 := (s.setReg Reg.RUN_VER (s.reg (bankVer b))).setReg Reg.SADDLE_MEAS x.saddle
  (((s1.setReg Reg.HFV_RANGE (r 0)).setReg Reg.CFV_RANGE (r 1)).setReg Reg.HTP_RANGE (r 2)).setReg Reg.TPV_RANGE (r 3)

/-- The bank that a cold start boots, after the rollback that its record asks for: a bank in PROBATION gives way to the PREVIOUS
one, and so does an ACTIVE bank that does not verify (R445). -/
def State.bootBank (s : State) (a b : Bool) : Option Bool × State :=
  let st (x : Bool) : Nat := s.reg (bankState x)
  let good (x : Bool) : Bool := if x then b else a
  let back (x : Bool) : Option Bool × State :=
    let s1 := (s.setReg Reg.BANK_ACTIVE (boolNat x)).rollback
    (if st (!x) = 4 ∧ good (!x) then some (!x) else none, s1)
  if st false = 2 then back false
  else if st true = 2 then back true
  else if st false = 3 then (if a then (some false, s) else back false)
  else if st true = 3 then (if b then (some true, s) else back true)
  else if st false = 4 ∧ a then (some false, s)
  else if st true = 4 ∧ b then (some true, s)
  else (none, s)

/-! ### Bring-up (R410, R411) -/

/-- A stage that fails stops bring-up: counted, BRINGUP_FAIL set, bit 7 of BRINGUP_STAGE set, recorded and reported (R411). -/
def State.stageFailed (s : State) (stage fail : Nat) (n : FaultNote) : State :=
  ((((s.setReg Reg.BRINGUP_STAGE (stage + 128)).setReg Reg.BRINGUP_FAIL fail).bump Reg.BRINGUP_FAILS).logFault n).emcy 0x5000
    n.status 0 0

/-- Stage 0: with a rail that does not rise every regulator is off, and bring-up is retried after 1 s, three times (R411). -/
def State.endPower (s : State) (bad : Option (Fin 8)) (pins : BitVec 16) : State :=
  match bad with
  | some r =>
    let n := s.power.railRetries
    let s1 := ((s.powerOff 0).setReg Reg.BRINGUP_FAIL (r.val + 16)).bump Reg.BRINGUP_FAILS
    s1.modPower fun p => { p with railRetries := n + 1, retryAt := if n < 3 then some (s.now + 1000000000) else none }
  | none =>
    ((s.setReg Reg.DEV_NUM (pins.toNat / 1024)).setReg Reg.PIN_IN pins.toNat).setReg Reg.BRINGUP_STAGE 1

/-- Stage 1: a bank booted and its Saddle run with the persisted dictionary; the CANopen boot-up message (R357, R367, R412, R424).
No bank that verifies leaves the Bridle in recovery (R411, R455). -/
def State.endManage (s : State) (a b : Bool) (v : StoreVerify) : State :=
  let boot := s.bootBank a b
  match boot.1 with
  | none =>
    (((boot.2.modUpdate fun u => { u with recovery := true }).setReg Reg.BRINGUP_FAIL 1).bump Reg.BRINGUP_FAILS).logFault
      { cls := .bringup }
  | some x =>
    let img := s.update.image x
    let s1 := boot.2.setReg Reg.BANK_ACTIVE (boolNat x)
    let s2 := match img.bridle with
      | some d => s1.setReg Reg.BRIDLE_MEAS d
      | none => s1
    let s3 := ((s2.runSaddle x).modUpdate fun u =>
      { u with ucRun := img.uc, recovery := false, swapFrom := none }).setReg Reg.UPD_STATE 0
    let s4 := ((s3.adoptDictionary img v).persistCommit v).2.latchShape
    let timing := [s4.reg Reg.NOM_RATE, s4.reg Reg.DATA_RATE, s4.reg Reg.NOM_SP, s4.reg Reg.DATA_SP]
    let s5 : State := { s4 with host := { s4.host with canTiming := timing, heartbeatAt := s.now } }
    let s6 := s5.modPower fun p => { p with vcore := min 800 (s4.reg Reg.VCORE_PLAN_MV + 10) }
    let s7 := ((List.range 6).foldl State.reinDrive s6).setReg Reg.NMT_STATE 0x7F
    (s7.setReg Reg.BRINGUP_STAGE 2).canSend (0x700 + s7.reg Reg.NODE_ID) [0]

/-- Stage 2: the PLL and the networks; a failure is retried once (R411). -/
def State.endClocks (s : State) (ok : Bool) (ppm : BitVec 16) : State :=
  if ok then ((s.setReg Reg.PLL_LOCKED 1).setReg Reg.REF_PPM ppm.toNat).setReg Reg.BRINGUP_STAGE 3
  else if s.power.clockRetried then s.stageFailed 2 2 { cls := .bringup, sev := some .fatal }
  else s.modPower fun p => { p with clockRetried := true }

/-! ### What stage 3 reads of the Stable (R288–R290) -/

/-- Whether superblock copy `b` holds: its MAGIC, CRC and MEAS_CRC (R288). -/
def State.superHolds (s : State) (b : Bool) : Bool :=
  let a := stableBase + 0x3C00000 + (if b then 0x1000 else 0)
  s.word a 4 == 0x42534C46 && s.word (a + 60) 4 == (crc32c (s.bytes a 60)).toNat &&
    s.word (a + 24) 4 == (crc32c (s.bytes (a + 64) 64)).toNat

/-- The valid superblock taken: STABLE_STATE, SPARE_LEFT and STABLE_HARNESS; with neither copy the Stable reads EMPTY (R288,
R411). -/
def State.readSuperblock (s : State) : State :=
  let seq (b : Bool) : Nat := s.word (stableBase + 0x3C00000 + (if b then 0x1000 else 0) + 8) 4
  let pick : Option Bool := match s.superHolds false, s.superHolds true with
    | true, true => some (decide (seq false < seq true))
    | true, false => some false
    | false, true => some true
    | false, false => none
  match pick with
  | none => (s.setReg Reg.STABLE_STATE 0).logFault { cls := .stable }
  | some b =>
    let a := stableBase + 0x3C00000 + (if b then 0x1000 else 0)
    let st := s.word (a + 6) 1
    (((s.setReg Reg.STABLE_STATE st).setReg Reg.SPARE_LEFT (s.word (a + 20) 2)).setReg Reg.STABLE_HARNESS
      (s.word (a + 64) 48)).modLearning fun l => { l with superB := b, superSeq := seq b, degraded := st == 3 }

/-- Words of `w` bytes that an area of memory holds, by number. -/
def areaWords (base n w : Nat) (m : List Host.Cell) : Assoc Nat :=
  m.foldl (fun l c =>
    if base ≤ c.1 ∧ c.1 < base + n * w then
      let k := (c.1 - base) / w
      Assoc.set k (Assoc.getD l k 0 + c.2.toNat * 256 ^ ((c.1 - base) % w)) l
    else l) []

/-- The counters of `n` pages from page `p` raised by `k`. -/
def raisePages (k : Nat) : (n p : Nat) → Assoc Nat → Assoc Nat
  | 0, _, l => l
  | n + 1, p, [] => (p, k) :: raisePages k n (p + 1) []
  | n + 1, p, e :: l =>
    if e.1 = p then (p, e.2 + k) :: raisePages k n (p + 1) l else (p, k) :: raisePages k n (p + 1) (e :: l)

/-- The remap table and the wear counters read; with the last flush missing every counter rises by 4 (R287, R290). Spare pages
that the table shows used since the last superblock was written are not left (R201; DEDUCED). -/
def State.readWear (s : State) : State :=
  let remap := ((areaWords (stableBase + 0x3C02000) 18432 4 s.mem).filter fun e => natBit e.2 31).map fun e => (e.1, e.2 % 2 ^ 15)
  let wear := areaWords (stableBase + 0x3C14000) 18432 8 s.mem
  let used := remap.foldl (fun m e => max m (e.2 - 18431)) 0
  ((s.modLearning fun l =>
    { l with remap := remap, wear := if l.flushMark then wear else raisePages 4 18432 0 wear, flushMark := false }).setReg
      Reg.SPARE_LEFT (min (s.reg Reg.SPARE_LEFT) (1024 - used))).noteWear

/-- The records of a generation's half up to the last COMMIT that replay would accept, counted (R289). -/
def State.halfEnd (s : State) (g k last : Nat) : (fuel : Nat) → Nat
  | 0 => last
  | n + 1 =>
    let v := s.word (genBase g + 64 + 8 * k) 8
    let ty := bitField v 56 3
    if bitField v 60 4 ≠ g % 16 ∨ 2 < ty ∨ (ty = 2 ∧ bitField v 0 56 ≠ g % 2 ^ 56) then last
    else s.halfEnd g (k + 1) (if ty = 2 then k + 1 else last) n

/-- The generation whose half header `i` (0–3) holds (R289). -/
def State.halfGen (s : State) (i : Nat) : Option Nat :=
  let g := s.word (genBase i + 8) 8
  if s.headerHolds g ∧ genBase g = genBase i then some g else none

/-- The journal taken up where it ends: the newest generation, after the last epoch it committed, so that no later COMMIT can
close the records of one that was lost; the rest of the COMMIT's block is padded (R194, R196). The spec does not say where a
restarted drain goes on. DEDUCED. -/
def State.readJournal (s : State) : State :=
  match ((List.range 4).filterMap s.halfGen).foldl (fun m g => some (max g (m.getD 0))) (none : Option Nat) with
  | none => s
  | some g =>
    let n := s.halfEnd g 0 0 262136
    let pos := 64 + roundUp (8 * n) 64
    (((s.setReg Reg.JRNL_GEN g).setReg Reg.JRNL_FILL pos).setBytes (genBase g + 64 + 8 * n) (padRecords g
      (pos / 8 - 8 - n))).modLearning
      fun l => { l with drainGen := g, drainPos := pos }

/-! ### Memories, links and clusters (R294, R295, R410–R415) -/

/-- A queue that the firmware binds at start, of 64 entries: KIND, BASE, ENG, LINK, and its producer and consumer (R241). -/
def firmwareBinding (kind : QKind) (base eng link master : Nat) : Queue :=
  { kind := kind, log2n := 6, base := base, eng := eng, link := link, prod := master, cons := master, qstate := .enabled }

/-- Window 24 of bank 15 and the firmware's queues set at start (R241). The spec leaves their numbers and sizes to the firmware.
DESIGN CHOICE: queue 0 and 32,544 for its records; 32,512 of the Bridle for the Crypto engine and 32,513 for its records. -/
def State.bindFirmware (s : State) : State :=
  let s1 := s.setWindow 15 24 { base := firmwareArea, log2size := 18, mode := .ring }
  let s2 := s1.setQueue 0 (firmwareBinding .command firmwareArea 0 32544 0x11)
  let s3 := s2.setQueue 32544 (firmwareBinding .completion (firmwareArea + 0x800) 0xF 0x7FFF 0x11)
  let s4 := s3.setQueue 32512 (firmwareBinding .command (firmwareArea + 0x1000) 5 32513 0x12)
  s4.setQueue 32513 (firmwareBinding .completion (firmwareArea + 0x1800) 0xF 0x7FFF 0x12)

/-- Stage 3: the shared memories tested, the Tack Room wiped after its test, the Stable read, LPDDR5X trained, the keys installed,
the links' training begun and the firmware's queues bound (R241, R285, R410, R414, R429). -/
def State.endMemory (s : State) (m : MemoryReport) : State :=
  match m.bad with
  | some b => s.stageFailed 3 3 { cls := .bringup, sev := some .fatal, status := .eccUncorr, unit := b.1.val, ref := b.2.toNat }
  | none =>
    let s1 := ((s.setReg Reg.SOFT_REPAIRS m.repairs).setReg Reg.SPARE_ROWS_MIN m.spare.toNat).wipeTack 3
    let s2 := (s1.readSuperblock.readWear.readJournal.trainDdr m.train).startKeys m.trng m.tamper
    let s3 := (List.range 8).foldl (fun (s : State) l =>
      if s.reg (Reg.LINK_STATE l) = 4 ∨ s.reg (Reg.LINK_STATE l) = 5 then s else s.beginTraining l false true) s2
    s3.bindFirmware.setReg Reg.BRINGUP_STAGE 4

/-- A tile fenced in this run and counted (R411, R413). -/
def State.fenceAtStart (s : State) (c t : Nat) : State :=
  if s.bit (Reg.TILES_FENCED c) t then s else (s.setBit (Reg.TILES_FENCED c) t true).bump Reg.TILES_FENCED_START

/-- Stage 5: tiles that fail are fenced, and so are all 64 of a cluster whose router or far-row cache fails (R411, R414). The
device is READY, and a re-plan due (R424). -/
def State.endClusters (s : State) (tiles : List (ClusterId × TileId)) (whole : List ClusterId) (repairs : Nat)
    (spare : BitVec 8) : State :=
  let s1 := (s.bumpBy Reg.SOFT_REPAIRS repairs).setReg Reg.SPARE_ROWS_MIN (min (s.reg Reg.SPARE_ROWS_MIN) spare.toNat)
  let s2 := tiles.foldl (fun (s : State) x => (s.fenceAtStart x.1.val x.2.val).logFault
    { cls := .bringup, sev := some .degraded, status := .degraded, unit := x.1.val, sub := x.2.val }) s1
  let s3 := whole.foldl (fun (s : State) c =>
    (((List.range 64).foldl (fun s t => s.fenceAtStart c.val t) s).logFault
      { cls := .bringup, sev := some .degraded, status := .degraded, unit := c.val }).emcy 0xFF04 .degraded 2 c.val) s2
  let s4 := (s3.setReg Reg.BRINGUP_STAGE 6).setReg Reg.BRINGUP_MS ((s.now - s.power.startAt) / 1000000)
  s4.modPower fun p => { p with planDue := some s.now }

/-- BRINGUP_STAGE: the present stage ends as reported, and the next begins (R410). A report for another stage changes nothing. -/
def execBringupStage (r : StageReport) (s : State) : Host.Outcome State Fault Refusal :=
  let now := s.reg Reg.BRINGUP_STAGE
  if s.power.off ∨ s.power.resetHeld ∨ s.update.recovery then .next s
  else match r with
    | .power bad pins => .next (if now = 0 then s.endPower bad pins else s)
    | .manage a b v => .next (if now = 1 then s.endManage a b v else s)
    | .clocks ok ppm => .next (if now = 2 then s.endClocks ok ppm else s)
    | .memory m => .next (if now = 3 then s.endMemory m else s)
    | .links => .next (if now = 4 then s.setReg Reg.BRINGUP_STAGE 5 else s)
    | .clusters t w n f => .next (if now = 5 then s.endClusters t w n f else s)

/-- BRINGUP_RETRY: 1 s after a rail failed the regulators are on again (R411). -/
def execBringupRetry (s : State) : Host.Outcome State Fault Refusal :=
  match s.power.retryAt with
  | none => .next s
  | some t =>
    if !s.power.off ∨ s.power.resetHeld ∨ s.now < t then .next s
    else
      let n := s.power.railRetries
      .next (s.turnOn.modPower fun p => { p with railRetries := n })

/-! ### The Farrier (R418–R422) -/

/-- FARRIER_STATE changed; a change is recorded (R422). -/
def State.setFarrier (s : State) (v : Nat) (n : FaultNote) : State :=
  if s.reg Reg.FARRIER_STATE = v then s else (s.setReg Reg.FARRIER_STATE v).logFault n

/-- CORE_ALARM: a path slack below CORE_ALARM_PS raises VDD_CORE by 5 mV, at most once per 100 µs, up to 0.80 V; there the
Farrier is EXHAUSTED (R418). Where VDD_CORE's logic is off (HOLD, WATCH, OFF: R400) no monitor reports. -/
def execCoreAlarm (c : ClusterId) (monitor : Fin 32) (slack : BitVec 16) (s : State) : Host.Outcome State Fault Refusal :=
  if s.power.off ∨ 2 ≤ s.reg Reg.PWR_STATE then .next s
  else if (s.reg Reg.CORE_ALARM_PS : Int) ≤ slack.toInt ∨ (s.power.bumpAt ≠ 0 ∧ s.now < s.power.bumpAt + 100000) then .next s
  else if 800 ≤ s.power.vcore then
    .next (s.setFarrier 2 { cls := .farrier, sev := some .error, unit := c.val, sub := monitor.val })
  else .next ((s.modPower fun p => { p with vcore := min 800 (p.vcore + 5), bumpAt := s.now }).bump Reg.CORE_BUMPS)

/-- A re-plan made due, once. -/
def State.duePlan (s : State) : State := s.modPower fun p => { p with planDue := some (p.planDue.getD s.now) }

/-- REPLAN_DUE: 24 h after the last re-plan, a die temperature that has differed by more than 15 °C from its own for 10 s, or 1 s
after a rise of VDD_CORE (R419). `temp` is the hottest die sensor. -/
def execReplanDue (temp : BitVec 16) (s : State) : Host.Outcome State Fault Refusal :=
  match s.power.planAt with
  | none => .next s
  | some t =>
    let far : Bool := decide (15 < (temp.toInt - s.power.planTemp).natAbs)
    let s1 := s.modPower fun p => { p with planHot := if far then some (p.planHot.getD s.now) else none }
    let hot : Bool := match s1.power.planHot with
      | some h => decide (h + 10000000000 ≤ s.now)
      | none => false
    let bumped : Bool := decide (t < s.power.bumpAt) && decide (s.power.bumpAt + 1000000000 ≤ s.now)
    .next (if t + 86400000000000 ≤ s.now ∨ hot ∨ bumped then s1.duePlan else s1)

/-- FARRIER_NOW: a write of 1 makes a re-plan due (R419). -/
def execFarrierNow (path : Path) (v : BitVec 8) (s : State) : Host.Outcome State Fault Refusal :=
  .next (s.writeObject path 0x2330 2 fun s => if v = 1 then (.ok, s.duePlan) else (.badFormat, s))

/-- Whether a due re-plan is deferred (R419). -/
def State.planHeld (s : State) : Bool :=
  let loads : Bool := match (s.engine 0).running with
    | some r => cmdOpcode r.cmd == some .harnessLoad || cmdOpcode r.cmd == some .harnessUnload
    | none => false
  s.reg Reg.PWR_STATE != 0 || s.power.brace.isSome || s.reg Reg.SUPPLY_STATE == 2 || s.updating || loads || s.harness.unloading

/-- V_new: the lowest 5-mV step at which the predicted slack reaches CORE_GUARD_PS; where none does, 0.80 V (R420). -/
def State.planCore (s : State) (slack : Int) : Nat :=
  let fits (v : Nat) : Bool :=
    decide (100 * (s.reg Reg.CORE_GUARD_PS : Int) ≤ 100 * slack + ((v : Int) - s.power.vcore) * s.reg Reg.SENS_PS_PER_MV)
  (((List.range 21).map fun k => 700 + 5 * k).find? fits).getD 800

/-- STABLE_PULSE_NS and STABLE_REFRESH_D for a projected retention in 0.1 year (R421). -/
def planPulse (y : Nat) : Nat := min 60 (20 + 5 * ((120 - y) / 5))
def planRefresh (y : Nat) : Nat := max 1 (30 / 2 ^ ceilDiv (50 - y) 10)

/-- The entries of PLAN_HISTORY in use as day and VCORE_PLAN_MV, oldest first. -/
def State.planHistory (s : State) : List (Nat × Nat) :=
  ((List.range 8).map fun i =>
    (bitField (s.reg Reg.PLAN_HISTORY) (48 * i) 32, bitField (s.reg Reg.PLAN_HISTORY) (48 * i + 32) 16)).filter fun e => e.2 ≠ 0

/-- The history with the present re-plan kept where it falls at least 90 days after the newest, the last 8 (R422). -/
def keepPlan (h : List (Nat × Nat)) (day v : Nat) : List (Nat × Nat) :=
  match h.getLast? with
  | some e => if e.1 + 90 ≤ day then (h ++ [(day, v)]).drop ((h.length + 1) - 8) else h
  | none => [(day, v)]

/-- The rise of VDD_CORE over a line fitted by least squares, as a fraction of mV per day (R422). The spec does not name the fit.
DEDUCED. -/
def planSlope (l : List (Nat × Nat)) : Int × Int :=
  let sum (f : Nat × Nat → Int) : Int := l.foldl (fun a e => a + f e) 0
  let n : Int := l.length
  let x := sum fun e => e.1
  (n * (sum fun e => e.1 * e.2) - x * sum fun e => e.2, n * (sum fun e => e.1 * e.1) - x * x)

/-- CORE_YEARS_LEFT: the headroom over the rise per year of 365 days; 0xFFFF with fewer than two entries, and a free value where
the fit does not rise, for which the spec states none (R422). -/
def State.yearsLeft (s : State) (h : List (Nat × Nat)) (day v : Nat) : Nat × State :=
  if h.length < 2 then (0xFFFF, s)
  else
    let r := planSlope (if h.contains (day, v) then h else h ++ [(day, v)])
    if r.1 ≤ 0 ∨ r.2 ≤ 0 then (let f := s.fresh 16; (f.1.toNat, f.2))
    else (min 0xFFFE ((800 - v) * r.2.toNat / (365 * r.1.toNat)), s)

/-- The plan put in force, reported and committed (R420–R422). -/
def State.plan (s : State) (r : PlanReport) : State :=
  let v := if s.power.planCore then s.power.vcore else s.planCore r.slack.toInt
  let y := r.years10.toNat
  let h := keepPlan s.planHistory r.day.toNat v
  let left := s.yearsLeft h r.day.toNat v
  let s1 := (((left.2.setReg Reg.VCORE_PLAN_MV v).setReg Reg.CORE_HEADROOM_MV (800 - v)).setReg Reg.CORE_YEARS_LEFT left.1).setReg
    Reg.HOLD_RET_MV (max 600 (min 700 (r.vmin.toNat + 50)))
  let s2 := (((s1.setReg Reg.STABLE_PULSE_NS (planPulse y)).setReg Reg.STABLE_REFRESH_D (planRefresh y)).setReg
    Reg.STABLE_RET_Y10 y).setReg Reg.EYE_MV (leNat (r.eyes.take 8))
  let s3 := s2.setReg Reg.PLAN_HISTORY (leNat (h.flatMap fun e => leBytes 4 e.1 ++ leBytes 2 e.2))
  let warn : Bool := decide (left.1 < 1) || decide (800 - v < 10) || decide (y < 20)
  let s4 := if s.reg Reg.FARRIER_STATE = 2 ∧ v = 800 then s3 else s3.setFarrier (boolNat warn) { cls := .farrier }
  let low := (List.range 8).filter fun l => s.linkUp l && decide ((r.eyes.getD l 0).toNat < s.reg Reg.EYE_MIN_MV)
  let s5 := s4.modPower fun p =>
    { p with vcore := v, planAt := some s.now, planTemp := r.temp.toInt, planHot := none, planDue := none, planDeferred := false,
             planCore := false,
             planLinks := low }
  (s5.persistCommit r.store).2.bump Reg.REPLANS

/-- The next link of a re-plan takes its fast retraining, at least 10 ms after the one before it (R420). -/
def State.planLink (s : State) : State :=
  match s.power.planLinks with
  | [] => s
  | l :: rest =>
    if s.now < s.power.planLinkAt + 10000000 then s
    else
      let s1 := s.modPower fun p => { p with planLinks := rest, planLinkAt := s.now }
      if s.linkUp l then s1.beginTraining l true false else s1

/-- REPLAN: a due re-plan, deferred and counted where R419 says so. The core voltage is set at once; the rest waits for a
consolidation to end (R420). Its links follow one at a time. -/
def execReplan (r : PlanReport) (s : State) : Host.Outcome State Fault Refusal :=
  if s.power.planLinks ≠ [] then .next s.planLink
  else if s.power.planDue.isNone ∨ s.reg Reg.BRINGUP_STAGE ≠ 6 then .next s
  else if s.planHeld then
    .next (if s.power.planDeferred then s
      else (s.modPower fun p => { p with planDeferred := true }).bump Reg.REPLAN_DEFER)
  else if s.learning.consolRunning then
    .next (if s.power.planCore then s
      else s.modPower fun p => { p with vcore := s.planCore r.slack.toInt, planCore := true })
  else .next (s.plan r).planLink

/-- Whether a refresh may write: the Stable VALID, no Brace, and no consolidation, which pauses a pass (R421). -/
def State.mayRefresh (s : State) : Bool := s.reg Reg.STABLE_STATE == 1 && s.mayWriteStable && !s.learning.consolRunning

/-- Page `p` rewritten with its present content: one write pass, and `v` is the verify of its blocks (R197, R290, R421). -/
def State.refreshOne (s : State) (p : Nat) (v : StoreVerify) : State := (s.wearPages [p]).verifyBlock p v

/-- STABLE_REFRESH: the next page of a refresh pass, which rewrites every block of the row area and of the Stable's own area
with its present content; the pass ends after the last of their 16,384 pages (R421). A page a command is the model's grain:
the spec gives the blocks no timing (DESIGN CHOICE). -/
def execStableRefresh (v : StoreVerify) (s : State) : Host.Outcome State Fault Refusal :=
  if !s.mayRefresh then .next s
  else match s.power.refreshPage with
    | none =>
      if s.now < s.power.refreshedAt + s.reg Reg.STABLE_REFRESH_D * 86400000000000 then .next s
      else .next ((s.modPower fun p => { p with refreshPage := some 1 }).refreshOne 0 v)
    | some k =>
      let s1 := s.refreshOne k v
      .next (if k + 1 < 16384 then s1.modPower fun p => { p with refreshPage := some (k + 1) }
        else (s1.modPower fun p => { p with refreshPage := none, refreshedAt := s.now }).bump Reg.STABLE_REFRESHES)

end Sys2Proof.Machine
end

