-- ==== Sys2Proof/Machine/Firmware.lean ====
section
/-!
DEFINITION. Firmware update: the image (R446), its delivery and verification (R447, R448), refusal (R449), activation with the
handover between Saddles (R450), the microcode swap (R451), probation, commit and rollback (R452, R453), and recovery (R455).
-/
namespace Sys2Proof.Machine
open Sys2Proof

/-! ### The image (R446) -/

/-- `n` bytes of an image from byte `lo`, as a number. -/
def imgField (l : List Byte) (lo n : Nat) : Nat := leNat ((l.drop lo).take n)

/-- The component table: TYPE, OFFSET, LEN and digest of each entry (R446). -/
def imgComps (l : List Byte) : List (Nat × Nat × Nat × List Byte) :=
  (List.range (imgField l 6 1)).map fun i =>
    let b := 64 + 64 * i
    (imgField l b 1, imgField l (b + 8) 4, imgField l (b + 12) 4, (l.drop (b + 16)).take 48)

/-- What the header and the component table must hold: the lengths, the reserved bytes, each TYPE at most once with SADDLE
present, and components between the table and the signature (R446). -/
def imgShape (l : List Byte) : Bool :=
  let n := imgField l 6 1
  let comps := imgComps l
  let types := comps.map (·.1)
  decide (1 ≤ n) && decide (n ≤ 5) && imgField l 7 1 == 0 && decide (imgField l 12 4 ≤ 32) && imgField l 16 8 == l.length &&
    l.length % 4096 == 0 && decide (l.length ≤ 0x1800000) && imgField l 40 24 == 0 && types.contains 2 &&
    (comps.all fun c => decide (1 ≤ c.1) && decide (c.1 ≤ 5) && types.count c.1 == 1 && decide (64 + 64 * n ≤ c.2.1) &&
      decide (c.2.1 + c.2.2.1 + 96 ≤ l.length)) &&
    (List.range n).all fun i => imgField l (64 + 64 * i + 1) 7 == 0

/-- VERIFY_IMAGE: the header, the component digests and the signature under the firmware key (R427, R446, R447). -/
def verifyImage (l : List Byte) : Status :=
  let n := l.length
  if imgField l 0 4 ≠ 0x55464C46 then .badFormat
  else if imgField l 4 2 ≠ 1 then .version
  else if !imgShape l then .badFormat
  else if (imgComps l).any fun c => sha384Bytes ((l.drop c.2.1).take c.2.2.1) != c.2.2.2 then .security
  else if Config.ecdsaVerify Config.firmwareKey (sha384Bytes (l.take (n - 96))) (l.drop (n - 96)) then .ok
  else .security

/-- The MIGRATE records of a component: old and new object, 0 for one dropped (R454). -/
def migrateRecords (d : List Byte) : List (Nat × Nat) :=
  (List.range (d.length / 8)).map fun i =>
    let f (lo n : Nat) : Nat := imgField d (8 * i + lo) n
    (f 0 2 * 256 + f 2 1, if f 3 2 = 0 then 0 else f 3 2 * 256 + f 5 1)

/-- What the bank record and the bank keep of an image (R444, R446). -/
def bankImage (l : List Byte) : BankImage :=
  let comps := imgComps l
  let digest (ty : Nat) : Option Nat := (comps.find? fun c => c.1 = ty).map fun c => leNat c.2.2.2
  let data (ty : Nat) : List Byte := match comps.find? fun c => c.1 = ty with
    | some c => (l.drop c.2.1).take c.2.2.1
    | none => []
  { svn := imgField l 12 4, uc := (comps.filter fun c => c.1 = 3 ∨ c.1 = 4).foldl (fun a c => Assoc.set c.1 c.2.2.2 a) [],
    pdv := (imgField l 32 2, imgField l 34 2), ranges := (List.range 4).map fun i => imgField l (24 + 2 * i) 2,
    sfv := imgField l 38 2, tsv := imgField l 36 2, saddle := (digest 2).getD 0, bridle := digest 1,
    migrate := migrateRecords (data 5) }

/-! ### Refusal (R449) -/

/-- A refusal counted (R449). -/
def State.updRefused (s : State) (st : Status) : Option (Status × List Byte) × State :=
  (some (st, []), (s.bump Reg.UPD_REFUSED).setReg Reg.UPD_LAST_STATUS st.code)

/-- The conditions of R449 that hold at UPD_BEGIN and at activation alike, in part before and in part after the others. -/
def State.updLocked (s : State) : Bool :=
  natBit (s.reg Reg.OWNER_LOCK) 0 || s.reg Reg.LC_STATE == 0 || s.reg Reg.LC_STATE == 4

/-- Not in RUN, a dip, or other work that an update does not meet (R449). -/
def State.updHeld (s : State) : Bool :=
  let loads : Bool := match (s.engine 0).running with
    | some r => cmdOpcode r.cmd == some .harnessLoad || cmdOpcode r.cmd == some .harnessUnload
    | none => false
  s.reg Reg.PWR_STATE != 0 || s.power.brace.isSome || s.reg Reg.SUPPLY_STATE == 2 || loads || s.harness.unloading ||
    s.security.restartAt.isSome || s.power.planLinks != [] || s.power.planCore

/-- The first check that fails at UPD_BEGIN; recovery judges the lock and a reception that runs (R449, R455). -/
def State.beginBar (s : State) : Option Status :=
  if s.updLocked then some .security
  else if !s.update.recovery ∧ s.reg Reg.DDR_STATE ≠ 2 then some .refused
  else if s.updating then some .refused
  else if !s.update.recovery ∧ s.updHeld then some .refused
  else none

/-- The first check that fails at an activation: of the STAGED bank, or of the PREVIOUS one for a rollback (R449). -/
def State.activateBar (s : State) (back : Bool) : Option Status :=
  let t := !s.bankB
  let x := s.update.image t
  let range := x.ranges.getD 0 0x0101
  let hfv := s.harness.hfv
  if s.updLocked then some .security
  else if x.svn < s.reg Reg.SVN_MIN then some .security
  else if s.updating then some .refused
  else if s.reg (bankState t) ≠ (if back then 4 else 1) then some .refused
  else if s.updHeld then some .refused
  else if s.reg Reg.HOLDUP_OK = 0 ∨ !s.bit Reg.FEEDS 0 ∨ !s.bit Reg.FEEDS 1 then some .refused
  else if s.update.changesUc x ∧ s.reg Reg.GAIT = 1 then some .refused
  else if s.harnessLoaded ∧ (hfv < range % 256 ∨ range / 256 < hfv) then some .version
  else if s.reg Reg.STABLE_STATE ≠ 0 ∧ x.sfv < 1 then some .version
  else none

/-! ### Delivery (R447, R448) -/

/-- The UP link that leads to a neighbour. -/
def State.linkTo (s : State) (dev : Nat) : Option Nat :=
  (List.range 8).find? fun l => s.linkUp l && s.reg (Reg.PEER_DEV l) == dev

/-- A request handled, and answered over the path by which it came; from a predecessor it is the CTRL-REP (R448). -/
def State.updOp (s : State) (x : UpdSource) (op : Nat) (text : String)
    (f : List Byte → State → Option (Status × List Byte) × State) : State :=
  match x with
  | .htp y => s.htp y op (f y.payload)
  | .chain dev p =>
    if s.power.off ∨ s.reg Reg.PWR_STATE ≠ 0 ∨ s.update.recovery ∨ s.update.handover.isSome ∨ (s.linkTo dev.val).isNone then s
    else
      let r := f p s
      match r.1 with
      | some a => (r.2.emit (.ctrl dev.val text a.1.code)).respond a.1 a.2
      | none => r.2

/-- The predecessor of a request that comes along a chain. -/
def updFrom : UpdSource → Option Nat
  | .htp _ => none
  | .chain d _ => some d.val

/-- A reception begun (R447): the chain list goes on without its first member (R448). -/
def State.beginUpdate (s : State) (pred : Option Nat) (members : List Status) (p : List Byte) : Option (Status × List Byte) × State :=
  let len := imgField p 0 8
  let n := imgField p 8 1
  let chain := (List.range n).map fun i => imgField p (16 + i) 1
  match s.beginBar with
  | some st => s.updRefused st
  | none =>
    if p.length < 16 + n ∨ len = 0 ∨ len % 4096 ≠ 0 ∨ 0x1800000 < len ∨ 63 < n ∨ imgField p 9 7 ≠ 0 then (some (.badFormat, []), s)
    else if 0 < n ∧ (s.update.recovery ∨ (s.linkTo (chain.getD 0 0)).isNone) then s.updRefused .refused
    else
      let s1 := s.modUpdate fun u =>
        { u with blocks := [], chain := chain, chainStatus := members.take n, chainFrom := pred, retries := 0 }
      let s2 := ((s1.setReg Reg.UPD_STATE 1).setReg Reg.UPD_BLOCKS 0).setReg Reg.UPD_LEN len
      let on := leBytes 8 len ++ leBytes 1 (n - 1) ++ List.replicate 7 0 ++ (chain.drop 1).flatMap (leBytes 1)
      (some (.ok, []), if n = 0 then s2 else s2.emit (.ctrl (chain.getD 0 0) "UPD_BEGIN" (leNat on)))

/-- UPD_BEGIN: the conditions of R449, then a reception of LEN bytes, with an optional chain (R447, R448). `members` is what the
chain's members answer. -/
def execUpdBegin (x : UpdSource) (members : List Status) (s : State) : Host.Outcome State Fault Refusal :=
  .next (s.updOp x 0x20 "UPD_BEGIN reply" fun p s => s.beginUpdate (updFrom x) members p)

/-- Whether a reception runs. -/
def State.receiving (s : State) : Bool := s.reg Reg.UPD_STATE % 128 == 1

/-- A block forwarded to the next member of the chain as 64 BULK flits and a 65th with its index and CRC (R448). -/
def State.forwardBlock (s : State) (i : Nat) (data : List Byte) : State :=
  match s.update.chain with
  | [] => s
  | d :: _ => match s.linkTo d with
    | none => s
    | some l =>
      let lines := (List.range 64).map fun k => bulkBody (4096 * i + 64 * k) 7 ((data.drop (64 * k)).take 64)
      let last := bulkBody (4096 * i) 7 (leBytes 4 i ++ leBytes 4 (crc32c data).toNat)
      s.modLink l fun x => { x with bulk := x.bulk ++ lines ++ [last] }

/-- A block whose CRC holds is held, in place of an earlier copy, and forwarded (R447, R448). -/
def State.holdBlock (s : State) (i : Nat) (data : List Byte) : State :=
  let s1 := s.modUpdate fun u => { u with blocks := Assoc.set i data u.blocks, retries := 0 }
  (s1.setReg Reg.UPD_BLOCKS s1.update.blocks.length).forwardBlock i data

/-- A block that the next member of the chain asks for again, by its index over CTRL: forwarded once more where it is held
(R448). -/
def State.blockAgain (s : State) (dev : Nat) (p : List Byte) : State :=
  match Assoc.get? (imgField p 0 4) s.update.blocks with
  | some d => if s.update.chain.head? = some dev then s.forwardBlock (imgField p 0 4) d else s
  | none => s

/-- A block that the host sends (R447). -/
def State.hostBlock (s : State) (x : HtpFrame) : State :=
  s.htp x 0x21 fun s =>
    let i := htpField x 0 4
    let crc := htpField x 4 4
    let data := x.payload.drop 8
    if !s.receiving then (some (.refused, []), s)
    else if data.length ≠ 4096 ∨ s.reg Reg.UPD_LEN ≤ 4096 * i then (some (.badFormat, []), s)
    else if (crc32c data).toNat ≠ crc then (some (.badFormat, []), s.bump Reg.BLK_CRC_FAIL)
    else (some (.ok, []), s.holdBlock i data)

/-- UPD_BLOCK: a block of the image held if its CRC holds (R447), or asked for again by the chain's next member (R448). -/
def execUpdBlock (x : UpdSource) (s : State) : Host.Outcome State Fault Refusal :=
  match x with
  | .htp y => .next (s.hostBlock y)
  | .chain dev p =>
    .next (if s.power.off ∨ s.reg Reg.PWR_STATE ≠ 0 ∨ s.update.handover.isSome then s else s.blockAgain dev.val p)

/-- CHAIN_BLOCK_RECEIVE: the 65 BULK flits of a forwarded block; a wrong CRC is asked for again, up to 8 times, and then reported
(R448). -/
def execChainBlockReceive (l : LinkId) (s : State) : Host.Outcome State Fault Refusal :=
  let mine := (s.tether.lines.filter fun x => x.1 = l.val ∧ x.2.1 / 2 ^ 56 = 7).take 65
  if mine.length < 65 ∨ !s.receiving then .next s
  else
    let s1 := s.modTether fun t => { t with lines := mine.foldl (fun a x => dropFirst x a) t.lines }
    let tail := (mine.getD 64 (0, 0, [])).2.2
    let i := leNat (tail.take 4)
    let crc := leNat ((tail.drop 4).take 4)
    let data := (mine.take 64).flatMap fun x => x.2.2
    let pred := s.update.chainFrom.getD (s.reg (Reg.PEER_DEV l.val))
    if (crc32c data).toNat = crc ∧ 4096 * i < s.reg Reg.UPD_LEN then .next (s1.holdBlock i data)
    else
      let s2 := s1.bump Reg.BLK_CRC_FAIL
      if s.update.retries < 8 then
        .next ((s2.modUpdate fun u => { u with retries := u.retries + 1 }).emit (.ctrl pred "UPD_BLOCK again" i))
      else .next ((s2.setReg Reg.UPD_LAST_STATUS Status.badFormat.code).emit (.ctrl pred "UPD_BLOCK reply" Status.badFormat.code))

/-- UPD_STATE where nothing of an update runs: PROBATION while a bank is on probation (R456). -/
def State.updIdle (s : State) : Nat := if s.update.probationFrom.isSome then 5 else 0

/-- The image verified, written to the inactive bank and read back (R447); in recovery bank A takes it (R455). -/
def State.verifyUpdate (s : State) (back : StoreVerify) (members : List Status) : Option (Status × List Byte) × State :=
  let n := s.reg Reg.UPD_LEN / 4096
  if !s.receiving ∨ s.update.blocks.length < n then (some (.refused, []), s)
  else
    let img := (List.range n).flatMap fun i => Assoc.getD s.update.blocks i []
    let bank := !s.update.recovery && !s.bankB
    let st := verifyImage img
    let s1 := match s.update.chain with
      | [] => s
      | d :: _ => (s.emit (.ctrl d "UPD_VERIFY" 0)).modUpdate fun u => { u with chainStatus := members.take u.chain.length }
    let failed (s : State) (st : Status) : Option (Status × List Byte) × State :=
      (some (st, []), ((s.setReg (bankState bank) 5).setReg Reg.UPD_STATE s.updIdle).setReg Reg.UPD_LAST_STATUS st.code)
    if st = .security then failed (s1.bump Reg.SIG_FAIL) st
    else if st ≠ .ok then failed s1 st
    else if back = .failed then failed s1 .eccUncorr
    else
      let x := bankImage img
      let s2 := ((s1.setReg (bankState bank) 1).setReg (bankVer bank) (imgField img 8 4)).modUpdate fun u =>
        if bank then { u with imgB := x } else { u with imgA := x }
      (some (.ok, []), (s2.setReg Reg.UPD_STATE 3).setReg Reg.UPD_LAST_STATUS 0)

/-- UPD_VERIFY: the bank becomes STAGED or FAILED (R447). `back` is the read-back, `members` what the chain's members reply. -/
def execUpdVerify (x : UpdSource) (back : StoreVerify) (members : List Status) (s : State) : Host.Outcome State Fault Refusal :=
  .next (s.updOp x 0x22 "UPD_VERIFY reply" fun _ s => s.verifyUpdate back members)

/-! ### Activation (R450) -/

/-- The SDO transfer in progress given up; a staged write is counted (R355). -/
def State.dropTransfer (s : State) : State :=
  let lost := match s.host.sdo with
    | some x => boolNat x.write
    | none => 0
  ({ s with host := { s.host with sdo := none } } : State).bumpBy Reg.DICT_STAGE_LOST lost

/-- An SDO abort sent with a code (R368). -/
def State.sdoAbort (s : State) (index sub code : Nat) : State :=
  (s.dropTransfer.canSend (0x580 + s.reg Reg.NODE_ID) ([0x80] ++ leBytes 2 index ++ leBytes 1 sub ++ leBytes 4 code)).bump
    Reg.SDO_ABORTS

/-- The segmented SDO transfer in progress aborted at a handover (R450). -/
def State.dropSdo (s : State) : State :=
  match s.host.sdo with
  | some x => s.sdoAbort x.index x.sub 0x08000000
  | none => s

/-- The reply that the request of an activation or rollback still awaits (R447, R450). -/
def State.answerAsked (s : State) (st : Status) : State :=
  match s.update.asked with
  | none => s
  | some (p, op, tag) =>
    (((s.modUpdate fun u => { u with asked := none }).setReg Reg.UPD_LAST_STATUS st.code).answer p op tag st []).respond st []

/-- Step 7: the bank record written and OK replied: PROBATION and PREVIOUS, or, for a rollback, the PREVIOUS bank again (R450,
R453). -/
def State.closeHandover (s : State) : State :=
  match s.update.asked with
  | none => s
  | some (_, op, _) =>
    if op = 0x25 then s.rollback.answerAsked .ok
    else
      let t := !s.bankB
      let s1 := ((s.setReg (bankState t) 2).setReg (bankState (!t)) 4).setReg Reg.BANK_ACTIVE (boolNat t)
      let s2 := (s1.modUpdate fun u => { u with probationFrom := some s.now, restarts := 0 }).bump Reg.ACTIVATIONS
      (s2.setReg Reg.UPD_STATE 5).answerAsked .ok

/-- Steps 5 to 7: the new Saddle takes up the record; microcode that changes is swapped first (R450, R451). -/
def State.takeOver (s : State) (back : Bool) (v : StoreVerify) : State :=
  let t := !s.bankB
  let x := s.update.image t
  let s1 := (s.modUpdate fun u => { u with handover := none }).dropSdo.runSaddle t
  let s2 := if back then s1 else s1.adoptDictionary x v
  if s.update.changesUc x then s2.modUpdate fun u => { u with swapFrom := some s.now } else s2.closeHandover

/-- A handover that fails: the old Saddle runs on with the same record and the new bank is FAILED; in the reverse direction the
device rolls back (R450, R453). -/
def State.handoverFails (s : State) (back : Bool) (st : Status) : State :=
  let s1 := (s.modUpdate fun u => { u with handover := none }).dropSdo
  if back then ((s1.setReg Reg.UPD_STATE s.updIdle).rollback).answerAsked st
  else
    let s2 := ((s1.setReg (bankState (!s.bankB)) 5).setReg Reg.UPD_STATE s.updIdle).bump Reg.ROLLBACKS
    ((s2.logFault { cls := .update, sev := some .error, status := st, unit := boolNat (!s.bankB) }).emcy 0x5000 st 0 0).answerAsked st

/-- An activation or rollback asked for over HTP: refused, rejected where the bank no longer verifies, or handed over (R449,
R450). -/
def State.handOver (s : State) (x : HtpFrame) (back holds : Bool) (t : Takeover) : Option (Status × List Byte) × State :=
  match s.activateBar back with
  | some st => s.updRefused st
  | none =>
    if !holds then
      (some (.security, []), (((s.setReg (bankState (!s.bankB)) 5).bump Reg.SIG_FAIL).setReg Reg.UPD_STATE s.updIdle).setReg
        Reg.UPD_LAST_STATUS Status.security.code)
    else
      let s1 := (s.setReg Reg.UPD_STATE 4).modUpdate fun u =>
        { u with asked := some (x.peer, if back then 0x25 else 0x23, x.tag.toNat) }
      (none, match t with
        | .confirms v => s1.takeOver back v
        | .unsupported => s1.handoverFails back .version
        | .silent => s1.modUpdate fun u => { u with handover := some (s.now, back) })

/-- UPD_ACTIVATE: the handover to the STAGED bank's Saddle (R450). `holds` is the re-verify of step 1, `t` what the new
Saddle does with the record. -/
def execUpdActivate (x : HtpFrame) (holds : Bool) (t : Takeover) (s : State) : Host.Outcome State Fault Refusal :=
  .next (s.htp x 0x23 fun s => s.handOver x false holds t)

/-- UPD_ROLLBACK: the handover to the PREVIOUS bank's Saddle (R453). -/
def execUpdRollback (x : HtpFrame) (holds : Bool) (t : Takeover) (s : State) : Host.Outcome State Fault Refusal :=
  .next (s.htp x 0x25 fun s => s.handOver x true holds t)

/-- UPD_ABORT: the reception discarded (R447). -/
def execUpdAbort (x : HtpFrame) (s : State) : Host.Outcome State Fault Refusal :=
  .next (s.htp x 0x26 fun s =>
    if !s.receiving then (some (.ok, []), s)
    else (some (.ok, []), ((s.modUpdate fun u => { u with blocks := [], chain := [], chainStatus := [], chainFrom := none }).setReg
      Reg.UPD_STATE s.updIdle).setReg Reg.UPD_BLOCKS 0))

/-- UPD_STATUS: the state, the blocks received, LEN, the bank states and versions, and the chain's statuses (R447). -/
def execUpdStatus (x : HtpFrame) (s : State) : Host.Outcome State Fault Refusal :=
  .next (s.htp x 0x27 fun s =>
    (some (.ok, leBytes 1 (s.reg Reg.UPD_STATE) ++ leBytes 4 (s.reg Reg.UPD_BLOCKS) ++ leBytes 4 (s.reg Reg.UPD_LEN) ++
      leBytes 1 (s.reg Reg.BANK_A_STATE) ++ leBytes 1 (s.reg Reg.BANK_B_STATE) ++ leBytes 4 (s.reg Reg.BANK_A_VER) ++
      leBytes 4 (s.reg Reg.BANK_B_VER) ++ s.update.chainStatus.flatMap fun t => leBytes 1 t.code), s))

/-! ### Microcode, probation and recovery (R451–R455) -/

/-- MICROCODE_SWAP: with no step in flight the microcode of the image is loaded, while the next release is held (R451). `us`
is the held time. -/
def execMicrocodeSwap (us : Fin 201) (s : State) : Host.Outcome State Fault Refusal :=
  if s.update.swapFrom.isNone ∨ !s.noStep then .next s
  else
    let x := s.update.image (if s.update.asked.isSome then !s.bankB else s.bankB)
    let s1 := s.modUpdate fun u =>
      { u with ucRun := x.uc.foldl (fun a c => Assoc.set c.1 c.2 a) u.ucRun, swapFrom := none }
    .next ((s1.bump Reg.UC_SWAPS).peak Reg.SWAP_MAX_US us.val).closeHandover

/-- The bank on probation committed; SVN_MIN raised to its SVN (R452). -/
def State.commitBank (s : State) : State :=
  let b := s.bankB
  let s1 := (s.setReg (bankState b) 3).setReg Reg.SVN_MIN (max (s.reg Reg.SVN_MIN) (s.update.image b).svn)
  let s2 := s1.modUpdate fun u => { u with probationFrom := none, restarts := 0 }
  if s.reg Reg.UPD_STATE = 5 then s2.setReg Reg.UPD_STATE 0 else s2

/-- Whether the running bank is on probation. -/
def State.onProbation (s : State) : Bool := s.reg (bankState s.bankB) == 2

/-- UPD_COMMIT: the PROBATION bank becomes ACTIVE (R452). -/
def execUpdCommit (x : HtpFrame) (s : State) : Host.Outcome State Fault Refusal :=
  .next (s.htp x 0x24 fun s => if s.onProbation then (some (.ok, []), s.commitBank) else (some (.refused, []), s))

/-- PROBATION_EXPIRY: PROBATION_S passed without a rollback (R452). -/
def execProbationExpiry (s : State) : Host.Outcome State Fault Refusal :=
  match s.update.probationFrom with
  | none => .next s
  | some t => .next (if t + s.reg Reg.PROBATION_S * 1000000000 ≤ s.now ∧ s.onProbation then s.commitBank else s)

/-- DEFERRED_MICROCODE_SWAP: the microcode that a rollback under Trot deferred, once the gait is Walk or Canter (R453). -/
def execDeferredMicrocodeSwap (s : State) : Host.Outcome State Fault Refusal :=
  if s.reg Reg.UPD_STATE ≠ 0x85 ∨ s.reg Reg.GAIT = 1 then .next s
  else .next ((s.setReg Reg.UPD_STATE 0).modUpdate fun u => { u with swapFrom := some s.now })

/-- RECOVERY_BOOT: a verified bank is booted by a cold start after the VERIFY reply (R455). -/
def execRecoveryBoot (s : State) : Host.Outcome State Fault Refusal :=
  if !s.update.recovery ∨ s.reg Reg.UPD_STATE ≠ 3 ∨ s.reg Reg.BANK_A_STATE ≠ 1 then .next s
  else
    let other := if s.reg Reg.BANK_B_STATE = 3 then s.setReg Reg.BANK_B_STATE 5 else s
    .next (((other.setReg Reg.BANK_A_STATE 3).setReg Reg.BANK_ACTIVE 0).coldStart 0)

/-- ECALL_VERIFY_IMAGE: the image at `img` verified for the Saddle (R427, R447). -/
def execEcallVerifyImage (img len : Nat) (s : State) : Host.Outcome State Fault Refusal :=
  if !s.saddleMay false img (max len 64) then .next (s.respond .security)
  else .next (s.respond (verifyImage (s.bytes img len)))

end Sys2Proof.Machine
end

