-- ==== Sys2Proof/Machine/Faults.lean ====
section
/-!
DEFINITION. Tile hangs and fences (R463–R465), count settles (R466), lost devices (R467), the watchdogs (R469), and the fault log's
own commands (R470, R472).
-/
namespace Sys2Proof.Machine
open Sys2Proof

/-! ### Tile hang and fence (R464, R465) -/

/-- A measured interruption larger than 1 µs (R462). -/
def State.noteInterruption (s : State) (ns : Nat) : State := if 1000 < ns then s.peak Reg.INTR_MAX_NS ns else s

/-- Every neuron of a tile DEAD (R51, R465). -/
def State.killNeurons (s : State) (c t : Nat) : State :=
  (List.range (s.tile c t).map.n).foldl (fun (s : State) i => s.setNeuron c t i { s.neuron c t i with dead := true }) s

/-- A tile fenced in a run: its counters freeze, its unsent events are lost, its neurons are DEAD (R465). -/
def State.fenceTile (s : State) (c t : Nat) : State :=
  let x := s.tile c t
  let step := match x.phase with
    | .idle => x.updated
    | .deliver n => n
    | .update n _ => n
    | .closed n => n
  let s1 := (s.killNeurons c t).setTile c t
    { x with fenced := true, egress := [], firing := [], holdback := [], farWait := [], phase := .idle }
  (((s1.setBit (Reg.TILES_FENCED c) t true).bump Reg.TILES_FENCED_RUN).stepStatus step .degraded).logFault
    { cls := .tileFence, sev := some .degraded, status := .degraded, unit := c, sub := t }

/-- Fenced tiles reported, and a dump written (R465, R470). -/
def State.reportFence (s : State) (c : Nat) : State := (s.emcy 0xFF04 .degraded 2 c).dump 2

/-- Whether a tile is in the delivery, update or emission phase of a step (R464). -/
def Tile.inPhase (x : Tile) : Bool :=
  match x.phase with
  | .deliver _ => true
  | .update _ _ => true
  | _ => x.firing != []

/-- TILE_HANG: a tile in a phase of a released step whose progress counter has not advanced for TILE_HANG_US is fenced; a router
that hangs takes its whole cluster (R464, R465). `waits` says that the tile waits on a condition named in R464, which advances its
counter. -/
def execTileHang (c : ClusterId) (t : TileId) (waits router : Bool) (s : State) : Host.Outcome State Fault Refusal :=
  let x := s.tile c.val t.val
  if router then
    .next (((List.range 64).foldl (fun (s : State) k => if s.isFenced c.val k then s else s.fenceTile c.val k) s).reportFence c.val)
  else if x.fenced ∨ !x.inPhase then .next s
  else if waits then .next (s.tileProgress c.val t.val)
  else if s.now < x.progressAt + s.reg Reg.TILE_HANG_US * 1000 then .next s
  else .next (((s.fenceTile c.val t.val).reportFence c.val).noteInterruption (s.now - x.progressAt))

/-! ### Count settle (R466) -/

/-- The devices of the system that have not been lost. -/
def State.survivors (s : State) : List Nat :=
  (List.range (s.sizes.foldl (· * ·) 1)).filter fun d => !s.tether.lost.contains d

/-- No event is in any egress queue, router or gateway buffer, combine buffer, replay buffer, holdback list or spill write buffer
(R466). -/
def State.quiet (s : State) : Bool :=
  (s.tiles.all fun t => t.2.egress == [] && t.2.holdback == []) &&
    (s.routers.all fun r => (r.2.inputs.all fun i => i.2 == []) && (r.2.outputs.all fun o => o.2.entries == []) &&
      r.2.requests == [] && r.2.ejects.all fun e => e.2 == []) &&
    (s.gateways.all fun o => o.2.entries == []) && (s.gateIn.all fun q => q.2 == []) && (s.gateRx.all fun q => q.2 == []) &&
    (s.remoteHold.all fun q => q.2 == []) && (s.stores.all fun x => x.2.spillBuffer == [] && x.2.spillOut == []) &&
    s.tether.links.all fun l => l.2.rxEvents == [] && l.2.replay.all fun f => f.ftype != 0

/-- How far a step's or a window's counts are apart, where every tile or injector is done with it and nothing has changed for
COMPLETE_TMO_US (R466). -/
def State.deficit (s : State) : Option Nat :=
  match s.fabric.lastRound with
  | none => none
  | some r =>
    let n := s.reg Reg.STEP_COMPLETE + 1
    let w := s.fabric.drained + 1
    if s.now < s.fabric.changedAt + s.reg Reg.COMPLETE_TMO_US * 1000 then none
    else if n ≤ s.reg Reg.STEP_RELEASED ∧ n ≤ r.done ∧ r.fsent.get n ≠ r.frcvd.get n then some (r.fsent.get n - r.frcvd.get n).toNat
    else if w ≤ s.fabric.window ∧ w ≤ r.sdone ∧ r.ssent.get w ≠ r.srcvd.get w then some (r.ssent.get w - r.srcvd.get w).toNat
    else none

/-- A settle begun by the master: releases held and SETTLE_HOLD sent to every surviving device (R466). -/
def State.startSettle (s : State) (deficit : Nat) : State :=
  if s.tether.settle.isSome then s
  else
    let own := s.reg Reg.DEV_NUM
    let s1 := (s.modTether fun t => { t with settle := some ⟨false, s.survivors, s.now, deficit, none⟩ }).modFabric fun f =>
      { f with settling := true }
    (s.survivors.filter (· ≠ own)).foldl (fun (s : State) d => s.emit (.ctrl d "SETTLE_HOLD" 0)) s1

/-- COUNT_SETTLE_START: a step or window stuck unbalanced for COMPLETE_TMO_US, or a step mismatch, starts a settle at the
master; on another device the command is the arrival of SETTLE_HOLD (R466). -/
def execCountSettleStart (s : State) : Host.Outcome State Fault Refusal :=
  if s.reg Reg.HARNESS_STATE < 2 ∨ s.reg Reg.FABRIC_STATE ≠ 0 then .next s
  else if !s.isMaster then .next (s.modFabric fun f => { f with settling := true })
  else match s.deficit with
    | some d => .next (s.startSettle d)
    | none => .next (if s.fabric.mismatch then s.startSettle 0 else s)

/-- A device no longer awaited. -/
def State.settleHeard (s : State) (d : Nat) : State :=
  s.modTether fun t => { t with settle := t.settle.map fun x => { x with awaited := x.awaited.filter (· ≠ d) } }

/-- SETTLE_HOLD_REPLY: this device replies once it is quiet; at the master another device's reply arrives, which is counted
where it is not quiet (R466). -/
def execSettleHoldReply (dev : Fin 64) (quiet : Bool) (s : State) : Host.Outcome State Fault Refusal :=
  if !s.fabric.settling ∨ (s.tether.settle.any fun x => x.zeroing) then .next s
  else if dev.val = s.reg Reg.DEV_NUM then
    .next (if !s.quiet then s else if s.isMaster then s.settleHeard dev.val else s.emit (.ctrl 0 "SETTLE_HOLD reply" 1))
  else if !s.isMaster then .next s
  else .next (if quiet then s.settleHeard dev.val else s.bump Reg.SETTLE_BUSY)

/-- Every counter of R93 zero in all four tags, and the child records cleared (R466). -/
def State.zeroCounts (s : State) : State :=
  { s with
    tiles := s.tiles.map fun t => (t.1, { t.2 with fsent := {}, frcvd := {}, srcvd := {} })
    routers := s.routers.map fun r => (r.1, { r.2 with frcvd := {}, srcvd := {} })
    gatewayFrcvd := {}, gatewaySrcvd := {}, fabric := { s.fabric with ssent := [], children := [], lastRound := none } }

/-- A step whose tiles are DONE declared complete with the sums before the settle; an unbalanced one carries DROPPED (R466). -/
def State.forceStep (s : State) (r : Reduction) (n : Nat) : State :=
  if n ≠ s.reg Reg.STEP_COMPLETE + 1 ∨ r.done < n then s
  else
    let bad : Bool := r.fsent.get n != r.frcvd.get n
    let sums := [r.fsent.get n, r.frcvd.get n, r.fsent.get (n + 1), r.frcvd.get (n + 1)].map (·.toNat)
    let st := (if bad then Status.dropped else .ok).worse (if r.check = n then r.status else .ok)
    let mark (f : StepFlight) : StepFlight := if f.n = n then { f with sums := sums, status := f.status.worse st } else f
    let s1 := if bad then s.bump Reg.FORCED_COMPLETE else s
    ((s1.setReg Reg.STEP_COMPLETE n).modFabric fun f => { f with flights := f.flights.map mark, lastSums := sums }).broadcast 2 n

/-- Step 3 of a settle: steps in flight and windows ended, and releases resumed (R466). -/
def State.endSettle (s : State) (x : SettleRun) : State :=
  let s1 := match x.before with
    | none => s
    | some r => ((s.fabric.flights.map fun (f : StepFlight) => f.n).foldl (fun (s : State) n => s.forceStep r n) s).modFabric fun f =>
        { f with drained := max f.drained (min f.window r.sdone) }
  let s2 := (s1.modTether fun t => { t with settle := none }).modFabric fun f => { f with settling := false, mismatch := false }
  ((s2.bump Reg.SETTLES).logFault { cls := .countSettle, status := .dropped, ref := x.deficit }).noteInterruption (s.now - x.since)

/-- The differing device of a mismatch takes the master's step value (R466). -/
def State.takeStep (s : State) (step : Nat) : State :=
  if s.fabric.mismatch then
    (s.setReg Reg.STEP_COMPLETE (step - 1)).modFabric fun f =>
      { f with known := step - 1, mismatch := false, flights := f.flights.filter fun x => decide (step ≤ x.n) }
  else s

/-- SETTLE: once every device is quiet the counts are zeroed and SETTLE is sent; then each device's reply arrives, and with
the last the settle ends (R466). On another device the command is the arrival of SETTLE with the master's step. -/
def execSettle (dev : Fin 64) (step : Nat) (s : State) : Host.Outcome State Fault Refusal :=
  let own := s.reg Reg.DEV_NUM
  if !s.isMaster then
    .next (if s.fabric.settling then
        (((s.takeStep step).zeroCounts).modFabric fun f => { f with settling := false }).emit (.ctrl 0 "SETTLE reply" 0)
      else s)
  else match s.tether.settle with
    | none => .next s
    | some x =>
      if !x.zeroing then
        if x.awaited ≠ [] then .next s
        else
          let others := s.survivors.filter (· ≠ own)
          let y := { x with zeroing := true, awaited := others, before := s.fabric.lastRound }
          let s1 := s.zeroCounts.modTether fun t => { t with settle := some y }
          let s2 := others.foldl (fun (s : State) d => s.emit (.ctrl d "SETTLE" 0)) s1
          .next (if others = [] then s2.endSettle y else s2)
      else
        let left := x.awaited.filter (· ≠ dev.val)
        .next (if left = [] then s.endSettle x else s.settleHeard dev.val)

/-- SETTLE_TIMEOUT: a device not quiet within SETTLE_MAX_US halts the fabric: running STEP commands end (R466). -/
def execSettleTimeout (s : State) : Host.Outcome State Fault Refusal :=
  match s.tether.settle with
  | none => .next s
  | some x =>
    if x.zeroing ∨ x.awaited = [] ∨ s.now < x.since + s.reg Reg.SETTLE_MAX_US * 1000 then .next s
    else
      let s1 := ((s.setReg Reg.FABRIC_STATE 1).endRuns).modTether fun t => { t with settle := none }
      .next (((s1.logFault { cls := .countSettle, sev := some .fatal, status := .timeout, ref := x.deficit }).setError 0 true).dump 1)

/-! ### Lost devices (R467) -/

/-- Events for a device taken from a list. -/
def State.purge (s : State) (d : Nat) (l : List Event) : State :=
  l.foldl (fun (s : State) ev => if ev.dev = d then s.lostDiscard ev else s) s

/-- The events for a lost device that stand at the gateways discarded (R467). -/
def State.purgeGateways (s : State) (d : Nat) : State :=
  let waits := (s.gateIn ++ s.gateRx).flatMap (·.2) ++ s.gateways.flatMap fun o => o.2.entries.map (·.ev)
  let keep (l : List Event) : List Event := l.filter fun ev => ev.dev ≠ d
  { s.purge d waits with
    gateIn := s.gateIn.map fun q => (q.1, keep q.2), gateRx := s.gateRx.map fun q => (q.1, keep q.2)
    gateways := s.gateways.map fun o => (o.1, { o.2 with entries := o.2.entries.filter fun e => e.ev.dev ≠ d }) }

/-- DEVICE_LOST: a device that the rebuilt tree has not reached for DEV_LOST_US is dropped; the master runs a settle; a
device that cannot reach device 0 is ISOLATED (R467). -/
def execDeviceLost (dev : Fin 64) (s : State) : Host.Outcome State Fault Refusal :=
  match Assoc.get? dev.val s.tether.unreached with
  | none => .next s
  | some t =>
    if s.now < t + s.reg Reg.DEV_LOST_US * 1000 then .next s
    else
      let d := dev.val
      let s1 := s.modTether fun t => { t with lost := t.lost ++ [d], unreached := Assoc.erase d t.unreached }
      let s2 := ((s1.purgeGateways d).loseHomes (s.hitchesHomedOn d)).modFabric fun f =>
        { f with flights := f.flights.map fun x => { x with status := x.status.worse .degraded } }
      let s3 := (s2.logFault { cls := .deviceLost, sev := some .error, status := .degraded, ref := d }).emcy 0x8100 .degraded 4 d
      if d = 0 then .next (s3.setReg Reg.FABRIC_STATE 2)
      else if s.isMaster ∧ s.reg Reg.HARNESS_STATE = 2 then .next ((s3.settleHeard d).startSettle 0)
      else .next s3

/-! ### Watchdogs (R469) -/

/-- SADDLE_WATCHDOG: not served for WDT_MS, or met by an uncorrectable error in its memory, the Saddle is restarted (R469). -/
def execSaddleWatchdog (ecc : Bool) (s : State) : Host.Outcome State Fault Refusal :=
  if s.power.off ∨ s.reg Reg.BRINGUP_STAGE % 128 < 2 then .next s
  else .next (s.saddleRestart .watchdog (if ecc then .eccUncorr else .ok))

/-- BRIDLE_CHECK: every second the Bridle compares the Saddle's code pages and the PMP with what they were; a difference
restarts the Saddle (R469). -/
def execBridleCheck (differs : Bool) (s : State) : Host.Outcome State Fault Refusal :=
  if s.power.off ∨ s.reg Reg.BRINGUP_STAGE % 128 < 2 ∨ !differs then .next s else .next (s.saddleRestart .security)

/-- BRIDLE_WATCHDOG: not served for 10 ms, or with an uncorrectable error in Bridle SRAM, the die is reset as by the reset
input (R469). -/
def execBridleWatchdog (s : State) : Host.Outcome State Fault Refusal :=
  if s.power.off then .next s else .next s.bridleReset

/-! ### Commands of the fault log (R470, R472) -/

/-- FLOG_CLEAR: a write of 1 empties the ring; SEQ runs on (R460, R472). -/
def execFlogClear (path : Path) (v : BitVec 8) (s : State) : Host.Outcome State Fault Refusal :=
  .next (s.writeObject path 0x7000 4 fun s => if v = 1 then (.ok, { s with flog := [] }) else (.badFormat, s))

/-- DUMP_NOW: a write of 1 asks for a dump (R470, R472). -/
def execDumpNow (path : Path) (v : BitVec 8) (s : State) : Host.Outcome State Fault Refusal :=
  .next (s.writeObject path 0x7020 3 fun s => if v = 1 then (.ok, s.dump 3) else (.badFormat, s))

end Sys2Proof.Machine
end

