-- ==== Sys2Proof/Machine/HostWrites.lean ====
section
/-!
DEFINITION. Dictionary accesses by every path: writes joined to the commands they give (R355–R358), HTP DICT_READ and DICT_WRITE
(R363), and accesses forwarded over Tether (R371).
-/
namespace Sys2Proof.Machine
open Sys2Proof

/-! ### Writes that are commands -/

/-- The class entries still used by a step after `done`: all that begin later and the newest that does not. -/
def keepEntries (done : Nat) : List (Nat × ClassEntry) → List (Nat × ClassEntry)
  | [] => []
  | e :: l => if e.1 ≤ done + 1 then [e] else e :: keepEntries done l

/-- COMMIT of a class: the staged entry validated, then in use from the next step that is released (R34, R35). -/
def State.commitClass (s : State) (k : Nat) : Status × State :=
  let e := s.stagedClass k
  let n := s.reg Reg.STEP_RELEASED + 1
  let old := s.classAt k n
  match e.invalid with
  | some sub => (.badFormat, s.logFault { cls := .configReject, status := .badFormat, ref := packFields [(0, 32, k), (32, 8, sub)] })
  | none =>
    if e.precise ≠ old.precise ∨ (e.bias = 0) ≠ (old.bias = 0) then (.refused, s)
    else
      let l := (Assoc.getD s.classes k []).filter fun x => x.1 ≠ n
      (.ok, { s with classes := Assoc.set k ((n, e) :: keepEntries (s.reg Reg.STEP_COMPLETE) l) s.classes })

/-- A consolidation asked for (R193). -/
def State.consolNow (s : State) (v : Nat) : Status × State :=
  if v = 1 then (.ok, s.modLearning fun l => { l with consolWant := true }) else (.badFormat, s)

/-- RESTORE_DEFAULTS: every RWP object at its default, and the defaults committed (R358). -/
def State.restoreDefaults (s : State) (v : Nat) (store : StoreVerify) : Status × State :=
  if v ≠ 0x64616F6C then (.badFormat, s)
  else
    let s1 := s.defaultRwp
    ((List.range 6).foldl State.reinDrive s1).persistCommit store

/-- The EMCY history cleared by a write of 0 to its sub-index 0 (R360). -/
def State.clearHistory (s : State) (v : Nat) : Status × State :=
  if v ≠ 0 then (.badFormat, s) else (.ok, (List.range 8).foldl (fun s k => s.setReg (Reg.EMCY_HISTORY k) 0) s)

/-- QCTRL: a CTRL operation on the queue of QSEL, by the dictionary server as the Saddle (R258). DEDUCED: for every path. -/
def State.qctrl (s : State) (v : Nat) : Status × State :=
  if isBridleQueue (s.reg Reg.QSEL) then (.security, s)
  else match QCtrl.ofCode v with
    | none => (.badFormat, s)
    | some c => let t := s.ctrl .saddle (s.reg Reg.QSEL) c; (t.resp.status, t)

/-- ENG_CTRL: 1 DRAIN, 2 ABORT, 3 ENABLE (R226). -/
def State.engCtrl (s : State) (e v : Nat) : Status × State :=
  match v with
  | 1 => s.engDrain e | 2 => s.engAbort e | 3 => s.engEnable e | _ => (.badFormat, s)

/-- ROUTE_ARM and SCHED_ARM: 1 arms, 0 disarms (R136, R164). -/
def armOr (v : Nat) (arm disarm : Status × State) (s : State) : Status × State :=
  match v with
  | 0 => disarm | 1 => arm | _ => (.badFormat, s)

/-- A write of a value to an object of the fabric's configuration that is a command; none for any other object. -/
def State.fabricCommand (s : State) (index sub v : Nat) (f : WriteFacts) : Option (Status × State) :=
  if 0x3100 ≤ index ∧ index ≤ 0x31FF ∧ sub = 0x20 then some (if v = 1 then s.commitClass (index - 0x3100) else (.badFormat, s))
  else if index = 0x3300 ∧ sub = 3 then some (armOr v s.routeArm s.routeDisarm s)
  else if index = 0x3300 ∧ sub = 4 then some (if v = 1 then s.routeSwitch f.others else (.badFormat, s))
  else if index = 0x3400 ∧ sub = 0xC then some (armOr v s.schedArm s.schedDisarm s)
  else if index = 0x3400 ∧ sub = 0xD then some (if v = 1 then s.schedSwitch else (.badFormat, s))
  else if index = 0x3500 ∧ sub = 8 then some (s.consolNow v)
  else if 0x3610 ≤ index ∧ index ≤ 0x3619 ∧ sub = 2 then some (s.engCtrl (index - 0x3610) v)
  else if index = 0x2420 ∧ sub = 3 then some (s.qpolicy (BitVec.ofNat 64 v))
  else if index = 0x2420 ∧ sub = 4 then some (s.qctrl v)
  else none

/-- A write of a value to an object of the device that is a command; none for any other object. -/
def State.deviceCommand (s : State) (p : Path) (index sub v : Nat) (f : WriteFacts) : Option (Status × State) :=
  if 0x2440 ≤ index ∧ index ≤ 0x244F ∧ sub ≤ 0x20 then some (s.setDescriptor (p == .sys) (index - 0x2440) (sub - 1) v)
  else if 0x2610 ≤ index ∧ index ≤ 0x2617 ∧ sub = 0xC then
    some (if 1 ≤ v ∧ v ≤ 5 then s.retrain (index - 0x2610) v else (.badFormat, s))
  else if 0x2610 ≤ index ∧ index ≤ 0x2617 ∧ sub = 0xD then
    some (if v = 1 then (.ok, s.sendSpur (index - 0x2610)) else (.badFormat, s))
  else if 0x2210 ≤ index ∧ index ≤ 0x2217 ∧ sub = 1 then some (s.writeGctrl (index - 0x2210) v)
  else if 0x2210 ≤ index ∧ index ≤ 0x2217 ∧ sub = 2 then some (s.writePer (index - 0x2210) v)
  else if 0x2210 ≤ index ∧ index ≤ 0x2217 ∧ sub = 3 then some (s.writeCmp (index - 0x2210) v)
  else if index = 0x2100 ∧ sub = 2 then some (if v ≤ 4 then s.request v else (.badFormat, s))
  else if index = 0x2100 ∧ sub = 0x19 then some (s.writeAcctMode v)
  else if index = 0x2330 ∧ sub = 2 then some (if v = 1 then (.ok, s.duePlan) else (.badFormat, s))
  else if index = 0x1011 ∧ sub = 1 then some (s.restoreDefaults v f.store)
  else if index = 0x7000 ∧ sub = 4 then some (if v = 1 then (.ok, { s with flog := [] }) else (.badFormat, s))
  else if index = 0x7020 ∧ sub = 3 then some (if v = 1 then (.ok, s.dump 3) else (.badFormat, s))
  else none

/-- What an object's new value sets off at once: the Rein follows REIN_OVERRIDE and REIN_IDLE (R319, R321). -/
def State.afterWrite (s : State) (index : Nat) : State :=
  if 0x2710 ≤ index ∧ index ≤ 0x2715 ∧ s.reg Reg.PWR_STATE = 0 then (s.reinAssert (index - 0x2710)).reinDrive (index - 0x2710) else s

/-- A write of a value to an object that the path may write: the command it gives, or the object's new value; an RWP object is
committed before the reply (R355, R357). -/
def State.writeValue (s : State) (p : Path) (o : Obj) (v : Nat) (f : WriteFacts) : Status × State :=
  match s.fabricCommand o.index o.sub v f with
  | some r => r
  | none => match s.deviceCommand p o.index o.sub v f with
    | some r => r
    | none =>
      let r := s.writePlain o v
      if r.1 ≠ .ok then r
      else
        let s1 := r.2.afterWrite o.index
        if o.acc = .rwp then s1.persistCommit f.store else (.ok, s1)

/-- A write through a path: the object must exist, the path must be allowed, and the data must have its length (R354–R356). -/
def State.writeObj (s : State) (p : Path) (index sub : Nat) (data : List Byte) (f : WriteFacts) : Status × State :=
  match readTarget index sub with
  | none => (.badFormat, s)
  | some t =>
    match s.accessStatus p true index sub with
    | .ok => match t with
      | none => if index = 0x1003 then (if data.length = 1 then s.clearHistory (leNat data) else (.badFormat, s)) else (.refused, s)
      | some o =>
        if o.acc = .ro ∨ o.acc = .rc then (.refused, s)
        else if data.length ≠ o.ty.bytes then (.badFormat, s)
        else s.writeValue p o (leNat data) f
    | st => (st, s)

/-- A read through a path; CAP is a capture register, and HTP_IN_USE the version `inUse` of the session that reads it (R354,
R360, R381). -/
def State.readAny (s : State) (p : Path) (inUse index sub : Nat) : Status × List Byte × State :=
  let r := s.readPath p index sub
  if r.1 ≠ .ok then r
  else if 0x2220 ≤ index ∧ index ≤ 0x2223 ∧ sub = 3 then let c := s.readCap (index - 0x2220); (.ok, leBytes 8 c.1, c.2)
  else if index = 0x2010 ∧ sub = 6 then (.ok, leBytes 1 inUse, s)
  else r

/-! ### The rows of single objects -/

/-- DICT_OBJECT_WRITE (R355). -/
def execDictObjectWrite (path : Path) (index : BitVec 16) (sub : BitVec 8) (data : List Byte) (f : WriteFacts) (s : State) :
    Host.Outcome State Fault Refusal :=
  let r := s.writeObj path index.toNat sub.toNat data f
  .next (r.2.respond r.1)

/-- RC_READ: an RC object read and cleared in one operation (R11, R355); another object is not this command's. -/
def execRcRead (path : Path) (index : BitVec 16) (sub : BitVec 8) (s : State) : Host.Outcome State Fault Refusal :=
  match Reg.find index.toNat sub.toNat with
  | none => .next (s.respond .badFormat)
  | some o =>
    if o.acc ≠ .rc then .next s
    else
      let r := s.readAny path 0 index.toNat sub.toNat
      .next (r.2.2.respond r.1 r.2.1)

/-- CLASS_COMMIT: a write of 1 to COMMIT (R34). -/
def execClassCommit (path : Path) (k : ClassId) (s : State) : Host.Outcome State Fault Refusal :=
  .next (s.writeObject path (0x3100 + k.val) 0x20 fun s => s.commitClass k.val)

/-- CONSOL_NOW (R193). -/
def execConsolNow (path : Path) (v : BitVec 8) (s : State) : Host.Outcome State Fault Refusal :=
  .next (s.writeObject path 0x3500 8 fun s => s.consolNow v.toNat)

/-- RESTORE_DEFAULTS (R358). -/
def execRestoreDefaults (path : Path) (v : BitVec 32) (store : StoreVerify) (s : State) : Host.Outcome State Fault Refusal :=
  .next (s.writeObject path 0x1011 1 fun s => s.restoreDefaults v.toNat store)

/-- EMCY_HISTORY_CLEAR (R360). -/
def execEmcyHistoryClear (path : Path) (v : BitVec 8) (s : State) : Host.Outcome State Fault Refusal :=
  .next (s.writeObject path 0x1003 0 fun s => s.clearHistory v.toNat)

/-- A write of REIN_OVERRIDE: the Rein follows it at once (R321). -/
def State.overrideRein (s : State) (p v : Nat) : Status × State :=
  if 2 < v then (.badFormat, s) else (.ok, (s.setReg (Reg.REIN_OVERRIDE p) v).afterWrite (0x2710 + p))

/-- REIN_OVERRIDE_WRITE (R321). -/
def execReinOverrideWrite (path : Path) (p : PortId) (v : BitVec 8) (s : State) : Host.Outcome State Fault Refusal :=
  .next (s.writeObject path (0x2710 + p.val) 6 fun s => s.overrideRein p.val v.toNat)

/-! ### Accesses forwarded to another device (R363, R371) -/

/-- An access put aside for REMOTE_READ or REMOTE_WRITE to send. -/
def State.forwardAccess (s : State) (a : RemoteAccess) : State :=
  { s with host := { s.host with remote := s.host.remote ++ [{ a with tag := s.host.remoteTag }],
                                 remoteTag := (s.host.remoteTag + 1) % 2 ^ 32 } }

/-- Whether DEV of a request is this device (R363). -/
def State.isOwn (s : State) (dev : Nat) : Bool := dev == 0xFF || dev == s.reg Reg.DEV_NUM

/-- DICT_READ: the bytes of an object from OFFSET, at most MAXLEN; another DEV's is forwarded (R363). -/
def execDictRead (x : HtpFrame) (s : State) : Host.Outcome State Fault Refusal :=
  .next (s.htp x 2 fun s =>
    let f := htpField x
    if x.payload.length < 12 then (some (.badFormat, []), s)
    else if s.isOwn (f 0 1) then
      let used := match s.session x.peer with
        | some y => y.version
        | none => 0
      let r := s.readAny (peerPath x.peer) used (f 2 2) (f 1 1)
      (some (r.1, (r.2.1.drop (f 4 4)).take (f 8 4)), r.2.2)
    else
      let a : RemoteAccess :=
        { tag := 0, dev := f 0 1, index := f 2 2, sub := f 1 1, write := false, peer := x.peer, htpTag := x.tag.toNat,
          sentAt := s.now, offset := f 4 4, want := f 8 4 }
      (none, s.forwardAccess a))

/-- A whole DICT_WRITE: applied here, or forwarded to another device (R363). -/
def State.dictWrite (s : State) (x : HtpFrame) (w : StagedWrite) (f : WriteFacts) : Option (Status × List Byte) × State :=
  if s.isOwn w.dev then
    let r := s.writeObj (peerPath x.peer) w.index w.sub w.data f
    (some (r.1, []), r.2)
  else
    let a : RemoteAccess :=
      { tag := 0, dev := w.dev, index := w.index, sub := w.sub, write := true, peer := x.peer, htpTag := x.tag.toNat,
        sentAt := s.now, data := w.data }
    (none, s.forwardAccess a)

/-- The staged write of a session dropped, and counted where there was one (R355). -/
def State.dropStaged (s : State) (p : Peer) : State :=
  match s.session p with
  | some y => if y.staged.isSome then (s.modSession p fun z => { z with staged := none }).bump Reg.DICT_STAGE_LOST else s
  | none => s

/-- The write that a session has staged, or a new one for the object that a frame names. -/
def State.stagedFor (s : State) (p : Peer) (new : StagedWrite) : StagedWrite :=
  match s.session p with
  | some y => y.staged.getD new
  | none => new

/-- A segment of DICT_WRITE: it must go on where the staged write of its session stands; the last makes TOTAL whole, and the
write is then applied (R355, R363). Every segment is answered. DEDUCED. -/
def State.dictSegment (s0 : State) (x : HtpFrame) (f : WriteFacts) : Option (Status × List Byte) × State :=
  let g := htpField x
  let new : StagedWrite := { dev := g 0 1, index := g 2 2, sub := g 1 1, total := g 8 4, data := [] }
  let s := if g 4 4 = 0 then s0.dropStaged x.peer else s0
  let w := s.stagedFor x.peer new
  let w1 := { w with data := w.data ++ x.payload.drop 12 }
  let same : Bool := w.dev == new.dev && w.index == new.index && w.sub == new.sub && w.total == new.total
  if !same ∨ g 4 4 ≠ w.data.length ∨ w.total < w1.data.length then (some (.badFormat, []), s.dropStaged x.peer)
  else if x.more then (some (.ok, []), s.modSession x.peer fun z => { z with staged := some w1 })
  else if w1.data.length ≠ w.total then (some (.badFormat, []), s.dropStaged x.peer)
  else (s.modSession x.peer fun z => { z with staged := none }).dictWrite x w1 f

/-- DICT_WRITE (R363). -/
def execDictWrite (x : HtpFrame) (f : WriteFacts) (s : State) : Host.Outcome State Fault Refusal :=
  .next (s.htp x 3 fun s => if x.payload.length < 12 then (some (.badFormat, []), s) else s.dictSegment x f)

/-- The payload of a CTRL-REQ: OP, MORE, the object, LEN, OFFSET and data (R371). -/
def requestBody (op : Nat) (more : Bool) (index sub len offset : Nat) (data : List Byte) : List Byte :=
  leBytes 1 op ++ leBytes 1 (boolNat more) ++ leBytes 2 index ++ leBytes 1 sub ++ [0] ++ leBytes 2 len ++ leBytes 4 offset ++ data

/-- A piece of an access sent to its device along the tree (R343, R371). -/
def State.sendPiece (s : State) (a : RemoteAccess) (body : List Byte) : State :=
  s.sendCtrl false a.dev (ctrlBody (s.reg Reg.DEV_NUM) a.dev a.tag body)

/-- A forwarded access changed. -/
def State.modRemote (s : State) (tag : Nat) (f : RemoteAccess → RemoteAccess) : State :=
  { s with host := { s.host with remote := s.host.remote.map fun a => if a.tag = tag then f a else a } }

/-- REMOTE_READ: the next piece of the first forwarded read that is due is asked for, at most 96 bytes (R371). -/
def execRemoteRead (s : State) : Host.Outcome State Fault Refusal :=
  match s.host.remote.find? fun a => !a.write && a.due with
  | none => .next s
  | some a =>
    let n := min 96 (a.want - a.data.length)
    let s1 := s.sendPiece a (requestBody 1 false a.index a.sub n (a.offset + a.data.length) [])
    .next (s1.modRemote a.tag fun b => { b with due := false, sentAt := s.now })

/-- REMOTE_WRITE: the first forwarded write that is due is sent in pieces of 96 bytes, MORE set in all but the last (R371). -/
def execRemoteWrite (s : State) : Host.Outcome State Fault Refusal :=
  match s.host.remote.find? fun a => a.write && a.due with
  | none => .next s
  | some a =>
    let n := max 1 (ceilDiv a.data.length 96)
    let s1 := (List.range n).foldl (fun (s : State) k =>
      let piece := (a.data.drop (96 * k)).take 96
      s.sendPiece a (requestBody 2 (k + 1 < n) a.index a.sub piece.length (96 * k) piece)) s
    .next (s1.modRemote a.tag fun b => { b with due := false, sentAt := s.now })

/-- A forwarded access completed: its request is answered (R371). -/
def State.remoteDone (s : State) (a : RemoteAccess) (st : Status) (data : List Byte) : State :=
  let s1 : State := { s with host := { s.host with remote := s.host.remote.filter fun b => b.tag ≠ a.tag } }
  s1.answer a.peer (if a.write then 3 else 2) a.htpTag st data

/-- The status of a code; a reserved code keeps its value (R12, R13). -/
def statusOfCode (n : Nat) : Status :=
  match [Status.ok, .aborted, .closed, .stale, .full, .timeout, .eccUncorr, .security, .badFormat, .version, .refused, .wcoll,
    .busy, .degraded, .late, .dropped][n]? with
  | some st => st
  | none => .reserved (Fin.ofNat 240 (n - 16))

/-- A CTRL-REP for an access of this device: a status other than OK, or the last piece, completes it (R371). -/
def State.remoteReply (s : State) (tag st len offset : Nat) (data : List Byte) : State :=
  match s.host.remote.find? fun a => a.tag == tag with
  | none => s
  | some a =>
    match statusOfCode st with
    | .ok =>
      if a.write then (if a.data.length ≤ offset + len then s.remoteDone a .ok [] else s)
      else
        let got := a.data ++ data.take len
        if offset ≠ a.offset + a.data.length then s
        else if len < 96 ∨ a.want ≤ got.length then s.remoteDone a .ok (got.take a.want)
        else s.modRemote tag fun b => { b with data := got, due := true }
    | other => s.remoteDone a other []

/-- REMOTE_TIMEOUT: the first access without a reply in REMOTE_TMO_MS completes with TIMEOUT (R371). -/
def execRemoteTimeout (s : State) : Host.Outcome State Fault Refusal :=
  match s.host.remote.find? fun a => decide (a.sentAt + s.reg Reg.REMOTE_TMO_MS * 1000000 ≤ s.now) with
  | none => .next s
  | some a => .next ((s.remoteDone a .timeout []).bump Reg.REMOTE_TMO)

/-- A CTRL-REP sent for an access served here: OP, STATUS, LEN, OFFSET and data (R371). -/
def State.replyPiece (s : State) (src tag op : Nat) (st : Status) (offset len : Nat) (data : List Byte) : State :=
  let body := leBytes 1 op ++ leBytes 1 st.code ++ leBytes 4 0 ++ leBytes 2 len ++ leBytes 4 offset ++ data
  s.sendCtrl true src (ctrlBody (s.reg Reg.DEV_NUM) src tag body)

/-- The pieces of an access served here forgotten. -/
def State.dropServed (s : State) (src tag : Nat) : State :=
  { s with host := { s.host with served := s.host.served.filter fun a => a.dev ≠ src ∨ a.tag ≠ tag } }

/-- A piece of a read served: the first takes one snapshot of the object, which later ones continue (R355, R371). -/
def State.serveRead (s : State) (src tag index sub len offset : Nat) : State :=
  let n := min 96 len
  let held := s.host.served.find? fun a => a.dev == src && a.tag == tag && !a.write
  let r : Status × List Byte × State := match held with
    | some a => (.ok, a.data, s.dropServed src tag)
    | none => s.readAny .tether 0 index sub
  let data := (r.2.1.drop offset).take n
  let s1 := r.2.2
  let more : Bool := r.1 == .ok && decide (offset + data.length < r.2.1.length)
  let s2 : State := if more then
      { s1 with host := { s1.host with served := s1.host.served ++ [⟨src, tag, false, index, sub, r.2.1⟩] } }
    else s1
  s2.replyPiece src tag 1 r.1 offset data.length data

/-- A piece of a write served: staged until the last, which applies the whole (R355, R371). -/
def State.serveWrite (s : State) (src tag index sub offset : Nat) (more : Bool) (data : List Byte) (f : WriteFacts) : State :=
  let held := s.host.served.find? fun a => a.dev == src && a.tag == tag && a.write
  let before : List Byte := match held with
    | some a => a.data
    | none => []
  let s1 := s.dropServed src tag
  if offset ≠ before.length then
    ((if held.isSome then s1.bump Reg.DICT_STAGE_LOST else s1) : State).replyPiece src tag 2 .badFormat offset data.length []
  else if more then
    ({ s1 with host := { s1.host with served := s1.host.served ++ [⟨src, tag, true, index, sub, before ++ data⟩] } } : State).replyPiece
      src tag 2 .ok offset data.length []
  else
    let r := s1.writeObj .tether index sub (before ++ data) f
    r.2.replyPiece src tag 2 r.1 offset data.length []

/-- A CTRL-REQ for this device, from the payload of its flit (R371). -/
def State.serveCtrl (s : State) (src tag : Nat) (body : List Byte) (f : WriteFacts) : State :=
  let g (lo n : Nat) : Nat := leNat ((body.drop lo).take n)
  match g 0 1 with
  | 1 => s.serveRead src tag (g 2 2) (g 4 1) (g 6 2) (g 8 4)
  | 2 => s.serveWrite src tag (g 2 2) (g 4 1) (g 8 4) (natBit (g 1 1) 0) ((body.drop 12).take (min 96 (g 6 2))) f
  | n => s.replyPiece src tag n .badFormat 0 0 []

end Sys2Proof.Machine
end

