-- ==== Sys2Proof/Machine/CanOpen.lean ====
section
/-!
DEFINITION. CAN FD (R367–R370): NMT, SDO, PDOs, the heartbeat, and the error states of the controller. The bytes of SDO frames
follow CiA 301, which the spec names without repeating it (PRESUMED).
-/
namespace Sys2Proof.Machine
open Sys2Proof

/-- Whether the CAN port is in service: stage 2 or later, the device awake, and the controller not bus-off (R367, R412). -/
def State.canUp (s : State) : Bool :=
  !s.power.off && s.reg Reg.PWR_STATE == 0 && decide (2 ≤ s.reg Reg.BRINGUP_STAGE % 128) && s.reg Reg.CAN_STATE != 2 &&
    !s.update.recovery

/-- Whether the CAN port takes frames: in service, and no handover between Saddles (R450). -/
def State.takesCan (s : State) : Bool := s.canUp && s.update.handover.isNone

/-! ### NMT (R367) -/

/-- A frame of an identifier, its data, and what the world answers to a write in it. -/
abbrev CanFrame := Nat × List Byte × WriteFacts

/-- A frame accepted where the port takes frames: counted, and handled by `f`. A handover holds up to 8 (R450). -/
def State.canFrame (s : State) (m : CanFrame) (f : State → State) : State :=
  if s.takesCan then f (s.bump Reg.CAN_RX)
  else if s.canUp ∧ s.power.heldCan.length < 8 then s.modPower fun p => { p with heldCan := p.heldCan ++ [m] }
  else s

/-- What stands for the world's answers in a frame that writes nothing. -/
def noFacts : WriteFacts := ⟨.ok, false⟩

/-- An NMT command by its specifier, as CiA 301 numbers them (PRESUMED), for node 0, which is every node, or for this node
(R367). -/
def State.nmt (s : State) (cs : Nat) (node : BitVec 8) (f : State → State) : State :=
  s.canFrame (0, [BitVec.ofNat 8 cs, node], noFacts) fun s => if node = 0 ∨ node.toNat = s.reg Reg.NODE_ID then f s else s

/-- NMT start: OPERATIONAL; the event times of the TPDOs begin (R367). -/
def State.nmtStart (s : State) (node : BitVec 8) : State :=
  s.nmt 1 node fun s =>
    let s1 := s.setReg Reg.NMT_STATE 5
    if s.reg Reg.NMT_STATE = 5 then s1
    else { s1 with host := { s1.host with tpdoFrom := [(0, s.now), (1, s.now), (2, s.now), (3, s.now)] } }

/-- NMT stop: STOPPED; only NMT and the heartbeat go on, so that a transfer in segments ends (R355, R367). -/
def State.nmtStop (s : State) (node : BitVec 8) : State := s.nmt 2 node fun s => s.dropTransfer.setReg Reg.NMT_STATE 4

/-- NMT enter pre-operational (R367). -/
def State.nmtPreoperational (s : State) (node : BitVec 8) : State := s.nmt 0x80 node fun s => s.setReg Reg.NMT_STATE 0x7F

/-- The RWP objects whose index satisfies `p` put back to the valid persisted copy, or to their defaults (R357, R367). -/
def State.restoreObjects (s : State) (p : Nat → Bool) : State :=
  let s1 : State := { s with regs := s.regs.filter fun e => !p (e.1 / 256) || (match Reg.find (e.1 / 256) (e.1 % 256) with
    | some o => o.acc != .rwp
    | none => true) }
  match s.host.validCopy with
  | none => s1
  | some b => ((if b then s.host.pdB else s.host.pdA).entries.filter fun e => p (e.1 / 256)).foldl State.loadEntry s1

/-- The CANopen communication begun again: bit rates, timers, PRE-OPERATIONAL and the boot-up message (R367, R372). -/
def State.bootCan (s : State) : State :=
  let timing := [s.reg Reg.NOM_RATE, s.reg Reg.DATA_RATE, s.reg Reg.NOM_SP, s.reg Reg.DATA_SP]
  let s1 : State := { s with host := { s.host with canTiming := timing, heartbeatAt := s.now, tpdoWant := [], tpdoAt := [],
                                                   tpdoFrom := [] } }
  (s1.setReg Reg.NMT_STATE 0x7F).canSend (0x700 + s1.reg Reg.NODE_ID) [0]

/-- NMT reset node: the stack restarted, objects 0x1000–0x1FFF restored (R367). -/
def State.nmtResetNode (s : State) (node : BitVec 8) : State :=
  s.nmt 0x81 node fun s => (s.dropTransfer.restoreObjects fun i => 0x1000 ≤ i && i ≤ 0x1FFF).bootCan

/-- NMT reset communication: the COB-ID and PDO objects restored (R367). -/
def State.nmtResetCommunication (s : State) (node : BitVec 8) : State :=
  s.nmt 0x82 node fun s => (s.dropTransfer.restoreObjects fun i => 0x1400 ≤ i && i ≤ 0x1A03).bootCan

/-- An NMT frame by its command specifier, as CiA 301 numbers them (PRESUMED). -/
def State.nmtFrame (s : State) (cs : Nat) (node : BitVec 8) : State :=
  match cs with
  | 1 => s.nmtStart node
  | 2 => s.nmtStop node
  | 0x80 => s.nmtPreoperational node
  | 0x81 => s.nmtResetNode node
  | 0x82 => s.nmtResetCommunication node
  | _ => s.canFrame (0, [BitVec.ofNat 8 cs, node], noFacts) fun s => s

/-- NMT_START (R367). -/
def execNmtStart (node : BitVec 8) (s : State) : Host.Outcome State Fault Refusal := .next (s.nmtStart node)

/-- NMT_STOP (R367). -/
def execNmtStop (node : BitVec 8) (s : State) : Host.Outcome State Fault Refusal := .next (s.nmtStop node)

/-- NMT_ENTER_PREOPERATIONAL (R367). -/
def execNmtEnterPreoperational (node : BitVec 8) (s : State) : Host.Outcome State Fault Refusal :=
  .next (s.nmtPreoperational node)

/-- NMT_RESET_NODE (R367). -/
def execNmtResetNode (node : BitVec 8) (s : State) : Host.Outcome State Fault Refusal := .next (s.nmtResetNode node)

/-- NMT_RESET_COMMUNICATION (R367). -/
def execNmtResetCommunication (node : BitVec 8) (s : State) : Host.Outcome State Fault Refusal :=
  .next (s.nmtResetCommunication node)

/-! ### SDO (R367, R368) -/

/-- The abort code of a status (R368); `len` is the length of a write's data. -/
def abortCode (write : Bool) (index sub len : Nat) (st : Status) : Nat :=
  match st, Reg.find index sub with
  | .refused, some o =>
    if !write ∧ o.acc = .wo then 0x06010001
    else if write ∧ (o.acc = .ro ∨ o.acc = .rc) then 0x06010002
    else 0x08000022
  | .refused, none => if write then 0x06010002 else 0x08000022
  | .badFormat, some o => if write ∧ len ≠ o.ty.bytes then 0x06070010 else 0x06090030
  | .badFormat, none => if (Reg.highestSub index).isSome ∨ (Reg.find index 0).isSome then 0x06090011 else 0x06020000
  | .security, _ => 0x06010000
  | .eccUncorr, _ => 0x08000020
  | _, _ => 0x08000000

/-- A response of the SDO server: its first byte, the object, and four bytes (CiA 301, PRESUMED). -/
def State.sdoRespond (s : State) (cmd index sub : Nat) (data : List Byte) : State :=
  s.canSend (0x580 + s.reg Reg.NODE_ID)
    (leBytes 1 cmd ++ leBytes 2 index ++ leBytes 1 sub ++ (data ++ List.replicate (4 - data.length) 0))

/-- A response to a segment: its first byte and seven bytes. -/
def State.sdoSegment (s : State) (cmd : Nat) (data : List Byte) : State :=
  s.canSend (0x580 + s.reg Reg.NODE_ID) (leBytes 1 cmd ++ data ++ List.replicate (7 - data.length) 0)

/-- A whole SDO write applied, and confirmed by `ok` or aborted with its code (R368). -/
def State.sdoApply (s : State) (index sub : Nat) (data : List Byte) (f : WriteFacts) (ok : State → State) : State :=
  let r := s.writeObj .can index sub data f
  let t := r.2.respond r.1
  if r.1 = .ok then ok t else t.sdoAbort index sub (abortCode true index sub data.length r.1)

/-- Whether the SDO server runs: PRE-OPERATIONAL or OPERATIONAL (R367). -/
def State.sdoRuns (s : State) : Bool := s.reg Reg.NMT_STATE != 4

/-- The fields of an SDO frame: the command specifier, the object, and its byte `i`. -/
def sdoField (frame : List Byte) (lo n : Nat) : Nat := leNat ((frame.drop lo).take n)

/-- The start of a download: expedited with its data, or a transfer in segments, for which an earlier one gives way. -/
def State.sdoBegin (s : State) (frame : List Byte) (f : WriteFacts) : State :=
  let c := sdoField frame 0 1
  let index := sdoField frame 1 2
  let sub := sdoField frame 3 1
  let s1 := s.dropTransfer
  if natBit c 1 then
    let n := if natBit c 0 then 4 - bitField c 2 2 else 4
    s1.sdoApply index sub ((frame.drop 4).take n) f fun t => t.sdoRespond 0x60 index sub []
  else
    let x : SdoTransfer := { write := true, index := index, sub := sub, data := [], lastAt := s.now }
    ({ s1 with host := { s1.host with sdo := some x } } : State).sdoRespond 0x60 index sub []

/-- A segment of a download; the last one applies the whole (R355). -/
def State.sdoNext (s : State) (frame : List Byte) (f : WriteFacts) : State :=
  let c := sdoField frame 0 1
  match s.host.sdo with
  | none => s.sdoAbort 0 0 0x08000000
  | some x =>
    if !x.write then s.sdoAbort x.index x.sub 0x08000000
    else
      let data := x.data ++ (frame.drop 1).take (7 - bitField c 1 3)
      let confirm (t : State) : State := t.sdoSegment (0x20 + bitField c 4 1 * 16) []
      if natBit c 0 then
        ({ s with host := { s.host with sdo := none } } : State).sdoApply x.index x.sub data f confirm
      else confirm { s with host := { s.host with sdo := some { x with data := data, lastAt := s.now } } }

/-- A frame of 8 bytes to the SDO server: the start of a write, a segment, or the client's abort (R367, R368). -/
def State.sdoDownload (s : State) (frame : List Byte) (f : WriteFacts) : State :=
  s.canFrame (0x600 + s.reg Reg.NODE_ID, frame, f) fun s =>
    if !s.sdoRuns ∨ frame.length ≠ 8 then s
    else match sdoField frame 0 1 / 32 with
      | 0 => s.sdoNext frame f
      | 1 => s.sdoBegin frame f
      | 4 => s.dropTransfer
      | _ => s

/-- SDO_DOWNLOAD (R367, R368). -/
def execSdoDownload (frame : List Byte) (f : WriteFacts) (s : State) : Host.Outcome State Fault Refusal :=
  .next (s.sdoDownload frame f)

/-- The start of an upload: up to four bytes at once, else in segments, from one reading of the object (R355). -/
def State.sdoRead (s : State) (index sub : Nat) : State :=
  let r := s.dropTransfer.readAny .can 0 index sub
  let t := r.2.2.respond r.1 r.2.1
  if r.1 ≠ .ok then t.sdoAbort index sub (abortCode false index sub 0 r.1)
  else if r.2.1.length ≤ 4 then t.sdoRespond (0x43 + 4 * (4 - r.2.1.length)) index sub r.2.1
  else
    let x : SdoTransfer := { write := false, index := index, sub := sub, data := r.2.1, lastAt := s.now }
    ({ t with host := { t.host with sdo := some x } } : State).sdoRespond 0x41 index sub (leBytes 4 r.2.1.length)

/-- A segment of an upload: seven bytes, or the rest with the mark of the last. -/
def State.sdoMore (s : State) (toggle : Nat) : State :=
  match s.host.sdo with
  | none => s.sdoAbort 0 0 0x08000000
  | some x =>
    if x.write then s.sdoAbort x.index x.sub 0x08000000
    else
      let data := x.data.take 7
      if x.data.length ≤ 7 then
        ({ s with host := { s.host with sdo := none } } : State).sdoSegment (toggle * 16 + 2 * (7 - data.length) + 1) data
      else
        ({ s with host := { s.host with sdo := some { x with data := x.data.drop 7, lastAt := s.now } } } : State).sdoSegment
          (toggle * 16) data

/-- A frame of 8 bytes to the SDO server: the start of a read, or the request of its next segment (R367, R368). -/
def State.sdoUpload (s : State) (frame : List Byte) : State :=
  s.canFrame (0x600 + s.reg Reg.NODE_ID, frame, noFacts) fun s =>
    if !s.sdoRuns ∨ frame.length ≠ 8 then s
    else match sdoField frame 0 1 / 32 with
      | 2 => s.sdoRead (sdoField frame 1 2) (sdoField frame 3 1)
      | 3 => s.sdoMore (bitField (sdoField frame 0 1) 4 1)
      | _ => s

/-- SDO_UPLOAD (R367, R368). -/
def execSdoUpload (frame : List Byte) (s : State) : Host.Outcome State Fault Refusal := .next (s.sdoUpload frame)

/-- SDO_SEGMENT_TIMEOUT: a transfer in segments idle for 1 s is aborted (R367, R368). -/
def execSdoSegmentTimeout (s : State) : Host.Outcome State Fault Refusal :=
  match s.host.sdo with
  | none => .next s
  | some x => .next (if x.lastAt + 1000000000 ≤ s.now then s.sdoAbort x.index x.sub 0x05040000 else s)

/-! ### PDOs (R369) -/

/-- A PDO received: only in OPERATIONAL and while its COB-ID is valid; one shorter than its mapping of 8 bytes is counted. -/
def State.rpdo (s : State) (i : Nat) (data : List Byte) (f : State → State) : State :=
  if s.reg Reg.NMT_STATE ≠ 5 ∨ natBit (s.held (Reg.RPDO_COB i)) 31 then s
  else s.canFrame (s.held (Reg.RPDO_COB i) % 2048, data, noFacts) fun s => if data.length < 8 then s.bump Reg.PDO_LEN_ERR else f s

/-- The GAIT command that RPDO1 spells: GAIT, OVR_POLICY and STEP_LEN_NS; the step floor and the shed mask are kept (R212,
R369). -/
def State.gaitCommand (s : State) (data : List Byte) : Entry :=
  let g (lo n : Nat) : Nat := leNat ((data.drop lo).take n)
  entryOf [(0, 1, 0x11), (2, 2, s.reg Reg.CFV_RANGE / 256), (8, 1, g 0 1), (9, 1, g 1 1), (12, 4, g 4 4),
    (16, 4, 0xFFFFFFFF), (20, 4, 0xFFFFFFFF)]

/-- RPDO1: a GAIT command pushed by the Saddle on queue 0; one that the queue refuses is reported. Ignored on devices other than
the step master (R90, R369). -/
def State.rpdo1 (s : State) (data : List Byte) : State :=
  s.rpdo 0 data fun s =>
    if !s.isMaster then s
    else
      let t := s.push .saddle 0 (s.gaitCommand data)
      if t.resp.status = .ok then t else t.gaitRefused t.resp.status

/-- RPDO1_RECEIVE (R369). -/
def execRpdo1Receive (data : List Byte) (s : State) : Host.Outcome State Fault Refusal := .next (s.rpdo1 data)

/-- RPDO2: REIN_OVERRIDE of each port in port order; 0xFF changes nothing, and a reserved value is not applied (R321, R369). -/
def State.rpdo2 (s : State) (data : List Byte) : State :=
  s.rpdo 1 data fun s =>
    (List.range 6).foldl (fun (s : State) p =>
      let v := leNat ((data.drop p).take 1)
      if v = 0xFF then s
      else match s.accessStatus .can true (0x2710 + p) 6 with
        | .ok => (s.overrideRein p v).2
        | _ => s) s

/-- RPDO2_RECEIVE (R369). -/
def execRpdo2Receive (data : List Byte) (s : State) : Host.Outcome State Fault Refusal := .next (s.rpdo2 data)

/-- The bytes of the objects that a TPDO maps (R369). -/
def State.tpdoData (s : State) (i : Nat) : List Byte :=
  (s.mapping i (s.held (Reg.TPDO_MAPPED i))).flatMap fun e =>
    match Reg.find (e / 65536) (e / 256 % 256) with
    | some o => leBytes o.ty.bytes (s.viewObj o)
    | none => []

/-- Whether TPDO `i` is due: its event time has passed, or an event waits under transmission type 0xFE, and in either case the
inhibit time since it was last sent has passed (R369). -/
def State.tpdoDue (s : State) (i : Nat) : Bool :=
  let event := s.held (Reg.TPDO_EVENT i)
  let timed : Bool := event != 0 && decide (Assoc.getD s.host.tpdoFrom i 0 + event * 1000000 ≤ s.now)
  let wanted : Bool := s.host.tpdoWant.contains (i + 1) && s.held (Reg.TPDO_TYPE i) == 0xFE
  let free : Bool := match Assoc.get? i s.host.tpdoAt with
    | some t => decide (t + s.held (Reg.TPDO_INHIBIT i) * 100000 ≤ s.now)
    | none => true
  (timed || wanted) && free

/-- TPDO_EVENT_TIMER: a TPDO that is due is sent (R369). -/
def execTpdoEventTimer (i : Fin 4) (s : State) : Host.Outcome State Fault Refusal :=
  if !s.takesCan ∨ s.reg Reg.NMT_STATE ≠ 5 ∨ s.tpdoInvalid i.val ∨ !s.tpdoDue i.val then .next s
  else
    let s1 := s.canSend (s.held (Reg.TPDO_COB i.val) % 2048) (s.tpdoData i.val)
    .next { s1 with host := { s1.host with tpdoAt := Assoc.set i.val s.now s1.host.tpdoAt,
                                           tpdoFrom := Assoc.set i.val s.now s1.host.tpdoFrom,
                                           tpdoWant := s1.host.tpdoWant.filter (· ≠ i.val + 1) } }

/-! ### Heartbeat and error states (R367, R370) -/

/-- HEARTBEAT_TIMER: the NMT state sent each HEARTBEAT_MS (R367). -/
def execHeartbeatTimer (s : State) : Host.Outcome State Fault Refusal :=
  let ms := s.reg Reg.HEARTBEAT_MS
  if !s.takesCan ∨ ms = 0 ∨ s.now < s.host.heartbeatAt + ms * 1000000 then .next s
  else
    .next ((({ s with host := { s.host with heartbeatAt := s.now } } : State).canSend (0x700 + s.reg Reg.NODE_ID)
      (leBytes 1 (s.reg Reg.NMT_STATE))))

/-- CAN_BUS_ERROR: an error frame seen, and the state to which the error counters move the controller; only a recovery leaves
bus-off (R367, R373). -/
def execCanBusError (frame : Bool) (into : Fin 3) (s : State) : Host.Outcome State Fault Refusal :=
  if s.power.off ∨ s.reg Reg.BRINGUP_STAGE % 128 < 2 ∨ s.reg Reg.CAN_STATE = 2 then .next s
  else
    let s1 := (if frame then s.bump Reg.CAN_ERR_FRAMES else s).setReg Reg.CAN_STATE into.val
    .next (if into.val = 2 then s1.bump Reg.BUSOFF else s1)

/-- BUSOFF_RECOVERY: after 128 × 11 recessive bits, where BUSOFF_RECOVER = 1: the EMCY records that waited are sent, and the
recovery is reported (R367, R370). -/
def execBusoffRecovery (s : State) : Host.Outcome State Fault Refusal :=
  if s.reg Reg.CAN_STATE ≠ 2 ∨ s.reg Reg.BUSOFF_RECOVER = 0 then .next s
  else
    let s1 := s.setReg Reg.CAN_STATE 0
    let s2 : State := { s1 with host := { s1.host with emcyWait := [] } }
    let s3 := if s.reg Reg.NMT_STATE = 4 then s2
      else s.host.emcyWait.foldl (fun (s : State) m => s.canSend m.1 m.2) s2
    .next ((s3.logFault { cls := .other, source := some 7 }).emcy 0x8140 .ok 7 0)

/-! ### Frames held through a wake or a handover (R404, R450) -/

/-- A frame given to the CANopen stack by its identifier: NMT, the SDO server, the RPDOs; any other is counted alone (R367,
R369). -/
def State.canTake (s : State) (id : Nat) (data : List Byte) (f : WriteFacts) : State :=
  let node := s.reg Reg.NODE_ID
  let g (k : Nat) : Nat := leNat ((data.drop k).take 1)
  if id = 0 then s.nmtFrame (g 0) (BitVec.ofNat 8 (g 1))
  else if id = 0x600 + node then if 1 < g 0 / 32 ∧ g 0 / 32 < 4 then s.sdoUpload data else s.sdoDownload data f
  else if id = s.held (Reg.RPDO_COB 0) % 2048 then s.rpdo1 data
  else if id = s.held (Reg.RPDO_COB 1) % 2048 then s.rpdo2 data
  else s.canFrame (id, data, f) fun s => s

/-- The frames held given to the CANopen stack in order. -/
def State.takeHeld (s : State) : State :=
  s.power.heldCan.foldl (fun u m => u.canTake m.1 m.2.1 m.2.2) (s.modPower fun p => { p with heldCan := [] })

/-- HANDOVER_TIMEOUT: no confirmation within 1 s; the CAN frames held meanwhile go to the old Saddle (R450). -/
def execHandoverTimeout (s : State) : Host.Outcome State Fault Refusal :=
  match s.update.handover with
  | none => .next s
  | some (t, back) => .next (if t + 1000000000 ≤ s.now then (s.handoverFails back .timeout).takeHeld else s)

/-- WAKE: an enabled wake source returns the device to RUN, or aborts the entry in progress; CAN frames held meanwhile go to the
CANopen stack (R401, R404). -/
def execWake (w : WakeSource) (s : State) : Host.Outcome State Fault Refusal :=
  let t := s.wakeBy w
  .next (if t.reg Reg.PWR_STATE = 0 then t.takeHeld else t)

end Sys2Proof.Machine
end

