-- ==== Sys2Proof/Machine/Flits.lean ====
section
/-!
DEFINITION. Flits as a link's receiver takes them (R336–R343): acknowledgements and credits, the checks of R341, and what each
channel's payload does.
-/
namespace Sys2Proof.Machine
open Sys2Proof

/-- `n` bytes of a flit from byte `lo`, as a number (R7). -/
def flitField (x : List Byte) (lo n : Nat) : Nat := leNat ((x.drop lo).take n)

/-- The header of a flit (R336). -/
def flitHeader (x : List Byte) : Nat := flitField x 0 8

/-! ### The checks of an accepted flit (R341) -/

/-- A reserved type, encoding or bit of a header (R336). -/
def headerBad (h : Nat) : Bool :=
  bitField h 30 2 != 0 || natBit h 35 || bitField h 44 20 != 0 || bitField h 0 3 == 5 || bitField h 0 3 == 6 ||
    (bitField h 0 3 != 0 && natBit h 3) || 5 < bitField h 32 3

/-- A reserved encoding or byte of an EVENT payload (R337); CNT 0 of an event word is one (R117). -/
def eventBad (x : List Byte) : Bool :=
  let n := flitField x 8 1
  n == 0 || 10 < n || flitField x 9 7 != 0 || (List.range n).any fun i =>
    flitField x (25 + 10 * i) 1 != 0 || bitField (flitField x (16 + 10 * i) 8) 17 3 == 0

/-- A reserved STYPE, encoding or byte of a SYNC payload (R338). -/
def syncBad (x : List Byte) : Bool :=
  let z (lo n : Nat) : Bool := flitField x lo n == 0
  match flitField x 8 1 with
  | 0 => !(bitField (flitField x 10 2) 12 4 == 0 && bitField (flitField x 12 2) 12 4 == 0 && z 14 2 && z 88 36)
  | 1 => flitField x 9 1 == 0 || 4 < flitField x 9 1 || !(z 10 6 && z 24 100)
  | 2 => 7 < flitField x 9 1 || 16383 < flitField x 16 2 || !(z 10 6 && z 18 2 && z 28 96)
  | _ => true

/-- Whether an accepted flit is discarded for its format (R341). -/
def flitBad (x : List Byte) : Bool :=
  let h := flitHeader x
  headerBad h || (match bitField h 0 3 with
    | 0 => eventBad x
    | 2 => 108 < flitField x 10 2
    | 3 => 108 < flitField x 10 2
    | 4 => syncBad x
    | _ => false)

/-! ### Acknowledgement and credits (R339, R340, R342) -/

/-- Every flit up to ACK leaves the replay buffer; progress ends the count of replays without it (R340). -/
def Link.acked (x : Link) (ack now : Nat) : Link :=
  match x.replay with
  | [] => x
  | f :: _ =>
    let n := (ack + 1 + 4096 - f.seq) % 4096
    if n = 0 ∨ x.replay.length < n then x
    else
      { x with replay := x.replay.drop n, ackAt := now, stuck := 0,
               replayAt := x.replayAt.bind fun k => if n < x.replay.length then some (k - n) else none }

/-- Cumulative places freed in a pool at the other end (R336). -/
def Link.credited (x : Link) (pool count : Nat) : Link :=
  if 5 < pool then x
  else
    let new := (count + 256 - x.told.getD pool 0) % 256
    { x with credits := setNth x.credits pool (min (poolPlaces.getD pool 0) (x.credits.getD pool 0 + new)),
             told := setNth x.told pool count }

/-- What a header tells: ACK, NAK and credits (R336). -/
def Link.heard (x : Link) (h now : Nat) : Link :=
  let x1 := if natBit h 28 then x.acked (bitField h 16 12) now else x
  let x2 := x1.credited (bitField h 32 3) (bitField h 36 8)
  if natBit h 29 then { x2 with nakIn := true } else x2

/-- A place of a pool freed here. -/
def State.freePlace (s : State) (l pool : Nat) : State :=
  s.modLink l fun x => { x with freed := setNth x.freed pool ((x.freed.getD pool 0 + 1) % 256) }

/-! ### Payloads (R337, R338, R343, R371) -/

/-- An EVENT flit: its events go to the gateway, those for a lost device are discarded there (R337, R467). The flit's place is
freed when the last has been passed on (R342). -/
def State.takeEventFlit (s : State) (l : Nat) (cls : Bool) (x : List Byte) (codes : List Ecc) : State :=
  let own := s.reg Reg.DEV_NUM
  let evs := (List.range (flitField x 8 1)).map fun i =>
    let ev : Event :=
      { word := BitVec.ofNat 64 (flitField x (16 + 10 * i) 8), stream := natBit (flitField x (24 + 10 * i) 1) 0,
        payBad := codes.getD i .clean == .uncorrectable }
    { ev with classB := cls && ev.dev != own }
  let kept := evs.filter fun e => !s.devLost e.dev
  let s1 := (evs.filter fun e => s.devLost e.dev).foldl State.lostDiscard (s.bumpByAt Reg.EVENTS_RX (0x10 + l) evs.length)
  let s2 : State := { s1 with gateRx := Assoc.set l (Assoc.getD s1.gateRx l [] ++ kept) s1.gateRx }
  (s2.modLink l fun y => { y with rxEvents := y.rxEvents ++ [(cls, kept.length)] }).settleRx l

/-- A step number from its 12 bits: the first not below `base` (R94). -/
def unwrapStep (base d : Nat) : Nat := base + (d + 4096 - base % 4096) % 4096

/-- The record of a REDUCE payload (R338). -/
def reduceRecord (x : List Byte) : Reduction :=
  let tags (lo : Nat) : Tags :=
    { t0 := BitVec.ofNat 32 (flitField x lo 4), t1 := BitVec.ofNat 32 (flitField x (lo + 4) 4),
      t2 := BitVec.ofNat 32 (flitField x (lo + 8) 4), t3 := BitVec.ofNat 32 (flitField x (lo + 12) 4) }
  let check := flitField x 80 8
  { done := unwrapStep (check - 1) (bitField (flitField x 10 2) 0 12), sdone := unwrapStep (check - 2) (bitField (flitField x 12 2) 0 12),
    fsent := tags 16, frcvd := tags 32, ssent := tags 48, srcvd := tags 64, status := statusOfCode (flitField x 9 1), check := check }

/-- The Hitch message of a code and a value (R338). -/
def hitchMsgOf (code v : Nat) : HitchMsg :=
  match code with
  | 0 => .signal v | 1 => .set v | 2 => .barrier v | 3 => .subscribe | 4 => .unsubscribe
  | 5 => .update v | 6 => .release v 0 | _ => .refuse v 0

/-- A HITCH message taken, news for every node of this die that waits on the Hitch, or passed on towards the home or the
device that its news is for (R265, R343). -/
def State.takeHitch (s : State) (l : Nat) (x : List Byte) : State :=
  let own := s.reg Reg.DEV_NUM
  let f : HitchFlight :=
    { hitch := flitField x 16 2, msg := hitchMsgOf (flitField x 9 1) (flitField x 20 4), link := some (Fin.ofNat 8 l),
      dev := flitField x 24 1, node := flitField x 25 1, run := none, queue := flitField x 26 2, arrive := cclkOf s.now }
  if s.flightDest f = own then
    let others := ((s.waitersOn f.hitch).map s.entryNode).eraseDups.filter (· ≠ f.node)
    let copies : List HitchFlight := if f.msg.isNews then others.map fun n => { f with node := n, queue := 0x7FFF } else []
    { s with hitchNet := s.hitchNet ++ f :: copies }
  else match s.treeLink (s.flightDest f) with
    | some m => s.modLink m fun y => { y with hitch := y.hitch ++ [(x.drop 8).take 116] }
    | none => s

/-- A SYNC flit: a child's record, whose change in the oldest incomplete step is a change of the counts (R96), a broadcast of the
parent, or a Hitch message (R338, R345). -/
def State.takeSync (s : State) (l : Nat) (x : List Byte) : State :=
  match flitField x 8 1 with
  | 0 =>
    if s.tether.children.any fun c => c.1 == l then
      let new := reduceRecord x
      let n := s.reg Reg.STEP_COMPLETE + 1
      let same (old : Reduction) : Bool :=
        old.done == new.done && old.fsent.get n == new.fsent.get n && old.frcvd.get n == new.frcvd.get n
      let s1 := if (Assoc.get? l s.fabric.children).any same then s else s.noteCounts n
      s1.modFabric fun f => { f with children := Assoc.set l new f.children }
    else s
  | 1 =>
    if s.reg Reg.TREE_PARENT = l then s.modTether fun t => { t with heard := t.heard ++ [(l, flitField x 9 1, flitField x 16 8)] }
    else s
  | _ => s.takeHitch l x

/-- A CTRL flit: for this device it is served or completes an access; another device's is passed on (R343, R371). -/
def State.takeCtrl (s : State) (reply : Bool) (x : List Byte) (f : WriteFacts) : State :=
  let src := flitField x 8 1
  let dst := flitField x 9 1
  let tag := flitField x 12 4
  let body := (x.drop 16).take (flitField x 10 2)
  let g (lo n : Nat) : Nat := leNat ((body.drop lo).take n)
  if dst ≠ s.reg Reg.DEV_NUM then s.sendCtrl reply dst ((x.drop 8).take 116)
  else if reply then s.remoteReply tag (g 1 1) (g 6 2) (g 8 4) (body.drop 12)
  else s.serveCtrl src tag body f

/-- The payload of an accepted flit acted on; places other than of EVENT flits are free at once (R342). -/
def State.takePayload (s : State) (l : Nat) (x : List Byte) (codes : List Ecc) (f : WriteFacts) : State :=
  let h := flitHeader x
  match bitField h 0 3 with
  | 0 => s.takeEventFlit l (natBit h 3) x codes
  | 1 =>
    (s.modTether fun t => { t with lines := t.lines ++ [(l, flitField x 8 8, (x.drop 16).take 64)] }).freePlace l 2
  | 2 => (s.takeCtrl false x f).freePlace l 3
  | 3 => (s.takeCtrl true x f).freePlace l 4
  | _ => (s.takeSync l x).freePlace l 5

/-- A flit in sequence accepted: FLITS_RX and ACK advance; one whose format is bad is then discarded, its place free (R339,
R341). -/
def State.acceptFlit (s : State) (l : Nat) (x : List Byte) (codes : List Ecc) (f : WriteFacts) : State :=
  let h := flitHeader x
  let s1 := (s.bumpAt Reg.FLITS_RX l).modLink l fun y =>
    { y with rxLast := bitField h 4 12, gapNak := false, unacked := y.unacked + 1,
             unackedFrom := if y.unacked = 0 then s.now else y.unackedFrom }
  if flitBad x then
    let s2 := (s1.bumpAt Reg.FLIT_BADFMT l).logGated 29 l s.second
      { cls := .link, status := .badFormat, unit := l, ref := bitField h 4 12 }
    if bitField h 0 3 ≤ 4 then s2.freePlace l (poolOf (bitField h 0 3) (natBit h 3)) else s2
  else s1.takePayload l x codes f

/-- A corrupted flit discarded: NAK with the last accepted SEQ, once per gap (R339). -/
def State.nakFlit (s : State) (l : Nat) : State :=
  if (s.link l).gapNak then s
  else (s.bumpAt Reg.NAKS_TX l).modLink l fun x => { x with gapNak := true, nakOut := true }

/-- The LINK flit that follows a retraining tells where the other end stands: the replay begins there (R335). -/
def State.resumeLink (s : State) (l : Nat) : State :=
  if (s.link l).resume then (s.modLink l fun x => { x with resume := false, nakIn := false }).beginReplay l else s

/-- Bytes corrected in a codeword, in all and by physical lane in the present millisecond (R339, R346). -/
def State.noteCorrected (s : State) (l : Nat) (corrected : List Nat) : State :=
  let ms := s.now / 1000000
  let x := s.link l
  let held := if x.corrAt = ms then x.corr else [0, 0, 0, 0]
  let corr := (List.range 4).map fun i => held.getD i 0 + corrected.getD i 0
  (s.bumpByAt Reg.FEC_CORR_SYM (0x10 + l) (corrected.foldl (· + ·) 0)).setLink l { x with corr := corr, corrAt := ms }

/-- The entry that a codeword or a CRC that fails leaves, once per link and second (R353). -/
def flitNote (l : Nat) : FaultNote := { cls := .link, status := .eccUncorr, unit := l }

/-- An uncorrectable codeword: discarded (R339). -/
def State.codewordLost (s : State) (l : Nat) : State :=
  ((s.bumpAt Reg.FEC_UNCORR l).logGated 30 l s.second (flitNote l)).nakFlit l

/-- Whether the CRC of a flit holds: CRC-32C over bytes 0–123, held in bytes 124–127 (R336). -/
def flitCrcOk (x : List Byte) : Bool := (crc32c (x.take 124)).toNat == flitField x 124 4

/-- In IDLE a flit other than a LINK flit wakes the device; it waits in its credit pool until the die is ungated, which the model
lets happen at once (R402). -/
def State.wakeByFlit (s : State) (l : Nat) : State :=
  if s.reg Reg.PWR_STATE = 1 then s.wakeBy (.tether (Fin.ofNat 8 l)) else s

/-- A flit whose codeword is right taken by the first case of R339 that applies. `codes` gives the verdicts of its events' payload
codes. -/
def State.takeFlit (s : State) (l : Nat) (flit : List Byte) (codes : List Ecc) (f : WriteFacts) : State :=
  if !flitCrcOk flit then ((s.bumpAt Reg.CRC_FAIL l).logGated 31 l s.second (flitNote l)).nakFlit l
  else
    let h := flitHeader flit
    let s1 := s.modLink l fun x => x.heard h s.now
    let ahead := (bitField h 4 12 + 4096 - (s1.link l).rxLast - 1) % 4096
    if bitField h 0 3 = 7 then s1.resumeLink l
    else if ahead = 0 then (s1.wakeByFlit l).acceptFlit l flit codes f
    else if 2048 ≤ ahead then (s1.bumpAt Reg.DUP_RX l).modLink l fun x => { x with unacked := max 32 x.unacked }
    else s1.bumpAt Reg.SEQ_DISCARD l

/-- Blocks received on a link's lanes taken in, with the adjustments of its elastic buffers counted (R331). -/
def State.feedLanes (s : State) (l : Nat) (lanes : List (List Block)) (adjust : Nat) : State :=
  let x := (s.link l).feed (s.rxOrder l) (s.reg (Reg.POL_INV l)) lanes
  let a := x.adjusting (s.rxOrder l) adjust
  (s.bumpByAt Reg.SKIP_ADJ (0x10 + l) a.length).setLink l (x.mapLanes a fun r => { r with mayAdjust := false })

/-- FLIT_RECEIVE: the blocks that each physical lane has received are taken in, and the next codeword, once its 17 blocks are
there, is decoded and its flit taken (R327, R330, R331, R339). `adjust` names the lanes whose elastic buffer adjusts itself to the
other end's clock, which the clocks decide. -/
def execFlitReceive (l : LinkId) (lanes : List (List Block)) (adjust : BitVec 4) (codes : List Ecc) (f : WriteFacts) (s : State) :
    Host.Outcome State Fault Refusal :=
  let k := l.val
  if !s.linkUp k then .next s
  else
    let s1 := s.feedLanes k lanes adjust.toNat
    let r := (s1.link k).nextCodeword (s.rxOrder k)
    let s2 := s1.setLink k r.2
    match r.1 with
    | .waiting => .next s2
    | .broken => .next (s2.codewordLost k)
    | .bytes b on => match rsDecode b with
      | none => .next (s2.codewordLost k)
      | some d => .next ((s2.noteCorrected k (correctedBy on d.2)).takeFlit k (d.1.map (BitVec.ofNat 8)) codes f)

end Sys2Proof.Machine
end

