-- ==== Sys2Proof/Machine/Dispatch.lean ====
section
/-!
DEFINITION. The dispatch of commands to their meanings: one arm per constructor.
-/
namespace Sys2Proof.Machine
open Sys2Proof

/-- What a command does to the block; the queue of commands is left to `step`. -/
def exec (i : Instr) (s : State) : Host.Outcome State Fault Refusal :=
  match i with
  | .nop q => Sys2Proof.Machine.execNop q s
  | .hitchSignal q => Sys2Proof.Machine.execHitchSignal q s
  | .hitchWait q => Sys2Proof.Machine.execHitchWait q s
  | .hitchSet q => Sys2Proof.Machine.execHitchSet q s
  | .hitchBarrier q => Sys2Proof.Machine.execHitchBarrier q s
  | .hitchDump q => Sys2Proof.Machine.execHitchDump q s
  | .step others => Sys2Proof.Machine.execStep others s
  | .gait => Sys2Proof.Machine.execGait s
  | .learnEpoch => Sys2Proof.Machine.execLearnEpoch s
  | .checkpoint p => Sys2Proof.Machine.execCheckpoint p s
  | .restore p => Sys2Proof.Machine.execRestore p s
  | .loadSegment p => Sys2Proof.Machine.execLoadSegment p s
  | .harnessLoad => Sys2Proof.Machine.execHarnessLoad s
  | .harnessUnload => Sys2Proof.Machine.execHarnessUnload s
  | .denseGemm => Sys2Proof.Machine.execDenseGemm s
  | .denseConv => Sys2Proof.Machine.execDenseConv s
  | .move bad => Sys2Proof.Machine.execMove bad s
  | .fill => Sys2Proof.Machine.execFill s
  | .mapLoad => Sys2Proof.Machine.execMapLoad s
  | .arm => Sys2Proof.Machine.execArm s
  | .disarm => Sys2Proof.Machine.execDisarm s
  | .groupDef => Sys2Proof.Machine.execGroupDef s
  | .groupClear => Sys2Proof.Machine.execGroupClear s
  | .tilestat => Sys2Proof.Machine.execTilestat s
  | .gcmSeal => Sys2Proof.Machine.execGcmSeal s
  | .gcmOpen => Sys2Proof.Machine.execGcmOpen s
  | .sha384 => Sys2Proof.Machine.execSha384 s
  | .ecdsaSign => Sys2Proof.Machine.execEcdsaSign s
  | .ecdsaVerify => Sys2Proof.Machine.execEcdsaVerify s
  | .xtsKeyset => Sys2Proof.Machine.execXtsKeyset s
  | .frcInvalidate => Sys2Proof.Machine.execFrcInvalidate s
  | .commandStart e x y => Sys2Proof.Machine.execCommandStart e x y s
  | .heldRecordWrite e => Sys2Proof.Machine.execHeldRecordWrite e s
  | .push m q e x => Sys2Proof.Machine.execPush m q e x s
  | .consume m q n x => Sys2Proof.Machine.execConsume m q n x s
  | .cqSeal m q n x => Sys2Proof.Machine.execCqSeal m q n x s
  | .post m q w x => Sys2Proof.Machine.execPost m q w x s
  | .qDrain m q x => Sys2Proof.Machine.execQDrain m q x s
  | .qAbort m q x => Sys2Proof.Machine.execQAbort m q x s
  | .qEnable m q x => Sys2Proof.Machine.execQEnable m q x s
  | .qReset m q x => Sys2Proof.Machine.execQReset m q x s
  | .qClose m q x => Sys2Proof.Machine.execQClose m q x s
  | .qOpen m q x => Sys2Proof.Machine.execQOpen m q x s
  | .qClear m q v x => Sys2Proof.Machine.execQClear m q v x s
  | .qpolicyWrite path v => Sys2Proof.Machine.execQpolicyWrite path v s
  | .staleTail q => Sys2Proof.Machine.execStaleTail q s
  | .engDrain path e => Sys2Proof.Machine.execEngDrain path e s
  | .engAbort path e => Sys2Proof.Machine.execEngAbort path e s
  | .engEnable path e => Sys2Proof.Machine.execEngEnable path e s
  | .setAliasWrite m addr data => Sys2Proof.Machine.execSetAliasWrite m addr data s
  | .clearAliasWrite m addr data => Sys2Proof.Machine.execClearAliasWrite m addr data s
  | .windowDescriptorWrite path b w v => Sys2Proof.Machine.execWindowDescriptorWrite path b w v s
  | .windowConsume m b w n => Sys2Proof.Machine.execWindowConsume m b w n s
  | .windowClear m b w v => Sys2Proof.Machine.execWindowClear m b w v s
  | .addressAccess m addr acc ecc trip => Sys2Proof.Machine.execAddressAccess m addr acc ecc trip s
  | .commonsBankGrant b accs => Sys2Proof.Machine.execCommonsBankGrant b accs s
  | .neuronWordWrite m c t idx v => Sys2Proof.Machine.execNeuronWordWrite m c t idx v s
  | .rowTableWrite m addr data => Sys2Proof.Machine.execRowTableWrite m addr data s
  | .dictObjectWrite path index sub data f => Sys2Proof.Machine.execDictObjectWrite path index sub data f s
  | .rcRead path index sub => Sys2Proof.Machine.execRcRead path index sub s
  | .classCommit path k => Sys2Proof.Machine.execClassCommit path k s
  | .routeArm path => Sys2Proof.Machine.execRouteArm path s
  | .routeDisarm path => Sys2Proof.Machine.execRouteDisarm path s
  | .routeSwitch path others => Sys2Proof.Machine.execRouteSwitch path others s
  | .schedArm path => Sys2Proof.Machine.execSchedArm path s
  | .schedDisarm path => Sys2Proof.Machine.execSchedDisarm path s
  | .schedSwitch path => Sys2Proof.Machine.execSchedSwitch path s
  | .schedVersionSwitch => Sys2Proof.Machine.execSchedVersionSwitch s
  | .consolNow path v => Sys2Proof.Machine.execConsolNow path v s
  | .restoreDefaults path v store => Sys2Proof.Machine.execRestoreDefaults path v store s
  | .flogClear path v => Sys2Proof.Machine.execFlogClear path v s
  | .dumpNow path v => Sys2Proof.Machine.execDumpNow path v s
  | .farrierNow path v => Sys2Proof.Machine.execFarrierNow path v s
  | .pwrReqRun path => Sys2Proof.Machine.execPwrReqRun path s
  | .pwrReqIdle path => Sys2Proof.Machine.execPwrReqIdle path s
  | .pwrReqHold path => Sys2Proof.Machine.execPwrReqHold path s
  | .pwrReqWatch path => Sys2Proof.Machine.execPwrReqWatch path s
  | .pwrReqOff path => Sys2Proof.Machine.execPwrReqOff path s
  | .retrainFast path l => Sys2Proof.Machine.execRetrainFast path l s
  | .retrainFull path l => Sys2Proof.Machine.execRetrainFull path l s
  | .retrainRestoreLanes path l => Sys2Proof.Machine.execRetrainRestoreLanes path l s
  | .retrainTakeDown path l => Sys2Proof.Machine.execRetrainTakeDown path l s
  | .retrainBringUp path l => Sys2Proof.Machine.execRetrainBringUp path l s
  | .spurSend path l v => Sys2Proof.Machine.execSpurSend path l v s
  | .acctModeWrite path v => Sys2Proof.Machine.execAcctModeWrite path v s
  | .emcyHistoryClear path v => Sys2Proof.Machine.execEmcyHistoryClear path v s
  | .reinOverrideWrite path p v => Sys2Proof.Machine.execReinOverrideWrite path p v s
  | .timerPerWrite path k v => Sys2Proof.Machine.execTimerPerWrite path k v s
  | .timerCmpWrite path k v => Sys2Proof.Machine.execTimerCmpWrite path k v s
  | .gctrlWrite path k v => Sys2Proof.Machine.execGctrlWrite path k v s
  | .capRead path c => Sys2Proof.Machine.execCapRead path c s
  | .doorbellRead c x => Sys2Proof.Machine.execDoorbellRead c x s
  | .seqException c x => Sys2Proof.Machine.execSeqException c x s
  | .hello x => Sys2Proof.Machine.execHello x s
  | .dictRead x => Sys2Proof.Machine.execDictRead x s
  | .dictWrite x f => Sys2Proof.Machine.execDictWrite x f s
  | .qPush x => Sys2Proof.Machine.execQPush x s
  | .qConsume x => Sys2Proof.Machine.execQConsume x s
  | .memRead x => Sys2Proof.Machine.execMemRead x s
  | .memWrite x data => Sys2Proof.Machine.execMemWrite x data s
  | .memWriteTimeout x data => Sys2Proof.Machine.execMemWriteTimeout x data s
  | .notifySet x => Sys2Proof.Machine.execNotifySet x s
  | .bye x => Sys2Proof.Machine.execBye x s
  | .htpSessionTimeout p => Sys2Proof.Machine.execHtpSessionTimeout p s
  | .usbBusReset detach superSpeed => Sys2Proof.Machine.execUsbBusReset detach superSpeed s
  | .usbResume => Sys2Proof.Machine.execUsbResume s
  | .usbSuspend => Sys2Proof.Machine.execUsbSuspend s
  | .updBegin x members => Sys2Proof.Machine.execUpdBegin x members s
  | .updBlock x => Sys2Proof.Machine.execUpdBlock x s
  | .chainBlockReceive l => Sys2Proof.Machine.execChainBlockReceive l s
  | .updVerify x back members => Sys2Proof.Machine.execUpdVerify x back members s
  | .updActivate x holds t => Sys2Proof.Machine.execUpdActivate x holds t s
  | .handoverTimeout => Sys2Proof.Machine.execHandoverTimeout s
  | .updCommit x => Sys2Proof.Machine.execUpdCommit x s
  | .updRollback x holds t => Sys2Proof.Machine.execUpdRollback x holds t s
  | .updAbort x => Sys2Proof.Machine.execUpdAbort x s
  | .updStatus x => Sys2Proof.Machine.execUpdStatus x s
  | .microcodeSwap us => Sys2Proof.Machine.execMicrocodeSwap us s
  | .probationExpiry => Sys2Proof.Machine.execProbationExpiry s
  | .deferredMicrocodeSwap => Sys2Proof.Machine.execDeferredMicrocodeSwap s
  | .recoveryBoot => Sys2Proof.Machine.execRecoveryBoot s
  | .idGet x => Sys2Proof.Machine.execIdGet x s
  | .attest x => Sys2Proof.Machine.execAttest x s
  | .challenge x => Sys2Proof.Machine.execChallenge x s
  | .takeOwnership x => Sys2Proof.Machine.execTakeOwnership x s
  | .release x => Sys2Proof.Machine.execRelease x s
  | .retire x => Sys2Proof.Machine.execRetire x s
  | .setLock x => Sys2Proof.Machine.execSetLock x s
  | .setTamperEn x => Sys2Proof.Machine.execSetTamperEn x s
  | .provision x => Sys2Proof.Machine.execProvision x s
  | .lifecycleRestart => Sys2Proof.Machine.execLifecycleRestart s
  | .ecallOpenHarness img len => Sys2Proof.Machine.execEcallOpenHarness img len s
  | .ecallAttest src dst => Sys2Proof.Machine.execEcallAttest src dst s
  | .ecallOwnerOp src => Sys2Proof.Machine.execEcallOwnerOp src s
  | .ecallUnsealKey img len handle => Sys2Proof.Machine.execEcallUnsealKey img len handle s
  | .ecallVerifyImage img len => Sys2Proof.Machine.execEcallVerifyImage img len s
  | .ecallChallenge dst => Sys2Proof.Machine.execEcallChallenge dst s
  | .nmtStart node => Sys2Proof.Machine.execNmtStart node s
  | .nmtStop node => Sys2Proof.Machine.execNmtStop node s
  | .nmtEnterPreoperational node => Sys2Proof.Machine.execNmtEnterPreoperational node s
  | .nmtResetNode node => Sys2Proof.Machine.execNmtResetNode node s
  | .nmtResetCommunication node => Sys2Proof.Machine.execNmtResetCommunication node s
  | .sdoDownload frame f => Sys2Proof.Machine.execSdoDownload frame f s
  | .sdoUpload frame => Sys2Proof.Machine.execSdoUpload frame s
  | .sdoSegmentTimeout => Sys2Proof.Machine.execSdoSegmentTimeout s
  | .rpdo1Receive data => Sys2Proof.Machine.execRpdo1Receive data s
  | .rpdo2Receive data => Sys2Proof.Machine.execRpdo2Receive data s
  | .tpdoEventTimer idx => Sys2Proof.Machine.execTpdoEventTimer idx s
  | .heartbeatTimer => Sys2Proof.Machine.execHeartbeatTimer s
  | .busoffRecovery => Sys2Proof.Machine.execBusoffRecovery s
  | .remoteRead => Sys2Proof.Machine.execRemoteRead s
  | .remoteWrite => Sys2Proof.Machine.execRemoteWrite s
  | .remoteTimeout => Sys2Proof.Machine.execRemoteTimeout s
  | .stepRelease => Sys2Proof.Machine.execStepRelease s
  | .stepTimerNominal => Sys2Proof.Machine.execStepTimerNominal s
  | .releaseBroadcastReceive n terms => Sys2Proof.Machine.execReleaseBroadcastReceive n terms s
  | .deliveryBegin c t => Sys2Proof.Machine.execDeliveryBegin c t s
  | .eventExpand c t pick f => Sys2Proof.Machine.execEventExpand c t pick f s
  | .deliveryEnd c t => Sys2Proof.Machine.execDeliveryEnd c t s
  | .updatePhase c t bad => Sys2Proof.Machine.execUpdatePhase c t bad s
  | .destListRead c t axonBad destBad => Sys2Proof.Machine.execDestListRead c t axonBad destBad s
  | .holdbackRelease c t k => Sys2Proof.Machine.execHoldbackRelease c t k s
  | .routerArrival p flaws => Sys2Proof.Machine.execRouterArrival p flaws s
  | .routerDepart c out => Sys2Proof.Machine.execRouterDepart c out s
  | .creditReturn c out => Sys2Proof.Machine.execCreditReturn c out s
  | .multicastRequest c t => Sys2Proof.Machine.execMulticastRequest c t s
  | .multicastExpand c => Sys2Proof.Machine.execMulticastExpand c s
  | .gatewayTransit l => Sys2Proof.Machine.execGatewayTransit l s
  | .sequencerInject c w => Sys2Proof.Machine.execSequencerInject c w s
  | .tileAccept c t pay => Sys2Proof.Machine.execTileAccept c t pay s
  | .serviceEventAccept c t => Sys2Proof.Machine.execServiceEventAccept c t s
  | .spillBufferDrain c => Sys2Proof.Machine.execSpillBufferDrain c s
  | .spillReadback c => Sys2Proof.Machine.execSpillReadback c s
  | .syncReductionRound parity master => Sys2Proof.Machine.execSyncReductionRound parity master s
  | .completeBroadcastReceive n => Sys2Proof.Machine.execCompleteBroadcastReceive n s
  | .streamWindowClose => Sys2Proof.Machine.execStreamWindowClose s
  | .overrun => Sys2Proof.Machine.execOverrun s
  | .carryDrop c t => Sys2Proof.Machine.execCarryDrop c t s
  | .fetchIssue k dirBad => Sys2Proof.Machine.execFetchIssue k dirBad s
  | .fetchLineArrive c bad => Sys2Proof.Machine.execFetchLineArrive c bad s
  | .hintIssue k dirBad => Sys2Proof.Machine.execHintIssue k dirBad s
  | .hintStale k => Sys2Proof.Machine.execHintStale k s
  | .remoteFarArrival l => Sys2Proof.Machine.execRemoteFarArrival l s
  | .remoteHoldbackRelease east => Sys2Proof.Machine.execRemoteHoldbackRelease east s
  | .bulkSlotMove sw out slot bad offer => Sys2Proof.Machine.execBulkSlotMove sw out slot bad offer s
  | .patrolScrub line ecc => Sys2Proof.Machine.execPatrolScrub line ecc s
  | .preReport c bad => Sys2Proof.Machine.execPreReport c bad s
  | .postReport c bad => Sys2Proof.Machine.execPostReport c bad s
  | .traceGroomVisit c bad => Sys2Proof.Machine.execTraceGroomVisit c bad s
  | .epochEnd => Sys2Proof.Machine.execEpochEnd s
  | .capture others => Sys2Proof.Machine.execCapture others s
  | .sweepRow c f => Sys2Proof.Machine.execSweepRow c f s
  | .sweepEnd => Sys2Proof.Machine.execSweepEnd s
  | .journalDrain v => Sys2Proof.Machine.execJournalDrain v s
  | .consolidationBegin bad => Sys2Proof.Machine.execConsolidationBegin bad s
  | .consolidationEnd v => Sys2Proof.Machine.execConsolidationEnd v s
  | .stablePageRemap p v => Sys2Proof.Machine.execStablePageRemap p v s
  | .w8pRecover c => Sys2Proof.Machine.execW8pRecover c s
  | .hitchOpApply h ecc => Sys2Proof.Machine.execHitchOpApply h ecc s
  | .hitchSubscribe h => Sys2Proof.Machine.execHitchSubscribe h s
  | .hitchUpdate h node => Sys2Proof.Machine.execHitchUpdate h node s
  | .syncNodeFail node => Sys2Proof.Machine.execSyncNodeFail node s
  | .csi2PacketReceive p hdr crcOk vc dt payload => Sys2Proof.Machine.execCsi2PacketReceive p hdr crcOk vc dt payload s
  | .ethFrameReceive e fcsOk frame => Sys2Proof.Machine.execEthFrameReceive e fcsOk frame s
  | .intakeInject p => Sys2Proof.Machine.execIntakeInject p s
  | .reinRelease p => Sys2Proof.Machine.execReinRelease p s
  | .pauseRepeat e => Sys2Proof.Machine.execPauseRepeat e s
  | .reinPinFault p => Sys2Proof.Machine.execReinPinFault p s
  | .trainingStateAdvance l signal lanes => Sys2Proof.Machine.execTrainingStateAdvance l signal lanes s
  | .trainingTimeout l => Sys2Proof.Machine.execTrainingTimeout l s
  | .linkRetryTimer l => Sys2Proof.Machine.execLinkRetryTimer l s
  | .flitReceive l lanes adjust codes f => Sys2Proof.Machine.execFlitReceive l lanes adjust codes f s
  | .ackTimer l => Sys2Proof.Machine.execAckTimer l s
  | .nakReceive l => Sys2Proof.Machine.execNakReceive l s
  | .replayTimeout l => Sys2Proof.Machine.execReplayTimeout l s
  | .flitTransmit l => Sys2Proof.Machine.execFlitTransmit l s
  | .stuckLinkReport l pool => Sys2Proof.Machine.execStuckLinkReport l pool s
  | .laneFault l lane lost => Sys2Proof.Machine.execLaneFault l lane lost s
  | .linkLoss l => Sys2Proof.Machine.execLinkLoss l s
  | .linkReconcile l peer => Sys2Proof.Machine.execLinkReconcile l peer s
  | .spanningTreeBuild dist below tables gone comp => Sys2Proof.Machine.execSpanningTreeBuild dist below tables gone comp s
  | .reduceRecordSend => Sys2Proof.Machine.execReduceRecordSend s
  | .broadcastReceive => Sys2Proof.Machine.execBroadcastReceive s
  | .spurDetect spur => Sys2Proof.Machine.execSpurDetect spur s
  | .parkReceive l lanes => Sys2Proof.Machine.execParkReceive l lanes s
  | .parkedLinkWake l ts1 => Sys2Proof.Machine.execParkedLinkWake l ts1 s
  | .parkAllowanceExpiry l => Sys2Proof.Machine.execParkAllowanceExpiry l s
  | .gtMatch k => Sys2Proof.Machine.execGtMatch k s
  | .gtWrap k => Sys2Proof.Machine.execGtWrap k s
  | .encEdge c rising => Sys2Proof.Machine.execEncEdge c rising s
  | .captureShadowLand c => Sys2Proof.Machine.execCaptureShadowLand c s
  | .sleepMakeup => Sys2Proof.Machine.execSleepMakeup s
  | .timerWake k => Sys2Proof.Machine.execTimerWake k s
  | .feedPresent b mv => Sys2Proof.Machine.execFeedPresent b mv s
  | .feedLost b mv => Sys2Proof.Machine.execFeedLost b mv s
  | .feedReversed b => Sys2Proof.Machine.execFeedReversed b s
  | .feedOvervoltage b above mv => Sys2Proof.Machine.execFeedOvervoltage b above mv s
  | .inrushBypass => Sys2Proof.Machine.execInrushBypass s
  | .holdupCheck mj => Sys2Proof.Machine.execHoldupCheck mj s
  | .braceEntry rail mv => Sys2Proof.Machine.execBraceEntry rail mv s
  | .braceExit mv => Sys2Proof.Machine.execBraceExit mv s
  | .lowInputEntry => Sys2Proof.Machine.execLowInputEntry s
  | .lowInputExit mv => Sys2Proof.Machine.execLowInputExit mv s
  | .railReset => Sys2Proof.Machine.execRailReset s
  | .lpregOverload => Sys2Proof.Machine.execLpregOverload s
  | .powerFail blocks recovered => Sys2Proof.Machine.execPowerFail blocks recovered s
  | .governorTick mw temp plate => Sys2Proof.Machine.execGovernorTick mw temp plate s
  | .governorLower => Sys2Proof.Machine.execGovernorLower s
  | .wake w => Sys2Proof.Machine.execWake w s
  | .ddrBackgroundTrainDone r => Sys2Proof.Machine.execDdrBackgroundTrainDone r s
  | .bringupStage r => Sys2Proof.Machine.execBringupStage r s
  | .bringupRetry => Sys2Proof.Machine.execBringupRetry s
  | .coreAlarm c monitor slack => Sys2Proof.Machine.execCoreAlarm c monitor slack s
  | .replanDue temp => Sys2Proof.Machine.execReplanDue temp s
  | .replan r => Sys2Proof.Machine.execReplan r s
  | .stableRefresh v => Sys2Proof.Machine.execStableRefresh v s
  | .tamperDetect sources => Sys2Proof.Machine.execTamperDetect sources s
  | .tamperRecheck sources => Sys2Proof.Machine.execTamperRecheck sources s
  | .tileHang c t waits router => Sys2Proof.Machine.execTileHang c t waits router s
  | .countSettleStart => Sys2Proof.Machine.execCountSettleStart s
  | .settleHoldReply dev quiet => Sys2Proof.Machine.execSettleHoldReply dev quiet s
  | .settle dev step => Sys2Proof.Machine.execSettle dev step s
  | .settleTimeout => Sys2Proof.Machine.execSettleTimeout s
  | .deviceLost dev => Sys2Proof.Machine.execDeviceLost dev s
  | .saddleWatchdog ecc => Sys2Proof.Machine.execSaddleWatchdog ecc s
  | .bridleCheck differs => Sys2Proof.Machine.execBridleCheck differs s
  | .bridleWatchdog => Sys2Proof.Machine.execBridleWatchdog s
  | .resetInput => Sys2Proof.Machine.execResetInput s
  | .resetInputRelease => Sys2Proof.Machine.execResetInputRelease s
  | .thermalShutdown temp => Sys2Proof.Machine.execThermalShutdown temp s
  | .geoChange pins => Sys2Proof.Machine.execGeoChange pins s
  | .vaonLimit ma engaged => Sys2Proof.Machine.execVaonLimit ma engaged s
  | .gtTick k => Sys2Proof.Machine.execGtTick k s
  | .ethLinkUpChange e up => Sys2Proof.Machine.execEthLinkUpChange e up s
  | .vbusArrival => Sys2Proof.Machine.execVbusArrival s
  | .ep0StandardRequest r => Sys2Proof.Machine.execEp0StandardRequest r s
  | .canBusError frame into => Sys2Proof.Machine.execCanBusError frame into s

end Sys2Proof.Machine
end

