-- ==== Sys2Proof/Machine/Idle.lean ====
section
/-!
DEFINITION. What passes when no command waits: one cycle of the 100 MHz reference clock (R20), at the end of which an Ethernet
port whose pause has ended sends what waited (R310).
-/
namespace Sys2Proof.Machine
open Sys2Proof

/-- A cycle of the reference clock: device time moves by 10 ns, and with it the step clock unless sleep has frozen it (R374,
R382). -/
def State.idle (s : State) : State :=
  let s1 : State := if s.timersFrozen then { s with now := s.now + 10 } else { s with now := s.now + 10, clock := s.clock + 10 }
  (s1.releaseTx 4).releaseTx 5

end Sys2Proof.Machine
end

