-- ==== Sys2Proof/Safety.lean ====
section
/-!
DEFINITION. What counts as a safe run: every step answers a next state, and the state keeps its canonical form and the bounds that
the spec gives its tables.
-/
namespace Sys2Proof.Machine
open Sys2Proof

/-- The state is canonical: memory lists no address twice, in order, and no blank byte (R14, R273). -/
def State.canonical (s : State) : Bool := Memory.wf s.mem

/-- The tables that the spec bounds keep their bounds: the fault log 1,024 entries (R460), the combining table 4,096 (R254). -/
def State.bounded (s : State) : Bool := s.flog.length ≤ 1024 && s.comb.length ≤ 4096

/-- What every step keeps. -/
def State.inv (s : State) : Bool := s.canonical && s.bounded

/-- A step that stops neither with a fault nor with a refusal. -/
def steps (s : State) : Bool :=
  match step s with
  | .next _ => true
  | .fault _ => false
  | .refused _ => false

end Sys2Proof.Machine
end

