-- ==== Sys2Proof/Certificates/Slice0/Obligations.lean ====
section
/-!
DEFINITION. The statements about the block: for every command what it does where its conditions hold, what it leaves as it
was, and what every step keeps.
-/
namespace Sys2Proof.Machine
open Sys2Proof

/-! ### What the statements share -/

/-- The common opcode `o` stands ready at the head of queue `q`, and nothing disables the queue or its engine. -/
abbrev State.atHead (s : State) (q : Nat) (o : Opcode) : Prop :=
  s.headIs q o = true ∧ (s.queue q).mismatch = false ∧ (s.queue q).snap = none ∧ (s.engine (s.queue q).eng).st = .enabled

/-- A queue's record with its head taken: RP one further and the stale-tail timer re-armed (R208, R247). -/
def Queue.taken (b : Queue) (now : Nat) : Queue := (b.setRp (b.rpA + 1)).rearm now

/-- A Hitch operation on its way to a home on this device (R263). -/
def State.flightOf (s : State) (h : Nat) (msg : HitchMsg) (node : Nat) (run : Option RunCmd) (q : Nat) : HitchFlight :=
  { hitch := h, msg := msg, link := none, dev := s.reg Reg.DEV_NUM, node := node, run := run, queue := q,
    arrive := cclkOf s.now + (if node = (s.hitch h).homeNode then 4 else 40) }

/-- A step in which nothing but one queue's record changes. -/
abbrev State.sameBut (s t : State) (q : Nat) : Prop := ∀ p, p ≠ q → t.queue p = s.queue p

/-- The Hitch and the VALUE or N that the head of queue `q` names (R262). -/
abbrev State.headHitch (s : State) (q : Nat) : Nat := entryField (s.head q) 8 2
abbrev State.headValue (s : State) (q : Nat) : Nat := entryField (s.head q) 12 4


/-- An HTP request of opcode `op` that the firmware executes in its session `y` (R361, R364, R365, R455). -/
abbrev State.htpReady (s : State) (x : HtpFrame) (op : Nat) (y : Session) : Prop :=
  s.takesHtp x.peer = true ∧ x.bad = false ∧ x.op = op ∧ (s.update.recovery = false ∨ servedInRecovery op = true) ∧
    s.session x.peer = some y ∧ y.replies.length < 16 ∧ y.version = x.version.toNat

/-- The rows that are HTP requests, HELLO and MEM_WRITE apart, with the opcode of each (R363, R436, R447). -/
def htpRow : Instr → Option (HtpFrame × Nat)
  | .dictRead x => some (x, 2) | .dictWrite x _ => some (x, 3) | .qPush x => some (x, 4) | .qConsume x => some (x, 5)
  | .memRead x => some (x, 6) | .notifySet x => some (x, 8) | .bye x => some (x, 9)
  | .updBegin (.htp x) _ => some (x, 0x20) | .updBlock (.htp x) => some (x, 0x21) | .updVerify (.htp x) _ _ => some (x, 0x22)
  | .updActivate x _ _ => some (x, 0x23) | .updCommit x => some (x, 0x24) | .updRollback x _ _ => some (x, 0x25)
  | .updAbort x => some (x, 0x26) | .updStatus x => some (x, 0x27)
  | .idGet x => some (x, 0x30) | .attest x => some (x, 0x31) | .challenge x => some (x, 0x32)
  | _ => none

/-- The rows of OWNER_OP, each with the operation that its payload spells (R435, R436). -/
def ownerRow : Instr → Option (HtpFrame × Nat)
  | .takeOwnership x => some (x, 1) | .release x => some (x, 2) | .retire x => some (x, 3) | .setLock x => some (x, 4)
  | .setTamperEn x => some (x, 5) | .provision x => some (x, 6)
  | _ => none

/-- An NMT frame that the port takes and that this node obeys (R367). -/
abbrev State.obeysNmt (s : State) (node : BitVec 8) : Prop :=
  s.takesCan = true ∧ (node = 0 ∨ node.toNat = (s.bump Reg.CAN_RX).reg Reg.NODE_ID)

/-- The CAN frame that a row is: its identifier, its data, and the world's answers to a write in it; an RPDO only while it is
received (R367, R369). -/
def State.canRow (s : State) : Instr → Option CanFrame
  | .nmtStart n => some (0, [1, n], noFacts) | .nmtStop n => some (0, [2, n], noFacts)
  | .nmtEnterPreoperational n => some (0, [0x80, n], noFacts) | .nmtResetNode n => some (0, [0x81, n], noFacts)
  | .nmtResetCommunication n => some (0, [0x82, n], noFacts)
  | .sdoDownload x f => some (0x600 + s.reg Reg.NODE_ID, x, f) | .sdoUpload x => some (0x600 + s.reg Reg.NODE_ID, x, noFacts)
  | .rpdo1Receive d => if s.reg Reg.NMT_STATE = 5 ∧ !natBit (s.held (Reg.RPDO_COB 0)) 31 then some (s.held (Reg.RPDO_COB 0) % 2048, d, noFacts) else none
  | .rpdo2Receive d => if s.reg Reg.NMT_STATE = 5 ∧ !natBit (s.held (Reg.RPDO_COB 1)) 31 then some (s.held (Reg.RPDO_COB 1) % 2048, d, noFacts) else none
  | _ => none

/-- The node that an NMT command is for (R367). -/
def nmtNode : Instr → Option (BitVec 8)
  | .nmtStart n | .nmtStop n | .nmtEnterPreoperational n | .nmtResetNode n | .nmtResetCommunication n => some n
  | _ => none

/-- A region whose bytes an access reads, and but for LPDDR5X writes, as they stand in memory (R273). -/
def Region.plain : Region → Bool
  | .commons _ _ | .control _ | .tack _ | .stable _ | .ddr _ => true
  | _ => false

/-- A region whose bytes a write stores as they are. -/
def Region.stores : Region → Bool
  | .ddr _ => false
  | r => r.plain

/-- Whether a region is LPDDR5X. -/
def Region.isDdr : Region → Bool
  | .ddr _ => true
  | _ => false

/-- The state `t` after a write of `n` bytes at `a`, the plastic rows noted that it changed (R76, R193). -/
def State.noted (s t : State) (a n : Nat) : State :=
  if t.mem ≠ s.mem then (s.rowsIn a n).foldl (fun x y => x.noteChanged y.1 y.2.1) t else t

/-- Whether an address lies in a table region of a tile window or in a far row directory (R76). -/
def State.tableAt (s : State) (a : Nat) : Bool :=
  match regionOf s.variant a with
  | .tile c t off => s.tilePart c t off == .tables
  | .ddr _ => (s.farDirOwner a).isSome
  | _ => false

/-- A tile is delivering a step (R92). -/
def delivers (x : Tile) : Bool :=
  match x.phase with
  | .deliver _ => true
  | _ => false

/-- The stage of bring-up that a report is of (R410). -/
def reportStage : StageReport → Nat
  | .power _ _ => 0
  | .manage _ _ _ => 1
  | .clocks _ _ => 2
  | .memory _ => 3
  | .links => 4
  | .clusters _ _ _ _ => 5

end Sys2Proof.Machine

open Sys2Proof Sys2Proof.Machine

/-- Where the opcode stands ready at the head of a command queue and its checks hold: NOP takes the head and counts it
  done; HITCH_SIGNAL and HITCH_SET take the head and send their operation to the home; HITCH_WAIT with a COUNT below
  VALUE, or without a copy, and HITCH_BARRIER leave the head stalled as a waiter, subscribing where the node holds no
  copy; HITCH_DUMP writes header, entries and waiters to DST, or only the header with FULL. The equation says that
  nothing else changes. -/
def Obligations.CommonOpcodesAtHead : Prop :=
  (∀ (q : QueueId) (s : State),
      s.atHead q.val .nop → s.badVersion (s.head q.val) = false → cmdCmpl (s.head q.val) = false →
      exec (.nop q) s =
        .next ((s.setQueue q.val ((s.queue q.val).taken s.now)).bump (Reg.CMDS_DONE (s.queue q.val).eng))) ∧
  (∀ (q : QueueId) (s : State),
      s.atHead q.val .hitchSignal → s.hitchCheck (s.head q.val) false = .ok →
      (s.hitch (s.headHitch q.val)).homeLost = false → s.isHome (s.headHitch q.val) = true →
      exec (.hitchSignal q) s =
        .next ({ s.setQueue q.val { (s.queue q.val).taken s.now with outstanding := (s.queue q.val).outstanding + 1 }
          with hitchNet := s.hitchNet ++ [s.flightOf (s.headHitch q.val) (.signal (s.headValue q.val)) (s.entryNode
                 q.val) (some (s.headRun q.val)) q.val] })) ∧
  (∀ (q : QueueId) (s : State),
      s.atHead q.val .hitchSet → s.hitchCheck (s.head q.val) false = .ok →
      (s.hitch (s.headHitch q.val)).homeLost = false → s.isHome (s.headHitch q.val) = true →
      exec (.hitchSet q) s =
        .next ({ s.setQueue q.val { (s.queue q.val).taken s.now with outstanding := (s.queue q.val).outstanding + 1 }
          with hitchNet := s.hitchNet ++ [s.flightOf (s.headHitch q.val) (.set (s.headValue q.val)) (s.entryNode
                 q.val) (some (s.headRun q.val)) q.val] })) ∧
  (∀ (q : QueueId) (s : State),
      s.atHead q.val .hitchWait → s.hitchCheck (s.head q.val) false = .ok →
      (s.hitch (s.headHitch q.val)).homeLost = false → s.waitersOn (s.headHitch q.val) = [] →
      (s.nodeCount (s.headHitch q.val) (s.entryNode q.val)).any (· < (s.headValue q.val)) = true →
      exec (.hitchWait q) s =
        .next (s.setQueue q.val { s.queue q.val with waiter := some { hitch := (s.headHitch q.val), barrier := false,
                                                                        value := (s.headValue q.val), since := s.now }
                                                       })) ∧
  (∀ (q : QueueId) (s : State),
      s.atHead q.val .hitchWait → s.hitchCheck (s.head q.val) false = .ok →
      (s.hitch (s.headHitch q.val)).homeLost = false → s.isHome (s.headHitch q.val) = true →
      s.nodeCount (s.headHitch q.val) (s.entryNode q.val) = none →
      exec (.hitchWait q) s =
        .next ({ s.setQueue q.val { s.queue q.val with waiter := some { hitch := (s.headHitch q.val), barrier :=
                                                                          false, value := (s.headValue q.val), since
                                                                          := s.now } } with hitchNet := s.hitchNet ++
                                                                                              [s.flightOf (s.headHitch
                                                                                              q.val) .subscribe
                                                                                              (s.entryNode q.val) none
                                                                                              0x7FFF] })) ∧
  (∀ (q : QueueId) (s : State),
      s.atHead q.val .hitchBarrier → s.hitchCheck (s.head q.val) true = .ok →
      (s.hitch (s.headHitch q.val)).homeLost = false → s.isHome (s.headHitch q.val) = true →
      (s.nodeCount (s.headHitch q.val) (s.entryNode q.val)).isSome = true →
      exec (.hitchBarrier q) s =
        .next ({ s.setQueue q.val { s.queue q.val with waiter := some { hitch := (s.headHitch q.val), barrier := true,
                                                                          value := (s.headValue q.val), since := s.now
                                                                          } } with hitchNet := s.hitchNet ++
                                                                                     [s.flightOf (s.headHitch q.val)
                                                                                     (.barrier (s.headValue q.val))
                                                                                     (s.entryNode q.val) none q.val]
                                                                                     })) ∧
  (∀ (q : QueueId) (s : State),
      s.atHead q.val .hitchBarrier → s.hitchCheck (s.head q.val) true = .ok →
      (s.hitch (s.headHitch q.val)).homeLost = false → s.isHome (s.headHitch q.val) = true →
      s.nodeCount (s.headHitch q.val) (s.entryNode q.val) = none →
      exec (.hitchBarrier q) s =
        .next ({ s.setQueue q.val { s.queue q.val with waiter := some { hitch := (s.headHitch q.val), barrier := true,
                                                                          value := (s.headValue q.val), since := s.now
                                                                          } } with hitchNet := s.hitchNet ++
                                                                                     [s.flightOf (s.headHitch q.val)
                                                                                     .subscribe (s.entryNode q.val)
                                                                                     none 0x7FFF, s.flightOf
                                                                                     (s.headHitch q.val) (.barrier
                                                                                     (s.headValue q.val)) (s.entryNode
                                                                                     q.val) none q.val] })) ∧
  (∀ (q : QueueId) (s : State),
      s.atHead q.val .hitchDump → s.dumpCheck q.val (s.head q.val) = .ok →
      64 + 32 * 16384 + 32 * s.waiterRecords.length ≤ (s.headValue q.val) →
      exec (.hitchDump q) s =
        .next (((s.bump Reg.DUMPS).setBytes (entryField (s.head q.val) 8 4) (s.dumpHeader s.waiterRecords.length ++
          s.hitchBytes ++ s.waiterRecords.flatten)).completeHead q.val .ok (64 + 32 * 16384 + 32 *
          s.waiterRecords.length))) ∧
  (∀ (q : QueueId) (s : State),
      s.atHead q.val .hitchDump → s.dumpCheck q.val (s.head q.val) = .ok → 64 ≤ (s.headValue q.val) →
      (s.headValue q.val) < 64 + 32 * 16384 + 32 * s.waiterRecords.length →
      exec (.hitchDump q) s =
        .next (((s.bump Reg.DUMPS).setBytes (entryField (s.head q.val) 8 4) (s.dumpHeader
          s.waiterRecords.length)).completeHead q.val .full 64))

/-- COMMAND_START of an idle engine in RUN whose first ready queue in round-robin order is q first finds the given soft
  errors in the control blocks of q and of its completion queue: none, a pointer made equal to its copy, or a binding
  word that closes the queue and is recorded. A queue then left with a pointer mismatch is reset, one closed has
  nothing taken. Otherwise the head is taken: RP advances, the timer is re-armed, one more command is outstanding, and
  q is the last served. A command that passes COMMAND_CHECK runs on the engine, a Dense or Mover command with nothing
  done yet, and the next release is held where the command executes between steps; one that fails completes with the
  failing status, its refused operands counted. An engine that executes a command, has no ready queue, or is not in
  RUN takes nothing. HELD_RECORD_WRITE takes the first held record whose completion queue has room or takes it no
  more, and counts the cycles it was held: it is pushed, and a sequencer that consumes the queue goes on; with a
  pointer mismatch the queue is reset and the record lost; where it is taken no more it is lost. With no such record
  nothing happens. -/
def Obligations.EngineTakesCommandsAndRecords : Prop :=
  (∀ (e : EngineId) (x y : QueueSoft) (q : Nat) (l : List Nat) (s u : State),
      (s.engine (engineNum e)).running = none → s.reg Reg.PWR_STATE = 0 → s.readyQueues (engineNum e) = q :: l →
      (s.queueSoft q x).queueSoft (s.queue q).link y = u → (u.queue q).mismatch = false →
      (u.queue q).qstate ≠ .closed →
      (State.commandCheck ((u.setQueue q ({ (u.queue q).taken u.now with outstanding := (u.queue q).outstanding + 1
                                                                           })).setEngine (engineNum e) { u.engine
        (engineNum e) with lastQueue := q }) (engineNum e) (u.headRun q)).1 = .ok →
      exec (.commandStart e x y) s = .next (
        let c := (State.commandCheck ((u.setQueue q ({ (u.queue q).taken u.now with outstanding := (u.queue
                                                                                      q).outstanding + 1 })).setEngine
          (engineNum e) { u.engine (engineNum e) with lastQueue := q }) (engineNum e) (u.headRun q)).2
        let t := { c with
            dense := if engineNum e = 1 then {} else c.dense, moved := if engineNum e = 2 then {} else c.moved
              }.setEngine
          (engineNum e) { c.engine (engineNum e) with running := some (u.headRun q) }
        if (cmdOpcode (u.head q)).any Opcode.holdsRelease then t.holdRelease (engineNum e) else t)) ∧
  (∀ (e : EngineId) (x y : QueueSoft) (q : Nat) (l : List Nat) (st : Status) (s u : State),
      (s.engine (engineNum e)).running = none → s.reg Reg.PWR_STATE = 0 → s.readyQueues (engineNum e) = q :: l →
      (s.queueSoft q x).queueSoft (s.queue q).link y = u → (u.queue q).mismatch = false →
      (u.queue q).qstate ≠ .closed →
      (State.commandCheck ((u.setQueue q ({ (u.queue q).taken u.now with outstanding := (u.queue q).outstanding + 1
                                                                           })).setEngine (engineNum e) { u.engine
        (engineNum e) with lastQueue := q }) (engineNum e) (u.headRun q)).1 = st →
      st ≠ .ok →
      exec (.commandStart e x y) s =
        .next ((State.commandCheck ((u.setQueue q ({ (u.queue q).taken u.now with outstanding := (u.queue
                                                                                    q).outstanding + 1 })).setEngine
          (engineNum e) { u.engine (engineNum e) with lastQueue := q }) (engineNum e) (u.headRun q)).2.complete
          (engineNum e) (u.headRun q) st 0 0 0)) ∧
  (∀ (e : EngineId) (x y : QueueSoft) (q : Nat) (l : List Nat) (s u : State),
      (s.engine (engineNum e)).running = none → s.reg Reg.PWR_STATE = 0 → s.readyQueues (engineNum e) = q :: l →
      (s.queueSoft q x).queueSoft (s.queue q).link y = u → (u.queue q).mismatch = true →
      exec (.commandStart e x y) s = .next (u.pointerReset q)) ∧
  (∀ (e : EngineId) (x y : QueueSoft) (q : Nat) (l : List Nat) (s u : State),
      (s.engine (engineNum e)).running = none → s.reg Reg.PWR_STATE = 0 → s.readyQueues (engineNum e) = q :: l →
      (s.queueSoft q x).queueSoft (s.queue q).link y = u → (u.queue q).mismatch = false →
      (u.queue q).qstate = .closed →
      exec (.commandStart e x y) s = .next (u)) ∧
  (∀ (q : Nat) (s : State),
      s.queueSoft q .clean = s ∧
          s.queueSoft q .pointers = s.setQueue q { s.queue q with wpB := (s.queue q).wpA } ∧
          s.queueSoft q .binding =
            (s.setQueue q { s.queue q with qstate := .closed, failed := true }).logFault { cls := .queue, status :=
                                                                                             .eccUncorr, ref := q }) ∧
  (∀ (e : EngineId) (x y : QueueSoft) (s : State),
      ((s.engine (engineNum e)).running ≠ none ∨ s.readyQueues (engineNum e) = [] ∨ s.reg Reg.PWR_STATE ≠ 0) →
      exec (.commandStart e x y) s = .next (s)) ∧
  (∀ (e : EngineId) (s : State),
      ((s.engine (engineNum e)).held.find? fun x => s.recordRefused x.run || !(s.queue (s.queue
        x.run.queue).link).isFull) = none →
      exec (.heldRecordWrite e) s = .next (s)) ∧
  (∀ (e : EngineId) (r : HeldRecord) (s : State),
      ((s.engine (engineNum e)).held.find? fun x => s.recordRefused x.run || !(s.queue (s.queue
        x.run.queue).link).isFull) = some r →
      s.recordRefused r.run = false → (s.queue (s.queue r.run.queue).link).mismatch = false →
      exec (.heldRecordWrite e) s = .next (
        (((((s.setEngine (engineNum e) { s.engine (engineNum e) with held := dropFirst r (s.engine (engineNum e)).held
                                                                       }).bumpBy (Reg.CMPL_STALL (engineNum e))
          (fclkOf s.now - fclkOf r.since)).pushEntry (s.queue r.run.queue).link r.bytes).wakeSeq (s.queue (s.queue
          r.run.queue).link).cons).settleQueue
          r.run.queue).settleEngine (engineNum e))) ∧
  (∀ (e : EngineId) (r : HeldRecord) (s : State),
      ((s.engine (engineNum e)).held.find? fun x => s.recordRefused x.run || !(s.queue (s.queue
        x.run.queue).link).isFull) = some r →
      s.recordRefused r.run = false → (s.queue (s.queue r.run.queue).link).mismatch = true →
      exec (.heldRecordWrite e) s = .next (
        (((((s.setEngine (engineNum e) { s.engine (engineNum e) with held := dropFirst r (s.engine (engineNum e)).held
                                                                       }).bumpBy (Reg.CMPL_STALL (engineNum e))
          (fclkOf s.now - fclkOf r.since)).pointerReset (s.queue r.run.queue).link).recordLost (engineNum e)
          r.run).settleQueue
          r.run.queue).settleEngine (engineNum e))) ∧
  (∀ (e : EngineId) (r : HeldRecord) (s : State),
      ((s.engine (engineNum e)).held.find? fun x => s.recordRefused x.run || !(s.queue (s.queue
        x.run.queue).link).isFull) = some r →
      s.recordRefused r.run = true →
      exec (.heldRecordWrite e) s =
        .next (((((s.setEngine (engineNum e) { s.engine (engineNum e) with held := dropFirst r (s.engine (engineNum
                                                                             e)).held }).bumpBy (Reg.CMPL_STALL
          (engineNum e)) (fclkOf s.now - fclkOf r.since)).recordLost (engineNum e) r.run).settleQueue
          r.run.queue).settleEngine (engineNum e)))

/-- With the command running on its engine: STEP frees the engine and joins the running STEPs with its COUNT, 0 without
  limit; it completes REFUSED where some device does not hold the harness, and BAD_FORMAT under Walk with a COUNT
  other than 1. GAIT stages every value it does not keep and completes OK, or BAD_FORMAT where one is out of range.
  LEARN_EPOCH, with no step in flight and no epoch ending, ends the epoch with the newest released step, to be
  broadcast, and waits for its capture. FRC_INVALIDATE, with no step in flight and no tag of its clusters PENDING,
  leaves those clusters without tags, every other cluster's tags as they were, holds the release no longer and
  completes OK. LEARN_EPOCH and FRC_INVALIDATE that may not run yet wait. -/
def Obligations.FabricCommandsStepAndGait : Prop :=
  (∀ (run : RunCmd) (s : State),
      s.runningOp 0 .step = some run → entryField run.cmd 8 4 ≠ 0 →
      ¬ (s.pendingGait = 0 ∧ entryField run.cmd 8 4 ≠ 1) →
      exec (.step true) s =
        .next ((s.setEngine 0 { s.engine 0 with running := none }).modFabric fun x => { x with runs := x.runs ++ [{
                                                                                                 run := run, remaining
                                                                                                   := some (entryField
                                                                                                   run.cmd 8 4), gait
                                                                                                   := s.pendingGait }]
                                                                                                 })) ∧
  (∀ (run : RunCmd) (s : State),
      s.runningOp 0 .step = some run → entryField run.cmd 8 4 = 0 → s.pendingGait ≠ 0 →
      exec (.step true) s =
        .next ((s.setEngine 0 { s.engine 0 with running := none }).modFabric fun x => { x with runs := x.runs ++ [{
                                                                                                 run := run, remaining
                                                                                                   := none, gait :=
                                                                                                   s.pendingGait }] })) ∧
  (∀ (run : RunCmd) (s : State),
      s.runningOp 0 .step = some run →
      exec (.step false) s = .next (s.conclude 0 .refused 0 0 0)) ∧
  (∀ (run : RunCmd) (s : State),
      s.runningOp 0 .step = some run → s.pendingGait = 0 → entryField run.cmd 8 4 ≠ 1 →
      exec (.step true) s = .next (s.conclude 0 .badFormat 0 0 0)) ∧
  (∀ (run : RunCmd) (s : State),
      s.runningOp 0 .gait = some run → (entryField run.cmd 8 1 ≤ 2 ∨ entryField run.cmd 8 1 = 0xFF) →
      (entryField run.cmd 9 1 ≤ 2 ∨ entryField run.cmd 9 1 = 0xFF) →
      (entryField run.cmd 12 4 = 0 ∨ 50000 ≤ entryField run.cmd 12 4 ∧ entryField run.cmd 12 4 ≤ 1000000000) →
      (entryField run.cmd 16 4 ≤ 1000000000 ∨ entryField run.cmd 16 4 = 0xFFFFFFFF) →
      (entryField run.cmd 20 4 ≤ 7 ∨ entryField run.cmd 20 4 = 0xFFFFFFFF) →
      exec (.gait) s = .next (
        (s.modFabric fun x => { x with staged := {
            gait := if entryField run.cmd 8 1 = 0xFF then x.staged.gait else some (entryField run.cmd 8 1),
            policy := if entryField run.cmd 9 1 = 0xFF then x.staged.policy else some (entryField run.cmd 9 1),
            len := if entryField run.cmd 12 4 = 0 then x.staged.len else some (entryField run.cmd 12 4),
            floor := if entryField run.cmd 16 4 = 0xFFFFFFFF then x.staged.floor else some (entryField run.cmd 16 4),
            shed := if entryField run.cmd 20 4 = 0xFFFFFFFF then x.staged.shed else some (entryField run.cmd 20 4) }
              }).conclude 0 .ok 0 0 0)) ∧
  (∀ (run : RunCmd) (s : State),
      s.runningOp 0 .gait = some run →
      ¬ ((entryField run.cmd 8 1 ≤ 2 ∨ entryField run.cmd 8 1 = 0xFF) ∧ (entryField run.cmd 9 1 ≤ 2 ∨ entryField
        run.cmd 9 1 = 0xFF) ∧ (entryField run.cmd 12 4 = 0 ∨ 50000 ≤ entryField run.cmd 12 4 ∧ entryField run.cmd 12 4
        ≤ 1000000000) ∧ (entryField run.cmd 16 4 ≤ 1000000000 ∨ entryField run.cmd 16 4 = 0xFFFFFFFF) ∧ (entryField
        run.cmd 20 4 ≤ 7 ∨ entryField run.cmd 20 4 = 0xFFFFFFFF)) →
      exec (.gait) s = .next (s.conclude 0 .badFormat 0 0 0)) ∧
  (∀ (run : RunCmd) (s : State),
      s.runningOp 0 .learnEpoch = some run → s.noStep = true → s.learning.ending = none →
      exec (.learnEpoch) s = .next (
        { s with
          learning := { s.learning with ending := some (s.reg Reg.STEP_RELEASED, s.now), command := true },
          fabric := { s.fabric with sends := s.fabric.sends ++ [(3, s.reg Reg.STEP_RELEASED)] } })) ∧
  (∀ (run : RunCmd) (s : State),
      s.runningOp 0 .learnEpoch = some run → (s.noStep = false ∨ s.learning.ending ≠ none) →
      exec (.learnEpoch) s = .next (s)) ∧
  (∀ (run : RunCmd) (s : State),
      s.runningOp 6 .frcInvalidate = some run →
      (s.noStep = false ∨ ((List.range 16).any fun c => natBit (entryField run.cmd 8 2) c && (s.store c).tags.any fun
        g => !g.present) = true) →
      exec (.frcInvalidate) s = .next (s)) ∧
  (∀ (run : RunCmd) (s : State),
      s.runningOp 6 .frcInvalidate = some run → s.noStep = true →
      ((List.range 16).any fun c => natBit (entryField run.cmd 8 2) c && (s.store c).tags.any fun g => !g.present) =
        false →
      ∃ t, exec (.frcInvalidate) s = .next t ∧ t = ((s.invalidateFar (entryField run.cmd 8 2)).modFabric fun x => { x
        with hold := x.hold.filter (· ≠ 6) }).conclude 6 .ok 0 0 0 ∧ ∀ c : ClusterId, ((s.invalidateFar (entryField
        run.cmd 8 2)).store c.val).tags = if natBit (entryField run.cmd 8 2) c.val then [] else (s.store c.val).tags)

/-- At a boundary between steps, on device 0 with the command running: CHECKPOINT writes the checkpoint at DST where it
  fits MAXLEN, else a zero header and FULL; RESTORE of a checkpoint that verifies writes it back with its stamps moved
  by the steps since, empties the open epoch and invalidates every far row, and one that does not completes with the
  failing status; LOAD_SEGMENT of a segment with sections places them from the image copy and invalidates every far
  row, and of segment 0 or one without sections completes BAD_FORMAT; each completes with the most severe status of
  any device. Another device, not device 0, with a harness does the same by the entry sent to it and answers with its
  status, or REFUSED with none loaded. Off such a boundary the three wait, as does HARNESS_LOAD during a microcode
  swap. HARNESS_LOAD that passes its preconditions opens the envelope, records its measurement, checks the image at
  IMG, places and starts it, or records the failing check and completes with its status; a failing precondition is
  recorded likewise. HARNESS_UNLOAD is REFUSED without FORCE where the device is busy; otherwise it begins, FORCE
  aborting queues and ending the running STEPs; one begun waits until the device is quiet, then stops sequencers,
  ports and queues, and ends once every command queue is DISABLED, with its Hitches compared. -/
def Obligations.HarnessAndCheckpointCommands : Prop :=
  (∀ (others : Status) (run : RunCmd) (s : State),
      s.runningOp 0 .checkpoint = some run → s.betweenSteps = true →
      s.checkpointBytes.length ≤ 4096 * entryField run.cmd 16 4 →
      exec (.checkpoint (.own others)) s =
        .next ((s.setBytes (entryField run.cmd 8 8) s.checkpointBytes).fabricDone (others.worse .ok) (ceilDiv
          s.checkpointBytes.length 4096) 0)) ∧
  (∀ (others : Status) (run : RunCmd) (s : State),
      s.runningOp 0 .checkpoint = some run → s.betweenSteps = true →
      4096 * entryField run.cmd 16 4 < s.checkpointBytes.length →
      exec (.checkpoint (.own others)) s =
        .next ((s.setBytes (entryField run.cmd 8 8) (List.replicate 128 0)).fabricDone (others.worse .full) 0 0)) ∧
  (∀ (cmd : Entry) (s : State),
      s.reg Reg.DEV_NUM ≠ 0 → s.betweenSteps = true → s.harnessLoaded = true →
      s.checkpointBytes.length ≤ 4096 * entryField cmd 16 4 →
      exec (.checkpoint (.told cmd)) s =
        .next ((s.setBytes (entryField cmd 8 8) s.checkpointBytes).emit (.ctrl 0 "PERFORMED" Status.ok.code))) ∧
  (∀ (cmd : Entry) (s : State),
      s.reg Reg.DEV_NUM ≠ 0 → s.betweenSteps = true → s.harnessLoaded = true →
      4096 * entryField cmd 16 4 < s.checkpointBytes.length →
      exec (.checkpoint (.told cmd)) s =
        .next ((s.setBytes (entryField cmd 8 8) (List.replicate 128 0)).emit (.ctrl 0 "PERFORMED" Status.full.code))) ∧
  (∀ (others : Status) (run : RunCmd) (s : State),
      s.runningOp 0 .restore = some run → s.betweenSteps = true → s.checkpointFails (entryField run.cmd 8 8) = none →
      exec (.restore (.own others)) s = .next (
        (((s.restoreAll (entryField run.cmd 8 8) (s.reg Reg.STEP_COMPLETE - s.word (entryField run.cmd 8 8 + 8)
          8)).modLearning fun l =>
            { l with engines := l.engines.map fun x => (x.1, x.2.emptied) }).invalidateFar 0xFFFF).fabricDone
              (others.worse .ok) (s.word (entryField run.cmd 8 8 + 8) 8 % 2 ^ 32) 0)) ∧
  (∀ (others : Status) (st : Status) (run : RunCmd) (s : State),
      s.runningOp 0 .restore = some run → s.betweenSteps = true →
      s.checkpointFails (entryField run.cmd 8 8) = some st →
      exec (.restore (.own others)) s = .next (s.fabricDone (others.worse st) 0 0)) ∧
  (∀ (cmd : Entry) (s : State),
      s.reg Reg.DEV_NUM ≠ 0 → s.betweenSteps = true → s.harnessLoaded = true →
      s.checkpointFails (entryField cmd 8 8) = none →
      exec (.restore (.told cmd)) s = .next (
        (((s.restoreAll (entryField cmd 8 8) (s.reg Reg.STEP_COMPLETE - s.word (entryField cmd 8 8 + 8)
          8)).modLearning fun l =>
            { l with engines := l.engines.map fun x => (x.1, x.2.emptied) }).invalidateFar 0xFFFF).emit (.ctrl 0
              "PERFORMED" Status.ok.code))) ∧
  (∀ (cmd : Entry) (st : Status) (s : State),
      s.reg Reg.DEV_NUM ≠ 0 → s.betweenSteps = true → s.harnessLoaded = true →
      s.checkpointFails (entryField cmd 8 8) = some st →
      exec (.restore (.told cmd)) s = .next (s.emit (.ctrl 0 "PERFORMED" st.code))) ∧
  (∀ (others : Status) (run : RunCmd) (s : State),
      s.runningOp 0 .loadSegment = some run → s.betweenSteps = true → entryField run.cmd 8 1 ≠ 0 →
      s.copySections (entryField run.cmd 8 1) ≠ [] →
      exec (.loadSegment (.own others)) s =
        .next ((((s.placeSections s.harness.img (s.reg Reg.STEP_COMPLETE) (s.copySections (entryField run.cmd 8
          1))).setReg Reg.SEGMENT (entryField run.cmd 8 1)).invalidateFar 0xFFFF).fabricDone (others.worse .ok)
          (ceilDiv ((s.copySections (entryField run.cmd 8 1)).foldl (fun a x => a + placedBytes x) 0) 4096) 0)) ∧
  (∀ (others : Status) (run : RunCmd) (s : State),
      s.runningOp 0 .loadSegment = some run → s.betweenSteps = true →
      (entryField run.cmd 8 1 = 0 ∨ s.copySections (entryField run.cmd 8 1) = []) →
      exec (.loadSegment (.own others)) s = .next (s.fabricDone (others.worse .badFormat) 0 0)) ∧
  (∀ (cmd : Entry) (s : State),
      s.reg Reg.DEV_NUM ≠ 0 → s.betweenSteps = true → s.harnessLoaded = true → entryField cmd 8 1 ≠ 0 →
      s.copySections (entryField cmd 8 1) ≠ [] →
      exec (.loadSegment (.told cmd)) s =
        .next ((((s.placeSections s.harness.img (s.reg Reg.STEP_COMPLETE) (s.copySections (entryField cmd 8
          1))).setReg Reg.SEGMENT (entryField cmd 8 1)).invalidateFar 0xFFFF).emit (.ctrl 0 "PERFORMED"
          Status.ok.code))) ∧
  (∀ (cmd : Entry) (s : State),
      s.reg Reg.DEV_NUM ≠ 0 → s.betweenSteps = true → s.harnessLoaded = true →
      (entryField cmd 8 1 = 0 ∨ s.copySections (entryField cmd 8 1) = []) →
      exec (.loadSegment (.told cmd)) s = .next (s.emit (.ctrl 0 "PERFORMED" Status.badFormat.code))) ∧
  (∀ (cmd : Entry) (s : State),
      s.reg Reg.DEV_NUM ≠ 0 → s.betweenSteps = true → s.harnessLoaded = false →
      exec (.checkpoint (.told cmd)) s = .next (s.emit (.ctrl 0 "PERFORMED" Status.refused.code))) ∧
  (∀ (cmd : Entry) (s : State),
      s.reg Reg.DEV_NUM ≠ 0 → s.betweenSteps = true → s.harnessLoaded = false →
      exec (.restore (.told cmd)) s = .next (s.emit (.ctrl 0 "PERFORMED" Status.refused.code))) ∧
  (∀ (cmd : Entry) (s : State),
      s.reg Reg.DEV_NUM ≠ 0 → s.betweenSteps = true → s.harnessLoaded = false →
      exec (.loadSegment (.told cmd)) s = .next (s.emit (.ctrl 0 "PERFORMED" Status.refused.code))) ∧
  (∀ (others : Status) (run : RunCmd) (s : State),
      s.runningOp 0 .checkpoint = some run → s.betweenSteps = false →
      exec (.checkpoint (.own others)) s = .next (s)) ∧
  (∀ (others : Status) (run : RunCmd) (s : State),
      s.runningOp 0 .restore = some run → s.betweenSteps = false →
      exec (.restore (.own others)) s = .next (s)) ∧
  (∀ (others : Status) (run : RunCmd) (s : State),
      s.runningOp 0 .loadSegment = some run → s.betweenSteps = false →
      exec (.loadSegment (.own others)) s = .next (s)) ∧
  (∀ (cmd : Entry) (s : State),
      (s.reg Reg.DEV_NUM = 0 ∨ s.betweenSteps = false) →
      exec (.checkpoint (.told cmd)) s = .next (s)) ∧
  (∀ (cmd : Entry) (s : State),
      (s.reg Reg.DEV_NUM = 0 ∨ s.betweenSteps = false) →
      exec (.restore (.told cmd)) s = .next (s)) ∧
  (∀ (cmd : Entry) (s : State),
      (s.reg Reg.DEV_NUM = 0 ∨ s.betweenSteps = false) →
      exec (.loadSegment (.told cmd)) s = .next (s)) ∧
  (∀ (run : RunCmd) (s : State),
      s.runningOp 0 .harnessLoad = some run → s.loadBar = none → s.update.swapFrom ≠ none →
      exec (.harnessLoad) s = .next (s)) ∧
  (∀ (st : Status) (run : RunCmd) (s : State),
      s.runningOp 0 .harnessLoad = some run → s.loadBar = some st →
      exec (.harnessLoad) s = .next (
        ((s.loadFailed { status := st, rule := 233, at' := { check := 1 } }).setReg Reg.LOAD_MS ((s.now - run.started)
          /
          1000000)).conclude 0 st 0 ((s.now - run.started) / 1000000) 0)) ∧
  (∀ (run : RunCmd) (s : State),
      s.runningOp 0 .harnessLoad = some run → s.loadBar = none → s.update.swapFrom = none →
      exec (.harnessLoad) s = .next (
        let o := s.openEnvelope (entryField run.cmd 8 8) (4096 * entryField run.cmd 16 4) s.harnessMode
        let u := o.2.setReg Reg.HARNESS_MEAS o.1.meas
        let ms := (s.now - run.started) / 1000000
        if o.1.status ≠ .ok then
          ((o.2.loadFailed { status := o.1.status, rule := 433, at' := { check := o.1.check, ref := o.1.chunk }
                               }).setReg
            Reg.LOAD_MS ms).conclude 0 o.1.status 0 ms 0
        else match u.checkImage (entryField run.cmd 8 8) (u.readImage (entryField run.cmd 8 8)) with
          | .inl x => ((u.loadFailed x).setReg Reg.LOAD_MS ms).conclude 0 x.status 0 ms 0
          | .inr t =>
            let t1 := t.startHarness o.1.meas (natBit (entryField run.cmd 20 1) 0)
            let st : Status := if t1.fencedUsed then .degraded else .ok
            ((t1.setReg Reg.LOAD_STATUS st.code).setReg Reg.LOAD_MS ms).conclude 0 st 0 ms 0)) ∧
  (∀ (run : RunCmd) (s : State),
      s.runningOp 0 .harnessUnload = some run → s.harness.unloading = false →
      (s.fabric.runs ≠ [] ∨ s.noStep = false ∨ s.learning.ending ≠ none ∨ s.fabric.hold ≠ []) →
      natBit (entryField run.cmd 8 1) 0 = false →
      exec (.harnessUnload) s = .next (s.conclude 0 .refused 0 0 0)) ∧
  (∀ (run : RunCmd) (s : State),
      s.runningOp 0 .harnessUnload = some run → s.harness.unloading = false → s.fabric.runs = [] → s.noStep = true →
      s.learning.ending = none → s.fabric.hold = [] → natBit (entryField run.cmd 8 1) 0 = false →
      exec (.harnessUnload) s =
        .next ({ s.setReg Reg.HARNESS_STATE 3 with harness := { s.harness with unloading := true } })) ∧
  (∀ (run : RunCmd) (s : State),
      s.runningOp 0 .harnessUnload = some run → s.harness.unloading = false →
      natBit (entryField run.cmd 8 1) 0 = true →
      exec (.harnessUnload) s =
        .next (({ s.setReg Reg.HARNESS_STATE 3 with harness := { s.harness with unloading := true } } :
          State).abortHarness.endRuns)) ∧
  (∀ (run : RunCmd) (s : State),
      s.runningOp 0 .harnessUnload = some run → s.harness.unloading = true → s.unloadQuiet = false →
      exec (.harnessUnload) s = .next (s)) ∧
  (∀ (run : RunCmd) (s : State),
      s.runningOp 0 .harnessUnload = some run → s.harness.unloading = true → s.unloadQuiet = true →
      (s.unloadStop.harnessQueues.all fun q => q.2.kind != .command || q.2.qstate == .disabled) = false →
      exec (.harnessUnload) s = .next (s.unloadStop)) ∧
  (∀ (run : RunCmd) (s : State),
      s.runningOp 0 .harnessUnload = some run → s.harness.unloading = true → s.unloadQuiet = true →
      (s.unloadStop.harnessQueues.all fun q => q.2.kind != .command || q.2.qstate == .disabled) = true →
      exec (.harnessUnload) s = .next (
        let s1 := (s.unloadStop.harnessQueues.map (·.1)).foldl State.unbindQueue s.unloadStop
        (s1.noteDirty s1.dirtyHitches).dropHarness.conclude 0 .ok 0 (dirtyResult s1.dirtyHitches.length) 0))

/-- Each command takes the running GEMM or CONV one 64 x 64 block on. With OUT 0, 1 or 2, where no ABORT has taken it
  behind a block, the elements of its next block are stored in order; behind the last block, or where an ABORT has
  taken it, it completes with the number of blocks, else it goes on. With OUT 3, with a stream window open and, before
  the first block, a map that keeps R123, the events of the block are computed and injected as far as their centre
  ports have room; events that wait are injected by the next command; the pass ends where its last block is done or an
  ABORT has taken it, and none waits. Without an open window nothing happens. A map that fails completes BAD_FORMAT
  before the first block; a pass that an ABORT has taken behind a block, with no event waiting, completes with its
  blocks or events so far; an extent of 0, or more than 65,535 filter places, completes BAD_FORMAT. -/
def Obligations.DenseCommands : Prop :=
  (∀ (run : RunCmd) (s : State),
      s.runningOp 1 .gemm = some run → (s.gemmPass run.cmd).m ≠ 0 → (s.gemmPass run.cmd).n ≠ 0 →
      (s.gemmPass run.cmd).k ≠ 0 → (s.gemmPass run.cmd).out ≠ 3 → s.dense.waiting = [] →
      ¬ (s.aborting 1 = true ∧ s.dense.blocks ≠ 0) →
      exec (.denseGemm) s = .next (
        let t := s.runBlock (s.gemmPass run.cmd)
        if (s.gemmPass run.cmd).blocks.length ≤ t.dense.blocks ∨ t.aborting 1 then
          t.conclude 1 (if t.dense.bad then .badFormat else .ok) 0 t.dense.blocks 0
        else t)) ∧
  (∀ (run : RunCmd) (s : State),
      s.runningOp 1 .gemm = some run → (s.gemmPass run.cmd).m ≠ 0 → (s.gemmPass run.cmd).n ≠ 0 →
      (s.gemmPass run.cmd).k ≠ 0 → (s.gemmPass run.cmd).out = 3 →
      (s.dense.blocks ≠ 0 ∨ s.mapOk (s.gemmPass run.cmd) = true) → s.streamOpen = true → s.dense.waiting = [] →
      ¬ (s.aborting 1 = true ∧ s.dense.blocks ≠ 0) →
      exec (.denseGemm) s = .next (
        let t := s.runBlock (s.gemmPass run.cmd)
        (t.injectDense t.dense.waiting).settlePass (s.gemmPass run.cmd))) ∧
  (∀ (run : RunCmd) (s : State),
      s.runningOp 1 .gemm = some run → (s.gemmPass run.cmd).m ≠ 0 → (s.gemmPass run.cmd).n ≠ 0 →
      (s.gemmPass run.cmd).k ≠ 0 → (s.gemmPass run.cmd).out = 3 →
      (s.dense.blocks ≠ 0 ∨ s.mapOk (s.gemmPass run.cmd) = true) → s.streamOpen = true → s.dense.waiting ≠ [] →
      exec (.denseGemm) s = .next ((s.injectDense s.dense.waiting).settlePass (s.gemmPass run.cmd))) ∧
  (∀ (run : RunCmd) (s : State),
      s.runningOp 1 .gemm = some run → (s.gemmPass run.cmd).m ≠ 0 → (s.gemmPass run.cmd).n ≠ 0 →
      (s.gemmPass run.cmd).k ≠ 0 → (s.gemmPass run.cmd).out = 3 →
      (s.dense.blocks ≠ 0 ∨ s.mapOk (s.gemmPass run.cmd) = true) → s.streamOpen = false →
      ¬ (s.dense.waiting = [] ∧ s.aborting 1 = true) →
      exec (.denseGemm) s = .next (s)) ∧
  (∀ (run : RunCmd) (s : State),
      s.runningOp 1 .gemm = some run → (s.gemmPass run.cmd).m ≠ 0 → (s.gemmPass run.cmd).n ≠ 0 →
      (s.gemmPass run.cmd).k ≠ 0 → (s.gemmPass run.cmd).out = 3 → s.dense.blocks = 0 →
      s.mapOk (s.gemmPass run.cmd) = false →
      exec (.denseGemm) s = .next (s.conclude 1 .badFormat 0 0 0)) ∧
  (∀ (run : RunCmd) (s : State),
      s.runningOp 1 .gemm = some run → (s.gemmPass run.cmd).m ≠ 0 → (s.gemmPass run.cmd).n ≠ 0 →
      (s.gemmPass run.cmd).k ≠ 0 → s.dense.waiting = [] → s.aborting 1 = true → s.dense.blocks ≠ 0 →
      exec (.denseGemm) s =
        .next (s.conclude 1 (if s.dense.bad then .badFormat else .ok) 0 (if (s.gemmPass run.cmd).out = 3 then
          s.dense.sent else s.dense.blocks) 0)) ∧
  (∀ (run : RunCmd) (s : State),
      s.runningOp 1 .gemm = some run →
      ((s.gemmPass run.cmd).m = 0 ∨ (s.gemmPass run.cmd).n = 0 ∨ (s.gemmPass run.cmd).k = 0) →
      exec (.denseGemm) s = .next (s.conclude 1 .badFormat 0 0 0)) ∧
  (∀ (run : RunCmd) (s : State),
      s.runningOp 1 .conv = some run →
      (let x := (convShape run.cmd); x.h ≠ 0 ∧ x.w ≠ 0 ∧ x.cin ≠ 0 ∧ x.cout ≠ 0 ∧ x.kh ≠ 0 ∧ x.kw ≠ 0 ∧ x.ho ≠ 0 ∧
        x.wo ≠ 0 ∧ x.kh * x.kw * x.cin ≤ 65535) →
      (s.convPass run.cmd).out ≠ 3 → s.dense.waiting = [] → ¬ (s.aborting 1 = true ∧ s.dense.blocks ≠ 0) →
      exec (.denseConv) s = .next (
        let t := s.runBlock (s.convPass run.cmd)
        if (s.convPass run.cmd).blocks.length ≤ t.dense.blocks ∨ t.aborting 1 then
          t.conclude 1 (if t.dense.bad then .badFormat else .ok) 0 t.dense.blocks 0
        else t)) ∧
  (∀ (run : RunCmd) (s : State),
      s.runningOp 1 .conv = some run →
      (let x := (convShape run.cmd); x.h ≠ 0 ∧ x.w ≠ 0 ∧ x.cin ≠ 0 ∧ x.cout ≠ 0 ∧ x.kh ≠ 0 ∧ x.kw ≠ 0 ∧ x.ho ≠ 0 ∧
        x.wo ≠ 0 ∧ x.kh * x.kw * x.cin ≤ 65535) →
      (s.convPass run.cmd).out = 3 → (s.dense.blocks ≠ 0 ∨ s.mapOk (s.convPass run.cmd) = true) →
      s.streamOpen = true → s.dense.waiting = [] → ¬ (s.aborting 1 = true ∧ s.dense.blocks ≠ 0) →
      exec (.denseConv) s = .next (
        let t := s.runBlock (s.convPass run.cmd)
        (t.injectDense t.dense.waiting).settlePass (s.convPass run.cmd))) ∧
  (∀ (run : RunCmd) (s : State),
      s.runningOp 1 .conv = some run →
      (let x := (convShape run.cmd); x.h ≠ 0 ∧ x.w ≠ 0 ∧ x.cin ≠ 0 ∧ x.cout ≠ 0 ∧ x.kh ≠ 0 ∧ x.kw ≠ 0 ∧ x.ho ≠ 0 ∧
        x.wo ≠ 0 ∧ x.kh * x.kw * x.cin ≤ 65535) →
      (s.convPass run.cmd).out = 3 → (s.dense.blocks ≠ 0 ∨ s.mapOk (s.convPass run.cmd) = true) →
      s.streamOpen = true → s.dense.waiting ≠ [] →
      exec (.denseConv) s = .next ((s.injectDense s.dense.waiting).settlePass (s.convPass run.cmd))) ∧
  (∀ (run : RunCmd) (s : State),
      s.runningOp 1 .conv = some run →
      (let x := (convShape run.cmd); x.h ≠ 0 ∧ x.w ≠ 0 ∧ x.cin ≠ 0 ∧ x.cout ≠ 0 ∧ x.kh ≠ 0 ∧ x.kw ≠ 0 ∧ x.ho ≠ 0 ∧
        x.wo ≠ 0 ∧ x.kh * x.kw * x.cin ≤ 65535) →
      (s.convPass run.cmd).out = 3 → (s.dense.blocks ≠ 0 ∨ s.mapOk (s.convPass run.cmd) = true) →
      s.streamOpen = false → ¬ (s.dense.waiting = [] ∧ s.aborting 1 = true) →
      exec (.denseConv) s = .next (s)) ∧
  (∀ (run : RunCmd) (s : State),
      s.runningOp 1 .conv = some run →
      (let x := (convShape run.cmd); x.h ≠ 0 ∧ x.w ≠ 0 ∧ x.cin ≠ 0 ∧ x.cout ≠ 0 ∧ x.kh ≠ 0 ∧ x.kw ≠ 0 ∧ x.ho ≠ 0 ∧
        x.wo ≠ 0 ∧ x.kh * x.kw * x.cin ≤ 65535) →
      (s.convPass run.cmd).out = 3 → s.dense.blocks = 0 → s.mapOk (s.convPass run.cmd) = false →
      exec (.denseConv) s = .next (s.conclude 1 .badFormat 0 0 0)) ∧
  (∀ (run : RunCmd) (s : State),
      s.runningOp 1 .conv = some run →
      (let x := (convShape run.cmd); x.h ≠ 0 ∧ x.w ≠ 0 ∧ x.cin ≠ 0 ∧ x.cout ≠ 0 ∧ x.kh ≠ 0 ∧ x.kw ≠ 0 ∧ x.ho ≠ 0 ∧
        x.wo ≠ 0 ∧ x.kh * x.kw * x.cin ≤ 65535) →
      s.dense.waiting = [] → s.aborting 1 = true → s.dense.blocks ≠ 0 →
      exec (.denseConv) s =
        .next (s.conclude 1 (if s.dense.bad then .badFormat else .ok) 0 (if (s.convPass run.cmd).out = 3 then
          s.dense.sent else s.dense.blocks) 0)) ∧
  (∀ (run : RunCmd) (s : State),
      s.runningOp 1 .conv = some run →
      (let x := (convShape run.cmd); x.h = 0 ∨ x.w = 0 ∨ x.cin = 0 ∨ x.cout = 0 ∨ x.kh = 0 ∨ x.kw = 0 ∨ x.ho = 0 ∨
        x.wo = 0 ∨ 65535 < x.kh * x.kw * x.cin) →
      exec (.denseConv) s = .next (s.conclude 1 .badFormat 0 0 0))

/-- MOVE and FILL go on from the bytes done so far, in pieces cut at 64-byte lines, up to the next 4 KiB of destination: a
  MOVE reads and writes, a FILL writes its pattern. A refused line, the last byte or an ABORT ends the command with
  its status and the bytes written; otherwise it goes on from there. A MOVE that begins with overlapping ranges
  completes BAD_FORMAT, and either without a path of slots REFUSED; one that an ABORT has taken behind its first 4 KiB
  completes at once. GROUP_DEF whose checks hold defines the group as its operands say, recording from the next
  release, and otherwise completes BAD_FORMAT; GROUP_CLEAR leaves no such group; TILESTAT stores its record of 16 +
  8,192 bytes at DST, counts it and completes with RESULT 8,208. -/
def Obligations.MoverAndCensusCommands : Prop :=
  (∀ (bad : List Nat) (run : RunCmd) (s : State),
      s.runningOp 2 .move = some run →
      (s.moved.bytes ≠ 0 ∨ (¬ (entryField run.cmd 8 8 < entryField run.cmd 16 8 + entryField run.cmd 24 4 ∧ entryField
        run.cmd 16 8 < entryField run.cmd 8 8 + entryField run.cmd 24 4) ∧ s.moverPath (entryField run.cmd 28 1)
        (entryField run.cmd 8 8) (entryField run.cmd 16 8) = true)) →
      (s.moved.bytes = 0 ∨ s.aborting 2 = false) →
      exec (.move bad) s = .next (
        let r := s.movePieces (engineMaster 2 run.queue) (entryField run.cmd 8 8) (entryField run.cmd 16 8) bad
          s.moved (lineCuts (entryField run.cmd 16 8)
          (moverStop (entryField run.cmd 16 8) s.moved.bytes (entryField run.cmd 24 4)) (moverStop (entryField run.cmd
            16 8) s.moved.bytes (entryField run.cmd 24 4) / 8) s.moved.bytes)
        if r.1.refused ∨ r.1.bytes = entryField run.cmd 24 4 ∨ r.2.aborting 2 then r.2.conclude 2 r.1.status 0
          r.1.bytes 0
        else { r.2 with moved := r.1 })) ∧
  (∀ (bad : List Nat) (run : RunCmd) (s : State),
      s.runningOp 2 .move = some run → s.moved.bytes = 0 →
      entryField run.cmd 8 8 < entryField run.cmd 16 8 + entryField run.cmd 24 4 →
      entryField run.cmd 16 8 < entryField run.cmd 8 8 + entryField run.cmd 24 4 →
      exec (.move bad) s = .next (s.conclude 2 .badFormat 0 0 0)) ∧
  (∀ (bad : List Nat) (run : RunCmd) (s : State),
      s.runningOp 2 .move = some run → s.moved.bytes = 0 →
      ¬ (entryField run.cmd 8 8 < entryField run.cmd 16 8 + entryField run.cmd 24 4 ∧ entryField run.cmd 16 8 <
        entryField run.cmd 8 8 + entryField run.cmd 24 4) →
      s.moverPath (entryField run.cmd 28 1) (entryField run.cmd 8 8) (entryField run.cmd 16 8) = false →
      exec (.move bad) s = .next (s.conclude 2 .refused 0 0 0)) ∧
  (∀ (bad : List Nat) (run : RunCmd) (s : State),
      s.runningOp 2 .move = some run → s.moved.bytes ≠ 0 → s.aborting 2 = true →
      exec (.move bad) s = .next (s.conclude 2 s.moved.status 0 s.moved.bytes 0)) ∧
  (∀ (run : RunCmd) (s : State),
      s.runningOp 2 .fill = some run →
      (s.moved.bytes ≠ 0 ∨ s.fillPath (entryField run.cmd 20 1) (entryField run.cmd 8 8) = true) →
      (s.moved.bytes = 0 ∨ s.aborting 2 = false) →
      exec (.fill) s = .next (
        let r := s.fillPieces (engineMaster 2 run.queue) (entryField run.cmd 8 8) (entryField run.cmd 24 8) s.moved
          (lineCuts (entryField run.cmd 8 8)
          (moverStop (entryField run.cmd 8 8) s.moved.bytes (entryField run.cmd 16 4)) (moverStop (entryField run.cmd
            8 8) s.moved.bytes (entryField run.cmd 16 4) / 8) s.moved.bytes)
        if r.1.refused ∨ r.1.bytes = entryField run.cmd 16 4 ∨ r.2.aborting 2 then r.2.conclude 2 r.1.status 0
          r.1.bytes 0
        else { r.2 with moved := r.1 })) ∧
  (∀ (run : RunCmd) (s : State),
      s.runningOp 2 .fill = some run → s.moved.bytes = 0 →
      s.fillPath (entryField run.cmd 20 1) (entryField run.cmd 8 8) = false →
      exec (.fill) s = .next (s.conclude 2 .refused 0 0 0)) ∧
  (∀ (run : RunCmd) (s : State),
      s.runningOp 2 .fill = some run → s.moved.bytes ≠ 0 → s.aborting 2 = true →
      exec (.fill) s = .next (s.conclude 2 s.moved.status 0 s.moved.bytes 0)) ∧
  (∀ (run : RunCmd) (s : State),
      s.runningOp 4 .groupDef = some run → s.groupDefOk run.cmd = true →
      exec (.groupDef) s = .next (
        let x : CensusGroup := {
          rtype := entryField run.cmd 9 1, clu := entryField run.cmd 10 1, tile := entryField run.cmd 11 1,
          nfirst := entryField run.cmd 12 2, ncount := entryField run.cmd 14 2, win := entryField run.cmd 16 4,
          rqueue := entryField run.cmd 20 2, period := entryField run.cmd 22 2, queue := run.queue,
          fromStep := s.reg Reg.STEP_RELEASED + 1 }
        { s with census := Assoc.set (entryField run.cmd 8 1) x s.census }.conclude 4 .ok 0 0 0)) ∧
  (∀ (run : RunCmd) (s : State),
      s.runningOp 4 .groupDef = some run → s.groupDefOk run.cmd = false →
      exec (.groupDef) s = .next (s.conclude 4 .badFormat 0 0 0)) ∧
  (∀ (run : RunCmd) (s : State),
      s.runningOp 4 .groupClear = some run →
      exec (.groupClear) s =
        .next ({ s with census := Assoc.erase (entryField run.cmd 8 1) s.census }.conclude 4 .ok 0 0 0)) ∧
  (∀ (run : RunCmd) (s : State),
      s.runningOp 4 .tilestat = some run →
      exec (.tilestat) s = .next (
        ((s.setBytes (entryField run.cmd 8 4) (leBytes 16 (packFields [(0, 16, 0xFFFF), (16, 8, 3), (24, 8,
          s.fabric.lastStatus.code),
            (32, 64, s.reg Reg.STEP_COMPLETE), (96, 32, 8192)]) ++ s.tilestatPayload)).bump
              Reg.CENSUS_RECORDS).conclude 4 .ok 0 8208 0))

/-- MAP_LOAD of a valid map into a disarmed port keeps it as decode map, intake map or preprocessing graph; one that fails
  completes BAD_FORMAT, recorded unless it is a graph or a flow table of no kind; a port that is not disarmed refuses
  it. ARM of a port with its maps, a skid buffer larger than STOP_BYTES and a loaded harness discards what the buffer
  holds, clears the anchors and the sequence table and sets ARMED; without buffer, maps or harness it is REFUSED, and
  with a buffer not larger than STOP_BYTES BAD_FORMAT. DISARM with MODE 1 or an empty buffer disarms at once;
  otherwise an ARMED port stops accepting and the command waits, and it goes on waiting until the buffer is empty. -/
def Obligations.IntakeCommands : Prop :=
  (∀ (run : RunCmd) (s : State),
      s.runningOp 3 .mapLoad = some run → s.reg (Reg.PORT_STATE (entryField run.cmd 8 1)) = 0 →
      s.mapBad (entryField run.cmd 8 1) (entryField run.cmd 9 1) (s.bytes (entryField run.cmd 12 4) (entryField
        run.cmd 16 4)) = none →
      exec (.mapLoad) s = .next (
        let m := s.bytes (entryField run.cmd 12 4) (entryField run.cmd 16 4)
        (s.setPort (entryField run.cmd 8 1) (if entryField run.cmd 9 1 = 0 then { s.port (entryField run.cmd 8 1) with
          decodeMap := some m }
          else if entryField run.cmd 9 1 = 1 then { s.port (entryField run.cmd 8 1) with intakeMap := some m }
          else { s.port (entryField run.cmd 8 1) with graph := some m })).conclude 3 .ok 0 0 0)) ∧
  (∀ (k : Nat) (run : RunCmd) (s : State),
      s.runningOp 3 .mapLoad = some run → s.reg (Reg.PORT_STATE (entryField run.cmd 8 1)) = 0 →
      s.mapBad (entryField run.cmd 8 1) (entryField run.cmd 9 1) (s.bytes (entryField run.cmd 12 4) (entryField
        run.cmd 16 4)) = some k →
      (entryField run.cmd 9 1 = 1 ∨ entryField run.cmd 9 1 = 0 ∧ entryField run.cmd 8 1 < 4) →
      exec (.mapLoad) s =
        .next ((s.logFault { cls := .configReject, status := .badFormat, source := some 3, unit := entryField run.cmd
                               8 1, ref := k }).conclude 3 .badFormat 0 0 0)) ∧
  (∀ (k : Nat) (run : RunCmd) (s : State),
      s.runningOp 3 .mapLoad = some run → s.reg (Reg.PORT_STATE (entryField run.cmd 8 1)) = 0 →
      s.mapBad (entryField run.cmd 8 1) (entryField run.cmd 9 1) (s.bytes (entryField run.cmd 12 4) (entryField
        run.cmd 16 4)) = some k →
      ¬ (entryField run.cmd 9 1 = 1 ∨ entryField run.cmd 9 1 = 0 ∧ entryField run.cmd 8 1 < 4) →
      exec (.mapLoad) s = .next (s.conclude 3 .badFormat 0 0 0)) ∧
  (∀ (run : RunCmd) (s : State),
      s.runningOp 3 .mapLoad = some run → s.reg (Reg.PORT_STATE (entryField run.cmd 8 1)) ≠ 0 →
      exec (.mapLoad) s = .next (s.conclude 3 .refused 0 0 0)) ∧
  (∀ (bw : Nat × Nat) (run : RunCmd) (s : State),
      s.runningOp 3 .arm = some run → s.skid (entryField run.cmd 8 1) = some bw → s.harnessLoaded = true →
      (if entryField run.cmd 8 1 < 4 then (s.port (entryField run.cmd 8 1)).decodeMap.isSome && (s.port (entryField
        run.cmd 8 1)).intakeMap.isSome else (s.port (entryField run.cmd 8 1)).graph.isNone || (s.port (entryField
        run.cmd 8 1)).intakeMap.isSome) = true →
      s.reg (Reg.STOP_BYTES (entryField run.cmd 8 1)) < (s.window bw.1 bw.2).size →
      exec (.arm) s = .next (
        ((((s.discardSkid (entryField run.cmd 8 1)).setPort (entryField run.cmd 8 1) { (s.discardSkid (entryField
          run.cmd 8 1)).port (entryField run.cmd 8 1) with
            th := 0, d := none, anchor := none, seqs := [] }).setReg (Reg.PORT_STATE (entryField run.cmd 8 1))
              1).reinDrive (entryField run.cmd 8 1)).conclude 3 .ok 0 0 0)) ∧
  (∀ (run : RunCmd) (s : State),
      s.runningOp 3 .arm = some run →
      (s.skid (entryField run.cmd 8 1) = none ∨ s.harnessLoaded = false ∨ (if entryField run.cmd 8 1 < 4 then (s.port
        (entryField run.cmd 8 1)).decodeMap.isSome && (s.port (entryField run.cmd 8 1)).intakeMap.isSome else (s.port
        (entryField run.cmd 8 1)).graph.isNone || (s.port (entryField run.cmd 8 1)).intakeMap.isSome) = false) →
      exec (.arm) s = .next (s.conclude 3 .refused 0 0 0)) ∧
  (∀ (bw : Nat × Nat) (run : RunCmd) (s : State),
      s.runningOp 3 .arm = some run → s.skid (entryField run.cmd 8 1) = some bw → s.harnessLoaded = true →
      (if entryField run.cmd 8 1 < 4 then (s.port (entryField run.cmd 8 1)).decodeMap.isSome && (s.port (entryField
        run.cmd 8 1)).intakeMap.isSome else (s.port (entryField run.cmd 8 1)).graph.isNone || (s.port (entryField
        run.cmd 8 1)).intakeMap.isSome) = true →
      (s.window bw.1 bw.2).size ≤ s.reg (Reg.STOP_BYTES (entryField run.cmd 8 1)) →
      exec (.arm) s = .next (s.conclude 3 .badFormat 0 0 0)) ∧
  (∀ (run : RunCmd) (s : State),
      s.runningOp 3 .disarm = some run → (entryField run.cmd 9 1 = 1 ∨ s.skidFill (entryField run.cmd 8 1) = 0) →
      exec (.disarm) s = .next ((s.disarmNow (entryField run.cmd 8 1)).conclude 3 .ok 0 0 0)) ∧
  (∀ (run : RunCmd) (s : State),
      s.runningOp 3 .disarm = some run → entryField run.cmd 9 1 ≠ 1 → s.skidFill (entryField run.cmd 8 1) ≠ 0 →
      s.reg (Reg.PORT_STATE (entryField run.cmd 8 1)) = 1 →
      exec (.disarm) s =
        .next ((s.setReg (Reg.PORT_STATE (entryField run.cmd 8 1)) 2).reinDrive (entryField run.cmd 8 1))) ∧
  (∀ (run : RunCmd) (s : State),
      s.runningOp 3 .disarm = some run → entryField run.cmd 9 1 ≠ 1 → s.skidFill (entryField run.cmd 8 1) ≠ 0 →
      s.reg (Reg.PORT_STATE (entryField run.cmd 8 1)) ≠ 1 →
      exec (.disarm) s = .next (s))

/-- With a key that the queue may use: GCM_SEAL draws an IV and stores IV, ciphertext and tag; GCM_OPEN stores the
  plaintext where the tag holds and completes SECURITY where it does not; ECDSA_SIGN stores its signature; XTS_KEYSET
  installs the key in its context. With a handle that R428 does not deny it, SHA384 stores the digest, and
  ECDSA_VERIFY completes OK or SECURITY as the signature verifies. A handle that the queue may not use, or that holds
  no key, completes SECURITY with nothing stored. -/
def Obligations.CryptoCommands : Prop :=
  (∀ (key : Nat) (run : RunCmd) (s : State),
      s.runningOp 5 .gcmSeal = some run → s.keyFor run.queue (entryField run.cmd 8 2) .gcmSeal = some key →
      exec (.gcmSeal) s = .next (
        let iv := Config.freeBits s.free 96
        let c := Config.gcmSeal key iv (s.bytes (entryField run.cmd 12 4) (entryField run.cmd 24 2)) (s.bytes
          (entryField run.cmd 12 4 + entryField run.cmd 24 2) (entryField run.cmd 20 4))
        ({ s with free := s.free + 1 }.setBytes (entryField run.cmd 16 4) (leBytes 12 iv.toNat ++ fitBytes (entryField
          run.cmd 20 4) c.1 ++
          leBytes 16 c.2.toNat)).conclude 5 .ok 0 0 0)) ∧
  (∀ (key : Nat) (run : RunCmd) (s : State),
      s.runningOp 5 .gcmOpen = some run → s.keyFor run.queue (entryField run.cmd 8 2) .gcmOpen = some key →
      exec (.gcmOpen) s = .next (
        let body := entryField run.cmd 12 4 + entryField run.cmd 24 2
        match Config.gcmOpen key (BitVec.ofNat 96 (s.word body 12)) (s.bytes (entryField run.cmd 12 4) (entryField
          run.cmd 24 2)) (s.bytes (body + 12)
            (entryField run.cmd 20 4)) (BitVec.ofNat 128 (s.word (body + 12 + entryField run.cmd 20 4) 16)) with
        | none => s.conclude 5 .security 0 0 0
        | some p => (s.setBytes (entryField run.cmd 16 4) (fitBytes (entryField run.cmd 20 4) p)).conclude 5 .ok 0 0
          0)) ∧
  (∀ (run : RunCmd) (s : State),
      s.runningOp 5 .sha384 = some run → handleBarred run.queue (entryField run.cmd 8 2) .sha384 = false →
      exec (.sha384) s =
        .next ((s.setBytes (entryField run.cmd 16 4) (leBytes 48 (Config.sha384 (s.bytes (entryField run.cmd 12 4)
          (entryField run.cmd 20 4))).toNat)).conclude 5 .ok 0 0 0)) ∧
  (∀ (key : Nat) (run : RunCmd) (s : State),
      s.runningOp 5 .ecdsaSign = some run → s.keyFor run.queue (entryField run.cmd 8 2) .ecdsaSign = some key →
      exec (.ecdsaSign) s =
        .next (({ s with free := s.free + 1 }.setBytes (entryField run.cmd 16 4) (fitBytes 96 (Config.ecdsaSign key
          (Config.freeBits s.free 384).toNat (s.bytes (entryField run.cmd 12 4) 48)))).conclude 5 .ok 0 0 0)) ∧
  (∀ (run : RunCmd) (s : State),
      s.runningOp 5 .ecdsaVerify = some run → handleBarred run.queue (entryField run.cmd 8 2) .ecdsaVerify = false →
      exec (.ecdsaVerify) s =
        .next (s.conclude 5 (if Config.ecdsaVerify (Config.verifyKey (entryField run.cmd 8 2)) (s.bytes (entryField
          run.cmd 12 4) 48) (s.bytes (entryField run.cmd 12 4 + 48) 96) then .ok else .security) 0 0 0)) ∧
  (∀ (key : Nat) (run : RunCmd) (s : State),
      s.runningOp 5 .xtsKeyset = some run → s.keyFor run.queue (entryField run.cmd 8 2) .xtsKeyset = some key →
      exec (.xtsKeyset) s = .next ((s.installXts (entryField run.cmd 8 2 = 0x11) key).conclude 5 .ok 0 0 0)) ∧
  (∀ (run : RunCmd) (s : State),
      s.runningOp 5 .gcmSeal = some run → s.keyFor run.queue (entryField run.cmd 8 2) .gcmSeal = none →
      exec (.gcmSeal) s = .next (s.conclude 5 .security 0 0 0)) ∧
  (∀ (run : RunCmd) (s : State),
      s.runningOp 5 .gcmOpen = some run → s.keyFor run.queue (entryField run.cmd 8 2) .gcmOpen = none →
      exec (.gcmOpen) s = .next (s.conclude 5 .security 0 0 0)) ∧
  (∀ (run : RunCmd) (s : State),
      s.runningOp 5 .ecdsaSign = some run → s.keyFor run.queue (entryField run.cmd 8 2) .ecdsaSign = none →
      exec (.ecdsaSign) s = .next (s.conclude 5 .security 0 0 0)) ∧
  (∀ (run : RunCmd) (s : State),
      s.runningOp 5 .xtsKeyset = some run → s.keyFor run.queue (entryField run.cmd 8 2) .xtsKeyset = none →
      exec (.xtsKeyset) s = .next (s.conclude 5 .security 0 0 0)) ∧
  (∀ (run : RunCmd) (s : State),
      s.runningOp 5 .sha384 = some run → handleBarred run.queue (entryField run.cmd 8 2) .sha384 = true →
      exec (.sha384) s = .next (s.conclude 5 .security 0 0 0)) ∧
  (∀ (run : RunCmd) (s : State),
      s.runningOp 5 .ecdsaVerify = some run → handleBarred run.queue (entryField run.cmd 8 2) .ecdsaVerify = true →
      exec (.ecdsaVerify) s = .next (s.conclude 5 .security 0 0 0))

/-- Each of the four first finds the soft error its control block has, which gives the state u that the rest is about. A
  push to a DATA or COMMAND queue with room is stored; one to a full queue is answered FULL, setting OVR. A request
  whose descriptor passes also reserves a slot of its reply queue; a reply uses one reserved, or, with none reserved,
  is stored where there is room and FULL where there is none. A push that fails a check is answered with its status
  and counted: FULL in PUSH_FULL where the reply queue is full. CONSUME of 1 to count entries, none of them open,
  moves RP, re-arms the timer and clears VALID of message descriptors; n of 0 or above count, or with an entry open,
  is REFUSED and counted. POST adds into the open entry of its key, saturating, or opens one, which in a full table of
  4,096 keys is born sealed, counted and recorded; in a full queue it is FULL. SEAL of up to count takes the oldest n
  entries out of the combining table, of more is REFUSED. An operation that fails the port checks is answered with
  their status and counted; one that meets a pointer mismatch resets the queue and is answered STALE. -/
def Obligations.QueuePortWrites : Prop :=
  (∀ (m : Master) (q : QueueId) (e : Entry) (x : QueueSoft) (s u : State),
      s.queueSoft q.val x = u → ¬ (m = .saddle ∧ isBridleQueue q.val = true) → (u.queue q.val).mismatch = false →
      ((u.queue q.val).kind = .data ∨ (u.queue q.val).kind = .command) → (u.queue q.val).qstate ≠ .unbound →
      (u.queue q.val).qstate ≠ .closed → mayProduce m q.val (u.queue q.val) = true → (u.queue q.val).isFull = false →
      exec (.push m q e x) s = .next (((u.pushEntry q.val e).noteStatus m q.val .ok).respond .ok)) ∧
  (∀ (m : Master) (q : QueueId) (e : Entry) (x : QueueSoft) (s u : State),
      s.queueSoft q.val x = u → ¬ (m = .saddle ∧ isBridleQueue q.val = true) → (u.queue q.val).mismatch = false →
      ((u.queue q.val).kind = .data ∨ (u.queue q.val).kind = .command) → (u.queue q.val).qstate ≠ .unbound →
      (u.queue q.val).qstate ≠ .closed → mayProduce m q.val (u.queue q.val) = true → (u.queue q.val).isFull = true →
      exec (.push m q e x) s =
        .next ((((u.setQueue q.val { u.queue q.val with ovr := true, ovrCnt := min ((u.queue q.val).ovrCnt + 1) 0xFFFF
                                                          }).bump Reg.PUSH_FULL).noteStatus m q.val .full).respond
          .full)) ∧
  (∀ (m : Master) (q : QueueId) (e : Entry) (x : QueueSoft) (s u : State),
      s.queueSoft q.val x = u → ¬ (m = .saddle ∧ isBridleQueue q.val = true) → (u.queue q.val).kind ≠ .combining →
      (u.queue q.val).kind ≠ .completion → (u.queue q.val).qstate = .closed →
      mayProduce m q.val (u.queue q.val) = true →
      exec (.push m q e x) s = .next (((u.bump Reg.PUSH_CLOSED).noteStatus m q.val .closed).respond .closed)) ∧
  (∀ (m : Master) (q : QueueId) (e : Entry) (x : QueueSoft) (s u : State),
      s.queueSoft q.val x = u → ¬ (m = .saddle ∧ isBridleQueue q.val = true) → (u.queue q.val).kind ≠ .combining →
      (u.queue q.val).qstate ≠ .unbound → mayProduce m q.val (u.queue q.val) = false →
      exec (.push m q e x) s = .next (((u.bump Reg.PUSH_DENIED).noteStatus m q.val .security).respond .security)) ∧
  (∀ (m : Master) (q : QueueId) (e : Entry) (st : Status) (x : QueueSoft) (s u : State),
      s.queueSoft q.val x = u → u.pushCheck m q.val e = st → st ≠ .ok → st ≠ .full →
      exec (.push m q e x) s = .next (((u.countRefusal st).noteStatus m q.val st).respond st)) ∧
  (∀ (m : Master) (q : QueueId) (e : Entry) (x : QueueSoft) (s u : State),
      s.queueSoft q.val x = u → u.pushCheck m q.val e = .full →
      exec (.push m q e x) s = .next (((u.bump Reg.PUSH_FULL).noteStatus m q.val .full).respond .full)) ∧
  (∀ (m : Master) (q : QueueId) (e : Entry) (x : QueueSoft) (s u : State),
      s.queueSoft q.val x = u → u.pushCheck m q.val e = .ok → (u.queue q.val).mismatch = true →
      exec (.push m q e x) s = .next (((u.pointerReset q.val).noteStatus m q.val .stale).respond .stale)) ∧
  (∀ (m : Master) (q : QueueId) (e : Entry) (x : QueueSoft) (s u : State),
      s.queueSoft q.val x = u → ¬ (m = .saddle ∧ isBridleQueue q.val = true) → (u.queue q.val).mismatch = false →
      (u.queue q.val).kind = .msgReq → (u.queue q.val).qstate ≠ .unbound → (u.queue q.val).qstate ≠ .closed →
      mayProduce m q.val (u.queue q.val) = true → u.descriptorCheck (u.queue q.val) e = .ok →
      (u.queue q.val).isFull = false →
      exec (.push m q e x) s = .next (
        let rq := bitField (entryField e 16 2) 0 15
        (((u.setQueue rq { u.queue rq with resv := (u.queue rq).resv + 1 }).pushEntry q.val e).noteStatus m q.val
          .ok).respond .ok)) ∧
  (∀ (m : Master) (q : QueueId) (e : Entry) (x : QueueSoft) (s u : State),
      s.queueSoft q.val x = u → ¬ (m = .saddle ∧ isBridleQueue q.val = true) → (u.queue q.val).mismatch = false →
      (u.queue q.val).kind = .msgRep → (u.queue q.val).qstate ≠ .unbound → (u.queue q.val).qstate ≠ .closed →
      mayProduce m q.val (u.queue q.val) = true → u.descriptorCheck (u.queue q.val) e = .ok →
      (u.queue q.val).resv ≠ 0 →
      exec (.push m q e x) s =
        .next ((((u.setQueue q.val { u.queue q.val with resv := (u.queue q.val).resv - 1 }).pushEntry q.val
          e).noteStatus m q.val .ok).respond .ok)) ∧
  (∀ (m : Master) (q : QueueId) (e : Entry) (x : QueueSoft) (s u : State),
      s.queueSoft q.val x = u → ¬ (m = .saddle ∧ isBridleQueue q.val = true) → (u.queue q.val).mismatch = false →
      (u.queue q.val).kind = .msgRep → (u.queue q.val).qstate ≠ .unbound → (u.queue q.val).qstate ≠ .closed →
      mayProduce m q.val (u.queue q.val) = true → u.descriptorCheck (u.queue q.val) e = .ok →
      (u.queue q.val).resv = 0 → (u.queue q.val).isFull = false →
      exec (.push m q e x) s = .next (((u.pushEntry q.val e).noteStatus m q.val .ok).respond .ok)) ∧
  (∀ (m : Master) (q : QueueId) (e : Entry) (x : QueueSoft) (s u : State),
      s.queueSoft q.val x = u → ¬ (m = .saddle ∧ isBridleQueue q.val = true) → (u.queue q.val).mismatch = false →
      ((u.queue q.val).kind = .msgReq ∨ (u.queue q.val).kind = .msgRep ∧ (u.queue q.val).resv = 0) →
      (u.queue q.val).qstate ≠ .unbound → (u.queue q.val).qstate ≠ .closed →
      mayProduce m q.val (u.queue q.val) = true → u.descriptorCheck (u.queue q.val) e = .ok →
      (u.queue q.val).isFull = true →
      exec (.push m q e x) s =
        .next ((((u.setQueue q.val { u.queue q.val with ovr := true, ovrCnt := min ((u.queue q.val).ovrCnt + 1) 0xFFFF
                                                          }).bump Reg.PUSH_FULL).noteStatus m q.val .full).respond
          .full)) ∧
  (∀ (m : Master) (q : QueueId) (n : BitVec 32) (x : QueueSoft) (s u : State),
      s.queueSoft q.val x = u → ¬ (m = .saddle ∧ isBridleQueue q.val = true) → (u.queue q.val).mismatch = false →
      ((u.queue q.val).kind = .data ∨ (u.queue q.val).kind = .completion ∨ (u.queue q.val).kind = .combining) →
      (u.queue q.val).qstate ≠ .unbound → mayConsume m q.val (u.queue q.val) = true → n.toNat ≠ 0 →
      n.toNat ≤ (u.queue q.val).count →
      (u.comb.any fun x => x.queue = q.val && amongOldest (u.queue q.val) x.slot n.toNat) = false →
      exec (.consume m q n x) s =
        .next ((u.setQueue q.val (((u.queue q.val).setRp ((u.queue q.val).rpA + BitVec.ofNat 17 n.toNat)).rearm
          u.now)).respond .ok)) ∧
  (∀ (m : Master) (q : QueueId) (n : BitVec 32) (x : QueueSoft) (s u : State),
      s.queueSoft q.val x = u → ¬ (m = .saddle ∧ isBridleQueue q.val = true) → (u.queue q.val).mismatch = false →
      ((u.queue q.val).kind = .msgReq ∨ (u.queue q.val).kind = .msgRep) → (u.queue q.val).qstate ≠ .unbound →
      mayConsume m q.val (u.queue q.val) = true → n.toNat ≠ 0 → n.toNat ≤ (u.queue q.val).count →
      (u.comb.any fun x => x.queue = q.val && amongOldest (u.queue q.val) x.slot n.toNat) = false →
      exec (.consume m q n x) s =
        .next (((u.clearValid (u.queue q.val) (u.queue q.val).rpA n.toNat).setQueue q.val (((u.queue q.val).setRp
          ((u.queue q.val).rpA + BitVec.ofNat 17 n.toNat)).rearm u.now)).respond .ok)) ∧
  (∀ (m : Master) (q : QueueId) (n : BitVec 32) (x : QueueSoft) (s u : State),
      s.queueSoft q.val x = u → ¬ (m = .saddle ∧ isBridleQueue q.val = true) → (u.queue q.val).mismatch = false →
      (u.queue q.val).kind ≠ .command → (u.queue q.val).qstate ≠ .unbound →
      mayConsume m q.val (u.queue q.val) = true → n.toNat < 2 ^ 17 →
      (n.toNat = 0 ∨ (u.queue q.val).count < n.toNat ∨ (u.comb.any fun x => x.queue = q.val && amongOldest (u.queue
        q.val) x.slot n.toNat) = true) →
      exec (.consume m q n x) s = .next ((u.bump Reg.CONSUME_REFUSED).respond .refused)) ∧
  (∀ (m : Master) (q : QueueId) (n : BitVec 32) (st : Status) (x : QueueSoft) (s u : State),
      s.queueSoft q.val x = u →
      portCheck m q.val (u.queue q.val) (decide (n.toNat < 2 ^ 17)) ((u.queue q.val).kind != .command) (mayConsume m
        q.val (u.queue q.val)) = st →
      st ≠ .ok →
      exec (.consume m q n x) s = .next ((u.countRefusal st).respond st)) ∧
  (∀ (m : Master) (q : QueueId) (n : BitVec 32) (x : QueueSoft) (s u : State),
      s.queueSoft q.val x = u →
      portCheck m q.val (u.queue q.val) (decide (n.toNat < 2 ^ 17)) ((u.queue q.val).kind != .command) (mayConsume m
        q.val (u.queue q.val)) = .ok →
      (u.queue q.val).mismatch = true →
      exec (.consume m q n x) s = .next ((u.pointerReset q.val).respond .stale)) ∧
  (∀ (m : Master) (q : QueueId) (n : BitVec 32) (x : QueueSoft) (s u : State),
      s.queueSoft q.val x = u → ¬ (m = .saddle ∧ isBridleQueue q.val = true) → (u.queue q.val).mismatch = false →
      (u.queue q.val).kind = .combining → (u.queue q.val).qstate ≠ .unbound →
      mayConsume m q.val (u.queue q.val) = true → n.toNat ≤ (u.queue q.val).count →
      exec (.cqSeal m q n x) s =
        .next ({ u with comb := u.comb.filter fun x => !(x.queue = q.val && amongOldest (u.queue q.val) x.slot
                          n.toNat) }.respond .ok)) ∧
  (∀ (m : Master) (q : QueueId) (n : BitVec 32) (x : QueueSoft) (s u : State),
      s.queueSoft q.val x = u → ¬ (m = .saddle ∧ isBridleQueue q.val = true) → (u.queue q.val).mismatch = false →
      (u.queue q.val).kind = .combining → (u.queue q.val).qstate ≠ .unbound →
      mayConsume m q.val (u.queue q.val) = true → n.toNat < 2 ^ 17 → (u.queue q.val).count < n.toNat →
      exec (.cqSeal m q n x) s = .next ((u.bump Reg.CONSUME_REFUSED).respond .refused)) ∧
  (∀ (m : Master) (q : QueueId) (n : BitVec 32) (st : Status) (x : QueueSoft) (s u : State),
      s.queueSoft q.val x = u →
      portCheck m q.val (u.queue q.val) (decide (n.toNat < 2 ^ 17)) ((u.queue q.val).kind == .combining) (mayConsume m
        q.val (u.queue q.val)) = st →
      st ≠ .ok →
      exec (.cqSeal m q n x) s = .next ((u.countRefusal st).respond st)) ∧
  (∀ (m : Master) (q : QueueId) (n : BitVec 32) (x : QueueSoft) (s u : State),
      s.queueSoft q.val x = u →
      portCheck m q.val (u.queue q.val) (decide (n.toNat < 2 ^ 17)) ((u.queue q.val).kind == .combining) (mayConsume m
        q.val (u.queue q.val)) = .ok →
      (u.queue q.val).mismatch = true →
      exec (.cqSeal m q n x) s = .next ((u.pointerReset q.val).respond .stale)) ∧
  (∀ (m : Master) (q : QueueId) (w : BitVec 64) (y : CombEntry) (x : QueueSoft) (s u : State),
      s.queueSoft q.val x = u → ¬ (m = .saddle ∧ isBridleQueue q.val = true) → (u.queue q.val).mismatch = false →
      (u.queue q.val).kind = .combining → (u.queue q.val).qstate ≠ .unbound → (u.queue q.val).qstate ≠ .closed →
      mayProduce m q.val (u.queue q.val) = true → bitField w.toNat 27 5 = 0 →
      (u.comb.find? fun x => x.queue = q.val && x.key = bitField w.toNat 0 24) = some y →
      exec (.post m q w x) s = .next (
        let a := (u.queue q.val).entryAddr y.slot + 4 * bitField w.toNat 24 3
        let sum := (BitVec.ofNat 32 (u.word a 4)).toInt + (BitVec.ofNat 32 (bitField w.toNat 32 32)).toInt
        let s1 := ((u.bump Reg.CMB_POSTS).setWord a 4 (sat32 sum).toNat).bump Reg.CMB_MERGES
        ((if (sat32 sum).toInt ≠ sum then s1.bump Reg.CMB_SAT else s1).noteStatus m q.val .ok).respond .ok)) ∧
  (∀ (m : Master) (q : QueueId) (w : BitVec 64) (x : QueueSoft) (s u : State),
      s.queueSoft q.val x = u → ¬ (m = .saddle ∧ isBridleQueue q.val = true) → (u.queue q.val).mismatch = false →
      (u.queue q.val).kind = .combining → (u.queue q.val).qstate ≠ .unbound → (u.queue q.val).qstate ≠ .closed →
      mayProduce m q.val (u.queue q.val) = true → bitField w.toNat 27 5 = 0 →
      (u.comb.find? fun x => x.queue = q.val && x.key = bitField w.toNat 0 24) = none →
      (u.queue q.val).isFull = false →
      exec (.post m q w x) s = .next (
        let s1 := (u.bump Reg.CMB_POSTS).setWord ((u.queue q.val).keyAddr (u.queue q.val).wpA) 4 (bitField w.toNat 0
          24)
        let s2 := if u.comb.length < 4096 then { s1 with comb := s1.comb ++ [⟨q.val, bitField w.toNat 0 24, (u.queue
                                                           q.val).wpA⟩] }
          else (s1.bump Reg.CMB_TABLE_FULL).logGated 2 q.val u.second { cls := .queue, status := .full, sub :=
                                                                          (u.queue q.val).kind.code, ref := q.val }
        ((State.pushEntry s2 q.val
          (entryOf [(4 * bitField w.toNat 24 3, 4, bitField w.toNat 32 32)])).noteStatus m q.val .ok).respond .ok)) ∧
  (∀ (m : Master) (q : QueueId) (w : BitVec 64) (x : QueueSoft) (s u : State),
      s.queueSoft q.val x = u → ¬ (m = .saddle ∧ isBridleQueue q.val = true) → (u.queue q.val).mismatch = false →
      (u.queue q.val).kind = .combining → (u.queue q.val).qstate ≠ .unbound → (u.queue q.val).qstate ≠ .closed →
      mayProduce m q.val (u.queue q.val) = true → bitField w.toNat 27 5 = 0 →
      (u.comb.find? fun x => x.queue = q.val && x.key = bitField w.toNat 0 24) = none →
      (u.queue q.val).isFull = true →
      exec (.post m q w x) s =
        .next (((((u.bump Reg.CMB_POSTS).setQueue q.val { u.queue q.val with ovr := true, ovrCnt := min ((u.queue
                                                                               q.val).ovrCnt + 1) 0xFFFF }).bump
          Reg.PUSH_FULL).noteStatus m q.val .full).respond .full)) ∧
  (∀ (m : Master) (q : QueueId) (w : BitVec 64) (st : Status) (x : QueueSoft) (s u : State),
      s.queueSoft q.val x = u →
      (if portCheck m q.val (u.queue q.val) (decide (bitField w.toNat 27 5 = 0)) ((u.queue q.val).kind == .combining)
        (mayProduce m q.val (u.queue q.val)) = .ok ∧ (u.queue q.val).qstate = .closed then .closed else portCheck m
        q.val (u.queue q.val) (decide (bitField w.toNat 27 5 = 0)) ((u.queue q.val).kind == .combining) (mayProduce m
        q.val (u.queue q.val))) = st →
      st ≠ .ok →
      exec (.post m q w x) s = .next (((u.countRefusal st).noteStatus m q.val st).respond st)) ∧
  (∀ (m : Master) (q : QueueId) (w : BitVec 64) (x : QueueSoft) (s u : State),
      s.queueSoft q.val x = u →
      portCheck m q.val (u.queue q.val) (decide (bitField w.toNat 27 5 = 0)) ((u.queue q.val).kind == .combining)
        (mayProduce m q.val (u.queue q.val)) = .ok →
      (u.queue q.val).qstate ≠ .closed → (u.queue q.val).mismatch = true →
      exec (.post m q w x) s = .next (((u.pointerReset q.val).noteStatus m q.val .stale).respond .stale))

/-- Each CTRL write and CLEAR first finds the soft error its control block has, which gives the state u. By a master with
  the right: DRAIN of an ENABLED command queue records WP and makes it DRAINING, or DISABLED where nothing is left;
  ABORT completes its waiting commands ABORTED, those behind one in execution waiting for it; ENABLE takes a DRAINING
  or DISABLED queue back; a DRAIN or ABORT already under way or done, and ENABLE of an ENABLED queue, change nothing;
  other states, and kinds other than COMMAND, are REFUSED. RESET of a queue that R251 lets reset discards its entries
  by kind, moves RP to WP, clears OVR and TMO, advances GEN and re-arms the timer; a DATA queue has nothing more to
  discard; CLOSE does so and closes; else both are REFUSED. OPEN enables a CLOSED queue with the next GEN, unless a
  soft error closed it, and is REFUSED in every other state. CLEAR clears the flags its bits name. A write that fails
  the port checks is answered with their status and counted; one that meets a pointer mismatch resets the queue and is
  STALE. QPOLICY replaces timer, notification and watermark of QSEL's queue, or is SECURITY for a Bridle queue and
  BAD_FORMAT for an unbound one or a value out of range. The stale-tail timer raises TMO once per stall, with its
  notification where enabled. -/
def Obligations.QueueControl : Prop :=
  (∀ (m : Master) (q : QueueId) (x : QueueSoft) (s u : State),
      s.queueSoft q.val x = u → (u.queue q.val).mismatch = false → mayProduce m q.val (u.queue q.val) = true →
      ¬ (m = .saddle ∧ isBridleQueue q.val = true) → (u.queue q.val).kind = .command →
      ((u.queue q.val).qstate = .enabled) →
      exec (.qDrain m q x) s =
        .next (((u.setQueue q.val { u.queue q.val with qstate := .draining, snap := some (u.queue q.val).wpA
                                                         }).settleQueue q.val).respond .ok)) ∧
  (∀ (m : Master) (q : QueueId) (x : QueueSoft) (s u : State),
      s.queueSoft q.val x = u → (u.queue q.val).mismatch = false → mayProduce m q.val (u.queue q.val) = true →
      ¬ (m = .saddle ∧ isBridleQueue q.val = true) → (u.queue q.val).kind = .command →
      (u.queue q.val).qstate = .enabled →
      ((u.queue q.val).rpA ≠ (u.queue q.val).wpA ∨ (u.queue q.val).outstanding ≠ 0) →
      exec (.qDrain m q x) s =
        .next ((u.setQueue q.val { u.queue q.val with qstate := .draining, snap := some (u.queue q.val).wpA }).respond
          .ok)) ∧
  (∀ (m : Master) (q : QueueId) (x : QueueSoft) (s u : State),
      s.queueSoft q.val x = u → (u.queue q.val).mismatch = false → mayProduce m q.val (u.queue q.val) = true →
      ¬ (m = .saddle ∧ isBridleQueue q.val = true) → (u.queue q.val).kind = .command →
      (u.queue q.val).qstate = .enabled → (u.queue q.val).rpA = (u.queue q.val).wpA →
      (u.queue q.val).outstanding = 0 → (u.engine (u.queue q.val).eng).held = [] →
      ∃ t, exec (.qDrain m q x) s = .next t ∧ t.queue q.val = { u.queue q.val with qstate := .disabled, snap := none }
        ∧ t.resp = ⟨.ok, []⟩ ∧ t = { u with queues := t.queues, resp := t.resp }) ∧
  (∀ (m : Master) (q : QueueId) (x : QueueSoft) (s u : State),
      s.queueSoft q.val x = u → (u.queue q.val).mismatch = false → mayProduce m q.val (u.queue q.val) = true →
      ¬ (m = .saddle ∧ isBridleQueue q.val = true) → (u.queue q.val).kind = .command →
      ((u.queue q.val).qstate = .enabled ∨ (u.queue q.val).qstate = .draining) →
      exec (.qAbort m q x) s =
        .next ((((u.setQueue q.val { u.queue q.val with qstate := .aborting, snap := some (u.queue q.val).wpA
                                                          }).abortUpTo q.val (u.queue q.val).eng (u.queue q.val).wpA
          (u.queue q.val).count).settleQueue q.val).respond .ok)) ∧
  (∀ (m : Master) (q : QueueId) (x : QueueSoft) (s u : State),
      s.queueSoft q.val x = u → (u.queue q.val).mismatch = false → mayProduce m q.val (u.queue q.val) = true →
      ¬ (m = .saddle ∧ isBridleQueue q.val = true) → (u.queue q.val).kind = .command →
      ((u.queue q.val).qstate = .draining ∨ (u.queue q.val).qstate = .disabled) →
      exec (.qEnable m q x) s =
        .next ((u.setQueue q.val { u.queue q.val with qstate := .enabled, snap := none }).respond .ok)) ∧
  (∀ (m : Master) (q : QueueId) (x : QueueSoft) (s u : State),
      s.queueSoft q.val x = u → (u.queue q.val).mismatch = false → mayProduce m q.val (u.queue q.val) = true →
      ¬ (m = .saddle ∧ isBridleQueue q.val = true) → (u.queue q.val).kind = .command →
      ((u.queue q.val).qstate = .draining ∨ (u.queue q.val).qstate = .disabled) →
      exec (.qDrain m q x) s = .next (u.respond .ok)) ∧
  (∀ (m : Master) (q : QueueId) (x : QueueSoft) (s u : State),
      s.queueSoft q.val x = u → (u.queue q.val).mismatch = false → mayProduce m q.val (u.queue q.val) = true →
      ¬ (m = .saddle ∧ isBridleQueue q.val = true) → (u.queue q.val).kind = .command →
      ((u.queue q.val).qstate = .aborting ∨ (u.queue q.val).qstate = .disabled) →
      exec (.qAbort m q x) s = .next (u.respond .ok)) ∧
  (∀ (m : Master) (q : QueueId) (x : QueueSoft) (s u : State),
      s.queueSoft q.val x = u → (u.queue q.val).mismatch = false → mayProduce m q.val (u.queue q.val) = true →
      ¬ (m = .saddle ∧ isBridleQueue q.val = true) → (u.queue q.val).kind = .command →
      ((u.queue q.val).qstate = .enabled) →
      exec (.qEnable m q x) s = .next (u.respond .ok)) ∧
  (∀ (m : Master) (q : QueueId) (x : QueueSoft) (s u : State),
      s.queueSoft q.val x = u → (u.queue q.val).mismatch = false → mayProduce m q.val (u.queue q.val) = true →
      ¬ (m = .saddle ∧ isBridleQueue q.val = true) → (u.queue q.val).qstate ≠ .unbound →
      ((u.queue q.val).kind ≠ .command ∨ (u.queue q.val).qstate = .aborting ∨ (u.queue q.val).qstate = .closed) →
      exec (.qDrain m q x) s = .next (u.respond .refused)) ∧
  (∀ (m : Master) (q : QueueId) (x : QueueSoft) (s u : State),
      s.queueSoft q.val x = u → (u.queue q.val).mismatch = false → mayProduce m q.val (u.queue q.val) = true →
      ¬ (m = .saddle ∧ isBridleQueue q.val = true) → (u.queue q.val).qstate ≠ .unbound →
      ((u.queue q.val).kind ≠ .command ∨ (u.queue q.val).qstate = .closed) →
      exec (.qAbort m q x) s = .next (u.respond .refused)) ∧
  (∀ (m : Master) (q : QueueId) (x : QueueSoft) (s u : State),
      s.queueSoft q.val x = u → (u.queue q.val).mismatch = false → mayProduce m q.val (u.queue q.val) = true →
      ¬ (m = .saddle ∧ isBridleQueue q.val = true) → (u.queue q.val).qstate ≠ .unbound →
      ((u.queue q.val).kind ≠ .command ∨ (u.queue q.val).qstate = .aborting ∨ (u.queue q.val).qstate = .closed) →
      exec (.qEnable m q x) s = .next (u.respond .refused)) ∧
  (∀ (m : Master) (q : QueueId) (x : QueueSoft) (s u : State),
      s.queueSoft q.val x = u → (u.queue q.val).mismatch = false → mayConsume m q.val (u.queue q.val) = true →
      ¬ (m = .saddle ∧ isBridleQueue q.val = true) → (u.queue q.val).kind = .data →
      ((u.queue q.val).qstate = .enabled ∨ (u.queue q.val).qstate = .disabled ∨ (u.queue q.val).qstate = .closed) →
      exec (.qReset m q x) s =
        .next (((u.setQueue q.val ({ (u.queue q.val).setRp (u.queue q.val).wpA with ovr := false, tmo := false, gen :=
                                                                                      (u.queue q.val).gen + 1 }.rearm
          u.now)).bump Reg.Q_RESETS).respond .ok)) ∧
  (∀ (m : Master) (q : QueueId) (x : QueueSoft) (s u : State),
      s.queueSoft q.val x = u → (u.queue q.val).mismatch = false → mayConsume m q.val (u.queue q.val) = true →
      ¬ (m = .saddle ∧ isBridleQueue q.val = true) → (u.queue q.val).qstate ≠ .unbound →
      (u.queue q.val).mayReset true = true →
      exec (.qReset m q x) s = .next (
        let s1 := u.discard q.val false
        ((s1.setQueue q.val ({ (s1.queue q.val).setRp (s1.queue q.val).wpA with
          ovr := false, tmo := false, gen := (s1.queue q.val).gen + 1 }.rearm s1.now)).bump Reg.Q_RESETS).respond .ok)) ∧
  (∀ (m : Master) (q : QueueId) (x : QueueSoft) (s u : State),
      s.queueSoft q.val x = u → (u.queue q.val).mismatch = false → mayConsume m q.val (u.queue q.val) = true →
      ¬ (m = .saddle ∧ isBridleQueue q.val = true) → (u.queue q.val).qstate ≠ .unbound →
      (u.queue q.val).mayReset true = false →
      exec (.qReset m q x) s = .next (u.respond .refused)) ∧
  (∀ (m : Master) (q : QueueId) (x : QueueSoft) (s u : State),
      s.queueSoft q.val x = u → (u.queue q.val).mismatch = false → mayConsume m q.val (u.queue q.val) = true →
      ¬ (m = .saddle ∧ isBridleQueue q.val = true) → (u.queue q.val).kind = .data →
      ((u.queue q.val).qstate = .enabled ∨ (u.queue q.val).qstate = .disabled) →
      ∃ t, exec (.qClose m q x) s = .next t ∧ t.queue q.val = { { (u.queue q.val).setRp (u.queue q.val).wpA with ovr
                                                                                                                   :=
                                                                                                                   false,
                                                                                                                   tmo
                                                                                                                   :=
                                                                                                                   false,
                                                                                                                   gen
                                                                                                                   :=
                                                                                                                   (u.queue
                                                                                                                   q.val).gen
                                                                                                                   + 1
                                                                                                                   }.rearm
        u.now with qstate := .closed } ∧ t.resp = ⟨.ok, []⟩ ∧ t = { u with queues := t.queues, regs := (u.bump
                                                                             Reg.Q_RESETS).regs, resp := t.resp }) ∧
  (∀ (m : Master) (q : QueueId) (x : QueueSoft) (s u : State),
      s.queueSoft q.val x = u → (u.queue q.val).mismatch = false → mayConsume m q.val (u.queue q.val) = true →
      ¬ (m = .saddle ∧ isBridleQueue q.val = true) → (u.queue q.val).qstate ≠ .unbound →
      (u.queue q.val).mayReset false = true →
      exec (.qClose m q x) s =
        .next (((u.queueReset q.val).setQueue q.val { (u.queueReset q.val).queue q.val with qstate := .closed
                                                                                              }).respond .ok)) ∧
  (∀ (m : Master) (q : QueueId) (x : QueueSoft) (s u : State),
      s.queueSoft q.val x = u → (u.queue q.val).mismatch = false → mayConsume m q.val (u.queue q.val) = true →
      ¬ (m = .saddle ∧ isBridleQueue q.val = true) → (u.queue q.val).qstate ≠ .unbound →
      (u.queue q.val).mayReset false = false →
      exec (.qClose m q x) s = .next (u.respond .refused)) ∧
  (∀ (m : Master) (q : QueueId) (x : QueueSoft) (s u : State),
      s.queueSoft q.val x = u → (u.queue q.val).mismatch = false → mayConsume m q.val (u.queue q.val) = true →
      ¬ (m = .saddle ∧ isBridleQueue q.val = true) → (u.queue q.val).qstate = .closed →
      (u.queue q.val).failed = false →
      exec (.qOpen m q x) s =
        .next ((u.setQueue q.val { u.queue q.val with qstate := .enabled, gen := (u.queue q.val).gen + 1 }).respond
          .ok)) ∧
  (∀ (m : Master) (q : QueueId) (x : QueueSoft) (s u : State),
      s.queueSoft q.val x = u → (u.queue q.val).mismatch = false → mayConsume m q.val (u.queue q.val) = true →
      ¬ (m = .saddle ∧ isBridleQueue q.val = true) → (u.queue q.val).qstate ≠ .unbound →
      ((u.queue q.val).qstate ≠ .closed ∨ (u.queue q.val).failed = true) →
      exec (.qOpen m q x) s = .next (u.respond .refused)) ∧
  (∀ (m : Master) (q : QueueId) (v : BitVec 32) (x : QueueSoft) (s u : State),
      s.queueSoft q.val x = u → (u.queue q.val).mismatch = false → mayConsume m q.val (u.queue q.val) = true →
      ¬ (m = .saddle ∧ isBridleQueue q.val = true) → (u.queue q.val).qstate ≠ .unbound → v.toNat < 8 →
      exec (.qClear m q v x) s =
        .next ((u.setQueue q.val { u.queue q.val with ovr := (u.queue q.val).ovr && !v.getLsbD 0, tmo := (u.queue
                                                        q.val).tmo && !v.getLsbD 1, rst := (u.queue q.val).rst &&
                                                        !v.getLsbD 2 }).respond .ok)) ∧
  (∀ (m : Master) (q : QueueId) (v : BitVec 32) (st : Status) (x : QueueSoft) (s u : State),
      s.queueSoft q.val x = u →
      portCheck m q.val (u.queue q.val) (decide (v.toNat < 8)) (true) (mayConsume m q.val (u.queue q.val)) = st →
      st ≠ .ok →
      exec (.qClear m q v x) s = .next ((u.countRefusal st).respond st)) ∧
  (∀ (m : Master) (q : QueueId) (v : BitVec 32) (x : QueueSoft) (s u : State),
      s.queueSoft q.val x = u →
      portCheck m q.val (u.queue q.val) (decide (v.toNat < 8)) (true) (mayConsume m q.val (u.queue q.val)) = .ok →
      (u.queue q.val).mismatch = true →
      exec (.qClear m q v x) s = .next ((u.pointerReset q.val).respond .stale)) ∧
  (∀ (m : Master) (q : QueueId) (st : Status) (x : QueueSoft) (s u : State),
      s.queueSoft q.val x = u →
      portCheck m q.val (u.queue q.val) (true) (true) (mayProduce m q.val (u.queue q.val)) = st → st ≠ .ok →
      exec (.qDrain m q x) s = .next ((u.countRefusal st).respond st)) ∧
  (∀ (m : Master) (q : QueueId) (st : Status) (x : QueueSoft) (s u : State),
      s.queueSoft q.val x = u →
      portCheck m q.val (u.queue q.val) (true) (true) (mayProduce m q.val (u.queue q.val)) = st → st ≠ .ok →
      exec (.qAbort m q x) s = .next ((u.countRefusal st).respond st)) ∧
  (∀ (m : Master) (q : QueueId) (st : Status) (x : QueueSoft) (s u : State),
      s.queueSoft q.val x = u →
      portCheck m q.val (u.queue q.val) (true) (true) (mayProduce m q.val (u.queue q.val)) = st → st ≠ .ok →
      exec (.qEnable m q x) s = .next ((u.countRefusal st).respond st)) ∧
  (∀ (m : Master) (q : QueueId) (st : Status) (x : QueueSoft) (s u : State),
      s.queueSoft q.val x = u →
      portCheck m q.val (u.queue q.val) (true) (true) (mayConsume m q.val (u.queue q.val)) = st → st ≠ .ok →
      exec (.qReset m q x) s = .next ((u.countRefusal st).respond st)) ∧
  (∀ (m : Master) (q : QueueId) (st : Status) (x : QueueSoft) (s u : State),
      s.queueSoft q.val x = u →
      portCheck m q.val (u.queue q.val) (true) (true) (mayConsume m q.val (u.queue q.val)) = st → st ≠ .ok →
      exec (.qClose m q x) s = .next ((u.countRefusal st).respond st)) ∧
  (∀ (m : Master) (q : QueueId) (st : Status) (x : QueueSoft) (s u : State),
      s.queueSoft q.val x = u →
      portCheck m q.val (u.queue q.val) (true) (true) (mayConsume m q.val (u.queue q.val)) = st → st ≠ .ok →
      exec (.qOpen m q x) s = .next ((u.countRefusal st).respond st)) ∧
  (∀ (m : Master) (q : QueueId) (x : QueueSoft) (s u : State),
      s.queueSoft q.val x = u →
      portCheck m q.val (u.queue q.val) (true) (true) (mayProduce m q.val (u.queue q.val)) = .ok →
      (u.queue q.val).mismatch = true →
      exec (.qDrain m q x) s = .next ((u.pointerReset q.val).respond .stale)) ∧
  (∀ (m : Master) (q : QueueId) (x : QueueSoft) (s u : State),
      s.queueSoft q.val x = u →
      portCheck m q.val (u.queue q.val) (true) (true) (mayProduce m q.val (u.queue q.val)) = .ok →
      (u.queue q.val).mismatch = true →
      exec (.qAbort m q x) s = .next ((u.pointerReset q.val).respond .stale)) ∧
  (∀ (m : Master) (q : QueueId) (x : QueueSoft) (s u : State),
      s.queueSoft q.val x = u →
      portCheck m q.val (u.queue q.val) (true) (true) (mayProduce m q.val (u.queue q.val)) = .ok →
      (u.queue q.val).mismatch = true →
      exec (.qEnable m q x) s = .next ((u.pointerReset q.val).respond .stale)) ∧
  (∀ (m : Master) (q : QueueId) (x : QueueSoft) (s u : State),
      s.queueSoft q.val x = u →
      portCheck m q.val (u.queue q.val) (true) (true) (mayConsume m q.val (u.queue q.val)) = .ok →
      (u.queue q.val).mismatch = true →
      exec (.qReset m q x) s = .next ((u.pointerReset q.val).respond .stale)) ∧
  (∀ (m : Master) (q : QueueId) (x : QueueSoft) (s u : State),
      s.queueSoft q.val x = u →
      portCheck m q.val (u.queue q.val) (true) (true) (mayConsume m q.val (u.queue q.val)) = .ok →
      (u.queue q.val).mismatch = true →
      exec (.qClose m q x) s = .next ((u.pointerReset q.val).respond .stale)) ∧
  (∀ (m : Master) (q : QueueId) (x : QueueSoft) (s u : State),
      s.queueSoft q.val x = u →
      portCheck m q.val (u.queue q.val) (true) (true) (mayConsume m q.val (u.queue q.val)) = .ok →
      (u.queue q.val).mismatch = true →
      exec (.qOpen m q x) s = .next ((u.pointerReset q.val).respond .stale)) ∧
  (∀ (path : Path) (v : BitVec 64) (q : Nat) (s : State),
      s.accessStatus path true 0x2420 3 = .ok → s.reg Reg.QSEL = q → isBridleQueue q = false →
      (s.queue q).qstate ≠ .unbound → bitField v.toNat 0 20 ≤ 1000000 → bitField v.toNat 35 17 ≤ (s.queue q).size →
      bitField v.toNat 52 12 = 0 →
      exec (.qpolicyWrite path v) s = .next (
        (s.setQueue q ({ s.queue q with
          tmoUs := bitField v.toNat 0 20, ntfyEn := natBit v.toNat 20, ntfyHitch := bitField v.toNat 21 14,
          wm := bitField v.toNat 35 17 }.rearm s.now)).respond .ok)) ∧
  (∀ (path : Path) (v : BitVec 64) (s : State),
      s.accessStatus path true 0x2420 3 = .ok → isBridleQueue (s.reg Reg.QSEL) = true →
      exec (.qpolicyWrite path v) s = .next (s.respond .security)) ∧
  (∀ (path : Path) (v : BitVec 64) (q : Nat) (s : State),
      s.accessStatus path true 0x2420 3 = .ok → s.reg Reg.QSEL = q → isBridleQueue q = false →
      ((s.queue q).qstate = .unbound ∨ 1000000 < bitField v.toNat 0 20 ∨ (s.queue q).size < bitField v.toNat 35 17 ∨
        bitField v.toNat 52 12 ≠ 0) →
      exec (.qpolicyWrite path v) s = .next (s.respond .badFormat)) ∧
  (∀ (q : QueueId) (at' : Nat) (s : State),
      (s.queue q.val).timerFrom = some at' → (s.queue q.val).tmoUs ≠ 0 → (s.queue q.val).count ≠ 0 →
      (s.queue q.val).raised = false → at' + 1000 * (s.queue q.val).tmoUs ≤ s.now →
      exec (.staleTail q) s = .next (
        let b := { s.queue q.val with tmo := true, tmoCnt := min ((s.queue q.val).tmoCnt + 1) 0xFFFF, raised := true }
        let s1 := (s.setQueue q.val b).bump Reg.TMO_RAISED
        if b.ntfyEn then s1.hitchNotify b.ntfyHitch else s1)) ∧
  (∀ (q : QueueId) (s : State),
      ((s.queue q.val).timerFrom = none ∨ (s.queue q.val).tmoUs = 0 ∨ (s.queue q.val).count = 0 ∨ (s.queue
        q.val).raised = true ∨ s.now < ((s.queue q.val).timerFrom).getD 0 + 1000 * (s.queue q.val).tmoUs) →
      exec (.staleTail q) s = .next (s))

/-- By a path that may write ENG_CTRL: DRAIN of an ENABLED engine records the write pointers of its command queues and
  makes it DRAINING, or DISABLED where nothing of them is left and it executes nothing; of an ABORTING engine it is
  REFUSED, else it changes nothing. ABORT of an ENABLED or DRAINING engine completes every unstarted command of its
  snapshot ABORTED and makes it ABORTING while a command in execution runs to its safe point; of an ABORTING or
  DISABLED one it changes nothing. ENABLE takes any engine but an ABORTING one back, which refuses it. A path that may
  not write is answered with its status. -/
def Obligations.EngineControl : Prop :=
  (∀ (path : Path) (e : EngineId) (s : State),
      s.accessStatus path true (0x3610 + engineNum e) 2 = .ok → (s.engine (engineNum e)).st = .enabled →
      exec (.engDrain path e) s =
        .next (((s.setEngine (engineNum e) { s.engine (engineNum e) with st := .draining, snap := s.engineQueues
                                                                           (engineNum e) }).settleEngine (engineNum
          e)).respond .ok)) ∧
  (∀ (path : Path) (e : EngineId) (s : State),
      s.accessStatus path true (0x3610 + engineNum e) 2 = .ok → (s.engine (engineNum e)).st = .enabled →
      (s.engine (engineNum e)).running ≠ none →
      exec (.engDrain path e) s =
        .next ((s.setEngine (engineNum e) { s.engine (engineNum e) with st := .draining, snap := s.engineQueues
                                                                          (engineNum e) }).respond .ok)) ∧
  (∀ (path : Path) (e : EngineId) (s : State),
      s.accessStatus path true (0x3610 + engineNum e) 2 = .ok → (s.engine (engineNum e)).st = .enabled →
      (s.engine (engineNum e)).running = none → (s.engine (engineNum e)).held = [] →
      s.engineQueues (engineNum e) = [] →
      ∃ t, exec (.engDrain path e) s = .next t ∧ t.engine (engineNum e) = { s.engine (engineNum e) with st :=
                                                                                                          .disabled,
                                                                                                          snap := [] }
        ∧ t.resp = ⟨.ok, []⟩ ∧ t = { s with engines := t.engines, resp := t.resp }) ∧
  (∀ (path : Path) (e : EngineId) (s : State),
      s.accessStatus path true (0x3610 + engineNum e) 2 = .ok →
      ((s.engine (engineNum e)).st = .draining ∨ (s.engine (engineNum e)).st = .disabled) →
      exec (.engDrain path e) s = .next (s.respond .ok)) ∧
  (∀ (path : Path) (e : EngineId) (s : State),
      s.accessStatus path true (0x3610 + engineNum e) 2 = .ok → (s.engine (engineNum e)).st = .aborting →
      exec (.engDrain path e) s = .next (s.respond .refused)) ∧
  (∀ (path : Path) (e : EngineId) (s : State),
      s.accessStatus path true (0x3610 + engineNum e) 2 = .ok →
      ((s.engine (engineNum e)).st = .enabled ∨ (s.engine (engineNum e)).st = .draining) →
      exec (.engAbort path e) s = .next (
        (((s.engineQueues (engineNum e)).foldl (fun x y => x.abortUpTo y.1 (engineNum e) y.2 (x.queue y.1).count)
          (s.setEngine (engineNum e) { s.engine (engineNum e) with st := .aborting, snap := s.engineQueues (engineNum
                                                                     e) })).settleEngine (engineNum e)).respond .ok)) ∧
  (∀ (path : Path) (e : EngineId) (s : State),
      s.accessStatus path true (0x3610 + engineNum e) 2 = .ok →
      ((s.engine (engineNum e)).st = .aborting ∨ (s.engine (engineNum e)).st = .disabled) →
      exec (.engAbort path e) s = .next (s.respond .ok)) ∧
  (∀ (path : Path) (e : EngineId) (s : State),
      s.accessStatus path true (0x3610 + engineNum e) 2 = .ok → (s.engine (engineNum e)).st ≠ .aborting →
      exec (.engEnable path e) s =
        .next ((s.setEngine (engineNum e) { s.engine (engineNum e) with st := .enabled, snap := [] }).respond .ok)) ∧
  (∀ (path : Path) (e : EngineId) (s : State),
      s.accessStatus path true (0x3610 + engineNum e) 2 = .ok → (s.engine (engineNum e)).st = .aborting →
      exec (.engEnable path e) s = .next (s.respond .refused)) ∧
  (∀ (path : Path) (e : EngineId) (st : Status) (s : State),
      s.accessStatus path true (0x3610 + engineNum e) 2 = st → st ≠ .ok →
      exec (.engDrain path e) s = .next (s.respond st)) ∧
  (∀ (path : Path) (e : EngineId) (st : Status) (s : State),
      s.accessStatus path true (0x3610 + engineNum e) 2 = st → st ≠ .ok →
      exec (.engAbort path e) s = .next (s.respond st)) ∧
  (∀ (path : Path) (e : EngineId) (st : Status) (s : State),
      s.accessStatus path true (0x3610 + engineNum e) 2 = st → st ≠ .ok →
      exec (.engEnable path e) s = .next (s.respond st))

/-- ADDRESS_ACCESS counts the retries of its hops, which gives the state u; lost on a hop it is TIMEOUT. One that arrives
  outside every region is BAD_FORMAT, one that a rule denies its master SECURITY, one of a width or alignment that the
  region does not allow BAD_FORMAT: the first and the third counted in BADADDR and recorded, a refused read answered
  with zeros. Otherwise a read is answered as its region reads, with ECC_UNCORR where its data is uncorrectable,
  counted and recorded by the memory it lies in; a write is applied as its region takes it, a partial write of an
  LPDDR5X line with what its read found. Commons, control words, Tack Room, Stable and LPDDR5X read as their bytes, a
  Hitch table entry as its Hitch, a queue control block, a window control block, an alias and a tile window as those
  define. A write to Commons, a control word, Tack Room or Stable stores its bytes; to LPDDR5X too, noting the plastic
  rows it changes, unless it lies in a far row directory and a fabric operation runs, which refuses it; the Hitch
  table refuses every write; a queue control block, a window control block, an alias and a tile window take it as
  those define. -/
def Obligations.AddressedMemory : Prop :=
  (∀ (m : Master) (addr k : Nat) (acc : Access) (ecc : Ecc) (s : State),
      exec (.addressAccess m addr acc ecc (.lost k)) s = .next ((s.bumpBy Reg.CTRL_RETRY k).respond .timeout)) ∧
  (∀ (m : Master) (addr n k : Nat) (ecc : Ecc) (s u : State),
      s.bumpBy Reg.CTRL_RETRY k = u → outside u.variant addr = true →
      exec (.addressAccess m addr (.read n) ecc (.arrives k)) s =
        .next (((u.bumpBy Reg.BADADDR (linesOf addr n)).logFault { cls := .security, status := .badFormat, sev := some
                                                                     .info, unit := masterCode m, ref := addr
                                                                     }).respond .badFormat (List.replicate n 0))) ∧
  (∀ (m : Master) (addr k : Nat) (data : List Byte) (ecc : Ecc) (s u : State),
      s.bumpBy Reg.CTRL_RETRY k = u → outside u.variant addr = true →
      exec (.addressAccess m addr (.write data) ecc (.arrives k)) s =
        .next (((u.bumpBy Reg.BADADDR (linesOf addr data.length)).logFault { cls := .security, status := .badFormat,
                                                                               sev := some .info, unit := masterCode
                                                                               m, ref := addr }).respond .badFormat)) ∧
  (∀ (d : Option Obj × Bool) (m : Master) (addr n k : Nat) (ecc : Ecc) (s u : State),
      s.bumpBy Reg.CTRL_RETRY k = u → outside u.variant addr = false → u.denial m false addr = some d →
      exec (.addressAccess m addr (.read n) ecc (.arrives k)) s =
        .next ((u.denied m addr n d).respond .security (List.replicate n 0))) ∧
  (∀ (d : Option Obj × Bool) (m : Master) (addr k : Nat) (data : List Byte) (ecc : Ecc) (s u : State),
      s.bumpBy Reg.CTRL_RETRY k = u → outside u.variant addr = false → u.denial m true addr = some d →
      exec (.addressAccess m addr (.write data) ecc (.arrives k)) s =
        .next ((u.denied m addr data.length d).respond .security)) ∧
  (∀ (m : Master) (addr n k : Nat) (ecc : Ecc) (s u : State),
      s.bumpBy Reg.CTRL_RETRY k = u → outside u.variant addr = false → u.denial m false addr = none →
      judgesItself u.variant false addr = false → (n ∉ widthsAt u.variant false addr ∨ addr % n ≠ 0) →
      exec (.addressAccess m addr (.read n) ecc (.arrives k)) s =
        .next (((u.bumpBy Reg.BADADDR (linesOf addr n)).logFault { cls := .security, status := .badFormat, sev := some
                                                                     .info, unit := masterCode m, ref := addr
                                                                     }).respond .badFormat (List.replicate n 0))) ∧
  (∀ (m : Master) (addr k : Nat) (data : List Byte) (ecc : Ecc) (s u : State),
      s.bumpBy Reg.CTRL_RETRY k = u → outside u.variant addr = false → u.denial m true addr = none →
      judgesItself u.variant true addr = false →
      (data.length ∉ widthsAt u.variant true addr ∨ addr % data.length ≠ 0) →
      exec (.addressAccess m addr (.write data) ecc (.arrives k)) s =
        .next (((u.bumpBy Reg.BADADDR (linesOf addr data.length)).logFault { cls := .security, status := .badFormat,
                                                                               sev := some .info, unit := masterCode
                                                                               m, ref := addr }).respond .badFormat)) ∧
  (∀ (m : Master) (addr n k : Nat) (ecc : Ecc) (s u : State),
      s.bumpBy Reg.CTRL_RETRY k = u → outside u.variant addr = false → u.denial m false addr = none →
      (judgesItself u.variant false addr = true ∨ n ∈ widthsAt u.variant false addr ∧ addr % n = 0) →
      exec (.addressAccess m addr (.read n) ecc (.arrives k)) s = .next (
        let r := u.readRegion m addr n
        let e := r.2.2.eccRead m addr ecc
        e.2.respond (if r.1 = .ok then e.1 else r.1) r.2.1)) ∧
  (∀ (m : Master) (addr k : Nat) (data : List Byte) (ecc : Ecc) (s u : State),
      s.bumpBy Reg.CTRL_RETRY k = u → outside u.variant addr = false → u.denial m true addr = none →
      (judgesItself u.variant true addr = true ∨ data.length ∈ widthsAt u.variant true addr ∧ addr % data.length = 0)
        →
      (regionOf u.variant addr).isDdr = false →
      exec (.addressAccess m addr (.write data) ecc (.arrives k)) s =
        .next ((u.writeRegion m addr data).2.respond (u.writeRegion m addr data).1)) ∧
  (∀ (off : Nat) (m : Master) (addr k : Nat) (data : List Byte) (ecc : Ecc) (s u : State),
      s.bumpBy Reg.CTRL_RETRY k = u → outside u.variant addr = false → u.denial m true addr = none →
      (judgesItself u.variant true addr = true ∨ data.length ∈ widthsAt u.variant true addr ∧ addr % data.length = 0)
        →
      regionOf u.variant addr = .ddr off →
      exec (.addressAccess m addr (.write data) ecc (.arrives k)) s = .next (
        let r := u.writeRegion m addr data
        if data.length < 64 ∧ r.1 = .ok then (r.2.eccRead m addr ecc).2.respond (r.2.eccRead m addr ecc).1 else
          r.2.respond r.1)) ∧
  (∀ (m : Master) (addr n : Nat) (u : State),
      (regionOf u.variant addr).plain = true →
      u.readRegion m addr n = (.ok, u.bytes addr n, u)) ∧
  (∀ (m : Master) (addr n h off : Nat) (u : State),
      regionOf u.variant addr = .hitchTable h off →
      u.readRegion m addr n = (.ok, ((leBytes 32 (u.hitchEntry h)).drop off).take n, u)) ∧
  (∀ (m : Master) (addr n q off : Nat) (u : State),
      regionOf u.variant addr = .queueBlock q off →
      u.readRegion m addr n = u.portRead m q off n) ∧
  (∀ (m : Master) (addr n c tl off : Nat) (u : State),
      regionOf u.variant addr = .tile c tl off →
      u.readRegion m addr n = u.tileRead c tl off n) ∧
  (∀ (m : Master) (addr n bk w off : Nat) (u : State),
      regionOf u.variant addr = .windowBlock bk w off →
      u.readRegion m addr n = (.ok, ((leBytes 64 (u.window bk w).block).drop off).take n,
          if off ≤ 20 ∧ 20 < off + n then u.setWindow bk w { u.window bk w with hwm := 0 } else u)) ∧
  (∀ (m : Master) (addr n off : Nat) (u : State),
      (regionOf u.variant addr = .setAlias off ∨ regionOf u.variant addr = .clearAlias off) →
      u.readRegion m addr n = u.readRegion m (controlBase + off) n) ∧
  (∀ (m : Master) (addr : Nat) (data : List Byte) (u : State),
      (regionOf u.variant addr).stores = true →
      u.writeRegion m addr data = (.ok, u.setBytes addr data)) ∧
  (∀ (m : Master) (addr h off : Nat) (data : List Byte) (u : State),
      regionOf u.variant addr = .hitchTable h off →
      u.writeRegion m addr data = (.refused, u.bump Reg.HTAB_WR_REFUSED)) ∧
  (∀ (m : Master) (addr q off : Nat) (data : List Byte) (u : State),
      regionOf u.variant addr = .queueBlock q off →
      u.writeRegion m addr data = ((u.portWrite m q off data).resp.status, u.portWrite m q off data)) ∧
  (∀ (m : Master) (addr bk w off : Nat) (data : List Byte) (u : State),
      regionOf u.variant addr = .windowBlock bk w off →
      u.writeRegion m addr data = u.windowPort m bk w off data) ∧
  (∀ (m : Master) (addr off : Nat) (data : List Byte) (u : State),
      regionOf u.variant addr = .setAlias off →
      u.writeRegion m addr data = u.aliasWrite true off data) ∧
  (∀ (m : Master) (addr off : Nat) (data : List Byte) (u : State),
      regionOf u.variant addr = .clearAlias off →
      u.writeRegion m addr data = u.aliasWrite false off data) ∧
  (∀ (m : Master) (addr c tl off : Nat) (data : List Byte) (u : State),
      regionOf u.variant addr = .tile c tl off →
      u.writeRegion m addr data =
          let r := u.tileWrite m c tl off data
          (r.1, if r.1 = .ok then u.noted r.2 addr data.length else r.2)) ∧
  (∀ (m : Master) (addr off : Nat) (data : List Byte) (u : State),
      regionOf u.variant addr = .ddr off → u.farDirOwner addr = none →
      u.writeRegion m addr data = (.ok, u.noted (u.setBytes addr data) addr data.length)) ∧
  (∀ (m : Master) (addr off c : Nat) (data : List Byte) (u : State),
      regionOf u.variant addr = .ddr off → u.farDirOwner addr = some c →
      u.writeRegion m addr data = if u.fabricBusy then (.refused, u.bumpAt Reg.ROW_WIN_REFUSED c) else (.ok,
        u.setBytes addr data)) ∧
  (∀ (m : Master) (addr : Nat) (u : State),
      u.eccRead m addr .clean = (.ok, u) ∧
          (∀ bk off, regionOf u.variant addr = .commons bk off →
            u.eccRead m addr .corrected = (.ok, u.bump Reg.COMMONS_CORR) ∧
            u.eccRead m addr .uncorrectable = (.eccUncorr, (u.bump Reg.COMMONS_UNCORR).logFault
              { cls := .other, status := .eccUncorr, unit := bk, sub := masterCode m, ref := addr })) ∧
          (∀ off, regionOf u.variant addr = .ddr off →
            u.eccRead m addr .corrected = (.ok, u.bump Reg.DDR_CORR) ∧
            u.eccRead m addr .uncorrectable = (.eccUncorr, (u.bump Reg.DDR_UNCORR).logFault
              { cls := .memUncorr, status := .eccUncorr, ref := addr })))

/-- A descriptor that keeps R281, of a window not in use, replaces the window; of one in use it is REFUSED, one that does
  not keep R281 BAD_FORMAT, one for a firmware window by another path SECURITY, one that may not be written at all its
  status. By a master that may read the bank, CONSUME on an APPEND window of a multiple of 16 up to the fill moves RD,
  else it is BAD_FORMAT; on the skid buffer of a port not disarmed it is REFUSED and counted; CLEAR of bit 0 clears
  WFULL, of another value is BAD_FORMAT; another master is answered SECURITY. A Commons bank cycle grants the first
  two of the stalled and the presented accesses in the owner's and the ports' order and stalls and counts the rest; a
  control bank does so by port priority, its alias operations beside the two grants. So, alone at a Commons bank, an
  access is applied and answered; of two writes to a common word the lower port is answered WCOLL, the higher's data
  standing last; a third access stalls and is counted. A read and a write of a common word make the read BUSY with
  free data in that word. -/
def Obligations.WindowsAndBankGrants : Prop :=
  (∀ (path : Path) (b : BankId) (w : Fin 32) (v : BitVec 64) (x : Window) (s : State),
      s.accessStatus path true (0x2440 + b.val) (w.val + 1) = .ok → ¬ (b.val = 15 ∧ 24 ≤ w.val ∧ path ≠ .sys) →
      s.windowInUse b.val w.val = false → windowOf b.val v.toNat = some x →
      exec (.windowDescriptorWrite path b w v) s = .next ((s.setWindow b.val w.val x).respond .ok)) ∧
  (∀ (path : Path) (b : BankId) (w : Fin 32) (v : BitVec 64) (s : State),
      s.accessStatus path true (0x2440 + b.val) (w.val + 1) = .ok → ¬ (b.val = 15 ∧ 24 ≤ w.val ∧ path ≠ .sys) →
      s.windowInUse b.val w.val = true →
      exec (.windowDescriptorWrite path b w v) s = .next (s.respond .refused)) ∧
  (∀ (path : Path) (b : BankId) (w : Fin 32) (v : BitVec 64) (s : State),
      s.accessStatus path true (0x2440 + b.val) (w.val + 1) = .ok → ¬ (b.val = 15 ∧ 24 ≤ w.val ∧ path ≠ .sys) →
      s.windowInUse b.val w.val = false → windowOf b.val v.toNat = none →
      exec (.windowDescriptorWrite path b w v) s = .next (s.respond .badFormat)) ∧
  (∀ (path : Path) (b : BankId) (w : Fin 32) (v : BitVec 64) (s : State),
      s.accessStatus path true (0x2440 + b.val) (w.val + 1) = .ok → (b.val = 15 ∧ 24 ≤ w.val ∧ path ≠ .sys) →
      exec (.windowDescriptorWrite path b w v) s = .next (s.respond .security)) ∧
  (∀ (path : Path) (b : BankId) (w : Fin 32) (v : BitVec 64) (st : Status) (s : State),
      s.accessStatus path true (0x2440 + b.val) (w.val + 1) = st → st ≠ .ok →
      exec (.windowDescriptorWrite path b w v) s = .next (s.respond st)) ∧
  (∀ (m : Master) (b : BankId) (w : Fin 32) (n : BitVec 32) (s : State),
      ([0, 1, 2, 3, 4, 5].find? fun p => s.skid p == some (b.val, w.val) && s.reg (Reg.PORT_STATE p) != 0) = none →
      mayReadBank m b.val w.val = true → (s.window b.val w.val).mode = .append → n.toNat % 16 = 0 →
      n.toNat ≤ (s.window b.val w.val).fill →
      exec (.windowConsume m b w n) s =
        .next ((s.setWindow b.val w.val { s.window b.val w.val with rd := (s.window b.val w.val).rd + n }).respond
          .ok)) ∧
  (∀ (m : Master) (b : BankId) (w : Fin 32) (n : BitVec 32) (s : State),
      ([0, 1, 2, 3, 4, 5].find? fun p => s.skid p == some (b.val, w.val) && s.reg (Reg.PORT_STATE p) != 0) = none →
      mayReadBank m b.val w.val = true →
      ((s.window b.val w.val).mode ≠ .append ∨ n.toNat % 16 ≠ 0 ∨ (s.window b.val w.val).fill < n.toNat) →
      exec (.windowConsume m b w n) s = .next (s.respond .badFormat)) ∧
  (∀ (m : Master) (b : BankId) (w : Fin 32) (n : BitVec 32) (p : Nat) (s : State),
      mayReadBank m b.val w.val = true →
      ([0, 1, 2, 3, 4, 5].find? fun p => s.skid p == some (b.val, w.val) && s.reg (Reg.PORT_STATE p) != 0) = some p →
      exec (.windowConsume m b w n) s = .next ((s.bump (Reg.SKID_DENIED p)).respond .refused)) ∧
  (∀ (m : Master) (b : BankId) (w : Fin 32) (n : BitVec 32) (s : State),
      mayReadBank m b.val w.val = false →
      exec (.windowConsume m b w n) s = .next (s.respond .security)) ∧
  (∀ (m : Master) (b : BankId) (w : Fin 32) (s : State),
      mayReadBank m b.val w.val = true →
      exec (.windowClear m b w 1) s =
        .next ((s.setWindow b.val w.val { s.window b.val w.val with wfull := false }).respond .ok)) ∧
  (∀ (m : Master) (b : BankId) (w : Fin 32) (v : BitVec 32) (s : State),
      mayReadBank m b.val w.val = true → v ≠ 1 →
      exec (.windowClear m b w v) s = .next (s.respond .badFormat)) ∧
  (∀ (m : Master) (b : BankId) (w : Fin 32) (v : BitVec 32) (s : State),
      mayReadBank m b.val w.val = false →
      exec (.windowClear m b w v) s = .next (s.respond .security)) ∧
  (∀ (b : Fin 24) (accs : List BankAccess) (s : State),
      b.val < 16 →
      exec (.commonsBankGrant b accs) s = .next (
        let all := Assoc.getD s.bankWait b.val [] ++ (accs.filter (presents b.val)).map fun x => ⟨x, 0⟩
        let order := grantOrder (s.viewObj (Reg.BANK_OWNER b.val)) all
        let g := s.grantCycle b.val order
        g.1.stallRest b.val ((order.drop 2).map fun x => { x with run := x.run + 1 }) g.2)) ∧
  (∀ (b : Fin 24) (accs : List BankAccess) (s : State),
      16 ≤ b.val →
      exec (.commonsBankGrant b accs) s = .next (
        let all := Assoc.getD s.bankWait b.val [] ++ (accs.filter (presentsControl s.variant (b.val - 16))).map fun x
          => ⟨x, 0⟩
        let direct := ((grantOrder 0 all).filter fun x => (aliasOf s.variant x.acc).isNone).map fun x =>
          { x with acc := directControl s.variant x.acc }
        let g := s.grantCycle b.val direct
        (((grantOrder 0 all).filter fun x => (aliasOf s.variant x.acc).isSome).foldl (fun x y => x.grantAlias y.acc)
          g.1).stallRest
          b.val ((direct.drop 2).map fun x => { x with run := x.run + 1 }) g.2)) ∧
  (∀ (b : Fin 24) (x : BankAccess) (d : List Byte) (s : State),
      b.val < 16 → Assoc.getD s.bankWait b.val [] = [] → presents b.val x = true → x.write = some d →
      ∃ t, exec (.commonsBankGrant b [x]) s = .next t ∧ t.mem = (s.setBytes x.addr d).mem ∧ t.out = s.out ++
        [.bankResponse x.port .ok []] ∧ Assoc.getD t.bankWait b.val [] = [] ∧ t.reg Reg.BANK_STALL = s.reg
        Reg.BANK_STALL % 2 ^ 64 ∧ t = { s with mem := t.mem, out := t.out, regs := t.regs, bankWait := t.bankWait }) ∧
  (∀ (b : Fin 24) (x : BankAccess) (s : State),
      b.val < 16 → Assoc.getD s.bankWait b.val [] = [] → presents b.val x = true → x.write = none →
      ∃ t, exec (.commonsBankGrant b [x]) s = .next t ∧ t.mem = s.mem ∧ t.out = s.out ++ [.bankResponse x.port .ok
        (s.bytes x.addr x.len)] ∧ Assoc.getD t.bankWait b.val [] = [] ∧ t = { s with mem := t.mem, out := t.out, regs
                                                                                       := t.regs, bankWait :=
                                                                                       t.bankWait }) ∧
  (∀ (b : Fin 24) (x : BankAccess) (y : BankAccess) (d : List Byte) (d' : List Byte) (s : State),
      b.val < 16 → Assoc.getD s.bankWait b.val [] = [] → presents b.val x = true → presents b.val y = true →
      grantOrder (s.viewObj (Reg.BANK_OWNER b.val)) [⟨x, 0⟩, ⟨y, 0⟩] = [⟨x, 0⟩, ⟨y, 0⟩] → x.write = some d →
      y.write = some d' → sharedWords x y ≠ [] →
      ∃ t, exec (.commonsBankGrant b [x, y]) s = .next t ∧ t.mem = (s.setBytes x.addr d).mem ∧ t.out = s.out ++
        [.bankResponse x.port .ok [], .bankResponse y.port .wcoll []] ∧ t = { s with mem := t.mem, out := t.out, regs
                                                                                       := t.regs, bankWait :=
                                                                                       t.bankWait }) ∧
  (∀ (b : Fin 24) (x : BankAccess) (y : BankAccess) (z : BankAccess) (s : State),
      b.val < 16 → Assoc.getD s.bankWait b.val [] = [] → presents b.val x = true → presents b.val y = true →
      presents b.val z = true →
      grantOrder (s.viewObj (Reg.BANK_OWNER b.val)) [⟨x, 0⟩, ⟨y, 0⟩, ⟨z, 0⟩] = [⟨x, 0⟩, ⟨y, 0⟩, ⟨z, 0⟩] →
      sharedWords x y = [] → x.write = none → y.write = none →
      ∃ t, exec (.commonsBankGrant b [x, y, z]) s = .next t ∧ t.mem = s.mem ∧ t.out = s.out ++ [.bankResponse x.port
        .ok (s.bytes x.addr x.len), .bankResponse y.port .ok (s.bytes y.addr y.len)] ∧ Assoc.getD t.bankWait b.val []
        = [⟨z, 1⟩] ∧ t.reg Reg.BANK_STALL = (s.reg Reg.BANK_STALL + 1) % 2 ^ 64 ∧ t = { s with mem := t.mem, out :=
                                                                                                 t.out, regs :=
                                                                                                 t.regs, bankWait :=
                                                                                                 t.bankWait }) ∧
  (∀ (b : Nat) (x y : BankAccess) (d : List Byte) (s : State),
      sharedWords x y ≠ [] → y.write = none → x.write = some d →
      let r := s.undefinedWords y (sharedWords x y)
      s.grantTwo b x y = (((r.2.setBytes x.addr d).bankAnswer x .ok []).bankCount Reg.BUSY_CNT b).bankAnswer y .busy
        r.1) ∧
  (∀ (b : Nat) (x y : BankAccess) (d : List Byte) (s : State),
      sharedWords x y ≠ [] → x.write = none → y.write = some d →
      let r := s.undefinedWords x (sharedWords x y)
      s.grantTwo b x y = (((r.2.bankAnswer x .busy r.1).bankCount Reg.BUSY_CNT b).setBytes y.addr d).bankAnswer y .ok
        [])

/-- DICT_OBJECT_WRITE to an index or sub-index without an object is BAD_FORMAT; of an access that may not be made it is
  answered with that status; to sub-index 0 that only counts it is REFUSED, but at 0x1003, where 0 clears the EMCY
  history; to an RO or RC object REFUSED; with another length than the object's BAD_FORMAT. A write to an object that
  is a command of the fabric or of the device is that command. To any other object it is answered with the status that
  the object gives the value, where that is not OK; where it is, the object holds the value, a Rein that the object
  governs follows, and an RWP object's commit is answered. The object gives BAD_FORMAT for a value out of range, for
  lanes that the port does not have and for a mapping it may not take, REFUSED while an arming locks it and for the
  owner of bank 15; a plain object in none of these cases takes the value. RC_READ of an RC object answers its bytes
  and clears it; of no object it is BAD_FORMAT, of an access that may not be made that status with no data; another
  object is not its command. -/
def Obligations.DictionaryWrites : Prop :=
  (∀ (path : Path) (index : BitVec 16) (sub : BitVec 8) (data : List Byte) (f : WriteFacts) (s : State),
      readTarget index.toNat sub.toNat = none →
      exec (.dictObjectWrite path index sub data f) s = .next (s.respond .badFormat)) ∧
  (∀ (path : Path) (index : BitVec 16) (sub : BitVec 8) (data : List Byte) (f : WriteFacts) (st : Status) (s : State),
      readTarget index.toNat sub.toNat ≠ none → s.accessStatus path true index.toNat sub.toNat = st → st ≠ .ok →
      exec (.dictObjectWrite path index sub data f) s = .next (s.respond st)) ∧
  (∀ (path : Path) (index : BitVec 16) (sub : BitVec 8) (data : List Byte) (f : WriteFacts) (s : State),
      readTarget index.toNat sub.toNat = some none → s.accessStatus path true index.toNat sub.toNat = .ok →
      index.toNat ≠ 0x1003 →
      exec (.dictObjectWrite path index sub data f) s = .next (s.respond .refused)) ∧
  (∀ (path : Path) (index : BitVec 16) (sub : BitVec 8) (data : List Byte) (f : WriteFacts) (s : State),
      readTarget index.toNat sub.toNat = some none → s.accessStatus path true index.toNat sub.toNat = .ok →
      index.toNat = 0x1003 →
      exec (.dictObjectWrite path index sub data f) s = .next (
        if data.length = 1 ∧ leNat data = 0 then ((List.range 8).foldl (fun x k => x.setReg (Reg.EMCY_HISTORY k) 0)
          s).respond .ok
        else s.respond .badFormat)) ∧
  (∀ (path : Path) (index : BitVec 16) (sub : BitVec 8) (data : List Byte) (f : WriteFacts) (o : Obj) (s : State),
      Reg.find index.toNat sub.toNat = some o → s.accessStatus path true index.toNat sub.toNat = .ok →
      (o.acc = .ro ∨ o.acc = .rc) →
      exec (.dictObjectWrite path index sub data f) s = .next (s.respond .refused)) ∧
  (∀ (path : Path) (index : BitVec 16) (sub : BitVec 8) (data : List Byte) (f : WriteFacts) (o : Obj) (s : State),
      Reg.find index.toNat sub.toNat = some o → s.accessStatus path true index.toNat sub.toNat = .ok → o.acc ≠ .ro →
      o.acc ≠ .rc → data.length ≠ o.ty.bytes →
      exec (.dictObjectWrite path index sub data f) s = .next (s.respond .badFormat)) ∧
  (∀ (r : Status × State) (path : Path) (index : BitVec 16) (sub : BitVec 8) (data : List Byte) (f : WriteFacts) (o : Obj) (s : State),
      Reg.find index.toNat sub.toNat = some o → s.accessStatus path true index.toNat sub.toNat = .ok → o.acc ≠ .ro →
      o.acc ≠ .rc → data.length = o.ty.bytes → s.fabricCommand o.index o.sub (leNat data) f = some r →
      exec (.dictObjectWrite path index sub data f) s = .next (r.2.respond r.1)) ∧
  (∀ (r : Status × State) (path : Path) (index : BitVec 16) (sub : BitVec 8) (data : List Byte) (f : WriteFacts) (o : Obj) (s : State),
      Reg.find index.toNat sub.toNat = some o → s.accessStatus path true index.toNat sub.toNat = .ok → o.acc ≠ .ro →
      o.acc ≠ .rc → data.length = o.ty.bytes → s.fabricCommand o.index o.sub (leNat data) f = none →
      s.deviceCommand path o.index o.sub (leNat data) f = some r →
      exec (.dictObjectWrite path index sub data f) s = .next (r.2.respond r.1)) ∧
  (∀ (st : Status) (t : State) (path : Path) (index : BitVec 16) (sub : BitVec 8) (data : List Byte) (f : WriteFacts) (o : Obj) (s : State),
      Reg.find index.toNat sub.toNat = some o → s.accessStatus path true index.toNat sub.toNat = .ok → o.acc ≠ .ro →
      o.acc ≠ .rc → data.length = o.ty.bytes → s.fabricCommand o.index o.sub (leNat data) f = none →
      s.deviceCommand path o.index o.sub (leNat data) f = none → s.writePlain o (leNat data) = (st, t) → st ≠ .ok →
      exec (.dictObjectWrite path index sub data f) s = .next (t.respond st)) ∧
  (∀ (t : State) (path : Path) (index : BitVec 16) (sub : BitVec 8) (data : List Byte) (f : WriteFacts) (o : Obj) (s : State),
      Reg.find index.toNat sub.toNat = some o → s.accessStatus path true index.toNat sub.toNat = .ok → o.acc ≠ .ro →
      o.acc ≠ .rc → data.length = o.ty.bytes → s.fabricCommand o.index o.sub (leNat data) f = none →
      s.deviceCommand path o.index o.sub (leNat data) f = none → s.writePlain o (leNat data) = (.ok, t) →
      o.acc ≠ .rwp →
      exec (.dictObjectWrite path index sub data f) s = .next ((t.afterWrite o.index).respond .ok)) ∧
  (∀ (t : State) (path : Path) (index : BitVec 16) (sub : BitVec 8) (data : List Byte) (f : WriteFacts) (o : Obj) (s : State),
      Reg.find index.toNat sub.toNat = some o → s.accessStatus path true index.toNat sub.toNat = .ok → o.acc ≠ .ro →
      o.acc ≠ .rc → data.length = o.ty.bytes → s.fabricCommand o.index o.sub (leNat data) f = none →
      s.deviceCommand path o.index o.sub (leNat data) f = none → s.writePlain o (leNat data) = (.ok, t) →
      o.acc = .rwp →
      exec (.dictObjectWrite path index sub data f) s =
        .next (((t.afterWrite o.index).persistCommit f.store).2.respond ((t.afterWrite o.index).persistCommit
          f.store).1)) ∧
  (∀ (o : Obj) (v : Nat) (s : State),
      o.acc ≠ .ro → o.acc ≠ .rc →
      (s.rangeOk o v = false ∨ noLanes o.index o.sub = true ∨ s.mappingMay o.index o.sub v = false) →
      s.writePlain o v = (.badFormat, s)) ∧
  (∀ (o : Obj) (v p : Nat) (s : State),
      o.acc ≠ .ro → o.acc ≠ .rc → s.rangeOk o v = true → noLanes o.index o.sub = false →
      s.mappingMay o.index o.sub v = true →
      (lockedPort o.index o.sub = some p ∧ s.reg (Reg.PORT_STATE p) ≠ 0 ∨ o.index = 0x2410 ∧ o.sub = 0x10) →
      s.writePlain o v = (.refused, s)) ∧
  (∀ (o : Obj) (v : Nat) (s : State),
      o.acc ≠ .ro → o.acc ≠ .rc → o.acc ≠ .w1c → s.rangeOk o v = true → noLanes o.index o.sub = false →
      s.mappingMay o.index o.sub v = true → lockedPort o.index o.sub = none → ¬ (o.index = 0x2410 ∧ o.sub = 0x10) →
      s.shadowWrite o.index o.sub v = none → o.index ≠ 0x3510 → atReleaseObj o.index o.sub = false →
      s.writePlain o v = (.ok, s.setReg o v)) ∧
  (∀ (path : Path) (index : BitVec 16) (sub : BitVec 8) (o : Obj) (s : State),
      Reg.find index.toNat sub.toNat = some o → o.acc = .rc → s.accessStatus path false index.toNat sub.toNat = .ok →
      exec (.rcRead path index sub) s = .next (
        (if 0x6140 ≤ o.index ∧ o.index ≤ 0x6145 ∧ o.sub = 0x17 then s.clearPeak (o.index - 0x6140) else s.setReg o
          0).respond .ok
          (o.ty.encode (s.viewObj o)))) ∧
  (∀ (path : Path) (index : BitVec 16) (sub : BitVec 8) (o : Obj) (st : Status) (s : State),
      Reg.find index.toNat sub.toNat = some o → o.acc = .rc → s.accessStatus path false index.toNat sub.toNat = st →
      st ≠ .ok →
      exec (.rcRead path index sub) s = .next (s.respond st)) ∧
  (∀ (path : Path) (index : BitVec 16) (sub : BitVec 8) (s : State),
      Reg.find index.toNat sub.toNat = none →
      exec (.rcRead path index sub) s = .next (s.respond .badFormat)) ∧
  (∀ (path : Path) (index : BitVec 16) (sub : BitVec 8) (o : Obj) (s : State),
      Reg.find index.toNat sub.toNat = some o → o.acc ≠ .rc →
      exec (.rcRead path index sub) s = .next (s))

/-- Where the access may be made: ROUTE_ARM and SCHED_ARM in IDLE validate the shadow; one that passes enters ARMED, a
  failure is answered BAD_FORMAT and recorded with its place; outside IDLE they are REFUSED. ROUTE_DISARM and
  SCHED_DISARM return ARMED to IDLE, change nothing in IDLE, and are REFUSED in SWITCHING. ROUTE_SWITCH on the step
  master with every device ARMED enters SWITCHING and is set to be broadcast, else it is REFUSED; SCHED_SWITCH in
  ARMED waits for the next release, else it is REFUSED. SCHED_VERSION_SWITCH, with a drain begun and every switch
  input empty, swaps the slot versions, ends the drain, counts its time, notes the release that began it and returns
  to IDLE; otherwise it does nothing. -/
def Obligations.RouteAndScheduleSwitching : Prop :=
  (∀ (path : Path) (s : State),
      s.accessStatus path true 0x3300 3 = .ok → s.reg Reg.ROUTE_STATE = 0 → s.routeCheck s.routeShadow true = none →
      exec (.routeArm path) s = .next ((s.setReg Reg.ROUTE_STATE 1).respond .ok)) ∧
  (∀ (path : Path) (f : CheckFail) (s : State),
      s.accessStatus path true 0x3300 3 = .ok → s.reg Reg.ROUTE_STATE = 0 → s.routeCheck s.routeShadow true = some f →
      exec (.routeArm path) s =
        .next ((s.logFault { cls := .configReject, status := .badFormat, unit := f.unit, sub := f.sub, ref := f.ref +
                               2 ^ 40 * f.check }).respond .badFormat)) ∧
  (∀ (path : Path) (s : State),
      s.accessStatus path true 0x3300 3 = .ok → s.reg Reg.ROUTE_STATE ≠ 0 →
      exec (.routeArm path) s = .next (s.respond .refused)) ∧
  (∀ (path : Path) (s : State),
      s.accessStatus path true 0x3300 3 = .ok → s.reg Reg.ROUTE_STATE = 1 →
      exec (.routeDisarm path) s = .next ((s.setReg Reg.ROUTE_STATE 0).respond .ok)) ∧
  (∀ (path : Path) (s : State),
      s.accessStatus path true 0x3300 3 = .ok → s.reg Reg.ROUTE_STATE = 0 →
      exec (.routeDisarm path) s = .next (s.respond .ok)) ∧
  (∀ (path : Path) (s : State),
      s.accessStatus path true 0x3300 3 = .ok → s.reg Reg.ROUTE_STATE ≠ 0 → s.reg Reg.ROUTE_STATE ≠ 1 →
      exec (.routeDisarm path) s = .next (s.respond .refused)) ∧
  (∀ (path : Path) (s : State),
      s.accessStatus path true 0x3300 4 = .ok → s.isMaster = true → s.reg Reg.ROUTE_STATE = 1 →
      exec (.routeSwitch path true) s =
        .next (((s.setReg Reg.ROUTE_STATE 2).modFabric fun x => { x with sends := x.sends ++ [(4, 0)] }).respond .ok)) ∧
  (∀ (path : Path) (others : Bool) (s : State),
      s.accessStatus path true 0x3300 4 = .ok → (s.isMaster && others && s.reg Reg.ROUTE_STATE == 1) = false →
      exec (.routeSwitch path others) s = .next (s.respond .refused)) ∧
  (∀ (path : Path) (s : State),
      s.accessStatus path true 0x3400 0x0C = .ok → s.reg Reg.SCHED_STATE = 0 → s.slotCheck (!s.slotVersion) = none →
      exec (.schedArm path) s = .next ((s.setReg Reg.SCHED_STATE 1).respond .ok)) ∧
  (∀ (path : Path) (f : CheckFail) (s : State),
      s.accessStatus path true 0x3400 0x0C = .ok → s.reg Reg.SCHED_STATE = 0 → s.slotCheck (!s.slotVersion) = some f →
      exec (.schedArm path) s =
        .next ((s.logFault { cls := .configReject, status := .badFormat, unit := f.unit, sub := f.sub, ref := f.ref
                               }).respond .badFormat)) ∧
  (∀ (path : Path) (s : State),
      s.accessStatus path true 0x3400 0x0C = .ok → s.reg Reg.SCHED_STATE ≠ 0 →
      exec (.schedArm path) s = .next (s.respond .refused)) ∧
  (∀ (path : Path) (s : State),
      s.accessStatus path true 0x3400 0x0C = .ok → s.reg Reg.SCHED_STATE ≠ 2 →
      exec (.schedDisarm path) s = .next ((s.setReg Reg.SCHED_STATE 0).respond .ok)) ∧
  (∀ (path : Path) (s : State),
      s.accessStatus path true 0x3400 0x0C = .ok → s.reg Reg.SCHED_STATE = 2 →
      exec (.schedDisarm path) s = .next (s.respond .refused)) ∧
  (∀ (path : Path) (s : State),
      s.accessStatus path true 0x3400 0x0D = .ok → s.reg Reg.SCHED_STATE = 1 →
      exec (.schedSwitch path) s = .next ((s.setReg Reg.SCHED_STATE 2).respond .ok)) ∧
  (∀ (path : Path) (s : State),
      s.accessStatus path true 0x3400 0x0D = .ok → s.reg Reg.SCHED_STATE ≠ 1 →
      exec (.schedSwitch path) s = .next (s.respond .refused)) ∧
  (∀ (from' : Nat) (s : State),
      s.drainFrom = some from' → (s.switchIn.any fun q => q.2 != []) = false →
      exec (.schedVersionSwitch) s = .next (
        ((State.bumpBy { s with slotVersion := !s.slotVersion, drainFrom := none } Reg.SCHED_DRAIN_NS (s.now -
          from')).setReg
          Reg.SCHED_SWITCH_STEP s.fabric.drainStep).setReg Reg.SCHED_STATE 0)) ∧
  (∀ (s : State),
      (s.drainFrom = none ∨ (s.switchIn.any fun q => q.2 != []) = true) →
      exec (.schedVersionSwitch) s = .next (s))

/-- A write of PWR_REQ that may be made in RUN: one for RUN answers OK; one that nothing refuses enters IDLE, HOLD or
  WATCH, as the step below gives them, or OFF after a flush with the feed's wake as WAKE_EN has it; a refused one
  changes nothing but the count of its refuser. One that may not be made is answered with its status. In a sleep state
  the write first wakes the device over a path that wakes it, or, where that path may not wake it, does not arrive;
  over the firmware's own path a request for the present state is OK, for a lighter one REFUSED, and a deeper one is
  judged as in RUN. An enabled source that fires in a sleep state wakes the device; in RUN the CAN frames held go to
  the CANopen stack, as after the wake, which a waking CAN frame joins where fewer than 8 are held; a source that is
  not enabled does nothing. A WAKE timer whose edge has come and Spur in WATCH wake it likewise. A wake sets PWR_STATE
  to RUN, WAKE_CAUSE and WAKES, counts the refuser where the entry was still under way, wakes the links of HOLD and
  WATCH, lets the Reins follow, and from WATCH restores what was parked or has LPDDR5X trained; after a tamper event
  in WATCH it is a cold start. -/
def Obligations.PowerStateRequests : Prop :=
  (∀ (path : Path) (s : State),
      s.accessStatus path true 0x2100 2 = .ok → s.reg Reg.PWR_STATE = 0 →
      exec (.pwrReqRun path) s = .next (s.respond .ok)) ∧
  (∀ (path : Path) (s : State),
      s.accessStatus path true 0x2100 2 = .ok → s.reg Reg.PWR_STATE = 0 → s.refuser 1 = none →
      ∃ t, exec (.pwrReqIdle path) s = .next t ∧ t = (s.enterSleep 1).respond .ok ∧ t.reg Reg.PWR_STATE = 1 ∧ t.mem =
        s.mem ∧ t.power.entryUntil = s.now + 50000 ∧ t.timing.frozen.isSome = true) ∧
  (∀ (path : Path) (s : State),
      s.accessStatus path true 0x2100 2 = .ok → s.reg Reg.PWR_STATE = 0 → s.refuser 2 = none →
      ∃ t, exec (.pwrReqHold path) s = .next t ∧ t = (s.enterSleep 2).respond .ok ∧ t.reg Reg.PWR_STATE = 2 ∧
        t.power.entryUntil = s.now + 1000000) ∧
  (∀ (path : Path) (s : State),
      s.accessStatus path true 0x2100 2 = .ok → s.reg Reg.PWR_STATE = 0 → s.refuser 3 = none →
      ∃ t, exec (.pwrReqWatch path) s = .next t ∧ t = (s.enterSleep 3).respond .ok ∧ t.reg Reg.PWR_STATE = 3 ∧
        t.hitches = [] ∧ t.tiles = [] ∧ t.power.parked = s.parks) ∧
  (∀ (path : Path) (s : State),
      s.accessStatus path true 0x2100 2 = .ok → s.reg Reg.PWR_STATE = 0 → s.refuser 4 = none →
      ∃ t, exec (.pwrReqOff path) s = .next t ∧ t = ((s.flushOff 6).modPower fun p => { p with feedWake := s.bit
                                                                                                 Reg.WAKE_EN 6
                                                                                                 }).respond .ok ∧
        t.power.off = true) ∧
  (∀ (path : Path) (i : Nat) (s : State),
      s.accessStatus path true 0x2100 2 = .ok → s.reg Reg.PWR_STATE = 0 → s.refuser 1 = some i →
      exec (.pwrReqIdle path) s = .next ((s.countRefuser i).respond .refused)) ∧
  (∀ (path : Path) (i : Nat) (s : State),
      s.accessStatus path true 0x2100 2 = .ok → s.reg Reg.PWR_STATE = 0 → s.refuser 2 = some i →
      exec (.pwrReqHold path) s = .next ((s.countRefuser i).respond .refused)) ∧
  (∀ (path : Path) (i : Nat) (s : State),
      s.accessStatus path true 0x2100 2 = .ok → s.reg Reg.PWR_STATE = 0 → s.refuser 3 = some i →
      exec (.pwrReqWatch path) s = .next ((s.countRefuser i).respond .refused)) ∧
  (∀ (path : Path) (i : Nat) (s : State),
      s.accessStatus path true 0x2100 2 = .ok → s.reg Reg.PWR_STATE = 0 → s.refuser 4 = some i →
      exec (.pwrReqOff path) s = .next ((s.countRefuser i).respond .refused)) ∧
  (∀ (path : Path) (st : Status) (s : State),
      s.accessStatus path true 0x2100 2 = st → st ≠ .ok → s.reg Reg.PWR_STATE = 0 →
      exec (.pwrReqRun path) s = .next (s.respond st)) ∧
  (∀ (path : Path) (st : Status) (s : State),
      s.accessStatus path true 0x2100 2 = st → st ≠ .ok → s.reg Reg.PWR_STATE = 0 →
      exec (.pwrReqIdle path) s = .next (s.respond st)) ∧
  (∀ (path : Path) (st : Status) (s : State),
      s.accessStatus path true 0x2100 2 = st → st ≠ .ok → s.reg Reg.PWR_STATE = 0 →
      exec (.pwrReqHold path) s = .next (s.respond st)) ∧
  (∀ (path : Path) (st : Status) (s : State),
      s.accessStatus path true 0x2100 2 = st → st ≠ .ok → s.reg Reg.PWR_STATE = 0 →
      exec (.pwrReqWatch path) s = .next (s.respond st)) ∧
  (∀ (path : Path) (st : Status) (s : State),
      s.accessStatus path true 0x2100 2 = st → st ≠ .ok → s.reg Reg.PWR_STATE = 0 →
      exec (.pwrReqOff path) s = .next (s.respond st)) ∧
  (∀ (path : Path) (s : State),
      s.reg Reg.PWR_STATE ≠ 0 → s.pathWake path = none →
      exec (.pwrReqRun path) s = .next (s.writeObject path 0x2100 2 fun x => x.request 0)) ∧
  (∀ (path : Path) (s : State),
      s.reg Reg.PWR_STATE ≠ 0 → s.pathWake path = none →
      exec (.pwrReqIdle path) s = .next (s.writeObject path 0x2100 2 fun x => x.request 1)) ∧
  (∀ (path : Path) (s : State),
      s.reg Reg.PWR_STATE ≠ 0 → s.pathWake path = none →
      exec (.pwrReqHold path) s = .next (s.writeObject path 0x2100 2 fun x => x.request 2)) ∧
  (∀ (path : Path) (s : State),
      s.reg Reg.PWR_STATE ≠ 0 → s.pathWake path = none →
      exec (.pwrReqWatch path) s = .next (s.writeObject path 0x2100 2 fun x => x.request 3)) ∧
  (∀ (path : Path) (s : State),
      s.reg Reg.PWR_STATE ≠ 0 → s.pathWake path = none →
      exec (.pwrReqOff path) s = .next (s.writeObject path 0x2100 2 fun x => x.request 4)) ∧
  (∀ (path : Path) (w : WakeSource) (s : State),
      s.reg Reg.PWR_STATE ≠ 0 → s.pathWake path = some w → s.wakes w = true →
      exec (.pwrReqRun path) s =
        .next ((s.wakeUp (wakeBit w) (wakeRefuser w)).writeObject path 0x2100 2 fun x => x.request 0)) ∧
  (∀ (path : Path) (w : WakeSource) (s : State),
      s.reg Reg.PWR_STATE ≠ 0 → s.pathWake path = some w → s.wakes w = true →
      exec (.pwrReqIdle path) s =
        .next ((s.wakeUp (wakeBit w) (wakeRefuser w)).writeObject path 0x2100 2 fun x => x.request 1)) ∧
  (∀ (path : Path) (w : WakeSource) (s : State),
      s.reg Reg.PWR_STATE ≠ 0 → s.pathWake path = some w → s.wakes w = true →
      exec (.pwrReqHold path) s =
        .next ((s.wakeUp (wakeBit w) (wakeRefuser w)).writeObject path 0x2100 2 fun x => x.request 2)) ∧
  (∀ (path : Path) (w : WakeSource) (s : State),
      s.reg Reg.PWR_STATE ≠ 0 → s.pathWake path = some w → s.wakes w = true →
      exec (.pwrReqWatch path) s =
        .next ((s.wakeUp (wakeBit w) (wakeRefuser w)).writeObject path 0x2100 2 fun x => x.request 3)) ∧
  (∀ (path : Path) (w : WakeSource) (s : State),
      s.reg Reg.PWR_STATE ≠ 0 → s.pathWake path = some w → s.wakes w = true →
      exec (.pwrReqOff path) s =
        .next ((s.wakeUp (wakeBit w) (wakeRefuser w)).writeObject path 0x2100 2 fun x => x.request 4)) ∧
  (∀ (path : Path) (w : WakeSource) (s : State),
      s.reg Reg.PWR_STATE ≠ 0 → s.pathWake path = some w → s.wakes w = false →
      exec (.pwrReqRun path) s = .next (s)) ∧
  (∀ (path : Path) (w : WakeSource) (s : State),
      s.reg Reg.PWR_STATE ≠ 0 → s.pathWake path = some w → s.wakes w = false →
      exec (.pwrReqIdle path) s = .next (s)) ∧
  (∀ (path : Path) (w : WakeSource) (s : State),
      s.reg Reg.PWR_STATE ≠ 0 → s.pathWake path = some w → s.wakes w = false →
      exec (.pwrReqHold path) s = .next (s)) ∧
  (∀ (path : Path) (w : WakeSource) (s : State),
      s.reg Reg.PWR_STATE ≠ 0 → s.pathWake path = some w → s.wakes w = false →
      exec (.pwrReqWatch path) s = .next (s)) ∧
  (∀ (path : Path) (w : WakeSource) (s : State),
      s.reg Reg.PWR_STATE ≠ 0 → s.pathWake path = some w → s.wakes w = false →
      exec (.pwrReqOff path) s = .next (s)) ∧
  (∀ (v : Nat) (s : State),
      s.request v =
          if v = s.reg Reg.PWR_STATE then (.ok, s)
          else if v < s.reg Reg.PWR_STATE then (.refused, s)
          else match s.refuser v with
            | some i => (.refused, s.countRefuser i)
            | none =>
              if v = 4 then (.ok, (s.flushOff 6).modPower fun p => { p with feedWake := s.bit Reg.WAKE_EN 6 }) else
                (.ok, s.enterSleep v)) ∧
  (∀ (w : WakeSource) (s : State),
      s.reg Reg.PWR_STATE ≠ 0 → s.wakes w = true → wakeBit w ≠ 2 →
      exec (.wake w) s = .next (
        let u := s.wakeUp (wakeBit w) (wakeRefuser w)
        (if (u).reg Reg.PWR_STATE = 0 then (u).takeHeld else u))) ∧
  (∀ (id : BitVec 11) (data : List Byte) (f : WriteFacts) (s : State),
      s.reg Reg.PWR_STATE ≠ 0 → s.wakes (.can id data f) = true →
      exec (.wake (.can id data f)) s = .next (
        let u := s.wakeUp 2 10
        let v := if s.power.heldCan.length < 8 then u.modPower fun p => { p with heldCan := p.heldCan ++ [(id.toNat,
                                                                                   data, f)] } else u
        (if (v).reg Reg.PWR_STATE = 0 then (v).takeHeld else v))) ∧
  (∀ (w : WakeSource) (s : State),
      s.reg Reg.PWR_STATE = 0 →
      exec (.wake w) s = .next (s.takeHeld)) ∧
  (∀ (w : WakeSource) (s : State),
      s.reg Reg.PWR_STATE ≠ 0 → s.wakes w = false →
      exec (.wake w) s = .next (s)) ∧
  (∀ (k : TimerId) (at' : Nat) (s : State),
      Assoc.get? k.val s.timing.wakeAt = some at' → at' ≤ s.now → s.reg Reg.PWR_STATE ≠ 0 →
      s.bit Reg.WAKE_EN 5 = true →
      exec (.timerWake k) s = .next (s.wakeUp 5 14)) ∧
  (∀ (k : TimerId) (s : State),
      (Assoc.get? k.val s.timing.wakeAt = none ∨ s.now < (Assoc.get? k.val s.timing.wakeAt).getD 0 ∨ s.reg
        Reg.PWR_STATE = 0 ∨ s.bit Reg.WAKE_EN 5 = false) →
      exec (.timerWake k) s = .next (s)) ∧
  (∀ (spur : Bool) (s : State),
      s.reg Reg.PWR_STATE = 3 → s.bit Reg.WAKE_EN 0 = true → (s.reg Reg.WAKE_MODE ≠ 1 ∨ spur = true) →
      exec (.spurDetect spur) s = .next (s.wakeUp 0 11)) ∧
  (∀ (spur : Bool) (s : State),
      (s.reg Reg.PWR_STATE ≠ 3 ∨ s.bit Reg.WAKE_EN 0 = false ∨ s.reg Reg.WAKE_MODE = 1 ∧ spur = false) →
      exec (.spurDetect spur) s = .next (s)) ∧
  (∀ (cause refuser : Nat) (s : State),
      s.security.coldWake = false →
      s.wakeUp cause refuser =
          let s1 := if s.now < s.power.entryUntil then s.countRefuser refuser else s
          let u := ((s1.setPwr 0).setReg Reg.WAKE_CAUSE (2 ^ cause)).bump Reg.WAKES
          let s2 := (List.range 6).foldl State.reinDrive
            (State.linksWake { u with timing := { u.timing with dueEdge := slowCount s.now + 1 } } (s.reg
              Reg.PWR_STATE))
          if s.reg Reg.PWR_STATE ≠ 3 then s2
          else if s.power.parked then (s2.modPower fun p => { p with parked := false }).unpark
          else (s2.modPower fun p => { p with parked := false }).setReg Reg.DDR_STATE 1) ∧
  (∀ (cause refuser : Nat) (s : State),
      s.security.coldWake = true →
      s.wakeUp cause refuser = s.coldWake)

/-- An edge, but in OFF, where nothing is sensed, sets the level of its pin, goes to its channel, and in a sleep state is
  a wake source. The input accepts an edge 4 timer cycles after the one before it, and none sooner. An accepted edge
  of a kind not selected does nothing more; one selected advances POS modulo 2^32, and every DIV-th is a capture of
  the step clock, while the block is frozen of the coarse clock with COARSE set. A capture with the shadow register
  free lands, or goes into the shadow register where CAP was read in the cycle, CAPF then standing as it was; with
  CAPF set otherwise, or the shadow occupied, it is an overcapture, flagged and counted. One in the shadow register
  lands in a later cycle. A landing sets CAP, CAPPOS and CAPF, frees the shadow and signals its Hitch under HITCH_EN.
  A read of CAP that may be made answers CAP, copies CAPPOS into CAPPOS_RD, is noted with its cycle, and clears CAPF
  unless a capture waits in the shadow register; another is answered with its status. -/
def Obligations.TimersAndCapture : Prop :=
  (∀ (c : EncId) (rising : Bool) (s : State),
      s.power.off = false →
      exec (.encEdge c rising) s =
        .next (((s.setBit Reg.PIN_IN (4 + c.val) rising).encEdge c.val rising).wakeBy .encoder)) ∧
  (∀ (c : EncId) (rising : Bool) (s : State),
      s.power.off = true →
      exec (.encEdge c rising) s = .next (s)) ∧
  (∀ (c : Nat) (rising : Bool) (s : State),
      (∀ a ∈ (s.encoder c).edgeAt, a + 40 ≤ s.now) →
      s.encEdge c rising = (s.setEncoder c { s.encoder c with edgeAt := some s.now }).takeEdge c rising) ∧
  (∀ (c : Nat) (rising : Bool) (s : State),
      (∃ a ∈ (s.encoder c).edgeAt, s.now < a + 40) →
      s.encEdge c rising = s) ∧
  (∀ (c : Nat) (rising : Bool) (s : State),
      natBit (s.reg (Reg.ECTRL c)) (if rising then 0 else 1) = false →
      s.takeEdge c rising = s) ∧
  (∀ (c : Nat) (rising : Bool) (s : State),
      natBit (s.reg (Reg.ECTRL c)) (if rising then 0 else 1) = true →
      (s.encoder c).edges + 1 < max 1 (bitField (s.reg (Reg.ECTRL c)) 16 16) →
      s.takeEdge c rising = (s.setReg (Reg.POS c) ((s.reg (Reg.POS c) + 1) % 2 ^ 32)).setEncoder c { s.encoder c with
        edges := (s.encoder c).edges + 1 }) ∧
  (∀ (c : Nat) (rising : Bool) (s : State),
      natBit (s.reg (Reg.ECTRL c)) (if rising then 0 else 1) = true →
      max 1 (bitField (s.reg (Reg.ECTRL c)) 16 16) ≤ (s.encoder c).edges + 1 → s.timersFrozen = false →
      s.takeEdge c rising = ((s.setReg (Reg.POS c) ((s.reg (Reg.POS c) + 1) % 2 ^ 32)).setEncoder c { s.encoder c with
        edges := 0 }).capture c s.clock ((s.reg (Reg.POS c) + 1) % 2 ^ 32)) ∧
  (∀ (c : Nat) (rising : Bool) (s : State),
      natBit (s.reg (Reg.ECTRL c)) (if rising then 0 else 1) = true →
      max 1 (bitField (s.reg (Reg.ECTRL c)) 16 16) ≤ (s.encoder c).edges + 1 → s.timersFrozen = true →
      let s1 := (s.setReg (Reg.POS c) ((s.reg (Reg.POS c) + 1) % 2 ^ 32)).setEncoder c { s.encoder c with edges := 0 }
      s.takeEdge c rising = (s1.capture c s1.coarseClock ((s.reg (Reg.POS c) + 1) % 2 ^ 32)).raise (Reg.ESTAT c) 2) ∧
  (∀ (e : Nat) (s : State),
      s.timing.frozen = some e →
      s.coarseClock = s.clock + ((slowCount s.now - e) * 1953125 + s.timing.carry) / 64) ∧
  (∀ (c cap pos : Nat) (s : State),
      (s.encoder c).shadow = none → (∀ r ∈ (s.encoder c).readAt, r.1 ≠ s.clock / 10) → s.bit (Reg.ESTAT c) 0 = false →
      s.capture c cap pos = s.landCapture c cap pos) ∧
  (∀ (c cap pos : Nat) (s : State),
      ((s.encoder c).shadow ≠ none ∨ s.bit (Reg.ESTAT c) 0 = true ∧ ∀ r ∈ (s.encoder c).readAt, r.1 ≠ s.clock / 10) →
      s.capture c cap pos = (s.raise (Reg.ESTAT c) 1).bump (Reg.OVC_CNT c)) ∧
  (∀ (was : Bool) (c cap pos : Nat) (s : State),
      (s.encoder c).shadow = none → (s.encoder c).readAt = some (s.clock / 10, was) →
      s.capture c cap pos = (s.setEncoder c { s.encoder c with shadow := some (cap, pos, s.clock / 10) }).setBit
        (Reg.ESTAT c) 0 was) ∧
  (∀ (c cap pos : Nat) (s : State),
      s.landCapture c cap pos =
          let s1 := ((s.setReg (Reg.CAP c) cap).setBit (Reg.ESTAT c) 0 true).setEncoder c { s.encoder c with capPos :=
                                                                                                               pos,
                                                                                                               shadow
                                                                                                               := none
                                                                                                               }
          if s.bit (Reg.ECTRL c) 2 then s1.hitchNotify (s.reg (Reg.ENC_HITCH c)) else s1) ∧
  (∀ (c : EncId) (cap pos cycle : Nat) (s : State),
      (s.encoder c.val).shadow = some (cap, pos, cycle) → cycle < s.clock / 10 →
      exec (.captureShadowLand c) s = .next (s.landCapture c.val cap pos)) ∧
  (∀ (c : EncId) (s : State),
      (∀ x ∈ (s.encoder c.val).shadow, s.clock / 10 ≤ x.2.2) →
      exec (.captureShadowLand c) s = .next (s)) ∧
  (∀ (path : Path) (c : EncId) (s : State),
      s.accessStatus path false (0x2220 + c.val) 3 = .ok →
      exec (.capRead path c) s = .next (
        let s1 := (s.setReg (Reg.CAPPOS_RD c.val) (s.encoder c.val).capPos).setEncoder c.val { s.encoder c.val with
          readAt := some (s.clock / 10, s.bit (Reg.ESTAT c.val) 0) }
        (if (s.encoder c.val).shadow.isSome then s1 else s1.setBit (Reg.ESTAT c.val) 0 false).respond .ok (leBytes 8
          (s.reg (Reg.CAP c.val))))) ∧
  (∀ (path : Path) (c : EncId) (st : Status) (s : State),
      s.accessStatus path false (0x2220 + c.val) 3 = st → st ≠ .ok →
      exec (.capRead path c) s = .next (s.respond st))

/-- User code of a sequencer that does not wait: a read of DOORBELL takes the oldest record of the FIFO, 0xFFFF_FFFF from
  an empty one, which stays empty; DB_LEVEL, STEP_DONE and EPOCH read the FIFO's fill, the newest complete step and
  the epoch, low 32 bits, and change nothing. A write of one of them is an illegal instruction, mcause 2. WFI makes a
  running sequencer wait; one that waits does nothing, nor does WFI of one that does not run. An exception of a
  running sequencer by its cause, and a load or store outside user code's reach as cause 5 or 7, clears its SEQ_RUN
  bit and its wait, counts SEQ_FAULT and records cause and mepc under WATCHDOG; a load or store within reach raises
  none, and one that does not run raises none. User code reaches the control blocks of queues that name its sequencer
  as producer or consumer, and the Commons banks whose owner it is (log entry 101). -/
def Obligations.SequencerDoorbellAndException : Prop :=
  (∀ (c : ClusterId) (d : BitVec 32) (l : List (BitVec 32)) (s : State),
      s.seqWait.contains c.val = false → (s.router c.val).doorbell = d :: l →
      exec (.doorbellRead c (.read 0)) s =
        .next ((s.setRouter c.val { s.router c.val with doorbell := l }).respond .ok (leBytes 4 d.toNat))) ∧
  (∀ (c : ClusterId) (s : State),
      s.seqWait.contains c.val = false → (s.router c.val).doorbell = [] →
      exec (.doorbellRead c (.read 0)) s = .next (s.respond .ok [255, 255, 255, 255])) ∧
  (∀ (c : ClusterId) (s : State),
      s.seqWait.contains c.val = false →
      exec (.doorbellRead c (.read 1)) s = .next (s.respond .ok (leBytes 4 (s.router c.val).doorbell.length))) ∧
  (∀ (c : ClusterId) (s : State),
      s.seqWait.contains c.val = false →
      exec (.doorbellRead c (.read 2)) s = .next (s.respond .ok (leBytes 4 (s.reg Reg.STEP_COMPLETE % 2 ^ 32)))) ∧
  (∀ (c : ClusterId) (s : State),
      s.seqWait.contains c.val = false →
      exec (.doorbellRead c (.read 3)) s = .next (s.respond .ok (leBytes 4 (s.reg Reg.EPOCH % 2 ^ 32)))) ∧
  (∀ (c : ClusterId) (mepc : BitVec 32) (s : State),
      s.seqWait.contains c.val = false → natBit (s.reg Reg.SEQ_RUN) c.val = true →
      exec (.doorbellRead c (.write mepc)) s =
        .next ((((s.setReg Reg.SEQ_RUN (setBitField (s.reg Reg.SEQ_RUN) c.val 1 0)).wakeSeq c.val).bump
          Reg.SEQ_FAULT).logFault { cls := .watchdog, status := .aborted, unit := c.val, sub := 2, ref := mepc.toNat
                                      })) ∧
  (∀ (c : ClusterId) (mepc : BitVec 32) (s : State),
      s.seqWait.contains c.val = false → natBit (s.reg Reg.SEQ_RUN) c.val = false →
      exec (.doorbellRead c (.write mepc)) s = .next (s)) ∧
  (∀ (c : ClusterId) (s : State),
      s.seqWait.contains c.val = false → natBit (s.reg Reg.SEQ_RUN) c.val = true →
      exec (.doorbellRead c .wfi) s = .next ({ s with seqWait := s.seqWait ++ [c.val] })) ∧
  (∀ (c : ClusterId) (s : State),
      s.seqWait.contains c.val = false → natBit (s.reg Reg.SEQ_RUN) c.val = false →
      exec (.doorbellRead c .wfi) s = .next (s)) ∧
  (∀ (c : ClusterId) (x : SeqOp) (s : State),
      s.seqWait.contains c.val = true →
      exec (.doorbellRead c x) s = .next (s)) ∧
  (∀ (c : ClusterId) (mcause mepc : BitVec 32) (s : State),
      natBit (s.reg Reg.SEQ_RUN) c.val = true →
      exec (.seqException c (.cause mcause mepc)) s =
        .next ((((s.setReg Reg.SEQ_RUN (setBitField (s.reg Reg.SEQ_RUN) c.val 1 0)).wakeSeq c.val).bump
          Reg.SEQ_FAULT).logFault { cls := .watchdog, status := .aborted, unit := c.val, sub := mcause.toNat % 256,
                                      ref := mepc.toNat })) ∧
  (∀ (c : ClusterId) (a : Nat) (mepc : BitVec 32) (s : State),
      natBit (s.reg Reg.SEQ_RUN) c.val = true → s.seqReach c a = false →
      exec (.seqException c (.load a mepc)) s =
        .next ((((s.setReg Reg.SEQ_RUN (setBitField (s.reg Reg.SEQ_RUN) c.val 1 0)).wakeSeq c.val).bump
          Reg.SEQ_FAULT).logFault { cls := .watchdog, status := .aborted, unit := c.val, sub := 5, ref := mepc.toNat
                                      })) ∧
  (∀ (c : ClusterId) (a : Nat) (mepc : BitVec 32) (s : State),
      natBit (s.reg Reg.SEQ_RUN) c.val = true → s.seqReach c a = false →
      exec (.seqException c (.store a mepc)) s =
        .next ((((s.setReg Reg.SEQ_RUN (setBitField (s.reg Reg.SEQ_RUN) c.val 1 0)).wakeSeq c.val).bump
          Reg.SEQ_FAULT).logFault { cls := .watchdog, status := .aborted, unit := c.val, sub := 7, ref := mepc.toNat
                                      })) ∧
  (∀ (c : ClusterId) (a : Nat) (mepc : BitVec 32) (s : State),
      s.seqReach c a = true →
      exec (.seqException c (.load a mepc)) s = .next (s)) ∧
  (∀ (c : ClusterId) (a : Nat) (mepc : BitVec 32) (s : State),
      s.seqReach c a = true →
      exec (.seqException c (.store a mepc)) s = .next (s)) ∧
  (∀ (c : ClusterId) (x : SeqTrap) (s : State),
      natBit (s.reg Reg.SEQ_RUN) c.val = false →
      exec (.seqException c x) s = .next (s)) ∧
  (∀ (c : ClusterId) (a q off : Nat) (s : State),
      regionOf s.variant a = .queueBlock q off →
      s.seqReach c a = (permits (s.queue q).prod (.sequencer c) || permits (s.queue q).cons (.sequencer c))) ∧
  (∀ (c : ClusterId) (a b off : Nat) (s : State),
      regionOf s.variant a = .commons b off →
      s.seqReach c a = bankOwns (.seq c) (s.reg (Reg.BANK_OWNER b)))

/-- TRAINING_STATE_ADVANCE changes only a link in training, and only where its state is done: DETECT at a signal on a good
  lane, EQUALISE, BLOCKLOCK once every live lane has 64 valid sync headers, CONFIG at 16 equal TS1 on some lane, AGREE
  at 8 equal TS2 on every lane in use with the width and version agreed, LOCK at two ALIGN on each; it refuses the
  link with cause 4 outside the shape, 1 without a common version, 2 for its own number, 3 for an unexpected
  neighbour. A fresh link rises anew, another as it was with a LINK flit; UP, with no refusal. TRAINING_TIMEOUT past
  the limit returns to DETECT and counts, a full fresh attempt going DOWN; within the allowance it does not count.
  LINK_RETRY_TIMER trains a link DOWN or REFUSED for 100 ms once the device is operational. LANE_FAULT of a lane in
  use, lost or above LANE_BER_MAX in this millisecond, drops it and retrains fast. LINK_LOSS of a retraining link with
  no lane or three failed fast attempts, outside the allowance, takes it DOWN, counts, records, reports, reroutes and
  judges the homes. PARK_RECEIVE parks an UP link at 16 PARK on every lane. PARKED_LINK_WAKE trains a PARKED link, in
  RUN or IDLE, at TS1 or where a flit waits. PARK_ALLOWANCE_EXPIRY ends the allowance after 2 ms. Otherwise each
  leaves the state as it was. -/
def Obligations.LinkTraining : Prop :=
  (∀ (l : LinkId) (signal : BitVec 4) (lanes : List (List Block)) (s : State),
      s.reg (Reg.LINK_STATE l.val) ≠ 1 → s.reg (Reg.LINK_STATE l.val) ≠ 3 →
      exec (.trainingStateAdvance l signal lanes) s = .next (s)) ∧
  (∀ (l : LinkId) (signal : BitVec 4) (lanes : List (List Block)) (s : State),
      (s.reg (Reg.LINK_STATE l.val) = 1 ∨ s.reg (Reg.LINK_STATE l.val) = 3) → (s.link l.val).phase = .detect →
      s.liveLanes l.val signal.toNat = [] →
      exec (.trainingStateAdvance l signal lanes) s = .next (s)) ∧
  (∀ (l : LinkId) (signal : BitVec 4) (lanes : List (List Block)) (s : State),
      (s.reg (Reg.LINK_STATE l.val) = 1 ∨ s.reg (Reg.LINK_STATE l.val) = 3) → (s.link l.val).phase = .detect →
      s.liveLanes l.val signal.toNat ≠ [] →
      exec (.trainingStateAdvance l signal lanes) s = .next (s.enterPhase l.val .equalise)) ∧
  (∀ (l : LinkId) (signal : BitVec 4) (lanes : List (List Block)) (s : State),
      (s.reg (Reg.LINK_STATE l.val) = 1 ∨ s.reg (Reg.LINK_STATE l.val) = 3) → (s.link l.val).phase = .equalise →
      exec (.trainingStateAdvance l signal lanes) s = .next (s.enterPhase l.val .blockLock)) ∧
  (∀ (l : LinkId) (signal : BitVec 4) (lanes : List (List Block)) (s : State),
      (s.reg (Reg.LINK_STATE l.val) = 1 ∨ s.reg (Reg.LINK_STATE l.val) = 3) → (s.link l.val).phase = .blockLock →
      s.liveLanes l.val signal.toNat ≠ [] →
      ∀ i ∈ s.liveLanes l.val signal.toNat, blockLocked (lanes.getD i []) = true →
      exec (.trainingStateAdvance l signal lanes) s = .next (
        ((s.setReg (Reg.POL_INV l.val) (bitsNat ((s.liveLanes l.val signal.toNat).filter fun i => laneInverted
          (lanes.getD i [])))).enterPhase l.val
          .config).sendSets l.val 0x1E 0 16 (s.goodLanes l.val))) ∧
  (∀ (l : LinkId) (signal : BitVec 4) (lanes : List (List Block)) (s : State),
      (s.reg (Reg.LINK_STATE l.val) = 1 ∨ s.reg (Reg.LINK_STATE l.val) = 3) → (s.link l.val).phase = .blockLock →
      (s.liveLanes l.val signal.toNat = [] ∨ ∃ i ∈ s.liveLanes l.val signal.toNat, blockLocked (lanes.getD i []) =
        false) →
      exec (.trainingStateAdvance l signal lanes) s = .next (s)) ∧
  (∀ (l : LinkId) (signal : BitVec 4) (lanes : List (List Block)) (s : State),
      (s.reg (Reg.LINK_STATE l.val) = 1 ∨ s.reg (Reg.LINK_STATE l.val) = 3) → (s.link l.val).phase = .config →
      s.setsOn l.val 0x1E 16 (s.liveLanes l.val signal.toNat) lanes = [] →
      exec (.trainingStateAdvance l signal lanes) s = .next (s)) ∧
  (∀ (g : Nat × Block) (r : List (Nat × Block)) (l : LinkId) (signal : BitVec 4) (lanes : List (List Block)) (s : State),
      (s.reg (Reg.LINK_STATE l.val) = 1 ∨ s.reg (Reg.LINK_STATE l.val) = 3) → (s.link l.val).phase = .config →
      s.setsOn l.val 0x1E 16 (s.liveLanes l.val signal.toNat) lanes = g :: r → s.shapeBad = true →
      exec (.trainingStateAdvance l signal lanes) s = .next (s.refuseLink l.val 4 (tsOf g.2))) ∧
  (∀ (g : Nat × Block) (r : List (Nat × Block)) (l : LinkId) (signal : BitVec 4) (lanes : List (List Block)) (s : State),
      (s.reg (Reg.LINK_STATE l.val) = 1 ∨ s.reg (Reg.LINK_STATE l.val) = 3) → (s.link l.val).phase = .config →
      s.setsOn l.val 0x1E 16 (s.liveLanes l.val signal.toNat) lanes = g :: r → s.shapeBad = false →
      s.commonTpv (tsOf g.2) = none →
      exec (.trainingStateAdvance l signal lanes) s = .next (s.refuseLink l.val 1 (tsOf g.2))) ∧
  (∀ (v : Nat) (g : Nat × Block) (r : List (Nat × Block)) (l : LinkId) (signal : BitVec 4) (lanes : List (List Block)) (s : State),
      (s.reg (Reg.LINK_STATE l.val) = 1 ∨ s.reg (Reg.LINK_STATE l.val) = 3) → (s.link l.val).phase = .config →
      s.setsOn l.val 0x1E 16 (s.liveLanes l.val signal.toNat) lanes = g :: r → s.shapeBad = false →
      s.commonTpv (tsOf g.2) = some v → (tsOf g.2).dev = s.reg Reg.DEV_NUM →
      exec (.trainingStateAdvance l signal lanes) s = .next (s.refuseLink l.val 2 (tsOf g.2))) ∧
  (∀ (v : Nat) (g : Nat × Block) (r : List (Nat × Block)) (l : LinkId) (signal : BitVec 4) (lanes : List (List Block)) (s : State),
      (s.reg (Reg.LINK_STATE l.val) = 1 ∨ s.reg (Reg.LINK_STATE l.val) = 3) → (s.link l.val).phase = .config →
      s.setsOn l.val 0x1E 16 (s.liveLanes l.val signal.toNat) lanes = g :: r → s.shapeBad = false →
      s.commonTpv (tsOf g.2) = some v → (tsOf g.2).dev ≠ s.reg Reg.DEV_NUM → s.expected l.val ≠ some (tsOf g.2).dev →
      exec (.trainingStateAdvance l signal lanes) s = .next (s.refuseLink l.val 3 (tsOf g.2))) ∧
  (∀ (v : Nat) (g : Nat × Block) (r : List (Nat × Block)) (l : LinkId) (signal : BitVec 4) (lanes : List (List Block)) (s : State),
      (s.reg (Reg.LINK_STATE l.val) = 1 ∨ s.reg (Reg.LINK_STATE l.val) = 3) → (s.link l.val).phase = .config →
      s.setsOn l.val 0x1E 16 (s.liveLanes l.val signal.toNat) lanes = g :: r → s.shapeBad = false →
      s.commonTpv (tsOf g.2) = some v → (tsOf g.2).dev ≠ s.reg Reg.DEV_NUM → s.expected l.val = some (tsOf g.2).dev →
      (tsOf g.2).good % 16 ≠ 0 →
      exec (.trainingStateAdvance l signal lanes) s = .next (
        let w := if 4 ≤ (min (r.length + 1) (([0, 1, 2, 3].filter fun i => natBit (tsOf g.2).good i).length)) then 4
          else if 2 ≤ (min (r.length + 1) (([0, 1, 2, 3].filter fun i => natBit (tsOf g.2).good i).length)) then 2
          else 1
        let mine := ((g :: r).map (·.1)).take w
        let s1 := (s.setReg (Reg.WIDTH l.val) w).setReg (Reg.LANES_USED l.val) (bitsNat mine)
        let s2 := (s1.setReg (Reg.LANE_MAP_RX l.val) (laneMap w (g :: r))).setReg (Reg.TPV l.val) v
        let s3 := (s2.setReg (Reg.PEER_DEV l.val) (tsOf g.2).dev).setReg (Reg.PEER_LINK l.val) (tsOf g.2).link
        (s3.enterPhase l.val .agree).sendSets l.val 0x2D w 8 mine)) ∧
  (∀ (v : Nat) (g : Nat × Block) (r : List (Nat × Block)) (l : LinkId) (signal : BitVec 4) (lanes : List (List Block)) (s : State),
      (s.reg (Reg.LINK_STATE l.val) = 1 ∨ s.reg (Reg.LINK_STATE l.val) = 3) → (s.link l.val).phase = .config →
      s.setsOn l.val 0x1E 16 (s.liveLanes l.val signal.toNat) lanes = g :: r → s.shapeBad = false →
      s.commonTpv (tsOf g.2) = some v → (tsOf g.2).dev ≠ s.reg Reg.DEV_NUM → s.expected l.val = some (tsOf g.2).dev →
      (tsOf g.2).good % 16 = 0 →
      exec (.trainingStateAdvance l signal lanes) s = .next (s)) ∧
  (∀ (l : LinkId) (signal : BitVec 4) (lanes : List (List Block)) (s : State),
      (s.reg (Reg.LINK_STATE l.val) = 1 ∨ s.reg (Reg.LINK_STATE l.val) = 3) → (s.link l.val).phase = .agree →
      s.rxOrder l.val ≠ [] → (s.setsOn l.val 0x2D 8 (s.rxOrder l.val) lanes).length = (s.rxOrder l.val).length →
      ∀ g ∈ s.setsOn l.val 0x2D 8 (s.rxOrder l.val) lanes, (tsOf g.2).width = s.reg (Reg.WIDTH l.val) ∧ s.commonTpv
        (tsOf g.2) = some (s.reg (Reg.TPV l.val)) →
      exec (.trainingStateAdvance l signal lanes) s = .next (
        let y := { s.link l.val with txCount := 0, lanes := [{}, {}, {}, {}], rxIndex := 0, seeking := true }
        let b := y.scrambledAll (s.alignBlocks l.val (s.txOrder l.val))
        ((s.emit (.blocks l.val b.1)).setLink l.val b.2).enterPhase l.val .lock)) ∧
  (∀ (l : LinkId) (signal : BitVec 4) (lanes : List (List Block)) (s : State),
      (s.reg (Reg.LINK_STATE l.val) = 1 ∨ s.reg (Reg.LINK_STATE l.val) = 3) → (s.link l.val).phase = .agree →
      (s.rxOrder l.val = [] ∨ (s.setsOn l.val 0x2D 8 (s.rxOrder l.val) lanes).length ≠ (s.rxOrder l.val).length ∨ ∃ g
        ∈ s.setsOn l.val 0x2D 8 (s.rxOrder l.val) lanes, (tsOf g.2).width ≠ s.reg (Reg.WIDTH l.val) ∨ s.commonTpv
        (tsOf g.2) ≠ some (s.reg (Reg.TPV l.val))) →
      exec (.trainingStateAdvance l signal lanes) s = .next (s)) ∧
  (∀ (y : Link) (l : LinkId) (signal : BitVec 4) (lanes : List (List Block)) (s : State),
      (s.reg (Reg.LINK_STATE l.val) = 1 ∨ s.reg (Reg.LINK_STATE l.val) = 3) → (s.link l.val).phase = .lock →
      (s.link l.val).feed (s.rxOrder l.val) (s.reg (Reg.POL_INV l.val)) lanes = y → s.rxOrder l.val ≠ [] →
      ∀ i ∈ s.rxOrder l.val, twoAligns (y.rxLane i).fifo = true →
      exec (.trainingStateAdvance l signal lanes) s = .next (
        (s.setLink l.val
          { y.mapLanes (s.rxOrder l.val) (fun z => { z with fifo := (z.fifo.reverse.takeWhile (· != none)).reverse })
            with
            rxIndex := 0, seeking := false }).linkRises l.val)) ∧
  (∀ (y : Link) (l : LinkId) (signal : BitVec 4) (lanes : List (List Block)) (s : State),
      (s.reg (Reg.LINK_STATE l.val) = 1 ∨ s.reg (Reg.LINK_STATE l.val) = 3) → (s.link l.val).phase = .lock →
      (s.link l.val).feed (s.rxOrder l.val) (s.reg (Reg.POL_INV l.val)) lanes = y →
      (s.rxOrder l.val = [] ∨ ∃ i ∈ s.rxOrder l.val, twoAligns (y.rxLane i).fifo = false) →
      exec (.trainingStateAdvance l signal lanes) s = .next (s.setLink l.val y)) ∧
  (∀ (l : LinkId) (s : State),
      (s.linkRises l.val).reg (Reg.LINK_STATE l.val) = 2 ∧ (s.linkRises l.val).reg (Reg.REFUSE_CAUSE l.val) = 0 ∧
          ((s.link l.val).fresh = true → ((s.linkRises l.val).link l.val).replay = [] ∧ ((s.linkRises l.val).link
            l.val).txSeq = 0 ∧
            (s.linkRises l.val).out = s.out) ∧
          ((s.link l.val).fresh = false → ((s.linkRises l.val).link l.val).replay = (s.link l.val).replay ∧
            ((s.linkRises l.val).link l.val).resume = true)) ∧
  (∀ (l : LinkId) (s : State),
      (s.reg (Reg.LINK_STATE l.val) = 1 ∨ s.reg (Reg.LINK_STATE l.val) = 3) →
      (s.link l.val).phaseFrom + phaseLimit (s.link l.val).phase (s.link l.val).fast ≤ s.now →
      s.inAllowance l.val = true →
      exec (.trainingTimeout l) s = .next (s.enterPhase l.val .detect)) ∧
  (∀ (l : LinkId) (s : State),
      s.reg (Reg.LINK_STATE l.val) = 1 →
      (s.link l.val).phaseFrom + phaseLimit (s.link l.val).phase (s.link l.val).fast ≤ s.now →
      s.inAllowance l.val = false → (s.link l.val).fast = false →
      exec (.trainingTimeout l) s = .next (
        (((s.bumpAt Reg.TRAIN_FAILS l.val).modLink l.val fun y =>
          { y with phase := .detect, phaseFrom := s.now, fails := (s.link l.val).fails, fast := false }).setLinkState
            l.val 0).modLink l.val fun y =>
          { y with downFrom := s.now })) ∧
  (∀ (l : LinkId) (s : State),
      (s.reg (Reg.LINK_STATE l.val) = 1 ∨ s.reg (Reg.LINK_STATE l.val) = 3) →
      (s.link l.val).phaseFrom + phaseLimit (s.link l.val).phase (s.link l.val).fast ≤ s.now →
      s.inAllowance l.val = false → (s.reg (Reg.LINK_STATE l.val) = 3 ∨ (s.link l.val).fast = true) →
      exec (.trainingTimeout l) s = .next (
        let k := if (s.link l.val).fast then (s.link l.val).fails + 1 else (s.link l.val).fails
        (s.bumpAt Reg.TRAIN_FAILS l.val).modLink l.val fun y =>
          { y with phase := .detect, phaseFrom := s.now, fails := k, fast := y.fast && decide (k < 3) })) ∧
  (∀ (l : LinkId) (s : State),
      (s.reg (Reg.LINK_STATE l.val) ≠ 1 ∧ s.reg (Reg.LINK_STATE l.val) ≠ 3 ∨ s.now < (s.link l.val).phaseFrom +
        phaseLimit (s.link l.val).phase (s.link l.val).fast) →
      exec (.trainingTimeout l) s = .next (s)) ∧
  (∀ (l : LinkId) (s : State),
      (s.reg (Reg.LINK_STATE l.val) = 0 ∨ s.reg (Reg.LINK_STATE l.val) = 5) →
      (s.link l.val).downFrom + 100000000 ≤ s.now → s.reg Reg.BRINGUP_STAGE = 6 →
      exec (.linkRetryTimer l) s = .next (s.beginTraining l.val false true)) ∧
  (∀ (l : LinkId) (s : State),
      (s.reg (Reg.LINK_STATE l.val) ≠ 0 ∧ s.reg (Reg.LINK_STATE l.val) ≠ 5 ∨ s.now < (s.link l.val).downFrom +
        100000000 ∨ s.reg Reg.BRINGUP_STAGE ≠ 6) →
      exec (.linkRetryTimer l) s = .next (s)) ∧
  (∀ (l : LinkId) (lane : Fin 4) (lost : Bool) (s : State),
      s.reg (Reg.LINK_STATE l.val) = 2 → natBit (s.reg (Reg.LANES_USED l.val)) lane.val = true →
      (lost = true ∨ (s.link l.val).corrAt = s.now / 1000000 ∧ s.reg Reg.LANE_BER_MAX < (s.link l.val).corr.getD
        lane.val 0) →
      exec (.laneFault l lane lost) s = .next (
        ((s.setLink l.val { s.link l.val with
          dropped := (s.link l.val).dropped ||| 2 ^ lane.val,
          drops := (s.link l.val).drops.set lane.val ((s.link l.val).drops.getD lane.val 0 + 1) }).bumpAt
            Reg.LANE_DEGRADES l.val).beginTraining
          l.val true false)) ∧
  (∀ (l : LinkId) (lane : Fin 4) (lost : Bool) (s : State),
      (s.reg (Reg.LINK_STATE l.val) ≠ 2 ∨ natBit (s.reg (Reg.LANES_USED l.val)) lane.val = false ∨ lost = false ∧
        ((s.link l.val).corrAt ≠ s.now / 1000000 ∨ (s.link l.val).corr.getD lane.val 0 ≤ s.reg Reg.LANE_BER_MAX)) →
      exec (.laneFault l lane lost) s = .next (s)) ∧
  (∀ (l : LinkId) (s : State),
      s.reg (Reg.LINK_STATE l.val) = 3 → s.inAllowance l.val = false →
      (s.goodLanes l.val = [] ∨ 3 ≤ (s.link l.val).fails) →
      exec (.linkLoss l) s = .next (
        ((((((s.linkDown l.val).bumpAt Reg.LINK_LOSSES l.val).logFault { cls := .link, status := .closed, unit :=
                                                                           l.val }).emcy
          0x8100 .closed 4 l.val).reroute l.val).checkHomes))) ∧
  (∀ (l : LinkId) (s : State),
      (s.reg (Reg.LINK_STATE l.val) ≠ 3 ∨ s.inAllowance l.val = true ∨ s.goodLanes l.val ≠ [] ∧ (s.link l.val).fails <
        3) →
      exec (.linkLoss l) s = .next (s)) ∧
  (∀ (l : LinkId) (lanes : List (List Block)) (s : State),
      s.reg (Reg.LINK_STATE l.val) = 2 → s.rxOrder l.val ≠ [] →
      ∀ i ∈ s.rxOrder l.val, lastSets 0x69 16 (s.rightLane l.val i lanes) ≠ none →
      exec (.parkReceive l lanes) s =
        .next (((s.setLinkState l.val 7).modLink l.val fun y => { y with ts1At := none }).accrueHold l.val)) ∧
  (∀ (l : LinkId) (lanes : List (List Block)) (s : State),
      (s.reg (Reg.LINK_STATE l.val) ≠ 2 ∨ s.rxOrder l.val = [] ∨ ∃ i ∈ s.rxOrder l.val, lastSets 0x69 16 (s.rightLane
        l.val i lanes) = none) →
      exec (.parkReceive l lanes) s = .next (s)) ∧
  (∀ (l : LinkId) (ts1 : Bool) (s : State),
      s.reg (Reg.LINK_STATE l.val) = 7 → (ts1 = true ∨ s.spreadBroadcasts.spreadHitches.hasFlit l.val = true) →
      s.reg Reg.PWR_STATE ≤ 1 →
      exec (.parkedLinkWake l ts1) s = .next (s.spreadBroadcasts.spreadHitches.wakeLink l.val)) ∧
  (∀ (l : LinkId) (ts1 : Bool) (s : State),
      (s.reg (Reg.LINK_STATE l.val) ≠ 7 ∨ ts1 = false ∧ s.spreadBroadcasts.spreadHitches.hasFlit l.val = false ∨ 1 <
        s.reg Reg.PWR_STATE) →
      exec (.parkedLinkWake l ts1) s = .next (s)) ∧
  (∀ (l : LinkId) (at' : Nat) (s : State),
      (s.link l.val).ts1At = some at' → at' + 2000000 ≤ s.now →
      exec (.parkAllowanceExpiry l) s = .next (s.modLink l.val fun y => { y with ts1At := none, fails := 0 })) ∧
  (∀ (l : LinkId) (at' : Nat) (s : State),
      (s.link l.val).ts1At = some at' → s.now < at' + 2000000 →
      exec (.parkAllowanceExpiry l) s = .next (s)) ∧
  (∀ (l : LinkId) (s : State),
      (s.link l.val).ts1At = none →
      exec (.parkAllowanceExpiry l) s = .next (s))

/-- FLIT_RECEIVE on an UP link takes its lanes' blocks in; with a codeword not whole it waits; one cut short, or without a
  pattern of at most four errors, counts FEC_UNCORR, is recorded once a second and asks for one NAK per gap; else its
  corrected bytes are noted and its flit taken. A flit with a bad CRC counts CRC_FAIL, is recorded and asks for a NAK;
  of a good one the header is heard; a LINK flit begins the replay a retraining waits for; the next in sequence is
  accepted, waking a device in IDLE; one seen before counts DUP_RX and makes an acknowledgement due; one ahead counts
  SEQ_DISCARD. An accepted flit counts FLITS_RX and becomes the last accepted; one of bad format counts FLIT_BADFMT,
  is recorded and frees its place; another's payload is acted on. On a link not UP FLIT_RECEIVE does nothing.
  FLIT_TRANSMIT of a link not UP accrues LINK_HOLD_NS; of an UP link it sends a LINK flit while the other end's is
  awaited, else the next flit of a replay, or with all 256 places unacknowledged a LINK flit, or a new flit.
  State.sendNext prefers SYNC, HITCH, CTRL-REP, CTRL-REQ, then BULK and EVENT by turns; with nothing that finds a
  credit, a LINK flit. ACK_TIMER sends one after 32 flits or 500 ns. NAK_RECEIVE, and REPLAY_TIMEOUT after
  RETRY_TMO_NS, begin a replay, the eighth without progress a fast retraining. -/
def Obligations.LinkFlits : Prop :=
  (∀ (l : LinkId) (lanes : List (List Block)) (adjust : BitVec 4) (codes : List Ecc) (f : WriteFacts) (s : State),
      s.reg (Reg.LINK_STATE l.val) ≠ 2 →
      exec (.flitReceive l lanes adjust codes f) s = .next (s)) ∧
  (∀ (l : LinkId) (lanes : List (List Block)) (adjust : BitVec 4) (codes : List Ecc) (f : WriteFacts) (y : Link) (u : State) (s : State),
      s.reg (Reg.LINK_STATE l.val) = 2 → s.feedLanes l.val lanes adjust.toNat = u →
      (u.link l.val).nextCodeword (s.rxOrder l.val) = (.waiting, y) →
      exec (.flitReceive l lanes adjust codes f) s = .next (u.setLink l.val y)) ∧
  (∀ (l : LinkId) (lanes : List (List Block)) (adjust : BitVec 4) (codes : List Ecc) (f : WriteFacts) (y : Link) (u : State) (s : State),
      s.reg (Reg.LINK_STATE l.val) = 2 → s.feedLanes l.val lanes adjust.toNat = u →
      (u.link l.val).nextCodeword (s.rxOrder l.val) = (.broken, y) →
      exec (.flitReceive l lanes adjust codes f) s =
        .next (((((u.setLink l.val y).bumpAt Reg.FEC_UNCORR l.val).logGated 30 l.val s.second (flitNote
          l.val)).nakFlit l.val))) ∧
  (∀ (l : LinkId) (lanes : List (List Block)) (adjust : BitVec 4) (codes : List Ecc) (f : WriteFacts) (b on : List Nat) (y : Link) (u : State) (s : State),
      s.reg (Reg.LINK_STATE l.val) = 2 → s.feedLanes l.val lanes adjust.toNat = u →
      (u.link l.val).nextCodeword (s.rxOrder l.val) = (.bytes b on, y) → rsDecode b = none →
      exec (.flitReceive l lanes adjust codes f) s =
        .next (((((u.setLink l.val y).bumpAt Reg.FEC_UNCORR l.val).logGated 30 l.val s.second (flitNote
          l.val)).nakFlit l.val))) ∧
  (∀ (l : LinkId) (lanes : List (List Block)) (adjust : BitVec 4) (codes : List Ecc) (f : WriteFacts) (b on : List Nat) (d : List Nat × List Nat) (y : Link) (u : State) (s : State),
      s.reg (Reg.LINK_STATE l.val) = 2 → s.feedLanes l.val lanes adjust.toNat = u →
      (u.link l.val).nextCodeword (s.rxOrder l.val) = (.bytes b on, y) → rsDecode b = some d →
      exec (.flitReceive l lanes adjust codes f) s =
        .next (((u.setLink l.val y).noteCorrected l.val (correctedBy on d.2)).takeFlit l.val (d.1.map (BitVec.ofNat
          8)) codes f)) ∧
  (∀ (l : LinkId) (s : State),
      s.nakFlit l.val = if (s.link l.val).gapNak then s
          else (s.bumpAt Reg.NAKS_TX l.val).modLink l.val fun y => { y with gapNak := true, nakOut := true }) ∧
  (∀ (l : LinkId) (x : List Byte) (codes : List Ecc) (f : WriteFacts) (s : State),
      flitCrcOk x = false →
      s.takeFlit l.val x codes f = (((s.bumpAt Reg.CRC_FAIL l.val).logGated 31 l.val s.second (flitNote
        l.val)).nakFlit l.val)) ∧
  (∀ (l : LinkId) (x : List Byte) (codes : List Ecc) (f : WriteFacts) (u : State) (s : State),
      flitCrcOk x = true → s.modLink l.val (fun y => y.heard (flitHeader x) s.now) = u →
      bitField (flitHeader x) 0 3 = 7 →
      s.takeFlit l.val x codes f = if (u.link l.val).resume then (u.modLink l.val fun y => { y with resume := false,
                                                                                                      nakIn := false
                                                                                                      }).beginReplay
        l.val else u) ∧
  (∀ (l : LinkId) (x : List Byte) (codes : List Ecc) (f : WriteFacts) (u : State) (s : State),
      flitCrcOk x = true → s.modLink l.val (fun y => y.heard (flitHeader x) s.now) = u →
      bitField (flitHeader x) 0 3 ≠ 7 → (bitField (flitHeader x) 4 12 + 4096 - (u.link l.val).rxLast - 1) % 4096 = 0 →
      s.takeFlit l.val x codes f = (u.wakeByFlit l.val).acceptFlit l.val x codes f) ∧
  (∀ (l : LinkId) (x : List Byte) (codes : List Ecc) (f : WriteFacts) (u : State) (s : State),
      flitCrcOk x = true → s.modLink l.val (fun y => y.heard (flitHeader x) s.now) = u →
      bitField (flitHeader x) 0 3 ≠ 7 →
      2048 ≤ (bitField (flitHeader x) 4 12 + 4096 - (u.link l.val).rxLast - 1) % 4096 →
      s.takeFlit l.val x codes f = (u.bumpAt Reg.DUP_RX l.val).modLink l.val fun y => { y with unacked := max 32
                                                                                                 y.unacked }) ∧
  (∀ (l : LinkId) (x : List Byte) (codes : List Ecc) (f : WriteFacts) (u : State) (s : State),
      flitCrcOk x = true → s.modLink l.val (fun y => y.heard (flitHeader x) s.now) = u →
      bitField (flitHeader x) 0 3 ≠ 7 → 0 < (bitField (flitHeader x) 4 12 + 4096 - (u.link l.val).rxLast - 1) % 4096 →
      (bitField (flitHeader x) 4 12 + 4096 - (u.link l.val).rxLast - 1) % 4096 < 2048 →
      s.takeFlit l.val x codes f = u.bumpAt Reg.SEQ_DISCARD l.val) ∧
  (∀ (l : LinkId) (x : List Byte) (codes : List Ecc) (f : WriteFacts) (s : State),
      flitBad x = true →
      s.acceptFlit l.val x codes f = (
          let s1 := (s.bumpAt Reg.FLITS_RX l.val).modLink l.val fun y =>
            { y with
              rxLast := bitField (flitHeader x) 4 12, gapNak := false, unacked := y.unacked + 1,
              unackedFrom := if y.unacked = 0 then s.now else y.unackedFrom }
          let s2 := (s1.bumpAt Reg.FLIT_BADFMT l.val).logGated 29 l.val s1.second
            { cls := .link, status := .badFormat, unit := l.val, ref := bitField (flitHeader x) 4 12 }
          if bitField (flitHeader x) 0 3 ≤ 4 then
            s2.freePlace l.val (poolOf (bitField (flitHeader x) 0 3) (natBit (flitHeader x) 3))
          else s2)) ∧
  (∀ (l : LinkId) (x : List Byte) (codes : List Ecc) (f : WriteFacts) (s : State),
      flitBad x = false →
      s.acceptFlit l.val x codes f = State.takePayload ((s.bumpAt Reg.FLITS_RX l.val).modLink l.val fun y =>
          { y with
            rxLast := bitField (flitHeader x) 4 12, gapNak := false, unacked := y.unacked + 1,
            unackedFrom := if y.unacked = 0 then s.now else y.unackedFrom }) l.val x codes f) ∧
  (∀ (l : LinkId) (s : State),
      s.reg (Reg.LINK_STATE l.val) ≠ 2 →
      exec (.flitTransmit l) s = .next (s.accrueHold l.val)) ∧
  (∀ (l : LinkId) (a : State) (s : State),
      s.reg (Reg.LINK_STATE l.val) = 2 → (s.spreadBroadcasts.spreadHitches.stallTime l.val).noteFull l.val = a →
      (a.link l.val).resume = true →
      exec (.flitTransmit l) s = .next (a.sendLinkFlit l.val)) ∧
  (∀ (k : Nat) (g : SentFlit) (l : LinkId) (a : State) (s : State),
      s.reg (Reg.LINK_STATE l.val) = 2 → (s.spreadBroadcasts.spreadHitches.stallTime l.val).noteFull l.val = a →
      (a.link l.val).resume = false → (a.link l.val).replayAt = some k → (a.link l.val).replay[k]? = some g →
      exec (.flitTransmit l) s = .next (
        ((a.setLink l.val { a.link l.val with
          replayAt := if k + 1 < (a.link l.val).replay.length then some (k + 1) else none }).putFlit l.val g.ftype
            g.seq g.cls
          g.payload).bumpAt Reg.REPLAY_FLITS l.val)) ∧
  (∀ (k : Nat) (l : LinkId) (a : State) (s : State),
      s.reg (Reg.LINK_STATE l.val) = 2 → (s.spreadBroadcasts.spreadHitches.stallTime l.val).noteFull l.val = a →
      (a.link l.val).resume = false → (a.link l.val).replayAt = some k → (a.link l.val).replay[k]? = none →
      exec (.flitTransmit l) s = .next (a.setLink l.val { a.link l.val with replayAt := none })) ∧
  (∀ (l : LinkId) (a : State) (s : State),
      s.reg (Reg.LINK_STATE l.val) = 2 → (s.spreadBroadcasts.spreadHitches.stallTime l.val).noteFull l.val = a →
      (a.link l.val).resume = false → (a.link l.val).replayAt = none → 256 ≤ (a.link l.val).replay.length →
      exec (.flitTransmit l) s = .next (a.sendLinkFlit l.val)) ∧
  (∀ (l : LinkId) (a : State) (s : State),
      s.reg (Reg.LINK_STATE l.val) = 2 → (s.spreadBroadcasts.spreadHitches.stallTime l.val).noteFull l.val = a →
      (a.link l.val).resume = false → (a.link l.val).replayAt = none → (a.link l.val).replay.length < 256 →
      exec (.flitTransmit l) s = .next ((a.sendAny l.val).ageGateway l.val)) ∧
  (∀ (l : LinkId) (b : List Byte) (r : List (List Byte)) (s : State),
      (s.link l.val).sync = b :: r → (s.link l.val).credits.getD 5 0 ≠ 0 →
      s.sendNext l.val = (s.setLink l.val { s.link l.val with sync := r }).sendFlit l.val 4 false b) ∧
  (∀ (l : LinkId) (b : List Byte) (r : List (List Byte)) (s : State),
      (s.link l.val).sync = [] → (s.link l.val).hitch = b :: r → (s.link l.val).credits.getD 5 0 ≠ 0 →
      s.sendNext l.val = (s.setLink l.val { s.link l.val with hitch := r }).sendFlit l.val 4 false b) ∧
  (∀ (l : LinkId) (b : List Byte) (r : List (List Byte)) (s : State),
      (s.link l.val).sync = [] → (s.link l.val).hitch = [] → (s.link l.val).reps = b :: r →
      (s.link l.val).credits.getD 4 0 ≠ 0 →
      s.sendNext l.val = (s.setLink l.val { s.link l.val with reps := r }).sendFlit l.val 3 false b) ∧
  (∀ (l : LinkId) (b : List Byte) (r : List (List Byte)) (s : State),
      (s.link l.val).sync = [] → (s.link l.val).hitch = [] → (s.link l.val).reps = [] → (s.link l.val).reqs = b :: r →
      (s.link l.val).credits.getD 3 0 ≠ 0 →
      s.sendNext l.val = (s.setLink l.val { s.link l.val with reqs := r }).sendFlit l.val 2 false b) ∧
  (∀ (l : LinkId) (b : List Byte) (r : List (List Byte)) (s : State),
      (s.link l.val).sync = [] → (s.link l.val).hitch = [] → (s.link l.val).reps = [] → (s.link l.val).reqs = [] →
      (s.link l.val).bulk = b :: r → (s.link l.val).credits.getD 2 0 ≠ 0 →
      (s.nextEvents l.val = [] ∨ (s.link l.val).turn < s.reg Reg.BULK_WEIGHT) →
      s.sendNext l.val = ((s.setLink l.val { s.link l.val with turn := ((s.link l.val).turn + 1) % 8 }).modLink l.val
        fun y => { y with bulk := r }).sendFlit l.val 1 false b) ∧
  (∀ (l : LinkId) (s : State),
      (s.link l.val).sync = [] → (s.link l.val).hitch = [] → (s.link l.val).reps = [] → (s.link l.val).reqs = [] →
      s.nextEvents l.val ≠ [] →
      ((s.link l.val).bulk = [] ∨ (s.link l.val).credits.getD 2 0 = 0 ∨ s.reg Reg.BULK_WEIGHT ≤ (s.link l.val).turn) →
      s.sendNext l.val = (s.setLink l.val { s.link l.val with turn := ((s.link l.val).turn + 1) % 8 }).sendEvents
        l.val (s.nextEvents l.val)) ∧
  (∀ (l : LinkId) (s : State),
      (s.link l.val).sync = [] → (s.link l.val).hitch = [] → (s.link l.val).reps = [] → (s.link l.val).reqs = [] →
      s.nextEvents l.val = [] → ((s.link l.val).bulk = [] ∨ (s.link l.val).credits.getD 2 0 = 0) →
      s.sendNext l.val = s.sendLinkFlit l.val) ∧
  (∀ (l : LinkId) (s : State),
      s.reg (Reg.LINK_STATE l.val) = 2 → (s.link l.val).unacked ≠ 0 →
      (32 ≤ (s.link l.val).unacked ∨ (s.link l.val).unackedFrom + 500 ≤ s.now) →
      exec (.ackTimer l) s = .next (s.sendLinkFlit l.val)) ∧
  (∀ (l : LinkId) (s : State),
      ((s.sendLinkFlit l.val).link l.val).unacked = 0 ∧ ((s.sendLinkFlit l.val).link l.val).nakOut = false) ∧
  (∀ (l : LinkId) (s : State),
      (s.reg (Reg.LINK_STATE l.val) ≠ 2 ∨ (s.link l.val).unacked = 0 ∨ (s.link l.val).unacked < 32 ∧ s.now < (s.link
        l.val).unackedFrom + 500) →
      exec (.ackTimer l) s = .next (s)) ∧
  (∀ (l : LinkId) (s : State),
      s.reg (Reg.LINK_STATE l.val) = 2 → (s.link l.val).nakIn = true →
      exec (.nakReceive l) s = .next ((s.setLink l.val { s.link l.val with nakIn := false }).beginReplay l.val)) ∧
  (∀ (l : LinkId) (s : State),
      (s.reg (Reg.LINK_STATE l.val) ≠ 2 ∨ (s.link l.val).nakIn = false) →
      exec (.nakReceive l) s = .next (s)) ∧
  (∀ (l : LinkId) (s : State),
      s.reg (Reg.LINK_STATE l.val) = 2 → (s.link l.val).replay ≠ [] → (s.link l.val).replayAt = none →
      (s.link l.val).ackAt + s.reg Reg.RETRY_TMO_NS ≤ s.now →
      exec (.replayTimeout l) s = .next (s.beginReplay l.val)) ∧
  (∀ (l : LinkId) (s : State),
      (s.reg (Reg.LINK_STATE l.val) ≠ 2 ∨ (s.link l.val).replay = [] ∨ (s.link l.val).replayAt ≠ none ∨ s.now <
        (s.link l.val).ackAt + s.reg Reg.RETRY_TMO_NS) →
      exec (.replayTimeout l) s = .next (s)) ∧
  (∀ (l : LinkId) (s : State),
      (s.link l.val).replay = [] →
      s.beginReplay l.val = s) ∧
  (∀ (l : LinkId) (s : State),
      (s.link l.val).replay ≠ [] → (s.link l.val).stuck < 7 →
      s.beginReplay l.val = (s.bumpAt Reg.REPLAYS l.val).setLink l.val { s.link l.val with
          replayAt := some 0, stuck := (s.link l.val).stuck + 1, ackAt := s.now }) ∧
  (∀ (l : LinkId) (s : State),
      (s.link l.val).replay ≠ [] → 7 ≤ (s.link l.val).stuck →
      s.beginReplay l.val = ((s.bumpAt Reg.REPLAYS l.val).modLink l.val fun y => { y with stuck := 0 }).beginTraining
        l.val true false)

/-- HELLO that a port takes opens a session at the highest version in both ranges, ending the peer's session before it, or
  ends it and answers VERSION where there is none; a fifth session of a port is REFUSED, a frame that is bad or
  shorter than its two bytes BAD_FORMAT and counted. Another request is turned away in the order of R365: where the
  port takes no frame, or the frame is another row's, nothing happens; a bad frame is BAD_FORMAT and counted; in
  recovery one that is not served is REFUSED, as is one without a session; the seventeenth outstanding is dropped and,
  on Ethernet, counted; one of another version is VERSION and counted; one of a reserved OP BAD_FORMAT and counted.
  None of them is turned away that meets no such case. MEM_WRITE is turned away likewise once its data is there, and
  MEM_WRITE_TIMEOUT once it is due. A reply is the response and, with none held before it, is sent over USB at once.
  BYE is answered OK and ends the session; NOTIFY_SET sets the three bits of the mask. An Ethernet session silent for
  10 s ends; a USB session, one less silent, or none does not. -/
def Obligations.HtpRequests : Prop :=
  (∀ (x : HtpFrame) (s : State),
      s.takesHtp x.peer = true → x.bad = false → x.op = 1 → 2 ≤ x.payload.length → s.sessionsFull x.peer = false →
      htpField x 0 1 ≤ min (htpField x 1 1) (s.reg Reg.HTP_RANGE / 256) →
      s.reg Reg.HTP_RANGE % 256 ≤ min (htpField x 1 1) (s.reg Reg.HTP_RANGE / 256) →
      exec (.hello x) s = .next (
        let v := min (htpField x 1 1) (s.reg Reg.HTP_RANGE / 256)
        let s1 := s.endSessions fun y => decide (y.peer = x.peer)
        let s2 : State := { s1 with
          host := { s1.host with
            sessions := s1.host.sessions ++ [{ peer := x.peer, version := v, lastAt := s.now }] } }
        (s2.bump Reg.HTP_FRAMES).reply x 1 .ok (s2.helloData v))) ∧
  (∀ (x : HtpFrame) (s : State),
      s.takesHtp x.peer = true → x.bad = false → x.op = 1 → 2 ≤ x.payload.length →
      (min (htpField x 1 1) (s.reg Reg.HTP_RANGE / 256) < htpField x 0 1 ∨ min (htpField x 1 1) (s.reg Reg.HTP_RANGE /
        256) < s.reg Reg.HTP_RANGE % 256) →
      exec (.hello x) s =
        .next (((s.endSessions fun y => decide (y.peer = x.peer)).bump Reg.HTP_FRAMES).reply x 1 .version [])) ∧
  (∀ (x : HtpFrame) (s : State),
      s.takesHtp x.peer = true → x.bad = false → x.op = 1 → 2 ≤ x.payload.length → s.sessionsFull x.peer = true →
      htpField x 0 1 ≤ min (htpField x 1 1) (s.reg Reg.HTP_RANGE / 256) →
      s.reg Reg.HTP_RANGE % 256 ≤ min (htpField x 1 1) (s.reg Reg.HTP_RANGE / 256) →
      exec (.hello x) s = .next (s.reply x 1 .refused [])) ∧
  (∀ (x : HtpFrame) (s : State),
      s.takesHtp x.peer = true → x.bad = false → x.op = 1 → x.payload.length < 2 →
      exec (.hello x) s = .next ((s.bump Reg.HTP_BADFRAME).reply x 1 .badFormat [])) ∧
  (∀ (x : HtpFrame) (s : State),
      s.takesHtp x.peer = true → x.bad = true →
      exec (.hello x) s = .next ((s.bump Reg.HTP_BADFRAME).reply x 1 .badFormat [])) ∧
  (∀ (x : HtpFrame) (s : State),
      (s.takesHtp x.peer = false ∨ x.bad = false ∧ x.op ≠ 1) →
      exec (.hello x) s = .next (s)) ∧
  (∀ (c : Instr) (x : HtpFrame) (op : Nat) (u : State) (s : State),
      htpRow c = some (x, op) → s.htpTurnedAway x op = some u →
      exec (c) s = .next (u)) ∧
  (∀ (x : HtpFrame) (data : List Byte) (u : State) (s : State),
      (x.bad = true ∨ memRange x = false ∨ x.peer ≠ .usb ∨ htpField x 8 4 ≤ data.length) →
      s.htpTurnedAway x 7 = some u →
      exec (.memWrite x data) s = .next (u)) ∧
  (∀ (x : HtpFrame) (data : List Byte) (u : State) (s : State),
      x.bad = false → memRange x = true → x.peer = .usb → data.length < htpField x 8 4 →
      s.htpTurnedAway x 7 = some u →
      exec (.memWriteTimeout x data) s = .next (u)) ∧
  (∀ (x : HtpFrame) (op : Nat) (s : State),
      (s.takesHtp x.peer = false ∨ x.isFor op = false) →
      s.htpTurnedAway x op = some s) ∧
  (∀ (x : HtpFrame) (op : Nat) (s : State),
      s.takesHtp x.peer = true → x.isFor op = true → x.bad = true →
      s.htpTurnedAway x op = some ((s.bump Reg.HTP_BADFRAME).reply x op .badFormat [])) ∧
  (∀ (x : HtpFrame) (op : Nat) (s : State),
      s.takesHtp x.peer = true → x.isFor op = true → x.bad = false → s.update.recovery = true →
      servedInRecovery op = false →
      s.htpTurnedAway x op = some (s.reply x op .refused [])) ∧
  (∀ (x : HtpFrame) (op : Nat) (s : State),
      s.takesHtp x.peer = true → x.isFor op = true → x.bad = false →
      (s.update.recovery = false ∨ servedInRecovery op = true) → s.session x.peer = none →
      s.htpTurnedAway x op = some (s.reply x op .refused [])) ∧
  (∀ (y : Session) (x : HtpFrame) (op : Nat) (s : State),
      s.takesHtp x.peer = true → x.isFor op = true → x.bad = false →
      (s.update.recovery = false ∨ servedInRecovery op = true) → s.session x.peer = some y → 16 ≤ y.replies.length →
      s.htpTurnedAway x op = some (if x.peer = .usb then s else s.bump Reg.HTP_BADFRAME)) ∧
  (∀ (y : Session) (x : HtpFrame) (op : Nat) (s : State),
      s.takesHtp x.peer = true → x.isFor op = true → x.bad = false →
      (s.update.recovery = false ∨ servedInRecovery op = true) → s.session x.peer = some y → y.replies.length < 16 →
      y.version ≠ x.version.toNat →
      s.htpTurnedAway x op = some ((s.bump Reg.HTP_VERSION_REF).reply x op .version [])) ∧
  (∀ (y : Session) (x : HtpFrame) (op : Nat) (s : State),
      s.takesHtp x.peer = true → x.isFor op = true → x.bad = false →
      (s.update.recovery = false ∨ servedInRecovery op = true) → s.session x.peer = some y → y.replies.length < 16 →
      y.version = x.version.toNat → reservedOp x.op = true →
      s.htpTurnedAway x op = some ((s.bump Reg.HTP_BADFRAME).reply x x.op .badFormat [])) ∧
  (∀ (y : Session) (x : HtpFrame) (op : Nat) (s : State),
      s.takesHtp x.peer = true → x.isFor op = true → x.bad = false →
      (s.update.recovery = false ∨ servedInRecovery op = true) → s.session x.peer = some y → y.replies.length < 16 →
      y.version = x.version.toNat → reservedOp x.op = false →
      s.htpTurnedAway x op = none) ∧
  (∀ (x : HtpFrame) (op : Nat) (r : Status) (d : List Byte) (s : State),
      (s.reply x op r d).resp = ⟨r, d⟩) ∧
  (∀ (x : HtpFrame) (y : Session) (op : Nat) (r : Status) (d : List Byte) (s : State),
      x.peer = .usb → s.session x.peer = some y → y.replies = [] →
      (s.reply x op r d).out = s.out ++ replyFrames .usb op x.tag.toNat r d) ∧
  (∀ (x : HtpFrame) (y : Session) (s : State),
      s.htpReady x 9 y →
      exec (.bye x) s = .next (((s.htpTaken x).reply x 9 .ok []).endSessions fun z => decide (z.peer = x.peer))) ∧
  (∀ (x : HtpFrame) (y : Session) (s : State),
      s.htpReady x 8 y →
      exec (.notifySet x) s =
        .next (((s.htpTaken x).modSession x.peer fun z => { z with mask := htpField x 0 4 % 8 }).reply x 8 .ok [])) ∧
  (∀ (p : Peer) (y : Session) (s : State),
      s.session p = some y → p ≠ .usb → y.lastAt + 10000000000 ≤ s.now →
      exec (.htpSessionTimeout p) s = .next (s.endSessions fun z => decide (z.peer = p))) ∧
  (∀ (p : Peer) (y : Session) (s : State),
      s.session p = some y → (p = .usb ∨ s.now < y.lastAt + 10000000000) →
      exec (.htpSessionTimeout p) s = .next (s)) ∧
  (∀ (p : Peer) (s : State),
      s.session p = none →
      exec (.htpSessionTimeout p) s = .next (s))

/-- VBUS brings a detached USB port to attached, and is a wake source; in OFF or otherwise it does nothing. A bus reset of
  an attached port ends its session, with 4 or 2 in USB_SPEED; a disconnect makes it detached, with speed 0; a
  detached port takes neither. Suspend sets USB_STATE 3 of a port that is not detached; resume from 3 returns it to
  configured or attached, and is a wake source. On EP0 of an attached or configured port SET_CONFIGURATION of 1
  configures the device and of 0 not, of more it is refused; remote wakeup is enabled or disabled; the identifiers are
  read; class and vendor requests are refused; otherwise EP0 does nothing. LINK_UP follows the link. A CAN error moves
  CAN_STATE from stage 2 on, an error frame counts CAN_ERR_FRAMES, bus-off BUSOFF; it leaves bus-off as it is.
  REMOTE_READ asks for the next piece, at most 96 bytes, of the first read that is due; REMOTE_WRITE sends the first
  write that is due in pieces of 96, MORE in all but the last; with none due they do nothing. REMOTE_TIMEOUT answers
  the first access without a reply for REMOTE_TMO_MS with TIMEOUT and counts it; without one it does nothing. -/
def Obligations.PortsAndRemoteAccess : Prop :=
  (∀ (s : State),
      s.power.off = false → s.reg Reg.USB_STATE = 0 →
      exec (.vbusArrival) s = .next ((s.wakeBy .usb).setReg Reg.USB_STATE 1)) ∧
  (∀ (s : State),
      (s.power.off = true ∨ s.reg Reg.USB_STATE ≠ 0) →
      exec (.vbusArrival) s = .next (s)) ∧
  (∀ (superSpeed : Bool) (s : State),
      s.reg Reg.USB_STATE ≠ 0 →
      ∃ t, exec (.usbBusReset false superSpeed) s = .next t ∧ t.reg Reg.USB_STATE = 1 ∧ t.reg Reg.USB_SPEED = (if
        superSpeed then 4 else 2) ∧ t.host.usbConfigured = false ∧ t.host.usbWakeup = false ∧ t.host.sessions =
        s.host.sessions.filter (fun y => !decide (y.peer = .usb)) ∧ t = { s with regs := t.regs, host := { s.host with
                                                                                   usbConfigured := false, usbWakeup
                                                                                     := false, sessions :=
                                                                                     t.host.sessions } }) ∧
  (∀ (superSpeed : Bool) (s : State),
      s.reg Reg.USB_STATE ≠ 0 →
      ∃ t, exec (.usbBusReset true superSpeed) s = .next t ∧ t.reg Reg.USB_STATE = 0 ∧ t.reg Reg.USB_SPEED = 0 ∧
        t.host.sessions = s.host.sessions.filter (fun y => !decide (y.peer = .usb)) ∧ t = { s with regs := t.regs,
                                                                                                     host := { s.host
                                                                                                     with
                                                                                                     usbConfigured :=
                                                                                                       false,
                                                                                                       usbWakeup :=
                                                                                                       false, sessions
                                                                                                       :=
                                                                                                       t.host.sessions
                                                                                                       } }) ∧
  (∀ (detach superSpeed : Bool) (s : State),
      s.reg Reg.USB_STATE = 0 →
      exec (.usbBusReset detach superSpeed) s = .next (s)) ∧
  (∀ (s : State),
      s.reg Reg.USB_STATE ≠ 0 →
      exec (.usbSuspend) s = .next (s.setReg Reg.USB_STATE 3)) ∧
  (∀ (s : State),
      s.reg Reg.USB_STATE = 0 →
      exec (.usbSuspend) s = .next (s)) ∧
  (∀ (s : State),
      s.reg Reg.USB_STATE = 3 →
      exec (.usbResume) s = .next ((s.wakeBy .usb).setReg Reg.USB_STATE (if s.host.usbConfigured then 2 else 1))) ∧
  (∀ (s : State),
      s.reg Reg.USB_STATE ≠ 3 →
      exec (.usbResume) s = .next (s)) ∧
  (∀ (v : BitVec 8) (s : State),
      (s.reg Reg.USB_STATE = 1 ∨ s.reg Reg.USB_STATE = 2) → v.toNat ≤ 1 →
      exec (.ep0StandardRequest (.setConfiguration v)) s = .next (
        ((State.setReg { s with host := { s.host with usbConfigured := v == 1 } } Reg.USB_STATE
          (if v == 1 then 2 else 1)).respond .ok))) ∧
  (∀ (v : BitVec 8) (s : State),
      (s.reg Reg.USB_STATE = 1 ∨ s.reg Reg.USB_STATE = 2) → 1 < v.toNat →
      exec (.ep0StandardRequest (.setConfiguration v)) s = .next (s.respond .refused)) ∧
  (∀ (on : Bool) (s : State),
      (s.reg Reg.USB_STATE = 1 ∨ s.reg Reg.USB_STATE = 2) →
      exec (.ep0StandardRequest (.remoteWakeup on)) s =
        .next (State.respond { s with host := { s.host with usbWakeup := on } } .ok)) ∧
  (∀ (s : State),
      (s.reg Reg.USB_STATE = 1 ∨ s.reg Reg.USB_STATE = 2) →
      exec (.ep0StandardRequest .identify) s =
        .next (s.respond .ok (leBytes 2 (s.reg Reg.USB_VID) ++ leBytes 2 (s.reg Reg.USB_PID)))) ∧
  (∀ (s : State),
      (s.reg Reg.USB_STATE = 1 ∨ s.reg Reg.USB_STATE = 2) →
      exec (.ep0StandardRequest .classOrVendor) s = .next (s.respond .refused)) ∧
  (∀ (r : Ep0Request) (s : State),
      s.reg Reg.USB_STATE ≠ 1 → s.reg Reg.USB_STATE ≠ 2 →
      exec (.ep0StandardRequest r) s = .next (s)) ∧
  (∀ (e : EthId) (up : Bool) (s : State),
      exec (.ethLinkUpChange e up) s = .next (s.setReg (Reg.LINK_UP e.val) (if up then 1 else 0))) ∧
  (∀ (frame : Bool) (into : Fin 3) (s : State),
      s.power.off = false → 2 ≤ s.reg Reg.BRINGUP_STAGE % 128 → s.reg Reg.CAN_STATE ≠ 2 → into.val ≠ 2 →
      exec (.canBusError frame into) s =
        .next ((if frame then s.bump Reg.CAN_ERR_FRAMES else s).setReg Reg.CAN_STATE into.val)) ∧
  (∀ (frame : Bool) (s : State),
      s.power.off = false → 2 ≤ s.reg Reg.BRINGUP_STAGE % 128 → s.reg Reg.CAN_STATE ≠ 2 →
      exec (.canBusError frame 2) s =
        .next (((if frame then s.bump Reg.CAN_ERR_FRAMES else s).setReg Reg.CAN_STATE 2).bump Reg.BUSOFF)) ∧
  (∀ (frame : Bool) (into : Fin 3) (s : State),
      (s.power.off = true ∨ s.reg Reg.BRINGUP_STAGE % 128 < 2 ∨ s.reg Reg.CAN_STATE = 2) →
      exec (.canBusError frame into) s = .next (s)) ∧
  (∀ (a : RemoteAccess) (s : State),
      (s.host.remote.find? fun a => !a.write && a.due) = some a →
      exec (.remoteRead) s = .next (
        (s.sendPiece a (requestBody 1 false a.index a.sub (min 96 (a.want - a.data.length)) (a.offset + a.data.length)
          [])).modRemote
          a.tag fun b => { b with due := false, sentAt := s.now })) ∧
  (∀ (s : State),
      (s.host.remote.find? fun a => !a.write && a.due) = none →
      exec (.remoteRead) s = .next (s)) ∧
  (∀ (a : RemoteAccess) (s : State),
      (s.host.remote.find? fun a => a.write && a.due) = some a →
      exec (.remoteWrite) s = .next (
        let n := max 1 (ceilDiv a.data.length 96)
        let s1 := (List.range n).foldl (fun u k =>
          let piece := (a.data.drop (96 * k)).take 96
          u.sendPiece a (requestBody 2 (k + 1 < n) a.index a.sub piece.length (96 * k) piece)) s
        s1.modRemote a.tag fun b => { b with due := false, sentAt := s.now })) ∧
  (∀ (s : State),
      (s.host.remote.find? fun a => a.write && a.due) = none →
      exec (.remoteWrite) s = .next (s)) ∧
  (∀ (a : RemoteAccess) (s : State),
      (s.host.remote.find? fun a => decide (a.sentAt + s.reg Reg.REMOTE_TMO_MS * 1000000 ≤ s.now)) = some a →
      exec (.remoteTimeout) s = .next ((s.remoteDone a .timeout []).bump Reg.REMOTE_TMO)) ∧
  (∀ (s : State),
      (s.host.remote.find? fun a => decide (a.sentAt + s.reg Reg.REMOTE_TMO_MS * 1000000 ≤ s.now)) = none →
      exec (.remoteTimeout) s = .next (s)) ∧
  (∀ (a : RemoteAccess) (r : Status) (d : List Byte) (s : State),
      s.remoteDone a r d = State.answer { s with
          host := { s.host with remote := s.host.remote.filter fun b => b.tag ≠ a.tag } } a.peer (if a.write then 3
            else 2) a.htpTag r d)

/-- A CAN frame that the port takes counts CAN_RX; while a handover runs up to 8 are held, and otherwise it is lost. NMT
  start, stop and enter pre-operational for node 0 or this node set NMT_STATE; reset node restores 0x1000-0x1FFF,
  reset communication the COB-ID and PDO objects, each ending the transfer and booting with a boot-up message; for
  another node nothing more happens. An SDO frame of 8 bytes, while not STOPPED, begins a download (expedited, or in
  segments) or goes on with one, gives it up, or begins or goes on with an upload; any other changes nothing more. A
  segment without its transfer is aborted; the last of a download applies the whole. A transfer silent for 1 s is
  aborted, otherwise SDO_SEGMENT_TIMEOUT does nothing. The bytes of SDO frames follow CiA 301 (the model's choice, log
  entry 75). In OPERATIONAL with a valid COB-ID RPDO1 of at least 8 bytes on the step master pushes a GAIT command on
  queue 0, a refusal being reported; elsewhere it does nothing more; RPDO2 sets the Rein overrides, 0xFF leaving one;
  a shorter one counts PDO_LEN_ERR; otherwise an RPDO does nothing. A due TPDO and a due heartbeat are sent, else
  nothing. Recovery from bus-off, where it is enabled, returns CAN_STATE to 0, sends what waited unless STOPPED,
  records and reports it; otherwise it does nothing. -/
def Obligations.CanOpenNode : Prop :=
  (∀ (c : Instr) (m : CanFrame) (s : State),
      s.canRow c = some m → s.canUp = true → s.takesCan = false → s.power.heldCan.length < 8 →
      exec (c) s = .next (s.modPower fun p => { p with heldCan := p.heldCan ++ [m] })) ∧
  (∀ (c : Instr) (m : CanFrame) (s : State),
      s.canRow c = some m → s.takesCan = false → (s.canUp = false ∨ 8 ≤ s.power.heldCan.length) →
      exec (c) s = .next (s)) ∧
  (∀ (node : BitVec 8) (s : State),
      s.obeysNmt node → s.reg Reg.NMT_STATE ≠ 5 →
      exec (.nmtStart node) s = .next (
        let t := (s.bump Reg.CAN_RX).setReg Reg.NMT_STATE 5
        { t with host := { t.host with tpdoFrom := [(0, s.now), (1, s.now), (2, s.now), (3, s.now)] } })) ∧
  (∀ (node : BitVec 8) (s : State),
      s.obeysNmt node → s.reg Reg.NMT_STATE = 5 →
      exec (.nmtStart node) s = .next ((s.bump Reg.CAN_RX).setReg Reg.NMT_STATE 5)) ∧
  (∀ (node : BitVec 8) (s : State),
      s.obeysNmt node →
      exec (.nmtStop node) s = .next ((s.bump Reg.CAN_RX).dropTransfer.setReg Reg.NMT_STATE 4)) ∧
  (∀ (node : BitVec 8) (s : State),
      s.obeysNmt node →
      exec (.nmtEnterPreoperational node) s = .next ((s.bump Reg.CAN_RX).setReg Reg.NMT_STATE 0x7F)) ∧
  (∀ (node : BitVec 8) (s : State),
      s.obeysNmt node →
      exec (.nmtResetNode node) s =
        .next (((s.bump Reg.CAN_RX).dropTransfer.restoreObjects fun i => 0x1000 ≤ i && i ≤ 0x1FFF).bootCan)) ∧
  (∀ (node : BitVec 8) (s : State),
      s.obeysNmt node →
      exec (.nmtResetCommunication node) s =
        .next (((s.bump Reg.CAN_RX).dropTransfer.restoreObjects fun i => 0x1400 ≤ i && i ≤ 0x1A03).bootCan)) ∧
  (∀ (c : Instr) (node : BitVec 8) (s : State),
      nmtNode c = some node → s.takesCan = true → node ≠ 0 → node.toNat ≠ (s.bump Reg.CAN_RX).reg Reg.NODE_ID →
      exec (c) s = .next ((s.bump Reg.CAN_RX))) ∧
  (∀ (s : State),
      s.bootCan.reg Reg.NMT_STATE = 0x7F ∧
          (s.reg Reg.CAN_STATE ≠ 2 ∧ s.power.off = false ∧ s.reg Reg.PWR_STATE < 3 → s.bootCan.out = s.out ++ [.can
            (0x700 + s.reg Reg.NODE_ID) [0]])) ∧
  (∀ (frame : List Byte) (f : WriteFacts) (s : State),
      s.takesCan = true → (s.bump Reg.CAN_RX).sdoRuns = true → frame.length = 8 → sdoField frame 0 1 / 32 = 1 →
      exec (.sdoDownload frame f) s = .next ((s.bump Reg.CAN_RX).sdoBegin frame f)) ∧
  (∀ (frame : List Byte) (f : WriteFacts) (s : State),
      s.takesCan = true → (s.bump Reg.CAN_RX).sdoRuns = true → frame.length = 8 → sdoField frame 0 1 / 32 = 0 →
      exec (.sdoDownload frame f) s = .next ((s.bump Reg.CAN_RX).sdoNext frame f)) ∧
  (∀ (frame : List Byte) (f : WriteFacts) (s : State),
      s.takesCan = true → (s.bump Reg.CAN_RX).sdoRuns = true → frame.length = 8 → sdoField frame 0 1 / 32 = 4 →
      exec (.sdoDownload frame f) s = .next ((s.bump Reg.CAN_RX).dropTransfer)) ∧
  (∀ (frame : List Byte) (f : WriteFacts) (s : State),
      s.takesCan = true →
      ((s.bump Reg.CAN_RX).sdoRuns = false ∨ frame.length ≠ 8 ∨ sdoField frame 0 1 / 32 ≠ 0 ∧ sdoField frame 0 1 / 32
        ≠ 1 ∧ sdoField frame 0 1 / 32 ≠ 4) →
      exec (.sdoDownload frame f) s = .next ((s.bump Reg.CAN_RX))) ∧
  (∀ (frame : List Byte) (s : State),
      s.takesCan = true → (s.bump Reg.CAN_RX).sdoRuns = true → frame.length = 8 → sdoField frame 0 1 / 32 = 2 →
      exec (.sdoUpload frame) s = .next ((s.bump Reg.CAN_RX).sdoRead (sdoField frame 1 2) (sdoField frame 3 1))) ∧
  (∀ (frame : List Byte) (s : State),
      s.takesCan = true → (s.bump Reg.CAN_RX).sdoRuns = true → frame.length = 8 → sdoField frame 0 1 / 32 = 3 →
      exec (.sdoUpload frame) s = .next ((s.bump Reg.CAN_RX).sdoMore (bitField (sdoField frame 0 1) 4 1))) ∧
  (∀ (frame : List Byte) (s : State),
      s.takesCan = true →
      ((s.bump Reg.CAN_RX).sdoRuns = false ∨ frame.length ≠ 8 ∨ sdoField frame 0 1 / 32 ≠ 2 ∧ sdoField frame 0 1 / 32
        ≠ 3) →
      exec (.sdoUpload frame) s = .next ((s.bump Reg.CAN_RX))) ∧
  (∀ (frame : List Byte) (f : WriteFacts) (s : State),
      natBit (sdoField frame 0 1) 1 = true →
      s.sdoBegin frame f = s.dropTransfer.sdoApply (sdoField frame 1 2) (sdoField frame 3 1)
          ((frame.drop 4).take (if natBit (sdoField frame 0 1) 0 then 4 - bitField (sdoField frame 0 1) 2 2 else 4)) f
          fun t => t.sdoRespond 0x60 (sdoField frame 1 2) (sdoField frame 3 1) []) ∧
  (∀ (frame : List Byte) (f : WriteFacts) (s : State),
      natBit (sdoField frame 0 1) 1 = false →
      s.sdoBegin frame f = State.sdoRespond { s.dropTransfer with host := { s.dropTransfer.host with
          sdo := some ⟨true, sdoField frame 1 2, sdoField frame 3 1, [], s.now⟩ } } 0x60 (sdoField frame 1 2)
            (sdoField frame 3 1) []) ∧
  (∀ (frame : List Byte) (f : WriteFacts) (s : State),
      s.host.sdo = none →
      s.sdoNext frame f = s.sdoAbort 0 0 0x08000000 ∧ s.sdoMore 0 = s.sdoAbort 0 0 0x08000000 ∧ s.sdoMore 1 =
        s.sdoAbort 0 0 0x08000000) ∧
  (∀ (x : SdoTransfer) (frame : List Byte) (f : WriteFacts) (s : State),
      s.host.sdo = some x →
      (x.write = false → s.sdoNext frame f = s.sdoAbort x.index x.sub 0x08000000) ∧
          (x.write = true → ∀ k : Nat, s.sdoMore k = s.sdoAbort x.index x.sub 0x08000000)) ∧
  (∀ (x : SdoTransfer) (frame : List Byte) (f : WriteFacts) (s : State),
      s.host.sdo = some x → x.write = true → natBit (sdoField frame 0 1) 0 = false →
      s.sdoNext frame f = State.sdoSegment { s with host := { s.host with
          sdo := some { x with data := x.data ++ (frame.drop 1).take (7 - bitField (sdoField frame 0 1) 1 3), lastAt
                                 := s.now } } }
          (0x20 + bitField (sdoField frame 0 1) 4 1 * 16) []) ∧
  (∀ (x : SdoTransfer) (frame : List Byte) (f : WriteFacts) (s : State),
      s.host.sdo = some x → x.write = true → natBit (sdoField frame 0 1) 0 = true →
      s.sdoNext frame f = State.sdoApply { s with host := { s.host with sdo := none } } x.index x.sub
          (x.data ++ (frame.drop 1).take (7 - bitField (sdoField frame 0 1) 1 3)) f
          fun t => t.sdoSegment (0x20 + bitField (sdoField frame 0 1) 4 1 * 16) []) ∧
  (∀ (index sub : Nat) (data : List Byte) (f : WriteFacts) (ok : State → State) (r : Status × State) (s : State),
      s.writeObj .can index sub data f = r →
      s.sdoApply index sub data f ok = if r.1 = .ok then ok (r.2.respond r.1)
          else (r.2.respond r.1).sdoAbort index sub (abortCode true index sub data.length r.1)) ∧
  (∀ (index sub : Nat) (r : Status × List Byte × State) (s : State),
      s.dropTransfer.readAny .can 0 index sub = r → r.1 ≠ .ok →
      s.sdoRead index sub = (r.2.2.respond r.1 r.2.1).sdoAbort index sub (abortCode false index sub 0 r.1)) ∧
  (∀ (index sub : Nat) (r : Status × List Byte × State) (s : State),
      s.dropTransfer.readAny .can 0 index sub = r → r.1 = .ok → r.2.1.length ≤ 4 →
      s.sdoRead index sub = (r.2.2.respond r.1 r.2.1).sdoRespond (0x43 + 4 * (4 - r.2.1.length)) index sub r.2.1) ∧
  (∀ (index sub : Nat) (r : Status × List Byte × State) (s : State),
      s.dropTransfer.readAny .can 0 index sub = r → r.1 = .ok → 4 < r.2.1.length →
      s.sdoRead index sub = State.sdoRespond { r.2.2.respond r.1 r.2.1 with host := { r.2.2.host with
          sdo := some ⟨false, index, sub, r.2.1, s.now⟩ } } 0x41 index sub (leBytes 4 r.2.1.length)) ∧
  (∀ (k : Nat) (x : SdoTransfer) (s : State),
      s.host.sdo = some x → x.write = false → x.data.length ≤ 7 →
      s.sdoMore k = State.sdoSegment { s with host := { s.host with sdo := none } } (k * 16 + 2 * (7 - x.data.length)
        + 1) x.data) ∧
  (∀ (k : Nat) (x : SdoTransfer) (s : State),
      s.host.sdo = some x → x.write = false → 7 < x.data.length →
      s.sdoMore k = State.sdoSegment { s with host := { s.host with sdo := some { x with data := x.data.drop 7, lastAt
                                                                                           := s.now } } } (k * 16)
        (x.data.take 7)) ∧
  (∀ (x : SdoTransfer) (s : State),
      s.host.sdo = some x → x.lastAt + 1000000000 ≤ s.now →
      exec (.sdoSegmentTimeout) s = .next (s.sdoAbort x.index x.sub 0x05040000)) ∧
  (∀ (x : SdoTransfer) (s : State),
      s.host.sdo = some x → s.now < x.lastAt + 1000000000 →
      exec (.sdoSegmentTimeout) s = .next (s)) ∧
  (∀ (s : State),
      s.host.sdo = none →
      exec (.sdoSegmentTimeout) s = .next (s)) ∧
  (∀ (data : List Byte) (s : State),
      s.takesCan = true → s.reg Reg.NMT_STATE = 5 → natBit (s.held (Reg.RPDO_COB 0)) 31 = false → 8 ≤ data.length →
      (s.bump Reg.CAN_RX).isMaster = true →
      ((s.bump Reg.CAN_RX).push .saddle 0 ((s.bump Reg.CAN_RX).gaitCommand data)).resp.status = .ok →
      exec (.rpdo1Receive data) s =
        .next (((s.bump Reg.CAN_RX).push .saddle 0 ((s.bump Reg.CAN_RX).gaitCommand data)))) ∧
  (∀ (data : List Byte) (s : State),
      s.takesCan = true → s.reg Reg.NMT_STATE = 5 → natBit (s.held (Reg.RPDO_COB 0)) 31 = false → 8 ≤ data.length →
      (s.bump Reg.CAN_RX).isMaster = true →
      ((s.bump Reg.CAN_RX).push .saddle 0 ((s.bump Reg.CAN_RX).gaitCommand data)).resp.status ≠ .ok →
      exec (.rpdo1Receive data) s =
        .next (State.gaitRefused ((s.bump Reg.CAN_RX).push .saddle 0 ((s.bump Reg.CAN_RX).gaitCommand data)) ((s.bump
          Reg.CAN_RX).push .saddle 0 ((s.bump Reg.CAN_RX).gaitCommand data)).resp.status)) ∧
  (∀ (data : List Byte) (s : State),
      s.takesCan = true → s.reg Reg.NMT_STATE = 5 → natBit (s.held (Reg.RPDO_COB 0)) 31 = false → 8 ≤ data.length →
      (s.bump Reg.CAN_RX).isMaster = false →
      exec (.rpdo1Receive data) s = .next ((s.bump Reg.CAN_RX))) ∧
  (∀ (data : List Byte) (s : State),
      s.takesCan = true → s.reg Reg.NMT_STATE = 5 → natBit (s.held (Reg.RPDO_COB 0)) 31 = false → data.length < 8 →
      exec (.rpdo1Receive data) s = .next ((s.bump Reg.CAN_RX).bump Reg.PDO_LEN_ERR)) ∧
  (∀ (data : List Byte) (s : State),
      (s.reg Reg.NMT_STATE ≠ 5 ∨ natBit (s.held (Reg.RPDO_COB 0)) 31 = true) →
      exec (.rpdo1Receive data) s = .next (s)) ∧
  (∀ (data : List Byte) (s : State),
      s.takesCan = true → s.reg Reg.NMT_STATE = 5 → natBit (s.held (Reg.RPDO_COB 1)) 31 = false → 8 ≤ data.length →
      exec (.rpdo2Receive data) s = .next (
        (List.range 6).foldl (fun (u : State) p =>
          if leNat ((data.drop p).take 1) = 0xFF then u
          else match u.accessStatus .can true (0x2710 + p) 6 with
            | .ok => (u.overrideRein p (leNat ((data.drop p).take 1))).2
            | _ => u) (s.bump Reg.CAN_RX))) ∧
  (∀ (data : List Byte) (s : State),
      s.takesCan = true → s.reg Reg.NMT_STATE = 5 → natBit (s.held (Reg.RPDO_COB 1)) 31 = false → data.length < 8 →
      exec (.rpdo2Receive data) s = .next ((s.bump Reg.CAN_RX).bump Reg.PDO_LEN_ERR)) ∧
  (∀ (data : List Byte) (s : State),
      (s.reg Reg.NMT_STATE ≠ 5 ∨ natBit (s.held (Reg.RPDO_COB 1)) 31 = true) →
      exec (.rpdo2Receive data) s = .next (s)) ∧
  (∀ (i : Fin 4) (s : State),
      s.takesCan = true → s.reg Reg.NMT_STATE = 5 → s.tpdoInvalid i.val = false → s.tpdoDue i.val = true →
      exec (.tpdoEventTimer i) s = .next (
        let t := s.canSend (s.held (Reg.TPDO_COB i.val) % 2048) (s.tpdoData i.val)
        { t with
          host := { t.host with
            tpdoAt := Assoc.set i.val s.now t.host.tpdoAt,
            tpdoFrom := Assoc.set i.val s.now t.host.tpdoFrom,
            tpdoWant := t.host.tpdoWant.filter (· ≠ i.val + 1) } })) ∧
  (∀ (i : Fin 4) (s : State),
      (s.takesCan = false ∨ s.reg Reg.NMT_STATE ≠ 5 ∨ s.tpdoInvalid i.val = true ∨ s.tpdoDue i.val = false) →
      exec (.tpdoEventTimer i) s = .next (s)) ∧
  (∀ (s : State),
      s.takesCan = true → s.reg Reg.HEARTBEAT_MS ≠ 0 → s.host.heartbeatAt + s.reg Reg.HEARTBEAT_MS * 1000000 ≤ s.now →
      exec (.heartbeatTimer) s =
        .next (State.canSend { s with host := { s.host with heartbeatAt := s.now } } (0x700 + s.reg Reg.NODE_ID)
          (leBytes 1 (s.reg Reg.NMT_STATE)))) ∧
  (∀ (s : State),
      (s.takesCan = false ∨ s.reg Reg.HEARTBEAT_MS = 0 ∨ s.now < s.host.heartbeatAt + s.reg Reg.HEARTBEAT_MS *
        1000000) →
      exec (.heartbeatTimer) s = .next (s)) ∧
  (∀ (s : State),
      s.reg Reg.CAN_STATE = 2 → s.reg Reg.BUSOFF_RECOVER ≠ 0 →
      exec (.busoffRecovery) s = .next (
        let s1 := s.setReg Reg.CAN_STATE 0
        let s2 : State := { s1 with host := { s1.host with emcyWait := [] } }
        let s3 := if s.reg Reg.NMT_STATE = 4 then s2 else s.host.emcyWait.foldl (fun u m => u.canSend m.1 m.2) s2
        (s3.logFault { cls := .other, source := some 7 }).emcy 0x8140 .ok 7 0)) ∧
  (∀ (s : State),
      (s.reg Reg.CAN_STATE ≠ 2 ∨ s.reg Reg.BUSOFF_RECOVER = 0) →
      exec (.busoffRecovery) s = .next (s))

/-- UPD_BEGIN, over HTP or from a predecessor that a link reaches, answers: the first condition of R449 that fails,
  counted; BAD_FORMAT; REFUSED and counted where the chain has no link; else OK, a reception begun and the chain list
  sent on. UPD_BLOCK with no reception is REFUSED, of a wrong length or place BAD_FORMAT, of a wrong CRC BAD_FORMAT
  and counted, else held, forwarded and OK; a block a successor asks for again is forwarded where it is held. A
  forwarded block is taken from its 65 flits; where its CRC or place is wrong it is counted and asked for 8 times,
  then reported; until then nothing happens. UPD_VERIFY is REFUSED before the whole image; a failure makes the bank
  FAILED, else it is STAGED. UPD_ACTIVATE and UPD_ROLLBACK are refused by R449, SECURITY where the bank does not
  verify, else hand over, replying later; a silent Saddle fails after 1 s. UPD_COMMIT, and PROBATION_EXPIRY after
  PROBATION_S, commit a bank on probation; otherwise REFUSED, or nothing. UPD_ABORT ends a reception and is OK.
  UPD_STATUS tells the state. A swap waits for no step in flight, the deferred one for a gait other than Trot;
  RECOVERY_BOOT boots a verified bank. -/
def Obligations.FirmwareUpdate : Prop :=
  (∀ (x : HtpFrame) (y : Session) (a : Status × List Byte) (u : State) (members : List Status) (s : State),
      s.htpReady x 0x20 y → (s.htpTaken x).beginUpdate none members x.payload = (some a, u) →
      exec (.updBegin (.htp x) members) s = .next (u.reply x 0x20 a.1 a.2)) ∧
  (∀ (dev : Fin 64) (p : List Byte) (a : Status × List Byte) (u : State) (members : List Status) (s : State),
      s.power.off = false → s.reg Reg.PWR_STATE = 0 → s.update.recovery = false → s.update.handover = none →
      s.linkTo dev.val ≠ none → s.beginUpdate (some dev.val) members p = (some a, u) →
      exec (.updBegin (.chain dev p) members) s =
        .next ((u.emit (.ctrl dev.val "UPD_BEGIN reply" a.1.code)).respond a.1 a.2)) ∧
  (∀ (dev : Fin 64) (p : List Byte) (members : List Status) (s : State),
      (s.power.off = true ∨ s.reg Reg.PWR_STATE ≠ 0 ∨ s.update.recovery = true ∨ s.update.handover ≠ none ∨ s.linkTo
        dev.val = none) →
      exec (.updBegin (.chain dev p) members) s = .next (s)) ∧
  (∀ (st : Status) (pred : Option Nat) (members : List Status) (p : List Byte) (s : State),
      s.beginBar = some st →
      s.beginUpdate pred members p = (some (st, []), (s.bump Reg.UPD_REFUSED).setReg Reg.UPD_LAST_STATUS (Status.code
        st))) ∧
  (∀ (pred : Option Nat) (members : List Status) (p : List Byte) (s : State),
      s.beginBar = none →
      (p.length < 16 + imgField p 8 1 ∨ imgField p 0 8 = 0 ∨ imgField p 0 8 % 4096 ≠ 0 ∨ 0x1800000 < imgField p 0 8 ∨
        63 < imgField p 8 1 ∨ imgField p 9 7 ≠ 0) →
      s.beginUpdate pred members p = (some (.badFormat, []), s)) ∧
  (∀ (pred : Option Nat) (members : List Status) (p : List Byte) (s : State),
      s.beginBar = none → 16 + imgField p 8 1 ≤ p.length → imgField p 0 8 ≠ 0 → imgField p 0 8 % 4096 = 0 →
      imgField p 0 8 ≤ 0x1800000 → imgField p 8 1 ≤ 63 → imgField p 9 7 = 0 → imgField p 8 1 ≠ 0 →
      (s.update.recovery = true ∨ s.linkTo (imgField p 16 1) = none) →
      s.beginUpdate pred members p = (some (.refused, []), (s.bump Reg.UPD_REFUSED).setReg Reg.UPD_LAST_STATUS
        (Status.code .refused))) ∧
  (∀ (pred : Option Nat) (members : List Status) (p : List Byte) (s : State),
      s.beginBar = none → 16 + imgField p 8 1 ≤ p.length → imgField p 0 8 ≠ 0 → imgField p 0 8 % 4096 = 0 →
      imgField p 0 8 ≤ 0x1800000 → imgField p 8 1 ≤ 63 → imgField p 9 7 = 0 →
      (imgField p 8 1 = 0 ∨ s.update.recovery = false ∧ s.linkTo (imgField p 16 1) ≠ none) →
      s.beginUpdate pred members p = (some (.ok, []),
          let chain := (List.range (imgField p 8 1)).map fun i => imgField p (16 + i) 1
          let u := (((s.modUpdate fun u => { u with
            blocks := [], chain := chain, chainStatus := members.take (imgField p 8 1), chainFrom := pred, retries :=
              0 }).setReg
            Reg.UPD_STATE 1).setReg Reg.UPD_BLOCKS 0).setReg Reg.UPD_LEN (imgField p 0 8)
          if imgField p 8 1 = 0 then u
          else u.emit (.ctrl (chain.getD 0 0) "UPD_BEGIN" (leNat (leBytes 8 (imgField p 0 8) ++ leBytes 1 (imgField p
            8 1 - 1) ++
            List.replicate 7 0 ++ (chain.drop 1).flatMap (leBytes 1)))))) ∧
  (∀ (x : HtpFrame) (y : Session) (s : State),
      s.htpReady x 0x21 y → (s.htpTaken x).receiving = false →
      exec (.updBlock (.htp x)) s = .next ((s.htpTaken x).reply x 0x21 .refused [])) ∧
  (∀ (x : HtpFrame) (y : Session) (s : State),
      s.htpReady x 0x21 y → (s.htpTaken x).receiving = true →
      ((x.payload.drop 8).length ≠ 4096 ∨ (s.htpTaken x).reg Reg.UPD_LEN ≤ 4096 * htpField x 0 4) →
      exec (.updBlock (.htp x)) s = .next ((s.htpTaken x).reply x 0x21 .badFormat [])) ∧
  (∀ (x : HtpFrame) (y : Session) (s : State),
      s.htpReady x 0x21 y → (s.htpTaken x).receiving = true → (x.payload.drop 8).length = 4096 →
      4096 * htpField x 0 4 < (s.htpTaken x).reg Reg.UPD_LEN →
      exec (.updBlock (.htp x)) s = .next (
        if (crc32c (x.payload.drop 8)).toNat = htpField x 4 4 then
          ((s.htpTaken x).holdBlock (htpField x 0 4) (x.payload.drop 8)).reply x 0x21 .ok []
        else ((s.htpTaken x).bump Reg.BLK_CRC_FAIL).reply x 0x21 .badFormat [])) ∧
  (∀ (i : Nat) (dev : Fin 64) (p : List Byte) (d : List Byte) (s : State),
      s.power.off = false → s.reg Reg.PWR_STATE = 0 → s.update.handover = none → imgField p 0 4 = i →
      Assoc.get? i s.update.blocks = some d → s.update.chain.head? = some dev.val →
      exec (.updBlock (.chain dev p)) s = .next (s.forwardBlock i d)) ∧
  (∀ (dev : Fin 64) (p : List Byte) (s : State),
      (s.power.off = true ∨ s.reg Reg.PWR_STATE ≠ 0 ∨ s.update.handover ≠ none ∨ Assoc.get? (imgField p 0 4)
        s.update.blocks = none ∨ s.update.chain.head? ≠ some dev.val) →
      exec (.updBlock (.chain dev p)) s = .next (s)) ∧
  (∀ (i : Nat) (d : List Byte) (s : State),
      s.holdBlock i d = (
          let t := s.modUpdate fun u => { u with blocks := Assoc.set i d u.blocks, retries := 0 }
          (t.setReg Reg.UPD_BLOCKS t.update.blocks.length).forwardBlock i d)) ∧
  (∀ (l : LinkId) (s : State),
      (((s.tether.lines.filter fun x => x.1 = l.val ∧ x.2.1 / 2 ^ 56 = 7).take 65).length < 65 ∨ s.receiving = false)
        →
      exec (.chainBlockReceive l) s = .next (s)) ∧
  (∀ (l : LinkId) (lines : List (Nat × Nat × List Byte)) (s : State),
      ((s.tether.lines.filter fun x => x.1 = l.val ∧ x.2.1 / 2 ^ 56 = 7).take 65) = lines → lines.length = 65 →
      s.receiving = true → s.update.retries < 8 →
      exec (.chainBlockReceive l) s = .next (
        if (crc32c ((lines.take 64).flatMap fun x => x.2.2)).toNat = leNat ((((lines.getD 64 (0, 0, [])).2.2).drop
          4).take 4) ∧ 4096 * leNat (((lines.getD 64 (0, 0, [])).2.2).take 4) < s.reg Reg.UPD_LEN then
          State.holdBlock (s.modTether fun t => { t with lines := lines.foldl (fun a x => dropFirst x a) t.lines })
            (leNat (((lines.getD 64 (0, 0, [])).2.2).take 4)) ((lines.take 64).flatMap fun x => x.2.2)
        else
          (((State.bump (s.modTether fun t => { t with lines := lines.foldl (fun a x => dropFirst x a) t.lines })
            Reg.BLK_CRC_FAIL).modUpdate fun u => { u with retries := u.retries + 1 }).emit
            (.ctrl (s.update.chainFrom.getD (s.reg (Reg.PEER_DEV l.val))) "UPD_BLOCK again" (leNat (((lines.getD 64
              (0, 0, [])).2.2).take 4)))))) ∧
  (∀ (l : LinkId) (lines : List (Nat × Nat × List Byte)) (s : State),
      ((s.tether.lines.filter fun x => x.1 = l.val ∧ x.2.1 / 2 ^ 56 = 7).take 65) = lines → lines.length = 65 →
      s.receiving = true → 8 ≤ s.update.retries →
      exec (.chainBlockReceive l) s = .next (
        if (crc32c ((lines.take 64).flatMap fun x => x.2.2)).toNat = leNat ((((lines.getD 64 (0, 0, [])).2.2).drop
          4).take 4) ∧ 4096 * leNat (((lines.getD 64 (0, 0, [])).2.2).take 4) < s.reg Reg.UPD_LEN then
          State.holdBlock (s.modTether fun t => { t with lines := lines.foldl (fun a x => dropFirst x a) t.lines })
            (leNat (((lines.getD 64 (0, 0, [])).2.2).take 4)) ((lines.take 64).flatMap fun x => x.2.2)
        else
          ((State.bump (s.modTether fun t => { t with lines := lines.foldl (fun a x => dropFirst x a) t.lines })
            Reg.BLK_CRC_FAIL).setReg Reg.UPD_LAST_STATUS Status.badFormat.code).emit
            (.ctrl (s.update.chainFrom.getD (s.reg (Reg.PEER_DEV l.val))) "UPD_BLOCK reply" Status.badFormat.code))) ∧
  (∀ (x : HtpFrame) (y : Session) (a : Status × List Byte) (u : State) (back : StoreVerify) (members : List Status) (s : State),
      s.htpReady x 0x22 y → (s.htpTaken x).verifyUpdate back members = (some a, u) →
      exec (.updVerify (.htp x) back members) s = .next (u.reply x 0x22 a.1 a.2)) ∧
  (∀ (dev : Fin 64) (p : List Byte) (a : Status × List Byte) (u : State) (back : StoreVerify) (members : List Status) (s : State),
      s.power.off = false → s.reg Reg.PWR_STATE = 0 → s.update.recovery = false → s.update.handover = none →
      s.linkTo dev.val ≠ none → s.verifyUpdate back members = (some a, u) →
      exec (.updVerify (.chain dev p) back members) s =
        .next ((u.emit (.ctrl dev.val "UPD_VERIFY reply" a.1.code)).respond a.1 a.2)) ∧
  (∀ (dev : Fin 64) (p : List Byte) (back : StoreVerify) (members : List Status) (s : State),
      (s.power.off = true ∨ s.reg Reg.PWR_STATE ≠ 0 ∨ s.update.recovery = true ∨ s.update.handover ≠ none ∨ s.linkTo
        dev.val = none) →
      exec (.updVerify (.chain dev p) back members) s = .next (s)) ∧
  (∀ (back : StoreVerify) (members : List Status) (s : State),
      (s.receiving = false ∨ s.update.blocks.length < s.reg Reg.UPD_LEN / 4096) →
      s.verifyUpdate back members = (some (.refused, []), s)) ∧
  (∀ (st : Status) (back : StoreVerify) (members : List Status) (s : State),
      s.receiving = true → s.reg Reg.UPD_LEN / 4096 ≤ s.update.blocks.length →
      verifyImage ((List.range (s.reg Reg.UPD_LEN / 4096)).flatMap fun i => Assoc.getD s.update.blocks i []) = st →
      s.verifyUpdate back members = (
          let bank := !s.update.recovery && !s.bankB
          let s1 := match s.update.chain with
            | [] => s
            | d :: _ => (s.emit (.ctrl d "UPD_VERIFY" 0)).modUpdate fun u => { u with chainStatus := members.take
                                                                                        u.chain.length }
          let s2 := if st = .security then s1.bump Reg.SIG_FAIL else s1
          let r := if st = .ok ∧ back = .failed then .eccUncorr else st
          (some (r, []), if r = .ok then
              ((((s2.setReg (bankState bank) 1).setReg (bankVer bank) (imgField ((List.range (s.reg Reg.UPD_LEN /
                4096)).flatMap fun i => Assoc.getD s.update.blocks i []) 8 4)).modUpdate fun u =>
                if bank then { u with imgB := bankImage ((List.range (s.reg Reg.UPD_LEN / 4096)).flatMap fun i =>
                                        Assoc.getD s.update.blocks i []) } else { u with imgA := bankImage
                                                                                           ((List.range (s.reg
                                                                                           Reg.UPD_LEN /
                                                                                           4096)).flatMap fun i =>
                                                                                           Assoc.getD s.update.blocks
                                                                                           i []) }).setReg
                Reg.UPD_STATE 3).setReg Reg.UPD_LAST_STATUS 0
            else ((s2.setReg (bankState bank) 5).setReg Reg.UPD_STATE s.updIdle).setReg Reg.UPD_LAST_STATUS r.code))) ∧
  (∀ (x : HtpFrame) (y : Session) (a : Status × List Byte) (u : State) (holds : Bool) (tk : Takeover) (s : State),
      s.htpReady x 0x23 y → (s.htpTaken x).handOver x false holds tk = (some a, u) →
      exec (.updActivate x holds tk) s = .next (u.reply x 0x23 a.1 a.2)) ∧
  (∀ (x : HtpFrame) (y : Session) (u : State) (holds : Bool) (tk : Takeover) (s : State),
      s.htpReady x 0x23 y → (s.htpTaken x).handOver x false holds tk = (none, u) →
      exec (.updActivate x holds tk) s =
        .next (u.modSession x.peer fun z => { z with replies := z.replies ++ [{ op := 0x23, tag := x.tag.toNat }] })) ∧
  (∀ (x : HtpFrame) (y : Session) (a : Status × List Byte) (u : State) (holds : Bool) (tk : Takeover) (s : State),
      s.htpReady x 0x25 y → (s.htpTaken x).handOver x true holds tk = (some a, u) →
      exec (.updRollback x holds tk) s = .next (u.reply x 0x25 a.1 a.2)) ∧
  (∀ (x : HtpFrame) (y : Session) (u : State) (holds : Bool) (tk : Takeover) (s : State),
      s.htpReady x 0x25 y → (s.htpTaken x).handOver x true holds tk = (none, u) →
      exec (.updRollback x holds tk) s =
        .next (u.modSession x.peer fun z => { z with replies := z.replies ++ [{ op := 0x25, tag := x.tag.toNat }] })) ∧
  (∀ (st : Status) (x : HtpFrame) (back holds : Bool) (tk : Takeover) (s : State),
      s.activateBar back = some st →
      s.handOver x back holds tk = (some (st, []), (s.bump Reg.UPD_REFUSED).setReg Reg.UPD_LAST_STATUS (Status.code
        st))) ∧
  (∀ (x : HtpFrame) (back holds : Bool) (tk : Takeover) (s : State),
      s.activateBar back = none → holds = false →
      s.handOver x back holds tk = (some (.security, []),
          (((s.setReg (bankState (!s.bankB)) 5).bump Reg.SIG_FAIL).setReg Reg.UPD_STATE s.updIdle).setReg
            Reg.UPD_LAST_STATUS Status.security.code)) ∧
  (∀ (x : HtpFrame) (back holds : Bool) (tk : Takeover) (s : State),
      s.activateBar back = none → holds = true →
      s.handOver x back holds tk = (none,
          let t := (s.setReg Reg.UPD_STATE 4).modUpdate fun u =>
              { u with asked := some (x.peer, if back then 0x25 else 0x23, x.tag.toNat) }
          match tk with
            | .confirms v => t.takeOver back v
            | .unsupported => t.handoverFails back .version
            | .silent => t.modUpdate fun u => { u with handover := some (s.now, back) })) ∧
  (∀ (at' : Nat) (back : Bool) (s : State),
      s.update.handover = some (at', back) → at' + 1000000000 ≤ s.now →
      exec (.handoverTimeout) s = .next ((s.handoverFails back .timeout).takeHeld)) ∧
  (∀ (at' : Nat) (back : Bool) (s : State),
      s.update.handover = some (at', back) → s.now < at' + 1000000000 →
      exec (.handoverTimeout) s = .next (s)) ∧
  (∀ (s : State),
      s.update.handover = none →
      exec (.handoverTimeout) s = .next (s)) ∧
  (∀ (x : HtpFrame) (y : Session) (s : State),
      s.htpReady x 0x24 y → (s.htpTaken x).onProbation = true →
      exec (.updCommit x) s = .next ((s.htpTaken x).commitBank.reply x 0x24 .ok [])) ∧
  (∀ (x : HtpFrame) (y : Session) (s : State),
      s.htpReady x 0x24 y → (s.htpTaken x).onProbation = false →
      exec (.updCommit x) s = .next ((s.htpTaken x).reply x 0x24 .refused [])) ∧
  (∀ (s : State),
      s.commitBank.reg (bankState s.bankB) = 3 ∧
          s.commitBank.reg Reg.SVN_MIN = max (s.reg Reg.SVN_MIN) (s.update.image s.bankB).svn ∧
            s.commitBank.update.probationFrom = none) ∧
  (∀ (x : HtpFrame) (y : Session) (s : State),
      s.htpReady x 0x26 y → (s.htpTaken x).receiving = true →
      exec (.updAbort x) s = .next (
        (((((s.htpTaken x).modUpdate fun u =>
          { u with blocks := [], chain := [], chainStatus := [], chainFrom := none }).setReg Reg.UPD_STATE (s.htpTaken
            x).updIdle).setReg
          Reg.UPD_BLOCKS 0)).reply x 0x26 .ok [])) ∧
  (∀ (x : HtpFrame) (y : Session) (s : State),
      s.htpReady x 0x26 y → (s.htpTaken x).receiving = false →
      exec (.updAbort x) s = .next ((s.htpTaken x).reply x 0x26 .ok [])) ∧
  (∀ (x : HtpFrame) (y : Session) (s : State),
      s.htpReady x 0x27 y →
      exec (.updStatus x) s = .next (
        let t := s.htpTaken x
        t.reply x 0x27 .ok (leBytes 1 (t.reg Reg.UPD_STATE) ++ leBytes 4 (t.reg Reg.UPD_BLOCKS) ++
          leBytes 4 (t.reg Reg.UPD_LEN) ++ leBytes 1 (t.reg Reg.BANK_A_STATE) ++ leBytes 1 (t.reg Reg.BANK_B_STATE) ++
          leBytes 4 (t.reg Reg.BANK_A_VER) ++ leBytes 4 (t.reg Reg.BANK_B_VER) ++
          t.update.chainStatus.flatMap fun a => leBytes 1 a.code))) ∧
  (∀ (us : Fin 201) (at' : Nat) (s : State),
      s.update.swapFrom = some at' → s.noStep = true →
      exec (.microcodeSwap us) s = .next (
        let x := s.update.image (if s.update.asked.isSome then !s.bankB else s.bankB)
        (((s.modUpdate fun u =>
          { u with ucRun := x.uc.foldl (fun a c => Assoc.set c.1 c.2 a) u.ucRun, swapFrom := none }).bump
          Reg.UC_SWAPS).peak Reg.SWAP_MAX_US us.val).closeHandover)) ∧
  (∀ (us : Fin 201) (s : State),
      (s.update.swapFrom = none ∨ s.noStep = false) →
      exec (.microcodeSwap us) s = .next (s)) ∧
  (∀ (at' : Nat) (s : State),
      s.update.probationFrom = some at' → at' + s.reg Reg.PROBATION_S * 1000000000 ≤ s.now → s.onProbation = true →
      exec (.probationExpiry) s = .next (s.commitBank)) ∧
  (∀ (at' : Nat) (s : State),
      s.update.probationFrom = some at' → (s.now < at' + s.reg Reg.PROBATION_S * 1000000000 ∨ s.onProbation = false) →
      exec (.probationExpiry) s = .next (s)) ∧
  (∀ (s : State),
      s.update.probationFrom = none →
      exec (.probationExpiry) s = .next (s)) ∧
  (∀ (s : State),
      s.reg Reg.UPD_STATE = 0x85 → s.reg Reg.GAIT ≠ 1 →
      exec (.deferredMicrocodeSwap) s =
        .next ((s.setReg Reg.UPD_STATE 0).modUpdate fun u => { u with swapFrom := some s.now })) ∧
  (∀ (s : State),
      (s.reg Reg.UPD_STATE ≠ 0x85 ∨ s.reg Reg.GAIT = 1) →
      exec (.deferredMicrocodeSwap) s = .next (s)) ∧
  (∀ (s : State),
      s.update.recovery = true → s.reg Reg.UPD_STATE = 3 → s.reg Reg.BANK_A_STATE = 1 →
      exec (.recoveryBoot) s = .next (
        (((if s.reg Reg.BANK_B_STATE = 3 then s.setReg Reg.BANK_B_STATE 5 else s).setReg Reg.BANK_A_STATE 3).setReg
          Reg.BANK_ACTIVE
          0).coldStart 0)) ∧
  (∀ (s : State),
      (s.update.recovery = false ∨ s.reg Reg.UPD_STATE ≠ 3 ∨ s.reg Reg.BANK_A_STATE ≠ 1) →
      exec (.recoveryBoot) s = .next (s))

/-- ID_GET answers the identity; ATTEST of 32 bytes, in a state with IDK, a signed report, counted, without it REFUSED,
  shorter BAD_FORMAT; CHALLENGE 32 fresh bytes that replace the last. An OWNER_OP row takes a frame that spells its
  operation, or none; it is turned away as another request is, else it answers what the operation gives: BAD_FORMAT
  where malformed; a wrong or late challenge SECURITY and counted, as is a wrong signature; REFUSED in a wrong
  lifecycle state; SET_LOCK sets the three lock bits, SET_TAMPER_EN the sources where the three fixed ones stay
  enabled; another is REFUSED while R437 bars it, TAKE_OWNERSHIP with a key that does not open SECURITY and counted,
  else it makes its transition. The Saddle calls act on ranges of its own regions, any other being SECURITY,
  UNSEAL_KEY on a handle outside 8000H-803FH BAD_FORMAT. A tamper source that is enabled (in WATCH but the clock
  detector) wipes the Tack Room, is counted and recorded, and restarts the device, or in WATCH makes the next wake
  cold; in OFF nothing; TAMPER_LOOP follows its source. TAMPER_RECHECK, after 100 ms without keys, notes the sources
  and installs the keys once none is active; LIFECYCLE_RESTART turns on a device that is off, at its time, unless
  RESET_N holds it; otherwise they do nothing. -/
def Obligations.SecurityOperations : Prop :=
  (∀ (x : HtpFrame) (y : Session) (s : State),
      s.htpReady x 0x30 y →
      exec (.idGet x) s = .next ((s.htpTaken x).reply x 0x30 .ok (s.htpTaken x).idData)) ∧
  (∀ (x : HtpFrame) (y : Session) (s : State),
      s.htpReady x 0x31 y → 32 ≤ x.payload.length →
      exec (.attest x) s = .next (
        let r := (s.htpTaken x).attest (x.payload.take 32)
        r.2.2.reply x 0x31 r.1 r.2.1)) ∧
  (∀ (x : HtpFrame) (y : Session) (s : State),
      s.htpReady x 0x31 y → x.payload.length < 32 →
      exec (.attest x) s = .next ((s.htpTaken x).reply x 0x31 .badFormat [])) ∧
  (∀ (k : Nat) (n : List Byte) (s : State),
      Assoc.get? 3 s.security.keys = some k → (s.reg Reg.LC_STATE = 2 ∨ s.reg Reg.LC_STATE = 3) →
      s.attest n = (
          let r := s.sign k (sha384Bytes (s.reportBody n))
          (.ok, s.reportBody n ++ r.1, r.2.bump Reg.ATTESTS))) ∧
  (∀ (n : List Byte) (s : State),
      (Assoc.get? 3 s.security.keys = none ∨ s.reg Reg.LC_STATE ≠ 2 ∧ s.reg Reg.LC_STATE ≠ 3) →
      s.attest n = (.refused, [], s)) ∧
  (∀ (x : HtpFrame) (y : Session) (s : State),
      s.htpReady x 0x32 y →
      exec (.challenge x) s = .next (
        let r := (s.htpTaken x).drawChallenge
        r.2.reply x 0x32 .ok r.1)) ∧
  (∀ (s : State),
      s.drawChallenge.2.security.challenge = some (s.drawChallenge.1, s.now)) ∧
  (∀ (x : HtpFrame) (y : Session) (r : Status × State) (s : State),
      s.htpReady x 0x33 y → htpField x 0 1 = 1 → (s.htpTaken x).ownerOp x.payload = r →
      exec (.takeOwnership x) s = .next (r.2.reply x 0x33 r.1 [])) ∧
  (∀ (x : HtpFrame) (y : Session) (r : Status × State) (s : State),
      s.htpReady x 0x33 y → htpField x 0 1 = 2 → (s.htpTaken x).ownerOp x.payload = r →
      exec (.release x) s = .next (r.2.reply x 0x33 r.1 [])) ∧
  (∀ (x : HtpFrame) (y : Session) (r : Status × State) (s : State),
      s.htpReady x 0x33 y → htpField x 0 1 = 3 → (s.htpTaken x).ownerOp x.payload = r →
      exec (.retire x) s = .next (r.2.reply x 0x33 r.1 [])) ∧
  (∀ (x : HtpFrame) (y : Session) (r : Status × State) (s : State),
      s.htpReady x 0x33 y → htpField x 0 1 = 4 → (s.htpTaken x).ownerOp x.payload = r →
      exec (.setLock x) s = .next (r.2.reply x 0x33 r.1 [])) ∧
  (∀ (x : HtpFrame) (y : Session) (r : Status × State) (s : State),
      s.htpReady x 0x33 y → htpField x 0 1 = 5 → (s.htpTaken x).ownerOp x.payload = r →
      exec (.setTamperEn x) s = .next (r.2.reply x 0x33 r.1 [])) ∧
  (∀ (x : HtpFrame) (y : Session) (r : Status × State) (s : State),
      s.htpReady x 0x33 y → htpField x 0 1 = 6 → (s.htpTaken x).ownerOp x.payload = r →
      exec (.provision x) s = .next (r.2.reply x 0x33 r.1 [])) ∧
  (∀ (c : Instr) (x : HtpFrame) (k : Nat) (s : State),
      ownerRow c = some (x, k) → ownsFrame x k = false →
      exec (c) s = .next (s)) ∧
  (∀ (c : Instr) (x : HtpFrame) (k : Nat) (u : State) (s : State),
      ownerRow c = some (x, k) → ownsFrame x k = true → s.htpTurnedAway x 0x33 = some u →
      exec (c) s = .next (u)) ∧
  (∀ (x : HtpFrame) (y : Session) (s : State),
      s.htpReady x 0x33 y → (htpField x 0 1 = 0 ∨ 6 < htpField x 0 1) →
      exec (.retire x) s = .next ((s.htpTaken x).reply x 0x33 .badFormat [])) ∧
  (∀ (p : List Byte) (s : State),
      ownerBad p = true →
      s.ownerOp p = (.badFormat, s)) ∧
  (∀ (p : List Byte) (s : State),
      ownerBad p = false → s.challengeHolds p = false →
      s.ownerOp p = (.security, (s.modSecurity fun z => { z with challenge := none }).bump Reg.AUTH_FAIL)) ∧
  (∀ (p : List Byte) (s : State),
      ownerBad p = false → s.challengeHolds p = true → ownerAllowed (ownField p 0 1) (s.reg Reg.LC_STATE) = false →
      s.ownerOp p = (
          let u := s.modSecurity fun z => { z with challenge := none }
          if Config.ecdsaVerify (s.authoriser p) (sha384Bytes (p.take 296)) ((p.drop 296).take 96) = false then
            (.security, u.bump Reg.AUTH_FAIL)
          else (.refused, u))) ∧
  (∀ (p : List Byte) (s : State),
      ownerBad p = false → s.challengeHolds p = true → ownField p 0 1 = 4 → s.reg Reg.LC_STATE = 3 →
      s.ownerOp p = (
          let u := s.modSecurity fun z => { z with challenge := none }
          if Config.ecdsaVerify (s.authoriser p) (sha384Bytes (p.take 296)) ((p.drop 296).take 96) = false then
            (.security, u.bump Reg.AUTH_FAIL)
          else (.ok, u.setReg Reg.OWNER_LOCK (ownField p 36 4 % 8)))) ∧
  (∀ (p : List Byte) (s : State),
      ownerBad p = false → s.challengeHolds p = true → ownField p 0 1 = 5 → s.reg Reg.LC_STATE = 3 →
      s.ownerOp p = (
          let u := s.modSecurity fun z => { z with challenge := none }
          if Config.ecdsaVerify (s.authoriser p) (sha384Bytes (p.take 296)) ((p.drop 296).take 96) = false then
            (.security, u.bump Reg.AUTH_FAIL)
          else if ownField p 36 4 % 32 / 4 = 7 then (.ok, u.setReg Reg.TAMPER_EN (ownField p 36 4 % 32))
          else (.badFormat, u))) ∧
  (∀ (p : List Byte) (s : State),
      ownerBad p = false → s.challengeHolds p = true → (ownField p 0 1 ≠ 4 ∧ ownField p 0 1 ≠ 5) →
      ownerAllowed (ownField p 0 1) (s.reg Reg.LC_STATE) = true →
      s.ownerOp p = (
          let u := s.modSecurity fun z => { z with challenge := none }
          if Config.ecdsaVerify (s.authoriser p) (sha384Bytes (p.take 296)) ((p.drop 296).take 96) = false then
            (.security, u.bump Reg.AUTH_FAIL)
          else if ownField p 0 1 = 1 ∧ s.unwrapOsk p = none then (.security, u.bump Reg.AUTH_FAIL)
          else if s.transitionBar = true then (.refused, u)
          else (.ok, u.transition p (if ownField p 0 1 = 1 then s.unwrapOsk p else none)))) ∧
  (∀ (at' cause : Nat) (s : State),
      s.security.restartAt = some (at', cause) → at' ≤ s.now → s.power.resetHeld = false → s.power.off = true →
      exec (.lifecycleRestart) s = .next (s.turnOn)) ∧
  (∀ (at' cause : Nat) (s : State),
      s.security.restartAt = some (at', cause) → (s.now < at' ∨ s.power.resetHeld = true ∨ s.power.off = false) →
      exec (.lifecycleRestart) s = .next (s)) ∧
  (∀ (s : State),
      s.security.restartAt = none →
      exec (.lifecycleRestart) s = .next (s)) ∧
  (∀ (sources : BitVec 5) (s : State),
      s.power.off = false → s.reg Reg.PWR_STATE ≠ 3 → (sources.toNat &&& s.reg Reg.TAMPER_EN &&& 0x1F) ≠ 0 →
      exec (.tamperDetect sources) s = .next (
        State.offAndRestart (((((s.tamperLoop sources).wipeTack 1).setReg Reg.TAMPER_LAST (sources.toNat &&& s.reg
          Reg.TAMPER_EN &&& 0x1F)).bump Reg.TAMPER_EVENTS).logFault
          { cls := .security, ref := (sources.toNat &&& s.reg Reg.TAMPER_EN &&& 0x1F) }) 2)) ∧
  (∀ (sources : BitVec 5) (s : State),
      s.power.off = false → s.reg Reg.PWR_STATE = 3 → (sources.toNat &&& s.reg Reg.TAMPER_EN &&& 0x17) ≠ 0 →
      exec (.tamperDetect sources) s = .next (
        State.modSecurity (((((s.tamperLoop sources).wipeTack 1).setReg Reg.TAMPER_LAST (sources.toNat &&& s.reg
          Reg.TAMPER_EN &&& 0x17)).bump Reg.TAMPER_EVENTS).logFault
          { cls := .security, ref := (sources.toNat &&& s.reg Reg.TAMPER_EN &&& 0x17) }) fun z => { z with coldWake :=
                                                                                                             true })) ∧
  (∀ (sources : BitVec 5) (s : State),
      s.power.off = false →
      ((sources.toNat &&& s.reg Reg.TAMPER_EN &&& 0x1F) = 0 ∨ s.reg Reg.PWR_STATE = 3 ∧ (sources.toNat &&& s.reg
        Reg.TAMPER_EN &&& 0x17) = 0) →
      exec (.tamperDetect sources) s = .next (s.tamperLoop sources)) ∧
  (∀ (sources : BitVec 5) (s : State),
      s.power.off = true →
      exec (.tamperDetect sources) s = .next (s)) ∧
  (∀ (sources : BitVec 5) (s : State),
      s.reg Reg.TAMPER_ACTIVE ≠ 0 → s.security.noKeys = true → s.security.checkedAt + 100000000 ≤ s.now →
      ((sources.toNat &&& s.reg Reg.TAMPER_EN) ≠ 0 ∨ s.security.trngFailed = true) →
      exec (.tamperRecheck sources) s =
        .next (((s.tamperLoop sources).setReg Reg.TAMPER_ACTIVE (sources.toNat &&& s.reg Reg.TAMPER_EN)).modSecurity
          fun z => { z with checkedAt := s.now })) ∧
  (∀ (sources : BitVec 5) (s : State),
      s.reg Reg.TAMPER_ACTIVE ≠ 0 → s.security.noKeys = true → s.security.checkedAt + 100000000 ≤ s.now →
      (sources.toNat &&& s.reg Reg.TAMPER_EN) = 0 → s.security.trngFailed = false →
      exec (.tamperRecheck sources) s =
        .next ((((s.tamperLoop sources).setReg Reg.TAMPER_ACTIVE (sources.toNat &&& s.reg Reg.TAMPER_EN)).modSecurity
          fun z => { z with checkedAt := s.now }).installKeys)) ∧
  (∀ (sources : BitVec 5) (s : State),
      (s.reg Reg.TAMPER_ACTIVE = 0 ∨ s.security.noKeys = false ∨ s.now < s.security.checkedAt + 100000000) →
      exec (.tamperRecheck sources) s = .next (s)) ∧
  (∀ (img len : Nat) (s : State),
      s.saddleMay true img (max len 256) = true →
      exec (.ecallOpenHarness img len) s = .next (
        let o := s.openEnvelope img len s.harnessMode
        o.2.respond o.1.status (if o.1.status = .ok then leBytes 48 o.1.meas else []))) ∧
  (∀ (img len : Nat) (s : State),
      s.saddleMay true img (max len 256) = false →
      exec (.ecallOpenHarness img len) s = .next (s.respond .security)) ∧
  (∀ (src dst : Nat) (s : State),
      s.saddleMay false src 32 = true → s.saddleMay true dst 352 = true →
      exec (.ecallAttest src dst) s = .next (
        let r := s.attest (s.bytes src 32)
        (r.2.2.setBytes dst r.2.1).respond r.1)) ∧
  (∀ (src dst : Nat) (s : State),
      (s.saddleMay false src 32 = false ∨ s.saddleMay true dst 352 = false) →
      exec (.ecallAttest src dst) s = .next (s.respond .security)) ∧
  (∀ (src : Nat) (s : State),
      s.saddleMay false src 392 = true →
      exec (.ecallOwnerOp src) s = .next (
          let r := s.ownerOp (s.bytes src 392)
          r.2.respond r.1)) ∧
  (∀ (src : Nat) (s : State),
      s.saddleMay false src 392 = false →
      exec (.ecallOwnerOp src) s = .next (s.respond .security)) ∧
  (∀ (img len handle : Nat) (s : State),
      s.saddleMay false img (max len 256) = true → 0x8000 ≤ handle → handle ≤ 0x803F →
      exec (.ecallUnsealKey img len handle) s = .next (
        let o := s.openKey img len fun m => m == .owner && s.reg Reg.LC_STATE == 3
        if o.status ≠ .ok then (s.sealFail o).respond o.status
        else (s.putKey handle (some (leNat o.plain))).respond .ok)) ∧
  (∀ (img len handle : Nat) (s : State),
      s.saddleMay false img (max len 256) = true → (handle < 0x8000 ∨ 0x803F < handle) →
      exec (.ecallUnsealKey img len handle) s = .next (s.respond .badFormat)) ∧
  (∀ (img len handle : Nat) (s : State),
      s.saddleMay false img (max len 256) = false →
      exec (.ecallUnsealKey img len handle) s = .next (s.respond .security)) ∧
  (∀ (img len : Nat) (s : State),
      s.saddleMay false img (max len 64) = true →
      exec (.ecallVerifyImage img len) s = .next (s.respond (verifyImage (s.bytes img len)))) ∧
  (∀ (img len : Nat) (s : State),
      s.saddleMay false img (max len 64) = false →
      exec (.ecallVerifyImage img len) s = .next (s.respond .security)) ∧
  (∀ (dst : Nat) (s : State),
      s.saddleMay true dst 32 = true →
      exec (.ecallChallenge dst) s = .next (
        let r := s.drawChallenge
        (r.2.setBytes dst r.1).respond .ok)) ∧
  (∀ (dst : Nat) (s : State),
      s.saddleMay true dst 32 = false →
      exec (.ecallChallenge dst) s = .next (s.respond .security))

/-- STEP_RELEASE does nothing without a running STEP, or while the conditions of R92 or of the gait fail; then an aborted
  STEP ends in its place; so does one that a staged gait ends, with the staged values in force and the nominal times
  dropped; else the staged values take force, the step is timed and released, counted into its STEP and broadcast.
  STEP_TIMER_NOMINAL moves NEXT_NOM on by P once the step clock has reached it under an anchored Trot, and does
  nothing before. News of a release or of a completion that is absent is nothing; out of order it is only taken off.
  In order a release opens its window, on a device other than the master after taking the terms, the slaved nominal
  time and the release's effects there; a completion leaves the flights, is counted, on another device becomes
  STEP_COMPLETE, and is acted on. A reduction round of bad parity is counted; with no harness or while counts are
  zeroed it is nothing; else it is noted, and the master either finds a child that differs, or judges step and window;
  another device passes the record up, after noting a master that differs. A mismatch is counted, logged and stops
  releases. A window not open, or whose condition does not hold, stays; else it closes, and sequencers, Dense and the
  idle ports are done with it. A step is complete where it is released, every tile is done and its counts agree; a
  window is drained where it is open, every injector is done and its counts agree. OVERRUN acts, flight by flight, on
  those whose due time has come: noted where not DONE, with its policy; with none due it does nothing. CARRY_DROP
  drops the carried events of the step the tile delivers once that is due, and does nothing before or where that step
  is not in flight. -/
def Obligations.StepMachine : Prop :=
  (∀ (s : State),
      s.stepRun = none →
      exec (.stepRelease) s = .next (s)) ∧
  (∀ (r : StepRun) (s : State),
      s.stepRun = some r →
      (s.releasable (s.reg Reg.STEP_RELEASED + 1) = false ∨ s.gaitAllows (s.judgingGait (some r)) (s.reg
        Reg.STEP_RELEASED + 1) (some r) = false) →
      exec (.stepRelease) s = .next (s)) ∧
  (∀ (r : StepRun) (s : State),
      s.stepRun = some r → s.releasable (s.reg Reg.STEP_RELEASED + 1) = true →
      s.gaitAllows (s.judgingGait (some r)) (s.reg Reg.STEP_RELEASED + 1) (some r) = true → s.runAborted r = true →
      exec (.stepRelease) s = .next (s.endRun r)) ∧
  (∀ (r : StepRun) (s : State),
      s.stepRun = some r → s.releasable (s.reg Reg.STEP_RELEASED + 1) = true →
      s.gaitAllows (s.judgingGait (some r)) (s.reg Reg.STEP_RELEASED + 1) (some r) = true → s.runAborted r = false →
      s.runEnding r = true → s.applyStaged.reg Reg.GAIT ≠ 1 →
      exec (.stepRelease) s = .next (s.applyStaged.dropNominal.endRun r)) ∧
  (∀ (r : StepRun) (s : State),
      s.stepRun = some r → s.releasable (s.reg Reg.STEP_RELEASED + 1) = true →
      s.gaitAllows (s.judgingGait (some r)) (s.reg Reg.STEP_RELEASED + 1) (some r) = true → s.runAborted r = false →
      s.runEnding r = true → s.applyStaged.reg Reg.GAIT = 1 →
      exec (.stepRelease) s = .next ((s.applyStaged.modFabric fun f => { f with anchor := none }).endRun r)) ∧
  (∀ (r : StepRun) (s : State),
      s.stepRun = some r → s.releasable (s.reg Reg.STEP_RELEASED + 1) = true →
      s.gaitAllows (s.judgingGait (some r)) (s.reg Reg.STEP_RELEASED + 1) (some r) = true → s.runAborted r = false →
      s.runEnding r = false →
      exec (.stepRelease) s = .next (
        let n := s.reg Reg.STEP_RELEASED + 1
        let s1 := s.applyStaged
        let s2 := s1.releaseTiming n (s.reg Reg.GAIT ≠ 1 ∨ s.reg Reg.STEP_LEN_NS ≠ s1.reg Reg.STEP_LEN_NS)
        let s3 := s2.atRelease n (s2.dueTime n)
        let r' : StepRun := { r with
          remaining := r.remaining.map (· - 1), owed := r.owed ++ [n], newest := some n }
        (s3.modFabric fun f => { f with runs := f.runs.map fun x => if x = r then r' else x }).broadcast 1 n)) ∧
  (∀ (s : State),
      s.reg Reg.GAIT = 1 → s.fabric.anchor.isSome = true → s.reg Reg.NEXT_NOM ≤ s.clock →
      exec (.stepTimerNominal) s =
        .next ((s.setReg Reg.NEXT_NOM (s.reg Reg.NEXT_NOM + s.reg Reg.STEP_LEN_NS)).modFabric fun f => { f with
          nominal := f.nominal + 1 })) ∧
  (∀ (s : State),
      (s.reg Reg.GAIT ≠ 1 ∨ s.fabric.anchor.isSome = false ∨ s.clock < s.reg Reg.NEXT_NOM) →
      exec (.stepTimerNominal) s = .next (s)) ∧
  (∀ (n : Nat) (terms : ReleaseTerms) (s : State),
      (s.fabric.news.find? fun m => m.1 = 1 ∧ m.2.1 = n) = none →
      exec (.releaseBroadcastReceive n terms) s = .next (s)) ∧
  (∀ (n : Nat) (terms : ReleaseTerms) (m : Nat × Nat × Nat) (s : State),
      (s.fabric.news.find? fun m => m.1 = 1 ∧ m.2.1 = n) = some m → n ≠ s.fabric.learned + 1 →
      exec (.releaseBroadcastReceive n terms) s = .next (s.modFabric fun f => { f with news := dropFirst m f.news })) ∧
  (∀ (n : Nat) (terms : ReleaseTerms) (m : Nat × Nat × Nat) (s : State),
      (s.fabric.news.find? fun m => m.1 = 1 ∧ m.2.1 = n) = some m → n = s.fabric.learned + 1 → s.isMaster = true →
      exec (.releaseBroadcastReceive n terms) s =
        .next (s.modFabric fun f => { f with news := dropFirst m f.news, learned := n, window := n, windowOpen := true
                                               })) ∧
  (∀ (n : Nat) (terms : ReleaseTerms) (m : Nat × Nat × Nat) (s : State),
      (s.fabric.news.find? fun m => m.1 = 1 ∧ m.2.1 = n) = some m → n = s.fabric.learned + 1 → s.isMaster = false →
      exec (.releaseBroadcastReceive n terms) s = .next (
        let s0 := s.modFabric fun f => { f with news := dropFirst m f.news }
        let s1 := (s0.takeTerms terms).slaveNominal n m.2.2 (s.reg Reg.GAIT ≠ 1 ∨ s.reg Reg.STEP_LEN_NS ≠ terms.len)
        (s1.atRelease n terms.due).modFabric fun f => { f with learned := n, window := n, windowOpen := true })) ∧
  (∀ (master : Option Nat) (s : State),
      exec (.syncReductionRound false master) s = .next (s.bump Reg.SYNC_PARITY)) ∧
  (∀ (master : Option Nat) (s : State),
      (s.reg Reg.HARNESS_STATE < 2 ∨ (s.tether.settle.any fun x => x.zeroing) = true) →
      exec (.syncReductionRound true master) s = .next (s)) ∧
  (∀ (master : Option Nat) (r : Reduction) (s : State),
      2 ≤ s.reg Reg.HARNESS_STATE → (s.tether.settle.any fun x => x.zeroing) = false → s.isMaster = true →
      (s.fabric.children.foldl (fun a c => a.combine c.2) s.dieReduction) = r →
      (s.fabric.children.find? fun c => checkDiffers c.2.check s.dieReduction.check) = none →
      exec (.syncReductionRound true master) s = .next (((s.noteRound r).judgeStep r).judgeWindow r)) ∧
  (∀ (master : Option Nat) (c : Nat × Reduction) (s : State),
      2 ≤ s.reg Reg.HARNESS_STATE → (s.tether.settle.any fun x => x.zeroing) = false → s.isMaster = true →
      (s.fabric.children.find? fun c => checkDiffers c.2.check s.dieReduction.check) = some c →
      exec (.syncReductionRound true master) s =
        .next ((s.noteRound (s.fabric.children.foldl (fun a c => a.combine c.2) s.dieReduction)).stepMismatch
          c.2.check)) ∧
  (∀ (master : Option Nat) (r : Reduction) (s : State),
      2 ≤ s.reg Reg.HARNESS_STATE → (s.tether.settle.any fun x => x.zeroing) = false → s.isMaster = false →
      (s.fabric.children.foldl (fun a c => a.combine c.2) s.dieReduction) = r →
      exec (.syncReductionRound true master) s = .next (
        let s1 := s.noteRound r
        (match master with
          | some m => if checkDiffers s.dieReduction.check m then s1.stepMismatch m else s1
          | none => s1).modFabric fun f => { f with upward := some r })) ∧
  (∀ (other : Nat) (s : State),
      s.stepMismatch other = ((s.bump Reg.SYNC_MISMATCH).logFault { cls := .step, status := .refused, ref := other
                                                                      }).modFabric
          fun f => { f with mismatch := true }) ∧
  (∀ (r : Reduction) (s : State),
      s.reg Reg.STEP_COMPLETE + 1 ≤ s.reg Reg.STEP_RELEASED → s.reg Reg.STEP_COMPLETE + 1 ≤ r.done →
      r.fsent.get (s.reg Reg.STEP_COMPLETE + 1) = r.frcvd.get (s.reg Reg.STEP_COMPLETE + 1) →
      let sums := [r.fsent.get (s.reg Reg.STEP_COMPLETE + 1), r.frcvd.get (s.reg Reg.STEP_COMPLETE + 1),
        r.fsent.get (s.reg Reg.STEP_COMPLETE + 2), r.frcvd.get (s.reg Reg.STEP_COMPLETE + 2)].map (·.toNat)
      s.judgeStep r = (((s.setReg Reg.STEP_COMPLETE (s.reg Reg.STEP_COMPLETE + 1)).peak Reg.COMPLETE_LAT_MAX
        (s.now - s.fabric.countsAt)).modFabric fun f => { f with
          flights := f.flights.map fun x => if x.n = s.reg Reg.STEP_COMPLETE + 1 then
            { x with sums := sums, status := x.status.worse r.status } else x,
          lastSums := sums }).broadcast 2 (s.reg Reg.STEP_COMPLETE + 1)) ∧
  (∀ (r : Reduction) (s : State),
      (s.reg Reg.STEP_RELEASED < s.reg Reg.STEP_COMPLETE + 1 ∨ r.done < s.reg Reg.STEP_COMPLETE + 1 ∨ r.fsent.get
        (s.reg Reg.STEP_COMPLETE + 1) ≠ r.frcvd.get (s.reg Reg.STEP_COMPLETE + 1)) →
      s.judgeStep r = s) ∧
  (∀ (r : Reduction) (s : State),
      s.fabric.drained + 1 ≤ s.fabric.window → s.fabric.drained + 1 ≤ r.sdone →
      r.ssent.get (s.fabric.drained + 1) = r.srcvd.get (s.fabric.drained + 1) →
      s.judgeWindow r = s.modFabric fun f => { f with drained := s.fabric.drained + 1 }) ∧
  (∀ (r : Reduction) (s : State),
      (s.fabric.window < s.fabric.drained + 1 ∨ r.sdone < s.fabric.drained + 1 ∨ r.ssent.get (s.fabric.drained + 1) ≠
        r.srcvd.get (s.fabric.drained + 1)) →
      s.judgeWindow r = s) ∧
  (∀ (n : Nat) (s : State),
      (s.fabric.news.find? fun m => m.1 = 2 ∧ m.2.1 = n) = none →
      exec (.completeBroadcastReceive n) s = .next (s)) ∧
  (∀ (n : Nat) (m : Nat × Nat × Nat) (s : State),
      (s.fabric.news.find? fun m => m.1 = 2 ∧ m.2.1 = n) = some m → (n ≠ s.fabric.known + 1 ∨ s.fabric.learned < n) →
      exec (.completeBroadcastReceive n) s = .next (s.modFabric fun f => { f with news := dropFirst m f.news })) ∧
  (∀ (n : Nat) (m : Nat × Nat × Nat) (st : Status) (sums : List Nat) (s : State),
      (s.fabric.news.find? fun m => m.1 = 2 ∧ m.2.1 = n) = some m → n = s.fabric.known + 1 → n ≤ s.fabric.learned →
      ((s.fabric.flights.find? fun f => f.n = n).map fun f => (f.status, f.sums)).getD (.ok, []) = (st, sums) →
      exec (.completeBroadcastReceive n) s = .next (
        let s1 := (s.modFabric fun x =>
          { x with
            news := dropFirst m x.news, known := n, lastStatus := st, flights := x.flights.filter fun y => y.n ≠ n
              }).bump
          Reg.STEPS_DONE
        let s2 := if s.isMaster then s1 else s1.setReg Reg.STEP_COMPLETE n
        ((((((s2.repairTiles.censusRecords n st).stepHitch).retireRoutes n).overrunAfter n).stepComplete n st
          sums).wantTpdo 1).notify 1 n [])) ∧
  (∀ (s : State),
      s.fabric.windowOpen = true → s.closable s.fabric.window = true →
      ∃ t, exec (.streamWindowClose) s = .next t ∧ t.fabric.windowOpen = false ∧ (∀ i : Fin 17, Assoc.getD
        t.fabric.sdone i.val 0 = s.fabric.window) ∧ (∀ p : Fin 6, t.portBusy p.val s.fabric.window = false →
        Assoc.getD t.fabric.sdone (17 + p.val) 0 = s.fabric.window) ∧ t = { s with intake := t.intake, fabric := {
                                                                                     s.fabric with windowOpen :=
                                                                                                     false, sdone :=
                                                                                                     t.fabric.sdone }
                                                                                     }) ∧
  (∀ (s : State),
      (s.fabric.windowOpen = false ∨ s.closable s.fabric.window = false) →
      exec (.streamWindowClose) s = .next (s)) ∧
  (∀ (s : State),
      exec (.overrun) s = .next (
        s.fabric.flights.foldl (fun s f =>
          if f.due.any fun d => d ≤ s.clock then
            if f.overrun ∨ f.n > s.doneThrough then (s.noteOverrun f).applyOverrun f else s.noteOverrun f
          else s) s)) ∧
  (∀ (s : State),
      (s.fabric.flights.all fun f => !(f.due.any fun d => d ≤ s.clock)) = true →
      exec (.overrun) s = .next (s)) ∧
  (∀ (c : ClusterId) (t : TileId) (f : StepFlight) (s : State),
      (s.fabric.flights.find? fun f => f.n == (s.tile c.val t.val).delivering) = some f →
      (f.due.any fun d => d ≤ s.clock) = true →
      exec (.carryDrop c t) s = .next (s.dropCarried c.val t.val f.n)) ∧
  (∀ (c : ClusterId) (t : TileId) (s : State),
      (s.fabric.flights.any fun f => f.n == (s.tile c.val t.val).delivering && f.due.any fun d => d ≤ s.clock) = false
        →
      exec (.carryDrop c t) s = .next (s))

/-- A tile that is idle, has neurons, is not fenced and has learned of the next step begins delivering it; another does
  not. Of an event taken in delivery: one that would send a pre-report into a full queue pauses it; one of a bad word
  is discarded; a far one is set aside or expanded at its row; a near one goes through its row; an event not there, or
  a tile not delivering, changes nothing, but with the far-wait list full a cycle of FARWAIT_STALL is counted.
  Delivery ends once the step before is complete and nothing of the step is parked, read back, set aside or spilled,
  and not before. UPDATE_PHASE updates a closed step once the step before is complete, goes on with a step in update,
  and does nothing else. The reader counts its cycle at its throttle level; with a firing it waits at level 3, before
  its cycles are over or with 128 events in egress; else it reads the next destination, ends the firing or finds its
  index bad, and the last firing notes its counts. HOLDBACK_RELEASE does nothing without a destination held back for
  the engine or with 128 in egress; else it posts the request, and where that is taken the event is injected.
  TILE_ACCEPT and SERVICE_EVENT_ACCEPT take the oldest event of the tile in the quad's turn, of their own CLS alone; a
  fenced tile discards it; TILE_ACCEPT parks it, bad where its payload code says so; a doorbell goes to the FIFO and
  wakes the sequencer, or is dropped at 64. A line of the spill buffer leaves for the local port, and a head line of a
  region for the package's attachment; an empty store, a full port or a schedule in drain leaves all as it is. -/
def Obligations.TileDelivery : Prop :=
  (∀ (c : ClusterId) (t : TileId) (s : State),
      (s.tile c.val t.val).phase = .idle → (s.tile c.val t.val).map.n ≠ 0 → (s.tile c.val t.val).fenced = false →
      (s.tile c.val t.val).updated + 1 ≤ s.fabric.learned →
      exec (.deliveryBegin c t) s =
        .next (s.setTile c.val t.val { (s.tile c.val t.val) with phase := .deliver ((s.tile c.val t.val).updated + 1),
                                                                   progressAt := s.now })) ∧
  (∀ (c : ClusterId) (t : TileId) (s : State),
      ((s.tile c.val t.val).phase ≠ .idle ∨ (s.tile c.val t.val).map.n = 0 ∨ (s.tile c.val t.val).fenced = true ∨
        s.fabric.learned < (s.tile c.val t.val).updated + 1) →
      exec (.deliveryBegin c t) s = .next (s)) ∧
  (∀ (c : ClusterId) (t : TileId) (pick : Nat) (f : Flaws) (s : State),
      (∀ n, (s.tile c.val t.val).phase ≠ .deliver n) →
      exec (.eventExpand c t pick f) s = .next (s)) ∧
  (∀ (c : ClusterId) (t : TileId) (pick n : Nat) (f : Flaws) (s : State),
      (s.tile c.val t.val).phase = .deliver n → (s.expandable c.val t.val n)[pick]? = none →
      exec (.eventExpand c t pick f) s =
        .next (if 256 ≤ (s.tile c.val t.val).farWait.length then s.bumpAt Reg.FARWAIT_STALL c.val else s)) ∧
  (∀ (c : ClusterId) (t : TileId) (pick n : Nat) (p : Parked) (f : Flaws) (s : State),
      (s.tile c.val t.val).phase = .deliver n → (s.expandable c.val t.val n)[pick]? = some p →
      (s.tileProgress c.val t.val).prePaused c.val t.val p = true →
      exec (.eventExpand c t pick f) s = .next ((s.tileProgress c.val t.val).bumpAt Reg.PRE_PAUSE c.val)) ∧
  (∀ (c : ClusterId) (t : TileId) (pick n : Nat) (p : Parked) (f : Flaws) (s : State),
      (s.tile c.val t.val).phase = .deliver n → (s.expandable c.val t.val n)[pick]? = some p →
      (s.tileProgress c.val t.val).prePaused c.val t.val p = false → (p.ev.payBad = true ∨ f.parked = true) →
      exec (.eventExpand c t pick f) s =
        .next ((((((s.tileProgress c.val t.val).reinitAll c.val t.val n f.neurons).accLost c.val t.val n
          f.accs).setTile c.val t.val (((((s.tileProgress c.val t.val).reinitAll c.val t.val n f.neurons).accLost
          c.val t.val n f.accs).tile c.val t.val).remove n p)).rowEcc c.val t.val n (((((s.tileProgress c.val
          t.val).reinitAll c.val t.val n f.neurons).accLost c.val t.val n f.accs).tile c.val t.val).parkedAt n
          p)).discardCycle c.val)) ∧
  (∀ (c : ClusterId) (t : TileId) (pick n : Nat) (p : Parked) (f : Flaws) (s : State),
      (s.tile c.val t.val).phase = .deliver n → (s.expandable c.val t.val n)[pick]? = some p →
      (s.tileProgress c.val t.val).prePaused c.val t.val p = false → p.ev.payBad = false → f.parked = false →
      natBit p.ev.row 17 = true →
      exec (.eventExpand c t pick f) s =
        .next ((((s.tileProgress c.val t.val).reinitAll c.val t.val n f.neurons).accLost c.val t.val n
          f.accs).reachFar c.val t.val n p)) ∧
  (∀ (c : ClusterId) (t : TileId) (pick n : Nat) (p : Parked) (f : Flaws) (s : State),
      (s.tile c.val t.val).phase = .deliver n → (s.expandable c.val t.val n)[pick]? = some p →
      (s.tileProgress c.val t.val).prePaused c.val t.val p = false → p.ev.payBad = false → f.parked = false →
      natBit p.ev.row 17 = false →
      exec (.eventExpand c t pick f) s =
        .next (((((s.tileProgress c.val t.val).reinitAll c.val t.val n f.neurons).accLost c.val t.val n
          f.accs).setTile c.val t.val (((((s.tileProgress c.val t.val).reinitAll c.val t.val n f.neurons).accLost
          c.val t.val n f.accs).tile c.val t.val).remove n p)).expandNear c.val t.val n p f)) ∧
  (∀ (c : ClusterId) (t : TileId) (n : Nat) (s : State),
      (s.tile c.val t.val).phase = .deliver n → n ≤ s.fabric.known + 1 →
      ((s.tile c.val t.val).slot (n % 64)).events = [] → (s.tile c.val t.val).backOf n = [] →
      (s.tile c.val t.val).farWait = [] → s.spillLeft c.val n = false →
      exec (.deliveryEnd c t) s =
        .next (s.setTile c.val t.val { (s.tile c.val t.val).endDelivery n with progressAt := s.now })) ∧
  (∀ (c : ClusterId) (t : TileId) (n : Nat) (s : State),
      (s.tile c.val t.val).phase = .deliver n →
      (s.fabric.known + 1 < n ∨ ((s.tile c.val t.val).slot (n % 64)).events ≠ [] ∨ (s.tile c.val t.val).backOf n ≠ []
        ∨ (s.tile c.val t.val).farWait ≠ [] ∨ s.spillLeft c.val n = true) →
      exec (.deliveryEnd c t) s = .next (s)) ∧
  (∀ (c : ClusterId) (t : TileId) (s : State),
      (∀ n, (s.tile c.val t.val).phase ≠ .deliver n) →
      exec (.deliveryEnd c t) s = .next (s)) ∧
  (∀ (c : ClusterId) (t : TileId) (bad : Flaws) (s : State),
      (∀ n, ((s.tile c.val t.val).phase = .closed n → s.fabric.known + 1 < n) ∧ ∀ l, (s.tile c.val t.val).phase ≠
        .update n l) →
      exec (.updatePhase c t bad) s = .next (s)) ∧
  (∀ (c : ClusterId) (t : TileId) (n : Nat) (l : List Nat) (bad : Flaws) (s : State),
      ((s.tile c.val t.val).phase = .closed n ∧ n ≤ s.fabric.known + 1 ∧ l = (s.tile c.val t.val).updateList ∨ (s.tile
        c.val t.val).phase = .update n l) →
      exec (.updatePhase c t bad) s = .next (
        (((s.tileProgress c.val t.val).reinitAll c.val t.val n bad.neurons).accLost c.val t.val n bad.accs).runUpdate
          c.val t.val n
          l)) ∧
  (∀ (c : ClusterId) (t : TileId) (axonBad destBad : Bool) (s : State),
      (s.tile c.val t.val).firing = [] →
      exec (.destListRead c t axonBad destBad) s = .next (s.countThrottle c.val (s.tile c.val t.val).throttle)) ∧
  (∀ (c : ClusterId) (t : TileId) (axonBad destBad : Bool) (f : Firing) (l : List Firing) (s : State),
      (s.tile c.val t.val).firing = f :: l →
      ((s.tile c.val t.val).throttle = 3 ∨ (s.tile c.val t.val).readerWait + 1 < throttleCycles (s.tile c.val
        t.val).throttle ∨ 128 ≤ (s.tile c.val t.val).egress.length) →
      exec (.destListRead c t axonBad destBad) s =
        .next (((((s.countThrottle c.val (s.tile c.val t.val).throttle).setTile c.val t.val { (s.tile c.val t.val)
          with readerWait := (s.tile c.val t.val).readerWait + 1 }).tileProgress c.val t.val)))) ∧
  (∀ (c : ClusterId) (t : TileId) (axonBad destBad : Bool) (f : Firing) (l : List Firing) (s : State),
      (s.tile c.val t.val).firing = f :: l → (s.tile c.val t.val).throttle ≠ 3 →
      throttleCycles (s.tile c.val t.val).throttle ≤ (s.tile c.val t.val).readerWait + 1 →
      (s.tile c.val t.val).egress.length < 128 →
      exec (.destListRead c t axonBad destBad) s = .next (
        let s2 := ((((s.countThrottle c.val (s.tile c.val t.val).throttle).setTile c.val t.val { (s.tile c.val t.val)
          with readerWait := (s.tile c.val t.val).readerWait + 1 }).tileProgress c.val t.val))
        let s3 := (s2.setTile c.val t.val { s2.tile c.val t.val with readerWait := 0 }).readDest c.val t.val f axonBad
          destBad
        if l = [] then s3.noteCounts f.step else s3)) ∧
  (∀ (c t : Nat) (f : Firing) (destBad : Bool) (s : State),
      (s.axonEntry c t f.neuron).2 ≤ f.taken →
      s.readDest c t f false destBad = s.setTile c t
          { s.tile c t with firing := (s.tile c t).firing.drop 1 }) ∧
  (∀ (c t : Nat) (f : Firing) (destBad : Bool) (s : State),
      f.taken < (s.axonEntry c t f.neuron).2 →
      s.readDest c t f false destBad =
          s.emitDest c t (s.axonEntry c t f.neuron).1 (s.axonEntry c t f.neuron).2 f destBad) ∧
  (∀ (c t : Nat) (f : Firing) (destBad : Bool) (s : State),
      let off := ((s.tile c t).map.axonBase + 4 * f.neuron) / 8 * 8
      let s1 := s.rowEcc c t f.step off
      s.readDest c t f true destBad = s1.setTile c t { s1.tile c t with
        firing := (s.tile c t).firing.drop 1, repair := (s1.tile c t).repair ++ [off] }) ∧
  (∀ (c : ClusterId) (t : TileId) (k : PackageId) (s : State),
      (((s.tile c.val t.val).holdback.find? fun h => h.engine == k.val) = none ∨ 128 ≤ (s.tile c.val
        t.val).egress.length) →
      exec (.holdbackRelease c t k) s = .next (s)) ∧
  (∀ (c : ClusterId) (t : TileId) (k : PackageId) (h : HeldBack) (s : State),
      ((s.tile c.val t.val).holdback.find? fun h => h.engine == k.val) = some h →
      (s.tile c.val t.val).egress.length < 128 →
      exec (.holdbackRelease c t k) s = .next (
        let r := s.postFetch (some c.val) h.ev.clu h.ev.tile (h.ev.row % 131072) (h.step + 1 + h.ev.dly) false
        if r.1 then
          (r.2.setTile c.val t.val { r.2.tile c.val t.val with
            holdback := dropFirst h (r.2.tile c.val t.val).holdback }).enterEgress c.val t.val { ev := h.ev }
        else r.2)) ∧
  (∀ (c : ClusterId) (t : TileId) (pay : Ecc) (s : State),
      (s.ejectTurn c.val t.val = false ∨ ∀ ev, s.ejectHead c.val t.val = some ev → ev.cls = 3) →
      exec (.tileAccept c t pay) s = .next (s)) ∧
  (∀ (c : ClusterId) (t : TileId) (pay : Ecc) (ev : Event) (s : State),
      s.ejectHead c.val t.val = some ev → s.ejectTurn c.val t.val = true → ev.cls ≠ 3 →
      (s.tile c.val t.val).fenced = false →
      exec (.tileAccept c t pay) s =
        .next ((s.popEject c.val t.val).acceptEvent c.val t.val (if pay = .uncorrectable then { ev with payBad := true
                                                                                                          } else ev))) ∧
  (∀ (c : ClusterId) (t : TileId) (pay : Ecc) (ev : Event) (s : State),
      s.ejectHead c.val t.val = some ev → s.ejectTurn c.val t.val = true → ev.cls ≠ 3 →
      (s.tile c.val t.val).fenced = true →
      exec (.tileAccept c t pay) s =
        .next ((s.popEject c.val t.val).fencedDiscard c.val (if pay = .uncorrectable then { ev with payBad := true }
          else ev))) ∧
  (∀ (c : ClusterId) (t : TileId) (s : State),
      (s.ejectTurn c.val t.val = false ∨ ∀ ev, s.ejectHead c.val t.val = some ev → ev.cls ≠ 3) →
      exec (.serviceEventAccept c t) s = .next (s)) ∧
  (∀ (c : ClusterId) (t : TileId) (ev : Event) (s : State),
      s.ejectHead c.val t.val = some ev → s.ejectTurn c.val t.val = true → ev.cls = 3 →
      (s.tile c.val t.val).fenced = true →
      exec (.serviceEventAccept c t) s = .next ((s.popEject c.val t.val).fencedDiscard c.val ev)) ∧
  (∀ (c : ClusterId) (t : TileId) (ev : Event) (s s1 : State),
      s.ejectHead c.val t.val = some ev → s.ejectTurn c.val t.val = true → ev.cls = 3 →
      (s.tile c.val t.val).fenced = false →
      (((s.popEject c.val t.val).countReceived c.val t.val ev).bumpAt Reg.EV_EJECT c.val).bumpAt Reg.SVC_ACCEPT c.val
        = s1 →
      exec (.serviceEventAccept c t) s = .next (
        if (s1.router c.val).doorbell.length < 64 then
          (s1.setRouter c.val { s1.router c.val with doorbell := (s1.router c.val).doorbell ++
            [BitVec.ofNat 32 (packFields [(0, 16, ev.val), (16, 2, ev.step), (18, 6, ev.row / 4096)])] }).wakeSeq
              c.val
        else (s1.bumpAt Reg.DOORBELL_DROP c.val).logGated 16 c.val (s.originOf ev)
          { cls := .drop, status := .dropped, unit := c.val, sub := t.val / 4, ref := ev.step })) ∧
  (∀ (c : ClusterId) (s : State),
      ((s.store c.val).spillBuffer = [] ∨ 16 ≤ (s.switchQueue c.val 0).length ∨ s.drainFrom.isSome = true) →
      exec (.spillBufferDrain c) s = .next (s)) ∧
  (∀ (c : ClusterId) (x : Nat × SpillRecord) (l line : List (Nat × SpillRecord)) (s : State),
      (s.store c.val).spillBuffer = x :: l → (s.switchQueue c.val 0).length < 16 → s.drainFrom = none →
      ((s.store c.val).spillBuffer.filter fun r => r.1 == x.1).take 8 = line →
      exec (.spillBufferDrain c) s = .next (
        let s1 := s.setStore c.val { s.store c.val with
          spillBuffer := line.foldl (fun l r => dropFirst r l) (s.store c.val).spillBuffer,
          spillOut := (s.store c.val).spillOut ++ [(x.1, line.map (·.2))] }
        s1.setSwitchQueue c.val 0 (s1.switchQueue c.val 0 ++
          [{ kind := 1, clu := c.val, data := (line.map (·.2)).flatMap fun r => leBytes 8 r.word.toNat }]))) ∧
  (∀ (c : ClusterId) (s : State),
      (16 ≤ (s.switchQueue (packageSwitch (s.packageAt (Assoc.getD s.spillAt c.val 0))) 5).length ∨ s.drainFrom.isSome
        = true ∨ ((s.readerSteps c.val).find? fun n => (s.store c.val).headLine n != []) = none) →
      exec (.spillReadback c) s = .next (s)) ∧
  (∀ (c : ClusterId) (n : Nat) (s : State),
      (s.switchQueue (packageSwitch (s.packageAt (Assoc.getD s.spillAt c.val 0))) 5).length < 16 →
      s.drainFrom = none → ((s.readerSteps c.val).find? fun n => (s.store c.val).headLine n != []) = some n →
      exec (.spillReadback c) s =
        .next (s.sendSpilled c.val n (packageSwitch (s.packageAt (Assoc.getD s.spillAt c.val 0)))))

/-- ROUTER_ARRIVAL fills the router's inputs, admits the first four that present in round-robin order, applies them in
  port order, keeps the last as the round robin's place and counts those beyond four. An arrival applied is checked;
  with the combine buffer full it waits and is counted; else it leaves its input and is merged and absorbed, split and
  counted, or entered, and the buffer's peak kept. ROUTER_DEPART sends up to the output's rate and ages what is left:
  with no eligible entry it sends nothing; one for a fenced tile is discarded; with no credit a stall is counted; else
  the entry takes a credit, is forwarded and counted. CREDIT_RETURN gives a credit where credits and occupancy are
  below 32, and none at 32. A group number at the egress head is handed to the expander with room, MCOUNT added to
  FSENT, or drops out with MCOUNT 0; an empty egress, an event, a full expander or a fenced tile is left.
  MULTICAST_EXPAND presents members of the oldest request, and drops it when all are out; with none it does nothing. A
  transit event passes to the input of its link, in class A where the dimension changes, and waits for this device, an
  invalid route or a full input. The far event of a link posts its request and enters the mesh, is held and counted
  with holdback room, or stays; an event that needs no fetch, a full input or an empty link leave all as it is. A held
  one does likewise. A sequencer not running, in a low-power state, with no open window or a full port injects
  nothing; a word that fails R123 is BAD_FORMAT; a good one is injected and counted sent. -/
def Obligations.EventNetwork : Prop :=
  (∀ (p : NetPoint) (flaws : List ArrivalFlaw) (s : State),
      exec (.routerArrival p flaws) s = .next (
        let a := match pointCluster p with
          | some c => s.fillInputs c
          | none => s
        let present := a.inputsOf p
        let admitted := (roundRobin (a.output p).lastIn present).take 4
        let b := (present.filter fun x => admitted.contains x).foldl (fun s x => s.applyArrival p flaws x.1 x.2) a
        let d := match admitted.getLast? with
          | some x => b.setOutput p { b.output p with lastIn := x.1 }
          | none => b
        if present.length ≤ 4 then d else d.bumpNet Reg.ARR_DEFER p (present.length - 4))) ∧
  (∀ (p : NetPoint) (flaws : List ArrivalFlaw) (i : Nat) (e : Event) (x : Event × State) (s : State),
      s.checkArrival p flaws i e = x → arrive (x.2.mergeable x.1) (x.2.output p).entries x.1 = none →
      s.applyArrival p flaws i e = (x.2.setHead p i x.1).bumpNet Reg.COMB_FULL p 1) ∧
  (∀ (p : NetPoint) (flaws : List ArrivalFlaw) (i : Nat) (e : Event) (x : Event × State) (a : Arrival) (s : State),
      s.checkArrival p flaws i e = x → arrive (x.2.mergeable x.1) (x.2.output p).entries x.1 = some a →
      let s1 := (x.2.popInput p i).setOutput p { x.2.output p with entries := a.entries }
      let s2 := if a.merged then s1.absorb p x.1 else if a.split then s1.bumpNet Reg.MERGE_SPLIT p 1 else s1
      s.applyArrival p flaws i e = match pointCluster p with
        | some c => s2.peakAt Reg.COMB_PEAK c a.entries.length
        | none => s2.peak Reg.COMB_PEAK a.entries.length) ∧
  (∀ (c : ClusterId) (out : Fin 31) (s : State),
      exec (.routerDepart c out) s = .next (
        let a := s.departSome c out (outputRate out.val)
        a.setOutput (.router c out) (a.output (.router c out)).age)) ∧
  (∀ (c : ClusterId) (out : Fin 31) (n : Nat) (s : State),
      ((s.output (.router c out)).entries.find? fun e => s.eligible e) = none →
      s.departSome c out n = s) ∧
  (∀ (c : ClusterId) (out : Fin 31) (n : Nat) (e : CombineEntry) (s : State),
      ((s.output (.router c out)).entries.find? fun e => s.eligible e) = some e → out.val < 16 →
      (s.tile c.val e.ev.tile).fenced = true →
      s.departSome c out (n + 1) = ((s.setOutput (.router c out) { s.output (.router c out) with
          entries := dropFirst e (s.output (.router c out)).entries }).fencedDiscard c.val e.ev).departSome c out n) ∧
  (∀ (c : ClusterId) (out : Fin 31) (n : Nat) (e : CombineEntry) (s : State),
      ((s.output (.router c out)).entries.find? fun e => s.eligible e) = some e →
      (16 ≤ out.val ∨ (s.tile c.val e.ev.tile).fenced = false) → (s.output (.router c out)).credits = 0 →
      s.departSome c out (n + 1) = s.countStall c.val out.val) ∧
  (∀ (c : ClusterId) (out : Fin 31) (n : Nat) (e : CombineEntry) (s : State),
      ((s.output (.router c out)).entries.find? fun e => s.eligible e) = some e →
      (16 ≤ out.val ∨ (s.tile c.val e.ev.tile).fenced = false) → (s.output (.router c out)).credits ≠ 0 →
      s.departSome c out (n + 1) = (((s.setOutput (.router c out) { s.output (.router c out) with
          entries := dropFirst e (s.output (.router c out)).entries,
          credits := (s.output (.router c out)).credits - 1 }).forward
          c.val out.val e.ev).bumpAt Reg.EV_ROUTED c.val).departSome c out n) ∧
  (∀ (c : ClusterId) (out : Fin 31) (s : State),
      (s.output (.router c out)).credits + s.occupancy c.val out.val < 32 →
      exec (.creditReturn c out) s =
        .next (s.setOutput (.router c out) { (s.output (.router c out)) with credits := (s.output (.router c
                                                                               out)).credits + 1 })) ∧
  (∀ (c : ClusterId) (out : Fin 31) (s : State),
      32 ≤ (s.output (.router c out)).credits + s.occupancy c.val out.val →
      exec (.creditReturn c out) s = .next (s)) ∧
  (∀ (c : ClusterId) (t : TileId) (s : State),
      (((s.tile c.val t.val).egress.head?.bind fun g => g.group) = none ∨ 32 ≤ (s.router c.val).requests.length ∨
        (s.tile c.val t.val).fenced = true) →
      exec (.multicastRequest c t) s = .next (s)) ∧
  (∀ (c : ClusterId) (t : TileId) (g : Egress) (l : List Egress) (k : Nat) (s : State),
      (s.tile c.val t.val).egress = g :: l → g.group = some k → (s.router c.val).requests.length < 32 →
      (s.tile c.val t.val).fenced = false →
      exec (.multicastRequest c t) s = .next (
        let a := ((s.setTile c.val t.val { (s.tile c.val t.val) with fsent := (s.tile c.val t.val).fsent.add g.ev.step
                                                                       (groupRange (s.groupEntry g.ev.e c.val k)).2
                                                                       }).setEgress c.val t.val l).noteCounts
          g.ev.step
        if (groupRange (s.groupEntry g.ev.e c.val k)).2 = 0 then a
        else a.setRouter c.val { s.router c.val with
          requests := (s.router c.val).requests ++ [{ group := k, ev := g.ev }] })) ∧
  (∀ (c : ClusterId) (s : State),
      (s.router c.val).requests = [] →
      exec (.multicastExpand c) s = .next (s)) ∧
  (∀ (c : ClusterId) (r : McRequest) (l : List McRequest) (s : State),
      (s.router c.val).requests = r :: l →
      exec (.multicastExpand c) s = .next (
        let x := s.presentMembers c.val r r.nextMembers
        let n := (groupRange (s.groupEntry r.ev.e c.val r.group)).2
        x.2.setRouter c.val { x.2.router c.val with
          requests := if x.1.nextMembers.all fun m => decide (n ≤ m.2) then l else x.1 :: l })) ∧
  (∀ (l : LinkId) (e0 : Event) (rest : List Event) (s : State),
      Assoc.getD s.gateRx l.val [] = e0 :: rest → e0.dev ≠ s.reg Reg.DEV_NUM →
      natBit (s.routeEntry e0.e e0.dev) 4 = true → (Assoc.getD s.gateIn (16 + l.val) []).length < 32 →
      exec (.gatewayTransit l) s = .next (
        let dim := fun k => s.tether.roles.getD k 0xFF / 2
        let e := { e0 with classB := e0.classB && dim l.val == dim (routeLink (s.routeEntry e0.e e0.dev)) }
        State.bump { s with
          gateRx := Assoc.set l.val rest s.gateRx,
          gateIn := Assoc.set (16 + l.val) ((Assoc.getD s.gateIn (16 + l.val) []) ++ [e]) s.gateIn } Reg.GW_TRANSIT)) ∧
  (∀ (l : LinkId) (s : State),
      ((Assoc.getD s.gateRx l.val []).head?.all fun e => e.dev == s.reg Reg.DEV_NUM || !natBit (s.routeEntry e.e
        e.dev) 4 || decide (32 ≤ (Assoc.getD s.gateIn (16 + l.val) []).length)) = true →
      exec (.gatewayTransit l) s = .next (s)) ∧
  (∀ (l : LinkId) (e : Event) (rest : List Event) (s : State),
      Assoc.getD s.gateRx l.val [] = e :: rest → s.needsRemoteFetch e = true →
      (s.inputQueue (attachment l.val e) 22).length < 32 → (s.postRemote e (s.dueOf e)).1 = true →
      exec (.remoteFarArrival l) s = .next (
        let r := (s.postRemote e (s.dueOf e)).2
        State.enterMesh { r with gateRx := Assoc.set l.val rest r.gateRx } l.val e)) ∧
  (∀ (l : LinkId) (e : Event) (rest : List Event) (s : State),
      Assoc.getD s.gateRx l.val [] = e :: rest → s.needsRemoteFetch e = true →
      (s.inputQueue (attachment l.val e) 22).length < 32 → (s.postRemote e (s.dueOf e)).1 = false →
      exec (.remoteFarArrival l) s = .next (
        let r := (s.postRemote e (s.dueOf e)).2
        let held := Assoc.getD s.remoteHold (l.val / 4) []
        if held.length < 256 then
          State.bump { r with
            gateRx := Assoc.set l.val rest r.gateRx
            remoteHold := Assoc.set (l.val / 4) (held ++ [e]) r.remoteHold } Reg.RHOLD_IN
        else r)) ∧
  (∀ (l : LinkId) (s : State),
      ((Assoc.getD s.gateRx l.val []).head?.all fun e => !s.needsRemoteFetch e || decide (32 ≤ (s.inputQueue
        (attachment l.val e) 22).length)) = true →
      exec (.remoteFarArrival l) s = .next (s)) ∧
  (∀ (east : Bool) (s : State),
      ((Assoc.getD s.remoteHold (if east then 1 else 0) []).head?.all fun e => decide (32 ≤ (s.inputQueue (attachment
        (4 * (if east then 1 else 0)) e) 22).length)) = true →
      exec (.remoteHoldbackRelease east) s = .next (s)) ∧
  (∀ (east : Bool) (e : Event) (rest : List Event) (s : State),
      Assoc.getD s.remoteHold (if east then 1 else 0) [] = e :: rest →
      (s.inputQueue (attachment (4 * (if east then 1 else 0)) e) 22).length < 32 →
      exec (.remoteHoldbackRelease east) s = .next (
        let side := (if east then 1 else 0)
        let r := s.postRemote e (s.dueOf e)
        if r.1 then State.enterMesh { r.2 with remoteHold := Assoc.set side rest r.2.remoteHold } (4 * side) e else
          r.2)) ∧
  (∀ (c : ClusterId) (w : Word64) (s : State),
      (natBit (s.reg Reg.SEQ_RUN) c.val = false ∨ s.reg Reg.PWR_STATE ≠ 0 ∨ s.streamOpen = false ∨ 32 ≤ (s.inputQueue
        c.val 20).length) →
      exec (.sequencerInject c w) s = .next (s)) ∧
  (∀ (c : ClusterId) (w : Word64) (s : State),
      natBit (s.reg Reg.SEQ_RUN) c.val = true → s.reg Reg.PWR_STATE = 0 → s.streamOpen = true →
      (s.inputQueue c.val 20).length < 32 → s.streamCheck (s.epochOf s.fabric.window) { word := w } true = true →
      exec (.sequencerInject c w) s = .next (
        let x := s.streamEvent s.fabric.window { word := w }
        ((s.setInput c.val 20 (s.inputQueue c.val 20 ++ [x])).countStreamSent c.val x.step).respond .ok)) ∧
  (∀ (c : ClusterId) (w : Word64) (s : State),
      natBit (s.reg Reg.SEQ_RUN) c.val = true → s.reg Reg.PWR_STATE = 0 → s.streamOpen = true →
      (s.inputQueue c.val 20).length < 32 → s.streamCheck (s.epochOf s.fabric.window) { word := w } true = false →
      exec (.sequencerInject c w) s = .next (s.respond .badFormat))

/-- FETCH_ISSUE looks through the issuable requests oldest due step first and does nothing with none: one of a fenced tile
  is dropped with its tag and counted; one with 64 lines to come or no directory budget is passed over; one whose row
  finds no lines has its directory line read and the wait counted, and is passed over; another is counted and its row
  begun. A row begun is failed and logged where its directory line is bad, PRESENT at once without lines, else its
  lines are allotted and read. HINT_ISSUE does nothing without a hint, while a request can issue, with 64 lines to
  come or no directory budget; a hint whose row has a tag joins it and is counted as duplicate; without a free tag or
  the lines it waits; else it becomes a PREFETCH tag, is counted and its row begun. HINT_STALE discards and counts the
  hints not issued by the end of the step after. FETCH_LINE_ARRIVE takes the oldest line: of a row without a tag it is
  dropped; else it joins its row, marked and reported where found bad, and the last line makes the row PRESENT; with
  no line it does nothing. BULK_SLOT_MOVE begins the frame's counts anew at a new frame; in an entry not valid or
  without room behind the output nothing moves; else the line waiting, or the one its source gives, moves, marked
  where found bad; with none an idle FETCH slot is counted. -/
def Obligations.FarFetch : Prop :=
  (∀ (k : PackageId) (dirBad : Bool) (s : State),
      exec (.fetchIssue k dirBad) s = .next (s.issueFirst k.val dirBad (s.issuable k.val))) ∧
  (∀ (k : Nat) (dirBad : Bool) (s : State),
      s.issueFirst k dirBad [] = s) ∧
  (∀ (k : Nat) (dirBad : Bool) (r : FetchRequest) (l : List FetchRequest) (s : State),
      (s.tile r.cluster r.tile).fenced = true →
      let b := s.setFetch k { s.fetchEngine k with queue := dropFirst r (s.fetchEngine k).queue }
      let a := b.bumpFar Reg.FETCH_FENCED r.cluster k 1
      s.issueFirst k dirBad (r :: l) = a.setStore r.cluster { a.store r.cluster with
        tags := (a.store r.cluster).tags.filter fun g => !(g.tile == r.tile && g.f == r.f) }) ∧
  (∀ (k : Nat) (dirBad : Bool) (r : FetchRequest) (l : List FetchRequest) (s : State),
      (s.tile r.cluster r.tile).fenced = false →
      (64 ≤ s.returning k r.cluster false ∨ (s.fetchEngine k).directoryOpen (s.farDirAddr r.cluster r.tile r.f / 64) =
        false) →
      s.issueFirst k dirBad (r :: l) = s.issueFirst k dirBad l) ∧
  (∀ (k : Nat) (r : FetchRequest) (l : List FetchRequest) (s : State),
      (s.tile r.cluster r.tile).fenced = false → s.returning k r.cluster false < 64 →
      (s.fetchEngine k).directoryOpen (s.farDirAddr r.cluster r.tile r.f / 64) = true →
      (s.store r.cluster).offer < (s.farEntry r.cluster r.tile r.f).2 →
      s.issueFirst k false (r :: l) = ((s.directoryRead k r.cluster r.tile r.f).bumpAt Reg.LINE_WAIT
        r.cluster).issueFirst k false l) ∧
  (∀ (k : Nat) (dirBad : Bool) (r : FetchRequest) (l : List FetchRequest) (s : State),
      (s.tile r.cluster r.tile).fenced = false → s.returning k r.cluster false < 64 →
      (s.fetchEngine k).directoryOpen (s.farDirAddr r.cluster r.tile r.f / 64) = true →
      ((s.farEntry r.cluster r.tile r.f).2 ≤ (s.store r.cluster).offer ∨ dirBad = true) →
      s.issueFirst k dirBad (r :: l) = (((s.directoryRead k r.cluster r.tile r.f).dropRequest k r).bumpFar
          Reg.FETCH_ISSUED r.cluster k 1).startRow k r.cluster r.tile r.f r.due dirBad) ∧
  (∀ (k c t f due : Nat) (s : State),
      s.startRow k c t f due true = (s.setStore c ((s.store c).modTag t f fun g =>
          { g with present := true, issued := true, failed := true })).farEcc c k (s.farDirAddr c t f) due) ∧
  (∀ (k c t f due : Nat) (s : State),
      (s.farEntry c t f).2 = 0 →
      s.startRow k c t f due false = s.setStore c ((s.store c).modTag t f fun g => { g with present := true, issued :=
                                                                                              true })) ∧
  (∀ (k c t f due : Nat) (s : State),
      (s.farEntry c t f).2 ≠ 0 →
      let a := s.evict c (s.farEntry c t f).2 2048
      let b := a.setStore c ((a.store c).modTag t f fun g => { g with issued := true, len := (s.farEntry c t f).2 })
      s.startRow k c t f due false = b.setFetch k { b.fetchEngine k with jobs := (b.fetchEngine k).jobs ++
        [{ cluster := c, tile := t, f := f, addr := (s.farEntry c t f).1, len := (s.farEntry c t f).2 }] }) ∧
  (∀ (k : PackageId) (dirBad : Bool) (s : State),
      ((s.fetchEngine k.val).hints.head?.all fun h => s.canIssue k.val || decide (64 ≤ s.returning k.val h.cluster
        true) || !(s.fetchEngine k.val).directoryOpen (s.farDirAddr h.cluster h.tile h.f / 64)) = true →
      exec (.hintIssue k dirBad) s = .next (s)) ∧
  (∀ (k : PackageId) (dirBad : Bool) (h : FetchHint) (l : List FetchHint) (g : FarTag) (s : State),
      (s.fetchEngine k.val).hints = h :: l → s.canIssue k.val = false → s.returning k.val h.cluster true < 64 →
      (s.fetchEngine k.val).directoryOpen (s.farDirAddr h.cluster h.tile h.f / 64) = true →
      (s.store h.cluster).tag h.tile h.f = some g →
      exec (.hintIssue k dirBad) s =
        .next (((s.setFetch k.val { s.fetchEngine k.val with hints := l }).bumpFar Reg.FETCH_JOIN h.cluster k.val
          1).bumpAt Reg.PF_DUP h.cluster)) ∧
  (∀ (k : PackageId) (dirBad : Bool) (h : FetchHint) (l : List FetchHint) (s : State),
      (s.fetchEngine k.val).hints = h :: l → s.canIssue k.val = false → s.returning k.val h.cluster true < 64 →
      (s.fetchEngine k.val).directoryOpen (s.farDirAddr h.cluster h.tile h.f / 64) = true →
      (s.store h.cluster).tag h.tile h.f = none →
      (2048 ≤ (s.store h.cluster).tags.length ∨ (s.store h.cluster).offer < (s.farEntry h.cluster h.tile h.f).2) →
      exec (.hintIssue k dirBad) s = .next (s)) ∧
  (∀ (k : PackageId) (dirBad : Bool) (h : FetchHint) (l : List FetchHint) (s : State),
      (s.fetchEngine k.val).hints = h :: l → s.canIssue k.val = false → s.returning k.val h.cluster true < 64 →
      (s.fetchEngine k.val).directoryOpen (s.farDirAddr h.cluster h.tile h.f / 64) = true →
      (s.store h.cluster).tag h.tile h.f = none → (s.store h.cluster).tags.length < 2048 →
      (s.farEntry h.cluster h.tile h.f).2 ≤ (s.store h.cluster).offer →
      exec (.hintIssue k dirBad) s = .next (
        let a := s.setFetch k.val { s.fetchEngine k.val with hints := l }
        let b := a.setStore h.cluster { a.store h.cluster with
          tags := (a.store h.cluster).tags ++ [{ tile := h.tile, f := h.f, present := false, prefetch := true }] }
        ((b.bumpAt Reg.PF_ISSUED h.cluster).directoryRead k.val h.cluster h.tile h.f).startRow k.val h.cluster h.tile
          h.f
          0 dirBad)) ∧
  (∀ (k : PackageId) (stale : List FetchHint) (s : State),
      ((s.fetchEngine k.val).hints.filter fun h => decide (h.step + 1 ≤ (s.tile (h.source / 64) (h.source %
        64)).updated)) = stale →
      exec (.hintStale k) s = .next (
        let a := stale.foldl (fun s h => s.bumpAt Reg.PF_STALE h.cluster) s
        let stays (h : FetchHint) : Bool := (s.tile (h.source / 64) (h.source % 64)).updated < h.step + 1
        a.setFetch k.val { s.fetchEngine k.val with hints := (s.fetchEngine k.val).hints.filter stays })) ∧
  (∀ (c : ClusterId) (bad : Bool) (s : State),
      (s.store c.val).landed = [] →
      exec (.fetchLineArrive c bad) s = .next (s)) ∧
  (∀ (c : ClusterId) (bad : Bool) (x : BulkLine) (rest : List BulkLine) (s : State),
      (s.store c.val).landed = x :: rest → (s.store c.val).tag x.tile x.f = none →
      exec (.fetchLineArrive c bad) s = .next (s.setStore c.val { s.store c.val with landed := rest })) ∧
  (∀ (c : ClusterId) (bad : Bool) (x : BulkLine) (rest : List BulkLine) (g : FarTag) (s : State),
      (s.store c.val).landed = x :: rest → (s.store c.val).tag x.tile x.f = some g →
      exec (.fetchLineArrive c bad) s = .next (
        let a := s.setStore c.val { s.store c.val with landed := rest }
        let b := a.setStore c.val ((a.store c.val).modTag x.tile x.f fun g =>
          { g with data := g.data ++ x.data, badLines := if bad || x.bad then g.badLines ++ [x.index] else g.badLines
                     })
        let d := if bad || x.bad then
            b.farEcc c.val (packageOf x.f) ((b.farEntry c.val x.tile x.f).1 + 64 * x.index) g.due
          else b
        if x.index + 1 = g.len then d.rowArrived c.val x.tile x.f else d)) ∧
  (∀ (sw : ClusterId) (out : Fin 7) (slot : Fin 256) (bad : Bool) (offer : Option BulkOffer) (a : State) (s : State),
      s.frameStart sw.val slot.val = a →
      (natBit (a.slotEntry sw.val out.val slot.val) 3 = false ∨ a.outputRoom sw.val out.val = false) →
      exec (.bulkSlotMove sw out slot bad offer) s = .next (a)) ∧
  (∀ (sw : ClusterId) (out : Fin 7) (slot : Fin 256) (bad : Bool) (offer : Option BulkOffer) (e : Nat) (a : State) (s : State),
      s.frameStart sw.val slot.val = a → a.slotEntry sw.val out.val slot.val = e → natBit e 3 = true →
      a.outputRoom sw.val out.val = true →
      exec (.bulkSlotMove sw out slot bad offer) s = .next (
        match a.takeLine sw.val (bitField e 0 3) (bitField e 4 4) (bitField e 8 4) offer with
        | (some x, b) => b.putLine sw.val out.val { x with bad := x.bad || bad }
        | (none, b) => if bitField e 4 4 = 0 then b.bumpAt Reg.SLOT_IDLE_FETCH (bitField e 8 4) else b)) ∧
  (∀ (sw port kind clu : Nat) (offer : Option BulkOffer) (x : BulkLine) (s : State),
      ((s.switchQueue sw port).find? fun l => l.kind == kind && l.clu == clu) = some x →
      s.takeLine sw port kind clu offer = (some x, s.setSwitchQueue sw port (dropFirst x (s.switchQueue sw port)))) ∧
  (∀ (sw port kind clu : Nat) (offer : Option BulkOffer) (s : State),
      ((s.switchQueue sw port).find? fun l => l.kind == kind && l.clu == clu) = none →
      s.takeLine sw port kind clu offer = s.offerLine sw port kind clu offer) ∧
  (∀ (k c : Nat) (all : Bool) (s : State),
      s.returning k c all = (s.fetchEngine k).jobs.foldl
          (fun a j => if j.cluster = c ∧ (all ∨ !s.speculative j) then a + (j.len - j.sent) else a) 0)

/-- The oldest pre-report leaves its queue and is applied, after its far entry is dropped where found bad; the oldest post
  report is taken, after the neuron's record is dropped where found bad; an empty queue is left. TRACE_GROOM_VISIT
  with no row and no entry does nothing; else it moves the cursor on and is counted: a bad near PLX is reset and
  logged, another groomed; a far entry found bad, or with no trace left, is released and the cursor stays, another
  groomed. EPOCH_END: with an end pending or no harness LOADED nothing; the master ends the epoch after its L-th step,
  not before; another device with the CAPTURE broadcast alone. CAPTURE: with no end pending, before the step is
  complete and the sweep over, in Brace, or on the master before the others tell, nothing; else the wait is added and
  compactions run; where one is held for room the capture waits; else tables are swapped and a LEARN_EPOCH completes.
  SWEEP_ROW: with no row nothing; a row held goes on; of the next row a bad PLX is dropped and logged, one without
  s_pre passed over, another swept with x_pre and s_pre as of its PLX. SWEEP_END with no sweep, a row left or no room
  does nothing; else it stages a COMMIT, clears SWEEP_BUSY, keeps the longest sweep and signals SWEEP_HITCH where one
  is named. -/
def Obligations.PlasticityAndStable : Prop :=
  (∀ (c : ClusterId) (bad : Bool) (s : State),
      (s.plast c.val).pre = [] →
      exec (.preReport c bad) s = .next (s)) ∧
  (∀ (c : ClusterId) (bad : Bool) (r : PreReport) (l : List PreReport) (s : State),
      (s.plast c.val).pre = r :: l → (bad = false ∨ (s.plast c.val).farFind r.row = none) →
      exec (.preReport c bad) s = .next ((s.setPlast c.val { (s.plast c.val) with pre := l }).applyPre c.val r)) ∧
  (∀ (c : ClusterId) (r : PreReport) (l : List PreReport) (s : State),
      (s.plast c.val).pre = r :: l → (s.plast c.val).farFind r.row ≠ none →
      exec (.preReport c true) s = .next (
        ((s.setPlast c.val { (s.plast c.val) with
          pre := l, farPlx := (s.plast c.val).farPlx.filter fun x => x.1 ≠ r.row }).plasticEcc c.val r.row.tile
            r.row.ident).applyPre c.val r)) ∧
  (∀ (c : ClusterId) (bad : Bool) (s : State),
      (s.plast c.val).postQueue = [] →
      exec (.postReport c bad) s = .next (s)) ∧
  (∀ (c : ClusterId) (bad : Bool) (r : PostReport) (l : List PostReport) (s : State),
      (s.plast c.val).postQueue = r :: l →
      (bad = false ∨ ((s.plast c.val).post.any fun x => x.tile == r.tile && x.neuron == r.neuron) = false) →
      exec (.postReport c bad) s =
        .next ((s.setPlast c.val { (s.plast c.val) with postQueue := l }).applyPost c.val r)) ∧
  (∀ (c : ClusterId) (r : PostReport) (l : List PostReport) (s : State),
      (s.plast c.val).postQueue = r :: l →
      ((s.plast c.val).post.any fun x => x.tile == r.tile && x.neuron == r.neuron) = true →
      exec (.postReport c true) s = .next (
        ((s.setPlast c.val { (s.plast c.val) with
          post := (s.plast c.val).post.filter fun x => !(x.tile == r.tile && x.neuron == r.neuron) }).plasticEcc c.val
            r.tile r.neuron).takePost c.val)) ∧
  (∀ (c : ClusterId) (bad : Bool) (s : State),
      s.nearPlastic c.val = [] → (s.plast c.val).farPlx = [] →
      exec (.traceGroomVisit c bad) s = .next (s)) ∧
  (∀ (c : ClusterId) (bad : Bool) (row : RowName) (s : State),
      0 < (s.nearPlastic c.val).length + (s.plast c.val).farPlx.length →
      (s.nearPlastic c.val)[(s.plast c.val).groomCursor % ((s.nearPlastic c.val).length + (s.plast
        c.val).farPlx.length)]? = some row →
      exec (.traceGroomVisit c bad) s = .next (
        let s1 := ((s.setPlast c.val { (s.plast c.val) with groomCursor := ((s.plast c.val).groomCursor %
                                                              ((s.nearPlastic c.val).length + (s.plast
                                                              c.val).farPlx.length) + 1) % ((s.nearPlastic
                                                              c.val).length + (s.plast c.val).farPlx.length) }).bumpAt
          Reg.TRACE_GROOM c.val)
        if bad then
          (s1.setWord (s.nearRowAddr c.val row.tile row.row + 12) 4 (Plx.toWord { rxpre := 0, rtl := s.fabric.learned
                                                                                    % 4096, spre0 := 0, spre1 := 0
                                                                                    })).plasticEcc
            c.val row.tile row.ident
        else s1.setWord (s.nearRowAddr c.val row.tile row.row + 12) 4 (groomPlx (Plx.ofWord (s.word (s.nearRowAddr
          c.val row.tile row.row + 12) 4)) s.fabric.learned).toWord)) ∧
  (∀ (c : ClusterId) (bad : Bool) (k : Nat) (x : RowName × Nat) (s : State),
      0 < (s.nearPlastic c.val).length + (s.plast c.val).farPlx.length →
      (s.plast c.val).groomCursor % ((s.nearPlastic c.val).length + (s.plast c.val).farPlx.length) = k →
      (s.nearPlastic c.val)[k]? = none → (s.plast c.val).farPlx[k - (s.nearPlastic c.val).length]? = some x →
      exec (.traceGroomVisit c bad) s = .next (
        let s1 := ((s.setPlast c.val { (s.plast c.val) with groomCursor := ((s.plast c.val).groomCursor %
                                                              ((s.nearPlastic c.val).length + (s.plast
                                                              c.val).farPlx.length) + 1) % ((s.nearPlastic
                                                              c.val).length + (s.plast c.val).farPlx.length) }).bumpAt
          Reg.TRACE_GROOM c.val)
        let y := groomPlx (Plx.ofWord x.2) s.fabric.learned
        let gone := s1.setPlast c.val { s1.plast c.val with
          farPlx := (s1.plast c.val).farPlx.filter (fun z => z.1 ≠ x.1), groomCursor := k }
        if bad then gone.plasticEcc c.val x.1.tile x.1.ident
        else if y.rxpre = 0 ∧ y.spre0 = 0 ∧ y.spre1 = 0 then gone
        else s1.setPlast c.val ((s1.plast c.val).farSet x.1 y.toWord))) ∧
  (∀ (s : State),
      (s.learning.ending ≠ none ∨ s.reg Reg.HARNESS_STATE ≠ 2 ∨ s.isMaster = true ∧ (s.learning.epochLen = 0 ∨
        s.learning.epochSteps < s.learning.epochLen) ∨ s.isMaster = false ∧ (s.fabric.news.find? fun m => m.1 = 3) =
        none) →
      exec (.epochEnd) s = .next (s)) ∧
  (∀ (s : State),
      s.learning.ending = none → s.reg Reg.HARNESS_STATE = 2 → s.isMaster = true → s.learning.epochLen ≠ 0 →
      s.learning.epochLen ≤ s.learning.epochSteps →
      exec (.epochEnd) s = .next (s.endEpoch false)) ∧
  (∀ (m : Nat × Nat × Nat) (s : State),
      s.learning.ending = none → s.reg Reg.HARNESS_STATE = 2 → s.isMaster = false →
      (s.fabric.news.find? fun m => m.1 = 3) = some m →
      exec (.epochEnd) s =
        .next ((s.modFabric fun f => { f with news := dropFirst m f.news }).modLearning fun l => { l with ending :=
                                                                                                            some
                                                                                                            (m.2.1,
                                                                                                            s.now),
                                                                                                            command :=
                                                                                                            false })) ∧
  (∀ (others : Option Status) (s : State),
      (s.learning.ending.all fun e => !s.captureReady e.1 || (s.isMaster && others.isNone)) = true →
      exec (.capture others) s = .next (s)) ∧
  (∀ (others : Option Status) (nb at' : Nat) (s : State),
      s.learning.ending = some (nb, at') → s.captureReady nb = true → (s.isMaster = false ∨ others ≠ none) →
      exec (.capture others) s = .next (
        let s1 := ((s.noteSweepWait at').plasticClusters.foldl (fun s c => s.compactSome c ((s.plast c).prune.length +
          2)) (s.noteSweepWait at'))
        if s1.plasticClusters.any fun c => (s1.plast c).prune != [] || (s1.plast c).edits != [] then s1
        else (s1.captureNow nb).learnDone (s.reg Reg.EPOCH) nb (others.getD .ok))) ∧
  (∀ (c : ClusterId) (f : SweepFlaws) (s : State),
      (s.plast c.val).current = none → (s.plast c.val).closed = [] →
      exec (.sweepRow c f) s = .next (s)) ∧
  (∀ (c : ClusterId) (f : SweepFlaws) (cur : SweepRow) (s : State),
      (s.plast c.val).current = some cur →
      exec (.sweepRow c f) s = .next ((s.dropFlawed c.val cur.row f).runSweep c.val cur f)) ∧
  (∀ (c : ClusterId) (f : SweepFlaws) (row : RowName) (l : List RowName) (s : State),
      (s.plast c.val).current = none → (s.plast c.val).closed = row :: l → f.plx = true →
      exec (.sweepRow c f) s = .next (
        ((if row.far then s.modPlast c.val fun e => { e with farPlx := e.farPlx.filter fun y => y.1 ≠ row }
          else s.setRowPlx c.val row { rxpre := 0, rtl := s.fabric.learned % 4096, spre0 := 0, spre1 := 0
                                         }).plasticEcc
          c.val row.tile row.ident).nextRow c.val)) ∧
  (∀ (c : ClusterId) (f : SweepFlaws) (row : RowName) (l : List RowName) (s : State),
      (s.plast c.val).current = none → (s.plast c.val).closed = row :: l → f.plx = false →
      (s.rowPlx c.val row).spre ((s.reg Reg.EPOCH + 1) % 2) = 0 →
      exec (.sweepRow c f) s = .next (s.nextRow c.val)) ∧
  (∀ (c : ClusterId) (f : SweepFlaws) (row : RowName) (l : List RowName) (x : Plx) (g : Nat) (s : State),
      (s.plast c.val).current = none → (s.plast c.val).closed = row :: l → f.plx = false → s.rowPlx c.val row = x →
      x.spre ((s.reg Reg.EPOCH + 1) % 2) ≠ 0 → s.group (s.rowHeader (.at (s.rowAddr c.val row))).pgrp = g →
      exec (.sweepRow c f) s = .next (
        let k := s.classAt (grpSrcCls g) s.fabric.learned
        let xPre := traceAt x.rxpre k.tauPre x.rtl (s.reg Reg.EPOCH_END_STEP) s.fabric.learned
        let cur : SweepRow :=
          { row := row, xPre := xPre.toNat, sPre := x.spre ((s.reg Reg.EPOCH + 1) % 2), word := 0 }
        ((s.modPlast c.val fun e => { e with current := some cur }).dropFlawed c.val row f).runSweep c.val cur f)) ∧
  (∀ (s : State),
      (s.reg Reg.SWEEP_BUSY = 0 ∨ (s.plasticClusters.any fun c => (s.plast c).closed != []) = true ∨ s.stagingRoom =
        false) →
      exec (.sweepEnd) s = .next (s)) ∧
  (∀ (s : State),
      s.reg Reg.SWEEP_BUSY ≠ 0 → (s.plasticClusters.any fun c => (s.plast c).closed != []) = false →
      s.stagingRoom = true →
      exec (.sweepEnd) s = .next (
        let s1 := s.stage 2 (s.reg Reg.JRNL_GEN / 2 ^ 32 % 2 ^ 24) (s.reg Reg.JRNL_GEN % 2 ^ 32)
        let s2 := (s1.setReg Reg.SWEEP_BUSY 0).peak Reg.SWEEP_MAX_NS (s.now - s.learning.sweepFrom)
        let s3 := s.plasticClusters.foldl (fun s c => s.modPlast c fun e => { e with sweeping := false }) s2
        if s.reg Reg.SWEEP_HITCH = 0xFFFF then s3 else s3.hitchNotify (s.reg Reg.SWEEP_HITCH)))

/-- The operation that R264 puts first is taken out of the network and applied, after an uncorrectable entry has gone back
  to its load snapshot and freed its waiters with ECC_UNCORR; with none nothing happens. SIGNAL on a Hitch without
  subscribers, waiters or barrier adds a signed VALUE to COUNT, saturating, and changes no memory and no queue. A SET
  with no barrier armed writes COUNT and publishes it; with one armed it disarms it, counts BAR_CANCEL and refuses its
  heads. The first arrival of a barrier arms it with TARGET and BARN, a later one adds 1 to COUNT and counts a
  BAR_MISMATCH of N; the issuer learns of it. The first subscription or unsubscription is taken out; a subscriber of
  the die or a device enters the list once and is sent COUNT, an unsubscription leaves the list, and with none nothing
  happens. A node takes its oldest news: an UPDATE acknowledges the command and gives the copy; a RELEASE frees the
  barrier heads, a refusal acknowledges and frees with REFUSED, each with the copy; with none nothing happens. A
  failed sync node is kept, logged, and every Hitch homed there is lost. -/
def Obligations.HitchNetwork : Prop :=
  (∀ (h : HitchId) (ecc : Ecc) (s : State),
      s.nextOp h.val = none →
      exec (.hitchOpApply h ecc) s = .next (s)) ∧
  (∀ (h : HitchId) (ecc : Ecc) (f : HitchFlight) (s : State),
      s.nextOp h.val = some f → ecc ≠ .uncorrectable →
      exec (.hitchOpApply h ecc) s = .next ((s.dropFlight f).hitchApply f)) ∧
  (∀ (h : HitchId) (f : HitchFlight) (s : State),
      s.nextOp h.val = some f →
      exec (.hitchOpApply h .uncorrectable) s = .next (
        let s2 := ((s.dropFlight f).setHitch h.val { (s.hitch h.val) with count := (s.hitch h.val).snapCount, target
                                                                            := (s.hitch h.val).snapTarget }).bump
          Reg.HTAB_ECC
        (s2.freeWhere (fun w _ => w.hitch == h.val) .eccUncorr (s2.waitersOn h.val)).hitchApply f)) ∧
  (∀ (h : HitchId) (v : BitVec 32) (s : State),
      (s.hitch h.val).target = 0 → (s.hitch h.val).lsubs = [] → (s.hitch h.val).rsubs = [] → s.waitersOn h.val = [] →
      (s.applySignal h.val v.toNat).hitch h.val = { (s.hitch h.val) with count := satCount (s.hitch h.val).count v } ∧
          (s.applySignal h.val v.toNat).mem = s.mem ∧ (s.applySignal h.val v.toNat).queues = s.queues) ∧
  (∀ (h : HitchId) (v : Nat) (s : State),
      (s.hitch h.val).target = 0 →
      s.applySet h.val v = (s.setHitch h.val { (s.hitch h.val) with count := v, target := 0, barn := 0 }).hitchChanged
        h.val) ∧
  (∀ (h : HitchId) (v : Nat) (s : State),
      (s.hitch h.val).target ≠ 0 →
      let s0 := s.setHitch h.val { (s.hitch h.val) with count := v, target := 0, barn := 0, releases := (s.hitch
                                                          h.val).releases + 1 }
      let s1 := (s0.bump Reg.BAR_CANCEL).logGated 3 h.val (s.reg Reg.STEP_RELEASED) { cls := .hitch, ref := h.val }
      s.applySet h.val v = ((s1.hitchPublish h.val (.refuse v ((s.hitch h.val).releases + 1))).freeBarrier h.val
        (s.hitch h.val).homeNode
        ((s.hitch h.val).releases + 1) .refused).evaluate h.val (s.hitch h.val).homeNode) ∧
  (∀ (f : HitchFlight) (n : Nat) (s : State),
      (s.hitch f.hitch).target = 0 → (s.hitch f.hitch).count + n ≤ 0xFFFFFFFF → n ≠ 0 → f.dev = s.reg Reg.DEV_NUM →
      s.applyBarrier f n = ((s.noteArrival f.hitch f.queue (s.hitch f.hitch).releases).setHitch f.hitch { (s.hitch
        f.hitch) with
          count := (s.hitch f.hitch).count + 1, target := (s.hitch f.hitch).count + n, barn := n }).hitchChanged
            f.hitch) ∧
  (∀ (f : HitchFlight) (n : Nat) (s : State),
      (s.hitch f.hitch).target ≠ 0 → (s.hitch f.hitch).count < 0xFFFFFFFF → f.dev = s.reg Reg.DEV_NUM →
      let s1 := s.noteArrival f.hitch f.queue (s.hitch f.hitch).releases
      s.applyBarrier f n = ((if n ≠ (s.hitch f.hitch).barn then
        (s1.bump Reg.BAR_MISMATCH).logGated 4 f.hitch (s.reg Reg.STEP_RELEASED) { cls := .hitch, ref := f.hitch }
        else s1).setHitch f.hitch { (s.hitch f.hitch) with count := (s.hitch f.hitch).count + 1 }).hitchChanged
          f.hitch) ∧
  (∀ (h : HitchId) (s : State),
      firstFlight (s.hitch h.val).homeNode (fun f => f.hitch == h.val && f.msg.isSubscription) s.hitchNet = none →
      exec (.hitchSubscribe h) s = .next (s)) ∧
  (∀ (h : HitchId) (f : HitchFlight) (s : State),
      firstFlight (s.hitch h.val).homeNode (fun f => f.hitch == h.val && f.msg.isSubscription) s.hitchNet = some f →
      f.msg = .subscribe → f.dev = s.reg Reg.DEV_NUM →
      exec (.hitchSubscribe h) s = .next (
        let s1 := (s.dropFlight f).setHitch h.val { (s.hitch h.val) with lsubs := (s.hitch h.val).lsubs.filter (· ≠
                                                                           f.node) ++ [f.node] }
        { s1 with
          hitchNet := (s.dropFlight f).hitchNet ++
            [{ f with msg := .update (s.hitch h.val).count, link := none, arrive := cclkOf s.now + 40 }] })) ∧
  (∀ (h : HitchId) (f : HitchFlight) (s : State),
      firstFlight (s.hitch h.val).homeNode (fun f => f.hitch == h.val && f.msg.isSubscription) s.hitchNet = some f →
      f.msg = .subscribe → f.dev ≠ s.reg Reg.DEV_NUM →
      exec (.hitchSubscribe h) s = .next (
        let s1 := (s.dropFlight f).setHitch h.val { (s.hitch h.val) with rsubs := (s.hitch h.val).rsubs.filter (· ≠
                                                                           f.dev) ++ [f.dev] }
        { s1 with
          syncOut := s.syncOut ++ [{ f with msg := .update (s.hitch h.val).count, link := none, arrive := cclkOf s.now
                                              + 40 }] })) ∧
  (∀ (h : HitchId) (f : HitchFlight) (s : State),
      firstFlight (s.hitch h.val).homeNode (fun f => f.hitch == h.val && f.msg.isSubscription) s.hitchNet = some f →
      f.msg ≠ .subscribe →
      exec (.hitchSubscribe h) s = .next (
        (s.dropFlight f).setHitch h.val (if f.dev = s.reg Reg.DEV_NUM then { (s.hitch h.val) with lsubs := (s.hitch
                                                                                                    h.val).lsubs.filter
                                                                                                    (· ≠ f.node) }
          else { (s.hitch h.val) with rsubs := (s.hitch h.val).rsubs.filter (· ≠ f.dev) }))) ∧
  (∀ (h : HitchId) (node : Fin 17) (s : State),
      (s.hitchNet.find? fun f => f.hitch == h.val && f.msg.isNews && f.node == node.val && f.dev == s.reg Reg.DEV_NUM)
        = none →
      exec (.hitchUpdate h node) s = .next (s)) ∧
  (∀ (h : HitchId) (node : Fin 17) (f : HitchFlight) (v : Nat) (s : State),
      (s.hitchNet.find? fun f => f.hitch == h.val && f.msg.isNews && f.node == node.val && f.dev == s.reg Reg.DEV_NUM)
        = some f →
      f.msg = .update v →
      exec (.hitchUpdate h node) s =
        .next ((((s.dropFlight f).hitchAcknowledge h.val f.queue .ok).noteArrival h.val f.queue 0).hitchCopy h.val
          node.val v (f.queue == 0x7FFF))) ∧
  (∀ (h : HitchId) (node : Fin 17) (f : HitchFlight) (v r : Nat) (s : State),
      (s.hitchNet.find? fun f => f.hitch == h.val && f.msg.isNews && f.node == node.val && f.dev == s.reg Reg.DEV_NUM)
        = some f →
      f.msg = .release v r →
      exec (.hitchUpdate h node) s =
        .next (((s.dropFlight f).freeBarrier h.val node.val r .ok).hitchCopy h.val node.val v true)) ∧
  (∀ (h : HitchId) (node : Fin 17) (f : HitchFlight) (v r : Nat) (s : State),
      (s.hitchNet.find? fun f => f.hitch == h.val && f.msg.isNews && f.node == node.val && f.dev == s.reg Reg.DEV_NUM)
        = some f →
      f.msg = .refuse v r →
      exec (.hitchUpdate h node) s =
        .next ((((s.dropFlight f).hitchAcknowledge h.val f.queue .refused).freeBarrier h.val node.val r
          .refused).hitchCopy h.val node.val v (f.queue == 0x7FFF))) ∧
  (∀ (node : Fin 16) (s : State),
      exec (.syncNodeFail node) s = .next (
        State.loseHomes ((State.logFault { s with failedNodes := s.failedNodes.filter (· ≠ node.val) ++ [node.val] }
          { cls := .hitch, sev := some .degraded, status := .timeout, unit := node.val }))
          (s.hitches.filterMap fun e => if e.2.homeNode = node.val ∧ s.isHome e.1 then some e.1 else none)))

/-- In a low-power state a packet or frame is dropped and counted. A packet with an uncorrectable header is counted and
  recorded; else a corrected header is counted, and then: a wrong CRC is counted and recorded; another channel or data
  type is ignored; a port not ARMED drops it, each counted; else it is taken. A frame with a wrong FCS, or not of 64
  to 9,216 bytes, is counted and recorded; one for another address is ignored and counted; a MAC-control frame is
  counted and acted on; on a port not ARMED all but a MGMT frame is dropped and counted; an own MGMT frame is counted
  by its header; an event frame is taken; another goes through the parse graph, or is ignored and counted without one.
  INTAKE_INJECT: a port not armed does nothing; with an open window up to two events are injected, none while a count
  settle runs; with the window closed up to two of those due go, and a port with none left is done with the window;
  one that is done does nothing. REIN_RELEASE releases an automatic Rein below its low mark, or without a skid buffer,
  once its time has passed, and adds that time; else it does nothing. PAUSE_REPEAT sends again at half the pause while
  the Rein is asserted, and not else. REIN_PIN_FAULT keeps the level read, counts and records it. -/
def Obligations.IntakePorts : Prop :=
  (∀ (p : Fin 4) (hdr : Ecc) (vc : Fin 16) (dt : BitVec 6) (payload : List Byte) (crcOk : Bool) (s : State),
      s.reg Reg.PWR_STATE ≠ 0 →
      exec (.csi2PacketReceive p hdr crcOk vc dt payload) s = .next (s.bump Reg.SLEEP_RX_DROP)) ∧
  (∀ (p : Fin 4) (crcOk : Bool) (vc : Fin 16) (dt : BitVec 6) (payload : List Byte) (s : State),
      s.reg Reg.PWR_STATE = 0 →
      exec (.csi2PacketReceive p .uncorrectable crcOk vc dt payload) s =
        .next ((s.bump (Reg.HDR_ERR p.val)).rxError 27 p.val)) ∧
  (∀ (p : Fin 4) (hdr : Ecc) (vc : Fin 16) (dt : BitVec 6) (payload : List Byte) (s : State),
      s.reg Reg.PWR_STATE = 0 → hdr ≠ .uncorrectable →
      exec (.csi2PacketReceive p hdr false vc dt payload) s =
        .next (((if hdr = .corrected then s.bump (Reg.RX_HDR_CORR p.val) else s).bump (Reg.CRC_ERR p.val)).rxError 28
          p.val)) ∧
  (∀ (p : Fin 4) (hdr : Ecc) (vc : Fin 16) (dt : BitVec 6) (payload : List Byte) (s : State),
      s.reg Reg.PWR_STATE = 0 → hdr ≠ .uncorrectable →
      (vc.val ≠ s.reg (Reg.VC p.val) ∨ ¬ (dt.toNat / 8 = 6 ∧ ((s.port p.val).decodeMap.any fun m => natBit (mapByte m
        3) (dt.toNat % 8)) = true)) →
      exec (.csi2PacketReceive p hdr true vc dt payload) s =
        .next ((if hdr = .corrected then s.bump (Reg.RX_HDR_CORR p.val) else s).bump (Reg.RX_IGNORED p.val))) ∧
  (∀ (p : Fin 4) (hdr : Ecc) (vc : Fin 16) (dt : BitVec 6) (payload : List Byte) (s : State),
      s.reg Reg.PWR_STATE = 0 → hdr ≠ .uncorrectable → vc.val = s.reg (Reg.VC p.val) →
      (dt.toNat / 8 = 6 ∧ ((s.port p.val).decodeMap.any fun m => natBit (mapByte m 3) (dt.toNat % 8)) = true) →
      s.reg (Reg.PORT_STATE p.val) ≠ 1 →
      exec (.csi2PacketReceive p hdr true vc dt payload) s =
        .next ((if hdr = .corrected then s.bump (Reg.RX_HDR_CORR p.val) else s).bump (Reg.RX_DISARMED p.val))) ∧
  (∀ (p : Fin 4) (hdr : Ecc) (vc : Fin 16) (dt : BitVec 6) (payload : List Byte) (s : State),
      s.reg Reg.PWR_STATE = 0 → hdr ≠ .uncorrectable → vc.val = s.reg (Reg.VC p.val) →
      (dt.toNat / 8 = 6 ∧ ((s.port p.val).decodeMap.any fun m => natBit (mapByte m 3) (dt.toNat % 8)) = true) →
      s.reg (Reg.PORT_STATE p.val) = 1 →
      exec (.csi2PacketReceive p hdr true vc dt payload) s =
        .next ((if hdr = .corrected then s.bump (Reg.RX_HDR_CORR p.val) else s).takePacket p.val payload)) ∧
  (∀ (e : EthId) (fcsOk : Bool) (frame : List Byte) (s : State),
      s.reg Reg.PWR_STATE ≠ 0 →
      exec (.ethFrameReceive e fcsOk frame) s = .next (s.bump Reg.SLEEP_RX_DROP)) ∧
  (∀ (e : EthId) (frame : List Byte) (s : State),
      s.reg Reg.PWR_STATE = 0 →
      exec (.ethFrameReceive e false frame) s = .next ((s.bump (Reg.CRC_ERR (4 + e.val))).rxError 28 (4 + e.val))) ∧
  (∀ (e : EthId) (frame : List Byte) (s : State),
      s.reg Reg.PWR_STATE = 0 → (frame.length < 64 ∨ 9216 < frame.length) →
      exec (.ethFrameReceive e true frame) s = .next ((s.bump (Reg.HDR_ERR (4 + e.val))).rxError 27 (4 + e.val))) ∧
  (∀ (e : EthId) (frame data body : List Byte) (ty : Nat × Nat) (s : State),
      s.reg Reg.PWR_STATE = 0 → 64 ≤ frame.length → frame.length ≤ 9216 → frame.take (frame.length - 4) = data →
      etherType data = ty → data.drop ty.2 = body → s.frameWanted e.val data = false →
      exec (.ethFrameReceive e true frame) s = .next (s.bump (Reg.RX_IGNORED (4 + e.val)))) ∧
  (∀ (e : EthId) (frame data body : List Byte) (ty : Nat × Nat) (s : State),
      s.reg Reg.PWR_STATE = 0 → 64 ≤ frame.length → frame.length ≤ 9216 → frame.take (frame.length - 4) = data →
      etherType data = ty → data.drop ty.2 = body → s.frameWanted e.val data = true → ty.1 = 0x8808 →
      exec (.ethFrameReceive e true frame) s =
        .next ((s.bump (Reg.PAUSE_RX (4 + e.val))).takePause (4 + e.val) body)) ∧
  (∀ (e : EthId) (frame data body : List Byte) (ty : Nat × Nat) (s : State),
      s.reg Reg.PWR_STATE = 0 → 64 ≤ frame.length → frame.length ≤ 9216 → frame.take (frame.length - 4) = data →
      etherType data = ty → data.drop ty.2 = body → s.frameWanted e.val data = true → ty.1 ≠ 0x8808 →
      ¬ (s.reg (Reg.PORT_STATE (4 + e.val)) = 1 ∨ (ty.1 = 0x88B5 ∧ mapByte body 1 = 2)) →
      exec (.ethFrameReceive e true frame) s = .next (s.bump (Reg.RX_DISARMED (4 + e.val)))) ∧
  (∀ (e : EthId) (frame data body : List Byte) (ty : Nat × Nat) (s : State),
      s.reg Reg.PWR_STATE = 0 → 64 ≤ frame.length → frame.length ≤ 9216 → frame.take (frame.length - 4) = data →
      etherType data = ty → data.drop ty.2 = body → s.frameWanted e.val data = true →
      (ty.1 = 0x88B5 ∧ mapByte body 1 = 2) → s.ownFrame e.val data = true →
      exec (.ethFrameReceive e true frame) s =
        .next (s.bump (if s.encapsulationOk body then Reg.RX_PKTS (4 + e.val) else Reg.DECODE_ERR (4 + e.val)))) ∧
  (∀ (e : EthId) (frame data body : List Byte) (ty : Nat × Nat) (s : State),
      s.reg Reg.PWR_STATE = 0 → 64 ≤ frame.length → frame.length ≤ 9216 → frame.take (frame.length - 4) = data →
      etherType data = ty → data.drop ty.2 = body → s.frameWanted e.val data = true →
      (s.reg (Reg.PORT_STATE (4 + e.val)) = 1 ∨ (ty.1 = 0x88B5 ∧ mapByte body 1 = 2)) → ty.1 = 0x88B5 →
      mapByte body 1 ≠ 2 →
      exec (.ethFrameReceive e true frame) s = .next (s.takeEventFrame (4 + e.val) frame.length body)) ∧
  (∀ (e : EthId) (frame data body : List Byte) (ty : Nat × Nat) (s : State),
      s.reg Reg.PWR_STATE = 0 → 64 ≤ frame.length → frame.length ≤ 9216 → frame.take (frame.length - 4) = data →
      etherType data = ty → data.drop ty.2 = body → s.frameWanted e.val data = true →
      (s.reg (Reg.PORT_STATE (4 + e.val)) = 1 ∨ (ty.1 = 0x88B5 ∧ mapByte body 1 = 2)) → ty.1 ≠ 0x8808 →
      (ty.1 ≠ 0x88B5 ∨ mapByte body 1 = 2 ∧ s.ownFrame e.val data = false) →
      exec (.ethFrameReceive e true frame) s = .next (
        match (s.port (4 + e.val)).graph with
        | some g => s.takeParsed (4 + e.val) g data frame.length
        | none => s.bump (Reg.RX_IGNORED (4 + e.val)))) ∧
  (∀ (p : PortId) (s : State),
      (s.reg (Reg.PORT_STATE p.val) = 0 ∨ s.fabric.windowOpen = true ∧ s.streamOpen = false ∨ s.fabric.windowOpen =
        false ∧ s.fabric.window ≤ Assoc.getD s.fabric.sdone (17 + p.val) 0) →
      exec (.intakeInject p) s = .next (s)) ∧
  (∀ (p : PortId) (s : State),
      s.reg (Reg.PORT_STATE p.val) ≠ 0 → s.fabric.windowOpen = true → s.streamOpen = true →
      exec (.intakeInject p) s = .next (s.injectSome p.val s.fabric.window false 2)) ∧
  (∀ (p : PortId) (s : State),
      s.reg (Reg.PORT_STATE p.val) ≠ 0 → s.fabric.windowOpen = false →
      Assoc.getD s.fabric.sdone (17 + p.val) 0 < s.fabric.window →
      exec (.intakeInject p) s = .next (
        let s1 := s.injectSome p.val s.fabric.window true 2
        if s1.portBusy p.val s.fabric.window then s1
        else s1.modFabric fun f => { f with sdone := Assoc.set (17 + p.val) s.fabric.window f.sdone })) ∧
  (∀ (p : PortId) (s : State),
      (s.port p.val).rein = true → ((s.skid p.val).isNone = true ∨ s.skidFill p.val < (s.reinMarks p.val).2) →
      (s.port p.val).reinAt + s.reg (Reg.REIN_MIN_US p.val) * 1000 ≤ s.now →
      exec (.reinRelease p) s = .next (
        ((s.setPort p.val { s.port p.val with rein := false }).bumpBy (Reg.REIN_TIME_US p.val)
          ((s.now - (s.port p.val).reinAt) / 1000)).reinDrive p.val)) ∧
  (∀ (p : PortId) (s : State),
      ((s.port p.val).rein = false ∨ (s.skid p.val).isNone = false ∧ (s.reinMarks p.val).2 ≤ s.skidFill p.val ∨ s.now
        < (s.port p.val).reinAt + s.reg (Reg.REIN_MIN_US p.val) * 1000) →
      exec (.reinRelease p) s = .next (s)) ∧
  (∀ (e : EthId) (s : State),
      s.reg (Reg.REIN_STATE (4 + e.val)) = 1 →
      (s.port (4 + e.val)).pauseAt + s.reg (Reg.PAUSE_QUANTA e.val) * 2048 / 200 ≤ s.now →
      exec (.pauseRepeat e) s = .next (s.sendPause (4 + e.val) (s.reg (Reg.PAUSE_QUANTA e.val)))) ∧
  (∀ (e : EthId) (s : State),
      (s.reg (Reg.REIN_STATE (4 + e.val)) ≠ 1 ∨ s.now < (s.port (4 + e.val)).pauseAt + s.reg (Reg.PAUSE_QUANTA e.val)
        * 2048 / 200) →
      exec (.pauseRepeat e) s = .next (s)) ∧
  (∀ (p : Fin 4) (s : State),
      exec (.reinPinFault p) s =
        .next (((s.setBit Reg.PIN_IN p.val (s.reg (Reg.REIN_STATE p.val) == 1)).bump Reg.REIN_PIN_FAULT).logFault {
          cls := .supply, source := some 3, unit := p.val }))

/-- A feed of 36 V or more that is not present and not above 62 V joins: it turns on a device that is off and may wake,
  wakes a sleeping one; else only its voltage is kept. A lost feed is taken off and reported; a reversed one too,
  counted once; one above 62 V opens once, counted and reported, and closes below 60 V. INRUSH_BYPASS and a due
  HOLDUP_CHECK judge HOLDUP_OK, a low measurement is reported, one not due is nothing. BRACE_ENTRY keeps the voltage
  read and the rail warned of and enters Brace, counted and reported; in Brace, or by the bus in LOW_INPUT, only the
  first; VDD_AON is only measured, and a device that is off changes nothing. BRACE_EXIT after 100 us above 39 V leaves
  it, and not else; LOW_INPUT follows BRACE_MAX_MS with every rail good, and not else, and ends above 39 V, and not
  else. A rail or LPREG failure of a device that is not off is counted and resets. POWER_FAIL flushes what the energy
  allows, is counted, incomplete where it is not enough, turns off, and on again where a feed returned; off it does
  nothing. GOVERNOR_TICK, every 10 us at most, keeps what is measured and raises the level by one, to 19, above the
  limit; GOVERNOR_LOWER lowers it by one after 1 ms below, at most every 100 us, and not else. THERMAL_SHUTDOWN above
  125 C is logged, counted and flushes off, and not else. RESET_N is held: a running device flushes off, one in
  bring-up goes off, one off stays; its release turns on. GEO pins are kept and a change recorded as it rises. VAON_MA
  is kept, the limit counted and recorded. HOLDUP_CHECK, GEO_CHANGE and VAON_LIMIT of a device that is off change
  nothing. -/
def Obligations.PowerSupply : Prop :=
  (∀ (b : Bool) (mv : BitVec 32) (s : State),
      s.bit Reg.FEEDS (if b then 1 else 0) = false → s.bit Reg.FEEDS (4 + (if b then 1 else 0)) = false →
      36000 ≤ mv.toNat → s.power.off = true → s.power.resetHeld = false → s.power.feedWake = true →
      exec (.feedPresent b mv) s =
        .next ((((s.setReg (feedMv b) mv.toNat).setBit Reg.FEEDS (if b then 1 else 0) true).setBit Reg.FEEDS (2 + (if
          b then 1 else 0)) false).turnOn)) ∧
  (∀ (b : Bool) (mv : BitVec 32) (s : State),
      s.bit Reg.FEEDS (if b then 1 else 0) = false → s.bit Reg.FEEDS (4 + (if b then 1 else 0)) = false →
      36000 ≤ mv.toNat → s.power.off = true → (s.power.resetHeld = true ∨ s.power.feedWake = false) →
      exec (.feedPresent b mv) s =
        .next ((((s.setReg (feedMv b) mv.toNat).setBit Reg.FEEDS (if b then 1 else 0) true).setBit Reg.FEEDS (2 + (if
          b then 1 else 0)) false))) ∧
  (∀ (b : Bool) (mv : BitVec 32) (s : State),
      s.bit Reg.FEEDS (if b then 1 else 0) = false → s.bit Reg.FEEDS (4 + (if b then 1 else 0)) = false →
      36000 ≤ mv.toNat → s.power.off = false →
      exec (.feedPresent b mv) s =
        .next ((((s.setReg (feedMv b) mv.toNat).setBit Reg.FEEDS (if b then 1 else 0) true).setBit Reg.FEEDS (2 + (if
          b then 1 else 0)) false).wakeBy .feed)) ∧
  (∀ (b : Bool) (mv : BitVec 32) (s : State),
      (s.bit Reg.FEEDS (if b then 1 else 0) = true ∨ s.bit Reg.FEEDS (4 + (if b then 1 else 0)) = true ∨ mv.toNat <
        36000) →
      exec (.feedPresent b mv) s = .next (s.setReg (feedMv b) mv.toNat)) ∧
  (∀ (b : Bool) (mv : BitVec 32) (s : State),
      exec (.feedLost b mv) s = .next ((s.setReg (feedMv b) mv.toNat).feedLost b)) ∧
  (∀ (b : Bool) (s : State),
      exec (.feedReversed b) s =
        .next (if s.bit Reg.FEEDS (2 + (if b then 1 else 0)) then s.feedLost b else ((s.feedLost b).setBit Reg.FEEDS
          (2 + (if b then 1 else 0)) true).bump Reg.FEED_REVERSED)) ∧
  (∀ (b : Bool) (mv : BitVec 32) (s : State),
      exec (.feedOvervoltage b true mv) s =
        .next (if s.bit Reg.FEEDS (4 + (if b then 1 else 0)) then (s.setReg (feedMv b) mv.toNat) else ((((s.setReg
          (feedMv b) mv.toNat).feedLost b).setBit Reg.FEEDS (4 + (if b then 1 else 0)) true).bump
          Reg.FEED_OV).supplyReport (if b then 1 else 0))) ∧
  (∀ (b : Bool) (mv : BitVec 32) (s : State),
      exec (.feedOvervoltage b false mv) s = .next (
        if 60000 ≤ mv.toNat ∨ s.bit Reg.FEEDS (4 + (if b then 1 else 0)) = false then (s.setReg (feedMv b) mv.toNat)
        else ((s.setReg (feedMv b) mv.toNat).setBit Reg.FEEDS (4 + (if b then 1 else 0)) false).setBit Reg.FEEDS (if b
          then 1 else 0) (s.bit Reg.FEEDS (if b then 1 else 0) || decide (36000 ≤ mv.toNat)))) ∧
  (∀ (s : State),
      ∃ t, exec (.inrushBypass) s = .next t ∧ t = (s.modPower fun p => { p with bypassed := true }).judgeHoldup ∧
        t.reg Reg.HOLDUP_OK = (if 600 ≤ s.reg Reg.HOLDUP_MJ then 1 else 0)) ∧
  (∀ (mj : BitVec 32) (s : State),
      (s.power.holdupAt.all fun t => decide (t + (if s.reg Reg.HOLDUP_MJ < 600 then 3600000000000 else 86400000000000)
        ≤ s.now)) = true →
      s.power.off = false →
      exec (.holdupCheck mj) s = .next (
        let s1 := ((s.modPower fun p => { p with holdupAt := some s.now }).setReg Reg.HOLDUP_MJ mj.toNat).judgeHoldup
        if mj.toNat < 600 then s1.supplyReport 0xFF else s1)) ∧
  (∀ (mj : BitVec 32) (at' : Nat) (s : State),
      s.power.holdupAt = some at' →
      s.now < at' + (if s.reg Reg.HOLDUP_MJ < 600 then 3600000000000 else 86400000000000) →
      exec (.holdupCheck mj) s = .next (s)) ∧
  (∀ (rail : Option (Fin 8)) (mv : BitVec 16) (s : State),
      s.power.off = false → rail ≠ some 7 → s.power.brace = none → (rail ≠ none ∨ s.reg Reg.SUPPLY_STATE ≠ 2) →
      exec (.braceEntry rail mv) s = .next (
        let s1 := ((s.dipSeen rail mv.toNat).accrueAcct.modPower fun p => { p with brace := some s.now }).setReg
          Reg.SUPPLY_STATE 1
        (s1.bump Reg.BRACES).supplyReport (rail.elim 0xFF (·.val)))) ∧
  (∀ (rail : Option (Fin 8)) (mv : BitVec 16) (s : State),
      s.power.off = false → rail ≠ some 7 → (s.power.brace ≠ none ∨ rail = none ∧ s.reg Reg.SUPPLY_STATE = 2) →
      exec (.braceEntry rail mv) s = .next (s.dipSeen rail mv.toNat)) ∧
  (∀ (rail : Option (Fin 8)) (mv : BitVec 16) (s : State),
      s.power.off = true →
      exec (.braceEntry rail mv) s = .next (s)) ∧
  (∀ (mv : BitVec 16) (s : State),
      s.power.off = false →
      exec (.braceEntry (some 7) mv) s = .next (s.setReg (Reg.RAIL_MV 7) mv.toNat)) ∧
  (∀ (mv : BitVec 32) (at' : Nat) (s : State),
      s.power.brace = some at' → at' + 100000 ≤ s.now → 39000 < mv.toNat →
      exec (.braceExit mv) s =
        .next ((((s.leaveBrace.setReg Reg.BUS_MV mv.toNat).setReg Reg.RAIL_STATUS 0).setReg Reg.SUPPLY_STATE
          0).setError 2 false)) ∧
  (∀ (mv : BitVec 32) (s : State),
      (s.power.brace.all fun t => decide (s.now < t + 100000) || decide (mv.toNat ≤ 39000)) = true →
      exec (.braceExit mv) s = .next (s)) ∧
  (∀ (at' : Nat) (s : State),
      s.power.brace = some at' → s.reg Reg.RAIL_STATUS = 0 → at' + s.reg Reg.BRACE_MAX_MS * 1000000 ≤ s.now →
      exec (.lowInputEntry) s =
        .next (((s.leaveBrace.setReg Reg.SUPPLY_STATE 2).bump Reg.LOW_INPUT_ENTRIES).setError 2 true)) ∧
  (∀ (s : State),
      (s.power.brace.all fun t => s.reg Reg.RAIL_STATUS != 0 || decide (s.now < t + s.reg Reg.BRACE_MAX_MS * 1000000))
        = true →
      exec (.lowInputEntry) s = .next (s)) ∧
  (∀ (mv : BitVec 32) (s : State),
      s.reg Reg.SUPPLY_STATE = 2 → 39000 < mv.toNat →
      exec (.lowInputExit mv) s =
        .next (((s.accrueAcct.setReg Reg.BUS_MV mv.toNat).setReg Reg.SUPPLY_STATE 0).setError 2 false)) ∧
  (∀ (mv : BitVec 32) (s : State),
      (s.reg Reg.SUPPLY_STATE ≠ 2 ∨ mv.toNat ≤ 39000) →
      exec (.lowInputExit mv) s = .next (s)) ∧
  (∀ (s : State),
      s.power.off = false →
      exec (.railReset) s = .next ((s.bump Reg.RAIL_RESETS).coldStart 3)) ∧
  (∀ (s : State),
      s.power.off = true →
      exec .railReset s = .next s ∧ exec .lpregOverload s = .next s) ∧
  (∀ (s : State),
      s.power.off = false →
      exec (.lpregOverload) s = .next ((s.bump Reg.LPREG_OVL).coldStart 4)) ∧
  (∀ (blocks : Nat) (recovered : Bool) (s : State),
      s.power.off = false →
      exec (.powerFail blocks recovered) s = .next (
        let s1 := (s.flushStable (if s.reg Reg.HOLDUP_OK = 1 then s.flushBlocks + 2336 else blocks)).bump
          Reg.PF_EVENTS
        let s2 := if s.flushBlocks + 2336 ≤ (if s.reg Reg.HOLDUP_OK = 1 then s.flushBlocks + 2336 else blocks) then
          s1.powerOff 1 else (s1.bump Reg.PF_INCOMPLETE).powerOff 2
        if !recovered then s2
        else if s.power.resetHeld then s2.bump Reg.PF_RECOVERED else s2.turnOn.bump Reg.PF_RECOVERED)) ∧
  (∀ (blocks : Nat) (recovered : Bool) (s : State),
      s.power.off = true →
      exec (.powerFail blocks recovered) s = .next (s)) ∧
  (∀ (mw : BitVec 32) (temp plate : BitVec 16) (s : State),
      s.power.govTick + 10000 ≤ s.now → s.govLimit temp.toInt < mw.toNat → s.reg Reg.GOV_LEVEL < 19 →
      exec (.governorTick mw temp plate) s = .next (
        let lim := s.govLimit temp.toInt
        let s1 := (((s.accrueGov.setReg Reg.INPUT_MW mw.toNat).setReg Reg.TEMP_DIE_C temp.toNat).setReg
          Reg.TEMP_PLATE_C
          plate.toNat).setReg Reg.GOV_LIMIT_EFF_MW lim
        let s2 := s1.modPower fun p =>
          { p with govLow := if mw.toNat + 2000 < lim then some (s.power.govLow.getD s.now) else none, govTick :=
                     s.now }
        ((s2.setReg Reg.GOV_LEVEL (s.reg Reg.GOV_LEVEL + 1)).peak Reg.GOV_LEVEL_MAX (s.reg Reg.GOV_LEVEL +
          1)).modPower
          fun p => { p with govRaised := s.now })) ∧
  (∀ (mw : BitVec 32) (temp plate : BitVec 16) (s : State),
      s.power.govTick + 10000 ≤ s.now → (mw.toNat ≤ s.govLimit temp.toInt ∨ 19 ≤ s.reg Reg.GOV_LEVEL) →
      exec (.governorTick mw temp plate) s = .next (
        let lim := s.govLimit temp.toInt
        let s1 := (((s.accrueGov.setReg Reg.INPUT_MW mw.toNat).setReg Reg.TEMP_DIE_C temp.toNat).setReg
          Reg.TEMP_PLATE_C
          plate.toNat).setReg Reg.GOV_LIMIT_EFF_MW lim
        let s2 := s1.modPower fun p =>
          { p with govLow := if mw.toNat + 2000 < lim then some (s.power.govLow.getD s.now) else none, govTick :=
                     s.now }
        s2)) ∧
  (∀ (mw : BitVec 32) (temp plate : BitVec 16) (s : State),
      s.now < s.power.govTick + 10000 →
      exec (.governorTick mw temp plate) s = .next (s)) ∧
  (∀ (at' : Nat) (s : State),
      s.power.govLow = some at' → s.reg Reg.GOV_LEVEL ≠ 0 → at' + 1000000 ≤ s.now →
      s.power.govRaised + 100000 ≤ s.now →
      exec (.governorLower) s =
        .next ((s.accrueGov.setReg Reg.GOV_LEVEL (s.reg Reg.GOV_LEVEL - 1)).modPower fun p => { p with govRaised :=
                                                                                                         s.now })) ∧
  (∀ (s : State),
      (s.power.govLow.all fun t => s.reg Reg.GOV_LEVEL == 0 || decide (s.now < t + 1000000) || decide (s.now <
        s.power.govRaised + 100000)) = true →
      exec (.governorLower) s = .next (s)) ∧
  (∀ (temp : BitVec 16) (s : State),
      s.power.off = false → 125 < temp.toInt →
      exec (.thermalShutdown temp) s =
        .next ((((s.setReg Reg.TEMP_DIE_C temp.toNat).logFault { cls := .supply }).bump Reg.THERM_SHUTDOWN).flushOff
          6)) ∧
  (∀ (temp : BitVec 16) (s : State),
      (s.power.off = true ∨ temp.toInt ≤ 125) →
      exec (.thermalShutdown temp) s = .next (s)) ∧
  (∀ (s : State),
      exec (.resetInput) s = .next (
        let s1 := if s.power.off then s
          else if s.reg Reg.BRINGUP_STAGE = 6 then s.flushOff 5
          else s.powerOff (s.reg Reg.RESET_CAUSE)
        (s1.modPower fun p => { p with resetHeld := true }).setBit Reg.PIN_IN 9 false)) ∧
  (∀ (s : State),
      s.power.resetHeld = true →
      exec (.resetInputRelease) s =
        .next (((s.modPower fun p => { p with resetHeld := false }).setBit Reg.PIN_IN 9 true).turnOn)) ∧
  (∀ (s : State),
      s.power.resetHeld = false →
      exec (.resetInputRelease) s = .next (s)) ∧
  (∀ (c : Instr) (mj : BitVec 32) (pins : BitVec 6) (ma : BitVec 16) (engaged : Bool) (s : State),
      c ∈ [Instr.holdupCheck mj, .geoChange pins, .vaonLimit ma engaged] → s.power.off = true →
      exec (c) s = .next (s)) ∧
  (∀ (pins : BitVec 6) (s : State),
      s.power.off = false → (pins.toNat = s.reg Reg.DEV_NUM ∨ s.reg Reg.GEO_CHANGED ≠ 0) →
      exec (.geoChange pins) s =
        .next (((s.setReg Reg.PIN_IN (setBitField (s.reg Reg.PIN_IN) 10 6 pins.toNat)).setReg Reg.GEO_CHANGED (if
          pins.toNat = s.reg Reg.DEV_NUM then 0 else 1)))) ∧
  (∀ (pins : BitVec 6) (s : State),
      s.power.off = false → pins.toNat ≠ s.reg Reg.DEV_NUM → s.reg Reg.GEO_CHANGED = 0 →
      exec (.geoChange pins) s =
        .next (((s.setReg Reg.PIN_IN (setBitField (s.reg Reg.PIN_IN) 10 6 pins.toNat)).setReg Reg.GEO_CHANGED
          1).logFault { cls := .other, ref := pins.toNat })) ∧
  (∀ (ma : BitVec 16) (engaged : Bool) (s : State),
      s.power.off = false →
      exec (.vaonLimit ma engaged) s = .next (
        if engaged then ((s.setReg Reg.VAON_MA ma.toNat).bump Reg.VAON_LIMIT).logFault { cls := .other }
        else s.setReg Reg.VAON_MA ma.toNat))

/-- A report of a device that is off, held in reset or in recovery, or of another stage than the present one, changes
  nothing. Stage 0: good rails latch DEV_NUM and PIN_IN, stage 1 follows; a failed rail turns the device off, counted,
  with a retry 1 s later, three times. Stage 1 goes by the banks that verify, stage 3 by the memories, stage 5 by the
  tiles. Stage 2 locks the PLL and keeps REF_PPM; its first failure is noted, its second stops bring-up. The end of
  the links' attempt is stage 5. BRINGUP_RETRY turns on a device that is off once its time has come, and not else.
  Background training trains LPDDR5X while TRAINING in stage 6, and not else. CORE_ALARM, in RUN or IDLE: below the
  alarm, and 100 us after the last rise, VDD_CORE rises by 5 mV, counted, or at 0.80 V the Farrier is EXHAUSTED; else
  nothing. REPLAN_DUE with no plan does nothing; else it keeps since when the temperature is far off, and a re-plan
  falls due by 24 h, by 10 s of that, or 1 s after a rise. REPLAN: with links left the next one retrains; with none
  due or before stage 6 nothing; held, it is deferred once; while a consolidation runs the core alone is set once;
  else the plan is put in force and its first link retrains. STABLE_REFRESH does nothing while it may not write or
  none is due; else a pass begins with page 0, goes on with the next, and ends, counted, after page 16,383; each page
  is a write pass and its verify. -/
def Obligations.BringUpAndAgeing : Prop :=
  (∀ (r : StageReport) (s : State),
      (s.power.off = true ∨ s.power.resetHeld = true ∨ s.update.recovery = true) →
      exec (.bringupStage r) s = .next (s)) ∧
  (∀ (r : StageReport) (s : State),
      reportStage r ≠ s.reg Reg.BRINGUP_STAGE →
      exec (.bringupStage r) s = .next (s)) ∧
  (∀ (pins : BitVec 16) (s : State),
      s.power.off = false → s.power.resetHeld = false → s.update.recovery = false → s.reg Reg.BRINGUP_STAGE = 0 →
      exec (.bringupStage (.power none pins)) s =
        .next (((s.setReg Reg.DEV_NUM (pins.toNat / 1024)).setReg Reg.PIN_IN pins.toNat).setReg Reg.BRINGUP_STAGE 1)) ∧
  (∀ (r : Fin 8) (pins : BitVec 16) (s : State),
      s.power.off = false → s.power.resetHeld = false → s.update.recovery = false → s.reg Reg.BRINGUP_STAGE = 0 →
      exec (.bringupStage (.power (some r) pins)) s = .next (
        (((s.powerOff 0).setReg Reg.BRINGUP_FAIL (r.val + 16)).bump Reg.BRINGUP_FAILS).modPower fun p => { p with
          railRetries := s.power.railRetries + 1,
          retryAt := if s.power.railRetries < 3 then some (s.now + 1000000000) else none })) ∧
  (∀ (a b : Bool) (v : StoreVerify) (s : State),
      s.power.off = false → s.power.resetHeld = false → s.update.recovery = false → s.reg Reg.BRINGUP_STAGE = 1 →
      exec (.bringupStage (.manage a b v)) s = .next (s.endManage a b v)) ∧
  (∀ (ppm : BitVec 16) (s : State),
      s.power.off = false → s.power.resetHeld = false → s.update.recovery = false → s.reg Reg.BRINGUP_STAGE = 2 →
      exec (.bringupStage (.clocks true ppm)) s =
        .next (((s.setReg Reg.PLL_LOCKED 1).setReg Reg.REF_PPM ppm.toNat).setReg Reg.BRINGUP_STAGE 3)) ∧
  (∀ (ppm : BitVec 16) (s : State),
      s.power.off = false → s.power.resetHeld = false → s.update.recovery = false → s.reg Reg.BRINGUP_STAGE = 2 →
      exec (.bringupStage (.clocks false ppm)) s = .next (
        if s.power.clockRetried then s.stageFailed 2 2 { cls := .bringup, sev := some .fatal }
        else s.modPower fun p => { p with clockRetried := true })) ∧
  (∀ (m : MemoryReport) (s : State),
      s.power.off = false → s.power.resetHeld = false → s.update.recovery = false → s.reg Reg.BRINGUP_STAGE = 3 →
      exec (.bringupStage (.memory m)) s = .next (s.endMemory m)) ∧
  (∀ (s : State),
      s.power.off = false → s.power.resetHeld = false → s.update.recovery = false → s.reg Reg.BRINGUP_STAGE = 4 →
      exec (.bringupStage .links) s = .next (s.setReg Reg.BRINGUP_STAGE 5)) ∧
  (∀ (a : List (ClusterId × TileId)) (w : List ClusterId) (n : Nat) (f : BitVec 8) (s : State),
      s.power.off = false → s.power.resetHeld = false → s.update.recovery = false → s.reg Reg.BRINGUP_STAGE = 5 →
      exec (.bringupStage (.clusters a w n f)) s = .next (s.endClusters a w n f)) ∧
  (∀ (at' : Nat) (s : State),
      s.power.retryAt = some at' → s.power.off = true → s.power.resetHeld = false → at' ≤ s.now →
      exec (.bringupRetry) s = .next (s.turnOn.modPower fun p => { p with railRetries := s.power.railRetries })) ∧
  (∀ (s : State),
      (s.power.off = false ∨ s.power.resetHeld = true ∨ (s.power.retryAt.all fun t => decide (s.now < t)) = true) →
      exec (.bringupRetry) s = .next (s)) ∧
  (∀ (r : TrainReport) (s : State),
      s.reg Reg.DDR_STATE = 1 → s.reg Reg.BRINGUP_STAGE = 6 →
      exec (.ddrBackgroundTrainDone r) s = .next (s.trainDdr r)) ∧
  (∀ (r : TrainReport) (s : State),
      (s.reg Reg.DDR_STATE ≠ 1 ∨ s.reg Reg.BRINGUP_STAGE ≠ 6) →
      exec (.ddrBackgroundTrainDone r) s = .next (s)) ∧
  (∀ (c : ClusterId) (k : Fin 32) (slack : BitVec 16) (s : State),
      s.power.off = false → s.reg Reg.PWR_STATE < 2 → slack.toInt < (s.reg Reg.CORE_ALARM_PS : Int) →
      (s.power.bumpAt = 0 ∨ s.power.bumpAt + 100000 ≤ s.now) → s.power.vcore < 800 →
      exec (.coreAlarm c k slack) s =
        .next ((s.modPower fun p => { p with vcore := min 800 (p.vcore + 5), bumpAt := s.now }).bump Reg.CORE_BUMPS)) ∧
  (∀ (c : ClusterId) (k : Fin 32) (slack : BitVec 16) (s : State),
      s.power.off = false → s.reg Reg.PWR_STATE < 2 → slack.toInt < (s.reg Reg.CORE_ALARM_PS : Int) →
      (s.power.bumpAt = 0 ∨ s.power.bumpAt + 100000 ≤ s.now) → 800 ≤ s.power.vcore →
      exec (.coreAlarm c k slack) s =
        .next (s.setFarrier 2 { cls := .farrier, sev := some .error, unit := c.val, sub := k.val })) ∧
  (∀ (c : ClusterId) (k : Fin 32) (slack : BitVec 16) (s : State),
      (s.power.off = true ∨ 2 ≤ s.reg Reg.PWR_STATE ∨ (s.reg Reg.CORE_ALARM_PS : Int) ≤ slack.toInt ∨ s.power.bumpAt ≠
        0 ∧ s.now < s.power.bumpAt + 100000) →
      exec (.coreAlarm c k slack) s = .next (s)) ∧
  (∀ (temp : BitVec 16) (s : State),
      s.power.planAt = none →
      exec (.replanDue temp) s = .next (s)) ∧
  (∀ (temp : BitVec 16) (at' : Nat) (s : State),
      s.power.planAt = some at' →
      exec (.replanDue temp) s = .next (
        let s1 := s.modPower fun p => { p with planHot :=
          if 15 < (temp.toInt - p.planTemp).natAbs then some (p.planHot.getD s.now) else none }
        if at' + 86400000000000 ≤ s.now ∨ (s1.power.planHot.any fun h => decide (h + 10000000000 ≤ s.now)) = true ∨
            at' < s.power.bumpAt ∧ s.power.bumpAt + 1000000000 ≤ s.now then s1.duePlan
        else s1)) ∧
  (∀ (r : PlanReport) (s : State),
      s.power.planLinks ≠ [] →
      exec (.replan r) s = .next (s.planLink)) ∧
  (∀ (r : PlanReport) (s : State),
      s.power.planLinks = [] → (s.power.planDue = none ∨ s.reg Reg.BRINGUP_STAGE ≠ 6) →
      exec (.replan r) s = .next (s)) ∧
  (∀ (r : PlanReport) (s : State),
      s.power.planLinks = [] → s.power.planDue ≠ none → s.reg Reg.BRINGUP_STAGE = 6 → s.planHeld = true →
      exec (.replan r) s = .next (
        if s.power.planDeferred then s
        else (s.modPower fun p => { p with planDeferred := true }).bump Reg.REPLAN_DEFER)) ∧
  (∀ (r : PlanReport) (s : State),
      s.power.planLinks = [] → s.power.planDue ≠ none → s.reg Reg.BRINGUP_STAGE = 6 → s.planHeld = false →
      s.learning.consolRunning = true →
      exec (.replan r) s = .next (
        if s.power.planCore then s
        else s.modPower fun p => { p with vcore := s.planCore r.slack.toInt, planCore := true })) ∧
  (∀ (r : PlanReport) (s : State),
      s.power.planLinks = [] → s.power.planDue ≠ none → s.reg Reg.BRINGUP_STAGE = 6 → s.planHeld = false →
      s.learning.consolRunning = false →
      exec (.replan r) s = .next ((s.plan r).planLink)) ∧
  (∀ (v : StoreVerify) (s : State),
      (s.mayRefresh = false ∨ s.power.refreshPage = none ∧ s.now < s.power.refreshedAt + s.reg Reg.STABLE_REFRESH_D *
        86400000000000) →
      exec (.stableRefresh v) s = .next (s)) ∧
  (∀ (v : StoreVerify) (s : State),
      s.mayRefresh = true → s.power.refreshPage = none →
      s.power.refreshedAt + s.reg Reg.STABLE_REFRESH_D * 86400000000000 ≤ s.now →
      exec (.stableRefresh v) s =
        .next ((((s.modPower fun p => { p with refreshPage := some 1 }).wearPages [0]).verifyBlock 0 v))) ∧
  (∀ (v : StoreVerify) (k : Nat) (s : State),
      s.mayRefresh = true → s.power.refreshPage = some k →
      exec (.stableRefresh v) s = .next (
        let s1 := (s.wearPages [k]).verifyBlock k v
        if k + 1 < 16384 then s1.modPower fun p => { p with refreshPage := some (k + 1) }
        else (s1.modPower fun p => { p with refreshPage := none, refreshedAt := s.now }).bump Reg.STABLE_REFRESHES))

/-- TILE_HANG of a router fences every tile of the cluster not fenced, and reports; of a tile fenced or in no phase it
  does nothing; one that waits on a named condition only progresses; one that made progress within TILE_HANG_US is
  left; else it is fenced, reported and the interruption measured. COUNT_SETTLE_START with no harness or a halted
  fabric does nothing; another device than the master holds its releases; the master starts a settle for a deficit or
  a mismatch, and not else. SETTLE_HOLD_REPLY: with no settle held or while counts are zeroed nothing; this device
  replies once quiet, the master for itself; at the master another reply is heard, or counted where not quiet;
  elsewhere it is nothing. SETTLE: a device that holds takes the step, zeroes its counts and replies, another does
  nothing; the master with no settle or with replies due does nothing; with none due it zeroes the counts and sends
  SETTLE, alone it ends the settle; with a reply it hears it, with the last it ends. SETTLE_TIMEOUT after
  SETTLE_MAX_US with replies due halts the fabric, ends the runs, is logged and dumped, and does nothing else.
  DEVICE_LOST before DEV_LOST_US does nothing; then the device is lost, its events and homes go, steps carry DEGRADED,
  logged and told; device 0 lost isolates; the master with a harness LOADED settles. SADDLE_WATCHDOG restarts the
  Saddle from bring-up stage 2 on, with ECC_UNCORR for an error, and not else; so does a BRIDLE_CHECK that differs.
  BRIDLE_WATCHDOG resets the die that is on. -/
def Obligations.FaultHandling : Prop :=
  (∀ (c : ClusterId) (t : TileId) (waits : Bool) (s : State),
      exec (.tileHang c t waits true) s =
        .next (((List.range 64).foldl (fun s k => if s.isFenced c.val k then s else s.fenceTile c.val k)
          s).reportFence c.val)) ∧
  (∀ (c : ClusterId) (t : TileId) (waits : Bool) (s : State),
      ((s.tile c.val t.val).fenced = true ∨ (s.tile c.val t.val).inPhase = false) →
      exec (.tileHang c t waits false) s = .next (s)) ∧
  (∀ (c : ClusterId) (t : TileId) (s : State),
      (s.tile c.val t.val).fenced = false → (s.tile c.val t.val).inPhase = true →
      exec (.tileHang c t true false) s = .next (s.tileProgress c.val t.val)) ∧
  (∀ (c : ClusterId) (t : TileId) (s : State),
      (s.tile c.val t.val).fenced = false → (s.tile c.val t.val).inPhase = true →
      s.now < (s.tile c.val t.val).progressAt + s.reg Reg.TILE_HANG_US * 1000 →
      exec (.tileHang c t false false) s = .next (s)) ∧
  (∀ (c : ClusterId) (t : TileId) (s : State),
      (s.tile c.val t.val).fenced = false → (s.tile c.val t.val).inPhase = true →
      (s.tile c.val t.val).progressAt + s.reg Reg.TILE_HANG_US * 1000 ≤ s.now →
      exec (.tileHang c t false false) s =
        .next ((((s.fenceTile c.val t.val).reportFence c.val).noteInterruption (s.now - (s.tile c.val
          t.val).progressAt)))) ∧
  (∀ (s : State),
      (s.reg Reg.HARNESS_STATE < 2 ∨ s.reg Reg.FABRIC_STATE ≠ 0 ∨ s.isMaster = true ∧ s.deficit = none ∧
        s.fabric.mismatch = false) →
      exec (.countSettleStart) s = .next (s)) ∧
  (∀ (s : State),
      2 ≤ s.reg Reg.HARNESS_STATE → s.reg Reg.FABRIC_STATE = 0 → s.isMaster = false →
      exec (.countSettleStart) s = .next (s.modFabric fun f => { f with settling := true })) ∧
  (∀ (s : State),
      2 ≤ s.reg Reg.HARNESS_STATE → s.reg Reg.FABRIC_STATE = 0 → s.isMaster = true →
      (s.deficit ≠ none ∨ s.fabric.mismatch = true) →
      exec (.countSettleStart) s = .next (s.startSettle (s.deficit.getD 0))) ∧
  (∀ (dev : Fin 64) (quiet : Bool) (s : State),
      (s.fabric.settling = false ∨ (s.tether.settle.any fun x => x.zeroing) = true ∨ dev.val = s.reg Reg.DEV_NUM ∧
        s.quiet = false ∨ dev.val ≠ s.reg Reg.DEV_NUM ∧ s.isMaster = false) →
      exec (.settleHoldReply dev quiet) s = .next (s)) ∧
  (∀ (dev : Fin 64) (quiet : Bool) (s : State),
      s.fabric.settling = true → (s.tether.settle.any fun x => x.zeroing) = false → dev.val = s.reg Reg.DEV_NUM →
      s.quiet = true →
      exec (.settleHoldReply dev quiet) s =
        .next (if s.isMaster then s.settleHeard dev.val else s.emit (.ctrl 0 "SETTLE_HOLD reply" 1))) ∧
  (∀ (dev : Fin 64) (quiet : Bool) (s : State),
      s.fabric.settling = true → (s.tether.settle.any fun x => x.zeroing) = false → dev.val ≠ s.reg Reg.DEV_NUM →
      s.isMaster = true →
      exec (.settleHoldReply dev quiet) s = .next (if quiet then s.settleHeard dev.val else s.bump Reg.SETTLE_BUSY)) ∧
  (∀ (dev : Fin 64) (step : Nat) (s : State),
      s.isMaster = false →
      exec (.settle dev step) s = .next (
        if s.fabric.settling then
          (((s.takeStep step).zeroCounts).modFabric fun f => { f with settling := false }).emit (.ctrl 0 "SETTLE
            reply" 0)
        else s)) ∧
  (∀ (dev : Fin 64) (step : Nat) (s : State),
      s.isMaster = true → (s.tether.settle.all fun x => !x.zeroing && x.awaited != []) = true →
      exec (.settle dev step) s = .next (s)) ∧
  (∀ (dev : Fin 64) (step : Nat) (x : SettleRun) (s : State),
      s.isMaster = true → s.tether.settle = some x → x.zeroing = false → x.awaited = [] →
      exec (.settle dev step) s = .next (
        let y : SettleRun := { x with zeroing := true, awaited := (s.survivors.filter (· ≠ s.reg Reg.DEV_NUM)), before
                                        := s.fabric.lastRound }
        let s2 := (s.survivors.filter (· ≠ s.reg Reg.DEV_NUM)).foldl (fun s d => s.emit (.ctrl d "SETTLE" 0))
          (s.zeroCounts.modTether fun t => { t with settle := some y })
        if (s.survivors.filter (· ≠ s.reg Reg.DEV_NUM)) = [] then s2.endSettle y else s2)) ∧
  (∀ (dev : Fin 64) (step : Nat) (x : SettleRun) (s : State),
      s.isMaster = true → s.tether.settle = some x → x.zeroing = true →
      exec (.settle dev step) s =
        .next (if x.awaited.filter (· ≠ dev.val) = [] then s.endSettle x else s.settleHeard dev.val)) ∧
  (∀ (x : SettleRun) (s : State),
      s.tether.settle = some x → x.zeroing = false → x.awaited ≠ [] →
      x.since + s.reg Reg.SETTLE_MAX_US * 1000 ≤ s.now →
      exec (.settleTimeout) s = .next (
        (((((s.setReg Reg.FABRIC_STATE 1).endRuns).modTether fun t => { t with settle := none }).logFault
          { cls := .countSettle, sev := some .fatal, status := .timeout, ref := x.deficit }).setError 0 true).dump 1)) ∧
  (∀ (s : State),
      (s.tether.settle.all fun x => x.zeroing || x.awaited == [] || decide (s.now < x.since + s.reg Reg.SETTLE_MAX_US
        * 1000)) = true →
      exec (.settleTimeout) s = .next (s)) ∧
  (∀ (dev : Fin 64) (s : State),
      ((Assoc.get? dev.val s.tether.unreached).all fun t => decide (s.now < t + s.reg Reg.DEV_LOST_US * 1000)) = true
        →
      exec (.deviceLost dev) s = .next (s)) ∧
  (∀ (dev : Fin 64) (at' : Nat) (s : State),
      Assoc.get? dev.val s.tether.unreached = some at' → at' + s.reg Reg.DEV_LOST_US * 1000 ≤ s.now →
      exec (.deviceLost dev) s = .next (
        let d := dev.val
        let s1 := s.modTether fun t => { t with lost := t.lost ++ [d], unreached := Assoc.erase d t.unreached }
        let s2 := ((s1.purgeGateways d).loseHomes (s.hitchesHomedOn d)).modFabric fun f =>
          { f with flights := f.flights.map fun x => { x with status := x.status.worse .degraded } }
        let s3 := (s2.logFault { cls := .deviceLost, sev := some .error, status := .degraded, ref := d }).emcy 0x8100
          .degraded 4 d
        if d = 0 then s3.setReg Reg.FABRIC_STATE 2
        else if s.isMaster ∧ s.reg Reg.HARNESS_STATE = 2 then (s3.settleHeard d).startSettle 0
        else s3)) ∧
  (∀ (ecc : Bool) (s : State),
      s.power.off = false → 2 ≤ s.reg Reg.BRINGUP_STAGE % 128 →
      exec (.saddleWatchdog ecc) s = .next (s.saddleRestart .watchdog (if ecc then .eccUncorr else .ok))) ∧
  (∀ (ecc : Bool) (s : State),
      (s.power.off = true ∨ s.reg Reg.BRINGUP_STAGE % 128 < 2) →
      exec (.saddleWatchdog ecc) s = .next (s)) ∧
  (∀ (s : State),
      s.power.off = false → 2 ≤ s.reg Reg.BRINGUP_STAGE % 128 →
      exec (.bridleCheck true) s = .next (s.saddleRestart .security)) ∧
  (∀ (differs : Bool) (s : State),
      (differs = false ∨ s.power.off = true ∨ s.reg Reg.BRINGUP_STAGE % 128 < 2) →
      exec (.bridleCheck differs) s = .next (s)) ∧
  (∀ (s : State),
      s.power.off = false →
      exec (.bridleWatchdog) s = .next (s.bridleReset)) ∧
  (∀ (s : State),
      s.power.off = true →
      exec (.bridleWatchdog) s = .next (s))

/-- When a command c stands at the front of the waiting commands, a step is exec of c on the state with the rest of the
  queue, and putting c in front of any state runs exec of c on that state. With no command waiting, device time moves
  on by 10 ns, the step clock with it unless sleep has frozen it; the messages that an Ethernet port holds back are
  sent where its pause has ended by then, and kept where it has not; nothing else changes. That a step on an empty
  queue passes one cycle of the reference clock is the model's choice (log entry 3). -/
def Obligations.StepRunsTheFront : Prop :=
  (∀ (c : Instr) (l : List Instr) (s : State),
      s.pending = c :: l →
      step s = exec c { s with pending := l }) ∧
  (∀ (c : Instr) (s : State),
      step { s with pending := c :: s.pending } = exec c s) ∧
  (∀ (s : State),
      s.pending = [] →
      step s = .next s.idle ∧ s.idle.now = s.now + 10 ∧ s.idle.clock = (if s.timersFrozen then s.clock else s.clock +
        10) ∧
          { s.idle with now := s.now, clock := s.clock, out := s.out, txHeld := s.txHeld } = s) ∧
  (∀ (s : State),
      let sent (k : Nat) : List OutMsg :=
        if (Assoc.getD s.intake k {}).txUntil ≤ s.now + 10 then Assoc.getD s.txHeld k [] else []
      s.idle.out = s.out ++ sent 4 ++ sent 5) ∧
  (∀ (s : State) (k : Nat),
      Assoc.get? k s.idle.txHeld =
          if (k = 4 ∨ k = 5) ∧ (Assoc.getD s.intake k {}).txUntil ≤ s.now + 10 then none else Assoc.get? k s.txHeld)

/-- After reset no command waits, memory lists nothing and so has its canonical form, the fault log and the combining
  table are empty, and the invariant holds. -/
def Obligations.ResetMeetsInvariant : Prop :=
      State.reset.inv = true ∧ State.reset.pending = [] ∧ State.reset.mem = [] ∧ State.reset.flog = [] ∧
        State.reset.comb = []

/-- Every object of the dictionary reads the default of its table row; THETA is 4096, the Brace limit 10 ms, the governor
  limit 50,000 mW and NODE_ID 0x7F. Every queue is UNBOUND with pointers 0 and their complements, every Hitch counts 0
  with no target, every window is OFF, every engine is enabled and executes nothing. -/
def Obligations.ResetValues : Prop :=
  (∀ (o : Obj),
      State.reset.reg o = o.dflt) ∧
  (
      State.reset.reg (Reg.THETA 7) = 4096 ∧ State.reset.reg Reg.BRACE_MAX_MS = 10 ∧ State.reset.reg Reg.GOV_LIMIT_MW
        = 50000 ∧ State.reset.reg Reg.NODE_ID = 0x7F) ∧
  (∀ (q h w e : Nat) (b : Nat),
      (State.reset.queue q).qstate = .unbound ∧ (State.reset.queue q).count = 0 ∧ (State.reset.queue q).mismatch =
        false ∧ (State.reset.hitch h).count = 0 ∧ (State.reset.hitch h).target = 0 ∧ (State.reset.window b w).mode =
        .off ∧ (State.reset.engine e).st = .enabled ∧ (State.reset.engine e).running = none)

/-- A wrapping counter (U64) raised by n holds the sum modulo 2^64; a saturating counter of w bits holds the least of the
  sum and 2^w - 1, so that one at its maximum stays there; every counter is the one or the other by its type and
  states its width by it. No other object changes and no fault is recorded. -/
def Obligations.CountersSaturateOrWrap : Prop :=
  (∀ (o : Obj) (n : Nat) (s : State),
      o.ty = .u64 →
      (s.bumpBy o n).reg o = (s.reg o + n) % 2 ^ 64) ∧
  (∀ (o : Obj) (n : Nat) (s : State),
      o.ty ≠ .u64 →
      (s.bumpBy o n).reg o = min (s.reg o + n) (2 ^ (8 * o.ty.bytes) - 1)) ∧
  (∀ (o : Obj) (n : Nat) (s : State),
      o.ty ≠ .u64 → s.reg o = 2 ^ (8 * o.ty.bytes) - 1 →
      (s.bumpBy o n).reg o = s.reg o) ∧
  (∀ (o p : Obj) (n : Nat) (s : State),
      o.key ≠ p.key →
      (s.bumpBy o n).reg p = s.reg p ∧ (s.bumpBy o n).flog = s.flog ∧ (s.bumpBy o n).mem = s.mem)

/-- For 1 <= dt <= 63 the factor starts from 0x8000 (1.0 in Q1.15); for each bit of dt from 5 down to 0 it is squared and
  rounded by 15, and where the bit is 1 multiplied by tau and rounded by 15 again. -/
def Obligations.TraceFactor : Prop :=
  ∀ (tau dt : Nat),
      1 ≤ dt → dt ≤ 63 →
      let round (f : Int) (b : Nat) : Int :=
        if dt.testBit b then rnd (rnd (f * f) 15 * tau) 15 else rnd (f * f) 15
      tracePower tau dt = round (round (round (round (round (round 0x8000 5) 4) 3) 2) 1) 0

/-- rnd(x, 0) is x. For s > 0 the rounded value lies within half a unit of x / 2^s, and where it lies exactly half a unit
  away it is farther from zero than x / 2^s. -/
def Obligations.RoundingIsToNearest : Prop :=
  (∀ (x : Int),
      rnd x 0 = x) ∧
  (∀ (x : Int) (s : Nat),
      0 < s →
      2 * (rnd x s * 2 ^ s - x).natAbs ≤ 2 ^ s) ∧
  (∀ (x : Int) (s : Nat),
      0 < s → 2 * (rnd x s * 2 ^ s - x).natAbs = 2 ^ s →
      x.natAbs < (rnd x s * 2 ^ s).natAbs)

/-- Every read or write by any master of an address outside every region, LPDDR5X beyond the usable capacity included,
  completes once it has arrived, after however many retries of its hops: the response carries BAD_FORMAT and, of a
  read, zero data; memory, queues, Hitches, windows, tiles, the waiting commands and every object but the counters
  BADADDR, FLOG_OVERWRITE and CTRL_RETRY stay as they were; the newest entry of the fault log holds the address and
  the code of the requesting master. -/
def Obligations.AccessOutsideEveryRegion : Prop :=
  (∀ (m : Master) (a k : Nat) (acc : Access) (x : Ecc) (s : State),
      regionOf s.variant a = .nothing →
      ∃ t, exec (.addressAccess m a acc x (.arrives k)) s = .next t ∧ t.resp.status = .badFormat ∧
          (∀ n, acc = .read n → t.resp.data = List.replicate n 0) ∧
          t.mem = s.mem ∧ t.queues = s.queues ∧ t.hitches = s.hitches ∧ t.windows = s.windows ∧ t.tiles = s.tiles ∧
          t.pending = s.pending ∧
          (∀ o : Obj, o.key ≠ Reg.BADADDR.key → o.key ≠ Reg.FLOG_OVERWRITE.key → o.key ≠ Reg.CTRL_RETRY.key → t.reg o
            = s.reg o) ∧
          (∃ e, t.flog.getLast? = some e ∧ e.ref = a % 2 ^ 48 ∧ e.unit = masterCode m ∧ e.status = .badFormat ∧
            e.cls = .security)) ∧
  (∀ (v : Variant) (a : Nat),
      ddrBase + v.usable ≤ a →
      regionOf v a = .nothing)

/-- Every read or write of the Tack Room, of any width and alignment, that a master other than the Bridle, the Crypto
  engine and the Saddle makes completes once it has arrived: the response carries SECURITY and, of a read, zero data,
  whatever the Tack Room holds; no byte of the Tack Room changes; the attempt is recorded in the fault log with
  address and master. An attempt by the Saddle is counted and recorded alike, the Bridle restarts the Saddle, and the
  response is the same. The two masters that reach the Tack Room are the Bridle and the Crypto engine. -/
def Obligations.TackRoomIsDenied : Prop :=
  (∀ (m : Master) (a n off k : Nat) (x : Ecc) (s : State),
      regionOf s.variant a = .tack off → reachesTack m = false → m ≠ .saddle →
      ∃ t, exec (.addressAccess m a (.read n) x (.arrives k)) s = .next t ∧ t.resp.status = .security ∧ t.resp.data =
        List.replicate n 0 ∧
          (∀ i, tackBase ≤ i → i < tackBase + tackSize → t.byteAt i = s.byteAt i) ∧
          (∃ e ∈ t.flog, e.ref = a % 2 ^ 48 ∧ e.status = .security ∧ e.cls = .security ∧ e.unit = masterCode m)) ∧
  (∀ (m : Master) (a off k : Nat) (data : List Byte) (x : Ecc) (s : State),
      regionOf s.variant a = .tack off → reachesTack m = false → m ≠ .saddle →
      ∃ t, exec (.addressAccess m a (.write data) x (.arrives k)) s = .next t ∧ t.resp.status = .security ∧
          (∀ i, tackBase ≤ i → i < tackBase + tackSize → t.byteAt i = s.byteAt i) ∧
          (∃ e ∈ t.flog, e.ref = a % 2 ^ 48 ∧ e.status = .security ∧ e.cls = .security ∧ e.unit = masterCode m)) ∧
  (∀ (a n off k : Nat) (x : Ecc) (s : State),
      regionOf s.variant a = .tack off →
      exec (.addressAccess .saddle a (.read n) x (.arrives k)) s =
        .next ((((s.bumpBy Reg.CTRL_RETRY k).deny Reg.TACK_DENIED .saddle .security a n).saddleRestart .security
          .security).respond .security (List.replicate n 0))) ∧
  (∀ (a off k : Nat) (data : List Byte) (x : Ecc) (s : State),
      regionOf s.variant a = .tack off →
      exec (.addressAccess .saddle a (.write data) x (.arrives k)) s =
        .next ((((s.bumpBy Reg.CTRL_RETRY k).deny Reg.TACK_DENIED .saddle .security a data.length).saddleRestart
          .security .security).respond .security)) ∧
  (∀ (m : Master),
      reachesTack m = true ↔ (m = .bridle ∨ ∃ q, m = .engine .crypto q))

/-- Where an arrival merges with an entry of the combine buffer or splits one, its CLS is 00 or 01 and selected in
  COMBINE_CLS, its payload passed its check, and an open entry agrees with it in DEV, CLU, TILE, ROW, DLY, STEP, CLS,
  E and origin kind, and in VAL too for a spike. Error events, service events and events whose payload failed its
  check never merge: they take an entry of their own that stays closed to merging. -/
def Obligations.EventsMergeOnlyWhereTheyAgree : Prop :=
  (∀ (s : State) (l : List CombineEntry) (ev : Event) (a : Arrival),
      arrive (s.mergeable ev) l ev = some a → (a.merged = true ∨ a.split = true) →
      (ev.cls = 0 ∨ ev.cls = 1) ∧ natBit (s.inForce Reg.COMBINE_CLS) ev.cls = true ∧ ev.payBad = false ∧
          ∃ x ∈ l, x.isOpen = true ∧ x.ev.dev = ev.dev ∧ x.ev.clu = ev.clu ∧ x.ev.tile = ev.tile ∧ x.ev.row = ev.row ∧
            x.ev.dly = ev.dly ∧ x.ev.step = ev.step ∧ x.ev.cls = ev.cls ∧ x.ev.e = ev.e ∧ x.ev.stream = ev.stream ∧
            (ev.cls = 0 → x.ev.val = ev.val)) ∧
  (∀ (s : State) (l : List CombineEntry) (ev : Event) (a : Arrival),
      (2 ≤ ev.cls ∨ ev.payBad = true) → arrive (s.mergeable ev) l ev = some a →
      a.merged = false ∧ a.split = false ∧ a.entries = l ++ [⟨ev, false, 0⟩])

/-- A push to a DATA or COMMAND queue with room, by a master with the right, completes OK: ring entry WP reads as the
  entry pushed, WP is one further with both copies in agreement, RP stays, every byte outside the 32 stored reads as
  before, every other queue is as it was, and memory keeps its canonical form. -/
def Obligations.PushStoresTheEntry : Prop :=
  ∀ (m : Master) (q : QueueId) (e : Entry) (s : State),
      s.canonical = true → ¬ (m = .saddle ∧ isBridleQueue q.val = true) → (s.queue q.val).mismatch = false →
      ((s.queue q.val).kind = .data ∨ (s.queue q.val).kind = .command) → (s.queue q.val).qstate ≠ .unbound →
      (s.queue q.val).qstate ≠ .closed → mayProduce m q.val (s.queue q.val) = true → (s.queue q.val).isFull = false →
      ∃ t, exec (.push m q e .clean) s = .next t ∧ t.resp.status = .ok ∧
          t.queueEntry (s.queue q.val) (s.queue q.val).wpA = e ∧
          (t.queue q.val).wpA = (s.queue q.val).wpA + 1 ∧ (t.queue q.val).rpA = (s.queue q.val).rpA ∧ (t.queue
            q.val).mismatch = false ∧
          (∀ a, a < (s.queue q.val).entryAddr (s.queue q.val).wpA ∨ (s.queue q.val).entryAddr (s.queue q.val).wpA + 32
            ≤ a → t.byteAt a = s.byteAt a) ∧
          (∀ p, p ≠ q.val → t.queue p = s.queue p) ∧ t.canonical = true

/-- An aligned write of an allowed width into Commons completes OK; a read of the same address and width by any master
  that the region admits then answers OK with the bytes written; every byte outside those written reads as before, and
  memory keeps its canonical form. -/
def Obligations.CommonsReadAfterWrite : Prop :=
  ∀ (m m' : Master) (a : Nat) (k off : Nat) (data : List Byte) (s : State),
      s.canonical = true → regionOf s.variant a = .commons k off → data.length ∈ [4, 8, 16, 32, 64] →
      a % data.length = 0 → (a < firmwareArea ∨ (reachesFirmware m = true ∧ reachesFirmware m' = true)) →
      ∃ t, exec (.addressAccess m a (.write data) .clean (.arrives 0)) s = .next t ∧ t.resp.status = .ok ∧
          exec (.addressAccess m' a (.read data.length) .clean (.arrives 0)) t = .next (t.respond .ok data) ∧
          (∀ i, i < a ∨ a + data.length ≤ i → t.byteAt i = s.byteAt i) ∧ t.canonical = true

/-- An entry takes the next sequence number (after 0xFFFFFFFF comes 1), the step clock as TIME, STEP_RELEASED as STEP, and
  the low 48 bits of REF. While fewer than 1,024 entries are held it is appended and no object changes; in a full ring
  the oldest entry goes and FLOG_OVERWRITE counts. Memory stays as it was. -/
def Obligations.FaultLogRing : Prop :=
  (∀ (n : FaultNote) (s : State),
      s.flog.length < 1024 →
      ∃ e, (s.logFault n).flog = s.flog ++ [e] ∧ e.seq = nextSeq s.flogSeq ∧ (s.logFault n).flogSeq = e.seq ∧
          e.status = n.status ∧ e.cls = n.cls ∧ e.time = s.clock ∧ e.step = s.reg Reg.STEP_RELEASED ∧
          e.ref = n.ref % 2 ^ 48 ∧ (s.logFault n).regs = s.regs ∧ (s.logFault n).mem = s.mem) ∧
  (∀ (n : FaultNote) (s : State),
      s.flog.length = 1024 →
      ∃ e, (s.logFault n).flog = s.flog.drop 1 ++ [e] ∧ e.seq = nextSeq s.flogSeq ∧
          (s.logFault n).flog.length = 1024 ∧
          (s.logFault n).reg Reg.FLOG_OVERWRITE = Reg.FLOG_OVERWRITE.ty.count (s.reg Reg.FLOG_OVERWRITE) 1 ∧
          (s.logFault n).mem = s.mem) ∧
  (
      nextSeq 0 = 1 ∧ nextSeq 0xFFFFFFFF = 1 ∧ nextSeq 41 = 42)

/-- A command that asks for a record, or whose status is not OK, and whose completion queue is open with room and agreeing
  pointers: the entry at the completion queue's WP is the record of R206, with OPC, STATUS, engine, TAG and queue, WP
  moves on by one, the command's queue has one command fewer outstanding, and every byte outside the 32 stored reads
  as before. A completion queue without room leaves the record held by the engine and memory as it was. -/
def Obligations.CompletionRecord : Prop :=
  (∀ (n : Nat) (r : RunCmd) (st : Status) (aux result ext : Nat) (s : State),
      s.canonical = true → isFirmwareQueue r.queue = false → (s.queue r.queue).link ≠ r.queue →
      (cmdCmpl r.cmd = true ∨ st ≠ .ok) → s.recordRefused r = false →
      (s.queue (s.queue r.queue).link).isFull = false → (s.queue (s.queue r.queue).link).mismatch = false →
      ((s.engine n).held.any fun h => h.run.queue == r.queue) = false →
      let c := (s.queue r.queue).link
      let t := s.complete n r st aux result ext
      t.queueEntry (s.queue c) (s.queue c).wpA = completionEntry r n st aux result ext ∧
        (t.queue c).wpA = (s.queue c).wpA + 1 ∧
        (t.queue r.queue).outstanding = (s.queue r.queue).outstanding - 1 ∧
        (∀ a, a < (s.queue c).entryAddr (s.queue c).wpA ∨ (s.queue c).entryAddr (s.queue c).wpA + 32 ≤ a →
          t.byteAt a = s.byteAt a) ∧
        t.canonical = true) ∧
  (∀ (n : Nat) (r : RunCmd) (st : Status) (aux result ext : Nat) (s : State),
      isFirmwareQueue r.queue = false → (s.queue r.queue).link ≠ r.queue → (cmdCmpl r.cmd = true ∨ st ≠ .ok) →
      s.recordRefused r = false → (s.queue (s.queue r.queue).link).isFull = true →
      let t := s.complete n r st aux result ext
      (t.engine n).held = (s.engine n).held ++ [⟨r, completionEntry r n st aux result ext, s.now⟩] ∧
        t.queue (s.queue r.queue).link = s.queue (s.queue r.queue).link ∧ t.mem = s.mem)

/-- In every state a step answers a next state: what the part refuses it answers with a status, a count, a fault-log entry
  or a record, all of which are state. -/
def Obligations.EveryStepAnswers : Prop :=
  ∀ (s : State),
      ∃ t, step s = .next t

/-- Whatever command runs, and in whatever state, the list of waiting commands and the variant of the part are after it
  what they were before it. -/
def Obligations.CommandsKeepTheQueue : Prop :=
  ∀ (c : Instr) (s t : State),
      exec c s = .next t →
      t.pending = s.pending ∧ t.variant = s.variant

/-- In every state that meets the invariant, reachable or not, and whatever command stands at the front, the state after
  the step meets it: memory lists its addresses in rising order without a blank byte, the fault log holds at most
  1,024 entries and the combining table at most 4,096. -/
def Obligations.EveryStepKeepsTheInvariant : Prop :=
  ∀ (s t : State),
      s.inv = true → step s = .next t →
      t.inv = true

/-- Each of the 25 commands that an engine executes for its own queue (STEP, GAIT, LEARN_EPOCH, FRC_INVALIDATE,
  CHECKPOINT, RESTORE, LOAD_SEGMENT, HARNESS_LOAD, HARNESS_UNLOAD, GEMM, CONV, MOVE, FILL, GROUP_DEF, GROUP_CLEAR,
  TILESTAT, MAP_LOAD, ARM, DISARM, GCM_SEAL, GCM_OPEN, SHA384, ECDSA_SIGN, ECDSA_VERIFY, XTS_KEYSET) leaves the state
  as it was while its engine executes no command of that opcode, which is the model's choice for a command out of turn
  (log entry 7). -/
def Obligations.EngineCommandsNotRunning : Prop :=
  (∀ (b : Bool) (s : State),
      s.runningOp 0 .step = none →
      exec (.step b) s = .next (s)) ∧
  (∀ (s : State),
      s.runningOp 0 .gait = none →
      exec (.gait) s = .next (s)) ∧
  (∀ (s : State),
      s.runningOp 0 .learnEpoch = none →
      exec (.learnEpoch) s = .next (s)) ∧
  (∀ (s : State),
      s.runningOp 6 .frcInvalidate = none →
      exec (.frcInvalidate) s = .next (s)) ∧
  (∀ (others : Status) (s : State),
      s.runningOp 0 .checkpoint = none →
      exec (.checkpoint (.own others)) s = .next (s)) ∧
  (∀ (others : Status) (s : State),
      s.runningOp 0 .restore = none →
      exec (.restore (.own others)) s = .next (s)) ∧
  (∀ (others : Status) (s : State),
      s.runningOp 0 .loadSegment = none →
      exec (.loadSegment (.own others)) s = .next (s)) ∧
  (∀ (s : State),
      s.runningOp 0 .harnessLoad = none →
      exec (.harnessLoad) s = .next (s)) ∧
  (∀ (s : State),
      s.runningOp 0 .harnessUnload = none →
      exec (.harnessUnload) s = .next (s)) ∧
  (∀ (s : State),
      s.runningOp 1 .gemm = none →
      exec (.denseGemm) s = .next (s)) ∧
  (∀ (s : State),
      s.runningOp 1 .conv = none →
      exec (.denseConv) s = .next (s)) ∧
  (∀ (bad : List Nat) (s : State),
      s.runningOp 2 .move = none →
      exec (.move bad) s = .next (s)) ∧
  (∀ (s : State),
      s.runningOp 2 .fill = none →
      exec (.fill) s = .next (s)) ∧
  (∀ (s : State),
      s.runningOp 4 .groupDef = none →
      exec (.groupDef) s = .next (s)) ∧
  (∀ (s : State),
      s.runningOp 4 .groupClear = none →
      exec (.groupClear) s = .next (s)) ∧
  (∀ (s : State),
      s.runningOp 4 .tilestat = none →
      exec (.tilestat) s = .next (s)) ∧
  (∀ (s : State),
      s.runningOp 3 .mapLoad = none →
      exec (.mapLoad) s = .next (s)) ∧
  (∀ (s : State),
      s.runningOp 3 .arm = none →
      exec (.arm) s = .next (s)) ∧
  (∀ (s : State),
      s.runningOp 3 .disarm = none →
      exec (.disarm) s = .next (s)) ∧
  (∀ (s : State),
      s.runningOp 5 .gcmSeal = none →
      exec (.gcmSeal) s = .next (s)) ∧
  (∀ (s : State),
      s.runningOp 5 .gcmOpen = none →
      exec (.gcmOpen) s = .next (s)) ∧
  (∀ (s : State),
      s.runningOp 5 .sha384 = none →
      exec (.sha384) s = .next (s)) ∧
  (∀ (s : State),
      s.runningOp 5 .ecdsaSign = none →
      exec (.ecdsaSign) s = .next (s)) ∧
  (∀ (s : State),
      s.runningOp 5 .ecdsaVerify = none →
      exec (.ecdsaVerify) s = .next (s)) ∧
  (∀ (s : State),
      s.runningOp 5 .xtsKeyset = none →
      exec (.xtsKeyset) s = .next (s))

/-- An alias write of 4 or 8 aligned bytes below offset 0x78000 sets, or clears, in its control word the bits of its mask,
  counted in ALIAS_OPS; at a window control block it is BAD_FORMAT; of another width or alignment BAD_FORMAT, counted
  and recorded. A neuron word that the tile holds is written between fabric operations with DEAD kept, noting a
  plastic row that shares its bytes; it is refused and counted during a fabric operation, and where it would change
  PRECISE or whether the neuron is tonic; a fenced tile answers DEGRADED, counted; of a neuron that the tile does not
  hold the write is BAD_FORMAT. A table region of a tile window, or a far row directory, is written between fabric
  operations, and refused and counted during one. An address in neither is no such write. Both writes into a tile
  window are for masters that R26 lets reach tiles; another is answered SECURITY. The scrubber reads one line of
  trained LPDDR5X, counts a corrected or uncorrectable one, records the latter, and counts a pass at the last line;
  elsewhere it does nothing. -/
def Obligations.AliasNeuronTableAndScrub : Prop :=
  (∀ (m : Master) (addr : Nat) (data : List Byte) (s : State),
      (data.length = 4 ∨ data.length = 8) → addr % data.length = 0 → addr % 0x80000 < 0x78000 →
      exec (.setAliasWrite m addr data) s = .next (
        let a := controlBase + addr % 0x80000
        let old := BitVec.ofNat 64 (s.word a data.length)
        let mask := BitVec.ofNat 64 (leNat data)
        ((s.setWord a data.length (old ||| mask).toNat).bump Reg.ALIAS_OPS).respond .ok)) ∧
  (∀ (m : Master) (addr : Nat) (data : List Byte) (s : State),
      (data.length = 4 ∨ data.length = 8) → addr % data.length = 0 → 0x78000 ≤ addr % 0x80000 →
      exec (.setAliasWrite m addr data) s = .next (s.respond .badFormat)) ∧
  (∀ (m : Master) (addr : Nat) (data : List Byte) (s : State),
      ¬ ((data.length = 4 ∨ data.length = 8) ∧ addr % data.length = 0) →
      exec (.setAliasWrite m addr data) s = .next (
        ((s.bumpBy Reg.BADADDR (linesOf (0x5000000 + addr % 0x80000) data.length)).logFault {
          cls := .security, status := .badFormat, sev := some .info, unit := masterCode m, ref := 0x5000000 + addr %
            0x80000 }).respond .badFormat)) ∧
  (∀ (m : Master) (addr : Nat) (data : List Byte) (s : State),
      (data.length = 4 ∨ data.length = 8) → addr % data.length = 0 → addr % 0x80000 < 0x78000 →
      exec (.clearAliasWrite m addr data) s = .next (
        let a := controlBase + addr % 0x80000
        let old := BitVec.ofNat 64 (s.word a data.length)
        let mask := BitVec.ofNat 64 (leNat data)
        ((s.setWord a data.length (old &&& ~~~mask).toNat).bump Reg.ALIAS_OPS).respond .ok)) ∧
  (∀ (m : Master) (addr : Nat) (data : List Byte) (s : State),
      (data.length = 4 ∨ data.length = 8) → addr % data.length = 0 → 0x78000 ≤ addr % 0x80000 →
      exec (.clearAliasWrite m addr data) s = .next (s.respond .badFormat)) ∧
  (∀ (m : Master) (addr : Nat) (data : List Byte) (s : State),
      ¬ ((data.length = 4 ∨ data.length = 8) ∧ addr % data.length = 0) →
      exec (.clearAliasWrite m addr data) s = .next (
        ((s.bumpBy Reg.BADADDR (linesOf (0x6000000 + addr % 0x80000) data.length)).logFault {
          cls := .security, status := .badFormat, sev := some .info, unit := masterCode m, ref := 0x6000000 + addr %
            0x80000 }).respond .badFormat)) ∧
  (∀ (m : Master) (c : ClusterId) (tl : TileId) (i : Fin 16384) (v : BitVec 64) (off : Nat) (s : State),
      i.val < (s.tile c.val tl.val).map.n →
      regionOf s.variant (s.neuronAddr c.val tl.val i.val) = .tile c.val tl.val off → off < 0x60000 →
      s.neuronAddr c.val tl.val i.val % 8 = 0 → s.tilePart c.val tl.val off = .neuron i.val → reachesTiles m = true →
      s.isFenced c.val tl.val = false → s.fabricBusy = false →
      (s.classAt (s.neuron c.val tl.val i.val).cls s.fabric.learned).precise = (s.classAt (Neuron.ofWord v.toNat).cls
        s.fabric.learned).precise →
      ((s.classAt (s.neuron c.val tl.val i.val).cls s.fabric.learned).bias = 0 ↔ (s.classAt (Neuron.ofWord
        v.toNat).cls s.fabric.learned).bias = 0) →
      exec (.neuronWordWrite m c tl i v) s =
        .next ((s.noted (s.setNeuron c.val tl.val i.val { Neuron.ofWord v.toNat with dead := (s.neuron c.val tl.val
                                                                                       i.val).dead }) (s.neuronAddr
          c.val tl.val i.val) 8).respond .ok)) ∧
  (∀ (m : Master) (c : ClusterId) (tl : TileId) (i : Fin 16384) (v : BitVec 64) (off : Nat) (s : State),
      i.val < (s.tile c.val tl.val).map.n →
      regionOf s.variant (s.neuronAddr c.val tl.val i.val) = .tile c.val tl.val off → off < 0x60000 →
      s.neuronAddr c.val tl.val i.val % 8 = 0 → s.tilePart c.val tl.val off = .neuron i.val → reachesTiles m = true →
      s.isFenced c.val tl.val = false →
      (s.fabricBusy = true ∨
             (s.classAt (s.neuron c.val tl.val i.val).cls s.fabric.learned).precise ≠ (s.classAt (Neuron.ofWord
               v.toNat).cls s.fabric.learned).precise ∨
             ¬ ((s.classAt (s.neuron c.val tl.val i.val).cls s.fabric.learned).bias = 0 ↔ (s.classAt (Neuron.ofWord
               v.toNat).cls s.fabric.learned).bias = 0)) →
      exec (.neuronWordWrite m c tl i v) s = .next ((s.bumpAt Reg.WIN_REFUSED c.val).respond .refused)) ∧
  (∀ (m : Master) (c : ClusterId) (tl : TileId) (i : Fin 16384) (v : BitVec 64) (off : Nat) (s : State),
      i.val < (s.tile c.val tl.val).map.n →
      regionOf s.variant (s.neuronAddr c.val tl.val i.val) = .tile c.val tl.val off → off < 0x60000 →
      s.neuronAddr c.val tl.val i.val % 8 = 0 → s.tilePart c.val tl.val off = .neuron i.val → reachesTiles m = true →
      s.isFenced c.val tl.val = true →
      exec (.neuronWordWrite m c tl i v) s = .next ((s.bump Reg.FENCED_WIN).respond .degraded)) ∧
  (∀ (m : Master) (c : ClusterId) (tl : TileId) (i : Fin 16384) (v : BitVec 64) (off : Nat) (s : State),
      i.val < (s.tile c.val tl.val).map.n →
      regionOf s.variant (s.neuronAddr c.val tl.val i.val) = .tile c.val tl.val off → off < 0x60040 →
      reachesTiles m = false →
      exec (.neuronWordWrite m c tl i v) s = .next (s.respond .security)) ∧
  (∀ (m : Master) (c : ClusterId) (tl : TileId) (i : Fin 16384) (v : BitVec 64) (s : State),
      (s.tile c.val tl.val).map.n ≤ i.val →
      exec (.neuronWordWrite m c tl i v) s = .next (s.respond .badFormat)) ∧
  (∀ (m : Master) (addr : Nat) (data : List Byte) (c : Nat) (tl : Nat) (off : Nat) (s : State),
      regionOf s.variant addr = .tile c tl off → s.tilePart c tl off = .tables → off < 0x60000 →
      (data.length = 4 ∨ data.length = 8) → addr % data.length = 0 → reachesTiles m = true → s.isFenced c tl = false →
      s.fabricBusy = false →
      exec (.rowTableWrite m addr data) s =
        .next ((s.noted (s.setBytes (sramAddr c tl off) data) addr data.length).respond .ok)) ∧
  (∀ (m : Master) (addr : Nat) (data : List Byte) (c : Nat) (tl : Nat) (off : Nat) (s : State),
      regionOf s.variant addr = .tile c tl off → s.tilePart c tl off = .tables → off < 0x60000 →
      (data.length = 4 ∨ data.length = 8) → addr % data.length = 0 → reachesTiles m = true → s.isFenced c tl = false →
      s.fabricBusy = true →
      exec (.rowTableWrite m addr data) s = .next ((s.bumpAt Reg.ROW_WIN_REFUSED c).respond .refused)) ∧
  (∀ (m : Master) (addr : Nat) (data : List Byte) (c : Nat) (tl : Nat) (off : Nat) (s : State),
      regionOf s.variant addr = .tile c tl off → s.tilePart c tl off = .tables → off < 0x60000 →
      (data.length = 4 ∨ data.length = 8) → addr % data.length = 0 → reachesTiles m = true → s.isFenced c tl = true →
      exec (.rowTableWrite m addr data) s = .next ((s.bump Reg.FENCED_WIN).respond .degraded)) ∧
  (∀ (m : Master) (addr : Nat) (data : List Byte) (c : Nat) (tl : Nat) (off : Nat) (s : State),
      regionOf s.variant addr = .tile c tl off → s.tilePart c tl off = .tables → off < 0x60000 →
      reachesTiles m = false →
      exec (.rowTableWrite m addr data) s = .next (s.respond .security)) ∧
  (∀ (m : Master) (addr : Nat) (data : List Byte) (c off : Nat) (s : State),
      regionOf s.variant addr = .ddr off → s.farDirOwner addr = some c → s.denial m true addr = none →
      data.length ∈ [8, 16, 32, 64] → addr % data.length = 0 → s.fabricBusy = false →
      exec (.rowTableWrite m addr data) s = .next ((s.setBytes addr data).respond .ok)) ∧
  (∀ (m : Master) (addr : Nat) (data : List Byte) (c off : Nat) (s : State),
      regionOf s.variant addr = .ddr off → s.farDirOwner addr = some c → s.denial m true addr = none →
      data.length ∈ [8, 16, 32, 64] → addr % data.length = 0 → s.fabricBusy = true →
      exec (.rowTableWrite m addr data) s = .next ((s.bumpAt Reg.ROW_WIN_REFUSED c).respond .refused)) ∧
  (∀ (m : Master) (addr : Nat) (data : List Byte) (s : State),
      s.tableAt addr = false →
      exec (.rowTableWrite m addr data) s = .next (s)) ∧
  (∀ (line : Nat) (ecc : Ecc) (s : State),
      s.reg Reg.DDR_STATE = 2 → line * 64 < s.variant.usable →
      exec (.patrolScrub line ecc) s = .next (
        let t := match ecc with
          | .clean => s
          | .corrected => s.bump Reg.DDR_CORR
          | .uncorrectable => (s.bump Reg.DDR_UNCORR).logFault
              { cls := .memUncorr, status := .eccUncorr, ref := ddrBase + line * 64 }
        if line * 64 + 64 = s.variant.usable then t.bump Reg.SCRUB_PASSES else t)) ∧
  (∀ (line : Nat) (ecc : Ecc) (s : State),
      (s.reg Reg.DDR_STATE ≠ 2 ∨ s.variant.usable ≤ line * 64) →
      exec (.patrolScrub line ecc) s = .next (s))

/-- Where the access may be made: CLASS_COMMIT of a valid staged entry that changes neither PRECISE nor whether the class
  is tonic puts it in use from the next released step; of an invalid one it is BAD_FORMAT and recorded with the class
  and the failing sub-index, of one that changes them REFUSED. CONSOL_NOW with 1 asks for a consolidation;
  RESTORE_DEFAULTS with the word "load" sets every RWP object to its default, lets the Reins follow and is answered
  with the commit; FLOG_CLEAR with 1 empties the fault log; DUMP_NOW with 1 takes a dump of reason 3; FARRIER_NOW with
  1 makes a re-plan due; ACCT_MODE_WRITE of 0 or 1 selects the mode, clears the 16 counters and begins their time
  anew; EMCY_HISTORY_CLEAR with 0 clears the 8 entries; REIN_OVERRIDE_WRITE of 0 to 2 sets the override, and in RUN
  the Rein of its port follows at once, asserted where its skid buffer stands at the mark. Every other value is
  BAD_FORMAT. -/
def Obligations.ObjectCommands : Prop :=
  (∀ (path : Path) (k : ClassId) (s : State),
      s.accessStatus path true (0x3100 + k.val) 0x20 = .ok → (s.stagedClass k.val).invalid = none →
      (s.stagedClass k.val).precise = (s.classAt k.val (s.reg Reg.STEP_RELEASED + 1)).precise →
      ((s.stagedClass k.val).bias = 0 ↔ (s.classAt k.val (s.reg Reg.STEP_RELEASED + 1)).bias = 0) →
      exec (.classCommit path k) s = .next (
        let n := s.reg Reg.STEP_RELEASED + 1
        let l := (Assoc.getD s.classes k.val []).filter fun x => x.1 ≠ n
        State.respond { s with
          classes := Assoc.set k.val ((n, s.stagedClass k.val) :: keepEntries (s.reg Reg.STEP_COMPLETE) l) s.classes }
            .ok)) ∧
  (∀ (path : Path) (k : ClassId) (sub : Nat) (s : State),
      s.accessStatus path true (0x3100 + k.val) 0x20 = .ok → (s.stagedClass k.val).invalid = some sub →
      exec (.classCommit path k) s =
        .next ((s.logFault { cls := .configReject, status := .badFormat, ref := packFields [(0, 32, k.val), (32, 8,
                               sub)] }).respond .badFormat)) ∧
  (∀ (path : Path) (k : ClassId) (s : State),
      s.accessStatus path true (0x3100 + k.val) 0x20 = .ok → (s.stagedClass k.val).invalid = none →
      ((s.stagedClass k.val).precise ≠ (s.classAt k.val (s.reg Reg.STEP_RELEASED + 1)).precise ∨ ¬ ((s.stagedClass
        k.val).bias = 0 ↔ (s.classAt k.val (s.reg Reg.STEP_RELEASED + 1)).bias = 0)) →
      exec (.classCommit path k) s = .next (s.respond .refused)) ∧
  (∀ (path : Path) (s : State),
      s.accessStatus path true 0x3500 8 = .ok →
      exec (.consolNow path 1) s = .next ((s.modLearning fun l => { l with consolWant := true }).respond .ok)) ∧
  (∀ (path : Path) (v : BitVec 8) (s : State),
      s.accessStatus path true 0x3500 8 = .ok → v ≠ 1 →
      exec (.consolNow path v) s = .next (s.respond .badFormat)) ∧
  (∀ (path : Path) (x : StoreVerify) (s : State),
      s.accessStatus path true 0x1011 1 = .ok →
      exec (.restoreDefaults path 0x64616F6C x) s =
        .next ((((List.range 6).foldl State.reinDrive s.defaultRwp).persistCommit x).2.respond (((List.range 6).foldl
          State.reinDrive s.defaultRwp).persistCommit x).1)) ∧
  (∀ (path : Path) (v : BitVec 32) (x : StoreVerify) (s : State),
      s.accessStatus path true 0x1011 1 = .ok → v ≠ 0x64616F6C →
      exec (.restoreDefaults path v x) s = .next (s.respond .badFormat)) ∧
  (∀ (path : Path) (s : State),
      s.accessStatus path true 0x7000 4 = .ok →
      exec (.flogClear path 1) s = .next (State.respond { s with flog := [] } .ok)) ∧
  (∀ (path : Path) (v : BitVec 8) (s : State),
      s.accessStatus path true 0x7000 4 = .ok → v ≠ 1 →
      exec (.flogClear path v) s = .next (s.respond .badFormat)) ∧
  (∀ (path : Path) (s : State),
      s.accessStatus path true 0x7020 3 = .ok →
      exec (.dumpNow path 1) s = .next ((s.dump 3).respond .ok)) ∧
  (∀ (path : Path) (v : BitVec 8) (s : State),
      s.accessStatus path true 0x7020 3 = .ok → v ≠ 1 →
      exec (.dumpNow path v) s = .next (s.respond .badFormat)) ∧
  (∀ (path : Path) (s : State),
      s.accessStatus path true 0x2330 2 = .ok →
      exec (.farrierNow path 1) s =
        .next (State.respond { s with power := { s.power with planDue := some (s.power.planDue.getD s.now) } } .ok)) ∧
  (∀ (path : Path) (v : BitVec 8) (s : State),
      s.accessStatus path true 0x2330 2 = .ok → v ≠ 1 →
      exec (.farrierNow path v) s = .next (s.respond .badFormat)) ∧
  (∀ (path : Path) (v : BitVec 8) (s : State),
      s.accessStatus path true 0x2100 0x19 = .ok → v.toNat ≤ 1 →
      ∃ t, exec (.acctModeWrite path v) s = .next t ∧ t.reg Reg.ACCT_MODE = v.toNat ∧ (∀ i : Fin 16, t.reg (Reg.ACCT
        i.val) = 0) ∧ t = { s with regs := t.regs, resp := ⟨.ok, []⟩, power := { s.power with acctNs := [0, 0, 0, 0,
                                                                                                0, 0], acctFrom :=
                                                                                                s.now } }) ∧
  (∀ (path : Path) (v : BitVec 8) (s : State),
      s.accessStatus path true 0x2100 0x19 = .ok → 1 < v.toNat →
      exec (.acctModeWrite path v) s = .next (s.respond .badFormat)) ∧
  (∀ (path : Path) (s : State),
      s.accessStatus path true 0x1003 0 = .ok →
      ∃ t, exec (.emcyHistoryClear path 0) s = .next t ∧ (∀ i : Fin 8, t.reg (Reg.EMCY_HISTORY i.val) = 0) ∧ t = { s
        with regs := t.regs, resp := ⟨.ok, []⟩ }) ∧
  (∀ (path : Path) (v : BitVec 8) (s : State),
      s.accessStatus path true 0x1003 0 = .ok → v ≠ 0 →
      exec (.emcyHistoryClear path v) s = .next (s.respond .badFormat)) ∧
  (∀ (path : Path) (p : PortId) (v : BitVec 8) (s : State),
      s.accessStatus path true (0x2710 + p.val) 6 = .ok → v.toNat ≤ 2 → s.reg Reg.PWR_STATE = 0 →
      exec (.reinOverrideWrite path p v) s =
        .next ((((s.setReg (Reg.REIN_OVERRIDE p.val) v.toNat).reinAssert p.val).reinDrive p.val).respond .ok)) ∧
  (∀ (path : Path) (p : PortId) (v : BitVec 8) (s : State),
      s.accessStatus path true (0x2710 + p.val) 6 = .ok → v.toNat ≤ 2 → s.reg Reg.PWR_STATE ≠ 0 →
      exec (.reinOverrideWrite path p v) s = .next ((s.setReg (Reg.REIN_OVERRIDE p.val) v.toNat).respond .ok)) ∧
  (∀ (path : Path) (p : PortId) (v : BitVec 8) (s : State),
      s.accessStatus path true (0x2710 + p.val) 6 = .ok → 2 < v.toNat →
      exec (.reinOverrideWrite path p v) s = .next (s.respond .badFormat))

/-- Where the access may be made, a write of PER or CMP is direct under DIRECT, else a preload; of GCTRL with reserved
  bits set it is BAD_FORMAT, with EN 0 it clears CNT and what is pending, with EN 1 it takes effect, the ticks of a
  timer not yet enabled counting from now. A tick of an enabled timer that is due, with the match and wrap of the one
  before taken, counts CNT up, or wraps it where it has reached PER, and finds a match where the new CNT is CMP within
  PER, or where PER was shortened below CNT. GT_MATCH sets MATF, and PER_SHORT after a shortened period, moves CMP on
  by IVL modulo the period under AUTO unless CMP was written in the tick, and signals its Hitch under HITCH_EN;
  GT_WRAP, after the match, sets WRAPF and copies the preloads that are pending and not written in the cycle of the
  wrap. The make-up in RUN, from the first slow-clock edge after the wake, adds the time slept to the step clock,
  keeping the rest, counts it, and advances every enabled timer by the ticks that passed. A command whose tick, match,
  wrap or make-up is not due changes nothing. -/
def Obligations.GeneralTimers : Prop :=
  (∀ (path : Path) (k : TimerId) (v : BitVec 32) (s : State),
      s.accessStatus path true (0x2210 + k.val) 2 = .ok → s.bit (Reg.GCTRL k.val) 1 = true →
      exec (.timerPerWrite path k v) s = .next ((s.setReg (Reg.PER k.val) v.toNat).respond .ok)) ∧
  (∀ (path : Path) (k : TimerId) (v : BitVec 32) (s : State),
      s.accessStatus path true (0x2210 + k.val) 2 = .ok → s.bit (Reg.GCTRL k.val) 1 = false →
      exec (.timerPerWrite path k v) s =
        .next (((s.setTimer k.val { s.timer k.val with perPl := v.toNat, perLate := (s.timer k.val).wrapped }).setBit
          (Reg.GSTAT k.val) 4 true).respond .ok)) ∧
  (∀ (path : Path) (k : TimerId) (v : BitVec 32) (s : State),
      s.accessStatus path true (0x2210 + k.val) 3 = .ok → s.bit (Reg.GCTRL k.val) 1 = true →
      exec (.timerCmpWrite path k v) s =
        .next (((s.setReg (Reg.CMP k.val) v.toNat).setTimer k.val { s.timer k.val with cmpWritten := true }).respond
          .ok)) ∧
  (∀ (path : Path) (k : TimerId) (v : BitVec 32) (s : State),
      s.accessStatus path true (0x2210 + k.val) 3 = .ok → s.bit (Reg.GCTRL k.val) 1 = false →
      exec (.timerCmpWrite path k v) s =
        .next (((s.setTimer k.val { s.timer k.val with cmpPl := v.toNat, cmpLate := (s.timer k.val).wrapped }).setBit
          (Reg.GSTAT k.val) 5 true).respond .ok)) ∧
  (∀ (path : Path) (k : TimerId) (v : BitVec 32) (s : State),
      s.accessStatus path true (0x2210 + k.val) 1 = .ok → bitField v.toNat 5 11 = 0 → natBit v.toNat 0 = false →
      exec (.gctrlWrite path k v) s =
        .next ((((s.setReg (Reg.GCTRL k.val) v.toNat).setReg (Reg.CNT k.val) 0).setTimer k.val { s.timer k.val with
          matched := false, wrapped := false }).respond .ok)) ∧
  (∀ (path : Path) (k : TimerId) (v : BitVec 32) (s : State),
      s.accessStatus path true (0x2210 + k.val) 1 = .ok → bitField v.toNat 5 11 = 0 → natBit v.toNat 0 = true →
      exec (.gctrlWrite path k v) s =
        .next ((if s.bit (Reg.GCTRL k.val) 0 then s.setReg (Reg.GCTRL k.val) v.toNat else (s.setReg (Reg.GCTRL k.val)
          v.toNat).setTimer k.val { s.timer k.val with tickAt := s.clock }).respond .ok)) ∧
  (∀ (path : Path) (k : TimerId) (v : BitVec 32) (s : State),
      s.accessStatus path true (0x2210 + k.val) 1 = .ok → bitField v.toNat 5 11 ≠ 0 →
      exec (.gctrlWrite path k v) s = .next (s.respond .badFormat)) ∧
  (∀ (k : TimerId) (s : State),
      s.bit (Reg.GCTRL k.val) 0 = true → (s.timer k.val).matched = false → (s.timer k.val).wrapped = false →
      s.timersFrozen = false → (s.timer k.val).tickAt + s.tickNs k.val ≤ s.clock →
      s.reg (Reg.CNT k.val) < s.reg (Reg.PER k.val) →
      exec (.gtTick k) s =
        .next ((s.setReg (Reg.CNT k.val) (s.reg (Reg.CNT k.val) + 1)).setTimer k.val { s.timer k.val with matched :=
                                                                                                            s.reg
                                                                                                            (Reg.CNT
                                                                                                            k.val) + 1
                                                                                                            == s.reg
                                                                                                            (Reg.CMP
                                                                                                            k.val),
                                                                                                            wrapped :=
                                                                                                            false,
                                                                                                            short :=
                                                                                                            false,
                                                                                                            cmpWritten
                                                                                                            := false,
                                                                                                            tickAt :=
                                                                                                            (s.timer
                                                                                                            k.val).tickAt
                                                                                                            + s.tickNs
                                                                                                            k.val })) ∧
  (∀ (k : TimerId) (s : State),
      s.bit (Reg.GCTRL k.val) 0 = true → (s.timer k.val).matched = false → (s.timer k.val).wrapped = false →
      s.timersFrozen = false → (s.timer k.val).tickAt + s.tickNs k.val ≤ s.clock →
      s.reg (Reg.CNT k.val) = s.reg (Reg.PER k.val) →
      exec (.gtTick k) s =
        .next ((s.setReg (Reg.CNT k.val) 0).setTimer k.val { s.timer k.val with matched := s.reg (Reg.CMP k.val) == 0,
                                                                                  wrapped := true, short := false,
                                                                                  cmpWritten := false, tickAt :=
                                                                                  (s.timer k.val).tickAt + s.tickNs
                                                                                  k.val })) ∧
  (∀ (k : TimerId) (s : State),
      s.bit (Reg.GCTRL k.val) 0 = true → (s.timer k.val).matched = false → (s.timer k.val).wrapped = false →
      s.timersFrozen = false → (s.timer k.val).tickAt + s.tickNs k.val ≤ s.clock →
      s.reg (Reg.PER k.val) < s.reg (Reg.CNT k.val) →
      exec (.gtTick k) s =
        .next ((s.setReg (Reg.CNT k.val) 0).setTimer k.val { s.timer k.val with matched := true, wrapped := true,
                                                                                  short := true, cmpWritten := false,
                                                                                  tickAt := (s.timer k.val).tickAt +
                                                                                  s.tickNs k.val })) ∧
  (∀ (k : TimerId) (s : State),
      (s.bit (Reg.GCTRL k.val) 0 = false ∨ (s.timer k.val).matched = true ∨ (s.timer k.val).wrapped = true ∨
        s.timersFrozen = true ∨ s.clock < (s.timer k.val).tickAt + s.tickNs k.val) →
      exec (.gtTick k) s = .next (s)) ∧
  (∀ (k : TimerId) (s : State),
      (s.timer k.val).matched = true →
      exec (.gtMatch k) s = .next (
        let s1 := (s.raise (Reg.GSTAT k.val) 0).setTimer k.val { s.timer k.val with matched := false }
        let s2 := if (s.timer k.val).short then s1.raise (Reg.GSTAT k.val) 2 else s1
        let s3 := if s.bit (Reg.GCTRL k.val) 2 = true ∧ (s.timer k.val).cmpWritten = false then
            s2.setReg (Reg.CMP k.val) ((s.reg (Reg.CMP k.val) + s.reg (Reg.IVL k.val)) % (s.reg (Reg.PER k.val) + 1))
              else s2
        if s.bit (Reg.GCTRL k.val) 4 then s3.hitchNotify (s.reg (Reg.GT_HITCH k.val)) else s3)) ∧
  (∀ (k : TimerId) (s : State),
      (s.timer k.val).matched = false →
      exec (.gtMatch k) s = .next (s)) ∧
  (∀ (k : TimerId) (s : State),
      (s.timer k.val).wrapped = true → (s.timer k.val).matched = false →
      exec (.gtWrap k) s =
        .next (((s.setTimer k.val { s.timer k.val with wrapped := false }).raise (Reg.GSTAT k.val) 1).copyPreloads
          k.val)) ∧
  (∀ (k : TimerId) (s : State),
      ((s.timer k.val).wrapped = false ∨ (s.timer k.val).matched = true) →
      exec (.gtWrap k) s = .next (s)) ∧
  (∀ (k : Nat) (s : State),
      s.copyPreloads k =
          let s1 := if s.bit (Reg.GSTAT k) 4 = true ∧ (s.timer k).perLate = false then (s.setReg (Reg.PER k) (s.timer
            k).perPl).setBit (Reg.GSTAT k) 4 false else s
          let s2 := if s.bit (Reg.GSTAT k) 5 = true ∧ (s.timer k).cmpLate = false then (s1.setReg (Reg.CMP k) (s.timer
            k).cmpPl).setBit (Reg.GSTAT k) 5 false else s1
          s2.setTimer k { s.timer k with perLate := false, cmpLate := false }) ∧
  (∀ (e : Nat) (s : State),
      s.timing.frozen = some e → s.reg Reg.PWR_STATE = 0 → s.timing.dueEdge ≤ slowCount s.now →
      exec (.sleepMakeup) s = .next (
        let sum := (slowCount s.now - e) * 1953125 + s.timing.carry
        (List.range 8).foldl (fun (x : State) k =>
          if x.bit (Reg.GCTRL k) 0 then x.makeUpTicks k else x) (State.bump { s with
          clock := s.clock + sum / 64
          timing := { s.timing with frozen := none, carry := sum % 64, wakeAt := [] } } Reg.MAKEUPS))) ∧
  (∀ (s : State),
      (s.timing.frozen = none ∨ s.reg Reg.PWR_STATE ≠ 0 ∨ slowCount s.now < s.timing.dueEdge) →
      exec (.sleepMakeup) s = .next (s))

/-- CLASS_COMMIT, CONSOL_NOW, RESTORE_DEFAULTS, FLOG_CLEAR, DUMP_NOW, FARRIER_NOW, ACCT_MODE_WRITE, EMCY_HISTORY_CLEAR,
  REIN_OVERRIDE_WRITE, the route and schedule commands, the writes of PER, CMP and GCTRL, QPOLICY_WRITE, the five
  RETRAIN requests and SPUR_SEND, over a path or in a state that R356, R412 or R438 forbids for their object, are
  answered with the status of that access and do nothing else. The access is SECURITY where the path may not write the
  object or an owner lock forbids it, REFUSED over another path than the firmware's own while the block that owns the
  object is not up, and OK otherwise. -/
def Obligations.DictionaryAccessDenied : Prop :=
  (∀ (path : Path) (k : ClassId) (st : Status) (s : State),
      s.accessStatus path true (0x3100 + k.val) 0x20 = st → st ≠ .ok →
      exec (.classCommit path k) s = .next (s.respond st)) ∧
  (∀ (path : Path) (v : BitVec 8) (st : Status) (s : State),
      s.accessStatus path true 0x3500 8 = st → st ≠ .ok →
      exec (.consolNow path v) s = .next (s.respond st)) ∧
  (∀ (path : Path) (v : BitVec 32) (x : StoreVerify) (st : Status) (s : State),
      s.accessStatus path true 0x1011 1 = st → st ≠ .ok →
      exec (.restoreDefaults path v x) s = .next (s.respond st)) ∧
  (∀ (path : Path) (v : BitVec 8) (st : Status) (s : State),
      s.accessStatus path true 0x7000 4 = st → st ≠ .ok →
      exec (.flogClear path v) s = .next (s.respond st)) ∧
  (∀ (path : Path) (v : BitVec 8) (st : Status) (s : State),
      s.accessStatus path true 0x7020 3 = st → st ≠ .ok →
      exec (.dumpNow path v) s = .next (s.respond st)) ∧
  (∀ (path : Path) (v : BitVec 8) (st : Status) (s : State),
      s.accessStatus path true 0x2330 2 = st → st ≠ .ok →
      exec (.farrierNow path v) s = .next (s.respond st)) ∧
  (∀ (path : Path) (v : BitVec 8) (st : Status) (s : State),
      s.accessStatus path true 0x2100 0x19 = st → st ≠ .ok →
      exec (.acctModeWrite path v) s = .next (s.respond st)) ∧
  (∀ (path : Path) (v : BitVec 8) (st : Status) (s : State),
      s.accessStatus path true 0x1003 0 = st → st ≠ .ok →
      exec (.emcyHistoryClear path v) s = .next (s.respond st)) ∧
  (∀ (path : Path) (p : PortId) (v : BitVec 8) (st : Status) (s : State),
      s.accessStatus path true (0x2710 + p.val) 6 = st → st ≠ .ok →
      exec (.reinOverrideWrite path p v) s = .next (s.respond st)) ∧
  (∀ (path : Path) (st : Status) (s : State),
      s.accessStatus path true 0x3300 3 = st → st ≠ .ok →
      exec (.routeArm path) s = .next (s.respond st)) ∧
  (∀ (path : Path) (st : Status) (s : State),
      s.accessStatus path true 0x3300 3 = st → st ≠ .ok →
      exec (.routeDisarm path) s = .next (s.respond st)) ∧
  (∀ (path : Path) (b : Bool) (st : Status) (s : State),
      s.accessStatus path true 0x3300 4 = st → st ≠ .ok →
      exec (.routeSwitch path b) s = .next (s.respond st)) ∧
  (∀ (path : Path) (st : Status) (s : State),
      s.accessStatus path true 0x3400 0x0C = st → st ≠ .ok →
      exec (.schedArm path) s = .next (s.respond st)) ∧
  (∀ (path : Path) (st : Status) (s : State),
      s.accessStatus path true 0x3400 0x0C = st → st ≠ .ok →
      exec (.schedDisarm path) s = .next (s.respond st)) ∧
  (∀ (path : Path) (st : Status) (s : State),
      s.accessStatus path true 0x3400 0x0D = st → st ≠ .ok →
      exec (.schedSwitch path) s = .next (s.respond st)) ∧
  (∀ (path : Path) (k : TimerId) (v : BitVec 32) (st : Status) (s : State),
      s.accessStatus path true (0x2210 + k.val) 2 = st → st ≠ .ok →
      exec (.timerPerWrite path k v) s = .next (s.respond st)) ∧
  (∀ (path : Path) (k : TimerId) (v : BitVec 32) (st : Status) (s : State),
      s.accessStatus path true (0x2210 + k.val) 3 = st → st ≠ .ok →
      exec (.timerCmpWrite path k v) s = .next (s.respond st)) ∧
  (∀ (path : Path) (k : TimerId) (v : BitVec 32) (st : Status) (s : State),
      s.accessStatus path true (0x2210 + k.val) 1 = st → st ≠ .ok →
      exec (.gctrlWrite path k v) s = .next (s.respond st)) ∧
  (∀ (path : Path) (v : BitVec 64) (st : Status) (s : State),
      s.accessStatus path true 0x2420 3 = st → st ≠ .ok →
      exec (.qpolicyWrite path v) s = .next (s.respond st)) ∧
  (∀ (path : Path) (l : LinkId) (st : Status) (s : State),
      s.accessStatus path true (0x2610 + l.val) 0x0C = st → st ≠ .ok →
      exec (.retrainFast path l) s = .next (s.respond st)) ∧
  (∀ (path : Path) (l : LinkId) (st : Status) (s : State),
      s.accessStatus path true (0x2610 + l.val) 0x0C = st → st ≠ .ok →
      exec (.retrainFull path l) s = .next (s.respond st)) ∧
  (∀ (path : Path) (l : LinkId) (st : Status) (s : State),
      s.accessStatus path true (0x2610 + l.val) 0x0C = st → st ≠ .ok →
      exec (.retrainRestoreLanes path l) s = .next (s.respond st)) ∧
  (∀ (path : Path) (l : LinkId) (st : Status) (s : State),
      s.accessStatus path true (0x2610 + l.val) 0x0C = st → st ≠ .ok →
      exec (.retrainTakeDown path l) s = .next (s.respond st)) ∧
  (∀ (path : Path) (l : LinkId) (st : Status) (s : State),
      s.accessStatus path true (0x2610 + l.val) 0x0C = st → st ≠ .ok →
      exec (.retrainBringUp path l) s = .next (s.respond st)) ∧
  (∀ (path : Path) (l : LinkId) (v : BitVec 8) (st : Status) (s : State),
      s.accessStatus path true (0x2610 + l.val) 0x0D = st → st ≠ .ok →
      exec (.spurSend path l v) s = .next (s.respond st)) ∧
  (∀ (p : Path) (write : Bool) (index sub : Nat) (s : State),
      s.accessStatus p write index sub =
          if pathMay p write index sub = false then .security
          else if write = true ∧ s.writeLocked index sub = true then .security
          else if p ≠ .sys ∧ s.ownerUp index = false then .refused
          else .ok)

/-- RETRAIN 1 of a link UP or retraining begins a fast retraining (a full one once three fast attempts have failed), of a
  PARKED link the fast training of R350, of another a fresh training; 2 begins a full retraining of a link UP,
  retraining or PARKED, and a fresh one of another; 3 makes dropped lanes usable, and retrains an UP link that has
  dropped some; 4 takes a link DOWN, with WIDTH, LANES_USED and TPV 0 and no peer, and is answered OK of a link that
  is; 5 brings up a link that is DOWN or REFUSED, wakes a PARKED one, and leaves another as it is. On a FUSED link
  each is REFUSED and changes nothing else. A training begun stands in DETECT from now. SPUR_SEND with 1 sends 48,484
  Spur sets on every good lane and then trains the link again, its DETECT beginning after 100 us; on a FUSED link it
  is answered OK and does nothing; any other value is BAD_FORMAT. -/
def Obligations.LinkControl : Prop :=
  (∀ (path : Path) (l : LinkId) (s : State),
      s.accessStatus path true (0x2610 + l.val) 0x0C = .ok →
      (s.reg (Reg.LINK_STATE l.val) = 2 ∨ s.reg (Reg.LINK_STATE l.val) = 3) →
      exec (.retrainFast path l) s = .next ((s.beginTraining l.val true false).respond .ok)) ∧
  (∀ (path : Path) (l : LinkId) (s : State),
      s.accessStatus path true (0x2610 + l.val) 0x0C = .ok → s.reg (Reg.LINK_STATE l.val) = 7 →
      exec (.retrainFast path l) s = .next ((s.wakeLink l.val).respond .ok)) ∧
  (∀ (path : Path) (l : LinkId) (s : State),
      s.accessStatus path true (0x2610 + l.val) 0x0C = .ok → s.reg (Reg.LINK_STATE l.val) ≠ 2 →
      s.reg (Reg.LINK_STATE l.val) ≠ 3 → s.reg (Reg.LINK_STATE l.val) ≠ 4 → s.reg (Reg.LINK_STATE l.val) ≠ 7 →
      exec (.retrainFast path l) s = .next ((s.beginTraining l.val true true).respond .ok)) ∧
  (∀ (path : Path) (l : LinkId) (s : State),
      s.accessStatus path true (0x2610 + l.val) 0x0C = .ok →
      (s.reg (Reg.LINK_STATE l.val) = 2 ∨ s.reg (Reg.LINK_STATE l.val) = 3 ∨ s.reg (Reg.LINK_STATE l.val) = 7) →
      exec (.retrainFull path l) s = .next ((s.beginTraining l.val false false).respond .ok)) ∧
  (∀ (path : Path) (l : LinkId) (s : State),
      s.accessStatus path true (0x2610 + l.val) 0x0C = .ok → s.reg (Reg.LINK_STATE l.val) ≠ 2 →
      s.reg (Reg.LINK_STATE l.val) ≠ 3 → s.reg (Reg.LINK_STATE l.val) ≠ 4 → s.reg (Reg.LINK_STATE l.val) ≠ 7 →
      exec (.retrainFull path l) s = .next ((s.beginTraining l.val false true).respond .ok)) ∧
  (∀ (path : Path) (l : LinkId) (s : State),
      s.accessStatus path true (0x2610 + l.val) 0x0C = .ok → s.reg (Reg.LINK_STATE l.val) = 2 →
      (s.link l.val).dropped ≠ 0 →
      exec (.retrainRestoreLanes path l) s =
        .next (((s.modLink l.val fun y => { y with dropped := 0 }).beginTraining l.val true false).respond .ok)) ∧
  (∀ (path : Path) (l : LinkId) (s : State),
      s.accessStatus path true (0x2610 + l.val) 0x0C = .ok → s.reg (Reg.LINK_STATE l.val) ≠ 4 →
      (s.reg (Reg.LINK_STATE l.val) ≠ 2 ∨ (s.link l.val).dropped = 0) →
      exec (.retrainRestoreLanes path l) s = .next ((s.modLink l.val fun y => { y with dropped := 0 }).respond .ok)) ∧
  (∀ (path : Path) (l : LinkId) (s : State),
      s.accessStatus path true (0x2610 + l.val) 0x0C = .ok → s.reg (Reg.LINK_STATE l.val) ≠ 0 →
      s.reg (Reg.LINK_STATE l.val) ≠ 4 →
      exec (.retrainTakeDown path l) s = .next ((s.linkDown l.val).respond .ok)) ∧
  (∀ (path : Path) (l : LinkId) (s : State),
      s.accessStatus path true (0x2610 + l.val) 0x0C = .ok → s.reg (Reg.LINK_STATE l.val) = 0 →
      exec (.retrainTakeDown path l) s = .next (s.respond .ok)) ∧
  (∀ (path : Path) (l : LinkId) (s : State),
      s.accessStatus path true (0x2610 + l.val) 0x0C = .ok → s.reg (Reg.LINK_STATE l.val) ≠ 2 →
      s.reg (Reg.LINK_STATE l.val) ≠ 3 → s.reg (Reg.LINK_STATE l.val) ≠ 4 → s.reg (Reg.LINK_STATE l.val) ≠ 7 →
      s.reg (Reg.LINK_STATE l.val) ≠ 1 →
      exec (.retrainBringUp path l) s = .next ((s.beginTraining l.val false true).respond .ok)) ∧
  (∀ (path : Path) (l : LinkId) (s : State),
      s.accessStatus path true (0x2610 + l.val) 0x0C = .ok → s.reg (Reg.LINK_STATE l.val) = 7 →
      exec (.retrainBringUp path l) s = .next ((s.wakeLink l.val).respond .ok)) ∧
  (∀ (path : Path) (l : LinkId) (s : State),
      s.accessStatus path true (0x2610 + l.val) 0x0C = .ok →
      (s.reg (Reg.LINK_STATE l.val) = 1 ∨ s.reg (Reg.LINK_STATE l.val) = 2 ∨ s.reg (Reg.LINK_STATE l.val) = 3) →
      exec (.retrainBringUp path l) s = .next (s.respond .ok)) ∧
  (∀ (path : Path) (l : LinkId) (s : State),
      s.accessStatus path true (0x2610 + l.val) 0x0C = .ok → s.reg (Reg.LINK_STATE l.val) = 4 →
      exec (.retrainFast path l) s = .next (s.respond .refused)) ∧
  (∀ (path : Path) (l : LinkId) (s : State),
      s.accessStatus path true (0x2610 + l.val) 0x0C = .ok → s.reg (Reg.LINK_STATE l.val) = 4 →
      exec (.retrainFull path l) s = .next (s.respond .refused)) ∧
  (∀ (path : Path) (l : LinkId) (s : State),
      s.accessStatus path true (0x2610 + l.val) 0x0C = .ok → s.reg (Reg.LINK_STATE l.val) = 4 →
      exec (.retrainRestoreLanes path l) s = .next (s.respond .refused)) ∧
  (∀ (path : Path) (l : LinkId) (s : State),
      s.accessStatus path true (0x2610 + l.val) 0x0C = .ok → s.reg (Reg.LINK_STATE l.val) = 4 →
      exec (.retrainTakeDown path l) s = .next (s.respond .refused)) ∧
  (∀ (path : Path) (l : LinkId) (s : State),
      s.accessStatus path true (0x2610 + l.val) 0x0C = .ok → s.reg (Reg.LINK_STATE l.val) = 4 →
      exec (.retrainBringUp path l) s = .next (s.respond .refused)) ∧
  (∀ (l : LinkId) (fast fresh : Bool) (s : State),
      (s.beginTraining l.val fast fresh).reg (Reg.LINK_STATE l.val) = (if fresh then 1 else 3) ∧
          ((s.beginTraining l.val fast fresh).link l.val).phase = .detect ∧
          ((s.beginTraining l.val fast fresh).link l.val).phaseFrom = s.now ∧
          ((s.beginTraining l.val fast fresh).link l.val).fast = (fast && decide ((s.link l.val).fails < 3)) ∧
          ((s.beginTraining l.val fast fresh).link l.val).fresh = fresh) ∧
  (∀ (l : LinkId) (s : State),
      (s.wakeLink l.val).reg (Reg.LINK_STATE l.val) = 3 ∧ ((s.wakeLink l.val).link l.val).phase = .detect ∧
          ((s.wakeLink l.val).link l.val).fast = true ∧ ((s.wakeLink l.val).link l.val).fresh = false ∧
          ((s.wakeLink l.val).link l.val).ts1At = some s.now) ∧
  (∀ (l : LinkId) (s : State),
      (s.linkDown l.val).reg (Reg.LINK_STATE l.val) = 0 ∧ (s.linkDown l.val).reg (Reg.WIDTH l.val) = 0 ∧
          (s.linkDown l.val).reg (Reg.LANES_USED l.val) = 0 ∧ (s.linkDown l.val).reg (Reg.TPV l.val) = 0 ∧
          (s.linkDown l.val).reg (Reg.PEER_DEV l.val) = 0xFF ∧ (s.linkDown l.val).reg (Reg.PEER_LINK l.val) = 0xFF) ∧
  (∀ (path : Path) (l : LinkId) (s : State),
      s.accessStatus path true (0x2610 + l.val) 0x0D = .ok →
      (s.reg (Reg.LINK_STATE l.val) = 2 ∨ s.reg (Reg.LINK_STATE l.val) = 3 ∨ s.reg (Reg.LINK_STATE l.val) = 7) →
      exec (.spurSend path l 1) s = .next (
        (((s.sendSets l.val 0x5A 0 48484 (s.goodLanes l.val)).beginTraining l.val true false).modLink l.val fun y =>
          { y with spurUntil := some (s.now + 100000), phaseFrom := s.now + 100000 }).respond .ok)) ∧
  (∀ (path : Path) (l : LinkId) (s : State),
      s.accessStatus path true (0x2610 + l.val) 0x0D = .ok → s.reg (Reg.LINK_STATE l.val) ≠ 2 →
      s.reg (Reg.LINK_STATE l.val) ≠ 3 → s.reg (Reg.LINK_STATE l.val) ≠ 4 → s.reg (Reg.LINK_STATE l.val) ≠ 7 →
      exec (.spurSend path l 1) s = .next (
        (((s.sendSets l.val 0x5A 0 48484 (s.goodLanes l.val)).beginTraining l.val false true).modLink l.val fun y =>
          { y with spurUntil := some (s.now + 100000), phaseFrom := s.now + 100000 }).respond .ok)) ∧
  (∀ (path : Path) (l : LinkId) (s : State),
      s.accessStatus path true (0x2610 + l.val) 0x0D = .ok → s.reg (Reg.LINK_STATE l.val) = 4 →
      exec (.spurSend path l 1) s = .next (s.respond .ok)) ∧
  (∀ (path : Path) (l : LinkId) (v : BitVec 8) (s : State),
      s.accessStatus path true (0x2610 + l.val) 0x0D = .ok → v ≠ 1 →
      exec (.spurSend path l v) s = .next (s.respond .badFormat))

/-- STUCK_LINK_REPORT of a pool that has held a flit without credit for 1 ms counts STUCK_REPORTS and records TIMEOUT with
  the pool, once; earlier, again or of a pool that lacks none it does nothing. REDUCE_RECORD_SEND puts the device's
  record to the parent link in place of one that waits; without a record or a parent it does nothing.
  BROADCAST_RECEIVE passes the oldest broadcast on to every child; ROUTE_SWITCH moves ARMED tables to SWITCHING, any
  other is news to the device; with none it does nothing. SPANNING_TREE_BUILD on device 0 takes no parent and depth 0;
  elsewhere the live neighbour nearest to device 0, the lowest link among equals, and its depth and one; without one
  no parent; it sets TREE_PARENT, TREE_DEPTH, LAT_COMP, the children with the devices below each, the prepared tables
  and the devices out of reach. LINK_RECONCILE of a link that is not live empties its buffers and returns, last first,
  the flits after the other end's last accepted and what waited; of a live link it does nothing. A returned EVENT flit
  goes ahead of what waits at its gateway, CTRL flits ahead of those of the link that leads to their device, a
  broadcast to each new child, a HITCH message to the link that leads to its home, an operation of this device on a
  lost home counting HOME_LOST; REDUCE and BULK are dropped. -/
def Obligations.LinksOfTheTree : Prop :=
  (∀ (l : LinkId) (pool : Fin 6) (at' : Nat) (s : State),
      Assoc.get? pool.val ((s.noteStalls l.val).link l.val).noCredit = some (at', false) → at' + 1000000 ≤ s.now →
      exec (.stuckLinkReport l pool) s = .next (
        (((s.noteStalls l.val).modLink l.val fun y =>
          { y with noCredit := Assoc.set pool.val (at', true) y.noCredit }).bumpAt Reg.STUCK_REPORTS l.val).logFault
          { cls := .link, status := .timeout, unit := l.val, sub := pool.val })) ∧
  (∀ (l : LinkId) (pool : Fin 6) (at' : Nat) (s : State),
      Assoc.get? pool.val ((s.noteStalls l.val).link l.val).noCredit = some (at', false) → s.now < at' + 1000000 →
      exec (.stuckLinkReport l pool) s = .next (s)) ∧
  (∀ (l : LinkId) (pool : Fin 6) (at' : Nat) (s : State),
      Assoc.get? pool.val ((s.noteStalls l.val).link l.val).noCredit = some (at', true) →
      exec (.stuckLinkReport l pool) s = .next (s)) ∧
  (∀ (l : LinkId) (pool : Fin 6) (s : State),
      Assoc.get? pool.val ((s.noteStalls l.val).link l.val).noCredit = none →
      exec (.stuckLinkReport l pool) s = .next (s)) ∧
  (∀ (r : Reduction) (s : State),
      s.fabric.upward = some r → s.reg Reg.TREE_PARENT < 8 →
      exec (.reduceRecordSend) s =
        .next (s.modLink (s.reg Reg.TREE_PARENT) fun y => { y with sync := y.sync.filter (fun p => p.head? ≠ some 0)
                                                                     ++ [reduceBody r] })) ∧
  (∀ (s : State),
      (s.fabric.upward = none ∨ 8 ≤ s.reg Reg.TREE_PARENT) →
      exec (.reduceRecordSend) s = .next (s)) ∧
  (∀ (m : Nat × Nat × Nat) (rest : List (Nat × Nat × Nat)) (s : State),
      s.tether.heard = m :: rest → m.2.1 ≠ 4 →
      exec (.broadcastReceive) s = .next (
        (((s.modTether fun t => { t with heard := rest }).modFabric fun f =>
          { f with sends := f.sends ++ [m.2] }).spreadBroadcasts).modFabric fun f =>
          { f with news := f.news ++ [(m.2.1, m.2.2, s.clock)] })) ∧
  (∀ (m : Nat × Nat × Nat) (rest : List (Nat × Nat × Nat)) (s : State),
      s.tether.heard = m :: rest → m.2.1 = 4 → s.reg Reg.ROUTE_STATE = 1 →
      exec (.broadcastReceive) s = .next (
        (((s.modTether fun t => { t with heard := rest }).modFabric fun f =>
          { f with sends := f.sends ++ [m.2] }).spreadBroadcasts).setReg Reg.ROUTE_STATE 2)) ∧
  (∀ (m : Nat × Nat × Nat) (rest : List (Nat × Nat × Nat)) (s : State),
      s.tether.heard = m :: rest → m.2.1 = 4 → s.reg Reg.ROUTE_STATE ≠ 1 →
      exec (.broadcastReceive) s = .next (
        ((s.modTether fun t => { t with heard := rest }).modFabric fun f =>
          { f with sends := f.sends ++ [m.2] }).spreadBroadcasts)) ∧
  (∀ (s : State),
      s.fabric.sends = [] →
      s.spreadBroadcasts = s.modFabric fun f => { f with sends := [] }) ∧
  (∀ (s : State),
      s.tether.heard = [] →
      exec (.broadcastReceive) s = .next (s)) ∧
  (∀ (dist : List (LinkId × Nat)) (below : List (LinkId × List (Fin 64))) (tables : List (LinkId × List (Fin 64 × BitVec 32))) (gone : List (Fin 64)) (comp : Nat) (s : State),
      s.reg Reg.DEV_NUM = 0 →
      exec (.spanningTreeBuild dist below tables gone comp) s = .next (s.placeTree 0xFF 0 comp below tables gone)) ∧
  (∀ (d : LinkId × Nat) (dist : List (LinkId × Nat)) (below : List (LinkId × List (Fin 64))) (tables : List (LinkId × List (Fin 64 × BitVec 32))) (gone : List (Fin 64)) (comp : Nat) (s : State),
      s.reg Reg.DEV_NUM ≠ 0 → d ∈ dist → s.linkLives d.1.val = true →
      ∀ e ∈ dist, s.linkLives e.1.val = true → d.2 < e.2 ∨ d.2 = e.2 ∧ d.1.val ≤ e.1.val →
      exec (.spanningTreeBuild dist below tables gone comp) s =
        .next (s.placeTree d.1.val (d.2 + 1) comp below tables gone)) ∧
  (∀ (dist : List (LinkId × Nat)) (below : List (LinkId × List (Fin 64))) (tables : List (LinkId × List (Fin 64 × BitVec 32))) (gone : List (Fin 64)) (comp : Nat) (s : State),
      s.reg Reg.DEV_NUM ≠ 0 → ∀ e ∈ dist, s.linkLives e.1.val = false →
      exec (.spanningTreeBuild dist below tables gone comp) s = .next (s.placeTree 0xFF 0 comp below tables gone)) ∧
  (∀ (parent depth comp : Nat) (below : List (LinkId × List (Fin 64))) (tables : List (LinkId × List (Fin 64 × BitVec 32))) (gone : List (Fin 64)) (s t : State),
      s.placeTree parent depth comp below tables gone = t →
      t.reg Reg.TREE_PARENT = parent ∧ t.reg Reg.TREE_DEPTH = depth ∧ t.reg Reg.LAT_COMP = comp ∧
          t.tether.children = below.map (fun b => (b.1.val, b.2.map (·.val))) ∧
          t.tether.links = s.tether.links ∧
          t = { s with regs := t.regs, tether := t.tether, fabric := { s.fabric with children := t.fabric.children } }) ∧
  (∀ (l : LinkId) (peer : Fin 4096) (f : SentFlit) (r : List SentFlit) (s : State),
      s.linkLives l.val = false → (s.link l.val).replay = f :: r →
      exec (.linkReconcile l peer) s = .next (
        let x := s.link l.val
        let waiting (t : Nat) (q : List (List Byte)) : List SentFlit := q.map fun b => ⟨0, t, false, b⟩
        let back := (f :: r).drop ((peer.val + 1 + 4096 - f.seq) % 4096) ++ (waiting 4 (x.sync ++ x.hitch) ++ waiting
          3 x.reps ++ waiting 2 x.reqs)
        back.reverse.foldl (fun s g => s.returnFlit l.val g)
          (s.setLink l.val { x with replay := [], replayAt := none, sync := [], hitch := [], reps := [], reqs := [],
                                      bulk := [] }))) ∧
  (∀ (l : LinkId) (peer : Fin 4096) (s : State),
      s.linkLives l.val = false → (s.link l.val).replay = [] →
      exec (.linkReconcile l peer) s = .next (
        let x := s.link l.val
        let waiting (t : Nat) (q : List (List Byte)) : List SentFlit := q.map fun b => ⟨0, t, false, b⟩
        let back := (waiting 4 (x.sync ++ x.hitch) ++ waiting 3 x.reps ++ waiting 2 x.reqs)
        back.reverse.foldl (fun s g => s.returnFlit l.val g)
          (s.setLink l.val { x with replay := [], replayAt := none, sync := [], hitch := [], reps := [], reqs := [],
                                      bulk := [] }))) ∧
  (∀ (l : LinkId) (peer : Fin 4096) (s : State),
      s.linkLives l.val = true →
      exec (.linkReconcile l peer) s = .next (s)) ∧
  (∀ (l : LinkId) (g : SentFlit) (s : State),
      g.ftype = 0 →
      s.returnFlit l.val g = s.setOutput (.gateway l) { s.output (.gateway l) with
          entries := (bodyEvents g.payload).map (fun e => ⟨{ e with classB := g.cls }, false, 0⟩) ++ (s.output
            (.gateway l)).entries }) ∧
  (∀ (m : Nat) (l : LinkId) (g : SentFlit) (s : State),
      g.ftype = 2 → s.treeLink (leNat ((g.payload.drop 1).take 1)) = some m →
      s.returnFlit l.val g = s.modLink m fun y => { y with reqs := g.payload :: y.reqs }) ∧
  (∀ (m : Nat) (l : LinkId) (g : SentFlit) (s : State),
      g.ftype = 3 → s.treeLink (leNat ((g.payload.drop 1).take 1)) = some m →
      s.returnFlit l.val g = s.modLink m fun y => { y with reps := g.payload :: y.reps }) ∧
  (∀ (l : LinkId) (g : SentFlit) (s : State),
      g.ftype = 4 → g.payload.head? = some 1 →
      s.returnFlit l.val g = s.tether.newChildren.foldl (fun u c => u.modLink c fun y => { y with sync := g.payload ::
                                                                                                    y.sync }) s) ∧
  (∀ (m : Nat) (l : LinkId) (g : SentFlit) (s : State),
      g.ftype = 4 → g.payload.head? = some 2 → (s.hitch (hitchFields g.payload).2.1).homeLost = false →
      s.treeLink (if 5 ≤ (hitchFields g.payload).1 then (hitchFields g.payload).2.2.1 else s.homeDev (s.hitch
        (hitchFields g.payload).2.1)) = some m →
      s.returnFlit l.val g = s.modLink m fun y => { y with hitch := g.payload :: y.hitch }) ∧
  (∀ (l : LinkId) (g : SentFlit) (s : State),
      g.ftype = 4 → g.payload.head? = some 2 → (s.hitch (hitchFields g.payload).2.1).homeLost = true →
      s.returnFlit l.val g = if s.ownUnawaited g.payload then s.bump Reg.HOME_LOST else s) ∧
  (∀ (l : LinkId) (g : SentFlit) (s : State),
      (g.ftype = 1 ∨ 4 < g.ftype ∨ g.ftype = 4 ∧ g.payload.head? ≠ some 1 ∧ g.payload.head? ≠ some 2) →
      s.returnFlit l.val g = s)

/-- DICT_READ of this device answers the status and the bytes from OFFSET, at most MAXLEN; of another it is put aside and
  its reply awaited. DICT_WRITE with OFFSET 0 drops what the session had staged; a segment that is not of the staged
  write, does not go on where it stands, or passes TOTAL is BAD_FORMAT and drops it, as does a last one short of
  TOTAL; one with MORE is staged and answered OK; the last one is applied and answered, or for another device put
  aside. A payload shorter than its 12 bytes is BAD_FORMAT. Q_PUSH and Q_CONSUME answer the outcome of the port for
  the host, BAD_FORMAT for a short payload or a queue above 32,767. MEM_READ answers the status and data of the range;
  a range outside R363 and R366 is BAD_FORMAT, as for MEM_WRITE, which on USB waits until all its data has come and on
  Ethernet takes it from its payload, BAD_FORMAT where that is short; then it writes and answers the status.
  MEM_WRITE_TIMEOUT on USB with data short of BYTES writes what came, counts and answers TIMEOUT; otherwise it does
  nothing. -/
def Obligations.HtpDataRequests : Prop :=
  (∀ (x : HtpFrame) (y : Session) (s : State),
      s.htpReady x 2 y → 12 ≤ x.payload.length → (s.htpTaken x).isOwn (htpField x 0 1) = true →
      exec (.dictRead x) s = .next (
        let r := (s.htpTaken x).readAny (peerPath x.peer) y.version (htpField x 2 2) (htpField x 1 1)
        r.2.2.reply x 2 r.1 ((r.2.1.drop (htpField x 4 4)).take (htpField x 8 4)))) ∧
  (∀ (x : HtpFrame) (y : Session) (s : State),
      s.htpReady x 2 y → 12 ≤ x.payload.length → (s.htpTaken x).isOwn (htpField x 0 1) = false →
      exec (.dictRead x) s = .next (
        let t := s.htpTaken x
        let a : RemoteAccess :=
          { tag := 0, dev := htpField x 0 1, index := htpField x 2 2, sub := htpField x 1 1, write := false, peer :=
              x.peer,
             htpTag := x.tag.toNat, sentAt := t.now, offset := htpField x 4 4, want := htpField x 8 4 }
        (t.forwardAccess a).modSession x.peer fun z => { z with replies := z.replies ++ [{ op := 2, tag := x.tag.toNat
                                                                                             }] })) ∧
  (∀ (x : HtpFrame) (y : Session) (s : State),
      s.htpReady x 2 y → x.payload.length < 12 →
      exec (.dictRead x) s = .next ((s.htpTaken x).reply x 2 .badFormat [])) ∧
  (∀ (x : HtpFrame) (y : Session) (f : WriteFacts) (s : State),
      s.htpReady x 3 y → x.payload.length < 12 →
      exec (.dictWrite x f) s = .next ((s.htpTaken x).reply x 3 .badFormat [])) ∧
  (∀ (x : HtpFrame) (y : Session) (f : WriteFacts) (u : State) (w : StagedWrite) (s : State),
      s.htpReady x 3 y → 12 ≤ x.payload.length →
      (if htpField x 4 4 = 0 then (s.htpTaken x).dropStaged x.peer else (s.htpTaken x)) = u →
      u.stagedFor x.peer ⟨htpField x 0 1, htpField x 2 2, htpField x 1 1, htpField x 8 4, []⟩ = w →
      (w.dev ≠ htpField x 0 1 ∨ w.index ≠ htpField x 2 2 ∨ w.sub ≠ htpField x 1 1 ∨ w.total ≠ htpField x 8 4 ∨
        htpField x 4 4 ≠ w.data.length ∨ w.total < w.data.length + (x.payload.drop 12).length) →
      exec (.dictWrite x f) s = .next ((u.dropStaged x.peer).reply x 3 .badFormat [])) ∧
  (∀ (x : HtpFrame) (y : Session) (f : WriteFacts) (u : State) (w : StagedWrite) (s : State),
      s.htpReady x 3 y → 12 ≤ x.payload.length →
      (if htpField x 4 4 = 0 then (s.htpTaken x).dropStaged x.peer else (s.htpTaken x)) = u →
      u.stagedFor x.peer ⟨htpField x 0 1, htpField x 2 2, htpField x 1 1, htpField x 8 4, []⟩ = w →
      w.dev = htpField x 0 1 → w.index = htpField x 2 2 → w.sub = htpField x 1 1 → w.total = htpField x 8 4 →
      htpField x 4 4 = w.data.length → w.data.length + (x.payload.drop 12).length ≤ w.total → x.more = true →
      exec (.dictWrite x f) s =
        .next ((u.modSession x.peer fun z => { z with staged := some { w with data := w.data ++ x.payload.drop 12 }
                                                        }).reply x 3 .ok [])) ∧
  (∀ (x : HtpFrame) (y : Session) (f : WriteFacts) (u : State) (w : StagedWrite) (s : State),
      s.htpReady x 3 y → 12 ≤ x.payload.length →
      (if htpField x 4 4 = 0 then (s.htpTaken x).dropStaged x.peer else (s.htpTaken x)) = u →
      u.stagedFor x.peer ⟨htpField x 0 1, htpField x 2 2, htpField x 1 1, htpField x 8 4, []⟩ = w →
      w.dev = htpField x 0 1 → w.index = htpField x 2 2 → w.sub = htpField x 1 1 → w.total = htpField x 8 4 →
      htpField x 4 4 = w.data.length → x.more = false → w.data.length + (x.payload.drop 12).length < w.total →
      exec (.dictWrite x f) s = .next ((u.dropStaged x.peer).reply x 3 .badFormat [])) ∧
  (∀ (x : HtpFrame) (y : Session) (f : WriteFacts) (u : State) (w : StagedWrite) (s : State),
      s.htpReady x 3 y → 12 ≤ x.payload.length →
      (if htpField x 4 4 = 0 then (s.htpTaken x).dropStaged x.peer else (s.htpTaken x)) = u →
      u.stagedFor x.peer ⟨htpField x 0 1, htpField x 2 2, htpField x 1 1, htpField x 8 4, []⟩ = w →
      w.dev = htpField x 0 1 → w.index = htpField x 2 2 → w.sub = htpField x 1 1 → w.total = htpField x 8 4 →
      htpField x 4 4 = w.data.length → x.more = false → w.data.length + (x.payload.drop 12).length = w.total →
      u.isOwn w.dev = true →
      exec (.dictWrite x f) s = .next (
        let v := u.modSession x.peer fun z => { z with staged := none }
        let r := v.writeObj (peerPath x.peer) w.index w.sub (w.data ++ x.payload.drop 12) f
        r.2.reply x 3 r.1 [])) ∧
  (∀ (x : HtpFrame) (y : Session) (f : WriteFacts) (u : State) (w : StagedWrite) (s : State),
      s.htpReady x 3 y → 12 ≤ x.payload.length →
      (if htpField x 4 4 = 0 then (s.htpTaken x).dropStaged x.peer else (s.htpTaken x)) = u →
      u.stagedFor x.peer ⟨htpField x 0 1, htpField x 2 2, htpField x 1 1, htpField x 8 4, []⟩ = w →
      w.dev = htpField x 0 1 → w.index = htpField x 2 2 → w.sub = htpField x 1 1 → w.total = htpField x 8 4 →
      htpField x 4 4 = w.data.length → x.more = false → w.data.length + (x.payload.drop 12).length = w.total →
      u.isOwn w.dev = false →
      exec (.dictWrite x f) s = .next (
        let v := u.modSession x.peer fun z => { z with staged := none }
        let a : RemoteAccess :=
          { tag := 0, dev := w.dev, index := w.index, sub := w.sub, write := true, peer := x.peer, htpTag :=
              x.tag.toNat,
            sentAt := v.now, data := w.data ++ x.payload.drop 12 }
        (v.forwardAccess a).modSession x.peer fun z => { z with replies := z.replies ++ [{ op := 3, tag := x.tag.toNat
                                                                                             }] })) ∧
  (∀ (x : HtpFrame) (y : Session) (s : State),
      s.htpReady x 4 y → 36 ≤ x.payload.length → htpField x 0 2 < 32768 →
      exec (.qPush x) s = .next (
        let t := (s.htpTaken x).push .host (htpField x 0 2) (entryOfBytes ((x.payload.drop 4).take 32))
        t.reply x 4 t.resp.status [])) ∧
  (∀ (x : HtpFrame) (y : Session) (s : State),
      s.htpReady x 4 y → (x.payload.length < 36 ∨ 32768 ≤ htpField x 0 2) →
      exec (.qPush x) s = .next ((s.htpTaken x).reply x 4 .badFormat [])) ∧
  (∀ (x : HtpFrame) (y : Session) (s : State),
      s.htpReady x 5 y → 8 ≤ x.payload.length → htpField x 0 2 < 32768 →
      exec (.qConsume x) s = .next (
        let t := (s.htpTaken x).consume .host (htpField x 0 2) (htpField x 4 4)
        t.reply x 5 t.resp.status [])) ∧
  (∀ (x : HtpFrame) (y : Session) (s : State),
      s.htpReady x 5 y → (x.payload.length < 8 ∨ 32768 ≤ htpField x 0 2) →
      exec (.qConsume x) s = .next ((s.htpTaken x).reply x 5 .badFormat [])) ∧
  (∀ (x : HtpFrame) (y : Session) (s : State),
      s.htpReady x 6 y → memRange x = true →
      exec (.memRead x) s = .next (
        let r := (s.htpTaken x).hostRead (htpField x 0 8) (htpField x 8 4)
        r.2.2.reply x 6 r.1 r.2.1)) ∧
  (∀ (x : HtpFrame) (y : Session) (s : State),
      s.htpReady x 6 y → memRange x = false →
      exec (.memRead x) s = .next ((s.htpTaken x).reply x 6 .badFormat [])) ∧
  (∀ (x : HtpFrame) (y : Session) (data : List Byte) (s : State),
      s.htpReady x 7 y → memRange x = true → x.peer = .usb → htpField x 8 4 ≤ data.length →
      exec (.memWrite x data) s = .next (
        let r := (s.htpTaken x).hostWrite (htpField x 0 8) (data.take (htpField x 8 4))
        r.2.reply x 7 r.1 [])) ∧
  (∀ (x : HtpFrame) (data : List Byte) (s : State),
      x.bad = false → memRange x = true → x.peer = .usb → data.length < htpField x 8 4 →
      exec (.memWrite x data) s = .next (s)) ∧
  (∀ (x : HtpFrame) (y : Session) (data : List Byte) (s : State),
      s.htpReady x 7 y → memRange x = true → x.peer ≠ .usb → htpField x 8 4 ≤ (x.payload.drop 12).length →
      exec (.memWrite x data) s = .next (
        let r := (s.htpTaken x).hostWrite (htpField x 0 8) ((x.payload.drop 12).take (htpField x 8 4))
        r.2.reply x 7 r.1 [])) ∧
  (∀ (x : HtpFrame) (y : Session) (data : List Byte) (s : State),
      s.htpReady x 7 y → (memRange x = false ∨ x.peer ≠ .usb ∧ (x.payload.drop 12).length < htpField x 8 4) →
      exec (.memWrite x data) s = .next ((s.htpTaken x).reply x 7 .badFormat [])) ∧
  (∀ (x : HtpFrame) (y : Session) (data : List Byte) (s : State),
      s.htpReady x 7 y → memRange x = true → x.peer = .usb → data.length < htpField x 8 4 →
      exec (.memWriteTimeout x data) s =
        .next ((((s.htpHeard x).hostWrite (htpField x 0 8) data).2.bump Reg.HTP_TIMEOUT).reply x 7 .timeout [])) ∧
  (∀ (x : HtpFrame) (data : List Byte) (s : State),
      (x.bad = true ∨ memRange x = false ∨ x.peer ≠ .usb ∨ htpField x 8 4 ≤ data.length) →
      exec (.memWriteTimeout x data) s = .next (s))

/-- JOURNAL_DRAIN does nothing in Brace, in a DEGRADED Stable, with no journal or within 1 us of the last block; with
  nothing left of the generation it goes over to the next one where that has begun. Else it writes the header block
  first, a full block of 64 staged bytes, or, where the generation has ended or the harness unloads, the last block
  padded; a part block waits. A consolidation that is not due, in Brace, DEGRADED or in a low-power state does not
  begin; else a new generation starts, the superblock names it, the changed rows are copied, the pages are counted and
  bad verifies noted. Its end, not running or in Brace or DEGRADED, does nothing; else the superblock records the
  completion, the wear counters are written, the consolidation counted and its verify noted. A page not waiting for a
  remap, or in Brace, is left; with a spare left it is mapped there, counted and its verify noted; with none the
  Stable is DEGRADED, put into the superblock, logged and told. W8P_RECOVER with no word waiting, or while the tile
  delivers, does nothing; else both words are recovered: the PLX of a near row is reset, another word rewritten and
  counted. -/
def Obligations.StableJournal : Prop :=
  (∀ (v : StoreVerify) (s : State),
      (s.mayWriteStable = false ∨ s.journals = false ∨ s.now < s.learning.drainedAt + 1000) →
      exec (.journalDrain v) s = .next (s)) ∧
  (∀ (v : StoreVerify) (s : State),
      s.mayWriteStable = true → s.journals = true → s.learning.drainedAt + 1000 ≤ s.now →
      ((s.genEnd.getD s.learning.staged) - s.learning.drained) = 0 →
      exec (.journalDrain v) s =
        .next (if s.genEnd.isSome then s.modLearning fun l => { l with drainGen := l.drainGen + 1, drainPos := 0 }
          else s)) ∧
  (∀ (v : StoreVerify) (s : State),
      s.mayWriteStable = true → s.journals = true → s.learning.drainedAt + 1000 ≤ s.now →
      ((s.genEnd.getD s.learning.staged) - s.learning.drained) ≠ 0 → s.learning.drainPos = 0 →
      exec (.journalDrain v) s = .next (s.drainBlock (genHeader s.learning.drainGen) v)) ∧
  (∀ (v : StoreVerify) (s : State),
      s.mayWriteStable = true → s.journals = true → s.learning.drainedAt + 1000 ≤ s.now → s.learning.drainPos ≠ 0 →
      64 ≤ ((s.genEnd.getD s.learning.staged) - s.learning.drained) →
      exec (.journalDrain v) s =
        .next (((s.drainBlock (s.stagedBytes 64) v).modLearning fun l => { l with drained := l.drained + 64
                                                                                    }).notePending)) ∧
  (∀ (v : StoreVerify) (s : State),
      s.mayWriteStable = true → s.journals = true → s.learning.drainedAt + 1000 ≤ s.now → s.learning.drainPos ≠ 0 →
      ((s.genEnd.getD s.learning.staged) - s.learning.drained) ≠ 0 →
      ((s.genEnd.getD s.learning.staged) - s.learning.drained) < 64 →
      (s.genEnd ≠ none ∨ s.reg Reg.HARNESS_STATE = 3) →
      exec (.journalDrain v) s = .next (s.drainLast ((s.genEnd.getD s.learning.staged) - s.learning.drained) v)) ∧
  (∀ (v : StoreVerify) (s : State),
      s.mayWriteStable = true → s.journals = true → s.learning.drainedAt + 1000 ≤ s.now → s.learning.drainPos ≠ 0 →
      ((s.genEnd.getD s.learning.staged) - s.learning.drained) < 64 → s.genEnd = none → s.reg Reg.HARNESS_STATE ≠ 3 →
      exec (.journalDrain v) s = .next (s)) ∧
  (∀ (bad : List (Nat × StoreVerify)) (s : State),
      (s.mayWriteStable = false ∨ s.consolidationDue = false ∨ s.reg Reg.PWR_STATE ≠ 0) →
      exec (.consolidationBegin bad) s = .next (s)) ∧
  (∀ (bad : List (Nat × StoreVerify)) (s : State),
      s.mayWriteStable = true → s.consolidationDue = true → s.reg Reg.PWR_STATE = 0 →
      exec (.consolidationBegin bad) s = .next (
        let gen := s.reg Reg.JRNL_GEN + 1
        let rows := s.learning.changed
        let pages := s.pagesOf rows ++ [s.superPage]
        let s1 := (((s.setReg Reg.JRNL_GEN gen).setReg Reg.JRNL_FILL 64).setReg Reg.STABLE_HARNESS
          (s.reg Reg.HARNESS_MEAS)).modLearning fun l => { l with
            genStarts := l.genStarts ++ [(gen, l.staged)], consolWant := false, consolAt := some s.now,
            consolRunning := true, changed := [] }
        let s2 := (s1.setReg Reg.STABLE_STATE 2).writeSuperblock 2 (s.superField 12 4) (gen % 2 ^ 32)
        let s4 := (rows.foldl (fun s r => s.consolidateRow r.1 r.2) s2).wearPages pages
        bad.foldl (fun s b => if pages.contains b.1 then s.verifyBlock b.1 b.2 else s) s4)) ∧
  (∀ (v : StoreVerify) (s : State),
      (s.learning.consolRunning = false ∨ s.mayWriteStable = false) →
      exec (.consolidationEnd v) s = .next (s)) ∧
  (∀ (v : StoreVerify) (s : State),
      s.learning.consolRunning = true → s.mayWriteStable = true →
      exec (.consolidationEnd v) s = .next (
        let s1 := (((s.setReg Reg.STABLE_STATE 1).writeSuperblock 1 (s.reg Reg.JRNL_GEN % 2 ^ 32)
          0xFFFFFFFF).wearPages
          (s.superPage :: wearArea)).flushWear
        let s2 := s1.modLearning fun l => { l with consolRunning := false }
        ((s2.bump Reg.CONSOLS).peak Reg.CONSOL_MAX_MS ((s.now - s.learning.consolAt.getD 0) / 1000000)).verifyBlock
          s.superPage v)) ∧
  (∀ (p : Fin 18432) (v : StoreVerify) (s : State),
      (s.learning.remapWant.contains p.val = false ∨ s.power.brace ≠ none) →
      exec (.stablePageRemap p v) s = .next (s)) ∧
  (∀ (p : Fin 18432) (v : StoreVerify) (s : State),
      s.learning.remapWant.contains p.val = true → s.power.brace = none → s.reg Reg.SPARE_LEFT ≠ 0 →
      exec (.stablePageRemap p v) s = .next (
        let spare := 18432 + (1024 - s.reg Reg.SPARE_LEFT)
        let entry := stableBase + 0x3C02000 + 4 * p.val
        let s1 := s.modLearning fun l => { l with
          remapWant := dropFirst p.val l.remapWant, remap := Assoc.set p.val spare l.remap, wear := Assoc.set p.val 1
            l.wear }
        let s2 := ((s1.setWord entry 4 (spare + 2 ^ 31)).noteWear).wearPage (stablePage entry)
        ((s2.setReg Reg.SPARE_LEFT (s.reg Reg.SPARE_LEFT - 1)).bump Reg.STABLE_REMAP).verifyBlock p.val v)) ∧
  (∀ (p : Fin 18432) (v : StoreVerify) (s : State),
      s.learning.remapWant.contains p.val = true → s.power.brace = none → s.reg Reg.SPARE_LEFT = 0 →
      exec (.stablePageRemap p v) s =
        .next ((s.modLearning fun l => { l with remapWant := dropFirst p.val l.remapWant }).stableDegraded)) ∧
  (∀ (s : State),
      s.stableDegraded = ((((s.setReg Reg.STABLE_STATE 3).writeSuperblock 3 (s.superField 12 4)
          (s.superField 16 4)).modLearning fun l => { l with degraded := true, consolRunning := false }).logFault
          { cls := .stable, status := .degraded }).emcy 0xFF03 .degraded 6 0) ∧
  (∀ (c : ClusterId) (s : State),
      ((s.learning.recover.find? fun r => r.1 = c.val).all fun r => delivers (s.tile c.val r.2.1.tile)) = true →
      exec (.w8pRecover c) s = .next (s)) ∧
  (∀ (c : ClusterId) (row : RowName) (off : Nat) (s : State),
      (s.learning.recover.find? fun r => r.1 = c.val) = some (c.val, row, off) →
      delivers (s.tile c.val row.tile) = false →
      exec (.w8pRecover c) s =
        .next (((s.modLearning fun l => { l with recover := dropFirst (c.val, row, off) l.recover }).recoverOne c.val
          row off).recoverOne c.val row (off + 4))) ∧
  (∀ (c : Nat) (row : RowName) (s : State),
      row.far = false →
      s.recoverOne c row 12 = (s.setRowPlx c row { rxpre := 0, rtl := s.fabric.learned % 4096, spre0 := 0, spre1 := 0
                                                     }).plasticEcc c row.tile row.ident) ∧
  (∀ (c : Nat) (row : RowName) (off : Nat) (s : State),
      (off ≠ 12 ∨ row.far = true) →
      s.recoverOne c row off = (s.recoverWord c row off).noteRecover c row off)
end

