-- ==== Sys2Proof/Laws/Memory.lean ====
section
/-!
SUPPORT. The laws of maps and of byte memory: what a read gives after a write, and that every memory operation keeps the canonical
form.
-/
namespace Sys2Proof.Machine
open Sys2Proof

/-! ### Maps -/

theorem Assoc.get?_set {β : Type} (k k' : Nat) (v : β) (l : Assoc β) :
    Assoc.get? k' (Assoc.set k v l) = if k = k' then some v else Assoc.get? k' l := by
  induction l with
  | nil => simp [Assoc.set, Assoc.get?]
  | cons e l ih =>
    obtain ⟨j, w⟩ := e
    simp only [Assoc.set]
    split
    · subst_vars; simp only [Assoc.get?]; split <;> simp_all
    · split
      · simp only [Assoc.get?]
      · simp only [Assoc.get?, ih]; split <;> split <;> simp_all

@[simp] theorem Assoc.get?_set_same {β : Type} (k : Nat) (v : β) (l : Assoc β) : Assoc.get? k (Assoc.set k v l) = some v := by
  simp [Assoc.get?_set]

theorem Assoc.get?_set_other {β : Type} {k k' : Nat} (h : k ≠ k') (v : β) (l : Assoc β) :
    Assoc.get? k' (Assoc.set k v l) = Assoc.get? k' l := by
  simp [Assoc.get?_set, h]

theorem Assoc.getD_set {β : Type} (k k' : Nat) (v d : β) (l : Assoc β) :
    Assoc.getD (Assoc.set k v l) k' d = if k = k' then v else Assoc.getD l k' d := by
  simp only [Assoc.getD, Assoc.get?_set]; split <;> simp

/-! ### Registers -/

theorem State.reg_setReg (s : State) (o p : Obj) (v : Nat) : (s.setReg o v).reg p = if o.key = p.key then v else s.reg p := by
  simp only [State.reg, State.setReg, Assoc.get?_set]; split <;> simp

@[simp] theorem State.reg_setReg_same (s : State) (o : Obj) (v : Nat) : (s.setReg o v).reg o = v := by
  simp [State.reg_setReg]

theorem State.reg_setReg_other (s : State) {o p : Obj} (h : o.key ≠ p.key) (v : Nat) : (s.setReg o v).reg p = s.reg p := by
  simp [State.reg_setReg, h]

/-- A counter raised reads the counted value (R9). -/
@[simp] theorem State.reg_bumpBy_same (s : State) (o : Obj) (n : Nat) : (s.bumpBy o n).reg o = o.ty.count (s.reg o) n := by
  simp [State.bumpBy]

theorem State.reg_bumpBy_other (s : State) {o p : Obj} (h : o.key ≠ p.key) (n : Nat) : (s.bumpBy o n).reg p = s.reg p := by
  simp [State.bumpBy, State.reg_setReg_other s h]

/-! ### Bytes -/

/-- A byte written reads as it was written, and every other address reads as before. -/
theorem Memory.read_write (m : List Host.Cell) (a b : Nat) (v : Byte) (h : Memory.wf m) :
    Memory.read (Memory.write m a v) b = if a = b then v else Memory.read m b := by
  have key : ∀ (lo : Option Nat) (m : List Host.Cell), Memory.above lo m →
      Memory.read (Memory.write m a v) b = if a = b then v else Memory.read m b := by
    intro lo m
    induction m generalizing lo with
    | nil =>
      intro _
      simp only [Memory.write, Memory.read]
      split
      · subst_vars; split <;> simp_all [Memory.read]
      · simp only [Memory.read]
    | cons e l ih =>
      obtain ⟨c, w⟩ := e
      intro h
      simp only [Memory.above, Bool.and_eq_true] at h
      have ih' := ih (some c) h.2
      have low : ∀ (x : Nat), x ≤ c → Memory.read l x = Memory.blank := by
        have gen : ∀ (l : List Host.Cell) (c x : Nat), Memory.above (some c) l → x ≤ c → Memory.read l x = Memory.blank := by
          intro l
          induction l with
          | nil => intros; rfl
          | cons e l ih =>
            obtain ⟨d, u⟩ := e
            intro c x h hx
            simp only [Memory.above, Bool.and_eq_true, decide_eq_true_eq] at h
            have hd : d ≠ x := by omega
            simp only [Memory.read, hd, if_false]
            exact ih d x h.2 (by omega)
        exact fun x hx => gen l c x h.2 hx
      simp only [Memory.write]
      split
      · have : c ≠ a := by omega
        simp only [Memory.read, ih']
        split <;> split <;> simp_all
      · split
        · subst_vars
          split
          · by_cases hb : c = b
            · subst hb; simp_all [low c (by omega)]
            · simp [Memory.read, hb]
          · simp only [Memory.read]; split <;> simp_all
        · split
          · subst_vars
            by_cases hb : a = b
            · subst hb
              have hc : c ≠ a := by omega
              simp [Memory.read, hc, low a (by omega)]
            · simp [hb]
          · simp only [Memory.read]
  exact key none m h

theorem Memory.above_write (a : Nat) (v : Byte) : ∀ (m : List Host.Cell) (lo : Option Nat), Memory.above lo m →
    (∀ x, lo = some x → x < a) → Memory.above lo (Memory.write m a v)
  | [], lo, _, hl => by
    simp only [Memory.write]
    split
    · rfl
    · cases lo with
      | none => simp_all [Memory.above]
      | some x => have := hl x rfl; simp_all [Memory.above]
  | (c, w) :: l, lo, h, hl => by
    simp only [Memory.above, Bool.and_eq_true] at h
    simp only [Memory.write]
    have weaken : ∀ (y : Nat), Memory.above (some c) l → y ≤ c → Memory.above (some y) l := by
      intro y hy hle
      cases l with
      | nil => rfl
      | cons e l =>
        obtain ⟨d, u⟩ := e
        simp only [Memory.above, Bool.and_eq_true, decide_eq_true_eq] at hy ⊢
        exact ⟨⟨by omega, hy.1.2⟩, hy.2⟩
    split
    · simp only [Memory.above, Bool.and_eq_true]
      exact ⟨h.1, Memory.above_write a v l (some c) h.2 (fun x hx => by cases hx; assumption)⟩
    · split
      · subst_vars
        split
        · cases lo with
          | none =>
            cases l with
            | nil => rfl
            | cons e l =>
              obtain ⟨d, u⟩ := e
              have h2 := h.2
              simp only [Memory.above, Bool.and_eq_true] at h2 ⊢
              exact ⟨⟨trivial, h2.1.2⟩, h2.2⟩
          | some x => exact weaken x h.2 (Nat.le_of_lt (hl x rfl))
        · simp only [Memory.above, Bool.and_eq_true]
          exact ⟨⟨h.1.1, by simp_all⟩, h.2⟩
      · split
        · simp only [Memory.above, Bool.and_eq_true]; exact h
        · simp only [Memory.above, Bool.and_eq_true, decide_eq_true_eq]
          refine ⟨⟨?_, by simp_all⟩, ⟨by omega, h.1.2⟩, h.2⟩
          cases lo with
          | none => trivial
          | some x => simpa using hl x rfl

/-- A write keeps the canonical form. -/
theorem Memory.write_wf {m : List Host.Cell} (h : Memory.wf m) (a : Nat) (v : Byte) : Memory.wf (Memory.write m a v) :=
  Memory.above_write a v m none h (fun _ hx => by cases hx)

/-- Bytes written keep the canonical form. -/
theorem Memory.writeBytes_wf (l : List Byte) : ∀ {m : List Host.Cell}, Memory.wf m → ∀ a, Memory.wf (Memory.writeBytes m a l) := by
  induction l with
  | nil => intro m h a; exact h
  | cons b l ih => intro m h a; exact ih (Memory.write_wf h a b) (a + 1)

/-- A byte outside the bytes written reads as before. -/
theorem Memory.read_writeBytes_outside (l : List Byte) : ∀ {m : List Host.Cell}, Memory.wf m → ∀ a b,
    (b < a ∨ a + l.length ≤ b) → Memory.read (Memory.writeBytes m a l) b = Memory.read m b := by
  induction l with
  | nil => intros; rfl
  | cons x l ih =>
    intro m h a b hb
    simp only [Memory.writeBytes, List.length_cons] at hb ⊢
    rw [ih (Memory.write_wf h a x) (a + 1) b (by omega), Memory.read_write m a b x h, if_neg (by omega)]

/-- Bytes written one list after the other lie one behind the other. -/
theorem Memory.writeBytes_append (l k : List Byte) : ∀ (m : List Host.Cell) (a : Nat),
    Memory.writeBytes m a (l ++ k) = Memory.writeBytes (Memory.writeBytes m a l) (a + l.length) k := by
  induction l with
  | nil => intro m a; rfl
  | cons b l ih =>
    intro m a
    simp only [List.cons_append, Memory.writeBytes, ih, List.length_cons]
    congr 1
    omega

/-- A range outside the bytes written reads as before. -/
theorem Memory.readBytes_writeBytes_outside (l : List Byte) {m : List Host.Cell} (h : Memory.wf m) (a : Nat) :
    ∀ (n b : Nat), (b + n ≤ a ∨ a + l.length ≤ b) → Memory.readBytes (Memory.writeBytes m a l) b n = Memory.readBytes m b n
  | 0, _, _ => rfl
  | n + 1, b, hb => by
    simp only [Memory.readBytes]
    rw [Memory.read_writeBytes_outside l h a b (by omega),
      Memory.readBytes_writeBytes_outside l h a n (b + 1) (by omega)]

/-- The bytes written read back as they were written. -/
theorem Memory.readBytes_writeBytes_same (l : List Byte) : ∀ {m : List Host.Cell}, Memory.wf m → ∀ a,
    Memory.readBytes (Memory.writeBytes m a l) a l.length = l := by
  induction l with
  | nil => intros; rfl
  | cons x l ih =>
    intro m h a
    simp only [Memory.writeBytes, List.length_cons, Memory.readBytes]
    rw [ih (Memory.write_wf h a x) (a + 1),
      Memory.read_writeBytes_outside l (Memory.write_wf h a x) (a + 1) a (by omega), Memory.read_write m a a x h, if_pos rfl]

/-- The cells that satisfy a condition, in canonical form. -/
theorem Memory.filter_wf (p : Host.Cell → Bool) {m : List Host.Cell} (h : Memory.wf m) : Memory.wf (m.filter p) := by
  have key : ∀ (m : List Host.Cell) (lo : Option Nat), Memory.above lo m → Memory.above lo (m.filter p) := by
    intro m
    induction m with
    | nil => intro lo h; exact h
    | cons e l ih =>
      obtain ⟨c, w⟩ := e
      intro lo h
      simp only [Memory.above, Bool.and_eq_true] at h
      have ih' := ih (some c) h.2
      by_cases hp : p (c, w)
      · simp only [List.filter_cons, hp, if_true, Memory.above, Bool.and_eq_true]; exact ⟨h.1, ih'⟩
      · simp only [List.filter_cons, hp, Bool.false_eq_true, if_false]
        cases hl : l.filter p with
        | nil => rfl
        | cons e l' =>
          obtain ⟨d, u⟩ := e
          rw [hl] at ih'
          simp only [Memory.above, Bool.and_eq_true, decide_eq_true_eq] at ih' ⊢
          refine ⟨⟨?_, ih'.1.2⟩, ih'.2⟩
          cases lo with
          | none => trivial
          | some x =>
            have := h.1.1
            simp only [decide_eq_true_eq] at this ⊢
            omega
  exact key m none h

/-- A range made blank keeps the canonical form. -/
theorem Memory.erase_wf {m : List Host.Cell} (h : Memory.wf m) (lo n : Nat) : Memory.wf (Memory.erase m lo n) :=
  Memory.filter_wf _ h

/-- Every memory operation of State keeps the canonical form. -/
theorem State.setBytes_wf {s : State} (h : Memory.wf s.mem) (a : Nat) (l : List Byte) : Memory.wf (s.setBytes a l).mem :=
  Memory.writeBytes_wf _ h a

theorem State.setWord_wf {s : State} (h : Memory.wf s.mem) (a n v : Nat) : Memory.wf (s.setWord a n v).mem :=
  Memory.writeBytes_wf _ h a

/-! ### Bytes as a read of the state finds them -/

@[simp] theorem State.veiled_length (s : State) (l : List Byte) : ∀ a, (s.veiled a l).length = l.length := by
  induction l with
  | nil => intro; rfl
  | cons b l ih => intro a; simp [State.veiled, ih]

/-- A veil combined twice is gone. -/
theorem State.veiled_veiled (s : State) (l : List Byte) : ∀ a, s.veiled a (s.veiled a l) = l := by
  induction l with
  | nil => intro; rfl
  | cons b l ih => intro a; simp [State.veiled, ih, BitVec.xor_assoc]

theorem State.veiled_setBytes (s : State) (a : Nat) (l k : List Byte) : ∀ b, (s.setBytes a l).veiled b k = s.veiled b k := by
  induction k with
  | nil => intro; rfl
  | cons x k ih => intro b; simp only [State.veiled, ih]; rfl

/-- Bytes stored read back as they were stored. -/
theorem State.bytes_setBytes_same {s : State} (h : Memory.wf s.mem) (a : Nat) (l : List Byte) :
    (s.setBytes a l).bytes a l.length = l := by
  simp only [State.bytes, State.veiled_setBytes]
  by_cases he : s.veils = []
  · simp only [he, if_true, State.setBytes, Memory.readBytes_writeBytes_same l h]
  · have := Memory.readBytes_writeBytes_same (s.veiled a l) h a
    rw [State.veiled_length] at this
    simp only [he, if_false, State.setBytes, this, State.veiled_veiled]

/-- A byte outside those stored reads as before. -/
theorem State.byteAt_setBytes_outside {s : State} (h : Memory.wf s.mem) (a b : Nat) (l : List Byte)
    (hb : b < a ∨ a + l.length ≤ b) : (s.setBytes a l).byteAt b = s.byteAt b := by
  have hm : Memory.read (s.setBytes a l).mem b = Memory.read s.mem b := by
    simp only [State.setBytes]
    split <;> exact Memory.read_writeBytes_outside _ h _ _ (by simpa using hb)
  simp only [State.byteAt, hm]
  rfl

end Sys2Proof.Machine
end

