-- ==== Sys2Proof/Laws/State.lean ====
section
/-!
SUPPORT. What each update of State leaves in each field: one lemma per field and update, true by unfolding the update once.
-/
namespace Sys2Proof.Machine
open Sys2Proof

variable (s : State)

/-! ### setReg -/

@[simp] theorem State.setReg_pending (o : Obj) (v : Nat) : (s.setReg o v).pending = s.pending := rfl
@[simp] theorem State.setReg_free (o : Obj) (v : Nat) : (s.setReg o v).free = s.free := rfl
@[simp] theorem State.setReg_now (o : Obj) (v : Nat) : (s.setReg o v).now = s.now := rfl
@[simp] theorem State.setReg_clock (o : Obj) (v : Nat) : (s.setReg o v).clock = s.clock := rfl
@[simp] theorem State.setReg_variant (o : Obj) (v : Nat) : (s.setReg o v).variant = s.variant := rfl
@[simp] theorem State.setReg_regs (o : Obj) (v : Nat) : (s.setReg o v).regs = Assoc.set o.key v s.regs := rfl
@[simp] theorem State.setReg_mem (o : Obj) (v : Nat) : (s.setReg o v).mem = s.mem := rfl
@[simp] theorem State.setReg_veils (o : Obj) (v : Nat) : (s.setReg o v).veils = s.veils := rfl
@[simp] theorem State.setReg_resp (o : Obj) (v : Nat) : (s.setReg o v).resp = s.resp := rfl
@[simp] theorem State.setReg_out (o : Obj) (v : Nat) : (s.setReg o v).out = s.out := rfl
@[simp] theorem State.setReg_txHeld (o : Obj) (v : Nat) : (s.setReg o v).txHeld = s.txHeld := rfl
@[simp] theorem State.setReg_seqWait (o : Obj) (v : Nat) : (s.setReg o v).seqWait = s.seqWait := rfl
@[simp] theorem State.setReg_flog (o : Obj) (v : Nat) : (s.setReg o v).flog = s.flog := rfl
@[simp] theorem State.setReg_flogSeq (o : Obj) (v : Nat) : (s.setReg o v).flogSeq = s.flogSeq := rfl
@[simp] theorem State.setReg_logGate (o : Obj) (v : Nat) : (s.setReg o v).logGate = s.logGate := rfl
@[simp] theorem State.setReg_queues (o : Obj) (v : Nat) : (s.setReg o v).queues = s.queues := rfl
@[simp] theorem State.setReg_comb (o : Obj) (v : Nat) : (s.setReg o v).comb = s.comb := rfl
@[simp] theorem State.setReg_lastStatus (o : Obj) (v : Nat) : (s.setReg o v).lastStatus = s.lastStatus := rfl
@[simp] theorem State.setReg_engines (o : Obj) (v : Nat) : (s.setReg o v).engines = s.engines := rfl
@[simp] theorem State.setReg_hitches (o : Obj) (v : Nat) : (s.setReg o v).hitches = s.hitches := rfl
@[simp] theorem State.setReg_hitchNet (o : Obj) (v : Nat) : (s.setReg o v).hitchNet = s.hitchNet := rfl
@[simp] theorem State.setReg_syncOut (o : Obj) (v : Nat) : (s.setReg o v).syncOut = s.syncOut := rfl
@[simp] theorem State.setReg_hitchAwait (o : Obj) (v : Nat) : (s.setReg o v).hitchAwait = s.hitchAwait := rfl
@[simp] theorem State.setReg_failedNodes (o : Obj) (v : Nat) : (s.setReg o v).failedNodes = s.failedNodes := rfl
@[simp] theorem State.setReg_windows (o : Obj) (v : Nat) : (s.setReg o v).windows = s.windows := rfl
@[simp] theorem State.setReg_bankWait (o : Obj) (v : Nat) : (s.setReg o v).bankWait = s.bankWait := rfl
@[simp] theorem State.setReg_classes (o : Obj) (v : Nat) : (s.setReg o v).classes = s.classes := rfl
@[simp] theorem State.setReg_tiles (o : Obj) (v : Nat) : (s.setReg o v).tiles = s.tiles := rfl
@[simp] theorem State.setReg_sramCorr (o : Obj) (v : Nat) : (s.setReg o v).sramCorr = s.sramCorr := rfl
@[simp] theorem State.setReg_initial (o : Obj) (v : Nat) : (s.setReg o v).initial = s.initial := rfl
@[simp] theorem State.setReg_routers (o : Obj) (v : Nat) : (s.setReg o v).routers = s.routers := rfl
@[simp] theorem State.setReg_gateways (o : Obj) (v : Nat) : (s.setReg o v).gateways = s.gateways := rfl
@[simp] theorem State.setReg_gatewayFrcvd (o : Obj) (v : Nat) : (s.setReg o v).gatewayFrcvd = s.gatewayFrcvd := rfl
@[simp] theorem State.setReg_gatewaySrcvd (o : Obj) (v : Nat) : (s.setReg o v).gatewaySrcvd = s.gatewaySrcvd := rfl
@[simp] theorem State.setReg_route0 (o : Obj) (v : Nat) : (s.setReg o v).route0 = s.route0 := rfl
@[simp] theorem State.setReg_route1 (o : Obj) (v : Nat) : (s.setReg o v).route1 = s.route1 := rfl
@[simp] theorem State.setReg_groups0 (o : Obj) (v : Nat) : (s.setReg o v).groups0 = s.groups0 := rfl
@[simp] theorem State.setReg_groups1 (o : Obj) (v : Nat) : (s.setReg o v).groups1 = s.groups1 := rfl
@[simp] theorem State.setReg_members0 (o : Obj) (v : Nat) : (s.setReg o v).members0 = s.members0 := rfl
@[simp] theorem State.setReg_members1 (o : Obj) (v : Nat) : (s.setReg o v).members1 = s.members1 := rfl
@[simp] theorem State.setReg_stores (o : Obj) (v : Nat) : (s.setReg o v).stores = s.stores := rfl
@[simp] theorem State.setReg_fetch (o : Obj) (v : Nat) : (s.setReg o v).fetch = s.fetch := rfl
@[simp] theorem State.setReg_gateIn (o : Obj) (v : Nat) : (s.setReg o v).gateIn = s.gateIn := rfl
@[simp] theorem State.setReg_gateRx (o : Obj) (v : Nat) : (s.setReg o v).gateRx = s.gateRx := rfl
@[simp] theorem State.setReg_centreNext (o : Obj) (v : Nat) : (s.setReg o v).centreNext = s.centreNext := rfl
@[simp] theorem State.setReg_remoteHold (o : Obj) (v : Nat) : (s.setReg o v).remoteHold = s.remoteHold := rfl
@[simp] theorem State.setReg_spillAt (o : Obj) (v : Nat) : (s.setReg o v).spillAt = s.spillAt := rfl
@[simp] theorem State.setReg_slots0 (o : Obj) (v : Nat) : (s.setReg o v).slots0 = s.slots0 := rfl
@[simp] theorem State.setReg_slots1 (o : Obj) (v : Nat) : (s.setReg o v).slots1 = s.slots1 := rfl
@[simp] theorem State.setReg_slotVersion (o : Obj) (v : Nat) : (s.setReg o v).slotVersion = s.slotVersion := rfl
@[simp] theorem State.setReg_switchIn (o : Obj) (v : Nat) : (s.setReg o v).switchIn = s.switchIn := rfl
@[simp] theorem State.setReg_drainFrom (o : Obj) (v : Nat) : (s.setReg o v).drainFrom = s.drainFrom := rfl
@[simp] theorem State.setReg_fabric (o : Obj) (v : Nat) : (s.setReg o v).fabric = s.fabric := rfl
@[simp] theorem State.setReg_learning (o : Obj) (v : Nat) : (s.setReg o v).learning = s.learning := rfl
@[simp] theorem State.setReg_census (o : Obj) (v : Nat) : (s.setReg o v).census = s.census := rfl
@[simp] theorem State.setReg_dense (o : Obj) (v : Nat) : (s.setReg o v).dense = s.dense := rfl
@[simp] theorem State.setReg_moved (o : Obj) (v : Nat) : (s.setReg o v).moved = s.moved := rfl
@[simp] theorem State.setReg_host (o : Obj) (v : Nat) : (s.setReg o v).host = s.host := rfl
@[simp] theorem State.setReg_intake (o : Obj) (v : Nat) : (s.setReg o v).intake = s.intake := rfl
@[simp] theorem State.setReg_power (o : Obj) (v : Nat) : (s.setReg o v).power = s.power := rfl
@[simp] theorem State.setReg_security (o : Obj) (v : Nat) : (s.setReg o v).security = s.security := rfl
@[simp] theorem State.setReg_update (o : Obj) (v : Nat) : (s.setReg o v).update = s.update := rfl
@[simp] theorem State.setReg_harness (o : Obj) (v : Nat) : (s.setReg o v).harness = s.harness := rfl
@[simp] theorem State.setReg_tether (o : Obj) (v : Nat) : (s.setReg o v).tether = s.tether := rfl
@[simp] theorem State.setReg_timing (o : Obj) (v : Nat) : (s.setReg o v).timing = s.timing := rfl

/-! ### bumpBy -/

@[simp] theorem State.bumpBy_pending (o : Obj) (n : Nat) : (s.bumpBy o n).pending = s.pending := rfl
@[simp] theorem State.bumpBy_free (o : Obj) (n : Nat) : (s.bumpBy o n).free = s.free := rfl
@[simp] theorem State.bumpBy_now (o : Obj) (n : Nat) : (s.bumpBy o n).now = s.now := rfl
@[simp] theorem State.bumpBy_clock (o : Obj) (n : Nat) : (s.bumpBy o n).clock = s.clock := rfl
@[simp] theorem State.bumpBy_variant (o : Obj) (n : Nat) : (s.bumpBy o n).variant = s.variant := rfl
@[simp] theorem State.bumpBy_regs (o : Obj) (n : Nat) : (s.bumpBy o n).regs = Assoc.set o.key (o.ty.count (s.reg o) n) s.regs := rfl
@[simp] theorem State.bumpBy_mem (o : Obj) (n : Nat) : (s.bumpBy o n).mem = s.mem := rfl
@[simp] theorem State.bumpBy_veils (o : Obj) (n : Nat) : (s.bumpBy o n).veils = s.veils := rfl
@[simp] theorem State.bumpBy_resp (o : Obj) (n : Nat) : (s.bumpBy o n).resp = s.resp := rfl
@[simp] theorem State.bumpBy_out (o : Obj) (n : Nat) : (s.bumpBy o n).out = s.out := rfl
@[simp] theorem State.bumpBy_txHeld (o : Obj) (n : Nat) : (s.bumpBy o n).txHeld = s.txHeld := rfl
@[simp] theorem State.bumpBy_seqWait (o : Obj) (n : Nat) : (s.bumpBy o n).seqWait = s.seqWait := rfl
@[simp] theorem State.bumpBy_flog (o : Obj) (n : Nat) : (s.bumpBy o n).flog = s.flog := rfl
@[simp] theorem State.bumpBy_flogSeq (o : Obj) (n : Nat) : (s.bumpBy o n).flogSeq = s.flogSeq := rfl
@[simp] theorem State.bumpBy_logGate (o : Obj) (n : Nat) : (s.bumpBy o n).logGate = s.logGate := rfl
@[simp] theorem State.bumpBy_queues (o : Obj) (n : Nat) : (s.bumpBy o n).queues = s.queues := rfl
@[simp] theorem State.bumpBy_comb (o : Obj) (n : Nat) : (s.bumpBy o n).comb = s.comb := rfl
@[simp] theorem State.bumpBy_lastStatus (o : Obj) (n : Nat) : (s.bumpBy o n).lastStatus = s.lastStatus := rfl
@[simp] theorem State.bumpBy_engines (o : Obj) (n : Nat) : (s.bumpBy o n).engines = s.engines := rfl
@[simp] theorem State.bumpBy_hitches (o : Obj) (n : Nat) : (s.bumpBy o n).hitches = s.hitches := rfl
@[simp] theorem State.bumpBy_hitchNet (o : Obj) (n : Nat) : (s.bumpBy o n).hitchNet = s.hitchNet := rfl
@[simp] theorem State.bumpBy_syncOut (o : Obj) (n : Nat) : (s.bumpBy o n).syncOut = s.syncOut := rfl
@[simp] theorem State.bumpBy_hitchAwait (o : Obj) (n : Nat) : (s.bumpBy o n).hitchAwait = s.hitchAwait := rfl
@[simp] theorem State.bumpBy_failedNodes (o : Obj) (n : Nat) : (s.bumpBy o n).failedNodes = s.failedNodes := rfl
@[simp] theorem State.bumpBy_windows (o : Obj) (n : Nat) : (s.bumpBy o n).windows = s.windows := rfl
@[simp] theorem State.bumpBy_bankWait (o : Obj) (n : Nat) : (s.bumpBy o n).bankWait = s.bankWait := rfl
@[simp] theorem State.bumpBy_classes (o : Obj) (n : Nat) : (s.bumpBy o n).classes = s.classes := rfl
@[simp] theorem State.bumpBy_tiles (o : Obj) (n : Nat) : (s.bumpBy o n).tiles = s.tiles := rfl
@[simp] theorem State.bumpBy_sramCorr (o : Obj) (n : Nat) : (s.bumpBy o n).sramCorr = s.sramCorr := rfl
@[simp] theorem State.bumpBy_initial (o : Obj) (n : Nat) : (s.bumpBy o n).initial = s.initial := rfl
@[simp] theorem State.bumpBy_routers (o : Obj) (n : Nat) : (s.bumpBy o n).routers = s.routers := rfl
@[simp] theorem State.bumpBy_gateways (o : Obj) (n : Nat) : (s.bumpBy o n).gateways = s.gateways := rfl
@[simp] theorem State.bumpBy_gatewayFrcvd (o : Obj) (n : Nat) : (s.bumpBy o n).gatewayFrcvd = s.gatewayFrcvd := rfl
@[simp] theorem State.bumpBy_gatewaySrcvd (o : Obj) (n : Nat) : (s.bumpBy o n).gatewaySrcvd = s.gatewaySrcvd := rfl
@[simp] theorem State.bumpBy_route0 (o : Obj) (n : Nat) : (s.bumpBy o n).route0 = s.route0 := rfl
@[simp] theorem State.bumpBy_route1 (o : Obj) (n : Nat) : (s.bumpBy o n).route1 = s.route1 := rfl
@[simp] theorem State.bumpBy_groups0 (o : Obj) (n : Nat) : (s.bumpBy o n).groups0 = s.groups0 := rfl
@[simp] theorem State.bumpBy_groups1 (o : Obj) (n : Nat) : (s.bumpBy o n).groups1 = s.groups1 := rfl
@[simp] theorem State.bumpBy_members0 (o : Obj) (n : Nat) : (s.bumpBy o n).members0 = s.members0 := rfl
@[simp] theorem State.bumpBy_members1 (o : Obj) (n : Nat) : (s.bumpBy o n).members1 = s.members1 := rfl
@[simp] theorem State.bumpBy_stores (o : Obj) (n : Nat) : (s.bumpBy o n).stores = s.stores := rfl
@[simp] theorem State.bumpBy_fetch (o : Obj) (n : Nat) : (s.bumpBy o n).fetch = s.fetch := rfl
@[simp] theorem State.bumpBy_gateIn (o : Obj) (n : Nat) : (s.bumpBy o n).gateIn = s.gateIn := rfl
@[simp] theorem State.bumpBy_gateRx (o : Obj) (n : Nat) : (s.bumpBy o n).gateRx = s.gateRx := rfl
@[simp] theorem State.bumpBy_centreNext (o : Obj) (n : Nat) : (s.bumpBy o n).centreNext = s.centreNext := rfl
@[simp] theorem State.bumpBy_remoteHold (o : Obj) (n : Nat) : (s.bumpBy o n).remoteHold = s.remoteHold := rfl
@[simp] theorem State.bumpBy_spillAt (o : Obj) (n : Nat) : (s.bumpBy o n).spillAt = s.spillAt := rfl
@[simp] theorem State.bumpBy_slots0 (o : Obj) (n : Nat) : (s.bumpBy o n).slots0 = s.slots0 := rfl
@[simp] theorem State.bumpBy_slots1 (o : Obj) (n : Nat) : (s.bumpBy o n).slots1 = s.slots1 := rfl
@[simp] theorem State.bumpBy_slotVersion (o : Obj) (n : Nat) : (s.bumpBy o n).slotVersion = s.slotVersion := rfl
@[simp] theorem State.bumpBy_switchIn (o : Obj) (n : Nat) : (s.bumpBy o n).switchIn = s.switchIn := rfl
@[simp] theorem State.bumpBy_drainFrom (o : Obj) (n : Nat) : (s.bumpBy o n).drainFrom = s.drainFrom := rfl
@[simp] theorem State.bumpBy_fabric (o : Obj) (n : Nat) : (s.bumpBy o n).fabric = s.fabric := rfl
@[simp] theorem State.bumpBy_learning (o : Obj) (n : Nat) : (s.bumpBy o n).learning = s.learning := rfl
@[simp] theorem State.bumpBy_census (o : Obj) (n : Nat) : (s.bumpBy o n).census = s.census := rfl
@[simp] theorem State.bumpBy_dense (o : Obj) (n : Nat) : (s.bumpBy o n).dense = s.dense := rfl
@[simp] theorem State.bumpBy_moved (o : Obj) (n : Nat) : (s.bumpBy o n).moved = s.moved := rfl
@[simp] theorem State.bumpBy_host (o : Obj) (n : Nat) : (s.bumpBy o n).host = s.host := rfl
@[simp] theorem State.bumpBy_intake (o : Obj) (n : Nat) : (s.bumpBy o n).intake = s.intake := rfl
@[simp] theorem State.bumpBy_power (o : Obj) (n : Nat) : (s.bumpBy o n).power = s.power := rfl
@[simp] theorem State.bumpBy_security (o : Obj) (n : Nat) : (s.bumpBy o n).security = s.security := rfl
@[simp] theorem State.bumpBy_update (o : Obj) (n : Nat) : (s.bumpBy o n).update = s.update := rfl
@[simp] theorem State.bumpBy_harness (o : Obj) (n : Nat) : (s.bumpBy o n).harness = s.harness := rfl
@[simp] theorem State.bumpBy_tether (o : Obj) (n : Nat) : (s.bumpBy o n).tether = s.tether := rfl
@[simp] theorem State.bumpBy_timing (o : Obj) (n : Nat) : (s.bumpBy o n).timing = s.timing := rfl

/-! ### bump -/

@[simp] theorem State.bump_pending (o : Obj) : (s.bump o).pending = s.pending := rfl
@[simp] theorem State.bump_free (o : Obj) : (s.bump o).free = s.free := rfl
@[simp] theorem State.bump_now (o : Obj) : (s.bump o).now = s.now := rfl
@[simp] theorem State.bump_clock (o : Obj) : (s.bump o).clock = s.clock := rfl
@[simp] theorem State.bump_variant (o : Obj) : (s.bump o).variant = s.variant := rfl
@[simp] theorem State.bump_regs (o : Obj) : (s.bump o).regs = Assoc.set o.key (o.ty.count (s.reg o) 1) s.regs := rfl
@[simp] theorem State.bump_mem (o : Obj) : (s.bump o).mem = s.mem := rfl
@[simp] theorem State.bump_veils (o : Obj) : (s.bump o).veils = s.veils := rfl
@[simp] theorem State.bump_resp (o : Obj) : (s.bump o).resp = s.resp := rfl
@[simp] theorem State.bump_out (o : Obj) : (s.bump o).out = s.out := rfl
@[simp] theorem State.bump_txHeld (o : Obj) : (s.bump o).txHeld = s.txHeld := rfl
@[simp] theorem State.bump_seqWait (o : Obj) : (s.bump o).seqWait = s.seqWait := rfl
@[simp] theorem State.bump_flog (o : Obj) : (s.bump o).flog = s.flog := rfl
@[simp] theorem State.bump_flogSeq (o : Obj) : (s.bump o).flogSeq = s.flogSeq := rfl
@[simp] theorem State.bump_logGate (o : Obj) : (s.bump o).logGate = s.logGate := rfl
@[simp] theorem State.bump_queues (o : Obj) : (s.bump o).queues = s.queues := rfl
@[simp] theorem State.bump_comb (o : Obj) : (s.bump o).comb = s.comb := rfl
@[simp] theorem State.bump_lastStatus (o : Obj) : (s.bump o).lastStatus = s.lastStatus := rfl
@[simp] theorem State.bump_engines (o : Obj) : (s.bump o).engines = s.engines := rfl
@[simp] theorem State.bump_hitches (o : Obj) : (s.bump o).hitches = s.hitches := rfl
@[simp] theorem State.bump_hitchNet (o : Obj) : (s.bump o).hitchNet = s.hitchNet := rfl
@[simp] theorem State.bump_syncOut (o : Obj) : (s.bump o).syncOut = s.syncOut := rfl
@[simp] theorem State.bump_hitchAwait (o : Obj) : (s.bump o).hitchAwait = s.hitchAwait := rfl
@[simp] theorem State.bump_failedNodes (o : Obj) : (s.bump o).failedNodes = s.failedNodes := rfl
@[simp] theorem State.bump_windows (o : Obj) : (s.bump o).windows = s.windows := rfl
@[simp] theorem State.bump_bankWait (o : Obj) : (s.bump o).bankWait = s.bankWait := rfl
@[simp] theorem State.bump_classes (o : Obj) : (s.bump o).classes = s.classes := rfl
@[simp] theorem State.bump_tiles (o : Obj) : (s.bump o).tiles = s.tiles := rfl
@[simp] theorem State.bump_sramCorr (o : Obj) : (s.bump o).sramCorr = s.sramCorr := rfl
@[simp] theorem State.bump_initial (o : Obj) : (s.bump o).initial = s.initial := rfl
@[simp] theorem State.bump_routers (o : Obj) : (s.bump o).routers = s.routers := rfl
@[simp] theorem State.bump_gateways (o : Obj) : (s.bump o).gateways = s.gateways := rfl
@[simp] theorem State.bump_gatewayFrcvd (o : Obj) : (s.bump o).gatewayFrcvd = s.gatewayFrcvd := rfl
@[simp] theorem State.bump_gatewaySrcvd (o : Obj) : (s.bump o).gatewaySrcvd = s.gatewaySrcvd := rfl
@[simp] theorem State.bump_route0 (o : Obj) : (s.bump o).route0 = s.route0 := rfl
@[simp] theorem State.bump_route1 (o : Obj) : (s.bump o).route1 = s.route1 := rfl
@[simp] theorem State.bump_groups0 (o : Obj) : (s.bump o).groups0 = s.groups0 := rfl
@[simp] theorem State.bump_groups1 (o : Obj) : (s.bump o).groups1 = s.groups1 := rfl
@[simp] theorem State.bump_members0 (o : Obj) : (s.bump o).members0 = s.members0 := rfl
@[simp] theorem State.bump_members1 (o : Obj) : (s.bump o).members1 = s.members1 := rfl
@[simp] theorem State.bump_stores (o : Obj) : (s.bump o).stores = s.stores := rfl
@[simp] theorem State.bump_fetch (o : Obj) : (s.bump o).fetch = s.fetch := rfl
@[simp] theorem State.bump_gateIn (o : Obj) : (s.bump o).gateIn = s.gateIn := rfl
@[simp] theorem State.bump_gateRx (o : Obj) : (s.bump o).gateRx = s.gateRx := rfl
@[simp] theorem State.bump_centreNext (o : Obj) : (s.bump o).centreNext = s.centreNext := rfl
@[simp] theorem State.bump_remoteHold (o : Obj) : (s.bump o).remoteHold = s.remoteHold := rfl
@[simp] theorem State.bump_spillAt (o : Obj) : (s.bump o).spillAt = s.spillAt := rfl
@[simp] theorem State.bump_slots0 (o : Obj) : (s.bump o).slots0 = s.slots0 := rfl
@[simp] theorem State.bump_slots1 (o : Obj) : (s.bump o).slots1 = s.slots1 := rfl
@[simp] theorem State.bump_slotVersion (o : Obj) : (s.bump o).slotVersion = s.slotVersion := rfl
@[simp] theorem State.bump_switchIn (o : Obj) : (s.bump o).switchIn = s.switchIn := rfl
@[simp] theorem State.bump_drainFrom (o : Obj) : (s.bump o).drainFrom = s.drainFrom := rfl
@[simp] theorem State.bump_fabric (o : Obj) : (s.bump o).fabric = s.fabric := rfl
@[simp] theorem State.bump_learning (o : Obj) : (s.bump o).learning = s.learning := rfl
@[simp] theorem State.bump_census (o : Obj) : (s.bump o).census = s.census := rfl
@[simp] theorem State.bump_dense (o : Obj) : (s.bump o).dense = s.dense := rfl
@[simp] theorem State.bump_moved (o : Obj) : (s.bump o).moved = s.moved := rfl
@[simp] theorem State.bump_host (o : Obj) : (s.bump o).host = s.host := rfl
@[simp] theorem State.bump_intake (o : Obj) : (s.bump o).intake = s.intake := rfl
@[simp] theorem State.bump_power (o : Obj) : (s.bump o).power = s.power := rfl
@[simp] theorem State.bump_security (o : Obj) : (s.bump o).security = s.security := rfl
@[simp] theorem State.bump_update (o : Obj) : (s.bump o).update = s.update := rfl
@[simp] theorem State.bump_harness (o : Obj) : (s.bump o).harness = s.harness := rfl
@[simp] theorem State.bump_tether (o : Obj) : (s.bump o).tether = s.tether := rfl
@[simp] theorem State.bump_timing (o : Obj) : (s.bump o).timing = s.timing := rfl

/-! ### setBit -/

@[simp] theorem State.setBit_pending (o : Obj) (i : Nat) (b : Bool) : (s.setBit o i b).pending = s.pending := rfl
@[simp] theorem State.setBit_free (o : Obj) (i : Nat) (b : Bool) : (s.setBit o i b).free = s.free := rfl
@[simp] theorem State.setBit_now (o : Obj) (i : Nat) (b : Bool) : (s.setBit o i b).now = s.now := rfl
@[simp] theorem State.setBit_clock (o : Obj) (i : Nat) (b : Bool) : (s.setBit o i b).clock = s.clock := rfl
@[simp] theorem State.setBit_variant (o : Obj) (i : Nat) (b : Bool) : (s.setBit o i b).variant = s.variant := rfl
@[simp] theorem State.setBit_regs (o : Obj) (i : Nat) (b : Bool) : (s.setBit o i b).regs = Assoc.set o.key (setBitField (s.reg o) i 1 (boolNat b)) s.regs := rfl
@[simp] theorem State.setBit_mem (o : Obj) (i : Nat) (b : Bool) : (s.setBit o i b).mem = s.mem := rfl
@[simp] theorem State.setBit_veils (o : Obj) (i : Nat) (b : Bool) : (s.setBit o i b).veils = s.veils := rfl
@[simp] theorem State.setBit_resp (o : Obj) (i : Nat) (b : Bool) : (s.setBit o i b).resp = s.resp := rfl
@[simp] theorem State.setBit_out (o : Obj) (i : Nat) (b : Bool) : (s.setBit o i b).out = s.out := rfl
@[simp] theorem State.setBit_txHeld (o : Obj) (i : Nat) (b : Bool) : (s.setBit o i b).txHeld = s.txHeld := rfl
@[simp] theorem State.setBit_seqWait (o : Obj) (i : Nat) (b : Bool) : (s.setBit o i b).seqWait = s.seqWait := rfl
@[simp] theorem State.setBit_flog (o : Obj) (i : Nat) (b : Bool) : (s.setBit o i b).flog = s.flog := rfl
@[simp] theorem State.setBit_flogSeq (o : Obj) (i : Nat) (b : Bool) : (s.setBit o i b).flogSeq = s.flogSeq := rfl
@[simp] theorem State.setBit_logGate (o : Obj) (i : Nat) (b : Bool) : (s.setBit o i b).logGate = s.logGate := rfl
@[simp] theorem State.setBit_queues (o : Obj) (i : Nat) (b : Bool) : (s.setBit o i b).queues = s.queues := rfl
@[simp] theorem State.setBit_comb (o : Obj) (i : Nat) (b : Bool) : (s.setBit o i b).comb = s.comb := rfl
@[simp] theorem State.setBit_lastStatus (o : Obj) (i : Nat) (b : Bool) : (s.setBit o i b).lastStatus = s.lastStatus := rfl
@[simp] theorem State.setBit_engines (o : Obj) (i : Nat) (b : Bool) : (s.setBit o i b).engines = s.engines := rfl
@[simp] theorem State.setBit_hitches (o : Obj) (i : Nat) (b : Bool) : (s.setBit o i b).hitches = s.hitches := rfl
@[simp] theorem State.setBit_hitchNet (o : Obj) (i : Nat) (b : Bool) : (s.setBit o i b).hitchNet = s.hitchNet := rfl
@[simp] theorem State.setBit_syncOut (o : Obj) (i : Nat) (b : Bool) : (s.setBit o i b).syncOut = s.syncOut := rfl
@[simp] theorem State.setBit_hitchAwait (o : Obj) (i : Nat) (b : Bool) : (s.setBit o i b).hitchAwait = s.hitchAwait := rfl
@[simp] theorem State.setBit_failedNodes (o : Obj) (i : Nat) (b : Bool) : (s.setBit o i b).failedNodes = s.failedNodes := rfl
@[simp] theorem State.setBit_windows (o : Obj) (i : Nat) (b : Bool) : (s.setBit o i b).windows = s.windows := rfl
@[simp] theorem State.setBit_bankWait (o : Obj) (i : Nat) (b : Bool) : (s.setBit o i b).bankWait = s.bankWait := rfl
@[simp] theorem State.setBit_classes (o : Obj) (i : Nat) (b : Bool) : (s.setBit o i b).classes = s.classes := rfl
@[simp] theorem State.setBit_tiles (o : Obj) (i : Nat) (b : Bool) : (s.setBit o i b).tiles = s.tiles := rfl
@[simp] theorem State.setBit_sramCorr (o : Obj) (i : Nat) (b : Bool) : (s.setBit o i b).sramCorr = s.sramCorr := rfl
@[simp] theorem State.setBit_initial (o : Obj) (i : Nat) (b : Bool) : (s.setBit o i b).initial = s.initial := rfl
@[simp] theorem State.setBit_routers (o : Obj) (i : Nat) (b : Bool) : (s.setBit o i b).routers = s.routers := rfl
@[simp] theorem State.setBit_gateways (o : Obj) (i : Nat) (b : Bool) : (s.setBit o i b).gateways = s.gateways := rfl
@[simp] theorem State.setBit_gatewayFrcvd (o : Obj) (i : Nat) (b : Bool) : (s.setBit o i b).gatewayFrcvd = s.gatewayFrcvd := rfl
@[simp] theorem State.setBit_gatewaySrcvd (o : Obj) (i : Nat) (b : Bool) : (s.setBit o i b).gatewaySrcvd = s.gatewaySrcvd := rfl
@[simp] theorem State.setBit_route0 (o : Obj) (i : Nat) (b : Bool) : (s.setBit o i b).route0 = s.route0 := rfl
@[simp] theorem State.setBit_route1 (o : Obj) (i : Nat) (b : Bool) : (s.setBit o i b).route1 = s.route1 := rfl
@[simp] theorem State.setBit_groups0 (o : Obj) (i : Nat) (b : Bool) : (s.setBit o i b).groups0 = s.groups0 := rfl
@[simp] theorem State.setBit_groups1 (o : Obj) (i : Nat) (b : Bool) : (s.setBit o i b).groups1 = s.groups1 := rfl
@[simp] theorem State.setBit_members0 (o : Obj) (i : Nat) (b : Bool) : (s.setBit o i b).members0 = s.members0 := rfl
@[simp] theorem State.setBit_members1 (o : Obj) (i : Nat) (b : Bool) : (s.setBit o i b).members1 = s.members1 := rfl
@[simp] theorem State.setBit_stores (o : Obj) (i : Nat) (b : Bool) : (s.setBit o i b).stores = s.stores := rfl
@[simp] theorem State.setBit_fetch (o : Obj) (i : Nat) (b : Bool) : (s.setBit o i b).fetch = s.fetch := rfl
@[simp] theorem State.setBit_gateIn (o : Obj) (i : Nat) (b : Bool) : (s.setBit o i b).gateIn = s.gateIn := rfl
@[simp] theorem State.setBit_gateRx (o : Obj) (i : Nat) (b : Bool) : (s.setBit o i b).gateRx = s.gateRx := rfl
@[simp] theorem State.setBit_centreNext (o : Obj) (i : Nat) (b : Bool) : (s.setBit o i b).centreNext = s.centreNext := rfl
@[simp] theorem State.setBit_remoteHold (o : Obj) (i : Nat) (b : Bool) : (s.setBit o i b).remoteHold = s.remoteHold := rfl
@[simp] theorem State.setBit_spillAt (o : Obj) (i : Nat) (b : Bool) : (s.setBit o i b).spillAt = s.spillAt := rfl
@[simp] theorem State.setBit_slots0 (o : Obj) (i : Nat) (b : Bool) : (s.setBit o i b).slots0 = s.slots0 := rfl
@[simp] theorem State.setBit_slots1 (o : Obj) (i : Nat) (b : Bool) : (s.setBit o i b).slots1 = s.slots1 := rfl
@[simp] theorem State.setBit_slotVersion (o : Obj) (i : Nat) (b : Bool) : (s.setBit o i b).slotVersion = s.slotVersion := rfl
@[simp] theorem State.setBit_switchIn (o : Obj) (i : Nat) (b : Bool) : (s.setBit o i b).switchIn = s.switchIn := rfl
@[simp] theorem State.setBit_drainFrom (o : Obj) (i : Nat) (b : Bool) : (s.setBit o i b).drainFrom = s.drainFrom := rfl
@[simp] theorem State.setBit_fabric (o : Obj) (i : Nat) (b : Bool) : (s.setBit o i b).fabric = s.fabric := rfl
@[simp] theorem State.setBit_learning (o : Obj) (i : Nat) (b : Bool) : (s.setBit o i b).learning = s.learning := rfl
@[simp] theorem State.setBit_census (o : Obj) (i : Nat) (b : Bool) : (s.setBit o i b).census = s.census := rfl
@[simp] theorem State.setBit_dense (o : Obj) (i : Nat) (b : Bool) : (s.setBit o i b).dense = s.dense := rfl
@[simp] theorem State.setBit_moved (o : Obj) (i : Nat) (b : Bool) : (s.setBit o i b).moved = s.moved := rfl
@[simp] theorem State.setBit_host (o : Obj) (i : Nat) (b : Bool) : (s.setBit o i b).host = s.host := rfl
@[simp] theorem State.setBit_intake (o : Obj) (i : Nat) (b : Bool) : (s.setBit o i b).intake = s.intake := rfl
@[simp] theorem State.setBit_power (o : Obj) (i : Nat) (b : Bool) : (s.setBit o i b).power = s.power := rfl
@[simp] theorem State.setBit_security (o : Obj) (i : Nat) (b : Bool) : (s.setBit o i b).security = s.security := rfl
@[simp] theorem State.setBit_update (o : Obj) (i : Nat) (b : Bool) : (s.setBit o i b).update = s.update := rfl
@[simp] theorem State.setBit_harness (o : Obj) (i : Nat) (b : Bool) : (s.setBit o i b).harness = s.harness := rfl
@[simp] theorem State.setBit_tether (o : Obj) (i : Nat) (b : Bool) : (s.setBit o i b).tether = s.tether := rfl
@[simp] theorem State.setBit_timing (o : Obj) (i : Nat) (b : Bool) : (s.setBit o i b).timing = s.timing := rfl

/-! ### respond -/

@[simp] theorem State.respond_pending (r : Status) (d : List Byte) : (s.respond r d).pending = s.pending := rfl
@[simp] theorem State.respond_free (r : Status) (d : List Byte) : (s.respond r d).free = s.free := rfl
@[simp] theorem State.respond_now (r : Status) (d : List Byte) : (s.respond r d).now = s.now := rfl
@[simp] theorem State.respond_clock (r : Status) (d : List Byte) : (s.respond r d).clock = s.clock := rfl
@[simp] theorem State.respond_variant (r : Status) (d : List Byte) : (s.respond r d).variant = s.variant := rfl
@[simp] theorem State.respond_regs (r : Status) (d : List Byte) : (s.respond r d).regs = s.regs := rfl
@[simp] theorem State.respond_mem (r : Status) (d : List Byte) : (s.respond r d).mem = s.mem := rfl
@[simp] theorem State.respond_veils (r : Status) (d : List Byte) : (s.respond r d).veils = s.veils := rfl
@[simp] theorem State.respond_resp (r : Status) (d : List Byte) : (s.respond r d).resp = ⟨r, d⟩ := rfl
@[simp] theorem State.respond_out (r : Status) (d : List Byte) : (s.respond r d).out = s.out := rfl
@[simp] theorem State.respond_txHeld (r : Status) (d : List Byte) : (s.respond r d).txHeld = s.txHeld := rfl
@[simp] theorem State.respond_seqWait (r : Status) (d : List Byte) : (s.respond r d).seqWait = s.seqWait := rfl
@[simp] theorem State.respond_flog (r : Status) (d : List Byte) : (s.respond r d).flog = s.flog := rfl
@[simp] theorem State.respond_flogSeq (r : Status) (d : List Byte) : (s.respond r d).flogSeq = s.flogSeq := rfl
@[simp] theorem State.respond_logGate (r : Status) (d : List Byte) : (s.respond r d).logGate = s.logGate := rfl
@[simp] theorem State.respond_queues (r : Status) (d : List Byte) : (s.respond r d).queues = s.queues := rfl
@[simp] theorem State.respond_comb (r : Status) (d : List Byte) : (s.respond r d).comb = s.comb := rfl
@[simp] theorem State.respond_lastStatus (r : Status) (d : List Byte) : (s.respond r d).lastStatus = s.lastStatus := rfl
@[simp] theorem State.respond_engines (r : Status) (d : List Byte) : (s.respond r d).engines = s.engines := rfl
@[simp] theorem State.respond_hitches (r : Status) (d : List Byte) : (s.respond r d).hitches = s.hitches := rfl
@[simp] theorem State.respond_hitchNet (r : Status) (d : List Byte) : (s.respond r d).hitchNet = s.hitchNet := rfl
@[simp] theorem State.respond_syncOut (r : Status) (d : List Byte) : (s.respond r d).syncOut = s.syncOut := rfl
@[simp] theorem State.respond_hitchAwait (r : Status) (d : List Byte) : (s.respond r d).hitchAwait = s.hitchAwait := rfl
@[simp] theorem State.respond_failedNodes (r : Status) (d : List Byte) : (s.respond r d).failedNodes = s.failedNodes := rfl
@[simp] theorem State.respond_windows (r : Status) (d : List Byte) : (s.respond r d).windows = s.windows := rfl
@[simp] theorem State.respond_bankWait (r : Status) (d : List Byte) : (s.respond r d).bankWait = s.bankWait := rfl
@[simp] theorem State.respond_classes (r : Status) (d : List Byte) : (s.respond r d).classes = s.classes := rfl
@[simp] theorem State.respond_tiles (r : Status) (d : List Byte) : (s.respond r d).tiles = s.tiles := rfl
@[simp] theorem State.respond_sramCorr (r : Status) (d : List Byte) : (s.respond r d).sramCorr = s.sramCorr := rfl
@[simp] theorem State.respond_initial (r : Status) (d : List Byte) : (s.respond r d).initial = s.initial := rfl
@[simp] theorem State.respond_routers (r : Status) (d : List Byte) : (s.respond r d).routers = s.routers := rfl
@[simp] theorem State.respond_gateways (r : Status) (d : List Byte) : (s.respond r d).gateways = s.gateways := rfl
@[simp] theorem State.respond_gatewayFrcvd (r : Status) (d : List Byte) : (s.respond r d).gatewayFrcvd = s.gatewayFrcvd := rfl
@[simp] theorem State.respond_gatewaySrcvd (r : Status) (d : List Byte) : (s.respond r d).gatewaySrcvd = s.gatewaySrcvd := rfl
@[simp] theorem State.respond_route0 (r : Status) (d : List Byte) : (s.respond r d).route0 = s.route0 := rfl
@[simp] theorem State.respond_route1 (r : Status) (d : List Byte) : (s.respond r d).route1 = s.route1 := rfl
@[simp] theorem State.respond_groups0 (r : Status) (d : List Byte) : (s.respond r d).groups0 = s.groups0 := rfl
@[simp] theorem State.respond_groups1 (r : Status) (d : List Byte) : (s.respond r d).groups1 = s.groups1 := rfl
@[simp] theorem State.respond_members0 (r : Status) (d : List Byte) : (s.respond r d).members0 = s.members0 := rfl
@[simp] theorem State.respond_members1 (r : Status) (d : List Byte) : (s.respond r d).members1 = s.members1 := rfl
@[simp] theorem State.respond_stores (r : Status) (d : List Byte) : (s.respond r d).stores = s.stores := rfl
@[simp] theorem State.respond_fetch (r : Status) (d : List Byte) : (s.respond r d).fetch = s.fetch := rfl
@[simp] theorem State.respond_gateIn (r : Status) (d : List Byte) : (s.respond r d).gateIn = s.gateIn := rfl
@[simp] theorem State.respond_gateRx (r : Status) (d : List Byte) : (s.respond r d).gateRx = s.gateRx := rfl
@[simp] theorem State.respond_centreNext (r : Status) (d : List Byte) : (s.respond r d).centreNext = s.centreNext := rfl
@[simp] theorem State.respond_remoteHold (r : Status) (d : List Byte) : (s.respond r d).remoteHold = s.remoteHold := rfl
@[simp] theorem State.respond_spillAt (r : Status) (d : List Byte) : (s.respond r d).spillAt = s.spillAt := rfl
@[simp] theorem State.respond_slots0 (r : Status) (d : List Byte) : (s.respond r d).slots0 = s.slots0 := rfl
@[simp] theorem State.respond_slots1 (r : Status) (d : List Byte) : (s.respond r d).slots1 = s.slots1 := rfl
@[simp] theorem State.respond_slotVersion (r : Status) (d : List Byte) : (s.respond r d).slotVersion = s.slotVersion := rfl
@[simp] theorem State.respond_switchIn (r : Status) (d : List Byte) : (s.respond r d).switchIn = s.switchIn := rfl
@[simp] theorem State.respond_drainFrom (r : Status) (d : List Byte) : (s.respond r d).drainFrom = s.drainFrom := rfl
@[simp] theorem State.respond_fabric (r : Status) (d : List Byte) : (s.respond r d).fabric = s.fabric := rfl
@[simp] theorem State.respond_learning (r : Status) (d : List Byte) : (s.respond r d).learning = s.learning := rfl
@[simp] theorem State.respond_census (r : Status) (d : List Byte) : (s.respond r d).census = s.census := rfl
@[simp] theorem State.respond_dense (r : Status) (d : List Byte) : (s.respond r d).dense = s.dense := rfl
@[simp] theorem State.respond_moved (r : Status) (d : List Byte) : (s.respond r d).moved = s.moved := rfl
@[simp] theorem State.respond_host (r : Status) (d : List Byte) : (s.respond r d).host = s.host := rfl
@[simp] theorem State.respond_intake (r : Status) (d : List Byte) : (s.respond r d).intake = s.intake := rfl
@[simp] theorem State.respond_power (r : Status) (d : List Byte) : (s.respond r d).power = s.power := rfl
@[simp] theorem State.respond_security (r : Status) (d : List Byte) : (s.respond r d).security = s.security := rfl
@[simp] theorem State.respond_update (r : Status) (d : List Byte) : (s.respond r d).update = s.update := rfl
@[simp] theorem State.respond_harness (r : Status) (d : List Byte) : (s.respond r d).harness = s.harness := rfl
@[simp] theorem State.respond_tether (r : Status) (d : List Byte) : (s.respond r d).tether = s.tether := rfl
@[simp] theorem State.respond_timing (r : Status) (d : List Byte) : (s.respond r d).timing = s.timing := rfl

/-! ### emit -/

@[simp] theorem State.emit_pending (m : OutMsg) : (s.emit m).pending = s.pending := rfl
@[simp] theorem State.emit_free (m : OutMsg) : (s.emit m).free = s.free := rfl
@[simp] theorem State.emit_now (m : OutMsg) : (s.emit m).now = s.now := rfl
@[simp] theorem State.emit_clock (m : OutMsg) : (s.emit m).clock = s.clock := rfl
@[simp] theorem State.emit_variant (m : OutMsg) : (s.emit m).variant = s.variant := rfl
@[simp] theorem State.emit_regs (m : OutMsg) : (s.emit m).regs = s.regs := rfl
@[simp] theorem State.emit_mem (m : OutMsg) : (s.emit m).mem = s.mem := rfl
@[simp] theorem State.emit_veils (m : OutMsg) : (s.emit m).veils = s.veils := rfl
@[simp] theorem State.emit_resp (m : OutMsg) : (s.emit m).resp = s.resp := rfl
@[simp] theorem State.emit_out (m : OutMsg) : (s.emit m).out = s.out ++ [m] := rfl
@[simp] theorem State.emit_txHeld (m : OutMsg) : (s.emit m).txHeld = s.txHeld := rfl
@[simp] theorem State.emit_seqWait (m : OutMsg) : (s.emit m).seqWait = s.seqWait := rfl
@[simp] theorem State.emit_flog (m : OutMsg) : (s.emit m).flog = s.flog := rfl
@[simp] theorem State.emit_flogSeq (m : OutMsg) : (s.emit m).flogSeq = s.flogSeq := rfl
@[simp] theorem State.emit_logGate (m : OutMsg) : (s.emit m).logGate = s.logGate := rfl
@[simp] theorem State.emit_queues (m : OutMsg) : (s.emit m).queues = s.queues := rfl
@[simp] theorem State.emit_comb (m : OutMsg) : (s.emit m).comb = s.comb := rfl
@[simp] theorem State.emit_lastStatus (m : OutMsg) : (s.emit m).lastStatus = s.lastStatus := rfl
@[simp] theorem State.emit_engines (m : OutMsg) : (s.emit m).engines = s.engines := rfl
@[simp] theorem State.emit_hitches (m : OutMsg) : (s.emit m).hitches = s.hitches := rfl
@[simp] theorem State.emit_hitchNet (m : OutMsg) : (s.emit m).hitchNet = s.hitchNet := rfl
@[simp] theorem State.emit_syncOut (m : OutMsg) : (s.emit m).syncOut = s.syncOut := rfl
@[simp] theorem State.emit_hitchAwait (m : OutMsg) : (s.emit m).hitchAwait = s.hitchAwait := rfl
@[simp] theorem State.emit_failedNodes (m : OutMsg) : (s.emit m).failedNodes = s.failedNodes := rfl
@[simp] theorem State.emit_windows (m : OutMsg) : (s.emit m).windows = s.windows := rfl
@[simp] theorem State.emit_bankWait (m : OutMsg) : (s.emit m).bankWait = s.bankWait := rfl
@[simp] theorem State.emit_classes (m : OutMsg) : (s.emit m).classes = s.classes := rfl
@[simp] theorem State.emit_tiles (m : OutMsg) : (s.emit m).tiles = s.tiles := rfl
@[simp] theorem State.emit_sramCorr (m : OutMsg) : (s.emit m).sramCorr = s.sramCorr := rfl
@[simp] theorem State.emit_initial (m : OutMsg) : (s.emit m).initial = s.initial := rfl
@[simp] theorem State.emit_routers (m : OutMsg) : (s.emit m).routers = s.routers := rfl
@[simp] theorem State.emit_gateways (m : OutMsg) : (s.emit m).gateways = s.gateways := rfl
@[simp] theorem State.emit_gatewayFrcvd (m : OutMsg) : (s.emit m).gatewayFrcvd = s.gatewayFrcvd := rfl
@[simp] theorem State.emit_gatewaySrcvd (m : OutMsg) : (s.emit m).gatewaySrcvd = s.gatewaySrcvd := rfl
@[simp] theorem State.emit_route0 (m : OutMsg) : (s.emit m).route0 = s.route0 := rfl
@[simp] theorem State.emit_route1 (m : OutMsg) : (s.emit m).route1 = s.route1 := rfl
@[simp] theorem State.emit_groups0 (m : OutMsg) : (s.emit m).groups0 = s.groups0 := rfl
@[simp] theorem State.emit_groups1 (m : OutMsg) : (s.emit m).groups1 = s.groups1 := rfl
@[simp] theorem State.emit_members0 (m : OutMsg) : (s.emit m).members0 = s.members0 := rfl
@[simp] theorem State.emit_members1 (m : OutMsg) : (s.emit m).members1 = s.members1 := rfl
@[simp] theorem State.emit_stores (m : OutMsg) : (s.emit m).stores = s.stores := rfl
@[simp] theorem State.emit_fetch (m : OutMsg) : (s.emit m).fetch = s.fetch := rfl
@[simp] theorem State.emit_gateIn (m : OutMsg) : (s.emit m).gateIn = s.gateIn := rfl
@[simp] theorem State.emit_gateRx (m : OutMsg) : (s.emit m).gateRx = s.gateRx := rfl
@[simp] theorem State.emit_centreNext (m : OutMsg) : (s.emit m).centreNext = s.centreNext := rfl
@[simp] theorem State.emit_remoteHold (m : OutMsg) : (s.emit m).remoteHold = s.remoteHold := rfl
@[simp] theorem State.emit_spillAt (m : OutMsg) : (s.emit m).spillAt = s.spillAt := rfl
@[simp] theorem State.emit_slots0 (m : OutMsg) : (s.emit m).slots0 = s.slots0 := rfl
@[simp] theorem State.emit_slots1 (m : OutMsg) : (s.emit m).slots1 = s.slots1 := rfl
@[simp] theorem State.emit_slotVersion (m : OutMsg) : (s.emit m).slotVersion = s.slotVersion := rfl
@[simp] theorem State.emit_switchIn (m : OutMsg) : (s.emit m).switchIn = s.switchIn := rfl
@[simp] theorem State.emit_drainFrom (m : OutMsg) : (s.emit m).drainFrom = s.drainFrom := rfl
@[simp] theorem State.emit_fabric (m : OutMsg) : (s.emit m).fabric = s.fabric := rfl
@[simp] theorem State.emit_learning (m : OutMsg) : (s.emit m).learning = s.learning := rfl
@[simp] theorem State.emit_census (m : OutMsg) : (s.emit m).census = s.census := rfl
@[simp] theorem State.emit_dense (m : OutMsg) : (s.emit m).dense = s.dense := rfl
@[simp] theorem State.emit_moved (m : OutMsg) : (s.emit m).moved = s.moved := rfl
@[simp] theorem State.emit_host (m : OutMsg) : (s.emit m).host = s.host := rfl
@[simp] theorem State.emit_intake (m : OutMsg) : (s.emit m).intake = s.intake := rfl
@[simp] theorem State.emit_power (m : OutMsg) : (s.emit m).power = s.power := rfl
@[simp] theorem State.emit_security (m : OutMsg) : (s.emit m).security = s.security := rfl
@[simp] theorem State.emit_update (m : OutMsg) : (s.emit m).update = s.update := rfl
@[simp] theorem State.emit_harness (m : OutMsg) : (s.emit m).harness = s.harness := rfl
@[simp] theorem State.emit_tether (m : OutMsg) : (s.emit m).tether = s.tether := rfl
@[simp] theorem State.emit_timing (m : OutMsg) : (s.emit m).timing = s.timing := rfl

/-! ### setBytes -/

@[simp] theorem State.setBytes_pending (a : Nat) (l : List Byte) : (s.setBytes a l).pending = s.pending := rfl
@[simp] theorem State.setBytes_free (a : Nat) (l : List Byte) : (s.setBytes a l).free = s.free := rfl
@[simp] theorem State.setBytes_now (a : Nat) (l : List Byte) : (s.setBytes a l).now = s.now := rfl
@[simp] theorem State.setBytes_clock (a : Nat) (l : List Byte) : (s.setBytes a l).clock = s.clock := rfl
@[simp] theorem State.setBytes_variant (a : Nat) (l : List Byte) : (s.setBytes a l).variant = s.variant := rfl
@[simp] theorem State.setBytes_regs (a : Nat) (l : List Byte) : (s.setBytes a l).regs = s.regs := rfl
@[simp] theorem State.setBytes_mem (a : Nat) (l : List Byte) : (s.setBytes a l).mem = Memory.writeBytes s.mem a (if s.veils = [] then l else s.veiled a l) := rfl
@[simp] theorem State.setBytes_veils (a : Nat) (l : List Byte) : (s.setBytes a l).veils = s.veils := rfl
@[simp] theorem State.setBytes_resp (a : Nat) (l : List Byte) : (s.setBytes a l).resp = s.resp := rfl
@[simp] theorem State.setBytes_out (a : Nat) (l : List Byte) : (s.setBytes a l).out = s.out := rfl
@[simp] theorem State.setBytes_txHeld (a : Nat) (l : List Byte) : (s.setBytes a l).txHeld = s.txHeld := rfl
@[simp] theorem State.setBytes_seqWait (a : Nat) (l : List Byte) : (s.setBytes a l).seqWait = s.seqWait := rfl
@[simp] theorem State.setBytes_flog (a : Nat) (l : List Byte) : (s.setBytes a l).flog = s.flog := rfl
@[simp] theorem State.setBytes_flogSeq (a : Nat) (l : List Byte) : (s.setBytes a l).flogSeq = s.flogSeq := rfl
@[simp] theorem State.setBytes_logGate (a : Nat) (l : List Byte) : (s.setBytes a l).logGate = s.logGate := rfl
@[simp] theorem State.setBytes_queues (a : Nat) (l : List Byte) : (s.setBytes a l).queues = s.queues := rfl
@[simp] theorem State.setBytes_comb (a : Nat) (l : List Byte) : (s.setBytes a l).comb = s.comb := rfl
@[simp] theorem State.setBytes_lastStatus (a : Nat) (l : List Byte) : (s.setBytes a l).lastStatus = s.lastStatus := rfl
@[simp] theorem State.setBytes_engines (a : Nat) (l : List Byte) : (s.setBytes a l).engines = s.engines := rfl
@[simp] theorem State.setBytes_hitches (a : Nat) (l : List Byte) : (s.setBytes a l).hitches = s.hitches := rfl
@[simp] theorem State.setBytes_hitchNet (a : Nat) (l : List Byte) : (s.setBytes a l).hitchNet = s.hitchNet := rfl
@[simp] theorem State.setBytes_syncOut (a : Nat) (l : List Byte) : (s.setBytes a l).syncOut = s.syncOut := rfl
@[simp] theorem State.setBytes_hitchAwait (a : Nat) (l : List Byte) : (s.setBytes a l).hitchAwait = s.hitchAwait := rfl
@[simp] theorem State.setBytes_failedNodes (a : Nat) (l : List Byte) : (s.setBytes a l).failedNodes = s.failedNodes := rfl
@[simp] theorem State.setBytes_windows (a : Nat) (l : List Byte) : (s.setBytes a l).windows = s.windows := rfl
@[simp] theorem State.setBytes_bankWait (a : Nat) (l : List Byte) : (s.setBytes a l).bankWait = s.bankWait := rfl
@[simp] theorem State.setBytes_classes (a : Nat) (l : List Byte) : (s.setBytes a l).classes = s.classes := rfl
@[simp] theorem State.setBytes_tiles (a : Nat) (l : List Byte) : (s.setBytes a l).tiles = s.tiles := rfl
@[simp] theorem State.setBytes_sramCorr (a : Nat) (l : List Byte) : (s.setBytes a l).sramCorr = s.sramCorr := rfl
@[simp] theorem State.setBytes_initial (a : Nat) (l : List Byte) : (s.setBytes a l).initial = s.initial := rfl
@[simp] theorem State.setBytes_routers (a : Nat) (l : List Byte) : (s.setBytes a l).routers = s.routers := rfl
@[simp] theorem State.setBytes_gateways (a : Nat) (l : List Byte) : (s.setBytes a l).gateways = s.gateways := rfl
@[simp] theorem State.setBytes_gatewayFrcvd (a : Nat) (l : List Byte) : (s.setBytes a l).gatewayFrcvd = s.gatewayFrcvd := rfl
@[simp] theorem State.setBytes_gatewaySrcvd (a : Nat) (l : List Byte) : (s.setBytes a l).gatewaySrcvd = s.gatewaySrcvd := rfl
@[simp] theorem State.setBytes_route0 (a : Nat) (l : List Byte) : (s.setBytes a l).route0 = s.route0 := rfl
@[simp] theorem State.setBytes_route1 (a : Nat) (l : List Byte) : (s.setBytes a l).route1 = s.route1 := rfl
@[simp] theorem State.setBytes_groups0 (a : Nat) (l : List Byte) : (s.setBytes a l).groups0 = s.groups0 := rfl
@[simp] theorem State.setBytes_groups1 (a : Nat) (l : List Byte) : (s.setBytes a l).groups1 = s.groups1 := rfl
@[simp] theorem State.setBytes_members0 (a : Nat) (l : List Byte) : (s.setBytes a l).members0 = s.members0 := rfl
@[simp] theorem State.setBytes_members1 (a : Nat) (l : List Byte) : (s.setBytes a l).members1 = s.members1 := rfl
@[simp] theorem State.setBytes_stores (a : Nat) (l : List Byte) : (s.setBytes a l).stores = s.stores := rfl
@[simp] theorem State.setBytes_fetch (a : Nat) (l : List Byte) : (s.setBytes a l).fetch = s.fetch := rfl
@[simp] theorem State.setBytes_gateIn (a : Nat) (l : List Byte) : (s.setBytes a l).gateIn = s.gateIn := rfl
@[simp] theorem State.setBytes_gateRx (a : Nat) (l : List Byte) : (s.setBytes a l).gateRx = s.gateRx := rfl
@[simp] theorem State.setBytes_centreNext (a : Nat) (l : List Byte) : (s.setBytes a l).centreNext = s.centreNext := rfl
@[simp] theorem State.setBytes_remoteHold (a : Nat) (l : List Byte) : (s.setBytes a l).remoteHold = s.remoteHold := rfl
@[simp] theorem State.setBytes_spillAt (a : Nat) (l : List Byte) : (s.setBytes a l).spillAt = s.spillAt := rfl
@[simp] theorem State.setBytes_slots0 (a : Nat) (l : List Byte) : (s.setBytes a l).slots0 = s.slots0 := rfl
@[simp] theorem State.setBytes_slots1 (a : Nat) (l : List Byte) : (s.setBytes a l).slots1 = s.slots1 := rfl
@[simp] theorem State.setBytes_slotVersion (a : Nat) (l : List Byte) : (s.setBytes a l).slotVersion = s.slotVersion := rfl
@[simp] theorem State.setBytes_switchIn (a : Nat) (l : List Byte) : (s.setBytes a l).switchIn = s.switchIn := rfl
@[simp] theorem State.setBytes_drainFrom (a : Nat) (l : List Byte) : (s.setBytes a l).drainFrom = s.drainFrom := rfl
@[simp] theorem State.setBytes_fabric (a : Nat) (l : List Byte) : (s.setBytes a l).fabric = s.fabric := rfl
@[simp] theorem State.setBytes_learning (a : Nat) (l : List Byte) : (s.setBytes a l).learning = s.learning := rfl
@[simp] theorem State.setBytes_census (a : Nat) (l : List Byte) : (s.setBytes a l).census = s.census := rfl
@[simp] theorem State.setBytes_dense (a : Nat) (l : List Byte) : (s.setBytes a l).dense = s.dense := rfl
@[simp] theorem State.setBytes_moved (a : Nat) (l : List Byte) : (s.setBytes a l).moved = s.moved := rfl
@[simp] theorem State.setBytes_host (a : Nat) (l : List Byte) : (s.setBytes a l).host = s.host := rfl
@[simp] theorem State.setBytes_intake (a : Nat) (l : List Byte) : (s.setBytes a l).intake = s.intake := rfl
@[simp] theorem State.setBytes_power (a : Nat) (l : List Byte) : (s.setBytes a l).power = s.power := rfl
@[simp] theorem State.setBytes_security (a : Nat) (l : List Byte) : (s.setBytes a l).security = s.security := rfl
@[simp] theorem State.setBytes_update (a : Nat) (l : List Byte) : (s.setBytes a l).update = s.update := rfl
@[simp] theorem State.setBytes_harness (a : Nat) (l : List Byte) : (s.setBytes a l).harness = s.harness := rfl
@[simp] theorem State.setBytes_tether (a : Nat) (l : List Byte) : (s.setBytes a l).tether = s.tether := rfl
@[simp] theorem State.setBytes_timing (a : Nat) (l : List Byte) : (s.setBytes a l).timing = s.timing := rfl

/-! ### setWord -/

@[simp] theorem State.setWord_pending (a n v : Nat) : (s.setWord a n v).pending = s.pending := rfl
@[simp] theorem State.setWord_free (a n v : Nat) : (s.setWord a n v).free = s.free := rfl
@[simp] theorem State.setWord_now (a n v : Nat) : (s.setWord a n v).now = s.now := rfl
@[simp] theorem State.setWord_clock (a n v : Nat) : (s.setWord a n v).clock = s.clock := rfl
@[simp] theorem State.setWord_variant (a n v : Nat) : (s.setWord a n v).variant = s.variant := rfl
@[simp] theorem State.setWord_regs (a n v : Nat) : (s.setWord a n v).regs = s.regs := rfl
@[simp] theorem State.setWord_mem (a n v : Nat) : (s.setWord a n v).mem = Memory.writeBytes s.mem a (if s.veils = [] then leBytes n v else s.veiled a (leBytes n v)) := rfl
@[simp] theorem State.setWord_veils (a n v : Nat) : (s.setWord a n v).veils = s.veils := rfl
@[simp] theorem State.setWord_resp (a n v : Nat) : (s.setWord a n v).resp = s.resp := rfl
@[simp] theorem State.setWord_out (a n v : Nat) : (s.setWord a n v).out = s.out := rfl
@[simp] theorem State.setWord_txHeld (a n v : Nat) : (s.setWord a n v).txHeld = s.txHeld := rfl
@[simp] theorem State.setWord_seqWait (a n v : Nat) : (s.setWord a n v).seqWait = s.seqWait := rfl
@[simp] theorem State.setWord_flog (a n v : Nat) : (s.setWord a n v).flog = s.flog := rfl
@[simp] theorem State.setWord_flogSeq (a n v : Nat) : (s.setWord a n v).flogSeq = s.flogSeq := rfl
@[simp] theorem State.setWord_logGate (a n v : Nat) : (s.setWord a n v).logGate = s.logGate := rfl
@[simp] theorem State.setWord_queues (a n v : Nat) : (s.setWord a n v).queues = s.queues := rfl
@[simp] theorem State.setWord_comb (a n v : Nat) : (s.setWord a n v).comb = s.comb := rfl
@[simp] theorem State.setWord_lastStatus (a n v : Nat) : (s.setWord a n v).lastStatus = s.lastStatus := rfl
@[simp] theorem State.setWord_engines (a n v : Nat) : (s.setWord a n v).engines = s.engines := rfl
@[simp] theorem State.setWord_hitches (a n v : Nat) : (s.setWord a n v).hitches = s.hitches := rfl
@[simp] theorem State.setWord_hitchNet (a n v : Nat) : (s.setWord a n v).hitchNet = s.hitchNet := rfl
@[simp] theorem State.setWord_syncOut (a n v : Nat) : (s.setWord a n v).syncOut = s.syncOut := rfl
@[simp] theorem State.setWord_hitchAwait (a n v : Nat) : (s.setWord a n v).hitchAwait = s.hitchAwait := rfl
@[simp] theorem State.setWord_failedNodes (a n v : Nat) : (s.setWord a n v).failedNodes = s.failedNodes := rfl
@[simp] theorem State.setWord_windows (a n v : Nat) : (s.setWord a n v).windows = s.windows := rfl
@[simp] theorem State.setWord_bankWait (a n v : Nat) : (s.setWord a n v).bankWait = s.bankWait := rfl
@[simp] theorem State.setWord_classes (a n v : Nat) : (s.setWord a n v).classes = s.classes := rfl
@[simp] theorem State.setWord_tiles (a n v : Nat) : (s.setWord a n v).tiles = s.tiles := rfl
@[simp] theorem State.setWord_sramCorr (a n v : Nat) : (s.setWord a n v).sramCorr = s.sramCorr := rfl
@[simp] theorem State.setWord_initial (a n v : Nat) : (s.setWord a n v).initial = s.initial := rfl
@[simp] theorem State.setWord_routers (a n v : Nat) : (s.setWord a n v).routers = s.routers := rfl
@[simp] theorem State.setWord_gateways (a n v : Nat) : (s.setWord a n v).gateways = s.gateways := rfl
@[simp] theorem State.setWord_gatewayFrcvd (a n v : Nat) : (s.setWord a n v).gatewayFrcvd = s.gatewayFrcvd := rfl
@[simp] theorem State.setWord_gatewaySrcvd (a n v : Nat) : (s.setWord a n v).gatewaySrcvd = s.gatewaySrcvd := rfl
@[simp] theorem State.setWord_route0 (a n v : Nat) : (s.setWord a n v).route0 = s.route0 := rfl
@[simp] theorem State.setWord_route1 (a n v : Nat) : (s.setWord a n v).route1 = s.route1 := rfl
@[simp] theorem State.setWord_groups0 (a n v : Nat) : (s.setWord a n v).groups0 = s.groups0 := rfl
@[simp] theorem State.setWord_groups1 (a n v : Nat) : (s.setWord a n v).groups1 = s.groups1 := rfl
@[simp] theorem State.setWord_members0 (a n v : Nat) : (s.setWord a n v).members0 = s.members0 := rfl
@[simp] theorem State.setWord_members1 (a n v : Nat) : (s.setWord a n v).members1 = s.members1 := rfl
@[simp] theorem State.setWord_stores (a n v : Nat) : (s.setWord a n v).stores = s.stores := rfl
@[simp] theorem State.setWord_fetch (a n v : Nat) : (s.setWord a n v).fetch = s.fetch := rfl
@[simp] theorem State.setWord_gateIn (a n v : Nat) : (s.setWord a n v).gateIn = s.gateIn := rfl
@[simp] theorem State.setWord_gateRx (a n v : Nat) : (s.setWord a n v).gateRx = s.gateRx := rfl
@[simp] theorem State.setWord_centreNext (a n v : Nat) : (s.setWord a n v).centreNext = s.centreNext := rfl
@[simp] theorem State.setWord_remoteHold (a n v : Nat) : (s.setWord a n v).remoteHold = s.remoteHold := rfl
@[simp] theorem State.setWord_spillAt (a n v : Nat) : (s.setWord a n v).spillAt = s.spillAt := rfl
@[simp] theorem State.setWord_slots0 (a n v : Nat) : (s.setWord a n v).slots0 = s.slots0 := rfl
@[simp] theorem State.setWord_slots1 (a n v : Nat) : (s.setWord a n v).slots1 = s.slots1 := rfl
@[simp] theorem State.setWord_slotVersion (a n v : Nat) : (s.setWord a n v).slotVersion = s.slotVersion := rfl
@[simp] theorem State.setWord_switchIn (a n v : Nat) : (s.setWord a n v).switchIn = s.switchIn := rfl
@[simp] theorem State.setWord_drainFrom (a n v : Nat) : (s.setWord a n v).drainFrom = s.drainFrom := rfl
@[simp] theorem State.setWord_fabric (a n v : Nat) : (s.setWord a n v).fabric = s.fabric := rfl
@[simp] theorem State.setWord_learning (a n v : Nat) : (s.setWord a n v).learning = s.learning := rfl
@[simp] theorem State.setWord_census (a n v : Nat) : (s.setWord a n v).census = s.census := rfl
@[simp] theorem State.setWord_dense (a n v : Nat) : (s.setWord a n v).dense = s.dense := rfl
@[simp] theorem State.setWord_moved (a n v : Nat) : (s.setWord a n v).moved = s.moved := rfl
@[simp] theorem State.setWord_host (a n v : Nat) : (s.setWord a n v).host = s.host := rfl
@[simp] theorem State.setWord_intake (a n v : Nat) : (s.setWord a n v).intake = s.intake := rfl
@[simp] theorem State.setWord_power (a n v : Nat) : (s.setWord a n v).power = s.power := rfl
@[simp] theorem State.setWord_security (a n v : Nat) : (s.setWord a n v).security = s.security := rfl
@[simp] theorem State.setWord_update (a n v : Nat) : (s.setWord a n v).update = s.update := rfl
@[simp] theorem State.setWord_harness (a n v : Nat) : (s.setWord a n v).harness = s.harness := rfl
@[simp] theorem State.setWord_tether (a n v : Nat) : (s.setWord a n v).tether = s.tether := rfl
@[simp] theorem State.setWord_timing (a n v : Nat) : (s.setWord a n v).timing = s.timing := rfl

/-! ### setQueue -/

@[simp] theorem State.setQueue_pending (q : Nat) (b : Queue) : (s.setQueue q b).pending = s.pending := rfl
@[simp] theorem State.setQueue_free (q : Nat) (b : Queue) : (s.setQueue q b).free = s.free := rfl
@[simp] theorem State.setQueue_now (q : Nat) (b : Queue) : (s.setQueue q b).now = s.now := rfl
@[simp] theorem State.setQueue_clock (q : Nat) (b : Queue) : (s.setQueue q b).clock = s.clock := rfl
@[simp] theorem State.setQueue_variant (q : Nat) (b : Queue) : (s.setQueue q b).variant = s.variant := rfl
@[simp] theorem State.setQueue_regs (q : Nat) (b : Queue) : (s.setQueue q b).regs = s.regs := rfl
@[simp] theorem State.setQueue_mem (q : Nat) (b : Queue) : (s.setQueue q b).mem = s.mem := rfl
@[simp] theorem State.setQueue_veils (q : Nat) (b : Queue) : (s.setQueue q b).veils = s.veils := rfl
@[simp] theorem State.setQueue_resp (q : Nat) (b : Queue) : (s.setQueue q b).resp = s.resp := rfl
@[simp] theorem State.setQueue_out (q : Nat) (b : Queue) : (s.setQueue q b).out = s.out := rfl
@[simp] theorem State.setQueue_txHeld (q : Nat) (b : Queue) : (s.setQueue q b).txHeld = s.txHeld := rfl
@[simp] theorem State.setQueue_seqWait (q : Nat) (b : Queue) : (s.setQueue q b).seqWait = s.seqWait := rfl
@[simp] theorem State.setQueue_flog (q : Nat) (b : Queue) : (s.setQueue q b).flog = s.flog := rfl
@[simp] theorem State.setQueue_flogSeq (q : Nat) (b : Queue) : (s.setQueue q b).flogSeq = s.flogSeq := rfl
@[simp] theorem State.setQueue_logGate (q : Nat) (b : Queue) : (s.setQueue q b).logGate = s.logGate := rfl
@[simp] theorem State.setQueue_queues (q : Nat) (b : Queue) : (s.setQueue q b).queues = Assoc.set q b s.queues := rfl
@[simp] theorem State.setQueue_comb (q : Nat) (b : Queue) : (s.setQueue q b).comb = s.comb := rfl
@[simp] theorem State.setQueue_lastStatus (q : Nat) (b : Queue) : (s.setQueue q b).lastStatus = s.lastStatus := rfl
@[simp] theorem State.setQueue_engines (q : Nat) (b : Queue) : (s.setQueue q b).engines = s.engines := rfl
@[simp] theorem State.setQueue_hitches (q : Nat) (b : Queue) : (s.setQueue q b).hitches = s.hitches := rfl
@[simp] theorem State.setQueue_hitchNet (q : Nat) (b : Queue) : (s.setQueue q b).hitchNet = s.hitchNet := rfl
@[simp] theorem State.setQueue_syncOut (q : Nat) (b : Queue) : (s.setQueue q b).syncOut = s.syncOut := rfl
@[simp] theorem State.setQueue_hitchAwait (q : Nat) (b : Queue) : (s.setQueue q b).hitchAwait = s.hitchAwait := rfl
@[simp] theorem State.setQueue_failedNodes (q : Nat) (b : Queue) : (s.setQueue q b).failedNodes = s.failedNodes := rfl
@[simp] theorem State.setQueue_windows (q : Nat) (b : Queue) : (s.setQueue q b).windows = s.windows := rfl
@[simp] theorem State.setQueue_bankWait (q : Nat) (b : Queue) : (s.setQueue q b).bankWait = s.bankWait := rfl
@[simp] theorem State.setQueue_classes (q : Nat) (b : Queue) : (s.setQueue q b).classes = s.classes := rfl
@[simp] theorem State.setQueue_tiles (q : Nat) (b : Queue) : (s.setQueue q b).tiles = s.tiles := rfl
@[simp] theorem State.setQueue_sramCorr (q : Nat) (b : Queue) : (s.setQueue q b).sramCorr = s.sramCorr := rfl
@[simp] theorem State.setQueue_initial (q : Nat) (b : Queue) : (s.setQueue q b).initial = s.initial := rfl
@[simp] theorem State.setQueue_routers (q : Nat) (b : Queue) : (s.setQueue q b).routers = s.routers := rfl
@[simp] theorem State.setQueue_gateways (q : Nat) (b : Queue) : (s.setQueue q b).gateways = s.gateways := rfl
@[simp] theorem State.setQueue_gatewayFrcvd (q : Nat) (b : Queue) : (s.setQueue q b).gatewayFrcvd = s.gatewayFrcvd := rfl
@[simp] theorem State.setQueue_gatewaySrcvd (q : Nat) (b : Queue) : (s.setQueue q b).gatewaySrcvd = s.gatewaySrcvd := rfl
@[simp] theorem State.setQueue_route0 (q : Nat) (b : Queue) : (s.setQueue q b).route0 = s.route0 := rfl
@[simp] theorem State.setQueue_route1 (q : Nat) (b : Queue) : (s.setQueue q b).route1 = s.route1 := rfl
@[simp] theorem State.setQueue_groups0 (q : Nat) (b : Queue) : (s.setQueue q b).groups0 = s.groups0 := rfl
@[simp] theorem State.setQueue_groups1 (q : Nat) (b : Queue) : (s.setQueue q b).groups1 = s.groups1 := rfl
@[simp] theorem State.setQueue_members0 (q : Nat) (b : Queue) : (s.setQueue q b).members0 = s.members0 := rfl
@[simp] theorem State.setQueue_members1 (q : Nat) (b : Queue) : (s.setQueue q b).members1 = s.members1 := rfl
@[simp] theorem State.setQueue_stores (q : Nat) (b : Queue) : (s.setQueue q b).stores = s.stores := rfl
@[simp] theorem State.setQueue_fetch (q : Nat) (b : Queue) : (s.setQueue q b).fetch = s.fetch := rfl
@[simp] theorem State.setQueue_gateIn (q : Nat) (b : Queue) : (s.setQueue q b).gateIn = s.gateIn := rfl
@[simp] theorem State.setQueue_gateRx (q : Nat) (b : Queue) : (s.setQueue q b).gateRx = s.gateRx := rfl
@[simp] theorem State.setQueue_centreNext (q : Nat) (b : Queue) : (s.setQueue q b).centreNext = s.centreNext := rfl
@[simp] theorem State.setQueue_remoteHold (q : Nat) (b : Queue) : (s.setQueue q b).remoteHold = s.remoteHold := rfl
@[simp] theorem State.setQueue_spillAt (q : Nat) (b : Queue) : (s.setQueue q b).spillAt = s.spillAt := rfl
@[simp] theorem State.setQueue_slots0 (q : Nat) (b : Queue) : (s.setQueue q b).slots0 = s.slots0 := rfl
@[simp] theorem State.setQueue_slots1 (q : Nat) (b : Queue) : (s.setQueue q b).slots1 = s.slots1 := rfl
@[simp] theorem State.setQueue_slotVersion (q : Nat) (b : Queue) : (s.setQueue q b).slotVersion = s.slotVersion := rfl
@[simp] theorem State.setQueue_switchIn (q : Nat) (b : Queue) : (s.setQueue q b).switchIn = s.switchIn := rfl
@[simp] theorem State.setQueue_drainFrom (q : Nat) (b : Queue) : (s.setQueue q b).drainFrom = s.drainFrom := rfl
@[simp] theorem State.setQueue_fabric (q : Nat) (b : Queue) : (s.setQueue q b).fabric = s.fabric := rfl
@[simp] theorem State.setQueue_learning (q : Nat) (b : Queue) : (s.setQueue q b).learning = s.learning := rfl
@[simp] theorem State.setQueue_census (q : Nat) (b : Queue) : (s.setQueue q b).census = s.census := rfl
@[simp] theorem State.setQueue_dense (q : Nat) (b : Queue) : (s.setQueue q b).dense = s.dense := rfl
@[simp] theorem State.setQueue_moved (q : Nat) (b : Queue) : (s.setQueue q b).moved = s.moved := rfl
@[simp] theorem State.setQueue_host (q : Nat) (b : Queue) : (s.setQueue q b).host = s.host := rfl
@[simp] theorem State.setQueue_intake (q : Nat) (b : Queue) : (s.setQueue q b).intake = s.intake := rfl
@[simp] theorem State.setQueue_power (q : Nat) (b : Queue) : (s.setQueue q b).power = s.power := rfl
@[simp] theorem State.setQueue_security (q : Nat) (b : Queue) : (s.setQueue q b).security = s.security := rfl
@[simp] theorem State.setQueue_update (q : Nat) (b : Queue) : (s.setQueue q b).update = s.update := rfl
@[simp] theorem State.setQueue_harness (q : Nat) (b : Queue) : (s.setQueue q b).harness = s.harness := rfl
@[simp] theorem State.setQueue_tether (q : Nat) (b : Queue) : (s.setQueue q b).tether = s.tether := rfl
@[simp] theorem State.setQueue_timing (q : Nat) (b : Queue) : (s.setQueue q b).timing = s.timing := rfl

/-! ### setEngine -/

@[simp] theorem State.setEngine_pending (e : Nat) (x : Engine) : (s.setEngine e x).pending = s.pending := rfl
@[simp] theorem State.setEngine_free (e : Nat) (x : Engine) : (s.setEngine e x).free = s.free := rfl
@[simp] theorem State.setEngine_now (e : Nat) (x : Engine) : (s.setEngine e x).now = s.now := rfl
@[simp] theorem State.setEngine_clock (e : Nat) (x : Engine) : (s.setEngine e x).clock = s.clock := rfl
@[simp] theorem State.setEngine_variant (e : Nat) (x : Engine) : (s.setEngine e x).variant = s.variant := rfl
@[simp] theorem State.setEngine_regs (e : Nat) (x : Engine) : (s.setEngine e x).regs = s.regs := rfl
@[simp] theorem State.setEngine_mem (e : Nat) (x : Engine) : (s.setEngine e x).mem = s.mem := rfl
@[simp] theorem State.setEngine_veils (e : Nat) (x : Engine) : (s.setEngine e x).veils = s.veils := rfl
@[simp] theorem State.setEngine_resp (e : Nat) (x : Engine) : (s.setEngine e x).resp = s.resp := rfl
@[simp] theorem State.setEngine_out (e : Nat) (x : Engine) : (s.setEngine e x).out = s.out := rfl
@[simp] theorem State.setEngine_txHeld (e : Nat) (x : Engine) : (s.setEngine e x).txHeld = s.txHeld := rfl
@[simp] theorem State.setEngine_seqWait (e : Nat) (x : Engine) : (s.setEngine e x).seqWait = s.seqWait := rfl
@[simp] theorem State.setEngine_flog (e : Nat) (x : Engine) : (s.setEngine e x).flog = s.flog := rfl
@[simp] theorem State.setEngine_flogSeq (e : Nat) (x : Engine) : (s.setEngine e x).flogSeq = s.flogSeq := rfl
@[simp] theorem State.setEngine_logGate (e : Nat) (x : Engine) : (s.setEngine e x).logGate = s.logGate := rfl
@[simp] theorem State.setEngine_queues (e : Nat) (x : Engine) : (s.setEngine e x).queues = s.queues := rfl
@[simp] theorem State.setEngine_comb (e : Nat) (x : Engine) : (s.setEngine e x).comb = s.comb := rfl
@[simp] theorem State.setEngine_lastStatus (e : Nat) (x : Engine) : (s.setEngine e x).lastStatus = s.lastStatus := rfl
@[simp] theorem State.setEngine_engines (e : Nat) (x : Engine) : (s.setEngine e x).engines = Assoc.set e x s.engines := rfl
@[simp] theorem State.setEngine_hitches (e : Nat) (x : Engine) : (s.setEngine e x).hitches = s.hitches := rfl
@[simp] theorem State.setEngine_hitchNet (e : Nat) (x : Engine) : (s.setEngine e x).hitchNet = s.hitchNet := rfl
@[simp] theorem State.setEngine_syncOut (e : Nat) (x : Engine) : (s.setEngine e x).syncOut = s.syncOut := rfl
@[simp] theorem State.setEngine_hitchAwait (e : Nat) (x : Engine) : (s.setEngine e x).hitchAwait = s.hitchAwait := rfl
@[simp] theorem State.setEngine_failedNodes (e : Nat) (x : Engine) : (s.setEngine e x).failedNodes = s.failedNodes := rfl
@[simp] theorem State.setEngine_windows (e : Nat) (x : Engine) : (s.setEngine e x).windows = s.windows := rfl
@[simp] theorem State.setEngine_bankWait (e : Nat) (x : Engine) : (s.setEngine e x).bankWait = s.bankWait := rfl
@[simp] theorem State.setEngine_classes (e : Nat) (x : Engine) : (s.setEngine e x).classes = s.classes := rfl
@[simp] theorem State.setEngine_tiles (e : Nat) (x : Engine) : (s.setEngine e x).tiles = s.tiles := rfl
@[simp] theorem State.setEngine_sramCorr (e : Nat) (x : Engine) : (s.setEngine e x).sramCorr = s.sramCorr := rfl
@[simp] theorem State.setEngine_initial (e : Nat) (x : Engine) : (s.setEngine e x).initial = s.initial := rfl
@[simp] theorem State.setEngine_routers (e : Nat) (x : Engine) : (s.setEngine e x).routers = s.routers := rfl
@[simp] theorem State.setEngine_gateways (e : Nat) (x : Engine) : (s.setEngine e x).gateways = s.gateways := rfl
@[simp] theorem State.setEngine_gatewayFrcvd (e : Nat) (x : Engine) : (s.setEngine e x).gatewayFrcvd = s.gatewayFrcvd := rfl
@[simp] theorem State.setEngine_gatewaySrcvd (e : Nat) (x : Engine) : (s.setEngine e x).gatewaySrcvd = s.gatewaySrcvd := rfl
@[simp] theorem State.setEngine_route0 (e : Nat) (x : Engine) : (s.setEngine e x).route0 = s.route0 := rfl
@[simp] theorem State.setEngine_route1 (e : Nat) (x : Engine) : (s.setEngine e x).route1 = s.route1 := rfl
@[simp] theorem State.setEngine_groups0 (e : Nat) (x : Engine) : (s.setEngine e x).groups0 = s.groups0 := rfl
@[simp] theorem State.setEngine_groups1 (e : Nat) (x : Engine) : (s.setEngine e x).groups1 = s.groups1 := rfl
@[simp] theorem State.setEngine_members0 (e : Nat) (x : Engine) : (s.setEngine e x).members0 = s.members0 := rfl
@[simp] theorem State.setEngine_members1 (e : Nat) (x : Engine) : (s.setEngine e x).members1 = s.members1 := rfl
@[simp] theorem State.setEngine_stores (e : Nat) (x : Engine) : (s.setEngine e x).stores = s.stores := rfl
@[simp] theorem State.setEngine_fetch (e : Nat) (x : Engine) : (s.setEngine e x).fetch = s.fetch := rfl
@[simp] theorem State.setEngine_gateIn (e : Nat) (x : Engine) : (s.setEngine e x).gateIn = s.gateIn := rfl
@[simp] theorem State.setEngine_gateRx (e : Nat) (x : Engine) : (s.setEngine e x).gateRx = s.gateRx := rfl
@[simp] theorem State.setEngine_centreNext (e : Nat) (x : Engine) : (s.setEngine e x).centreNext = s.centreNext := rfl
@[simp] theorem State.setEngine_remoteHold (e : Nat) (x : Engine) : (s.setEngine e x).remoteHold = s.remoteHold := rfl
@[simp] theorem State.setEngine_spillAt (e : Nat) (x : Engine) : (s.setEngine e x).spillAt = s.spillAt := rfl
@[simp] theorem State.setEngine_slots0 (e : Nat) (x : Engine) : (s.setEngine e x).slots0 = s.slots0 := rfl
@[simp] theorem State.setEngine_slots1 (e : Nat) (x : Engine) : (s.setEngine e x).slots1 = s.slots1 := rfl
@[simp] theorem State.setEngine_slotVersion (e : Nat) (x : Engine) : (s.setEngine e x).slotVersion = s.slotVersion := rfl
@[simp] theorem State.setEngine_switchIn (e : Nat) (x : Engine) : (s.setEngine e x).switchIn = s.switchIn := rfl
@[simp] theorem State.setEngine_drainFrom (e : Nat) (x : Engine) : (s.setEngine e x).drainFrom = s.drainFrom := rfl
@[simp] theorem State.setEngine_fabric (e : Nat) (x : Engine) : (s.setEngine e x).fabric = s.fabric := rfl
@[simp] theorem State.setEngine_learning (e : Nat) (x : Engine) : (s.setEngine e x).learning = s.learning := rfl
@[simp] theorem State.setEngine_census (e : Nat) (x : Engine) : (s.setEngine e x).census = s.census := rfl
@[simp] theorem State.setEngine_dense (e : Nat) (x : Engine) : (s.setEngine e x).dense = s.dense := rfl
@[simp] theorem State.setEngine_moved (e : Nat) (x : Engine) : (s.setEngine e x).moved = s.moved := rfl
@[simp] theorem State.setEngine_host (e : Nat) (x : Engine) : (s.setEngine e x).host = s.host := rfl
@[simp] theorem State.setEngine_intake (e : Nat) (x : Engine) : (s.setEngine e x).intake = s.intake := rfl
@[simp] theorem State.setEngine_power (e : Nat) (x : Engine) : (s.setEngine e x).power = s.power := rfl
@[simp] theorem State.setEngine_security (e : Nat) (x : Engine) : (s.setEngine e x).security = s.security := rfl
@[simp] theorem State.setEngine_update (e : Nat) (x : Engine) : (s.setEngine e x).update = s.update := rfl
@[simp] theorem State.setEngine_harness (e : Nat) (x : Engine) : (s.setEngine e x).harness = s.harness := rfl
@[simp] theorem State.setEngine_tether (e : Nat) (x : Engine) : (s.setEngine e x).tether = s.tether := rfl
@[simp] theorem State.setEngine_timing (e : Nat) (x : Engine) : (s.setEngine e x).timing = s.timing := rfl

/-! ### setHitch -/

@[simp] theorem State.setHitch_pending (h : Nat) (x : Hitch) : (s.setHitch h x).pending = s.pending := rfl
@[simp] theorem State.setHitch_free (h : Nat) (x : Hitch) : (s.setHitch h x).free = s.free := rfl
@[simp] theorem State.setHitch_now (h : Nat) (x : Hitch) : (s.setHitch h x).now = s.now := rfl
@[simp] theorem State.setHitch_clock (h : Nat) (x : Hitch) : (s.setHitch h x).clock = s.clock := rfl
@[simp] theorem State.setHitch_variant (h : Nat) (x : Hitch) : (s.setHitch h x).variant = s.variant := rfl
@[simp] theorem State.setHitch_regs (h : Nat) (x : Hitch) : (s.setHitch h x).regs = s.regs := rfl
@[simp] theorem State.setHitch_mem (h : Nat) (x : Hitch) : (s.setHitch h x).mem = s.mem := rfl
@[simp] theorem State.setHitch_veils (h : Nat) (x : Hitch) : (s.setHitch h x).veils = s.veils := rfl
@[simp] theorem State.setHitch_resp (h : Nat) (x : Hitch) : (s.setHitch h x).resp = s.resp := rfl
@[simp] theorem State.setHitch_out (h : Nat) (x : Hitch) : (s.setHitch h x).out = s.out := rfl
@[simp] theorem State.setHitch_txHeld (h : Nat) (x : Hitch) : (s.setHitch h x).txHeld = s.txHeld := rfl
@[simp] theorem State.setHitch_seqWait (h : Nat) (x : Hitch) : (s.setHitch h x).seqWait = s.seqWait := rfl
@[simp] theorem State.setHitch_flog (h : Nat) (x : Hitch) : (s.setHitch h x).flog = s.flog := rfl
@[simp] theorem State.setHitch_flogSeq (h : Nat) (x : Hitch) : (s.setHitch h x).flogSeq = s.flogSeq := rfl
@[simp] theorem State.setHitch_logGate (h : Nat) (x : Hitch) : (s.setHitch h x).logGate = s.logGate := rfl
@[simp] theorem State.setHitch_queues (h : Nat) (x : Hitch) : (s.setHitch h x).queues = s.queues := rfl
@[simp] theorem State.setHitch_comb (h : Nat) (x : Hitch) : (s.setHitch h x).comb = s.comb := rfl
@[simp] theorem State.setHitch_lastStatus (h : Nat) (x : Hitch) : (s.setHitch h x).lastStatus = s.lastStatus := rfl
@[simp] theorem State.setHitch_engines (h : Nat) (x : Hitch) : (s.setHitch h x).engines = s.engines := rfl
@[simp] theorem State.setHitch_hitches (h : Nat) (x : Hitch) : (s.setHitch h x).hitches = Assoc.set h x s.hitches := rfl
@[simp] theorem State.setHitch_hitchNet (h : Nat) (x : Hitch) : (s.setHitch h x).hitchNet = s.hitchNet := rfl
@[simp] theorem State.setHitch_syncOut (h : Nat) (x : Hitch) : (s.setHitch h x).syncOut = s.syncOut := rfl
@[simp] theorem State.setHitch_hitchAwait (h : Nat) (x : Hitch) : (s.setHitch h x).hitchAwait = s.hitchAwait := rfl
@[simp] theorem State.setHitch_failedNodes (h : Nat) (x : Hitch) : (s.setHitch h x).failedNodes = s.failedNodes := rfl
@[simp] theorem State.setHitch_windows (h : Nat) (x : Hitch) : (s.setHitch h x).windows = s.windows := rfl
@[simp] theorem State.setHitch_bankWait (h : Nat) (x : Hitch) : (s.setHitch h x).bankWait = s.bankWait := rfl
@[simp] theorem State.setHitch_classes (h : Nat) (x : Hitch) : (s.setHitch h x).classes = s.classes := rfl
@[simp] theorem State.setHitch_tiles (h : Nat) (x : Hitch) : (s.setHitch h x).tiles = s.tiles := rfl
@[simp] theorem State.setHitch_sramCorr (h : Nat) (x : Hitch) : (s.setHitch h x).sramCorr = s.sramCorr := rfl
@[simp] theorem State.setHitch_initial (h : Nat) (x : Hitch) : (s.setHitch h x).initial = s.initial := rfl
@[simp] theorem State.setHitch_routers (h : Nat) (x : Hitch) : (s.setHitch h x).routers = s.routers := rfl
@[simp] theorem State.setHitch_gateways (h : Nat) (x : Hitch) : (s.setHitch h x).gateways = s.gateways := rfl
@[simp] theorem State.setHitch_gatewayFrcvd (h : Nat) (x : Hitch) : (s.setHitch h x).gatewayFrcvd = s.gatewayFrcvd := rfl
@[simp] theorem State.setHitch_gatewaySrcvd (h : Nat) (x : Hitch) : (s.setHitch h x).gatewaySrcvd = s.gatewaySrcvd := rfl
@[simp] theorem State.setHitch_route0 (h : Nat) (x : Hitch) : (s.setHitch h x).route0 = s.route0 := rfl
@[simp] theorem State.setHitch_route1 (h : Nat) (x : Hitch) : (s.setHitch h x).route1 = s.route1 := rfl
@[simp] theorem State.setHitch_groups0 (h : Nat) (x : Hitch) : (s.setHitch h x).groups0 = s.groups0 := rfl
@[simp] theorem State.setHitch_groups1 (h : Nat) (x : Hitch) : (s.setHitch h x).groups1 = s.groups1 := rfl
@[simp] theorem State.setHitch_members0 (h : Nat) (x : Hitch) : (s.setHitch h x).members0 = s.members0 := rfl
@[simp] theorem State.setHitch_members1 (h : Nat) (x : Hitch) : (s.setHitch h x).members1 = s.members1 := rfl
@[simp] theorem State.setHitch_stores (h : Nat) (x : Hitch) : (s.setHitch h x).stores = s.stores := rfl
@[simp] theorem State.setHitch_fetch (h : Nat) (x : Hitch) : (s.setHitch h x).fetch = s.fetch := rfl
@[simp] theorem State.setHitch_gateIn (h : Nat) (x : Hitch) : (s.setHitch h x).gateIn = s.gateIn := rfl
@[simp] theorem State.setHitch_gateRx (h : Nat) (x : Hitch) : (s.setHitch h x).gateRx = s.gateRx := rfl
@[simp] theorem State.setHitch_centreNext (h : Nat) (x : Hitch) : (s.setHitch h x).centreNext = s.centreNext := rfl
@[simp] theorem State.setHitch_remoteHold (h : Nat) (x : Hitch) : (s.setHitch h x).remoteHold = s.remoteHold := rfl
@[simp] theorem State.setHitch_spillAt (h : Nat) (x : Hitch) : (s.setHitch h x).spillAt = s.spillAt := rfl
@[simp] theorem State.setHitch_slots0 (h : Nat) (x : Hitch) : (s.setHitch h x).slots0 = s.slots0 := rfl
@[simp] theorem State.setHitch_slots1 (h : Nat) (x : Hitch) : (s.setHitch h x).slots1 = s.slots1 := rfl
@[simp] theorem State.setHitch_slotVersion (h : Nat) (x : Hitch) : (s.setHitch h x).slotVersion = s.slotVersion := rfl
@[simp] theorem State.setHitch_switchIn (h : Nat) (x : Hitch) : (s.setHitch h x).switchIn = s.switchIn := rfl
@[simp] theorem State.setHitch_drainFrom (h : Nat) (x : Hitch) : (s.setHitch h x).drainFrom = s.drainFrom := rfl
@[simp] theorem State.setHitch_fabric (h : Nat) (x : Hitch) : (s.setHitch h x).fabric = s.fabric := rfl
@[simp] theorem State.setHitch_learning (h : Nat) (x : Hitch) : (s.setHitch h x).learning = s.learning := rfl
@[simp] theorem State.setHitch_census (h : Nat) (x : Hitch) : (s.setHitch h x).census = s.census := rfl
@[simp] theorem State.setHitch_dense (h : Nat) (x : Hitch) : (s.setHitch h x).dense = s.dense := rfl
@[simp] theorem State.setHitch_moved (h : Nat) (x : Hitch) : (s.setHitch h x).moved = s.moved := rfl
@[simp] theorem State.setHitch_host (h : Nat) (x : Hitch) : (s.setHitch h x).host = s.host := rfl
@[simp] theorem State.setHitch_intake (h : Nat) (x : Hitch) : (s.setHitch h x).intake = s.intake := rfl
@[simp] theorem State.setHitch_power (h : Nat) (x : Hitch) : (s.setHitch h x).power = s.power := rfl
@[simp] theorem State.setHitch_security (h : Nat) (x : Hitch) : (s.setHitch h x).security = s.security := rfl
@[simp] theorem State.setHitch_update (h : Nat) (x : Hitch) : (s.setHitch h x).update = s.update := rfl
@[simp] theorem State.setHitch_harness (h : Nat) (x : Hitch) : (s.setHitch h x).harness = s.harness := rfl
@[simp] theorem State.setHitch_tether (h : Nat) (x : Hitch) : (s.setHitch h x).tether = s.tether := rfl
@[simp] theorem State.setHitch_timing (h : Nat) (x : Hitch) : (s.setHitch h x).timing = s.timing := rfl

/-! ### setWindow -/

@[simp] theorem State.setWindow_pending (b w : Nat) (x : Window) : (s.setWindow b w x).pending = s.pending := rfl
@[simp] theorem State.setWindow_free (b w : Nat) (x : Window) : (s.setWindow b w x).free = s.free := rfl
@[simp] theorem State.setWindow_now (b w : Nat) (x : Window) : (s.setWindow b w x).now = s.now := rfl
@[simp] theorem State.setWindow_clock (b w : Nat) (x : Window) : (s.setWindow b w x).clock = s.clock := rfl
@[simp] theorem State.setWindow_variant (b w : Nat) (x : Window) : (s.setWindow b w x).variant = s.variant := rfl
@[simp] theorem State.setWindow_regs (b w : Nat) (x : Window) : (s.setWindow b w x).regs = s.regs := rfl
@[simp] theorem State.setWindow_mem (b w : Nat) (x : Window) : (s.setWindow b w x).mem = s.mem := rfl
@[simp] theorem State.setWindow_veils (b w : Nat) (x : Window) : (s.setWindow b w x).veils = s.veils := rfl
@[simp] theorem State.setWindow_resp (b w : Nat) (x : Window) : (s.setWindow b w x).resp = s.resp := rfl
@[simp] theorem State.setWindow_out (b w : Nat) (x : Window) : (s.setWindow b w x).out = s.out := rfl
@[simp] theorem State.setWindow_txHeld (b w : Nat) (x : Window) : (s.setWindow b w x).txHeld = s.txHeld := rfl
@[simp] theorem State.setWindow_seqWait (b w : Nat) (x : Window) : (s.setWindow b w x).seqWait = s.seqWait := rfl
@[simp] theorem State.setWindow_flog (b w : Nat) (x : Window) : (s.setWindow b w x).flog = s.flog := rfl
@[simp] theorem State.setWindow_flogSeq (b w : Nat) (x : Window) : (s.setWindow b w x).flogSeq = s.flogSeq := rfl
@[simp] theorem State.setWindow_logGate (b w : Nat) (x : Window) : (s.setWindow b w x).logGate = s.logGate := rfl
@[simp] theorem State.setWindow_queues (b w : Nat) (x : Window) : (s.setWindow b w x).queues = s.queues := rfl
@[simp] theorem State.setWindow_comb (b w : Nat) (x : Window) : (s.setWindow b w x).comb = s.comb := rfl
@[simp] theorem State.setWindow_lastStatus (b w : Nat) (x : Window) : (s.setWindow b w x).lastStatus = s.lastStatus := rfl
@[simp] theorem State.setWindow_engines (b w : Nat) (x : Window) : (s.setWindow b w x).engines = s.engines := rfl
@[simp] theorem State.setWindow_hitches (b w : Nat) (x : Window) : (s.setWindow b w x).hitches = s.hitches := rfl
@[simp] theorem State.setWindow_hitchNet (b w : Nat) (x : Window) : (s.setWindow b w x).hitchNet = s.hitchNet := rfl
@[simp] theorem State.setWindow_syncOut (b w : Nat) (x : Window) : (s.setWindow b w x).syncOut = s.syncOut := rfl
@[simp] theorem State.setWindow_hitchAwait (b w : Nat) (x : Window) : (s.setWindow b w x).hitchAwait = s.hitchAwait := rfl
@[simp] theorem State.setWindow_failedNodes (b w : Nat) (x : Window) : (s.setWindow b w x).failedNodes = s.failedNodes := rfl
@[simp] theorem State.setWindow_windows (b w : Nat) (x : Window) : (s.setWindow b w x).windows = Assoc.set (32 * b + w) x s.windows := rfl
@[simp] theorem State.setWindow_bankWait (b w : Nat) (x : Window) : (s.setWindow b w x).bankWait = s.bankWait := rfl
@[simp] theorem State.setWindow_classes (b w : Nat) (x : Window) : (s.setWindow b w x).classes = s.classes := rfl
@[simp] theorem State.setWindow_tiles (b w : Nat) (x : Window) : (s.setWindow b w x).tiles = s.tiles := rfl
@[simp] theorem State.setWindow_sramCorr (b w : Nat) (x : Window) : (s.setWindow b w x).sramCorr = s.sramCorr := rfl
@[simp] theorem State.setWindow_initial (b w : Nat) (x : Window) : (s.setWindow b w x).initial = s.initial := rfl
@[simp] theorem State.setWindow_routers (b w : Nat) (x : Window) : (s.setWindow b w x).routers = s.routers := rfl
@[simp] theorem State.setWindow_gateways (b w : Nat) (x : Window) : (s.setWindow b w x).gateways = s.gateways := rfl
@[simp] theorem State.setWindow_gatewayFrcvd (b w : Nat) (x : Window) : (s.setWindow b w x).gatewayFrcvd = s.gatewayFrcvd := rfl
@[simp] theorem State.setWindow_gatewaySrcvd (b w : Nat) (x : Window) : (s.setWindow b w x).gatewaySrcvd = s.gatewaySrcvd := rfl
@[simp] theorem State.setWindow_route0 (b w : Nat) (x : Window) : (s.setWindow b w x).route0 = s.route0 := rfl
@[simp] theorem State.setWindow_route1 (b w : Nat) (x : Window) : (s.setWindow b w x).route1 = s.route1 := rfl
@[simp] theorem State.setWindow_groups0 (b w : Nat) (x : Window) : (s.setWindow b w x).groups0 = s.groups0 := rfl
@[simp] theorem State.setWindow_groups1 (b w : Nat) (x : Window) : (s.setWindow b w x).groups1 = s.groups1 := rfl
@[simp] theorem State.setWindow_members0 (b w : Nat) (x : Window) : (s.setWindow b w x).members0 = s.members0 := rfl
@[simp] theorem State.setWindow_members1 (b w : Nat) (x : Window) : (s.setWindow b w x).members1 = s.members1 := rfl
@[simp] theorem State.setWindow_stores (b w : Nat) (x : Window) : (s.setWindow b w x).stores = s.stores := rfl
@[simp] theorem State.setWindow_fetch (b w : Nat) (x : Window) : (s.setWindow b w x).fetch = s.fetch := rfl
@[simp] theorem State.setWindow_gateIn (b w : Nat) (x : Window) : (s.setWindow b w x).gateIn = s.gateIn := rfl
@[simp] theorem State.setWindow_gateRx (b w : Nat) (x : Window) : (s.setWindow b w x).gateRx = s.gateRx := rfl
@[simp] theorem State.setWindow_centreNext (b w : Nat) (x : Window) : (s.setWindow b w x).centreNext = s.centreNext := rfl
@[simp] theorem State.setWindow_remoteHold (b w : Nat) (x : Window) : (s.setWindow b w x).remoteHold = s.remoteHold := rfl
@[simp] theorem State.setWindow_spillAt (b w : Nat) (x : Window) : (s.setWindow b w x).spillAt = s.spillAt := rfl
@[simp] theorem State.setWindow_slots0 (b w : Nat) (x : Window) : (s.setWindow b w x).slots0 = s.slots0 := rfl
@[simp] theorem State.setWindow_slots1 (b w : Nat) (x : Window) : (s.setWindow b w x).slots1 = s.slots1 := rfl
@[simp] theorem State.setWindow_slotVersion (b w : Nat) (x : Window) : (s.setWindow b w x).slotVersion = s.slotVersion := rfl
@[simp] theorem State.setWindow_switchIn (b w : Nat) (x : Window) : (s.setWindow b w x).switchIn = s.switchIn := rfl
@[simp] theorem State.setWindow_drainFrom (b w : Nat) (x : Window) : (s.setWindow b w x).drainFrom = s.drainFrom := rfl
@[simp] theorem State.setWindow_fabric (b w : Nat) (x : Window) : (s.setWindow b w x).fabric = s.fabric := rfl
@[simp] theorem State.setWindow_learning (b w : Nat) (x : Window) : (s.setWindow b w x).learning = s.learning := rfl
@[simp] theorem State.setWindow_census (b w : Nat) (x : Window) : (s.setWindow b w x).census = s.census := rfl
@[simp] theorem State.setWindow_dense (b w : Nat) (x : Window) : (s.setWindow b w x).dense = s.dense := rfl
@[simp] theorem State.setWindow_moved (b w : Nat) (x : Window) : (s.setWindow b w x).moved = s.moved := rfl
@[simp] theorem State.setWindow_host (b w : Nat) (x : Window) : (s.setWindow b w x).host = s.host := rfl
@[simp] theorem State.setWindow_intake (b w : Nat) (x : Window) : (s.setWindow b w x).intake = s.intake := rfl
@[simp] theorem State.setWindow_power (b w : Nat) (x : Window) : (s.setWindow b w x).power = s.power := rfl
@[simp] theorem State.setWindow_security (b w : Nat) (x : Window) : (s.setWindow b w x).security = s.security := rfl
@[simp] theorem State.setWindow_update (b w : Nat) (x : Window) : (s.setWindow b w x).update = s.update := rfl
@[simp] theorem State.setWindow_harness (b w : Nat) (x : Window) : (s.setWindow b w x).harness = s.harness := rfl
@[simp] theorem State.setWindow_tether (b w : Nat) (x : Window) : (s.setWindow b w x).tether = s.tether := rfl
@[simp] theorem State.setWindow_timing (b w : Nat) (x : Window) : (s.setWindow b w x).timing = s.timing := rfl

/-! ### setTile -/

@[simp] theorem State.setTile_pending (c t : Nat) (x : Tile) : (s.setTile c t x).pending = s.pending := rfl
@[simp] theorem State.setTile_free (c t : Nat) (x : Tile) : (s.setTile c t x).free = s.free := rfl
@[simp] theorem State.setTile_now (c t : Nat) (x : Tile) : (s.setTile c t x).now = s.now := rfl
@[simp] theorem State.setTile_clock (c t : Nat) (x : Tile) : (s.setTile c t x).clock = s.clock := rfl
@[simp] theorem State.setTile_variant (c t : Nat) (x : Tile) : (s.setTile c t x).variant = s.variant := rfl
@[simp] theorem State.setTile_regs (c t : Nat) (x : Tile) : (s.setTile c t x).regs = s.regs := rfl
@[simp] theorem State.setTile_mem (c t : Nat) (x : Tile) : (s.setTile c t x).mem = s.mem := rfl
@[simp] theorem State.setTile_veils (c t : Nat) (x : Tile) : (s.setTile c t x).veils = s.veils := rfl
@[simp] theorem State.setTile_resp (c t : Nat) (x : Tile) : (s.setTile c t x).resp = s.resp := rfl
@[simp] theorem State.setTile_out (c t : Nat) (x : Tile) : (s.setTile c t x).out = s.out := rfl
@[simp] theorem State.setTile_txHeld (c t : Nat) (x : Tile) : (s.setTile c t x).txHeld = s.txHeld := rfl
@[simp] theorem State.setTile_seqWait (c t : Nat) (x : Tile) : (s.setTile c t x).seqWait = s.seqWait := rfl
@[simp] theorem State.setTile_flog (c t : Nat) (x : Tile) : (s.setTile c t x).flog = s.flog := rfl
@[simp] theorem State.setTile_flogSeq (c t : Nat) (x : Tile) : (s.setTile c t x).flogSeq = s.flogSeq := rfl
@[simp] theorem State.setTile_logGate (c t : Nat) (x : Tile) : (s.setTile c t x).logGate = s.logGate := rfl
@[simp] theorem State.setTile_queues (c t : Nat) (x : Tile) : (s.setTile c t x).queues = s.queues := rfl
@[simp] theorem State.setTile_comb (c t : Nat) (x : Tile) : (s.setTile c t x).comb = s.comb := rfl
@[simp] theorem State.setTile_lastStatus (c t : Nat) (x : Tile) : (s.setTile c t x).lastStatus = s.lastStatus := rfl
@[simp] theorem State.setTile_engines (c t : Nat) (x : Tile) : (s.setTile c t x).engines = s.engines := rfl
@[simp] theorem State.setTile_hitches (c t : Nat) (x : Tile) : (s.setTile c t x).hitches = s.hitches := rfl
@[simp] theorem State.setTile_hitchNet (c t : Nat) (x : Tile) : (s.setTile c t x).hitchNet = s.hitchNet := rfl
@[simp] theorem State.setTile_syncOut (c t : Nat) (x : Tile) : (s.setTile c t x).syncOut = s.syncOut := rfl
@[simp] theorem State.setTile_hitchAwait (c t : Nat) (x : Tile) : (s.setTile c t x).hitchAwait = s.hitchAwait := rfl
@[simp] theorem State.setTile_failedNodes (c t : Nat) (x : Tile) : (s.setTile c t x).failedNodes = s.failedNodes := rfl
@[simp] theorem State.setTile_windows (c t : Nat) (x : Tile) : (s.setTile c t x).windows = s.windows := rfl
@[simp] theorem State.setTile_bankWait (c t : Nat) (x : Tile) : (s.setTile c t x).bankWait = s.bankWait := rfl
@[simp] theorem State.setTile_classes (c t : Nat) (x : Tile) : (s.setTile c t x).classes = s.classes := rfl
@[simp] theorem State.setTile_tiles (c t : Nat) (x : Tile) : (s.setTile c t x).tiles = Assoc.set (tileKey c t) x s.tiles := rfl
@[simp] theorem State.setTile_sramCorr (c t : Nat) (x : Tile) : (s.setTile c t x).sramCorr = s.sramCorr := rfl
@[simp] theorem State.setTile_initial (c t : Nat) (x : Tile) : (s.setTile c t x).initial = s.initial := rfl
@[simp] theorem State.setTile_routers (c t : Nat) (x : Tile) : (s.setTile c t x).routers = s.routers := rfl
@[simp] theorem State.setTile_gateways (c t : Nat) (x : Tile) : (s.setTile c t x).gateways = s.gateways := rfl
@[simp] theorem State.setTile_gatewayFrcvd (c t : Nat) (x : Tile) : (s.setTile c t x).gatewayFrcvd = s.gatewayFrcvd := rfl
@[simp] theorem State.setTile_gatewaySrcvd (c t : Nat) (x : Tile) : (s.setTile c t x).gatewaySrcvd = s.gatewaySrcvd := rfl
@[simp] theorem State.setTile_route0 (c t : Nat) (x : Tile) : (s.setTile c t x).route0 = s.route0 := rfl
@[simp] theorem State.setTile_route1 (c t : Nat) (x : Tile) : (s.setTile c t x).route1 = s.route1 := rfl
@[simp] theorem State.setTile_groups0 (c t : Nat) (x : Tile) : (s.setTile c t x).groups0 = s.groups0 := rfl
@[simp] theorem State.setTile_groups1 (c t : Nat) (x : Tile) : (s.setTile c t x).groups1 = s.groups1 := rfl
@[simp] theorem State.setTile_members0 (c t : Nat) (x : Tile) : (s.setTile c t x).members0 = s.members0 := rfl
@[simp] theorem State.setTile_members1 (c t : Nat) (x : Tile) : (s.setTile c t x).members1 = s.members1 := rfl
@[simp] theorem State.setTile_stores (c t : Nat) (x : Tile) : (s.setTile c t x).stores = s.stores := rfl
@[simp] theorem State.setTile_fetch (c t : Nat) (x : Tile) : (s.setTile c t x).fetch = s.fetch := rfl
@[simp] theorem State.setTile_gateIn (c t : Nat) (x : Tile) : (s.setTile c t x).gateIn = s.gateIn := rfl
@[simp] theorem State.setTile_gateRx (c t : Nat) (x : Tile) : (s.setTile c t x).gateRx = s.gateRx := rfl
@[simp] theorem State.setTile_centreNext (c t : Nat) (x : Tile) : (s.setTile c t x).centreNext = s.centreNext := rfl
@[simp] theorem State.setTile_remoteHold (c t : Nat) (x : Tile) : (s.setTile c t x).remoteHold = s.remoteHold := rfl
@[simp] theorem State.setTile_spillAt (c t : Nat) (x : Tile) : (s.setTile c t x).spillAt = s.spillAt := rfl
@[simp] theorem State.setTile_slots0 (c t : Nat) (x : Tile) : (s.setTile c t x).slots0 = s.slots0 := rfl
@[simp] theorem State.setTile_slots1 (c t : Nat) (x : Tile) : (s.setTile c t x).slots1 = s.slots1 := rfl
@[simp] theorem State.setTile_slotVersion (c t : Nat) (x : Tile) : (s.setTile c t x).slotVersion = s.slotVersion := rfl
@[simp] theorem State.setTile_switchIn (c t : Nat) (x : Tile) : (s.setTile c t x).switchIn = s.switchIn := rfl
@[simp] theorem State.setTile_drainFrom (c t : Nat) (x : Tile) : (s.setTile c t x).drainFrom = s.drainFrom := rfl
@[simp] theorem State.setTile_fabric (c t : Nat) (x : Tile) : (s.setTile c t x).fabric = s.fabric := rfl
@[simp] theorem State.setTile_learning (c t : Nat) (x : Tile) : (s.setTile c t x).learning = s.learning := rfl
@[simp] theorem State.setTile_census (c t : Nat) (x : Tile) : (s.setTile c t x).census = s.census := rfl
@[simp] theorem State.setTile_dense (c t : Nat) (x : Tile) : (s.setTile c t x).dense = s.dense := rfl
@[simp] theorem State.setTile_moved (c t : Nat) (x : Tile) : (s.setTile c t x).moved = s.moved := rfl
@[simp] theorem State.setTile_host (c t : Nat) (x : Tile) : (s.setTile c t x).host = s.host := rfl
@[simp] theorem State.setTile_intake (c t : Nat) (x : Tile) : (s.setTile c t x).intake = s.intake := rfl
@[simp] theorem State.setTile_power (c t : Nat) (x : Tile) : (s.setTile c t x).power = s.power := rfl
@[simp] theorem State.setTile_security (c t : Nat) (x : Tile) : (s.setTile c t x).security = s.security := rfl
@[simp] theorem State.setTile_update (c t : Nat) (x : Tile) : (s.setTile c t x).update = s.update := rfl
@[simp] theorem State.setTile_harness (c t : Nat) (x : Tile) : (s.setTile c t x).harness = s.harness := rfl
@[simp] theorem State.setTile_tether (c t : Nat) (x : Tile) : (s.setTile c t x).tether = s.tether := rfl
@[simp] theorem State.setTile_timing (c t : Nat) (x : Tile) : (s.setTile c t x).timing = s.timing := rfl

/-! ### setRouter -/

@[simp] theorem State.setRouter_pending (c : Nat) (r : Router) : (s.setRouter c r).pending = s.pending := rfl
@[simp] theorem State.setRouter_free (c : Nat) (r : Router) : (s.setRouter c r).free = s.free := rfl
@[simp] theorem State.setRouter_now (c : Nat) (r : Router) : (s.setRouter c r).now = s.now := rfl
@[simp] theorem State.setRouter_clock (c : Nat) (r : Router) : (s.setRouter c r).clock = s.clock := rfl
@[simp] theorem State.setRouter_variant (c : Nat) (r : Router) : (s.setRouter c r).variant = s.variant := rfl
@[simp] theorem State.setRouter_regs (c : Nat) (r : Router) : (s.setRouter c r).regs = s.regs := rfl
@[simp] theorem State.setRouter_mem (c : Nat) (r : Router) : (s.setRouter c r).mem = s.mem := rfl
@[simp] theorem State.setRouter_veils (c : Nat) (r : Router) : (s.setRouter c r).veils = s.veils := rfl
@[simp] theorem State.setRouter_resp (c : Nat) (r : Router) : (s.setRouter c r).resp = s.resp := rfl
@[simp] theorem State.setRouter_out (c : Nat) (r : Router) : (s.setRouter c r).out = s.out := rfl
@[simp] theorem State.setRouter_txHeld (c : Nat) (r : Router) : (s.setRouter c r).txHeld = s.txHeld := rfl
@[simp] theorem State.setRouter_seqWait (c : Nat) (r : Router) : (s.setRouter c r).seqWait = s.seqWait := rfl
@[simp] theorem State.setRouter_flog (c : Nat) (r : Router) : (s.setRouter c r).flog = s.flog := rfl
@[simp] theorem State.setRouter_flogSeq (c : Nat) (r : Router) : (s.setRouter c r).flogSeq = s.flogSeq := rfl
@[simp] theorem State.setRouter_logGate (c : Nat) (r : Router) : (s.setRouter c r).logGate = s.logGate := rfl
@[simp] theorem State.setRouter_queues (c : Nat) (r : Router) : (s.setRouter c r).queues = s.queues := rfl
@[simp] theorem State.setRouter_comb (c : Nat) (r : Router) : (s.setRouter c r).comb = s.comb := rfl
@[simp] theorem State.setRouter_lastStatus (c : Nat) (r : Router) : (s.setRouter c r).lastStatus = s.lastStatus := rfl
@[simp] theorem State.setRouter_engines (c : Nat) (r : Router) : (s.setRouter c r).engines = s.engines := rfl
@[simp] theorem State.setRouter_hitches (c : Nat) (r : Router) : (s.setRouter c r).hitches = s.hitches := rfl
@[simp] theorem State.setRouter_hitchNet (c : Nat) (r : Router) : (s.setRouter c r).hitchNet = s.hitchNet := rfl
@[simp] theorem State.setRouter_syncOut (c : Nat) (r : Router) : (s.setRouter c r).syncOut = s.syncOut := rfl
@[simp] theorem State.setRouter_hitchAwait (c : Nat) (r : Router) : (s.setRouter c r).hitchAwait = s.hitchAwait := rfl
@[simp] theorem State.setRouter_failedNodes (c : Nat) (r : Router) : (s.setRouter c r).failedNodes = s.failedNodes := rfl
@[simp] theorem State.setRouter_windows (c : Nat) (r : Router) : (s.setRouter c r).windows = s.windows := rfl
@[simp] theorem State.setRouter_bankWait (c : Nat) (r : Router) : (s.setRouter c r).bankWait = s.bankWait := rfl
@[simp] theorem State.setRouter_classes (c : Nat) (r : Router) : (s.setRouter c r).classes = s.classes := rfl
@[simp] theorem State.setRouter_tiles (c : Nat) (r : Router) : (s.setRouter c r).tiles = s.tiles := rfl
@[simp] theorem State.setRouter_sramCorr (c : Nat) (r : Router) : (s.setRouter c r).sramCorr = s.sramCorr := rfl
@[simp] theorem State.setRouter_initial (c : Nat) (r : Router) : (s.setRouter c r).initial = s.initial := rfl
@[simp] theorem State.setRouter_routers (c : Nat) (r : Router) : (s.setRouter c r).routers = Assoc.set c r s.routers := rfl
@[simp] theorem State.setRouter_gateways (c : Nat) (r : Router) : (s.setRouter c r).gateways = s.gateways := rfl
@[simp] theorem State.setRouter_gatewayFrcvd (c : Nat) (r : Router) : (s.setRouter c r).gatewayFrcvd = s.gatewayFrcvd := rfl
@[simp] theorem State.setRouter_gatewaySrcvd (c : Nat) (r : Router) : (s.setRouter c r).gatewaySrcvd = s.gatewaySrcvd := rfl
@[simp] theorem State.setRouter_route0 (c : Nat) (r : Router) : (s.setRouter c r).route0 = s.route0 := rfl
@[simp] theorem State.setRouter_route1 (c : Nat) (r : Router) : (s.setRouter c r).route1 = s.route1 := rfl
@[simp] theorem State.setRouter_groups0 (c : Nat) (r : Router) : (s.setRouter c r).groups0 = s.groups0 := rfl
@[simp] theorem State.setRouter_groups1 (c : Nat) (r : Router) : (s.setRouter c r).groups1 = s.groups1 := rfl
@[simp] theorem State.setRouter_members0 (c : Nat) (r : Router) : (s.setRouter c r).members0 = s.members0 := rfl
@[simp] theorem State.setRouter_members1 (c : Nat) (r : Router) : (s.setRouter c r).members1 = s.members1 := rfl
@[simp] theorem State.setRouter_stores (c : Nat) (r : Router) : (s.setRouter c r).stores = s.stores := rfl
@[simp] theorem State.setRouter_fetch (c : Nat) (r : Router) : (s.setRouter c r).fetch = s.fetch := rfl
@[simp] theorem State.setRouter_gateIn (c : Nat) (r : Router) : (s.setRouter c r).gateIn = s.gateIn := rfl
@[simp] theorem State.setRouter_gateRx (c : Nat) (r : Router) : (s.setRouter c r).gateRx = s.gateRx := rfl
@[simp] theorem State.setRouter_centreNext (c : Nat) (r : Router) : (s.setRouter c r).centreNext = s.centreNext := rfl
@[simp] theorem State.setRouter_remoteHold (c : Nat) (r : Router) : (s.setRouter c r).remoteHold = s.remoteHold := rfl
@[simp] theorem State.setRouter_spillAt (c : Nat) (r : Router) : (s.setRouter c r).spillAt = s.spillAt := rfl
@[simp] theorem State.setRouter_slots0 (c : Nat) (r : Router) : (s.setRouter c r).slots0 = s.slots0 := rfl
@[simp] theorem State.setRouter_slots1 (c : Nat) (r : Router) : (s.setRouter c r).slots1 = s.slots1 := rfl
@[simp] theorem State.setRouter_slotVersion (c : Nat) (r : Router) : (s.setRouter c r).slotVersion = s.slotVersion := rfl
@[simp] theorem State.setRouter_switchIn (c : Nat) (r : Router) : (s.setRouter c r).switchIn = s.switchIn := rfl
@[simp] theorem State.setRouter_drainFrom (c : Nat) (r : Router) : (s.setRouter c r).drainFrom = s.drainFrom := rfl
@[simp] theorem State.setRouter_fabric (c : Nat) (r : Router) : (s.setRouter c r).fabric = s.fabric := rfl
@[simp] theorem State.setRouter_learning (c : Nat) (r : Router) : (s.setRouter c r).learning = s.learning := rfl
@[simp] theorem State.setRouter_census (c : Nat) (r : Router) : (s.setRouter c r).census = s.census := rfl
@[simp] theorem State.setRouter_dense (c : Nat) (r : Router) : (s.setRouter c r).dense = s.dense := rfl
@[simp] theorem State.setRouter_moved (c : Nat) (r : Router) : (s.setRouter c r).moved = s.moved := rfl
@[simp] theorem State.setRouter_host (c : Nat) (r : Router) : (s.setRouter c r).host = s.host := rfl
@[simp] theorem State.setRouter_intake (c : Nat) (r : Router) : (s.setRouter c r).intake = s.intake := rfl
@[simp] theorem State.setRouter_power (c : Nat) (r : Router) : (s.setRouter c r).power = s.power := rfl
@[simp] theorem State.setRouter_security (c : Nat) (r : Router) : (s.setRouter c r).security = s.security := rfl
@[simp] theorem State.setRouter_update (c : Nat) (r : Router) : (s.setRouter c r).update = s.update := rfl
@[simp] theorem State.setRouter_harness (c : Nat) (r : Router) : (s.setRouter c r).harness = s.harness := rfl
@[simp] theorem State.setRouter_tether (c : Nat) (r : Router) : (s.setRouter c r).tether = s.tether := rfl
@[simp] theorem State.setRouter_timing (c : Nat) (r : Router) : (s.setRouter c r).timing = s.timing := rfl

/-! ### setStore -/

@[simp] theorem State.setStore_pending (c : Nat) (x : ClusterStore) : (s.setStore c x).pending = s.pending := rfl
@[simp] theorem State.setStore_free (c : Nat) (x : ClusterStore) : (s.setStore c x).free = s.free := rfl
@[simp] theorem State.setStore_now (c : Nat) (x : ClusterStore) : (s.setStore c x).now = s.now := rfl
@[simp] theorem State.setStore_clock (c : Nat) (x : ClusterStore) : (s.setStore c x).clock = s.clock := rfl
@[simp] theorem State.setStore_variant (c : Nat) (x : ClusterStore) : (s.setStore c x).variant = s.variant := rfl
@[simp] theorem State.setStore_regs (c : Nat) (x : ClusterStore) : (s.setStore c x).regs = s.regs := rfl
@[simp] theorem State.setStore_mem (c : Nat) (x : ClusterStore) : (s.setStore c x).mem = s.mem := rfl
@[simp] theorem State.setStore_veils (c : Nat) (x : ClusterStore) : (s.setStore c x).veils = s.veils := rfl
@[simp] theorem State.setStore_resp (c : Nat) (x : ClusterStore) : (s.setStore c x).resp = s.resp := rfl
@[simp] theorem State.setStore_out (c : Nat) (x : ClusterStore) : (s.setStore c x).out = s.out := rfl
@[simp] theorem State.setStore_txHeld (c : Nat) (x : ClusterStore) : (s.setStore c x).txHeld = s.txHeld := rfl
@[simp] theorem State.setStore_seqWait (c : Nat) (x : ClusterStore) : (s.setStore c x).seqWait = s.seqWait := rfl
@[simp] theorem State.setStore_flog (c : Nat) (x : ClusterStore) : (s.setStore c x).flog = s.flog := rfl
@[simp] theorem State.setStore_flogSeq (c : Nat) (x : ClusterStore) : (s.setStore c x).flogSeq = s.flogSeq := rfl
@[simp] theorem State.setStore_logGate (c : Nat) (x : ClusterStore) : (s.setStore c x).logGate = s.logGate := rfl
@[simp] theorem State.setStore_queues (c : Nat) (x : ClusterStore) : (s.setStore c x).queues = s.queues := rfl
@[simp] theorem State.setStore_comb (c : Nat) (x : ClusterStore) : (s.setStore c x).comb = s.comb := rfl
@[simp] theorem State.setStore_lastStatus (c : Nat) (x : ClusterStore) : (s.setStore c x).lastStatus = s.lastStatus := rfl
@[simp] theorem State.setStore_engines (c : Nat) (x : ClusterStore) : (s.setStore c x).engines = s.engines := rfl
@[simp] theorem State.setStore_hitches (c : Nat) (x : ClusterStore) : (s.setStore c x).hitches = s.hitches := rfl
@[simp] theorem State.setStore_hitchNet (c : Nat) (x : ClusterStore) : (s.setStore c x).hitchNet = s.hitchNet := rfl
@[simp] theorem State.setStore_syncOut (c : Nat) (x : ClusterStore) : (s.setStore c x).syncOut = s.syncOut := rfl
@[simp] theorem State.setStore_hitchAwait (c : Nat) (x : ClusterStore) : (s.setStore c x).hitchAwait = s.hitchAwait := rfl
@[simp] theorem State.setStore_failedNodes (c : Nat) (x : ClusterStore) : (s.setStore c x).failedNodes = s.failedNodes := rfl
@[simp] theorem State.setStore_windows (c : Nat) (x : ClusterStore) : (s.setStore c x).windows = s.windows := rfl
@[simp] theorem State.setStore_bankWait (c : Nat) (x : ClusterStore) : (s.setStore c x).bankWait = s.bankWait := rfl
@[simp] theorem State.setStore_classes (c : Nat) (x : ClusterStore) : (s.setStore c x).classes = s.classes := rfl
@[simp] theorem State.setStore_tiles (c : Nat) (x : ClusterStore) : (s.setStore c x).tiles = s.tiles := rfl
@[simp] theorem State.setStore_sramCorr (c : Nat) (x : ClusterStore) : (s.setStore c x).sramCorr = s.sramCorr := rfl
@[simp] theorem State.setStore_initial (c : Nat) (x : ClusterStore) : (s.setStore c x).initial = s.initial := rfl
@[simp] theorem State.setStore_routers (c : Nat) (x : ClusterStore) : (s.setStore c x).routers = s.routers := rfl
@[simp] theorem State.setStore_gateways (c : Nat) (x : ClusterStore) : (s.setStore c x).gateways = s.gateways := rfl
@[simp] theorem State.setStore_gatewayFrcvd (c : Nat) (x : ClusterStore) : (s.setStore c x).gatewayFrcvd = s.gatewayFrcvd := rfl
@[simp] theorem State.setStore_gatewaySrcvd (c : Nat) (x : ClusterStore) : (s.setStore c x).gatewaySrcvd = s.gatewaySrcvd := rfl
@[simp] theorem State.setStore_route0 (c : Nat) (x : ClusterStore) : (s.setStore c x).route0 = s.route0 := rfl
@[simp] theorem State.setStore_route1 (c : Nat) (x : ClusterStore) : (s.setStore c x).route1 = s.route1 := rfl
@[simp] theorem State.setStore_groups0 (c : Nat) (x : ClusterStore) : (s.setStore c x).groups0 = s.groups0 := rfl
@[simp] theorem State.setStore_groups1 (c : Nat) (x : ClusterStore) : (s.setStore c x).groups1 = s.groups1 := rfl
@[simp] theorem State.setStore_members0 (c : Nat) (x : ClusterStore) : (s.setStore c x).members0 = s.members0 := rfl
@[simp] theorem State.setStore_members1 (c : Nat) (x : ClusterStore) : (s.setStore c x).members1 = s.members1 := rfl
@[simp] theorem State.setStore_stores (c : Nat) (x : ClusterStore) : (s.setStore c x).stores = Assoc.set c x s.stores := rfl
@[simp] theorem State.setStore_fetch (c : Nat) (x : ClusterStore) : (s.setStore c x).fetch = s.fetch := rfl
@[simp] theorem State.setStore_gateIn (c : Nat) (x : ClusterStore) : (s.setStore c x).gateIn = s.gateIn := rfl
@[simp] theorem State.setStore_gateRx (c : Nat) (x : ClusterStore) : (s.setStore c x).gateRx = s.gateRx := rfl
@[simp] theorem State.setStore_centreNext (c : Nat) (x : ClusterStore) : (s.setStore c x).centreNext = s.centreNext := rfl
@[simp] theorem State.setStore_remoteHold (c : Nat) (x : ClusterStore) : (s.setStore c x).remoteHold = s.remoteHold := rfl
@[simp] theorem State.setStore_spillAt (c : Nat) (x : ClusterStore) : (s.setStore c x).spillAt = s.spillAt := rfl
@[simp] theorem State.setStore_slots0 (c : Nat) (x : ClusterStore) : (s.setStore c x).slots0 = s.slots0 := rfl
@[simp] theorem State.setStore_slots1 (c : Nat) (x : ClusterStore) : (s.setStore c x).slots1 = s.slots1 := rfl
@[simp] theorem State.setStore_slotVersion (c : Nat) (x : ClusterStore) : (s.setStore c x).slotVersion = s.slotVersion := rfl
@[simp] theorem State.setStore_switchIn (c : Nat) (x : ClusterStore) : (s.setStore c x).switchIn = s.switchIn := rfl
@[simp] theorem State.setStore_drainFrom (c : Nat) (x : ClusterStore) : (s.setStore c x).drainFrom = s.drainFrom := rfl
@[simp] theorem State.setStore_fabric (c : Nat) (x : ClusterStore) : (s.setStore c x).fabric = s.fabric := rfl
@[simp] theorem State.setStore_learning (c : Nat) (x : ClusterStore) : (s.setStore c x).learning = s.learning := rfl
@[simp] theorem State.setStore_census (c : Nat) (x : ClusterStore) : (s.setStore c x).census = s.census := rfl
@[simp] theorem State.setStore_dense (c : Nat) (x : ClusterStore) : (s.setStore c x).dense = s.dense := rfl
@[simp] theorem State.setStore_moved (c : Nat) (x : ClusterStore) : (s.setStore c x).moved = s.moved := rfl
@[simp] theorem State.setStore_host (c : Nat) (x : ClusterStore) : (s.setStore c x).host = s.host := rfl
@[simp] theorem State.setStore_intake (c : Nat) (x : ClusterStore) : (s.setStore c x).intake = s.intake := rfl
@[simp] theorem State.setStore_power (c : Nat) (x : ClusterStore) : (s.setStore c x).power = s.power := rfl
@[simp] theorem State.setStore_security (c : Nat) (x : ClusterStore) : (s.setStore c x).security = s.security := rfl
@[simp] theorem State.setStore_update (c : Nat) (x : ClusterStore) : (s.setStore c x).update = s.update := rfl
@[simp] theorem State.setStore_harness (c : Nat) (x : ClusterStore) : (s.setStore c x).harness = s.harness := rfl
@[simp] theorem State.setStore_tether (c : Nat) (x : ClusterStore) : (s.setStore c x).tether = s.tether := rfl
@[simp] theorem State.setStore_timing (c : Nat) (x : ClusterStore) : (s.setStore c x).timing = s.timing := rfl

/-! ### setFetch -/

@[simp] theorem State.setFetch_pending (k : Nat) (x : FetchEngine) : (s.setFetch k x).pending = s.pending := rfl
@[simp] theorem State.setFetch_free (k : Nat) (x : FetchEngine) : (s.setFetch k x).free = s.free := rfl
@[simp] theorem State.setFetch_now (k : Nat) (x : FetchEngine) : (s.setFetch k x).now = s.now := rfl
@[simp] theorem State.setFetch_clock (k : Nat) (x : FetchEngine) : (s.setFetch k x).clock = s.clock := rfl
@[simp] theorem State.setFetch_variant (k : Nat) (x : FetchEngine) : (s.setFetch k x).variant = s.variant := rfl
@[simp] theorem State.setFetch_regs (k : Nat) (x : FetchEngine) : (s.setFetch k x).regs = s.regs := rfl
@[simp] theorem State.setFetch_mem (k : Nat) (x : FetchEngine) : (s.setFetch k x).mem = s.mem := rfl
@[simp] theorem State.setFetch_veils (k : Nat) (x : FetchEngine) : (s.setFetch k x).veils = s.veils := rfl
@[simp] theorem State.setFetch_resp (k : Nat) (x : FetchEngine) : (s.setFetch k x).resp = s.resp := rfl
@[simp] theorem State.setFetch_out (k : Nat) (x : FetchEngine) : (s.setFetch k x).out = s.out := rfl
@[simp] theorem State.setFetch_txHeld (k : Nat) (x : FetchEngine) : (s.setFetch k x).txHeld = s.txHeld := rfl
@[simp] theorem State.setFetch_seqWait (k : Nat) (x : FetchEngine) : (s.setFetch k x).seqWait = s.seqWait := rfl
@[simp] theorem State.setFetch_flog (k : Nat) (x : FetchEngine) : (s.setFetch k x).flog = s.flog := rfl
@[simp] theorem State.setFetch_flogSeq (k : Nat) (x : FetchEngine) : (s.setFetch k x).flogSeq = s.flogSeq := rfl
@[simp] theorem State.setFetch_logGate (k : Nat) (x : FetchEngine) : (s.setFetch k x).logGate = s.logGate := rfl
@[simp] theorem State.setFetch_queues (k : Nat) (x : FetchEngine) : (s.setFetch k x).queues = s.queues := rfl
@[simp] theorem State.setFetch_comb (k : Nat) (x : FetchEngine) : (s.setFetch k x).comb = s.comb := rfl
@[simp] theorem State.setFetch_lastStatus (k : Nat) (x : FetchEngine) : (s.setFetch k x).lastStatus = s.lastStatus := rfl
@[simp] theorem State.setFetch_engines (k : Nat) (x : FetchEngine) : (s.setFetch k x).engines = s.engines := rfl
@[simp] theorem State.setFetch_hitches (k : Nat) (x : FetchEngine) : (s.setFetch k x).hitches = s.hitches := rfl
@[simp] theorem State.setFetch_hitchNet (k : Nat) (x : FetchEngine) : (s.setFetch k x).hitchNet = s.hitchNet := rfl
@[simp] theorem State.setFetch_syncOut (k : Nat) (x : FetchEngine) : (s.setFetch k x).syncOut = s.syncOut := rfl
@[simp] theorem State.setFetch_hitchAwait (k : Nat) (x : FetchEngine) : (s.setFetch k x).hitchAwait = s.hitchAwait := rfl
@[simp] theorem State.setFetch_failedNodes (k : Nat) (x : FetchEngine) : (s.setFetch k x).failedNodes = s.failedNodes := rfl
@[simp] theorem State.setFetch_windows (k : Nat) (x : FetchEngine) : (s.setFetch k x).windows = s.windows := rfl
@[simp] theorem State.setFetch_bankWait (k : Nat) (x : FetchEngine) : (s.setFetch k x).bankWait = s.bankWait := rfl
@[simp] theorem State.setFetch_classes (k : Nat) (x : FetchEngine) : (s.setFetch k x).classes = s.classes := rfl
@[simp] theorem State.setFetch_tiles (k : Nat) (x : FetchEngine) : (s.setFetch k x).tiles = s.tiles := rfl
@[simp] theorem State.setFetch_sramCorr (k : Nat) (x : FetchEngine) : (s.setFetch k x).sramCorr = s.sramCorr := rfl
@[simp] theorem State.setFetch_initial (k : Nat) (x : FetchEngine) : (s.setFetch k x).initial = s.initial := rfl
@[simp] theorem State.setFetch_routers (k : Nat) (x : FetchEngine) : (s.setFetch k x).routers = s.routers := rfl
@[simp] theorem State.setFetch_gateways (k : Nat) (x : FetchEngine) : (s.setFetch k x).gateways = s.gateways := rfl
@[simp] theorem State.setFetch_gatewayFrcvd (k : Nat) (x : FetchEngine) : (s.setFetch k x).gatewayFrcvd = s.gatewayFrcvd := rfl
@[simp] theorem State.setFetch_gatewaySrcvd (k : Nat) (x : FetchEngine) : (s.setFetch k x).gatewaySrcvd = s.gatewaySrcvd := rfl
@[simp] theorem State.setFetch_route0 (k : Nat) (x : FetchEngine) : (s.setFetch k x).route0 = s.route0 := rfl
@[simp] theorem State.setFetch_route1 (k : Nat) (x : FetchEngine) : (s.setFetch k x).route1 = s.route1 := rfl
@[simp] theorem State.setFetch_groups0 (k : Nat) (x : FetchEngine) : (s.setFetch k x).groups0 = s.groups0 := rfl
@[simp] theorem State.setFetch_groups1 (k : Nat) (x : FetchEngine) : (s.setFetch k x).groups1 = s.groups1 := rfl
@[simp] theorem State.setFetch_members0 (k : Nat) (x : FetchEngine) : (s.setFetch k x).members0 = s.members0 := rfl
@[simp] theorem State.setFetch_members1 (k : Nat) (x : FetchEngine) : (s.setFetch k x).members1 = s.members1 := rfl
@[simp] theorem State.setFetch_stores (k : Nat) (x : FetchEngine) : (s.setFetch k x).stores = s.stores := rfl
@[simp] theorem State.setFetch_fetch (k : Nat) (x : FetchEngine) : (s.setFetch k x).fetch = Assoc.set k x s.fetch := rfl
@[simp] theorem State.setFetch_gateIn (k : Nat) (x : FetchEngine) : (s.setFetch k x).gateIn = s.gateIn := rfl
@[simp] theorem State.setFetch_gateRx (k : Nat) (x : FetchEngine) : (s.setFetch k x).gateRx = s.gateRx := rfl
@[simp] theorem State.setFetch_centreNext (k : Nat) (x : FetchEngine) : (s.setFetch k x).centreNext = s.centreNext := rfl
@[simp] theorem State.setFetch_remoteHold (k : Nat) (x : FetchEngine) : (s.setFetch k x).remoteHold = s.remoteHold := rfl
@[simp] theorem State.setFetch_spillAt (k : Nat) (x : FetchEngine) : (s.setFetch k x).spillAt = s.spillAt := rfl
@[simp] theorem State.setFetch_slots0 (k : Nat) (x : FetchEngine) : (s.setFetch k x).slots0 = s.slots0 := rfl
@[simp] theorem State.setFetch_slots1 (k : Nat) (x : FetchEngine) : (s.setFetch k x).slots1 = s.slots1 := rfl
@[simp] theorem State.setFetch_slotVersion (k : Nat) (x : FetchEngine) : (s.setFetch k x).slotVersion = s.slotVersion := rfl
@[simp] theorem State.setFetch_switchIn (k : Nat) (x : FetchEngine) : (s.setFetch k x).switchIn = s.switchIn := rfl
@[simp] theorem State.setFetch_drainFrom (k : Nat) (x : FetchEngine) : (s.setFetch k x).drainFrom = s.drainFrom := rfl
@[simp] theorem State.setFetch_fabric (k : Nat) (x : FetchEngine) : (s.setFetch k x).fabric = s.fabric := rfl
@[simp] theorem State.setFetch_learning (k : Nat) (x : FetchEngine) : (s.setFetch k x).learning = s.learning := rfl
@[simp] theorem State.setFetch_census (k : Nat) (x : FetchEngine) : (s.setFetch k x).census = s.census := rfl
@[simp] theorem State.setFetch_dense (k : Nat) (x : FetchEngine) : (s.setFetch k x).dense = s.dense := rfl
@[simp] theorem State.setFetch_moved (k : Nat) (x : FetchEngine) : (s.setFetch k x).moved = s.moved := rfl
@[simp] theorem State.setFetch_host (k : Nat) (x : FetchEngine) : (s.setFetch k x).host = s.host := rfl
@[simp] theorem State.setFetch_intake (k : Nat) (x : FetchEngine) : (s.setFetch k x).intake = s.intake := rfl
@[simp] theorem State.setFetch_power (k : Nat) (x : FetchEngine) : (s.setFetch k x).power = s.power := rfl
@[simp] theorem State.setFetch_security (k : Nat) (x : FetchEngine) : (s.setFetch k x).security = s.security := rfl
@[simp] theorem State.setFetch_update (k : Nat) (x : FetchEngine) : (s.setFetch k x).update = s.update := rfl
@[simp] theorem State.setFetch_harness (k : Nat) (x : FetchEngine) : (s.setFetch k x).harness = s.harness := rfl
@[simp] theorem State.setFetch_tether (k : Nat) (x : FetchEngine) : (s.setFetch k x).tether = s.tether := rfl
@[simp] theorem State.setFetch_timing (k : Nat) (x : FetchEngine) : (s.setFetch k x).timing = s.timing := rfl

/-! ### setPort -/

@[simp] theorem State.setPort_pending (p : Nat) (x : IntakePort) : (s.setPort p x).pending = s.pending := rfl
@[simp] theorem State.setPort_free (p : Nat) (x : IntakePort) : (s.setPort p x).free = s.free := rfl
@[simp] theorem State.setPort_now (p : Nat) (x : IntakePort) : (s.setPort p x).now = s.now := rfl
@[simp] theorem State.setPort_clock (p : Nat) (x : IntakePort) : (s.setPort p x).clock = s.clock := rfl
@[simp] theorem State.setPort_variant (p : Nat) (x : IntakePort) : (s.setPort p x).variant = s.variant := rfl
@[simp] theorem State.setPort_regs (p : Nat) (x : IntakePort) : (s.setPort p x).regs = s.regs := rfl
@[simp] theorem State.setPort_mem (p : Nat) (x : IntakePort) : (s.setPort p x).mem = s.mem := rfl
@[simp] theorem State.setPort_veils (p : Nat) (x : IntakePort) : (s.setPort p x).veils = s.veils := rfl
@[simp] theorem State.setPort_resp (p : Nat) (x : IntakePort) : (s.setPort p x).resp = s.resp := rfl
@[simp] theorem State.setPort_out (p : Nat) (x : IntakePort) : (s.setPort p x).out = s.out := rfl
@[simp] theorem State.setPort_txHeld (p : Nat) (x : IntakePort) : (s.setPort p x).txHeld = s.txHeld := rfl
@[simp] theorem State.setPort_seqWait (p : Nat) (x : IntakePort) : (s.setPort p x).seqWait = s.seqWait := rfl
@[simp] theorem State.setPort_flog (p : Nat) (x : IntakePort) : (s.setPort p x).flog = s.flog := rfl
@[simp] theorem State.setPort_flogSeq (p : Nat) (x : IntakePort) : (s.setPort p x).flogSeq = s.flogSeq := rfl
@[simp] theorem State.setPort_logGate (p : Nat) (x : IntakePort) : (s.setPort p x).logGate = s.logGate := rfl
@[simp] theorem State.setPort_queues (p : Nat) (x : IntakePort) : (s.setPort p x).queues = s.queues := rfl
@[simp] theorem State.setPort_comb (p : Nat) (x : IntakePort) : (s.setPort p x).comb = s.comb := rfl
@[simp] theorem State.setPort_lastStatus (p : Nat) (x : IntakePort) : (s.setPort p x).lastStatus = s.lastStatus := rfl
@[simp] theorem State.setPort_engines (p : Nat) (x : IntakePort) : (s.setPort p x).engines = s.engines := rfl
@[simp] theorem State.setPort_hitches (p : Nat) (x : IntakePort) : (s.setPort p x).hitches = s.hitches := rfl
@[simp] theorem State.setPort_hitchNet (p : Nat) (x : IntakePort) : (s.setPort p x).hitchNet = s.hitchNet := rfl
@[simp] theorem State.setPort_syncOut (p : Nat) (x : IntakePort) : (s.setPort p x).syncOut = s.syncOut := rfl
@[simp] theorem State.setPort_hitchAwait (p : Nat) (x : IntakePort) : (s.setPort p x).hitchAwait = s.hitchAwait := rfl
@[simp] theorem State.setPort_failedNodes (p : Nat) (x : IntakePort) : (s.setPort p x).failedNodes = s.failedNodes := rfl
@[simp] theorem State.setPort_windows (p : Nat) (x : IntakePort) : (s.setPort p x).windows = s.windows := rfl
@[simp] theorem State.setPort_bankWait (p : Nat) (x : IntakePort) : (s.setPort p x).bankWait = s.bankWait := rfl
@[simp] theorem State.setPort_classes (p : Nat) (x : IntakePort) : (s.setPort p x).classes = s.classes := rfl
@[simp] theorem State.setPort_tiles (p : Nat) (x : IntakePort) : (s.setPort p x).tiles = s.tiles := rfl
@[simp] theorem State.setPort_sramCorr (p : Nat) (x : IntakePort) : (s.setPort p x).sramCorr = s.sramCorr := rfl
@[simp] theorem State.setPort_initial (p : Nat) (x : IntakePort) : (s.setPort p x).initial = s.initial := rfl
@[simp] theorem State.setPort_routers (p : Nat) (x : IntakePort) : (s.setPort p x).routers = s.routers := rfl
@[simp] theorem State.setPort_gateways (p : Nat) (x : IntakePort) : (s.setPort p x).gateways = s.gateways := rfl
@[simp] theorem State.setPort_gatewayFrcvd (p : Nat) (x : IntakePort) : (s.setPort p x).gatewayFrcvd = s.gatewayFrcvd := rfl
@[simp] theorem State.setPort_gatewaySrcvd (p : Nat) (x : IntakePort) : (s.setPort p x).gatewaySrcvd = s.gatewaySrcvd := rfl
@[simp] theorem State.setPort_route0 (p : Nat) (x : IntakePort) : (s.setPort p x).route0 = s.route0 := rfl
@[simp] theorem State.setPort_route1 (p : Nat) (x : IntakePort) : (s.setPort p x).route1 = s.route1 := rfl
@[simp] theorem State.setPort_groups0 (p : Nat) (x : IntakePort) : (s.setPort p x).groups0 = s.groups0 := rfl
@[simp] theorem State.setPort_groups1 (p : Nat) (x : IntakePort) : (s.setPort p x).groups1 = s.groups1 := rfl
@[simp] theorem State.setPort_members0 (p : Nat) (x : IntakePort) : (s.setPort p x).members0 = s.members0 := rfl
@[simp] theorem State.setPort_members1 (p : Nat) (x : IntakePort) : (s.setPort p x).members1 = s.members1 := rfl
@[simp] theorem State.setPort_stores (p : Nat) (x : IntakePort) : (s.setPort p x).stores = s.stores := rfl
@[simp] theorem State.setPort_fetch (p : Nat) (x : IntakePort) : (s.setPort p x).fetch = s.fetch := rfl
@[simp] theorem State.setPort_gateIn (p : Nat) (x : IntakePort) : (s.setPort p x).gateIn = s.gateIn := rfl
@[simp] theorem State.setPort_gateRx (p : Nat) (x : IntakePort) : (s.setPort p x).gateRx = s.gateRx := rfl
@[simp] theorem State.setPort_centreNext (p : Nat) (x : IntakePort) : (s.setPort p x).centreNext = s.centreNext := rfl
@[simp] theorem State.setPort_remoteHold (p : Nat) (x : IntakePort) : (s.setPort p x).remoteHold = s.remoteHold := rfl
@[simp] theorem State.setPort_spillAt (p : Nat) (x : IntakePort) : (s.setPort p x).spillAt = s.spillAt := rfl
@[simp] theorem State.setPort_slots0 (p : Nat) (x : IntakePort) : (s.setPort p x).slots0 = s.slots0 := rfl
@[simp] theorem State.setPort_slots1 (p : Nat) (x : IntakePort) : (s.setPort p x).slots1 = s.slots1 := rfl
@[simp] theorem State.setPort_slotVersion (p : Nat) (x : IntakePort) : (s.setPort p x).slotVersion = s.slotVersion := rfl
@[simp] theorem State.setPort_switchIn (p : Nat) (x : IntakePort) : (s.setPort p x).switchIn = s.switchIn := rfl
@[simp] theorem State.setPort_drainFrom (p : Nat) (x : IntakePort) : (s.setPort p x).drainFrom = s.drainFrom := rfl
@[simp] theorem State.setPort_fabric (p : Nat) (x : IntakePort) : (s.setPort p x).fabric = s.fabric := rfl
@[simp] theorem State.setPort_learning (p : Nat) (x : IntakePort) : (s.setPort p x).learning = s.learning := rfl
@[simp] theorem State.setPort_census (p : Nat) (x : IntakePort) : (s.setPort p x).census = s.census := rfl
@[simp] theorem State.setPort_dense (p : Nat) (x : IntakePort) : (s.setPort p x).dense = s.dense := rfl
@[simp] theorem State.setPort_moved (p : Nat) (x : IntakePort) : (s.setPort p x).moved = s.moved := rfl
@[simp] theorem State.setPort_host (p : Nat) (x : IntakePort) : (s.setPort p x).host = s.host := rfl
@[simp] theorem State.setPort_intake (p : Nat) (x : IntakePort) : (s.setPort p x).intake = Assoc.set p x s.intake := rfl
@[simp] theorem State.setPort_power (p : Nat) (x : IntakePort) : (s.setPort p x).power = s.power := rfl
@[simp] theorem State.setPort_security (p : Nat) (x : IntakePort) : (s.setPort p x).security = s.security := rfl
@[simp] theorem State.setPort_update (p : Nat) (x : IntakePort) : (s.setPort p x).update = s.update := rfl
@[simp] theorem State.setPort_harness (p : Nat) (x : IntakePort) : (s.setPort p x).harness = s.harness := rfl
@[simp] theorem State.setPort_tether (p : Nat) (x : IntakePort) : (s.setPort p x).tether = s.tether := rfl
@[simp] theorem State.setPort_timing (p : Nat) (x : IntakePort) : (s.setPort p x).timing = s.timing := rfl

/-! ### setTimer -/

@[simp] theorem State.setTimer_pending (k : Nat) (x : Timer) : (s.setTimer k x).pending = s.pending := rfl
@[simp] theorem State.setTimer_free (k : Nat) (x : Timer) : (s.setTimer k x).free = s.free := rfl
@[simp] theorem State.setTimer_now (k : Nat) (x : Timer) : (s.setTimer k x).now = s.now := rfl
@[simp] theorem State.setTimer_clock (k : Nat) (x : Timer) : (s.setTimer k x).clock = s.clock := rfl
@[simp] theorem State.setTimer_variant (k : Nat) (x : Timer) : (s.setTimer k x).variant = s.variant := rfl
@[simp] theorem State.setTimer_regs (k : Nat) (x : Timer) : (s.setTimer k x).regs = s.regs := rfl
@[simp] theorem State.setTimer_mem (k : Nat) (x : Timer) : (s.setTimer k x).mem = s.mem := rfl
@[simp] theorem State.setTimer_veils (k : Nat) (x : Timer) : (s.setTimer k x).veils = s.veils := rfl
@[simp] theorem State.setTimer_resp (k : Nat) (x : Timer) : (s.setTimer k x).resp = s.resp := rfl
@[simp] theorem State.setTimer_out (k : Nat) (x : Timer) : (s.setTimer k x).out = s.out := rfl
@[simp] theorem State.setTimer_txHeld (k : Nat) (x : Timer) : (s.setTimer k x).txHeld = s.txHeld := rfl
@[simp] theorem State.setTimer_seqWait (k : Nat) (x : Timer) : (s.setTimer k x).seqWait = s.seqWait := rfl
@[simp] theorem State.setTimer_flog (k : Nat) (x : Timer) : (s.setTimer k x).flog = s.flog := rfl
@[simp] theorem State.setTimer_flogSeq (k : Nat) (x : Timer) : (s.setTimer k x).flogSeq = s.flogSeq := rfl
@[simp] theorem State.setTimer_logGate (k : Nat) (x : Timer) : (s.setTimer k x).logGate = s.logGate := rfl
@[simp] theorem State.setTimer_queues (k : Nat) (x : Timer) : (s.setTimer k x).queues = s.queues := rfl
@[simp] theorem State.setTimer_comb (k : Nat) (x : Timer) : (s.setTimer k x).comb = s.comb := rfl
@[simp] theorem State.setTimer_lastStatus (k : Nat) (x : Timer) : (s.setTimer k x).lastStatus = s.lastStatus := rfl
@[simp] theorem State.setTimer_engines (k : Nat) (x : Timer) : (s.setTimer k x).engines = s.engines := rfl
@[simp] theorem State.setTimer_hitches (k : Nat) (x : Timer) : (s.setTimer k x).hitches = s.hitches := rfl
@[simp] theorem State.setTimer_hitchNet (k : Nat) (x : Timer) : (s.setTimer k x).hitchNet = s.hitchNet := rfl
@[simp] theorem State.setTimer_syncOut (k : Nat) (x : Timer) : (s.setTimer k x).syncOut = s.syncOut := rfl
@[simp] theorem State.setTimer_hitchAwait (k : Nat) (x : Timer) : (s.setTimer k x).hitchAwait = s.hitchAwait := rfl
@[simp] theorem State.setTimer_failedNodes (k : Nat) (x : Timer) : (s.setTimer k x).failedNodes = s.failedNodes := rfl
@[simp] theorem State.setTimer_windows (k : Nat) (x : Timer) : (s.setTimer k x).windows = s.windows := rfl
@[simp] theorem State.setTimer_bankWait (k : Nat) (x : Timer) : (s.setTimer k x).bankWait = s.bankWait := rfl
@[simp] theorem State.setTimer_classes (k : Nat) (x : Timer) : (s.setTimer k x).classes = s.classes := rfl
@[simp] theorem State.setTimer_tiles (k : Nat) (x : Timer) : (s.setTimer k x).tiles = s.tiles := rfl
@[simp] theorem State.setTimer_sramCorr (k : Nat) (x : Timer) : (s.setTimer k x).sramCorr = s.sramCorr := rfl
@[simp] theorem State.setTimer_initial (k : Nat) (x : Timer) : (s.setTimer k x).initial = s.initial := rfl
@[simp] theorem State.setTimer_routers (k : Nat) (x : Timer) : (s.setTimer k x).routers = s.routers := rfl
@[simp] theorem State.setTimer_gateways (k : Nat) (x : Timer) : (s.setTimer k x).gateways = s.gateways := rfl
@[simp] theorem State.setTimer_gatewayFrcvd (k : Nat) (x : Timer) : (s.setTimer k x).gatewayFrcvd = s.gatewayFrcvd := rfl
@[simp] theorem State.setTimer_gatewaySrcvd (k : Nat) (x : Timer) : (s.setTimer k x).gatewaySrcvd = s.gatewaySrcvd := rfl
@[simp] theorem State.setTimer_route0 (k : Nat) (x : Timer) : (s.setTimer k x).route0 = s.route0 := rfl
@[simp] theorem State.setTimer_route1 (k : Nat) (x : Timer) : (s.setTimer k x).route1 = s.route1 := rfl
@[simp] theorem State.setTimer_groups0 (k : Nat) (x : Timer) : (s.setTimer k x).groups0 = s.groups0 := rfl
@[simp] theorem State.setTimer_groups1 (k : Nat) (x : Timer) : (s.setTimer k x).groups1 = s.groups1 := rfl
@[simp] theorem State.setTimer_members0 (k : Nat) (x : Timer) : (s.setTimer k x).members0 = s.members0 := rfl
@[simp] theorem State.setTimer_members1 (k : Nat) (x : Timer) : (s.setTimer k x).members1 = s.members1 := rfl
@[simp] theorem State.setTimer_stores (k : Nat) (x : Timer) : (s.setTimer k x).stores = s.stores := rfl
@[simp] theorem State.setTimer_fetch (k : Nat) (x : Timer) : (s.setTimer k x).fetch = s.fetch := rfl
@[simp] theorem State.setTimer_gateIn (k : Nat) (x : Timer) : (s.setTimer k x).gateIn = s.gateIn := rfl
@[simp] theorem State.setTimer_gateRx (k : Nat) (x : Timer) : (s.setTimer k x).gateRx = s.gateRx := rfl
@[simp] theorem State.setTimer_centreNext (k : Nat) (x : Timer) : (s.setTimer k x).centreNext = s.centreNext := rfl
@[simp] theorem State.setTimer_remoteHold (k : Nat) (x : Timer) : (s.setTimer k x).remoteHold = s.remoteHold := rfl
@[simp] theorem State.setTimer_spillAt (k : Nat) (x : Timer) : (s.setTimer k x).spillAt = s.spillAt := rfl
@[simp] theorem State.setTimer_slots0 (k : Nat) (x : Timer) : (s.setTimer k x).slots0 = s.slots0 := rfl
@[simp] theorem State.setTimer_slots1 (k : Nat) (x : Timer) : (s.setTimer k x).slots1 = s.slots1 := rfl
@[simp] theorem State.setTimer_slotVersion (k : Nat) (x : Timer) : (s.setTimer k x).slotVersion = s.slotVersion := rfl
@[simp] theorem State.setTimer_switchIn (k : Nat) (x : Timer) : (s.setTimer k x).switchIn = s.switchIn := rfl
@[simp] theorem State.setTimer_drainFrom (k : Nat) (x : Timer) : (s.setTimer k x).drainFrom = s.drainFrom := rfl
@[simp] theorem State.setTimer_fabric (k : Nat) (x : Timer) : (s.setTimer k x).fabric = s.fabric := rfl
@[simp] theorem State.setTimer_learning (k : Nat) (x : Timer) : (s.setTimer k x).learning = s.learning := rfl
@[simp] theorem State.setTimer_census (k : Nat) (x : Timer) : (s.setTimer k x).census = s.census := rfl
@[simp] theorem State.setTimer_dense (k : Nat) (x : Timer) : (s.setTimer k x).dense = s.dense := rfl
@[simp] theorem State.setTimer_moved (k : Nat) (x : Timer) : (s.setTimer k x).moved = s.moved := rfl
@[simp] theorem State.setTimer_host (k : Nat) (x : Timer) : (s.setTimer k x).host = s.host := rfl
@[simp] theorem State.setTimer_intake (k : Nat) (x : Timer) : (s.setTimer k x).intake = s.intake := rfl
@[simp] theorem State.setTimer_power (k : Nat) (x : Timer) : (s.setTimer k x).power = s.power := rfl
@[simp] theorem State.setTimer_security (k : Nat) (x : Timer) : (s.setTimer k x).security = s.security := rfl
@[simp] theorem State.setTimer_update (k : Nat) (x : Timer) : (s.setTimer k x).update = s.update := rfl
@[simp] theorem State.setTimer_harness (k : Nat) (x : Timer) : (s.setTimer k x).harness = s.harness := rfl
@[simp] theorem State.setTimer_tether (k : Nat) (x : Timer) : (s.setTimer k x).tether = s.tether := rfl
@[simp] theorem State.setTimer_timing (k : Nat) (x : Timer) : (s.setTimer k x).timing = { s.timing with timers := Assoc.set k x s.timing.timers } := rfl

/-! ### setEncoder -/

@[simp] theorem State.setEncoder_pending (c : Nat) (x : Encoder) : (s.setEncoder c x).pending = s.pending := rfl
@[simp] theorem State.setEncoder_free (c : Nat) (x : Encoder) : (s.setEncoder c x).free = s.free := rfl
@[simp] theorem State.setEncoder_now (c : Nat) (x : Encoder) : (s.setEncoder c x).now = s.now := rfl
@[simp] theorem State.setEncoder_clock (c : Nat) (x : Encoder) : (s.setEncoder c x).clock = s.clock := rfl
@[simp] theorem State.setEncoder_variant (c : Nat) (x : Encoder) : (s.setEncoder c x).variant = s.variant := rfl
@[simp] theorem State.setEncoder_regs (c : Nat) (x : Encoder) : (s.setEncoder c x).regs = s.regs := rfl
@[simp] theorem State.setEncoder_mem (c : Nat) (x : Encoder) : (s.setEncoder c x).mem = s.mem := rfl
@[simp] theorem State.setEncoder_veils (c : Nat) (x : Encoder) : (s.setEncoder c x).veils = s.veils := rfl
@[simp] theorem State.setEncoder_resp (c : Nat) (x : Encoder) : (s.setEncoder c x).resp = s.resp := rfl
@[simp] theorem State.setEncoder_out (c : Nat) (x : Encoder) : (s.setEncoder c x).out = s.out := rfl
@[simp] theorem State.setEncoder_txHeld (c : Nat) (x : Encoder) : (s.setEncoder c x).txHeld = s.txHeld := rfl
@[simp] theorem State.setEncoder_seqWait (c : Nat) (x : Encoder) : (s.setEncoder c x).seqWait = s.seqWait := rfl
@[simp] theorem State.setEncoder_flog (c : Nat) (x : Encoder) : (s.setEncoder c x).flog = s.flog := rfl
@[simp] theorem State.setEncoder_flogSeq (c : Nat) (x : Encoder) : (s.setEncoder c x).flogSeq = s.flogSeq := rfl
@[simp] theorem State.setEncoder_logGate (c : Nat) (x : Encoder) : (s.setEncoder c x).logGate = s.logGate := rfl
@[simp] theorem State.setEncoder_queues (c : Nat) (x : Encoder) : (s.setEncoder c x).queues = s.queues := rfl
@[simp] theorem State.setEncoder_comb (c : Nat) (x : Encoder) : (s.setEncoder c x).comb = s.comb := rfl
@[simp] theorem State.setEncoder_lastStatus (c : Nat) (x : Encoder) : (s.setEncoder c x).lastStatus = s.lastStatus := rfl
@[simp] theorem State.setEncoder_engines (c : Nat) (x : Encoder) : (s.setEncoder c x).engines = s.engines := rfl
@[simp] theorem State.setEncoder_hitches (c : Nat) (x : Encoder) : (s.setEncoder c x).hitches = s.hitches := rfl
@[simp] theorem State.setEncoder_hitchNet (c : Nat) (x : Encoder) : (s.setEncoder c x).hitchNet = s.hitchNet := rfl
@[simp] theorem State.setEncoder_syncOut (c : Nat) (x : Encoder) : (s.setEncoder c x).syncOut = s.syncOut := rfl
@[simp] theorem State.setEncoder_hitchAwait (c : Nat) (x : Encoder) : (s.setEncoder c x).hitchAwait = s.hitchAwait := rfl
@[simp] theorem State.setEncoder_failedNodes (c : Nat) (x : Encoder) : (s.setEncoder c x).failedNodes = s.failedNodes := rfl
@[simp] theorem State.setEncoder_windows (c : Nat) (x : Encoder) : (s.setEncoder c x).windows = s.windows := rfl
@[simp] theorem State.setEncoder_bankWait (c : Nat) (x : Encoder) : (s.setEncoder c x).bankWait = s.bankWait := rfl
@[simp] theorem State.setEncoder_classes (c : Nat) (x : Encoder) : (s.setEncoder c x).classes = s.classes := rfl
@[simp] theorem State.setEncoder_tiles (c : Nat) (x : Encoder) : (s.setEncoder c x).tiles = s.tiles := rfl
@[simp] theorem State.setEncoder_sramCorr (c : Nat) (x : Encoder) : (s.setEncoder c x).sramCorr = s.sramCorr := rfl
@[simp] theorem State.setEncoder_initial (c : Nat) (x : Encoder) : (s.setEncoder c x).initial = s.initial := rfl
@[simp] theorem State.setEncoder_routers (c : Nat) (x : Encoder) : (s.setEncoder c x).routers = s.routers := rfl
@[simp] theorem State.setEncoder_gateways (c : Nat) (x : Encoder) : (s.setEncoder c x).gateways = s.gateways := rfl
@[simp] theorem State.setEncoder_gatewayFrcvd (c : Nat) (x : Encoder) : (s.setEncoder c x).gatewayFrcvd = s.gatewayFrcvd := rfl
@[simp] theorem State.setEncoder_gatewaySrcvd (c : Nat) (x : Encoder) : (s.setEncoder c x).gatewaySrcvd = s.gatewaySrcvd := rfl
@[simp] theorem State.setEncoder_route0 (c : Nat) (x : Encoder) : (s.setEncoder c x).route0 = s.route0 := rfl
@[simp] theorem State.setEncoder_route1 (c : Nat) (x : Encoder) : (s.setEncoder c x).route1 = s.route1 := rfl
@[simp] theorem State.setEncoder_groups0 (c : Nat) (x : Encoder) : (s.setEncoder c x).groups0 = s.groups0 := rfl
@[simp] theorem State.setEncoder_groups1 (c : Nat) (x : Encoder) : (s.setEncoder c x).groups1 = s.groups1 := rfl
@[simp] theorem State.setEncoder_members0 (c : Nat) (x : Encoder) : (s.setEncoder c x).members0 = s.members0 := rfl
@[simp] theorem State.setEncoder_members1 (c : Nat) (x : Encoder) : (s.setEncoder c x).members1 = s.members1 := rfl
@[simp] theorem State.setEncoder_stores (c : Nat) (x : Encoder) : (s.setEncoder c x).stores = s.stores := rfl
@[simp] theorem State.setEncoder_fetch (c : Nat) (x : Encoder) : (s.setEncoder c x).fetch = s.fetch := rfl
@[simp] theorem State.setEncoder_gateIn (c : Nat) (x : Encoder) : (s.setEncoder c x).gateIn = s.gateIn := rfl
@[simp] theorem State.setEncoder_gateRx (c : Nat) (x : Encoder) : (s.setEncoder c x).gateRx = s.gateRx := rfl
@[simp] theorem State.setEncoder_centreNext (c : Nat) (x : Encoder) : (s.setEncoder c x).centreNext = s.centreNext := rfl
@[simp] theorem State.setEncoder_remoteHold (c : Nat) (x : Encoder) : (s.setEncoder c x).remoteHold = s.remoteHold := rfl
@[simp] theorem State.setEncoder_spillAt (c : Nat) (x : Encoder) : (s.setEncoder c x).spillAt = s.spillAt := rfl
@[simp] theorem State.setEncoder_slots0 (c : Nat) (x : Encoder) : (s.setEncoder c x).slots0 = s.slots0 := rfl
@[simp] theorem State.setEncoder_slots1 (c : Nat) (x : Encoder) : (s.setEncoder c x).slots1 = s.slots1 := rfl
@[simp] theorem State.setEncoder_slotVersion (c : Nat) (x : Encoder) : (s.setEncoder c x).slotVersion = s.slotVersion := rfl
@[simp] theorem State.setEncoder_switchIn (c : Nat) (x : Encoder) : (s.setEncoder c x).switchIn = s.switchIn := rfl
@[simp] theorem State.setEncoder_drainFrom (c : Nat) (x : Encoder) : (s.setEncoder c x).drainFrom = s.drainFrom := rfl
@[simp] theorem State.setEncoder_fabric (c : Nat) (x : Encoder) : (s.setEncoder c x).fabric = s.fabric := rfl
@[simp] theorem State.setEncoder_learning (c : Nat) (x : Encoder) : (s.setEncoder c x).learning = s.learning := rfl
@[simp] theorem State.setEncoder_census (c : Nat) (x : Encoder) : (s.setEncoder c x).census = s.census := rfl
@[simp] theorem State.setEncoder_dense (c : Nat) (x : Encoder) : (s.setEncoder c x).dense = s.dense := rfl
@[simp] theorem State.setEncoder_moved (c : Nat) (x : Encoder) : (s.setEncoder c x).moved = s.moved := rfl
@[simp] theorem State.setEncoder_host (c : Nat) (x : Encoder) : (s.setEncoder c x).host = s.host := rfl
@[simp] theorem State.setEncoder_intake (c : Nat) (x : Encoder) : (s.setEncoder c x).intake = s.intake := rfl
@[simp] theorem State.setEncoder_power (c : Nat) (x : Encoder) : (s.setEncoder c x).power = s.power := rfl
@[simp] theorem State.setEncoder_security (c : Nat) (x : Encoder) : (s.setEncoder c x).security = s.security := rfl
@[simp] theorem State.setEncoder_update (c : Nat) (x : Encoder) : (s.setEncoder c x).update = s.update := rfl
@[simp] theorem State.setEncoder_harness (c : Nat) (x : Encoder) : (s.setEncoder c x).harness = s.harness := rfl
@[simp] theorem State.setEncoder_tether (c : Nat) (x : Encoder) : (s.setEncoder c x).tether = s.tether := rfl
@[simp] theorem State.setEncoder_timing (c : Nat) (x : Encoder) : (s.setEncoder c x).timing = { s.timing with encoders := Assoc.set c x s.timing.encoders } := rfl

/-! ### modFabric -/

@[simp] theorem State.modFabric_pending (f : Fabric → Fabric) : (s.modFabric f).pending = s.pending := rfl
@[simp] theorem State.modFabric_free (f : Fabric → Fabric) : (s.modFabric f).free = s.free := rfl
@[simp] theorem State.modFabric_now (f : Fabric → Fabric) : (s.modFabric f).now = s.now := rfl
@[simp] theorem State.modFabric_clock (f : Fabric → Fabric) : (s.modFabric f).clock = s.clock := rfl
@[simp] theorem State.modFabric_variant (f : Fabric → Fabric) : (s.modFabric f).variant = s.variant := rfl
@[simp] theorem State.modFabric_regs (f : Fabric → Fabric) : (s.modFabric f).regs = s.regs := rfl
@[simp] theorem State.modFabric_mem (f : Fabric → Fabric) : (s.modFabric f).mem = s.mem := rfl
@[simp] theorem State.modFabric_veils (f : Fabric → Fabric) : (s.modFabric f).veils = s.veils := rfl
@[simp] theorem State.modFabric_resp (f : Fabric → Fabric) : (s.modFabric f).resp = s.resp := rfl
@[simp] theorem State.modFabric_out (f : Fabric → Fabric) : (s.modFabric f).out = s.out := rfl
@[simp] theorem State.modFabric_txHeld (f : Fabric → Fabric) : (s.modFabric f).txHeld = s.txHeld := rfl
@[simp] theorem State.modFabric_seqWait (f : Fabric → Fabric) : (s.modFabric f).seqWait = s.seqWait := rfl
@[simp] theorem State.modFabric_flog (f : Fabric → Fabric) : (s.modFabric f).flog = s.flog := rfl
@[simp] theorem State.modFabric_flogSeq (f : Fabric → Fabric) : (s.modFabric f).flogSeq = s.flogSeq := rfl
@[simp] theorem State.modFabric_logGate (f : Fabric → Fabric) : (s.modFabric f).logGate = s.logGate := rfl
@[simp] theorem State.modFabric_queues (f : Fabric → Fabric) : (s.modFabric f).queues = s.queues := rfl
@[simp] theorem State.modFabric_comb (f : Fabric → Fabric) : (s.modFabric f).comb = s.comb := rfl
@[simp] theorem State.modFabric_lastStatus (f : Fabric → Fabric) : (s.modFabric f).lastStatus = s.lastStatus := rfl
@[simp] theorem State.modFabric_engines (f : Fabric → Fabric) : (s.modFabric f).engines = s.engines := rfl
@[simp] theorem State.modFabric_hitches (f : Fabric → Fabric) : (s.modFabric f).hitches = s.hitches := rfl
@[simp] theorem State.modFabric_hitchNet (f : Fabric → Fabric) : (s.modFabric f).hitchNet = s.hitchNet := rfl
@[simp] theorem State.modFabric_syncOut (f : Fabric → Fabric) : (s.modFabric f).syncOut = s.syncOut := rfl
@[simp] theorem State.modFabric_hitchAwait (f : Fabric → Fabric) : (s.modFabric f).hitchAwait = s.hitchAwait := rfl
@[simp] theorem State.modFabric_failedNodes (f : Fabric → Fabric) : (s.modFabric f).failedNodes = s.failedNodes := rfl
@[simp] theorem State.modFabric_windows (f : Fabric → Fabric) : (s.modFabric f).windows = s.windows := rfl
@[simp] theorem State.modFabric_bankWait (f : Fabric → Fabric) : (s.modFabric f).bankWait = s.bankWait := rfl
@[simp] theorem State.modFabric_classes (f : Fabric → Fabric) : (s.modFabric f).classes = s.classes := rfl
@[simp] theorem State.modFabric_tiles (f : Fabric → Fabric) : (s.modFabric f).tiles = s.tiles := rfl
@[simp] theorem State.modFabric_sramCorr (f : Fabric → Fabric) : (s.modFabric f).sramCorr = s.sramCorr := rfl
@[simp] theorem State.modFabric_initial (f : Fabric → Fabric) : (s.modFabric f).initial = s.initial := rfl
@[simp] theorem State.modFabric_routers (f : Fabric → Fabric) : (s.modFabric f).routers = s.routers := rfl
@[simp] theorem State.modFabric_gateways (f : Fabric → Fabric) : (s.modFabric f).gateways = s.gateways := rfl
@[simp] theorem State.modFabric_gatewayFrcvd (f : Fabric → Fabric) : (s.modFabric f).gatewayFrcvd = s.gatewayFrcvd := rfl
@[simp] theorem State.modFabric_gatewaySrcvd (f : Fabric → Fabric) : (s.modFabric f).gatewaySrcvd = s.gatewaySrcvd := rfl
@[simp] theorem State.modFabric_route0 (f : Fabric → Fabric) : (s.modFabric f).route0 = s.route0 := rfl
@[simp] theorem State.modFabric_route1 (f : Fabric → Fabric) : (s.modFabric f).route1 = s.route1 := rfl
@[simp] theorem State.modFabric_groups0 (f : Fabric → Fabric) : (s.modFabric f).groups0 = s.groups0 := rfl
@[simp] theorem State.modFabric_groups1 (f : Fabric → Fabric) : (s.modFabric f).groups1 = s.groups1 := rfl
@[simp] theorem State.modFabric_members0 (f : Fabric → Fabric) : (s.modFabric f).members0 = s.members0 := rfl
@[simp] theorem State.modFabric_members1 (f : Fabric → Fabric) : (s.modFabric f).members1 = s.members1 := rfl
@[simp] theorem State.modFabric_stores (f : Fabric → Fabric) : (s.modFabric f).stores = s.stores := rfl
@[simp] theorem State.modFabric_fetch (f : Fabric → Fabric) : (s.modFabric f).fetch = s.fetch := rfl
@[simp] theorem State.modFabric_gateIn (f : Fabric → Fabric) : (s.modFabric f).gateIn = s.gateIn := rfl
@[simp] theorem State.modFabric_gateRx (f : Fabric → Fabric) : (s.modFabric f).gateRx = s.gateRx := rfl
@[simp] theorem State.modFabric_centreNext (f : Fabric → Fabric) : (s.modFabric f).centreNext = s.centreNext := rfl
@[simp] theorem State.modFabric_remoteHold (f : Fabric → Fabric) : (s.modFabric f).remoteHold = s.remoteHold := rfl
@[simp] theorem State.modFabric_spillAt (f : Fabric → Fabric) : (s.modFabric f).spillAt = s.spillAt := rfl
@[simp] theorem State.modFabric_slots0 (f : Fabric → Fabric) : (s.modFabric f).slots0 = s.slots0 := rfl
@[simp] theorem State.modFabric_slots1 (f : Fabric → Fabric) : (s.modFabric f).slots1 = s.slots1 := rfl
@[simp] theorem State.modFabric_slotVersion (f : Fabric → Fabric) : (s.modFabric f).slotVersion = s.slotVersion := rfl
@[simp] theorem State.modFabric_switchIn (f : Fabric → Fabric) : (s.modFabric f).switchIn = s.switchIn := rfl
@[simp] theorem State.modFabric_drainFrom (f : Fabric → Fabric) : (s.modFabric f).drainFrom = s.drainFrom := rfl
@[simp] theorem State.modFabric_fabric (f : Fabric → Fabric) : (s.modFabric f).fabric = f s.fabric := rfl
@[simp] theorem State.modFabric_learning (f : Fabric → Fabric) : (s.modFabric f).learning = s.learning := rfl
@[simp] theorem State.modFabric_census (f : Fabric → Fabric) : (s.modFabric f).census = s.census := rfl
@[simp] theorem State.modFabric_dense (f : Fabric → Fabric) : (s.modFabric f).dense = s.dense := rfl
@[simp] theorem State.modFabric_moved (f : Fabric → Fabric) : (s.modFabric f).moved = s.moved := rfl
@[simp] theorem State.modFabric_host (f : Fabric → Fabric) : (s.modFabric f).host = s.host := rfl
@[simp] theorem State.modFabric_intake (f : Fabric → Fabric) : (s.modFabric f).intake = s.intake := rfl
@[simp] theorem State.modFabric_power (f : Fabric → Fabric) : (s.modFabric f).power = s.power := rfl
@[simp] theorem State.modFabric_security (f : Fabric → Fabric) : (s.modFabric f).security = s.security := rfl
@[simp] theorem State.modFabric_update (f : Fabric → Fabric) : (s.modFabric f).update = s.update := rfl
@[simp] theorem State.modFabric_harness (f : Fabric → Fabric) : (s.modFabric f).harness = s.harness := rfl
@[simp] theorem State.modFabric_tether (f : Fabric → Fabric) : (s.modFabric f).tether = s.tether := rfl
@[simp] theorem State.modFabric_timing (f : Fabric → Fabric) : (s.modFabric f).timing = s.timing := rfl

/-! ### modLearning -/

@[simp] theorem State.modLearning_pending (f : Learning → Learning) : (s.modLearning f).pending = s.pending := rfl
@[simp] theorem State.modLearning_free (f : Learning → Learning) : (s.modLearning f).free = s.free := rfl
@[simp] theorem State.modLearning_now (f : Learning → Learning) : (s.modLearning f).now = s.now := rfl
@[simp] theorem State.modLearning_clock (f : Learning → Learning) : (s.modLearning f).clock = s.clock := rfl
@[simp] theorem State.modLearning_variant (f : Learning → Learning) : (s.modLearning f).variant = s.variant := rfl
@[simp] theorem State.modLearning_regs (f : Learning → Learning) : (s.modLearning f).regs = s.regs := rfl
@[simp] theorem State.modLearning_mem (f : Learning → Learning) : (s.modLearning f).mem = s.mem := rfl
@[simp] theorem State.modLearning_veils (f : Learning → Learning) : (s.modLearning f).veils = s.veils := rfl
@[simp] theorem State.modLearning_resp (f : Learning → Learning) : (s.modLearning f).resp = s.resp := rfl
@[simp] theorem State.modLearning_out (f : Learning → Learning) : (s.modLearning f).out = s.out := rfl
@[simp] theorem State.modLearning_txHeld (f : Learning → Learning) : (s.modLearning f).txHeld = s.txHeld := rfl
@[simp] theorem State.modLearning_seqWait (f : Learning → Learning) : (s.modLearning f).seqWait = s.seqWait := rfl
@[simp] theorem State.modLearning_flog (f : Learning → Learning) : (s.modLearning f).flog = s.flog := rfl
@[simp] theorem State.modLearning_flogSeq (f : Learning → Learning) : (s.modLearning f).flogSeq = s.flogSeq := rfl
@[simp] theorem State.modLearning_logGate (f : Learning → Learning) : (s.modLearning f).logGate = s.logGate := rfl
@[simp] theorem State.modLearning_queues (f : Learning → Learning) : (s.modLearning f).queues = s.queues := rfl
@[simp] theorem State.modLearning_comb (f : Learning → Learning) : (s.modLearning f).comb = s.comb := rfl
@[simp] theorem State.modLearning_lastStatus (f : Learning → Learning) : (s.modLearning f).lastStatus = s.lastStatus := rfl
@[simp] theorem State.modLearning_engines (f : Learning → Learning) : (s.modLearning f).engines = s.engines := rfl
@[simp] theorem State.modLearning_hitches (f : Learning → Learning) : (s.modLearning f).hitches = s.hitches := rfl
@[simp] theorem State.modLearning_hitchNet (f : Learning → Learning) : (s.modLearning f).hitchNet = s.hitchNet := rfl
@[simp] theorem State.modLearning_syncOut (f : Learning → Learning) : (s.modLearning f).syncOut = s.syncOut := rfl
@[simp] theorem State.modLearning_hitchAwait (f : Learning → Learning) : (s.modLearning f).hitchAwait = s.hitchAwait := rfl
@[simp] theorem State.modLearning_failedNodes (f : Learning → Learning) : (s.modLearning f).failedNodes = s.failedNodes := rfl
@[simp] theorem State.modLearning_windows (f : Learning → Learning) : (s.modLearning f).windows = s.windows := rfl
@[simp] theorem State.modLearning_bankWait (f : Learning → Learning) : (s.modLearning f).bankWait = s.bankWait := rfl
@[simp] theorem State.modLearning_classes (f : Learning → Learning) : (s.modLearning f).classes = s.classes := rfl
@[simp] theorem State.modLearning_tiles (f : Learning → Learning) : (s.modLearning f).tiles = s.tiles := rfl
@[simp] theorem State.modLearning_sramCorr (f : Learning → Learning) : (s.modLearning f).sramCorr = s.sramCorr := rfl
@[simp] theorem State.modLearning_initial (f : Learning → Learning) : (s.modLearning f).initial = s.initial := rfl
@[simp] theorem State.modLearning_routers (f : Learning → Learning) : (s.modLearning f).routers = s.routers := rfl
@[simp] theorem State.modLearning_gateways (f : Learning → Learning) : (s.modLearning f).gateways = s.gateways := rfl
@[simp] theorem State.modLearning_gatewayFrcvd (f : Learning → Learning) : (s.modLearning f).gatewayFrcvd = s.gatewayFrcvd := rfl
@[simp] theorem State.modLearning_gatewaySrcvd (f : Learning → Learning) : (s.modLearning f).gatewaySrcvd = s.gatewaySrcvd := rfl
@[simp] theorem State.modLearning_route0 (f : Learning → Learning) : (s.modLearning f).route0 = s.route0 := rfl
@[simp] theorem State.modLearning_route1 (f : Learning → Learning) : (s.modLearning f).route1 = s.route1 := rfl
@[simp] theorem State.modLearning_groups0 (f : Learning → Learning) : (s.modLearning f).groups0 = s.groups0 := rfl
@[simp] theorem State.modLearning_groups1 (f : Learning → Learning) : (s.modLearning f).groups1 = s.groups1 := rfl
@[simp] theorem State.modLearning_members0 (f : Learning → Learning) : (s.modLearning f).members0 = s.members0 := rfl
@[simp] theorem State.modLearning_members1 (f : Learning → Learning) : (s.modLearning f).members1 = s.members1 := rfl
@[simp] theorem State.modLearning_stores (f : Learning → Learning) : (s.modLearning f).stores = s.stores := rfl
@[simp] theorem State.modLearning_fetch (f : Learning → Learning) : (s.modLearning f).fetch = s.fetch := rfl
@[simp] theorem State.modLearning_gateIn (f : Learning → Learning) : (s.modLearning f).gateIn = s.gateIn := rfl
@[simp] theorem State.modLearning_gateRx (f : Learning → Learning) : (s.modLearning f).gateRx = s.gateRx := rfl
@[simp] theorem State.modLearning_centreNext (f : Learning → Learning) : (s.modLearning f).centreNext = s.centreNext := rfl
@[simp] theorem State.modLearning_remoteHold (f : Learning → Learning) : (s.modLearning f).remoteHold = s.remoteHold := rfl
@[simp] theorem State.modLearning_spillAt (f : Learning → Learning) : (s.modLearning f).spillAt = s.spillAt := rfl
@[simp] theorem State.modLearning_slots0 (f : Learning → Learning) : (s.modLearning f).slots0 = s.slots0 := rfl
@[simp] theorem State.modLearning_slots1 (f : Learning → Learning) : (s.modLearning f).slots1 = s.slots1 := rfl
@[simp] theorem State.modLearning_slotVersion (f : Learning → Learning) : (s.modLearning f).slotVersion = s.slotVersion := rfl
@[simp] theorem State.modLearning_switchIn (f : Learning → Learning) : (s.modLearning f).switchIn = s.switchIn := rfl
@[simp] theorem State.modLearning_drainFrom (f : Learning → Learning) : (s.modLearning f).drainFrom = s.drainFrom := rfl
@[simp] theorem State.modLearning_fabric (f : Learning → Learning) : (s.modLearning f).fabric = s.fabric := rfl
@[simp] theorem State.modLearning_learning (f : Learning → Learning) : (s.modLearning f).learning = f s.learning := rfl
@[simp] theorem State.modLearning_census (f : Learning → Learning) : (s.modLearning f).census = s.census := rfl
@[simp] theorem State.modLearning_dense (f : Learning → Learning) : (s.modLearning f).dense = s.dense := rfl
@[simp] theorem State.modLearning_moved (f : Learning → Learning) : (s.modLearning f).moved = s.moved := rfl
@[simp] theorem State.modLearning_host (f : Learning → Learning) : (s.modLearning f).host = s.host := rfl
@[simp] theorem State.modLearning_intake (f : Learning → Learning) : (s.modLearning f).intake = s.intake := rfl
@[simp] theorem State.modLearning_power (f : Learning → Learning) : (s.modLearning f).power = s.power := rfl
@[simp] theorem State.modLearning_security (f : Learning → Learning) : (s.modLearning f).security = s.security := rfl
@[simp] theorem State.modLearning_update (f : Learning → Learning) : (s.modLearning f).update = s.update := rfl
@[simp] theorem State.modLearning_harness (f : Learning → Learning) : (s.modLearning f).harness = s.harness := rfl
@[simp] theorem State.modLearning_tether (f : Learning → Learning) : (s.modLearning f).tether = s.tether := rfl
@[simp] theorem State.modLearning_timing (f : Learning → Learning) : (s.modLearning f).timing = s.timing := rfl

/-! ### modPower -/

@[simp] theorem State.modPower_pending (f : Power → Power) : (s.modPower f).pending = s.pending := rfl
@[simp] theorem State.modPower_free (f : Power → Power) : (s.modPower f).free = s.free := rfl
@[simp] theorem State.modPower_now (f : Power → Power) : (s.modPower f).now = s.now := rfl
@[simp] theorem State.modPower_clock (f : Power → Power) : (s.modPower f).clock = s.clock := rfl
@[simp] theorem State.modPower_variant (f : Power → Power) : (s.modPower f).variant = s.variant := rfl
@[simp] theorem State.modPower_regs (f : Power → Power) : (s.modPower f).regs = s.regs := rfl
@[simp] theorem State.modPower_mem (f : Power → Power) : (s.modPower f).mem = s.mem := rfl
@[simp] theorem State.modPower_veils (f : Power → Power) : (s.modPower f).veils = s.veils := rfl
@[simp] theorem State.modPower_resp (f : Power → Power) : (s.modPower f).resp = s.resp := rfl
@[simp] theorem State.modPower_out (f : Power → Power) : (s.modPower f).out = s.out := rfl
@[simp] theorem State.modPower_txHeld (f : Power → Power) : (s.modPower f).txHeld = s.txHeld := rfl
@[simp] theorem State.modPower_seqWait (f : Power → Power) : (s.modPower f).seqWait = s.seqWait := rfl
@[simp] theorem State.modPower_flog (f : Power → Power) : (s.modPower f).flog = s.flog := rfl
@[simp] theorem State.modPower_flogSeq (f : Power → Power) : (s.modPower f).flogSeq = s.flogSeq := rfl
@[simp] theorem State.modPower_logGate (f : Power → Power) : (s.modPower f).logGate = s.logGate := rfl
@[simp] theorem State.modPower_queues (f : Power → Power) : (s.modPower f).queues = s.queues := rfl
@[simp] theorem State.modPower_comb (f : Power → Power) : (s.modPower f).comb = s.comb := rfl
@[simp] theorem State.modPower_lastStatus (f : Power → Power) : (s.modPower f).lastStatus = s.lastStatus := rfl
@[simp] theorem State.modPower_engines (f : Power → Power) : (s.modPower f).engines = s.engines := rfl
@[simp] theorem State.modPower_hitches (f : Power → Power) : (s.modPower f).hitches = s.hitches := rfl
@[simp] theorem State.modPower_hitchNet (f : Power → Power) : (s.modPower f).hitchNet = s.hitchNet := rfl
@[simp] theorem State.modPower_syncOut (f : Power → Power) : (s.modPower f).syncOut = s.syncOut := rfl
@[simp] theorem State.modPower_hitchAwait (f : Power → Power) : (s.modPower f).hitchAwait = s.hitchAwait := rfl
@[simp] theorem State.modPower_failedNodes (f : Power → Power) : (s.modPower f).failedNodes = s.failedNodes := rfl
@[simp] theorem State.modPower_windows (f : Power → Power) : (s.modPower f).windows = s.windows := rfl
@[simp] theorem State.modPower_bankWait (f : Power → Power) : (s.modPower f).bankWait = s.bankWait := rfl
@[simp] theorem State.modPower_classes (f : Power → Power) : (s.modPower f).classes = s.classes := rfl
@[simp] theorem State.modPower_tiles (f : Power → Power) : (s.modPower f).tiles = s.tiles := rfl
@[simp] theorem State.modPower_sramCorr (f : Power → Power) : (s.modPower f).sramCorr = s.sramCorr := rfl
@[simp] theorem State.modPower_initial (f : Power → Power) : (s.modPower f).initial = s.initial := rfl
@[simp] theorem State.modPower_routers (f : Power → Power) : (s.modPower f).routers = s.routers := rfl
@[simp] theorem State.modPower_gateways (f : Power → Power) : (s.modPower f).gateways = s.gateways := rfl
@[simp] theorem State.modPower_gatewayFrcvd (f : Power → Power) : (s.modPower f).gatewayFrcvd = s.gatewayFrcvd := rfl
@[simp] theorem State.modPower_gatewaySrcvd (f : Power → Power) : (s.modPower f).gatewaySrcvd = s.gatewaySrcvd := rfl
@[simp] theorem State.modPower_route0 (f : Power → Power) : (s.modPower f).route0 = s.route0 := rfl
@[simp] theorem State.modPower_route1 (f : Power → Power) : (s.modPower f).route1 = s.route1 := rfl
@[simp] theorem State.modPower_groups0 (f : Power → Power) : (s.modPower f).groups0 = s.groups0 := rfl
@[simp] theorem State.modPower_groups1 (f : Power → Power) : (s.modPower f).groups1 = s.groups1 := rfl
@[simp] theorem State.modPower_members0 (f : Power → Power) : (s.modPower f).members0 = s.members0 := rfl
@[simp] theorem State.modPower_members1 (f : Power → Power) : (s.modPower f).members1 = s.members1 := rfl
@[simp] theorem State.modPower_stores (f : Power → Power) : (s.modPower f).stores = s.stores := rfl
@[simp] theorem State.modPower_fetch (f : Power → Power) : (s.modPower f).fetch = s.fetch := rfl
@[simp] theorem State.modPower_gateIn (f : Power → Power) : (s.modPower f).gateIn = s.gateIn := rfl
@[simp] theorem State.modPower_gateRx (f : Power → Power) : (s.modPower f).gateRx = s.gateRx := rfl
@[simp] theorem State.modPower_centreNext (f : Power → Power) : (s.modPower f).centreNext = s.centreNext := rfl
@[simp] theorem State.modPower_remoteHold (f : Power → Power) : (s.modPower f).remoteHold = s.remoteHold := rfl
@[simp] theorem State.modPower_spillAt (f : Power → Power) : (s.modPower f).spillAt = s.spillAt := rfl
@[simp] theorem State.modPower_slots0 (f : Power → Power) : (s.modPower f).slots0 = s.slots0 := rfl
@[simp] theorem State.modPower_slots1 (f : Power → Power) : (s.modPower f).slots1 = s.slots1 := rfl
@[simp] theorem State.modPower_slotVersion (f : Power → Power) : (s.modPower f).slotVersion = s.slotVersion := rfl
@[simp] theorem State.modPower_switchIn (f : Power → Power) : (s.modPower f).switchIn = s.switchIn := rfl
@[simp] theorem State.modPower_drainFrom (f : Power → Power) : (s.modPower f).drainFrom = s.drainFrom := rfl
@[simp] theorem State.modPower_fabric (f : Power → Power) : (s.modPower f).fabric = s.fabric := rfl
@[simp] theorem State.modPower_learning (f : Power → Power) : (s.modPower f).learning = s.learning := rfl
@[simp] theorem State.modPower_census (f : Power → Power) : (s.modPower f).census = s.census := rfl
@[simp] theorem State.modPower_dense (f : Power → Power) : (s.modPower f).dense = s.dense := rfl
@[simp] theorem State.modPower_moved (f : Power → Power) : (s.modPower f).moved = s.moved := rfl
@[simp] theorem State.modPower_host (f : Power → Power) : (s.modPower f).host = s.host := rfl
@[simp] theorem State.modPower_intake (f : Power → Power) : (s.modPower f).intake = s.intake := rfl
@[simp] theorem State.modPower_power (f : Power → Power) : (s.modPower f).power = f s.power := rfl
@[simp] theorem State.modPower_security (f : Power → Power) : (s.modPower f).security = s.security := rfl
@[simp] theorem State.modPower_update (f : Power → Power) : (s.modPower f).update = s.update := rfl
@[simp] theorem State.modPower_harness (f : Power → Power) : (s.modPower f).harness = s.harness := rfl
@[simp] theorem State.modPower_tether (f : Power → Power) : (s.modPower f).tether = s.tether := rfl
@[simp] theorem State.modPower_timing (f : Power → Power) : (s.modPower f).timing = s.timing := rfl

/-! ### modTether -/

@[simp] theorem State.modTether_pending (f : Tether → Tether) : (s.modTether f).pending = s.pending := rfl
@[simp] theorem State.modTether_free (f : Tether → Tether) : (s.modTether f).free = s.free := rfl
@[simp] theorem State.modTether_now (f : Tether → Tether) : (s.modTether f).now = s.now := rfl
@[simp] theorem State.modTether_clock (f : Tether → Tether) : (s.modTether f).clock = s.clock := rfl
@[simp] theorem State.modTether_variant (f : Tether → Tether) : (s.modTether f).variant = s.variant := rfl
@[simp] theorem State.modTether_regs (f : Tether → Tether) : (s.modTether f).regs = s.regs := rfl
@[simp] theorem State.modTether_mem (f : Tether → Tether) : (s.modTether f).mem = s.mem := rfl
@[simp] theorem State.modTether_veils (f : Tether → Tether) : (s.modTether f).veils = s.veils := rfl
@[simp] theorem State.modTether_resp (f : Tether → Tether) : (s.modTether f).resp = s.resp := rfl
@[simp] theorem State.modTether_out (f : Tether → Tether) : (s.modTether f).out = s.out := rfl
@[simp] theorem State.modTether_txHeld (f : Tether → Tether) : (s.modTether f).txHeld = s.txHeld := rfl
@[simp] theorem State.modTether_seqWait (f : Tether → Tether) : (s.modTether f).seqWait = s.seqWait := rfl
@[simp] theorem State.modTether_flog (f : Tether → Tether) : (s.modTether f).flog = s.flog := rfl
@[simp] theorem State.modTether_flogSeq (f : Tether → Tether) : (s.modTether f).flogSeq = s.flogSeq := rfl
@[simp] theorem State.modTether_logGate (f : Tether → Tether) : (s.modTether f).logGate = s.logGate := rfl
@[simp] theorem State.modTether_queues (f : Tether → Tether) : (s.modTether f).queues = s.queues := rfl
@[simp] theorem State.modTether_comb (f : Tether → Tether) : (s.modTether f).comb = s.comb := rfl
@[simp] theorem State.modTether_lastStatus (f : Tether → Tether) : (s.modTether f).lastStatus = s.lastStatus := rfl
@[simp] theorem State.modTether_engines (f : Tether → Tether) : (s.modTether f).engines = s.engines := rfl
@[simp] theorem State.modTether_hitches (f : Tether → Tether) : (s.modTether f).hitches = s.hitches := rfl
@[simp] theorem State.modTether_hitchNet (f : Tether → Tether) : (s.modTether f).hitchNet = s.hitchNet := rfl
@[simp] theorem State.modTether_syncOut (f : Tether → Tether) : (s.modTether f).syncOut = s.syncOut := rfl
@[simp] theorem State.modTether_hitchAwait (f : Tether → Tether) : (s.modTether f).hitchAwait = s.hitchAwait := rfl
@[simp] theorem State.modTether_failedNodes (f : Tether → Tether) : (s.modTether f).failedNodes = s.failedNodes := rfl
@[simp] theorem State.modTether_windows (f : Tether → Tether) : (s.modTether f).windows = s.windows := rfl
@[simp] theorem State.modTether_bankWait (f : Tether → Tether) : (s.modTether f).bankWait = s.bankWait := rfl
@[simp] theorem State.modTether_classes (f : Tether → Tether) : (s.modTether f).classes = s.classes := rfl
@[simp] theorem State.modTether_tiles (f : Tether → Tether) : (s.modTether f).tiles = s.tiles := rfl
@[simp] theorem State.modTether_sramCorr (f : Tether → Tether) : (s.modTether f).sramCorr = s.sramCorr := rfl
@[simp] theorem State.modTether_initial (f : Tether → Tether) : (s.modTether f).initial = s.initial := rfl
@[simp] theorem State.modTether_routers (f : Tether → Tether) : (s.modTether f).routers = s.routers := rfl
@[simp] theorem State.modTether_gateways (f : Tether → Tether) : (s.modTether f).gateways = s.gateways := rfl
@[simp] theorem State.modTether_gatewayFrcvd (f : Tether → Tether) : (s.modTether f).gatewayFrcvd = s.gatewayFrcvd := rfl
@[simp] theorem State.modTether_gatewaySrcvd (f : Tether → Tether) : (s.modTether f).gatewaySrcvd = s.gatewaySrcvd := rfl
@[simp] theorem State.modTether_route0 (f : Tether → Tether) : (s.modTether f).route0 = s.route0 := rfl
@[simp] theorem State.modTether_route1 (f : Tether → Tether) : (s.modTether f).route1 = s.route1 := rfl
@[simp] theorem State.modTether_groups0 (f : Tether → Tether) : (s.modTether f).groups0 = s.groups0 := rfl
@[simp] theorem State.modTether_groups1 (f : Tether → Tether) : (s.modTether f).groups1 = s.groups1 := rfl
@[simp] theorem State.modTether_members0 (f : Tether → Tether) : (s.modTether f).members0 = s.members0 := rfl
@[simp] theorem State.modTether_members1 (f : Tether → Tether) : (s.modTether f).members1 = s.members1 := rfl
@[simp] theorem State.modTether_stores (f : Tether → Tether) : (s.modTether f).stores = s.stores := rfl
@[simp] theorem State.modTether_fetch (f : Tether → Tether) : (s.modTether f).fetch = s.fetch := rfl
@[simp] theorem State.modTether_gateIn (f : Tether → Tether) : (s.modTether f).gateIn = s.gateIn := rfl
@[simp] theorem State.modTether_gateRx (f : Tether → Tether) : (s.modTether f).gateRx = s.gateRx := rfl
@[simp] theorem State.modTether_centreNext (f : Tether → Tether) : (s.modTether f).centreNext = s.centreNext := rfl
@[simp] theorem State.modTether_remoteHold (f : Tether → Tether) : (s.modTether f).remoteHold = s.remoteHold := rfl
@[simp] theorem State.modTether_spillAt (f : Tether → Tether) : (s.modTether f).spillAt = s.spillAt := rfl
@[simp] theorem State.modTether_slots0 (f : Tether → Tether) : (s.modTether f).slots0 = s.slots0 := rfl
@[simp] theorem State.modTether_slots1 (f : Tether → Tether) : (s.modTether f).slots1 = s.slots1 := rfl
@[simp] theorem State.modTether_slotVersion (f : Tether → Tether) : (s.modTether f).slotVersion = s.slotVersion := rfl
@[simp] theorem State.modTether_switchIn (f : Tether → Tether) : (s.modTether f).switchIn = s.switchIn := rfl
@[simp] theorem State.modTether_drainFrom (f : Tether → Tether) : (s.modTether f).drainFrom = s.drainFrom := rfl
@[simp] theorem State.modTether_fabric (f : Tether → Tether) : (s.modTether f).fabric = s.fabric := rfl
@[simp] theorem State.modTether_learning (f : Tether → Tether) : (s.modTether f).learning = s.learning := rfl
@[simp] theorem State.modTether_census (f : Tether → Tether) : (s.modTether f).census = s.census := rfl
@[simp] theorem State.modTether_dense (f : Tether → Tether) : (s.modTether f).dense = s.dense := rfl
@[simp] theorem State.modTether_moved (f : Tether → Tether) : (s.modTether f).moved = s.moved := rfl
@[simp] theorem State.modTether_host (f : Tether → Tether) : (s.modTether f).host = s.host := rfl
@[simp] theorem State.modTether_intake (f : Tether → Tether) : (s.modTether f).intake = s.intake := rfl
@[simp] theorem State.modTether_power (f : Tether → Tether) : (s.modTether f).power = s.power := rfl
@[simp] theorem State.modTether_security (f : Tether → Tether) : (s.modTether f).security = s.security := rfl
@[simp] theorem State.modTether_update (f : Tether → Tether) : (s.modTether f).update = s.update := rfl
@[simp] theorem State.modTether_harness (f : Tether → Tether) : (s.modTether f).harness = s.harness := rfl
@[simp] theorem State.modTether_tether (f : Tether → Tether) : (s.modTether f).tether = f s.tether := rfl
@[simp] theorem State.modTether_timing (f : Tether → Tether) : (s.modTether f).timing = s.timing := rfl

/-! ### modSecurity -/

@[simp] theorem State.modSecurity_pending (f : Security → Security) : (s.modSecurity f).pending = s.pending := rfl
@[simp] theorem State.modSecurity_free (f : Security → Security) : (s.modSecurity f).free = s.free := rfl
@[simp] theorem State.modSecurity_now (f : Security → Security) : (s.modSecurity f).now = s.now := rfl
@[simp] theorem State.modSecurity_clock (f : Security → Security) : (s.modSecurity f).clock = s.clock := rfl
@[simp] theorem State.modSecurity_variant (f : Security → Security) : (s.modSecurity f).variant = s.variant := rfl
@[simp] theorem State.modSecurity_regs (f : Security → Security) : (s.modSecurity f).regs = s.regs := rfl
@[simp] theorem State.modSecurity_mem (f : Security → Security) : (s.modSecurity f).mem = s.mem := rfl
@[simp] theorem State.modSecurity_veils (f : Security → Security) : (s.modSecurity f).veils = s.veils := rfl
@[simp] theorem State.modSecurity_resp (f : Security → Security) : (s.modSecurity f).resp = s.resp := rfl
@[simp] theorem State.modSecurity_out (f : Security → Security) : (s.modSecurity f).out = s.out := rfl
@[simp] theorem State.modSecurity_txHeld (f : Security → Security) : (s.modSecurity f).txHeld = s.txHeld := rfl
@[simp] theorem State.modSecurity_seqWait (f : Security → Security) : (s.modSecurity f).seqWait = s.seqWait := rfl
@[simp] theorem State.modSecurity_flog (f : Security → Security) : (s.modSecurity f).flog = s.flog := rfl
@[simp] theorem State.modSecurity_flogSeq (f : Security → Security) : (s.modSecurity f).flogSeq = s.flogSeq := rfl
@[simp] theorem State.modSecurity_logGate (f : Security → Security) : (s.modSecurity f).logGate = s.logGate := rfl
@[simp] theorem State.modSecurity_queues (f : Security → Security) : (s.modSecurity f).queues = s.queues := rfl
@[simp] theorem State.modSecurity_comb (f : Security → Security) : (s.modSecurity f).comb = s.comb := rfl
@[simp] theorem State.modSecurity_lastStatus (f : Security → Security) : (s.modSecurity f).lastStatus = s.lastStatus := rfl
@[simp] theorem State.modSecurity_engines (f : Security → Security) : (s.modSecurity f).engines = s.engines := rfl
@[simp] theorem State.modSecurity_hitches (f : Security → Security) : (s.modSecurity f).hitches = s.hitches := rfl
@[simp] theorem State.modSecurity_hitchNet (f : Security → Security) : (s.modSecurity f).hitchNet = s.hitchNet := rfl
@[simp] theorem State.modSecurity_syncOut (f : Security → Security) : (s.modSecurity f).syncOut = s.syncOut := rfl
@[simp] theorem State.modSecurity_hitchAwait (f : Security → Security) : (s.modSecurity f).hitchAwait = s.hitchAwait := rfl
@[simp] theorem State.modSecurity_failedNodes (f : Security → Security) : (s.modSecurity f).failedNodes = s.failedNodes := rfl
@[simp] theorem State.modSecurity_windows (f : Security → Security) : (s.modSecurity f).windows = s.windows := rfl
@[simp] theorem State.modSecurity_bankWait (f : Security → Security) : (s.modSecurity f).bankWait = s.bankWait := rfl
@[simp] theorem State.modSecurity_classes (f : Security → Security) : (s.modSecurity f).classes = s.classes := rfl
@[simp] theorem State.modSecurity_tiles (f : Security → Security) : (s.modSecurity f).tiles = s.tiles := rfl
@[simp] theorem State.modSecurity_sramCorr (f : Security → Security) : (s.modSecurity f).sramCorr = s.sramCorr := rfl
@[simp] theorem State.modSecurity_initial (f : Security → Security) : (s.modSecurity f).initial = s.initial := rfl
@[simp] theorem State.modSecurity_routers (f : Security → Security) : (s.modSecurity f).routers = s.routers := rfl
@[simp] theorem State.modSecurity_gateways (f : Security → Security) : (s.modSecurity f).gateways = s.gateways := rfl
@[simp] theorem State.modSecurity_gatewayFrcvd (f : Security → Security) : (s.modSecurity f).gatewayFrcvd = s.gatewayFrcvd := rfl
@[simp] theorem State.modSecurity_gatewaySrcvd (f : Security → Security) : (s.modSecurity f).gatewaySrcvd = s.gatewaySrcvd := rfl
@[simp] theorem State.modSecurity_route0 (f : Security → Security) : (s.modSecurity f).route0 = s.route0 := rfl
@[simp] theorem State.modSecurity_route1 (f : Security → Security) : (s.modSecurity f).route1 = s.route1 := rfl
@[simp] theorem State.modSecurity_groups0 (f : Security → Security) : (s.modSecurity f).groups0 = s.groups0 := rfl
@[simp] theorem State.modSecurity_groups1 (f : Security → Security) : (s.modSecurity f).groups1 = s.groups1 := rfl
@[simp] theorem State.modSecurity_members0 (f : Security → Security) : (s.modSecurity f).members0 = s.members0 := rfl
@[simp] theorem State.modSecurity_members1 (f : Security → Security) : (s.modSecurity f).members1 = s.members1 := rfl
@[simp] theorem State.modSecurity_stores (f : Security → Security) : (s.modSecurity f).stores = s.stores := rfl
@[simp] theorem State.modSecurity_fetch (f : Security → Security) : (s.modSecurity f).fetch = s.fetch := rfl
@[simp] theorem State.modSecurity_gateIn (f : Security → Security) : (s.modSecurity f).gateIn = s.gateIn := rfl
@[simp] theorem State.modSecurity_gateRx (f : Security → Security) : (s.modSecurity f).gateRx = s.gateRx := rfl
@[simp] theorem State.modSecurity_centreNext (f : Security → Security) : (s.modSecurity f).centreNext = s.centreNext := rfl
@[simp] theorem State.modSecurity_remoteHold (f : Security → Security) : (s.modSecurity f).remoteHold = s.remoteHold := rfl
@[simp] theorem State.modSecurity_spillAt (f : Security → Security) : (s.modSecurity f).spillAt = s.spillAt := rfl
@[simp] theorem State.modSecurity_slots0 (f : Security → Security) : (s.modSecurity f).slots0 = s.slots0 := rfl
@[simp] theorem State.modSecurity_slots1 (f : Security → Security) : (s.modSecurity f).slots1 = s.slots1 := rfl
@[simp] theorem State.modSecurity_slotVersion (f : Security → Security) : (s.modSecurity f).slotVersion = s.slotVersion := rfl
@[simp] theorem State.modSecurity_switchIn (f : Security → Security) : (s.modSecurity f).switchIn = s.switchIn := rfl
@[simp] theorem State.modSecurity_drainFrom (f : Security → Security) : (s.modSecurity f).drainFrom = s.drainFrom := rfl
@[simp] theorem State.modSecurity_fabric (f : Security → Security) : (s.modSecurity f).fabric = s.fabric := rfl
@[simp] theorem State.modSecurity_learning (f : Security → Security) : (s.modSecurity f).learning = s.learning := rfl
@[simp] theorem State.modSecurity_census (f : Security → Security) : (s.modSecurity f).census = s.census := rfl
@[simp] theorem State.modSecurity_dense (f : Security → Security) : (s.modSecurity f).dense = s.dense := rfl
@[simp] theorem State.modSecurity_moved (f : Security → Security) : (s.modSecurity f).moved = s.moved := rfl
@[simp] theorem State.modSecurity_host (f : Security → Security) : (s.modSecurity f).host = s.host := rfl
@[simp] theorem State.modSecurity_intake (f : Security → Security) : (s.modSecurity f).intake = s.intake := rfl
@[simp] theorem State.modSecurity_power (f : Security → Security) : (s.modSecurity f).power = s.power := rfl
@[simp] theorem State.modSecurity_security (f : Security → Security) : (s.modSecurity f).security = f s.security := rfl
@[simp] theorem State.modSecurity_update (f : Security → Security) : (s.modSecurity f).update = s.update := rfl
@[simp] theorem State.modSecurity_harness (f : Security → Security) : (s.modSecurity f).harness = s.harness := rfl
@[simp] theorem State.modSecurity_tether (f : Security → Security) : (s.modSecurity f).tether = s.tether := rfl
@[simp] theorem State.modSecurity_timing (f : Security → Security) : (s.modSecurity f).timing = s.timing := rfl

/-! ### modUpdate -/

@[simp] theorem State.modUpdate_pending (f : Update → Update) : (s.modUpdate f).pending = s.pending := rfl
@[simp] theorem State.modUpdate_free (f : Update → Update) : (s.modUpdate f).free = s.free := rfl
@[simp] theorem State.modUpdate_now (f : Update → Update) : (s.modUpdate f).now = s.now := rfl
@[simp] theorem State.modUpdate_clock (f : Update → Update) : (s.modUpdate f).clock = s.clock := rfl
@[simp] theorem State.modUpdate_variant (f : Update → Update) : (s.modUpdate f).variant = s.variant := rfl
@[simp] theorem State.modUpdate_regs (f : Update → Update) : (s.modUpdate f).regs = s.regs := rfl
@[simp] theorem State.modUpdate_mem (f : Update → Update) : (s.modUpdate f).mem = s.mem := rfl
@[simp] theorem State.modUpdate_veils (f : Update → Update) : (s.modUpdate f).veils = s.veils := rfl
@[simp] theorem State.modUpdate_resp (f : Update → Update) : (s.modUpdate f).resp = s.resp := rfl
@[simp] theorem State.modUpdate_out (f : Update → Update) : (s.modUpdate f).out = s.out := rfl
@[simp] theorem State.modUpdate_txHeld (f : Update → Update) : (s.modUpdate f).txHeld = s.txHeld := rfl
@[simp] theorem State.modUpdate_seqWait (f : Update → Update) : (s.modUpdate f).seqWait = s.seqWait := rfl
@[simp] theorem State.modUpdate_flog (f : Update → Update) : (s.modUpdate f).flog = s.flog := rfl
@[simp] theorem State.modUpdate_flogSeq (f : Update → Update) : (s.modUpdate f).flogSeq = s.flogSeq := rfl
@[simp] theorem State.modUpdate_logGate (f : Update → Update) : (s.modUpdate f).logGate = s.logGate := rfl
@[simp] theorem State.modUpdate_queues (f : Update → Update) : (s.modUpdate f).queues = s.queues := rfl
@[simp] theorem State.modUpdate_comb (f : Update → Update) : (s.modUpdate f).comb = s.comb := rfl
@[simp] theorem State.modUpdate_lastStatus (f : Update → Update) : (s.modUpdate f).lastStatus = s.lastStatus := rfl
@[simp] theorem State.modUpdate_engines (f : Update → Update) : (s.modUpdate f).engines = s.engines := rfl
@[simp] theorem State.modUpdate_hitches (f : Update → Update) : (s.modUpdate f).hitches = s.hitches := rfl
@[simp] theorem State.modUpdate_hitchNet (f : Update → Update) : (s.modUpdate f).hitchNet = s.hitchNet := rfl
@[simp] theorem State.modUpdate_syncOut (f : Update → Update) : (s.modUpdate f).syncOut = s.syncOut := rfl
@[simp] theorem State.modUpdate_hitchAwait (f : Update → Update) : (s.modUpdate f).hitchAwait = s.hitchAwait := rfl
@[simp] theorem State.modUpdate_failedNodes (f : Update → Update) : (s.modUpdate f).failedNodes = s.failedNodes := rfl
@[simp] theorem State.modUpdate_windows (f : Update → Update) : (s.modUpdate f).windows = s.windows := rfl
@[simp] theorem State.modUpdate_bankWait (f : Update → Update) : (s.modUpdate f).bankWait = s.bankWait := rfl
@[simp] theorem State.modUpdate_classes (f : Update → Update) : (s.modUpdate f).classes = s.classes := rfl
@[simp] theorem State.modUpdate_tiles (f : Update → Update) : (s.modUpdate f).tiles = s.tiles := rfl
@[simp] theorem State.modUpdate_sramCorr (f : Update → Update) : (s.modUpdate f).sramCorr = s.sramCorr := rfl
@[simp] theorem State.modUpdate_initial (f : Update → Update) : (s.modUpdate f).initial = s.initial := rfl
@[simp] theorem State.modUpdate_routers (f : Update → Update) : (s.modUpdate f).routers = s.routers := rfl
@[simp] theorem State.modUpdate_gateways (f : Update → Update) : (s.modUpdate f).gateways = s.gateways := rfl
@[simp] theorem State.modUpdate_gatewayFrcvd (f : Update → Update) : (s.modUpdate f).gatewayFrcvd = s.gatewayFrcvd := rfl
@[simp] theorem State.modUpdate_gatewaySrcvd (f : Update → Update) : (s.modUpdate f).gatewaySrcvd = s.gatewaySrcvd := rfl
@[simp] theorem State.modUpdate_route0 (f : Update → Update) : (s.modUpdate f).route0 = s.route0 := rfl
@[simp] theorem State.modUpdate_route1 (f : Update → Update) : (s.modUpdate f).route1 = s.route1 := rfl
@[simp] theorem State.modUpdate_groups0 (f : Update → Update) : (s.modUpdate f).groups0 = s.groups0 := rfl
@[simp] theorem State.modUpdate_groups1 (f : Update → Update) : (s.modUpdate f).groups1 = s.groups1 := rfl
@[simp] theorem State.modUpdate_members0 (f : Update → Update) : (s.modUpdate f).members0 = s.members0 := rfl
@[simp] theorem State.modUpdate_members1 (f : Update → Update) : (s.modUpdate f).members1 = s.members1 := rfl
@[simp] theorem State.modUpdate_stores (f : Update → Update) : (s.modUpdate f).stores = s.stores := rfl
@[simp] theorem State.modUpdate_fetch (f : Update → Update) : (s.modUpdate f).fetch = s.fetch := rfl
@[simp] theorem State.modUpdate_gateIn (f : Update → Update) : (s.modUpdate f).gateIn = s.gateIn := rfl
@[simp] theorem State.modUpdate_gateRx (f : Update → Update) : (s.modUpdate f).gateRx = s.gateRx := rfl
@[simp] theorem State.modUpdate_centreNext (f : Update → Update) : (s.modUpdate f).centreNext = s.centreNext := rfl
@[simp] theorem State.modUpdate_remoteHold (f : Update → Update) : (s.modUpdate f).remoteHold = s.remoteHold := rfl
@[simp] theorem State.modUpdate_spillAt (f : Update → Update) : (s.modUpdate f).spillAt = s.spillAt := rfl
@[simp] theorem State.modUpdate_slots0 (f : Update → Update) : (s.modUpdate f).slots0 = s.slots0 := rfl
@[simp] theorem State.modUpdate_slots1 (f : Update → Update) : (s.modUpdate f).slots1 = s.slots1 := rfl
@[simp] theorem State.modUpdate_slotVersion (f : Update → Update) : (s.modUpdate f).slotVersion = s.slotVersion := rfl
@[simp] theorem State.modUpdate_switchIn (f : Update → Update) : (s.modUpdate f).switchIn = s.switchIn := rfl
@[simp] theorem State.modUpdate_drainFrom (f : Update → Update) : (s.modUpdate f).drainFrom = s.drainFrom := rfl
@[simp] theorem State.modUpdate_fabric (f : Update → Update) : (s.modUpdate f).fabric = s.fabric := rfl
@[simp] theorem State.modUpdate_learning (f : Update → Update) : (s.modUpdate f).learning = s.learning := rfl
@[simp] theorem State.modUpdate_census (f : Update → Update) : (s.modUpdate f).census = s.census := rfl
@[simp] theorem State.modUpdate_dense (f : Update → Update) : (s.modUpdate f).dense = s.dense := rfl
@[simp] theorem State.modUpdate_moved (f : Update → Update) : (s.modUpdate f).moved = s.moved := rfl
@[simp] theorem State.modUpdate_host (f : Update → Update) : (s.modUpdate f).host = s.host := rfl
@[simp] theorem State.modUpdate_intake (f : Update → Update) : (s.modUpdate f).intake = s.intake := rfl
@[simp] theorem State.modUpdate_power (f : Update → Update) : (s.modUpdate f).power = s.power := rfl
@[simp] theorem State.modUpdate_security (f : Update → Update) : (s.modUpdate f).security = s.security := rfl
@[simp] theorem State.modUpdate_update (f : Update → Update) : (s.modUpdate f).update = f s.update := rfl
@[simp] theorem State.modUpdate_harness (f : Update → Update) : (s.modUpdate f).harness = s.harness := rfl
@[simp] theorem State.modUpdate_tether (f : Update → Update) : (s.modUpdate f).tether = s.tether := rfl
@[simp] theorem State.modUpdate_timing (f : Update → Update) : (s.modUpdate f).timing = s.timing := rfl

end Sys2Proof.Machine
end

