-- ==== Sys2Proof/WellFormed.lean ====
section
/-!
DEFINITION. Which commands are well formed: the lengths and ranges that the outside keeps in the operands of a command, where its
type does not. The meanings are total and do not rest on them.
-/
namespace Sys2Proof

/-- The bytes of one access to the address space: at least one, at most a line (R14, R276). -/
def bytesOk (data : List Byte) : Bool := 1 ≤ data.length && data.length ≤ 64

/-- A request is lost on a hop after four retries of it (R458). -/
def Trip.wf : Trip → Bool
  | .arrives _ => true
  | .lost n => 4 ≤ n

/-- An access of one line at most. -/
def Access.wf : Access → Bool
  | .read n => 1 ≤ n && n ≤ 64
  | .write data => bytesOk data

/-- An access presented to a bank of Commons or of the control banks, whose aliases end at 0x7000000 (R14, R275, R280). -/
def BankAccess.wf (a : BankAccess) : Bool := a.addr < 0x7000000 && 1 ≤ a.len && a.len ≤ 64

/-- A line of a flow other than FETCH and spill: 64 bytes for an existing endpoint (R159, R160). -/
def BulkOffer.wf (x : BulkOffer) : Bool := 3 ≤ x.kind && x.kind ≤ 7 && x.dest < 112 && x.data.length == 64

/-- A peer of HTP: a MAC address of 48 bits and a port of 16 (R366). -/
def Peer.wf : Peer → Bool
  | .usb => true
  | .ethernet _ addr port => addr < 2 ^ 48 && port < 2 ^ 16

/-- An HTP frame: a payload of at most 65,536 bytes (R362). -/
def HtpFrame.wf (x : HtpFrame) : Bool := x.peer.wf && x.bytes.length ≤ 65552

/-- An update request. -/
def UpdSource.wf : UpdSource → Bool
  | .htp x => x.wf
  | .chain _ payload => payload.length ≤ 65536

/-- A load or a store names an address of 64 bits (R14). -/
def SeqTrap.wf : SeqTrap → Bool
  | .cause _ _ => true
  | .load a _ | .store a _ => a < 2 ^ 64

/-- A wake source: a CAN frame carries at most 64 bytes (R367, R404). -/
def WakeSource.wf : WakeSource → Bool
  | .can _ data _ => data.length ≤ 64
  | .tether _ | .usb | .intake _ | .encoder | .timer | .feed => true

/-- Whether a command is well formed. -/
def WellFormed (i : Instr) : Bool :=
  match i with
  | .nop _ => true
  | .hitchSignal _ => true
  | .hitchWait _ => true
  | .hitchSet _ => true
  | .hitchBarrier _ => true
  | .hitchDump _ => true
  | .step _ => true
  | .checkpoint _ => true
  | .restore _ => true
  | .loadSegment _ => true
  | .move _ => true
  | .commandStart _ _ _ => true
  | .heldRecordWrite _ => true
  | .push _ _ _ _ => true
  | .consume _ _ _ _ => true
  | .cqSeal _ _ _ _ => true
  | .post _ _ _ _ => true
  | .qDrain _ _ _ => true
  | .qAbort _ _ _ => true
  | .qEnable _ _ _ => true
  | .qReset _ _ _ => true
  | .qClose _ _ _ => true
  | .qOpen _ _ _ => true
  | .qClear _ _ _ _ => true
  | .qpolicyWrite _ _ => true
  | .staleTail _ => true
  | .engDrain _ _ => true
  | .engAbort _ _ => true
  | .engEnable _ _ => true
  | .setAliasWrite _ addr data => addr < 0x80000 && bytesOk data
  | .clearAliasWrite _ addr data => addr < 0x80000 && bytesOk data
  | .windowDescriptorWrite _ _ _ _ => true
  | .windowConsume _ _ _ _ => true
  | .windowClear _ _ _ _ => true
  | .addressAccess _ addr acc _ trip => addr < 2 ^ 64 && acc.wf && trip.wf
  | .commonsBankGrant _ accs => accs.all BankAccess.wf
  | .neuronWordWrite _ _ _ _ _ => true
  | .rowTableWrite _ addr data => addr < 2 ^ 64 && bytesOk data
  | .dictObjectWrite _ _ _ data _ => data.length ≤ 0x20000
  | .rcRead _ _ _ => true
  | .classCommit _ _ => true
  | .routeArm _ => true
  | .routeDisarm _ => true
  | .routeSwitch _ _ => true
  | .schedArm _ => true
  | .schedDisarm _ => true
  | .schedSwitch _ => true
  | .consolNow _ _ => true
  | .restoreDefaults _ _ _ => true
  | .flogClear _ _ => true
  | .dumpNow _ _ => true
  | .farrierNow _ _ => true
  | .pwrReqRun _ => true
  | .pwrReqIdle _ => true
  | .pwrReqHold _ => true
  | .pwrReqWatch _ => true
  | .pwrReqOff _ => true
  | .retrainFast _ _ => true
  | .retrainFull _ _ => true
  | .retrainRestoreLanes _ _ => true
  | .retrainTakeDown _ _ => true
  | .retrainBringUp _ _ => true
  | .spurSend _ _ _ => true
  | .acctModeWrite _ _ => true
  | .emcyHistoryClear _ _ => true
  | .reinOverrideWrite _ _ _ => true
  | .timerPerWrite _ _ _ => true
  | .timerCmpWrite _ _ _ => true
  | .gctrlWrite _ _ _ => true
  | .capRead _ _ => true
  | .doorbellRead _ _ => true
  | .seqException _ x => x.wf
  | .hello x => x.wf
  | .dictRead x => x.wf
  | .dictWrite x _ => x.wf
  | .qPush x => x.wf
  | .qConsume x => x.wf
  | .memRead x => x.wf
  | .memWrite x data => x.wf && data.length ≤ 0x1000000
  | .memWriteTimeout x data => x.wf && data.length ≤ 0x1000000
  | .notifySet x => x.wf
  | .bye x => x.wf
  | .htpSessionTimeout p => p.wf
  | .usbBusReset _ _ => true
  | .updBegin x members => x.wf && members.length ≤ 63
  | .updBlock _ => true
  | .chainBlockReceive _ => true
  | .updVerify x _ members => x.wf && members.length ≤ 63
  | .updActivate x _ _ => x.wf
  | .updCommit x => x.wf
  | .updRollback x _ _ => x.wf
  | .updAbort x => x.wf
  | .updStatus x => x.wf
  | .microcodeSwap _ => true
  | .idGet x => x.wf
  | .attest x => x.wf
  | .challenge x => x.wf
  | .takeOwnership x => x.wf
  | .release x => x.wf
  | .retire x => x.wf
  | .setLock x => x.wf
  | .setTamperEn x => x.wf
  | .provision x => x.wf
  | .ecallOpenHarness img len => img < 2 ^ 64 && len < 2 ^ 64
  | .ecallAttest src dst => src < 2 ^ 64 && dst < 2 ^ 64
  | .ecallOwnerOp src => src < 2 ^ 64
  | .ecallUnsealKey img len handle => img < 2 ^ 64 && len < 2 ^ 64 && handle < 2 ^ 32
  | .ecallVerifyImage img len => img < 2 ^ 64 && len < 2 ^ 64
  | .ecallChallenge dst => dst < 2 ^ 64
  | .nmtStart _ => true
  | .nmtStop _ => true
  | .nmtEnterPreoperational _ => true
  | .nmtResetNode _ => true
  | .nmtResetCommunication _ => true
  | .sdoDownload frame _ => frame.length == 8
  | .sdoUpload frame => frame.length == 8
  | .rpdo1Receive data => data.length ≤ 64
  | .rpdo2Receive data => data.length ≤ 64
  | .tpdoEventTimer _ => true
  | .releaseBroadcastReceive n _ => 1 ≤ n && n < 2 ^ 64
  | .deliveryBegin _ _ => true
  | .eventExpand _ _ _ _ => true
  | .deliveryEnd _ _ => true
  | .updatePhase _ _ _ => true
  | .destListRead _ _ _ _ => true
  | .holdbackRelease _ _ _ => true
  | .routerArrival _ _ => true
  | .routerDepart _ _ => true
  | .creditReturn _ _ => true
  | .multicastRequest _ _ => true
  | .multicastExpand _ => true
  | .gatewayTransit _ => true
  | .sequencerInject _ _ => true
  | .tileAccept _ _ _ => true
  | .serviceEventAccept _ _ => true
  | .spillBufferDrain _ => true
  | .spillReadback _ => true
  | .syncReductionRound _ _ => true
  | .completeBroadcastReceive n => 1 ≤ n && n < 2 ^ 64
  | .carryDrop _ _ => true
  | .fetchIssue _ _ => true
  | .fetchLineArrive _ _ => true
  | .hintIssue _ _ => true
  | .hintStale _ => true
  | .remoteFarArrival _ => true
  | .remoteHoldbackRelease _ => true
  | .bulkSlotMove _ _ _ _ offer => offer.all BulkOffer.wf
  | .patrolScrub line _ => line < 2 ^ 30
  | .preReport _ _ => true
  | .postReport _ _ => true
  | .traceGroomVisit _ _ => true
  | .capture _ => true
  | .sweepRow _ _ => true
  | .journalDrain _ => true
  | .consolidationBegin bad => bad.all fun b => b.1 < 18432
  | .consolidationEnd _ => true
  | .stablePageRemap _ _ => true
  | .w8pRecover _ => true
  | .hitchOpApply _ _ => true
  | .hitchSubscribe _ => true
  | .hitchUpdate _ _ => true
  | .syncNodeFail _ => true
  | .csi2PacketReceive _ _ _ _ _ payload => payload.length < 65536
  | .ethFrameReceive _ _ frame => 14 ≤ frame.length
  | .intakeInject _ => true
  | .reinRelease _ => true
  | .pauseRepeat _ => true
  | .reinPinFault _ => true
  | .trainingStateAdvance _ _ lanes => lanes.length == 4
  | .trainingTimeout _ => true
  | .linkRetryTimer _ => true
  | .flitReceive _ lanes _ codes _ => lanes.length == 4 && codes.length ≤ 10
  | .ackTimer _ => true
  | .nakReceive _ => true
  | .replayTimeout _ => true
  | .flitTransmit _ => true
  | .stuckLinkReport _ _ => true
  | .laneFault _ _ _ => true
  | .linkLoss _ => true
  | .linkReconcile _ _ => true
  | .spanningTreeBuild dist below tables _ comp => dist.length ≤ 8 && below.length ≤ 8 && tables.length ≤ 8 && comp < 2 ^ 32
  | .spurDetect _ => true
  | .parkReceive _ lanes => lanes.length == 4
  | .parkedLinkWake _ _ => true
  | .parkAllowanceExpiry _ => true
  | .gtMatch _ => true
  | .gtWrap _ => true
  | .encEdge _ _ => true
  | .captureShadowLand _ => true
  | .timerWake _ => true
  | .feedPresent _ _ => true
  | .feedLost _ _ => true
  | .feedReversed _ => true
  | .feedOvervoltage _ _ _ => true
  | .holdupCheck _ => true
  | .braceEntry _ _ => true
  | .braceExit _ => true
  | .lowInputExit _ => true
  | .powerFail _ _ => true
  | .governorTick _ _ _ => true
  | .wake w => w.wf
  | .ddrBackgroundTrainDone _ => true
  | .bringupStage _ => true
  | .coreAlarm _ _ _ => true
  | .replanDue _ => true
  | .replan r => r.eyes.length == 8
  | .stableRefresh _ => true
  | .tamperDetect _ => true
  | .tamperRecheck _ => true
  | .tileHang _ _ _ _ => true
  | .settleHoldReply _ _ => true
  | .settle _ step => step < 2 ^ 64
  | .deviceLost _ => true
  | .saddleWatchdog _ => true
  | .bridleCheck _ => true
  | .thermalShutdown _ => true
  | .geoChange _ => true
  | .vaonLimit _ _ => true
  | .gtTick _ => true
  | .ethLinkUpChange _ _ => true
  | .ep0StandardRequest _ => true
  | .canBusError _ _ => true
  | .gait => true
  | .learnEpoch => true
  | .harnessLoad => true
  | .harnessUnload => true
  | .denseGemm => true
  | .denseConv => true
  | .fill => true
  | .mapLoad => true
  | .arm => true
  | .disarm => true
  | .groupDef => true
  | .groupClear => true
  | .tilestat => true
  | .gcmSeal => true
  | .gcmOpen => true
  | .sha384 => true
  | .ecdsaSign => true
  | .ecdsaVerify => true
  | .xtsKeyset => true
  | .frcInvalidate => true
  | .schedVersionSwitch => true
  | .usbResume => true
  | .usbSuspend => true
  | .handoverTimeout => true
  | .probationExpiry => true
  | .deferredMicrocodeSwap => true
  | .recoveryBoot => true
  | .lifecycleRestart => true
  | .sdoSegmentTimeout => true
  | .heartbeatTimer => true
  | .busoffRecovery => true
  | .remoteRead => true
  | .remoteWrite => true
  | .remoteTimeout => true
  | .stepRelease => true
  | .stepTimerNominal => true
  | .streamWindowClose => true
  | .overrun => true
  | .epochEnd => true
  | .sweepEnd => true
  | .reduceRecordSend => true
  | .broadcastReceive => true
  | .sleepMakeup => true
  | .inrushBypass => true
  | .lowInputEntry => true
  | .railReset => true
  | .lpregOverload => true
  | .governorLower => true
  | .bringupRetry => true
  | .countSettleStart => true
  | .settleTimeout => true
  | .bridleWatchdog => true
  | .resetInput => true
  | .resetInputRelease => true
  | .vbusArrival => true

end Sys2Proof
end

