-- ==== Sys2Proof/Tests/Slice0.lean ====
section
/-!
SUPPORT. The model's own tests: a state that meets the hypotheses of each clause of the statements, the spec's worked examples, and
an ill-formed command for each check of WellFormed.
-/
set_option Elab.async false
namespace Sys2Proof.Tests
open Sys2Proof Sys2Proof.Machine

/-- A command of an opcode: CFV 1 and the fields given. -/
def cmd (opc : Nat) (fields : List (Nat × Nat × Nat)) : Entry := entryOf ((0, 1, opc) :: (2, 2, 1) :: fields)

/-- A command queue of 16 entries at 0x1000 with its completion queue 4. -/
def cq (eng : Nat) : Queue :=
  { kind := .command, log2n := 4, base := 0x1000, eng := eng, link := 4, prod := 0x13, cons := 0x13, qstate := .enabled }

/-- The completion queue. -/
def done : Queue := { kind := .completion, log2n := 4, base := 0x2000, prod := 0x13, cons := 0x13, qstate := .enabled }

/-- After reset with queue 3 bound to an engine and a command at its head. -/
def headed (eng opc : Nat) (fields : List (Nat × Nat × Nat)) : State :=
  { State.reset with
    queues := [(3, { cq eng with wpA := 1, wpB := 0x1FFFE }), (4, done)],
    mem := Memory.writeBytes [] 0x1000 (entryBytes (cmd opc fields)) }

/-- The command an engine of `ran` executes. -/
def run (opc : Nat) (fields : List (Nat × Nat × Nat)) : RunCmd := { queue := 3, cmd := cmd opc fields, started := 0, cqResets := 0 }

/-- After reset with an engine executing a command of queue 3. -/
def ran (eng opc : Nat) (fields : List (Nat × Nat × Nat)) : State :=
  { State.reset with
    queues := [(3, { cq eng with wpA := 1, wpB := 0x1FFFE, rpA := 1, rpB := 0x1FFFE, outstanding := 1 }), (4, done)],
    engines := [(eng, { running := some (run opc fields) })] }

/-- An ordered set received, with the fields of R328 given by their bits in the block. -/
def orderedBlock (ost : Nat) (fields : List (Nat × Nat × Nat)) : Block :=
  ⟨2, BitVec.ofNat 64 (packFields ([(0, 8, 0x4B), (8, 8, ost), (50, 14, 0x2A5C)] ++ fields))⟩

/-- A far spike of cluster 3, tile 2, row 1, parked for step 1. -/
def farParked : Parked := { ev := { word := eventWord 0 1 0 3 2 131073 0 1 0 false }, due := 1 }

/-- That spike in delivery while its row is plastic and present and the queue of pre-reports is full. -/
def prePausedState : State :=
  { State.reset with
    tiles := [(194, { map := { n := 8, e := 4 }, phase := .deliver 1, slots := [(1, { owner := 1, events := [farParked] })] })],
    stores := [(3, { tags := [{ tile := 2, f := 1, present := true, prefetch := false, data := leBytes 16 128 }] })],
    learning := { State.reset.learning with
      engines := [(3, { pre := List.replicate 256 ⟨⟨2, true, 1⟩, 0, 1, 0⟩ })] } }

/-- Row 5 of the tile's far rows has 8,191 lines, and the cluster's cache has 2 lines left. -/
def noLines : State :=
  { State.reset with
    tiles := [(194, { map := { n := 8, farBase := [0x1000000000, 0, 0, 0], farCount := [6, 0, 0, 0] } })],
    stores := [(3, { tags := [{ tile := 9, f := 1, present := false, prefetch := false, len := 8190 }] })],
    mem := Memory.writeBytes [] 0x1000000028 (leBytes 8 0x1FFF00000000) }

/-- A flit that begins with the bytes given, with its CRC. -/
def flitOf (l : List Byte) : List Byte :=
  let x := l ++ List.replicate (124 - l.length) 0
  x ++ leBytes 4 (crc32c x).toNat

/-- Such a flit's CRC holds. -/
theorem flitOf_crc (l : List Byte) (hl : l.length ≤ 124) : flitCrcOk (flitOf l) = true := by
  have le4 : ∀ v : Nat, v < 2 ^ 32 → leNat (leBytes 4 v) = v := by
    intro v hv; simp [leBytes, leNat]; omega
  have hs (x y : List Byte) (hx : x.length = 124) (hy : y.length = 4) :
      (x ++ y).take 124 = x ∧ ((x ++ y).drop 124).take 4 = y := by
    rw [← hx, List.take_left, List.drop_left, ← hy, List.take_length]; exact ⟨rfl, rfl⟩
  have h := hs (l ++ List.replicate (124 - l.length) 0)
    (leBytes 4 (crc32c (l ++ List.replicate (124 - l.length) 0)).toNat) (by simp; omega) rfl
  rw [flitCrcOk, flitField, flitOf, h.1, h.2, le4 _ (BitVec.isLt _)]
  simp

/-- An HTP frame with its CRC: its peer, first byte, OP, flags, TAG and payload. -/
def htpFrame (p : Peer) (first op flags tag : Nat) (payload : List Byte) : HtpFrame :=
  let h := leBytes 1 first ++ leBytes 1 op ++ leBytes 2 flags ++ leBytes 4 tag ++ leBytes 4 payload.length
  ⟨p, h ++ leBytes 4 (crc32c (h ++ payload)).toNat ++ payload⟩

/-- Such a frame is not bad: its CRC holds whatever its payload. -/
theorem htpFrame_bad (p : Peer) (op tag : Nat) (d : List Byte) (hd : d.length ≤ 65536) : (htpFrame p 1 op 0 tag d).bad = false := by
  have le4 : ∀ v : Nat, v < 2 ^ 32 → leNat (leBytes 4 v) = v := by
    intro v hv; simp [leBytes, leNat]; omega
  have hl : (htpFrame p 1 op 0 tag d).len = d.length := by
    have h := le4 d.length (by omega)
    simpa [HtpFrame.len, HtpFrame.field, htpFrame, leBytes] using h
  have hp : (htpFrame p 1 op 0 tag d).payload = d := by
    rw [HtpFrame.payload, hl]; simp [htpFrame, leBytes]
  have hc : (htpFrame p 1 op 0 tag d).field 12 4 = (crc32c ((htpFrame p 1 op 0 tag d).bytes.take 12 ++ d)).toNat := by
    have h := le4 (crc32c ((htpFrame p 1 op 0 tag d).bytes.take 12 ++ d)).toNat (BitVec.isLt _)
    rw [← h]
    simp [HtpFrame.field, htpFrame, leBytes]
  rw [HtpFrame.bad, hl, hp, ← hc]
  simp [htpFrame, HtpFrame.field, leBytes, leNat, bitField]
  omega
/-- The header of a checkpoint without a section. -/
def checkpointHead : List Byte := leBytes 128 (packFields [(0, 32, 0x4B434C46), (32, 16, 1), (192, 64, 176)])

/-- A checkpoint without a section at the base of LPDDR5X. -/
def emptyCheckpoint : List Host.Cell :=
  Memory.writeBytes (Memory.writeBytes [] 0x1000000000 checkpointHead) 0x1000000080 (sha384Bytes checkpointHead)

/-- That checkpoint verifies, whatever the digest of its header is. -/
theorem emptyCheckpoint_verifies (s : State) (hm : s.mem = emptyCheckpoint) (hv : s.veils = []) (hr : s.reg Reg.HARNESS_MEAS = 0)
    (a : Nat) (ha : a = 0x1000000000) : s.checkpointFails a = none := by
  subst ha
  have hw : Memory.wf (Memory.writeBytes [] 0x1000000000 checkpointHead) := Memory.writeBytes_wf _ rfl _
  have hb (a n : Nat) (h : a + n ≤ 0x1000000080) :
      s.bytes a n = Memory.readBytes (Memory.writeBytes [] 0x1000000000 checkpointHead) a n := by
    simp only [State.bytes, hv, hm, emptyCheckpoint, if_true]
    exact Memory.readBytes_writeBytes_outside _ hw _ _ _ (.inl h)
  have hd : s.bytes 0x1000000080 48 = sha384Bytes checkpointHead := by
    simp only [State.bytes, hv, hm, emptyCheckpoint, if_true]
    exact Memory.readBytes_writeBytes_same _ hw _
  have h0 : s.word 0x1000000000 4 = 0x4B434C46 := by simp only [State.word, hb 0x1000000000 4 (by decide)]; decide +kernel
  have h1 : s.word 0x1000000004 2 = 1 := by simp only [State.word, hb 0x1000000004 2 (by decide)]; decide +kernel
  have h2 : s.word 0x1000000018 8 = 176 := by simp only [State.word, hb 0x1000000018 8 (by decide)]; decide +kernel
  have h3 : s.word 0x1000000020 48 = 0 := by simp only [State.word, hb 0x1000000020 48 (by decide)]; decide +kernel
  have h4 : s.bytes 0x1000000000 128 = checkpointHead := by rw [hb 0x1000000000 128 (by decide)]; decide +kernel
  simp only [State.checkpointFails, Nat.reduceAdd, h0, h1, h2, h3, hr, h4, hd, Nat.reduceSub]
  simp

/-! ### Witnesses -/

theorem witness_CommonOpcodesAtHead_nop : ∃ (q : QueueId) (s : State),
    s.atHead q.val .nop ∧ s.badVersion (s.head q.val) = false ∧ cmdCmpl (s.head q.val) = false :=
  ⟨3, headed 0 0 [], by decide +kernel⟩

theorem witness_CommonOpcodesAtHead_signal : ∃ (q : QueueId) (s : State),
    s.atHead q.val .hitchSignal ∧ s.hitchCheck (s.head q.val) false = .ok ∧ (s.hitch (s.headHitch q.val)).homeLost =
      false ∧ s.isHome (s.headHitch q.val) = true :=
  ⟨3, headed 0 1 [(8, 2, 16383), (12, 4, 7)], by decide +kernel⟩

theorem witness_CommonOpcodesAtHead_set : ∃ (q : QueueId) (s : State),
    s.atHead q.val .hitchSet ∧ s.hitchCheck (s.head q.val) false = .ok ∧ (s.hitch (s.headHitch q.val)).homeLost =
      false ∧ s.isHome (s.headHitch q.val) = true :=
  ⟨3, headed 0 3 [(8, 2, 16383), (12, 4, 7)], by decide +kernel⟩

theorem witness_CommonOpcodesAtHead_waitStalls : ∃ (q : QueueId) (s : State),
    s.atHead q.val .hitchWait ∧ s.hitchCheck (s.head q.val) false = .ok ∧ (s.hitch (s.headHitch q.val)).homeLost =
      false ∧ s.waitersOn (s.headHitch q.val) = [] ∧ (s.nodeCount (s.headHitch q.val) (s.entryNode q.val)).any (· <
      (s.headValue q.val)) = true :=
  ⟨3, { headed 0 2 [(12, 4, 1)] with hitches := [(0, {})] }, by decide +kernel⟩

theorem witness_CommonOpcodesAtHead_waitSubscribes : ∃ (q : QueueId) (s : State),
    s.atHead q.val .hitchWait ∧ s.hitchCheck (s.head q.val) false = .ok ∧ (s.hitch (s.headHitch q.val)).homeLost =
      false ∧ s.isHome (s.headHitch q.val) = true ∧ s.nodeCount (s.headHitch q.val) (s.entryNode q.val) = none :=
  ⟨3, { headed 0 2 [(12, 4, 1)] with hitches := [(0, { homeNode := 2 })] }, by decide +kernel⟩

theorem witness_CommonOpcodesAtHead_barrierAtHome : ∃ (q : QueueId) (s : State),
    s.atHead q.val .hitchBarrier ∧ s.hitchCheck (s.head q.val) true = .ok ∧ (s.hitch (s.headHitch q.val)).homeLost =
      false ∧ s.isHome (s.headHitch q.val) = true ∧ (s.nodeCount (s.headHitch q.val) (s.entryNode q.val)).isSome =
      true :=
  ⟨3, headed 0 4 [(12, 4, 65535)], by decide +kernel⟩

theorem witness_CommonOpcodesAtHead_barrierElsewhere : ∃ (q : QueueId) (s : State),
    s.atHead q.val .hitchBarrier ∧ s.hitchCheck (s.head q.val) true = .ok ∧ (s.hitch (s.headHitch q.val)).homeLost =
      false ∧ s.isHome (s.headHitch q.val) = true ∧ s.nodeCount (s.headHitch q.val) (s.entryNode q.val) = none :=
  ⟨3, { headed 0 4 [(12, 4, 1)] with hitches := [(0, { homeNode := 2 })] }, by decide +kernel⟩

theorem witness_CommonOpcodesAtHead_dump : ∃ (q : QueueId) (s : State),
    s.atHead q.val .hitchDump ∧ s.dumpCheck q.val (s.head q.val) = .ok ∧ 64 + 32 * 16384 + 32 * s.waiterRecords.length
      ≤ (s.headValue q.val) :=
  ⟨3, headed 0 5 [(8, 4, 0x100000), (12, 4, 524352)], by decide +kernel⟩

theorem witness_CommonOpcodesAtHead_dumpFull : ∃ (q : QueueId) (s : State),
    s.atHead q.val .hitchDump ∧ s.dumpCheck q.val (s.head q.val) = .ok ∧ 64 ≤ (s.headValue q.val) ∧ (s.headValue
      q.val) < 64 + 32 * 16384 + 32 * s.waiterRecords.length :=
  ⟨3, headed 0 5 [(8, 4, 0x100000), (12, 4, 64)], by decide +kernel⟩

theorem witness_EngineTakesCommandsAndRecords_executes : ∃ (e : EngineId) (x : QueueSoft) (y : QueueSoft) (q : Nat) (l : List Nat) (s : State) (u : State),
    (s.engine (engineNum e)).running = none ∧ s.reg Reg.PWR_STATE = 0 ∧ s.readyQueues (engineNum e) = q :: l ∧
      (s.queueSoft q x).queueSoft (s.queue q).link y = u ∧ (u.queue q).mismatch = false ∧ (u.queue q).qstate ≠ .closed
      ∧ (State.commandCheck ((u.setQueue q ({ (u.queue q).taken u.now with outstanding := (u.queue q).outstanding + 1
                                                                             })).setEngine (engineNum e) { u.engine
      (engineNum e) with lastQueue := q }) (engineNum e) (u.headRun q)).1 = .ok :=
  ⟨.mover, .clean, .pointers, 3, [], headed 2 0x30 [(8, 8, 0x4000), (16, 8, 0x8000), (24, 4, 64)],
    (((headed 2 0x30 [(8, 8, 0x4000), (16, 8, 0x8000), (24, 4, 64)]) : State).queueSoft 3 .clean).queueSoft 4
    .pointers, by decide +kernel⟩

theorem witness_EngineTakesCommandsAndRecords_fails : ∃ (e : EngineId) (x : QueueSoft) (y : QueueSoft) (q : Nat) (l : List Nat) (st : Status) (s : State) (u : State),
    (s.engine (engineNum e)).running = none ∧ s.reg Reg.PWR_STATE = 0 ∧ s.readyQueues (engineNum e) = q :: l ∧
      (s.queueSoft q x).queueSoft (s.queue q).link y = u ∧ (u.queue q).mismatch = false ∧ (u.queue q).qstate ≠ .closed
      ∧ (State.commandCheck ((u.setQueue q ({ (u.queue q).taken u.now with outstanding := (u.queue q).outstanding + 1
                                                                             })).setEngine (engineNum e) { u.engine
      (engineNum e) with lastQueue := q }) (engineNum e) (u.headRun q)).1 = st ∧ st ≠ .ok :=
  ⟨.mover, .clean, .binding, 3, [], .badFormat, headed 2 0x30 [(8, 8, 0x4000), (16, 8, 0x8000), (24, 4, 63)],
    (((headed 2 0x30 [(8, 8, 0x4000), (16, 8, 0x8000), (24, 4, 63)]) : State).queueSoft 3 .clean).queueSoft 4
    .binding, by decide +kernel⟩

theorem witness_EngineTakesCommandsAndRecords_mismatch : ∃ (e : EngineId) (x : QueueSoft) (y : QueueSoft) (q : Nat) (l : List Nat) (s : State) (u : State),
    (s.engine (engineNum e)).running = none ∧ s.reg Reg.PWR_STATE = 0 ∧ s.readyQueues (engineNum e) = q :: l ∧
      (s.queueSoft q x).queueSoft (s.queue q).link y = u ∧ (u.queue q).mismatch = true :=
  ⟨.mover, .pointers, .clean, 3, [], headed 2 0x30 [], (((headed 2 0x30 []) : State).queueSoft 3
    .pointers).queueSoft 4 .clean, by decide +kernel⟩

theorem witness_EngineTakesCommandsAndRecords_closed : ∃ (e : EngineId) (x : QueueSoft) (y : QueueSoft) (q : Nat) (l : List Nat) (s : State) (u : State),
    (s.engine (engineNum e)).running = none ∧ s.reg Reg.PWR_STATE = 0 ∧ s.readyQueues (engineNum e) = q :: l ∧
      (s.queueSoft q x).queueSoft (s.queue q).link y = u ∧ (u.queue q).mismatch = false ∧ (u.queue q).qstate = .closed :=
  ⟨.mover, .binding, .clean, 3, [], headed 2 0x30 [], (((headed 2 0x30 []) : State).queueSoft 3
    .binding).queueSoft 4 .clean, by decide +kernel⟩

theorem witness_EngineTakesCommandsAndRecords_takesNothing : ∃ (e : EngineId) (s : State),
    ((s.engine (engineNum e)).running ≠ none ∨ s.readyQueues (engineNum e) = [] ∨ s.reg Reg.PWR_STATE ≠ 0) :=
  ⟨.mover, State.reset, by decide +kernel⟩

theorem witness_EngineTakesCommandsAndRecords_noneToWrite : ∃ (e : EngineId) (s : State),
    ((s.engine (engineNum e)).held.find? fun x => s.recordRefused x.run || !(s.queue (s.queue
      x.run.queue).link).isFull) = none :=
  ⟨.mover, State.reset, by decide +kernel⟩

theorem witness_EngineTakesCommandsAndRecords_writesHeld : ∃ (e : EngineId) (r : HeldRecord) (s : State),
    ((s.engine (engineNum e)).held.find? fun x => s.recordRefused x.run || !(s.queue (s.queue
      x.run.queue).link).isFull) = some r ∧ s.recordRefused r.run = false ∧ (s.queue (s.queue
      r.run.queue).link).mismatch = false :=
  ⟨.mover, { run := run 0x30 [], bytes := 5, since := 0 }, { ran 2 0x30 [] with now := 1000, engines :=
                                                                                              [(2, { held := [{ run :=
                                                                                                                  run
                                                                                                                  0x30
                                                                                                                  [],
                                                                                                                  bytes
                                                                                                                  :=
                                                                                                                  5,
                                                                                                                  since
                                                                                                                  := 0
                                                                                                                  }]
                                                                                                       })] },
    by decide +kernel⟩

theorem witness_EngineTakesCommandsAndRecords_heldMismatch : ∃ (e : EngineId) (r : HeldRecord) (s : State),
    ((s.engine (engineNum e)).held.find? fun x => s.recordRefused x.run || !(s.queue (s.queue
      x.run.queue).link).isFull) = some r ∧ s.recordRefused r.run = false ∧ (s.queue (s.queue
      r.run.queue).link).mismatch = true :=
  ⟨.mover, { run := run 0x30 [], bytes := 5, since := 0 }, { ran 2 0x30 [] with engines := [(2, { held :=
                                                                                                                [{ run
                                                                                                                     :=
                                                                                                                     run
                                                                                                                     0x30
                                                                                                                     [],
                                                                                                                     bytes
                                                                                                                     :=
                                                                                                                     5,
                                                                                                                     since
                                                                                                                     :=
                                                                                                                     0
                                                                                                                     }]
                                                                                                                })],
                                                                                              queues := [(3, {
                                                                                              cq 2 with
                                                                                              outstanding := 1 }), (4,
                                                                                              { done with wpA :=
                                                                                                                  1
                                                                                                                  })]
                                                                                              }, by decide +kernel⟩

theorem witness_EngineTakesCommandsAndRecords_heldLost : ∃ (e : EngineId) (r : HeldRecord) (s : State),
    ((s.engine (engineNum e)).held.find? fun x => s.recordRefused x.run || !(s.queue (s.queue
      x.run.queue).link).isFull) = some r ∧ s.recordRefused r.run = true :=
  ⟨.mover, { run := run 0x30 [], bytes := 5, since := 0 }, { ran 2 0x30 [] with engines := [(2, { held :=
                                                                                                                [{ run
                                                                                                                     :=
                                                                                                                     run
                                                                                                                     0x30
                                                                                                                     [],
                                                                                                                     bytes
                                                                                                                     :=
                                                                                                                     5,
                                                                                                                     since
                                                                                                                     :=
                                                                                                                     0
                                                                                                                     }]
                                                                                                                })],
                                                                                              queues := [(3, {
                                                                                              cq 2 with
                                                                                              outstanding := 1 }), (4,
                                                                                              { done with qstate
                                                                                                                  :=
                                                                                                                  .closed
                                                                                                                  })]
                                                                                              }, by decide +kernel⟩

theorem witness_FabricCommandsStepAndGait_stepCounted : ∃ (run : RunCmd) (s : State),
    s.runningOp 0 .step = some run ∧ entryField run.cmd 8 4 ≠ 0 ∧ ¬ (s.pendingGait = 0 ∧ entryField run.cmd 8 4 ≠ 1) :=
  ⟨run 16 [(8, 4, 1)], ran 0 16 [(8, 4, 1)], by decide +kernel⟩

theorem witness_FabricCommandsStepAndGait_stepUnlimited : ∃ (run : RunCmd) (s : State),
    s.runningOp 0 .step = some run ∧ entryField run.cmd 8 4 = 0 ∧ s.pendingGait ≠ 0 :=
  ⟨run 16 [], { ran 0 16 [] with regs := [(Reg.GAIT.key, 2)] }, by decide +kernel⟩

theorem witness_FabricCommandsStepAndGait_stepRefused : ∃ (run : RunCmd) (s : State),
    s.runningOp 0 .step = some run :=
  ⟨run 16 [], ran 0 16 [], by decide +kernel⟩

theorem witness_FabricCommandsStepAndGait_stepWalk : ∃ (run : RunCmd) (s : State),
    s.runningOp 0 .step = some run ∧ s.pendingGait = 0 ∧ entryField run.cmd 8 4 ≠ 1 :=
  ⟨run 16 [(8, 4, 2)], ran 0 16 [(8, 4, 2)], by decide +kernel⟩

theorem witness_FabricCommandsStepAndGait_gait : ∃ (run : RunCmd) (s : State),
    s.runningOp 0 .gait = some run ∧ (entryField run.cmd 8 1 ≤ 2 ∨ entryField run.cmd 8 1 = 0xFF) ∧ (entryField
      run.cmd 9 1 ≤ 2 ∨ entryField run.cmd 9 1 = 0xFF) ∧ (entryField run.cmd 12 4 = 0 ∨ 50000 ≤ entryField run.cmd 12
      4 ∧ entryField run.cmd 12 4 ≤ 1000000000) ∧ (entryField run.cmd 16 4 ≤ 1000000000 ∨ entryField run.cmd 16 4 =
      0xFFFFFFFF) ∧ (entryField run.cmd 20 4 ≤ 7 ∨ entryField run.cmd 20 4 = 0xFFFFFFFF) :=
  ⟨run 17 [(8, 1, 2), (9, 1, 255), (12, 4, 1000000000), (16, 4, 0xFFFFFFFF), (20, 4, 7)], ran 0 17 [(8, 1,
    2), (9, 1, 255), (12, 4, 1000000000), (16, 4, 0xFFFFFFFF), (20, 4, 7)], by decide +kernel⟩

theorem witness_FabricCommandsStepAndGait_gaitBad : ∃ (run : RunCmd) (s : State),
    s.runningOp 0 .gait = some run ∧ ¬ ((entryField run.cmd 8 1 ≤ 2 ∨ entryField run.cmd 8 1 = 0xFF) ∧ (entryField
      run.cmd 9 1 ≤ 2 ∨ entryField run.cmd 9 1 = 0xFF) ∧ (entryField run.cmd 12 4 = 0 ∨ 50000 ≤ entryField run.cmd 12
      4 ∧ entryField run.cmd 12 4 ≤ 1000000000) ∧ (entryField run.cmd 16 4 ≤ 1000000000 ∨ entryField run.cmd 16 4 =
      0xFFFFFFFF) ∧ (entryField run.cmd 20 4 ≤ 7 ∨ entryField run.cmd 20 4 = 0xFFFFFFFF)) :=
  ⟨run 17 [(8, 1, 3)], ran 0 17 [(8, 1, 3)], by decide +kernel⟩

theorem witness_FabricCommandsStepAndGait_learnEpoch : ∃ (run : RunCmd) (s : State),
    s.runningOp 0 .learnEpoch = some run ∧ s.noStep = true ∧ s.learning.ending = none :=
  ⟨run 18 [], ran 0 18 [], by decide +kernel⟩

theorem witness_FabricCommandsStepAndGait_learnWaits : ∃ (run : RunCmd) (s : State),
    s.runningOp 0 .learnEpoch = some run ∧ (s.noStep = false ∨ s.learning.ending ≠ none) :=
  ⟨run 18 [], { ran 0 18 [] with learning := { ending := some (0, 0) } }, by decide +kernel⟩

theorem witness_FabricCommandsStepAndGait_frcWaits : ∃ (run : RunCmd) (s : State),
    s.runningOp 6 .frcInvalidate = some run ∧ (s.noStep = false ∨ ((List.range 16).any fun c => natBit (entryField
      run.cmd 8 2) c && (s.store c).tags.any fun g => !g.present) = true) :=
  ⟨run 112 [(8, 2, 2)], { ran 6 112 [(8, 2, 2)] with stores := [(1, { tags := [{ tile := 0, f := 0,
                                                                                               present := false,
                                                                                               prefetch := false }]
                                                                                    })] }, by decide +kernel⟩

theorem witness_FabricCommandsStepAndGait_frcInvalidate : ∃ (run : RunCmd) (s : State),
    s.runningOp 6 .frcInvalidate = some run ∧ s.noStep = true ∧ ((List.range 16).any fun c => natBit (entryField
      run.cmd 8 2) c && (s.store c).tags.any fun g => !g.present) = false :=
  ⟨run 112 [(8, 2, 2)], { ran 6 112 [(8, 2, 2)] with stores := [(1, { tags := [{ tile := 0, f := 0,
                                                                                               present := true,
                                                                                               prefetch := false }]
                                                                                    })] }, by decide +kernel⟩

theorem witness_HarnessAndCheckpointCommands_checkpoint : ∃ (run : RunCmd) (s : State),
    s.runningOp 0 .checkpoint = some run ∧ s.betweenSteps = true ∧ s.checkpointBytes.length ≤ 4096 * entryField
      run.cmd 16 4 :=
  ⟨run 19 [(8, 8, 0x1000000000), (16, 4, 2)], ran 0 19 [(8, 8, 0x1000000000), (16, 4, 2)],
    by decide +kernel⟩

theorem witness_HarnessAndCheckpointCommands_checkpointFull : ∃ (run : RunCmd) (s : State),
    s.runningOp 0 .checkpoint = some run ∧ s.betweenSteps = true ∧ 4096 * entryField run.cmd 16 4 <
      s.checkpointBytes.length :=
  ⟨run 19 [(8, 8, 0x1000000000)], ran 0 19 [(8, 8, 0x1000000000)], by decide +kernel⟩

theorem witness_HarnessAndCheckpointCommands_checkpointTold : ∃ (cmd : Entry) (s : State),
    s.reg Reg.DEV_NUM ≠ 0 ∧ s.betweenSteps = true ∧ s.harnessLoaded = true ∧ s.checkpointBytes.length ≤ 4096 *
      entryField cmd 16 4 :=
  ⟨cmd 0x13 [(8, 8, 0x1000000000), (16, 4, 2)], { State.reset with regs := [(Reg.DEV_NUM.key, 1),
                                                                           (Reg.HARNESS_STATE.key, 2)] },
    by decide +kernel⟩

theorem witness_HarnessAndCheckpointCommands_checkpointFullTold : ∃ (cmd : Entry) (s : State),
    s.reg Reg.DEV_NUM ≠ 0 ∧ s.betweenSteps = true ∧ s.harnessLoaded = true ∧ 4096 * entryField cmd 16 4 <
      s.checkpointBytes.length :=
  ⟨cmd 0x13 [(8, 8, 0x1000000000)], { State.reset with regs := [(Reg.DEV_NUM.key, 1), (Reg.HARNESS_STATE.key,
                                                               2)] }, by decide +kernel⟩

theorem witness_HarnessAndCheckpointCommands_restore : ∃ (run : RunCmd) (s : State),
    s.runningOp 0 .restore = some run ∧ s.betweenSteps = true ∧ s.checkpointFails (entryField run.cmd 8 8) = none :=
  ⟨run 20 [(8, 8, 0x1000000000)], { ran 0 20 [(8, 8, 0x1000000000)] with mem := emptyCheckpoint },
    by decide +kernel, by decide +kernel, emptyCheckpoint_verifies _ (by dsimp only) (by rfl) (by decide +kernel) _ (by decide +kernel)⟩

theorem witness_HarnessAndCheckpointCommands_restoreFails : ∃ (st : Status) (run : RunCmd) (s : State),
    s.runningOp 0 .restore = some run ∧ s.betweenSteps = true ∧ s.checkpointFails (entryField run.cmd 8 8) = some st :=
  ⟨.badFormat, run 20 [(8, 8, 0x1000000000)], ran 0 20 [(8, 8, 0x1000000000)], by decide +kernel⟩

theorem witness_HarnessAndCheckpointCommands_restoreTold : ∃ (cmd : Entry) (s : State),
    s.reg Reg.DEV_NUM ≠ 0 ∧ s.betweenSteps = true ∧ s.harnessLoaded = true ∧ s.checkpointFails (entryField cmd 8 8) =
      none :=
  ⟨cmd 0x14 [(8, 8, 0x1000000000)], { State.reset with regs := [(Reg.DEV_NUM.key, 1), (Reg.HARNESS_STATE.key,
                                                               2)], mem := emptyCheckpoint },
    by decide +kernel, by decide +kernel, by decide +kernel, emptyCheckpoint_verifies _ (by dsimp only) (by rfl) (by decide +kernel) _ (by decide +kernel)⟩

theorem witness_HarnessAndCheckpointCommands_restoreFailsTold : ∃ (cmd : Entry) (st : Status) (s : State),
    s.reg Reg.DEV_NUM ≠ 0 ∧ s.betweenSteps = true ∧ s.harnessLoaded = true ∧ s.checkpointFails (entryField cmd 8 8) =
      some st :=
  ⟨cmd 0x14 [(8, 8, 0x1000000000)], .badFormat, { State.reset with regs := [(Reg.DEV_NUM.key, 1),
                                                                           (Reg.HARNESS_STATE.key, 2)] },
    by decide +kernel⟩

theorem witness_HarnessAndCheckpointCommands_loadSegment : ∃ (run : RunCmd) (s : State),
    s.runningOp 0 .loadSegment = some run ∧ s.betweenSteps = true ∧ entryField run.cmd 8 1 ≠ 0 ∧ s.copySections
      (entryField run.cmd 8 1) ≠ [] :=
  ⟨run 21 [(8, 1, 1)], { ran 0 21 [(8, 1, 1)] with harness := { img := 0x1000000000 }, mem :=
                                                                 Memory.writeBytes [] 0x1000000000 (leBytes 64
                                                                 (packFields [(0, 32, 0x53484C46), (32, 16, 1), (48,
                                                                 16, 1)]) ++ leBytes 32 (packFields [(0, 16, 9), (16,
                                                                 8, 0xFF), (24, 8, 1)])) }, by decide +kernel⟩

theorem witness_HarnessAndCheckpointCommands_loadSegmentBad : ∃ (run : RunCmd) (s : State),
    s.runningOp 0 .loadSegment = some run ∧ s.betweenSteps = true ∧ (entryField run.cmd 8 1 = 0 ∨ s.copySections
      (entryField run.cmd 8 1) = []) :=
  ⟨run 21 [], ran 0 21 [], by decide +kernel⟩

theorem witness_HarnessAndCheckpointCommands_loadSegmentTold : ∃ (cmd : Entry) (s : State),
    s.reg Reg.DEV_NUM ≠ 0 ∧ s.betweenSteps = true ∧ s.harnessLoaded = true ∧ entryField cmd 8 1 ≠ 0 ∧ s.copySections
      (entryField cmd 8 1) ≠ [] :=
  ⟨cmd 0x15 [(8, 1, 1)], { State.reset with regs := [(Reg.DEV_NUM.key, 1), (Reg.HARNESS_STATE.key, 2)], harness
                                                    := { img := 0x1000000000 }, mem := Memory.writeBytes []
                                                    0x1000000000 (leBytes 64 (packFields [(0, 32, 0x53484C46), (32,
                                                    16, 1), (48, 16, 1)]) ++ leBytes 32 (packFields [(0, 16, 9), (16,
                                                    8, 0xFF), (24, 8, 1)])) }, by decide +kernel⟩

theorem witness_HarnessAndCheckpointCommands_loadSegmentBadTold : ∃ (cmd : Entry) (s : State),
    s.reg Reg.DEV_NUM ≠ 0 ∧ s.betweenSteps = true ∧ s.harnessLoaded = true ∧ (entryField cmd 8 1 = 0 ∨ s.copySections
      (entryField cmd 8 1) = []) :=
  ⟨cmd 0x15 [], { State.reset with regs := [(Reg.DEV_NUM.key, 1), (Reg.HARNESS_STATE.key, 2)] },
    by decide +kernel⟩

theorem witness_HarnessAndCheckpointCommands_checkpointNone : ∃ (s : State),
    s.reg Reg.DEV_NUM ≠ 0 ∧ s.betweenSteps = true ∧ s.harnessLoaded = false :=
  ⟨{ State.reset with regs := [(Reg.DEV_NUM.key, 1)] }, by decide +kernel⟩

theorem witness_HarnessAndCheckpointCommands_restoreNone : ∃ (s : State),
    s.reg Reg.DEV_NUM ≠ 0 ∧ s.betweenSteps = true ∧ s.harnessLoaded = false :=
  ⟨{ State.reset with regs := [(Reg.DEV_NUM.key, 1)] }, by decide +kernel⟩

theorem witness_HarnessAndCheckpointCommands_loadSegmentNone : ∃ (s : State),
    s.reg Reg.DEV_NUM ≠ 0 ∧ s.betweenSteps = true ∧ s.harnessLoaded = false :=
  ⟨{ State.reset with regs := [(Reg.DEV_NUM.key, 1)] }, by decide +kernel⟩

theorem witness_HarnessAndCheckpointCommands_checkpointWaits : ∃ (run : RunCmd) (s : State),
    s.runningOp 0 .checkpoint = some run ∧ s.betweenSteps = false :=
  ⟨run 0x13 [], { ran 0 0x13 [] with update := { swapFrom := some 0 } }, by decide +kernel⟩

theorem witness_HarnessAndCheckpointCommands_restoreWaits : ∃ (run : RunCmd) (s : State),
    s.runningOp 0 .restore = some run ∧ s.betweenSteps = false :=
  ⟨run 0x14 [], { ran 0 0x14 [] with update := { swapFrom := some 0 } }, by decide +kernel⟩

theorem witness_HarnessAndCheckpointCommands_loadSegmentWaits : ∃ (run : RunCmd) (s : State),
    s.runningOp 0 .loadSegment = some run ∧ s.betweenSteps = false :=
  ⟨run 0x15 [], { ran 0 0x15 [] with update := { swapFrom := some 0 } }, by decide +kernel⟩

theorem witness_HarnessAndCheckpointCommands_checkpointToldWaits : ∃ (s : State),
    (s.reg Reg.DEV_NUM = 0 ∨ s.betweenSteps = false) :=
  ⟨State.reset, by decide +kernel⟩

theorem witness_HarnessAndCheckpointCommands_restoreToldWaits : ∃ (s : State),
    (s.reg Reg.DEV_NUM = 0 ∨ s.betweenSteps = false) :=
  ⟨State.reset, by decide +kernel⟩

theorem witness_HarnessAndCheckpointCommands_loadSegmentToldWaits : ∃ (s : State),
    (s.reg Reg.DEV_NUM = 0 ∨ s.betweenSteps = false) :=
  ⟨State.reset, by decide +kernel⟩

theorem witness_HarnessAndCheckpointCommands_loadWaits : ∃ (run : RunCmd) (s : State),
    s.runningOp 0 .harnessLoad = some run ∧ s.loadBar = none ∧ s.update.swapFrom ≠ none :=
  ⟨run 24 [(8, 8, 0x1000000000), (16, 4, 1)], { ran 0 24 [(8, 8, 0x1000000000), (16, 4, 1)] with regs :=
                                                                                                               [(Reg.BRINGUP_STAGE.key,
                                                                                                               6),
                                                                                                               (Reg.DDR_STATE.key,
                                                                                                               2)],
                                                                                                               update
                                                                                                               := {
                                                                                                               swapFrom
                                                                                                                 :=
                                                                                                                 some
                                                                                                                 0 }
                                                                                                               },
    by decide +kernel⟩

theorem witness_HarnessAndCheckpointCommands_loadBarred : ∃ (st : Status) (run : RunCmd) (s : State),
    s.runningOp 0 .harnessLoad = some run ∧ s.loadBar = some st :=
  ⟨.refused, run 24 [(8, 8, 0x1000000000), (16, 4, 1)], ran 0 24 [(8, 8, 0x1000000000), (16, 4, 1)],
    by decide +kernel⟩

theorem witness_HarnessAndCheckpointCommands_harnessLoad : ∃ (run : RunCmd) (s : State),
    s.runningOp 0 .harnessLoad = some run ∧ s.loadBar = none ∧ s.update.swapFrom = none :=
  ⟨run 24 [(8, 8, 0x1000000000), (16, 4, 1)], { ran 0 24 [(8, 8, 0x1000000000), (16, 4, 1)] with regs :=
                                                                                                               [(Reg.BRINGUP_STAGE.key,
                                                                                                               6),
                                                                                                               (Reg.DDR_STATE.key,
                                                                                                               2)] },
    by decide +kernel⟩

theorem witness_HarnessAndCheckpointCommands_unloadBusy : ∃ (run : RunCmd) (s : State),
    s.runningOp 0 .harnessUnload = some run ∧ s.harness.unloading = false ∧ (s.fabric.runs ≠ [] ∨ s.noStep = false ∨
      s.learning.ending ≠ none ∨ s.fabric.hold ≠ []) ∧ natBit (entryField run.cmd 8 1) 0 = false :=
  ⟨run 25 [], { ran 0 25 [] with fabric := { hold := [6] } }, by decide +kernel⟩

theorem witness_HarnessAndCheckpointCommands_unloadBegins : ∃ (run : RunCmd) (s : State),
    s.runningOp 0 .harnessUnload = some run ∧ s.harness.unloading = false ∧ s.fabric.runs = [] ∧ s.noStep = true ∧
      s.learning.ending = none ∧ s.fabric.hold = [] ∧ natBit (entryField run.cmd 8 1) 0 = false :=
  ⟨run 25 [], ran 0 25 [], by decide +kernel⟩

theorem witness_HarnessAndCheckpointCommands_unloadForced : ∃ (run : RunCmd) (s : State),
    s.runningOp 0 .harnessUnload = some run ∧ s.harness.unloading = false ∧ natBit (entryField run.cmd 8 1) 0 = true :=
  ⟨run 25 [(8, 1, 1)], ran 0 25 [(8, 1, 1)], by decide +kernel⟩

theorem witness_HarnessAndCheckpointCommands_unloadWaits : ∃ (run : RunCmd) (s : State),
    s.runningOp 0 .harnessUnload = some run ∧ s.harness.unloading = true ∧ s.unloadQuiet = false :=
  ⟨run 25 [], { ran 0 25 [] with harness := { unloading := true }, regs := [(Reg.JRNL_PENDING.key, 8)] },
    by decide +kernel⟩

theorem witness_HarnessAndCheckpointCommands_unloadStops : ∃ (run : RunCmd) (s : State),
    s.runningOp 0 .harnessUnload = some run ∧ s.harness.unloading = true ∧ s.unloadQuiet = true ∧
      (s.unloadStop.harnessQueues.all fun q => q.2.kind != .command || q.2.qstate == .disabled) = false :=
  ⟨run 25 [], { ran 0 25 [] with harness := { unloading := true }, queues := [(0, { cq 0 with
                                               outstanding := 1 }), (3, { cq 0 with outstanding := 1, wpA := 1,
                                                                                            wpB := 0x1FFFE }), (4,
                                               done)] }, by decide +kernel⟩

theorem witness_HarnessAndCheckpointCommands_unloadEnds : ∃ (run : RunCmd) (s : State),
    s.runningOp 0 .harnessUnload = some run ∧ s.harness.unloading = true ∧ s.unloadQuiet = true ∧
      (s.unloadStop.harnessQueues.all fun q => q.2.kind != .command || q.2.qstate == .disabled) = true :=
  ⟨run 25 [], { ran 0 25 [] with harness := { unloading := true }, queues := [(0, { cq 0 with
                                               outstanding := 1 }), (4, done)] }, by decide +kernel⟩

theorem witness_DenseCommands_gemmStores : ∃ (run : RunCmd) (s : State),
    s.runningOp 1 .gemm = some run ∧ (s.gemmPass run.cmd).m ≠ 0 ∧ (s.gemmPass run.cmd).n ≠ 0 ∧ (s.gemmPass run.cmd).k
      ≠ 0 ∧ (s.gemmPass run.cmd).out ≠ 3 ∧ s.dense.waiting = [] ∧ ¬ (s.aborting 1 = true ∧ s.dense.blocks ≠ 0) :=
  ⟨run 0x20 [(8, 4, 0x4000), (12, 4, 0x5000), (16, 4, 0x6000), (20, 2, 65), (22, 2, 1), (24, 2, 1)], { ran
    1 0x20 [(8, 4, 0x4000), (12, 4, 0x5000), (16, 4, 0x6000), (20, 2, 65), (22, 2, 1), (24, 2, 1)] with mem :=
                                                                                                          Memory.writeBytes
                                                                                                          [] 0x4000
                                                                                                          [0x80, 0x3F]
                                                                                                          },
    by decide +kernel⟩

theorem witness_DenseCommands_gemmEmits : ∃ (run : RunCmd) (s : State),
    s.runningOp 1 .gemm = some run ∧ (s.gemmPass run.cmd).m ≠ 0 ∧ (s.gemmPass run.cmd).n ≠ 0 ∧ (s.gemmPass run.cmd).k
      ≠ 0 ∧ (s.gemmPass run.cmd).out = 3 ∧ (s.dense.blocks ≠ 0 ∨ s.mapOk (s.gemmPass run.cmd) = true) ∧ s.streamOpen =
      true ∧ s.dense.waiting = [] ∧ ¬ (s.aborting 1 = true ∧ s.dense.blocks ≠ 0) :=
  ⟨run 0x20 [(8, 4, 0x4000), (12, 4, 0x5000), (16, 4, 0x6000), (20, 2, 1), (22, 2, 1), (24, 2, 1), (27, 1, 3)],
    { ran 1 0x20 [(8, 4, 0x4000), (12, 4, 0x5000), (16, 4, 0x6000), (20, 2, 1), (22, 2, 1), (24, 2, 1), (27, 1,
    3)] with fabric := { windowOpen := true } }, by decide +kernel⟩

theorem witness_DenseCommands_gemmInjects : ∃ (run : RunCmd) (s : State),
    s.runningOp 1 .gemm = some run ∧ (s.gemmPass run.cmd).m ≠ 0 ∧ (s.gemmPass run.cmd).n ≠ 0 ∧ (s.gemmPass run.cmd).k
      ≠ 0 ∧ (s.gemmPass run.cmd).out = 3 ∧ (s.dense.blocks ≠ 0 ∨ s.mapOk (s.gemmPass run.cmd) = true) ∧ s.streamOpen =
      true ∧ s.dense.waiting ≠ [] :=
  ⟨run 0x20 [(8, 4, 0x4000), (12, 4, 0x5000), (16, 4, 0x6000), (20, 2, 1), (22, 2, 1), (24, 2, 1), (27, 1, 3)],
    { ran 1 0x20 [(8, 4, 0x4000), (12, 4, 0x5000), (16, 4, 0x6000), (20, 2, 1), (22, 2, 1), (24, 2, 1), (27, 1,
    3)] with fabric := { windowOpen := true }, dense := { blocks := 1, waiting := [{ word := 1 }] } },
    by decide +kernel⟩

theorem witness_DenseCommands_gemmWaits : ∃ (run : RunCmd) (s : State),
    s.runningOp 1 .gemm = some run ∧ (s.gemmPass run.cmd).m ≠ 0 ∧ (s.gemmPass run.cmd).n ≠ 0 ∧ (s.gemmPass run.cmd).k
      ≠ 0 ∧ (s.gemmPass run.cmd).out = 3 ∧ (s.dense.blocks ≠ 0 ∨ s.mapOk (s.gemmPass run.cmd) = true) ∧ s.streamOpen =
      false ∧ ¬ (s.dense.waiting = [] ∧ s.aborting 1 = true) :=
  ⟨run 0x20 [(8, 4, 0x4000), (12, 4, 0x5000), (16, 4, 0x6000), (20, 2, 1), (22, 2, 1), (24, 2, 1), (27, 1, 3)],
    ran 1 0x20 [(8, 4, 0x4000), (12, 4, 0x5000), (16, 4, 0x6000), (20, 2, 1), (22, 2, 1), (24, 2, 1), (27, 1,
    3)], by decide +kernel⟩

theorem witness_DenseCommands_gemmMapFails : ∃ (run : RunCmd) (s : State),
    s.runningOp 1 .gemm = some run ∧ (s.gemmPass run.cmd).m ≠ 0 ∧ (s.gemmPass run.cmd).n ≠ 0 ∧ (s.gemmPass run.cmd).k
      ≠ 0 ∧ (s.gemmPass run.cmd).out = 3 ∧ s.dense.blocks = 0 ∧ s.mapOk (s.gemmPass run.cmd) = false :=
  ⟨run 0x20 [(8, 4, 0x4000), (12, 4, 0x5000), (16, 4, 0x6000), (20, 2, 1), (22, 2, 1), (24, 2, 1), (27, 1, 3)],
    { ran 1 0x20 [(8, 4, 0x4000), (12, 4, 0x5000), (16, 4, 0x6000), (20, 2, 1), (22, 2, 1), (24, 2, 1), (27, 1,
    3)] with mem := Memory.writeBytes [] 0x6000 [0, 0, 0, 0, 0, 0, 0xFF, 0xFF] }, by decide +kernel⟩

theorem witness_DenseCommands_gemmAborted : ∃ (run : RunCmd) (s : State),
    s.runningOp 1 .gemm = some run ∧ (s.gemmPass run.cmd).m ≠ 0 ∧ (s.gemmPass run.cmd).n ≠ 0 ∧ (s.gemmPass run.cmd).k
      ≠ 0 ∧ s.dense.waiting = [] ∧ s.aborting 1 = true ∧ s.dense.blocks ≠ 0 :=
  ⟨run 0x20 [(8, 4, 0x4000), (12, 4, 0x5000), (16, 4, 0x6000), (20, 2, 65), (22, 2, 1), (24, 2, 1)], { ran
    1 0x20 [(8, 4, 0x4000), (12, 4, 0x5000), (16, 4, 0x6000), (20, 2, 65), (22, 2, 1), (24, 2, 1)] with dense := {
                                                                                                          blocks := 1
                                                                                                            }, engines
                                                                                                          := [(1, {
                                                                                                          running :=
                                                                                                            some
                                                                                                            (run
                                                                                                            0x20 [(8,
                                                                                                            4,
                                                                                                            0x4000),
                                                                                                            (12, 4,
                                                                                                            0x5000),
                                                                                                            (16, 4,
                                                                                                            0x6000),
                                                                                                            (20, 2,
                                                                                                            65), (22,
                                                                                                            2, 1),
                                                                                                            (24, 2,
                                                                                                            1)]), st
                                                                                                            :=
                                                                                                            .aborting
                                                                                                            })] },
    by decide +kernel⟩

theorem witness_DenseCommands_gemmEmpty : ∃ (run : RunCmd) (s : State),
    s.runningOp 1 .gemm = some run ∧ ((s.gemmPass run.cmd).m = 0 ∨ (s.gemmPass run.cmd).n = 0 ∨ (s.gemmPass run.cmd).k
      = 0) :=
  ⟨run 0x20 [(20, 2, 1)], ran 1 0x20 [(20, 2, 1)], by decide +kernel⟩

theorem witness_DenseCommands_convStores : ∃ (run : RunCmd) (s : State),
    s.runningOp 1 .conv = some run ∧ (let x := (convShape run.cmd); x.h ≠ 0 ∧ x.w ≠ 0 ∧ x.cin ≠ 0 ∧ x.cout ≠ 0 ∧ x.kh
      ≠ 0 ∧ x.kw ≠ 0 ∧ x.ho ≠ 0 ∧ x.wo ≠ 0 ∧ x.kh * x.kw * x.cin ≤ 65535) ∧ (s.convPass run.cmd).out ≠ 3 ∧
      s.dense.waiting = [] ∧ ¬ (s.aborting 1 = true ∧ s.dense.blocks ≠ 0) :=
  ⟨run 0x21 [(8, 4, 0x4000), (12, 4, 0x5000), (16, 4, 0x6000), (20, 2, 2), (22, 2, 2), (24, 2, 1), (26, 2, 1),
    (28, 3, 0x22)], { ran 1 0x21 [(8, 4, 0x4000), (12, 4, 0x5000), (16, 4, 0x6000), (20, 2, 2), (22, 2, 2), (24,
    2, 1), (26, 2, 1), (28, 3, 0x22)] with mem := Memory.writeBytes [] 0x4000 [0x80, 0x3F] }, by decide +kernel⟩

theorem witness_DenseCommands_convEmits : ∃ (run : RunCmd) (s : State),
    s.runningOp 1 .conv = some run ∧ (let x := (convShape run.cmd); x.h ≠ 0 ∧ x.w ≠ 0 ∧ x.cin ≠ 0 ∧ x.cout ≠ 0 ∧ x.kh
      ≠ 0 ∧ x.kw ≠ 0 ∧ x.ho ≠ 0 ∧ x.wo ≠ 0 ∧ x.kh * x.kw * x.cin ≤ 65535) ∧ (s.convPass run.cmd).out = 3 ∧
      (s.dense.blocks ≠ 0 ∨ s.mapOk (s.convPass run.cmd) = true) ∧ s.streamOpen = true ∧ s.dense.waiting = [] ∧ ¬
      (s.aborting 1 = true ∧ s.dense.blocks ≠ 0) :=
  ⟨run 0x21 [(8, 4, 0x4000), (12, 4, 0x5000), (16, 4, 0x6000), (20, 2, 1), (22, 2, 1), (24, 2, 1), (26, 2, 1),
    (28, 3, 0x30011)], { ran 1 0x21 [(8, 4, 0x4000), (12, 4, 0x5000), (16, 4, 0x6000), (20, 2, 1), (22, 2, 1),
    (24, 2, 1), (26, 2, 1), (28, 3, 0x30011)] with fabric := { windowOpen := true } }, by decide +kernel⟩

theorem witness_DenseCommands_convInjects : ∃ (run : RunCmd) (s : State),
    s.runningOp 1 .conv = some run ∧ (let x := (convShape run.cmd); x.h ≠ 0 ∧ x.w ≠ 0 ∧ x.cin ≠ 0 ∧ x.cout ≠ 0 ∧ x.kh
      ≠ 0 ∧ x.kw ≠ 0 ∧ x.ho ≠ 0 ∧ x.wo ≠ 0 ∧ x.kh * x.kw * x.cin ≤ 65535) ∧ (s.convPass run.cmd).out = 3 ∧
      (s.dense.blocks ≠ 0 ∨ s.mapOk (s.convPass run.cmd) = true) ∧ s.streamOpen = true ∧ s.dense.waiting ≠ [] :=
  ⟨run 0x21 [(8, 4, 0x4000), (12, 4, 0x5000), (16, 4, 0x6000), (20, 2, 1), (22, 2, 1), (24, 2, 1), (26, 2, 1),
    (28, 3, 0x30011)], { ran 1 0x21 [(8, 4, 0x4000), (12, 4, 0x5000), (16, 4, 0x6000), (20, 2, 1), (22, 2, 1),
    (24, 2, 1), (26, 2, 1), (28, 3, 0x30011)] with fabric := { windowOpen := true }, dense := { blocks := 1, waiting
                                                                                                  := [{ word := 1 }] }
                                                     }, by decide +kernel⟩

theorem witness_DenseCommands_convWaits : ∃ (run : RunCmd) (s : State),
    s.runningOp 1 .conv = some run ∧ (let x := (convShape run.cmd); x.h ≠ 0 ∧ x.w ≠ 0 ∧ x.cin ≠ 0 ∧ x.cout ≠ 0 ∧ x.kh
      ≠ 0 ∧ x.kw ≠ 0 ∧ x.ho ≠ 0 ∧ x.wo ≠ 0 ∧ x.kh * x.kw * x.cin ≤ 65535) ∧ (s.convPass run.cmd).out = 3 ∧
      (s.dense.blocks ≠ 0 ∨ s.mapOk (s.convPass run.cmd) = true) ∧ s.streamOpen = false ∧ ¬ (s.dense.waiting = [] ∧
      s.aborting 1 = true) :=
  ⟨run 0x21 [(8, 4, 0x4000), (12, 4, 0x5000), (16, 4, 0x6000), (20, 2, 1), (22, 2, 1), (24, 2, 1), (26, 2, 1),
    (28, 3, 0x30011)], ran 1 0x21 [(8, 4, 0x4000), (12, 4, 0x5000), (16, 4, 0x6000), (20, 2, 1), (22, 2, 1),
    (24, 2, 1), (26, 2, 1), (28, 3, 0x30011)], by decide +kernel⟩

theorem witness_DenseCommands_convMapFails : ∃ (run : RunCmd) (s : State),
    s.runningOp 1 .conv = some run ∧ (let x := (convShape run.cmd); x.h ≠ 0 ∧ x.w ≠ 0 ∧ x.cin ≠ 0 ∧ x.cout ≠ 0 ∧ x.kh
      ≠ 0 ∧ x.kw ≠ 0 ∧ x.ho ≠ 0 ∧ x.wo ≠ 0 ∧ x.kh * x.kw * x.cin ≤ 65535) ∧ (s.convPass run.cmd).out = 3 ∧
      s.dense.blocks = 0 ∧ s.mapOk (s.convPass run.cmd) = false :=
  ⟨run 0x21 [(8, 4, 0x4000), (12, 4, 0x5000), (16, 4, 0x6000), (20, 2, 1), (22, 2, 1), (24, 2, 1), (26, 2, 1),
    (28, 3, 0x30011)], { ran 1 0x21 [(8, 4, 0x4000), (12, 4, 0x5000), (16, 4, 0x6000), (20, 2, 1), (22, 2, 1),
    (24, 2, 1), (26, 2, 1), (28, 3, 0x30011)] with mem := Memory.writeBytes [] 0x6000 [0, 0, 0, 0, 0, 0, 0xFF, 0xFF]
                                                     }, by decide +kernel⟩

theorem witness_DenseCommands_convAborted : ∃ (run : RunCmd) (s : State),
    s.runningOp 1 .conv = some run ∧ (let x := (convShape run.cmd); x.h ≠ 0 ∧ x.w ≠ 0 ∧ x.cin ≠ 0 ∧ x.cout ≠ 0 ∧ x.kh
      ≠ 0 ∧ x.kw ≠ 0 ∧ x.ho ≠ 0 ∧ x.wo ≠ 0 ∧ x.kh * x.kw * x.cin ≤ 65535) ∧ s.dense.waiting = [] ∧ s.aborting 1 = true
      ∧ s.dense.blocks ≠ 0 :=
  ⟨run 0x21 [(8, 4, 0x4000), (12, 4, 0x5000), (16, 4, 0x6000), (20, 2, 2), (22, 2, 2), (24, 2, 1), (26, 2, 1),
    (28, 3, 0x22)], { ran 1 0x21 [(8, 4, 0x4000), (12, 4, 0x5000), (16, 4, 0x6000), (20, 2, 2), (22, 2, 2), (24,
    2, 1), (26, 2, 1), (28, 3, 0x22)] with dense := { blocks := 1 }, engines := [(1, { running := some (run 0x21
                                                                                         [(8, 4, 0x4000), (12, 4,
                                                                                         0x5000), (16, 4, 0x6000),
                                                                                         (20, 2, 2), (22, 2, 2), (24,
                                                                                         2, 1), (26, 2, 1), (28, 3,
                                                                                         0x22)]), st := .aborting })]
                                             }, by decide +kernel⟩

theorem witness_DenseCommands_convEmpty : ∃ (run : RunCmd) (s : State),
    s.runningOp 1 .conv = some run ∧ (let x := (convShape run.cmd); x.h = 0 ∨ x.w = 0 ∨ x.cin = 0 ∨ x.cout = 0 ∨ x.kh
      = 0 ∨ x.kw = 0 ∨ x.ho = 0 ∨ x.wo = 0 ∨ 65535 < x.kh * x.kw * x.cin) :=
  ⟨run 0x21 [(20, 2, 1)], ran 1 0x21 [(20, 2, 1)], by decide +kernel⟩

theorem witness_MoverAndCensusCommands_move : ∃ (run : RunCmd) (s : State),
    s.runningOp 2 .move = some run ∧ (s.moved.bytes ≠ 0 ∨ (¬ (entryField run.cmd 8 8 < entryField run.cmd 16 8 +
      entryField run.cmd 24 4 ∧ entryField run.cmd 16 8 < entryField run.cmd 8 8 + entryField run.cmd 24 4) ∧
      s.moverPath (entryField run.cmd 28 1) (entryField run.cmd 8 8) (entryField run.cmd 16 8) = true)) ∧
      (s.moved.bytes = 0 ∨ s.aborting 2 = false) :=
  ⟨run 48 [(8, 8, 0x4100), (16, 8, 0x4180), (24, 4, 128)], { ran 2 48 [(8, 8, 0x4100), (16, 8, 0x4180),
    (24, 4, 128)] with slots0 := [(256 * (7 * 5 + 5), 0x3D)], mem := Memory.writeBytes [] 0x4140 [1, 2, 3] },
    by decide +kernel⟩

theorem witness_MoverAndCensusCommands_moveOverlaps : ∃ (run : RunCmd) (s : State),
    s.runningOp 2 .move = some run ∧ s.moved.bytes = 0 ∧ entryField run.cmd 8 8 < entryField run.cmd 16 8 + entryField
      run.cmd 24 4 ∧ entryField run.cmd 16 8 < entryField run.cmd 8 8 + entryField run.cmd 24 4 :=
  ⟨run 48 [(8, 8, 0x4100), (16, 8, 0x4108), (24, 4, 16)], ran 2 48 [(8, 8, 0x4100), (16, 8, 0x4108), (24,
    4, 16)], by decide +kernel⟩

theorem witness_MoverAndCensusCommands_moveNoPath : ∃ (run : RunCmd) (s : State),
    s.runningOp 2 .move = some run ∧ s.moved.bytes = 0 ∧ ¬ (entryField run.cmd 8 8 < entryField run.cmd 16 8 +
      entryField run.cmd 24 4 ∧ entryField run.cmd 16 8 < entryField run.cmd 8 8 + entryField run.cmd 24 4) ∧
      s.moverPath (entryField run.cmd 28 1) (entryField run.cmd 8 8) (entryField run.cmd 16 8) = false :=
  ⟨run 48 [(8, 8, 0x4100), (16, 8, 0x4200), (24, 4, 16)], ran 2 48 [(8, 8, 0x4100), (16, 8, 0x4200), (24,
    4, 16)], by decide +kernel⟩

theorem witness_MoverAndCensusCommands_moveAborted : ∃ (run : RunCmd) (s : State),
    s.runningOp 2 .move = some run ∧ s.moved.bytes ≠ 0 ∧ s.aborting 2 = true :=
  ⟨run 48 [(24, 4, 8192)], { ran 2 48 [(24, 4, 8192)] with moved := { bytes := 4096 }, engines := [(2, {
                                                                         running := some (run 0x30 [(24, 4,
                                                                           8192)]), st := .aborting })] },
    by decide +kernel⟩

theorem witness_MoverAndCensusCommands_fill : ∃ (run : RunCmd) (s : State),
    s.runningOp 2 .fill = some run ∧ (s.moved.bytes ≠ 0 ∨ s.fillPath (entryField run.cmd 20 1) (entryField run.cmd 8
      8) = true) ∧ (s.moved.bytes = 0 ∨ s.aborting 2 = false) :=
  ⟨run 49 [(8, 8, 0x4100), (16, 4, 72), (24, 8, 0x0102030405060708)], { ran 2 49 [(8, 8, 0x4100), (16, 4,
    72), (24, 8, 0x0102030405060708)] with slots0 := [(256 * (7 * 5 + 5), 0x3D)] }, by decide +kernel⟩

theorem witness_MoverAndCensusCommands_fillNoPath : ∃ (run : RunCmd) (s : State),
    s.runningOp 2 .fill = some run ∧ s.moved.bytes = 0 ∧ s.fillPath (entryField run.cmd 20 1) (entryField run.cmd 8 8)
      = false :=
  ⟨run 49 [(8, 8, 0x4100), (16, 4, 72)], ran 2 49 [(8, 8, 0x4100), (16, 4, 72)], by decide +kernel⟩

theorem witness_MoverAndCensusCommands_fillAborted : ∃ (run : RunCmd) (s : State),
    s.runningOp 2 .fill = some run ∧ s.moved.bytes ≠ 0 ∧ s.aborting 2 = true :=
  ⟨run 49 [(16, 4, 8192)], { ran 2 49 [(16, 4, 8192)] with moved := { bytes := 4096 }, engines := [(2, {
                                                                         running := some (run 0x31 [(16, 4,
                                                                           8192)]), st := .aborting })] },
    by decide +kernel⟩

theorem witness_MoverAndCensusCommands_groupDef : ∃ (run : RunCmd) (s : State),
    s.runningOp 4 .groupDef = some run ∧ s.groupDefOk run.cmd = true :=
  ⟨run 80 [(8, 1, 7), (9, 1, 1), (14, 2, 1), (16, 4, 0x200000), (20, 2, 4), (22, 2, 1)], { ran 4 80 [(8,
    1, 7), (9, 1, 1), (14, 2, 1), (16, 4, 0x200000), (20, 2, 4), (22, 2, 1)] with tiles := [(0, { map := { n := 1 }
                                                                                                    })], windows :=
                                                                                    [(32, { base := 0x200000, log2size
                                                                                              := 12, mode := .append
                                                                                              })] },
    by decide +kernel⟩

theorem witness_MoverAndCensusCommands_groupDefBad : ∃ (run : RunCmd) (s : State),
    s.runningOp 4 .groupDef = some run ∧ s.groupDefOk run.cmd = false :=
  ⟨run 80 [], ran 4 80 [], by decide +kernel⟩

theorem witness_MoverAndCensusCommands_groupClear : ∃ (run : RunCmd) (s : State),
    s.runningOp 4 .groupClear = some run :=
  ⟨run 81 [(8, 1, 7)], ran 4 81 [(8, 1, 7)], by decide +kernel⟩

theorem witness_MoverAndCensusCommands_tilestat : ∃ (run : RunCmd) (s : State),
    s.runningOp 4 .tilestat = some run :=
  ⟨run 82 [(8, 4, 0x4000)], ran 4 82 [(8, 4, 0x4000)], by decide +kernel⟩

theorem witness_IntakeCommands_mapLoad : ∃ (run : RunCmd) (s : State),
    s.runningOp 3 .mapLoad = some run ∧ s.reg (Reg.PORT_STATE (entryField run.cmd 8 1)) = 0 ∧ s.mapBad (entryField
      run.cmd 8 1) (entryField run.cmd 9 1) (s.bytes (entryField run.cmd 12 4) (entryField run.cmd 16 4)) = none :=
  ⟨run 64 [(8, 1, 4), (9, 1, 1), (12, 4, 0x4000), (16, 4, 144)], { ran 3 64 [(8, 1, 4), (9, 1, 1), (12, 4,
    0x4000), (16, 4, 144)] with mem := Memory.writeBytes [] 0x4000 [1, 4] }, by decide +kernel⟩

theorem witness_IntakeCommands_mapRejected : ∃ (k : Nat) (run : RunCmd) (s : State),
    s.runningOp 3 .mapLoad = some run ∧ s.reg (Reg.PORT_STATE (entryField run.cmd 8 1)) = 0 ∧ s.mapBad (entryField
      run.cmd 8 1) (entryField run.cmd 9 1) (s.bytes (entryField run.cmd 12 4) (entryField run.cmd 16 4)) = some k ∧
      (entryField run.cmd 9 1 = 1 ∨ entryField run.cmd 9 1 = 0 ∧ entryField run.cmd 8 1 < 4) :=
  ⟨0, run 64 [(8, 1, 3), (9, 1, 0), (12, 4, 0x4000), (16, 4, 32)], ran 3 64 [(8, 1, 3), (9, 1, 0), (12, 4,
    0x4000), (16, 4, 32)], by decide +kernel⟩

theorem witness_IntakeCommands_graphRejected : ∃ (k : Nat) (run : RunCmd) (s : State),
    s.runningOp 3 .mapLoad = some run ∧ s.reg (Reg.PORT_STATE (entryField run.cmd 8 1)) = 0 ∧ s.mapBad (entryField
      run.cmd 8 1) (entryField run.cmd 9 1) (s.bytes (entryField run.cmd 12 4) (entryField run.cmd 16 4)) = some k ∧ ¬
      (entryField run.cmd 9 1 = 1 ∨ entryField run.cmd 9 1 = 0 ∧ entryField run.cmd 8 1 < 4) :=
  ⟨0, run 64 [(8, 1, 5), (9, 1, 0), (12, 4, 0x4000), (16, 4, 32)], ran 3 64 [(8, 1, 5), (9, 1, 0), (12, 4,
    0x4000), (16, 4, 32)], by decide +kernel⟩

theorem witness_IntakeCommands_mapRefused : ∃ (run : RunCmd) (s : State),
    s.runningOp 3 .mapLoad = some run ∧ s.reg (Reg.PORT_STATE (entryField run.cmd 8 1)) ≠ 0 :=
  ⟨run 64 [(8, 1, 5)], { ran 3 64 [(8, 1, 5)] with regs := [((Reg.PORT_STATE 5).key, 1)] },
    by decide +kernel⟩

theorem witness_IntakeCommands_arm : ∃ (bw : Nat × Nat) (run : RunCmd) (s : State),
    s.runningOp 3 .arm = some run ∧ s.skid (entryField run.cmd 8 1) = some bw ∧ s.harnessLoaded = true ∧ (if
      entryField run.cmd 8 1 < 4 then (s.port (entryField run.cmd 8 1)).decodeMap.isSome && (s.port (entryField
      run.cmd 8 1)).intakeMap.isSome else (s.port (entryField run.cmd 8 1)).graph.isNone || (s.port (entryField
      run.cmd 8 1)).intakeMap.isSome) = true ∧ s.reg (Reg.STOP_BYTES (entryField run.cmd 8 1)) < (s.window bw.1
      bw.2).size :=
  ⟨(1, 0), run 65 [(8, 1, 4)], { ran 3 65 [(8, 1, 4)] with regs := Assoc.set Reg.HARNESS_STATE.key 2
                                                                         [((Reg.SKID_BASE 4).key, 0x200000)], windows
                                                                         := [(32, { base := 0x200000, log2size := 21,
                                                                                      mode := .append })] },
    by decide +kernel⟩

theorem witness_IntakeCommands_armRefused : ∃ (run : RunCmd) (s : State),
    s.runningOp 3 .arm = some run ∧ (s.skid (entryField run.cmd 8 1) = none ∨ s.harnessLoaded = false ∨ (if entryField
      run.cmd 8 1 < 4 then (s.port (entryField run.cmd 8 1)).decodeMap.isSome && (s.port (entryField run.cmd 8
      1)).intakeMap.isSome else (s.port (entryField run.cmd 8 1)).graph.isNone || (s.port (entryField run.cmd 8
      1)).intakeMap.isSome) = false) :=
  ⟨run 65 [(8, 1, 4)], ran 3 65 [(8, 1, 4)], by decide +kernel⟩

theorem witness_IntakeCommands_armSmall : ∃ (bw : Nat × Nat) (run : RunCmd) (s : State),
    s.runningOp 3 .arm = some run ∧ s.skid (entryField run.cmd 8 1) = some bw ∧ s.harnessLoaded = true ∧ (if
      entryField run.cmd 8 1 < 4 then (s.port (entryField run.cmd 8 1)).decodeMap.isSome && (s.port (entryField
      run.cmd 8 1)).intakeMap.isSome else (s.port (entryField run.cmd 8 1)).graph.isNone || (s.port (entryField
      run.cmd 8 1)).intakeMap.isSome) = true ∧ (s.window bw.1 bw.2).size ≤ s.reg (Reg.STOP_BYTES (entryField run.cmd 8
      1)) :=
  ⟨(1, 0), run 65 [(8, 1, 4)], { ran 3 65 [(8, 1, 4)] with regs := Assoc.set Reg.HARNESS_STATE.key 2
                                                                         [((Reg.SKID_BASE 4).key, 0x200000),
                                                                         ((Reg.STOP_BYTES 4).key, 0x200000)], windows
                                                                         := [(32, { base := 0x200000, log2size := 21,
                                                                                      mode := .append })] },
    by decide +kernel⟩

theorem witness_IntakeCommands_disarm : ∃ (run : RunCmd) (s : State),
    s.runningOp 3 .disarm = some run ∧ (entryField run.cmd 9 1 = 1 ∨ s.skidFill (entryField run.cmd 8 1) = 0) :=
  ⟨run 66 [(8, 1, 4), (9, 1, 1)], { ran 3 66 [(8, 1, 4), (9, 1, 1)] with regs := [((Reg.PORT_STATE 4).key,
                                                                                       1)] }, by decide +kernel⟩

theorem witness_IntakeCommands_disarmWaits : ∃ (run : RunCmd) (s : State),
    s.runningOp 3 .disarm = some run ∧ entryField run.cmd 9 1 ≠ 1 ∧ s.skidFill (entryField run.cmd 8 1) ≠ 0 ∧ s.reg
      (Reg.PORT_STATE (entryField run.cmd 8 1)) = 1 :=
  ⟨run 66 [(8, 1, 4)], { ran 3 66 [(8, 1, 4)] with regs := [((Reg.PORT_STATE 4).key, 1), ((Reg.SKID_BASE
                                                                 4).key, 0x200000)], windows := [(32, { base :=
                                                                                                          0x200000,
                                                                                                          log2size :=
                                                                                                          21, mode :=
                                                                                                          .append, wr
                                                                                                          := 16 })] },
    by decide +kernel⟩

theorem witness_IntakeCommands_disarmGoesOn : ∃ (run : RunCmd) (s : State),
    s.runningOp 3 .disarm = some run ∧ entryField run.cmd 9 1 ≠ 1 ∧ s.skidFill (entryField run.cmd 8 1) ≠ 0 ∧ s.reg
      (Reg.PORT_STATE (entryField run.cmd 8 1)) ≠ 1 :=
  ⟨run 66 [(8, 1, 4)], { ran 3 66 [(8, 1, 4)] with regs := [((Reg.PORT_STATE 4).key, 2), ((Reg.SKID_BASE
                                                                 4).key, 0x200000)], windows := [(32, { base :=
                                                                                                          0x200000,
                                                                                                          log2size :=
                                                                                                          21, mode :=
                                                                                                          .append, wr
                                                                                                          := 16 })] },
    by decide +kernel⟩

theorem witness_CryptoCommands_gcmSeal : ∃ (key : Nat) (run : RunCmd) (s : State),
    s.runningOp 5 .gcmSeal = some run ∧ s.keyFor run.queue (entryField run.cmd 8 2) .gcmSeal = some key :=
  ⟨9, { run 96 [(8, 2, 0x803F), (12, 4, 0x4000), (16, 4, 0x5000), (20, 4, 16), (24, 2, 4)] with queue := 40 }, {
    ran 5 96 [(8, 2, 0x803F), (12, 4, 0x4000), (16, 4, 0x5000), (20, 4, 16), (24, 2, 4)] with engines := [(5, {
                                                                                                      running := some
                                                                                                        { run 96
                                                                                                        [(8, 2,
                                                                                                        0x803F), (12,
                                                                                                        4, 0x4000),
                                                                                                        (16, 4,
                                                                                                        0x5000), (20,
                                                                                                        4, 16), (24,
                                                                                                        2, 4)] with
                                                                                                        queue := 40 }
                                                                                                        })], security
                                                                                                      := { keys :=
                                                                                                             [(0x803F,
                                                                                                             9)] } },
    by decide +kernel⟩

theorem witness_CryptoCommands_gcmOpen : ∃ (key : Nat) (run : RunCmd) (s : State),
    s.runningOp 5 .gcmOpen = some run ∧ s.keyFor run.queue (entryField run.cmd 8 2) .gcmOpen = some key :=
  ⟨9, { run 97 [(8, 2, 0x8000), (12, 4, 0x4000), (16, 4, 0x5000), (20, 4, 16)] with queue := 40 }, { ran 5
    97 [(8, 2, 0x8000), (12, 4, 0x4000), (16, 4, 0x5000), (20, 4, 16)] with engines := [(5, { running := some {
                                                                                                run 97 [(8, 2,
                                                                                                0x8000), (12, 4,
                                                                                                0x4000), (16, 4,
                                                                                                0x5000), (20, 4, 16)]
                                                                                                with queue := 40 }
                                                                                                })], security := {
                                                                              keys := [(0x8000, 9)] } },
    by decide +kernel⟩

theorem witness_CryptoCommands_sha384 : ∃ (run : RunCmd) (s : State),
    s.runningOp 5 .sha384 = some run ∧ handleBarred run.queue (entryField run.cmd 8 2) .sha384 = false :=
  ⟨{ run 98 [(12, 4, 0x4000), (16, 4, 0x5000), (20, 4, 3)] with queue := 40 }, { ran 5 98 [(12, 4,
    0x4000), (16, 4, 0x5000), (20, 4, 3)] with engines := [(5, { running := some { run 98 [(12, 4, 0x4000), (16,
                                                                   4, 0x5000), (20, 4, 3)] with queue := 40 } })] },
    by decide +kernel⟩

theorem witness_CryptoCommands_ecdsaSign : ∃ (key : Nat) (run : RunCmd) (s : State),
    s.runningOp 5 .ecdsaSign = some run ∧ s.keyFor run.queue (entryField run.cmd 8 2) .ecdsaSign = some key :=
  ⟨9, { run 99 [(8, 2, 3), (12, 4, 0x4000), (16, 4, 0x5000)] with queue := 32512 }, { ran 5 99 [(8, 2, 3),
    (12, 4, 0x4000), (16, 4, 0x5000)] with engines := [(5, { running := some { run 99 [(8, 2, 3), (12, 4,
                                                               0x4000), (16, 4, 0x5000)] with queue := 32512 } })],
                                             security := { keys := [(3, 9)] } }, by decide +kernel⟩

theorem witness_CryptoCommands_ecdsaVerify : ∃ (run : RunCmd) (s : State),
    s.runningOp 5 .ecdsaVerify = some run ∧ handleBarred run.queue (entryField run.cmd 8 2) .ecdsaVerify = false :=
  ⟨{ run 100 [(12, 4, 0x4000)] with queue := 32512 }, { ran 5 100 [(12, 4, 0x4000)] with engines := [(5, {
                                                                                                       running := some
                                                                                                         { run
                                                                                                         100 [(12, 4,
                                                                                                         0x4000)] with
                                                                                                         queue :=
                                                                                                           32512 } })]
                                                                                                       },
    by decide +kernel⟩

theorem witness_CryptoCommands_xtsKeyset : ∃ (key : Nat) (run : RunCmd) (s : State),
    s.runningOp 5 .xtsKeyset = some run ∧ s.keyFor run.queue (entryField run.cmd 8 2) .xtsKeyset = some key :=
  ⟨9, { run 101 [(8, 2, 0x11)] with queue := 32512 }, { ran 5 101 [(8, 2, 0x11)] with engines := [(5, {
                                                                                                    running := some {
                                                                                                      run 101
                                                                                                      [(8, 2, 0x11)]
                                                                                                      with queue :=
                                                                                                             32512 }
                                                                                                      })], security :=
                                                                                                    { keys := [(17,
                                                                                                        9)] } },
    by decide +kernel⟩

theorem witness_CryptoCommands_sealDenied : ∃ (run : RunCmd) (s : State),
    s.runningOp 5 .gcmSeal = some run ∧ s.keyFor run.queue (entryField run.cmd 8 2) .gcmSeal = none :=
  ⟨{ run 96 [(8, 2, 1)] with queue := 40 }, { ran 5 96 [(8, 2, 1)] with engines := [(5, { running := some
                                                                                                        { run 96
                                                                                                        [(8, 2, 1)]
                                                                                                        with queue :=
                                                                                                               40 }
                                                                                                        })] },
    by decide +kernel⟩

theorem witness_CryptoCommands_openDenied : ∃ (run : RunCmd) (s : State),
    s.runningOp 5 .gcmOpen = some run ∧ s.keyFor run.queue (entryField run.cmd 8 2) .gcmOpen = none :=
  ⟨{ run 97 [(8, 2, 1)] with queue := 40 }, { ran 5 97 [(8, 2, 1)] with engines := [(5, { running := some
                                                                                                        { run 97
                                                                                                        [(8, 2, 1)]
                                                                                                        with queue :=
                                                                                                               40 }
                                                                                                        })] },
    by decide +kernel⟩

theorem witness_CryptoCommands_signDenied : ∃ (run : RunCmd) (s : State),
    s.runningOp 5 .ecdsaSign = some run ∧ s.keyFor run.queue (entryField run.cmd 8 2) .ecdsaSign = none :=
  ⟨{ run 99 [(8, 2, 3)] with queue := 40 }, { ran 5 99 [(8, 2, 3)] with engines := [(5, { running := some
                                                                                                        { run 99
                                                                                                        [(8, 2, 3)]
                                                                                                        with queue :=
                                                                                                               40 }
                                                                                                        })] },
    by decide +kernel⟩

theorem witness_CryptoCommands_keysetDenied : ∃ (run : RunCmd) (s : State),
    s.runningOp 5 .xtsKeyset = some run ∧ s.keyFor run.queue (entryField run.cmd 8 2) .xtsKeyset = none :=
  ⟨{ run 101 [(8, 2, 0x10)] with queue := 40 }, { ran 5 101 [(8, 2, 0x10)] with engines := [(5, { running
                                                                                                                :=
                                                                                                                some {
                                                                                                                run
                                                                                                                101
                                                                                                                [(8,
                                                                                                                2,
                                                                                                                0x10)]
                                                                                                                with
                                                                                                                queue
                                                                                                                  :=
                                                                                                                  40 }
                                                                                                                })] },
    by decide +kernel⟩

theorem witness_CryptoCommands_hashDenied : ∃ (run : RunCmd) (s : State),
    s.runningOp 5 .sha384 = some run ∧ handleBarred run.queue (entryField run.cmd 8 2) .sha384 = true :=
  ⟨{ run 98 [(8, 2, 1)] with queue := 40 }, { ran 5 98 [(8, 2, 1)] with engines := [(5, { running := some
                                                                                                        { run 98
                                                                                                        [(8, 2, 1)]
                                                                                                        with queue :=
                                                                                                               40 }
                                                                                                        })] },
    by decide +kernel⟩

theorem witness_CryptoCommands_verifyDenied : ∃ (run : RunCmd) (s : State),
    s.runningOp 5 .ecdsaVerify = some run ∧ handleBarred run.queue (entryField run.cmd 8 2) .ecdsaVerify = true :=
  ⟨{ run 100 [(8, 2, 3)] with queue := 40 }, { ran 5 100 [(8, 2, 3)] with engines := [(5, { running :=
                                                                                                          some {
                                                                                                          run
                                                                                                          100 [(8, 2,
                                                                                                          3)] with
                                                                                                          queue := 40
                                                                                                            } })] },
    by decide +kernel⟩

theorem witness_QueuePortWrites_push : ∃ (m : Master) (q : QueueId) (x : QueueSoft) (s : State) (u : State),
    s.queueSoft q.val x = u ∧ ¬ (m = .saddle ∧ isBridleQueue q.val = true) ∧ (u.queue q.val).mismatch = false ∧
      ((u.queue q.val).kind = .data ∨ (u.queue q.val).kind = .command) ∧ (u.queue q.val).qstate ≠ .unbound ∧ (u.queue
      q.val).qstate ≠ .closed ∧ mayProduce m q.val (u.queue q.val) = true ∧ (u.queue q.val).isFull = false :=
  ⟨.host, 3, .clean, { State.reset with queues := [(3, { kind := .data, log2n := 1, base := 0x1000, prod := 0x13, cons
                                                           := 0x13, qstate := .enabled, wpA := 1, wpB := 131070 })] },
    (({ State.reset with queues := [(3, { kind := .data, log2n := 1, base := 0x1000, prod := 0x13, cons := 0x13,
                                            qstate := .enabled, wpA := 1, wpB := 131070 })] }) : State).queueSoft 3
    .clean, by decide +kernel⟩

theorem witness_QueuePortWrites_pushFull : ∃ (m : Master) (q : QueueId) (x : QueueSoft) (s : State) (u : State),
    s.queueSoft q.val x = u ∧ ¬ (m = .saddle ∧ isBridleQueue q.val = true) ∧ (u.queue q.val).mismatch = false ∧
      ((u.queue q.val).kind = .data ∨ (u.queue q.val).kind = .command) ∧ (u.queue q.val).qstate ≠ .unbound ∧ (u.queue
      q.val).qstate ≠ .closed ∧ mayProduce m q.val (u.queue q.val) = true ∧ (u.queue q.val).isFull = true :=
  ⟨.host, 3, .clean, { State.reset with queues := [(3, { kind := .data, log2n := 1, base := 0x1000, prod := 0x13, cons
                                                           := 0x13, qstate := .enabled, wpA := 2, wpB := 131069 })] },
    (({ State.reset with queues := [(3, { kind := .data, log2n := 1, base := 0x1000, prod := 0x13, cons := 0x13,
                                            qstate := .enabled, wpA := 2, wpB := 131069 })] }) : State).queueSoft 3
    .clean, by decide +kernel⟩

theorem witness_QueuePortWrites_pushClosed : ∃ (m : Master) (q : QueueId) (x : QueueSoft) (s : State) (u : State),
    s.queueSoft q.val x = u ∧ ¬ (m = .saddle ∧ isBridleQueue q.val = true) ∧ (u.queue q.val).kind ≠ .combining ∧
      (u.queue q.val).kind ≠ .completion ∧ (u.queue q.val).qstate = .closed ∧ mayProduce m q.val (u.queue q.val) =
      true :=
  ⟨.host, 3, .binding, { State.reset with queues := [(3, { kind := .data, log2n := 1, base := 0x1000, prod := 0x13,
                                                             cons := 0x13, qstate := .enabled })] }, (({ State.reset
    with queues := [(3, { kind := .data, log2n := 1, base := 0x1000, prod := 0x13, cons := 0x13, qstate := .enabled
                            })] }) : State).queueSoft 3 .binding, by decide +kernel⟩

theorem witness_QueuePortWrites_pushDenied : ∃ (m : Master) (q : QueueId) (x : QueueSoft) (s : State) (u : State),
    s.queueSoft q.val x = u ∧ ¬ (m = .saddle ∧ isBridleQueue q.val = true) ∧ (u.queue q.val).kind ≠ .combining ∧
      (u.queue q.val).qstate ≠ .unbound ∧ mayProduce m q.val (u.queue q.val) = false :=
  ⟨.host, 3, .clean, { State.reset with queues := [(3, { kind := .data, log2n := 1, base := 0x1000, prod := 17, cons
                                                           := 0x13, qstate := .enabled })] }, (({ State.reset with
    queues := [(3, { kind := .data, log2n := 1, base := 0x1000, prod := 17, cons := 0x13, qstate := .enabled })] }) :
    State).queueSoft 3 .clean, by decide +kernel⟩

theorem witness_QueuePortWrites_pushRefused : ∃ (m : Master) (q : QueueId) (e : Entry) (st : Status) (x : QueueSoft) (s : State) (u : State),
    s.queueSoft q.val x = u ∧ u.pushCheck m q.val e = st ∧ st ≠ .ok ∧ st ≠ .full :=
  ⟨.host, 3, 77, .version, .clean, { State.reset with queues := [(3, { kind := .msgRep, log2n := 1, base := 0x1000,
                                                                         prod := 0x13, cons := 0x13, qstate :=
                                                                         .enabled })] }, (({ State.reset with queues
                                                                                                                :=
                                                                                                                [(3, {
                                                                                                                kind
                                                                                                                  :=
                                                                                                                  .msgRep,
                                                                                                                  log2n
                                                                                                                  :=
                                                                                                                  1,
                                                                                                                  base
                                                                                                                  :=
                                                                                                                  0x1000,
                                                                                                                  prod
                                                                                                                  :=
                                                                                                                  0x13,
                                                                                                                  cons
                                                                                                                  :=
                                                                                                                  0x13,
                                                                                                                  qstate
                                                                                                                  :=
                                                                                                                  .enabled
                                                                                                                  })]
                                                                                                                }) :
    State).queueSoft 3 .clean, by decide +kernel⟩

theorem witness_QueuePortWrites_pushReplyFull : ∃ (m : Master) (q : QueueId) (e : Entry) (x : QueueSoft) (s : State) (u : State),
    s.queueSoft q.val x = u ∧ u.pushCheck m q.val e = .full :=
  ⟨.host, 3, entryOf [(0, 1, 1), (16, 2, 4)], .clean, { State.reset with queues := [(3, { kind := .msgReq, log2n := 1,
                                                                                            base := 0x1000, prod :=
                                                                                            0x13, cons := 0x13, qstate
                                                                                            := .enabled }), (4, { kind
                                                                                                                    :=
                                                                                                                    .msgRep,
                                                                                                                    log2n
                                                                                                                    :=
                                                                                                                    1,
                                                                                                                    base
                                                                                                                    :=
                                                                                                                    0x1000,
                                                                                                                    prod
                                                                                                                    :=
                                                                                                                    0x13,
                                                                                                                    cons
                                                                                                                    :=
                                                                                                                    0x13,
                                                                                                                    qstate
                                                                                                                    :=
                                                                                                                    .enabled,
                                                                                                                    wpA
                                                                                                                    :=
                                                                                                                    2,
                                                                                                                    wpB
                                                                                                                    :=
                                                                                                                    131069
                                                                                                                    })]
                                                                           }, (({ State.reset with queues := [(3, {
                                                                                                     kind := .msgReq,
                                                                                                       log2n := 1,
                                                                                                       base := 0x1000,
                                                                                                       prod := 0x13,
                                                                                                       cons := 0x13,
                                                                                                       qstate :=
                                                                                                       .enabled }),
                                                                                                     (4, { kind :=
                                                                                                             .msgRep,
                                                                                                             log2n :=
                                                                                                             1, base
                                                                                                             :=
                                                                                                             0x1000,
                                                                                                             prod :=
                                                                                                             0x13,
                                                                                                             cons :=
                                                                                                             0x13,
                                                                                                             qstate :=
                                                                                                             .enabled,
                                                                                                             wpA := 2,
                                                                                                             wpB :=
                                                                                                             131069
                                                                                                             })] }) :
    State).queueSoft 3 .clean, by decide +kernel⟩

theorem witness_QueuePortWrites_pushStale : ∃ (m : Master) (q : QueueId) (e : Entry) (x : QueueSoft) (s : State) (u : State),
    s.queueSoft q.val x = u ∧ u.pushCheck m q.val e = .ok ∧ (u.queue q.val).mismatch = true :=
  ⟨.host, 3, 77, .pointers, { State.reset with queues := [(3, { kind := .data, log2n := 1, base := 0x1000, prod :=
                                                                  0x13, cons := 0x13, qstate := .enabled, wpA := 1,
                                                                  wpB := 131070 })] }, (({ State.reset with queues :=
                                                                                                              [(3, {
                                                                                                              kind :=
                                                                                                                .data,
                                                                                                                log2n
                                                                                                                := 1,
                                                                                                                base
                                                                                                                :=
                                                                                                                0x1000,
                                                                                                                prod
                                                                                                                :=
                                                                                                                0x13,
                                                                                                                cons
                                                                                                                :=
                                                                                                                0x13,
                                                                                                                qstate
                                                                                                                :=
                                                                                                                .enabled,
                                                                                                                wpA :=
                                                                                                                1, wpB
                                                                                                                :=
                                                                                                                131070
                                                                                                                })] })
    : State).queueSoft 3 .pointers, by decide +kernel⟩

theorem witness_QueuePortWrites_pushRequest : ∃ (m : Master) (q : QueueId) (e : Entry) (x : QueueSoft) (s : State) (u : State),
    s.queueSoft q.val x = u ∧ ¬ (m = .saddle ∧ isBridleQueue q.val = true) ∧ (u.queue q.val).mismatch = false ∧
      (u.queue q.val).kind = .msgReq ∧ (u.queue q.val).qstate ≠ .unbound ∧ (u.queue q.val).qstate ≠ .closed ∧
      mayProduce m q.val (u.queue q.val) = true ∧ u.descriptorCheck (u.queue q.val) e = .ok ∧ (u.queue q.val).isFull =
      false :=
  ⟨.host, 3, entryOf [(0, 1, 1), (16, 2, 4)], .clean, { State.reset with queues := [(3, { kind := .msgReq, log2n := 1,
                                                                                            base := 0x1000, prod :=
                                                                                            0x13, cons := 0x13, qstate
                                                                                            := .enabled }), (4, { kind
                                                                                                                    :=
                                                                                                                    .msgRep,
                                                                                                                    log2n
                                                                                                                    :=
                                                                                                                    1,
                                                                                                                    base
                                                                                                                    :=
                                                                                                                    0x2000,
                                                                                                                    prod
                                                                                                                    :=
                                                                                                                    0x13,
                                                                                                                    cons
                                                                                                                    :=
                                                                                                                    0x13,
                                                                                                                    qstate
                                                                                                                    :=
                                                                                                                    .enabled
                                                                                                                    })]
                                                                           }, (({ State.reset with queues := [(3, {
                                                                                                     kind := .msgReq,
                                                                                                       log2n := 1,
                                                                                                       base := 0x1000,
                                                                                                       prod := 0x13,
                                                                                                       cons := 0x13,
                                                                                                       qstate :=
                                                                                                       .enabled }),
                                                                                                     (4, { kind :=
                                                                                                             .msgRep,
                                                                                                             log2n :=
                                                                                                             1, base
                                                                                                             :=
                                                                                                             0x2000,
                                                                                                             prod :=
                                                                                                             0x13,
                                                                                                             cons :=
                                                                                                             0x13,
                                                                                                             qstate :=
                                                                                                             .enabled
                                                                                                             })] }) :
    State).queueSoft 3 .clean, by decide +kernel⟩

theorem witness_QueuePortWrites_pushReply : ∃ (m : Master) (q : QueueId) (e : Entry) (x : QueueSoft) (s : State) (u : State),
    s.queueSoft q.val x = u ∧ ¬ (m = .saddle ∧ isBridleQueue q.val = true) ∧ (u.queue q.val).mismatch = false ∧
      (u.queue q.val).kind = .msgRep ∧ (u.queue q.val).qstate ≠ .unbound ∧ (u.queue q.val).qstate ≠ .closed ∧
      mayProduce m q.val (u.queue q.val) = true ∧ u.descriptorCheck (u.queue q.val) e = .ok ∧ (u.queue q.val).resv ≠ 0 :=
  ⟨.host, 3, entryOf [(0, 1, 1), (1, 1, 1)], .clean, { State.reset with queues := [(3, { kind := .msgRep, log2n := 1,
                                                                                           base := 0x1000, prod :=
                                                                                           0x13, cons := 0x13, qstate
                                                                                           := .enabled, resv := 2 })]
                                                                          }, (({ State.reset with queues := [(3, {
                                                                                                    kind := .msgRep,
                                                                                                      log2n := 1, base
                                                                                                      := 0x1000, prod
                                                                                                      := 0x13, cons :=
                                                                                                      0x13, qstate :=
                                                                                                      .enabled, resv
                                                                                                      := 2 })] }) :
    State).queueSoft 3 .clean, by decide +kernel⟩

theorem witness_QueuePortWrites_pushUnreserved : ∃ (m : Master) (q : QueueId) (e : Entry) (x : QueueSoft) (s : State) (u : State),
    s.queueSoft q.val x = u ∧ ¬ (m = .saddle ∧ isBridleQueue q.val = true) ∧ (u.queue q.val).mismatch = false ∧
      (u.queue q.val).kind = .msgRep ∧ (u.queue q.val).qstate ≠ .unbound ∧ (u.queue q.val).qstate ≠ .closed ∧
      mayProduce m q.val (u.queue q.val) = true ∧ u.descriptorCheck (u.queue q.val) e = .ok ∧ (u.queue q.val).resv = 0
      ∧ (u.queue q.val).isFull = false :=
  ⟨.host, 3, entryOf [(0, 1, 1), (1, 1, 1)], .clean, { State.reset with queues := [(3, { kind := .msgRep, log2n := 1,
                                                                                           base := 0x1000, prod :=
                                                                                           0x13, cons := 0x13, qstate
                                                                                           := .enabled })] }, (({
    State.reset with queues := [(3, { kind := .msgRep, log2n := 1, base := 0x1000, prod := 0x13, cons := 0x13, qstate
                                        := .enabled })] }) : State).queueSoft 3 .clean, by decide +kernel⟩

theorem witness_QueuePortWrites_pushMessageFull : ∃ (m : Master) (q : QueueId) (e : Entry) (x : QueueSoft) (s : State) (u : State),
    s.queueSoft q.val x = u ∧ ¬ (m = .saddle ∧ isBridleQueue q.val = true) ∧ (u.queue q.val).mismatch = false ∧
      ((u.queue q.val).kind = .msgReq ∨ (u.queue q.val).kind = .msgRep ∧ (u.queue q.val).resv = 0) ∧ (u.queue
      q.val).qstate ≠ .unbound ∧ (u.queue q.val).qstate ≠ .closed ∧ mayProduce m q.val (u.queue q.val) = true ∧
      u.descriptorCheck (u.queue q.val) e = .ok ∧ (u.queue q.val).isFull = true :=
  ⟨.host, 3, entryOf [(0, 1, 1), (1, 1, 1)], .clean, { State.reset with queues := [(3, { kind := .msgRep, log2n := 1,
                                                                                           base := 0x1000, prod :=
                                                                                           0x13, cons := 0x13, qstate
                                                                                           := .enabled, wpA := 2, wpB
                                                                                           := 131069 })] }, (({
    State.reset with queues := [(3, { kind := .msgRep, log2n := 1, base := 0x1000, prod := 0x13, cons := 0x13, qstate
                                        := .enabled, wpA := 2, wpB := 131069 })] }) : State).queueSoft 3 .clean,
    by decide +kernel⟩

theorem witness_QueuePortWrites_consume : ∃ (m : Master) (q : QueueId) (n : BitVec 32) (x : QueueSoft) (s : State) (u : State),
    s.queueSoft q.val x = u ∧ ¬ (m = .saddle ∧ isBridleQueue q.val = true) ∧ (u.queue q.val).mismatch = false ∧
      ((u.queue q.val).kind = .data ∨ (u.queue q.val).kind = .completion ∨ (u.queue q.val).kind = .combining) ∧
      (u.queue q.val).qstate ≠ .unbound ∧ mayConsume m q.val (u.queue q.val) = true ∧ n.toNat ≠ 0 ∧ n.toNat ≤ (u.queue
      q.val).count ∧ (u.comb.any fun x => x.queue = q.val && amongOldest (u.queue q.val) x.slot n.toNat) = false :=
  ⟨.host, 3, 2, .clean, { State.reset with queues := [(3, { kind := .data, log2n := 1, base := 0x1000, prod := 0x13,
                                                              cons := 0x13, qstate := .enabled, wpA := 2, wpB :=
                                                              131069 })] }, (({ State.reset with queues := [(3, { kind
                                                                                                                    :=
                                                                                                                    .data,
                                                                                                                    log2n
                                                                                                                    :=
                                                                                                                    1,
                                                                                                                    base
                                                                                                                    :=
                                                                                                                    0x1000,
                                                                                                                    prod
                                                                                                                    :=
                                                                                                                    0x13,
                                                                                                                    cons
                                                                                                                    :=
                                                                                                                    0x13,
                                                                                                                    qstate
                                                                                                                    :=
                                                                                                                    .enabled,
                                                                                                                    wpA
                                                                                                                    :=
                                                                                                                    2,
                                                                                                                    wpB
                                                                                                                    :=
                                                                                                                    131069
                                                                                                                    })]
                                                                                                   }) :
    State).queueSoft 3 .clean, by decide +kernel⟩

theorem witness_QueuePortWrites_consumeMessages : ∃ (m : Master) (q : QueueId) (n : BitVec 32) (x : QueueSoft) (s : State) (u : State),
    s.queueSoft q.val x = u ∧ ¬ (m = .saddle ∧ isBridleQueue q.val = true) ∧ (u.queue q.val).mismatch = false ∧
      ((u.queue q.val).kind = .msgReq ∨ (u.queue q.val).kind = .msgRep) ∧ (u.queue q.val).qstate ≠ .unbound ∧
      mayConsume m q.val (u.queue q.val) = true ∧ n.toNat ≠ 0 ∧ n.toNat ≤ (u.queue q.val).count ∧ (u.comb.any fun x =>
      x.queue = q.val && amongOldest (u.queue q.val) x.slot n.toNat) = false :=
  ⟨.host, 3, 1, .clean, { State.reset with queues := [(3, { kind := .msgRep, log2n := 1, base := 0x1000, prod := 0x13,
                                                              cons := 0x13, qstate := .enabled, wpA := 2, wpB :=
                                                              131069 })] }, (({ State.reset with queues := [(3, { kind
                                                                                                                    :=
                                                                                                                    .msgRep,
                                                                                                                    log2n
                                                                                                                    :=
                                                                                                                    1,
                                                                                                                    base
                                                                                                                    :=
                                                                                                                    0x1000,
                                                                                                                    prod
                                                                                                                    :=
                                                                                                                    0x13,
                                                                                                                    cons
                                                                                                                    :=
                                                                                                                    0x13,
                                                                                                                    qstate
                                                                                                                    :=
                                                                                                                    .enabled,
                                                                                                                    wpA
                                                                                                                    :=
                                                                                                                    2,
                                                                                                                    wpB
                                                                                                                    :=
                                                                                                                    131069
                                                                                                                    })]
                                                                                                   }) :
    State).queueSoft 3 .clean, by decide +kernel⟩

theorem witness_QueuePortWrites_consumeRefused : ∃ (m : Master) (q : QueueId) (n : BitVec 32) (x : QueueSoft) (s : State) (u : State),
    s.queueSoft q.val x = u ∧ ¬ (m = .saddle ∧ isBridleQueue q.val = true) ∧ (u.queue q.val).mismatch = false ∧
      (u.queue q.val).kind ≠ .command ∧ (u.queue q.val).qstate ≠ .unbound ∧ mayConsume m q.val (u.queue q.val) = true
      ∧ n.toNat < 2 ^ 17 ∧ (n.toNat = 0 ∨ (u.queue q.val).count < n.toNat ∨ (u.comb.any fun x => x.queue = q.val &&
      amongOldest (u.queue q.val) x.slot n.toNat) = true) :=
  ⟨.host, 3, 3, .clean, { State.reset with queues := [(3, { kind := .data, log2n := 1, base := 0x1000, prod := 0x13,
                                                              cons := 0x13, qstate := .enabled, wpA := 2, wpB :=
                                                              131069 })] }, (({ State.reset with queues := [(3, { kind
                                                                                                                    :=
                                                                                                                    .data,
                                                                                                                    log2n
                                                                                                                    :=
                                                                                                                    1,
                                                                                                                    base
                                                                                                                    :=
                                                                                                                    0x1000,
                                                                                                                    prod
                                                                                                                    :=
                                                                                                                    0x13,
                                                                                                                    cons
                                                                                                                    :=
                                                                                                                    0x13,
                                                                                                                    qstate
                                                                                                                    :=
                                                                                                                    .enabled,
                                                                                                                    wpA
                                                                                                                    :=
                                                                                                                    2,
                                                                                                                    wpB
                                                                                                                    :=
                                                                                                                    131069
                                                                                                                    })]
                                                                                                   }) :
    State).queueSoft 3 .clean, by decide +kernel⟩

theorem witness_QueuePortWrites_consumeDenied : ∃ (m : Master) (q : QueueId) (n : BitVec 32) (st : Status) (x : QueueSoft) (s : State) (u : State),
    s.queueSoft q.val x = u ∧ portCheck m q.val (u.queue q.val) (decide (n.toNat < 2 ^ 17)) ((u.queue q.val).kind !=
      .command) (mayConsume m q.val (u.queue q.val)) = st ∧ st ≠ .ok :=
  ⟨.host, 3, 1, .badFormat, .clean, { State.reset with queues := [(3, { kind := .command, log2n := 1, base := 0x1000,
                                                                          prod := 0x13, cons := 0x13, qstate :=
                                                                          .enabled, wpA := 2, wpB := 131069 })] }, (({
    State.reset with queues := [(3, { kind := .command, log2n := 1, base := 0x1000, prod := 0x13, cons := 0x13, qstate
                                        := .enabled, wpA := 2, wpB := 131069 })] }) : State).queueSoft 3 .clean,
    by decide +kernel⟩

theorem witness_QueuePortWrites_consumeStale : ∃ (m : Master) (q : QueueId) (n : BitVec 32) (x : QueueSoft) (s : State) (u : State),
    s.queueSoft q.val x = u ∧ portCheck m q.val (u.queue q.val) (decide (n.toNat < 2 ^ 17)) ((u.queue q.val).kind !=
      .command) (mayConsume m q.val (u.queue q.val)) = .ok ∧ (u.queue q.val).mismatch = true :=
  ⟨.host, 3, 1, .pointers, { State.reset with queues := [(3, { kind := .data, log2n := 1, base := 0x1000, prod :=
                                                                 0x13, cons := 0x13, qstate := .enabled, wpA := 1, wpB
                                                                 := 131070 })] }, (({ State.reset with queues := [(3,
                                                                                                         { kind :=
                                                                                                             .data,
                                                                                                             log2n :=
                                                                                                             1, base
                                                                                                             :=
                                                                                                             0x1000,
                                                                                                             prod :=
                                                                                                             0x13,
                                                                                                             cons :=
                                                                                                             0x13,
                                                                                                             qstate :=
                                                                                                             .enabled,
                                                                                                             wpA := 1,
                                                                                                             wpB :=
                                                                                                             131070
                                                                                                             })] }) :
    State).queueSoft 3 .pointers, by decide +kernel⟩

theorem witness_QueuePortWrites_seal : ∃ (m : Master) (q : QueueId) (n : BitVec 32) (x : QueueSoft) (s : State) (u : State),
    s.queueSoft q.val x = u ∧ ¬ (m = .saddle ∧ isBridleQueue q.val = true) ∧ (u.queue q.val).mismatch = false ∧
      (u.queue q.val).kind = .combining ∧ (u.queue q.val).qstate ≠ .unbound ∧ mayConsume m q.val (u.queue q.val) =
      true ∧ n.toNat ≤ (u.queue q.val).count :=
  ⟨.host, 3, 1, .clean, { State.reset with queues := [(3, { kind := .combining, log2n := 1, base := 0x1000, prod :=
                                                              0x13, cons := 0x13, qstate := .enabled, wpA := 2, wpB :=
                                                              131069 })], comb := [⟨3, 5, 0⟩, ⟨3, 6, 1⟩] }, (({
    State.reset with queues := [(3, { kind := .combining, log2n := 1, base := 0x1000, prod := 0x13, cons := 0x13,
                                        qstate := .enabled, wpA := 2, wpB := 131069 })], comb := [⟨3, 5, 0⟩, ⟨3, 6,
                       1⟩] }) : State).queueSoft 3 .clean, by decide +kernel⟩

theorem witness_QueuePortWrites_sealRefused : ∃ (m : Master) (q : QueueId) (n : BitVec 32) (x : QueueSoft) (s : State) (u : State),
    s.queueSoft q.val x = u ∧ ¬ (m = .saddle ∧ isBridleQueue q.val = true) ∧ (u.queue q.val).mismatch = false ∧
      (u.queue q.val).kind = .combining ∧ (u.queue q.val).qstate ≠ .unbound ∧ mayConsume m q.val (u.queue q.val) =
      true ∧ n.toNat < 2 ^ 17 ∧ (u.queue q.val).count < n.toNat :=
  ⟨.host, 3, 3, .clean, { State.reset with queues := [(3, { kind := .combining, log2n := 1, base := 0x1000, prod :=
                                                              0x13, cons := 0x13, qstate := .enabled, wpA := 2, wpB :=
                                                              131069 })] }, (({ State.reset with queues := [(3, { kind
                                                                                                                    :=
                                                                                                                    .combining,
                                                                                                                    log2n
                                                                                                                    :=
                                                                                                                    1,
                                                                                                                    base
                                                                                                                    :=
                                                                                                                    0x1000,
                                                                                                                    prod
                                                                                                                    :=
                                                                                                                    0x13,
                                                                                                                    cons
                                                                                                                    :=
                                                                                                                    0x13,
                                                                                                                    qstate
                                                                                                                    :=
                                                                                                                    .enabled,
                                                                                                                    wpA
                                                                                                                    :=
                                                                                                                    2,
                                                                                                                    wpB
                                                                                                                    :=
                                                                                                                    131069
                                                                                                                    })]
                                                                                                   }) :
    State).queueSoft 3 .clean, by decide +kernel⟩

theorem witness_QueuePortWrites_sealDenied : ∃ (m : Master) (q : QueueId) (n : BitVec 32) (st : Status) (x : QueueSoft) (s : State) (u : State),
    s.queueSoft q.val x = u ∧ portCheck m q.val (u.queue q.val) (decide (n.toNat < 2 ^ 17)) ((u.queue q.val).kind ==
      .combining) (mayConsume m q.val (u.queue q.val)) = st ∧ st ≠ .ok :=
  ⟨.host, 3, 1, .badFormat, .clean, { State.reset with queues := [(3, { kind := .data, log2n := 1, base := 0x1000,
                                                                          prod := 0x13, cons := 0x13, qstate :=
                                                                          .enabled, wpA := 2, wpB := 131069 })] }, (({
    State.reset with queues := [(3, { kind := .data, log2n := 1, base := 0x1000, prod := 0x13, cons := 0x13, qstate :=
                                        .enabled, wpA := 2, wpB := 131069 })] }) : State).queueSoft 3 .clean,
    by decide +kernel⟩

theorem witness_QueuePortWrites_sealStale : ∃ (m : Master) (q : QueueId) (n : BitVec 32) (x : QueueSoft) (s : State) (u : State),
    s.queueSoft q.val x = u ∧ portCheck m q.val (u.queue q.val) (decide (n.toNat < 2 ^ 17)) ((u.queue q.val).kind ==
      .combining) (mayConsume m q.val (u.queue q.val)) = .ok ∧ (u.queue q.val).mismatch = true :=
  ⟨.host, 3, 1, .pointers, { State.reset with queues := [(3, { kind := .combining, log2n := 1, base := 0x1000, prod :=
                                                                 0x13, cons := 0x13, qstate := .enabled, wpA := 1, wpB
                                                                 := 131070 })] }, (({ State.reset with queues := [(3,
                                                                                                         { kind :=
                                                                                                             .combining,
                                                                                                             log2n :=
                                                                                                             1, base
                                                                                                             :=
                                                                                                             0x1000,
                                                                                                             prod :=
                                                                                                             0x13,
                                                                                                             cons :=
                                                                                                             0x13,
                                                                                                             qstate :=
                                                                                                             .enabled,
                                                                                                             wpA := 1,
                                                                                                             wpB :=
                                                                                                             131070
                                                                                                             })] }) :
    State).queueSoft 3 .pointers, by decide +kernel⟩

theorem witness_QueuePortWrites_postMerges : ∃ (m : Master) (q : QueueId) (w : BitVec 64) (y : CombEntry) (x : QueueSoft) (s : State) (u : State),
    s.queueSoft q.val x = u ∧ ¬ (m = .saddle ∧ isBridleQueue q.val = true) ∧ (u.queue q.val).mismatch = false ∧
      (u.queue q.val).kind = .combining ∧ (u.queue q.val).qstate ≠ .unbound ∧ (u.queue q.val).qstate ≠ .closed ∧
      mayProduce m q.val (u.queue q.val) = true ∧ bitField w.toNat 27 5 = 0 ∧ (u.comb.find? fun x => x.queue = q.val
      && x.key = bitField w.toNat 0 24) = some y :=
  ⟨.host, 3, 0x0000000107000005, ⟨3, 5, 0⟩, .clean, { State.reset with queues := [(3, { kind := .combining, log2n :=
                                                                                          1, base := 0x1000, prod :=
                                                                                          0x13, cons := 0x13, qstate
                                                                                          := .enabled, wpA := 1, wpB
                                                                                          := 131070 })], comb := [⟨3,
                                                                         5, 0⟩], mem := Memory.writeBytes [] 0x101C
                                                                         [255, 255, 255, 127] }, (({ State.reset with
    queues := [(3, { kind := .combining, log2n := 1, base := 0x1000, prod := 0x13, cons := 0x13, qstate := .enabled,
                       wpA := 1, wpB := 131070 })], comb := [⟨3, 5, 0⟩], mem := Memory.writeBytes [] 0x101C [255, 255,
      255, 127] }) : State).queueSoft 3 .clean, by decide +kernel⟩

theorem witness_QueuePortWrites_postOpens : ∃ (m : Master) (q : QueueId) (w : BitVec 64) (x : QueueSoft) (s : State) (u : State),
    s.queueSoft q.val x = u ∧ ¬ (m = .saddle ∧ isBridleQueue q.val = true) ∧ (u.queue q.val).mismatch = false ∧
      (u.queue q.val).kind = .combining ∧ (u.queue q.val).qstate ≠ .unbound ∧ (u.queue q.val).qstate ≠ .closed ∧
      mayProduce m q.val (u.queue q.val) = true ∧ bitField w.toNat 27 5 = 0 ∧ (u.comb.find? fun x => x.queue = q.val
      && x.key = bitField w.toNat 0 24) = none ∧ (u.queue q.val).isFull = false :=
  ⟨.host, 3, 0xFFFFFFFF07FFFFFF, .clean, { State.reset with queues := [(3, { kind := .combining, log2n := 1, base :=
                                                                               0x1000, prod := 0x13, cons := 0x13,
                                                                               qstate := .enabled, wpA := 1, wpB :=
                                                                               131070 })] }, (({ State.reset with
    queues := [(3, { kind := .combining, log2n := 1, base := 0x1000, prod := 0x13, cons := 0x13, qstate := .enabled,
                       wpA := 1, wpB := 131070 })] }) : State).queueSoft 3 .clean, by decide +kernel⟩

theorem witness_QueuePortWrites_postFull : ∃ (m : Master) (q : QueueId) (w : BitVec 64) (x : QueueSoft) (s : State) (u : State),
    s.queueSoft q.val x = u ∧ ¬ (m = .saddle ∧ isBridleQueue q.val = true) ∧ (u.queue q.val).mismatch = false ∧
      (u.queue q.val).kind = .combining ∧ (u.queue q.val).qstate ≠ .unbound ∧ (u.queue q.val).qstate ≠ .closed ∧
      mayProduce m q.val (u.queue q.val) = true ∧ bitField w.toNat 27 5 = 0 ∧ (u.comb.find? fun x => x.queue = q.val
      && x.key = bitField w.toNat 0 24) = none ∧ (u.queue q.val).isFull = true :=
  ⟨.host, 3, 5, .clean, { State.reset with queues := [(3, { kind := .combining, log2n := 1, base := 0x1000, prod :=
                                                              0x13, cons := 0x13, qstate := .enabled, wpA := 2, wpB :=
                                                              131069 })] }, (({ State.reset with queues := [(3, { kind
                                                                                                                    :=
                                                                                                                    .combining,
                                                                                                                    log2n
                                                                                                                    :=
                                                                                                                    1,
                                                                                                                    base
                                                                                                                    :=
                                                                                                                    0x1000,
                                                                                                                    prod
                                                                                                                    :=
                                                                                                                    0x13,
                                                                                                                    cons
                                                                                                                    :=
                                                                                                                    0x13,
                                                                                                                    qstate
                                                                                                                    :=
                                                                                                                    .enabled,
                                                                                                                    wpA
                                                                                                                    :=
                                                                                                                    2,
                                                                                                                    wpB
                                                                                                                    :=
                                                                                                                    131069
                                                                                                                    })]
                                                                                                   }) :
    State).queueSoft 3 .clean, by decide +kernel⟩

theorem witness_QueuePortWrites_postDenied : ∃ (m : Master) (q : QueueId) (w : BitVec 64) (st : Status) (x : QueueSoft) (s : State) (u : State),
    s.queueSoft q.val x = u ∧ (if portCheck m q.val (u.queue q.val) (decide (bitField w.toNat 27 5 = 0)) ((u.queue
      q.val).kind == .combining) (mayProduce m q.val (u.queue q.val)) = .ok ∧ (u.queue q.val).qstate = .closed then
      .closed else portCheck m q.val (u.queue q.val) (decide (bitField w.toNat 27 5 = 0)) ((u.queue q.val).kind ==
      .combining) (mayProduce m q.val (u.queue q.val))) = st ∧ st ≠ .ok :=
  ⟨.host, 3, 5, .closed, .binding, { State.reset with queues := [(3, { kind := .combining, log2n := 1, base := 0x1000,
                                                                         prod := 0x13, cons := 0x13, qstate :=
                                                                         .enabled, wpA := 2, wpB := 131069 })] }, (({
    State.reset with queues := [(3, { kind := .combining, log2n := 1, base := 0x1000, prod := 0x13, cons := 0x13,
                                        qstate := .enabled, wpA := 2, wpB := 131069 })] }) : State).queueSoft 3
    .binding, by decide +kernel⟩

theorem witness_QueuePortWrites_postStale : ∃ (m : Master) (q : QueueId) (w : BitVec 64) (x : QueueSoft) (s : State) (u : State),
    s.queueSoft q.val x = u ∧ portCheck m q.val (u.queue q.val) (decide (bitField w.toNat 27 5 = 0)) ((u.queue
      q.val).kind == .combining) (mayProduce m q.val (u.queue q.val)) = .ok ∧ (u.queue q.val).qstate ≠ .closed ∧
      (u.queue q.val).mismatch = true :=
  ⟨.host, 3, 5, .pointers, { State.reset with queues := [(3, { kind := .combining, log2n := 1, base := 0x1000, prod :=
                                                                 0x13, cons := 0x13, qstate := .enabled, wpA := 1, wpB
                                                                 := 131070 })] }, (({ State.reset with queues := [(3,
                                                                                                         { kind :=
                                                                                                             .combining,
                                                                                                             log2n :=
                                                                                                             1, base
                                                                                                             :=
                                                                                                             0x1000,
                                                                                                             prod :=
                                                                                                             0x13,
                                                                                                             cons :=
                                                                                                             0x13,
                                                                                                             qstate :=
                                                                                                             .enabled,
                                                                                                             wpA := 1,
                                                                                                             wpB :=
                                                                                                             131070
                                                                                                             })] }) :
    State).queueSoft 3 .pointers, by decide +kernel⟩

theorem witness_QueueControl_drain : ∃ (m : Master) (q : QueueId) (x : QueueSoft) (s : State) (u : State),
    s.queueSoft q.val x = u ∧ (u.queue q.val).mismatch = false ∧ mayProduce m q.val (u.queue q.val) = true ∧ ¬ (m =
      .saddle ∧ isBridleQueue q.val = true) ∧ (u.queue q.val).kind = .command ∧ ((u.queue q.val).qstate = .enabled) :=
  ⟨.host, 3, .clean, headed 2 0x30 [], ((headed 2 0x30 []) : State).queueSoft 3 .clean, by decide +kernel⟩

theorem witness_QueueControl_drainWaits : ∃ (m : Master) (q : QueueId) (x : QueueSoft) (s : State) (u : State),
    s.queueSoft q.val x = u ∧ (u.queue q.val).mismatch = false ∧ mayProduce m q.val (u.queue q.val) = true ∧ ¬ (m =
      .saddle ∧ isBridleQueue q.val = true) ∧ (u.queue q.val).kind = .command ∧ (u.queue q.val).qstate = .enabled ∧
      ((u.queue q.val).rpA ≠ (u.queue q.val).wpA ∨ (u.queue q.val).outstanding ≠ 0) :=
  ⟨.host, 3, .clean, { State.reset with queues := [(3, { kind := .command, log2n := 1, base := 0x1000, prod := 0x13,
                                                           cons := 0x13, qstate := .enabled, wpA := 1, wpB := 131070
                                                           })] }, (({ State.reset with queues := [(3, { kind :=
                                                                                                          .command,
                                                                                                          log2n := 1,
                                                                                                          base :=
                                                                                                          0x1000, prod
                                                                                                          := 0x13,
                                                                                                          cons :=
                                                                                                          0x13, qstate
                                                                                                          := .enabled,
                                                                                                          wpA := 1,
                                                                                                          wpB :=
                                                                                                          131070 })]
                                                                                         }) : State).queueSoft 3
    .clean, by decide +kernel⟩

theorem witness_QueueControl_drainEnds : ∃ (m : Master) (q : QueueId) (x : QueueSoft) (s : State) (u : State),
    s.queueSoft q.val x = u ∧ (u.queue q.val).mismatch = false ∧ mayProduce m q.val (u.queue q.val) = true ∧ ¬ (m =
      .saddle ∧ isBridleQueue q.val = true) ∧ (u.queue q.val).kind = .command ∧ (u.queue q.val).qstate = .enabled ∧
      (u.queue q.val).rpA = (u.queue q.val).wpA ∧ (u.queue q.val).outstanding = 0 ∧ (u.engine (u.queue
      q.val).eng).held = [] :=
  ⟨.host, 3, .clean, { State.reset with queues := [(3, { kind := .command, log2n := 1, base := 0x1000, prod := 0x13,
                                                           cons := 0x13, qstate := .enabled })] }, (({ State.reset
    with queues := [(3, { kind := .command, log2n := 1, base := 0x1000, prod := 0x13, cons := 0x13, qstate := .enabled
                            })] }) : State).queueSoft 3 .clean, by decide +kernel⟩

theorem witness_QueueControl_abort : ∃ (m : Master) (q : QueueId) (x : QueueSoft) (s : State) (u : State),
    s.queueSoft q.val x = u ∧ (u.queue q.val).mismatch = false ∧ mayProduce m q.val (u.queue q.val) = true ∧ ¬ (m =
      .saddle ∧ isBridleQueue q.val = true) ∧ (u.queue q.val).kind = .command ∧ ((u.queue q.val).qstate = .enabled ∨
      (u.queue q.val).qstate = .draining) :=
  ⟨.host, 3, .clean, headed 2 0x30 [], ((headed 2 0x30 []) : State).queueSoft 3 .clean, by decide +kernel⟩

theorem witness_QueueControl_enable : ∃ (m : Master) (q : QueueId) (x : QueueSoft) (s : State) (u : State),
    s.queueSoft q.val x = u ∧ (u.queue q.val).mismatch = false ∧ mayProduce m q.val (u.queue q.val) = true ∧ ¬ (m =
      .saddle ∧ isBridleQueue q.val = true) ∧ (u.queue q.val).kind = .command ∧ ((u.queue q.val).qstate = .draining ∨
      (u.queue q.val).qstate = .disabled) :=
  ⟨.host, 3, .clean, { State.reset with queues := [(3, { kind := .command, log2n := 1, base := 0x1000, prod := 0x13,
                                                           cons := 0x13, qstate := .disabled })] }, (({ State.reset
    with queues := [(3, { kind := .command, log2n := 1, base := 0x1000, prod := 0x13, cons := 0x13, qstate :=
                            .disabled })] }) : State).queueSoft 3 .clean, by decide +kernel⟩

theorem witness_QueueControl_drainDone : ∃ (m : Master) (q : QueueId) (x : QueueSoft) (s : State) (u : State),
    s.queueSoft q.val x = u ∧ (u.queue q.val).mismatch = false ∧ mayProduce m q.val (u.queue q.val) = true ∧ ¬ (m =
      .saddle ∧ isBridleQueue q.val = true) ∧ (u.queue q.val).kind = .command ∧ ((u.queue q.val).qstate = .draining ∨
      (u.queue q.val).qstate = .disabled) :=
  ⟨.host, 3, .clean, { State.reset with queues := [(3, { kind := .command, log2n := 1, base := 0x1000, prod := 0x13,
                                                           cons := 0x13, qstate := .disabled })] }, (({ State.reset
    with queues := [(3, { kind := .command, log2n := 1, base := 0x1000, prod := 0x13, cons := 0x13, qstate :=
                            .disabled })] }) : State).queueSoft 3 .clean, by decide +kernel⟩

theorem witness_QueueControl_abortDone : ∃ (m : Master) (q : QueueId) (x : QueueSoft) (s : State) (u : State),
    s.queueSoft q.val x = u ∧ (u.queue q.val).mismatch = false ∧ mayProduce m q.val (u.queue q.val) = true ∧ ¬ (m =
      .saddle ∧ isBridleQueue q.val = true) ∧ (u.queue q.val).kind = .command ∧ ((u.queue q.val).qstate = .aborting ∨
      (u.queue q.val).qstate = .disabled) :=
  ⟨.host, 3, .clean, { State.reset with queues := [(3, { kind := .command, log2n := 1, base := 0x1000, prod := 0x13,
                                                           cons := 0x13, qstate := .disabled })] }, (({ State.reset
    with queues := [(3, { kind := .command, log2n := 1, base := 0x1000, prod := 0x13, cons := 0x13, qstate :=
                            .disabled })] }) : State).queueSoft 3 .clean, by decide +kernel⟩

theorem witness_QueueControl_enableDone : ∃ (m : Master) (q : QueueId) (x : QueueSoft) (s : State) (u : State),
    s.queueSoft q.val x = u ∧ (u.queue q.val).mismatch = false ∧ mayProduce m q.val (u.queue q.val) = true ∧ ¬ (m =
      .saddle ∧ isBridleQueue q.val = true) ∧ (u.queue q.val).kind = .command ∧ ((u.queue q.val).qstate = .enabled) :=
  ⟨.host, 3, .clean, { State.reset with queues := [(3, { kind := .command, log2n := 1, base := 0x1000, prod := 0x13,
                                                           cons := 0x13, qstate := .enabled })] }, (({ State.reset
    with queues := [(3, { kind := .command, log2n := 1, base := 0x1000, prod := 0x13, cons := 0x13, qstate := .enabled
                            })] }) : State).queueSoft 3 .clean, by decide +kernel⟩

theorem witness_QueueControl_drainRefused : ∃ (m : Master) (q : QueueId) (x : QueueSoft) (s : State) (u : State),
    s.queueSoft q.val x = u ∧ (u.queue q.val).mismatch = false ∧ mayProduce m q.val (u.queue q.val) = true ∧ ¬ (m =
      .saddle ∧ isBridleQueue q.val = true) ∧ (u.queue q.val).qstate ≠ .unbound ∧ ((u.queue q.val).kind ≠ .command ∨
      (u.queue q.val).qstate = .aborting ∨ (u.queue q.val).qstate = .closed) :=
  ⟨.host, 3, .clean, { State.reset with queues := [(3, { kind := .data, log2n := 1, base := 0x1000, prod := 0x13, cons
                                                           := 0x13, qstate := .enabled })] }, (({ State.reset with
    queues := [(3, { kind := .data, log2n := 1, base := 0x1000, prod := 0x13, cons := 0x13, qstate := .enabled })] })
    : State).queueSoft 3 .clean, by decide +kernel⟩

theorem witness_QueueControl_abortRefused : ∃ (m : Master) (q : QueueId) (x : QueueSoft) (s : State) (u : State),
    s.queueSoft q.val x = u ∧ (u.queue q.val).mismatch = false ∧ mayProduce m q.val (u.queue q.val) = true ∧ ¬ (m =
      .saddle ∧ isBridleQueue q.val = true) ∧ (u.queue q.val).qstate ≠ .unbound ∧ ((u.queue q.val).kind ≠ .command ∨
      (u.queue q.val).qstate = .closed) :=
  ⟨.host, 3, .clean, { State.reset with queues := [(3, { kind := .data, log2n := 1, base := 0x1000, prod := 0x13, cons
                                                           := 0x13, qstate := .enabled })] }, (({ State.reset with
    queues := [(3, { kind := .data, log2n := 1, base := 0x1000, prod := 0x13, cons := 0x13, qstate := .enabled })] })
    : State).queueSoft 3 .clean, by decide +kernel⟩

theorem witness_QueueControl_enableRefused : ∃ (m : Master) (q : QueueId) (x : QueueSoft) (s : State) (u : State),
    s.queueSoft q.val x = u ∧ (u.queue q.val).mismatch = false ∧ mayProduce m q.val (u.queue q.val) = true ∧ ¬ (m =
      .saddle ∧ isBridleQueue q.val = true) ∧ (u.queue q.val).qstate ≠ .unbound ∧ ((u.queue q.val).kind ≠ .command ∨
      (u.queue q.val).qstate = .aborting ∨ (u.queue q.val).qstate = .closed) :=
  ⟨.host, 3, .clean, { State.reset with queues := [(3, { kind := .data, log2n := 1, base := 0x1000, prod := 0x13, cons
                                                           := 0x13, qstate := .enabled })] }, (({ State.reset with
    queues := [(3, { kind := .data, log2n := 1, base := 0x1000, prod := 0x13, cons := 0x13, qstate := .enabled })] })
    : State).queueSoft 3 .clean, by decide +kernel⟩

theorem witness_QueueControl_reset : ∃ (m : Master) (q : QueueId) (x : QueueSoft) (s : State) (u : State),
    s.queueSoft q.val x = u ∧ (u.queue q.val).mismatch = false ∧ mayConsume m q.val (u.queue q.val) = true ∧ ¬ (m =
      .saddle ∧ isBridleQueue q.val = true) ∧ (u.queue q.val).kind = .data ∧ ((u.queue q.val).qstate = .enabled ∨
      (u.queue q.val).qstate = .disabled ∨ (u.queue q.val).qstate = .closed) :=
  ⟨.host, 3, .clean, { State.reset with queues := [(3, { kind := .data, log2n := 1, base := 0x1000, prod := 0x13, cons
                                                           := 0x13, qstate := .enabled, wpA := 2, ovr := true, gen :=
                                                           0xFFFF, wpB := 131069 })] }, (({ State.reset with queues :=
                                                                                                               [(3, {
                                                                                                               kind :=
                                                                                                                 .data,
                                                                                                                 log2n
                                                                                                                 := 1,
                                                                                                                 base
                                                                                                                 :=
                                                                                                                 0x1000,
                                                                                                                 prod
                                                                                                                 :=
                                                                                                                 0x13,
                                                                                                                 cons
                                                                                                                 :=
                                                                                                                 0x13,
                                                                                                                 qstate
                                                                                                                 :=
                                                                                                                 .enabled,
                                                                                                                 wpA
                                                                                                                 := 2,
                                                                                                                 ovr
                                                                                                                 :=
                                                                                                                 true,
                                                                                                                 gen
                                                                                                                 :=
                                                                                                                 0xFFFF,
                                                                                                                 wpB
                                                                                                                 :=
                                                                                                                 131069
                                                                                                                 })]
                                                                                                               }) :
    State).queueSoft 3 .clean, by decide +kernel⟩

theorem witness_QueueControl_resetKinds : ∃ (m : Master) (q : QueueId) (x : QueueSoft) (s : State) (u : State),
    s.queueSoft q.val x = u ∧ (u.queue q.val).mismatch = false ∧ mayConsume m q.val (u.queue q.val) = true ∧ ¬ (m =
      .saddle ∧ isBridleQueue q.val = true) ∧ (u.queue q.val).qstate ≠ .unbound ∧ (u.queue q.val).mayReset true = true :=
  ⟨.host, 3, .clean, { State.reset with queues := [(3, { kind := .msgRep, log2n := 1, base := 0x1000, prod := 0x13,
                                                           cons := 0x13, qstate := .enabled, wpA := 2, resv := 1, wpB
                                                           := 131069 })] }, (({ State.reset with queues := [(3, { kind
                                                                                                                    :=
                                                                                                                    .msgRep,
                                                                                                                    log2n
                                                                                                                    :=
                                                                                                                    1,
                                                                                                                    base
                                                                                                                    :=
                                                                                                                    0x1000,
                                                                                                                    prod
                                                                                                                    :=
                                                                                                                    0x13,
                                                                                                                    cons
                                                                                                                    :=
                                                                                                                    0x13,
                                                                                                                    qstate
                                                                                                                    :=
                                                                                                                    .enabled,
                                                                                                                    wpA
                                                                                                                    :=
                                                                                                                    2,
                                                                                                                    resv
                                                                                                                    :=
                                                                                                                    1,
                                                                                                                    wpB
                                                                                                                    :=
                                                                                                                    131069
                                                                                                                    })]
                                                                                                   }) :
    State).queueSoft 3 .clean, by decide +kernel⟩

theorem witness_QueueControl_resetCommand : ∃ (m : Master) (q : QueueId) (x : QueueSoft) (s : State) (u : State),
    s.queueSoft q.val x = u ∧ (u.queue q.val).mismatch = false ∧ mayConsume m q.val (u.queue q.val) = true ∧ ¬ (m =
      .saddle ∧ isBridleQueue q.val = true) ∧ (u.queue q.val).qstate ≠ .unbound ∧ (u.queue q.val).mayReset true =
      false :=
  ⟨.host, 3, .clean, { State.reset with queues := [(3, { kind := .command, log2n := 1, base := 0x1000, prod := 0x13,
                                                           cons := 0x13, qstate := .enabled })] }, (({ State.reset
    with queues := [(3, { kind := .command, log2n := 1, base := 0x1000, prod := 0x13, cons := 0x13, qstate := .enabled
                            })] }) : State).queueSoft 3 .clean, by decide +kernel⟩

theorem witness_QueueControl_close : ∃ (m : Master) (q : QueueId) (x : QueueSoft) (s : State) (u : State),
    s.queueSoft q.val x = u ∧ (u.queue q.val).mismatch = false ∧ mayConsume m q.val (u.queue q.val) = true ∧ ¬ (m =
      .saddle ∧ isBridleQueue q.val = true) ∧ (u.queue q.val).kind = .data ∧ ((u.queue q.val).qstate = .enabled ∨
      (u.queue q.val).qstate = .disabled) :=
  ⟨.host, 3, .clean, { State.reset with queues := [(3, { kind := .data, log2n := 1, base := 0x1000, prod := 0x13, cons
                                                           := 0x13, qstate := .enabled, wpA := 2, wpB := 131069 })] },
    (({ State.reset with queues := [(3, { kind := .data, log2n := 1, base := 0x1000, prod := 0x13, cons := 0x13,
                                            qstate := .enabled, wpA := 2, wpB := 131069 })] }) : State).queueSoft 3
    .clean, by decide +kernel⟩

theorem witness_QueueControl_closeKinds : ∃ (m : Master) (q : QueueId) (x : QueueSoft) (s : State) (u : State),
    s.queueSoft q.val x = u ∧ (u.queue q.val).mismatch = false ∧ mayConsume m q.val (u.queue q.val) = true ∧ ¬ (m =
      .saddle ∧ isBridleQueue q.val = true) ∧ (u.queue q.val).qstate ≠ .unbound ∧ (u.queue q.val).mayReset false =
      true :=
  ⟨.host, 3, .clean, { State.reset with queues := [(3, { kind := .msgRep, log2n := 1, base := 0x1000, prod := 0x13,
                                                           cons := 0x13, qstate := .enabled, wpA := 2, resv := 1, wpB
                                                           := 131069 })] }, (({ State.reset with queues := [(3, { kind
                                                                                                                    :=
                                                                                                                    .msgRep,
                                                                                                                    log2n
                                                                                                                    :=
                                                                                                                    1,
                                                                                                                    base
                                                                                                                    :=
                                                                                                                    0x1000,
                                                                                                                    prod
                                                                                                                    :=
                                                                                                                    0x13,
                                                                                                                    cons
                                                                                                                    :=
                                                                                                                    0x13,
                                                                                                                    qstate
                                                                                                                    :=
                                                                                                                    .enabled,
                                                                                                                    wpA
                                                                                                                    :=
                                                                                                                    2,
                                                                                                                    resv
                                                                                                                    :=
                                                                                                                    1,
                                                                                                                    wpB
                                                                                                                    :=
                                                                                                                    131069
                                                                                                                    })]
                                                                                                   }) :
    State).queueSoft 3 .clean, by decide +kernel⟩

theorem witness_QueueControl_closeRefused : ∃ (m : Master) (q : QueueId) (x : QueueSoft) (s : State) (u : State),
    s.queueSoft q.val x = u ∧ (u.queue q.val).mismatch = false ∧ mayConsume m q.val (u.queue q.val) = true ∧ ¬ (m =
      .saddle ∧ isBridleQueue q.val = true) ∧ (u.queue q.val).qstate ≠ .unbound ∧ (u.queue q.val).mayReset false =
      false :=
  ⟨.host, 3, .clean, { State.reset with queues := [(3, { kind := .data, log2n := 1, base := 0x1000, prod := 0x13, cons
                                                           := 0x13, qstate := .closed })] }, (({ State.reset with
    queues := [(3, { kind := .data, log2n := 1, base := 0x1000, prod := 0x13, cons := 0x13, qstate := .closed })] }) :
    State).queueSoft 3 .clean, by decide +kernel⟩

theorem witness_QueueControl_open : ∃ (m : Master) (q : QueueId) (x : QueueSoft) (s : State) (u : State),
    s.queueSoft q.val x = u ∧ (u.queue q.val).mismatch = false ∧ mayConsume m q.val (u.queue q.val) = true ∧ ¬ (m =
      .saddle ∧ isBridleQueue q.val = true) ∧ (u.queue q.val).qstate = .closed ∧ (u.queue q.val).failed = false :=
  ⟨.host, 3, .clean, { State.reset with queues := [(3, { kind := .data, log2n := 1, base := 0x1000, prod := 0x13, cons
                                                           := 0x13, qstate := .closed })] }, (({ State.reset with
    queues := [(3, { kind := .data, log2n := 1, base := 0x1000, prod := 0x13, cons := 0x13, qstate := .closed })] }) :
    State).queueSoft 3 .clean, by decide +kernel⟩

theorem witness_QueueControl_openRefused : ∃ (m : Master) (q : QueueId) (x : QueueSoft) (s : State) (u : State),
    s.queueSoft q.val x = u ∧ (u.queue q.val).mismatch = false ∧ mayConsume m q.val (u.queue q.val) = true ∧ ¬ (m =
      .saddle ∧ isBridleQueue q.val = true) ∧ (u.queue q.val).qstate ≠ .unbound ∧ ((u.queue q.val).qstate ≠ .closed ∨
      (u.queue q.val).failed = true) :=
  ⟨.host, 3, .binding, { State.reset with queues := [(3, { kind := .data, log2n := 1, base := 0x1000, prod := 0x13,
                                                             cons := 0x13, qstate := .enabled })] }, (({ State.reset
    with queues := [(3, { kind := .data, log2n := 1, base := 0x1000, prod := 0x13, cons := 0x13, qstate := .enabled
                            })] }) : State).queueSoft 3 .binding, by decide +kernel⟩

theorem witness_QueueControl_clear : ∃ (m : Master) (q : QueueId) (v : BitVec 32) (x : QueueSoft) (s : State) (u : State),
    s.queueSoft q.val x = u ∧ (u.queue q.val).mismatch = false ∧ mayConsume m q.val (u.queue q.val) = true ∧ ¬ (m =
      .saddle ∧ isBridleQueue q.val = true) ∧ (u.queue q.val).qstate ≠ .unbound ∧ v.toNat < 8 :=
  ⟨.host, 3, 7, .clean, { State.reset with queues := [(3, { kind := .data, log2n := 1, base := 0x1000, prod := 0x13,
                                                              cons := 0x13, qstate := .enabled, ovr := true, rst :=
                                                              true })] }, (({ State.reset with queues := [(3, { kind
                                                                                                                  :=
                                                                                                                  .data,
                                                                                                                  log2n
                                                                                                                  :=
                                                                                                                  1,
                                                                                                                  base
                                                                                                                  :=
                                                                                                                  0x1000,
                                                                                                                  prod
                                                                                                                  :=
                                                                                                                  0x13,
                                                                                                                  cons
                                                                                                                  :=
                                                                                                                  0x13,
                                                                                                                  qstate
                                                                                                                  :=
                                                                                                                  .enabled,
                                                                                                                  ovr
                                                                                                                  :=
                                                                                                                  true,
                                                                                                                  rst
                                                                                                                  :=
                                                                                                                  true
                                                                                                                  })]
                                                                                                 }) : State).queueSoft
    3 .clean, by decide +kernel⟩

theorem witness_QueueControl_clearDenied : ∃ (m : Master) (q : QueueId) (v : BitVec 32) (st : Status) (x : QueueSoft) (s : State) (u : State),
    s.queueSoft q.val x = u ∧ portCheck m q.val (u.queue q.val) (decide (v.toNat < 8)) (true) (mayConsume m q.val
      (u.queue q.val)) = st ∧ st ≠ .ok :=
  ⟨.host, 3, 8, .badFormat, .clean, { State.reset with queues := [(3, { kind := .data, log2n := 1, base := 0x1000,
                                                                          prod := 0x13, cons := 0x13, qstate :=
                                                                          .enabled })] }, (({ State.reset with queues
                                                                                                                 :=
                                                                                                                 [(3,
                                                                                                                 {
                                                                                                                 kind
                                                                                                                   :=
                                                                                                                   .data,
                                                                                                                   log2n
                                                                                                                   :=
                                                                                                                   1,
                                                                                                                   base
                                                                                                                   :=
                                                                                                                   0x1000,
                                                                                                                   prod
                                                                                                                   :=
                                                                                                                   0x13,
                                                                                                                   cons
                                                                                                                   :=
                                                                                                                   0x13,
                                                                                                                   qstate
                                                                                                                   :=
                                                                                                                   .enabled
                                                                                                                   })]
                                                                                                                 }) :
    State).queueSoft 3 .clean, by decide +kernel⟩

theorem witness_QueueControl_clearStale : ∃ (m : Master) (q : QueueId) (v : BitVec 32) (x : QueueSoft) (s : State) (u : State),
    s.queueSoft q.val x = u ∧ portCheck m q.val (u.queue q.val) (decide (v.toNat < 8)) (true) (mayConsume m q.val
      (u.queue q.val)) = .ok ∧ (u.queue q.val).mismatch = true :=
  ⟨.host, 3, 7, .pointers, { State.reset with queues := [(3, { kind := .data, log2n := 1, base := 0x1000, prod :=
                                                                 0x13, cons := 0x13, qstate := .enabled, wpA := 1, wpB
                                                                 := 131070 })] }, (({ State.reset with queues := [(3,
                                                                                                         { kind :=
                                                                                                             .data,
                                                                                                             log2n :=
                                                                                                             1, base
                                                                                                             :=
                                                                                                             0x1000,
                                                                                                             prod :=
                                                                                                             0x13,
                                                                                                             cons :=
                                                                                                             0x13,
                                                                                                             qstate :=
                                                                                                             .enabled,
                                                                                                             wpA := 1,
                                                                                                             wpB :=
                                                                                                             131070
                                                                                                             })] }) :
    State).queueSoft 3 .pointers, by decide +kernel⟩

theorem witness_QueueControl_qDrainDenied : ∃ (m : Master) (q : QueueId) (st : Status) (x : QueueSoft) (s : State) (u : State),
    s.queueSoft q.val x = u ∧ portCheck m q.val (u.queue q.val) (true) (true) (mayProduce m q.val (u.queue q.val)) =
      st ∧ st ≠ .ok :=
  ⟨.host, 3, .refused, .clean, State.reset, ((State.reset) : State).queueSoft 3 .clean, by decide +kernel⟩

theorem witness_QueueControl_qAbortDenied : ∃ (m : Master) (q : QueueId) (st : Status) (x : QueueSoft) (s : State) (u : State),
    s.queueSoft q.val x = u ∧ portCheck m q.val (u.queue q.val) (true) (true) (mayProduce m q.val (u.queue q.val)) =
      st ∧ st ≠ .ok :=
  ⟨.host, 3, .refused, .clean, State.reset, ((State.reset) : State).queueSoft 3 .clean, by decide +kernel⟩

theorem witness_QueueControl_qEnableDenied : ∃ (m : Master) (q : QueueId) (st : Status) (x : QueueSoft) (s : State) (u : State),
    s.queueSoft q.val x = u ∧ portCheck m q.val (u.queue q.val) (true) (true) (mayProduce m q.val (u.queue q.val)) =
      st ∧ st ≠ .ok :=
  ⟨.host, 3, .refused, .clean, State.reset, ((State.reset) : State).queueSoft 3 .clean, by decide +kernel⟩

theorem witness_QueueControl_qResetDenied : ∃ (m : Master) (q : QueueId) (st : Status) (x : QueueSoft) (s : State) (u : State),
    s.queueSoft q.val x = u ∧ portCheck m q.val (u.queue q.val) (true) (true) (mayConsume m q.val (u.queue q.val)) =
      st ∧ st ≠ .ok :=
  ⟨.host, 3, .refused, .clean, State.reset, ((State.reset) : State).queueSoft 3 .clean, by decide +kernel⟩

theorem witness_QueueControl_qCloseDenied : ∃ (m : Master) (q : QueueId) (st : Status) (x : QueueSoft) (s : State) (u : State),
    s.queueSoft q.val x = u ∧ portCheck m q.val (u.queue q.val) (true) (true) (mayConsume m q.val (u.queue q.val)) =
      st ∧ st ≠ .ok :=
  ⟨.host, 3, .refused, .clean, State.reset, ((State.reset) : State).queueSoft 3 .clean, by decide +kernel⟩

theorem witness_QueueControl_qOpenDenied : ∃ (m : Master) (q : QueueId) (st : Status) (x : QueueSoft) (s : State) (u : State),
    s.queueSoft q.val x = u ∧ portCheck m q.val (u.queue q.val) (true) (true) (mayConsume m q.val (u.queue q.val)) =
      st ∧ st ≠ .ok :=
  ⟨.host, 3, .refused, .clean, State.reset, ((State.reset) : State).queueSoft 3 .clean, by decide +kernel⟩

theorem witness_QueueControl_qDrainStale : ∃ (m : Master) (q : QueueId) (x : QueueSoft) (s : State) (u : State),
    s.queueSoft q.val x = u ∧ portCheck m q.val (u.queue q.val) (true) (true) (mayProduce m q.val (u.queue q.val)) =
      .ok ∧ (u.queue q.val).mismatch = true :=
  ⟨.host, 3, .pointers, { State.reset with queues := [(3, { kind := .data, log2n := 1, base := 0x1000, prod := 0x13,
                                                              cons := 0x13, qstate := .enabled, wpA := 1, wpB :=
                                                              131070 })] }, (({ State.reset with queues := [(3, { kind
                                                                                                                    :=
                                                                                                                    .data,
                                                                                                                    log2n
                                                                                                                    :=
                                                                                                                    1,
                                                                                                                    base
                                                                                                                    :=
                                                                                                                    0x1000,
                                                                                                                    prod
                                                                                                                    :=
                                                                                                                    0x13,
                                                                                                                    cons
                                                                                                                    :=
                                                                                                                    0x13,
                                                                                                                    qstate
                                                                                                                    :=
                                                                                                                    .enabled,
                                                                                                                    wpA
                                                                                                                    :=
                                                                                                                    1,
                                                                                                                    wpB
                                                                                                                    :=
                                                                                                                    131070
                                                                                                                    })]
                                                                                                   }) :
    State).queueSoft 3 .pointers, by decide +kernel⟩

theorem witness_QueueControl_qAbortStale : ∃ (m : Master) (q : QueueId) (x : QueueSoft) (s : State) (u : State),
    s.queueSoft q.val x = u ∧ portCheck m q.val (u.queue q.val) (true) (true) (mayProduce m q.val (u.queue q.val)) =
      .ok ∧ (u.queue q.val).mismatch = true :=
  ⟨.host, 3, .pointers, { State.reset with queues := [(3, { kind := .data, log2n := 1, base := 0x1000, prod := 0x13,
                                                              cons := 0x13, qstate := .enabled, wpA := 1, wpB :=
                                                              131070 })] }, (({ State.reset with queues := [(3, { kind
                                                                                                                    :=
                                                                                                                    .data,
                                                                                                                    log2n
                                                                                                                    :=
                                                                                                                    1,
                                                                                                                    base
                                                                                                                    :=
                                                                                                                    0x1000,
                                                                                                                    prod
                                                                                                                    :=
                                                                                                                    0x13,
                                                                                                                    cons
                                                                                                                    :=
                                                                                                                    0x13,
                                                                                                                    qstate
                                                                                                                    :=
                                                                                                                    .enabled,
                                                                                                                    wpA
                                                                                                                    :=
                                                                                                                    1,
                                                                                                                    wpB
                                                                                                                    :=
                                                                                                                    131070
                                                                                                                    })]
                                                                                                   }) :
    State).queueSoft 3 .pointers, by decide +kernel⟩

theorem witness_QueueControl_qEnableStale : ∃ (m : Master) (q : QueueId) (x : QueueSoft) (s : State) (u : State),
    s.queueSoft q.val x = u ∧ portCheck m q.val (u.queue q.val) (true) (true) (mayProduce m q.val (u.queue q.val)) =
      .ok ∧ (u.queue q.val).mismatch = true :=
  ⟨.host, 3, .pointers, { State.reset with queues := [(3, { kind := .data, log2n := 1, base := 0x1000, prod := 0x13,
                                                              cons := 0x13, qstate := .enabled, wpA := 1, wpB :=
                                                              131070 })] }, (({ State.reset with queues := [(3, { kind
                                                                                                                    :=
                                                                                                                    .data,
                                                                                                                    log2n
                                                                                                                    :=
                                                                                                                    1,
                                                                                                                    base
                                                                                                                    :=
                                                                                                                    0x1000,
                                                                                                                    prod
                                                                                                                    :=
                                                                                                                    0x13,
                                                                                                                    cons
                                                                                                                    :=
                                                                                                                    0x13,
                                                                                                                    qstate
                                                                                                                    :=
                                                                                                                    .enabled,
                                                                                                                    wpA
                                                                                                                    :=
                                                                                                                    1,
                                                                                                                    wpB
                                                                                                                    :=
                                                                                                                    131070
                                                                                                                    })]
                                                                                                   }) :
    State).queueSoft 3 .pointers, by decide +kernel⟩

theorem witness_QueueControl_qResetStale : ∃ (m : Master) (q : QueueId) (x : QueueSoft) (s : State) (u : State),
    s.queueSoft q.val x = u ∧ portCheck m q.val (u.queue q.val) (true) (true) (mayConsume m q.val (u.queue q.val)) =
      .ok ∧ (u.queue q.val).mismatch = true :=
  ⟨.host, 3, .pointers, { State.reset with queues := [(3, { kind := .data, log2n := 1, base := 0x1000, prod := 0x13,
                                                              cons := 0x13, qstate := .enabled, wpA := 1, wpB :=
                                                              131070 })] }, (({ State.reset with queues := [(3, { kind
                                                                                                                    :=
                                                                                                                    .data,
                                                                                                                    log2n
                                                                                                                    :=
                                                                                                                    1,
                                                                                                                    base
                                                                                                                    :=
                                                                                                                    0x1000,
                                                                                                                    prod
                                                                                                                    :=
                                                                                                                    0x13,
                                                                                                                    cons
                                                                                                                    :=
                                                                                                                    0x13,
                                                                                                                    qstate
                                                                                                                    :=
                                                                                                                    .enabled,
                                                                                                                    wpA
                                                                                                                    :=
                                                                                                                    1,
                                                                                                                    wpB
                                                                                                                    :=
                                                                                                                    131070
                                                                                                                    })]
                                                                                                   }) :
    State).queueSoft 3 .pointers, by decide +kernel⟩

theorem witness_QueueControl_qCloseStale : ∃ (m : Master) (q : QueueId) (x : QueueSoft) (s : State) (u : State),
    s.queueSoft q.val x = u ∧ portCheck m q.val (u.queue q.val) (true) (true) (mayConsume m q.val (u.queue q.val)) =
      .ok ∧ (u.queue q.val).mismatch = true :=
  ⟨.host, 3, .pointers, { State.reset with queues := [(3, { kind := .data, log2n := 1, base := 0x1000, prod := 0x13,
                                                              cons := 0x13, qstate := .enabled, wpA := 1, wpB :=
                                                              131070 })] }, (({ State.reset with queues := [(3, { kind
                                                                                                                    :=
                                                                                                                    .data,
                                                                                                                    log2n
                                                                                                                    :=
                                                                                                                    1,
                                                                                                                    base
                                                                                                                    :=
                                                                                                                    0x1000,
                                                                                                                    prod
                                                                                                                    :=
                                                                                                                    0x13,
                                                                                                                    cons
                                                                                                                    :=
                                                                                                                    0x13,
                                                                                                                    qstate
                                                                                                                    :=
                                                                                                                    .enabled,
                                                                                                                    wpA
                                                                                                                    :=
                                                                                                                    1,
                                                                                                                    wpB
                                                                                                                    :=
                                                                                                                    131070
                                                                                                                    })]
                                                                                                   }) :
    State).queueSoft 3 .pointers, by decide +kernel⟩

theorem witness_QueueControl_qOpenStale : ∃ (m : Master) (q : QueueId) (x : QueueSoft) (s : State) (u : State),
    s.queueSoft q.val x = u ∧ portCheck m q.val (u.queue q.val) (true) (true) (mayConsume m q.val (u.queue q.val)) =
      .ok ∧ (u.queue q.val).mismatch = true :=
  ⟨.host, 3, .pointers, { State.reset with queues := [(3, { kind := .data, log2n := 1, base := 0x1000, prod := 0x13,
                                                              cons := 0x13, qstate := .enabled, wpA := 1, wpB :=
                                                              131070 })] }, (({ State.reset with queues := [(3, { kind
                                                                                                                    :=
                                                                                                                    .data,
                                                                                                                    log2n
                                                                                                                    :=
                                                                                                                    1,
                                                                                                                    base
                                                                                                                    :=
                                                                                                                    0x1000,
                                                                                                                    prod
                                                                                                                    :=
                                                                                                                    0x13,
                                                                                                                    cons
                                                                                                                    :=
                                                                                                                    0x13,
                                                                                                                    qstate
                                                                                                                    :=
                                                                                                                    .enabled,
                                                                                                                    wpA
                                                                                                                    :=
                                                                                                                    1,
                                                                                                                    wpB
                                                                                                                    :=
                                                                                                                    131070
                                                                                                                    })]
                                                                                                   }) :
    State).queueSoft 3 .pointers, by decide +kernel⟩

theorem witness_QueueControl_qpolicy : ∃ (path : Path) (v : BitVec 64) (q : Nat) (s : State),
    s.accessStatus path true 0x2420 3 = .ok ∧ s.reg Reg.QSEL = q ∧ isBridleQueue q = false ∧ (s.queue q).qstate ≠
      .unbound ∧ bitField v.toNat 0 20 ≤ 1000000 ∧ bitField v.toNat 35 17 ≤ (s.queue q).size ∧ bitField v.toNat 52 12
      = 0 :=
  ⟨.sys, BitVec.ofNat 64 (1000000 + 2 ^ 20 + 2 ^ 36), 3, { State.reset with regs := [(Reg.QSEL.key, 3)], queues :=
                                                                              [(3, { kind := .data, log2n := 1, base
                                                                                       := 0x1000, prod := 0x13, cons
                                                                                       := 0x13, qstate := .enabled,
                                                                                       wpA := 1, wpB := 131070 })] },
    by decide +kernel⟩

theorem witness_QueueControl_qpolicyBridle : ∃ (path : Path) (s : State),
    s.accessStatus path true 0x2420 3 = .ok ∧ isBridleQueue (s.reg Reg.QSEL) = true :=
  ⟨.sys, { State.reset with regs := [(Reg.QSEL.key, 0x7F00)] }, by decide +kernel⟩

theorem witness_QueueControl_qpolicyBad : ∃ (path : Path) (v : BitVec 64) (q : Nat) (s : State),
    s.accessStatus path true 0x2420 3 = .ok ∧ s.reg Reg.QSEL = q ∧ isBridleQueue q = false ∧ ((s.queue q).qstate =
      .unbound ∨ 1000000 < bitField v.toNat 0 20 ∨ (s.queue q).size < bitField v.toNat 35 17 ∨ bitField v.toNat 52 12
      ≠ 0) :=
  ⟨.sys, 1000001, 3, { State.reset with regs := [(Reg.QSEL.key, 3)], queues := [(3, { kind := .data, log2n := 1, base
                                                                                        := 0x1000, prod := 0x13, cons
                                                                                        := 0x13, qstate := .enabled,
                                                                                        wpA := 1, wpB := 131070 })] },
    by decide +kernel⟩

theorem witness_QueueControl_staleTail : ∃ (q : QueueId) (at' : Nat) (s : State),
    (s.queue q.val).timerFrom = some at' ∧ (s.queue q.val).tmoUs ≠ 0 ∧ (s.queue q.val).count ≠ 0 ∧ (s.queue
      q.val).raised = false ∧ at' + 1000 * (s.queue q.val).tmoUs ≤ s.now :=
  ⟨3, 5, { State.reset with now := 2005, queues := [(3, { kind := .data, log2n := 1, base := 0x1000, prod := 0x13,
                                                            cons := 0x13, qstate := .enabled, wpA := 1, tmoUs := 2,
                                                            timerFrom := some 5, wpB := 131070 })] },
    by decide +kernel⟩

theorem witness_QueueControl_staleTailWaits : ∃ (q : QueueId) (s : State),
    ((s.queue q.val).timerFrom = none ∨ (s.queue q.val).tmoUs = 0 ∨ (s.queue q.val).count = 0 ∨ (s.queue q.val).raised
      = true ∨ s.now < ((s.queue q.val).timerFrom).getD 0 + 1000 * (s.queue q.val).tmoUs) :=
  ⟨3, State.reset, by decide +kernel⟩

theorem witness_EngineControl_drain : ∃ (path : Path) (e : EngineId) (s : State),
    s.accessStatus path true (0x3610 + engineNum e) 2 = .ok ∧ (s.engine (engineNum e)).st = .enabled :=
  ⟨.sys, .mover, headed 2 0x30 [], by decide +kernel⟩

theorem witness_EngineControl_drainRuns : ∃ (path : Path) (e : EngineId) (s : State),
    s.accessStatus path true (0x3610 + engineNum e) 2 = .ok ∧ (s.engine (engineNum e)).st = .enabled ∧ (s.engine
      (engineNum e)).running ≠ none :=
  ⟨.sys, .mover, ran 2 0x30 [], by decide +kernel⟩

theorem witness_EngineControl_drainIdle : ∃ (path : Path) (e : EngineId) (s : State),
    s.accessStatus path true (0x3610 + engineNum e) 2 = .ok ∧ (s.engine (engineNum e)).st = .enabled ∧ (s.engine
      (engineNum e)).running = none ∧ (s.engine (engineNum e)).held = [] ∧ s.engineQueues (engineNum e) = [] :=
  ⟨.sys, .fetch 3, State.reset, by decide +kernel⟩

theorem witness_EngineControl_drainDone : ∃ (path : Path) (e : EngineId) (s : State),
    s.accessStatus path true (0x3610 + engineNum e) 2 = .ok ∧ ((s.engine (engineNum e)).st = .draining ∨ (s.engine
      (engineNum e)).st = .disabled) :=
  ⟨.sys, .mover, { State.reset with engines := [(2, { st := .disabled })] }, by decide +kernel⟩

theorem witness_EngineControl_drainRefused : ∃ (path : Path) (e : EngineId) (s : State),
    s.accessStatus path true (0x3610 + engineNum e) 2 = .ok ∧ (s.engine (engineNum e)).st = .aborting :=
  ⟨.sys, .mover, { State.reset with engines := [(2, { st := .aborting })] }, by decide +kernel⟩

theorem witness_EngineControl_abort : ∃ (path : Path) (e : EngineId) (s : State),
    s.accessStatus path true (0x3610 + engineNum e) 2 = .ok ∧ ((s.engine (engineNum e)).st = .enabled ∨ (s.engine
      (engineNum e)).st = .draining) :=
  ⟨.sys, .mover, headed 2 0x30 [], by decide +kernel⟩

theorem witness_EngineControl_abortDone : ∃ (path : Path) (e : EngineId) (s : State),
    s.accessStatus path true (0x3610 + engineNum e) 2 = .ok ∧ ((s.engine (engineNum e)).st = .aborting ∨ (s.engine
      (engineNum e)).st = .disabled) :=
  ⟨.sys, .mover, { State.reset with engines := [(2, { st := .disabled })] }, by decide +kernel⟩

theorem witness_EngineControl_enable : ∃ (path : Path) (e : EngineId) (s : State),
    s.accessStatus path true (0x3610 + engineNum e) 2 = .ok ∧ (s.engine (engineNum e)).st ≠ .aborting :=
  ⟨.sys, .mover, { State.reset with engines := [(2, { st := .disabled })] }, by decide +kernel⟩

theorem witness_EngineControl_enableRefused : ∃ (path : Path) (e : EngineId) (s : State),
    s.accessStatus path true (0x3610 + engineNum e) 2 = .ok ∧ (s.engine (engineNum e)).st = .aborting :=
  ⟨.sys, .mover, { State.reset with engines := [(2, { st := .aborting })] }, by decide +kernel⟩

theorem witness_EngineControl_engDrainDenied : ∃ (path : Path) (e : EngineId) (st : Status) (s : State),
    s.accessStatus path true (0x3610 + engineNum e) 2 = st ∧ st ≠ .ok :=
  ⟨.can, .mover, .refused, State.reset, by decide +kernel⟩

theorem witness_EngineControl_engAbortDenied : ∃ (path : Path) (e : EngineId) (st : Status) (s : State),
    s.accessStatus path true (0x3610 + engineNum e) 2 = st ∧ st ≠ .ok :=
  ⟨.can, .mover, .refused, State.reset, by decide +kernel⟩

theorem witness_EngineControl_engEnableDenied : ∃ (path : Path) (e : EngineId) (st : Status) (s : State),
    s.accessStatus path true (0x3610 + engineNum e) 2 = st ∧ st ≠ .ok :=
  ⟨.can, .mover, .refused, State.reset, by decide +kernel⟩

theorem witness_AddressedMemory_outsideRead : ∃ (addr : Nat) (k : Nat) (s : State) (u : State),
    s.bumpBy Reg.CTRL_RETRY k = u ∧ outside u.variant addr = true :=
  ⟨0x2000000, 2, State.reset, ((State.reset) : State).bumpBy Reg.CTRL_RETRY 2, by decide +kernel⟩

theorem witness_AddressedMemory_outsideWrite : ∃ (addr : Nat) (k : Nat) (s : State) (u : State),
    s.bumpBy Reg.CTRL_RETRY k = u ∧ outside u.variant addr = true :=
  ⟨0x100060040, 2, State.reset, ((State.reset) : State).bumpBy Reg.CTRL_RETRY 2, by decide +kernel⟩

theorem witness_AddressedMemory_deniedRead : ∃ (d : Option Obj × Bool) (m : Master) (addr : Nat) (k : Nat) (s : State) (u : State),
    s.bumpBy Reg.CTRL_RETRY k = u ∧ outside u.variant addr = false ∧ u.denial m false addr = some d :=
  ⟨(some Reg.TACK_DENIED, true), .host, 0x8000000, 2, State.reset, ((State.reset) : State).bumpBy Reg.CTRL_RETRY 2,
    by decide +kernel⟩

theorem witness_AddressedMemory_deniedWrite : ∃ (d : Option Obj × Bool) (m : Master) (addr : Nat) (k : Nat) (s : State) (u : State),
    s.bumpBy Reg.CTRL_RETRY k = u ∧ outside u.variant addr = false ∧ u.denial m true addr = some d :=
  ⟨(none, false), .host, 0x10000000, 2, State.reset, ((State.reset) : State).bumpBy Reg.CTRL_RETRY 2,
    by decide +kernel⟩

theorem witness_AddressedMemory_widthRead : ∃ (m : Master) (addr : Nat) (n : Nat) (k : Nat) (s : State) (u : State),
    s.bumpBy Reg.CTRL_RETRY k = u ∧ outside u.variant addr = false ∧ u.denial m false addr = none ∧ judgesItself
      u.variant false addr = false ∧ (n ∉ widthsAt u.variant false addr ∨ addr % n ≠ 0) :=
  ⟨.host, 0xC000008, 16, 2, State.reset, ((State.reset) : State).bumpBy Reg.CTRL_RETRY 2, by decide +kernel⟩

theorem witness_AddressedMemory_widthWrite : ∃ (m : Master) (addr : Nat) (k : Nat) (data : List Byte) (s : State) (u : State),
    s.bumpBy Reg.CTRL_RETRY k = u ∧ outside u.variant addr = false ∧ u.denial m true addr = none ∧ judgesItself
      u.variant true addr = false ∧ (data.length ∉ widthsAt u.variant true addr ∨ addr % data.length ≠ 0) :=
  ⟨.host, 0x2, 2, [1, 2, 3, 4], State.reset, ((State.reset) : State).bumpBy Reg.CTRL_RETRY 2, by decide +kernel⟩

theorem witness_AddressedMemory_read : ∃ (m : Master) (addr : Nat) (n : Nat) (k : Nat) (s : State) (u : State),
    s.bumpBy Reg.CTRL_RETRY k = u ∧ outside u.variant addr = false ∧ u.denial m false addr = none ∧ (judgesItself
      u.variant false addr = true ∨ n ∈ widthsAt u.variant false addr ∧ addr % n = 0) :=
  ⟨.host, 0x1FBFFC0, 64, 2, State.reset, ((State.reset) : State).bumpBy Reg.CTRL_RETRY 2, by decide +kernel⟩

theorem witness_AddressedMemory_write : ∃ (m : Master) (addr : Nat) (k : Nat) (data : List Byte) (s : State) (u : State),
    s.bumpBy Reg.CTRL_RETRY k = u ∧ outside u.variant addr = false ∧ u.denial m true addr = none ∧ (judgesItself
      u.variant true addr = true ∨ data.length ∈ widthsAt u.variant true addr ∧ addr % data.length = 0) ∧ (regionOf
      u.variant addr).isDdr = false :=
  ⟨.host, 0xA000020, 2, [1, 0, 0, 0], State.reset, ((State.reset) : State).bumpBy Reg.CTRL_RETRY 2, by decide +kernel⟩

theorem witness_AddressedMemory_writeDdr : ∃ (off : Nat) (m : Master) (addr : Nat) (k : Nat) (data : List Byte) (s : State) (u : State),
    s.bumpBy Reg.CTRL_RETRY k = u ∧ outside u.variant addr = false ∧ u.denial m true addr = none ∧ (judgesItself
      u.variant true addr = true ∨ data.length ∈ widthsAt u.variant true addr ∧ addr % data.length = 0) ∧ regionOf
      u.variant addr = .ddr off :=
  ⟨64, .host, 0x1000000040, 2, [1, 0, 0, 0, 0, 0, 0, 0], { State.reset with security := { xtsOwner := some 1 } }, (({
    State.reset with security := { xtsOwner := some 1 } }) : State).bumpBy Reg.CTRL_RETRY 2, by decide +kernel⟩

theorem witness_AddressedMemory_readPlain : ∃ (addr : Nat) (u : State),
    (regionOf u.variant addr).plain = true :=
  ⟨0x1FBFFC0, { State.reset with mem := [(0x1FBFFFF, 9)] }, by decide +kernel⟩

theorem witness_AddressedMemory_readHitch : ∃ (addr : Nat) (h : Nat) (off : Nat) (u : State),
    regionOf u.variant addr = .hitchTable h off :=
  ⟨0xC000028, 1, 8, State.reset, by decide +kernel⟩

theorem witness_AddressedMemory_readQueue : ∃ (addr : Nat) (q : Nat) (off : Nat) (u : State),
    regionOf u.variant addr = .queueBlock q off :=
  ⟨0xA000048, 1, 8, State.reset, by decide +kernel⟩

theorem witness_AddressedMemory_readTile : ∃ (addr : Nat) (c : Nat) (tl : Nat) (off : Nat) (u : State),
    regionOf u.variant addr = .tile c tl off :=
  ⟨0x100080008, 0, 1, 8, State.reset, by decide +kernel⟩

theorem witness_AddressedMemory_readWindow : ∃ (addr : Nat) (bk : Nat) (w : Nat) (off : Nat) (u : State),
    regionOf u.variant addr = .windowBlock bk w off :=
  ⟨0x4078050, 0, 1, 16, State.reset, by decide +kernel⟩

theorem witness_AddressedMemory_readAlias : ∃ (addr : Nat) (off : Nat) (u : State),
    (regionOf u.variant addr = .setAlias off ∨ regionOf u.variant addr = .clearAlias off) :=
  ⟨0x6078014, 0x78014, State.reset, by decide +kernel⟩

theorem witness_AddressedMemory_writeStores : ∃ (addr : Nat) (u : State),
    (regionOf u.variant addr).stores = true :=
  ⟨0x1FFFFFC, { State.reset with mem := [(0x1FFFFFF, 9)] }, by decide +kernel⟩

theorem witness_AddressedMemory_writeHitch : ∃ (addr : Nat) (h : Nat) (off : Nat) (u : State),
    regionOf u.variant addr = .hitchTable h off :=
  ⟨0xC000028, 1, 8, State.reset, by decide +kernel⟩

theorem witness_AddressedMemory_writeQueue : ∃ (addr : Nat) (q : Nat) (off : Nat) (u : State),
    regionOf u.variant addr = .queueBlock q off :=
  ⟨0xA000060, 1, 32, State.reset, by decide +kernel⟩

theorem witness_AddressedMemory_writeWindow : ∃ (addr : Nat) (bk : Nat) (w : Nat) (off : Nat) (u : State),
    regionOf u.variant addr = .windowBlock bk w off :=
  ⟨0x4078070, 0, 1, 48, State.reset, by decide +kernel⟩

theorem witness_AddressedMemory_writeSetAlias : ∃ (addr : Nat) (off : Nat) (u : State),
    regionOf u.variant addr = .setAlias off :=
  ⟨0x5000008, 8, State.reset, by decide +kernel⟩

theorem witness_AddressedMemory_writeClearAlias : ∃ (addr : Nat) (off : Nat) (u : State),
    regionOf u.variant addr = .clearAlias off :=
  ⟨0x6000008, 8, State.reset, by decide +kernel⟩

theorem witness_AddressedMemory_writeTile : ∃ (addr : Nat) (c : Nat) (tl : Nat) (off : Nat) (u : State),
    regionOf u.variant addr = .tile c tl off :=
  ⟨0x100080008, 0, 1, 8, State.reset, by decide +kernel⟩

theorem witness_AddressedMemory_writeFar : ∃ (addr : Nat) (off : Nat) (u : State),
    regionOf u.variant addr = .ddr off ∧ u.farDirOwner addr = none :=
  ⟨0x1000000040, 64, State.reset, by decide +kernel⟩

theorem witness_AddressedMemory_writeDirectory : ∃ (addr : Nat) (off : Nat) (c : Nat) (u : State),
    regionOf u.variant addr = .ddr off ∧ u.farDirOwner addr = some c :=
  ⟨0x1000000008, 8, 1, { State.reset with tiles := [(66, { map := { n := 1, farBase := [0x1000000000, 0, 0, 0],
                                                                      farCount := [2, 0, 0, 0] } })] },
    by decide +kernel⟩

theorem witness_WindowsAndBankGrants_descriptor : ∃ (path : Path) (b : BankId) (w : Fin 32) (v : BitVec 64) (x : Window) (s : State),
    s.accessStatus path true (0x2440 + b.val) (w.val + 1) = .ok ∧ ¬ (b.val = 15 ∧ 24 ≤ w.val ∧ path ≠ .sys) ∧
      s.windowInUse b.val w.val = false ∧ windowOf b.val v.toNat = some x :=
  ⟨.sys, 15, 31, BitVec.ofNat 64 (0x1E00000 + 12 * 2 ^ 25 + 2 * 2 ^ 30), { base := 0x1E00000, log2size := 12, mode :=
                                                                             .append }, State.reset,
    by decide +kernel⟩

theorem witness_WindowsAndBankGrants_descriptorInUse : ∃ (path : Path) (b : BankId) (w : Fin 32) (s : State),
    s.accessStatus path true (0x2440 + b.val) (w.val + 1) = .ok ∧ ¬ (b.val = 15 ∧ 24 ≤ w.val ∧ path ≠ .sys) ∧
      s.windowInUse b.val w.val = true :=
  ⟨.sys, 0, 0, { State.reset with windows := [(0, { log2size := 12, mode := .append })], queues := [(3, { kind :=
                                                                                                            .data,
                                                                                                            log2n :=
                                                                                                            1, base :=
                                                                                                            0xFE0,
                                                                                                            prod :=
                                                                                                            0x13, cons
                                                                                                            := 0x13,
                                                                                                            qstate :=
                                                                                                            .enabled
                                                                                                            })] },
    by decide +kernel⟩

theorem witness_WindowsAndBankGrants_descriptorBad : ∃ (path : Path) (b : BankId) (w : Fin 32) (v : BitVec 64) (s : State),
    s.accessStatus path true (0x2440 + b.val) (w.val + 1) = .ok ∧ ¬ (b.val = 15 ∧ 24 ≤ w.val ∧ path ≠ .sys) ∧
      s.windowInUse b.val w.val = false ∧ windowOf b.val v.toNat = none :=
  ⟨.sys, 0, 31, BitVec.ofNat 64 (3 * 2 ^ 30), State.reset, by decide +kernel⟩

theorem witness_WindowsAndBankGrants_descriptorFirmware : ∃ (path : Path) (b : BankId) (w : Fin 32) (s : State),
    s.accessStatus path true (0x2440 + b.val) (w.val + 1) = .ok ∧ (b.val = 15 ∧ 24 ≤ w.val ∧ path ≠ .sys) :=
  ⟨.usb, 15, 31, { State.reset with regs := [(Reg.BRINGUP_STAGE.key, 6)] }, by decide +kernel⟩

theorem witness_WindowsAndBankGrants_descriptorDenied : ∃ (path : Path) (b : BankId) (w : Fin 32) (st : Status) (s : State),
    s.accessStatus path true (0x2440 + b.val) (w.val + 1) = st ∧ st ≠ .ok :=
  ⟨.usb, 15, 31, .refused, State.reset, by decide +kernel⟩

theorem witness_WindowsAndBankGrants_consume : ∃ (m : Master) (b : BankId) (w : Fin 32) (n : BitVec 32) (s : State),
    ([0, 1, 2, 3, 4, 5].find? fun p => s.skid p == some (b.val, w.val) && s.reg (Reg.PORT_STATE p) != 0) = none ∧
      mayReadBank m b.val w.val = true ∧ (s.window b.val w.val).mode = .append ∧ n.toNat % 16 = 0 ∧ n.toNat ≤
      (s.window b.val w.val).fill :=
  ⟨.host, 0, 0, 32, { State.reset with windows := [(0, { log2size := 12, mode := .append, wr := 16, rd := 0xFFFFFFF0
                                                           })] }, by decide +kernel⟩

theorem witness_WindowsAndBankGrants_consumeBad : ∃ (m : Master) (b : BankId) (w : Fin 32) (n : BitVec 32) (s : State),
    ([0, 1, 2, 3, 4, 5].find? fun p => s.skid p == some (b.val, w.val) && s.reg (Reg.PORT_STATE p) != 0) = none ∧
      mayReadBank m b.val w.val = true ∧ ((s.window b.val w.val).mode ≠ .append ∨ n.toNat % 16 ≠ 0 ∨ (s.window b.val
      w.val).fill < n.toNat) :=
  ⟨.host, 0, 0, 48, { State.reset with windows := [(0, { log2size := 12, mode := .append, wr := 16, rd := 0xFFFFFFF0
                                                           })] }, by decide +kernel⟩

theorem witness_WindowsAndBankGrants_consumeSkid : ∃ (m : Master) (b : BankId) (w : Fin 32) (p : Nat) (s : State),
    mayReadBank m b.val w.val = true ∧ ([0, 1, 2, 3, 4, 5].find? fun p => s.skid p == some (b.val, w.val) && s.reg
      (Reg.PORT_STATE p) != 0) = some p :=
  ⟨.host, 1, 0, 4, { State.reset with regs := [((Reg.PORT_STATE 4).key, 1), ((Reg.SKID_BASE 4).key, 0x200000)],
                                        windows := [(32, { base := 0x200000, log2size := 21, mode := .append, wr := 16
                                                             })] }, by decide +kernel⟩

theorem witness_WindowsAndBankGrants_consumeDenied : ∃ (m : Master) (b : BankId) (w : Fin 32),
    mayReadBank m b.val w.val = false :=
  ⟨.host, 15, 24, by decide +kernel⟩

theorem witness_WindowsAndBankGrants_clear : ∃ (m : Master) (b : BankId) (w : Fin 32),
    mayReadBank m b.val w.val = true :=
  ⟨.host, 0, 0, by decide +kernel⟩

theorem witness_WindowsAndBankGrants_clearBad : ∃ (m : Master) (b : BankId) (w : Fin 32) (v : BitVec 32),
    mayReadBank m b.val w.val = true ∧ v ≠ 1 :=
  ⟨.host, 0, 0, 3, by decide +kernel⟩

theorem witness_WindowsAndBankGrants_clearDenied : ∃ (m : Master) (b : BankId) (w : Fin 32),
    mayReadBank m b.val w.val = false :=
  ⟨.host, 15, 24, by decide +kernel⟩

theorem witness_WindowsAndBankGrants_cycle : ∃ (b : Fin 24),
    b.val < 16 :=
  ⟨1, by decide +kernel⟩

theorem witness_WindowsAndBankGrants_controlCycle : ∃ (b : Fin 24),
    16 ≤ b.val :=
  ⟨16, by decide +kernel⟩

theorem witness_WindowsAndBankGrants_grantWrite : ∃ (b : Fin 24) (x : BankAccess) (d : List Byte) (s : State),
    b.val < 16 ∧ Assoc.getD s.bankWait b.val [] = [] ∧ presents b.val x = true ∧ x.write = some d :=
  ⟨0, { port := .dense, addr := 8, len := 8, write := some [1, 2, 3, 4, 5, 6, 7, 8] }, [1, 2, 3, 4, 5, 6, 7, 8],
    State.reset, by decide +kernel⟩

theorem witness_WindowsAndBankGrants_grantRead : ∃ (b : Fin 24) (x : BankAccess) (s : State),
    b.val < 16 ∧ Assoc.getD s.bankWait b.val [] = [] ∧ presents b.val x = true ∧ x.write = none :=
  ⟨15, { port := .mgmt, addr := 0x1FFFFC0, len := 64, write := none }, State.reset, by decide +kernel⟩

theorem witness_WindowsAndBankGrants_collision : ∃ (b : Fin 24) (x : BankAccess) (y : BankAccess) (d : List Byte) (d' : List Byte) (s : State),
    b.val < 16 ∧ Assoc.getD s.bankWait b.val [] = [] ∧ presents b.val x = true ∧ presents b.val y = true ∧ grantOrder
      (s.viewObj (Reg.BANK_OWNER b.val)) [⟨x, 0⟩, ⟨y, 0⟩] = [⟨x, 0⟩, ⟨y, 0⟩] ∧ x.write = some d ∧ y.write = some d' ∧
      sharedWords x y ≠ [] :=
  ⟨0, { port := .intake, addr := 8, len := 8, write := some [1, 2, 3, 4, 5, 6, 7, 8] }, { port := .mgmt, addr := 12,
                                                                                            len := 4, write := some
                                                                                            [1, 2, 3, 4] }, [1, 2, 3,
    4, 5, 6, 7, 8], [1, 2, 3, 4], State.reset, by decide +kernel⟩

theorem witness_WindowsAndBankGrants_stalls : ∃ (b : Fin 24) (x : BankAccess) (y : BankAccess) (z : BankAccess) (s : State),
    b.val < 16 ∧ Assoc.getD s.bankWait b.val [] = [] ∧ presents b.val x = true ∧ presents b.val y = true ∧ presents
      b.val z = true ∧ grantOrder (s.viewObj (Reg.BANK_OWNER b.val)) [⟨x, 0⟩, ⟨y, 0⟩, ⟨z, 0⟩] = [⟨x, 0⟩, ⟨y, 0⟩, ⟨z,
      0⟩] ∧ sharedWords x y = [] ∧ x.write = none ∧ y.write = none :=
  ⟨0, { port := .intake, addr := 8, len := 8, write := none }, { port := .dense, addr := 16, len := 8, write := none
                                                                   }, { port := .seq 15, addr := 16, len := 8, write
                                                                          := none }, State.reset, by decide +kernel⟩

theorem witness_WindowsAndBankGrants_busy : ∃ (x : BankAccess) (y : BankAccess) (d : List Byte),
    sharedWords x y ≠ [] ∧ y.write = none ∧ x.write = some d :=
  ⟨{ port := .intake, addr := 8, len := 8, write := some [1, 2, 3, 4, 5, 6, 7, 8] }, { port := .mgmt, addr := 12, len
                                                                                         := 4, write := none }, [1, 2,
    3, 4, 5, 6, 7, 8], by decide +kernel⟩

theorem witness_WindowsAndBankGrants_busyAhead : ∃ (x : BankAccess) (y : BankAccess) (d : List Byte),
    sharedWords x y ≠ [] ∧ x.write = none ∧ y.write = some d :=
  ⟨{ port := .intake, addr := 8, len := 8, write := none }, { port := .mgmt, addr := 12, len := 4, write := some [1,
                                                                2, 3, 4] }, [1, 2, 3, 4], by decide +kernel⟩

theorem witness_DictionaryWrites_absent : ∃ (index : BitVec 16) (sub : BitVec 8),
    readTarget index.toNat sub.toNat = none :=
  ⟨0x1FFF, 0, by decide +kernel⟩

theorem witness_DictionaryWrites_denied : ∃ (path : Path) (index : BitVec 16) (sub : BitVec 8) (st : Status) (s : State),
    readTarget index.toNat sub.toNat ≠ none ∧ s.accessStatus path true index.toNat sub.toNat = st ∧ st ≠ .ok :=
  ⟨.tether, 0x2040, 0x0B, .security, State.reset, by decide +kernel⟩

theorem witness_DictionaryWrites_count : ∃ (path : Path) (index : BitVec 16) (sub : BitVec 8) (s : State),
    readTarget index.toNat sub.toNat = some none ∧ s.accessStatus path true index.toNat sub.toNat = .ok ∧ index.toNat
      ≠ 0x1003 :=
  ⟨.sys, 0x2420, 0, State.reset, by decide +kernel⟩

theorem witness_DictionaryWrites_history : ∃ (path : Path) (index : BitVec 16) (sub : BitVec 8) (s : State),
    readTarget index.toNat sub.toNat = some none ∧ s.accessStatus path true index.toNat sub.toNat = .ok ∧ index.toNat
      = 0x1003 :=
  ⟨.sys, 0x1003, 0, State.reset, by decide +kernel⟩

theorem witness_DictionaryWrites_readOnly : ∃ (path : Path) (index : BitVec 16) (sub : BitVec 8) (o : Obj) (s : State),
    Reg.find index.toNat sub.toNat = some o ∧ s.accessStatus path true index.toNat sub.toNat = .ok ∧ (o.acc = .ro ∨
      o.acc = .rc) :=
  ⟨.sys, 0x2600, 1, Reg.DEV_NUM, State.reset, by decide +kernel⟩

theorem witness_DictionaryWrites_length : ∃ (path : Path) (index : BitVec 16) (sub : BitVec 8) (data : List Byte) (o : Obj) (s : State),
    Reg.find index.toNat sub.toNat = some o ∧ s.accessStatus path true index.toNat sub.toNat = .ok ∧ o.acc ≠ .ro ∧
      o.acc ≠ .rc ∧ data.length ≠ o.ty.bytes :=
  ⟨.sys, 0x2420, 1, [0xFF], Reg.QSEL, State.reset, by decide +kernel⟩

theorem witness_DictionaryWrites_fabricCommand : ∃ (r : Status × State) (path : Path) (index : BitVec 16) (sub : BitVec 8) (data : List Byte) (f : WriteFacts) (o : Obj) (s : State),
    Reg.find index.toNat sub.toNat = some o ∧ s.accessStatus path true index.toNat sub.toNat = .ok ∧ o.acc ≠ .ro ∧
      o.acc ≠ .rc ∧ data.length = o.ty.bytes ∧ s.fabricCommand o.index o.sub (leNat data) f = some r :=
  ⟨State.reset.consolNow 1, .sys, 0x3500, 8, [1], { store := .ok, others := true }, Reg.CONSOL_NOW, State.reset,
    by decide +kernel⟩

theorem witness_DictionaryWrites_deviceCommand : ∃ (r : Status × State) (path : Path) (index : BitVec 16) (sub : BitVec 8) (data : List Byte) (f : WriteFacts) (o : Obj) (s : State),
    Reg.find index.toNat sub.toNat = some o ∧ s.accessStatus path true index.toNat sub.toNat = .ok ∧ o.acc ≠ .ro ∧
      o.acc ≠ .rc ∧ data.length = o.ty.bytes ∧ s.fabricCommand o.index o.sub (leNat data) f = none ∧ s.deviceCommand
      path o.index o.sub (leNat data) f = some r :=
  ⟨(.ok, State.reset), .sys, 0x7000, 4, [1], { store := .ok, others := true }, Reg.FLOG_CLEAR, State.reset,
    by decide +kernel⟩

theorem witness_DictionaryWrites_refused : ∃ (st : Status) (t : State) (path : Path) (index : BitVec 16) (sub : BitVec 8) (data : List Byte) (f : WriteFacts) (o : Obj) (s : State),
    Reg.find index.toNat sub.toNat = some o ∧ s.accessStatus path true index.toNat sub.toNat = .ok ∧ o.acc ≠ .ro ∧
      o.acc ≠ .rc ∧ data.length = o.ty.bytes ∧ s.fabricCommand o.index o.sub (leNat data) f = none ∧ s.deviceCommand
      path o.index o.sub (leNat data) f = none ∧ s.writePlain o (leNat data) = (st, t) ∧ st ≠ .ok :=
  ⟨.badFormat, State.reset, .sys, 0x2420, 1, [0xFF, 0xFF], { store := .ok, others := true }, Reg.QSEL, State.reset,
    by decide +kernel⟩

theorem witness_DictionaryWrites_written : ∃ (t : State) (path : Path) (index : BitVec 16) (sub : BitVec 8) (data : List Byte) (f : WriteFacts) (o : Obj) (s : State),
    Reg.find index.toNat sub.toNat = some o ∧ s.accessStatus path true index.toNat sub.toNat = .ok ∧ o.acc ≠ .ro ∧
      o.acc ≠ .rc ∧ data.length = o.ty.bytes ∧ s.fabricCommand o.index o.sub (leNat data) f = none ∧ s.deviceCommand
      path o.index o.sub (leNat data) f = none ∧ s.writePlain o (leNat data) = (.ok, t) ∧ o.acc ≠ .rwp :=
  ⟨State.reset.setReg Reg.QSEL 0x7FFF, .sys, 0x2420, 1, [0xFF, 0x7F], { store := .ok, others := true }, Reg.QSEL,
    State.reset, by decide +kernel⟩

theorem witness_DictionaryWrites_committed : ∃ (t : State) (path : Path) (index : BitVec 16) (sub : BitVec 8) (data : List Byte) (f : WriteFacts) (o : Obj) (s : State),
    Reg.find index.toNat sub.toNat = some o ∧ s.accessStatus path true index.toNat sub.toNat = .ok ∧ o.acc ≠ .ro ∧
      o.acc ≠ .rc ∧ data.length = o.ty.bytes ∧ s.fabricCommand o.index o.sub (leNat data) f = none ∧ s.deviceCommand
      path o.index o.sub (leNat data) f = none ∧ s.writePlain o (leNat data) = (.ok, t) ∧ o.acc = .rwp :=
  ⟨State.reset.setReg Reg.NODE_ID 127, .sys, 0x2810, 1, [127], { store := .ok, others := true }, Reg.NODE_ID,
    State.reset, by decide +kernel⟩

theorem witness_DictionaryWrites_outOfRange : ∃ (o : Obj) (v : Nat) (s : State),
    o.acc ≠ .ro ∧ o.acc ≠ .rc ∧ (s.rangeOk o v = false ∨ noLanes o.index o.sub = true ∨ s.mappingMay o.index o.sub v =
      false) :=
  ⟨Reg.QSEL, 0x8000, State.reset, by decide +kernel⟩

theorem witness_DictionaryWrites_locked : ∃ (o : Obj) (v : Nat) (p : Nat) (s : State),
    o.acc ≠ .ro ∧ o.acc ≠ .rc ∧ s.rangeOk o v = true ∧ noLanes o.index o.sub = false ∧ s.mappingMay o.index o.sub v =
      true ∧ (lockedPort o.index o.sub = some p ∧ s.reg (Reg.PORT_STATE p) ≠ 0 ∨ o.index = 0x2410 ∧ o.sub = 0x10) :=
  ⟨Reg.SKID_BASE 1, 0, 1, { State.reset with regs := [((Reg.PORT_STATE 1).key, 1)] }, by decide +kernel⟩

theorem witness_DictionaryWrites_plain : ∃ (o : Obj) (v : Nat) (s : State),
    o.acc ≠ .ro ∧ o.acc ≠ .rc ∧ o.acc ≠ .w1c ∧ s.rangeOk o v = true ∧ noLanes o.index o.sub = false ∧ s.mappingMay
      o.index o.sub v = true ∧ lockedPort o.index o.sub = none ∧ ¬ (o.index = 0x2410 ∧ o.sub = 0x10) ∧ s.shadowWrite
      o.index o.sub v = none ∧ o.index ≠ 0x3510 ∧ atReleaseObj o.index o.sub = false :=
  ⟨Reg.QSEL, 5, State.reset, by decide +kernel⟩

theorem witness_DictionaryWrites_rcRead : ∃ (path : Path) (index : BitVec 16) (sub : BitVec 8) (o : Obj) (s : State),
    Reg.find index.toNat sub.toNat = some o ∧ o.acc = .rc ∧ s.accessStatus path false index.toNat sub.toNat = .ok :=
  ⟨.sys, 0x6060, 0x0F, Reg.COMPLETE_LAT_MAX, { State.reset with regs := [(Reg.COMPLETE_LAT_MAX.key, 5)] },
    by decide +kernel⟩

theorem witness_DictionaryWrites_rcDenied : ∃ (path : Path) (index : BitVec 16) (sub : BitVec 8) (o : Obj) (st : Status) (s : State),
    Reg.find index.toNat sub.toNat = some o ∧ o.acc = .rc ∧ s.accessStatus path false index.toNat sub.toNat = st ∧ st
      ≠ .ok :=
  ⟨.usb, 0x6060, 0x0F, Reg.COMPLETE_LAT_MAX, .refused, State.reset, by decide +kernel⟩

theorem witness_DictionaryWrites_rcAbsent : ∃ (index : BitVec 16) (sub : BitVec 8),
    Reg.find index.toNat sub.toNat = none :=
  ⟨0, 0x0F, by decide +kernel⟩

theorem witness_DictionaryWrites_rcOther : ∃ (index : BitVec 16) (sub : BitVec 8) (o : Obj),
    Reg.find index.toNat sub.toNat = some o ∧ o.acc ≠ .rc :=
  ⟨0x2420, 1, Reg.QSEL, by decide +kernel⟩

theorem witness_RouteAndScheduleSwitching_routeArm : ∃ (path : Path) (s : State),
    s.accessStatus path true 0x3300 3 = .ok ∧ s.reg Reg.ROUTE_STATE = 0 ∧ s.routeCheck s.routeShadow true = none :=
  ⟨.sys, State.reset, by decide +kernel⟩

theorem witness_RouteAndScheduleSwitching_routeArmFails : ∃ (path : Path) (f : CheckFail) (s : State),
    s.accessStatus path true 0x3300 3 = .ok ∧ s.reg Reg.ROUTE_STATE = 0 ∧ s.routeCheck s.routeShadow true = some f :=
  ⟨.sys, { check := 2, ref := 0 }, { State.reset with route1 := [(0, 16)] }, by decide +kernel⟩

theorem witness_RouteAndScheduleSwitching_routeArmRefused : ∃ (path : Path) (s : State),
    s.accessStatus path true 0x3300 3 = .ok ∧ s.reg Reg.ROUTE_STATE ≠ 0 :=
  ⟨.sys, { State.reset with regs := [(Reg.ROUTE_STATE.key, 1)] }, by decide +kernel⟩

theorem witness_RouteAndScheduleSwitching_routeDisarm : ∃ (path : Path) (s : State),
    s.accessStatus path true 0x3300 3 = .ok ∧ s.reg Reg.ROUTE_STATE = 1 :=
  ⟨.sys, { State.reset with regs := [(Reg.ROUTE_STATE.key, 1)] }, by decide +kernel⟩

theorem witness_RouteAndScheduleSwitching_routeDisarmed : ∃ (path : Path) (s : State),
    s.accessStatus path true 0x3300 3 = .ok ∧ s.reg Reg.ROUTE_STATE = 0 :=
  ⟨.sys, State.reset, by decide +kernel⟩

theorem witness_RouteAndScheduleSwitching_routeDisarmRefused : ∃ (path : Path) (s : State),
    s.accessStatus path true 0x3300 3 = .ok ∧ s.reg Reg.ROUTE_STATE ≠ 0 ∧ s.reg Reg.ROUTE_STATE ≠ 1 :=
  ⟨.sys, { State.reset with regs := [(Reg.ROUTE_STATE.key, 2)] }, by decide +kernel⟩

theorem witness_RouteAndScheduleSwitching_routeSwitch : ∃ (path : Path) (s : State),
    s.accessStatus path true 0x3300 4 = .ok ∧ s.isMaster = true ∧ s.reg Reg.ROUTE_STATE = 1 :=
  ⟨.sys, { State.reset with regs := [(Reg.ROUTE_STATE.key, 1)] }, by decide +kernel⟩

theorem witness_RouteAndScheduleSwitching_routeSwitchRefused : ∃ (path : Path) (others : Bool) (s : State),
    s.accessStatus path true 0x3300 4 = .ok ∧ (s.isMaster && others && s.reg Reg.ROUTE_STATE == 1) = false :=
  ⟨.sys, true, State.reset, by decide +kernel⟩

theorem witness_RouteAndScheduleSwitching_schedArm : ∃ (path : Path) (s : State),
    s.accessStatus path true 0x3400 0x0C = .ok ∧ s.reg Reg.SCHED_STATE = 0 ∧ s.slotCheck (!s.slotVersion) = none :=
  ⟨.sys, State.reset, by decide +kernel⟩

theorem witness_RouteAndScheduleSwitching_schedArmFails : ∃ (path : Path) (f : CheckFail) (s : State),
    s.accessStatus path true 0x3400 0x0C = .ok ∧ s.reg Reg.SCHED_STATE = 0 ∧ s.slotCheck (!s.slotVersion) = some f :=
  ⟨.sys, { check := 1, unit := 15, sub := 6, ref := 255 }, { State.reset with slots1 := [(256 * 111 + 255, 0xF00F)] },
    by decide +kernel⟩

theorem witness_RouteAndScheduleSwitching_schedArmRefused : ∃ (path : Path) (s : State),
    s.accessStatus path true 0x3400 0x0C = .ok ∧ s.reg Reg.SCHED_STATE ≠ 0 :=
  ⟨.sys, { State.reset with regs := [(Reg.SCHED_STATE.key, 1)] }, by decide +kernel⟩

theorem witness_RouteAndScheduleSwitching_schedDisarm : ∃ (path : Path) (s : State),
    s.accessStatus path true 0x3400 0x0C = .ok ∧ s.reg Reg.SCHED_STATE ≠ 2 :=
  ⟨.sys, { State.reset with regs := [(Reg.SCHED_STATE.key, 1)] }, by decide +kernel⟩

theorem witness_RouteAndScheduleSwitching_schedDisarmRefused : ∃ (path : Path) (s : State),
    s.accessStatus path true 0x3400 0x0C = .ok ∧ s.reg Reg.SCHED_STATE = 2 :=
  ⟨.sys, { State.reset with regs := [(Reg.SCHED_STATE.key, 2)] }, by decide +kernel⟩

theorem witness_RouteAndScheduleSwitching_schedSwitch : ∃ (path : Path) (s : State),
    s.accessStatus path true 0x3400 0x0D = .ok ∧ s.reg Reg.SCHED_STATE = 1 :=
  ⟨.sys, { State.reset with regs := [(Reg.SCHED_STATE.key, 1)] }, by decide +kernel⟩

theorem witness_RouteAndScheduleSwitching_schedSwitchRefused : ∃ (path : Path) (s : State),
    s.accessStatus path true 0x3400 0x0D = .ok ∧ s.reg Reg.SCHED_STATE ≠ 1 :=
  ⟨.sys, State.reset, by decide +kernel⟩

theorem witness_RouteAndScheduleSwitching_versionSwitch : ∃ (from' : Nat) (s : State),
    s.drainFrom = some from' ∧ (s.switchIn.any fun q => q.2 != []) = false :=
  ⟨3, { State.reset with now := 10, drainFrom := some 3 }, by decide +kernel⟩

theorem witness_RouteAndScheduleSwitching_versionWaits : ∃ (s : State),
    (s.drainFrom = none ∨ (s.switchIn.any fun q => q.2 != []) = true) :=
  ⟨State.reset, by decide +kernel⟩

theorem witness_PowerStateRequests_run : ∃ (path : Path) (s : State),
    s.accessStatus path true 0x2100 2 = .ok ∧ s.reg Reg.PWR_STATE = 0 :=
  ⟨.sys, State.reset, by decide +kernel⟩

theorem witness_PowerStateRequests_idle : ∃ (path : Path) (s : State),
    s.accessStatus path true 0x2100 2 = .ok ∧ s.reg Reg.PWR_STATE = 0 ∧ s.refuser 1 = none :=
  ⟨.sys, State.reset, by decide +kernel⟩

theorem witness_PowerStateRequests_hold : ∃ (path : Path) (s : State),
    s.accessStatus path true 0x2100 2 = .ok ∧ s.reg Reg.PWR_STATE = 0 ∧ s.refuser 2 = none :=
  ⟨.sys, State.reset, by decide +kernel⟩

theorem witness_PowerStateRequests_watch : ∃ (path : Path) (s : State),
    s.accessStatus path true 0x2100 2 = .ok ∧ s.reg Reg.PWR_STATE = 0 ∧ s.refuser 3 = none :=
  ⟨.sys, { State.reset with hitches := [(1, { count := 5 })] }, by decide +kernel⟩

theorem witness_PowerStateRequests_off : ∃ (path : Path) (s : State),
    s.accessStatus path true 0x2100 2 = .ok ∧ s.reg Reg.PWR_STATE = 0 ∧ s.refuser 4 = none :=
  ⟨.sys, State.reset, by decide +kernel⟩

theorem witness_PowerStateRequests_refusedIdle : ∃ (path : Path) (i : Nat) (s : State),
    s.accessStatus path true 0x2100 2 = .ok ∧ s.reg Reg.PWR_STATE = 0 ∧ s.refuser 1 = some i :=
  ⟨.sys, 8, { State.reset with regs := [(Reg.ACCT_MODE.key, 1)], power := { brace := some 0 } }, by decide +kernel⟩

theorem witness_PowerStateRequests_refusedHold : ∃ (path : Path) (i : Nat) (s : State),
    s.accessStatus path true 0x2100 2 = .ok ∧ s.reg Reg.PWR_STATE = 0 ∧ s.refuser 2 = some i :=
  ⟨.sys, 8, { State.reset with regs := [(Reg.ACCT_MODE.key, 1)], power := { brace := some 0 } }, by decide +kernel⟩

theorem witness_PowerStateRequests_refusedWatch : ∃ (path : Path) (i : Nat) (s : State),
    s.accessStatus path true 0x2100 2 = .ok ∧ s.reg Reg.PWR_STATE = 0 ∧ s.refuser 3 = some i :=
  ⟨.sys, 8, { State.reset with regs := [(Reg.ACCT_MODE.key, 1)], power := { brace := some 0 } }, by decide +kernel⟩

theorem witness_PowerStateRequests_refusedOff : ∃ (path : Path) (i : Nat) (s : State),
    s.accessStatus path true 0x2100 2 = .ok ∧ s.reg Reg.PWR_STATE = 0 ∧ s.refuser 4 = some i :=
  ⟨.sys, 8, { State.reset with regs := [(Reg.ACCT_MODE.key, 1)], power := { brace := some 0 } }, by decide +kernel⟩

theorem witness_PowerStateRequests_deniedRun : ∃ (path : Path) (st : Status) (s : State),
    s.accessStatus path true 0x2100 2 = st ∧ st ≠ .ok ∧ s.reg Reg.PWR_STATE = 0 :=
  ⟨.usb, .refused, State.reset, by decide +kernel⟩

theorem witness_PowerStateRequests_deniedIdle : ∃ (path : Path) (st : Status) (s : State),
    s.accessStatus path true 0x2100 2 = st ∧ st ≠ .ok ∧ s.reg Reg.PWR_STATE = 0 :=
  ⟨.usb, .refused, State.reset, by decide +kernel⟩

theorem witness_PowerStateRequests_deniedHold : ∃ (path : Path) (st : Status) (s : State),
    s.accessStatus path true 0x2100 2 = st ∧ st ≠ .ok ∧ s.reg Reg.PWR_STATE = 0 :=
  ⟨.usb, .refused, State.reset, by decide +kernel⟩

theorem witness_PowerStateRequests_deniedWatch : ∃ (path : Path) (st : Status) (s : State),
    s.accessStatus path true 0x2100 2 = st ∧ st ≠ .ok ∧ s.reg Reg.PWR_STATE = 0 :=
  ⟨.usb, .refused, State.reset, by decide +kernel⟩

theorem witness_PowerStateRequests_deniedOff : ∃ (path : Path) (st : Status) (s : State),
    s.accessStatus path true 0x2100 2 = st ∧ st ≠ .ok ∧ s.reg Reg.PWR_STATE = 0 :=
  ⟨.usb, .refused, State.reset, by decide +kernel⟩

theorem witness_PowerStateRequests_sleepingRun : ∃ (path : Path) (s : State),
    s.reg Reg.PWR_STATE ≠ 0 ∧ s.pathWake path = none :=
  ⟨.sys, { State.reset with regs := (Assoc.set Reg.BRINGUP_STAGE.key 6 (Assoc.set Reg.WAKE_EN.key 127 (Assoc.set
                              Reg.PWR_STATE.key 1 []))) }, by decide +kernel⟩

theorem witness_PowerStateRequests_sleepingIdle : ∃ (path : Path) (s : State),
    s.reg Reg.PWR_STATE ≠ 0 ∧ s.pathWake path = none :=
  ⟨.sys, { State.reset with regs := (Assoc.set Reg.BRINGUP_STAGE.key 6 (Assoc.set Reg.WAKE_EN.key 127 (Assoc.set
                              Reg.PWR_STATE.key 1 []))) }, by decide +kernel⟩

theorem witness_PowerStateRequests_sleepingHold : ∃ (path : Path) (s : State),
    s.reg Reg.PWR_STATE ≠ 0 ∧ s.pathWake path = none :=
  ⟨.sys, { State.reset with regs := (Assoc.set Reg.BRINGUP_STAGE.key 6 (Assoc.set Reg.WAKE_EN.key 127 (Assoc.set
                              Reg.PWR_STATE.key 1 []))) }, by decide +kernel⟩

theorem witness_PowerStateRequests_sleepingWatch : ∃ (path : Path) (s : State),
    s.reg Reg.PWR_STATE ≠ 0 ∧ s.pathWake path = none :=
  ⟨.sys, { State.reset with regs := (Assoc.set Reg.BRINGUP_STAGE.key 6 (Assoc.set Reg.WAKE_EN.key 127 (Assoc.set
                              Reg.PWR_STATE.key 1 []))) }, by decide +kernel⟩

theorem witness_PowerStateRequests_sleepingOff : ∃ (path : Path) (s : State),
    s.reg Reg.PWR_STATE ≠ 0 ∧ s.pathWake path = none :=
  ⟨.sys, { State.reset with regs := (Assoc.set Reg.BRINGUP_STAGE.key 6 (Assoc.set Reg.WAKE_EN.key 127 (Assoc.set
                              Reg.PWR_STATE.key 1 []))) }, by decide +kernel⟩

theorem witness_PowerStateRequests_wakesRun : ∃ (path : Path) (w : WakeSource) (s : State),
    s.reg Reg.PWR_STATE ≠ 0 ∧ s.pathWake path = some w ∧ s.wakes w = true :=
  ⟨.usb, .usb, { State.reset with regs := (Assoc.set Reg.BRINGUP_STAGE.key 6 (Assoc.set Reg.WAKE_EN.key 127 (Assoc.set
                                    Reg.PWR_STATE.key 1 []))) }, by decide +kernel⟩

theorem witness_PowerStateRequests_wakesIdle : ∃ (path : Path) (w : WakeSource) (s : State),
    s.reg Reg.PWR_STATE ≠ 0 ∧ s.pathWake path = some w ∧ s.wakes w = true :=
  ⟨.usb, .usb, { State.reset with regs := (Assoc.set Reg.BRINGUP_STAGE.key 6 (Assoc.set Reg.WAKE_EN.key 127 (Assoc.set
                                    Reg.PWR_STATE.key 1 []))) }, by decide +kernel⟩

theorem witness_PowerStateRequests_wakesHold : ∃ (path : Path) (w : WakeSource) (s : State),
    s.reg Reg.PWR_STATE ≠ 0 ∧ s.pathWake path = some w ∧ s.wakes w = true :=
  ⟨.usb, .usb, { State.reset with regs := (Assoc.set Reg.BRINGUP_STAGE.key 6 (Assoc.set Reg.WAKE_EN.key 127 (Assoc.set
                                    Reg.PWR_STATE.key 1 []))) }, by decide +kernel⟩

theorem witness_PowerStateRequests_wakesWatch : ∃ (path : Path) (w : WakeSource) (s : State),
    s.reg Reg.PWR_STATE ≠ 0 ∧ s.pathWake path = some w ∧ s.wakes w = true :=
  ⟨.usb, .usb, { State.reset with regs := (Assoc.set Reg.BRINGUP_STAGE.key 6 (Assoc.set Reg.WAKE_EN.key 127 (Assoc.set
                                    Reg.PWR_STATE.key 1 []))) }, by decide +kernel⟩

theorem witness_PowerStateRequests_wakesOff : ∃ (path : Path) (w : WakeSource) (s : State),
    s.reg Reg.PWR_STATE ≠ 0 ∧ s.pathWake path = some w ∧ s.wakes w = true :=
  ⟨.usb, .usb, { State.reset with regs := (Assoc.set Reg.BRINGUP_STAGE.key 6 (Assoc.set Reg.WAKE_EN.key 127 (Assoc.set
                                    Reg.PWR_STATE.key 1 []))) }, by decide +kernel⟩

theorem witness_PowerStateRequests_lostRun : ∃ (path : Path) (w : WakeSource) (s : State),
    s.reg Reg.PWR_STATE ≠ 0 ∧ s.pathWake path = some w ∧ s.wakes w = false :=
  ⟨.usb, .usb, { State.reset with regs := (Assoc.set Reg.BRINGUP_STAGE.key 6 (Assoc.set Reg.WAKE_EN.key 0 (Assoc.set
                                    Reg.PWR_STATE.key 1 []))) }, by decide +kernel⟩

theorem witness_PowerStateRequests_lostIdle : ∃ (path : Path) (w : WakeSource) (s : State),
    s.reg Reg.PWR_STATE ≠ 0 ∧ s.pathWake path = some w ∧ s.wakes w = false :=
  ⟨.usb, .usb, { State.reset with regs := (Assoc.set Reg.BRINGUP_STAGE.key 6 (Assoc.set Reg.WAKE_EN.key 0 (Assoc.set
                                    Reg.PWR_STATE.key 1 []))) }, by decide +kernel⟩

theorem witness_PowerStateRequests_lostHold : ∃ (path : Path) (w : WakeSource) (s : State),
    s.reg Reg.PWR_STATE ≠ 0 ∧ s.pathWake path = some w ∧ s.wakes w = false :=
  ⟨.usb, .usb, { State.reset with regs := (Assoc.set Reg.BRINGUP_STAGE.key 6 (Assoc.set Reg.WAKE_EN.key 0 (Assoc.set
                                    Reg.PWR_STATE.key 1 []))) }, by decide +kernel⟩

theorem witness_PowerStateRequests_lostWatch : ∃ (path : Path) (w : WakeSource) (s : State),
    s.reg Reg.PWR_STATE ≠ 0 ∧ s.pathWake path = some w ∧ s.wakes w = false :=
  ⟨.usb, .usb, { State.reset with regs := (Assoc.set Reg.BRINGUP_STAGE.key 6 (Assoc.set Reg.WAKE_EN.key 0 (Assoc.set
                                    Reg.PWR_STATE.key 1 []))) }, by decide +kernel⟩

theorem witness_PowerStateRequests_lostOff : ∃ (path : Path) (w : WakeSource) (s : State),
    s.reg Reg.PWR_STATE ≠ 0 ∧ s.pathWake path = some w ∧ s.wakes w = false :=
  ⟨.usb, .usb, { State.reset with regs := (Assoc.set Reg.BRINGUP_STAGE.key 6 (Assoc.set Reg.WAKE_EN.key 0 (Assoc.set
                                    Reg.PWR_STATE.key 1 []))) }, by decide +kernel⟩

theorem witness_PowerStateRequests_wake : ∃ (w : WakeSource) (s : State),
    s.reg Reg.PWR_STATE ≠ 0 ∧ s.wakes w = true ∧ wakeBit w ≠ 2 :=
  ⟨.usb, { State.reset with regs := (Assoc.set Reg.WAKE_EN.key 2 (Assoc.set Reg.PWR_STATE.key 1 [])) },
    by decide +kernel⟩

theorem witness_PowerStateRequests_wakeFrame : ∃ (id : BitVec 11) (data : List Byte) (f : WriteFacts) (s : State),
    s.reg Reg.PWR_STATE ≠ 0 ∧ s.wakes (.can id data f) = true :=
  ⟨0x601, [1], { store := .ok, others := true }, { State.reset with regs := (Assoc.set Reg.WAKE_EN.key 4 (Assoc.set
                                                                      Reg.PWR_STATE.key 1 [])) }, by decide +kernel⟩

theorem witness_PowerStateRequests_wakeRun : ∃ (s : State),
    s.reg Reg.PWR_STATE = 0 :=
  ⟨State.reset, by decide +kernel⟩

theorem witness_PowerStateRequests_wakeNot : ∃ (w : WakeSource) (s : State),
    s.reg Reg.PWR_STATE ≠ 0 ∧ s.wakes w = false :=
  ⟨.usb, { State.reset with regs := (Assoc.set Reg.WAKE_EN.key 0 (Assoc.set Reg.PWR_STATE.key 1 [])) },
    by decide +kernel⟩

theorem witness_PowerStateRequests_timerWake : ∃ (k : TimerId) (at' : Nat) (s : State),
    Assoc.get? k.val s.timing.wakeAt = some at' ∧ at' ≤ s.now ∧ s.reg Reg.PWR_STATE ≠ 0 ∧ s.bit Reg.WAKE_EN 5 = true :=
  ⟨7, 4, { State.reset with now := 4, regs := (Assoc.set Reg.WAKE_EN.key 32 (Assoc.set Reg.PWR_STATE.key 1 [])),
                              timing := { wakeAt := [(7, 4)] } }, by decide +kernel⟩

theorem witness_PowerStateRequests_timerWaits : ∃ (k : TimerId) (s : State),
    (Assoc.get? k.val s.timing.wakeAt = none ∨ s.now < (Assoc.get? k.val s.timing.wakeAt).getD 0 ∨ s.reg Reg.PWR_STATE
      = 0 ∨ s.bit Reg.WAKE_EN 5 = false) :=
  ⟨7, State.reset, by decide +kernel⟩

theorem witness_PowerStateRequests_spur : ∃ (spur : Bool) (s : State),
    s.reg Reg.PWR_STATE = 3 ∧ s.bit Reg.WAKE_EN 0 = true ∧ (s.reg Reg.WAKE_MODE ≠ 1 ∨ spur = true) :=
  ⟨true, { State.reset with regs := (Assoc.set Reg.WAKE_MODE.key 1 (Assoc.set Reg.WAKE_EN.key 1 (Assoc.set
                              Reg.PWR_STATE.key 3 []))) }, by decide +kernel⟩

theorem witness_PowerStateRequests_spurNot : ∃ (spur : Bool) (s : State),
    (s.reg Reg.PWR_STATE ≠ 3 ∨ s.bit Reg.WAKE_EN 0 = false ∨ s.reg Reg.WAKE_MODE = 1 ∧ spur = false) :=
  ⟨true, State.reset, by decide +kernel⟩

theorem witness_PowerStateRequests_wakeUp : ∃ (s : State),
    s.security.coldWake = false :=
  ⟨{ State.reset with regs := [(Reg.PWR_STATE.key, 3)] }, by decide +kernel⟩

theorem witness_PowerStateRequests_coldWake : ∃ (s : State),
    s.security.coldWake = true :=
  ⟨{ State.reset with security := { coldWake := true } }, by decide +kernel⟩

theorem witness_TimersAndCapture_edge : ∃ (s : State),
    s.power.off = false :=
  ⟨{ State.reset with regs := (Assoc.set (Reg.POS 3).key 0xFFFFFFFF (Assoc.set (Reg.ECTRL 3).key 0x20001 [])) },
    by decide +kernel⟩

theorem witness_TimersAndCapture_edgeOff : ∃ (s : State),
    s.power.off = true :=
  ⟨{ State.reset with power := { off := true } }, by decide +kernel⟩

theorem witness_TimersAndCapture_spaced : ∃ (c : Nat) (s : State),
    (∀ a ∈ (s.encoder c).edgeAt, a + 40 ≤ s.now) :=
  ⟨3, { State.reset with now := 40, timing := { encoders := [(3, { edgeAt := some 0 })] } }, by decide +kernel⟩

theorem witness_TimersAndCapture_tooSoon : ∃ (c : Nat) (s : State),
    (∃ a ∈ (s.encoder c).edgeAt, s.now < a + 40) :=
  ⟨3, { State.reset with now := 39, timing := { encoders := [(3, { edgeAt := some 0 })] } }, by decide +kernel⟩

theorem witness_TimersAndCapture_notSelected : ∃ (c : Nat) (rising : Bool) (s : State),
    natBit (s.reg (Reg.ECTRL c)) (if rising then 0 else 1) = false :=
  ⟨3, true, State.reset, by decide +kernel⟩

theorem witness_TimersAndCapture_counts : ∃ (c : Nat) (rising : Bool) (s : State),
    natBit (s.reg (Reg.ECTRL c)) (if rising then 0 else 1) = true ∧ (s.encoder c).edges + 1 < max 1 (bitField (s.reg
      (Reg.ECTRL c)) 16 16) :=
  ⟨3, true, { State.reset with regs := (Assoc.set (Reg.POS 3).key 0xFFFFFFFF (Assoc.set (Reg.ECTRL 3).key 0x20001 []))
                                 }, by decide +kernel⟩

theorem witness_TimersAndCapture_captures : ∃ (c : Nat) (rising : Bool) (s : State),
    natBit (s.reg (Reg.ECTRL c)) (if rising then 0 else 1) = true ∧ max 1 (bitField (s.reg (Reg.ECTRL c)) 16 16) ≤
      (s.encoder c).edges + 1 ∧ s.timersFrozen = false :=
  ⟨3, false, { State.reset with clock := 77, regs := [((Reg.ECTRL 3).key, 2)] }, by decide +kernel⟩

theorem witness_TimersAndCapture_coarse : ∃ (c : Nat) (rising : Bool) (s : State),
    natBit (s.reg (Reg.ECTRL c)) (if rising then 0 else 1) = true ∧ max 1 (bitField (s.reg (Reg.ECTRL c)) 16 16) ≤
      (s.encoder c).edges + 1 ∧ s.timersFrozen = true :=
  ⟨3, false, { State.reset with clock := 77, now := 1000000, regs := [((Reg.ECTRL 3).key, 2)], timing := { frozen :=
                                                                                                             some 1 }
                                  }, by decide +kernel⟩

theorem witness_TimersAndCapture_coarseClock : ∃ (e : Nat) (s : State),
    s.timing.frozen = some e :=
  ⟨1, { State.reset with now := 1000000, timing := { frozen := some 1 } }, by decide +kernel⟩

theorem witness_TimersAndCapture_lands : ∃ (c : Nat) (s : State),
    (s.encoder c).shadow = none ∧ (∀ r ∈ (s.encoder c).readAt, r.1 ≠ s.clock / 10) ∧ s.bit (Reg.ESTAT c) 0 = false :=
  ⟨1, State.reset, rfl, by decide, by decide +kernel⟩

theorem witness_TimersAndCapture_overcapture : ∃ (c : Nat) (s : State),
    ((s.encoder c).shadow ≠ none ∨ s.bit (Reg.ESTAT c) 0 = true ∧ ∀ r ∈ (s.encoder c).readAt, r.1 ≠ s.clock / 10) :=
  ⟨0, { State.reset with clock := 77, regs := (Assoc.set (Reg.ESTAT 0).key 1 (Assoc.set (Reg.ECTRL 0).key 1 [])) },
    by decide +kernel⟩

theorem witness_TimersAndCapture_shadowed : ∃ (was : Bool) (c : Nat) (s : State),
    (s.encoder c).shadow = none ∧ (s.encoder c).readAt = some (s.clock / 10, was) :=
  ⟨true, 0, { State.reset with clock := 77, timing := { encoders := [(0, { readAt := some (7, true) })] } },
    by decide +kernel⟩

theorem witness_TimersAndCapture_shadowLands : ∃ (c : EncId) (cap : Nat) (pos : Nat) (cycle : Nat) (s : State),
    (s.encoder c.val).shadow = some (cap, pos, cycle) ∧ cycle < s.clock / 10 :=
  ⟨3, 5, 6, 7, { State.reset with clock := 80, timing := { encoders := [(3, { shadow := some (5, 6, 7) })] } },
    by decide +kernel⟩

theorem witness_TimersAndCapture_shadowWaits : ∃ (c : EncId) (s : State),
    (∀ x ∈ (s.encoder c.val).shadow, s.clock / 10 ≤ x.2.2) :=
  ⟨3, State.reset, by decide +kernel⟩

theorem witness_TimersAndCapture_capRead : ∃ (path : Path) (c : EncId) (s : State),
    s.accessStatus path false (0x2220 + c.val) 3 = .ok :=
  ⟨.sys, 3, { State.reset with regs := [((Reg.ESTAT 3).key, 1)] }, by decide +kernel⟩

theorem witness_TimersAndCapture_capReadDenied : ∃ (path : Path) (c : EncId) (st : Status) (s : State),
    s.accessStatus path false (0x2220 + c.val) 3 = st ∧ st ≠ .ok :=
  ⟨.usb, 3, .refused, State.reset, by decide +kernel⟩

theorem witness_SequencerDoorbellAndException_takes : ∃ (c : ClusterId) (d : BitVec 32) (l : List (BitVec 32)) (s : State),
    s.seqWait.contains c.val = false ∧ (s.router c.val).doorbell = d :: l :=
  ⟨15, 0xFFFFFFFE, [7], { State.reset with routers := [(15, { doorbell := [0xFFFFFFFE, 7] })] }, by decide +kernel⟩

theorem witness_SequencerDoorbellAndException_empty : ∃ (c : ClusterId) (s : State),
    s.seqWait.contains c.val = false ∧ (s.router c.val).doorbell = [] :=
  ⟨0, State.reset, by decide +kernel⟩

theorem witness_SequencerDoorbellAndException_level : ∃ (c : ClusterId) (s : State),
    s.seqWait.contains c.val = false :=
  ⟨0, State.reset, by decide +kernel⟩

theorem witness_SequencerDoorbellAndException_stepDone : ∃ (c : ClusterId) (s : State),
    s.seqWait.contains c.val = false :=
  ⟨0, State.reset, by decide +kernel⟩

theorem witness_SequencerDoorbellAndException_epoch : ∃ (c : ClusterId) (s : State),
    s.seqWait.contains c.val = false :=
  ⟨0, State.reset, by decide +kernel⟩

theorem witness_SequencerDoorbellAndException_csrWrite : ∃ (c : ClusterId) (s : State),
    s.seqWait.contains c.val = false ∧ natBit (s.reg Reg.SEQ_RUN) c.val = true :=
  ⟨0, { State.reset with regs := [(Reg.SEQ_RUN.key, 0xFFFF)] }, by decide +kernel⟩

theorem witness_SequencerDoorbellAndException_csrWriteStopped : ∃ (c : ClusterId) (s : State),
    s.seqWait.contains c.val = false ∧ natBit (s.reg Reg.SEQ_RUN) c.val = false :=
  ⟨0, State.reset, by decide +kernel⟩

theorem witness_SequencerDoorbellAndException_wfi : ∃ (c : ClusterId) (s : State),
    s.seqWait.contains c.val = false ∧ natBit (s.reg Reg.SEQ_RUN) c.val = true :=
  ⟨3, { State.reset with regs := [(Reg.SEQ_RUN.key, 0xFFFF)] }, by decide +kernel⟩

theorem witness_SequencerDoorbellAndException_wfiStopped : ∃ (c : ClusterId) (s : State),
    s.seqWait.contains c.val = false ∧ natBit (s.reg Reg.SEQ_RUN) c.val = false :=
  ⟨3, State.reset, by decide +kernel⟩

theorem witness_SequencerDoorbellAndException_waits : ∃ (c : ClusterId) (s : State),
    s.seqWait.contains c.val = true :=
  ⟨3, { State.reset with seqWait := [3] }, by decide +kernel⟩

theorem witness_SequencerDoorbellAndException_exception : ∃ (c : ClusterId) (s : State),
    natBit (s.reg Reg.SEQ_RUN) c.val = true :=
  ⟨15, { State.reset with regs := [(Reg.SEQ_RUN.key, 0xFFFF)] }, by decide +kernel⟩

theorem witness_SequencerDoorbellAndException_load : ∃ (c : ClusterId) (a : Nat) (s : State),
    natBit (s.reg Reg.SEQ_RUN) c.val = true ∧ s.seqReach c a = false :=
  ⟨15, 0x8000000, { State.reset with regs := [(Reg.SEQ_RUN.key, 0xFFFF)] }, by decide +kernel⟩

theorem witness_SequencerDoorbellAndException_store : ∃ (c : ClusterId) (a : Nat) (s : State),
    natBit (s.reg Reg.SEQ_RUN) c.val = true ∧ s.seqReach c a = false :=
  ⟨15, 0x8000000, { State.reset with regs := [(Reg.SEQ_RUN.key, 0xFFFF)] }, by decide +kernel⟩

theorem witness_SequencerDoorbellAndException_loadReaches : ∃ (c : ClusterId) (a : Nat) (s : State),
    s.seqReach c a = true :=
  ⟨15, 0xA000000, { State.reset with queues := [(0, { prod := 15 })] }, by decide +kernel⟩

theorem witness_SequencerDoorbellAndException_storeReaches : ∃ (c : ClusterId) (a : Nat) (s : State),
    s.seqReach c a = true :=
  ⟨15, 0xA000000, { State.reset with queues := [(0, { prod := 15 })] }, by decide +kernel⟩

theorem witness_SequencerDoorbellAndException_noneRuns : ∃ (c : ClusterId) (s : State),
    natBit (s.reg Reg.SEQ_RUN) c.val = false :=
  ⟨15, State.reset, by decide +kernel⟩

theorem witness_SequencerDoorbellAndException_reachesQueue : ∃ (a : Nat) (q : Nat) (off : Nat) (s : State),
    regionOf s.variant a = .queueBlock q off :=
  ⟨0xA000000, 0, 0, State.reset, by decide +kernel⟩

theorem witness_SequencerDoorbellAndException_reachesBank : ∃ (a : Nat) (b : Nat) (off : Nat) (s : State),
    regionOf s.variant a = .commons b off :=
  ⟨0, 0, 0, State.reset, by decide +kernel⟩

theorem witness_LinkTraining_notTraining : ∃ (l : LinkId) (s : State),
    s.reg (Reg.LINK_STATE l.val) ≠ 1 ∧ s.reg (Reg.LINK_STATE l.val) ≠ 3 :=
  ⟨0, State.reset, by decide +kernel⟩

theorem witness_LinkTraining_noSignal : ∃ (l : LinkId) (signal : BitVec 4) (s : State),
    (s.reg (Reg.LINK_STATE l.val) = 1 ∨ s.reg (Reg.LINK_STATE l.val) = 3) ∧ (s.link l.val).phase = .detect ∧
      s.liveLanes l.val signal.toNat = [] :=
  ⟨0, 0, { State.reset with regs := (Assoc.set (Reg.LINK_STATE 0).key 1 []), tether := { State.reset.tether with links
                                                                                                                   :=
                                                                                                                   [(0,
                                                                                                                   {
                                                                                                                   phase
                                                                                                                     :=
                                                                                                                     .detect
                                                                                                                     })]
                                                                                                                   }
                              }, by decide +kernel⟩

theorem witness_LinkTraining_detected : ∃ (l : LinkId) (signal : BitVec 4) (s : State),
    (s.reg (Reg.LINK_STATE l.val) = 1 ∨ s.reg (Reg.LINK_STATE l.val) = 3) ∧ (s.link l.val).phase = .detect ∧
      s.liveLanes l.val signal.toNat ≠ [] :=
  ⟨0, 1, { State.reset with regs := (Assoc.set (Reg.LINK_STATE 0).key 1 []), tether := { State.reset.tether with links
                                                                                                                   :=
                                                                                                                   [(0,
                                                                                                                   {
                                                                                                                   phase
                                                                                                                     :=
                                                                                                                     .detect
                                                                                                                     })]
                                                                                                                   }
                              }, by decide +kernel⟩

theorem witness_LinkTraining_equalised : ∃ (l : LinkId) (s : State),
    (s.reg (Reg.LINK_STATE l.val) = 1 ∨ s.reg (Reg.LINK_STATE l.val) = 3) ∧ (s.link l.val).phase = .equalise :=
  ⟨0, { State.reset with regs := (Assoc.set (Reg.LINK_STATE 0).key 1 []), tether := { State.reset.tether with links :=
                                                                                                                [(0, {
                                                                                                                phase
                                                                                                                  :=
                                                                                                                  .equalise
                                                                                                                  })]
                                                                                                                } },
    by decide +kernel⟩

theorem witness_LinkTraining_locked : ∃ (l : LinkId) (signal : BitVec 4) (lanes : List (List Block)) (s : State),
    (s.reg (Reg.LINK_STATE l.val) = 1 ∨ s.reg (Reg.LINK_STATE l.val) = 3) ∧ (s.link l.val).phase = .blockLock ∧
      s.liveLanes l.val signal.toNat ≠ [] ∧ ∀ i ∈ s.liveLanes l.val signal.toNat, blockLocked (lanes.getD i []) = true :=
  ⟨0, 1, [List.replicate 64 ⟨1, 0⟩], { State.reset with regs := (Assoc.set (Reg.LINK_STATE 0).key 1 []), tether := {
                                                          State.reset.tether with links := [(0, { phase := .blockLock
                                                                                                    })] } },
    by decide +kernel⟩

theorem witness_LinkTraining_unlocked : ∃ (l : LinkId) (signal : BitVec 4) (lanes : List (List Block)) (s : State),
    (s.reg (Reg.LINK_STATE l.val) = 1 ∨ s.reg (Reg.LINK_STATE l.val) = 3) ∧ (s.link l.val).phase = .blockLock ∧
      (s.liveLanes l.val signal.toNat = [] ∨ ∃ i ∈ s.liveLanes l.val signal.toNat, blockLocked (lanes.getD i []) =
      false) :=
  ⟨0, 1, [List.replicate 63 ⟨1, 0⟩], { State.reset with regs := (Assoc.set (Reg.LINK_STATE 0).key 1 []), tether := {
                                                          State.reset.tether with links := [(0, { phase := .blockLock
                                                                                                    })] } },
    by decide +kernel⟩

theorem witness_LinkTraining_noTs1 : ∃ (l : LinkId) (signal : BitVec 4) (lanes : List (List Block)) (s : State),
    (s.reg (Reg.LINK_STATE l.val) = 1 ∨ s.reg (Reg.LINK_STATE l.val) = 3) ∧ (s.link l.val).phase = .config ∧ s.setsOn
      l.val 0x1E 16 (s.liveLanes l.val signal.toNat) lanes = [] :=
  ⟨0, 1, [List.replicate 15 (orderedBlock 0x1E [(18, 3, 5), (21, 6, 1), (27, 4, 1), (31, 4, 1), (35, 4, 15)])],
    { State.reset with regs := (Assoc.set (Reg.LINK_STATE 0).key 1 []), tether := { State.reset.tether with links :=
                                                                                                              [(0, {
                                                                                                              phase :=
                                                                                                                .config
                                                                                                                })] }
                         }, by decide +kernel⟩

theorem witness_LinkTraining_outsideShape : ∃ (g : Nat × Block) (r : List (Nat × Block)) (l : LinkId) (signal : BitVec 4) (lanes : List (List Block)) (s : State),
    (s.reg (Reg.LINK_STATE l.val) = 1 ∨ s.reg (Reg.LINK_STATE l.val) = 3) ∧ (s.link l.val).phase = .config ∧ s.setsOn
      l.val 0x1E 16 (s.liveLanes l.val signal.toNat) lanes = g :: r ∧ s.shapeBad = true :=
  ⟨(0, orderedBlock 0x1E [(18, 3, 5), (21, 6, 1), (27, 4, 1), (31, 4, 1), (35, 4, 15)]), [], 0, 1,
    [List.replicate 16 (orderedBlock 0x1E [(18, 3, 5), (21, 6, 1), (27, 4, 1), (31, 4, 1), (35, 4, 15)])], {
    State.reset with regs := (Assoc.set (Reg.DEV_NUM).key 2 (Assoc.set (Reg.LINK_STATE 0).key 1 [])), tether := {
                       State.reset.tether with links := [(0, { phase := .config })], shape := 0x010102, roles := [0,
                                                 1, 2, 3, 4, 5, 0, 1] } }, by decide +kernel⟩

theorem witness_LinkTraining_noVersion : ∃ (g : Nat × Block) (r : List (Nat × Block)) (l : LinkId) (signal : BitVec 4) (lanes : List (List Block)) (s : State),
    (s.reg (Reg.LINK_STATE l.val) = 1 ∨ s.reg (Reg.LINK_STATE l.val) = 3) ∧ (s.link l.val).phase = .config ∧ s.setsOn
      l.val 0x1E 16 (s.liveLanes l.val signal.toNat) lanes = g :: r ∧ s.shapeBad = false ∧ s.commonTpv (tsOf g.2) =
      none :=
  ⟨(0, orderedBlock 0x1E [(18, 3, 5), (21, 6, 1), (27, 4, 1), (31, 4, 1), (35, 4, 15)]), [], 0, 1,
    [List.replicate 16 (orderedBlock 0x1E [(18, 3, 5), (21, 6, 1), (27, 4, 1), (31, 4, 1), (35, 4, 15)])], {
    State.reset with regs := (Assoc.set (Reg.TPV_RANGE).key 514 (Assoc.set (Reg.LINK_STATE 0).key 1 [])), tether := {
                       State.reset.tether with links := [(0, { phase := .config })], shape := 0x010102, roles := [0,
                                                 1, 2, 3, 4, 5, 0, 1] } }, by decide +kernel⟩

theorem witness_LinkTraining_ownNumber : ∃ (v : Nat) (g : Nat × Block) (r : List (Nat × Block)) (l : LinkId) (signal : BitVec 4) (lanes : List (List Block)) (s : State),
    (s.reg (Reg.LINK_STATE l.val) = 1 ∨ s.reg (Reg.LINK_STATE l.val) = 3) ∧ (s.link l.val).phase = .config ∧ s.setsOn
      l.val 0x1E 16 (s.liveLanes l.val signal.toNat) lanes = g :: r ∧ s.shapeBad = false ∧ s.commonTpv (tsOf g.2) =
      some v ∧ (tsOf g.2).dev = s.reg Reg.DEV_NUM :=
  ⟨1, (0, orderedBlock 0x1E [(18, 3, 5), (21, 6, 1), (27, 4, 1), (31, 4, 1), (35, 4, 15)]), [], 0, 1,
    [List.replicate 16 (orderedBlock 0x1E [(18, 3, 5), (21, 6, 1), (27, 4, 1), (31, 4, 1), (35, 4, 15)])], {
    State.reset with regs := (Assoc.set (Reg.DEV_NUM).key 1 (Assoc.set (Reg.LINK_STATE 0).key 1 [])), tether := {
                       State.reset.tether with links := [(0, { phase := .config })], shape := 0x010102, roles := [0,
                                                 1, 2, 3, 4, 5, 0, 1] } }, by decide +kernel⟩

theorem witness_LinkTraining_unexpected : ∃ (v : Nat) (g : Nat × Block) (r : List (Nat × Block)) (l : LinkId) (signal : BitVec 4) (lanes : List (List Block)) (s : State),
    (s.reg (Reg.LINK_STATE l.val) = 1 ∨ s.reg (Reg.LINK_STATE l.val) = 3) ∧ (s.link l.val).phase = .config ∧ s.setsOn
      l.val 0x1E 16 (s.liveLanes l.val signal.toNat) lanes = g :: r ∧ s.shapeBad = false ∧ s.commonTpv (tsOf g.2) =
      some v ∧ (tsOf g.2).dev ≠ s.reg Reg.DEV_NUM ∧ s.expected l.val ≠ some (tsOf g.2).dev :=
  ⟨1, (0, orderedBlock 0x1E [(18, 3, 5), (21, 6, 1), (27, 4, 1), (31, 4, 1), (35, 4, 15)]), [], 0, 1,
    [List.replicate 16 (orderedBlock 0x1E [(18, 3, 5), (21, 6, 1), (27, 4, 1), (31, 4, 1), (35, 4, 15)])], {
    State.reset with regs := (Assoc.set (Reg.LINK_STATE 0).key 1 []), tether := { State.reset.tether with links :=
                                                                                                            [(0, {
                                                                                                            phase :=
                                                                                                              .config
                                                                                                              })],
                                                                                                            shape :=
                                                                                                            0x010103,
                                                                                                            roles :=
                                                                                                            [1] } },
    by decide +kernel⟩

theorem witness_LinkTraining_configured : ∃ (v : Nat) (g : Nat × Block) (r : List (Nat × Block)) (l : LinkId) (signal : BitVec 4) (lanes : List (List Block)) (s : State),
    (s.reg (Reg.LINK_STATE l.val) = 1 ∨ s.reg (Reg.LINK_STATE l.val) = 3) ∧ (s.link l.val).phase = .config ∧ s.setsOn
      l.val 0x1E 16 (s.liveLanes l.val signal.toNat) lanes = g :: r ∧ s.shapeBad = false ∧ s.commonTpv (tsOf g.2) =
      some v ∧ (tsOf g.2).dev ≠ s.reg Reg.DEV_NUM ∧ s.expected l.val = some (tsOf g.2).dev ∧ (tsOf g.2).good % 16 ≠ 0 :=
  ⟨1, (0, orderedBlock 0x1E [(18, 3, 5), (21, 6, 1), (27, 4, 1), (31, 4, 1), (35, 4, 15)]), [], 0, 1,
    [List.replicate 16 (orderedBlock 0x1E [(18, 3, 5), (21, 6, 1), (27, 4, 1), (31, 4, 1), (35, 4, 15)])], {
    State.reset with regs := (Assoc.set (Reg.LINK_STATE 0).key 1 []), tether := { State.reset.tether with links :=
                                                                                                            [(0, {
                                                                                                            phase :=
                                                                                                              .config
                                                                                                              })],
                                                                                                            shape :=
                                                                                                            0x010102,
                                                                                                            roles :=
                                                                                                            [0, 1, 2,
                                                                                                            3, 4, 5,
                                                                                                            0, 1] } },
    by decide +kernel⟩

theorem witness_LinkTraining_noLanes : ∃ (v : Nat) (g : Nat × Block) (r : List (Nat × Block)) (l : LinkId) (signal : BitVec 4) (lanes : List (List Block)) (s : State),
    (s.reg (Reg.LINK_STATE l.val) = 1 ∨ s.reg (Reg.LINK_STATE l.val) = 3) ∧ (s.link l.val).phase = .config ∧ s.setsOn
      l.val 0x1E 16 (s.liveLanes l.val signal.toNat) lanes = g :: r ∧ s.shapeBad = false ∧ s.commonTpv (tsOf g.2) =
      some v ∧ (tsOf g.2).dev ≠ s.reg Reg.DEV_NUM ∧ s.expected l.val = some (tsOf g.2).dev ∧ (tsOf g.2).good % 16 = 0 :=
  ⟨1, (0, orderedBlock 0x1E [(18, 3, 5), (21, 6, 1), (27, 4, 1), (31, 4, 1), (35, 4, 0)]), [], 0, 1,
    [List.replicate 16 (orderedBlock 0x1E [(18, 3, 5), (21, 6, 1), (27, 4, 1), (31, 4, 1), (35, 4, 0)])], {
    State.reset with regs := (Assoc.set (Reg.LINK_STATE 0).key 1 []), tether := { State.reset.tether with links :=
                                                                                                            [(0, {
                                                                                                            phase :=
                                                                                                              .config
                                                                                                              })],
                                                                                                            shape :=
                                                                                                            0x010102,
                                                                                                            roles :=
                                                                                                            [0, 1, 2,
                                                                                                            3, 4, 5,
                                                                                                            0, 1] } },
    by decide +kernel⟩

theorem witness_LinkTraining_agreed : ∃ (l : LinkId) (lanes : List (List Block)) (s : State),
    (s.reg (Reg.LINK_STATE l.val) = 1 ∨ s.reg (Reg.LINK_STATE l.val) = 3) ∧ (s.link l.val).phase = .agree ∧ s.rxOrder
      l.val ≠ [] ∧ (s.setsOn l.val 0x2D 8 (s.rxOrder l.val) lanes).length = (s.rxOrder l.val).length ∧ ∀ g ∈ s.setsOn
      l.val 0x2D 8 (s.rxOrder l.val) lanes, (tsOf g.2).width = s.reg (Reg.WIDTH l.val) ∧ s.commonTpv (tsOf g.2) = some
      (s.reg (Reg.TPV l.val)) :=
  ⟨0, [List.replicate 8 (orderedBlock 0x2D [(18, 3, 5), (21, 6, 1), (27, 4, 1), (31, 4, 1), (35, 4, 15), (39, 3,
    1)])], { State.reset with regs := (Assoc.set (Reg.LANES_USED 0).key 1 (Assoc.set (Reg.TPV 0).key 1 (Assoc.set
                                (Reg.WIDTH 0).key 1 (Assoc.set (Reg.LINK_STATE 0).key 1 [])))), tether := {
                                State.reset.tether with links := [(0, { phase := .agree })] } }, by decide +kernel⟩

theorem witness_LinkTraining_notAgreed : ∃ (l : LinkId) (lanes : List (List Block)) (s : State),
    (s.reg (Reg.LINK_STATE l.val) = 1 ∨ s.reg (Reg.LINK_STATE l.val) = 3) ∧ (s.link l.val).phase = .agree ∧ (s.rxOrder
      l.val = [] ∨ (s.setsOn l.val 0x2D 8 (s.rxOrder l.val) lanes).length ≠ (s.rxOrder l.val).length ∨ ∃ g ∈ s.setsOn
      l.val 0x2D 8 (s.rxOrder l.val) lanes, (tsOf g.2).width ≠ s.reg (Reg.WIDTH l.val) ∨ s.commonTpv (tsOf g.2) ≠ some
      (s.reg (Reg.TPV l.val))) :=
  ⟨0, [List.replicate 8 (orderedBlock 0x2D [(18, 3, 5), (21, 6, 1), (27, 4, 1), (31, 4, 1), (35, 4, 15), (39, 3,
    1)])], { State.reset with regs := (Assoc.set (Reg.LANES_USED 0).key 1 (Assoc.set (Reg.TPV 0).key 1 (Assoc.set
                                (Reg.WIDTH 0).key 2 (Assoc.set (Reg.LINK_STATE 0).key 1 [])))), tether := {
                                State.reset.tether with links := [(0, { phase := .agree })] } }, by decide +kernel⟩

theorem witness_LinkTraining_rises : ∃ (y : Link) (l : LinkId) (lanes : List (List Block)) (s : State),
    (s.reg (Reg.LINK_STATE l.val) = 1 ∨ s.reg (Reg.LINK_STATE l.val) = 3) ∧ (s.link l.val).phase = .lock ∧ (s.link
      l.val).feed (s.rxOrder l.val) (s.reg (Reg.POL_INV l.val)) lanes = y ∧ s.rxOrder l.val ≠ [] ∧ ∀ i ∈ s.rxOrder
      l.val, twoAligns (y.rxLane i).fifo = true :=
  ⟨{ phase := .lock, lanes := [{ fifo := none :: List.replicate 544 (some 0) ++ [none] }, {}, {}, {}] }, 0, [], {
    State.reset with regs := (Assoc.set (Reg.WIDTH 0).key 1 (Assoc.set (Reg.LINK_STATE 0).key 1 [])), tether := {
                       State.reset.tether with links := [(0, { phase := .lock, lanes := [{ fifo := none ::
                                                                                             List.replicate 544 (some
                                                                                             0) ++ [none] }, {}, {},
                                                                 {}] })] } }, by decide +kernel⟩

theorem witness_LinkTraining_notAligned : ∃ (y : Link) (l : LinkId) (lanes : List (List Block)) (s : State),
    (s.reg (Reg.LINK_STATE l.val) = 1 ∨ s.reg (Reg.LINK_STATE l.val) = 3) ∧ (s.link l.val).phase = .lock ∧ (s.link
      l.val).feed (s.rxOrder l.val) (s.reg (Reg.POL_INV l.val)) lanes = y ∧ (s.rxOrder l.val = [] ∨ ∃ i ∈ s.rxOrder
      l.val, twoAligns (y.rxLane i).fifo = false) :=
  ⟨{ phase := .lock }, 0, [], { State.reset with regs := (Assoc.set (Reg.WIDTH 0).key 1 (Assoc.set (Reg.LINK_STATE
                                                   0).key 1 [])), tether := { State.reset.tether with links := [(0, {
                                                                                                        phase := .lock
                                                                                                          })] } },
    by decide +kernel⟩

theorem witness_LinkTraining_timeoutAllowed : ∃ (l : LinkId) (s : State),
    (s.reg (Reg.LINK_STATE l.val) = 1 ∨ s.reg (Reg.LINK_STATE l.val) = 3) ∧ (s.link l.val).phaseFrom + phaseLimit
      (s.link l.val).phase (s.link l.val).fast ≤ s.now ∧ s.inAllowance l.val = true :=
  ⟨0, { State.reset with regs := (Assoc.set (Reg.LINK_STATE 0).key 3 []), now := 1000000, tether := {
                           State.reset.tether with links := [(0, { ts1At := some 0 })] } }, by decide +kernel⟩

theorem witness_LinkTraining_timeoutDown : ∃ (l : LinkId) (s : State),
    s.reg (Reg.LINK_STATE l.val) = 1 ∧ (s.link l.val).phaseFrom + phaseLimit (s.link l.val).phase (s.link l.val).fast
      ≤ s.now ∧ s.inAllowance l.val = false ∧ (s.link l.val).fast = false :=
  ⟨0, { State.reset with regs := (Assoc.set (Reg.LINK_STATE 0).key 1 []), now := 100000 }, by decide +kernel⟩

theorem witness_LinkTraining_timeoutAgain : ∃ (l : LinkId) (s : State),
    (s.reg (Reg.LINK_STATE l.val) = 1 ∨ s.reg (Reg.LINK_STATE l.val) = 3) ∧ (s.link l.val).phaseFrom + phaseLimit
      (s.link l.val).phase (s.link l.val).fast ≤ s.now ∧ s.inAllowance l.val = false ∧ (s.reg (Reg.LINK_STATE l.val) =
      3 ∨ (s.link l.val).fast = true) :=
  ⟨0, { State.reset with regs := (Assoc.set (Reg.LINK_STATE 0).key 3 []), now := 100000, tether := {
                           State.reset.tether with links := [(0, { fast := true, fails := 2 })] } },
    by decide +kernel⟩

theorem witness_LinkTraining_timeoutNotDue : ∃ (l : LinkId) (s : State),
    (s.reg (Reg.LINK_STATE l.val) ≠ 1 ∧ s.reg (Reg.LINK_STATE l.val) ≠ 3 ∨ s.now < (s.link l.val).phaseFrom +
      phaseLimit (s.link l.val).phase (s.link l.val).fast) :=
  ⟨0, { State.reset with regs := (Assoc.set (Reg.LINK_STATE 0).key 2 []), now := 100000 }, by decide +kernel⟩

theorem witness_LinkTraining_retry : ∃ (l : LinkId) (s : State),
    (s.reg (Reg.LINK_STATE l.val) = 0 ∨ s.reg (Reg.LINK_STATE l.val) = 5) ∧ (s.link l.val).downFrom + 100000000 ≤
      s.now ∧ s.reg Reg.BRINGUP_STAGE = 6 :=
  ⟨0, { State.reset with now := 100000000, regs := (Assoc.set (Reg.BRINGUP_STAGE).key 6 []) }, by decide +kernel⟩

theorem witness_LinkTraining_noRetry : ∃ (l : LinkId) (s : State),
    (s.reg (Reg.LINK_STATE l.val) ≠ 0 ∧ s.reg (Reg.LINK_STATE l.val) ≠ 5 ∨ s.now < (s.link l.val).downFrom + 100000000
      ∨ s.reg Reg.BRINGUP_STAGE ≠ 6) :=
  ⟨0, { State.reset with now := 100000000 }, by decide +kernel⟩

theorem witness_LinkTraining_laneFault : ∃ (l : LinkId) (lane : Fin 4) (lost : Bool) (s : State),
    s.reg (Reg.LINK_STATE l.val) = 2 ∧ natBit (s.reg (Reg.LANES_USED l.val)) lane.val = true ∧ (lost = true ∨ (s.link
      l.val).corrAt = s.now / 1000000 ∧ s.reg Reg.LANE_BER_MAX < (s.link l.val).corr.getD lane.val 0) :=
  ⟨0, 3, false, { State.reset with regs := (Assoc.set (Reg.LANE_BER_MAX).key 2 (Assoc.set (Reg.LANES_USED 0).key 15
                                     (Assoc.set (Reg.LINK_STATE 0).key 2 []))), tether := { State.reset.tether with
                                     links := [(0, { corr := [0, 0, 0, 3] })] } }, by decide +kernel⟩

theorem witness_LinkTraining_noLaneFault : ∃ (l : LinkId) (lane : Fin 4) (lost : Bool) (s : State),
    (s.reg (Reg.LINK_STATE l.val) ≠ 2 ∨ natBit (s.reg (Reg.LANES_USED l.val)) lane.val = false ∨ lost = false ∧
      ((s.link l.val).corrAt ≠ s.now / 1000000 ∨ (s.link l.val).corr.getD lane.val 0 ≤ s.reg Reg.LANE_BER_MAX)) :=
  ⟨0, 3, false, { State.reset with regs := (Assoc.set (Reg.LANE_BER_MAX).key 3 (Assoc.set (Reg.LANES_USED 0).key 15
                                     (Assoc.set (Reg.LINK_STATE 0).key 2 []))), tether := { State.reset.tether with
                                     links := [(0, { corr := [0, 0, 0, 3] })] } }, by decide +kernel⟩

theorem witness_LinkTraining_loss : ∃ (l : LinkId) (s : State),
    s.reg (Reg.LINK_STATE l.val) = 3 ∧ s.inAllowance l.val = false ∧ (s.goodLanes l.val = [] ∨ 3 ≤ (s.link
      l.val).fails) :=
  ⟨0, { State.reset with regs := (Assoc.set (Reg.LINK_STATE 0).key 3 []), tether := { State.reset.tether with links :=
                                                                                                                [(0, {
                                                                                                                fails
                                                                                                                  := 3
                                                                                                                  })]
                                                                                                                } },
    by decide +kernel⟩

theorem witness_LinkTraining_noLoss : ∃ (l : LinkId) (s : State),
    (s.reg (Reg.LINK_STATE l.val) ≠ 3 ∨ s.inAllowance l.val = true ∨ s.goodLanes l.val ≠ [] ∧ (s.link l.val).fails <
      3) :=
  ⟨0, { State.reset with regs := (Assoc.set (Reg.LINK_STATE 0).key 3 []), tether := { State.reset.tether with links :=
                                                                                                                [(0, {
                                                                                                                fails
                                                                                                                  := 2
                                                                                                                  })]
                                                                                                                } },
    by decide +kernel⟩

theorem witness_LinkTraining_park : ∃ (l : LinkId) (lanes : List (List Block)) (s : State),
    s.reg (Reg.LINK_STATE l.val) = 2 ∧ s.rxOrder l.val ≠ [] ∧ ∀ i ∈ s.rxOrder l.val, lastSets 0x69 16 (s.rightLane
      l.val i lanes) ≠ none :=
  ⟨0, [List.replicate 16 (orderedBlock 0x69 [])], { State.reset with regs := (Assoc.set (Reg.WIDTH 0).key 1
                                                                             (Assoc.set (Reg.LINK_STATE 0).key 2 []))
                                                                             }, by decide +kernel⟩

theorem witness_LinkTraining_noPark : ∃ (l : LinkId) (lanes : List (List Block)) (s : State),
    (s.reg (Reg.LINK_STATE l.val) ≠ 2 ∨ s.rxOrder l.val = [] ∨ ∃ i ∈ s.rxOrder l.val, lastSets 0x69 16 (s.rightLane
      l.val i lanes) = none) :=
  ⟨0, [List.replicate 15 (orderedBlock 0x69 [])], { State.reset with regs := (Assoc.set (Reg.WIDTH 0).key 1
                                                                             (Assoc.set (Reg.LINK_STATE 0).key 2 []))
                                                                             }, by decide +kernel⟩

theorem witness_LinkTraining_wake : ∃ (l : LinkId) (ts1 : Bool) (s : State),
    s.reg (Reg.LINK_STATE l.val) = 7 ∧ (ts1 = true ∨ s.spreadBroadcasts.spreadHitches.hasFlit l.val = true) ∧ s.reg
      Reg.PWR_STATE ≤ 1 :=
  ⟨0, false, { State.reset with regs := (Assoc.set (Reg.LINK_STATE 0).key 7 []), tether := { State.reset.tether with
                                  links := [(0, { sync := [[1]] })] } }, by decide +kernel⟩

theorem witness_LinkTraining_noWake : ∃ (l : LinkId) (ts1 : Bool) (s : State),
    (s.reg (Reg.LINK_STATE l.val) ≠ 7 ∨ ts1 = false ∧ s.spreadBroadcasts.spreadHitches.hasFlit l.val = false ∨ 1 <
      s.reg Reg.PWR_STATE) :=
  ⟨0, false, { State.reset with regs := (Assoc.set (Reg.LINK_STATE 0).key 7 []) }, by decide +kernel⟩

theorem witness_LinkTraining_allowance : ∃ (l : LinkId) (at' : Nat) (s : State),
    (s.link l.val).ts1At = some at' ∧ at' + 2000000 ≤ s.now :=
  ⟨0, 0, { State.reset with now := 2000000, tether := { State.reset.tether with links := [(0, { ts1At := some 0 })] }
                              }, by decide +kernel⟩

theorem witness_LinkTraining_allowanceRuns : ∃ (l : LinkId) (at' : Nat) (s : State),
    (s.link l.val).ts1At = some at' ∧ s.now < at' + 2000000 :=
  ⟨0, 0, { State.reset with now := 1999999, tether := { State.reset.tether with links := [(0, { ts1At := some 0 })] }
                              }, by decide +kernel⟩

theorem witness_LinkTraining_noAllowance : ∃ (l : LinkId) (s : State),
    (s.link l.val).ts1At = none :=
  ⟨0, State.reset, by decide +kernel⟩

theorem witness_LinkFlits_rxNotUp : ∃ (l : LinkId) (s : State),
    s.reg (Reg.LINK_STATE l.val) ≠ 2 :=
  ⟨1, State.reset, by decide +kernel⟩

theorem witness_LinkFlits_rxWaits : ∃ (l : LinkId) (lanes : List (List Block)) (adjust : BitVec 4) (y : Link) (u : State) (s : State),
    s.reg (Reg.LINK_STATE l.val) = 2 ∧ s.feedLanes l.val lanes adjust.toNat = u ∧ (u.link l.val).nextCodeword
      (s.rxOrder l.val) = (.waiting, y) :=
  ⟨1, [], 0, { lanes := [{ fifo := [] }, {}, {}, {}] }, (State.feedLanes { State.reset with regs := (Assoc.set
                                                                                              (Reg.WIDTH 1).key 1
                                                                                              (Assoc.set
                                                                                              (Reg.LINK_STATE 1).key 2
                                                                                              [])), tether := {
                                                                                              State.reset.tether with
                                                                                              links := [(1, { lanes :=
                                                                                                                [{
                                                                                                                fifo
                                                                                                                  :=
                                                                                                                  []
                                                                                                                  },
                                                                                                                {},
                                                                                                                {},
                                                                                                                {}]
                                                                                                                })] }
                                                                                              } 1 [] 0), { State.reset
    with regs := (Assoc.set (Reg.WIDTH 1).key 1 (Assoc.set (Reg.LINK_STATE 1).key 2 [])), tether := {
           State.reset.tether with links := [(1, { lanes := [{ fifo := [] }, {}, {}, {}] })] } }, by decide +kernel⟩

theorem witness_LinkFlits_rxBroken : ∃ (l : LinkId) (lanes : List (List Block)) (adjust : BitVec 4) (y : Link) (u : State) (s : State),
    s.reg (Reg.LINK_STATE l.val) = 2 ∧ s.feedLanes l.val lanes adjust.toNat = u ∧ (u.link l.val).nextCodeword
      (s.rxOrder l.val) = (.broken, y) :=
  ⟨1, [], 0, { lanes := [{ fifo := [] }, {}, {}, {}] }, (State.feedLanes { State.reset with regs := (Assoc.set
                                                                                              (Reg.WIDTH 1).key 1
                                                                                              (Assoc.set
                                                                                              (Reg.LINK_STATE 1).key 2
                                                                                              [])), tether := {
                                                                                              State.reset.tether with
                                                                                              links := [(1, { lanes :=
                                                                                                                [{
                                                                                                                fifo
                                                                                                                  :=
                                                                                                                  [some
                                                                                                                  0,
                                                                                                                  none]
                                                                                                                  },
                                                                                                                {},
                                                                                                                {},
                                                                                                                {}]
                                                                                                                })] }
                                                                                              } 1 [] 0), { State.reset
    with regs := (Assoc.set (Reg.WIDTH 1).key 1 (Assoc.set (Reg.LINK_STATE 1).key 2 [])), tether := {
           State.reset.tether with links := [(1, { lanes := [{ fifo := [some 0, none] }, {}, {}, {}] })] } },
    by decide +kernel⟩

theorem witness_LinkFlits_rxUncorrectable : ∃ (l : LinkId) (lanes : List (List Block)) (adjust : BitVec 4) (b : List Nat) (on : List Nat) (y : Link) (u : State) (s : State),
    s.reg (Reg.LINK_STATE l.val) = 2 ∧ s.feedLanes l.val lanes adjust.toNat = u ∧ (u.link l.val).nextCodeword
      (s.rxOrder l.val) = (.bytes b on, y) ∧ rsDecode b = none :=
  ⟨1, [], 0, ([1, 0, 0, 0, 0, 0, 0, 0] ++ (List.replicate 16 [8, 7, 6, 5, 4, 3, 2, 1]).flatten), (List.replicate 17
    0), { lanes := [{}, {}, {}, {}], rxIndex := 17 }, (State.feedLanes { State.reset with regs := (Assoc.set
                                                                                            (Reg.WIDTH 1).key 1
                                                                                            (Assoc.set (Reg.LINK_STATE
                                                                                            1).key 2 [])), tether := {
                                                                                            State.reset.tether with
                                                                                            links := [(1, { lanes :=
                                                                                                              [{ fifo
                                                                                                                   :=
                                                                                                                   (some
                                                                                                                   1
                                                                                                                   ::
                                                                                                                   List.replicate
                                                                                                                   16
                                                                                                                   (some
                                                                                                                   0x0102030405060708))
                                                                                                                   },
                                                                                                              {}, {},
                                                                                                              {}] })]
                                                                                              } } 1 [] 0), {
    State.reset with regs := (Assoc.set (Reg.WIDTH 1).key 1 (Assoc.set (Reg.LINK_STATE 1).key 2 [])), tether := {
                       State.reset.tether with links := [(1, { lanes := [{ fifo := (some 1 :: List.replicate 16 (some
                                                                             0x0102030405060708)) }, {}, {}, {}] })] }
                       }, by decide +kernel⟩

theorem witness_LinkFlits_rxDecoded : ∃ (l : LinkId) (lanes : List (List Block)) (adjust : BitVec 4) (b : List Nat) (on : List Nat) (d : List Nat × List Nat) (y : Link) (u : State) (s : State),
    s.reg (Reg.LINK_STATE l.val) = 2 ∧ s.feedLanes l.val lanes adjust.toNat = u ∧ (u.link l.val).nextCodeword
      (s.rxOrder l.val) = (.bytes b on, y) ∧ rsDecode b = some d :=
  ⟨1, [], 0, (List.replicate 136 0), (List.replicate 17 0), (List.replicate 128 0, []), { lanes := [{}, {}, {}, {}],
                                                                                            rxIndex := 17 },
    (State.feedLanes { State.reset with regs := (Assoc.set (Reg.WIDTH 1).key 1 (Assoc.set (Reg.LINK_STATE 1).key 2
                                          [])), tether := { State.reset.tether with links := [(1, { lanes := [{ fifo
                                                                                                                  :=
                                                                                                                  (List.replicate
                                                                                                                  17
                                                                                                                  (some
                                                                                                                  0))
                                                                                                                  },
                                                                                                      {}, {}, {}] })]
                                                                                      } } 1 [] 0), { State.reset with
    regs := (Assoc.set (Reg.WIDTH 1).key 1 (Assoc.set (Reg.LINK_STATE 1).key 2 [])), tether := { State.reset.tether
      with links := [(1, { lanes := [{ fifo := (List.replicate 17 (some 0)) }, {}, {}, {}] })] } }, by decide +kernel⟩

theorem witness_LinkFlits_crcFails : ∃ (x : List Byte),
    flitCrcOk x = false :=
  ⟨[1], by decide +kernel⟩

theorem witness_LinkFlits_linkFlit : ∃ (l : LinkId) (x : List Byte) (u : State) (s : State),
    flitCrcOk x = true ∧ s.modLink l.val (fun y => y.heard (flitHeader x) s.now) = u ∧ bitField (flitHeader x) 0 3 = 7 :=
  ⟨1, (flitOf [7]), (State.modLink State.reset 1 (fun y => y.heard (flitHeader (flitOf [7])) 0)),
    State.reset, flitOf_crc _ (by decide), rfl, by decide +kernel⟩

theorem witness_LinkFlits_inSequence : ∃ (l : LinkId) (x : List Byte) (u : State) (s : State),
    flitCrcOk x = true ∧ s.modLink l.val (fun y => y.heard (flitHeader x) s.now) = u ∧ bitField (flitHeader x) 0 3 ≠ 7
      ∧ (bitField (flitHeader x) 4 12 + 4096 - (u.link l.val).rxLast - 1) % 4096 = 0 :=
  ⟨1, (flitOf [0]), (State.modLink State.reset 1 (fun y => y.heard (flitHeader (flitOf [0])) 0)),
    State.reset, flitOf_crc _ (by decide), rfl, by decide +kernel, by decide +kernel⟩

theorem witness_LinkFlits_seenBefore : ∃ (l : LinkId) (x : List Byte) (u : State) (s : State),
    flitCrcOk x = true ∧ s.modLink l.val (fun y => y.heard (flitHeader x) s.now) = u ∧ bitField (flitHeader x) 0 3 ≠ 7
      ∧ 2048 ≤ (bitField (flitHeader x) 4 12 + 4096 - (u.link l.val).rxLast - 1) % 4096 :=
  ⟨1, (flitOf [0xF0, 0xFF]), (State.modLink State.reset 1 (fun y => y.heard (flitHeader (flitOf [0xF0,
    0xFF])) 0)), State.reset, flitOf_crc _ (by decide), rfl, by decide +kernel, by decide +kernel⟩

theorem witness_LinkFlits_ahead : ∃ (l : LinkId) (x : List Byte) (u : State) (s : State),
    flitCrcOk x = true ∧ s.modLink l.val (fun y => y.heard (flitHeader x) s.now) = u ∧ bitField (flitHeader x) 0 3 ≠ 7
      ∧ 0 < (bitField (flitHeader x) 4 12 + 4096 - (u.link l.val).rxLast - 1) % 4096 ∧ (bitField (flitHeader x) 4 12 +
      4096 - (u.link l.val).rxLast - 1) % 4096 < 2048 :=
  ⟨1, (flitOf [0x10]), (State.modLink State.reset 1 (fun y => y.heard (flitHeader (flitOf [0x10])) 0)),
    State.reset, flitOf_crc _ (by decide), rfl, by decide +kernel, by decide +kernel, by decide +kernel⟩

theorem witness_LinkFlits_badFlit : ∃ (x : List Byte),
    flitBad x = true :=
  ⟨(flitOf [0]), by decide +kernel⟩

theorem witness_LinkFlits_goodFlit : ∃ (x : List Byte),
    flitBad x = false :=
  ⟨(flitOf [1]), by decide +kernel⟩

theorem witness_LinkFlits_txNotUp : ∃ (l : LinkId) (s : State),
    s.reg (Reg.LINK_STATE l.val) ≠ 2 :=
  ⟨1, State.reset, by decide +kernel⟩

theorem witness_LinkFlits_txWaits : ∃ (l : LinkId) (a : State) (s : State),
    s.reg (Reg.LINK_STATE l.val) = 2 ∧ (s.spreadBroadcasts.spreadHitches.stallTime l.val).noteFull l.val = a ∧ (a.link
      l.val).resume = true :=
  ⟨1, ((State.stallTime ({ State.reset with regs := (Assoc.set (Reg.LINK_STATE 1).key 2 []), tether := {
                                              State.reset.tether with links := [(1, { resume := true })] }
                                              }).spreadBroadcasts.spreadHitches 1).noteFull 1), { State.reset with
    regs := (Assoc.set (Reg.LINK_STATE 1).key 2 []), tether := { State.reset.tether with links := [(1, { resume :=
                                                                                                           true })] }
      }, by decide +kernel⟩

theorem witness_LinkFlits_txReplay : ∃ (k : Nat) (g : SentFlit) (l : LinkId) (a : State) (s : State),
    s.reg (Reg.LINK_STATE l.val) = 2 ∧ (s.spreadBroadcasts.spreadHitches.stallTime l.val).noteFull l.val = a ∧ (a.link
      l.val).resume = false ∧ (a.link l.val).replayAt = some k ∧ (a.link l.val).replay[k]? = some g :=
  ⟨0, ⟨0, 7, false, []⟩, 1, ((State.stallTime ({ State.reset with regs := (Assoc.set (Reg.LINK_STATE 1).key 2 []),
                                                                    tether := { State.reset.tether with links := [(1,
                                                                                                          { replayAt
                                                                                                              := some
                                                                                                              0,
                                                                                                              replay
                                                                                                              := [⟨0,
                                                                                                              7,
                                                                                                              false,
                                                                                                              []⟩] })]
                                                                                                          }
                                                                    }).spreadBroadcasts.spreadHitches 1).noteFull 1),
    { State.reset with regs := (Assoc.set (Reg.LINK_STATE 1).key 2 []), tether := { State.reset.tether with links :=
                                                                                                              [(1, {
                                                                                                              replayAt
                                                                                                                :=
                                                                                                                some
                                                                                                                0,
                                                                                                                replay
                                                                                                                :=
                                                                                                                [⟨0,
                                                                                                                7,
                                                                                                                false,
                                                                                                                []⟩]
                                                                                                                })] }
                         }, by decide +kernel⟩

theorem witness_LinkFlits_txReplayed : ∃ (k : Nat) (l : LinkId) (a : State) (s : State),
    s.reg (Reg.LINK_STATE l.val) = 2 ∧ (s.spreadBroadcasts.spreadHitches.stallTime l.val).noteFull l.val = a ∧ (a.link
      l.val).resume = false ∧ (a.link l.val).replayAt = some k ∧ (a.link l.val).replay[k]? = none :=
  ⟨1, 1, ((State.stallTime ({ State.reset with regs := (Assoc.set (Reg.LINK_STATE 1).key 2 []), tether := {
                                                 State.reset.tether with links := [(1, { replayAt := some 1, replay :=
                                                                                           [⟨0, 7, false, []⟩] })] }
                                                 }).spreadBroadcasts.spreadHitches 1).noteFull 1), { State.reset with
    regs := (Assoc.set (Reg.LINK_STATE 1).key 2 []), tether := { State.reset.tether with links := [(1, { replayAt :=
                                                                                                           some 1,
                                                                                                           replay :=
                                                                                                           [⟨0, 7,
                                                                                                           false, []⟩]
                                                                                                           })] } },
    by decide +kernel⟩

theorem witness_LinkFlits_txFull : ∃ (l : LinkId) (a : State) (s : State),
    s.reg (Reg.LINK_STATE l.val) = 2 ∧ (s.spreadBroadcasts.spreadHitches.stallTime l.val).noteFull l.val = a ∧ (a.link
      l.val).resume = false ∧ (a.link l.val).replayAt = none ∧ 256 ≤ (a.link l.val).replay.length :=
  ⟨1, ((State.stallTime ({ State.reset with regs := (Assoc.set (Reg.LINK_STATE 1).key 2 []), tether := {
                                              State.reset.tether with links := [(1, { replay := List.replicate 256 ⟨0,
                                                                                        7, false, []⟩ })] }
                                              }).spreadBroadcasts.spreadHitches 1).noteFull 1), { State.reset with
    regs := (Assoc.set (Reg.LINK_STATE 1).key 2 []), tether := { State.reset.tether with links := [(1, { replay :=
                                                                                                           List.replicate
                                                                                                           256 ⟨0, 7,
                                                                                                           false, []⟩
                                                                                                           })] } },
    by decide +kernel⟩

theorem witness_LinkFlits_txNew : ∃ (l : LinkId) (a : State) (s : State),
    s.reg (Reg.LINK_STATE l.val) = 2 ∧ (s.spreadBroadcasts.spreadHitches.stallTime l.val).noteFull l.val = a ∧ (a.link
      l.val).resume = false ∧ (a.link l.val).replayAt = none ∧ (a.link l.val).replay.length < 256 :=
  ⟨1, ((State.stallTime ({ State.reset with regs := (Assoc.set (Reg.LINK_STATE 1).key 2 [])
                                              }).spreadBroadcasts.spreadHitches 1).noteFull 1), { State.reset with
    regs := (Assoc.set (Reg.LINK_STATE 1).key 2 []) }, by decide +kernel⟩

theorem witness_LinkFlits_sync : ∃ (l : LinkId) (b : List Byte) (r : List (List Byte)) (s : State),
    (s.link l.val).sync = b :: r ∧ (s.link l.val).credits.getD 5 0 ≠ 0 :=
  ⟨1, [7], [], { State.reset with tether := { State.reset.tether with links := [(1, { sync := [[7]], reps := [[1]] })]
                                                                        } }, by decide +kernel⟩

theorem witness_LinkFlits_hitch : ∃ (l : LinkId) (b : List Byte) (r : List (List Byte)) (s : State),
    (s.link l.val).sync = [] ∧ (s.link l.val).hitch = b :: r ∧ (s.link l.val).credits.getD 5 0 ≠ 0 :=
  ⟨1, [7], [], { State.reset with tether := { State.reset.tether with links := [(1, { hitch := [[7]], reps := [[1]]
                                                                                        })] } }, by decide +kernel⟩

theorem witness_LinkFlits_replies : ∃ (l : LinkId) (b : List Byte) (r : List (List Byte)) (s : State),
    (s.link l.val).sync = [] ∧ (s.link l.val).hitch = [] ∧ (s.link l.val).reps = b :: r ∧ (s.link l.val).credits.getD
      4 0 ≠ 0 :=
  ⟨1, [7], [], { State.reset with tether := { State.reset.tether with links := [(1, { reps := [[7]], reqs := [[1]] })]
                                                                        } }, by decide +kernel⟩

theorem witness_LinkFlits_requests : ∃ (l : LinkId) (b : List Byte) (r : List (List Byte)) (s : State),
    (s.link l.val).sync = [] ∧ (s.link l.val).hitch = [] ∧ (s.link l.val).reps = [] ∧ (s.link l.val).reqs = b :: r ∧
      (s.link l.val).credits.getD 3 0 ≠ 0 :=
  ⟨1, [7], [], { State.reset with tether := { State.reset.tether with links := [(1, { reqs := [[7]], bulk := [[1]] })]
                                                                        } }, by decide +kernel⟩

theorem witness_LinkFlits_bulk : ∃ (l : LinkId) (b : List Byte) (r : List (List Byte)) (s : State),
    (s.link l.val).sync = [] ∧ (s.link l.val).hitch = [] ∧ (s.link l.val).reps = [] ∧ (s.link l.val).reqs = [] ∧
      (s.link l.val).bulk = b :: r ∧ (s.link l.val).credits.getD 2 0 ≠ 0 ∧ (s.nextEvents l.val = [] ∨ (s.link
      l.val).turn < s.reg Reg.BULK_WEIGHT) :=
  ⟨1, [7], [], { State.reset with tether := { State.reset.tether with links := [(1, { bulk := [[7]] })] } },
    by decide +kernel⟩

theorem witness_LinkFlits_events : ∃ (l : LinkId) (s : State),
    (s.link l.val).sync = [] ∧ (s.link l.val).hitch = [] ∧ (s.link l.val).reps = [] ∧ (s.link l.val).reqs = [] ∧
      s.nextEvents l.val ≠ [] ∧ ((s.link l.val).bulk = [] ∨ (s.link l.val).credits.getD 2 0 = 0 ∨ s.reg
      Reg.BULK_WEIGHT ≤ (s.link l.val).turn) :=
  ⟨1, { State.reset with regs := (Assoc.set (Reg.LINK_STATE 1).key 2 []), gateways := [(1, { entries := [⟨{ word := 0,
                                                                                                              stream
                                                                                                              := false
                                                                                                              }, true,
                                                                                               99⟩] })] },
    by decide +kernel⟩

theorem witness_LinkFlits_idle : ∃ (l : LinkId) (s : State),
    (s.link l.val).sync = [] ∧ (s.link l.val).hitch = [] ∧ (s.link l.val).reps = [] ∧ (s.link l.val).reqs = [] ∧
      s.nextEvents l.val = [] ∧ ((s.link l.val).bulk = [] ∨ (s.link l.val).credits.getD 2 0 = 0) :=
  ⟨1, State.reset, by decide +kernel⟩

theorem witness_LinkFlits_ack : ∃ (l : LinkId) (s : State),
    s.reg (Reg.LINK_STATE l.val) = 2 ∧ (s.link l.val).unacked ≠ 0 ∧ (32 ≤ (s.link l.val).unacked ∨ (s.link
      l.val).unackedFrom + 500 ≤ s.now) :=
  ⟨1, { State.reset with regs := (Assoc.set (Reg.LINK_STATE 1).key 2 []), now := 500, tether := { State.reset.tether
                           with links := [(1, { unacked := 1 })] } }, by decide +kernel⟩

theorem witness_LinkFlits_ackNotDue : ∃ (l : LinkId) (s : State),
    (s.reg (Reg.LINK_STATE l.val) ≠ 2 ∨ (s.link l.val).unacked = 0 ∨ (s.link l.val).unacked < 32 ∧ s.now < (s.link
      l.val).unackedFrom + 500) :=
  ⟨1, { State.reset with regs := (Assoc.set (Reg.LINK_STATE 1).key 2 []), now := 499, tether := { State.reset.tether
                           with links := [(1, { unacked := 1 })] } }, by decide +kernel⟩

theorem witness_LinkFlits_nak : ∃ (l : LinkId) (s : State),
    s.reg (Reg.LINK_STATE l.val) = 2 ∧ (s.link l.val).nakIn = true :=
  ⟨1, { State.reset with regs := (Assoc.set (Reg.LINK_STATE 1).key 2 []), tether := { State.reset.tether with links :=
                                                                                                                [(1, {
                                                                                                                nakIn
                                                                                                                  :=
                                                                                                                  true,
                                                                                                                  replay
                                                                                                                  :=
                                                                                                                  [⟨0,
                                                                                                                  7,
                                                                                                                  false,
                                                                                                                  []⟩]
                                                                                                                  })]
                                                                                                                } },
    by decide +kernel⟩

theorem witness_LinkFlits_noNak : ∃ (l : LinkId) (s : State),
    (s.reg (Reg.LINK_STATE l.val) ≠ 2 ∨ (s.link l.val).nakIn = false) :=
  ⟨1, { State.reset with regs := (Assoc.set (Reg.LINK_STATE 1).key 2 []) }, by decide +kernel⟩

theorem witness_LinkFlits_replayTimeout : ∃ (l : LinkId) (s : State),
    s.reg (Reg.LINK_STATE l.val) = 2 ∧ (s.link l.val).replay ≠ [] ∧ (s.link l.val).replayAt = none ∧ (s.link
      l.val).ackAt + s.reg Reg.RETRY_TMO_NS ≤ s.now :=
  ⟨1, { State.reset with regs := (Assoc.set (Reg.LINK_STATE 1).key 2 []), now := 1000000, tether := {
                           State.reset.tether with links := [(1, { replay := [⟨0, 7, false, []⟩] })] } },
    by decide +kernel⟩

theorem witness_LinkFlits_replayNotDue : ∃ (l : LinkId) (s : State),
    (s.reg (Reg.LINK_STATE l.val) ≠ 2 ∨ (s.link l.val).replay = [] ∨ (s.link l.val).replayAt ≠ none ∨ s.now < (s.link
      l.val).ackAt + s.reg Reg.RETRY_TMO_NS) :=
  ⟨1, { State.reset with regs := (Assoc.set (Reg.LINK_STATE 1).key 2 []), now := 1000000 }, by decide +kernel⟩

theorem witness_LinkFlits_nothingToReplay : ∃ (l : LinkId) (s : State),
    (s.link l.val).replay = [] :=
  ⟨1, State.reset, by decide +kernel⟩

theorem witness_LinkFlits_replay : ∃ (l : LinkId) (s : State),
    (s.link l.val).replay ≠ [] ∧ (s.link l.val).stuck < 7 :=
  ⟨1, { State.reset with tether := { State.reset.tether with links := [(1, { stuck := 6, replay := [⟨0, 7, false, []⟩]
                                                                               })] } }, by decide +kernel⟩

theorem witness_LinkFlits_stuckReplay : ∃ (l : LinkId) (s : State),
    (s.link l.val).replay ≠ [] ∧ 7 ≤ (s.link l.val).stuck :=
  ⟨1, { State.reset with tether := { State.reset.tether with links := [(1, { stuck := 7, replay := [⟨0, 7, false, []⟩]
                                                                               })] } }, by decide +kernel⟩

theorem witness_HtpRequests_hello : ∃ (x : HtpFrame) (s : State),
    s.takesHtp x.peer = true ∧ x.bad = false ∧ x.op = 1 ∧ 2 ≤ x.payload.length ∧ s.sessionsFull x.peer = false ∧
      htpField x 0 1 ≤ min (htpField x 1 1) (s.reg Reg.HTP_RANGE / 256) ∧ s.reg Reg.HTP_RANGE % 256 ≤ min (htpField x
      1 1) (s.reg Reg.HTP_RANGE / 256) :=
  ⟨(htpFrame .usb 1 1 0 9 ([1, 1])), { State.reset with regs := (Assoc.set (Reg.CAN_STATE).key 0 (Assoc.set
                                                                (Reg.BRINGUP_STAGE).key 6 (Assoc.set
                                                                (Reg.USB_STATE).key 2 []))) }, by decide +kernel⟩

theorem witness_HtpRequests_helloVersion : ∃ (x : HtpFrame) (s : State),
    s.takesHtp x.peer = true ∧ x.bad = false ∧ x.op = 1 ∧ 2 ≤ x.payload.length ∧ (min (htpField x 1 1) (s.reg
      Reg.HTP_RANGE / 256) < htpField x 0 1 ∨ min (htpField x 1 1) (s.reg Reg.HTP_RANGE / 256) < s.reg Reg.HTP_RANGE %
      256) :=
  ⟨(htpFrame .usb 1 1 0 9 ([9, 9])), { State.reset with regs := (Assoc.set (Reg.CAN_STATE).key 0 (Assoc.set
                                                                (Reg.BRINGUP_STAGE).key 6 (Assoc.set
                                                                (Reg.USB_STATE).key 2 []))), host := {
                                                                State.reset.host with sessions := [{ peer := .usb,
                                                                                                       version := 1 }]
                                                                                        } }, by decide +kernel⟩

theorem witness_HtpRequests_helloFull : ∃ (x : HtpFrame) (s : State),
    s.takesHtp x.peer = true ∧ x.bad = false ∧ x.op = 1 ∧ 2 ≤ x.payload.length ∧ s.sessionsFull x.peer = true ∧
      htpField x 0 1 ≤ min (htpField x 1 1) (s.reg Reg.HTP_RANGE / 256) ∧ s.reg Reg.HTP_RANGE % 256 ≤ min (htpField x
      1 1) (s.reg Reg.HTP_RANGE / 256) :=
  ⟨(htpFrame (.ethernet 1 5 6) 1 1 0 9 ([1, 1])), { State.reset with regs := (Assoc.set (Reg.BRINGUP_STAGE).key
                                                                             6 (Assoc.set (Reg.LINK_UP 1).key 1 [])),
                                                                             host := { State.reset.host with sessions
                                                                                                               := [{
                                                                                                               peer :=
                                                                                                                 .ethernet
                                                                                                                 1 5
                                                                                                                 7,
                                                                                                                 version
                                                                                                                 := 1
                                                                                                                 }, {
                                                                                                               peer :=
                                                                                                                 .ethernet
                                                                                                                 1 5
                                                                                                                 8,
                                                                                                                 version
                                                                                                                 := 1
                                                                                                                 }, {
                                                                                                               peer :=
                                                                                                                 .ethernet
                                                                                                                 1 5
                                                                                                                 9,
                                                                                                                 version
                                                                                                                 := 1
                                                                                                                 }, {
                                                                                                               peer :=
                                                                                                                 .ethernet
                                                                                                                 1 5
                                                                                                                 10,
                                                                                                                 version
                                                                                                                 := 1
                                                                                                                 }] }
                                                                             }, by decide +kernel⟩

theorem witness_HtpRequests_helloShort : ∃ (x : HtpFrame) (s : State),
    s.takesHtp x.peer = true ∧ x.bad = false ∧ x.op = 1 ∧ x.payload.length < 2 :=
  ⟨(htpFrame .usb 1 1 0 9 ([1])), { State.reset with regs := (Assoc.set (Reg.CAN_STATE).key 0 (Assoc.set
                                                             (Reg.BRINGUP_STAGE).key 6 (Assoc.set (Reg.USB_STATE).key
                                                             2 []))), host := { State.reset.host with sessions := [{
                                                                                                        peer := .usb,
                                                                                                          version := 1
                                                                                                          }] } },
    by decide +kernel⟩

theorem witness_HtpRequests_helloBad : ∃ (x : HtpFrame) (s : State),
    s.takesHtp x.peer = true ∧ x.bad = true :=
  ⟨{ peer := .usb, bytes := [] }, { State.reset with regs := (Assoc.set (Reg.CAN_STATE).key 0 (Assoc.set
                                                       (Reg.BRINGUP_STAGE).key 6 (Assoc.set (Reg.USB_STATE).key 2
                                                       []))), host := { State.reset.host with sessions := [{ peer :=
                                                                                                               .usb,
                                                                                                               version
                                                                                                               := 1 }]
                                                                                                } },
    by decide +kernel⟩

theorem witness_HtpRequests_helloNotTaken : ∃ (x : HtpFrame) (s : State),
    (s.takesHtp x.peer = false ∨ x.bad = false ∧ x.op ≠ 1) :=
  ⟨(htpFrame .usb 1 2 0 9 ([1, 1])), { State.reset with regs := (Assoc.set (Reg.CAN_STATE).key 0 (Assoc.set
                                                                (Reg.BRINGUP_STAGE).key 6 (Assoc.set
                                                                (Reg.USB_STATE).key 2 []))), host := {
                                                                State.reset.host with sessions := [{ peer := .usb,
                                                                                                       version := 1 }]
                                                                                        } }, by decide +kernel⟩

theorem witness_HtpRequests_turnedAway : ∃ (c : Instr) (x : HtpFrame) (op : Nat) (u : State) (s : State),
    htpRow c = some (x, op) ∧ s.htpTurnedAway x op = some u :=
  ⟨(.idGet (htpFrame .usb 1 48 0 9 ([]))), (htpFrame .usb 1 48 0 9 ([])), 0x30, State.reset, State.reset,
    by decide +kernel⟩

theorem witness_HtpRequests_writeTurnedAway : ∃ (x : HtpFrame) (data : List Byte) (u : State) (s : State),
    (x.bad = true ∨ memRange x = false ∨ x.peer ≠ .usb ∨ htpField x 8 4 ≤ data.length) ∧ s.htpTurnedAway x 7 = some u :=
  ⟨(htpFrame .usb 1 7 0 9 ([])), [], State.reset, State.reset, by decide +kernel⟩

theorem witness_HtpRequests_timeoutTurnedAway : ∃ (x : HtpFrame) (data : List Byte) (u : State) (s : State),
    x.bad = false ∧ memRange x = true ∧ x.peer = .usb ∧ data.length < htpField x 8 4 ∧ s.htpTurnedAway x 7 = some u :=
  ⟨(htpFrame .usb 1 7 0 9 ([0, 0x10, 0, 0, 0, 0, 0, 0, 8, 0, 0, 0])), [], State.reset, State.reset,
    by decide +kernel⟩

theorem witness_HtpRequests_notTaken : ∃ (x : HtpFrame) (op : Nat) (s : State),
    (s.takesHtp x.peer = false ∨ x.isFor op = false) :=
  ⟨(htpFrame .usb 1 2 0 9 ([])), 2, State.reset, by decide +kernel⟩

theorem witness_HtpRequests_badFrame : ∃ (x : HtpFrame) (op : Nat) (s : State),
    s.takesHtp x.peer = true ∧ x.isFor op = true ∧ x.bad = true :=
  ⟨{ peer := .usb, bytes := [] }, 2, { State.reset with regs := (Assoc.set (Reg.CAN_STATE).key 0 (Assoc.set
                                                          (Reg.BRINGUP_STAGE).key 6 (Assoc.set (Reg.USB_STATE).key 2
                                                          []))), host := { State.reset.host with sessions := [{ peer
                                                                                                                  :=
                                                                                                                  .usb,
                                                                                                                  version
                                                                                                                  := 1
                                                                                                                  }] }
                                                          }, by decide +kernel⟩

theorem witness_HtpRequests_notServed : ∃ (x : HtpFrame) (op : Nat) (s : State),
    s.takesHtp x.peer = true ∧ x.isFor op = true ∧ x.bad = false ∧ s.update.recovery = true ∧ servedInRecovery op =
      false :=
  ⟨(htpFrame .usb 1 2 0 9 ([])), 2, { State.reset with regs := (Assoc.set (Reg.CAN_STATE).key 0 (Assoc.set
                                                               (Reg.BRINGUP_STAGE).key 6 (Assoc.set
                                                               (Reg.USB_STATE).key 2 []))), update := {
                                                               State.reset.update with recovery := true } },
    by decide +kernel⟩

theorem witness_HtpRequests_noSession : ∃ (x : HtpFrame) (op : Nat) (s : State),
    s.takesHtp x.peer = true ∧ x.isFor op = true ∧ x.bad = false ∧ (s.update.recovery = false ∨ servedInRecovery op =
      true) ∧ s.session x.peer = none :=
  ⟨(htpFrame .usb 1 2 0 9 ([])), 2, { State.reset with regs := (Assoc.set (Reg.CAN_STATE).key 0 (Assoc.set
                                                               (Reg.BRINGUP_STAGE).key 6 (Assoc.set
                                                               (Reg.USB_STATE).key 2 []))) }, by decide +kernel⟩

theorem witness_HtpRequests_seventeenth : ∃ (y : Session) (x : HtpFrame) (op : Nat) (s : State),
    s.takesHtp x.peer = true ∧ x.isFor op = true ∧ x.bad = false ∧ (s.update.recovery = false ∨ servedInRecovery op =
      true) ∧ s.session x.peer = some y ∧ 16 ≤ y.replies.length :=
  ⟨{ peer := .usb, version := 1, replies := List.replicate 16 { op := 2, tag := 0 } }, (htpFrame .usb 1 2 0 9
    ([])), 2, { State.reset with regs := (Assoc.set (Reg.CAN_STATE).key 0 (Assoc.set (Reg.BRINGUP_STAGE).key 6
                                   (Assoc.set (Reg.USB_STATE).key 2 []))), host := { State.reset.host with sessions :=
                                                                                                             [{ peer
                                                                                                                  :=
                                                                                                                  .usb,
                                                                                                                  version
                                                                                                                  :=
                                                                                                                  1,
                                                                                                                  replies
                                                                                                                  :=
                                                                                                                  List.replicate
                                                                                                                  16 {
                                                                                                                  op
                                                                                                                    :=
                                                                                                                    2,
                                                                                                                    tag
                                                                                                                    :=
                                                                                                                    0
                                                                                                                    }
                                                                                                                  }] }
                                   }, by decide +kernel⟩

theorem witness_HtpRequests_otherVersion : ∃ (y : Session) (x : HtpFrame) (op : Nat) (s : State),
    s.takesHtp x.peer = true ∧ x.isFor op = true ∧ x.bad = false ∧ (s.update.recovery = false ∨ servedInRecovery op =
      true) ∧ s.session x.peer = some y ∧ y.replies.length < 16 ∧ y.version ≠ x.version.toNat :=
  ⟨{ peer := .usb, version := 1 }, (htpFrame .usb 2 2 0 9 ([])), 2, { State.reset with regs := (Assoc.set
                                                                                               (Reg.CAN_STATE).key 0
                                                                                               (Assoc.set
                                                                                               (Reg.BRINGUP_STAGE).key
                                                                                               6 (Assoc.set
                                                                                               (Reg.USB_STATE).key 2
                                                                                               []))), host := {
                                                                                               State.reset.host with
                                                                                               sessions := [{ peer :=
                                                                                                                .usb,
                                                                                                                version
                                                                                                                := 1
                                                                                                                }] }
                                                                                               }, by decide +kernel⟩

theorem witness_HtpRequests_reservedOp : ∃ (y : Session) (x : HtpFrame) (op : Nat) (s : State),
    s.takesHtp x.peer = true ∧ x.isFor op = true ∧ x.bad = false ∧ (s.update.recovery = false ∨ servedInRecovery op =
      true) ∧ s.session x.peer = some y ∧ y.replies.length < 16 ∧ y.version = x.version.toNat ∧ reservedOp x.op = true :=
  ⟨{ peer := .usb, version := 1 }, (htpFrame .usb 1 64 0 9 ([])), 2, { State.reset with regs := (Assoc.set
                                                                                                (Reg.CAN_STATE).key 0
                                                                                                (Assoc.set
                                                                                                (Reg.BRINGUP_STAGE).key
                                                                                                6 (Assoc.set
                                                                                                (Reg.USB_STATE).key 2
                                                                                                []))), host := {
                                                                                                State.reset.host with
                                                                                                sessions := [{ peer :=
                                                                                                                 .usb,
                                                                                                                 version
                                                                                                                 := 1
                                                                                                                 }] }
                                                                                                }, by decide +kernel⟩

theorem witness_HtpRequests_taken : ∃ (y : Session) (x : HtpFrame) (op : Nat) (s : State),
    s.takesHtp x.peer = true ∧ x.isFor op = true ∧ x.bad = false ∧ (s.update.recovery = false ∨ servedInRecovery op =
      true) ∧ s.session x.peer = some y ∧ y.replies.length < 16 ∧ y.version = x.version.toNat ∧ reservedOp x.op =
      false :=
  ⟨{ peer := .usb, version := 1 }, (htpFrame .usb 1 2 0 9 ([])), 2, { State.reset with regs := (Assoc.set
                                                                                               (Reg.CAN_STATE).key 0
                                                                                               (Assoc.set
                                                                                               (Reg.BRINGUP_STAGE).key
                                                                                               6 (Assoc.set
                                                                                               (Reg.USB_STATE).key 2
                                                                                               []))), host := {
                                                                                               State.reset.host with
                                                                                               sessions := [{ peer :=
                                                                                                                .usb,
                                                                                                                version
                                                                                                                := 1
                                                                                                                }] }
                                                                                               }, by decide +kernel⟩

theorem witness_HtpRequests_repliedUsb : ∃ (x : HtpFrame) (y : Session) (s : State),
    x.peer = .usb ∧ s.session x.peer = some y ∧ y.replies = [] :=
  ⟨(htpFrame .usb 1 2 0 9 ([])), { peer := .usb, version := 1 }, { State.reset with regs := (Assoc.set
                                                                                            (Reg.CAN_STATE).key 0
                                                                                            (Assoc.set
                                                                                            (Reg.BRINGUP_STAGE).key 6
                                                                                            (Assoc.set
                                                                                            (Reg.USB_STATE).key 2
                                                                                            []))), host := {
                                                                                            State.reset.host with
                                                                                            sessions := [{ peer :=
                                                                                                             .usb,
                                                                                                             version
                                                                                                             := 1 }] }
                                                                                            }, by decide +kernel⟩

theorem witness_HtpRequests_bye : ∃ (x : HtpFrame) (y : Session) (s : State),
    s.htpReady x 9 y :=
  ⟨(htpFrame .usb 1 9 0 9 ([])), { peer := .usb, version := 1 }, { State.reset with regs := (Assoc.set
                                                                                            (Reg.CAN_STATE).key 0
                                                                                            (Assoc.set
                                                                                            (Reg.BRINGUP_STAGE).key 6
                                                                                            (Assoc.set
                                                                                            (Reg.USB_STATE).key 2
                                                                                            []))), host := {
                                                                                            State.reset.host with
                                                                                            sessions := [{ peer :=
                                                                                                             .usb,
                                                                                                             version
                                                                                                             := 1 }] }
                                                                                            }, by decide +kernel⟩

theorem witness_HtpRequests_notifySet : ∃ (x : HtpFrame) (y : Session) (s : State),
    s.htpReady x 8 y :=
  ⟨(htpFrame .usb 1 8 0 9 ([7, 0, 0, 0])), { peer := .usb, version := 1 }, { State.reset with regs := (Assoc.set
                                                                                                      (Reg.CAN_STATE).key
                                                                                                      0 (Assoc.set
                                                                                                      (Reg.BRINGUP_STAGE).key
                                                                                                      6 (Assoc.set
                                                                                                      (Reg.USB_STATE).key
                                                                                                      2 []))), host :=
                                                                                                      {
                                                                                                      State.reset.host
                                                                                                      with sessions :=
                                                                                                             [{ peer
                                                                                                                  :=
                                                                                                                  .usb,
                                                                                                                  version
                                                                                                                  := 1
                                                                                                                  }] }
                                                                                                      },
    by decide +kernel⟩

theorem witness_HtpRequests_sessionTimeout : ∃ (p : Peer) (y : Session) (s : State),
    s.session p = some y ∧ p ≠ .usb ∧ y.lastAt + 10000000000 ≤ s.now :=
  ⟨.ethernet 1 5 6, { peer := .ethernet 1 5 6, version := 1 }, { State.reset with now := 10000000000, host := {
                                                                                    State.reset.host with sessions :=
                                                                                                            [{ peer :=
                                                                                                                 .ethernet
                                                                                                                 1 5
                                                                                                                 6,
                                                                                                                 version
                                                                                                                 := 1
                                                                                                                 }] }
                                                                                    }, by decide +kernel⟩

theorem witness_HtpRequests_sessionLives : ∃ (p : Peer) (y : Session) (s : State),
    s.session p = some y ∧ (p = .usb ∨ s.now < y.lastAt + 10000000000) :=
  ⟨.usb, { peer := .usb, version := 1 }, { State.reset with regs := (Assoc.set (Reg.CAN_STATE).key 0 (Assoc.set
                                                              (Reg.BRINGUP_STAGE).key 6 (Assoc.set (Reg.USB_STATE).key
                                                              2 []))), host := { State.reset.host with sessions := [{
                                                                                                         peer := .usb,
                                                                                                           version :=
                                                                                                           1 }] } },
    by decide +kernel⟩

theorem witness_HtpRequests_sessionNone : ∃ (p : Peer) (s : State),
    s.session p = none :=
  ⟨.usb, State.reset, by decide +kernel⟩

theorem witness_PortsAndRemoteAccess_vbus : ∃ (s : State),
    s.power.off = false ∧ s.reg Reg.USB_STATE = 0 :=
  ⟨State.reset, by decide +kernel⟩

theorem witness_PortsAndRemoteAccess_vbusNothing : ∃ (s : State),
    (s.power.off = true ∨ s.reg Reg.USB_STATE ≠ 0) :=
  ⟨{ State.reset with regs := (Assoc.set (Reg.CAN_STATE).key 0 (Assoc.set (Reg.BRINGUP_STAGE).key 6 (Assoc.set
                        (Reg.USB_STATE).key 2 []))), host := { State.reset.host with sessions := [{ peer := .usb,
                                                                                                      version := 1 }]
                                                                                       } }, by decide +kernel⟩

theorem witness_PortsAndRemoteAccess_reset : ∃ (s : State),
    s.reg Reg.USB_STATE ≠ 0 :=
  ⟨{ State.reset with regs := (Assoc.set (Reg.CAN_STATE).key 0 (Assoc.set (Reg.BRINGUP_STAGE).key 6 (Assoc.set
                        (Reg.USB_STATE).key 2 []))), host := { State.reset.host with sessions := [{ peer := .usb,
                                                                                                      version := 1 }]
                                                                                       } }, by decide +kernel⟩

theorem witness_PortsAndRemoteAccess_detach : ∃ (s : State),
    s.reg Reg.USB_STATE ≠ 0 :=
  ⟨{ State.reset with regs := (Assoc.set (Reg.CAN_STATE).key 0 (Assoc.set (Reg.BRINGUP_STAGE).key 6 (Assoc.set
                        (Reg.USB_STATE).key 2 []))), host := { State.reset.host with sessions := [{ peer := .usb,
                                                                                                      version := 1 }]
                                                                                       } }, by decide +kernel⟩

theorem witness_PortsAndRemoteAccess_resetDetached : ∃ (s : State),
    s.reg Reg.USB_STATE = 0 :=
  ⟨State.reset, by decide +kernel⟩

theorem witness_PortsAndRemoteAccess_suspend : ∃ (s : State),
    s.reg Reg.USB_STATE ≠ 0 :=
  ⟨{ State.reset with regs := (Assoc.set (Reg.CAN_STATE).key 0 (Assoc.set (Reg.BRINGUP_STAGE).key 6 (Assoc.set
                        (Reg.USB_STATE).key 2 []))), host := { State.reset.host with sessions := [{ peer := .usb,
                                                                                                      version := 1 }]
                                                                                       } }, by decide +kernel⟩

theorem witness_PortsAndRemoteAccess_suspendDetached : ∃ (s : State),
    s.reg Reg.USB_STATE = 0 :=
  ⟨State.reset, by decide +kernel⟩

theorem witness_PortsAndRemoteAccess_resume : ∃ (s : State),
    s.reg Reg.USB_STATE = 3 :=
  ⟨{ State.reset with regs := (Assoc.set (Reg.USB_STATE).key 3 []) }, by decide +kernel⟩

theorem witness_PortsAndRemoteAccess_resumeAwake : ∃ (s : State),
    s.reg Reg.USB_STATE ≠ 3 :=
  ⟨State.reset, by decide +kernel⟩

theorem witness_PortsAndRemoteAccess_setConfiguration : ∃ (v : BitVec 8) (s : State),
    (s.reg Reg.USB_STATE = 1 ∨ s.reg Reg.USB_STATE = 2) ∧ v.toNat ≤ 1 :=
  ⟨1, { State.reset with regs := (Assoc.set (Reg.USB_STATE).key 1 []) }, by decide +kernel⟩

theorem witness_PortsAndRemoteAccess_badConfiguration : ∃ (v : BitVec 8) (s : State),
    (s.reg Reg.USB_STATE = 1 ∨ s.reg Reg.USB_STATE = 2) ∧ 1 < v.toNat :=
  ⟨2, { State.reset with regs := (Assoc.set (Reg.USB_STATE).key 1 []) }, by decide +kernel⟩

theorem witness_PortsAndRemoteAccess_remoteWakeup : ∃ (s : State),
    (s.reg Reg.USB_STATE = 1 ∨ s.reg Reg.USB_STATE = 2) :=
  ⟨{ State.reset with regs := (Assoc.set (Reg.USB_STATE).key 1 []) }, by decide +kernel⟩

theorem witness_PortsAndRemoteAccess_identify : ∃ (s : State),
    (s.reg Reg.USB_STATE = 1 ∨ s.reg Reg.USB_STATE = 2) :=
  ⟨{ State.reset with regs := (Assoc.set (Reg.USB_STATE).key 1 []) }, by decide +kernel⟩

theorem witness_PortsAndRemoteAccess_classOrVendor : ∃ (s : State),
    (s.reg Reg.USB_STATE = 1 ∨ s.reg Reg.USB_STATE = 2) :=
  ⟨{ State.reset with regs := (Assoc.set (Reg.CAN_STATE).key 0 (Assoc.set (Reg.BRINGUP_STAGE).key 6 (Assoc.set
                        (Reg.USB_STATE).key 2 []))), host := { State.reset.host with sessions := [{ peer := .usb,
                                                                                                      version := 1 }]
                                                                                       } }, by decide +kernel⟩

theorem witness_PortsAndRemoteAccess_ep0Detached : ∃ (s : State),
    s.reg Reg.USB_STATE ≠ 1 ∧ s.reg Reg.USB_STATE ≠ 2 :=
  ⟨State.reset, by decide +kernel⟩

theorem witness_PortsAndRemoteAccess_canError : ∃ (into : Fin 3) (s : State),
    s.power.off = false ∧ 2 ≤ s.reg Reg.BRINGUP_STAGE % 128 ∧ s.reg Reg.CAN_STATE ≠ 2 ∧ into.val ≠ 2 :=
  ⟨1, { State.reset with regs := (Assoc.set (Reg.CAN_STATE).key 0 (Assoc.set (Reg.BRINGUP_STAGE).key 6 (Assoc.set
                           (Reg.USB_STATE).key 2 []))), host := { State.reset.host with sessions := [{ peer := .usb,
                                                                                                         version := 1
                                                                                                         }] } },
    by decide +kernel⟩

theorem witness_PortsAndRemoteAccess_busOff : ∃ (s : State),
    s.power.off = false ∧ 2 ≤ s.reg Reg.BRINGUP_STAGE % 128 ∧ s.reg Reg.CAN_STATE ≠ 2 :=
  ⟨{ State.reset with regs := (Assoc.set (Reg.CAN_STATE).key 0 (Assoc.set (Reg.BRINGUP_STAGE).key 6 (Assoc.set
                        (Reg.USB_STATE).key 2 []))), host := { State.reset.host with sessions := [{ peer := .usb,
                                                                                                      version := 1 }]
                                                                                       } }, by decide +kernel⟩

theorem witness_PortsAndRemoteAccess_canErrorNothing : ∃ (s : State),
    (s.power.off = true ∨ s.reg Reg.BRINGUP_STAGE % 128 < 2 ∨ s.reg Reg.CAN_STATE = 2) :=
  ⟨State.reset, by decide +kernel⟩

theorem witness_PortsAndRemoteAccess_remoteRead : ∃ (a : RemoteAccess) (s : State),
    (s.host.remote.find? fun a => !a.write && a.due) = some a :=
  ⟨{ tag := 1, dev := 5, index := 0x1000, sub := 0, write := false, peer := .usb, htpTag := 9, sentAt := 0, want := 4,
       data := [1] }, { State.reset with host := { State.reset.host with remote := [{ tag := 1, dev := 5, index :=
                                                                                        0x1000, sub := 0, write :=
                                                                                        false, peer := .usb, htpTag :=
                                                                                        9, sentAt := 0, want := 4,
                                                                                        data := [1] }] } },
    by decide +kernel⟩

theorem witness_PortsAndRemoteAccess_noRead : ∃ (s : State),
    (s.host.remote.find? fun a => !a.write && a.due) = none :=
  ⟨State.reset, by decide +kernel⟩

theorem witness_PortsAndRemoteAccess_remoteWrite : ∃ (a : RemoteAccess) (s : State),
    (s.host.remote.find? fun a => a.write && a.due) = some a :=
  ⟨{ tag := 1, dev := 5, index := 0x1000, sub := 0, write := true, peer := .usb, htpTag := 9, sentAt := 0, want := 4,
       data := [1] }, { State.reset with host := { State.reset.host with remote := [{ tag := 1, dev := 5, index :=
                                                                                        0x1000, sub := 0, write :=
                                                                                        true, peer := .usb, htpTag :=
                                                                                        9, sentAt := 0, want := 4,
                                                                                        data := [1] }] } },
    by decide +kernel⟩

theorem witness_PortsAndRemoteAccess_noWrite : ∃ (s : State),
    (s.host.remote.find? fun a => a.write && a.due) = none :=
  ⟨State.reset, by decide +kernel⟩

theorem witness_PortsAndRemoteAccess_remoteTimeout : ∃ (a : RemoteAccess) (s : State),
    (s.host.remote.find? fun a => decide (a.sentAt + s.reg Reg.REMOTE_TMO_MS * 1000000 ≤ s.now)) = some a :=
  ⟨{ tag := 1, dev := 5, index := 0x1000, sub := 0, write := true, peer := .usb, htpTag := 9, sentAt := 0, want := 4,
       data := [1] }, { State.reset with host := { State.reset.host with remote := [{ tag := 1, dev := 5, index :=
                                                                                        0x1000, sub := 0, write :=
                                                                                        true, peer := .usb, htpTag :=
                                                                                        9, sentAt := 0, want := 4,
                                                                                        data := [1] }] }, now :=
                                           1000000000 }, by decide +kernel⟩

theorem witness_PortsAndRemoteAccess_noTimeout : ∃ (s : State),
    (s.host.remote.find? fun a => decide (a.sentAt + s.reg Reg.REMOTE_TMO_MS * 1000000 ≤ s.now)) = none :=
  ⟨State.reset, by decide +kernel⟩

theorem witness_CanOpenNode_held : ∃ (c : Instr) (m : CanFrame) (s : State),
    s.canRow c = some m ∧ s.canUp = true ∧ s.takesCan = false ∧ s.power.heldCan.length < 8 :=
  ⟨(.nmtStart 0), (0, [1, 0], noFacts), { State.reset with regs := (Assoc.set (Reg.NMT_STATE).key 127 (Assoc.set
                                                             (Reg.BRINGUP_STAGE).key 6 [])), update := {
                                                             State.reset.update with handover := some (0, false) } },
    by decide +kernel⟩

theorem witness_CanOpenNode_lost : ∃ (c : Instr) (m : CanFrame) (s : State),
    s.canRow c = some m ∧ s.takesCan = false ∧ (s.canUp = false ∨ 8 ≤ s.power.heldCan.length) :=
  ⟨(.sdoUpload [1]), (0x601, [1], noFacts), { State.reset with regs := (Assoc.set (Reg.NODE_ID).key 1 []) },
    by decide +kernel⟩

theorem witness_CanOpenNode_start : ∃ (node : BitVec 8) (s : State),
    s.obeysNmt node ∧ s.reg Reg.NMT_STATE ≠ 5 :=
  ⟨0, { State.reset with regs := (Assoc.set (Reg.NMT_STATE).key 127 (Assoc.set (Reg.BRINGUP_STAGE).key 6 [])) },
    by decide +kernel⟩

theorem witness_CanOpenNode_started : ∃ (node : BitVec 8) (s : State),
    s.obeysNmt node ∧ s.reg Reg.NMT_STATE = 5 :=
  ⟨0, { State.reset with regs := (Assoc.set (Reg.NMT_STATE).key 5 (Assoc.set (Reg.BRINGUP_STAGE).key 6 [])) },
    by decide +kernel⟩

theorem witness_CanOpenNode_stop : ∃ (node : BitVec 8) (s : State),
    s.obeysNmt node :=
  ⟨0, { State.reset with regs := (Assoc.set (Reg.NMT_STATE).key 127 (Assoc.set (Reg.BRINGUP_STAGE).key 6 [])) },
    by decide +kernel⟩

theorem witness_CanOpenNode_preoperational : ∃ (node : BitVec 8) (s : State),
    s.obeysNmt node :=
  ⟨0, { State.reset with regs := (Assoc.set (Reg.NMT_STATE).key 127 (Assoc.set (Reg.BRINGUP_STAGE).key 6 [])) },
    by decide +kernel⟩

theorem witness_CanOpenNode_resetNode : ∃ (node : BitVec 8) (s : State),
    s.obeysNmt node :=
  ⟨0, { State.reset with regs := (Assoc.set (Reg.NMT_STATE).key 127 (Assoc.set (Reg.BRINGUP_STAGE).key 6 [])) },
    by decide +kernel⟩

theorem witness_CanOpenNode_resetCommunication : ∃ (node : BitVec 8) (s : State),
    s.obeysNmt node :=
  ⟨0, { State.reset with regs := (Assoc.set (Reg.NMT_STATE).key 127 (Assoc.set (Reg.BRINGUP_STAGE).key 6 [])) },
    by decide +kernel⟩

theorem witness_CanOpenNode_otherNode : ∃ (c : Instr) (node : BitVec 8) (s : State),
    nmtNode c = some node ∧ s.takesCan = true ∧ node ≠ 0 ∧ node.toNat ≠ (s.bump Reg.CAN_RX).reg Reg.NODE_ID :=
  ⟨(.nmtStop 2), 2, { State.reset with regs := (Assoc.set (Reg.NMT_STATE).key 127 (Assoc.set (Reg.BRINGUP_STAGE).key 6
                                         [])) }, by decide +kernel⟩

theorem witness_CanOpenNode_download : ∃ (frame : List Byte) (s : State),
    s.takesCan = true ∧ (s.bump Reg.CAN_RX).sdoRuns = true ∧ frame.length = 8 ∧ sdoField frame 0 1 / 32 = 1 :=
  ⟨[0x2F, 0x10, 0x28, 1, 5, 0, 0, 0], { State.reset with regs := (Assoc.set (Reg.NMT_STATE).key 127 (Assoc.set
                                                           (Reg.BRINGUP_STAGE).key 6 [])) }, by decide +kernel⟩

theorem witness_CanOpenNode_downloadSegment : ∃ (frame : List Byte) (s : State),
    s.takesCan = true ∧ (s.bump Reg.CAN_RX).sdoRuns = true ∧ frame.length = 8 ∧ sdoField frame 0 1 / 32 = 0 :=
  ⟨[0, 0x10, 0x28, 1, 5, 0, 0, 0], { State.reset with regs := (Assoc.set (Reg.NMT_STATE).key 127 (Assoc.set
                                                        (Reg.BRINGUP_STAGE).key 6 [])) }, by decide +kernel⟩

theorem witness_CanOpenNode_clientAbort : ∃ (frame : List Byte) (s : State),
    s.takesCan = true ∧ (s.bump Reg.CAN_RX).sdoRuns = true ∧ frame.length = 8 ∧ sdoField frame 0 1 / 32 = 4 :=
  ⟨[0x80, 0x10, 0x28, 1, 5, 0, 0, 0], { State.reset with regs := (Assoc.set (Reg.NMT_STATE).key 127 (Assoc.set
                                                           (Reg.BRINGUP_STAGE).key 6 [])) }, by decide +kernel⟩

theorem witness_CanOpenNode_noDownload : ∃ (frame : List Byte) (s : State),
    s.takesCan = true ∧ ((s.bump Reg.CAN_RX).sdoRuns = false ∨ frame.length ≠ 8 ∨ sdoField frame 0 1 / 32 ≠ 0 ∧
      sdoField frame 0 1 / 32 ≠ 1 ∧ sdoField frame 0 1 / 32 ≠ 4) :=
  ⟨[0x2F], { State.reset with regs := (Assoc.set (Reg.NMT_STATE).key 127 (Assoc.set (Reg.BRINGUP_STAGE).key 6 [])) },
    by decide +kernel⟩

theorem witness_CanOpenNode_upload : ∃ (frame : List Byte) (s : State),
    s.takesCan = true ∧ (s.bump Reg.CAN_RX).sdoRuns = true ∧ frame.length = 8 ∧ sdoField frame 0 1 / 32 = 2 :=
  ⟨[0x40, 0, 0x10, 0, 0, 0, 0, 0], { State.reset with regs := (Assoc.set (Reg.NMT_STATE).key 127 (Assoc.set
                                                        (Reg.BRINGUP_STAGE).key 6 [])) }, by decide +kernel⟩

theorem witness_CanOpenNode_uploadSegment : ∃ (frame : List Byte) (s : State),
    s.takesCan = true ∧ (s.bump Reg.CAN_RX).sdoRuns = true ∧ frame.length = 8 ∧ sdoField frame 0 1 / 32 = 3 :=
  ⟨[0x60, 0, 0x10, 0, 0, 0, 0, 0], { State.reset with regs := (Assoc.set (Reg.NMT_STATE).key 127 (Assoc.set
                                                        (Reg.BRINGUP_STAGE).key 6 [])) }, by decide +kernel⟩

theorem witness_CanOpenNode_noUpload : ∃ (frame : List Byte) (s : State),
    s.takesCan = true ∧ ((s.bump Reg.CAN_RX).sdoRuns = false ∨ frame.length ≠ 8 ∨ sdoField frame 0 1 / 32 ≠ 2 ∧
      sdoField frame 0 1 / 32 ≠ 3) :=
  ⟨[0x60], { State.reset with regs := (Assoc.set (Reg.NMT_STATE).key 127 (Assoc.set (Reg.BRINGUP_STAGE).key 6 [])) },
    by decide +kernel⟩

theorem witness_CanOpenNode_expedited : ∃ (frame : List Byte),
    natBit (sdoField frame 0 1) 1 = true :=
  ⟨[0x2F, 0x10, 0x28, 1, 5, 0, 0, 0], by decide +kernel⟩

theorem witness_CanOpenNode_inSegments : ∃ (frame : List Byte),
    natBit (sdoField frame 0 1) 1 = false :=
  ⟨[0x21, 0x10, 0x28, 1, 5, 0, 0, 0], by decide +kernel⟩

theorem witness_CanOpenNode_noTransfer : ∃ (s : State),
    s.host.sdo = none :=
  ⟨{ State.reset with regs := (Assoc.set (Reg.NMT_STATE).key 127 (Assoc.set (Reg.BRINGUP_STAGE).key 6 [])) },
    by decide +kernel⟩

theorem witness_CanOpenNode_wrongTransfer : ∃ (x : SdoTransfer) (s : State),
    s.host.sdo = some x :=
  ⟨⟨false, 0x1000, 0, [], 0⟩, { State.reset with regs := (Assoc.set (Reg.NMT_STATE).key 127 (Assoc.set
                                                   (Reg.BRINGUP_STAGE).key 6 [])), host := { State.reset.host with sdo
                                                                                                                     :=
                                                                                                                     some
                                                                                                                     ⟨false,
                                                                                                                     0x1000,
                                                                                                                     0,
                                                                                                                     [],
                                                                                                                     0⟩
                                                                                                                     }
                                                   }, by decide +kernel⟩

theorem witness_CanOpenNode_segment : ∃ (x : SdoTransfer) (frame : List Byte) (s : State),
    s.host.sdo = some x ∧ x.write = true ∧ natBit (sdoField frame 0 1) 0 = false :=
  ⟨⟨true, 0x1000, 0, [], 0⟩, [0, 1], { State.reset with regs := (Assoc.set (Reg.NMT_STATE).key 127 (Assoc.set
                                                          (Reg.BRINGUP_STAGE).key 6 [])), host := { State.reset.host
                                                          with sdo := some ⟨true, 0x1000, 0, [], 0⟩ } },
    by decide +kernel⟩

theorem witness_CanOpenNode_lastSegment : ∃ (x : SdoTransfer) (frame : List Byte) (s : State),
    s.host.sdo = some x ∧ x.write = true ∧ natBit (sdoField frame 0 1) 0 = true :=
  ⟨⟨true, 0x1000, 0, [], 0⟩, [1, 1], { State.reset with regs := (Assoc.set (Reg.NMT_STATE).key 127 (Assoc.set
                                                          (Reg.BRINGUP_STAGE).key 6 [])), host := { State.reset.host
                                                          with sdo := some ⟨true, 0x1000, 0, [], 0⟩ } },
    by decide +kernel⟩

theorem witness_CanOpenNode_applied : ∃ (index : Nat) (sub : Nat) (data : List Byte) (f : WriteFacts) (r : Status × State) (s : State),
    s.writeObj .can index sub data f = r :=
  ⟨0, 0, [], { store := .ok, others := true }, (.badFormat, State.reset), State.reset, by decide +kernel⟩

theorem witness_CanOpenNode_readFails : ∃ (index : Nat) (sub : Nat) (r : Status × List Byte × State) (s : State),
    s.dropTransfer.readAny .can 0 index sub = r ∧ r.1 ≠ .ok :=
  ⟨0, 0, (State.reset.dropTransfer.readAny .can 0 0 0), State.reset, by decide +kernel⟩

theorem witness_CanOpenNode_readShort : ∃ (index : Nat) (sub : Nat) (r : Status × List Byte × State) (s : State),
    s.dropTransfer.readAny .can 0 index sub = r ∧ r.1 = .ok ∧ r.2.1.length ≤ 4 :=
  ⟨0x2810, 1, (State.readAny (State.dropTransfer { State.reset with regs := (Assoc.set (Reg.NMT_STATE).key 127
                                                                      (Assoc.set (Reg.BRINGUP_STAGE).key 6 [])) })
    .can 0 0x2810 1), { State.reset with regs := (Assoc.set (Reg.NMT_STATE).key 127 (Assoc.set (Reg.BRINGUP_STAGE).key
                                           6 [])) }, by decide +kernel⟩

theorem witness_CanOpenNode_readLong : ∃ (index : Nat) (sub : Nat) (r : Status × List Byte × State) (s : State),
    s.dropTransfer.readAny .can 0 index sub = r ∧ r.1 = .ok ∧ 4 < r.2.1.length :=
  ⟨0x1008, 0, (State.readAny (State.dropTransfer { State.reset with regs := (Assoc.set (Reg.NMT_STATE).key 127
                                                                      (Assoc.set (Reg.BRINGUP_STAGE).key 6 [])) })
    .can 0 0x1008 0), { State.reset with regs := (Assoc.set (Reg.NMT_STATE).key 127 (Assoc.set (Reg.BRINGUP_STAGE).key
                                           6 [])) }, by decide +kernel⟩

theorem witness_CanOpenNode_moreLast : ∃ (x : SdoTransfer) (s : State),
    s.host.sdo = some x ∧ x.write = false ∧ x.data.length ≤ 7 :=
  ⟨⟨false, 0x1000, 0, [1], 0⟩, { State.reset with regs := (Assoc.set (Reg.NMT_STATE).key 127 (Assoc.set
                                                    (Reg.BRINGUP_STAGE).key 6 [])), host := { State.reset.host with
                                                    sdo := some ⟨false, 0x1000, 0, [1], 0⟩ } }, by decide +kernel⟩

theorem witness_CanOpenNode_more : ∃ (x : SdoTransfer) (s : State),
    s.host.sdo = some x ∧ x.write = false ∧ 7 < x.data.length :=
  ⟨⟨false, 0x1000, 0, List.replicate 8 1, 0⟩, { State.reset with regs := (Assoc.set (Reg.NMT_STATE).key 127 (Assoc.set
                                                                   (Reg.BRINGUP_STAGE).key 6 [])), host := {
                                                                   State.reset.host with sdo := some ⟨false, 0x1000,
                                                                                           0, List.replicate 8 1, 0⟩ }
                                                                   }, by decide +kernel⟩

theorem witness_CanOpenNode_segmentTimeout : ∃ (x : SdoTransfer) (s : State),
    s.host.sdo = some x ∧ x.lastAt + 1000000000 ≤ s.now :=
  ⟨⟨true, 0x1000, 0, [], 0⟩, { State.reset with now := 1000000000, host := { State.reset.host with sdo := some ⟨true,
                                                                                                     0x1000, 0, [], 0⟩
                                                                                                     } },
    by decide +kernel⟩

theorem witness_CanOpenNode_segmentInTime : ∃ (x : SdoTransfer) (s : State),
    s.host.sdo = some x ∧ s.now < x.lastAt + 1000000000 :=
  ⟨⟨true, 0x1000, 0, [], 0⟩, { State.reset with now := 999999999, host := { State.reset.host with sdo := some ⟨true,
                                                                                                    0x1000, 0, [], 0⟩
                                                                                                    } },
    by decide +kernel⟩

theorem witness_CanOpenNode_segmentNone : ∃ (s : State),
    s.host.sdo = none :=
  ⟨State.reset, by decide +kernel⟩

theorem witness_CanOpenNode_rpdo1 : ∃ (data : List Byte) (s : State),
    s.takesCan = true ∧ s.reg Reg.NMT_STATE = 5 ∧ natBit (s.held (Reg.RPDO_COB 0)) 31 = false ∧ 8 ≤ data.length ∧
      (s.bump Reg.CAN_RX).isMaster = true ∧ ((s.bump Reg.CAN_RX).push .saddle 0 ((s.bump Reg.CAN_RX).gaitCommand
      data)).resp.status = .ok :=
  ⟨[2, 0, 0, 0, 0, 0, 0, 0], { State.reset with regs := (Assoc.set (Reg.NMT_STATE).key 5 (Assoc.set
                                                  (Reg.BRINGUP_STAGE).key 6 [])), queues := [(0, { kind := .command,
                                                                                                     log2n := 4, base
                                                                                                     := 0x1FC0000, eng
                                                                                                     := 1, link :=
                                                                                                     32544, prod :=
                                                                                                     0x13, cons :=
                                                                                                     0x13, qstate :=
                                                                                                     .enabled })] },
    by decide +kernel⟩

theorem witness_CanOpenNode_rpdo1Refused : ∃ (data : List Byte) (s : State),
    s.takesCan = true ∧ s.reg Reg.NMT_STATE = 5 ∧ natBit (s.held (Reg.RPDO_COB 0)) 31 = false ∧ 8 ≤ data.length ∧
      (s.bump Reg.CAN_RX).isMaster = true ∧ ((s.bump Reg.CAN_RX).push .saddle 0 ((s.bump Reg.CAN_RX).gaitCommand
      data)).resp.status ≠ .ok :=
  ⟨[2, 0, 0, 0, 0, 0, 0, 0], { State.reset with regs := (Assoc.set (Reg.NMT_STATE).key 5 (Assoc.set
                                                  (Reg.BRINGUP_STAGE).key 6 [])) }, by decide +kernel⟩

theorem witness_CanOpenNode_rpdo1Other : ∃ (data : List Byte) (s : State),
    s.takesCan = true ∧ s.reg Reg.NMT_STATE = 5 ∧ natBit (s.held (Reg.RPDO_COB 0)) 31 = false ∧ 8 ≤ data.length ∧
      (s.bump Reg.CAN_RX).isMaster = false :=
  ⟨[2, 0, 0, 0, 0, 0, 0, 0], { State.reset with regs := (Assoc.set (Reg.DEV_NUM).key 3 (Assoc.set (Reg.NMT_STATE).key
                                                  5 (Assoc.set (Reg.BRINGUP_STAGE).key 6 []))), tether := {
                                                  State.reset.tether with shape := 0x010104 } }, by decide +kernel⟩

theorem witness_CanOpenNode_rpdo1Short : ∃ (data : List Byte) (s : State),
    s.takesCan = true ∧ s.reg Reg.NMT_STATE = 5 ∧ natBit (s.held (Reg.RPDO_COB 0)) 31 = false ∧ data.length < 8 :=
  ⟨[1], { State.reset with regs := (Assoc.set (Reg.NMT_STATE).key 5 (Assoc.set (Reg.BRINGUP_STAGE).key 6 [])) },
    by decide +kernel⟩

theorem witness_CanOpenNode_rpdo1Off : ∃ (s : State),
    (s.reg Reg.NMT_STATE ≠ 5 ∨ natBit (s.held (Reg.RPDO_COB 0)) 31 = true) :=
  ⟨{ State.reset with regs := (Assoc.set (Reg.NMT_STATE).key 127 (Assoc.set (Reg.BRINGUP_STAGE).key 6 [])) },
    by decide +kernel⟩

theorem witness_CanOpenNode_rpdo2 : ∃ (data : List Byte) (s : State),
    s.takesCan = true ∧ s.reg Reg.NMT_STATE = 5 ∧ natBit (s.held (Reg.RPDO_COB 1)) 31 = false ∧ 8 ≤ data.length :=
  ⟨[1, 0xFF, 0xFF, 0xFF, 0xFF, 0xFF, 0, 0], { State.reset with regs := (Assoc.set (Reg.NMT_STATE).key 5 (Assoc.set
                                                                 (Reg.BRINGUP_STAGE).key 6 [])) }, by decide +kernel⟩

theorem witness_CanOpenNode_rpdo2Short : ∃ (data : List Byte) (s : State),
    s.takesCan = true ∧ s.reg Reg.NMT_STATE = 5 ∧ natBit (s.held (Reg.RPDO_COB 1)) 31 = false ∧ data.length < 8 :=
  ⟨[1], { State.reset with regs := (Assoc.set (Reg.NMT_STATE).key 5 (Assoc.set (Reg.BRINGUP_STAGE).key 6 [])) },
    by decide +kernel⟩

theorem witness_CanOpenNode_rpdo2Off : ∃ (s : State),
    (s.reg Reg.NMT_STATE ≠ 5 ∨ natBit (s.held (Reg.RPDO_COB 1)) 31 = true) :=
  ⟨{ State.reset with regs := (Assoc.set (Reg.NMT_STATE).key 127 (Assoc.set (Reg.BRINGUP_STAGE).key 6 [])) },
    by decide +kernel⟩

theorem witness_CanOpenNode_tpdo : ∃ (i : Fin 4) (s : State),
    s.takesCan = true ∧ s.reg Reg.NMT_STATE = 5 ∧ s.tpdoInvalid i.val = false ∧ s.tpdoDue i.val = true :=
  ⟨1, { State.reset with now := 10000000000, regs := (Assoc.set (Reg.TPDO_EVENT 1).key 10 (Assoc.set (Reg.TPDO_COB
                           1).key 640 (Assoc.set (Reg.NMT_STATE).key 5 (Assoc.set (Reg.BRINGUP_STAGE).key 6 [])))) },
    by decide +kernel⟩

theorem witness_CanOpenNode_noTpdo : ∃ (i : Fin 4) (s : State),
    (s.takesCan = false ∨ s.reg Reg.NMT_STATE ≠ 5 ∨ s.tpdoInvalid i.val = true ∨ s.tpdoDue i.val = false) :=
  ⟨1, State.reset, by decide +kernel⟩

theorem witness_CanOpenNode_heartbeat : ∃ (s : State),
    s.takesCan = true ∧ s.reg Reg.HEARTBEAT_MS ≠ 0 ∧ s.host.heartbeatAt + s.reg Reg.HEARTBEAT_MS * 1000000 ≤ s.now :=
  ⟨{ State.reset with now := 10000000000, regs := (Assoc.set (Reg.NMT_STATE).key 127 (Assoc.set
                        (Reg.BRINGUP_STAGE).key 6 [])) }, by decide +kernel⟩

theorem witness_CanOpenNode_noHeartbeat : ∃ (s : State),
    (s.takesCan = false ∨ s.reg Reg.HEARTBEAT_MS = 0 ∨ s.now < s.host.heartbeatAt + s.reg Reg.HEARTBEAT_MS * 1000000) :=
  ⟨State.reset, by decide +kernel⟩

theorem witness_CanOpenNode_busOffRecovery : ∃ (s : State),
    s.reg Reg.CAN_STATE = 2 ∧ s.reg Reg.BUSOFF_RECOVER ≠ 0 :=
  ⟨{ State.reset with regs := (Assoc.set (Reg.BUSOFF_RECOVER).key 1 (Assoc.set (Reg.CAN_STATE).key 2 [])) },
    by decide +kernel⟩

theorem witness_CanOpenNode_noRecovery : ∃ (s : State),
    (s.reg Reg.CAN_STATE ≠ 2 ∨ s.reg Reg.BUSOFF_RECOVER = 0) :=
  ⟨State.reset, by decide +kernel⟩

theorem witness_FirmwareUpdate_begin : ∃ (x : HtpFrame) (y : Session) (a : Status × List Byte) (u : State) (members : List Status) (s : State),
    s.htpReady x 0x20 y ∧ (s.htpTaken x).beginUpdate none members x.payload = (some a, u) :=
  ⟨(htpFrame .usb 1 0x20 0 9 ([0])), { peer := .usb, version := 1 }, (.security, []), (State.beginUpdate
    (State.htpTaken ({ State.reset with regs := (Assoc.set (Reg.LC_STATE).key 4 (Assoc.set (Reg.BRINGUP_STAGE).key 6
                                          (Assoc.set (Reg.USB_STATE).key 2 []))), host := { State.reset.host with
                                          sessions := [{ peer := .usb, version := 1 }] } }) (htpFrame .usb 1
    0x20 0 9 ([0]))) none [] ((htpFrame .usb 1 0x20 0 9 ([0]))).payload).2, [], { State.reset with regs :=
                                                                                                           (Assoc.set
                                                                                                           (Reg.LC_STATE).key
                                                                                                           4
                                                                                                           (Assoc.set
                                                                                                           (Reg.BRINGUP_STAGE).key
                                                                                                           6
                                                                                                           (Assoc.set
                                                                                                           (Reg.USB_STATE).key
                                                                                                           2 []))),
                                                                                                           host := {
                                                                                                           State.reset.host
                                                                                                           with
                                                                                                           sessions :=
                                                                                                             [{ peer
                                                                                                                  :=
                                                                                                                  .usb,
                                                                                                                  version
                                                                                                                  := 1
                                                                                                                  }] }
                                                                                                           },
    by decide +kernel⟩

theorem witness_FirmwareUpdate_beginChained : ∃ (dev : Fin 64) (p : List Byte) (a : Status × List Byte) (u : State) (members : List Status) (s : State),
    s.power.off = false ∧ s.reg Reg.PWR_STATE = 0 ∧ s.update.recovery = false ∧ s.update.handover = none ∧ s.linkTo
      dev.val ≠ none ∧ s.beginUpdate (some dev.val) members p = (some a, u) :=
  ⟨5, [0], (.refused, []), (State.beginUpdate { State.reset with regs := (Assoc.set (Reg.PEER_DEV 2).key 5 (Assoc.set
                                                                   (Reg.LINK_STATE 2).key 2 [])) } (some 5) [] [0]).2,
    [], { State.reset with regs := (Assoc.set (Reg.PEER_DEV 2).key 5 (Assoc.set (Reg.LINK_STATE 2).key 2 [])) },
    by decide +kernel⟩

theorem witness_FirmwareUpdate_beginNotTaken : ∃ (dev : Fin 64) (s : State),
    (s.power.off = true ∨ s.reg Reg.PWR_STATE ≠ 0 ∨ s.update.recovery = true ∨ s.update.handover ≠ none ∨ s.linkTo
      dev.val = none) :=
  ⟨5, State.reset, by decide +kernel⟩

theorem witness_FirmwareUpdate_beginBarred : ∃ (st : Status) (s : State),
    s.beginBar = some st :=
  ⟨.refused, State.reset, by decide +kernel⟩

theorem witness_FirmwareUpdate_beginBad : ∃ (p : List Byte) (s : State),
    s.beginBar = none ∧ (p.length < 16 + imgField p 8 1 ∨ imgField p 0 8 = 0 ∨ imgField p 0 8 % 4096 ≠ 0 ∨ 0x1800000 <
      imgField p 0 8 ∨ 63 < imgField p 8 1 ∨ imgField p 9 7 ≠ 0) :=
  ⟨[0], { State.reset with regs := (Assoc.set (Reg.LC_STATE).key 1 (Assoc.set (Reg.DDR_STATE).key 2 (Assoc.set
                             (Reg.BRINGUP_STAGE).key 6 (Assoc.set (Reg.USB_STATE).key 2 [])))), host := {
                             State.reset.host with sessions := [{ peer := .usb, version := 1 }] } },
    by decide +kernel⟩

theorem witness_FirmwareUpdate_beginNoLink : ∃ (p : List Byte) (s : State),
    s.beginBar = none ∧ 16 + imgField p 8 1 ≤ p.length ∧ imgField p 0 8 ≠ 0 ∧ imgField p 0 8 % 4096 = 0 ∧ imgField p 0
      8 ≤ 0x1800000 ∧ imgField p 8 1 ≤ 63 ∧ imgField p 9 7 = 0 ∧ imgField p 8 1 ≠ 0 ∧ (s.update.recovery = true ∨
      s.linkTo (imgField p 16 1) = none) :=
  ⟨[0, 16, 0, 0, 0, 0, 0, 0, 1] ++ List.replicate 7 0 ++ [5], { State.reset with regs := (Assoc.set (Reg.LC_STATE).key
                                                                                   1 (Assoc.set (Reg.DDR_STATE).key 2
                                                                                   (Assoc.set (Reg.BRINGUP_STAGE).key
                                                                                   6 (Assoc.set (Reg.USB_STATE).key 2
                                                                                   [])))), host := { State.reset.host
                                                                                   with sessions := [{ peer := .usb,
                                                                                                         version := 1
                                                                                                         }] } },
    by decide +kernel⟩

theorem witness_FirmwareUpdate_begun : ∃ (p : List Byte) (s : State),
    s.beginBar = none ∧ 16 + imgField p 8 1 ≤ p.length ∧ imgField p 0 8 ≠ 0 ∧ imgField p 0 8 % 4096 = 0 ∧ imgField p 0
      8 ≤ 0x1800000 ∧ imgField p 8 1 ≤ 63 ∧ imgField p 9 7 = 0 ∧ (imgField p 8 1 = 0 ∨ s.update.recovery = false ∧
      s.linkTo (imgField p 16 1) ≠ none) :=
  ⟨[0, 16, 0, 0, 0, 0, 0, 0, 1] ++ List.replicate 7 0 ++ [5], { State.reset with regs := (Assoc.set (Reg.PEER_DEV
                                                                                   2).key 5 (Assoc.set (Reg.LINK_STATE
                                                                                   2).key 2 (Assoc.set
                                                                                   (Reg.LC_STATE).key 1 (Assoc.set
                                                                                   (Reg.DDR_STATE).key 2 (Assoc.set
                                                                                   (Reg.BRINGUP_STAGE).key 6
                                                                                   (Assoc.set (Reg.USB_STATE).key 2
                                                                                   [])))))), host := {
                                                                                   State.reset.host with sessions :=
                                                                                                           [{ peer :=
                                                                                                                .usb,
                                                                                                                version
                                                                                                                := 1
                                                                                                                }] }
                                                                                   }, by decide +kernel⟩

theorem witness_FirmwareUpdate_blockRefused : ∃ (x : HtpFrame) (y : Session) (s : State),
    s.htpReady x 0x21 y ∧ (s.htpTaken x).receiving = false :=
  ⟨(htpFrame .usb 1 0x21 0 9 ([0])), { peer := .usb, version := 1 }, { State.reset with regs := (Assoc.set
                                                                                                (Reg.BRINGUP_STAGE).key
                                                                                                6 (Assoc.set
                                                                                                (Reg.USB_STATE).key 2
                                                                                                [])), host := {
                                                                                                State.reset.host with
                                                                                                sessions := [{ peer :=
                                                                                                                 .usb,
                                                                                                                 version
                                                                                                                 := 1
                                                                                                                 }] }
                                                                                                }, by decide +kernel⟩

theorem witness_FirmwareUpdate_blockBad : ∃ (x : HtpFrame) (y : Session) (s : State),
    s.htpReady x 0x21 y ∧ (s.htpTaken x).receiving = true ∧ ((x.payload.drop 8).length ≠ 4096 ∨ (s.htpTaken x).reg
      Reg.UPD_LEN ≤ 4096 * htpField x 0 4) :=
  ⟨(htpFrame .usb 1 0x21 0 9 ([0])), { peer := .usb, version := 1 }, { State.reset with regs := (Assoc.set
                                                                                                (Reg.UPD_LEN).key 4096
                                                                                                (Assoc.set
                                                                                                (Reg.UPD_STATE).key 1
                                                                                                (Assoc.set
                                                                                                (Reg.BRINGUP_STAGE).key
                                                                                                6 (Assoc.set
                                                                                                (Reg.USB_STATE).key 2
                                                                                                [])))), host := {
                                                                                                State.reset.host with
                                                                                                sessions := [{ peer :=
                                                                                                                 .usb,
                                                                                                                 version
                                                                                                                 := 1
                                                                                                                 }] }
                                                                                                }, by decide +kernel⟩

theorem witness_FirmwareUpdate_block : ∃ (x : HtpFrame) (y : Session) (s : State),
    s.htpReady x 0x21 y ∧ (s.htpTaken x).receiving = true ∧ (x.payload.drop 8).length = 4096 ∧ 4096 * htpField x 0 4 <
      (s.htpTaken x).reg Reg.UPD_LEN :=
  ⟨(htpFrame .usb 1 0x21 0 9 (leBytes 4 0 ++ leBytes 4 0x98F94189 ++ List.replicate 4096 0)), { peer := .usb,
                                                                                                        version := 1
                                                                                                        }, {
    State.reset with regs := (Assoc.set (Reg.UPD_LEN).key 4096 (Assoc.set (Reg.UPD_STATE).key 1 (Assoc.set
                       (Reg.BRINGUP_STAGE).key 6 (Assoc.set (Reg.USB_STATE).key 2 [])))), host := { State.reset.host
                       with sessions := [{ peer := .usb, version := 1 }] } },
    ⟨by decide +kernel, htpFrame_bad _ _ _ _ (by decide +kernel), by decide +kernel⟩, by decide +kernel⟩

theorem witness_FirmwareUpdate_blockAgain : ∃ (i : Nat) (dev : Fin 64) (p : List Byte) (d : List Byte) (s : State),
    s.power.off = false ∧ s.reg Reg.PWR_STATE = 0 ∧ s.update.handover = none ∧ imgField p 0 4 = i ∧ Assoc.get? i
      s.update.blocks = some d ∧ s.update.chain.head? = some dev.val :=
  ⟨0, 5, [0], [1], { State.reset with update := { State.reset.update with blocks := [(0, [1])], chain := [5] } },
    by decide +kernel⟩

theorem witness_FirmwareUpdate_blockNotAgain : ∃ (dev : Fin 64) (p : List Byte) (s : State),
    (s.power.off = true ∨ s.reg Reg.PWR_STATE ≠ 0 ∨ s.update.handover ≠ none ∨ Assoc.get? (imgField p 0 4)
      s.update.blocks = none ∨ s.update.chain.head? ≠ some dev.val) :=
  ⟨5, [0], State.reset, by decide +kernel⟩

theorem witness_FirmwareUpdate_chainWaits : ∃ (l : LinkId) (s : State),
    (((s.tether.lines.filter fun x => x.1 = l.val ∧ x.2.1 / 2 ^ 56 = 7).take 65).length < 65 ∨ s.receiving = false) :=
  ⟨2, State.reset, by decide +kernel⟩

theorem witness_FirmwareUpdate_chainBlock : ∃ (l : LinkId) (lines : List (Nat × Nat × List Byte)) (s : State),
    ((s.tether.lines.filter fun x => x.1 = l.val ∧ x.2.1 / 2 ^ 56 = 7).take 65) = lines ∧ lines.length = 65 ∧
      s.receiving = true ∧ s.update.retries < 8 :=
  ⟨2, List.replicate 64 (2, 7 * 2 ^ 56, List.replicate 64 0) ++ [(2, 7 * 2 ^ 56, leBytes 4 0 ++ leBytes 4
    0x98F94189)], { State.reset with regs := (Assoc.set (Reg.UPD_LEN).key 4096 (Assoc.set (Reg.UPD_STATE).key 1 [])),
                                       tether := { State.reset.tether with lines := List.replicate 64 (2, 7 * 2 ^ 56,
                                                                             List.replicate 64 0) ++ [(2, 7 * 2 ^ 56,
                                                                             leBytes 4 0 ++ leBytes 4 0x98F94189)] }
                                       }, by decide +kernel⟩

theorem witness_FirmwareUpdate_chainBlockLate : ∃ (l : LinkId) (lines : List (Nat × Nat × List Byte)) (s : State),
    ((s.tether.lines.filter fun x => x.1 = l.val ∧ x.2.1 / 2 ^ 56 = 7).take 65) = lines ∧ lines.length = 65 ∧
      s.receiving = true ∧ 8 ≤ s.update.retries :=
  ⟨2, List.replicate 64 (2, 7 * 2 ^ 56, List.replicate 64 0) ++ [(2, 7 * 2 ^ 56, leBytes 4 0 ++ leBytes 4 1)], {
    State.reset with regs := (Assoc.set (Reg.UPD_LEN).key 4096 (Assoc.set (Reg.UPD_STATE).key 1 [])), tether := {
                       State.reset.tether with lines := List.replicate 64 (2, 7 * 2 ^ 56, List.replicate 64 0) ++ [(2,
                                                 7 * 2 ^ 56, leBytes 4 0 ++ leBytes 4 1)] }, update := {
                       State.reset.update with retries := 8 } }, by decide +kernel⟩

theorem witness_FirmwareUpdate_verify : ∃ (x : HtpFrame) (y : Session) (a : Status × List Byte) (u : State) (back : StoreVerify) (members : List Status) (s : State),
    s.htpReady x 0x22 y ∧ (s.htpTaken x).verifyUpdate back members = (some a, u) :=
  ⟨(htpFrame .usb 1 0x22 0 9 ([0])), { peer := .usb, version := 1 }, (.refused, []), (State.verifyUpdate
    (State.htpTaken ({ State.reset with regs := (Assoc.set (Reg.BRINGUP_STAGE).key 6 (Assoc.set (Reg.USB_STATE).key 2
                                          [])), host := { State.reset.host with sessions := [{ peer := .usb, version
                                                                                                 := 1 }] } })
    (htpFrame .usb 1 0x22 0 9 ([0]))) .ok []).2, .ok, [], { State.reset with regs := (Assoc.set
                                                                                     (Reg.BRINGUP_STAGE).key 6
                                                                                     (Assoc.set (Reg.USB_STATE).key 2
                                                                                     [])), host := { State.reset.host
                                                                                     with sessions := [{ peer := .usb,
                                                                                                           version :=
                                                                                                           1 }] } },
    by decide +kernel⟩

theorem witness_FirmwareUpdate_verifyChained : ∃ (dev : Fin 64) (a : Status × List Byte) (u : State) (back : StoreVerify) (members : List Status) (s : State),
    s.power.off = false ∧ s.reg Reg.PWR_STATE = 0 ∧ s.update.recovery = false ∧ s.update.handover = none ∧ s.linkTo
      dev.val ≠ none ∧ s.verifyUpdate back members = (some a, u) :=
  ⟨5, (.refused, []), (State.verifyUpdate { State.reset with regs := (Assoc.set (Reg.PEER_DEV 2).key 5 (Assoc.set
                                                               (Reg.LINK_STATE 2).key 2 [])) } .ok []).2, .ok, [], {
    State.reset with regs := (Assoc.set (Reg.PEER_DEV 2).key 5 (Assoc.set (Reg.LINK_STATE 2).key 2 [])) },
    by decide +kernel⟩

theorem witness_FirmwareUpdate_verifyNotTaken : ∃ (dev : Fin 64) (s : State),
    (s.power.off = true ∨ s.reg Reg.PWR_STATE ≠ 0 ∨ s.update.recovery = true ∨ s.update.handover ≠ none ∨ s.linkTo
      dev.val = none) :=
  ⟨5, State.reset, by decide +kernel⟩

theorem witness_FirmwareUpdate_verifyEarly : ∃ (s : State),
    (s.receiving = false ∨ s.update.blocks.length < s.reg Reg.UPD_LEN / 4096) :=
  ⟨State.reset, by decide +kernel⟩

theorem witness_FirmwareUpdate_verified : ∃ (st : Status) (s : State),
    s.receiving = true ∧ s.reg Reg.UPD_LEN / 4096 ≤ s.update.blocks.length ∧ verifyImage ((List.range (s.reg
      Reg.UPD_LEN / 4096)).flatMap fun i => Assoc.getD s.update.blocks i []) = st :=
  ⟨.badFormat, { State.reset with regs := (Assoc.set (Reg.UPD_LEN).key 4096 (Assoc.set (Reg.UPD_STATE).key 1 [])),
                                    update := { State.reset.update with blocks := [(0, List.replicate 4096 0)] } },
    by decide +kernel⟩

theorem witness_FirmwareUpdate_activate : ∃ (x : HtpFrame) (y : Session) (a : Status × List Byte) (u : State) (holds : Bool) (tk : Takeover) (s : State),
    s.htpReady x 0x23 y ∧ (s.htpTaken x).handOver x false holds tk = (some a, u) :=
  ⟨(htpFrame .usb 1 0x23 0 9 ([0])), { peer := .usb, version := 1 }, (.refused, []), (State.handOver
    (State.htpTaken ({ State.reset with regs := (Assoc.set (Reg.BRINGUP_STAGE).key 6 (Assoc.set (Reg.USB_STATE).key 2
                                          [])), host := { State.reset.host with sessions := [{ peer := .usb, version
                                                                                                 := 1 }] } })
    (htpFrame .usb 1 0x23 0 9 ([0]))) (htpFrame .usb 1 0x23 0 9 ([0])) false true .silent).2, true,
    .silent, { State.reset with regs := (Assoc.set (Reg.BRINGUP_STAGE).key 6 (Assoc.set (Reg.USB_STATE).key 2 [])),
                                  host := { State.reset.host with sessions := [{ peer := .usb, version := 1 }] } },
    by decide +kernel⟩

theorem witness_FirmwareUpdate_activateWaits : ∃ (x : HtpFrame) (y : Session) (u : State) (holds : Bool) (tk : Takeover) (s : State),
    s.htpReady x 0x23 y ∧ (s.htpTaken x).handOver x false holds tk = (none, u) :=
  ⟨(htpFrame .usb 1 0x23 0 9 ([0])), { peer := .usb, version := 1 }, (State.handOver (State.htpTaken ({
    State.reset with regs := (Assoc.set (Reg.FEEDS).key 3 (Assoc.set (Reg.HOLDUP_OK).key 1 (Assoc.set
                       (Reg.BANK_B_STATE).key 1 (Assoc.set (Reg.LC_STATE).key 1 (Assoc.set (Reg.BRINGUP_STAGE).key 6
                       (Assoc.set (Reg.USB_STATE).key 2 [])))))), host := { State.reset.host with sessions := [{ peer
                                                                                                                   :=
                                                                                                                   .usb,
                                                                                                                   version
                                                                                                                   :=
                                                                                                                   1
                                                                                                                   }]
                                                                                                    } })
    (htpFrame .usb 1 0x23 0 9 ([0]))) (htpFrame .usb 1 0x23 0 9 ([0])) false true .silent).2, true,
    .silent, { State.reset with regs := (Assoc.set (Reg.FEEDS).key 3 (Assoc.set (Reg.HOLDUP_OK).key 1 (Assoc.set
                                  (Reg.BANK_B_STATE).key 1 (Assoc.set (Reg.LC_STATE).key 1 (Assoc.set
                                  (Reg.BRINGUP_STAGE).key 6 (Assoc.set (Reg.USB_STATE).key 2 [])))))), host := {
                                  State.reset.host with sessions := [{ peer := .usb, version := 1 }] } },
    by decide +kernel⟩

theorem witness_FirmwareUpdate_rollback : ∃ (x : HtpFrame) (y : Session) (a : Status × List Byte) (u : State) (holds : Bool) (tk : Takeover) (s : State),
    s.htpReady x 0x25 y ∧ (s.htpTaken x).handOver x true holds tk = (some a, u) :=
  ⟨(htpFrame .usb 1 0x25 0 9 ([0])), { peer := .usb, version := 1 }, (.refused, []), (State.handOver
    (State.htpTaken ({ State.reset with regs := (Assoc.set (Reg.BRINGUP_STAGE).key 6 (Assoc.set (Reg.USB_STATE).key 2
                                          [])), host := { State.reset.host with sessions := [{ peer := .usb, version
                                                                                                 := 1 }] } })
    (htpFrame .usb 1 0x25 0 9 ([0]))) (htpFrame .usb 1 0x25 0 9 ([0])) true true .silent).2, true,
    .silent, { State.reset with regs := (Assoc.set (Reg.BRINGUP_STAGE).key 6 (Assoc.set (Reg.USB_STATE).key 2 [])),
                                  host := { State.reset.host with sessions := [{ peer := .usb, version := 1 }] } },
    by decide +kernel⟩

theorem witness_FirmwareUpdate_rollbackWaits : ∃ (x : HtpFrame) (y : Session) (u : State) (holds : Bool) (tk : Takeover) (s : State),
    s.htpReady x 0x25 y ∧ (s.htpTaken x).handOver x true holds tk = (none, u) :=
  ⟨(htpFrame .usb 1 0x25 0 9 ([0])), { peer := .usb, version := 1 }, (State.handOver (State.htpTaken ({
    State.reset with regs := (Assoc.set (Reg.FEEDS).key 3 (Assoc.set (Reg.HOLDUP_OK).key 1 (Assoc.set
                       (Reg.BANK_B_STATE).key 4 (Assoc.set (Reg.LC_STATE).key 1 (Assoc.set (Reg.BRINGUP_STAGE).key 6
                       (Assoc.set (Reg.USB_STATE).key 2 [])))))), host := { State.reset.host with sessions := [{ peer
                                                                                                                   :=
                                                                                                                   .usb,
                                                                                                                   version
                                                                                                                   :=
                                                                                                                   1
                                                                                                                   }]
                                                                                                    } })
    (htpFrame .usb 1 0x25 0 9 ([0]))) (htpFrame .usb 1 0x25 0 9 ([0])) true true .silent).2, true,
    .silent, { State.reset with regs := (Assoc.set (Reg.FEEDS).key 3 (Assoc.set (Reg.HOLDUP_OK).key 1 (Assoc.set
                                  (Reg.BANK_B_STATE).key 4 (Assoc.set (Reg.LC_STATE).key 1 (Assoc.set
                                  (Reg.BRINGUP_STAGE).key 6 (Assoc.set (Reg.USB_STATE).key 2 [])))))), host := {
                                  State.reset.host with sessions := [{ peer := .usb, version := 1 }] } },
    by decide +kernel⟩

theorem witness_FirmwareUpdate_handoverBarred : ∃ (st : Status) (back : Bool) (s : State),
    s.activateBar back = some st :=
  ⟨.refused, false, State.reset, by decide +kernel⟩

theorem witness_FirmwareUpdate_bankFails : ∃ (back : Bool) (holds : Bool) (s : State),
    s.activateBar back = none ∧ holds = false :=
  ⟨false, false, { State.reset with regs := (Assoc.set (Reg.SUPPLY_STATE).key 0 (Assoc.set (Reg.FEEDS).key 3
                                      (Assoc.set (Reg.HOLDUP_OK).key 1 (Assoc.set (Reg.BANK_B_STATE).key 1 (Assoc.set
                                      (Reg.LC_STATE).key 1 []))))) }, by decide +kernel⟩

theorem witness_FirmwareUpdate_handover : ∃ (back : Bool) (holds : Bool) (s : State),
    s.activateBar back = none ∧ holds = true :=
  ⟨false, true, { State.reset with regs := (Assoc.set (Reg.SUPPLY_STATE).key 0 (Assoc.set (Reg.FEEDS).key 3 (Assoc.set
                                     (Reg.HOLDUP_OK).key 1 (Assoc.set (Reg.BANK_B_STATE).key 1 (Assoc.set
                                     (Reg.LC_STATE).key 1 []))))) }, by decide +kernel⟩

theorem witness_FirmwareUpdate_handoverTimeout : ∃ (at' : Nat) (back : Bool) (s : State),
    s.update.handover = some (at', back) ∧ at' + 1000000000 ≤ s.now :=
  ⟨0, false, { State.reset with now := 1000000000, update := { State.reset.update with handover := some (0, false) }
                                  }, by decide +kernel⟩

theorem witness_FirmwareUpdate_handoverRuns : ∃ (at' : Nat) (back : Bool) (s : State),
    s.update.handover = some (at', back) ∧ s.now < at' + 1000000000 :=
  ⟨0, false, { State.reset with now := 999999999, update := { State.reset.update with handover := some (0, false) } },
    by decide +kernel⟩

theorem witness_FirmwareUpdate_noHandover : ∃ (s : State),
    s.update.handover = none :=
  ⟨State.reset, by decide +kernel⟩

theorem witness_FirmwareUpdate_commit : ∃ (x : HtpFrame) (y : Session) (s : State),
    s.htpReady x 0x24 y ∧ (s.htpTaken x).onProbation = true :=
  ⟨(htpFrame .usb 1 0x24 0 9 ([0])), { peer := .usb, version := 1 }, { State.reset with regs := (Assoc.set
                                                                                                (Reg.BANK_A_STATE).key
                                                                                                2 (Assoc.set
                                                                                                (Reg.BRINGUP_STAGE).key
                                                                                                6 (Assoc.set
                                                                                                (Reg.USB_STATE).key 2
                                                                                                []))), host := {
                                                                                                State.reset.host with
                                                                                                sessions := [{ peer :=
                                                                                                                 .usb,
                                                                                                                 version
                                                                                                                 := 1
                                                                                                                 }] }
                                                                                                }, by decide +kernel⟩

theorem witness_FirmwareUpdate_commitRefused : ∃ (x : HtpFrame) (y : Session) (s : State),
    s.htpReady x 0x24 y ∧ (s.htpTaken x).onProbation = false :=
  ⟨(htpFrame .usb 1 0x24 0 9 ([0])), { peer := .usb, version := 1 }, { State.reset with regs := (Assoc.set
                                                                                                (Reg.BRINGUP_STAGE).key
                                                                                                6 (Assoc.set
                                                                                                (Reg.USB_STATE).key 2
                                                                                                [])), host := {
                                                                                                State.reset.host with
                                                                                                sessions := [{ peer :=
                                                                                                                 .usb,
                                                                                                                 version
                                                                                                                 := 1
                                                                                                                 }] }
                                                                                                }, by decide +kernel⟩

theorem witness_FirmwareUpdate_abort : ∃ (x : HtpFrame) (y : Session) (s : State),
    s.htpReady x 0x26 y ∧ (s.htpTaken x).receiving = true :=
  ⟨(htpFrame .usb 1 0x26 0 9 ([0])), { peer := .usb, version := 1 }, { State.reset with regs := (Assoc.set
                                                                                                (Reg.UPD_BLOCKS).key 3
                                                                                                (Assoc.set
                                                                                                (Reg.UPD_STATE).key 1
                                                                                                (Assoc.set
                                                                                                (Reg.BRINGUP_STAGE).key
                                                                                                6 (Assoc.set
                                                                                                (Reg.USB_STATE).key 2
                                                                                                [])))), host := {
                                                                                                State.reset.host with
                                                                                                sessions := [{ peer :=
                                                                                                                 .usb,
                                                                                                                 version
                                                                                                                 := 1
                                                                                                                 }] }
                                                                                                }, by decide +kernel⟩

theorem witness_FirmwareUpdate_abortNothing : ∃ (x : HtpFrame) (y : Session) (s : State),
    s.htpReady x 0x26 y ∧ (s.htpTaken x).receiving = false :=
  ⟨(htpFrame .usb 1 0x26 0 9 ([0])), { peer := .usb, version := 1 }, { State.reset with regs := (Assoc.set
                                                                                                (Reg.BRINGUP_STAGE).key
                                                                                                6 (Assoc.set
                                                                                                (Reg.USB_STATE).key 2
                                                                                                [])), host := {
                                                                                                State.reset.host with
                                                                                                sessions := [{ peer :=
                                                                                                                 .usb,
                                                                                                                 version
                                                                                                                 := 1
                                                                                                                 }] }
                                                                                                }, by decide +kernel⟩

theorem witness_FirmwareUpdate_status : ∃ (x : HtpFrame) (y : Session) (s : State),
    s.htpReady x 0x27 y :=
  ⟨(htpFrame .usb 1 0x27 0 9 ([0])), { peer := .usb, version := 1 }, { State.reset with regs := (Assoc.set
                                                                                                (Reg.BRINGUP_STAGE).key
                                                                                                6 (Assoc.set
                                                                                                (Reg.USB_STATE).key 2
                                                                                                [])), update := {
                                                                                                State.reset.update
                                                                                                with recovery := true
                                                                                                       }, host := {
                                                                                                State.reset.host with
                                                                                                sessions := [{ peer :=
                                                                                                                 .usb,
                                                                                                                 version
                                                                                                                 := 1
                                                                                                                 }] }
                                                                                                }, by decide +kernel⟩

theorem witness_FirmwareUpdate_swap : ∃ (at' : Nat) (s : State),
    s.update.swapFrom = some at' ∧ s.noStep = true :=
  ⟨0, { State.reset with update := { State.reset.update with swapFrom := some 0, imgA := { uc := [(4, [1, 2])] } } },
    by decide +kernel⟩

theorem witness_FirmwareUpdate_swapWaits : ∃ (s : State),
    (s.update.swapFrom = none ∨ s.noStep = false) :=
  ⟨State.reset, by decide +kernel⟩

theorem witness_FirmwareUpdate_probation : ∃ (at' : Nat) (s : State),
    s.update.probationFrom = some at' ∧ at' + s.reg Reg.PROBATION_S * 1000000000 ≤ s.now ∧ s.onProbation = true :=
  ⟨0, { State.reset with now := 4000000000000, regs := (Assoc.set (Reg.BANK_A_STATE).key 2 []), update := {
                           State.reset.update with probationFrom := some 0 } }, by decide +kernel⟩

theorem witness_FirmwareUpdate_probationRuns : ∃ (at' : Nat) (s : State),
    s.update.probationFrom = some at' ∧ (s.now < at' + s.reg Reg.PROBATION_S * 1000000000 ∨ s.onProbation = false) :=
  ⟨0, { State.reset with update := { State.reset.update with probationFrom := some 0 } }, by decide +kernel⟩

theorem witness_FirmwareUpdate_noProbation : ∃ (s : State),
    s.update.probationFrom = none :=
  ⟨State.reset, by decide +kernel⟩

theorem witness_FirmwareUpdate_deferred : ∃ (s : State),
    s.reg Reg.UPD_STATE = 0x85 ∧ s.reg Reg.GAIT ≠ 1 :=
  ⟨{ State.reset with regs := (Assoc.set (Reg.GAIT).key 2 (Assoc.set (Reg.UPD_STATE).key 133 [])) },
    by decide +kernel⟩

theorem witness_FirmwareUpdate_notDeferred : ∃ (s : State),
    (s.reg Reg.UPD_STATE ≠ 0x85 ∨ s.reg Reg.GAIT = 1) :=
  ⟨State.reset, by decide +kernel⟩

theorem witness_FirmwareUpdate_recovery : ∃ (s : State),
    s.update.recovery = true ∧ s.reg Reg.UPD_STATE = 3 ∧ s.reg Reg.BANK_A_STATE = 1 :=
  ⟨{ State.reset with regs := (Assoc.set (Reg.BANK_B_STATE).key 3 (Assoc.set (Reg.UPD_STATE).key 3 (Assoc.set
                        (Reg.BANK_A_STATE).key 1 []))), update := { State.reset.update with recovery := true } },
    by decide +kernel⟩

theorem witness_FirmwareUpdate_noRecovery : ∃ (s : State),
    (s.update.recovery = false ∨ s.reg Reg.UPD_STATE ≠ 3 ∨ s.reg Reg.BANK_A_STATE ≠ 1) :=
  ⟨State.reset, by decide +kernel⟩

theorem witness_SecurityOperations_idGet : ∃ (x : HtpFrame) (y : Session) (s : State),
    s.htpReady x 0x30 y :=
  ⟨(htpFrame .usb 1 0x30 0 9 ([])), { peer := .usb, version := 1 }, { State.reset with regs := (Assoc.set
                                                                                               (Reg.BRINGUP_STAGE).key
                                                                                               6 (Assoc.set
                                                                                               (Reg.USB_STATE).key 2
                                                                                               [])), host := {
                                                                                               State.reset.host with
                                                                                               sessions := [{ peer :=
                                                                                                                .usb,
                                                                                                                version
                                                                                                                := 1
                                                                                                                }] }
                                                                                               }, by decide +kernel⟩

theorem witness_SecurityOperations_attest : ∃ (x : HtpFrame) (y : Session) (s : State),
    s.htpReady x 0x31 y ∧ 32 ≤ x.payload.length :=
  ⟨(htpFrame .usb 1 0x31 0 9 (List.replicate 32 1)), { peer := .usb, version := 1 }, { State.reset with regs :=
                                                                                                                (Assoc.set
                                                                                                                (Reg.BRINGUP_STAGE).key
                                                                                                                6
                                                                                                                (Assoc.set
                                                                                                                (Reg.USB_STATE).key
                                                                                                                2
                                                                                                                [])),
                                                                                                                host
                                                                                                                := {
                                                                                                                State.reset.host
                                                                                                                with
                                                                                                                sessions
                                                                                                                  :=
                                                                                                                  [{
                                                                                                                  peer
                                                                                                                    :=
                                                                                                                    .usb,
                                                                                                                    version
                                                                                                                    :=
                                                                                                                    1
                                                                                                                    }]
                                                                                                                  } },
    by decide +kernel⟩

theorem witness_SecurityOperations_attestShort : ∃ (x : HtpFrame) (y : Session) (s : State),
    s.htpReady x 0x31 y ∧ x.payload.length < 32 :=
  ⟨(htpFrame .usb 1 0x31 0 9 (List.replicate 31 1)), { peer := .usb, version := 1 }, { State.reset with regs :=
                                                                                                                (Assoc.set
                                                                                                                (Reg.BRINGUP_STAGE).key
                                                                                                                6
                                                                                                                (Assoc.set
                                                                                                                (Reg.USB_STATE).key
                                                                                                                2
                                                                                                                [])),
                                                                                                                host
                                                                                                                := {
                                                                                                                State.reset.host
                                                                                                                with
                                                                                                                sessions
                                                                                                                  :=
                                                                                                                  [{
                                                                                                                  peer
                                                                                                                    :=
                                                                                                                    .usb,
                                                                                                                    version
                                                                                                                    :=
                                                                                                                    1
                                                                                                                    }]
                                                                                                                  } },
    by decide +kernel⟩

theorem witness_SecurityOperations_report : ∃ (k : Nat) (s : State),
    Assoc.get? 3 s.security.keys = some k ∧ (s.reg Reg.LC_STATE = 2 ∨ s.reg Reg.LC_STATE = 3) :=
  ⟨7, { State.reset with regs := (Assoc.set (Reg.LC_STATE).key 2 []), security := { State.reset.security with keys :=
                                                                                                                [(3,
                                                                                                                7)] }
                           }, by decide +kernel⟩

theorem witness_SecurityOperations_noReport : ∃ (s : State),
    (Assoc.get? 3 s.security.keys = none ∨ s.reg Reg.LC_STATE ≠ 2 ∧ s.reg Reg.LC_STATE ≠ 3) :=
  ⟨State.reset, by decide +kernel⟩

theorem witness_SecurityOperations_challenge : ∃ (x : HtpFrame) (y : Session) (s : State),
    s.htpReady x 0x32 y :=
  ⟨(htpFrame .usb 1 0x32 0 9 ([])), { peer := .usb, version := 1 }, { State.reset with regs := (Assoc.set
                                                                                               (Reg.BRINGUP_STAGE).key
                                                                                               6 (Assoc.set
                                                                                               (Reg.USB_STATE).key 2
                                                                                               [])), host := {
                                                                                               State.reset.host with
                                                                                               sessions := [{ peer :=
                                                                                                                .usb,
                                                                                                                version
                                                                                                                := 1
                                                                                                                }] }
                                                                                               }, by decide +kernel⟩

theorem witness_SecurityOperations_takeOwnership : ∃ (x : HtpFrame) (y : Session) (r : Status × State) (s : State),
    s.htpReady x 0x33 y ∧ htpField x 0 1 = 1 ∧ (s.htpTaken x).ownerOp x.payload = r :=
  ⟨(htpFrame .usb 1 0x33 0 9 ([1, 1] ++ List.replicate 390 0)), { peer := .usb, version := 1 }, (State.ownerOp
    (State.htpTaken ({ State.reset with regs := (Assoc.set (Reg.BRINGUP_STAGE).key 6 (Assoc.set (Reg.USB_STATE).key 2
                                          [])), host := { State.reset.host with sessions := [{ peer := .usb, version
                                                                                                 := 1 }] } })
    (htpFrame .usb 1 0x33 0 9 ([1, 1] ++ List.replicate 390 0))) ((htpFrame .usb 1 0x33 0 9 ([1, 1] ++
    List.replicate 390 0))).payload), { State.reset with regs := (Assoc.set (Reg.BRINGUP_STAGE).key 6 (Assoc.set
                                                           (Reg.USB_STATE).key 2 [])), host := { State.reset.host with
                                                           sessions := [{ peer := .usb, version := 1 }] } },
    ⟨by decide +kernel, htpFrame_bad _ _ _ _ (by decide +kernel), by decide +kernel⟩, by decide +kernel, rfl⟩

theorem witness_SecurityOperations_release : ∃ (x : HtpFrame) (y : Session) (r : Status × State) (s : State),
    s.htpReady x 0x33 y ∧ htpField x 0 1 = 2 ∧ (s.htpTaken x).ownerOp x.payload = r :=
  ⟨(htpFrame .usb 1 0x33 0 9 ([2, 1] ++ List.replicate 390 0)), { peer := .usb, version := 1 }, (State.ownerOp
    (State.htpTaken ({ State.reset with regs := (Assoc.set (Reg.BRINGUP_STAGE).key 6 (Assoc.set (Reg.USB_STATE).key 2
                                          [])), host := { State.reset.host with sessions := [{ peer := .usb, version
                                                                                                 := 1 }] } })
    (htpFrame .usb 1 0x33 0 9 ([2, 1] ++ List.replicate 390 0))) ((htpFrame .usb 1 0x33 0 9 ([2, 1] ++
    List.replicate 390 0))).payload), { State.reset with regs := (Assoc.set (Reg.BRINGUP_STAGE).key 6 (Assoc.set
                                                           (Reg.USB_STATE).key 2 [])), host := { State.reset.host with
                                                           sessions := [{ peer := .usb, version := 1 }] } },
    ⟨by decide +kernel, htpFrame_bad _ _ _ _ (by decide +kernel), by decide +kernel⟩, by decide +kernel, rfl⟩

theorem witness_SecurityOperations_retire : ∃ (x : HtpFrame) (y : Session) (r : Status × State) (s : State),
    s.htpReady x 0x33 y ∧ htpField x 0 1 = 3 ∧ (s.htpTaken x).ownerOp x.payload = r :=
  ⟨(htpFrame .usb 1 0x33 0 9 ([3, 1] ++ List.replicate 390 0)), { peer := .usb, version := 1 }, (State.ownerOp
    (State.htpTaken ({ State.reset with regs := (Assoc.set (Reg.BRINGUP_STAGE).key 6 (Assoc.set (Reg.USB_STATE).key 2
                                          [])), host := { State.reset.host with sessions := [{ peer := .usb, version
                                                                                                 := 1 }] } })
    (htpFrame .usb 1 0x33 0 9 ([3, 1] ++ List.replicate 390 0))) ((htpFrame .usb 1 0x33 0 9 ([3, 1] ++
    List.replicate 390 0))).payload), { State.reset with regs := (Assoc.set (Reg.BRINGUP_STAGE).key 6 (Assoc.set
                                                           (Reg.USB_STATE).key 2 [])), host := { State.reset.host with
                                                           sessions := [{ peer := .usb, version := 1 }] } },
    ⟨by decide +kernel, htpFrame_bad _ _ _ _ (by decide +kernel), by decide +kernel⟩, by decide +kernel, rfl⟩

theorem witness_SecurityOperations_setLock : ∃ (x : HtpFrame) (y : Session) (r : Status × State) (s : State),
    s.htpReady x 0x33 y ∧ htpField x 0 1 = 4 ∧ (s.htpTaken x).ownerOp x.payload = r :=
  ⟨(htpFrame .usb 1 0x33 0 9 ([4, 1] ++ List.replicate 390 0)), { peer := .usb, version := 1 }, (State.ownerOp
    (State.htpTaken ({ State.reset with regs := (Assoc.set (Reg.BRINGUP_STAGE).key 6 (Assoc.set (Reg.USB_STATE).key 2
                                          [])), host := { State.reset.host with sessions := [{ peer := .usb, version
                                                                                                 := 1 }] } })
    (htpFrame .usb 1 0x33 0 9 ([4, 1] ++ List.replicate 390 0))) ((htpFrame .usb 1 0x33 0 9 ([4, 1] ++
    List.replicate 390 0))).payload), { State.reset with regs := (Assoc.set (Reg.BRINGUP_STAGE).key 6 (Assoc.set
                                                           (Reg.USB_STATE).key 2 [])), host := { State.reset.host with
                                                           sessions := [{ peer := .usb, version := 1 }] } },
    ⟨by decide +kernel, htpFrame_bad _ _ _ _ (by decide +kernel), by decide +kernel⟩, by decide +kernel, rfl⟩

theorem witness_SecurityOperations_setTamperEn : ∃ (x : HtpFrame) (y : Session) (r : Status × State) (s : State),
    s.htpReady x 0x33 y ∧ htpField x 0 1 = 5 ∧ (s.htpTaken x).ownerOp x.payload = r :=
  ⟨(htpFrame .usb 1 0x33 0 9 ([5, 1] ++ List.replicate 390 0)), { peer := .usb, version := 1 }, (State.ownerOp
    (State.htpTaken ({ State.reset with regs := (Assoc.set (Reg.BRINGUP_STAGE).key 6 (Assoc.set (Reg.USB_STATE).key 2
                                          [])), host := { State.reset.host with sessions := [{ peer := .usb, version
                                                                                                 := 1 }] } })
    (htpFrame .usb 1 0x33 0 9 ([5, 1] ++ List.replicate 390 0))) ((htpFrame .usb 1 0x33 0 9 ([5, 1] ++
    List.replicate 390 0))).payload), { State.reset with regs := (Assoc.set (Reg.BRINGUP_STAGE).key 6 (Assoc.set
                                                           (Reg.USB_STATE).key 2 [])), host := { State.reset.host with
                                                           sessions := [{ peer := .usb, version := 1 }] } },
    ⟨by decide +kernel, htpFrame_bad _ _ _ _ (by decide +kernel), by decide +kernel⟩, by decide +kernel, rfl⟩

theorem witness_SecurityOperations_provision : ∃ (x : HtpFrame) (y : Session) (r : Status × State) (s : State),
    s.htpReady x 0x33 y ∧ htpField x 0 1 = 6 ∧ (s.htpTaken x).ownerOp x.payload = r :=
  ⟨(htpFrame .usb 1 0x33 0 9 ([6, 1] ++ List.replicate 390 0)), { peer := .usb, version := 1 }, (State.ownerOp
    (State.htpTaken ({ State.reset with regs := (Assoc.set (Reg.BRINGUP_STAGE).key 6 (Assoc.set (Reg.USB_STATE).key 2
                                          [])), host := { State.reset.host with sessions := [{ peer := .usb, version
                                                                                                 := 1 }] } })
    (htpFrame .usb 1 0x33 0 9 ([6, 1] ++ List.replicate 390 0))) ((htpFrame .usb 1 0x33 0 9 ([6, 1] ++
    List.replicate 390 0))).payload), { State.reset with regs := (Assoc.set (Reg.BRINGUP_STAGE).key 6 (Assoc.set
                                                           (Reg.USB_STATE).key 2 [])), host := { State.reset.host with
                                                           sessions := [{ peer := .usb, version := 1 }] } },
    ⟨by decide +kernel, htpFrame_bad _ _ _ _ (by decide +kernel), by decide +kernel⟩, by decide +kernel, rfl⟩

theorem witness_SecurityOperations_otherOperation : ∃ (c : Instr) (x : HtpFrame) (k : Nat),
    ownerRow c = some (x, k) ∧ ownsFrame x k = false :=
  ⟨(.release (htpFrame .usb 1 0x33 0 9 ([1]))), (htpFrame .usb 1 0x33 0 9 ([1])), 2, by decide +kernel⟩

theorem witness_SecurityOperations_ownerTurnedAway : ∃ (c : Instr) (x : HtpFrame) (k : Nat) (u : State) (s : State),
    ownerRow c = some (x, k) ∧ ownsFrame x k = true ∧ s.htpTurnedAway x 0x33 = some u :=
  ⟨(.release (htpFrame .usb 1 0x33 0 9 ([2]))), (htpFrame .usb 1 0x33 0 9 ([2])), 2, State.reset,
    State.reset, by decide +kernel⟩

theorem witness_SecurityOperations_reservedOperation : ∃ (x : HtpFrame) (y : Session) (s : State),
    s.htpReady x 0x33 y ∧ (htpField x 0 1 = 0 ∨ 6 < htpField x 0 1) :=
  ⟨(htpFrame .usb 1 0x33 0 9 ([7])), { peer := .usb, version := 1 }, { State.reset with regs := (Assoc.set
                                                                                                (Reg.BRINGUP_STAGE).key
                                                                                                6 (Assoc.set
                                                                                                (Reg.USB_STATE).key 2
                                                                                                [])), host := {
                                                                                                State.reset.host with
                                                                                                sessions := [{ peer :=
                                                                                                                 .usb,
                                                                                                                 version
                                                                                                                 := 1
                                                                                                                 }] }
                                                                                                }, by decide +kernel⟩

theorem witness_SecurityOperations_malformed : ∃ (p : List Byte),
    ownerBad p = true :=
  ⟨[4, 1], by decide +kernel⟩

theorem witness_SecurityOperations_wrongChallenge : ∃ (p : List Byte) (s : State),
    ownerBad p = false ∧ s.challengeHolds p = false :=
  ⟨[4] ++ List.replicate 391 0, State.reset, by decide +kernel⟩

theorem witness_SecurityOperations_notAllowed : ∃ (p : List Byte) (s : State),
    ownerBad p = false ∧ s.challengeHolds p = true ∧ ownerAllowed (ownField p 0 1) (s.reg Reg.LC_STATE) = false :=
  ⟨([4] ++ List.replicate 35 0 ++ leBytes 4 0 ++ List.replicate 352 0), { State.reset with security := {
                                                                                             State.reset.security with
                                                                                             challenge := some
                                                                                               (List.replicate 32 0,
                                                                                               0) } },
    by decide +kernel⟩

theorem witness_SecurityOperations_lock : ∃ (p : List Byte) (s : State),
    ownerBad p = false ∧ s.challengeHolds p = true ∧ ownField p 0 1 = 4 ∧ s.reg Reg.LC_STATE = 3 :=
  ⟨([4] ++ List.replicate 35 0 ++ leBytes 4 0 ++ List.replicate 352 0), { State.reset with regs := (Assoc.set
                                                                                             (Reg.LC_STATE).key 3 []),
                                                                                             security := {
                                                                                             State.reset.security with
                                                                                             challenge := some
                                                                                               (List.replicate 32 0,
                                                                                               0) } },
    by decide +kernel⟩

theorem witness_SecurityOperations_tamperEn : ∃ (p : List Byte) (s : State),
    ownerBad p = false ∧ s.challengeHolds p = true ∧ ownField p 0 1 = 5 ∧ s.reg Reg.LC_STATE = 3 :=
  ⟨([5] ++ List.replicate 35 0 ++ leBytes 4 0 ++ List.replicate 352 0), { State.reset with regs := (Assoc.set
                                                                                             (Reg.LC_STATE).key 3 []),
                                                                                             security := {
                                                                                             State.reset.security with
                                                                                             challenge := some
                                                                                               (List.replicate 32 0,
                                                                                               0) } },
    by decide +kernel⟩

theorem witness_SecurityOperations_transition : ∃ (p : List Byte) (s : State),
    ownerBad p = false ∧ s.challengeHolds p = true ∧ (ownField p 0 1 ≠ 4 ∧ ownField p 0 1 ≠ 5) ∧ ownerAllowed
      (ownField p 0 1) (s.reg Reg.LC_STATE) = true :=
  ⟨([6] ++ List.replicate 35 0 ++ leBytes 4 0 ++ List.replicate 352 0), { State.reset with regs := (Assoc.set
                                                                                             (Reg.LC_STATE).key 1 []),
                                                                                             security := {
                                                                                             State.reset.security with
                                                                                             challenge := some
                                                                                               (List.replicate 32 0,
                                                                                               0) } },
    by decide +kernel⟩

theorem witness_SecurityOperations_restart : ∃ (at' : Nat) (cause : Nat) (s : State),
    s.security.restartAt = some (at', cause) ∧ at' ≤ s.now ∧ s.power.resetHeld = false ∧ s.power.off = true :=
  ⟨5, 2, { State.reset with now := 5, power := { State.reset.power with off := true }, security := {
                              State.reset.security with restartAt := some (5, 2) } }, by decide +kernel⟩

theorem witness_SecurityOperations_restartWaits : ∃ (at' : Nat) (cause : Nat) (s : State),
    s.security.restartAt = some (at', cause) ∧ (s.now < at' ∨ s.power.resetHeld = true ∨ s.power.off = false) :=
  ⟨5, 2, { State.reset with now := 4, security := { State.reset.security with restartAt := some (5, 2) } },
    by decide +kernel⟩

theorem witness_SecurityOperations_noRestart : ∃ (s : State),
    s.security.restartAt = none :=
  ⟨State.reset, by decide +kernel⟩

theorem witness_SecurityOperations_tamper : ∃ (sources : BitVec 5) (s : State),
    s.power.off = false ∧ s.reg Reg.PWR_STATE ≠ 3 ∧ (sources.toNat &&& s.reg Reg.TAMPER_EN &&& 0x1F) ≠ 0 :=
  ⟨0x1C, { State.reset with regs := (Assoc.set (Reg.TAMPER_EN).key 31 []) }, by decide +kernel⟩

theorem witness_SecurityOperations_tamperAsleep : ∃ (sources : BitVec 5) (s : State),
    s.power.off = false ∧ s.reg Reg.PWR_STATE = 3 ∧ (sources.toNat &&& s.reg Reg.TAMPER_EN &&& 0x17) ≠ 0 :=
  ⟨0x14, { State.reset with regs := (Assoc.set (Reg.PWR_STATE).key 3 (Assoc.set (Reg.TAMPER_EN).key 31 [])) },
    by decide +kernel⟩

theorem witness_SecurityOperations_tamperMasked : ∃ (sources : BitVec 5) (s : State),
    s.power.off = false ∧ ((sources.toNat &&& s.reg Reg.TAMPER_EN &&& 0x1F) = 0 ∨ s.reg Reg.PWR_STATE = 3 ∧
      (sources.toNat &&& s.reg Reg.TAMPER_EN &&& 0x17) = 0) :=
  ⟨3, { State.reset with regs := (Assoc.set (Reg.TAMPER_EN).key 28 []) }, by decide +kernel⟩

theorem witness_SecurityOperations_tamperOff : ∃ (s : State),
    s.power.off = true :=
  ⟨{ State.reset with power := { State.reset.power with off := true } }, by decide +kernel⟩

theorem witness_SecurityOperations_recheckActive : ∃ (sources : BitVec 5) (s : State),
    s.reg Reg.TAMPER_ACTIVE ≠ 0 ∧ s.security.noKeys = true ∧ s.security.checkedAt + 100000000 ≤ s.now ∧
      ((sources.toNat &&& s.reg Reg.TAMPER_EN) ≠ 0 ∨ s.security.trngFailed = true) :=
  ⟨4, { State.reset with now := 100000000, regs := (Assoc.set (Reg.TAMPER_EN).key 31 (Assoc.set
                           (Reg.TAMPER_ACTIVE).key 4 [])), security := { State.reset.security with noKeys := true } },
    by decide +kernel⟩

theorem witness_SecurityOperations_recheckClear : ∃ (sources : BitVec 5) (s : State),
    s.reg Reg.TAMPER_ACTIVE ≠ 0 ∧ s.security.noKeys = true ∧ s.security.checkedAt + 100000000 ≤ s.now ∧ (sources.toNat
      &&& s.reg Reg.TAMPER_EN) = 0 ∧ s.security.trngFailed = false :=
  ⟨0, { State.reset with now := 100000000, regs := (Assoc.set (Reg.TAMPER_EN).key 31 (Assoc.set
                           (Reg.TAMPER_ACTIVE).key 4 [])), security := { State.reset.security with noKeys := true } },
    by decide +kernel⟩

theorem witness_SecurityOperations_noRecheck : ∃ (s : State),
    (s.reg Reg.TAMPER_ACTIVE = 0 ∨ s.security.noKeys = false ∨ s.now < s.security.checkedAt + 100000000) :=
  ⟨State.reset, by decide +kernel⟩

theorem witness_SecurityOperations_openHarness : ∃ (img : Nat) (len : Nat) (s : State),
    s.saddleMay true img (max len 256) = true :=
  ⟨0x1FC2000, 256, State.reset, by decide +kernel⟩

theorem witness_SecurityOperations_openDenied : ∃ (img : Nat) (len : Nat) (s : State),
    s.saddleMay true img (max len 256) = false :=
  ⟨0x2000000, 256, State.reset, by decide +kernel⟩

theorem witness_SecurityOperations_ecallAttest : ∃ (src : Nat) (dst : Nat) (s : State),
    s.saddleMay false src 32 = true ∧ s.saddleMay true dst 352 = true :=
  ⟨0x1FC2000, 0x1FC3000, State.reset, by decide +kernel⟩

theorem witness_SecurityOperations_attestDenied : ∃ (src : Nat) (dst : Nat) (s : State),
    (s.saddleMay false src 32 = false ∨ s.saddleMay true dst 352 = false) :=
  ⟨0x1FC2000, 0x2000000, State.reset, by decide +kernel⟩

theorem witness_SecurityOperations_ecallOwnerOp : ∃ (src : Nat) (s : State),
    s.saddleMay false src 392 = true :=
  ⟨0x1FC2000, State.reset, by decide +kernel⟩

theorem witness_SecurityOperations_ownerDenied : ∃ (src : Nat) (s : State),
    s.saddleMay false src 392 = false :=
  ⟨0x2000000, State.reset, by decide +kernel⟩

theorem witness_SecurityOperations_unsealKey : ∃ (img : Nat) (len : Nat) (handle : Nat) (s : State),
    s.saddleMay false img (max len 256) = true ∧ 0x8000 ≤ handle ∧ handle ≤ 0x803F :=
  ⟨0x1FC2000, 256, 0x803F, State.reset, by decide +kernel⟩

theorem witness_SecurityOperations_unsealBad : ∃ (img : Nat) (len : Nat) (handle : Nat) (s : State),
    s.saddleMay false img (max len 256) = true ∧ (handle < 0x8000 ∨ 0x803F < handle) :=
  ⟨0x1FC2000, 256, 0x8040, State.reset, by decide +kernel⟩

theorem witness_SecurityOperations_unsealDenied : ∃ (img : Nat) (len : Nat) (s : State),
    s.saddleMay false img (max len 256) = false :=
  ⟨0x2000000, 256, State.reset, by decide +kernel⟩

theorem witness_SecurityOperations_verifyImage : ∃ (img : Nat) (len : Nat) (s : State),
    s.saddleMay false img (max len 64) = true :=
  ⟨0x1FC2000, 4096, State.reset, by decide +kernel⟩

theorem witness_SecurityOperations_verifyDenied : ∃ (img : Nat) (len : Nat) (s : State),
    s.saddleMay false img (max len 64) = false :=
  ⟨0x2000000, 4096, State.reset, by decide +kernel⟩

theorem witness_SecurityOperations_ecallChallenge : ∃ (dst : Nat) (s : State),
    s.saddleMay true dst 32 = true :=
  ⟨0x1FC2000, State.reset, by decide +kernel⟩

theorem witness_SecurityOperations_challengeDenied : ∃ (dst : Nat) (s : State),
    s.saddleMay true dst 32 = false :=
  ⟨0x2000000, State.reset, by decide +kernel⟩

theorem witness_StepMachine_noRun : ∃ (s : State),
    s.stepRun = none :=
  ⟨State.reset, by decide +kernel⟩

theorem witness_StepMachine_notYet : ∃ (r : StepRun) (s : State),
    s.stepRun = some r ∧ (s.releasable (s.reg Reg.STEP_RELEASED + 1) = false ∨ s.gaitAllows (s.judgingGait (some r))
      (s.reg Reg.STEP_RELEASED + 1) (some r) = false) :=
  ⟨{ run := run 0x10 [(8, 4, 2)], remaining := some 2 }, { State.reset with clock := 5000, now := 5000, regs :=
                                                                                    (Assoc.set (Reg.STEP_LEN_NS).key
                                                                                    1000 (Assoc.set
                                                                                    (Reg.BRINGUP_STAGE).key 6
                                                                                    (Assoc.set (Reg.HARNESS_STATE).key
                                                                                    2 []))), fabric := {
                                                                                    State.reset.fabric with runs := [{
                                                                                                              run :=
                                                                                                                run
                                                                                                                0x10
                                                                                                                [(8,
                                                                                                                4,
                                                                                                                2)],
                                                                                                                remaining
                                                                                                                :=
                                                                                                                some 2
                                                                                                                }],
                                                                                                              holdupSeen
                                                                                                              := true,
                                                                                                              hold :=
                                                                                                              [2] } },
    by decide +kernel⟩

theorem witness_StepMachine_aborted : ∃ (r : StepRun) (s : State),
    s.stepRun = some r ∧ s.releasable (s.reg Reg.STEP_RELEASED + 1) = true ∧ s.gaitAllows (s.judgingGait (some r))
      (s.reg Reg.STEP_RELEASED + 1) (some r) = true ∧ s.runAborted r = true :=
  ⟨{ run := run 0x10 [(8, 4, 2)], remaining := some 2 }, { State.reset with clock := 5000, now := 5000, regs :=
                                                                                    (Assoc.set (Reg.STEP_LEN_NS).key
                                                                                    1000 (Assoc.set
                                                                                    (Reg.BRINGUP_STAGE).key 6
                                                                                    (Assoc.set (Reg.HARNESS_STATE).key
                                                                                    2 []))), engines := [(0, { st :=
                                                                                                                 .aborting
                                                                                                                 })],
                                                                                    fabric := { State.reset.fabric
                                                                                    with runs := [{ run := run
                                                                                                      0x10 [(8, 4,
                                                                                                      2)], remaining
                                                                                                      := some 2 }],
                                                                                           holdupSeen := true } },
    by decide +kernel⟩

theorem witness_StepMachine_endingOther : ∃ (r : StepRun) (s : State),
    s.stepRun = some r ∧ s.releasable (s.reg Reg.STEP_RELEASED + 1) = true ∧ s.gaitAllows (s.judgingGait (some r))
      (s.reg Reg.STEP_RELEASED + 1) (some r) = true ∧ s.runAborted r = false ∧ s.runEnding r = true ∧
      s.applyStaged.reg Reg.GAIT ≠ 1 :=
  ⟨{ run := run 0x10 [(8, 4, 2)], remaining := some 2, gait := 2 }, { State.reset with clock := 5000, now :=
                                                                                               5000, regs :=
                                                                                               (Assoc.set
                                                                                               (Reg.GAIT).key 2
                                                                                               (Assoc.set
                                                                                               (Reg.STEP_LEN_NS).key
                                                                                               1000 (Assoc.set
                                                                                               (Reg.BRINGUP_STAGE).key
                                                                                               6 (Assoc.set
                                                                                               (Reg.HARNESS_STATE).key
                                                                                               2 [])))), fabric := {
                                                                                               State.reset.fabric with
                                                                                               runs := [{ run :=
                                                                                                            run
                                                                                                            0x10 [(8,
                                                                                                            4, 2)],
                                                                                                            remaining
                                                                                                            := some 2,
                                                                                                            gait := 2
                                                                                                            }],
                                                                                                 holdupSeen := true,
                                                                                                 staged := { gait :=
                                                                                                               some 0
                                                                                                               } } },
    by decide +kernel⟩

theorem witness_StepMachine_endingTrot : ∃ (r : StepRun) (s : State),
    s.stepRun = some r ∧ s.releasable (s.reg Reg.STEP_RELEASED + 1) = true ∧ s.gaitAllows (s.judgingGait (some r))
      (s.reg Reg.STEP_RELEASED + 1) (some r) = true ∧ s.runAborted r = false ∧ s.runEnding r = true ∧
      s.applyStaged.reg Reg.GAIT = 1 :=
  ⟨{ run := run 0x10 [(8, 4, 2)], remaining := some 2, gait := 2 }, { State.reset with clock := 5000, now :=
                                                                                               5000, regs :=
                                                                                               (Assoc.set
                                                                                               (Reg.GAIT).key 2
                                                                                               (Assoc.set
                                                                                               (Reg.STEP_LEN_NS).key
                                                                                               1000 (Assoc.set
                                                                                               (Reg.BRINGUP_STAGE).key
                                                                                               6 (Assoc.set
                                                                                               (Reg.HARNESS_STATE).key
                                                                                               2 [])))), fabric := {
                                                                                               State.reset.fabric with
                                                                                               runs := [{ run :=
                                                                                                            run
                                                                                                            0x10 [(8,
                                                                                                            4, 2)],
                                                                                                            remaining
                                                                                                            := some 2,
                                                                                                            gait := 2
                                                                                                            }],
                                                                                                 holdupSeen := true,
                                                                                                 staged := { gait :=
                                                                                                               some 1
                                                                                                               } } },
    by decide +kernel⟩

theorem witness_StepMachine_release : ∃ (r : StepRun) (s : State),
    s.stepRun = some r ∧ s.releasable (s.reg Reg.STEP_RELEASED + 1) = true ∧ s.gaitAllows (s.judgingGait (some r))
      (s.reg Reg.STEP_RELEASED + 1) (some r) = true ∧ s.runAborted r = false ∧ s.runEnding r = false :=
  ⟨{ run := run 0x10 [(8, 4, 2)], remaining := some 2 }, { State.reset with clock := 5000, now := 5000, regs :=
                                                                                    (Assoc.set (Reg.STEP_LEN_NS).key
                                                                                    1000 (Assoc.set
                                                                                    (Reg.BRINGUP_STAGE).key 6
                                                                                    (Assoc.set (Reg.HARNESS_STATE).key
                                                                                    2 []))), fabric := {
                                                                                    State.reset.fabric with runs := [{
                                                                                                              run :=
                                                                                                                run
                                                                                                                0x10
                                                                                                                [(8,
                                                                                                                4,
                                                                                                                2)],
                                                                                                                remaining
                                                                                                                :=
                                                                                                                some 2
                                                                                                                }],
                                                                                                              holdupSeen
                                                                                                              := true
                                                                                                              } },
    by decide +kernel⟩

theorem witness_StepMachine_nominal : ∃ (s : State),
    s.reg Reg.GAIT = 1 ∧ s.fabric.anchor.isSome = true ∧ s.reg Reg.NEXT_NOM ≤ s.clock :=
  ⟨{ State.reset with clock := 5000, now := 5000, regs := (Assoc.set (Reg.NEXT_NOM).key 4000 (Assoc.set (Reg.GAIT).key
                        1 (Assoc.set (Reg.STEP_LEN_NS).key 1000 (Assoc.set (Reg.BRINGUP_STAGE).key 6 (Assoc.set
                        (Reg.HARNESS_STATE).key 2 []))))), fabric := { State.reset.fabric with runs := [{ run :=
                                                                                                            run
                                                                                                            0x10 [(8,
                                                                                                            4, 2)],
                                                                                                            remaining
                                                                                                            := some 2
                                                                                                            }],
                                                                                                 holdupSeen := true,
                                                                                                 anchor := some (1,
                                                                                                 3000) } },
    by decide +kernel⟩

theorem witness_StepMachine_nominalNot : ∃ (s : State),
    (s.reg Reg.GAIT ≠ 1 ∨ s.fabric.anchor.isSome = false ∨ s.clock < s.reg Reg.NEXT_NOM) :=
  ⟨{ State.reset with clock := 5000, now := 5000, regs := (Assoc.set (Reg.NEXT_NOM).key 5001 (Assoc.set (Reg.GAIT).key
                        1 (Assoc.set (Reg.STEP_LEN_NS).key 1000 (Assoc.set (Reg.BRINGUP_STAGE).key 6 (Assoc.set
                        (Reg.HARNESS_STATE).key 2 []))))), fabric := { State.reset.fabric with runs := [{ run :=
                                                                                                            run
                                                                                                            0x10 [(8,
                                                                                                            4, 2)],
                                                                                                            remaining
                                                                                                            := some 2
                                                                                                            }],
                                                                                                 holdupSeen := true,
                                                                                                 anchor := some (1,
                                                                                                 3000) } },
    by decide +kernel⟩

theorem witness_StepMachine_noNews : ∃ (n : Nat) (s : State),
    (s.fabric.news.find? fun m => m.1 = 1 ∧ m.2.1 = n) = none :=
  ⟨1, State.reset, by decide +kernel⟩

theorem witness_StepMachine_newsOutOfOrder : ∃ (n : Nat) (m : Nat × Nat × Nat) (s : State),
    (s.fabric.news.find? fun m => m.1 = 1 ∧ m.2.1 = n) = some m ∧ n ≠ s.fabric.learned + 1 :=
  ⟨3, (1, 3, 7), { State.reset with clock := 5000, now := 5000, regs := (Assoc.set (Reg.STEP_LEN_NS).key 1000
                                      (Assoc.set (Reg.BRINGUP_STAGE).key 6 (Assoc.set (Reg.HARNESS_STATE).key 2 []))),
                                      fabric := { State.reset.fabric with runs := [{ run := run 0x10 [(8, 4,
                                                                                       2)], remaining := some 2 }],
                                                                            holdupSeen := true, news := [(1, 3, 7)] }
                                      }, by decide +kernel⟩

theorem witness_StepMachine_learn : ∃ (n : Nat) (m : Nat × Nat × Nat) (s : State),
    (s.fabric.news.find? fun m => m.1 = 1 ∧ m.2.1 = n) = some m ∧ n = s.fabric.learned + 1 ∧ s.isMaster = true :=
  ⟨1, (1, 1, 7), { State.reset with clock := 5000, now := 5000, regs := (Assoc.set (Reg.STEP_LEN_NS).key 1000
                                      (Assoc.set (Reg.BRINGUP_STAGE).key 6 (Assoc.set (Reg.HARNESS_STATE).key 2 []))),
                                      fabric := { State.reset.fabric with runs := [{ run := run 0x10 [(8, 4,
                                                                                       2)], remaining := some 2 }],
                                                                            holdupSeen := true, news := [(1, 1, 7)] }
                                      }, by decide +kernel⟩

theorem witness_StepMachine_learnElsewhere : ∃ (n : Nat) (m : Nat × Nat × Nat) (s : State),
    (s.fabric.news.find? fun m => m.1 = 1 ∧ m.2.1 = n) = some m ∧ n = s.fabric.learned + 1 ∧ s.isMaster = false :=
  ⟨1, (1, 1, 7), { State.reset with clock := 5000, now := 5000, regs := (Assoc.set (Reg.DEV_NUM).key 5 (Assoc.set
                                      (Reg.STEP_LEN_NS).key 1000 (Assoc.set (Reg.BRINGUP_STAGE).key 6 (Assoc.set
                                      (Reg.HARNESS_STATE).key 2 [])))), fabric := { State.reset.fabric with runs := [{
                                                                                                              run :=
                                                                                                                run
                                                                                                                0x10
                                                                                                                [(8,
                                                                                                                4,
                                                                                                                2)],
                                                                                                                remaining
                                                                                                                :=
                                                                                                                some 2
                                                                                                                }],
                                                                                                              holdupSeen
                                                                                                              := true,
                                                                                                              news :=
                                                                                                              [(1, 1,
                                                                                                              7)] } },
    by decide +kernel⟩

theorem witness_StepMachine_noRound : ∃ (s : State),
    (s.reg Reg.HARNESS_STATE < 2 ∨ (s.tether.settle.any fun x => x.zeroing) = true) :=
  ⟨State.reset, by decide +kernel⟩

theorem witness_StepMachine_round : ∃ (r : Reduction) (s : State),
    2 ≤ s.reg Reg.HARNESS_STATE ∧ (s.tether.settle.any fun x => x.zeroing) = false ∧ s.isMaster = true ∧
      (s.fabric.children.foldl (fun a c => a.combine c.2) s.dieReduction) = r ∧ (s.fabric.children.find? fun c =>
      checkDiffers c.2.check s.dieReduction.check) = none :=
  ⟨({ State.reset with clock := 5000, now := 5000, regs := (Assoc.set (Reg.STEP_LEN_NS).key 1000 (Assoc.set
                         (Reg.BRINGUP_STAGE).key 6 (Assoc.set (Reg.HARNESS_STATE).key 2 []))), fabric := {
                         State.reset.fabric with runs := [{ run := run 0x10 [(8, 4, 2)], remaining := some 2 }],
                                                   holdupSeen := true } } : State).dieReduction, { State.reset with
    clock := 5000, now := 5000, regs := (Assoc.set (Reg.STEP_LEN_NS).key 1000 (Assoc.set (Reg.BRINGUP_STAGE).key 6
      (Assoc.set (Reg.HARNESS_STATE).key 2 []))), fabric := { State.reset.fabric with runs := [{ run := run 0x10
                                                                                                   [(8, 4, 2)],
                                                                                                   remaining := some 2
                                                                                                   }], holdupSeen :=
                                                                                        true } }, by decide +kernel⟩

theorem witness_StepMachine_roundMismatch : ∃ (c : Nat × Reduction) (s : State),
    2 ≤ s.reg Reg.HARNESS_STATE ∧ (s.tether.settle.any fun x => x.zeroing) = false ∧ s.isMaster = true ∧
      (s.fabric.children.find? fun c => checkDiffers c.2.check s.dieReduction.check) = some c :=
  ⟨(2, ⟨0, 0, {}, {}, {}, {}, .ok, 9⟩), { State.reset with clock := 5000, now := 5000, regs := (Assoc.set
                                                             (Reg.STEP_LEN_NS).key 1000 (Assoc.set
                                                             (Reg.BRINGUP_STAGE).key 6 (Assoc.set
                                                             (Reg.HARNESS_STATE).key 2 []))), fabric := {
                                                             State.reset.fabric with runs := [{ run := run 0x10
                                                                                                  [(8, 4, 2)],
                                                                                                  remaining := some 2
                                                                                                  }], holdupSeen :=
                                                                                       true, children := [(2, ⟨0, 0,
                                                                                       {}, {}, {}, {}, .ok, 9⟩)] } },
    by decide +kernel⟩

theorem witness_StepMachine_roundElsewhere : ∃ (r : Reduction) (s : State),
    2 ≤ s.reg Reg.HARNESS_STATE ∧ (s.tether.settle.any fun x => x.zeroing) = false ∧ s.isMaster = false ∧
      (s.fabric.children.foldl (fun a c => a.combine c.2) s.dieReduction) = r :=
  ⟨({ State.reset with clock := 5000, now := 5000, regs := (Assoc.set (Reg.DEV_NUM).key 5 (Assoc.set
                         (Reg.STEP_LEN_NS).key 1000 (Assoc.set (Reg.BRINGUP_STAGE).key 6 (Assoc.set
                         (Reg.HARNESS_STATE).key 2 [])))), fabric := { State.reset.fabric with runs := [{ run :=
                                                                                                            run
                                                                                                            0x10 [(8,
                                                                                                            4, 2)],
                                                                                                            remaining
                                                                                                            := some 2
                                                                                                            }],
                                                                                                 holdupSeen := true }
                         } : State).dieReduction, { State.reset with clock := 5000, now := 5000, regs := (Assoc.set
                                                                       (Reg.DEV_NUM).key 5 (Assoc.set
                                                                       (Reg.STEP_LEN_NS).key 1000 (Assoc.set
                                                                       (Reg.BRINGUP_STAGE).key 6 (Assoc.set
                                                                       (Reg.HARNESS_STATE).key 2 [])))), fabric := {
                                                                       State.reset.fabric with runs := [{ run :=
                                                                                                            run
                                                                                                            0x10 [(8,
                                                                                                            4, 2)],
                                                                                                            remaining
                                                                                                            := some 2
                                                                                                            }],
                                                                                                 holdupSeen := true }
                                                                       }, by decide +kernel⟩

theorem witness_StepMachine_stepComplete : ∃ (r : Reduction) (s : State),
    s.reg Reg.STEP_COMPLETE + 1 ≤ s.reg Reg.STEP_RELEASED ∧ s.reg Reg.STEP_COMPLETE + 1 ≤ r.done ∧ r.fsent.get (s.reg
      Reg.STEP_COMPLETE + 1) = r.frcvd.get (s.reg Reg.STEP_COMPLETE + 1) :=
  ⟨⟨1, 0, {}, {}, {}, {}, .ok, 1⟩, { State.reset with clock := 5000, now := 5000, regs := (Assoc.set
                                                        (Reg.STEP_RELEASED).key 1 (Assoc.set (Reg.STEP_LEN_NS).key
                                                        1000 (Assoc.set (Reg.BRINGUP_STAGE).key 6 (Assoc.set
                                                        (Reg.HARNESS_STATE).key 2 [])))), fabric := {
                                                        State.reset.fabric with runs := [{ run := run 0x10 [(8,
                                                                                             4, 2)], remaining := some
                                                                                             2 }], holdupSeen := true
                                                                                  } }, by decide +kernel⟩

theorem witness_StepMachine_stepIncomplete : ∃ (r : Reduction) (s : State),
    (s.reg Reg.STEP_RELEASED < s.reg Reg.STEP_COMPLETE + 1 ∨ r.done < s.reg Reg.STEP_COMPLETE + 1 ∨ r.fsent.get (s.reg
      Reg.STEP_COMPLETE + 1) ≠ r.frcvd.get (s.reg Reg.STEP_COMPLETE + 1)) :=
  ⟨⟨0, 0, {}, {}, {}, {}, .ok, 1⟩, { State.reset with clock := 5000, now := 5000, regs := (Assoc.set
                                                        (Reg.STEP_RELEASED).key 1 (Assoc.set (Reg.STEP_LEN_NS).key
                                                        1000 (Assoc.set (Reg.BRINGUP_STAGE).key 6 (Assoc.set
                                                        (Reg.HARNESS_STATE).key 2 [])))), fabric := {
                                                        State.reset.fabric with runs := [{ run := run 0x10 [(8,
                                                                                             4, 2)], remaining := some
                                                                                             2 }], holdupSeen := true
                                                                                  } }, by decide +kernel⟩

theorem witness_StepMachine_windowDrained : ∃ (r : Reduction) (s : State),
    s.fabric.drained + 1 ≤ s.fabric.window ∧ s.fabric.drained + 1 ≤ r.sdone ∧ r.ssent.get (s.fabric.drained + 1) =
      r.srcvd.get (s.fabric.drained + 1) :=
  ⟨⟨1, 1, {}, {}, {}, {}, .ok, 1⟩, { State.reset with clock := 5000, now := 5000, regs := (Assoc.set
                                                        (Reg.STEP_LEN_NS).key 1000 (Assoc.set (Reg.BRINGUP_STAGE).key
                                                        6 (Assoc.set (Reg.HARNESS_STATE).key 2 []))), fabric := {
                                                        State.reset.fabric with runs := [{ run := run 0x10 [(8,
                                                                                             4, 2)], remaining := some
                                                                                             2 }], holdupSeen := true,
                                                                                  window := 1 } }, by decide +kernel⟩

theorem witness_StepMachine_windowUndrained : ∃ (r : Reduction) (s : State),
    (s.fabric.window < s.fabric.drained + 1 ∨ r.sdone < s.fabric.drained + 1 ∨ r.ssent.get (s.fabric.drained + 1) ≠
      r.srcvd.get (s.fabric.drained + 1)) :=
  ⟨⟨0, 0, {}, {}, {}, {}, .ok, 1⟩, { State.reset with clock := 5000, now := 5000, regs := (Assoc.set
                                                        (Reg.STEP_LEN_NS).key 1000 (Assoc.set (Reg.BRINGUP_STAGE).key
                                                        6 (Assoc.set (Reg.HARNESS_STATE).key 2 []))), fabric := {
                                                        State.reset.fabric with runs := [{ run := run 0x10 [(8,
                                                                                             4, 2)], remaining := some
                                                                                             2 }], holdupSeen := true,
                                                                                  window := 1 } }, by decide +kernel⟩

theorem witness_StepMachine_completeNone : ∃ (n : Nat) (s : State),
    (s.fabric.news.find? fun m => m.1 = 2 ∧ m.2.1 = n) = none :=
  ⟨1, State.reset, by decide +kernel⟩

theorem witness_StepMachine_completeOutOfOrder : ∃ (n : Nat) (m : Nat × Nat × Nat) (s : State),
    (s.fabric.news.find? fun m => m.1 = 2 ∧ m.2.1 = n) = some m ∧ (n ≠ s.fabric.known + 1 ∨ s.fabric.learned < n) :=
  ⟨2, (2, 2, 7), { State.reset with clock := 5000, now := 5000, regs := (Assoc.set (Reg.STEP_LEN_NS).key 1000
                                      (Assoc.set (Reg.BRINGUP_STAGE).key 6 (Assoc.set (Reg.HARNESS_STATE).key 2 []))),
                                      fabric := { State.reset.fabric with runs := [{ run := run 0x10 [(8, 4,
                                                                                       2)], remaining := some 2 }],
                                                                            holdupSeen := true, news := [(2, 2, 7)] }
                                      }, by decide +kernel⟩

theorem witness_StepMachine_complete : ∃ (n : Nat) (m : Nat × Nat × Nat) (st : Status) (sums : List Nat) (s : State),
    (s.fabric.news.find? fun m => m.1 = 2 ∧ m.2.1 = n) = some m ∧ n = s.fabric.known + 1 ∧ n ≤ s.fabric.learned ∧
      ((s.fabric.flights.find? fun f => f.n = n).map fun f => (f.status, f.sums)).getD (.ok, []) = (st, sums) :=
  ⟨1, (2, 1, 7), .late, [3], { State.reset with clock := 5000, now := 5000, regs := (Assoc.set (Reg.STEP_LEN_NS).key
                                                  1000 (Assoc.set (Reg.BRINGUP_STAGE).key 6 (Assoc.set
                                                  (Reg.HARNESS_STATE).key 2 []))), fabric := { State.reset.fabric with
                                                  runs := [{ run := run 0x10 [(8, 4, 2)], remaining := some 2
                                                               }], holdupSeen := true, news := [(2, 1, 7)], learned :=
                                                    1, flights := [{ n := 1, releasedAt := 0, due := none, policy :=
                                                                       1, shed := 0, status := .late, sums := [3] }] }
                                                  }, by decide +kernel⟩

theorem witness_StepMachine_windowClose : ∃ (s : State),
    s.fabric.windowOpen = true ∧ s.closable s.fabric.window = true :=
  ⟨{ State.reset with clock := 5000, now := 5000, regs := (Assoc.set (Reg.STEP_LEN_NS).key 1000 (Assoc.set
                        (Reg.BRINGUP_STAGE).key 6 (Assoc.set (Reg.HARNESS_STATE).key 2 []))), fabric := {
                        State.reset.fabric with runs := [{ run := run 0x10 [(8, 4, 2)], remaining := some 2 }],
                                                  holdupSeen := true, window := 1, windowOpen := true } },
    by decide +kernel⟩

theorem witness_StepMachine_windowStays : ∃ (s : State),
    (s.fabric.windowOpen = false ∨ s.closable s.fabric.window = false) :=
  ⟨{ State.reset with clock := 5000, now := 5000, regs := (Assoc.set (Reg.STEP_LEN_NS).key 1000 (Assoc.set
                        (Reg.BRINGUP_STAGE).key 6 (Assoc.set (Reg.HARNESS_STATE).key 2 []))), fabric := {
                        State.reset.fabric with runs := [], holdupSeen := true, window := 1, windowOpen := true } },
    by decide +kernel⟩

theorem witness_StepMachine_overrunNone : ∃ (s : State),
    (s.fabric.flights.all fun f => !(f.due.any fun d => d ≤ s.clock)) = true :=
  ⟨{ State.reset with clock := 5000, now := 5000, regs := (Assoc.set (Reg.STEP_LEN_NS).key 1000 (Assoc.set
                        (Reg.BRINGUP_STAGE).key 6 (Assoc.set (Reg.HARNESS_STATE).key 2 []))), fabric := {
                        State.reset.fabric with runs := [{ run := run 0x10 [(8, 4, 2)], remaining := some 2 }],
                                                  holdupSeen := true, flights := [{ n := 1, releasedAt := 0, due :=
                                                                                      some 5001, policy := 1, shed :=
                                                                                      0 }] } }, by decide +kernel⟩

theorem witness_StepMachine_carryDrop : ∃ (c : ClusterId) (t : TileId) (f : StepFlight) (s : State),
    (s.fabric.flights.find? fun f => f.n == (s.tile c.val t.val).delivering) = some f ∧ (f.due.any fun d => d ≤
      s.clock) = true :=
  ⟨3, 63, { n := 1, releasedAt := 0, due := some 9, policy := 1, shed := 0 }, { State.reset with clock := 5000, now :=
                                                                                                   5000, regs :=
                                                                                                   (Assoc.set
                                                                                                   (Reg.STEP_LEN_NS).key
                                                                                                   1000 (Assoc.set
                                                                                                   (Reg.BRINGUP_STAGE).key
                                                                                                   6 (Assoc.set
                                                                                                   (Reg.HARNESS_STATE).key
                                                                                                   2 []))), fabric :=
                                                                                                   {
                                                                                                   State.reset.fabric
                                                                                                   with runs := [{ run
                                                                                                                     :=
                                                                                                                     run
                                                                                                                     0x10
                                                                                                                     [(8,
                                                                                                                     4,
                                                                                                                     2)],
                                                                                                                     remaining
                                                                                                                     :=
                                                                                                                     some
                                                                                                                     2
                                                                                                                     }],
                                                                                                          holdupSeen
                                                                                                          := true,
                                                                                                          flights :=
                                                                                                          [{ n := 1,
                                                                                                               releasedAt
                                                                                                               := 0,
                                                                                                               due :=
                                                                                                               some 9,
                                                                                                               policy
                                                                                                               := 1,
                                                                                                               shed :=
                                                                                                               0 }] }
                                                                                                   },
    by decide +kernel⟩

theorem witness_StepMachine_carryKept : ∃ (c : ClusterId) (t : TileId) (s : State),
    (s.fabric.flights.any fun f => f.n == (s.tile c.val t.val).delivering && f.due.any fun d => d ≤ s.clock) = false :=
  ⟨3, 63, { State.reset with clock := 5000, now := 5000, regs := (Assoc.set (Reg.STEP_LEN_NS).key 1000 (Assoc.set
                               (Reg.BRINGUP_STAGE).key 6 (Assoc.set (Reg.HARNESS_STATE).key 2 []))), fabric := {
                               State.reset.fabric with runs := [{ run := run 0x10 [(8, 4, 2)], remaining := some
                                                                    2 }], holdupSeen := true, flights := [{ n := 1,
                                                                                                              releasedAt
                                                                                                              := 0,
                                                                                                              due :=
                                                                                                              some
                                                                                                              5001,
                                                                                                              policy
                                                                                                              := 1,
                                                                                                              shed :=
                                                                                                              0 }] }
                               }, by decide +kernel⟩

theorem witness_TileDelivery_begin : ∃ (c : ClusterId) (t : TileId) (s : State),
    (s.tile c.val t.val).phase = .idle ∧ (s.tile c.val t.val).map.n ≠ 0 ∧ (s.tile c.val t.val).fenced = false ∧
      (s.tile c.val t.val).updated + 1 ≤ s.fabric.learned :=
  ⟨3, 2, { State.reset with tiles := [(194, { map := { n := 8 } })], fabric := { State.reset.fabric with learned := 1
                                                                                                           } },
    by decide +kernel⟩

theorem witness_TileDelivery_beginNot : ∃ (c : ClusterId) (t : TileId) (s : State),
    ((s.tile c.val t.val).phase ≠ .idle ∨ (s.tile c.val t.val).map.n = 0 ∨ (s.tile c.val t.val).fenced = true ∨
      s.fabric.learned < (s.tile c.val t.val).updated + 1) :=
  ⟨3, 2, { State.reset with tiles := [(194, { map := { n := 8 } })] }, by decide +kernel⟩

theorem witness_TileDelivery_notDelivering : ∃ (c : ClusterId) (t : TileId) (s : State),
    (∀ n, (s.tile c.val t.val).phase ≠ .deliver n) :=
  ⟨3, 2, State.reset, by intro n h; cases h⟩

theorem witness_TileDelivery_expandNone : ∃ (c : ClusterId) (t : TileId) (pick : Nat) (n : Nat) (s : State),
    (s.tile c.val t.val).phase = .deliver n ∧ (s.expandable c.val t.val n)[pick]? = none :=
  ⟨3, 2, 0, 1, { State.reset with tiles := [(194, { map := { n := 8 }, phase := .deliver 1 })] }, by decide +kernel⟩

theorem witness_TileDelivery_expandPaused : ∃ (c : ClusterId) (t : TileId) (pick : Nat) (n : Nat) (p : Parked) (s : State),
    (s.tile c.val t.val).phase = .deliver n ∧ (s.expandable c.val t.val n)[pick]? = some p ∧ (s.tileProgress c.val
      t.val).prePaused c.val t.val p = true :=
  ⟨3, 2, 0, 1, farParked, prePausedState, by decide +kernel⟩

theorem witness_TileDelivery_expandBad : ∃ (c : ClusterId) (t : TileId) (pick : Nat) (n : Nat) (p : Parked) (f : Flaws) (s : State),
    (s.tile c.val t.val).phase = .deliver n ∧ (s.expandable c.val t.val n)[pick]? = some p ∧ (s.tileProgress c.val
      t.val).prePaused c.val t.val p = false ∧ (p.ev.payBad = true ∨ f.parked = true) :=
  ⟨3, 2, 0, 1, { ev := { word := eventWord 0 1 0 3 2 0 0 1 0 false }, due := 1 }, { parked := true }, { State.reset
    with tiles := [(194, { map := { n := 8, nearRows := 1, e := 4 }, phase := .deliver 1, slots := [(1, { owner := 1,
                                                                                                            events :=
                                                                                                            [{ ev := {
                                                                                                                 word
                                                                                                                   :=
                                                                                                                   eventWord
                                                                                                                   0 1
                                                                                                                   0 3
                                                                                                                   2 0
                                                                                                                   0 1
                                                                                                                   0
                                                                                                                   false
                                                                                                                   },
                                                                                                                 due
                                                                                                                 := 1
                                                                                                                 }]
                                                                                                            })] })] },
    by decide +kernel⟩

theorem witness_TileDelivery_expandFar : ∃ (c : ClusterId) (t : TileId) (pick : Nat) (n : Nat) (p : Parked) (f : Flaws) (s : State),
    (s.tile c.val t.val).phase = .deliver n ∧ (s.expandable c.val t.val n)[pick]? = some p ∧ (s.tileProgress c.val
      t.val).prePaused c.val t.val p = false ∧ p.ev.payBad = false ∧ f.parked = false ∧ natBit p.ev.row 17 = true :=
  ⟨3, 2, 0, 1, { ev := { word := eventWord 0 1 0 3 2 131073 0 1 0 false }, due := 1 }, {}, { State.reset with tiles :=
                                                                                                                [(194,
                                                                                                                { map
                                                                                                                    :=
                                                                                                                    {
                                                                                                                    n
                                                                                                                      :=
                                                                                                                      8,
                                                                                                                      nearRows
                                                                                                                      :=
                                                                                                                      1,
                                                                                                                      e
                                                                                                                      :=
                                                                                                                      4
                                                                                                                      },
                                                                                                                    phase
                                                                                                                    :=
                                                                                                                    .deliver
                                                                                                                    1,
                                                                                                                    slots
                                                                                                                    :=
                                                                                                                    [(1,
                                                                                                                    {
                                                                                                                    owner
                                                                                                                      :=
                                                                                                                      1,
                                                                                                                      events
                                                                                                                      :=
                                                                                                                      [{
                                                                                                                      ev
                                                                                                                        :=
                                                                                                                        {
                                                                                                                        word
                                                                                                                          :=
                                                                                                                          eventWord
                                                                                                                          0
                                                                                                                          1
                                                                                                                          0
                                                                                                                          3
                                                                                                                          2
                                                                                                                          131073
                                                                                                                          0
                                                                                                                          1
                                                                                                                          0
                                                                                                                          false
                                                                                                                          },
                                                                                                                        due
                                                                                                                        :=
                                                                                                                        1
                                                                                                                        }]
                                                                                                                      })]
                                                                                                                    })]
                                                                                                                },
    by decide +kernel⟩

theorem witness_TileDelivery_expandNear : ∃ (c : ClusterId) (t : TileId) (pick : Nat) (n : Nat) (p : Parked) (f : Flaws) (s : State),
    (s.tile c.val t.val).phase = .deliver n ∧ (s.expandable c.val t.val n)[pick]? = some p ∧ (s.tileProgress c.val
      t.val).prePaused c.val t.val p = false ∧ p.ev.payBad = false ∧ f.parked = false ∧ natBit p.ev.row 17 = false :=
  ⟨3, 2, 0, 1, { ev := { word := eventWord 0 1 0 3 2 0 0 1 0 false }, due := 1 }, {}, { State.reset with tiles :=
                                                                                                           [(194, {
                                                                                                           map := { n
                                                                                                                      :=
                                                                                                                      8,
                                                                                                                      nearRows
                                                                                                                      :=
                                                                                                                      1,
                                                                                                                      e
                                                                                                                      :=
                                                                                                                      4
                                                                                                                      },
                                                                                                             phase :=
                                                                                                             .deliver
                                                                                                             1, slots
                                                                                                             := [(1, {
                                                                                                             owner :=
                                                                                                               1,
                                                                                                               events
                                                                                                               := [{
                                                                                                               ev := {
                                                                                                                 word
                                                                                                                   :=
                                                                                                                   eventWord
                                                                                                                   0 1
                                                                                                                   0 3
                                                                                                                   2 0
                                                                                                                   0 1
                                                                                                                   0
                                                                                                                   false
                                                                                                                   },
                                                                                                                 due
                                                                                                                 := 1
                                                                                                                 }]
                                                                                                               })] })]
                                                                                                           },
    by decide +kernel⟩

theorem witness_TileDelivery_end : ∃ (c : ClusterId) (t : TileId) (n : Nat) (s : State),
    (s.tile c.val t.val).phase = .deliver n ∧ n ≤ s.fabric.known + 1 ∧ ((s.tile c.val t.val).slot (n % 64)).events =
      [] ∧ (s.tile c.val t.val).backOf n = [] ∧ (s.tile c.val t.val).farWait = [] ∧ s.spillLeft c.val n = false :=
  ⟨3, 2, 1, { State.reset with tiles := [(194, { map := { n := 8 }, phase := .deliver 1 })] }, by decide +kernel⟩

theorem witness_TileDelivery_endWaits : ∃ (c : ClusterId) (t : TileId) (n : Nat) (s : State),
    (s.tile c.val t.val).phase = .deliver n ∧ (s.fabric.known + 1 < n ∨ ((s.tile c.val t.val).slot (n % 64)).events ≠
      [] ∨ (s.tile c.val t.val).backOf n ≠ [] ∨ (s.tile c.val t.val).farWait ≠ [] ∨ s.spillLeft c.val n = true) :=
  ⟨3, 2, 1, { State.reset with tiles := [(194, { map := { n := 8 }, phase := .deliver 1, slots := [(1, { owner := 1,
                                                                                                           events :=
                                                                                                           [{ ev := {
                                                                                                                word
                                                                                                                  :=
                                                                                                                  eventWord
                                                                                                                  0 1
                                                                                                                  0 3
                                                                                                                  2 0
                                                                                                                  0 1
                                                                                                                  0
                                                                                                                  false
                                                                                                                  },
                                                                                                                due :=
                                                                                                                1 }]
                                                                                                           })] })] },
    by decide +kernel⟩

theorem witness_TileDelivery_endNone : ∃ (c : ClusterId) (t : TileId) (s : State),
    (∀ n, (s.tile c.val t.val).phase ≠ .deliver n) :=
  ⟨3, 2, State.reset, by intro n h; cases h⟩

theorem witness_TileDelivery_updateNot : ∃ (c : ClusterId) (t : TileId) (s : State),
    (∀ n, ((s.tile c.val t.val).phase = .closed n → s.fabric.known + 1 < n) ∧ ∀ l, (s.tile c.val t.val).phase ≠
      .update n l) :=
  ⟨3, 2, State.reset, fun n => ⟨fun h => (nomatch h), fun l h => (nomatch h)⟩⟩

theorem witness_TileDelivery_update : ∃ (c : ClusterId) (t : TileId) (n : Nat) (l : List Nat) (s : State),
    ((s.tile c.val t.val).phase = .closed n ∧ n ≤ s.fabric.known + 1 ∧ l = (s.tile c.val t.val).updateList ∨ (s.tile
      c.val t.val).phase = .update n l) :=
  ⟨3, 2, 1, [3], { State.reset with tiles := [(194, { map := { n := 8 }, phase := .closed 1, touched := [3] })] },
    by decide +kernel⟩

theorem witness_TileDelivery_readNone : ∃ (c : ClusterId) (t : TileId) (s : State),
    (s.tile c.val t.val).firing = [] :=
  ⟨3, 2, State.reset, by decide +kernel⟩

theorem witness_TileDelivery_readWaits : ∃ (c : ClusterId) (t : TileId) (f : Firing) (l : List Firing) (s : State),
    (s.tile c.val t.val).firing = f :: l ∧ ((s.tile c.val t.val).throttle = 3 ∨ (s.tile c.val t.val).readerWait + 1 <
      throttleCycles (s.tile c.val t.val).throttle ∨ 128 ≤ (s.tile c.val t.val).egress.length) :=
  ⟨3, 2, ⟨3, 1, 0, 1, 0, 0⟩, [], { State.reset with tiles := [(194, { map := { n := 8 }, throttle := 3, firing := [⟨3,
                                                                        1, 0, 1, 0, 0⟩] })] }, by decide +kernel⟩

theorem witness_TileDelivery_reads : ∃ (c : ClusterId) (t : TileId) (f : Firing) (l : List Firing) (s : State),
    (s.tile c.val t.val).firing = f :: l ∧ (s.tile c.val t.val).throttle ≠ 3 ∧ throttleCycles (s.tile c.val
      t.val).throttle ≤ (s.tile c.val t.val).readerWait + 1 ∧ (s.tile c.val t.val).egress.length < 128 :=
  ⟨3, 2, ⟨3, 1, 0, 1, 0, 0⟩, [], { State.reset with regs := (Assoc.set (Reg.THR3).key 120 (Assoc.set (Reg.THR2).key 96
                                                      (Assoc.set (Reg.THR1).key 64 []))), tiles := [(194, { map := { n
                                                                                                                       :=
                                                                                                                       8
                                                                                                                       },
                                                                                                              firing
                                                                                                              := [⟨3,
                                                                                                              1, 0, 1,
                                                                                                              0, 0⟩]
                                                                                                              })] },
    by decide +kernel⟩

theorem witness_TileDelivery_readEnds : ∃ (c : Nat) (t : Nat) (f : Firing) (s : State),
    (s.axonEntry c t f.neuron).2 ≤ f.taken :=
  ⟨3, 2, ⟨3, 1, 0, 1, 0, 0⟩, State.reset, by decide +kernel⟩

theorem witness_TileDelivery_readNext : ∃ (c : Nat) (t : Nat) (f : Firing) (s : State),
    f.taken < (s.axonEntry c t f.neuron).2 :=
  ⟨3, 2, ⟨3, 1, 0, 1, 0, 0⟩, { State.reset with tiles := [(194, { map := { n := 8, axonBase := 64, destBase := 128 },
                                                                    firing := [⟨3, 1, 0, 1, 0, 0⟩] })], mem :=
                                                  Memory.writeBytes [] (sramAddr 3 2 (64 + 12)) [0, 0, 1, 0] },
    by decide +kernel⟩

theorem witness_TileDelivery_holdbackNone : ∃ (c : ClusterId) (t : TileId) (k : PackageId) (s : State),
    (((s.tile c.val t.val).holdback.find? fun h => h.engine == k.val) = none ∨ 128 ≤ (s.tile c.val
      t.val).egress.length) :=
  ⟨3, 2, 2, State.reset, by decide +kernel⟩

theorem witness_TileDelivery_holdback : ∃ (c : ClusterId) (t : TileId) (k : PackageId) (h : HeldBack) (s : State),
    ((s.tile c.val t.val).holdback.find? fun h => h.engine == k.val) = some h ∧ (s.tile c.val t.val).egress.length <
      128 :=
  ⟨3, 2, 2, { ev := { word := eventWord 0 1 0 3 2 0 0 1 0 false }, engine := 2, step := 1 }, { State.reset with tiles
                                                                                                                  :=
                                                                                                                  [(194,
                                                                                                                  {
                                                                                                                  map
                                                                                                                    :=
                                                                                                                    {
                                                                                                                    n
                                                                                                                      :=
                                                                                                                      8
                                                                                                                      },
                                                                                                                    holdback
                                                                                                                    :=
                                                                                                                    [{
                                                                                                                    ev
                                                                                                                      :=
                                                                                                                      {
                                                                                                                      word
                                                                                                                        :=
                                                                                                                        eventWord
                                                                                                                        0
                                                                                                                        1
                                                                                                                        0
                                                                                                                        3
                                                                                                                        2
                                                                                                                        0
                                                                                                                        0
                                                                                                                        1
                                                                                                                        0
                                                                                                                        false
                                                                                                                        },
                                                                                                                      engine
                                                                                                                      :=
                                                                                                                      2,
                                                                                                                      step
                                                                                                                      :=
                                                                                                                      1
                                                                                                                      }]
                                                                                                                    })]
                                                                                                                  },
    by decide +kernel⟩

theorem witness_TileDelivery_acceptNot : ∃ (c : ClusterId) (t : TileId) (s : State),
    (s.ejectTurn c.val t.val = false ∨ ∀ ev, s.ejectHead c.val t.val = some ev → ev.cls = 3) :=
  ⟨3, 2, State.reset, .inl (by decide +kernel)⟩

theorem witness_TileDelivery_accept : ∃ (c : ClusterId) (t : TileId) (ev : Event) (s : State),
    s.ejectHead c.val t.val = some ev ∧ s.ejectTurn c.val t.val = true ∧ ev.cls ≠ 3 ∧ (s.tile c.val t.val).fenced =
      false :=
  ⟨3, 2, { word := eventWord 0 1 0 3 2 0 0 1 0 false }, { State.reset with tiles := [(194, { map := { n := 8, e := 4 }
                                                                                               })], routers := [(3, {
                                                                             ejects := [(0, [{ word := eventWord 0 1 0
                                                                                                 3 2 0 0 1 0 false
                                                                                                 }])] })] },
    by decide +kernel⟩

theorem witness_TileDelivery_acceptFenced : ∃ (c : ClusterId) (t : TileId) (ev : Event) (s : State),
    s.ejectHead c.val t.val = some ev ∧ s.ejectTurn c.val t.val = true ∧ ev.cls ≠ 3 ∧ (s.tile c.val t.val).fenced =
      true :=
  ⟨3, 2, { word := eventWord 0 1 0 3 2 0 0 1 0 false }, { State.reset with tiles := [(194, { map := { n := 8, e := 4
                                                                                                        }, fenced :=
                                                                                               true })], routers :=
                                                                             [(3, { ejects := [(0, [{ word :=
                                                                                                        eventWord 0 1
                                                                                                        0 3 2 0 0 1 0
                                                                                                        false }])] })]
                                                                             }, by decide +kernel⟩

theorem witness_TileDelivery_serviceNot : ∃ (c : ClusterId) (t : TileId) (s : State),
    (s.ejectTurn c.val t.val = false ∨ ∀ ev, s.ejectHead c.val t.val = some ev → ev.cls ≠ 3) :=
  ⟨3, 2, State.reset, .inl (by decide +kernel)⟩

theorem witness_TileDelivery_serviceFenced : ∃ (c : ClusterId) (t : TileId) (ev : Event) (s : State),
    s.ejectHead c.val t.val = some ev ∧ s.ejectTurn c.val t.val = true ∧ ev.cls = 3 ∧ (s.tile c.val t.val).fenced =
      true :=
  ⟨3, 2, { word := eventWord 3 1 0 3 2 4096 0 1 0 false }, { State.reset with tiles := [(194, { map := { n := 8, e :=
                                                                                                           4 }, fenced
                                                                                                  := true })], routers
                                                                                := [(3, { ejects := [(0, [{ word :=
                                                                                                              eventWord
                                                                                                              3 1 0 3
                                                                                                              2 4096 0
                                                                                                              1 0
                                                                                                              false
                                                                                                              }])] })]
                                                                                }, by decide +kernel⟩

theorem witness_TileDelivery_doorbell : ∃ (c : ClusterId) (t : TileId) (ev : Event) (s : State) (s1 : State),
    s.ejectHead c.val t.val = some ev ∧ s.ejectTurn c.val t.val = true ∧ ev.cls = 3 ∧ (s.tile c.val t.val).fenced =
      false ∧ (((s.popEject c.val t.val).countReceived c.val t.val ev).bumpAt Reg.EV_EJECT c.val).bumpAt
      Reg.SVC_ACCEPT c.val = s1 :=
  ⟨3, 2, { word := eventWord 3 1 0 3 2 4096 0 1 0 false }, { State.reset with tiles := [(194, { map := { n := 8, e :=
                                                                                                           4 } })],
                                                                                routers := [(3, { ejects := [(0, [{
                                                                                                    word := eventWord
                                                                                                      3 1 0 3 2 4096 0
                                                                                                      1 0 false }])]
                                                                                                    })] }, ((({
    State.reset with tiles := [(194, { map := { n := 8, e := 4 } })], routers := [(3, { ejects := [(0, [{ word :=
                                                                                                            eventWord
                                                                                                            3 1 0 3 2
                                                                                                            4096 0 1 0
                                                                                                            false }])]
                                                                                          })] } : State).popEject 3
    2).countReceived 3 2 { word := eventWord 3 1 0 3 2 4096 0 1 0 false } |>.bumpAt Reg.EV_EJECT 3).bumpAt
    Reg.SVC_ACCEPT 3, by decide +kernel⟩

theorem witness_TileDelivery_drainNot : ∃ (c : ClusterId) (s : State),
    ((s.store c.val).spillBuffer = [] ∨ 16 ≤ (s.switchQueue c.val 0).length ∨ s.drainFrom.isSome = true) :=
  ⟨3, State.reset, by decide +kernel⟩

theorem witness_TileDelivery_drain : ∃ (c : ClusterId) (x : Nat × SpillRecord) (l : List (Nat × SpillRecord)) (line : List (Nat × SpillRecord)) (s : State),
    (s.store c.val).spillBuffer = x :: l ∧ (s.switchQueue c.val 0).length < 16 ∧ s.drainFrom = none ∧ ((s.store
      c.val).spillBuffer.filter fun r => r.1 == x.1).take 8 = line :=
  ⟨3, (5, ⟨7, false, false, false⟩), [], [(5, ⟨7, false, false, false⟩)], { State.reset with stores := [(3, {
                                                                                               spillBuffer := [(5, ⟨7,
                                                                                                 false, false,
                                                                                                 false⟩)] })] },
    by decide +kernel⟩

theorem witness_TileDelivery_readbackNot : ∃ (c : ClusterId) (s : State),
    (16 ≤ (s.switchQueue (packageSwitch (s.packageAt (Assoc.getD s.spillAt c.val 0))) 5).length ∨ s.drainFrom.isSome =
      true ∨ ((s.readerSteps c.val).find? fun n => (s.store c.val).headLine n != []) = none) :=
  ⟨3, State.reset, by decide +kernel⟩

theorem witness_TileDelivery_readback : ∃ (c : ClusterId) (n : Nat) (s : State),
    (s.switchQueue (packageSwitch (s.packageAt (Assoc.getD s.spillAt c.val 0))) 5).length < 16 ∧ s.drainFrom = none ∧
      ((s.readerSteps c.val).find? fun n => (s.store c.val).headLine n != []) = some n :=
  ⟨3, 1, { State.reset with tiles := [(194, { map := { n := 8 }, phase := .deliver 1 })], stores := [(3, { spill :=
                                                                                                             [(1, [⟨7,
                                                                                                             false,
                                                                                                             false,
                                                                                                             false⟩])]
                                                                                                             })] },
    by decide +kernel⟩

theorem witness_EventNetwork_arrivalWaits : ∃ (p : NetPoint) (flaws : List ArrivalFlaw) (i : Nat) (e : Event) (x : Event × State) (s : State),
    s.checkArrival p flaws i e = x ∧ arrive (x.2.mergeable x.1) (x.2.output p).entries x.1 = none :=
  ⟨.router 3 5, [], 20, { word := eventWord 0 1 0 3 2 0 0 1 0 false }, ({ word := eventWord 0 1 0 3 2 0 0 1 0 false },
    { State.reset with routers := [(3, { outputs := [(5, { entries := List.replicate 64 ⟨{ word := eventWord 0 1 0 3 2
                                                                                             0 0 1 0 false }, false,
                                                             0⟩ })] })] }), { State.reset with routers := [(3, {
                                                                                                 outputs := [(5, {
                                                                                                   entries :=
                                                                                                     List.replicate 64
                                                                                                     ⟨{ word :=
                                                                                                          eventWord 0
                                                                                                          1 0 3 2 0 0
                                                                                                          1 0 false },
                                                                                                     false, 0⟩ })] })]
                                                                                                 }, by decide +kernel⟩

theorem witness_EventNetwork_arrivalEnters : ∃ (p : NetPoint) (flaws : List ArrivalFlaw) (i : Nat) (e : Event) (x : Event × State) (a : Arrival) (s : State),
    s.checkArrival p flaws i e = x ∧ arrive (x.2.mergeable x.1) (x.2.output p).entries x.1 = some a :=
  ⟨.router 3 5, [], 20, { word := eventWord 0 1 0 3 2 0 0 1 0 false }, ({ word := eventWord 0 1 0 3 2 0 0 1 0 false },
    { State.reset with regs := (Assoc.set (Reg.COMBINE_CLS).key 3 []), routers := [(3, { outputs := [(5, { entries :=
                                                                                                             [⟨{ word
                                                                                                                   :=
                                                                                                                   eventWord
                                                                                                                   0 1
                                                                                                                   0 3
                                                                                                                   2 0
                                                                                                                   0 1
                                                                                                                   0
                                                                                                                   false
                                                                                                                   },
                                                                                                             true, 0⟩]
                                                                                                             })] })]
                         }), { entries := [⟨{ word := eventWord 0 1 0 3 2 0 0 2 0 false }, true, 0⟩], merged := true
                                 }, { State.reset with regs := (Assoc.set (Reg.COMBINE_CLS).key 3 []), routers := [(3,
                                                         { outputs := [(5, { entries := [⟨{ word := eventWord 0 1 0 3
                                                                                              2 0 0 1 0 false }, true,
                                                                               0⟩] })] })] }, by decide +kernel⟩

theorem witness_EventNetwork_departsNone : ∃ (c : ClusterId) (out : Fin 31) (s : State),
    ((s.output (.router c out)).entries.find? fun e => s.eligible e) = none :=
  ⟨3, 5, State.reset, by decide +kernel⟩

theorem witness_EventNetwork_departsFenced : ∃ (c : ClusterId) (out : Fin 31) (e : CombineEntry) (s : State),
    ((s.output (.router c out)).entries.find? fun e => s.eligible e) = some e ∧ out.val < 16 ∧ (s.tile c.val
      e.ev.tile).fenced = true :=
  ⟨3, 0, ⟨{ word := eventWord 0 1 0 3 2 0 0 1 0 false }, false, 0⟩, { State.reset with tiles := [(194, { fenced :=
                                                                                                           true })],
                                                                                         routers := [(3, { outputs :=
                                                                                                             [(0, {
                                                                                                             entries
                                                                                                               := [⟨{
                                                                                                               word :=
                                                                                                                 eventWord
                                                                                                                 0 1 0
                                                                                                                 3 2 0
                                                                                                                 0 1 0
                                                                                                                 false
                                                                                                                 },
                                                                                                               false,
                                                                                                               0⟩] })]
                                                                                                             })] },
    by decide +kernel⟩

theorem witness_EventNetwork_departsStalled : ∃ (c : ClusterId) (out : Fin 31) (e : CombineEntry) (s : State),
    ((s.output (.router c out)).entries.find? fun e => s.eligible e) = some e ∧ (16 ≤ out.val ∨ (s.tile c.val
      e.ev.tile).fenced = false) ∧ (s.output (.router c out)).credits = 0 :=
  ⟨3, 30, ⟨{ word := eventWord 0 1 5 3 2 0 0 1 0 false }, false, 0⟩, { State.reset with routers := [(3, { outputs :=
                                                                                                            [(30, {
                                                                                                            credits :=
                                                                                                              0,
                                                                                                              entries
                                                                                                              := [⟨{
                                                                                                              word :=
                                                                                                                eventWord
                                                                                                                0 1 5
                                                                                                                3 2 0
                                                                                                                0 1 0
                                                                                                                false
                                                                                                                },
                                                                                                              false,
                                                                                                              0⟩] })]
                                                                                                            })] },
    by decide +kernel⟩

theorem witness_EventNetwork_departsSends : ∃ (c : ClusterId) (out : Fin 31) (e : CombineEntry) (s : State),
    ((s.output (.router c out)).entries.find? fun e => s.eligible e) = some e ∧ (16 ≤ out.val ∨ (s.tile c.val
      e.ev.tile).fenced = false) ∧ (s.output (.router c out)).credits ≠ 0 :=
  ⟨3, 30, ⟨{ word := eventWord 0 1 5 3 2 0 0 1 0 false }, false, 0⟩, { State.reset with routers := [(3, { outputs :=
                                                                                                            [(30, {
                                                                                                            entries :=
                                                                                                              [⟨{ word
                                                                                                                    :=
                                                                                                                    eventWord
                                                                                                                    0
                                                                                                                    1
                                                                                                                    5
                                                                                                                    3
                                                                                                                    2
                                                                                                                    0
                                                                                                                    0
                                                                                                                    1
                                                                                                                    0
                                                                                                                    false
                                                                                                                    },
                                                                                                              false,
                                                                                                              0⟩] })]
                                                                                                            })] },
    by decide +kernel⟩

theorem witness_EventNetwork_credit : ∃ (c : ClusterId) (out : Fin 31) (s : State),
    (s.output (.router c out)).credits + s.occupancy c.val out.val < 32 :=
  ⟨3, 5, { State.reset with routers := [(3, { outputs := [(5, { credits := 31 })] })] }, by decide +kernel⟩

theorem witness_EventNetwork_creditNone : ∃ (c : ClusterId) (out : Fin 31) (s : State),
    32 ≤ (s.output (.router c out)).credits + s.occupancy c.val out.val :=
  ⟨3, 5, State.reset, by decide +kernel⟩

theorem witness_EventNetwork_multicastNot : ∃ (c : ClusterId) (t : TileId) (s : State),
    (((s.tile c.val t.val).egress.head?.bind fun g => g.group) = none ∨ 32 ≤ (s.router c.val).requests.length ∨
      (s.tile c.val t.val).fenced = true) :=
  ⟨3, 2, { State.reset with tiles := [(194, { egress := [{ ev := { word := eventWord 0 1 0 3 2 0 0 1 0 false } }] })]
                              }, by decide +kernel⟩

theorem witness_EventNetwork_multicast : ∃ (c : ClusterId) (t : TileId) (g : Egress) (l : List Egress) (k : Nat) (s : State),
    (s.tile c.val t.val).egress = g :: l ∧ g.group = some k ∧ (s.router c.val).requests.length < 32 ∧ (s.tile c.val
      t.val).fenced = false :=
  ⟨3, 2, { ev := { word := eventWord 0 1 0 3 2 0 0 1 0 false }, group := some 7 }, [], 7, { State.reset with tiles :=
                                                                                                               [(194,
                                                                                                               {
                                                                                                               egress
                                                                                                                 := [{
                                                                                                                 ev :=
                                                                                                                   {
                                                                                                                   word
                                                                                                                     :=
                                                                                                                     eventWord
                                                                                                                     0
                                                                                                                     1
                                                                                                                     0
                                                                                                                     3
                                                                                                                     2
                                                                                                                     0
                                                                                                                     0
                                                                                                                     1
                                                                                                                     0
                                                                                                                     false
                                                                                                                     },
                                                                                                                   group
                                                                                                                   :=
                                                                                                                   some
                                                                                                                   7
                                                                                                                   }]
                                                                                                                 })],
                                                                                                               groups0
                                                                                                               :=
                                                                                                               [(12295,
                                                                                                               65536)]
                                                                                                               },
    by decide +kernel⟩

theorem witness_EventNetwork_expandNone : ∃ (c : ClusterId) (s : State),
    (s.router c.val).requests = [] :=
  ⟨3, State.reset, by decide +kernel⟩

theorem witness_EventNetwork_expand : ∃ (c : ClusterId) (r : McRequest) (l : List McRequest) (s : State),
    (s.router c.val).requests = r :: l :=
  ⟨3, { group := 7, ev := { word := eventWord 0 1 0 3 2 0 0 1 0 false } }, [], { State.reset with routers := [(3, {
                                                                                                    requests := [{
                                                                                                      group := 7, ev
                                                                                                        := { word :=
                                                                                                               eventWord
                                                                                                               0 1 0 3
                                                                                                               2 0 0 1
                                                                                                               0 false
                                                                                                               } }]
                                                                                                      })] },
    by decide +kernel⟩

theorem witness_EventNetwork_transit : ∃ (l : LinkId) (e0 : Event) (rest : List Event) (s : State),
    Assoc.getD s.gateRx l.val [] = e0 :: rest ∧ e0.dev ≠ s.reg Reg.DEV_NUM ∧ natBit (s.routeEntry e0.e e0.dev) 4 =
      true ∧ (Assoc.getD s.gateIn (16 + l.val) []).length < 32 :=
  ⟨2, { word := eventWord 0 1 5 3 2 0 0 1 0 false }, [], { State.reset with gateRx := [(2, [{ word := eventWord 0 1 5
                                                                                                3 2 0 0 1 0 false
                                                                                                }])], route0 := [(5,
                                                                              16)] }, by decide +kernel⟩

theorem witness_EventNetwork_transitNot : ∃ (l : LinkId) (s : State),
    ((Assoc.getD s.gateRx l.val []).head?.all fun e => e.dev == s.reg Reg.DEV_NUM || !natBit (s.routeEntry e.e e.dev)
      4 || decide (32 ≤ (Assoc.getD s.gateIn (16 + l.val) []).length)) = true :=
  ⟨2, { State.reset with gateRx := [(2, [{ word := eventWord 0 1 5 3 2 0 0 1 0 false }])] }, by decide +kernel⟩

theorem witness_EventNetwork_remoteFar : ∃ (l : LinkId) (e : Event) (rest : List Event) (s : State),
    Assoc.getD s.gateRx l.val [] = e :: rest ∧ s.needsRemoteFetch e = true ∧ (s.inputQueue (attachment l.val e)
      22).length < 32 ∧ (s.postRemote e (s.dueOf e)).1 = true :=
  ⟨2, { word := eventWord 0 1 0 3 2 131072 0 1 0 false }, [], { State.reset with gateRx := [(2, [{ word := eventWord 0
                                                                                                     1 0 3 2 131072 0
                                                                                                     1 0 false }])] },
    by decide +kernel⟩

theorem witness_EventNetwork_remoteFarRefused : ∃ (l : LinkId) (e : Event) (rest : List Event) (s : State),
    Assoc.getD s.gateRx l.val [] = e :: rest ∧ s.needsRemoteFetch e = true ∧ (s.inputQueue (attachment l.val e)
      22).length < 32 ∧ (s.postRemote e (s.dueOf e)).1 = false :=
  ⟨2, { word := eventWord 0 1 0 3 2 131072 0 1 0 false }, [], { State.reset with gateRx := [(2, [{ word := eventWord 0
                                                                                                     1 0 3 2 131072 0
                                                                                                     1 0 false }])],
                                                                                   fetch := [(0, { queue :=
                                                                                                     List.replicate
                                                                                                     1024 { cluster :=
                                                                                                              3, tile
                                                                                                              := 2, f
                                                                                                              := 5,
                                                                                                              due :=
                                                                                                              1,
                                                                                                              source
                                                                                                              := none
                                                                                                              } })] },
    by decide +kernel⟩

theorem witness_EventNetwork_remoteFarNot : ∃ (l : LinkId) (s : State),
    ((Assoc.getD s.gateRx l.val []).head?.all fun e => !s.needsRemoteFetch e || decide (32 ≤ (s.inputQueue (attachment
      l.val e) 22).length)) = true :=
  ⟨2, { State.reset with gateRx := [(2, [{ word := eventWord 0 1 5 3 2 0 0 1 0 false }])] }, by decide +kernel⟩

theorem witness_EventNetwork_heldNone : ∃ (east : Bool) (s : State),
    ((Assoc.getD s.remoteHold (if east then 1 else 0) []).head?.all fun e => decide (32 ≤ (s.inputQueue (attachment (4
      * (if east then 1 else 0)) e) 22).length)) = true :=
  ⟨true, State.reset, by decide +kernel⟩

theorem witness_EventNetwork_held : ∃ (east : Bool) (e : Event) (rest : List Event) (s : State),
    Assoc.getD s.remoteHold (if east then 1 else 0) [] = e :: rest ∧ (s.inputQueue (attachment (4 * (if east then 1
      else 0)) e) 22).length < 32 :=
  ⟨true, { word := eventWord 0 1 0 3 2 131072 0 1 0 false }, [], { State.reset with remoteHold := [(1, [{ word :=
                                                                                                            eventWord
                                                                                                            0 1 0 3 2
                                                                                                            131072 0 1
                                                                                                            0 false
                                                                                                            }])] },
    by decide +kernel⟩

theorem witness_EventNetwork_sequencerNot : ∃ (c : ClusterId) (s : State),
    (natBit (s.reg Reg.SEQ_RUN) c.val = false ∨ s.reg Reg.PWR_STATE ≠ 0 ∨ s.streamOpen = false ∨ 32 ≤ (s.inputQueue
      c.val 20).length) :=
  ⟨3, State.reset, by decide +kernel⟩

theorem witness_EventNetwork_sequencer : ∃ (c : ClusterId) (w : Word64) (s : State),
    natBit (s.reg Reg.SEQ_RUN) c.val = true ∧ s.reg Reg.PWR_STATE = 0 ∧ s.streamOpen = true ∧ (s.inputQueue c.val
      20).length < 32 ∧ s.streamCheck (s.epochOf s.fabric.window) { word := w } true = true :=
  ⟨3, eventWord 0 1 0 3 2 0 0 1 0 false, { State.reset with regs := (Assoc.set (Reg.SEQ_RUN).key 8 []), fabric := {
                                                              State.reset.fabric with windowOpen := true, window := 1
                                                                                        } }, by decide +kernel⟩

theorem witness_EventNetwork_sequencerBad : ∃ (c : ClusterId) (w : Word64) (s : State),
    natBit (s.reg Reg.SEQ_RUN) c.val = true ∧ s.reg Reg.PWR_STATE = 0 ∧ s.streamOpen = true ∧ (s.inputQueue c.val
      20).length < 32 ∧ s.streamCheck (s.epochOf s.fabric.window) { word := w } true = false :=
  ⟨3, eventWord 0 1 0 3 2 0 0 0 0 false, { State.reset with regs := (Assoc.set (Reg.SEQ_RUN).key 8 []), fabric := {
                                                              State.reset.fabric with windowOpen := true, window := 1
                                                                                        } }, by decide +kernel⟩

theorem witness_FarFetch_issueFenced : ∃ (r : FetchRequest) (s : State),
    (s.tile r.cluster r.tile).fenced = true :=
  ⟨{ cluster := 3, tile := 2, f := 5, due := 1, source := some 3 }, { State.reset with tiles := [(194, { fenced :=
                                                                                                           true })],
                                                                                         fetch := [(0, { queue := [{
                                                                                                           cluster :=
                                                                                                             3, tile
                                                                                                             := 2, f
                                                                                                             := 5, due
                                                                                                             := 1,
                                                                                                             source :=
                                                                                                             some 3 }]
                                                                                                           })] },
    by decide +kernel⟩

theorem witness_FarFetch_issuePasses : ∃ (k : Nat) (r : FetchRequest) (s : State),
    (s.tile r.cluster r.tile).fenced = false ∧ (64 ≤ s.returning k r.cluster false ∨ (s.fetchEngine k).directoryOpen
      (s.farDirAddr r.cluster r.tile r.f / 64) = false) :=
  ⟨0, { cluster := 3, tile := 2, f := 5, due := 1, source := some 3 }, { State.reset with fetch := [(0, { queue := [{
                                                                                                            cluster :=
                                                                                                              3, tile
                                                                                                              := 2, f
                                                                                                              := 5,
                                                                                                              due :=
                                                                                                              1,
                                                                                                              source
                                                                                                              := some
                                                                                                              3 }],
                                                                                                            frameLines
                                                                                                            := 192 })]
                                                                                            }, by decide +kernel⟩

theorem witness_FarFetch_issueWaits : ∃ (k : Nat) (r : FetchRequest) (s : State),
    (s.tile r.cluster r.tile).fenced = false ∧ s.returning k r.cluster false < 64 ∧ (s.fetchEngine k).directoryOpen
      (s.farDirAddr r.cluster r.tile r.f / 64) = true ∧ (s.store r.cluster).offer < (s.farEntry r.cluster r.tile
      r.f).2 :=
  ⟨0, { cluster := 3, tile := 2, f := 5, due := 1, source := some 3 }, noLines, by decide +kernel⟩

theorem witness_FarFetch_issues : ∃ (k : Nat) (dirBad : Bool) (r : FetchRequest) (s : State),
    (s.tile r.cluster r.tile).fenced = false ∧ s.returning k r.cluster false < 64 ∧ (s.fetchEngine k).directoryOpen
      (s.farDirAddr r.cluster r.tile r.f / 64) = true ∧ ((s.farEntry r.cluster r.tile r.f).2 ≤ (s.store
      r.cluster).offer ∨ dirBad = true) :=
  ⟨0, false, { cluster := 3, tile := 2, f := 5, due := 1, source := some 3 }, { State.reset with fetch := [(0, { queue
                                                                                                                   :=
                                                                                                                   [{
                                                                                                                   cluster
                                                                                                                     :=
                                                                                                                     3,
                                                                                                                     tile
                                                                                                                     :=
                                                                                                                     2,
                                                                                                                     f
                                                                                                                     :=
                                                                                                                     5,
                                                                                                                     due
                                                                                                                     :=
                                                                                                                     1,
                                                                                                                     source
                                                                                                                     :=
                                                                                                                     some
                                                                                                                     3
                                                                                                                     }]
                                                                                                                   })]
                                                                                                   },
    by decide +kernel⟩

theorem witness_FarFetch_rowEmpty : ∃ (c : Nat) (t : Nat) (f : Nat) (s : State),
    (s.farEntry c t f).2 = 0 :=
  ⟨3, 2, 5, State.reset, by decide +kernel⟩

theorem witness_FarFetch_rowRead : ∃ (c : Nat) (t : Nat) (f : Nat) (s : State),
    (s.farEntry c t f).2 ≠ 0 :=
  ⟨3, 2, 5, noLines, by decide +kernel⟩

theorem witness_FarFetch_hintNot : ∃ (k : PackageId) (s : State),
    ((s.fetchEngine k.val).hints.head?.all fun h => s.canIssue k.val || decide (64 ≤ s.returning k.val h.cluster true)
      || !(s.fetchEngine k.val).directoryOpen (s.farDirAddr h.cluster h.tile h.f / 64)) = true :=
  ⟨0, State.reset, by decide +kernel⟩

theorem witness_FarFetch_hintJoins : ∃ (k : PackageId) (h : FetchHint) (l : List FetchHint) (g : FarTag) (s : State),
    (s.fetchEngine k.val).hints = h :: l ∧ s.canIssue k.val = false ∧ s.returning k.val h.cluster true < 64 ∧
      (s.fetchEngine k.val).directoryOpen (s.farDirAddr h.cluster h.tile h.f / 64) = true ∧ (s.store h.cluster).tag
      h.tile h.f = some g :=
  ⟨0, ⟨3, 2, 5, 194, 1⟩, [], { tile := 2, f := 5, present := false, prefetch := false, len := 2 }, { State.reset with
    stores := [(3, { tags := [{ tile := 2, f := 5, present := false, prefetch := false, len := 2 }] })], fetch := [(0,
      { hints := [⟨3, 2, 5, 194, 1⟩] })] }, by decide +kernel⟩

theorem witness_FarFetch_hintWaits : ∃ (k : PackageId) (h : FetchHint) (l : List FetchHint) (s : State),
    (s.fetchEngine k.val).hints = h :: l ∧ s.canIssue k.val = false ∧ s.returning k.val h.cluster true < 64 ∧
      (s.fetchEngine k.val).directoryOpen (s.farDirAddr h.cluster h.tile h.f / 64) = true ∧ (s.store h.cluster).tag
      h.tile h.f = none ∧ (2048 ≤ (s.store h.cluster).tags.length ∨ (s.store h.cluster).offer < (s.farEntry h.cluster
      h.tile h.f).2) :=
  ⟨0, ⟨3, 2, 5, 194, 1⟩, [], { State.reset with stores := [(3, { tags := List.replicate 2048 { tile := 9, f := 5,
                                                                                                 present := true,
                                                                                                 prefetch := false }
                                                                   })], fetch := [(0, { hints := [⟨3, 2, 5, 194, 1⟩]
                                                                                          })] }, by decide +kernel⟩

theorem witness_FarFetch_hint : ∃ (k : PackageId) (h : FetchHint) (l : List FetchHint) (s : State),
    (s.fetchEngine k.val).hints = h :: l ∧ s.canIssue k.val = false ∧ s.returning k.val h.cluster true < 64 ∧
      (s.fetchEngine k.val).directoryOpen (s.farDirAddr h.cluster h.tile h.f / 64) = true ∧ (s.store h.cluster).tag
      h.tile h.f = none ∧ (s.store h.cluster).tags.length < 2048 ∧ (s.farEntry h.cluster h.tile h.f).2 ≤ (s.store
      h.cluster).offer :=
  ⟨0, ⟨3, 2, 5, 194, 1⟩, [], { State.reset with fetch := [(0, { hints := [⟨3, 2, 5, 194, 1⟩] })] }, by decide +kernel⟩

theorem witness_FarFetch_hintStale : ∃ (k : PackageId) (stale : List FetchHint) (s : State),
    ((s.fetchEngine k.val).hints.filter fun h => decide (h.step + 1 ≤ (s.tile (h.source / 64) (h.source %
      64)).updated)) = stale :=
  ⟨0, [⟨3, 2, 5, 194, 1⟩], { State.reset with tiles := [(194, { updated := 2 })], fetch := [(0, { hints := [⟨3, 2, 5,
                                                                                                    194, 1⟩] })] },
    by decide +kernel⟩

theorem witness_FarFetch_lineNone : ∃ (c : ClusterId) (s : State),
    (s.store c.val).landed = [] :=
  ⟨3, State.reset, by decide +kernel⟩

theorem witness_FarFetch_lineAbsent : ∃ (c : ClusterId) (x : BulkLine) (rest : List BulkLine) (s : State),
    (s.store c.val).landed = x :: rest ∧ (s.store c.val).tag x.tile x.f = none :=
  ⟨3, { kind := 0, clu := 3, dest := 21, tile := 2, f := 5, index := 0, data := [1] }, [], { State.reset with stores
                                                                                                                :=
                                                                                                                [(3, {
                                                                                                                landed
                                                                                                                  :=
                                                                                                                  [{
                                                                                                                  kind
                                                                                                                    :=
                                                                                                                    0,
                                                                                                                    clu
                                                                                                                    :=
                                                                                                                    3,
                                                                                                                    dest
                                                                                                                    :=
                                                                                                                    21,
                                                                                                                    tile
                                                                                                                    :=
                                                                                                                    2,
                                                                                                                    f
                                                                                                                    :=
                                                                                                                    5,
                                                                                                                    index
                                                                                                                    :=
                                                                                                                    0,
                                                                                                                    data
                                                                                                                    :=
                                                                                                                    [1]
                                                                                                                    }]
                                                                                                                  })]
                                                                                                                },
    by decide +kernel⟩

theorem witness_FarFetch_line : ∃ (c : ClusterId) (x : BulkLine) (rest : List BulkLine) (g : FarTag) (s : State),
    (s.store c.val).landed = x :: rest ∧ (s.store c.val).tag x.tile x.f = some g :=
  ⟨3, { kind := 0, clu := 3, dest := 21, tile := 2, f := 5, index := 1, data := [1] }, [], { tile := 2, f := 5,
                                                                                               present := false,
                                                                                               prefetch := false, len
                                                                                               := 2 }, { State.reset
    with stores := [(3, { tags := [{ tile := 2, f := 5, present := false, prefetch := false, len := 2 }], landed := [{
                            kind := 0, clu := 3, dest := 21, tile := 2, f := 5, index := 1, data := [1] }] })] },
    by decide +kernel⟩

theorem witness_FarFetch_slotIdle : ∃ (sw : ClusterId) (out : Fin 7) (slot : Fin 256) (a : State) (s : State),
    s.frameStart sw.val slot.val = a ∧ (natBit (a.slotEntry sw.val out.val slot.val) 3 = false ∨ a.outputRoom sw.val
      out.val = false) :=
  ⟨4, 0, 255, State.reset.frameStart 4 255, State.reset, by decide +kernel⟩

theorem witness_FarFetch_slotMoves : ∃ (sw : ClusterId) (out : Fin 7) (slot : Fin 256) (e : Nat) (a : State) (s : State),
    s.frameStart sw.val slot.val = a ∧ a.slotEntry sw.val out.val slot.val = e ∧ natBit e 3 = true ∧ a.outputRoom
      sw.val out.val = true :=
  ⟨0, 0, 7, 0x309, { State.reset with slots0 := [(7, 0x309)], switchIn := [(1, [{ kind := 0, clu := 3, dest := 21,
                                                                                    tile := 2, f := 5, index := 0,
                                                                                    data := [1] }])] }, { State.reset
    with slots0 := [(7, 0x309)], switchIn := [(1, [{ kind := 0, clu := 3, dest := 21, tile := 2, f := 5, index := 0,
                                                       data := [1] }])] }, by decide +kernel⟩

theorem witness_FarFetch_lineWaiting : ∃ (sw : Nat) (port : Nat) (kind : Nat) (clu : Nat) (x : BulkLine) (s : State),
    ((s.switchQueue sw port).find? fun l => l.kind == kind && l.clu == clu) = some x :=
  ⟨0, 1, 0, 3, { kind := 0, clu := 3, dest := 21, tile := 2, f := 5, index := 0, data := [1] }, { State.reset with
    switchIn := [(1, [{ kind := 0, clu := 3, dest := 21, tile := 2, f := 5, index := 0, data := [1] }])] },
    by decide +kernel⟩

theorem witness_FarFetch_lineOffered : ∃ (sw : Nat) (port : Nat) (kind : Nat) (clu : Nat) (s : State),
    ((s.switchQueue sw port).find? fun l => l.kind == kind && l.clu == clu) = none :=
  ⟨0, 1, 0, 3, State.reset, by decide +kernel⟩

theorem witness_PlasticityAndStable_preNone : ∃ (c : ClusterId) (s : State),
    (s.plast c.val).pre = [] :=
  ⟨3, State.reset, by decide +kernel⟩

theorem witness_PlasticityAndStable_pre : ∃ (c : ClusterId) (bad : Bool) (r : PreReport) (l : List PreReport) (s : State),
    (s.plast c.val).pre = r :: l ∧ (bad = false ∨ (s.plast c.val).farFind r.row = none) :=
  ⟨3, true, ⟨⟨2, true, 5⟩, 3, 1, 7⟩, [], { State.reset with learning := { State.reset.learning with engines := [(3, {
                                                                                                      pre := [⟨⟨2,
                                                                                                        true, 5⟩, 3,
                                                                                                        1, 7⟩] })] }
                                                              }, by decide +kernel⟩

theorem witness_PlasticityAndStable_preBad : ∃ (c : ClusterId) (r : PreReport) (l : List PreReport) (s : State),
    (s.plast c.val).pre = r :: l ∧ (s.plast c.val).farFind r.row ≠ none :=
  ⟨3, ⟨⟨2, true, 5⟩, 3, 1, 7⟩, [], { State.reset with learning := { State.reset.learning with engines := [(3, { pre :=
                                                                                                                  [⟨⟨2,
                                                                                                                  true,
                                                                                                                  5⟩,
                                                                                                                  3,
                                                                                                                  1,
                                                                                                                  7⟩],
                                                                                                                  farPlx
                                                                                                                  :=
                                                                                                                  [(⟨2,
                                                                                                                  true,
                                                                                                                  5⟩,
                                                                                                                  5)]
                                                                                                                  })]
                                                                                                } },
    by decide +kernel⟩

theorem witness_PlasticityAndStable_postNone : ∃ (c : ClusterId) (s : State),
    (s.plast c.val).postQueue = [] :=
  ⟨3, State.reset, by decide +kernel⟩

theorem witness_PlasticityAndStable_post : ∃ (c : ClusterId) (bad : Bool) (r : PostReport) (l : List PostReport) (s : State),
    (s.plast c.val).postQueue = r :: l ∧ (bad = false ∨ ((s.plast c.val).post.any fun x => x.tile == r.tile &&
      x.neuron == r.neuron) = false) :=
  ⟨3, true, ⟨2, 9, 1, 0⟩, [], { State.reset with learning := { State.reset.learning with engines := [(3, { postQueue
                                                                                                             := [⟨2,
                                                                                                             9, 1, 0⟩]
                                                                                                             })] } },
    by decide +kernel⟩

theorem witness_PlasticityAndStable_postBad : ∃ (c : ClusterId) (r : PostReport) (l : List PostReport) (s : State),
    (s.plast c.val).postQueue = r :: l ∧ ((s.plast c.val).post.any fun x => x.tile == r.tile && x.neuron == r.neuron)
      = true :=
  ⟨3, ⟨2, 9, 1, 0⟩, [], { State.reset with learning := { State.reset.learning with engines := [(3, { postQueue := [⟨2,
                                                                                                       9, 1, 0⟩], post
                                                                                                       := [⟨2, 9, 5,
                                                                                                       6⟩] })] } },
    by decide +kernel⟩

theorem witness_PlasticityAndStable_groomNone : ∃ (c : ClusterId) (s : State),
    s.nearPlastic c.val = [] ∧ (s.plast c.val).farPlx = [] :=
  ⟨3, State.reset, by decide +kernel⟩

theorem witness_PlasticityAndStable_groomNear : ∃ (c : ClusterId) (row : RowName) (s : State),
    0 < (s.nearPlastic c.val).length + (s.plast c.val).farPlx.length ∧ (s.nearPlastic c.val)[(s.plast
      c.val).groomCursor % ((s.nearPlastic c.val).length + (s.plast c.val).farPlx.length)]? = some row :=
  ⟨3, ⟨2, false, 5⟩, { State.reset with learning := { State.reset.learning with rows := [(3, ⟨2, false, 5⟩, 0)] } },
    by decide +kernel⟩

theorem witness_PlasticityAndStable_groomFar : ∃ (c : ClusterId) (k : Nat) (x : RowName × Nat) (s : State),
    0 < (s.nearPlastic c.val).length + (s.plast c.val).farPlx.length ∧ (s.plast c.val).groomCursor % ((s.nearPlastic
      c.val).length + (s.plast c.val).farPlx.length) = k ∧ (s.nearPlastic c.val)[k]? = none ∧ (s.plast c.val).farPlx[k
      - (s.nearPlastic c.val).length]? = some x :=
  ⟨3, 0, (⟨2, true, 5⟩, 5), { State.reset with learning := { State.reset.learning with engines := [(3, { farPlx :=
                                                                                                           [(⟨2, true,
                                                                                                           5⟩, 5)] })]
                                                                                         } }, by decide +kernel⟩

theorem witness_PlasticityAndStable_epochNot : ∃ (s : State),
    (s.learning.ending ≠ none ∨ s.reg Reg.HARNESS_STATE ≠ 2 ∨ s.isMaster = true ∧ (s.learning.epochLen = 0 ∨
      s.learning.epochSteps < s.learning.epochLen) ∨ s.isMaster = false ∧ (s.fabric.news.find? fun m => m.1 = 3) =
      none) :=
  ⟨{ State.reset with regs := (Assoc.set (Reg.HARNESS_STATE).key 2 []), learning := { State.reset.learning with
                        epochLen := 4, epochSteps := 3 } }, by decide +kernel⟩

theorem witness_PlasticityAndStable_epochEnd : ∃ (s : State),
    s.learning.ending = none ∧ s.reg Reg.HARNESS_STATE = 2 ∧ s.isMaster = true ∧ s.learning.epochLen ≠ 0 ∧
      s.learning.epochLen ≤ s.learning.epochSteps :=
  ⟨{ State.reset with regs := (Assoc.set (Reg.HARNESS_STATE).key 2 []), learning := { State.reset.learning with
                        epochLen := 4, epochSteps := 4 } }, by decide +kernel⟩

theorem witness_PlasticityAndStable_epochElsewhere : ∃ (m : Nat × Nat × Nat) (s : State),
    s.learning.ending = none ∧ s.reg Reg.HARNESS_STATE = 2 ∧ s.isMaster = false ∧ (s.fabric.news.find? fun m => m.1 =
      3) = some m :=
  ⟨(3, 8, 9), { State.reset with regs := (Assoc.set (Reg.DEV_NUM).key 5 (Assoc.set (Reg.HARNESS_STATE).key 2 [])),
                                   fabric := { State.reset.fabric with news := [(3, 8, 9)] } }, by decide +kernel⟩

theorem witness_PlasticityAndStable_captureNot : ∃ (others : Option Status) (s : State),
    (s.learning.ending.all fun e => !s.captureReady e.1 || (s.isMaster && others.isNone)) = true :=
  ⟨none, { State.reset with fabric := { State.reset.fabric with known := 4, holdupSeen := true }, learning := {
                              State.reset.learning with ending := some (4, 9) } }, by decide +kernel⟩

theorem witness_PlasticityAndStable_capture : ∃ (others : Option Status) (nb : Nat) (at' : Nat) (s : State),
    s.learning.ending = some (nb, at') ∧ s.captureReady nb = true ∧ (s.isMaster = false ∨ others ≠ none) :=
  ⟨some .late, 4, 9, { State.reset with fabric := { State.reset.fabric with known := 4, holdupSeen := true }, learning
                                          := { State.reset.learning with ending := some (4, 9) } }, by decide +kernel⟩

theorem witness_PlasticityAndStable_sweepNone : ∃ (c : ClusterId) (s : State),
    (s.plast c.val).current = none ∧ (s.plast c.val).closed = [] :=
  ⟨3, State.reset, by decide +kernel⟩

theorem witness_PlasticityAndStable_sweepGoesOn : ∃ (c : ClusterId) (cur : SweepRow) (s : State),
    (s.plast c.val).current = some cur :=
  ⟨3, { row := ⟨2, true, 5⟩, xPre := 0, sPre := 0, word := 0 }, { State.reset with learning := { State.reset.learning
                                                                                     with engines := [(3, { current :=
                                                                                                              some {
                                                                                                              row :=
                                                                                                                ⟨2,
                                                                                                                true,
                                                                                                                5⟩,
                                                                                                                xPre
                                                                                                                := 0,
                                                                                                                sPre
                                                                                                                := 0,
                                                                                                                word
                                                                                                                := 0 }
                                                                                                              })] } },
    by decide +kernel⟩

theorem witness_PlasticityAndStable_sweepFlawed : ∃ (c : ClusterId) (f : SweepFlaws) (row : RowName) (l : List RowName) (s : State),
    (s.plast c.val).current = none ∧ (s.plast c.val).closed = row :: l ∧ f.plx = true :=
  ⟨3, { plx := true }, ⟨2, true, 5⟩, [], { State.reset with learning := { State.reset.learning with engines := [(3, {
                                                                                                      closed := [⟨2,
                                                                                                        true, 5⟩] })]
                                                                                                      } },
    by decide +kernel⟩

theorem witness_PlasticityAndStable_sweepSkips : ∃ (c : ClusterId) (f : SweepFlaws) (row : RowName) (l : List RowName) (s : State),
    (s.plast c.val).current = none ∧ (s.plast c.val).closed = row :: l ∧ f.plx = false ∧ (s.rowPlx c.val row).spre
      ((s.reg Reg.EPOCH + 1) % 2) = 0 :=
  ⟨3, {}, ⟨2, true, 5⟩, [], { State.reset with learning := { State.reset.learning with engines := [(3, { closed :=
                                                                                                           [⟨2, true,
                                                                                                           5⟩] })] }
                                                 }, by decide +kernel⟩

theorem witness_PlasticityAndStable_sweepBegins : ∃ (c : ClusterId) (f : SweepFlaws) (row : RowName) (l : List RowName) (x : Plx) (g : Nat) (s : State),
    (s.plast c.val).current = none ∧ (s.plast c.val).closed = row :: l ∧ f.plx = false ∧ s.rowPlx c.val row = x ∧
      x.spre ((s.reg Reg.EPOCH + 1) % 2) ≠ 0 ∧ s.group (s.rowHeader (.at (s.rowAddr c.val row))).pgrp = g :=
  ⟨3, {}, ⟨2, true, 5⟩, [], { rxpre := 3, rtl := 0, spre0 := 4, spre1 := 4 }, 0, { State.reset with learning := {
                                                                                                      State.reset.learning
                                                                                                      with engines :=
                                                                                                             [(3, {
                                                                                                             closed :=
                                                                                                               [⟨2,
                                                                                                               true,
                                                                                                               5⟩],
                                                                                                               farPlx
                                                                                                               :=
                                                                                                               [(⟨2,
                                                                                                               true,
                                                                                                               5⟩,
                                                                                                               Plx.toWord
                                                                                                               { rxpre
                                                                                                                   :=
                                                                                                                   3,
                                                                                                                   rtl
                                                                                                                   :=
                                                                                                                   0,
                                                                                                                   spre0
                                                                                                                   :=
                                                                                                                   4,
                                                                                                                   spre1
                                                                                                                   :=
                                                                                                                   4
                                                                                                                   })]
                                                                                                               })] }
                                                                                                      },
    by decide +kernel⟩

theorem witness_PlasticityAndStable_sweepEndNot : ∃ (s : State),
    (s.reg Reg.SWEEP_BUSY = 0 ∨ (s.plasticClusters.any fun c => (s.plast c).closed != []) = true ∨ s.stagingRoom =
      false) :=
  ⟨State.reset, by decide +kernel⟩

theorem witness_PlasticityAndStable_sweepEnd : ∃ (s : State),
    s.reg Reg.SWEEP_BUSY ≠ 0 ∧ (s.plasticClusters.any fun c => (s.plast c).closed != []) = false ∧ s.stagingRoom =
      true :=
  ⟨{ State.reset with regs := (Assoc.set (Reg.JRNL_BANK).key 255 (Assoc.set (Reg.SWEEP_HITCH).key 7 (Assoc.set
                        (Reg.SWEEP_BUSY).key 1 []))) }, by decide +kernel⟩

theorem witness_HitchNetwork_applyNone : ∃ (h : HitchId) (s : State),
    s.nextOp h.val = none :=
  ⟨7, { State.reset with hitches := [(7, { count := 5 })] }, by decide +kernel⟩

theorem witness_HitchNetwork_apply : ∃ (h : HitchId) (ecc : Ecc) (f : HitchFlight) (s : State),
    s.nextOp h.val = some f ∧ ecc ≠ .uncorrectable :=
  ⟨7, .corrected, { hitch := 7, msg := .signal 3, link := none, dev := 0, node := 3, run := none, queue := 0x7FFF,
                      arrive := 0 }, { State.reset with hitches := [(7, { count := 5 })], hitchNet := [{ hitch := 7,
                                                                                                           msg :=
                                                                                                           .signal 3,
                                                                                                           link :=
                                                                                                           none, dev
                                                                                                           := 0, node
                                                                                                           := 3, run
                                                                                                           := none,
                                                                                                           queue :=
                                                                                                           0x7FFF,
                                                                                                           arrive := 0
                                                                                                           }] },
    by decide +kernel⟩

theorem witness_HitchNetwork_ecc : ∃ (h : HitchId) (f : HitchFlight) (s : State),
    s.nextOp h.val = some f :=
  ⟨7, { hitch := 7, msg := .signal 3, link := none, dev := 0, node := 3, run := none, queue := 0x7FFF, arrive := 0 },
    { State.reset with hitches := [(7, { count := 5 })], hitchNet := [{ hitch := 7, msg := .signal 3, link := none,
                                                                          dev := 0, node := 3, run := none, queue :=
                                                                          0x7FFF, arrive := 0 }] }, by decide +kernel⟩

theorem witness_HitchNetwork_signal : ∃ (h : HitchId) (s : State),
    (s.hitch h.val).target = 0 ∧ (s.hitch h.val).lsubs = [] ∧ (s.hitch h.val).rsubs = [] ∧ s.waitersOn h.val = [] :=
  ⟨7, { State.reset with hitches := [(7, { count := 5 })] }, by decide +kernel⟩

theorem witness_HitchNetwork_set : ∃ (h : HitchId) (s : State),
    (s.hitch h.val).target = 0 :=
  ⟨7, { State.reset with hitches := [(7, { count := 5 })] }, by decide +kernel⟩

theorem witness_HitchNetwork_setCancels : ∃ (h : HitchId) (s : State),
    (s.hitch h.val).target ≠ 0 :=
  ⟨7, { State.reset with hitches := [(7, { count := 5, target := 8, barn := 4 })] }, by decide +kernel⟩

theorem witness_HitchNetwork_barrierArms : ∃ (f : HitchFlight) (n : Nat) (s : State),
    (s.hitch f.hitch).target = 0 ∧ (s.hitch f.hitch).count + n ≤ 0xFFFFFFFF ∧ n ≠ 0 ∧ f.dev = s.reg Reg.DEV_NUM :=
  ⟨{ hitch := 7, msg := .barrier 4, link := none, dev := 0, node := 3, run := none, queue := 0x7FFF, arrive := 0 }, 4,
    { State.reset with hitches := [(7, { count := 5 })] }, by decide +kernel⟩

theorem witness_HitchNetwork_barrierArrives : ∃ (f : HitchFlight) (s : State),
    (s.hitch f.hitch).target ≠ 0 ∧ (s.hitch f.hitch).count < 0xFFFFFFFF ∧ f.dev = s.reg Reg.DEV_NUM :=
  ⟨{ hitch := 7, msg := .barrier 4, link := none, dev := 0, node := 3, run := none, queue := 0x7FFF, arrive := 0 }, {
    State.reset with hitches := [(7, { count := 5, target := 8, barn := 3 })] }, by decide +kernel⟩

theorem witness_HitchNetwork_subscribeNone : ∃ (h : HitchId) (s : State),
    firstFlight (s.hitch h.val).homeNode (fun f => f.hitch == h.val && f.msg.isSubscription) s.hitchNet = none :=
  ⟨7, { State.reset with hitches := [(7, { count := 5 })] }, by decide +kernel⟩

theorem witness_HitchNetwork_subscribe : ∃ (h : HitchId) (f : HitchFlight) (s : State),
    firstFlight (s.hitch h.val).homeNode (fun f => f.hitch == h.val && f.msg.isSubscription) s.hitchNet = some f ∧
      f.msg = .subscribe ∧ f.dev = s.reg Reg.DEV_NUM :=
  ⟨7, { hitch := 7, msg := .subscribe, link := none, dev := 0, node := 3, run := none, queue := 0x7FFF, arrive := 0 },
    { State.reset with hitches := [(7, { count := 5 })], hitchNet := [{ hitch := 7, msg := .subscribe, link := none,
                                                                          dev := 0, node := 3, run := none, queue :=
                                                                          0x7FFF, arrive := 0 }] }, by decide +kernel⟩

theorem witness_HitchNetwork_subscribeDevice : ∃ (h : HitchId) (f : HitchFlight) (s : State),
    firstFlight (s.hitch h.val).homeNode (fun f => f.hitch == h.val && f.msg.isSubscription) s.hitchNet = some f ∧
      f.msg = .subscribe ∧ f.dev ≠ s.reg Reg.DEV_NUM :=
  ⟨7, { hitch := 7, msg := .subscribe, link := some 2, dev := 5, node := 3, run := none, queue := 0x7FFF, arrive := 0
          }, { State.reset with hitches := [(7, { count := 5 })], hitchNet := [{ hitch := 7, msg := .subscribe, link
                                                                                   := some 2, dev := 5, node := 3, run
                                                                                   := none, queue := 0x7FFF, arrive :=
                                                                                   0 }] }, by decide +kernel⟩

theorem witness_HitchNetwork_unsubscribe : ∃ (h : HitchId) (f : HitchFlight) (s : State),
    firstFlight (s.hitch h.val).homeNode (fun f => f.hitch == h.val && f.msg.isSubscription) s.hitchNet = some f ∧
      f.msg ≠ .subscribe :=
  ⟨7, { hitch := 7, msg := .unsubscribe, link := none, dev := 0, node := 3, run := none, queue := 0x7FFF, arrive := 0
          }, { State.reset with hitches := [(7, { count := 5 })], hitchNet := [{ hitch := 7, msg := .unsubscribe, link
                                                                                   := none, dev := 0, node := 3, run
                                                                                   := none, queue := 0x7FFF, arrive :=
                                                                                   0 }] }, by decide +kernel⟩

theorem witness_HitchNetwork_newsNone : ∃ (h : HitchId) (node : Fin 17) (s : State),
    (s.hitchNet.find? fun f => f.hitch == h.val && f.msg.isNews && f.node == node.val && f.dev == s.reg Reg.DEV_NUM) =
      none :=
  ⟨7, 3, { State.reset with hitches := [(7, { count := 5 })] }, by decide +kernel⟩

theorem witness_HitchNetwork_update : ∃ (h : HitchId) (node : Fin 17) (f : HitchFlight) (v : Nat) (s : State),
    (s.hitchNet.find? fun f => f.hitch == h.val && f.msg.isNews && f.node == node.val && f.dev == s.reg Reg.DEV_NUM) =
      some f ∧ f.msg = .update v :=
  ⟨7, 3, { hitch := 7, msg := .update 9, link := none, dev := 0, node := 3, run := none, queue := 0x7FFF, arrive := 0
             }, 9, { State.reset with hitches := [(7, { count := 5 })], hitchNet := [{ hitch := 7, msg := .update 9,
                                                                                         link := none, dev := 0, node
                                                                                         := 3, run := none, queue :=
                                                                                         0x7FFF, arrive := 0 }] },
    by decide +kernel⟩

theorem witness_HitchNetwork_release : ∃ (h : HitchId) (node : Fin 17) (f : HitchFlight) (v : Nat) (r : Nat) (s : State),
    (s.hitchNet.find? fun f => f.hitch == h.val && f.msg.isNews && f.node == node.val && f.dev == s.reg Reg.DEV_NUM) =
      some f ∧ f.msg = .release v r :=
  ⟨7, 3, { hitch := 7, msg := .release 9 1, link := none, dev := 0, node := 3, run := none, queue := 0x7FFF, arrive :=
             0 }, 9, 1, { State.reset with hitches := [(7, { count := 5 })], hitchNet := [{ hitch := 7, msg :=
                                                                                              .release 9 1, link :=
                                                                                              none, dev := 0, node :=
                                                                                              3, run := none, queue :=
                                                                                              0x7FFF, arrive := 0 }]
                                             }, by decide +kernel⟩

theorem witness_HitchNetwork_refuse : ∃ (h : HitchId) (node : Fin 17) (f : HitchFlight) (v : Nat) (r : Nat) (s : State),
    (s.hitchNet.find? fun f => f.hitch == h.val && f.msg.isNews && f.node == node.val && f.dev == s.reg Reg.DEV_NUM) =
      some f ∧ f.msg = .refuse v r :=
  ⟨7, 3, { hitch := 7, msg := .refuse 9 1, link := none, dev := 0, node := 3, run := none, queue := 0x7FFF, arrive :=
             0 }, 9, 1, { State.reset with hitches := [(7, { count := 5 })], hitchNet := [{ hitch := 7, msg := .refuse
                                                                                              9 1, link := none, dev
                                                                                              := 0, node := 3, run :=
                                                                                              none, queue := 0x7FFF,
                                                                                              arrive := 0 }] },
    by decide +kernel⟩

theorem witness_IntakePorts_asleep : ∃ (s : State),
    s.reg Reg.PWR_STATE ≠ 0 :=
  ⟨{ State.reset with regs := (Assoc.set (Reg.PWR_STATE).key 1 []) }, by decide +kernel⟩

theorem witness_IntakePorts_headerBad : ∃ (s : State),
    s.reg Reg.PWR_STATE = 0 :=
  ⟨State.reset, by decide +kernel⟩

theorem witness_IntakePorts_crcBad : ∃ (hdr : Ecc) (s : State),
    s.reg Reg.PWR_STATE = 0 ∧ hdr ≠ .uncorrectable :=
  ⟨.corrected, State.reset, by decide +kernel⟩

theorem witness_IntakePorts_ignored : ∃ (p : Fin 4) (hdr : Ecc) (vc : Fin 16) (dt : BitVec 6) (s : State),
    s.reg Reg.PWR_STATE = 0 ∧ hdr ≠ .uncorrectable ∧ (vc.val ≠ s.reg (Reg.VC p.val) ∨ ¬ (dt.toNat / 8 = 6 ∧ ((s.port
      p.val).decodeMap.any fun m => natBit (mapByte m 3) (dt.toNat % 8)) = true)) :=
  ⟨3, .corrected, 0, 0x30, State.reset, by decide +kernel⟩

theorem witness_IntakePorts_disarmed : ∃ (p : Fin 4) (hdr : Ecc) (vc : Fin 16) (dt : BitVec 6) (s : State),
    s.reg Reg.PWR_STATE = 0 ∧ hdr ≠ .uncorrectable ∧ vc.val = s.reg (Reg.VC p.val) ∧ (dt.toNat / 8 = 6 ∧ ((s.port
      p.val).decodeMap.any fun m => natBit (mapByte m 3) (dt.toNat % 8)) = true) ∧ s.reg (Reg.PORT_STATE p.val) ≠ 1 :=
  ⟨3, .corrected, 0, 0x30, { State.reset with intake := [(3, { decodeMap := some [0, 0, 0, 1] })] },
    by decide +kernel⟩

theorem witness_IntakePorts_packet : ∃ (p : Fin 4) (hdr : Ecc) (vc : Fin 16) (dt : BitVec 6) (s : State),
    s.reg Reg.PWR_STATE = 0 ∧ hdr ≠ .uncorrectable ∧ vc.val = s.reg (Reg.VC p.val) ∧ (dt.toNat / 8 = 6 ∧ ((s.port
      p.val).decodeMap.any fun m => natBit (mapByte m 3) (dt.toNat % 8)) = true) ∧ s.reg (Reg.PORT_STATE p.val) = 1 :=
  ⟨3, .corrected, 0, 0x30, { State.reset with regs := (Assoc.set (Reg.PORT_STATE 3).key 1 []), intake := [(3, {
                                                decodeMap := some [0, 0, 0, 1] })] }, by decide +kernel⟩

theorem witness_IntakePorts_frameAsleep : ∃ (s : State),
    s.reg Reg.PWR_STATE ≠ 0 :=
  ⟨{ State.reset with regs := (Assoc.set (Reg.PWR_STATE).key 1 []) }, by decide +kernel⟩

theorem witness_IntakePorts_fcsBad : ∃ (s : State),
    s.reg Reg.PWR_STATE = 0 :=
  ⟨State.reset, by decide +kernel⟩

theorem witness_IntakePorts_runt : ∃ (frame : List Byte) (s : State),
    s.reg Reg.PWR_STATE = 0 ∧ (frame.length < 64 ∨ 9216 < frame.length) :=
  ⟨List.replicate 63 0, State.reset, by decide +kernel⟩

theorem witness_IntakePorts_otherAddress : ∃ (e : EthId) (frame : List Byte) (data : List Byte) (body : List Byte) (ty : Nat × Nat) (s : State),
    s.reg Reg.PWR_STATE = 0 ∧ 64 ≤ frame.length ∧ frame.length ≤ 9216 ∧ frame.take (frame.length - 4) = data ∧
      etherType data = ty ∧ data.drop ty.2 = body ∧ s.frameWanted e.val data = false :=
  ⟨1, 2 :: List.replicate 63 7, 2 :: List.replicate 59 7, List.replicate 46 7, (0x707, 14), State.reset,
    by decide +kernel⟩

theorem witness_IntakePorts_control : ∃ (e : EthId) (frame : List Byte) (data : List Byte) (body : List Byte) (ty : Nat × Nat) (s : State),
    s.reg Reg.PWR_STATE = 0 ∧ 64 ≤ frame.length ∧ frame.length ≤ 9216 ∧ frame.take (frame.length - 4) = data ∧
      etherType data = ty ∧ data.drop ty.2 = body ∧ s.frameWanted e.val data = true ∧ ty.1 = 0x8808 :=
  ⟨1, [255, 255, 255, 255, 255, 255, 0, 0, 0, 0, 0, 0, 136, 8, 0, 0, 0, 0, 0, 0, 0, 0, 0, 0, 0, 0, 0, 0, 0, 0, 0, 0,
    0, 0, 0, 0, 0, 0, 0, 0, 0, 0, 0, 0, 0, 0, 0, 0, 0, 0, 0, 0, 0, 0, 0, 0, 0, 0, 0, 0, 0, 0, 0, 0], [255, 255, 255,
    255, 255, 255, 0, 0, 0, 0, 0, 0, 136, 8, 0, 0, 0, 0, 0, 0, 0, 0, 0, 0, 0, 0, 0, 0, 0, 0, 0, 0, 0, 0, 0, 0, 0, 0,
    0, 0, 0, 0, 0, 0, 0, 0, 0, 0, 0, 0, 0, 0, 0, 0, 0, 0, 0, 0, 0, 0], [0, 0, 0, 0, 0, 0, 0, 0, 0, 0, 0, 0, 0, 0, 0,
    0, 0, 0, 0, 0, 0, 0, 0, 0, 0, 0, 0, 0, 0, 0, 0, 0, 0, 0, 0, 0, 0, 0, 0, 0, 0, 0, 0, 0, 0, 0], (34824, 14),
    State.reset, by decide +kernel⟩

theorem witness_IntakePorts_frameDisarmed : ∃ (e : EthId) (frame : List Byte) (data : List Byte) (body : List Byte) (ty : Nat × Nat) (s : State),
    s.reg Reg.PWR_STATE = 0 ∧ 64 ≤ frame.length ∧ frame.length ≤ 9216 ∧ frame.take (frame.length - 4) = data ∧
      etherType data = ty ∧ data.drop ty.2 = body ∧ s.frameWanted e.val data = true ∧ ty.1 ≠ 0x8808 ∧ ¬ (s.reg
      (Reg.PORT_STATE (4 + e.val)) = 1 ∨ (ty.1 = 0x88B5 ∧ mapByte body 1 = 2)) :=
  ⟨1, [255, 255, 255, 255, 255, 255, 0, 0, 0, 0, 0, 0, 8, 0, 0, 0, 0, 0, 0, 0, 0, 0, 0, 0, 0, 0, 0, 0, 0, 0, 0, 0, 0,
    0, 0, 0, 0, 0, 0, 0, 0, 0, 0, 0, 0, 0, 0, 0, 0, 0, 0, 0, 0, 0, 0, 0, 0, 0, 0, 0, 0, 0, 0, 0], [255, 255, 255, 255,
    255, 255, 0, 0, 0, 0, 0, 0, 8, 0, 0, 0, 0, 0, 0, 0, 0, 0, 0, 0, 0, 0, 0, 0, 0, 0, 0, 0, 0, 0, 0, 0, 0, 0, 0, 0, 0,
    0, 0, 0, 0, 0, 0, 0, 0, 0, 0, 0, 0, 0, 0, 0, 0, 0, 0, 0], [0, 0, 0, 0, 0, 0, 0, 0, 0, 0, 0, 0, 0, 0, 0, 0, 0, 0,
    0, 0, 0, 0, 0, 0, 0, 0, 0, 0, 0, 0, 0, 0, 0, 0, 0, 0, 0, 0, 0, 0, 0, 0, 0, 0, 0, 0], (2048, 14), State.reset,
    by decide +kernel⟩

theorem witness_IntakePorts_management : ∃ (e : EthId) (frame : List Byte) (data : List Byte) (body : List Byte) (ty : Nat × Nat) (s : State),
    s.reg Reg.PWR_STATE = 0 ∧ 64 ≤ frame.length ∧ frame.length ≤ 9216 ∧ frame.take (frame.length - 4) = data ∧
      etherType data = ty ∧ data.drop ty.2 = body ∧ s.frameWanted e.val data = true ∧ (ty.1 = 0x88B5 ∧ mapByte body 1
      = 2) ∧ s.ownFrame e.val data = true :=
  ⟨1, [255, 255, 255, 255, 255, 255, 0, 0, 0, 0, 0, 0, 136, 181, 0, 2, 0, 0, 0, 0, 0, 0, 0, 0, 0, 0, 0, 0, 0, 0, 0, 0,
    0, 0, 0, 0, 0, 0, 0, 0, 0, 0, 0, 0, 0, 0, 0, 0, 0, 0, 0, 0, 0, 0, 0, 0, 0, 0, 0, 0, 0, 0, 0, 0], [255, 255, 255,
    255, 255, 255, 0, 0, 0, 0, 0, 0, 136, 181, 0, 2, 0, 0, 0, 0, 0, 0, 0, 0, 0, 0, 0, 0, 0, 0, 0, 0, 0, 0, 0, 0, 0, 0,
    0, 0, 0, 0, 0, 0, 0, 0, 0, 0, 0, 0, 0, 0, 0, 0, 0, 0, 0, 0, 0, 0], [0, 2, 0, 0, 0, 0, 0, 0, 0, 0, 0, 0, 0, 0, 0,
    0, 0, 0, 0, 0, 0, 0, 0, 0, 0, 0, 0, 0, 0, 0, 0, 0, 0, 0, 0, 0, 0, 0, 0, 0, 0, 0, 0, 0, 0, 0], (34997, 14), {
    State.reset with regs := (Assoc.set (Reg.ETH_MAC 1).key 281474976710655 []) }, by decide +kernel⟩

theorem witness_IntakePorts_events : ∃ (e : EthId) (frame : List Byte) (data : List Byte) (body : List Byte) (ty : Nat × Nat) (s : State),
    s.reg Reg.PWR_STATE = 0 ∧ 64 ≤ frame.length ∧ frame.length ≤ 9216 ∧ frame.take (frame.length - 4) = data ∧
      etherType data = ty ∧ data.drop ty.2 = body ∧ s.frameWanted e.val data = true ∧ (s.reg (Reg.PORT_STATE (4 +
      e.val)) = 1 ∨ (ty.1 = 0x88B5 ∧ mapByte body 1 = 2)) ∧ ty.1 = 0x88B5 ∧ mapByte body 1 ≠ 2 :=
  ⟨1, [255, 255, 255, 255, 255, 255, 0, 0, 0, 0, 0, 0, 136, 181, 0, 1, 0, 0, 0, 0, 0, 0, 0, 0, 0, 0, 0, 0, 0, 0, 0, 0,
    0, 0, 0, 0, 0, 0, 0, 0, 0, 0, 0, 0, 0, 0, 0, 0, 0, 0, 0, 0, 0, 0, 0, 0, 0, 0, 0, 0, 0, 0, 0, 0], [255, 255, 255,
    255, 255, 255, 0, 0, 0, 0, 0, 0, 136, 181, 0, 1, 0, 0, 0, 0, 0, 0, 0, 0, 0, 0, 0, 0, 0, 0, 0, 0, 0, 0, 0, 0, 0, 0,
    0, 0, 0, 0, 0, 0, 0, 0, 0, 0, 0, 0, 0, 0, 0, 0, 0, 0, 0, 0, 0, 0], [0, 1, 0, 0, 0, 0, 0, 0, 0, 0, 0, 0, 0, 0, 0,
    0, 0, 0, 0, 0, 0, 0, 0, 0, 0, 0, 0, 0, 0, 0, 0, 0, 0, 0, 0, 0, 0, 0, 0, 0, 0, 0, 0, 0, 0, 0], (34997, 14), {
    State.reset with regs := (Assoc.set (Reg.PORT_STATE 5).key 1 []) }, by decide +kernel⟩

theorem witness_IntakePorts_parsed : ∃ (e : EthId) (frame : List Byte) (data : List Byte) (body : List Byte) (ty : Nat × Nat) (s : State),
    s.reg Reg.PWR_STATE = 0 ∧ 64 ≤ frame.length ∧ frame.length ≤ 9216 ∧ frame.take (frame.length - 4) = data ∧
      etherType data = ty ∧ data.drop ty.2 = body ∧ s.frameWanted e.val data = true ∧ (s.reg (Reg.PORT_STATE (4 +
      e.val)) = 1 ∨ (ty.1 = 0x88B5 ∧ mapByte body 1 = 2)) ∧ ty.1 ≠ 0x8808 ∧ (ty.1 ≠ 0x88B5 ∨ mapByte body 1 = 2 ∧
      s.ownFrame e.val data = false) :=
  ⟨1, [255, 255, 255, 255, 255, 255, 0, 0, 0, 0, 0, 0, 8, 0, 0, 0, 0, 0, 0, 0, 0, 0, 0, 0, 0, 0, 0, 0, 0, 0, 0, 0, 0,
    0, 0, 0, 0, 0, 0, 0, 0, 0, 0, 0, 0, 0, 0, 0, 0, 0, 0, 0, 0, 0, 0, 0, 0, 0, 0, 0, 0, 0, 0, 0], [255, 255, 255, 255,
    255, 255, 0, 0, 0, 0, 0, 0, 8, 0, 0, 0, 0, 0, 0, 0, 0, 0, 0, 0, 0, 0, 0, 0, 0, 0, 0, 0, 0, 0, 0, 0, 0, 0, 0, 0, 0,
    0, 0, 0, 0, 0, 0, 0, 0, 0, 0, 0, 0, 0, 0, 0, 0, 0, 0, 0], [0, 0, 0, 0, 0, 0, 0, 0, 0, 0, 0, 0, 0, 0, 0, 0, 0, 0,
    0, 0, 0, 0, 0, 0, 0, 0, 0, 0, 0, 0, 0, 0, 0, 0, 0, 0, 0, 0, 0, 0, 0, 0, 0, 0, 0, 0], (2048, 14), { State.reset
    with regs := (Assoc.set (Reg.PORT_STATE 5).key 1 []) }, by decide +kernel⟩

theorem witness_IntakePorts_injectNot : ∃ (p : PortId) (s : State),
    (s.reg (Reg.PORT_STATE p.val) = 0 ∨ s.fabric.windowOpen = true ∧ s.streamOpen = false ∨ s.fabric.windowOpen =
      false ∧ s.fabric.window ≤ Assoc.getD s.fabric.sdone (17 + p.val) 0) :=
  ⟨5, State.reset, by decide +kernel⟩

theorem witness_IntakePorts_inject : ∃ (p : PortId) (s : State),
    s.reg (Reg.PORT_STATE p.val) ≠ 0 ∧ s.fabric.windowOpen = true ∧ s.streamOpen = true :=
  ⟨5, { State.reset with regs := (Assoc.set (Reg.PORT_STATE 5).key 1 []), fabric := { State.reset.fabric with
                           windowOpen := true } }, by decide +kernel⟩

theorem witness_IntakePorts_injectRest : ∃ (p : PortId) (s : State),
    s.reg (Reg.PORT_STATE p.val) ≠ 0 ∧ s.fabric.windowOpen = false ∧ Assoc.getD s.fabric.sdone (17 + p.val) 0 <
      s.fabric.window :=
  ⟨5, { State.reset with regs := (Assoc.set (Reg.PORT_STATE 5).key 1 []), fabric := { State.reset.fabric with window
                                                                                                                := 1 }
                           }, by decide +kernel⟩

theorem witness_IntakePorts_reinRelease : ∃ (p : PortId) (s : State),
    (s.port p.val).rein = true ∧ ((s.skid p.val).isNone = true ∨ s.skidFill p.val < (s.reinMarks p.val).2) ∧ (s.port
      p.val).reinAt + s.reg (Reg.REIN_MIN_US p.val) * 1000 ≤ s.now :=
  ⟨3, { State.reset with now := 1000000, regs := (Assoc.set (Reg.REIN_LWM_PCT 3).key 50 (Assoc.set (Reg.SKID_BASE
                           3).key 2097152 [])), intake := [(3, { rein := true })], windows := [(32, { base :=
                                                                                                        0x200000,
                                                                                                        log2size :=
                                                                                                        21, mode :=
                                                                                                        .append })] },
    by decide +kernel⟩

theorem witness_IntakePorts_reinHolds : ∃ (p : PortId) (s : State),
    ((s.port p.val).rein = false ∨ (s.skid p.val).isNone = false ∧ (s.reinMarks p.val).2 ≤ s.skidFill p.val ∨ s.now <
      (s.port p.val).reinAt + s.reg (Reg.REIN_MIN_US p.val) * 1000) :=
  ⟨3, State.reset, by decide +kernel⟩

theorem witness_IntakePorts_pause : ∃ (e : EthId) (s : State),
    s.reg (Reg.REIN_STATE (4 + e.val)) = 1 ∧ (s.port (4 + e.val)).pauseAt + s.reg (Reg.PAUSE_QUANTA e.val) * 2048 /
      200 ≤ s.now :=
  ⟨1, { State.reset with now := 10000000, regs := (Assoc.set (Reg.REIN_STATE 5).key 1 []) }, by decide +kernel⟩

theorem witness_IntakePorts_pauseNot : ∃ (e : EthId) (s : State),
    (s.reg (Reg.REIN_STATE (4 + e.val)) ≠ 1 ∨ s.now < (s.port (4 + e.val)).pauseAt + s.reg (Reg.PAUSE_QUANTA e.val) *
      2048 / 200) :=
  ⟨1, State.reset, by decide +kernel⟩

theorem witness_PowerSupply_feedOn : ∃ (b : Bool) (mv : BitVec 32) (s : State),
    s.bit Reg.FEEDS (if b then 1 else 0) = false ∧ s.bit Reg.FEEDS (4 + (if b then 1 else 0)) = false ∧ 36000 ≤
      mv.toNat ∧ s.power.off = true ∧ s.power.resetHeld = false ∧ s.power.feedWake = true :=
  ⟨true, 48000, { State.reset with regs := (Assoc.set (Reg.FEEDS).key 0 []), power := { State.reset.power with off :=
                                                                                                                 true
                                                                                                                 } },
    by decide +kernel⟩

theorem witness_PowerSupply_feedStaysOff : ∃ (b : Bool) (mv : BitVec 32) (s : State),
    s.bit Reg.FEEDS (if b then 1 else 0) = false ∧ s.bit Reg.FEEDS (4 + (if b then 1 else 0)) = false ∧ 36000 ≤
      mv.toNat ∧ s.power.off = true ∧ (s.power.resetHeld = true ∨ s.power.feedWake = false) :=
  ⟨true, 48000, { State.reset with regs := (Assoc.set (Reg.FEEDS).key 0 []), power := { State.reset.power with off :=
                                                                                                                 true,
                                                                                                                 feedWake
                                                                                                                 :=
                                                                                                                 false
                                                                                                                 } },
    by decide +kernel⟩

theorem witness_PowerSupply_feedWakes : ∃ (b : Bool) (mv : BitVec 32) (s : State),
    s.bit Reg.FEEDS (if b then 1 else 0) = false ∧ s.bit Reg.FEEDS (4 + (if b then 1 else 0)) = false ∧ 36000 ≤
      mv.toNat ∧ s.power.off = false :=
  ⟨true, 48000, { State.reset with regs := (Assoc.set (Reg.FEEDS).key 0 []) }, by decide +kernel⟩

theorem witness_PowerSupply_feedSame : ∃ (b : Bool) (mv : BitVec 32) (s : State),
    (s.bit Reg.FEEDS (if b then 1 else 0) = true ∨ s.bit Reg.FEEDS (4 + (if b then 1 else 0)) = true ∨ mv.toNat <
      36000) :=
  ⟨false, 48000, { State.reset with regs := (Assoc.set (Reg.FEEDS).key 1 []) }, by decide +kernel⟩

theorem witness_PowerSupply_holdup : ∃ (s : State),
    (s.power.holdupAt.all fun t => decide (t + (if s.reg Reg.HOLDUP_MJ < 600 then 3600000000000 else 86400000000000) ≤
      s.now)) = true ∧ s.power.off = false :=
  ⟨State.reset, by decide +kernel⟩

theorem witness_PowerSupply_holdupNot : ∃ (at' : Nat) (s : State),
    s.power.holdupAt = some at' ∧ s.now < at' + (if s.reg Reg.HOLDUP_MJ < 600 then 3600000000000 else 86400000000000) :=
  ⟨0, { State.reset with power := { State.reset.power with holdupAt := some 0 } }, by decide +kernel⟩

theorem witness_PowerSupply_brace : ∃ (rail : Option (Fin 8)) (s : State),
    s.power.off = false ∧ rail ≠ some 7 ∧ s.power.brace = none ∧ (rail ≠ none ∨ s.reg Reg.SUPPLY_STATE ≠ 2) :=
  ⟨none, State.reset, by decide +kernel⟩

theorem witness_PowerSupply_braceOnce : ∃ (rail : Option (Fin 8)) (s : State),
    s.power.off = false ∧ rail ≠ some 7 ∧ (s.power.brace ≠ none ∨ rail = none ∧ s.reg Reg.SUPPLY_STATE = 2) :=
  ⟨some 3, { State.reset with power := { State.reset.power with brace := some 0 } }, by decide +kernel⟩

theorem witness_PowerSupply_braceOff : ∃ (s : State),
    s.power.off = true :=
  ⟨{ State.reset with power := { State.reset.power with off := true } }, by decide +kernel⟩

theorem witness_PowerSupply_railUnwatched : ∃ (s : State),
    s.power.off = false :=
  ⟨State.reset, by decide +kernel⟩

theorem witness_PowerSupply_braceExit : ∃ (mv : BitVec 32) (at' : Nat) (s : State),
    s.power.brace = some at' ∧ at' + 100000 ≤ s.now ∧ 39000 < mv.toNat :=
  ⟨48000, 0, { State.reset with now := 100000, power := { State.reset.power with brace := some 0 } },
    by decide +kernel⟩

theorem witness_PowerSupply_braceStays : ∃ (mv : BitVec 32) (s : State),
    (s.power.brace.all fun t => decide (s.now < t + 100000) || decide (mv.toNat ≤ 39000)) = true :=
  ⟨48000, { State.reset with now := 99999, power := { State.reset.power with brace := some 0 } }, by decide +kernel⟩

theorem witness_PowerSupply_lowInput : ∃ (at' : Nat) (s : State),
    s.power.brace = some at' ∧ s.reg Reg.RAIL_STATUS = 0 ∧ at' + s.reg Reg.BRACE_MAX_MS * 1000000 ≤ s.now :=
  ⟨0, { State.reset with now := 1000000000, power := { State.reset.power with brace := some 0 } }, by decide +kernel⟩

theorem witness_PowerSupply_lowInputNot : ∃ (s : State),
    (s.power.brace.all fun t => s.reg Reg.RAIL_STATUS != 0 || decide (s.now < t + s.reg Reg.BRACE_MAX_MS * 1000000)) =
      true :=
  ⟨State.reset, by decide +kernel⟩

theorem witness_PowerSupply_lowInputOver : ∃ (mv : BitVec 32) (s : State),
    s.reg Reg.SUPPLY_STATE = 2 ∧ 39000 < mv.toNat :=
  ⟨40000, { State.reset with regs := (Assoc.set (Reg.ERROR_REG).key 4 (Assoc.set (Reg.SUPPLY_STATE).key 2 [])) },
    by decide +kernel⟩

theorem witness_PowerSupply_lowInputStays : ∃ (mv : BitVec 32) (s : State),
    (s.reg Reg.SUPPLY_STATE ≠ 2 ∨ mv.toNat ≤ 39000) :=
  ⟨39000, { State.reset with regs := (Assoc.set (Reg.SUPPLY_STATE).key 2 []) }, by decide +kernel⟩

theorem witness_PowerSupply_rail : ∃ (s : State),
    s.power.off = false :=
  ⟨State.reset, by decide +kernel⟩

theorem witness_PowerSupply_offKeeps : ∃ (s : State),
    s.power.off = true :=
  ⟨{ State.reset with power := { State.reset.power with off := true } }, by decide +kernel⟩

theorem witness_PowerSupply_lpreg : ∃ (s : State),
    s.power.off = false :=
  ⟨State.reset, by decide +kernel⟩

theorem witness_PowerSupply_powerFail : ∃ (s : State),
    s.power.off = false :=
  ⟨{ State.reset with regs := (Assoc.set (Reg.HOLDUP_OK).key 1 []) }, by decide +kernel⟩

theorem witness_PowerSupply_powerFailOff : ∃ (s : State),
    s.power.off = true :=
  ⟨{ State.reset with power := { State.reset.power with off := true } }, by decide +kernel⟩

theorem witness_PowerSupply_governorRaises : ∃ (mw : BitVec 32) (temp : BitVec 16) (s : State),
    s.power.govTick + 10000 ≤ s.now ∧ s.govLimit temp.toInt < mw.toNat ∧ s.reg Reg.GOV_LEVEL < 19 :=
  ⟨0xFFFFFFFF, 50, { State.reset with now := 10000 }, by decide +kernel⟩

theorem witness_PowerSupply_governorKeeps : ∃ (mw : BitVec 32) (temp : BitVec 16) (s : State),
    s.power.govTick + 10000 ≤ s.now ∧ (mw.toNat ≤ s.govLimit temp.toInt ∨ 19 ≤ s.reg Reg.GOV_LEVEL) :=
  ⟨5, 50, { State.reset with now := 10000 }, by decide +kernel⟩

theorem witness_PowerSupply_governorEarly : ∃ (s : State),
    s.now < s.power.govTick + 10000 :=
  ⟨State.reset, by decide +kernel⟩

theorem witness_PowerSupply_governorLowers : ∃ (at' : Nat) (s : State),
    s.power.govLow = some at' ∧ s.reg Reg.GOV_LEVEL ≠ 0 ∧ at' + 1000000 ≤ s.now ∧ s.power.govRaised + 100000 ≤ s.now :=
  ⟨0, { State.reset with now := 1000000, regs := (Assoc.set (Reg.GOV_LEVEL).key 1 []), power := { State.reset.power
                           with govLow := some 0 } }, by decide +kernel⟩

theorem witness_PowerSupply_governorHolds : ∃ (s : State),
    (s.power.govLow.all fun t => s.reg Reg.GOV_LEVEL == 0 || decide (s.now < t + 1000000) || decide (s.now <
      s.power.govRaised + 100000)) = true :=
  ⟨State.reset, by decide +kernel⟩

theorem witness_PowerSupply_thermal : ∃ (temp : BitVec 16) (s : State),
    s.power.off = false ∧ 125 < temp.toInt :=
  ⟨126, State.reset, by decide +kernel⟩

theorem witness_PowerSupply_thermalNot : ∃ (temp : BitVec 16) (s : State),
    (s.power.off = true ∨ temp.toInt ≤ 125) :=
  ⟨125, State.reset, by decide +kernel⟩

theorem witness_PowerSupply_resetRelease : ∃ (s : State),
    s.power.resetHeld = true :=
  ⟨{ State.reset with power := { State.reset.power with resetHeld := true, off := true } }, by decide +kernel⟩

theorem witness_PowerSupply_resetNotHeld : ∃ (s : State),
    s.power.resetHeld = false :=
  ⟨State.reset, by decide +kernel⟩

theorem witness_PowerSupply_senseOff : ∃ (c : Instr) (mj : BitVec 32) (pins : BitVec 6) (ma : BitVec 16) (engaged : Bool) (s : State),
    c ∈ [Instr.holdupCheck mj, .geoChange pins, .vaonLimit ma engaged] ∧ s.power.off = true :=
  ⟨(.geoChange 5), 0, 5, 0, true, { State.reset with power := { State.reset.power with off := true } },
    by decide +kernel⟩

theorem witness_PowerSupply_geoSame : ∃ (pins : BitVec 6) (s : State),
    s.power.off = false ∧ (pins.toNat = s.reg Reg.DEV_NUM ∨ s.reg Reg.GEO_CHANGED ≠ 0) :=
  ⟨0, State.reset, by decide +kernel⟩

theorem witness_PowerSupply_geoDiffers : ∃ (pins : BitVec 6) (s : State),
    s.power.off = false ∧ pins.toNat ≠ s.reg Reg.DEV_NUM ∧ s.reg Reg.GEO_CHANGED = 0 :=
  ⟨63, State.reset, by decide +kernel⟩

theorem witness_PowerSupply_vaon : ∃ (s : State),
    s.power.off = false :=
  ⟨State.reset, by decide +kernel⟩

theorem witness_BringUpAndAgeing_notNow : ∃ (s : State),
    (s.power.off = true ∨ s.power.resetHeld = true ∨ s.update.recovery = true) :=
  ⟨{ State.reset with power := { State.reset.power with off := true } }, by decide +kernel⟩

theorem witness_BringUpAndAgeing_otherStage : ∃ (r : StageReport) (s : State),
    reportStage r ≠ s.reg Reg.BRINGUP_STAGE :=
  ⟨.links, State.reset, by decide +kernel⟩

theorem witness_BringUpAndAgeing_power : ∃ (s : State),
    s.power.off = false ∧ s.power.resetHeld = false ∧ s.update.recovery = false ∧ s.reg Reg.BRINGUP_STAGE = 0 :=
  ⟨State.reset, by decide +kernel⟩

theorem witness_BringUpAndAgeing_rail : ∃ (s : State),
    s.power.off = false ∧ s.power.resetHeld = false ∧ s.update.recovery = false ∧ s.reg Reg.BRINGUP_STAGE = 0 :=
  ⟨State.reset, by decide +kernel⟩

theorem witness_BringUpAndAgeing_manage : ∃ (s : State),
    s.power.off = false ∧ s.power.resetHeld = false ∧ s.update.recovery = false ∧ s.reg Reg.BRINGUP_STAGE = 1 :=
  ⟨{ State.reset with regs := (Assoc.set (Reg.BRINGUP_STAGE).key 1 []) }, by decide +kernel⟩

theorem witness_BringUpAndAgeing_clocks : ∃ (s : State),
    s.power.off = false ∧ s.power.resetHeld = false ∧ s.update.recovery = false ∧ s.reg Reg.BRINGUP_STAGE = 2 :=
  ⟨{ State.reset with regs := (Assoc.set (Reg.BRINGUP_STAGE).key 2 []) }, by decide +kernel⟩

theorem witness_BringUpAndAgeing_clocksFail : ∃ (s : State),
    s.power.off = false ∧ s.power.resetHeld = false ∧ s.update.recovery = false ∧ s.reg Reg.BRINGUP_STAGE = 2 :=
  ⟨{ State.reset with regs := (Assoc.set (Reg.BRINGUP_STAGE).key 2 []) }, by decide +kernel⟩

theorem witness_BringUpAndAgeing_memory : ∃ (s : State),
    s.power.off = false ∧ s.power.resetHeld = false ∧ s.update.recovery = false ∧ s.reg Reg.BRINGUP_STAGE = 3 :=
  ⟨{ State.reset with regs := (Assoc.set (Reg.BRINGUP_STAGE).key 3 []) }, by decide +kernel⟩

theorem witness_BringUpAndAgeing_links : ∃ (s : State),
    s.power.off = false ∧ s.power.resetHeld = false ∧ s.update.recovery = false ∧ s.reg Reg.BRINGUP_STAGE = 4 :=
  ⟨{ State.reset with regs := (Assoc.set (Reg.BRINGUP_STAGE).key 4 []) }, by decide +kernel⟩

theorem witness_BringUpAndAgeing_clusters : ∃ (s : State),
    s.power.off = false ∧ s.power.resetHeld = false ∧ s.update.recovery = false ∧ s.reg Reg.BRINGUP_STAGE = 5 :=
  ⟨{ State.reset with regs := (Assoc.set (Reg.BRINGUP_STAGE).key 5 []) }, by decide +kernel⟩

theorem witness_BringUpAndAgeing_retry : ∃ (at' : Nat) (s : State),
    s.power.retryAt = some at' ∧ s.power.off = true ∧ s.power.resetHeld = false ∧ at' ≤ s.now :=
  ⟨0, { State.reset with power := { State.reset.power with off := true, retryAt := some 0, railRetries := 2 } },
    by decide +kernel⟩

theorem witness_BringUpAndAgeing_retryNot : ∃ (s : State),
    (s.power.off = false ∨ s.power.resetHeld = true ∨ (s.power.retryAt.all fun t => decide (s.now < t)) = true) :=
  ⟨State.reset, by decide +kernel⟩

theorem witness_BringUpAndAgeing_ddr : ∃ (s : State),
    s.reg Reg.DDR_STATE = 1 ∧ s.reg Reg.BRINGUP_STAGE = 6 :=
  ⟨{ State.reset with regs := (Assoc.set (Reg.DDR_STATE).key 1 (Assoc.set (Reg.BRINGUP_STAGE).key 6 [])) },
    by decide +kernel⟩

theorem witness_BringUpAndAgeing_ddrNot : ∃ (s : State),
    (s.reg Reg.DDR_STATE ≠ 1 ∨ s.reg Reg.BRINGUP_STAGE ≠ 6) :=
  ⟨State.reset, by decide +kernel⟩

theorem witness_BringUpAndAgeing_alarm : ∃ (slack : BitVec 16) (s : State),
    s.power.off = false ∧ s.reg Reg.PWR_STATE < 2 ∧ slack.toInt < (s.reg Reg.CORE_ALARM_PS : Int) ∧ (s.power.bumpAt =
      0 ∨ s.power.bumpAt + 100000 ≤ s.now) ∧ s.power.vcore < 800 :=
  ⟨0xFFFF, { State.reset with power := { State.reset.power with vcore := 750 } }, by decide +kernel⟩

theorem witness_BringUpAndAgeing_exhausted : ∃ (slack : BitVec 16) (s : State),
    s.power.off = false ∧ s.reg Reg.PWR_STATE < 2 ∧ slack.toInt < (s.reg Reg.CORE_ALARM_PS : Int) ∧ (s.power.bumpAt =
      0 ∨ s.power.bumpAt + 100000 ≤ s.now) ∧ 800 ≤ s.power.vcore :=
  ⟨0xFFFF, State.reset, by decide +kernel⟩

theorem witness_BringUpAndAgeing_noAlarm : ∃ (slack : BitVec 16) (s : State),
    (s.power.off = true ∨ 2 ≤ s.reg Reg.PWR_STATE ∨ (s.reg Reg.CORE_ALARM_PS : Int) ≤ slack.toInt ∨ s.power.bumpAt ≠ 0
      ∧ s.now < s.power.bumpAt + 100000) :=
  ⟨0x7FFF, State.reset, by decide +kernel⟩

theorem witness_BringUpAndAgeing_noPlan : ∃ (s : State),
    s.power.planAt = none :=
  ⟨State.reset, by decide +kernel⟩

theorem witness_BringUpAndAgeing_due : ∃ (at' : Nat) (s : State),
    s.power.planAt = some at' :=
  ⟨0, { State.reset with now := 86400000000000, power := { State.reset.power with planAt := some 0 } },
    by decide +kernel⟩

theorem witness_BringUpAndAgeing_planLinks : ∃ (s : State),
    s.power.planLinks ≠ [] :=
  ⟨{ State.reset with power := { State.reset.power with planLinks := [3] } }, by decide +kernel⟩

theorem witness_BringUpAndAgeing_planNone : ∃ (s : State),
    s.power.planLinks = [] ∧ (s.power.planDue = none ∨ s.reg Reg.BRINGUP_STAGE ≠ 6) :=
  ⟨State.reset, by decide +kernel⟩

theorem witness_BringUpAndAgeing_deferred : ∃ (s : State),
    s.power.planLinks = [] ∧ s.power.planDue ≠ none ∧ s.reg Reg.BRINGUP_STAGE = 6 ∧ s.planHeld = true :=
  ⟨{ State.reset with regs := (Assoc.set (Reg.BRINGUP_STAGE).key 6 []), power := { State.reset.power with planDue :=
                                                                                                            some 0,
                                                                                                            brace :=
                                                                                                            some 0 }
                        }, by decide +kernel⟩

theorem witness_BringUpAndAgeing_planCore : ∃ (s : State),
    s.power.planLinks = [] ∧ s.power.planDue ≠ none ∧ s.reg Reg.BRINGUP_STAGE = 6 ∧ s.planHeld = false ∧
      s.learning.consolRunning = true :=
  ⟨{ State.reset with regs := (Assoc.set (Reg.BRINGUP_STAGE).key 6 []), power := { State.reset.power with planDue :=
                                                                                                            some 0 },
                        learning := { State.reset.learning with consolRunning := true } }, by decide +kernel⟩

theorem witness_BringUpAndAgeing_replan : ∃ (s : State),
    s.power.planLinks = [] ∧ s.power.planDue ≠ none ∧ s.reg Reg.BRINGUP_STAGE = 6 ∧ s.planHeld = false ∧
      s.learning.consolRunning = false :=
  ⟨{ State.reset with regs := (Assoc.set (Reg.BRINGUP_STAGE).key 6 []), power := { State.reset.power with planDue :=
                                                                                                            some 0 }
                        }, by decide +kernel⟩

theorem witness_BringUpAndAgeing_refreshNot : ∃ (s : State),
    (s.mayRefresh = false ∨ s.power.refreshPage = none ∧ s.now < s.power.refreshedAt + s.reg Reg.STABLE_REFRESH_D *
      86400000000000) :=
  ⟨State.reset, by decide +kernel⟩

theorem witness_BringUpAndAgeing_refreshBegins : ∃ (s : State),
    s.mayRefresh = true ∧ s.power.refreshPage = none ∧ s.power.refreshedAt + s.reg Reg.STABLE_REFRESH_D *
      86400000000000 ≤ s.now :=
  ⟨{ State.reset with now := 10000000000000000, regs := (Assoc.set (Reg.STABLE_STATE).key 1 []) }, by decide +kernel⟩

theorem witness_BringUpAndAgeing_refreshPage : ∃ (k : Nat) (s : State),
    s.mayRefresh = true ∧ s.power.refreshPage = some k :=
  ⟨16383, { State.reset with now := 10000000000000000, regs := (Assoc.set (Reg.STABLE_STATE).key 1 []), power := {
                               State.reset.power with refreshPage := some 16383 } }, by decide +kernel⟩

theorem witness_FaultHandling_noHang : ∃ (c : ClusterId) (t : TileId) (s : State),
    ((s.tile c.val t.val).fenced = true ∨ (s.tile c.val t.val).inPhase = false) :=
  ⟨3, 2, State.reset, by decide +kernel⟩

theorem witness_FaultHandling_waits : ∃ (c : ClusterId) (t : TileId) (s : State),
    (s.tile c.val t.val).fenced = false ∧ (s.tile c.val t.val).inPhase = true :=
  ⟨3, 2, { State.reset with now := 100000000, tiles := [(194, { map := { n := 8 }, phase := .deliver 1 })] },
    by decide +kernel⟩

theorem witness_FaultHandling_progresses : ∃ (c : ClusterId) (t : TileId) (s : State),
    (s.tile c.val t.val).fenced = false ∧ (s.tile c.val t.val).inPhase = true ∧ s.now < (s.tile c.val
      t.val).progressAt + s.reg Reg.TILE_HANG_US * 1000 :=
  ⟨3, 2, { State.reset with tiles := [(194, { map := { n := 8 }, phase := .deliver 1 })], regs := (Assoc.set
                              (Reg.TILE_HANG_US).key 5 []) }, by decide +kernel⟩

theorem witness_FaultHandling_hang : ∃ (c : ClusterId) (t : TileId) (s : State),
    (s.tile c.val t.val).fenced = false ∧ (s.tile c.val t.val).inPhase = true ∧ (s.tile c.val t.val).progressAt +
      s.reg Reg.TILE_HANG_US * 1000 ≤ s.now :=
  ⟨3, 2, { State.reset with now := 100000000, tiles := [(194, { map := { n := 8 }, phase := .deliver 1 })] },
    by decide +kernel⟩

theorem witness_FaultHandling_settleNot : ∃ (s : State),
    (s.reg Reg.HARNESS_STATE < 2 ∨ s.reg Reg.FABRIC_STATE ≠ 0 ∨ s.isMaster = true ∧ s.deficit = none ∧
      s.fabric.mismatch = false) :=
  ⟨State.reset, by decide +kernel⟩

theorem witness_FaultHandling_settleHold : ∃ (s : State),
    2 ≤ s.reg Reg.HARNESS_STATE ∧ s.reg Reg.FABRIC_STATE = 0 ∧ s.isMaster = false :=
  ⟨{ State.reset with regs := (Assoc.set (Reg.DEV_NUM).key 5 (Assoc.set (Reg.HARNESS_STATE).key 2 [])) },
    by decide +kernel⟩

theorem witness_FaultHandling_settleStart : ∃ (s : State),
    2 ≤ s.reg Reg.HARNESS_STATE ∧ s.reg Reg.FABRIC_STATE = 0 ∧ s.isMaster = true ∧ (s.deficit ≠ none ∨
      s.fabric.mismatch = true) :=
  ⟨{ State.reset with regs := (Assoc.set (Reg.HARNESS_STATE).key 2 []), fabric := { State.reset.fabric with mismatch
                                                                                                              := true
                                                                                                              } },
    by decide +kernel⟩

theorem witness_FaultHandling_replyNot : ∃ (dev : Fin 64) (s : State),
    (s.fabric.settling = false ∨ (s.tether.settle.any fun x => x.zeroing) = true ∨ dev.val = s.reg Reg.DEV_NUM ∧
      s.quiet = false ∨ dev.val ≠ s.reg Reg.DEV_NUM ∧ s.isMaster = false) :=
  ⟨5, State.reset, by decide +kernel⟩

theorem witness_FaultHandling_reply : ∃ (dev : Fin 64) (s : State),
    s.fabric.settling = true ∧ (s.tether.settle.any fun x => x.zeroing) = false ∧ dev.val = s.reg Reg.DEV_NUM ∧
      s.quiet = true :=
  ⟨5, { State.reset with regs := (Assoc.set (Reg.DEV_NUM).key 5 []), fabric := { State.reset.fabric with settling :=
                                                                                                           true } },
    by decide +kernel⟩

theorem witness_FaultHandling_heard : ∃ (dev : Fin 64) (s : State),
    s.fabric.settling = true ∧ (s.tether.settle.any fun x => x.zeroing) = false ∧ dev.val ≠ s.reg Reg.DEV_NUM ∧
      s.isMaster = true :=
  ⟨5, { State.reset with fabric := { State.reset.fabric with settling := true } }, by decide +kernel⟩

theorem witness_FaultHandling_settleHere : ∃ (s : State),
    s.isMaster = false :=
  ⟨{ State.reset with regs := (Assoc.set (Reg.DEV_NUM).key 5 []), fabric := { State.reset.fabric with settling := true
                                                                                                        } },
    by decide +kernel⟩

theorem witness_FaultHandling_settleWaits : ∃ (s : State),
    s.isMaster = true ∧ (s.tether.settle.all fun x => !x.zeroing && x.awaited != []) = true :=
  ⟨State.reset, by decide +kernel⟩

theorem witness_FaultHandling_settleZeroes : ∃ (x : SettleRun) (s : State),
    s.isMaster = true ∧ s.tether.settle = some x ∧ x.zeroing = false ∧ x.awaited = [] :=
  ⟨⟨false, [], 0, 0, none⟩, { State.reset with tether := { State.reset.tether with shape := 0x010101, settle := some
                                                                                     ⟨false, [], 0, 0, none⟩ } },
    by decide +kernel⟩

theorem witness_FaultHandling_settleHears : ∃ (x : SettleRun) (s : State),
    s.isMaster = true ∧ s.tether.settle = some x ∧ x.zeroing = true :=
  ⟨⟨true, [5], 0, 0, none⟩, { State.reset with tether := { State.reset.tether with shape := 0x010101, settle := some
                                                                                     ⟨true, [5], 0, 0, none⟩ } },
    by decide +kernel⟩

theorem witness_FaultHandling_settleTimeout : ∃ (x : SettleRun) (s : State),
    s.tether.settle = some x ∧ x.zeroing = false ∧ x.awaited ≠ [] ∧ x.since + s.reg Reg.SETTLE_MAX_US * 1000 ≤ s.now :=
  ⟨⟨false, [5], 0, 0, none⟩, { State.reset with now := 1000000000, tether := { State.reset.tether with settle := some
                                                                                                         ⟨false, [5],
                                                                                                         0, 0, none⟩ }
                                                  }, by decide +kernel⟩

theorem witness_FaultHandling_noTimeout : ∃ (s : State),
    (s.tether.settle.all fun x => x.zeroing || x.awaited == [] || decide (s.now < x.since + s.reg Reg.SETTLE_MAX_US *
      1000)) = true :=
  ⟨State.reset, by decide +kernel⟩

theorem witness_FaultHandling_notLost : ∃ (dev : Fin 64) (s : State),
    ((Assoc.get? dev.val s.tether.unreached).all fun t => decide (s.now < t + s.reg Reg.DEV_LOST_US * 1000)) = true :=
  ⟨63, State.reset, by decide +kernel⟩

theorem witness_FaultHandling_deviceLost : ∃ (dev : Fin 64) (at' : Nat) (s : State),
    Assoc.get? dev.val s.tether.unreached = some at' ∧ at' + s.reg Reg.DEV_LOST_US * 1000 ≤ s.now :=
  ⟨63, 0, { State.reset with now := 1000000000, regs := (Assoc.set (Reg.DEV_NUM).key 5 []), tether := {
                               State.reset.tether with unreached := [(63, 0)] } }, by decide +kernel⟩

theorem witness_FaultHandling_watchdog : ∃ (s : State),
    s.power.off = false ∧ 2 ≤ s.reg Reg.BRINGUP_STAGE % 128 :=
  ⟨{ State.reset with regs := (Assoc.set (Reg.BRINGUP_STAGE).key 6 []) }, by decide +kernel⟩

theorem witness_FaultHandling_watchdogNot : ∃ (s : State),
    (s.power.off = true ∨ s.reg Reg.BRINGUP_STAGE % 128 < 2) :=
  ⟨State.reset, by decide +kernel⟩

theorem witness_FaultHandling_check : ∃ (s : State),
    s.power.off = false ∧ 2 ≤ s.reg Reg.BRINGUP_STAGE % 128 :=
  ⟨{ State.reset with regs := (Assoc.set (Reg.BRINGUP_STAGE).key 6 []) }, by decide +kernel⟩

theorem witness_FaultHandling_checkHolds : ∃ (differs : Bool) (s : State),
    (differs = false ∨ s.power.off = true ∨ s.reg Reg.BRINGUP_STAGE % 128 < 2) :=
  ⟨false, State.reset, by decide +kernel⟩

theorem witness_FaultHandling_bridle : ∃ (s : State),
    s.power.off = false :=
  ⟨State.reset, by decide +kernel⟩

theorem witness_FaultHandling_bridleOff : ∃ (s : State),
    s.power.off = true :=
  ⟨{ State.reset with power := { State.reset.power with off := true } }, by decide +kernel⟩

theorem witness_StepRunsTheFront_front : ∃ (c : Instr) (l : List Instr) (s : State),
    s.pending = c :: l :=
  ⟨.bringupRetry, [], { State.reset with pending := [.bringupRetry] }, by decide +kernel⟩

theorem witness_StepRunsTheFront_idle : ∃ (s : State),
    s.pending = [] :=
  ⟨State.reset, by decide +kernel⟩

theorem witness_CountersSaturateOrWrap_wraps : ∃ (o : Obj),
    o.ty = .u64 :=
  ⟨Reg.PUSHES, by decide +kernel⟩

theorem witness_CountersSaturateOrWrap_saturates : ∃ (o : Obj),
    o.ty ≠ .u64 :=
  ⟨Reg.FEED_OV, by decide +kernel⟩

theorem witness_CountersSaturateOrWrap_holds : ∃ (o : Obj) (s : State),
    o.ty ≠ .u64 ∧ s.reg o = 2 ^ (8 * o.ty.bytes) - 1 :=
  ⟨Reg.FEED_OV, { State.reset with regs := [(Reg.FEED_OV.key, 2 ^ (8 * Reg.FEED_OV.ty.bytes) - 1)] },
    by decide +kernel⟩

theorem witness_CountersSaturateOrWrap_alone : ∃ (o : Obj) (p : Obj),
    o.key ≠ p.key :=
  ⟨Reg.PUSHES, Reg.FEED_OV, by decide +kernel⟩

theorem witness_TraceFactor_power : ∃ (dt : Nat),
    1 ≤ dt ∧ dt ≤ 63 :=
  ⟨5, by decide +kernel⟩

theorem witness_RoundingIsToNearest_near : ∃ (s : Nat),
    0 < s :=
  ⟨1, by decide +kernel⟩

theorem witness_RoundingIsToNearest_ties : ∃ (x : Int) (s : Nat),
    0 < s ∧ 2 * (rnd x s * 2 ^ s - x).natAbs = 2 ^ s :=
  ⟨-3, 1, by decide +kernel⟩

theorem witness_AccessOutsideEveryRegion_outcome : ∃ (a : Nat) (s : State),
    regionOf s.variant a = .nothing :=
  ⟨0x2000000, State.reset, by decide +kernel⟩

theorem witness_AccessOutsideEveryRegion_beyond : ∃ (v : Variant) (a : Nat),
    ddrBase + v.usable ≤ a :=
  ⟨.d32, 0x1780000000, by decide +kernel⟩

theorem witness_TackRoomIsDenied_read : ∃ (m : Master) (a : Nat) (off : Nat) (s : State),
    regionOf s.variant a = .tack off ∧ reachesTack m = false ∧ m ≠ .saddle :=
  ⟨.host, tackBase + 64, 64, { State.reset with mem := [(tackBase + 64, 9)] }, by decide +kernel⟩

theorem witness_TackRoomIsDenied_write : ∃ (m : Master) (a : Nat) (off : Nat) (s : State),
    regionOf s.variant a = .tack off ∧ reachesTack m = false ∧ m ≠ .saddle :=
  ⟨.sequencer 3, tackBase + 64, 64, { State.reset with mem := [(tackBase + 64, 9)] }, by decide +kernel⟩

theorem witness_TackRoomIsDenied_saddleRead : ∃ (a : Nat) (off : Nat) (s : State),
    regionOf s.variant a = .tack off :=
  ⟨tackBase + 64, 64, { State.reset with mem := [(tackBase + 64, 9)] }, by decide +kernel⟩

theorem witness_TackRoomIsDenied_saddleWrite : ∃ (a : Nat) (off : Nat) (s : State),
    regionOf s.variant a = .tack off :=
  ⟨tackBase + 64, 64, { State.reset with mem := [(tackBase + 64, 9)] }, by decide +kernel⟩

theorem witness_EventsMergeOnlyWhereTheyAgree_agree : ∃ (s : State) (l : List CombineEntry) (ev : Event) (a : Arrival),
    arrive (s.mergeable ev) l ev = some a ∧ (a.merged = true ∨ a.split = true) :=
  ⟨{ State.reset with regs := [(Reg.COMBINE_CLS.key, 3)] }, [⟨{ word := 0 }, true, 0⟩], { word := 0 }, { entries :=
                                                                                                           [⟨{ word :=
                                                                                                                 0 },
                                                                                                           true, 0⟩],
                                                                                                           merged :=
                                                                                                           true },
    by decide +kernel⟩

theorem witness_EventsMergeOnlyWhereTheyAgree_never : ∃ (s : State) (l : List CombineEntry) (ev : Event) (a : Arrival),
    (2 ≤ ev.cls ∨ ev.payBad = true) ∧ arrive (s.mergeable ev) l ev = some a :=
  ⟨State.reset, [], { word := 0, payBad := true }, { entries := [⟨{ word := 0, payBad := true }, false, 0⟩] },
    by decide +kernel⟩

theorem witness_PushStoresTheEntry_stored : ∃ (m : Master) (q : QueueId) (s : State),
    s.canonical = true ∧ ¬ (m = .saddle ∧ isBridleQueue q.val = true) ∧ (s.queue q.val).mismatch = false ∧ ((s.queue
      q.val).kind = .data ∨ (s.queue q.val).kind = .command) ∧ (s.queue q.val).qstate ≠ .unbound ∧ (s.queue
      q.val).qstate ≠ .closed ∧ mayProduce m q.val (s.queue q.val) = true ∧ (s.queue q.val).isFull = false :=
  ⟨.host, 3, { State.reset with queues := [(3, { kind := .data, log2n := 1, base := 0x1000, prod := 0x13, cons :=
                                                   0x13, qstate := .enabled, wpA := 1, wpB := 0x1FFFE })] },
    by decide +kernel⟩

theorem witness_CommonsReadAfterWrite_readBack : ∃ (m : Master) (m' : Master) (a : Nat) (k : Nat) (off : Nat) (data : List Byte) (s : State),
    s.canonical = true ∧ regionOf s.variant a = .commons k off ∧ data.length ∈ [4, 8, 16, 32, 64] ∧ a % data.length =
      0 ∧ (a < firmwareArea ∨ (reachesFirmware m = true ∧ reachesFirmware m' = true)) :=
  ⟨.host, .sequencer 3, 0x1000, 0, 0x1000, [1, 0, 3, 4], { State.reset with mem := [(0x1001, 9)] }, by decide +kernel⟩

theorem witness_FaultLogRing_room : ∃ (s : State),
    s.flog.length < 1024 :=
  ⟨State.reset, by decide +kernel⟩

theorem witness_FaultLogRing_full : ∃ (s : State),
    s.flog.length = 1024 :=
  ⟨{ State.reset with flog := List.replicate 1024 { seq := 1, sev := .info, status := .ok, source := 0, cls := .other,
                                                      time := 0, step := 0, unit := 0, sub := 0, ref := 0 } },
    by decide +kernel⟩

theorem witness_CompletionRecord_stored : ∃ (n : Nat) (r : RunCmd) (st : Status) (s : State),
    s.canonical = true ∧ isFirmwareQueue r.queue = false ∧ (s.queue r.queue).link ≠ r.queue ∧ (cmdCmpl r.cmd = true ∨
      st ≠ .ok) ∧ s.recordRefused r = false ∧ (s.queue (s.queue r.queue).link).isFull = false ∧ (s.queue (s.queue
      r.queue).link).mismatch = false ∧ ((s.engine n).held.any fun h => h.run.queue == r.queue) = false :=
  ⟨2, run 0x30 [(1, 1, 1)], .ok, ran 2 0x30 [(1, 1, 1)], by decide +kernel⟩

theorem witness_CompletionRecord_held : ∃ (r : RunCmd) (st : Status) (s : State),
    isFirmwareQueue r.queue = false ∧ (s.queue r.queue).link ≠ r.queue ∧ (cmdCmpl r.cmd = true ∨ st ≠ .ok) ∧
      s.recordRefused r = false ∧ (s.queue (s.queue r.queue).link).isFull = true :=
  ⟨run 0x30 [(1, 1, 1)], .refused, { ran 2 0x30 [(1, 1, 1)] with queues := [(3, { cq 2 with
                                                                               outstanding := 1 }), (4, { done
                                                                               with wpA := 16, wpB := 0x1FFEF })] },
    by decide +kernel⟩

theorem witness_CommandsKeepTheQueue_kept : ∃ (c : Instr) (s : State) (t : State),
    exec c s = .next t :=
  ⟨.bringupRetry, State.reset, State.reset, rfl⟩

theorem witness_EveryStepKeepsTheInvariant_kept : ∃ (s : State) (t : State),
    s.inv = true ∧ step s = .next t :=
  ⟨State.reset, State.reset.idle, by decide, rfl⟩

theorem witness_EngineCommandsNotRunning_stepIdle : ∃ (s : State),
    s.runningOp 0 .step = none :=
  ⟨State.reset, by decide +kernel⟩

theorem witness_EngineCommandsNotRunning_gaitIdle : ∃ (s : State),
    s.runningOp 0 .gait = none :=
  ⟨State.reset, by decide +kernel⟩

theorem witness_EngineCommandsNotRunning_learnEpochIdle : ∃ (s : State),
    s.runningOp 0 .learnEpoch = none :=
  ⟨State.reset, by decide +kernel⟩

theorem witness_EngineCommandsNotRunning_frcInvalidateIdle : ∃ (s : State),
    s.runningOp 6 .frcInvalidate = none :=
  ⟨State.reset, by decide +kernel⟩

theorem witness_EngineCommandsNotRunning_checkpointIdle : ∃ (s : State),
    s.runningOp 0 .checkpoint = none :=
  ⟨State.reset, by decide +kernel⟩

theorem witness_EngineCommandsNotRunning_restoreIdle : ∃ (s : State),
    s.runningOp 0 .restore = none :=
  ⟨State.reset, by decide +kernel⟩

theorem witness_EngineCommandsNotRunning_loadSegmentIdle : ∃ (s : State),
    s.runningOp 0 .loadSegment = none :=
  ⟨State.reset, by decide +kernel⟩

theorem witness_EngineCommandsNotRunning_harnessLoadIdle : ∃ (s : State),
    s.runningOp 0 .harnessLoad = none :=
  ⟨State.reset, by decide +kernel⟩

theorem witness_EngineCommandsNotRunning_harnessUnloadIdle : ∃ (s : State),
    s.runningOp 0 .harnessUnload = none :=
  ⟨State.reset, by decide +kernel⟩

theorem witness_EngineCommandsNotRunning_denseGemmIdle : ∃ (s : State),
    s.runningOp 1 .gemm = none :=
  ⟨State.reset, by decide +kernel⟩

theorem witness_EngineCommandsNotRunning_denseConvIdle : ∃ (s : State),
    s.runningOp 1 .conv = none :=
  ⟨State.reset, by decide +kernel⟩

theorem witness_EngineCommandsNotRunning_moveIdle : ∃ (s : State),
    s.runningOp 2 .move = none :=
  ⟨State.reset, by decide +kernel⟩

theorem witness_EngineCommandsNotRunning_fillIdle : ∃ (s : State),
    s.runningOp 2 .fill = none :=
  ⟨State.reset, by decide +kernel⟩

theorem witness_EngineCommandsNotRunning_groupDefIdle : ∃ (s : State),
    s.runningOp 4 .groupDef = none :=
  ⟨State.reset, by decide +kernel⟩

theorem witness_EngineCommandsNotRunning_groupClearIdle : ∃ (s : State),
    s.runningOp 4 .groupClear = none :=
  ⟨State.reset, by decide +kernel⟩

theorem witness_EngineCommandsNotRunning_tilestatIdle : ∃ (s : State),
    s.runningOp 4 .tilestat = none :=
  ⟨State.reset, by decide +kernel⟩

theorem witness_EngineCommandsNotRunning_mapLoadIdle : ∃ (s : State),
    s.runningOp 3 .mapLoad = none :=
  ⟨State.reset, by decide +kernel⟩

theorem witness_EngineCommandsNotRunning_armIdle : ∃ (s : State),
    s.runningOp 3 .arm = none :=
  ⟨State.reset, by decide +kernel⟩

theorem witness_EngineCommandsNotRunning_disarmIdle : ∃ (s : State),
    s.runningOp 3 .disarm = none :=
  ⟨State.reset, by decide +kernel⟩

theorem witness_EngineCommandsNotRunning_gcmSealIdle : ∃ (s : State),
    s.runningOp 5 .gcmSeal = none :=
  ⟨State.reset, by decide +kernel⟩

theorem witness_EngineCommandsNotRunning_gcmOpenIdle : ∃ (s : State),
    s.runningOp 5 .gcmOpen = none :=
  ⟨State.reset, by decide +kernel⟩

theorem witness_EngineCommandsNotRunning_sha384Idle : ∃ (s : State),
    s.runningOp 5 .sha384 = none :=
  ⟨State.reset, by decide +kernel⟩

theorem witness_EngineCommandsNotRunning_ecdsaSignIdle : ∃ (s : State),
    s.runningOp 5 .ecdsaSign = none :=
  ⟨State.reset, by decide +kernel⟩

theorem witness_EngineCommandsNotRunning_ecdsaVerifyIdle : ∃ (s : State),
    s.runningOp 5 .ecdsaVerify = none :=
  ⟨State.reset, by decide +kernel⟩

theorem witness_EngineCommandsNotRunning_xtsKeysetIdle : ∃ (s : State),
    s.runningOp 5 .xtsKeyset = none :=
  ⟨State.reset, by decide +kernel⟩

theorem witness_AliasNeuronTableAndScrub_setAlias : ∃ (addr : Nat) (data : List Byte),
    (data.length = 4 ∨ data.length = 8) ∧ addr % data.length = 0 ∧ addr % 0x80000 < 0x78000 :=
  ⟨0x77FF8, [1, 2, 3, 4, 5, 6, 7, 255], by decide +kernel⟩

theorem witness_AliasNeuronTableAndScrub_setAliasBlocks : ∃ (addr : Nat) (data : List Byte),
    (data.length = 4 ∨ data.length = 8) ∧ addr % data.length = 0 ∧ 0x78000 ≤ addr % 0x80000 :=
  ⟨0x78000, [1, 2, 3, 4], by decide +kernel⟩

theorem witness_AliasNeuronTableAndScrub_setAliasWidth : ∃ (addr : Nat) (data : List Byte),
    ¬ ((data.length = 4 ∨ data.length = 8) ∧ addr % data.length = 0) :=
  ⟨4, [1, 2, 3, 4, 5, 6, 7, 255], by decide +kernel⟩

theorem witness_AliasNeuronTableAndScrub_clearAlias : ∃ (addr : Nat) (data : List Byte),
    (data.length = 4 ∨ data.length = 8) ∧ addr % data.length = 0 ∧ addr % 0x80000 < 0x78000 :=
  ⟨0x77FF8, [1, 2, 3, 4, 5, 6, 7, 255], by decide +kernel⟩

theorem witness_AliasNeuronTableAndScrub_clearAliasBlocks : ∃ (addr : Nat) (data : List Byte),
    (data.length = 4 ∨ data.length = 8) ∧ addr % data.length = 0 ∧ 0x78000 ≤ addr % 0x80000 :=
  ⟨0x78000, [1, 2, 3, 4], by decide +kernel⟩

theorem witness_AliasNeuronTableAndScrub_clearAliasWidth : ∃ (addr : Nat) (data : List Byte),
    ¬ ((data.length = 4 ∨ data.length = 8) ∧ addr % data.length = 0) :=
  ⟨4, [1, 2, 3, 4, 5, 6, 7, 255], by decide +kernel⟩

theorem witness_AliasNeuronTableAndScrub_neuronWord : ∃ (m : Master) (c : ClusterId) (tl : TileId) (i : Fin 16384) (v : BitVec 64) (off : Nat) (s : State),
    i.val < (s.tile c.val tl.val).map.n ∧ regionOf s.variant (s.neuronAddr c.val tl.val i.val) = .tile c.val tl.val
      off ∧ off < 0x60000 ∧ s.neuronAddr c.val tl.val i.val % 8 = 0 ∧ s.tilePart c.val tl.val off = .neuron i.val ∧
      reachesTiles m = true ∧ s.isFenced c.val tl.val = false ∧ s.fabricBusy = false ∧ (s.classAt (s.neuron c.val
      tl.val i.val).cls s.fabric.learned).precise = (s.classAt (Neuron.ofWord v.toNat).cls s.fabric.learned).precise ∧
      ((s.classAt (s.neuron c.val tl.val i.val).cls s.fabric.learned).bias = 0 ↔ (s.classAt (Neuron.ofWord
      v.toNat).cls s.fabric.learned).bias = 0) :=
  ⟨.host, 1, 2, 0, BitVec.ofNat 64 (2 ^ 64 - 1), 0, { State.reset with tiles := [(66, { map := { n := 1 } })] },
    by decide +kernel⟩

theorem witness_AliasNeuronTableAndScrub_neuronRefused : ∃ (m : Master) (c : ClusterId) (tl : TileId) (i : Fin 16384) (v : BitVec 64) (off : Nat) (s : State),
    i.val < (s.tile c.val tl.val).map.n ∧ regionOf s.variant (s.neuronAddr c.val tl.val i.val) = .tile c.val tl.val
      off ∧ off < 0x60000 ∧ s.neuronAddr c.val tl.val i.val % 8 = 0 ∧ s.tilePart c.val tl.val off = .neuron i.val ∧
      reachesTiles m = true ∧ s.isFenced c.val tl.val = false ∧ (s.fabricBusy = true ∨
           (s.classAt (s.neuron c.val tl.val i.val).cls s.fabric.learned).precise ≠ (s.classAt (Neuron.ofWord
             v.toNat).cls s.fabric.learned).precise ∨
           ¬ ((s.classAt (s.neuron c.val tl.val i.val).cls s.fabric.learned).bias = 0 ↔ (s.classAt (Neuron.ofWord
             v.toNat).cls s.fabric.learned).bias = 0)) :=
  ⟨.host, 1, 2, 0, BitVec.ofNat 64 (2 ^ 64 - 1), 0, { State.reset with tiles := [(66, { map := { n := 1 } })], fabric
                                                                         := { hold := [0] } }, by decide +kernel⟩

theorem witness_AliasNeuronTableAndScrub_neuronFenced : ∃ (m : Master) (c : ClusterId) (tl : TileId) (i : Fin 16384) (off : Nat) (s : State),
    i.val < (s.tile c.val tl.val).map.n ∧ regionOf s.variant (s.neuronAddr c.val tl.val i.val) = .tile c.val tl.val
      off ∧ off < 0x60000 ∧ s.neuronAddr c.val tl.val i.val % 8 = 0 ∧ s.tilePart c.val tl.val off = .neuron i.val ∧
      reachesTiles m = true ∧ s.isFenced c.val tl.val = true :=
  ⟨.host, 1, 2, 0, 0, { State.reset with tiles := [(66, { map := { n := 1 } })], regs := [((Reg.TILES_FENCED 1).key,
                                           4)] }, by decide +kernel⟩

theorem witness_AliasNeuronTableAndScrub_neuronDenied : ∃ (m : Master) (c : ClusterId) (tl : TileId) (i : Fin 16384) (off : Nat) (s : State),
    i.val < (s.tile c.val tl.val).map.n ∧ regionOf s.variant (s.neuronAddr c.val tl.val i.val) = .tile c.val tl.val
      off ∧ off < 0x60040 ∧ reachesTiles m = false :=
  ⟨.sequencer 1, 1, 2, 0, 0, { State.reset with tiles := [(66, { map := { n := 1 } })] }, by decide +kernel⟩

theorem witness_AliasNeuronTableAndScrub_neuronNone : ∃ (c : ClusterId) (tl : TileId) (i : Fin 16384) (s : State),
    (s.tile c.val tl.val).map.n ≤ i.val :=
  ⟨1, 2, 0, State.reset, by decide +kernel⟩

theorem witness_AliasNeuronTableAndScrub_rowTable : ∃ (m : Master) (addr : Nat) (data : List Byte) (c : Nat) (tl : Nat) (off : Nat) (s : State),
    regionOf s.variant addr = .tile c tl off ∧ s.tilePart c tl off = .tables ∧ off < 0x60000 ∧ (data.length = 4 ∨
      data.length = 8) ∧ addr % data.length = 0 ∧ reachesTiles m = true ∧ s.isFenced c tl = false ∧ s.fabricBusy =
      false :=
  ⟨.host, 0x100000100, [1, 2, 3, 4], 0, 0, 0x100, { State.reset with tiles := [(0, { map := { n := 1, axonBase := 256
                                                                                                } })] },
    by decide +kernel⟩

theorem witness_AliasNeuronTableAndScrub_rowTableRefused : ∃ (m : Master) (addr : Nat) (data : List Byte) (c : Nat) (tl : Nat) (off : Nat) (s : State),
    regionOf s.variant addr = .tile c tl off ∧ s.tilePart c tl off = .tables ∧ off < 0x60000 ∧ (data.length = 4 ∨
      data.length = 8) ∧ addr % data.length = 0 ∧ reachesTiles m = true ∧ s.isFenced c tl = false ∧ s.fabricBusy =
      true :=
  ⟨.host, 0x100000100, [1, 2, 3, 4], 0, 0, 0x100, { State.reset with tiles := [(0, { map := { n := 1, axonBase := 256
                                                                                                } })], fabric := {
                                                                       hold := [0] } }, by decide +kernel⟩

theorem witness_AliasNeuronTableAndScrub_rowTableFenced : ∃ (m : Master) (addr : Nat) (data : List Byte) (c : Nat) (tl : Nat) (off : Nat) (s : State),
    regionOf s.variant addr = .tile c tl off ∧ s.tilePart c tl off = .tables ∧ off < 0x60000 ∧ (data.length = 4 ∨
      data.length = 8) ∧ addr % data.length = 0 ∧ reachesTiles m = true ∧ s.isFenced c tl = true :=
  ⟨.host, 0x100000100, [1, 2, 3, 4], 0, 0, 0x100, { State.reset with tiles := [(0, { map := { n := 1, axonBase := 256
                                                                                                } })], regs :=
                                                                       [((Reg.TILES_FENCED 0).key, 1)] },
    by decide +kernel⟩

theorem witness_AliasNeuronTableAndScrub_rowTableDenied : ∃ (m : Master) (addr : Nat) (c : Nat) (tl : Nat) (off : Nat) (s : State),
    regionOf s.variant addr = .tile c tl off ∧ s.tilePart c tl off = .tables ∧ off < 0x60000 ∧ reachesTiles m = false :=
  ⟨.sequencer 1, 0x100000100, 0, 0, 0x100, { State.reset with tiles := [(0, { map := { n := 1, axonBase := 256 } })]
                                                                }, by decide +kernel⟩

theorem witness_AliasNeuronTableAndScrub_directory : ∃ (m : Master) (addr : Nat) (data : List Byte) (c : Nat) (off : Nat) (s : State),
    regionOf s.variant addr = .ddr off ∧ s.farDirOwner addr = some c ∧ s.denial m true addr = none ∧ data.length ∈ [8,
      16, 32, 64] ∧ addr % data.length = 0 ∧ s.fabricBusy = false :=
  ⟨.host, 0x1000000008, [1, 0, 0, 0, 0, 0, 0, 0], 1, 8, { State.reset with security := { xtsOwner := some 1 }, tiles
                                                                             := [(66, { map := { n := 1, farBase :=
                                                                                                   [0x1000000000, 0,
                                                                                                   0, 0], farCount :=
                                                                                                   [2, 0, 0, 0] } })]
                                                                             }, by decide +kernel⟩

theorem witness_AliasNeuronTableAndScrub_directoryRefused : ∃ (m : Master) (addr : Nat) (data : List Byte) (c : Nat) (off : Nat) (s : State),
    regionOf s.variant addr = .ddr off ∧ s.farDirOwner addr = some c ∧ s.denial m true addr = none ∧ data.length ∈ [8,
      16, 32, 64] ∧ addr % data.length = 0 ∧ s.fabricBusy = true :=
  ⟨.host, 0x1000000008, [1, 0, 0, 0, 0, 0, 0, 0], 1, 8, { State.reset with security := { xtsOwner := some 1 }, tiles
                                                                             := [(66, { map := { n := 1, farBase :=
                                                                                                   [0x1000000000, 0,
                                                                                                   0, 0], farCount :=
                                                                                                   [2, 0, 0, 0] } })],
                                                                             fabric := { hold := [0] } },
    by decide +kernel⟩

theorem witness_AliasNeuronTableAndScrub_noTable : ∃ (addr : Nat) (s : State),
    s.tableAt addr = false :=
  ⟨8, State.reset, by decide +kernel⟩

theorem witness_AliasNeuronTableAndScrub_scrub : ∃ (line : Nat) (s : State),
    s.reg Reg.DDR_STATE = 2 ∧ line * 64 < s.variant.usable :=
  ⟨1006632959, { State.reset with regs := [(Reg.DDR_STATE.key, 2)] }, by decide +kernel⟩

theorem witness_AliasNeuronTableAndScrub_scrubNone : ∃ (line : Nat) (s : State),
    (s.reg Reg.DDR_STATE ≠ 2 ∨ s.variant.usable ≤ line * 64) :=
  ⟨0, State.reset, by decide +kernel⟩

theorem witness_ObjectCommands_classCommit : ∃ (path : Path) (k : ClassId) (s : State),
    s.accessStatus path true (0x3100 + k.val) 0x20 = .ok ∧ (s.stagedClass k.val).invalid = none ∧ (s.stagedClass
      k.val).precise = (s.classAt k.val (s.reg Reg.STEP_RELEASED + 1)).precise ∧ ((s.stagedClass k.val).bias = 0 ↔
      (s.classAt k.val (s.reg Reg.STEP_RELEASED + 1)).bias = 0) :=
  ⟨.sys, 255, State.reset, by decide +kernel⟩

theorem witness_ObjectCommands_classInvalid : ∃ (path : Path) (k : ClassId) (sub : Nat) (s : State),
    s.accessStatus path true (0x3100 + k.val) 0x20 = .ok ∧ (s.stagedClass k.val).invalid = some sub :=
  ⟨.sys, 255, 2, { State.reset with regs := [((Reg.REST 255).key, 4096)] }, by decide +kernel⟩

theorem witness_ObjectCommands_classRefused : ∃ (path : Path) (k : ClassId) (s : State),
    s.accessStatus path true (0x3100 + k.val) 0x20 = .ok ∧ (s.stagedClass k.val).invalid = none ∧ ((s.stagedClass
      k.val).precise ≠ (s.classAt k.val (s.reg Reg.STEP_RELEASED + 1)).precise ∨ ¬ ((s.stagedClass k.val).bias = 0 ↔
      (s.classAt k.val (s.reg Reg.STEP_RELEASED + 1)).bias = 0)) :=
  ⟨.sys, 255, { State.reset with regs := [((Reg.BIAS 255).key, 1)] }, by decide +kernel⟩

theorem witness_ObjectCommands_consolNow : ∃ (path : Path) (s : State),
    s.accessStatus path true 0x3500 8 = .ok :=
  ⟨.sys, State.reset, by decide +kernel⟩

theorem witness_ObjectCommands_consolBad : ∃ (path : Path) (v : BitVec 8) (s : State),
    s.accessStatus path true 0x3500 8 = .ok ∧ v ≠ 1 :=
  ⟨.sys, 0, State.reset, by decide +kernel⟩

theorem witness_ObjectCommands_restoreDefaults : ∃ (path : Path) (s : State),
    s.accessStatus path true 0x1011 1 = .ok :=
  ⟨.sys, State.reset, by decide +kernel⟩

theorem witness_ObjectCommands_restoreBad : ∃ (path : Path) (v : BitVec 32) (s : State),
    s.accessStatus path true 0x1011 1 = .ok ∧ v ≠ 0x64616F6C :=
  ⟨.sys, 0, State.reset, by decide +kernel⟩

theorem witness_ObjectCommands_flogClear : ∃ (path : Path) (s : State),
    s.accessStatus path true 0x7000 4 = .ok :=
  ⟨.sys, State.reset, by decide +kernel⟩

theorem witness_ObjectCommands_flogBad : ∃ (path : Path) (v : BitVec 8) (s : State),
    s.accessStatus path true 0x7000 4 = .ok ∧ v ≠ 1 :=
  ⟨.sys, 0, State.reset, by decide +kernel⟩

theorem witness_ObjectCommands_dumpNow : ∃ (path : Path) (s : State),
    s.accessStatus path true 0x7020 3 = .ok :=
  ⟨.sys, { State.reset with regs := [(Reg.DDR_STATE.key, 2)] }, by decide +kernel⟩

theorem witness_ObjectCommands_dumpBad : ∃ (path : Path) (v : BitVec 8) (s : State),
    s.accessStatus path true 0x7020 3 = .ok ∧ v ≠ 1 :=
  ⟨.sys, 0, State.reset, by decide +kernel⟩

theorem witness_ObjectCommands_farrierNow : ∃ (path : Path) (s : State),
    s.accessStatus path true 0x2330 2 = .ok :=
  ⟨.sys, State.reset, by decide +kernel⟩

theorem witness_ObjectCommands_farrierBad : ∃ (path : Path) (v : BitVec 8) (s : State),
    s.accessStatus path true 0x2330 2 = .ok ∧ v ≠ 1 :=
  ⟨.sys, 0, State.reset, by decide +kernel⟩

theorem witness_ObjectCommands_acctMode : ∃ (path : Path) (v : BitVec 8) (s : State),
    s.accessStatus path true 0x2100 0x19 = .ok ∧ v.toNat ≤ 1 :=
  ⟨.sys, 1, State.reset, by decide +kernel⟩

theorem witness_ObjectCommands_acctBad : ∃ (path : Path) (v : BitVec 8) (s : State),
    s.accessStatus path true 0x2100 0x19 = .ok ∧ 1 < v.toNat :=
  ⟨.sys, 2, State.reset, by decide +kernel⟩

theorem witness_ObjectCommands_historyClear : ∃ (path : Path) (s : State),
    s.accessStatus path true 0x1003 0 = .ok :=
  ⟨.sys, State.reset, by decide +kernel⟩

theorem witness_ObjectCommands_historyBad : ∃ (path : Path) (v : BitVec 8) (s : State),
    s.accessStatus path true 0x1003 0 = .ok ∧ v ≠ 0 :=
  ⟨.sys, 1, State.reset, by decide +kernel⟩

theorem witness_ObjectCommands_reinOverride : ∃ (path : Path) (p : PortId) (v : BitVec 8) (s : State),
    s.accessStatus path true (0x2710 + p.val) 6 = .ok ∧ v.toNat ≤ 2 ∧ s.reg Reg.PWR_STATE = 0 :=
  ⟨.sys, 5, 1, State.reset, by decide +kernel⟩

theorem witness_ObjectCommands_reinOverrideSleep : ∃ (path : Path) (p : PortId) (v : BitVec 8) (s : State),
    s.accessStatus path true (0x2710 + p.val) 6 = .ok ∧ v.toNat ≤ 2 ∧ s.reg Reg.PWR_STATE ≠ 0 :=
  ⟨.sys, 5, 1, { State.reset with regs := [(Reg.PWR_STATE.key, 1)] }, by decide +kernel⟩

theorem witness_ObjectCommands_overrideBad : ∃ (path : Path) (p : PortId) (v : BitVec 8) (s : State),
    s.accessStatus path true (0x2710 + p.val) 6 = .ok ∧ 2 < v.toNat :=
  ⟨.sys, 0, 3, State.reset, by decide +kernel⟩

theorem witness_GeneralTimers_perDirect : ∃ (path : Path) (k : TimerId) (s : State),
    s.accessStatus path true (0x2210 + k.val) 2 = .ok ∧ s.bit (Reg.GCTRL k.val) 1 = true :=
  ⟨.sys, 7, { State.reset with regs := [((Reg.GCTRL 7).key, 2)] }, by decide +kernel⟩

theorem witness_GeneralTimers_perPreload : ∃ (path : Path) (k : TimerId) (s : State),
    s.accessStatus path true (0x2210 + k.val) 2 = .ok ∧ s.bit (Reg.GCTRL k.val) 1 = false :=
  ⟨.sys, 7, State.reset, by decide +kernel⟩

theorem witness_GeneralTimers_cmpDirect : ∃ (path : Path) (k : TimerId) (s : State),
    s.accessStatus path true (0x2210 + k.val) 3 = .ok ∧ s.bit (Reg.GCTRL k.val) 1 = true :=
  ⟨.sys, 0, { State.reset with regs := [((Reg.GCTRL 0).key, 2)] }, by decide +kernel⟩

theorem witness_GeneralTimers_cmpPreload : ∃ (path : Path) (k : TimerId) (s : State),
    s.accessStatus path true (0x2210 + k.val) 3 = .ok ∧ s.bit (Reg.GCTRL k.val) 1 = false :=
  ⟨.sys, 7, State.reset, by decide +kernel⟩

theorem witness_GeneralTimers_disable : ∃ (path : Path) (k : TimerId) (v : BitVec 32) (s : State),
    s.accessStatus path true (0x2210 + k.val) 1 = .ok ∧ bitField v.toNat 5 11 = 0 ∧ natBit v.toNat 0 = false :=
  ⟨.sys, 7, 4, { State.reset with regs := [((Reg.CNT 7).key, 2)] }, by decide +kernel⟩

theorem witness_GeneralTimers_enable : ∃ (path : Path) (k : TimerId) (v : BitVec 32) (s : State),
    s.accessStatus path true (0x2210 + k.val) 1 = .ok ∧ bitField v.toNat 5 11 = 0 ∧ natBit v.toNat 0 = true :=
  ⟨.sys, 7, 5, State.reset, by decide +kernel⟩

theorem witness_GeneralTimers_gctrlBad : ∃ (path : Path) (k : TimerId) (v : BitVec 32) (s : State),
    s.accessStatus path true (0x2210 + k.val) 1 = .ok ∧ bitField v.toNat 5 11 ≠ 0 :=
  ⟨.sys, 7, 0x8000, State.reset, by decide +kernel⟩

theorem witness_GeneralTimers_tick : ∃ (k : TimerId) (s : State),
    s.bit (Reg.GCTRL k.val) 0 = true ∧ (s.timer k.val).matched = false ∧ (s.timer k.val).wrapped = false ∧
      s.timersFrozen = false ∧ (s.timer k.val).tickAt + s.tickNs k.val ≤ s.clock ∧ s.reg (Reg.CNT k.val) < s.reg
      (Reg.PER k.val) :=
  ⟨7, { State.reset with clock := 10, regs := (Assoc.set (Reg.PER 7).key 1 (Assoc.set (Reg.GCTRL 7).key 1 [])) },
    by decide +kernel⟩

theorem witness_GeneralTimers_tickWraps : ∃ (k : TimerId) (s : State),
    s.bit (Reg.GCTRL k.val) 0 = true ∧ (s.timer k.val).matched = false ∧ (s.timer k.val).wrapped = false ∧
      s.timersFrozen = false ∧ (s.timer k.val).tickAt + s.tickNs k.val ≤ s.clock ∧ s.reg (Reg.CNT k.val) = s.reg
      (Reg.PER k.val) :=
  ⟨0, { State.reset with clock := 10, regs := (Assoc.set (Reg.CNT 0).key 4294967295 (Assoc.set (Reg.PER 0).key
                           4294967295 (Assoc.set (Reg.GCTRL 0).key 1 []))) }, by decide +kernel⟩

theorem witness_GeneralTimers_tickShort : ∃ (k : TimerId) (s : State),
    s.bit (Reg.GCTRL k.val) 0 = true ∧ (s.timer k.val).matched = false ∧ (s.timer k.val).wrapped = false ∧
      s.timersFrozen = false ∧ (s.timer k.val).tickAt + s.tickNs k.val ≤ s.clock ∧ s.reg (Reg.PER k.val) < s.reg
      (Reg.CNT k.val) :=
  ⟨0, { State.reset with clock := 10, regs := (Assoc.set (Reg.CNT 0).key 6 (Assoc.set (Reg.PER 0).key 5 (Assoc.set
                           (Reg.GCTRL 0).key 1 []))) }, by decide +kernel⟩

theorem witness_GeneralTimers_tickWaits : ∃ (k : TimerId) (s : State),
    (s.bit (Reg.GCTRL k.val) 0 = false ∨ (s.timer k.val).matched = true ∨ (s.timer k.val).wrapped = true ∨
      s.timersFrozen = true ∨ s.clock < (s.timer k.val).tickAt + s.tickNs k.val) :=
  ⟨0, State.reset, by decide +kernel⟩

theorem witness_GeneralTimers_match : ∃ (k : TimerId) (s : State),
    (s.timer k.val).matched = true :=
  ⟨7, { State.reset with regs := [((Reg.GCTRL 7).key, 5)], timing := { timers := [(7, { matched := true })] } },
    by decide +kernel⟩

theorem witness_GeneralTimers_matchNot : ∃ (k : TimerId) (s : State),
    (s.timer k.val).matched = false :=
  ⟨7, State.reset, by decide +kernel⟩

theorem witness_GeneralTimers_wrap : ∃ (k : TimerId) (s : State),
    (s.timer k.val).wrapped = true ∧ (s.timer k.val).matched = false :=
  ⟨7, { State.reset with regs := [((Reg.GSTAT 7).key, 0x30)], timing := { timers := [(7, { wrapped := true, perPl :=
                                                                                             6, cmpPl := 7, cmpLate :=
                                                                                             true })] } },
    by decide +kernel⟩

theorem witness_GeneralTimers_wrapNot : ∃ (k : TimerId) (s : State),
    ((s.timer k.val).wrapped = false ∨ (s.timer k.val).matched = true) :=
  ⟨7, State.reset, by decide +kernel⟩

theorem witness_GeneralTimers_makeup : ∃ (e : Nat) (s : State),
    s.timing.frozen = some e ∧ s.reg Reg.PWR_STATE = 0 ∧ s.timing.dueEdge ≤ slowCount s.now :=
  ⟨1, { State.reset with now := 1000000, regs := (Assoc.set (Reg.PER 0).key 99 (Assoc.set (Reg.GCTRL 0).key 1 [])),
                           timing := { frozen := some 1, carry := 63 } }, by decide +kernel⟩

theorem witness_GeneralTimers_makeupNot : ∃ (s : State),
    (s.timing.frozen = none ∨ s.reg Reg.PWR_STATE ≠ 0 ∨ slowCount s.now < s.timing.dueEdge) :=
  ⟨State.reset, by decide +kernel⟩

theorem witness_DictionaryAccessDenied_classCommit : ∃ (path : Path) (k : ClassId) (st : Status) (s : State),
    s.accessStatus path true (0x3100 + k.val) 0x20 = st ∧ st ≠ .ok :=
  ⟨.usb, 1, .refused, State.reset, by decide +kernel⟩

theorem witness_DictionaryAccessDenied_consolNow : ∃ (path : Path) (st : Status) (s : State),
    s.accessStatus path true 0x3500 8 = st ∧ st ≠ .ok :=
  ⟨.usb, .refused, State.reset, by decide +kernel⟩

theorem witness_DictionaryAccessDenied_restoreDefaults : ∃ (path : Path) (st : Status) (s : State),
    s.accessStatus path true 0x1011 1 = st ∧ st ≠ .ok :=
  ⟨.usb, .refused, State.reset, by decide +kernel⟩

theorem witness_DictionaryAccessDenied_flogClear : ∃ (path : Path) (st : Status) (s : State),
    s.accessStatus path true 0x7000 4 = st ∧ st ≠ .ok :=
  ⟨.usb, .refused, State.reset, by decide +kernel⟩

theorem witness_DictionaryAccessDenied_dumpNow : ∃ (path : Path) (st : Status) (s : State),
    s.accessStatus path true 0x7020 3 = st ∧ st ≠ .ok :=
  ⟨.usb, .refused, State.reset, by decide +kernel⟩

theorem witness_DictionaryAccessDenied_farrierNow : ∃ (path : Path) (st : Status) (s : State),
    s.accessStatus path true 0x2330 2 = st ∧ st ≠ .ok :=
  ⟨.usb, .refused, State.reset, by decide +kernel⟩

theorem witness_DictionaryAccessDenied_acctModeWrite : ∃ (path : Path) (st : Status) (s : State),
    s.accessStatus path true 0x2100 0x19 = st ∧ st ≠ .ok :=
  ⟨.usb, .refused, State.reset, by decide +kernel⟩

theorem witness_DictionaryAccessDenied_emcyHistoryClear : ∃ (path : Path) (st : Status) (s : State),
    s.accessStatus path true 0x1003 0 = st ∧ st ≠ .ok :=
  ⟨.usb, .refused, State.reset, by decide +kernel⟩

theorem witness_DictionaryAccessDenied_reinOverrideWrite : ∃ (path : Path) (p : PortId) (st : Status) (s : State),
    s.accessStatus path true (0x2710 + p.val) 6 = st ∧ st ≠ .ok :=
  ⟨.usb, 0, .refused, State.reset, by decide +kernel⟩

theorem witness_DictionaryAccessDenied_routeArm : ∃ (path : Path) (st : Status) (s : State),
    s.accessStatus path true 0x3300 3 = st ∧ st ≠ .ok :=
  ⟨.usb, .refused, State.reset, by decide +kernel⟩

theorem witness_DictionaryAccessDenied_routeDisarm : ∃ (path : Path) (st : Status) (s : State),
    s.accessStatus path true 0x3300 3 = st ∧ st ≠ .ok :=
  ⟨.usb, .refused, State.reset, by decide +kernel⟩

theorem witness_DictionaryAccessDenied_routeSwitch : ∃ (path : Path) (st : Status) (s : State),
    s.accessStatus path true 0x3300 4 = st ∧ st ≠ .ok :=
  ⟨.usb, .refused, State.reset, by decide +kernel⟩

theorem witness_DictionaryAccessDenied_schedArm : ∃ (path : Path) (st : Status) (s : State),
    s.accessStatus path true 0x3400 0x0C = st ∧ st ≠ .ok :=
  ⟨.usb, .refused, State.reset, by decide +kernel⟩

theorem witness_DictionaryAccessDenied_schedDisarm : ∃ (path : Path) (st : Status) (s : State),
    s.accessStatus path true 0x3400 0x0C = st ∧ st ≠ .ok :=
  ⟨.usb, .refused, State.reset, by decide +kernel⟩

theorem witness_DictionaryAccessDenied_schedSwitch : ∃ (path : Path) (st : Status) (s : State),
    s.accessStatus path true 0x3400 0x0D = st ∧ st ≠ .ok :=
  ⟨.usb, .refused, State.reset, by decide +kernel⟩

theorem witness_DictionaryAccessDenied_timerPerWrite : ∃ (path : Path) (k : TimerId) (st : Status) (s : State),
    s.accessStatus path true (0x2210 + k.val) 2 = st ∧ st ≠ .ok :=
  ⟨.usb, 0, .refused, State.reset, by decide +kernel⟩

theorem witness_DictionaryAccessDenied_timerCmpWrite : ∃ (path : Path) (k : TimerId) (st : Status) (s : State),
    s.accessStatus path true (0x2210 + k.val) 3 = st ∧ st ≠ .ok :=
  ⟨.usb, 0, .refused, State.reset, by decide +kernel⟩

theorem witness_DictionaryAccessDenied_gctrlWrite : ∃ (path : Path) (k : TimerId) (st : Status) (s : State),
    s.accessStatus path true (0x2210 + k.val) 1 = st ∧ st ≠ .ok :=
  ⟨.usb, 0, .refused, State.reset, by decide +kernel⟩

theorem witness_DictionaryAccessDenied_qpolicyWrite : ∃ (path : Path) (st : Status) (s : State),
    s.accessStatus path true 0x2420 3 = st ∧ st ≠ .ok :=
  ⟨.usb, .refused, State.reset, by decide +kernel⟩

theorem witness_DictionaryAccessDenied_retrainFast : ∃ (path : Path) (l : LinkId) (st : Status) (s : State),
    s.accessStatus path true (0x2610 + l.val) 0x0C = st ∧ st ≠ .ok :=
  ⟨.usb, 0, .refused, State.reset, by decide +kernel⟩

theorem witness_DictionaryAccessDenied_retrainFull : ∃ (path : Path) (l : LinkId) (st : Status) (s : State),
    s.accessStatus path true (0x2610 + l.val) 0x0C = st ∧ st ≠ .ok :=
  ⟨.usb, 0, .refused, State.reset, by decide +kernel⟩

theorem witness_DictionaryAccessDenied_retrainRestoreLanes : ∃ (path : Path) (l : LinkId) (st : Status) (s : State),
    s.accessStatus path true (0x2610 + l.val) 0x0C = st ∧ st ≠ .ok :=
  ⟨.usb, 0, .refused, State.reset, by decide +kernel⟩

theorem witness_DictionaryAccessDenied_retrainTakeDown : ∃ (path : Path) (l : LinkId) (st : Status) (s : State),
    s.accessStatus path true (0x2610 + l.val) 0x0C = st ∧ st ≠ .ok :=
  ⟨.usb, 0, .refused, State.reset, by decide +kernel⟩

theorem witness_DictionaryAccessDenied_retrainBringUp : ∃ (path : Path) (l : LinkId) (st : Status) (s : State),
    s.accessStatus path true (0x2610 + l.val) 0x0C = st ∧ st ≠ .ok :=
  ⟨.usb, 0, .refused, State.reset, by decide +kernel⟩

theorem witness_DictionaryAccessDenied_spurSend : ∃ (path : Path) (l : LinkId) (st : Status) (s : State),
    s.accessStatus path true (0x2610 + l.val) 0x0D = st ∧ st ≠ .ok :=
  ⟨.usb, 0, .refused, State.reset, by decide +kernel⟩

theorem witness_LinkControl_fast : ∃ (path : Path) (l : LinkId) (s : State),
    s.accessStatus path true (0x2610 + l.val) 0x0C = .ok ∧ (s.reg (Reg.LINK_STATE l.val) = 2 ∨ s.reg (Reg.LINK_STATE
      l.val) = 3) :=
  ⟨.sys, 2, { State.reset with regs := (Assoc.set (Reg.LINK_STATE 2).key 2 []) }, by decide +kernel⟩

theorem witness_LinkControl_fastParked : ∃ (path : Path) (l : LinkId) (s : State),
    s.accessStatus path true (0x2610 + l.val) 0x0C = .ok ∧ s.reg (Reg.LINK_STATE l.val) = 7 :=
  ⟨.sys, 2, { State.reset with regs := (Assoc.set (Reg.LINK_STATE 2).key 7 []) }, by decide +kernel⟩

theorem witness_LinkControl_fastFresh : ∃ (path : Path) (l : LinkId) (s : State),
    s.accessStatus path true (0x2610 + l.val) 0x0C = .ok ∧ s.reg (Reg.LINK_STATE l.val) ≠ 2 ∧ s.reg (Reg.LINK_STATE
      l.val) ≠ 3 ∧ s.reg (Reg.LINK_STATE l.val) ≠ 4 ∧ s.reg (Reg.LINK_STATE l.val) ≠ 7 :=
  ⟨.sys, 2, { State.reset with regs := (Assoc.set (Reg.LINK_STATE 2).key 5 []) }, by decide +kernel⟩

theorem witness_LinkControl_full : ∃ (path : Path) (l : LinkId) (s : State),
    s.accessStatus path true (0x2610 + l.val) 0x0C = .ok ∧ (s.reg (Reg.LINK_STATE l.val) = 2 ∨ s.reg (Reg.LINK_STATE
      l.val) = 3 ∨ s.reg (Reg.LINK_STATE l.val) = 7) :=
  ⟨.sys, 2, { State.reset with regs := (Assoc.set (Reg.LINK_STATE 2).key 7 []) }, by decide +kernel⟩

theorem witness_LinkControl_fullFresh : ∃ (path : Path) (l : LinkId) (s : State),
    s.accessStatus path true (0x2610 + l.val) 0x0C = .ok ∧ s.reg (Reg.LINK_STATE l.val) ≠ 2 ∧ s.reg (Reg.LINK_STATE
      l.val) ≠ 3 ∧ s.reg (Reg.LINK_STATE l.val) ≠ 4 ∧ s.reg (Reg.LINK_STATE l.val) ≠ 7 :=
  ⟨.sys, 2, { State.reset with regs := (Assoc.set (Reg.LINK_STATE 2).key 0 []) }, by decide +kernel⟩

theorem witness_LinkControl_restoreLanes : ∃ (path : Path) (l : LinkId) (s : State),
    s.accessStatus path true (0x2610 + l.val) 0x0C = .ok ∧ s.reg (Reg.LINK_STATE l.val) = 2 ∧ (s.link l.val).dropped ≠
      0 :=
  ⟨.sys, 2, { State.reset with regs := (Assoc.set (Reg.LINK_STATE 2).key 2 []), tether := { State.reset.tether with
                                 links := [(2, { dropped := 4 })] } }, by decide +kernel⟩

theorem witness_LinkControl_restoreOnly : ∃ (path : Path) (l : LinkId) (s : State),
    s.accessStatus path true (0x2610 + l.val) 0x0C = .ok ∧ s.reg (Reg.LINK_STATE l.val) ≠ 4 ∧ (s.reg (Reg.LINK_STATE
      l.val) ≠ 2 ∨ (s.link l.val).dropped = 0) :=
  ⟨.sys, 2, { State.reset with regs := (Assoc.set (Reg.LINK_STATE 2).key 0 []), tether := { State.reset.tether with
                                 links := [(2, { dropped := 4 })] } }, by decide +kernel⟩

theorem witness_LinkControl_takeDown : ∃ (path : Path) (l : LinkId) (s : State),
    s.accessStatus path true (0x2610 + l.val) 0x0C = .ok ∧ s.reg (Reg.LINK_STATE l.val) ≠ 0 ∧ s.reg (Reg.LINK_STATE
      l.val) ≠ 4 :=
  ⟨.sys, 2, { State.reset with regs := (Assoc.set (Reg.LINK_STATE 2).key 2 []) }, by decide +kernel⟩

theorem witness_LinkControl_isDown : ∃ (path : Path) (l : LinkId) (s : State),
    s.accessStatus path true (0x2610 + l.val) 0x0C = .ok ∧ s.reg (Reg.LINK_STATE l.val) = 0 :=
  ⟨.sys, 2, State.reset, by decide +kernel⟩

theorem witness_LinkControl_bringUp : ∃ (path : Path) (l : LinkId) (s : State),
    s.accessStatus path true (0x2610 + l.val) 0x0C = .ok ∧ s.reg (Reg.LINK_STATE l.val) ≠ 2 ∧ s.reg (Reg.LINK_STATE
      l.val) ≠ 3 ∧ s.reg (Reg.LINK_STATE l.val) ≠ 4 ∧ s.reg (Reg.LINK_STATE l.val) ≠ 7 ∧ s.reg (Reg.LINK_STATE l.val)
      ≠ 1 :=
  ⟨.sys, 2, { State.reset with regs := (Assoc.set (Reg.LINK_STATE 2).key 5 []) }, by decide +kernel⟩

theorem witness_LinkControl_bringUpParked : ∃ (path : Path) (l : LinkId) (s : State),
    s.accessStatus path true (0x2610 + l.val) 0x0C = .ok ∧ s.reg (Reg.LINK_STATE l.val) = 7 :=
  ⟨.sys, 2, { State.reset with regs := (Assoc.set (Reg.LINK_STATE 2).key 7 []) }, by decide +kernel⟩

theorem witness_LinkControl_bringUpLive : ∃ (path : Path) (l : LinkId) (s : State),
    s.accessStatus path true (0x2610 + l.val) 0x0C = .ok ∧ (s.reg (Reg.LINK_STATE l.val) = 1 ∨ s.reg (Reg.LINK_STATE
      l.val) = 2 ∨ s.reg (Reg.LINK_STATE l.val) = 3) :=
  ⟨.sys, 2, { State.reset with regs := (Assoc.set (Reg.LINK_STATE 2).key 1 []) }, by decide +kernel⟩

theorem witness_LinkControl_fusedFast : ∃ (path : Path) (l : LinkId) (s : State),
    s.accessStatus path true (0x2610 + l.val) 0x0C = .ok ∧ s.reg (Reg.LINK_STATE l.val) = 4 :=
  ⟨.sys, 2, { State.reset with regs := (Assoc.set (Reg.LINK_STATE 2).key 4 []) }, by decide +kernel⟩

theorem witness_LinkControl_fusedFull : ∃ (path : Path) (l : LinkId) (s : State),
    s.accessStatus path true (0x2610 + l.val) 0x0C = .ok ∧ s.reg (Reg.LINK_STATE l.val) = 4 :=
  ⟨.sys, 2, { State.reset with regs := (Assoc.set (Reg.LINK_STATE 2).key 4 []) }, by decide +kernel⟩

theorem witness_LinkControl_fusedRestoreLanes : ∃ (path : Path) (l : LinkId) (s : State),
    s.accessStatus path true (0x2610 + l.val) 0x0C = .ok ∧ s.reg (Reg.LINK_STATE l.val) = 4 :=
  ⟨.sys, 2, { State.reset with regs := (Assoc.set (Reg.LINK_STATE 2).key 4 []) }, by decide +kernel⟩

theorem witness_LinkControl_fusedTakeDown : ∃ (path : Path) (l : LinkId) (s : State),
    s.accessStatus path true (0x2610 + l.val) 0x0C = .ok ∧ s.reg (Reg.LINK_STATE l.val) = 4 :=
  ⟨.sys, 2, { State.reset with regs := (Assoc.set (Reg.LINK_STATE 2).key 4 []) }, by decide +kernel⟩

theorem witness_LinkControl_fusedBringUp : ∃ (path : Path) (l : LinkId) (s : State),
    s.accessStatus path true (0x2610 + l.val) 0x0C = .ok ∧ s.reg (Reg.LINK_STATE l.val) = 4 :=
  ⟨.sys, 2, { State.reset with regs := (Assoc.set (Reg.LINK_STATE 2).key 4 []) }, by decide +kernel⟩

theorem witness_LinkControl_spur : ∃ (path : Path) (l : LinkId) (s : State),
    s.accessStatus path true (0x2610 + l.val) 0x0D = .ok ∧ (s.reg (Reg.LINK_STATE l.val) = 2 ∨ s.reg (Reg.LINK_STATE
      l.val) = 3 ∨ s.reg (Reg.LINK_STATE l.val) = 7) :=
  ⟨.sys, 2, { State.reset with regs := (Assoc.set (Reg.LINK_STATE 2).key 2 []) }, by decide +kernel⟩

theorem witness_LinkControl_spurFresh : ∃ (path : Path) (l : LinkId) (s : State),
    s.accessStatus path true (0x2610 + l.val) 0x0D = .ok ∧ s.reg (Reg.LINK_STATE l.val) ≠ 2 ∧ s.reg (Reg.LINK_STATE
      l.val) ≠ 3 ∧ s.reg (Reg.LINK_STATE l.val) ≠ 4 ∧ s.reg (Reg.LINK_STATE l.val) ≠ 7 :=
  ⟨.sys, 2, State.reset, by decide +kernel⟩

theorem witness_LinkControl_spurFused : ∃ (path : Path) (l : LinkId) (s : State),
    s.accessStatus path true (0x2610 + l.val) 0x0D = .ok ∧ s.reg (Reg.LINK_STATE l.val) = 4 :=
  ⟨.sys, 2, { State.reset with regs := (Assoc.set (Reg.LINK_STATE 2).key 4 []) }, by decide +kernel⟩

theorem witness_LinkControl_spurBad : ∃ (path : Path) (l : LinkId) (v : BitVec 8) (s : State),
    s.accessStatus path true (0x2610 + l.val) 0x0D = .ok ∧ v ≠ 1 :=
  ⟨.sys, 2, 0, State.reset, by decide +kernel⟩

theorem witness_LinksOfTheTree_stuck : ∃ (l : LinkId) (pool : Fin 6) (at' : Nat) (s : State),
    Assoc.get? pool.val ((s.noteStalls l.val).link l.val).noCredit = some (at', false) ∧ at' + 1000000 ≤ s.now :=
  ⟨1, 3, 5, { State.reset with now := 1000005, tether := { State.reset.tether with links := [(1, { reqs := [[1]],
                                                                                                     noCredit := [(3,
                                                                                                     (5, false))],
                                                                                                     credits := [64,
                                                                                                     64, 32, 0, 16,
                                                                                                     16] })] } },
    by decide +kernel⟩

theorem witness_LinksOfTheTree_stuckNotYet : ∃ (l : LinkId) (pool : Fin 6) (at' : Nat) (s : State),
    Assoc.get? pool.val ((s.noteStalls l.val).link l.val).noCredit = some (at', false) ∧ s.now < at' + 1000000 :=
  ⟨1, 3, 5, { State.reset with now := 1000004, tether := { State.reset.tether with links := [(1, { reqs := [[1]],
                                                                                                     noCredit := [(3,
                                                                                                     (5, false))],
                                                                                                     credits := [64,
                                                                                                     64, 32, 0, 16,
                                                                                                     16] })] } },
    by decide +kernel⟩

theorem witness_LinksOfTheTree_stuckReported : ∃ (l : LinkId) (pool : Fin 6) (at' : Nat) (s : State),
    Assoc.get? pool.val ((s.noteStalls l.val).link l.val).noCredit = some (at', true) :=
  ⟨1, 3, 5, { State.reset with now := 1000005, tether := { State.reset.tether with links := [(1, { reqs := [[1]],
                                                                                                     noCredit := [(3,
                                                                                                     (5, true))],
                                                                                                     credits := [64,
                                                                                                     64, 32, 0, 16,
                                                                                                     16] })] } },
    by decide +kernel⟩

theorem witness_LinksOfTheTree_notStuck : ∃ (l : LinkId) (pool : Fin 6) (s : State),
    Assoc.get? pool.val ((s.noteStalls l.val).link l.val).noCredit = none :=
  ⟨1, 3, State.reset, by decide +kernel⟩

theorem witness_LinksOfTheTree_record : ∃ (r : Reduction) (s : State),
    s.fabric.upward = some r ∧ s.reg Reg.TREE_PARENT < 8 :=
  ⟨⟨0, 0, ⟨0, 0, 0, 0⟩, ⟨0, 0, 0, 0⟩, ⟨0, 0, 0, 0⟩, ⟨0, 0, 0, 0⟩, .ok, 0⟩, { State.reset with regs := (Assoc.set
                                                                                                (Reg.TREE_PARENT).key
                                                                                                2 []), fabric := {
                                                                                                State.reset.fabric
                                                                                                with upward := some
                                                                                                       ⟨0, 0, ⟨0, 0,
                                                                                                       0, 0⟩, ⟨0, 0,
                                                                                                       0, 0⟩, ⟨0, 0,
                                                                                                       0, 0⟩, ⟨0, 0,
                                                                                                       0, 0⟩, .ok, 0⟩
                                                                                                       } },
    by decide +kernel⟩

theorem witness_LinksOfTheTree_noRecord : ∃ (s : State),
    (s.fabric.upward = none ∨ 8 ≤ s.reg Reg.TREE_PARENT) :=
  ⟨State.reset, by decide +kernel⟩

theorem witness_LinksOfTheTree_broadcast : ∃ (m : Nat × Nat × Nat) (rest : List (Nat × Nat × Nat)) (s : State),
    s.tether.heard = m :: rest ∧ m.2.1 ≠ 4 :=
  ⟨(2, 1, 77), [], { State.reset with regs := [], tether := { State.reset.tether with heard := [(2, 1, 77)], children
                                                                                        := [(3, [5])] } },
    by decide +kernel⟩

theorem witness_LinksOfTheTree_routeSwitch : ∃ (m : Nat × Nat × Nat) (rest : List (Nat × Nat × Nat)) (s : State),
    s.tether.heard = m :: rest ∧ m.2.1 = 4 ∧ s.reg Reg.ROUTE_STATE = 1 :=
  ⟨(2, 4, 77), [], { State.reset with regs := (Assoc.set (Reg.ROUTE_STATE).key 1 []), tether := { State.reset.tether
                                        with heard := [(2, 4, 77)], children := [(3, [5])] } }, by decide +kernel⟩

theorem witness_LinksOfTheTree_routeNotArmed : ∃ (m : Nat × Nat × Nat) (rest : List (Nat × Nat × Nat)) (s : State),
    s.tether.heard = m :: rest ∧ m.2.1 = 4 ∧ s.reg Reg.ROUTE_STATE ≠ 1 :=
  ⟨(2, 4, 77), [], { State.reset with regs := [], tether := { State.reset.tether with heard := [(2, 4, 77)], children
                                                                                        := [(3, [5])] } },
    by decide +kernel⟩

theorem witness_LinksOfTheTree_passedOn : ∃ (s : State),
    s.fabric.sends = [] :=
  ⟨State.reset, by decide +kernel⟩

theorem witness_LinksOfTheTree_noBroadcast : ∃ (s : State),
    s.tether.heard = [] :=
  ⟨State.reset, by decide +kernel⟩

theorem witness_LinksOfTheTree_treeRoot : ∃ (s : State),
    s.reg Reg.DEV_NUM = 0 :=
  ⟨State.reset, by decide +kernel⟩

theorem witness_LinksOfTheTree_tree : ∃ (d : LinkId × Nat) (dist : List (LinkId × Nat)) (s : State),
    s.reg Reg.DEV_NUM ≠ 0 ∧ d ∈ dist ∧ s.linkLives d.1.val = true ∧ ∀ e ∈ dist, s.linkLives e.1.val = true → d.2 < e.2
      ∨ d.2 = e.2 ∧ d.1.val ≤ e.1.val :=
  ⟨(1, 3), [(2, 3), (1, 3), (4, 2)], { State.reset with regs := (Assoc.set (Reg.DEV_NUM).key 5 (Assoc.set
                                                          (Reg.LINK_STATE 2).key 2 (Assoc.set (Reg.LINK_STATE 1).key 7
                                                          []))) }, by decide +kernel⟩

theorem witness_LinksOfTheTree_treeAlone : ∃ (dist : List (LinkId × Nat)) (s : State),
    s.reg Reg.DEV_NUM ≠ 0 ∧ ∀ e ∈ dist, s.linkLives e.1.val = false :=
  ⟨[(2, 3), (1, 3), (4, 2)], { State.reset with regs := (Assoc.set (Reg.DEV_NUM).key 5 []) }, by decide +kernel⟩

theorem witness_LinksOfTheTree_placed : ∃ (parent : Nat) (depth : Nat) (comp : Nat) (below : List (LinkId × List (Fin 64))) (tables : List (LinkId × List (Fin 64 × BitVec 32))) (gone : List (Fin 64)) (s : State) (t : State),
    s.placeTree parent depth comp below tables gone = t :=
  ⟨2, 3, 40, [(3, [7])], [], [9], State.reset, (State.reset.placeTree 2 3 40 [(3, [7])] [] [9]), by decide +kernel⟩

theorem witness_LinksOfTheTree_reconcile : ∃ (l : LinkId) (f : SentFlit) (r : List SentFlit) (s : State),
    s.linkLives l.val = false ∧ (s.link l.val).replay = f :: r :=
  ⟨1, ⟨0, 4, false, [2]⟩, [], { State.reset with tether := { State.reset.tether with links := [(1, { replay := [⟨0, 4,
                                                                                                       false, [2]⟩]
                                                                                                       })] } },
    by decide +kernel⟩

theorem witness_LinksOfTheTree_reconcileEmpty : ∃ (l : LinkId) (s : State),
    s.linkLives l.val = false ∧ (s.link l.val).replay = [] :=
  ⟨1, { State.reset with tether := { State.reset.tether with links := [(1, { sync := [[1]] })] } }, by decide +kernel⟩

theorem witness_LinksOfTheTree_reconcileLive : ∃ (l : LinkId) (s : State),
    s.linkLives l.val = true :=
  ⟨1, { State.reset with regs := (Assoc.set (Reg.LINK_STATE 1).key 2 []) }, by decide +kernel⟩

theorem witness_LinksOfTheTree_returnEvents : ∃ (g : SentFlit),
    g.ftype = 0 :=
  ⟨⟨0, 0, false, [1]⟩, by decide +kernel⟩

theorem witness_LinksOfTheTree_returnRequest : ∃ (m : Nat) (g : SentFlit) (s : State),
    g.ftype = 2 ∧ s.treeLink (leNat ((g.payload.drop 1).take 1)) = some m :=
  ⟨3, ⟨0, 2, false, [0, 5]⟩, { State.reset with tether := { State.reset.tether with children := [(3, [5])] } },
    by decide +kernel⟩

theorem witness_LinksOfTheTree_returnReply : ∃ (m : Nat) (g : SentFlit) (s : State),
    g.ftype = 3 ∧ s.treeLink (leNat ((g.payload.drop 1).take 1)) = some m :=
  ⟨3, ⟨0, 3, false, [0, 5]⟩, { State.reset with tether := { State.reset.tether with children := [(3, [5])] } },
    by decide +kernel⟩

theorem witness_LinksOfTheTree_returnBroadcast : ∃ (g : SentFlit),
    g.ftype = 4 ∧ g.payload.head? = some 1 :=
  ⟨⟨0, 4, false, [1]⟩, by decide +kernel⟩

theorem witness_LinksOfTheTree_returnHitch : ∃ (m : Nat) (g : SentFlit) (s : State),
    g.ftype = 4 ∧ g.payload.head? = some 2 ∧ (s.hitch (hitchFields g.payload).2.1).homeLost = false ∧ s.treeLink (if 5
      ≤ (hitchFields g.payload).1 then (hitchFields g.payload).2.2.1 else s.homeDev (s.hitch (hitchFields
      g.payload).2.1)) = some m :=
  ⟨3, ⟨0, 4, false, [2]⟩, { State.reset with tether := { State.reset.tether with children := [(3, [0])] } },
    by decide +kernel⟩

theorem witness_LinksOfTheTree_returnLost : ∃ (g : SentFlit) (s : State),
    g.ftype = 4 ∧ g.payload.head? = some 2 ∧ (s.hitch (hitchFields g.payload).2.1).homeLost = true :=
  ⟨⟨0, 4, false, [2]⟩, { State.reset with hitches := [(0, { homeLost := true })] }, by decide +kernel⟩

theorem witness_LinksOfTheTree_returnNothing : ∃ (g : SentFlit),
    (g.ftype = 1 ∨ 4 < g.ftype ∨ g.ftype = 4 ∧ g.payload.head? ≠ some 1 ∧ g.payload.head? ≠ some 2) :=
  ⟨⟨0, 1, false, []⟩, by decide +kernel⟩

theorem witness_HtpDataRequests_dictRead : ∃ (x : HtpFrame) (y : Session) (s : State),
    s.htpReady x 2 y ∧ 12 ≤ x.payload.length ∧ (s.htpTaken x).isOwn (htpField x 0 1) = true :=
  ⟨(htpFrame .usb 1 2 0 9 ([0xFF, 0, 0, 0x10, 0, 0, 0, 0, 4, 0, 0, 0])), { peer := .usb, version := 1 }, {
    State.reset with regs := (Assoc.set (Reg.CAN_STATE).key 0 (Assoc.set (Reg.BRINGUP_STAGE).key 6 (Assoc.set
                       (Reg.USB_STATE).key 2 []))), host := { State.reset.host with sessions := [{ peer := .usb,
                                                                                                     version := 1 }] }
                       }, by decide +kernel⟩

theorem witness_HtpDataRequests_dictReadOther : ∃ (x : HtpFrame) (y : Session) (s : State),
    s.htpReady x 2 y ∧ 12 ≤ x.payload.length ∧ (s.htpTaken x).isOwn (htpField x 0 1) = false :=
  ⟨(htpFrame .usb 1 2 0 9 ([9, 0, 0, 0x10, 0, 0, 0, 0, 4, 0, 0, 0])), { peer := .usb, version := 1 }, {
    State.reset with regs := (Assoc.set (Reg.CAN_STATE).key 0 (Assoc.set (Reg.BRINGUP_STAGE).key 6 (Assoc.set
                       (Reg.USB_STATE).key 2 []))), host := { State.reset.host with sessions := [{ peer := .usb,
                                                                                                     version := 1 }] }
                       }, by decide +kernel⟩

theorem witness_HtpDataRequests_dictReadShort : ∃ (x : HtpFrame) (y : Session) (s : State),
    s.htpReady x 2 y ∧ x.payload.length < 12 :=
  ⟨(htpFrame .usb 1 2 0 9 ([1])), { peer := .usb, version := 1 }, { State.reset with regs := (Assoc.set
                                                                                             (Reg.CAN_STATE).key 0
                                                                                             (Assoc.set
                                                                                             (Reg.BRINGUP_STAGE).key 6
                                                                                             (Assoc.set
                                                                                             (Reg.USB_STATE).key 2
                                                                                             []))), host := {
                                                                                             State.reset.host with
                                                                                             sessions := [{ peer :=
                                                                                                              .usb,
                                                                                                              version
                                                                                                              := 1 }]
                                                                                               } }, by decide +kernel⟩

theorem witness_HtpDataRequests_dictWriteShort : ∃ (x : HtpFrame) (y : Session) (s : State),
    s.htpReady x 3 y ∧ x.payload.length < 12 :=
  ⟨(htpFrame .usb 1 3 0 9 ([1])), { peer := .usb, version := 1 }, { State.reset with regs := (Assoc.set
                                                                                             (Reg.CAN_STATE).key 0
                                                                                             (Assoc.set
                                                                                             (Reg.BRINGUP_STAGE).key 6
                                                                                             (Assoc.set
                                                                                             (Reg.USB_STATE).key 2
                                                                                             []))), host := {
                                                                                             State.reset.host with
                                                                                             sessions := [{ peer :=
                                                                                                              .usb,
                                                                                                              version
                                                                                                              := 1 }]
                                                                                               } }, by decide +kernel⟩

theorem witness_HtpDataRequests_dictSegmentBad : ∃ (x : HtpFrame) (y : Session) (u : State) (w : StagedWrite) (s : State),
    s.htpReady x 3 y ∧ 12 ≤ x.payload.length ∧ (if htpField x 4 4 = 0 then (s.htpTaken x).dropStaged x.peer else
      (s.htpTaken x)) = u ∧ u.stagedFor x.peer ⟨htpField x 0 1, htpField x 2 2, htpField x 1 1, htpField x 8 4, []⟩ =
      w ∧ (w.dev ≠ htpField x 0 1 ∨ w.index ≠ htpField x 2 2 ∨ w.sub ≠ htpField x 1 1 ∨ w.total ≠ htpField x 8 4 ∨
      htpField x 4 4 ≠ w.data.length ∨ w.total < w.data.length + (x.payload.drop 12).length) :=
  ⟨(htpFrame .usb 1 3 0 9 ([0xFF, 1, 0x10, 0x28, 0, 0, 0, 0, 0, 0, 0, 0, 5])), { peer := .usb, version := 1 },
    (State.htpTaken ({ State.reset with regs := (Assoc.set (Reg.CAN_STATE).key 0 (Assoc.set (Reg.BRINGUP_STAGE).key 6
                                          (Assoc.set (Reg.USB_STATE).key 2 []))), host := { State.reset.host with
                                          sessions := [{ peer := .usb, version := 1 }] } }) (htpFrame .usb 1 3 0
    9 ([0xFF, 1, 0x10, 0x28, 0, 0, 0, 0, 0, 0, 0, 0, 5]))), ⟨0xFF, 0x2810, 1, 0, []⟩, { State.reset with regs :=
                                                                                                           (Assoc.set
                                                                                                           (Reg.CAN_STATE).key
                                                                                                           0
                                                                                                           (Assoc.set
                                                                                                           (Reg.BRINGUP_STAGE).key
                                                                                                           6
                                                                                                           (Assoc.set
                                                                                                           (Reg.USB_STATE).key
                                                                                                           2 []))),
                                                                                                           host := {
                                                                                                           State.reset.host
                                                                                                           with
                                                                                                           sessions :=
                                                                                                             [{ peer
                                                                                                                  :=
                                                                                                                  .usb,
                                                                                                                  version
                                                                                                                  := 1
                                                                                                                  }] }
                                                                                                           },
    by decide +kernel⟩

theorem witness_HtpDataRequests_dictSegment : ∃ (x : HtpFrame) (y : Session) (u : State) (w : StagedWrite) (s : State),
    s.htpReady x 3 y ∧ 12 ≤ x.payload.length ∧ (if htpField x 4 4 = 0 then (s.htpTaken x).dropStaged x.peer else
      (s.htpTaken x)) = u ∧ u.stagedFor x.peer ⟨htpField x 0 1, htpField x 2 2, htpField x 1 1, htpField x 8 4, []⟩ =
      w ∧ w.dev = htpField x 0 1 ∧ w.index = htpField x 2 2 ∧ w.sub = htpField x 1 1 ∧ w.total = htpField x 8 4 ∧
      htpField x 4 4 = w.data.length ∧ w.data.length + (x.payload.drop 12).length ≤ w.total ∧ x.more = true :=
  ⟨(htpFrame .usb 1 3 1 9 ([0xFF, 1, 0x10, 0x28, 0, 0, 0, 0, 2, 0, 0, 0, 5])), { peer := .usb, version := 1 },
    (State.htpTaken ({ State.reset with regs := (Assoc.set (Reg.CAN_STATE).key 0 (Assoc.set (Reg.BRINGUP_STAGE).key 6
                                          (Assoc.set (Reg.USB_STATE).key 2 []))), host := { State.reset.host with
                                          sessions := [{ peer := .usb, version := 1 }] } }) (htpFrame .usb 1 3 1
    9 ([0xFF, 1, 0x10, 0x28, 0, 0, 0, 0, 2, 0, 0, 0, 5]))), ⟨0xFF, 0x2810, 1, 2, []⟩, { State.reset with regs :=
                                                                                                           (Assoc.set
                                                                                                           (Reg.CAN_STATE).key
                                                                                                           0
                                                                                                           (Assoc.set
                                                                                                           (Reg.BRINGUP_STAGE).key
                                                                                                           6
                                                                                                           (Assoc.set
                                                                                                           (Reg.USB_STATE).key
                                                                                                           2 []))),
                                                                                                           host := {
                                                                                                           State.reset.host
                                                                                                           with
                                                                                                           sessions :=
                                                                                                             [{ peer
                                                                                                                  :=
                                                                                                                  .usb,
                                                                                                                  version
                                                                                                                  := 1
                                                                                                                  }] }
                                                                                                           },
    by decide +kernel⟩

theorem witness_HtpDataRequests_dictSegmentShort : ∃ (x : HtpFrame) (y : Session) (u : State) (w : StagedWrite) (s : State),
    s.htpReady x 3 y ∧ 12 ≤ x.payload.length ∧ (if htpField x 4 4 = 0 then (s.htpTaken x).dropStaged x.peer else
      (s.htpTaken x)) = u ∧ u.stagedFor x.peer ⟨htpField x 0 1, htpField x 2 2, htpField x 1 1, htpField x 8 4, []⟩ =
      w ∧ w.dev = htpField x 0 1 ∧ w.index = htpField x 2 2 ∧ w.sub = htpField x 1 1 ∧ w.total = htpField x 8 4 ∧
      htpField x 4 4 = w.data.length ∧ x.more = false ∧ w.data.length + (x.payload.drop 12).length < w.total :=
  ⟨(htpFrame .usb 1 3 0 9 ([0xFF, 1, 0x10, 0x28, 0, 0, 0, 0, 2, 0, 0, 0, 5])), { peer := .usb, version := 1 },
    (State.htpTaken ({ State.reset with regs := (Assoc.set (Reg.CAN_STATE).key 0 (Assoc.set (Reg.BRINGUP_STAGE).key 6
                                          (Assoc.set (Reg.USB_STATE).key 2 []))), host := { State.reset.host with
                                          sessions := [{ peer := .usb, version := 1 }] } }) (htpFrame .usb 1 3 0
    9 ([0xFF, 1, 0x10, 0x28, 0, 0, 0, 0, 2, 0, 0, 0, 5]))), ⟨0xFF, 0x2810, 1, 2, []⟩, { State.reset with regs :=
                                                                                                           (Assoc.set
                                                                                                           (Reg.CAN_STATE).key
                                                                                                           0
                                                                                                           (Assoc.set
                                                                                                           (Reg.BRINGUP_STAGE).key
                                                                                                           6
                                                                                                           (Assoc.set
                                                                                                           (Reg.USB_STATE).key
                                                                                                           2 []))),
                                                                                                           host := {
                                                                                                           State.reset.host
                                                                                                           with
                                                                                                           sessions :=
                                                                                                             [{ peer
                                                                                                                  :=
                                                                                                                  .usb,
                                                                                                                  version
                                                                                                                  := 1
                                                                                                                  }] }
                                                                                                           },
    by decide +kernel⟩

theorem witness_HtpDataRequests_dictWrite : ∃ (x : HtpFrame) (y : Session) (u : State) (w : StagedWrite) (s : State),
    s.htpReady x 3 y ∧ 12 ≤ x.payload.length ∧ (if htpField x 4 4 = 0 then (s.htpTaken x).dropStaged x.peer else
      (s.htpTaken x)) = u ∧ u.stagedFor x.peer ⟨htpField x 0 1, htpField x 2 2, htpField x 1 1, htpField x 8 4, []⟩ =
      w ∧ w.dev = htpField x 0 1 ∧ w.index = htpField x 2 2 ∧ w.sub = htpField x 1 1 ∧ w.total = htpField x 8 4 ∧
      htpField x 4 4 = w.data.length ∧ x.more = false ∧ w.data.length + (x.payload.drop 12).length = w.total ∧ u.isOwn
      w.dev = true :=
  ⟨(htpFrame .usb 1 3 0 9 ([0xFF, 1, 0x10, 0x28, 0, 0, 0, 0, 1, 0, 0, 0, 5])), { peer := .usb, version := 1 },
    (State.htpTaken ({ State.reset with regs := (Assoc.set (Reg.CAN_STATE).key 0 (Assoc.set (Reg.BRINGUP_STAGE).key 6
                                          (Assoc.set (Reg.USB_STATE).key 2 []))), host := { State.reset.host with
                                          sessions := [{ peer := .usb, version := 1 }] } }) (htpFrame .usb 1 3 0
    9 ([0xFF, 1, 0x10, 0x28, 0, 0, 0, 0, 1, 0, 0, 0, 5]))), ⟨0xFF, 0x2810, 1, 1, []⟩, { State.reset with regs :=
                                                                                                           (Assoc.set
                                                                                                           (Reg.CAN_STATE).key
                                                                                                           0
                                                                                                           (Assoc.set
                                                                                                           (Reg.BRINGUP_STAGE).key
                                                                                                           6
                                                                                                           (Assoc.set
                                                                                                           (Reg.USB_STATE).key
                                                                                                           2 []))),
                                                                                                           host := {
                                                                                                           State.reset.host
                                                                                                           with
                                                                                                           sessions :=
                                                                                                             [{ peer
                                                                                                                  :=
                                                                                                                  .usb,
                                                                                                                  version
                                                                                                                  := 1
                                                                                                                  }] }
                                                                                                           },
    by decide +kernel⟩

theorem witness_HtpDataRequests_dictWriteOther : ∃ (x : HtpFrame) (y : Session) (u : State) (w : StagedWrite) (s : State),
    s.htpReady x 3 y ∧ 12 ≤ x.payload.length ∧ (if htpField x 4 4 = 0 then (s.htpTaken x).dropStaged x.peer else
      (s.htpTaken x)) = u ∧ u.stagedFor x.peer ⟨htpField x 0 1, htpField x 2 2, htpField x 1 1, htpField x 8 4, []⟩ =
      w ∧ w.dev = htpField x 0 1 ∧ w.index = htpField x 2 2 ∧ w.sub = htpField x 1 1 ∧ w.total = htpField x 8 4 ∧
      htpField x 4 4 = w.data.length ∧ x.more = false ∧ w.data.length + (x.payload.drop 12).length = w.total ∧ u.isOwn
      w.dev = false :=
  ⟨(htpFrame .usb 1 3 0 9 ([9, 1, 0x10, 0x28, 0, 0, 0, 0, 1, 0, 0, 0, 5])), { peer := .usb, version := 1 },
    (State.htpTaken ({ State.reset with regs := (Assoc.set (Reg.CAN_STATE).key 0 (Assoc.set (Reg.BRINGUP_STAGE).key 6
                                          (Assoc.set (Reg.USB_STATE).key 2 []))), host := { State.reset.host with
                                          sessions := [{ peer := .usb, version := 1 }] } }) (htpFrame .usb 1 3 0
    9 ([9, 1, 0x10, 0x28, 0, 0, 0, 0, 1, 0, 0, 0, 5]))), ⟨9, 0x2810, 1, 1, []⟩, { State.reset with regs := (Assoc.set
                                                                                                     (Reg.CAN_STATE).key
                                                                                                     0 (Assoc.set
                                                                                                     (Reg.BRINGUP_STAGE).key
                                                                                                     6 (Assoc.set
                                                                                                     (Reg.USB_STATE).key
                                                                                                     2 []))), host :=
                                                                                                     {
                                                                                                     State.reset.host
                                                                                                     with sessions :=
                                                                                                            [{ peer :=
                                                                                                                 .usb,
                                                                                                                 version
                                                                                                                 := 1
                                                                                                                 }] }
                                                                                                     },
    by decide +kernel⟩

theorem witness_HtpDataRequests_qPush : ∃ (x : HtpFrame) (y : Session) (s : State),
    s.htpReady x 4 y ∧ 36 ≤ x.payload.length ∧ htpField x 0 2 < 32768 :=
  ⟨(htpFrame .usb 1 4 0 9 ([3, 0, 0, 0] ++ List.replicate 32 7)), { peer := .usb, version := 1 }, { State.reset
    with regs := (Assoc.set (Reg.CAN_STATE).key 0 (Assoc.set (Reg.BRINGUP_STAGE).key 6 (Assoc.set (Reg.USB_STATE).key
           2 []))), host := { State.reset.host with sessions := [{ peer := .usb, version := 1 }] }, queues := [(3, {
           kind := .data, log2n := 1, base := 0x1000, prod := 0x11, cons := 0x13, qstate := .enabled })] },
    by decide +kernel⟩

theorem witness_HtpDataRequests_qPushBad : ∃ (x : HtpFrame) (y : Session) (s : State),
    s.htpReady x 4 y ∧ (x.payload.length < 36 ∨ 32768 ≤ htpField x 0 2) :=
  ⟨(htpFrame .usb 1 4 0 9 ([3, 0, 0, 0] ++ List.replicate 31 7)), { peer := .usb, version := 1 }, { State.reset
    with regs := (Assoc.set (Reg.CAN_STATE).key 0 (Assoc.set (Reg.BRINGUP_STAGE).key 6 (Assoc.set (Reg.USB_STATE).key
           2 []))), host := { State.reset.host with sessions := [{ peer := .usb, version := 1 }] } },
    by decide +kernel⟩

theorem witness_HtpDataRequests_qConsume : ∃ (x : HtpFrame) (y : Session) (s : State),
    s.htpReady x 5 y ∧ 8 ≤ x.payload.length ∧ htpField x 0 2 < 32768 :=
  ⟨(htpFrame .usb 1 5 0 9 ([3, 0, 0, 0, 1, 0, 0, 0])), { peer := .usb, version := 1 }, { State.reset with regs
                                                                                                                  :=
                                                                                                                  (Assoc.set
                                                                                                                  (Reg.CAN_STATE).key
                                                                                                                  0
                                                                                                                  (Assoc.set
                                                                                                                  (Reg.BRINGUP_STAGE).key
                                                                                                                  6
                                                                                                                  (Assoc.set
                                                                                                                  (Reg.USB_STATE).key
                                                                                                                  2
                                                                                                                  []))),
                                                                                                                  host
                                                                                                                  := {
                                                                                                                  State.reset.host
                                                                                                                  with
                                                                                                                  sessions
                                                                                                                    :=
                                                                                                                    [{
                                                                                                                    peer
                                                                                                                      :=
                                                                                                                      .usb,
                                                                                                                      version
                                                                                                                      :=
                                                                                                                      1
                                                                                                                      }]
                                                                                                                    }
                                                                                                                  },
    by decide +kernel⟩

theorem witness_HtpDataRequests_qConsumeBad : ∃ (x : HtpFrame) (y : Session) (s : State),
    s.htpReady x 5 y ∧ (x.payload.length < 8 ∨ 32768 ≤ htpField x 0 2) :=
  ⟨(htpFrame .usb 1 5 0 9 ([0, 0x80, 0, 0, 1, 0, 0, 0])), { peer := .usb, version := 1 }, { State.reset with
    regs := (Assoc.set (Reg.CAN_STATE).key 0 (Assoc.set (Reg.BRINGUP_STAGE).key 6 (Assoc.set (Reg.USB_STATE).key 2
      []))), host := { State.reset.host with sessions := [{ peer := .usb, version := 1 }] } }, by decide +kernel⟩

theorem witness_HtpDataRequests_memRead : ∃ (x : HtpFrame) (y : Session) (s : State),
    s.htpReady x 6 y ∧ memRange x = true :=
  ⟨(htpFrame .usb 1 6 0 9 ([0, 0x10, 0, 0, 0, 0, 0, 0, 8, 0, 0, 0])), { peer := .usb, version := 1 }, {
    State.reset with regs := (Assoc.set (Reg.CAN_STATE).key 0 (Assoc.set (Reg.BRINGUP_STAGE).key 6 (Assoc.set
                       (Reg.USB_STATE).key 2 []))), host := { State.reset.host with sessions := [{ peer := .usb,
                                                                                                     version := 1 }] }
                       }, by decide +kernel⟩

theorem witness_HtpDataRequests_memReadBad : ∃ (x : HtpFrame) (y : Session) (s : State),
    s.htpReady x 6 y ∧ memRange x = false :=
  ⟨(htpFrame .usb 1 6 0 9 ([1])), { peer := .usb, version := 1 }, { State.reset with regs := (Assoc.set
                                                                                             (Reg.CAN_STATE).key 0
                                                                                             (Assoc.set
                                                                                             (Reg.BRINGUP_STAGE).key 6
                                                                                             (Assoc.set
                                                                                             (Reg.USB_STATE).key 2
                                                                                             []))), host := {
                                                                                             State.reset.host with
                                                                                             sessions := [{ peer :=
                                                                                                              .usb,
                                                                                                              version
                                                                                                              := 1 }]
                                                                                               } }, by decide +kernel⟩

theorem witness_HtpDataRequests_memWrite : ∃ (x : HtpFrame) (y : Session) (data : List Byte) (s : State),
    s.htpReady x 7 y ∧ memRange x = true ∧ x.peer = .usb ∧ htpField x 8 4 ≤ data.length :=
  ⟨(htpFrame .usb 1 7 0 9 ([0, 0x10, 0, 0, 0, 0, 0, 0, 8, 0, 0, 0])), { peer := .usb, version := 1 }, [1, 2, 3,
    4, 5, 6, 7, 8], { State.reset with regs := (Assoc.set (Reg.CAN_STATE).key 0 (Assoc.set (Reg.BRINGUP_STAGE).key 6
                                         (Assoc.set (Reg.USB_STATE).key 2 []))), host := { State.reset.host with
                                         sessions := [{ peer := .usb, version := 1 }] } }, by decide +kernel⟩

theorem witness_HtpDataRequests_memWriteWaits : ∃ (x : HtpFrame) (data : List Byte),
    x.bad = false ∧ memRange x = true ∧ x.peer = .usb ∧ data.length < htpField x 8 4 :=
  ⟨(htpFrame .usb 1 7 0 9 ([0, 0x10, 0, 0, 0, 0, 0, 0, 8, 0, 0, 0])), [1], by decide +kernel⟩

theorem witness_HtpDataRequests_memWriteInline : ∃ (x : HtpFrame) (y : Session) (s : State),
    s.htpReady x 7 y ∧ memRange x = true ∧ x.peer ≠ .usb ∧ htpField x 8 4 ≤ (x.payload.drop 12).length :=
  ⟨(htpFrame (.ethernet 1 5 6) 1 7 0 9 ([0, 0x10, 0, 0, 0, 0, 0, 0, 8, 0, 0, 0] ++ List.replicate 8 5)), { peer
                                                                                                                   :=
                                                                                                                   .ethernet
                                                                                                                   1 5
                                                                                                                   6,
                                                                                                                   version
                                                                                                                   :=
                                                                                                                   1
                                                                                                                   },
    { State.reset with regs := (Assoc.set (Reg.BRINGUP_STAGE).key 6 (Assoc.set (Reg.LINK_UP 1).key 1 [])), host := {
                         State.reset.host with sessions := [{ peer := .ethernet 1 5 6, version := 1 }] } },
    by decide +kernel⟩

theorem witness_HtpDataRequests_memWriteBad : ∃ (x : HtpFrame) (y : Session) (s : State),
    s.htpReady x 7 y ∧ (memRange x = false ∨ x.peer ≠ .usb ∧ (x.payload.drop 12).length < htpField x 8 4) :=
  ⟨(htpFrame .usb 1 7 0 9 ([1])), { peer := .usb, version := 1 }, { State.reset with regs := (Assoc.set
                                                                                             (Reg.CAN_STATE).key 0
                                                                                             (Assoc.set
                                                                                             (Reg.BRINGUP_STAGE).key 6
                                                                                             (Assoc.set
                                                                                             (Reg.USB_STATE).key 2
                                                                                             []))), host := {
                                                                                             State.reset.host with
                                                                                             sessions := [{ peer :=
                                                                                                              .usb,
                                                                                                              version
                                                                                                              := 1 }]
                                                                                               } }, by decide +kernel⟩

theorem witness_HtpDataRequests_memWriteTimeout : ∃ (x : HtpFrame) (y : Session) (data : List Byte) (s : State),
    s.htpReady x 7 y ∧ memRange x = true ∧ x.peer = .usb ∧ data.length < htpField x 8 4 :=
  ⟨(htpFrame .usb 1 7 0 9 ([0, 0x10, 0, 0, 0, 0, 0, 0, 8, 0, 0, 0])), { peer := .usb, version := 1 }, [1, 2], {
    State.reset with regs := (Assoc.set (Reg.CAN_STATE).key 0 (Assoc.set (Reg.BRINGUP_STAGE).key 6 (Assoc.set
                       (Reg.USB_STATE).key 2 []))), host := { State.reset.host with sessions := [{ peer := .usb,
                                                                                                     version := 1 }] }
                       }, by decide +kernel⟩

theorem witness_HtpDataRequests_noTimeout : ∃ (x : HtpFrame) (data : List Byte),
    (x.bad = true ∨ memRange x = false ∨ x.peer ≠ .usb ∨ htpField x 8 4 ≤ data.length) :=
  ⟨(htpFrame .usb 1 7 0 9 ([1])), [], by decide +kernel⟩

theorem witness_StableJournal_drainNot : ∃ (s : State),
    (s.mayWriteStable = false ∨ s.journals = false ∨ s.now < s.learning.drainedAt + 1000) :=
  ⟨State.reset, by decide +kernel⟩

theorem witness_StableJournal_drainNothing : ∃ (s : State),
    s.mayWriteStable = true ∧ s.journals = true ∧ s.learning.drainedAt + 1000 ≤ s.now ∧ ((s.genEnd.getD
      s.learning.staged) - s.learning.drained) = 0 :=
  ⟨{ State.reset with now := 1000, regs := (Assoc.set (Reg.JRNL_BANK).key 3 []), learning := { State.reset.learning
                        with genStarts := [(1, 0)] } }, by decide +kernel⟩

theorem witness_StableJournal_drainHeader : ∃ (s : State),
    s.mayWriteStable = true ∧ s.journals = true ∧ s.learning.drainedAt + 1000 ≤ s.now ∧ ((s.genEnd.getD
      s.learning.staged) - s.learning.drained) ≠ 0 ∧ s.learning.drainPos = 0 :=
  ⟨{ State.reset with now := 1000, regs := (Assoc.set (Reg.JRNL_BANK).key 3 []), learning := { State.reset.learning
                        with staged := 64 } }, by decide +kernel⟩

theorem witness_StableJournal_drain : ∃ (s : State),
    s.mayWriteStable = true ∧ s.journals = true ∧ s.learning.drainedAt + 1000 ≤ s.now ∧ s.learning.drainPos ≠ 0 ∧ 64 ≤
      ((s.genEnd.getD s.learning.staged) - s.learning.drained) :=
  ⟨{ State.reset with now := 1000, regs := (Assoc.set (Reg.JRNL_BANK).key 3 []), learning := { State.reset.learning
                        with staged := 64, drainPos := 64 } }, by decide +kernel⟩

theorem witness_StableJournal_drainLast : ∃ (s : State),
    s.mayWriteStable = true ∧ s.journals = true ∧ s.learning.drainedAt + 1000 ≤ s.now ∧ s.learning.drainPos ≠ 0 ∧
      ((s.genEnd.getD s.learning.staged) - s.learning.drained) ≠ 0 ∧ ((s.genEnd.getD s.learning.staged) -
      s.learning.drained) < 64 ∧ (s.genEnd ≠ none ∨ s.reg Reg.HARNESS_STATE = 3) :=
  ⟨{ State.reset with now := 1000, regs := (Assoc.set (Reg.JRNL_BANK).key 3 []), learning := { State.reset.learning
                        with staged := 80, drainPos := 64, genStarts := [(1, 8)] } }, by decide +kernel⟩

theorem witness_StableJournal_drainPart : ∃ (s : State),
    s.mayWriteStable = true ∧ s.journals = true ∧ s.learning.drainedAt + 1000 ≤ s.now ∧ s.learning.drainPos ≠ 0 ∧
      ((s.genEnd.getD s.learning.staged) - s.learning.drained) < 64 ∧ s.genEnd = none ∧ s.reg Reg.HARNESS_STATE ≠ 3 :=
  ⟨{ State.reset with now := 1000, regs := (Assoc.set (Reg.JRNL_BANK).key 3 []), learning := { State.reset.learning
                        with staged := 8, drainPos := 64 } }, by decide +kernel⟩

theorem witness_StableJournal_consolidationNot : ∃ (s : State),
    (s.mayWriteStable = false ∨ s.consolidationDue = false ∨ s.reg Reg.PWR_STATE ≠ 0) :=
  ⟨State.reset, by decide +kernel⟩

theorem witness_StableJournal_consolidation : ∃ (s : State),
    s.mayWriteStable = true ∧ s.consolidationDue = true ∧ s.reg Reg.PWR_STATE = 0 :=
  ⟨{ State.reset with regs := (Assoc.set (Reg.HARNESS_STATE).key 2 []), learning := { State.reset.learning with
                        consolWant := true, rows := [(3, ⟨2, false, 5⟩, 0)] } }, by decide +kernel⟩

theorem witness_StableJournal_consolidationEndNot : ∃ (s : State),
    (s.learning.consolRunning = false ∨ s.mayWriteStable = false) :=
  ⟨State.reset, by decide +kernel⟩

theorem witness_StableJournal_consolidationEnd : ∃ (s : State),
    s.learning.consolRunning = true ∧ s.mayWriteStable = true :=
  ⟨{ State.reset with learning := { State.reset.learning with consolRunning := true } }, by decide +kernel⟩

theorem witness_StableJournal_remapNot : ∃ (p : Fin 18432) (s : State),
    (s.learning.remapWant.contains p.val = false ∨ s.power.brace ≠ none) :=
  ⟨18431, State.reset, by decide +kernel⟩

theorem witness_StableJournal_remap : ∃ (p : Fin 18432) (s : State),
    s.learning.remapWant.contains p.val = true ∧ s.power.brace = none ∧ s.reg Reg.SPARE_LEFT ≠ 0 :=
  ⟨18431, { State.reset with regs := (Assoc.set (Reg.SPARE_LEFT).key 1024 []), learning := { State.reset.learning with
                               remapWant := [18431] } }, by decide +kernel⟩

theorem witness_StableJournal_degraded : ∃ (p : Fin 18432) (s : State),
    s.learning.remapWant.contains p.val = true ∧ s.power.brace = none ∧ s.reg Reg.SPARE_LEFT = 0 :=
  ⟨18431, { State.reset with regs := (Assoc.set (Reg.SPARE_LEFT).key 0 []), learning := { State.reset.learning with
                               remapWant := [18431] } }, by decide +kernel⟩

theorem witness_StableJournal_recoverNot : ∃ (c : ClusterId) (s : State),
    ((s.learning.recover.find? fun r => r.1 = c.val).all fun r => delivers (s.tile c.val r.2.1.tile)) = true :=
  ⟨3, State.reset, by decide +kernel⟩

theorem witness_StableJournal_recover : ∃ (c : ClusterId) (row : RowName) (off : Nat) (s : State),
    (s.learning.recover.find? fun r => r.1 = c.val) = some (c.val, row, off) ∧ delivers (s.tile c.val row.tile) =
      false :=
  ⟨3, ⟨2, true, 5⟩, 16, { State.reset with learning := { State.reset.learning with recover := [(3, ⟨2, true, 5⟩, 16)]
                                                                                     } }, by decide +kernel⟩

theorem witness_StableJournal_recoverPlx : ∃ (row : RowName),
    row.far = false :=
  ⟨⟨2, false, 5⟩, by decide +kernel⟩

theorem witness_StableJournal_recoverWord : ∃ (row : RowName) (off : Nat),
    (off ≠ 12 ∨ row.far = true) :=
  ⟨⟨2, true, 5⟩, 16, by decide +kernel⟩

/-! ### The spec's worked examples: pure rules -/

/-- 02: the word of neuron 9,031 and its class. -/
def class17 : ClassEntry :=
  { theta := 4096, rest := -1024, floor := -524288, multi := 1, refract := 3,
    decay := (List.replicate 64 0x8000).set 37 0x2979, scale := [0x000400CD, 0, 0, 0] }

theorem test_neuron_word_fields : Neuron.ofWord 0x00C00FF0C85A3111 =
    { v := 3072, tl := 4080, xpre := 200, xpost := 90, rc := 3, dead := false, reinit := false, ref := false, spk := true,
      cls := 17 } := by decide +kernel

/-- 02: the update in step 45,077 writes back 0x0037_0015_0000_0011 and fires nothing. -/
theorem test_update_example :
    let r := updateNeuron (Neuron.ofWord 0x00C00FF0C85A3111) class17 45077 (some { neuron := 9031, sums := [45, 0, 0, 0] })
    r.w.toWord = 0x0037001500000011 ∧ r.fired = none := by decide +kernel

/-- 02: Class 40 under CLAMP, CARRY and BURST with V = 16,794, and BURST with V = 163,840. -/
theorem test_fire_rules :
    let c : ClassEntry := { theta := 5120 }
    (fireRule c 16794).2.1 = 0 ∧ (fireRule c 16794).2.2.1 = 2 ∧
      fireRule { c with multi := 1 } 16794 = (1, 11674, 0, false) ∧
      fireRule { c with multi := 2 } 16794 = (3, 1434, 0, false) ∧
      fireRule { c with multi := 2 } 163840 = (7, 128000, 0, true) := by decide +kernel

/-- 07: power(0x7333, 3) = 23,888 and power(0x6666, 10) = 3,518; 02: power(0x6666, 37) = 9. -/
theorem test_trace_powers : tracePower 0x7333 3 = 23888 ∧ tracePower 0x6666 10 = 3518 ∧ tracePower 0x6666 37 = 9 := by
  decide +kernel

/-- 07: the example's group 3. -/
def group3 : Nat :=
  packFields [(0, 8, 96), (8, 8, 40), (16, 8, 0xD0), (24, 8, 5), (32, 4, 9), (36, 4, 6), (40, 4, 6), (44, 4, 10), (48, 4, 8),
    (64, 8, 0x9C), (72, 8, 100)]

theorem test_weight_deltas :
    weightDelta group3 131 2 60 1 35 10832 = 799 ∧ weightDelta group3 131 2 21 0 0 (-4160) = -12 := by decide +kernel

/-- 07: RXPRE 180 stamped at step 5,501 gives x_pre = 131 as of n_b = 5,504, read at 5,505. -/
theorem test_trace_at : traceAt 180 0x7333 1405 5504 5505 = 131 := by decide +kernel

/-- 03: the header words of the example row. -/
theorem test_row_header :
    let h := RowHeader.ofWords 0x1770001403000001 0x18
    h.base = 3000 ∧ h.count = 20 ∧ h.cap = 24 ∧ h.nside = 3 ∧ h.fmt = 0 ∧ h.weightOff = 24 := by decide +kernel

/-- 00: the tile window of cluster 5, tile 12, and the end of LPDDR5X on a D32. -/
theorem test_address_map :
    tileWindow 5 12 = 0x114600000 ∧ regionOf .d64 0x11467FFFF = .tile 5 12 0x7FFFF ∧
      regionOf .d32 0x1780000000 = .nothing ∧ regionOf .d64 0x1780000000 = .ddr 0x780000000 := by decide +kernel

/-- 01: the fields of the example event. -/
theorem test_event_fields :
    let e : Event := { word := 0x00C910068C020000 }
    e.dev = 3 ∧ e.clu = 2 ∧ e.tile = 17 ∧ e.row = 0x1A3 ∧ e.dly = 0 ∧ e.step = 0 ∧ e.cnt = 1 ∧ e.val = 0 ∧ e.e = false := by
  decide +kernel

/-- 05: two graded values beyond the range split, and spikes beyond CNT 7 too. -/
theorem test_merge_splits :
    let g (v : Nat) : Event := Event.set (Event.set { word := 0 } 62 2 1) 1 16 v
    let k (n : Nat) : Event := Event.set { word := 0 } 17 3 n
    (g 0x3000).cls = 1 ∧ (mergeEvents (g 0x3000) (g 0x6000)).1.val = 0x7FFF ∧
      ((mergeEvents (g 0x3000) (g 0x6000)).2.map Event.val) = some 0x1001 ∧
      (mergeEvents (k 6) (k 2)).1.cnt = 7 ∧ ((mergeEvents (k 6) (k 2)).2.map Event.cnt) = some 1 := by decide +kernel

/-- 08: the GAIT and STEP of the example as bytes. -/
theorem test_command_bytes :
    let gait := entryOfBytes [0x11, 1, 1, 0, 1, 1, 0, 0, 1, 0, 0, 0, 0x40, 0x42, 0x0F, 0, 0xFF, 0xFF, 0xFF, 0xFF, 0xFF, 0xFF,
      0xFF, 0xFF, 0, 0, 0, 0, 0, 0, 0, 0]
    let step := entryOfBytes [0x10, 2, 1, 0, 3, 1, 0, 0]
    cmdOpcode gait = some .gait ∧ cmdCmpl gait = true ∧ cmdFence gait = false ∧ cmdCfv gait = 1 ∧ cmdTag gait = 0x101 ∧
      entryField gait 12 4 = 1000000 ∧ cmdOpcode step = some .step ∧ cmdFence step = true ∧ cmdTag step = 0x103 := by
  decide +kernel

/-- 12: the decode rule and the cell entry of the example give row 0x1A3. -/
theorem test_intake_example :
    let m : List Byte := [1, 1, 2, 1, 0, 3, 0, 7, 0x20, 0xA1, 7, 0, 0, 0, 0, 0] ++
      [5, 1, 4, 11, 15, 10, 3, 1, 25, 7, 0, 0, 0, 0, 0, 0] ++ [2, 2, 0, 0, 0, 0, 0, 0, 3, 29, 0, 0, 0, 0, 0, 0]
    let d := decodePacket m 0 (leBytes 4 0x04B5A1FA ++ leBytes 4 0x54AC32CD)
    d.th = 9876543 ∧ d.out = [⟨812, 344, 1, 9876543 * 128 + 42⟩] := by decide +kernel

theorem test_cell_example :
    let m : List Byte := [0, 5, 5, 0, 40, 0, 23, 0] ++ List.replicate 56 0 ++ List.replicate (16 * 425) 0 ++
      leBytes 8 0x00C91004C0000000 ++ leBytes 4 0x04004022
    mapPixel m ⟨812, 344, 1, 0⟩ = some 0x00C910068C020000 := by decide +kernel

/-- 11: Dense (owner) and Intake are granted before the Mover and sequencer 2. -/
theorem test_bank_grant_order :
    let x (p : BankPort) (a : Nat) : StalledAccess := ⟨⟨p, a, 8, none⟩, 0⟩
    (grantOrder 2 [x (.seq 2) 0x600000, x .bulk 0x600008, x .intake 0x600010, x .dense 0x600018]).map (·.acc.port) =
      [.dense, .intake, .bulk, .seq 2] := by decide +kernel

/-! ### One step each -/

/-- The state after a command, or the state it began in where it stops. -/
def after (c : Instr) (s : State) : State :=
  match exec c s with
  | .next t => t
  | .fault _ => s
  | .refused _ => s

/-- 11: the set alias of the example turns 0xF0 into 0xF1, and the clear alias 0xF1 into 0x71. -/
theorem test_alias_example :
    let s0 : State := { State.reset with mem := [(0x4000200, 0xF0)] }
    let s1 := after (.setAliasWrite (.sequencer 2) 0x200 [1, 0, 0, 0]) s0
    let s2 := after (.clearAliasWrite .saddle 0x200 [0x80, 0, 0, 0]) s1
    s1.mem = [(0x4000200, 0xF1)] ∧ s2.mem = [(0x4000200, 0x71)] ∧ s2.reg Reg.ALIAS_OPS = 2 := by decide +kernel

/-- 11: an 80-byte record at WR 4,064 of a 4,096-byte window wraps: offset 0xFE0, WR 4,144. -/
theorem test_window_append_wraps :
    let x : Window := { base := 0x1C00000, log2size := 12, mode := .append, wr := 4064, rd := 3200 }
    let s : State := { State.reset with windows := [(32 * 14 + 2, x)] }
    let r := s.windowAppend 14 2 (List.replicate 80 7)
    r.1 = some 0xFE0 ∧ (r.2.window 14 2).wr = 4144 ∧ r.2.bytes 0x1C00FFF 2 = [7, 0] ∧ r.2.bytes 0x1C0002F 2 = [7, 0] := by
  decide +kernel

/-- 09: the example's request queue 900 with its reply queue 901. -/
def channel : State :=
  { State.reset with
    queues := [(900, { kind := .msgReq, log2n := 4, base := 0x1400000, prod := 3, cons := 8, qstate := .enabled, gen := 5 }),
      (901, { kind := .msgRep, log2n := 4, base := 0x1400200, prod := 8, cons := 3, qstate := .enabled, gen := 2 })] }

/-- 09: the example's first request, with the generation it names. -/
def request (gen : Byte) : Entry :=
  entryOfBytes [1, 0, 0, 0, gen, 0, 0, 0, 0, 0x20, 0x48, 1, 0, 0x10, 0, 0, 0x85, 3, 2, 0, 0xA1]

/-- 09: the push is taken: count 1 on queue 900, a reply slot reserved on 901. -/
theorem test_request_push :
    let t := after (.push (.sequencer 3) 900 (request 5) .clean) channel
    t.resp.status = .ok ∧ (t.queue 900).count = 1 ∧ (t.queue 901).resv = 1 := by decide +kernel

/-- 09: a push with the generation before the reset is STALE and LAST_STATUS reads 0x0003_8403. -/
theorem test_stale_push :
    let t := after (.push (.sequencer 3) 900 (request 4) .clean) channel
    t.resp.status = .stale ∧ t.reg Reg.PUSH_STALE = 1 ∧ t.lastOf (.sequencer 3) = (3, 900) ∧
      3 + 256 * 900 = 0x00038403 := by decide +kernel

/-- 09: RESET of queue 900 returns the waiting request as a STALE reply on the slot it reserved. -/
theorem test_reset_returns_request :
    let s := after (.push (.sequencer 3) 900 (request 5) .clean) channel
    let t := after (.qReset (.sequencer 8) 900 .clean) s
    (t.queue 900).count = 0 ∧ (t.queue 900).gen = 6 ∧ (t.queue 901).count = 1 ∧ (t.queue 901).resv = 0 ∧
      t.reg Reg.MSG_RETURNED = 1 ∧ entryField (t.head 901) 2 1 = 3 := by decide +kernel

/-- 16: 163,841 records take one block more than 163,840. -/
theorem test_flush_records : ceilDiv 1310728 64 = 20481 ∧ 1310728 / 8 = 163841 := by decide +kernel

/-- 14: an expedited SDO write of REIN_OVERRIDE with a reserved value is aborted 0x0609_0030 and changes nothing. -/
theorem test_sdo_reserved_value :
    let t := after (.sdoDownload [0x2F, 0x10, 0x27, 6, 5, 0, 0, 0] ⟨.ok, true⟩)
      { State.reset with regs := [(Reg.BRINGUP_STAGE.key, 6), (Reg.NODE_ID.key, 0x21), (Reg.NMT_STATE.key, 5)] }
    t.reg (Reg.REIN_OVERRIDE 0) = 0 ∧ t.out = [.can 0x5A1 [0x80, 0x10, 0x27, 6, 0x30, 0, 9, 6]] := by decide +kernel

theorem test_sdo_write :
    let t := after (.sdoDownload [0x2F, 0x10, 0x27, 6, 1, 0, 0, 0] ⟨.ok, true⟩)
      { State.reset with regs := [(Reg.BRINGUP_STAGE.key, 6), (Reg.NODE_ID.key, 0x21), (Reg.NMT_STATE.key, 5)] }
    t.reg (Reg.REIN_OVERRIDE 0) = 1 ∧ t.out.contains (.can 0x5A1 [0x60, 0x10, 0x27, 6, 0, 0, 0, 0]) = true := by
  decide +kernel

/-- A command with nothing waiting behind it, and no command at all. -/
theorem test_step_empty : step State.reset = .next State.reset.idle := rfl

/-! ### Ill-formed commands -/

theorem test_wf_alias_offset : WellFormed (.setAliasWrite .host 0x80000 [1, 0, 0, 0]) = false := by decide +kernel
theorem test_wf_alias_bytes : WellFormed (.clearAliasWrite .host 0x200 []) = false := by decide +kernel
theorem test_wf_access_address : WellFormed (.addressAccess .host (2 ^ 64) (.read 8) .clean (.arrives 0)) = false := by
  decide +kernel
theorem test_wf_access_length : WellFormed (.addressAccess .host 0 (.read 65) .clean (.arrives 0)) = false := by
  decide +kernel
theorem test_wf_access_lost : WellFormed (.addressAccess .host 0 (.read 8) .clean (.lost 3)) = false := by decide +kernel
theorem test_wf_bank_access : WellFormed (.commonsBankGrant 3 [⟨.dense, 0x8000000, 8, none⟩]) = false := by decide +kernel
theorem test_wf_object_bytes :
    WellFormed (.dictObjectWrite .sys 0x2000 1 (List.replicate 0x20001 0) ⟨.ok, true⟩) = false := by decide +kernel
theorem test_wf_exception : WellFormed (.seqException 2 (.load (2 ^ 64) 4)) = false := by decide +kernel
theorem test_wf_htp_frame (n : Nat) (h : 65552 < n) : WellFormed (.hello ⟨.usb, List.replicate n 0⟩) = false := by
  simp [WellFormed, HtpFrame.wf]; intros; omega
theorem test_wf_peer : WellFormed (.htpSessionTimeout (.ethernet 0 (2 ^ 48) 0)) = false := by decide +kernel
theorem test_wf_image_members : WellFormed (.updBegin (.chain 1 []) (List.replicate 64 .ok)) = false := by decide +kernel
theorem test_wf_ecall : WellFormed (.ecallOwnerOp (2 ^ 64)) = false := by decide +kernel
theorem test_wf_sdo : WellFormed (.sdoUpload [0, 0, 0, 0, 0, 0, 0]) = false := by decide +kernel
theorem test_wf_rpdo : WellFormed (.rpdo1Receive (List.replicate 65 0)) = false := by decide +kernel
theorem test_wf_release : WellFormed (.releaseBroadcastReceive 0 ⟨0, 0, 0, 0, 0, 0, none⟩) = false := by decide +kernel
theorem test_wf_complete : WellFormed (.completeBroadcastReceive 0) = false := by decide +kernel
theorem test_wf_bulk_line : WellFormed (.bulkSlotMove 0 0 0 false (some ⟨1, 0, 0, []⟩)) = false := by decide +kernel
theorem test_wf_scrub : WellFormed (.patrolScrub (2 ^ 30) .clean) = false := by decide +kernel
theorem test_wf_page : WellFormed (.consolidationBegin [(18432, .ok)]) = false := by decide +kernel
theorem test_wf_frame_length : WellFormed (.ethFrameReceive 0 true []) = false := by decide +kernel
theorem test_wf_lanes : WellFormed (.parkReceive 1 []) = false := by decide +kernel
theorem test_wf_codes : WellFormed (.flitReceive 1 [[], [], [], []] 0 (List.replicate 11 .clean) ⟨.ok, true⟩) = false := by
  decide +kernel
theorem test_wf_payload (n : Nat) (h : 65535 < n) :
    WellFormed (.csi2PacketReceive 0 .clean true 0 0 (List.replicate n 0)) = false := by
  simp [WellFormed]; omega
theorem test_wf_tree : WellFormed (.spanningTreeBuild (List.replicate 9 (1, 0)) [] [] [] 0) = false := by decide +kernel
theorem test_wf_wake : WellFormed (.wake (.can 0 (List.replicate 65 0) ⟨.ok, true⟩)) = false := by decide +kernel
theorem test_wf_settle : WellFormed (.settle 0 (2 ^ 64)) = false := by decide +kernel

end Sys2Proof.Tests
end

section
/-!
PROOFS. The arithmetic of chapter 02: rounding (R36) and the trace factor (R38).
-/
namespace Sys2Proof.NeuronProofs
open Sys2Proof Sys2Proof.Machine

/-! ### Rounding (R36) -/

theorem rnd_zero (x : Int) : rnd x 0 = x := by simp [rnd]

/-- A unit 2ˢ is two halves. -/
theorem pow_eq_two_halves {s : Nat} (hs : 0 < s) : 2 ^ s = 2 * 2 ^ (s - 1) := by
  rw [← Nat.pow_succ', Nat.succ_eq_add_one, Nat.sub_add_cancel hs]

/-- What is rounded is the magnitude: rnd(x, s) · 2ˢ has the sign of x, and its magnitude is the one multiple of the unit that
exceeds |x| − half a unit and does not exceed |x| + half a unit. -/
theorem rnd_mul_unit (x : Int) {s : Nat} (hs : 0 < s) :
    ∃ m : Nat, rnd x s * 2 ^ s = (if x < 0 then -(m : Int) else m) ∧
      x.natAbs < m + 2 ^ (s - 1) ∧ m ≤ x.natAbs + 2 ^ (s - 1) := by
  refine ⟨(x.natAbs + 2 ^ (s - 1)) / 2 ^ s * 2 ^ s, ?_, ?_, Nat.div_mul_le_self _ _⟩
  · have hcast (q : Nat) : ((q * 2 ^ s : Nat) : Int) = q * 2 ^ s := by
      simp only [Int.natCast_mul, Int.natCast_pow, Int.cast_ofNat_Int]
    rw [rnd, if_neg (Nat.ne_of_gt hs), hcast]
    by_cases hx : x < 0
    · rw [if_pos hx, if_pos hx, Int.neg_mul]
    · rw [if_neg hx, if_neg hx]
  · have above := Nat.lt_div_mul_add (a := x.natAbs + 2 ^ (s - 1)) (Nat.two_pow_pos s)
    have halves := pow_eq_two_halves hs
    omega

/-- The error of rounding is at most half a unit. -/
theorem rnd_error_le (x : Int) {s : Nat} (hs : 0 < s) : 2 * (rnd x s * 2 ^ s - x).natAbs ≤ 2 ^ s := by
  obtain ⟨m, hm, below, above⟩ := rnd_mul_unit x hs
  rw [hm, pow_eq_two_halves hs]
  split <;> omega

/-- A tie is rounded away from zero: of the two multiples at half a unit only the greater magnitude is admitted. -/
theorem rnd_tie_away (x : Int) {s : Nat} (hs : 0 < s) (tie : 2 * (rnd x s * 2 ^ s - x).natAbs = 2 ^ s) :
    x.natAbs < (rnd x s * 2 ^ s).natAbs := by
  obtain ⟨m, hm, below, above⟩ := rnd_mul_unit x hs
  rw [hm, pow_eq_two_halves hs] at tie
  rw [hm]
  split at tie <;> split <;> omega

/-- Settles O41: the magnitude is rounded with half a unit added, so the error is at most half a unit and a tie goes outwards. -/
theorem roundingIsToNearest : Obligations.RoundingIsToNearest :=
  ⟨rnd_zero, fun x _ hs => rnd_error_le x hs, fun x _ hs tie => rnd_tie_away x hs tie⟩

/-! ### The trace factor (R38) -/

/-- A round of square-and-multiply with its products written out. -/
theorem powerRound_eq (tau dt : Nat) (f : Int) (b : Nat) :
    powerRound tau dt f b = if dt.testBit b then rnd (rnd (f * f) 15 * tau) 15 else rnd (f * f) 15 := rfl

/-- Settles O40: the six rounds of `tracePower`, one for each bit of dt. -/
theorem traceFactor : Obligations.TraceFactor := by
  intro tau dt _ _ round
  have hround : powerRound tau dt = round := funext fun f => funext fun b => powerRound_eq tau dt f b
  simp only [tracePower, List.foldl, hround]

end Sys2Proof.NeuronProofs
end

section
/-!
PROOFS. Delivery, expansion, update and the destination-list reader of a tile, holdback, acceptance and spill: an equation for each
case of each command.
-/
namespace Sys2Proof.NeuronProofs
open Sys2Proof Sys2Proof.Machine

section Delivery

variable {c : ClusterId} {t : TileId} {s : State}

/-! ### DELIVERY_BEGIN (R92) -/

theorem exec_deliveryBegin : exec (.deliveryBegin c t) s = execDeliveryBegin c t s := rfl

theorem deliveryBegin_starts (hidle : (s.tile c.val t.val).phase = .idle) (hn : (s.tile c.val t.val).map.n ≠ 0)
    (hfence : (s.tile c.val t.val).fenced = false) (hlearned : (s.tile c.val t.val).updated + 1 ≤ s.fabric.learned) :
    exec (.deliveryBegin c t) s = .next (s.setTile c.val t.val
      { s.tile c.val t.val with phase := .deliver ((s.tile c.val t.val).updated + 1), progressAt := s.now }) := by
  rw [exec_deliveryBegin, execDeliveryBegin]
  exact if_pos ⟨hidle, hn, by simp [hfence], hlearned⟩

theorem deliveryBegin_waits (h : (s.tile c.val t.val).phase ≠ .idle ∨ (s.tile c.val t.val).map.n = 0 ∨
      (s.tile c.val t.val).fenced = true ∨ s.fabric.learned < (s.tile c.val t.val).updated + 1) :
    exec (.deliveryBegin c t) s = .next s := by
  rw [exec_deliveryBegin, execDeliveryBegin]
  refine if_neg fun ⟨hidle, hn, hfence, hlearned⟩ => ?_
  rcases h with h | h | h | h
  · exact h hidle
  · exact hn h
  · simp [h] at hfence
  · omega

/-! ### EVENT_EXPAND (R72–R79) -/

section Expand

variable {pick n : Nat} {p : Parked} {f : Flaws}

theorem exec_eventExpand : exec (.eventExpand c t pick f) s = execEventExpand c t pick f s := rfl

theorem eventExpand_notDelivering (h : ∀ n, (s.tile c.val t.val).phase ≠ .deliver n) :
    exec (.eventExpand c t pick f) s = .next s := by
  rw [exec_eventExpand, execEventExpand]
  split
  case h_1 n hn => exact absurd hn (h n)
  case h_2 => rfl

/-- In delivery with no such event only a full far-wait list is noted (R74). -/
theorem eventExpand_none (hphase : (s.tile c.val t.val).phase = .deliver n)
    (hpick : (s.expandable c.val t.val n)[pick]? = none) :
    exec (.eventExpand c t pick f) s =
      .next (if 256 ≤ (s.tile c.val t.val).farWait.length then s.bumpAt Reg.FARWAIT_STALL c.val else s) := by
  simp only [exec_eventExpand, execEventExpand, hphase, hpick]

variable (hphase : (s.tile c.val t.val).phase = .deliver n) (hpick : (s.expandable c.val t.val n)[pick]? = some p)
include hphase hpick

theorem eventExpand_paused (hpause : (s.tileProgress c.val t.val).prePaused c.val t.val p = true) :
    exec (.eventExpand c t pick f) s = .next ((s.tileProgress c.val t.val).bumpAt Reg.PRE_PAUSE c.val) := by
  simp only [exec_eventExpand, execEventExpand, hphase, hpick, hpause, if_true]

variable (hpause : (s.tileProgress c.val t.val).prePaused c.val t.val p = false)
include hpause

theorem eventExpand_bad (hbad : p.ev.payBad = true ∨ f.parked = true) :
    exec (.eventExpand c t pick f) s = .next (
      let s1 := ((s.tileProgress c.val t.val).reinitAll c.val t.val n f.neurons).accLost c.val t.val n f.accs
      ((s1.setTile c.val t.val ((s1.tile c.val t.val).remove n p)).rowEcc c.val t.val n
        ((s1.tile c.val t.val).parkedAt n p)).discardCycle c.val) := by
  simp only [exec_eventExpand, execEventExpand, hphase, hpick, hpause, hbad, if_true, Bool.false_eq_true, if_false]

variable (hgood : p.ev.payBad = false) (hparked : f.parked = false)
include hgood hparked

theorem eventExpand_far (hfar : natBit p.ev.row 17 = true) :
    exec (.eventExpand c t pick f) s = .next ((((s.tileProgress c.val t.val).reinitAll c.val t.val n f.neurons).accLost
      c.val t.val n f.accs).reachFar c.val t.val n p) := by
  simp only [exec_eventExpand, execEventExpand, hphase, hpick, hpause, hgood, hparked, hfar, if_true, Bool.false_eq_true,
    or_self, if_false]

theorem eventExpand_near (hnear : natBit p.ev.row 17 = false) :
    exec (.eventExpand c t pick f) s = .next (
      let s1 := ((s.tileProgress c.val t.val).reinitAll c.val t.val n f.neurons).accLost c.val t.val n f.accs
      (s1.setTile c.val t.val ((s1.tile c.val t.val).remove n p)).expandNear c.val t.val n p f) := by
  simp only [exec_eventExpand, execEventExpand, hphase, hpick, hpause, hgood, hparked, hnear, Bool.false_eq_true,
    or_self, if_false]

end Expand

/-! ### DELIVERY_END (R82) -/

section DeliveryEnd

variable {n : Nat}

theorem exec_deliveryEnd : exec (.deliveryEnd c t) s = execDeliveryEnd c t s := rfl

theorem deliveryEnd_ends (hphase : (s.tile c.val t.val).phase = .deliver n) (hknown : n ≤ s.fabric.known + 1)
    (hslot : ((s.tile c.val t.val).slot (n % 64)).events = []) (hback : (s.tile c.val t.val).backOf n = [])
    (hfar : (s.tile c.val t.val).farWait = []) (hspill : s.spillLeft c.val n = false) :
    exec (.deliveryEnd c t) s =
      .next (s.setTile c.val t.val { (s.tile c.val t.val).endDelivery n with progressAt := s.now }) := by
  simp only [exec_deliveryEnd, execDeliveryEnd, hphase]
  exact if_pos ⟨hknown, hslot, hback, hfar, by simp [hspill]⟩

theorem deliveryEnd_waits (hphase : (s.tile c.val t.val).phase = .deliver n)
    (h : s.fabric.known + 1 < n ∨ ((s.tile c.val t.val).slot (n % 64)).events ≠ [] ∨ (s.tile c.val t.val).backOf n ≠ [] ∨
      (s.tile c.val t.val).farWait ≠ [] ∨ s.spillLeft c.val n = true) :
    exec (.deliveryEnd c t) s = .next s := by
  simp only [exec_deliveryEnd, execDeliveryEnd, hphase]
  refine if_neg fun ⟨hknown, hslot, hback, hfar, hspill⟩ => ?_
  rcases h with h | h | h | h | h
  · omega
  · exact h hslot
  · exact h hback
  · exact h hfar
  · simp [h] at hspill

theorem deliveryEnd_notDelivering (h : ∀ n, (s.tile c.val t.val).phase ≠ .deliver n) :
    exec (.deliveryEnd c t) s = .next s := by
  rw [exec_deliveryEnd, execDeliveryEnd]
  split
  case h_1 n hn => exact absurd hn (h n)
  case h_2 => rfl

end DeliveryEnd

/-! ### UPDATE_PHASE (R47) -/

section Update

variable {n : Nat} {l : List Nat} {bad : Flaws}

theorem exec_updatePhase : exec (.updatePhase c t bad) s = execUpdatePhase c t bad s := rfl

theorem updatePhase_waits (h : ∀ n, ((s.tile c.val t.val).phase = .closed n → s.fabric.known + 1 < n) ∧
      ∀ l, (s.tile c.val t.val).phase ≠ .update n l) :
    exec (.updatePhase c t bad) s = .next s := by
  rw [exec_updatePhase, execUpdatePhase]
  split
  case h_1 n hn => exact if_neg (Nat.not_le.mpr ((h n).1 hn))
  case h_2 n l hn => exact absurd hn ((h n).2 l)
  case h_3 => rfl

/-- A closed step whose predecessor is complete, and a step in update, run on from their list of neurons. -/
theorem updatePhase_runs (h : (s.tile c.val t.val).phase = .closed n ∧ n ≤ s.fabric.known + 1 ∧
      l = (s.tile c.val t.val).updateList ∨ (s.tile c.val t.val).phase = .update n l) :
    exec (.updatePhase c t bad) s = .next ((((s.tileProgress c.val t.val).reinitAll c.val t.val n bad.neurons).accLost
      c.val t.val n bad.accs).runUpdate c.val t.val n l) := by
  rcases h with ⟨hphase, hknown, rfl⟩ | hphase
  · simp only [exec_updatePhase, execUpdatePhase, hphase, hknown, if_true]
  · simp only [exec_updatePhase, execUpdatePhase, hphase]

end Update

/-! ### DEST_LIST_READ (R60, R127) -/

section Reader

variable {axonBad destBad : Bool} {f : Firing} {l : List Firing}

theorem exec_destListRead : exec (.destListRead c t axonBad destBad) s = execDestListRead c t axonBad destBad s := rfl

theorem destListRead_none (h : (s.tile c.val t.val).firing = []) :
    exec (.destListRead c t axonBad destBad) s = .next (s.countThrottle c.val (s.tile c.val t.val).throttle) := by
  simp only [exec_destListRead, execDestListRead, h]

/-- The state in which the reader judges whether it may read in this cycle: the cycle counted and waited (R127). -/
def readerCycle (s : State) (c t : Nat) : State :=
  ((s.countThrottle c (s.tile c t).throttle).setTile c t
    { s.tile c t with readerWait := (s.tile c t).readerWait + 1 }).tileProgress c t

/-- With a firing the reader waits out its cycles and a full egress queue, and reads otherwise. -/
theorem destListRead_firing (h : (s.tile c.val t.val).firing = f :: l) :
    exec (.destListRead c t axonBad destBad) s = .next (
      if (s.tile c.val t.val).throttle = 3 ∨
          (s.tile c.val t.val).readerWait + 1 < throttleCycles (s.tile c.val t.val).throttle ∨
          128 ≤ (s.tile c.val t.val).egress.length then readerCycle s c.val t.val
      else
        let s2 := readerCycle s c.val t.val
        let s3 := (s2.setTile c.val t.val { s2.tile c.val t.val with readerWait := 0 }).readDest c.val t.val f axonBad destBad
        if l = [] then s3.noteCounts f.step else s3) := by
  rw [exec_destListRead, execDestListRead]
  split
  case h_1 hnone => simp [hnone] at h
  case h_2 f' l' hcons =>
    obtain ⟨rfl, rfl⟩ := List.cons.inj (hcons.symm.trans h)
    exact (apply_ite Host.Outcome.next _ _ _).symm

theorem destListRead_waits (h : (s.tile c.val t.val).firing = f :: l)
    (hwait : (s.tile c.val t.val).throttle = 3 ∨
      (s.tile c.val t.val).readerWait + 1 < throttleCycles (s.tile c.val t.val).throttle ∨
      128 ≤ (s.tile c.val t.val).egress.length) :
    exec (.destListRead c t axonBad destBad) s = .next (readerCycle s c.val t.val) := by
  rw [destListRead_firing h, if_pos hwait]

theorem destListRead_reads (h : (s.tile c.val t.val).firing = f :: l) (hlevel : (s.tile c.val t.val).throttle ≠ 3)
    (hcycles : throttleCycles (s.tile c.val t.val).throttle ≤ (s.tile c.val t.val).readerWait + 1)
    (hroom : (s.tile c.val t.val).egress.length < 128) :
    exec (.destListRead c t axonBad destBad) s = .next (
      let s2 := readerCycle s c.val t.val
      let s3 := (s2.setTile c.val t.val { s2.tile c.val t.val with readerWait := 0 }).readDest c.val t.val f axonBad destBad
      if l = [] then s3.noteCounts f.step else s3) := by
  rw [destListRead_firing h, if_neg]
  rintro (h3 | hw | hfull)
  · exact hlevel h3
  · omega
  · omega

end Reader

/-- After the last destination the firing leaves the list. -/
theorem readDest_ends {c t : Nat} {f : Firing} {destBad : Bool} (h : (s.axonEntry c t f.neuron).2 ≤ f.taken) :
    s.readDest c t f false destBad = s.setTile c t { s.tile c t with firing := (s.tile c t).firing.drop 1 } := by
  simp [State.readDest, h]

theorem readDest_emits {c t : Nat} {f : Firing} {destBad : Bool} (h : f.taken < (s.axonEntry c t f.neuron).2) :
    s.readDest c t f false destBad =
      s.emitDest c t (s.axonEntry c t f.neuron).1 (s.axonEntry c t f.neuron).2 f destBad := by
  simp [State.readDest, Nat.not_le.mpr h]

/-- A firing whose axon index entry is uncorrectable ends, and the entry is put up for repair (R79). -/
theorem readDest_axonBad {c t : Nat} {f : Firing} {destBad : Bool} :
    s.readDest c t f true destBad =
      let off := ((s.tile c t).map.axonBase + 4 * f.neuron) / 8 * 8
      let s1 := s.rowEcc c t f.step off
      s1.setTile c t { s1.tile c t with
        firing := (s.tile c t).firing.drop 1, repair := (s1.tile c t).repair ++ [off] } := by
  simp only [State.readDest, if_true]

/-! ### HOLDBACK_RELEASE (R147) -/

section Holdback

variable {k : PackageId} {h : HeldBack}

theorem exec_holdbackRelease : exec (.holdbackRelease c t k) s = execHoldbackRelease c t k s := rfl

theorem holdbackRelease_none
    (hno : ((s.tile c.val t.val).holdback.find? fun h => h.engine == k.val) = none ∨ 128 ≤ (s.tile c.val t.val).egress.length) :
    exec (.holdbackRelease c t k) s = .next s := by
  rw [exec_holdbackRelease, execHoldbackRelease]
  split
  case h_1 => rfl
  case h_2 h hfind =>
    rcases hno with hno | hfull
    · simp [hno] at hfind
    · exact if_pos hfull

theorem holdbackRelease_posts
    (hfind : ((s.tile c.val t.val).holdback.find? fun h => h.engine == k.val) = some h)
    (hroom : (s.tile c.val t.val).egress.length < 128) :
    exec (.holdbackRelease c t k) s = .next (
      let r := s.postFetch (some c.val) h.ev.clu h.ev.tile (h.ev.row % 131072) (h.step + 1 + h.ev.dly) false
      if r.1 then
        (r.2.setTile c.val t.val { r.2.tile c.val t.val with
          holdback := dropFirst h (r.2.tile c.val t.val).holdback }).enterEgress c.val t.val { ev := h.ev }
      else r.2) := by
  simp only [exec_holdbackRelease, execHoldbackRelease, hfind, Nat.not_le.mpr hroom, if_false]
  split <;> rfl

end Holdback

/-! ### TILE_ACCEPT and SERVICE_EVENT_ACCEPT (R81, R119, R120, R138) -/

section Accept

variable {pay : Ecc} {ev : Event}

theorem exec_tileAccept : exec (.tileAccept c t pay) s = execTileAccept c t pay s := rfl
theorem exec_serviceEventAccept : exec (.serviceEventAccept c t) s = execServiceEventAccept c t s := rfl

theorem tileAccept_none
    (h : s.ejectTurn c.val t.val = false ∨ ∀ ev, s.ejectHead c.val t.val = some ev → ev.cls = 3) :
    exec (.tileAccept c t pay) s = .next s := by
  rw [exec_tileAccept, execTileAccept]
  split
  case h_1 => rfl
  case h_2 ev hev => exact if_pos (h.elim (fun hturn => .inr (by simp [hturn])) (fun hcls => .inl (hcls ev hev)))

theorem serviceEventAccept_none
    (h : s.ejectTurn c.val t.val = false ∨ ∀ ev, s.ejectHead c.val t.val = some ev → ev.cls ≠ 3) :
    exec (.serviceEventAccept c t) s = .next s := by
  rw [exec_serviceEventAccept, execServiceEventAccept]
  split
  case h_1 => rfl
  case h_2 ev hev => exact if_pos (h.elim (fun hturn => .inr (by simp [hturn])) (fun hcls => .inl (hcls ev hev)))

variable (hhead : s.ejectHead c.val t.val = some ev) (hturn : s.ejectTurn c.val t.val = true)
include hhead hturn

theorem tileAccept_accepts (hcls : ev.cls ≠ 3) (hfence : (s.tile c.val t.val).fenced = false) :
    exec (.tileAccept c t pay) s = .next ((s.popEject c.val t.val).acceptEvent c.val t.val
      (if pay = .uncorrectable then { ev with payBad := true } else ev)) := by
  simp [exec_tileAccept, execTileAccept, hhead, hturn, hcls, hfence]

theorem tileAccept_fenced (hcls : ev.cls ≠ 3) (hfence : (s.tile c.val t.val).fenced = true) :
    exec (.tileAccept c t pay) s = .next ((s.popEject c.val t.val).fencedDiscard c.val
      (if pay = .uncorrectable then { ev with payBad := true } else ev)) := by
  simp [exec_tileAccept, execTileAccept, hhead, hturn, hcls, hfence]

theorem serviceEventAccept_fenced (hcls : ev.cls = 3) (hfence : (s.tile c.val t.val).fenced = true) :
    exec (.serviceEventAccept c t) s = .next ((s.popEject c.val t.val).fencedDiscard c.val ev) := by
  simp [exec_serviceEventAccept, execServiceEventAccept, hhead, hturn, hcls, hfence]

/-- A doorbell counted enters the sequencer's FIFO and wakes it, or is dropped at 64 (R138). -/
theorem serviceEventAccept_doorbell {s1 : State} (hcls : ev.cls = 3) (hfence : (s.tile c.val t.val).fenced = false)
    (hs1 : (((s.popEject c.val t.val).countReceived c.val t.val ev).bumpAt Reg.EV_EJECT c.val).bumpAt Reg.SVC_ACCEPT c.val
      = s1) :
    exec (.serviceEventAccept c t) s = .next (
      if (s1.router c.val).doorbell.length < 64 then
        (s1.setRouter c.val { s1.router c.val with doorbell := (s1.router c.val).doorbell ++
          [BitVec.ofNat 32 (packFields [(0, 16, ev.val), (16, 2, ev.step), (18, 6, ev.row / 4096)])] }).wakeSeq c.val
      else (s1.bumpAt Reg.DOORBELL_DROP c.val).logGated 16 c.val (s.originOf ev)
        { cls := .drop, status := .dropped, unit := c.val, sub := t.val / 4, ref := ev.step }) := by
  simp only [exec_serviceEventAccept, execServiceEventAccept, hhead, hturn, hcls, hfence, hs1, ne_eq, not_true_eq_false,
    Bool.not_true, Bool.false_eq_true, or_self, if_false]
  split <;> rfl

end Accept

/-! ### SPILL_BUFFER_DRAIN and SPILL_READBACK (R84, R86) -/

section Spill

variable {n : Nat} {x : Nat × SpillRecord} {l line : List (Nat × SpillRecord)}

theorem exec_spillBufferDrain : exec (.spillBufferDrain c) s = execSpillBufferDrain c s := rfl
theorem exec_spillReadback : exec (.spillReadback c) s = execSpillReadback c s := rfl

theorem spillBufferDrain_waits
    (h : (s.store c.val).spillBuffer = [] ∨ 16 ≤ (s.switchQueue c.val 0).length ∨ s.drainFrom.isSome = true) :
    exec (.spillBufferDrain c) s = .next s := by
  rw [exec_spillBufferDrain, execSpillBufferDrain]
  split
  case h_1 => rfl
  case h_2 hbuffer => exact if_pos (h.resolve_left (by simp [hbuffer]))

theorem spillBufferDrain_sends (hbuffer : (s.store c.val).spillBuffer = x :: l)
    (hroom : (s.switchQueue c.val 0).length < 16) (hdrain : s.drainFrom = none)
    (hline : ((s.store c.val).spillBuffer.filter fun r => r.1 == x.1).take 8 = line) :
    exec (.spillBufferDrain c) s = .next (
      let s1 := s.setStore c.val { s.store c.val with
        spillBuffer := line.foldl (fun l r => dropFirst r l) (s.store c.val).spillBuffer,
        spillOut := (s.store c.val).spillOut ++ [(x.1, line.map (·.2))] }
      s1.setSwitchQueue c.val 0 (s1.switchQueue c.val 0 ++
        [{ kind := 1, clu := c.val, data := (line.map (·.2)).flatMap fun r => leBytes 8 r.word.toNat }])) := by
  subst hline
  simp [exec_spillBufferDrain, execSpillBufferDrain, hbuffer, hdrain, Nat.not_le.mpr hroom]

theorem spillReadback_waits
    (h : 16 ≤ (s.switchQueue (packageSwitch (s.packageAt (Assoc.getD s.spillAt c.val 0))) 5).length ∨
      s.drainFrom.isSome = true ∨ ((s.readerSteps c.val).find? fun n => (s.store c.val).headLine n != []) = none) :
    exec (.spillReadback c) s = .next s := by
  rw [exec_spillReadback, execSpillReadback]
  rcases h with h | h | h
  · exact if_pos (.inl h)
  · exact if_pos (.inr h)
  · simp only [h, ite_self]

theorem spillReadback_sends
    (hroom : (s.switchQueue (packageSwitch (s.packageAt (Assoc.getD s.spillAt c.val 0))) 5).length < 16)
    (hdrain : s.drainFrom = none)
    (hstep : ((s.readerSteps c.val).find? fun n => (s.store c.val).headLine n != []) = some n) :
    exec (.spillReadback c) s =
      .next (s.sendSpilled c.val n (packageSwitch (s.packageAt (Assoc.getD s.spillAt c.val 0)))) := by
  simp [exec_spillReadback, execSpillReadback, hdrain, hstep, Nat.not_le.mpr hroom]

end Spill

end Delivery

/-- Settles O27: the equations above, command by command. -/
theorem tileDelivery : Obligations.TileDelivery :=
  ⟨fun _ _ _ => deliveryBegin_starts, fun _ _ _ => deliveryBegin_waits,
    fun _ _ _ _ _ => eventExpand_notDelivering, fun _ _ _ _ _ _ => eventExpand_none,
    fun _ _ _ _ _ _ _ => eventExpand_paused, fun _ _ _ _ _ _ _ => eventExpand_bad,
    fun _ _ _ _ _ _ _ => eventExpand_far, fun _ _ _ _ _ _ _ => eventExpand_near,
    fun _ _ _ _ => deliveryEnd_ends, fun _ _ _ _ => deliveryEnd_waits, fun _ _ _ => deliveryEnd_notDelivering,
    fun _ _ _ _ => updatePhase_waits, fun _ _ _ _ _ _ => updatePhase_runs,
    fun _ _ _ _ _ => destListRead_none, fun _ _ _ _ _ _ _ => destListRead_waits,
    fun _ _ _ _ _ _ _ => destListRead_reads,
    fun _ _ _ _ _ => readDest_ends, fun _ _ _ _ _ => readDest_emits, fun _ _ _ _ _ => readDest_axonBad,
    fun _ _ _ _ => holdbackRelease_none, fun _ _ _ _ _ => holdbackRelease_posts,
    fun _ _ _ _ => tileAccept_none, fun _ _ _ _ _ => tileAccept_accepts, fun _ _ _ _ _ => tileAccept_fenced,
    fun _ _ _ => serviceEventAccept_none, fun _ _ _ _ => serviceEventAccept_fenced,
    fun _ _ _ _ _ hhead hturn => serviceEventAccept_doorbell hhead hturn,
    fun _ _ => spillBufferDrain_waits, fun _ _ _ _ _ => spillBufferDrain_sends,
    fun _ _ => spillReadback_waits, fun _ _ _ => spillReadback_sends⟩

end Sys2Proof.NeuronProofs
end

section
/-!
PROOFS. Writes of control words through the aliases, of neuron words and of tables, and the patrol scrubber: what stands in the way of a
bus write, what each region answers, and the cases of the commands.
-/
namespace Sys2Proof.NeuronProofs
open Sys2Proof Sys2Proof.Machine

/-! ### Little-endian numbers (R7) -/

theorem leNat_leBytes (n v : Nat) : leNat (leBytes n v) = v % 256 ^ n := by
  induction n generalizing v with
  | zero => simp [leBytes, leNat, Nat.mod_one]
  | succ n ih =>
    have hbyte : (BitVec.ofNat 8 v).toNat = v % 256 := BitVec.toNat_ofNat v 8
    rw [leBytes, leNat, ih, hbyte, Nat.pow_succ', Nat.mod_mul]

theorem leBytes_length (n v : Nat) : (leBytes n v).length = n := by
  induction n generalizing v with
  | zero => rfl
  | succ n ih => simp [leBytes, ih]

/-- A 64-bit word survives its 8 bytes. -/
theorem leNat_leBytes_word (v : BitVec 64) : leNat (leBytes 8 v.toNat) = v.toNat := by
  rw [leNat_leBytes]
  exact Nat.mod_eq_of_lt v.isLt

/-! ### Bus writes (R273) -/

section BusWrite

variable {m : Master} {a n : Nat} {data : List Byte} {s : State}

theorem accessCheck_denied {d : Option Obj × Bool} (hin : outside s.variant a = false)
    (hdenial : s.denial m true a = some d) : s.accessCheck m true a n = (.security, s.denied m a n d) := by
  simp [State.accessCheck, hin, hdenial]

theorem accessCheck_width (hin : outside s.variant a = false) (hdenial : s.denial m true a = none)
    (hjudge : judgesItself s.variant true a = false) (hwidth : ¬ (n ∈ widthsAt s.variant true a ∧ a % n = 0)) :
    s.accessCheck m true a n = (.badFormat, s.badAddr m a n) := by
  have hmis : n ∈ widthsAt s.variant true a → a % n ≠ 0 := fun hn h0 => hwidth ⟨hn, h0⟩
  simpa [State.accessCheck, hin, hdenial, hjudge, Decidable.or_iff_not_imp_left] using hmis

theorem accessCheck_ok (hin : outside s.variant a = false) (hdenial : s.denial m true a = none)
    (hwidth : n ∈ widthsAt s.variant true a) (halign : a % n = 0) : s.accessCheck m true a n = (.ok, s) := by
  simp [State.accessCheck, hin, hdenial, hwidth, halign]

theorem eccRead_clean : s.eccRead m a .clean = (.ok, s) := rfl

/-- A write that meets a bar is answered by it. -/
theorem busWrite_barred {st : Status} {t : State} (hcheck : s.accessCheck m true a data.length = (st, t)) (hst : st ≠ .ok) :
    s.busWrite m a data .clean = (st, t) := by
  simp [State.busWrite, hcheck, hst]

/-- A write that meets no bar and no error is answered by its region. -/
theorem busWrite_clean (hcheck : s.accessCheck m true a data.length = (.ok, s)) :
    s.busWrite m a data .clean = s.writeRegion m a data := by
  simp only [State.busWrite, hcheck, ne_eq, not_true_eq_false, if_false]
  split
  case isTrue hok =>
    split
    · rw [eccRead_clean]; exact Prod.ext hok.2.symm rfl
    · rfl
  case isFalse => rfl

end BusWrite

/-! ### The aliases of the control banks (R280) -/

/-- The address of a control offset among the set or the clear aliases. -/
def aliasAddr (set : Bool) (o : Nat) : Nat := (if set then 0x5000000 else 0x6000000) + o

/-- The region of the set or the clear aliases. -/
def aliasRegion (set : Bool) (o : Nat) : Region := if set then .setAlias o else .clearAlias o

theorem regionOf_alias (v : Variant) (set : Bool) {o : Nat} (ho : o < 0x80000) :
    regionOf v (aliasAddr set o) = aliasRegion set o := by
  cases set
  · simp only [regionOf, aliasAddr, aliasRegion, commonsSize, controlBase, Bool.false_eq_true, if_false]
    rw [if_neg (by omega), if_neg (by omega), if_neg (by omega), if_pos (by omega), Nat.add_sub_cancel_left]
  · simp only [regionOf, aliasAddr, aliasRegion, commonsSize, controlBase, if_true]
    rw [if_neg (by omega), if_neg (by omega), if_pos (by omega), Nat.add_sub_cancel_left]

section Alias

variable {m : Master} {set : Bool} {o : Nat} {data : List Byte} {s : State}

/-- Both bases are multiples of 8, so the address is aligned as its offset is. -/
theorem aliasAddr_mod {n : Nat} (hn : n = 4 ∨ n = 8) : aliasAddr set o % n = o % n := by
  unfold aliasAddr
  split <;> rcases hn with rfl | rfl <;> omega

theorem outside_alias (v : Variant) (ho : o < 0x80000) : outside v (aliasAddr set o) = false := by
  cases set <;> simp [outside, regionOf_alias, ho, aliasRegion]

theorem denial_alias (ho : o < 0x80000) : s.denial m true (aliasAddr set o) = none := by
  cases set <;> simp [State.denial, regionOf_alias, ho, aliasRegion]

theorem widthsAt_alias (v : Variant) (ho : o < 0x80000) : widthsAt v true (aliasAddr set o) = [4, 8] := by
  cases set <;> simp [widthsAt, regionOf_alias, ho, aliasRegion]

theorem judgesItself_alias (v : Variant) (ho : o < 0x80000) : judgesItself v true (aliasAddr set o) = false := by
  cases set <;> simp [judgesItself, regionOf_alias, ho, aliasRegion]

theorem writeRegion_alias (ho : o < 0x80000) : s.writeRegion m (aliasAddr set o) data = s.aliasWrite set o data := by
  cases set <;> simp [State.writeRegion, regionOf_alias, ho, aliasRegion]

theorem busWrite_alias (ho : o < 0x80000) (hlen : data.length = 4 ∨ data.length = 8) (halign : o % data.length = 0) :
    s.busWrite m (aliasAddr set o) data .clean = s.aliasWrite set o data := by
  rw [busWrite_clean (accessCheck_ok (outside_alias _ ho) (denial_alias ho) ?_ ?_), writeRegion_alias ho]
  · simpa [widthsAt_alias _ ho] using hlen
  · rw [aliasAddr_mod hlen, halign]

theorem busWrite_alias_width (ho : o < 0x80000)
    (hbad : ¬ ((data.length = 4 ∨ data.length = 8) ∧ o % data.length = 0)) :
    s.busWrite m (aliasAddr set o) data .clean = (.badFormat, s.badAddr m (aliasAddr set o) data.length) := by
  refine busWrite_barred (accessCheck_width (outside_alias _ ho) (denial_alias ho) (judgesItself_alias _ ho) ?_) (by decide)
  rintro ⟨hlen, halign⟩
  have hlen : data.length = 4 ∨ data.length = 8 := by simpa [widthsAt_alias _ ho] using hlen
  exact hbad ⟨hlen, by rw [← aliasAddr_mod (set := set) hlen, halign]⟩

theorem aliasWrite_word (ho : o < 0x78000) : s.aliasWrite set o data =
    (.ok, (s.setWord (controlBase + o) data.length
      (if set then BitVec.ofNat 64 (s.word (controlBase + o) data.length) ||| BitVec.ofNat 64 (leNat data)
        else BitVec.ofNat 64 (s.word (controlBase + o) data.length) &&& ~~~BitVec.ofNat 64 (leNat data)).toNat).bump
      Reg.ALIAS_OPS) := by
  simp only [State.aliasWrite, Nat.not_le.mpr ho, if_false]

theorem aliasWrite_block (ho : 0x78000 ≤ o) : s.aliasWrite set o data = (.badFormat, s) := by
  simp only [State.aliasWrite, ho, if_true]

/-- SET_ALIAS_WRITE or CLEAR_ALIAS_WRITE. -/
def aliasInstr (set : Bool) (m : Master) (addr : Nat) (data : List Byte) : Instr :=
  if set then .setAliasWrite m addr data else .clearAliasWrite m addr data

theorem exec_aliasInstr {addr : Nat} : exec (aliasInstr set m addr data) s =
    .next ((s.busWrite m (aliasAddr set (addr % 0x80000)) data .clean).2.respond
      (s.busWrite m (aliasAddr set (addr % 0x80000)) data .clean).1) := by
  cases set <;> rfl

/-- Reducing an address to its control offset keeps its alignment. -/
theorem offset_aligned {addr n : Nat} (hn : n = 4 ∨ n = 8) : addr % 0x80000 % n = addr % n := by
  rcases hn with rfl | rfl <;> omega

theorem offset_lt {addr : Nat} : addr % 0x80000 < 0x80000 := Nat.mod_lt _ (by decide)

section

variable {addr : Nat} (hlen : data.length = 4 ∨ data.length = 8) (halign : addr % data.length = 0)
include hlen halign

theorem aliasInstr_word (hword : addr % 0x80000 < 0x78000) : exec (aliasInstr set m addr data) s = .next (
    let a := controlBase + addr % 0x80000
    let old := BitVec.ofNat 64 (s.word a data.length)
    let mask := BitVec.ofNat 64 (leNat data)
    ((s.setWord a data.length (if set then old ||| mask else old &&& ~~~mask).toNat).bump Reg.ALIAS_OPS).respond .ok) := by
  rw [exec_aliasInstr, busWrite_alias offset_lt hlen (by rw [offset_aligned hlen, halign]), aliasWrite_word hword]

theorem aliasInstr_block (hblock : 0x78000 ≤ addr % 0x80000) :
    exec (aliasInstr set m addr data) s = .next (s.respond .badFormat) := by
  rw [exec_aliasInstr, busWrite_alias offset_lt hlen (by rw [offset_aligned hlen, halign]), aliasWrite_block hblock]

end

theorem aliasInstr_width {addr : Nat} (hbad : ¬ ((data.length = 4 ∨ data.length = 8) ∧ addr % data.length = 0)) :
    exec (aliasInstr set m addr data) s =
      .next ((s.badAddr m (aliasAddr set (addr % 0x80000)) data.length).respond .badFormat) := by
  rw [exec_aliasInstr, busWrite_alias_width offset_lt]
  exact fun ⟨hlen, halign⟩ => hbad ⟨hlen, by rw [← offset_aligned hlen, halign]⟩

end Alias

/-! ### Tile windows (R31, R76, R274) -/

section TileWindow

variable {m : Master} {a c t off : Nat} {data : List Byte} {s : State}

theorem noteRowWrite_ok {n : Nat} {u : State} : s.noteRowWrite (s.rowsIn a n) (.ok, u) = (.ok, s.noted u a n) := by
  simp only [State.noteRowWrite, State.noted, true_and]
  split <;> rfl

theorem noteRowWrite_of_ne_ok {l : List (Nat × RowName × Nat)} {st : Status} {u : State} (hst : st ≠ .ok) :
    s.noteRowWrite l (st, u) = (st, u) := by
  simp [State.noteRowWrite, hst]

theorem tileWrite_fenced (hfence : s.isFenced c t = true) :
    s.tileWrite m c t off data = (.degraded, s.bump Reg.FENCED_WIN) := by
  simp only [State.tileWrite, hfence, if_true]

theorem tileWrite_neuron {i : Nat} (hfence : s.isFenced c t = false) (hoff : off < 0x60000)
    (hpart : s.tilePart c t off = .neuron i) (hlen : data.length = 8) :
    s.tileWrite m c t off data = s.writeNeuron c t i (leNat data) := by
  simp [State.tileWrite, hfence, Nat.not_le.mpr hoff, hpart, hlen]

theorem tileWrite_tables (hfence : s.isFenced c t = false) (hoff : off < 0x60000) (hpart : s.tilePart c t off = .tables) :
    s.tileWrite m c t off data = s.writeTables c (sramAddr c t off) data := by
  simp [State.tileWrite, hfence, Nat.not_le.mpr hoff, hpart]

theorem writeTables_idle (hbusy : s.fabricBusy = false) : s.writeTables c a data = (.ok, s.setBytes a data) := by
  simp [State.writeTables, hbusy]

theorem writeTables_busy (hbusy : s.fabricBusy = true) :
    s.writeTables c a data = (.refused, s.bumpAt Reg.ROW_WIN_REFUSED c) := by
  simp [State.writeTables, hbusy]

variable (hregion : regionOf s.variant a = .tile c t off)
include hregion

theorem busWrite_tile (hoff : off < 0x60000) (hlen : data.length = 4 ∨ data.length = 8) (halign : a % data.length = 0)
    (hreach : reachesTiles m = true) :
    s.busWrite m a data .clean = s.noteRowWrite (s.rowsIn a data.length) (s.tileWrite m c t off data) := by
  rw [busWrite_clean (accessCheck_ok ?_ ?_ ?_ halign), State.writeRegion, hregion]
  · simp only [outside, hregion, decide_eq_false_iff_not]; omega
  · simp [State.denial, hregion, hreach]
  · simpa [widthsAt, hregion, hoff] using hlen

/-- A master that R26 does not list is answered SECURITY, with nothing counted. -/
theorem busWrite_tile_denied (hoff : off < 0x60040) (hreach : reachesTiles m = false) :
    s.busWrite m a data .clean = (.security, s) := by
  have hin : outside s.variant a = false := by
    simp only [outside, hregion, decide_eq_false_iff_not]; omega
  have hdenial : s.denial m true a = some (none, false) := by simp [State.denial, hregion, hreach]
  rw [busWrite_barred (accessCheck_denied hin hdenial) (by decide)]
  simp [State.denied]

end TileWindow

/-! ### NEURON_WORD_WRITE (R31) -/

section NeuronWord

variable {m : Master} {c : ClusterId} {tl : TileId} {i : Fin 16384} {v : BitVec 64} {off : Nat} {s : State}

/-- What load has built of a neuron's class, and a write may not change: PRECISE and whether the neuron is tonic (R31). -/
abbrev sameBuild (s : State) (old new : Neuron) : Prop :=
  (s.classAt old.cls s.fabric.learned).precise = (s.classAt new.cls s.fabric.learned).precise ∧
    ((s.classAt old.cls s.fabric.learned).bias = 0 ↔ (s.classAt new.cls s.fabric.learned).bias = 0)

theorem writeNeuron_ok {c t i v : Nat} (hbusy : s.fabricBusy = false)
    (hbuild : sameBuild s (s.neuron c t i) (Neuron.ofWord v)) : s.writeNeuron c t i v =
      (.ok, s.setNeuron c t i { Neuron.ofWord v with dead := (s.neuron c t i).dead }) := by
  obtain ⟨hprecise, hbias⟩ := hbuild
  simp [State.writeNeuron, hbusy, hprecise, hbias]

theorem writeNeuron_refused {c t i v : Nat}
    (h : s.fabricBusy = true ∨ ¬ sameBuild s (s.neuron c t i) (Neuron.ofWord v)) :
    s.writeNeuron c t i v = (.refused, s.bumpAt Reg.WIN_REFUSED c) := by
  refine if_pos ?_
  rcases h with hbusy | hbuild
  · exact .inl hbusy
  · exact .inr (by simpa [sameBuild, Decidable.or_iff_not_imp_left] using hbuild)

theorem exec_neuronWordWrite : exec (.neuronWordWrite m c tl i v) s = execNeuronWordWrite m c tl i v s := rfl

theorem neuronWordWrite_none (hn : (s.tile c.val tl.val).map.n ≤ i.val) :
    exec (.neuronWordWrite m c tl i v) s = .next (s.respond .badFormat) := by
  rw [exec_neuronWordWrite, execNeuronWordWrite, if_pos hn]

variable (hn : i.val < (s.tile c.val tl.val).map.n)
  (hregion : regionOf s.variant (s.neuronAddr c.val tl.val i.val) = .tile c.val tl.val off)
include hn hregion

theorem neuronWordWrite_denied (hoff : off < 0x60040) (hreach : reachesTiles m = false) :
    exec (.neuronWordWrite m c tl i v) s = .next (s.respond .security) := by
  rw [exec_neuronWordWrite, execNeuronWordWrite, if_neg (by omega), busWrite_tile_denied hregion hoff hreach]

variable (hoff : off < 0x60000) (halign : s.neuronAddr c.val tl.val i.val % 8 = 0)
  (hpart : s.tilePart c.val tl.val off = .neuron i.val) (hreach : reachesTiles m = true)
include hoff halign hreach

/-- The write of a neuron word reaches the tile window. -/
theorem neuronWordWrite_tile {st : Status} {u : State}
    (hwrite : s.noteRowWrite (s.rowsIn (s.neuronAddr c.val tl.val i.val) 8)
      (s.tileWrite m c.val tl.val off (leBytes 8 v.toNat)) = (st, u)) :
    exec (.neuronWordWrite m c tl i v) s = .next (u.respond st) := by
  have hlen := leBytes_length 8 v.toNat
  rw [exec_neuronWordWrite, execNeuronWordWrite, if_neg (by omega),
    busWrite_tile hregion hoff (.inr hlen) (by rw [hlen, halign]) hreach, hlen, hwrite]

theorem neuronWordWrite_fenced (hfence : s.isFenced c.val tl.val = true) :
    exec (.neuronWordWrite m c tl i v) s = .next ((s.bump Reg.FENCED_WIN).respond .degraded) := by
  refine neuronWordWrite_tile hn hregion hoff halign hreach ?_
  rw [tileWrite_fenced hfence, noteRowWrite_of_ne_ok (by decide)]

variable (hfence : s.isFenced c.val tl.val = false)
include hpart hfence

theorem neuronWordWrite_ok (hbusy : s.fabricBusy = false)
    (hbuild : sameBuild s (s.neuron c.val tl.val i.val) (Neuron.ofWord v.toNat)) :
    exec (.neuronWordWrite m c tl i v) s = .next ((s.noted (s.setNeuron c.val tl.val i.val
      { Neuron.ofWord v.toNat with dead := (s.neuron c.val tl.val i.val).dead })
      (s.neuronAddr c.val tl.val i.val) 8).respond .ok) := by
  refine neuronWordWrite_tile hn hregion hoff halign hreach ?_
  rw [tileWrite_neuron hfence hoff hpart (leBytes_length _ _), leNat_leBytes_word, writeNeuron_ok hbusy hbuild,
    noteRowWrite_ok]

theorem neuronWordWrite_refused
    (h : s.fabricBusy = true ∨ ¬ sameBuild s (s.neuron c.val tl.val i.val) (Neuron.ofWord v.toNat)) :
    exec (.neuronWordWrite m c tl i v) s = .next ((s.bumpAt Reg.WIN_REFUSED c.val).respond .refused) := by
  refine neuronWordWrite_tile hn hregion hoff halign hreach ?_
  rw [tileWrite_neuron hfence hoff hpart (leBytes_length _ _), leNat_leBytes_word, writeNeuron_refused h,
    noteRowWrite_of_ne_ok (by decide)]

end NeuronWord

/-! ### ROW_TABLE_WRITE (R76) -/

section RowTable

variable {m : Master} {addr : Nat} {data : List Byte} {s : State}

theorem exec_rowTableWrite : exec (.rowTableWrite m addr data) s =
    if s.tableAt addr = true then
      .next ((s.busWrite m addr data .clean).2.respond (s.busWrite m addr data .clean).1)
    else .next s := by
  show (if (!s.tableAt addr) = true then _ else _) = _
  cases s.tableAt addr <;> rfl

theorem rowTableWrite_none (h : s.tableAt addr = false) : exec (.rowTableWrite m addr data) s = .next s := by
  rw [exec_rowTableWrite, h]; rfl

theorem rowTableWrite_table {st : Status} {u : State} (htable : s.tableAt addr = true)
    (hwrite : s.busWrite m addr data .clean = (st, u)) : exec (.rowTableWrite m addr data) s = .next (u.respond st) := by
  rw [exec_rowTableWrite, if_pos htable, hwrite]

section TileTable

variable {c t off : Nat} (hregion : regionOf s.variant addr = .tile c t off) (hpart : s.tilePart c t off = .tables)
include hregion hpart

theorem tableAt_tile : s.tableAt addr = true := by simp [State.tableAt, hregion, hpart]

variable (hoff : off < 0x60000)
include hoff

theorem rowTableWrite_denied (hreach : reachesTiles m = false) :
    exec (.rowTableWrite m addr data) s = .next (s.respond .security) :=
  rowTableWrite_table (tableAt_tile hregion hpart) (busWrite_tile_denied hregion (by omega) hreach)

variable (hlen : data.length = 4 ∨ data.length = 8) (halign : addr % data.length = 0) (hreach : reachesTiles m = true)
include hlen halign hreach

theorem rowTableWrite_fenced (hfence : s.isFenced c t = true) :
    exec (.rowTableWrite m addr data) s = .next ((s.bump Reg.FENCED_WIN).respond .degraded) := by
  refine rowTableWrite_table (tableAt_tile hregion hpart) ?_
  rw [busWrite_tile hregion hoff hlen halign hreach, tileWrite_fenced hfence, noteRowWrite_of_ne_ok (by decide)]

variable (hfence : s.isFenced c t = false)
include hfence

theorem rowTableWrite_ok (hbusy : s.fabricBusy = false) : exec (.rowTableWrite m addr data) s =
    .next ((s.noted (s.setBytes (sramAddr c t off) data) addr data.length).respond .ok) := by
  refine rowTableWrite_table (tableAt_tile hregion hpart) ?_
  rw [busWrite_tile hregion hoff hlen halign hreach, tileWrite_tables hfence hoff hpart, writeTables_idle hbusy,
    noteRowWrite_ok]

theorem rowTableWrite_busy (hbusy : s.fabricBusy = true) :
    exec (.rowTableWrite m addr data) s = .next ((s.bumpAt Reg.ROW_WIN_REFUSED c).respond .refused) := by
  refine rowTableWrite_table (tableAt_tile hregion hpart) ?_
  rw [busWrite_tile hregion hoff hlen halign hreach, tileWrite_tables hfence hoff hpart, writeTables_busy hbusy,
    noteRowWrite_of_ne_ok (by decide)]

end TileTable

section Directory

variable {c off : Nat} (hregion : regionOf s.variant addr = .ddr off) (howner : s.farDirOwner addr = some c)
  (hdenial : s.denial m true addr = none) (hlen : data.length ∈ [8, 16, 32, 64]) (halign : addr % data.length = 0)
include hregion howner hdenial hlen halign

/-- The write of a far row directory is answered as one of its cluster's tables. -/
theorem rowTableWrite_directory {st : Status} {u : State} (hwrite : s.writeTables c addr data = (st, u)) :
    exec (.rowTableWrite m addr data) s = .next (u.respond st) := by
  refine rowTableWrite_table (by simp [State.tableAt, hregion, howner]) ?_
  rw [busWrite_clean (accessCheck_ok (by simp [outside, hregion]) hdenial (by simpa [widthsAt, hregion] using hlen) halign)]
  simp [State.writeRegion, hregion, howner, hwrite]

theorem rowTableWrite_directory_ok (hbusy : s.fabricBusy = false) :
    exec (.rowTableWrite m addr data) s = .next ((s.setBytes addr data).respond .ok) :=
  rowTableWrite_directory hregion howner hdenial hlen halign (writeTables_idle hbusy)

theorem rowTableWrite_directory_busy (hbusy : s.fabricBusy = true) :
    exec (.rowTableWrite m addr data) s = .next ((s.bumpAt Reg.ROW_WIN_REFUSED c).respond .refused) :=
  rowTableWrite_directory hregion howner hdenial hlen halign (writeTables_busy hbusy)

end Directory

end RowTable

/-! ### PATROL_SCRUB (R292) -/

theorem regionOf_ddr (v : Variant) {o : Nat} (ho : o < v.usable) : regionOf v (ddrBase + o) = .ddr o := by
  have hbase : ddrBase = 0x1000000000 := rfl
  unfold regionOf commonsSize controlBase tackBase queueBase hitchBase stableBase
  rw [if_neg (by omega), if_neg (by omega), if_neg (by omega), if_neg (by omega), if_neg (by omega), if_neg (by omega),
    if_neg (by omega), if_neg (by omega), if_neg (by omega), if_pos (by omega), Nat.add_sub_cancel_left]

section Scrub

variable {line : Nat} {ecc : Ecc} {s : State}

/-- What the error code finds in a line of LPDDR5X: counted, and recorded where uncorrectable. -/
theorem eccRead_ddr {m : Master} {a o : Nat} (hregion : regionOf s.variant a = .ddr o) : (s.eccRead m a ecc).2 =
    match ecc with
    | .clean => s
    | .corrected => s.bump Reg.DDR_CORR
    | .uncorrectable => (s.bump Reg.DDR_UNCORR).logFault { cls := .memUncorr, status := .eccUncorr, ref := a } := by
  cases ecc <;> simp only [State.eccRead, hregion]

theorem exec_patrolScrub : exec (.patrolScrub line ecc) s = execPatrolScrub line ecc s := rfl

theorem patrolScrub_reads (hready : s.reg Reg.DDR_STATE = 2) (hline : line * 64 < s.variant.usable) :
    exec (.patrolScrub line ecc) s = .next (
      let t := match ecc with
        | .clean => s
        | .corrected => s.bump Reg.DDR_CORR
        | .uncorrectable => (s.bump Reg.DDR_UNCORR).logFault
            { cls := .memUncorr, status := .eccUncorr, ref := ddrBase + line * 64 }
      if line * 64 + 64 = s.variant.usable then t.bump Reg.SCRUB_PASSES else t) := by
  rw [exec_patrolScrub, execPatrolScrub, if_neg (by simp [hready, hline]), eccRead_ddr (regionOf_ddr _ hline)]

theorem patrolScrub_none (h : s.reg Reg.DDR_STATE ≠ 2 ∨ s.variant.usable ≤ line * 64) :
    exec (.patrolScrub line ecc) s = .next s := by
  rw [exec_patrolScrub, execPatrolScrub, if_pos h]

end Scrub

/-- Settles O53: both aliases by one proof, then the cases of the tile window, the far row directory and the
scrubber. -/
theorem aliasNeuronTableAndScrub : Obligations.AliasNeuronTableAndScrub :=
  ⟨fun _ _ _ _ => aliasInstr_word (set := true), fun _ _ _ _ => aliasInstr_block (set := true),
    fun _ _ _ _ => aliasInstr_width (set := true),
    fun _ _ _ _ => aliasInstr_word (set := false), fun _ _ _ _ => aliasInstr_block (set := false),
    fun _ _ _ _ => aliasInstr_width (set := false),
    fun _ _ _ _ _ _ _ hn hregion hoff halign hpart hreach hfence hbusy hprecise hbias =>
      neuronWordWrite_ok hn hregion hoff halign hpart hreach hfence hbusy ⟨hprecise, hbias⟩,
    fun _ _ _ _ _ _ _ hn hregion hoff halign hpart hreach hfence h =>
      neuronWordWrite_refused hn hregion hoff halign hpart hreach hfence (h.imp_right Classical.not_and_iff_not_or_not.mpr),
    fun _ _ _ _ _ _ _ hn hregion hoff halign _ hreach => neuronWordWrite_fenced hn hregion hoff halign hreach,
    fun _ _ _ _ _ _ _ => neuronWordWrite_denied, fun _ _ _ _ _ _ => neuronWordWrite_none,
    fun _ _ _ _ _ _ _ => rowTableWrite_ok, fun _ _ _ _ _ _ _ => rowTableWrite_busy,
    fun _ _ _ _ _ _ _ => rowTableWrite_fenced, fun _ _ _ _ _ _ _ => rowTableWrite_denied,
    fun _ _ _ _ _ _ => rowTableWrite_directory_ok, fun _ _ _ _ _ _ => rowTableWrite_directory_busy,
    fun _ _ _ _ => rowTableWrite_none, fun _ _ _ => patrolScrub_reads, fun _ _ _ => patrolScrub_none⟩

end Sys2Proof.NeuronProofs
end

section
/-!
PROOFS. The commands of single dictionary objects: a write that the access allows is answered by the object's own command, whose cases
are stated one by one.
-/
namespace Sys2Proof.NeuronProofs
open Sys2Proof Sys2Proof.Machine

/-! ### Writes of objects (R355, R356) -/

/-- A row that is a write of an object answers what the object's command `f` gives, where the access may be made. -/
theorem exec_of_writeObject {instr : Instr} {s u : State} {path : Path} {index sub : Nat} {f : State → Status × State}
    {st : Status} (hexec : exec instr s = .next (s.writeObject path index sub f))
    (haccess : s.accessStatus path true index sub = .ok) (hf : f s = (st, u)) : exec instr s = .next (u.respond st) := by
  simp only [hexec, State.writeObject, haccess, hf]

/-! ### Several objects set to 0 -/

/-- The objects `o i` of a list of numbers set to 0. -/
def clearEach (o : Nat → Obj) (l : List Nat) (s : State) : State := l.foldl (fun s i => s.setReg (o i) 0) s

/-- Setting objects changes the register map alone. -/
theorem clearEach_frame (o : Nat → Obj) (l : List Nat) (s : State) : ∃ r, clearEach o l s = { s with regs := r } := by
  induction l generalizing s with
  | nil => exact ⟨s.regs, rfl⟩
  | cons i l ih => exact ih (s.setReg (o i) 0)

theorem reg_clearEach_of_zero (o : Nat → Obj) (l : List Nat) {p : Obj} {s : State} (h : s.reg p = 0) :
    (clearEach o l s).reg p = 0 := by
  induction l generalizing s with
  | nil => exact h
  | cons i l ih => exact ih (by rw [State.reg_setReg, h, ite_self])

theorem reg_clearEach_of_mem {o : Nat → Obj} {l : List Nat} {s : State} {i : Nat} (hi : i ∈ l) :
    (clearEach o l s).reg (o i) = 0 := by
  induction hi generalizing s with
  | head l => exact reg_clearEach_of_zero o l (State.reg_setReg_same s _ _)
  | tail j _ ih => exact ih

theorem reg_clearEach_other {o : Nat → Obj} {l : List Nat} {p : Obj} (h : ∀ i ∈ l, (o i).key ≠ p.key) (s : State) :
    (clearEach o l s).reg p = s.reg p := by
  induction l generalizing s with
  | nil => rfl
  | cons i l ih =>
    rw [List.forall_mem_cons] at h
    exact (ih h.2 _).trans (State.reg_setReg_other s h.1 0)

/-! ### CLASS_COMMIT (R34, R35) -/

section ClassCommit

variable {path : Path} {k : ClassId} {s : State}

/-- A staged entry keeps what load has built of its class: PRECISE and whether the class is tonic (R34). -/
abbrev stagedKeepsBuild (s : State) (k : Nat) : Prop :=
  (s.stagedClass k).precise = (s.classAt k (s.reg Reg.STEP_RELEASED + 1)).precise ∧
    ((s.stagedClass k).bias = 0 ↔ (s.classAt k (s.reg Reg.STEP_RELEASED + 1)).bias = 0)

variable (haccess : s.accessStatus path true (0x3100 + k.val) 0x20 = .ok)
include haccess

theorem classCommit_invalid {sub : Nat} (hinvalid : (s.stagedClass k.val).invalid = some sub) :
    exec (.classCommit path k) s = .next ((s.logFault { cls := .configReject, status := .badFormat,
                                                        ref := packFields [(0, 32, k.val), (32, 8, sub)] }).respond
      .badFormat) := by
  refine exec_of_writeObject rfl haccess ?_
  simp only [State.commitClass, hinvalid]

variable (hvalid : (s.stagedClass k.val).invalid = none)
include hvalid

theorem classCommit_ok (hbuild : stagedKeepsBuild s k.val) : exec (.classCommit path k) s = .next (
    let n := s.reg Reg.STEP_RELEASED + 1
    let l := (Assoc.getD s.classes k.val []).filter fun x => x.1 ≠ n
    State.respond { s with
      classes := Assoc.set k.val ((n, s.stagedClass k.val) :: keepEntries (s.reg Reg.STEP_COMPLETE) l) s.classes } .ok) := by
  obtain ⟨hprecise, hbias⟩ := hbuild
  refine exec_of_writeObject rfl haccess ?_
  simp only [State.commitClass, hvalid]
  exact if_neg (by simp [hprecise, hbias])

theorem classCommit_refused (hbuild : ¬ stagedKeepsBuild s k.val) :
    exec (.classCommit path k) s = .next (s.respond .refused) := by
  refine exec_of_writeObject rfl haccess ?_
  simp only [State.commitClass, hvalid]
  exact if_pos (by simpa [stagedKeepsBuild, Decidable.or_iff_not_imp_left] using hbuild)

end ClassCommit

/-! ### Commands that ask for one value (R193, R358, R419, R472) -/

section Commands

variable {path : Path} {s : State} {v : BitVec 8}

theorem consolNow_one (haccess : s.accessStatus path true 0x3500 8 = .ok) : exec (.consolNow path 1) s =
    .next ((s.modLearning fun l => { l with consolWant := true }).respond .ok) :=
  exec_of_writeObject rfl haccess rfl

theorem consolNow_bad (haccess : s.accessStatus path true 0x3500 8 = .ok) (hv : v ≠ 1) :
    exec (.consolNow path v) s = .next (s.respond .badFormat) :=
  exec_of_writeObject rfl haccess (if_neg fun h => hv (BitVec.eq_of_toNat_eq h))

theorem restoreDefaults_load {x : StoreVerify} (haccess : s.accessStatus path true 0x1011 1 = .ok) :
    exec (.restoreDefaults path 0x64616F6C x) s = .next (
      let r := ((List.range 6).foldl State.reinDrive s.defaultRwp).persistCommit x
      r.2.respond r.1) :=
  exec_of_writeObject rfl haccess (if_neg (by decide))

theorem restoreDefaults_bad {w : BitVec 32} {x : StoreVerify} (haccess : s.accessStatus path true 0x1011 1 = .ok)
    (hw : w ≠ 0x64616F6C) : exec (.restoreDefaults path w x) s = .next (s.respond .badFormat) :=
  exec_of_writeObject rfl haccess (if_pos fun h => hw (BitVec.eq_of_toNat_eq h))

theorem flogClear_one (haccess : s.accessStatus path true 0x7000 4 = .ok) :
    exec (.flogClear path 1) s = .next (State.respond { s with flog := [] } .ok) :=
  exec_of_writeObject rfl haccess rfl

theorem flogClear_bad (haccess : s.accessStatus path true 0x7000 4 = .ok) (hv : v ≠ 1) :
    exec (.flogClear path v) s = .next (s.respond .badFormat) :=
  exec_of_writeObject rfl haccess (if_neg hv)

theorem dumpNow_one (haccess : s.accessStatus path true 0x7020 3 = .ok) :
    exec (.dumpNow path 1) s = .next ((s.dump 3).respond .ok) :=
  exec_of_writeObject rfl haccess rfl

theorem dumpNow_bad (haccess : s.accessStatus path true 0x7020 3 = .ok) (hv : v ≠ 1) :
    exec (.dumpNow path v) s = .next (s.respond .badFormat) :=
  exec_of_writeObject rfl haccess (if_neg hv)

theorem farrierNow_one (haccess : s.accessStatus path true 0x2330 2 = .ok) : exec (.farrierNow path 1) s =
    .next (State.respond { s with power := { s.power with planDue := some (s.power.planDue.getD s.now) } } .ok) :=
  exec_of_writeObject rfl haccess rfl

theorem farrierNow_bad (haccess : s.accessStatus path true 0x2330 2 = .ok) (hv : v ≠ 1) :
    exec (.farrierNow path v) s = .next (s.respond .badFormat) :=
  exec_of_writeObject rfl haccess (if_neg hv)

/-! ### ACCT_MODE_WRITE and EMCY_HISTORY_CLEAR (R360, R407) -/

theorem writeAcctMode_ok {n : Nat} (hn : n ≤ 1) : s.writeAcctMode n =
    (.ok, (clearEach Reg.ACCT (List.range 16) (s.setReg Reg.ACCT_MODE n)).modPower fun p =>
      { p with acctNs := [0, 0, 0, 0, 0, 0], acctFrom := s.now }) :=
  if_neg (Nat.not_lt.mpr hn)

theorem acctModeWrite_ok (haccess : s.accessStatus path true 0x2100 0x19 = .ok) (hv : v.toNat ≤ 1) :
    ∃ t, exec (.acctModeWrite path v) s = .next t ∧ t.reg Reg.ACCT_MODE = v.toNat ∧
      (∀ i : Fin 16, t.reg (Reg.ACCT i.val) = 0) ∧
      t = { s with regs := t.regs, resp := ⟨.ok, []⟩,
                   power := { s.power with acctNs := [0, 0, 0, 0, 0, 0], acctFrom := s.now } } := by
  have hmode := (reg_clearEach_other (l := List.range 16) (o := Reg.ACCT) (by decide) (s.setReg Reg.ACCT_MODE v.toNat)).trans
    (State.reg_setReg_same s _ _)
  have hclear (i : Fin 16) := reg_clearEach_of_mem (o := Reg.ACCT) (s := s.setReg Reg.ACCT_MODE v.toNat)
    (List.mem_range.mpr i.isLt)
  obtain ⟨r, hframe⟩ := clearEach_frame Reg.ACCT (List.range 16) (s.setReg Reg.ACCT_MODE v.toNat)
  refine ⟨_, exec_of_writeObject rfl haccess (writeAcctMode_ok hv), ?_⟩
  generalize clearEach Reg.ACCT (List.range 16) (s.setReg Reg.ACCT_MODE v.toNat) = u at *
  exact ⟨hmode, hclear, by rw [hframe]; rfl⟩

theorem acctModeWrite_bad (haccess : s.accessStatus path true 0x2100 0x19 = .ok) (hv : 1 < v.toNat) :
    exec (.acctModeWrite path v) s = .next (s.respond .badFormat) :=
  exec_of_writeObject rfl haccess (if_pos hv)

theorem emcyHistoryClear_zero (haccess : s.accessStatus path true 0x1003 0 = .ok) :
    ∃ t, exec (.emcyHistoryClear path 0) s = .next t ∧ (∀ i : Fin 8, t.reg (Reg.EMCY_HISTORY i.val) = 0) ∧
      t = { s with regs := t.regs, resp := ⟨.ok, []⟩ } := by
  have hexec : s.clearHistory (0 : BitVec 8).toNat = (.ok, clearEach Reg.EMCY_HISTORY (List.range 8) s) := rfl
  have hclear (i : Fin 8) := reg_clearEach_of_mem (o := Reg.EMCY_HISTORY) (s := s) (List.mem_range.mpr i.isLt)
  obtain ⟨r, hframe⟩ := clearEach_frame Reg.EMCY_HISTORY (List.range 8) s
  refine ⟨_, exec_of_writeObject rfl haccess hexec, ?_⟩
  generalize clearEach Reg.EMCY_HISTORY (List.range 8) s = u at *
  exact ⟨hclear, by rw [hframe]; rfl⟩

theorem emcyHistoryClear_bad (haccess : s.accessStatus path true 0x1003 0 = .ok) (hv : v ≠ 0) :
    exec (.emcyHistoryClear path v) s = .next (s.respond .badFormat) :=
  exec_of_writeObject rfl haccess (if_pos fun h => hv (BitVec.eq_of_toNat_eq h))

/-! ### REIN_OVERRIDE_WRITE (R321) -/

section Rein

variable {p : PortId}

/-- In RUN, PWR_STATE 0, the Rein of the written port follows at once; in another power state it does not. -/
theorem afterWrite_port (p : PortId) (s : State) : s.afterWrite (0x2710 + p.val) =
    if s.reg Reg.PWR_STATE = 0 then (s.reinAssert p.val).reinDrive p.val else s := by
  have hp := p.isLt
  rw [State.afterWrite, Nat.add_sub_cancel_left]
  by_cases hrun : s.reg Reg.PWR_STATE = 0
  · rw [if_pos ⟨by omega, by omega, hrun⟩, if_pos hrun]
  · rw [if_neg fun ⟨_, _, h⟩ => hrun h, if_neg hrun]

/-- Setting a port's override leaves PWR_STATE. -/
theorem pwrState_setOverride (p : PortId) (n : Nat) (s : State) :
    (s.setReg (Reg.REIN_OVERRIDE p.val) n).reg Reg.PWR_STATE = s.reg Reg.PWR_STATE :=
  State.reg_setReg_other s (by revert p; decide) n

variable (haccess : s.accessStatus path true (0x2710 + p.val) 6 = .ok)
include haccess

theorem reinOverrideWrite_ok (hv : v.toNat ≤ 2) : exec (.reinOverrideWrite path p v) s =
    .next (((s.setReg (Reg.REIN_OVERRIDE p.val) v.toNat).afterWrite (0x2710 + p.val)).respond .ok) :=
  exec_of_writeObject rfl haccess (if_neg (Nat.not_lt.mpr hv))

theorem reinOverrideWrite_run (hv : v.toNat ≤ 2) (hrun : s.reg Reg.PWR_STATE = 0) :
    exec (.reinOverrideWrite path p v) s =
      .next ((((s.setReg (Reg.REIN_OVERRIDE p.val) v.toNat).reinAssert p.val).reinDrive p.val).respond .ok) := by
  rw [reinOverrideWrite_ok haccess hv, afterWrite_port, pwrState_setOverride, if_pos hrun]

theorem reinOverrideWrite_asleep (hv : v.toNat ≤ 2) (hrun : s.reg Reg.PWR_STATE ≠ 0) :
    exec (.reinOverrideWrite path p v) s = .next ((s.setReg (Reg.REIN_OVERRIDE p.val) v.toNat).respond .ok) := by
  rw [reinOverrideWrite_ok haccess hv, afterWrite_port, pwrState_setOverride, if_neg hrun]

theorem reinOverrideWrite_bad (hv : 2 < v.toNat) :
    exec (.reinOverrideWrite path p v) s = .next (s.respond .badFormat) :=
  exec_of_writeObject rfl haccess (if_pos hv)

end Rein

end Commands

/-- Settles O54: the cases above, command by command. -/
theorem objectCommands : Obligations.ObjectCommands :=
  ⟨fun _ _ _ haccess hvalid hprecise hbias => classCommit_ok haccess hvalid ⟨hprecise, hbias⟩,
    fun _ _ _ _ haccess => classCommit_invalid haccess,
    fun _ _ _ haccess hvalid h => classCommit_refused haccess hvalid (Classical.not_and_iff_not_or_not.mpr h),
    fun _ _ => consolNow_one, fun _ _ _ => consolNow_bad,
    fun _ _ _ => restoreDefaults_load, fun _ _ _ _ => restoreDefaults_bad,
    fun _ _ => flogClear_one, fun _ _ _ => flogClear_bad,
    fun _ _ => dumpNow_one, fun _ _ _ => dumpNow_bad,
    fun _ _ => farrierNow_one, fun _ _ _ => farrierNow_bad,
    fun _ _ _ => acctModeWrite_ok, fun _ _ _ => acctModeWrite_bad,
    fun _ _ => emcyHistoryClear_zero, fun _ _ _ => emcyHistoryClear_bad,
    fun _ _ _ _ => reinOverrideWrite_run, fun _ _ _ _ => reinOverrideWrite_asleep,
    fun _ _ _ _ => reinOverrideWrite_bad⟩

end Sys2Proof.NeuronProofs
end

section
/-!
PROOFS. STEP, GAIT, LEARN_EPOCH and FRC_INVALIDATE with the command running on its engine: an equation for each case, and what
FRC_INVALIDATE leaves of each cluster's tags.
-/
namespace Sys2Proof.StepProofs
open Sys2Proof Sys2Proof.Machine

section Commands

variable {run : RunCmd} {s : State} {others : Bool}

theorem exec_step : exec (.step others) s = execStep others s := rfl
theorem exec_gait : exec .gait s = execGait s := rfl
theorem exec_learnEpoch : exec .learnEpoch s = execLearnEpoch s := rfl
theorem exec_frcInvalidate : exec .frcInvalidate s = execFrcInvalidate s := rfl

/-! ### STEP (R101, R104, R208, R211, R233) -/

section Step

variable (hrun : s.runningOp 0 .step = some run)
include hrun

/-- A device without the harness is judged before COUNT is. -/
theorem step_refused : exec (.step false) s = .next (s.conclude 0 .refused 0 0 0) := by
  simp only [exec_step, execStep, hrun, Bool.not_false, if_true]

theorem step_badFormat (hwalk : s.pendingGait = 0) (hcount : entryField run.cmd 8 4 ≠ 1) :
    exec (.step true) s = .next (s.conclude 0 .badFormat 0 0 0) := by
  simp only [exec_step, execStep, hrun, Bool.not_true, Bool.false_eq_true, if_false]
  exact if_pos ⟨hwalk, hcount⟩

/-- A STEP that may run joins the running ones; COUNT 0 sets no limit. -/
theorem step_joins (hcount : ¬ (s.pendingGait = 0 ∧ entryField run.cmd 8 4 ≠ 1)) :
    exec (.step true) s = .next ((s.setEngine 0 { s.engine 0 with running := none }).modFabric fun x => { x with
      runs := x.runs ++ [{ run := run, gait := s.pendingGait,
                           remaining := if entryField run.cmd 8 4 = 0 then none else some (entryField run.cmd 8 4) }] }) := by
  simp only [exec_step, execStep, hrun, Bool.not_true, Bool.false_eq_true, if_false]
  exact if_neg hcount

theorem step_counted (hk : entryField run.cmd 8 4 ≠ 0) (hcount : ¬ (s.pendingGait = 0 ∧ entryField run.cmd 8 4 ≠ 1)) :
    exec (.step true) s = .next ((s.setEngine 0 { s.engine 0 with running := none }).modFabric fun x => { x with
      runs := x.runs ++ [{ run := run, remaining := some (entryField run.cmd 8 4), gait := s.pendingGait }] }) := by
  rw [step_joins hrun hcount, if_neg hk]

theorem step_unlimited (hk : entryField run.cmd 8 4 = 0) (hgait : s.pendingGait ≠ 0) :
    exec (.step true) s = .next ((s.setEngine 0 { s.engine 0 with running := none }).modFabric fun x => { x with
      runs := x.runs ++ [{ run := run, remaining := none, gait := s.pendingGait }] }) := by
  rw [step_joins hrun fun h => hgait h.1, if_pos hk]

end Step

/-! ### GAIT (R114, R212) -/

theorem gaitOk_iff {g p len floor shed : Nat} : gaitOk g p len floor shed = true ↔
    (g ≤ 2 ∨ g = 0xFF) ∧ (p ≤ 2 ∨ p = 0xFF) ∧ (len = 0 ∨ 50000 ≤ len ∧ len ≤ 1000000000) ∧
      (floor ≤ 1000000000 ∨ floor = 0xFFFFFFFF) ∧ (shed ≤ 7 ∨ shed = 0xFFFFFFFF) := by
  simp [gaitOk, and_assoc]

/-- The ranges of a GAIT command's five operands hold. -/
abbrev gaitInRange (cmd : Entry) : Bool :=
  gaitOk (entryField cmd 8 1) (entryField cmd 9 1) (entryField cmd 12 4) (entryField cmd 16 4) (entryField cmd 20 4)

section Gait

variable (hrun : s.runningOp 0 .gait = some run)
include hrun

theorem gait_stages (hok : gaitInRange run.cmd = true) : exec .gait s = .next ((s.modFabric fun x => { x with
      staged := x.staged.take (entryField run.cmd 8 1) (entryField run.cmd 9 1) (entryField run.cmd 12 4)
        (entryField run.cmd 16 4) (entryField run.cmd 20 4) }).conclude 0 .ok 0 0 0) := by
  simp only [exec_gait, execGait, hrun, hok, Bool.not_true, Bool.false_eq_true, if_false]

theorem gait_badFormat (hbad : gaitInRange run.cmd = false) :
    exec .gait s = .next (s.conclude 0 .badFormat 0 0 0) := by
  simp only [exec_gait, execGait, hrun, hbad, Bool.not_false, if_true]

end Gait

/-! ### LEARN_EPOCH (R179, R213) -/

section LearnEpoch

variable (hrun : s.runningOp 0 .learnEpoch = some run)
include hrun

theorem learnEpoch_ends (hstep : s.noStep = true) (hending : s.learning.ending = none) :
    exec .learnEpoch s = .next (s.endEpoch true) := by
  simp only [exec_learnEpoch, execLearnEpoch, hrun, hstep, hending, and_self, if_true]

theorem learnEpoch_waits (h : s.noStep = false ∨ s.learning.ending ≠ none) : exec .learnEpoch s = .next s := by
  simp only [exec_learnEpoch, execLearnEpoch, hrun]
  refine if_neg fun ⟨hstep, hending⟩ => h.elim (fun hflight => ?_) (fun h => h hending)
  simp [hflight] at hstep

end LearnEpoch

/-! ### FRC_INVALIDATE (R225) -/

/-- One cluster's tags set ABSENT, where the mask names it. -/
def clearTags (mask : Nat) (s : State) (c : Nat) : State :=
  if natBit mask c ∧ (Assoc.get? c s.stores).isSome then s.setStore c { s.store c with tags := [], landed := [] } else s

theorem invalidateFar_eq (mask : Nat) :
    s.invalidateFar mask = (List.range 16).foldl (clearTags mask) (s.dropFetches mask) := rfl

theorem store_setStore (c k : Nat) (x : ClusterStore) : (s.setStore c x).store k = if c = k then x else s.store k :=
  Assoc.getD_set c k x {} s.stores

/-- A cluster without a record has no tags to clear. -/
theorem tags_of_absent {c : Nat} (h : Assoc.get? c s.stores = none) : (s.store c).tags = [] := by
  rw [State.store, Assoc.getD, h]; rfl

theorem tags_clearTags (mask c k : Nat) :
    ((clearTags mask s c).store k).tags = if natBit mask k = true ∧ k = c then [] else (s.store k).tags := by
  unfold clearTags
  split
  case isTrue h =>
    rw [store_setStore]
    by_cases hk : c = k
    · subst hk; rw [if_pos rfl, if_pos ⟨h.1, rfl⟩]
    · rw [if_neg hk, if_neg fun h => hk h.2.symm]
  case isFalse h =>
    split
    case isTrue hk =>
      obtain ⟨hbit, rfl⟩ := hk
      exact tags_of_absent (by simpa [hbit] using h)
    case isFalse => rfl

theorem tags_foldl_clearTags (mask k : Nat) (l : List Nat) (s : State) : ((l.foldl (clearTags mask) s).store k).tags =
    if natBit mask k = true ∧ k ∈ l then [] else (s.store k).tags := by
  induction l generalizing s with
  | nil => simp
  | cons c l ih =>
    rw [List.foldl_cons, ih, tags_clearTags]
    by_cases hbit : natBit mask k = true
    · by_cases hl : k ∈ l <;> simp [hbit, hl]
    · simp [hbit]

theorem tags_invalidateFar (mask : Nat) (c : ClusterId) :
    ((s.invalidateFar mask).store c.val).tags = if natBit mask c.val then [] else (s.store c.val).tags := by
  rw [invalidateFar_eq, tags_foldl_clearTags]
  simp only [List.mem_range.mpr c.isLt, and_true]
  rfl

/-- Some tag of a mask's clusters is PENDING. -/
abbrev farPending (s : State) (mask : Nat) : Bool :=
  (List.range 16).any fun c => natBit mask c && (s.store c).tags.any fun g => !g.present

section FrcInvalidate

variable (hrun : s.runningOp 6 .frcInvalidate = some run)
include hrun

theorem frcInvalidate_waits (h : s.noStep = false ∨ farPending s (entryField run.cmd 8 2) = true) :
    exec .frcInvalidate s = .next s := by
  simp only [exec_frcInvalidate, execFrcInvalidate, hrun]
  exact if_pos (h.imp_left fun h => by simp [h])

theorem frcInvalidate_clears (hstep : s.noStep = true) (hpending : farPending s (entryField run.cmd 8 2) = false) :
    exec .frcInvalidate s = .next (((s.invalidateFar (entryField run.cmd 8 2)).freeRelease 6).conclude 6 .ok 0 0 0) := by
  simp only [exec_frcInvalidate, execFrcInvalidate, hrun]
  exact if_neg (not_or.mpr ⟨by simp [hstep], Bool.eq_false_iff.mp hpending⟩)

end FrcInvalidate

end Commands

/-- Settles O3: the cases above, command by command. -/
theorem fabricCommandsStepAndGait : Obligations.FabricCommandsStepAndGait :=
  ⟨fun _ _ => step_counted, fun _ _ => step_unlimited, fun _ _ => step_refused, fun _ _ => step_badFormat,
    fun _ _ hrun hgait hpolicy hlen hfloor hshed =>
      gait_stages hrun (gaitOk_iff.mpr ⟨hgait, hpolicy, hlen, hfloor, hshed⟩),
    fun _ _ hrun hbad => gait_badFormat hrun (Bool.eq_false_iff.mpr fun hok => hbad (gaitOk_iff.mp hok)),
    fun _ _ => learnEpoch_ends, fun _ _ => learnEpoch_waits, fun _ _ => frcInvalidate_waits,
    fun _ _ hrun hstep hpending =>
      ⟨_, frcInvalidate_clears hrun hstep hpending, rfl, fun c => tags_invalidateFar _ c⟩⟩

end Sys2Proof.StepProofs
end

section
/-!
PROOFS. Arming, disarming and switching of the route tables and of the slot schedule: a write of each object in each state.
-/
namespace Sys2Proof.StepProofs
open Sys2Proof Sys2Proof.Machine
open Sys2Proof.NeuronProofs (exec_of_writeObject)

section Switching

variable {path : Path} {others : Bool} {f : CheckFail} {s : State}

/-! ### The route tables (R136, R137) -/

section RouteArm

variable (haccess : s.accessStatus path true 0x3300 3 = .ok)
include haccess

theorem routeArm_arms (hidle : s.reg Reg.ROUTE_STATE = 0) (hcheck : s.routeCheck s.routeShadow true = none) :
    exec (.routeArm path) s = .next ((s.setReg Reg.ROUTE_STATE 1).respond .ok) := by
  refine exec_of_writeObject rfl haccess ?_
  simp only [State.routeArm, hidle, hcheck, ne_eq, not_true_eq_false, if_false]

/-- The record names the place in bits 39:0 of `ref` and the failing check above them. -/
theorem routeArm_fails (hidle : s.reg Reg.ROUTE_STATE = 0) (hcheck : s.routeCheck s.routeShadow true = some f) :
    exec (.routeArm path) s = .next ((s.logFault { cls := .configReject, status := .badFormat, unit := f.unit, sub := f.sub,
                                                   ref := f.ref + 2 ^ 40 * f.check }).respond .badFormat) := by
  refine exec_of_writeObject rfl haccess ?_
  simp only [State.routeArm, hidle, hcheck, ne_eq, not_true_eq_false, if_false]

theorem routeArm_refused (hbusy : s.reg Reg.ROUTE_STATE ≠ 0) : exec (.routeArm path) s = .next (s.respond .refused) :=
  exec_of_writeObject rfl haccess (if_pos hbusy)

theorem routeDisarm_armed (harmed : s.reg Reg.ROUTE_STATE = 1) :
    exec (.routeDisarm path) s = .next ((s.setReg Reg.ROUTE_STATE 0).respond .ok) :=
  exec_of_writeObject rfl haccess (if_pos harmed)

theorem routeDisarm_idle (hidle : s.reg Reg.ROUTE_STATE = 0) : exec (.routeDisarm path) s = .next (s.respond .ok) := by
  refine exec_of_writeObject rfl haccess ?_
  rw [State.routeDisarm, if_neg (by omega), if_pos hidle]

theorem routeDisarm_refused (hidle : s.reg Reg.ROUTE_STATE ≠ 0) (harmed : s.reg Reg.ROUTE_STATE ≠ 1) :
    exec (.routeDisarm path) s = .next (s.respond .refused) := by
  refine exec_of_writeObject rfl haccess ?_
  rw [State.routeDisarm, if_neg harmed, if_neg hidle]

end RouteArm

section RouteSwitch

variable (haccess : s.accessStatus path true 0x3300 4 = .ok)
include haccess

theorem routeSwitch_switches (hmaster : s.isMaster = true) (harmed : s.reg Reg.ROUTE_STATE = 1) :
    exec (.routeSwitch path true) s = .next
      (((s.setReg Reg.ROUTE_STATE 2).modFabric fun x => { x with sends := x.sends ++ [(4, 0)] }).respond .ok) :=
  exec_of_writeObject rfl haccess (if_pos (by simp [hmaster, harmed]))

theorem routeSwitch_refused (h : (s.isMaster && others && s.reg Reg.ROUTE_STATE == 1) = false) :
    exec (.routeSwitch path others) s = .next (s.respond .refused) :=
  exec_of_writeObject rfl haccess (if_neg (Bool.eq_false_iff.mp h))

end RouteSwitch

/-! ### The slot schedule (R163, R164) -/

section SchedArm

variable (haccess : s.accessStatus path true 0x3400 0x0C = .ok)
include haccess

theorem schedArm_arms (hidle : s.reg Reg.SCHED_STATE = 0) (hcheck : s.slotCheck (!s.slotVersion) = none) :
    exec (.schedArm path) s = .next ((s.setReg Reg.SCHED_STATE 1).respond .ok) := by
  refine exec_of_writeObject rfl haccess ?_
  simp only [State.schedArm, hidle, hcheck, ne_eq, not_true_eq_false, if_false]

theorem schedArm_fails (hidle : s.reg Reg.SCHED_STATE = 0) (hcheck : s.slotCheck (!s.slotVersion) = some f) :
    exec (.schedArm path) s = .next ((s.logFault { cls := .configReject, status := .badFormat, unit := f.unit, sub := f.sub,
                                                   ref := f.ref }).respond .badFormat) := by
  refine exec_of_writeObject rfl haccess ?_
  simp only [State.schedArm, hidle, hcheck, ne_eq, not_true_eq_false, if_false]

theorem schedArm_refused (hbusy : s.reg Reg.SCHED_STATE ≠ 0) : exec (.schedArm path) s = .next (s.respond .refused) :=
  exec_of_writeObject rfl haccess (if_pos hbusy)

theorem schedDisarm_idle (hswitching : s.reg Reg.SCHED_STATE ≠ 2) :
    exec (.schedDisarm path) s = .next ((s.setReg Reg.SCHED_STATE 0).respond .ok) :=
  exec_of_writeObject rfl haccess (if_neg hswitching)

theorem schedDisarm_refused (hswitching : s.reg Reg.SCHED_STATE = 2) :
    exec (.schedDisarm path) s = .next (s.respond .refused) :=
  exec_of_writeObject rfl haccess (if_pos hswitching)

end SchedArm

section SchedSwitch

variable (haccess : s.accessStatus path true 0x3400 0x0D = .ok)
include haccess

theorem schedSwitch_switches (harmed : s.reg Reg.SCHED_STATE = 1) :
    exec (.schedSwitch path) s = .next ((s.setReg Reg.SCHED_STATE 2).respond .ok) :=
  exec_of_writeObject rfl haccess (if_pos harmed)

theorem schedSwitch_refused (harmed : s.reg Reg.SCHED_STATE ≠ 1) :
    exec (.schedSwitch path) s = .next (s.respond .refused) :=
  exec_of_writeObject rfl haccess (if_neg harmed)

end SchedSwitch

/-! ### SCHED_VERSION_SWITCH (R164) -/

theorem exec_schedVersionSwitch : exec .schedVersionSwitch s = execSchedVersionSwitch s := rfl

theorem schedVersionSwitch_switches {t : Nat} (hdrain : s.drainFrom = some t)
    (hempty : (s.switchIn.any fun q => q.2 != []) = false) :
    exec .schedVersionSwitch s = .next (((State.bumpBy { s with slotVersion := !s.slotVersion, drainFrom := none }
      Reg.SCHED_DRAIN_NS (s.now - t)).setReg Reg.SCHED_SWITCH_STEP s.fabric.drainStep).setReg Reg.SCHED_STATE 0) := by
  simp only [exec_schedVersionSwitch, execSchedVersionSwitch, hdrain, hempty, Bool.false_eq_true, if_false]

theorem schedVersionSwitch_waits (h : s.drainFrom = none ∨ (s.switchIn.any fun q => q.2 != []) = true) :
    exec .schedVersionSwitch s = .next s := by
  rw [exec_schedVersionSwitch, execSchedVersionSwitch]
  split
  case h_1 => rfl
  case h_2 hdrain => exact if_pos (h.resolve_left (by simp [hdrain]))

end Switching

/-- Settles O15: the cases above, object by object. -/
theorem routeAndScheduleSwitching : Obligations.RouteAndScheduleSwitching :=
  ⟨fun _ _ => routeArm_arms, fun _ _ _ => routeArm_fails, fun _ _ => routeArm_refused,
    fun _ _ => routeDisarm_armed, fun _ _ => routeDisarm_idle, fun _ _ => routeDisarm_refused,
    fun _ _ => routeSwitch_switches, fun _ _ _ => routeSwitch_refused,
    fun _ _ => schedArm_arms, fun _ _ _ => schedArm_fails, fun _ _ => schedArm_refused,
    fun _ _ => schedDisarm_idle, fun _ _ => schedDisarm_refused,
    fun _ _ => schedSwitch_switches, fun _ _ => schedSwitch_refused,
    fun _ _ => schedVersionSwitch_switches, fun _ => schedVersionSwitch_waits⟩

end Sys2Proof.StepProofs
end

section
/-!
PROOFS. Steps and gaits: releases and nominal times, the news of releases and completions, rounds of the sync network, stream
windows, overruns and carried events, an equation for each case.
-/
namespace Sys2Proof.StepProofs
open Sys2Proof Sys2Proof.Machine

variable {s : State}

/-! ### STEP_RELEASE (R92, R104, R106) -/

section Release

variable {r : StepRun}

theorem exec_stepRelease : exec .stepRelease s = execStepRelease s := rfl

theorem stepRelease_idle (hrun : s.stepRun = none) : exec .stepRelease s = .next s := by
  simp only [exec_stepRelease, execStepRelease, hrun]

/-- The conditions of R92 and of the gait for the next release under a running STEP. -/
abbrev releaseMay (s : State) (r : StepRun) : Prop :=
  s.releasable (s.reg Reg.STEP_RELEASED + 1) = true ∧
    s.gaitAllows (s.judgingGait (some r)) (s.reg Reg.STEP_RELEASED + 1) (some r) = true

/-- The release itself: the staged values, the nominal times, what every device does at it, and the STEP it counts into. -/
def releaseStep (s : State) (r : StepRun) : State :=
  let n := s.reg Reg.STEP_RELEASED + 1
  let s1 := s.applyStaged
  let s2 := s1.releaseTiming n (s.reg Reg.GAIT ≠ 1 ∨ s.reg Reg.STEP_LEN_NS ≠ s1.reg Reg.STEP_LEN_NS)
  let s3 := s2.atRelease n (s2.dueTime n)
  let r' : StepRun := { r with remaining := r.remaining.map (· - 1), owed := r.owed ++ [n], newest := some n }
  (s3.modFabric fun f => { f with runs := f.runs.map fun x => if x = r then r' else x }).broadcast 1 n

/-- The staged values in force where a gait ends the STEP: its nominal times go, but Trot keeps its registers (R104, R106). -/
def endByGait (s : State) : State :=
  if s.applyStaged.reg Reg.GAIT = 1 then s.applyStaged.modFabric fun f => { f with anchor := none }
  else s.applyStaged.dropNominal

variable (hrun : s.stepRun = some r)
include hrun

theorem stepRelease_waits (h : s.releasable (s.reg Reg.STEP_RELEASED + 1) = false ∨
      s.gaitAllows (s.judgingGait (some r)) (s.reg Reg.STEP_RELEASED + 1) (some r) = false) :
    exec .stepRelease s = .next s := by
  simp only [exec_stepRelease, execStepRelease, hrun]
  exact if_pos (by simpa using h)

variable (hmay : releaseMay s r)
include hmay

/-- A release that may be made is aborted, ended by a staged gait, or made. -/
theorem stepRelease_may : exec .stepRelease s = .next (
    if s.runAborted r then s.endRun r
    else if s.runEnding r then (endByGait s).endRun r
    else releaseStep s r) := by
  obtain ⟨hready, hgait⟩ := hmay
  simp only [exec_stepRelease, execStepRelease, hrun, hready, hgait, Bool.not_true, Bool.false_eq_true, or_self, if_false,
    apply_ite Host.Outcome.next]
  rfl

theorem stepRelease_aborted (habort : s.runAborted r = true) : exec .stepRelease s = .next (s.endRun r) := by
  rw [stepRelease_may hrun hmay, if_pos habort]

variable (habort : s.runAborted r = false)
include habort

theorem stepRelease_ended (hend : s.runEnding r = true) :
    exec .stepRelease s = .next ((endByGait s).endRun r) := by
  rw [stepRelease_may hrun hmay, if_neg (by simp [habort]), if_pos hend]

theorem stepRelease_endedToOther (hend : s.runEnding r = true) (hgait : s.applyStaged.reg Reg.GAIT ≠ 1) :
    exec .stepRelease s = .next (s.applyStaged.dropNominal.endRun r) := by
  rw [stepRelease_ended hrun hmay habort hend, endByGait, if_neg hgait]

theorem stepRelease_endedToTrot (hend : s.runEnding r = true) (hgait : s.applyStaged.reg Reg.GAIT = 1) :
    exec .stepRelease s = .next ((s.applyStaged.modFabric fun f => { f with anchor := none }).endRun r) := by
  rw [stepRelease_ended hrun hmay habort hend, endByGait, if_pos hgait]

theorem stepRelease_releases (hend : s.runEnding r = false) : exec .stepRelease s = .next (releaseStep s r) := by
  rw [stepRelease_may hrun hmay, if_neg (by simp [habort]), if_neg (by simp [hend])]

end Release

/-! ### STEP_TIMER_NOMINAL (R374) -/

theorem exec_stepTimerNominal : exec .stepTimerNominal s = execStepTimerNominal s := rfl

theorem stepTimerNominal_moves (hgait : s.reg Reg.GAIT = 1) (hanchor : s.fabric.anchor.isSome = true)
    (htime : s.reg Reg.NEXT_NOM ≤ s.clock) : exec .stepTimerNominal s = .next
      ((s.setReg Reg.NEXT_NOM (s.reg Reg.NEXT_NOM + s.reg Reg.STEP_LEN_NS)).modFabric fun f => { f with
        nominal := f.nominal + 1 }) := by
  rw [exec_stepTimerNominal, execStepTimerNominal]
  exact if_pos ⟨hgait, hanchor, htime⟩

theorem stepTimerNominal_waits
    (h : s.reg Reg.GAIT ≠ 1 ∨ s.fabric.anchor.isSome = false ∨ s.clock < s.reg Reg.NEXT_NOM) :
    exec .stepTimerNominal s = .next s := by
  rw [exec_stepTimerNominal, execStepTimerNominal]
  refine if_neg fun ⟨hgait, hanchor, htime⟩ => ?_
  rcases h with h | h | h
  · exact h hgait
  · simp [h] at hanchor
  · exact Nat.not_le.mpr h htime

/-! ### RELEASE_BROADCAST_RECEIVE (R92, R98, R115, R375) -/

/-- The oldest news of a kind about step `n`: 1 its release, 2 its completion. -/
abbrev newsOf (s : State) (kind n : Nat) : Option (Nat × Nat × Nat) :=
  s.fabric.news.find? fun m => m.1 = kind ∧ m.2.1 = n

/-- News taken off the list. -/
abbrev dropNews (s : State) (m : Nat × Nat × Nat) : State := s.modFabric fun f => { f with news := dropFirst m f.news }

section News

variable {n : Nat} {terms : ReleaseTerms} {m : Nat × Nat × Nat}

theorem exec_releaseBroadcastReceive :
    exec (.releaseBroadcastReceive n terms) s = execReleaseBroadcastReceive n terms s := rfl

theorem releaseBroadcastReceive_none (hnews : newsOf s 1 n = none) :
    exec (.releaseBroadcastReceive n terms) s = .next s := by
  simp only [exec_releaseBroadcastReceive, execReleaseBroadcastReceive, hnews]

section Release

variable (hnews : newsOf s 1 n = some m)
include hnews

theorem releaseBroadcastReceive_outOfOrder (hn : n ≠ s.fabric.learned + 1) :
    exec (.releaseBroadcastReceive n terms) s = .next (dropNews s m) := by
  simp only [exec_releaseBroadcastReceive, execReleaseBroadcastReceive, hnews]
  exact if_pos hn

theorem releaseBroadcastReceive_master (hn : n = s.fabric.learned + 1) (hmaster : s.isMaster = true) :
    exec (.releaseBroadcastReceive n terms) s = .next (s.modFabric fun f =>
      { f with news := dropFirst m f.news, learned := n, window := n, windowOpen := true }) := by
  simp only [exec_releaseBroadcastReceive, execReleaseBroadcastReceive, hnews, hmaster, if_true]
  exact if_neg fun h => h hn

theorem releaseBroadcastReceive_other (hn : n = s.fabric.learned + 1) (hmaster : s.isMaster = false) :
    exec (.releaseBroadcastReceive n terms) s = .next (
      let s1 := ((dropNews s m).takeTerms terms).slaveNominal n m.2.2
        (s.reg Reg.GAIT ≠ 1 ∨ s.reg Reg.STEP_LEN_NS ≠ terms.len)
      (s1.atRelease n terms.due).modFabric fun f => { f with learned := n, window := n, windowOpen := true }) := by
  simp only [exec_releaseBroadcastReceive, execReleaseBroadcastReceive, hnews, hmaster, Bool.false_eq_true, if_false]
  exact if_neg fun h => h hn

end Release

/-! ### COMPLETE_BROADCAST_RECEIVE (R95) -/

theorem exec_completeBroadcastReceive : exec (.completeBroadcastReceive n) s = execCompleteBroadcastReceive n s := rfl

theorem completeBroadcastReceive_none (hnews : newsOf s 2 n = none) :
    exec (.completeBroadcastReceive n) s = .next s := by
  simp only [exec_completeBroadcastReceive, execCompleteBroadcastReceive, hnews]

section Complete

variable (hnews : newsOf s 2 n = some m)
include hnews

theorem completeBroadcastReceive_outOfOrder (h : n ≠ s.fabric.known + 1 ∨ s.fabric.learned < n) :
    exec (.completeBroadcastReceive n) s = .next (dropNews s m) := by
  simp only [exec_completeBroadcastReceive, execCompleteBroadcastReceive, hnews]
  exact if_pos h

/-- What a device, the master or another, does once step `n` is known to be complete with its status and sums. -/
def actOnCompletion (master : Bool) (s : State) (n : Nat) (st : Status) (sums : List Nat) : State :=
  (((((((if master then s else s.setReg Reg.STEP_COMPLETE n).repairTiles.censusRecords n st).stepHitch).retireRoutes
    n).overrunAfter n).stepComplete n st sums).wantTpdo 1).notify 1 n []

/-- A completion in order: the step's status and sums are those its flight holds, or OK and none without a flight. -/
theorem completeBroadcastReceive_inOrder {st : Status} {sums : List Nat} (hn : n = s.fabric.known + 1)
    (hlearned : n ≤ s.fabric.learned)
    (hflight : ((s.fabric.flights.find? fun f => f.n = n).map fun f => (f.status, f.sums)).getD (.ok, []) = (st, sums)) :
    exec (.completeBroadcastReceive n) s = .next (actOnCompletion s.isMaster ((s.modFabric fun x => { x with
      news := dropFirst m x.news, known := n, lastStatus := st, flights := x.flights.filter fun y => y.n ≠ n }).bump
        Reg.STEPS_DONE) n st sums) := by
  have horder : ¬ (n ≠ s.fabric.known + 1 ∨ s.fabric.learned < n) := by omega
  simp only [exec_completeBroadcastReceive, execCompleteBroadcastReceive, hnews, horder, if_false]
  generalize s.fabric.flights.find? (fun f => f.n = n) = flight at hflight ⊢
  cases flight <;> obtain ⟨rfl, rfl⟩ := Prod.mk.inj hflight <;> rfl

end Complete

end News

/-! ### SYNC_REDUCTION_ROUND (R89, R94, R466) -/

section Round

variable {parity : Bool} {master : Option Nat} {r : Reduction}

theorem exec_syncReductionRound :
    exec (.syncReductionRound parity master) s = execSyncReductionRound parity master s := rfl

theorem syncReductionRound_badParity :
    exec (.syncReductionRound false master) s = .next (s.bump Reg.SYNC_PARITY) := rfl

theorem syncReductionRound_idle
    (h : s.reg Reg.HARNESS_STATE < 2 ∨ (s.tether.settle.any fun x => x.zeroing) = true) :
    exec (.syncReductionRound true master) s = .next s := by
  simp only [exec_syncReductionRound, execSyncReductionRound, Bool.not_true, Bool.false_eq_true, if_false]
  exact if_pos h

/-- The record of the device and its children. -/
abbrev treeReduction (s : State) : Reduction := s.fabric.children.foldl (fun a c => a.combine c.2) s.dieReduction

/-- The first child whose record names another step than the device's own. -/
abbrev differingChild (s : State) : Option (Nat × Reduction) :=
  s.fabric.children.find? fun c => checkDiffers c.2.check s.dieReduction.check

variable (hharness : 2 ≤ s.reg Reg.HARNESS_STATE) (hsettle : (s.tether.settle.any fun x => x.zeroing) = false)
include hharness hsettle

/-- With a harness loaded and no counts being zeroed a round is judged. -/
theorem round_not_idle : ¬ (s.reg Reg.HARNESS_STATE < 2 ∨ (s.tether.settle.any fun x => x.zeroing) = true) :=
  not_or.mpr ⟨Nat.not_lt.mpr hharness, Bool.eq_false_iff.mp hsettle⟩

theorem syncReductionRound_agrees (hmaster : s.isMaster = true) (hr : treeReduction s = r)
    (hchild : differingChild s = none) :
    exec (.syncReductionRound true master) s = .next (((s.noteRound r).judgeStep r).judgeWindow r) := by
  subst hr
  simp only [exec_syncReductionRound, execSyncReductionRound, round_not_idle hharness hsettle, hmaster, hchild, Bool.not_true,
    Bool.false_eq_true, if_false, if_true]

theorem syncReductionRound_differs {c : Nat × Reduction} (hmaster : s.isMaster = true)
    (hchild : differingChild s = some c) :
    exec (.syncReductionRound true master) s = .next ((s.noteRound (treeReduction s)).stepMismatch c.2.check) := by
  simp only [exec_syncReductionRound, execSyncReductionRound, round_not_idle hharness hsettle, hmaster, hchild, Bool.not_true,
    Bool.false_eq_true, if_false, if_true]

/-- A master whose step differs from the device's own noted as a mismatch (R89). -/
def noteMaster (own : Nat) (master : Option Nat) (s : State) : State :=
  match master with
  | some m => if checkDiffers own m then s.stepMismatch m else s
  | none => s

theorem syncReductionRound_passes (hmaster : s.isMaster = false) (hr : treeReduction s = r) :
    exec (.syncReductionRound true master) s = .next
      ((noteMaster s.dieReduction.check master (s.noteRound r)).modFabric fun f => { f with upward := some r }) := by
  subst hr
  simp only [exec_syncReductionRound, execSyncReductionRound, round_not_idle hharness hsettle, hmaster, Bool.not_true,
    Bool.false_eq_true, if_false]
  rfl

end Round

/-! ### STEP_COMPLETE and STREAM_WINDOW_DRAINED (R95, R98) -/

section Judge

variable {r : Reduction}

/-- The sums of a round for the oldest incomplete step and the one after it (R211). -/
def roundSums (r : Reduction) (n : Nat) : List Nat :=
  [r.fsent.get n, r.frcvd.get n, r.fsent.get (n + 1), r.frcvd.get (n + 1)].map (·.toNat)

theorem judgeStep_completes (hreleased : s.reg Reg.STEP_COMPLETE + 1 ≤ s.reg Reg.STEP_RELEASED)
    (hdone : s.reg Reg.STEP_COMPLETE + 1 ≤ r.done)
    (hcounts : r.fsent.get (s.reg Reg.STEP_COMPLETE + 1) = r.frcvd.get (s.reg Reg.STEP_COMPLETE + 1)) :
    s.judgeStep r =
      let n := s.reg Reg.STEP_COMPLETE + 1
      (((s.setReg Reg.STEP_COMPLETE n).peak Reg.COMPLETE_LAT_MAX (s.now - s.fabric.countsAt)).modFabric fun f => { f with
        flights := f.flights.map fun x => if x.n = n then
          { x with sums := roundSums r n, status := x.status.worse r.status } else x,
        lastSums := roundSums r n }).broadcast 2 n := by
  rw [State.judgeStep]
  refine if_neg ?_
  rintro (h | h | h)
  · exact Nat.not_lt.mpr hreleased h
  · exact Nat.not_lt.mpr hdone h
  · exact h hcounts

theorem judgeStep_waits (h : s.reg Reg.STEP_RELEASED < s.reg Reg.STEP_COMPLETE + 1 ∨
      r.done < s.reg Reg.STEP_COMPLETE + 1 ∨
      r.fsent.get (s.reg Reg.STEP_COMPLETE + 1) ≠ r.frcvd.get (s.reg Reg.STEP_COMPLETE + 1)) :
    s.judgeStep r = s := by
  rw [State.judgeStep]
  exact if_pos h

theorem judgeWindow_drains (hwindow : s.fabric.drained + 1 ≤ s.fabric.window) (hdone : s.fabric.drained + 1 ≤ r.sdone)
    (hcounts : r.ssent.get (s.fabric.drained + 1) = r.srcvd.get (s.fabric.drained + 1)) :
    s.judgeWindow r = s.modFabric fun f => { f with drained := s.fabric.drained + 1 } := by
  rw [State.judgeWindow]
  exact if_pos ⟨hwindow, hdone, hcounts⟩

theorem judgeWindow_waits (h : s.fabric.window < s.fabric.drained + 1 ∨ r.sdone < s.fabric.drained + 1 ∨
      r.ssent.get (s.fabric.drained + 1) ≠ r.srcvd.get (s.fabric.drained + 1)) :
    s.judgeWindow r = s := by
  rw [State.judgeWindow]
  refine if_neg fun ⟨hwindow, hdone, hcounts⟩ => ?_
  rcases h with h | h | h
  · exact Nat.not_lt.mpr hwindow h
  · exact Nat.not_lt.mpr hdone h
  · exact h hcounts

end Judge

/-! ### STREAM_WINDOW_CLOSE (R98, R317) -/

section Close

/-- The write pointer of a port's skid buffer noted at the close: what lies behind it belongs to a later window (R317). -/
def noteClose (s : State) (p : Nat) : State :=
  match s.skid p with
  | some bw => s.setPort p { s.port p with closeWr := (s.window bw.1 bw.2).wr }
  | none => s

/-- Noting the write pointers changes the ports alone. -/
theorem foldl_noteClose_frame (l : List Nat) (s : State) : ∃ i, l.foldl noteClose s = { s with intake := i } := by
  induction l generalizing s with
  | nil => exact ⟨s.intake, rfl⟩
  | cons p l ih =>
    obtain ⟨i, hi⟩ := ih (noteClose s p)
    refine ⟨i, hi.trans ?_⟩
    unfold noteClose
    split <;> rfl

/-- The state at the close: the write pointers of the six ports noted. -/
def atClose (s : State) : State := [0, 1, 2, 3, 4, 5].foldl noteClose s

/-- The injectors that are done with window `n` at its close: sequencers, Dense and the ports with nothing to inject. -/
def doneAtClose (s : State) (n : Nat) : List Nat :=
  List.range 17 ++ ([0, 1, 2, 3, 4, 5].filter fun p => !s.portBusy p n).map (17 + ·)

/-- The window of every injector in a list set to `n`. -/
def setDone (n : Nat) (l : List Nat) (d : Assoc Nat) : Assoc Nat := l.foldl (fun d i => Assoc.set i n d) d

theorem getD_setDone_of_eq {n k : Nat} (l : List Nat) {d : Assoc Nat} (h : Assoc.getD d k 0 = n) :
    Assoc.getD (setDone n l d) k 0 = n := by
  induction l generalizing d with
  | nil => exact h
  | cons i l ih => exact ih (by rw [Assoc.getD_set, h, ite_self])

theorem getD_setDone_of_mem {n k : Nat} {l : List Nat} {d : Assoc Nat} (hk : k ∈ l) :
    Assoc.getD (setDone n l d) k 0 = n := by
  induction hk generalizing d with
  | head l => exact getD_setDone_of_eq l (by rw [Assoc.getD_set, if_pos rfl])
  | tail i _ ih => exact ih

theorem mem_doneAtClose_port {n : Nat} (p : Fin 6) (hbusy : s.portBusy p.val n = false) :
    17 + p.val ∈ doneAtClose s n := by
  have hport : ∀ p : Fin 6, p.val ∈ [0, 1, 2, 3, 4, 5] := by decide
  exact List.mem_append_right _ (List.mem_map_of_mem (List.mem_filter.mpr ⟨hport p, by simp [hbusy]⟩))

theorem exec_streamWindowClose : exec .streamWindowClose s = execStreamWindowClose s := rfl

theorem streamWindowClose_waits (h : s.fabric.windowOpen = false ∨ s.closable s.fabric.window = false) :
    exec .streamWindowClose s = .next s := by
  rw [exec_streamWindowClose, execStreamWindowClose]
  exact if_pos (by simpa using h)

/-- The state after the close. -/
def closedWindow (s : State) : State :=
  (atClose s).modFabric fun f => { f with
    windowOpen := false, sdone := setDone s.fabric.window (doneAtClose (atClose s) s.fabric.window) f.sdone }

theorem streamWindowClose_closes (hopen : s.fabric.windowOpen = true) (hclose : s.closable s.fabric.window = true) :
    exec .streamWindowClose s = .next (closedWindow s) := by
  rw [exec_streamWindowClose, execStreamWindowClose, if_neg (by simp [hopen, hclose])]
  rfl

theorem closedWindow_sdone : (closedWindow s).fabric.sdone =
    setDone s.fabric.window (doneAtClose (atClose s) s.fabric.window) (atClose s).fabric.sdone := by
  rw [closedWindow, State.modFabric_fabric]

theorem closedWindow_frame : closedWindow s = { s with
    intake := (closedWindow s).intake,
    fabric := { s.fabric with windowOpen := false, sdone := (closedWindow s).fabric.sdone } } := by
  obtain ⟨i, hi⟩ := foldl_noteClose_frame [0, 1, 2, 3, 4, 5] s
  have hclose : atClose s = { s with intake := i } := hi
  rw [closedWindow, hclose]
  simp only [State.modFabric]

/-- Sequencers and the Dense engine have no queue of their own. -/
theorem closedWindow_sdone_sequencer (i : Fin 17) :
    Assoc.getD (closedWindow s).fabric.sdone i.val 0 = s.fabric.window := by
  rw [closedWindow_sdone]
  exact getD_setDone_of_mem (List.mem_append_left _ (List.mem_range.mpr i.isLt))

theorem veiled_modFabric (f : Fabric → Fabric) (l : List Byte) (a : Nat) :
    (s.modFabric f).veiled a l = s.veiled a l := by
  induction l generalizing a with
  | nil => rfl
  | cons b l ih => simp only [State.veiled, ih]; rfl

theorem windowRead_modFabric (f : Fabric → Fabric) (x : Window) (o n : Nat) :
    (s.modFabric f).windowRead x o n = s.windowRead x o n := by
  simp only [State.windowRead, State.bytes, veiled_modFabric]
  rfl

/-- Which ports are busy does not turn on the step machine. -/
theorem portBusy_modFabric (f : Fabric → Fabric) (p n : Nat) : (s.modFabric f).portBusy p n = s.portBusy p n := by
  simp only [State.portBusy, State.skidHead, windowRead_modFabric]
  rfl

theorem closedWindow_sdone_port (p : Fin 6) (hbusy : (closedWindow s).portBusy p.val s.fabric.window = false) :
    Assoc.getD (closedWindow s).fabric.sdone (17 + p.val) 0 = s.fabric.window := by
  rw [closedWindow, portBusy_modFabric] at hbusy
  rw [closedWindow_sdone]
  exact getD_setDone_of_mem (mem_doneAtClose_port p hbusy)

end Close

/-! ### OVERRUN and CARRY_DROP (R107–R109) -/

section Overrun

/-- A flight's due time has come. -/
abbrev isDue (s : State) (f : StepFlight) : Bool := f.due.any fun d => d ≤ s.clock

/-- What OVERRUN does with one flight. -/
def overrunFlight (s : State) (f : StepFlight) : State :=
  if isDue s f then if f.overrun ∨ f.n > s.doneThrough then (s.noteOverrun f).applyOverrun f else s.noteOverrun f else s

theorem overrun_eq : exec .overrun s = .next (s.fabric.flights.foldl overrunFlight s) := by
  refine congrArg (fun act => Host.Outcome.next (s.fabric.flights.foldl act s)) (funext fun s => funext fun f => ?_)
  unfold overrunFlight isDue
  cases f.due with
  | none => rfl
  | some t =>
    by_cases hdue : s.clock < t
    · exact (if_pos hdue).trans (if_neg (by simpa using hdue)).symm
    · exact (if_neg hdue).trans (if_pos (by simpa using hdue)).symm

theorem foldl_overrunFlight_none {l : List StepFlight} (h : ∀ f ∈ l, isDue s f = false) :
    l.foldl overrunFlight s = s := by
  induction l with
  | nil => rfl
  | cons f l ih =>
    rw [List.forall_mem_cons] at h
    rw [List.foldl_cons, overrunFlight, if_neg (by simp [h.1]), ih h.2]

theorem overrun_none (h : (s.fabric.flights.all fun f => !isDue s f) = true) : exec .overrun s = .next s := by
  rw [overrun_eq, foldl_overrunFlight_none]
  simpa using h

variable {c : ClusterId} {t : TileId} {f : StepFlight}

theorem exec_carryDrop : exec (.carryDrop c t) s = execCarryDrop c t s := rfl

theorem carryDrop_drops
    (hflight : (s.fabric.flights.find? fun f => f.n == (s.tile c.val t.val).delivering) = some f) (hdue : isDue s f = true) :
    exec (.carryDrop c t) s = .next (s.dropCarried c.val t.val f.n) := by
  have hn : f.n = (s.tile c.val t.val).delivering := by simpa using List.find?_some hflight
  simp only [exec_carryDrop, execCarryDrop, hflight, hn]
  exact if_pos hdue

theorem carryDrop_waits
    (h : (s.fabric.flights.any fun f => f.n == (s.tile c.val t.val).delivering && isDue s f) = false) :
    exec (.carryDrop c t) s = .next s := by
  rw [exec_carryDrop, execCarryDrop]
  split
  case h_1 f hflight =>
    have hn : (f.n == (s.tile c.val t.val).delivering) = true :=
      List.find?_some (p := fun f : StepFlight => f.n == (s.tile c.val t.val).delivering) hflight
    have hdue : (f.n == (s.tile c.val t.val).delivering && isDue s f) ≠ true :=
      List.any_eq_false.mp h f (List.mem_of_find?_eq_some hflight)
    exact if_neg fun hd => hdue (by rw [hn]; exact hd)
  case h_2 => rfl

end Overrun

/-- Settles O26: the cases above, command by command. -/
theorem stepMachine : Obligations.StepMachine :=
  ⟨fun _ => stepRelease_idle, fun _ _ => stepRelease_waits,
    fun _ _ hrun hready hgait => stepRelease_aborted hrun ⟨hready, hgait⟩,
    fun _ _ hrun hready hgait => stepRelease_endedToOther hrun ⟨hready, hgait⟩,
    fun _ _ hrun hready hgait => stepRelease_endedToTrot hrun ⟨hready, hgait⟩,
    fun _ _ hrun hready hgait => stepRelease_releases hrun ⟨hready, hgait⟩,
    fun _ => stepTimerNominal_moves, fun _ => stepTimerNominal_waits,
    fun _ _ _ => releaseBroadcastReceive_none, fun _ _ _ _ => releaseBroadcastReceive_outOfOrder,
    fun _ _ _ _ => releaseBroadcastReceive_master, fun _ _ _ _ => releaseBroadcastReceive_other,
    fun _ _ => syncReductionRound_badParity, fun _ _ => syncReductionRound_idle,
    fun _ _ _ => syncReductionRound_agrees, fun _ _ _ hharness hsettle => syncReductionRound_differs hharness hsettle,
    fun _ _ _ => syncReductionRound_passes, fun _ _ => rfl,
    fun _ _ => judgeStep_completes, fun _ _ => judgeStep_waits,
    fun _ _ => judgeWindow_drains, fun _ _ => judgeWindow_waits,
    fun _ _ => completeBroadcastReceive_none, fun _ _ _ => completeBroadcastReceive_outOfOrder,
    fun _ _ _ _ _ hnews => completeBroadcastReceive_inOrder hnews,
    fun _ hopen hclose => ⟨_, streamWindowClose_closes hopen hclose, rfl, closedWindow_sdone_sequencer,
      closedWindow_sdone_port, closedWindow_frame⟩,
    fun _ => streamWindowClose_waits, fun _ => overrun_eq, fun _ => overrun_none,
    fun _ _ _ _ => carryDrop_drops, fun _ _ _ => carryDrop_waits⟩

end Sys2Proof.StepProofs
end

section
/-!
PROOFS. The event network: arrivals at an output, departures and credits, multicast, gateways and the sequencers' injection, an
equation for each case.
-/
namespace Sys2Proof.NetworkProofs
open Sys2Proof Sys2Proof.Machine

variable {s : State}

/-! ### ROUTER_ARRIVAL (R119, R129, R130) -/

section Arrival

variable {p : NetPoint} {flaws : List ArrivalFlaw} {i : Nat} {e : Event} {x : Event × State}

/-- A router's quad and gateway inputs taken on; a gateway's inputs fill by themselves. -/
def fillPoint (s : State) (p : NetPoint) : State :=
  match pointCluster p with
  | some c => s.fillInputs c
  | none => s

/-- The inputs admitted this cycle: the first four that present, in round-robin order. -/
abbrev admittedAt (s : State) (p : NetPoint) : List (Nat × Event) :=
  (roundRobin (s.output p).lastIn (s.inputsOf p)).take 4

/-- The last input admitted kept as the round robin's place. -/
def keepPlace (l : List (Nat × Event)) (p : NetPoint) (s : State) : State :=
  match l.getLast? with
  | some x => s.setOutput p { s.output p with lastIn := x.1 }
  | none => s

theorem routerArrival_eq : exec (.routerArrival p flaws) s = .next (
    let a := fillPoint s p
    let b := ((a.inputsOf p).filter fun x => (admittedAt a p).contains x).foldl
      (fun s x => s.applyArrival p flaws x.1 x.2) a
    let d := keepPlace (admittedAt a p) p b
    if (a.inputsOf p).length ≤ 4 then d else d.bumpNet Reg.ARR_DEFER p ((a.inputsOf p).length - 4)) := rfl

variable (hx : s.checkArrival p flaws i e = x)
include hx

theorem applyArrival_full (hfull : arrive (x.2.mergeable x.1) (x.2.output p).entries x.1 = none) :
    s.applyArrival p flaws i e = (x.2.setHead p i x.1).bumpNet Reg.COMB_FULL p 1 := by
  simp only [State.applyArrival, hx, hfull]

/-- The peak of a buffer's entries kept, for a router with its cluster. -/
def keepPeak (s : State) (p : NetPoint) (n : Nat) : State :=
  match pointCluster p with
  | some c => s.peakAt Reg.COMB_PEAK c n
  | none => s.peak Reg.COMB_PEAK n

theorem applyArrival_enters {a : Arrival}
    (ha : arrive (x.2.mergeable x.1) (x.2.output p).entries x.1 = some a) :
    s.applyArrival p flaws i e =
      let s1 := (x.2.popInput p i).setOutput p { x.2.output p with entries := a.entries }
      keepPeak (if a.merged then s1.absorb p x.1 else if a.split then s1.bumpNet Reg.MERGE_SPLIT p 1 else s1) p
        a.entries.length := by
  simp only [State.applyArrival, hx, ha]
  rfl

end Arrival

/-! ### ROUTER_DEPART and CREDIT_RETURN (R125, R130) -/

section Depart

variable {c : ClusterId} {out : Fin 31} {n : Nat} {e : CombineEntry}

theorem routerDepart_eq : exec (.routerDepart c out) s = .next (
    let a := s.departSome c out (outputRate out.val)
    a.setOutput (.router c out) (a.output (.router c out)).age) := rfl

/-- The oldest entry of an output that may depart. -/
abbrev departing (s : State) (c : ClusterId) (out : Fin 31) : Option CombineEntry :=
  (s.output (.router c out)).entries.find? fun e => s.eligible e

theorem departSome_none (hnone : departing s c out = none) : s.departSome c out n = s := by
  cases n with
  | zero => rfl
  | succ n => simp only [State.departSome, hnone]

/-- An entry that leaves for another router, or for a tile that is not fenced, is not discarded. -/
theorem not_toFenced (hopen : 16 ≤ out.val ∨ (s.tile c.val e.ev.tile).fenced = false) :
    ¬ (out.val < 16 ∧ (s.tile c.val e.ev.tile).fenced = true) :=
  fun ⟨hout, hfence⟩ => hopen.elim (fun h => Nat.not_lt.mpr h hout) fun h => by simp [h] at hfence

section Entry

variable (he : departing s c out = some e)
include he

theorem departSome_fenced (hout : out.val < 16) (hfence : (s.tile c.val e.ev.tile).fenced = true) :
    s.departSome c out (n + 1) = ((s.setOutput (.router c out) { s.output (.router c out) with
      entries := dropFirst e (s.output (.router c out)).entries }).fencedDiscard c.val e.ev).departSome c out n := by
  simp only [State.departSome, he, hout, hfence, and_self, if_true]

variable (hopen : 16 ≤ out.val ∨ (s.tile c.val e.ev.tile).fenced = false)
include hopen

theorem departSome_stalls (hcredit : (s.output (.router c out)).credits = 0) :
    s.departSome c out (n + 1) = s.countStall c.val out.val := by
  simp only [State.departSome, he, not_toFenced hopen, hcredit, if_false, if_true]

theorem departSome_sends (hcredit : (s.output (.router c out)).credits ≠ 0) :
    s.departSome c out (n + 1) = (((s.setOutput (.router c out) { s.output (.router c out) with
      entries := dropFirst e (s.output (.router c out)).entries,
      credits := (s.output (.router c out)).credits - 1 }).forward c.val out.val e.ev).bumpAt Reg.EV_ROUTED
        c.val).departSome c out n := by
  simp only [State.departSome, he, not_toFenced hopen, hcredit, if_false]

end Entry

theorem exec_creditReturn : exec (.creditReturn c out) s = execCreditReturn c out s := rfl

theorem creditReturn_gives (h : (s.output (.router c out)).credits + s.occupancy c.val out.val < 32) :
    exec (.creditReturn c out) s = .next (s.setOutput (.router c out)
      { s.output (.router c out) with credits := (s.output (.router c out)).credits + 1 }) := by
  rw [exec_creditReturn, execCreditReturn]
  exact if_pos h

theorem creditReturn_none (h : 32 ≤ (s.output (.router c out)).credits + s.occupancy c.val out.val) :
    exec (.creditReturn c out) s = .next s := by
  rw [exec_creditReturn, execCreditReturn]
  exact if_neg (Nat.not_lt.mpr h)

end Depart

/-! ### MULTICAST_REQUEST and MULTICAST_EXPAND (R134) -/

section Multicast

variable {c : ClusterId} {t : TileId}

theorem exec_multicastRequest : exec (.multicastRequest c t) s = execMulticastRequest c t s := rfl
theorem exec_multicastExpand : exec (.multicastExpand c) s = execMulticastExpand c s := rfl

theorem multicastRequest_waits (h : ((s.tile c.val t.val).egress.head?.bind fun g => g.group) = none ∨
      32 ≤ (s.router c.val).requests.length ∨ (s.tile c.val t.val).fenced = true) :
    exec (.multicastRequest c t) s = .next s := by
  rw [exec_multicastRequest, execMulticastRequest]
  split
  case h_1 => rfl
  case h_2 g l hegress =>
    split
    case h_1 => rfl
    case h_2 k hgroup => exact if_pos (h.resolve_left (by simp [hegress, hgroup]))

/-- MCOUNT of the group that a head of egress names (R132). -/
abbrev memberCount (s : State) (c : ClusterId) (g : Egress) (k : Nat) : Nat :=
  (groupRange (s.groupEntry g.ev.e c.val k)).2

theorem multicastRequest_hands {g : Egress} {l : List Egress} {k : Nat}
    (hegress : (s.tile c.val t.val).egress = g :: l) (hgroup : g.group = some k)
    (hroom : (s.router c.val).requests.length < 32) (hfence : (s.tile c.val t.val).fenced = false) :
    exec (.multicastRequest c t) s = .next (
      let a := ((s.setTile c.val t.val { s.tile c.val t.val with
        fsent := (s.tile c.val t.val).fsent.add g.ev.step (memberCount s c g k) }).setEgress c.val t.val l).noteCounts
          g.ev.step
      if memberCount s c g k = 0 then a
      else a.setRouter c.val { s.router c.val with
        requests := (s.router c.val).requests ++ [{ group := k, ev := g.ev }] }) := by
  simp only [exec_multicastRequest, execMulticastRequest, hegress, hgroup, hfence, Nat.not_le.mpr hroom,
    Bool.false_eq_true, or_self, if_false]

theorem multicastExpand_none (hnone : (s.router c.val).requests = []) :
    exec (.multicastExpand c) s = .next s := by
  simp only [exec_multicastExpand, execMulticastExpand, hnone]

theorem multicastExpand_presents {r : McRequest} {l : List McRequest} (hrequests : (s.router c.val).requests = r :: l) :
    exec (.multicastExpand c) s = .next (
      let x := s.presentMembers c.val r r.nextMembers
      let n := (groupRange (s.groupEntry r.ev.e c.val r.group)).2
      x.2.setRouter c.val { x.2.router c.val with
        requests := if x.1.nextMembers.all fun m => decide (n ≤ m.2) then l else x.1 :: l }) := by
  simp only [exec_multicastExpand, execMulticastExpand, hrequests]

end Multicast

/-! ### GATEWAY_TRANSIT (R122, R130, R343) -/

section Transit

variable {l : LinkId} {e0 : Event} {rest : List Event}

theorem exec_gatewayTransit : exec (.gatewayTransit l) s = execGatewayTransit l s := rfl

/-- An event that passes to another dimension returns to class A (R343). -/
abbrev transitEvent (s : State) (l : LinkId) (e0 : Event) : Event :=
  let dim := fun k => s.tether.roles.getD k 0xFF / 2
  { e0 with classB := e0.classB && dim l.val == dim (routeLink (s.routeEntry e0.e e0.dev)) }

theorem gatewayTransit_passes (hrx : Assoc.getD s.gateRx l.val [] = e0 :: rest) (hdev : e0.dev ≠ s.reg Reg.DEV_NUM)
    (hroute : natBit (s.routeEntry e0.e e0.dev) 4 = true) (hroom : (Assoc.getD s.gateIn (16 + l.val) []).length < 32) :
    exec (.gatewayTransit l) s = .next (State.bump { s with
      gateRx := Assoc.set l.val rest s.gateRx,
      gateIn := Assoc.set (16 + l.val) (Assoc.getD s.gateIn (16 + l.val) [] ++ [transitEvent s l e0]) s.gateIn }
      Reg.GW_TRANSIT) := by
  simp only [exec_gatewayTransit, execGatewayTransit, hrx, hroute]
  refine if_neg ?_
  rintro (h | h | h)
  · exact hdev h
  · simp at h
  · exact Nat.not_le.mpr hroom h

theorem gatewayTransit_waits (h : ((Assoc.getD s.gateRx l.val []).head?.all fun e => e.dev == s.reg Reg.DEV_NUM ||
      !natBit (s.routeEntry e.e e.dev) 4 || decide (32 ≤ (Assoc.getD s.gateIn (16 + l.val) []).length)) = true) :
    exec (.gatewayTransit l) s = .next s := by
  rw [exec_gatewayTransit, execGatewayTransit]
  split
  case h_1 => rfl
  case h_2 e0 rest hrx =>
    rw [hrx] at h
    have hbar : e0.dev = s.reg Reg.DEV_NUM ∨ !natBit (s.routeEntry e0.e e0.dev) 4 ∨
        32 ≤ (Assoc.getD s.gateIn (16 + l.val) []).length := by simpa [or_assoc] using h
    exact if_pos hbar

end Transit

/-! ### REMOTE_FAR_ARRIVAL and REMOTE_HOLDBACK_RELEASE (R145, R148) -/

section Remote

variable {l : LinkId} {east : Bool} {e : Event} {rest : List Event}

theorem exec_remoteFarArrival : exec (.remoteFarArrival l) s = execRemoteFarArrival l s := rfl
theorem exec_remoteHoldbackRelease : exec (.remoteHoldbackRelease east) s = execRemoteHoldbackRelease east s := rfl

theorem remoteFarArrival_none (h : ((Assoc.getD s.gateRx l.val []).head?.all fun e => !s.needsRemoteFetch e ||
      decide (32 ≤ (s.inputQueue (attachment l.val e) 22).length)) = true) :
    exec (.remoteFarArrival l) s = .next s := by
  rw [exec_remoteFarArrival, execRemoteFarArrival]
  split
  case h_1 => rfl
  case h_2 e rest hrx =>
    rw [hrx] at h
    exact if_pos (by simpa using h)

section Head

variable (hrx : Assoc.getD s.gateRx l.val [] = e :: rest) (hfetch : s.needsRemoteFetch e = true)
  (hroom : (s.inputQueue (attachment l.val e) 22).length < 32)
include hrx hfetch hroom

theorem remoteFarArrival_enters (hposted : (s.postRemote e (s.dueOf e)).1 = true) :
    exec (.remoteFarArrival l) s = .next (
      let r := (s.postRemote e (s.dueOf e)).2
      State.enterMesh { r with gateRx := Assoc.set l.val rest r.gateRx } l.val e) := by
  simp only [exec_remoteFarArrival, execRemoteFarArrival, hrx, hfetch, Nat.not_le.mpr hroom, hposted, Bool.not_true,
    Bool.false_eq_true, or_self, if_false, if_true]

theorem remoteFarArrival_held (hposted : (s.postRemote e (s.dueOf e)).1 = false) :
    exec (.remoteFarArrival l) s = .next (
      let r := (s.postRemote e (s.dueOf e)).2
      let held := Assoc.getD s.remoteHold (l.val / 4) []
      if held.length < 256 then
        State.bump { r with
          gateRx := Assoc.set l.val rest r.gateRx
          remoteHold := Assoc.set (l.val / 4) (held ++ [e]) r.remoteHold } Reg.RHOLD_IN
      else r) := by
  simp only [exec_remoteFarArrival, execRemoteFarArrival, hrx, hfetch, Nat.not_le.mpr hroom, hposted, Bool.not_true,
    Bool.false_eq_true, or_self, if_false, apply_ite Host.Outcome.next]

end Head

theorem remoteHoldbackRelease_waits (h : ((Assoc.getD s.remoteHold (boolNat east) []).head?.all fun e =>
      decide (32 ≤ (s.inputQueue (attachment (4 * boolNat east) e) 22).length)) = true) :
    exec (.remoteHoldbackRelease east) s = .next s := by
  rw [exec_remoteHoldbackRelease, execRemoteHoldbackRelease]
  split
  case h_1 => rfl
  case h_2 e rest hheld =>
    rw [hheld] at h
    exact if_pos (by simpa using h)

theorem remoteHoldbackRelease_posts (hheld : Assoc.getD s.remoteHold (boolNat east) [] = e :: rest)
    (hroom : (s.inputQueue (attachment (4 * boolNat east) e) 22).length < 32) :
    exec (.remoteHoldbackRelease east) s = .next (
      let r := s.postRemote e (s.dueOf e)
      if r.1 then State.enterMesh { r.2 with remoteHold := Assoc.set (boolNat east) rest r.2.remoteHold }
        (4 * boolNat east) e
      else r.2) := by
  simp only [exec_remoteHoldbackRelease, execRemoteHoldbackRelease, hheld, Nat.not_le.mpr hroom, if_false,
    apply_ite Host.Outcome.next]

end Remote

/-! ### SEQUENCER_INJECT (R98, R123, R138) -/

section Sequencer

variable {c : ClusterId} {w : Word64}

theorem exec_sequencerInject : exec (.sequencerInject c w) s = execSequencerInject c w s := rfl

theorem sequencerInject_waits (h : natBit (s.reg Reg.SEQ_RUN) c.val = false ∨ s.reg Reg.PWR_STATE ≠ 0 ∨
      s.streamOpen = false ∨ 32 ≤ (s.inputQueue c.val 20).length) :
    exec (.sequencerInject c w) s = .next s := by
  rw [exec_sequencerInject, execSequencerInject]
  exact if_pos (by simpa using h)

variable (hrun : natBit (s.reg Reg.SEQ_RUN) c.val = true) (hpower : s.reg Reg.PWR_STATE = 0)
  (hstream : s.streamOpen = true) (hroom : (s.inputQueue c.val 20).length < 32)
include hrun hpower hstream hroom

theorem sequencerInject_injects
    (hcheck : s.streamCheck (s.epochOf s.fabric.window) { word := w } true = true) :
    exec (.sequencerInject c w) s = .next (
      let x := s.streamEvent s.fabric.window { word := w }
      ((s.setInput c.val 20 (s.inputQueue c.val 20 ++ [x])).countStreamSent c.val x.step).respond .ok) := by
  simp [exec_sequencerInject, execSequencerInject, hrun, hpower, hstream, Nat.not_le.mpr hroom, hcheck]

theorem sequencerInject_badFormat
    (hcheck : s.streamCheck (s.epochOf s.fabric.window) { word := w } true = false) :
    exec (.sequencerInject c w) s = .next (s.respond .badFormat) := by
  simp [exec_sequencerInject, execSequencerInject, hrun, hpower, hstream, Nat.not_le.mpr hroom, hcheck]

end Sequencer

/-- Settles O28: the cases above, command by command. -/
theorem eventNetwork : Obligations.EventNetwork :=
  ⟨fun _ _ _ => routerArrival_eq, fun _ _ _ _ _ _ => applyArrival_full, fun _ _ _ _ _ _ _ hx => applyArrival_enters hx,
    fun _ _ _ => routerDepart_eq, fun _ _ _ _ => departSome_none, fun _ _ _ _ _ => departSome_fenced,
    fun _ _ _ _ _ => departSome_stalls, fun _ _ _ _ _ => departSome_sends,
    fun _ _ _ => creditReturn_gives, fun _ _ _ => creditReturn_none,
    fun _ _ _ => multicastRequest_waits, fun _ _ _ _ _ _ => multicastRequest_hands,
    fun _ _ => multicastExpand_none, fun _ _ _ _ => multicastExpand_presents,
    fun _ _ _ _ => gatewayTransit_passes, fun _ _ => gatewayTransit_waits,
    fun _ _ _ _ => remoteFarArrival_enters, fun _ _ _ _ => remoteFarArrival_held, fun _ _ => remoteFarArrival_none,
    fun _ _ => remoteHoldbackRelease_waits, fun _ _ _ _ => remoteHoldbackRelease_posts,
    fun _ _ _ => sequencerInject_waits, fun _ _ _ => sequencerInject_injects, fun _ _ _ => sequencerInject_badFormat⟩

end Sys2Proof.NetworkProofs
end

section
/-!
PROOFS. The Intake ports: a packet and a frame by the first case of R300 and R311 that applies, injection, and the end of the Rein.
-/
namespace Sys2Proof.IntakeProofs
open Sys2Proof Sys2Proof.Machine

variable {s : State}

/-! ### CSI2_PACKET_RECEIVE (R300, R405) -/

section Packet

variable {p : Fin 4} {hdr : Ecc} {crcOk : Bool} {vc : Fin 16} {dt : BitVec 6} {payload : List Byte}

theorem exec_csi2PacketReceive : exec (.csi2PacketReceive p hdr crcOk vc dt payload) s =
    execCsi2PacketReceive p hdr crcOk vc dt payload s := rfl

/-- A port's decode map takes a data type. -/
abbrev dtKnown (s : State) (p : Nat) (dt : BitVec 6) : Prop :=
  dt.toNat / 8 = 6 ∧ ((s.port p).decodeMap.any fun m => natBit (mapByte m 3) (dt.toNat % 8)) = true

theorem packet_wanted (hvc : vc.val = s.reg (Reg.VC p.val)) (hdt : dtKnown s p.val dt) :
    ¬ (vc.val ≠ s.reg (Reg.VC p.val) ∨ ¬ dtKnown s p.val dt) :=
  not_or.mpr ⟨fun h => h hvc, fun h => h hdt⟩

/-- A header that the ECC corrected counted. -/
abbrev countHeader (p : Nat) (hdr : Ecc) (s : State) : State :=
  if hdr = .corrected then s.bump (Reg.RX_HDR_CORR p) else s

theorem csi2PacketReceive_asleep (hsleep : s.reg Reg.PWR_STATE ≠ 0) :
    exec (.csi2PacketReceive p hdr crcOk vc dt payload) s = .next (s.bump Reg.SLEEP_RX_DROP) := by
  rw [exec_csi2PacketReceive, execCsi2PacketReceive]
  exact if_pos hsleep

variable (hrun : s.reg Reg.PWR_STATE = 0)
include hrun

theorem csi2PacketReceive_badHeader : exec (.csi2PacketReceive p .uncorrectable crcOk vc dt payload) s =
    .next ((s.bump (Reg.HDR_ERR p.val)).rxError 27 p.val) := by
  simp only [exec_csi2PacketReceive, execCsi2PacketReceive, hrun, ne_eq, not_true_eq_false, if_false, if_true]

variable (hhdr : hdr ≠ .uncorrectable)
include hhdr

theorem csi2PacketReceive_badCrc : exec (.csi2PacketReceive p hdr false vc dt payload) s =
    .next (((countHeader p.val hdr s).bump (Reg.CRC_ERR p.val)).rxError 28 p.val) := by
  simp only [exec_csi2PacketReceive, execCsi2PacketReceive, hrun, hhdr, ne_eq, not_true_eq_false, if_false, Bool.not_false,
    if_true]

/-- A packet whose header and CRC hold is judged by its channel and data type, then by the port. -/
theorem csi2PacketReceive_good : exec (.csi2PacketReceive p hdr true vc dt payload) s = .next (
    if vc.val ≠ s.reg (Reg.VC p.val) ∨ ¬ dtKnown s p.val dt then (countHeader p.val hdr s).bump (Reg.RX_IGNORED p.val)
    else if s.reg (Reg.PORT_STATE p.val) ≠ 1 then (countHeader p.val hdr s).bump (Reg.RX_DISARMED p.val)
    else (countHeader p.val hdr s).takePacket p.val payload) := by
  simp only [exec_csi2PacketReceive, execCsi2PacketReceive, hrun, hhdr, ne_eq, not_true_eq_false, if_false, Bool.not_true,
    Bool.false_eq_true, apply_ite Host.Outcome.next, dtKnown]
  cases (s.port p.val).decodeMap <;> simp [natBit, countHeader, Decidable.imp_iff_not_or]

theorem csi2PacketReceive_ignored (h : vc.val ≠ s.reg (Reg.VC p.val) ∨ ¬ dtKnown s p.val dt) :
    exec (.csi2PacketReceive p hdr true vc dt payload) s =
      .next ((countHeader p.val hdr s).bump (Reg.RX_IGNORED p.val)) := by
  rw [csi2PacketReceive_good hrun hhdr, if_pos h]

section Wanted

variable (hvc : vc.val = s.reg (Reg.VC p.val)) (hdt : dtKnown s p.val dt)
include hvc hdt

theorem csi2PacketReceive_disarmed (hport : s.reg (Reg.PORT_STATE p.val) ≠ 1) :
    exec (.csi2PacketReceive p hdr true vc dt payload) s =
      .next ((countHeader p.val hdr s).bump (Reg.RX_DISARMED p.val)) := by
  rw [csi2PacketReceive_good hrun hhdr, if_neg (packet_wanted hvc hdt), if_pos hport]

theorem csi2PacketReceive_taken (hport : s.reg (Reg.PORT_STATE p.val) = 1) :
    exec (.csi2PacketReceive p hdr true vc dt payload) s = .next ((countHeader p.val hdr s).takePacket p.val payload) := by
  rw [csi2PacketReceive_good hrun hhdr, if_neg (packet_wanted hvc hdt),
    if_neg fun h => h hport]

end Wanted

end Packet

/-! ### ETH_FRAME_RECEIVE (R310–R312, R405) -/

section Frame

variable {e : EthId} {fcsOk : Bool} {frame data body : List Byte} {ty : Nat × Nat}

theorem exec_ethFrameReceive : exec (.ethFrameReceive e fcsOk frame) s = execEthFrameReceive e fcsOk frame s := rfl

/-- A MGMT frame of the 0x88B5 encapsulation. -/
abbrev isMgmt (ty : Nat × Nat) (body : List Byte) : Prop := ty.1 = 0x88B5 ∧ mapByte body 1 = 2

theorem ethFrameReceive_asleep (hsleep : s.reg Reg.PWR_STATE ≠ 0) :
    exec (.ethFrameReceive e fcsOk frame) s = .next (s.bump Reg.SLEEP_RX_DROP) := by
  rw [exec_ethFrameReceive, execEthFrameReceive]
  exact if_pos hsleep

variable (hrun : s.reg Reg.PWR_STATE = 0)
include hrun

theorem ethFrameReceive_badFcs : exec (.ethFrameReceive e false frame) s =
    .next ((s.bump (Reg.CRC_ERR (4 + e.val))).rxError 28 (4 + e.val)) := by
  simp only [exec_ethFrameReceive, execEthFrameReceive, hrun, ne_eq, not_true_eq_false, if_false, Bool.not_false, if_true]

theorem ethFrameReceive_badLength (hlen : frame.length < 64 ∨ 9216 < frame.length) :
    exec (.ethFrameReceive e true frame) s = .next ((s.bump (Reg.HDR_ERR (4 + e.val))).rxError 27 (4 + e.val)) := by
  simp only [exec_ethFrameReceive, execEthFrameReceive, hrun, hlen, ne_eq, not_true_eq_false, Bool.not_true,
    Bool.false_eq_true, if_false, if_true]

/-- What an armed port does with a frame that is neither an event frame nor its own MGMT frame (R314). -/
def parseOrIgnore (s : State) (p : Nat) (data : List Byte) (len : Nat) : State :=
  match (s.port p).graph with
  | some g => s.takeParsed p g data len
  | none => s.bump (Reg.RX_IGNORED p)

variable (hmin : 64 ≤ frame.length) (hmax : frame.length ≤ 9216) (hdata : frame.take (frame.length - 4) = data)
  (hty : etherType data = ty) (hbody : data.drop ty.2 = body)
include hmin hmax hdata hty hbody

/-- A whole frame is judged by its address, its type, the port and its kind (R311). -/
theorem ethFrameReceive_whole : exec (.ethFrameReceive e true frame) s = .next (
    if s.frameWanted e.val data = false then s.bump (Reg.RX_IGNORED (4 + e.val))
    else if ty.1 = 0x8808 then (s.bump (Reg.PAUSE_RX (4 + e.val))).takePause (4 + e.val) body
    else if s.reg (Reg.PORT_STATE (4 + e.val)) ≠ 1 ∧ ¬ isMgmt ty body then s.bump (Reg.RX_DISARMED (4 + e.val))
    else if isMgmt ty body ∧ s.ownFrame e.val data = true then
      s.bump (if s.encapsulationOk body then Reg.RX_PKTS (4 + e.val) else Reg.DECODE_ERR (4 + e.val))
    else if ty.1 = 0x88B5 ∧ ¬ isMgmt ty body then s.takeEventFrame (4 + e.val) frame.length body
    else parseOrIgnore s (4 + e.val) data frame.length) := by
  have hmgmt : (ty.1 == 0x88B5 && mapByte body 1 == 2) = decide (isMgmt ty body) := by
    rw [Bool.decide_and]; rfl
  have hlen : ¬ (frame.length < 64 ∨ 9216 < frame.length) := by omega
  simp only [exec_ethFrameReceive, execEthFrameReceive, hrun, hlen, hdata, hty, hbody, hmgmt, ne_eq, not_true_eq_false,
    Bool.not_true, Bool.false_eq_true, if_false, apply_ite Host.Outcome.next, parseOrIgnore, Bool.not_eq_true',
    decide_eq_false_iff_not, decide_eq_true_eq]
  cases (s.port (4 + e.val)).graph <;> rfl

theorem ethFrameReceive_ignored (hwanted : s.frameWanted e.val data = false) :
    exec (.ethFrameReceive e true frame) s = .next (s.bump (Reg.RX_IGNORED (4 + e.val))) := by
  rw [ethFrameReceive_whole hrun hmin hmax hdata hty hbody, if_pos hwanted]

variable (hwanted : s.frameWanted e.val data = true)
include hwanted

theorem ethFrameReceive_pause (hpause : ty.1 = 0x8808) : exec (.ethFrameReceive e true frame) s =
    .next ((s.bump (Reg.PAUSE_RX (4 + e.val))).takePause (4 + e.val) body) := by
  rw [ethFrameReceive_whole hrun hmin hmax hdata hty hbody, if_neg (by simp [hwanted]), if_pos hpause]

theorem ethFrameReceive_disarmed (hpause : ty.1 ≠ 0x8808)
    (h : ¬ (s.reg (Reg.PORT_STATE (4 + e.val)) = 1 ∨ isMgmt ty body)) :
    exec (.ethFrameReceive e true frame) s = .next (s.bump (Reg.RX_DISARMED (4 + e.val))) := by
  rw [ethFrameReceive_whole hrun hmin hmax hdata hty hbody, if_neg (by simp [hwanted]), if_neg hpause,
    if_pos (not_or.mp h)]

/-- A frame that the port takes, armed or by a MGMT frame, is judged by its kind alone. -/
theorem ethFrameReceive_accepted (hpause : ty.1 ≠ 0x8808)
    (h : s.reg (Reg.PORT_STATE (4 + e.val)) = 1 ∨ isMgmt ty body) :
    exec (.ethFrameReceive e true frame) s = .next (
      if isMgmt ty body ∧ s.ownFrame e.val data = true then
        s.bump (if s.encapsulationOk body then Reg.RX_PKTS (4 + e.val) else Reg.DECODE_ERR (4 + e.val))
      else if ty.1 = 0x88B5 ∧ ¬ isMgmt ty body then s.takeEventFrame (4 + e.val) frame.length body
      else parseOrIgnore s (4 + e.val) data frame.length) := by
  rw [ethFrameReceive_whole hrun hmin hmax hdata hty hbody, if_neg (by simp [hwanted]), if_neg hpause,
    if_neg fun hno => h.elim hno.1 hno.2]

theorem ethFrameReceive_own (hmgmt : isMgmt ty body) (hown : s.ownFrame e.val data = true) :
    exec (.ethFrameReceive e true frame) s =
      .next (s.bump (if s.encapsulationOk body then Reg.RX_PKTS (4 + e.val) else Reg.DECODE_ERR (4 + e.val))) := by
  have hpause : ty.1 ≠ 0x8808 := by simp [hmgmt.1]
  rw [ethFrameReceive_accepted hrun hmin hmax hdata hty hbody hwanted hpause (.inr hmgmt), if_pos ⟨hmgmt, hown⟩]

variable (h : s.reg (Reg.PORT_STATE (4 + e.val)) = 1 ∨ isMgmt ty body)
include h

theorem ethFrameReceive_events (hevent : ty.1 = 0x88B5) (hkind : mapByte body 1 ≠ 2) :
    exec (.ethFrameReceive e true frame) s = .next (s.takeEventFrame (4 + e.val) frame.length body) := by
  have hpause : ty.1 ≠ 0x8808 := by simp [hevent]
  have hmgmt : ¬ isMgmt ty body := fun hmgmt => hkind hmgmt.2
  rw [ethFrameReceive_accepted hrun hmin hmax hdata hty hbody hwanted hpause h, if_neg fun hown => hmgmt hown.1,
    if_pos ⟨hevent, hmgmt⟩]

theorem ethFrameReceive_parsed (hpause : ty.1 ≠ 0x8808)
    (hother : ty.1 ≠ 0x88B5 ∨ mapByte body 1 = 2 ∧ s.ownFrame e.val data = false) :
    exec (.ethFrameReceive e true frame) s = .next (parseOrIgnore s (4 + e.val) data frame.length) := by
  rw [ethFrameReceive_accepted hrun hmin hmax hdata hty hbody hwanted hpause h, if_neg, if_neg]
  · rintro ⟨hevent, hmgmt⟩
    exact hother.elim (fun hne => hne hevent) fun hkind => hmgmt ⟨hevent, hkind.1⟩
  · rintro ⟨hmgmt, hown⟩
    exact hother.elim (fun hne => hne hmgmt.1) fun hkind => by simp [hkind.2] at hown

end Frame

/-! ### INTAKE_INJECT (R98, R317) -/

section Inject

variable {p : PortId}

theorem exec_intakeInject : exec (.intakeInject p) s = execIntakeInject p s := rfl

/-- A port armed or draining acts on the open window, or on the one that has closed until it is done with it. -/
theorem intakeInject_open (hport : s.reg (Reg.PORT_STATE p.val) ≠ 0) (hwindow : s.fabric.windowOpen = true) :
    exec (.intakeInject p) s =
      .next (if s.streamOpen then s.injectSome p.val s.fabric.window false 2 else s) := by
  simp only [exec_intakeInject, execIntakeInject, hport, hwindow, if_false, if_true]

theorem intakeInject_inject (hport : s.reg (Reg.PORT_STATE p.val) ≠ 0) (hwindow : s.fabric.windowOpen = true)
    (hstream : s.streamOpen = true) :
    exec (.intakeInject p) s = .next (s.injectSome p.val s.fabric.window false 2) := by
  rw [intakeInject_open hport hwindow, if_pos hstream]

theorem intakeInject_drain (hport : s.reg (Reg.PORT_STATE p.val) ≠ 0) (hwindow : s.fabric.windowOpen = false)
    (hdue : Assoc.getD s.fabric.sdone (17 + p.val) 0 < s.fabric.window) :
    exec (.intakeInject p) s = .next (
      let s1 := s.injectSome p.val s.fabric.window true 2
      if s1.portBusy p.val s.fabric.window then s1
      else s1.modFabric fun f => { f with sdone := Assoc.set (17 + p.val) s.fabric.window f.sdone }) := by
  simp only [exec_intakeInject, execIntakeInject, hport, hwindow, hdue, Bool.false_eq_true, if_false, if_true,
    apply_ite Host.Outcome.next]

theorem intakeInject_none (h : s.reg (Reg.PORT_STATE p.val) = 0 ∨ s.fabric.windowOpen = true ∧ s.streamOpen = false ∨
      s.fabric.windowOpen = false ∧ s.fabric.window ≤ Assoc.getD s.fabric.sdone (17 + p.val) 0) :
    exec (.intakeInject p) s = .next s := by
  by_cases hport : s.reg (Reg.PORT_STATE p.val) = 0
  · rw [exec_intakeInject, execIntakeInject]
    exact if_pos hport
  · rcases h.resolve_left hport with ⟨hwindow, hstream⟩ | ⟨hwindow, hdone⟩
    · rw [intakeInject_open hport hwindow, if_neg (by simp [hstream])]
    · simp only [exec_intakeInject, execIntakeInject, hport, hwindow, Nat.not_lt.mpr hdone, Bool.false_eq_true, if_false]

end Inject

/-! ### The Rein (R318, R320, R482) -/

section Rein

variable {p : PortId} {e : EthId}

theorem exec_reinRelease : exec (.reinRelease p) s = execReinRelease p s := rfl
theorem exec_pauseRepeat : exec (.pauseRepeat e) s = execPauseRepeat e s := rfl

theorem reinRelease_releases (hrein : (s.port p.val).rein = true)
    (hlow : (s.skid p.val).isNone = true ∨ s.skidFill p.val < (s.reinMarks p.val).2)
    (htime : (s.port p.val).reinAt + s.reg (Reg.REIN_MIN_US p.val) * 1000 ≤ s.now) :
    exec (.reinRelease p) s = .next (((s.setPort p.val { s.port p.val with rein := false }).bumpBy (Reg.REIN_TIME_US p.val)
      ((s.now - (s.port p.val).reinAt) / 1000)).reinDrive p.val) := by
  rw [exec_reinRelease, execReinRelease]
  exact if_pos ⟨hrein, hlow, htime⟩

theorem reinRelease_waits (h : (s.port p.val).rein = false ∨
      (s.skid p.val).isNone = false ∧ (s.reinMarks p.val).2 ≤ s.skidFill p.val ∨
      s.now < (s.port p.val).reinAt + s.reg (Reg.REIN_MIN_US p.val) * 1000) :
    exec (.reinRelease p) s = .next s := by
  rw [exec_reinRelease, execReinRelease]
  refine if_neg fun ⟨hrein, hlow, htime⟩ => ?_
  rcases h with h | ⟨hskid, hfill⟩ | h
  · simp [h] at hrein
  · exact hlow.elim (by simp [hskid]) (Nat.not_lt.mpr hfill)
  · exact Nat.not_le.mpr h htime

/-- The pause of the quanta PAUSE_QUANTA, halved, in ns (R320). -/
abbrev halfPause (s : State) (e : EthId) : Nat := s.reg (Reg.PAUSE_QUANTA e.val) * 2048 / 200

theorem pauseRepeat_sends (hrein : s.reg (Reg.REIN_STATE (4 + e.val)) = 1)
    (htime : (s.port (4 + e.val)).pauseAt + halfPause s e ≤ s.now) :
    exec (.pauseRepeat e) s = .next (s.sendPause (4 + e.val) (s.reg (Reg.PAUSE_QUANTA e.val))) := by
  rw [exec_pauseRepeat, execPauseRepeat]
  exact if_pos ⟨hrein, htime⟩

theorem pauseRepeat_waits (h : s.reg (Reg.REIN_STATE (4 + e.val)) ≠ 1 ∨
      s.now < (s.port (4 + e.val)).pauseAt + halfPause s e) :
    exec (.pauseRepeat e) s = .next s := by
  rw [exec_pauseRepeat, execPauseRepeat]
  exact if_neg fun ⟨hrein, htime⟩ => h.elim (fun h => h hrein) fun h => Nat.not_le.mpr h htime

theorem reinPinFault_eq {p : Fin 4} : exec (.reinPinFault p) s =
    .next (((s.setBit Reg.PIN_IN p.val (s.reg (Reg.REIN_STATE p.val) == 1)).bump Reg.REIN_PIN_FAULT).logFault
      { cls := .supply, source := some 3, unit := p.val }) := rfl

end Rein

/-- Settles O32: the cases above, command by command. -/
theorem intakePorts : Obligations.IntakePorts :=
  ⟨fun _ _ _ _ _ _ _ => csi2PacketReceive_asleep, fun _ _ _ _ _ _ => csi2PacketReceive_badHeader,
    fun _ _ _ _ _ _ => csi2PacketReceive_badCrc, fun _ _ _ _ _ _ => csi2PacketReceive_ignored,
    fun _ _ _ _ _ _ => csi2PacketReceive_disarmed, fun _ _ _ _ _ _ => csi2PacketReceive_taken,
    fun _ _ _ _ => ethFrameReceive_asleep, fun _ _ _ => ethFrameReceive_badFcs,
    fun _ _ _ => ethFrameReceive_badLength, fun _ _ _ _ _ _ => ethFrameReceive_ignored,
    fun _ _ _ _ _ _ => ethFrameReceive_pause, fun _ _ _ _ _ _ => ethFrameReceive_disarmed,
    fun _ _ _ _ _ _ => ethFrameReceive_own, fun _ _ _ _ _ _ => ethFrameReceive_events,
    fun _ _ _ _ _ _ => ethFrameReceive_parsed,
    fun _ _ => intakeInject_none, fun _ _ => intakeInject_inject, fun _ _ => intakeInject_drain,
    fun _ _ => reinRelease_releases, fun _ _ => reinRelease_waits,
    fun _ _ => pauseRepeat_sends, fun _ _ => pauseRepeat_waits, fun _ _ => reinPinFault_eq⟩
end Sys2Proof.IntakeProofs
end

section
/-!
PROOFS. Combining at an output (R128, R129): what merges or splits an entry agrees with it, and an arrival that joins none takes an
entry of its own.
-/
namespace Sys2Proof.NetworkProofs
open Sys2Proof Sys2Proof.Machine

section Combine

variable {s : State} {ev : Event} {a : Arrival} {l : List CombineEntry} {m : Bool}

theorem mergeable_iff :
    s.mergeable ev = true ↔ ev.cls < 2 ∧ natBit (s.inForce Reg.COMBINE_CLS) ev.cls = true ∧ ev.payBad = false := by
  simp [State.mergeable, and_assoc]

theorem sameKey_iff {x y : Event} :
    sameKey x y = true ↔ x.dev = y.dev ∧ x.clu = y.clu ∧ x.tile = y.tile ∧ x.row = y.row ∧ x.dly = y.dly ∧
      x.step = y.step ∧ x.cls = y.cls ∧ x.e = y.e ∧ x.stream = y.stream ∧ (x.cls = 0 → x.val = y.val) := by
  simp [sameKey, and_assoc, Decidable.imp_iff_not_or]

/-- The entry that an arrival may join: an open one that agrees with it (R128, R129). -/
def joins (ev : Event) (x : CombineEntry) : Prop := x.isOpen = true ∧ sameKey x.ev ev = true

/-- An arrival that may not merge, or finds no entry to join, takes an entry of its own, open only where it may merge. -/
theorem arrive_alone (h : m = true → ∀ x ∈ l, ¬ joins ev x) :
    arrive m l ev = if l.length < 64 then some { entries := l ++ [⟨ev, m, 0⟩] } else none := by
  cases m with
  | false => rfl
  | true =>
    have hfind : l.find? (fun x => x.isOpen && sameKey x.ev ev) = none :=
      List.find?_eq_none.mpr fun x hx => by simpa [joins] using h rfl x hx
    simp [arrive, hfind]

theorem arrive_alone_eq (h : m = true → ∀ x ∈ l, ¬ joins ev x) (ha : arrive m l ev = some a) :
    a = { entries := l ++ [⟨ev, m, 0⟩] } := by
  rw [arrive_alone h] at ha
  exact (Option.some.inj (Option.ite_none_right_eq_some.mp ha).2).symm

/-- What merges or splits an entry may merge and joins an open entry. -/
theorem arrive_joins (ha : arrive m l ev = some a) (hjoin : a.merged = true ∨ a.split = true) :
    m = true ∧ ∃ x ∈ l, joins ev x := by
  refine Classical.byContradiction fun hno => ?_
  have halone := arrive_alone_eq (fun hm x hx hj => hno ⟨hm, x, hx, hj⟩) ha
  simp [halone] at hjoin

theorem arrive_merges_agreeing (ha : arrive (s.mergeable ev) l ev = some a)
    (hjoin : a.merged = true ∨ a.split = true) :
    (ev.cls = 0 ∨ ev.cls = 1) ∧ natBit (s.inForce Reg.COMBINE_CLS) ev.cls = true ∧ ev.payBad = false ∧
      ∃ x ∈ l, x.isOpen = true ∧ x.ev.dev = ev.dev ∧ x.ev.clu = ev.clu ∧ x.ev.tile = ev.tile ∧ x.ev.row = ev.row ∧
        x.ev.dly = ev.dly ∧ x.ev.step = ev.step ∧ x.ev.cls = ev.cls ∧ x.ev.e = ev.e ∧ x.ev.stream = ev.stream ∧
        (ev.cls = 0 → x.ev.val = ev.val) := by
  obtain ⟨hm, x, hx, hopen, hkey⟩ := arrive_joins ha hjoin
  obtain ⟨hcls, hselected, hpay⟩ := mergeable_iff.mp hm
  obtain ⟨hdev, hclu, htile, hrow, hdly, hstep, hc, he, hstream, hval⟩ := sameKey_iff.mp hkey
  exact ⟨by omega, hselected, hpay, x, hx, hopen, hdev, hclu, htile, hrow, hdly, hstep, hc, he, hstream,
    fun h0 => hval (hc.trans h0)⟩

/-- Error and service events and events whose payload failed its check take a closed entry of their own. -/
theorem arrive_never_merges (hbar : 2 ≤ ev.cls ∨ ev.payBad = true) (ha : arrive (s.mergeable ev) l ev = some a) :
    a.merged = false ∧ a.split = false ∧ a.entries = l ++ [⟨ev, false, 0⟩] := by
  have hm : s.mergeable ev = false := by
    rw [Bool.eq_false_iff, ne_eq, mergeable_iff]
    rintro ⟨hcls, -, hpay⟩
    exact hbar.elim (Nat.not_le.mpr hcls) (by simp [hpay])
  rw [hm] at ha
  cases arrive_alone_eq (by simp) ha
  exact ⟨rfl, rfl, rfl⟩

end Combine

/-- Settles O44: what merges joins an open entry that agrees with it, and what may not merge takes a closed entry of its own. -/
theorem eventsMergeOnlyWhereTheyAgree : Obligations.EventsMergeOnlyWhereTheyAgree :=
  ⟨fun _ _ _ _ => arrive_merges_agreeing, fun _ _ _ _ => arrive_never_merges⟩

end Sys2Proof.NetworkProofs
end

section
/-!
PROOFS. The Dense engine (R217–R219): a command is a step of its pass where its operands leave no extent empty, and a step of a pass by the first
case of R219 and R228 that applies.
-/
namespace Sys2Proof.DenseProofs
open Sys2Proof Sys2Proof.Machine

variable {s : State} {p : Pass}

/-! ### A block stored (R217) -/

@[simp] theorem valueOr_dense (w : Nat) (x : Option (BitVec w)) : (s.valueOr w x).2.dense = s.dense := by
  cases x <;> rfl

/-- Storing an element leaves the progress of the pass. -/
@[simp] theorem storeElement_dense (i j : Nat) : (s.storeElement p i j).dense = s.dense := by
  rw [State.storeElement]
  split <;> exact valueOr_dense ..

theorem foldl_storeElement_dense (l : List (Nat × Nat)) :
    (l.foldl (fun s x => s.storeElement p x.1 x.2) s).dense = s.dense := by
  induction l generalizing s with
  | nil => rfl
  | cons x l ih => rw [List.foldl_cons, ih, storeElement_dense]

/-- A block stored is counted, and no event comes to wait. -/
theorem runBlock_dense (hout : p.out ≠ 3) :
    (s.runBlock p).dense = { s.dense with blocks := s.dense.blocks + 1 } := by
  simp only [State.runBlock, hout, if_false]
  exact foldl_storeElement_dense _

theorem injectDense_nil (hwait : s.dense.waiting = []) : s.injectDense [] = s := by
  rw [State.injectDense, ← hwait]

/-! ### A step of a pass (R98, R123, R217, R219, R228) -/

theorem endPass_eq (out : Nat) : s.endPass out =
    s.conclude 1 (if s.dense.bad then .badFormat else .ok) 0 (if out = 3 then s.dense.sent else s.dense.blocks) 0 := rfl

/-- A step of a pass with its conditions in one spelling. -/
theorem runPass_eq : s.runPass p =
    if p.out = 3 ∧ s.dense.blocks = 0 ∧ s.mapOk p = false then s.conclude 1 .badFormat 0 0 0
    else if s.dense.waiting = [] ∧ s.aborting 1 = true ∧ (s.dense.blocks ≠ 0 ∨ p.out = 3 ∧ s.streamOpen = false) then
      s.endPass p.out
    else if p.out = 3 ∧ s.streamOpen = false then s
    else
      let t := if s.dense.waiting = [] then s.runBlock p else s
      (t.injectDense t.dense.waiting).settlePass p := by
  simp only [State.runPass, Bool.not_eq_true']

/-- The step taken where the map holds, no ABORT ends the pass and its events find an open window. -/
theorem runPass_goes (hmap : ¬ (p.out = 3 ∧ s.dense.blocks = 0 ∧ s.mapOk p = false))
    (habort : ¬ (s.dense.waiting = [] ∧ s.aborting 1 = true ∧ (s.dense.blocks ≠ 0 ∨ p.out = 3 ∧ s.streamOpen = false)))
    (hwindow : ¬ (p.out = 3 ∧ s.streamOpen = false)) :
    s.runPass p =
      let t := if s.dense.waiting = [] then s.runBlock p else s
      (t.injectDense t.dense.waiting).settlePass p := by
  rw [runPass_eq, if_neg hmap, if_neg habort, if_neg hwindow]

theorem runPass_stores (hout : p.out ≠ 3) (hwait : s.dense.waiting = [])
    (habort : ¬ (s.aborting 1 = true ∧ s.dense.blocks ≠ 0)) :
    s.runPass p =
      let t := s.runBlock p
      if p.blocks.length ≤ t.dense.blocks ∨ t.aborting 1 then
        t.conclude 1 (if t.dense.bad then .badFormat else .ok) 0 t.dense.blocks 0
      else t := by
  have hnone : (s.runBlock p).dense.waiting = [] := by rw [runBlock_dense hout, hwait]
  rw [runPass_goes (fun h => hout h.1) (fun ⟨_, ha, h⟩ => h.elim (fun hb => habort ⟨ha, hb⟩) fun h => hout h.1)
    fun h => hout h.1]
  simp only [hwait, hnone, if_true, injectDense_nil hnone, State.settlePass, true_and, endPass_eq, if_neg hout]

/-- Where an ABORT has taken a pass behind a block and no event waits, the pass ends. -/
theorem runPass_aborted (hwait : s.dense.waiting = []) (habort : s.aborting 1 = true) (hblocks : s.dense.blocks ≠ 0) :
    s.runPass p = s.conclude 1 (if s.dense.bad then .badFormat else .ok) 0
      (if p.out = 3 then s.dense.sent else s.dense.blocks) 0 := by
  rw [runPass_eq, if_neg fun ⟨_, h, _⟩ => hblocks h, if_pos ⟨hwait, habort, .inl hblocks⟩, endPass_eq]

section Map

variable (hmap : s.dense.blocks ≠ 0 ∨ s.mapOk p = true)
include hmap

theorem not_mapFails : ¬ (p.out = 3 ∧ s.dense.blocks = 0 ∧ s.mapOk p = false) :=
  fun ⟨_, hblocks, hfails⟩ => hmap.elim (fun h => h hblocks) (by simp [hfails])

/-- With a window open the pass goes on unless an ABORT has taken it behind a block with no event waiting. -/
theorem runPass_open (hwindow : s.streamOpen = true)
    (habort : ¬ (s.dense.waiting = [] ∧ s.aborting 1 = true ∧ s.dense.blocks ≠ 0)) :
    s.runPass p =
      let t := if s.dense.waiting = [] then s.runBlock p else s
      (t.injectDense t.dense.waiting).settlePass p := by
  have hopen : ¬ (p.out = 3 ∧ s.streamOpen = false) := fun h => by simp [hwindow] at h
  exact runPass_goes (not_mapFails hmap)
    (fun ⟨hwait, ha, h⟩ => h.elim (fun hblocks => habort ⟨hwait, ha, hblocks⟩) hopen) hopen

theorem runPass_emits (hwindow : s.streamOpen = true) (hwait : s.dense.waiting = [])
    (habort : ¬ (s.aborting 1 = true ∧ s.dense.blocks ≠ 0)) :
    s.runPass p =
      let t := s.runBlock p
      (t.injectDense t.dense.waiting).settlePass p := by
  rw [runPass_open hmap hwindow fun h => habort h.2, if_pos hwait]

theorem runPass_injects (hwindow : s.streamOpen = true) (hwait : s.dense.waiting ≠ []) :
    s.runPass p = (s.injectDense s.dense.waiting).settlePass p := by
  rw [runPass_open hmap hwindow fun h => hwait h.1, if_neg hwait]

theorem runPass_waits (hout : p.out = 3) (hwindow : s.streamOpen = false)
    (habort : ¬ (s.dense.waiting = [] ∧ s.aborting 1 = true)) :
    s.runPass p = s := by
  rw [runPass_eq, if_neg (not_mapFails hmap), if_neg fun ⟨hwait, ha, _⟩ => habort ⟨hwait, ha⟩,
    if_pos ⟨hout, hwindow⟩]

end Map

theorem runPass_mapFails (hout : p.out = 3) (hblocks : s.dense.blocks = 0) (hmap : s.mapOk p = false) :
    s.runPass p = s.conclude 1 .badFormat 0 0 0 := by
  rw [runPass_eq, if_pos ⟨hout, hblocks, hmap⟩]

/-! ### GEMM and CONV (R217, R218) -/

section Commands

variable {run : RunCmd} {t : State}

theorem exec_denseGemm : exec .denseGemm s = execDenseGemm s := rfl
theorem exec_denseConv : exec .denseConv s = execDenseConv s := rfl

section Gemm

variable (hrun : s.runningOp 1 .gemm = some run)
include hrun

theorem gemm_pass (hm : (s.gemmPass run.cmd).m ≠ 0) (hn : (s.gemmPass run.cmd).n ≠ 0)
    (hk : (s.gemmPass run.cmd).k ≠ 0) (hpass : s.runPass (s.gemmPass run.cmd) = t) :
    exec .denseGemm s = .next t := by
  simp only [exec_denseGemm, execDenseGemm, hrun, hm, hn, hk, or_self, if_false, hpass]

theorem gemm_empty
    (h : (s.gemmPass run.cmd).m = 0 ∨ (s.gemmPass run.cmd).n = 0 ∨ (s.gemmPass run.cmd).k = 0) :
    exec .denseGemm s = .next (s.conclude 1 .badFormat 0 0 0) := by
  simp only [exec_denseGemm, execDenseGemm, hrun, if_pos h]

end Gemm

section Conv

/-- A shape that CONV refuses: an extent of 0, or more filter places than K may count (R218). -/
def convEmpty (x : ConvShape) : Prop :=
  x.h = 0 ∨ x.w = 0 ∨ x.cin = 0 ∨ x.cout = 0 ∨ x.kh = 0 ∨ x.kw = 0 ∨ x.ho = 0 ∨ x.wo = 0 ∨ 65535 < x.kh * x.kw * x.cin

/-- A shape that CONV takes: no extent of 0, and filter places that K may count (R218). -/
def convSized (x : ConvShape) : Prop :=
  x.h ≠ 0 ∧ x.w ≠ 0 ∧ x.cin ≠ 0 ∧ x.cout ≠ 0 ∧ x.kh ≠ 0 ∧ x.kw ≠ 0 ∧ x.ho ≠ 0 ∧ x.wo ≠ 0 ∧ x.kh * x.kw * x.cin ≤ 65535

theorem convSized_iff {x : ConvShape} : convSized x ↔ ¬ convEmpty x := by
  simp only [convSized, convEmpty, not_or, ne_eq, Nat.not_lt]

variable (hrun : s.runningOp 1 .conv = some run)
include hrun

theorem conv_pass (hsized : convSized (convShape run.cmd)) (hpass : s.runPass (s.convPass run.cmd) = t) :
    exec .denseConv s = .next t := by
  simp only [exec_denseConv, execDenseConv, hrun, hpass]
  exact if_neg (convSized_iff.mp hsized)

theorem conv_empty (h : convEmpty (convShape run.cmd)) :
    exec .denseConv s = .next (s.conclude 1 .badFormat 0 0 0) := by
  simp only [exec_denseConv, execDenseConv, hrun]
  exact if_pos h

end Conv

end Commands

/-- Settles O5: GEMM and CONV each take their pass a step on, and the step is one of the cases above. -/
theorem denseCommands : Obligations.DenseCommands :=
  ⟨fun _ _ hrun hm hn hk hout hwait habort => gemm_pass hrun hm hn hk (runPass_stores hout hwait habort),
    fun _ _ hrun hm hn hk _ hmap hopen hwait habort =>
      gemm_pass hrun hm hn hk (runPass_emits hmap hopen hwait habort),
    fun _ _ hrun hm hn hk _ hmap hopen hwait => gemm_pass hrun hm hn hk (runPass_injects hmap hopen hwait),
    fun _ _ hrun hm hn hk hout hmap hopen habort => gemm_pass hrun hm hn hk (runPass_waits hmap hout hopen habort),
    fun _ _ hrun hm hn hk hout hblocks hmap => gemm_pass hrun hm hn hk (runPass_mapFails hout hblocks hmap),
    fun _ _ hrun hm hn hk hwait habort hblocks => gemm_pass hrun hm hn hk (runPass_aborted hwait habort hblocks),
    fun _ _ => gemm_empty,
    fun _ _ hrun hsized hout hwait habort => conv_pass hrun hsized (runPass_stores hout hwait habort),
    fun _ _ hrun hsized _ hmap hopen hwait habort =>
      conv_pass hrun hsized (runPass_emits hmap hopen hwait habort),
    fun _ _ hrun hsized _ hmap hopen hwait => conv_pass hrun hsized (runPass_injects hmap hopen hwait),
    fun _ _ hrun hsized hout hmap hopen habort => conv_pass hrun hsized (runPass_waits hmap hout hopen habort),
    fun _ _ hrun hsized hout hblocks hmap => conv_pass hrun hsized (runPass_mapFails hout hblocks hmap),
    fun _ _ hrun hsized hwait habort hblocks => conv_pass hrun hsized (runPass_aborted hwait habort hblocks),
    fun _ _ => conv_empty⟩

end Sys2Proof.DenseProofs
end

section
/-!
PROOFS. Far rows: fetch requests issued, prefetch hints, arriving lines and the slots of the bulk switches, an equation for each case.
-/
namespace Sys2Proof.FarProofs
open Sys2Proof Sys2Proof.Machine

variable {s : State}

/-- An engine's record replaced leaves every cluster's far-row cache. -/
@[simp] theorem setFetch_store (k c : Nat) (x : FetchEngine) : (s.setFetch k x).store c = s.store c := rfl

/-- The far row directory lies in memory, which an engine's record leaves. -/
@[simp] theorem setFetch_farEntry (k c t f : Nat) (x : FetchEngine) : (s.setFetch k x).farEntry c t f = s.farEntry c t f :=
  rfl

/-! ### FETCH_ISSUE (R149, R150, R155) -/

section Issue

variable {k : Nat} {dirBad : Bool} {r : FetchRequest} {l : List FetchRequest}

theorem fetchIssue_eq {k : PackageId} :
    exec (.fetchIssue k dirBad) s = .next (s.issueFirst k.val dirBad (s.issuable k.val)) := rfl

theorem issueFirst_nil : s.issueFirst k dirBad [] = s := rfl

theorem issueFirst_fenced (hfence : (s.tile r.cluster r.tile).fenced = true) :
    s.issueFirst k dirBad (r :: l) =
      let a := (s.dropRequest k r).bumpFar Reg.FETCH_FENCED r.cluster k 1
      a.setStore r.cluster { a.store r.cluster with
        tags := (a.store r.cluster).tags.filter fun g => !(g.tile == r.tile && g.f == r.f) } := by
  rw [State.issueFirst, if_pos hfence]

variable (hfence : (s.tile r.cluster r.tile).fenced = false)
include hfence

theorem issueFirst_passes (hbar : 64 ≤ s.returning k r.cluster false ∨
      (s.fetchEngine k).directoryOpen (s.farDirAddr r.cluster r.tile r.f / 64) = false) :
    s.issueFirst k dirBad (r :: l) = s.issueFirst k dirBad l := by
  rw [State.issueFirst, if_neg (Bool.eq_false_iff.mp hfence), if_pos (by simpa using hbar)]

section Ready

variable (hreturn : s.returning k r.cluster false < 64)
  (hopen : (s.fetchEngine k).directoryOpen (s.farDirAddr r.cluster r.tile r.f / 64) = true)
include hreturn hopen

/-- A request with room for its lines and its directory line in the budget: the line is read, and what the row finds decides. -/
theorem issueFirst_ready : s.issueFirst k dirBad (r :: l) =
    let a := s.directoryRead k r.cluster r.tile r.f
    if (s.store r.cluster).offer < (s.farEntry r.cluster r.tile r.f).2 ∧ !dirBad then
      (a.bumpAt Reg.LINE_WAIT r.cluster).issueFirst k dirBad l
    else ((a.dropRequest k r).bumpFar Reg.FETCH_ISSUED r.cluster k 1).startRow k r.cluster r.tile r.f r.due dirBad := by
  rw [State.issueFirst, if_neg (Bool.eq_false_iff.mp hfence), if_neg (by simp [hreturn, hopen])]

theorem issueFirst_waits (hlines : (s.store r.cluster).offer < (s.farEntry r.cluster r.tile r.f).2) :
    s.issueFirst k false (r :: l) =
      ((s.directoryRead k r.cluster r.tile r.f).bumpAt Reg.LINE_WAIT r.cluster).issueFirst k false l := by
  rw [issueFirst_ready hfence hreturn hopen]
  exact if_pos ⟨hlines, rfl⟩

theorem issueFirst_issues
    (hlines : (s.farEntry r.cluster r.tile r.f).2 ≤ (s.store r.cluster).offer ∨ dirBad = true) :
    s.issueFirst k dirBad (r :: l) = (((s.directoryRead k r.cluster r.tile r.f).dropRequest k r).bumpFar
      Reg.FETCH_ISSUED r.cluster k 1).startRow k r.cluster r.tile r.f r.due dirBad := by
  rw [issueFirst_ready hfence hreturn hopen]
  refine if_neg fun ⟨hshort, hgood⟩ => ?_
  exact hlines.elim (Nat.not_le.mpr hshort) (by simpa using hgood)

end Ready

end Issue

/-! ### A row begun (R149, R150, R155) -/

section Row

variable {k c t f due : Nat}

theorem startRow_bad :
    s.startRow k c t f due true = (s.setStore c ((s.store c).modTag t f fun g =>
      { g with present := true, issued := true, failed := true })).farEcc c k (s.farDirAddr c t f) due := rfl

theorem startRow_empty (hlen : (s.farEntry c t f).2 = 0) :
    s.startRow k c t f due false = s.setStore c ((s.store c).modTag t f fun g =>
      { g with present := true, issued := true }) := by
  rw [State.startRow]
  exact if_pos hlen

theorem startRow_reads (hlen : (s.farEntry c t f).2 ≠ 0) :
    let a := s.evict c (s.farEntry c t f).2 2048
    let b := a.setStore c ((a.store c).modTag t f fun g => { g with issued := true, len := (s.farEntry c t f).2 })
    s.startRow k c t f due false = b.setFetch k { b.fetchEngine k with jobs := (b.fetchEngine k).jobs ++
      [{ cluster := c, tile := t, f := f, addr := (s.farEntry c t f).1, len := (s.farEntry c t f).2 }] } := by
  intro a b
  rw [State.startRow]
  exact if_neg hlen

theorem returning_eq {all : Bool} :
    s.returning k c all = (s.fetchEngine k).jobs.foldl
      (fun a j => if j.cluster = c ∧ (all ∨ !s.speculative j) then a + (j.len - j.sent) else a) 0 := rfl

end Row

/-! ### HINT_ISSUE and HINT_STALE (R156, R158) -/

section Hint

variable {k : PackageId} {dirBad : Bool} {h : FetchHint} {l : List FetchHint} {g : FarTag}

theorem exec_hintIssue : exec (.hintIssue k dirBad) s = execHintIssue k dirBad s := rfl

theorem hintIssue_none (hbar : ((s.fetchEngine k.val).hints.head?.all fun h => s.canIssue k.val ||
      decide (64 ≤ s.returning k.val h.cluster true) ||
      !(s.fetchEngine k.val).directoryOpen (s.farDirAddr h.cluster h.tile h.f / 64)) = true) :
    exec (.hintIssue k dirBad) s = .next s := by
  rw [exec_hintIssue, execHintIssue]
  split
  case h_1 => rfl
  case h_2 h l hhints =>
    rw [hhints] at hbar
    exact if_pos (by simpa [or_assoc] using hbar)

section Head

variable (hhints : (s.fetchEngine k.val).hints = h :: l) (hidle : s.canIssue k.val = false)
  (hreturn : s.returning k.val h.cluster true < 64)
  (hopen : (s.fetchEngine k.val).directoryOpen (s.farDirAddr h.cluster h.tile h.f / 64) = true)
include hhints hidle hreturn hopen

theorem hintIssue_joins (htag : (s.store h.cluster).tag h.tile h.f = some g) :
    exec (.hintIssue k dirBad) s =
      .next (((s.setFetch k.val { s.fetchEngine k.val with hints := l }).bumpFar Reg.FETCH_JOIN h.cluster k.val
        1).bumpAt Reg.PF_DUP h.cluster) := by
  simp only [exec_hintIssue, execHintIssue, hhints, hidle, Nat.not_le.mpr hreturn, hopen, setFetch_store, htag,
    Bool.not_true, Bool.false_eq_true, or_self, if_false]

variable (htag : (s.store h.cluster).tag h.tile h.f = none)
include htag

theorem hintIssue_waits (hfull : 2048 ≤ (s.store h.cluster).tags.length ∨
      (s.store h.cluster).offer < (s.farEntry h.cluster h.tile h.f).2) :
    exec (.hintIssue k dirBad) s = .next s := by
  simp only [exec_hintIssue, execHintIssue, hhints, hidle, Nat.not_le.mpr hreturn, hopen, setFetch_store,
    setFetch_farEntry, htag, hfull, Bool.not_true, Bool.false_eq_true, or_self, if_false, if_true]

theorem hintIssue_issues (htags : (s.store h.cluster).tags.length < 2048)
    (hlines : (s.farEntry h.cluster h.tile h.f).2 ≤ (s.store h.cluster).offer) :
    exec (.hintIssue k dirBad) s = .next (
      let a := s.setFetch k.val { s.fetchEngine k.val with hints := l }
      let b := a.setStore h.cluster { a.store h.cluster with
        tags := (a.store h.cluster).tags ++ [{ tile := h.tile, f := h.f, present := false, prefetch := true }] }
      ((b.bumpAt Reg.PF_ISSUED h.cluster).directoryRead k.val h.cluster h.tile h.f).startRow k.val h.cluster h.tile
        h.f 0 dirBad) := by
  simp only [exec_hintIssue, execHintIssue, hhints, hidle, Nat.not_le.mpr hreturn, hopen, setFetch_store,
    setFetch_farEntry, htag, Nat.not_le.mpr htags, Nat.not_lt.mpr hlines, Bool.not_true, Bool.false_eq_true, or_self,
    if_false]

end Head

/-- A hint stays until the update of the step after its own has ended. -/
theorem hintStale_discards {stale : List FetchHint} (hstale : ((s.fetchEngine k.val).hints.filter fun h =>
      decide (h.step + 1 ≤ (s.tile (h.source / 64) (h.source % 64)).updated)) = stale) :
    exec (.hintStale k) s = .next (
      let a := stale.foldl (fun s h => s.bumpAt Reg.PF_STALE h.cluster) s
      let stays (h : FetchHint) : Bool := (s.tile (h.source / 64) (h.source % 64)).updated < h.step + 1
      a.setFetch k.val { s.fetchEngine k.val with hints := (s.fetchEngine k.val).hints.filter stays }) := by
  have hstays (n m : Nat) : decide (m < n) = !decide (n ≤ m) := by rw [← decide_not, decide_eq_decide, Nat.not_le]
  subst hstale
  simp only [hstays]
  rfl

end Hint

/-! ### FETCH_LINE_ARRIVE (R151, R155) -/

section Line

variable {c : ClusterId} {bad : Bool} {x : BulkLine} {rest : List BulkLine} {g : FarTag}

theorem exec_fetchLineArrive : exec (.fetchLineArrive c bad) s = execFetchLineArrive c bad s := rfl

theorem fetchLineArrive_none (hlanded : (s.store c.val).landed = []) :
    exec (.fetchLineArrive c bad) s = .next s := by
  simp only [exec_fetchLineArrive, execFetchLineArrive, hlanded]

variable (hlanded : (s.store c.val).landed = x :: rest)
include hlanded

theorem fetchLineArrive_drops (htag : (s.store c.val).tag x.tile x.f = none) :
    exec (.fetchLineArrive c bad) s = .next (s.setStore c.val { s.store c.val with landed := rest }) := by
  simp only [exec_fetchLineArrive, execFetchLineArrive, hlanded, htag]

theorem fetchLineArrive_joins (htag : (s.store c.val).tag x.tile x.f = some g) :
    exec (.fetchLineArrive c bad) s = .next (
      let a := s.setStore c.val { s.store c.val with landed := rest }
      let b := a.setStore c.val ((a.store c.val).modTag x.tile x.f fun g =>
        { g with data := g.data ++ x.data, badLines := if bad || x.bad then g.badLines ++ [x.index] else g.badLines })
      let d := if bad || x.bad then
          b.farEcc c.val (packageOf x.f) ((b.farEntry c.val x.tile x.f).1 + 64 * x.index) g.due
        else b
      if x.index + 1 = g.len then d.rowArrived c.val x.tile x.f else d) := by
  simp only [exec_fetchLineArrive, execFetchLineArrive, hlanded, htag, apply_ite Host.Outcome.next]

end Line

/-! ### BULK_SLOT_MOVE (R157, R159, R160) -/

section Slot

variable {sw : ClusterId} {out : Fin 7} {slot : Fin 256} {bad : Bool} {offer : Option BulkOffer} {a : State}

theorem exec_bulkSlotMove : exec (.bulkSlotMove sw out slot bad offer) s = execBulkSlotMove sw out slot bad offer s :=
  rfl

theorem bulkSlotMove_idle (hframe : s.frameStart sw.val slot.val = a)
    (hbar : natBit (a.slotEntry sw.val out.val slot.val) 3 = false ∨ a.outputRoom sw.val out.val = false) :
    exec (.bulkSlotMove sw out slot bad offer) s = .next a := by
  rw [exec_bulkSlotMove, execBulkSlotMove, hframe]
  exact if_pos (by simpa using hbar)

theorem bulkSlotMove_moves {e : Nat} (hframe : s.frameStart sw.val slot.val = a)
    (hentry : a.slotEntry sw.val out.val slot.val = e) (hvalid : natBit e 3 = true)
    (hroom : a.outputRoom sw.val out.val = true) :
    exec (.bulkSlotMove sw out slot bad offer) s = .next (
      match a.takeLine sw.val (bitField e 0 3) (bitField e 4 4) (bitField e 8 4) offer with
      | (some x, b) => b.putLine sw.val out.val { x with bad := x.bad || bad }
      | (none, b) => if bitField e 4 4 = 0 then b.bumpAt Reg.SLOT_IDLE_FETCH (bitField e 8 4) else b) := by
  simp only [exec_bulkSlotMove, execBulkSlotMove, hframe, hentry, hvalid, hroom, Bool.not_true, Bool.false_eq_true,
    or_self, if_false]
  obtain ⟨line, b⟩ := a.takeLine sw.val (bitField e 0 3) (bitField e 4 4) (bitField e 8 4) offer
  cases line with
  | some x => rfl
  | none => rfl

end Slot

section Take

variable {sw port kind clu : Nat} {offer : Option BulkOffer}

theorem takeLine_waiting {x : BulkLine}
    (hfind : ((s.switchQueue sw port).find? fun l => l.kind == kind && l.clu == clu) = some x) :
    s.takeLine sw port kind clu offer = (some x, s.setSwitchQueue sw port (dropFirst x (s.switchQueue sw port))) := by
  simp only [State.takeLine, hfind]

theorem takeLine_offered (hfind : ((s.switchQueue sw port).find? fun l => l.kind == kind && l.clu == clu) = none) :
    s.takeLine sw port kind clu offer = s.offerLine sw port kind clu offer := by
  simp only [State.takeLine, hfind]

end Take

/-- Settles O29: the cases above, command by command. -/
theorem farFetch : Obligations.FarFetch :=
  ⟨fun _ _ _ => fetchIssue_eq, fun _ _ _ => issueFirst_nil, fun _ _ _ _ _ => issueFirst_fenced,
    fun _ _ _ _ _ => issueFirst_passes, fun _ _ _ _ => issueFirst_waits, fun _ _ _ _ _ => issueFirst_issues,
    fun _ _ _ _ _ _ => startRow_bad, fun _ _ _ _ _ _ => startRow_empty, fun _ _ _ _ _ _ => startRow_reads,
    fun _ _ _ => hintIssue_none, fun _ _ _ _ _ _ => hintIssue_joins, fun _ _ _ _ _ => hintIssue_waits,
    fun _ _ _ _ _ => hintIssue_issues, fun _ _ _ => hintStale_discards,
    fun _ _ _ => fetchLineArrive_none, fun _ _ _ _ _ => fetchLineArrive_drops,
    fun _ _ _ _ _ _ => fetchLineArrive_joins,
    fun _ _ _ _ _ _ _ => bulkSlotMove_idle, fun _ _ _ _ _ _ _ _ => bulkSlotMove_moves,
    fun _ _ _ _ _ _ _ => takeLine_waiting, fun _ _ _ _ _ _ => takeLine_offered, fun _ _ _ _ => returning_eq⟩

end Sys2Proof.FarProofs
end

section
/-!
PROOFS. Plasticity at an epoch's boundary (07): reports, the trace groom, the end of an epoch, its capture
and its sweep, an equation for each case.
-/
namespace Sys2Proof.PlasticityProofs
open Sys2Proof Sys2Proof.Machine

/-! ### A cluster's plasticity engine -/

/-- The later of two writes to one key stands. -/
@[simp] theorem assocSet_assocSet {β : Type} (k : Nat) (v w : β) (l : Assoc β) :
    Assoc.set k v (Assoc.set k w l) = Assoc.set k v l := by
  induction l with
  | nil => simp [Assoc.set]
  | cons e l ih =>
    obtain ⟨j, u⟩ := e
    by_cases hsame : j = k
    · simp [Assoc.set, hsame]
    · by_cases hbefore : k < j
      · simp [Assoc.set, hsame, hbefore]
      · simp [Assoc.set, hsame, hbefore, ih]

variable {s : State} {c : ClusterId}

@[simp] theorem setPlast_plast (k : Nat) (x : PlastEngine) : (s.setPlast k x).plast k = x := by
  simp [State.plast, State.setPlast, Assoc.getD_set]

@[simp] theorem setPlast_setPlast (k : Nat) (x y : PlastEngine) : (s.setPlast k x).setPlast k y = s.setPlast k y := by
  simp [State.setPlast]

/-! ### PRE_REPORT (R175, R200) -/

section PreReports

variable {bad : Bool} {r : PreReport} {l : List PreReport}

theorem exec_preReport : exec (.preReport c bad) s = execPreReport c bad s := rfl

theorem preReport_none (hpre : (s.plast c.val).pre = []) : exec (.preReport c bad) s = .next s := by
  simp only [exec_preReport, execPreReport, hpre]

variable (hpre : (s.plast c.val).pre = r :: l)
include hpre

theorem preReport_applies (hgood : bad = false ∨ (s.plast c.val).farFind r.row = none) :
    exec (.preReport c bad) s = .next ((s.setPlast c.val { s.plast c.val with pre := l }).applyPre c.val r) := by
  have hkeep : ¬(bad = true ∧ ((s.plast c.val).farFind r.row).isSome = true) := by
    rcases hgood with hgood | hgood <;> simp [hgood]
  simp only [exec_preReport, execPreReport, hpre, if_neg hkeep]

theorem preReport_drops (hfar : (s.plast c.val).farFind r.row ≠ none) :
    exec (.preReport c true) s = .next (
      ((s.setPlast c.val { s.plast c.val with
        pre := l, farPlx := (s.plast c.val).farPlx.filter fun x => x.1 ≠ r.row }).plasticEcc c.val r.row.tile
          r.row.ident).applyPre c.val r) := by
  simp only [exec_preReport, execPreReport, hpre, Option.isSome_iff_ne_none.mpr hfar, and_self, if_true,
    setPlast_plast, setPlast_setPlast]

end PreReports

/-! ### POST_REPORT (R177, R200) -/

section PostReports

variable {bad : Bool} {r : PostReport} {l : List PostReport}

theorem exec_postReport : exec (.postReport c bad) s = execPostReport c bad s := rfl

theorem takePost_applies {k : Nat} (hqueue : (s.plast k).postQueue = r :: l) :
    s.takePost k = (s.setPlast k { s.plast k with postQueue := l }).applyPost k r := by
  simp only [State.takePost, hqueue]

theorem postReport_none (hqueue : (s.plast c.val).postQueue = []) : exec (.postReport c bad) s = .next s := by
  simp only [exec_postReport, execPostReport, hqueue]

variable (hqueue : (s.plast c.val).postQueue = r :: l)
include hqueue

theorem postReport_applies
    (hgood : bad = false ∨ ((s.plast c.val).post.any fun x => x.tile == r.tile && x.neuron == r.neuron) = false) :
    exec (.postReport c bad) s =
      .next ((s.setPlast c.val { s.plast c.val with postQueue := l }).applyPost c.val r) := by
  have hkeep : ¬(bad = true ∧
      ((s.plast c.val).post.any fun x => x.tile == r.tile && x.neuron == r.neuron) = true) := by
    rcases hgood with hgood | hgood <;> simp only [hgood, Bool.false_eq_true, false_and, and_false, not_false_eq_true]
  simp only [exec_postReport, execPostReport, hqueue, if_neg hkeep, takePost_applies hqueue]

theorem postReport_drops
    (hrecord : ((s.plast c.val).post.any fun x => x.tile == r.tile && x.neuron == r.neuron) = true) :
    exec (.postReport c true) s = .next (
      ((s.setPlast c.val { s.plast c.val with
        post := (s.plast c.val).post.filter fun x => !(x.tile == r.tile && x.neuron == r.neuron) }).plasticEcc c.val
          r.tile r.neuron).takePost c.val) := by
  simp only [exec_postReport, execPostReport, hqueue, hrecord, and_self, if_true]

end PostReports

/-! ### TRACE_GROOM_VISIT (R178, R200) -/

section Groom

variable {bad : Bool} {row : RowName} {k : Nat} {x : RowName × Nat}

theorem exec_traceGroomVisit : exec (.traceGroomVisit c bad) s = execTraceGroomVisit c bad s := rfl

theorem traceGroomVisit_none (hnear : s.nearPlastic c.val = []) (hfar : (s.plast c.val).farPlx = []) :
    exec (.traceGroomVisit c bad) s = .next s := by
  rw [exec_traceGroomVisit, execTraceGroomVisit]
  exact if_pos (by rw [hnear, hfar]; rfl)

variable (htotal : 0 < (s.nearPlastic c.val).length + (s.plast c.val).farPlx.length)
include htotal

theorem traceGroomVisit_near (hrow : (s.nearPlastic c.val)[(s.plast c.val).groomCursor %
      ((s.nearPlastic c.val).length + (s.plast c.val).farPlx.length)]? = some row) :
    exec (.traceGroomVisit c bad) s = .next (
      let total := (s.nearPlastic c.val).length + (s.plast c.val).farPlx.length
      let a := s.nearRowAddr c.val row.tile row.row + 12
      let s1 := (s.setPlast c.val { s.plast c.val with
        groomCursor := ((s.plast c.val).groomCursor % total + 1) % total }).bumpAt Reg.TRACE_GROOM c.val
      if bad then
        (s1.setWord a 4 (Plx.toWord { rxpre := 0, rtl := s.fabric.learned % 4096, spre0 := 0, spre1 := 0 })).plasticEcc
          c.val row.tile row.ident
      else s1.setWord a 4 (groomPlx (Plx.ofWord (s.word a 4)) s.fabric.learned).toWord) := by
  simp only [exec_traceGroomVisit, execTraceGroomVisit, if_neg (Nat.ne_of_gt htotal), hrow, apply_ite Host.Outcome.next]

theorem traceGroomVisit_far
    (hk : (s.plast c.val).groomCursor % ((s.nearPlastic c.val).length + (s.plast c.val).farPlx.length) = k)
    (hrow : (s.nearPlastic c.val)[k]? = none)
    (hentry : (s.plast c.val).farPlx[k - (s.nearPlastic c.val).length]? = some x) :
    exec (.traceGroomVisit c bad) s = .next (
      let total := (s.nearPlastic c.val).length + (s.plast c.val).farPlx.length
      let s1 := (s.setPlast c.val { s.plast c.val with
        groomCursor := ((s.plast c.val).groomCursor % total + 1) % total }).bumpAt Reg.TRACE_GROOM c.val
      let y := groomPlx (Plx.ofWord x.2) s.fabric.learned
      let gone := s1.setPlast c.val { s1.plast c.val with
        farPlx := (s1.plast c.val).farPlx.filter (fun z => z.1 ≠ x.1), groomCursor := k }
      if bad then gone.plasticEcc c.val x.1.tile x.1.ident
      else if y.rxpre = 0 ∧ y.spre0 = 0 ∧ y.spre1 = 0 then gone
      else s1.setPlast c.val ((s1.plast c.val).farSet x.1 y.toWord)) := by
  subst hk
  obtain ⟨row, w⟩ := x
  simp only [exec_traceGroomVisit, execTraceGroomVisit, if_neg (Nat.ne_of_gt htotal), hrow, hentry,
    apply_ite Host.Outcome.next]

end Groom

/-! ### EPOCH_END (R179) -/

section EpochEnd

theorem exec_epochEnd : exec .epochEnd s = execEpochEnd s := rfl

theorem epochEnd_ends (hending : s.learning.ending = none) (hloaded : s.reg Reg.HARNESS_STATE = 2)
    (hmaster : s.isMaster = true) (hlen : s.learning.epochLen ≠ 0)
    (hsteps : s.learning.epochLen ≤ s.learning.epochSteps) :
    exec .epochEnd s = .next (s.endEpoch false) := by
  simp only [exec_epochEnd, execEpochEnd, hending, hloaded, hmaster, hlen, hsteps, Option.isSome_none,
    Bool.false_eq_true, ne_eq, not_true_eq_false, not_false_eq_true, or_self, and_self, if_true, if_false]

theorem epochEnd_takesBroadcast {m : Nat × Nat × Nat} (hending : s.learning.ending = none)
    (hloaded : s.reg Reg.HARNESS_STATE = 2) (hmaster : s.isMaster = false)
    (hnews : (s.fabric.news.find? fun m => m.1 = 3) = some m) :
    exec .epochEnd s =
      .next ((s.modFabric fun f => { f with news := dropFirst m f.news }).modLearning fun l =>
        { l with ending := some (m.2.1, s.now), command := false }) := by
  simp only [exec_epochEnd, execEpochEnd, hending, hloaded, hmaster, hnews, Option.isSome_none, Bool.false_eq_true,
    ne_eq, not_true_eq_false, or_self, if_false]

theorem epochEnd_waits (hbar : s.learning.ending ≠ none ∨ s.reg Reg.HARNESS_STATE ≠ 2 ∨
      s.isMaster = true ∧ (s.learning.epochLen = 0 ∨ s.learning.epochSteps < s.learning.epochLen) ∨
      s.isMaster = false ∧ (s.fabric.news.find? fun m => m.1 = 3) = none) :
    exec .epochEnd s = .next s := by
  rw [exec_epochEnd, execEpochEnd]
  by_cases hbusy : s.learning.ending.isSome = true ∨ s.reg Reg.HARNESS_STATE ≠ 2
  · exact if_pos hbusy
  · rw [not_or] at hbusy
    obtain ⟨hending, hloaded⟩ := hbusy
    rcases hbar with h | h | ⟨hmaster, hlen⟩ | ⟨hmaster, hnews⟩
    · exact absurd (Option.isSome_iff_ne_none.mpr h) hending
    · exact absurd h hloaded
    · have hshort : ¬(s.learning.epochLen ≠ 0 ∧ s.learning.epochLen ≤ s.learning.epochSteps) := by omega
      simp only [hending, hloaded, hmaster, hshort, or_self, Bool.false_eq_true, if_true, if_false]
    · simp only [hending, hloaded, hmaster, hnews, or_self, Bool.false_eq_true, if_false]

end EpochEnd

/-! ### CAPTURE (R180, R187, R191) -/

section Capture

variable {others : Option Status}

theorem exec_capture : exec (.capture others) s = execCapture others s := rfl

theorem capture_waits (hbar : (s.learning.ending.all fun e =>
      !s.captureReady e.1 || (s.isMaster && others.isNone)) = true) :
    exec (.capture others) s = .next s := by
  rw [exec_capture, execCapture]
  split
  case h_1 => rfl
  case h_2 nb from' hending =>
    rw [hending] at hbar
    exact if_pos (by simpa using hbar)

theorem capture_runs {nb from' : Nat} (hending : s.learning.ending = some (nb, from'))
    (hready : s.captureReady nb = true) (hothers : s.isMaster = false ∨ others ≠ none) :
    exec (.capture others) s = .next (
      let s0 := s.noteSweepWait from'
      let s1 := s0.plasticClusters.foldl (fun s c => s.compactSome c ((s.plast c).prune.length + 2)) s0
      if s1.plasticClusters.any fun c => (s1.plast c).prune != [] || (s1.plast c).edits != [] then s1
      else (s1.captureNow nb).learnDone (s.reg Reg.EPOCH) nb (others.getD .ok)) := by
  have htold : ¬(s.isMaster = true ∧ others = none) := by
    rcases hothers with h | h <;> simp [h]
  simp only [exec_capture, execCapture, hending, hready, htold, Bool.not_true, Bool.false_eq_true, or_self, if_false,
    apply_ite Host.Outcome.next]

end Capture

/-! ### SWEEP_ROW (R182, R191, R200) -/

section SweepRows

variable {f : SweepFlaws} {row : RowName} {l : List RowName} {x : Plx} {g : Nat}

theorem exec_sweepRow : exec (.sweepRow c f) s = execSweepRow c f s := rfl

theorem sweepRow_goesOn {cur : SweepRow} (hcurrent : (s.plast c.val).current = some cur) :
    exec (.sweepRow c f) s = .next ((s.dropFlawed c.val cur.row f).runSweep c.val cur f) := by
  simp only [exec_sweepRow, execSweepRow, hcurrent]

variable (hcurrent : (s.plast c.val).current = none)
include hcurrent

theorem sweepRow_none (hclosed : (s.plast c.val).closed = []) : exec (.sweepRow c f) s = .next s := by
  simp only [exec_sweepRow, execSweepRow, hcurrent, hclosed]

variable (hclosed : (s.plast c.val).closed = row :: l)
include hclosed

theorem sweepRow_drops (hbad : f.plx = true) :
    exec (.sweepRow c f) s = .next (
      ((if row.far then s.modPlast c.val fun e => { e with farPlx := e.farPlx.filter fun y => y.1 ≠ row }
        else s.setRowPlx c.val row { rxpre := 0, rtl := s.fabric.learned % 4096, spre0 := 0, spre1 := 0 }).plasticEcc
          c.val row.tile row.ident).nextRow c.val) := by
  simp only [exec_sweepRow, execSweepRow, hcurrent, hclosed, hbad, if_true]

theorem sweepRow_passes (hgood : f.plx = false) (hspre : (s.rowPlx c.val row).spre ((s.reg Reg.EPOCH + 1) % 2) = 0) :
    exec (.sweepRow c f) s = .next (s.nextRow c.val) := by
  simp only [exec_sweepRow, execSweepRow, hcurrent, hclosed, hgood, hspre, Bool.false_eq_true, if_true, if_false]

theorem sweepRow_sweeps (hgood : f.plx = false) (hplx : s.rowPlx c.val row = x)
    (hspre : x.spre ((s.reg Reg.EPOCH + 1) % 2) ≠ 0)
    (hgroup : s.group (s.rowHeader (.at (s.rowAddr c.val row))).pgrp = g) :
    exec (.sweepRow c f) s = .next (
      let k := s.classAt (grpSrcCls g) s.fabric.learned
      let xPre := traceAt x.rxpre k.tauPre x.rtl (s.reg Reg.EPOCH_END_STEP) s.fabric.learned
      let cur : SweepRow :=
        { row := row, xPre := xPre.toNat, sPre := x.spre ((s.reg Reg.EPOCH + 1) % 2), word := 0 }
      ((s.modPlast c.val fun e => { e with current := some cur }).dropFlawed c.val row f).runSweep c.val cur f) := by
  simp only [exec_sweepRow, execSweepRow, hcurrent, hclosed, hgood, hplx, hspre, hgroup, Bool.false_eq_true, if_false]

end SweepRows

/-! ### SWEEP_END (R181, R191, R289) -/

section SweepEnds

theorem exec_sweepEnd : exec .sweepEnd s = execSweepEnd s := rfl

theorem sweepEnd_waits (hbar : s.reg Reg.SWEEP_BUSY = 0 ∨
      (s.plasticClusters.any fun c => (s.plast c).closed != []) = true ∨ s.stagingRoom = false) :
    exec .sweepEnd s = .next s := by
  rw [exec_sweepEnd, execSweepEnd]
  exact if_pos (by rwa [Bool.not_eq_true'])

theorem sweepEnd_ends (hbusy : s.reg Reg.SWEEP_BUSY ≠ 0)
    (hswept : (s.plasticClusters.any fun c => (s.plast c).closed != []) = false) (hroom : s.stagingRoom = true) :
    exec .sweepEnd s = .next (
      let s1 := s.stage 2 (s.reg Reg.JRNL_GEN / 2 ^ 32 % 2 ^ 24) (s.reg Reg.JRNL_GEN % 2 ^ 32)
      let s2 := (s1.setReg Reg.SWEEP_BUSY 0).peak Reg.SWEEP_MAX_NS (s.now - s.learning.sweepFrom)
      let s3 := s.plasticClusters.foldl (fun s c => s.modPlast c fun e => { e with sweeping := false }) s2
      if s.reg Reg.SWEEP_HITCH = 0xFFFF then s3 else s3.hitchNotify (s.reg Reg.SWEEP_HITCH)) := by
  simp only [exec_sweepEnd, execSweepEnd, hbusy, hswept, hroom, Bool.not_true, Bool.false_eq_true, or_self, if_false]

end SweepEnds

/-- Settles O30: the cases above, command by command. -/
theorem plasticityAndStable : Obligations.PlasticityAndStable :=
  ⟨fun _ _ _ => preReport_none, fun _ _ _ _ _ => preReport_applies, fun _ _ _ _ => preReport_drops,
    fun _ _ _ => postReport_none, fun _ _ _ _ _ => postReport_applies, fun _ _ _ _ => postReport_drops,
    fun _ _ _ => traceGroomVisit_none, fun _ _ _ _ => traceGroomVisit_near, fun _ _ _ _ _ => traceGroomVisit_far,
    fun _ => epochEnd_waits, fun _ => epochEnd_ends, fun _ _ => epochEnd_takesBroadcast,
    fun _ _ => capture_waits, fun _ _ _ _ => capture_runs,
    fun _ _ _ => sweepRow_none, fun _ _ _ _ => sweepRow_goesOn, fun _ _ _ _ _ => sweepRow_drops,
    fun _ _ _ _ _ => sweepRow_passes, fun _ _ _ _ _ _ _ => sweepRow_sweeps,
    fun _ => sweepEnd_waits, fun _ => sweepEnd_ends⟩

end Sys2Proof.PlasticityProofs
end

section
/-!
PROOFS. The Stable (07, 11): the journal's drain, consolidation, page remaps and the recovery of words, an equation
for each case.
-/
namespace Sys2Proof.StableProofs
open Sys2Proof Sys2Proof.Machine

variable {s : State} {v : StoreVerify}

/-! ### JOURNAL_DRAIN (R191, R192, R289) -/

section Drain

variable {left : Nat}

theorem exec_journalDrain : exec (.journalDrain v) s = execJournalDrain v s := rfl

theorem journalDrain_waits (hbar : s.mayWriteStable = false ∨ s.journals = false ∨
      s.now < s.learning.drainedAt + 1000) : exec (.journalDrain v) s = .next s := by
  rw [exec_journalDrain, execJournalDrain]
  exact if_pos (by simpa using hbar)

section Ready

variable (hmay : s.mayWriteStable = true) (hjournals : s.journals = true)
  (hrate : s.learning.drainedAt + 1000 ≤ s.now)
include hmay hjournals hrate

/-- A drain that may write goes by what is left of the generation, up to its end where it has one, and by its place in
the half. -/
theorem journalDrain_ready (hleft : s.genEnd.getD s.learning.staged - s.learning.drained = left) :
    exec (.journalDrain v) s = .next (
      if left = 0 then
        if s.genEnd.isSome then s.modLearning fun l => { l with drainGen := l.drainGen + 1, drainPos := 0 } else s
      else if s.learning.drainPos = 0 then s.drainBlock (genHeader s.learning.drainGen) v
      else if 64 ≤ left then
        ((s.drainBlock (s.stagedBytes 64) v).modLearning fun l => { l with drained := l.drained + 64 }).notePending
      else if s.genEnd ≠ none ∨ s.reg Reg.HARNESS_STATE = 3 then s.drainLast left v
      else s) := by
  subst hleft
  have hready : ¬((!s.mayWriteStable) = true ∨ (!s.journals) = true ∨ s.now < s.learning.drainedAt + 1000) := by
    simp [hmay, hjournals, hrate]
  rw [exec_journalDrain, execJournalDrain, if_neg hready]
  cases hend : s.genEnd <;>
    simp only [Option.getD_none, Option.getD_some, Option.isSome_none, Option.isSome_some, Bool.or_eq_true, beq_iff_eq,
      Bool.false_eq_true, ne_eq, not_true_eq_false, reduceCtorEq, not_false_eq_true, false_or, true_or, if_true,
      if_false, apply_ite Host.Outcome.next]

theorem journalDrain_nothingLeft (hleft : s.genEnd.getD s.learning.staged - s.learning.drained = 0) :
    exec (.journalDrain v) s = .next (if s.genEnd.isSome then
      s.modLearning fun l => { l with drainGen := l.drainGen + 1, drainPos := 0 } else s) := by
  rw [journalDrain_ready hmay hjournals hrate hleft, if_pos rfl]

theorem journalDrain_header (hleft : s.genEnd.getD s.learning.staged - s.learning.drained ≠ 0)
    (hpos : s.learning.drainPos = 0) :
    exec (.journalDrain v) s = .next (s.drainBlock (genHeader s.learning.drainGen) v) := by
  rw [journalDrain_ready hmay hjournals hrate rfl, if_neg hleft, if_pos hpos]

variable (hpos : s.learning.drainPos ≠ 0)
include hpos

theorem journalDrain_fullBlock (hfull : 64 ≤ s.genEnd.getD s.learning.staged - s.learning.drained) :
    exec (.journalDrain v) s = .next
      ((s.drainBlock (s.stagedBytes 64) v).modLearning fun l => { l with drained := l.drained + 64 }).notePending := by
  have hleft : s.genEnd.getD s.learning.staged - s.learning.drained ≠ 0 := by omega
  rw [journalDrain_ready hmay hjournals hrate rfl, if_neg hleft, if_neg hpos, if_pos hfull]

theorem journalDrain_lastBlock (hleft : s.genEnd.getD s.learning.staged - s.learning.drained ≠ 0)
    (hpart : s.genEnd.getD s.learning.staged - s.learning.drained < 64)
    (hflush : s.genEnd ≠ none ∨ s.reg Reg.HARNESS_STATE = 3) :
    exec (.journalDrain v) s = .next (s.drainLast (s.genEnd.getD s.learning.staged - s.learning.drained) v) := by
  rw [journalDrain_ready hmay hjournals hrate rfl, if_neg hleft, if_neg hpos, if_neg (Nat.not_le.mpr hpart),
    if_pos hflush]

theorem journalDrain_partWaits (hpart : s.genEnd.getD s.learning.staged - s.learning.drained < 64)
    (hopen : s.genEnd = none) (hloaded : s.reg Reg.HARNESS_STATE ≠ 3) :
    exec (.journalDrain v) s = .next s := by
  have hkeep : ¬(s.genEnd ≠ none ∨ s.reg Reg.HARNESS_STATE = 3) := by simp [hopen, hloaded]
  rw [journalDrain_ready hmay hjournals hrate rfl, if_neg hpos, if_neg (Nat.not_le.mpr hpart), if_neg hkeep,
    if_neg (fun hended => Option.isSome_iff_ne_none.mp hended hopen), ite_self]

end Ready

end Drain

/-! ### CONSOLIDATION_BEGIN and CONSOLIDATION_END (R193, R288, R290) -/

section Consolidation

variable {bad : List (Nat × StoreVerify)}

theorem exec_consolidationBegin : exec (.consolidationBegin bad) s = execConsolidationBegin bad s := rfl

theorem consolidationBegin_waits
    (hbar : s.mayWriteStable = false ∨ s.consolidationDue = false ∨ s.reg Reg.PWR_STATE ≠ 0) :
    exec (.consolidationBegin bad) s = .next s := by
  rw [exec_consolidationBegin, execConsolidationBegin]
  exact if_pos (by simpa using hbar)

theorem consolidationBegin_begins (hmay : s.mayWriteStable = true) (hdue : s.consolidationDue = true)
    (hpower : s.reg Reg.PWR_STATE = 0) :
    exec (.consolidationBegin bad) s = .next (
      let gen := s.reg Reg.JRNL_GEN + 1
      let rows := s.learning.changed
      let pages := s.pagesOf rows ++ [s.superPage]
      let s1 := (((s.setReg Reg.JRNL_GEN gen).setReg Reg.JRNL_FILL 64).setReg Reg.STABLE_HARNESS
        (s.reg Reg.HARNESS_MEAS)).modLearning fun l => { l with
          genStarts := l.genStarts ++ [(gen, l.staged)], consolWant := false, consolAt := some s.now,
          consolRunning := true, changed := [] }
      let s2 := (s1.setReg Reg.STABLE_STATE 2).writeSuperblock 2 (s.superField 12 4) (gen % 2 ^ 32)
      let s4 := (rows.foldl (fun s r => s.consolidateRow r.1 r.2) s2).wearPages pages
      bad.foldl (fun s b => if pages.contains b.1 then s.verifyBlock b.1 b.2 else s) s4) := by
  rw [exec_consolidationBegin, execConsolidationBegin]
  exact if_neg (by simp [hmay, hdue, hpower])

theorem exec_consolidationEnd : exec (.consolidationEnd v) s = execConsolidationEnd v s := rfl

theorem consolidationEnd_waits (hbar : s.learning.consolRunning = false ∨ s.mayWriteStable = false) :
    exec (.consolidationEnd v) s = .next s := by
  rw [exec_consolidationEnd, execConsolidationEnd]
  exact if_pos (by simpa using hbar)

theorem consolidationEnd_ends (hrunning : s.learning.consolRunning = true) (hmay : s.mayWriteStable = true) :
    exec (.consolidationEnd v) s = .next (
      let s1 := (((s.setReg Reg.STABLE_STATE 1).writeSuperblock 1 (s.reg Reg.JRNL_GEN % 2 ^ 32) 0xFFFFFFFF).wearPages
        (s.superPage :: wearArea)).flushWear
      let s2 := s1.modLearning fun l => { l with consolRunning := false }
      ((s2.bump Reg.CONSOLS).peak Reg.CONSOL_MAX_MS ((s.now - s.learning.consolAt.getD 0) / 1000000)).verifyBlock
        s.superPage v) := by
  rw [exec_consolidationEnd, execConsolidationEnd]
  exact if_neg (by simp [hrunning, hmay])

end Consolidation

/-! ### STABLE_PAGE_REMAP (R197, R199, R201, R287) -/

section Remap

variable {p : Fin 18432}

theorem exec_stablePageRemap : exec (.stablePageRemap p v) s = execStablePageRemap p v s := rfl

theorem stablePageRemap_waits (hbar : s.learning.remapWant.contains p.val = false ∨ s.power.brace ≠ none) :
    exec (.stablePageRemap p v) s = .next s := by
  rw [exec_stablePageRemap, execStablePageRemap]
  exact if_pos (by rwa [Bool.not_eq_true', Option.isSome_iff_ne_none])

section Wanted

variable (hwant : s.learning.remapWant.contains p.val = true) (hbrace : s.power.brace = none)
include hwant hbrace

theorem stablePageRemap_maps (hspare : s.reg Reg.SPARE_LEFT ≠ 0) :
    exec (.stablePageRemap p v) s = .next (
      let spare := 18432 + (1024 - s.reg Reg.SPARE_LEFT)
      let entry := stableBase + 0x3C02000 + 4 * p.val
      let s1 := s.modLearning fun l => { l with
        remapWant := dropFirst p.val l.remapWant, remap := Assoc.set p.val spare l.remap,
        wear := Assoc.set p.val 1 l.wear }
      let s2 := ((s1.setWord entry 4 (spare + 2 ^ 31)).noteWear).wearPage (stablePage entry)
      ((s2.setReg Reg.SPARE_LEFT (s.reg Reg.SPARE_LEFT - 1)).bump Reg.STABLE_REMAP).verifyBlock p.val v) := by
  rw [exec_stablePageRemap, execStablePageRemap, if_neg (by simpa [hbrace] using hwant)]
  exact if_neg hspare

theorem stablePageRemap_degrades (hspare : s.reg Reg.SPARE_LEFT = 0) :
    exec (.stablePageRemap p v) s =
      .next (s.modLearning fun l => { l with remapWant := dropFirst p.val l.remapWant }).stableDegraded := by
  rw [exec_stablePageRemap, execStablePageRemap, if_neg (by simpa [hbrace] using hwant)]
  exact if_pos hspare

end Wanted

theorem stableDegraded_eq : s.stableDegraded =
    ((((s.setReg Reg.STABLE_STATE 3).writeSuperblock 3 (s.superField 12 4) (s.superField 16 4)).modLearning fun l =>
      { l with degraded := true, consolRunning := false }).logFault { cls := .stable, status := .degraded }).emcy
        0xFF03 .degraded 6 0 := rfl

end Remap

/-! ### W8P_RECOVER (R200) -/

section Recover

variable {c : ClusterId} {k off : Nat} {row : RowName}

theorem exec_w8pRecover : exec (.w8pRecover c) s = execW8pRecover c s := rfl

theorem delivers_iff {x : Tile} : delivers x = true ↔ ∃ n, x.phase = .deliver n := by
  rw [delivers]
  split
  case h_1 n hphase => exact ⟨fun _ => ⟨n, hphase⟩, fun _ => rfl⟩
  case h_2 hother => exact ⟨fun h => absurd h Bool.false_ne_true, fun ⟨n, hphase⟩ => absurd hphase (hother n)⟩

theorem w8pRecover_waits
    (hbar : ((s.learning.recover.find? fun r => r.1 = c.val).all fun r => delivers (s.tile c.val r.2.1.tile)) = true) :
    exec (.w8pRecover c) s = .next s := by
  rw [exec_w8pRecover, execW8pRecover]
  split
  case h_1 => rfl
  case h_2 k row off hfind =>
    rw [hfind] at hbar
    obtain ⟨n, hphase⟩ := delivers_iff.mp hbar
    simp only [hphase]

theorem w8pRecover_recovers (hfind : (s.learning.recover.find? fun r => r.1 = c.val) = some (c.val, row, off))
    (hidle : delivers (s.tile c.val row.tile) = false) :
    exec (.w8pRecover c) s = .next (((s.modLearning fun l =>
      { l with recover := dropFirst (c.val, row, off) l.recover }).recoverOne c.val row off).recoverOne c.val row
        (off + 4)) := by
  simp only [exec_w8pRecover, execW8pRecover, hfind]
  split
  case h_1 n hphase => exact absurd (delivers_iff.mpr ⟨n, hphase⟩) (Bool.eq_false_iff.mp hidle)
  case h_2 => rfl

theorem recoverOne_nearPlx (hnear : row.far = false) :
    s.recoverOne k row 12 = (s.setRowPlx k row
      { rxpre := 0, rtl := s.fabric.learned % 4096, spre0 := 0, spre1 := 0 }).plasticEcc k row.tile row.ident := by
  rw [State.recoverOne]
  exact if_pos ⟨rfl, by simp [hnear]⟩

theorem recoverOne_rewrites (hword : off ≠ 12 ∨ row.far = true) :
    s.recoverOne k row off = (s.recoverWord k row off).noteRecover k row off := by
  rw [State.recoverOne]
  rcases hword with hword | hfar
  · exact if_neg fun h => hword h.1
  · exact if_neg (by simp [hfar])

end Recover

/-- Settles O60: the cases above, command by command. -/
theorem stableJournal : Obligations.StableJournal :=
  ⟨fun _ _ => journalDrain_waits, fun _ _ => journalDrain_nothingLeft, fun _ _ => journalDrain_header,
    fun _ _ hmay hjournals hrate => journalDrain_fullBlock hmay hjournals hrate,
    fun _ _ hmay hjournals hrate => journalDrain_lastBlock hmay hjournals hrate,
    fun _ _ hmay hjournals hrate => journalDrain_partWaits hmay hjournals hrate,
    fun _ _ => consolidationBegin_waits, fun _ _ => consolidationBegin_begins,
    fun _ _ => consolidationEnd_waits, fun _ _ => consolidationEnd_ends,
    fun _ _ _ => stablePageRemap_waits, fun _ _ _ => stablePageRemap_maps,
    fun _ _ _ => stablePageRemap_degrades, fun _ => stableDegraded_eq,
    fun _ _ => w8pRecover_waits, fun _ _ _ _ => w8pRecover_recovers,
    fun _ _ _ => recoverOne_nearPlx, fun _ _ _ _ => recoverOne_rewrites⟩

end Sys2Proof.StableProofs
end

section
/-!
PROOFS. An entry written into a queue's ring (R244): what it stores, where the pointers stand after it, and what it leaves as it was.
-/
namespace Sys2Proof.QueueProofs
open Sys2Proof Sys2Proof.Machine
open Sys2Proof.NeuronProofs (leNat_leBytes leBytes_length)

variable {s t : State} {q : Nat} {b : Queue} {e : Entry}

/-! ### Queues by number (R242) -/

@[simp] theorem queue_setQueue_same : (s.setQueue q b).queue q = b := by
  simp [State.queue, State.setQueue, Assoc.getD_set]

theorem queue_setQueue_other {p : Nat} (hp : p ≠ q) : (s.setQueue q b).queue p = s.queue p := by
  simp [State.queue, State.setQueue, Assoc.getD_set, hp.symm]

/-- What a queue's record is turns on the records alone. -/
theorem queue_congr (hqueues : t.queues = s.queues) (p : Nat) : t.queue p = s.queue p := by
  rw [State.queue, State.queue, hqueues]

/-! ### Bytes as a read finds them -/

theorem veilAt_congr (hveils : t.veils = s.veils) (a : Nat) : t.veilAt a = s.veilAt a := by
  rw [State.veilAt, State.veilAt, hveils]

theorem veiled_congr (hveils : t.veils = s.veils) (l : List Byte) (a : Nat) : t.veiled a l = s.veiled a l := by
  induction l generalizing a with
  | nil => rfl
  | cons b l ih => rw [State.veiled, State.veiled, ih, veilAt_congr hveils]

/-- What a read finds turns on the stored bytes and the veils alone. -/
theorem bytes_congr (hmem : t.mem = s.mem) (hveils : t.veils = s.veils) (a n : Nat) : t.bytes a n = s.bytes a n := by
  simp only [State.bytes, hmem, hveils, veiled_congr hveils]

theorem byteAt_congr (hmem : t.mem = s.mem) (hveils : t.veils = s.veils) (a : Nat) : t.byteAt a = s.byteAt a := by
  rw [State.byteAt, State.byteAt, hmem, veilAt_congr hveils]

theorem queueEntry_congr (hmem : t.mem = s.mem) (hveils : t.veils = s.veils) (b : Queue) (p : BitVec 17) :
    t.queueEntry b p = s.queueEntry b p := by
  rw [State.queueEntry, State.queueEntry, bytes_congr hmem hveils]

/-! ### An entry as its 32 bytes (R203) -/

@[simp] theorem entryBytes_length : (entryBytes e).length = 32 := leBytes_length 32 _

theorem entryOfBytes_entryBytes : entryOfBytes (entryBytes e) = e := by
  have hfits : e.toNat % 256 ^ 32 = e.toNat := Nat.mod_eq_of_lt e.isLt
  rw [entryOfBytes, entryBytes, leNat_leBytes, hfits, BitVec.ofNat_toNat, BitVec.setWidth_eq]

/-! ### Notifications (R248) -/

/-- A signal sent, or counted where the home is lost. -/
theorem hitchNotify_frame (h : Nat) :
    ∃ r n o, s.hitchNotify h = { s with regs := r, hitchNet := n, syncOut := o } := by
  rw [State.hitchNotify]
  split
  · exact ⟨_, _, _, rfl⟩
  · rw [State.hitchSend]
    split <;> exact ⟨_, _, _, rfl⟩

theorem queueNotify_frame (b : Queue) :
    ∃ r n o, s.queueNotify b = { s with regs := r, hitchNet := n, syncOut := o } := by
  rw [State.queueNotify]
  split
  · exact hitchNotify_frame _
  · exact ⟨_, _, _, rfl⟩

/-! ### An entry pushed (R244, R248) -/

/-- The entry as the ring holds it: VALID of a message descriptor set (R249). -/
def storedEntry (b : Queue) (e : Entry) : Entry :=
  if b.kind = .msgReq ∨ b.kind = .msgRep then entryOfBytes ((entryBytes e).take 31 ++ [1]) else e

/-- A queue's record with one entry more. -/
def pushedQueue (b : Queue) (now : Nat) : Queue :=
  let b1 := b.setWp (b.wpA + 1)
  let b2 := { b1 with pushCnt := b1.pushCnt + 1, hwm := max b1.hwm b1.count }
  if b.count = 0 then b2.rearm now else b2

theorem storedEntry_plain (hkind : ¬ (b.kind = .msgReq ∨ b.kind = .msgRep)) : storedEntry b e = e := if_neg hkind

@[simp] theorem pushedQueue_wpA (now : Nat) : (pushedQueue b now).wpA = b.wpA + 1 := by
  rw [pushedQueue]; split <;> rfl

@[simp] theorem pushedQueue_wpB (now : Nat) : (pushedQueue b now).wpB = ~~~(b.wpA + 1) := by
  rw [pushedQueue]; split <;> rfl

@[simp] theorem pushedQueue_rpA (now : Nat) : (pushedQueue b now).rpA = b.rpA := by
  rw [pushedQueue]; split <;> rfl

@[simp] theorem pushedQueue_rpB (now : Nat) : (pushedQueue b now).rpB = b.rpB := by
  rw [pushedQueue]; split <;> rfl

/-- A push brings the write pointer's copies into agreement and leaves the read pointer's. -/
theorem pushedQueue_mismatch (hagree : b.mismatch = false) (now : Nat) : (pushedQueue b now).mismatch = false := by
  obtain ⟨-, hrp⟩ : b.wpA = ~~~b.wpB ∧ b.rpA = ~~~b.rpB := by simpa [Queue.mismatch] using hagree
  simp [Queue.mismatch, ← hrp]

/-- All that a push changes: 32 bytes, its queue's record, PUSHES and what its notification sends. -/
theorem pushEntry_frame :
    ∃ r n o, s.pushEntry q e =
      { (s.setBytes ((s.queue q).entryAddr (s.queue q).wpA) (entryBytes (storedEntry (s.queue q) e))).setQueue q
          (pushedQueue (s.queue q) s.now) with regs := r, hitchNet := n, syncOut := o } := by
  simp only [State.pushEntry]
  split
  case isTrue =>
    obtain ⟨r, n, o, h⟩ := queueNotify_frame (s := _) _
    exact ⟨r, n, o, h⟩
  case isFalse => exact ⟨_, _, _, rfl⟩

theorem pushEntry_mem : (s.pushEntry q e).mem =
    (s.setBytes ((s.queue q).entryAddr (s.queue q).wpA) (entryBytes (storedEntry (s.queue q) e))).mem := by
  obtain ⟨r, n, o, h⟩ := pushEntry_frame (s := s) (q := q) (e := e)
  rw [h]; rfl

theorem pushEntry_veils : (s.pushEntry q e).veils = s.veils := by
  obtain ⟨r, n, o, h⟩ := pushEntry_frame (s := s) (q := q) (e := e)
  rw [h]; rfl

theorem pushEntry_queues : (s.pushEntry q e).queues = (s.setQueue q (pushedQueue (s.queue q) s.now)).queues := by
  obtain ⟨r, n, o, h⟩ := pushEntry_frame (s := s) (q := q) (e := e)
  rw [h]; rfl

theorem pushEntry_queue_same : (s.pushEntry q e).queue q = pushedQueue (s.queue q) s.now := by
  rw [queue_congr pushEntry_queues, queue_setQueue_same]

theorem pushEntry_queue_other {p : Nat} (hp : p ≠ q) : (s.pushEntry q e).queue p = s.queue p := by
  rw [queue_congr pushEntry_queues, queue_setQueue_other hp]

theorem pushEntry_canonical (hmem : s.canonical = true) : (s.pushEntry q e).canonical = true := by
  rw [State.canonical, pushEntry_mem]
  exact State.setBytes_wf hmem _ _

theorem pushEntry_queueEntry (hmem : s.canonical = true) :
    (s.pushEntry q e).queueEntry (s.queue q) (s.queue q).wpA = storedEntry (s.queue q) e := by
  have hstored := State.bytes_setBytes_same hmem ((s.queue q).entryAddr (s.queue q).wpA)
    (entryBytes (storedEntry (s.queue q) e))
  rw [entryBytes_length] at hstored
  rw [State.queueEntry, bytes_congr pushEntry_mem pushEntry_veils, hstored, entryOfBytes_entryBytes]

theorem pushEntry_byteAt_outside (hmem : s.canonical = true) {a : Nat}
    (ha : a < (s.queue q).entryAddr (s.queue q).wpA ∨ (s.queue q).entryAddr (s.queue q).wpA + 32 ≤ a) :
    (s.pushEntry q e).byteAt a = s.byteAt a := by
  rw [byteAt_congr pushEntry_mem pushEntry_veils]
  exact State.byteAt_setBytes_outside hmem _ _ _ (by rwa [entryBytes_length])

/-! ### The status kept for LAST_STATUS (R242) -/

@[simp] theorem noteStatus_mem (m : Master) (st : Status) : (s.noteStatus m q st).mem = s.mem := rfl
@[simp] theorem noteStatus_veils (m : Master) (st : Status) : (s.noteStatus m q st).veils = s.veils := rfl
@[simp] theorem noteStatus_queues (m : Master) (st : Status) : (s.noteStatus m q st).queues = s.queues := rfl

end Sys2Proof.QueueProofs
end

section
/-!
PROOFS. PUSH, CONSUME, SEAL and POST at a queue's port (R243–R246, R250, R255, R256): the checks they share, and an equation for each case
of each operation.
-/
namespace Sys2Proof.QueueProofs
open Sys2Proof Sys2Proof.Machine

variable {u s t : State} {m : Master} {q n : Nat} {b : Queue} {e : Entry} {w : BitVec 64} {st : Status}

/-! ### The checks of a port operation (R243) -/

section Check

variable (hbar : ¬ (m = .saddle ∧ isBridleQueue q = true)) (hbound : b.qstate ≠ .unbound)
include hbar hbound

theorem portCheck_ok : portCheck m q b true true true = .ok := by
  simp only [portCheck, if_neg hbar, hbound, Bool.not_true, Bool.false_eq_true, if_false]

theorem portCheck_denied : portCheck m q b true true false = .security := by
  simp only [portCheck, if_neg hbar, hbound, Bool.not_true, Bool.not_false, Bool.false_eq_true, if_false, if_true]

theorem pushPort_ok (hcombining : b.kind ≠ .combining) (hcompletion : b.kind ≠ .completion)
    (hmay : mayProduce m q b = true) :
    portCheck m q b true (b.kind != .combining) (b.kind != .completion && mayProduce m q b) = .ok := by
  rw [bne_iff_ne.mpr hcombining, bne_iff_ne.mpr hcompletion, hmay]
  exact portCheck_ok hbar hbound

theorem pushPort_denied (hcombining : b.kind ≠ .combining) (hmay : mayProduce m q b = false) :
    portCheck m q b true (b.kind != .combining) (b.kind != .completion && mayProduce m q b) = .security := by
  rw [bne_iff_ne.mpr hcombining, hmay, Bool.and_false]
  exact portCheck_denied hbar hbound

theorem consumePort_ok (hkind : b.kind ≠ .command) (hmay : mayConsume m q b = true) (hn : n < 2 ^ 17) :
    portCheck m q b (decide (n < 2 ^ 17)) (b.kind != .command) (mayConsume m q b) = .ok := by
  rw [decide_eq_true hn, bne_iff_ne.mpr hkind, hmay]
  exact portCheck_ok hbar hbound

theorem sealPort_ok (hkind : b.kind = .combining) (hmay : mayConsume m q b = true) (hn : n < 2 ^ 17) :
    portCheck m q b (decide (n < 2 ^ 17)) (b.kind == .combining) (mayConsume m q b) = .ok := by
  rw [decide_eq_true hn, beq_iff_eq.mpr hkind, hmay]
  exact portCheck_ok hbar hbound

theorem postPort_ok (hkind : b.kind = .combining) (hmay : mayProduce m q b = true)
    (hreserved : bitField w.toNat 27 5 = 0) :
    portCheck m q b (decide (bitField w.toNat 27 5 = 0)) (b.kind == .combining) (mayProduce m q b) = .ok := by
  rw [decide_eq_true hreserved, beq_iff_eq.mpr hkind, hmay]
  exact portCheck_ok hbar hbound

end Check

/-! ### PUSH (R243, R244, R246, R250) -/

section Push

theorem exec_push {x : QueueSoft} {q : QueueId} (hsoft : s.queueSoft q.val x = u) (hpush : u.push m q.val e = t) :
    exec (.push m q e x) s = .next t := by
  subst hsoft hpush
  rfl

theorem push_full (hcheck : u.pushCheck m q e = .full) :
    u.push m q e = ((u.bump Reg.PUSH_FULL).noteStatus m q .full).respond .full := by
  rw [State.push, if_pos hcheck]

theorem push_refused (hcheck : u.pushCheck m q e = st) (hok : st ≠ .ok) (hfull : st ≠ .full) :
    u.push m q e = ((u.countRefusal st).noteStatus m q st).respond st := by
  subst hcheck
  rw [State.push, if_neg hfull, if_pos hok]

theorem push_stale (hcheck : u.pushCheck m q e = .ok) (hmismatch : (u.queue q).mismatch = true) :
    u.push m q e = ((u.pointerReset q).noteStatus m q .stale).respond .stale := by
  simp only [State.push, hcheck, reduceCtorEq, ne_eq, not_true_eq_false, if_false, hmismatch, if_true]

theorem push_accepted (hcheck : u.pushCheck m q e = .ok) (hagree : (u.queue q).mismatch = false) :
    u.push m q e = u.pushAccept m q e := by
  simp only [State.push, hcheck, reduceCtorEq, ne_eq, not_true_eq_false, if_false, hagree, Bool.false_eq_true]

section Admitted

variable (hbar : ¬ (m = .saddle ∧ isBridleQueue q = true))
include hbar

theorem push_denied (hcombining : (u.queue q).kind ≠ .combining) (hbound : (u.queue q).qstate ≠ .unbound)
    (hmay : mayProduce m q (u.queue q) = false) :
    u.push m q e = ((u.bump Reg.PUSH_DENIED).noteStatus m q .security).respond .security := by
  have hport := pushPort_denied hbar hbound hcombining hmay
  have hcheck : u.pushCheck m q e = .security := by
    rw [State.pushCheck, hport]
    exact if_pos (by decide)
  exact push_refused hcheck (by decide) (by decide)

/-- Past the port checks the state of the queue and the descriptor decide. -/
theorem pushCheck_eq (hbound : (u.queue q).qstate ≠ .unbound) (hcombining : (u.queue q).kind ≠ .combining)
    (hcompletion : (u.queue q).kind ≠ .completion) (hmay : mayProduce m q (u.queue q) = true) :
    u.pushCheck m q e =
      if (u.queue q).qstate = .closed then .closed
      else if (u.queue q).kind = .msgReq ∨ (u.queue q).kind = .msgRep then u.descriptorCheck (u.queue q) e
      else .ok := by
  rw [State.pushCheck]
  exact if_neg fun h => h (pushPort_ok hbar hbound hcombining hcompletion hmay)

theorem push_closed (hcombining : (u.queue q).kind ≠ .combining) (hcompletion : (u.queue q).kind ≠ .completion)
    (hclosed : (u.queue q).qstate = .closed) (hmay : mayProduce m q (u.queue q) = true) :
    u.push m q e = ((u.bump Reg.PUSH_CLOSED).noteStatus m q .closed).respond .closed := by
  have hbound : (u.queue q).qstate ≠ .unbound := by rw [hclosed]; decide
  exact push_refused ((pushCheck_eq hbar hbound hcombining hcompletion hmay).trans (if_pos hclosed)) (by decide) (by decide)

end Admitted

/-! #### A push that is taken (R244 steps 4 and 5, R250) -/

theorem pushAccept_reserved (hkind : (u.queue q).kind = .msgRep) (hresv : (u.queue q).resv ≠ 0) :
    u.pushAccept m q e =
      (((u.setQueue q { u.queue q with resv := (u.queue q).resv - 1 }).pushEntry q e).noteStatus m q .ok).respond .ok := by
  rw [State.pushAccept]
  exact if_pos ⟨hkind, hresv⟩

theorem pushAccept_request (hkind : (u.queue q).kind = .msgReq) (hroom : (u.queue q).isFull = false) :
    u.pushAccept m q e =
      let rq := bitField (entryField e 16 2) 0 15
      (((u.setQueue rq { u.queue rq with resv := (u.queue rq).resv + 1 }).pushEntry q e).noteStatus m q .ok).respond .ok := by
  simp only [State.pushAccept, hkind, hroom, reduceCtorEq, false_and, Bool.false_eq_true, if_false, if_true]

section Unreserved

variable (hresv : (u.queue q).kind = .msgRep → (u.queue q).resv = 0)
include hresv

theorem no_reservation : ¬ ((u.queue q).kind = .msgRep ∧ (u.queue q).resv ≠ 0) := fun h => h.2 (hresv h.1)

theorem pushAccept_full (hfull : (u.queue q).isFull = true) :
    u.pushAccept m q e =
      (((u.setQueue q { u.queue q with ovr := true, ovrCnt := min ((u.queue q).ovrCnt + 1) 0xFFFF }).bump
        Reg.PUSH_FULL).noteStatus m q .full).respond .full := by
  rw [State.pushAccept, if_neg (no_reservation hresv), if_pos hfull, State.refuseFull]

theorem pushAccept_stores (hkind : (u.queue q).kind ≠ .msgReq) (hroom : (u.queue q).isFull = false) :
    u.pushAccept m q e = ((u.pushEntry q e).noteStatus m q .ok).respond .ok := by
  simp only [State.pushAccept, if_neg (no_reservation hresv), hkind, hroom, Bool.false_eq_true, if_false]

end Unreserved

/-- DATA and COMMAND queues hold no reservations, and a push to one reserves nothing. -/
theorem plain_kind (hkind : b.kind = .data ∨ b.kind = .command) : ¬ (b.kind = .msgReq ∨ b.kind = .msgRep) := by
  rcases hkind with hkind | hkind <;> simp [hkind]

section Taken

variable (hbar : ¬ (m = .saddle ∧ isBridleQueue q = true)) (hagree : (u.queue q).mismatch = false)
  (hbound : (u.queue q).qstate ≠ .unbound) (hopen : (u.queue q).qstate ≠ .closed)
  (hmay : mayProduce m q (u.queue q) = true)
include hbar hagree hbound hopen hmay

section Plain

variable (hkind : (u.queue q).kind = .data ∨ (u.queue q).kind = .command)
include hkind

theorem push_plain : u.push m q e = u.pushAccept m q e := by
  obtain ⟨hcombining, hcompletion⟩ : (u.queue q).kind ≠ .combining ∧ (u.queue q).kind ≠ .completion := by
    rcases hkind with hkind | hkind <;> simp [hkind]
  refine push_accepted ?_ hagree
  rw [pushCheck_eq hbar hbound hcombining hcompletion hmay, if_neg hopen, if_neg (plain_kind hkind)]

theorem push_plain_stores (hroom : (u.queue q).isFull = false) :
    u.push m q e = ((u.pushEntry q e).noteStatus m q .ok).respond .ok := by
  obtain ⟨hreq, hrep⟩ := not_or.mp (plain_kind hkind)
  rw [push_plain hbar hagree hbound hopen hmay hkind, pushAccept_stores (fun h => absurd h hrep) hreq hroom]

theorem push_plain_full (hfull : (u.queue q).isFull = true) :
    u.push m q e =
      (((u.setQueue q { u.queue q with ovr := true, ovrCnt := min ((u.queue q).ovrCnt + 1) 0xFFFF }).bump
        Reg.PUSH_FULL).noteStatus m q .full).respond .full := by
  obtain ⟨-, hrep⟩ := not_or.mp (plain_kind hkind)
  rw [push_plain hbar hagree hbound hopen hmay hkind, pushAccept_full (fun h => absurd h hrep) hfull]

end Plain

variable (hdesc : u.descriptorCheck (u.queue q) e = .ok)
include hdesc

theorem push_message (hkind : (u.queue q).kind = .msgReq ∨ (u.queue q).kind = .msgRep) :
    u.push m q e = u.pushAccept m q e := by
  obtain ⟨hcombining, hcompletion⟩ : (u.queue q).kind ≠ .combining ∧ (u.queue q).kind ≠ .completion := by
    rcases hkind with hkind | hkind <;> simp [hkind]
  refine push_accepted ?_ hagree
  rw [pushCheck_eq hbar hbound hcombining hcompletion hmay, if_neg hopen, if_pos hkind, hdesc]

theorem push_request (hkind : (u.queue q).kind = .msgReq) (hroom : (u.queue q).isFull = false) :
    u.push m q e =
      let rq := bitField (entryField e 16 2) 0 15
      (((u.setQueue rq { u.queue rq with resv := (u.queue rq).resv + 1 }).pushEntry q e).noteStatus m q .ok).respond .ok := by
  rw [push_message hbar hagree hbound hopen hmay hdesc (.inl hkind), pushAccept_request hkind hroom]

theorem push_reply_reserved (hkind : (u.queue q).kind = .msgRep) (hresv : (u.queue q).resv ≠ 0) :
    u.push m q e =
      (((u.setQueue q { u.queue q with resv := (u.queue q).resv - 1 }).pushEntry q e).noteStatus m q .ok).respond .ok := by
  rw [push_message hbar hagree hbound hopen hmay hdesc (.inr hkind), pushAccept_reserved hkind hresv]

theorem push_reply_unreserved (hkind : (u.queue q).kind = .msgRep) (hresv : (u.queue q).resv = 0)
    (hroom : (u.queue q).isFull = false) :
    u.push m q e = ((u.pushEntry q e).noteStatus m q .ok).respond .ok := by
  rw [push_message hbar hagree hbound hopen hmay hdesc (.inr hkind),
    pushAccept_stores (fun _ => hresv) (by simp [hkind]) hroom]

theorem push_message_full
    (hkind : (u.queue q).kind = .msgReq ∨ (u.queue q).kind = .msgRep ∧ (u.queue q).resv = 0)
    (hfull : (u.queue q).isFull = true) :
    u.push m q e =
      (((u.setQueue q { u.queue q with ovr := true, ovrCnt := min ((u.queue q).ovrCnt + 1) 0xFFFF }).bump
        Reg.PUSH_FULL).noteStatus m q .full).respond .full := by
  have hresv (hrep : (u.queue q).kind = .msgRep) : (u.queue q).resv = 0 :=
    hkind.elim (fun hreq => by simp [hreq] at hrep) And.right
  rw [push_message hbar hagree hbound hopen hmay hdesc (hkind.imp_right And.left), pushAccept_full hresv hfull]

end Taken

end Push

/-! ### CONSUME (R243, R245, R249) -/

section Consume

theorem exec_consume {x : QueueSoft} {q : QueueId} {n : BitVec 32} (hsoft : s.queueSoft q.val x = u)
    (hconsume : u.consume m q.val n.toNat = t) : exec (.consume m q n x) s = .next t := by
  subst hsoft hconsume
  rfl

/-- A queue never counts 2¹⁷ entries. -/
theorem lt_of_le_count (hn : n ≤ b.count) : n < 2 ^ 17 := Nat.lt_of_le_of_lt hn (b.wpA - b.rpA).isLt

theorem consume_denied
    (hport : portCheck m q (u.queue q) (decide (n < 2 ^ 17)) ((u.queue q).kind != .command)
      (mayConsume m q (u.queue q)) = st) (hok : st ≠ .ok) :
    u.consume m q n = (u.countRefusal st).respond st := by
  subst hport
  rw [State.consume]
  exact if_pos hok

section Admitted

variable (hport : portCheck m q (u.queue q) (decide (n < 2 ^ 17)) ((u.queue q).kind != .command)
  (mayConsume m q (u.queue q)) = .ok)
include hport

theorem consume_stale (hmismatch : (u.queue q).mismatch = true) :
    u.consume m q n = (u.pointerReset q).respond .stale := by
  rw [State.consume]
  exact (if_neg fun h => h hport).trans (if_pos hmismatch)

variable (hagree : (u.queue q).mismatch = false)
include hagree

theorem consume_refused (hcases : n = 0 ∨ (u.queue q).count < n ∨
      (u.comb.any fun x => x.queue = q && amongOldest (u.queue q) x.slot n) = true) :
    u.consume m q n = (u.bump Reg.CONSUME_REFUSED).respond .refused := by
  simp only [State.consume, hport, hagree, ne_eq, not_true_eq_false, Bool.false_eq_true, if_false]
  exact if_pos hcases

variable (hn : n ≠ 0) (hcount : n ≤ (u.queue q).count)
  (hclosed : (u.comb.any fun x => x.queue = q && amongOldest (u.queue q) x.slot n) = false)
include hn hcount hclosed

theorem consume_takes :
    u.consume m q n =
      ((if (u.queue q).kind = .msgReq ∨ (u.queue q).kind = .msgRep then u.clearValid (u.queue q) (u.queue q).rpA n
        else u).setQueue q (((u.queue q).setRp ((u.queue q).rpA + BitVec.ofNat 17 n)).rearm u.now)).respond .ok := by
  simp only [State.consume, hport, hagree, ne_eq, not_true_eq_false, Bool.false_eq_true, if_false]
  exact if_neg (by simp [hn, Nat.not_lt.mpr hcount, hclosed])

end Admitted

section Taken

variable (hbar : ¬ (m = .saddle ∧ isBridleQueue q = true)) (hagree : (u.queue q).mismatch = false)
  (hbound : (u.queue q).qstate ≠ .unbound) (hmay : mayConsume m q (u.queue q) = true)
  (hn : n ≠ 0) (hcount : n ≤ (u.queue q).count)
  (hclosed : (u.comb.any fun x => x.queue = q && amongOldest (u.queue q) x.slot n) = false)
include hbar hagree hbound hmay hn hcount hclosed

theorem consume_plain (hkind : (u.queue q).kind = .data ∨ (u.queue q).kind = .completion ∨ (u.queue q).kind = .combining) :
    u.consume m q n =
      (u.setQueue q (((u.queue q).setRp ((u.queue q).rpA + BitVec.ofNat 17 n)).rearm u.now)).respond .ok := by
  obtain ⟨hcommand, hmessage⟩ :
      (u.queue q).kind ≠ .command ∧ ¬ ((u.queue q).kind = .msgReq ∨ (u.queue q).kind = .msgRep) := by
    rcases hkind with hkind | hkind | hkind <;> simp [hkind]
  rw [consume_takes (consumePort_ok hbar hbound hcommand hmay (lt_of_le_count hcount)) hagree hn hcount hclosed,
    if_neg hmessage]

theorem consume_messages (hkind : (u.queue q).kind = .msgReq ∨ (u.queue q).kind = .msgRep) :
    u.consume m q n =
      ((u.clearValid (u.queue q) (u.queue q).rpA n).setQueue q
        (((u.queue q).setRp ((u.queue q).rpA + BitVec.ofNat 17 n)).rearm u.now)).respond .ok := by
  have hcommand : (u.queue q).kind ≠ .command := by rcases hkind with hkind | hkind <;> simp [hkind]
  rw [consume_takes (consumePort_ok hbar hbound hcommand hmay (lt_of_le_count hcount)) hagree hn hcount hclosed,
    if_pos hkind]

end Taken

end Consume

/-! ### SEAL (R256) -/

section Seal

theorem exec_cqSeal {x : QueueSoft} {q : QueueId} {n : BitVec 32} (hsoft : s.queueSoft q.val x = u)
    (hseal : u.seal m q.val n.toNat = t) : exec (.cqSeal m q n x) s = .next t := by
  subst hsoft hseal
  rfl

theorem seal_denied
    (hport : portCheck m q (u.queue q) (decide (n < 2 ^ 17)) ((u.queue q).kind == .combining)
      (mayConsume m q (u.queue q)) = st) (hok : st ≠ .ok) :
    u.seal m q n = (u.countRefusal st).respond st := by
  subst hport
  rw [State.seal]
  exact if_pos hok

section Admitted

variable (hport : portCheck m q (u.queue q) (decide (n < 2 ^ 17)) ((u.queue q).kind == .combining)
  (mayConsume m q (u.queue q)) = .ok)
include hport

theorem seal_stale (hmismatch : (u.queue q).mismatch = true) :
    u.seal m q n = (u.pointerReset q).respond .stale := by
  rw [State.seal]
  exact (if_neg fun h => h hport).trans (if_pos hmismatch)

variable (hagree : (u.queue q).mismatch = false)
include hagree

theorem seal_refused (hcount : (u.queue q).count < n) :
    u.seal m q n = (u.bump Reg.CONSUME_REFUSED).respond .refused := by
  simp only [State.seal, hport, hagree, hcount, ne_eq, not_true_eq_false, Bool.false_eq_true, if_false, if_true]

theorem seal_seals (hcount : n ≤ (u.queue q).count) :
    u.seal m q n =
      { u with comb := u.comb.filter fun x => !(x.queue = q && amongOldest (u.queue q) x.slot n) }.respond .ok := by
  simp only [State.seal, hport, hagree, Nat.not_lt.mpr hcount, ne_eq, not_true_eq_false, Bool.false_eq_true, if_false]

end Admitted

end Seal

/-! ### POST (R255) -/

section Post

theorem exec_post {x : QueueSoft} {q : QueueId} (hsoft : s.queueSoft q.val x = u) (hpost : u.post m q.val w = t) :
    exec (.post m q w x) s = .next t := by
  subst hsoft hpost
  rfl

/-- The outcome of the checks of a post: those of the port, then the state of the queue. -/
def postCheck (u : State) (m : Master) (q : Nat) (w : BitVec 64) : Status :=
  let c := portCheck m q (u.queue q) (decide (bitField w.toNat 27 5 = 0)) ((u.queue q).kind == .combining)
    (mayProduce m q (u.queue q))
  if c = .ok ∧ (u.queue q).qstate = .closed then .closed else c

/-- The value that a post carries fits its 32 bits. -/
theorem postValue_toNat (w : BitVec 64) : (BitVec.ofNat 32 (bitField w.toNat 32 32)).toNat = bitField w.toNat 32 32 := by
  rw [BitVec.toNat_ofNat]
  exact Nat.mod_eq_of_lt (Nat.mod_lt _ (by decide))

theorem post_denied (hcheck : postCheck u m q w = st) (hok : st ≠ .ok) :
    u.post m q w = ((u.countRefusal st).noteStatus m q st).respond st := by
  subst hcheck
  rw [State.post]
  exact if_pos hok

theorem postCheck_open
    (hport : portCheck m q (u.queue q) (decide (bitField w.toNat 27 5 = 0)) ((u.queue q).kind == .combining)
      (mayProduce m q (u.queue q)) = .ok) (hopen : (u.queue q).qstate ≠ .closed) : postCheck u m q w = .ok := by
  rw [postCheck, hport]
  exact if_neg fun h => hopen h.2

theorem postCheck_ok (hbar : ¬ (m = .saddle ∧ isBridleQueue q = true)) (hkind : (u.queue q).kind = .combining)
    (hbound : (u.queue q).qstate ≠ .unbound) (hopen : (u.queue q).qstate ≠ .closed)
    (hmay : mayProduce m q (u.queue q) = true) (hreserved : bitField w.toNat 27 5 = 0) : postCheck u m q w = .ok :=
  postCheck_open (postPort_ok hbar hbound hkind hmay hreserved) hopen

section Admitted

variable (hcheck : postCheck u m q w = .ok)
include hcheck

theorem post_stale (hmismatch : (u.queue q).mismatch = true) :
    u.post m q w = ((u.pointerReset q).noteStatus m q .stale).respond .stale := by
  rw [State.post]
  exact (if_neg fun h => h hcheck).trans (if_pos hmismatch)

variable (hagree : (u.queue q).mismatch = false)
include hagree

/-- Past the checks the combining table decides. -/
theorem post_accepted :
    u.post m q w =
      (u.comb.find? fun x => x.queue = q && x.key = bitField w.toNat 0 24).elim
        (if (u.queue q).isFull = true then (((u.bump Reg.CMB_POSTS).refuseFull q).noteStatus m q .full).respond .full
          else (((u.bump Reg.CMB_POSTS).postNew q (bitField w.toNat 0 24) (bitField w.toNat 24 3)
            (BitVec.ofNat 32 (bitField w.toNat 32 32))).noteStatus m q .ok).respond .ok)
        fun y => (((u.bump Reg.CMB_POSTS).postMerge q y.slot (bitField w.toNat 24 3)
          (BitVec.ofNat 32 (bitField w.toNat 32 32))).noteStatus m q .ok).respond .ok := by
  rw [State.post]
  refine (if_neg fun h => h hcheck).trans ((if_neg (by simp [hagree])).trans ?_)
  simp only [State.bump_comb]
  cases u.comb.find? fun x => x.queue = q && x.key = bitField w.toNat 0 24 <;> rfl

theorem post_merges {y : CombEntry}
    (hfind : (u.comb.find? fun x => x.queue = q && x.key = bitField w.toNat 0 24) = some y) :
    u.post m q w =
      (((u.bump Reg.CMB_POSTS).postMerge q y.slot (bitField w.toNat 24 3)
        (BitVec.ofNat 32 (bitField w.toNat 32 32))).noteStatus m q .ok).respond .ok := by
  rw [post_accepted hcheck hagree, hfind, Option.elim_some]

section New

variable (hfind : (u.comb.find? fun x => x.queue = q && x.key = bitField w.toNat 0 24) = none)
include hfind

theorem post_opens (hroom : (u.queue q).isFull = false) :
    u.post m q w =
      let s1 := (u.bump Reg.CMB_POSTS).setWord ((u.queue q).keyAddr (u.queue q).wpA) 4 (bitField w.toNat 0 24)
      let s2 := if u.comb.length < 4096 then { s1 with comb := s1.comb ++ [⟨q, bitField w.toNat 0 24, (u.queue q).wpA⟩] }
        else (s1.bump Reg.CMB_TABLE_FULL).logGated 2 q u.second
          { cls := .queue, status := .full, sub := (u.queue q).kind.code, ref := q }
      ((State.pushEntry s2 q (entryOf [(4 * bitField w.toNat 24 3, 4, bitField w.toNat 32 32)])).noteStatus m q
        .ok).respond .ok := by
  rw [← postValue_toNat, post_accepted hcheck hagree, hfind, Option.elim_none, if_neg (by simp [hroom])]
  rfl

theorem post_full (hfull : (u.queue q).isFull = true) :
    u.post m q w = (((u.bump Reg.CMB_POSTS).refuseFull q).noteStatus m q .full).respond .full := by
  rw [post_accepted hcheck hagree, hfind, Option.elim_none, if_pos hfull]

end New

end Admitted

end Post

/-- Settles O9: the equations above, operation by operation. -/
theorem queuePortWrites : Obligations.QueuePortWrites :=
  ⟨fun _ _ _ _ _ _ hsoft hbar hagree hkind hbound hopen hmay hroom =>
      exec_push hsoft (push_plain_stores hbar hagree hbound hopen hmay hkind hroom),
    fun _ _ _ _ _ _ hsoft hbar hagree hkind hbound hopen hmay hfull =>
      exec_push hsoft (push_plain_full hbar hagree hbound hopen hmay hkind hfull),
    fun _ _ _ _ _ _ hsoft hbar hcombining hcompletion hclosed hmay =>
      exec_push hsoft (push_closed hbar hcombining hcompletion hclosed hmay),
    fun _ _ _ _ _ _ hsoft hbar hcombining hbound hmay => exec_push hsoft (push_denied hbar hcombining hbound hmay),
    fun _ _ _ _ _ _ _ hsoft hcheck hok hfull => exec_push hsoft (push_refused hcheck hok hfull),
    fun _ _ _ _ _ _ hsoft hcheck => exec_push hsoft (push_full hcheck),
    fun _ _ _ _ _ _ hsoft hcheck hmismatch => exec_push hsoft (push_stale hcheck hmismatch),
    fun _ _ _ _ _ _ hsoft hbar hagree hkind hbound hopen hmay hdesc hroom =>
      exec_push hsoft (push_request hbar hagree hbound hopen hmay hdesc hkind hroom),
    fun _ _ _ _ _ _ hsoft hbar hagree hkind hbound hopen hmay hdesc hresv =>
      exec_push hsoft (push_reply_reserved hbar hagree hbound hopen hmay hdesc hkind hresv),
    fun _ _ _ _ _ _ hsoft hbar hagree hkind hbound hopen hmay hdesc hresv hroom =>
      exec_push hsoft (push_reply_unreserved hbar hagree hbound hopen hmay hdesc hkind hresv hroom),
    fun _ _ _ _ _ _ hsoft hbar hagree hkind hbound hopen hmay hdesc hfull =>
      exec_push hsoft (push_message_full hbar hagree hbound hopen hmay hdesc hkind hfull),
    fun _ _ _ _ _ _ hsoft hbar hagree hkind hbound hmay hn hcount hclosed =>
      exec_consume hsoft (consume_plain hbar hagree hbound hmay hn hcount hclosed hkind),
    fun _ _ _ _ _ _ hsoft hbar hagree hkind hbound hmay hn hcount hclosed =>
      exec_consume hsoft (consume_messages hbar hagree hbound hmay hn hcount hclosed hkind),
    fun _ _ _ _ _ _ hsoft hbar hagree hkind hbound hmay hn hcases =>
      exec_consume hsoft (consume_refused (consumePort_ok hbar hbound hkind hmay hn) hagree hcases),
    fun _ _ _ _ _ _ _ hsoft hport hok => exec_consume hsoft (consume_denied hport hok),
    fun _ _ _ _ _ _ hsoft hport hmismatch => exec_consume hsoft (consume_stale hport hmismatch),
    fun _ _ _ _ _ _ hsoft hbar hagree hkind hbound hmay hcount =>
      exec_cqSeal hsoft (seal_seals (sealPort_ok hbar hbound hkind hmay (lt_of_le_count hcount)) hagree hcount),
    fun _ _ _ _ _ _ hsoft hbar hagree hkind hbound hmay hn hcount =>
      exec_cqSeal hsoft (seal_refused (sealPort_ok hbar hbound hkind hmay hn) hagree hcount),
    fun _ _ _ _ _ _ _ hsoft hport hok => exec_cqSeal hsoft (seal_denied hport hok),
    fun _ _ _ _ _ _ hsoft hport hmismatch => exec_cqSeal hsoft (seal_stale hport hmismatch),
    fun _ _ _ _ _ _ _ hsoft hbar hagree hkind hbound hopen hmay hreserved hfind =>
      exec_post hsoft (post_merges (postCheck_ok hbar hkind hbound hopen hmay hreserved) hagree hfind),
    fun _ _ _ _ _ _ hsoft hbar hagree hkind hbound hopen hmay hreserved hfind hroom =>
      exec_post hsoft (post_opens (postCheck_ok hbar hkind hbound hopen hmay hreserved) hagree hfind hroom),
    fun _ _ _ _ _ _ hsoft hbar hagree hkind hbound hopen hmay hreserved hfind hfull =>
      exec_post hsoft (post_full (postCheck_ok hbar hkind hbound hopen hmay hreserved) hagree hfind hfull),
    fun _ _ _ _ _ _ _ hsoft hcheck hok => exec_post hsoft (post_denied hcheck hok),
    fun _ _ _ _ _ _ hsoft hport hopen hmismatch =>
      exec_post hsoft (post_stale (postCheck_open hport hopen) hmismatch)⟩

/-- Settles O45: such a push is taken, and its status and its response leave all that the entry's writing left. -/
theorem pushStoresTheEntry : Obligations.PushStoresTheEntry := by
  intro m q e s hwf hbar hagree hkind hbound hopen hmay hroom
  have hpush : s.push m q.val e = ((s.pushEntry q.val e).noteStatus m q.val .ok).respond .ok :=
    push_plain_stores hbar hagree hbound hopen hmay hkind hroom
  let t := ((s.pushEntry q.val e).noteStatus m q.val .ok).respond .ok
  have hmem : t.mem = (s.pushEntry q.val e).mem := by simp [t]
  have hveils : t.veils = (s.pushEntry q.val e).veils := by simp [t]
  have hqueue : t.queue = (s.pushEntry q.val e).queue := funext (queue_congr (by simp [t]))
  refine ⟨t, exec_push rfl hpush, by simp [t], ?entry, ?wp, ?rp, ?agree, ?bytes, ?others, ?canonical⟩
  case entry =>
    rw [queueEntry_congr hmem hveils, pushEntry_queueEntry hwf, storedEntry_plain (plain_kind hkind)]
  case wp => rw [hqueue, pushEntry_queue_same, pushedQueue_wpA]
  case rp => rw [hqueue, pushEntry_queue_same, pushedQueue_rpA]
  case agree => rw [hqueue, pushEntry_queue_same, pushedQueue_mismatch hagree]
  case bytes => exact fun a ha => by rw [byteAt_congr hmem hveils, pushEntry_byteAt_outside hwf ha]
  case others => exact fun p hp => by rw [hqueue, pushEntry_queue_other hp]
  case canonical => rw [State.canonical, hmem]; exact pushEntry_canonical hwf

end Sys2Proof.QueueProofs
end

section
/-!
PROOFS. What SIGNAL leaves of a Hitch that has no subscriber, no waiter and no barrier (10, R262, R265): the sum in COUNT, and
the copies of every node but the home's.
-/
namespace Sys2Proof.HitchProofs
open Sys2Proof Sys2Proof.Machine

variable {s t : State} {h node : Nat} {e : Hitch}

/-! ### Maps -/

/-- A key without a value leaves nothing to erase. -/
theorem erase_of_absent {β : Type} {k : Nat} {l : Assoc β} (habsent : Assoc.get? k l = none) : Assoc.erase k l = l := by
  induction l with
  | nil => rfl
  | cons e l ih =>
    obtain ⟨j, v⟩ := e
    by_cases hsame : j = k
    · simp [Assoc.get?, hsame] at habsent
    · rw [Assoc.get?, if_neg hsame] at habsent
      rw [Assoc.erase, List.filter_cons_of_pos (by simpa using hsame)]
      exact congrArg _ (ih habsent)

/-! ### Hitches by number (R260) -/

@[simp] theorem hitch_setHitch_same : (s.setHitch h e).hitch h = e := by
  simp [State.hitch, State.setHitch, Assoc.getD_set]

/-- What a Hitch's entry is turns on the table alone. -/
theorem hitch_congr (hhitches : t.hitches = s.hitches) (k : Nat) : t.hitch k = s.hitch k := by
  rw [State.hitch, State.hitch, hhitches]

theorem hitchSend_hitches (msg : HitchMsg) (run : Option RunCmd) (q : Nat) :
    (s.hitchSend h msg node run q).hitches = s.hitches := by
  rw [State.hitchSend]
  split <;> rfl

/-! ### A node without waiters, and a home without subscribers (R265) -/

/-- What stands at a node that no queue waits at: its copy is dropped, and nothing else of the entry changes. -/
theorem unsubscribe_hitch (hwait : s.waitersOn h = []) (told : Bool) :
    (s.unsubscribe h node told).hitch h = { s.hitch h with copies := Assoc.erase node (s.hitch h).copies } := by
  simp only [State.unsubscribe, hwait, List.any_nil, Bool.false_eq_true, if_false]
  split
  · rw [hitch_congr (hitchSend_hitches _ _ _), hitch_setHitch_same]
  · exact hitch_setHitch_same

/-- A node that holds no COUNT has no copy to drop, so that both of its cases leave one entry. -/
theorem evaluate_hitch (hwait : s.waitersOn h = []) :
    (s.evaluate h node).hitch h = { s.hitch h with copies := Assoc.erase node (s.hitch h).copies } := by
  rw [State.evaluate]
  split
  case h_1 hnone =>
    rw [State.nodeCount] at hnone
    split at hnone
    case isTrue => cases hnone
    case isFalse => rw [erase_of_absent hnone]
  case h_2 =>
    rw [hwait]
    exact unsubscribe_hitch hwait false

theorem hitchPublish_quiet (hlocal : (s.hitch h).lsubs = []) (hremote : (s.hitch h).rsubs = []) (msg : HitchMsg) :
    s.hitchPublish h msg = s := by
  simp only [State.hitchPublish, hlocal, hremote, List.map_nil, List.append_nil]

/-- A change of a COUNT that nobody holds and no barrier watches is left to the home's own node. -/
theorem hitchChanged_quiet (hbar : (s.hitch h).target = 0) (hlocal : (s.hitch h).lsubs = [])
    (hremote : (s.hitch h).rsubs = []) : s.hitchChanged h = s.evaluate h (s.hitch h).homeNode := by
  simp only [State.hitchChanged, hbar, ne_eq, not_true_eq_false, false_and, if_false]
  rw [hitchPublish_quiet hlocal hremote]

/-! ### SIGNAL (R262) -/

/-- A signal is its sum stored, with the saturation counted first, and then the change made known. -/
theorem applySignal_eq (v : BitVec 32) : ∃ t : State, t.queues = s.queues ∧
    s.applySignal h v.toNat = (t.setHitch h { s.hitch h with count := satCount (s.hitch h).count v }).hitchChanged h := by
  simp only [State.applySignal, BitVec.ofNat_toNat, BitVec.setWidth_eq]
  split
  · exact ⟨s.bump Reg.HITCH_SAT, rfl, rfl⟩
  · exact ⟨s, rfl, rfl⟩

/-- Besides COUNT a signal to such a Hitch touches one field: the home's own node drops the copy that it holds (R265 step 5). -/
theorem applySignal_hitch (v : BitVec 32) (hbar : (s.hitch h).target = 0) (hlocal : (s.hitch h).lsubs = [])
    (hremote : (s.hitch h).rsubs = []) (hwait : s.waitersOn h = []) :
    (s.applySignal h v.toNat).hitch h = { s.hitch h with
      count := satCount (s.hitch h).count v, copies := Assoc.erase (s.hitch h).homeNode (s.hitch h).copies } := by
  obtain ⟨t, hqueues, hsignal⟩ := applySignal_eq (s := s) (h := h) v
  have hnone : (t.setHitch h { s.hitch h with count := satCount (s.hitch h).count v }).waitersOn h = [] := by
    rw [← hwait, State.waitersOn, State.waitersOn, State.setHitch_queues, hqueues]
  rw [hsignal, hitchChanged_quiet (by rwa [hitch_setHitch_same]) (by rwa [hitch_setHitch_same])
    (by rwa [hitch_setHitch_same]), evaluate_hitch hnone, hitch_setHitch_same]

/-- Hitch 7 at device start (R260), homed at the die root of this device, counts 5, and the die root also holds a copy of it
as nodes do that wait elsewhere. Nobody subscribes to it, waits on it or has armed a barrier. -/
def copyAtHome : State := { State.reset with hitches := [(7, { count := 5, copies := [(16, 5)] })] }

/-- Refutes O31: its SIGNAL clause has nothing but COUNT change, in every state. In `copyAtHome` a signal by 3 also drops the
copy that the home's own node holds: the copies `[(16, 5)]`, which the clause keeps, become `[]`. Neither a hypothesis of
the clause nor `State.inv` excludes such a copy. -/
theorem not_hitchNetwork : ¬ Obligations.HitchNetwork := by
  rintro ⟨-, -, -, hsignal, -⟩
  obtain ⟨hkept, -⟩ := hsignal 7 3 copyAtHome rfl rfl rfl rfl
  have hdropped := applySignal_hitch (s := copyAtHome) (h := 7) 3 rfl rfl rfl rfl
  exact absurd (congrArg Hitch.copies (hkept.symm.trans hdropped)) (by decide)

end Sys2Proof.HitchProofs
end

section
/-!
PROOFS. Window descriptors (R281, R282), CONSUME and CLEAR of a window (R283), and a cycle of a Commons or control bank
(R275–R280): what an operation answers in each of its cases, and what a cycle with one, two or three accesses leaves.
-/
namespace Sys2Proof.MemoryProofs
open Sys2Proof Sys2Proof.Machine Sys2Proof.NeuronProofs

variable {s t u : State}

/-! ### Writes of window descriptors (R281, R282) -/

/-- A row that is a write of an object is answered with the status of an access that may not be made. -/
theorem exec_of_writeObject_denied {instr : Instr} {path : Path} {index sub : Nat} {f : State → Status × State} {st : Status}
    (hexec : exec instr s = .next (s.writeObject path index sub f)) (haccess : s.accessStatus path true index sub = st)
    (hst : st ≠ .ok) : exec instr s = .next (s.respond st) := by
  rw [hexec, State.writeObject, haccess]
  cases st
  case ok => exact absurd rfl hst
  all_goals rfl

section Descriptor

variable {path : Path} {b : BankId} {w : Fin 32} {v : BitVec 64} {x : Window}

theorem exec_windowDescriptorWrite : exec (.windowDescriptorWrite path b w v) s = .next
    (s.writeObject path (0x2440 + b.val) (w.val + 1) fun s => s.setDescriptor (path == .sys) b.val w.val v.toNat) := rfl

variable (haccess : s.accessStatus path true (0x2440 + b.val) (w.val + 1) = .ok)
include haccess

theorem windowDescriptorWrite_firmware (hshut : b.val = 15 ∧ 24 ≤ w.val ∧ path ≠ .sys) :
    exec (.windowDescriptorWrite path b w v) s = .next (s.respond .security) :=
  exec_of_writeObject exec_windowDescriptorWrite haccess (if_pos (by simpa using hshut))

variable (hopen : ¬ (b.val = 15 ∧ 24 ≤ w.val ∧ path ≠ .sys))
include hopen

/-- A path that reaches the window sets it as the firmware's own does. -/
theorem windowDescriptorWrite_open {st : Status} (hset : s.setDescriptor true b.val w.val v.toNat = (st, t)) :
    exec (.windowDescriptorWrite path b w v) s = .next (t.respond st) := by
  have hreach : ¬ (b.val = 15 ∧ 24 ≤ w.val ∧ (!(path == .sys)) = true) := by simpa using hopen
  have hown : ¬ (b.val = 15 ∧ 24 ≤ w.val ∧ (!true) = true) := by simp
  refine exec_of_writeObject exec_windowDescriptorWrite haccess ?_
  rw [← hset, State.setDescriptor, State.setDescriptor, if_neg hreach, if_neg hown]

theorem windowDescriptorWrite_inUse (huse : s.windowInUse b.val w.val = true) :
    exec (.windowDescriptorWrite path b w v) s = .next (s.respond .refused) :=
  windowDescriptorWrite_open haccess hopen (by simp [State.setDescriptor, huse])

variable (hfree : s.windowInUse b.val w.val = false)
include hfree

theorem windowDescriptorWrite_sets (hx : windowOf b.val v.toNat = some x) :
    exec (.windowDescriptorWrite path b w v) s = .next ((s.setWindow b.val w.val x).respond .ok) :=
  windowDescriptorWrite_open haccess hopen (by simp [State.setDescriptor, hfree, hx])

theorem windowDescriptorWrite_bad (hbad : windowOf b.val v.toNat = none) :
    exec (.windowDescriptorWrite path b w v) s = .next (s.respond .badFormat) :=
  windowDescriptorWrite_open haccess hopen (by simp [State.setDescriptor, hfree, hbad])

end Descriptor

/-! ### CONSUME and CLEAR of a window (R283, R316) -/

section Window

variable {m : Master} {b : BankId} {w : Fin 32} {n v : BitVec 32} {p : Nat}

/-- A 32-bit word survives its 4 bytes. -/
theorem leNat_leBytes_four (n : BitVec 32) : leNat (leBytes 4 n.toNat) = n.toNat := by
  rw [leNat_leBytes]
  exact Nat.mod_eq_of_lt n.isLt

theorem exec_windowConsume : exec (.windowConsume m b w n) s = .next (
    let r := if mayReadBank m b.val w.val then s.windowConsume b.val w.val n.toNat else (.security, s)
    r.2.respond r.1) := by
  have hexec : exec (.windowConsume m b w n) s = execWindowConsume m b w n s := rfl
  simp only [hexec, execWindowConsume, State.windowPort, leBytes_length, leNat_leBytes_four]

theorem exec_windowClear : exec (.windowClear m b w v) s = .next (
    let r := if mayReadBank m b.val w.val then s.windowClear b.val w.val v.toNat else (.security, s)
    r.2.respond r.1) := by
  have hexec : exec (.windowClear m b w v) s = execWindowClear m b w v s := rfl
  simp only [hexec, execWindowClear, State.windowPort, leBytes_length, leNat_leBytes_four]

theorem windowConsume_denied (hread : mayReadBank m b.val w.val = false) :
    exec (.windowConsume m b w n) s = .next (s.respond .security) := by
  simp only [exec_windowConsume, hread, Bool.false_eq_true, if_false]

theorem windowClear_denied (hread : mayReadBank m b.val w.val = false) :
    exec (.windowClear m b w v) s = .next (s.respond .security) := by
  simp only [exec_windowClear, hread, Bool.false_eq_true, if_false]

variable (hread : mayReadBank m b.val w.val = true)
include hread

theorem windowClear_one : exec (.windowClear m b w 1) s =
    .next ((s.setWindow b.val w.val { s.window b.val w.val with wfull := false }).respond .ok) := by
  rw [exec_windowClear, if_pos hread]
  rfl

theorem windowClear_bad (hv : v ≠ 1) : exec (.windowClear m b w v) s = .next (s.respond .badFormat) := by
  have hbad : s.windowClear b.val w.val v.toNat = (.badFormat, s) := if_pos fun h => hv (BitVec.eq_of_toNat_eq h)
  rw [exec_windowClear, if_pos hread, hbad]

/-- The first armed port whose skid buffer a window is. -/
abbrev armedSkid (s : State) (b w : Nat) : Option Nat :=
  [0, 1, 2, 3, 4, 5].find? fun p => s.skid p == some (b, w) && s.reg (Reg.PORT_STATE p) != 0

theorem windowConsume_skid (hskid : armedSkid s b.val w.val = some p) :
    exec (.windowConsume m b w n) s = .next ((s.bump (Reg.SKID_DENIED p)).respond .refused) := by
  have hrefused : s.windowConsume b.val w.val n.toNat = (.refused, s.bump (Reg.SKID_DENIED p)) := by
    simp only [State.windowConsume, hskid]
  rw [exec_windowConsume, if_pos hread, hrefused]

variable (hskid : armedSkid s b.val w.val = none)
include hskid

theorem windowConsume_moves (hmode : (s.window b.val w.val).mode = .append) (hline : n.toNat % 16 = 0)
    (hfill : n.toNat ≤ (s.window b.val w.val).fill) : exec (.windowConsume m b w n) s =
      .next ((s.setWindow b.val w.val { s.window b.val w.val with rd := (s.window b.val w.val).rd + n }).respond .ok) := by
  have hmoved : s.windowConsume b.val w.val n.toNat =
      (.ok, s.setWindow b.val w.val { s.window b.val w.val with rd := (s.window b.val w.val).rd + n }) := by
    simp only [State.windowConsume, hskid, hmode, hline, Nat.not_lt.mpr hfill, ne_eq, not_true_eq_false, or_self, if_false,
      BitVec.ofNat_toNat, BitVec.setWidth_eq]
  rw [exec_windowConsume, if_pos hread, hmoved]

theorem windowConsume_bad
    (hbad : (s.window b.val w.val).mode ≠ .append ∨ n.toNat % 16 ≠ 0 ∨ (s.window b.val w.val).fill < n.toNat) :
    exec (.windowConsume m b w n) s = .next (s.respond .badFormat) := by
  have hrefused : s.windowConsume b.val w.val n.toNat = (.badFormat, s) := by
    simp only [State.windowConsume, hskid]
    exact if_pos hbad
  rw [exec_windowConsume, if_pos hread, hrefused]

end Window

/-! ### What the parts of a bank's cycle change (R275, R279) -/

/-- A state differs from another in the memories, the messages, the counters and the accesses that wait at banks alone. -/
abbrev OnlyBankChanges (s t : State) : Prop :=
  t = { s with mem := t.mem, out := t.out, regs := t.regs, bankWait := t.bankWait }

theorem OnlyBankChanges.trans (hst : OnlyBankChanges s t) (htu : OnlyBankChanges t u) : OnlyBankChanges s u := by
  rw [hst] at htu
  exact htu

section Parts

variable {b : Nat} {x : BankAccess} {d : List Byte} {rest again : List StalledAccess}

theorem grantOne_write (hx : x.write = some d) : s.grantOne x = (s.setBytes x.addr d).bankAnswer x .ok [] := by
  simp only [State.grantOne, hx]

theorem grantOne_read (hx : x.write = none) : s.grantOne x = s.bankAnswer x .ok (s.bytes x.addr x.len) := by
  simp only [State.grantOne, hx]

theorem bankAnswer_changes (st : Status) (data : List Byte) : OnlyBankChanges s (s.bankAnswer x st data) := rfl

@[simp] theorem bankAnswer_out (st : Status) (data : List Byte) :
    (s.bankAnswer x st data).out = s.out ++ [.bankResponse x.port st data] := rfl

@[simp] theorem bankAnswer_bytes (st : Status) (data : List Byte) (a n : Nat) :
    (s.bankAnswer x st data).bytes a n = s.bytes a n := 
  QueueProofs.bytes_congr (s := s) (t := s.bankAnswer x st data) rfl rfl a n

theorem grantOne_changes : OnlyBankChanges s (s.grantOne x) := by
  cases hx : x.write with
  | some d => rw [grantOne_write hx]; rfl
  | none => rw [grantOne_read hx]; rfl

theorem bankCount_changes (o : Obj) : OnlyBankChanges s (s.bankCount o b) := by
  rw [State.bankCount]
  split <;> rfl

@[simp] theorem bankCount_mem (o : Obj) : (s.bankCount o b).mem = s.mem := by
  rw [State.bankCount]
  split <;> rfl

@[simp] theorem bankCount_out (o : Obj) : (s.bankCount o b).out = s.out := by
  rw [State.bankCount]
  split <;> rfl

theorem bumpBy_changes (o : Obj) (n : Nat) : OnlyBankChanges s (s.bumpBy o n) := rfl

theorem peak_changes (o : Obj) (n : Nat) : OnlyBankChanges s (s.peak o n) := rfl

theorem wait_changes (l : Assoc (List StalledAccess)) : OnlyBankChanges s { s with bankWait := l } := rfl

theorem stallRest_changes : OnlyBankChanges s (s.stallRest b rest again) := by
  rw [State.stallRest]
  refine OnlyBankChanges.trans ?_ (wait_changes _)
  split
  · exact ((bumpBy_changes _ _).trans (bumpBy_changes _ _)).trans ((peak_changes _ _).trans (peak_changes _ _))
  · exact (bumpBy_changes _ _).trans (peak_changes _ _)

@[simp] theorem stallRest_mem : (s.stallRest b rest again).mem = s.mem := by
  rw [State.stallRest]
  split <;> rfl

@[simp] theorem stallRest_out : (s.stallRest b rest again).out = s.out := by
  rw [State.stallRest]
  split <;> rfl

@[simp] theorem stallRest_waiting : Assoc.getD (s.stallRest b rest again).bankWait b [] = rest ++ again := by
  simp [State.stallRest, Assoc.getD_set]

theorem key_copy (o : Obj) (n : Nat) : (o.copy n).key = o.key + 256 * n := by
  simp only [Obj.key, Obj.copy]
  omega

theorem reg_of_regs (hregs : t.regs = u.regs) (o : Obj) : t.reg o = u.reg o := by
  rw [State.reg, State.reg, hregs]

theorem stallRest_regs (hb : b < 16) : (s.stallRest b rest again).regs =
    ((s.bumpByAt Reg.BANK_STALL (0x10 + b) rest.length).peakAt Reg.STALL_RUN_MAX b
      (rest.foldl (fun a x => max a x.run) 0)).regs := by
  rw [State.stallRest, if_pos hb]

/-- The stalled accesses are counted; neither the peak nor a bank's copy is the counter (R298). -/
theorem stallRest_count (hb : b < 16) :
    (s.stallRest b rest again).reg Reg.BANK_STALL = (s.reg Reg.BANK_STALL + rest.length) % 2 ^ 64 := by
  have hpeak : Reg.STALL_RUN_MAX.key = Reg.BANK_STALL.key + 1 := by decide
  have hpeakCopy : (Reg.STALL_RUN_MAX.copy (0x10 + b)).key ≠ Reg.BANK_STALL.key := by
    rw [key_copy]
    omega
  have hcopy : (Reg.BANK_STALL.copy (0x10 + b)).key ≠ Reg.BANK_STALL.key := by
    rw [key_copy]
    omega
  have hwraps : Reg.BANK_STALL.ty = .u64 := rfl
  rw [reg_of_regs (stallRest_regs hb), State.peakAt, State.peak, State.reg_setReg_other _ hpeakCopy, State.peak,
    State.reg_setReg_other _ (by omega), State.bumpByAt, State.reg_bumpBy_other _ hcopy, State.reg_bumpBy_same, hwraps,
    ObjTy.count]

end Parts

/-! ### The order of a cycle (R275, R276) -/

theorem bankRank_lt (p : BankPort) : bankRank p < 25 := by
  cases p
  case seq c => exact Nat.add_lt_add_left c.isLt 9
  all_goals decide

theorem flatMap_range_filter {α : Type} (x : α) (k n : Nat) :
    (List.range n).flatMap (fun i => [x].filter fun _ => k = i) = if k < n then [x] else [] := by
  induction n with
  | zero => rfl
  | succ n ih =>
    rw [List.range_succ, List.flatMap_append, ih]
    by_cases hk : k = n
    · simp [hk]
    · have hlt : k < n + 1 ↔ k < n := by omega
      simp [hk, hlt]

/-- An access by itself has no order to take: every key is below 200. -/
theorem grantOrder_single (v : Nat) (x : StalledAccess) : grantOrder v [x] = [x] := by
  have hrank := bankRank_lt x.acc.port
  have hkey : (if bankOwns x.acc.port v then 0 else 100) + bankRank x.acc.port < 200 := by
    split <;> omega
  exact (flatMap_range_filter x _ 200).trans (if_pos hkey)

/-! ### One cycle of a bank (R275, R279, R280) -/

section Cycle

variable {b : Fin 24} {accs : List BankAccess} {x y z : BankAccess} {d d' : List Byte}

theorem exec_commonsBankGrant : exec (.commonsBankGrant b accs) s =
    .next (if b.val < 16 then s.commonsCycle b.val accs else s.controlCycle (b.val - 16) accs) := rfl

theorem controlBankGrant_eq (hb : 16 ≤ b.val) :
    exec (.commonsBankGrant b accs) s = .next (s.controlCycle (b.val - 16) accs) := by
  rw [exec_commonsBankGrant, if_neg (Nat.not_lt.mpr hb)]

/-- The bank that a cycle of control bank `b − 16` speaks of is `b`. -/
theorem controlBankGrant_cycle (hb : 16 ≤ b.val) : exec (.commonsBankGrant b accs) s = .next (
    let all := Assoc.getD s.bankWait b.val [] ++ (accs.filter (presentsControl s.variant (b.val - 16))).map fun x => ⟨x, 0⟩
    let direct := ((grantOrder 0 all).filter fun x => (aliasOf s.variant x.acc).isNone).map fun x =>
      { x with acc := directControl s.variant x.acc }
    let g := s.grantCycle b.val direct
    (((grantOrder 0 all).filter fun x => (aliasOf s.variant x.acc).isSome).foldl (fun x y => x.grantAlias y.acc)
      g.1).stallRest b.val ((direct.drop 2).map fun x => { x with run := x.run + 1 }) g.2) := by
  rw [controlBankGrant_eq hb, State.controlCycle, Nat.add_sub_cancel' hb]

variable (hb : b.val < 16)
include hb

theorem commonsBankGrant_eq : exec (.commonsBankGrant b accs) s = .next (s.commonsCycle b.val accs) := by
  rw [exec_commonsBankGrant, if_pos hb]

variable (hwait : Assoc.getD s.bankWait b.val [] = [])
include hwait

/-- Where no access waits, those that present themselves are granted in the order of the cycle. -/
theorem commonsBankGrant_presented {order : List StalledAccess} (hpresent : ∀ x ∈ accs, presents b.val x = true)
    (horder : grantOrder (s.viewObj (Reg.BANK_OWNER b.val)) (accs.map fun x => ⟨x, 0⟩) = order) :
    exec (.commonsBankGrant b accs) s = .next ((s.grantCycle b.val order).1.stallRest b.val
      ((order.drop 2).map fun x => { x with run := x.run + 1 }) (s.grantCycle b.val order).2) := by
  rw [commonsBankGrant_eq hb, State.commonsCycle, hwait, List.filter_eq_self.mpr hpresent, List.nil_append, horder]

variable (hx : presents b.val x = true)
include hx

theorem commonsBankGrant_alone : exec (.commonsBankGrant b [x]) s = .next ((s.grantOne x).stallRest b.val [] []) :=
  commonsBankGrant_presented hb hwait (List.forall_mem_singleton.mpr hx) (grantOrder_single _ _)

theorem commonsBankGrant_write (hwrite : x.write = some d) : ∃ t, exec (.commonsBankGrant b [x]) s = .next t ∧
    t.mem = (s.setBytes x.addr d).mem ∧ t.out = s.out ++ [.bankResponse x.port .ok []] ∧
    Assoc.getD t.bankWait b.val [] = [] ∧ t.reg Reg.BANK_STALL = s.reg Reg.BANK_STALL % 2 ^ 64 ∧ OnlyBankChanges s t := by
  refine ⟨_, commonsBankGrant_alone hb hwait hx, ?_, ?_, stallRest_waiting, ?_, grantOne_changes.trans stallRest_changes⟩
  · rw [stallRest_mem, grantOne_write hwrite]
    rfl
  · rw [stallRest_out, grantOne_write hwrite]
    rfl
  · rw [stallRest_count hb, grantOne_write hwrite]
    rfl

theorem commonsBankGrant_read (hwrite : x.write = none) : ∃ t, exec (.commonsBankGrant b [x]) s = .next t ∧
    t.mem = s.mem ∧ t.out = s.out ++ [.bankResponse x.port .ok (s.bytes x.addr x.len)] ∧
    Assoc.getD t.bankWait b.val [] = [] ∧ OnlyBankChanges s t := by
  refine ⟨_, commonsBankGrant_alone hb hwait hx, ?_, ?_, stallRest_waiting, grantOne_changes.trans stallRest_changes⟩
  · rw [stallRest_mem, grantOne_read hwrite]
    rfl
  · rw [stallRest_out, grantOne_read hwrite]
    rfl

variable (hy : presents b.val y = true)
include hy

theorem commonsBankGrant_collision
    (horder : grantOrder (s.viewObj (Reg.BANK_OWNER b.val)) [⟨x, 0⟩, ⟨y, 0⟩] = [⟨x, 0⟩, ⟨y, 0⟩])
    (hwrite : x.write = some d) (hwrite' : y.write = some d') (hshared : sharedWords x y ≠ []) :
    ∃ t, exec (.commonsBankGrant b [x, y]) s = .next t ∧ t.mem = (s.setBytes x.addr d).mem ∧
      t.out = s.out ++ [.bankResponse x.port .ok [], .bankResponse y.port .wcoll []] ∧ OnlyBankChanges s t := by
  have hgrant : (s.grantCycle b.val [⟨x, 0⟩, ⟨y, 0⟩]).1 =
      ((s.grantOne x).bankCount Reg.WCOLL_CNT b.val).bankAnswer y .wcoll [] := by
    simp only [State.grantCycle, List.take, State.grantTwo, if_neg hshared, hwrite, hwrite']
  refine ⟨_, commonsBankGrant_presented hb hwait (by simp [hx, hy]) horder, ?_, ?_, ?_⟩
  · rw [stallRest_mem, hgrant, grantOne_write hwrite]
    exact bankCount_mem _
  · rw [stallRest_out, hgrant, grantOne_write hwrite, bankAnswer_out, bankCount_out, bankAnswer_out, List.append_assoc]
    rfl
  · rw [hgrant]
    exact ((grantOne_changes.trans (bankCount_changes _)).trans (bankAnswer_changes _ _)).trans stallRest_changes

theorem commonsBankGrant_stalls (hz : presents b.val z = true)
    (horder : grantOrder (s.viewObj (Reg.BANK_OWNER b.val)) [⟨x, 0⟩, ⟨y, 0⟩, ⟨z, 0⟩] = [⟨x, 0⟩, ⟨y, 0⟩, ⟨z, 0⟩])
    (hshared : sharedWords x y = []) (hwrite : x.write = none) (hwrite' : y.write = none) :
    ∃ t, exec (.commonsBankGrant b [x, y, z]) s = .next t ∧ t.mem = s.mem ∧
      t.out = s.out ++ [.bankResponse x.port .ok (s.bytes x.addr x.len), .bankResponse y.port .ok (s.bytes y.addr y.len)] ∧
      Assoc.getD t.bankWait b.val [] = [⟨z, 1⟩] ∧ t.reg Reg.BANK_STALL = (s.reg Reg.BANK_STALL + 1) % 2 ^ 64 ∧
      OnlyBankChanges s t := by
  have hgrant : s.grantCycle b.val [⟨x, 0⟩, ⟨y, 0⟩, ⟨z, 0⟩] = ((s.grantOne x).grantOne y, []) := by
    simp only [State.grantCycle, List.take, State.grantTwo, collisionAgain, if_pos hshared]
  have hexec : exec (.commonsBankGrant b [x, y, z]) s =
      .next (((s.grantOne x).grantOne y).stallRest b.val [⟨z, 1⟩] []) := by
    rw [commonsBankGrant_presented (accs := [x, y, z]) hb hwait (by simp [hx, hy, hz]) horder, hgrant]
    rfl
  refine ⟨_, hexec, ?_, ?_, stallRest_waiting, ?_, (grantOne_changes.trans grantOne_changes).trans stallRest_changes⟩
  · rw [stallRest_mem, grantOne_read hwrite, grantOne_read hwrite']
    rfl
  · rw [stallRest_out, grantOne_read hwrite, grantOne_read hwrite']
    rw [bankAnswer_out, bankAnswer_out, bankAnswer_bytes, List.append_assoc]
    rfl
  · rw [stallRest_count hb, grantOne_read hwrite, grantOne_read hwrite']
    rfl

end Cycle

/-! ### A read and a write of a common word (R279) -/

section Busy

variable {b : Nat} {x y : BankAccess} {d : List Byte} (hshared : sharedWords x y ≠ [])
include hshared

theorem grantTwo_readBehind (hy : y.write = none) (hx : x.write = some d) : s.grantTwo b x y =
    let r := s.undefinedWords y (sharedWords x y)
    (((r.2.setBytes x.addr d).bankAnswer x .ok []).bankCount Reg.BUSY_CNT b).bankAnswer y .busy r.1 := by
  simp only [State.grantTwo, if_neg hshared, hx, hy, grantOne_write hx]

theorem grantTwo_readAhead (hx : x.write = none) (hy : y.write = some d) : s.grantTwo b x y =
    let r := s.undefinedWords x (sharedWords x y)
    (((r.2.bankAnswer x .busy r.1).bankCount Reg.BUSY_CNT b).setBytes y.addr d).bankAnswer y .ok [] := by
  simp only [State.grantTwo, if_neg hshared, hx, hy, grantOne_write hy]

end Busy

/-- Settles O13: descriptors, CONSUME and CLEAR case by case, then the cycles of both kinds of bank. -/
theorem windowsAndBankGrants : Obligations.WindowsAndBankGrants :=
  ⟨fun _ _ _ _ _ _ => windowDescriptorWrite_sets,
    fun _ _ _ _ _ => windowDescriptorWrite_inUse, fun _ _ _ _ _ => windowDescriptorWrite_bad,
    fun _ _ _ _ _ => windowDescriptorWrite_firmware,
    fun _ _ _ _ _ _ => exec_of_writeObject_denied exec_windowDescriptorWrite,
    fun _ _ _ _ _ hskid hread => windowConsume_moves hread hskid,
    fun _ _ _ _ _ hskid hread => windowConsume_bad hread hskid,
    fun _ _ _ _ _ _ => windowConsume_skid, fun _ _ _ _ _ => windowConsume_denied,
    fun _ _ _ _ => windowClear_one, fun _ _ _ _ _ => windowClear_bad, fun _ _ _ _ _ => windowClear_denied,
    fun _ _ _ => commonsBankGrant_eq, fun _ _ _ => controlBankGrant_cycle,
    fun _ _ _ _ => commonsBankGrant_write, fun _ _ _ => commonsBankGrant_read,
    fun _ _ _ _ _ _ => commonsBankGrant_collision, fun _ _ _ _ _ => commonsBankGrant_stalls,
    fun _ _ _ _ _ => grantTwo_readBehind, fun _ _ _ _ _ => grantTwo_readAhead⟩

end Sys2Proof.MemoryProofs
end

section
/-!
PROOFS. Bring-up stage by stage and its retry (R410, R411), background training (R295, R416), the Farrier and its re-plans
(R418–R420) and the refresh of the Stable (R421): an equation for each case of a command.
-/
namespace Sys2Proof.BringUpProofs
open Sys2Proof Sys2Proof.Machine

variable {s : State}

/-! ### BRINGUP_STAGE (R410, R411) -/

section Stage

variable {r : StageReport}

theorem exec_bringupStage : exec (.bringupStage r) s = execBringupStage r s := rfl

/-- What the stage that a report is of does when it ends so. -/
def endStage : StageReport → State → State
  | .power bad pins, s => s.endPower bad pins
  | .manage a b v, s => s.endManage a b v
  | .clocks ok ppm, s => s.endClocks ok ppm
  | .memory m, s => s.endMemory m
  | .links, s => s.setReg Reg.BRINGUP_STAGE 5
  | .clusters t w n f, s => s.endClusters t w n f

/-- A device that goes through bring-up ends the stage that a report is of where it is the present one. -/
theorem bringupStage_eq : exec (.bringupStage r) s = .next (
    if s.power.off = true ∨ s.power.resetHeld = true ∨ s.update.recovery = true then s
    else if s.reg Reg.BRINGUP_STAGE = reportStage r then endStage r s else s) := by
  rw [exec_bringupStage, execBringupStage.eq_def]
  split
  case isTrue => rfl
  case isFalse => cases r <;> rfl

theorem bringupStage_barred (h : s.power.off = true ∨ s.power.resetHeld = true ∨ s.update.recovery = true) :
    exec (.bringupStage r) s = .next s := by
  rw [bringupStage_eq, if_pos h]

theorem bringupStage_other (hstage : reportStage r ≠ s.reg Reg.BRINGUP_STAGE) : exec (.bringupStage r) s = .next s := by
  rw [bringupStage_eq, if_neg hstage.symm, ite_self]

theorem bringupStage_present (r : StageReport) (hon : s.power.off = false) (hfree : s.power.resetHeld = false)
    (hnormal : s.update.recovery = false) (hstage : s.reg Reg.BRINGUP_STAGE = reportStage r) :
    exec (.bringupStage r) s = .next (endStage r s) := by
  rw [bringupStage_eq, if_neg (by simp [hon, hfree, hnormal]), if_pos hstage]

end Stage

/-! ### BRINGUP_RETRY (R411) -/

theorem exec_bringupRetry : exec .bringupRetry s = execBringupRetry s := rfl

theorem bringupRetry_turnsOn {at' : Nat} (hretry : s.power.retryAt = some at') (hoff : s.power.off = true)
    (hfree : s.power.resetHeld = false) (hdue : at' ≤ s.now) : exec .bringupRetry s =
      .next (s.turnOn.modPower fun p => { p with railRetries := s.power.railRetries }) := by
  simp only [exec_bringupRetry, execBringupRetry, hretry]
  exact if_neg (by simp [hoff, hfree, hdue])

theorem bringupRetry_waits (h : s.power.off = false ∨ s.power.resetHeld = true ∨
    (s.power.retryAt.all fun t => decide (s.now < t)) = true) : exec .bringupRetry s = .next s := by
  rw [exec_bringupRetry, execBringupRetry]
  cases hretry : s.power.retryAt with
  | none => rfl
  | some t => exact if_pos (by simpa [hretry] using h)

/-! ### DDR_BACKGROUND_TRAIN_DONE (R295, R416) -/

section Train

variable {r : TrainReport}

theorem exec_ddrBackgroundTrainDone : exec (.ddrBackgroundTrainDone r) s = execDdrBackgroundTrainDone r s := rfl

theorem ddrBackgroundTrainDone_none (h : s.reg Reg.DDR_STATE ≠ 1 ∨ s.reg Reg.BRINGUP_STAGE ≠ 6) :
    exec (.ddrBackgroundTrainDone r) s = .next s := by
  rw [exec_ddrBackgroundTrainDone, execDdrBackgroundTrainDone, if_pos h]

theorem ddrBackgroundTrainDone_trains (htraining : s.reg Reg.DDR_STATE = 1) (hready : s.reg Reg.BRINGUP_STAGE = 6) :
    exec (.ddrBackgroundTrainDone r) s = .next (s.trainDdr r) := by
  rw [exec_ddrBackgroundTrainDone, execDdrBackgroundTrainDone,
    if_neg fun h => h.elim (fun h => h htraining) fun h => h hready]

end Train

/-! ### CORE_ALARM (R418) -/

section Alarm

variable {c : ClusterId} {k : Fin 32} {slack : BitVec 16}

theorem exec_coreAlarm : exec (.coreAlarm c k slack) s = execCoreAlarm c k slack s := rfl

theorem coreAlarm_none (h : s.power.off = true ∨ 2 ≤ s.reg Reg.PWR_STATE ∨
    (s.reg Reg.CORE_ALARM_PS : Int) ≤ slack.toInt ∨ s.power.bumpAt ≠ 0 ∧ s.now < s.power.bumpAt + 100000) :
    exec (.coreAlarm c k slack) s = .next s := by
  rw [exec_coreAlarm, execCoreAlarm]
  by_cases hasleep : s.power.off = true ∨ 2 ≤ s.reg Reg.PWR_STATE
  · rw [if_pos hasleep]
  · rw [if_neg hasleep, if_pos ((or_assoc.mpr h).resolve_left hasleep)]

variable (hon : s.power.off = false) (hawake : s.reg Reg.PWR_STATE < 2) (halarm : slack.toInt < (s.reg Reg.CORE_ALARM_PS : Int))
  (hsettled : s.power.bumpAt = 0 ∨ s.power.bumpAt + 100000 ≤ s.now)
include hon hawake halarm hsettled

/-- An alarm that counts turns on VDD_CORE alone. -/
theorem coreAlarm_counts : exec (.coreAlarm c k slack) s = .next (
    if 800 ≤ s.power.vcore then s.setFarrier 2 { cls := .farrier, sev := some .error, unit := c.val, sub := k.val }
    else (s.modPower fun p => { p with vcore := min 800 (p.vcore + 5), bumpAt := s.now }).bump Reg.CORE_BUMPS) := by
  have hrun : ¬ (s.power.off = true ∨ 2 ≤ s.reg Reg.PWR_STATE) := by
    simp [hon, hawake]
  have hlow : ¬ ((s.reg Reg.CORE_ALARM_PS : Int) ≤ slack.toInt ∨
      s.power.bumpAt ≠ 0 ∧ s.now < s.power.bumpAt + 100000) := by
    omega
  rw [exec_coreAlarm, execCoreAlarm, if_neg hrun, if_neg hlow]
  split <;> rfl

theorem coreAlarm_raises (hroom : s.power.vcore < 800) : exec (.coreAlarm c k slack) s =
    .next ((s.modPower fun p => { p with vcore := min 800 (p.vcore + 5), bumpAt := s.now }).bump Reg.CORE_BUMPS) := by
  rw [coreAlarm_counts hon hawake halarm hsettled, if_neg (Nat.not_le.mpr hroom)]

theorem coreAlarm_exhausted (htop : 800 ≤ s.power.vcore) : exec (.coreAlarm c k slack) s =
    .next (s.setFarrier 2 { cls := .farrier, sev := some .error, unit := c.val, sub := k.val }) := by
  rw [coreAlarm_counts hon hawake halarm hsettled, if_pos htop]

end Alarm

/-! ### REPLAN_DUE (R419) -/

section Due

variable {temp : BitVec 16}

theorem exec_replanDue : exec (.replanDue temp) s = execReplanDue temp s := rfl

theorem replanDue_noPlan (hplan : s.power.planAt = none) : exec (.replanDue temp) s = .next s := by
  simp only [exec_replanDue, execReplanDue, hplan]

/-- Stated of any test, since comparing two tests of large numbers would have the kernel count them down. -/
theorem match_eq_any (o : Option Nat) (test : Nat → Bool) :
    (match o with | some h => test h | none => false) = o.any test := by
  cases o <;> rfl

/-- How long the die temperature has been far from the plan's own (R419). -/
def notedHot (temp : BitVec 16) (s : State) : State := s.modPower fun p =>
  { p with planHot := if 15 < (temp.toInt - p.planTemp).natAbs then some (p.planHot.getD s.now) else none }

/-- A re-plan falls due by the time since the last one, by a temperature far off, or by a rise of VDD_CORE (R419). -/
def judgeDue (at' : Nat) (s s1 : State) : State :=
  if at' + 86400000000000 ≤ s.now ∨ (s1.power.planHot.any fun h => decide (h + 10000000000 ≤ s.now)) = true ∨
      at' < s.power.bumpAt ∧ s.power.bumpAt + 1000000000 ≤ s.now then s1.duePlan
  else s1

theorem replanDue_plan {at' : Nat} (hplan : s.power.planAt = some at') :
    exec (.replanDue temp) s = .next (judgeDue at' s (notedHot temp s)) := by
  have hnoted : (s.modPower fun p => { p with
      planHot := if 15 < (temp.toInt - s.power.planTemp).natAbs then some (p.planHot.getD s.now) else none }) =
    notedHot temp s := rfl
  simp only [exec_replanDue, execReplanDue, hplan, decide_eq_true_eq, Bool.and_eq_true, hnoted, judgeDue]
  generalize notedHot temp s = s1
  have hhot := iff_of_eq (congrArg (· = true) (match_eq_any s1.power.planHot fun h => decide (h + 10000000000 ≤ s.now)))
  exact congrArg _ (ite_congr (propext (or_congr_right (or_congr_left hhot))) (fun _ => rfl) fun _ => rfl)

end Due

/-! ### REPLAN (R419, R420) -/

section Plan

variable {r : PlanReport}

theorem exec_replan : exec (.replan r) s = execReplan r s := rfl

theorem replan_links (hlinks : s.power.planLinks ≠ []) : exec (.replan r) s = .next s.planLink := by
  rw [exec_replan, execReplan, if_pos hlinks]

variable (hlinks : s.power.planLinks = [])
include hlinks

theorem replan_none (h : s.power.planDue = none ∨ s.reg Reg.BRINGUP_STAGE ≠ 6) : exec (.replan r) s = .next s := by
  rw [exec_replan, execReplan, if_neg fun hne => hne hlinks, if_pos (by simpa using h)]

variable (hdue : s.power.planDue ≠ none) (hready : s.reg Reg.BRINGUP_STAGE = 6)
include hdue hready

/-- A re-plan that is due is held, or it waits for a consolidation, or it is made. -/
theorem replan_due : exec (.replan r) s = .next (
    if s.planHeld then
      if s.power.planDeferred then s
      else (s.modPower fun p => { p with planDeferred := true }).bump Reg.REPLAN_DEFER
    else if s.learning.consolRunning then
      if s.power.planCore then s
      else s.modPower fun p => { p with vcore := s.planCore r.slack.toInt, planCore := true }
    else (s.plan r).planLink) := by
  rw [exec_replan, execReplan, if_neg fun hne => hne hlinks, if_neg (by simpa [hready] using hdue)]
  split
  case isTrue => rfl
  case isFalse => split <;> rfl

theorem replan_held (hheld : s.planHeld = true) : exec (.replan r) s = .next (
    if s.power.planDeferred then s
    else (s.modPower fun p => { p with planDeferred := true }).bump Reg.REPLAN_DEFER) := by
  rw [replan_due hlinks hdue hready, if_pos hheld]

variable (hfree : s.planHeld = false)
include hfree

theorem replan_core (hconsol : s.learning.consolRunning = true) : exec (.replan r) s = .next (
    if s.power.planCore then s
    else s.modPower fun p => { p with vcore := s.planCore r.slack.toInt, planCore := true }) := by
  rw [replan_due hlinks hdue hready, if_neg (by simp [hfree]), if_pos hconsol]

theorem replan_plans (hconsol : s.learning.consolRunning = false) :
    exec (.replan r) s = .next (s.plan r).planLink := by
  rw [replan_due hlinks hdue hready, if_neg (by simp [hfree]), if_neg (by simp [hconsol])]

end Plan

/-! ### STABLE_REFRESH (R290, R421) -/

section Refresh

variable {v : StoreVerify}

theorem exec_stableRefresh : exec (.stableRefresh v) s = execStableRefresh v s := rfl

theorem stableRefresh_barred (hmay : s.mayRefresh = false) : exec (.stableRefresh v) s = .next s := by
  rw [exec_stableRefresh, execStableRefresh, if_pos (by simp [hmay])]

variable {k : Nat} (hmay : s.mayRefresh = true)

section May

include hmay

/-- Where a refresh may write and no pass runs, one begins once the days of STABLE_REFRESH_D are over. -/
theorem stableRefresh_idle (hpage : s.power.refreshPage = none) : exec (.stableRefresh v) s =
    if s.now < s.power.refreshedAt + s.reg Reg.STABLE_REFRESH_D * 86400000000000 then .next s
    else .next ((s.modPower fun p => { p with refreshPage := some 1 }).refreshOne 0 v) := by
  rw [exec_stableRefresh, execStableRefresh, if_neg (by simp [hmay])]
  simp only [hpage]

theorem stableRefresh_begins (hpage : s.power.refreshPage = none)
    (hdue : s.power.refreshedAt + s.reg Reg.STABLE_REFRESH_D * 86400000000000 ≤ s.now) : exec (.stableRefresh v) s =
      .next (((s.modPower fun p => { p with refreshPage := some 1 }).wearPages [0]).verifyBlock 0 v) := by
  rw [stableRefresh_idle hmay hpage, if_neg (Nat.not_lt.mpr hdue), State.refreshOne]

theorem stableRefresh_page (hpage : s.power.refreshPage = some k) : exec (.stableRefresh v) s = .next (
    let s1 := (s.wearPages [k]).verifyBlock k v
    if k + 1 < 16384 then s1.modPower fun p => { p with refreshPage := some (k + 1) }
    else (s1.modPower fun p => { p with refreshPage := none, refreshedAt := s.now }).bump Reg.STABLE_REFRESHES) := by
  rw [exec_stableRefresh, execStableRefresh, if_neg (by simp [hmay])]
  simp only [hpage, State.refreshOne]

end May

theorem stableRefresh_none (h : s.mayRefresh = false ∨ s.power.refreshPage = none ∧
    s.now < s.power.refreshedAt + s.reg Reg.STABLE_REFRESH_D * 86400000000000) :
    exec (.stableRefresh v) s = .next s := by
  cases hmay : s.mayRefresh with
  | false => exact stableRefresh_barred hmay
  | true =>
    obtain ⟨hpage, hearly⟩ := h.resolve_left (by simp [hmay])
    rw [stableRefresh_idle hmay hpage, if_pos hearly]

end Refresh

/-- Settles O34: the stages and the ageing of the device, command by command. -/
theorem bringUpAndAgeing : Obligations.BringUpAndAgeing :=
  ⟨fun _ _ => bringupStage_barred, fun _ _ => bringupStage_other,
    fun pins _ => bringupStage_present (.power none pins), fun rail pins _ => bringupStage_present (.power (some rail) pins),
    fun a b v _ => bringupStage_present (.manage a b v),
    fun ppm _ => bringupStage_present (.clocks true ppm), fun ppm _ => bringupStage_present (.clocks false ppm),
    fun m _ => bringupStage_present (.memory m), fun _ => bringupStage_present .links,
    fun tiles whole n spare _ => bringupStage_present (.clusters tiles whole n spare),
    fun _ _ => bringupRetry_turnsOn, fun _ => bringupRetry_waits,
    fun _ _ => ddrBackgroundTrainDone_trains, fun _ _ => ddrBackgroundTrainDone_none,
    fun _ _ _ _ => coreAlarm_raises, fun _ _ _ _ => coreAlarm_exhausted, fun _ _ _ _ => coreAlarm_none,
    fun _ _ => replanDue_noPlan, fun _ _ _ => replanDue_plan,
    fun _ _ => replan_links, fun _ _ => replan_none, fun _ _ => replan_held, fun _ _ => replan_core,
    fun _ _ => replan_plans,
    fun _ _ => stableRefresh_none, fun _ _ => stableRefresh_begins, fun _ _ _ => stableRefresh_page⟩

end Sys2Proof.BringUpProofs
end

section
/-!
PROOFS. CANopen (R321, R355, R367–R370, R450): a frame by whether the port takes, holds or loses it; NMT, SDO and PDO frames, the
timers, and the recovery from bus-off.
-/
namespace Sys2Proof.CanOpenProofs
open Sys2Proof Sys2Proof.Machine

variable {s : State}

/-! ### Frames that the port takes, holds or loses (R367, R450) -/

section Frame

variable {m : CanFrame} {f : State → State}

theorem canFrame_taken (htakes : s.takesCan = true) : s.canFrame m f = f (s.bump Reg.CAN_RX) := if_pos htakes

theorem canFrame_held (hup : s.canUp = true) (htakes : s.takesCan = false) (hroom : s.power.heldCan.length < 8) :
    s.canFrame m f = s.modPower fun p => { p with heldCan := p.heldCan ++ [m] } := by
  rw [State.canFrame, if_neg (by simp [htakes]), if_pos ⟨hup, hroom⟩]

theorem canFrame_lost (htakes : s.takesCan = false) (h : s.canUp = false ∨ 8 ≤ s.power.heldCan.length) :
    s.canFrame m f = s := by
  rw [State.canFrame, if_neg (by simp [htakes]), if_neg]
  rintro ⟨hup, hroom⟩
  cases h with
  | inl hdown => simp [hdown] at hup
  | inr hfull => exact Nat.not_le.mpr hroom hfull

end Frame

/-! ### The commands, as functions of the state -/

section Commands

variable {node : BitVec 8} {frame data : List Byte} {w : WriteFacts} {i : Fin 4}

theorem exec_nmtStart : exec (.nmtStart node) s = .next (s.nmtStart node) := rfl
theorem exec_nmtStop : exec (.nmtStop node) s = .next (s.nmtStop node) := rfl
theorem exec_nmtEnterPreoperational : exec (.nmtEnterPreoperational node) s = .next (s.nmtPreoperational node) := rfl
theorem exec_nmtResetNode : exec (.nmtResetNode node) s = .next (s.nmtResetNode node) := rfl
theorem exec_nmtResetCommunication : exec (.nmtResetCommunication node) s = .next (s.nmtResetCommunication node) := rfl
theorem exec_sdoDownload : exec (.sdoDownload frame w) s = .next (s.sdoDownload frame w) := rfl
theorem exec_sdoUpload : exec (.sdoUpload frame) s = .next (s.sdoUpload frame) := rfl
theorem exec_sdoSegmentTimeout : exec .sdoSegmentTimeout s = execSdoSegmentTimeout s := rfl
theorem exec_rpdo1Receive : exec (.rpdo1Receive data) s = .next (s.rpdo1 data) := rfl
theorem exec_rpdo2Receive : exec (.rpdo2Receive data) s = .next (s.rpdo2 data) := rfl
theorem exec_tpdoEventTimer : exec (.tpdoEventTimer i) s = execTpdoEventTimer i s := rfl
theorem exec_heartbeatTimer : exec .heartbeatTimer s = execHeartbeatTimer s := rfl
theorem exec_busoffRecovery : exec .busoffRecovery s = execBusoffRecovery s := rfl

end Commands

section Rpdo

variable {i : Nat} {data : List Byte} {f : State → State}

/-- An RPDO is no frame of the stack while it is not received (R369). -/
theorem rpdo_off (h : s.reg Reg.NMT_STATE ≠ 5 ∨ natBit (s.held (Reg.RPDO_COB i)) 31 = true) : s.rpdo i data f = s := if_pos h

variable (hop : s.reg Reg.NMT_STATE = 5) (hvalid : natBit (s.held (Reg.RPDO_COB i)) 31 = false)
include hop hvalid

theorem rpdo_on : s.rpdo i data f = s.canFrame (s.held (Reg.RPDO_COB i) % 2048, data, noFacts) fun t =>
    if data.length < 8 then t.bump Reg.PDO_LEN_ERR else f t :=
  if_neg (by simp [hop, hvalid])

variable (htakes : s.takesCan = true)
include htakes

theorem rpdo_short (hlen : data.length < 8) : s.rpdo i data f = (s.bump Reg.CAN_RX).bump Reg.PDO_LEN_ERR := by
  rw [rpdo_on hop hvalid, canFrame_taken htakes, if_pos hlen]

theorem rpdo_whole (hlen : 8 ≤ data.length) : s.rpdo i data f = f (s.bump Reg.CAN_RX) := by
  rw [rpdo_on hop hvalid, canFrame_taken htakes, if_neg (Nat.not_lt.mpr hlen)]

end Rpdo

section Row

variable {c : Instr} {m : CanFrame}

/-- A row that is a CAN frame gives it to the port. -/
theorem exec_of_canRow (hrow : s.canRow c = some m) : ∃ f, exec c s = .next (s.canFrame m f) := by
  unfold State.canRow at hrow
  split at hrow
  case h_8 | h_9 =>
    obtain ⟨⟨hop, hvalid⟩, hm⟩ := Option.ite_none_right_eq_some.mp hrow
    cases hm
    exact ⟨_, congrArg Host.Outcome.next (rpdo_on hop (by simpa using hvalid))⟩
  case h_10 => cases hrow
  all_goals
    cases hrow
    exact ⟨_, rfl⟩

theorem canRow_held (hrow : s.canRow c = some m) (hup : s.canUp = true) (htakes : s.takesCan = false)
    (hroom : s.power.heldCan.length < 8) :
    exec c s = .next (s.modPower fun p => { p with heldCan := p.heldCan ++ [m] }) := by
  obtain ⟨f, hexec⟩ := exec_of_canRow hrow
  rw [hexec, canFrame_held hup htakes hroom]

theorem canRow_lost (hrow : s.canRow c = some m) (htakes : s.takesCan = false)
    (h : s.canUp = false ∨ 8 ≤ s.power.heldCan.length) : exec c s = .next s := by
  obtain ⟨f, hexec⟩ := exec_of_canRow hrow
  rw [hexec, canFrame_lost htakes h]

end Row

/-! ### NMT (R367) -/

section Nmt

variable {cs : Nat} {node : BitVec 8} {f : State → State} {c : Instr}

theorem nmtState_bumpRx : (s.bump Reg.CAN_RX).reg Reg.NMT_STATE = s.reg Reg.NMT_STATE :=
  State.reg_bumpBy_other s (by decide) 1

theorem nmt_obeyed (hobeys : s.obeysNmt node) : s.nmt cs node f = f (s.bump Reg.CAN_RX) := by
  obtain ⟨htakes, hnode⟩ := hobeys
  rw [State.nmt, canFrame_taken htakes, if_pos hnode]

theorem nmt_other (htakes : s.takesCan = true) (hzero : node ≠ 0) (hnode : node.toNat ≠ (s.bump Reg.CAN_RX).reg Reg.NODE_ID) :
    s.nmt cs node f = s.bump Reg.CAN_RX := by
  rw [State.nmt, canFrame_taken htakes, if_neg (not_or.mpr ⟨hzero, hnode⟩)]

theorem exec_of_nmtNode (hc : nmtNode c = some node) : ∃ cs f, exec c s = .next (s.nmt cs node f) := by
  unfold nmtNode at hc
  split at hc
  case h_6 => cases hc
  all_goals
    cases hc
    exact ⟨_, _, rfl⟩

theorem nmtNode_other (hc : nmtNode c = some node) (htakes : s.takesCan = true) (hzero : node ≠ 0)
    (hnode : node.toNat ≠ (s.bump Reg.CAN_RX).reg Reg.NODE_ID) : exec c s = .next (s.bump Reg.CAN_RX) := by
  obtain ⟨cs, f, hexec⟩ := exec_of_nmtNode (s := s) hc
  rw [hexec, nmt_other htakes hzero hnode]

variable (hobeys : s.obeysNmt node)
include hobeys

theorem nmtStart_begins (hstate : s.reg Reg.NMT_STATE ≠ 5) : exec (.nmtStart node) s = .next (
    let t := (s.bump Reg.CAN_RX).setReg Reg.NMT_STATE 5
    { t with host := { t.host with tpdoFrom := [(0, s.now), (1, s.now), (2, s.now), (3, s.now)] } }) := by
  rw [exec_nmtStart, State.nmtStart, nmt_obeyed hobeys]
  exact congrArg _ (if_neg (nmtState_bumpRx.trans_ne hstate))

theorem nmtStart_again (hstate : s.reg Reg.NMT_STATE = 5) :
    exec (.nmtStart node) s = .next ((s.bump Reg.CAN_RX).setReg Reg.NMT_STATE 5) := by
  rw [exec_nmtStart, State.nmtStart, nmt_obeyed hobeys]
  exact congrArg _ (if_pos (nmtState_bumpRx.trans hstate))

theorem nmtStop_stops :
    exec (.nmtStop node) s = .next ((s.bump Reg.CAN_RX).dropTransfer.setReg Reg.NMT_STATE 4) := by
  rw [exec_nmtStop, State.nmtStop, nmt_obeyed hobeys]

theorem nmtEnterPreoperational_enters :
    exec (.nmtEnterPreoperational node) s = .next ((s.bump Reg.CAN_RX).setReg Reg.NMT_STATE 0x7F) := by
  rw [exec_nmtEnterPreoperational, State.nmtPreoperational, nmt_obeyed hobeys]

theorem nmtResetNode_boots : exec (.nmtResetNode node) s =
    .next (((s.bump Reg.CAN_RX).dropTransfer.restoreObjects fun i => 0x1000 ≤ i && i ≤ 0x1FFF).bootCan) := by
  rw [exec_nmtResetNode, State.nmtResetNode, nmt_obeyed hobeys]

theorem nmtResetCommunication_boots : exec (.nmtResetCommunication node) s =
    .next (((s.bump Reg.CAN_RX).dropTransfer.restoreObjects fun i => 0x1400 ≤ i && i ≤ 0x1A03).bootCan) := by
  rw [exec_nmtResetCommunication, State.nmtResetCommunication, nmt_obeyed hobeys]

end Nmt

/-! ### The boot-up message (R367, R372) -/

section Boot

variable {id : Nat} {data : List Byte}

theorem canSend_sends (hbus : s.reg Reg.CAN_STATE ≠ 2) (hon : s.power.off = false) (hawake : s.reg Reg.PWR_STATE < 3) :
    s.canSend id data = (s.emit (.can id data)).bump Reg.CAN_TX :=
  if_neg (by simp [hbus, hon, hawake])

/-- Sending touches no object but its counter. -/
theorem reg_canSend {o : Obj} (ho : Reg.CAN_TX.key ≠ o.key) : (s.canSend id data).reg o = s.reg o := by
  rw [State.canSend]
  split
  case isTrue => rfl
  case isFalse => exact State.reg_bumpBy_other _ ho 1

theorem nmtState_bootCan : s.bootCan.reg Reg.NMT_STATE = 0x7F := by
  rw [State.bootCan, reg_canSend (by decide), State.reg_setReg_same]

theorem out_bootCan (hbus : s.reg Reg.CAN_STATE ≠ 2) (hon : s.power.off = false) (hawake : s.reg Reg.PWR_STATE < 3) :
    s.bootCan.out = s.out ++ [.can (0x700 + s.reg Reg.NODE_ID) [0]] := by
  rw [State.bootCan, canSend_sends]
  · rfl
  · rwa [State.reg_setReg_other _ (by decide)]
  · exact hon
  · rwa [State.reg_setReg_other _ (by decide)]

end Boot

/-! ### SDO frames (R367) -/

section Sdo

variable {frame : List Byte} {w : WriteFacts}

/-- What the SDO server does with a download frame by its command specifier, as CiA 301 numbers them (log entry 12). -/
def serveDownload (frame : List Byte) (w : WriteFacts) (k : Nat) (t : State) : State :=
  match k with
  | 0 => t.sdoNext frame w
  | 1 => t.sdoBegin frame w
  | 4 => t.dropTransfer
  | _ => t

/-- What the SDO server does with an upload frame by its command specifier. -/
def serveUpload (frame : List Byte) (k : Nat) (t : State) : State :=
  match k with
  | 2 => t.sdoRead (sdoField frame 1 2) (sdoField frame 3 1)
  | 3 => t.sdoMore (bitField (sdoField frame 0 1) 4 1)
  | _ => t

theorem serveDownload_other {k : Nat} (hnext : k ≠ 0) (hbegin : k ≠ 1) (habort : k ≠ 4) : serveDownload frame w k s = s :=
  serveDownload.eq_4 _ _ _ _ hnext hbegin habort

theorem serveUpload_other {k : Nat} (hread : k ≠ 2) (hmore : k ≠ 3) : serveUpload frame k s = s :=
  serveUpload.eq_3 _ _ _ hread hmore

section Taken

variable (htakes : s.takesCan = true)
include htakes

theorem sdoDownload_eq : exec (.sdoDownload frame w) s = .next (
    if !(s.bump Reg.CAN_RX).sdoRuns ∨ frame.length ≠ 8 then s.bump Reg.CAN_RX
    else serveDownload frame w (sdoField frame 0 1 / 32) (s.bump Reg.CAN_RX)) := by
  rw [exec_sdoDownload, State.sdoDownload, canFrame_taken htakes]
  rfl

theorem sdoUpload_eq : exec (.sdoUpload frame) s = .next (
    if !(s.bump Reg.CAN_RX).sdoRuns ∨ frame.length ≠ 8 then s.bump Reg.CAN_RX
    else serveUpload frame (sdoField frame 0 1 / 32) (s.bump Reg.CAN_RX)) := by
  rw [exec_sdoUpload, State.sdoUpload, canFrame_taken htakes]
  rfl

theorem sdoDownload_ignored (h : (s.bump Reg.CAN_RX).sdoRuns = false ∨ frame.length ≠ 8 ∨ sdoField frame 0 1 / 32 ≠ 0 ∧
    sdoField frame 0 1 / 32 ≠ 1 ∧ sdoField frame 0 1 / 32 ≠ 4) :
    exec (.sdoDownload frame w) s = .next (s.bump Reg.CAN_RX) := by
  rw [sdoDownload_eq htakes]
  split
  case isTrue => rfl
  case isFalse hserved =>
    obtain ⟨hruns, hlen⟩ := not_or.mp hserved
    obtain ⟨hnext, hbegin, habort⟩ := (h.resolve_left (by simpa using hruns)).resolve_left hlen
    rw [serveDownload_other hnext hbegin habort]

theorem sdoUpload_ignored (h : (s.bump Reg.CAN_RX).sdoRuns = false ∨ frame.length ≠ 8 ∨ sdoField frame 0 1 / 32 ≠ 2 ∧
    sdoField frame 0 1 / 32 ≠ 3) : exec (.sdoUpload frame) s = .next (s.bump Reg.CAN_RX) := by
  rw [sdoUpload_eq htakes]
  split
  case isTrue => rfl
  case isFalse hserved =>
    obtain ⟨hruns, hlen⟩ := not_or.mp hserved
    obtain ⟨hread, hmore⟩ := (h.resolve_left (by simpa using hruns)).resolve_left hlen
    rw [serveUpload_other hread hmore]

variable (hruns : (s.bump Reg.CAN_RX).sdoRuns = true) (hlen : frame.length = 8)
include hruns hlen

theorem sdoDownload_served : exec (.sdoDownload frame w) s =
    .next (serveDownload frame w (sdoField frame 0 1 / 32) (s.bump Reg.CAN_RX)) := by
  rw [sdoDownload_eq htakes, if_neg (by simp [hruns, hlen])]

theorem sdoUpload_served : exec (.sdoUpload frame) s =
    .next (serveUpload frame (sdoField frame 0 1 / 32) (s.bump Reg.CAN_RX)) := by
  rw [sdoUpload_eq htakes, if_neg (by simp [hruns, hlen])]

theorem sdoDownload_begins (hcmd : sdoField frame 0 1 / 32 = 1) :
    exec (.sdoDownload frame w) s = .next ((s.bump Reg.CAN_RX).sdoBegin frame w) := by
  rw [sdoDownload_served htakes hruns hlen, hcmd, serveDownload]

theorem sdoDownload_goesOn (hcmd : sdoField frame 0 1 / 32 = 0) :
    exec (.sdoDownload frame w) s = .next ((s.bump Reg.CAN_RX).sdoNext frame w) := by
  rw [sdoDownload_served htakes hruns hlen, hcmd, serveDownload]

theorem sdoDownload_givesUp (hcmd : sdoField frame 0 1 / 32 = 4) :
    exec (.sdoDownload frame w) s = .next (s.bump Reg.CAN_RX).dropTransfer := by
  rw [sdoDownload_served htakes hruns hlen, hcmd, serveDownload]

theorem sdoUpload_begins (hcmd : sdoField frame 0 1 / 32 = 2) :
    exec (.sdoUpload frame) s = .next ((s.bump Reg.CAN_RX).sdoRead (sdoField frame 1 2) (sdoField frame 3 1)) := by
  rw [sdoUpload_served htakes hruns hlen, hcmd, serveUpload]

theorem sdoUpload_goesOn (hcmd : sdoField frame 0 1 / 32 = 3) :
    exec (.sdoUpload frame) s = .next ((s.bump Reg.CAN_RX).sdoMore (bitField (sdoField frame 0 1) 4 1)) := by
  rw [sdoUpload_served htakes hruns hlen, hcmd, serveUpload]

end Taken

/-! ### Downloads (R355, R368) -/

theorem sdoBegin_expedited (hexp : natBit (sdoField frame 0 1) 1 = true) :
    s.sdoBegin frame w = s.dropTransfer.sdoApply (sdoField frame 1 2) (sdoField frame 3 1)
      ((frame.drop 4).take (if natBit (sdoField frame 0 1) 0 then 4 - bitField (sdoField frame 0 1) 2 2 else 4)) w
      fun t => t.sdoRespond 0x60 (sdoField frame 1 2) (sdoField frame 3 1) [] := if_pos hexp

theorem sdoBegin_segmented (hseg : natBit (sdoField frame 0 1) 1 = false) :
    s.sdoBegin frame w = State.sdoRespond { s.dropTransfer with host := { s.dropTransfer.host with
      sdo := some ⟨true, sdoField frame 1 2, sdoField frame 3 1, [], s.now⟩ } } 0x60 (sdoField frame 1 2)
        (sdoField frame 3 1) [] := if_neg (by simp [hseg])

theorem sdoApply_eq {index sub : Nat} {data : List Byte} {ok : State → State} {r : Status × State}
    (hwrite : s.writeObj .can index sub data w = r) : s.sdoApply index sub data w ok =
      if r.1 = .ok then ok (r.2.respond r.1)
      else (r.2.respond r.1).sdoAbort index sub (abortCode true index sub data.length r.1) := by
  subst hwrite
  rfl

/-! ### Segments (R355, R368) -/

section Segment

variable {k : Nat}

theorem sdoNext_none (hsdo : s.host.sdo = none) : s.sdoNext frame w = s.sdoAbort 0 0 0x08000000 := by
  simp only [State.sdoNext, hsdo]

theorem sdoMore_none (hsdo : s.host.sdo = none) : s.sdoMore k = s.sdoAbort 0 0 0x08000000 := by
  simp only [State.sdoMore, hsdo]

variable {x : SdoTransfer} (hsdo : s.host.sdo = some x)
include hsdo

theorem sdoNext_ofUpload (hread : x.write = false) : s.sdoNext frame w = s.sdoAbort x.index x.sub 0x08000000 := by
  simp only [State.sdoNext, hsdo]
  exact if_pos (by simp [hread])

theorem sdoMore_ofDownload (hwrite : x.write = true) : s.sdoMore k = s.sdoAbort x.index x.sub 0x08000000 := by
  simp only [State.sdoMore, hsdo]
  exact if_pos hwrite

theorem sdoNext_segment (hwrite : x.write = true) (hmore : natBit (sdoField frame 0 1) 0 = false) :
    s.sdoNext frame w = State.sdoSegment { s with host := { s.host with
      sdo := some { x with data := x.data ++ (frame.drop 1).take (7 - bitField (sdoField frame 0 1) 1 3), lastAt := s.now } } }
      (0x20 + bitField (sdoField frame 0 1) 4 1 * 16) [] := by
  simp only [State.sdoNext, hsdo]
  rw [if_neg (by simp [hwrite]), if_neg (by simp [hmore])]

theorem sdoNext_last (hwrite : x.write = true) (hlast : natBit (sdoField frame 0 1) 0 = true) :
    s.sdoNext frame w = State.sdoApply { s with host := { s.host with sdo := none } } x.index x.sub
      (x.data ++ (frame.drop 1).take (7 - bitField (sdoField frame 0 1) 1 3)) w
      fun t => t.sdoSegment (0x20 + bitField (sdoField frame 0 1) 4 1 * 16) [] := by
  simp only [State.sdoNext, hsdo]
  rw [if_neg (by simp [hwrite]), if_pos hlast]

theorem sdoMore_last (hread : x.write = false) (hlen : x.data.length ≤ 7) :
    s.sdoMore k = State.sdoSegment { s with host := { s.host with sdo := none } } (k * 16 + 2 * (7 - x.data.length) + 1)
      x.data := by
  simp only [State.sdoMore, hsdo]
  rw [if_neg (by simp [hread]), if_pos hlen, List.take_of_length_le hlen]

theorem sdoMore_segment (hread : x.write = false) (hlen : 7 < x.data.length) :
    s.sdoMore k = State.sdoSegment { s with host := { s.host with sdo := some { x with data := x.data.drop 7, lastAt := s.now } } }
      (k * 16) (x.data.take 7) := by
  simp only [State.sdoMore, hsdo]
  rw [if_neg (by simp [hread]), if_neg (Nat.not_le.mpr hlen)]

/-! ### SDO_SEGMENT_TIMEOUT (R367, R368) -/

theorem sdoSegmentTimeout_late (hlate : x.lastAt + 1000000000 ≤ s.now) :
    exec .sdoSegmentTimeout s = .next (s.sdoAbort x.index x.sub 0x05040000) := by
  simp only [exec_sdoSegmentTimeout, execSdoSegmentTimeout, hsdo, if_pos hlate]

theorem sdoSegmentTimeout_inTime (hearly : s.now < x.lastAt + 1000000000) : exec .sdoSegmentTimeout s = .next s := by
  simp only [exec_sdoSegmentTimeout, execSdoSegmentTimeout, hsdo, if_neg (Nat.not_le.mpr hearly)]

end Segment

theorem sdoSegmentTimeout_none (hsdo : s.host.sdo = none) : exec .sdoSegmentTimeout s = .next s := by
  simp only [exec_sdoSegmentTimeout, execSdoSegmentTimeout, hsdo]

/-! ### Uploads (R355, R368) -/

section Read

variable {index sub : Nat} {r : Status × List Byte × State} (hread : s.dropTransfer.readAny .can 0 index sub = r)
include hread

theorem sdoRead_fails (hfail : r.1 ≠ .ok) :
    s.sdoRead index sub = (r.2.2.respond r.1 r.2.1).sdoAbort index sub (abortCode false index sub 0 r.1) := by
  subst hread
  exact if_pos hfail

theorem sdoRead_short (hok : r.1 = .ok) (hlen : r.2.1.length ≤ 4) :
    s.sdoRead index sub = (r.2.2.respond r.1 r.2.1).sdoRespond (0x43 + 4 * (4 - r.2.1.length)) index sub r.2.1 := by
  subst hread
  exact (if_neg (not_not.mpr hok)).trans (if_pos hlen)

theorem sdoRead_long (hok : r.1 = .ok) (hlen : 4 < r.2.1.length) :
    s.sdoRead index sub = State.sdoRespond { r.2.2.respond r.1 r.2.1 with host := { r.2.2.host with
      sdo := some ⟨false, index, sub, r.2.1, s.now⟩ } } 0x41 index sub (leBytes 4 r.2.1.length) := by
  subst hread
  exact (if_neg (not_not.mpr hok)).trans (if_neg (Nat.not_le.mpr hlen))

end Read

end Sdo

/-! ### RPDO1_RECEIVE and RPDO2_RECEIVE (R90, R321, R369) -/

section RpdoReceive

variable {data : List Byte}

theorem rpdo1Receive_off (h : s.reg Reg.NMT_STATE ≠ 5 ∨ natBit (s.held (Reg.RPDO_COB 0)) 31 = true) :
    exec (.rpdo1Receive data) s = .next s := by
  rw [exec_rpdo1Receive, State.rpdo1, rpdo_off h]

theorem rpdo2Receive_off (h : s.reg Reg.NMT_STATE ≠ 5 ∨ natBit (s.held (Reg.RPDO_COB 1)) 31 = true) :
    exec (.rpdo2Receive data) s = .next s := by
  rw [exec_rpdo2Receive, State.rpdo2, rpdo_off h]

variable (htakes : s.takesCan = true) (hop : s.reg Reg.NMT_STATE = 5)
include htakes hop

section First

variable (hvalid : natBit (s.held (Reg.RPDO_COB 0)) 31 = false)
include hvalid

theorem rpdo1Receive_short (hlen : data.length < 8) :
    exec (.rpdo1Receive data) s = .next ((s.bump Reg.CAN_RX).bump Reg.PDO_LEN_ERR) := by
  rw [exec_rpdo1Receive, State.rpdo1, rpdo_short hop hvalid htakes hlen]

variable (hlen : 8 ≤ data.length)
include hlen

theorem rpdo1Receive_other (hmaster : (s.bump Reg.CAN_RX).isMaster = false) :
    exec (.rpdo1Receive data) s = .next (s.bump Reg.CAN_RX) := by
  rw [exec_rpdo1Receive, State.rpdo1, rpdo_whole hop hvalid htakes hlen, if_pos (by simp [hmaster])]

variable (hmaster : (s.bump Reg.CAN_RX).isMaster = true)
include hmaster

theorem rpdo1Receive_pushes
    (hok : ((s.bump Reg.CAN_RX).push .saddle 0 ((s.bump Reg.CAN_RX).gaitCommand data)).resp.status = .ok) :
    exec (.rpdo1Receive data) s = .next ((s.bump Reg.CAN_RX).push .saddle 0 ((s.bump Reg.CAN_RX).gaitCommand data)) := by
  rw [exec_rpdo1Receive, State.rpdo1, rpdo_whole hop hvalid htakes hlen, if_neg (by simp [hmaster])]
  exact congrArg _ (if_pos hok)

theorem rpdo1Receive_reports
    (hfail : ((s.bump Reg.CAN_RX).push .saddle 0 ((s.bump Reg.CAN_RX).gaitCommand data)).resp.status ≠ .ok) :
    exec (.rpdo1Receive data) s =
      .next (State.gaitRefused ((s.bump Reg.CAN_RX).push .saddle 0 ((s.bump Reg.CAN_RX).gaitCommand data))
        ((s.bump Reg.CAN_RX).push .saddle 0 ((s.bump Reg.CAN_RX).gaitCommand data)).resp.status) := by
  rw [exec_rpdo1Receive, State.rpdo1, rpdo_whole hop hvalid htakes hlen, if_neg (by simp [hmaster])]
  exact congrArg _ (if_neg hfail)

end First

section Second

variable (hvalid : natBit (s.held (Reg.RPDO_COB 1)) 31 = false)
include hvalid

theorem rpdo2Receive_short (hlen : data.length < 8) :
    exec (.rpdo2Receive data) s = .next ((s.bump Reg.CAN_RX).bump Reg.PDO_LEN_ERR) := by
  rw [exec_rpdo2Receive, State.rpdo2, rpdo_short hop hvalid htakes hlen]

/-- One port's Rein override as a byte of RPDO2 gives it (R321). -/
def overridePort (data : List Byte) (u : State) (p : Nat) : State :=
  if leNat ((data.drop p).take 1) = 0xFF then u
  else match u.accessStatus .can true (0x2710 + p) 6 with
    | .ok => (u.overrideRein p (leNat ((data.drop p).take 1))).2
    | _ => u

theorem rpdo2Receive_overrides (hlen : 8 ≤ data.length) :
    exec (.rpdo2Receive data) s = .next ((List.range 6).foldl (overridePort data) (s.bump Reg.CAN_RX)) := by
  rw [exec_rpdo2Receive, State.rpdo2, rpdo_whole hop hvalid htakes hlen]
  rfl

end Second

end RpdoReceive

/-! ### TPDO_EVENT_TIMER and HEARTBEAT_TIMER (R367, R369) -/

section Timers

variable {i : Fin 4}

theorem tpdoEventTimer_sends (htakes : s.takesCan = true) (hop : s.reg Reg.NMT_STATE = 5)
    (hvalid : s.tpdoInvalid i.val = false) (hdue : s.tpdoDue i.val = true) : exec (.tpdoEventTimer i) s = .next (
      let t := s.canSend (s.held (Reg.TPDO_COB i.val) % 2048) (s.tpdoData i.val)
      { t with
        host := { t.host with
          tpdoAt := Assoc.set i.val s.now t.host.tpdoAt,
          tpdoFrom := Assoc.set i.val s.now t.host.tpdoFrom,
          tpdoWant := t.host.tpdoWant.filter (· ≠ i.val + 1) } }) :=
  if_neg (by simp [htakes, hop, hvalid, hdue])

theorem tpdoEventTimer_waits (h : s.takesCan = false ∨ s.reg Reg.NMT_STATE ≠ 5 ∨ s.tpdoInvalid i.val = true ∨
    s.tpdoDue i.val = false) : exec (.tpdoEventTimer i) s = .next s :=
  if_pos (by simpa using h)

theorem heartbeatTimer_sends (htakes : s.takesCan = true) (hms : s.reg Reg.HEARTBEAT_MS ≠ 0)
    (hdue : s.host.heartbeatAt + s.reg Reg.HEARTBEAT_MS * 1000000 ≤ s.now) : exec .heartbeatTimer s =
      .next (State.canSend { s with host := { s.host with heartbeatAt := s.now } } (0x700 + s.reg Reg.NODE_ID)
        (leBytes 1 (s.reg Reg.NMT_STATE))) :=
  if_neg (by simp [htakes, hms, hdue])

theorem heartbeatTimer_waits (h : s.takesCan = false ∨ s.reg Reg.HEARTBEAT_MS = 0 ∨
    s.now < s.host.heartbeatAt + s.reg Reg.HEARTBEAT_MS * 1000000) : exec .heartbeatTimer s = .next s :=
  if_pos (by simpa using h)

end Timers

/-! ### BUSOFF_RECOVERY (R367, R370) -/

theorem busoffRecovery_recovers (hoff : s.reg Reg.CAN_STATE = 2) (hrecover : s.reg Reg.BUSOFF_RECOVER ≠ 0) :
    exec .busoffRecovery s = .next (
      let s1 := s.setReg Reg.CAN_STATE 0
      let s2 : State := { s1 with host := { s1.host with emcyWait := [] } }
      let s3 := if s.reg Reg.NMT_STATE = 4 then s2 else s.host.emcyWait.foldl (fun u m => u.canSend m.1 m.2) s2
      (s3.logFault { cls := .other, source := some 7 }).emcy 0x8140 .ok 7 0) :=
  if_neg (by simp [hoff, hrecover])

theorem busoffRecovery_none (h : s.reg Reg.CAN_STATE ≠ 2 ∨ s.reg Reg.BUSOFF_RECOVER = 0) :
    exec .busoffRecovery s = .next s := if_pos h

/-- Settles O23: the CANopen node, frame by frame and timer by timer. -/
theorem canOpenNode : Obligations.CanOpenNode :=
  ⟨fun _ _ _ => canRow_held, fun _ _ _ => canRow_lost,
    fun _ _ => nmtStart_begins, fun _ _ => nmtStart_again, fun _ _ => nmtStop_stops,
    fun _ _ => nmtEnterPreoperational_enters, fun _ _ => nmtResetNode_boots, fun _ _ => nmtResetCommunication_boots,
    fun _ _ _ => nmtNode_other,
    fun _ => ⟨nmtState_bootCan, fun ⟨hbus, hon, hawake⟩ => out_bootCan hbus hon hawake⟩,
    fun _ _ _ => sdoDownload_begins, fun _ _ _ => sdoDownload_goesOn, fun _ _ _ => sdoDownload_givesUp,
    fun _ _ _ => sdoDownload_ignored,
    fun _ _ => sdoUpload_begins, fun _ _ => sdoUpload_goesOn, fun _ _ => sdoUpload_ignored,
    fun _ _ _ => sdoBegin_expedited, fun _ _ _ => sdoBegin_segmented,
    fun _ _ _ hsdo => ⟨sdoNext_none hsdo, sdoMore_none hsdo, sdoMore_none hsdo⟩,
    fun _ _ _ _ hsdo => ⟨sdoNext_ofUpload hsdo, fun hwrite _ => sdoMore_ofDownload hsdo hwrite⟩,
    fun _ _ _ _ => sdoNext_segment, fun _ _ _ _ => sdoNext_last,
    fun _ _ _ _ _ _ _ => sdoApply_eq,
    fun _ _ _ _ => sdoRead_fails, fun _ _ _ _ => sdoRead_short, fun _ _ _ _ => sdoRead_long,
    fun _ _ _ => sdoMore_last, fun _ _ _ => sdoMore_segment,
    fun _ _ => sdoSegmentTimeout_late, fun _ _ => sdoSegmentTimeout_inTime, fun _ => sdoSegmentTimeout_none,
    fun _ _ => rpdo1Receive_pushes, fun _ _ => rpdo1Receive_reports, fun _ _ => rpdo1Receive_other,
    fun _ _ => rpdo1Receive_short, fun _ _ => rpdo1Receive_off,
    fun _ _ => rpdo2Receive_overrides, fun _ _ => rpdo2Receive_short, fun _ _ => rpdo2Receive_off,
    fun _ _ => tpdoEventTimer_sends, fun _ _ => tpdoEventTimer_waits,
    fun _ => heartbeatTimer_sends, fun _ => heartbeatTimer_waits,
    fun _ => busoffRecovery_recovers, fun _ => busoffRecovery_none⟩

end Sys2Proof.CanOpenProofs
end

section
/-!
PROOFS. A step of the machine: it runs the command at the front or lets a cycle pass, and it always answers a next state; the fault log's
ring (R460).
-/
namespace Sys2Proof.MachineProofs
open Sys2Proof Sys2Proof.Machine

variable {s : State}

/-! ### A map without a key -/

theorem get?_erase {β : Type} (k i : Nat) (l : Assoc β) :
    Assoc.get? i (Assoc.erase k l) = if i = k then none else Assoc.get? i l := by
  induction l with
  | nil => exact (ite_self _).symm
  | cons e l ih =>
    rw [Assoc.erase] at ih ⊢
    by_cases hkey : e.1 = k
    · rw [List.filter_cons_of_neg (by simpa using hkey), ih, Assoc.get?]
      split
      case isTrue => rfl
      case isFalse hother => rw [if_neg fun h => hother (h.symm.trans hkey)]
    · rw [List.filter_cons_of_pos (by simpa using hkey), Assoc.get?, Assoc.get?, ih]
      split
      case isTrue hsame => rw [if_neg fun h => hkey (hsame.trans h)]
      case isFalse => rfl

/-! ### What waits at an Ethernet port's transmitter (R310) -/

/-- The messages that wait at a port whose transmitter is held no more. -/
def releasable (s : State) (k : Nat) : List OutMsg :=
  if (Assoc.getD s.intake k {}).txUntil ≤ s.now then Assoc.getD s.txHeld k [] else []

/-- A release sends what waits, in its order, and changes nothing else. -/
theorem releaseTx_eq (k : Nat) : ∃ h, s.releaseTx k = { s with out := s.out ++ releasable s k, txHeld := h } ∧
    ∀ i, Assoc.get? i h =
      if i = k ∧ (Assoc.getD s.intake k {}).txUntil ≤ s.now then none else Assoc.get? i s.txHeld := by
  rw [State.releaseTx, releasable, Assoc.getD.eq_def s.txHeld]
  cases hheld : Assoc.get? k s.txHeld with
  | none =>
    refine ⟨s.txHeld, by simp, fun i => ?_⟩
    split
    case isTrue h => rw [h.1, hheld]
    case isFalse => rfl
  | some l =>
    by_cases hfree : (Assoc.getD s.intake k {}).txUntil ≤ s.now
    · simp only [hfree, if_true, and_true]
      exact ⟨Assoc.erase k s.txHeld, rfl, fun i => get?_erase k i s.txHeld⟩
    · simp only [hfree, if_false, and_false, List.append_nil]
      exact ⟨s.txHeld, rfl, fun _ => rfl⟩

/-! ### The idle cycle (R20, R374, R382) -/

/-- The clocks of a cycle moved on, before the ports send what waited. -/
def ticked (s : State) : State :=
  { s with now := s.now + 10, clock := if s.timersFrozen then s.clock else s.clock + 10 }

theorem idle_eq_release : s.idle = ((ticked s).releaseTx 4).releaseTx 5 := by
  rw [State.idle, ticked]
  cases s.timersFrozen <;> rfl

/-- An idle cycle moves the clocks and sends what waits at the two Ethernet ports. -/
theorem idle_eq : ∃ h, s.idle = { ticked s with out := s.out ++ releasable (ticked s) 4 ++ releasable (ticked s) 5, txHeld := h } ∧
    ∀ k, Assoc.get? k h =
      if (k = 4 ∨ k = 5) ∧ (Assoc.getD s.intake k {}).txUntil ≤ s.now + 10 then none else Assoc.get? k s.txHeld := by
  obtain ⟨h4, heq4, hget4⟩ := releaseTx_eq (s := ticked s) 4
  obtain ⟨h5, heq5, hget5⟩ := releaseTx_eq (s := (ticked s).releaseTx 4) 5
  have hintake : ((ticked s).releaseTx 4).intake = s.intake := by rw [heq4]; rfl
  have hnow : ((ticked s).releaseTx 4).now = (ticked s).now := by rw [heq4]
  have hheld : Assoc.get? 5 ((ticked s).releaseTx 4).txHeld = Assoc.get? 5 s.txHeld := by rw [heq4]; exact hget4 5
  have hfive : releasable ((ticked s).releaseTx 4) 5 = releasable (ticked s) 5 := by
    rw [releasable, releasable, Assoc.getD.eq_def ((ticked s).releaseTx 4).txHeld, hheld, hintake, hnow]
    rfl
  refine ⟨h5, ?_, fun k => ?_⟩
  · rw [idle_eq_release, heq5, hfive, heq4]
    rfl
  · rw [hget5, heq4]
    change (if k = 5 ∧ (Assoc.getD s.intake 5 {}).txUntil ≤ s.now + 10 then none else Assoc.get? k h4) = _
    rw [hget4]
    change (if k = 5 ∧ (Assoc.getD s.intake 5 {}).txUntil ≤ s.now + 10 then none
      else if k = 4 ∧ (Assoc.getD s.intake 4 {}).txUntil ≤ s.now + 10 then none else Assoc.get? k s.txHeld) = _
    by_cases hk4 : k = 4
    · subst hk4; simp
    · by_cases hk5 : k = 5
      · subst hk5; simp
      · simp [hk4, hk5]

/-! ### A step -/

theorem step_cons {c : Instr} {l : List Instr} (hfront : s.pending = c :: l) : step s = exec c { s with pending := l } := by
  rw [step, hfront]

theorem step_nil (hnone : s.pending = []) : step s = .next s.idle := by
  rw [step, hnone]

/-- Settles O36: the front command runs, and an empty queue lets a cycle pass. -/
theorem stepRunsTheFront : Obligations.StepRunsTheFront := by
  refine ⟨fun _ _ _ => step_cons, fun _ _ => rfl, fun s hnone => ⟨step_nil hnone, ?_⟩, fun s => ?_, fun s k => ?_⟩ <;>
    obtain ⟨h, heq, hget⟩ := idle_eq (s := s)
  · rw [heq]
    exact ⟨rfl, rfl, rfl⟩
  · rw [heq]
    rfl
  · rw [heq]
    exact hget k

/-- A command that every device performs waits, performs it, or tells that it did not (R210). -/
theorem perform_answers (op : Opcode) (f : Entry → State → Performed) (p : Performer) : ∃ t, s.perform op f p = .next t := by
  fun_cases State.perform <;> exact ⟨_, rfl⟩

/-- Every command answers a next state: those that ask for nothing at once, each other one at every leaf of its meaning. -/
theorem exec_answers (c : Instr) (s : State) : ∃ t, exec c s = .next t := by
  cases c
  -- Queues
  case staleTail => rw [exec]; fun_cases execStaleTail <;> exact ⟨_, rfl⟩
  -- Hitches
  case hitchOpApply => rw [exec]; fun_cases execHitchOpApply <;> exact ⟨_, rfl⟩
  case hitchSubscribe => rw [exec]; fun_cases execHitchSubscribe <;> exact ⟨_, rfl⟩
  case hitchUpdate => rw [exec]; fun_cases execHitchUpdate <;> exact ⟨_, rfl⟩
  -- Gather
  case preReport => rw [exec]; fun_cases execPreReport <;> exact ⟨_, rfl⟩
  case postReport => rw [exec]; fun_cases execPostReport <;> exact ⟨_, rfl⟩
  case traceGroomVisit => rw [exec]; fun_cases execTraceGroomVisit <;> exact ⟨_, rfl⟩
  -- Far
  case fetchLineArrive => rw [exec]; fun_cases execFetchLineArrive <;> exact ⟨_, rfl⟩
  case hintIssue => rw [exec]; fun_cases execHintIssue <;> exact ⟨_, rfl⟩
  -- Rows
  case deliveryBegin => rw [exec]; fun_cases execDeliveryBegin <;> exact ⟨_, rfl⟩
  case eventExpand => rw [exec]; fun_cases execEventExpand <;> exact ⟨_, rfl⟩
  case deliveryEnd => rw [exec]; fun_cases execDeliveryEnd <;> exact ⟨_, rfl⟩
  case tileAccept => rw [exec]; fun_cases execTileAccept <;> exact ⟨_, rfl⟩
  case serviceEventAccept => rw [exec]; fun_cases execServiceEventAccept <;> exact ⟨_, rfl⟩
  case spillBufferDrain => rw [exec]; fun_cases execSpillBufferDrain <;> exact ⟨_, rfl⟩
  case spillReadback => rw [exec]; fun_cases execSpillReadback <;> exact ⟨_, rfl⟩
  case carryDrop => rw [exec]; fun_cases execCarryDrop <;> exact ⟨_, rfl⟩
  -- Bulk
  case schedVersionSwitch => rw [exec]; fun_cases execSchedVersionSwitch <;> exact ⟨_, rfl⟩
  case bulkSlotMove => rw [exec]; fun_cases execBulkSlotMove <;> exact ⟨_, rfl⟩
  -- Update
  case updatePhase => rw [exec]; fun_cases execUpdatePhase <;> exact ⟨_, rfl⟩
  case destListRead => rw [exec]; fun_cases execDestListRead <;> exact ⟨_, rfl⟩
  case holdbackRelease => rw [exec]; fun_cases execHoldbackRelease <;> exact ⟨_, rfl⟩
  -- Network
  case creditReturn => rw [exec]; fun_cases execCreditReturn <;> exact ⟨_, rfl⟩
  case multicastRequest => rw [exec]; fun_cases execMulticastRequest <;> exact ⟨_, rfl⟩
  case multicastExpand => rw [exec]; fun_cases execMulticastExpand <;> exact ⟨_, rfl⟩
  case gatewayTransit => rw [exec]; fun_cases execGatewayTransit <;> exact ⟨_, rfl⟩
  case sequencerInject => rw [exec]; fun_cases execSequencerInject <;> exact ⟨_, rfl⟩
  case remoteFarArrival => rw [exec]; fun_cases execRemoteFarArrival <;> exact ⟨_, rfl⟩
  case remoteHoldbackRelease => rw [exec]; fun_cases execRemoteHoldbackRelease <;> exact ⟨_, rfl⟩
  -- Steps
  case stepRelease => rw [exec]; fun_cases execStepRelease <;> exact ⟨_, rfl⟩
  case stepTimerNominal => rw [exec]; fun_cases execStepTimerNominal <;> exact ⟨_, rfl⟩
  case releaseBroadcastReceive => rw [exec]; fun_cases execReleaseBroadcastReceive <;> exact ⟨_, rfl⟩
  case syncReductionRound => rw [exec]; fun_cases execSyncReductionRound <;> exact ⟨_, rfl⟩
  case completeBroadcastReceive => rw [exec]; fun_cases execCompleteBroadcastReceive <;> exact ⟨_, rfl⟩
  case streamWindowClose => rw [exec]; fun_cases execStreamWindowClose <;> exact ⟨_, rfl⟩
  -- Plasticity
  case epochEnd => rw [exec]; fun_cases execEpochEnd <;> exact ⟨_, rfl⟩
  case capture => rw [exec]; fun_cases execCapture <;> exact ⟨_, rfl⟩
  case sweepRow => rw [exec]; fun_cases execSweepRow <;> exact ⟨_, rfl⟩
  case sweepEnd => rw [exec]; fun_cases execSweepEnd <;> exact ⟨_, rfl⟩
  case journalDrain => rw [exec]; fun_cases execJournalDrain <;> exact ⟨_, rfl⟩
  case consolidationBegin => rw [exec]; fun_cases execConsolidationBegin <;> exact ⟨_, rfl⟩
  case consolidationEnd => rw [exec]; fun_cases execConsolidationEnd <;> exact ⟨_, rfl⟩
  case stablePageRemap => rw [exec]; fun_cases execStablePageRemap <;> exact ⟨_, rfl⟩
  case w8pRecover => rw [exec]; fun_cases execW8pRecover <;> exact ⟨_, rfl⟩
  -- Memories
  case addressAccess => rw [exec]; fun_cases execAddressAccess <;> exact ⟨_, rfl⟩
  case neuronWordWrite => rw [exec, execNeuronWordWrite]; split <;> exact ⟨_, rfl⟩
  case rowTableWrite => rw [exec]; fun_cases execRowTableWrite <;> exact ⟨_, rfl⟩
  case patrolScrub => rw [exec]; fun_cases execPatrolScrub <;> exact ⟨_, rfl⟩
  -- Engines
  case step => rw [exec]; fun_cases execStep <;> exact ⟨_, rfl⟩
  case gait => rw [exec]; fun_cases execGait <;> exact ⟨_, rfl⟩
  case learnEpoch => rw [exec]; fun_cases execLearnEpoch <;> exact ⟨_, rfl⟩
  case frcInvalidate => rw [exec]; fun_cases execFrcInvalidate <;> exact ⟨_, rfl⟩
  case commandStart => rw [exec]; fun_cases execCommandStart <;> exact ⟨_, rfl⟩
  case heldRecordWrite => rw [exec]; fun_cases execHeldRecordWrite <;> exact ⟨_, rfl⟩
  case doorbellRead => rw [exec]; fun_cases execDoorbellRead <;> exact ⟨_, rfl⟩
  case seqException => rw [exec]; fun_cases execSeqException <;> exact ⟨_, rfl⟩
  -- Dense
  case denseGemm => rw [exec]; fun_cases execDenseGemm <;> exact ⟨_, rfl⟩
  case denseConv => rw [exec]; fun_cases execDenseConv <;> exact ⟨_, rfl⟩
  -- Mover
  case move => rw [exec]; fun_cases execMove <;> exact ⟨_, rfl⟩
  case fill => rw [exec]; fun_cases execFill <;> exact ⟨_, rfl⟩
  case groupDef => rw [exec]; fun_cases execGroupDef <;> exact ⟨_, rfl⟩
  case groupClear => rw [exec]; fun_cases execGroupClear <;> exact ⟨_, rfl⟩
  case tilestat => rw [exec]; fun_cases execTilestat <;> exact ⟨_, rfl⟩
  -- Crypto
  case gcmSeal => rw [exec]; fun_cases execGcmSeal <;> exact ⟨_, rfl⟩
  case gcmOpen => rw [exec]; fun_cases execGcmOpen <;> exact ⟨_, rfl⟩
  case sha384 => rw [exec]; fun_cases execSha384 <;> exact ⟨_, rfl⟩
  case ecdsaSign => rw [exec]; fun_cases execEcdsaSign <;> exact ⟨_, rfl⟩
  case ecdsaVerify => rw [exec]; fun_cases execEcdsaVerify <;> exact ⟨_, rfl⟩
  case xtsKeyset => rw [exec]; fun_cases execXtsKeyset <;> exact ⟨_, rfl⟩
  -- Harness
  case harnessLoad => rw [exec]; fun_cases execHarnessLoad <;> exact ⟨_, rfl⟩
  -- Intake
  case mapLoad => rw [exec]; fun_cases execMapLoad <;> exact ⟨_, rfl⟩
  case arm => rw [exec]; fun_cases execArm <;> exact ⟨_, rfl⟩
  case disarm => rw [exec]; fun_cases execDisarm <;> exact ⟨_, rfl⟩
  case csi2PacketReceive => rw [exec]; fun_cases execCsi2PacketReceive <;> exact ⟨_, rfl⟩
  case ethFrameReceive => rw [exec]; fun_cases execEthFrameReceive <;> exact ⟨_, rfl⟩
  case intakeInject => rw [exec]; fun_cases execIntakeInject <;> exact ⟨_, rfl⟩
  case reinRelease => rw [exec]; fun_cases execReinRelease <;> exact ⟨_, rfl⟩
  case pauseRepeat => rw [exec]; fun_cases execPauseRepeat <;> exact ⟨_, rfl⟩
  -- Unload
  case harnessUnload => rw [exec]; fun_cases execHarnessUnload <;> exact ⟨_, rfl⟩
  -- Links
  case trainingStateAdvance => rw [exec]; fun_cases execTrainingStateAdvance <;> exact ⟨_, rfl⟩
  case trainingTimeout => rw [exec]; fun_cases execTrainingTimeout <;> exact ⟨_, rfl⟩
  case linkRetryTimer => rw [exec]; fun_cases execLinkRetryTimer <;> exact ⟨_, rfl⟩
  case ackTimer => rw [exec]; fun_cases execAckTimer <;> exact ⟨_, rfl⟩
  case nakReceive => rw [exec]; fun_cases execNakReceive <;> exact ⟨_, rfl⟩
  case replayTimeout => rw [exec]; fun_cases execReplayTimeout <;> exact ⟨_, rfl⟩
  case flitTransmit => rw [exec]; fun_cases execFlitTransmit <;> exact ⟨_, rfl⟩
  case stuckLinkReport => rw [exec]; fun_cases execStuckLinkReport <;> exact ⟨_, rfl⟩
  case laneFault => rw [exec]; fun_cases execLaneFault <;> exact ⟨_, rfl⟩
  case linkLoss => rw [exec]; fun_cases execLinkLoss <;> exact ⟨_, rfl⟩
  case linkReconcile => rw [exec]; fun_cases execLinkReconcile <;> exact ⟨_, rfl⟩
  case reduceRecordSend => rw [exec]; fun_cases execReduceRecordSend <;> exact ⟨_, rfl⟩
  case broadcastReceive => rw [exec]; fun_cases execBroadcastReceive <;> exact ⟨_, rfl⟩
  case parkReceive => rw [exec]; fun_cases execParkReceive <;> exact ⟨_, rfl⟩
  case parkedLinkWake => rw [exec]; fun_cases execParkedLinkWake <;> exact ⟨_, rfl⟩
  case parkAllowanceExpiry => rw [exec]; fun_cases execParkAllowanceExpiry <;> exact ⟨_, rfl⟩
  -- Timers
  case capRead => rw [exec]; fun_cases execCapRead <;> exact ⟨_, rfl⟩
  case gtMatch => rw [exec]; fun_cases execGtMatch <;> exact ⟨_, rfl⟩
  case gtWrap => rw [exec]; fun_cases execGtWrap <;> exact ⟨_, rfl⟩
  case captureShadowLand => rw [exec]; fun_cases execCaptureShadowLand <;> exact ⟨_, rfl⟩
  case sleepMakeup => rw [exec]; fun_cases execSleepMakeup <;> exact ⟨_, rfl⟩
  case gtTick => rw [exec]; fun_cases execGtTick <;> exact ⟨_, rfl⟩
  -- Power
  case spurDetect => rw [exec]; fun_cases execSpurDetect <;> exact ⟨_, rfl⟩
  case timerWake => rw [exec]; fun_cases execTimerWake <;> exact ⟨_, rfl⟩
  case feedPresent => rw [exec]; fun_cases execFeedPresent <;> exact ⟨_, rfl⟩
  case feedOvervoltage => rw [exec]; fun_cases execFeedOvervoltage <;> exact ⟨_, rfl⟩
  case holdupCheck => rw [exec]; fun_cases execHoldupCheck <;> exact ⟨_, rfl⟩
  case braceEntry => rw [exec]; fun_cases execBraceEntry <;> exact ⟨_, rfl⟩
  case braceExit => rw [exec]; fun_cases execBraceExit <;> exact ⟨_, rfl⟩
  case lowInputEntry => rw [exec]; fun_cases execLowInputEntry <;> exact ⟨_, rfl⟩
  case lowInputExit => rw [exec]; fun_cases execLowInputExit <;> exact ⟨_, rfl⟩
  case powerFail => rw [exec]; fun_cases execPowerFail <;> exact ⟨_, rfl⟩
  case governorTick => rw [exec]; fun_cases execGovernorTick <;> exact ⟨_, rfl⟩
  case governorLower => rw [exec]; fun_cases execGovernorLower <;> exact ⟨_, rfl⟩
  case ddrBackgroundTrainDone => rw [exec]; fun_cases execDdrBackgroundTrainDone <;> exact ⟨_, rfl⟩
  case resetInputRelease => rw [exec]; fun_cases execResetInputRelease <;> exact ⟨_, rfl⟩
  case thermalShutdown => rw [exec]; fun_cases execThermalShutdown <;> exact ⟨_, rfl⟩
  case geoChange => rw [exec]; fun_cases execGeoChange <;> exact ⟨_, rfl⟩
  case vaonLimit => rw [exec]; fun_cases execVaonLimit <;> exact ⟨_, rfl⟩
  -- Htp
  case hello => rw [exec]; fun_cases execHello <;> exact ⟨_, rfl⟩
  case memWrite => rw [exec]; fun_cases execMemWrite <;> exact ⟨_, rfl⟩
  case memWriteTimeout => rw [exec]; fun_cases execMemWriteTimeout <;> exact ⟨_, rfl⟩
  case htpSessionTimeout => rw [exec]; fun_cases execHtpSessionTimeout <;> exact ⟨_, rfl⟩
  case usbBusReset => rw [exec]; fun_cases execUsbBusReset <;> exact ⟨_, rfl⟩
  case usbResume => rw [exec]; fun_cases execUsbResume <;> exact ⟨_, rfl⟩
  case vbusArrival => rw [exec]; fun_cases execVbusArrival <;> exact ⟨_, rfl⟩
  case ep0StandardRequest => rw [exec]; fun_cases execEp0StandardRequest <;> exact ⟨_, rfl⟩
  -- Security
  case lifecycleRestart => rw [exec]; fun_cases execLifecycleRestart <;> exact ⟨_, rfl⟩
  case ecallOpenHarness => rw [exec]; fun_cases execEcallOpenHarness <;> exact ⟨_, rfl⟩
  case ecallAttest => rw [exec]; fun_cases execEcallAttest <;> exact ⟨_, rfl⟩
  case ecallOwnerOp => rw [exec]; fun_cases execEcallOwnerOp <;> exact ⟨_, rfl⟩
  case ecallUnsealKey => rw [exec]; fun_cases execEcallUnsealKey <;> exact ⟨_, rfl⟩
  case ecallChallenge => rw [exec]; fun_cases execEcallChallenge <;> exact ⟨_, rfl⟩
  case tamperDetect => rw [exec]; fun_cases execTamperDetect <;> exact ⟨_, rfl⟩
  case tamperRecheck => rw [exec]; fun_cases execTamperRecheck <;> exact ⟨_, rfl⟩
  -- Bringup
  case bringupStage => rw [exec]; fun_cases execBringupStage <;> exact ⟨_, rfl⟩
  case bringupRetry => rw [exec]; fun_cases execBringupRetry <;> exact ⟨_, rfl⟩
  case coreAlarm => rw [exec]; fun_cases execCoreAlarm <;> exact ⟨_, rfl⟩
  case replanDue => rw [exec]; fun_cases execReplanDue <;> exact ⟨_, rfl⟩
  case replan => rw [exec]; fun_cases execReplan <;> exact ⟨_, rfl⟩
  case stableRefresh => rw [exec]; fun_cases execStableRefresh <;> exact ⟨_, rfl⟩
  -- Firmware
  case updBlock => rw [exec]; fun_cases execUpdBlock <;> exact ⟨_, rfl⟩
  case chainBlockReceive => rw [exec]; fun_cases execChainBlockReceive <;> exact ⟨_, rfl⟩
  case microcodeSwap => rw [exec]; fun_cases execMicrocodeSwap <;> exact ⟨_, rfl⟩
  case probationExpiry => rw [exec]; fun_cases execProbationExpiry <;> exact ⟨_, rfl⟩
  case deferredMicrocodeSwap => rw [exec]; fun_cases execDeferredMicrocodeSwap <;> exact ⟨_, rfl⟩
  case recoveryBoot => rw [exec]; fun_cases execRecoveryBoot <;> exact ⟨_, rfl⟩
  case ecallVerifyImage => rw [exec]; fun_cases execEcallVerifyImage <;> exact ⟨_, rfl⟩
  -- Faults
  case tileHang => rw [exec]; fun_cases execTileHang <;> exact ⟨_, rfl⟩
  case countSettleStart => rw [exec]; fun_cases execCountSettleStart <;> exact ⟨_, rfl⟩
  case settleHoldReply => rw [exec]; fun_cases execSettleHoldReply <;> exact ⟨_, rfl⟩
  case settle => rw [exec]; fun_cases execSettle <;> exact ⟨_, rfl⟩
  case settleTimeout => rw [exec]; fun_cases execSettleTimeout <;> exact ⟨_, rfl⟩
  case deviceLost => rw [exec]; fun_cases execDeviceLost <;> exact ⟨_, rfl⟩
  case saddleWatchdog => rw [exec]; fun_cases execSaddleWatchdog <;> exact ⟨_, rfl⟩
  case bridleCheck => rw [exec]; fun_cases execBridleCheck <;> exact ⟨_, rfl⟩
  case bridleWatchdog => rw [exec]; fun_cases execBridleWatchdog <;> exact ⟨_, rfl⟩
  -- HostWrites
  case rcRead => rw [exec]; fun_cases execRcRead <;> exact ⟨_, rfl⟩
  case remoteRead => rw [exec]; fun_cases execRemoteRead <;> exact ⟨_, rfl⟩
  case remoteWrite => rw [exec]; fun_cases execRemoteWrite <;> exact ⟨_, rfl⟩
  case remoteTimeout => rw [exec]; fun_cases execRemoteTimeout <;> exact ⟨_, rfl⟩
  -- CanOpen
  case handoverTimeout => rw [exec]; fun_cases execHandoverTimeout <;> exact ⟨_, rfl⟩
  case sdoSegmentTimeout => rw [exec]; fun_cases execSdoSegmentTimeout <;> exact ⟨_, rfl⟩
  case tpdoEventTimer => rw [exec]; fun_cases execTpdoEventTimer <;> exact ⟨_, rfl⟩
  case heartbeatTimer => rw [exec]; fun_cases execHeartbeatTimer <;> exact ⟨_, rfl⟩
  case busoffRecovery => rw [exec]; fun_cases execBusoffRecovery <;> exact ⟨_, rfl⟩
  case canBusError => rw [exec]; fun_cases execCanBusError <;> exact ⟨_, rfl⟩
  -- Flits
  case flitReceive => rw [exec]; fun_cases execFlitReceive <;> exact ⟨_, rfl⟩
  case checkpoint | restore | loadSegment => exact perform_answers _ _ _
  all_goals exact ⟨_, rfl⟩

/-- Settles O49: with a command at the front the answer is the command's, with none it is the idle cycle. -/
theorem everyStepAnswers : Obligations.EveryStepAnswers := by
  intro s
  cases hpending : s.pending with
  | nil => exact ⟨_, step_nil hpending⟩
  | cons c l => exact ⟨_, (step_cons hpending).trans (exec_answers c _).choose_spec⟩

/-! ### The fault log (R460) -/

section Log

variable {p : Peer} {n : FaultNote}

/-- Frames that leave touch nothing but what has left and what waits to. -/
theorem transmit_frame (l : List OutMsg) : ∃ o h, s.transmit p l = { s with out := o, txHeld := h } := by
  fun_cases State.transmit <;> exact ⟨_, _, rfl⟩

theorem foldl_transmit_frame (m : Session → List OutMsg) (l : List Session) (s : State) :
    ∃ o h, l.foldl (fun s x => s.transmit x.peer (m x)) s = { s with out := o, txHeld := h } := by
  induction l generalizing s with
  | nil => exact ⟨s.out, s.txHeld, rfl⟩
  | cons x l ih =>
    obtain ⟨o, h, heq⟩ := transmit_frame (s := s) (p := x.peer) (m x)
    rw [List.foldl_cons, heq]
    exact ih { s with out := o, txHeld := h }

theorem notify_frame (kind stamp : Nat) (data : List Byte) :
    ∃ o h, s.notify kind stamp data = { s with out := o, txHeld := h } :=
  foldl_transmit_frame _ _ s

/-- The entry that a note becomes in the log of a state. -/
def noteEntry (n : FaultNote) (s : State) : FaultEntry :=
  { seq := nextSeq s.flogSeq, sev := n.sev.getD (n.cls.severity n.status), status := n.status,
    source := n.source.getD n.cls.source, cls := n.cls, time := s.clock, step := s.reg Reg.STEP_RELEASED, unit := n.unit,
    sub := n.sub, ref := n.ref % 2 ^ 48 }

theorem logFault_appends (hroom : s.flog.length < 1024) : ∃ o h, s.logFault n =
    { s with flog := s.flog ++ [noteEntry n s], flogSeq := nextSeq s.flogSeq, out := o, txHeld := h } := by
  rw [State.logFault]
  simp only [if_pos hroom]
  exact notify_frame ..

theorem logFault_overwrites (hfull : s.flog.length = 1024) : ∃ o h, s.logFault n =
    { State.bump { s with flog := s.flog.drop 1 ++ [noteEntry n s], flogSeq := nextSeq s.flogSeq } Reg.FLOG_OVERWRITE with
      out := o, txHeld := h } := by
  rw [State.logFault]
  simp only [if_neg (Nat.not_lt.mpr hfull.ge)]
  exact notify_frame ..

end Log

/-- Settles O47: an entry is appended, or in a full ring takes the place of the oldest. -/
theorem faultLogRing : Obligations.FaultLogRing := by
  refine ⟨fun n s hroom => ⟨noteEntry n s, ?_⟩, fun n s hfull => ⟨noteEntry n s, ?_⟩, by decide⟩
  · obtain ⟨o, h, heq⟩ := logFault_appends (n := n) hroom
    rw [heq]
    exact ⟨rfl, rfl, rfl, rfl, rfl, rfl, rfl, rfl, rfl, rfl⟩
  · obtain ⟨o, h, heq⟩ := logFault_overwrites (n := n) hfull
    rw [heq]
    exact ⟨rfl, rfl, by simp [hfull], State.reg_bumpBy_same _ _ _, rfl⟩

end Sys2Proof.MachineProofs
end

section
/-!
PROOFS. Writes of single dictionary objects that may not be made (R356, R412, R438), and what RETRAIN and SPUR_SEND do with a link in
each of its states (R349, R352).
-/
namespace Sys2Proof.LinkControlProofs
open Sys2Proof Sys2Proof.Machine

variable {s : State} {path : Path}

/-! ### Writes that may not be made (R356) -/

section Denied

variable {index sub : Nat} {f : State → Status × State} {st : Status} {c : Instr}

theorem writeObject_denied (haccess : s.accessStatus path true index sub = st) (hst : st ≠ .ok) :
    s.writeObject path index sub f = s.respond st := by
  subst haccess
  rw [State.writeObject]
  split
  case h_1 hok => exact absurd hok hst
  case h_2 => rfl

theorem writeObject_allowed (haccess : s.accessStatus path true index sub = .ok) :
    s.writeObject path index sub f = (f s).2.respond (f s).1 := by
  rw [State.writeObject, haccess]

/-- A row that is a write of an object answers the status of the access, where the access may not be made. -/
theorem exec_of_writeObject_denied (hexec : exec c s = .next (s.writeObject path index sub f))
    (haccess : s.accessStatus path true index sub = st) (hst : st ≠ .ok) : exec c s = .next (s.respond st) := by
  rw [hexec, writeObject_denied haccess hst]

/-- The path and the owner locks are judged before the block that owns the object. -/
theorem accessStatus_eq {write : Bool} : s.accessStatus path write index sub =
    if pathMay path write index sub = false then .security
    else if write = true ∧ s.writeLocked index sub = true then .security
    else if path ≠ .sys ∧ s.ownerUp index = false then .refused
    else .ok := by
  simp only [State.accessStatus, Bool.not_eq_true', Bool.and_eq_true, bne_iff_ne]

end Denied

/-- Settles O56: every row of the list is a write of one object. -/
theorem dictionaryAccessDenied : Obligations.DictionaryAccessDenied :=
  ⟨fun _ _ _ _ => exec_of_writeObject_denied rfl, fun _ _ _ _ => exec_of_writeObject_denied rfl,
    fun _ _ _ _ _ => exec_of_writeObject_denied rfl, fun _ _ _ _ => exec_of_writeObject_denied rfl,
    fun _ _ _ _ => exec_of_writeObject_denied rfl, fun _ _ _ _ => exec_of_writeObject_denied rfl,
    fun _ _ _ _ => exec_of_writeObject_denied rfl, fun _ _ _ _ => exec_of_writeObject_denied rfl,
    fun _ _ _ _ _ => exec_of_writeObject_denied rfl, fun _ _ _ => exec_of_writeObject_denied rfl,
    fun _ _ _ => exec_of_writeObject_denied rfl, fun _ _ _ _ => exec_of_writeObject_denied rfl,
    fun _ _ _ => exec_of_writeObject_denied rfl, fun _ _ _ => exec_of_writeObject_denied rfl,
    fun _ _ _ => exec_of_writeObject_denied rfl, fun _ _ _ _ _ => exec_of_writeObject_denied rfl,
    fun _ _ _ _ _ => exec_of_writeObject_denied rfl, fun _ _ _ _ _ => exec_of_writeObject_denied rfl,
    fun _ _ _ _ => exec_of_writeObject_denied rfl, fun _ _ _ _ => exec_of_writeObject_denied rfl,
    fun _ _ _ _ => exec_of_writeObject_denied rfl, fun _ _ _ _ => exec_of_writeObject_denied rfl,
    fun _ _ _ _ => exec_of_writeObject_denied rfl, fun _ _ _ _ => exec_of_writeObject_denied rfl,
    fun _ _ _ _ _ => exec_of_writeObject_denied rfl, fun _ _ _ _ _ => accessStatus_eq⟩

/-! ### A link's record -/

theorem link_modLink (l : Nat) (f : Link → Link) : (s.modLink l f).link l = f (s.link l) := by
  rw [State.modLink, State.setLink, State.link, State.modTether_tether, Assoc.getD, Assoc.get?_set_same]
  rfl

theorem reg_modLink (l : Nat) (f : Link → Link) (o : Obj) : (s.modLink l f).reg o = s.reg o := rfl

theorem link_accrueHold (l : Nat) :
    (s.accrueHold l).link l = { s.link l with holdAt := if s.holding l then some s.now else none } := by
  rw [State.accrueHold, link_modLink]
  cases (s.link l).holdAt <;> rfl

/-! ### What begins and ends a link's training (R333, R350, R352) -/

section Training

variable (l : LinkId)

theorem linkState_ne_linksUp : (Reg.LINK_STATE l.val).key ≠ Reg.LINKS_UP.key := by
  revert l
  decide

theorem linkState_setLinkState (v : Nat) : (s.setLinkState l.val v).reg (Reg.LINK_STATE l.val) = v :=
  (State.reg_setReg_other _ (linkState_ne_linksUp l).symm _).trans (State.reg_setReg_same _ _ _)

theorem link_setLinkState (v : Nat) : (s.setLinkState l.val v).link l.val = s.link l.val := rfl

theorem linkState_beginTraining (fast fresh : Bool) :
    (s.beginTraining l.val fast fresh).reg (Reg.LINK_STATE l.val) = if fresh then 1 else 3 := by
  rw [State.beginTraining, reg_modLink, linkState_setLinkState]

theorem link_beginTraining (fast fresh : Bool) : (s.beginTraining l.val fast fresh).link l.val =
    { s.link l.val with
      holdAt := if s.holding l.val then some s.now else none, phase := .detect,
      fast := fast && decide ((s.link l.val).fails < 3), fresh := fresh, phaseFrom := s.now } := by
  rw [State.beginTraining, link_modLink, link_setLinkState, link_accrueHold]

theorem linkState_wakeLink : (s.wakeLink l.val).reg (Reg.LINK_STATE l.val) = 3 := by
  rw [State.wakeLink, reg_modLink, linkState_beginTraining]
  rfl

theorem link_wakeLink : (s.wakeLink l.val).link l.val =
    { s.link l.val with
      holdAt := if s.holding l.val then some s.now else none, phase := .detect, fast := true, fresh := false,
      phaseFrom := s.now, ts1At := some s.now, fails := 0 } := by
  rw [State.wakeLink, link_modLink, link_beginTraining]

/-- The objects of a link that hold 0 while it is DOWN, and its peer's that hold 0xFF. -/
theorem linkDown_objects : (s.linkDown l.val).reg (Reg.LINK_STATE l.val) = 0 ∧ (s.linkDown l.val).reg (Reg.WIDTH l.val) = 0 ∧
    (s.linkDown l.val).reg (Reg.LANES_USED l.val) = 0 ∧ (s.linkDown l.val).reg (Reg.TPV l.val) = 0 ∧
    (s.linkDown l.val).reg (Reg.PEER_DEV l.val) = 0xFF ∧ (s.linkDown l.val).reg (Reg.PEER_LINK l.val) = 0xFF := by
  simp only [State.linkDown, reg_modLink, State.reg_setReg, linkState_setLinkState]
  simp [Obj.key, ObjRow.obj, Row.WIDTH, Row.LANES_USED, Row.TPV, Row.PEER_DEV, Row.PEER_LINK, Row.LINK_STATE]

end Training

/-! ### RETRAIN by its value and the link's state (R352) -/

section Retrain

variable {l : Nat}

theorem retrain_fused (v : Nat) (hfused : s.reg (Reg.LINK_STATE l) = 4) : s.retrain l v = (.refused, s) := if_pos hfused

theorem retrain_fast_live (hlive : s.reg (Reg.LINK_STATE l) = 2 ∨ s.reg (Reg.LINK_STATE l) = 3) :
    s.retrain l 1 = (.ok, s.beginTraining l true false) := by
  rcases hlive with hup | hretrains
  · simp [State.retrain, hup]
  · simp [State.retrain, hretrains]

theorem retrain_fast_parked (hparked : s.reg (Reg.LINK_STATE l) = 7) : s.retrain l 1 = (.ok, s.wakeLink l) := by
  simp [State.retrain, hparked]

theorem retrain_full_live
    (hlive : s.reg (Reg.LINK_STATE l) = 2 ∨ s.reg (Reg.LINK_STATE l) = 3 ∨ s.reg (Reg.LINK_STATE l) = 7) :
    s.retrain l 2 = (.ok, s.beginTraining l false false) := by
  rcases hlive with hup | hretrains | hparked
  · simp [State.retrain, hup]
  · simp [State.retrain, hretrains]
  · simp [State.retrain, hparked]

theorem retrain_restore_dropped (hup : s.reg (Reg.LINK_STATE l) = 2) (hdropped : (s.link l).dropped ≠ 0) :
    s.retrain l 3 = (.ok, (s.modLink l fun y => { y with dropped := 0 }).beginTraining l true false) := by
  simp [State.retrain, hup, hdropped]

theorem retrain_restore_only (hfused : s.reg (Reg.LINK_STATE l) ≠ 4)
    (h : s.reg (Reg.LINK_STATE l) ≠ 2 ∨ (s.link l).dropped = 0) :
    s.retrain l 3 = (.ok, s.modLink l fun y => { y with dropped := 0 }) := by
  have hkept : ¬ (s.reg (Reg.LINK_STATE l) = 2 ∧ (s.link l).dropped ≠ 0) := by
    simpa [← not_or, Decidable.imp_iff_not_or] using h
  rw [State.retrain, if_neg hfused]
  simp only [if_neg hkept]

theorem retrain_takeDown (hdown : s.reg (Reg.LINK_STATE l) ≠ 0) (hfused : s.reg (Reg.LINK_STATE l) ≠ 4) :
    s.retrain l 4 = (.ok, s.linkDown l) := by
  simp [State.retrain, hdown, hfused]

theorem retrain_takeDown_down (hdown : s.reg (Reg.LINK_STATE l) = 0) : s.retrain l 4 = (.ok, s) := by
  simp [State.retrain, hdown]

theorem retrain_bringUp_parked (hparked : s.reg (Reg.LINK_STATE l) = 7) : s.retrain l 5 = (.ok, s.wakeLink l) := by
  simp [State.retrain, hparked]

theorem retrain_bringUp_running
    (hruns : s.reg (Reg.LINK_STATE l) = 1 ∨ s.reg (Reg.LINK_STATE l) = 2 ∨ s.reg (Reg.LINK_STATE l) = 3) :
    s.retrain l 5 = (.ok, s) := by
  rcases hruns with htrains | hup | hretrains
  · simp [State.retrain, htrains]
  · simp [State.retrain, hup]
  · simp [State.retrain, hretrains]

section Idle

variable (hup : s.reg (Reg.LINK_STATE l) ≠ 2) (hretrains : s.reg (Reg.LINK_STATE l) ≠ 3)
  (hfused : s.reg (Reg.LINK_STATE l) ≠ 4) (hparked : s.reg (Reg.LINK_STATE l) ≠ 7)
include hup hretrains hfused hparked

theorem retrain_fast_fresh : s.retrain l 1 = (.ok, s.beginTraining l true true) := by
  simp [State.retrain, hup, hretrains, hfused, hparked]

theorem retrain_full_fresh : s.retrain l 2 = (.ok, s.beginTraining l false true) := by
  simp [State.retrain, hup, hretrains, hfused, hparked]

theorem retrain_bringUp_fresh (htrains : s.reg (Reg.LINK_STATE l) ≠ 1) :
    s.retrain l 5 = (.ok, s.beginTraining l false true) := by
  simp [State.retrain, hup, hretrains, hfused, hparked, htrains]

end Idle

end Retrain

/-! ### SPUR_SEND (R349) -/

section Spur

variable {l : LinkId}

/-- Spur sent on every good lane, and the training begun that follows it once its 100 µs are over. -/
def spurThenTrain (fresh : Bool) (l : Nat) (s : State) : State :=
  ((s.sendSets l 0x5A 0 48484 (s.goodLanes l)).beginTraining l (!fresh) fresh).modLink l fun y =>
    { y with spurUntil := some (s.now + 100000), phaseFrom := s.now + 100000 }

theorem sendSpur_fused (hfused : s.reg (Reg.LINK_STATE l.val) = 4) : s.sendSpur l.val = s := if_pos hfused

theorem sendSpur_driven (hfused : s.reg (Reg.LINK_STATE l.val) ≠ 4) :
    s.sendSpur l.val = spurThenTrain (!s.linkLives l.val) l.val s := by
  rw [State.sendSpur, if_neg hfused, spurThenTrain, Bool.not_not]
  rfl

theorem sendSpur_live (hlive : s.reg (Reg.LINK_STATE l.val) = 2 ∨ s.reg (Reg.LINK_STATE l.val) = 3 ∨
    s.reg (Reg.LINK_STATE l.val) = 7) : s.sendSpur l.val = spurThenTrain false l.val s := by
  have hlives : s.linkLives l.val = true := by simpa [State.linkLives, or_assoc] using hlive
  rw [sendSpur_driven (by omega), hlives, Bool.not_true]

theorem sendSpur_idle (hup : s.reg (Reg.LINK_STATE l.val) ≠ 2) (hretrains : s.reg (Reg.LINK_STATE l.val) ≠ 3)
    (hfused : s.reg (Reg.LINK_STATE l.val) ≠ 4) (hparked : s.reg (Reg.LINK_STATE l.val) ≠ 7) :
    s.sendSpur l.val = spurThenTrain true l.val s := by
  have hlives : s.linkLives l.val = false := by simp [State.linkLives, hup, hretrains, hparked]
  rw [sendSpur_driven hfused, hlives, Bool.not_false]

variable (haccess : s.accessStatus path true (0x2610 + l.val) 0x0D = .ok)
include haccess

theorem spurSend_one : exec (.spurSend path l 1) s = .next ((s.sendSpur l.val).respond .ok) :=
  NeuronProofs.exec_of_writeObject rfl haccess rfl

theorem spurSend_bad {v : BitVec 8} (hv : v ≠ 1) : exec (.spurSend path l v) s = .next (s.respond .badFormat) :=
  NeuronProofs.exec_of_writeObject rfl haccess (if_neg hv)

end Spur

open NeuronProofs in
/-- Settles O57: RETRAIN by its value and the link's state, what a training begun and a link taken down stand at, and SPUR_SEND. -/
theorem linkControl : Obligations.LinkControl :=
  ⟨fun _ _ _ haccess h => exec_of_writeObject rfl haccess (retrain_fast_live h),
    fun _ _ _ haccess h => exec_of_writeObject rfl haccess (retrain_fast_parked h),
    fun _ _ _ haccess h2 h3 h4 h7 => exec_of_writeObject rfl haccess (retrain_fast_fresh h2 h3 h4 h7),
    fun _ _ _ haccess h => exec_of_writeObject rfl haccess (retrain_full_live h),
    fun _ _ _ haccess h2 h3 h4 h7 => exec_of_writeObject rfl haccess (retrain_full_fresh h2 h3 h4 h7),
    fun _ _ _ haccess hup hd => exec_of_writeObject rfl haccess (retrain_restore_dropped hup hd),
    fun _ _ _ haccess h4 h => exec_of_writeObject rfl haccess (retrain_restore_only h4 h),
    fun _ _ _ haccess h0 h4 => exec_of_writeObject rfl haccess (retrain_takeDown h0 h4),
    fun _ _ _ haccess h0 => exec_of_writeObject rfl haccess (retrain_takeDown_down h0),
    fun _ _ _ haccess h2 h3 h4 h7 h1 => exec_of_writeObject rfl haccess (retrain_bringUp_fresh h2 h3 h4 h7 h1),
    fun _ _ _ haccess h => exec_of_writeObject rfl haccess (retrain_bringUp_parked h),
    fun _ _ _ haccess h => exec_of_writeObject rfl haccess (retrain_bringUp_running h),
    fun _ _ _ haccess h4 => exec_of_writeObject rfl haccess (retrain_fused 1 h4),
    fun _ _ _ haccess h4 => exec_of_writeObject rfl haccess (retrain_fused 2 h4),
    fun _ _ _ haccess h4 => exec_of_writeObject rfl haccess (retrain_fused 3 h4),
    fun _ _ _ haccess h4 => exec_of_writeObject rfl haccess (retrain_fused 4 h4),
    fun _ _ _ haccess h4 => exec_of_writeObject rfl haccess (retrain_fused 5 h4),
    fun l fast fresh s => by
      rw [link_beginTraining]
      exact ⟨linkState_beginTraining l fast fresh, rfl, rfl, rfl, rfl⟩,
    fun l s => by
      rw [link_wakeLink]
      exact ⟨linkState_wakeLink l, rfl, rfl, rfl, rfl⟩,
    fun l _ => linkDown_objects l,
    fun _ _ _ haccess h => (spurSend_one haccess).trans (by rw [sendSpur_live h]; rfl),
    fun _ _ _ haccess h2 h3 h4 h7 => (spurSend_one haccess).trans (by rw [sendSpur_idle h2 h3 h4 h7]; rfl),
    fun _ _ _ haccess h4 => (spurSend_one haccess).trans (by rw [sendSpur_fused h4]),
    fun _ _ _ _ haccess => spurSend_bad haccess⟩

end Sys2Proof.LinkControlProofs
end

section
/-!
PROOFS. The timer block: general timers by the cases of their writes, ticks, matches and wraps (R376–R379, R386), the make-up of a
sleep (R382, R383), and the capture of an encoder's edges (R380, R381, R383).
-/
namespace Sys2Proof.TimerProofs
open Sys2Proof Sys2Proof.Machine Sys2Proof.NeuronProofs

variable {s : State}

/-! ### Writes of PER, CMP and GCTRL (R377, R386) -/

section Writes

variable {path : Path} {k v : Nat}

theorem writePer_direct (hdirect : s.bit (Reg.GCTRL k) 1 = true) : s.writePer k v = (.ok, s.setReg (Reg.PER k) v) :=
  if_pos hdirect

theorem writePer_preload (hpreload : s.bit (Reg.GCTRL k) 1 = false) : s.writePer k v =
    (.ok, (s.setTimer k { s.timer k with perPl := v, perLate := (s.timer k).wrapped }).setBit (Reg.GSTAT k) 4 true) :=
  if_neg (by simp [hpreload])

theorem writeCmp_direct (hdirect : s.bit (Reg.GCTRL k) 1 = true) : s.writeCmp k v =
    (.ok, (s.setReg (Reg.CMP k) v).setTimer k { s.timer k with cmpWritten := true }) :=
  if_pos hdirect

theorem writeCmp_preload (hpreload : s.bit (Reg.GCTRL k) 1 = false) : s.writeCmp k v =
    (.ok, (s.setTimer k { s.timer k with cmpPl := v, cmpLate := (s.timer k).wrapped }).setBit (Reg.GSTAT k) 5 true) :=
  if_neg (by simp [hpreload])

theorem writeGctrl_reserved (hreserved : bitField v 5 11 ≠ 0) : s.writeGctrl k v = (.badFormat, s) := if_pos hreserved

variable (hreserved : bitField v 5 11 = 0)
include hreserved

theorem writeGctrl_enables (hen : natBit v 0 = true) : s.writeGctrl k v = (.ok,
    if s.bit (Reg.GCTRL k) 0 then s.setReg (Reg.GCTRL k) v
    else (s.setReg (Reg.GCTRL k) v).setTimer k { s.timer k with tickAt := s.clock }) :=
  (if_neg (not_not.mpr hreserved)).trans (if_pos hen)

theorem writeGctrl_disables (hen : natBit v 0 = false) : s.writeGctrl k v = (.ok,
    ((s.setReg (Reg.GCTRL k) v).setReg (Reg.CNT k) 0).setTimer k { s.timer k with matched := false, wrapped := false }) :=
  (if_neg (not_not.mpr hreserved)).trans (if_neg (by simp [hen]))

end Writes

/-! ### GT_TICK (R376, R378) -/

section Tick

variable {k : TimerId}

theorem exec_gtTick : exec (.gtTick k) s = execGtTick k s := rfl

theorem gtTick_waits (h : s.bit (Reg.GCTRL k.val) 0 = false ∨ (s.timer k.val).matched = true ∨
    (s.timer k.val).wrapped = true ∨ s.timersFrozen = true ∨ s.clock < (s.timer k.val).tickAt + s.tickNs k.val) :
    exec (.gtTick k) s = .next s :=
  if_pos (by simpa using h)

/-- The timer of `k` after a tick that counts to `c`. -/
def tickTo (k c : Nat) (hit wraps short : Bool) (s : State) : State :=
  (s.setReg (Reg.CNT k) c).setTimer k
    { s.timer k with
      matched := hit, wrapped := wraps, short := short, cmpWritten := false, tickAt := (s.timer k).tickAt + s.tickNs k }

variable (hen : s.bit (Reg.GCTRL k.val) 0 = true) (hmatch : (s.timer k.val).matched = false)
  (hwrap : (s.timer k.val).wrapped = false) (hruns : s.timersFrozen = false)
  (hdue : (s.timer k.val).tickAt + s.tickNs k.val ≤ s.clock)
include hen hmatch hwrap hruns hdue

/-- A tick that is taken wraps CNT once it has reached PER, and counts it up otherwise. -/
theorem gtTick_ticks : exec (.gtTick k) s = .next (
    let cnt := s.reg (Reg.CNT k.val)
    let per := s.reg (Reg.PER k.val)
    let c := if per ≤ cnt then 0 else cnt + 1
    tickTo k.val c (decide (per < cnt) || (c == s.reg (Reg.CMP k.val) && decide (c ≤ per))) (decide (per ≤ cnt))
      (decide (per < cnt)) s) := by
  rw [exec_gtTick, execGtTick, if_neg (by simp [hen, hmatch, hwrap, hruns, hdue])]
  simp only [decide_eq_true_eq, tickTo]

theorem gtTick_up (hbelow : s.reg (Reg.CNT k.val) < s.reg (Reg.PER k.val)) : exec (.gtTick k) s =
    .next (tickTo k.val (s.reg (Reg.CNT k.val) + 1) (s.reg (Reg.CNT k.val) + 1 == s.reg (Reg.CMP k.val)) false false s) := by
  rw [gtTick_ticks hen hmatch hwrap hruns hdue]
  simp [Nat.not_le.mpr hbelow, Nat.not_lt.mpr hbelow.le, Nat.succ_le_of_lt hbelow]

theorem gtTick_wraps (hper : s.reg (Reg.CNT k.val) = s.reg (Reg.PER k.val)) : exec (.gtTick k) s =
    .next (tickTo k.val 0 (s.reg (Reg.CMP k.val) == 0) true false s) := by
  rw [gtTick_ticks hen hmatch hwrap hruns hdue]
  simp [hper, BEq.comm (a := 0)]

theorem gtTick_short (hpast : s.reg (Reg.PER k.val) < s.reg (Reg.CNT k.val)) :
    exec (.gtTick k) s = .next (tickTo k.val 0 true true true s) := by
  rw [gtTick_ticks hen hmatch hwrap hruns hdue]
  simp [hpast, hpast.le]

end Tick

/-! ### GT_MATCH and GT_WRAP (R376–R379) -/

section Flags

variable {k : TimerId}

theorem exec_gtMatch : exec (.gtMatch k) s = execGtMatch k s := rfl

theorem gtMatch_none (hmatch : (s.timer k.val).matched = false) : exec (.gtMatch k) s = .next s :=
  if_pos (by simp [hmatch])

theorem gtMatch_flags (hmatch : (s.timer k.val).matched = true) : exec (.gtMatch k) s = .next (
    let s1 := (s.raise (Reg.GSTAT k.val) 0).setTimer k.val { s.timer k.val with matched := false }
    let s2 := if (s.timer k.val).short then s1.raise (Reg.GSTAT k.val) 2 else s1
    let s3 := if s.bit (Reg.GCTRL k.val) 2 = true ∧ (s.timer k.val).cmpWritten = false then
        s2.setReg (Reg.CMP k.val) ((s.reg (Reg.CMP k.val) + s.reg (Reg.IVL k.val)) % (s.reg (Reg.PER k.val) + 1))
      else s2
    if s.bit (Reg.GCTRL k.val) 4 then s3.hitchNotify (s.reg (Reg.GT_HITCH k.val)) else s3) := by
  rw [exec_gtMatch, execGtMatch, if_neg (by simp [hmatch])]
  simp only [Bool.and_eq_true, Bool.not_eq_true']

theorem gtWrap_flags (hwrap : (s.timer k.val).wrapped = true) (hmatch : (s.timer k.val).matched = false) :
    exec (.gtWrap k) s =
      .next (((s.setTimer k.val { s.timer k.val with wrapped := false }).raise (Reg.GSTAT k.val) 1).copyPreloads k.val) :=
  if_neg (by simp [hwrap, hmatch])

theorem gtWrap_none (h : (s.timer k.val).wrapped = false ∨ (s.timer k.val).matched = true) :
    exec (.gtWrap k) s = .next s :=
  if_pos (by simpa using h)

theorem copyPreloads_eq (k : Nat) : s.copyPreloads k =
    let s1 := if s.bit (Reg.GSTAT k) 4 = true ∧ (s.timer k).perLate = false then
        (s.setReg (Reg.PER k) (s.timer k).perPl).setBit (Reg.GSTAT k) 4 false
      else s
    let s2 := if s.bit (Reg.GSTAT k) 5 = true ∧ (s.timer k).cmpLate = false then
        (s1.setReg (Reg.CMP k) (s.timer k).cmpPl).setBit (Reg.GSTAT k) 5 false
      else s1
    s2.setTimer k { s.timer k with perLate := false, cmpLate := false } := by
  simp only [State.copyPreloads, Bool.not_eq_true']

end Flags

/-! ### SLEEP_MAKEUP (R382, R383) -/

theorem exec_sleepMakeup : exec .sleepMakeup s = execSleepMakeup s := rfl

theorem sleepMakeup_makesUp {e : Nat} (hfrozen : s.timing.frozen = some e) (hrun : s.reg Reg.PWR_STATE = 0)
    (hedge : s.timing.dueEdge ≤ slowCount s.now) : exec .sleepMakeup s = .next (
      let sum := (slowCount s.now - e) * 1953125 + s.timing.carry
      (List.range 8).foldl (fun (x : State) k =>
        if x.bit (Reg.GCTRL k) 0 then x.makeUpTicks k else x) (State.bump { s with
          clock := s.clock + sum / 64
          timing := { s.timing with frozen := none, carry := sum % 64, wakeAt := [] } } Reg.MAKEUPS)) := by
  rw [exec_sleepMakeup, execSleepMakeup, hfrozen]
  exact if_neg (by simp [hrun, hedge])

theorem sleepMakeup_none (h : s.timing.frozen = none ∨ s.reg Reg.PWR_STATE ≠ 0 ∨ slowCount s.now < s.timing.dueEdge) :
    exec .sleepMakeup s = .next s := by
  rw [exec_sleepMakeup, execSleepMakeup]
  cases hfrozen : s.timing.frozen with
  | none => rfl
  | some e => exact if_pos (h.resolve_left (by simp [hfrozen]))

/-- Settles O55: the general timers, write by write and tick by tick, and the make-up. -/
theorem generalTimers : Obligations.GeneralTimers :=
  ⟨fun _ _ _ _ haccess h => exec_of_writeObject rfl haccess (writePer_direct h),
    fun _ _ _ _ haccess h => exec_of_writeObject rfl haccess (writePer_preload h),
    fun _ _ _ _ haccess h => exec_of_writeObject rfl haccess (writeCmp_direct h),
    fun _ _ _ _ haccess h => exec_of_writeObject rfl haccess (writeCmp_preload h),
    fun _ _ _ _ haccess hres hen => exec_of_writeObject rfl haccess (writeGctrl_disables hres hen),
    fun _ _ _ _ haccess hres hen => exec_of_writeObject rfl haccess (writeGctrl_enables hres hen),
    fun _ _ _ _ haccess hres => exec_of_writeObject rfl haccess (writeGctrl_reserved hres),
    fun _ _ => gtTick_up, fun _ _ => gtTick_wraps, fun _ _ => gtTick_short, fun _ _ => gtTick_waits,
    fun _ _ => gtMatch_flags, fun _ _ => gtMatch_none, fun _ _ => gtWrap_flags, fun _ _ => gtWrap_none,
    fun k _ => copyPreloads_eq k, fun _ _ => sleepMakeup_makesUp, fun _ => sleepMakeup_none⟩

/-! ### Edges at an encoder's input (R380, R383) -/

section Edge

variable {c : Nat} {rising : Bool}

theorem exec_encEdge_on {c : EncId} (hon : s.power.off = false) : exec (.encEdge c rising) s =
    .next (((s.setBit Reg.PIN_IN (4 + c.val) rising).encEdge c.val rising).wakeBy .encoder) :=
  congrArg Host.Outcome.next (if_neg (by simp [hon]))

theorem exec_encEdge_off {c : EncId} (hoff : s.power.off = true) : exec (.encEdge c rising) s = .next s :=
  congrArg Host.Outcome.next (if_pos hoff)

theorem encEdge_taken (h : ∀ a ∈ (s.encoder c).edgeAt, a + 40 ≤ s.now) : s.encEdge c rising =
    (s.setEncoder c { s.encoder c with edgeAt := some s.now }).takeEdge c rising :=
  if_pos (by simpa [State.acceptsEdge, Option.all_eq_true] using h)

theorem encEdge_early (h : ∃ a ∈ (s.encoder c).edgeAt, s.now < a + 40) : s.encEdge c rising = s := by
  obtain ⟨a, hat, hearly⟩ := h
  exact if_neg (by simp [State.acceptsEdge, Option.mem_def.mp hat, hearly])

/-- Whether ECTRL selects edges of a kind. -/
theorem edgeKind_eq : natBit (s.reg (Reg.ECTRL c)) (if rising then 0 else 1) =
    if rising then natBit (s.reg (Reg.ECTRL c)) 0 else natBit (s.reg (Reg.ECTRL c)) 1 := by
  cases rising <;> rfl

theorem takeEdge_other (hkind : natBit (s.reg (Reg.ECTRL c)) (if rising then 0 else 1) = false) : s.takeEdge c rising = s := by
  rw [edgeKind_eq] at hkind
  exact if_pos (by simp [hkind])

variable (hkind : natBit (s.reg (Reg.ECTRL c)) (if rising then 0 else 1) = true)
include hkind

theorem takeEdge_counts (hdiv : (s.encoder c).edges + 1 < max 1 (bitField (s.reg (Reg.ECTRL c)) 16 16)) :
    s.takeEdge c rising = (s.setReg (Reg.POS c) ((s.reg (Reg.POS c) + 1) % 2 ^ 32)).setEncoder c
      { s.encoder c with edges := (s.encoder c).edges + 1 } := by
  rw [edgeKind_eq] at hkind
  rw [State.takeEdge, if_neg (by simp [hkind])]
  exact if_pos hdiv

variable (hdiv : max 1 (bitField (s.reg (Reg.ECTRL c)) 16 16) ≤ (s.encoder c).edges + 1)
include hdiv

theorem takeEdge_captures (hruns : s.timersFrozen = false) : s.takeEdge c rising =
    ((s.setReg (Reg.POS c) ((s.reg (Reg.POS c) + 1) % 2 ^ 32)).setEncoder c { s.encoder c with edges := 0 }).capture c
      s.clock ((s.reg (Reg.POS c) + 1) % 2 ^ 32) := by
  rw [edgeKind_eq] at hkind
  rw [State.takeEdge, if_neg (by simp [hkind])]
  exact (if_neg (Nat.not_lt.mpr hdiv)).trans (if_neg (by simp [hruns]))

theorem takeEdge_coarse (hfrozen : s.timersFrozen = true) : s.takeEdge c rising =
    let s1 := (s.setReg (Reg.POS c) ((s.reg (Reg.POS c) + 1) % 2 ^ 32)).setEncoder c { s.encoder c with edges := 0 }
    (s1.capture c s1.coarseClock ((s.reg (Reg.POS c) + 1) % 2 ^ 32)).raise (Reg.ESTAT c) 2 := by
  rw [edgeKind_eq] at hkind
  rw [State.takeEdge, if_neg (by simp [hkind])]
  exact (if_neg (Nat.not_lt.mpr hdiv)).trans (if_pos hfrozen)

end Edge

theorem coarseClock_frozen {e : Nat} (hfrozen : s.timing.frozen = some e) :
    s.coarseClock = s.clock + ((slowCount s.now - e) * 1953125 + s.timing.carry) / 64 := by
  rw [State.coarseClock, hfrozen]

/-! ### Captures (R380, R381) -/

section Capture

variable {c cap pos : Nat}

theorem capture_lands (hshadow : (s.encoder c).shadow = none) (hread : ∀ r ∈ (s.encoder c).readAt, r.1 ≠ s.clock / 10)
    (hfree : s.bit (Reg.ESTAT c) 0 = false) : s.capture c cap pos = s.landCapture c cap pos := by
  rw [State.capture, hshadow]
  cases hat : (s.encoder c).readAt with
  | none => exact if_neg (by simp [hfree])
  | some r => exact (if_neg (hread r hat)).trans (if_neg (by simp [hfree]))

theorem capture_over (h : (s.encoder c).shadow ≠ none ∨
    s.bit (Reg.ESTAT c) 0 = true ∧ ∀ r ∈ (s.encoder c).readAt, r.1 ≠ s.clock / 10) :
    s.capture c cap pos = (s.raise (Reg.ESTAT c) 1).bump (Reg.OVC_CNT c) := by
  rw [State.capture]
  cases hshadow : (s.encoder c).shadow with
  | some _ => rfl
  | none =>
    obtain ⟨hflag, hread⟩ := h.resolve_left (not_not.mpr hshadow)
    cases hat : (s.encoder c).readAt with
    | none => exact if_pos hflag
    | some r => exact (if_neg (hread r hat)).trans (if_pos hflag)

theorem capture_waits {was : Bool} (hshadow : (s.encoder c).shadow = none)
    (hread : (s.encoder c).readAt = some (s.clock / 10, was)) : s.capture c cap pos =
      (s.setEncoder c { s.encoder c with shadow := some (cap, pos, s.clock / 10) }).setBit (Reg.ESTAT c) 0 was := by
  simp only [State.capture, hshadow, hread, if_true]

end Capture

/-! ### CAPTURE_SHADOW_LAND and CAP_READ (R381) -/

section Land

variable {c : EncId} {path : Path}

theorem exec_captureShadowLand : exec (.captureShadowLand c) s = execCaptureShadowLand c s := rfl

theorem captureShadowLand_lands {cap pos cycle : Nat} (hshadow : (s.encoder c.val).shadow = some (cap, pos, cycle))
    (hlater : cycle < s.clock / 10) : exec (.captureShadowLand c) s = .next (s.landCapture c.val cap pos) := by
  rw [exec_captureShadowLand, execCaptureShadowLand, hshadow]
  exact if_pos hlater

theorem captureShadowLand_none (h : ∀ x ∈ (s.encoder c.val).shadow, s.clock / 10 ≤ x.2.2) :
    exec (.captureShadowLand c) s = .next s := by
  rw [exec_captureShadowLand, execCaptureShadowLand]
  cases hshadow : (s.encoder c.val).shadow with
  | none => rfl
  | some x => exact if_neg (Nat.not_lt.mpr (h x hshadow))

theorem exec_capRead : exec (.capRead path c) s = execCapRead path c s := rfl

theorem capRead_reads (haccess : s.accessStatus path false (0x2220 + c.val) 3 = .ok) : exec (.capRead path c) s = .next (
    let s1 := (s.setReg (Reg.CAPPOS_RD c.val) (s.encoder c.val).capPos).setEncoder c.val
      { s.encoder c.val with readAt := some (s.clock / 10, s.bit (Reg.ESTAT c.val) 0) }
    (if (s.encoder c.val).shadow.isSome then s1 else s1.setBit (Reg.ESTAT c.val) 0 false).respond .ok
      (leBytes 8 (s.reg (Reg.CAP c.val)))) := by
  rw [exec_capRead, execCapRead, haccess]
  rfl

theorem capRead_denied {st : Status} (haccess : s.accessStatus path false (0x2220 + c.val) 3 = st) (hst : st ≠ .ok) :
    exec (.capRead path c) s = .next (s.respond st) := by
  subst haccess
  rw [exec_capRead, execCapRead]
  split
  case h_1 hok => exact absurd hok hst
  case h_2 => rfl

end Land

/-- Settles O17: an edge from the pin to the register, and the reads of it. -/
theorem timersAndCapture : Obligations.TimersAndCapture :=
  ⟨fun _ _ _ => exec_encEdge_on, fun _ _ _ => exec_encEdge_off, fun _ _ _ => encEdge_taken, fun _ _ _ => encEdge_early,
    fun _ _ _ => takeEdge_other, fun _ _ _ => takeEdge_counts, fun _ _ _ => takeEdge_captures, fun _ _ _ => takeEdge_coarse,
    fun _ _ => coarseClock_frozen,
    fun _ _ _ _ => capture_lands, fun _ _ _ _ => capture_over, fun _ _ _ _ _ => capture_waits, fun _ _ _ _ => rfl,
    fun _ _ _ _ _ => captureShadowLand_lands, fun _ _ => captureShadowLand_none,
    fun _ _ _ => capRead_reads, fun _ _ _ _ => capRead_denied⟩

end Sys2Proof.TimerProofs
end

section
/-!
PROOFS. Power states (R400–R405, R416): a request by what it asks for and who refuses it, the path by which it comes, the entry to a
sleep state, and the wakes.
-/
namespace Sys2Proof.PowerStateProofs
open Sys2Proof Sys2Proof.Machine Sys2Proof.LinkControlProofs

variable {s t : State} {path : Path} {v i : Nat} {st : Status} {w : WakeSource}

/-! ### A request judged (R401) -/

theorem request_present (hpresent : v = s.reg Reg.PWR_STATE) : s.request v = (.ok, s) := if_pos hpresent

section Deeper

variable (hdeeper : s.reg Reg.PWR_STATE < v)
include hdeeper

theorem request_refused (hrefuser : s.refuser v = some i) : s.request v = (.refused, s.countRefuser i) := by
  rw [State.request, if_neg hdeeper.ne', if_neg (Nat.not_lt.mpr hdeeper.le), hrefuser]

variable (hrefuser : s.refuser v = none)
include hrefuser

theorem request_accepted : s.request v =
    if v = 4 then (.ok, (s.flushOff 6).modPower fun p => { p with feedWake := s.bit Reg.WAKE_EN 6 })
    else (.ok, s.enterSleep v) := by
  rw [State.request, if_neg hdeeper.ne', if_neg (Nat.not_lt.mpr hdeeper.le), hrefuser]

theorem request_sleeps (hsleep : v ≠ 4) : s.request v = (.ok, s.enterSleep v) := by
  rw [request_accepted hdeeper hrefuser, if_neg hsleep]

end Deeper

/-! ### A write of PWR_REQ by its path (R401) -/

theorem pwrReq_run (hrun : s.reg Reg.PWR_STATE = 0) :
    s.pwrReq path v = s.writeObject path 0x2100 2 fun x => x.request v := if_pos hrun

theorem pwrReq_judged {u : State} (haccess : s.accessStatus path true 0x2100 2 = .ok) (hrun : s.reg Reg.PWR_STATE = 0)
    (hjudge : s.request v = (st, u)) : s.pwrReq path v = u.respond st := by
  rw [pwrReq_run hrun, writeObject_allowed haccess, hjudge]

theorem pwrReq_refused (haccess : s.accessStatus path true 0x2100 2 = .ok) (hrun : s.reg Reg.PWR_STATE = 0)
    (hv : 0 < v) (hrefuser : s.refuser v = some i) : s.pwrReq path v = (s.countRefuser i).respond .refused :=
  pwrReq_judged haccess hrun (request_refused (hrun ▸ hv) hrefuser)

theorem pwrReq_denied (haccess : s.accessStatus path true 0x2100 2 = st) (hst : st ≠ .ok)
    (hrun : s.reg Reg.PWR_STATE = 0) : s.pwrReq path v = s.respond st := by
  rw [pwrReq_run hrun, writeObject_denied haccess hst]

section Asleep

variable (hasleep : s.reg Reg.PWR_STATE ≠ 0)
include hasleep

theorem pwrReq_own (hpath : s.pathWake path = none) :
    s.pwrReq path v = s.writeObject path 0x2100 2 fun x => x.request v := by
  rw [State.pwrReq, if_neg hasleep, hpath]

theorem pwrReq_wakes (hpath : s.pathWake path = some w) (hwakes : s.wakes w = true) : s.pwrReq path v =
    (s.wakeUp (wakeBit w) (wakeRefuser w)).writeObject path 0x2100 2 fun x => x.request v := by
  rw [State.pwrReq, if_neg hasleep, hpath]
  exact if_pos hwakes

theorem pwrReq_lost (hpath : s.pathWake path = some w) (hwakes : s.wakes w = false) : s.pwrReq path v = s := by
  rw [State.pwrReq, if_neg hasleep, hpath]
  exact if_neg (by simp [hwakes])

end Asleep

/-! ### What the Reins' outputs leave as it was (R319, R405) -/

theorem sendPause_frame (p quanta : Nat) : ∃ o n, s.sendPause p quanta = { s with out := o, intake := n } := by
  fun_cases State.sendPause <;> exact ⟨_, _, rfl⟩

/-- What a Rein's output touches: objects but PWR_STATE, the host's wants, what leaves the block, and its port. -/
def ReinsOnly (s t : State) : Prop :=
  (∃ r h o n, t = { s with regs := r, host := h, out := o, intake := n }) ∧ t.reg Reg.PWR_STATE = s.reg Reg.PWR_STATE

theorem ReinsOnly.refl (s : State) : ReinsOnly s s := ⟨⟨s.regs, s.host, s.out, s.intake, rfl⟩, rfl⟩

theorem ReinsOnly.trans {u : State} (hst : ReinsOnly s t) (htu : ReinsOnly t u) : ReinsOnly s u := by
  obtain ⟨⟨_, _, _, _, rfl⟩, hpwr⟩ := hst
  obtain ⟨⟨r, h, o, n, rfl⟩, hpwr'⟩ := htu
  exact ⟨⟨r, h, o, n, rfl⟩, hpwr'.trans hpwr⟩

theorem reinsOnly_setReg {o : Obj} (ho : o.key ≠ Reg.PWR_STATE.key) (v : Nat) : ReinsOnly s (s.setReg o v) :=
  ⟨⟨_, _, _, _, rfl⟩, State.reg_setReg_other s ho v⟩

theorem reinsOnly_wantTpdo (k : Nat) : ReinsOnly s (s.wantTpdo k) := ⟨⟨_, _, _, _, rfl⟩, rfl⟩

theorem reinsOnly_sendPause (p quanta : Nat) : ReinsOnly s (s.sendPause p quanta) := by
  obtain ⟨o, n, heq⟩ := sendPause_frame (s := s) p quanta
  rw [heq]
  exact ⟨⟨_, _, _, _, rfl⟩, rfl⟩

theorem reinDrive_reinsOnly {p : Nat} (hp : p < 6) (s : State) : ReinsOnly s (s.reinDrive p) := by
  have hstate : (Reg.REIN_STATE p).key ≠ Reg.PWR_STATE.key := by
    interval_cases p <;> decide
  have hpin : ReinsOnly s (if p < 4 then s.setBit Reg.PIN_IN p (!s.reinLevel p) else s) := by
    split
    case isTrue => exact reinsOnly_setReg (by decide) _
    case isFalse => exact .refl s
  rw [State.reinDrive]
  refine hpin.trans ?_
  generalize (if p < 4 then s.setBit Reg.PIN_IN p (!s.reinLevel p) else s) = u
  split
  case isTrue => exact .refl u
  case isFalse => exact ((reinsOnly_setReg hstate _).trans (reinsOnly_wantTpdo 2)).trans (reinsOnly_sendPause _ _)

theorem foldl_reinDrive_reinsOnly {l : List Nat} (hl : ∀ p ∈ l, p < 6) (s : State) :
    ReinsOnly s (l.foldl State.reinDrive s) := by
  induction l generalizing s with
  | nil => exact .refl s
  | cons p l ih =>
    obtain ⟨hp, hl⟩ := List.forall_mem_cons.mp hl
    exact (reinDrive_reinsOnly hp s).trans (ih hl _)

theorem reinDriveAll_reinsOnly (s : State) : ReinsOnly s ((List.range 6).foldl State.reinDrive s) :=
  foldl_reinDrive_reinsOnly (fun _ => List.mem_range.mp) s

/-! ### Entry to a sleep state (R400–R403) -/

theorem pwrState_setPwr (hv : v < 5) : (s.setPwr v).reg Reg.PWR_STATE = v := by
  have hcount : (Reg.ACCT (4 + v)).key ≠ Reg.PWR_STATE.key := by
    interval_cases v <;> decide
  rw [State.setPwr]
  split
  case isTrue => exact (State.reg_bumpBy_other _ hcount 1).trans (State.reg_setReg_same _ _ _)
  case isFalse => exact State.reg_setReg_same _ _ _

theorem setPwr_frame (v : Nat) : ∃ r p, s.setPwr v = { s with regs := r, power := p } := by
  rw [State.setPwr]
  split <;> exact ⟨_, _, rfl⟩

theorem pwrState_slept (hv : v < 5) (h : ReinsOnly ((s.setPwr v).freezeTimers) t) : t.reg Reg.PWR_STATE = v :=
  h.2.trans (pwrState_setPwr hv)

/-- An entry as the Reins' outputs leave it, before WATCH loses what it loses and the entry's time is noted. -/
def asleep (v : Nat) (s : State) : State :=
  (List.range 6).foldl State.reinDrive
    (((if v = 3 ∧ s.parks = true then s.setBytes (s.reg Reg.PARK_DST) s.checkpointBytes else s).linksSleep v).setPwr v).freezeTimers

theorem pwrState_asleep (hv : v < 5) : (asleep v s).reg Reg.PWR_STATE = v :=
  pwrState_slept hv (reinDriveAll_reinsOnly _)

theorem enterSleep_idle : s.enterSleep 1 =
    (asleep 1 s).modPower fun p => { p with parked := false, entryUntil := s.now + 50000 } := rfl

theorem enterSleep_hold : s.enterSleep 2 =
    (asleep 2 s).modPower fun p => { p with parked := false, entryUntil := s.now + 1000000 } := rfl

theorem enterSleep_watch : s.enterSleep 3 =
    (if s.parks then (asleep 3 s).watchLoss true else ((asleep 3 s).watchLoss false).setReg Reg.DDR_STATE 0).modPower
      fun p => { p with parked := s.parks, entryUntil := s.now + 1000000 } := rfl

theorem reg_modPower (f : Power → Power) (o : Obj) : (s.modPower f).reg o = s.reg o := rfl

theorem reg_respond (o : Obj) : (s.respond st).reg o = s.reg o := rfl

theorem pwrState_enterSleep_idle : (s.enterSleep 1).reg Reg.PWR_STATE = 1 := by
  rw [enterSleep_idle, reg_modPower, pwrState_asleep (by decide)]

theorem pwrState_enterSleep_hold : (s.enterSleep 2).reg Reg.PWR_STATE = 2 := by
  rw [enterSleep_hold, reg_modPower, pwrState_asleep (by decide)]

/-- IDLE keeps memory and stops the timer block. -/
theorem asleep_idle : (asleep 1 s).mem = s.mem ∧ (asleep 1 s).timing.frozen.isSome = true := by
  obtain ⟨r, p, hpwr⟩ := setPwr_frame (s := s) 1
  obtain ⟨⟨r, h, o, n, heq⟩, -⟩ := reinDriveAll_reinsOnly ((s.setPwr 1).freezeTimers)
  have hasleep : asleep 1 s = (List.range 6).foldl State.reinDrive ((s.setPwr 1).freezeTimers) := rfl
  rw [hasleep, heq, hpwr]
  exact ⟨rfl, rfl⟩

theorem enterSleep_idle_keeps : (s.enterSleep 1).mem = s.mem ∧ (s.enterSleep 1).timing.frozen.isSome = true ∧
    (s.enterSleep 1).power.entryUntil = s.now + 50000 := by
  obtain ⟨hmem, hfrozen⟩ := asleep_idle (s := s)
  rw [enterSleep_idle, State.modPower_mem, State.modPower_timing]
  exact ⟨hmem, hfrozen, rfl⟩

theorem pwrState_enterSleep_watch : (s.enterSleep 3).reg Reg.PWR_STATE = 3 := by
  have hddr : Reg.DDR_STATE.key ≠ Reg.PWR_STATE.key := by decide
  have hloss (u : State) (park : Bool) (o : Obj) : (u.watchLoss park).reg o = u.reg o := rfl
  rw [enterSleep_watch, reg_modPower]
  split
  case isTrue => rw [hloss, pwrState_asleep (by decide)]
  case isFalse => rw [State.reg_setReg_other _ hddr, hloss, pwrState_asleep (by decide)]

/-- WATCH loses the Hitch table and the tiles. -/
theorem enterSleep_watch_loses : (s.enterSleep 3).hitches = [] ∧ (s.enterSleep 3).tiles = [] := by
  rw [enterSleep_watch]
  cases s.parks <;> exact ⟨rfl, rfl⟩

/-! ### Wakes (R404, R416) -/

theorem wakeBy_run (hrun : s.reg Reg.PWR_STATE = 0) : s.wakeBy w = s := if_pos (.inl hrun)

theorem wakeBy_disabled (hwakes : s.wakes w = false) : s.wakeBy w = s := if_pos (.inr (by simp [hwakes]))

section Fires

variable (hasleep : s.reg Reg.PWR_STATE ≠ 0)
include hasleep

theorem wakeBy_can {id : BitVec 11} {data : List Byte} {f : WriteFacts} (hwakes : s.wakes (.can id data f) = true) :
    s.wakeBy (.can id data f) =
      if s.power.heldCan.length < 8 then
        (s.wakeUp 2 10).modPower fun p => { p with heldCan := p.heldCan ++ [(id.toNat, data, f)] }
      else s.wakeUp 2 10 :=
  if_neg (by simp [hasleep, hwakes])

/-- Any source but CAN only wakes the device. -/
theorem wakeBy_other (hwakes : s.wakes w = true) (hcan : wakeBit w ≠ 2) :
    s.wakeBy w = s.wakeUp (wakeBit w) (wakeRefuser w) := by
  have hfires : ¬ (s.reg Reg.PWR_STATE = 0 ∨ (!s.wakes w) = true) := by simp [hasleep, hwakes]
  cases w with
  | can id data f => exact absurd rfl hcan
  | _ => exact if_neg hfires

end Fires

theorem exec_wake : exec (.wake w) s = .next (
    let t := s.wakeBy w
    if t.reg Reg.PWR_STATE = 0 then t.takeHeld else t) := rfl

theorem wake_fires (hasleep : s.reg Reg.PWR_STATE ≠ 0) (hwakes : s.wakes w = true) (hcan : wakeBit w ≠ 2) :
    exec (.wake w) s = .next (
      let u := s.wakeUp (wakeBit w) (wakeRefuser w)
      if u.reg Reg.PWR_STATE = 0 then u.takeHeld else u) := by
  rw [exec_wake, wakeBy_other hasleep hwakes hcan]

theorem wake_can {id : BitVec 11} {data : List Byte} {f : WriteFacts} (hasleep : s.reg Reg.PWR_STATE ≠ 0)
    (hwakes : s.wakes (.can id data f) = true) : exec (.wake (.can id data f)) s = .next (
      let u := s.wakeUp 2 10
      let v := if s.power.heldCan.length < 8 then
          u.modPower fun p => { p with heldCan := p.heldCan ++ [(id.toNat, data, f)] }
        else u
      if v.reg Reg.PWR_STATE = 0 then v.takeHeld else v) := by
  rw [exec_wake, wakeBy_can hasleep hwakes]

theorem wake_run (hrun : s.reg Reg.PWR_STATE = 0) : exec (.wake w) s = .next s.takeHeld := by
  rw [exec_wake, wakeBy_run hrun]
  exact congrArg _ (if_pos hrun)

theorem wake_disabled (hasleep : s.reg Reg.PWR_STATE ≠ 0) (hwakes : s.wakes w = false) : exec (.wake w) s = .next s := by
  rw [exec_wake, wakeBy_disabled hwakes]
  exact congrArg _ (if_neg hasleep)

/-! ### TIMER_WAKE and SPUR_DETECT (R349, R384) -/

theorem wakes_timer : s.wakes .timer = s.bit Reg.WAKE_EN 5 := Bool.and_true _

section Timer

variable {k : TimerId}

theorem exec_timerWake : exec (.timerWake k) s = execTimerWake k s := rfl

theorem timerWake_wakes {at' : Nat} (hat : Assoc.get? k.val s.timing.wakeAt = some at') (hdue : at' ≤ s.now)
    (hasleep : s.reg Reg.PWR_STATE ≠ 0) (hen : s.bit Reg.WAKE_EN 5 = true) :
    exec (.timerWake k) s = .next (s.wakeUp 5 14) := by
  rw [exec_timerWake, execTimerWake, hat]
  exact congrArg _ ((if_pos hdue).trans (wakeBy_other hasleep (wakes_timer.trans hen) (by decide)))

theorem timerWake_none (h : Assoc.get? k.val s.timing.wakeAt = none ∨
    s.now < (Assoc.get? k.val s.timing.wakeAt).getD 0 ∨ s.reg Reg.PWR_STATE = 0 ∨ s.bit Reg.WAKE_EN 5 = false) :
    exec (.timerWake k) s = .next s := by
  rw [exec_timerWake, execTimerWake]
  cases hat : Assoc.get? k.val s.timing.wakeAt with
  | none => rfl
  | some a =>
    rw [hat, Option.getD_some] at h
    rcases h.resolve_left (by simp) with hearly | hrun | hdisabled
    · exact congrArg _ (if_neg (Nat.not_le.mpr hearly))
    · simp only [wakeBy_run hrun, ite_self]
    · simp only [wakeBy_disabled (wakes_timer.trans hdisabled), ite_self]

end Timer

section Spur

variable {spur : Bool}

theorem spurDetect_wakes (hwatch : s.reg Reg.PWR_STATE = 3) (hen : s.bit Reg.WAKE_EN 0 = true)
    (hmode : s.reg Reg.WAKE_MODE ≠ 1 ∨ spur = true) : exec (.spurDetect spur) s = .next (s.wakeUp 0 11) := by
  refine if_neg ?_
  rcases hmode with hany | hspur
  · simp [hwatch, hen, hany]
  · simp [hwatch, hen, hspur]

theorem spurDetect_none (h : s.reg Reg.PWR_STATE ≠ 3 ∨ s.bit Reg.WAKE_EN 0 = false ∨
    s.reg Reg.WAKE_MODE = 1 ∧ spur = false) : exec (.spurDetect spur) s = .next s :=
  if_pos (by simpa using h)

end Spur

/-! ### The wake itself (R382, R401, R404, R416) -/

theorem wakeUp_cold {cause refuser : Nat} (hcold : s.security.coldWake = true) : s.wakeUp cause refuser = s.coldWake :=
  if_pos hcold

theorem wakeUp_warm {cause refuser : Nat} (hwarm : s.security.coldWake = false) : s.wakeUp cause refuser =
    let s1 := if s.now < s.power.entryUntil then s.countRefuser refuser else s
    let u := ((s1.setPwr 0).setReg Reg.WAKE_CAUSE (2 ^ cause)).bump Reg.WAKES
    let s2 := (List.range 6).foldl State.reinDrive
      (State.linksWake { u with timing := { u.timing with dueEdge := slowCount s.now + 1 } } (s.reg Reg.PWR_STATE))
    if s.reg Reg.PWR_STATE ≠ 3 then s2
    else if s.power.parked then (s2.modPower fun p => { p with parked := false }).unpark
    else (s2.modPower fun p => { p with parked := false }).setReg Reg.DDR_STATE 1 :=
  if_neg (by simp [hwarm])

/-! ### The five rows of PWR_REQ -/

theorem exec_pwrReqRun : exec (.pwrReqRun path) s = .next (s.pwrReq path 0) := rfl
theorem exec_pwrReqIdle : exec (.pwrReqIdle path) s = .next (s.pwrReq path 1) := rfl
theorem exec_pwrReqHold : exec (.pwrReqHold path) s = .next (s.pwrReq path 2) := rfl
theorem exec_pwrReqWatch : exec (.pwrReqWatch path) s = .next (s.pwrReq path 3) := rfl
theorem exec_pwrReqOff : exec (.pwrReqOff path) s = .next (s.pwrReq path 4) := rfl

section Accepted

variable (haccess : s.accessStatus path true 0x2100 2 = .ok) (hrun : s.reg Reg.PWR_STATE = 0)
include haccess hrun

theorem pwrReq_sleeps (hv : 0 < v) (hsleep : v ≠ 4) (hrefuser : s.refuser v = none) :
    s.pwrReq path v = (s.enterSleep v).respond .ok :=
  pwrReq_judged haccess hrun (request_sleeps (hrun ▸ hv) hrefuser hsleep)

theorem pwrReqRun_answers : exec (.pwrReqRun path) s = .next (s.respond .ok) := by
  rw [exec_pwrReqRun, pwrReq_judged haccess hrun (request_present hrun.symm)]

theorem pwrReqIdle_enters (hrefuser : s.refuser 1 = none) : ∃ t, exec (.pwrReqIdle path) s = .next t ∧
    t = (s.enterSleep 1).respond .ok ∧ t.reg Reg.PWR_STATE = 1 ∧ t.mem = s.mem ∧ t.power.entryUntil = s.now + 50000 ∧
    t.timing.frozen.isSome = true := by
  obtain ⟨hmem, hfrozen, huntil⟩ := enterSleep_idle_keeps (s := s)
  refine ⟨_, ?_, rfl, (reg_respond _).trans pwrState_enterSleep_idle, ?_, ?_, ?_⟩
  case refine_2 => rw [State.respond_mem, hmem]
  case refine_3 => rw [State.respond_power, huntil]
  case refine_4 => rw [State.respond_timing, hfrozen]
  rw [exec_pwrReqIdle, pwrReq_sleeps haccess hrun (by decide) (by decide) hrefuser]

theorem pwrReqHold_enters (hrefuser : s.refuser 2 = none) : ∃ t, exec (.pwrReqHold path) s = .next t ∧
    t = (s.enterSleep 2).respond .ok ∧ t.reg Reg.PWR_STATE = 2 ∧ t.power.entryUntil = s.now + 1000000 := by
  refine ⟨_, ?_, rfl, (reg_respond _).trans pwrState_enterSleep_hold, rfl⟩
  rw [exec_pwrReqHold, pwrReq_sleeps haccess hrun (by decide) (by decide) hrefuser]

theorem pwrReqWatch_enters (hrefuser : s.refuser 3 = none) : ∃ t, exec (.pwrReqWatch path) s = .next t ∧
    t = (s.enterSleep 3).respond .ok ∧ t.reg Reg.PWR_STATE = 3 ∧ t.hitches = [] ∧ t.tiles = [] ∧
    t.power.parked = s.parks := by
  refine ⟨_, ?_, rfl, (reg_respond _).trans pwrState_enterSleep_watch, enterSleep_watch_loses.1, enterSleep_watch_loses.2, rfl⟩
  rw [exec_pwrReqWatch, pwrReq_sleeps haccess hrun (by decide) (by decide) hrefuser]

theorem pwrReqOff_turnsOff (hrefuser : s.refuser 4 = none) : ∃ t, exec (.pwrReqOff path) s = .next t ∧
    t = ((s.flushOff 6).modPower fun p => { p with feedWake := s.bit Reg.WAKE_EN 6 }).respond .ok ∧ t.power.off = true := by
  refine ⟨_, ?_, rfl, rfl⟩
  rw [exec_pwrReqOff, pwrReq_judged haccess hrun]
  rw [request_accepted (by rw [hrun]; decide) hrefuser, if_pos rfl]

end Accepted

/-- Settles O16: the five requests by path and refuser, the entries, and the wakes. -/
theorem powerStateRequests : Obligations.PowerStateRequests :=
  ⟨fun _ _ => pwrReqRun_answers, fun _ _ => pwrReqIdle_enters, fun _ _ => pwrReqHold_enters, fun _ _ => pwrReqWatch_enters,
    fun _ _ => pwrReqOff_turnsOff,
    fun _ _ _ hacc hrun href => exec_pwrReqIdle.trans (congrArg _ (pwrReq_refused hacc hrun (by decide) href)),
    fun _ _ _ hacc hrun href => exec_pwrReqHold.trans (congrArg _ (pwrReq_refused hacc hrun (by decide) href)),
    fun _ _ _ hacc hrun href => exec_pwrReqWatch.trans (congrArg _ (pwrReq_refused hacc hrun (by decide) href)),
    fun _ _ _ hacc hrun href => exec_pwrReqOff.trans (congrArg _ (pwrReq_refused hacc hrun (by decide) href)),
    fun _ _ _ hacc hst hrun => exec_pwrReqRun.trans (congrArg _ (pwrReq_denied hacc hst hrun)),
    fun _ _ _ hacc hst hrun => exec_pwrReqIdle.trans (congrArg _ (pwrReq_denied hacc hst hrun)),
    fun _ _ _ hacc hst hrun => exec_pwrReqHold.trans (congrArg _ (pwrReq_denied hacc hst hrun)),
    fun _ _ _ hacc hst hrun => exec_pwrReqWatch.trans (congrArg _ (pwrReq_denied hacc hst hrun)),
    fun _ _ _ hacc hst hrun => exec_pwrReqOff.trans (congrArg _ (pwrReq_denied hacc hst hrun)),
    fun _ _ hasleep hpath => exec_pwrReqRun.trans (congrArg _ (pwrReq_own hasleep hpath)),
    fun _ _ hasleep hpath => exec_pwrReqIdle.trans (congrArg _ (pwrReq_own hasleep hpath)),
    fun _ _ hasleep hpath => exec_pwrReqHold.trans (congrArg _ (pwrReq_own hasleep hpath)),
    fun _ _ hasleep hpath => exec_pwrReqWatch.trans (congrArg _ (pwrReq_own hasleep hpath)),
    fun _ _ hasleep hpath => exec_pwrReqOff.trans (congrArg _ (pwrReq_own hasleep hpath)),
    fun _ _ _ hasleep hpath hw => exec_pwrReqRun.trans (congrArg _ (pwrReq_wakes hasleep hpath hw)),
    fun _ _ _ hasleep hpath hw => exec_pwrReqIdle.trans (congrArg _ (pwrReq_wakes hasleep hpath hw)),
    fun _ _ _ hasleep hpath hw => exec_pwrReqHold.trans (congrArg _ (pwrReq_wakes hasleep hpath hw)),
    fun _ _ _ hasleep hpath hw => exec_pwrReqWatch.trans (congrArg _ (pwrReq_wakes hasleep hpath hw)),
    fun _ _ _ hasleep hpath hw => exec_pwrReqOff.trans (congrArg _ (pwrReq_wakes hasleep hpath hw)),
    fun _ _ _ hasleep hpath hw => exec_pwrReqRun.trans (congrArg _ (pwrReq_lost hasleep hpath hw)),
    fun _ _ _ hasleep hpath hw => exec_pwrReqIdle.trans (congrArg _ (pwrReq_lost hasleep hpath hw)),
    fun _ _ _ hasleep hpath hw => exec_pwrReqHold.trans (congrArg _ (pwrReq_lost hasleep hpath hw)),
    fun _ _ _ hasleep hpath hw => exec_pwrReqWatch.trans (congrArg _ (pwrReq_lost hasleep hpath hw)),
    fun _ _ _ hasleep hpath hw => exec_pwrReqOff.trans (congrArg _ (pwrReq_lost hasleep hpath hw)),
    fun _ _ => rfl,
    fun _ _ => wake_fires, fun _ _ _ _ => wake_can, fun _ _ => wake_run, fun _ _ => wake_disabled,
    fun _ _ _ => timerWake_wakes, fun _ _ => timerWake_none, fun _ _ => spurDetect_wakes, fun _ _ => spurDetect_none,
    fun _ _ _ => wakeUp_warm, fun _ _ _ => wakeUp_cold⟩

end Sys2Proof.PowerStateProofs
end

section
/-!
PROOFS. The supply (R387–R396), the governor (R399), the reset input, the pins and the thermal protection (R481–R488): an equation for
each case of each event.
-/
namespace Sys2Proof.PowerSupplyProofs
open Sys2Proof Sys2Proof.Machine

variable {s : State}

/-! ### Feeds (R387, R404) -/

section Feeds

variable {b : Bool} {mv : BitVec 32}

theorem exec_feedOvervoltage {above : Bool} :
    exec (.feedOvervoltage b above mv) s = execFeedOvervoltage b above mv s := rfl

theorem feedPresent_none (h : s.bit Reg.FEEDS (boolNat b) = true ∨ s.bit Reg.FEEDS (4 + boolNat b) = true ∨
    mv.toNat < 36000) : exec (.feedPresent b mv) s = .next (s.setReg (feedMv b) mv.toNat) :=
  if_pos h

/-- The state with a feed on the bus. -/
def feedJoined (b : Bool) (mv : Nat) (s : State) : State :=
  ((s.setReg (feedMv b) mv).setBit Reg.FEEDS (boolNat b) true).setBit Reg.FEEDS (2 + boolNat b) false

section Joins

variable (habsent : s.bit Reg.FEEDS (boolNat b) = false) (hclosed : s.bit Reg.FEEDS (4 + boolNat b) = false)
  (hhigh : 36000 ≤ mv.toNat)
include habsent hclosed hhigh

theorem feedPresent_joins : exec (.feedPresent b mv) s =
    if s.power.off then
      .next (if s.power.resetHeld = true ∨ (!s.power.feedWake) = true then feedJoined b mv.toNat s
        else (feedJoined b mv.toNat s).turnOn)
    else .next ((feedJoined b mv.toNat s).wakeBy .feed) :=
  if_neg (by simp [habsent, hclosed, hhigh])

theorem feedPresent_turnsOn (hoff : s.power.off = true) (hfree : s.power.resetHeld = false)
    (hwake : s.power.feedWake = true) : exec (.feedPresent b mv) s = .next (feedJoined b mv.toNat s).turnOn := by
  rw [feedPresent_joins habsent hclosed hhigh, if_pos hoff, if_neg (by simp [hfree, hwake])]

theorem feedPresent_staysOff (hoff : s.power.off = true) (h : s.power.resetHeld = true ∨ s.power.feedWake = false) :
    exec (.feedPresent b mv) s = .next (feedJoined b mv.toNat s) := by
  rw [feedPresent_joins habsent hclosed hhigh, if_pos hoff, if_pos (by simpa using h)]

theorem feedPresent_wakes (hon : s.power.off = false) :
    exec (.feedPresent b mv) s = .next ((feedJoined b mv.toNat s).wakeBy .feed) := by
  rw [feedPresent_joins habsent hclosed hhigh, if_neg (by simp [hon])]

end Joins

theorem feedOvervoltage_opens : exec (.feedOvervoltage b true mv) s = .next (
    if s.bit Reg.FEEDS (4 + boolNat b) then s.setReg (feedMv b) mv.toNat
    else ((((s.setReg (feedMv b) mv.toNat).feedLost b).setBit Reg.FEEDS (4 + boolNat b) true).bump Reg.FEED_OV).supplyReport
      (boolNat b)) := by
  rw [exec_feedOvervoltage, execFeedOvervoltage, if_neg (by simp)]
  split
  case isTrue => rfl
  case isFalse => rfl

theorem feedOvervoltage_closes : exec (.feedOvervoltage b false mv) s = .next (
    if 60000 ≤ mv.toNat ∨ s.bit Reg.FEEDS (4 + boolNat b) = false then s.setReg (feedMv b) mv.toNat
    else ((s.setReg (feedMv b) mv.toNat).setBit Reg.FEEDS (4 + boolNat b) false).setBit Reg.FEEDS (boolNat b)
      (s.bit Reg.FEEDS (boolNat b) || decide (36000 ≤ mv.toNat))) := by
  simp only [exec_feedOvervoltage, execFeedOvervoltage, Bool.not_false, if_true, Bool.not_eq_true']

end Feeds

/-! ### Hold-up (R388) -/

section Holdup

variable {mj : BitVec 32}

theorem holdupOk_judgeHoldup : s.judgeHoldup.reg Reg.HOLDUP_OK =
    boolNat (s.power.bypassed && decide (600 ≤ s.reg Reg.HOLDUP_MJ)) := by
  fun_cases State.judgeHoldup <;> exact State.reg_setReg_same _ _ _

theorem inrushBypass_judges : ∃ t, exec .inrushBypass s = .next t ∧
    t = (s.modPower fun p => { p with bypassed := true }).judgeHoldup ∧
    t.reg Reg.HOLDUP_OK = if 600 ≤ s.reg Reg.HOLDUP_MJ then 1 else 0 := by
  refine ⟨_, rfl, rfl, holdupOk_judgeHoldup.trans ?_⟩
  rw [PowerStateProofs.reg_modPower, State.modPower_power, Bool.true_and, boolNat]
  exact if_congr decide_eq_true_iff rfl rfl

theorem exec_holdupCheck : exec (.holdupCheck mj) s = execHoldupCheck mj s := rfl

theorem holdupCheck_judges
    (hdue : (s.power.holdupAt.all fun t =>
      decide (t + (if s.reg Reg.HOLDUP_MJ < 600 then 3600000000000 else 86400000000000) ≤ s.now)) = true)
    (hon : s.power.off = false) : exec (.holdupCheck mj) s = .next (
      let s1 := ((s.modPower fun p => { p with holdupAt := some s.now }).setReg Reg.HOLDUP_MJ mj.toNat).judgeHoldup
      if mj.toNat < 600 then s1.supplyReport 0xFF else s1) := by
  rw [exec_holdupCheck, execHoldupCheck]
  refine if_neg ?_
  cases hat : s.power.holdupAt with
  | none => simp [hon]
  | some t =>
    rw [hat] at hdue
    simpa [hon] using hdue

theorem holdupCheck_off (hoff : s.power.off = true) : exec (.holdupCheck mj) s = .next s := if_pos (.inr hoff)

theorem holdupCheck_early {at' : Nat} (hat : s.power.holdupAt = some at')
    (hearly : s.now < at' + (if s.reg Reg.HOLDUP_MJ < 600 then 3600000000000 else 86400000000000)) :
    exec (.holdupCheck mj) s = .next s := by
  rw [exec_holdupCheck, execHoldupCheck, hat]
  exact if_pos (.inl (by simpa using hearly))

end Holdup

/-! ### Brace and LOW_INPUT (R391–R394) -/

section Brace

variable {rail : Option (Fin 8)}

theorem braceEntry_off {mv : BitVec 16} (hoff : s.power.off = true) : exec (.braceEntry rail mv) s = .next s := if_pos hoff

theorem braceEntry_vddAon {mv : BitVec 16} (hon : s.power.off = false) :
    exec (.braceEntry (some 7) mv) s = .next (s.setReg (Reg.RAIL_MV 7) mv.toNat) :=
  (if_neg (by simp [hon])).trans (if_pos rfl)

section Dip

variable {mv : BitVec 16} (hon : s.power.off = false) (hrail : rail ≠ some 7)
include hon hrail

/-- A dip of a monitored rail or of the bus in a device that is on. -/
theorem braceEntry_dip : exec (.braceEntry rail mv) s =
    if s.power.brace.isSome ∨ (rail.isNone ∧ s.reg Reg.SUPPLY_STATE = 2) then .next (s.dipSeen rail mv.toNat)
    else .next (((((s.dipSeen rail mv.toNat).accrueAcct.modPower fun p => { p with brace := some s.now }).setReg
      Reg.SUPPLY_STATE 1).bump Reg.BRACES).supplyReport (rail.elim 0xFF (·.val))) :=
  (if_neg (by simp [hon])).trans (if_neg hrail)

theorem braceEntry_enters (hbrace : s.power.brace = none) (hbus : rail ≠ none ∨ s.reg Reg.SUPPLY_STATE ≠ 2) :
    exec (.braceEntry rail mv) s = .next (
      let s1 := ((s.dipSeen rail mv.toNat).accrueAcct.modPower fun p => { p with brace := some s.now }).setReg
        Reg.SUPPLY_STATE 1
      (s1.bump Reg.BRACES).supplyReport (rail.elim 0xFF (·.val))) := by
  have hnew : ¬ (rail.isNone = true ∧ s.reg Reg.SUPPLY_STATE = 2) := by
    rw [Option.isNone_iff_eq_none]
    exact not_and_or.mpr hbus
  rw [braceEntry_dip hon hrail, if_neg (by simpa [hbrace] using hnew)]

theorem braceEntry_again (h : s.power.brace ≠ none ∨ rail = none ∧ s.reg Reg.SUPPLY_STATE = 2) :
    exec (.braceEntry rail mv) s = .next (s.dipSeen rail mv.toNat) := by
  rw [braceEntry_dip hon hrail, if_pos (by simpa [Option.isSome_iff_ne_none] using h)]

end Dip

section Leave

variable {mv : BitVec 32} {at' : Nat}

theorem exec_braceExit : exec (.braceExit mv) s = execBraceExit mv s := rfl
theorem exec_lowInputEntry : exec .lowInputEntry s = execLowInputEntry s := rfl

theorem braceExit_leaves (hbrace : s.power.brace = some at') (hlong : at' + 100000 ≤ s.now) (hhigh : 39000 < mv.toNat) :
    exec (.braceExit mv) s =
      .next ((((s.leaveBrace.setReg Reg.BUS_MV mv.toNat).setReg Reg.RAIL_STATUS 0).setReg Reg.SUPPLY_STATE 0).setError 2
        false) := by
  rw [exec_braceExit, execBraceExit, hbrace]
  exact if_neg (by omega)

theorem braceExit_none
    (h : (s.power.brace.all fun t => decide (s.now < t + 100000) || decide (mv.toNat ≤ 39000)) = true) :
    exec (.braceExit mv) s = .next s := by
  rw [exec_braceExit, execBraceExit]
  cases hbrace : s.power.brace with
  | none => rfl
  | some t =>
    rw [hbrace] at h
    exact if_pos (by simpa using h)

theorem lowInputEntry_enters (hbrace : s.power.brace = some at') (hrails : s.reg Reg.RAIL_STATUS = 0)
    (hlong : at' + s.reg Reg.BRACE_MAX_MS * 1000000 ≤ s.now) : exec .lowInputEntry s =
      .next (((s.leaveBrace.setReg Reg.SUPPLY_STATE 2).bump Reg.LOW_INPUT_ENTRIES).setError 2 true) := by
  rw [exec_lowInputEntry, execLowInputEntry, hbrace]
  exact if_neg (by omega)

theorem lowInputEntry_none
    (h : (s.power.brace.all fun t =>
      s.reg Reg.RAIL_STATUS != 0 || decide (s.now < t + s.reg Reg.BRACE_MAX_MS * 1000000)) = true) :
    exec .lowInputEntry s = .next s := by
  rw [exec_lowInputEntry, execLowInputEntry]
  cases hbrace : s.power.brace with
  | none => rfl
  | some t =>
    rw [hbrace] at h
    exact if_pos (by simpa using h)

theorem lowInputExit_leaves (hlow : s.reg Reg.SUPPLY_STATE = 2) (hhigh : 39000 < mv.toNat) : exec (.lowInputExit mv) s =
    .next (((s.accrueAcct.setReg Reg.BUS_MV mv.toNat).setReg Reg.SUPPLY_STATE 0).setError 2 false) :=
  if_neg (by omega)

theorem lowInputExit_none (h : s.reg Reg.SUPPLY_STATE ≠ 2 ∨ mv.toNat ≤ 39000) : exec (.lowInputExit mv) s = .next s :=
  if_pos h

end Leave

end Brace

/-! ### Rails, LPREG and power failure (R391, R392, R395–R397) -/

section Failure

theorem railReset_resets (hon : s.power.off = false) :
    exec .railReset s = .next ((s.bump Reg.RAIL_RESETS).coldStart 3) :=
  congrArg Host.Outcome.next (if_neg (by simp [hon]))

theorem lpregOverload_resets (hon : s.power.off = false) :
    exec .lpregOverload s = .next ((s.bump Reg.LPREG_OVL).coldStart 4) :=
  congrArg Host.Outcome.next (if_neg (by simp [hon]))

theorem railReset_off (hoff : s.power.off = true) : exec .railReset s = .next s :=
  congrArg Host.Outcome.next (if_pos hoff)

theorem lpregOverload_off (hoff : s.power.off = true) : exec .lpregOverload s = .next s :=
  congrArg Host.Outcome.next (if_pos hoff)

variable {blocks : Nat} {recovered : Bool}

theorem exec_powerFail : exec (.powerFail blocks recovered) s = execPowerFail blocks recovered s := rfl

theorem powerFail_off (hoff : s.power.off = true) : exec (.powerFail blocks recovered) s = .next s := if_pos hoff

end Failure

/-! ### The governor (R399) -/

section Governor

variable {mw : BitVec 32} {temp plate : BitVec 16}

theorem governorTick_early (hearly : s.now < s.power.govTick + 10000) : exec (.governorTick mw temp plate) s = .next s :=
  if_pos hearly

/-- What a tick of the governor keeps of what it measured. -/
def govMeasured (mw : BitVec 32) (temp plate : BitVec 16) (s : State) : State :=
  let lim := s.govLimit temp.toInt
  ((((s.accrueGov.setReg Reg.INPUT_MW mw.toNat).setReg Reg.TEMP_DIE_C temp.toNat).setReg Reg.TEMP_PLATE_C
    plate.toNat).setReg Reg.GOV_LIMIT_EFF_MW lim).modPower fun p =>
      { p with govLow := if mw.toNat + 2000 < lim then some (s.power.govLow.getD s.now) else none, govTick := s.now }

section Tick

variable (hdue : s.power.govTick + 10000 ≤ s.now)
include hdue

theorem governorTick_raises (hover : s.govLimit temp.toInt < mw.toNat) (hroom : s.reg Reg.GOV_LEVEL < 19) :
    exec (.governorTick mw temp plate) s =
      .next ((((govMeasured mw temp plate s).setReg Reg.GOV_LEVEL (s.reg Reg.GOV_LEVEL + 1)).peak Reg.GOV_LEVEL_MAX
        (s.reg Reg.GOV_LEVEL + 1)).modPower fun p => { p with govRaised := s.now }) :=
  (if_neg (Nat.not_lt.mpr hdue)).trans (if_pos ⟨hover, hroom⟩)

theorem governorTick_keeps (h : mw.toNat ≤ s.govLimit temp.toInt ∨ 19 ≤ s.reg Reg.GOV_LEVEL) :
    exec (.governorTick mw temp plate) s = .next (govMeasured mw temp plate s) :=
  (if_neg (Nat.not_lt.mpr hdue)).trans (if_neg (by omega))

end Tick

theorem exec_governorLower : exec .governorLower s = execGovernorLower s := rfl

theorem governorLower_lowers {at' : Nat} (hlow : s.power.govLow = some at') (hlevel : s.reg Reg.GOV_LEVEL ≠ 0)
    (hlong : at' + 1000000 ≤ s.now) (hspaced : s.power.govRaised + 100000 ≤ s.now) : exec .governorLower s =
      .next ((s.accrueGov.setReg Reg.GOV_LEVEL (s.reg Reg.GOV_LEVEL - 1)).modPower fun p => { p with govRaised := s.now }) := by
  rw [exec_governorLower, execGovernorLower, hlow]
  exact if_neg (by omega)

theorem governorLower_none (h : (s.power.govLow.all fun t => s.reg Reg.GOV_LEVEL == 0 || decide (s.now < t + 1000000) ||
    decide (s.now < s.power.govRaised + 100000)) = true) : exec .governorLower s = .next s := by
  rw [exec_governorLower, execGovernorLower]
  cases hlow : s.power.govLow with
  | none => rfl
  | some t =>
    rw [hlow] at h
    exact if_pos (by simpa [or_assoc] using h)

end Governor

/-! ### Thermal protection, the reset input and the pins (R481–R488) -/

section Pins

theorem thermalShutdown_flushes {temp : BitVec 16} (hon : s.power.off = false) (hhot : 125 < temp.toInt) :
    exec (.thermalShutdown temp) s =
      .next ((((s.setReg Reg.TEMP_DIE_C temp.toNat).logFault { cls := .supply }).bump Reg.THERM_SHUTDOWN).flushOff 6) :=
  if_neg (by simp [hon, hhot])

theorem thermalShutdown_none {temp : BitVec 16} (h : s.power.off = true ∨ temp.toInt ≤ 125) :
    exec (.thermalShutdown temp) s = .next s := if_pos h

theorem resetInputRelease_turnsOn (hheld : s.power.resetHeld = true) : exec .resetInputRelease s =
    .next (((s.modPower fun p => { p with resetHeld := false }).setBit Reg.PIN_IN 9 true).turnOn) :=
  if_neg (by simp [hheld])

theorem resetInputRelease_none (hfree : s.power.resetHeld = false) : exec .resetInputRelease s = .next s :=
  if_pos (by simp [hfree])

variable {pins : BitVec 6} {ma : BitVec 16} {engaged : Bool}

theorem geoChange_off (hoff : s.power.off = true) : exec (.geoChange pins) s = .next s := if_pos hoff

theorem vaonLimit_off (hoff : s.power.off = true) : exec (.vaonLimit ma engaged) s = .next s := if_pos hoff

/-- Nothing checks the hold-up, reads the GEO pins or measures VAON_OUT while the device is off. -/
theorem exec_off {c : Instr} {mj : BitVec 32} (hc : c ∈ [Instr.holdupCheck mj, .geoChange pins, .vaonLimit ma engaged])
    (hoff : s.power.off = true) : exec c s = .next s := by
  simp only [List.mem_cons, List.not_mem_nil, or_false] at hc
  rcases hc with rfl | rfl | rfl
  · exact holdupCheck_off hoff
  · exact geoChange_off hoff
  · exact vaonLimit_off hoff

section On

variable (hon : s.power.off = false)
include hon

theorem geoChange_on : exec (.geoChange pins) s = .next (
    let s2 := (s.setReg Reg.PIN_IN (setBitField (s.reg Reg.PIN_IN) 10 6 pins.toNat)).setReg Reg.GEO_CHANGED
      (boolNat (pins.toNat != s.reg Reg.DEV_NUM))
    if (pins.toNat != s.reg Reg.DEV_NUM) = true ∧ s.reg Reg.GEO_CHANGED = 0 then
      s2.logFault { cls := .other, ref := pins.toNat }
    else s2) :=
  if_neg (by simp [hon])

theorem geoChange_keeps (h : pins.toNat = s.reg Reg.DEV_NUM ∨ s.reg Reg.GEO_CHANGED ≠ 0) : exec (.geoChange pins) s =
    .next ((s.setReg Reg.PIN_IN (setBitField (s.reg Reg.PIN_IN) 10 6 pins.toNat)).setReg Reg.GEO_CHANGED
      (if pins.toNat = s.reg Reg.DEV_NUM then 0 else 1)) := by
  have hkept : ¬ ((pins.toNat != s.reg Reg.DEV_NUM) = true ∧ s.reg Reg.GEO_CHANGED = 0) := by
    rw [bne_iff_ne]
    exact fun ⟨hdiffers, hfirst⟩ => h.elim hdiffers fun hset => hset hfirst
  rw [geoChange_on hon]
  simp only [if_neg hkept]
  by_cases hpins : pins.toNat = s.reg Reg.DEV_NUM
  · simp [hpins, boolNat]
  · simp [hpins, boolNat]

theorem geoChange_records (hdiffers : pins.toNat ≠ s.reg Reg.DEV_NUM) (hfirst : s.reg Reg.GEO_CHANGED = 0) :
    exec (.geoChange pins) s =
      .next (((s.setReg Reg.PIN_IN (setBitField (s.reg Reg.PIN_IN) 10 6 pins.toNat)).setReg Reg.GEO_CHANGED 1).logFault
        { cls := .other, ref := pins.toNat }) := by
  have hset : (pins.toNat != s.reg Reg.DEV_NUM) = true := bne_iff_ne.mpr hdiffers
  rw [geoChange_on hon, hset]
  exact congrArg _ (if_pos ⟨rfl, hfirst⟩)

theorem vaonLimit_keeps : exec (.vaonLimit ma engaged) s = .next (
    if engaged then ((s.setReg Reg.VAON_MA ma.toNat).bump Reg.VAON_LIMIT).logFault { cls := .other }
    else s.setReg Reg.VAON_MA ma.toNat) :=
  if_neg (by simp [hon])

/-- A power failure flushes what the energy allows and turns off; a feed that returned turns the device on again, unless RESET_N
holds it. -/
theorem powerFail_flushes {blocks : Nat} {recovered : Bool} : exec (.powerFail blocks recovered) s = .next (
    let s1 := (s.flushStable (if s.reg Reg.HOLDUP_OK = 1 then s.flushBlocks + 2336 else blocks)).bump Reg.PF_EVENTS
    let s2 := if s.flushBlocks + 2336 ≤ (if s.reg Reg.HOLDUP_OK = 1 then s.flushBlocks + 2336 else blocks) then
      s1.powerOff 1 else (s1.bump Reg.PF_INCOMPLETE).powerOff 2
    if !recovered then s2
    else if s.power.resetHeld then s2.bump Reg.PF_RECOVERED else s2.turnOn.bump Reg.PF_RECOVERED) := by
  rw [exec_powerFail, execPowerFail, if_neg (by simp [hon])]
  simp only [decide_eq_true_eq]
  generalize (if s.reg Reg.HOLDUP_OK = 1 then s.flushBlocks + 2336 else blocks) = energy
  by_cases hwhole : s.flushBlocks + 2336 ≤ energy
  · simp only [if_pos hwhole]
    cases recovered <;> cases s.power.resetHeld <;> rfl
  · simp only [if_neg hwhole]
    cases recovered <;> cases s.power.resetHeld <;> rfl

end On

end Pins

/-- Settles O33: the supply and its pins, event by event. -/
theorem powerSupply : Obligations.PowerSupply :=
  ⟨fun _ _ _ => feedPresent_turnsOn, fun _ _ _ => feedPresent_staysOff, fun _ _ _ => feedPresent_wakes,
    fun _ _ _ => feedPresent_none, fun _ _ _ => rfl, fun _ _ => rfl, fun _ _ _ => feedOvervoltage_opens,
    fun _ _ _ => feedOvervoltage_closes,
    fun _ => inrushBypass_judges, fun _ _ => holdupCheck_judges, fun _ _ _ => holdupCheck_early,
    fun _ _ _ => braceEntry_enters, fun _ _ _ => braceEntry_again, fun _ _ _ => braceEntry_off, fun _ _ => braceEntry_vddAon,
    fun _ _ _ => braceExit_leaves, fun _ _ => braceExit_none, fun _ _ => lowInputEntry_enters, fun _ => lowInputEntry_none,
    fun _ _ => lowInputExit_leaves, fun _ _ => lowInputExit_none,
    fun _ => railReset_resets, fun _ hoff => ⟨railReset_off hoff, lpregOverload_off hoff⟩, fun _ => lpregOverload_resets,
    fun _ _ _ hon => powerFail_flushes hon, fun _ _ _ => powerFail_off,
    fun _ _ _ _ => governorTick_raises, fun _ _ _ _ => governorTick_keeps, fun _ _ _ _ => governorTick_early,
    fun _ _ => governorLower_lowers, fun _ => governorLower_none,
    fun _ _ => thermalShutdown_flushes, fun _ _ => thermalShutdown_none,
    fun _ => rfl, fun _ => resetInputRelease_turnsOn, fun _ => resetInputRelease_none,
    fun _ _ _ _ _ _ => exec_off, fun _ _ => geoChange_keeps, fun _ _ => geoChange_records, fun _ _ _ => vaonLimit_keeps⟩

end Sys2Proof.PowerSupplyProofs
end

section
/-!
PROOFS. The arrival of SETTLE at a device other than the master (R466): what it answers, and why the statement about the faults is not
met: the text of the reply that the statement writes is broken by a line end, and is no message that the model sends.
-/
namespace Sys2Proof.FaultProofs
open Sys2Proof Sys2Proof.Machine

variable {s : State} {dev : Fin 64} {step : Nat}

/-- Another device than the master, held by a settle, zeroes its counts, resumes and replies. -/
theorem settle_other (hslave : s.isMaster = false) (hheld : s.fabric.settling = true) :
    exec (.settle dev step) s = .next
      ((((s.takeStep step).zeroCounts).modFabric fun f => { f with settling := false }).emit (.ctrl 0 "SETTLE reply" 0)) :=
  (if_pos (by simp [hslave])).trans (congrArg Host.Outcome.next (if_pos hheld))

/-- Device 1 of a system, whose releases a settle holds. -/
def heldDevice : State :=
  { State.reset with regs := [(Reg.DEV_NUM.key, 1)], fabric := { settling := true } }

/-- All that leaves a held device on a SETTLE is its reply. -/
theorem out_settle_heldDevice : exec (.settle 0 0) heldDevice = .next
    { heldDevice.zeroCounts.modFabric fun f => { f with settling := false } with out := [.ctrl 0 "SETTLE reply" 0] } :=
  settle_other rfl rfl

/-- Refutes O35: the statement has a held device reply `SETTLE`, a line end, twelve blanks and `reply`, where it replies `SETTLE reply`;
device 1 with its releases held is the counterexample. -/
theorem not_faultHandling : ¬ Obligations.FaultHandling := by
  rintro ⟨-, -, -, -, -, -, -, -, -, -, -, hsettle, -⟩
  have hreply := out_settle_heldDevice.symm.trans (hsettle 0 0 heldDevice rfl)
  have hout := congrArg State.out (Host.Outcome.next.inj hreply)
  exact absurd hout (by decide)

end Sys2Proof.FaultProofs
end

section
/-!
PROOFS. The Host Transfer Protocol (R362–R366): what turns a request away and what executes it, HELLO, replies, and the end of a
session.
-/
namespace Sys2Proof.HtpProofs
open Sys2Proof Sys2Proof.Machine

variable {s u : State} {x : HtpFrame} {op : Nat} {y : Session} {a : Status × List Byte}

/-! ### A request turned away (R365), case by case -/

theorem htpTurnedAway_untaken (h : s.takesHtp x.peer = false ∨ x.isFor op = false) : s.htpTurnedAway x op = some s :=
  if_pos (by simpa using h)

section Taken

variable (htakes : s.takesHtp x.peer = true) (hfor : x.isFor op = true)
include htakes hfor

/-- Past the port and the row, R365 judges the frame itself. -/
theorem htpTurnedAway_taken : s.htpTurnedAway x op =
    if x.bad then some ((s.bump Reg.HTP_BADFRAME).reply x op .badFormat [])
    else if s.update.recovery ∧ !servedInRecovery op then some (s.reply x op .refused [])
    else match s.session x.peer with
      | none => some (s.reply x op .refused [])
      | some y =>
        if 16 ≤ y.replies.length then some (if x.peer = .usb then s else s.bump Reg.HTP_BADFRAME)
        else if y.version ≠ x.version.toNat then some ((s.bump Reg.HTP_VERSION_REF).reply x op .version [])
        else if reservedOp x.op then some ((s.bump Reg.HTP_BADFRAME).reply x x.op .badFormat [])
        else none :=
  if_neg (by simp [htakes, hfor])

theorem htpTurnedAway_bad (hbad : x.bad = true) :
    s.htpTurnedAway x op = some ((s.bump Reg.HTP_BADFRAME).reply x op .badFormat []) := by
  rw [htpTurnedAway_taken htakes hfor, if_pos hbad]

variable (hgood : x.bad = false)
include hgood

theorem htpTurnedAway_unserved (hrecovery : s.update.recovery = true) (hserved : servedInRecovery op = false) :
    s.htpTurnedAway x op = some (s.reply x op .refused []) := by
  rw [htpTurnedAway_taken htakes hfor, if_neg (by simp [hgood]), if_pos (by simp [hrecovery, hserved])]

variable (hserved : s.update.recovery = false ∨ servedInRecovery op = true)
include hserved

theorem htpTurnedAway_sessionless (hsession : s.session x.peer = none) :
    s.htpTurnedAway x op = some (s.reply x op .refused []) := by
  rw [htpTurnedAway_taken htakes hfor, if_neg (by simp [hgood]),
    if_neg (by rcases hserved with h | h <;> simp [h]), hsession]

variable (hsession : s.session x.peer = some y)
include hsession

theorem htpTurnedAway_session : s.htpTurnedAway x op =
    if 16 ≤ y.replies.length then some (if x.peer = .usb then s else s.bump Reg.HTP_BADFRAME)
    else if y.version ≠ x.version.toNat then some ((s.bump Reg.HTP_VERSION_REF).reply x op .version [])
    else if reservedOp x.op then some ((s.bump Reg.HTP_BADFRAME).reply x x.op .badFormat [])
    else none := by
  rw [htpTurnedAway_taken htakes hfor, if_neg (by simp [hgood]),
    if_neg (by rcases hserved with h | h <;> simp [h]), hsession]

theorem htpTurnedAway_full (hfull : 16 ≤ y.replies.length) :
    s.htpTurnedAway x op = some (if x.peer = .usb then s else s.bump Reg.HTP_BADFRAME) := by
  rw [htpTurnedAway_session htakes hfor hgood hserved hsession, if_pos hfull]

variable (hroom : y.replies.length < 16)
include hroom

theorem htpTurnedAway_version (hversion : y.version ≠ x.version.toNat) :
    s.htpTurnedAway x op = some ((s.bump Reg.HTP_VERSION_REF).reply x op .version []) := by
  rw [htpTurnedAway_session htakes hfor hgood hserved hsession, if_neg hroom.not_ge, if_pos hversion]

variable (hversion : y.version = x.version.toNat)
include hversion

theorem htpTurnedAway_reserved (hreserved : reservedOp x.op = true) :
    s.htpTurnedAway x op = some ((s.bump Reg.HTP_BADFRAME).reply x x.op .badFormat []) := by
  rw [htpTurnedAway_session htakes hfor hgood hserved hsession, if_neg hroom.not_ge, if_neg (not_not.mpr hversion),
    if_pos hreserved]

theorem htpTurnedAway_none (hdefined : reservedOp x.op = false) : s.htpTurnedAway x op = none := by
  rw [htpTurnedAway_session htakes hfor hgood hserved hsession, if_neg hroom.not_ge, if_neg (not_not.mpr hversion),
    if_neg (by simp [hdefined])]

end Taken

/-- Nothing turns away a request that is ready. -/
theorem htpTurnedAway_ready (hready : s.htpReady x op y) (hdefined : reservedOp op = false) :
    s.htpTurnedAway x op = none := by
  obtain ⟨htakes, hgood, rfl, hserved, hsession, hroom, hversion⟩ := hready
  exact htpTurnedAway_none htakes (by simp [HtpFrame.isFor]) hgood hserved hsession hroom hversion hdefined

/-! ### A request executed, or not -/

section Executed

variable {f : State → Option (Status × List Byte) × State}

theorem htp_turnedAway (h : s.htpTurnedAway x op = some u) : s.htp x op f = u := by
  rw [State.htp, h]

variable (hready : s.htpReady x op y) (hdefined : reservedOp op = false)
include hready hdefined

theorem htp_answers (hf : f (s.htpTaken x) = (some a, u)) : s.htp x op f = u.reply x op a.1 a.2 := by
  simp only [State.htp, htpTurnedAway_ready hready hdefined, hf]

theorem htp_later (hf : f (s.htpTaken x) = (none, u)) : s.htp x op f =
    u.modSession x.peer fun z => { z with replies := z.replies ++ [{ op := op, tag := x.tag.toNat }] } := by
  simp only [State.htp, htpTurnedAway_ready hready hdefined, hf]

end Executed

theorem updOp_htp {text : String} {f : List Byte → State → Option (Status × List Byte) × State} :
    s.updOp (.htp x) op text f = s.htp x op (f x.payload) := rfl

theorem exec_of_htpRow {c : Instr} (hrow : htpRow c = some (x, op)) (haway : s.htpTurnedAway x op = some u) :
    exec c s = .next u := by
  rw [htpRow.eq_def] at hrow
  split at hrow <;> cases hrow
  case h_7 =>
    show execBye x s = _
    rw [execBye, haway]
  case h_8 | h_10 => exact congrArg Host.Outcome.next (updOp_htp.trans (htp_turnedAway haway))
  all_goals exact congrArg Host.Outcome.next (htp_turnedAway haway)

theorem exec_memWrite {data : List Byte} (hnow : x.bad = true ∨ memRange x = false ∨ x.peer ≠ .usb ∨ htpField x 8 4 ≤ data.length) :
    exec (.memWrite x data) s = .next (s.htp x 7 fun s =>
      if !memRange x ∨ (if x.peer = .usb then data else x.payload.drop 12).length < htpField x 8 4 then (some (.badFormat, []), s)
      else
        let r := s.hostWrite (htpField x 0 8) ((if x.peer = .usb then data else x.payload.drop 12).take (htpField x 8 4))
        (some (r.1, []), r.2)) :=
  if_neg fun ⟨hgood, hrange, husb, hshort⟩ => by
    rcases hnow with h | h | h | h
    · simp [h] at hgood
    · simp [h] at hrange
    · exact h husb
    · exact hshort.not_ge h

theorem exec_memWriteTimeout {data : List Byte} (hgood : x.bad = false) (hrange : memRange x = true) (husb : x.peer = .usb)
    (hshort : data.length < htpField x 8 4) : exec (.memWriteTimeout x data) s = .next (match s.htpTurnedAway x 7 with
      | some t => t
      | none => (((s.htpHeard x).hostWrite (htpField x 0 8) data).2.bump Reg.HTP_TIMEOUT).reply x 7 .timeout []) :=
  if_neg (by simp [hgood, hrange, husb, hshort])

/-! ### HELLO (R364) -/

theorem hello_ignored (h : s.takesHtp x.peer = false ∨ x.bad = false ∧ x.op ≠ 1) : exec (.hello x) s = .next s :=
  if_pos (by simpa using h)

theorem hello_bad (htakes : s.takesHtp x.peer = true) (hbad : x.bad = true) :
    exec (.hello x) s = .next ((s.bump Reg.HTP_BADFRAME).reply x 1 .badFormat []) := by
  show execHello x s = _
  rw [execHello, if_neg (by simp [htakes, hbad]), if_pos hbad]

section Hello

variable (htakes : s.takesHtp x.peer = true) (hgood : x.bad = false) (hop : x.op = 1)
include htakes hgood hop

theorem hello_short (hshort : x.payload.length < 2) :
    exec (.hello x) s = .next ((s.bump Reg.HTP_BADFRAME).reply x 1 .badFormat []) := by
  show execHello x s = _
  rw [execHello, if_neg (by simp [htakes, hop]), if_neg (by simp [hgood]), if_pos hshort]

variable (hlong : 2 ≤ x.payload.length)
include hlong

section InRange

variable (hlo : htpField x 0 1 ≤ min (htpField x 1 1) (s.reg Reg.HTP_RANGE / 256))
  (hrange : s.reg Reg.HTP_RANGE % 256 ≤ min (htpField x 1 1) (s.reg Reg.HTP_RANGE / 256))
include hlo hrange

theorem hello_full (hfull : s.sessionsFull x.peer = true) : exec (.hello x) s = .next (s.reply x 1 .refused []) := by
  show execHello x s = _
  rw [execHello, if_neg (by simp [htakes, hop]), if_neg (by simp [hgood]), if_neg hlong.not_gt]
  exact if_pos ⟨hfull, hlo, hrange⟩

theorem hello_opens (hroom : s.sessionsFull x.peer = false) : exec (.hello x) s = .next (
    let v := min (htpField x 1 1) (s.reg Reg.HTP_RANGE / 256)
    let s1 := s.endSessions fun y => decide (y.peer = x.peer)
    let s2 : State := { s1 with
      host := { s1.host with
        sessions := s1.host.sessions ++ [{ peer := x.peer, version := v, lastAt := s.now }] } }
    (s2.bump Reg.HTP_FRAMES).reply x 1 .ok (s2.helloData v)) := by
  show execHello x s = _
  rw [execHello, if_neg (by simp [htakes, hop]), if_neg (by simp [hgood]), if_neg hlong.not_gt,
    if_neg (by simp [hroom])]
  exact if_neg (not_or.mpr ⟨hlo.not_gt, hrange.not_gt⟩)

end InRange

theorem hello_unversioned (hnone : min (htpField x 1 1) (s.reg Reg.HTP_RANGE / 256) < htpField x 0 1 ∨
      min (htpField x 1 1) (s.reg Reg.HTP_RANGE / 256) < s.reg Reg.HTP_RANGE % 256) : exec (.hello x) s =
    .next (((s.endSessions fun y => decide (y.peer = x.peer)).bump Reg.HTP_FRAMES).reply x 1 .version []) := by
  show execHello x s = _
  have hbar : ¬ (s.sessionsFull x.peer = true ∧ htpField x 0 1 ≤ min (htpField x 1 1) (s.reg Reg.HTP_RANGE / 256) ∧
      s.reg Reg.HTP_RANGE % 256 ≤ min (htpField x 1 1) (s.reg Reg.HTP_RANGE / 256)) := fun ⟨_, hlo, hrange⟩ =>
    hnone.elim hlo.not_gt hrange.not_gt
  rw [execHello, if_neg (by simp [htakes, hop]), if_neg (by simp [hgood]), if_neg hlong.not_gt, if_neg hbar]
  exact if_pos hnone

end Hello

/-! ### Replies and sessions (R364–R366) -/

/-- A session keeps its peer where it is changed. -/
theorem session_modSession {p : Peer} {f : Session → Session} (hpeer : ∀ z, (f z).peer = z.peer) :
    (s.modSession p f).session p = (s.session p).map f := by
  show (s.host.sessions.map fun z => if z.peer = p then f z else z).find? _ = (s.host.sessions.find? _).map f
  induction s.host.sessions with
  | nil => rfl
  | cons z l ih =>
    by_cases hz : z.peer = p
    · simp [hz, hpeer]
    · simpa [hz] using ih

theorem session_bump {o : Obj} {p : Peer} : (s.bump o).session p = s.session p := rfl

theorem session_htpTaken : (s.htpTaken x).session x.peer = (s.session x.peer).map fun z => { z with lastAt := s.now } :=
  session_bump.trans (session_modSession fun _ => rfl)

theorem reply_resp {r : Status} {d : List Byte} : (s.reply x op r d).resp = ⟨r, d⟩ := by
  rw [State.reply]
  cases s.session x.peer <;> rfl

/-- A session whose replies held are one that is answered sends it. -/
theorem flushReplies_one {p : Peer} {r : HeldReply} (hsession : s.session p = some y) (hreplies : y.replies = [r])
    (hanswer : r.answer = some a) : (s.flushReplies p).out =
      ((s.modSession p fun z => { z with replies := z.replies.dropWhile fun r => r.answer.isSome }).transmit p
        (replyFrames p r.op r.tag a.1 a.2)).out := by
  simp only [State.flushReplies, hsession, hreplies, List.takeWhile, hanswer, Option.isSome_some, List.flatMap_cons,
    List.flatMap_nil, List.append_nil]

theorem reply_usb_out {r : Status} {d : List Byte} (husb : x.peer = .usb) (hsession : s.session x.peer = some y)
    (hnone : y.replies = []) : (s.reply x op r d).out = s.out ++ replyFrames .usb op x.tag.toNat r d := by
  have hheld := session_modSession (s := s) (p := x.peer)
    (f := fun y => { y with replies := y.replies ++ [{ op := op, tag := x.tag.toNat, answer := some (r, d) }] }) fun _ => rfl
  rw [hsession, Option.map_some] at hheld
  simp only [State.reply, hsession]
  refine (flushReplies_one hheld (by rw [hnone]; rfl) rfl).trans ?_
  rw [husb]
  rfl

theorem bye_ready (hready : s.htpReady x 9 y) : exec (.bye x) s =
    .next (((s.htpTaken x).reply x 9 .ok []).endSessions fun z => decide (z.peer = x.peer)) := by
  show execBye x s = _
  rw [execBye, htpTurnedAway_ready hready rfl]

theorem notifySet_ready (hready : s.htpReady x 8 y) : exec (.notifySet x) s =
    .next (((s.htpTaken x).modSession x.peer fun z => { z with mask := htpField x 0 4 % 8 }).reply x 8 .ok []) :=
  congrArg Host.Outcome.next (htp_answers (f := fun s =>
    (some (.ok, []), s.modSession x.peer fun y => { y with mask := htpField x 0 4 % 8 })) hready rfl rfl)

theorem htpSessionTimeout_some {p : Peer} (hsession : s.session p = some y) : exec (.htpSessionTimeout p) s =
    .next (if p ≠ .usb ∧ y.lastAt + 10000000000 ≤ s.now then s.endSessions fun z => decide (z.peer = p) else s) := by
  show execHtpSessionTimeout p s = _
  rw [execHtpSessionTimeout, hsession]

theorem htpSessionTimeout_none {p : Peer} (hsession : s.session p = none) : exec (.htpSessionTimeout p) s = .next s := by
  show execHtpSessionTimeout p s = _
  rw [execHtpSessionTimeout, hsession]

theorem htpSessionTimeout_kept {p : Peer} (hsession : s.session p = some y)
    (hkept : p = .usb ∨ s.now < y.lastAt + 10000000000) : exec (.htpSessionTimeout p) s = .next s := by
  rw [htpSessionTimeout_some hsession, if_neg]
  exact fun ⟨hport, hsilent⟩ => hkept.elim hport hsilent.not_gt

/-- Settles O21: R365's cases each turn a request away, a ready request meets none, and the rows are `State.htp` of their
opcodes. -/
theorem htpRequests : Obligations.HtpRequests :=
  ⟨fun _ _ ht hg ho hl hroom hlo hr => hello_opens ht hg ho hl hlo hr hroom,
    fun _ _ ht hg ho hl hn => hello_unversioned ht hg ho hl hn,
    fun _ _ ht hg ho hl hfull hlo hr => hello_full ht hg ho hl hlo hr hfull,
    fun _ _ ht hg ho hs => hello_short ht hg ho hs,
    fun _ _ ht hb => hello_bad ht hb,
    fun _ _ h => hello_ignored h,
    fun _ _ _ _ _ hrow haway => exec_of_htpRow hrow haway,
    fun _ _ _ _ hnow haway => (exec_memWrite hnow).trans (congrArg _ (htp_turnedAway haway)),
    fun _ _ _ _ hg hr hu hs haway => by rw [exec_memWriteTimeout hg hr hu hs, haway],
    fun _ _ _ h => htpTurnedAway_untaken h,
    fun _ _ _ ht hf hb => htpTurnedAway_bad ht hf hb,
    fun _ _ _ ht hf hg hr hs => htpTurnedAway_unserved ht hf hg hr hs,
    fun _ _ _ ht hf hg hs hn => htpTurnedAway_sessionless ht hf hg hs hn,
    fun _ _ _ _ ht hf hg hs hy hfull => htpTurnedAway_full ht hf hg hs hy hfull,
    fun _ _ _ _ ht hf hg hs hy hroom hv => htpTurnedAway_version ht hf hg hs hy hroom hv,
    fun _ _ _ _ ht hf hg hs hy hroom hv hres => htpTurnedAway_reserved ht hf hg hs hy hroom hv hres,
    fun _ _ _ _ ht hf hg hs hy hroom hv hres => htpTurnedAway_none ht hf hg hs hy hroom hv hres,
    fun _ _ _ _ _ => reply_resp,
    fun _ _ _ _ _ _ hu hs hn => reply_usb_out hu hs hn,
    fun _ _ _ hready => bye_ready hready,
    fun _ _ _ hready => notifySet_ready hready,
    fun _ _ _ hs hport hsilent => by rw [htpSessionTimeout_some hs, if_pos ⟨hport, hsilent⟩],
    fun _ _ _ hs hkept => htpSessionTimeout_kept hs hkept,
    fun _ _ hs => htpSessionTimeout_none hs⟩

end Sys2Proof.HtpProofs
end

section
/-!
PROOFS. The HTP requests that carry data (R355, R363, R365, R366, R371): the dictionary, the queues, and memory.
-/
namespace Sys2Proof.HtpDataProofs
open Sys2Proof Sys2Proof.Machine Sys2Proof.HtpProofs

variable {s u t : State} {x : HtpFrame} {op : Nat} {y : Session} {f : WriteFacts} {w : StagedWrite} {data : List Byte}

/-! ### DICT_READ -/

theorem dictRead_short (hready : s.htpReady x 2 y) (hshort : x.payload.length < 12) :
    exec (.dictRead x) s = .next ((s.htpTaken x).reply x 2 .badFormat []) :=
  congrArg Host.Outcome.next (htp_answers (a := (.badFormat, [])) hready rfl (if_pos hshort))

section Whole

variable (hready : s.htpReady x 2 y) (hlong : 12 ≤ x.payload.length)
include hready hlong

/-- HTP_IN_USE reads the version of the session, which being heard leaves as it was. -/
theorem dictRead_own (hown : (s.htpTaken x).isOwn (htpField x 0 1) = true) : exec (.dictRead x) s = .next (
    let r := (s.htpTaken x).readAny (peerPath x.peer) y.version (htpField x 2 2) (htpField x 1 1)
    r.2.2.reply x 2 r.1 ((r.2.1.drop (htpField x 4 4)).take (htpField x 8 4))) := by
  have hsession : (s.htpTaken x).session x.peer = some { y with lastAt := s.now } := by
    rw [session_htpTaken, hready.2.2.2.2.1]
    rfl
  refine congrArg Host.Outcome.next (htp_answers (a := (_, _)) hready rfl ?_)
  simp only [if_neg hlong.not_gt, if_pos hown, hsession]

theorem dictRead_remote (hother : (s.htpTaken x).isOwn (htpField x 0 1) = false) : exec (.dictRead x) s = .next (
    let t := s.htpTaken x
    let a : RemoteAccess :=
      { tag := 0, dev := htpField x 0 1, index := htpField x 2 2, sub := htpField x 1 1, write := false, peer := x.peer,
        htpTag := x.tag.toNat, sentAt := t.now, offset := htpField x 4 4, want := htpField x 8 4 }
    (t.forwardAccess a).modSession x.peer fun z => { z with replies := z.replies ++ [{ op := 2, tag := x.tag.toNat }] }) :=
  congrArg Host.Outcome.next (htp_later hready rfl ((if_neg hlong.not_gt).trans (if_neg (by simp [hother]))))

end Whole

/-! ### DICT_WRITE -/

theorem dictWrite_short (hready : s.htpReady x 3 y) (hshort : x.payload.length < 12) :
    exec (.dictWrite x f) s = .next ((s.htpTaken x).reply x 3 .badFormat []) :=
  congrArg Host.Outcome.next (htp_answers (a := (.badFormat, [])) hready rfl (if_pos hshort))

section Segment

variable (hu : (if htpField x 4 4 = 0 then t.dropStaged x.peer else t) = u)
  (hw : u.stagedFor x.peer ⟨htpField x 0 1, htpField x 2 2, htpField x 1 1, htpField x 8 4, []⟩ = w)
include hu hw

theorem dictSegment_eq : t.dictSegment x f =
    if !(w.dev == htpField x 0 1 && w.index == htpField x 2 2 && w.sub == htpField x 1 1 && w.total == htpField x 8 4) ∨
        htpField x 4 4 ≠ w.data.length ∨ w.total < (w.data ++ x.payload.drop 12).length then
      (some (.badFormat, []), u.dropStaged x.peer)
    else if x.more then
      (some (.ok, []), u.modSession x.peer fun z => { z with staged := some { w with data := w.data ++ x.payload.drop 12 } })
    else if (w.data ++ x.payload.drop 12).length ≠ w.total then (some (.badFormat, []), u.dropStaged x.peer)
    else (u.modSession x.peer fun z => { z with staged := none }).dictWrite x { w with data := w.data ++ x.payload.drop 12 } f := by
  subst hu hw
  rfl

theorem dictSegment_misplaced (hbad : w.dev ≠ htpField x 0 1 ∨ w.index ≠ htpField x 2 2 ∨ w.sub ≠ htpField x 1 1 ∨
      w.total ≠ htpField x 8 4 ∨ htpField x 4 4 ≠ w.data.length ∨ w.total < w.data.length + (x.payload.drop 12).length) :
    t.dictSegment x f = (some (.badFormat, []), u.dropStaged x.peer) := by
  rw [dictSegment_eq hu hw, if_pos]
  rw [List.length_append]
  rwa [Bool.not_eq_true', Bool.and_eq_false_iff, Bool.and_eq_false_iff, Bool.and_eq_false_iff, beq_eq_false_iff_ne,
    beq_eq_false_iff_ne, beq_eq_false_iff_ne, beq_eq_false_iff_ne, or_assoc, or_assoc, or_assoc]

variable (hdev : w.dev = htpField x 0 1) (hindex : w.index = htpField x 2 2) (hsub : w.sub = htpField x 1 1)
  (htotal : w.total = htpField x 8 4) (hoffset : htpField x 4 4 = w.data.length)
include hdev hindex hsub htotal hoffset

theorem dictSegment_placed (hfits : w.data.length + (x.payload.drop 12).length ≤ w.total) : t.dictSegment x f =
    if x.more then
      (some (.ok, []), u.modSession x.peer fun z => { z with staged := some { w with data := w.data ++ x.payload.drop 12 } })
    else if (w.data ++ x.payload.drop 12).length ≠ w.total then (some (.badFormat, []), u.dropStaged x.peer)
    else (u.modSession x.peer fun z => { z with staged := none }).dictWrite x { w with data := w.data ++ x.payload.drop 12 } f := by
  rw [dictSegment_eq hu hw, if_neg]
  rw [List.length_append]
  simp only [hdev, hindex, hsub, htotal, hoffset] at hfits ⊢
  simpa using hfits

theorem dictSegment_staged (hfits : w.data.length + (x.payload.drop 12).length ≤ w.total) (hmore : x.more = true) :
    t.dictSegment x f =
      (some (.ok, []), u.modSession x.peer fun z => { z with staged := some { w with data := w.data ++ x.payload.drop 12 } }) := by
  rw [dictSegment_placed hu hw hdev hindex hsub htotal hoffset hfits, if_pos hmore]

variable (hlast : x.more = false)
include hlast

theorem dictSegment_partial (hpart : w.data.length + (x.payload.drop 12).length < w.total) :
    t.dictSegment x f = (some (.badFormat, []), u.dropStaged x.peer) := by
  rw [dictSegment_placed hu hw hdev hindex hsub htotal hoffset hpart.le, if_neg (by simp [hlast]), if_pos]
  rw [List.length_append]
  exact hpart.ne

theorem dictSegment_whole (hwhole : w.data.length + (x.payload.drop 12).length = w.total) : t.dictSegment x f =
    (u.modSession x.peer fun z => { z with staged := none }).dictWrite x { w with data := w.data ++ x.payload.drop 12 } f := by
  rw [dictSegment_placed hu hw hdev hindex hsub htotal hoffset hwhole.le, if_neg (by simp [hlast]), if_neg]
  rw [List.length_append]
  exact not_not.mpr hwhole

end Segment

theorem dictWrite_own {v : State} (hown : v.isOwn w.dev = true) : v.dictWrite x w f =
    (some ((v.writeObj (peerPath x.peer) w.index w.sub w.data f).1, []),
      (v.writeObj (peerPath x.peer) w.index w.sub w.data f).2) := if_pos hown

theorem dictWrite_remote {v : State} (hother : v.isOwn w.dev = false) : v.dictWrite x w f = (none, v.forwardAccess
    { tag := 0, dev := w.dev, index := w.index, sub := w.sub, write := true, peer := x.peer, htpTag := x.tag.toNat,
      sentAt := v.now, data := w.data }) := if_neg (by simp [hother])

section WholePayload

variable (hready : s.htpReady x 3 y) (hlong : 12 ≤ x.payload.length)
include hready hlong

theorem exec_dictWrite_answers {a : Status × List Byte} (hsegment : (s.htpTaken x).dictSegment x f = (some a, u)) :
    exec (.dictWrite x f) s = .next (u.reply x 3 a.1 a.2) :=
  congrArg Host.Outcome.next (htp_answers hready rfl ((if_neg hlong.not_gt).trans hsegment))

theorem exec_dictWrite_later (hsegment : (s.htpTaken x).dictSegment x f = (none, u)) : exec (.dictWrite x f) s =
    .next (u.modSession x.peer fun z => { z with replies := z.replies ++ [{ op := 3, tag := x.tag.toNat }] }) :=
  congrArg Host.Outcome.next (htp_later hready rfl ((if_neg hlong.not_gt).trans hsegment))

end WholePayload

/-! ### Queues -/

theorem qPush_ready (hready : s.htpReady x 4 y) (hlong : 36 ≤ x.payload.length) (hqueue : htpField x 0 2 < 32768) :
    exec (.qPush x) s = .next (
      let t := (s.htpTaken x).push .host (htpField x 0 2) (entryOfBytes ((x.payload.drop 4).take 32))
      t.reply x 4 t.resp.status []) :=
  congrArg Host.Outcome.next (htp_answers (a := (_, [])) hready rfl (if_neg (not_or.mpr ⟨hlong.not_gt, hqueue.not_ge⟩)))

theorem qPush_bad (hready : s.htpReady x 4 y) (hbad : x.payload.length < 36 ∨ 32768 ≤ htpField x 0 2) :
    exec (.qPush x) s = .next ((s.htpTaken x).reply x 4 .badFormat []) :=
  congrArg Host.Outcome.next (htp_answers (a := (.badFormat, [])) hready rfl (if_pos hbad))

theorem qConsume_ready (hready : s.htpReady x 5 y) (hlong : 8 ≤ x.payload.length) (hqueue : htpField x 0 2 < 32768) :
    exec (.qConsume x) s = .next (
      let t := (s.htpTaken x).consume .host (htpField x 0 2) (htpField x 4 4)
      t.reply x 5 t.resp.status []) :=
  congrArg Host.Outcome.next (htp_answers (a := (_, [])) hready rfl (if_neg (not_or.mpr ⟨hlong.not_gt, hqueue.not_ge⟩)))

theorem qConsume_bad (hready : s.htpReady x 5 y) (hbad : x.payload.length < 8 ∨ 32768 ≤ htpField x 0 2) :
    exec (.qConsume x) s = .next ((s.htpTaken x).reply x 5 .badFormat []) :=
  congrArg Host.Outcome.next (htp_answers (a := (.badFormat, [])) hready rfl (if_pos hbad))

/-! ### Memory -/

theorem memRead_ready (hready : s.htpReady x 6 y) (hrange : memRange x = true) : exec (.memRead x) s = .next (
    let r := (s.htpTaken x).hostRead (htpField x 0 8) (htpField x 8 4)
    r.2.2.reply x 6 r.1 r.2.1) :=
  congrArg Host.Outcome.next (htp_answers (a := (_, _)) hready rfl (if_neg (by simp [hrange])))

theorem memRead_bad (hready : s.htpReady x 6 y) (hrange : memRange x = false) :
    exec (.memRead x) s = .next ((s.htpTaken x).reply x 6 .badFormat []) :=
  congrArg Host.Outcome.next (htp_answers (a := (.badFormat, [])) hready rfl (if_pos (by simp [hrange])))

/-- MEM_WRITE on USB writes what came on EP2 OUT. -/
theorem memWrite_usb (hready : s.htpReady x 7 y) (hrange : memRange x = true) (husb : x.peer = .usb)
    (hall : htpField x 8 4 ≤ data.length) : exec (.memWrite x data) s = .next (
      let r := (s.htpTaken x).hostWrite (htpField x 0 8) (data.take (htpField x 8 4))
      r.2.reply x 7 r.1 []) := by
  rw [exec_memWrite (.inr (.inr (.inr hall)))]
  simp only [if_pos husb]
  exact congrArg Host.Outcome.next (htp_answers (a := (_, [])) hready rfl (if_neg (by simp [hrange, hall])))

/-- MEM_WRITE on Ethernet writes what its payload holds. -/
theorem memWrite_ethernet (hready : s.htpReady x 7 y) (hrange : memRange x = true) (hport : x.peer ≠ .usb)
    (hall : htpField x 8 4 ≤ (x.payload.drop 12).length) : exec (.memWrite x data) s = .next (
      let r := (s.htpTaken x).hostWrite (htpField x 0 8) ((x.payload.drop 12).take (htpField x 8 4))
      r.2.reply x 7 r.1 []) := by
  rw [exec_memWrite (.inr (.inr (.inl hport)))]
  simp only [if_neg hport]
  exact congrArg Host.Outcome.next (htp_answers (a := (_, [])) hready rfl
    (if_neg (not_or.mpr ⟨by simp [hrange], hall.not_gt⟩)))

theorem memWrite_bad (hready : s.htpReady x 7 y)
    (hbad : memRange x = false ∨ x.peer ≠ .usb ∧ (x.payload.drop 12).length < htpField x 8 4) :
    exec (.memWrite x data) s = .next ((s.htpTaken x).reply x 7 .badFormat []) := by
  rw [exec_memWrite (hbad.elim (fun h => .inr (.inl h)) fun h => .inr (.inr (.inl h.1)))]
  refine congrArg Host.Outcome.next (htp_answers (a := (.badFormat, [])) hready rfl (if_pos ?_))
  rcases hbad with hrange | ⟨hport, hshort⟩
  · exact .inl (by simp [hrange])
  · exact .inr (by rwa [if_neg hport])

theorem memWrite_waits (hgood : x.bad = false) (hrange : memRange x = true) (husb : x.peer = .usb)
    (hshort : data.length < htpField x 8 4) : exec (.memWrite x data) s = .next s :=
  if_pos (by simp [hgood, hrange, husb, hshort])

theorem memWriteTimeout_due (hready : s.htpReady x 7 y) (hrange : memRange x = true) (husb : x.peer = .usb)
    (hshort : data.length < htpField x 8 4) : exec (.memWriteTimeout x data) s =
      .next ((((s.htpHeard x).hostWrite (htpField x 0 8) data).2.bump Reg.HTP_TIMEOUT).reply x 7 .timeout []) := by
  rw [exec_memWriteTimeout hready.2.1 hrange husb hshort, htpTurnedAway_ready hready rfl]

theorem memWriteTimeout_idle (h : x.bad = true ∨ memRange x = false ∨ x.peer ≠ .usb ∨ htpField x 8 4 ≤ data.length) :
    exec (.memWriteTimeout x data) s = .next s := if_pos (by simpa using h)

/-- Settles O59: each request is `State.htp` of its opcode, and R363 gives what it answers. -/
theorem htpDataRequests : Obligations.HtpDataRequests :=
  ⟨fun _ _ _ hready hlong hown => dictRead_own hready hlong hown,
    fun _ _ _ hready hlong hother => dictRead_remote hready hlong hother,
    fun _ _ _ hready hshort => dictRead_short hready hshort,
    fun _ _ _ _ hready hshort => dictWrite_short hready hshort,
    fun _ _ _ _ _ _ hready hlong hu hw hbad =>
      exec_dictWrite_answers hready hlong (dictSegment_misplaced hu hw hbad),
    fun _ _ _ _ _ _ hready hlong hu hw hd hi hs ht ho hfits hmore =>
      exec_dictWrite_answers hready hlong (dictSegment_staged hu hw hd hi hs ht ho hfits hmore),
    fun _ _ _ _ _ _ hready hlong hu hw hd hi hs ht ho hlast hpart =>
      exec_dictWrite_answers hready hlong (dictSegment_partial hu hw hd hi hs ht ho hlast hpart),
    fun _ _ _ _ _ _ hready hlong hu hw hd hi hs ht ho hlast hwhole hown =>
      exec_dictWrite_answers hready hlong ((dictSegment_whole hu hw hd hi hs ht ho hlast hwhole).trans (dictWrite_own hown)),
    fun _ _ _ _ _ _ hready hlong hu hw hd hi hs ht ho hlast hwhole hother =>
      exec_dictWrite_later hready hlong ((dictSegment_whole hu hw hd hi hs ht ho hlast hwhole).trans (dictWrite_remote hother)),
    fun _ _ _ hready hlong hqueue => qPush_ready hready hlong hqueue,
    fun _ _ _ hready hbad => qPush_bad hready hbad,
    fun _ _ _ hready hlong hqueue => qConsume_ready hready hlong hqueue,
    fun _ _ _ hready hbad => qConsume_bad hready hbad,
    fun _ _ _ hready hrange => memRead_ready hready hrange,
    fun _ _ _ hready hrange => memRead_bad hready hrange,
    fun _ _ _ _ hready hrange husb hall => memWrite_usb hready hrange husb hall,
    fun _ _ _ hgood hrange husb hshort => memWrite_waits hgood hrange husb hshort,
    fun _ _ _ _ hready hrange hport hall => memWrite_ethernet hready hrange hport hall,
    fun _ _ _ _ hready hbad => memWrite_bad hready hbad,
    fun _ _ _ _ hready hrange husb hshort => memWriteTimeout_due hready hrange husb hshort,
    fun _ _ _ h => memWriteTimeout_idle h⟩

end Sys2Proof.HtpDataProofs
end

section
/-!
PROOFS. The ports (R361, R364, R367, R373) and the accesses forwarded to other devices (R371).
-/
namespace Sys2Proof.PortProofs
open Sys2Proof Sys2Proof.Machine

variable {s : State} {detach superSpeed frame : Bool} {into : Fin 3} {v : BitVec 8} {a : RemoteAccess}

/-! ### The USB port -/

theorem vbusArrival_detached (hon : s.power.off = false) (hdetached : s.reg Reg.USB_STATE = 0) :
    exec .vbusArrival s = .next ((s.wakeBy .usb).setReg Reg.USB_STATE 1) := if_neg (by simp [hon, hdetached])

theorem vbusArrival_otherwise (h : s.power.off = true ∨ s.reg Reg.USB_STATE ≠ 0) : exec .vbusArrival s = .next s := if_pos h

/-- The port's state once a bus reset or a disconnect has ended its session. -/
def usbCleared (s : State) : State :=
  { s.endUsb with host := { s.endUsb.host with usbWakeup := false, usbConfigured := false } }

theorem usbBusReset_attached (hattached : s.reg Reg.USB_STATE ≠ 0) : exec (.usbBusReset detach superSpeed) s = .next (
    if detach then ((usbCleared s).setReg Reg.USB_STATE 0).setReg Reg.USB_SPEED 0
    else ((usbCleared s).setReg Reg.USB_STATE 1).setReg Reg.USB_SPEED (if superSpeed then 4 else 2)) := if_neg hattached

theorem usbBusReset_detached (hdetached : s.reg Reg.USB_STATE = 0) : exec (.usbBusReset detach superSpeed) s = .next s :=
  if_pos hdetached

/-- A USB state and speed written read back, each beside the other. -/
theorem reg_usbState (i j : Nat) : ((s.setReg Reg.USB_STATE i).setReg Reg.USB_SPEED j).reg Reg.USB_STATE = i :=
  (State.reg_setReg_other (s := s.setReg Reg.USB_STATE i) (by decide) j).trans (State.reg_setReg_same ..)

theorem usbBusReset_reset (hattached : s.reg Reg.USB_STATE ≠ 0) :
    ∃ t, exec (.usbBusReset false superSpeed) s = .next t ∧ t.reg Reg.USB_STATE = 1 ∧
      t.reg Reg.USB_SPEED = (if superSpeed then 4 else 2) ∧ t.host.usbConfigured = false ∧ t.host.usbWakeup = false ∧
      t.host.sessions = s.host.sessions.filter (fun y => !decide (y.peer = .usb)) ∧
      t = { s with regs := t.regs, host := { s.host with usbConfigured := false, usbWakeup := false, sessions := t.host.sessions } } :=
  ⟨_, usbBusReset_attached hattached, reg_usbState .., State.reg_setReg_same .., rfl, rfl, rfl, rfl⟩

theorem usbBusReset_disconnect (hattached : s.reg Reg.USB_STATE ≠ 0) :
    ∃ t, exec (.usbBusReset true superSpeed) s = .next t ∧ t.reg Reg.USB_STATE = 0 ∧ t.reg Reg.USB_SPEED = 0 ∧
      t.host.sessions = s.host.sessions.filter (fun y => !decide (y.peer = .usb)) ∧
      t = { s with regs := t.regs, host := { s.host with usbConfigured := false, usbWakeup := false, sessions := t.host.sessions } } :=
  ⟨_, usbBusReset_attached hattached, reg_usbState .., State.reg_setReg_same .., rfl, rfl⟩

theorem usbSuspend_attached (hattached : s.reg Reg.USB_STATE ≠ 0) : exec .usbSuspend s = .next (s.setReg Reg.USB_STATE 3) :=
  congrArg Host.Outcome.next (if_neg hattached)

theorem usbSuspend_detached (hdetached : s.reg Reg.USB_STATE = 0) : exec .usbSuspend s = .next s :=
  congrArg Host.Outcome.next (if_pos hdetached)

theorem usbResume_suspended (hsuspended : s.reg Reg.USB_STATE = 3) : exec .usbResume s =
    .next ((s.wakeBy .usb).setReg Reg.USB_STATE (if s.host.usbConfigured then 2 else 1)) := if_neg (not_not.mpr hsuspended)

theorem usbResume_otherwise (hother : s.reg Reg.USB_STATE ≠ 3) : exec .usbResume s = .next s := if_pos hother

/-! ### EP0 (R361) -/

theorem ep0_unserved {r : Ep0Request} (hattached : s.reg Reg.USB_STATE ≠ 1) (hconfigured : s.reg Reg.USB_STATE ≠ 2) :
    exec (.ep0StandardRequest r) s = .next s := if_pos ⟨hattached, hconfigured⟩

section Served

variable (hserved : s.reg Reg.USB_STATE = 1 ∨ s.reg Reg.USB_STATE = 2)
include hserved

theorem not_unserved : ¬ (s.reg Reg.USB_STATE ≠ 1 ∧ s.reg Reg.USB_STATE ≠ 2) := fun h => hserved.elim h.1 h.2

theorem ep0_setConfiguration (hv : v.toNat ≤ 1) : exec (.ep0StandardRequest (.setConfiguration v)) s = .next
    ((State.setReg { s with host := { s.host with usbConfigured := v == 1 } } Reg.USB_STATE
      (if v == 1 then 2 else 1)).respond .ok) := (if_neg (not_unserved hserved)).trans (if_neg hv.not_gt)

theorem ep0_setConfiguration_refused (hv : 1 < v.toNat) :
    exec (.ep0StandardRequest (.setConfiguration v)) s = .next (s.respond .refused) :=
  (if_neg (not_unserved hserved)).trans (if_pos hv)

theorem ep0_remoteWakeup (on : Bool) : exec (.ep0StandardRequest (.remoteWakeup on)) s =
    .next (State.respond { s with host := { s.host with usbWakeup := on } } .ok) := if_neg (not_unserved hserved)

theorem ep0_identify : exec (.ep0StandardRequest .identify) s =
    .next (s.respond .ok (leBytes 2 (s.reg Reg.USB_VID) ++ leBytes 2 (s.reg Reg.USB_PID))) := if_neg (not_unserved hserved)

theorem ep0_classOrVendor : exec (.ep0StandardRequest .classOrVendor) s = .next (s.respond .refused) :=
  if_neg (not_unserved hserved)

end Served

/-! ### Ethernet and CAN -/

theorem ethLinkUpChange_eq {e : EthId} {up : Bool} :
    exec (.ethLinkUpChange e up) s = .next (s.setReg (Reg.LINK_UP e.val) (if up then 1 else 0)) := by
  cases up <;> rfl

theorem canBusError_ignored (h : s.power.off = true ∨ s.reg Reg.BRINGUP_STAGE % 128 < 2 ∨ s.reg Reg.CAN_STATE = 2) :
    exec (.canBusError frame into) s = .next s := if_pos h

theorem canBusError_taken (hon : s.power.off = false) (hstage : 2 ≤ s.reg Reg.BRINGUP_STAGE % 128)
    (hbus : s.reg Reg.CAN_STATE ≠ 2) : exec (.canBusError frame into) s = .next (
      let t := (if frame then s.bump Reg.CAN_ERR_FRAMES else s).setReg Reg.CAN_STATE into.val
      if into.val = 2 then t.bump Reg.BUSOFF else t) :=
  if_neg (by simp [hon, hbus, hstage.not_gt])

/-! ### Accesses forwarded (R371) -/

theorem remoteRead_due (hdue : (s.host.remote.find? fun a => !a.write && a.due) = some a) : exec .remoteRead s = .next
    ((s.sendPiece a (requestBody 1 false a.index a.sub (min 96 (a.want - a.data.length)) (a.offset + a.data.length) [])).modRemote
      a.tag fun b => { b with due := false, sentAt := s.now }) := by
  show execRemoteRead s = _
  rw [execRemoteRead, hdue]

theorem remoteRead_none (hnone : (s.host.remote.find? fun a => !a.write && a.due) = none) : exec .remoteRead s = .next s := by
  show execRemoteRead s = _
  rw [execRemoteRead, hnone]

theorem remoteWrite_due (hdue : (s.host.remote.find? fun a => a.write && a.due) = some a) : exec .remoteWrite s = .next (
    let n := max 1 (ceilDiv a.data.length 96)
    let s1 := (List.range n).foldl (fun u k =>
      let piece := (a.data.drop (96 * k)).take 96
      u.sendPiece a (requestBody 2 (k + 1 < n) a.index a.sub piece.length (96 * k) piece)) s
    s1.modRemote a.tag fun b => { b with due := false, sentAt := s.now }) := by
  show execRemoteWrite s = _
  rw [execRemoteWrite, hdue]

theorem remoteWrite_none (hnone : (s.host.remote.find? fun a => a.write && a.due) = none) : exec .remoteWrite s = .next s := by
  show execRemoteWrite s = _
  rw [execRemoteWrite, hnone]

theorem remoteTimeout_due
    (hdue : (s.host.remote.find? fun a => decide (a.sentAt + s.reg Reg.REMOTE_TMO_MS * 1000000 ≤ s.now)) = some a) :
    exec .remoteTimeout s = .next ((s.remoteDone a .timeout []).bump Reg.REMOTE_TMO) := by
  show execRemoteTimeout s = _
  rw [execRemoteTimeout, hdue]

theorem remoteTimeout_none
    (hnone : (s.host.remote.find? fun a => decide (a.sentAt + s.reg Reg.REMOTE_TMO_MS * 1000000 ≤ s.now)) = none) :
    exec .remoteTimeout s = .next s := by
  show execRemoteTimeout s = _
  rw [execRemoteTimeout, hnone]

/-- Settles O22: each event of a port, and each access forwarded, by the guard that decides it. -/
theorem portsAndRemoteAccess : Obligations.PortsAndRemoteAccess :=
  ⟨fun _ hon hd => vbusArrival_detached hon hd,
    fun _ h => vbusArrival_otherwise h,
    fun _ _ ha => usbBusReset_reset ha,
    fun _ _ ha => usbBusReset_disconnect ha,
    fun _ _ _ hd => usbBusReset_detached hd,
    fun _ ha => usbSuspend_attached ha,
    fun _ hd => usbSuspend_detached hd,
    fun _ hs => usbResume_suspended hs,
    fun _ ho => usbResume_otherwise ho,
    fun _ _ hs hv => ep0_setConfiguration hs hv,
    fun _ _ hs hv => ep0_setConfiguration_refused hs hv,
    fun on _ hs => ep0_remoteWakeup hs on,
    fun _ hs => ep0_identify hs,
    fun _ hs => ep0_classOrVendor hs,
    fun _ _ ha hc => ep0_unserved ha hc,
    fun _ _ _ => ethLinkUpChange_eq,
    fun _ _ _ hon hstage hbus hinto => (canBusError_taken hon hstage hbus).trans (congrArg Host.Outcome.next (if_neg hinto)),
    fun _ _ hon hstage hbus => canBusError_taken hon hstage hbus,
    fun _ _ _ h => canBusError_ignored h,
    fun _ _ hdue => remoteRead_due hdue,
    fun _ hnone => remoteRead_none hnone,
    fun _ _ hdue => remoteWrite_due hdue,
    fun _ hnone => remoteWrite_none hnone,
    fun _ _ hdue => remoteTimeout_due hdue,
    fun _ hnone => remoteTimeout_none hnone,
    fun _ _ _ _ => rfl⟩

end Sys2Proof.PortProofs
end

section
/-!
PROOFS. Identity, attestation and the owner operations (R431, R435–R438), tampering and the restart (R437, R439, R440), and the calls
of the Saddle (R427).
-/
namespace Sys2Proof.SecurityProofs
open Sys2Proof Sys2Proof.Machine Sys2Proof.HtpProofs

variable {s u : State} {x : HtpFrame} {y : Session} {r : Status × State} {k n img len handle src dst at' cause : Nat}
  {p : List Byte} {c : Instr} {sources : BitVec 5}

/-! ### Identity and attestation -/

theorem idGet_ready (hready : s.htpReady x 0x30 y) :
    exec (.idGet x) s = .next ((s.htpTaken x).reply x 0x30 .ok (s.htpTaken x).idData) :=
  congrArg Host.Outcome.next (htp_answers (a := (.ok, (s.htpTaken x).idData)) hready rfl rfl)

theorem attest_ready (hready : s.htpReady x 0x31 y) (hlong : 32 ≤ x.payload.length) : exec (.attest x) s = .next (
    let r := (s.htpTaken x).attest (x.payload.take 32)
    r.2.2.reply x 0x31 r.1 r.2.1) :=
  congrArg Host.Outcome.next (htp_answers (a := (_, _)) hready rfl (if_neg hlong.not_gt))

theorem attest_short (hready : s.htpReady x 0x31 y) (hshort : x.payload.length < 32) :
    exec (.attest x) s = .next ((s.htpTaken x).reply x 0x31 .badFormat []) :=
  congrArg Host.Outcome.next (htp_answers (a := (.badFormat, [])) hready rfl (if_pos hshort))

theorem attest_signed {nonce : List Byte} (hkey : Assoc.get? 3 s.security.keys = some k)
    (hlife : s.reg Reg.LC_STATE = 2 ∨ s.reg Reg.LC_STATE = 3) : s.attest nonce = (
      let r := s.sign k (sha384Bytes (s.reportBody nonce))
      (.ok, s.reportBody nonce ++ r.1, r.2.bump Reg.ATTESTS)) := by
  rw [State.attest, hkey]
  exact if_neg fun h => hlife.elim h.1 h.2

theorem attest_refused {nonce : List Byte}
    (h : Assoc.get? 3 s.security.keys = none ∨ s.reg Reg.LC_STATE ≠ 2 ∧ s.reg Reg.LC_STATE ≠ 3) :
    s.attest nonce = (.refused, [], s) := by
  rw [State.attest]
  cases hkey : Assoc.get? 3 s.security.keys with
  | none => rfl
  | some k => exact if_pos (h.resolve_left (by simp [hkey]))

theorem challenge_ready (hready : s.htpReady x 0x32 y) : exec (.challenge x) s = .next (
    let r := (s.htpTaken x).drawChallenge
    r.2.reply x 0x32 .ok r.1) :=
  congrArg Host.Outcome.next (htp_answers (a := (.ok, (s.htpTaken x).drawChallenge.1)) hready rfl rfl)

/-! ### OWNER_OP frames (R436) -/

theorem exec_of_ownerRow (hrow : ownerRow c = some (x, k)) : exec c s = .next (s.ownerFrame x k) := by
  rw [ownerRow.eq_def] at hrow
  split at hrow <;> cases hrow <;> rfl

theorem ownerFrame_other (hother : ownsFrame x k = false) : s.ownerFrame x k = s := if_pos (by simp [hother])

theorem ownerFrame_own (hown : ownsFrame x k = true) : s.ownerFrame x k =
    s.htp x 0x33 fun s => (some ((s.ownerOp x.payload).1, []), (s.ownerOp x.payload).2) := if_neg (by simp [hown])

theorem ownsFrame_of_field (hfield : htpField x 0 1 = k) : ownsFrame x k = true := by
  simp [ownsFrame, hfield]

/-- A reserved operation may come as any row's. -/
theorem ownsFrame_of_reserved (hop : htpField x 0 1 = 0 ∨ 6 < htpField x 0 1) : ownsFrame x k = true := by
  rcases hop with h | h <;> simp [ownsFrame, h]

theorem ownerRow_other (hrow : ownerRow c = some (x, k)) (hother : ownsFrame x k = false) : exec c s = .next s := by
  rw [exec_of_ownerRow hrow, ownerFrame_other hother]

theorem ownerRow_turnedAway (hrow : ownerRow c = some (x, k)) (hown : ownsFrame x k = true)
    (haway : s.htpTurnedAway x 0x33 = some u) : exec c s = .next u := by
  rw [exec_of_ownerRow hrow, ownerFrame_own hown, htp_turnedAway haway]

theorem ownerRow_ready (hrow : ownerRow c = some (x, k)) (hown : ownsFrame x k = true) (hready : s.htpReady x 0x33 y)
    (hop : (s.htpTaken x).ownerOp x.payload = r) : exec c s = .next (r.2.reply x 0x33 r.1 []) := by
  subst hop
  rw [exec_of_ownerRow hrow, ownerFrame_own hown]
  exact congrArg Host.Outcome.next (htp_answers (a := (_, [])) hready rfl rfl)

/-! ### The checks of R437 -/

theorem ownerOp_bad (hbad : ownerBad p = true) : s.ownerOp p = (.badFormat, s) := if_pos hbad

/-- An operation that a payload does not spell is malformed. -/
theorem ownerBad_of_op (hop : ownField p 0 1 = 0 ∨ 6 < ownField p 0 1) : ownerBad p = true := by
  rcases hop with h | h <;> simp [ownerBad, h]

/-- The state in which a challenge has been used up. -/
abbrev spent (s : State) : State := s.modSecurity fun z => { z with challenge := none }

/-- What an operation gives whose challenge and signature hold (R437, R438). -/
def signedOutcome (s : State) (p : List Byte) : Status × State :=
  if !ownerAllowed (ownField p 0 1) (s.reg Reg.LC_STATE) then (.refused, spent s)
  else if ownField p 0 1 = 4 then (.ok, (spent s).setReg Reg.OWNER_LOCK (ownField p 36 4 % 8))
  else if ownField p 0 1 = 5 then
    (if ownField p 36 4 % 32 / 4 = 7 then (.ok, (spent s).setReg Reg.TAMPER_EN (ownField p 36 4 % 32)) else (.badFormat, spent s))
  else
    let osk := if ownField p 0 1 = 1 then s.unwrapOsk p else none
    if ownField p 0 1 = 1 ∧ osk.isNone then (.security, (spent s).bump Reg.AUTH_FAIL)
    else if s.transitionBar then (.refused, spent s)
    else (.ok, (spent s).transition p osk)

section WellFormed

variable (hformed : ownerBad p = false)
include hformed

theorem ownerOp_unchallenged (hchallenge : s.challengeHolds p = false) :
    s.ownerOp p = (.security, (spent s).bump Reg.AUTH_FAIL) :=
  (if_neg (by simp [hformed])).trans (if_pos (by simp [hchallenge]))

/-- Past the challenge the signature is judged, then the operation itself. -/
theorem ownerOp_challenged (hchallenge : s.challengeHolds p = true) : s.ownerOp p =
    if Config.ecdsaVerify (s.authoriser p) (sha384Bytes (p.take 296)) ((p.drop 296).take 96) = false then
      (.security, (spent s).bump Reg.AUTH_FAIL)
    else signedOutcome s p :=
  (if_neg (by simp [hformed])).trans ((if_neg (by simp [hchallenge])).trans (if_congr (by rw [Bool.not_eq_true']) rfl rfl))

end WellFormed

theorem signedOutcome_disallowed (hbar : ownerAllowed (ownField p 0 1) (s.reg Reg.LC_STATE) = false) :
    signedOutcome s p = (.refused, spent s) := if_pos (by simp [hbar])

theorem signedOutcome_allowed (hallowed : ownerAllowed (ownField p 0 1) (s.reg Reg.LC_STATE) = true) : signedOutcome s p =
    if ownField p 0 1 = 4 then (.ok, (spent s).setReg Reg.OWNER_LOCK (ownField p 36 4 % 8))
    else if ownField p 0 1 = 5 then
      (if ownField p 36 4 % 32 / 4 = 7 then (.ok, (spent s).setReg Reg.TAMPER_EN (ownField p 36 4 % 32)) else (.badFormat, spent s))
    else
      let osk := if ownField p 0 1 = 1 then s.unwrapOsk p else none
      if ownField p 0 1 = 1 ∧ osk.isNone then (.security, (spent s).bump Reg.AUTH_FAIL)
      else if s.transitionBar then (.refused, spent s)
      else (.ok, (spent s).transition p osk) := if_neg (by simp [hallowed])

theorem signedOutcome_setLock (hop : ownField p 0 1 = 4) (howned : s.reg Reg.LC_STATE = 3) :
    signedOutcome s p = (.ok, (spent s).setReg Reg.OWNER_LOCK (ownField p 36 4 % 8)) := by
  rw [signedOutcome_allowed (by rw [hop, howned]; rfl), if_pos hop]

theorem signedOutcome_setTamperEn (hop : ownField p 0 1 = 5) (howned : s.reg Reg.LC_STATE = 3) : signedOutcome s p =
    if ownField p 36 4 % 32 / 4 = 7 then (.ok, (spent s).setReg Reg.TAMPER_EN (ownField p 36 4 % 32))
    else (.badFormat, spent s) := by
  rw [signedOutcome_allowed (by rw [hop, howned]; rfl), if_neg (by simp [hop]), if_pos hop]

/-- Only TAKE_OWNERSHIP opens a key that it wraps. -/
theorem signedOutcome_transition (hlock : ownField p 0 1 ≠ 4) (htamper : ownField p 0 1 ≠ 5)
    (hallowed : ownerAllowed (ownField p 0 1) (s.reg Reg.LC_STATE) = true) : signedOutcome s p =
    if ownField p 0 1 = 1 ∧ s.unwrapOsk p = none then (.security, (spent s).bump Reg.AUTH_FAIL)
    else if s.transitionBar = true then (.refused, spent s)
    else (.ok, (spent s).transition p (if ownField p 0 1 = 1 then s.unwrapOsk p else none)) := by
  rw [signedOutcome_allowed hallowed, if_neg hlock, if_neg htamper]
  refine if_congr (and_congr_right fun hop => ?_) rfl rfl
  rw [if_pos hop, Option.isNone_iff_eq_none]

/-! ### Restart and tampering (R437, R439, R440) -/

theorem lifecycleRestart_some (hpending : s.security.restartAt = some (at', cause)) : exec .lifecycleRestart s =
    if s.now < at' ∨ s.power.resetHeld ∨ !s.power.off then .next s else .next s.turnOn := by
  show execLifecycleRestart s = _
  rw [execLifecycleRestart, hpending]

theorem lifecycleRestart_due (hpending : s.security.restartAt = some (at', cause)) (hdue : at' ≤ s.now)
    (hfree : s.power.resetHeld = false) (hoff : s.power.off = true) : exec .lifecycleRestart s = .next s.turnOn := by
  rw [lifecycleRestart_some hpending, if_neg (by simp [hdue.not_gt, hfree, hoff])]

theorem lifecycleRestart_held (hpending : s.security.restartAt = some (at', cause))
    (hheld : s.now < at' ∨ s.power.resetHeld = true ∨ s.power.off = false) : exec .lifecycleRestart s = .next s := by
  rw [lifecycleRestart_some hpending, if_pos (by simpa using hheld)]

theorem lifecycleRestart_none (hnone : s.security.restartAt = none) : exec .lifecycleRestart s = .next s := by
  show execLifecycleRestart s = _
  rw [execLifecycleRestart, hnone]

/-- A tamper event with its sources `on`: the Tack Room wiped, the event counted and recorded. -/
def tampered (s : State) (sources : BitVec 5) (on : Nat) : State :=
  ((((s.tamperLoop sources).wipeTack 1).setReg Reg.TAMPER_LAST on).bump Reg.TAMPER_EVENTS).logFault { cls := .security, ref := on }

theorem tamperDetect_off (hoff : s.power.off = true) : exec (.tamperDetect sources) s = .next s := if_pos hoff

section On

variable (hon : s.power.off = false)
include hon

theorem tamperDetect_awake (hawake : s.reg Reg.PWR_STATE ≠ 3) : exec (.tamperDetect sources) s =
    if (sources.toNat &&& s.reg Reg.TAMPER_EN &&& 0x1F) = 0 then .next (s.tamperLoop sources)
    else .next ((tampered s sources (sources.toNat &&& s.reg Reg.TAMPER_EN &&& 0x1F)).offAndRestart 2) := by
  show execTamperDetect sources s = _
  simp only [execTamperDetect, hon, beq_eq_false_iff_ne.mpr hawake, Bool.false_eq_true, if_false]
  rfl

theorem tamperDetect_watch (hwatch : s.reg Reg.PWR_STATE = 3) : exec (.tamperDetect sources) s =
    if (sources.toNat &&& s.reg Reg.TAMPER_EN &&& 0x17) = 0 then .next (s.tamperLoop sources)
    else .next ((tampered s sources (sources.toNat &&& s.reg Reg.TAMPER_EN &&& 0x17)).modSecurity fun z =>
      { z with coldWake := true }) := by
  show execTamperDetect sources s = _
  simp only [execTamperDetect, hon, beq_iff_eq.mpr hwatch, Bool.false_eq_true, if_false, if_true]
  rfl

/-- Sources that are none of the five are none of the four that WATCH senses. -/
theorem tamperDetect_none (hnone : (sources.toNat &&& s.reg Reg.TAMPER_EN &&& 0x1F) = 0 ∨
      s.reg Reg.PWR_STATE = 3 ∧ (sources.toNat &&& s.reg Reg.TAMPER_EN &&& 0x17) = 0) :
    exec (.tamperDetect sources) s = .next (s.tamperLoop sources) := by
  by_cases hwatch : s.reg Reg.PWR_STATE = 3
  · rw [tamperDetect_watch hon hwatch, if_pos]
    rcases hnone with h | h
    · rw [show 0x17 = 0x1F &&& 0x17 from rfl, ← Nat.and_assoc, h, Nat.zero_and]
    · exact h.2
  · rw [tamperDetect_awake hon hwatch, if_pos (hnone.resolve_right fun h => hwatch h.1)]

end On

theorem tamperRecheck_idle (h : s.reg Reg.TAMPER_ACTIVE = 0 ∨ s.security.noKeys = false ∨
    s.now < s.security.checkedAt + 100000000) : exec (.tamperRecheck sources) s = .next s := if_pos (by simpa using h)

theorem tamperRecheck_due (hactive : s.reg Reg.TAMPER_ACTIVE ≠ 0) (hkeys : s.security.noKeys = true)
    (hdue : s.security.checkedAt + 100000000 ≤ s.now) : exec (.tamperRecheck sources) s = .next (
      let t := ((s.tamperLoop sources).setReg Reg.TAMPER_ACTIVE (sources.toNat &&& s.reg Reg.TAMPER_EN)).modSecurity
        fun z => { z with checkedAt := s.now }
      if (sources.toNat &&& s.reg Reg.TAMPER_EN) = 0 ∧ !s.security.trngFailed then t.installKeys else t) :=
  if_neg (by simp [hactive, hkeys, hdue])

/-! ### Calls of the Saddle (R427) -/

/-- A call with a range outside the Saddle's regions is turned away, another made. -/
theorem call_made {b : Bool} {t v : State} (h : b = true) :
    (if !b then Host.Outcome.next t else .next v : Host.Outcome State Fault Refusal) = .next v := by rw [h]; rfl

theorem call_barred {b : Bool} {t : State} {o : Host.Outcome State Fault Refusal} (h : b = false) :
    (if !b then Host.Outcome.next t else o) = .next t := by rw [h]; rfl

theorem ecallAttest_made (hsrc : s.saddleMay false src 32 = true) (hdst : s.saddleMay true dst 352 = true) :
    exec (.ecallAttest src dst) s = .next (
      let r := s.attest (s.bytes src 32)
      (r.2.2.setBytes dst r.2.1).respond r.1) := if_neg (by simp [hsrc, hdst])

theorem ecallAttest_barred (h : s.saddleMay false src 32 = false ∨ s.saddleMay true dst 352 = false) :
    exec (.ecallAttest src dst) s = .next (s.respond .security) := if_pos (by simpa using h)

section Unseal

variable (hmay : s.saddleMay false img (max len 256) = true)
include hmay

theorem ecallUnsealKey_made (hlo : 0x8000 ≤ handle) (hhi : handle ≤ 0x803F) : exec (.ecallUnsealKey img len handle) s = .next (
    let o := s.openKey img len fun m => m == .owner && s.reg Reg.LC_STATE == 3
    if o.status ≠ .ok then (s.sealFail o).respond o.status
    else (s.putKey handle (some (leNat o.plain))).respond .ok) := by
  show execEcallUnsealKey img len handle s = _
  rw [execEcallUnsealKey, if_neg (by simp [hmay]), if_neg (by omega)]
  exact (apply_ite Host.Outcome.next ..).symm

theorem ecallUnsealKey_badHandle (h : handle < 0x8000 ∨ 0x803F < handle) :
    exec (.ecallUnsealKey img len handle) s = .next (s.respond .badFormat) :=
  (if_neg (by simp [hmay])).trans (if_pos h)

end Unseal

/-- Settles O25: the rows of HTP are `State.htp` of their opcodes, an owner operation is judged in the order of R437, and every
other row by its guard. -/
theorem securityOperations : Obligations.SecurityOperations :=
  ⟨fun _ _ _ hready => idGet_ready hready,
    fun _ _ _ hready hlong => attest_ready hready hlong,
    fun _ _ _ hready hshort => attest_short hready hshort,
    fun _ _ _ hkey hlife => attest_signed hkey hlife,
    fun _ _ h => attest_refused h,
    fun _ _ _ hready => challenge_ready hready,
    fun _ => rfl,
    fun _ _ _ _ hready hop hr => ownerRow_ready rfl (ownsFrame_of_field hop) hready hr,
    fun _ _ _ _ hready hop hr => ownerRow_ready rfl (ownsFrame_of_field hop) hready hr,
    fun _ _ _ _ hready hop hr => ownerRow_ready rfl (ownsFrame_of_field hop) hready hr,
    fun _ _ _ _ hready hop hr => ownerRow_ready rfl (ownsFrame_of_field hop) hready hr,
    fun _ _ _ _ hready hop hr => ownerRow_ready rfl (ownsFrame_of_field hop) hready hr,
    fun _ _ _ _ hready hop hr => ownerRow_ready rfl (ownsFrame_of_field hop) hready hr,
    fun _ _ _ _ hrow hother => ownerRow_other hrow hother,
    fun _ _ _ _ _ hrow hown haway => ownerRow_turnedAway hrow hown haway,
    fun _ _ _ hready hop => ownerRow_ready rfl (ownsFrame_of_reserved hop) hready (ownerOp_bad (ownerBad_of_op hop)),
    fun _ _ hbad => ownerOp_bad hbad,
    fun _ _ hformed hchallenge => ownerOp_unchallenged hformed hchallenge,
    fun _ _ hformed hchallenge hbar => by
      rw [ownerOp_challenged hformed hchallenge, signedOutcome_disallowed hbar],
    fun _ _ hformed hchallenge hop howned => by
      rw [ownerOp_challenged hformed hchallenge, signedOutcome_setLock hop howned],
    fun _ _ hformed hchallenge hop howned => by
      rw [ownerOp_challenged hformed hchallenge, signedOutcome_setTamperEn hop howned],
    fun _ _ hformed hchallenge hop hallowed => by
      rw [ownerOp_challenged hformed hchallenge, signedOutcome_transition hop.1 hop.2 hallowed],
    fun _ _ _ hpending hdue hfree hoff => lifecycleRestart_due hpending hdue hfree hoff,
    fun _ _ _ hpending hheld => lifecycleRestart_held hpending hheld,
    fun _ hnone => lifecycleRestart_none hnone,
    fun _ _ hon hawake hsome => (tamperDetect_awake hon hawake).trans (if_neg hsome),
    fun _ _ hon hwatch hsome => (tamperDetect_watch hon hwatch).trans (if_neg hsome),
    fun _ _ hon hnone => tamperDetect_none hon hnone,
    fun _ _ hoff => tamperDetect_off hoff,
    fun _ _ hactive hkeys hdue hbar => (tamperRecheck_due hactive hkeys hdue).trans
      (congrArg Host.Outcome.next (if_neg fun h => hbar.elim (fun hon => hon h.1) fun htrng => by simp [htrng] at h)),
    fun _ _ hactive hkeys hdue hclear htrng => (tamperRecheck_due hactive hkeys hdue).trans
      (congrArg Host.Outcome.next (if_pos ⟨hclear, by simp [htrng]⟩)),
    fun _ _ h => tamperRecheck_idle h,
    fun _ _ _ hmay => call_made hmay,
    fun _ _ _ hbar => call_barred hbar,
    fun _ _ _ hsrc hdst => ecallAttest_made hsrc hdst,
    fun _ _ _ h => ecallAttest_barred h,
    fun _ _ hmay => call_made hmay,
    fun _ _ hbar => call_barred hbar,
    fun _ _ _ _ hmay hlo hhi => ecallUnsealKey_made hmay hlo hhi,
    fun _ _ _ _ hmay h => ecallUnsealKey_badHandle hmay h,
    fun _ _ _ _ hbar => call_barred hbar,
    fun _ _ _ hmay => call_made hmay,
    fun _ _ _ hbar => call_barred hbar,
    fun _ _ hmay => call_made hmay,
    fun _ _ hbar => call_barred hbar⟩

end Sys2Proof.SecurityProofs
end

section
/-!
PROOFS. Firmware update (R447–R455): the operations over HTP and along a chain, the blocks, the verify, the handover, the microcode
swap, probation and recovery.
-/
namespace Sys2Proof.FirmwareProofs
open Sys2Proof Sys2Proof.Machine Sys2Proof.HtpProofs

variable {s u : State} {x : HtpFrame} {y : Session} {a : Status × List Byte} {st : Status} {dev : Fin 64} {p d : List Byte}
  {pred : Option Nat} {members : List Status} {store : StoreVerify} {back holds : Bool} {tk : Takeover} {us : Fin 201}
  {op at' i : Nat} {text : String} {l : LinkId}

/-! ### A request from a predecessor (R448) -/

section Chain

variable {f : List Byte → State → Option (Status × List Byte) × State}

theorem updOp_chain_unreached (h : s.power.off = true ∨ s.reg Reg.PWR_STATE ≠ 0 ∨ s.update.recovery = true ∨
      s.update.handover ≠ none ∨ s.linkTo dev.val = none) : s.updOp (.chain dev p) op text f = s :=
  if_pos (by simpa [Option.isSome_iff_ne_none] using h)

theorem updOp_chain_answers (hon : s.power.off = false) (hrun : s.reg Reg.PWR_STATE = 0) (hboot : s.update.recovery = false)
    (hidle : s.update.handover = none) (hlink : s.linkTo dev.val ≠ none) (hf : f p s = (some a, u)) :
    s.updOp (.chain dev p) op text f = (u.emit (.ctrl dev.val text a.1.code)).respond a.1 a.2 := by
  rw [State.updOp, if_neg (by simp [hon, hrun, hboot, hidle, hlink]), hf]

end Chain

/-! ### UPD_BEGIN (R447, R449) -/

theorem beginUpdate_barred (hbar : s.beginBar = some st) : s.beginUpdate pred members p =
    (some (st, []), (s.bump Reg.UPD_REFUSED).setReg Reg.UPD_LAST_STATUS st.code) := by
  rw [State.beginUpdate, hbar]
  rfl

/-- The first member of a chain list that is not empty. -/
theorem chain_head {n : Nat} (hn : n ≠ 0) (g : Nat → Nat) : ((List.range n).map g).getD 0 0 = g 0 := by
  obtain ⟨m, rfl⟩ := Nat.exists_eq_succ_of_ne_zero hn
  rw [List.range_succ_eq_map]
  rfl

section Begin

variable (hopen : s.beginBar = none)
include hopen

theorem beginUpdate_malformed (hbad : p.length < 16 + imgField p 8 1 ∨ imgField p 0 8 = 0 ∨ imgField p 0 8 % 4096 ≠ 0 ∨
      0x1800000 < imgField p 0 8 ∨ 63 < imgField p 8 1 ∨ imgField p 9 7 ≠ 0) :
    s.beginUpdate pred members p = (some (.badFormat, []), s) := by
  rw [State.beginUpdate, hopen]
  exact if_pos hbad

variable (hlong : 16 + imgField p 8 1 ≤ p.length) (hsome : imgField p 0 8 ≠ 0) (hpages : imgField p 0 8 % 4096 = 0)
  (hsize : imgField p 0 8 ≤ 0x1800000) (hmembers : imgField p 8 1 ≤ 63) (hreserved : imgField p 9 7 = 0)
include hlong hsome hpages hsize hmembers hreserved

theorem beginUpdate_formed : s.beginUpdate pred members p =
    let chain := (List.range (imgField p 8 1)).map fun i => imgField p (16 + i) 1
    if 0 < imgField p 8 1 ∧ (s.update.recovery ∨ (s.linkTo (chain.getD 0 0)).isNone) then s.updRefused .refused
    else (some (.ok, []),
      let u := (((s.modUpdate fun u => { u with
        blocks := [], chain := chain, chainStatus := members.take (imgField p 8 1), chainFrom := pred, retries := 0 }).setReg
        Reg.UPD_STATE 1).setReg Reg.UPD_BLOCKS 0).setReg Reg.UPD_LEN (imgField p 0 8)
      if imgField p 8 1 = 0 then u
      else u.emit (.ctrl (chain.getD 0 0) "UPD_BEGIN" (leNat (leBytes 8 (imgField p 0 8) ++ leBytes 1 (imgField p 8 1 - 1) ++
        List.replicate 7 0 ++ (chain.drop 1).flatMap (leBytes 1))))) := by
  rw [State.beginUpdate, hopen]
  exact if_neg (by omega)

theorem beginUpdate_unreached (hn : imgField p 8 1 ≠ 0)
    (hno : s.update.recovery = true ∨ s.linkTo (imgField p 16 1) = none) : s.beginUpdate pred members p =
      (some (.refused, []), (s.bump Reg.UPD_REFUSED).setReg Reg.UPD_LAST_STATUS (Status.code .refused)) := by
  rw [beginUpdate_formed hopen hlong hsome hpages hsize hmembers hreserved]
  refine if_pos ⟨Nat.pos_of_ne_zero hn, ?_⟩
  rw [chain_head hn, Option.isNone_iff_eq_none]
  exact hno

theorem beginUpdate_begins
    (hreach : imgField p 8 1 = 0 ∨ s.update.recovery = false ∧ s.linkTo (imgField p 16 1) ≠ none) :
    s.beginUpdate pred members p = (some (.ok, []),
      let chain := (List.range (imgField p 8 1)).map fun i => imgField p (16 + i) 1
      let u := (((s.modUpdate fun u => { u with
        blocks := [], chain := chain, chainStatus := members.take (imgField p 8 1), chainFrom := pred, retries := 0 }).setReg
        Reg.UPD_STATE 1).setReg Reg.UPD_BLOCKS 0).setReg Reg.UPD_LEN (imgField p 0 8)
      if imgField p 8 1 = 0 then u
      else u.emit (.ctrl (chain.getD 0 0) "UPD_BEGIN" (leNat (leBytes 8 (imgField p 0 8) ++ leBytes 1 (imgField p 8 1 - 1) ++
        List.replicate 7 0 ++ (chain.drop 1).flatMap (leBytes 1))))) := by
  rw [beginUpdate_formed hopen hlong hsome hpages hsize hmembers hreserved]
  refine if_neg fun ⟨hn, hno⟩ => ?_
  obtain ⟨hboot, hlink⟩ := hreach.resolve_left hn.ne'
  rw [chain_head hn.ne', Option.isNone_iff_eq_none, hboot] at hno
  exact hno.elim Bool.false_ne_true hlink

end Begin

/-! ### UPD_BLOCK (R447, R448) -/

section HostBlock

variable (hready : s.htpReady x 0x21 y)
include hready

theorem updBlock_idle (hidle : (s.htpTaken x).receiving = false) :
    exec (.updBlock (.htp x)) s = .next ((s.htpTaken x).reply x 0x21 .refused []) :=
  congrArg Host.Outcome.next (htp_answers (a := (.refused, [])) hready rfl (if_pos (by simp [hidle])))

variable (hreceiving : (s.htpTaken x).receiving = true)
include hreceiving

theorem updBlock_bad (hbad : (x.payload.drop 8).length ≠ 4096 ∨ (s.htpTaken x).reg Reg.UPD_LEN ≤ 4096 * htpField x 0 4) :
    exec (.updBlock (.htp x)) s = .next ((s.htpTaken x).reply x 0x21 .badFormat []) :=
  congrArg Host.Outcome.next (htp_answers (a := (.badFormat, [])) hready rfl
    ((if_neg (by simp [hreceiving])).trans (if_pos hbad)))

theorem updBlock_placed (hlen : (x.payload.drop 8).length = 4096)
    (hplace : 4096 * htpField x 0 4 < (s.htpTaken x).reg Reg.UPD_LEN) : exec (.updBlock (.htp x)) s = .next (
      if (crc32c (x.payload.drop 8)).toNat = htpField x 4 4 then
        ((s.htpTaken x).holdBlock (htpField x 0 4) (x.payload.drop 8)).reply x 0x21 .ok []
      else ((s.htpTaken x).bump Reg.BLK_CRC_FAIL).reply x 0x21 .badFormat []) := by
  have hbar : ¬ ((x.payload.drop 8).length ≠ 4096 ∨ (s.htpTaken x).reg Reg.UPD_LEN ≤ 4096 * htpField x 0 4) := by
    rw [not_or]
    exact ⟨not_not.mpr hlen, hplace.not_ge⟩
  by_cases hcrc : (crc32c (x.payload.drop 8)).toNat = htpField x 4 4
  · rw [if_pos hcrc]
    exact congrArg Host.Outcome.next (htp_answers (a := (.ok, [])) hready rfl
      ((if_neg (by simp [hreceiving])).trans ((if_neg hbar).trans (if_neg (not_not.mpr hcrc)))))
  · rw [if_neg hcrc]
    exact congrArg Host.Outcome.next (htp_answers (a := (.badFormat, [])) hready rfl
      ((if_neg (by simp [hreceiving])).trans ((if_neg hbar).trans (if_pos hcrc))))

end HostBlock

theorem updBlock_chain : exec (.updBlock (.chain dev p)) s = .next
    (if s.power.off ∨ s.reg Reg.PWR_STATE ≠ 0 ∨ s.update.handover.isSome then s else s.blockAgain dev.val p) := rfl

theorem blockAgain_held (hheld : Assoc.get? (imgField p 0 4) s.update.blocks = some d)
    (hnext : s.update.chain.head? = some dev.val) : s.blockAgain dev.val p = s.forwardBlock (imgField p 0 4) d := by
  rw [State.blockAgain, hheld]
  exact if_pos hnext

theorem blockAgain_unheld (h : Assoc.get? (imgField p 0 4) s.update.blocks = none ∨ s.update.chain.head? ≠ some dev.val) :
    s.blockAgain dev.val p = s := by
  rw [State.blockAgain]
  cases hheld : Assoc.get? (imgField p 0 4) s.update.blocks with
  | none => rfl
  | some d => exact if_neg (h.resolve_left (by simp [hheld]))

theorem updBlock_again (hon : s.power.off = false) (hrun : s.reg Reg.PWR_STATE = 0) (hidle : s.update.handover = none)
    (hplace : imgField p 0 4 = i) (hheld : Assoc.get? i s.update.blocks = some d)
    (hnext : s.update.chain.head? = some dev.val) : exec (.updBlock (.chain dev p)) s = .next (s.forwardBlock i d) := by
  subst hplace
  rw [updBlock_chain, if_neg (by simp [hon, hrun, hidle]), blockAgain_held hheld hnext]

theorem updBlock_ignored (h : s.power.off = true ∨ s.reg Reg.PWR_STATE ≠ 0 ∨ s.update.handover ≠ none ∨
      Assoc.get? (imgField p 0 4) s.update.blocks = none ∨ s.update.chain.head? ≠ some dev.val) :
    exec (.updBlock (.chain dev p)) s = .next s := by
  rw [updBlock_chain]
  split
  · rfl
  next hbar =>
    simp only [not_or, Option.isSome_iff_ne_none] at hbar
    obtain ⟨hon, hrun, hidle⟩ := hbar
    rw [blockAgain_unheld (((h.resolve_left hon).resolve_left hrun).resolve_left hidle)]

/-! ### A forwarded block taken from its flits (R448) -/

/-- The flits of a forwarded block that have come over a link. -/
abbrev blockLines (s : State) (l : LinkId) : List (Nat × Nat × List Byte) :=
  (s.tether.lines.filter fun x => x.1 = l.val ∧ x.2.1 / 2 ^ 56 = 7).take 65

theorem chainBlockReceive_waits (h : (blockLines s l).length < 65 ∨ s.receiving = false) :
    exec (.chainBlockReceive l) s = .next s := if_pos (by simpa using h)

theorem chainBlockReceive_whole {lines : List (Nat × Nat × List Byte)} (hlines : blockLines s l = lines)
    (hall : lines.length = 65) (hreceiving : s.receiving = true) : exec (.chainBlockReceive l) s =
    let t := s.modTether fun t => { t with lines := lines.foldl (fun a x => dropFirst x a) t.lines }
    let tail := (lines.getD 64 (0, 0, [])).2.2
    let data := (lines.take 64).flatMap fun x => x.2.2
    let pred := s.update.chainFrom.getD (s.reg (Reg.PEER_DEV l.val))
    if (crc32c data).toNat = leNat ((tail.drop 4).take 4) ∧ 4096 * leNat (tail.take 4) < s.reg Reg.UPD_LEN then
      .next (t.holdBlock (leNat (tail.take 4)) data)
    else if s.update.retries < 8 then
      .next (((t.bump Reg.BLK_CRC_FAIL).modUpdate fun u => { u with retries := u.retries + 1 }).emit
        (.ctrl pred "UPD_BLOCK again" (leNat (tail.take 4))))
    else .next (((t.bump Reg.BLK_CRC_FAIL).setReg Reg.UPD_LAST_STATUS Status.badFormat.code).emit
      (.ctrl pred "UPD_BLOCK reply" Status.badFormat.code)) := by
  subst hlines
  refine if_neg (not_or.mpr ⟨?_, by simp [hreceiving]⟩)
  exact fun hshort => hshort.ne hall

/-! ### UPD_VERIFY (R447) -/

theorem verifyUpdate_partial (h : s.receiving = false ∨ s.update.blocks.length < s.reg Reg.UPD_LEN / 4096) :
    s.verifyUpdate store members = (some (.refused, []), s) := if_pos (by simpa using h)

/-- The image of a whole reception. -/
abbrev receivedImage (s : State) : List Byte :=
  (List.range (s.reg Reg.UPD_LEN / 4096)).flatMap fun i => Assoc.getD s.update.blocks i []

/-- The state once the next member of a chain has been told to verify, and the members' answers noted. -/
def chainTold (s : State) (members : List Status) : State :=
  match s.update.chain with
  | [] => s
  | d :: _ => (s.emit (.ctrl d "UPD_VERIFY" 0)).modUpdate fun u => { u with chainStatus := members.take u.chain.length }

/-- Telling a chain leaves the probation, by which UPD_STATE reads while idle. -/
theorem updIdle_chainTold : (chainTold s members).updIdle = s.updIdle := by
  rw [chainTold]
  cases s.update.chain <;> rfl

/-- A verify that fails with a status. -/
def verifyFailed (s : State) (bank : Bool) (st : Status) : Option (Status × List Byte) × State :=
  (some (st, []), ((s.setReg (bankState bank) 5).setReg Reg.UPD_STATE s.updIdle).setReg Reg.UPD_LAST_STATUS st.code)

/-- A verify that holds: the bank takes the image. -/
def verifyPassed (s : State) (bank : Bool) (img : List Byte) : State :=
  ((((s.setReg (bankState bank) 1).setReg (bankVer bank) (imgField img 8 4)).modUpdate fun u =>
    if bank then { u with imgB := bankImage img } else { u with imgA := bankImage img }).setReg Reg.UPD_STATE 3).setReg
      Reg.UPD_LAST_STATUS 0

section Whole

variable (hreceiving : s.receiving = true) (hblocks : s.reg Reg.UPD_LEN / 4096 ≤ s.update.blocks.length)
include hreceiving hblocks

theorem verifyUpdate_judged : s.verifyUpdate store members =
    let bank := !s.update.recovery && !s.bankB
    let t := chainTold s members
    if verifyImage (receivedImage s) = .security then verifyFailed (t.bump Reg.SIG_FAIL) bank (verifyImage (receivedImage s))
    else if verifyImage (receivedImage s) ≠ .ok then verifyFailed t bank (verifyImage (receivedImage s))
    else if store = .failed then verifyFailed t bank .eccUncorr
    else (some (.ok, []), verifyPassed t bank (receivedImage s)) :=
  if_neg (by simp [hreceiving, hblocks])

theorem verifyUpdate_whole (hst : verifyImage (receivedImage s) = st) : s.verifyUpdate store members =
    let bank := !s.update.recovery && !s.bankB
    let t := if st = .security then (chainTold s members).bump Reg.SIG_FAIL else chainTold s members
    let r := if st = .ok ∧ store = .failed then .eccUncorr else st
    (some (r, []), if r = .ok then verifyPassed t bank (receivedImage s)
      else ((t.setReg (bankState bank) 5).setReg Reg.UPD_STATE s.updIdle).setReg Reg.UPD_LAST_STATUS r.code) := by
  have hidle : ((chainTold s members).bump Reg.SIG_FAIL).updIdle = s.updIdle := updIdle_chainTold
  rw [verifyUpdate_judged hreceiving hblocks, hst]
  by_cases hsecurity : st = .security
  · simp [hsecurity, verifyFailed, hidle]
  · by_cases hok : st = .ok
    · cases store <;> simp [hok, verifyFailed, updIdle_chainTold]
    · simp [hsecurity, hok, verifyFailed, updIdle_chainTold]

end Whole

/-! ### The handover (R449, R450, R453) -/

theorem handOver_barred (hbar : s.activateBar back = some st) : s.handOver x back holds tk =
    (some (st, []), (s.bump Reg.UPD_REFUSED).setReg Reg.UPD_LAST_STATUS st.code) := by
  rw [State.handOver, hbar]
  rfl

section HandOver

variable (hopen : s.activateBar back = none)
include hopen

theorem handOver_unverified (hholds : holds = false) : s.handOver x back holds tk = (some (.security, []),
    (((s.setReg (bankState (!s.bankB)) 5).bump Reg.SIG_FAIL).setReg Reg.UPD_STATE s.updIdle).setReg
      Reg.UPD_LAST_STATUS Status.security.code) := by
  rw [State.handOver, hopen]
  exact if_pos (by simp [hholds])

theorem handOver_begins (hholds : holds = true) : s.handOver x back holds tk = (none,
    let t := (s.setReg Reg.UPD_STATE 4).modUpdate fun u =>
      { u with asked := some (x.peer, if back then 0x25 else 0x23, x.tag.toNat) }
    match tk with
    | .confirms v => t.takeOver back v
    | .unsupported => t.handoverFails back .version
    | .silent => t.modUpdate fun u => { u with handover := some (s.now, back) }) := by
  rw [State.handOver, hopen]
  exact if_neg (by simp [hholds])

end HandOver

theorem handoverTimeout_some (hrun : s.update.handover = some (at', back)) : exec .handoverTimeout s =
    .next (if at' + 1000000000 ≤ s.now then (s.handoverFails back .timeout).takeHeld else s) := by
  show execHandoverTimeout s = _
  rw [execHandoverTimeout, hrun]

theorem handoverTimeout_none (hnone : s.update.handover = none) : exec .handoverTimeout s = .next s := by
  show execHandoverTimeout s = _
  rw [execHandoverTimeout, hnone]

/-! ### UPD_COMMIT, UPD_ABORT, UPD_STATUS (R447, R452) -/

theorem updCommit_onProbation (hready : s.htpReady x 0x24 y) (hon : (s.htpTaken x).onProbation = true) :
    exec (.updCommit x) s = .next ((s.htpTaken x).commitBank.reply x 0x24 .ok []) :=
  congrArg Host.Outcome.next (htp_answers (a := (.ok, [])) hready rfl (if_pos hon))

theorem updCommit_refused (hready : s.htpReady x 0x24 y) (hoff : (s.htpTaken x).onProbation = false) :
    exec (.updCommit x) s = .next ((s.htpTaken x).reply x 0x24 .refused []) :=
  congrArg Host.Outcome.next (htp_answers (a := (.refused, [])) hready rfl (if_neg (by simp [hoff])))

/-- UPD_STATE is written only where it told of the probation, and touches neither the bank nor SVN_MIN. -/
theorem reg_commitBank {o : Obj} (ho : Reg.UPD_STATE.key ≠ o.key) : s.commitBank.reg o =
    ((s.setReg (bankState s.bankB) 3).setReg Reg.SVN_MIN (max (s.reg Reg.SVN_MIN) (s.update.image s.bankB).svn)).reg o := by
  rw [State.commitBank]
  split
  · exact State.reg_setReg_other _ ho 0
  · rfl

theorem commitBank_bank : s.commitBank.reg (bankState s.bankB) = 3 := by
  have hstate : ∀ b, Reg.UPD_STATE.key ≠ (bankState b).key := by decide
  have hsvn : ∀ b, Reg.SVN_MIN.key ≠ (bankState b).key := by decide
  rw [reg_commitBank (hstate _), State.reg_setReg_other _ (hsvn _), State.reg_setReg_same]

theorem commitBank_svn : s.commitBank.reg Reg.SVN_MIN = max (s.reg Reg.SVN_MIN) (s.update.image s.bankB).svn := by
  rw [reg_commitBank (by decide), State.reg_setReg_same]

theorem commitBank_probation : s.commitBank.update.probationFrom = none := by
  rw [State.commitBank]
  split <;> rfl

theorem updAbort_receiving (hready : s.htpReady x 0x26 y) (hreceiving : (s.htpTaken x).receiving = true) :
    exec (.updAbort x) s = .next (((((s.htpTaken x).modUpdate fun u =>
      { u with blocks := [], chain := [], chainStatus := [], chainFrom := none }).setReg Reg.UPD_STATE
        (s.htpTaken x).updIdle).setReg Reg.UPD_BLOCKS 0).reply x 0x26 .ok []) :=
  congrArg Host.Outcome.next (htp_answers (a := (.ok, [])) hready rfl (if_neg (by simp [hreceiving])))

theorem updAbort_idle (hready : s.htpReady x 0x26 y) (hidle : (s.htpTaken x).receiving = false) :
    exec (.updAbort x) s = .next ((s.htpTaken x).reply x 0x26 .ok []) :=
  congrArg Host.Outcome.next (htp_answers (a := (.ok, [])) hready rfl (if_pos (by simp [hidle])))

theorem updStatus_ready (hready : s.htpReady x 0x27 y) : exec (.updStatus x) s = .next (
    let t := s.htpTaken x
    t.reply x 0x27 .ok (leBytes 1 (t.reg Reg.UPD_STATE) ++ leBytes 4 (t.reg Reg.UPD_BLOCKS) ++
      leBytes 4 (t.reg Reg.UPD_LEN) ++ leBytes 1 (t.reg Reg.BANK_A_STATE) ++ leBytes 1 (t.reg Reg.BANK_B_STATE) ++
      leBytes 4 (t.reg Reg.BANK_A_VER) ++ leBytes 4 (t.reg Reg.BANK_B_VER) ++
      t.update.chainStatus.flatMap fun a => leBytes 1 a.code)) :=
  congrArg Host.Outcome.next (htp_answers (a := (.ok, _)) hready rfl rfl)

/-! ### Microcode, probation and recovery (R451–R455) -/

theorem microcodeSwap_due (hwant : s.update.swapFrom = some at') (hquiet : s.noStep = true) :
    exec (.microcodeSwap us) s = .next (
      let x := s.update.image (if s.update.asked.isSome then !s.bankB else s.bankB)
      (((s.modUpdate fun u =>
        { u with ucRun := x.uc.foldl (fun a c => Assoc.set c.1 c.2 a) u.ucRun, swapFrom := none }).bump
        Reg.UC_SWAPS).peak Reg.SWAP_MAX_US us.val).closeHandover) := if_neg (by simp [hwant, hquiet])

theorem microcodeSwap_waits (h : s.update.swapFrom = none ∨ s.noStep = false) : exec (.microcodeSwap us) s = .next s :=
  if_pos (by simpa using h)

theorem probationExpiry_some (hfrom : s.update.probationFrom = some at') : exec .probationExpiry s =
    .next (if at' + s.reg Reg.PROBATION_S * 1000000000 ≤ s.now ∧ s.onProbation then s.commitBank else s) := by
  show execProbationExpiry s = _
  rw [execProbationExpiry, hfrom]

theorem probationExpiry_kept (hfrom : s.update.probationFrom = some at')
    (hkept : s.now < at' + s.reg Reg.PROBATION_S * 1000000000 ∨ s.onProbation = false) :
    exec .probationExpiry s = .next s := by
  rw [probationExpiry_some hfrom, if_neg]
  exact fun ⟨hdue, hon⟩ => hkept.elim hdue.not_gt fun hoff => by simp [hoff] at hon

theorem probationExpiry_none (hnone : s.update.probationFrom = none) : exec .probationExpiry s = .next s := by
  show execProbationExpiry s = _
  rw [execProbationExpiry, hnone]

theorem deferredMicrocodeSwap_due (hdeferred : s.reg Reg.UPD_STATE = 0x85) (hgait : s.reg Reg.GAIT ≠ 1) :
    exec .deferredMicrocodeSwap s = .next ((s.setReg Reg.UPD_STATE 0).modUpdate fun u => { u with swapFrom := some s.now }) :=
  if_neg (not_or.mpr ⟨not_not.mpr hdeferred, hgait⟩)

theorem deferredMicrocodeSwap_waits (h : s.reg Reg.UPD_STATE ≠ 0x85 ∨ s.reg Reg.GAIT = 1) :
    exec .deferredMicrocodeSwap s = .next s := if_pos h

theorem recoveryBoot_ready (hboot : s.update.recovery = true) (hdone : s.reg Reg.UPD_STATE = 3)
    (hbank : s.reg Reg.BANK_A_STATE = 1) : exec .recoveryBoot s = .next
      ((((if s.reg Reg.BANK_B_STATE = 3 then s.setReg Reg.BANK_B_STATE 5 else s).setReg Reg.BANK_A_STATE 3).setReg
        Reg.BANK_ACTIVE 0).coldStart 0) := if_neg (by simp [hboot, hdone, hbank])

theorem recoveryBoot_waits (h : s.update.recovery = false ∨ s.reg Reg.UPD_STATE ≠ 3 ∨ s.reg Reg.BANK_A_STATE ≠ 1) :
    exec .recoveryBoot s = .next s := if_pos (by simpa using h)

/-- Settles O24: each operation by the guards of R447–R455, over HTP as `State.htp` of its opcode. -/
theorem firmwareUpdate : Obligations.FirmwareUpdate :=
  ⟨fun _ _ _ _ _ _ hready hf => congrArg Host.Outcome.next (updOp_htp.trans (htp_answers hready rfl hf)),
    fun _ _ _ _ _ _ hon hrun hboot hidle hlink hf =>
      congrArg Host.Outcome.next (updOp_chain_answers hon hrun hboot hidle hlink hf),
    fun _ _ _ _ h => congrArg Host.Outcome.next (updOp_chain_unreached h),
    fun _ _ _ _ _ hbar => beginUpdate_barred hbar,
    fun _ _ _ _ hopen hbad => beginUpdate_malformed hopen hbad,
    fun _ _ _ _ hopen hl hs hp hz hm hr hn hno => beginUpdate_unreached hopen hl hs hp hz hm hr hn hno,
    fun _ _ _ _ hopen hl hs hp hz hm hr hreach => beginUpdate_begins hopen hl hs hp hz hm hr hreach,
    fun _ _ _ hready hidle => updBlock_idle hready hidle,
    fun _ _ _ hready hreceiving hbad => updBlock_bad hready hreceiving hbad,
    fun _ _ _ hready hreceiving hlen hplace => updBlock_placed hready hreceiving hlen hplace,
    fun _ _ _ _ _ hon hrun hidle hplace hheld hnext => updBlock_again hon hrun hidle hplace hheld hnext,
    fun _ _ _ h => updBlock_ignored h,
    fun _ _ _ => rfl,
    fun _ _ h => chainBlockReceive_waits h,
    fun _ _ _ hlines hall hreceiving hretries => by
      rw [chainBlockReceive_whole hlines hall hreceiving]
      simp only [if_pos hretries]
      exact (apply_ite Host.Outcome.next ..).symm,
    fun _ _ _ hlines hall hreceiving hretries => by
      rw [chainBlockReceive_whole hlines hall hreceiving]
      simp only [if_neg hretries.not_gt]
      exact (apply_ite Host.Outcome.next ..).symm,
    fun _ _ _ _ _ _ _ hready hf => congrArg Host.Outcome.next (updOp_htp.trans (htp_answers hready rfl hf)),
    fun _ _ _ _ _ _ _ hon hrun hboot hidle hlink hf =>
      congrArg Host.Outcome.next (updOp_chain_answers hon hrun hboot hidle hlink hf),
    fun _ _ _ _ _ h => congrArg Host.Outcome.next (updOp_chain_unreached h),
    fun _ _ _ h => verifyUpdate_partial h,
    fun _ _ _ _ hreceiving hblocks hst => verifyUpdate_whole hreceiving hblocks hst,
    fun _ _ _ _ _ _ _ hready hf => congrArg Host.Outcome.next (htp_answers hready rfl hf),
    fun _ _ _ _ _ _ hready hf => congrArg Host.Outcome.next (htp_later hready rfl hf),
    fun _ _ _ _ _ _ _ hready hf => congrArg Host.Outcome.next (htp_answers hready rfl hf),
    fun _ _ _ _ _ _ hready hf => congrArg Host.Outcome.next (htp_later hready rfl hf),
    fun _ _ _ _ _ _ hbar => handOver_barred hbar,
    fun _ _ _ _ _ hopen hholds => handOver_unverified hopen hholds,
    fun _ _ _ _ _ hopen hholds => handOver_begins hopen hholds,
    fun _ _ _ hrun hdue => (handoverTimeout_some hrun).trans (congrArg Host.Outcome.next (if_pos hdue)),
    fun _ _ _ hrun hearly => (handoverTimeout_some hrun).trans (congrArg Host.Outcome.next (if_neg hearly.not_ge)),
    fun _ hnone => handoverTimeout_none hnone,
    fun _ _ _ hready hon => updCommit_onProbation hready hon,
    fun _ _ _ hready hoff => updCommit_refused hready hoff,
    fun _ => ⟨commitBank_bank, commitBank_svn, commitBank_probation⟩,
    fun _ _ _ hready hreceiving => updAbort_receiving hready hreceiving,
    fun _ _ _ hready hidle => updAbort_idle hready hidle,
    fun _ _ _ hready => updStatus_ready hready,
    fun _ _ _ hwant hquiet => microcodeSwap_due hwant hquiet,
    fun _ _ h => microcodeSwap_waits h,
    fun _ _ hfrom hdue hon => (probationExpiry_some hfrom).trans (congrArg Host.Outcome.next (if_pos ⟨hdue, hon⟩)),
    fun _ _ hfrom hkept => probationExpiry_kept hfrom hkept,
    fun _ hnone => probationExpiry_none hnone,
    fun _ hdeferred hgait => deferredMicrocodeSwap_due hdeferred hgait,
    fun _ h => deferredMicrocodeSwap_waits h,
    fun _ hboot hdone hbank => recoveryBoot_ready hboot hdone hbank,
    fun _ h => recoveryBoot_waits h⟩

end Sys2Proof.FirmwareProofs
end

section
/-!
PROOFS. Blocks and flits on a link (R330, R331, R335–R342): a flit received and what becomes of it, a flit time of the transmitter,
the priorities, acknowledgement, NAK and replay.
-/
namespace Sys2Proof.FlitProofs
open Sys2Proof Sys2Proof.Machine Sys2Proof.LinkControlProofs

variable {s u a : State} {l : LinkId} {lanes : List (List Block)} {adjust : BitVec 4} {codes : List Ecc} {f : WriteFacts}
  {x : List Byte} {y : Link} {k n : Nat} {b : List Byte} {r : List (List Byte)}

theorem linkUp_of_state (hup : s.reg (Reg.LINK_STATE n) = 2) : s.linkUp n = true := beq_iff_eq.mpr hup

theorem linkUp_false (hdown : s.reg (Reg.LINK_STATE n) ≠ 2) : s.linkUp n = false := beq_eq_false_iff_ne.mpr hdown

/-! ### A codeword received (R330, R331, R339) -/

theorem flitReceive_down (hdown : s.reg (Reg.LINK_STATE l.val) ≠ 2) :
    exec (.flitReceive l lanes adjust codes f) s = .next s := if_pos (by simp [linkUp_false hdown])

section Receive

variable (hup : s.reg (Reg.LINK_STATE l.val) = 2) (hfed : s.feedLanes l.val lanes adjust.toNat = u)
include hup hfed

theorem flitReceive_up : exec (.flitReceive l lanes adjust codes f) s =
    match ((u.link l.val).nextCodeword (s.rxOrder l.val)).1 with
    | .waiting => .next (u.setLink l.val ((u.link l.val).nextCodeword (s.rxOrder l.val)).2)
    | .broken => .next ((u.setLink l.val ((u.link l.val).nextCodeword (s.rxOrder l.val)).2).codewordLost l.val)
    | .bytes b on => match rsDecode b with
      | none => .next ((u.setLink l.val ((u.link l.val).nextCodeword (s.rxOrder l.val)).2).codewordLost l.val)
      | some d => .next (((u.setLink l.val ((u.link l.val).nextCodeword (s.rxOrder l.val)).2).noteCorrected l.val
          (correctedBy on d.2)).takeFlit l.val (d.1.map (BitVec.ofNat 8)) codes f) := by
  subst hfed
  exact if_neg (by simp [linkUp_of_state hup])

theorem flitReceive_waiting (hcode : (u.link l.val).nextCodeword (s.rxOrder l.val) = (.waiting, y)) :
    exec (.flitReceive l lanes adjust codes f) s = .next (u.setLink l.val y) := by
  rw [flitReceive_up hup hfed, hcode]

omit hup in
/-- A codeword that is lost is recorded in the second in which its blocks came. -/
theorem codewordLost_fed : (u.setLink l.val y).codewordLost l.val =
    (((u.setLink l.val y).bumpAt Reg.FEC_UNCORR l.val).logGated 30 l.val s.second (flitNote l.val)).nakFlit l.val := by
  have hsecond : (u.setLink l.val y).second = s.second := by
    rw [← hfed]
    rfl
  rw [State.codewordLost, hsecond]

theorem flitReceive_broken (hcode : (u.link l.val).nextCodeword (s.rxOrder l.val) = (.broken, y)) :
    exec (.flitReceive l lanes adjust codes f) s = .next
      ((((u.setLink l.val y).bumpAt Reg.FEC_UNCORR l.val).logGated 30 l.val s.second (flitNote l.val)).nakFlit l.val) := by
  rw [flitReceive_up hup hfed, hcode, ← codewordLost_fed hfed]

section Bytes

variable {c on : List Nat} (hcode : (u.link l.val).nextCodeword (s.rxOrder l.val) = (.bytes c on, y))
include hcode

theorem flitReceive_undecoded (hdecode : rsDecode c = none) :
    exec (.flitReceive l lanes adjust codes f) s = .next
      ((((u.setLink l.val y).bumpAt Reg.FEC_UNCORR l.val).logGated 30 l.val s.second (flitNote l.val)).nakFlit l.val) := by
  rw [flitReceive_up hup hfed, hcode, ← codewordLost_fed hfed]
  simp only [hdecode]

theorem flitReceive_decoded {d : List Nat × List Nat} (hdecode : rsDecode c = some d) :
    exec (.flitReceive l lanes adjust codes f) s = .next
      (((u.setLink l.val y).noteCorrected l.val (correctedBy on d.2)).takeFlit l.val (d.1.map (BitVec.ofNat 8)) codes f) := by
  rw [flitReceive_up hup hfed, hcode]
  simp only [hdecode]

end Bytes

end Receive

/-! ### A flit taken, by the first case of R339 that applies -/

theorem takeFlit_badCrc (hcrc : flitCrcOk x = false) : s.takeFlit n x codes f =
    ((s.bumpAt Reg.CRC_FAIL n).logGated 31 n s.second (flitNote n)).nakFlit n := if_pos (by simp [hcrc])

section GoodCrc

variable (hcrc : flitCrcOk x = true) (hheard : (s.modLink n fun y => y.heard (flitHeader x) s.now) = u)
include hcrc hheard

theorem takeFlit_heard : s.takeFlit n x codes f =
    let ahead := (bitField (flitHeader x) 4 12 + 4096 - (u.link n).rxLast - 1) % 4096
    if bitField (flitHeader x) 0 3 = 7 then u.resumeLink n
    else if ahead = 0 then (u.wakeByFlit n).acceptFlit n x codes f
    else if 2048 ≤ ahead then (u.bumpAt Reg.DUP_RX n).modLink n fun y => { y with unacked := max 32 y.unacked }
    else u.bumpAt Reg.SEQ_DISCARD n := by
  subst hheard
  exact if_neg (by simp [hcrc])

theorem takeFlit_link (htype : bitField (flitHeader x) 0 3 = 7) : s.takeFlit n x codes f = u.resumeLink n :=
  (takeFlit_heard hcrc hheard).trans (if_pos htype)

variable (htype : bitField (flitHeader x) 0 3 ≠ 7)
include htype

theorem takeFlit_next (hahead : (bitField (flitHeader x) 4 12 + 4096 - (u.link n).rxLast - 1) % 4096 = 0) :
    s.takeFlit n x codes f = (u.wakeByFlit n).acceptFlit n x codes f :=
  (takeFlit_heard hcrc hheard).trans ((if_neg htype).trans (if_pos hahead))

theorem takeFlit_seen (hahead : 2048 ≤ (bitField (flitHeader x) 4 12 + 4096 - (u.link n).rxLast - 1) % 4096) :
    s.takeFlit n x codes f = (u.bumpAt Reg.DUP_RX n).modLink n fun y => { y with unacked := max 32 y.unacked } :=
  (takeFlit_heard hcrc hheard).trans ((if_neg htype).trans ((if_neg (by omega)).trans (if_pos hahead)))

theorem takeFlit_ahead (hsome : 0 < (bitField (flitHeader x) 4 12 + 4096 - (u.link n).rxLast - 1) % 4096)
    (hfew : (bitField (flitHeader x) 4 12 + 4096 - (u.link n).rxLast - 1) % 4096 < 2048) :
    s.takeFlit n x codes f = u.bumpAt Reg.SEQ_DISCARD n :=
  (takeFlit_heard hcrc hheard).trans ((if_neg htype).trans ((if_neg hsome.ne').trans (if_neg hfew.not_ge)))

end GoodCrc

/-- A link in whose state a flit has been accepted. -/
def flitAccepted (s : State) (n : Nat) (x : List Byte) : State :=
  (s.bumpAt Reg.FLITS_RX n).modLink n fun y =>
    { y with rxLast := bitField (flitHeader x) 4 12, gapNak := false, unacked := y.unacked + 1,
             unackedFrom := if y.unacked = 0 then s.now else y.unackedFrom }

theorem acceptFlit_bad (hbad : flitBad x = true) : s.acceptFlit n x codes f =
    let t := ((flitAccepted s n x).bumpAt Reg.FLIT_BADFMT n).logGated 29 n (flitAccepted s n x).second
      { cls := .link, status := .badFormat, unit := n, ref := bitField (flitHeader x) 4 12 }
    if bitField (flitHeader x) 0 3 ≤ 4 then
      t.freePlace n (poolOf (bitField (flitHeader x) 0 3) (natBit (flitHeader x) 3))
    else t := if_pos hbad

theorem acceptFlit_good (hgood : flitBad x = false) :
    s.acceptFlit n x codes f = (flitAccepted s n x).takePayload n x codes f := if_neg (by simp [hgood])

/-! ### A flit time of the transmitter (R335, R340, R342) -/

theorem flitTransmit_down (hdown : s.reg (Reg.LINK_STATE l.val) ≠ 2) : exec (.flitTransmit l) s = .next (s.accrueHold l.val) :=
  if_pos (by simp [linkUp_false hdown])

section Transmit

variable (hup : s.reg (Reg.LINK_STATE l.val) = 2)
  (ha : (s.spreadBroadcasts.spreadHitches.stallTime l.val).noteFull l.val = a)
include hup ha

theorem flitTransmit_up : exec (.flitTransmit l) s =
    if (a.link l.val).resume then .next (a.sendLinkFlit l.val)
    else match (a.link l.val).replayAt with
      | some k => .next (a.resend l.val k)
      | none =>
        if 256 ≤ (a.link l.val).replay.length then .next (a.sendLinkFlit l.val)
        else .next ((a.sendAny l.val).ageGateway l.val) := by
  subst ha
  exact if_neg (by simp [linkUp_of_state hup])

theorem flitTransmit_resume (hresume : (a.link l.val).resume = true) :
    exec (.flitTransmit l) s = .next (a.sendLinkFlit l.val) := by
  rw [flitTransmit_up hup ha, if_pos hresume]

variable (hresume : (a.link l.val).resume = false)
include hresume

theorem flitTransmit_replay (hreplay : (a.link l.val).replayAt = some k) :
    exec (.flitTransmit l) s = .next (a.resend l.val k) := by
  rw [flitTransmit_up hup ha, if_neg (by simp [hresume]), hreplay]

variable (hnone : (a.link l.val).replayAt = none)
include hnone

theorem flitTransmit_full (hfull : 256 ≤ (a.link l.val).replay.length) :
    exec (.flitTransmit l) s = .next (a.sendLinkFlit l.val) := by
  rw [flitTransmit_up hup ha, if_neg (by simp [hresume]), hnone]
  exact if_pos hfull

theorem flitTransmit_new (hroom : (a.link l.val).replay.length < 256) :
    exec (.flitTransmit l) s = .next ((a.sendAny l.val).ageGateway l.val) := by
  rw [flitTransmit_up hup ha, if_neg (by simp [hresume]), hnone]
  exact if_neg hroom.not_ge

end Transmit

theorem resend_held {g : SentFlit} (hheld : (s.link n).replay[k]? = some g) : s.resend n k =
    ((s.setLink n { s.link n with replayAt := if k + 1 < (s.link n).replay.length then some (k + 1) else none }).putFlit n
      g.ftype g.seq g.cls g.payload).bumpAt Reg.REPLAY_FLITS n := by
  simp only [State.resend, hheld]

theorem resend_past (hpast : (s.link n).replay[k]? = none) :
    s.resend n k = s.setLink n { s.link n with replayAt := none } := by
  simp only [State.resend, hpast]

/-! ### The flit of the highest priority that finds a credit (R342) -/

theorem credit_of_ne {p : Nat} (hcredit : y.credits.getD p 0 ≠ 0) : (y.credits.getD p 0 != 0) = true :=
  bne_iff_ne.mpr hcredit

theorem sendNext_sync (hsync : (s.link n).sync = b :: r) (hcredit : (s.link n).credits.getD 5 0 ≠ 0) :
    s.sendNext n = (s.setLink n { s.link n with sync := r }).sendFlit n 4 false b := by
  simp only [State.sendNext, hsync]
  exact if_pos (credit_of_ne hcredit)

section NoSync

variable (hsync : (s.link n).sync = [])
include hsync

theorem sendNext_hitch (hhitch : (s.link n).hitch = b :: r) (hcredit : (s.link n).credits.getD 5 0 ≠ 0) :
    s.sendNext n = (s.setLink n { s.link n with hitch := r }).sendFlit n 4 false b := by
  simp only [State.sendNext, hsync, hhitch]
  exact if_pos (credit_of_ne hcredit)

variable (hhitch : (s.link n).hitch = [])
include hhitch

theorem sendNext_reply (hreps : (s.link n).reps = b :: r) (hcredit : (s.link n).credits.getD 4 0 ≠ 0) :
    s.sendNext n = (s.setLink n { s.link n with reps := r }).sendFlit n 3 false b := by
  simp only [State.sendNext, hsync, hhitch, hreps]
  exact if_pos (credit_of_ne hcredit)

variable (hreps : (s.link n).reps = [])
include hreps

theorem sendNext_request (hreqs : (s.link n).reqs = b :: r) (hcredit : (s.link n).credits.getD 3 0 ≠ 0) :
    s.sendNext n = (s.setLink n { s.link n with reqs := r }).sendFlit n 2 false b := by
  simp only [State.sendNext, hsync, hhitch, hreps, hreqs]
  exact if_pos (credit_of_ne hcredit)

variable (hreqs : (s.link n).reqs = [])
include hreqs

/-- Below the control flits EVENT and BULK take turns. -/
theorem sendNext_turns : s.sendNext n =
    let s1 := s.setLink n { s.link n with turn := ((s.link n).turn + 1) % 8 }
    match (s.link n).bulk, s.nextEvents n with
    | b :: r, [] =>
      if (s.link n).credits.getD 2 0 != 0 then (s1.modLink n fun y => { y with bulk := r }).sendFlit n 1 false b
      else s.sendLinkFlit n
    | b :: r, _ =>
      if ((s.link n).credits.getD 2 0 != 0) = true ∧ (s.link n).turn < s.reg Reg.BULK_WEIGHT then
        (s1.modLink n fun y => { y with bulk := r }).sendFlit n 1 false b
      else s1.sendEvents n (s.nextEvents n)
    | [], [] => s.sendLinkFlit n
    | [], _ => s1.sendEvents n (s.nextEvents n) := by
  simp only [State.sendNext, hsync, hhitch, hreps, hreqs] <;> rfl

theorem sendNext_bulk (hbulk : (s.link n).bulk = b :: r) (hcredit : (s.link n).credits.getD 2 0 ≠ 0)
    (hturn : s.nextEvents n = [] ∨ (s.link n).turn < s.reg Reg.BULK_WEIGHT) : s.sendNext n =
      ((s.setLink n { s.link n with turn := ((s.link n).turn + 1) % 8 }).modLink n fun y => { y with bulk := r }).sendFlit n
        1 false b := by
  rw [sendNext_turns hsync hhitch hreps hreqs, hbulk]
  cases hevents : s.nextEvents n with
  | nil => exact if_pos (credit_of_ne hcredit)
  | cons e es => exact if_pos ⟨credit_of_ne hcredit, hturn.resolve_left (by simp [hevents])⟩

theorem sendNext_events (hevents : s.nextEvents n ≠ [])
    (hturn : (s.link n).bulk = [] ∨ (s.link n).credits.getD 2 0 = 0 ∨ s.reg Reg.BULK_WEIGHT ≤ (s.link n).turn) :
    s.sendNext n =
      (s.setLink n { s.link n with turn := ((s.link n).turn + 1) % 8 }).sendEvents n (s.nextEvents n) := by
  rw [sendNext_turns hsync hhitch hreps hreqs]
  obtain ⟨e, es, heq⟩ := List.exists_cons_of_ne_nil hevents
  rw [heq]
  cases hbulk : (s.link n).bulk with
  | nil => rfl
  | cons b r =>
    refine if_neg fun ⟨hcredit, hearly⟩ => (hturn.resolve_left (by simp [hbulk])).elim (fun hnone => ?_) hearly.not_ge
    exact bne_iff_ne.mp hcredit hnone

theorem sendNext_link (hevents : s.nextEvents n = [])
    (hnone : (s.link n).bulk = [] ∨ (s.link n).credits.getD 2 0 = 0) : s.sendNext n = s.sendLinkFlit n := by
  rw [sendNext_turns hsync hhitch hreps hreqs, hevents]
  cases hbulk : (s.link n).bulk with
  | nil => rfl
  | cons b r => exact if_neg fun hcredit => bne_iff_ne.mp hcredit (hnone.resolve_left (by simp [hbulk]))

end NoSync

/-! ### Acknowledgement (R339) -/

/-- Scrambling blocks leaves what a link owes the other end. -/
theorem scrambledAll_owed (l : List (Nat × Nat × Nat)) (y : Link) :
    (y.scrambledAll l).2.unacked = y.unacked ∧ (y.scrambledAll l).2.nakOut = y.nakOut := by
  induction l generalizing y with
  | nil => exact ⟨rfl, rfl⟩
  | cons b l ih => exact ih (y.scrambled b.1 b.2.1 b.2.2).2

theorem sendCodeword_owed {data : List Byte} :
    (s.sendCodeword y n data).2.unacked = y.unacked ∧ (s.sendCodeword y n data).2.nakOut = y.nakOut := by
  rw [State.sendCodeword]
  generalize (List.map _ _ ++ _) = blocks
  exact scrambledAll_owed blocks y

/-- A flit on the wire acknowledges what has been accepted. -/
theorem putFlit_acknowledges {ftype seq : Nat} {cls : Bool} :
    ((s.putFlit n ftype seq cls b).link n).unacked = 0 ∧ ((s.putFlit n ftype seq cls b).link n).nakOut = false := by
  rw [State.putFlit, show ∀ (t : State) (z : Link), (t.setLink n z).link n = z from fun t z => link_modLink n fun _ => z]
  exact sendCodeword_owed

theorem ackTimer_due (hup : s.reg (Reg.LINK_STATE l.val) = 2) (hsome : (s.link l.val).unacked ≠ 0)
    (hdue : 32 ≤ (s.link l.val).unacked ∨ (s.link l.val).unackedFrom + 500 ≤ s.now) :
    exec (.ackTimer l) s = .next (s.sendLinkFlit l.val) := if_pos ⟨linkUp_of_state hup, hsome, hdue⟩

theorem ackTimer_idle (h : s.reg (Reg.LINK_STATE l.val) ≠ 2 ∨ (s.link l.val).unacked = 0 ∨
      (s.link l.val).unacked < 32 ∧ s.now < (s.link l.val).unackedFrom + 500) : exec (.ackTimer l) s = .next s := by
  refine if_neg fun ⟨hup, hsome, hdue⟩ => ?_
  rcases h with hdown | hnone | ⟨hfew, hearly⟩
  · exact hdown (beq_iff_eq.mp hup)
  · exact hsome hnone
  · exact hdue.elim hfew.not_ge hearly.not_ge

/-! ### NAK and replay (R340) -/

theorem nakReceive_due (hup : s.reg (Reg.LINK_STATE l.val) = 2) (hnak : (s.link l.val).nakIn = true) :
    exec (.nakReceive l) s = .next ((s.setLink l.val { s.link l.val with nakIn := false }).beginReplay l.val) :=
  if_pos ⟨hnak, linkUp_of_state hup⟩

theorem nakReceive_idle (h : s.reg (Reg.LINK_STATE l.val) ≠ 2 ∨ (s.link l.val).nakIn = false) :
    exec (.nakReceive l) s = .next s :=
  if_neg fun ⟨hnak, hup⟩ => h.elim (fun hdown => hdown (beq_iff_eq.mp hup)) fun hnone => by simp [hnone] at hnak

theorem replayTimeout_due (hup : s.reg (Reg.LINK_STATE l.val) = 2) (hsome : (s.link l.val).replay ≠ [])
    (hnone : (s.link l.val).replayAt = none) (hdue : (s.link l.val).ackAt + s.reg Reg.RETRY_TMO_NS ≤ s.now) :
    exec (.replayTimeout l) s = .next (s.beginReplay l.val) := if_pos ⟨linkUp_of_state hup, hsome, hnone, hdue⟩

theorem replayTimeout_idle (h : s.reg (Reg.LINK_STATE l.val) ≠ 2 ∨ (s.link l.val).replay = [] ∨
      (s.link l.val).replayAt ≠ none ∨ s.now < (s.link l.val).ackAt + s.reg Reg.RETRY_TMO_NS) :
    exec (.replayTimeout l) s = .next s := by
  refine if_neg fun ⟨hup, hsome, hnone, hdue⟩ => ?_
  rcases h with hdown | hempty | hreplay | hearly
  · exact hdown (beq_iff_eq.mp hup)
  · exact hsome hempty
  · exact hreplay hnone
  · exact hearly.not_ge hdue

theorem beginReplay_empty (hempty : (s.link n).replay = []) : s.beginReplay n = s := if_pos hempty

theorem beginReplay_again (hsome : (s.link n).replay ≠ []) (hfew : (s.link n).stuck < 7) : s.beginReplay n =
    (s.bumpAt Reg.REPLAYS n).setLink n { s.link n with
      replayAt := some 0, stuck := (s.link n).stuck + 1, ackAt := s.now } :=
  (if_neg hsome).trans (if_neg hfew.not_ge)

theorem beginReplay_stuck (hsome : (s.link n).replay ≠ []) (hmany : 7 ≤ (s.link n).stuck) : s.beginReplay n =
    ((s.bumpAt Reg.REPLAYS n).modLink n fun y => { y with stuck := 0 }).beginTraining n true false :=
  (if_neg hsome).trans (if_pos hmany)

/-- Settles O20: the codeword, the flit in it by the cases of R339, the flit time by its priorities, and the replay. -/
theorem linkFlits : Obligations.LinkFlits :=
  ⟨fun _ _ _ _ _ _ hdown => flitReceive_down hdown,
    fun _ _ _ _ _ _ _ _ hup hfed hcode => flitReceive_waiting hup hfed hcode,
    fun _ _ _ _ _ _ _ _ hup hfed hcode => flitReceive_broken hup hfed hcode,
    fun _ _ _ _ _ _ _ _ _ _ hup hfed hcode hdecode => flitReceive_undecoded hup hfed hcode hdecode,
    fun _ _ _ _ _ _ _ _ _ _ _ hup hfed hcode hdecode => flitReceive_decoded hup hfed hcode hdecode,
    fun _ _ => rfl,
    fun _ _ _ _ _ hcrc => takeFlit_badCrc hcrc,
    fun _ _ _ _ _ _ hcrc hheard htype => takeFlit_link hcrc hheard htype,
    fun _ _ _ _ _ _ hcrc hheard htype hahead => takeFlit_next hcrc hheard htype hahead,
    fun _ _ _ _ _ _ hcrc hheard htype hahead => takeFlit_seen hcrc hheard htype hahead,
    fun _ _ _ _ _ _ hcrc hheard htype hsome hfew => takeFlit_ahead hcrc hheard htype hsome hfew,
    fun _ _ _ _ _ hbad => acceptFlit_bad hbad,
    fun _ _ _ _ _ hgood => acceptFlit_good hgood,
    fun _ _ hdown => flitTransmit_down hdown,
    fun _ _ _ hup ha hresume => flitTransmit_resume hup ha hresume,
    fun _ _ _ _ _ hup ha hresume hreplay hheld =>
      (flitTransmit_replay hup ha hresume hreplay).trans (congrArg Host.Outcome.next (resend_held hheld)),
    fun _ _ _ _ hup ha hresume hreplay hpast =>
      (flitTransmit_replay hup ha hresume hreplay).trans (congrArg Host.Outcome.next (resend_past hpast)),
    fun _ _ _ hup ha hresume hnone hfull => flitTransmit_full hup ha hresume hnone hfull,
    fun _ _ _ hup ha hresume hnone hroom => flitTransmit_new hup ha hresume hnone hroom,
    fun _ _ _ _ hsync hcredit => sendNext_sync hsync hcredit,
    fun _ _ _ _ hsync hhitch hcredit => sendNext_hitch hsync hhitch hcredit,
    fun _ _ _ _ hsync hhitch hreps hcredit => sendNext_reply hsync hhitch hreps hcredit,
    fun _ _ _ _ hsync hhitch hreps hreqs hcredit => sendNext_request hsync hhitch hreps hreqs hcredit,
    fun _ _ _ _ hsync hhitch hreps hreqs hbulk hcredit hturn =>
      sendNext_bulk hsync hhitch hreps hreqs hbulk hcredit hturn,
    fun _ _ hsync hhitch hreps hreqs hevents hturn => sendNext_events hsync hhitch hreps hreqs hevents hturn,
    fun _ _ hsync hhitch hreps hreqs hevents hnone => sendNext_link hsync hhitch hreps hreqs hevents hnone,
    fun _ _ hup hsome hdue => ackTimer_due hup hsome hdue,
    fun _ _ => putFlit_acknowledges,
    fun _ _ h => ackTimer_idle h,
    fun _ _ hup hnak => nakReceive_due hup hnak,
    fun _ _ h => nakReceive_idle h,
    fun _ _ hup hsome hnone hdue => replayTimeout_due hup hsome hnone hdue,
    fun _ _ h => replayTimeout_idle h,
    fun _ _ hempty => beginReplay_empty hempty,
    fun _ _ hsome hfew => beginReplay_again hsome hfew,
    fun _ _ hsome hmany => beginReplay_stuck hsome hmany⟩

end Sys2Proof.FlitProofs
end

section
/-!
PROOFS. What the block holds after reset, how a counter counts, and the commands of an engine that executes nothing.
-/
namespace Sys2Proof.ResetProofs
open Sys2Proof Sys2Proof.Machine

/-! ### After reset (R11, R242) -/

/-- Settles O37: after reset every list is empty, and an empty memory is canonical. -/
theorem resetMeetsInvariant : Obligations.ResetMeetsInvariant := ⟨rfl, rfl, rfl, rfl, rfl⟩

/-- A queue that nothing has bound is empty, and its pointers agree with their complements. -/
theorem queue_default : ({} : Queue).count = 0 ∧ ({} : Queue).mismatch = false := by decide

/-- Settles O38: nothing is listed, so every object, queue, Hitch, window and engine is at its default. -/
theorem resetValues : Obligations.ResetValues :=
  ⟨fun _ => rfl, ⟨rfl, rfl, rfl, rfl⟩,
    fun _ _ _ _ _ => ⟨rfl, queue_default.1, queue_default.2, rfl, rfl, rfl, rfl, rfl⟩⟩

/-! ### Counters (R9) -/

theorem count_wraps {ty : ObjTy} (hty : ty = .u64) (v n : Nat) : ty.count v n = (v + n) % 2 ^ 64 := by
  rw [hty]
  rfl

theorem count_saturates {ty : ObjTy} (hty : ty ≠ .u64) (v n : Nat) :
    ty.count v n = min (v + n) (2 ^ (8 * ty.bytes) - 1) := by
  cases ty
  case u64 => exact absurd rfl hty
  all_goals rfl

/-- Settles O39: a counter counts by its type, and counting writes the one object. -/
theorem countersSaturateOrWrap : Obligations.CountersSaturateOrWrap := by
  refine ⟨fun o n s hty => ?_, fun o n s hty => ?_, fun o n s hty hmax => ?_, fun o p n s hkey => ⟨?_, rfl, rfl⟩⟩
  · rw [State.reg_bumpBy_same, count_wraps hty]
  · rw [State.reg_bumpBy_same, count_saturates hty]
  · rw [State.reg_bumpBy_same, count_saturates hty, hmax]
    exact min_eq_right (Nat.le_add_right _ _)
  · exact State.reg_bumpBy_other s hkey n

/-! ### An engine that executes nothing -/

theorem perform_idle {s : State} {op : Opcode} {f : Entry → State → Performed} {others : Status}
    (hidle : s.runningOp 0 op = none) : s.perform op f (.own others) = .next s := by
  rw [State.perform, hidle]

/-- Settles O52: each command looks first for the command that its engine executes. -/
theorem engineCommandsNotRunning : Obligations.EngineCommandsNotRunning := by
  refine ⟨fun _ _ h => ?step, fun _ h => ?gait, fun _ h => ?learnEpoch, fun _ h => ?frcInvalidate,
    fun _ _ h => perform_idle h, fun _ _ h => perform_idle h, fun _ _ h => perform_idle h,
    fun _ h => ?harnessLoad, fun _ h => ?harnessUnload, fun _ h => ?gemm, fun _ h => ?conv, fun _ _ h => ?move,
    fun _ h => ?fill, fun _ h => ?groupDef, fun _ h => ?groupClear, fun _ h => ?tilestat, fun _ h => ?mapLoad,
    fun _ h => ?arm, fun _ h => ?disarm, fun _ h => ?gcmSeal, fun _ h => ?gcmOpen, fun _ h => ?sha384,
    fun _ h => ?ecdsaSign, fun _ h => ?ecdsaVerify, fun _ h => ?xtsKeyset⟩ <;> rw [exec]
  case step => rw [execStep, h]
  case gait => rw [execGait, h]
  case learnEpoch => rw [execLearnEpoch, h]
  case frcInvalidate => rw [execFrcInvalidate, h]
  case harnessLoad => rw [execHarnessLoad, h]
  case harnessUnload => rw [execHarnessUnload, h]
  case gemm => rw [execDenseGemm, h]
  case conv => rw [execDenseConv, h]
  case move => rw [execMove, h]
  case fill => rw [execFill, h]
  case groupDef => rw [execGroupDef, h]
  case groupClear => rw [execGroupClear, h]
  case tilestat => rw [execTilestat, h]
  case mapLoad => rw [execMapLoad, h]
  case arm => rw [execArm, h]
  case disarm => rw [execDisarm, h]
  case gcmSeal => rw [execGcmSeal, h]
  case gcmOpen => rw [execGcmOpen, h]
  case sha384 => rw [execSha384, h]
  case ecdsaSign => rw [execEcdsaSign, h]
  case ecdsaVerify => rw [execEcdsaVerify, h]
  case xtsKeyset => rw [execXtsKeyset, h]

end Sys2Proof.ResetProofs
end

section
/-!
PROOFS. What every step keeps: the waiting commands, the variant of the part and the invariant. A lemma per operation of the
model in the order of the model, each read off the operation; a command's lemma says the same of its outcome. This file has
the rules that compose them and the operations on queues and Hitches.
-/
namespace Sys2Proof.InvariantProofs
open Sys2Proof Sys2Proof.Machine
set_option Elab.async false

/-- What the invariant reads of a state, with the waiting commands and the variant. -/
abbrev kept (s : State) : List Instr × Variant × List Host.Cell × List FaultEntry × List CombEntry :=
  (s.pending, s.variant, s.mem, s.flog, s.comb)

/-- From `s` to `t` the waiting commands and the variant stay, and so does the invariant. -/
structure Keeps (s t : State) : Prop where
  pending : t.pending = s.pending
  variant : t.variant = s.variant
  inv : s.inv = true → t.inv = true

/-- An outcome that, where it is a next state, is one that `s` keeps to. -/
def Answers (s : State) (o : Host.Outcome State Fault Refusal) : Prop := ∀ t, o = .next t → Keeps s t

/-- Where an option holds something, its state `g` is one that `s` keeps to. -/
def Offers {β : Type} (g : β → State) (s : State) (o : Option β) : Prop := ∀ b, o = some b → Keeps s (g b)

section Rules

variable {s₀ s t u : State} {α β : Type} {c : Prop} {_ : Decidable c}

theorem Keeps.refl (s : State) : Keeps s s := ⟨rfl, rfl, id⟩

/-- An update of other fields only. -/
theorem Keeps.other (h : Keeps s₀ s) (e : kept t = kept s := by rfl) : Keeps s₀ t := by
  have hm : t.mem = s.mem := congrArg (·.2.2.1) e
  have hf : t.flog = s.flog := congrArg (·.2.2.2.1) e
  have hc : t.comb = s.comb := congrArg (·.2.2.2.2) e
  refine ⟨(congrArg (·.1) e).trans h.pending, (congrArg (·.2.1) e).trans h.variant, fun hi => ?_⟩
  have hs := h.inv hi
  simpa only [State.inv, State.canonical, State.bounded, hm, hf, hc] using hs

/-- An update of memory that keeps its canonical form. -/
theorem Keeps.mem {m : List Host.Cell} (h : Keeps s₀ s) (hm : Memory.wf s.mem → Memory.wf m) :
    Keeps s₀ { s with mem := m } := by
  refine ⟨h.pending, h.variant, fun hi => ?_⟩
  have hs := h.inv hi
  simp only [State.inv, State.canonical, Bool.and_eq_true] at hs ⊢
  exact ⟨hm hs.1, hs.2⟩

/-- An update of the fault log within its bound. -/
theorem Keeps.flog {l : List FaultEntry} {n : Nat} (h : Keeps s₀ s) (hl : s.flog.length ≤ 1024 → l.length ≤ 1024) :
    Keeps s₀ { s with flog := l, flogSeq := n } := by
  refine ⟨h.pending, h.variant, fun hi => ?_⟩
  have hs := h.inv hi
  simp only [State.inv, State.bounded, Bool.and_eq_true, decide_eq_true_eq] at hs ⊢
  exact ⟨hs.1, hl hs.2.1, hs.2.2⟩

/-- An update of the combining table within its bound. -/
theorem Keeps.comb {l : List CombEntry} (h : Keeps s₀ s) (hl : s.comb.length ≤ 4096 → l.length ≤ 4096) :
    Keeps s₀ { s with comb := l } := by
  refine ⟨h.pending, h.variant, fun hi => ?_⟩
  have hs := h.inv hi
  simp only [State.inv, State.bounded, Bool.and_eq_true, decide_eq_true_eq] at hs ⊢
  exact ⟨hs.1, hs.2.1, hl hs.2.2⟩

theorem Keeps.ite (ht : Keeps s₀ t) (hu : Keeps s₀ u) : Keeps s₀ (if c then t else u) := by
  split <;> assumption

theorem Keeps.iteSnd {p q : α × State} (hp : Keeps s₀ p.2) (hq : Keeps s₀ q.2) : Keeps s₀ (if c then p else q).2 := by
  split <;> assumption

theorem Keeps.iteThird {p q : α × β × State} (hp : Keeps s₀ p.2.2) (hq : Keeps s₀ q.2.2) :
    Keeps s₀ (if c then p else q).2.2 := by
  split <;> assumption

theorem Keeps.iteFst {p q : State × α} (hp : Keeps s₀ p.1) (hq : Keeps s₀ q.1) : Keeps s₀ (if c then p else q).1 := by
  split <;> assumption

theorem Keeps.iteState {p q : Performed} (hp : Keeps s₀ p.state) (hq : Keeps s₀ q.state) :
    Keeps s₀ (if c then p else q).state := by
  split <;> assumption

theorem Keeps.iteExp {p q : Expand} (hp : Keeps s₀ p.s) (hq : Keeps s₀ q.s) : Keeps s₀ (if c then p else q).s := by
  split <;> assumption

theorem Keeps.pair {a : α} (h : Keeps s₀ t) : Keeps s₀ (a, t).2 := h

theorem Keeps.performed {st : Status} {n : Nat} (h : Keeps s₀ t) :
    Keeps s₀ (Performed.state { status := st, result := n, state := t }) := h

theorem Keeps.ofEqSnd {p : α × State} {a : α} (h : Keeps s₀ p.2) (e : p = (a, t)) : Keeps s₀ t := by
  rw [e] at h
  exact h

/-- What each round keeps, the fold keeps. -/
theorem Keeps.foldl {f : State → α → State} {l : List α} (h : Keeps s₀ s)
    (hf : ∀ s x, Keeps s₀ s → Keeps s₀ (f s x)) : Keeps s₀ (l.foldl f s) := by
  induction l generalizing s with
  | nil => exact h
  | cons x l ih => exact ih (hf s x h)

/-- A fold over a record that carries a state. -/
theorem Keeps.foldlOn (g : β → State) {f : β → α → β} {l : List α} {b : β} (h : Keeps s₀ (g b))
    (hf : ∀ b x, Keeps s₀ (g b) → Keeps s₀ (g (f b x))) : Keeps s₀ (g (l.foldl f b)) := by
  induction l generalizing b with
  | nil => exact h
  | cons x l ih => exact ih (hf b x h)

theorem Answers.next (h : Keeps s₀ t) : Answers s₀ (.next t) := by
  rintro _ ⟨⟩
  exact h

theorem Answers.ite {a b : Host.Outcome State Fault Refusal} (ha : Answers s₀ a) (hb : Answers s₀ b) :
    Answers s₀ (if c then a else b) := by
  split <;> assumption

theorem Offers.none {g : β → State} : Offers g s₀ .none := by
  rintro _ ⟨⟩

theorem Offers.some {g : β → State} {b : β} (h : Keeps s₀ (g b)) : Offers g s₀ (.some b) := by
  rintro _ ⟨⟩
  exact h

theorem Offers.ite {g : β → State} {o o' : Option β} (h : Offers g s₀ o) (h' : Offers g s₀ o') :
    Offers g s₀ (if c then o else o') := by
  split <;> assumption

end Rules

variable {s₀ s : State}

/-! ### Ops -/

theorem Keeps.setReg {o v} (h : Keeps s₀ s) : Keeps s₀ (s.setReg o v) := h.other

theorem Keeps.setBit {o i b} (h : Keeps s₀ s) : Keeps s₀ (s.setBit o i b) := h.other

theorem Keeps.bumpBy {o n} (h : Keeps s₀ s) : Keeps s₀ (s.bumpBy o n) := h.other

theorem Keeps.bump {o} (h : Keeps s₀ s) : Keeps s₀ (s.bump o) := h.other

theorem Keeps.bumpByAt {o off n} (h : Keeps s₀ s) : Keeps s₀ (s.bumpByAt o off n) := h.other

theorem Keeps.bumpAt {o u} (h : Keeps s₀ s) : Keeps s₀ (s.bumpAt o u) := h.other

theorem Keeps.peak {o v} (h : Keeps s₀ s) : Keeps s₀ (s.peak o v) := h.other

theorem Keeps.peakAt {o u v} (h : Keeps s₀ s) : Keeps s₀ (s.peakAt o u v) := h.other

theorem Keeps.clearRegs {p} (h : Keeps s₀ s) : Keeps s₀ (s.clearRegs p) := h.other

theorem Keeps.fresh {w} (h : Keeps s₀ s) : Keeps s₀ (s.fresh w).2 := h.other

theorem Keeps.respond {st data} (h : Keeps s₀ s) : Keeps s₀ (s.respond st data) := h.other

theorem Keeps.emit {m} (h : Keeps s₀ s) : Keeps s₀ (s.emit m) := h.other

theorem Keeps.wakeSeq {c} (h : Keeps s₀ s) : Keeps s₀ (s.wakeSeq c) := h.other

theorem Keeps.transmit {p l} (h : Keeps s₀ s) : Keeps s₀ (s.transmit p l) := by
  unfold State.transmit
  split
  exacts [h.other, .ite h (.ite h.other h.other)]

theorem Keeps.releaseTx {k} (h : Keeps s₀ s) : Keeps s₀ (s.releaseTx k) := by
  unfold State.releaseTx
  split
  exacts [h, .ite h.other h]

theorem Keeps.notify {kind stamp data} (h : Keeps s₀ s) : Keeps s₀ (s.notify kind stamp data) :=
  h.foldl fun _ _ h => h.transmit

theorem Keeps.logFault {n} (h : Keeps s₀ s) : Keeps s₀ (s.logFault n) := by
  unfold State.logFault
  extract_lets seq e s1
  have h1 : Keeps s₀ s1 := by
    unfold s1
    split
    case isTrue hroom => exact h.flog fun _ => by simp only [List.length_append, List.length_singleton]; omega
    case isFalse => exact (h.flog fun hl => by
      simp only [List.length_append, List.length_drop, List.length_singleton]; omega).bump
  exact h1.notify

theorem Keeps.emcyHistory {v} (h : Keeps s₀ s) : Keeps s₀ (s.emcyHistory v) :=
  (h.foldl (fun _ _ h => h.setReg)).setReg

theorem Keeps.canSend {id data} (h : Keeps s₀ s) : Keeps s₀ (s.canSend id data) :=
  .ite h h.emit.bump

theorem Keeps.emcy {code st source detail} (h : Keeps s₀ s) : Keeps s₀ (s.emcy code st source detail) := by
  unfold State.emcy
  extract_lets _ s1 _ _ _ _ _ _ s2 s3 s4
  have h1 : Keeps s₀ s1 := h.emcyHistory
  have h2 : Keeps s₀ s2 := h1.other
  have h3 : Keeps s₀ s3 := .ite h2 h2.canSend
  have h4 : Keeps s₀ s4 := .ite h3.emit h3
  exact .ite h1.bump h4.bump.notify

theorem Keeps.gate {kind unit stamp} (h : Keeps s₀ s) : Keeps s₀ (s.gate kind unit stamp) := h.other

theorem Keeps.logGated {kind unit stamp n} (h : Keeps s₀ s) : Keeps s₀ (s.logGated kind unit stamp n) :=
  .ite h h.gate.logFault

theorem Keeps.setBytes {a l} (h : Keeps s₀ s) : Keeps s₀ (s.setBytes a l) :=
  h.mem fun hm => Memory.writeBytes_wf _ hm a

theorem Keeps.setWord {a n v} (h : Keeps s₀ s) : Keeps s₀ (s.setWord a n v) :=
  h.setBytes

/-! ### Flags -/

theorem Keeps.setQueue {q b} (h : Keeps s₀ s) : Keeps s₀ (s.setQueue q b) := h.other

theorem Keeps.setHitch {h' e} (h : Keeps s₀ s) : Keeps s₀ (s.setHitch h' e) := h.other

theorem Keeps.setWindow {b w x} (h : Keeps s₀ s) : Keeps s₀ (s.setWindow b w x) := h.other

/-! ### Queues -/

theorem Keeps.hitchSend {h' msg node run queue} (h : Keeps s₀ s) : Keeps s₀ (s.hitchSend h' msg node run queue) :=
  .ite h.other h.other

theorem Keeps.hitchNotify {h'} (h : Keeps s₀ s) : Keeps s₀ (s.hitchNotify h') :=
  .ite h.bump h.hitchSend

theorem Keeps.queueNotify {b} (h : Keeps s₀ s) : Keeps s₀ (s.queueNotify b) :=
  .ite h.hitchNotify h

theorem Keeps.unsubscribe {h' node told} (h : Keeps s₀ s) : Keeps s₀ (s.unsubscribe h' node told) := by
  unfold State.unsubscribe
  extract_lets _ _ _ s1
  have h1 : Keeps s₀ s1 := h.setHitch
  exact .ite h (.ite h1.hitchSend h1)

theorem Keeps.leaveWait {q} (h : Keeps s₀ s) : Keeps s₀ (s.leaveWait q) := by
  unfold State.leaveWait
  extract_lets
  split
  exacts [h, h.setQueue.unsubscribe]

theorem Keeps.pushEntry {q e} (h : Keeps s₀ s) : Keeps s₀ (s.pushEntry q e) := by
  unfold State.pushEntry
  extract_lets _ _ s1 _ _ _ s2
  have h1 : Keeps s₀ s1 := h.setBytes
  have h2 : Keeps s₀ s2 := h1.setQueue.bump
  exact .ite h2.queueNotify h2

theorem Keeps.noteStatus {m q st} (h : Keeps s₀ s) : Keeps s₀ (s.noteStatus m q st) := h.other

theorem Keeps.refuseFull {q} (h : Keeps s₀ s) : Keeps s₀ (s.refuseFull q) := h.other

theorem Keeps.setEngine {e x} (h : Keeps s₀ s) : Keeps s₀ (s.setEngine e x) := h.other

theorem Keeps.recordLost {eng run} (h : Keeps s₀ s) : Keeps s₀ (s.recordLost eng run) :=
  h.bump.logFault

theorem Keeps.msgReturn {q e} (h : Keeps s₀ s) : Keeps s₀ (s.msgReturn q e) :=
  .ite h.setQueue.pushEntry.bump h.bump.logGated

theorem Keeps.returnFrom {q p n} (h : Keeps s₀ s) : Keeps s₀ (s.returnFrom q p n) := by
  induction n generalizing s p with
  | zero => exact h
  | succ n ih => exact ih (.ite h.setBytes.msgReturn h)

theorem Keeps.countHeld {eng r} (h : Keeps s₀ s) : Keeps s₀ (s.countHeld eng r) := h.other

theorem Keeps.dropHeld {q l} (h : Keeps s₀ s) : Keeps s₀ (s.dropHeld q l) := by
  induction l generalizing s with
  | nil => exact h
  | cons e l ih => exact ih (h.setEngine.foldl fun _ _ h => h.countHeld.recordLost)

theorem Keeps.discard {q full} (h : Keeps s₀ s) : Keeps s₀ (s.discard q full) := by
  unfold State.discard
  extract_lets
  split
  exacts [h.leaveWait, h.setQueue.dropHeld, h, .ite h.returnFrom h.returnFrom, h.setQueue,
    h.comb fun hc => (List.length_filter_le _ _).trans hc]

theorem Keeps.queueReset {q} (h : Keeps s₀ s) : Keeps s₀ (s.queueReset q) := by
  unfold State.queueReset
  extract_lets s1
  have h1 : Keeps s₀ s1 := h.discard
  exact h1.setQueue.bump

theorem Keeps.resnap {q p} (h : Keeps s₀ s) : Keeps s₀ (s.resnap q p) := h.other

theorem Keeps.settleQueue {q} (h : Keeps s₀ s) : Keeps s₀ (s.settleQueue q) := by
  unfold State.settleQueue
  extract_lets
  split
  exacts [.ite h.setQueue h, h]

theorem Keeps.settleEngine {e} (h : Keeps s₀ s) : Keeps s₀ (s.settleEngine e) :=
  .ite h.setEngine h

theorem Keeps.pointerReset {q} (h : Keeps s₀ s) : Keeps s₀ (s.pointerReset q) := by
  unfold State.pointerReset
  extract_lets _ _ s1 s2 _ _ s3
  have h1 : Keeps s₀ s1 := .ite h h.gate.logFault.logFault
  have h2 : Keeps s₀ s2 := h1.discard
  have h3 : Keeps s₀ s3 := h2.setQueue.bump
  exact .ite h3.resnap.settleQueue.settleEngine h3

theorem Keeps.putRecord {eng run e} (h : Keeps s₀ s) : Keeps s₀ (s.putRecord eng run e) :=
  .ite h.recordLost (.ite h.pointerReset.recordLost h.pushEntry.wakeSeq)

theorem Keeps.writeRecord {eng run e} (h : Keeps s₀ s) : Keeps s₀ (s.writeRecord eng run e) :=
  .ite h.setEngine h.putRecord

theorem Keeps.countDone {eng st} (h : Keeps s₀ s) : Keeps s₀ (s.countDone eng st) := by
  unfold State.countDone
  extract_lets s1
  have h1 : Keeps s₀ s1 := h.bump
  split
  exacts [h1, h1, h1, h1.bump, h1.bump]

theorem Keeps.gaitRefused {st} (h : Keeps s₀ s) : Keeps s₀ (s.gaitRefused st) :=
  h.logFault.emcy

theorem Keeps.complete {eng run st aux result ext} (h : Keeps s₀ s) :
    Keeps s₀ (s.complete eng run st aux result ext) := by
  unfold State.complete
  extract_lets _ s0 _ s1 s2
  have h0 : Keeps s₀ s0 := h.setQueue.countDone
  have h1 : Keeps s₀ s1 := .ite h0.gaitRefused h0
  have h2 : Keeps s₀ s2 := .ite h1.writeRecord h1
  exact h2.settleQueue.settleEngine

theorem Keeps.takeHead {q} (h : Keeps s₀ s) : Keeps s₀ (s.takeHead q) := by
  unfold State.takeHead
  extract_lets s1
  have h1 : Keeps s₀ s1 := h.leaveWait
  exact h1.setQueue

theorem Keeps.abortUpTo {q eng p n} (h : Keeps s₀ s) : Keeps s₀ (s.abortUpTo q eng p n) := by
  induction n generalizing s with
  | zero => exact h
  | succ n ih => exact .ite h (.ite h.pointerReset (ih h.takeHead.complete))

theorem Keeps.abortQueue {q} (h : Keeps s₀ s) : Keeps s₀ (s.abortQueue q) :=
  h.setQueue.abortUpTo.settleQueue

theorem Keeps.countBusy {e from'} (h : Keeps s₀ s) : Keeps s₀ (s.countBusy e from') :=
  .ite h.bumpBy h.other.bumpBy

theorem Keeps.abortRest {e q} (h : Keeps s₀ s) : Keeps s₀ (s.abortRest e q) := by
  unfold State.abortRest
  extract_lets _ p
  clear_value p
  split
  exacts [h, h.abortUpTo.settleQueue.settleEngine]

theorem Keeps.finish {e st aux result ext} (h : Keeps s₀ s) : Keeps s₀ (s.finish e st aux result ext) := by
  unfold State.finish
  extract_lets
  split
  · exact h
  · extract_lets s1
    have h1 : Keeps s₀ s1 := h.setEngine.countBusy
    exact h1.complete.abortRest

theorem Keeps.conclude {e st aux result ext} (h : Keeps s₀ s) : Keeps s₀ (s.conclude e st aux result ext) :=
  h.finish

theorem Keeps.countRefusal {st} (h : Keeps s₀ s) : Keeps s₀ (s.countRefusal st) := by
  unfold State.countRefusal
  split
  exacts [h.bump, h.bump, h.bump, h.bump, h.bump, h]

theorem Keeps.pushAccept {m q e} (h : Keeps s₀ s) : Keeps s₀ (s.pushAccept m q e) :=
  .ite h.setQueue.pushEntry.noteStatus.respond (.ite h.refuseFull.noteStatus.respond
    (.ite h.setQueue.pushEntry.noteStatus.respond h.pushEntry.noteStatus.respond))

theorem Keeps.push {m q e} (h : Keeps s₀ s) : Keeps s₀ (s.push m q e) :=
  .ite h.bump.noteStatus.respond (.ite h.countRefusal.noteStatus.respond
    (.ite h.pointerReset.noteStatus.respond h.pushAccept))

theorem Keeps.clearValid {b p n} (h : Keeps s₀ s) : Keeps s₀ (s.clearValid b p n) := by
  induction n generalizing s p with
  | zero => exact h
  | succ n ih => exact ih h.setBytes

theorem Keeps.consume {m q n} (h : Keeps s₀ s) : Keeps s₀ (s.consume m q n) := by
  unfold State.consume
  extract_lets _ _ s1
  have h1 : Keeps s₀ s1 := .ite h.clearValid h
  exact .ite h.countRefusal.respond (.ite h.pointerReset.respond (.ite h.bump.respond h1.setQueue.respond))

theorem Keeps.seal {m q n} (h : Keeps s₀ s) : Keeps s₀ (s.seal m q n) :=
  .ite h.countRefusal.respond (.ite h.pointerReset.respond (.ite h.bump.respond
    (h.comb fun hc => (List.length_filter_le _ _).trans hc).respond))

theorem Keeps.postMerge {q slot lane v} (h : Keeps s₀ s) : Keeps s₀ (s.postMerge q slot lane v) := by
  unfold State.postMerge
  extract_lets _ _ s1
  have h1 : Keeps s₀ s1 := h.setWord.bump
  exact .ite h1.bump h1

theorem Keeps.postNew {q key lane v} (h : Keeps s₀ s) : Keeps s₀ (s.postNew q key lane v) := by
  unfold State.postNew
  extract_lets _ s1 s2
  have h1 : Keeps s₀ s1 := h.setWord
  have h2 : Keeps s₀ s2 := by
    unfold s2
    split
    case isTrue hroom =>
      exact h1.comb fun _ => by simp only [List.length_append, List.length_singleton]; omega
    case isFalse => exact h1.bump.logGated
  exact h2.pushEntry

theorem Keeps.post {m q w} (h : Keeps s₀ s) : Keeps s₀ (s.post m q w) := by
  unfold State.post
  extract_lets _ _ _ _ _ _ s0
  have h0 : Keeps s₀ s0 := h.bump
  split
  · exact h.countRefusal.noteStatus.respond
  · split
    · exact h.pointerReset.noteStatus.respond
    · split
      exacts [h0.postMerge.noteStatus.respond, .ite h0.refuseFull.noteStatus.respond h0.postNew.noteStatus.respond]

theorem Keeps.qDrain {q} (h : Keeps s₀ s) : Keeps s₀ (s.qDrain q) := by
  unfold State.qDrain
  extract_lets
  split
  exacts [h.setQueue.settleQueue.respond, h.respond, h.respond, h.respond]

theorem Keeps.qAbort {q} (h : Keeps s₀ s) : Keeps s₀ (s.qAbort q) := by
  unfold State.qAbort
  split
  exacts [h.abortQueue.respond, h.abortQueue.respond, h.respond, h.respond, h.respond]

theorem Keeps.qEnable {q} (h : Keeps s₀ s) : Keeps s₀ (s.qEnable q) := by
  unfold State.qEnable
  extract_lets
  split
  exacts [h.respond, h.setQueue.respond, h.setQueue.respond, h.respond]

theorem Keeps.qReset {q} (h : Keeps s₀ s) : Keeps s₀ (s.qReset q) :=
  .ite h.queueReset.respond h.respond

theorem Keeps.qClose {q} (h : Keeps s₀ s) : Keeps s₀ (s.qClose q) := by
  unfold State.qClose
  extract_lets s1
  have h1 : Keeps s₀ s1 := h.queueReset
  exact .ite h1.setQueue.respond h.respond

theorem Keeps.qOpen {q} (h : Keeps s₀ s) : Keeps s₀ (s.qOpen q) :=
  .ite h.setQueue.respond h.respond

theorem Keeps.ctrlApply {q v} (h : Keeps s₀ s) : Keeps s₀ (s.ctrlApply q v) := by
  unfold State.ctrlApply
  split
  exacts [.ite h.qDrain h.respond, .ite h.qAbort h.respond, .ite h.qEnable h.respond, h.qReset, h.qClose, h.qOpen]

theorem Keeps.ctrl {m q v} (h : Keeps s₀ s) : Keeps s₀ (s.ctrl m q v) :=
  .ite h.countRefusal.respond (.ite h.pointerReset.respond h.ctrlApply)

theorem Keeps.queueClear {m q v} (h : Keeps s₀ s) : Keeps s₀ (s.queueClear m q v) :=
  .ite h.countRefusal.respond (.ite h.pointerReset.respond h.setQueue.respond)

theorem Keeps.qpolicy {v} (h : Keeps s₀ s) : Keeps s₀ (s.qpolicy v).2 :=
  .iteSnd h (.iteSnd h h.setQueue)

theorem Keeps.queueSoft {q x} (h : Keeps s₀ s) : Keeps s₀ (s.queueSoft q x) := by
  unfold State.queueSoft
  extract_lets
  split
  exacts [h, h.setQueue, h.setQueue.logFault]

theorem execPush_answers {m q e x} (h : Keeps s₀ s) : Answers s₀ (execPush m q e x s) :=
  .next h.queueSoft.push

theorem execConsume_answers {m q n x} (h : Keeps s₀ s) : Answers s₀ (execConsume m q n x s) :=
  .next h.queueSoft.consume

theorem execCqSeal_answers {m q n x} (h : Keeps s₀ s) : Answers s₀ (execCqSeal m q n x s) :=
  .next h.queueSoft.seal

theorem execPost_answers {m q w x} (h : Keeps s₀ s) : Answers s₀ (execPost m q w x s) :=
  .next h.queueSoft.post

theorem execQDrain_answers {m q x} (h : Keeps s₀ s) : Answers s₀ (execQDrain m q x s) :=
  .next h.queueSoft.ctrl

theorem execQAbort_answers {m q x} (h : Keeps s₀ s) : Answers s₀ (execQAbort m q x s) :=
  .next h.queueSoft.ctrl

theorem execQEnable_answers {m q x} (h : Keeps s₀ s) : Answers s₀ (execQEnable m q x s) :=
  .next h.queueSoft.ctrl

theorem execQReset_answers {m q x} (h : Keeps s₀ s) : Answers s₀ (execQReset m q x s) :=
  .next h.queueSoft.ctrl

theorem execQClose_answers {m q x} (h : Keeps s₀ s) : Answers s₀ (execQClose m q x s) :=
  .next h.queueSoft.ctrl

theorem execQOpen_answers {m q x} (h : Keeps s₀ s) : Answers s₀ (execQOpen m q x s) :=
  .next h.queueSoft.ctrl

theorem execQClear_answers {m q v x} (h : Keeps s₀ s) : Answers s₀ (execQClear m q v x s) :=
  .next h.queueSoft.queueClear

theorem execStaleTail_answers {q} (h : Keeps s₀ s) : Answers s₀ (execStaleTail q s) := by
  unfold execStaleTail
  extract_lets
  split
  exacts [.next h, .ite (.next h) (.next h.setQueue.bump.queueNotify)]

/-! ### Hitches -/

theorem Keeps.freeWaiter {q st} (h : Keeps s₀ s) : Keeps s₀ (s.freeWaiter q st) := by
  unfold State.freeWaiter
  extract_lets
  split
  · exact h
  · extract_lets s1
    have h1 : Keeps s₀ s1 := .ite h.bump.peak h
    exact .ite h.pointerReset h1.takeHead.complete

theorem Keeps.freeWhere {p st l} (h : Keeps s₀ s) : Keeps s₀ (s.freeWhere p st l) := by
  induction l generalizing s with
  | nil => exact h
  | cons q l ih =>
    unfold State.freeWhere
    split
    exacts [.ite (ih h.freeWaiter) (ih h), ih h]

theorem Keeps.evaluate {h' node} (h : Keeps s₀ s) : Keeps s₀ (s.evaluate h' node) := by
  unfold State.evaluate
  split
  · exact h
  · extract_lets s1
    have h1 : Keeps s₀ s1 := h.freeWhere
    exact h1.unsubscribe

theorem Keeps.freeBarrier {h' node releases st} (h : Keeps s₀ s) : Keeps s₀ (s.freeBarrier h' node releases st) :=
  h.freeWhere.unsubscribe

theorem Keeps.hitchPublish {h' msg} (h : Keeps s₀ s) : Keeps s₀ (s.hitchPublish h' msg) := h.other

theorem Keeps.barrierRelease {h'} (h : Keeps s₀ s) : Keeps s₀ (s.barrierRelease h') := by
  unfold State.barrierRelease
  extract_lets _ s1 s2
  have h1 : Keeps s₀ s1 := h.setHitch
  have h2 : Keeps s₀ s2 := h1.bump.hitchPublish
  exact h2.freeBarrier

theorem Keeps.hitchChanged {h'} (h : Keeps s₀ s) : Keeps s₀ (s.hitchChanged h') := by
  unfold State.hitchChanged
  extract_lets _ s1
  have h1 : Keeps s₀ s1 := .ite h.barrierRelease h.hitchPublish
  exact h1.evaluate

theorem Keeps.applySignal {h' v} (h : Keeps s₀ s) : Keeps s₀ (s.applySignal h' v) := by
  unfold State.applySignal
  extract_lets _ _ s1
  have h1 : Keeps s₀ s1 := .ite h.bump h
  exact h1.setHitch.hitchChanged

theorem Keeps.applySet {h' v} (h : Keeps s₀ s) : Keeps s₀ (s.applySet h' v) := by
  unfold State.applySet
  extract_lets _ s1 s2 s3
  have h1 : Keeps s₀ s1 := h.setHitch
  have h2 : Keeps s₀ s2 := h1.bump.logGated
  have h3 : Keeps s₀ s3 := h2.hitchPublish.freeBarrier
  exact .ite h1.hitchChanged h3.evaluate

theorem Keeps.noteArrival {h' q releases} (h : Keeps s₀ s) : Keeps s₀ (s.noteArrival h' q releases) := by
  unfold State.noteArrival
  extract_lets
  split
  exacts [h, .ite h.setQueue h]

theorem Keeps.answerArrival {f count} (h : Keeps s₀ s) : Keeps s₀ (s.answerArrival f count) := h.other

theorem Keeps.applyBarrier {f n} (h : Keeps s₀ s) : Keeps s₀ (s.applyBarrier f n) := by
  unfold State.applyBarrier
  extract_lets _ _ _ _ _ s0 s1 s2 s22
  have h0 : Keeps s₀ s0 := .ite h.bump h
  have h1 : Keeps s₀ s1 := .ite h0.noteArrival h0.answerArrival
  have h2 : Keeps s₀ s2 := .ite h1.bump h1
  have h22 : Keeps s₀ s22 := .ite h1.bump.logGated h1
  exact .ite h2.setHitch.hitchChanged h22.setHitch.hitchChanged

theorem Keeps.hitchAnswer {f msg st} (h : Keeps s₀ s) : Keeps s₀ (s.hitchAnswer f msg st) := by
  unfold State.hitchAnswer
  split
  exacts [h.complete, .ite h h.other]

theorem Keeps.hitchApply {f} (h : Keeps s₀ s) : Keeps s₀ (s.hitchApply f) := by
  unfold State.hitchApply
  extract_lets _ s1
  have h1 : Keeps s₀ s1 := h.setHitch.bump
  split
  · extract_lets s2
    have h2 : Keeps s₀ s2 := h1.applySignal
    exact h2.hitchAnswer
  · extract_lets s2
    have h2 : Keeps s₀ s2 := h1.applySet
    exact h2.hitchAnswer
  · exact h1.applyBarrier
  · exact h

theorem Keeps.dropFlight {f} (h : Keeps s₀ s) : Keeps s₀ (s.dropFlight f) := h.other

theorem Keeps.refuseFlights {l} (h : Keeps s₀ s) : Keeps s₀ (s.refuseFlights l) := by
  induction l generalizing s with
  | nil => exact h
  | cons f l ih =>
    unfold State.refuseFlights
    extract_lets s1
    have h1 : Keeps s₀ s1 := h.bump
    split
    exacts [ih h1.complete, ih h1]

theorem Keeps.dropWaiting {h'} (h : Keeps s₀ s) : Keeps s₀ (s.dropWaiting h').2 := h.other

theorem Keeps.loseHome {h'} (h : Keeps s₀ s) : Keeps s₀ (s.loseHome h') := by
  unfold State.loseHome
  extract_lets _ _ _ s1 s2 w s3
  have h1 : Keeps s₀ s1 := h.other
  have h2 : Keeps s₀ s2 := h1.setHitch.logFault
  have hw : Keeps s₀ w.2 := h2.dropWaiting
  have h3 : Keeps s₀ s3 := hw.bumpBy.refuseFlights
  exact .ite h h3.bumpBy.freeWhere

theorem Keeps.loseHomes {l} (h : Keeps s₀ s) : Keeps s₀ (s.loseHomes l) := by
  induction l generalizing s with
  | nil => exact h
  | cons x l ih => exact ih h.loseHome

theorem Keeps.frontEnd {q o f} (h : Keeps s₀ s) (hf : ∀ s, Keeps s₀ s → Keeps s₀ (f s)) : Keeps s₀ (s.frontEnd q o f) :=
  .ite (.ite h.pointerReset (hf _ h)) h

theorem Keeps.completeHead {q st result} (h : Keeps s₀ s) : Keeps s₀ (s.completeHead q st result) :=
  h.takeHead.complete

theorem Keeps.refuseHead {q} (h : Keeps s₀ s) : Keeps s₀ (s.refuseHead q) :=
  h.completeHead.bump

theorem Keeps.issueHead {q msg} (h : Keeps s₀ s) : Keeps s₀ (s.issueHead q msg) :=
  .ite h.completeHead (.ite h.refuseHead h.takeHead.hitchSend)

theorem Keeps.registerHead {q h' value barrier} (h : Keeps s₀ s) : Keeps s₀ (s.registerHead q h' value barrier) := by
  unfold State.registerHead
  extract_lets _ _ s1
  have h1 : Keeps s₀ s1 := h.setQueue
  split
  exacts [h1, h1.hitchSend]

theorem execNop_answers {q} (h : Keeps s₀ s) : Answers s₀ (execNop q s) :=
  .next (h.frontEnd (fun _ h => h.completeHead))

theorem execHitchSignal_answers {q} (h : Keeps s₀ s) : Answers s₀ (execHitchSignal q s) :=
  .next (h.frontEnd (fun _ h => h.issueHead))

theorem execHitchSet_answers {q} (h : Keeps s₀ s) : Answers s₀ (execHitchSet q s) :=
  .next (h.frontEnd (fun _ h => h.issueHead))

theorem execHitchWait_answers {q} (h : Keeps s₀ s) : Answers s₀ (execHitchWait q s) :=
  .next (h.frontEnd (fun _ h => .ite h.completeHead (.ite h.refuseHead h.registerHead.evaluate)))

theorem execHitchBarrier_answers {q} (h : Keeps s₀ s) : Answers s₀ (execHitchBarrier q s) :=
  .next (h.frontEnd (fun _ h => .ite h.completeHead (.ite h.refuseHead h.registerHead.hitchSend)))

theorem Keeps.denyDump {q dst len} (h : Keeps s₀ s) : Keeps s₀ (s.denyDump q dst len) :=
  h.bumpBy.logFault

theorem execHitchDump_answers {q} (h : Keeps s₀ s) : Answers s₀ (execHitchDump q s) :=
  .next (h.frontEnd (fun _ h => .ite h.denyDump.completeHead (.ite h.completeHead (.ite h.bump.completeHead
    (.ite h.bump.setBytes.completeHead h.bump.setBytes.completeHead)))))

theorem execHitchOpApply_answers {h' ecc} (h : Keeps s₀ s) : Answers s₀ (execHitchOpApply h' ecc s) := by
  unfold execHitchOpApply
  extract_lets
  split
  · exact .next h
  · extract_lets s1 s2
    have h1 : Keeps s₀ s1 := h.dropFlight
    have h2 : Keeps s₀ s2 := h1.setHitch.bump
    exact .ite (.next h2.freeWhere.hitchApply) (.next h1.hitchApply)

theorem execHitchSubscribe_answers {h'} (h : Keeps s₀ s) : Answers s₀ (execHitchSubscribe h' s) := by
  unfold execHitchSubscribe
  extract_lets
  split
  · exact .next h
  · extract_lets s1 _ src src2
    have h1 : Keeps s₀ s1 := h.dropFlight
    have hsrc : Keeps s₀ src := h1.setHitch
    have hsrc2 : Keeps s₀ src2 := h1.setHitch
    split
    exacts [.ite (.next hsrc.other) (.next hsrc2.other), .ite (.next h1.setHitch) (.next h1.setHitch)]

theorem Keeps.hitchCopy {h' node count told} (h : Keeps s₀ s) : Keeps s₀ (s.hitchCopy h' node count told) :=
  .ite h.setHitch.evaluate h.setHitch.unsubscribe

theorem Keeps.hitchAcknowledge {h' q st} (h : Keeps s₀ s) : Keeps s₀ (s.hitchAcknowledge h' q st) := by
  unfold State.hitchAcknowledge
  split
  · exact h
  · extract_lets s1
    have h1 : Keeps s₀ s1 := h.other
    split
    exacts [h1.complete, h1]

theorem execHitchUpdate_answers {h' node} (h : Keeps s₀ s) : Answers s₀ (execHitchUpdate h' node s) := by
  unfold execHitchUpdate
  extract_lets
  split
  · exact .next h
  · extract_lets s1
    have h1 : Keeps s₀ s1 := h.dropFlight
    split
    exacts [.next h1.hitchAcknowledge.noteArrival.hitchCopy, .next h1.freeBarrier.hitchCopy,
      .next h1.hitchAcknowledge.freeBarrier.hitchCopy, .next h1]

theorem execSyncNodeFail_answers {node} (h : Keeps s₀ s) : Answers s₀ (execSyncNodeFail node s) := by
  unfold execSyncNodeFail
  extract_lets _ s1
  have h1 : Keeps s₀ s1 := h.other
  exact .next h1.logFault.loseHomes

end Sys2Proof.InvariantProofs
end

section
/-!
PROOFS. The operations of the tiles, the far memory and the bulk slots keep the invariant.
-/
namespace Sys2Proof.InvariantProofs
open Sys2Proof Sys2Proof.Machine
set_option Elab.async false

variable {s₀ s : State}

/-! ### Tiles -/

theorem Keeps.setTile {c t x} (h : Keeps s₀ s) : Keeps s₀ (s.setTile c t x) := h.other

theorem Keeps.tileProgress {c t} (h : Keeps s₀ s) : Keeps s₀ (s.tileProgress c t) := h.other

theorem Keeps.setNeuron {c t i w} (h : Keeps s₀ s) : Keeps s₀ (s.setNeuron c t i w) :=
  h.setWord

theorem Keeps.setRouter {c r} (h : Keeps s₀ s) : Keeps s₀ (s.setRouter c r) := h.other

theorem Keeps.setStore {c x} (h : Keeps s₀ s) : Keeps s₀ (s.setStore c x) := h.other

theorem Keeps.setPlast {c x} (h : Keeps s₀ s) : Keeps s₀ (s.setPlast c x) := h.other

theorem Keeps.setFetch {k x} (h : Keeps s₀ s) : Keeps s₀ (s.setFetch k x) := h.other

theorem Keeps.stepStatus {n st} (h : Keeps s₀ s) : Keeps s₀ (s.stepStatus n st) := h.other

theorem Keeps.noteCounts {tag} (h : Keeps s₀ s) : Keeps s₀ (s.noteCounts tag) :=
  .ite h.other h

theorem Keeps.writeAtRelease {o v} (h : Keeps s₀ s) : Keeps s₀ (s.writeAtRelease o v) := h.other

theorem Keeps.neuronReinit {c t i n} (h : Keeps s₀ s) : Keeps s₀ (s.neuronReinit c t i n) := by
  unfold State.neuronReinit
  extract_lets _ s1
  have h1 : Keeps s₀ s1 := h.setNeuron
  exact h1.bumpAt.logFault.stepStatus

theorem Keeps.reinitAll {c t n l} (h : Keeps s₀ s) : Keeps s₀ (s.reinitAll c t n l) := by
  induction l generalizing s with
  | nil => exact h
  | cons i l ih => exact ih (.ite h.neuronReinit h)

theorem Keeps.accLost {c t n l} (h : Keeps s₀ s) : Keeps s₀ (s.accLost c t n l) := by
  induction l generalizing s with
  | nil => exact h
  | cons i l ih => exact .ite (ih h.setTile.bump.logFault.stepStatus) (ih h)

/-! ### Gather -/

theorem Keeps.markDirty {c row x} (h : Keeps s₀ s) : Keeps s₀ (s.markDirty c row x).2 :=
  .iteSnd h (.iteSnd h.setPlast.bumpAt h.bumpAt)

theorem Keeps.plasticNear {c row header m cnt srcCls n} (h : Keeps s₀ s) :
    Keeps s₀ (s.plasticNear c row header m cnt srcCls n) := by
  unfold State.plasticNear
  extract_lets _ r
  have hr : Keeps s₀ r.2 := h.markDirty
  exact hr.setWord

theorem Keeps.applyPre {c r} (h : Keeps s₀ s) : Keeps s₀ (s.applyPre c r) := by
  unfold State.applyPre
  extract_lets _ found _ s0 d
  have h0 : Keeps s₀ s0 := by
    unfold s0
    cases found
    exacts [h.setPlast, h]
  have hd : Keeps s₀ d.2 := h0.markDirty
  exact .ite h.bumpAt hd.setPlast

theorem Keeps.sendPre {c r} (h : Keeps s₀ s) : Keeps s₀ (s.sendPre c r) := h.other

theorem Keeps.applyPost {c r} (h : Keeps s₀ s) : Keeps s₀ (s.applyPost c r) :=
  .ite h.setPlast (.ite h.setPlast h.bumpAt)

theorem Keeps.takePost {c} (h : Keeps s₀ s) : Keeps s₀ (s.takePost c) := by
  unfold State.takePost
  extract_lets
  split
  exacts [h, h.setPlast.applyPost]

theorem Keeps.sendPost {c r} (h : Keeps s₀ s) : Keeps s₀ (s.sendPost c r) := by
  unfold State.sendPost
  extract_lets s1
  have h1 : Keeps s₀ s1 := .ite h.takePost h
  exact h1.setPlast.bumpAt

theorem Keeps.epochEcc {c t row word} (h : Keeps s₀ s) : Keeps s₀ (s.epochEcc c t row word) :=
  h.other.logGated

theorem Keeps.plasticEcc {c t row} (h : Keeps s₀ s) : Keeps s₀ (s.plasticEcc c t row) :=
  h.bump.epochEcc

theorem execPreReport_answers {c bad} (h : Keeps s₀ s) : Answers s₀ (execPreReport c bad s) := by
  unfold execPreReport
  extract_lets
  split
  · exact .next h
  · extract_lets s1 _ s2
    have h1 : Keeps s₀ s1 := h.setPlast
    have h2 : Keeps s₀ s2 := .ite h1.setPlast.plasticEcc h1
    exact .next h2.applyPre

theorem execPostReport_answers {c bad} (h : Keeps s₀ s) : Answers s₀ (execPostReport c bad s) := by
  unfold execPostReport
  extract_lets
  split
  · exact .next h
  · extract_lets _ s1
    have h1 : Keeps s₀ s1 := .ite h.setPlast.plasticEcc h
    exact .next h1.takePost

theorem execTraceGroomVisit_answers {c bad} (h : Keeps s₀ s) : Answers s₀ (execTraceGroomVisit c bad s) := by
  unfold execTraceGroomVisit
  extract_lets _ _ _ _ _ s1
  have h1 : Keeps s₀ s1 := h.setPlast.bumpAt
  split
  · exact .next h
  · split
    · extract_lets _ s2
      have h2 : Keeps s₀ s2 := h1.setWord
      exact .ite (.next h2.plasticEcc) (.next h1.setWord)
    · split
      exacts [.next h1, .ite (.next h1.setPlast.plasticEcc) (.ite (.next h1.setPlast) (.next h1.setPlast))]

/-! ### Far -/

theorem Keeps.bumpFar {o c k n} (h : Keeps s₀ s) : Keeps s₀ (s.bumpFar o c k n) := h.other

theorem Keeps.evict {c need n} (h : Keeps s₀ s) : Keeps s₀ (s.evict c need n) := by
  induction n generalizing s with
  | zero => exact h
  | succ n ih =>
    unfold State.evict
    split
    · exact h
    · split
      · exact h
      · extract_lets _ s1 s2
        have h1 : Keeps s₀ s1 := h.setStore
        have h2 : Keeps s₀ s2 := .ite h1.bumpAt h1
        exact ih (.ite h2.bumpAt h2)

theorem Keeps.joinFetch {c t f due g} (h : Keeps s₀ s) : Keeps s₀ (s.joinFetch c t f due g) := by
  unfold State.joinFetch
  extract_lets s1 s2
  have h1 : Keeps s₀ s1 := h.bumpFar
  have h2 : Keeps s₀ s2 := .ite h1.bumpAt h1
  exact h2.setStore

theorem Keeps.postFetch {source c t f due refetch} (h : Keeps s₀ s) :
    Keeps s₀ (s.postFetch source c t f due refetch).2 := by
  unfold State.postFetch
  extract_lets _ _ _ _ s1
  have h1 : Keeps s₀ s1 := h.setStore
  split
  exacts [h.joinFetch, .iteSnd h (.iteSnd h.bumpAt h1.setFetch.peakAt.peak)]

theorem Keeps.refetch {c t f due} (h : Keeps s₀ s) : Keeps s₀ (s.refetch c t f due) :=
  h.postFetch

theorem Keeps.directoryRead {k c t f} (h : Keeps s₀ s) : Keeps s₀ (s.directoryRead k c t f) :=
  .ite h.setFetch h.setFetch.bumpFar

theorem Keeps.farEcc {c k addr due} (h : Keeps s₀ s) : Keeps s₀ (s.farEcc c k addr due) := by
  unfold State.farEcc
  extract_lets s1
  have h1 : Keeps s₀ s1 := h.bumpAt.logGated
  exact .ite h1 h1.stepStatus

theorem Keeps.startRow {k c t f due dirBad} (h : Keeps s₀ s) : Keeps s₀ (s.startRow k c t f due dirBad) := by
  unfold State.startRow
  extract_lets _ s1 s2
  have h1 : Keeps s₀ s1 := h.evict
  have h2 : Keeps s₀ s2 := h1.setStore
  exact .ite h.setStore.farEcc (.ite h.setStore h2.setFetch)

theorem Keeps.dropRequest {k r} (h : Keeps s₀ s) : Keeps s₀ (s.dropRequest k r) := h.other

theorem Keeps.issueFirst {k bad l} (h : Keeps s₀ s) : Keeps s₀ (s.issueFirst k bad l) := by
  induction l generalizing s with
  | nil => exact h
  | cons r l ih =>
    unfold State.issueFirst
    extract_lets s1 _ s2 s3
    have h1 : Keeps s₀ s1 := h.dropRequest.bumpFar
    have h2 : Keeps s₀ s2 := h.directoryRead
    have h3 : Keeps s₀ s3 := h2.dropRequest.bumpFar
    exact .ite h1.setStore (.ite (ih h) (.ite (ih h2.bumpAt) h3.startRow))

theorem execFetchIssue_answers {k dirBad} (h : Keeps s₀ s) : Answers s₀ (execFetchIssue k dirBad s) :=
  .next h.issueFirst

theorem Keeps.sendHint {source c t f step} (h : Keeps s₀ s) : Keeps s₀ (s.sendHint source c t f step) := by
  unfold State.sendHint
  extract_lets
  split
  exacts [h.bumpFar.bumpAt, .ite h.bumpAt h.setFetch]

theorem execHintIssue_answers {k dirBad} (h : Keeps s₀ s) : Answers s₀ (execHintIssue k dirBad s) := by
  unfold execHintIssue
  extract_lets
  split
  · exact .next h
  · extract_lets s1 _ _ s2 s3
    have h1 : Keeps s₀ s1 := h.setFetch
    have h2 : Keeps s₀ s2 := h1.setStore
    have h3 : Keeps s₀ s3 := h2.bumpAt.directoryRead
    split
    · exact .next h
    · split
      exacts [.next h1.bumpFar.bumpAt, .ite (.next h) (.next h3.startRow)]

theorem execHintStale_answers {k} (h : Keeps s₀ s) : Answers s₀ (execHintStale k s) := by
  unfold execHintStale
  extract_lets _ _ s1
  have h1 : Keeps s₀ s1 := h.foldl fun _ _ h => h.bumpAt
  exact .next h1.setFetch

theorem Keeps.rowArrived {c t f} (h : Keeps s₀ s) : Keeps s₀ (s.rowArrived c t f) := h.other

theorem execFetchLineArrive_answers {c bad} (h : Keeps s₀ s) : Answers s₀ (execFetchLineArrive c bad s) := by
  unfold execFetchLineArrive
  extract_lets
  split
  · exact .next h
  · extract_lets s1 _ s2
    have h1 : Keeps s₀ s1 := h.setStore
    have h2 : Keeps s₀ s2 := h1.setStore
    split
    · exact .next h1
    · extract_lets s3
      have h3 : Keeps s₀ s3 := .ite h2.farEcc h2
      exact .ite (.next h3.rowArrived) (.next h3)

theorem Keeps.postRemote {ev due} (h : Keeps s₀ s) : Keeps s₀ (s.postRemote ev due).2 :=
  h.postFetch

theorem Keeps.setSwitchQueue {sw port l} (h : Keeps s₀ s) : Keeps s₀ (s.setSwitchQueue sw port l) := h.other

/-! ### Rows -/

theorem Keeps.directMerge {c t n i p a} (h : Keeps s₀ s) : Keeps s₀ (s.directMerge c t n i p a) := by
  unfold State.directMerge
  extract_lets _ _ _ _ s1 s2 s3 _ _ _ _ s4 _ s5
  have h1 : Keeps s₀ s1 := h.setTile
  have h2 : Keeps s₀ s2 := .ite h1.bumpAt h1
  have h3 : Keeps s₀ s3 := .ite h2.sendPost h2
  have h4 : Keeps s₀ s4 := h3.setNeuron
  have h5 : Keeps s₀ s5 := h4.setTile.bumpAt
  exact .ite h3.setNeuron.bumpAt (.ite h5.bumpAt h5)

theorem Keeps.addContribution {c t n i p a} (h : Keeps s₀ s) : Keeps s₀ (s.addContribution c t n i p a) := by
  unfold State.addContribution
  extract_lets _ _ _ put
  have hput : ∀ l e, Keeps s₀ (put l e) := fun _ _ => .ite h.setTile.bumpAt h.setTile
  split
  exacts [hput _ _, .ite (hput _ _) h.directMerge]

theorem Keeps.rowNote {kind c t n ref st} (h : Keeps s₀ s) : Keeps s₀ (s.rowNote kind c t n ref st) :=
  h.logGated

theorem Keeps.deliver {c t n i ev h' target v} (h : Keeps s₀ s) : Keeps s₀ (s.deliver c t n i ev h' target v) := by
  unfold State.deliver
  extract_lets _ _ s1
  have h1 : Keeps s₀ s1 := .ite h.bumpAt h
  exact .ite h.bumpAt.rowNote (.ite h.bumpAt h1.addContribution)

theorem Keeps.synapse {x : Expand} {c t n ev r h' bad i} (h : Keeps s₀ x.s) :
    Keeps s₀ (x.synapse c t n ev r h' bad i).s := by
  unfold Expand.synapse
  extract_lets x2 _ _ _ s1 x1 s2
  have hx2 : Keeps s₀ x2.s := .iteExp h h
  have h1 : Keeps s₀ s1 := hx2.bumpAt
  have hx1 : Keeps s₀ x1.s := hx2
  have h2 : Keeps s₀ s2 := h1.bumpAt.rowNote
  exact .iteExp hx2 (.iteExp (.iteExp hx2 (.iteExp (.ite h2 h2.deliver) (.iteExp h1 h1.deliver)))
    (.iteExp hx2 hx2.deliver))

theorem Keeps.discardCycle {c} (h : Keeps s₀ s) : Keeps s₀ (s.discardCycle c) := h.other

theorem Keeps.rowInvalid {c t n row} (h : Keeps s₀ s) : Keeps s₀ (s.rowInvalid c t n row) :=
  h.bumpAt.rowNote.discardCycle

theorem Keeps.rowEcc {c t n ref} (h : Keeps s₀ s) : Keeps s₀ (s.rowEcc c t n ref) :=
  h.bumpAt.logFault.stepStatus

theorem Keeps.wantRecover {c row w} (h : Keeps s₀ s) : Keeps s₀ (s.wantRecover c row w) :=
  .ite h h.other

theorem Keeps.noteBadWords {c t n row off plastic l} (h : Keeps s₀ s) :
    Keeps s₀ (s.noteBadWords c t n row off plastic l) := by
  induction l generalizing s with
  | nil => exact h
  | cons w l ih => exact ih (.ite h.rowEcc.wantRecover h.rowEcc.setTile)

theorem Keeps.plasticNote {c row r h' ev due n} (h : Keeps s₀ s) : Keeps s₀ (s.plasticNote c row r h' ev due n) := by
  unfold State.plasticNote
  extract_lets _ _ s1
  have h1 : Keeps s₀ s1 := h.bumpAt
  split
  · exact h
  · split
    exacts [h1.plasticNear.discardCycle, h1.sendPre]

theorem Keeps.expandRow {c t n p row r bad} (h : Keeps s₀ s) : Keeps s₀ (s.expandRow c t n p row r bad) := by
  unfold State.expandRow
  extract_lets _ x _ s1
  have hx : Keeps s₀ x.s := .foldlOn Expand.s h (fun _ _ h => h.synapse)
  have h1 : Keeps s₀ s1 := hx.bumpAt.bumpByAt.bumpByAt
  exact h1.plasticNote

theorem Keeps.expandNear {c t n p f} (h : Keeps s₀ s) : Keeps s₀ (s.expandNear c t n p f) := by
  unfold State.expandNear
  extract_lets _ _ _ s1 _ _ _ _ _ _ s12
  have h1 : Keeps s₀ s1 := h.rowEcc
  have h12 : Keeps s₀ s12 := h.noteBadWords
  exact .ite h.rowInvalid (.ite h1.setTile.discardCycle (.ite h.rowInvalid (.ite h12.discardCycle
    (.ite h.rowInvalid h12.expandRow))))

theorem Keeps.expandFar {c t n p g} (h : Keeps s₀ s) : Keeps s₀ (s.expandFar c t n p g) := by
  unfold State.expandFar
  extract_lets _ s1 s0
  have h1 : Keeps s₀ s1 := h.setStore
  have h0 : Keeps s₀ s0 := .ite h1.stepStatus h1
  exact .ite h0.discardCycle (.ite h0.rowInvalid (.ite h0.discardCycle (.ite h0.rowInvalid (h0.foldl
    (fun _ _ h => h.wantRecover)).expandRow)))

theorem Keeps.reachFar {c t n p} (h : Keeps s₀ s) : Keeps s₀ (s.reachFar c t n p) := by
  unfold State.reachFar
  extract_lets _ _ _ _ s1
  have h1 : Keeps s₀ s1 := h.setTile
  split
  exacts [.ite (.expandFar (.ite h1 h1.bumpAt)) (.ite h.bumpAt h.setTile.bumpFar),
    .ite h.refetch (.ite h.bumpAt h.setTile.bumpAt.refetch)]

theorem execEventExpand_answers {c t pick f} (h : Keeps s₀ s) : Answers s₀ (execEventExpand c t pick f s) := by
  unfold execEventExpand
  extract_lets s0
  have h0 : Keeps s₀ s0 := h.tileProgress
  split
  · extract_lets s1
    have h1 : Keeps s₀ s1 := h0.reinitAll.accLost
    split
    · exact .next (.ite h.bumpAt h)
    · extract_lets s2
      have h2 : Keeps s₀ s2 := h1.setTile
      exact .ite (.next h0.bumpAt) (.ite (.next h2.rowEcc.discardCycle) (.ite (.next h1.reachFar)
        (.next h2.expandNear)))
  · exact .next h

theorem Keeps.layRegion {c slot} (h : Keeps s₀ s) : Keeps s₀ (s.layRegion c slot) :=
  h.foldl (fun _ _ h => (by split; exacts [h.setWord, h]))

theorem Keeps.spillEvent {c ev due carried} (h : Keeps s₀ s) : Keeps s₀ (s.spillEvent c ev due carried) :=
  .ite h.bumpAt.logGated.stepStatus h.setStore.bumpAt

theorem Keeps.setSpillAbove {c b} (h : Keeps s₀ s) : Keeps s₀ (s.setSpillAbove c b) := h.other

theorem Keeps.fileRecord {c slot r} (h : Keeps s₀ s) : Keeps s₀ (s.fileRecord c slot r) := by
  unfold State.fileRecord
  extract_lets _ _ _ _ s1
  have h1 : Keeps s₀ s1 := h.setWord.setStore.peakAt
  exact .ite h1.bumpAt.setSpillAbove h1

theorem Keeps.spillLand {c bad} (h : Keeps s₀ s) : Keeps s₀ (s.spillLand c bad) := by
  unfold State.spillLand
  extract_lets
  split
  exacts [h, h.setStore.foldl (fun _ _ h => h.fileRecord)]

theorem execSpillBufferDrain_answers {c} (h : Keeps s₀ s) : Answers s₀ (execSpillBufferDrain c s) := by
  unfold execSpillBufferDrain
  extract_lets
  split
  · exact .next h
  · extract_lets _ _ s1
    have h1 : Keeps s₀ s1 := h.setStore
    exact .ite (.next h) (.next h1.setSwitchQueue)

theorem Keeps.park {c t ev due carried} (h : Keeps s₀ s) : Keeps s₀ (s.park c t ev due carried) :=
  .ite h.setTile.peakAt h.spillEvent

theorem Keeps.noteCarry {c t n} (h : Keeps s₀ s) : Keeps s₀ (s.noteCarry c t n) :=
  h.bump.logGated

theorem Keeps.raiseDue {c t ev due} (h : Keeps s₀ s) : Keeps s₀ (s.raiseDue c t ev due) :=
  .ite h.setStore h

theorem Keeps.repark {c t ev due} (h : Keeps s₀ s) : Keeps s₀ (s.repark c t ev due) := by
  unfold State.repark
  extract_lets _ s1
  have h1 : Keeps s₀ s1 := .ite h.setTile h.park
  exact h1.raiseDue

theorem Keeps.countReceived {c t ev} (h : Keeps s₀ s) : Keeps s₀ (s.countReceived c t ev) :=
  .ite h.setTile h.noteCounts.setTile

theorem Keeps.fencedDiscard {c ev} (h : Keeps s₀ s) : Keeps s₀ (s.fencedDiscard c ev) :=
  .stepStatus (.logGated (.bumpAt (.setRouter (.ite h h.noteCounts))))

theorem Keeps.popEject {c t} (h : Keeps s₀ s) : Keeps s₀ (s.popEject c t) := by
  unfold State.popEject
  extract_lets
  split
  exacts [h, h.setRouter]

theorem Keeps.acceptEvent {c t ev} (h : Keeps s₀ s) : Keeps s₀ (s.acceptEvent c t ev) := by
  unfold State.acceptEvent
  extract_lets _ s1 _ s2
  have h1 : Keeps s₀ s1 := h.countReceived.bumpAt
  have h2 : Keeps s₀ s2 := h1.park
  exact .ite h1.rowInvalid (.ite h2.noteCarry.raiseDue (.ite h2.bump.stepStatus.logGated h2))

theorem execTileAccept_answers {c t pay} (h : Keeps s₀ s) : Answers s₀ (execTileAccept c t pay s) := by
  unfold execTileAccept
  extract_lets s1
  have h1 : Keeps s₀ s1 := h.popEject
  split
  exacts [.next h, .ite (.next h) (.ite (.next h1.fencedDiscard) (.next h1.acceptEvent))]

theorem execServiceEventAccept_answers {c t} (h : Keeps s₀ s) : Answers s₀ (execServiceEventAccept c t s) := by
  unfold execServiceEventAccept
  extract_lets s0
  have h0 : Keeps s₀ s0 := h.popEject
  split
  · exact .next h
  · extract_lets s1
    have h1 : Keeps s₀ s1 := h0.countReceived.bumpAt.bumpAt
    exact .ite (.next h) (.ite (.next h0.fencedDiscard) (.ite (.next h1.setRouter.wakeSeq) (.next h1.bumpAt.logGated)))

theorem execDeliveryBegin_answers {c t} (h : Keeps s₀ s) : Answers s₀ (execDeliveryBegin c t s) :=
  .ite (.next h.setTile) (.next h)

theorem Keeps.readBack {c n r} (h : Keeps s₀ s) : Keeps s₀ (s.readBack c n r) :=
  .ite h.repark.noteCarry h.setTile

theorem Keeps.sendSpilled {c n sw} (h : Keeps s₀ s) : Keeps s₀ (s.sendSpilled c n sw) := by
  unfold State.sendSpilled
  extract_lets _ _ _ _ s1 s2
  have h1 : Keeps s₀ s1 := h.setStore
  have h2 : Keeps s₀ s2 := .ite h1 h1.setSpillAbove
  exact h2.setSwitchQueue

theorem execSpillReadback_answers {c} (h : Keeps s₀ s) : Answers s₀ (execSpillReadback c s) := by
  unfold execSpillReadback
  extract_lets
  split
  · exact .next h
  · split
    exacts [.next h, .next h.sendSpilled]

theorem Keeps.spillReturn {c bad} (h : Keeps s₀ s) : Keeps s₀ (s.spillReturn c bad) := by
  unfold State.spillReturn
  extract_lets
  split
  exacts [h, h.setStore.foldl (fun _ _ h => h.readBack)]

theorem execDeliveryEnd_answers {c t} (h : Keeps s₀ s) : Answers s₀ (execDeliveryEnd c t s) := by
  unfold execDeliveryEnd
  extract_lets
  split
  exacts [.ite (.next h.setTile) (.next h), .next h]

theorem Keeps.spillDiscard {c t n p} (h : Keeps s₀ s) : Keeps s₀ (s.spillDiscard c t n p) := by
  unfold State.spillDiscard
  extract_lets _ _ _ s1
  have h1 : Keeps s₀ s1 := h.setStore.layRegion
  exact .ite h1 h1.setSpillAbove

theorem Keeps.dropCarried {c t n} (h : Keeps s₀ s) : Keeps s₀ (s.dropCarried c t n) :=
  .ite h h.setTile.spillDiscard.bumpBy.logGated.stepStatus

theorem Keeps.carryEvent {c t n p} (h : Keeps s₀ s) : Keeps s₀ (s.carryEvent c t n p) :=
  h.repark.noteCarry

theorem Keeps.spillCarry {c t n} (h : Keeps s₀ s) : Keeps s₀ (s.spillCarry c t n) := by
  unfold State.spillCarry
  extract_lets s1 _ _ _ s2
  have h1 : Keeps s₀ s1 := h.dropCarried
  have h2 : Keeps s₀ s2 := h1.setTile
  exact h2.foldl fun _ _ h => h.carryEvent

theorem Keeps.noteShed {c t n} (h : Keeps s₀ s) : Keeps s₀ (s.noteShed c t n) :=
  h.logGated.stepStatus

theorem Keeps.shedTile {c t n mask} (h : Keeps s₀ s) : Keeps s₀ (s.shedTile c t n mask) := by
  unfold State.shedTile
  extract_lets _ _ _ _ _ _ _ _ s1 s2 s3 s4 s5
  have h1 : Keeps s₀ s1 := h.setTile
  have h2 : Keeps s₀ s2 := h1.spillDiscard
  have h3 : Keeps s₀ s3 := h2.foldl fun _ _ h => h.bump
  have h4 : Keeps s₀ s4 := h3.foldl fun _ _ h => h.bump
  have h5 : Keeps s₀ s5 := h4.bumpBy
  exact .ite h5 h5.noteShed

theorem execCarryDrop_answers {c t} (h : Keeps s₀ s) : Answers s₀ (execCarryDrop c t s) := by
  unfold execCarryDrop
  extract_lets
  split
  exacts [.ite (.next h.dropCarried) (.next h), .next h]

/-! ### Bulk -/

theorem Keeps.sendLine {sw k c} (h : Keeps s₀ s) : Keeps s₀ (s.sendLine sw k c).2 := by
  unfold State.sendLine
  extract_lets
  split
  · exact h
  · extract_lets _ _ s1 s2
    have h1 : Keeps s₀ s1 := h.setFetch
    have h2 : Keeps s₀ s2 := h1.bumpFar
    exact .ite h2.bumpAt h2

theorem Keeps.offerLine {sw port kind clu offer} (h : Keeps s₀ s) :
    Keeps s₀ (s.offerLine sw port kind clu offer).2 := by
  unfold State.offerLine
  split
  · exact h
  · split
    · split
      exacts [.iteSnd h.sendLine h, h]
    · split
      exacts [.iteSnd h h, h]

theorem Keeps.takeLine {sw port kind clu offer} (h : Keeps s₀ s) : Keeps s₀ (s.takeLine sw port kind clu offer).2 := by
  unfold State.takeLine
  extract_lets
  split
  exacts [h.setSwitchQueue, h.offerLine]

theorem Keeps.putLine {sw out l} (h : Keeps s₀ s) : Keeps s₀ (s.putLine sw out l) := by
  unfold State.putLine
  extract_lets s2
  have h2 : Keeps s₀ s2 := .ite h.bump h
  split
  exacts [h.setSwitchQueue, .ite h2 (.ite h2.setStore (.ite h2.spillLand (.ite h2.spillReturn h2.emit)))]

theorem Keeps.frameStart {sw slot} (h : Keeps s₀ s) : Keeps s₀ (s.frameStart sw slot) := by
  unfold State.frameStart
  split
  exacts [h, h.setFetch]

theorem execBulkSlotMove_answers {sw out slot bad offer} (h : Keeps s₀ s) :
    Answers s₀ (execBulkSlotMove sw out slot bad offer s) := by
  unfold execBulkSlotMove
  extract_lets s0
  have h0 : Keeps s₀ s0 := h.frameStart
  split
  · exact .next h0
  · split
    · rename_i s1 e
      have h1 : Keeps s₀ s1 := .ofEqSnd h0.takeLine e
      exact .next h1.putLine
    · rename_i s1 e
      have h1 : Keeps s₀ s1 := .ofEqSnd h0.takeLine e
      exact .next (.ite h1.bumpAt h1)

theorem execSchedVersionSwitch_answers (h : Keeps s₀ s) : Answers s₀ (execSchedVersionSwitch s) := by
  unfold execSchedVersionSwitch
  extract_lets s1
  have h1 : Keeps s₀ s1 := h.other
  split
  exacts [.next h, .ite (.next h) (.next h1.bumpBy.setReg.setReg)]

/-! ### Update -/

theorem Keeps.sendHints {c t i n} (h : Keeps s₀ s) : Keeps s₀ (s.sendHints c t i n) :=
  h.foldl fun _ _ h => h.sendHint

theorem Keeps.censusNote {c t i n cnt} (h : Keeps s₀ s) : Keeps s₀ (s.censusNote c t i n cnt) := h.other

theorem Keeps.countUpdate {c r tonic} (h : Keeps s₀ s) : Keeps s₀ (s.countUpdate c r tonic) := by
  unfold State.countUpdate
  extract_lets s1 s2 s3 s4 s5 s6
  have h1 : Keeps s₀ s1 := h.bumpAt
  have h2 : Keeps s₀ s2 := .ite h1.bumpAt h1
  have h3 : Keeps s₀ s3 := .ite h2.bumpAt h2
  have h4 : Keeps s₀ s4 := .ite h3.bumpAt h3
  have h5 : Keeps s₀ s5 := .ite h4 h4.bumpByAt
  have h6 : Keeps s₀ s6 := .ite h5.bumpAt h5
  exact .ite h6.bumpAt h6

theorem Keeps.updateOne {c t n i} (h : Keeps s₀ s) : Keeps s₀ (s.updateOne c t n i) := by
  unfold State.updateOne
  extract_lets _ _ _ _ _ _ _ s1 s2 s3
  have h1 : Keeps s₀ s1 := h.setNeuron.setTile.countUpdate
  have h2 : Keeps s₀ s2 := .ite h1.sendPost h1
  have h3 : Keeps s₀ s3 := h2.censusNote
  exact .ite h (.ite h3.sendHints h3)

theorem Keeps.updateSome {c t n l} (h : Keeps s₀ s) : Keeps s₀ (s.updateSome c t n l) := by
  induction l generalizing s with
  | nil => exact h.setTile
  | cons i l ih => exact .ite h.setTile.bumpAt (.ite h.setTile.bumpAt (ih h.updateOne))

theorem Keeps.groomTouch {c t n i} (h : Keeps s₀ s) : Keeps s₀ (s.groomTouch c t n i) :=
  .ite h h.setNeuron.bumpAt

theorem Keeps.groomPass {c t n} (h : Keeps s₀ s) : Keeps s₀ (s.groomPass c t n) := by
  unfold State.groomPass
  extract_lets _ _ s1
  have h1 : Keeps s₀ s1 := h.foldl fun _ _ h => h.groomTouch
  exact h1.setTile

theorem Keeps.runUpdate {c t n l} (h : Keeps s₀ s) : Keeps s₀ (s.runUpdate c t n l) := by
  unfold State.runUpdate
  extract_lets s1 s2
  have h1 : Keeps s₀ s1 := h.updateSome
  have h2 : Keeps s₀ s2 := h1.groomPass
  exact .ite h2.setTile.noteCounts h1

theorem execUpdatePhase_answers {c t bad} (h : Keeps s₀ s) : Answers s₀ (execUpdatePhase c t bad s) := by
  unfold execUpdatePhase
  extract_lets go
  have hgo : ∀ n l, Answers s₀ (go n l) := fun _ _ => .next h.tileProgress.reinitAll.accLost.runUpdate
  split
  exacts [.ite (hgo _ _) (.next h), hgo _ _, .next h]

theorem Keeps.setEgress {c t q} (h : Keeps s₀ s) : Keeps s₀ (s.setEgress c t q) := h.other

theorem Keeps.countThrottle {c level} (h : Keeps s₀ s) : Keeps s₀ (s.countThrottle c level) :=
  .ite h.bumpAt (.ite h.bumpAt (.ite h.bumpAt h))

theorem Keeps.enterEgress {c t g} (h : Keeps s₀ s) : Keeps s₀ (s.enterEgress c t g) :=
  h.setEgress.bumpAt.peakAt

theorem Keeps.emitFar {c t ndest f ev} (h : Keeps s₀ s) : Keeps s₀ (s.emitFar c t ndest f ev) := by
  unfold State.emitFar
  extract_lets r
  have hr : Keeps s₀ r.2 := h.postFetch
  exact .ite hr.setTile.enterEgress (.ite hr.setTile.bump.noteShed (.ite hr.setTile.bumpAt.peakAt hr.bumpAt))

theorem Keeps.emitDest {c t first ndest f destBad} (h : Keeps s₀ s) :
    Keeps s₀ (s.emitDest c t first ndest f destBad) := by
  unfold State.emitDest
  extract_lets _ _ skip _ s1
  have hskip : Keeps s₀ skip := h.setTile
  have h1 : Keeps s₀ s1 := hskip.rowEcc
  exact .ite h1.setTile (.ite hskip.bumpAt.rowNote (.ite hskip.enterEgress (.ite h.emitFar hskip.enterEgress)))

theorem Keeps.readDest {c t f axonBad destBad} (h : Keeps s₀ s) : Keeps s₀ (s.readDest c t f axonBad destBad) := by
  unfold State.readDest
  extract_lets _ _ _ s1
  have h1 : Keeps s₀ s1 := h.rowEcc
  exact .ite h1.setTile (.ite h.setTile h.emitDest)

theorem execDestListRead_answers {c t axonBad destBad} (h : Keeps s₀ s) :
    Answers s₀ (execDestListRead c t axonBad destBad s) := by
  unfold execDestListRead
  extract_lets _ s1 _ s2
  have h1 : Keeps s₀ s1 := h.countThrottle
  have h2 : Keeps s₀ s2 := h1.setTile.tileProgress
  split
  · exact .next h1
  · extract_lets s3
    have h3 : Keeps s₀ s3 := h2.setTile.readDest
    exact .ite (.next h2) (.next (.ite h3.noteCounts h3))

theorem execHoldbackRelease_answers {c t k} (h : Keeps s₀ s) : Answers s₀ (execHoldbackRelease c t k s) := by
  unfold execHoldbackRelease
  extract_lets
  split
  · exact .next h
  · extract_lets r
    have hr : Keeps s₀ r.2 := h.postFetch
    exact .ite (.next h) (.ite (.next hr.setTile.enterEgress) (.next hr))

end Sys2Proof.InvariantProofs
end

section
/-!
PROOFS. The operations of the network, of steps and of plasticity keep the invariant.
-/
namespace Sys2Proof.InvariantProofs
open Sys2Proof Sys2Proof.Machine
set_option Elab.async false

variable {s₀ s : State}

/-! ### Network -/

theorem Keeps.setOutput {p o} (h : Keeps s₀ s) : Keeps s₀ (s.setOutput p o) := by
  unfold State.setOutput
  split
  exacts [h.setRouter, h.other]

theorem Keeps.bumpNet {o p n} (h : Keeps s₀ s) : Keeps s₀ (s.bumpNet o p n) := by
  unfold State.bumpNet
  split
  exacts [h.bumpByAt, h.bumpBy]

theorem Keeps.setInput {c input l} (h : Keeps s₀ s) : Keeps s₀ (s.setInput c input l) := h.other

theorem Keeps.popInput {p i} (h : Keeps s₀ s) : Keeps s₀ (s.popInput p i) := by
  unfold State.popInput
  split
  exacts [h.setInput, h.other]

theorem Keeps.setHead {p i ev} (h : Keeps s₀ s) : Keeps s₀ (s.setHead p i ev) := by
  unfold State.setHead
  split
  exacts [h.setInput, h.other]

theorem Keeps.absorb {p ev} (h : Keeps s₀ s) : Keeps s₀ (s.absorb p ev) := by
  unfold State.absorb
  extract_lets s0 s1
  have h0 : Keeps s₀ s0 := h.bumpNet
  have h1 : Keeps s₀ s1 := .ite h0 h0.noteCounts
  split
  exacts [h1.setRouter, .ite h1.other h1.other]

theorem Keeps.checkArrival {p flaws i ev} (h : Keeps s₀ s) : Keeps s₀ (s.checkArrival p flaws i ev).2 := by
  unfold State.checkArrival
  extract_lets
  split
  · exact h
  · extract_lets s1
    have h1 : Keeps s₀ s1 := .ite h.bumpNet h
    split
    · exact h1
    · split
      exacts [h1, h1.bumpNet, h1.bumpNet.logGated]

theorem Keeps.applyArrival {p flaws i ev0} (h : Keeps s₀ s) : Keeps s₀ (s.applyArrival p flaws i ev0) := by
  unfold State.applyArrival
  extract_lets c
  have hc : Keeps s₀ c.2 := h.checkArrival
  split
  · exact hc.setHead.bumpNet
  · extract_lets s1 s2
    have h1 : Keeps s₀ s1 := hc.popInput.setOutput
    have h2 : Keeps s₀ s2 := .ite h1.absorb (.ite h1.bumpNet h1)
    split
    exacts [h2.peakAt, h2.peak]

theorem Keeps.fillQuad {c q} (h : Keeps s₀ s) : Keeps s₀ (s.fillQuad c q) := by
  unfold State.fillQuad
  extract_lets
  split
  · exact h
  · split
    · exact h
    · extract_lets
      split
      · exact h
      · extract_lets s1 s2
        have h1 : Keeps s₀ s1 := h.setTile.setEgress.noteCounts
        have h2 : Keeps s₀ s2 := h1.setInput
        exact h2.setRouter

theorem Keeps.fillGateway {c l} (h : Keeps s₀ s) : Keeps s₀ (s.fillGateway c l) := by
  unfold State.fillGateway
  split
  exacts [h, .ite h.other.setInput h]

theorem Keeps.fillInputs {c} (h : Keeps s₀ s) : Keeps s₀ (s.fillInputs c) := by
  unfold State.fillInputs
  extract_lets s1
  have h1 : Keeps s₀ s1 := h.foldl fun _ _ h => h.fillQuad
  exact h1.foldl fun _ _ h => h.fillGateway

theorem execRouterArrival_answers {p flaws} (h : Keeps s₀ s) : Answers s₀ (execRouterArrival p flaws s) := by
  unfold execRouterArrival
  extract_lets s0 _ _ _ s2 _ s1
  have h0 : Keeps s₀ s0 := by unfold s0; split; exacts [h.fillInputs, h]
  have h2 : Keeps s₀ s2 := h0.foldl fun _ _ h => h.applyArrival
  have h1 : Keeps s₀ s1 := by unfold s1; split; exacts [h2.setOutput, h2]
  exact .next (.ite h1 h1.bumpNet)

theorem Keeps.countStall {c out} (h : Keeps s₀ s) : Keeps s₀ (s.countStall c out) :=
  .ite h.bumpAt (.ite h.bumpAt (.ite h.bumpAt h))

theorem Keeps.lostDiscard {ev} (h : Keeps s₀ s) : Keeps s₀ (s.lostDiscard ev) := by
  unfold State.lostDiscard
  extract_lets s1
  have h1 : Keeps s₀ s1 := .ite h.other h.other.noteCounts
  exact h1.bump

theorem Keeps.forward {c out ev} (h : Keeps s₀ s) : Keeps s₀ (s.forward c out ev) := by
  unfold State.forward
  extract_lets
  split
  · exact h.setRouter
  · split
    · exact h.lostDiscard
    · split
      · exact h.other
      · split
        exacts [h.setInput, h]

theorem Keeps.departSome {c out n} (h : Keeps s₀ s) : Keeps s₀ (s.departSome c out n) := by
  induction n generalizing s with
  | zero => exact h
  | succ n ih =>
    unfold State.departSome
    extract_lets
    split
    · exact h
    · exact .ite (ih h.setOutput.fencedDiscard) (.ite h.countStall (ih h.setOutput.forward.bumpAt))

theorem execRouterDepart_answers {c out} (h : Keeps s₀ s) : Answers s₀ (execRouterDepart c out s) := by
  unfold execRouterDepart
  extract_lets s1
  have h1 : Keeps s₀ s1 := h.departSome
  exact .next h1.setOutput

theorem execCreditReturn_answers {c out} (h : Keeps s₀ s) : Answers s₀ (execCreditReturn c out s) :=
  .ite (.next h.setOutput) (.next h)

theorem execMulticastRequest_answers {c t} (h : Keeps s₀ s) : Answers s₀ (execMulticastRequest c t s) := by
  unfold execMulticastRequest
  extract_lets
  split
  · exact .next h
  · split
    · exact .next h
    · extract_lets _ s1
      have h1 : Keeps s₀ s1 := h.setTile.setEgress.noteCounts
      exact .ite (.next h) (.next (.ite h1 h1.setRouter))

theorem Keeps.presentMembers {c r l} (h : Keeps s₀ s) : Keeps s₀ (s.presentMembers c r l).2 := by
  induction l generalizing s r with
  | nil => exact h
  | cons x l ih =>
    simp only [State.presentMembers]
    have hp {far : Prop} {_ : Decidable far} {u v w n} :
        Keeps s₀ (if far then s.postFetch (some c) u v w n false else (true, s)).2 := .iteSnd h.postFetch (.pair h)
    exact .iteSnd (ih h) (.iteSnd (ih (Keeps.bumpAt (Keeps.setInput hp))) (.pair hp))

theorem execMulticastExpand_answers {c} (h : Keeps s₀ s) : Answers s₀ (execMulticastExpand c s) := by
  unfold execMulticastExpand
  split
  · exact .next h
  · extract_lets x
    have hx : Keeps s₀ x.2 := h.presentMembers
    exact .next hx.setRouter

theorem execGatewayTransit_answers {l} (h : Keeps s₀ s) : Answers s₀ (execGatewayTransit l s) := by
  unfold execGatewayTransit
  extract_lets
  split
  exacts [.next h, .ite (.next h) (.next h.other.bump)]

theorem Keeps.enterMesh {l ev} (h : Keeps s₀ s) : Keeps s₀ (s.enterMesh l ev) := h.other

theorem execRemoteFarArrival_answers {l} (h : Keeps s₀ s) : Answers s₀ (execRemoteFarArrival l s) := by
  unfold execRemoteFarArrival
  extract_lets
  split
  · exact .next h
  · extract_lets r src
    have hr : Keeps s₀ r.2 := h.postRemote
    have hsrc : Keeps s₀ src := hr
    exact .ite (.next h) (.ite (.next hsrc.other.enterMesh) (.ite (.next hsrc.other.bump) (.next hr)))

theorem execRemoteHoldbackRelease_answers {east} (h : Keeps s₀ s) : Answers s₀ (execRemoteHoldbackRelease east s) := by
  unfold execRemoteHoldbackRelease
  extract_lets
  split
  · exact .next h
  · extract_lets r src
    have hr : Keeps s₀ r.2 := h.postRemote
    have hsrc : Keeps s₀ src := hr
    exact .ite (.next h) (.ite (.next hsrc.other.enterMesh) (.next hr))

theorem Keeps.countStreamSent {injector tag} (h : Keeps s₀ s) : Keeps s₀ (s.countStreamSent injector tag) := h.other

theorem Keeps.centrePort {ev} (h : Keeps s₀ s) : Keeps s₀ (s.centrePort ev).2 :=
  .iteSnd h h.other

theorem execSequencerInject_answers {c w} (h : Keeps s₀ s) : Answers s₀ (execSequencerInject c w s) :=
  .ite (.next h) (.ite (.next h.respond) (.next h.setInput.countStreamSent.respond))

/-! ### Access -/

theorem Keeps.writeObject {p index sub f} (h : Keeps s₀ s) (hf : ∀ s, Keeps s₀ s → Keeps s₀ (f s).2) :
    Keeps s₀ (s.writeObject p index sub f) := by
  unfold State.writeObject
  extract_lets r
  have hr : Keeps s₀ r.2 := (hf _ h)
  split
  exacts [hr.respond, h.respond]

/-! ### Routing -/

theorem Keeps.modTether {f} (h : Keeps s₀ s) : Keeps s₀ (s.modTether f) := h.other

theorem Keeps.armPrepared {l} (h : Keeps s₀ s) : Keeps s₀ (s.armPrepared l) := by
  unfold State.armPrepared
  split
  · exact h
  · extract_lets s1
    have h1 : Keeps s₀ s1 := .ite h.other h.other
    exact h1.setReg.modTether

theorem Keeps.armWaiting (h : Keeps s₀ s) : Keeps s₀ (s.armWaiting) := by
  unfold State.armWaiting
  split
  exacts [h.armPrepared, h]

theorem Keeps.checkHomes (h : Keeps s₀ s) : Keeps s₀ (s.checkHomes) :=
  h.loseHomes

theorem Keeps.routeArm (h : Keeps s₀ s) : Keeps s₀ (s.routeArm).2 := by
  unfold State.routeArm
  split
  · exact h
  · split
    exacts [h.setReg, h.logFault]

theorem execRouteArm_answers {path} (h : Keeps s₀ s) : Answers s₀ (execRouteArm path s) :=
  .next (h.writeObject (fun _ h => h.routeArm))

theorem Keeps.routeDisarm (h : Keeps s₀ s) : Keeps s₀ (s.routeDisarm).2 :=
  .iteSnd h.setReg (.iteSnd h h)

theorem execRouteDisarm_answers {path} (h : Keeps s₀ s) : Answers s₀ (execRouteDisarm path s) :=
  .next (h.writeObject (fun _ h => h.routeDisarm))

theorem Keeps.routeSwitch {others} (h : Keeps s₀ s) : Keeps s₀ (s.routeSwitch others).2 := by
  unfold State.routeSwitch
  extract_lets src
  have hsrc : Keeps s₀ src := h.setReg
  exact .iteSnd hsrc.other h

theorem execRouteSwitch_answers {path others} (h : Keeps s₀ s) : Answers s₀ (execRouteSwitch path others s) :=
  .next (h.writeObject (fun _ h => h.routeSwitch))

theorem Keeps.schedArm (h : Keeps s₀ s) : Keeps s₀ (s.schedArm).2 := by
  unfold State.schedArm
  split
  · exact h
  · split
    exacts [h.setReg, h.logFault]

theorem execSchedArm_answers {path} (h : Keeps s₀ s) : Answers s₀ (execSchedArm path s) :=
  .next (h.writeObject (fun _ h => h.schedArm))

theorem Keeps.schedDisarm (h : Keeps s₀ s) : Keeps s₀ (s.schedDisarm).2 :=
  .iteSnd h h.setReg

theorem execSchedDisarm_answers {path} (h : Keeps s₀ s) : Answers s₀ (execSchedDisarm path s) :=
  .next (h.writeObject (fun _ h => h.schedDisarm))

theorem Keeps.schedSwitch (h : Keeps s₀ s) : Keeps s₀ (s.schedSwitch).2 :=
  .iteSnd h.setReg h

theorem execSchedSwitch_answers {path} (h : Keeps s₀ s) : Answers s₀ (execSchedSwitch path s) :=
  .next (h.writeObject (fun _ h => h.schedSwitch))

/-! ### Windows -/

theorem Keeps.windowWrite {x ofs data} (h : Keeps s₀ s) : Keeps s₀ (s.windowWrite x ofs data) :=
  h.setBytes.setBytes

theorem Keeps.windowAppend {b w data} (h : Keeps s₀ s) : Keeps s₀ (s.windowAppend b w data).2 :=
  .iteSnd h.setWindow.bump h.windowWrite.setWindow

theorem Keeps.setPort {p x} (h : Keeps s₀ s) : Keeps s₀ (s.setPort p x) := h.other

/-! ### Steps -/

theorem Keeps.modFabric {f} (h : Keeps s₀ s) : Keeps s₀ (s.modFabric f) := h.other

theorem Keeps.holdRelease {eng} (h : Keeps s₀ s) : Keeps s₀ (s.holdRelease eng) := h.other

theorem Keeps.freeRelease {eng} (h : Keeps s₀ s) : Keeps s₀ (s.freeRelease eng) := h.other

theorem Keeps.broadcast {kind n} (h : Keeps s₀ s) : Keeps s₀ (s.broadcast kind n) := h.other

theorem Keeps.stepRecord {run st aux n ext} (h : Keeps s₀ s) : Keeps s₀ (s.stepRecord run st aux n ext) :=
  h.writeRecord

theorem Keeps.stepDone {run st} (h : Keeps s₀ s) : Keeps s₀ (s.stepDone run st) :=
  h.setQueue.countDone.countBusy.settleQueue.settleEngine

theorem Keeps.endRun {r} (h : Keeps s₀ s) : Keeps s₀ (s.endRun r) :=
  .ite h.modFabric.stepRecord.stepDone h.modFabric

theorem Keeps.stepComplete {n st sums} (h : Keeps s₀ s) : Keeps s₀ (s.stepComplete n st sums) := by
  unfold State.stepComplete
  extract_lets
  split
  · exact h
  · extract_lets _ s1
    have h1 : Keeps s₀ s1 := h.stepRecord
    exact .ite h1.modFabric.stepDone h1.modFabric

theorem Keeps.repaced {before} (h : Keeps s₀ s) : Keeps s₀ (s.repaced before) :=
  .ite h h.other

theorem Keeps.applyStaged (h : Keeps s₀ s) : Keeps s₀ (s.applyStaged) := by
  unfold State.applyStaged
  extract_lets g set
  have hset : ∀ {o v s}, Keeps s₀ s → Keeps s₀ (set o v s) := by
    intro o v s h
    cases v
    exacts [h, h.setReg]
  exact (hset (hset (hset (hset (hset h))))).modFabric.repaced

theorem Keeps.dropNominal (h : Keeps s₀ s) : Keeps s₀ (s.dropNominal) := h.other

theorem Keeps.anchorAt {n t} (h : Keeps s₀ s) : Keeps s₀ (s.anchorAt n t) := h.other

theorem Keeps.takeLag {n lag} (h : Keeps s₀ s) : Keeps s₀ (s.takeLag n lag) := by
  unfold State.takeLag
  extract_lets _ _ _ s1 s2
  have h1 : Keeps s₀ s1 := h.setReg.setReg.peak.peak
  have h2 : Keeps s₀ s2 := h1.bump.logFault.emcy
  exact .ite (.ite h2.bumpBy.anchorAt h2) h1

theorem Keeps.releaseTiming {n fresh} (h : Keeps s₀ s) : Keeps s₀ (s.releaseTiming n fresh) :=
  .ite h.dropNominal (.ite h.anchorAt h.takeLag)

theorem Keeps.retireRoutes {n} (h : Keeps s₀ s) : Keeps s₀ (s.retireRoutes n) :=
  .ite h.setReg.armWaiting h

theorem Keeps.flipRoutes {n} (h : Keeps s₀ s) : Keeps s₀ (s.flipRoutes n) :=
  .ite h.setReg.setReg.setReg.modTether.checkHomes.retireRoutes h

theorem Keeps.atRelease {n due} (h : Keeps s₀ s) : Keeps s₀ (s.atRelease n due) := by
  unfold State.atRelease
  extract_lets s1 _ s12 s2 _ s3
  have h1 : Keeps s₀ s1 := h.setReg.flipRoutes
  have h12 : Keeps s₀ s12 := .ite h1 h1.logFault
  have h2 : Keeps s₀ s2 := h12.modFabric
  have h3 : Keeps s₀ s3 := .ite h2.other h2
  exact h3.other

theorem execStepRelease_answers (h : Keeps s₀ s) : Answers s₀ (execStepRelease s) := by
  unfold execStepRelease
  extract_lets _ s1 _ s2 s3
  have h1 : Keeps s₀ s1 := h.applyStaged
  have h2 : Keeps s₀ s2 := h1.releaseTiming
  have h3 : Keeps s₀ s3 := h2.atRelease
  split
  exacts [.next h, .ite (.next h) (.ite (.next h.endRun) (.ite (.next (.endRun (.ite h1.modFabric h1.dropNominal)))
    (.next h3.modFabric.broadcast)))]

theorem execStepTimerNominal_answers (h : Keeps s₀ s) : Answers s₀ (execStepTimerNominal s) :=
  .ite (.next h.setReg.modFabric) (.next h)

theorem Keeps.slaveNominal {n arrival fresh} (h : Keeps s₀ s) : Keeps s₀ (s.slaveNominal n arrival fresh) := by
  unfold State.slaveNominal
  extract_lets
  split
  · exact h.dropNominal
  · split
    exacts [h.anchorAt, .ite h.anchorAt (.ite h.setReg.modFabric h.bump)]

theorem Keeps.takeTerms {t} (h : Keeps s₀ s) : Keeps s₀ (s.takeTerms t) :=
  h.modFabric.setReg.setReg.setReg.setReg.setReg.repaced

theorem execReleaseBroadcastReceive_answers {n terms} (h : Keeps s₀ s) :
    Answers s₀ (execReleaseBroadcastReceive n terms s) := by
  unfold execReleaseBroadcastReceive
  extract_lets
  split
  · exact .next h
  · extract_lets s0 s1
    have h0 : Keeps s₀ s0 := h.modFabric
    have h1 : Keeps s₀ s1 := .ite h0 h0.takeTerms.slaveNominal.atRelease
    exact .ite (.next h0) (.next h1.modFabric)

theorem execStreamWindowClose_answers (h : Keeps s₀ s) : Answers s₀ (execStreamWindowClose s) := by
  unfold execStreamWindowClose
  extract_lets _ close s1
  have hclose : ∀ s p, Keeps s₀ s → Keeps s₀ (close s p) := by
    intro s p h
    unfold close
    split
    exacts [h.setPort, h]
  have h1 : Keeps s₀ s1 := h.foldl hclose
  exact .ite (.next h) (.next h1.modFabric)

theorem Keeps.stepMismatch {other} (h : Keeps s₀ s) : Keeps s₀ (s.stepMismatch other) :=
  h.bump.logFault.modFabric

theorem Keeps.judgeStep {r} (h : Keeps s₀ s) : Keeps s₀ (s.judgeStep r) :=
  .ite h h.setReg.peak.modFabric.broadcast

theorem Keeps.judgeWindow {r} (h : Keeps s₀ s) : Keeps s₀ (s.judgeWindow r) :=
  .ite h.modFabric h

theorem Keeps.noteRound {r} (h : Keeps s₀ s) : Keeps s₀ (s.noteRound r) := h.other

theorem execSyncReductionRound_answers {parity master} (h : Keeps s₀ s) :
    Answers s₀ (execSyncReductionRound parity master s) := by
  unfold execSyncReductionRound
  extract_lets _ _ s1 s2
  have h1 : Keeps s₀ s1 := h.noteRound
  have h2 : Keeps s₀ s2 := by unfold s2; split; exacts [(.ite h1.stepMismatch h1), h1]
  split
  · exact .next h.bump
  · split
    · exact .next h
    · split
      · split
        exacts [.next h1.stepMismatch, .next h1.judgeStep.judgeWindow]
      · exact .next h2.modFabric

theorem Keeps.repairTiles (h : Keeps s₀ s) : Keeps s₀ (s.repairTiles) :=
  h.foldl fun _ _ h => .ite h (h.foldl fun _ _ h => h.setBytes).setTile

theorem Keeps.censusDrop {g n} (h : Keeps s₀ s) : Keeps s₀ (s.censusDrop g n) :=
  h.bump.logGated

theorem Keeps.censusRecord {k g n st} (h : Keeps s₀ s) : Keeps s₀ (s.censusRecord k g n st) := by
  unfold State.censusRecord
  extract_lets _ _ _ s1
  have h1 : Keeps s₀ s1 := h.other
  split
  · exact h1.censusDrop
  · extract_lets r
    have hr : Keeps s₀ r.2 := h1.windowAppend
    split
    · exact h1.pointerReset.censusDrop
    · split
      · exact .censusDrop (.ite h1.refuseFull h1)
      · split
        exacts [hr.pushEntry.bump, hr.censusDrop]

theorem Keeps.censusRecords {n st} (h : Keeps s₀ s) : Keeps s₀ (s.censusRecords n st) :=
  h.foldl fun _ _ h => .ite h.censusRecord h

theorem Keeps.stepHitch (h : Keeps s₀ s) : Keeps s₀ (s.stepHitch) :=
  .ite h (.ite h h.hitchNotify)

theorem Keeps.wantTpdo {k} (h : Keeps s₀ s) : Keeps s₀ (s.wantTpdo k) := h.other

theorem Keeps.applyPolicy {f k} (h : Keeps s₀ s) : Keeps s₀ (s.applyPolicy f k) := by
  unfold State.applyPolicy
  extract_lets
  split
  · exact h
  · split
    exacts [h.spillCarry, h.shedTile, h]

theorem Keeps.applyOverrun {f} (h : Keeps s₀ s) : Keeps s₀ (s.applyOverrun f) :=
  .ite (h.foldl (fun _ _ h => h.applyPolicy)) h

theorem Keeps.overrunAfter {n} (h : Keeps s₀ s) : Keeps s₀ (s.overrunAfter n) := by
  unfold State.overrunAfter
  split
  exacts [h.applyOverrun, h]

theorem execCompleteBroadcastReceive_answers {n} (h : Keeps s₀ s) : Answers s₀ (execCompleteBroadcastReceive n s) := by
  unfold execCompleteBroadcastReceive
  extract_lets
  split
  · exact .next h
  · extract_lets s0 s1 s2 s3
    have h0 : Keeps s₀ s0 := h.modFabric
    have h1 : Keeps s₀ s1 := h0.modFabric.bump
    have h2 : Keeps s₀ s2 := .ite h1 h1.setReg
    have h3 : Keeps s₀ s3 := h2.repairTiles.censusRecords.stepHitch.retireRoutes.overrunAfter.stepComplete
    exact .ite (.next h0) (.next h3.wantTpdo.notify)

theorem Keeps.noteOverrun {f} (h : Keeps s₀ s) : Keeps s₀ (s.noteOverrun f) :=
  .ite h h.bump.modFabric.stepStatus.logFault

theorem execOverrun_answers (h : Keeps s₀ s) : Answers s₀ (execOverrun s) := by
  unfold execOverrun
  extract_lets act
  have hact : ∀ s f, Keeps s₀ s → Keeps s₀ (act s f) := by
    intro s f h
    unfold act
    split
    exacts [h, .ite h (.ite h.noteOverrun.applyOverrun h.noteOverrun)]
  exact .next (h.foldl hact)

/-! ### Plasticity -/

theorem Keeps.modLearning {f} (h : Keeps s₀ s) : Keeps s₀ (s.modLearning f) := h.other

theorem Keeps.modPlast {c f} (h : Keeps s₀ s) : Keeps s₀ (s.modPlast c f) := h.other

theorem Keeps.notePending (h : Keeps s₀ s) : Keeps s₀ (s.notePending) := h.other

theorem Keeps.stage {ty word value} (h : Keeps s₀ s) : Keeps s₀ (s.stage ty word value) := by
  unfold State.stage
  extract_lets s1 s2
  have h1 : Keeps s₀ s1 := h.setWord
  have h2 : Keeps s₀ s2 := h1.modLearning
  exact .ite h h2.setReg.bumpBy.notePending

theorem Keeps.holdSweep {c} (h : Keeps s₀ s) : Keeps s₀ (s.holdSweep c) := by
  unfold State.holdSweep
  split
  exacts [h, h.modLearning]

theorem Keeps.unholdSweep {c} (h : Keeps s₀ s) : Keeps s₀ (s.unholdSweep c) := by
  unfold State.unholdSweep
  split
  exacts [h, h.modLearning.bumpBy]

theorem Keeps.noteChanged {c row} (h : Keeps s₀ s) : Keeps s₀ (s.noteChanged c row) :=
  .ite h h.modLearning

theorem Keeps.writeRowWord {c row off value} (h : Keeps s₀ s) : Keeps s₀ (s.writeRowWord c row off value) := by
  unfold State.writeRowWord
  extract_lets s1 s2
  have h1 : Keeps s₀ s1 := h.setWord.noteChanged
  have h2 : Keeps s₀ s2 := .ite (by split; exacts [h1, (.ite h1.setStore h1.modPlast)]) h1
  split
  exacts [h2.stage, h2]

theorem Keeps.endEpoch {command} (h : Keeps s₀ s) : Keeps s₀ (s.endEpoch command) := h.other

theorem execEpochEnd_answers (h : Keeps s₀ s) : Answers s₀ (execEpochEnd s) := by
  unfold execEpochEnd
  extract_lets
  split
  · exact .next h
  · split
    · exact .ite (.next h.endEpoch) (.next h)
    · split
      exacts [.next h, .next h.modFabric.modLearning]

theorem Keeps.applyEdits {c n} (h : Keeps s₀ s) : Keeps s₀ (s.applyEdits c n) := by
  induction n generalizing s with
  | zero => exact h
  | succ n ih =>
    unfold State.applyEdits
    split
    · exact h
    · extract_lets s1 _ s2 s3
      have h1 : Keeps s₀ s1 := h.unholdSweep.modPlast
      have h2 : Keeps s₀ s2 := h1.writeRowWord
      have h3 : Keeps s₀ s3 := .ite h2.bumpAt (.ite h2.bumpAt h2)
      exact .ite h.holdSweep (ih h3)

theorem Keeps.compact {c row i} (h : Keeps s₀ s) : Keeps s₀ (s.compact c row i) :=
  .ite h.modPlast h.modPlast

theorem Keeps.compactSome {c n} (h : Keeps s₀ s) : Keeps s₀ (s.compactSome c n) := by
  induction n generalizing s with
  | zero => exact h
  | succ n ih =>
    unfold State.compactSome
    extract_lets s1
    have h1 : Keeps s₀ s1 := h.applyEdits
    split
    · exact h1
    · split
      exacts [h1, .ite h1.holdSweep (ih h1.unholdSweep.modPlast.compact)]

theorem Keeps.flushReports {c} (h : Keeps s₀ s) : Keeps s₀ (s.flushReports c) := by
  unfold State.flushReports
  extract_lets _ s1
  have h1 : Keeps s₀ s1 := h.modPlast.foldl fun _ _ h => h.applyPre
  exact h1.modPlast.foldl fun _ _ h => h.applyPost

theorem Keeps.swapTables {c} (h : Keeps s₀ s) : Keeps s₀ (s.swapTables c) := h.other

theorem Keeps.noteSweepWait {from'} (h : Keeps s₀ s) : Keeps s₀ (s.noteSweepWait from') := by
  unfold State.noteSweepWait
  extract_lets _ s1
  have h1 : Keeps s₀ s1 := h.foldl fun _ _ h => h.bumpBy
  exact .ite h h1.bumpBy.modLearning

theorem Keeps.captureNow {nb} (h : Keeps s₀ s) : Keeps s₀ (s.captureNow nb) := by
  unfold State.captureNow
  extract_lets _ s1 _ s2
  have h1 : Keeps s₀ s1 := h.foldl fun _ _ h => h.flushReports.swapTables
  have h2 : Keeps s₀ s2 := h1.modLearning
  exact h2.setReg.setReg.setReg

theorem Keeps.learnDone {epoch nb others} (h : Keeps s₀ s) : Keeps s₀ (s.learnDone epoch nb others) := by
  unfold State.learnDone
  extract_lets _ _ _ s1
  have h1 : Keeps s₀ s1 := h.modLearning
  exact .ite h1.freeRelease.conclude h1

theorem execCapture_answers {others} (h : Keeps s₀ s) : Answers s₀ (execCapture others s) := by
  unfold execCapture
  split
  · exact .next h
  · extract_lets s0 s1
    have h0 : Keeps s₀ s0 := h.noteSweepWait
    have h1 : Keeps s₀ s1 := h0.foldl fun _ _ h => h.compactSome
    exact .ite (.next h) (.ite (.next h1) (.next h1.captureNow.learnDone))

theorem Keeps.watchNew {c x p} (h : Keeps s₀ s) : Keeps s₀ (s.watchNew c x p) := by
  unfold State.watchNew
  extract_lets _ oldest
  clear_value oldest
  split
  · exact h.modPlast
  · split
    exacts [.ite h.modPlast h.bumpAt, h.bumpAt]

theorem Keeps.watchSynapse {x i wf} (h : Keeps s₀ s) : Keeps s₀ (s.watchSynapse x i wf).2 := by
  unfold State.watchSynapse
  extract_lets
  split
  exacts [.iteSnd h.watchNew h, .iteSnd (.pair h.modPlast) (.iteSnd (.pair h.modPlast) (.iteSnd
    (.pair h.modPlast) h.modPlast.bumpAt))]

theorem Keeps.sweepSynapse {x w i} (h : Keeps s₀ s) : Keeps s₀ (s.sweepSynapse x w i).2 := by
  unfold State.sweepSynapse
  extract_lets _ _ _ _ _ _ _ _ _ r watched
  have hr : Keeps s₀ r.2 := .iteSnd h (.bumpAt (.ite h.bumpAt h))
  have hwatched : Keeps s₀ watched.2 := .iteSnd hr.watchSynapse hr
  exact hwatched

theorem Keeps.recoverWord {c row off} (h : Keeps s₀ s) : Keeps s₀ (s.recoverWord c row off) :=
  h.setWord

theorem Keeps.noteRecover {c row off} (h : Keeps s₀ s) : Keeps s₀ (s.noteRecover c row off) :=
  h.bump.epochEcc

theorem Keeps.sweepWords {x j n} (h : Keeps s₀ s) : Keeps s₀ (s.sweepWords x j n).2 := by
  induction n generalizing s j with
  | zero => exact h
  | succ n ih =>
    unfold State.sweepWords
    extract_lets s0 _ _ a b s1
    have h0 : Keeps s₀ s0 := h.unholdSweep
    have ha : Keeps s₀ a.2 := h0.sweepSynapse
    have hb : Keeps s₀ b.2 := .iteSnd ha.sweepSynapse ha
    have h1 : Keeps s₀ s1 := .ite hb hb.writeRowWord.bumpAt
    exact .iteSnd h (.iteSnd (.pair h.holdSweep.modPlast) (.iteSnd (ih h0.recoverWord.noteRecover) (ih h1)))

theorem Keeps.sproutSome {x k added n} (h : Keeps s₀ s) : Keeps s₀ (s.sproutSome x k added n).2 := by
  induction n generalizing s k added with
  | zero => exact h
  | succ n ih =>
    unfold State.sproutSome
    split
    · exact h
    · split
      · exact h
      · extract_lets _ _ s1
        have h1 : Keeps s₀ s1 := h.modPlast.applyEdits
        exact .iteSnd (ih h) (.iteSnd (ih h.bumpAt) (.iteSnd h1 (ih h1)))

theorem Keeps.setRowPlx {c row x} (h : Keeps s₀ s) : Keeps s₀ (s.setRowPlx c row x) :=
  .ite h.modPlast h.setWord

theorem Keeps.nextRow {c} (h : Keeps s₀ s) : Keeps s₀ (s.nextRow c) := by
  unfold State.nextRow
  extract_lets s1
  have h1 : Keeps s₀ s1 := h.modPlast
  exact .ite h1.peak h1

theorem Keeps.dropFlawed {c row f} (h : Keeps s₀ s) : Keeps s₀ (s.dropFlawed c row f) := by
  unfold State.dropFlawed
  extract_lets s1
  have h1 : Keeps s₀ s1 := h.foldl fun _ _ h => .ite h.modPlast.plasticEcc h
  exact h1.foldl (fun _ _ h => (by split; exacts [h.modPlast.plasticEcc, h]))

theorem Keeps.runSweep {c cur f} (h : Keeps s₀ s) : Keeps s₀ (s.runSweep c cur f) := by
  unfold State.runSweep
  extract_lets s2 _ a _ b _ s1
  have h2 : Keeps s₀ s2 := h.applyEdits
  have ha : Keeps s₀ a.2 := h2.sweepWords
  have hb : Keeps s₀ b.2 := .iteSnd ha.sproutSome ha
  have h1 : Keeps s₀ s1 := hb.setRowPlx
  exact .ite h2 (.ite ha (.ite hb h1.bumpAt.nextRow))

theorem execSweepRow_answers {c f} (h : Keeps s₀ s) : Answers s₀ (execSweepRow c f s) := by
  unfold execSweepRow
  extract_lets
  split
  · exact .next h.dropFlawed.runSweep
  · exact .next h
  · extract_lets _ s1 _ _ _ _ s12
    have h1 : Keeps s₀ s1 := .ite h.modPlast h.setRowPlx
    have h12 : Keeps s₀ s12 := h.modPlast.dropFlawed
    exact .ite (.next h1.plasticEcc.nextRow) (.ite (.next h.nextRow) (.next h12.runSweep))

theorem execSweepEnd_answers (h : Keeps s₀ s) : Answers s₀ (execSweepEnd s) := by
  unfold execSweepEnd
  extract_lets _ s1 s2 s3
  have h1 : Keeps s₀ s1 := h.stage
  have h2 : Keeps s₀ s2 := h1.setReg.peak
  have h3 : Keeps s₀ s3 := h2.foldl fun _ _ h => h.modPlast
  exact .ite (.next h) (.next (.ite h3 h3.hitchNotify))

theorem Keeps.wearPage {p} (h : Keeps s₀ s) : Keeps s₀ (s.wearPage p) := by
  unfold State.wearPage
  extract_lets _ s1
  have h1 : Keeps s₀ s1 := h.modLearning.setReg
  exact .ite h1 h1.modLearning

theorem Keeps.wearPages {l} (h : Keeps s₀ s) : Keeps s₀ (s.wearPages l) :=
  h.foldl fun _ _ h => h.wearPage

theorem Keeps.noteWear (h : Keeps s₀ s) : Keeps s₀ (s.noteWear) := h.other

theorem Keeps.verifyBlock {p v} (h : Keeps s₀ s) : Keeps s₀ (s.verifyBlock p v) := by
  unfold State.verifyBlock
  extract_lets s1
  have h1 : Keeps s₀ s1 := h.bumpBy
  split
  exacts [h, h.bump, .ite h1 h1.modLearning]

theorem Keeps.drainBlock {data v} (h : Keeps s₀ s) : Keeps s₀ (s.drainBlock data v) := by
  unfold State.drainBlock
  extract_lets _ _ s1 s2
  have h1 : Keeps s₀ s1 := h.setBytes
  have h2 : Keeps s₀ s2 := .ite h1.wearPage h1
  exact h2.verifyBlock.modLearning

theorem Keeps.drainLast {n v} (h : Keeps s₀ s) : Keeps s₀ (s.drainLast n v) :=
  h.drainBlock.modLearning.notePending

theorem execJournalDrain_answers {v} (h : Keeps s₀ s) : Answers s₀ (execJournalDrain v s) :=
  .ite (.next h) (.ite (.ite (.next h.modLearning) (.next h)) (.ite (.next h.drainBlock) (.ite
    (.next h.drainBlock.modLearning.notePending) (.ite (.next h.drainLast) (.next h)))))

theorem Keeps.writeSuperblock {state done run} (h : Keeps s₀ s) : Keeps s₀ (s.writeSuperblock state done run) := by
  unfold State.writeSuperblock
  extract_lets
  exact h.setBytes.setBytes.modLearning

theorem Keeps.consolidateRow {c row} (h : Keeps s₀ s) : Keeps s₀ (s.consolidateRow c row) := by
  unfold State.consolidateRow
  extract_lets
  split
  exacts [h, h.setBytes]

theorem execConsolidationBegin_answers {bad} (h : Keeps s₀ s) : Answers s₀ (execConsolidationBegin bad s) := by
  unfold execConsolidationBegin
  extract_lets _ _ _ _ s1 s2 s3 s4
  have h1 : Keeps s₀ s1 := h.setReg.setReg.setReg.modLearning
  have h2 : Keeps s₀ s2 := h1.setReg.writeSuperblock
  have h3 : Keeps s₀ s3 := h2.foldl fun _ _ h => h.consolidateRow
  have h4 : Keeps s₀ s4 := h3.wearPages
  exact .ite (.next h) (.next (h4.foldl (fun _ _ h => .ite h.verifyBlock h)))

theorem Keeps.flushWear (h : Keeps s₀ s) : Keeps s₀ (s.flushWear) :=
  h.foldl fun _ _ h => .ite h.setWord h

theorem execConsolidationEnd_answers {v} (h : Keeps s₀ s) : Answers s₀ (execConsolidationEnd v s) := by
  unfold execConsolidationEnd
  extract_lets _ s1 s2
  have h1 : Keeps s₀ s1 := h.setReg.writeSuperblock.wearPages.flushWear
  have h2 : Keeps s₀ s2 := h1.modLearning
  exact .ite (.next h) (.next h2.bump.peak.verifyBlock)

theorem Keeps.stableDegraded (h : Keeps s₀ s) : Keeps s₀ (s.stableDegraded) :=
  h.setReg.writeSuperblock.modLearning.logFault.emcy

theorem execStablePageRemap_answers {p v} (h : Keeps s₀ s) : Answers s₀ (execStablePageRemap p v s) := by
  unfold execStablePageRemap
  extract_lets _ s0 _ s1 _ s2
  have h0 : Keeps s₀ s0 := h.modLearning
  have h1 : Keeps s₀ s1 := h0.modLearning
  have h2 : Keeps s₀ s2 := h1.setWord.noteWear.wearPage
  exact .ite (.next h) (.ite (.next h0.stableDegraded) (.next h2.setReg.bump.verifyBlock))

theorem Keeps.recoverOne {c row off} (h : Keeps s₀ s) : Keeps s₀ (s.recoverOne c row off) :=
  .ite h.setRowPlx.plasticEcc h.recoverWord.noteRecover

theorem execW8pRecover_answers {c} (h : Keeps s₀ s) : Answers s₀ (execW8pRecover c s) := by
  unfold execW8pRecover
  split
  · exact .next h
  · extract_lets s0
    have h0 : Keeps s₀ s0 := h.modLearning
    split
    exacts [.next h, .next h0.recoverOne.recoverOne]

/-! ### Dictionary -/

theorem Keeps.clearPeak {p} (h : Keeps s₀ s) : Keeps s₀ (s.clearPeak p) := by
  unfold State.clearPeak
  split
  exacts [h, h.setWindow]

theorem Keeps.readObj {o} (h : Keeps s₀ s) : Keeps s₀ (s.readObj o).2 := by
  unfold State.readObj
  extract_lets
  split
  exacts [.ite h.clearPeak h.setReg, h]

theorem Keeps.readPath {p index sub} (h : Keeps s₀ s) : Keeps s₀ (s.readPath p index sub).2.2 := by
  unfold State.readPath
  split
  · exact h
  · split
    · split
      · exact h
      · extract_lets r
        have hr : Keeps s₀ r.2 := h.readObj
        exact .iteThird h hr
    · exact h

theorem Keeps.applyPlain {o v} (h : Keeps s₀ s) : Keeps s₀ (s.applyPlain o v) :=
  .ite h.setReg (.ite h.other (.ite h.writeAtRelease h.setReg))

theorem shadowWrite_offers {index sub v} (h : Keeps s₀ s) : Offers Prod.snd s₀ (s.shadowWrite index sub v) := by
  unfold State.shadowWrite
  extract_lets
  exact .ite (.ite (.some h) (.some (.ite h.other h.other))) (.ite (.ite (.some h) (.some (.ite h.other h.other)))
    (.ite (.ite (.some h) (.some (.ite h.other h.other))) (.ite (.ite (.some h) (.some (.ite h.other h.other))) .none)))

theorem Keeps.writePlain {o v} (h : Keeps s₀ s) : Keeps s₀ (s.writePlain o v).2 := by
  unfold State.writePlain
  split
  · exact h
  · exact h
  · refine .iteSnd h (.iteSnd h (.iteSnd h ?_))
    split
    next r e => exact shadowWrite_offers h r e
    next => exact h.applyPlain

theorem Keeps.persistCommit {v} (h : Keeps s₀ s) : Keeps s₀ (s.persistCommit v).2 :=
  .iteSnd h.other h.other.bump

theorem Keeps.defaultRwp (h : Keeps s₀ s) : Keeps s₀ (s.defaultRwp) := h.other

theorem Keeps.loadEntry {e} (h : Keeps s₀ s) : Keeps s₀ (s.loadEntry e) := by
  unfold State.loadEntry
  split
  exacts [h.bump, .ite h.bump (.ite (.ite h.setReg h) h.bump.logFault)]

theorem Keeps.loadPersisted (h : Keeps s₀ s) : Keeps s₀ (s.loadPersisted) := by
  unfold State.loadPersisted
  split
  exacts [h.defaultRwp, h.defaultRwp.foldl (fun _ _ h => h.loadEntry)]

/-! ### Reset -/

theorem Keeps.wipeAgain {n} (h : Keeps s₀ s) : Keeps s₀ (s.wipeAgain n) := by
  induction n generalizing s with
  | zero => exact h
  | succ n ih => exact ih h.fresh.logFault

theorem Keeps.wipeTack {cause} (h : Keeps s₀ s) : Keeps s₀ (s.wipeTack cause) := by
  unfold State.wipeTack
  extract_lets r s1 _ x
  have hr : Keeps s₀ r.2 := h.fresh
  have h1 : Keeps s₀ s1 := hr.wipeAgain
  have herase : Keeps s₀ { s1 with mem := Memory.erase s1.mem tackBase tackSize } :=
  h1.mem fun hm => Memory.erase_wf hm _ _
  exact (herase.other (t := { s1 with mem := Memory.erase s1.mem tackBase tackSize, security := x })).bump.setReg

theorem Keeps.scramble {lo hi} (h : Keeps s₀ s) : Keeps s₀ (s.scramble lo hi) := by
  unfold State.scramble
  extract_lets s1
  have h1 : Keeps s₀ s1 := .ite h.other h
  exact h1.foldl fun _ _ h => h.fresh.setBytes

theorem Keeps.flushJournal {blocks n} (h : Keeps s₀ s) : Keeps s₀ (s.flushJournal blocks n) := by
  induction n generalizing s blocks with
  | zero => exact h
  | succ n ih =>
    exact .ite (.ite (ih h.modLearning) h) (.ite h (.ite (ih h.drainBlock)
      (.ite (ih h.drainBlock.modLearning.notePending) (ih h.drainLast))))

theorem Keeps.flushStable {blocks} (h : Keeps s₀ s) : Keeps s₀ (s.flushStable blocks) := by
  unfold State.flushStable
  extract_lets _ _ s0 s1
  have h0 : Keeps s₀ s0 := .ite h.wearPage h
  have h1 : Keeps s₀ s1 := .ite h0.flushJournal h
  exact .ite h1 h1.wearPages.flushWear.setReg.modLearning

theorem Keeps.coldStart {cause} (h : Keeps s₀ s) : Keeps s₀ (s.coldStart cause) :=
  (((h.mem (m := s.mem.filter fun c => keptByte c.1) fun hm => Memory.filter_wf _ hm).flog (l := []) (n := 0)
    fun _ => Nat.zero_le _).comb (l := []) fun _ => Nat.zero_le _).other

theorem Keeps.powerOff {cause} (h : Keeps s₀ s) : Keeps s₀ (s.powerOff cause) := by
  unfold State.powerOff
  extract_lets s1
  have h1 : Keeps s₀ s1 := h.coldStart
  exact h1.other

theorem Keeps.offAndRestart {cause} (h : Keeps s₀ s) : Keeps s₀ (s.offAndRestart cause) := by
  unfold State.offAndRestart
  extract_lets s1
  have h1 : Keeps s₀ s1 := h.flushStable.powerOff
  clear_value s1
  exact h1.other

theorem Keeps.dump {trigger} (h : Keeps s₀ s) : Keeps s₀ (s.dump trigger) :=
  .ite h h.setBytes.setReg

theorem Keeps.modUpdate {f} (h : Keeps s₀ s) : Keeps s₀ (s.modUpdate f) := h.other

theorem Keeps.restoreLegacy (h : Keeps s₀ s) : Keeps s₀ (s.restoreLegacy) := by
  unfold State.restoreLegacy
  extract_lets
  split
  · exact h
  · extract_lets _ _ s1
    have h1 : Keeps s₀ s1 := h.other.logFault.loadPersisted
    exact h1.modUpdate

theorem Keeps.wantMicrocode {b} (h : Keeps s₀ s) : Keeps s₀ (s.wantMicrocode b) :=
  .ite h (.ite h.setReg h.modUpdate)

theorem Keeps.rollback (h : Keeps s₀ s) : Keeps s₀ (s.rollback) := by
  unfold State.rollback
  extract_lets _ s1 s2 s3
  have h1 : Keeps s₀ s1 := h.setReg.setReg.setReg
  have h2 : Keeps s₀ s2 := h1.setReg.setReg.bump
  have h3 : Keeps s₀ s3 := h2.logFault.emcy
  exact .ite h h3.modUpdate.restoreLegacy.wantMicrocode

theorem Keeps.endSessions {f} (h : Keeps s₀ s) : Keeps s₀ (s.endSessions f) := h.other

theorem Keeps.saddleRestart {cls st} (h : Keeps s₀ s) : Keeps s₀ (s.saddleRestart cls st) := by
  unfold State.saddleRestart
  extract_lets s1 s2 _ _ _ s3 _ s4
  have h1 : Keeps s₀ s1 := h.dump.logFault.bump
  have h2 : Keeps s₀ s2 := h1.endSessions
  have h3 : Keeps s₀ s3 := h2.other
  have h4 : Keeps s₀ s4 := (h3.bumpBy.foldl (fun _ _ h => h.queueReset)).modUpdate
  exact .ite h4.rollback h4

theorem Keeps.bridleReset (h : Keeps s₀ s) : Keeps s₀ (s.bridleReset) := by
  unfold State.bridleReset
  extract_lets s1
  have h1 : Keeps s₀ s1 := h.flushStable
  exact h1.bump.coldStart.setReg

end Sys2Proof.InvariantProofs
end

section
/-!
PROOFS. The operations of the memories, of the engines and of intake keep the invariant.
-/
namespace Sys2Proof.InvariantProofs
open Sys2Proof Sys2Proof.Machine
set_option Elab.async false

variable {s₀ s : State}

/-! ### Memories -/

theorem Keeps.deny {o m st a n} (h : Keeps s₀ s) : Keeps s₀ (s.deny o m st a n) :=
  h.bumpBy.logFault

theorem Keeps.badAddr {m a n} (h : Keeps s₀ s) : Keeps s₀ (s.badAddr m a n) :=
  h.deny

theorem Keeps.denied {m a n d} (h : Keeps s₀ s) : Keeps s₀ (s.denied m a n d) := by
  unfold State.denied
  extract_lets s1
  have h1 : Keeps s₀ s1 := by unfold s1; split; exacts [h.deny, h]
  exact .ite h1.saddleRestart h1

theorem Keeps.refuseLine {m st a n d seen} (h : Keeps s₀ s) : Keeps s₀ (s.refuseLine m st a n d seen).1 := by
  unfold State.refuseLine
  split
  exacts [h, .iteFst h.bumpBy h.deny]

theorem Keeps.tileRead {c t off n} (h : Keeps s₀ s) : Keeps s₀ (s.tileRead c t off n).2.2 :=
  .iteThird h.bump (.iteThird h h)

theorem Keeps.writeNeuron {c t i v} (h : Keeps s₀ s) : Keeps s₀ (s.writeNeuron c t i v).2 :=
  .iteSnd h.bumpAt h.setNeuron

theorem Keeps.writeTables {c a data} (h : Keeps s₀ s) : Keeps s₀ (s.writeTables c a data).2 :=
  .iteSnd h.bumpAt h.setBytes

theorem Keeps.tileWrite {m c t off data} (h : Keeps s₀ s) : Keeps s₀ (s.tileWrite m c t off data).2 := by
  unfold State.tileWrite
  extract_lets
  split
  · exact h.bump
  · split
    · exact h
    · split
      exacts [.iteSnd h.badAddr h.writeNeuron, h.bumpAt, h.bumpAt, h, h.writeTables, h.setBytes]

theorem Keeps.portRead {m q off n} (h : Keeps s₀ s) : Keeps s₀ (s.portRead m q off n).2.2 :=
  .iteThird h.bump (.iteThird h.bump (.ite h.setQueue h))

theorem Keeps.portWrite {m q off data} (h : Keeps s₀ s) : Keeps s₀ (s.portWrite m q off data) := by
  unfold State.portWrite
  extract_lets
  split
  · exact h.push
  · exact h.consume
  · exact h.seal
  · exact h.post
  · split
    exacts [h.ctrl, h.countRefusal.respond]
  · exact h.queueClear
  · exact h.countRefusal.respond

theorem Keeps.windowConsume {b w n} (h : Keeps s₀ s) : Keeps s₀ (s.windowConsume b w n).2 := by
  unfold State.windowConsume
  extract_lets
  split
  exacts [h.bump, .iteSnd h h.setWindow]

theorem Keeps.windowClear {b w v} (h : Keeps s₀ s) : Keeps s₀ (s.windowClear b w v).2 :=
  .iteSnd h h.setWindow

theorem Keeps.windowPort {m b w off data} (h : Keeps s₀ s) : Keeps s₀ (s.windowPort m b w off data).2 := by
  unfold State.windowPort
  split
  exacts [.iteSnd h.windowConsume h, .iteSnd h.windowClear h, h]

theorem Keeps.windowRead' {b w off n} (h : Keeps s₀ s) : Keeps s₀ (s.windowRead' b w off n).2.2 :=
  .ite h.setWindow h

theorem Keeps.eccRead {m a x} (h : Keeps s₀ s) : Keeps s₀ (s.eccRead m a x).2 := by
  unfold State.eccRead
  extract_lets s1
  have h1 : Keeps s₀ s1 := h.logFault
  split
  exacts [h, h.bump, h.bump, h.other, h, h.bump.logFault, h.bump.logFault, .ite h1 h1.wipeTack.setReg.offAndRestart, h]

theorem Keeps.aliasRead {off n} (h : Keeps s₀ s) : Keeps s₀ (s.aliasRead off n).2.2 := by
  unfold State.aliasRead
  split
  exacts [h.windowRead', h]

theorem Keeps.readRegion {m a n} (h : Keeps s₀ s) : Keeps s₀ (s.readRegion m a n).2.2 := by
  unfold State.readRegion
  split
  exacts [h.portRead, h, h.tileRead, h.windowRead', h.aliasRead, h.aliasRead, h]

theorem Keeps.aliasWrite {set off data} (h : Keeps s₀ s) : Keeps s₀ (s.aliasWrite set off data).2 :=
  .iteSnd h h.setWord.bump

theorem Keeps.noteRowWrite {l} {r : Status × State} (h : Keeps s₀ r.2) : Keeps s₀ (s.noteRowWrite l r).2 :=
  .iteSnd (h.foldl fun _ _ h => h.noteChanged) h

theorem Keeps.writeRegion {m a data} (h : Keeps s₀ s) : Keeps s₀ (s.writeRegion m a data).2 := by
  unfold State.writeRegion
  split
  · exact h.portWrite
  · exact h.bump
  · exact h.tileWrite.noteRowWrite
  · exact h.windowPort
  · exact h.aliasWrite
  · exact h.aliasWrite
  · split
    exacts [h.writeTables, Keeps.noteRowWrite (.pair h.setBytes)]
  · exact h.setBytes

theorem Keeps.accessCheck {m write a n} (h : Keeps s₀ s) : Keeps s₀ (s.accessCheck m write a n).2 := by
  unfold State.accessCheck
  split
  · exact h.badAddr
  · split
    exacts [h.denied, .iteSnd h.badAddr h]

theorem Keeps.busRead {m a n x} (h : Keeps s₀ s) : Keeps s₀ (s.busRead m a n x).2.2 := by
  unfold State.busRead
  extract_lets c r e
  have hc : Keeps s₀ c.2 := h.accessCheck
  have hr : Keeps s₀ r.2.2 := hc.readRegion
  have he : Keeps s₀ e.2 := hr.eccRead
  exact .iteThird hc he

theorem Keeps.busWrite {m a data x} (h : Keeps s₀ s) : Keeps s₀ (s.busWrite m a data x).2 := by
  unfold State.busWrite
  extract_lets c r
  have hc : Keeps s₀ c.2 := h.accessCheck
  have hr : Keeps s₀ r.2 := hc.writeRegion
  split
  · exact hc
  · split
    · split
      exacts [hr.eccRead, hr]
    · exact hr

theorem Keeps.access {m addr acc ecc} (h : Keeps s₀ s) : Keeps s₀ (s.access m addr acc ecc) := by
  unfold State.access
  split
  · extract_lets r
    have hr : Keeps s₀ r.2.2 := h.busRead
    exact hr.respond
  · extract_lets r
    have hr : Keeps s₀ r.2 := h.busWrite
    exact hr.respond

theorem execAddressAccess_answers {m addr acc ecc trip} (h : Keeps s₀ s) :
    Answers s₀ (execAddressAccess m addr acc ecc trip s) := by
  unfold execAddressAccess
  split
  exacts [.next h.bumpBy.access, .next h.bumpBy.respond]

theorem execNeuronWordWrite_answers {m c t i v} (h : Keeps s₀ s) : Answers s₀ (execNeuronWordWrite m c t i v s) := by
  rw [execNeuronWordWrite]
  exact .ite (.next h.respond) (.next h.busWrite.respond)

theorem execRowTableWrite_answers {m addr data} (h : Keeps s₀ s) : Answers s₀ (execRowTableWrite m addr data s) := by
  unfold execRowTableWrite
  extract_lets _ r
  have hr : Keeps s₀ r.2 := h.busWrite
  exact .ite (.next h) (.next hr.respond)

theorem execSetAliasWrite_answers {m addr data} (h : Keeps s₀ s) : Answers s₀ (execSetAliasWrite m addr data s) := by
  unfold execSetAliasWrite
  extract_lets r
  have hr : Keeps s₀ r.2 := h.busWrite
  exact .next hr.respond

theorem execClearAliasWrite_answers {m addr data} (h : Keeps s₀ s) :
    Answers s₀ (execClearAliasWrite m addr data s) := by
  unfold execClearAliasWrite
  extract_lets r
  have hr : Keeps s₀ r.2 := h.busWrite
  exact .next hr.respond

theorem Keeps.setDescriptor {firmware b w v} (h : Keeps s₀ s) : Keeps s₀ (s.setDescriptor firmware b w v).2 := by
  unfold State.setDescriptor
  split
  · exact h
  · split
    · exact h
    · split
      exacts [h, h.setWindow]

theorem execWindowDescriptorWrite_answers {path b w v} (h : Keeps s₀ s) :
    Answers s₀ (execWindowDescriptorWrite path b w v s) :=
  .next (h.writeObject (fun _ h => h.setDescriptor))

theorem execWindowConsume_answers {m b w n} (h : Keeps s₀ s) : Answers s₀ (execWindowConsume m b w n s) := by
  unfold execWindowConsume
  extract_lets r
  have hr : Keeps s₀ r.2 := h.windowPort
  exact .next hr.respond

theorem execWindowClear_answers {m b w v} (h : Keeps s₀ s) : Answers s₀ (execWindowClear m b w v s) := by
  unfold execWindowClear
  extract_lets r
  have hr : Keeps s₀ r.2 := h.windowPort
  exact .next hr.respond

theorem Keeps.bankAnswer {x st data} (h : Keeps s₀ s) : Keeps s₀ (s.bankAnswer x st data) := h.other

theorem Keeps.undefinedWords {x shared} (h : Keeps s₀ s) : Keeps s₀ (s.undefinedWords x shared).2 :=
  .foldlOn Prod.snd h fun _ _ h => .iteSnd (h.fresh (w := 8)) h

theorem Keeps.grantOne {x} (h : Keeps s₀ s) : Keeps s₀ (s.grantOne x) := by
  unfold State.grantOne
  split
  exacts [h.setBytes.bankAnswer, h.bankAnswer]

theorem Keeps.bankCount {o b} (h : Keeps s₀ s) : Keeps s₀ (s.bankCount o b) :=
  .ite h.bumpAt h.bump

theorem Keeps.grantTwo {b x y} (h : Keeps s₀ s) : Keeps s₀ (s.grantTwo b x y) := by
  unfold State.grantTwo
  extract_lets _ r r2
  have hr : Keeps s₀ r.2 := h.undefinedWords
  have hr2 : Keeps s₀ r2.2 := h.undefinedWords
  split
  · exact h.grantOne.grantOne
  · split
    exacts [h.grantOne.grantOne, h.grantOne.bankCount.bankAnswer, hr.grantOne.bankCount.bankAnswer,
      hr2.bankAnswer.bankCount.grantOne]

theorem Keeps.grantAlias {x} (h : Keeps s₀ s) : Keeps s₀ (s.grantAlias x) := by
  unfold State.grantAlias
  split
  exacts [h.aliasWrite.bankAnswer, h]

theorem Keeps.grantCycle {b order} (h : Keeps s₀ s) : Keeps s₀ (s.grantCycle b order).1 := by
  unfold State.grantCycle
  split
  exacts [h.grantTwo, h.grantOne, h]

theorem Keeps.stallRest {b rest again} (h : Keeps s₀ s) : Keeps s₀ (s.stallRest b rest again) := by
  unfold State.stallRest
  extract_lets _ s1
  have h1 : Keeps s₀ s1 := .ite h.bumpByAt.peakAt h.bumpBy.peak
  exact h1.other

theorem Keeps.commonsCycle {b accs} (h : Keeps s₀ s) : Keeps s₀ (s.commonsCycle b accs) := by
  unfold State.commonsCycle
  extract_lets _ _ g
  have hg : Keeps s₀ g.1 := h.grantCycle
  exact hg.stallRest

theorem Keeps.controlCycle {k accs} (h : Keeps s₀ s) : Keeps s₀ (s.controlCycle k accs) := by
  unfold State.controlCycle
  extract_lets _ _ _ _ g s1
  have hg : Keeps s₀ g.1 := h.grantCycle
  have h1 : Keeps s₀ s1 := hg.foldl fun _ _ h => h.grantAlias
  exact h1.stallRest

theorem execCommonsBankGrant_answers {b accs} (h : Keeps s₀ s) : Answers s₀ (execCommonsBankGrant b accs s) :=
  .next (.ite h.commonsCycle h.controlCycle)

theorem execPatrolScrub_answers {line ecc} (h : Keeps s₀ s) : Answers s₀ (execPatrolScrub line ecc s) := by
  unfold execPatrolScrub
  extract_lets _ r
  have hr : Keeps s₀ r := h.eccRead
  exact .ite (.next h) (.next (.ite hr.bump hr))

/-! ### Engines -/

theorem Keeps.refuseAll {m st l} (h : Keeps s₀ s) : Keeps s₀ (s.refuseAll m st l) := by
  unfold State.refuseAll
  extract_lets s1
  have h1 : Keeps s₀ s1 := h.foldl fun _ _ h => h.bumpBy
  split
  exacts [h1, h1.logFault]

theorem Keeps.refuseOperands {m ops} (h : Keeps s₀ s) : Keeps s₀ (s.refuseOperands m ops) :=
  h.refuseAll.refuseAll

theorem Keeps.commandCheck {eng run} (h : Keeps s₀ s) : Keeps s₀ (s.commandCheck eng run).2 := by
  unfold State.commandCheck
  extract_lets
  split
  · exact h
  · split
    · exact h
    · extract_lets
      split
      · exact h
      · split
        · exact h.refuseOperands
        · split
          exacts [.iteSnd h h, h.refuseOperands, .iteSnd h (.iteSnd h (.iteSnd h (.iteSnd h (.iteSnd h h))))]

theorem Keeps.startCommand {eng q} (h : Keeps s₀ s) : Keeps s₀ (s.startCommand eng q) := by
  unfold State.startCommand
  extract_lets _ s0 _ s1 c src _ s2
  have h0 : Keeps s₀ s0 := h.takeHead
  have h1 : Keeps s₀ s1 := h0.setEngine
  have hc : Keeps s₀ c.2 := h1.commandCheck
  have hsrc : Keeps s₀ src := hc
  have h2 : Keeps s₀ s2 := hsrc.other.setEngine
  exact .ite hc.complete (.ite h2.holdRelease h2)

theorem execCommandStart_answers {e x y} (h : Keeps s₀ s) : Answers s₀ (execCommandStart e x y s) := by
  unfold execCommandStart
  extract_lets
  split
  · extract_lets s1
    have h1 : Keeps s₀ s1 := h.queueSoft.queueSoft
    exact .ite (.next h) (.next (.ite h1.pointerReset (.ite h1 h1.startCommand)))
  · exact .next h

theorem execHeldRecordWrite_answers {e} (h : Keeps s₀ s) : Answers s₀ (execHeldRecordWrite e s) := by
  unfold execHeldRecordWrite
  extract_lets
  split
  · exact .next h
  · extract_lets s1
    have h1 : Keeps s₀ s1 := h.setEngine.countHeld
    exact .next h1.putRecord.settleQueue.settleEngine

theorem Keeps.engDrain {eng} (h : Keeps s₀ s) : Keeps s₀ (s.engDrain eng).2 := by
  unfold State.engDrain
  extract_lets
  split
  exacts [h.setEngine.settleEngine, h, h]

theorem Keeps.engAbort {eng} (h : Keeps s₀ s) : Keeps s₀ (s.engAbort eng).2 := by
  unfold State.engAbort
  extract_lets _ _ s1
  have h1 : Keeps s₀ s1 := h.setEngine
  split
  exacts [(h1.foldl (fun _ _ h => h.abortUpTo)).settleEngine, (h1.foldl (fun _ _ h => h.abortUpTo)).settleEngine, h]

theorem Keeps.engEnable {eng} (h : Keeps s₀ s) : Keeps s₀ (s.engEnable eng).2 := by
  unfold State.engEnable
  extract_lets
  split
  exacts [h, h.setEngine]

theorem execEngDrain_answers {path e} (h : Keeps s₀ s) : Answers s₀ (execEngDrain path e s) :=
  .next (h.writeObject (fun _ h => h.engDrain))

theorem execEngAbort_answers {path e} (h : Keeps s₀ s) : Answers s₀ (execEngAbort path e s) :=
  .next (h.writeObject (fun _ h => h.engAbort))

theorem execEngEnable_answers {path e} (h : Keeps s₀ s) : Answers s₀ (execEngEnable path e s) :=
  .next (h.writeObject (fun _ h => h.engEnable))

theorem execQpolicyWrite_answers {path v} (h : Keeps s₀ s) : Answers s₀ (execQpolicyWrite path v s) :=
  .next (h.writeObject (fun _ h => h.qpolicy))

theorem Keeps.fabricDone {st result ext} (h : Keeps s₀ s) : Keeps s₀ (s.fabricDone st result ext) :=
  h.freeRelease.conclude

theorem execStep_answers {others} (h : Keeps s₀ s) : Answers s₀ (execStep others s) := by
  unfold execStep
  extract_lets
  split
  exacts [.next h, .ite (.next h.conclude) (.ite (.next h.conclude) (.next h.setEngine.modFabric))]

theorem execGait_answers (h : Keeps s₀ s) : Answers s₀ (execGait s) := by
  unfold execGait
  split
  exacts [.next h, .ite (.next h.conclude) (.next h.modFabric.conclude)]

theorem execLearnEpoch_answers (h : Keeps s₀ s) : Answers s₀ (execLearnEpoch s) := by
  unfold execLearnEpoch
  split
  exacts [.next h, .ite (.next h.endEpoch) (.next h)]

theorem Keeps.dropFetches {mask} (h : Keeps s₀ s) : Keeps s₀ (s.dropFetches mask) := h.other

theorem Keeps.invalidateFar {mask} (h : Keeps s₀ s) : Keeps s₀ (s.invalidateFar mask) :=
  h.dropFetches.foldl fun _ _ h => .ite h.setStore h

theorem execFrcInvalidate_answers (h : Keeps s₀ s) : Answers s₀ (execFrcInvalidate s) := by
  unfold execFrcInvalidate
  split
  exacts [.next h, .ite (.next h) (.next h.invalidateFar.freeRelease.conclude)]

theorem Keeps.seqStop {c mcause mepc} (h : Keeps s₀ s) : Keeps s₀ (s.seqStop c mcause mepc) :=
  .ite h.setReg.wakeSeq.bump.logFault h

theorem Keeps.seqRead {c k} (h : Keeps s₀ s) : Keeps s₀ (s.seqRead c k).2 := by
  unfold State.seqRead
  extract_lets
  split
  · split
    exacts [h, h.setRouter]
  · exact h
  · exact h
  · exact h

theorem execDoorbellRead_answers {c x} (h : Keeps s₀ s) : Answers s₀ (execDoorbellRead c x s) := by
  unfold execDoorbellRead
  split
  · exact .next h
  · split
    exacts [.next h.seqRead.respond, .next h.seqStop, .next (.ite h.other h)]

theorem execSeqException_answers {c x} (h : Keeps s₀ s) : Answers s₀ (execSeqException c x s) := by
  unfold execSeqException
  split
  exacts [.next h.seqStop, .next (.ite h h.seqStop), .next (.ite h h.seqStop)]

/-! ### Dense -/

theorem Keeps.valueOr {w x} (h : Keeps s₀ s) : Keeps s₀ (s.valueOr w x).2 := by
  unfold State.valueOr
  split
  exacts [h, h.fresh]

theorem Keeps.storeElement {p i j} (h : Keeps s₀ s) : Keeps s₀ (s.storeElement p i j) := by
  unfold State.storeElement
  extract_lets _ _ r _ _ r2 r3
  have hr : Keeps s₀ r.2 := h.valueOr
  have hr2 : Keeps s₀ r2.2 := h.valueOr
  have hr3 : Keeps s₀ r3.2 := h.valueOr
  split
  exacts [hr.setWord, hr2.setWord, hr3.setWord]

theorem injectCentre_offers {injector n ev} (h : Keeps s₀ s) : Offers id s₀ (s.injectCentre injector n ev) :=
  .ite .none (.some h.centrePort.setInput.countStreamSent)

theorem Keeps.injectDense {l} (h : Keeps s₀ s) : Keeps s₀ (s.injectDense l) := by
  induction l generalizing s with
  | nil => exact h.other
  | cons ev l ih =>
    unfold State.injectDense
    extract_lets _ stay
    have hstay : Keeps s₀ stay := h.other
    split
    · exact hstay
    · split
      · exact ih h.other
      · split
        next => exact hstay
        next t e => exact ih (Keeps.other (injectCentre_offers h t e)).bump

theorem Keeps.emitElement {p i j} (h : Keeps s₀ s) : Keeps s₀ (s.emitElement p i j) := by
  unfold State.emitElement
  extract_lets v src
  have hv : Keeps s₀ v.2 := h.valueOr
  have hsrc : Keeps s₀ src := hv
  split
  exacts [h, hsrc.other]

theorem Keeps.runBlock {p} (h : Keeps s₀ s) : Keeps s₀ (s.runBlock p) := by
  unfold State.runBlock
  extract_lets _ _ s1
  have h1 : Keeps s₀ s1 := h.other
  exact h1.foldl fun _ _ h => .ite h.emitElement h.storeElement

theorem Keeps.endPass {out} (h : Keeps s₀ s) : Keeps s₀ (s.endPass out) :=
  h.conclude

theorem Keeps.settlePass {p} (h : Keeps s₀ s) : Keeps s₀ (s.settlePass p) :=
  .ite h.endPass h

theorem Keeps.runPass {p} (h : Keeps s₀ s) : Keeps s₀ (s.runPass p) := by
  unfold State.runPass
  extract_lets s1
  have h1 : Keeps s₀ s1 := .ite h.runBlock h
  exact .ite h.conclude (.ite h.endPass (.ite h h1.injectDense.settlePass))

theorem execDenseGemm_answers (h : Keeps s₀ s) : Answers s₀ (execDenseGemm s) := by
  unfold execDenseGemm
  split
  exacts [.next h, .ite (.next h.conclude) (.next h.runPass)]

theorem execDenseConv_answers (h : Keeps s₀ s) : Answers s₀ (execDenseConv s) := by
  unfold execDenseConv
  split
  exacts [.next h, .ite (.next h.conclude) (.next h.runPass)]

/-! ### Mover -/

theorem Keeps.lineWords {m a data n ofs} (h : Keeps s₀ s) : Keeps s₀ (s.lineWords m a data n ofs).2 := by
  induction n generalizing s ofs with
  | zero => exact h
  | succ n ih => exact .iteSnd h (.iteSnd (ih h.busWrite) h)

theorem Keeps.moverWrite {m a data} (h : Keeps s₀ s) : Keeps s₀ (s.moverWrite m a data).2 := by
  unfold State.moverWrite
  split
  · rename_i t e
    have ht : Keeps s₀ t := .ofEqSnd h.lineWords e
    exact ht
  · rename_i snd e
    have hsnd : Keeps s₀ snd := .ofEqSnd h.lineWords e
    exact h.busWrite

theorem Keeps.moverRead {m a n} (h : Keeps s₀ s) : Keeps s₀ (s.moverRead m a n).2 :=
  .foldlOn Prod.snd h (fun _ _ h => h.busRead)

theorem Keeps.movePieces {m src dst bad x l} (h : Keeps s₀ s) : Keeps s₀ (s.movePieces m src dst bad x l).2 := by
  induction l generalizing s x with
  | nil => exact h
  | cons p l ih =>
    unfold State.movePieces
    extract_lets _ isBad r s1 w
    have hr : Keeps s₀ r.2 := .iteSnd h.eccRead h.moverRead
    have h1 : Keeps s₀ s1 := .ite hr.logFault hr
    have hw : Keeps s₀ w.2 := h1.moverWrite
    exact .iteSnd (ih hw) hw

theorem Keeps.settleMove {x n} (h : Keeps s₀ s) : Keeps s₀ (s.settleMove x n) :=
  .ite h.conclude h.other

theorem execMove_answers {bad} (h : Keeps s₀ s) : Answers s₀ (execMove bad s) := by
  unfold execMove
  extract_lets
  split
  · exact .next h
  · extract_lets _ _ _ _ _ r
    have hr : Keeps s₀ r.2 := h.movePieces
    exact .ite (.next h.conclude) (.ite (.next h.conclude) (.ite (.next h.settleMove) (.next hr.settleMove)))

theorem Keeps.fillPieces {m dst pattern x l} (h : Keeps s₀ s) : Keeps s₀ (s.fillPieces m dst pattern x l).2 := by
  induction l generalizing s x with
  | nil => exact h
  | cons p l ih => exact .iteSnd (ih h.moverWrite) h.moverWrite

theorem execFill_answers (h : Keeps s₀ s) : Answers s₀ (execFill s) := by
  unfold execFill
  extract_lets
  split
  · exact .next h
  · extract_lets _ _ _ r
    have hr : Keeps s₀ r.2 := h.fillPieces
    exact .ite (.next h.conclude) (.ite (.next h.settleMove) (.next hr.settleMove))

theorem execGroupDef_answers (h : Keeps s₀ s) : Answers s₀ (execGroupDef s) := by
  unfold execGroupDef
  split
  exacts [.next h, .ite (.next h.conclude) (.next h.other.conclude)]

theorem execGroupClear_answers (h : Keeps s₀ s) : Answers s₀ (execGroupClear s) := by
  unfold execGroupClear
  split
  exacts [.next h, .next h.other.conclude]

theorem execTilestat_answers (h : Keeps s₀ s) : Answers s₀ (execTilestat s) := by
  unfold execTilestat
  extract_lets
  split
  exacts [.next h, .next h.setBytes.bump.conclude]

/-! ### Crypto -/

theorem execGcmSeal_answers (h : Keeps s₀ s) : Answers s₀ (execGcmSeal s) := by
  unfold execGcmSeal
  extract_lets iv
  have hiv : Keeps s₀ iv.2 := h.fresh
  split
  · exact .next h
  · extract_lets
    split
    exacts [.next h.conclude, .next hiv.setBytes.conclude]

theorem execGcmOpen_answers (h : Keeps s₀ s) : Answers s₀ (execGcmOpen s) := by
  unfold execGcmOpen
  split
  · exact .next h
  · extract_lets
    split
    · exact .next h.conclude
    · split
      exacts [.next h.conclude, .next h.setBytes.conclude]

theorem execSha384_answers (h : Keeps s₀ s) : Answers s₀ (execSha384 s) := by
  unfold execSha384
  split
  exacts [.next h, .ite (.next h.conclude) (.next h.setBytes.conclude)]

theorem execEcdsaSign_answers (h : Keeps s₀ s) : Answers s₀ (execEcdsaSign s) := by
  unfold execEcdsaSign
  extract_lets k
  have hk : Keeps s₀ k.2 := h.fresh
  split
  · exact .next h
  · extract_lets
    split
    exacts [.next h.conclude, .next hk.setBytes.conclude]

theorem execEcdsaVerify_answers (h : Keeps s₀ s) : Answers s₀ (execEcdsaVerify s) := by
  unfold execEcdsaVerify
  split
  exacts [.next h, .next h.conclude]

theorem Keeps.rekeyed {held key lo hi} (h : Keeps s₀ s) : Keeps s₀ (s.rekeyed held key lo hi) := by
  unfold State.rekeyed
  split <;> exact .ite h h.scramble

theorem Keeps.installXts {owner key} (h : Keeps s₀ s) : Keeps s₀ (s.installXts owner key) := by
  unfold State.installXts
  extract_lets s1 _ s12
  have h1 : Keeps s₀ s1 := h.rekeyed
  have h12 : Keeps s₀ s12 := h.rekeyed
  exact .ite h1.other h12.other

theorem execXtsKeyset_answers (h : Keeps s₀ s) : Answers s₀ (execXtsKeyset s) := by
  unfold execXtsKeyset
  split
  · exact .next h
  · extract_lets
    split
    exacts [.next h.conclude, .next h.installXts.conclude]

theorem Keeps.sealFail {o} (h : Keeps s₀ s) : Keeps s₀ (s.sealFail o) :=
  h.bump.logFault

theorem Keeps.openEnvelope {img len accept} (h : Keeps s₀ s) : Keeps s₀ (s.openEnvelope img len accept).2 := by
  unfold State.openEnvelope
  extract_lets c clen clean r
  have hclean : ∀ {s}, Keeps s₀ s → Keeps s₀ (clean s) := fun h => h.mem fun hm => Memory.erase_wf hm _ _
  split
  · exact hclean h.sealFail.scramble
  · split
    exacts [hclean h.sealFail.scramble, hclean h.setBytes]

/-! ### Image -/

theorem Keeps.setSubs {index sub l} (h : Keeps s₀ s) : Keeps s₀ (s.setSubs index sub l) := by
  induction l generalizing s sub with
  | nil => exact h
  | cons v l ih =>
    unfold State.setSubs
    refine ih ?_
    split
    exacts [h.setReg, h]

theorem Keeps.placeClass {x} (h : Keeps s₀ s) : Keeps s₀ (s.placeClass x) := by
  unfold State.placeClass
  extract_lets s1
  have h1 : Keeps s₀ s1 := h.setSubs
  exact h1.other

theorem Keeps.placeTile {c t x place step} (h : Keeps s₀ s) : Keeps s₀ (s.placeTile c t x place step) := by
  unfold State.placeTile
  extract_lets _ _ s1 _ _ s2 _ _ s3 s4
  have h1 : Keeps s₀ s1 := h.setTile
  have h2 : Keeps s₀ s2 := h1.other
  have h3 : Keeps s₀ s3 := h2.foldl fun _ _ h => h.setNeuron.setWord
  have h4 : Keeps s₀ s4 := h3.foldl fun _ _ h => h.setBytes.setBytes
  exact h4.setTile

theorem Keeps.placeFarDirectory {c t part l place} (h : Keeps s₀ s) : Keeps s₀ (s.placeFarDirectory c t part l place) :=
  h.setTile.setBytes

theorem Keeps.placeHitch {r} (h : Keeps s₀ s) : Keeps s₀ (s.placeHitch r) := h.other

theorem Keeps.placeParam {p} (h : Keeps s₀ s) : Keeps s₀ (s.placeParam p) := by
  unfold State.placeParam
  split
  · split
    exacts [h.setWindow, h]
  · split
    exacts [h.setReg, h]

theorem Keeps.placeSection {img step x} (h : Keeps s₀ s) : Keeps s₀ (s.placeSection img step x) := by
  unfold State.placeSection
  extract_lets
  split
  · extract_lets s1
    have h1 : Keeps s₀ s1 := h.foldl fun _ _ h => h.placeClass
    exact .ite h1.other h1
  · exact h.placeTile
  · exact h.setBytes.modLearning
  · exact h.placeFarDirectory
  · exact h.other
  · exact h.other
  · exact h.other
  · exact h.modLearning
  · exact h.foldl fun _ _ h => h.placeParam
  · exact h.setBytes
  · exact h.other
  · exact h.foldl fun _ _ h => h.setQueue
  · exact h.foldl fun _ _ h => h.placeHitch
  · exact h

theorem Keeps.placeSections {img step l} (h : Keeps s₀ s) : Keeps s₀ (s.placeSections img step l) :=
  h.foldl fun _ _ h => h.placeSection

theorem Keeps.keepSram (h : Keeps s₀ s) : Keeps s₀ (s.keepSram) :=
  h.foldl (fun _ _ h => h.setBytes.foldl (fun _ _ h => h.setBytes))

theorem Keeps.noHarness (h : Keeps s₀ s) : Keeps s₀ (s.noHarness) := by
  unfold State.noHarness
  extract_lets src
  have hsrc : Keeps s₀ src := h.keepSram
  exact hsrc.other

/-! ### Harness -/

theorem Keeps.replayWord {w} (h : Keeps s₀ s) : Keeps s₀ (s.replayWord w) := by
  unfold State.replayWord
  split
  exacts [h.setWord.noteChanged, h]

theorem Keeps.rebuildRows (h : Keeps s₀ s) : Keeps s₀ (s.rebuildRows) := by
  unfold State.rebuildRows
  extract_lets copied
  have hcopied : Keeps s₀ copied := h.foldl fun _ _ h => h.setBytes
  exact hcopied.foldl fun _ _ h => h.replayWord

theorem Keeps.withImage {img x} (h : Keeps s₀ s) : Keeps s₀ (s.withImage img x) := by
  unfold State.withImage
  extract_lets _ src s1 s2
  have hsrc : Keeps s₀ src := h.noHarness
  have h1 : Keeps s₀ s1 := hsrc.other
  have h2 : Keeps s₀ s2 := h1.placeSections
  exact h2.other

theorem Keeps.loadFailed {f} (h : Keeps s₀ s) : Keeps s₀ (s.loadFailed f) :=
  h.bump.setReg.logFault

theorem Keeps.startHarness {meas fresh} (h : Keeps s₀ s) : Keeps s₀ (s.startHarness meas fresh) := by
  unfold State.startHarness
  extract_lets s1 _ s2 _ s3 s4
  have h1 : Keeps s₀ s1 := h.other
  have h2 : Keeps s₀ s2 := h1.setReg.modLearning
  have h3 : Keeps s₀ s3 := .ite h2.rebuildRows h2.modLearning
  have h4 : Keeps s₀ s4 := h3.modTether
  exact h4.setReg.setReg

theorem checkImage_keeps {img x t} (h : Keeps s₀ s) (e : s.checkImage img x = .inr t) : Keeps s₀ t := by
  unfold State.checkImage at e
  extract_lets own base at e
  split at e
  · cases e
  · split at e
    · cases e
    · rw [← Sum.inr.inj e]
      exact h.withImage

theorem execHarnessLoad_answers (h : Keeps s₀ s) : Answers s₀ (execHarnessLoad s) := by
  unfold execHarnessLoad
  split
  · exact .next h
  · extract_lets f ms failed o opened
    have hfailed : ∀ {s x}, Keeps s₀ s → Answers s₀ (.next (failed s x)) := fun h => .next h.loadFailed.setReg.conclude
    have ho : Keeps s₀ o.2 := h.openEnvelope
    have hopened : Keeps s₀ opened := ho.setReg
    split
    · exact hfailed h
    · refine .ite (.next h) (.ite (hfailed ho) ?_)
      split
      next => exact hfailed hopened
      next t e => exact .next (checkImage_keeps hopened e).startHarness.setReg.setReg.conclude

/-! ### Checkpoint -/

theorem perform_answers {op f p} (h : Keeps s₀ s) (hf : ∀ x0 s, Keeps s₀ s → Keeps s₀ (f x0 s).state) :
    Answers s₀ (s.perform op f p) := by
  unfold State.perform
  split
  · split
    · exact .next h
    · extract_lets r
      have hr : Keeps s₀ r.state := hf _ _ h
      exact .ite (.next h) (.next hr.fabricDone)
  · extract_lets r
    have hr : Keeps s₀ r.state := hf _ _ h
    exact .ite (.next h) (.ite (.next h.emit) (.next hr.emit))

theorem Keeps.writeCheckpoint {cmd} (h : Keeps s₀ s) : Keeps s₀ (State.writeCheckpoint cmd s).state :=
  .iteState h.setBytes h.setBytes

theorem execCheckpoint_answers {p} (h : Keeps s₀ s) : Answers s₀ (execCheckpoint p s) :=
  perform_answers h (fun _ _ h => h.writeCheckpoint)

theorem Keeps.restoreStore {c t d data} (h : Keeps s₀ s) : Keeps s₀ (s.restoreStore c t d data) := by
  unfold State.restoreStore
  extract_lets _ _ s1
  have h1 : Keeps s₀ s1 := h.foldl fun _ _ h => h.setNeuron
  exact h1.setTile

theorem Keeps.restoreRing {c t d data} (h : Keeps s₀ s) : Keeps s₀ (s.restoreRing c t d data) := h.other

theorem Keeps.restoreSpill {c d data} (h : Keeps s₀ s) : Keeps s₀ (s.restoreSpill c d data) := by
  unfold State.restoreSpill
  extract_lets _ _ _ _ s1 _ s2
  have h1 : Keeps s₀ s1 := h.other
  have h2 : Keeps s₀ s2 := h1.setStore
  exact h2.foldl fun _ _ h => h.layRegion

theorem Keeps.restoreRows {d l data} (h : Keeps s₀ s) : Keeps s₀ (s.restoreRows d l data) := by
  induction l generalizing s data with
  | nil => exact h
  | cons r l ih => exact ih (.ite h.setBytes.noteChanged h.setBytes.noteChanged.setWord)

theorem Keeps.restoreSection {d ty clu tile data} (h : Keeps s₀ s) :
    Keeps s₀ (s.restoreSection d ty clu tile data) := by
  unfold State.restoreSection
  split
  exacts [h.restoreStore, h.restoreRing, h.restoreRows, h.restoreSpill, h.restoreRows, h]

theorem Keeps.restoreAll {src d} (h : Keeps s₀ s) : Keeps s₀ (s.restoreAll src d) :=
  h.foldl fun _ _ h => h.restoreSection

theorem Keeps.readCheckpoint {cmd} (h : Keeps s₀ s) : Keeps s₀ (State.readCheckpoint cmd s).state := by
  unfold State.readCheckpoint
  extract_lets _ _ _ s1
  have h1 : Keeps s₀ s1 := h.restoreAll.modLearning
  split
  exacts [h, .performed h1.invalidateFar]

theorem execRestore_answers {p} (h : Keeps s₀ s) : Answers s₀ (execRestore p s) :=
  perform_answers h (fun _ _ h => h.readCheckpoint)

theorem Keeps.rewriteSegment {cmd} (h : Keeps s₀ s) : Keeps s₀ (State.rewriteSegment cmd s).state := by
  unfold State.rewriteSegment
  extract_lets _ _ s1
  have h1 : Keeps s₀ s1 := h.placeSections.setReg
  exact .iteState h (.performed h1.invalidateFar)

theorem execLoadSegment_answers {p} (h : Keeps s₀ s) : Answers s₀ (execLoadSegment p s) :=
  perform_answers h (fun _ _ h => h.rewriteSegment)

/-! ### Intake -/

theorem Keeps.sendPause {p quanta} (h : Keeps s₀ s) : Keeps s₀ (s.sendPause p quanta) := by
  unfold State.sendPause
  extract_lets _ _ s1
  have h1 : Keeps s₀ s1 := h.emit
  exact .ite h h1.setPort

theorem Keeps.reinDrive {p} (h : Keeps s₀ s) : Keeps s₀ (s.reinDrive p) := by
  unfold State.reinDrive
  extract_lets _ s2
  have h2 : Keeps s₀ s2 := .ite h.setBit h
  exact .ite h2 h2.setReg.wantTpdo.sendPause

theorem Keeps.reinAssert {p} (h : Keeps s₀ s) : Keeps s₀ (s.reinAssert p) :=
  .ite h.setPort.bump.reinDrive h

theorem execReinRelease_answers {p} (h : Keeps s₀ s) : Answers s₀ (execReinRelease p s) :=
  .ite (.next h.setPort.bumpBy.reinDrive) (.next h)

theorem execPauseRepeat_answers {e} (h : Keeps s₀ s) : Answers s₀ (execPauseRepeat e s) :=
  .ite (.next h.sendPause) (.next h)

theorem execReinPinFault_answers {p} (h : Keeps s₀ s) : Answers s₀ (execReinPinFault p s) :=
  .next h.setBit.bump.logFault

theorem execEthLinkUpChange_answers {e up} (h : Keeps s₀ s) : Answers s₀ (execEthLinkUpChange e up s) :=
  .next h.setReg

theorem Keeps.skidDrop {p n} (h : Keeps s₀ s) : Keeps s₀ (s.skidDrop p n) := by
  unfold State.skidDrop
  extract_lets s1 s2
  have h1 : Keeps s₀ s1 := h.bumpBy
  have h2 : Keeps s₀ s2 := h1.logGated.stepStatus
  exact .ite h2 h2.gate.emcy

theorem Keeps.appendBatches {p l} (h : Keeps s₀ s) : Keeps s₀ (s.appendBatches p l).2 := by
  induction l generalizing s with
  | nil => exact h
  | cons b l ih =>
    unfold State.appendBatches
    extract_lets r x
    have hr : Keeps s₀ r.2 := by
      unfold r
      split
      exacts [h.windowAppend, h]
    split
    exacts [ih hr.bumpBy.reinAssert, ih hr.skidDrop]

theorem Keeps.takeEvents {p sender l} (h : Keeps s₀ s) : Keeps s₀ (s.takeEvents p sender l) := by
  unfold State.takeEvents
  extract_lets _ s1 r
  have h1 : Keeps s₀ s1 := h.setPort.bumpBy
  have hr : Keeps s₀ r.2 := h1.appendBatches
  exact .ite hr.bump hr

theorem Keeps.rxError {kind p} (h : Keeps s₀ s) : Keeps s₀ (s.rxError kind p) :=
  h.logGated

theorem Keeps.takePacket {p payload} (h : Keeps s₀ s) : Keeps s₀ (s.takePacket p payload) := by
  unfold State.takePacket
  extract_lets
  split
  · extract_lets _ _ _ s1
    have h1 : Keeps s₀ s1 := h.bump.bumpBy.bumpBy.bumpBy
    exact h1.setPort.takeEvents
  · exact h

theorem execCsi2PacketReceive_answers {p hdr crcOk vc dt payload} (h : Keeps s₀ s) :
    Answers s₀ (execCsi2PacketReceive p hdr crcOk vc dt payload s) := by
  unfold execCsi2PacketReceive
  extract_lets _ _ s1
  have h1 : Keeps s₀ s1 := .ite h.bump h
  exact .ite (.next h.bump) (.ite (.next h.bump.rxError) (.ite (.next h1.bump.rxError) (.ite (.next h1.bump) (.ite
    (.next h1.bump) (.next h1.takePacket)))))

theorem Keeps.noteSequence {p stream seq} (h : Keeps s₀ s) : Keeps s₀ (s.noteSequence p stream seq) := by
  unfold State.noteSequence
  extract_lets _ s1
  have h1 : Keeps s₀ s1 := h.setPort
  split
  exacts [.ite h.setPort h, .ite h1 (.ite h1.bumpBy h.bump)]

theorem Keeps.takePause {p body} (h : Keeps s₀ s) : Keeps s₀ (s.takePause p body) :=
  .ite h.setPort.releaseTx (.ite h.setPort.releaseTx h)

theorem Keeps.takeEventFrame {p len body} (h : Keeps s₀ s) : Keeps s₀ (s.takeEventFrame p len body) := by
  unfold State.takeEventFrame
  extract_lets _ _ s1
  have h1 : Keeps s₀ s1 := h.bump.bumpBy.noteSequence
  exact .ite h.bump h1.takeEvents

theorem Keeps.takeParsed {p graph frame len} (h : Keeps s₀ s) : Keeps s₀ (s.takeParsed p graph frame len) := by
  unfold State.takeParsed
  extract_lets s1
  have h1 : Keeps s₀ s1 := h.bump.bumpBy
  split
  · exact h1.bump
  · split
    exacts [h1.bump.takeEvents, h1.takeEvents]

theorem execEthFrameReceive_answers {e fcsOk frame} (h : Keeps s₀ s) :
    Answers s₀ (execEthFrameReceive e fcsOk frame s) := by
  unfold execEthFrameReceive
  extract_lets
  split
  · exact .next h.bump
  · split
    · exact .next h.bump.rxError
    · split
      · exact .next h.bump.rxError
      · split
        · exact .next h.bump
        · split
          · exact .next h.bump.takePause
          · split
            · exact .next h.bump
            · split
              · exact .next h.bump
              · split
                · exact .next h.takeEventFrame
                · split
                  exacts [.next h.takeParsed, .next h.bump]

theorem Keeps.skidConsume {p nev bw} (h : Keeps s₀ s) : Keeps s₀ (s.skidConsume p nev bw) := h.other

theorem Keeps.injectSome {p n closed k} (h : Keeps s₀ s) : Keeps s₀ (s.injectSome p n closed k) := by
  induction k generalizing s with
  | zero => exact h
  | succ k ih =>
    unfold State.injectSome
    split
    · split
      · exact h
      · extract_lets x ev ok
        split
        · exact h
        next s1 e =>
          extract_lets s2 s3 _ s4
          have h1 : Keeps s₀ s1 := Offers.ite (g := id) (injectCentre_offers h) (.some h.bump) s1 e
          have h2 : Keeps s₀ s2 := .ite h1.bump h1
          have h3 : Keeps s₀ s3 := .ite h2.bump h2
          have h4 : Keeps s₀ s4 := .ite h3.skidConsume h3.setPort
          exact ih h4
    · exact h

theorem execIntakeInject_answers {p} (h : Keeps s₀ s) : Answers s₀ (execIntakeInject p s) := by
  unfold execIntakeInject
  extract_lets _ s1
  have h1 : Keeps s₀ s1 := h.injectSome
  exact .ite (.next h) (.ite (.next (.ite h.injectSome h)) (.ite (.ite (.next h1) (.next h1.modFabric)) (.next h)))

theorem Keeps.discardSkid {p} (h : Keeps s₀ s) : Keeps s₀ (s.discardSkid p) := by
  unfold State.discardSkid
  extract_lets
  split
  exacts [h, h.bumpBy.setWindow.setPort]

theorem Keeps.disarmNow {p} (h : Keeps s₀ s) : Keeps s₀ (s.disarmNow p) := by
  unfold State.disarmNow
  extract_lets s1
  have h1 : Keeps s₀ s1 := h.discardSkid.setReg
  exact .ite h h1.reinDrive.modFabric

theorem execMapLoad_answers (h : Keeps s₀ s) : Answers s₀ (execMapLoad s) := by
  unfold execMapLoad
  split
  · exact .next h
  · extract_lets
    split
    · exact .next h.conclude
    · split
      exacts [.next (.conclude (.ite h.logFault h)), .next h.setPort.conclude]

theorem execArm_answers (h : Keeps s₀ s) : Answers s₀ (execArm s) := by
  unfold execArm
  split
  · exact .next h
  · extract_lets _ _ _ s1
    have h1 : Keeps s₀ s1 := h.discardSkid
    split
    exacts [.next h.conclude, .ite (.next h.conclude) (.ite (.next h.conclude)
      (.next h1.setPort.setReg.reinDrive.conclude))]

theorem execDisarm_answers (h : Keeps s₀ s) : Answers s₀ (execDisarm s) := by
  unfold execDisarm
  split
  exacts [.next h, .ite (.next h.disarmNow.conclude) (.ite (.next h.setReg.reinDrive) (.next h))]

/-! ### Unload -/

theorem Keeps.abortHarness (h : Keeps s₀ s) : Keeps s₀ (s.abortHarness) :=
  h.foldl fun _ _ h => h.abortQueue

theorem Keeps.unbindQueue {q} (h : Keeps s₀ s) : Keeps s₀ (s.unbindQueue q) := by
  unfold State.unbindQueue
  extract_lets s1
  have h1 : Keeps s₀ s1 := .ite h.bump h.queueReset
  exact h1.other

theorem Keeps.endRuns (h : Keeps s₀ s) : Keeps s₀ (s.endRuns) :=
  h.foldl fun _ _ h => h.endRun

theorem Keeps.noteDirty {l} (h : Keeps s₀ s) : Keeps s₀ (s.noteDirty l) := by
  unfold State.noteDirty
  split
  exacts [h, h.bump.logFault]

theorem Keeps.dropHarness (h : Keeps s₀ s) : Keeps s₀ (s.dropHarness) := by
  unfold State.dropHarness
  extract_lets src _ s1 s2
  have hsrc : Keeps s₀ src := h.noHarness
  have h1 : Keeps s₀ s1 := hsrc.other
  have h2 : Keeps s₀ s2 := h1.clearRegs
  exact h2.setReg.setReg.setReg

theorem Keeps.unloadStop (h : Keeps s₀ s) : Keeps s₀ (s.unloadStop) :=
  (h.setReg.foldl (fun _ _ h => h.disarmNow)).abortHarness

theorem Keeps.unloadEnd (h : Keeps s₀ s) : Keeps s₀ (s.unloadEnd) := by
  unfold State.unloadEnd
  extract_lets s1
  have h1 : Keeps s₀ s1 := h.foldl fun _ _ h => h.unbindQueue
  exact h1.noteDirty.dropHarness.conclude

theorem Keeps.unloadNow (h : Keeps s₀ s) : Keeps s₀ (s.unloadNow) := by
  unfold State.unloadNow
  extract_lets s1
  have h1 : Keeps s₀ s1 := h.unloadStop
  exact .ite h1.unloadEnd h1

theorem execHarnessUnload_answers (h : Keeps s₀ s) : Answers s₀ (execHarnessUnload s) := by
  unfold execHarnessUnload
  extract_lets _ src _ s1
  have hsrc : Keeps s₀ src := h.setReg
  have h1 : Keeps s₀ s1 := hsrc.other
  split
  exacts [.next h, .ite (.next (.ite h.unloadNow h)) (.ite (.next h.conclude) (.next
    (.ite h1.abortHarness.endRuns h1)))]

end Sys2Proof.InvariantProofs
end

section
/-!
PROOFS. The operations of links, timers, power, the host, security, bring-up, firmware and faults keep the invariant.
-/
namespace Sys2Proof.InvariantProofs
open Sys2Proof Sys2Proof.Machine
set_option Elab.async false

variable {s₀ s : State}

/-! ### Lanes -/

theorem Keeps.sendSets {l ost width n lanes} (h : Keeps s₀ s) : Keeps s₀ (s.sendSets l ost width n lanes) := h.other

/-! ### Links -/

theorem Keeps.setLink {l x} (h : Keeps s₀ s) : Keeps s₀ (s.setLink l x) := h.other

theorem Keeps.modLink {l f} (h : Keeps s₀ s) : Keeps s₀ (s.modLink l f) := h.other

theorem Keeps.setLinkState {l v} (h : Keeps s₀ s) : Keeps s₀ (s.setLinkState l v) := h.other

theorem Keeps.latchShape (h : Keeps s₀ s) : Keeps s₀ (s.latchShape) := by
  unfold State.latchShape
  extract_lets _ s1
  have h1 : Keeps s₀ s1 := h.modTether
  exact h1.foldl (fun _ _ h => .ite h.setReg.setReg.setLinkState (.ite h.setReg.setReg.setLinkState.setReg
    h.setReg.setReg))

theorem Keeps.accrueHold {l} (h : Keeps s₀ s) : Keeps s₀ (s.accrueHold l) := by
  unfold State.accrueHold
  extract_lets _ s1
  have h1 : Keeps s₀ s1 := by unfold s1; split; exacts [h.bumpByAt, h]
  exact h1.modLink

theorem Keeps.beginTraining {l fast fresh} (h : Keeps s₀ s) : Keeps s₀ (s.beginTraining l fast fresh) :=
  h.accrueHold.setLinkState.modLink

theorem Keeps.linkDown {l} (h : Keeps s₀ s) : Keeps s₀ (s.linkDown l) := by
  unfold State.linkDown
  extract_lets s1
  have h1 : Keeps s₀ s1 := h.accrueHold.setLinkState.setReg.setReg.setReg
  exact h1.setReg.setReg.modLink

theorem Keeps.refuseLink {l cause t} (h : Keeps s₀ s) : Keeps s₀ (s.refuseLink l cause t) :=
  h.setLinkState.setReg.modLink.logFault

theorem Keeps.trainConfig {l got t} (h : Keeps s₀ s) : Keeps s₀ (s.trainConfig l got t) := by
  unfold State.trainConfig
  extract_lets _ _ _ _ s1
  have h1 : Keeps s₀ s1 := h.setReg.setReg
  split
  · exact h.refuseLink
  · split
    · exact h.refuseLink
    · extract_lets s2
      have h2 : Keeps s₀ s2 := h1.setReg.setReg.setReg.setReg.modLink
      exact .ite h.refuseLink (.ite h.refuseLink (.ite h h2.sendSets))

theorem Keeps.settleRx {l} (h : Keeps s₀ s) : Keeps s₀ (s.settleRx l) := h.other

theorem Keeps.putFlit {l ftype seq cls payload} (h : Keeps s₀ s) : Keeps s₀ (s.putFlit l ftype seq cls payload) := by
  unfold State.putFlit
  extract_lets s2
  have h2 : Keeps s₀ s2 := h.settleRx
  exact h2.emit.emit.setLink

theorem Keeps.sendLinkFlit {l} (h : Keeps s₀ s) : Keeps s₀ (s.sendLinkFlit l) :=
  h.putFlit

theorem Keeps.sendFlit {l ftype cls payload} (h : Keeps s₀ s) : Keeps s₀ (s.sendFlit l ftype cls payload) :=
  h.setLink.putFlit.bumpAt

theorem Keeps.linkRises {l} (h : Keeps s₀ s) : Keeps s₀ (s.linkRises l) := by
  unfold State.linkRises
  extract_lets _ _ _ _ s1 s2
  have h1 : Keeps s₀ s1 := h.accrueHold.setLinkState.setReg
  have h2 : Keeps s₀ s2 := h1.setLink.accrueHold
  exact .ite h2 h2.sendLinkFlit

theorem Keeps.enterPhase {l p} (h : Keeps s₀ s) : Keeps s₀ (s.enterPhase l p) := h.other

theorem Keeps.trainBlockLock {l live lanes} (h : Keeps s₀ s) : Keeps s₀ (s.trainBlockLock l live lanes) :=
  .ite h h.setReg.enterPhase.sendSets

theorem Keeps.trainAgree {l lanes} (h : Keeps s₀ s) : Keeps s₀ (s.trainAgree l lanes) :=
  .ite h.emit.setLink.enterPhase h

theorem Keeps.trainLock {l lanes} (h : Keeps s₀ s) : Keeps s₀ (s.trainLock l lanes) :=
  .ite h.setLink.linkRises h.setLink

theorem execTrainingStateAdvance_answers {l signal lanes} (h : Keeps s₀ s) :
    Answers s₀ (execTrainingStateAdvance l signal lanes s) := by
  unfold execTrainingStateAdvance
  extract_lets _ live got
  clear_value got
  refine .ite (.next h) ?_
  split
  · exact .next (.ite h h.enterPhase)
  · exact .next h.enterPhase
  · exact .next h.trainBlockLock
  · split
    exacts [.next h, .next h.trainConfig]
  · exact .next h.trainAgree
  · exact .next h.trainLock

theorem execTrainingTimeout_answers {l} (h : Keeps s₀ s) : Answers s₀ (execTrainingTimeout l s) := by
  unfold execTrainingTimeout
  extract_lets _ _ _ s1
  have h1 : Keeps s₀ s1 := h.bumpAt.modLink
  exact .ite (.next h) (.ite (.next h.modLink) (.next (.ite h1.setLinkState.modLink h1)))

theorem execLinkRetryTimer_answers {l} (h : Keeps s₀ s) : Answers s₀ (execLinkRetryTimer l s) :=
  .ite (.next h.beginTraining) (.next h)

theorem Keeps.spreadHitches (h : Keeps s₀ s) : Keeps s₀ (s.spreadHitches) :=
  h.foldl fun s f h => by
    split
    next => exact h
    next l _ =>
      have h1 : Keeps s₀ (s.modLink l fun x => { x with hitch := x.hitch ++ [hitchBody f] }) := h.modLink
      exact .ite h1.other h1.other

theorem Keeps.spreadBroadcasts (h : Keeps s₀ s) : Keeps s₀ (s.spreadBroadcasts) := by
  unfold State.spreadBroadcasts
  extract_lets s1
  have h1 : Keeps s₀ s1 := h.foldl (fun _ _ h => h.foldl (fun _ _ h => h.modLink))
  exact h1.modFabric

theorem Keeps.sendCtrl {reply dst body} (h : Keeps s₀ s) : Keeps s₀ (s.sendCtrl reply dst body) := by
  unfold State.sendCtrl
  split
  exacts [h, h.modLink]

theorem execReduceRecordSend_answers (h : Keeps s₀ s) : Answers s₀ (execReduceRecordSend s) := by
  unfold execReduceRecordSend
  split
  exacts [.next h, .ite (.next h.modLink) (.next h)]

theorem execBroadcastReceive_answers (h : Keeps s₀ s) : Answers s₀ (execBroadcastReceive s) := by
  unfold execBroadcastReceive
  split
  · exact .next h
  · extract_lets s1 s2
    have h1 : Keeps s₀ s1 := h.modTether.modFabric
    have h2 : Keeps s₀ s2 := h1.spreadBroadcasts
    exact .ite (.next (.ite h2.setReg h2)) (.next h2.modFabric)

theorem Keeps.takeEntry {x} (h : Keeps s₀ s) : Keeps s₀ (s.takeEntry x) := h.other

theorem Keeps.sendEvents {l xs} (h : Keeps s₀ s) : Keeps s₀ (s.sendEvents l xs) := by
  unfold State.sendEvents
  extract_lets _ s1
  have h1 : Keeps s₀ s1 := h.foldl fun _ _ h => h.takeEntry
  exact h1.sendFlit.bumpByAt

theorem Keeps.noteStalls {l} (h : Keeps s₀ s) : Keeps s₀ (s.noteStalls l) := h.other

theorem Keeps.stallTime {l} (h : Keeps s₀ s) : Keeps s₀ (s.stallTime l) :=
  .ite h.noteStalls h.noteStalls.bumpAt

theorem Keeps.sendNext {l} (h : Keeps s₀ s) : Keeps s₀ (s.sendNext l) := by
  unfold State.sendNext
  extract_lets _ _ _ s1
  have h1 : Keeps s₀ s1 := h.setLink
  split
  · exact .ite h.setLink.sendFlit h
  · exact .ite h.setLink.sendFlit h
  · exact .ite h.setLink.sendFlit h
  · exact .ite h.setLink.sendFlit h
  · split
    exacts [.ite h1.modLink.sendFlit h.sendLinkFlit, .ite h1.modLink.sendFlit h1.sendEvents, h.sendLinkFlit,
      h1.sendEvents]

theorem Keeps.sendAny {l} (h : Keeps s₀ s) : Keeps s₀ (s.sendAny l) := by
  unfold State.sendAny
  extract_lets
  exact h.setLink.sendNext.modLink

theorem Keeps.resend {l k} (h : Keeps s₀ s) : Keeps s₀ (s.resend l k) := by
  unfold State.resend
  extract_lets _ s1
  have h1 : Keeps s₀ s1 := h.setLink
  split
  exacts [h.setLink, h1.putFlit.bumpAt]

theorem Keeps.noteFull {l} (h : Keeps s₀ s) : Keeps s₀ (s.noteFull l) := by
  unfold State.noteFull
  extract_lets _ s1
  have h1 : Keeps s₀ s1 := by unfold s1; split; exacts [h.bumpByAt, h]
  exact h1.modLink

theorem Keeps.ageGateway {l} (h : Keeps s₀ s) : Keeps s₀ (s.ageGateway l) := h.other

theorem execFlitTransmit_answers {l} (h : Keeps s₀ s) : Answers s₀ (execFlitTransmit l s) := by
  unfold execFlitTransmit
  extract_lets s1
  have h1 : Keeps s₀ s1 := h.spreadBroadcasts.spreadHitches.stallTime.noteFull
  split
  · exact .next h.accrueHold
  · split
    · exact .next h1.sendLinkFlit
    · split
      exacts [.next h1.resend, .ite (.next h1.sendLinkFlit) (.next h1.sendAny.ageGateway)]

theorem execStuckLinkReport_answers {l pool} (h : Keeps s₀ s) : Answers s₀ (execStuckLinkReport l pool s) := by
  unfold execStuckLinkReport
  extract_lets s1
  have h1 : Keeps s₀ s1 := h.noteStalls
  split
  exacts [.ite (.next h1.modLink.bumpAt.logFault) (.next h), .next h]

theorem execAckTimer_answers {l} (h : Keeps s₀ s) : Answers s₀ (execAckTimer l s) :=
  .ite (.next h.sendLinkFlit) (.next h)

theorem Keeps.beginReplay {l} (h : Keeps s₀ s) : Keeps s₀ (s.beginReplay l) :=
  .ite h (.ite h.bumpAt.modLink.beginTraining h.bumpAt.setLink)

theorem execNakReceive_answers {l} (h : Keeps s₀ s) : Answers s₀ (execNakReceive l s) :=
  .ite (.next h.setLink.beginReplay) (.next h)

theorem execReplayTimeout_answers {l} (h : Keeps s₀ s) : Answers s₀ (execReplayTimeout l s) :=
  .ite (.next h.beginReplay) (.next h)

theorem execLaneFault_answers {l lane lost} (h : Keeps s₀ s) : Answers s₀ (execLaneFault l lane lost s) :=
  .ite (.next h) (.next h.setLink.bumpAt.beginTraining)

theorem Keeps.reroute {l} (h : Keeps s₀ s) : Keeps s₀ (s.reroute l) :=
  .ite h (.ite h.armPrepared h.bump.modTether)

theorem Keeps.loseLink {l} (h : Keeps s₀ s) : Keeps s₀ (s.loseLink l) := by
  unfold State.loseLink
  extract_lets s1
  have h1 : Keeps s₀ s1 := h.linkDown.bumpAt.logFault
  exact h1.emcy.reroute.checkHomes

theorem execLinkLoss_answers {l} (h : Keeps s₀ s) : Answers s₀ (execLinkLoss l s) :=
  .ite (.next h.loseLink) (.next h)

theorem Keeps.returnHitch {b} (h : Keeps s₀ s) : Keeps s₀ (s.returnHitch b) := by
  unfold State.returnHitch
  extract_lets
  split
  · exact .ite h.bump h
  · split
    exacts [h.modLink, h]

theorem Keeps.returnFlit {l f} (h : Keeps s₀ s) : Keeps s₀ (s.returnFlit l f) := by
  unfold State.returnFlit
  extract_lets
  split
  · exact h.setOutput
  · split
    exacts [h.modLink, h]
  · split
    exacts [h.modLink, h]
  · exact .ite (h.foldl (fun _ _ h => h.modLink)) (.ite h.returnHitch h)
  · exact h

theorem execLinkReconcile_answers {l peer} (h : Keeps s₀ s) : Answers s₀ (execLinkReconcile l peer s) := by
  unfold execLinkReconcile
  extract_lets _ _ s1
  have h1 : Keeps s₀ s1 := h.setLink
  exact .ite (.next h) (.next (h1.foldl (fun _ _ h => h.returnFlit)))

theorem Keeps.placeTree {parent depth comp below tables gone} (h : Keeps s₀ s) :
    Keeps s₀ (s.placeTree parent depth comp below tables gone) := by
  unfold State.placeTree
  extract_lets _ _ _ _ s1
  have h1 : Keeps s₀ s1 := h.setReg.setReg.setReg
  exact h1.modTether.modFabric

theorem execSpanningTreeBuild_answers {dist below tables gone comp} (h : Keeps s₀ s) :
    Answers s₀ (execSpanningTreeBuild dist below tables gone comp s) := by
  unfold execSpanningTreeBuild
  extract_lets best
  clear_value best
  split <;> exact .next h.placeTree

theorem Keeps.parkLink {l} (h : Keeps s₀ s) : Keeps s₀ (s.parkLink l) := by
  unfold State.parkLink
  extract_lets s1
  have h1 : Keeps s₀ s1 := .ite h h.sendLinkFlit
  exact .ite h h1.sendSets.setLinkState.modLink.accrueHold

theorem execParkReceive_answers {l lanes} (h : Keeps s₀ s) : Answers s₀ (execParkReceive l lanes s) :=
  .ite (.next h.setLinkState.modLink.accrueHold) (.next h)

theorem Keeps.wakeLink {l} (h : Keeps s₀ s) : Keeps s₀ (s.wakeLink l) :=
  h.beginTraining.modLink

theorem execParkedLinkWake_answers {l ts1} (h : Keeps s₀ s) : Answers s₀ (execParkedLinkWake l ts1 s) := by
  unfold execParkedLinkWake
  extract_lets s1
  have h1 : Keeps s₀ s1 := h.spreadBroadcasts.spreadHitches
  exact .ite (.next h1.wakeLink) (.next h)

theorem execParkAllowanceExpiry_answers {l} (h : Keeps s₀ s) : Answers s₀ (execParkAllowanceExpiry l s) := by
  unfold execParkAllowanceExpiry
  split
  exacts [.next h, .ite (.next h.modLink) (.next h)]

theorem Keeps.retrain {l v} (h : Keeps s₀ s) : Keeps s₀ (s.retrain l v).2 := by
  unfold State.retrain
  extract_lets _ _ s1
  have h1 : Keeps s₀ s1 := h.modLink
  split
  · exact h
  · split
    exacts [.ite h.beginTraining (.ite h.wakeLink h.beginTraining), .ite h.beginTraining h.beginTraining,
      .ite h1.beginTraining h1, .ite h h.linkDown, .ite h.wakeLink (.ite h h.beginTraining)]

theorem execRetrainFast_answers {path l} (h : Keeps s₀ s) : Answers s₀ (execRetrainFast path l s) :=
  .next (h.writeObject (fun _ h => h.retrain))

theorem execRetrainFull_answers {path l} (h : Keeps s₀ s) : Answers s₀ (execRetrainFull path l s) :=
  .next (h.writeObject (fun _ h => h.retrain))

theorem execRetrainRestoreLanes_answers {path l} (h : Keeps s₀ s) : Answers s₀ (execRetrainRestoreLanes path l s) :=
  .next (h.writeObject (fun _ h => h.retrain))

theorem execRetrainTakeDown_answers {path l} (h : Keeps s₀ s) : Answers s₀ (execRetrainTakeDown path l s) :=
  .next (h.writeObject (fun _ h => h.retrain))

theorem execRetrainBringUp_answers {path l} (h : Keeps s₀ s) : Answers s₀ (execRetrainBringUp path l s) :=
  .next (h.writeObject (fun _ h => h.retrain))

theorem Keeps.sendSpur {l} (h : Keeps s₀ s) : Keeps s₀ (s.sendSpur l) := by
  unfold State.sendSpur
  extract_lets _ s1
  have h1 : Keeps s₀ s1 := h.sendSets.beginTraining
  exact .ite h h1.modLink

theorem execSpurSend_answers {path l v} (h : Keeps s₀ s) : Answers s₀ (execSpurSend path l v s) :=
  .next (h.writeObject (fun _ h => .iteSnd h.sendSpur h))

/-! ### Timers -/

theorem Keeps.setTimer {k x} (h : Keeps s₀ s) : Keeps s₀ (s.setTimer k x) := h.other

theorem Keeps.setEncoder {c x} (h : Keeps s₀ s) : Keeps s₀ (s.setEncoder c x) := h.other

theorem Keeps.raise {o i} (h : Keeps s₀ s) : Keeps s₀ (s.raise o i) := h.other

theorem execGtTick_answers {k} (h : Keeps s₀ s) : Answers s₀ (execGtTick k s) :=
  .ite (.next h) (.next h.setReg.setTimer)

theorem execGtMatch_answers {k} (h : Keeps s₀ s) : Answers s₀ (execGtMatch k s) := by
  unfold execGtMatch
  extract_lets _ s1 s2 _ s3
  have h1 : Keeps s₀ s1 := h.raise.setTimer
  have h2 : Keeps s₀ s2 := .ite h1.raise h1
  have h3 : Keeps s₀ s3 := .ite h2.setReg h2
  exact .ite (.next h) (.next (.ite h3.hitchNotify h3))

theorem Keeps.copyPreloads {k} (h : Keeps s₀ s) : Keeps s₀ (s.copyPreloads k) := by
  unfold State.copyPreloads
  extract_lets _ s1 s2
  have h1 : Keeps s₀ s1 := .ite h.setReg.setBit h
  have h2 : Keeps s₀ s2 := .ite h1.setReg.setBit h1
  exact h2.setTimer

theorem execGtWrap_answers {k} (h : Keeps s₀ s) : Answers s₀ (execGtWrap k s) :=
  .ite (.next h) (.next h.setTimer.raise.copyPreloads)

theorem Keeps.writePer {k v} (h : Keeps s₀ s) : Keeps s₀ (s.writePer k v).2 :=
  .iteSnd h.setReg h.setTimer.setBit

theorem Keeps.writeCmp {k v} (h : Keeps s₀ s) : Keeps s₀ (s.writeCmp k v).2 :=
  .iteSnd h.setReg.setTimer h.setTimer.setBit

theorem Keeps.writeGctrl {k v} (h : Keeps s₀ s) : Keeps s₀ (s.writeGctrl k v).2 := by
  unfold State.writeGctrl
  extract_lets s1
  have h1 : Keeps s₀ s1 := h.setReg
  exact .iteSnd h (.iteSnd (.ite h1 h1.setTimer) h1.setReg.setTimer)

theorem execTimerPerWrite_answers {path k v} (h : Keeps s₀ s) : Answers s₀ (execTimerPerWrite path k v s) :=
  .next (h.writeObject (fun _ h => h.writePer))

theorem execTimerCmpWrite_answers {path k v} (h : Keeps s₀ s) : Answers s₀ (execTimerCmpWrite path k v s) :=
  .next (h.writeObject (fun _ h => h.writeCmp))

theorem execGctrlWrite_answers {path k v} (h : Keeps s₀ s) : Answers s₀ (execGctrlWrite path k v s) :=
  .next (h.writeObject (fun _ h => h.writeGctrl))

theorem Keeps.landCapture {c cap pos} (h : Keeps s₀ s) : Keeps s₀ (s.landCapture c cap pos) := by
  unfold State.landCapture
  extract_lets _ s1
  have h1 : Keeps s₀ s1 := h.setReg.setBit.setEncoder
  exact .ite h1.hitchNotify h1

theorem Keeps.capture {c cap pos} (h : Keeps s₀ s) : Keeps s₀ (s.capture c cap pos) := by
  unfold State.capture
  extract_lets
  split
  exacts [.ite h.setEncoder.setBit (.ite h.raise.bump h.landCapture), .ite h.raise.bump h.landCapture, h.raise.bump]

theorem Keeps.takeEdge {c rising} (h : Keeps s₀ s) : Keeps s₀ (s.takeEdge c rising) := by
  unfold State.takeEdge
  extract_lets _ _ _ s1 s2
  have h1 : Keeps s₀ s1 := h.setReg
  have h2 : Keeps s₀ s2 := h1.setEncoder
  exact .ite h (.ite h1.setEncoder (.ite h2.capture.raise h2.capture))

theorem Keeps.encEdge {c rising} (h : Keeps s₀ s) : Keeps s₀ (s.encEdge c rising) :=
  .ite h.setEncoder.takeEdge h

theorem execCaptureShadowLand_answers {c} (h : Keeps s₀ s) : Answers s₀ (execCaptureShadowLand c s) := by
  unfold execCaptureShadowLand
  split
  exacts [.next h, .ite (.next h.landCapture) (.next h)]

theorem Keeps.readCap {c} (h : Keeps s₀ s) : Keeps s₀ (s.readCap c).2 := by
  unfold State.readCap
  extract_lets _ s1
  have h1 : Keeps s₀ s1 := h.setReg.setEncoder
  exact .ite h1 h1.setBit

theorem execCapRead_answers {path c} (h : Keeps s₀ s) : Answers s₀ (execCapRead path c s) := by
  unfold execCapRead
  extract_lets r
  have hr : Keeps s₀ r.2 := h.readCap
  split
  exacts [.next hr.respond, .next h.respond]

theorem Keeps.makeUpTimer {k t} (h : Keeps s₀ s) : Keeps s₀ (s.makeUpTimer k t) := by
  unfold State.makeUpTimer
  extract_lets _ _ _ _ _ moved _ _ s1 _ _ _ r s2 s3
  have hmoved : ∀ {s m}, Keeps s₀ s → Keeps s₀ (moved s m) := fun h => .ite h.setReg h
  have h1 : Keeps s₀ s1 := (hmoved h).copyPreloads.raise
  have hr : Keeps s₀ r.2 := .iteSnd (hmoved h).setReg (hmoved h1).setReg
  have h2 : Keeps s₀ s2 := hr.raise.bumpBy
  have h3 : Keeps s₀ s3 := .ite h2.raise h2
  exact .ite hr (.ite h3.hitchNotify h3)

theorem Keeps.makeUpTicks {k} (h : Keeps s₀ s) : Keeps s₀ (s.makeUpTicks k) :=
  h.setTimer.makeUpTimer

theorem execSleepMakeup_answers (h : Keeps s₀ s) : Answers s₀ (execSleepMakeup s) := by
  unfold execSleepMakeup
  extract_lets
  split
  · exact .next h
  · extract_lets _ _ s1
    have h1 : Keeps s₀ s1 := h.other.bump
    exact .ite (.next h) (.next (h1.foldl (fun _ _ h => .ite h.makeUpTicks h)))

theorem Keeps.freezeTimers (h : Keeps s₀ s) : Keeps s₀ (s.freezeTimers) := h.other

/-! ### Power -/

theorem Keeps.modPower {f} (h : Keeps s₀ s) : Keeps s₀ (s.modPower f) := h.other

theorem Keeps.accrueAcct (h : Keeps s₀ s) : Keeps s₀ (s.accrueAcct) := h.other

theorem Keeps.countRefuser {i} (h : Keeps s₀ s) : Keeps s₀ (s.countRefuser i) :=
  .ite h.bump h

theorem Keeps.setPwr {v} (h : Keeps s₀ s) : Keeps s₀ (s.setPwr v) := by
  unfold State.setPwr
  extract_lets s1
  have h1 : Keeps s₀ s1 := h.accrueAcct.setReg
  exact .ite h1.bump h1

theorem Keeps.writeAcctMode {v} (h : Keeps s₀ s) : Keeps s₀ (s.writeAcctMode v).2 := by
  unfold State.writeAcctMode
  extract_lets s1
  have h1 : Keeps s₀ s1 := h.setReg.foldl fun _ _ h => h.setReg
  exact .iteSnd h (.pair h1.modPower)

theorem execAcctModeWrite_answers {path v} (h : Keeps s₀ s) : Answers s₀ (execAcctModeWrite path v s) :=
  .next (h.writeObject (fun _ h => h.writeAcctMode))

theorem Keeps.supplyReport {unit} (h : Keeps s₀ s) : Keeps s₀ (s.supplyReport unit) :=
  .ite h h.logFault.emcy

theorem Keeps.setError {i b} (h : Keeps s₀ s) : Keeps s₀ (s.setError i b) := by
  unfold State.setError
  extract_lets s1
  have h1 : Keeps s₀ s1 := h.setBit
  exact .ite h1.emcy h1

theorem Keeps.turnOn (h : Keeps s₀ s) : Keeps s₀ (s.turnOn) := by
  unfold State.turnOn
  extract_lets _ s1
  have h1 : Keeps s₀ s1 := by
    unfold s1
    split
    exacts [h.other, h]
  exact h1.modPower.setReg

theorem Keeps.feedLost {b} (h : Keeps s₀ s) : Keeps s₀ (s.feedLost b) :=
  .ite h h.setBit.bump.supplyReport

theorem execFeedLost_answers {b mv} (h : Keeps s₀ s) : Answers s₀ (execFeedLost b mv s) :=
  .next h.setReg.feedLost

theorem execFeedReversed_answers {b} (h : Keeps s₀ s) : Answers s₀ (execFeedReversed b s) := by
  unfold execFeedReversed
  extract_lets _ s1
  have h1 : Keeps s₀ s1 := h.feedLost
  exact .next (.ite h1 h1.setBit.bump)

theorem execFeedOvervoltage_answers {b above mv} (h : Keeps s₀ s) : Answers s₀ (execFeedOvervoltage b above mv s) := by
  unfold execFeedOvervoltage
  extract_lets _ s1
  have h1 : Keeps s₀ s1 := h.setReg
  exact .ite (.next (.ite h1 h1.setBit.setBit)) (.ite (.next h1) (.next h1.feedLost.setBit.bump.supplyReport))

theorem Keeps.judgeHoldup (h : Keeps s₀ s) : Keeps s₀ (s.judgeHoldup) := by
  unfold State.judgeHoldup
  extract_lets _ s1
  have h1 : Keeps s₀ s1 := h.setReg
  exact .ite h1.other h1

theorem execInrushBypass_answers (h : Keeps s₀ s) : Answers s₀ (execInrushBypass s) :=
  .next h.modPower.judgeHoldup

theorem execHoldupCheck_answers {mj} (h : Keeps s₀ s) : Answers s₀ (execHoldupCheck mj s) := by
  unfold execHoldupCheck
  extract_lets _ s1
  have h1 : Keeps s₀ s1 := h.modPower.setReg.judgeHoldup
  exact .ite (.next h) (.next (.ite h1.supplyReport h1))

theorem Keeps.leaveBrace (h : Keeps s₀ s) : Keeps s₀ (s.leaveBrace) := by
  unfold State.leaveBrace
  split
  exacts [h, h.accrueAcct.modPower.bumpBy]

theorem Keeps.dipSeen {rail mv} (h : Keeps s₀ s) : Keeps s₀ (s.dipSeen rail mv) := by
  unfold State.dipSeen
  split
  · exact h.setReg
  · extract_lets t
    have ht : Keeps s₀ t := h.setReg
    exact .ite ht ht.setBit.bump

theorem execBraceEntry_answers {rail mv} (h : Keeps s₀ s) : Answers s₀ (execBraceEntry rail mv s) := by
  unfold execBraceEntry
  extract_lets s1 s2
  have h1 : Keeps s₀ s1 := h.dipSeen
  have h2 : Keeps s₀ s2 := h1.accrueAcct.modPower.setReg.bump
  exact .ite (.next h) (.ite (.next h.setReg) (.ite (.next h1) (.next h2.supplyReport)))

theorem execBraceExit_answers {mv} (h : Keeps s₀ s) : Answers s₀ (execBraceExit mv s) := by
  unfold execBraceExit
  split
  exacts [.next h, .ite (.next h) (.next h.leaveBrace.setReg.setReg.setReg.setError)]

theorem execLowInputEntry_answers (h : Keeps s₀ s) : Answers s₀ (execLowInputEntry s) := by
  unfold execLowInputEntry
  split
  exacts [.next h, .ite (.next h) (.next h.leaveBrace.setReg.bump.setError)]

theorem execLowInputExit_answers {mv} (h : Keeps s₀ s) : Answers s₀ (execLowInputExit mv s) :=
  .ite (.next h) (.next h.accrueAcct.setReg.setReg.setError)

theorem execRailReset_answers (h : Keeps s₀ s) : Answers s₀ (execRailReset s) :=
  .next (.ite h h.bump.coldStart)

theorem execLpregOverload_answers (h : Keeps s₀ s) : Answers s₀ (execLpregOverload s) :=
  .next (.ite h h.bump.coldStart)

theorem execPowerFail_answers {blocks recovered} (h : Keeps s₀ s) : Answers s₀ (execPowerFail blocks recovered s) := by
  unfold execPowerFail
  extract_lets _ _ _ s1 s2 s3
  have h1 : Keeps s₀ s1 := h.flushStable.bump
  have h2 : Keeps s₀ s2 := .ite h1 h1.bump
  have h3 : Keeps s₀ s3 := h2.powerOff
  exact .ite (.next h) (.ite (.next h3.turnOn.bump) (.next (.ite h3.bump h3)))

theorem Keeps.flushOff {cause} (h : Keeps s₀ s) : Keeps s₀ (s.flushOff cause) :=
  h.flushStable.powerOff

theorem Keeps.accrueGov (h : Keeps s₀ s) : Keeps s₀ (s.accrueGov) := by
  unfold State.accrueGov
  extract_lets _ _ s1 s2
  have h1 : Keeps s₀ s1 := .ite h (.ite h.bumpBy h.bumpBy)
  have h2 : Keeps s₀ s2 := .ite h1.bumpBy h1
  exact h2.modPower

theorem execGovernorTick_answers {mw temp plate} (h : Keeps s₀ s) : Answers s₀ (execGovernorTick mw temp plate s) := by
  unfold execGovernorTick
  extract_lets _ s1 _ _ s2
  have h1 : Keeps s₀ s1 := h.accrueGov.setReg.setReg.setReg.setReg
  have h2 : Keeps s₀ s2 := h1.modPower
  exact .ite (.next h) (.ite (.next h2.setReg.peak.modPower) (.next h2))

theorem execGovernorLower_answers (h : Keeps s₀ s) : Answers s₀ (execGovernorLower s) := by
  unfold execGovernorLower
  extract_lets
  split
  exacts [.next h, .ite (.next h) (.next h.accrueGov.setReg.modPower)]

theorem Keeps.watchLoss {park} (h : Keeps s₀ s) : Keeps s₀ (s.watchLoss park) :=
  ((h.mem (m := s.mem.filter fun c => watchKeeps park c.1) fun hm => Memory.filter_wf _ hm).comb (l := [])
    fun _ => Nat.zero_le _).other

theorem Keeps.unpark (h : Keeps s₀ s) : Keeps s₀ (s.unpark) := by
  unfold State.unpark
  extract_lets _ _ s1 _ _ s2
  have h1 : Keeps s₀ s1 := h.placeSections
  have h2 : Keeps s₀ s2 := h1.other.setReg
  split
  exacts [h2.dropHarness.logFault.emcy, h2.restoreAll.invalidateFar]

theorem Keeps.linksSleep {v} (h : Keeps s₀ s) : Keeps s₀ (s.linksSleep v) :=
  .ite (h.foldl (fun _ _ h => h.parkLink)) (.ite (h.foldl (fun _ _ h => .ite h
    (.ite h.linkDown.setLinkState h.linkDown))) h)

theorem Keeps.enterSleep {v} (h : Keeps s₀ s) : Keeps s₀ (s.enterSleep v) := by
  unfold State.enterSleep
  extract_lets _ s1 s2 s3 s4
  have h1 : Keeps s₀ s1 := .ite h.setBytes h
  have h2 : Keeps s₀ s2 := h1.linksSleep.setPwr.freezeTimers
  have h3 : Keeps s₀ s3 := h2.foldl fun _ _ h => h.reinDrive
  have h4 : Keeps s₀ s4 := .ite (.ite h3.watchLoss h3.watchLoss.setReg) h3
  exact h4.modPower

theorem Keeps.linksWake {v} (h : Keeps s₀ s) : Keeps s₀ (s.linksWake v) :=
  .ite (h.foldl (fun _ _ h => .ite h.wakeLink h)) (.ite (h.foldl (fun _ _ h => .ite h h.beginTraining)) h)

theorem Keeps.coldWake (h : Keeps s₀ s) : Keeps s₀ (s.coldWake) := by
  unfold State.coldWake
  extract_lets s1
  have h1 : Keeps s₀ s1 := h.powerOff
  exact h1.other.turnOn

theorem Keeps.wakeUp {cause refuser} (h : Keeps s₀ s) : Keeps s₀ (s.wakeUp cause refuser) := by
  unfold State.wakeUp
  extract_lets _ s1 s2 _ s3 s4 s5
  have h1 : Keeps s₀ s1 := .ite h.countRefuser h
  have h2 : Keeps s₀ s2 := h1.setPwr.setReg.bump
  have h3 : Keeps s₀ s3 := h2.other
  have h4 : Keeps s₀ s4 := h3.linksWake.foldl fun _ _ h => h.reinDrive
  have h5 : Keeps s₀ s5 := h4.modPower
  exact .ite h.coldWake (.ite h4 (.ite h5.unpark h5.setReg))

theorem Keeps.wakeBy {w} (h : Keeps s₀ s) : Keeps s₀ (s.wakeBy w) := by
  unfold State.wakeBy
  extract_lets s1
  have h1 : Keeps s₀ s1 := h.wakeUp
  split
  · exact h
  · split
    exacts [.ite h1.modPower h1, h1]

theorem execEncEdge_answers {c rising} (h : Keeps s₀ s) : Answers s₀ (execEncEdge c rising s) :=
  .next (.ite h h.setBit.encEdge.wakeBy)

theorem execSpurDetect_answers {spur} (h : Keeps s₀ s) : Answers s₀ (execSpurDetect spur s) :=
  .ite (.next h) (.next h.wakeUp)

theorem execTimerWake_answers {k} (h : Keeps s₀ s) : Answers s₀ (execTimerWake k s) := by
  unfold execTimerWake
  split
  exacts [.next h, .next (.ite h.wakeBy h)]

theorem execFeedPresent_answers {b mv} (h : Keeps s₀ s) : Answers s₀ (execFeedPresent b mv s) := by
  unfold execFeedPresent
  extract_lets _ s1 s2
  have h1 : Keeps s₀ s1 := h.setReg
  have h2 : Keeps s₀ s2 := h1.setBit.setBit
  exact .ite (.next h1) (.ite (.next (.ite h2 h2.turnOn)) (.next h2.wakeBy))

theorem Keeps.ddrFailed (h : Keeps s₀ s) : Keeps s₀ (s.ddrFailed) :=
  h.setReg.bump.setReg.logFault.emcy

theorem Keeps.newSettings {temp} (h : Keeps s₀ s) : Keeps s₀ (s.newSettings temp) := h.other

theorem Keeps.trainDdr {r} (h : Keeps s₀ s) : Keeps s₀ (s.trainDdr r) := by
  unfold State.trainDdr
  extract_lets s1 s2
  have h1 : Keeps s₀ s1 := h.setReg.setReg
  have h2 : Keeps s₀ s2 := .ite h1.newSettings.setReg.setReg h1.ddrFailed
  exact .ite h.setReg.setReg.setReg h2.persistCommit

theorem execDdrBackgroundTrainDone_answers {r} (h : Keeps s₀ s) : Answers s₀ (execDdrBackgroundTrainDone r s) :=
  .ite (.next h) (.next h.trainDdr)

theorem Keeps.request {v} (h : Keeps s₀ s) : Keeps s₀ (s.request v).2 := by
  unfold State.request
  extract_lets
  split
  · exact h
  · split
    · exact h
    · split
      exacts [h.countRefuser, .iteSnd (.pair h.flushOff.modPower) h.enterSleep]

theorem Keeps.pwrReq {path v} (h : Keeps s₀ s) : Keeps s₀ (s.pwrReq path v) := by
  unfold State.pwrReq
  extract_lets write
  have hwrite : ∀ {s}, Keeps s₀ s → Keeps s₀ (write s) := fun h => h.writeObject fun _ h => h.request
  split
  · exact hwrite h
  · split
    exacts [hwrite h, .ite (hwrite h.wakeUp) h]

theorem execPwrReqRun_answers {path} (h : Keeps s₀ s) : Answers s₀ (execPwrReqRun path s) :=
  .next h.pwrReq

theorem execPwrReqIdle_answers {path} (h : Keeps s₀ s) : Answers s₀ (execPwrReqIdle path s) :=
  .next h.pwrReq

theorem execPwrReqHold_answers {path} (h : Keeps s₀ s) : Answers s₀ (execPwrReqHold path s) :=
  .next h.pwrReq

theorem execPwrReqWatch_answers {path} (h : Keeps s₀ s) : Answers s₀ (execPwrReqWatch path s) :=
  .next h.pwrReq

theorem execPwrReqOff_answers {path} (h : Keeps s₀ s) : Answers s₀ (execPwrReqOff path s) :=
  .next h.pwrReq

theorem execResetInput_answers (h : Keeps s₀ s) : Answers s₀ (execResetInput s) := by
  unfold execResetInput
  extract_lets s1
  have h1 : Keeps s₀ s1 := .ite h (.ite h.flushOff h.powerOff)
  exact .next h1.modPower.setBit

theorem execResetInputRelease_answers (h : Keeps s₀ s) : Answers s₀ (execResetInputRelease s) :=
  .ite (.next h) (.next h.modPower.setBit.turnOn)

theorem execThermalShutdown_answers {temp} (h : Keeps s₀ s) : Answers s₀ (execThermalShutdown temp s) :=
  .ite (.next h) (.next h.setReg.logFault.bump.flushOff)

theorem execGeoChange_answers {pins} (h : Keeps s₀ s) : Answers s₀ (execGeoChange pins s) := by
  unfold execGeoChange
  extract_lets s1 _ s2
  have h1 : Keeps s₀ s1 := h.setReg
  have h2 : Keeps s₀ s2 := h1.setReg
  exact .ite (.next h) (.next (.ite h2.logFault h2))

theorem execVaonLimit_answers {ma engaged} (h : Keeps s₀ s) : Answers s₀ (execVaonLimit ma engaged s) := by
  unfold execVaonLimit
  extract_lets s1
  have h1 : Keeps s₀ s1 := h.setReg
  exact .ite (.next h) (.next (.ite h1.bump.logFault h1))

/-! ### Htp -/

theorem Keeps.modSession {p f} (h : Keeps s₀ s) : Keeps s₀ (s.modSession p f) := h.other

theorem Keeps.flushReplies {p} (h : Keeps s₀ s) : Keeps s₀ (s.flushReplies p) := by
  unfold State.flushReplies
  extract_lets s1
  have h1 : Keeps s₀ s1 := h.modSession
  split
  exacts [h, h1.transmit]

theorem Keeps.reply {x op st data} (h : Keeps s₀ s) : Keeps s₀ (s.reply x op st data) := by
  unfold State.reply
  extract_lets
  split
  exacts [h.transmit.respond, h.modSession.flushReplies.respond]

theorem Keeps.answer {p op tag st data} (h : Keeps s₀ s) : Keeps s₀ (s.answer p op tag st data) :=
  h.modSession.flushReplies

theorem Keeps.htpHeard {x} (h : Keeps s₀ s) : Keeps s₀ (s.htpHeard x) := h.other

theorem Keeps.htpTaken {x} (h : Keeps s₀ s) : Keeps s₀ (s.htpTaken x) := h.other

theorem htpTurnedAway_offers {x op} (h : Keeps s₀ s) : Offers id s₀ (s.htpTurnedAway x op) := by
  unfold State.htpTurnedAway
  refine .ite (.some h) (.ite (.some h.bump.reply) (.ite (.some h.reply) ?_))
  split
  · exact .some h.reply
  · exact .ite (.some (.ite h h.bump)) (.ite (.some h.bump.reply) (.ite (.some h.bump.reply) .none))

theorem Keeps.htp {x op f} (h : Keeps s₀ s) (hf : ∀ s, Keeps s₀ s → Keeps s₀ (f s).2) : Keeps s₀ (s.htp x op f) := by
  unfold State.htp
  extract_lets r
  have hr : Keeps s₀ r.2 := hf _ h.htpTaken
  split
  next t e => exact htpTurnedAway_offers h t e
  next =>
    split
    exacts [hr.reply, hr.modSession]

theorem execHello_answers {x} (h : Keeps s₀ s) : Answers s₀ (execHello x s) := by
  unfold execHello
  extract_lets _ _ _ _ s1 _ _ s2
  have h1 : Keeps s₀ s1 := h.endSessions
  have h2 : Keeps s₀ s2 := h1.other
  exact .ite (.next h) (.ite (.next h.bump.reply) (.ite (.next h.bump.reply) (.ite (.next h.reply) (.ite
    (.next h1.bump.reply) (.next h2.bump.reply)))))

theorem execBye_answers {x} (h : Keeps s₀ s) : Answers s₀ (execBye x s) := by
  unfold execBye
  split
  next t e => exact .next (htpTurnedAway_offers h t e)
  next => exact .next h.htpTaken.reply.endSessions

theorem execNotifySet_answers {x} (h : Keeps s₀ s) : Answers s₀ (execNotifySet x s) :=
  .next (h.htp (fun _ h => .pair h.modSession))

theorem execHtpSessionTimeout_answers {p} (h : Keeps s₀ s) : Answers s₀ (execHtpSessionTimeout p s) := by
  unfold execHtpSessionTimeout
  split
  exacts [.next h, .next (.ite h.endSessions h)]

theorem execQPush_answers {x} (h : Keeps s₀ s) : Answers s₀ (execQPush x s) :=
  .next (h.htp (fun _ h => .iteSnd h h.push))

theorem execQConsume_answers {x} (h : Keeps s₀ s) : Answers s₀ (execQConsume x s) :=
  .next (h.htp (fun _ h => .iteSnd h h.consume))

theorem Keeps.readPiece {x : Transfer} {a n} (h : Keeps s₀ x.state) : Keeps s₀ (x.readPiece a n).state := by
  unfold Transfer.readPiece
  split
  · extract_lets r
    have hr : Keeps s₀ r.1 := h.refuseLine
    exact hr
  · exact .foldlOn Transfer.state h (fun _ _ h => h.busRead)

theorem Keeps.writePiece {x : Transfer} {a data} (h : Keeps s₀ x.state) : Keeps s₀ (x.writePiece a data).state := by
  unfold Transfer.writePiece
  split
  · extract_lets r
    have hr : Keeps s₀ r.1 := h.refuseLine
    exact hr
  · exact .foldlOn Transfer.state h (fun _ _ h => h.busWrite)

theorem Keeps.hostRead {a n} (h : Keeps s₀ s) : Keeps s₀ (s.hostRead a n).2.2 := by
  unfold State.hostRead
  extract_lets x
  have hx : Keeps s₀ x.state := .foldlOn Transfer.state h (fun _ _ h => h.readPiece)
  exact hx

theorem Keeps.hostWrite {a data} (h : Keeps s₀ s) : Keeps s₀ (s.hostWrite a data).2 := by
  unfold State.hostWrite
  extract_lets x
  have hx : Keeps s₀ x.state := .foldlOn Transfer.state h (fun _ _ h => h.writePiece)
  exact hx

theorem execMemRead_answers {x} (h : Keeps s₀ s) : Answers s₀ (execMemRead x s) :=
  .next (h.htp (fun _ h => .iteSnd h h.hostRead))

theorem execMemWrite_answers {x data} (h : Keeps s₀ s) : Answers s₀ (execMemWrite x data s) :=
  .ite (.next h) (.next (h.htp (fun _ h => .iteSnd h h.hostWrite)))

theorem execMemWriteTimeout_answers {x data} (h : Keeps s₀ s) : Answers s₀ (execMemWriteTimeout x data s) := by
  unfold execMemWriteTimeout
  refine .ite (.next h) ?_
  split
  next t e => exact .next (htpTurnedAway_offers h t e)
  next => exact .next h.htpHeard.hostWrite.bump.reply

theorem Keeps.endUsb (h : Keeps s₀ s) : Keeps s₀ (s.endUsb) := h.other

theorem execVbusArrival_answers (h : Keeps s₀ s) : Answers s₀ (execVbusArrival s) :=
  .ite (.next h) (.next h.wakeBy.setReg)

theorem execUsbBusReset_answers {detach superSpeed} (h : Keeps s₀ s) :
    Answers s₀ (execUsbBusReset detach superSpeed s) := by
  unfold execUsbBusReset
  extract_lets s1 _ s2
  have h1 : Keeps s₀ s1 := h.endUsb
  have h2 : Keeps s₀ s2 := h1.other
  exact .ite (.next h) (.next (.ite h2.setReg.setReg h2.setReg.setReg))

theorem execUsbSuspend_answers (h : Keeps s₀ s) : Answers s₀ (execUsbSuspend s) :=
  .next (.ite h h.setReg)

theorem execUsbResume_answers (h : Keeps s₀ s) : Answers s₀ (execUsbResume s) :=
  .ite (.next h) (.next h.wakeBy.setReg)

theorem execEp0StandardRequest_answers {r} (h : Keeps s₀ s) : Answers s₀ (execEp0StandardRequest r s) := by
  unfold execEp0StandardRequest
  extract_lets
  split
  · exact .next h
  · split
    exacts [.ite (.next h.respond) (.next h.other.setReg.respond), .next h.other.respond, .next h.respond,
      .next h.respond]

/-! ### Security -/

theorem Keeps.modSecurity {f} (h : Keeps s₀ s) : Keeps s₀ (s.modSecurity f) := h.other

theorem Keeps.sign {key digest} (h : Keeps s₀ s) : Keeps s₀ (s.sign key digest).2 := h.other

theorem Keeps.putKey {h' k} (h : Keeps s₀ s) : Keeps s₀ (s.putKey h' k) := by
  unfold State.putKey
  split
  exacts [h.modSecurity, h]

theorem Keeps.drawTestKey (h : Keeps s₀ s) : Keeps s₀ (s.drawTestKey) := h.other

theorem Keeps.drawXts (h : Keeps s₀ s) : Keeps s₀ (s.drawXts) := by
  unfold State.drawXts
  extract_lets a s1 _ b
  have ha : Keeps s₀ a.2 := h.fresh
  have h1 : Keeps s₀ s1 := ha.putKey.installXts
  have hb : Keeps s₀ b.2 := h1.fresh
  exact .ite hb.putKey.installXts h1

theorem Keeps.installKeys (h : Keeps s₀ s) : Keeps s₀ (s.installKeys) := by
  unfold State.installKeys
  extract_lets _ s1
  have h1 : Keeps s₀ s1 := h.modSecurity.putKey.putKey.putKey
  exact .drawXts (.ite h1.drawTestKey h1)

theorem Keeps.tamperLoop {sources} (h : Keeps s₀ s) : Keeps s₀ (s.tamperLoop sources) := h.other

theorem Keeps.startKeys {trng tamper} (h : Keeps s₀ s) : Keeps s₀ (s.startKeys trng tamper) := by
  unfold State.startKeys
  extract_lets _ s1
  have h1 : Keeps s₀ s1 := h.tamperLoop.setReg
  exact .ite h1.modSecurity.logFault (.ite h1.modSecurity h1.installKeys)

theorem Keeps.attest {nonce} (h : Keeps s₀ s) : Keeps s₀ (s.attest nonce).2.2 := by
  unfold State.attest
  extract_lets
  split
  · extract_lets r
    have hr : Keeps s₀ r.2 := h.sign
    exact .iteThird h hr.bump
  · exact h

theorem Keeps.drawChallenge (h : Keeps s₀ s) : Keeps s₀ (s.drawChallenge).2 := h.other

theorem execIdGet_answers {x} (h : Keeps s₀ s) : Answers s₀ (execIdGet x s) :=
  .next (h.htp (fun _ h => h))

theorem execAttest_answers {x} (h : Keeps s₀ s) : Answers s₀ (execAttest x s) :=
  .next (h.htp (fun _ h => .iteSnd h h.attest))

theorem execChallenge_answers {x} (h : Keeps s₀ s) : Answers s₀ (execChallenge x s) :=
  .next (h.htp (fun _ h => h.drawChallenge))

theorem Keeps.newRecord {p osk} (h : Keeps s₀ s) : Keeps s₀ (s.newRecord p osk) := by
  unfold State.newRecord
  extract_lets _ s1 s12 a b _ g s13
  have h1 : Keeps s₀ s1 := h.setReg.setReg.bump
  have h12 : Keeps s₀ s12 := h.setReg.setReg.setReg.setReg
  have ha : Keeps s₀ a.2 := h.fresh
  have hb : Keeps s₀ b.2 := ha.fresh
  have hg : Keeps s₀ g.2 := hb.sign
  have h13 : Keeps s₀ s13 := hg.setReg.setReg.setReg
  split
  exacts [h1.setReg.setReg.modSecurity, h.setReg.setReg.setReg.modSecurity, h12.setReg.setReg.modSecurity,
    h13.setReg.modSecurity]

theorem Keeps.transition {p osk} (h : Keeps s₀ s) : Keeps s₀ (s.transition p osk) :=
  h.newRecord.bump.wipeTack.offAndRestart

theorem Keeps.ownerOp {p} (h : Keeps s₀ s) : Keeps s₀ (s.ownerOp p).2 := by
  unfold State.ownerOp
  extract_lets _ s1
  have h1 : Keeps s₀ s1 := h.modSecurity
  exact .iteSnd h (.iteSnd h1.bump (.iteSnd h1.bump (.iteSnd h1 (.iteSnd h1.setReg (.iteSnd (.iteSnd h1.setReg h1)
    (.iteSnd h1.bump (.iteSnd h1 h1.transition)))))))

theorem Keeps.ownerFrame {x op} (h : Keeps s₀ s) : Keeps s₀ (s.ownerFrame x op) :=
  .ite h (h.htp (fun _ h => h.ownerOp))

theorem execTakeOwnership_answers {x} (h : Keeps s₀ s) : Answers s₀ (execTakeOwnership x s) :=
  .next h.ownerFrame

theorem execRelease_answers {x} (h : Keeps s₀ s) : Answers s₀ (execRelease x s) :=
  .next h.ownerFrame

theorem execRetire_answers {x} (h : Keeps s₀ s) : Answers s₀ (execRetire x s) :=
  .next h.ownerFrame

theorem execSetLock_answers {x} (h : Keeps s₀ s) : Answers s₀ (execSetLock x s) :=
  .next h.ownerFrame

theorem execSetTamperEn_answers {x} (h : Keeps s₀ s) : Answers s₀ (execSetTamperEn x s) :=
  .next h.ownerFrame

theorem execProvision_answers {x} (h : Keeps s₀ s) : Answers s₀ (execProvision x s) :=
  .next h.ownerFrame

theorem execLifecycleRestart_answers (h : Keeps s₀ s) : Answers s₀ (execLifecycleRestart s) := by
  unfold execLifecycleRestart
  split
  exacts [.next h, .ite (.next h) (.next h.turnOn)]

theorem execTamperDetect_answers {sources} (h : Keeps s₀ s) : Answers s₀ (execTamperDetect sources s) := by
  unfold execTamperDetect
  extract_lets _ _ s1
  have h1 : Keeps s₀ s1 := h.tamperLoop.wipeTack.setReg.bump.logFault
  exact .ite (.next h) (.ite (.next h.tamperLoop) (.next (.ite h1.modSecurity h1.offAndRestart)))

theorem execTamperRecheck_answers {sources} (h : Keeps s₀ s) : Answers s₀ (execTamperRecheck sources s) := by
  unfold execTamperRecheck
  extract_lets _ s1
  have h1 : Keeps s₀ s1 := h.tamperLoop.setReg.modSecurity
  exact .ite (.next h) (.next (.ite h1.installKeys h1))

theorem execEcallOpenHarness_answers {img len} (h : Keeps s₀ s) : Answers s₀ (execEcallOpenHarness img len s) := by
  unfold execEcallOpenHarness
  extract_lets o
  have ho : Keeps s₀ o.2 := h.openEnvelope
  exact .ite (.next h.respond) (.next ho.respond)

theorem execEcallAttest_answers {src dst} (h : Keeps s₀ s) : Answers s₀ (execEcallAttest src dst s) := by
  unfold execEcallAttest
  extract_lets r
  have hr : Keeps s₀ r.2.2 := h.attest
  exact .ite (.next h.respond) (.next hr.setBytes.respond)

theorem execEcallOwnerOp_answers {src} (h : Keeps s₀ s) : Answers s₀ (execEcallOwnerOp src s) := by
  unfold execEcallOwnerOp
  extract_lets r
  have hr : Keeps s₀ r.2 := h.ownerOp
  exact .ite (.next h.respond) (.next hr.respond)

theorem execEcallUnsealKey_answers {img len handle} (h : Keeps s₀ s) :
    Answers s₀ (execEcallUnsealKey img len handle s) :=
  .ite (.next h.respond) (.ite (.next h.respond) (.ite (.next h.sealFail.respond) (.next h.putKey.respond)))

theorem execEcallChallenge_answers {dst} (h : Keeps s₀ s) : Answers s₀ (execEcallChallenge dst s) := by
  unfold execEcallChallenge
  extract_lets r
  have hr : Keeps s₀ r.2 := h.drawChallenge
  exact .ite (.next h.respond) (.next hr.setBytes.respond)

/-! ### Bringup -/

theorem Keeps.adoptDictionary {x v} (h : Keeps s₀ s) : Keeps s₀ (s.adoptDictionary x v) := by
  unfold State.adoptDictionary
  split
  · exact h.defaultRwp
  · extract_lets _ s1 s2
    have h1 : Keeps s₀ s1 := h.defaultRwp.foldl fun _ _ h => h.loadEntry
    have h2 : Keeps s₀ s2 := h1.modUpdate.persistCommit
    exact .ite h.loadPersisted (.ite h2.modUpdate.bump h.defaultRwp.logFault)

theorem Keeps.runSaddle {b} (h : Keeps s₀ s) : Keeps s₀ (s.runSaddle b) := by
  unfold State.runSaddle
  extract_lets _ _ s1
  have h1 : Keeps s₀ s1 := h.setReg.setReg
  exact h1.setReg.setReg.setReg.setReg

theorem Keeps.bootBank {a b} (h : Keeps s₀ s) : Keeps s₀ (s.bootBank a b).2 := by
  unfold State.bootBank
  extract_lets st good back
  have hback : ∀ x, Keeps s₀ (back x).2 := fun _ => h.setReg.rollback
  exact .iteSnd (hback _) (.iteSnd (hback _) (.iteSnd (.iteSnd h (hback _)) (.iteSnd (.iteSnd h (hback _))
    (.iteSnd h (.iteSnd h h)))))

theorem Keeps.stageFailed {stage fail n} (h : Keeps s₀ s) : Keeps s₀ (s.stageFailed stage fail n) :=
  h.setReg.setReg.bump.logFault.emcy

theorem Keeps.endPower {bad pins} (h : Keeps s₀ s) : Keeps s₀ (s.endPower bad pins) := by
  unfold State.endPower
  extract_lets
  split
  · extract_lets s1
    have h1 : Keeps s₀ s1 := h.powerOff.setReg.bump
    exact h1.modPower
  · exact h.setReg.setReg.setReg

theorem Keeps.endManage {a b v} (h : Keeps s₀ s) : Keeps s₀ (s.endManage a b v) := by
  unfold State.endManage
  extract_lets boot
  have hboot : Keeps s₀ boot.2 := h.bootBank
  split
  · exact hboot.modUpdate.setReg.bump.logFault
  · extract_lets _ s1 s2 s3 s4 _ _ s5 s6 s7
    have h1 : Keeps s₀ s1 := hboot.setReg
    have h2 : Keeps s₀ s2 := by unfold s2; split; exacts [h1.setReg, h1]
    have h3 : Keeps s₀ s3 := h2.runSaddle.modUpdate.setReg
    have h4 : Keeps s₀ s4 := h3.adoptDictionary.persistCommit.latchShape
    clear_value s4
    have h5 : Keeps s₀ s5 := h4.other
    have h6 : Keeps s₀ s6 := h5.modPower
    have h7 : Keeps s₀ s7 := (h6.foldl fun _ _ h => h.reinDrive).setReg
    exact h7.setReg.canSend

theorem Keeps.endClocks {ok ppm} (h : Keeps s₀ s) : Keeps s₀ (s.endClocks ok ppm) :=
  .ite h.setReg.setReg.setReg (.ite h.stageFailed h.modPower)

theorem Keeps.readSuperblock (h : Keeps s₀ s) : Keeps s₀ (s.readSuperblock) := by
  unfold State.readSuperblock
  extract_lets _ pick
  clear_value pick
  split
  exacts [h.setReg.logFault, h.setReg.setReg.setReg.modLearning]

theorem Keeps.readWear (h : Keeps s₀ s) : Keeps s₀ (s.readWear) := h.other

theorem Keeps.readJournal (h : Keeps s₀ s) : Keeps s₀ (s.readJournal) := by
  unfold State.readJournal
  split
  exacts [h, h.setReg.setReg.setBytes.modLearning]

theorem Keeps.bindFirmware (h : Keeps s₀ s) : Keeps s₀ (s.bindFirmware) := by
  unfold State.bindFirmware
  extract_lets s1 s2 s3 s4
  have h1 : Keeps s₀ s1 := h.setWindow
  have h2 : Keeps s₀ s2 := h1.setQueue
  have h3 : Keeps s₀ s3 := h2.setQueue
  have h4 : Keeps s₀ s4 := h3.setQueue
  exact h4.setQueue

theorem Keeps.endMemory {m} (h : Keeps s₀ s) : Keeps s₀ (s.endMemory m) := by
  unfold State.endMemory
  extract_lets s1 s2 s3
  have h1 : Keeps s₀ s1 := h.setReg.setReg.wipeTack
  have h2 : Keeps s₀ s2 := h1.readSuperblock.readWear.readJournal.trainDdr.startKeys
  have h3 : Keeps s₀ s3 := h2.foldl fun _ _ h => .ite h h.beginTraining
  split
  exacts [h.stageFailed, h3.bindFirmware.setReg]

theorem Keeps.fenceAtStart {c t} (h : Keeps s₀ s) : Keeps s₀ (s.fenceAtStart c t) :=
  .ite h h.setBit.bump

theorem Keeps.endClusters {tiles whole repairs spare} (h : Keeps s₀ s) :
    Keeps s₀ (s.endClusters tiles whole repairs spare) := by
  unfold State.endClusters
  extract_lets s1 s2 s3 s4
  have h1 : Keeps s₀ s1 := h.bumpBy.setReg
  have h2 : Keeps s₀ s2 := h1.foldl fun _ _ h => h.fenceAtStart.logFault
  have h3 : Keeps s₀ s3 := h2.foldl (fun _ _ h => (h.foldl (fun _ _ h => h.fenceAtStart)).logFault.emcy)
  have h4 : Keeps s₀ s4 := h3.setReg.setReg
  exact h4.modPower

theorem execBringupStage_answers {r} (h : Keeps s₀ s) : Answers s₀ (execBringupStage r s) := by
  unfold execBringupStage
  extract_lets
  split
  · exact .next h
  · split
    exacts [.next (.ite h.endPower h), .next (.ite h.endManage h), .next (.ite h.endClocks h),
      .next (.ite h.endMemory h), .next (.ite h.setReg h), .next (.ite h.endClusters h)]

theorem execBringupRetry_answers (h : Keeps s₀ s) : Answers s₀ (execBringupRetry s) := by
  unfold execBringupRetry
  extract_lets
  split
  exacts [.next h, .ite (.next h) (.next h.turnOn.modPower)]

theorem Keeps.setFarrier {v n} (h : Keeps s₀ s) : Keeps s₀ (s.setFarrier v n) :=
  .ite h h.setReg.logFault

theorem execCoreAlarm_answers {c monitor slack} (h : Keeps s₀ s) : Answers s₀ (execCoreAlarm c monitor slack s) :=
  .ite (.next h) (.ite (.next h) (.ite (.next h.setFarrier) (.next h.modPower.bump)))

theorem Keeps.duePlan (h : Keeps s₀ s) : Keeps s₀ (s.duePlan) := h.other

theorem execReplanDue_answers {temp} (h : Keeps s₀ s) : Answers s₀ (execReplanDue temp s) := by
  unfold execReplanDue
  extract_lets _ s1
  have h1 : Keeps s₀ s1 := h.modPower
  split
  exacts [.next h, .next (.ite h1.duePlan h1)]

theorem execFarrierNow_answers {path v} (h : Keeps s₀ s) : Answers s₀ (execFarrierNow path v s) :=
  .next (h.writeObject (fun _ h => .iteSnd h.duePlan h))

theorem Keeps.yearsLeft {h' day v} (h : Keeps s₀ s) : Keeps s₀ (s.yearsLeft h' day v).2 := by
  unfold State.yearsLeft
  extract_lets _ f
  have hf : Keeps s₀ f.2 := h.fresh
  exact .iteSnd h (.iteSnd hf h)

theorem Keeps.plan {r} (h : Keeps s₀ s) : Keeps s₀ (s.plan r) := by
  unfold State.plan
  extract_lets _ _ _ left s1 s2 s3 _ s4 _ s5
  have hleft : Keeps s₀ left.2 := h.yearsLeft
  have h1 : Keeps s₀ s1 := hleft.setReg.setReg.setReg.setReg
  have h2 : Keeps s₀ s2 := h1.setReg.setReg.setReg.setReg
  have h3 : Keeps s₀ s3 := h2.setReg
  have h4 : Keeps s₀ s4 := .ite h3 h3.setFarrier
  have h5 : Keeps s₀ s5 := h4.modPower
  exact h5.persistCommit.bump

theorem Keeps.planLink (h : Keeps s₀ s) : Keeps s₀ (s.planLink) := by
  unfold State.planLink
  split
  · exact h
  · extract_lets s1
    have h1 : Keeps s₀ s1 := h.modPower
    exact .ite h (.ite h1.beginTraining h1)

theorem execReplan_answers {r} (h : Keeps s₀ s) : Answers s₀ (execReplan r s) :=
  .ite (.next h.planLink) (.ite (.next h) (.ite (.next (.ite h h.modPower.bump)) (.ite (.next (.ite h h.modPower))
    (.next h.plan.planLink))))

theorem Keeps.refreshOne {p v} (h : Keeps s₀ s) : Keeps s₀ (s.refreshOne p v) :=
  h.wearPages.verifyBlock

theorem execStableRefresh_answers {v} (h : Keeps s₀ s) : Answers s₀ (execStableRefresh v s) := by
  unfold execStableRefresh
  split
  · exact .next h
  · split
    · exact .ite (.next h) (.next h.modPower.refreshOne)
    · extract_lets s1
      have h1 : Keeps s₀ s1 := h.refreshOne
      exact .next (.ite h1.modPower h1.modPower.bump)

/-! ### Firmware -/

theorem Keeps.updRefused {st} (h : Keeps s₀ s) : Keeps s₀ (s.updRefused st).2 := h.other

theorem Keeps.updOp {x op text f} (h : Keeps s₀ s) (hf : ∀ x0 s, Keeps s₀ s → Keeps s₀ (f x0 s).2) :
    Keeps s₀ (s.updOp x op text f) := by
  unfold State.updOp
  split
  · exact h.htp (fun _ h => (hf _ _ h))
  · extract_lets r
    have hr : Keeps s₀ r.2 := hf _ _ h
    split
    · exact h
    · split
      exacts [hr.emit.respond, hr]

theorem Keeps.beginUpdate {pred members p} (h : Keeps s₀ s) : Keeps s₀ (s.beginUpdate pred members p).2 := by
  unfold State.beginUpdate
  extract_lets _ _ _ s1 s2
  have h1 : Keeps s₀ s1 := h.modUpdate
  have h2 : Keeps s₀ s2 := h1.setReg.setReg.setReg
  split
  exacts [h.updRefused, .iteSnd h (.iteSnd h.updRefused (.ite h2 h2.emit))]

theorem execUpdBegin_answers {x members} (h : Keeps s₀ s) : Answers s₀ (execUpdBegin x members s) :=
  .next (h.updOp (fun _ _ h => h.beginUpdate))

theorem Keeps.forwardBlock {i data} (h : Keeps s₀ s) : Keeps s₀ (s.forwardBlock i data) := by
  unfold State.forwardBlock
  extract_lets
  split
  · exact h
  · split
    exacts [h, h.modLink]

theorem Keeps.holdBlock {i data} (h : Keeps s₀ s) : Keeps s₀ (s.holdBlock i data) := by
  unfold State.holdBlock
  extract_lets s1
  have h1 : Keeps s₀ s1 := h.modUpdate
  exact h1.setReg.forwardBlock

theorem Keeps.blockAgain {dev p} (h : Keeps s₀ s) : Keeps s₀ (s.blockAgain dev p) := by
  unfold State.blockAgain
  split
  exacts [.ite h.forwardBlock h, h]

theorem Keeps.hostBlock {x} (h : Keeps s₀ s) : Keeps s₀ (s.hostBlock x) :=
  h.htp (fun _ h => .iteSnd h (.iteSnd h (.iteSnd h.bump h.holdBlock)))

theorem execUpdBlock_answers {x} (h : Keeps s₀ s) : Answers s₀ (execUpdBlock x s) := by
  unfold execUpdBlock
  split
  exacts [.next h.hostBlock, .next (.ite h h.blockAgain)]

theorem execChainBlockReceive_answers {l} (h : Keeps s₀ s) : Answers s₀ (execChainBlockReceive l s) := by
  unfold execChainBlockReceive
  extract_lets _ s1 _ _ _ _ _ s2
  have h1 : Keeps s₀ s1 := h.modTether
  have h2 : Keeps s₀ s2 := h1.bump
  exact .ite (.next h) (.ite (.next h1.holdBlock) (.ite (.next h2.modUpdate.emit) (.next h2.setReg.emit)))

theorem Keeps.verifyUpdate {back members} (h : Keeps s₀ s) : Keeps s₀ (s.verifyUpdate back members).2 := by
  unfold State.verifyUpdate
  extract_lets _ _ _ _ s1 failed _ s2
  have h1 : Keeps s₀ s1 := by
    unfold s1
    split
    exacts [h, h.emit.modUpdate]
  have hfailed : ∀ {s st}, Keeps s₀ s → Keeps s₀ (failed s st).2 := fun h => h.setReg.setReg.setReg
  have h2 : Keeps s₀ s2 := h1.setReg.setReg.modUpdate
  exact .iteSnd h (.iteSnd (hfailed h1.bump) (.iteSnd (hfailed h1) (.iteSnd (hfailed h1) h2.setReg.setReg)))

theorem execUpdVerify_answers {x back members} (h : Keeps s₀ s) : Answers s₀ (execUpdVerify x back members s) :=
  .next (h.updOp (fun _ _ h => h.verifyUpdate))

theorem Keeps.dropTransfer (h : Keeps s₀ s) : Keeps s₀ (s.dropTransfer) := h.other

theorem Keeps.sdoAbort {index sub code} (h : Keeps s₀ s) : Keeps s₀ (s.sdoAbort index sub code) :=
  h.dropTransfer.canSend.bump

theorem Keeps.dropSdo (h : Keeps s₀ s) : Keeps s₀ (s.dropSdo) := by
  unfold State.dropSdo
  split
  exacts [h.sdoAbort, h]

theorem Keeps.answerAsked {st} (h : Keeps s₀ s) : Keeps s₀ (s.answerAsked st) := by
  unfold State.answerAsked
  split
  exacts [h, h.modUpdate.setReg.answer.respond]

theorem Keeps.closeHandover (h : Keeps s₀ s) : Keeps s₀ (s.closeHandover) := by
  unfold State.closeHandover
  extract_lets _ s1 s2
  have h1 : Keeps s₀ s1 := h.setReg.setReg.setReg
  have h2 : Keeps s₀ s2 := h1.modUpdate.bump
  split
  exacts [h, .ite h.rollback.answerAsked h2.setReg.answerAsked]

theorem Keeps.takeOver {back v} (h : Keeps s₀ s) : Keeps s₀ (s.takeOver back v) := by
  unfold State.takeOver
  extract_lets _ _ s1 s2
  have h1 : Keeps s₀ s1 := h.modUpdate.dropSdo.runSaddle
  have h2 : Keeps s₀ s2 := .ite h1 h1.adoptDictionary
  exact .ite h2.modUpdate h2.closeHandover

theorem Keeps.handoverFails {back st} (h : Keeps s₀ s) : Keeps s₀ (s.handoverFails back st) := by
  unfold State.handoverFails
  extract_lets s1 s2
  have h1 : Keeps s₀ s1 := h.modUpdate.dropSdo
  have h2 : Keeps s₀ s2 := h1.setReg.setReg.bump
  exact .ite h1.setReg.rollback.answerAsked h2.logFault.emcy.answerAsked

theorem Keeps.handOver {x back holds t} (h : Keeps s₀ s) : Keeps s₀ (s.handOver x back holds t).2 := by
  unfold State.handOver
  extract_lets s1
  have h1 : Keeps s₀ s1 := h.setReg.modUpdate
  split
  · exact h.updRefused
  · split
    · exact h.setReg.bump.setReg.setReg
    · cases t
      exacts [.pair h1.takeOver, .pair h1.handoverFails, .pair h1.modUpdate]

theorem execUpdActivate_answers {x holds t} (h : Keeps s₀ s) : Answers s₀ (execUpdActivate x holds t s) :=
  .next (h.htp (fun _ h => h.handOver))

theorem execUpdRollback_answers {x holds t} (h : Keeps s₀ s) : Answers s₀ (execUpdRollback x holds t s) :=
  .next (h.htp (fun _ h => h.handOver))

theorem execUpdAbort_answers {x} (h : Keeps s₀ s) : Answers s₀ (execUpdAbort x s) :=
  .next (h.htp (fun _ h => .iteSnd h h.modUpdate.setReg.setReg))

theorem execUpdStatus_answers {x} (h : Keeps s₀ s) : Answers s₀ (execUpdStatus x s) :=
  .next (h.htp (fun _ h => h))

theorem execMicrocodeSwap_answers {us} (h : Keeps s₀ s) : Answers s₀ (execMicrocodeSwap us s) := by
  unfold execMicrocodeSwap
  extract_lets _ s1
  have h1 : Keeps s₀ s1 := h.modUpdate
  exact .ite (.next h) (.next h1.bump.peak.closeHandover)

theorem Keeps.commitBank (h : Keeps s₀ s) : Keeps s₀ (s.commitBank) := by
  unfold State.commitBank
  extract_lets _ s1 s2
  have h1 : Keeps s₀ s1 := h.setReg.setReg
  have h2 : Keeps s₀ s2 := h1.modUpdate
  exact .ite h2.setReg h2

theorem execUpdCommit_answers {x} (h : Keeps s₀ s) : Answers s₀ (execUpdCommit x s) :=
  .next (h.htp (fun _ h => .iteSnd h.commitBank h))

theorem execProbationExpiry_answers (h : Keeps s₀ s) : Answers s₀ (execProbationExpiry s) := by
  unfold execProbationExpiry
  split
  exacts [.next h, .next (.ite h.commitBank h)]

theorem execDeferredMicrocodeSwap_answers (h : Keeps s₀ s) : Answers s₀ (execDeferredMicrocodeSwap s) :=
  .ite (.next h) (.next h.setReg.modUpdate)

theorem execRecoveryBoot_answers (h : Keeps s₀ s) : Answers s₀ (execRecoveryBoot s) := by
  unfold execRecoveryBoot
  extract_lets other
  have hother : Keeps s₀ other := .ite h.setReg h
  exact .ite (.next h) (.next hother.setReg.setReg.coldStart)

theorem execEcallVerifyImage_answers {img len} (h : Keeps s₀ s) : Answers s₀ (execEcallVerifyImage img len s) :=
  .ite (.next h.respond) (.next h.respond)

/-! ### Faults -/

theorem Keeps.noteInterruption {ns} (h : Keeps s₀ s) : Keeps s₀ (s.noteInterruption ns) :=
  .ite h.peak h

theorem Keeps.killNeurons {c t} (h : Keeps s₀ s) : Keeps s₀ (s.killNeurons c t) :=
  h.foldl fun _ _ h => h.setNeuron

theorem Keeps.fenceTile {c t} (h : Keeps s₀ s) : Keeps s₀ (s.fenceTile c t) := by
  unfold State.fenceTile
  extract_lets _ _ s1
  have h1 : Keeps s₀ s1 := h.killNeurons.setTile
  exact h1.setBit.bump.stepStatus.logFault

theorem Keeps.reportFence {c} (h : Keeps s₀ s) : Keeps s₀ (s.reportFence c) :=
  h.emcy.dump

theorem execTileHang_answers {c t waits router} (h : Keeps s₀ s) : Answers s₀ (execTileHang c t waits router s) :=
  .ite (.next (h.foldl (fun _ _ h => .ite h h.fenceTile)).reportFence) (.ite (.next h) (.ite (.next h.tileProgress)
    (.ite (.next h) (.next h.fenceTile.reportFence.noteInterruption))))

theorem Keeps.startSettle {deficit} (h : Keeps s₀ s) : Keeps s₀ (s.startSettle deficit) := by
  unfold State.startSettle
  extract_lets _ s1
  have h1 : Keeps s₀ s1 := h.modTether.modFabric
  exact .ite h (h1.foldl (fun _ _ h => h.emit))

theorem execCountSettleStart_answers (h : Keeps s₀ s) : Answers s₀ (execCountSettleStart s) := by
  unfold execCountSettleStart
  split
  · exact .next h
  · split
    · exact .next h.modFabric
    · split
      exacts [.next h.startSettle, .next (.ite h.startSettle h)]

theorem Keeps.settleHeard {d} (h : Keeps s₀ s) : Keeps s₀ (s.settleHeard d) := h.other

theorem execSettleHoldReply_answers {dev quiet} (h : Keeps s₀ s) : Answers s₀ (execSettleHoldReply dev quiet s) :=
  .ite (.next h) (.ite (.next (.ite h (.ite h.settleHeard h.emit))) (.ite (.next h) (.next
    (.ite h.settleHeard h.bump))))

theorem Keeps.zeroCounts (h : Keeps s₀ s) : Keeps s₀ (s.zeroCounts) := h.other

theorem Keeps.forceStep {r n} (h : Keeps s₀ s) : Keeps s₀ (s.forceStep r n) := by
  unfold State.forceStep
  extract_lets _ _ _ _ s1
  have h1 : Keeps s₀ s1 := .ite h.bump h
  exact .ite h h1.setReg.modFabric.broadcast

theorem Keeps.endSettle {x} (h : Keeps s₀ s) : Keeps s₀ (s.endSettle x) := by
  unfold State.endSettle
  extract_lets s1 s2
  have h1 : Keeps s₀ s1 := by unfold s1; split; exacts [h, (h.foldl (fun _ _ h => h.forceStep)).modFabric]
  have h2 : Keeps s₀ s2 := h1.modTether.modFabric
  exact h2.bump.logFault.noteInterruption

theorem Keeps.takeStep {step} (h : Keeps s₀ s) : Keeps s₀ (s.takeStep step) :=
  .ite h.setReg.modFabric h

theorem execSettle_answers {dev step} (h : Keeps s₀ s) : Answers s₀ (execSettle dev step s) := by
  unfold execSettle
  extract_lets
  split
  · exact .next (.ite h.takeStep.zeroCounts.modFabric.emit h)
  · split
    · exact .next h
    · extract_lets _ s1 s2
      have h1 : Keeps s₀ s1 := h.zeroCounts.modTether
      have h2 : Keeps s₀ s2 := h1.foldl fun _ _ h => h.emit
      exact .ite (.ite (.next h) (.next (.ite h2.endSettle h2))) (.next (.ite h.endSettle h.settleHeard))

theorem execSettleTimeout_answers (h : Keeps s₀ s) : Answers s₀ (execSettleTimeout s) := by
  unfold execSettleTimeout
  extract_lets s1
  have h1 : Keeps s₀ s1 := h.setReg.endRuns.modTether
  split
  exacts [.next h, .ite (.next h) (.next h1.logFault.setError.dump)]

theorem Keeps.purge {d l} (h : Keeps s₀ s) : Keeps s₀ (s.purge d l) :=
  h.foldl fun _ _ h => .ite h.lostDiscard h

theorem Keeps.purgeGateways {d} (h : Keeps s₀ s) : Keeps s₀ (s.purgeGateways d) := by
  unfold State.purgeGateways
  extract_lets _ _ src
  have hsrc : Keeps s₀ src := h.purge
  exact hsrc.other

theorem execDeviceLost_answers {dev} (h : Keeps s₀ s) : Answers s₀ (execDeviceLost dev s) := by
  unfold execDeviceLost
  extract_lets _ s1 s2 s3
  have h1 : Keeps s₀ s1 := h.modTether
  have h2 : Keeps s₀ s2 := h1.purgeGateways.loseHomes.modFabric
  have h3 : Keeps s₀ s3 := h2.logFault.emcy
  split
  exacts [.next h, .ite (.next h) (.ite (.next h3.setReg) (.ite (.next h3.settleHeard.startSettle) (.next h3)))]

theorem execSaddleWatchdog_answers {ecc} (h : Keeps s₀ s) : Answers s₀ (execSaddleWatchdog ecc s) :=
  .ite (.next h) (.next h.saddleRestart)

theorem execBridleCheck_answers {differs} (h : Keeps s₀ s) : Answers s₀ (execBridleCheck differs s) :=
  .ite (.next h) (.next h.saddleRestart)

theorem execBridleWatchdog_answers (h : Keeps s₀ s) : Answers s₀ (execBridleWatchdog s) :=
  .ite (.next h) (.next h.bridleReset)

theorem Keeps.clearFlog (h : Keeps s₀ s) :
    Keeps s₀ { s with flog := [] } := (h.flog (n := s.flogSeq) fun _ => Nat.zero_le _)

theorem execFlogClear_answers {path v} (h : Keeps s₀ s) : Answers s₀ (execFlogClear path v s) :=
  .next (h.writeObject fun _ h => .iteSnd h.clearFlog h)

theorem execDumpNow_answers {path v} (h : Keeps s₀ s) : Answers s₀ (execDumpNow path v s) :=
  .next (h.writeObject (fun _ h => .iteSnd h.dump h))

end Sys2Proof.InvariantProofs
end

section
/-!
PROOFS. The dictionary written by a host, CANopen and flits keep the invariant; then every command and every step does.
-/
namespace Sys2Proof.InvariantProofs
open Sys2Proof Sys2Proof.Machine
set_option Elab.async false

variable {s₀ s : State}

/-! ### HostWrites -/

theorem Keeps.commitClass {k} (h : Keeps s₀ s) : Keeps s₀ (s.commitClass k).2 := by
  unfold State.commitClass
  extract_lets
  split
  exacts [h.logFault, .iteSnd h h.other]

theorem Keeps.consolNow {v} (h : Keeps s₀ s) : Keeps s₀ (s.consolNow v).2 :=
  .iteSnd (.pair h.modLearning) h

theorem Keeps.restoreDefaults {v store} (h : Keeps s₀ s) : Keeps s₀ (s.restoreDefaults v store).2 := by
  unfold State.restoreDefaults
  extract_lets s1
  have h1 : Keeps s₀ s1 := h.defaultRwp
  exact .iteSnd h (h1.foldl (fun _ _ h => h.reinDrive)).persistCommit

theorem Keeps.clearHistory {v} (h : Keeps s₀ s) : Keeps s₀ (s.clearHistory v).2 :=
  .iteSnd h (.pair (h.foldl (fun _ _ h => h.setReg)))

theorem Keeps.qctrl {v} (h : Keeps s₀ s) : Keeps s₀ (s.qctrl v).2 := by
  unfold State.qctrl
  split
  · exact h
  · split
    · exact h
    · extract_lets t
      have ht : Keeps s₀ t := h.ctrl
      exact ht

theorem Keeps.engCtrl {e v} (h : Keeps s₀ s) : Keeps s₀ (s.engCtrl e v).2 := by
  unfold State.engCtrl
  split
  exacts [h.engDrain, h.engAbort, h.engEnable, h]

theorem Keeps.armOr {v} {arm disarm : Status × State} (harm : Keeps s₀ arm.2) (hdisarm : Keeps s₀ disarm.2)
    (h : Keeps s₀ s) : Keeps s₀ (armOr v arm disarm s).2 := by
  unfold Machine.armOr
  split
  exacts [hdisarm, harm, h]

theorem Keeps.afterWrite {index} (h : Keeps s₀ s) : Keeps s₀ (s.afterWrite index) :=
  .ite h.reinAssert.reinDrive h

theorem fabricCommand_offers {index sub v f} (h : Keeps s₀ s) : Offers Prod.snd s₀ (s.fabricCommand index sub v f) :=
  .ite (.some (.iteSnd h.commitClass h)) (.ite (.some (.armOr h.routeArm h.routeDisarm h))
    (.ite (.some (.iteSnd h.routeSwitch h)) (.ite (.some (.armOr h.schedArm h.schedDisarm h))
    (.ite (.some (.iteSnd h.schedSwitch h)) (.ite (.some h.consolNow) (.ite (.some h.engCtrl) (.ite (.some h.qpolicy)
    (.ite (.some h.qctrl) .none))))))))

theorem deviceCommand_offers {p index sub v f} (h : Keeps s₀ s) :
    Offers Prod.snd s₀ (s.deviceCommand p index sub v f) :=
  .ite (.some h.setDescriptor) (.ite (.some (.iteSnd h.retrain h)) (.ite (.some (.iteSnd h.sendSpur h))
    (.ite (.some h.writeGctrl) (.ite (.some h.writePer) (.ite (.some h.writeCmp) (.ite (.some (.iteSnd h.request h))
    (.ite (.some h.writeAcctMode) (.ite (.some (.iteSnd h.duePlan h)) (.ite (.some h.restoreDefaults)
    (.ite (.some (.iteSnd h.clearFlog h)) (.ite (.some (.iteSnd h.dump h)) .none)))))))))))

theorem Keeps.writeValue {p o v f} (h : Keeps s₀ s) : Keeps s₀ (s.writeValue p o v f).2 := by
  unfold State.writeValue
  extract_lets r s1
  have hr : Keeps s₀ r.2 := h.writePlain
  have h1 : Keeps s₀ s1 := hr.afterWrite
  split
  next r e => exact fabricCommand_offers h r e
  next =>
    split
    next r e => exact deviceCommand_offers h r e
    next => exact .iteSnd hr (.iteSnd h1.persistCommit h1)

theorem Keeps.writeObj {p index sub data f} (h : Keeps s₀ s) : Keeps s₀ (s.writeObj p index sub data f).2 := by
  unfold State.writeObj
  split
  · exact h
  · split
    · split
      exacts [.iteSnd (.iteSnd h.clearHistory h) h, .iteSnd h (.iteSnd h h.writeValue)]
    · exact h

theorem Keeps.readAny {p inUse index sub} (h : Keeps s₀ s) : Keeps s₀ (s.readAny p inUse index sub).2.2 := by
  unfold State.readAny
  extract_lets r c
  have hr : Keeps s₀ r.2.2 := h.readPath
  have hc : Keeps s₀ c.2 := h.readCap
  exact .iteThird hr (.iteThird hc (.iteThird h hr))

theorem execDictObjectWrite_answers {path index sub data f} (h : Keeps s₀ s) :
    Answers s₀ (execDictObjectWrite path index sub data f s) := by
  unfold execDictObjectWrite
  extract_lets r
  have hr : Keeps s₀ r.2 := h.writeObj
  exact .next hr.respond

theorem execRcRead_answers {path index sub} (h : Keeps s₀ s) : Answers s₀ (execRcRead path index sub s) := by
  unfold execRcRead
  extract_lets r
  have hr : Keeps s₀ r.2.2 := h.readAny
  split
  exacts [.next h.respond, .ite (.next h) (.next hr.respond)]

theorem execClassCommit_answers {path k} (h : Keeps s₀ s) : Answers s₀ (execClassCommit path k s) :=
  .next (h.writeObject (fun _ h => h.commitClass))

theorem execConsolNow_answers {path v} (h : Keeps s₀ s) : Answers s₀ (execConsolNow path v s) :=
  .next (h.writeObject (fun _ h => h.consolNow))

theorem execRestoreDefaults_answers {path v store} (h : Keeps s₀ s) : Answers s₀ (execRestoreDefaults path v store s) :=
  .next (h.writeObject (fun _ h => h.restoreDefaults))

theorem execEmcyHistoryClear_answers {path v} (h : Keeps s₀ s) : Answers s₀ (execEmcyHistoryClear path v s) :=
  .next (h.writeObject (fun _ h => h.clearHistory))

theorem Keeps.overrideRein {p v} (h : Keeps s₀ s) : Keeps s₀ (s.overrideRein p v).2 :=
  .iteSnd h h.setReg.afterWrite

theorem execReinOverrideWrite_answers {path p v} (h : Keeps s₀ s) : Answers s₀ (execReinOverrideWrite path p v s) :=
  .next (h.writeObject (fun _ h => h.overrideRein))

theorem Keeps.forwardAccess {a} (h : Keeps s₀ s) : Keeps s₀ (s.forwardAccess a) := h.other

theorem execDictRead_answers {x} (h : Keeps s₀ s) : Answers s₀ (execDictRead x s) :=
  .next (h.htp (fun _ h => .iteSnd h (.iteSnd h.readAny h.forwardAccess)))

theorem Keeps.dictWrite {x w f} (h : Keeps s₀ s) : Keeps s₀ (s.dictWrite x w f).2 := by
  unfold State.dictWrite
  extract_lets r
  have hr : Keeps s₀ r.2 := h.writeObj
  exact .iteSnd hr h.forwardAccess

theorem Keeps.dropStaged {p} (h : Keeps s₀ s) : Keeps s₀ (s.dropStaged p) := by
  unfold State.dropStaged
  split
  exacts [.ite h.modSession.bump h, h]

theorem Keeps.dictSegment {x f} (h : Keeps s₀ s) : Keeps s₀ (s.dictSegment x f).2 := by
  unfold State.dictSegment
  extract_lets _ _ s2
  have h2 : Keeps s₀ s2 := .ite h.dropStaged h
  exact .iteSnd h2.dropStaged (.iteSnd (.pair h2.modSession) (.iteSnd h2.dropStaged h2.modSession.dictWrite))

theorem execDictWrite_answers {x f} (h : Keeps s₀ s) : Answers s₀ (execDictWrite x f s) :=
  .next (h.htp (fun _ h => .iteSnd h h.dictSegment))

theorem Keeps.sendPiece {a body} (h : Keeps s₀ s) : Keeps s₀ (s.sendPiece a body) :=
  h.sendCtrl

theorem Keeps.modRemote {tag f} (h : Keeps s₀ s) : Keeps s₀ (s.modRemote tag f) := h.other

theorem execRemoteRead_answers (h : Keeps s₀ s) : Answers s₀ (execRemoteRead s) := by
  unfold execRemoteRead
  split
  · exact .next h
  · extract_lets _ s1
    have h1 : Keeps s₀ s1 := h.sendPiece
    exact .next h1.modRemote

theorem execRemoteWrite_answers (h : Keeps s₀ s) : Answers s₀ (execRemoteWrite s) := by
  unfold execRemoteWrite
  split
  · exact .next h
  · extract_lets _ s1
    have h1 : Keeps s₀ s1 := h.foldl fun _ _ h => h.sendPiece
    exact .next h1.modRemote

theorem Keeps.remoteDone {a st data} (h : Keeps s₀ s) : Keeps s₀ (s.remoteDone a st data) := by
  unfold State.remoteDone
  extract_lets _ s1
  have h1 : Keeps s₀ s1 := h.other
  exact h1.answer

theorem Keeps.remoteReply {tag st len offset data} (h : Keeps s₀ s) :
    Keeps s₀ (s.remoteReply tag st len offset data) := by
  unfold State.remoteReply
  split
  · exact h
  · extract_lets
    split
    exacts [.ite (.ite h.remoteDone h) (.ite h (.ite h.remoteDone h.modRemote)), h.remoteDone]

theorem execRemoteTimeout_answers (h : Keeps s₀ s) : Answers s₀ (execRemoteTimeout s) := by
  unfold execRemoteTimeout
  split
  exacts [.next h, .next h.remoteDone.bump]

theorem Keeps.replyPiece {src tag op st offset len data} (h : Keeps s₀ s) :
    Keeps s₀ (s.replyPiece src tag op st offset len data) :=
  h.sendCtrl

theorem Keeps.dropServed {src tag} (h : Keeps s₀ s) : Keeps s₀ (s.dropServed src tag) := h.other

theorem Keeps.serveRead {src tag index sub len offset} (h : Keeps s₀ s) :
    Keeps s₀ (s.serveRead src tag index sub len offset) := by
  unfold State.serveRead
  extract_lets _ held r _ s1 _ _ s2
  have hr : Keeps s₀ r.2.2 := by
    unfold r
    cases held
    exacts [h.readAny, h.dropServed]
  have h1 : Keeps s₀ s1 := hr
  have h2 : Keeps s₀ s2 := .ite h1.other h1
  exact h2.replyPiece

theorem Keeps.serveWrite {src tag index sub offset more data f} (h : Keeps s₀ s) :
    Keeps s₀ (s.serveWrite src tag index sub offset more data f) := by
  unfold State.serveWrite
  extract_lets _ _ s1 _ r
  have h1 : Keeps s₀ s1 := h.dropServed
  have hr : Keeps s₀ r.2 := h1.writeObj
  exact .ite (.replyPiece (.ite h1.bump h1)) (.ite h1.other.replyPiece hr.replyPiece)

theorem Keeps.serveCtrl {src tag body f} (h : Keeps s₀ s) : Keeps s₀ (s.serveCtrl src tag body f) := by
  unfold State.serveCtrl
  extract_lets
  split
  exacts [h.serveRead, h.serveWrite, h.replyPiece]

/-! ### CanOpen -/

theorem Keeps.canFrame {m f} (h : Keeps s₀ s) (hf : ∀ s, Keeps s₀ s → Keeps s₀ (f s)) : Keeps s₀ (s.canFrame m f) :=
  .ite (hf _ h.bump) (.ite h.modPower h)

theorem Keeps.nmt {cs node f} (h : Keeps s₀ s) (hf : ∀ s, Keeps s₀ s → Keeps s₀ (f s)) : Keeps s₀ (s.nmt cs node f) :=
  h.canFrame (fun _ h => .ite (hf _ h) h)

theorem Keeps.nmtStart {node} (h : Keeps s₀ s) : Keeps s₀ (s.nmtStart node) :=
  h.nmt fun s h => by
    have h1 : Keeps s₀ (s.setReg Reg.NMT_STATE 5) := h.setReg
    exact .ite h1 h1.other

theorem Keeps.nmtStop {node} (h : Keeps s₀ s) : Keeps s₀ (s.nmtStop node) :=
  h.nmt (fun _ h => h.dropTransfer.setReg)

theorem Keeps.nmtPreoperational {node} (h : Keeps s₀ s) : Keeps s₀ (s.nmtPreoperational node) :=
  h.nmt (fun _ h => h.setReg)

theorem Keeps.restoreObjects {p} (h : Keeps s₀ s) : Keeps s₀ (s.restoreObjects p) := by
  unfold State.restoreObjects
  extract_lets s1
  have h1 : Keeps s₀ s1 := h.other
  split
  exacts [h1, h1.foldl (fun _ _ h => h.loadEntry)]

theorem Keeps.bootCan (h : Keeps s₀ s) : Keeps s₀ (s.bootCan) := by
  unfold State.bootCan
  extract_lets _ _ s1
  have h1 : Keeps s₀ s1 := h.other
  exact h1.setReg.canSend

theorem Keeps.nmtResetNode {node} (h : Keeps s₀ s) : Keeps s₀ (s.nmtResetNode node) :=
  h.nmt (fun _ h => h.dropTransfer.restoreObjects.bootCan)

theorem Keeps.nmtResetCommunication {node} (h : Keeps s₀ s) : Keeps s₀ (s.nmtResetCommunication node) :=
  h.nmt (fun _ h => h.dropTransfer.restoreObjects.bootCan)

theorem Keeps.nmtFrame {cs node} (h : Keeps s₀ s) : Keeps s₀ (s.nmtFrame cs node) := by
  unfold State.nmtFrame
  split
  exacts [h.nmtStart, h.nmtStop, h.nmtPreoperational, h.nmtResetNode, h.nmtResetCommunication,
    h.canFrame (fun _ h => h)]

theorem execNmtStart_answers {node} (h : Keeps s₀ s) : Answers s₀ (execNmtStart node s) :=
  .next h.nmtStart

theorem execNmtStop_answers {node} (h : Keeps s₀ s) : Answers s₀ (execNmtStop node s) :=
  .next h.nmtStop

theorem execNmtEnterPreoperational_answers {node} (h : Keeps s₀ s) : Answers s₀ (execNmtEnterPreoperational node s) :=
  .next h.nmtPreoperational

theorem execNmtResetNode_answers {node} (h : Keeps s₀ s) : Answers s₀ (execNmtResetNode node s) :=
  .next h.nmtResetNode

theorem execNmtResetCommunication_answers {node} (h : Keeps s₀ s) : Answers s₀ (execNmtResetCommunication node s) :=
  .next h.nmtResetCommunication

theorem Keeps.sdoRespond {cmd index sub data} (h : Keeps s₀ s) : Keeps s₀ (s.sdoRespond cmd index sub data) :=
  h.canSend

theorem Keeps.sdoSegment {cmd data} (h : Keeps s₀ s) : Keeps s₀ (s.sdoSegment cmd data) :=
  h.canSend

theorem Keeps.sdoApply {index sub data f ok} (h : Keeps s₀ s) (hok : ∀ s, Keeps s₀ s → Keeps s₀ (ok s)) :
    Keeps s₀ (s.sdoApply index sub data f ok) := by
  unfold State.sdoApply
  extract_lets r t
  have hr : Keeps s₀ r.2 := h.writeObj
  have ht : Keeps s₀ t := hr.respond
  exact .ite (hok _ ht) ht.sdoAbort

theorem Keeps.sdoBegin {frame f} (h : Keeps s₀ s) : Keeps s₀ (s.sdoBegin frame f) := by
  unfold State.sdoBegin
  extract_lets _ _ _ s1
  have h1 : Keeps s₀ s1 := h.dropTransfer
  exact .ite (h1.sdoApply (fun _ h => h.sdoRespond)) h1.other.sdoRespond

theorem Keeps.sdoNext {frame f} (h : Keeps s₀ s) : Keeps s₀ (s.sdoNext frame f) := by
  unfold State.sdoNext
  extract_lets _ confirm
  split
  · exact h.sdoAbort
  · extract_lets data
    have hconfirm : ∀ t, Keeps s₀ t → Keeps s₀ (confirm t) := fun _ h => h.sdoSegment
    exact .ite h.sdoAbort (.ite (Keeps.sdoApply h.other hconfirm) (hconfirm _ h.other))

theorem Keeps.sdoDownload {frame f} (h : Keeps s₀ s) : Keeps s₀ (s.sdoDownload frame f) :=
  h.canFrame (fun _ h => .ite h (by split; exacts [h.sdoNext, h.sdoBegin, h.dropTransfer, h]))

theorem execSdoDownload_answers {frame f} (h : Keeps s₀ s) : Answers s₀ (execSdoDownload frame f s) :=
  .next h.sdoDownload

theorem Keeps.sdoRead {index sub} (h : Keeps s₀ s) : Keeps s₀ (s.sdoRead index sub) := by
  unfold State.sdoRead
  extract_lets r t
  have hr : Keeps s₀ r.2.2 := h.dropTransfer.readAny
  have ht : Keeps s₀ t := hr.respond
  exact .ite ht.sdoAbort (.ite ht.sdoRespond ht.other.sdoRespond)

theorem Keeps.sdoMore {toggle} (h : Keeps s₀ s) : Keeps s₀ (s.sdoMore toggle) := by
  unfold State.sdoMore
  extract_lets
  split
  exacts [h.sdoAbort, .ite h.sdoAbort (.ite h.other.sdoSegment h.other.sdoSegment)]

theorem Keeps.sdoUpload {frame} (h : Keeps s₀ s) : Keeps s₀ (s.sdoUpload frame) :=
  h.canFrame (fun _ h => .ite h (by split; exacts [h.sdoRead, h.sdoMore, h]))

theorem execSdoUpload_answers {frame} (h : Keeps s₀ s) : Answers s₀ (execSdoUpload frame s) :=
  .next h.sdoUpload

theorem execSdoSegmentTimeout_answers (h : Keeps s₀ s) : Answers s₀ (execSdoSegmentTimeout s) := by
  unfold execSdoSegmentTimeout
  split
  exacts [.next h, .next (.ite h.sdoAbort h)]

theorem Keeps.rpdo {i data f} (h : Keeps s₀ s) (hf : ∀ s, Keeps s₀ s → Keeps s₀ (f s)) : Keeps s₀ (s.rpdo i data f) :=
  .ite h (h.canFrame (fun _ h => .ite h.bump (hf _ h)))

theorem Keeps.rpdo1 {data} (h : Keeps s₀ s) : Keeps s₀ (s.rpdo1 data) :=
  h.rpdo (fun _ h => .ite h (.ite h.push h.push.gaitRefused))

theorem execRpdo1Receive_answers {data} (h : Keeps s₀ s) : Answers s₀ (execRpdo1Receive data s) :=
  .next h.rpdo1

theorem Keeps.rpdo2 {data} (h : Keeps s₀ s) : Keeps s₀ (s.rpdo2 data) :=
  h.rpdo (fun _ h => h.foldl (fun _ _ h => .ite h (by split; exacts [h.overrideRein, h])))

theorem execRpdo2Receive_answers {data} (h : Keeps s₀ s) : Answers s₀ (execRpdo2Receive data s) :=
  .next h.rpdo2

theorem execTpdoEventTimer_answers {i} (h : Keeps s₀ s) : Answers s₀ (execTpdoEventTimer i s) := by
  unfold execTpdoEventTimer
  extract_lets s1
  have h1 : Keeps s₀ s1 := h.canSend
  exact .ite (.next h) (.next h1.other)

theorem execHeartbeatTimer_answers (h : Keeps s₀ s) : Answers s₀ (execHeartbeatTimer s) :=
  .ite (.next h) (.next h.other.canSend)

theorem execCanBusError_answers {frame into} (h : Keeps s₀ s) : Answers s₀ (execCanBusError frame into s) := by
  unfold execCanBusError
  extract_lets s1
  have h1 : Keeps s₀ s1 := .setReg (.ite h.bump h)
  exact .ite (.next h) (.next (.ite h1.bump h1))

theorem execBusoffRecovery_answers (h : Keeps s₀ s) : Answers s₀ (execBusoffRecovery s) := by
  unfold execBusoffRecovery
  extract_lets s1 _ s2 s3
  have h1 : Keeps s₀ s1 := h.setReg
  have h2 : Keeps s₀ s2 := h1.other
  have h3 : Keeps s₀ s3 := .ite h2 (h2.foldl (fun _ _ h => h.canSend))
  exact .ite (.next h) (.next h3.logFault.emcy)

theorem Keeps.canTake {id data f} (h : Keeps s₀ s) : Keeps s₀ (s.canTake id data f) :=
  .ite h.nmtFrame (.ite (.ite h.sdoUpload h.sdoDownload) (.ite h.rpdo1 (.ite h.rpdo2 (h.canFrame (fun _ h => h)))))

theorem Keeps.takeHeld (h : Keeps s₀ s) : Keeps s₀ (s.takeHeld) :=
  h.modPower.foldl fun _ _ h => h.canTake

theorem execHandoverTimeout_answers (h : Keeps s₀ s) : Answers s₀ (execHandoverTimeout s) := by
  unfold execHandoverTimeout
  split
  exacts [.next h, .next (.ite h.handoverFails.takeHeld h)]

theorem execWake_answers {w} (h : Keeps s₀ s) : Answers s₀ (execWake w s) := by
  unfold execWake
  extract_lets t
  have ht : Keeps s₀ t := h.wakeBy
  exact .next (.ite ht.takeHeld ht)

/-! ### Flits -/

theorem Keeps.freePlace {l pool} (h : Keeps s₀ s) : Keeps s₀ (s.freePlace l pool) := h.other

theorem Keeps.takeEventFlit {l cls x codes} (h : Keeps s₀ s) : Keeps s₀ (s.takeEventFlit l cls x codes) := by
  unfold State.takeEventFlit
  extract_lets _ _ _ s1 s2
  have h1 : Keeps s₀ s1 := h.bumpByAt.foldl fun _ _ h => h.lostDiscard
  have h2 : Keeps s₀ s2 := h1.other
  exact h2.modLink.settleRx

theorem Keeps.takeHitch {l x} (h : Keeps s₀ s) : Keeps s₀ (s.takeHitch l x) := by
  unfold State.takeHitch
  extract_lets
  split
  · exact h.other
  · split
    exacts [h.modLink, h]

theorem Keeps.takeSync {l x} (h : Keeps s₀ s) : Keeps s₀ (s.takeSync l x) := by
  unfold State.takeSync
  extract_lets _ _ _ s1
  have h1 : Keeps s₀ s1 := .ite h h.noteCounts
  split
  exacts [.ite h1.modFabric h, .ite h.modTether h, h.takeHitch]

theorem Keeps.takeCtrl {reply x f} (h : Keeps s₀ s) : Keeps s₀ (s.takeCtrl reply x f) :=
  .ite h.sendCtrl (.ite h.remoteReply h.serveCtrl)

theorem Keeps.takePayload {l x codes f} (h : Keeps s₀ s) : Keeps s₀ (s.takePayload l x codes f) := by
  unfold State.takePayload
  extract_lets
  split
  exacts [h.takeEventFlit, h.modTether.freePlace, h.takeCtrl.freePlace, h.takeCtrl.freePlace, h.takeSync.freePlace]

theorem Keeps.acceptFlit {l x codes f} (h : Keeps s₀ s) : Keeps s₀ (s.acceptFlit l x codes f) := by
  unfold State.acceptFlit
  extract_lets _ s1 s2
  have h1 : Keeps s₀ s1 := h.bumpAt.modLink
  have h2 : Keeps s₀ s2 := h1.bumpAt.logGated
  exact .ite (.ite h2.freePlace h2) h1.takePayload

theorem Keeps.nakFlit {l} (h : Keeps s₀ s) : Keeps s₀ (s.nakFlit l) :=
  .ite h h.bumpAt.modLink

theorem Keeps.resumeLink {l} (h : Keeps s₀ s) : Keeps s₀ (s.resumeLink l) :=
  .ite h.modLink.beginReplay h

theorem Keeps.noteCorrected {l corrected} (h : Keeps s₀ s) : Keeps s₀ (s.noteCorrected l corrected) := h.other

theorem Keeps.codewordLost {l} (h : Keeps s₀ s) : Keeps s₀ (s.codewordLost l) :=
  h.bumpAt.logGated.nakFlit

theorem Keeps.wakeByFlit {l} (h : Keeps s₀ s) : Keeps s₀ (s.wakeByFlit l) :=
  .ite h.wakeBy h

theorem Keeps.takeFlit {l flit codes f} (h : Keeps s₀ s) : Keeps s₀ (s.takeFlit l flit codes f) := by
  unfold State.takeFlit
  extract_lets _ s1
  have h1 : Keeps s₀ s1 := h.modLink
  exact .ite h.bumpAt.logGated.nakFlit (.ite h1.resumeLink (.ite h1.wakeByFlit.acceptFlit
    (.ite h1.bumpAt.modLink h1.bumpAt)))

theorem Keeps.feedLanes {l lanes adjust} (h : Keeps s₀ s) : Keeps s₀ (s.feedLanes l lanes adjust) := h.other

theorem execFlitReceive_answers {l lanes adjust codes f} (h : Keeps s₀ s) :
    Answers s₀ (execFlitReceive l lanes adjust codes f s) := by
  unfold execFlitReceive
  extract_lets _ s1 _ s2
  have h1 : Keeps s₀ s1 := h.feedLanes
  have h2 : Keeps s₀ s2 := h1.setLink
  split
  · exact .next h
  · split
    · exact .next h2
    · exact .next h2.codewordLost
    · split
      exacts [.next h2.codewordLost, .next h2.noteCorrected.takeFlit]

/-! ### Idle -/

theorem Keeps.idle (h : Keeps s₀ s) : Keeps s₀ (s.idle) := by
  unfold State.idle
  extract_lets s1
  have h1 : Keeps s₀ s1 := .ite h.other h.other
  exact h1.releaseTx.releaseTx

/-! ### The step -/

/-- Whatever command runs, its outcome keeps the waiting commands, the variant and the invariant. -/
theorem exec_keeps (c : Instr) (s : State) : Answers s (exec c s) := by
  have h := Keeps.refl s
  cases c with
  | nop _ => exact execNop_answers h
  | hitchSignal _ => exact execHitchSignal_answers h
  | hitchWait _ => exact execHitchWait_answers h
  | hitchSet _ => exact execHitchSet_answers h
  | hitchBarrier _ => exact execHitchBarrier_answers h
  | hitchDump _ => exact execHitchDump_answers h
  | step _ => exact execStep_answers h
  | gait => exact execGait_answers h
  | learnEpoch => exact execLearnEpoch_answers h
  | checkpoint _ => exact execCheckpoint_answers h
  | restore _ => exact execRestore_answers h
  | loadSegment _ => exact execLoadSegment_answers h
  | harnessLoad => exact execHarnessLoad_answers h
  | harnessUnload => exact execHarnessUnload_answers h
  | denseGemm => exact execDenseGemm_answers h
  | denseConv => exact execDenseConv_answers h
  | move _ => exact execMove_answers h
  | fill => exact execFill_answers h
  | mapLoad => exact execMapLoad_answers h
  | arm => exact execArm_answers h
  | disarm => exact execDisarm_answers h
  | groupDef => exact execGroupDef_answers h
  | groupClear => exact execGroupClear_answers h
  | tilestat => exact execTilestat_answers h
  | gcmSeal => exact execGcmSeal_answers h
  | gcmOpen => exact execGcmOpen_answers h
  | sha384 => exact execSha384_answers h
  | ecdsaSign => exact execEcdsaSign_answers h
  | ecdsaVerify => exact execEcdsaVerify_answers h
  | xtsKeyset => exact execXtsKeyset_answers h
  | frcInvalidate => exact execFrcInvalidate_answers h
  | commandStart _ _ _ => exact execCommandStart_answers h
  | heldRecordWrite _ => exact execHeldRecordWrite_answers h
  | push _ _ _ _ => exact execPush_answers h
  | consume _ _ _ _ => exact execConsume_answers h
  | cqSeal _ _ _ _ => exact execCqSeal_answers h
  | post _ _ _ _ => exact execPost_answers h
  | qDrain _ _ _ => exact execQDrain_answers h
  | qAbort _ _ _ => exact execQAbort_answers h
  | qEnable _ _ _ => exact execQEnable_answers h
  | qReset _ _ _ => exact execQReset_answers h
  | qClose _ _ _ => exact execQClose_answers h
  | qOpen _ _ _ => exact execQOpen_answers h
  | qClear _ _ _ _ => exact execQClear_answers h
  | qpolicyWrite _ _ => exact execQpolicyWrite_answers h
  | staleTail _ => exact execStaleTail_answers h
  | engDrain _ _ => exact execEngDrain_answers h
  | engAbort _ _ => exact execEngAbort_answers h
  | engEnable _ _ => exact execEngEnable_answers h
  | setAliasWrite _ _ _ => exact execSetAliasWrite_answers h
  | clearAliasWrite _ _ _ => exact execClearAliasWrite_answers h
  | windowDescriptorWrite _ _ _ _ => exact execWindowDescriptorWrite_answers h
  | windowConsume _ _ _ _ => exact execWindowConsume_answers h
  | windowClear _ _ _ _ => exact execWindowClear_answers h
  | addressAccess _ _ _ _ _ => exact execAddressAccess_answers h
  | commonsBankGrant _ _ => exact execCommonsBankGrant_answers h
  | neuronWordWrite _ _ _ _ _ => exact execNeuronWordWrite_answers h
  | rowTableWrite _ _ _ => exact execRowTableWrite_answers h
  | dictObjectWrite _ _ _ _ _ => exact execDictObjectWrite_answers h
  | rcRead _ _ _ => exact execRcRead_answers h
  | classCommit _ _ => exact execClassCommit_answers h
  | routeArm _ => exact execRouteArm_answers h
  | routeDisarm _ => exact execRouteDisarm_answers h
  | routeSwitch _ _ => exact execRouteSwitch_answers h
  | schedArm _ => exact execSchedArm_answers h
  | schedDisarm _ => exact execSchedDisarm_answers h
  | schedSwitch _ => exact execSchedSwitch_answers h
  | schedVersionSwitch => exact execSchedVersionSwitch_answers h
  | consolNow _ _ => exact execConsolNow_answers h
  | restoreDefaults _ _ _ => exact execRestoreDefaults_answers h
  | flogClear _ _ => exact execFlogClear_answers h
  | dumpNow _ _ => exact execDumpNow_answers h
  | farrierNow _ _ => exact execFarrierNow_answers h
  | pwrReqRun _ => exact execPwrReqRun_answers h
  | pwrReqIdle _ => exact execPwrReqIdle_answers h
  | pwrReqHold _ => exact execPwrReqHold_answers h
  | pwrReqWatch _ => exact execPwrReqWatch_answers h
  | pwrReqOff _ => exact execPwrReqOff_answers h
  | retrainFast _ _ => exact execRetrainFast_answers h
  | retrainFull _ _ => exact execRetrainFull_answers h
  | retrainRestoreLanes _ _ => exact execRetrainRestoreLanes_answers h
  | retrainTakeDown _ _ => exact execRetrainTakeDown_answers h
  | retrainBringUp _ _ => exact execRetrainBringUp_answers h
  | spurSend _ _ _ => exact execSpurSend_answers h
  | acctModeWrite _ _ => exact execAcctModeWrite_answers h
  | emcyHistoryClear _ _ => exact execEmcyHistoryClear_answers h
  | reinOverrideWrite _ _ _ => exact execReinOverrideWrite_answers h
  | timerPerWrite _ _ _ => exact execTimerPerWrite_answers h
  | timerCmpWrite _ _ _ => exact execTimerCmpWrite_answers h
  | gctrlWrite _ _ _ => exact execGctrlWrite_answers h
  | capRead _ _ => exact execCapRead_answers h
  | doorbellRead _ _ => exact execDoorbellRead_answers h
  | seqException _ _ => exact execSeqException_answers h
  | hello _ => exact execHello_answers h
  | dictRead _ => exact execDictRead_answers h
  | dictWrite _ _ => exact execDictWrite_answers h
  | qPush _ => exact execQPush_answers h
  | qConsume _ => exact execQConsume_answers h
  | memRead _ => exact execMemRead_answers h
  | memWrite _ _ => exact execMemWrite_answers h
  | memWriteTimeout _ _ => exact execMemWriteTimeout_answers h
  | notifySet _ => exact execNotifySet_answers h
  | bye _ => exact execBye_answers h
  | htpSessionTimeout _ => exact execHtpSessionTimeout_answers h
  | usbBusReset _ _ => exact execUsbBusReset_answers h
  | usbResume => exact execUsbResume_answers h
  | usbSuspend => exact execUsbSuspend_answers h
  | updBegin _ _ => exact execUpdBegin_answers h
  | updBlock _ => exact execUpdBlock_answers h
  | chainBlockReceive _ => exact execChainBlockReceive_answers h
  | updVerify _ _ _ => exact execUpdVerify_answers h
  | updActivate _ _ _ => exact execUpdActivate_answers h
  | handoverTimeout => exact execHandoverTimeout_answers h
  | updCommit _ => exact execUpdCommit_answers h
  | updRollback _ _ _ => exact execUpdRollback_answers h
  | updAbort _ => exact execUpdAbort_answers h
  | updStatus _ => exact execUpdStatus_answers h
  | microcodeSwap _ => exact execMicrocodeSwap_answers h
  | probationExpiry => exact execProbationExpiry_answers h
  | deferredMicrocodeSwap => exact execDeferredMicrocodeSwap_answers h
  | recoveryBoot => exact execRecoveryBoot_answers h
  | idGet _ => exact execIdGet_answers h
  | attest _ => exact execAttest_answers h
  | challenge _ => exact execChallenge_answers h
  | takeOwnership _ => exact execTakeOwnership_answers h
  | release _ => exact execRelease_answers h
  | retire _ => exact execRetire_answers h
  | setLock _ => exact execSetLock_answers h
  | setTamperEn _ => exact execSetTamperEn_answers h
  | provision _ => exact execProvision_answers h
  | lifecycleRestart => exact execLifecycleRestart_answers h
  | ecallOpenHarness _ _ => exact execEcallOpenHarness_answers h
  | ecallAttest _ _ => exact execEcallAttest_answers h
  | ecallOwnerOp _ => exact execEcallOwnerOp_answers h
  | ecallUnsealKey _ _ _ => exact execEcallUnsealKey_answers h
  | ecallVerifyImage _ _ => exact execEcallVerifyImage_answers h
  | ecallChallenge _ => exact execEcallChallenge_answers h
  | nmtStart _ => exact execNmtStart_answers h
  | nmtStop _ => exact execNmtStop_answers h
  | nmtEnterPreoperational _ => exact execNmtEnterPreoperational_answers h
  | nmtResetNode _ => exact execNmtResetNode_answers h
  | nmtResetCommunication _ => exact execNmtResetCommunication_answers h
  | sdoDownload _ _ => exact execSdoDownload_answers h
  | sdoUpload _ => exact execSdoUpload_answers h
  | sdoSegmentTimeout => exact execSdoSegmentTimeout_answers h
  | rpdo1Receive _ => exact execRpdo1Receive_answers h
  | rpdo2Receive _ => exact execRpdo2Receive_answers h
  | tpdoEventTimer _ => exact execTpdoEventTimer_answers h
  | heartbeatTimer => exact execHeartbeatTimer_answers h
  | busoffRecovery => exact execBusoffRecovery_answers h
  | remoteRead => exact execRemoteRead_answers h
  | remoteWrite => exact execRemoteWrite_answers h
  | remoteTimeout => exact execRemoteTimeout_answers h
  | stepRelease => exact execStepRelease_answers h
  | stepTimerNominal => exact execStepTimerNominal_answers h
  | releaseBroadcastReceive _ _ => exact execReleaseBroadcastReceive_answers h
  | deliveryBegin _ _ => exact execDeliveryBegin_answers h
  | eventExpand _ _ _ _ => exact execEventExpand_answers h
  | deliveryEnd _ _ => exact execDeliveryEnd_answers h
  | updatePhase _ _ _ => exact execUpdatePhase_answers h
  | destListRead _ _ _ _ => exact execDestListRead_answers h
  | holdbackRelease _ _ _ => exact execHoldbackRelease_answers h
  | routerArrival _ _ => exact execRouterArrival_answers h
  | routerDepart _ _ => exact execRouterDepart_answers h
  | creditReturn _ _ => exact execCreditReturn_answers h
  | multicastRequest _ _ => exact execMulticastRequest_answers h
  | multicastExpand _ => exact execMulticastExpand_answers h
  | gatewayTransit _ => exact execGatewayTransit_answers h
  | sequencerInject _ _ => exact execSequencerInject_answers h
  | tileAccept _ _ _ => exact execTileAccept_answers h
  | serviceEventAccept _ _ => exact execServiceEventAccept_answers h
  | spillBufferDrain _ => exact execSpillBufferDrain_answers h
  | spillReadback _ => exact execSpillReadback_answers h
  | syncReductionRound _ _ => exact execSyncReductionRound_answers h
  | completeBroadcastReceive _ => exact execCompleteBroadcastReceive_answers h
  | streamWindowClose => exact execStreamWindowClose_answers h
  | overrun => exact execOverrun_answers h
  | carryDrop _ _ => exact execCarryDrop_answers h
  | fetchIssue _ _ => exact execFetchIssue_answers h
  | fetchLineArrive _ _ => exact execFetchLineArrive_answers h
  | hintIssue _ _ => exact execHintIssue_answers h
  | hintStale _ => exact execHintStale_answers h
  | remoteFarArrival _ => exact execRemoteFarArrival_answers h
  | remoteHoldbackRelease _ => exact execRemoteHoldbackRelease_answers h
  | bulkSlotMove _ _ _ _ _ => exact execBulkSlotMove_answers h
  | patrolScrub _ _ => exact execPatrolScrub_answers h
  | preReport _ _ => exact execPreReport_answers h
  | postReport _ _ => exact execPostReport_answers h
  | traceGroomVisit _ _ => exact execTraceGroomVisit_answers h
  | epochEnd => exact execEpochEnd_answers h
  | capture _ => exact execCapture_answers h
  | sweepRow _ _ => exact execSweepRow_answers h
  | sweepEnd => exact execSweepEnd_answers h
  | journalDrain _ => exact execJournalDrain_answers h
  | consolidationBegin _ => exact execConsolidationBegin_answers h
  | consolidationEnd _ => exact execConsolidationEnd_answers h
  | stablePageRemap _ _ => exact execStablePageRemap_answers h
  | w8pRecover _ => exact execW8pRecover_answers h
  | hitchOpApply _ _ => exact execHitchOpApply_answers h
  | hitchSubscribe _ => exact execHitchSubscribe_answers h
  | hitchUpdate _ _ => exact execHitchUpdate_answers h
  | syncNodeFail _ => exact execSyncNodeFail_answers h
  | csi2PacketReceive _ _ _ _ _ _ => exact execCsi2PacketReceive_answers h
  | ethFrameReceive _ _ _ => exact execEthFrameReceive_answers h
  | intakeInject _ => exact execIntakeInject_answers h
  | reinRelease _ => exact execReinRelease_answers h
  | pauseRepeat _ => exact execPauseRepeat_answers h
  | reinPinFault _ => exact execReinPinFault_answers h
  | trainingStateAdvance _ _ _ => exact execTrainingStateAdvance_answers h
  | trainingTimeout _ => exact execTrainingTimeout_answers h
  | linkRetryTimer _ => exact execLinkRetryTimer_answers h
  | flitReceive _ _ _ _ _ => exact execFlitReceive_answers h
  | ackTimer _ => exact execAckTimer_answers h
  | nakReceive _ => exact execNakReceive_answers h
  | replayTimeout _ => exact execReplayTimeout_answers h
  | flitTransmit _ => exact execFlitTransmit_answers h
  | stuckLinkReport _ _ => exact execStuckLinkReport_answers h
  | laneFault _ _ _ => exact execLaneFault_answers h
  | linkLoss _ => exact execLinkLoss_answers h
  | linkReconcile _ _ => exact execLinkReconcile_answers h
  | spanningTreeBuild _ _ _ _ _ => exact execSpanningTreeBuild_answers h
  | reduceRecordSend => exact execReduceRecordSend_answers h
  | broadcastReceive => exact execBroadcastReceive_answers h
  | spurDetect _ => exact execSpurDetect_answers h
  | parkReceive _ _ => exact execParkReceive_answers h
  | parkedLinkWake _ _ => exact execParkedLinkWake_answers h
  | parkAllowanceExpiry _ => exact execParkAllowanceExpiry_answers h
  | gtMatch _ => exact execGtMatch_answers h
  | gtWrap _ => exact execGtWrap_answers h
  | encEdge _ _ => exact execEncEdge_answers h
  | captureShadowLand _ => exact execCaptureShadowLand_answers h
  | sleepMakeup => exact execSleepMakeup_answers h
  | timerWake _ => exact execTimerWake_answers h
  | feedPresent _ _ => exact execFeedPresent_answers h
  | feedLost _ _ => exact execFeedLost_answers h
  | feedReversed _ => exact execFeedReversed_answers h
  | feedOvervoltage _ _ _ => exact execFeedOvervoltage_answers h
  | inrushBypass => exact execInrushBypass_answers h
  | holdupCheck _ => exact execHoldupCheck_answers h
  | braceEntry _ _ => exact execBraceEntry_answers h
  | braceExit _ => exact execBraceExit_answers h
  | lowInputEntry => exact execLowInputEntry_answers h
  | lowInputExit _ => exact execLowInputExit_answers h
  | railReset => exact execRailReset_answers h
  | lpregOverload => exact execLpregOverload_answers h
  | powerFail _ _ => exact execPowerFail_answers h
  | governorTick _ _ _ => exact execGovernorTick_answers h
  | governorLower => exact execGovernorLower_answers h
  | wake _ => exact execWake_answers h
  | ddrBackgroundTrainDone _ => exact execDdrBackgroundTrainDone_answers h
  | bringupStage _ => exact execBringupStage_answers h
  | bringupRetry => exact execBringupRetry_answers h
  | coreAlarm _ _ _ => exact execCoreAlarm_answers h
  | replanDue _ => exact execReplanDue_answers h
  | replan _ => exact execReplan_answers h
  | stableRefresh _ => exact execStableRefresh_answers h
  | tamperDetect _ => exact execTamperDetect_answers h
  | tamperRecheck _ => exact execTamperRecheck_answers h
  | tileHang _ _ _ _ => exact execTileHang_answers h
  | countSettleStart => exact execCountSettleStart_answers h
  | settleHoldReply _ _ => exact execSettleHoldReply_answers h
  | settle _ _ => exact execSettle_answers h
  | settleTimeout => exact execSettleTimeout_answers h
  | deviceLost _ => exact execDeviceLost_answers h
  | saddleWatchdog _ => exact execSaddleWatchdog_answers h
  | bridleCheck _ => exact execBridleCheck_answers h
  | bridleWatchdog => exact execBridleWatchdog_answers h
  | resetInput => exact execResetInput_answers h
  | resetInputRelease => exact execResetInputRelease_answers h
  | thermalShutdown _ => exact execThermalShutdown_answers h
  | geoChange _ => exact execGeoChange_answers h
  | vaonLimit _ _ => exact execVaonLimit_answers h
  | gtTick _ => exact execGtTick_answers h
  | ethLinkUpChange _ _ => exact execEthLinkUpChange_answers h
  | vbusArrival => exact execVbusArrival_answers h
  | ep0StandardRequest _ => exact execEp0StandardRequest_answers h
  | canBusError _ _ => exact execCanBusError_answers h

/-- Settles O50: no command touches the commands that wait or the variant. -/
theorem commandsKeepTheQueue : Obligations.CommandsKeepTheQueue := by
  intro c s t hexec
  have h := exec_keeps c s t hexec
  exact ⟨h.pending, h.variant⟩

/-- Settles O51: an idle cycle keeps the invariant, and so does every command,
  which runs without itself in the queue. -/
theorem everyStepKeepsTheInvariant : Obligations.EveryStepKeepsTheInvariant := by
  intro s t hinv hstep
  cases hq : s.pending with
  | nil =>
    rw [MachineProofs.step_nil hq] at hstep
    cases hstep
    exact (Keeps.refl s).idle.inv hinv
  | cons c rest =>
    rw [MachineProofs.step_cons hq] at hstep
    exact (exec_keeps c { s with pending := rest } t hstep).inv hinv

end Sys2Proof.InvariantProofs
end

section
/-!
PROOFS. What a fault-log entry leaves unchanged, and what one access to the address space does: where it lies outside every region
(R16), where it is denied (R17, R278), and as its region reads and takes it (R273, R274, R279, R280).
-/
namespace Sys2Proof.AccessProofs
open Sys2Proof Sys2Proof.Machine

/-! ### The fault log -/

/-- An entry of the log changes the log, FLOG_OVERWRITE and what leaves, and nothing else; it is the newest. -/
theorem logFault_frame (n : FaultNote) (s : State) : ∃ l q r o h,
    s.logFault n = { s with flog := l ++ [MachineProofs.noteEntry n s], flogSeq := q, regs := r, out := o, txHeld := h } ∧
      (r = s.regs ∨ r = (s.bump Reg.FLOG_OVERWRITE).regs) := by
  rw [State.logFault]
  by_cases hroom : s.flog.length < 1024
  · simp only [if_pos hroom]
    obtain ⟨o, h, heq⟩ := MachineProofs.notify_frame ..
    exact ⟨_, _, _, o, h, heq, .inl rfl⟩
  · simp only [if_neg hroom]
    obtain ⟨o, h, heq⟩ := MachineProofs.notify_frame ..
    exact ⟨_, _, _, o, h, heq, .inr rfl⟩

/-- A refused access is the newest entry of the log; only its counter and FLOG_OVERWRITE count. -/
theorem deny_frame (c : Obj) (m : Master) (st : Status) (a n : Nat) (s : State) : ∃ l q r o h,
    s.deny c m st a n = { s with
      flog := l ++ [MachineProofs.noteEntry { cls := .security, status := st, sev := some .info, unit := masterCode m, ref := a }
        (s.bumpBy c (linesOf a n))], flogSeq := q, regs := r, out := o, txHeld := h } ∧
      ∀ p : Obj, p.key ≠ c.key → p.key ≠ Reg.FLOG_OVERWRITE.key → ({ s with regs := r } : State).reg p = s.reg p := by
  obtain ⟨l, q, r, o, h, heq, hr⟩ := logFault_frame
    { cls := .security, status := st, sev := some .info, unit := masterCode m, ref := a } (s.bumpBy c (linesOf a n))
  refine ⟨l, q, r, o, h, heq, fun p hc hover => ?_⟩
  have hcount : (s.bumpBy c (linesOf a n)).reg p = s.reg p := State.reg_bumpBy_other s hc.symm _
  rcases hr with rfl | rfl
  · exact hcount
  · exact (State.reg_bumpBy_other (s.bumpBy c (linesOf a n)) hover.symm 1).trans hcount

/-! ### Where an address lies (R14) -/

section Regions

variable {v : Variant} {a : Nat}

/-- LPDDR5X stands last in the address space, so nothing lies beyond its usable capacity. -/
theorem regionOf_beyond (hbeyond : ddrBase + v.usable ≤ a) : regionOf v a = .nothing := by
  have hbase : ddrBase = 0x1000000000 := rfl
  unfold regionOf commonsSize controlBase tackBase queueBase hitchBase stableBase
  iterate 10 rw [if_neg (by omega)]

/-- An address of the set or clear aliases lies within the 512 KiB of the control banks. -/
theorem alias_offset {off : Nat} (hregion : regionOf v a = .setAlias off ∨ regionOf v a = .clearAlias off) : off < 0x80000 := by
  unfold regionOf at hregion
  simp only [ite_eq_iff, Region.setAlias.injEq, Region.clearAlias.injEq, reduceCtorEq, and_false, or_false,
    false_or] at hregion
  rcases hregion with ⟨-, -, hset, rfl⟩ | ⟨-, -, -, hclear, rfl⟩ <;> omega

/-- Behind an offset of the control banks stands a control word or a window control block. -/
theorem regionOf_control {off : Nat} (hoff : off < 0x80000) :
    regionOf v (controlBase + off) = .control off ∨ ∃ b w o, regionOf v (controlBase + off) = .windowBlock b w o := by
  unfold regionOf
  rw [if_neg (by simp only [controlBase, commonsSize]; omega), if_pos ⟨by omega, by omega⟩, Nat.add_sub_cancel_left]
  split
  · exact .inl rfl
  · exact .inr ⟨_, _, _, rfl⟩

theorem outside_nothing (hregion : regionOf v a = .nothing) : outside v a = true := by
  rw [outside, hregion]

end Regions

/-! ### What stands in the way of an access (R16, R273, R278) -/

section Check

variable {m : Master} {write : Bool} {a n : Nat} {s : State}

theorem accessCheck_outside (hout : outside s.variant a = true) :
    s.accessCheck m write a n = (.badFormat, s.badAddr m a n) := by
  rw [State.accessCheck, if_pos hout]

theorem accessCheck_denied {d : Option Obj × Bool} (hin : outside s.variant a = false) (hdenial : s.denial m write a = some d) :
    s.accessCheck m write a n = (.security, s.denied m a n d) := by
  simp [State.accessCheck, hin, hdenial]

theorem accessCheck_width (hin : outside s.variant a = false) (hdenial : s.denial m write a = none)
    (hjudge : judgesItself s.variant write a = false) (hwidth : n ∉ widthsAt s.variant write a ∨ a % n ≠ 0) :
    s.accessCheck m write a n = (.badFormat, s.badAddr m a n) := by
  simp [State.accessCheck, hin, hdenial, hjudge, hwidth]

theorem accessCheck_ok (hin : outside s.variant a = false) (hdenial : s.denial m write a = none)
    (hfit : judgesItself s.variant write a = true ∨ n ∈ widthsAt s.variant write a ∧ a % n = 0) :
    s.accessCheck m write a n = (.ok, s) := by
  rcases hfit with hjudge | ⟨hwidth, halign⟩
  · simp [State.accessCheck, hin, hdenial, hjudge]
  · simp [State.accessCheck, hin, hdenial, hwidth, halign]

end Check

/-! ### An access (R273) -/

section Access

variable {m : Master} {a n k : Nat} {data : List Byte} {x : Ecc} {s t : State} {st : Status}

/-- The state in which an access that took `k` retries of its hops arrives (R458). -/
abbrev arrived (s : State) (k : Nat) : State := s.bumpBy Reg.CTRL_RETRY k

theorem exec_arrives (acc : Access) : exec (.addressAccess m a acc x (.arrives k)) s = .next ((arrived s k).access m a acc x) := rfl

/-- A read that meets a bar is answered by it, with zeros. -/
theorem exec_read_barred (hcheck : (arrived s k).accessCheck m false a n = (st, t)) (hst : st ≠ .ok) :
    exec (.addressAccess m a (.read n) x (.arrives k)) s = .next (t.respond st (List.replicate n 0)) := by
  simp [exec_arrives, State.access, State.busRead, hcheck, hst]

/-- A write that meets a bar is answered by it. -/
theorem exec_write_barred (hcheck : (arrived s k).accessCheck m true a data.length = (st, t)) (hst : st ≠ .ok) :
    exec (.addressAccess m a (.write data) x (.arrives k)) s = .next (t.respond st) := by
  simp [exec_arrives, State.access, State.busWrite, hcheck, hst]

/-- A read that meets none is answered as its region reads, with what the code of its data found. -/
theorem exec_read_ok (hcheck : (arrived s k).accessCheck m false a n = (.ok, arrived s k)) :
    exec (.addressAccess m a (.read n) x (.arrives k)) s = .next (
      let r := (arrived s k).readRegion m a n
      let e := r.2.2.eccRead m a x
      e.2.respond (if r.1 = .ok then e.1 else r.1) r.2.1) := by
  simp [exec_arrives, State.access, State.busRead, hcheck]

/-- A write that meets none is answered by its region, unless a part of an LPDDR5X line is read for it. -/
theorem exec_write_ok (hcheck : (arrived s k).accessCheck m true a data.length = (.ok, arrived s k))
    (hddr : (regionOf (arrived s k).variant a).isDdr = false) :
    exec (.addressAccess m a (.write data) x (.arrives k)) s =
      .next (((arrived s k).writeRegion m a data).2.respond ((arrived s k).writeRegion m a data).1) := by
  have hbus : (arrived s k).busWrite m a data x = (arrived s k).writeRegion m a data := by
    simp only [State.busWrite, hcheck, ne_eq, not_true_eq_false, if_false]
    split
    case isTrue =>
      split
      case h_1 hregion =>
        rw [hregion] at hddr
        cases hddr
      case h_2 => rfl
    case isFalse => rfl
  rw [exec_arrives, State.access, hbus]

/-- A write of a part of a line is answered with what its read of the line found (R292). -/
theorem exec_write_ddr {off : Nat} (hcheck : (arrived s k).accessCheck m true a data.length = (.ok, arrived s k))
    (hregion : regionOf (arrived s k).variant a = .ddr off) :
    exec (.addressAccess m a (.write data) x (.arrives k)) s = .next (
      let r := (arrived s k).writeRegion m a data
      if data.length < 64 ∧ r.1 = .ok then (r.2.eccRead m a x).2.respond (r.2.eccRead m a x).1 else r.2.respond r.1) := by
  simp only [exec_arrives, State.access, State.busWrite, hcheck, hregion, ne_eq, not_true_eq_false, if_false]
  congr 1
  split <;> rfl

end Access

/-! ### Outside every region (R16) -/

section Outside

variable {m : Master} {a k : Nat} {x : Ecc} {s : State}

/-- Settles O42: nothing but the counters and the log, in which the attempt is the newest entry. -/
theorem accessOutsideEveryRegion : Obligations.AccessOutsideEveryRegion := by
  refine ⟨fun m a k acc x s hregion => ?_, fun _ _ => regionOf_beyond⟩
  have hcheck (write : Bool) (n : Nat) :
      (arrived s k).accessCheck m write a n = (.badFormat, (arrived s k).badAddr m a n) :=
    accessCheck_outside (outside_nothing hregion)
  have hcounted (p : Obj) (h : p.key ≠ Reg.CTRL_RETRY.key) : (arrived s k).reg p = s.reg p :=
    State.reg_bumpBy_other s h.symm k
  cases acc with
  | read n =>
    obtain ⟨l, q, r, o, h, heq, hreg⟩ := deny_frame Reg.BADADDR m .badFormat a n (arrived s k)
    refine ⟨_, exec_read_barred (hcheck false n) (by decide), rfl, ?_⟩
    rw [State.badAddr, heq]
    exact ⟨by rintro _ ⟨⟩; rfl, rfl, rfl, rfl, rfl, rfl, rfl,
      fun p hbad hover hretry => (hreg p hbad hover).trans (hcounted p hretry),
      _, List.getLast?_concat, rfl, rfl, rfl, rfl⟩
  | write data =>
    obtain ⟨l, q, r, o, h, heq, hreg⟩ := deny_frame Reg.BADADDR m .badFormat a data.length (arrived s k)
    refine ⟨_, exec_write_barred (hcheck true data.length) (by decide), rfl, ?_⟩
    rw [State.badAddr, heq]
    exact ⟨by rintro _ ⟨⟩, rfl, rfl, rfl, rfl, rfl, rfl,
      fun p hbad hover hretry => (hreg p hbad hover).trans (hcounted p hretry),
      _, List.getLast?_concat, rfl, rfl, rfl, rfl⟩

end Outside

/-! ### The Tack Room (R17) -/

section Tack

variable {m : Master} {a off k n : Nat} {x : Ecc} {write : Bool} {data : List Byte} {s : State}

theorem accessCheck_tack (hregion : regionOf s.variant a = .tack off) (hreach : reachesTack m = false) :
    s.accessCheck m write a n = (.security, s.denied m a n (some Reg.TACK_DENIED, true)) :=
  accessCheck_denied (by rw [outside, hregion]) (by simp [State.denial, hregion, hreach])

theorem denied_tack (hsaddle : m ≠ .saddle) :
    s.denied m a n (some Reg.TACK_DENIED, true) = s.deny Reg.TACK_DENIED m .security a n := by
  simp [State.denied, hsaddle]

/-- The Saddle is restarted besides (R426). -/
theorem denied_saddle : s.denied .saddle a n (some Reg.TACK_DENIED, true) =
    (s.deny Reg.TACK_DENIED .saddle .security a n).saddleRestart .security .security := by
  simp [State.denied]

/-- What a denied access leaves: the bytes as they were, the attempt in the log. -/
theorem deny_tack (st : Status) (d : List Byte) :
    let t := ((arrived s k).deny Reg.TACK_DENIED m .security a n).respond st d
    (∀ i, tackBase ≤ i → i < tackBase + tackSize → t.byteAt i = s.byteAt i) ∧
      ∃ e ∈ t.flog, e.ref = a % 2 ^ 48 ∧ e.status = .security ∧ e.cls = .security ∧ e.unit = masterCode m := by
  obtain ⟨l, q, r, o, h, heq, -⟩ := deny_frame Reg.TACK_DENIED m .security a n (arrived s k)
  rw [heq]
  exact ⟨fun i _ _ => rfl, _, List.mem_append_right _ (List.mem_singleton_self _), rfl, rfl, rfl, rfl⟩

theorem reachesTack_iff : reachesTack m = true ↔ m = .bridle ∨ ∃ q, m = .engine .crypto q := by
  cases m with
  | engine e q => cases e <;> simp [reachesTack]
  | _ => simp [reachesTack]

/-- Settles O43: the Tack Room's denial comes before anything is read or written. -/
theorem tackRoomIsDenied : Obligations.TackRoomIsDenied := by
  have hcheck {m : Master} {write : Bool} {a n off k : Nat} {s : State} (hregion : regionOf s.variant a = .tack off)
      (hreach : reachesTack m = false) : (arrived s k).accessCheck m write a n =
        (.security, (arrived s k).denied m a n (some Reg.TACK_DENIED, true)) := accessCheck_tack hregion hreach
  refine ⟨fun m a n off k x s hregion hreach hsaddle => ?_, fun m a off k data x s hregion hreach hsaddle => ?_,
    fun a n off k x s hregion => ?_, fun a off k data x s hregion => ?_, fun m => reachesTack_iff⟩
  · refine ⟨_, exec_read_barred (hcheck hregion hreach) (by decide), rfl, rfl, ?_⟩
    rw [denied_tack hsaddle]
    exact deny_tack _ _
  · refine ⟨_, exec_write_barred (hcheck hregion hreach) (by decide), rfl, ?_⟩
    rw [denied_tack hsaddle]
    exact deny_tack _ _
  · rw [exec_read_barred (hcheck hregion rfl) (by decide), denied_saddle]
  · rw [exec_write_barred (hcheck hregion rfl) (by decide), denied_saddle]

end Tack

/-! ### Commons (R273) -/

section Commons

variable {m : Master} {a bank off : Nat} {write : Bool} {data : List Byte} {s : State}

theorem accessCheck_commons {n : Nat} (hregion : regionOf s.variant a = .commons bank off) (hwidth : n ∈ [4, 8, 16, 32, 64])
    (halign : a % n = 0) (hfirm : a < firmwareArea ∨ reachesFirmware m = true) : s.accessCheck m write a n = (.ok, s) := by
  refine accessCheck_ok (by rw [outside, hregion]) ?_ (.inr ⟨by rwa [widthsAt, hregion], halign⟩)
  rcases hfirm with hlow | hreach
  · simp [State.denial, hregion, Nat.not_le.mpr hlow]
  · simp [State.denial, hregion, hreach]

/-- An entry put twice stands as it was put last. -/
theorem assoc_set_set {β : Type} (k : Nat) (v w : β) (l : Assoc β) : Assoc.set k v (Assoc.set k w l) = Assoc.set k v l := by
  induction l with
  | nil => simp [Assoc.set]
  | cons e l ih =>
    obtain ⟨j, u⟩ := e
    simp only [Assoc.set]
    split
    · simp [Assoc.set]
    · split
      · simp [Assoc.set]
      · simp only [Assoc.set, *, if_false]

/-- An access without retries leaves CTRL_RETRY at what the one before it left. -/
theorem arrived_again {t : State} (hregs : t.regs = (arrived s 0).regs) : arrived t 0 = t := by
  have hread : t.reg Reg.CTRL_RETRY = min (s.reg Reg.CTRL_RETRY) 0xFFFFFFFF := by
    rw [State.reg, hregs]
    exact State.reg_bumpBy_same s Reg.CTRL_RETRY 0
  have hcount : Reg.CTRL_RETRY.ty.count (t.reg Reg.CTRL_RETRY) 0 = min (s.reg Reg.CTRL_RETRY) 0xFFFFFFFF := by
    rw [hread]
    exact min_eq_left (min_le_right _ _)
  have hset : Assoc.set Reg.CTRL_RETRY.key (Reg.CTRL_RETRY.ty.count (t.reg Reg.CTRL_RETRY) 0) t.regs = t.regs := by
    rw [hcount, hregs]
    exact assoc_set_set _ _ _ _
  rw [arrived, State.bumpBy, State.setReg, hset]

/-- Settles O46: the bytes stored are read back, and memory keeps its form. -/
theorem commonsReadAfterWrite : Obligations.CommonsReadAfterWrite := by
  intro m m' a k off data s hmem hregion hwidth halign hfirm
  have hwrite : (arrived s 0).accessCheck m true a data.length = (.ok, arrived s 0) :=
    accessCheck_commons hregion hwidth halign (hfirm.imp_right And.left)
  have hstore : (arrived s 0).writeRegion m a data = (.ok, (arrived s 0).setBytes a data) := by
    rw [State.writeRegion]
    simp only [State.bumpBy_variant, hregion]
  refine ⟨((arrived s 0).setBytes a data).respond .ok, ?_, rfl, ?_, fun i hi => ?_, ?_⟩
  · rw [exec_write_ok hwrite (by simp only [State.bumpBy_variant, hregion, Region.isDdr]), hstore]
  · generalize ht : ((arrived s 0).setBytes a data).respond .ok = t
    have hagain : arrived t 0 = t := arrived_again (s := s) (by rw [← ht]; rfl)
    have hregion' : regionOf t.variant a = .commons k off := by rw [← ht]; exact hregion
    have hbytes : t.bytes a data.length = data := by
      rw [← ht, QueueProofs.bytes_congr (State.respond_mem ..) (State.respond_veils ..)]
      exact State.bytes_setBytes_same (s := arrived s 0) hmem a data
    have hread : (arrived t 0).accessCheck m' false a data.length = (.ok, arrived t 0) := by
      rw [hagain]
      exact accessCheck_commons hregion' hwidth halign (hfirm.imp_right And.right)
    rw [exec_read_ok hread, hagain]
    simp [State.readRegion, hregion', hbytes, State.eccRead]
  · exact State.byteAt_setBytes_outside (s := arrived s 0) hmem a i data hi
  · exact State.setBytes_wf (s := arrived s 0) hmem a data

end Commons

/-! ### What the regions read and take (R273, R274, R279, R280) -/

section Regions

variable {m : Master} {a n off : Nat} {data : List Byte} {s : State}

theorem readRegion_plain (hplain : (regionOf s.variant a).plain = true) : s.readRegion m a n = (.ok, s.bytes a n, s) := by
  rw [State.readRegion]
  split <;> simp_all [Region.plain]

theorem writeRegion_stores (hstores : (regionOf s.variant a).stores = true) :
    s.writeRegion m a data = (.ok, s.setBytes a data) := by
  rw [State.writeRegion]
  split <;> simp_all [Region.stores, Region.plain]

/-- Through its second address a control word, or a window control block, reads as a direct read of it does. -/
theorem aliasRead_direct (hoff : off < 0x80000) : s.aliasRead off n = s.readRegion m (controlBase + off) n := by
  rw [State.aliasRead, State.readRegion]
  rcases regionOf_control (v := s.variant) hoff with hword | ⟨b, w, o, hblock⟩
  · rw [hword]
  · rw [hblock]

theorem readRegion_alias (hregion : regionOf s.variant a = .setAlias off ∨ regionOf s.variant a = .clearAlias off) :
    s.readRegion m a n = s.readRegion m (controlBase + off) n := by
  rw [← aliasRead_direct (alias_offset hregion)]
  rcases hregion with h | h <;> rw [State.readRegion, h]

theorem noteRowWrite_noted (r : Status × State) :
    s.noteRowWrite (s.rowsIn a n) r = (r.1, if r.1 = .ok then s.noted r.2 a n else r.2) := by
  by_cases hok : r.1 = .ok
  · by_cases hmem : r.2.mem = s.mem <;> simp [State.noteRowWrite, State.noted, hok, hmem, Prod.ext_iff]
  · simp [State.noteRowWrite, hok]

theorem writeRegion_tile {c tl : Nat} (hregion : regionOf s.variant a = .tile c tl off) :
    s.writeRegion m a data = (let r := s.tileWrite m c tl off data
      (r.1, if r.1 = .ok then s.noted r.2 a data.length else r.2)) := by
  rw [State.writeRegion, hregion]
  exact noteRowWrite_noted _

theorem writeRegion_ddr (hregion : regionOf s.variant a = .ddr off) (hplain : s.farDirOwner a = none) :
    s.writeRegion m a data = (.ok, s.noted (s.setBytes a data) a data.length) := by
  rw [State.writeRegion, hregion]
  simp only [hplain]
  exact noteRowWrite_noted _

theorem writeRegion_directory {c : Nat} (hregion : regionOf s.variant a = .ddr off) (howner : s.farDirOwner a = some c) :
    s.writeRegion m a data =
      if s.fabricBusy then (.refused, s.bumpAt Reg.ROW_WIN_REFUSED c) else (.ok, s.setBytes a data) := by
  rw [State.writeRegion, hregion]
  simp only [howner, State.writeTables]

/-- What the error code of a read finds, in Commons and in LPDDR5X (R279, R292). -/
theorem eccRead_cases : s.eccRead m a .clean = (.ok, s) ∧
    (∀ bk off, regionOf s.variant a = .commons bk off →
      s.eccRead m a .corrected = (.ok, s.bump Reg.COMMONS_CORR) ∧
      s.eccRead m a .uncorrectable = (.eccUncorr, (s.bump Reg.COMMONS_UNCORR).logFault
        { cls := .other, status := .eccUncorr, unit := bk, sub := masterCode m, ref := a })) ∧
    (∀ off, regionOf s.variant a = .ddr off →
      s.eccRead m a .corrected = (.ok, s.bump Reg.DDR_CORR) ∧
      s.eccRead m a .uncorrectable = (.eccUncorr, (s.bump Reg.DDR_UNCORR).logFault
        { cls := .memUncorr, status := .eccUncorr, ref := a })) := by
  refine ⟨rfl, fun bk off h => ⟨?_, ?_⟩, fun off h => ⟨?_, ?_⟩⟩ <;> simp only [State.eccRead, h]

end Regions

/-- Settles O12: the bars in their order, then each region. -/
theorem addressedMemory : Obligations.AddressedMemory := by
  refine ⟨fun _ _ _ _ _ _ => rfl, ?_, ?_, ?_, ?_, ?_, ?_, ?_, ?_, ?_,
    fun m a n u => readRegion_plain, ?_, ?_, ?_, ?_, fun m a n off u => readRegion_alias,
    fun m a data u => writeRegion_stores, ?_, ?_, ?_, ?_, ?_, fun m a c tl off data u => writeRegion_tile,
    fun m a off data u => writeRegion_ddr, fun m a off c data u => writeRegion_directory, fun m a u => eccRead_cases⟩
  · rintro m a n k x s _ rfl hout
    exact exec_read_barred (accessCheck_outside hout) (by decide)
  · rintro m a k data x s _ rfl hout
    exact exec_write_barred (accessCheck_outside hout) (by decide)
  · rintro d m a n k x s _ rfl hin hdenial
    exact exec_read_barred (accessCheck_denied hin hdenial) (by decide)
  · rintro d m a k data x s _ rfl hin hdenial
    exact exec_write_barred (accessCheck_denied hin hdenial) (by decide)
  · rintro m a n k x s _ rfl hin hdenial hjudge hwidth
    exact exec_read_barred (accessCheck_width hin hdenial hjudge hwidth) (by decide)
  · rintro m a k data x s _ rfl hin hdenial hjudge hwidth
    exact exec_write_barred (accessCheck_width hin hdenial hjudge hwidth) (by decide)
  · rintro m a n k x s _ rfl hin hdenial hfit
    exact exec_read_ok (accessCheck_ok hin hdenial hfit)
  · rintro m a k data x s _ rfl hin hdenial hfit
    exact exec_write_ok (accessCheck_ok hin hdenial hfit)
  · rintro off m a k data x s _ rfl hin hdenial hfit
    exact exec_write_ddr (accessCheck_ok hin hdenial hfit)
  · intro m a n h off u hregion
    rw [State.readRegion, hregion]
  · intro m a n q off u hregion
    rw [State.readRegion, hregion]
  · intro m a n c tl off u hregion
    rw [State.readRegion, hregion]
  · intro m a n bk w off u hregion
    rw [State.readRegion, hregion]
    rfl
  · intro m a h off data u hregion
    rw [State.writeRegion, hregion]
  · intro m a q off data u hregion
    rw [State.writeRegion, hregion]
  · intro m a bk w off data u hregion
    rw [State.writeRegion, hregion]
  · intro m a off data u hregion
    rw [State.writeRegion, hregion]
  · intro m a off data u hregion
    rw [State.writeRegion, hregion]

end Sys2Proof.AccessProofs
end

section
/-!
PROOFS. The record of a completed command (R206, R207): stored in its completion queue or held by the engine.
-/
namespace Sys2Proof.CompletionProofs
open Sys2Proof Sys2Proof.Machine
open Sys2Proof.QueueProofs

variable {s : State} {q n : Nat} {r : RunCmd} {st : Status} {e : Entry}

/-! ### Engines by number -/

theorem engine_setEngine_same {x : Engine} : (s.setEngine n x).engine n = x := by
  simp [State.engine, State.setEngine, Assoc.getD_set]

/-! ### What the parts of a completion leave unchanged -/

theorem countDone_frame (n : Nat) (st : Status) : ∃ regs, s.countDone n st = { s with regs := regs } := by
  fun_cases State.countDone <;> exact ⟨_, rfl⟩

/-- A queue that settles changes its own state and snapshot alone. -/
theorem settleQueue_frame (q : Nat) : ∃ qs, s.settleQueue q = { s with queues := qs } ∧
    (∀ p, p ≠ q → (s.settleQueue q).queue p = s.queue p) ∧
    ((s.settleQueue q).queue q).outstanding = (s.queue q).outstanding := by
  fun_cases State.settleQueue with
  | case1 => exact ⟨_, rfl, fun p hp => queue_setQueue_other hp, by rw [queue_setQueue_same]⟩
  | case2 => exact ⟨_, rfl, fun _ _ => rfl, rfl⟩
  | case3 => exact ⟨_, rfl, fun _ _ => rfl, rfl⟩

/-- An engine that settles keeps the records it holds. -/
theorem settleEngine_frame (n : Nat) : ∃ es, s.settleEngine n = { s with engines := es } ∧
    ((s.settleEngine n).engine n).held = (s.engine n).held := by
  fun_cases State.settleEngine with
  | case1 => exact ⟨_, rfl, by rw [engine_setEngine_same]⟩
  | case2 => exact ⟨_, rfl, rfl⟩

/-! ### The record -/

/-- The state in which a completed command's record is written: its queue has one command fewer outstanding, and it is counted. -/
def counted (s : State) (n : Nat) (r : RunCmd) (st : Status) : State :=
  (s.setQueue r.queue { s.queue r.queue with outstanding := (s.queue r.queue).outstanding - 1 }).countDone n st

/-- A command of a queue of the part's own that asks for a record, or failed, writes one. -/
theorem complete_eq (hqueue : isFirmwareQueue r.queue = false) (hasks : cmdCmpl r.cmd = true ∨ st ≠ .ok) (aux result ext : Nat) :
    s.complete n r st aux result ext = (((counted s n r st).writeRecord n r (completionEntry r n st aux result ext)).settleQueue
      r.queue).settleEngine n := by
  simp only [State.complete, counted, hqueue, Bool.false_and, Bool.false_eq_true, if_false, if_pos hasks]

section Counted

variable (hlink : (s.queue r.queue).link ≠ r.queue)

theorem counted_frame : ∃ regs, counted s n r st = { s.setQueue r.queue
    { s.queue r.queue with outstanding := (s.queue r.queue).outstanding - 1 } with regs := regs } := countDone_frame n st

theorem counted_queue_same : (counted s n r st).queue r.queue =
    { s.queue r.queue with outstanding := (s.queue r.queue).outstanding - 1 } := by
  obtain ⟨regs, heq⟩ := counted_frame (s := s) (n := n) (r := r) (st := st)
  rw [heq]
  exact queue_setQueue_same

theorem counted_queue_other {p : Nat} (hp : p ≠ r.queue) : (counted s n r st).queue p = s.queue p := by
  obtain ⟨regs, heq⟩ := counted_frame (s := s) (n := n) (r := r) (st := st)
  rw [heq]
  exact queue_setQueue_other hp

theorem counted_mem : (counted s n r st).mem = s.mem := by
  obtain ⟨regs, heq⟩ := counted_frame (s := s) (n := n) (r := r) (st := st)
  rw [heq]
  rfl

theorem counted_veils : (counted s n r st).veils = s.veils := by
  obtain ⟨regs, heq⟩ := counted_frame (s := s) (n := n) (r := r) (st := st)
  rw [heq]
  rfl

theorem counted_engine (i : Nat) : (counted s n r st).engine i = s.engine i := by
  obtain ⟨regs, heq⟩ := counted_frame (s := s) (n := n) (r := r) (st := st)
  rw [heq]
  rfl

theorem counted_now : (counted s n r st).now = s.now := by
  obtain ⟨regs, heq⟩ := counted_frame (s := s) (n := n) (r := r) (st := st)
  rw [heq]
  rfl

include hlink

/-- The record goes to the same completion queue, which stands as it did. -/
theorem counted_completion :
    ((counted s n r st).queue ((counted s n r st).queue r.queue).link) = s.queue (s.queue r.queue).link := by
  rw [counted_queue_same]
  exact counted_queue_other hlink

theorem counted_recordRefused : (counted s n r st).recordRefused r = s.recordRefused r := by
  rw [State.recordRefused, State.recordRefused, counted_completion hlink]

/-- A record with room is pushed, and a sequencer that waits on the queue goes on. -/
theorem writeRecord_pushes (htaken : s.recordRefused r = false) (hroom : (s.queue (s.queue r.queue).link).isFull = false)
    (hagree : (s.queue (s.queue r.queue).link).mismatch = false)
    (hfirst : ((s.engine n).held.any fun h => h.run.queue == r.queue) = false) :
    (counted s n r st).writeRecord n r e = ((counted s n r st).pushEntry (s.queue r.queue).link e).wakeSeq
      (s.queue (s.queue r.queue).link).cons := by
  have hcq : ((counted s n r st).queue r.queue).link = (s.queue r.queue).link := by rw [counted_queue_same]
  simp only [State.writeRecord, State.putRecord, counted_recordRefused hlink, htaken, hcq, counted_queue_other hlink, hroom,
    hagree, counted_engine, hfirst, Bool.not_false, Bool.false_eq_true, or_self, and_false, if_false]

/-- A record without room is held. -/
theorem writeRecord_holds (htaken : s.recordRefused r = false) (hfull : (s.queue (s.queue r.queue).link).isFull = true) :
    (counted s n r st).writeRecord n r e = (counted s n r st).setEngine n
      { s.engine n with held := (s.engine n).held ++ [⟨r, e, s.now⟩] } := by
  have hcq : ((counted s n r st).queue r.queue).link = (s.queue r.queue).link := by rw [counted_queue_same]
  simp only [State.writeRecord, counted_recordRefused hlink, htaken, hcq, counted_queue_other hlink, hfull, counted_engine,
    counted_now, Bool.not_false, true_or, and_self, if_true]

end Counted

/-- What settling leaves of the state `u` in which the record stands. -/
theorem settled_frame (u : State) (q n : Nat) : let t := (u.settleQueue q).settleEngine n
    t.mem = u.mem ∧ t.veils = u.veils ∧ (∀ p, p ≠ q → t.queue p = u.queue p) ∧
      (t.queue q).outstanding = (u.queue q).outstanding ∧ (t.engine n).held = (u.engine n).held := by
  obtain ⟨qs, hqs, hother, hout⟩ := settleQueue_frame (s := u) q
  obtain ⟨es, hes, hheld⟩ := settleEngine_frame (s := u.settleQueue q) n
  have hqueues (p : Nat) : ((u.settleQueue q).settleEngine n).queue p = (u.settleQueue q).queue p := by rw [hes]; rfl
  refine ⟨?_, ?_, fun p hp => (hqueues p).trans (hother p hp), by rw [hqueues, hout], ?_⟩
  · rw [hes, hqs]
  · rw [hes, hqs]
  · rw [hheld, hqs]
    rfl

theorem kind_of_recordRefused (htaken : s.recordRefused r = false) : (s.queue (s.queue r.queue).link).kind = .completion := by
  simp only [State.recordRefused, Bool.or_eq_false_iff, bne_eq_false_iff_eq] at htaken
  exact htaken.1.2

/-- Settles O48: a record with room is the entry pushed, one without is held. -/
theorem completionRecord : Obligations.CompletionRecord := by
  constructor
  · intro n r st aux result ext s hmem hqueue hlink hasks htaken hroom hagree hfirst c t
    have ht : t = (((counted s n r st).writeRecord n r (completionEntry r n st aux result ext)).settleQueue
      r.queue).settleEngine n := complete_eq hqueue hasks aux result ext
    rw [writeRecord_pushes hlink htaken hroom hagree hfirst] at ht
    obtain ⟨hm, hv, hother, hout, -⟩ := settled_frame (((counted s n r st).pushEntry c
      (completionEntry r n st aux result ext)).wakeSeq (s.queue c).cons) r.queue n
    rw [← ht] at hm hv hother hout
    have hc : (counted s n r st).queue c = s.queue c := counted_queue_other hlink
    have hcanon : (counted s n r st).canonical = true := by rw [State.canonical, counted_mem]; exact hmem
    have hkind : (s.queue c).kind = .completion := kind_of_recordRefused htaken
    refine ⟨?_, ?_, ?_, fun a ha => ?_, ?_⟩
    · have hstored := pushEntry_queueEntry (q := c) (e := completionEntry r n st aux result ext) hcanon
      rw [hc, storedEntry_plain (by simp [hkind])] at hstored
      rw [queueEntry_congr hm hv]
      exact hstored
    · rw [hother c hlink]
      exact (congrArg Queue.wpA pushEntry_queue_same).trans (by rw [pushedQueue_wpA, hc])
    · rw [hout]
      exact (congrArg Queue.outstanding (pushEntry_queue_other hlink.symm)).trans (by rw [counted_queue_same])
    · rw [byteAt_congr hm hv]
      exact (pushEntry_byteAt_outside hcanon (by rwa [hc])).trans (byteAt_congr counted_mem counted_veils a)
    · rw [State.canonical, hm]
      exact pushEntry_canonical hcanon
  · intro n r st aux result ext s hqueue hlink hasks htaken hfull t
    have ht : t = (((counted s n r st).writeRecord n r (completionEntry r n st aux result ext)).settleQueue
      r.queue).settleEngine n := complete_eq hqueue hasks aux result ext
    rw [writeRecord_holds hlink htaken hfull] at ht
    obtain ⟨hm, -, hother, -, hheld⟩ := settled_frame ((counted s n r st).setEngine n
      { s.engine n with held := (s.engine n).held ++ [⟨r, completionEntry r n st aux result ext, s.now⟩] }) r.queue n
    rw [← ht] at hm hother hheld
    refine ⟨?_, ?_, hm.trans counted_mem⟩
    · rw [hheld, engine_setEngine_same]
    · exact (hother _ hlink).trans (counted_queue_other hlink)

end Sys2Proof.CompletionProofs
end

section
/-!
PROOFS. How an engine takes the head of a queue and writes the records it holds (R205–R208, R246).
-/
namespace Sys2Proof.EngineProofs
open Sys2Proof Sys2Proof.Machine
open Sys2Proof.QueueProofs
open Sys2Proof.AccessProofs (logFault_frame)

variable {s u : State} {q n : Nat} {x y : QueueSoft}

/-! ### A head taken (R208) -/

theorem leaveWait_idle (hidle : (s.queue q).waiter = none) : s.leaveWait q = s := by
  rw [State.leaveWait, hidle]

theorem takeHead_idle (hidle : (s.queue q).waiter = none) : s.takeHead q =
    s.setQueue q { (s.queue q).taken s.now with outstanding := (s.queue q).outstanding + 1 } := by
  rw [State.takeHead, leaveWait_idle hidle]
  rfl

/-- A soft error of a control block leaves every queue's waiter. -/
theorem queueSoft_waiter (p : Nat) : ((s.queueSoft q x).queue p).waiter = (s.queue p).waiter := by
  have hset (b : Queue) (hb : b.waiter = (s.queue q).waiter) : ((s.setQueue q b).queue p).waiter = (s.queue p).waiter := by
    by_cases hp : p = q
    · rw [hp, queue_setQueue_same, hb]
    · rw [queue_setQueue_other hp]
  cases x with
  | clean => rfl
  | pointers => exact hset _ rfl
  | binding =>
    obtain ⟨l, k, r, o, h, heq, -⟩ := logFault_frame { cls := .queue, status := .eccUncorr, ref := q }
      (s.setQueue q { s.queue q with qstate := .closed, failed := true })
    rw [State.queueSoft, heq]
    exact hset _ rfl

theorem headReady_waiter (hready : s.headReady q = true) : (s.queue q).waiter = none := by
  simp only [State.headReady, Bool.and_eq_true, beq_iff_eq] at hready
  obtain ⟨⟨⟨-, hidle⟩, -⟩, -⟩ := hready
  exact hidle

theorem engineHead_headReady (hhead : s.engineHead n q = true) : s.headReady q = true := by
  simp only [State.engineHead, Bool.and_eq_true] at hhead
  obtain ⟨⟨⟨-, hready⟩, -⟩, -⟩ := hhead
  exact hready

/-- A queue that an engine finds ready has no waiter. -/
theorem readyQueues_waiter {l : List Nat} (hready : s.readyQueues n = q :: l) : (s.queue q).waiter = none := by
  have hmem : q ∈ s.readyQueues n := by rw [hready]; exact List.mem_cons_self
  simp only [State.readyQueues, List.mem_append, List.mem_filter] at hmem
  rcases hmem with ⟨⟨-, hhead⟩, -⟩ | ⟨⟨-, hhead⟩, -⟩ <;> exact headReady_waiter (engineHead_headReady hhead)

/-! ### COMMAND_START (R208) -/

/-- The state in which a command is checked: its queue's head taken, its queue the last served. -/
abbrev headTaken (u : State) (n q : Nat) : State :=
  (u.setQueue q { (u.queue q).taken u.now with outstanding := (u.queue q).outstanding + 1 }).setEngine n
    { u.engine n with lastQueue := q }

/-- The state in which a command that passed its check runs, a Dense or Mover command with nothing done yet. -/
abbrev running (c u : State) (n q : Nat) : State :=
  { c with dense := if n = 1 then {} else c.dense, moved := if n = 2 then {} else c.moved }.setEngine n
    { c.engine n with running := some (u.headRun q) }

theorem startCommand_ok (hidle : (u.queue q).waiter = none) (hok : ((headTaken u n q).commandCheck n (u.headRun q)).1 = .ok) :
    u.startCommand n q =
      if (cmdOpcode (u.head q)).any Opcode.holdsRelease then
        (running ((headTaken u n q).commandCheck n (u.headRun q)).2 u n q).holdRelease n
      else running ((headTaken u n q).commandCheck n (u.headRun q)).2 u n q := by
  rw [State.startCommand, takeHead_idle hidle]
  exact if_neg (not_not.mpr hok)

theorem startCommand_fails {st : Status} (hidle : (u.queue q).waiter = none)
    (hst : ((headTaken u n q).commandCheck n (u.headRun q)).1 = st) (hfail : st ≠ .ok) :
    u.startCommand n q = ((headTaken u n q).commandCheck n (u.headRun q)).2.complete n (u.headRun q) st 0 0 0 := by
  subst hst
  rw [State.startCommand, takeHead_idle hidle]
  exact if_pos hfail

section Start

variable {e : EngineId} {l : List Nat}

theorem exec_commandStart (hidle : (s.engine (engineNum e)).running = none) (hrun : s.reg Reg.PWR_STATE = 0)
    (hready : s.readyQueues (engineNum e) = q :: l) (hsoft : (s.queueSoft q x).queueSoft (s.queue q).link y = u) :
    exec (.commandStart e x y) s = .next (if (u.queue q).mismatch then u.pointerReset q
      else if (u.queue q).qstate = .closed then u else u.startCommand (engineNum e) q) := by
  subst hsoft
  simp only [exec, execCommandStart, hidle, hready, hrun, ne_eq, not_true_eq_false, if_false]

/-- What an open queue with agreeing pointers lets the engine do. -/
theorem exec_commandStart_open (hidle : (s.engine (engineNum e)).running = none) (hrun : s.reg Reg.PWR_STATE = 0)
    (hready : s.readyQueues (engineNum e) = q :: l) (hsoft : (s.queueSoft q x).queueSoft (s.queue q).link y = u)
    (hagree : (u.queue q).mismatch = false) (hopen : (u.queue q).qstate ≠ .closed) :
    exec (.commandStart e x y) s = .next (u.startCommand (engineNum e) q) := by
  rw [exec_commandStart hidle hrun hready hsoft, hagree, if_neg Bool.false_ne_true, if_neg hopen]

theorem softened_waiter (hready : s.readyQueues n = q :: l) (hsoft : (s.queueSoft q x).queueSoft (s.queue q).link y = u) :
    (u.queue q).waiter = none := by
  rw [← hsoft, queueSoft_waiter, queueSoft_waiter, readyQueues_waiter hready]

theorem exec_commandStart_nothing
    (h : (s.engine (engineNum e)).running ≠ none ∨ s.readyQueues (engineNum e) = [] ∨ s.reg Reg.PWR_STATE ≠ 0) :
    exec (.commandStart e x y) s = .next s := by
  simp only [exec, execCommandStart]
  split
  case h_1 hidle hready =>
    rcases h with h | h | h
    · exact absurd hidle h
    · rw [h] at hready
      cases hready
    · rw [if_pos h]
  case h_2 => rfl

end Start

/-! ### HELD_RECORD_WRITE (R207) -/

section Held

variable {e : EngineId} {r : HeldRecord}

/-- The first record that can be written or that is taken no more. -/
abbrev firstHeld (s : State) (n : Nat) : Option HeldRecord :=
  (s.engine n).held.find? fun x => s.recordRefused x.run || !(s.queue (s.queue x.run.queue).link).isFull

/-- The state in which a held record is written: taken from its engine, its cycles counted. -/
abbrev recordTaken (s : State) (n : Nat) (r : HeldRecord) : State :=
  (s.setEngine n { s.engine n with held := dropFirst r (s.engine n).held }).bumpBy (Reg.CMPL_STALL n)
    (fclkOf s.now - fclkOf r.since)

theorem exec_heldRecordWrite_none (hnone : firstHeld s (engineNum e) = none) : exec (.heldRecordWrite e) s = .next s := by
  simp only [exec, execHeldRecordWrite]
  split
  case h_1 => rfl
  case h_2 hsome => cases hnone.symm.trans hsome

theorem exec_heldRecordWrite (hsome : firstHeld s (engineNum e) = some r) : exec (.heldRecordWrite e) s =
    .next ((((recordTaken s (engineNum e) r).putRecord (engineNum e) r.run r.bytes).settleQueue r.run.queue).settleEngine
      (engineNum e)) := by
  simp only [exec, execHeldRecordWrite]
  split
  case h_1 hnone => cases hsome.symm.trans hnone
  case h_2 hsome' =>
    obtain rfl := Option.some.inj (hsome.symm.trans hsome')
    rfl

theorem putRecord_lost {run : RunCmd} {b : Entry} (hrefused : s.recordRefused run = true) :
    s.putRecord n run b = s.recordLost n run := if_pos hrefused

theorem putRecord_reset {run : RunCmd} {b : Entry} (htaken : s.recordRefused run = false)
    (hmismatch : (s.queue (s.queue run.queue).link).mismatch = true) :
    s.putRecord n run b = (s.pointerReset (s.queue run.queue).link).recordLost n run := by
  simp only [State.putRecord, htaken, hmismatch, Bool.false_eq_true, if_false, if_true]

theorem putRecord_pushed {run : RunCmd} {b : Entry} (htaken : s.recordRefused run = false)
    (hagree : (s.queue (s.queue run.queue).link).mismatch = false) :
    s.putRecord n run b = (s.pushEntry (s.queue run.queue).link b).wakeSeq (s.queue (s.queue run.queue).link).cons := by
  simp only [State.putRecord, htaken, hagree, Bool.false_eq_true, if_false]

end Held

/-- Settles O2: the cases of the first ready queue, then of the first record that can go. -/
theorem engineTakesCommandsAndRecords : Obligations.EngineTakesCommandsAndRecords := by
  refine ⟨?_, ?_, ?_, ?_, fun q s => ⟨rfl, rfl, rfl⟩, fun e x y s => exec_commandStart_nothing,
    fun e s => exec_heldRecordWrite_none, ?_, ?_, ?_⟩
  · intro e x y q l s u hidle hrun hready hsoft hagree hopen hok
    rw [exec_commandStart_open hidle hrun hready hsoft hagree hopen, startCommand_ok (softened_waiter hready hsoft) hok]
  · intro e x y q l st s u hidle hrun hready hsoft hagree hopen hst hfail
    rw [exec_commandStart_open hidle hrun hready hsoft hagree hopen,
      startCommand_fails (softened_waiter hready hsoft) hst hfail]
  · intro e x y q l s u hidle hrun hready hsoft hmismatch
    rw [exec_commandStart hidle hrun hready hsoft, if_pos hmismatch]
  · intro e x y q l s u hidle hrun hready hsoft hagree hclosed
    rw [exec_commandStart hidle hrun hready hsoft, hagree, if_neg Bool.false_ne_true, if_pos hclosed]
  · intro e r s hsome htaken hagree
    rw [exec_heldRecordWrite hsome, putRecord_pushed (s := recordTaken s (engineNum e) r) htaken hagree]
    rfl
  · intro e r s hsome htaken hmismatch
    rw [exec_heldRecordWrite hsome, putRecord_reset (s := recordTaken s (engineNum e) r) htaken hmismatch]
    rfl
  · intro e r s hsome hrefused
    rw [exec_heldRecordWrite hsome, putRecord_lost (s := recordTaken s (engineNum e) r) hrefused]

end Sys2Proof.EngineProofs
end

section
/-!
PROOFS. The common opcodes at the head of a queue (R209, R262, R265, R269).
-/
namespace Sys2Proof.CommandProofs
open Sys2Proof Sys2Proof.Machine
open Sys2Proof.QueueProofs
open Sys2Proof.AccessProofs (assoc_set_set)
open Sys2Proof.EngineProofs (takeHead_idle headReady_waiter)

variable {s : State} {q h node : Nat} {o : Opcode} {f : State → State}

/-! ### A head that stands ready (R208, R246) -/

/-- The front end of a queue whose head the opcode is, with agreeing pointers, does what the opcode does. -/
theorem frontEnd_atHead (hhead : s.atHead q o) : s.frontEnd q o f = f s := by
  obtain ⟨his, hagree, -, -⟩ := hhead
  simp only [State.frontEnd, his, hagree, Bool.false_eq_true, if_true, if_false]

theorem atHead_waiter (hhead : s.atHead q o) : (s.queue q).waiter = none := by
  have his := hhead.1
  rw [State.headIs, Bool.and_eq_true] at his
  exact headReady_waiter his.1

theorem takeHead_atHead (hhead : s.atHead q o) : s.takeHead q =
    s.setQueue q { (s.queue q).taken s.now with outstanding := (s.queue q).outstanding + 1 } :=
  takeHead_idle (atHead_waiter hhead)

theorem setQueue_setQueue (b b' : Queue) : (s.setQueue q b').setQueue q b = s.setQueue q b := by
  simp only [State.setQueue, assoc_set_set]

/-! ### NOP (R209) -/

/-- A queue without a snapshot does not settle, nor does an engine that is enabled. -/
theorem settle_none (hsnap : (s.queue q).snap = none) {n : Nat} (hengine : (s.engine n).st = .enabled) :
    (s.settleQueue q).settleEngine n = s := by
  rw [State.settleQueue, hsnap]
  simp only [State.settleEngine, hengine, reduceCtorEq, or_self, false_and, if_false]

/-- A command that asks for no record and completes OK is counted, and its queue stands with the head taken. -/
theorem completeHead_unrecorded (hhead : s.atHead q o) (hquiet : cmdCmpl (s.head q) = false) :
    s.completeHead q .ok 0 = (s.setQueue q ((s.queue q).taken s.now)).bump (Reg.CMDS_DONE (s.queue q).eng) := by
  obtain ⟨-, -, hsnap, hengine⟩ := id hhead
  have hcomplete : (s.takeHead q).complete (s.queue q).eng (s.headRun q) .ok 0 0 0 =
      (((s.setQueue q ((s.queue q).taken s.now)).bump (Reg.CMDS_DONE (s.queue q).eng)).settleQueue q).settleEngine
        (s.queue q).eng := by
    rw [takeHead_atHead hhead]
    simp only [State.complete, State.headRun, queue_setQueue_same, setQueue_setQueue, Nat.add_sub_cancel, State.countDone,
      hquiet, bne_self_eq_false, Bool.and_false, Bool.false_eq_true, ne_eq, not_true_eq_false, or_self, if_false]
    rfl
  rw [State.completeHead, hcomplete]
  refine settle_none ?_ hengine
  exact (congrArg Queue.snap queue_setQueue_same).trans hsnap

/-! ### Hitch operations (R262, R263) -/

section Hitch

variable {msg : HitchMsg} {run : Option RunCmd} {w : Nat}

/-- An operation on a Hitch whose home is this device joins those on their way. -/
theorem hitchSend_home (hhome : s.isHome h = true) : s.hitchSend h msg node run w =
    { s with hitchNet := s.hitchNet ++ [s.flightOf h msg node run w] } := if_pos hhome

/-- The head taken, its operation on its way to the home. -/
theorem issueHead_home (hhead : s.atHead q o) (hcheck : s.hitchCheck (s.head q) false = .ok)
    (halive : (s.hitch (s.headHitch q)).homeLost = false) (hhome : s.isHome (s.headHitch q) = true) :
    s.issueHead q msg = { s.setQueue q { (s.queue q).taken s.now with outstanding := (s.queue q).outstanding + 1 } with
      hitchNet := s.hitchNet ++ [s.flightOf (s.headHitch q) msg (s.entryNode q) (some (s.headRun q)) q] } := by
  simp only [State.issueHead, hcheck, ne_eq, not_true_eq_false, halive, Bool.false_eq_true, if_false, takeHead_atHead hhead]
  exact if_pos hhome

/-- The head of a queue waiting on a Hitch. -/
abbrev waiting (s : State) (q h value : Nat) (barrier : Bool) : State :=
  s.setQueue q { s.queue q with waiter := some { hitch := h, barrier := barrier, value := value, since := s.now } }

/-- Where the node holds the COUNT the head registers without a message. -/
theorem registerHead_counted {v : Nat} {barrier : Bool} (hcount : (s.nodeCount h (s.entryNode q)).isSome = true) :
    s.registerHead q h v barrier = waiting s q h v barrier := by
  obtain ⟨c, hc⟩ := Option.isSome_iff_exists.mp hcount
  have hc' : (waiting s q h v barrier).nodeCount h (s.entryNode q) = some c := hc
  simp only [State.registerHead, hc']

/-- Where it does not, the node subscribes. -/
theorem registerHead_subscribes {v : Nat} {barrier : Bool} (hcount : s.nodeCount h (s.entryNode q) = none)
    (hhome : s.isHome h = true) : s.registerHead q h v barrier = { waiting s q h v barrier with
      hitchNet := s.hitchNet ++ [s.flightOf h .subscribe (s.entryNode q) none 0x7FFF] } := by
  have hc' : (waiting s q h v barrier).nodeCount h (s.entryNode q) = none := hcount
  simp only [State.registerHead, hc']
  exact if_pos hhome

/-- The subscription goes first, then the operation of the head. -/
theorem registerHead_sends {v : Nat} {barrier : Bool} (hcount : s.nodeCount h (s.entryNode q) = none)
    (hhome : s.isHome h = true) : (s.registerHead q h v barrier).hitchSend h msg node run w = { waiting s q h v barrier with
      hitchNet := s.hitchNet ++ [s.flightOf h .subscribe (s.entryNode q) none 0x7FFF, s.flightOf h msg node run w] } := by
  rw [registerHead_subscribes hcount hhome,
    List.append_cons s.hitchNet (s.flightOf h .subscribe (s.entryNode q) none 0x7FFF) [s.flightOf h msg node run w]]
  exact if_pos hhome

/-! ### HITCH_WAIT (R265) -/

theorem evaluate_uncounted (hcount : s.nodeCount h node = none) : s.evaluate h node = s := by
  rw [State.evaluate, hcount]

/-- A list in which nothing counts but the entry put into it. -/
theorem filterMap_set {β γ : Type} {p : Nat × β → Option γ} {k : Nat} {v : β} {c : γ} (hv : p (k, v) = some c) {l : Assoc β}
    (hl : l.filterMap p = []) : (Assoc.set k v l).filterMap p = [c] := by
  induction l with
  | nil => simp [Assoc.set, hv]
  | cons e l ih =>
    obtain ⟨j, w⟩ := e
    have hnone : ∀ x ∈ (j, w) :: l, p x = none := List.filterMap_eq_nil_iff.mp hl
    have hw : p (j, w) = none := hnone _ List.mem_cons_self
    have hrest : l.filterMap p = [] := List.filterMap_eq_nil_iff.mpr fun x hx => hnone x (List.mem_cons_of_mem _ hx)
    rw [Assoc.set]
    split
    · rw [List.filterMap_cons, hv, hrest]
    · split
      · rw [List.filterMap_cons, hv, hl]
      · rw [List.filterMap_cons, hw]
        exact ih hrest

/-- A head that begins to wait where nobody else waits is the only waiter. -/
theorem waitersOn_waiting {v : Nat} {barrier : Bool} (hnobody : s.waitersOn h = []) :
    (waiting s q h v barrier).waitersOn h = [q] :=
  filterMap_set (by simp) hnobody

/-- A COUNT below VALUE frees nobody, and the node keeps its copy while the head waits. -/
theorem evaluate_waiting {v c : Nat} (hnobody : s.waitersOn h = []) (hcount : s.nodeCount h (s.entryNode q) = some c)
    (hbelow : c < v) : (waiting s q h v false).evaluate h (s.entryNode q) = waiting s q h v false := by
  have hc' : (waiting s q h v false).nodeCount h (s.entryNode q) = some c := hcount
  have hnode : (waiting s q h v false).entryNode q = s.entryNode q := by
    simp only [State.entryNode, queue_setQueue_same]
  simp only [State.evaluate, hc', waitersOn_waiting hnobody, State.freeWhere, queue_setQueue_same, Nat.not_le.mpr hbelow,
    decide_false, Bool.and_false, Bool.false_and, Bool.false_eq_true, if_false, State.unsubscribe, List.any_cons, hnode,
    beq_self_eq_true, Bool.true_or, if_true]

end Hitch

/-- Settles O1: each opcode at the head, past the checks that it shares with the others. -/
theorem commonOpcodesAtHead : Obligations.CommonOpcodesAtHead := by
  refine ⟨?_, ?_, ?_, ?_, ?_, ?_, ?_, ?_, ?_⟩
  · intro q s hhead hversion hquiet
    simp only [exec, execNop, frontEnd_atHead hhead, hversion, Bool.false_eq_true, if_false]
    rw [completeHead_unrecorded hhead hquiet]
  · intro q s hhead hcheck halive hhome
    simp only [exec, execHitchSignal, frontEnd_atHead hhead]
    rw [issueHead_home hhead hcheck halive hhome]
  · intro q s hhead hcheck halive hhome
    simp only [exec, execHitchSet, frontEnd_atHead hhead]
    rw [issueHead_home hhead hcheck halive hhome]
  · intro q s hhead hcheck halive hnobody hbelow
    obtain ⟨c, hc, hlt⟩ := (Option.any_eq_true _ _).mp hbelow
    simp only [exec, execHitchWait, frontEnd_atHead hhead, hcheck, halive, ne_eq, not_true_eq_false, Bool.false_eq_true, if_false]
    rw [registerHead_counted (by rw [hc]; rfl), evaluate_waiting hnobody hc (of_decide_eq_true hlt)]
  · intro q s hhead hcheck halive hhome hcount
    simp only [exec, execHitchWait, frontEnd_atHead hhead, hcheck, halive, ne_eq, not_true_eq_false, Bool.false_eq_true, if_false]
    rw [registerHead_subscribes hcount hhome]
    exact congrArg Host.Outcome.next (evaluate_uncounted (s := { waiting s q.val _ _ false with hitchNet := _ }) hcount)
  · intro q s hhead hcheck halive hhome hcount
    simp only [exec, execHitchBarrier, frontEnd_atHead hhead, hcheck, halive, ne_eq, not_true_eq_false, Bool.false_eq_true, if_false]
    rw [registerHead_counted hcount]
    exact congrArg Host.Outcome.next (hitchSend_home (s := waiting s q.val _ _ true) hhome)
  · intro q s hhead hcheck halive hhome hcount
    simp only [exec, execHitchBarrier, frontEnd_atHead hhead, hcheck, halive, ne_eq, not_true_eq_false, Bool.false_eq_true, if_false]
    exact congrArg Host.Outcome.next (registerHead_sends hcount hhome)
  · intro q s hhead hcheck hfits
    simp only [exec, execHitchDump, frontEnd_atHead hhead, hcheck, reduceCtorEq, ne_eq, not_true_eq_false, if_false]
    rw [if_neg (show ¬ s.headValue q.val < 64 by omega), if_neg (Nat.not_lt.mpr hfits)]
  · intro q s hhead hcheck hheader hshort
    simp only [exec, execHitchDump, frontEnd_atHead hhead, hcheck, reduceCtorEq, ne_eq, not_true_eq_false, if_false]
    rw [if_neg (Nat.not_lt.mpr hheader), if_pos hshort]

end Sys2Proof.CommandProofs
end

section
/-!
PROOFS. What user code of a cluster sequencer does through its control registers and waits, and what an exception does (R229–R231).
-/
namespace Sys2Proof.SequencerProofs
open Sys2Proof Sys2Proof.Machine

variable {s : State} {c : ClusterId}

/-! ### Control registers and WFI (R229, R230) -/

section Runs

theorem doorbellRead_waiting (hwait : s.seqWait.contains c.val = true) (x : SeqOp) : exec (.doorbellRead c x) s = .next s :=
  if_pos hwait

variable (hgoes : s.seqWait.contains c.val = false)
include hgoes

theorem doorbellRead_read (k : Fin 4) : exec (.doorbellRead c (.read k)) s =
    .next ((s.seqRead c.val k).2.respond .ok (leBytes 4 (s.seqRead c.val k).1)) :=
  if_neg (Bool.eq_false_iff.mp hgoes)

theorem doorbellRead_write (mepc : BitVec 32) : exec (.doorbellRead c (.write mepc)) s = .next (s.seqStop c.val 2 mepc) :=
  if_neg (Bool.eq_false_iff.mp hgoes)

theorem doorbellRead_wfi : exec (.doorbellRead c .wfi) s =
    .next (if natBit (s.reg Reg.SEQ_RUN) c.val then { s with seqWait := s.seqWait ++ [c.val] } else s) :=
  if_neg (Bool.eq_false_iff.mp hgoes)

end Runs

/-! ### Exceptions (R231) -/

theorem seqStop_running (hrun : natBit (s.reg Reg.SEQ_RUN) c.val = true) (mcause mepc : BitVec 32) :
    s.seqStop c.val mcause mepc =
      (((s.setReg Reg.SEQ_RUN (setBitField (s.reg Reg.SEQ_RUN) c.val 1 0)).wakeSeq c.val).bump Reg.SEQ_FAULT).logFault
        { cls := .watchdog, status := .aborted, unit := c.val, sub := mcause.toNat % 256, ref := mepc.toNat } :=
  if_pos hrun

theorem seqStop_stopped (hstop : natBit (s.reg Reg.SEQ_RUN) c.val = false) (mcause mepc : BitVec 32) :
    s.seqStop c.val mcause mepc = s :=
  if_neg (by simp [hstop])

/-- A sequencer that does not run raises nothing, whatever it meets. -/
theorem seqException_stopped (hstop : natBit (s.reg Reg.SEQ_RUN) c.val = false) (x : SeqTrap) :
    exec (.seqException c x) s = .next s := by
  cases x <;> simp only [exec, execSeqException, seqStop_stopped hstop, ite_self]

section Reach

variable {a : Nat} (mepc : BitVec 32)

theorem seqException_load (hreach : s.seqReach c a = false) :
    exec (.seqException c (.load a mepc)) s = .next (s.seqStop c.val 5 mepc) := by
  simp only [exec, execSeqException, hreach, Bool.false_eq_true, if_false]

theorem seqException_store (hreach : s.seqReach c a = false) :
    exec (.seqException c (.store a mepc)) s = .next (s.seqStop c.val 7 mepc) := by
  simp only [exec, execSeqException, hreach, Bool.false_eq_true, if_false]

theorem seqException_load_reached (hreach : s.seqReach c a = true) : exec (.seqException c (.load a mepc)) s = .next s := by
  simp only [exec, execSeqException, hreach, if_true]

theorem seqException_store_reached (hreach : s.seqReach c a = true) : exec (.seqException c (.store a mepc)) s = .next s := by
  simp only [exec, execSeqException, hreach, if_true]

end Reach

/-- Settles O18: each register and each trap, of a sequencer that runs and of one that does not. -/
theorem sequencerDoorbellAndException : Obligations.SequencerDoorbellAndException := by
  refine ⟨?_, ?_, fun c s hgoes => doorbellRead_read hgoes 1, fun c s hgoes => doorbellRead_read hgoes 2,
    fun c s hgoes => doorbellRead_read hgoes 3, ?_, ?_, ?_, ?_, fun c x s hwait => doorbellRead_waiting hwait x, ?_, ?_, ?_,
    fun c a mepc s => seqException_load_reached mepc, fun c a mepc s => seqException_store_reached mepc,
    fun c x s hstop => seqException_stopped hstop x, ?_, ?_⟩
  · intro c d l s hgoes hfifo
    rw [doorbellRead_read hgoes]
    simp only [State.seqRead, hfifo]
  · intro c s hgoes hempty
    rw [doorbellRead_read hgoes]
    simp only [State.seqRead, hempty]
    rfl
  · intro c mepc s hgoes hrun
    rw [doorbellRead_write hgoes, seqStop_running hrun]
    rfl
  · intro c mepc s hgoes hstop
    rw [doorbellRead_write hgoes, seqStop_stopped hstop]
  · intro c s hgoes hrun
    rw [doorbellRead_wfi hgoes, if_pos hrun]
  · intro c s hgoes hstop
    rw [doorbellRead_wfi hgoes, hstop, if_neg Bool.false_ne_true]
  · intro c mcause mepc s hrun
    exact congrArg Host.Outcome.next (seqStop_running hrun mcause mepc)
  · intro c a mepc s hrun hreach
    rw [seqException_load mepc hreach, seqStop_running hrun]
    rfl
  · intro c a mepc s hrun hreach
    rw [seqException_store mepc hreach, seqStop_running hrun]
    rfl
  · intro c a q off s hregion
    rw [State.seqReach, hregion]
  · intro c a b off s hregion
    rw [State.seqReach, hregion]

end Sys2Proof.SequencerProofs
end

section
/-!
PROOFS. DRAIN, ABORT and ENABLE of an engine (R226, R227).
-/
namespace Sys2Proof.EngineControlProofs
open Sys2Proof Sys2Proof.Machine
open Sys2Proof.CompletionProofs (engine_setEngine_same)

variable {s : State} {n : Nat}

/-! ### An engine that settles (R226) -/

/-- An engine that executes a command does not settle. -/
theorem settleEngine_running (hrun : (s.engine n).running ≠ none) : s.settleEngine n = s := by
  simp only [State.settleEngine, hrun, false_and, and_false, if_false]

/-- A draining engine with nothing left is disabled. -/
theorem settleEngine_drained (hstate : (s.engine n).st = .draining) (hidle : (s.engine n).running = none)
    (hheld : (s.engine n).held = []) (hsnap : (s.engine n).snap = []) :
    s.settleEngine n = s.setEngine n { s.engine n with st := .disabled, snap := [] } := by
  simp only [State.settleEngine, hstate, hidle, hheld, hsnap, true_or, List.all_nil, and_self, if_true]

/-! ### The three controls by the engine's state (R226, R227) -/

theorem engDrain_enabled (hstate : (s.engine n).st = .enabled) : s.engDrain n =
    (.ok, (s.setEngine n { s.engine n with st := .draining, snap := s.engineQueues n }).settleEngine n) := by
  rw [State.engDrain, hstate]

theorem engDrain_done (hstate : (s.engine n).st = .draining ∨ (s.engine n).st = .disabled) : s.engDrain n = (.ok, s) := by
  rcases hstate with hstate | hstate <;> rw [State.engDrain, hstate]

theorem engDrain_aborting (hstate : (s.engine n).st = .aborting) : s.engDrain n = (.refused, s) := by
  rw [State.engDrain, hstate]

theorem engAbort_begins (hstate : (s.engine n).st = .enabled ∨ (s.engine n).st = .draining) : s.engAbort n =
    (.ok, ((s.engineQueues n).foldl (fun x y => x.abortUpTo y.1 n y.2 (x.queue y.1).count)
      (s.setEngine n { s.engine n with st := .aborting, snap := s.engineQueues n })).settleEngine n) := by
  rcases hstate with hstate | hstate <;> rw [State.engAbort, hstate]

theorem engAbort_done (hstate : (s.engine n).st = .aborting ∨ (s.engine n).st = .disabled) : s.engAbort n = (.ok, s) := by
  rcases hstate with hstate | hstate <;> rw [State.engAbort, hstate]

theorem engEnable_back (hstate : (s.engine n).st ≠ .aborting) :
    s.engEnable n = (.ok, s.setEngine n { s.engine n with st := .enabled, snap := [] }) := by
  rw [State.engEnable]
  split
  case h_1 haborting => exact absurd haborting hstate
  case h_2 => rfl

theorem engEnable_aborting (hstate : (s.engine n).st = .aborting) : s.engEnable n = (.refused, s) := by
  rw [State.engEnable, hstate]

/-! ### The writes of ENG_CTRL (R237) -/

section Write

variable {path : Path} {e : EngineId} {st : Status} {t : State}

section Allowed

variable (haccess : s.accessStatus path true (0x3610 + engineNum e) 2 = .ok)
include haccess

theorem exec_engDrain (hdrain : s.engDrain (engineNum e) = (st, t)) : exec (.engDrain path e) s = .next (t.respond st) := by
  rw [exec, execEngDrain, LinkControlProofs.writeObject_allowed haccess, hdrain]

theorem exec_engAbort (habort : s.engAbort (engineNum e) = (st, t)) : exec (.engAbort path e) s = .next (t.respond st) := by
  rw [exec, execEngAbort, LinkControlProofs.writeObject_allowed haccess, habort]

theorem exec_engEnable (henable : s.engEnable (engineNum e) = (st, t)) : exec (.engEnable path e) s = .next (t.respond st) := by
  rw [exec, execEngEnable, LinkControlProofs.writeObject_allowed haccess, henable]

end Allowed

/-- A path that may not write ENG_CTRL changes nothing by any of the three. -/
theorem exec_engControl_denied (haccess : s.accessStatus path true (0x3610 + engineNum e) 2 = st) (hst : st ≠ .ok) :
    exec (.engDrain path e) s = .next (s.respond st) ∧ exec (.engAbort path e) s = .next (s.respond st) ∧
      exec (.engEnable path e) s = .next (s.respond st) := by
  refine ⟨?_, ?_, ?_⟩
  · rw [exec, execEngDrain, LinkControlProofs.writeObject_denied haccess hst]
  · rw [exec, execEngAbort, LinkControlProofs.writeObject_denied haccess hst]
  · rw [exec, execEngEnable, LinkControlProofs.writeObject_denied haccess hst]

end Write

/-- Settles O11: each control by the state of the engine that it finds. -/
theorem engineControl : Obligations.EngineControl := by
  refine ⟨fun path e s haccess hstate => exec_engDrain haccess (engDrain_enabled hstate), ?_, ?_,
    fun path e s haccess hstate => exec_engDrain haccess (engDrain_done hstate),
    fun path e s haccess hstate => exec_engDrain haccess (engDrain_aborting hstate),
    fun path e s haccess hstate => exec_engAbort haccess (engAbort_begins hstate),
    fun path e s haccess hstate => exec_engAbort haccess (engAbort_done hstate),
    fun path e s haccess hstate => exec_engEnable haccess (engEnable_back hstate),
    fun path e s haccess hstate => exec_engEnable haccess (engEnable_aborting hstate),
    fun path e st s haccess hst => (exec_engControl_denied haccess hst).1,
    fun path e st s haccess hst => (exec_engControl_denied haccess hst).2.1,
    fun path e st s haccess hst => (exec_engControl_denied haccess hst).2.2⟩
  · intro path e s haccess hstate hrun
    rw [exec_engDrain haccess (engDrain_enabled hstate), settleEngine_running (by rwa [engine_setEngine_same])]
  · intro path e s haccess hstate hidle hheld hnone
    have hdrained := settleEngine_drained (n := engineNum e)
      (s := s.setEngine (engineNum e) { s.engine (engineNum e) with st := .draining, snap := s.engineQueues (engineNum e) })
      (by rw [engine_setEngine_same]) (by rwa [engine_setEngine_same]) (by rwa [engine_setEngine_same])
      (by rwa [engine_setEngine_same])
    refine ⟨_, exec_engDrain haccess (engDrain_enabled hstate), ?_, rfl, ?_⟩
    · rw [hdrained, engine_setEngine_same]
      exact engine_setEngine_same
    · rw [hdrained]
      rfl

end Sys2Proof.EngineControlProofs
end

section
/-!
PROOFS. MOVE and FILL up to the next 4 KiB (R220, R228), and the commands of the Census engine (R222, R223).
-/
namespace Sys2Proof.MoverProofs
open Sys2Proof Sys2Proof.Machine

variable {s : State} {run : RunCmd} {bad : List Nat}

/-! ### MOVE (R220) -/

/-- The ranges of a MOVE overlap. -/
abbrev overlaps (run : RunCmd) : Prop :=
  entryField run.cmd 8 8 < entryField run.cmd 16 8 + entryField run.cmd 24 4 ∧
    entryField run.cmd 16 8 < entryField run.cmd 8 8 + entryField run.cmd 24 4

/-- A copy that an ABORT has taken ends where it stands. -/
theorem settleMove_aborting (habort : s.aborting 2 = true) (n : Nat) :
    s.settleMove s.moved n = s.conclude 2 s.moved.status 0 s.moved.bytes 0 := if_pos (.inr (.inr habort))

section Move

variable (hrun : s.runningOp 2 .move = some run)
include hrun

theorem move_overlaps (hbegins : s.moved.bytes = 0) (hoverlap : overlaps run) :
    exec (.move bad) s = .next (s.conclude 2 .badFormat 0 0 0) := by
  simp only [exec, execMove, hrun]
  rw [if_pos ⟨hbegins, hoverlap⟩]

theorem move_pathless (hbegins : s.moved.bytes = 0) (hapart : ¬ overlaps run)
    (hpath : s.moverPath (entryField run.cmd 28 1) (entryField run.cmd 8 8) (entryField run.cmd 16 8) = false) :
    exec (.move bad) s = .next (s.conclude 2 .refused 0 0 0) := by
  simp only [exec, execMove, hrun]
  rw [if_neg fun h => hapart h.2, if_pos ⟨hbegins, by rw [hpath]; rfl⟩]

theorem move_aborted (hgoes : s.moved.bytes ≠ 0) (habort : s.aborting 2 = true) :
    exec (.move bad) s = .next (s.conclude 2 s.moved.status 0 s.moved.bytes 0) := by
  simp only [exec, execMove, hrun]
  rw [if_neg fun h => hgoes h.1, if_neg fun h => hgoes h.1, if_pos ⟨hgoes, habort⟩, settleMove_aborting habort]

theorem move_goes
    (hmay : s.moved.bytes ≠ 0 ∨ ¬ overlaps run ∧
      s.moverPath (entryField run.cmd 28 1) (entryField run.cmd 8 8) (entryField run.cmd 16 8) = true)
    (hlives : s.moved.bytes = 0 ∨ s.aborting 2 = false) :
    exec (.move bad) s = .next (
      let k := moverStop (entryField run.cmd 16 8) s.moved.bytes (entryField run.cmd 24 4)
      let r := s.movePieces (engineMaster 2 run.queue) (entryField run.cmd 8 8) (entryField run.cmd 16 8) bad s.moved
        (lineCuts (entryField run.cmd 16 8) k (k / 8) s.moved.bytes)
      r.2.settleMove r.1 (entryField run.cmd 24 4)) := by
  have hapart : ¬ (s.moved.bytes = 0 ∧ overlaps run) := fun h => hmay.elim (· h.1) fun hmay => hmay.1 h.2
  have hpath : ¬ (s.moved.bytes = 0 ∧
      (!s.moverPath (entryField run.cmd 28 1) (entryField run.cmd 8 8) (entryField run.cmd 16 8)) = true) := by
    rintro ⟨hbegins, hnone⟩
    rcases hmay with hgoes | ⟨-, hsome⟩
    · exact hgoes hbegins
    · simp [hsome] at hnone
  have halive : ¬ (s.moved.bytes ≠ 0 ∧ s.aborting 2 = true) := by
    rintro ⟨hgoes, habort⟩
    rcases hlives with hbegins | hlives
    · exact hgoes hbegins
    · simp [hlives] at habort
  simp only [exec, execMove, hrun]
  rw [if_neg hapart, if_neg hpath, if_neg halive]

end Move

/-! ### FILL (R220) -/

section Fill

variable (hrun : s.runningOp 2 .fill = some run)
include hrun

theorem fill_pathless (hbegins : s.moved.bytes = 0)
    (hpath : s.fillPath (entryField run.cmd 20 1) (entryField run.cmd 8 8) = false) :
    exec .fill s = .next (s.conclude 2 .refused 0 0 0) := by
  simp only [exec, execFill, hrun]
  rw [if_pos ⟨hbegins, by rw [hpath]; rfl⟩]

theorem fill_aborted (hgoes : s.moved.bytes ≠ 0) (habort : s.aborting 2 = true) :
    exec .fill s = .next (s.conclude 2 s.moved.status 0 s.moved.bytes 0) := by
  simp only [exec, execFill, hrun]
  rw [if_neg fun h => hgoes h.1, if_pos ⟨hgoes, habort⟩, settleMove_aborting habort]

theorem fill_goes (hmay : s.moved.bytes ≠ 0 ∨ s.fillPath (entryField run.cmd 20 1) (entryField run.cmd 8 8) = true)
    (hlives : s.moved.bytes = 0 ∨ s.aborting 2 = false) :
    exec .fill s = .next (
      let k := moverStop (entryField run.cmd 8 8) s.moved.bytes (entryField run.cmd 16 4)
      let r := s.fillPieces (engineMaster 2 run.queue) (entryField run.cmd 8 8) (entryField run.cmd 24 8) s.moved
        (lineCuts (entryField run.cmd 8 8) k (k / 8) s.moved.bytes)
      r.2.settleMove r.1 (entryField run.cmd 16 4)) := by
  have hpath : ¬ (s.moved.bytes = 0 ∧ (!s.fillPath (entryField run.cmd 20 1) (entryField run.cmd 8 8)) = true) := by
    rintro ⟨hbegins, hnone⟩
    rcases hmay with hgoes | hsome
    · exact hgoes hbegins
    · simp [hsome] at hnone
  have halive : ¬ (s.moved.bytes ≠ 0 ∧ s.aborting 2 = true) := by
    rintro ⟨hgoes, habort⟩
    rcases hlives with hbegins | hlives
    · exact hgoes hbegins
    · simp [hlives] at habort
  simp only [exec, execFill, hrun]
  rw [if_neg hpath, if_neg halive]

end Fill

/-! ### The Census commands (R222, R223) -/

section Census

/-- The group that a GROUP_DEF defines, which records from the next release on. -/
abbrev definedGroup (s : State) (run : RunCmd) : CensusGroup :=
  { rtype := entryField run.cmd 9 1, clu := entryField run.cmd 10 1, tile := entryField run.cmd 11 1,
    nfirst := entryField run.cmd 12 2, ncount := entryField run.cmd 14 2, win := entryField run.cmd 16 4,
    rqueue := entryField run.cmd 20 2, period := entryField run.cmd 22 2, queue := run.queue,
    fromStep := s.reg Reg.STEP_RELEASED + 1 }

theorem groupDef_defines (hrun : s.runningOp 4 .groupDef = some run) (hok : s.groupDefOk run.cmd = true) :
    exec .groupDef s = .next ({ s with
      census := Assoc.set (entryField run.cmd 8 1) (definedGroup s run) s.census }.conclude 4 .ok 0 0 0) := by
  simp only [exec, execGroupDef, hrun, hok, Bool.not_true, Bool.false_eq_true, if_false]

theorem groupDef_bad (hrun : s.runningOp 4 .groupDef = some run) (hbad : s.groupDefOk run.cmd = false) :
    exec .groupDef s = .next (s.conclude 4 .badFormat 0 0 0) := by
  simp only [exec, execGroupDef, hrun, hbad, Bool.not_false, if_true]

theorem groupClear_erases (hrun : s.runningOp 4 .groupClear = some run) :
    exec .groupClear s = .next ({ s with census := Assoc.erase (entryField run.cmd 8 1) s.census }.conclude 4 .ok 0 0 0) := by
  simp only [exec, execGroupClear, hrun]

theorem tilestat_stores (hrun : s.runningOp 4 .tilestat = some run) :
    exec .tilestat s = .next (((s.setBytes (entryField run.cmd 8 4) (leBytes 16 (packFields [(0, 16, 0xFFFF), (16, 8, 3),
      (24, 8, s.fabric.lastStatus.code), (32, 64, s.reg Reg.STEP_COMPLETE), (96, 32, 8192)]) ++ s.tilestatPayload)).bump
      Reg.CENSUS_RECORDS).conclude 4 .ok 0 8208 0) := by
  simp only [exec, execTilestat, hrun]

end Census

/-- Settles O6: a copy by where it stands, then the Census commands. -/
theorem moverAndCensusCommands : Obligations.MoverAndCensusCommands :=
  ⟨fun _ _ _ hrun hmay hlives => move_goes hrun hmay hlives,
    fun _ _ _ hrun hbegins hsrc hdst => move_overlaps hrun hbegins ⟨hsrc, hdst⟩,
    fun _ _ _ hrun hbegins hapart hpath => move_pathless hrun hbegins hapart hpath,
    fun _ _ _ hrun hgoes habort => move_aborted hrun hgoes habort,
    fun _ _ hrun hmay hlives => fill_goes hrun hmay hlives,
    fun _ _ hrun hbegins hpath => fill_pathless hrun hbegins hpath,
    fun _ _ hrun hgoes habort => fill_aborted hrun hgoes habort,
    fun _ _ hrun hok => groupDef_defines hrun hok, fun _ _ hrun hbad => groupDef_bad hrun hbad,
    fun _ _ hrun => groupClear_erases hrun, fun _ _ hrun => tilestat_stores hrun⟩

end Sys2Proof.MoverProofs
end

section
/-!
PROOFS. MAP_LOAD, ARM and DISARM of an intake port (R221, R303, R309, R313, R315, R323).
-/
namespace Sys2Proof.IntakeCommandProofs
open Sys2Proof Sys2Proof.Machine

variable {s : State} {run : RunCmd}

/-- The port that a command of the Intake engine names. -/
abbrev portOf (run : RunCmd) : Nat := entryField run.cmd 8 1

/-! ### MAP_LOAD (R221) -/

section MapLoad

/-- The map that a MAP_LOAD loads. -/
abbrev mapOf (s : State) (run : RunCmd) : List Byte := s.bytes (entryField run.cmd 12 4) (entryField run.cmd 16 4)

variable (hrun : s.runningOp 3 .mapLoad = some run)
include hrun

theorem mapLoad_armed (harmed : s.reg (Reg.PORT_STATE (portOf run)) ≠ 0) :
    exec .mapLoad s = .next (s.conclude 3 .refused 0 0 0) := by
  simp only [exec, execMapLoad, hrun]
  rw [if_pos harmed]

variable (hidle : s.reg (Reg.PORT_STATE (portOf run)) = 0)
include hidle

theorem mapLoad_valid (hvalid : s.mapBad (portOf run) (entryField run.cmd 9 1) (mapOf s run) = none) :
    exec .mapLoad s = .next ((s.setPort (portOf run)
      (if entryField run.cmd 9 1 = 0 then { s.port (portOf run) with decodeMap := some (mapOf s run) }
        else if entryField run.cmd 9 1 = 1 then { s.port (portOf run) with intakeMap := some (mapOf s run) }
        else { s.port (portOf run) with graph := some (mapOf s run) })).conclude 3 .ok 0 0 0) := by
  simp only [exec, execMapLoad, hrun]
  rw [if_neg (not_not.mpr hidle)]
  generalize entryField run.cmd 9 1 = kind at hvalid ⊢
  simp only [hvalid]
  rcases kind with _ | _ | kind <;> rfl

theorem mapLoad_bad {k : Nat} (hbad : s.mapBad (portOf run) (entryField run.cmd 9 1) (mapOf s run) = some k) :
    exec .mapLoad s = .next ((if entryField run.cmd 9 1 = 1 ∨ entryField run.cmd 9 1 = 0 ∧ portOf run < 4 then
      s.logFault { cls := .configReject, status := .badFormat, source := some 3, unit := portOf run, ref := k }
      else s).conclude 3 .badFormat 0 0 0) := by
  simp only [exec, execMapLoad, hrun]
  rw [if_neg (not_not.mpr hidle), hbad]
  simp only [Bool.or_eq_true, Bool.and_eq_true, beq_iff_eq, decide_eq_true_eq]

end MapLoad

/-! ### ARM (R315, R323) -/

section Arm

/-- Whether a port has the maps that its kind asks for. -/
abbrev mapped (s : State) (p : Nat) : Bool :=
  if p < 4 then (s.port p).decodeMap.isSome && (s.port p).intakeMap.isSome
  else (s.port p).graph.isNone || (s.port p).intakeMap.isSome

variable (hrun : s.runningOp 3 .arm = some run)
include hrun

theorem arm_refused (h : s.skid (portOf run) = none ∨ s.harnessLoaded = false ∨ mapped s (portOf run) = false) :
    exec .arm s = .next (s.conclude 3 .refused 0 0 0) := by
  simp only [exec, execArm, hrun]
  split
  case h_1 => rfl
  case h_2 bw hskid =>
    refine if_pos ?_
    rcases h with hnone | hharness | hmaps
    · cases hskid.symm.trans hnone
    · exact .inl (congrArg not hharness)
    · exact .inr (congrArg not hmaps)

variable {bw : Nat × Nat} (hskid : s.skid (portOf run) = some bw) (hharness : s.harnessLoaded = true)
  (hmaps : mapped s (portOf run) = true)
include hskid hharness hmaps

/-- Past the checks of maps and harness the size of the skid buffer decides. -/
theorem arm_eq : exec .arm s = .next (if (s.window bw.1 bw.2).size ≤ s.reg (Reg.STOP_BYTES (portOf run)) then
    s.conclude 3 .badFormat 0 0 0
  else ((((s.discardSkid (portOf run)).setPort (portOf run) { (s.discardSkid (portOf run)).port (portOf run) with
    th := 0, d := none, anchor := none, seqs := [] }).setReg (Reg.PORT_STATE (portOf run)) 1).reinDrive
      (portOf run)).conclude 3 .ok 0 0 0) := by
  simp only [exec, execArm, hrun, hskid]
  rw [if_neg (by simp only [hharness, hmaps, Bool.not_true, Bool.false_eq_true, or_self, not_false_eq_true])]
  split <;> rfl

end Arm

/-! ### DISARM (R313) -/

section Disarm

variable (hrun : s.runningOp 3 .disarm = some run)
include hrun

theorem disarm_now (h : entryField run.cmd 9 1 = 1 ∨ s.skidFill (portOf run) = 0) :
    exec .disarm s = .next ((s.disarmNow (portOf run)).conclude 3 .ok 0 0 0) := by
  simp only [exec, execDisarm, hrun]
  rw [if_pos h]

theorem disarm_waits (hmode : entryField run.cmd 9 1 ≠ 1) (hfill : s.skidFill (portOf run) ≠ 0) :
    exec .disarm s = .next (if s.reg (Reg.PORT_STATE (portOf run)) = 1 then
      (s.setReg (Reg.PORT_STATE (portOf run)) 2).reinDrive (portOf run) else s) := by
  simp only [exec, execDisarm, hrun]
  rw [if_neg (not_or.mpr ⟨hmode, hfill⟩)]
  split <;> rfl

end Disarm

/-- Settles O7: a map by its check, a port by its maps and buffer, a disarming by what the buffer holds. -/
theorem intakeCommands : Obligations.IntakeCommands := by
  refine ⟨fun run s hrun hidle hvalid => mapLoad_valid hrun hidle hvalid, ?_, ?_,
    fun run s hrun harmed => mapLoad_armed hrun harmed, ?_, fun run s hrun h => arm_refused hrun h, ?_,
    fun run s hrun h => disarm_now hrun h, ?_, ?_⟩
  · intro k run s hrun hidle hbad htold
    rw [mapLoad_bad hrun hidle hbad, if_pos htold]
  · intro k run s hrun hidle hbad hquiet
    rw [mapLoad_bad hrun hidle hbad, if_neg hquiet]
  · intro bw run s hrun hskid hharness hmaps hsize
    rw [arm_eq hrun hskid hharness hmaps, if_neg (Nat.not_le.mpr hsize)]
  · intro bw run s hrun hskid hharness hmaps hsize
    rw [arm_eq hrun hskid hharness hmaps, if_pos hsize]
  · intro run s hrun hmode hfill harmed
    rw [disarm_waits hrun hmode hfill, if_pos harmed]
  · intro run s hrun hmode hfill hstate
    rw [disarm_waits hrun hmode hfill, if_neg hstate]

end Sys2Proof.IntakeCommandProofs
end

section
/-!
PROOFS. The commands of the Crypto engine by the key of their handle (R224, R285, R293, R428).
-/
namespace Sys2Proof.CryptoProofs
open Sys2Proof Sys2Proof.Machine

variable {s : State} {run : RunCmd} {key : Nat}

/-- The handle that a command names. -/
abbrev handleOf (run : RunCmd) : Nat := entryField run.cmd 8 2

/-! ### Without a key (R428) -/

theorem gcmSeal_keyless (hrun : s.runningOp 5 .gcmSeal = some run) (hkey : s.keyFor run.queue (handleOf run) .gcmSeal = none) :
    exec .gcmSeal s = .next (s.conclude 5 .security 0 0 0) := by
  simp only [exec, execGcmSeal, hrun, hkey]

theorem gcmOpen_keyless (hrun : s.runningOp 5 .gcmOpen = some run) (hkey : s.keyFor run.queue (handleOf run) .gcmOpen = none) :
    exec .gcmOpen s = .next (s.conclude 5 .security 0 0 0) := by
  simp only [exec, execGcmOpen, hrun, hkey]

theorem ecdsaSign_keyless (hrun : s.runningOp 5 .ecdsaSign = some run)
    (hkey : s.keyFor run.queue (handleOf run) .ecdsaSign = none) : exec .ecdsaSign s = .next (s.conclude 5 .security 0 0 0) := by
  simp only [exec, execEcdsaSign, hrun, hkey]

theorem xtsKeyset_keyless (hrun : s.runningOp 5 .xtsKeyset = some run)
    (hkey : s.keyFor run.queue (handleOf run) .xtsKeyset = none) : exec .xtsKeyset s = .next (s.conclude 5 .security 0 0 0) := by
  simp only [exec, execXtsKeyset, hrun, hkey]

theorem sha384_barred (hrun : s.runningOp 5 .sha384 = some run) (hbar : handleBarred run.queue (handleOf run) .sha384 = true) :
    exec .sha384 s = .next (s.conclude 5 .security 0 0 0) := by
  simp only [exec, execSha384, hrun, hbar, if_true]

theorem ecdsaVerify_barred (hrun : s.runningOp 5 .ecdsaVerify = some run)
    (hbar : handleBarred run.queue (handleOf run) .ecdsaVerify = true) :
    exec .ecdsaVerify s = .next (s.conclude 5 .security 0 0 0) := by
  simp only [exec, execEcdsaVerify, hrun, hbar, Bool.not_true, Bool.and_false, Bool.false_eq_true, if_false]

/-! ### With a key (R224) -/

theorem gcmOpen_keyed (hrun : s.runningOp 5 .gcmOpen = some run)
    (hkey : s.keyFor run.queue (handleOf run) .gcmOpen = some key) : exec .gcmOpen s = .next (
      let body := entryField run.cmd 12 4 + entryField run.cmd 24 2
      match Config.gcmOpen key (BitVec.ofNat 96 (s.word body 12)) (s.bytes (entryField run.cmd 12 4) (entryField run.cmd 24 2))
          (s.bytes (body + 12) (entryField run.cmd 20 4)) (BitVec.ofNat 128 (s.word (body + 12 + entryField run.cmd 20 4) 16)) with
      | none => s.conclude 5 .security 0 0 0
      | some p => (s.setBytes (entryField run.cmd 16 4) (fitBytes (entryField run.cmd 20 4) p)).conclude 5 .ok 0 0 0) := by
  simp only [exec, execGcmOpen, hrun, hkey]
  split
  next hopen => simp only [hopen]
  next p hopen => simp only [hopen]

theorem sha384_stores (hrun : s.runningOp 5 .sha384 = some run) (hfree : handleBarred run.queue (handleOf run) .sha384 = false) :
    exec .sha384 s = .next ((s.setBytes (entryField run.cmd 16 4) (leBytes 48 (Config.sha384 (s.bytes (entryField run.cmd 12 4)
      (entryField run.cmd 20 4))).toNat)).conclude 5 .ok 0 0 0) := by
  simp only [exec, execSha384, hrun, hfree, Bool.false_eq_true, if_false, sha384Bytes]

theorem ecdsaVerify_judges (hrun : s.runningOp 5 .ecdsaVerify = some run)
    (hfree : handleBarred run.queue (handleOf run) .ecdsaVerify = false) : exec .ecdsaVerify s =
      .next (s.conclude 5 (if Config.ecdsaVerify (Config.verifyKey (handleOf run)) (s.bytes (entryField run.cmd 12 4) 48)
        (s.bytes (entryField run.cmd 12 4 + 48) 96) then .ok else .security) 0 0 0) := by
  simp only [exec, execEcdsaVerify, hrun, hfree, Bool.not_false, Bool.and_true]

/-- Settles O8: each command with the key of its handle and without one. -/
theorem cryptoCommands : Obligations.CryptoCommands := by
  refine ⟨?_, fun key run s hrun hkey => gcmOpen_keyed hrun hkey, fun run s hrun hfree => sha384_stores hrun hfree, ?_,
    fun run s hrun hfree => ecdsaVerify_judges hrun hfree, ?_, fun run s hrun hkey => gcmSeal_keyless hrun hkey,
    fun run s hrun hkey => gcmOpen_keyless hrun hkey, fun run s hrun hkey => ecdsaSign_keyless hrun hkey,
    fun run s hrun hkey => xtsKeyset_keyless hrun hkey, fun run s hrun hbar => sha384_barred hrun hbar,
    fun run s hrun hbar => ecdsaVerify_barred hrun hbar⟩
  · intro key run s hrun hkey
    simp only [exec, execGcmSeal, hrun, hkey, State.fresh]
  · intro key run s hrun hkey
    simp only [exec, execEcdsaSign, hrun, hkey, State.fresh]
  · intro key run s hrun hkey
    simp only [exec, execXtsKeyset, hrun, hkey]

end Sys2Proof.CryptoProofs
end

section
/-!
PROOFS. The control of a queue: DRAIN, ABORT, ENABLE, RESET, CLOSE, OPEN and CLEAR at its port (R227, R243, R246, R251, R253), QPOLICY
(R258) and the stale-tail timer (R247).
-/
namespace Sys2Proof.QueueControlProofs
open Sys2Proof Sys2Proof.Machine
open Sys2Proof.QueueProofs
open Sys2Proof.AccessProofs (logFault_frame)

variable {s u : State} {m : Master} {q : Nat} {v : QCtrl} {x : QueueSoft}

/-! ### The checks that CTRL writes share (R243, R246) -/

/-- Whether a master has the right that a control asks for: that of the producer to the first three, else the consumer's. -/
def mayCtrl (m : Master) (q : Nat) (b : Queue) : QCtrl → Bool
  | .drain | .abort | .enable => mayProduce m q b
  | .reset | .close | .open' => mayConsume m q b

theorem ctrl_eq : u.ctrl m q v =
    if portCheck m q (u.queue q) true true (mayCtrl m q (u.queue q) v) ≠ .ok then
      (u.countRefusal (portCheck m q (u.queue q) true true (mayCtrl m q (u.queue q) v))).respond
        (portCheck m q (u.queue q) true true (mayCtrl m q (u.queue q) v))
    else if (u.queue q).mismatch then (u.pointerReset q).respond .stale else u.ctrlApply q v := by
  cases v <;> rfl

section Checked

variable {st : Status} (hsoft : s.queueSoft q x = u)
include hsoft

theorem ctrl_refused (hcheck : portCheck m q (u.queue q) true true (mayCtrl m q (u.queue q) v) = st) (hst : st ≠ .ok) :
    Host.Outcome.next ((s.queueSoft q x).ctrl m q v) =
      (.next ((u.countRefusal st).respond st) : Host.Outcome State Fault Refusal) := by
  rw [hsoft, ctrl_eq, hcheck, if_pos hst]

theorem ctrl_stale (hcheck : portCheck m q (u.queue q) true true (mayCtrl m q (u.queue q) v) = .ok)
    (hmismatch : (u.queue q).mismatch = true) : Host.Outcome.next ((s.queueSoft q x).ctrl m q v) =
      (.next ((u.pointerReset q).respond .stale) : Host.Outcome State Fault Refusal) := by
  rw [hsoft, ctrl_eq, hcheck, if_neg (not_not.mpr rfl), if_pos hmismatch]

/-- A master with the right, at a bound queue with agreeing pointers, has the control applied. -/
theorem ctrl_applied (hagree : (u.queue q).mismatch = false) (hmay : mayCtrl m q (u.queue q) v = true)
    (hbar : ¬ (m = .saddle ∧ isBridleQueue q = true)) (hbound : (u.queue q).qstate ≠ .unbound) :
    Host.Outcome.next ((s.queueSoft q x).ctrl m q v) = (.next (u.ctrlApply q v) : Host.Outcome State Fault Refusal) := by
  rw [hsoft, ctrl_eq, hmay, portCheck_ok hbar hbound, if_neg (not_not.mpr rfl), hagree, if_neg Bool.false_ne_true]

end Checked

/-! ### DRAIN, ABORT and ENABLE of a command queue (R227, R253) -/

/-- The control block of a queue that begins to drain: its write pointer is the last that it takes commands up to. -/
def drainingBlock (b : Queue) : Queue :=
  { b with qstate := .draining, snap := some b.wpA }

section Command

variable (hkind : (u.queue q).kind = .command)
include hkind

theorem drain_enabled (hstate : (u.queue q).qstate = .enabled) : u.ctrlApply q .drain =
    ((u.setQueue q (drainingBlock (u.queue q))).settleQueue q).respond .ok := by
  simp only [State.ctrlApply, hkind, if_true, State.qDrain, hstate, drainingBlock]

theorem drain_done (hstate : (u.queue q).qstate = .draining ∨ (u.queue q).qstate = .disabled) :
    u.ctrlApply q .drain = u.respond .ok := by
  rcases hstate with hstate | hstate <;> simp only [State.ctrlApply, hkind, if_true, State.qDrain, hstate]

theorem abort_begins (hstate : (u.queue q).qstate = .enabled ∨ (u.queue q).qstate = .draining) : u.ctrlApply q .abort =
    (((u.setQueue q { u.queue q with qstate := .aborting, snap := some (u.queue q).wpA }).abortUpTo q (u.queue q).eng
      (u.queue q).wpA (u.queue q).count).settleQueue q).respond .ok := by
  rcases hstate with hstate | hstate <;>
    simp only [State.ctrlApply, hkind, if_true, State.qAbort, hstate, State.abortQueue]

theorem abort_done (hstate : (u.queue q).qstate = .aborting ∨ (u.queue q).qstate = .disabled) :
    u.ctrlApply q .abort = u.respond .ok := by
  rcases hstate with hstate | hstate <;> simp only [State.ctrlApply, hkind, if_true, State.qAbort, hstate]

theorem enable_back (hstate : (u.queue q).qstate = .draining ∨ (u.queue q).qstate = .disabled) :
    u.ctrlApply q .enable = (u.setQueue q { u.queue q with qstate := .enabled, snap := none }).respond .ok := by
  rcases hstate with hstate | hstate <;> simp only [State.ctrlApply, hkind, if_true, State.qEnable, hstate]

theorem enable_done (hstate : (u.queue q).qstate = .enabled) : u.ctrlApply q .enable = u.respond .ok := by
  simp only [State.ctrlApply, hkind, if_true, State.qEnable, hstate]

end Command

/-- A draining queue that has entries left before its snapshot, or commands outstanding, does not settle. -/
theorem settleQueue_busy {b : Queue} {p : BitVec 17} (hsnap : b.snap = some p) (hleft : b.rpA ≠ p ∨ b.outstanding ≠ 0) :
    (u.setQueue q b).settleQueue q = u.setQueue q b := by
  have hstays : ¬ ((b.qstate = .draining ∨ b.qstate = .aborting) ∧ snapTaken b p = true ∧ b.outstanding = 0 ∧
      (!(((u.setQueue q b).engine b.eng).held.any fun r => r.run.queue == q)) = true) := by
    rintro ⟨-, htaken, hnone, -⟩
    exact hleft.elim (fun h => h (beq_iff_eq.mp htaken)) (· hnone)
  simp only [State.settleQueue, queue_setQueue_same, hsnap]
  exact if_neg hstays

/-- One with nothing left is disabled. -/
theorem settleQueue_drained {b : Queue} (hstate : b.qstate = .draining) (hsnap : b.snap = some b.rpA)
    (hnone : b.outstanding = 0) (hheld : (u.engine b.eng).held = []) :
    (u.setQueue q b).settleQueue q = (u.setQueue q b).setQueue q { b with qstate := .disabled, snap := none } := by
  have hheld' : ((u.setQueue q b).engine b.eng).held = [] := hheld
  simp only [State.settleQueue, queue_setQueue_same, hsnap]
  exact if_pos ⟨.inl hstate, beq_self_eq_true _, hnone, by rw [hheld']; rfl⟩

section Refused

theorem drain_refused (h : (u.queue q).kind ≠ .command ∨ (u.queue q).qstate = .aborting ∨ (u.queue q).qstate = .closed) :
    u.ctrlApply q .drain = u.respond .refused := by
  by_cases hkind : (u.queue q).kind = .command
  · rcases h.resolve_left (not_not.mpr hkind) with h | h <;> simp only [State.ctrlApply, hkind, if_true, State.qDrain, h]
  · exact if_neg hkind

theorem abort_refused (h : (u.queue q).kind ≠ .command ∨ (u.queue q).qstate = .closed) :
    u.ctrlApply q .abort = u.respond .refused := by
  by_cases hkind : (u.queue q).kind = .command
  · simp only [State.ctrlApply, hkind, if_true, State.qAbort, h.resolve_left (not_not.mpr hkind)]
  · exact if_neg hkind

theorem enable_refused (h : (u.queue q).kind ≠ .command ∨ (u.queue q).qstate = .aborting ∨ (u.queue q).qstate = .closed) :
    u.ctrlApply q .enable = u.respond .refused := by
  by_cases hkind : (u.queue q).kind = .command
  · rcases h.resolve_left (not_not.mpr hkind) with h | h <;> simp only [State.ctrlApply, hkind, if_true, State.qEnable, h]
  · exact if_neg hkind

end Refused

/-! ### What a discard leaves of the clock (R251) -/

theorem logFault_now (n : FaultNote) : (s.logFault n).now = s.now := by
  obtain ⟨l, k, r, o, h, heq, -⟩ := logFault_frame n s
  rw [heq]

theorem pushEntry_now (e : Entry) : (s.pushEntry q e).now = s.now := by
  obtain ⟨r, n, o, heq⟩ := pushEntry_frame (s := s) (q := q) (e := e)
  rw [heq]
  rfl

theorem hitchSend_now {h node w : Nat} (msg : HitchMsg) (run : Option RunCmd) : (s.hitchSend h msg node run w).now = s.now := by
  rw [State.hitchSend]
  split <;> rfl

theorem unsubscribe_now (h node : Nat) : (s.unsubscribe h node).now = s.now := by
  fun_cases State.unsubscribe with
  | case1 => rfl
  | case2 => exact hitchSend_now _ _
  | case3 => rfl

theorem msgReturn_now (e : Entry) : (s.msgReturn q e).now = s.now := by
  fun_cases State.msgReturn with
  | case1 => exact pushEntry_now _
  | case2 =>
    rw [State.logGated]
    split
    · rfl
    · exact logFault_now _

theorem returnFrom_now (n : Nat) (p : BitVec 17) : (s.returnFrom q p n).now = s.now := by
  induction n generalizing s p with
  | zero => rfl
  | succ n ih =>
    rw [State.returnFrom]
    refine (ih _).trans ?_
    split
    · exact msgReturn_now _
    · rfl

theorem dropHeld_now (l : List Nat) : (s.dropHeld q l).now = s.now := by
  have hlost (e : Nat) (rs : List HeldRecord) (t : State) :
      (rs.foldl (fun s r => (s.countHeld e r).recordLost e r.run) t).now = t.now := by
    induction rs generalizing t with
    | nil => rfl
    | cons r rs ih => exact (ih _).trans (logFault_now _)
  induction l generalizing s with
  | nil => rfl
  | cons e l ih => exact ih.trans (hlost _ _ _)

theorem discard_now (full : Bool) : (s.discard q full).now = s.now := by
  fun_cases State.discard with
  | case1 =>
    rw [State.leaveWait]
    split
    · rfl
    · exact unsubscribe_now _ _
  | case2 => exact dropHeld_now _
  | case3 => rfl
  | case4 => exact returnFrom_now _ _
  | case5 => exact returnFrom_now _ _
  | case6 => rfl
  | case7 => rfl

/-! ### RESET, CLOSE, OPEN and CLEAR (R251, R253) -/

/-- The control block that a reset leaves: nothing to read, no flag, the next generation, and the timer set anew. -/
def resetBlock (b : Queue) (now : Nat) : Queue :=
  { b.setRp b.wpA with ovr := false, tmo := false, gen := b.gen + 1 }.rearm now

theorem queueReset_eq : u.queueReset q =
    ((u.discard q false).setQueue q (resetBlock ((u.discard q false).queue q) (u.discard q false).now)).bump Reg.Q_RESETS := by
  rw [discard_now]
  rfl

/-- A DATA queue has nothing more to discard. -/
theorem discard_data {full : Bool} (hkind : (u.queue q).kind = .data) : u.discard q full = u := by
  simp only [State.discard, hkind]

theorem queueReset_data (hkind : (u.queue q).kind = .data) : u.queueReset q =
    (u.setQueue q (resetBlock (u.queue q) u.now)).bump Reg.Q_RESETS := by
  rw [queueReset_eq, discard_data hkind]

theorem mayReset_data {closedToo : Bool} {b : Queue} (hkind : b.kind = .data)
    (hstate : b.qstate = .enabled ∨ b.qstate = .disabled ∨ (closedToo = true ∧ b.qstate = .closed)) :
    b.mayReset closedToo = true := by
  rcases hstate with h | h | ⟨hclosed, h⟩
  · simp [Queue.mayReset, hkind, h]
  · simp [Queue.mayReset, hkind, h]
  · simp [Queue.mayReset, hkind, h, hclosed]

theorem reset_applied (hmay : (u.queue q).mayReset true = true) : u.ctrlApply q .reset = (u.queueReset q).respond .ok :=
  if_pos hmay

theorem reset_refused (hmay : (u.queue q).mayReset true = false) : u.ctrlApply q .reset = u.respond .refused :=
  if_neg (by rw [hmay]; exact Bool.false_ne_true)

theorem close_applied (hmay : (u.queue q).mayReset false = true) : u.ctrlApply q .close =
    ((u.queueReset q).setQueue q { (u.queueReset q).queue q with qstate := .closed }).respond .ok :=
  if_pos hmay

theorem close_refused (hmay : (u.queue q).mayReset false = false) : u.ctrlApply q .close = u.respond .refused :=
  if_neg (by rw [hmay]; exact Bool.false_ne_true)

theorem open_closed (hstate : (u.queue q).qstate = .closed) (hsound : (u.queue q).failed = false) : u.ctrlApply q .open' =
    (u.setQueue q { u.queue q with qstate := .enabled, gen := (u.queue q).gen + 1 }).respond .ok :=
  if_pos ⟨hstate, by rw [hsound]; rfl⟩

theorem open_refused (h : (u.queue q).qstate ≠ .closed ∨ (u.queue q).failed = true) :
    u.ctrlApply q .open' = u.respond .refused := by
  refine if_neg ?_
  rintro ⟨hclosed, hsound⟩
  rcases h with h | h
  · exact h hclosed
  · simp [h] at hsound

/-- The control block with the flags cleared that the bits of a word name. -/
def clearedBlock (b : Queue) (w : BitVec 32) : Queue :=
  { b with ovr := b.ovr && !w.getLsbD 0, tmo := b.tmo && !w.getLsbD 1, rst := b.rst && !w.getLsbD 2 }

section Clear

variable {w : BitVec 32} {st : Status}

theorem clear_refused (hcheck : portCheck m q (u.queue q) (decide (w.toNat < 8)) true (mayConsume m q (u.queue q)) = st)
    (hst : st ≠ .ok) : u.queueClear m q w = (u.countRefusal st).respond st := by
  subst hcheck
  exact if_pos hst

theorem clear_stale (hcheck : portCheck m q (u.queue q) (decide (w.toNat < 8)) true (mayConsume m q (u.queue q)) = .ok)
    (hmismatch : (u.queue q).mismatch = true) : u.queueClear m q w = (u.pointerReset q).respond .stale := by
  simp only [State.queueClear, hcheck, ne_eq, not_true, if_false, hmismatch, if_true]

theorem clear_applied (hcheck : portCheck m q (u.queue q) (decide (w.toNat < 8)) true (mayConsume m q (u.queue q)) = .ok)
    (hagree : (u.queue q).mismatch = false) : u.queueClear m q w = (u.setQueue q (clearedBlock (u.queue q) w)).respond .ok := by
  simp only [State.queueClear, hcheck, ne_eq, not_true, if_false, hagree, Bool.false_eq_true]
  rfl

/-- A word that names flags only passes the port checks of a master with the right. -/
theorem clearPort_ok (hbar : ¬ (m = .saddle ∧ isBridleQueue q = true)) (hbound : (u.queue q).qstate ≠ .unbound)
    (hmay : mayConsume m q (u.queue q) = true) (hw : w.toNat < 8) :
    portCheck m q (u.queue q) (decide (w.toNat < 8)) true (mayConsume m q (u.queue q)) = .ok := by
  rw [decide_eq_true hw, hmay, portCheck_ok hbar hbound]

end Clear

/-! ### QPOLICY and the stale-tail timer (R247, R258) -/

section Policy

variable {w : BitVec 64}

theorem qpolicy_bridle (hbridle : isBridleQueue (s.reg Reg.QSEL) = true) : s.qpolicy w = (.security, s) :=
  if_pos hbridle

theorem qpolicy_bad (hbridle : isBridleQueue (s.reg Reg.QSEL) = false)
    (h : (s.queue (s.reg Reg.QSEL)).qstate = .unbound ∨ 1000000 < bitField w.toNat 0 20 ∨
      (s.queue (s.reg Reg.QSEL)).size < bitField w.toNat 35 17 ∨ bitField w.toNat 52 12 ≠ 0) :
    s.qpolicy w = (.badFormat, s) := by
  simp only [State.qpolicy, hbridle, Bool.false_eq_true, if_false, if_pos h]

theorem qpolicy_set (hq : s.reg Reg.QSEL = q) (hbridle : isBridleQueue q = false) (hbound : (s.queue q).qstate ≠ .unbound)
    (htime : bitField w.toNat 0 20 ≤ 1000000) (hwm : bitField w.toNat 35 17 ≤ (s.queue q).size)
    (hreserved : bitField w.toNat 52 12 = 0) :
    s.qpolicy w = (.ok, s.setQueue q ({ s.queue q with
      tmoUs := bitField w.toNat 0 20, ntfyEn := natBit w.toNat 20, ntfyHitch := bitField w.toNat 21 14,
      wm := bitField w.toNat 35 17 }.rearm s.now)) := by
  subst hq
  have hgood : ¬ ((s.queue (s.reg Reg.QSEL)).qstate = .unbound ∨ 1000000 < bitField w.toNat 0 20 ∨
      (s.queue (s.reg Reg.QSEL)).size < bitField w.toNat 35 17 ∨ bitField w.toNat 52 12 ≠ 0) := by
    rintro (h | h | h | h)
    · exact hbound h
    · omega
    · omega
    · exact h hreserved
  simp only [State.qpolicy, hbridle, Bool.false_eq_true, if_false, if_neg hgood]

end Policy

section StaleTail

variable {i : QueueId}

/-- The control block of a queue whose tail is found stale. -/
def staleBlock (b : Queue) : Queue :=
  { b with tmo := true, tmoCnt := min (b.tmoCnt + 1) 0xFFFF, raised := true }

theorem staleTail_raises {start : Nat} (htimer : (s.queue i.val).timerFrom = some start)
    (hon : (s.queue i.val).tmoUs ≠ 0) (hcount : (s.queue i.val).count ≠ 0) (hraised : (s.queue i.val).raised = false)
    (hdue : start + 1000 * (s.queue i.val).tmoUs ≤ s.now) : exec (.staleTail i) s =
      .next (((s.setQueue i.val (staleBlock (s.queue i.val))).bump Reg.TMO_RAISED).queueNotify (staleBlock (s.queue i.val))) := by
  have hwait : ¬ ((s.queue i.val).tmoUs = 0 ∨ (s.queue i.val).count = 0 ∨ (s.queue i.val).raised = true ∨
      s.now < start + 1000 * (s.queue i.val).tmoUs) := by
    rintro (h | h | h | h)
    · exact hon h
    · exact hcount h
    · exact Bool.false_ne_true (hraised.symm.trans h)
    · exact Nat.not_lt.mpr hdue h
  change execStaleTail i s = _
  rw [execStaleTail]
  split
  case h_1 hnone => exact absurd (htimer.symm.trans hnone) (Option.some_ne_none _)
  case h_2 at' hsome =>
    obtain rfl : start = at' := Option.some.inj (htimer.symm.trans hsome)
    exact if_neg hwait

theorem staleTail_quiet (h : (s.queue i.val).timerFrom = none ∨ (s.queue i.val).tmoUs = 0 ∨ (s.queue i.val).count = 0 ∨
      (s.queue i.val).raised = true ∨ s.now < ((s.queue i.val).timerFrom).getD 0 + 1000 * (s.queue i.val).tmoUs) :
    exec (.staleTail i) s = .next s := by
  change execStaleTail i s = _
  rw [execStaleTail]
  split
  case h_1 => rfl
  case h_2 start hsome =>
    rw [hsome] at h
    exact if_pos (h.resolve_left (Option.some_ne_none start))

end StaleTail

/-! ### The obligation -/

/-- The clause of a DRAIN that leaves nothing: the queue is disabled, and only its control block and the response change. -/
theorem drain_empty (hkind : (u.queue q).kind = .command) (hstate : (u.queue q).qstate = .enabled)
    (hempty : (u.queue q).rpA = (u.queue q).wpA) (hnone : (u.queue q).outstanding = 0)
    (hheld : (u.engine (u.queue q).eng).held = []) :
    (u.ctrlApply q .drain).queue q = { u.queue q with qstate := .disabled, snap := none } ∧
      (u.ctrlApply q .drain).resp = ⟨.ok, []⟩ ∧
      u.ctrlApply q .drain = { u with queues := (u.ctrlApply q .drain).queues, resp := (u.ctrlApply q .drain).resp } := by
  rw [drain_enabled hkind hstate, settleQueue_drained (b := drainingBlock (u.queue q)) rfl (congrArg some hempty.symm) hnone hheld]
  exact ⟨queue_setQueue_same .., rfl, rfl⟩

/-- That of a CLOSE of a DATA queue, which has nothing to discard. -/
theorem close_data (hkind : (u.queue q).kind = .data) (hstate : (u.queue q).qstate = .enabled ∨ (u.queue q).qstate = .disabled) :
    (u.ctrlApply q .close).queue q = { resetBlock (u.queue q) u.now with qstate := .closed } ∧
      (u.ctrlApply q .close).resp = ⟨.ok, []⟩ ∧
      u.ctrlApply q .close =
        { u with queues := (u.ctrlApply q .close).queues, regs := (u.bump Reg.Q_RESETS).regs,
                 resp := (u.ctrlApply q .close).resp } := by
  rw [close_applied (mayReset_data hkind (hstate.imp_right .inl)), queueReset_data hkind]
  have hreset : ((u.setQueue q (resetBlock (u.queue q) u.now)).bump Reg.Q_RESETS).queue q = resetBlock (u.queue q) u.now :=
    queue_setQueue_same ..
  rw [hreset]
  exact ⟨queue_setQueue_same .., rfl, rfl⟩

/-- Settles O10: every CTRL write is its control applied behind the shared checks, CLEAR and QPOLICY likewise behind theirs. -/
theorem queueControl : Obligations.QueueControl := by
  unfold Obligations.QueueControl
  refine ⟨?drain, ?drainBusy, ?drainEmpty, ?abort, ?enable, ?drainDone, ?abortDone, ?enableDone, ?drainRefused, ?abortRefused,
    ?enableRefused, ?resetData, ?reset, ?resetRefused, ?closeData, ?close, ?closeRefused, ?openClosed, ?openRefused, ?clear,
    ?clearDenied, ?clearStale, ?drainDenied, ?abortDenied, ?enableDenied, ?resetDenied, ?closeDenied, ?openDenied,
    ?drainStale, ?abortStale, ?enableStale, ?resetStale, ?closeStale, ?openStale, ?policy, ?policyBridle, ?policyBad,
    ?stale, ?quiet⟩
  case drain =>
    intro m q x s u hsoft hagree hmay hbar hkind hstate
    refine (ctrl_applied (v := .drain) hsoft hagree hmay hbar (by rw [hstate]; decide)).trans ?_
    rw [drain_enabled hkind hstate]
    rfl
  case drainBusy =>
    intro m q x s u hsoft hagree hmay hbar hkind hstate hleft
    refine (ctrl_applied (v := .drain) hsoft hagree hmay hbar (by rw [hstate]; decide)).trans ?_
    rw [drain_enabled hkind hstate, settleQueue_busy (b := drainingBlock (u.queue q.val)) rfl hleft]
    rfl
  case drainEmpty =>
    intro m q x s u hsoft hagree hmay hbar hkind hstate hempty hnone hheld
    exact ⟨_, ctrl_applied (v := .drain) hsoft hagree hmay hbar (by rw [hstate]; decide),
      drain_empty hkind hstate hempty hnone hheld⟩
  case abort =>
    intro m q x s u hsoft hagree hmay hbar hkind hstate
    refine (ctrl_applied (v := .abort) hsoft hagree hmay hbar (by rcases hstate with h | h <;> rw [h] <;> decide)).trans ?_
    rw [abort_begins hkind hstate]
  case enable =>
    intro m q x s u hsoft hagree hmay hbar hkind hstate
    refine (ctrl_applied (v := .enable) hsoft hagree hmay hbar (by rcases hstate with h | h <;> rw [h] <;> decide)).trans ?_
    rw [enable_back hkind hstate]
  case drainDone =>
    intro m q x s u hsoft hagree hmay hbar hkind hstate
    refine (ctrl_applied (v := .drain) hsoft hagree hmay hbar (by rcases hstate with h | h <;> rw [h] <;> decide)).trans ?_
    rw [drain_done hkind hstate]
  case abortDone =>
    intro m q x s u hsoft hagree hmay hbar hkind hstate
    refine (ctrl_applied (v := .abort) hsoft hagree hmay hbar (by rcases hstate with h | h <;> rw [h] <;> decide)).trans ?_
    rw [abort_done hkind hstate]
  case enableDone =>
    intro m q x s u hsoft hagree hmay hbar hkind hstate
    refine (ctrl_applied (v := .enable) hsoft hagree hmay hbar (by rw [hstate]; decide)).trans ?_
    rw [enable_done hkind hstate]
  case drainRefused =>
    intro m q x s u hsoft hagree hmay hbar hbound hbad
    refine (ctrl_applied (v := .drain) hsoft hagree hmay hbar hbound).trans ?_
    rw [drain_refused hbad]
  case abortRefused =>
    intro m q x s u hsoft hagree hmay hbar hbound hbad
    refine (ctrl_applied (v := .abort) hsoft hagree hmay hbar hbound).trans ?_
    rw [abort_refused hbad]
  case enableRefused =>
    intro m q x s u hsoft hagree hmay hbar hbound hbad
    refine (ctrl_applied (v := .enable) hsoft hagree hmay hbar hbound).trans ?_
    rw [enable_refused hbad]
  case resetData =>
    intro m q x s u hsoft hagree hmay hbar hkind hstate
    refine (ctrl_applied (v := .reset) hsoft hagree hmay hbar
      (by rcases hstate with h | h | h <;> rw [h] <;> decide)).trans ?_
    rw [reset_applied (mayReset_data hkind (hstate.imp_right (.imp_right fun h => ⟨rfl, h⟩))), queueReset_data hkind]
    rfl
  case reset =>
    intro m q x s u hsoft hagree hmay hbar hbound hreset
    refine (ctrl_applied (v := .reset) hsoft hagree hmay hbar hbound).trans ?_
    rw [reset_applied hreset, queueReset_eq]
    rfl
  case resetRefused =>
    intro m q x s u hsoft hagree hmay hbar hbound hreset
    refine (ctrl_applied (v := .reset) hsoft hagree hmay hbar hbound).trans ?_
    rw [reset_refused hreset]
  case closeData =>
    intro m q x s u hsoft hagree hmay hbar hkind hstate
    exact ⟨_, ctrl_applied (v := .close) hsoft hagree hmay hbar (by rcases hstate with h | h <;> rw [h] <;> decide),
      close_data hkind hstate⟩
  case close =>
    intro m q x s u hsoft hagree hmay hbar hbound hclose
    refine (ctrl_applied (v := .close) hsoft hagree hmay hbar hbound).trans ?_
    rw [close_applied hclose]
  case closeRefused =>
    intro m q x s u hsoft hagree hmay hbar hbound hclose
    refine (ctrl_applied (v := .close) hsoft hagree hmay hbar hbound).trans ?_
    rw [close_refused hclose]
  case openClosed =>
    intro m q x s u hsoft hagree hmay hbar hstate hsound
    refine (ctrl_applied (v := .open') hsoft hagree hmay hbar (by rw [hstate]; decide)).trans ?_
    rw [open_closed hstate hsound]
  case openRefused =>
    intro m q x s u hsoft hagree hmay hbar hbound hbad
    refine (ctrl_applied (v := .open') hsoft hagree hmay hbar hbound).trans ?_
    rw [open_refused hbad]
  case clear =>
    rintro m q w x s u rfl hagree hmay hbar hbound hw
    exact congrArg Host.Outcome.next (clear_applied (clearPort_ok hbar hbound hmay hw) hagree)
  case clearDenied =>
    rintro m q w st x s u rfl hcheck hst
    exact congrArg Host.Outcome.next (clear_refused hcheck hst)
  case clearStale =>
    rintro m q w x s u rfl hcheck hmismatch
    exact congrArg Host.Outcome.next (clear_stale hcheck hmismatch)
  case drainDenied => exact fun m q st x s u hsoft hcheck hst => ctrl_refused (v := .drain) hsoft hcheck hst
  case abortDenied => exact fun m q st x s u hsoft hcheck hst => ctrl_refused (v := .abort) hsoft hcheck hst
  case enableDenied => exact fun m q st x s u hsoft hcheck hst => ctrl_refused (v := .enable) hsoft hcheck hst
  case resetDenied => exact fun m q st x s u hsoft hcheck hst => ctrl_refused (v := .reset) hsoft hcheck hst
  case closeDenied => exact fun m q st x s u hsoft hcheck hst => ctrl_refused (v := .close) hsoft hcheck hst
  case openDenied => exact fun m q st x s u hsoft hcheck hst => ctrl_refused (v := .open') hsoft hcheck hst
  case drainStale => exact fun m q x s u hsoft hcheck hmismatch => ctrl_stale (v := .drain) hsoft hcheck hmismatch
  case abortStale => exact fun m q x s u hsoft hcheck hmismatch => ctrl_stale (v := .abort) hsoft hcheck hmismatch
  case enableStale => exact fun m q x s u hsoft hcheck hmismatch => ctrl_stale (v := .enable) hsoft hcheck hmismatch
  case resetStale => exact fun m q x s u hsoft hcheck hmismatch => ctrl_stale (v := .reset) hsoft hcheck hmismatch
  case closeStale => exact fun m q x s u hsoft hcheck hmismatch => ctrl_stale (v := .close) hsoft hcheck hmismatch
  case openStale => exact fun m q x s u hsoft hcheck hmismatch => ctrl_stale (v := .open') hsoft hcheck hmismatch
  case policy =>
    intro path w q s haccess hq hbridle hbound htime hwm hreserved
    refine congrArg Host.Outcome.next ((LinkControlProofs.writeObject_allowed haccess).trans ?_)
    rw [qpolicy_set hq hbridle hbound htime hwm hreserved]
  case policyBridle =>
    intro path w s haccess hbridle
    refine congrArg Host.Outcome.next ((LinkControlProofs.writeObject_allowed haccess).trans ?_)
    rw [qpolicy_bridle hbridle]
  case policyBad =>
    rintro path w q s haccess rfl hbridle hbad
    refine congrArg Host.Outcome.next ((LinkControlProofs.writeObject_allowed haccess).trans ?_)
    rw [qpolicy_bad hbridle hbad]
  case stale =>
    intro q start s htimer hon hcount hraised hdue
    exact staleTail_raises htimer hon hcount hraised hdue
  case quiet => exact fun q s h => staleTail_quiet h

end Sys2Proof.QueueControlProofs
end

section
/-!
PROOFS. Writes of dictionary objects (R11, R354 to R358) and the reading of one that a read clears.
-/
namespace Sys2Proof.DictionaryProofs
open Sys2Proof Sys2Proof.Machine

variable {s t : State} {path : Path} {index sub v : Nat} {data : List Byte} {facts : WriteFacts} {o : Obj} {st : Status}

/-! ### What stands at an index and sub-index (R354) -/

theorem readTarget_object (hfind : Reg.find index sub = some o) : readTarget index sub = some (some o) := by
  rw [readTarget, hfind]

/-! ### The checks before the value (R355, R356) -/

theorem writeObj_none (htarget : readTarget index sub = none) : s.writeObj path index sub data facts = (.badFormat, s) := by
  rw [State.writeObj, htarget]

theorem writeObj_denied (htarget : readTarget index sub ≠ none) (haccess : s.accessStatus path true index sub = st)
    (hst : st ≠ .ok) : s.writeObj path index sub data facts = (st, s) := by
  subst haccess
  rw [State.writeObj]
  split
  case h_1 hnone => exact absurd hnone htarget
  case h_2 =>
    split
    case h_1 hok => exact absurd hok hst
    case h_2 => rfl

section Allowed

variable (haccess : s.accessStatus path true index sub = .ok)
include haccess

/-- Sub-index 0 that only counts its record takes no write. -/
theorem writeObj_count (htarget : readTarget index sub = some none) (hindex : index ≠ 0x1003) :
    s.writeObj path index sub data facts = (.refused, s) := by
  simp only [State.writeObj, htarget, haccess, if_neg hindex]

theorem writeObj_history (htarget : readTarget index sub = some none) (hindex : index = 0x1003) :
    s.writeObj path index sub data facts =
      if data.length = 1 then s.clearHistory (leNat data) else (.badFormat, s) := by
  simp only [State.writeObj, htarget, haccess, if_pos hindex]

section Object

variable (hfind : Reg.find index sub = some o)
include hfind

theorem writeObj_readOnly (hacc : o.acc = .ro ∨ o.acc = .rc) : s.writeObj path index sub data facts = (.refused, s) := by
  simp only [State.writeObj, readTarget_object hfind, haccess, if_pos hacc]

variable (hro : o.acc ≠ .ro) (hrc : o.acc ≠ .rc)
include hro hrc

theorem writeObj_length (hlen : data.length ≠ o.ty.bytes) : s.writeObj path index sub data facts = (.badFormat, s) := by
  simp only [State.writeObj, readTarget_object hfind, haccess, hro, hrc, or_self, if_false, if_pos hlen]

theorem writeObj_value (hlen : data.length = o.ty.bytes) :
    s.writeObj path index sub data facts = s.writeValue path o (leNat data) facts := by
  simp only [State.writeObj, readTarget_object hfind, haccess, hro, hrc, or_self, if_false, hlen, ne_eq, not_true]

end Object
end Allowed

/-! ### The value (R357) -/

theorem writeValue_fabric {r : Status × State} (hfabric : s.fabricCommand o.index o.sub v facts = some r) :
    s.writeValue path o v facts = r := by
  rw [State.writeValue, hfabric]

section Value

variable (hfabric : s.fabricCommand o.index o.sub v facts = none)
include hfabric

theorem writeValue_device {r : Status × State} (hdevice : s.deviceCommand path o.index o.sub v facts = some r) :
    s.writeValue path o v facts = r := by
  rw [State.writeValue, hfabric]
  simp only [hdevice]

variable (hdevice : s.deviceCommand path o.index o.sub v facts = none)
include hdevice

theorem writeValue_refused (hplain : s.writePlain o v = (st, t)) (hst : st ≠ .ok) : s.writeValue path o v facts = (st, t) := by
  rw [State.writeValue, hfabric]
  simp only [hdevice, hplain, if_pos hst]

variable (hplain : s.writePlain o v = (.ok, t))
include hplain

theorem writeValue_volatile (hacc : o.acc ≠ .rwp) : s.writeValue path o v facts = (.ok, t.afterWrite o.index) := by
  rw [State.writeValue, hfabric]
  simp only [hdevice, hplain, ne_eq, not_true, if_false, if_neg hacc]

theorem writeValue_persisted (hacc : o.acc = .rwp) :
    s.writeValue path o v facts = (t.afterWrite o.index).persistCommit facts.store := by
  rw [State.writeValue, hfabric]
  simp only [hdevice, hplain, ne_eq, not_true, if_false, if_pos hacc]

end Value

/-! ### The value of an object that is no command (R11, R323) -/

section Plain

variable (hro : o.acc ≠ .ro) (hrc : o.acc ≠ .rc)
include hro hrc

/-- Of an object that takes writes, the access class plays no part in the checks of its value. -/
theorem writePlain_eq : s.writePlain o v =
    if !s.rangeOk o v ∨ noLanes o.index o.sub ∨ !s.mappingMay o.index o.sub v then (.badFormat, s)
    else if (lockedPort o.index o.sub).any fun p => s.reg (Reg.PORT_STATE p) != 0 then (.refused, s)
    else if o.index = 0x2410 ∧ o.sub = 0x10 then (.refused, s)
    else match s.shadowWrite o.index o.sub v with
      | some r => r
      | none => (.ok, s.applyPlain o v) := by
  rw [State.writePlain]
  split
  case h_1 h => exact absurd h hro
  case h_2 h => exact absurd h hrc
  case h_3 => rfl

theorem writePlain_bad (h : s.rangeOk o v = false ∨ noLanes o.index o.sub = true ∨ s.mappingMay o.index o.sub v = false) :
    s.writePlain o v = (.badFormat, s) := by
  rw [writePlain_eq hro hrc, if_pos (by simpa using h)]

variable (hrange : s.rangeOk o v = true) (hlanes : noLanes o.index o.sub = false)
  (hmapping : s.mappingMay o.index o.sub v = true)
include hrange hlanes hmapping

theorem writePlain_locked {p : Nat}
    (h : lockedPort o.index o.sub = some p ∧ s.reg (Reg.PORT_STATE p) ≠ 0 ∨ o.index = 0x2410 ∧ o.sub = 0x10) :
    s.writePlain o v = (.refused, s) := by
  rw [writePlain_eq hro hrc, if_neg (by simp [hrange, hlanes, hmapping])]
  split
  case isTrue => rfl
  case isFalse hopen =>
    rcases h with ⟨hport, harmed⟩ | hbank
    · exact absurd (by simpa [hport] using harmed) hopen
    · exact if_pos hbank

theorem writePlain_takes (hw1c : o.acc ≠ .w1c) (hopen : lockedPort o.index o.sub = none)
    (hbank : ¬ (o.index = 0x2410 ∧ o.sub = 0x10)) (hshadow : s.shadowWrite o.index o.sub v = none)
    (hgroup : o.index ≠ 0x3510) (hrelease : atReleaseObj o.index o.sub = false) :
    s.writePlain o v = (.ok, s.setReg o v) := by
  have happly : s.applyPlain o v = s.setReg o v := by
    simp only [State.applyPlain, if_neg hw1c, if_neg hgroup, hrelease, Bool.false_eq_true, if_false]
  rw [writePlain_eq hro hrc, if_neg (by simp [hrange, hlanes, hmapping]), hopen, Option.any_none, if_neg Bool.false_ne_true,
    if_neg hbank, hshadow, happly]

end Plain

/-! ### RC_READ (R11, R355) and what DICT_OBJECT_WRITE answers -/

/-- The objects that have a reading rule of their own are read-only. -/
theorem find_ruled_acc : ∀ x ∈ [(0x2220, 3), (0x2221, 3), (0x2222, 3), (0x2223, 3), (0x2010, 6)],
    (Reg.find x.1 x.2).map Obj.acc = some .ro := by
  decide +kernel

/-- The access class of an object that stands where a read-only one does. -/
theorem acc_ro_of_find (hruled : (Reg.find index sub).map Obj.acc = some .ro) (hfind : Reg.find index sub = some o) :
    o.acc = .ro := by
  rw [hfind] at hruled
  exact Option.some.inj hruled

section Read

variable (hfind : Reg.find index sub = some o) (hrc : o.acc = .rc)
include hfind hrc

theorem readPath_rc (haccess : s.accessStatus path false index sub = .ok) : s.readPath path index sub =
    (.ok, o.ty.encode (s.viewObj o),
      if 0x6140 ≤ o.index ∧ o.index ≤ 0x6145 ∧ o.sub = 0x17 then s.clearPeak (o.index - 0x6140) else s.setReg o 0) := by
  have hread : s.readObj o = (s.viewObj o,
      if 0x6140 ≤ o.index ∧ o.index ≤ 0x6145 ∧ o.sub = 0x17 then s.clearPeak (o.index - 0x6140) else s.setReg o 0) := by
    rw [State.readObj, hrc]
  have hreadable : o.acc ≠ .wo := by
    rw [hrc]
    decide
  simp only [State.readPath, readTarget_object hfind, haccess, if_neg hreadable, hread]

omit hrc in
theorem readPath_denied (haccess : s.accessStatus path false index sub = st) (hst : st ≠ .ok) :
    s.readPath path index sub = (st, [], s) := by
  subst haccess
  rw [State.readPath, readTarget_object hfind]
  dsimp only
  split
  case h_1 hok => exact absurd hok hst
  case h_2 => rfl

/-- An object that a read clears is none of those with a reading rule of their own. -/
theorem readAny_rc {inUse : Nat} : s.readAny path inUse index sub = s.readPath path index sub := by
  have hclears : (Reg.find index sub).map Obj.acc ≠ some .ro := fun hruled =>
    absurd (hrc.symm.trans (acc_ro_of_find hruled hfind)) (by decide)
  have hcap : ¬ (0x2220 ≤ index ∧ index ≤ 0x2223 ∧ sub = 3) := by
    rintro ⟨hlow, hhigh, rfl⟩
    obtain rfl | rfl | rfl | rfl : index = 0x2220 ∨ index = 0x2221 ∨ index = 0x2222 ∨ index = 0x2223 := by omega
    all_goals exact hclears (find_ruled_acc (_, 3) (by decide))
  have hinUse : ¬ (index = 0x2010 ∧ sub = 6) := by
    rintro ⟨rfl, rfl⟩
    exact hclears (find_ruled_acc (_, 6) (by decide))
  simp only [State.readAny, if_neg hcap, if_neg hinUse, ite_self]

end Read

section Rows

variable {i : BitVec 16} {j : BitVec 8}

theorem rcRead_object {r : Status × List Byte × State} (hfind : Reg.find i.toNat j.toNat = some o) (hrc : o.acc = .rc)
    (hread : s.readPath path i.toNat j.toNat = r) : exec (.rcRead path i j) s = .next (r.2.2.respond r.1 r.2.1) := by
  change execRcRead path i j s = _
  simp only [execRcRead, hfind, hrc, ne_eq, not_true, if_false, readAny_rc hfind hrc, hread]

theorem rcRead_none (hfind : Reg.find i.toNat j.toNat = none) : exec (.rcRead path i j) s = .next (s.respond .badFormat) := by
  change execRcRead path i j s = _
  rw [execRcRead, hfind]

theorem rcRead_other (hfind : Reg.find i.toNat j.toNat = some o) (hrc : o.acc ≠ .rc) :
    exec (.rcRead path i j) s = .next s := by
  change execRcRead path i j s = _
  simp only [execRcRead, hfind, if_pos hrc]

/-- DICT_OBJECT_WRITE answers what the write of the object gives. -/
theorem dictObjectWrite_answers {r : Status × State} (hwrite : s.writeObj path i.toNat j.toNat data facts = r) :
    exec (.dictObjectWrite path i j data facts) s = .next (r.2.respond r.1) := by
  subst hwrite
  rfl

end Rows

/-! ### The obligation -/

/-- The EMCY history is cleared by a 0 of one byte. -/
theorem clearHistory_answers : ((if data.length = 1 then s.clearHistory (leNat data) else (.badFormat, s)).2.respond
      (if data.length = 1 then s.clearHistory (leNat data) else (.badFormat, s)).1) =
    if data.length = 1 ∧ leNat data = 0 then
      ((List.range 8).foldl (fun x k => x.setReg (Reg.EMCY_HISTORY k) 0) s).respond .ok
    else s.respond .badFormat := by
  by_cases hlen : data.length = 1
  · by_cases hzero : leNat data = 0
    · simp only [hlen, hzero, State.clearHistory, ne_eq, not_true, if_false, and_self, if_true]
    · simp only [hlen, hzero, State.clearHistory, ne_eq, not_false_eq_true, and_false, if_true, if_false]
  · simp only [hlen, false_and, if_false]

/-- Settles O14: DICT_OBJECT_WRITE answers what the write of the object gives, case by case of its checks and of its value. -/
theorem dictionaryWrites : Obligations.DictionaryWrites := by
  unfold Obligations.DictionaryWrites
  refine ⟨?none, ?denied, ?count, ?history, ?readOnly, ?length, ?fabric, ?device, ?refused, ?volatile, ?persisted, ?bad,
    ?locked, ?takes, ?rc, ?rcDenied, ?rcNone, ?rcOther⟩
  case none => exact fun _ _ _ _ _ _ htarget => dictObjectWrite_answers (writeObj_none htarget)
  case denied =>
    exact fun _ _ _ _ _ _ _ htarget haccess hst => dictObjectWrite_answers (writeObj_denied htarget haccess hst)
  case count =>
    exact fun _ _ _ _ _ _ htarget haccess hindex => dictObjectWrite_answers (writeObj_count haccess htarget hindex)
  case history =>
    intro _ _ _ _ _ _ htarget haccess hindex
    rw [dictObjectWrite_answers (writeObj_history haccess htarget hindex), clearHistory_answers]
  case readOnly =>
    exact fun _ _ _ _ _ _ _ hfind haccess hacc => dictObjectWrite_answers (writeObj_readOnly haccess hfind hacc)
  case length =>
    exact fun _ _ _ _ _ _ _ hfind haccess hro hrc hlen =>
      dictObjectWrite_answers (writeObj_length haccess hfind hro hrc hlen)
  case fabric =>
    exact fun _ _ _ _ _ _ _ _ hfind haccess hro hrc hlen hfabric =>
      dictObjectWrite_answers ((writeObj_value haccess hfind hro hrc hlen).trans (writeValue_fabric hfabric))
  case device =>
    exact fun _ _ _ _ _ _ _ _ hfind haccess hro hrc hlen hfabric hdevice =>
      dictObjectWrite_answers ((writeObj_value haccess hfind hro hrc hlen).trans (writeValue_device hfabric hdevice))
  case refused =>
    exact fun _ _ _ _ _ _ _ _ _ hfind haccess hro hrc hlen hfabric hdevice hplain hst =>
      dictObjectWrite_answers
        ((writeObj_value haccess hfind hro hrc hlen).trans (writeValue_refused hfabric hdevice hplain hst))
  case volatile =>
    exact fun _ _ _ _ _ _ _ _ hfind haccess hro hrc hlen hfabric hdevice hplain hacc =>
      dictObjectWrite_answers
        ((writeObj_value haccess hfind hro hrc hlen).trans (writeValue_volatile hfabric hdevice hplain hacc))
  case persisted =>
    exact fun _ _ _ _ _ _ _ _ hfind haccess hro hrc hlen hfabric hdevice hplain hacc =>
      dictObjectWrite_answers
        ((writeObj_value haccess hfind hro hrc hlen).trans (writeValue_persisted hfabric hdevice hplain hacc))
  case bad => exact fun _ _ _ hro hrc hbad => writePlain_bad hro hrc hbad
  case locked =>
    exact fun _ _ _ _ hro hrc hrange hlanes hmapping hlocked => writePlain_locked hro hrc hrange hlanes hmapping hlocked
  case takes =>
    exact fun _ _ _ hro hrc hw1c hrange hlanes hmapping hopen hbank hshadow hgroup hrelease =>
      writePlain_takes hro hrc hrange hlanes hmapping hw1c hopen hbank hshadow hgroup hrelease
  case rc => exact fun _ _ _ _ _ hfind hrc haccess => rcRead_object hfind hrc (readPath_rc hfind hrc haccess)
  case rcDenied =>
    exact fun _ _ _ _ _ _ hfind hrc haccess hst => rcRead_object hfind hrc (readPath_denied hfind haccess hst)
  case rcNone => exact fun _ _ _ _ hfind => rcRead_none hfind
  case rcOther => exact fun _ _ _ _ _ hfind hrc => rcRead_other hfind hrc

end Sys2Proof.DictionaryProofs
end

section
/-!
PROOFS. CHECKPOINT, RESTORE and LOAD_SEGMENT on the device that executes them and on one that is told to (R210, R214 to R216), and the
loading and unloading of a harness (R232 to R235).
-/
namespace Sys2Proof.HarnessProofs
open Sys2Proof Sys2Proof.Machine

variable {s : State} {run : RunCmd} {cmd : Entry}

/-! ### A command that every device performs (R210) -/

section Perform

variable {op : Opcode} {f : Entry → State → Performed} {others : Status}

/-- The device of the command executes it, at a boundary between steps. -/
theorem perform_own (hrun : s.runningOp 0 op = some run) (hbetween : s.betweenSteps = true) :
    s.perform op f (.own others) =
      .next ((f run.cmd s).state.fabricDone (others.worse (f run.cmd s).status) (f run.cmd s).result 0) := by
  simp only [State.perform, hrun, hbetween, Bool.not_true, Bool.false_eq_true, if_false]

theorem perform_own_waits (hrun : s.runningOp 0 op = some run) (hbetween : s.betweenSteps = false) :
    s.perform op f (.own others) = .next s := by
  simp only [State.perform, hrun, hbetween, Bool.not_false, if_true]

theorem perform_told_waits (h : s.reg Reg.DEV_NUM = 0 ∨ s.betweenSteps = false) : s.perform op f (.told cmd) = .next s :=
  if_pos (h.imp_right fun hbetween => by rw [hbetween]; rfl)

section Told

variable (hdevice : s.reg Reg.DEV_NUM ≠ 0) (hbetween : s.betweenSteps = true)
include hdevice hbetween

/-- Another device, told, performs it likewise and answers with its status. -/
theorem perform_told (hloaded : s.harnessLoaded = true) :
    s.perform op f (.told cmd) = .next ((f cmd s).state.emit (.ctrl 0 "PERFORMED" (f cmd s).status.code)) := by
  simp only [State.perform, hdevice, hbetween, hloaded, Bool.not_true, Bool.false_eq_true, or_self, if_false]

theorem perform_told_unloaded (hloaded : s.harnessLoaded = false) :
    s.perform op f (.told cmd) = .next (s.emit (.ctrl 0 "PERFORMED" Status.refused.code)) := by
  simp only [State.perform, hdevice, hbetween, hloaded, Bool.not_true, Bool.not_false, Bool.false_eq_true, or_self, if_false,
    if_true]

end Told
end Perform

theorem exec_checkpoint (p : Performer) : exec (.checkpoint p) s = s.perform .checkpoint State.writeCheckpoint p := rfl

theorem exec_restore (p : Performer) : exec (.restore p) s = s.perform .restore State.readCheckpoint p := rfl

theorem exec_loadSegment (p : Performer) : exec (.loadSegment p) s = s.perform .loadSegment State.rewriteSegment p := rfl

/-! ### What each of the three performs (R214 to R216) -/

theorem writeCheckpoint_fits (hfits : s.checkpointBytes.length ≤ 4096 * entryField cmd 16 4) : s.writeCheckpoint cmd =
    { status := .ok, result := ceilDiv s.checkpointBytes.length 4096,
      state := s.setBytes (entryField cmd 8 8) s.checkpointBytes } :=
  if_neg (Nat.not_lt.mpr hfits)

theorem writeCheckpoint_full (hfull : 4096 * entryField cmd 16 4 < s.checkpointBytes.length) : s.writeCheckpoint cmd =
    { status := .full, result := 0, state := s.setBytes (entryField cmd 8 8) (List.replicate 128 0) } :=
  if_pos hfull

/-- The state with a checkpoint written back: its sections with their stamps moved, the open epoch empty, no far row valid. -/
def restored (s : State) (src : Nat) : State :=
  ((s.restoreAll src ((s.reg Reg.STEP_COMPLETE : Int) - s.word (src + 8) 8)).modLearning fun l =>
    { l with engines := l.engines.map fun x => (x.1, x.2.emptied) }).invalidateFar 0xFFFF

theorem readCheckpoint_verified (hgood : s.checkpointFails (entryField cmd 8 8) = none) : s.readCheckpoint cmd =
    { status := .ok, result := s.word (entryField cmd 8 8 + 8) 8 % 2 ^ 32, state := restored s (entryField cmd 8 8) } := by
  simp only [State.readCheckpoint, hgood]
  rfl

theorem readCheckpoint_fails {st : Status} (hbad : s.checkpointFails (entryField cmd 8 8) = some st) :
    s.readCheckpoint cmd = { status := st, result := 0, state := s } := by
  simp only [State.readCheckpoint, hbad]

/-- The state with the sections of a segment placed anew from the image copy. -/
def segmentPlaced (s : State) (seg : Nat) : State :=
  ((s.placeSections s.harness.img (s.reg Reg.STEP_COMPLETE) (s.copySections seg)).setReg Reg.SEGMENT seg).invalidateFar
    0xFFFF

theorem rewriteSegment_places (hseg : entryField cmd 8 1 ≠ 0) (hsections : s.copySections (entryField cmd 8 1) ≠ []) :
    s.rewriteSegment cmd =
      { status := .ok,
        result := ceilDiv ((s.copySections (entryField cmd 8 1)).foldl (fun a x => a + placedBytes x) 0) 4096,
        state := segmentPlaced s (entryField cmd 8 1) } :=
  if_neg (not_or.mpr ⟨hseg, hsections⟩)

theorem rewriteSegment_bad (h : entryField cmd 8 1 = 0 ∨ s.copySections (entryField cmd 8 1) = []) :
    s.rewriteSegment cmd = { status := .badFormat, result := 0, state := s } :=
  if_pos h

/-! ### HARNESS_LOAD (R232, R233) -/

section Load

variable (hrun : s.runningOp 0 .harnessLoad = some run)
include hrun

theorem harnessLoad_barred {st : Status} (hbar : s.loadBar = some st) : exec .harnessLoad s = .next
    (((s.loadFailed { status := st, rule := 233, at' := { check := 1 } }).setReg Reg.LOAD_MS
      ((s.now - run.started) / 1000000)).conclude 0 st 0 ((s.now - run.started) / 1000000) 0) := by
  change execHarnessLoad s = _
  simp only [execHarnessLoad, hrun, hbar]

variable (hbar : s.loadBar = none)
include hbar

theorem harnessLoad_waits (hswap : s.update.swapFrom ≠ none) : exec .harnessLoad s = .next s := by
  change execHarnessLoad s = _
  simp only [execHarnessLoad, hrun, hbar, if_pos (Option.isSome_iff_ne_none.mpr hswap)]

/-- The state that a load ends in, by what the opened envelope and then its image give. -/
def loaded (s : State) (run : RunCmd) : State :=
  let o := s.openEnvelope (entryField run.cmd 8 8) (4096 * entryField run.cmd 16 4) s.harnessMode
  let u := o.2.setReg Reg.HARNESS_MEAS o.1.meas
  let ms := (s.now - run.started) / 1000000
  if o.1.status ≠ .ok then
    ((o.2.loadFailed { status := o.1.status, rule := 433, at' := { check := o.1.check, ref := o.1.chunk } }).setReg
      Reg.LOAD_MS ms).conclude 0 o.1.status 0 ms 0
  else match u.checkImage (entryField run.cmd 8 8) (u.readImage (entryField run.cmd 8 8)) with
    | .inl x => ((u.loadFailed x).setReg Reg.LOAD_MS ms).conclude 0 x.status 0 ms 0
    | .inr t =>
      let t1 := t.startHarness o.1.meas (natBit (entryField run.cmd 20 1) 0)
      let st : Status := if t1.fencedUsed then .degraded else .ok
      ((t1.setReg Reg.LOAD_STATUS st.code).setReg Reg.LOAD_MS ms).conclude 0 st 0 ms 0

theorem harnessLoad_opens (hswap : s.update.swapFrom = none) : exec .harnessLoad s = .next (loaded s run) := by
  change execHarnessLoad s = _
  simp only [execHarnessLoad, hrun, hbar, hswap, Option.isSome_none, Bool.false_eq_true, if_false]
  rw [loaded]
  split
  case isTrue => rfl
  case isFalse =>
    dsimp only
    generalize State.checkImage _ _ _ = checked
    cases checked <;> rfl

end Load

/-! ### HARNESS_UNLOAD (R234, R235) -/

section Unload

variable (hrun : s.runningOp 0 .harnessUnload = some run)
include hrun

section Begins

variable (hfirst : s.harness.unloading = false)
include hfirst

/-- Whether the device still works for its harness: a run, a step, an epoch that ends, or a held release. -/
def unloadBusy (s : State) : Bool :=
  s.fabric.runs != [] || !s.noStep || s.learning.ending.isSome || s.fabric.hold != []

/-- The state in which an unload has begun. -/
def unloadBegun (s : State) : State :=
  { s.setReg Reg.HARNESS_STATE 3 with harness := { s.harness with unloading := true } }

omit hrun hfirst in
theorem unloadBusy_iff : unloadBusy s = true ↔
    s.fabric.runs ≠ [] ∨ s.noStep = false ∨ s.learning.ending ≠ none ∨ s.fabric.hold ≠ [] := by
  simp only [unloadBusy, Bool.or_eq_true, bne_iff_ne, Bool.not_eq_true', Option.isSome_iff_ne_none, or_assoc]

theorem harnessUnload_first : exec .harnessUnload s =
    if unloadBusy s && !natBit (entryField run.cmd 8 1) 0 then .next (s.conclude 0 .refused 0 0 0)
    else .next (if natBit (entryField run.cmd 8 1) 0 then (unloadBegun s).abortHarness.endRuns else unloadBegun s) := by
  change execHarnessUnload s = _
  simp only [execHarnessUnload, hrun, hfirst, Bool.false_eq_true, if_false]
  rfl

theorem harnessUnload_refused
    (hbusy : s.fabric.runs ≠ [] ∨ s.noStep = false ∨ s.learning.ending ≠ none ∨ s.fabric.hold ≠ [])
    (hforce : natBit (entryField run.cmd 8 1) 0 = false) : exec .harnessUnload s = .next (s.conclude 0 .refused 0 0 0) := by
  rw [harnessUnload_first hrun hfirst, unloadBusy_iff.mpr hbusy, hforce]
  rfl

theorem harnessUnload_begins (hruns : s.fabric.runs = []) (hstep : s.noStep = true) (hepoch : s.learning.ending = none)
    (hhold : s.fabric.hold = []) (hforce : natBit (entryField run.cmd 8 1) 0 = false) :
    exec .harnessUnload s = .next (unloadBegun s) := by
  have hidle : unloadBusy s = false := by
    rw [unloadBusy, hruns, hstep, hepoch, hhold]
    rfl
  rw [harnessUnload_first hrun hfirst, hidle, hforce]
  rfl

theorem harnessUnload_forced (hforce : natBit (entryField run.cmd 8 1) 0 = true) :
    exec .harnessUnload s = .next (unloadBegun s).abortHarness.endRuns := by
  rw [harnessUnload_first hrun hfirst, hforce, Bool.not_true, Bool.and_false]
  rfl

end Begins

section Ends

variable (hbegun : s.harness.unloading = true)
include hbegun

theorem harnessUnload_waits (hquiet : s.unloadQuiet = false) : exec .harnessUnload s = .next s := by
  change execHarnessUnload s = _
  simp only [execHarnessUnload, hrun, hbegun, hquiet, Bool.false_eq_true, if_false, if_true]

theorem harnessUnload_quiet (hquiet : s.unloadQuiet = true) : exec .harnessUnload s = .next s.unloadNow := by
  change execHarnessUnload s = _
  simp only [execHarnessUnload, hrun, hbegun, hquiet, if_true]

end Ends
end Unload

theorem unloadNow_stops
    (hleft : (s.unloadStop.harnessQueues.all fun q => q.2.kind != .command || q.2.qstate == .disabled) = false) :
    s.unloadNow = s.unloadStop := by
  simp only [State.unloadNow, hleft, Bool.false_eq_true, if_false]

theorem unloadNow_ends
    (hnone : (s.unloadStop.harnessQueues.all fun q => q.2.kind != .command || q.2.qstate == .disabled) = true) :
    s.unloadNow = s.unloadStop.unloadEnd := by
  simp only [State.unloadNow, hnone, if_true]

/-! ### The obligation -/

/-- Settles O4: the three performed commands by what each performs, and HARNESS_LOAD and HARNESS_UNLOAD phase by phase. -/
theorem harnessAndCheckpointCommands : Obligations.HarnessAndCheckpointCommands := by
  unfold Obligations.HarnessAndCheckpointCommands
  refine ⟨?ckFits, ?ckFull, ?ckTold, ?ckToldFull, ?restores, ?restoreFails, ?restoreTold, ?restoreToldFails, ?segment,
    ?segmentBad, ?segmentTold, ?segmentToldBad, ?ckUnloaded, ?restoreUnloaded, ?segmentUnloaded, ?ckWaits, ?restoreWaits,
    ?segmentWaits, ?ckToldWaits, ?restoreToldWaits, ?segmentToldWaits, ?loadWaits, ?loadBarred, ?loads, ?unloadRefused,
    ?unloadBegins, ?unloadForced, ?unloadWaits, ?unloadStops, ?unloadEnds⟩
  case ckFits =>
    intro others run s hrun hbetween hfits
    rw [exec_checkpoint, perform_own hrun hbetween, writeCheckpoint_fits hfits]
  case ckFull =>
    intro others run s hrun hbetween hfull
    rw [exec_checkpoint, perform_own hrun hbetween, writeCheckpoint_full hfull]
  case ckTold =>
    intro cmd s hdevice hbetween hloaded hfits
    rw [exec_checkpoint, perform_told hdevice hbetween hloaded, writeCheckpoint_fits hfits]
  case ckToldFull =>
    intro cmd s hdevice hbetween hloaded hfull
    rw [exec_checkpoint, perform_told hdevice hbetween hloaded, writeCheckpoint_full hfull]
  case restores =>
    intro others run s hrun hbetween hgood
    rw [exec_restore, perform_own hrun hbetween, readCheckpoint_verified hgood, restored]
  case restoreFails =>
    intro others st run s hrun hbetween hbad
    rw [exec_restore, perform_own hrun hbetween, readCheckpoint_fails hbad]
  case restoreTold =>
    intro cmd s hdevice hbetween hloaded hgood
    rw [exec_restore, perform_told hdevice hbetween hloaded, readCheckpoint_verified hgood, restored]
  case restoreToldFails =>
    intro cmd st s hdevice hbetween hloaded hbad
    rw [exec_restore, perform_told hdevice hbetween hloaded, readCheckpoint_fails hbad]
  case segment =>
    intro others run s hrun hbetween hseg hsections
    rw [exec_loadSegment, perform_own hrun hbetween, rewriteSegment_places hseg hsections, segmentPlaced]
  case segmentBad =>
    intro others run s hrun hbetween hbad
    rw [exec_loadSegment, perform_own hrun hbetween, rewriteSegment_bad hbad]
  case segmentTold =>
    intro cmd s hdevice hbetween hloaded hseg hsections
    rw [exec_loadSegment, perform_told hdevice hbetween hloaded, rewriteSegment_places hseg hsections, segmentPlaced]
  case segmentToldBad =>
    intro cmd s hdevice hbetween hloaded hbad
    rw [exec_loadSegment, perform_told hdevice hbetween hloaded, rewriteSegment_bad hbad]
  case ckUnloaded =>
    exact fun _ _ hdevice hbetween hloaded => perform_told_unloaded (op := .checkpoint) hdevice hbetween hloaded
  case restoreUnloaded =>
    exact fun _ _ hdevice hbetween hloaded => perform_told_unloaded (op := .restore) hdevice hbetween hloaded
  case segmentUnloaded =>
    exact fun _ _ hdevice hbetween hloaded => perform_told_unloaded (op := .loadSegment) hdevice hbetween hloaded
  case ckWaits => exact fun _ _ _ hrun hbetween => perform_own_waits hrun hbetween
  case restoreWaits => exact fun _ _ _ hrun hbetween => perform_own_waits hrun hbetween
  case segmentWaits => exact fun _ _ _ hrun hbetween => perform_own_waits hrun hbetween
  case ckToldWaits => exact fun _ _ h => perform_told_waits (op := .checkpoint) h
  case restoreToldWaits => exact fun _ _ h => perform_told_waits (op := .restore) h
  case segmentToldWaits => exact fun _ _ h => perform_told_waits (op := .loadSegment) h
  case loadWaits => exact fun _ _ hrun hbar hswap => harnessLoad_waits hrun hbar hswap
  case loadBarred => exact fun _ _ _ hrun hbar => harnessLoad_barred hrun hbar
  case loads => exact fun _ _ hrun hbar hswap => harnessLoad_opens hrun hbar hswap
  case unloadRefused => exact fun _ _ hrun hfirst hbusy hforce => harnessUnload_refused hrun hfirst hbusy hforce
  case unloadBegins =>
    exact fun _ _ hrun hfirst hruns hstep hepoch hhold hforce =>
      harnessUnload_begins hrun hfirst hruns hstep hepoch hhold hforce
  case unloadForced => exact fun _ _ hrun hfirst hforce => harnessUnload_forced hrun hfirst hforce
  case unloadWaits => exact fun _ _ hrun hbegun hquiet => harnessUnload_waits hrun hbegun hquiet
  case unloadStops =>
    exact fun _ _ hrun hbegun hquiet hleft =>
      (harnessUnload_quiet hrun hbegun hquiet).trans (congrArg _ (unloadNow_stops hleft))
  case unloadEnds =>
    exact fun _ _ hrun hbegun hquiet hnone =>
      (harnessUnload_quiet hrun hbegun hquiet).trans (congrArg _ (unloadNow_ends hnone))

end Sys2Proof.HarnessProofs
end
